-- ==== Sys2Proof/Word.lean ====
section
/-! DEFINITION. The word and byte of the device (R5, R8): a register and every bus word is 32 bits,
a memory cell is one byte. Bit fields, sign extension and byte order stand in Machine/Bits.lean. -/

namespace Sys2Proof

/-- A 32-bit word. -/
abbrev Word := BitVec 32

/-- One byte. -/
abbrev Byte := BitVec 8

end Sys2Proof
end

