-- ==== Sys2Proof/Syntax.lean ====
section
/-! DEFINITION. The commands: one constructor for each row of the opcode table, with the operands
its rule gives it. A command that states that a time has passed or that a measured value has been
reached carries the measured value; the sender measures it (assumption 3). -/

namespace Sys2Proof

/-- Who sends an access on the bus (R6, R93, R420): a policy hart P0 to P3, a safety hart S0 or S1,
the host through its port, or a hardware block that writes registers. -/
inductive Initiator where
  | hart (n : Nat) | host | ring | bootRom | s0 | s1
  deriving DecidableEq, Repr, Inhabited

/-- A Trelind hart: P0 to P3 run programs, S0 and S1 serve the shroud and the system (R59). The
commands of the scalar set are sent by P0 to P3. -/
abbrev Hart := Fin 4

/-- A scalar register number, g0 to g31 (R61). -/
abbrev RegNum := BitVec 5

/-- A lane vector register number, v0 to v15 (R110). -/
abbrev LaneReg := BitVec 4

/-- A lane accumulator number (R110). -/
abbrev AccReg := BitVec 2

/-- The boot tracks of R53. -/
inductive Track where
  | main | shroud | analog
  deriving DecidableEq, Repr, Inhabited

/-- A contactor pole of a port (R417). -/
inductive Pole where
  | pos | neg
  deriving DecidableEq, Repr, Inhabited

/-- What the pilot line of a front-end reads (R274, R275): the high and low level of a CCS pilot in
millivolts, or the state code of an MCS circuit, 0 A to 5 F, 6 invalid. -/
inductive PilotReading where
  | ccs (hi lo : Int) | mcs (code : Nat)
  deriving DecidableEq, Repr, Inhabited

/-- The matching messages of the pilot's power-line communication of one RunID (R277, R278). -/
inductive SlacMsg where
  | parmReq (run : Nat) | atten (run meanDb : Nat) | matchReq (run : Nat)
  deriving DecidableEq, Repr, Inhabited

/-- A V2GTP frame of the session's connection (R279, R285): protocol version byte and its inverse, declared
length, payload as the record layer gives it, whether the TLS record verified, and whether the payload is a
request of the loop responder. -/
structure V2gFrame where
  version : Nat
  inverse : Nat
  length : Nat
  payload : List Byte
  recordOk : Bool
  loop : Bool
  deriving DecidableEq, Repr, Inhabited

/-- One protocol offer of a vehicle: which protocol (1 DIN SPEC 70121, 2 ISO 15118-2,
3 ISO 15118-20), its version and its priority (R280). -/
structure AppOffer where
  proto : Nat
  major : Nat
  minor : Nat
  schemaId : Nat
  priority : Nat
  deriving DecidableEq, Repr, Inhabited

/-- What a PowerDelivery request asks for (R284). -/
inductive PowerDelivery where
  | start | stop | standby
  deriving DecidableEq, Repr, Inhabited

/-- A frame that a standby front-end observes on its vehicle segment (R293). -/
inductive ObservedFrame where
  | request (ctx seq : Nat) | response (ctx seq : Nat) | other
  deriving DecidableEq, Repr, Inhabited

/-- A heartbeat of a ring neighbour (R469): its identifier, state code, epoch and count; whether it serves a
guest, reports LPE_STAT.TOVER, its shadow age (R478), the generation it runs, its offer and its image's MINGEN
(R462, R463). -/
structure HeartbeatFrame where
  modid : Nat
  state : Nat
  epoch : Nat
  count : Nat
  guest : Bool := false
  tover : Bool := false
  age : Nat := 0
  gen : Nat := 1
  offer : Nat := 1
  minGen : Nat := 1
  deriving DecidableEq, Repr, Inhabited

/-- A view frame (R460, R461). -/
structure ViewFrame where
  origin : Nat
  epoch : Nat
  seqEff : Nat
  members : List Nat
  gen : Nat
  splid : Nat
  deriving DecidableEq, Repr, Inhabited

/-- The last committed fold record as it is shadowed (R467): instant, ISEQ, calendar label, and by meter the
totals E0 and E1 and the closing current and voltage. -/
structure ShadowFold where
  instant : Nat
  iseq : Nat
  label : Nat
  meters : List (Nat × Nat × Nat × Nat)
  deriving DecidableEq, Repr, Inhabited

/-- A shadow frame (R467, R468): words of the protected module by their bus address there; rate, format and
DMAX of its lanes; observers of its thermal ports, µ°C; its node records; its fold record; and whether the
frame ends the period, with the period's word count. -/
structure ShadowFrame where
  words : List (Nat × Word)
  lanes : List (Nat × Nat × Nat × Nat)
  observers : List (Nat × Int × Int)
  nodes : List (Nat × Nat × Nat)
  fold : Option ShadowFold
  last : Bool
  count : Nat
  tagOk : Bool
  deriving DecidableEq, Repr, Inhabited

/-- A session delta (R292): own port of the sender, number, state, words of the context record by their bus
address there, the membership key, last request and response, the traffic secrets and the record counters. -/
structure DeltaFrame where
  port : Nat
  seq : Nat
  state : Nat
  words : List (Nat × Word)
  netKey : Nat
  request : List Byte
  response : List Byte
  secrets : Option (List Byte × List Byte)
  rxCount : Nat
  txCount : Nat
  tagOk : Bool
  deriving DecidableEq, Repr, Inhabited

/-- A frame of a splice or return handshake (R476, R479); words by their bus address on the home module. -/
inductive SpliceFrame where
  | returnRequest
  | guestState (words : List (Nat × Word))
  | returnAt (seq : Nat)
  | portMoved (port : Nat)
  deriving DecidableEq, Repr, Inhabited

/-- A CAN frame as it arrives (R553). -/
structure CanFrame where
  fdf : Bool
  rtr : Bool
  ide : Bool
  brs : Bool
  esi : Bool
  id : Nat
  dlc : Nat
  data : List Byte
  deriving DecidableEq, Repr, Inhabited

/-- How an attempt to send the head frame ends (R549, R554). -/
inductive CanTxResult where
  | sent | lostArbitration | error (lec : Nat)
  deriving DecidableEq, Repr, Inhabited

/-- A received Deckline segment (R570). -/
structure DklSegment where
  dst : Nat
  phase : Nat
  slot : Nat
  frame : Nat
  units : List (Nat × List Byte)
  crcOk : Bool
  robust : Bool
  deriving DecidableEq, Repr, Inhabited

/-- A complete Deckline data frame (R569). -/
structure DklDataFrame where
  src : Nat
  dst : Nat
  frame : Nat
  payload : List Byte
  deriving DecidableEq, Repr, Inhabited

/-- One command of the block (spec/opcode_table.json, in its order). -/
inductive Instr where
  /-- R9: A write to any register field that has no row of its own sets, clears or ignores bits according to its access code. -/
  | registerWrite (ini : Initiator) (addr : Nat) (v : Word)
  /-- R13: Reading the low word of a 64-bit quantity returns it and loads the initiator's read latch with the high word. -/
  | readLowWord (ini : Initiator) (addr : Nat)
  /-- R13: Reading a high word returns the latched value and empties the latch, or returns the live high word when nothing is latched. -/
  | readHighWord (ini : Initiator) (addr : Nat)
  /-- R13: Writing a low word places it in the initiator's write holding register without changing the register. -/
  | writeLowWord (ini : Initiator) (addr : Nat) (v : Word)
  /-- R13: Writing a high word writes both words in one clock when a low word is held, or the high word alone otherwise. -/
  | writeHighWord (ini : Initiator) (addr : Nat) (v : Word)
  /-- R28: The backup oscillator counts 10 periods without a reference edge; REFLOST is set, event 2 is raised and a warm reset with cause REFLOSS is asserted. -/
  | referenceLost
  /-- R27: The root PLL reports loss of lock for more than 1 us, and a warm reset with cause PLLLOCK follows. -/
  | pllLockLost
  /-- R28: The reference has been present and the PLL locked for 10 ms without interruption, so the held boot proceeds. -/
  | referenceQualified
  /-- R29: At the end of each 20 us window the shroud compares the 50 MHz clock with its own oscillator and classifies the window as passing or failing. -/
  | clockCheckWindow (metrologyEdges shroudEdges : Nat)
  /-- R30: VIN stays below V_WARN for 20 us, declaring the early warning. -/
  | vinBelowWarn (mv : Nat)
  /-- R30: VIN stays above the V_WARN rising threshold for 20 us and ABOVE_WARN returns to 1. -/
  | vinAboveWarn (mv : Nat)
  /-- R30: VIN stays below V_HOLD for 20 us; ABOVE_HOLD falls and no new non-volatile write starts. -/
  | vinBelowHold (mv : Nat)
  /-- R30: VIN stays above V_HOLD for 20 us; ABOVE_HOLD returns to 1 and non-volatile writes may start again. -/
  | vinAboveHold (mv : Nat)
  /-- R44: VIN falls below V_BOR for 20 us; the device takes a cold reset unless HP carries it into Stow, or enters Furl when armed in Stow. -/
  | vinBrownOut (mv : Nat)
  /-- R30: VIN has stayed above V_START for 5 ms, starting a power-on cold boot or waking the device from Stow on HP. -/
  | vinAboveStart (mv bootsel hsel : Nat)
  /-- R33: PFW_N stays low for 2 us while UPS_EN is 1, declaring the early warning. -/
  | pfwAsserted
  /-- R33: PFW_N stays high for 2 us and the filtered PFW level is released. -/
  | pfwReleased
  /-- R34: A step of the save sequence completes its action and the next step starts, up to step 8. -/
  | saveStepComplete
  /-- R37: In the save-end state, VIN has stayed above 17.5 V for 10 ms (and, after a thermal save, the die is below 105 C), so the device takes a warm reset with cause SAVE. -/
  | saveEndRelease
  /-- R38: Writing REQ = 0 requests the Run state. -/
  | requestRun
  /-- R39: Writing REQ = 1 requests Luff, which is refused while any cell is enabled or any port is not idle. -/
  | requestLuff
  /-- R39: Writing REQ = 2 requests Slack, with the additional contactor, ring and stepped-operation checks. -/
  | requestSlack
  /-- R39: Writing REQ = 3 requests Stow, with the same checks as Slack. -/
  | requestStow
  /-- R41: A power-state entry reaches its commit point, after which wakes are recorded as pending. -/
  | commitPoint
  /-- R41: A power-state transition completes, event 0 is raised, and a pending wake starts the exit at once. -/
  | powerTransitionComplete
  /-- R40: Writing FURL_ARM with key 0xF0 arms Furl. -/
  | furlArm
  /-- R40: Writing FURL_ARM with 0x00 disarms Furl. -/
  | furlDisarm
  /-- R42: The WAKE_N land asserts after its 10 us filter and, when enabled, wakes the device. -/
  | wakeNAsserted
  /-- R42: In Slack a port meter's start-current detector sees at least 1 A and wakes the device. -/
  | startCurrentDetected (port : Nat) (mA : Int)
  /-- R43: After leaving Stow, the resume handler is copied from MRAM, hash-checked and P0 starts in it. -/
  | stowHandlerStart
  /-- R43: The running slot has been fetched, verified and placed after leaving Stow; IMGRDY is set and P1 to P3 may run. -/
  | stowImageReady
  /-- R43: After leaving Stow the shroud has self-tested and loaded its safety image; SFYRDY is set. -/
  | stowShroudReady
  /-- R43: After leaving Stow the analog die is calibrated, accumulators folded and GAP records written; ANARDY is set. -/
  | stowAnalogReady
  /-- R44: RST_N has stayed low for 1 us, and a warm reset with cause PINWARM is asserted. -/
  | pinWarmReset
  /-- R44: RST_N is still low 10 ms after its falling edge, turning the reset into a cold reset with cause PINCOLD. -/
  | pinColdReset
  /-- R44: The rising edge of RST_N starts the boot that follows the pin reset. -/
  | rstNRelease (bootsel hsel : Nat)
  /-- R44: Writing WARM with the key to SYS_RSTCTL asserts a warm reset with cause SWWARM. -/
  | softwareWarmReset
  /-- R45: Writing COLD with the key to SYS_RSTCTL starts a cold reset that first applies the shroud's contactor rule. -/
  | softwareColdReset
  /-- R45: A requested software cold reset asserts once every port's current is below 5 A or 2 ms have passed. -/
  | coldResetAssert (elapsed2ms : Bool) (bootsel hsel : Nat)
  /-- R46: Setting SYS_WDTCTL.EN starts the watchdog permanently until the next cold reset. -/
  | watchdogEnable (timeout : Nat)
  /-- R46: Writing 0x5A to SYS_WDTKICK.KEY restarts the watchdog count. -/
  | watchdogKick
  /-- R46: Writing any other value to the key while EN is 1 expires the watchdog at once. -/
  | watchdogBadKey (key : Byte)
  /-- R46: Half the timeout passes without a restart and event 5 is raised. -/
  | watchdogHalf
  /-- R46: The watchdog reaches zero and asserts a warm reset with cause WDT. -/
  | watchdogExpiry
  /-- R53: A step of a boot track completes and the next step of that track starts. -/
  | bootStepEnd (track : Track)
  /-- R313: A boot main track paused at its MRAM step resumes when the junction gate NVOK becomes 1. -/
  | bootNvokResume
  /-- R53: All three boot tracks have ended; accumulators are folded, interruption records written and P0 is released. -/
  | bootJoin
  /-- R50: Writing SYS_BOOTCFG.CONFIRM confirms the running trial slot. -/
  | confirmSlot
  /-- R67: Adds two registers modulo 2^32. -/
  | add (h : Hart) (rd rs1 rs2 : RegNum)
  /-- R67: Subtracts two registers modulo 2^32. -/
  | sub (h : Hart) (rd rs1 rs2 : RegNum)
  /-- R67: Bitwise AND of two registers. -/
  | and (h : Hart) (rd rs1 rs2 : RegNum)
  /-- R67: Bitwise OR of two registers. -/
  | or (h : Hart) (rd rs1 rs2 : RegNum)
  /-- R67: Bitwise XOR of two registers. -/
  | xor (h : Hart) (rd rs1 rs2 : RegNum)
  /-- R67: Shifts a register left by rs2[4:0]. -/
  | sll (h : Hart) (rd rs1 rs2 : RegNum)
  /-- R67: Shifts a register right logically by rs2[4:0]. -/
  | srl (h : Hart) (rd rs1 rs2 : RegNum)
  /-- R67: Shifts a register right arithmetically by rs2[4:0]. -/
  | sra (h : Hart) (rd rs1 rs2 : RegNum)
  /-- R67: Sets rd to 1 when rs1 is below rs2 signed. -/
  | slt (h : Hart) (rd rs1 rs2 : RegNum)
  /-- R67: Sets rd to 1 when rs1 is below rs2 unsigned. -/
  | sltu (h : Hart) (rd rs1 rs2 : RegNum)
  /-- R67: Signed minimum of two registers. -/
  | min (h : Hart) (rd rs1 rs2 : RegNum)
  /-- R67: Signed maximum of two registers. -/
  | max (h : Hart) (rd rs1 rs2 : RegNum)
  /-- R67: Unsigned minimum of two registers. -/
  | minu (h : Hart) (rd rs1 rs2 : RegNum)
  /-- R67: Unsigned maximum of two registers. -/
  | maxu (h : Hart) (rd rs1 rs2 : RegNum)
  /-- R67: Signed sum clamped to the 32-bit range. -/
  | adds (h : Hart) (rd rs1 rs2 : RegNum)
  /-- R67: Signed difference clamped to the 32-bit range. -/
  | subs (h : Hart) (rd rs1 rs2 : RegNum)
  /-- R67: Low word of the product of two registers. -/
  | mul (h : Hart) (rd rs1 rs2 : RegNum)
  /-- R67: High word of the signed 64-bit product. -/
  | mulh (h : Hart) (rd rs1 rs2 : RegNum)
  /-- R67: High word of the unsigned 64-bit product. -/
  | mulhu (h : Hart) (rd rs1 rs2 : RegNum)
  /-- R70: Signed quotient rounded toward zero, with defined results for division by zero and overflow. -/
  | div (h : Hart) (rd rs1 rs2 : RegNum)
  /-- R70: Unsigned quotient, giving 0xFFFF_FFFF on division by zero. -/
  | divu (h : Hart) (rd rs1 rs2 : RegNum)
  /-- R70: Signed remainder with the sign of the dividend. -/
  | rem (h : Hart) (rd rs1 rs2 : RegNum)
  /-- R70: Unsigned remainder, equal to the dividend on division by zero. -/
  | remu (h : Hart) (rd rs1 rs2 : RegNum)
  /-- R67: Counts the leading zero bits of a register. -/
  | clz (h : Hart) (rd rs1 : RegNum)
  /-- R67: Counts the one bits of a register. -/
  | popc (h : Hart) (rd rs1 : RegNum)
  /-- R68: Adds two register pairs modulo 2^64. -/
  | addd (h : Hart) (rd rs1 rs2 : RegNum)
  /-- R68: Subtracts two register pairs modulo 2^64. -/
  | subd (h : Hart) (rd rs1 rs2 : RegNum)
  /-- R68: Shifts a pair left by rs2[5:0]. -/
  | slld (h : Hart) (rd rs1 rs2 : RegNum)
  /-- R68: Shifts a pair right logically by rs2[5:0]. -/
  | srld (h : Hart) (rd rs1 rs2 : RegNum)
  /-- R68: Shifts a pair right arithmetically by rs2[5:0]. -/
  | srad (h : Hart) (rd rs1 rs2 : RegNum)
  /-- R68: Sets a register to 1 when one pair is below another signed. -/
  | sltd (h : Hart) (rd rs1 rs2 : RegNum)
  /-- R68: Sets a register to 1 when one pair is below another unsigned. -/
  | sltdu (h : Hart) (rd rs1 rs2 : RegNum)
  /-- R68: Signed 32 x 32 to 64-bit product into a pair. -/
  | mulw (h : Hart) (rd rs1 rs2 : RegNum)
  /-- R68: Unsigned 32 x 32 to 64-bit product into a pair. -/
  | mulwu (h : Hart) (rd rs1 rs2 : RegNum)
  /-- R68: Adds a signed 32 x 32 product to a pair modulo 2^64. -/
  | macw (h : Hart) (rd rs1 rs2 : RegNum)
  /-- R68: Sign-extends a register into a pair. -/
  | sextd (h : Hart) (rd rs1 : RegNum)
  /-- R66: Adds a sign-extended immediate to a register. -/
  | addi (h : Hart) (rd rs1 : RegNum) (imm : BitVec 16)
  /-- R66: Sets rd when rs1 is below the immediate, signed. -/
  | slti (h : Hart) (rd rs1 : RegNum) (imm : BitVec 16)
  /-- R66: Sets rd when rs1 is below the sign-extended immediate, unsigned. -/
  | sltiu (h : Hart) (rd rs1 : RegNum) (imm : BitVec 16)
  /-- R66: ANDs a register with a zero-extended immediate. -/
  | andi (h : Hart) (rd rs1 : RegNum) (imm : BitVec 16)
  /-- R66: ORs a register with a zero-extended immediate. -/
  | ori (h : Hart) (rd rs1 : RegNum) (imm : BitVec 16)
  /-- R66: XORs a register with a zero-extended immediate. -/
  | xori (h : Hart) (rd rs1 : RegNum) (imm : BitVec 16)
  /-- R66: Shifts a register left by an immediate. -/
  | slli (h : Hart) (rd rs1 : RegNum) (imm : BitVec 16)
  /-- R66: Shifts a register right logically by an immediate. -/
  | srli (h : Hart) (rd rs1 : RegNum) (imm : BitVec 16)
  /-- R66: Shifts a register right arithmetically by an immediate. -/
  | srai (h : Hart) (rd rs1 : RegNum) (imm : BitVec 16)
  /-- R66: Loads an immediate into the upper half of a register. -/
  | lui (h : Hart) (rd : RegNum) (imm : BitVec 16)
  /-- R66: Adds an upper immediate to the instruction's own address. -/
  | addpc (h : Hart) (rd : RegNum) (imm : BitVec 16)
  /-- R66: Loads a sign-extended byte. -/
  | lb (h : Hart) (rd rs1 : RegNum) (imm : BitVec 16)
  /-- R66: Loads a zero-extended byte. -/
  | lbu (h : Hart) (rd rs1 : RegNum) (imm : BitVec 16)
  /-- R66: Loads a sign-extended halfword. -/
  | lh (h : Hart) (rd rs1 : RegNum) (imm : BitVec 16)
  /-- R66: Loads a zero-extended halfword. -/
  | lhu (h : Hart) (rd rs1 : RegNum) (imm : BitVec 16)
  /-- R66: Loads a word. -/
  | lw (h : Hart) (rd rs1 : RegNum) (imm : BitVec 16)
  /-- R66: Loads a doubleword into a pair, as two word accesses on a register block. -/
  | ld (h : Hart) (rd rs1 : RegNum) (imm : BitVec 16)
  /-- R66: Stores a byte. -/
  | sb (h : Hart) (rs2 rs1 : RegNum) (imm : BitVec 16)
  /-- R66: Stores a halfword. -/
  | sh (h : Hart) (rs2 rs1 : RegNum) (imm : BitVec 16)
  /-- R66: Stores a word through the write buffer. -/
  | sw (h : Hart) (rs2 rs1 : RegNum) (imm : BitVec 16)
  /-- R66: Stores a pair as a doubleword. -/
  | sd (h : Hart) (rs2 rs1 : RegNum) (imm : BitVec 16)
  /-- R66: Branches when two registers are equal. -/
  | beq (h : Hart) (rs1 rs2 : RegNum) (off : BitVec 16)
  /-- R66: Branches when two registers differ. -/
  | bne (h : Hart) (rs1 rs2 : RegNum) (off : BitVec 16)
  /-- R66: Branches when rs1 is below rs2 signed. -/
  | blt (h : Hart) (rs1 rs2 : RegNum) (off : BitVec 16)
  /-- R66: Branches when rs1 is at or above rs2 signed. -/
  | bge (h : Hart) (rs1 rs2 : RegNum) (off : BitVec 16)
  /-- R66: Branches when rs1 is below rs2 unsigned. -/
  | bltu (h : Hart) (rs1 rs2 : RegNum) (off : BitVec 16)
  /-- R66: Branches when rs1 is at or above rs2 unsigned. -/
  | bgeu (h : Hart) (rs1 rs2 : RegNum) (off : BitVec 16)
  /-- R66: Writes the return address and jumps to a PC-relative target. -/
  | call (h : Hart) (rd : RegNum) (off : BitVec 21)
  /-- R66: Writes the return address and jumps to a register plus offset. -/
  | callr (h : Hart) (rd rs1 : RegNum) (imm : BitVec 16)
  /-- R83: Loads a word from SRAM and reserves its 32-byte granule. -/
  | lwx (h : Hart) (rd rs1 : RegNum) (imm : BitVec 16)
  /-- R83: Stores a word only while the reservation holds and reports success in rd. -/
  | swx (h : Hart) (rd rs1 rs2 : RegNum)
  /-- R66: Exchanges a register with an SRAM word in one access. -/
  | swap (h : Hart) (rd rs1 rs2 : RegNum)
  /-- R72: Reads a control word in supervisor privilege. -/
  | rdcw (h : Hart) (rd rs1 : RegNum) (imm : BitVec 16)
  /-- R72: Reads and then writes a control word in supervisor privilege. -/
  | wrcw (h : Hart) (rd rs1 : RegNum) (imm : BitVec 16)
  /-- R69: Traps with cause 8 or 9, passing rs1 in DETAIL. -/
  | svreq (h : Hart) (rs1 : RegNum)
  /-- R69: Traps with cause 10. -/
  | brkpt (h : Hart)
  /-- R69: Restores CW_MODE from the trap record with INTRAP cleared and continues at RET. -/
  | resume (h : Hart)
  /-- R69: Waits until an event routed to this hart or an enabled interrupt is pending. -/
  | waitev (h : Hart)
  /-- R69: Waits until event time reaches a target or an enabled interrupt is pending. -/
  | waitt (h : Hart) (rs1 : RegNum)
  /-- R69: Waits until the hart's write buffer is empty and every store has completed. -/
  | drain (h : Hart)
  /-- R69: Invalidates this hart's instruction cache and refetches. -/
  | icinv (h : Hart)
  /-- R74: Between instructions, the lowest pending enabled interrupt is taken as a trap. -/
  | interrupt (h : Hart)
  /-- R83: 256 system clocks pass after LWX and the reservation is lost. -/
  | reservationTimeout (h : Hart)
  /-- R72: Event time reaches CW_ALARM and the alarm interrupt becomes pending. -/
  | alarmDue (h : Hart)
  /-- R71: A WAITEV or WAITT in progress ends when its condition is met. -/
  | waitEnd (h : Hart)
  /-- R89: Writing START starts a halted hart at its entry with reset control words and cleared registers, or records a pending start. -/
  | hartStart (n : Nat)
  /-- R90: Writing HALT requests the hart to stop at its next instruction boundary. -/
  | hartHalt (n : Nat)
  /-- R80: Writing ICINV invalidates another hart's instruction cache at its next boundary. -/
  | hartIcinv (n : Nat)
  /-- R90: A halting hart completes its outstanding accesses and halts, then acts on any pending start. -/
  | haltComplete (n : Nat)
  /-- R92: Writing SYS_MBOXTX appends a word to a hart's inbox, or discards it and sets OVF when full. -/
  | mailboxWrite (writer : Hart) (n : Nat) (v : Word)
  /-- R92: Reading SYS_MBOXRX removes and returns the oldest word of the reader's inbox, or returns 0 and sets UNDER. -/
  | mailboxRead (h : Hart)
  /-- R94: Setting SYS_OWNERLOCK.LOCK freezes the owner registers until the next reset. -/
  | ownerLock
  /-- R104: Boot ROM service that issues a ticket and starts a stepped check of an image in SRAM, making its range read-only. -/
  | imgCheck (h : Hart)
  /-- R103: Boot ROM service that returns the status of a ticket's image check. -/
  | imgStatus (h : Hart)
  /-- R106: Boot ROM service that places an accepted overlay, kernel set or data image and extends the seal. -/
  | imgPlace (h : Hart)
  /-- R103: Boot ROM service that writes an accepted boot image to the non-running slot in trial state. -/
  | imgSlot (h : Hart)
  /-- R103: Boot ROM service that releases a ticket. -/
  | imgDrop (h : Hart)
  /-- R103: Boot ROM service that writes the Stow resume record with the handler range's hash. -/
  | resumeSet (h : Hart)
  /-- R104: The stepped image check finishes and the ticket's status becomes accepted or a refusal code. -/
  | imageCheckDone (ticket : Nat)
  /-- R126: Vector instruction that does nothing. -/
  | vnop
  /-- R126: Loads an input word into a lane register. -/
  | vldi (vd : LaneReg) (k : BitVec 3)
  /-- R126: Stores a lane register to an output word. -/
  | vsto (va : LaneReg) (k : BitVec 2)
  /-- R126: Loads the low 24 bits of a state word into a lane register. -/
  | vldsv (vd : LaneReg) (k : BitVec 3)
  /-- R126: Stores a lane register sign-extended into a state word. -/
  | vstsv (va : LaneReg) (k : BitVec 3)
  /-- R126: Loads a state word into an accumulator. -/
  | vlds (acd : AccReg) (k : BitVec 3)
  /-- R126: Stores an accumulator into a state word. -/
  | vsts (acs : AccReg) (k : BitVec 3)
  /-- R126: Clears an accumulator. -/
  | vclr (acd : AccReg)
  /-- R126: Clears an accumulator when the init flag is set. -/
  | vclri (acd : AccReg)
  /-- R126: Adds a signal times a coefficient to an accumulator with saturation. -/
  | vmac (acd : AccReg) (va : LaneReg) (k : BitVec 4)
  /-- R126: Subtracts a signal times a coefficient from an accumulator. -/
  | vmsc (acd : AccReg) (va : LaneReg) (k : BitVec 4)
  /-- R126: Adds the product of two lane registers to an accumulator. -/
  | vmacv (acd : AccReg) (va vb : LaneReg)
  /-- R122: Loads an accumulator with a signal shifted by the stage exponent. -/
  | vopen (acd : AccReg) (va : LaneReg) (sg : BitVec 2) (d : BitVec 6)
  /-- R121: Closes a stage by rounding, shifting and saturating an accumulator to a signal. -/
  | vcls (vd : LaneReg) (acs : AccReg) (sg : BitVec 2) (d : BitVec 6)
  /-- R126: Adds two lane registers with saturation. -/
  | vadd (vd va vb : LaneReg)
  /-- R126: Subtracts two lane registers with saturation. -/
  | vsub (vd va vb : LaneReg)
  /-- R127: Clamps a lane register between two coefficient limits. -/
  | vlim (vd va : LaneReg) (lo hi : BitVec 4)
  /-- R126: Selects between two lane registers on the init flag. -/
  | vseli (vd va vb : LaneReg)
  /-- R126: Selects between two lane registers on the compare flag. -/
  | vsel (vd va vb : LaneReg)
  /-- R126: Sets the compare flag when one lane register is below another. -/
  | vcmp (va vb : LaneReg)
  /-- R154: Presents a lane register as the cell's following error. -/
  | vfe (va : LaneReg)
  /-- R126: Takes the saturated absolute value of a lane register. -/
  | vabs (vd va : LaneReg)
  /-- R127: Loads a coefficient mantissa into a lane register. -/
  | vkld (vd : LaneReg) (k : BitVec 4)
  /-- R113: A sample group's tick applies pending coefficient writes, kernel and mask changes, batch stops and makes its batches ready. -/
  | groupTick (g : Nat)
  /-- R115: The engine runs the ready batch with the earliest window end over its cells without interruption. -/
  | batchRun
  /-- R114: At tick plus LPE_LAUNCH the window's outputs are handed to the cell lanes and the exchange's SYNC and commands leave. -/
  | outputLaunch (g : Nat)
  /-- R130: Setting a batch's EN checks the kernel slot and admission, or records a pending enable while stopping. -/
  | batchEnable (b : Nat)
  /-- R133: Clearing a batch's EN stops it at the group's next tick, or at once when the grid is not running. -/
  | batchDisable (b : Nat)
  /-- R132: A change of an enabled batch's kernel passes admission and takes effect for every cell at the next tick. -/
  | batchKernelChange (b k : Nat)
  /-- R132: A change of an enabled batch's mask takes effect at the next tick. -/
  | batchMaskChange (b : Nat) (mask : BitVec 16)
  /-- R113: Enabling a sample group passes admission and starts or joins its tick grid at the next allocation-period start. -/
  | groupEnable (g : Nat)
  /-- R113: Disabling a sample group stops its grid once every lane naming it is down. -/
  | groupDisable (g : Nat)
  /-- R112: A write to a group's PERIOD passes admission and takes effect from the next scheduled tick, or is kept during takeover. -/
  | groupPeriodWrite (g period : Nat)
  /-- R117: A write to LPE_LAUNCH takes effect only when admission under R116 holds. -/
  | launchWrite (offset : Nat)
  /-- R138: A coefficient write enters the pending pool, takes effect at once, or ends in a bus error when the pool is full. -/
  | coefficientWrite (ini : Initiator) (bank slot w : Nat) (v : Word)
  /-- R131: Writing a slot to LPE_CELLINIT sets its init flag for the next sample. -/
  | cellInit (slot : Nat)
  /-- R157: Arming the injector starts injection at the batch's next tick, or sets ERR for an invalid node, batch or wave. -/
  | injectorArm
  /-- R157: Clearing ARM stops injection at the next tick. -/
  | injectorDisarm
  /-- R157: After LEN samples the injection stops, clears RUN, sets INJDONE and raises event 127. -/
  | injectionDone
  /-- R160: Arming the capture unit starts recording, with the injector when SYNC is set. -/
  | captureArm
  /-- R160: In single mode the full buffer stops capture, sets DONE and CAPDONE and raises event 127. -/
  | captureDone
  /-- R154: A cell's following-error count reaches TIMER and the supervisor takes its configured action once. -/
  | followingErrorAction (slot : Nat)
  /-- R149: At the first group-0 tick after the takeover signal the engine doubles home periods, switches banks and starts guest groups. -/
  | takeoverEngineStart
  /-- R153: At the first group-0 tick after the return signal the engine stops guest groups and restores home periods and bank 0. -/
  | takeoverEngineReturn
  /-- R179: Setting a down lane's EN starts its link start, or records a pending enable while stopping. -/
  | laneEnable (j : Nat)
  /-- R179: A step of a lane's link start completes and the next one begins. -/
  | linkStartStepEnd (j nEnum : Nat)
  /-- R180: A cell's capability record arrives and selection admits or refuses the cell. -/
  | capRecord (j pos : Nat) (bytes : List Byte)
  /-- R182: A RANGE echo arrives and the lane sets the cell's or the chain's delay. -/
  | rangeEcho (j : Nat) (pos : Option Nat) (roundTrip : Nat)
  /-- R173: A telemetry frame arrives in a cell's slot and is checked and held for the exchange end. -/
  | telemetryFrame (j pos : Nat) (bytes : List Byte) (violation : Bool)
  /-- R174: At the end of the telemetry train the lane writes input words of valid cells at once and counts missing frames. -/
  | exchangeEnd (j : Nat)
  /-- R185: After 3 consecutive missing telemetry frames the lane declares the cell lost and sends it MODE disabled. -/
  | cellLost (slot : Nat)
  /-- R187: A lane counter rises by ERRTH within one second and ERRTH is set. -/
  | errorThreshold (j : Nat)
  /-- R187: Writing CLN_ERRCLR clears the counters of the selected lanes. -/
  | errorCountersClear (mask : Word)
  /-- R185: Writing CLN_READMIT repeats CAP, RANGE and PARAM for a lost cell in management windows. -/
  | cellReadmit (slot : Nat)
  /-- R185: Readmission ends within 10 exchanges with the cell ready, refused or still lost. -/
  | readmitEnd (slot : Nat)
  /-- R165: A write to CLN_CELLMAP takes effect only while both named lanes are down. -/
  | cellmapWrite (c : Nat) (v : Word)
  /-- R192: Clearing EN ends a link start or moves a ready lane to stopping with MODE disabled frames. -/
  | laneDisable (j : Nat)
  /-- R192: A stopping lane goes down when every cell's current is small or the largest RAMP plus 1 ms has passed. -/
  | laneStopComplete (j : Nat) (elapsed : Bool)
  /-- R190: A lane trip line falls and cause TRIP or GTRIP is set. -/
  | laneTripFall (j : Nat)
  /-- R191: Writing GO sends a management request to a cell in the next downstream window, or ends at once with an error. -/
  | mgmtRequest
  /-- R191: A cell's management response arrives and the request ends with DONE. -/
  | mgmtResponse (status : Nat) (cstat : Byte) (data : List Byte)
  /-- R191: A management request unanswered for 1 ms ends with ERR = 1. -/
  | mgmtTimeout
  /-- R188: On the takeover signal each mapped guard lane adopts the shadow and runs TAKE, hold, init and run exchanges. -/
  | guardTakeover
  /-- R189: On the return signal the home lane performs a link start on the inactive port and takes the chain back. -/
  | homeLaneReturn (k : Nat)
  /-- R196: Setting GCFG.EN enables a group, or is refused with CFGERR for size, role or batch-ownership faults. -/
  | portGroupEnable (g : Nat)
  /-- R196: Clearing GCFG.EN disables a group. -/
  | portGroupDisable (g : Nat)
  /-- R196: A write to PRT_CELL.GROUP takes effect only while both groups are disabled. -/
  | cellGroupAssign (c group : Nat)
  /-- R217: Command CHECK starts closure and the cable check, subject to the stored-energy limit. -/
  | groupCheck (g : Nat)
  /-- R220: Command PRECHARGE starts precharge of a port or closure and precharge of a battery group. -/
  | groupPrecharge (g : Nat)
  /-- R217: Command RUN enters RUN-I or RUN-V per MODE, or changes mode in a running group. -/
  | groupRun (g mode : Nat)
  /-- R217: Command STOP moves a running group to RAMPDOWN or a checking group to DISCHARGE, clearing any pending command. -/
  | groupStop (g : Nat)
  /-- R217: Command DISCH moves a group in ZERO to DISCHARGE or OPENING. -/
  | groupDisch (g : Nat)
  /-- R217: Command CLEAR returns a faulted group to OFF. -/
  | groupClear (g : Nat)
  /-- R229: Command CLRREEF returns the group's REEFREQ to 0. -/
  | groupClrreef (g : Nat)
  /-- R217: The shroud reports every pole closed and the group leaves CLOSING for its target state. -/
  | contactorsClosed (g : Nat)
  /-- R217: CLOSING lasts 500 ms and the group enters FAULT with cause TIMEOUT. -/
  | closingTimeout (g : Nat)
  /-- R220: The vehicle-side voltage stays within VTOL of VSET for 1 ms and the group enters READY. -/
  | prechargeComplete (g : Nat)
  /-- R217: PRECHARGE lasts PRETO and the group enters FAULT with cause TIMEOUT. -/
  | prechargeTimeout (g : Nat)
  /-- R217: The group current stays below 5 A for 1 ms and the group enters ZERO or OFF. -/
  | rampdownComplete (g : Nat)
  /-- R222: The vehicle-side voltage falls below 60 V, TDIS is recorded and the group enters OPENING. -/
  | dischargeComplete (g : Nat)
  /-- R222: Discharge reaches 1 s with the voltage at or above 60 V and cause DISCHTO is set. -/
  | dischargeTimeout (g : Nat)
  /-- R222: Discharge reaches 5 s and port power requests opening and enters FAULT after OPENING. -/
  | dischargeForcedOpen (g : Nat)
  /-- R217: The shroud reports every pole open and the group enters WELD or OFF. -/
  | contactorsOpened (g : Nat)
  /-- R217: OPENING lasts 100 ms and the group enters FAULT with cause TIMEOUT. -/
  | openingTimeout (g : Nat)
  /-- R224: A weld-check wait ends and the pole under test is judged welded or not. -/
  | weldStepEnd (g : Nat)
  /-- R217: The shroud opens a pole without request and the group discharges on the bleeder with cause SOPEN. -/
  | unrequestedOpen (g : Nat)
  /-- R210: With AUTOCV, the port voltage at or above VSET minus VMARG for 3 samples moves RUN-I to RUN-V. -/
  | autocvSwitch (g : Nat)
  /-- R227: A cell's current stays below 1/20 of its share for 3 samples and it is removed with RM = 1. -/
  | openCell (slot : Nat)
  /-- R228: Shunt and cell sums disagree for 10 samples and port power starts a 1 ms search. -/
  | senseSearchStart (g : Nat)
  /-- R228: The search ends, removing one identified cell with RM = 2 or raising REEFREQ with cause UNID. -/
  | senseSearchEnd (g : Nat)
  /-- R226: Writing PRT_CELLRST returns a removed cell to its group at the next tick. -/
  | cellRestore (slot : Nat)
  /-- R232: Writing PRT_SNAP copies a group's or cell's cleats to SNAPOUT and restarts them in one clock. -/
  | snap (cell : Bool) (index : Nat)
  /-- R231: A 1 ms, 100 ms or 1 s averaging window ends and its four averages are published together. -/
  | averagePublish (window : Nat)
  /-- R237: At T_k the allocator applies sheets, takes its snapshot, builds and sends its halyard. -/
  | allocationPeriodStart
  /-- R237: At XWIN the window closes, missing halyards are substituted, the digest is computed and the solve starts. -/
  | exchangeWindowClose
  /-- R252: The solver ends and holds the sheets and setpoints for the next period start. -/
  | solveComplete (durationUs : Nat)
  /-- R266: A solve not ended by T_k+1 minus 10 us is discarded, sheets are clamped and ADMIT is set. -/
  | solveOverrun
  /-- R260: A halyard arrives and is accepted, held, discarded as late or stale, and forwarded while hops remain. -/
  | halyardReceived (bytes : List Byte) (tagOk : Bool) (hops : Nat)
  /-- R235: A write to ALC_CFG.PERIOD is accepted for a divisor of 10 ms and takes effect at the next 10 ms instant, or is refused. -/
  | allocationPeriodWrite (period : Nat)
  /-- R238: A write to XWIN or CLSEN takes effect only when solve-time admission holds. -/
  | allocationConfigWrite (xwin clsen : Nat)
  /-- R245: Writing TCOMMIT copies the shadow node table into force at the next snapshot, or refuses it. -/
  | treeCommit
  /-- R268: Writing CNTCLR clears ALC_CNT. -/
  | alcCounterClear
  /-- R267: Setting ALC_CTL.EN starts the allocator, or records a pending enable while stopping. -/
  | allocatorEnable
  /-- R267: Clearing EN sends every own consumer as inactive and zeroes every sheet from the next period start. -/
  | allocatorDisable
  /-- R243: A write to ALC_PORT REQ sets the request and restarts its age. -/
  | reqWrite (p : Nat) (v : Word)
  /-- R243: A write to ALC_PRICE sets the price and restarts its age. -/
  | priceWrite (v : Word)
  /-- R243: REQAGE passes without a write and the request is sent as min(REQ, APPLIED) with STALE set. -/
  | reqAged (p : Nat)
  /-- R243: PRICEAGE passes without a write and PRICEV becomes 0. -/
  | priceAged
  /-- R247: A node's measured load exceeds its effective limit in 3 consecutive snapshots and cause VIOL is set. -/
  | nodeViolation (n : Nat)
  /-- R276: A pilot or MCS circuit state holds for PFILT and drives the session machine. -/
  | pilotStateQualified (f : Nat) (pilot : PilotReading)
  /-- R277: A SLAC message from a vehicle is answered as EVSE and a match is granted or refused. -/
  | slacMessage (f : Nat) (msg : SlacMsg)
  /-- R279: An SECC discovery request on UDP port 15118 is answered. -/
  | sdpRequest (f : Nat)
  /-- R279: A vehicle's TCP connection is accepted for the session. -/
  | tcpConnect (f : Nat)
  /-- R279: A V2GTP frame arrives, is checked and passed to the loop responder or the program, or discarded. -/
  | v2gtpFrame (c : Nat) (frame : V2gFrame)
  /-- R280: A supportedAppProtocol request is answered with the preferred common protocol or negotiation failure. -/
  | supportedAppProtocol (c : Nat) (offers : List AppOffer)
  /-- R281: A TLS ClientHello is checked against the supported options, ending the session with cause TLS when none match. -/
  | clientHello (c : Nat) (suites groups sigs : List Nat)
  /-- R282: The program writes traffic secrets and the block derives keys and runs the record layer. -/
  | tlsSecretsWrite (c : Nat) (client server : List Byte)
  /-- R285: Writing TXLEN with GO encrypts and sends the program's response. -/
  | responseSend (c len : Nat)
  /-- R285: Writing RXLEN = 0 releases the receive area and delivers a held request. -/
  | receiveRelease (c : Nat)
  /-- R286: The loop responder answers a CableCheck request within 2 ms. -/
  | cableCheckReq (c : Nat)
  /-- R286: The loop responder answers a PreCharge request and forwards the target voltage as VSET. -/
  | preChargeReq (c : Nat) (targetV : Word)
  /-- R286: The loop responder answers CurrentDemand and writes EVI, EVV, REQ and VSET. -/
  | currentDemandReq (c : Nat) (targetI targetV : Word) (soc : Nat) (evError : Bool)
  /-- R286: The loop responder answers DC_ChargeLoop, including BPT, and writes the targets. -/
  | dcChargeLoopReq (c : Nat) (targetI targetV : Word) (soc : Nat) (evError : Bool)
  /-- R284: A vehicle SessionStop request moves the session to STOPPING with cause EVSTOP. -/
  | sessionStopReq (c : Nat)
  /-- R284: A PowerDelivery request is passed to the program, and a stop moves the session to STOPPING. -/
  | powerDeliveryReq (c : Nat) (kind : PowerDelivery) (payload : List Byte)
  /-- R284: Session command PROCEED makes the transition allowed in the present state. -/
  | proceed (c : Nat)
  /-- R288: Session command STOP moves the session to STOPPING with cause EVSTOP. -/
  | sessionStop (c : Nat)
  /-- R284: Session command CLEAR moves a faulted session to UNLOCK and issues port power CLEAR. -/
  | sessionClear (c : Nat)
  /-- R284: LINK lasts TLINK and the session ends with cause LINK. -/
  | tlinkExpiry (c : Nat)
  /-- R284: SETUP lasts TSETUP and the session ends with cause LINK. -/
  | tsetupExpiry (c : Nat)
  /-- R284: No request arrives for TSEQ and the session stops with cause SEQTO. -/
  | tseqExpiry (c : Nat)
  /-- R284: The program does not respond within TRESP and the session stops with cause SEQTO. -/
  | trespExpiry (c : Nat)
  /-- R284: No loop request arrives in CHARGE for TLOOP and the session stops with cause SEQTO. -/
  | tloopExpiry (c : Nat)
  /-- R284: CABLECHECK lasts TCHK and the session stops with cause SEQTO. -/
  | tchkExpiry (c : Nat)
  /-- R273: A context waits TPLC for a baseband and ends with cause LINK. -/
  | tplcExpiry (c : Nat)
  /-- R290: Setting SCFG.EN enables the context, or records a pending enable before IDLE. -/
  | sessionEnable (c : Nat)
  /-- R290: Clearing SCFG.EN acts as a program STOP and disables the context at IDLE. -/
  | sessionDisable (c : Nat)
  /-- R271: A write to VEH_FE MODE or CTX takes effect only while both named contexts are IDLE. -/
  | frontEndConfig (f mode ctx : Nat)
  /-- R292: The buddy acknowledges a delta and the held frame is released to the vehicle. -/
  | deltaAck (c : Nat)
  /-- R292: 20 us pass without acknowledgement; the frame is released and UNCONF is set. -/
  | deltaReleaseTimeout (c : Nat)
  /-- R293: A standby front-end sees a frame on its port and the buddy tracks the latest request and whether it was answered. -/
  | standbyFrameObserved (f : Nat) (frame : ObservedFrame)
  /-- R294: On the takeover signal a standby front-end drives the pilot, enables its PHY and answers unanswered requests. -/
  | standbyTakeover (f : Nat)
  /-- R296: In a splice or return the home front-end releases a session after an acknowledged delta and a sent response. -/
  | sessionHandover (c : Nat)
  /-- R303: A temperature sensor is converted at its ladder period and its value in use, limits and reefs are updated. -/
  | sensorConversion (sensor ohms : Nat) (t : Int)
  /-- R301: Two consecutive broken conversions mark the sensor broken and switch it to its fallback. -/
  | sensorBroken (sensor : Nat)
  /-- R301: Ten consecutive valid conversions return a broken sensor to use. -/
  | sensorRestored (sensor : Nat)
  /-- R304: A filtered rising edge on a flow land is counted. -/
  | flowEdge (p : Nat)
  /-- R304: Every 10 ms the block computes FLOW and evaluates the coolant window. -/
  | flowCompute
  /-- R305: After 5 s of good inlet and flow the port leaves NOGO. -/
  | nogoClear (p : Nat)
  /-- R306: NOGO lasts NOGOT in CHARGE or PAUSE and the block issues STOP with cause TSTOP. -/
  | nogoStop (p : Nat)
  /-- R308: Every 1 ms the two-node cable model advances for each port. -/
  | observerStep
  /-- R311: The temperature stays below the lower band for 10 s and the thermal reef request falls one level. -/
  | thermalReefFall (p : Nat)
  /-- R316: Every 10 s the block writes the double-buffered thermal MRAM record. -/
  | thermalRecordWrite
  /-- R326: A 20 us legal sample is corrected and its energy added to RAWDEL or RAWREC. -/
  | meterSample (m : Nat) (cur v : Int)
  /-- R339: The fast tap publishes I_FT and V_FT every 2.5 us. -/
  | fastTapSample (m : Nat) (cur v : Int)
  /-- R329: At each 1 ms instant every meter is folded into its totals and the fold record is committed. -/
  | fold
  /-- R332: Every 10 ms the analog die checks each modulator and reference, setting FAULT on failure. -/
  | meterCheck (m : Nat) (pass : Bool)
  /-- R332: After 1 s of passed checks a meter's FAULT clears. -/
  | meterFaultClear (m : Nat)
  /-- R337: A due pulse starts on MPOm and PCNT advances. -/
  | pulseStart (m : Nat)
  /-- R337: A pulse's width elapses and the output returns high-impedance. -/
  | pulseEnd (m : Nat)
  /-- R340: Every 1 ms the grid meter computes GP1, RMS values and frequency. -/
  | gridCompute (gp1 : Int) (vRms iRms : List Nat) (mHz : Nat)
  /-- R342: A filtered utility S0 pulse is counted into the grid totals or rejected as short. -/
  | utilityPulse (export_ : Bool) (widthUs : Nat)
  /-- R342: Setting GCFG.FORCE moves the grid meter to OWN mode with reason TEST. -/
  | gridForce
  /-- R343: A write to a metrological field is accepted only with MCAL_N low and low current, incrementing CALCNT. -/
  | metrologyConfigWrite (calLow : Bool) (addr : Nat) (v : Word)
  /-- R328: Writing MTR_BNDCTL.GO queues a program boundary, or refuses it when full or past. -/
  | boundaryEnqueue
  /-- R328: At a queued boundary instant the analog die latches the accumulators and a result is written. -/
  | boundaryLatch
  /-- R364: At a billing boundary the engine closes demand and profile intervals, switches tariff and commits the journal. -/
  | boundaryProcess
  /-- R359: Writing ACTIVATE validates and arms the passive calendar for its activation boundary. -/
  | calendarActivate
  /-- R362: Writing RESETDEM requests a maximum-demand reset at the next demand boundary. -/
  | demandResetRequest
  /-- R362: A DEMLEN write is refused or becomes pending until the next whole-hour boundary. -/
  | demlenWrite (code : Nat)
  /-- R360: Setting BIL_CTL.EN enables billing and fixes EBASE at the next boundary. -/
  | billingEnable
  /-- R382: SEAL_N goes high after a 10 ms filter and tamper class 8 counts. -/
  | sealOpen
  /-- R384: Every 250 ms the device sends a frame to each enabled display unit. -/
  | displayFrame
  /-- R384: A display unit's answer arrives and its miss count resets. -/
  | displayAnswer (u : Nat)
  /-- R386: A unit misses an answer; after 3 in a row it is marked failed with cause DISP. -/
  | displayAnswerMissed (u : Nat)
  /-- R393: The engine assigns the next index to a queued signature, reserving a new block first when needed. -/
  | signatureStart
  /-- R412: A device signature finishes and its envelope is released to the archive or receipt ring. -/
  | signatureComplete
  /-- R413: After boot a key's working state is rebuilt and the key becomes ready with cause KEY. -/
  | keyRebuildComplete (k : Nat)
  /-- R409: Writing SIG_JOBQ queues a crypto job descriptor, or discards it and sets QFULL. -/
  | jobSubmit (addr : Word)
  /-- R410: Crypto job OP 1 hashes the source with the chosen algorithm. -/
  | jobHash
  /-- R410: Crypto job OP 2 computes an HMAC. -/
  | jobHmac
  /-- R410: Crypto job OP 3 performs HKDF-Extract. -/
  | jobHkdfExtract
  /-- R410: Crypto job OP 4 performs HKDF-Expand. -/
  | jobHkdfExpand
  /-- R410: Crypto job OP 5 encrypts with AES-GCM. -/
  | jobAesGcmEncrypt
  /-- R410: Crypto job OP 6 decrypts with AES-GCM. -/
  | jobAesGcmDecrypt
  /-- R410: Crypto job OP 7 generates an ephemeral ECDHE key in a slot. -/
  | jobEcdheKeygen
  /-- R410: Crypto job OP 8 derives a shared secret and frees the ephemeral slot. -/
  | jobEcdheDerive
  /-- R410: Crypto job OP 9 signs with a TLS key slot. -/
  | jobSign
  /-- R410: Crypto job OP 10 verifies a signature with a supplied public key. -/
  | jobVerify
  /-- R411: Crypto job OP 11 generates a TLS slot key kept encrypted in MRAM. -/
  | jobTlsKeygen
  /-- R410: Crypto job OP 12 erases a TLS slot key. -/
  | jobTlsKeyErase
  /-- R410: Crypto job OP 13 returns a slot's or device key's public key. -/
  | jobPublicKeyRead
  /-- R407: Crypto job OP 14 signs an attestation report, drawing a token or ending with status 5. -/
  | jobAttest
  /-- R404: Crypto job OP 15 starts a new device key generation when its condition holds. -/
  | jobKeygen
  /-- R410: Crypto job OP 16 returns Hash_DRBG random bytes. -/
  | jobRandom
  /-- R412: The crypto engine runs one step of at most 50 us for the next class in round-robin order. -/
  | engineStep
  /-- R409: A crypto job finishes and the engine writes STATUS with DONE. -/
  | jobDone
  /-- R407: Every 12 h of device time the attestation bucket gains one token, up to 4. -/
  | attestTokenRefill
  /-- R416: Every 50 us the safety image reads inputs and request slots, evaluates functions and writes outputs. -/
  | shroudCycle
  /-- R426: A zone input stays active for TDEB and the zone's category 0 or 1 stop acts on its ports. -/
  | zoneDemand (z : Nat)
  /-- R430: Every 20 ms STAYO drops for 300 us and STAYI must follow each edge. -/
  | stayTestPulse (follows : Bool)
  /-- R430: STAYI is inactive for TSTAYF or fails two test pulses and the stay chain demands a stop. -/
  | stayChainOpen
  /-- R429: A low pulse of 0.1 s to 5 s on SRST_N resets stopped zones whose input has been inactive for TDEB. -/
  | srstPulse (ms : Nat)
  /-- R424: Request kind 1 stops a port in category 1. -/
  | shroudStop1 (p : Nat)
  /-- R429: Request kind 2 resets a stopped zone when PROGRST is 1 and the demand is inactive. -/
  | zoneReset (z : Nat)
  /-- R441: Request kind 3 chooses an axis limit set, stricter at once or looser only at standstill. -/
  | limset (a set : Nat)
  /-- R424: Request kind 4 releases an axis enable when there is no violation. -/
  | axen (a : Nat)
  /-- R424: Request kind 5 drives a port's IMD test output while its contactors are open. -/
  | imdtest (p ms : Nat)
  /-- R444: Request kind 6 releases a latched fabric target whose sources are all inactive. -/
  | targetRelease (t : Nat)
  /-- R432: Request kind 7 clears a port's latched faults whose clearing conditions hold. -/
  | faultClear (p : Nat)
  /-- R431: A close request line energises the named pole coils only when every closure condition holds. -/
  | closeRequest (p : Nat) (pos neg : Bool)
  /-- R218: An open request line de-energises a port's pole coils. -/
  | openRequest (p : Nat) (pos neg : Bool)
  /-- R434: A lock request pulses LOCKCO for TLOCK. -/
  | lockRequest (p : Nat)
  /-- R435: An unlock request is accepted and waits for verified no voltage. -/
  | unlockRequest (p : Nat)
  /-- R427: A port's pole coils are de-energised at the earlier of current below 5 A or TREL after the demand. -/
  | coilRelease (p : Nat) (expired : Bool)
  /-- R432: A mirror contact does not follow a command within TFBC or TFBO and FAILCL, WELDP or WELDN latches. -/
  | mirrorTimeout (p : Nat) (pole : Pole)
  /-- R432: A mirror contact changes while its command is unchanged, latching DISCREP, or reports an unrequested opening. -/
  | mirrorChange (p : Nat) (pole : Pole) (closed : Bool)
  /-- R434: LOCKFB shows locked for 20 ms and the shroud reports the connector locked. -/
  | lockConfirmed (p : Nat)
  /-- R434: The lock does not arrive within TLOCK plus 200 ms and LOCKF latches. -/
  | lockTimeout (p : Nat)
  /-- R435: Poles open, mirrors open and no voltage hold for 100 ms, so UNLKCO is pulsed. -/
  | noVoltageVerified (p : Nat)
  /-- R435: LOCKFB shows unlocked and the shroud reports the connector unlocked. -/
  | unlockConfirmed (p : Nat)
  /-- R436: The IMD FAULT contact is active for 20 ms, stopping the port and latching IMDF. -/
  | imdFault (p : Nat)
  /-- R436: The IMD WARN input sets isolation status warning and raises event 100. -/
  | imdWarn (p : Nat) (active : Bool)
  /-- R436: During a cable check the IMD conditions hold for TIMD and isolation status becomes valid. -/
  | isolationValid (p : Nat)
  /-- R437: Two consecutive pin conversions at or above TPCUT latch TCUT and open the port. -/
  | tempCut (p : Nat)
  /-- R437: A broken pin conversion refuses closure, sets reef request 4 and latches PBRK. -/
  | pinBroken (p : Nat)
  /-- R437: A pin stays broken for TPBRK during a charge and the port stops in category 1. -/
  | pinBrokenStop (p : Nat)
  /-- R439: Every 10 us the shroud samples an axis encoder and reference switch and updates position and speed. -/
  | axisSample (a : Nat) (levelA levelB levelZ : Bool)
  /-- R417: The lockstep comparison of S0 and S1 differs and the shroud enters the safe state. -/
  | lockstepMismatch
  /-- R417: A double error in shroud memory puts the shroud in the safe state. -/
  | memoryDoubleError
  /-- R417: A shroud cycle longer than 100 us puts the shroud in the safe state. -/
  | cycleOverrun (tenthsUs : Nat)
  /-- R417: Every 10 s the shroud scrubs its memory, correcting and counting single errors. -/
  | memoryScrub (singleErrors : Nat)
  /-- R502: Every 1 s a test current checks each feedback input for stuck levels. -/
  | feedbackTest (stuck : List Nat)
  /-- R501: Every 20 ms drive is removed from an energised coil for 200 us to detect a stuck-on driver. -/
  | coilTestPulse (n : Nat) (stuckOn : Bool)
  /-- R442: A trip fabric source changes after its filter and every target whose mask includes it trips within 40 ns. -/
  | fabricSourceChange (source : Nat) (high : Bool)
  /-- R449: On the takeover signal the buddy's shroud energises the standby coils of eligible guest ports. -/
  | standbyCoilsEnergise
  /-- R450: The home module's veto input becomes active and the buddy stops every guest port. -/
  | vetoActive
  /-- R452: Takeover lasts TGUEST and the buddy stops every guest port in category 1. -/
  | guestTimeLimit
  /-- R453: On the return signal the home shroud energises coils of ports whose feedback shows closed and conditions hold. -/
  | shroudReturn
  /-- R453: 5 ms after the return signal the buddy releases its standby coils. -/
  | standbyCoilsRelease
  /-- R456: A down Crateuth port starts or retries its link start every 100 ms while ring operation is enabled. -/
  | ringLinkStart (k : Nat)
  /-- R456: A LINKCAP frame arrives with identifier, versions, nonce and ECDHE share, refusing on no common version or a duplicate identifier. -/
  | linkcap (k : Nat) (peer verMin verMax : Nat) (nonce share : List Byte)
  /-- R456: A LINKAUTH frame is verified and the link comes up with its version and keys, or stays down with AUTH. -/
  | linkauth (k : Nat) (ok : Bool)
  /-- R469: Every 10 us the module sends a heartbeat on both ports. -/
  | heartbeatSend
  /-- R469: A valid heartbeat from a neighbour arrives and its miss count resets. -/
  | heartbeat (k : Nat) (hb : HeartbeatFrame)
  /-- R469: A 10 us interval ends without a valid heartbeat and the miss count rises. -/
  | heartbeatMissed (k : Nat)
  /-- R469: At the fourth consecutive miss the module declares its neighbour lost. -/
  | neighbourLost (k : Nat)
  /-- R461: A VIEW frame arrives and is adopted from SEQ_eff, or resolved against a conflicting view. -/
  | viewFrame (v : ViewFrame)
  /-- R461: At the period start whose SEQ equals SEQ_eff the new view, epoch and generation take effect. -/
  | viewAdopt
  /-- R462: Every member has offered a higher generation for 16 periods and the lowest member announces a raise. -/
  | generationRaise
  /-- R468: A shadow frame arrives and is gathered for the period, setting SHLAG when incomplete. -/
  | shdFrame (f : ShadowFrame)
  /-- R292: A session delta arrives at the buddy, updates its guest context and is acknowledged. -/
  | deltaFrame (d : DeltaFrame)
  /-- R474: A home lane receives a TAKE or a guard SYNC and the module idles its lanes, holds its front-ends and zeroes its sheets. -/
  | displaced (lane : Nat)
  /-- R476: RNG_CTL.RETURN, or RETAUTO, starts a return with an SPL request to the buddy. -/
  | returnRequest
  /-- R476: An SPL frame of a splice or return handshake arrives and is acted on, including the guest state transfer. -/
  | splFrame (f : SpliceFrame)
  /-- R477: At T_r both modules signal return and the home module takes back its ports and cells. -/
  | returnSignal
  /-- R477: Three home periods after T_r guard lanes return to monitoring, GUEST clears and cause RETURN is set. -/
  | returnComplete
  /-- R478: RNG_CTL.SPLICE starts a splice when its conditions hold, or is refused with SPLREF. -/
  | splice
  /-- R479: At T_s the buddy takes over the splicing module's cells and ports. -/
  | spliceHandover
  /-- R479: When every port has moved or SPLTO passes, the splicing module takes a warm reset. -/
  | spliceReset
  /-- R480: RNG_CTL.LEAVE removes the module from the view when its lanes are down and contexts IDLE. -/
  | leave
  /-- R484: Command ON sets PROG, or is refused with CMDERR for a latched channel. -/
  | channelOn (n : Nat)
  /-- R484: Command OFF clears PROG. -/
  | channelOff (n : Nat)
  /-- R489: Command CLEAR frees a latched channel once its clamp has ended and it has cooled. -/
  | channelClear (n : Nat)
  /-- R487: A channel's current exceeds its threshold for 1 us and it latches off with FLT = 1. -/
  | channelOvercurrent (n : Nat) (mA10 : Nat)
  /-- R488: A channel's junction reaches 170 C and it latches off with FLT = 2. -/
  | channelOvertemp (n : Nat)
  /-- R490: The channel sum exceeds IAGG for 10 us and the chosen channel latches off with FLT = 3. -/
  | aggregateTrip
  /-- R491: VAUX falls below 20.0 V and cause DROOP is set. -/
  | vauxDroop (mv : Nat)
  /-- R492: Every reading over 10 ms lies below IOL and OL is set. -/
  | openLoad (n : Nat)
  /-- R486: A channel's inrush window ends and its threshold returns to ITRIP. -/
  | inrushEnd (n : Nat)
  /-- R485: A PWM period of a channel starts and pending MODE, FREQ or DUTY writes take effect. -/
  | pwmPeriod (n : Nat)
  /-- R485: A timed channel's TPULSE ends and PROG clears by itself. -/
  | timedPulseEnd (n : Nat)
  /-- R494: A turning-off channel's output rises above -1 V and a pending on request is acted on. -/
  | clampEnd (n : Nat)
  /-- R498: A held channel reaches 190 to 200 ms after the warm reset without a command and turns off with HOLDEND. -/
  | holdEnd (n : Nat)
  /-- R493: Every 100 us each channel current is converted into CHI.I. -/
  | currentSense (n : Nat) (mA : Nat) (tj : Int)
  /-- R495: VAUX stays below 14.0 V for 10 us and channels turn off unlatched. -/
  | vauxUndervoltage (mv : Nat)
  /-- R495: VAUX stays above 36.0 V for 10 us and channels turn off unlatched. -/
  | vauxOvervoltage (mv : Nat)
  /-- R495: Reverse VAUX is detected and every channel and coil is off. -/
  | vauxReverse
  /-- R495: Power-die ground moves more than 1 V for 5 us; channels latch with FLT = 4 and coils drop. -/
  | groundLoss
  /-- R495: VAUX stays within range for 1 ms and channels return to their requests with a new inrush window. -/
  | vauxReturn (mv : Nat)
  /-- R500: A coil's pull-in time ends and the economiser regulates its holding current. -/
  | pullInEnd (n : Nat)
  /-- R500: Coil current above 1.2 A for 5 us latches the output off with FAULT = 3. -/
  | coilOvercurrent (n : Nat)
  /-- R501: A coil's current does not reach 20 mA within 5 ms of energising and FAULT = 1 is set. -/
  | coilOpen (n : Nat)
  /-- R502: A feedback input changes level after its FBFILT filter. -/
  | feedbackChange (k : Nat) (level : Bool)
  /-- R509: Every 100 ms the estimator counts, models, corrects, updates uncertainty, reports and computes limits for each pack. -/
  | estimatorStep (k : Nat) (countDelta : Int) (mv mA : Int)
  /-- R515: Every 1 ms the measured voltage is compared with VMIN and VMAX, zeroing DIS or CHG. -/
  | voltageLimitCheck (k : Nat) (mv mA : Int)
  /-- R512: A pack at rest for TREST has its estimate corrected from OCV and TLASTREST recorded. -/
  | restStart (k : Nat)
  /-- R512: While rest lasts the OCV correction repeats every 60 s. -/
  | restRepeat (k : Nat)
  /-- R506: Every 10 ms each string counter is checked, putting a failed pack into fault with zero limits. -/
  | counterCheck (k : Nat) (ok : Bool)
  /-- R519: Every hour the estimator writes each pack's double-buffered MRAM record. -/
  | packRecordWrite
  /-- R521: A pack is enabled or its voltage rises through VMIN/10 after 1 s below, and it enters pending. -/
  | packInsert (k : Nat) (mv : Int)
  /-- R521: EST_CMD op 1 inserts a pack again for a fresh first estimate. -/
  | reestimate (k : Nat)
  /-- R521: EST_CMD op 2 resets CAP and CYCLES of a replaced pack and reinserts it. -/
  | newpack (k : Nat)
  /-- R521: After 10 s of rest or at 60 s from insertion the pack receives its first estimate. -/
  | firstEstimate (k : Nat)
  /-- R522: HP charge current falls below HPICHG/10 and the charge ends. -/
  | hpChargeEnd (mA : Int)
  /-- R524: Every 1 s in Stow the HP counter and comparison run, arming Furl when HP is depleted. -/
  | hpStowCheck (countDelta : Int) (mv : Int)
  /-- R527: A write to TIM_INCH sets the device-time increment from the next clock, clamped to its range. -/
  | incrementWrite (ns : Nat)
  /-- R531: A write to TIM_STEP requests, replaces or withdraws a pending step, or is refused under RUNLOCK. -/
  | timeStepRequest (ms : Int)
  /-- R532: Writing TIM_CTL.LOCK sets RUNLOCK until reset. -/
  | runlockSet
  /-- R539: Writing TIM_CALCTL.GO takes the instant and source as a pending calendar set. -/
  | calendarSet (src : Nat)
  /-- R540: At the leap instant K changes by one second, TAIUTC adjusts and PEND clears. -/
  | leapSecond
  /-- R541: No RTC oscillator edge for 1 ms sets OSCF, clears RTCVALID and sets cause OSCF. -/
  | rtcOscFail
  /-- R541: The RTC seconds equal TIM_ALARM, raising cause ALARM and the RTC wake source. -/
  | rtcAlarm
  /-- R538: At each whole calendar second in Run and Luff the second is loaded into the RTC. -/
  | rtcSecondLoad
  /-- R535: At each whole second of device time PPSO gives a 100 us pulse when enabled. -/
  | ppsOut
  /-- R535: A filtered rising edge on PPSI captures device time into TIM_PPSI. -/
  | ppsIn
  /-- R542: Reading a timestamp FIFO's INFO removes its head entry. -/
  | timestampRead (q : Nat)
  /-- R536: A waiting timed frame's launch time arrives and it starts on the wire. -/
  | launchTimeReached (src : Nat)
  /-- R555: Setting CAN CTL.EN starts the controller, optionally with bit-rate detection, or records a pending enable. -/
  | canEnable (n : Nat)
  /-- R555: Clearing EN lets the frame on the wire end and aborts every queued entry. -/
  | canDisable (n : Nat)
  /-- R555: The stopping controller finishes and is off with CANnTX recessive. -/
  | canStopComplete (n : Nat)
  /-- R555: An enabled controller sees 11 recessive bits and joins the bus. -/
  | canBusJoin (n : Nat)
  /-- R554: Command RECOVER starts bus-off recovery. -/
  | canRecover (n : Nat)
  /-- R551: Command ABORT removes the head entry, or aborts it if it loses arbitration or errs. -/
  | canAbort (n : Nat)
  /-- R551: Command ABORTALL aborts every queued entry in the same way. -/
  | canAbortAll (n : Nat)
  /-- R548: Writing TXPUSH queues the staged frame, or is refused with PUSHERR when full. -/
  | canPush (n : Nat)
  /-- R553: Writing RXACK.CNT returns the oldest receive entries to the controller. -/
  | canRxReturn (n cnt : Nat)
  /-- R549: Reading the second TXEV word removes the head of the transmit event FIFO. -/
  | canTxEventRead (n : Nat)
  /-- R544: A write to the bit-timing fields is accepted only while EN is 0 and in range. -/
  | canTimingWrite (n : Nat) (reg : Nat) (v : Word)
  /-- R553: A valid accepted frame is written to the receive ring, or discarded when the ring is full. -/
  | canFrameReceived (n : Nat) (f : CanFrame)
  /-- R549: The head frame is sent, loses arbitration or errs, and a completion enters the event FIFO or it is retried. -/
  | canTxComplete (n : Nat) (r : CanTxResult)
  /-- R554: 128 occurrences of 11 recessive bits end bus-off recovery. -/
  | canRecoveryComplete (n : Nat)
  /-- R547: A bit-rate detection window ends and the next nominal set is tried or NORATE is set. -/
  | abdWindowEnd (n : Nat) (framesOk framesBad : Nat)
  /-- R556: The ISO 11898-2 wake-up pattern is seen on an enabled CANnRX in Slack or Stow. -/
  | canWakePattern (n : Nat)
  /-- R560: A mains zero crossing on DKZC0 is stamped, HCNT advances and the mains class is updated. -/
  | zeroCrossing (rising : Bool)
  /-- R560: No crossing for 100 ms sets the mains class to none and stops transmission. -/
  | mainsLost
  /-- R561: A Deckline slot begins and its symbols are sent or received. -/
  | slotStart (slot : Nat)
  /-- R570: A segment arrives and is checked, its units recorded and failure counts updated. -/
  | segmentReceived (src : Nat) (seg : DklSegment)
  /-- R569: A complete DATA frame is delivered to the receive ring or forwarded, and acknowledged. -/
  | dklDataFrame (f : DklDataFrame)
  /-- R571: An ACK frame arrives and the sender repeats missing units or completes its frame. -/
  | dklAckFrame (src : Nat) (frame : Nat) (bitmap : List Bool) (degraded : Option (Nat × List Nat))
  /-- R565: A sounding is received and the receiver picks a map per slot and carrier. -/
  | soundFrame (src : Nat) (snr : List (List Nat))
  /-- R565: A MAP frame arrives and the sender uses its maps from the next half-cycle. -/
  | mapFrame (src : Nat) (maps : List (List Nat))
  /-- R572: A JOIN frame arrives and the coordinator assigns an address and enters the node as pending. -/
  | joinFrame (id previous delta : Nat)
  /-- R575: A NEIGH report arrives and the coordinator recomputes routes. -/
  | neighFrame (src : Nat) (neigh : List (Nat × Nat))
  /-- R571: No ACK within 2 of the sender's half-cycles causes every unacknowledged unit to be repeated. -/
  | ackTimeout (dst : Nat)
  /-- R572: A pending node not approved within 10 s is dropped. -/
  | joinApprovalTimeout (n : Nat)
  /-- R572: Writing APPROVE in a node entry sends ASSIGN to the pending node. -/
  | nodeApprove (n : Nat)
  /-- R569: Writing TXCTL.GO queues a DATA frame, or refuses it with TXFAIL when the queue is full. -/
  | dklSend (v : Word)
  /-- R577: Writing RXACK returns Deckline receive entries. -/
  | dklRxReturn (cnt : Nat)
  /-- R577: Reading TXEV removes the head completion. -/
  | dklTxEventRead
  /-- R576: Setting DKL_CTL.EN starts the block, or records a pending enable while stopping. -/
  | dklEnable
  /-- R576: Clearing EN ends the half-cycle, fails queued frames and puts drivers in high impedance. -/
  | dklDisable
  /-- R565: MAPPER seconds pass on a link and a new sounding is run. -/
  | soundingDue (dst : Nat)
  /-- R582: A write to SQTAIL announces new descriptors, or is ignored with QSTAT.ERR for an invalid slot. -/
  | hostDoorbell (q : Nat) (tail : Nat)
  /-- R584: When limits and completion room allow, the device fetches the next descriptor by priority and round-robin. -/
  | descriptorFetch
  /-- R588: Device operation 0x80 completes with no effect. -/
  | hostNop (slot : Nat)
  /-- R588: Device operation 0x81 checks a boot or recovery image and writes it to the non-running slot. -/
  | install (slot : Nat)
  /-- R588: Device operation 0x82 writes archived records and envelopes for an ISEQ range in steps. -/
  | exportArchive (slot : Nat)
  /-- R588: Device operation 0x83 removes archive groups older than the given age whose roots are archived. -/
  | compact (slot : Nat)
  /-- R588: Device operation 0x84 starts a new device key generation. -/
  | hostKeygen (slot : Nat)
  /-- R588: Device operation 0x85 returns a signed attestation report. -/
  | hostAttest (slot : Nat)
  /-- R592: Device operation 0x86 aborts an operation in flight on the same queue. -/
  | hostAbort (slot : Nat)
  /-- R588: Device operation 0x8F boots an image at window offset 0, served only by the boot ROM. -/
  | hostBoot (slot : Nat)
  /-- R586: A message descriptor is copied into its hart's message ring and event 9 + n is raised. -/
  | messageOperation (slot : Nat)
  /-- R586: Writing HCOMP GO writes a message completion, or sets ERR or LATE for a tag not in flight. -/
  | hartCompletion (n : Nat)
  /-- R586: Writing HST_HACK returns message ring entries. -/
  | hartRingReturn (n : Nat) (cnt : Nat)
  /-- R585: The host writes CQHEAD to return completion slots. -/
  | completionReturn (q : Nat) (head : Nat)
  /-- R587: A message operation not completed within TMO is completed with status 7. -/
  | messageTimeout (slot : Nat)
  /-- R599: Setting QCFG.EN starts a queue with PHASE 1, or records a pending enable while stopping. -/
  | queueEnable (q : Nat)
  /-- R599: Clearing QCFG.EN stops fetching and moves the queue to stopping until its operations complete. -/
  | queueDisable (q : Nat)
  /-- R585: An operation ends and its completion is written with PHASE, optionally raising event 8. -/
  | operationComplete (slot : Nat)
  /-- R590: The storage engine runs one step of at most 4,096 bytes for archive writes, EXPORT, COMPACT or program requests. -/
  | storageStep
  /-- R595: A hart write of 1 to EVT_PEND clears a pending bit, which sets again if its cause is still held. -/
  | eventClear (ini : Initiator) (j : Nat) (mask : Word)
  /-- R598: A host write to the event mirror clears pending bits of sources routed to host lines. -/
  | hostEventClear (j : Nat) (mask : Word)
  /-- R596: A write to LINEACK resends the MSI vector of a still-active line. -/
  | lineAck (mask : Byte)
  /-- R601: The host link comes up or goes down and cause LINK is set. -/
  | hostLinkChange (up : Bool)
  /-- R580: QSPI command 0x32 writes host-page or window data, discarded while not ready. -/
  | qspiWrite (addr : BitVec 24) (data : List Byte)
  /-- R580: QSPI command 0xEB reads host-page or window data, returning 0 while not ready. -/
  | qspiRead (addr : BitVec 24) (len : Nat)
  /-- R580: QSPI command 0x05 returns the status byte with READY. -/
  | qspiStatus
  /-- R610: Setting ETH_CTL.EN starts the MAC, or records a pending enable while stopping. -/
  | ethEnable (m : Nat)
  /-- R610: Clearing EN lets the frame on the wire end and completes owned descriptors with ERR. -/
  | ethDisable (m : Nat)
  /-- R610: The stopping MAC finishes and is off with RGMII idle. -/
  | ethStopComplete (m : Nat)
  /-- R606: Writing ETH_TXTAIL hands transmit descriptors to the MAC. -/
  | ethTxTail (m r tail : Nat)
  /-- R606: A frame is sent or refused, its status written, OWN cleared and TXHEAD advanced. -/
  | ethTxComplete (m r : Nat)
  /-- R607: A frame passing FCS and filters is written to the receive ring, or discarded and counted. -/
  | ethFrameReceived (m : Nat) (frame : List Byte) (fcsOk : Bool)
  /-- R609: A received PAUSE frame holds ring 1 when RXPAUSE is set. -/
  | ethPause (m : Nat) (quanta : Nat)
  /-- R609: The pause time of a received PAUSE frame ends and ring 1 resumes. -/
  | ethPauseEnd (m : Nat)
  /-- R607: Writing ETH_RXACK returns receive entries to the MAC. -/
  | ethRxReturn (m cnt : Nat)
  /-- R605: Writing ETH_MDIO.GO starts a clause 22 or 45 management transaction. -/
  | mdioTransaction (m : Nat) (v : Word)
  /-- R605: An MDIO transaction ends and cause MDIODONE is set. -/
  | mdioDone (m : Nat) (readData : BitVec 16)
  /-- R604: A write of SPEED is accepted while EN is 0, or refused with CFGERR. -/
  | ethConfigWrite (m : Nat) (v : Word)
  /-- R615: Writing STO_REQ GO starts a program-area read or write, or ends it at once with an error. -/
  | stoRequest (k : Nat) (v : Word)
  /-- R612: The controller initialises the eMMC, reads EXT_CSD and selects and tunes the fastest common bus mode. -/
  | emmcInit (found : Bool) (mode : Nat) (blocks : Nat) (preEol estA estB : Nat)
  /-- R616: An eMMC command fails its CRC or times out and is retried, reinitialising after 3 failures. -/
  | emmcCommandFail
  /-- R616: Every 10 s while the device is absent the controller retries initialisation. -/
  | emmcRetry
  /-- R617: Every 24 h the controller reads the eMMC wear indicators and sets WEAR when due. -/
  | emmcHealth (preEol estA estB : Nat)
  /-- R625: HP is removed while the device is in Stow, which is a power loss. -/
  | hpRemoved
  /-- R164: A guard lane receives the downstream traffic or a far-end RANGE frame of its neighbour's chain, checks it, echoes ranging and updates GUARDOK, GLINK and GSILENT. -/
  | guardLaneTraffic (j : Nat) (frame : List Byte)
  /-- R187: A cell lane's receiver loses lock on its symbol stream, counting RELOCK and taking the lane down. -/
  | laneLockLost (j : Nat)
  /-- R534: A PTP event frame arrives on a Crateuth port and its timestamp is captured into that port's FIFO. -/
  | ringPtpFrame (port msgType seq domain : Nat)
  /-- R554: The controller detects a bus error while receiving, updating REC, LEC and the fault-confinement state. -/
  | canRxError (n : Nat) (lec : Nat)
  /-- R284: A front-end's 10BASE-T1S PHY link comes up, a condition for leaving LINK toward SETUP. -/
  | t1sLinkUp (f : Nat)
  /-- R297: The T1S, PLC or TCP link to the vehicle is lost, ending the session with cause LINK. -/
  | vehicleLinkLost (c : Nat)
  deriving DecidableEq, Repr

end Sys2Proof
end

