-- ==== Sys2Proof/Decode.lean ====
section
/-! DEFINITION. The opcode table gives no row of this block any bits: its rows are commands, not encoded words. -/

namespace Sys2Proof

/-- The command that a word of the table's bits spells: none, since no row has bits. -/
def decodeTableWord (_nbits _w : Nat) : Option Instr := none

end Sys2Proof
end

