-- ==== Sys2Proof/Config.lean ====
section
/-! DEFINITION. What the manual leaves open: free values and the functions of standards that stand
outside it. None has a body that a proof can look into. -/

namespace Sys2Proof.Config

/-- A value the manual leaves open, one for each draw (assumption 4). -/
opaque freeValue : Nat → Nat

/-- SHAKE256 (FIPS 202): input and output length in bytes. -/
opaque shake256 : List Byte → Nat → List Byte

/-- The hashes of R410 (FIPS 180-4, FIPS 202), by ALG: input and output length in bytes. -/
opaque hash : Nat → List Byte → Nat → List Byte

/-- HMAC (FIPS 198-1) by ALG: key and message. -/
opaque hmac : Nat → List Byte → List Byte → List Byte

/-- HKDF-Extract and HKDF-Expand (RFC 5869) by ALG: salt and input; key, info and length. -/
opaque hkdfExtract : Nat → List Byte → List Byte → List Byte
opaque hkdfExpand : Nat → List Byte → List Byte → Nat → List Byte

/-- An AES-GCM job (NIST SP 800-38D) over a source whose header layout the manual does not give: encrypt or
decrypt, key, source; `none` where the tag fails. -/
opaque aesGcm : Bool → List Byte → List Byte → Option (List Byte)

/-- ECDHE (P-256, P-521) by ALG: public share of a private one; secret of a private share and a peer's. -/
opaque ecdhPublic : Nat → Nat → List Byte
opaque ecdhDerive : Nat → Nat → List Byte → List Byte

/-- The two AES-256-GCM keys of a ring link (R458), by HKDF with SHA-384 whose labels the manual does not give:
ring secret as salt, ECDHE secret. -/
opaque linkKeys : List Byte → List Byte → List Byte × List Byte

/-- Public key and signature of a TLS slot's key (ECDSA, Ed448): type, private key, then nonce and message. -/
opaque tlsPublic : Nat → Nat → List Byte
opaque tlsSign : Nat → Nat → Nat → List Byte → List Byte

/-- Verification by ALG of R410: public key and source. -/
opaque verify : Nat → List Byte → List Byte → Bool

/-- Random bytes of the Hash_DRBG (NIST SP 800-90A): which request, length. -/
opaque randomBytes : Nat → Nat → List Byte

/-- Serial number of the device, in fuses (R390). -/
opaque devSer : Nat

/-- Public key and signature of a device key, whose seeds come from DEVSECRET in fuses (R388, R390): key 0
meter or 1 attestation, generation, then index and message. -/
opaque devicePublic : Nat → Nat → List Byte
opaque deviceSign : Nat → Nat → Nat → List Byte → List Byte

/-- A word of the device certificate, written at manufacture (R406). -/
opaque certWord : Nat → BitVec 32

/-- XMSS verification (RFC 8391): public key, message, signature. -/
opaque xmssVerify : List Byte → List Byte → List Byte → Bool

/-- The vendor firmware key held in the boot ROM (R51). -/
opaque vendorKey : List Byte

/-- A byte of the boot ROM (R77): its contents are not in the manual. -/
opaque bootRom : Nat → Byte

/-- A byte of the MRAM system area (R77): its layout is not in the manual. The first argument is the
model's count of draws, so no two reads need agree. -/
opaque mramSystem : Nat → Nat → Byte

/-- The text a legal display shows for an item whose layout the manual does not give (R385): item code and
the values it shows. -/
opaque displayText : Nat → List Nat → List Byte

/-- Bytes of the host's own memory, which the block reads over PCI Express (R583): draw, address, length. -/
opaque hostBytes : Nat → Nat → Nat → List Byte

/-- Virmel's PCI-SIG vendor identifier, in fuses (R579). -/
opaque vendorId : BitVec 16

/-- Blocks of the eMMC that an archive item of a given length takes (R613): the format of the archive is not in
the manual. -/
opaque archiveBlocks : Nat → Nat

/-- Payload of a Deckline frame of the block itself whose layout the manual does not give (R565, R572): TYPE and
what it carries. -/
opaque decklinePayload : Nat → List Nat → List Byte

end Sys2Proof.Config
end

