-- ==== Sys2Proof/Machine/Bits.lean ====
section
/-! DEFINITION. Bit fields, signed readings and byte order: the helpers every block shares (R5, R8). -/

namespace Sys2Proof.Machine

/-- Bits `lsb` to `lsb + width - 1` of a word, as a number. -/
def bitsOf (w : Word) (lsb width : Nat) : Nat := w.toNat / 2 ^ lsb % 2 ^ width

/-- The word with bits `lsb` to `lsb + width - 1` replaced by the low bits of `v`. -/
def withBits (w : Word) (lsb width v : Nat) : Word :=
  let mask := BitVec.ofNat 32 ((2 ^ width - 1) * 2 ^ lsb)
  (w &&& ~~~mask) ||| (BitVec.ofNat 32 (v % 2 ^ width * 2 ^ lsb))

/-- The two's-complement reading of the low `width` bits of a number. -/
def signedOf (width v : Nat) : Int :=
  let x := v % 2 ^ width
  if x < 2 ^ (width - 1) then (x : Int) else (x : Int) - (2 ^ width : Nat)

/-- The low `width` bits of an integer, as a number. -/
def unsignedOf (width : Nat) (v : Int) : Nat := (v % (2 ^ width : Nat)).toNat

/-- An integer brought into the range `lo` to `hi`. -/
def clampInt (lo hi v : Int) : Int := max lo (min hi v)

/-- A natural number brought into the range `lo` to `hi`. -/
def clampNat (lo hi v : Nat) : Nat := max lo (min hi v)

/-- A counter of `width` bits that stops at its largest value. -/
def satInc (width v : Nat) : Nat := min (v + 1) (2 ^ width - 1)

/-- A sum that stops at the largest value of `width` bits. -/
def satAdd (width v n : Nat) : Nat := min (v + n) (2 ^ width - 1)

/-- The little-endian number a list of bytes spells (R8). -/
def leNat : List Byte → Nat
  | [] => 0
  | b :: bs => b.toNat + 256 * leNat bs

/-- The `n` little-endian bytes of a number. -/
def leBytes : Nat → Nat → List Byte
  | 0, _ => []
  | n + 1, v => BitVec.ofNat 8 v :: leBytes n (v / 256)

/-- One bit of a number. -/
def bitOf (v i : Nat) : Bool := v.testBit i

/-- A number with one bit set. -/
def setBit (v i : Nat) : Nat := v ||| 2 ^ i

/-- A number with one bit cleared. -/
def clearBit (v i : Nat) : Nat := if v.testBit i then v - 2 ^ i else v

/-- The number of bits set among the low `n` bits. -/
def popCount (n v : Nat) : Nat := (List.range n).foldl (fun c i => if v.testBit i then c + 1 else c) 0

/-- The first index below `n` that satisfies a test. -/
def firstBelow (n : Nat) (p : Nat → Bool) : Option Nat := (List.range n).find? p

/-- Places a member in an ordered list, before its equals. -/
def placeBy {α : Type} (le : α → α → Bool) (x : α) : List α → List α
  | [] => [x]
  | y :: ys => if le x y then x :: y :: ys else y :: placeBy le x ys

/-- A list in order, equal members in their old order. -/
def sortBy {α : Type} (le : α → α → Bool) (l : List α) : List α := l.foldr (placeBy le) []

/-- 0 or 1. -/
def b2n (b : Bool) : Nat := if b then 1 else 0

/-- `a ÷ b`, rounded up; 0 where `b` is 0. -/
def ceilDiv (a b : Nat) : Nat := (a + b - 1) / b

/-- An integer quotient rounded to nearest, halves away from zero. -/
def roundDiv (a : Int) (b : Nat) : Int :=
  if 0 ≤ a then (2 * a + b) / (2 * b) else -((2 * (-a) + b) / (2 * b))

/-- An integer quotient rounded toward zero. -/
def truncDiv (a : Int) (b : Nat) : Int := Int.tdiv a b

/-- An integer quotient rounded toward minus infinity (an arithmetic right shift). -/
def floorDiv (a : Int) (b : Nat) : Int := Int.fdiv a b

end Sys2Proof.Machine
end

