-- ==== Sys2Proof/Machine/Cells.lean ====
section
/-! DEFINITION. Sparse storage: a list of (address, value) pairs in one canonical form, addresses
strictly rising and no entry equal to what an unlisted address reads as. Memory and the register
file both use it. -/

namespace Sys2Proof.Machine

/-- What the list holds at a key, if it lists the key. -/
def cellsFind {α : Type} : List (Nat × α) → Nat → Option α
  | [], _ => none
  | (k, v) :: rest, key => if k = key then some v else cellsFind rest key

/-- Reads a key; an unlisted key reads as `d`. -/
def cellsGet {α : Type} (d : α) (cells : List (Nat × α)) (key : Nat) : α :=
  (cellsFind cells key).getD d

/-- Removes a key. -/
def cellsErase {α : Type} : List (Nat × α) → Nat → List (Nat × α)
  | [], _ => []
  | (k, v) :: rest, key =>
    if k = key then cellsErase rest key else (k, v) :: cellsErase rest key

/-- Lists a key with a value in a rising list. -/
def cellsInsert {α : Type} : List (Nat × α) → Nat → α → List (Nat × α)
  | [], key, x => [(key, x)]
  | (k, v) :: rest, key, x =>
    if k = key then (k, x) :: rest
    else if key < k then (key, x) :: (k, v) :: rest
    else (k, v) :: cellsInsert rest key x

/-- Writes a key: writing what an unlisted key reads as removes the entry. -/
def cellsPut {α : Type} [DecidableEq α] (d : α) (cells : List (Nat × α)) (key : Nat) (x : α) :
    List (Nat × α) :=
  if x = d then cellsErase cells key else cellsInsert cells key x

/-- Keys rise strictly from the lower bound on, and no entry holds the unlisted value. -/
def cellsWfFrom {α : Type} [DecidableEq α] (d : α) : Nat → List (Nat × α) → Bool
  | _, [] => true
  | lo, (k, v) :: rest => decide (lo ≤ k) && decide (v ≠ d) && cellsWfFrom d (k + 1) rest

/-- The canonical form. -/
def cellsWf {α : Type} [DecidableEq α] (d : α) (cells : List (Nat × α)) : Bool :=
  cellsWfFrom d 0 cells

end Sys2Proof.Machine
end

