-- ==== Sys2Proof/Machine/RegMap.lean ====
section
/-! DEFINITION. The register map: every register of the manual's register tables, with the
writable, write-one-to-clear, write-only and reset-surviving bits and the reset word of each,
and every field as a named bit range (R11, R13 and the register table of each block). -/

namespace Sys2Proof.Machine

/-- How the reset word of a register array depends on the member, where a table says so. -/
inductive Vary where
  | none | cellMap | frontEnd | displayUnit | tripLimit
  deriving DecidableEq, Repr

/-- One register, or one array of registers, of a block's register table. -/
structure Rg where
  /-- bus address of the first member -/
  addr : Nat
  /-- (count, stride in bytes) of each dimension, outermost first; none for a single register -/
  dims : List (Nat × Nat)
  /-- bits that a program writes and reads back (RW, RWS) -/
  rw : Word
  /-- bits cleared by writing 1 (W1C, W1CS) -/
  w1c : Word
  /-- bits that take effect when written and read 0 (WO) -/
  wo : Word
  /-- bits that a warm reset keeps -/
  keep : Word
  /-- bits kept in MRAM, which a cold reset keeps too -/
  mram : Word
  /-- the reset word (of member 0 where `vary` is not `none`) -/
  reset : Word
  vary : Vary := .none
  deriving DecidableEq, Repr

/-- One field of a register: bits `lsb` to `lsb + width - 1`. -/
structure Fld where
  reg : Rg
  lsb : Nat
  width : Nat
  deriving DecidableEq, Repr

namespace R

/-! ### SYS (spec/02_clocks_power_reset.md, R23) -/
def SYS_ID : Rg := ⟨0x40000000, [], 0x0, 0x0, 0x0, 0x0, 0x0, 0x51200200, .none⟩
def SYS_CLKSTAT : Rg := ⟨0x40000010, [], 0x0, 0xa, 0x0, 0x2, 0x0, 0x4, .none⟩
def SYS_SUPSTAT : Rg := ⟨0x40000014, [], 0x0, 0x0, 0x0, 0x0, 0x0, 0x0, .none⟩
def SYS_PWRCTL : Rg := ⟨0x40000020, [], 0x7, 0x0, 0xff00, 0x0, 0x0, 0x0, .none⟩
def SYS_PWRSTAT : Rg := ⟨0x40000024, [], 0x0, 0xf000, 0x0, 0x0, 0x0, 0x0, .none⟩
def SYS_WAKEEN : Rg := ⟨0x40000028, [], 0xff, 0x0, 0x0, 0x0, 0x0, 0x0, .none⟩
def SYS_WAKESRC : Rg := ⟨0x4000002c, [], 0x0, 0xff, 0x0, 0x0, 0x0, 0x0, .none⟩
def SYS_SAVECFG : Rg := ⟨0x40000030, [], 0x1, 0x0, 0x0, 0x1, 0x0, 0x0, .none⟩
def SYS_SAVESTAT : Rg := ⟨0x40000034, [], 0x0, 0x0, 0x0, 0xffff0f76, 0x0, 0x0, .none⟩
def SYS_RSTCTL : Rg := ⟨0x40000040, [], 0x0, 0x0, 0xffff0003, 0x0, 0x0, 0x0, .none⟩
def SYS_RSTCAUSE : Rg := ⟨0x40000044, [], 0x0, 0x7ff, 0x0, 0x7ff, 0x0, 0x1, .none⟩
def SYS_WDTCTL : Rg := ⟨0x40000048, [], 0x800003ff, 0x0, 0x0, 0x800003ff, 0x0, 0x3e8, .none⟩
def SYS_WDTKICK : Rg := ⟨0x4000004c, [], 0x0, 0x0, 0xff, 0x0, 0x0, 0x0, .none⟩
def SYS_BOOTSTAT : Rg := ⟨0x40000050, [], 0x0, 0x0, 0x0, 0x0, 0x0, 0x0, .none⟩
def SYS_BOOTCFG : Rg := ⟨0x40000054, [], 0x0, 0x0, 0x1, 0x0, 0x0, 0x0, .none⟩
def SYS_HARTCTL : Rg := ⟨0x40000100, [(4, 0x4)], 0x0, 0x0, 0x7, 0x0, 0x0, 0x0, .none⟩
def SYS_HARTSTAT : Rg := ⟨0x40000110, [(4, 0x4)], 0x0, 0x0, 0x0, 0xff0000, 0x0, 0x100, .none⟩
def SYS_HARTENTRY : Rg := ⟨0x40000120, [(4, 0x4)], 0xfffffffc, 0x0, 0x0, 0x0, 0x0, 0x0, .none⟩
def SYS_OWNER0 : Rg := ⟨0x40000140, [], 0xffffffff, 0x0, 0x0, 0x0, 0x0, 0xffffffff, .none⟩
def SYS_OWNER1 : Rg := ⟨0x40000144, [], 0xffffffff, 0x0, 0x0, 0x0, 0x0, 0xffffffff, .none⟩
def SYS_OWNER2 : Rg := ⟨0x40000148, [], 0xfff, 0x0, 0x0, 0x0, 0x0, 0xfff, .none⟩
def SYS_OWNERLOCK : Rg := ⟨0x4000014c, [], 0x1, 0x0, 0x0, 0x0, 0x0, 0x0, .none⟩
def SYS_MBOXTX : Rg := ⟨0x40000180, [(4, 0x4)], 0x0, 0x0, 0xffffffff, 0x0, 0x0, 0x0, .none⟩
def SYS_MBOXRX : Rg := ⟨0x40000190, [], 0x0, 0x0, 0x0, 0x0, 0x0, 0x0, .none⟩
def SYS_MBOXSTAT : Rg := ⟨0x40000194, [], 0x0, 0x1f0000, 0x0, 0x0, 0x0, 0x0, .none⟩
/-! ### LPE (spec/04_loop_engine.md, R162) -/
def LPE_CTL : Rg := ⟨0x40040000, [], 0x1ff00, 0x0, 0x0, 0x0, 0x0, 0x0, .none⟩
def LPE_STAT : Rg := ⟨0x40040004, [], 0x0, 0x1df, 0x0, 0x0, 0x0, 0x0, .none⟩
def LPE_LOAD : Rg := ⟨0x40040008, [], 0x0, 0x0, 0x0, 0x0, 0x0, 0x0, .none⟩
def LPE_TLOAD : Rg := ⟨0x4004000c, [], 0x0, 0x0, 0x0, 0x0, 0x0, 0x0, .none⟩
def LPE_LAUNCH : Rg := ⟨0x40040010, [], 0x1ff, 0x0, 0x0, 0x0, 0x0, 0x80, .none⟩
def LPE_CWSTAT : Rg := ⟨0x40040014, [], 0x0, 0x0, 0x0, 0x0, 0x0, 0x0, .none⟩
def LPE_GROUP : Rg := ⟨0x40040020, [(8, 0x4)], 0x8000ffff, 0x0, 0x0, 0x0, 0x0, 0x7d0, .none⟩
def LPE_TAKE : Rg := ⟨0x40040040, [], 0x0, 0x0, 0x0, 0x0, 0x0, 0x0, .none⟩
def LPE_CELLINIT : Rg := ⟨0x40040050, [], 0x0, 0x0, 0x3ff, 0x0, 0x0, 0x0, .none⟩
def LPE_INJCTL : Rg := ⟨0x40040060, [], 0xffff3f31, 0x4, 0x0, 0x0, 0x0, 0x0, .none⟩
def LPE_INJNODE : Rg := ⟨0x40040064, [], 0xff, 0x0, 0x0, 0x0, 0x0, 0x0, .none⟩
def LPE_INJAMP : Rg := ⟨0x40040068, [], 0x7fffff, 0x0, 0x0, 0x0, 0x0, 0x0, .none⟩
def LPE_INJP0 : Rg := ⟨0x4004006c, [], 0xffffffff, 0x0, 0x0, 0x0, 0x0, 0x0, .none⟩
def LPE_INJP1 : Rg := ⟨0x40040070, [], 0xffffffff, 0x0, 0x0, 0x0, 0x0, 0x0, .none⟩
def LPE_INJLEN : Rg := ⟨0x40040074, [], 0xffffff, 0x0, 0x0, 0x0, 0x0, 0x0, .none⟩
def LPE_CAPCTL : Rg := ⟨0x40040080, [], 0x3f1f, 0x0, 0x0, 0x0, 0x0, 0x0, .none⟩
def LPE_CAPCH : Rg := ⟨0x40040084, [(4, 0x4)], 0xfff, 0x0, 0x0, 0x0, 0x0, 0x0, .none⟩
def LPE_CAPSTAT : Rg := ⟨0x40040094, [], 0x0, 0x30000, 0x0, 0x0, 0x0, 0x0, .none⟩
def LPE_BATCH : Rg := ⟨0x40040100, [(64, 0x4)], 0xffff017f, 0x0, 0x0, 0x0, 0x0, 0x0, .none⟩
def LPE_FECFG : Rg := ⟨0x40040200, [(64, 0x4)], 0x87ffffff, 0x0, 0x0, 0x0, 0x0, 0x1ffff, .none⟩
def LPE_BSTAT : Rg := ⟨0x40040300, [(64, 0x4)], 0x0, 0xf8, 0x0, 0x0, 0x0, 0x0, .none⟩
def LPE_SATST : Rg := ⟨0x40040400, [(64, 0x4)], 0x0, 0xffff, 0x0, 0x0, 0x0, 0x0, .none⟩
def LPE_FEST : Rg := ⟨0x40040500, [(64, 0x4)], 0x0, 0xffff, 0x0, 0x0, 0x0, 0x0, .none⟩
/-! ### CLN (spec/05_cell_lanes.md, R194) -/
def CLN_CTL : Rg := ⟨0x40080000, [], 0xffff3fff, 0x0, 0x0, 0x0, 0x0, 0x1388, .none⟩
def CLN_STAT : Rg := ⟨0x40080004, [], 0x0, 0x0, 0x0, 0x0, 0x0, 0x0, .none⟩
def CLN_ERRCLR : Rg := ⟨0x40080008, [], 0x0, 0x0, 0xffffffff, 0x0, 0x0, 0x0, .none⟩
def CLN_READMIT : Rg := ⟨0x4008000c, [], 0x0, 0x0, 0x3ff, 0x0, 0x0, 0x0, .none⟩
def CLN_LANECFG : Rg := ⟨0x40080040, [(32, 0x4)], 0xbfffffff, 0x0, 0x0, 0x0, 0x0, 0x200007d0, .none⟩
def CLN_LANESTAT : Rg := ⟨0x400800c0, [(32, 0x4)], 0x0, 0x0, 0x0, 0x0, 0x0, 0x0, .none⟩
def CLN_LANETIM : Rg := ⟨0x40080140, [(32, 0x4)], 0x0, 0x0, 0x0, 0x0, 0x0, 0xffff, .none⟩
def CLN_LANEEV : Rg := ⟨0x400801c0, [(16, 0x4)], 0x0, 0x3fff, 0x0, 0x0, 0x0, 0x0, .none⟩
def CLN_ERRA : Rg := ⟨0x40080200, [(32, 0x4)], 0x0, 0x0, 0x0, 0x0, 0x0, 0x0, .none⟩
def CLN_ERRB : Rg := ⟨0x40080280, [(32, 0x4)], 0x0, 0x0, 0x0, 0x0, 0x0, 0x0, .none⟩
def CLN_ERRC : Rg := ⟨0x40080300, [(32, 0x4)], 0x0, 0x0, 0x0, 0x0, 0x0, 0x0, .none⟩
def CLN_MGREQ : Rg := ⟨0x40080400, [], 0x7fffc000, 0x0, 0x80000000, 0x0, 0x0, 0x4000, .none⟩
def CLN_MGADDR : Rg := ⟨0x40080404, [], 0xffff, 0x0, 0x0, 0x0, 0x0, 0x0, .none⟩
def CLN_MGSTAT : Rg := ⟨0x40080408, [], 0x0, 0x40000000, 0x0, 0x0, 0x0, 0x0, .none⟩
def CLN_MGBUF : Rg := ⟨0x40080420, [(8, 0x4)], 0xffffffff, 0x0, 0x0, 0x0, 0x0, 0x0, .none⟩
def CLN_CELLMAP : Rg := ⟨0x40080800, [(1024, 0x4)], 0x800f001f, 0x0, 0x0, 0x0, 0x0, 0x0, .cellMap⟩
def CLN_CELLST : Rg := ⟨0x40081800, [(1024, 0x4)], 0x0, 0x0, 0x0, 0x0, 0x0, 0x0, .none⟩
def CLN_CAP : Rg := ⟨0x40084000, [(1024, 0x20), (8, 0x4)], 0x0, 0x0, 0x0, 0x0, 0x0, 0x0, .none⟩
/-! ### PRT (spec/06_port_power.md, R234) -/
def PRT_CTL : Rg := ⟨0x400c0000, [], 0xffffffff, 0x0, 0x0, 0x0, 0x0, 0x0, .none⟩
def PRT_STAT : Rg := ⟨0x400c0004, [], 0x0, 0x0, 0x0, 0x0, 0x0, 0x0, .none⟩
def PRT_SNAP : Rg := ⟨0x400c0008, [], 0x0, 0x0, 0x800003ff, 0x0, 0x0, 0x0, .none⟩
def PRT_CELLRST : Rg := ⟨0x400c000c, [], 0x0, 0x0, 0x3ff, 0x0, 0x0, 0x0, .none⟩
def PRT_SNAPOUT : Rg := ⟨0x400c0040, [(7, 0x4)], 0x0, 0x0, 0x0, 0x0, 0x0, 0x0, .none⟩
def PRT_CELL : Rg := ⟨0x400c1000, [(1024, 0x4)], 0xfe000000, 0x0, 0x0, 0x0, 0x0, 0xfe000000, .none⟩
def PRT_GCFG : Rg := ⟨0x400c4000, [(80, 0x80)], 0xffffffff, 0x0, 0x0, 0x0, 0x0, 0xa, .none⟩
def PRT_GCMD : Rg := ⟨0x400c4004, [(80, 0x80)], 0x30, 0x0, 0xf, 0x0, 0x0, 0x0, .none⟩
def PRT_ISET : Rg := ⟨0x400c4008, [(80, 0x80)], 0xffffffff, 0x0, 0x0, 0x0, 0x0, 0x0, .none⟩
def PRT_VSET : Rg := ⟨0x400c400c, [(80, 0x80)], 0xffffffff, 0x0, 0x0, 0x0, 0x0, 0x0, .none⟩
def PRT_RATE : Rg := ⟨0x400c4010, [(80, 0x80)], 0xffffffff, 0x0, 0x0, 0x0, 0x0, 0x3e82710, .none⟩
def PRT_RLL : Rg := ⟨0x400c4014, [(80, 0x80)], 0xffff, 0x0, 0x0, 0x0, 0x0, 0x0, .none⟩
def PRT_IRATED : Rg := ⟨0x400c4018, [(80, 0x80)], 0xffffff, 0x0, 0x0, 0x0, 0x0, 0x0, .none⟩
def PRT_PCFG : Rg := ⟨0x400c401c, [(80, 0x80)], 0x3fffffff, 0x0, 0x0, 0x0, 0x0, 0xa1388, .none⟩
def PRT_EMAX : Rg := ⟨0x400c4020, [(80, 0x80)], 0xffffffff, 0x0, 0x0, 0x0, 0x0, 0x4e204e20, .none⟩
def PRT_CNOM : Rg := ⟨0x400c4024, [(80, 0x80)], 0xffffff, 0x0, 0x0, 0x0, 0x0, 0x0, .none⟩
def PRT_TIMES : Rg := ⟨0x400c4028, [(80, 0x80)], 0xffffffff, 0x0, 0x0, 0x0, 0x0, 0x1b580064, .none⟩
def PRT_DISCFG : Rg := ⟨0x400c402c, [(80, 0x80)], 0xffffffff, 0x0, 0x0, 0x0, 0x0, 0x52710, .none⟩
def PRT_GSTAT : Rg := ⟨0x400c4030, [(80, 0x80)], 0x0, 0x300000, 0x0, 0x0, 0x0, 0x0, .none⟩
def PRT_GCAUSE : Rg := ⟨0x400c4034, [(80, 0x80)], 0x0, 0x1ffffffd, 0x0, 0x0, 0x0, 0x0, .none⟩
def PRT_ISHEET : Rg := ⟨0x400c4038, [(80, 0x80)], 0x0, 0x0, 0x0, 0x0, 0x0, 0x0, .none⟩
def PRT_IAPP : Rg := ⟨0x400c403c, [(80, 0x80)], 0x0, 0x0, 0x0, 0x0, 0x0, 0x0, .none⟩
def PRT_VAPP : Rg := ⟨0x400c4040, [(80, 0x80)], 0x0, 0x0, 0x0, 0x0, 0x0, 0x0, .none⟩
def PRT_CIDENT : Rg := ⟨0x400c4044, [(80, 0x80)], 0x0, 0x0, 0x0, 0x0, 0x0, 0x0, .none⟩
def PRT_TREP : Rg := ⟨0x400c4048, [(80, 0x80)], 0x0, 0x0, 0x0, 0x0, 0x0, 0x0, .none⟩
def PRT_GTEL : Rg := ⟨0x400c7000, [(80, 0x40), (12, 0x4)], 0x0, 0x0, 0x0, 0x0, 0x0, 0x0, .none⟩
def PRT_CTEL : Rg := ⟨0x400d0000, [(1024, 0x40), (12, 0x4)], 0x0, 0x0, 0x0, 0x0, 0x0, 0x0, .none⟩
/-! ### ALC (spec/07_site_allocation.md, R268) -/
def ALC_CTL : Rg := ⟨0x40100000, [], 0x1ff01, 0x0, 0x3000000, 0x0, 0x0, 0x0, .none⟩
def ALC_STAT : Rg := ⟨0x40100004, [], 0x0, 0xff, 0x0, 0x0, 0x0, 0x100, .none⟩
def ALC_CFG : Rg := ⟨0x40100008, [], 0xffffff, 0x0, 0x0, 0x0, 0x0, 0xff03e8, .none⟩
def ALC_WIN : Rg := ⟨0x4010000c, [], 0xffffffff, 0x0, 0x0, 0x0, 0x0, 0xc801f4, .none⟩
def ALC_AGE : Rg := ⟨0x40100010, [], 0xffffffff, 0x0, 0x0, 0x0, 0x0, 0x0, .none⟩
def ALC_TSOLVE : Rg := ⟨0x40100014, [], 0x0, 0x0, 0x0, 0x0, 0x0, 0x0, .none⟩
def ALC_SEQ : Rg := ⟨0x40100018, [], 0x0, 0x0, 0x0, 0x0, 0x0, 0x0, .none⟩
def ALC_EPOCH : Rg := ⟨0x4010001c, [], 0x0, 0x0, 0x0, 0x0, 0x0, 0x0, .none⟩
def ALC_IDL : Rg := ⟨0x40100020, [], 0x0, 0x0, 0x0, 0x0, 0x0, 0x0, .none⟩
def ALC_IDH : Rg := ⟨0x40100024, [], 0x0, 0x0, 0x0, 0x0, 0x0, 0x0, .none⟩
def ALC_TREEDIG : Rg := ⟨0x40100028, [], 0x0, 0x0, 0x0, 0x0, 0x0, 0x0, .none⟩
def ALC_CNT : Rg := ⟨0x4010002c, [], 0x0, 0x0, 0x0, 0x0, 0x0, 0x0, .none⟩
def ALC_PRICE : Rg := ⟨0x40100030, [], 0xffffffff, 0x0, 0x0, 0x0, 0x0, 0x0, .none⟩
def ALC_REEFFRAC0 : Rg := ⟨0x40100034, [], 0xffffff00, 0x0, 0x0, 0x0, 0x0, 0x50607080, .none⟩
def ALC_REEFFRAC1 : Rg := ⟨0x40100038, [], 0xffffffff, 0x0, 0x0, 0x0, 0x0, 0x203040, .none⟩
def ALC_MISS : Rg := ⟨0x40100040, [(8, 0x4)], 0x0, 0x0, 0x0, 0x0, 0x0, 0x0, .none⟩
def ALC_PREQ : Rg := ⟨0x40100100, [(48, 0x20)], 0xffffffff, 0x0, 0x0, 0x0, 0x0, 0x0, .none⟩
def ALC_PCFG : Rg := ⟨0x40100104, [(48, 0x20)], 0xff07ffff, 0x0, 0x0, 0x0, 0x0, 0x1007fff, .none⟩
def ALC_PRAMP : Rg := ⟨0x40100108, [(48, 0x20)], 0xffffffff, 0x0, 0x0, 0x0, 0x0, 0x0, .none⟩
def ALC_PRATED : Rg := ⟨0x4010010c, [(48, 0x20)], 0xffffffff, 0x0, 0x0, 0x0, 0x0, 0x0, .none⟩
def ALC_PAPPLIED : Rg := ⟨0x40100110, [(48, 0x20)], 0x0, 0x0, 0x0, 0x0, 0x0, 0x0, .none⟩
def ALC_PLAST : Rg := ⟨0x40100114, [(48, 0x20)], 0x0, 0x0, 0x0, 0x0, 0x0, 0x0, .none⟩
def ALC_PGRANT : Rg := ⟨0x40100118, [(48, 0x20)], 0x0, 0x0, 0x0, 0x0, 0x0, 0x0, .none⟩
def ALC_PSTAT : Rg := ⟨0x4010011c, [(48, 0x20)], 0x0, 0x0, 0x0, 0x0, 0x0, 0x0, .none⟩
def ALC_SCFG : Rg := ⟨0x40100800, [(16, 0x20)], 0xff01ffff, 0x0, 0x0, 0x0, 0x0, 0x1007fff, .none⟩
def ALC_SCHGPRICE : Rg := ⟨0x40100804, [(16, 0x20)], 0xffffffff, 0x0, 0x0, 0x0, 0x0, 0x0, .none⟩
def ALC_SDISPRICE : Rg := ⟨0x40100808, [(16, 0x20)], 0xffffffff, 0x0, 0x0, 0x0, 0x0, 0x7fffffff, .none⟩
def ALC_SRAMP : Rg := ⟨0x4010080c, [(16, 0x20)], 0xffffffff, 0x0, 0x0, 0x0, 0x0, 0x0, .none⟩
def ALC_SSETPOINT : Rg := ⟨0x40100810, [(16, 0x20)], 0x0, 0x0, 0x0, 0x0, 0x0, 0x0, .none⟩
def ALC_SLAST : Rg := ⟨0x40100814, [(16, 0x20)], 0x0, 0x0, 0x0, 0x0, 0x0, 0x0, .none⟩
def ALC_SOFFER : Rg := ⟨0x40100818, [(16, 0x20)], 0x0, 0x0, 0x0, 0x0, 0x0, 0x0, .none⟩
def ALC_SSTAT : Rg := ⟨0x4010081c, [(16, 0x20)], 0x0, 0x0, 0x0, 0x0, 0x0, 0x0, .none⟩
def ALC_DYN0 : Rg := ⟨0x40100a00, [(32, 0x10)], 0x80000fff, 0x0, 0x0, 0x0, 0x0, 0x0, .none⟩
def ALC_DYN1 : Rg := ⟨0x40100a04, [(32, 0x10)], 0xffffffff, 0x0, 0x0, 0x0, 0x0, 0xffffffff, .none⟩
def ALC_DYN2 : Rg := ⟨0x40100a08, [(32, 0x10)], 0xffffffff, 0x0, 0x0, 0x0, 0x0, 0x0, .none⟩
def ALC_NODE0 : Rg := ⟨0x40110000, [(4096, 0x8)], 0xffff0fff, 0x0, 0x0, 0x0, 0x0, 0xfff, .none⟩
def ALC_NODE1 : Rg := ⟨0x40110004, [(4096, 0x8)], 0xffffffff, 0x0, 0x0, 0x0, 0x0, 0x0, .none⟩
def ALC_NODEST0 : Rg := ⟨0x40120000, [(4096, 0x8)], 0x0, 0x0, 0x0, 0x0, 0x0, 0x0, .none⟩
def ALC_NODEST1 : Rg := ⟨0x40120004, [(4096, 0x8)], 0x0, 0x0, 0x0, 0x0, 0x0, 0x0, .none⟩
/-! ### VEH (spec/08_vehicle_sessions.md, R298) -/
def VEH_STAT : Rg := ⟨0x40140004, [], 0x0, 0x0, 0x0, 0x0, 0x0, 0xc000000, .none⟩
def VEH_TIM0 : Rg := ⟨0x40140010, [], 0xffffffff, 0x0, 0x0, 0x0, 0x0, 0x283c1432, .none⟩
def VEH_TIM1 : Rg := ⟨0x40140014, [], 0xffffffff, 0x0, 0x0, 0x0, 0x0, 0x3e805dc, .none⟩
def VEH_TIM2 : Rg := ⟨0x40140018, [], 0xffffffff, 0x0, 0x0, 0x0, 0x0, 0x28061414, .none⟩
def VEH_TIM3 : Rg := ⟨0x4014001c, [], 0xffff, 0x0, 0x0, 0x0, 0x0, 0x1388, .none⟩
def VEH_FE : Rg := ⟨0x40140040, [(24, 0x4)], 0xe000003f, 0x0, 0x0, 0x0, 0x0, 0xf000000, .frontEnd⟩
def VEH_FEMACL : Rg := ⟨0x401400c0, [(24, 0x8)], 0xffffffff, 0x0, 0x0, 0x0, 0x0, 0x0, .none⟩
def VEH_FEMACH : Rg := ⟨0x401400c4, [(24, 0x8)], 0xffff, 0x0, 0x0, 0x0, 0x0, 0x0, .none⟩
def VEH_SCFG : Rg := ⟨0x40141000, [(48, 0x80)], 0xf0000007, 0x0, 0x0, 0x0, 0x0, 0x7, .none⟩
def VEH_SCMD : Rg := ⟨0x40141004, [(48, 0x80)], 0x0, 0x0, 0xf, 0x0, 0x0, 0x0, .none⟩
def VEH_SSTAT : Rg := ⟨0x40141008, [(48, 0x80)], 0x0, 0x400, 0x0, 0x0, 0x0, 0x3f0000, .none⟩
def VEH_RXADDR : Rg := ⟨0x4014100c, [(48, 0x80)], 0xffffffff, 0x0, 0x0, 0x0, 0x0, 0x0, .none⟩
def VEH_RXLEN : Rg := ⟨0x40141010, [(48, 0x80)], 0x3fff, 0x0, 0x0, 0x0, 0x0, 0x0, .none⟩
def VEH_TXADDR : Rg := ⟨0x40141014, [(48, 0x80)], 0xffffffff, 0x0, 0x0, 0x0, 0x0, 0x0, .none⟩
def VEH_TXLEN : Rg := ⟨0x40141018, [(48, 0x80)], 0x3fff, 0x0, 0x80000000, 0x0, 0x0, 0x0, .none⟩
def VEH_LIMI : Rg := ⟨0x40141020, [(48, 0x80)], 0xffffffff, 0x0, 0x0, 0x0, 0x0, 0x0, .none⟩
def VEH_LIMV : Rg := ⟨0x40141024, [(48, 0x80)], 0xffffffff, 0x0, 0x0, 0x0, 0x0, 0x0, .none⟩
def VEH_LIMP : Rg := ⟨0x40141028, [(48, 0x80)], 0xffffffff, 0x0, 0x0, 0x0, 0x0, 0x0, .none⟩
def VEH_CHKV : Rg := ⟨0x4014102c, [(48, 0x80)], 0xffffffff, 0x0, 0x0, 0x0, 0x0, 0x0, .none⟩
def VEH_EVI : Rg := ⟨0x40141030, [(48, 0x80)], 0x0, 0x0, 0x0, 0x0, 0x0, 0x0, .none⟩
def VEH_EVV : Rg := ⟨0x40141034, [(48, 0x80)], 0x0, 0x0, 0x0, 0x0, 0x0, 0x0, .none⟩
def VEH_EVSOC : Rg := ⟨0x40141038, [(48, 0x80)], 0x0, 0x0, 0x0, 0x0, 0x0, 0xff, .none⟩
def VEH_LOOPCNT : Rg := ⟨0x4014103c, [(48, 0x80)], 0x0, 0x0, 0x0, 0x0, 0x0, 0x0, .none⟩
/-! ### THM (spec/09_cable_thermal.md, R320) -/
def THM_CTL : Rg := ⟨0x40180000, [], 0xff, 0x0, 0x0, 0x0, 0x0, 0x0, .none⟩
def THM_STAT : Rg := ⟨0x40180004, [], 0x0, 0xff, 0x0, 0x0, 0x0, 0x0, .none⟩
def THM_JSTAT : Rg := ⟨0x40180008, [], 0x40000000, 0x0, 0x0, 0x40000000, 0x0, 0x8000, .none⟩
def THM_SCFG : Rg := ⟨0x40181000, [(80, 0x10)], 0xffc0ffff, 0x0, 0x0, 0x0, 0x0, 0x1fc00d6b, .none⟩
def THM_SLIM : Rg := ⟨0x40181004, [(80, 0x10)], 0xffffffff, 0x0, 0x0, 0x0, 0x0, 0x7fff8001, .none⟩
def THM_SFB : Rg := ⟨0x40181008, [(80, 0x10)], 0xffffffff, 0x0, 0x0, 0x0, 0x0, 0x8000, .none⟩
def THM_SSTAT : Rg := ⟨0x4018100c, [(80, 0x10)], 0x0, 0x0, 0x0, 0x0, 0x0, 0x80000000, .none⟩
def THM_PSEN : Rg := ⟨0x40184000, [(48, 0x80)], 0xfffffff0, 0x0, 0x0, 0x0, 0x0, 0xfffffff0, .none⟩
def THM_PCH : Rg := ⟨0x40184004, [(48, 0x80)], 0xc0007fff, 0x0, 0x0, 0x0, 0x0, 0x7fff, .none⟩
def THM_FLOWCFG : Rg := ⟨0x40184008, [(48, 0x80)], 0xffffffff, 0x0, 0x0, 0x0, 0x0, 0x3e80000, .none⟩
def THM_WIN : Rg := ⟨0x4018400c, [(48, 0x80)], 0xffffffff, 0x0, 0x0, 0x0, 0x0, 0xfa001f4, .none⟩
def THM_LIM : Rg := ⟨0x40184010, [(48, 0x80)], 0xffffffff, 0x0, 0x0, 0x0, 0x0, 0x23281f40, .none⟩
def THM_REEF : Rg := ⟨0x40184014, [(48, 0x80)], 0xffffffff, 0x0, 0x0, 0x0, 0x0, 0x1f40143c, .none⟩
def THM_R20 : Rg := ⟨0x40184018, [(48, 0x80)], 0xffffffff, 0x0, 0x0, 0x0, 0x0, 0x0, .none⟩
def THM_COEF : Rg := ⟨0x4018401c, [(48, 0x80)], 0xffffffff, 0x0, 0x0, 0x0, 0x0, 0xe100f5a, .none⟩
def THM_CAP : Rg := ⟨0x40184020, [(48, 0x80)], 0xffffffff, 0x0, 0x0, 0x0, 0x0, 0x0, .none⟩
def THM_G12 : Rg := ⟨0x40184024, [(48, 0x80)], 0xffffffff, 0x0, 0x0, 0x0, 0x0, 0x0, .none⟩
def THM_OBS : Rg := ⟨0x40184028, [(48, 0x80)], 0xffffff00, 0x0, 0x0, 0x0, 0x0, 0x1000, .none⟩
def THM_IMAXH : Rg := ⟨0x4018402c, [(48, 0x80)], 0xffffffff, 0x0, 0x0, 0x0, 0x0, 0x0, .none⟩
def THM_ISTAT : Rg := ⟨0x40184030, [(48, 0x80)], 0xffffffff, 0x0, 0x0, 0x0, 0x0, 0x0, .none⟩
def THM_FLOW : Rg := ⟨0x40184034, [(48, 0x80)], 0x0, 0x0, 0x0, 0x0, 0x0, 0x0, .none⟩
def THM_TEST : Rg := ⟨0x40184038, [(48, 0x80)], 0x0, 0x0, 0x0, 0x0, 0x0, 0x80008000, .none⟩
def THM_CABLE : Rg := ⟨0x4018403c, [(48, 0x80)], 0x0, 0x0, 0x0, 0x0, 0x0, 0x0, .none⟩
def THM_PSTAT : Rg := ⟨0x40184040, [(48, 0x80)], 0x0, 0x0, 0x0, 0x0, 0x0, 0x80000000, .none⟩
/-! ### MTR (spec/10_metrology.md, R349) -/
def MTR_CTL : Rg := ⟨0x401c0000, [], 0xff, 0x0, 0x0, 0x0, 0x0, 0x0, .none⟩
def MTR_STAT : Rg := ⟨0x401c0004, [], 0x0, 0xff, 0x0, 0x0, 0x0, 0x0, .none⟩
def MTR_CALCNT : Rg := ⟨0x401c0008, [], 0x0, 0x0, 0x0, 0xffffffff, 0xffffffff, 0x0, .none⟩
def MTR_FOLD : Rg := ⟨0x401c000c, [], 0xffff0000, 0x0, 0x0, 0xffff0000, 0x0, 0x0, .none⟩
def MTR_BNDL : Rg := ⟨0x401c0010, [], 0xffffffff, 0x0, 0x0, 0x0, 0x0, 0x0, .none⟩
def MTR_BNDH : Rg := ⟨0x401c0014, [], 0xffffffff, 0x0, 0x0, 0x0, 0x0, 0x0, .none⟩
def MTR_BNDCTL : Rg := ⟨0x401c0018, [], 0x1fff00, 0x40000000, 0x80000000, 0x0, 0x0, 0x0, .none⟩
def MTR_RES0 : Rg := ⟨0x401c0100, [(16, 0x20)], 0x0, 0x0, 0x0, 0x0, 0x0, 0x0, .none⟩
def MTR_RESBL : Rg := ⟨0x401c0104, [(16, 0x20)], 0x0, 0x0, 0x0, 0x0, 0x0, 0x0, .none⟩
def MTR_RESBH : Rg := ⟨0x401c0108, [(16, 0x20)], 0x0, 0x0, 0x0, 0x0, 0x0, 0x0, .none⟩
def MTR_RESEDL : Rg := ⟨0x401c010c, [(16, 0x20)], 0x0, 0x0, 0x0, 0x0, 0x0, 0x0, .none⟩
def MTR_RESEDH : Rg := ⟨0x401c0110, [(16, 0x20)], 0x0, 0x0, 0x0, 0x0, 0x0, 0x0, .none⟩
def MTR_RESFRAC : Rg := ⟨0x401c0114, [(16, 0x20)], 0x0, 0x0, 0x0, 0x0, 0x0, 0x0, .none⟩
def MTR_MIRL : Rg := ⟨0x401c030c, [(16, 0x20)], 0x0, 0x0, 0x0, 0x0, 0x0, 0x0, .none⟩
def MTR_MIRH : Rg := ⟨0x401c0310, [(16, 0x20)], 0x0, 0x0, 0x0, 0x0, 0x0, 0x0, .none⟩
def MTR_MCFG : Rg := ⟨0x401c1000, [(24, 0x80)], 0xc000ffff, 0x0, 0x0, 0x8000ffff, 0x8000ffff, 0x3e8, .none⟩
def MTR_IGAIN : Rg := ⟨0x401c1004, [(24, 0x80)], 0xffffffff, 0x0, 0x0, 0xffffffff, 0xffffffff, 0x0, .none⟩
def MTR_IOFF : Rg := ⟨0x401c1008, [(24, 0x80)], 0xffffffff, 0x0, 0x0, 0xffffffff, 0xffffffff, 0x0, .none⟩
def MTR_VGAIN : Rg := ⟨0x401c100c, [(24, 0x80)], 0xffffffff, 0x0, 0x0, 0xffffffff, 0xffffffff, 0x0, .none⟩
def MTR_VOFF : Rg := ⟨0x401c1010, [(24, 0x80)], 0xffffffff, 0x0, 0x0, 0xffffffff, 0xffffffff, 0x0, .none⟩
def MTR_RCOMP : Rg := ⟨0x401c1014, [(24, 0x80)], 0xffff, 0x0, 0x0, 0xffff, 0xffff, 0x0, .none⟩
def MTR_MSTAT : Rg := ⟨0x401c1018, [(24, 0x80)], 0x0, 0x40000000, 0x0, 0x8000000, 0x0, 0x0, .none⟩
def MTR_EDELL : Rg := ⟨0x401c1020, [(24, 0x80)], 0x0, 0x0, 0x0, 0xffffffff, 0xffffffff, 0x0, .none⟩
def MTR_EDELH : Rg := ⟨0x401c1024, [(24, 0x80)], 0x0, 0x0, 0x0, 0xffffffff, 0xffffffff, 0x0, .none⟩
def MTR_ERECL : Rg := ⟨0x401c1028, [(24, 0x80)], 0x0, 0x0, 0x0, 0xffffffff, 0xffffffff, 0x0, .none⟩
def MTR_ERECH : Rg := ⟨0x401c102c, [(24, 0x80)], 0x0, 0x0, 0x0, 0xffffffff, 0xffffffff, 0x0, .none⟩
def MTR_XDEL : Rg := ⟨0x401c1030, [(24, 0x80)], 0x0, 0x0, 0x0, 0x3fffffff, 0x3fffffff, 0x0, .none⟩
def MTR_XREC : Rg := ⟨0x401c1034, [(24, 0x80)], 0x0, 0x0, 0x0, 0x3fffffff, 0x3fffffff, 0x0, .none⟩
def MTR_RAWDELL : Rg := ⟨0x401c1038, [(24, 0x80)], 0x0, 0x0, 0x0, 0x0, 0x0, 0x0, .none⟩
def MTR_RAWDELH : Rg := ⟨0x401c103c, [(24, 0x80)], 0x0, 0x0, 0x0, 0x0, 0x0, 0x0, .none⟩
def MTR_RAWRECL : Rg := ⟨0x401c1040, [(24, 0x80)], 0x0, 0x0, 0x0, 0x0, 0x0, 0x0, .none⟩
def MTR_RAWRECH : Rg := ⟨0x401c1044, [(24, 0x80)], 0x0, 0x0, 0x0, 0x0, 0x0, 0x0, .none⟩
def MTR_FTI : Rg := ⟨0x401c1048, [(24, 0x80)], 0x0, 0x0, 0x0, 0x0, 0x0, 0x0, .none⟩
def MTR_FTV : Rg := ⟨0x401c104c, [(24, 0x80)], 0x0, 0x0, 0x0, 0x0, 0x0, 0x0, .none⟩
def MTR_MP1 : Rg := ⟨0x401c1050, [(24, 0x80)], 0x0, 0x0, 0x0, 0x0, 0x0, 0x0, .none⟩
def MTR_PCNT : Rg := ⟨0x401c1054, [(24, 0x80)], 0x0, 0x0, 0x0, 0xffffffff, 0xffffffff, 0x0, .none⟩
def MTR_CLOSEI : Rg := ⟨0x401c1058, [(24, 0x80)], 0x0, 0x0, 0x0, 0xffffffff, 0x0, 0x0, .none⟩
def MTR_CLOSEV : Rg := ⟨0x401c105c, [(24, 0x80)], 0x0, 0x0, 0x0, 0xffffffff, 0x0, 0x0, .none⟩
def MTR_CLOSETL : Rg := ⟨0x401c1060, [(24, 0x80)], 0x0, 0x0, 0x0, 0xffffffff, 0x0, 0x0, .none⟩
def MTR_CLOSETH : Rg := ⟨0x401c1064, [(24, 0x80)], 0x0, 0x0, 0x0, 0xffffffff, 0x0, 0x0, .none⟩
def MTR_GCFG : Rg := ⟨0x401c3000, [], 0xc0000000, 0x0, 0x0, 0x40000000, 0x40000000, 0x0, .none⟩
def MTR_GKG : Rg := ⟨0x401c3004, [], 0xffffffff, 0x0, 0x0, 0xffffffff, 0xffffffff, 0x3e803e8, .none⟩
def MTR_CTRATIO : Rg := ⟨0x401c3008, [], 0xffffffff, 0x0, 0x0, 0xffffffff, 0xffffffff, 0x1, .none⟩
def MTR_VTRATIO : Rg := ⟨0x401c300c, [], 0xffffffff, 0x0, 0x0, 0xffffffff, 0xffffffff, 0x1, .none⟩
def MTR_GCAL : Rg := ⟨0x401c3010, [(6, 0x4)], 0xffffffff, 0x0, 0x0, 0xffffffff, 0xffffffff, 0x0, .none⟩
def MTR_GSTAT : Rg := ⟨0x401c3028, [], 0x0, 0x0, 0x0, 0x0, 0x0, 0x0, .none⟩
def MTR_EIMPL : Rg := ⟨0x401c302c, [], 0x0, 0x0, 0x0, 0xffffffff, 0xffffffff, 0x0, .none⟩
def MTR_EIMPH : Rg := ⟨0x401c3030, [], 0x0, 0x0, 0x0, 0xffffffff, 0xffffffff, 0x0, .none⟩
def MTR_EEXPL : Rg := ⟨0x401c3034, [], 0x0, 0x0, 0x0, 0xffffffff, 0xffffffff, 0x0, .none⟩
def MTR_EEXPH : Rg := ⟨0x401c3038, [], 0x0, 0x0, 0x0, 0xffffffff, 0xffffffff, 0x0, .none⟩
def MTR_XIMP : Rg := ⟨0x401c303c, [], 0x0, 0x0, 0x0, 0x3fffffff, 0x3fffffff, 0x0, .none⟩
def MTR_XEXP : Rg := ⟨0x401c3040, [], 0x0, 0x0, 0x0, 0x3fffffff, 0x3fffffff, 0x0, .none⟩
def MTR_GP1 : Rg := ⟨0x401c3044, [], 0x0, 0x0, 0x0, 0x0, 0x0, 0x0, .none⟩
def MTR_GFREQ : Rg := ⟨0x401c3048, [], 0x0, 0x0, 0x0, 0x0, 0x0, 0x0, .none⟩
def MTR_GRMSV : Rg := ⟨0x401c3080, [(3, 0x8)], 0x0, 0x0, 0x0, 0x0, 0x0, 0x0, .none⟩
def MTR_GRMSI : Rg := ⟨0x401c3084, [(3, 0x8)], 0x0, 0x0, 0x0, 0x0, 0x0, 0x0, .none⟩
def MTR_SECDELL : Rg := ⟨0x401c4000, [(48, 0x20)], 0x0, 0x0, 0x0, 0x0, 0x0, 0x0, .none⟩
def MTR_SECDELH : Rg := ⟨0x401c4004, [(48, 0x20)], 0x0, 0x0, 0x0, 0x0, 0x0, 0x0, .none⟩
def MTR_SECRECL : Rg := ⟨0x401c4008, [(48, 0x20)], 0x0, 0x0, 0x0, 0x0, 0x0, 0x0, .none⟩
def MTR_SECRECH : Rg := ⟨0x401c400c, [(48, 0x20)], 0x0, 0x0, 0x0, 0x0, 0x0, 0x0, .none⟩
/-! ### BIL (spec/11_billing.md, R387) -/
def BIL_CTL : Rg := ⟨0x40200000, [], 0x801f07ff, 0x0, 0x60000000, 0x801f0700, 0x801f0700, 0x0, .none⟩
def BIL_STAT : Rg := ⟨0x40200004, [], 0x0, 0x80ff, 0x0, 0xff070000, 0xff070000, 0x0, .none⟩
def BIL_ISEQ : Rg := ⟨0x40200008, [], 0x0, 0x0, 0x0, 0xffffffff, 0xffffffff, 0x0, .none⟩
def BIL_STEPTH : Rg := ⟨0x4020000c, [], 0xffff, 0x0, 0x0, 0x0, 0x0, 0x7d0, .none⟩
def BIL_KOFFL : Rg := ⟨0x40200010, [], 0x0, 0x0, 0x0, 0xffffffff, 0xffffffff, 0x0, .none⟩
def BIL_KOFFH : Rg := ⟨0x40200014, [], 0x0, 0x0, 0x0, 0xffffffff, 0xffffffff, 0x0, .none⟩
def BIL_NEXTL : Rg := ⟨0x40200018, [], 0x0, 0x0, 0x0, 0x0, 0x0, 0x0, .none⟩
def BIL_NEXTH : Rg := ⟨0x4020001c, [], 0x0, 0x0, 0x0, 0x0, 0x0, 0x0, .none⟩
def BIL_ACTAT : Rg := ⟨0x40200020, [], 0xffffffff, 0x0, 0x0, 0x0, 0x0, 0x0, .none⟩
def BIL_ARCH : Rg := ⟨0x40200024, [], 0x0, 0x0, 0x0, 0xffff, 0xffff, 0x0, .none⟩
def BIL_TCOUNT : Rg := ⟨0x40200200, [(16, 0x20)], 0x0, 0x0, 0x0, 0xffffffff, 0xffffffff, 0x0, .none⟩
def BIL_TFIRSTL : Rg := ⟨0x40200204, [(16, 0x20)], 0x0, 0x0, 0x0, 0xffffffff, 0xffffffff, 0x0, .none⟩
def BIL_TFIRSTH : Rg := ⟨0x40200208, [(16, 0x20)], 0x0, 0x0, 0x0, 0xffffffff, 0xffffffff, 0x0, .none⟩
def BIL_TLASTL : Rg := ⟨0x4020020c, [(16, 0x20)], 0x0, 0x0, 0x0, 0xffffffff, 0xffffffff, 0x0, .none⟩
def BIL_TLASTH : Rg := ⟨0x40200210, [(16, 0x20)], 0x0, 0x0, 0x0, 0xffffffff, 0xffffffff, 0x0, .none⟩
def BIL_SPAN0 : Rg := ⟨0x40200400, [(64, 0x8)], 0x0, 0x0, 0x0, 0xffffffff, 0xffffffff, 0xffffffff, .none⟩
def BIL_SPAN1 : Rg := ⟨0x40200404, [(64, 0x8)], 0x0, 0x0, 0x0, 0xffffffff, 0xffffffff, 0x0, .none⟩
def BIL_DCFG : Rg := ⟨0x40200800, [(24, 0x80)], 0x80001f0f, 0x0, 0x0, 0x0, 0x0, 0x0, .displayUnit⟩
def BIL_ITEM : Rg := ⟨0x40200804, [(24, 0x80), (16, 0x4)], 0xffffff, 0x0, 0x0, 0x0, 0x0, 0x0, .none⟩
def BIL_TEXT : Rg := ⟨0x40200844, [(24, 0x80), (4, 0x4)], 0xffffffff, 0x0, 0x0, 0x0, 0x0, 0x20202020, .none⟩
def BIL_DSTAT : Rg := ⟨0x40200854, [(24, 0x80)], 0x0, 0x0, 0x0, 0x0, 0x0, 0x0, .none⟩
def BIL_PSEA0 : Rg := ⟨0x40204000, [(8, 0x8)], 0x8f0f1f00, 0x0, 0x0, 0x0, 0x0, 0x10100, .none⟩
def BIL_PSEA1 : Rg := ⟨0x40204004, [(8, 0x8)], 0xff07ff, 0x0, 0x0, 0x0, 0x0, 0x0, .none⟩
def BIL_PWEEK0 : Rg := ⟨0x40204040, [(16, 0x8)], 0x1f1f1f1f, 0x0, 0x0, 0x0, 0x0, 0x0, .none⟩
def BIL_PWEEK1 : Rg := ⟨0x40204044, [(16, 0x8)], 0x1f1f1f, 0x0, 0x0, 0x0, 0x0, 0x0, .none⟩
def BIL_PDAY : Rg := ⟨0x40204100, [(32, 0x60), (24, 0x4)], 0x800707ff, 0x0, 0x0, 0x0, 0x0, 0x0, .none⟩
def BIL_PSPEC : Rg := ⟨0x40204e00, [(256, 0x4)], 0xdfff0f1f, 0x0, 0x0, 0x0, 0x0, 0x0, .none⟩
def BIL_ASEA0 : Rg := ⟨0x40206000, [(8, 0x8)], 0x0, 0x0, 0x0, 0x8f0f1f00, 0x8f0f1f00, 0x10100, .none⟩
def BIL_ASEA1 : Rg := ⟨0x40206004, [(8, 0x8)], 0x0, 0x0, 0x0, 0xff07ff, 0xff07ff, 0x0, .none⟩
def BIL_AWEEK0 : Rg := ⟨0x40206040, [(16, 0x8)], 0x0, 0x0, 0x0, 0x1f1f1f1f, 0x1f1f1f1f, 0x0, .none⟩
def BIL_AWEEK1 : Rg := ⟨0x40206044, [(16, 0x8)], 0x0, 0x0, 0x0, 0x1f1f1f, 0x1f1f1f, 0x0, .none⟩
def BIL_ADAY : Rg := ⟨0x40206100, [(32, 0x60), (24, 0x4)], 0x0, 0x0, 0x0, 0x800707ff, 0x800707ff, 0x0, .none⟩
def BIL_ASPEC : Rg := ⟨0x40206e00, [(256, 0x4)], 0x0, 0x0, 0x0, 0xdfff0f1f, 0xdfff0f1f, 0x0, .none⟩
def BIL_TDELL : Rg := ⟨0x40208000, [(25, 0x200), (8, 0x8)], 0x0, 0x0, 0x0, 0xffffffff, 0xffffffff, 0x0, .none⟩
def BIL_TDELH : Rg := ⟨0x40208004, [(25, 0x200), (8, 0x8)], 0x0, 0x0, 0x0, 0xffffffff, 0xffffffff, 0x0, .none⟩
def BIL_TRECL : Rg := ⟨0x40208040, [(25, 0x200), (8, 0x8)], 0x0, 0x0, 0x0, 0xffffffff, 0xffffffff, 0x0, .none⟩
def BIL_TRECH : Rg := ⟨0x40208044, [(25, 0x200), (8, 0x8)], 0x0, 0x0, 0x0, 0xffffffff, 0xffffffff, 0x0, .none⟩
def BIL_DMAX0 : Rg := ⟨0x40208080, [(25, 0x200), (8, 0x8)], 0x0, 0x0, 0x0, 0xffffffff, 0xffffffff, 0x0, .none⟩
def BIL_DMAX1 : Rg := ⟨0x40208084, [(25, 0x200), (8, 0x8)], 0x0, 0x0, 0x0, 0xffffffff, 0xffffffff, 0x0, .none⟩
def BIL_DPREV0 : Rg := ⟨0x402080c0, [(25, 0x200), (8, 0x8)], 0x0, 0x0, 0x0, 0xffffffff, 0xffffffff, 0x0, .none⟩
def BIL_DPREV1 : Rg := ⟨0x402080c4, [(25, 0x200), (8, 0x8)], 0x0, 0x0, 0x0, 0xffffffff, 0xffffffff, 0x0, .none⟩
def BIL_SSTARTL : Rg := ⟨0x40208100, [(25, 0x200)], 0x0, 0x0, 0x0, 0xffffffff, 0xffffffff, 0x0, .none⟩
def BIL_SSTARTH : Rg := ⟨0x40208104, [(25, 0x200)], 0x0, 0x0, 0x0, 0xffffffff, 0xffffffff, 0x0, .none⟩
def BIL_SENERGYL : Rg := ⟨0x40208108, [(25, 0x200)], 0x0, 0x0, 0x0, 0xffffffff, 0xffffffff, 0x0, .none⟩
def BIL_SENERGYH : Rg := ⟨0x4020810c, [(25, 0x200)], 0x0, 0x0, 0x0, 0xffffffff, 0xffffffff, 0x0, .none⟩
def BIL_DLAST : Rg := ⟨0x40208110, [(25, 0x200)], 0x0, 0x0, 0x0, 0xffffffff, 0xffffffff, 0x0, .none⟩
def BIL_EBASE0L : Rg := ⟨0x40208118, [(25, 0x200)], 0x0, 0x0, 0x0, 0xffffffff, 0xffffffff, 0x0, .none⟩
def BIL_EBASE0H : Rg := ⟨0x4020811c, [(25, 0x200)], 0x0, 0x0, 0x0, 0xffffffff, 0xffffffff, 0x0, .none⟩
def BIL_EBASE1L : Rg := ⟨0x40208120, [(25, 0x200)], 0x0, 0x0, 0x0, 0xffffffff, 0xffffffff, 0x0, .none⟩
def BIL_EBASE1H : Rg := ⟨0x40208124, [(25, 0x200)], 0x0, 0x0, 0x0, 0xffffffff, 0xffffffff, 0x0, .none⟩
/-! ### SIG (spec/12_signatures_identity.md, R414) -/
def SIG_CTL : Rg := ⟨0x40240000, [], 0xff, 0x0, 0x0, 0x0, 0x0, 0x0, .none⟩
def SIG_STAT : Rg := ⟨0x40240004, [], 0x0, 0x1ff, 0x0, 0x0, 0x0, 0x40000, .none⟩
def SIG_RECEN : Rg := ⟨0x40240008, [], 0xffffff, 0x0, 0x0, 0x0, 0x0, 0x0, .none⟩
def SIG_DEVSERL : Rg := ⟨0x40240010, [], 0x0, 0x0, 0x0, 0x0, 0x0, 0x0, .none⟩
def SIG_DEVSERH : Rg := ⟨0x40240014, [], 0x0, 0x0, 0x0, 0x0, 0x0, 0x0, .none⟩
def SIG_JOBQ : Rg := ⟨0x40240020, [], 0x0, 0x0, 0xffffffe0, 0x0, 0x0, 0x0, .none⟩
def SIG_JOBSTAT : Rg := ⟨0x40240024, [], 0x0, 0x0, 0x0, 0x0, 0x0, 0x0, .none⟩
def SIG_RXBASE : Rg := ⟨0x40240028, [], 0xfffff000, 0x0, 0x0, 0x0, 0x0, 0x0, .none⟩
def SIG_RXNEXT : Rg := ⟨0x4024002c, [], 0x0, 0x0, 0x0, 0x0, 0x0, 0x0, .none⟩
def SIG_KSTAT : Rg := ⟨0x40240100, [(2, 0x80)], 0x0, 0x0, 0x0, 0xff000100, 0xff000100, 0x0, .none⟩
def SIG_NEXTL : Rg := ⟨0x40240104, [(2, 0x80)], 0x0, 0x0, 0x0, 0xffffffff, 0xffffffff, 0x0, .none⟩
def SIG_NEXTH : Rg := ⟨0x40240108, [(2, 0x80)], 0x0, 0x0, 0x0, 0xffffffff, 0xffffffff, 0x0, .none⟩
def SIG_LIMITL : Rg := ⟨0x4024010c, [(2, 0x80)], 0x0, 0x0, 0x0, 0xffffffff, 0xffffffff, 0x0, .none⟩
def SIG_LIMITH : Rg := ⟨0x40240110, [(2, 0x80)], 0x0, 0x0, 0x0, 0xffffffff, 0xffffffff, 0x0, .none⟩
def SIG_DISCARD : Rg := ⟨0x40240114, [(2, 0x80)], 0x0, 0x0, 0x0, 0xffff, 0xffff, 0x0, .none⟩
def SIG_LASTROOT : Rg := ⟨0x40240118, [(2, 0x80)], 0x0, 0x0, 0x0, 0xffffffff, 0xffffffff, 0x0, .none⟩
def SIG_PUB : Rg := ⟨0x40240120, [(2, 0x80), (17, 0x4)], 0x0, 0x0, 0x0, 0xffffffff, 0xffffffff, 0x0, .none⟩
def SIG_TLSSLOT : Rg := ⟨0x40240200, [(8, 0x4)], 0x0, 0x0, 0x0, 0x7, 0x7, 0x0, .none⟩
def SIG_REF : Rg := ⟨0x40240400, [(24, 0x20), (8, 0x4)], 0xffffffff, 0x0, 0x0, 0x0, 0x0, 0x0, .none⟩
def SIG_CERT : Rg := ⟨0x40241000, [(1024, 0x4)], 0x0, 0x0, 0x0, 0xffffffff, 0xffffffff, 0x0, .none⟩
/-! ### SFY (spec/13_safety_trip.md, R454) -/
def SFY_CTL : Rg := ⟨0x40280000, [], 0xff, 0x0, 0x0, 0xff, 0x0, 0x0, .none⟩
def SFY_STAT : Rg := ⟨0x40280004, [], 0x0, 0x80000ff, 0x0, 0xf8ff00ff, 0x0, 0x0, .none⟩
def SFY_DIAG : Rg := ⟨0x40280008, [], 0x0, 0x0, 0x0, 0xffffffff, 0x0, 0x0, .none⟩
def SFY_GUEST : Rg := ⟨0x4028000c, [], 0xffff3f07, 0x0, 0x0, 0xffff3f07, 0x0, 0x12c3f02, .none⟩
def SFY_ZONE0 : Rg := ⟨0x40280020, [(5, 0x8)], 0xffffffff, 0x0, 0x0, 0xffffffff, 0x0, 0xffffff, .none⟩
def SFY_ZONE1 : Rg := ⟨0x40280024, [(5, 0x8)], 0xffffff00, 0x0, 0x0, 0xffffff03, 0x0, 0xc80200, .none⟩
def SFY_PCO : Rg := ⟨0x40280100, [(48, 0x20)], 0xbf3f3f3f, 0x0, 0x0, 0xbf3f3f3f, 0x0, 0x3f3f3f3f, .none⟩
def SFY_PFB : Rg := ⟨0x40280104, [(48, 0x20)], 0x7f7f7f, 0x0, 0x0, 0x7f7f7f, 0x0, 0x7f7f7f, .none⟩
def SFY_PIMD : Rg := ⟨0x40280108, [(48, 0x20)], 0x9f1f1fff, 0x0, 0x0, 0x9f1f1fff, 0x0, 0x14, .none⟩
def SFY_PTMP : Rg := ⟨0x4028010c, [(48, 0x20)], 0xffffff00, 0x0, 0x0, 0xffffff00, 0x0, 0x2ee03c00, .none⟩
def SFY_PTIM : Rg := ⟨0x40280110, [(48, 0x20)], 0xffffff00, 0x0, 0x0, 0xffffff00, 0x0, 0x321e1400, .none⟩
def SFY_PSTAT : Rg := ⟨0x40280114, [(48, 0x20)], 0x0, 0x0, 0x0, 0xffffff00, 0x0, 0x0, .none⟩
def SFY_SRC : Rg := ⟨0x40280800, [(72, 0x4)], 0x8000ff04, 0x2, 0x0, 0x8000ff07, 0x0, 0x0, .none⟩
def SFY_TGT0 : Rg := ⟨0x40280a00, [(64, 0x10)], 0xffffffff, 0x0, 0x0, 0xffffffff, 0x0, 0x0, .none⟩
def SFY_TGT1 : Rg := ⟨0x40280a04, [(64, 0x10)], 0xffffffff, 0x0, 0x0, 0xffffffff, 0x0, 0x0, .none⟩
def SFY_TGT2 : Rg := ⟨0x40280a08, [(64, 0x10)], 0xff, 0x0, 0x0, 0xff, 0x0, 0x0, .none⟩
def SFY_TGT3 : Rg := ⟨0x40280a0c, [(64, 0x10)], 0xf0000000, 0x0, 0x1, 0xf0000002, 0x0, 0x0, .none⟩
def SFY_ACFG : Rg := ⟨0x40281000, [(8, 0x40)], 0x803f001f, 0x0, 0x0, 0xb83f001f, 0x0, 0x3f001f, .none⟩
def SFY_LIMA : Rg := ⟨0x40281004, [(8, 0x40), (4, 0xc)], 0xc0ffffff, 0x0, 0x0, 0xc0ffffff, 0x0, 0x0, .none⟩
def SFY_LIMB : Rg := ⟨0x40281008, [(8, 0x40), (4, 0xc)], 0xffffffff, 0x0, 0x0, 0xffffffff, 0x0, 0x0, .none⟩
def SFY_LIMC : Rg := ⟨0x4028100c, [(8, 0x40), (4, 0xc)], 0xffffffff, 0x0, 0x0, 0xffffffff, 0x0, 0x0, .none⟩
def SFY_POS : Rg := ⟨0x40281034, [(8, 0x40)], 0x0, 0x0, 0x0, 0xffffffff, 0x0, 0x0, .none⟩
def SFY_SPD : Rg := ⟨0x40281038, [(8, 0x40)], 0x0, 0x0, 0x0, 0xffffffff, 0x0, 0x0, .none⟩
def SFY_ASTAT : Rg := ⟨0x4028103c, [(8, 0x40)], 0x0, 0x0, 0x0, 0x3, 0x0, 0x0, .none⟩
def SFY_COIL : Rg := ⟨0x40281400, [(48, 0x4)], 0xffff8000, 0x0, 0x0, 0xffff8f03, 0x0, 0xa288000, .none⟩
def SFY_FB : Rg := ⟨0x40281500, [(3, 0x4)], 0x0, 0x0, 0x0, 0xffffffff, 0x0, 0x0, .none⟩
def SFY_FBCFG : Rg := ⟨0x40281510, [], 0x1f, 0x0, 0x0, 0x1f, 0x0, 0x1, .none⟩
/-! ### HST (spec/20_host_events.md, R601) -/
def HST_CTL : Rg := ⟨0x40020000, [], 0xff, 0x0, 0x0, 0x0, 0x0, 0x0, .none⟩
def HST_STAT : Rg := ⟨0x40020004, [], 0x0, 0xff, 0x0, 0x0, 0x0, 0x0, .none⟩
def HST_WIN : Rg := ⟨0x40020008, [], 0x1f00000f, 0x0, 0x0, 0x0, 0x0, 0x8, .none⟩
def HST_PCIID : Rg := ⟨0x4002000c, [], 0x0, 0x0, 0x0, 0x0, 0x0, 0x51200000, .none⟩
def HST_PENDSUM : Rg := ⟨0x40020010, [], 0x0, 0x0, 0x0, 0x0, 0x0, 0x0, .none⟩
def HST_HRING : Rg := ⟨0x40020020, [(4, 0x4)], 0xfffffc00, 0x0, 0x0, 0x0, 0x0, 0x0, .none⟩
def HST_HACK : Rg := ⟨0x40020030, [(4, 0x4)], 0x0, 0x0, 0x1f, 0x0, 0x0, 0x0, .none⟩
def HST_HCSTMO : Rg := ⟨0x40020100, [(4, 0x20)], 0x1ffff, 0x0, 0x0, 0x0, 0x0, 0x0, .none⟩
def HST_HCRES0 : Rg := ⟨0x40020104, [(4, 0x20)], 0xffffffff, 0x0, 0x0, 0x0, 0x0, 0x0, .none⟩
def HST_HCRES1 : Rg := ⟨0x40020108, [(4, 0x20)], 0xffffffff, 0x0, 0x0, 0x0, 0x0, 0x0, .none⟩
def HST_HCOP : Rg := ⟨0x4002010c, [(4, 0x20)], 0x1fffff, 0x0, 0x0, 0x0, 0x0, 0x0, .none⟩
def HST_HCGO : Rg := ⟨0x40020110, [(4, 0x20)], 0x0, 0x0, 0x80000000, 0x0, 0x0, 0x0, .none⟩
def HST_HCSTAT : Rg := ⟨0x40020114, [(4, 0x20)], 0x0, 0x3, 0x0, 0x0, 0x0, 0x0, .none⟩
def HST_QCFG : Rg := ⟨0x40021000, [(32, 0x20)], 0xe30fffff, 0x0, 0x0, 0x0, 0x0, 0xf0000, .none⟩
def HST_SQTAIL : Rg := ⟨0x40021004, [(32, 0x20)], 0xf, 0x0, 0x0, 0x0, 0x0, 0x0, .none⟩
def HST_SQHEAD : Rg := ⟨0x40021008, [(32, 0x20)], 0x0, 0x0, 0x0, 0x0, 0x0, 0x0, .none⟩
def HST_CQTAIL : Rg := ⟨0x4002100c, [(32, 0x20)], 0x0, 0x0, 0x0, 0x0, 0x0, 0x0, .none⟩
def HST_CQHEAD : Rg := ⟨0x40021010, [(32, 0x20)], 0xf, 0x0, 0x0, 0x0, 0x0, 0x0, .none⟩
def HST_QSTAT : Rg := ⟨0x40021014, [(32, 0x20)], 0x0, 0x1, 0x0, 0x0, 0x0, 0x0, .none⟩
def HST_OPSTAT : Rg := ⟨0x40021800, [(48, 0x8)], 0x0, 0x0, 0x0, 0x0, 0x0, 0x0, .none⟩
def HST_OPSTEPS : Rg := ⟨0x40021804, [(48, 0x8)], 0x0, 0x0, 0x0, 0x0, 0x0, 0x0, .none⟩
def HST_SQMEM : Rg := ⟨0x40024000, [(32, 0x400), (16, 0x40), (16, 0x4)], 0xffffffff, 0x0, 0x0, 0x0, 0x0, 0x0, .none⟩
def HST_CQMEM : Rg := ⟨0x4002c000, [(32, 0x100), (16, 0x10), (4, 0x4)], 0x0, 0x0, 0x0, 0x0, 0x0, 0x0, .none⟩
/-! ### EVT (spec/20_host_events.md, R602) -/
def EVT_PEND : Rg := ⟨0x40010000, [(4, 0x4)], 0x0, 0xffffffff, 0x0, 0x0, 0x0, 0x0, .none⟩
def EVT_LINEEN : Rg := ⟨0x40010010, [], 0xff, 0x0, 0x0, 0x0, 0x0, 0x0, .none⟩
def EVT_LINESTAT : Rg := ⟨0x40010014, [], 0x0, 0x0, 0x0, 0x0, 0x0, 0x0, .none⟩
def EVT_LINEACK : Rg := ⟨0x40010018, [], 0x0, 0x0, 0xff, 0x0, 0x0, 0x0, .none⟩
def EVT_ROUTE : Rg := ⟨0x40010100, [(128, 0x4)], 0x8700000f, 0x0, 0x0, 0x0, 0x0, 0x0, .none⟩
/-! ### ETH (spec/20_host_events.md, R611) -/
def ETH_CTL : Rg := ⟨0x40440000, [(2, 0x1000)], 0xf00000ff, 0x0, 0x0, 0x0, 0x0, 0x0, .none⟩
def ETH_STAT : Rg := ⟨0x40440004, [(2, 0x1000)], 0x0, 0xff, 0x0, 0x0, 0x0, 0x0, .none⟩
def ETH_CFG : Rg := ⟨0x40440008, [(2, 0x1000)], 0x33, 0x0, 0x0, 0x0, 0x0, 0x2, .none⟩
def ETH_ADDRL : Rg := ⟨0x40440010, [(2, 0x1000)], 0xffffffff, 0x0, 0x0, 0x0, 0x0, 0x0, .none⟩
def ETH_ADDRH : Rg := ⟨0x40440014, [(2, 0x1000)], 0xffff, 0x0, 0x0, 0x0, 0x0, 0x0, .none⟩
def ETH_MDIO : Rg := ⟨0x40440020, [(2, 0x1000)], 0x7ffcffff, 0x0, 0x80000000, 0x0, 0x0, 0x0, .none⟩
def ETH_MDIOADDR : Rg := ⟨0x40440024, [(2, 0x1000)], 0xffff, 0x0, 0x0, 0x0, 0x0, 0x0, .none⟩
def ETH_MDIOSTAT : Rg := ⟨0x40440028, [(2, 0x1000)], 0x0, 0x0, 0x0, 0x0, 0x0, 0x0, .none⟩
def ETH_TXBASE : Rg := ⟨0x40440040, [(2, 0x1000), (2, 0x4)], 0xfffffe00, 0x0, 0x0, 0x0, 0x0, 0x0, .none⟩
def ETH_TXTAIL : Rg := ⟨0x40440048, [(2, 0x1000), (2, 0x4)], 0x1f, 0x0, 0x0, 0x0, 0x0, 0x0, .none⟩
def ETH_TXHEAD : Rg := ⟨0x40440050, [(2, 0x1000), (2, 0x4)], 0x0, 0x0, 0x0, 0x0, 0x0, 0x0, .none⟩
def ETH_RXBASE : Rg := ⟨0x40440060, [(2, 0x1000)], 0xfffff800, 0x0, 0x0, 0x0, 0x0, 0x0, .none⟩
def ETH_RXACK : Rg := ⟨0x40440064, [(2, 0x1000)], 0x0, 0x0, 0x7f, 0x0, 0x0, 0x0, .none⟩
def ETH_RXSTAT : Rg := ⟨0x40440068, [(2, 0x1000)], 0x0, 0x0, 0x0, 0x0, 0x0, 0x0, .none⟩
def ETH_MCASTA : Rg := ⟨0x40440100, [(2, 0x1000), (16, 0x8)], 0xffffffff, 0x0, 0x0, 0x0, 0x0, 0x0, .none⟩
def ETH_MCASTB : Rg := ⟨0x40440104, [(2, 0x1000), (16, 0x8)], 0x8000ffff, 0x0, 0x0, 0x0, 0x0, 0x0, .none⟩
def ETH_TXFRM : Rg := ⟨0x40440200, [(2, 0x1000)], 0x0, 0x0, 0x0, 0x0, 0x0, 0x0, .none⟩
def ETH_RXFRM : Rg := ⟨0x40440204, [(2, 0x1000)], 0x0, 0x0, 0x0, 0x0, 0x0, 0x0, .none⟩
def ETH_RXFCS : Rg := ⟨0x40440208, [(2, 0x1000)], 0x0, 0x0, 0x0, 0x0, 0x0, 0x0, .none⟩
def ETH_RXLONG : Rg := ⟨0x4044020c, [(2, 0x1000)], 0x0, 0x0, 0x0, 0x0, 0x0, 0x0, .none⟩
def ETH_RXLOST : Rg := ⟨0x40440210, [(2, 0x1000)], 0x0, 0x0, 0x0, 0x0, 0x0, 0x0, .none⟩
/-! ### STO (spec/20_host_events.md, R619) -/
def STO_CTL : Rg := ⟨0x40480000, [], 0xff, 0x0, 0x0, 0x0, 0x0, 0x0, .none⟩
def STO_STAT : Rg := ⟨0x40480004, [], 0x0, 0xff, 0x0, 0x0, 0x0, 0x0, .none⟩
def STO_CAP : Rg := ⟨0x40480008, [], 0x0, 0x0, 0x0, 0x0, 0x0, 0x0, .none⟩
def STO_ARCHEND : Rg := ⟨0x4048000c, [], 0x0, 0x0, 0x0, 0x0, 0x0, 0x0, .none⟩
def STO_PAREA : Rg := ⟨0x40480010, [], 0x0, 0x0, 0x0, 0x0, 0x0, 0x0, .none⟩
def STO_PASIZE : Rg := ⟨0x40480014, [], 0x0, 0x0, 0x0, 0x0, 0x0, 0x200000, .none⟩
def STO_HEALTH : Rg := ⟨0x40480018, [], 0x0, 0x0, 0x0, 0x0, 0x0, 0x0, .none⟩
def STO_ARCHUSE : Rg := ⟨0x4048001c, [], 0x0, 0x0, 0x0, 0x0, 0x0, 0x0, .none⟩
def STO_CNT : Rg := ⟨0x40480020, [], 0x0, 0x0, 0x0, 0x0, 0x0, 0x0, .none⟩
def STO_REQADDR : Rg := ⟨0x40480100, [(4, 0x20)], 0xffffffe0, 0x0, 0x0, 0x0, 0x0, 0x0, .none⟩
def STO_REQBLK : Rg := ⟨0x40480104, [(4, 0x20)], 0xffffffff, 0x0, 0x0, 0x0, 0x0, 0x0, .none⟩
def STO_REQCMD : Rg := ⟨0x40480108, [(4, 0x20)], 0x400001ff, 0x0, 0x80000000, 0x0, 0x0, 0x1, .none⟩
def STO_REQSTAT : Rg := ⟨0x4048010c, [(4, 0x20)], 0x0, 0x40000000, 0x0, 0x0, 0x0, 0x0, .none⟩
/-! ### RNG (spec/14_ring_failover.md, R481) -/
def RNG_CTL : Rg := ⟨0x402c0000, [], 0xe000ffff, 0x0, 0x1c000000, 0x0, 0x0, 0x60000000, .none⟩
def RNG_STAT : Rg := ⟨0x402c0004, [], 0x0, 0x0, 0x0, 0x0, 0x0, 0x0, .none⟩
def RNG_CAUSE : Rg := ⟨0x402c0008, [], 0x0, 0xffff, 0x0, 0x0, 0x0, 0x0, .none⟩
def RNG_CFG : Rg := ⟨0x402c000c, [], 0xffffff, 0x0, 0x0, 0xff, 0xff, 0x100a00, .none⟩
def RNG_EPOCH : Rg := ⟨0x402c0010, [], 0x0, 0x0, 0x0, 0x0, 0x0, 0x0, .none⟩
def RNG_VIEWST : Rg := ⟨0x402c0014, [], 0x0, 0x0, 0x0, 0x0, 0x0, 0x101, .none⟩
def RNG_MEM : Rg := ⟨0x402c0020, [(8, 0x4)], 0x0, 0x0, 0x0, 0x0, 0x0, 0x0, .none⟩
def RNG_LINK : Rg := ⟨0x402c0040, [(2, 0x4)], 0x0, 0x0, 0x0, 0x0, 0x0, 0x0, .none⟩
def RNG_LINKERR : Rg := ⟨0x402c0048, [(2, 0x4)], 0x0, 0x0, 0x0, 0x0, 0x0, 0x0, .none⟩
def RNG_SHSTAT : Rg := ⟨0x402c0050, [], 0x0, 0x0, 0x0, 0x0, 0x0, 0xffff0000, .none⟩
def RNG_TDECLL : Rg := ⟨0x402c0058, [], 0x0, 0x0, 0x0, 0x0, 0x0, 0x0, .none⟩
def RNG_TDECLH : Rg := ⟨0x402c005c, [], 0x0, 0x0, 0x0, 0x0, 0x0, 0x0, .none⟩
def RNG_SPL : Rg := ⟨0x402c0060, [], 0x0, 0x0, 0x0, 0x0, 0x0, 0x0, .none⟩
def RNG_XMIN : Rg := ⟨0x402c0064, [], 0x0, 0x0, 0x0, 0x0, 0x0, 0x0, .none⟩
def RNG_SECRET : Rg := ⟨0x402c0080, [(8, 0x4)], 0x0, 0x0, 0xffffffff, 0x0, 0x0, 0x0, .none⟩
def RNG_ORDER : Rg := ⟨0x402c0100, [(64, 0x4)], 0x0, 0x0, 0x0, 0x0, 0x0, 0x0, .none⟩
/-! ### LSW (spec/15_protected_channels.md, R503) -/
def LSW_CTL : Rg := ⟨0x40300000, [], 0xff, 0x0, 0x0, 0x0, 0x0, 0x0, .none⟩
def LSW_STAT : Rg := ⟨0x40300004, [], 0x0, 0xff, 0x0, 0x0, 0x0, 0x0, .none⟩
def LSW_SUP : Rg := ⟨0x40300008, [], 0x0, 0x0, 0x0, 0x0, 0x0, 0x0, .none⟩
def LSW_AGG : Rg := ⟨0x4030000c, [], 0x7f, 0x0, 0x0, 0x0, 0x0, 0x78, .none⟩
def LSW_SNS : Rg := ⟨0x40300010, [(4, 0x4)], 0x8000000f, 0x0, 0x0, 0x0, 0x0, 0x0, .none⟩
def LSW_CHCFG : Rg := ⟨0x40300100, [(16, 0x20)], 0xb3ffffff, 0x0, 0x0, 0xb3ffffff, 0x0, 0xa0064, .none⟩
def LSW_CHLIM : Rg := ⟨0x40300104, [(16, 0x20)], 0xffffffff, 0x0, 0x0, 0xffffffff, 0x0, 0x0, .tripLimit⟩
def LSW_CHPWM : Rg := ⟨0x40300108, [(16, 0x20)], 0x3ff00ff, 0x0, 0x0, 0x3ff00ff, 0x0, 0xc80080, .none⟩
def LSW_CHCMD : Rg := ⟨0x4030010c, [(16, 0x20)], 0x0, 0x0, 0x3, 0x0, 0x0, 0x0, .none⟩
def LSW_CHSTAT : Rg := ⟨0x40300110, [(16, 0x20)], 0x0, 0x0, 0x0, 0x0, 0x0, 0x0, .none⟩
def LSW_CHI : Rg := ⟨0x40300114, [(16, 0x20)], 0x0, 0x0, 0x0, 0x0, 0x0, 0x80000000, .none⟩
/-! ### EST (spec/16_storage_estimation.md, R525) -/
def EST_CTL : Rg := ⟨0x40340000, [], 0xff, 0x0, 0x0, 0x0, 0x0, 0x0, .none⟩
def EST_STAT : Rg := ⟨0x40340004, [], 0x0, 0xff, 0x0, 0x0, 0x0, 0x0, .none⟩
def EST_HPCFG : Rg := ⟨0x40340008, [], 0x807fffff, 0x0, 0x0, 0x0, 0x0, 0x8014140a, .none⟩
def EST_CMD : Rg := ⟨0x4034000c, [], 0x0, 0x0, 0xff, 0x0, 0x0, 0x0, .none⟩
def EST_CFG : Rg := ⟨0x40340100, [(9, 0x80)], 0x807fffff, 0x0, 0x0, 0x0, 0x0, 0x7f0001, .none⟩
def EST_CAPNOM : Rg := ⟨0x40340104, [(9, 0x80)], 0xffffffff, 0x0, 0x0, 0x0, 0x0, 0x0, .none⟩
def EST_SHUNT : Rg := ⟨0x40340108, [(9, 0x80)], 0xffff, 0x0, 0x0, 0x0, 0x0, 0x0, .none⟩
def EST_VMIN : Rg := ⟨0x4034010c, [(9, 0x80)], 0xffffffff, 0x0, 0x0, 0x0, 0x0, 0x0, .none⟩
def EST_VMAX : Rg := ⟨0x40340110, [(9, 0x80)], 0xffffffff, 0x0, 0x0, 0x0, 0x0, 0x0, .none⟩
def EST_IDISMAX : Rg := ⟨0x40340114, [(9, 0x80)], 0xffffffff, 0x0, 0x0, 0x0, 0x0, 0x0, .none⟩
def EST_ICHGMAX : Rg := ⟨0x40340118, [(9, 0x80)], 0xffffffff, 0x0, 0x0, 0x0, 0x0, 0x0, .none⟩
def EST_PDISMAX : Rg := ⟨0x4034011c, [(9, 0x80)], 0xffffffff, 0x0, 0x0, 0x0, 0x0, 0x0, .none⟩
def EST_PCHGMAX : Rg := ⟨0x40340120, [(9, 0x80)], 0xffffffff, 0x0, 0x0, 0x0, 0x0, 0x0, .none⟩
def EST_WIN : Rg := ⟨0x40340124, [(9, 0x80)], 0xffffffff, 0x0, 0x0, 0x0, 0x0, 0x251c03e8, .none⟩
def EST_MODEL : Rg := ⟨0x40340128, [(9, 0x80)], 0xffff00ff, 0x0, 0x0, 0x0, 0x0, 0x3c0010, .none⟩
def EST_UCFG : Rg := ⟨0x4034012c, [(9, 0x80)], 0xffffffff, 0x0, 0x0, 0x0, 0x0, 0x320064, .none⟩
def EST_REST : Rg := ⟨0x40340130, [(9, 0x80)], 0xffffffff, 0x0, 0x0, 0x0, 0x0, 0x70803e8, .none⟩
def EST_TAPER : Rg := ⟨0x40340134, [(9, 0x80)], 0xffff, 0x0, 0x0, 0x0, 0x0, 0x1f4, .none⟩
def EST_PACKIDL : Rg := ⟨0x40340138, [(9, 0x80)], 0xffffffff, 0x0, 0x0, 0xffffffff, 0xffffffff, 0x0, .none⟩
def EST_PACKIDH : Rg := ⟨0x4034013c, [(9, 0x80)], 0xffffffff, 0x0, 0x0, 0xffffffff, 0xffffffff, 0x0, .none⟩
def EST_SOC : Rg := ⟨0x40340140, [(9, 0x80)], 0x0, 0x0, 0x0, 0xffffffff, 0xffffffff, 0x0, .none⟩
def EST_SOCE : Rg := ⟨0x40340144, [(9, 0x80)], 0x0, 0x0, 0x0, 0xffff, 0xffff, 0x0, .none⟩
def EST_QL : Rg := ⟨0x40340148, [(9, 0x80)], 0x0, 0x0, 0x0, 0xffffffff, 0xffffffff, 0x0, .none⟩
def EST_QH : Rg := ⟨0x4034014c, [(9, 0x80)], 0x0, 0x0, 0x0, 0xffffffff, 0xffffffff, 0x0, .none⟩
def EST_V : Rg := ⟨0x40340150, [(9, 0x80)], 0x0, 0x0, 0x0, 0x0, 0x0, 0x0, .none⟩
def EST_I : Rg := ⟨0x40340154, [(9, 0x80)], 0x0, 0x0, 0x0, 0x0, 0x0, 0x0, .none⟩
def EST_CAP : Rg := ⟨0x40340158, [(9, 0x80)], 0x0, 0x0, 0x0, 0xffffffff, 0xffffffff, 0x0, .none⟩
def EST_CYCLES : Rg := ⟨0x4034015c, [(9, 0x80)], 0x0, 0x0, 0x0, 0xffffffff, 0xffffffff, 0x0, .none⟩
def EST_DAYS : Rg := ⟨0x40340160, [(9, 0x80)], 0x0, 0x0, 0x0, 0x0, 0x0, 0x0, .none⟩
def EST_CHG : Rg := ⟨0x40340164, [(9, 0x80)], 0x0, 0x0, 0x0, 0x0, 0x0, 0x0, .none⟩
def EST_DIS : Rg := ⟨0x40340168, [(9, 0x80)], 0x0, 0x0, 0x0, 0x0, 0x0, 0x0, .none⟩
def EST_R0 : Rg := ⟨0x4034016c, [(9, 0x80)], 0x0, 0x0, 0x0, 0x0, 0x0, 0x0, .none⟩
def EST_OCV : Rg := ⟨0x40341000, [(9, 0x80), (21, 0x4)], 0xffffffff, 0x0, 0x0, 0x0, 0x0, 0x0, .none⟩
def EST_IMP : Rg := ⟨0x40342000, [(9, 0x80), (22, 0x4)], 0xffffffff, 0x0, 0x0, 0xffffffff, 0xffffffff, 0x0, .none⟩
/-! ### TIM (spec/17_timebase.md, R542) -/
def TIM_CTL : Rg := ⟨0x40380000, [], 0x7ff, 0x0, 0x0, 0x0, 0x0, 0x0, .none⟩
def TIM_STAT : Rg := ⟨0x40380004, [], 0x0, 0x1000ff, 0x0, 0x60000, 0x60000, 0x0, .none⟩
def TIM_NOWL : Rg := ⟨0x40380008, [], 0x0, 0x0, 0x0, 0x0, 0x0, 0x0, .none⟩
def TIM_NOWH : Rg := ⟨0x4038000c, [], 0x0, 0x0, 0x0, 0x0, 0x0, 0x0, .none⟩
def TIM_EVT : Rg := ⟨0x40380010, [], 0x0, 0x0, 0x0, 0x0, 0x0, 0x0, .none⟩
def TIM_INCL : Rg := ⟨0x40380014, [], 0xffffffff, 0x0, 0x0, 0xffffffff, 0x0, 0x0, .none⟩
def TIM_INCH : Rg := ⟨0x40380018, [], 0xf, 0x0, 0x0, 0xf, 0x0, 0x5, .none⟩
def TIM_STEP : Rg := ⟨0x40380020, [], 0x0, 0x0, 0xffffffff, 0x0, 0x0, 0x0, .none⟩
def TIM_CALSETL : Rg := ⟨0x40380028, [], 0xffffffff, 0x0, 0x0, 0x0, 0x0, 0x0, .none⟩
def TIM_CALSETH : Rg := ⟨0x4038002c, [], 0xffffffff, 0x0, 0x0, 0x0, 0x0, 0x0, .none⟩
def TIM_CALCTL : Rg := ⟨0x40380030, [], 0x7, 0x0, 0x80000000, 0x0, 0x0, 0x1, .none⟩
def TIM_LEAP : Rg := ⟨0x40380034, [], 0xc00000ff, 0x0, 0x0, 0xff, 0xff, 0x0, .none⟩
def TIM_LEAPAT : Rg := ⟨0x40380038, [], 0xffffffff, 0x0, 0x0, 0x0, 0x0, 0x0, .none⟩
def TIM_RTCS : Rg := ⟨0x40380040, [], 0x0, 0x0, 0x0, 0xffffffff, 0xffffffff, 0x0, .none⟩
def TIM_RTCSUB : Rg := ⟨0x40380044, [], 0x0, 0x0, 0x0, 0x7fff, 0x7fff, 0x0, .none⟩
def TIM_ALARM : Rg := ⟨0x40380048, [], 0xffffffff, 0x0, 0x0, 0xffffffff, 0x0, 0x0, .none⟩
def TIM_RTCTRIM : Rg := ⟨0x4038004c, [], 0xffff, 0x0, 0x0, 0xffff, 0xffff, 0x0, .none⟩
def TIM_PPSIL : Rg := ⟨0x40380050, [], 0x0, 0x0, 0x0, 0x0, 0x0, 0x0, .none⟩
def TIM_PPSIH : Rg := ⟨0x40380054, [], 0x0, 0x0, 0x0, 0x0, 0x0, 0x0, .none⟩
def TIM_FSTAT : Rg := ⟨0x40380100, [(4, 0x20)], 0x0, 0x100, 0x0, 0x0, 0x0, 0x0, .none⟩
def TIM_TSL : Rg := ⟨0x40380104, [(4, 0x20)], 0x0, 0x0, 0x0, 0x0, 0x0, 0x0, .none⟩
def TIM_TSH : Rg := ⟨0x40380108, [(4, 0x20)], 0x0, 0x0, 0x0, 0x0, 0x0, 0x0, .none⟩
def TIM_INFO : Rg := ⟨0x4038010c, [(4, 0x20)], 0x0, 0x0, 0x0, 0x0, 0x0, 0x0, .none⟩
/-! ### CAN (spec/18_can_fd.md, R557) -/
def CAN_CTL : Rg := ⟨0x403c0000, [(8, 0x1000)], 0xfc0000ff, 0x0, 0x3800000, 0x0, 0x0, 0x10000000, .none⟩
def CAN_STAT : Rg := ⟨0x403c0004, [(8, 0x1000)], 0x0, 0xf07ffff, 0x0, 0x0, 0x0, 0x0, .none⟩
def CAN_ERR : Rg := ⟨0x403c0008, [(8, 0x1000)], 0x0, 0x0, 0x0, 0x0, 0x0, 0x0, .none⟩
def CAN_NBT : Rg := ⟨0x403c0010, [(8, 0x1000)], 0xffffffff, 0x0, 0x0, 0x0, 0x0, 0xf0f3e07, .none⟩
def CAN_DBT : Rg := ⟨0x403c0014, [(8, 0x1000)], 0x1f1f3f1f, 0x0, 0x0, 0x0, 0x0, 0x3030e01, .none⟩
def CAN_TDC : Rg := ⟨0x403c0018, [(8, 0x1000)], 0x7f, 0x0, 0x0, 0x0, 0x0, 0x0, .none⟩
def CAN_ABD : Rg := ⟨0x403c0020, [(8, 0x1000)], 0x8000ffff, 0x0, 0x0, 0x0, 0x0, 0x364, .none⟩
def CAN_NSET : Rg := ⟨0x403c0024, [(8, 0x1000), (4, 0x4)], 0xffffffff, 0x0, 0x0, 0x0, 0x0, 0x0, .none⟩
def CAN_TXHDR : Rg := ⟨0x403c0040, [(8, 0x1000)], 0xffffffff, 0x0, 0x0, 0x0, 0x0, 0x0, .none⟩
def CAN_TXHDR2 : Rg := ⟨0x403c0044, [(8, 0x1000)], 0xf70f, 0x0, 0x0, 0x0, 0x0, 0x0, .none⟩
def CAN_TXLAUNCH : Rg := ⟨0x403c0048, [(8, 0x1000)], 0xffffffff, 0x0, 0x0, 0x0, 0x0, 0x0, .none⟩
def CAN_TXPUSH : Rg := ⟨0x403c004c, [(8, 0x1000)], 0x0, 0x0, 0x1, 0x0, 0x0, 0x0, .none⟩
def CAN_TXSTAT : Rg := ⟨0x403c0050, [(8, 0x1000)], 0x0, 0x0, 0x0, 0x0, 0x0, 0x0, .none⟩
def CAN_TXEVA : Rg := ⟨0x403c0054, [(8, 0x1000)], 0x0, 0x0, 0x0, 0x0, 0x0, 0x0, .none⟩
def CAN_TXEVB : Rg := ⟨0x403c0058, [(8, 0x1000)], 0x0, 0x0, 0x0, 0x0, 0x0, 0x0, .none⟩
def CAN_RXACK : Rg := ⟨0x403c0060, [(8, 0x1000)], 0x0, 0x0, 0x3f, 0x0, 0x0, 0x0, .none⟩
def CAN_RXSTAT : Rg := ⟨0x403c0064, [(8, 0x1000)], 0x0, 0x0, 0x0, 0x0, 0x0, 0x0, .none⟩
def CAN_TXDATA : Rg := ⟨0x403c0100, [(8, 0x1000), (16, 0x4)], 0xffffffff, 0x0, 0x0, 0x0, 0x0, 0x0, .none⟩
def CAN_FILTA : Rg := ⟨0x403c0200, [(8, 0x1000), (16, 0x8)], 0xffffffff, 0x0, 0x0, 0x0, 0x0, 0x0, .none⟩
def CAN_FILTB : Rg := ⟨0x403c0204, [(8, 0x1000), (16, 0x8)], 0x1fffffff, 0x0, 0x0, 0x0, 0x0, 0x0, .none⟩
def CAN_RXRING : Rg := ⟨0x403c0400, [(8, 0x1000), (32, 0x50), (20, 0x4)], 0x0, 0x0, 0x0, 0x0, 0x0, 0x0, .none⟩
/-! ### DKL (spec/19_deckline.md, R577) -/
def DKL_CTL : Rg := ⟨0x40400000, [], 0xe00000ff, 0x0, 0x0, 0x0, 0x0, 0x0, .none⟩
def DKL_STAT : Rg := ⟨0x40400004, [], 0x0, 0xff, 0x0, 0x0, 0x0, 0x0, .none⟩
def DKL_CFG : Rg := ⟨0x40400008, [], 0x3f01ff1f, 0x0, 0x0, 0x0, 0x0, 0xc300, .none⟩
def DKL_MAINS : Rg := ⟨0x4040000c, [], 0x0, 0x0, 0x0, 0x0, 0x0, 0x0, .none⟩
def DKL_TIMING : Rg := ⟨0x40400010, [], 0xffffffff, 0x0, 0x0, 0x0, 0x0, 0x12c003c, .none⟩
def DKL_TXADDR : Rg := ⟨0x40400020, [], 0xfffffffc, 0x0, 0x0, 0x0, 0x0, 0x0, .none⟩
def DKL_TXCTL : Rg := ⟨0x40400024, [], 0x3f0f00ff, 0x0, 0x80000000, 0x0, 0x0, 0x0, .none⟩
def DKL_TXSTAT : Rg := ⟨0x40400028, [], 0x0, 0x0, 0x0, 0x0, 0x0, 0x0, .none⟩
def DKL_TXEV : Rg := ⟨0x4040002c, [], 0x0, 0x0, 0x0, 0x0, 0x0, 0x0, .none⟩
def DKL_RXACK : Rg := ⟨0x40400030, [], 0x0, 0x0, 0x1f, 0x0, 0x0, 0x0, .none⟩
def DKL_RXSTAT : Rg := ⟨0x40400034, [], 0x0, 0x0, 0x0, 0x0, 0x0, 0x0, .none⟩
def DKL_NODEA : Rg := ⟨0x40400110, [(62, 0x10)], 0x0, 0x0, 0x0, 0x0, 0x0, 0x0, .none⟩
def DKL_NODEB : Rg := ⟨0x40400114, [(62, 0x10)], 0x0, 0x0, 0x0, 0x0, 0x0, 0x0, .none⟩
def DKL_NODEC : Rg := ⟨0x40400118, [(62, 0x10)], 0x0, 0x0, 0x10000000, 0x0, 0x0, 0x0, .none⟩
def DKL_NODED : Rg := ⟨0x4040011c, [(62, 0x10)], 0x0, 0x0, 0x0, 0x0, 0x0, 0x0, .none⟩
def DKL_RXRING : Rg := ⟨0x40402000, [(16, 0x100), (64, 0x4)], 0x0, 0x0, 0x0, 0x0, 0x0, 0x0, .none⟩
def DKL_TXMAPA : Rg := ⟨0x40404000, [(63, 0x80), (8, 0x10)], 0x0, 0x0, 0x0, 0x0, 0x0, 0x0, .none⟩
def DKL_TXMAPB : Rg := ⟨0x40404004, [(63, 0x80), (8, 0x10)], 0x0, 0x0, 0x0, 0x0, 0x0, 0x0, .none⟩
def DKL_RXMAPA : Rg := ⟨0x40404008, [(63, 0x80), (8, 0x10)], 0x0, 0x0, 0x0, 0x0, 0x0, 0x0, .none⟩
def DKL_RXMAPB : Rg := ⟨0x4040400c, [(63, 0x80), (8, 0x10)], 0x0, 0x0, 0x0, 0x0, 0x0, 0x0, .none⟩

end R

namespace Fl

def SYS_ID_PART : Fld := ⟨R.SYS_ID, 16, 16⟩
def SYS_ID_GRADE : Fld := ⟨R.SYS_ID, 12, 4⟩
def SYS_ID_STEP_MAJOR : Fld := ⟨R.SYS_ID, 8, 4⟩
def SYS_ID_STEP_MINOR : Fld := ⟨R.SYS_ID, 4, 4⟩
def SYS_CLKSTAT_CCHK : Fld := ⟨R.SYS_CLKSTAT, 3, 1⟩
def SYS_CLKSTAT_BACKUP : Fld := ⟨R.SYS_CLKSTAT, 2, 1⟩
def SYS_CLKSTAT_REFLOST : Fld := ⟨R.SYS_CLKSTAT, 1, 1⟩
def SYS_CLKSTAT_LOCK : Fld := ⟨R.SYS_CLKSTAT, 0, 1⟩
def SYS_SUPSTAT_VIN_MV : Fld := ⟨R.SYS_SUPSTAT, 16, 16⟩
def SYS_SUPSTAT_HP_OK : Fld := ⟨R.SYS_SUPSTAT, 4, 1⟩
def SYS_SUPSTAT_VAUX_OK : Fld := ⟨R.SYS_SUPSTAT, 3, 1⟩
def SYS_SUPSTAT_ABOVE_HOLD : Fld := ⟨R.SYS_SUPSTAT, 2, 1⟩
def SYS_SUPSTAT_ABOVE_WARN : Fld := ⟨R.SYS_SUPSTAT, 1, 1⟩
def SYS_SUPSTAT_PFW : Fld := ⟨R.SYS_SUPSTAT, 0, 1⟩
def SYS_PWRCTL_FURL_ARM : Fld := ⟨R.SYS_PWRCTL, 8, 8⟩
def SYS_PWRCTL_REQ : Fld := ⟨R.SYS_PWRCTL, 0, 3⟩
def SYS_PWRSTAT_IMGRDY : Fld := ⟨R.SYS_PWRSTAT, 19, 1⟩
def SYS_PWRSTAT_SFYRDY : Fld := ⟨R.SYS_PWRSTAT, 18, 1⟩
def SYS_PWRSTAT_ANARDY : Fld := ⟨R.SYS_PWRSTAT, 17, 1⟩
def SYS_PWRSTAT_FURL_ARMED : Fld := ⟨R.SYS_PWRSTAT, 16, 1⟩
def SYS_PWRSTAT_REFUSE : Fld := ⟨R.SYS_PWRSTAT, 12, 4⟩
def SYS_PWRSTAT_WAKE_PEND : Fld := ⟨R.SYS_PWRSTAT, 11, 1⟩
def SYS_PWRSTAT_PREV : Fld := ⟨R.SYS_PWRSTAT, 4, 4⟩
def SYS_PWRSTAT_BUSY : Fld := ⟨R.SYS_PWRSTAT, 3, 1⟩
def SYS_PWRSTAT_STATE : Fld := ⟨R.SYS_PWRSTAT, 0, 3⟩
def SYS_WAKEEN_SRC : Fld := ⟨R.SYS_WAKEEN, 0, 8⟩
def SYS_WAKESRC_SRC : Fld := ⟨R.SYS_WAKESRC, 0, 8⟩
def SYS_SAVECFG_UPS_EN : Fld := ⟨R.SYS_SAVECFG, 0, 1⟩
def SYS_SAVESTAT_DURATION : Fld := ⟨R.SYS_SAVESTAT, 16, 16⟩
def SYS_SAVESTAT_LASTSTEP : Fld := ⟨R.SYS_SAVESTAT, 8, 4⟩
def SYS_SAVESTAT_SRC : Fld := ⟨R.SYS_SAVESTAT, 4, 3⟩
def SYS_SAVESTAT_STOWED : Fld := ⟨R.SYS_SAVESTAT, 2, 1⟩
def SYS_SAVESTAT_DONE : Fld := ⟨R.SYS_SAVESTAT, 1, 1⟩
def SYS_SAVESTAT_ACTIVE : Fld := ⟨R.SYS_SAVESTAT, 0, 1⟩
def SYS_RSTCTL_KEY : Fld := ⟨R.SYS_RSTCTL, 16, 16⟩
def SYS_RSTCTL_COLD : Fld := ⟨R.SYS_RSTCTL, 1, 1⟩
def SYS_RSTCTL_WARM : Fld := ⟨R.SYS_RSTCTL, 0, 1⟩
def SYS_RSTCAUSE_LOCKUP : Fld := ⟨R.SYS_RSTCAUSE, 10, 1⟩
def SYS_RSTCAUSE_SAVE : Fld := ⟨R.SYS_RSTCAUSE, 9, 1⟩
def SYS_RSTCAUSE_PLLLOCK : Fld := ⟨R.SYS_RSTCAUSE, 8, 1⟩
def SYS_RSTCAUSE_REFLOSS : Fld := ⟨R.SYS_RSTCAUSE, 7, 1⟩
def SYS_RSTCAUSE_WDT : Fld := ⟨R.SYS_RSTCAUSE, 6, 1⟩
def SYS_RSTCAUSE_SWWARM : Fld := ⟨R.SYS_RSTCAUSE, 5, 1⟩
def SYS_RSTCAUSE_PINWARM : Fld := ⟨R.SYS_RSTCAUSE, 4, 1⟩
def SYS_RSTCAUSE_FURL : Fld := ⟨R.SYS_RSTCAUSE, 3, 1⟩
def SYS_RSTCAUSE_SWCOLD : Fld := ⟨R.SYS_RSTCAUSE, 2, 1⟩
def SYS_RSTCAUSE_PINCOLD : Fld := ⟨R.SYS_RSTCAUSE, 1, 1⟩
def SYS_RSTCAUSE_POR : Fld := ⟨R.SYS_RSTCAUSE, 0, 1⟩
def SYS_WDTCTL_EN : Fld := ⟨R.SYS_WDTCTL, 31, 1⟩
def SYS_WDTCTL_TIMEOUT : Fld := ⟨R.SYS_WDTCTL, 0, 10⟩
def SYS_WDTKICK_KEY : Fld := ⟨R.SYS_WDTKICK, 0, 8⟩
def SYS_BOOTSTAT_SFYPEND : Fld := ⟨R.SYS_BOOTSTAT, 24, 1⟩
def SYS_BOOTSTAT_REFUSE_B : Fld := ⟨R.SYS_BOOTSTAT, 20, 4⟩
def SYS_BOOTSTAT_REFUSE_A : Fld := ⟨R.SYS_BOOTSTAT, 16, 4⟩
def SYS_BOOTSTAT_TRIAL : Fld := ⟨R.SYS_BOOTSTAT, 8, 8⟩
def SYS_BOOTSTAT_WARMHASH : Fld := ⟨R.SYS_BOOTSTAT, 4, 1⟩
def SYS_BOOTSTAT_SOURCE : Fld := ⟨R.SYS_BOOTSTAT, 2, 2⟩
def SYS_BOOTSTAT_SLOT : Fld := ⟨R.SYS_BOOTSTAT, 1, 1⟩
def SYS_BOOTSTAT_HOLD : Fld := ⟨R.SYS_BOOTSTAT, 0, 1⟩
def SYS_BOOTCFG_CONFIRMED : Fld := ⟨R.SYS_BOOTCFG, 1, 1⟩
def SYS_BOOTCFG_CONFIRM : Fld := ⟨R.SYS_BOOTCFG, 0, 1⟩
def SYS_HARTCTL_ICINV : Fld := ⟨R.SYS_HARTCTL, 2, 1⟩
def SYS_HARTCTL_HALT : Fld := ⟨R.SYS_HARTCTL, 1, 1⟩
def SYS_HARTCTL_START : Fld := ⟨R.SYS_HARTCTL, 0, 1⟩
def SYS_HARTSTAT_LASTCAUSE : Fld := ⟨R.SYS_HARTSTAT, 16, 8⟩
def SYS_HARTSTAT_PRIV : Fld := ⟨R.SYS_HARTSTAT, 8, 1⟩
def SYS_HARTSTAT_STATE : Fld := ⟨R.SYS_HARTSTAT, 0, 3⟩
def SYS_HARTENTRY_ENTRY : Fld := ⟨R.SYS_HARTENTRY, 2, 30⟩
def SYS_OWNER0_EVT : Fld := ⟨R.SYS_OWNER0, 0, 4⟩
def SYS_OWNER0_HST : Fld := ⟨R.SYS_OWNER0, 4, 4⟩
def SYS_OWNER0_LPE : Fld := ⟨R.SYS_OWNER0, 8, 4⟩
def SYS_OWNER0_CLN : Fld := ⟨R.SYS_OWNER0, 12, 4⟩
def SYS_OWNER0_PRT : Fld := ⟨R.SYS_OWNER0, 16, 4⟩
def SYS_OWNER0_ALC : Fld := ⟨R.SYS_OWNER0, 20, 4⟩
def SYS_OWNER0_VEH : Fld := ⟨R.SYS_OWNER0, 24, 4⟩
def SYS_OWNER0_THM : Fld := ⟨R.SYS_OWNER0, 28, 4⟩
def SYS_OWNER1_MTR : Fld := ⟨R.SYS_OWNER1, 0, 4⟩
def SYS_OWNER1_BIL : Fld := ⟨R.SYS_OWNER1, 4, 4⟩
def SYS_OWNER1_SIG : Fld := ⟨R.SYS_OWNER1, 8, 4⟩
def SYS_OWNER1_RNG : Fld := ⟨R.SYS_OWNER1, 12, 4⟩
def SYS_OWNER1_LSW : Fld := ⟨R.SYS_OWNER1, 16, 4⟩
def SYS_OWNER1_EST : Fld := ⟨R.SYS_OWNER1, 20, 4⟩
def SYS_OWNER1_TIM : Fld := ⟨R.SYS_OWNER1, 24, 4⟩
def SYS_OWNER1_CAN : Fld := ⟨R.SYS_OWNER1, 28, 4⟩
def SYS_OWNER2_DKL : Fld := ⟨R.SYS_OWNER2, 0, 4⟩
def SYS_OWNER2_ETH : Fld := ⟨R.SYS_OWNER2, 4, 4⟩
def SYS_OWNER2_STO : Fld := ⟨R.SYS_OWNER2, 8, 4⟩
def SYS_OWNERLOCK_LOCK : Fld := ⟨R.SYS_OWNERLOCK, 0, 1⟩
def SYS_MBOXTX_DATA : Fld := ⟨R.SYS_MBOXTX, 0, 32⟩
def SYS_MBOXRX_DATA : Fld := ⟨R.SYS_MBOXRX, 0, 32⟩
def SYS_MBOXSTAT_UNDER : Fld := ⟨R.SYS_MBOXSTAT, 20, 1⟩
def SYS_MBOXSTAT_OVF : Fld := ⟨R.SYS_MBOXSTAT, 16, 4⟩
def SYS_MBOXSTAT_FULL : Fld := ⟨R.SYS_MBOXSTAT, 12, 4⟩
def SYS_MBOXSTAT_COUNT : Fld := ⟨R.SYS_MBOXSTAT, 0, 5⟩
def LPE_CTL_EVEN : Fld := ⟨R.LPE_CTL, 8, 9⟩
def LPE_STAT_SHED : Fld := ⟨R.LPE_STAT, 8, 1⟩
def LPE_STAT_CAPDONE : Fld := ⟨R.LPE_STAT, 7, 1⟩
def LPE_STAT_INJDONE : Fld := ⟨R.LPE_STAT, 6, 1⟩
def LPE_STAT_TOVER : Fld := ⟨R.LPE_STAT, 5, 1⟩
def LPE_STAT_CWFULL : Fld := ⟨R.LPE_STAT, 4, 1⟩
def LPE_STAT_SAT : Fld := ⟨R.LPE_STAT, 3, 1⟩
def LPE_STAT_FEACT : Fld := ⟨R.LPE_STAT, 2, 1⟩
def LPE_STAT_ADMIT : Fld := ⟨R.LPE_STAT, 1, 1⟩
def LPE_STAT_OVR : Fld := ⟨R.LPE_STAT, 0, 1⟩
def LPE_LOAD_W : Fld := ⟨R.LPE_LOAD, 0, 18⟩
def LPE_TLOAD_W : Fld := ⟨R.LPE_TLOAD, 0, 18⟩
def LPE_LAUNCH_OFFSET : Fld := ⟨R.LPE_LAUNCH, 0, 9⟩
def LPE_CWSTAT_PEND : Fld := ⟨R.LPE_CWSTAT, 0, 7⟩
def LPE_GROUP_EN : Fld := ⟨R.LPE_GROUP, 31, 1⟩
def LPE_GROUP_HALF : Fld := ⟨R.LPE_GROUP, 17, 1⟩
def LPE_GROUP_BANK : Fld := ⟨R.LPE_GROUP, 16, 1⟩
def LPE_GROUP_PERIOD : Fld := ⟨R.LPE_GROUP, 0, 16⟩
def LPE_TAKE_ACTIVE : Fld := ⟨R.LPE_TAKE, 0, 1⟩
def LPE_CELLINIT_SLOT : Fld := ⟨R.LPE_CELLINIT, 0, 10⟩
def LPE_INJCTL_LANEMASK : Fld := ⟨R.LPE_INJCTL, 16, 16⟩
def LPE_INJCTL_BATCH : Fld := ⟨R.LPE_INJCTL, 8, 6⟩
def LPE_INJCTL_WAVE : Fld := ⟨R.LPE_INJCTL, 4, 2⟩
def LPE_INJCTL_ERR : Fld := ⟨R.LPE_INJCTL, 2, 1⟩
def LPE_INJCTL_RUN : Fld := ⟨R.LPE_INJCTL, 1, 1⟩
def LPE_INJCTL_ARM : Fld := ⟨R.LPE_INJCTL, 0, 1⟩
def LPE_INJNODE_NODE : Fld := ⟨R.LPE_INJNODE, 0, 8⟩
def LPE_INJAMP_A : Fld := ⟨R.LPE_INJAMP, 0, 23⟩
def LPE_INJP0_P0 : Fld := ⟨R.LPE_INJP0, 0, 32⟩
def LPE_INJP1_P1 : Fld := ⟨R.LPE_INJP1, 0, 32⟩
def LPE_INJLEN_LEN : Fld := ⟨R.LPE_INJLEN, 0, 24⟩
def LPE_CAPCTL_BATCH : Fld := ⟨R.LPE_CAPCTL, 8, 6⟩
def LPE_CAPCTL_SYNC : Fld := ⟨R.LPE_CAPCTL, 4, 1⟩
def LPE_CAPCTL_NCH : Fld := ⟨R.LPE_CAPCTL, 2, 2⟩
def LPE_CAPCTL_MODE : Fld := ⟨R.LPE_CAPCTL, 1, 1⟩
def LPE_CAPCTL_ARM : Fld := ⟨R.LPE_CAPCTL, 0, 1⟩
def LPE_CAPCH_LANE : Fld := ⟨R.LPE_CAPCH, 8, 4⟩
def LPE_CAPCH_NODE : Fld := ⟨R.LPE_CAPCH, 0, 8⟩
def LPE_CAPSTAT_DONE : Fld := ⟨R.LPE_CAPSTAT, 17, 1⟩
def LPE_CAPSTAT_WRAPPED : Fld := ⟨R.LPE_CAPSTAT, 16, 1⟩
def LPE_CAPSTAT_NEXT : Fld := ⟨R.LPE_CAPSTAT, 0, 14⟩
def LPE_BATCH_MASK : Fld := ⟨R.LPE_BATCH, 16, 16⟩
def LPE_BATCH_EN : Fld := ⟨R.LPE_BATCH, 8, 1⟩
def LPE_BATCH_GROUP : Fld := ⟨R.LPE_BATCH, 4, 3⟩
def LPE_BATCH_KERNEL : Fld := ⟨R.LPE_BATCH, 0, 4⟩
def LPE_FECFG_EN : Fld := ⟨R.LPE_FECFG, 31, 1⟩
def LPE_FECFG_ACTION : Fld := ⟨R.LPE_FECFG, 24, 3⟩
def LPE_FECFG_TIMER : Fld := ⟨R.LPE_FECFG, 16, 8⟩
def LPE_FECFG_LIMIT : Fld := ⟨R.LPE_FECFG, 0, 16⟩
def LPE_BSTAT_ERR : Fld := ⟨R.LPE_BSTAT, 4, 4⟩
def LPE_BSTAT_OVR : Fld := ⟨R.LPE_BSTAT, 3, 1⟩
def LPE_BSTAT_STATE : Fld := ⟨R.LPE_BSTAT, 0, 3⟩
def LPE_SATST_LANE : Fld := ⟨R.LPE_SATST, 0, 16⟩
def LPE_FEST_OVER : Fld := ⟨R.LPE_FEST, 16, 16⟩
def LPE_FEST_ACTED : Fld := ⟨R.LPE_FEST, 0, 16⟩
def CLN_CTL_EVEN : Fld := ⟨R.CLN_CTL, 16, 16⟩
def CLN_CTL_RAMPMAX : Fld := ⟨R.CLN_CTL, 0, 14⟩
def CLN_STAT_GUARDOK : Fld := ⟨R.CLN_STAT, 16, 16⟩
def CLN_STAT_READY : Fld := ⟨R.CLN_STAT, 0, 16⟩
def CLN_ERRCLR_CLR : Fld := ⟨R.CLN_ERRCLR, 0, 32⟩
def CLN_READMIT_SLOT : Fld := ⟨R.CLN_READMIT, 0, 10⟩
def CLN_LANECFG_EN : Fld := ⟨R.CLN_LANECFG, 31, 1⟩
def CLN_LANECFG_RATEMAX : Fld := ⟨R.CLN_LANECFG, 28, 2⟩
def CLN_LANECFG_FMTB : Fld := ⟨R.CLN_LANECFG, 27, 1⟩
def CLN_LANECFG_GROUP : Fld := ⟨R.CLN_LANECFG, 24, 3⟩
def CLN_LANECFG_ERRTH : Fld := ⟨R.CLN_LANECFG, 16, 8⟩
def CLN_LANECFG_MINPER : Fld := ⟨R.CLN_LANECFG, 0, 16⟩
def CLN_LANESTAT_STATE : Fld := ⟨R.CLN_LANESTAT, 29, 3⟩
def CLN_LANESTAT_RATE : Fld := ⟨R.CLN_LANESTAT, 27, 2⟩
def CLN_LANESTAT_FMT : Fld := ⟨R.CLN_LANESTAT, 26, 1⟩
def CLN_LANESTAT_TRIP : Fld := ⟨R.CLN_LANESTAT, 25, 1⟩
def CLN_LANESTAT_SCHEDERR : Fld := ⟨R.CLN_LANESTAT, 24, 1⟩
def CLN_LANESTAT_BREAKPOS : Fld := ⟨R.CLN_LANESTAT, 19, 5⟩
def CLN_LANESTAT_NENUM : Fld := ⟨R.CLN_LANESTAT, 6, 6⟩
def CLN_LANESTAT_NCELL : Fld := ⟨R.CLN_LANESTAT, 0, 6⟩
def CLN_LANETIM_DMAX : Fld := ⟨R.CLN_LANETIM, 16, 16⟩
def CLN_LANETIM_TFAR : Fld := ⟨R.CLN_LANETIM, 0, 16⟩
def CLN_LANEEV_GERRTH : Fld := ⟨R.CLN_LANEEV, 13, 1⟩
def CLN_LANEEV_GTRIP : Fld := ⟨R.CLN_LANEEV, 12, 1⟩
def CLN_LANEEV_TAKEN : Fld := ⟨R.CLN_LANEEV, 11, 1⟩
def CLN_LANEEV_NODUAL : Fld := ⟨R.CLN_LANEEV, 10, 1⟩
def CLN_LANEEV_GSILENT : Fld := ⟨R.CLN_LANEEV, 9, 1⟩
def CLN_LANEEV_GLINK : Fld := ⟨R.CLN_LANEEV, 8, 1⟩
def CLN_LANEEV_REFUSED : Fld := ⟨R.CLN_LANEEV, 7, 1⟩
def CLN_LANEEV_ERRTH : Fld := ⟨R.CLN_LANEEV, 6, 1⟩
def CLN_LANEEV_TRIP : Fld := ⟨R.CLN_LANEEV, 5, 1⟩
def CLN_LANEEV_SCHEDERR : Fld := ⟨R.CLN_LANEEV, 4, 1⟩
def CLN_LANEEV_BREAK : Fld := ⟨R.CLN_LANEEV, 3, 1⟩
def CLN_LANEEV_CELLLOST : Fld := ⟨R.CLN_LANEEV, 2, 1⟩
def CLN_LANEEV_LINKDOWN : Fld := ⟨R.CLN_LANEEV, 1, 1⟩
def CLN_LANEEV_LINKUP : Fld := ⟨R.CLN_LANEEV, 0, 1⟩
def CLN_ERRA_CODEV : Fld := ⟨R.CLN_ERRA, 16, 16⟩
def CLN_ERRA_CRCUP : Fld := ⟨R.CLN_ERRA, 0, 16⟩
def CLN_ERRB_CRCDN : Fld := ⟨R.CLN_ERRB, 16, 16⟩
def CLN_ERRB_MISSTEL : Fld := ⟨R.CLN_ERRB, 0, 16⟩
def CLN_ERRC_MGTO : Fld := ⟨R.CLN_ERRC, 16, 16⟩
def CLN_ERRC_RELOCK : Fld := ⟨R.CLN_ERRC, 0, 16⟩
def CLN_MGREQ_GO : Fld := ⟨R.CLN_MGREQ, 31, 1⟩
def CLN_MGREQ_WR : Fld := ⟨R.CLN_MGREQ, 30, 1⟩
def CLN_MGREQ_LANE : Fld := ⟨R.CLN_MGREQ, 25, 5⟩
def CLN_MGREQ_POS : Fld := ⟨R.CLN_MGREQ, 20, 5⟩
def CLN_MGREQ_LEN : Fld := ⟨R.CLN_MGREQ, 14, 6⟩
def CLN_MGADDR_ADDR : Fld := ⟨R.CLN_MGADDR, 0, 16⟩
def CLN_MGSTAT_BUSY : Fld := ⟨R.CLN_MGSTAT, 31, 1⟩
def CLN_MGSTAT_DONE : Fld := ⟨R.CLN_MGSTAT, 30, 1⟩
def CLN_MGSTAT_ERR : Fld := ⟨R.CLN_MGSTAT, 27, 3⟩
def CLN_MGSTAT_CSTAT : Fld := ⟨R.CLN_MGSTAT, 0, 8⟩
def CLN_MGBUF_DATA : Fld := ⟨R.CLN_MGBUF, 0, 32⟩
def CLN_CELLMAP_VALID : Fld := ⟨R.CLN_CELLMAP, 31, 1⟩
def CLN_CELLMAP_LANE : Fld := ⟨R.CLN_CELLMAP, 16, 4⟩
def CLN_CELLMAP_POS : Fld := ⟨R.CLN_CELLMAP, 0, 5⟩
def CLN_CELLST_STATE : Fld := ⟨R.CLN_CELLST, 29, 3⟩
def CLN_CELLST_REFUSE : Fld := ⟨R.CLN_CELLST, 26, 3⟩
def CLN_CELLST_GROUPERR : Fld := ⟨R.CLN_CELLST, 25, 1⟩
def CLN_CELLST_MISS : Fld := ⟨R.CLN_CELLST, 23, 2⟩
def CLN_CELLST_STALE : Fld := ⟨R.CLN_CELLST, 21, 2⟩
def CLN_CELLST_STAT : Fld := ⟨R.CLN_CELLST, 16, 4⟩
def CLN_CAP_DATA : Fld := ⟨R.CLN_CAP, 0, 32⟩
def PRT_CTL_EVEN : Fld := ⟨R.PRT_CTL, 0, 32⟩
def PRT_STAT_CWQ : Fld := ⟨R.PRT_STAT, 0, 12⟩
def PRT_SNAP_CELL : Fld := ⟨R.PRT_SNAP, 31, 1⟩
def PRT_SNAP_INDEX : Fld := ⟨R.PRT_SNAP, 0, 10⟩
def PRT_CELLRST_SLOT : Fld := ⟨R.PRT_CELLRST, 0, 10⟩
def PRT_SNAPOUT_DATA : Fld := ⟨R.PRT_SNAPOUT, 0, 32⟩
def PRT_CELL_GROUP : Fld := ⟨R.PRT_CELL, 25, 7⟩
def PRT_CELL_RM : Fld := ⟨R.PRT_CELL, 22, 3⟩
def PRT_CELL_C2 : Fld := ⟨R.PRT_CELL, 12, 7⟩
def PRT_CELL_C1 : Fld := ⟨R.PRT_CELL, 0, 12⟩
def PRT_GCFG_EN : Fld := ⟨R.PRT_GCFG, 31, 1⟩
def PRT_GCFG_ROLE : Fld := ⟨R.PRT_GCFG, 28, 3⟩
def PRT_GCFG_KCUR : Fld := ⟨R.PRT_GCFG, 24, 4⟩
def PRT_GCFG_KVOLT : Fld := ⟨R.PRT_GCFG, 20, 4⟩
def PRT_GCFG_AUTOCV : Fld := ⟨R.PRT_GCFG, 19, 1⟩
def PRT_GCFG_ILEN : Fld := ⟨R.PRT_GCFG, 18, 1⟩
def PRT_GCFG_BIDIR : Fld := ⟨R.PRT_GCFG, 17, 1⟩
def PRT_GCFG_EVPORT : Fld := ⟨R.PRT_GCFG, 12, 5⟩
def PRT_GCFG_STEPTH : Fld := ⟨R.PRT_GCFG, 0, 12⟩
def PRT_GCMD_MODE : Fld := ⟨R.PRT_GCMD, 4, 2⟩
def PRT_GCMD_OP : Fld := ⟨R.PRT_GCMD, 0, 4⟩
def PRT_ISET_ISET : Fld := ⟨R.PRT_ISET, 0, 32⟩
def PRT_VSET_VSET : Fld := ⟨R.PRT_VSET, 0, 32⟩
def PRT_RATE_IRATE : Fld := ⟨R.PRT_RATE, 16, 16⟩
def PRT_RATE_VRATE : Fld := ⟨R.PRT_RATE, 0, 16⟩
def PRT_RLL_RLL : Fld := ⟨R.PRT_RLL, 0, 16⟩
def PRT_IRATED_IRATED : Fld := ⟨R.PRT_IRATED, 0, 24⟩
def PRT_PCFG_WELDEN : Fld := ⟨R.PRT_PCFG, 29, 1⟩
def PRT_PCFG_BLEEDEN : Fld := ⟨R.PRT_PCFG, 28, 1⟩
def PRT_PCFG_BLEED : Fld := ⟨R.PRT_PCFG, 24, 4⟩
def PRT_PCFG_VTOL : Fld := ⟨R.PRT_PCFG, 16, 8⟩
def PRT_PCFG_IPC : Fld := ⟨R.PRT_PCFG, 0, 16⟩
def PRT_EMAX_ECHK : Fld := ⟨R.PRT_EMAX, 16, 16⟩
def PRT_EMAX_EPRE : Fld := ⟨R.PRT_EMAX, 0, 16⟩
def PRT_CNOM_CNOM : Fld := ⟨R.PRT_CNOM, 0, 24⟩
def PRT_TIMES_PRETO : Fld := ⟨R.PRT_TIMES, 16, 16⟩
def PRT_TIMES_VWELD : Fld := ⟨R.PRT_TIMES, 0, 16⟩
def PRT_DISCFG_VMARG : Fld := ⟨R.PRT_DISCFG, 16, 16⟩
def PRT_DISCFG_IDIS : Fld := ⟨R.PRT_DISCFG, 0, 16⟩
def PRT_GSTAT_WELD : Fld := ⟨R.PRT_GSTAT, 24, 2⟩
def PRT_GSTAT_CMDERR : Fld := ⟨R.PRT_GSTAT, 20, 2⟩
def PRT_GSTAT_REEFREQ : Fld := ⟨R.PRT_GSTAT, 16, 3⟩
def PRT_GSTAT_NCELL : Fld := ⟨R.PRT_GSTAT, 8, 7⟩
def PRT_GSTAT_PEND : Fld := ⟨R.PRT_GSTAT, 4, 1⟩
def PRT_GSTAT_STATE : Fld := ⟨R.PRT_GSTAT, 0, 4⟩
def PRT_GCAUSE_CFGERR : Fld := ⟨R.PRT_GCAUSE, 28, 1⟩
def PRT_GCAUSE_TIMEOUT : Fld := ⟨R.PRT_GCAUSE, 27, 1⟩
def PRT_GCAUSE_MODEERR : Fld := ⟨R.PRT_GCAUSE, 26, 1⟩
def PRT_GCAUSE_SOPEN : Fld := ⟨R.PRT_GCAUSE, 25, 1⟩
def PRT_GCAUSE_WELD : Fld := ⟨R.PRT_GCAUSE, 24, 1⟩
def PRT_GCAUSE_THM : Fld := ⟨R.PRT_GCAUSE, 16, 8⟩
def PRT_GCAUSE_VEH : Fld := ⟨R.PRT_GCAUSE, 8, 8⟩
def PRT_GCAUSE_DISCHTO : Fld := ⟨R.PRT_GCAUSE, 7, 1⟩
def PRT_GCAUSE_ENERGY : Fld := ⟨R.PRT_GCAUSE, 6, 1⟩
def PRT_GCAUSE_SHORT : Fld := ⟨R.PRT_GCAUSE, 5, 1⟩
def PRT_GCAUSE_UNID : Fld := ⟨R.PRT_GCAUSE, 4, 1⟩
def PRT_GCAUSE_SENSE : Fld := ⟨R.PRT_GCAUSE, 3, 1⟩
def PRT_GCAUSE_OPEN : Fld := ⟨R.PRT_GCAUSE, 2, 1⟩
def PRT_GCAUSE_STATE : Fld := ⟨R.PRT_GCAUSE, 0, 1⟩
def PRT_ISHEET_SHEET : Fld := ⟨R.PRT_ISHEET, 0, 32⟩
def PRT_IAPP_IAPP : Fld := ⟨R.PRT_IAPP, 0, 32⟩
def PRT_VAPP_VAPP : Fld := ⟨R.PRT_VAPP, 0, 32⟩
def PRT_CIDENT_CIDENT : Fld := ⟨R.PRT_CIDENT, 0, 24⟩
def PRT_TREP_TPRE : Fld := ⟨R.PRT_TREP, 16, 16⟩
def PRT_TREP_TDIS : Fld := ⟨R.PRT_TREP, 0, 16⟩
def PRT_GTEL_DATA : Fld := ⟨R.PRT_GTEL, 0, 32⟩
def PRT_CTEL_DATA : Fld := ⟨R.PRT_CTEL, 0, 32⟩
def ALC_CTL_TCOMMIT : Fld := ⟨R.ALC_CTL, 25, 1⟩
def ALC_CTL_CNTCLR : Fld := ⟨R.ALC_CTL, 24, 1⟩
def ALC_CTL_PRICEOWN : Fld := ⟨R.ALC_CTL, 16, 1⟩
def ALC_CTL_EVEN : Fld := ⟨R.ALC_CTL, 8, 8⟩
def ALC_CTL_EN : Fld := ⟨R.ALC_CTL, 0, 1⟩
def ALC_STAT_AGREE : Fld := ⟨R.ALC_STAT, 16, 1⟩
def ALC_STAT_STATE : Fld := ⟨R.ALC_STAT, 12, 2⟩
def ALC_STAT_GEN : Fld := ⟨R.ALC_STAT, 8, 3⟩
def ALC_STAT_CAUSE : Fld := ⟨R.ALC_STAT, 0, 8⟩
def ALC_CFG_CLSEN : Fld := ⟨R.ALC_CFG, 16, 8⟩
def ALC_CFG_PERIOD : Fld := ⟨R.ALC_CFG, 0, 16⟩
def ALC_WIN_VFLOOR : Fld := ⟨R.ALC_WIN, 16, 16⟩
def ALC_WIN_XWIN : Fld := ⟨R.ALC_WIN, 0, 16⟩
def ALC_AGE_PRICEAGE : Fld := ⟨R.ALC_AGE, 16, 16⟩
def ALC_AGE_REQAGE : Fld := ⟨R.ALC_AGE, 0, 16⟩
def ALC_TSOLVE_LAST : Fld := ⟨R.ALC_TSOLVE, 16, 16⟩
def ALC_TSOLVE_WORST : Fld := ⟨R.ALC_TSOLVE, 0, 16⟩
def ALC_SEQ_SEQ : Fld := ⟨R.ALC_SEQ, 0, 32⟩
def ALC_EPOCH_EPOCH : Fld := ⟨R.ALC_EPOCH, 0, 32⟩
def ALC_IDL_ID : Fld := ⟨R.ALC_IDL, 0, 32⟩
def ALC_IDH_ID : Fld := ⟨R.ALC_IDH, 0, 32⟩
def ALC_TREEDIG_DIG : Fld := ⟨R.ALC_TREEDIG, 0, 32⟩
def ALC_CNT_LATE : Fld := ⟨R.ALC_CNT, 16, 16⟩
def ALC_CNT_NOAGREE : Fld := ⟨R.ALC_CNT, 0, 16⟩
def ALC_PRICE_PRICE : Fld := ⟨R.ALC_PRICE, 0, 32⟩
def ALC_REEFFRAC0_F3 : Fld := ⟨R.ALC_REEFFRAC0, 24, 8⟩
def ALC_REEFFRAC0_F2 : Fld := ⟨R.ALC_REEFFRAC0, 16, 8⟩
def ALC_REEFFRAC0_F1 : Fld := ⟨R.ALC_REEFFRAC0, 8, 8⟩
def ALC_REEFFRAC0_F0 : Fld := ⟨R.ALC_REEFFRAC0, 0, 8⟩
def ALC_REEFFRAC1_F7 : Fld := ⟨R.ALC_REEFFRAC1, 24, 8⟩
def ALC_REEFFRAC1_F6 : Fld := ⟨R.ALC_REEFFRAC1, 16, 8⟩
def ALC_REEFFRAC1_F5 : Fld := ⟨R.ALC_REEFFRAC1, 8, 8⟩
def ALC_REEFFRAC1_F4 : Fld := ⟨R.ALC_REEFFRAC1, 0, 8⟩
def ALC_MISS_MOD : Fld := ⟨R.ALC_MISS, 0, 32⟩
def ALC_PREQ_REQ : Fld := ⟨R.ALC_PREQ, 0, 32⟩
def ALC_PCFG_WEIGHT : Fld := ⟨R.ALC_PCFG, 24, 8⟩
def ALC_PCFG_FORCE : Fld := ⟨R.ALC_PCFG, 16, 3⟩
def ALC_PCFG_ACTIVE : Fld := ⟨R.ALC_PCFG, 15, 1⟩
def ALC_PCFG_CLASS : Fld := ⟨R.ALC_PCFG, 12, 3⟩
def ALC_PCFG_PARENT : Fld := ⟨R.ALC_PCFG, 0, 12⟩
def ALC_PRAMP_RAMP : Fld := ⟨R.ALC_PRAMP, 0, 32⟩
def ALC_PRATED_RATED : Fld := ⟨R.ALC_PRATED, 0, 32⟩
def ALC_PAPPLIED_APPLIED : Fld := ⟨R.ALC_PAPPLIED, 0, 32⟩
def ALC_PLAST_LAST : Fld := ⟨R.ALC_PLAST, 0, 32⟩
def ALC_PGRANT_GRANT : Fld := ⟨R.ALC_PGRANT, 0, 32⟩
def ALC_PSTAT_STALE : Fld := ⟨R.ALC_PSTAT, 5, 1⟩
def ALC_PSTAT_REEF : Fld := ⟨R.ALC_PSTAT, 0, 3⟩
def ALC_SCFG_WEIGHT : Fld := ⟨R.ALC_SCFG, 24, 8⟩
def ALC_SCFG_DRIVE : Fld := ⟨R.ALC_SCFG, 16, 1⟩
def ALC_SCFG_ENABLED : Fld := ⟨R.ALC_SCFG, 15, 1⟩
def ALC_SCFG_CLASS : Fld := ⟨R.ALC_SCFG, 12, 3⟩
def ALC_SCFG_PARENT : Fld := ⟨R.ALC_SCFG, 0, 12⟩
def ALC_SCHGPRICE_CHGPRICE : Fld := ⟨R.ALC_SCHGPRICE, 0, 32⟩
def ALC_SDISPRICE_DISPRICE : Fld := ⟨R.ALC_SDISPRICE, 0, 32⟩
def ALC_SRAMP_RAMP : Fld := ⟨R.ALC_SRAMP, 0, 32⟩
def ALC_SSETPOINT_SETPOINT : Fld := ⟨R.ALC_SSETPOINT, 0, 32⟩
def ALC_SLAST_LAST : Fld := ⟨R.ALC_SLAST, 0, 32⟩
def ALC_SOFFER_OFFER : Fld := ⟨R.ALC_SOFFER, 0, 32⟩
def ALC_SSTAT_MODE : Fld := ⟨R.ALC_SSTAT, 0, 2⟩
def ALC_DYN0_VALID : Fld := ⟨R.ALC_DYN0, 31, 1⟩
def ALC_DYN0_NODE : Fld := ⟨R.ALC_DYN0, 0, 12⟩
def ALC_DYN1_DYNLIMIT : Fld := ⟨R.ALC_DYN1, 0, 32⟩
def ALC_DYN2_MEAS : Fld := ⟨R.ALC_DYN2, 0, 32⟩
def ALC_NODE0_VALID : Fld := ⟨R.ALC_NODE0, 31, 1⟩
def ALC_NODE0_KIND : Fld := ⟨R.ALC_NODE0, 28, 3⟩
def ALC_NODE0_MSRC : Fld := ⟨R.ALC_NODE0, 24, 4⟩
def ALC_NODE0_OWNER : Fld := ⟨R.ALC_NODE0, 16, 8⟩
def ALC_NODE0_PARENT : Fld := ⟨R.ALC_NODE0, 0, 12⟩
def ALC_NODE1_LIMIT : Fld := ⟨R.ALC_NODE1, 0, 32⟩
def ALC_NODEST0_LOAD : Fld := ⟨R.ALC_NODEST0, 0, 32⟩
def ALC_NODEST1_U : Fld := ⟨R.ALC_NODEST1, 0, 32⟩
def VEH_STAT_PLCFREE : Fld := ⟨R.VEH_STAT, 24, 4⟩
def VEH_STAT_PLCWAIT : Fld := ⟨R.VEH_STAT, 0, 24⟩
def VEH_TIM0_TCHK : Fld := ⟨R.VEH_TIM0, 24, 8⟩
def VEH_TIM0_TSEQ : Fld := ⟨R.VEH_TIM0, 16, 8⟩
def VEH_TIM0_TSETUP : Fld := ⟨R.VEH_TIM0, 8, 8⟩
def VEH_TIM0_TLINK : Fld := ⟨R.VEH_TIM0, 0, 8⟩
def VEH_TIM1_TLOOP : Fld := ⟨R.VEH_TIM1, 16, 16⟩
def VEH_TIM1_TRESP : Fld := ⟨R.VEH_TIM1, 0, 16⟩
def VEH_TIM2_ATTMAX : Fld := ⟨R.VEH_TIM2, 24, 8⟩
def VEH_TIM2_XDB : Fld := ⟨R.VEH_TIM2, 16, 8⟩
def VEH_TIM2_PFILT : Fld := ⟨R.VEH_TIM2, 8, 8⟩
def VEH_TIM2_TPLC : Fld := ⟨R.VEH_TIM2, 0, 8⟩
def VEH_TIM3_STOPRATE : Fld := ⟨R.VEH_TIM3, 0, 16⟩
def VEH_FE_MODE : Fld := ⟨R.VEH_FE, 30, 2⟩
def VEH_FE_TYPE : Fld := ⟨R.VEH_FE, 29, 1⟩
def VEH_FE_NOPLC : Fld := ⟨R.VEH_FE, 28, 1⟩
def VEH_FE_PLC : Fld := ⟨R.VEH_FE, 24, 4⟩
def VEH_FE_CTX : Fld := ⟨R.VEH_FE, 0, 6⟩
def VEH_FEMACL_MACL : Fld := ⟨R.VEH_FEMACL, 0, 32⟩
def VEH_FEMACH_MACH : Fld := ⟨R.VEH_FEMACH, 0, 16⟩
def VEH_SCFG_EN : Fld := ⟨R.VEH_SCFG, 31, 1⟩
def VEH_SCFG_BPT : Fld := ⟨R.VEH_SCFG, 30, 1⟩
def VEH_SCFG_VENTOK : Fld := ⟨R.VEH_SCFG, 29, 1⟩
def VEH_SCFG_PNC : Fld := ⟨R.VEH_SCFG, 28, 1⟩
def VEH_SCFG_PROTO : Fld := ⟨R.VEH_SCFG, 0, 3⟩
def VEH_SCMD_OP : Fld := ⟨R.VEH_SCMD, 0, 4⟩
def VEH_SSTAT_STOPCODE : Fld := ⟨R.VEH_SSTAT, 24, 8⟩
def VEH_SSTAT_FE : Fld := ⟨R.VEH_SSTAT, 16, 6⟩
def VEH_SSTAT_PILOT : Fld := ⟨R.VEH_SSTAT, 12, 4⟩
def VEH_SSTAT_UNCONF : Fld := ⟨R.VEH_SSTAT, 11, 1⟩
def VEH_SSTAT_CMDERR : Fld := ⟨R.VEH_SSTAT, 10, 1⟩
def VEH_SSTAT_PEND : Fld := ⟨R.VEH_SSTAT, 9, 1⟩
def VEH_SSTAT_BPTACT : Fld := ⟨R.VEH_SSTAT, 8, 1⟩
def VEH_SSTAT_TLS : Fld := ⟨R.VEH_SSTAT, 7, 1⟩
def VEH_SSTAT_PROTOSEL : Fld := ⟨R.VEH_SSTAT, 4, 3⟩
def VEH_SSTAT_STATE : Fld := ⟨R.VEH_SSTAT, 0, 4⟩
def VEH_RXADDR_ADDR : Fld := ⟨R.VEH_RXADDR, 0, 32⟩
def VEH_RXLEN_LEN : Fld := ⟨R.VEH_RXLEN, 0, 14⟩
def VEH_TXADDR_ADDR : Fld := ⟨R.VEH_TXADDR, 0, 32⟩
def VEH_TXLEN_GO : Fld := ⟨R.VEH_TXLEN, 31, 1⟩
def VEH_TXLEN_LEN : Fld := ⟨R.VEH_TXLEN, 0, 14⟩
def VEH_LIMI_LIMI : Fld := ⟨R.VEH_LIMI, 0, 32⟩
def VEH_LIMV_LIMV : Fld := ⟨R.VEH_LIMV, 0, 32⟩
def VEH_LIMP_LIMP : Fld := ⟨R.VEH_LIMP, 0, 32⟩
def VEH_CHKV_CHKV : Fld := ⟨R.VEH_CHKV, 0, 32⟩
def VEH_EVI_EVI : Fld := ⟨R.VEH_EVI, 0, 32⟩
def VEH_EVV_EVV : Fld := ⟨R.VEH_EVV, 0, 32⟩
def VEH_EVSOC_SOC : Fld := ⟨R.VEH_EVSOC, 0, 8⟩
def VEH_LOOPCNT_BADFRAME : Fld := ⟨R.VEH_LOOPCNT, 16, 16⟩
def VEH_LOOPCNT_LOOPS : Fld := ⟨R.VEH_LOOPCNT, 0, 16⟩
def THM_CTL_EVEN : Fld := ⟨R.THM_CTL, 0, 8⟩
def THM_STAT_CAUSE : Fld := ⟨R.THM_STAT, 0, 8⟩
def THM_JSTAT_NVOK : Fld := ⟨R.THM_JSTAT, 31, 1⟩
def THM_JSTAT_JSAVE : Fld := ⟨R.THM_JSTAT, 30, 1⟩
def THM_JSTAT_TJMIN : Fld := ⟨R.THM_JSTAT, 16, 14⟩
def THM_JSTAT_TJMAX : Fld := ⟨R.THM_JSTAT, 0, 16⟩
def THM_SCFG_TYPE : Fld := ⟨R.THM_SCFG, 30, 2⟩
def THM_SCFG_FBFIX : Fld := ⟨R.THM_SCFG, 29, 1⟩
def THM_SCFG_ALT : Fld := ⟨R.THM_SCFG, 22, 7⟩
def THM_SCFG_BETA : Fld := ⟨R.THM_SCFG, 0, 16⟩
def THM_SLIM_HI : Fld := ⟨R.THM_SLIM, 16, 16⟩
def THM_SLIM_LO : Fld := ⟨R.THM_SLIM, 0, 16⟩
def THM_SFB_OFFS : Fld := ⟨R.THM_SFB, 16, 16⟩
def THM_SFB_FIXT : Fld := ⟨R.THM_SFB, 0, 16⟩
def THM_SSTAT_T : Fld := ⟨R.THM_SSTAT, 16, 16⟩
def THM_SSTAT_PERIOD : Fld := ⟨R.THM_SSTAT, 14, 2⟩
def THM_SSTAT_FAULT : Fld := ⟨R.THM_SSTAT, 12, 2⟩
def THM_SSTAT_FB : Fld := ⟨R.THM_SSTAT, 11, 1⟩
def THM_SSTAT_HIX : Fld := ⟨R.THM_SSTAT, 10, 1⟩
def THM_SSTAT_LOX : Fld := ⟨R.THM_SSTAT, 9, 1⟩
def THM_PSEN_INLET : Fld := ⟨R.THM_PSEN, 25, 7⟩
def THM_PSEN_OUTLET : Fld := ⟨R.THM_PSEN, 18, 7⟩
def THM_PSEN_PINP : Fld := ⟨R.THM_PSEN, 11, 7⟩
def THM_PSEN_PINN : Fld := ⟨R.THM_PSEN, 4, 7⟩
def THM_PCH_EN : Fld := ⟨R.THM_PCH, 31, 1⟩
def THM_PCH_FORCE : Fld := ⟨R.THM_PCH, 30, 1⟩
def THM_PCH_PUMP : Fld := ⟨R.THM_PCH, 10, 5⟩
def THM_PCH_FAN : Fld := ⟨R.THM_PCH, 5, 5⟩
def THM_PCH_VALVE : Fld := ⟨R.THM_PCH, 0, 5⟩
def THM_FLOWCFG_KF : Fld := ⟨R.THM_FLOWCFG, 16, 16⟩
def THM_FLOWCFG_FLOWMIN : Fld := ⟨R.THM_FLOWCFG, 0, 16⟩
def THM_WIN_TCMAX : Fld := ⟨R.THM_WIN, 16, 16⟩
def THM_WIN_TCMIN : Fld := ⟨R.THM_WIN, 0, 16⟩
def THM_LIM_TLIM : Fld := ⟨R.THM_LIM, 16, 16⟩
def THM_LIM_TWARN : Fld := ⟨R.THM_LIM, 0, 16⟩
def THM_REEF_TPINWARN : Fld := ⟨R.THM_REEF, 16, 16⟩
def THM_REEF_REEFSTEP : Fld := ⟨R.THM_REEF, 8, 8⟩
def THM_REEF_NOGOT : Fld := ⟨R.THM_REEF, 0, 8⟩
def THM_R20_R20 : Fld := ⟨R.THM_R20, 0, 32⟩
def THM_COEF_CPV : Fld := ⟨R.THM_COEF, 16, 16⟩
def THM_COEF_ALPHA : Fld := ⟨R.THM_COEF, 0, 16⟩
def THM_CAP_C1 : Fld := ⟨R.THM_CAP, 16, 16⟩
def THM_CAP_C2 : Fld := ⟨R.THM_CAP, 0, 16⟩
def THM_G12_G12 : Fld := ⟨R.THM_G12, 0, 32⟩
def THM_OBS_EH : Fld := ⟨R.THM_OBS, 16, 16⟩
def THM_OBS_LOBS : Fld := ⟨R.THM_OBS, 8, 8⟩
def THM_IMAXH_IMAXH : Fld := ⟨R.THM_IMAXH, 0, 32⟩
def THM_ISTAT_ISTAT : Fld := ⟨R.THM_ISTAT, 0, 32⟩
def THM_FLOW_FLOW : Fld := ⟨R.THM_FLOW, 0, 16⟩
def THM_TEST_T1 : Fld := ⟨R.THM_TEST, 16, 16⟩
def THM_TEST_T2 : Fld := ⟨R.THM_TEST, 0, 16⟩
def THM_CABLE_CABLE : Fld := ⟨R.THM_CABLE, 0, 32⟩
def THM_PSTAT_NOGO : Fld := ⟨R.THM_PSTAT, 31, 1⟩
def THM_PSTAT_OBSFB : Fld := ⟨R.THM_PSTAT, 30, 1⟩
def THM_PSTAT_TREEF : Fld := ⟨R.THM_PSTAT, 0, 3⟩
def MTR_CTL_EVEN : Fld := ⟨R.MTR_CTL, 0, 8⟩
def MTR_STAT_CALEN : Fld := ⟨R.MTR_STAT, 8, 1⟩
def MTR_STAT_CAUSE : Fld := ⟨R.MTR_STAT, 0, 8⟩
def MTR_CALCNT_COUNT : Fld := ⟨R.MTR_CALCNT, 0, 32⟩
def MTR_FOLD_SKIP : Fld := ⟨R.MTR_FOLD, 16, 16⟩
def MTR_FOLD_SEQ : Fld := ⟨R.MTR_FOLD, 0, 16⟩
def MTR_BNDL_B : Fld := ⟨R.MTR_BNDL, 0, 32⟩
def MTR_BNDH_B : Fld := ⟨R.MTR_BNDH, 0, 32⟩
def MTR_BNDCTL_GO : Fld := ⟨R.MTR_BNDCTL, 31, 1⟩
def MTR_BNDCTL_ERR : Fld := ⟨R.MTR_BNDCTL, 30, 1⟩
def MTR_BNDCTL_METER : Fld := ⟨R.MTR_BNDCTL, 16, 5⟩
def MTR_BNDCTL_TAG : Fld := ⟨R.MTR_BNDCTL, 8, 8⟩
def MTR_BNDCTL_COUNT : Fld := ⟨R.MTR_BNDCTL, 0, 4⟩
def MTR_RES0_VALID : Fld := ⟨R.MTR_RES0, 31, 1⟩
def MTR_RES0_METER : Fld := ⟨R.MTR_RES0, 8, 5⟩
def MTR_RES0_TAG : Fld := ⟨R.MTR_RES0, 0, 8⟩
def MTR_RESBL_B : Fld := ⟨R.MTR_RESBL, 0, 32⟩
def MTR_RESBH_B : Fld := ⟨R.MTR_RESBH, 0, 32⟩
def MTR_RESEDL_ED : Fld := ⟨R.MTR_RESEDL, 0, 32⟩
def MTR_RESEDH_ED : Fld := ⟨R.MTR_RESEDH, 0, 32⟩
def MTR_RESFRAC_REC : Fld := ⟨R.MTR_RESFRAC, 16, 16⟩
def MTR_RESFRAC_DEL : Fld := ⟨R.MTR_RESFRAC, 0, 16⟩
def MTR_MIRL_ER : Fld := ⟨R.MTR_MIRL, 0, 32⟩
def MTR_MIRH_ER : Fld := ⟨R.MTR_MIRH, 0, 32⟩
def MTR_MCFG_PSRC : Fld := ⟨R.MTR_MCFG, 31, 1⟩
def MTR_MCFG_PEN : Fld := ⟨R.MTR_MCFG, 30, 1⟩
def MTR_MCFG_KP : Fld := ⟨R.MTR_MCFG, 0, 16⟩
def MTR_IGAIN_IGAIN : Fld := ⟨R.MTR_IGAIN, 0, 32⟩
def MTR_IOFF_IOFF : Fld := ⟨R.MTR_IOFF, 0, 32⟩
def MTR_VGAIN_VGAIN : Fld := ⟨R.MTR_VGAIN, 0, 32⟩
def MTR_VOFF_VOFF : Fld := ⟨R.MTR_VOFF, 0, 32⟩
def MTR_RCOMP_RCOMP : Fld := ⟨R.MTR_RCOMP, 0, 16⟩
def MTR_MSTAT_FAULT : Fld := ⟨R.MTR_MSTAT, 31, 1⟩
def MTR_MSTAT_OVR : Fld := ⟨R.MTR_MSTAT, 30, 1⟩
def MTR_MSTAT_CREEP : Fld := ⟨R.MTR_MSTAT, 29, 1⟩
def MTR_MSTAT_SEC : Fld := ⟨R.MTR_MSTAT, 28, 1⟩
def MTR_MSTAT_GAP : Fld := ⟨R.MTR_MSTAT, 27, 1⟩
def MTR_MSTAT_PBACK : Fld := ⟨R.MTR_MSTAT, 0, 16⟩
def MTR_EDELL_EDEL : Fld := ⟨R.MTR_EDELL, 0, 32⟩
def MTR_EDELH_EDEL : Fld := ⟨R.MTR_EDELH, 0, 32⟩
def MTR_ERECL_EREC : Fld := ⟨R.MTR_ERECL, 0, 32⟩
def MTR_ERECH_EREC : Fld := ⟨R.MTR_ERECH, 0, 32⟩
def MTR_XDEL_XDEL : Fld := ⟨R.MTR_XDEL, 0, 30⟩
def MTR_XREC_XREC : Fld := ⟨R.MTR_XREC, 0, 30⟩
def MTR_RAWDELL_RAWDEL : Fld := ⟨R.MTR_RAWDELL, 0, 32⟩
def MTR_RAWDELH_RAWDEL : Fld := ⟨R.MTR_RAWDELH, 0, 16⟩
def MTR_RAWRECL_RAWREC : Fld := ⟨R.MTR_RAWRECL, 0, 32⟩
def MTR_RAWRECH_RAWREC : Fld := ⟨R.MTR_RAWRECH, 0, 16⟩
def MTR_FTI_I_FT : Fld := ⟨R.MTR_FTI, 0, 32⟩
def MTR_FTV_V_FT : Fld := ⟨R.MTR_FTV, 0, 32⟩
def MTR_MP1_P1 : Fld := ⟨R.MTR_MP1, 0, 32⟩
def MTR_PCNT_PCNT : Fld := ⟨R.MTR_PCNT, 0, 32⟩
def MTR_CLOSEI_I : Fld := ⟨R.MTR_CLOSEI, 0, 32⟩
def MTR_CLOSEV_V : Fld := ⟨R.MTR_CLOSEV, 0, 32⟩
def MTR_CLOSETL_T : Fld := ⟨R.MTR_CLOSETL, 0, 32⟩
def MTR_CLOSETH_T : Fld := ⟨R.MTR_CLOSETH, 0, 32⟩
def MTR_GCFG_FORCE : Fld := ⟨R.MTR_GCFG, 31, 1⟩
def MTR_GCFG_SENS : Fld := ⟨R.MTR_GCFG, 30, 1⟩
def MTR_GKG_KGI : Fld := ⟨R.MTR_GKG, 16, 16⟩
def MTR_GKG_KGE : Fld := ⟨R.MTR_GKG, 0, 16⟩
def MTR_CTRATIO_CTRATIO : Fld := ⟨R.MTR_CTRATIO, 0, 32⟩
def MTR_VTRATIO_VTRATIO : Fld := ⟨R.MTR_VTRATIO, 0, 32⟩
def MTR_GCAL_GAIN : Fld := ⟨R.MTR_GCAL, 0, 32⟩
def MTR_GSTAT_MODE : Fld := ⟨R.MTR_GSTAT, 30, 2⟩
def MTR_GSTAT_REASON : Fld := ⟨R.MTR_GSTAT, 28, 2⟩
def MTR_GSTAT_SHORTP : Fld := ⟨R.MTR_GSTAT, 0, 16⟩
def MTR_EIMPL_EIMP : Fld := ⟨R.MTR_EIMPL, 0, 32⟩
def MTR_EIMPH_EIMP : Fld := ⟨R.MTR_EIMPH, 0, 32⟩
def MTR_EEXPL_EEXP : Fld := ⟨R.MTR_EEXPL, 0, 32⟩
def MTR_EEXPH_EEXP : Fld := ⟨R.MTR_EEXPH, 0, 32⟩
def MTR_XIMP_XIMP : Fld := ⟨R.MTR_XIMP, 0, 30⟩
def MTR_XEXP_XEXP : Fld := ⟨R.MTR_XEXP, 0, 30⟩
def MTR_GP1_GP1 : Fld := ⟨R.MTR_GP1, 0, 32⟩
def MTR_GFREQ_F : Fld := ⟨R.MTR_GFREQ, 0, 32⟩
def MTR_GRMSV_V : Fld := ⟨R.MTR_GRMSV, 0, 32⟩
def MTR_GRMSI_I : Fld := ⟨R.MTR_GRMSI, 0, 32⟩
def MTR_SECDELL_SECDEL : Fld := ⟨R.MTR_SECDELL, 0, 32⟩
def MTR_SECDELH_SECDEL : Fld := ⟨R.MTR_SECDELH, 0, 32⟩
def MTR_SECRECL_SECREC : Fld := ⟨R.MTR_SECRECL, 0, 32⟩
def MTR_SECRECH_SECREC : Fld := ⟨R.MTR_SECRECH, 0, 32⟩
def BIL_CTL_EN : Fld := ⟨R.BIL_CTL, 31, 1⟩
def BIL_CTL_ACTIVATE : Fld := ⟨R.BIL_CTL, 30, 1⟩
def BIL_CTL_RESETDEM : Fld := ⟨R.BIL_CTL, 29, 1⟩
def BIL_CTL_RESETDAY : Fld := ⟨R.BIL_CTL, 16, 5⟩
def BIL_CTL_DEMLEN : Fld := ⟨R.BIL_CTL, 8, 3⟩
def BIL_CTL_EVEN : Fld := ⟨R.BIL_CTL, 0, 8⟩
def BIL_STAT_FOLD : Fld := ⟨R.BIL_STAT, 24, 8⟩
def BIL_STAT_TARIFF : Fld := ⟨R.BIL_STAT, 16, 3⟩
def BIL_STAT_CALERR : Fld := ⟨R.BIL_STAT, 15, 1⟩
def BIL_STAT_ACTPEND : Fld := ⟨R.BIL_STAT, 13, 1⟩
def BIL_STAT_DLENPEND : Fld := ⟨R.BIL_STAT, 12, 1⟩
def BIL_STAT_CAUSE : Fld := ⟨R.BIL_STAT, 0, 8⟩
def BIL_ISEQ_ISEQ : Fld := ⟨R.BIL_ISEQ, 0, 32⟩
def BIL_STEPTH_STEPTH : Fld := ⟨R.BIL_STEPTH, 0, 16⟩
def BIL_KOFFL_K : Fld := ⟨R.BIL_KOFFL, 0, 32⟩
def BIL_KOFFH_K : Fld := ⟨R.BIL_KOFFH, 0, 32⟩
def BIL_NEXTL_B : Fld := ⟨R.BIL_NEXTL, 0, 32⟩
def BIL_NEXTH_B : Fld := ⟨R.BIL_NEXTH, 0, 32⟩
def BIL_ACTAT_LABEL : Fld := ⟨R.BIL_ACTAT, 0, 32⟩
def BIL_ARCH_BACKLOG : Fld := ⟨R.BIL_ARCH, 16, 16⟩
def BIL_ARCH_LOST : Fld := ⟨R.BIL_ARCH, 0, 16⟩
def BIL_TCOUNT_COUNT : Fld := ⟨R.BIL_TCOUNT, 0, 32⟩
def BIL_TFIRSTL_T : Fld := ⟨R.BIL_TFIRSTL, 0, 32⟩
def BIL_TFIRSTH_T : Fld := ⟨R.BIL_TFIRSTH, 0, 32⟩
def BIL_TLASTL_T : Fld := ⟨R.BIL_TLASTL, 0, 32⟩
def BIL_TLASTH_T : Fld := ⟨R.BIL_TLASTH, 0, 32⟩
def BIL_SPAN0_LFROM : Fld := ⟨R.BIL_SPAN0, 0, 32⟩
def BIL_SPAN1_LTO : Fld := ⟨R.BIL_SPAN1, 0, 32⟩
def BIL_DCFG_EN : Fld := ⟨R.BIL_DCFG, 31, 1⟩
def BIL_DCFG_METER : Fld := ⟨R.BIL_DCFG, 8, 5⟩
def BIL_DCFG_NITEM : Fld := ⟨R.BIL_DCFG, 0, 4⟩
def BIL_ITEM_DWELL : Fld := ⟨R.BIL_ITEM, 16, 8⟩
def BIL_ITEM_ARG : Fld := ⟨R.BIL_ITEM, 8, 8⟩
def BIL_ITEM_CODE : Fld := ⟨R.BIL_ITEM, 0, 8⟩
def BIL_TEXT_CHARS : Fld := ⟨R.BIL_TEXT, 0, 32⟩
def BIL_DSTAT_FAIL : Fld := ⟨R.BIL_DSTAT, 31, 1⟩
def BIL_DSTAT_ITEM : Fld := ⟨R.BIL_DSTAT, 0, 4⟩
def BIL_PSEA0_VALID : Fld := ⟨R.BIL_PSEA0, 31, 1⟩
def BIL_PSEA0_WEEK : Fld := ⟨R.BIL_PSEA0, 24, 4⟩
def BIL_PSEA0_MONTH : Fld := ⟨R.BIL_PSEA0, 16, 4⟩
def BIL_PSEA0_DAY : Fld := ⟨R.BIL_PSEA0, 8, 5⟩
def BIL_PSEA1_OFFSET : Fld := ⟨R.BIL_PSEA1, 16, 8⟩
def BIL_PSEA1_MINUTE : Fld := ⟨R.BIL_PSEA1, 0, 11⟩
def BIL_PWEEK0_THU : Fld := ⟨R.BIL_PWEEK0, 24, 5⟩
def BIL_PWEEK0_WED : Fld := ⟨R.BIL_PWEEK0, 16, 5⟩
def BIL_PWEEK0_TUE : Fld := ⟨R.BIL_PWEEK0, 8, 5⟩
def BIL_PWEEK0_MON : Fld := ⟨R.BIL_PWEEK0, 0, 5⟩
def BIL_PWEEK1_SUN : Fld := ⟨R.BIL_PWEEK1, 16, 5⟩
def BIL_PWEEK1_SAT : Fld := ⟨R.BIL_PWEEK1, 8, 5⟩
def BIL_PWEEK1_FRI : Fld := ⟨R.BIL_PWEEK1, 0, 5⟩
def BIL_PDAY_VALID : Fld := ⟨R.BIL_PDAY, 31, 1⟩
def BIL_PDAY_TARIFF : Fld := ⟨R.BIL_PDAY, 16, 3⟩
def BIL_PDAY_MINUTE : Fld := ⟨R.BIL_PDAY, 0, 11⟩
def BIL_PSPEC_VALID : Fld := ⟨R.BIL_PSPEC, 31, 1⟩
def BIL_PSPEC_EVERYYEAR : Fld := ⟨R.BIL_PSPEC, 30, 1⟩
def BIL_PSPEC_DAYPROF : Fld := ⟨R.BIL_PSPEC, 24, 5⟩
def BIL_PSPEC_YEAR : Fld := ⟨R.BIL_PSPEC, 16, 8⟩
def BIL_PSPEC_MONTH : Fld := ⟨R.BIL_PSPEC, 8, 4⟩
def BIL_PSPEC_DAY : Fld := ⟨R.BIL_PSPEC, 0, 5⟩
def BIL_ASEA0_VALID : Fld := ⟨R.BIL_ASEA0, 31, 1⟩
def BIL_ASEA0_WEEK : Fld := ⟨R.BIL_ASEA0, 24, 4⟩
def BIL_ASEA0_MONTH : Fld := ⟨R.BIL_ASEA0, 16, 4⟩
def BIL_ASEA0_DAY : Fld := ⟨R.BIL_ASEA0, 8, 5⟩
def BIL_ASEA1_OFFSET : Fld := ⟨R.BIL_ASEA1, 16, 8⟩
def BIL_ASEA1_MINUTE : Fld := ⟨R.BIL_ASEA1, 0, 11⟩
def BIL_AWEEK0_THU : Fld := ⟨R.BIL_AWEEK0, 24, 5⟩
def BIL_AWEEK0_WED : Fld := ⟨R.BIL_AWEEK0, 16, 5⟩
def BIL_AWEEK0_TUE : Fld := ⟨R.BIL_AWEEK0, 8, 5⟩
def BIL_AWEEK0_MON : Fld := ⟨R.BIL_AWEEK0, 0, 5⟩
def BIL_AWEEK1_SUN : Fld := ⟨R.BIL_AWEEK1, 16, 5⟩
def BIL_AWEEK1_SAT : Fld := ⟨R.BIL_AWEEK1, 8, 5⟩
def BIL_AWEEK1_FRI : Fld := ⟨R.BIL_AWEEK1, 0, 5⟩
def BIL_ADAY_VALID : Fld := ⟨R.BIL_ADAY, 31, 1⟩
def BIL_ADAY_TARIFF : Fld := ⟨R.BIL_ADAY, 16, 3⟩
def BIL_ADAY_MINUTE : Fld := ⟨R.BIL_ADAY, 0, 11⟩
def BIL_ASPEC_VALID : Fld := ⟨R.BIL_ASPEC, 31, 1⟩
def BIL_ASPEC_EVERYYEAR : Fld := ⟨R.BIL_ASPEC, 30, 1⟩
def BIL_ASPEC_DAYPROF : Fld := ⟨R.BIL_ASPEC, 24, 5⟩
def BIL_ASPEC_YEAR : Fld := ⟨R.BIL_ASPEC, 16, 8⟩
def BIL_ASPEC_MONTH : Fld := ⟨R.BIL_ASPEC, 8, 4⟩
def BIL_ASPEC_DAY : Fld := ⟨R.BIL_ASPEC, 0, 5⟩
def BIL_TDELL_E : Fld := ⟨R.BIL_TDELL, 0, 32⟩
def BIL_TDELH_E : Fld := ⟨R.BIL_TDELH, 0, 32⟩
def BIL_TRECL_E : Fld := ⟨R.BIL_TRECL, 0, 32⟩
def BIL_TRECH_E : Fld := ⟨R.BIL_TRECH, 0, 32⟩
def BIL_DMAX0_D : Fld := ⟨R.BIL_DMAX0, 0, 32⟩
def BIL_DMAX1_LABEL : Fld := ⟨R.BIL_DMAX1, 0, 32⟩
def BIL_DPREV0_D : Fld := ⟨R.BIL_DPREV0, 0, 32⟩
def BIL_DPREV1_LABEL : Fld := ⟨R.BIL_DPREV1, 0, 32⟩
def BIL_SSTARTL_E : Fld := ⟨R.BIL_SSTARTL, 0, 32⟩
def BIL_SSTARTH_E : Fld := ⟨R.BIL_SSTARTH, 0, 32⟩
def BIL_SENERGYL_E : Fld := ⟨R.BIL_SENERGYL, 0, 32⟩
def BIL_SENERGYH_E : Fld := ⟨R.BIL_SENERGYH, 0, 32⟩
def BIL_DLAST_D : Fld := ⟨R.BIL_DLAST, 0, 32⟩
def BIL_EBASE0L_E : Fld := ⟨R.BIL_EBASE0L, 0, 32⟩
def BIL_EBASE0H_E : Fld := ⟨R.BIL_EBASE0H, 0, 32⟩
def BIL_EBASE1L_E : Fld := ⟨R.BIL_EBASE1L, 0, 32⟩
def BIL_EBASE1H_E : Fld := ⟨R.BIL_EBASE1H, 0, 32⟩
def SIG_CTL_EVEN : Fld := ⟨R.SIG_CTL, 0, 8⟩
def SIG_STAT_KRDY1 : Fld := ⟨R.SIG_STAT, 25, 1⟩
def SIG_STAT_KRDY0 : Fld := ⟨R.SIG_STAT, 24, 1⟩
def SIG_STAT_ATTTOK : Fld := ⟨R.SIG_STAT, 16, 4⟩
def SIG_STAT_QFULL : Fld := ⟨R.SIG_STAT, 8, 1⟩
def SIG_STAT_CAUSE : Fld := ⟨R.SIG_STAT, 0, 8⟩
def SIG_RECEN_PORT : Fld := ⟨R.SIG_RECEN, 0, 24⟩
def SIG_DEVSERL_DEVSER : Fld := ⟨R.SIG_DEVSERL, 0, 32⟩
def SIG_DEVSERH_DEVSER : Fld := ⟨R.SIG_DEVSERH, 0, 32⟩
def SIG_JOBQ_ADDR : Fld := ⟨R.SIG_JOBQ, 5, 27⟩
def SIG_JOBSTAT_BUSY : Fld := ⟨R.SIG_JOBSTAT, 8, 1⟩
def SIG_JOBSTAT_COUNT : Fld := ⟨R.SIG_JOBSTAT, 0, 5⟩
def SIG_RXBASE_BASE : Fld := ⟨R.SIG_RXBASE, 12, 20⟩
def SIG_RXNEXT_SLOT : Fld := ⟨R.SIG_RXNEXT, 0, 4⟩
def SIG_KSTAT_GEN : Fld := ⟨R.SIG_KSTAT, 24, 8⟩
def SIG_KSTAT_CLOSED : Fld := ⟨R.SIG_KSTAT, 8, 1⟩
def SIG_KSTAT_STATE : Fld := ⟨R.SIG_KSTAT, 0, 3⟩
def SIG_NEXTL_NEXT : Fld := ⟨R.SIG_NEXTL, 0, 32⟩
def SIG_NEXTH_NEXT : Fld := ⟨R.SIG_NEXTH, 0, 32⟩
def SIG_LIMITL_LIMIT : Fld := ⟨R.SIG_LIMITL, 0, 32⟩
def SIG_LIMITH_LIMIT : Fld := ⟨R.SIG_LIMITH, 0, 32⟩
def SIG_DISCARD_BLOCKS : Fld := ⟨R.SIG_DISCARD, 0, 16⟩
def SIG_LASTROOT_ISEQ : Fld := ⟨R.SIG_LASTROOT, 0, 32⟩
def SIG_PUB_PUB : Fld := ⟨R.SIG_PUB, 0, 32⟩
def SIG_TLSSLOT_TYPE : Fld := ⟨R.SIG_TLSSLOT, 0, 3⟩
def SIG_REF_REF : Fld := ⟨R.SIG_REF, 0, 32⟩
def SIG_CERT_DATA : Fld := ⟨R.SIG_CERT, 0, 32⟩
def SFY_CTL_EVEN : Fld := ⟨R.SFY_CTL, 0, 8⟩
def SFY_STAT_SAFE : Fld := ⟨R.SFY_STAT, 31, 1⟩
def SFY_STAT_SAFECAUSE : Fld := ⟨R.SFY_STAT, 28, 3⟩
def SFY_STAT_STAYSHORT : Fld := ⟨R.SFY_STAT, 27, 1⟩
def SFY_STAT_FOREIGN : Fld := ⟨R.SFY_STAT, 16, 8⟩
def SFY_STAT_CAUSE : Fld := ⟨R.SFY_STAT, 0, 8⟩
def SFY_DIAG_ECC : Fld := ⟨R.SFY_DIAG, 16, 16⟩
def SFY_DIAG_CYCMAX : Fld := ⟨R.SFY_DIAG, 0, 16⟩
def SFY_GUEST_TGUEST : Fld := ⟨R.SFY_GUEST, 16, 16⟩
def SFY_GUEST_NOVETO : Fld := ⟨R.SFY_GUEST, 13, 1⟩
def SFY_GUEST_VETOTI : Fld := ⟨R.SFY_GUEST, 8, 5⟩
def SFY_GUEST_GREEF : Fld := ⟨R.SFY_GUEST, 0, 3⟩
def SFY_ZONE0_EN : Fld := ⟨R.SFY_ZONE0, 31, 1⟩
def SFY_ZONE0_CAT : Fld := ⟨R.SFY_ZONE0, 30, 1⟩
def SFY_ZONE0_PROGRST : Fld := ⟨R.SFY_ZONE0, 29, 1⟩
def SFY_ZONE0_SRC : Fld := ⟨R.SFY_ZONE0, 24, 5⟩
def SFY_ZONE0_PORTS : Fld := ⟨R.SFY_ZONE0, 0, 24⟩
def SFY_ZONE1_TSTOP1 : Fld := ⟨R.SFY_ZONE1, 16, 16⟩
def SFY_ZONE1_TDEB : Fld := ⟨R.SFY_ZONE1, 8, 8⟩
def SFY_ZONE1_STATE : Fld := ⟨R.SFY_ZONE1, 0, 2⟩
def SFY_PCO_DUAL : Fld := ⟨R.SFY_PCO, 31, 1⟩
def SFY_PCO_LOCKCO : Fld := ⟨R.SFY_PCO, 24, 6⟩
def SFY_PCO_UNLKCO : Fld := ⟨R.SFY_PCO, 16, 6⟩
def SFY_PCO_NEGCO : Fld := ⟨R.SFY_PCO, 8, 6⟩
def SFY_PCO_POSCO : Fld := ⟨R.SFY_PCO, 0, 6⟩
def SFY_PFB_LOCKFB : Fld := ⟨R.SFY_PFB, 16, 7⟩
def SFY_PFB_NEGFB : Fld := ⟨R.SFY_PFB, 8, 7⟩
def SFY_PFB_POSFB : Fld := ⟨R.SFY_PFB, 0, 7⟩
def SFY_PIMD_IMDEN : Fld := ⟨R.SFY_PIMD, 31, 1⟩
def SFY_PIMD_FAULTTI : Fld := ⟨R.SFY_PIMD, 24, 5⟩
def SFY_PIMD_WARNTI : Fld := ⟨R.SFY_PIMD, 16, 5⟩
def SFY_PIMD_TESTTO : Fld := ⟨R.SFY_PIMD, 8, 5⟩
def SFY_PIMD_TIMD : Fld := ⟨R.SFY_PIMD, 0, 8⟩
def SFY_PTMP_TPCUT : Fld := ⟨R.SFY_PTMP, 16, 16⟩
def SFY_PTMP_TPBRK : Fld := ⟨R.SFY_PTMP, 8, 8⟩
def SFY_PTIM_TFBC : Fld := ⟨R.SFY_PTIM, 24, 8⟩
def SFY_PTIM_TFBO : Fld := ⟨R.SFY_PTIM, 16, 8⟩
def SFY_PTIM_TLOCK : Fld := ⟨R.SFY_PTIM, 8, 8⟩
def SFY_PSTAT_ISO : Fld := ⟨R.SFY_PSTAT, 28, 4⟩
def SFY_PSTAT_ESD : Fld := ⟨R.SFY_PSTAT, 27, 1⟩
def SFY_PSTAT_SREEF : Fld := ⟨R.SFY_PSTAT, 24, 3⟩
def SFY_PSTAT_LOCKED : Fld := ⟨R.SFY_PSTAT, 23, 1⟩
def SFY_PSTAT_UNLOCKED : Fld := ⟨R.SFY_PSTAT, 22, 1⟩
def SFY_PSTAT_POSCMD : Fld := ⟨R.SFY_PSTAT, 21, 1⟩
def SFY_PSTAT_NEGCMD : Fld := ⟨R.SFY_PSTAT, 20, 1⟩
def SFY_PSTAT_POSCL : Fld := ⟨R.SFY_PSTAT, 19, 1⟩
def SFY_PSTAT_NEGCL : Fld := ⟨R.SFY_PSTAT, 18, 1⟩
def SFY_PSTAT_NOV : Fld := ⟨R.SFY_PSTAT, 17, 1⟩
def SFY_PSTAT_STANDBY : Fld := ⟨R.SFY_PSTAT, 16, 1⟩
def SFY_PSTAT_WELDP : Fld := ⟨R.SFY_PSTAT, 15, 1⟩
def SFY_PSTAT_WELDN : Fld := ⟨R.SFY_PSTAT, 14, 1⟩
def SFY_PSTAT_FAILCL : Fld := ⟨R.SFY_PSTAT, 13, 1⟩
def SFY_PSTAT_DISCREP : Fld := ⟨R.SFY_PSTAT, 12, 1⟩
def SFY_PSTAT_LOCKF : Fld := ⟨R.SFY_PSTAT, 11, 1⟩
def SFY_PSTAT_TCUT : Fld := ⟨R.SFY_PSTAT, 10, 1⟩
def SFY_PSTAT_PBRK : Fld := ⟨R.SFY_PSTAT, 9, 1⟩
def SFY_PSTAT_IMDF : Fld := ⟨R.SFY_PSTAT, 8, 1⟩
def SFY_SRC_POL : Fld := ⟨R.SFY_SRC, 31, 1⟩
def SFY_SRC_FILT : Fld := ⟨R.SFY_SRC, 8, 8⟩
def SFY_SRC_SET : Fld := ⟨R.SFY_SRC, 2, 1⟩
def SFY_SRC_SEEN : Fld := ⟨R.SFY_SRC, 1, 1⟩
def SFY_SRC_ACT : Fld := ⟨R.SFY_SRC, 0, 1⟩
def SFY_TGT0_MASK0 : Fld := ⟨R.SFY_TGT0, 0, 32⟩
def SFY_TGT1_MASK1 : Fld := ⟨R.SFY_TGT1, 0, 32⟩
def SFY_TGT2_MASK2 : Fld := ⟨R.SFY_TGT2, 0, 8⟩
def SFY_TGT3_EN : Fld := ⟨R.SFY_TGT3, 31, 1⟩
def SFY_TGT3_LATCH : Fld := ⟨R.SFY_TGT3, 30, 1⟩
def SFY_TGT3_SAFE : Fld := ⟨R.SFY_TGT3, 29, 1⟩
def SFY_TGT3_ALWAYS : Fld := ⟨R.SFY_TGT3, 28, 1⟩
def SFY_TGT3_TRIPPED : Fld := ⟨R.SFY_TGT3, 1, 1⟩
def SFY_TGT3_RELEASE : Fld := ⟨R.SFY_TGT3, 0, 1⟩
def SFY_ACFG_EN : Fld := ⟨R.SFY_ACFG, 31, 1⟩
def SFY_ACFG_SET : Fld := ⟨R.SFY_ACFG, 28, 2⟩
def SFY_ACFG_REFD : Fld := ⟨R.SFY_ACFG, 27, 1⟩
def SFY_ACFG_ENCO : Fld := ⟨R.SFY_ACFG, 16, 6⟩
def SFY_ACFG_PORT : Fld := ⟨R.SFY_ACFG, 0, 5⟩
def SFY_LIMA_DIR : Fld := ⟨R.SFY_LIMA, 30, 2⟩
def SFY_LIMA_SPDMAX : Fld := ⟨R.SFY_LIMA, 0, 24⟩
def SFY_LIMB_POSMIN : Fld := ⟨R.SFY_LIMB, 0, 32⟩
def SFY_LIMC_POSMAX : Fld := ⟨R.SFY_LIMC, 0, 32⟩
def SFY_POS_POS : Fld := ⟨R.SFY_POS, 0, 32⟩
def SFY_SPD_SPD : Fld := ⟨R.SFY_SPD, 0, 32⟩
def SFY_ASTAT_VIOL : Fld := ⟨R.SFY_ASTAT, 1, 1⟩
def SFY_ASTAT_ENABLED : Fld := ⟨R.SFY_ASTAT, 0, 1⟩
def SFY_COIL_PULL : Fld := ⟨R.SFY_COIL, 24, 8⟩
def SFY_COIL_HOLD : Fld := ⟨R.SFY_COIL, 16, 8⟩
def SFY_COIL_FDEM : Fld := ⟨R.SFY_COIL, 15, 1⟩
def SFY_COIL_FAULT : Fld := ⟨R.SFY_COIL, 8, 4⟩
def SFY_COIL_ON : Fld := ⟨R.SFY_COIL, 1, 1⟩
def SFY_COIL_PULLIN : Fld := ⟨R.SFY_COIL, 0, 1⟩
def SFY_FB_LEVEL : Fld := ⟨R.SFY_FB, 0, 32⟩
def SFY_FBCFG_FBFILT : Fld := ⟨R.SFY_FBCFG, 0, 5⟩
def HST_CTL_EVEN : Fld := ⟨R.HST_CTL, 0, 8⟩
def HST_STAT_PORT : Fld := ⟨R.HST_STAT, 31, 1⟩
def HST_STAT_LINK : Fld := ⟨R.HST_STAT, 30, 1⟩
def HST_STAT_BOOTROM : Fld := ⟨R.HST_STAT, 29, 1⟩
def HST_STAT_INFLIGHT : Fld := ⟨R.HST_STAT, 16, 6⟩
def HST_STAT_CAUSE : Fld := ⟨R.HST_STAT, 0, 8⟩
def HST_WIN_BASE : Fld := ⟨R.HST_WIN, 24, 5⟩
def HST_WIN_SIZE : Fld := ⟨R.HST_WIN, 0, 4⟩
def HST_PCIID_DEVID : Fld := ⟨R.HST_PCIID, 16, 16⟩
def HST_PCIID_VENID : Fld := ⟨R.HST_PCIID, 0, 16⟩
def HST_PENDSUM_PEND : Fld := ⟨R.HST_PENDSUM, 0, 12⟩
def HST_HRING_BASE : Fld := ⟨R.HST_HRING, 10, 22⟩
def HST_HACK_CNT : Fld := ⟨R.HST_HACK, 0, 5⟩
def HST_HCSTMO_MORE : Fld := ⟨R.HST_HCSTMO, 16, 1⟩
def HST_HCSTMO_STATUS : Fld := ⟨R.HST_HCSTMO, 0, 16⟩
def HST_HCRES0_R : Fld := ⟨R.HST_HCRES0, 0, 32⟩
def HST_HCRES1_R : Fld := ⟨R.HST_HCRES1, 0, 32⟩
def HST_HCOP_QID : Fld := ⟨R.HST_HCOP, 16, 5⟩
def HST_HCOP_TAG : Fld := ⟨R.HST_HCOP, 0, 16⟩
def HST_HCGO_GO : Fld := ⟨R.HST_HCGO, 31, 1⟩
def HST_HCSTAT_LATE : Fld := ⟨R.HST_HCSTAT, 1, 1⟩
def HST_HCSTAT_ERR : Fld := ⟨R.HST_HCSTAT, 0, 1⟩
def HST_QCFG_EN : Fld := ⟨R.HST_QCFG, 31, 1⟩
def HST_QCFG_DEVOPS : Fld := ⟨R.HST_QCFG, 30, 1⟩
def HST_QCFG_PRIO : Fld := ⟨R.HST_QCFG, 29, 1⟩
def HST_QCFG_HART : Fld := ⟨R.HST_QCFG, 24, 2⟩
def HST_QCFG_QMAX : Fld := ⟨R.HST_QCFG, 16, 4⟩
def HST_QCFG_TMO : Fld := ⟨R.HST_QCFG, 0, 16⟩
def HST_SQTAIL_TAIL : Fld := ⟨R.HST_SQTAIL, 0, 4⟩
def HST_SQHEAD_HEAD : Fld := ⟨R.HST_SQHEAD, 0, 4⟩
def HST_CQTAIL_TAIL : Fld := ⟨R.HST_CQTAIL, 0, 4⟩
def HST_CQHEAD_HEAD : Fld := ⟨R.HST_CQHEAD, 0, 4⟩
def HST_QSTAT_STATE : Fld := ⟨R.HST_QSTAT, 30, 2⟩
def HST_QSTAT_INFL : Fld := ⟨R.HST_QSTAT, 16, 5⟩
def HST_QSTAT_ERR : Fld := ⟨R.HST_QSTAT, 0, 1⟩
def HST_OPSTAT_QID : Fld := ⟨R.HST_OPSTAT, 27, 5⟩
def HST_OPSTAT_STATE : Fld := ⟨R.HST_OPSTAT, 24, 3⟩
def HST_OPSTAT_OP : Fld := ⟨R.HST_OPSTAT, 16, 8⟩
def HST_OPSTAT_TAG : Fld := ⟨R.HST_OPSTAT, 0, 16⟩
def HST_OPSTEPS_DONE : Fld := ⟨R.HST_OPSTEPS, 16, 16⟩
def HST_OPSTEPS_TOTAL : Fld := ⟨R.HST_OPSTEPS, 0, 16⟩
def HST_SQMEM_W : Fld := ⟨R.HST_SQMEM, 0, 32⟩
def HST_CQMEM_W : Fld := ⟨R.HST_CQMEM, 0, 32⟩
def EVT_PEND_PEND : Fld := ⟨R.EVT_PEND, 0, 32⟩
def EVT_LINEEN_EN : Fld := ⟨R.EVT_LINEEN, 0, 8⟩
def EVT_LINESTAT_HART : Fld := ⟨R.EVT_LINESTAT, 16, 4⟩
def EVT_LINESTAT_LINE : Fld := ⟨R.EVT_LINESTAT, 0, 8⟩
def EVT_LINEACK_ACK : Fld := ⟨R.EVT_LINEACK, 0, 8⟩
def EVT_ROUTE_HEN : Fld := ⟨R.EVT_ROUTE, 31, 1⟩
def EVT_ROUTE_LINE : Fld := ⟨R.EVT_ROUTE, 24, 3⟩
def EVT_ROUTE_WAKE : Fld := ⟨R.EVT_ROUTE, 0, 4⟩
def ETH_CTL_EN : Fld := ⟨R.ETH_CTL, 31, 1⟩
def ETH_CTL_PROMISC : Fld := ⟨R.ETH_CTL, 30, 1⟩
def ETH_CTL_PTPEN : Fld := ⟨R.ETH_CTL, 29, 1⟩
def ETH_CTL_RXPAUSE : Fld := ⟨R.ETH_CTL, 28, 1⟩
def ETH_CTL_EVEN : Fld := ⟨R.ETH_CTL, 0, 8⟩
def ETH_STAT_STATE : Fld := ⟨R.ETH_STAT, 30, 2⟩
def ETH_STAT_CAUSE : Fld := ⟨R.ETH_STAT, 0, 8⟩
def ETH_CFG_RXDLY : Fld := ⟨R.ETH_CFG, 5, 1⟩
def ETH_CFG_TXDLY : Fld := ⟨R.ETH_CFG, 4, 1⟩
def ETH_CFG_SPEED : Fld := ⟨R.ETH_CFG, 0, 2⟩
def ETH_ADDRL_ADDR : Fld := ⟨R.ETH_ADDRL, 0, 32⟩
def ETH_ADDRH_ADDR : Fld := ⟨R.ETH_ADDRH, 0, 16⟩
def ETH_MDIO_GO : Fld := ⟨R.ETH_MDIO, 31, 1⟩
def ETH_MDIO_C45 : Fld := ⟨R.ETH_MDIO, 30, 1⟩
def ETH_MDIO_OP : Fld := ⟨R.ETH_MDIO, 28, 2⟩
def ETH_MDIO_PHYAD : Fld := ⟨R.ETH_MDIO, 23, 5⟩
def ETH_MDIO_REG : Fld := ⟨R.ETH_MDIO, 18, 5⟩
def ETH_MDIO_DATA : Fld := ⟨R.ETH_MDIO, 0, 16⟩
def ETH_MDIOADDR_ADDR : Fld := ⟨R.ETH_MDIOADDR, 0, 16⟩
def ETH_MDIOSTAT_BUSY : Fld := ⟨R.ETH_MDIOSTAT, 31, 1⟩
def ETH_TXBASE_BASE : Fld := ⟨R.ETH_TXBASE, 9, 23⟩
def ETH_TXTAIL_TAIL : Fld := ⟨R.ETH_TXTAIL, 0, 5⟩
def ETH_TXHEAD_HEAD : Fld := ⟨R.ETH_TXHEAD, 0, 5⟩
def ETH_RXBASE_BASE : Fld := ⟨R.ETH_RXBASE, 11, 21⟩
def ETH_RXACK_CNT : Fld := ⟨R.ETH_RXACK, 0, 7⟩
def ETH_RXSTAT_NEXT : Fld := ⟨R.ETH_RXSTAT, 8, 6⟩
def ETH_RXSTAT_COUNT : Fld := ⟨R.ETH_RXSTAT, 0, 7⟩
def ETH_MCASTA_ADDR : Fld := ⟨R.ETH_MCASTA, 0, 32⟩
def ETH_MCASTB_EN : Fld := ⟨R.ETH_MCASTB, 31, 1⟩
def ETH_MCASTB_ADDR : Fld := ⟨R.ETH_MCASTB, 0, 16⟩
def ETH_TXFRM_N : Fld := ⟨R.ETH_TXFRM, 0, 32⟩
def ETH_RXFRM_N : Fld := ⟨R.ETH_RXFRM, 0, 32⟩
def ETH_RXFCS_N : Fld := ⟨R.ETH_RXFCS, 0, 32⟩
def ETH_RXLONG_N : Fld := ⟨R.ETH_RXLONG, 0, 32⟩
def ETH_RXLOST_N : Fld := ⟨R.ETH_RXLOST, 0, 32⟩
def STO_CTL_EVEN : Fld := ⟨R.STO_CTL, 0, 8⟩
def STO_STAT_STATE : Fld := ⟨R.STO_STAT, 29, 3⟩
def STO_STAT_MODE : Fld := ⟨R.STO_STAT, 26, 3⟩
def STO_STAT_SLOW : Fld := ⟨R.STO_STAT, 25, 1⟩
def STO_STAT_LAYOUT : Fld := ⟨R.STO_STAT, 24, 1⟩
def STO_STAT_CAUSE : Fld := ⟨R.STO_STAT, 0, 8⟩
def STO_CAP_BLOCKS : Fld := ⟨R.STO_CAP, 0, 32⟩
def STO_ARCHEND_BLOCK : Fld := ⟨R.STO_ARCHEND, 0, 32⟩
def STO_PAREA_BLOCK : Fld := ⟨R.STO_PAREA, 0, 32⟩
def STO_PASIZE_BLOCKS : Fld := ⟨R.STO_PASIZE, 0, 32⟩
def STO_HEALTH_PREEOL : Fld := ⟨R.STO_HEALTH, 16, 8⟩
def STO_HEALTH_ESTB : Fld := ⟨R.STO_HEALTH, 8, 8⟩
def STO_HEALTH_ESTA : Fld := ⟨R.STO_HEALTH, 0, 8⟩
def STO_ARCHUSE_BLOCKS : Fld := ⟨R.STO_ARCHUSE, 0, 32⟩
def STO_CNT_RETRY : Fld := ⟨R.STO_CNT, 16, 16⟩
def STO_CNT_REINIT : Fld := ⟨R.STO_CNT, 0, 16⟩
def STO_REQADDR_ADDR : Fld := ⟨R.STO_REQADDR, 5, 27⟩
def STO_REQBLK_BLOCK : Fld := ⟨R.STO_REQBLK, 0, 32⟩
def STO_REQCMD_GO : Fld := ⟨R.STO_REQCMD, 31, 1⟩
def STO_REQCMD_WR : Fld := ⟨R.STO_REQCMD, 30, 1⟩
def STO_REQCMD_COUNT : Fld := ⟨R.STO_REQCMD, 0, 9⟩
def STO_REQSTAT_BUSY : Fld := ⟨R.STO_REQSTAT, 31, 1⟩
def STO_REQSTAT_DONE : Fld := ⟨R.STO_REQSTAT, 30, 1⟩
def STO_REQSTAT_ERR : Fld := ⟨R.STO_REQSTAT, 16, 3⟩
def STO_REQSTAT_MOVED : Fld := ⟨R.STO_REQSTAT, 0, 16⟩
def RNG_CTL_EN : Fld := ⟨R.RNG_CTL, 31, 1⟩
def RNG_CTL_TAKEEN : Fld := ⟨R.RNG_CTL, 30, 1⟩
def RNG_CTL_RETAUTO : Fld := ⟨R.RNG_CTL, 29, 1⟩
def RNG_CTL_RETURN : Fld := ⟨R.RNG_CTL, 28, 1⟩
def RNG_CTL_SPLICE : Fld := ⟨R.RNG_CTL, 27, 1⟩
def RNG_CTL_LEAVE : Fld := ⟨R.RNG_CTL, 26, 1⟩
def RNG_CTL_EVEN : Fld := ⟨R.RNG_CTL, 0, 16⟩
def RNG_STAT_STATE : Fld := ⟨R.RNG_STAT, 29, 3⟩
def RNG_STAT_GUEST : Fld := ⟨R.RNG_STAT, 28, 1⟩
def RNG_STAT_NOBUDDY : Fld := ⟨R.RNG_STAT, 27, 1⟩
def RNG_STAT_LINE : Fld := ⟨R.RNG_STAT, 26, 1⟩
def RNG_STAT_BUDDY : Fld := ⟨R.RNG_STAT, 16, 8⟩
def RNG_STAT_PROT : Fld := ⟨R.RNG_STAT, 8, 8⟩
def RNG_STAT_GUESTID : Fld := ⟨R.RNG_STAT, 0, 8⟩
def RNG_CAUSE_CAUSE : Fld := ⟨R.RNG_CAUSE, 0, 16⟩
def RNG_CFG_AGEMAX : Fld := ⟨R.RNG_CFG, 16, 8⟩
def RNG_CFG_SPLTO : Fld := ⟨R.RNG_CFG, 8, 8⟩
def RNG_CFG_MODID : Fld := ⟨R.RNG_CFG, 0, 8⟩
def RNG_EPOCH_EPOCH : Fld := ⟨R.RNG_EPOCH, 0, 32⟩
def RNG_VIEWST_NMEM : Fld := ⟨R.RNG_VIEWST, 24, 8⟩
def RNG_VIEWST_SPLID : Fld := ⟨R.RNG_VIEWST, 16, 8⟩
def RNG_VIEWST_GEN : Fld := ⟨R.RNG_VIEWST, 8, 3⟩
def RNG_VIEWST_OFFER : Fld := ⟨R.RNG_VIEWST, 0, 3⟩
def RNG_MEM_MOD : Fld := ⟨R.RNG_MEM, 0, 32⟩
def RNG_LINK_STATE : Fld := ⟨R.RNG_LINK, 29, 3⟩
def RNG_LINK_VER : Fld := ⟨R.RNG_LINK, 24, 3⟩
def RNG_LINK_PEER : Fld := ⟨R.RNG_LINK, 16, 8⟩
def RNG_LINK_HBMISS : Fld := ⟨R.RNG_LINK, 0, 16⟩
def RNG_LINKERR_TAGERR : Fld := ⟨R.RNG_LINKERR, 16, 16⟩
def RNG_LINKERR_STARTS : Fld := ⟨R.RNG_LINKERR, 0, 16⟩
def RNG_SHSTAT_AGE : Fld := ⟨R.RNG_SHSTAT, 16, 16⟩
def RNG_SHSTAT_LAG : Fld := ⟨R.RNG_SHSTAT, 0, 16⟩
def RNG_TDECLL_D : Fld := ⟨R.RNG_TDECLL, 0, 32⟩
def RNG_TDECLH_D : Fld := ⟨R.RNG_TDECLH, 0, 32⟩
def RNG_SPL_REASON : Fld := ⟨R.RNG_SPL, 28, 4⟩
def RNG_SPL_STEP : Fld := ⟨R.RNG_SPL, 24, 4⟩
def RNG_XMIN_XMINL : Fld := ⟨R.RNG_XMIN, 16, 16⟩
def RNG_XMIN_XMIN : Fld := ⟨R.RNG_XMIN, 0, 16⟩
def RNG_SECRET_KEY : Fld := ⟨R.RNG_SECRET, 0, 32⟩
def RNG_ORDER_MOD : Fld := ⟨R.RNG_ORDER, 0, 32⟩
def LSW_CTL_EVEN : Fld := ⟨R.LSW_CTL, 0, 8⟩
def LSW_STAT_CAUSE : Fld := ⟨R.LSW_STAT, 0, 8⟩
def LSW_SUP_VAUX : Fld := ⟨R.LSW_SUP, 16, 16⟩
def LSW_SUP_GND : Fld := ⟨R.LSW_SUP, 4, 1⟩
def LSW_SUP_REV : Fld := ⟨R.LSW_SUP, 3, 1⟩
def LSW_SUP_OV : Fld := ⟨R.LSW_SUP, 2, 1⟩
def LSW_SUP_UV : Fld := ⟨R.LSW_SUP, 1, 1⟩
def LSW_SUP_DROOP : Fld := ⟨R.LSW_SUP, 0, 1⟩
def LSW_AGG_SUM : Fld := ⟨R.LSW_AGG, 16, 16⟩
def LSW_AGG_IAGG : Fld := ⟨R.LSW_AGG, 0, 7⟩
def LSW_SNS_EN : Fld := ⟨R.LSW_SNS, 31, 1⟩
def LSW_SNS_CH : Fld := ⟨R.LSW_SNS, 0, 4⟩
def LSW_CHCFG_REL : Fld := ⟨R.LSW_CHCFG, 31, 1⟩
def LSW_CHCFG_MODE : Fld := ⟨R.LSW_CHCFG, 28, 2⟩
def LSW_CHCFG_TINRUSH : Fld := ⟨R.LSW_CHCFG, 16, 10⟩
def LSW_CHCFG_TPULSE : Fld := ⟨R.LSW_CHCFG, 0, 16⟩
def LSW_CHLIM_ITRIP : Fld := ⟨R.LSW_CHLIM, 16, 16⟩
def LSW_CHLIM_IOL : Fld := ⟨R.LSW_CHLIM, 0, 16⟩
def LSW_CHPWM_FREQ : Fld := ⟨R.LSW_CHPWM, 16, 10⟩
def LSW_CHPWM_DUTY : Fld := ⟨R.LSW_CHPWM, 0, 8⟩
def LSW_CHCMD_OP : Fld := ⟨R.LSW_CHCMD, 0, 2⟩
def LSW_CHSTAT_STATE : Fld := ⟨R.LSW_CHSTAT, 29, 3⟩
def LSW_CHSTAT_PROG : Fld := ⟨R.LSW_CHSTAT, 28, 1⟩
def LSW_CHSTAT_FORCE : Fld := ⟨R.LSW_CHSTAT, 27, 1⟩
def LSW_CHSTAT_BLEED : Fld := ⟨R.LSW_CHSTAT, 26, 1⟩
def LSW_CHSTAT_FLT : Fld := ⟨R.LSW_CHSTAT, 20, 4⟩
def LSW_CHSTAT_OL : Fld := ⟨R.LSW_CHSTAT, 8, 1⟩
def LSW_CHI_TJ : Fld := ⟨R.LSW_CHI, 16, 16⟩
def LSW_CHI_I : Fld := ⟨R.LSW_CHI, 0, 16⟩
def EST_CTL_EVEN : Fld := ⟨R.EST_CTL, 0, 8⟩
def EST_STAT_CAUSE : Fld := ⟨R.EST_STAT, 0, 8⟩
def EST_HPCFG_AUTOFURL : Fld := ⟨R.EST_HPCFG, 31, 1⟩
def EST_HPCFG_HPICHG : Fld := ⟨R.EST_HPCFG, 16, 7⟩
def EST_HPCFG_HPMIN : Fld := ⟨R.EST_HPCFG, 8, 8⟩
def EST_HPCFG_FURLSOC : Fld := ⟨R.EST_HPCFG, 0, 8⟩
def EST_CMD_OP : Fld := ⟨R.EST_CMD, 4, 4⟩
def EST_CMD_PACK : Fld := ⟨R.EST_CMD, 0, 4⟩
def EST_CFG_EN : Fld := ⟨R.EST_CFG, 31, 1⟩
def EST_CFG_PRESENT : Fld := ⟨R.EST_CFG, 30, 1⟩
def EST_CFG_TSENS : Fld := ⟨R.EST_CFG, 16, 7⟩
def EST_CFG_VDIV : Fld := ⟨R.EST_CFG, 0, 16⟩
def EST_CAPNOM_CAPNOM : Fld := ⟨R.EST_CAPNOM, 0, 32⟩
def EST_SHUNT_SHUNT : Fld := ⟨R.EST_SHUNT, 0, 16⟩
def EST_VMIN_V : Fld := ⟨R.EST_VMIN, 0, 32⟩
def EST_VMAX_V : Fld := ⟨R.EST_VMAX, 0, 32⟩
def EST_IDISMAX_I : Fld := ⟨R.EST_IDISMAX, 0, 32⟩
def EST_ICHGMAX_I : Fld := ⟨R.EST_ICHGMAX, 0, 32⟩
def EST_PDISMAX_P : Fld := ⟨R.EST_PDISMAX, 0, 32⟩
def EST_PCHGMAX_P : Fld := ⟨R.EST_PCHGMAX, 0, 32⟩
def EST_WIN_SOCMAX : Fld := ⟨R.EST_WIN, 16, 16⟩
def EST_WIN_SOCMIN : Fld := ⟨R.EST_WIN, 0, 16⟩
def EST_MODEL_TAU : Fld := ⟨R.EST_MODEL, 16, 16⟩
def EST_MODEL_KV : Fld := ⟨R.EST_MODEL, 0, 8⟩
def EST_UCFG_UDRIFT : Fld := ⟨R.EST_UCFG, 16, 16⟩
def EST_UCFG_UOCV : Fld := ⟨R.EST_UCFG, 0, 16⟩
def EST_REST_TREST : Fld := ⟨R.EST_REST, 16, 16⟩
def EST_REST_IREST : Fld := ⟨R.EST_REST, 0, 16⟩
def EST_TAPER_TAPER : Fld := ⟨R.EST_TAPER, 0, 16⟩
def EST_PACKIDL_ID : Fld := ⟨R.EST_PACKIDL, 0, 32⟩
def EST_PACKIDH_ID : Fld := ⟨R.EST_PACKIDH, 0, 32⟩
def EST_SOC_SOCR : Fld := ⟨R.EST_SOC, 16, 16⟩
def EST_SOC_U : Fld := ⟨R.EST_SOC, 0, 16⟩
def EST_SOCE_STATE : Fld := ⟨R.EST_SOCE, 29, 3⟩
def EST_SOCE_SOCE : Fld := ⟨R.EST_SOCE, 0, 16⟩
def EST_QL_Q : Fld := ⟨R.EST_QL, 0, 32⟩
def EST_QH_Q : Fld := ⟨R.EST_QH, 0, 32⟩
def EST_V_V : Fld := ⟨R.EST_V, 0, 32⟩
def EST_I_I : Fld := ⟨R.EST_I, 0, 32⟩
def EST_CAP_CAP : Fld := ⟨R.EST_CAP, 0, 32⟩
def EST_CYCLES_CYCLES : Fld := ⟨R.EST_CYCLES, 0, 32⟩
def EST_DAYS_DAYS : Fld := ⟨R.EST_DAYS, 16, 16⟩
def EST_DAYS_S : Fld := ⟨R.EST_DAYS, 0, 16⟩
def EST_CHG_P : Fld := ⟨R.EST_CHG, 0, 32⟩
def EST_DIS_P : Fld := ⟨R.EST_DIS, 0, 32⟩
def EST_R0_R0 : Fld := ⟨R.EST_R0, 0, 32⟩
def EST_OCV_MV : Fld := ⟨R.EST_OCV, 0, 32⟩
def EST_IMP_HI : Fld := ⟨R.EST_IMP, 16, 16⟩
def EST_IMP_LO : Fld := ⟨R.EST_IMP, 0, 16⟩
def TIM_CTL_SYNC : Fld := ⟨R.TIM_CTL, 10, 1⟩
def TIM_CTL_PPSEN : Fld := ⟨R.TIM_CTL, 9, 1⟩
def TIM_CTL_LOCK : Fld := ⟨R.TIM_CTL, 8, 1⟩
def TIM_CTL_EVEN : Fld := ⟨R.TIM_CTL, 0, 8⟩
def TIM_STAT_CALPEND : Fld := ⟨R.TIM_STAT, 22, 1⟩
def TIM_STAT_STEPPEND : Fld := ⟨R.TIM_STAT, 21, 1⟩
def TIM_STAT_STEPERR : Fld := ⟨R.TIM_STAT, 20, 1⟩
def TIM_STAT_OSCF : Fld := ⟨R.TIM_STAT, 19, 1⟩
def TIM_STAT_RTCVALID : Fld := ⟨R.TIM_STAT, 18, 1⟩
def TIM_STAT_CALVALID : Fld := ⟨R.TIM_STAT, 17, 1⟩
def TIM_STAT_RUNLOCK : Fld := ⟨R.TIM_STAT, 16, 1⟩
def TIM_STAT_CAUSE : Fld := ⟨R.TIM_STAT, 0, 8⟩
def TIM_NOWL_NOW : Fld := ⟨R.TIM_NOWL, 0, 32⟩
def TIM_NOWH_NOW : Fld := ⟨R.TIM_NOWH, 0, 32⟩
def TIM_EVT_EVT : Fld := ⟨R.TIM_EVT, 0, 32⟩
def TIM_INCL_FRAC : Fld := ⟨R.TIM_INCL, 0, 32⟩
def TIM_INCH_NS : Fld := ⟨R.TIM_INCH, 0, 4⟩
def TIM_STEP_MS : Fld := ⟨R.TIM_STEP, 0, 32⟩
def TIM_CALSETL_UTC : Fld := ⟨R.TIM_CALSETL, 0, 32⟩
def TIM_CALSETH_UTC : Fld := ⟨R.TIM_CALSETH, 0, 32⟩
def TIM_CALCTL_GO : Fld := ⟨R.TIM_CALCTL, 31, 1⟩
def TIM_CALCTL_SRC : Fld := ⟨R.TIM_CALCTL, 0, 3⟩
def TIM_LEAP_PEND : Fld := ⟨R.TIM_LEAP, 30, 2⟩
def TIM_LEAP_TAIUTC : Fld := ⟨R.TIM_LEAP, 0, 8⟩
def TIM_LEAPAT_S : Fld := ⟨R.TIM_LEAPAT, 0, 32⟩
def TIM_RTCS_S : Fld := ⟨R.TIM_RTCS, 0, 32⟩
def TIM_RTCSUB_SUB : Fld := ⟨R.TIM_RTCSUB, 0, 15⟩
def TIM_ALARM_S : Fld := ⟨R.TIM_ALARM, 0, 32⟩
def TIM_RTCTRIM_TRIM : Fld := ⟨R.TIM_RTCTRIM, 0, 16⟩
def TIM_PPSIL_T : Fld := ⟨R.TIM_PPSIL, 0, 32⟩
def TIM_PPSIH_T : Fld := ⟨R.TIM_PPSIH, 0, 32⟩
def TIM_FSTAT_OVF : Fld := ⟨R.TIM_FSTAT, 8, 1⟩
def TIM_FSTAT_COUNT : Fld := ⟨R.TIM_FSTAT, 0, 5⟩
def TIM_TSL_T : Fld := ⟨R.TIM_TSL, 0, 32⟩
def TIM_TSH_T : Fld := ⟨R.TIM_TSH, 0, 32⟩
def TIM_INFO_DOMAIN : Fld := ⟨R.TIM_INFO, 24, 8⟩
def TIM_INFO_DIR : Fld := ⟨R.TIM_INFO, 20, 1⟩
def TIM_INFO_MSGTYPE : Fld := ⟨R.TIM_INFO, 16, 4⟩
def TIM_INFO_SEQID : Fld := ⟨R.TIM_INFO, 0, 16⟩
def CAN_CTL_EN : Fld := ⟨R.CAN_CTL, 31, 1⟩
def CAN_CTL_MODE : Fld := ⟨R.CAN_CTL, 29, 2⟩
def CAN_CTL_AUTOREC : Fld := ⟨R.CAN_CTL, 28, 1⟩
def CAN_CTL_TDCEN : Fld := ⟨R.CAN_CTL, 27, 1⟩
def CAN_CTL_WAKEEN : Fld := ⟨R.CAN_CTL, 26, 1⟩
def CAN_CTL_RECOVER : Fld := ⟨R.CAN_CTL, 25, 1⟩
def CAN_CTL_ABORT : Fld := ⟨R.CAN_CTL, 24, 1⟩
def CAN_CTL_ABORTALL : Fld := ⟨R.CAN_CTL, 23, 1⟩
def CAN_CTL_EVEN : Fld := ⟨R.CAN_CTL, 0, 8⟩
def CAN_STAT_STATE : Fld := ⟨R.CAN_STAT, 30, 2⟩
def CAN_STAT_FCS : Fld := ⟨R.CAN_STAT, 28, 2⟩
def CAN_STAT_LEC : Fld := ⟨R.CAN_STAT, 24, 4⟩
def CAN_STAT_SUBCAUSE : Fld := ⟨R.CAN_STAT, 8, 11⟩
def CAN_STAT_CAUSE : Fld := ⟨R.CAN_STAT, 0, 8⟩
def CAN_ERR_RXLOST : Fld := ⟨R.CAN_ERR, 16, 16⟩
def CAN_ERR_REC : Fld := ⟨R.CAN_ERR, 8, 8⟩
def CAN_ERR_TEC : Fld := ⟨R.CAN_ERR, 0, 8⟩
def CAN_NBT_SJW : Fld := ⟨R.CAN_NBT, 24, 8⟩
def CAN_NBT_TSEG2 : Fld := ⟨R.CAN_NBT, 16, 8⟩
def CAN_NBT_TSEG1 : Fld := ⟨R.CAN_NBT, 8, 8⟩
def CAN_NBT_BRP : Fld := ⟨R.CAN_NBT, 0, 8⟩
def CAN_DBT_DSJW : Fld := ⟨R.CAN_DBT, 24, 5⟩
def CAN_DBT_DTSEG2 : Fld := ⟨R.CAN_DBT, 16, 5⟩
def CAN_DBT_DTSEG1 : Fld := ⟨R.CAN_DBT, 8, 6⟩
def CAN_DBT_DBRP : Fld := ⟨R.CAN_DBT, 0, 5⟩
def CAN_TDC_TDCV : Fld := ⟨R.CAN_TDC, 16, 7⟩
def CAN_TDC_TDCO : Fld := ⟨R.CAN_TDC, 0, 7⟩
def CAN_ABD_EN : Fld := ⟨R.CAN_ABD, 31, 1⟩
def CAN_ABD_ABDPASS : Fld := ⟨R.CAN_ABD, 8, 8⟩
def CAN_ABD_ABDWIN : Fld := ⟨R.CAN_ABD, 0, 8⟩
def CAN_NSET_SET : Fld := ⟨R.CAN_NSET, 0, 32⟩
def CAN_TXHDR_FDF : Fld := ⟨R.CAN_TXHDR, 31, 1⟩
def CAN_TXHDR_RTR : Fld := ⟨R.CAN_TXHDR, 30, 1⟩
def CAN_TXHDR_IDE : Fld := ⟨R.CAN_TXHDR, 29, 1⟩
def CAN_TXHDR_ID : Fld := ⟨R.CAN_TXHDR, 0, 29⟩
def CAN_TXHDR2_TAG : Fld := ⟨R.CAN_TXHDR2, 12, 4⟩
def CAN_TXHDR2_LAUNCH : Fld := ⟨R.CAN_TXHDR2, 10, 1⟩
def CAN_TXHDR2_ONESHOT : Fld := ⟨R.CAN_TXHDR2, 9, 1⟩
def CAN_TXHDR2_BRS : Fld := ⟨R.CAN_TXHDR2, 8, 1⟩
def CAN_TXHDR2_DLC : Fld := ⟨R.CAN_TXHDR2, 0, 4⟩
def CAN_TXLAUNCH_T : Fld := ⟨R.CAN_TXLAUNCH, 0, 32⟩
def CAN_TXPUSH_GO : Fld := ⟨R.CAN_TXPUSH, 0, 1⟩
def CAN_TXSTAT_EVCOUNT : Fld := ⟨R.CAN_TXSTAT, 16, 5⟩
def CAN_TXSTAT_QCOUNT : Fld := ⟨R.CAN_TXSTAT, 0, 5⟩
def CAN_TXEVA_T : Fld := ⟨R.CAN_TXEVA, 0, 32⟩
def CAN_TXEVB_TAG : Fld := ⟨R.CAN_TXEVB, 12, 4⟩
def CAN_TXEVB_STATUS : Fld := ⟨R.CAN_TXEVB, 8, 2⟩
def CAN_TXEVB_LATE : Fld := ⟨R.CAN_TXEVB, 4, 1⟩
def CAN_RXACK_CNT : Fld := ⟨R.CAN_RXACK, 0, 6⟩
def CAN_RXSTAT_NEXT : Fld := ⟨R.CAN_RXSTAT, 8, 5⟩
def CAN_RXSTAT_COUNT : Fld := ⟨R.CAN_RXSTAT, 0, 6⟩
def CAN_TXDATA_DATA : Fld := ⟨R.CAN_TXDATA, 0, 32⟩
def CAN_FILTA_EN : Fld := ⟨R.CAN_FILTA, 31, 1⟩
def CAN_FILTA_RTR : Fld := ⟨R.CAN_FILTA, 30, 1⟩
def CAN_FILTA_IDE : Fld := ⟨R.CAN_FILTA, 29, 1⟩
def CAN_FILTA_ID : Fld := ⟨R.CAN_FILTA, 0, 29⟩
def CAN_FILTB_MASK : Fld := ⟨R.CAN_FILTB, 0, 29⟩
def CAN_RXRING_W : Fld := ⟨R.CAN_RXRING, 0, 32⟩
def DKL_CTL_EN : Fld := ⟨R.DKL_CTL, 31, 1⟩
def DKL_CTL_JOINEN : Fld := ⟨R.DKL_CTL, 30, 1⟩
def DKL_CTL_AUTOAPP : Fld := ⟨R.DKL_CTL, 29, 1⟩
def DKL_CTL_EVEN : Fld := ⟨R.DKL_CTL, 0, 8⟩
def DKL_STAT_STATE : Fld := ⟨R.DKL_STAT, 30, 2⟩
def DKL_STAT_MCLASS : Fld := ⟨R.DKL_STAT, 28, 2⟩
def DKL_STAT_HCNT : Fld := ⟨R.DKL_STAT, 16, 8⟩
def DKL_STAT_JOINFULL : Fld := ⟨R.DKL_STAT, 8, 8⟩
def DKL_STAT_CAUSE : Fld := ⟨R.DKL_STAT, 0, 8⟩
def DKL_CFG_NETID : Fld := ⟨R.DKL_CFG, 24, 6⟩
def DKL_CFG_COUPLE : Fld := ⟨R.DKL_CFG, 16, 1⟩
def DKL_CFG_SLOTEN : Fld := ⟨R.DKL_CFG, 8, 8⟩
def DKL_CFG_TXATT : Fld := ⟨R.DKL_CFG, 0, 5⟩
def DKL_MAINS_HALF : Fld := ⟨R.DKL_MAINS, 16, 16⟩
def DKL_MAINS_ZCERR : Fld := ⟨R.DKL_MAINS, 0, 16⟩
def DKL_TIMING_MAPPER : Fld := ⟨R.DKL_TIMING, 16, 16⟩
def DKL_TIMING_ROUTEPER : Fld := ⟨R.DKL_TIMING, 0, 16⟩
def DKL_TXADDR_ADDR : Fld := ⟨R.DKL_TXADDR, 2, 30⟩
def DKL_TXCTL_GO : Fld := ⟨R.DKL_TXCTL, 31, 1⟩
def DKL_TXCTL_DST : Fld := ⟨R.DKL_TXCTL, 24, 6⟩
def DKL_TXCTL_TAG : Fld := ⟨R.DKL_TXCTL, 16, 4⟩
def DKL_TXCTL_LEN : Fld := ⟨R.DKL_TXCTL, 0, 8⟩
def DKL_TXSTAT_EVCOUNT : Fld := ⟨R.DKL_TXSTAT, 8, 5⟩
def DKL_TXSTAT_QCOUNT : Fld := ⟨R.DKL_TXSTAT, 0, 4⟩
def DKL_TXEV_TAG : Fld := ⟨R.DKL_TXEV, 16, 4⟩
def DKL_TXEV_STATUS : Fld := ⟨R.DKL_TXEV, 8, 2⟩
def DKL_TXEV_DST : Fld := ⟨R.DKL_TXEV, 0, 6⟩
def DKL_RXACK_CNT : Fld := ⟨R.DKL_RXACK, 0, 5⟩
def DKL_RXSTAT_NEXT : Fld := ⟨R.DKL_RXSTAT, 8, 5⟩
def DKL_RXSTAT_COUNT : Fld := ⟨R.DKL_RXSTAT, 0, 5⟩
def DKL_NODEA_ID : Fld := ⟨R.DKL_NODEA, 0, 32⟩
def DKL_NODEB_ID : Fld := ⟨R.DKL_NODEB, 0, 32⟩
def DKL_NODEC_STATE : Fld := ⟨R.DKL_NODEC, 29, 3⟩
def DKL_NODEC_APPROVE : Fld := ⟨R.DKL_NODEC, 28, 1⟩
def DKL_NODEC_PHASE : Fld := ⟨R.DKL_NODEC, 24, 2⟩
def DKL_NODEC_NEXT : Fld := ⟨R.DKL_NODEC, 16, 6⟩
def DKL_NODEC_LQ : Fld := ⟨R.DKL_NODEC, 0, 9⟩
def DKL_NODED_DELTA : Fld := ⟨R.DKL_NODED, 0, 16⟩
def DKL_RXRING_W : Fld := ⟨R.DKL_RXRING, 0, 32⟩
def DKL_TXMAPA_MAP : Fld := ⟨R.DKL_TXMAPA, 0, 32⟩
def DKL_TXMAPB_MAP : Fld := ⟨R.DKL_TXMAPB, 0, 12⟩
def DKL_RXMAPA_MAP : Fld := ⟨R.DKL_RXMAPA, 0, 32⟩
def DKL_RXMAPB_MAP : Fld := ⟨R.DKL_RXMAPB, 0, 12⟩

end Fl

/-- The registers of block SYS. -/
def regsSYS : List Rg :=
  [R.SYS_ID, R.SYS_CLKSTAT, R.SYS_SUPSTAT, R.SYS_PWRCTL, R.SYS_PWRSTAT, R.SYS_WAKEEN, R.SYS_WAKESRC, R.SYS_SAVECFG, R.SYS_SAVESTAT, R.SYS_RSTCTL, R.SYS_RSTCAUSE, R.SYS_WDTCTL, R.SYS_WDTKICK, R.SYS_BOOTSTAT, R.SYS_BOOTCFG, R.SYS_HARTCTL, R.SYS_HARTSTAT, R.SYS_HARTENTRY, R.SYS_OWNER0, R.SYS_OWNER1, R.SYS_OWNER2, R.SYS_OWNERLOCK, R.SYS_MBOXTX, R.SYS_MBOXRX] ++
  [R.SYS_MBOXSTAT]
/-- The registers of block LPE. -/
def regsLPE : List Rg :=
  [R.LPE_CTL, R.LPE_STAT, R.LPE_LOAD, R.LPE_TLOAD, R.LPE_LAUNCH, R.LPE_CWSTAT, R.LPE_GROUP, R.LPE_TAKE, R.LPE_CELLINIT, R.LPE_INJCTL, R.LPE_INJNODE, R.LPE_INJAMP, R.LPE_INJP0, R.LPE_INJP1, R.LPE_INJLEN, R.LPE_CAPCTL, R.LPE_CAPCH, R.LPE_CAPSTAT, R.LPE_BATCH, R.LPE_FECFG, R.LPE_BSTAT, R.LPE_SATST, R.LPE_FEST]
/-- The registers of block CLN. -/
def regsCLN : List Rg :=
  [R.CLN_CTL, R.CLN_STAT, R.CLN_ERRCLR, R.CLN_READMIT, R.CLN_LANECFG, R.CLN_LANESTAT, R.CLN_LANETIM, R.CLN_LANEEV, R.CLN_ERRA, R.CLN_ERRB, R.CLN_ERRC, R.CLN_MGREQ, R.CLN_MGADDR, R.CLN_MGSTAT, R.CLN_MGBUF, R.CLN_CELLMAP, R.CLN_CELLST, R.CLN_CAP]
/-- The registers of block PRT. -/
def regsPRT : List Rg :=
  [R.PRT_CTL, R.PRT_STAT, R.PRT_SNAP, R.PRT_CELLRST, R.PRT_SNAPOUT, R.PRT_CELL, R.PRT_GCFG, R.PRT_GCMD, R.PRT_ISET, R.PRT_VSET, R.PRT_RATE, R.PRT_RLL, R.PRT_IRATED, R.PRT_PCFG, R.PRT_EMAX, R.PRT_CNOM, R.PRT_TIMES, R.PRT_DISCFG, R.PRT_GSTAT, R.PRT_GCAUSE, R.PRT_ISHEET, R.PRT_IAPP, R.PRT_VAPP, R.PRT_CIDENT] ++
  [R.PRT_TREP, R.PRT_GTEL, R.PRT_CTEL]
/-- The registers of block ALC. -/
def regsALC : List Rg :=
  [R.ALC_CTL, R.ALC_STAT, R.ALC_CFG, R.ALC_WIN, R.ALC_AGE, R.ALC_TSOLVE, R.ALC_SEQ, R.ALC_EPOCH, R.ALC_IDL, R.ALC_IDH, R.ALC_TREEDIG, R.ALC_CNT, R.ALC_PRICE, R.ALC_REEFFRAC0, R.ALC_REEFFRAC1, R.ALC_MISS, R.ALC_PREQ, R.ALC_PCFG, R.ALC_PRAMP, R.ALC_PRATED, R.ALC_PAPPLIED, R.ALC_PLAST, R.ALC_PGRANT, R.ALC_PSTAT] ++
  [R.ALC_SCFG, R.ALC_SCHGPRICE, R.ALC_SDISPRICE, R.ALC_SRAMP, R.ALC_SSETPOINT, R.ALC_SLAST, R.ALC_SOFFER, R.ALC_SSTAT, R.ALC_DYN0, R.ALC_DYN1, R.ALC_DYN2, R.ALC_NODE0, R.ALC_NODE1, R.ALC_NODEST0, R.ALC_NODEST1]
/-- The registers of block VEH. -/
def regsVEH : List Rg :=
  [R.VEH_STAT, R.VEH_TIM0, R.VEH_TIM1, R.VEH_TIM2, R.VEH_TIM3, R.VEH_FE, R.VEH_FEMACL, R.VEH_FEMACH, R.VEH_SCFG, R.VEH_SCMD, R.VEH_SSTAT, R.VEH_RXADDR, R.VEH_RXLEN, R.VEH_TXADDR, R.VEH_TXLEN, R.VEH_LIMI, R.VEH_LIMV, R.VEH_LIMP, R.VEH_CHKV, R.VEH_EVI, R.VEH_EVV, R.VEH_EVSOC, R.VEH_LOOPCNT]
/-- The registers of block THM. -/
def regsTHM : List Rg :=
  [R.THM_CTL, R.THM_STAT, R.THM_JSTAT, R.THM_SCFG, R.THM_SLIM, R.THM_SFB, R.THM_SSTAT, R.THM_PSEN, R.THM_PCH, R.THM_FLOWCFG, R.THM_WIN, R.THM_LIM, R.THM_REEF, R.THM_R20, R.THM_COEF, R.THM_CAP, R.THM_G12, R.THM_OBS, R.THM_IMAXH, R.THM_ISTAT, R.THM_FLOW, R.THM_TEST, R.THM_CABLE, R.THM_PSTAT]
/-- The registers of block MTR. -/
def regsMTR : List Rg :=
  [R.MTR_CTL, R.MTR_STAT, R.MTR_CALCNT, R.MTR_FOLD, R.MTR_BNDL, R.MTR_BNDH, R.MTR_BNDCTL, R.MTR_RES0, R.MTR_RESBL, R.MTR_RESBH, R.MTR_RESEDL, R.MTR_RESEDH, R.MTR_RESFRAC, R.MTR_MIRL, R.MTR_MIRH, R.MTR_MCFG, R.MTR_IGAIN, R.MTR_IOFF, R.MTR_VGAIN, R.MTR_VOFF, R.MTR_RCOMP, R.MTR_MSTAT, R.MTR_EDELL, R.MTR_EDELH] ++
  [R.MTR_ERECL, R.MTR_ERECH, R.MTR_XDEL, R.MTR_XREC, R.MTR_RAWDELL, R.MTR_RAWDELH, R.MTR_RAWRECL, R.MTR_RAWRECH, R.MTR_FTI, R.MTR_FTV, R.MTR_MP1, R.MTR_PCNT, R.MTR_CLOSEI, R.MTR_CLOSEV, R.MTR_CLOSETL, R.MTR_CLOSETH, R.MTR_GCFG, R.MTR_GKG, R.MTR_CTRATIO, R.MTR_VTRATIO, R.MTR_GCAL, R.MTR_GSTAT, R.MTR_EIMPL, R.MTR_EIMPH] ++
  [R.MTR_EEXPL, R.MTR_EEXPH, R.MTR_XIMP, R.MTR_XEXP, R.MTR_GP1, R.MTR_GFREQ, R.MTR_GRMSV, R.MTR_GRMSI, R.MTR_SECDELL, R.MTR_SECDELH, R.MTR_SECRECL, R.MTR_SECRECH]
/-- The registers of block BIL. -/
def regsBIL : List Rg :=
  [R.BIL_CTL, R.BIL_STAT, R.BIL_ISEQ, R.BIL_STEPTH, R.BIL_KOFFL, R.BIL_KOFFH, R.BIL_NEXTL, R.BIL_NEXTH, R.BIL_ACTAT, R.BIL_ARCH, R.BIL_TCOUNT, R.BIL_TFIRSTL, R.BIL_TFIRSTH, R.BIL_TLASTL, R.BIL_TLASTH, R.BIL_SPAN0, R.BIL_SPAN1, R.BIL_DCFG, R.BIL_ITEM, R.BIL_TEXT, R.BIL_DSTAT, R.BIL_PSEA0, R.BIL_PSEA1, R.BIL_PWEEK0] ++
  [R.BIL_PWEEK1, R.BIL_PDAY, R.BIL_PSPEC, R.BIL_ASEA0, R.BIL_ASEA1, R.BIL_AWEEK0, R.BIL_AWEEK1, R.BIL_ADAY, R.BIL_ASPEC, R.BIL_TDELL, R.BIL_TDELH, R.BIL_TRECL, R.BIL_TRECH, R.BIL_DMAX0, R.BIL_DMAX1, R.BIL_DPREV0, R.BIL_DPREV1, R.BIL_SSTARTL, R.BIL_SSTARTH, R.BIL_SENERGYL, R.BIL_SENERGYH, R.BIL_DLAST, R.BIL_EBASE0L, R.BIL_EBASE0H] ++
  [R.BIL_EBASE1L, R.BIL_EBASE1H]
/-- The registers of block SIG. -/
def regsSIG : List Rg :=
  [R.SIG_CTL, R.SIG_STAT, R.SIG_RECEN, R.SIG_DEVSERL, R.SIG_DEVSERH, R.SIG_JOBQ, R.SIG_JOBSTAT, R.SIG_RXBASE, R.SIG_RXNEXT, R.SIG_KSTAT, R.SIG_NEXTL, R.SIG_NEXTH, R.SIG_LIMITL, R.SIG_LIMITH, R.SIG_DISCARD, R.SIG_LASTROOT, R.SIG_PUB, R.SIG_TLSSLOT, R.SIG_REF, R.SIG_CERT]
/-- The registers of block SFY. -/
def regsSFY : List Rg :=
  [R.SFY_CTL, R.SFY_STAT, R.SFY_DIAG, R.SFY_GUEST, R.SFY_ZONE0, R.SFY_ZONE1, R.SFY_PCO, R.SFY_PFB, R.SFY_PIMD, R.SFY_PTMP, R.SFY_PTIM, R.SFY_PSTAT, R.SFY_SRC, R.SFY_TGT0, R.SFY_TGT1, R.SFY_TGT2, R.SFY_TGT3, R.SFY_ACFG, R.SFY_LIMA, R.SFY_LIMB, R.SFY_LIMC, R.SFY_POS, R.SFY_SPD, R.SFY_ASTAT] ++
  [R.SFY_COIL, R.SFY_FB, R.SFY_FBCFG]
/-- The registers of block HST. -/
def regsHST : List Rg :=
  [R.HST_CTL, R.HST_STAT, R.HST_WIN, R.HST_PCIID, R.HST_PENDSUM, R.HST_HRING, R.HST_HACK, R.HST_HCSTMO, R.HST_HCRES0, R.HST_HCRES1, R.HST_HCOP, R.HST_HCGO, R.HST_HCSTAT, R.HST_QCFG, R.HST_SQTAIL, R.HST_SQHEAD, R.HST_CQTAIL, R.HST_CQHEAD, R.HST_QSTAT, R.HST_OPSTAT, R.HST_OPSTEPS, R.HST_SQMEM, R.HST_CQMEM]
/-- The registers of block EVT. -/
def regsEVT : List Rg :=
  [R.EVT_PEND, R.EVT_LINEEN, R.EVT_LINESTAT, R.EVT_LINEACK, R.EVT_ROUTE]
/-- The registers of block ETH. -/
def regsETH : List Rg :=
  [R.ETH_CTL, R.ETH_STAT, R.ETH_CFG, R.ETH_ADDRL, R.ETH_ADDRH, R.ETH_MDIO, R.ETH_MDIOADDR, R.ETH_MDIOSTAT, R.ETH_TXBASE, R.ETH_TXTAIL, R.ETH_TXHEAD, R.ETH_RXBASE, R.ETH_RXACK, R.ETH_RXSTAT, R.ETH_MCASTA, R.ETH_MCASTB, R.ETH_TXFRM, R.ETH_RXFRM, R.ETH_RXFCS, R.ETH_RXLONG, R.ETH_RXLOST]
/-- The registers of block STO. -/
def regsSTO : List Rg :=
  [R.STO_CTL, R.STO_STAT, R.STO_CAP, R.STO_ARCHEND, R.STO_PAREA, R.STO_PASIZE, R.STO_HEALTH, R.STO_ARCHUSE, R.STO_CNT, R.STO_REQADDR, R.STO_REQBLK, R.STO_REQCMD, R.STO_REQSTAT]
/-- The registers of block RNG. -/
def regsRNG : List Rg :=
  [R.RNG_CTL, R.RNG_STAT, R.RNG_CAUSE, R.RNG_CFG, R.RNG_EPOCH, R.RNG_VIEWST, R.RNG_MEM, R.RNG_LINK, R.RNG_LINKERR, R.RNG_SHSTAT, R.RNG_TDECLL, R.RNG_TDECLH, R.RNG_SPL, R.RNG_XMIN, R.RNG_SECRET, R.RNG_ORDER]
/-- The registers of block LSW. -/
def regsLSW : List Rg :=
  [R.LSW_CTL, R.LSW_STAT, R.LSW_SUP, R.LSW_AGG, R.LSW_SNS, R.LSW_CHCFG, R.LSW_CHLIM, R.LSW_CHPWM, R.LSW_CHCMD, R.LSW_CHSTAT, R.LSW_CHI]
/-- The registers of block EST. -/
def regsEST : List Rg :=
  [R.EST_CTL, R.EST_STAT, R.EST_HPCFG, R.EST_CMD, R.EST_CFG, R.EST_CAPNOM, R.EST_SHUNT, R.EST_VMIN, R.EST_VMAX, R.EST_IDISMAX, R.EST_ICHGMAX, R.EST_PDISMAX, R.EST_PCHGMAX, R.EST_WIN, R.EST_MODEL, R.EST_UCFG, R.EST_REST, R.EST_TAPER, R.EST_PACKIDL, R.EST_PACKIDH, R.EST_SOC, R.EST_SOCE, R.EST_QL, R.EST_QH] ++
  [R.EST_V, R.EST_I, R.EST_CAP, R.EST_CYCLES, R.EST_DAYS, R.EST_CHG, R.EST_DIS, R.EST_R0, R.EST_OCV, R.EST_IMP]
/-- The registers of block TIM. -/
def regsTIM : List Rg :=
  [R.TIM_CTL, R.TIM_STAT, R.TIM_NOWL, R.TIM_NOWH, R.TIM_EVT, R.TIM_INCL, R.TIM_INCH, R.TIM_STEP, R.TIM_CALSETL, R.TIM_CALSETH, R.TIM_CALCTL, R.TIM_LEAP, R.TIM_LEAPAT, R.TIM_RTCS, R.TIM_RTCSUB, R.TIM_ALARM, R.TIM_RTCTRIM, R.TIM_PPSIL, R.TIM_PPSIH, R.TIM_FSTAT, R.TIM_TSL, R.TIM_TSH, R.TIM_INFO]
/-- The registers of block CAN. -/
def regsCAN : List Rg :=
  [R.CAN_CTL, R.CAN_STAT, R.CAN_ERR, R.CAN_NBT, R.CAN_DBT, R.CAN_TDC, R.CAN_ABD, R.CAN_NSET, R.CAN_TXHDR, R.CAN_TXHDR2, R.CAN_TXLAUNCH, R.CAN_TXPUSH, R.CAN_TXSTAT, R.CAN_TXEVA, R.CAN_TXEVB, R.CAN_RXACK, R.CAN_RXSTAT, R.CAN_TXDATA, R.CAN_FILTA, R.CAN_FILTB, R.CAN_RXRING]
/-- The registers of block DKL. -/
def regsDKL : List Rg :=
  [R.DKL_CTL, R.DKL_STAT, R.DKL_CFG, R.DKL_MAINS, R.DKL_TIMING, R.DKL_TXADDR, R.DKL_TXCTL, R.DKL_TXSTAT, R.DKL_TXEV, R.DKL_RXACK, R.DKL_RXSTAT, R.DKL_NODEA, R.DKL_NODEB, R.DKL_NODEC, R.DKL_NODED, R.DKL_RXRING, R.DKL_TXMAPA, R.DKL_TXMAPB, R.DKL_RXMAPA, R.DKL_RXMAPB]
/-- The low registers of the 64-bit quantities; the high register of each follows it (R13). -/
def pairLows : List Rg :=
  [R.ALC_IDL, R.MTR_BNDL, R.MTR_RESBL, R.MTR_RESEDL, R.MTR_MIRL, R.MTR_EDELL, R.MTR_ERECL, R.MTR_RAWDELL, R.MTR_RAWRECL, R.MTR_CLOSETL, R.MTR_EIMPL, R.MTR_EEXPL, R.MTR_SECDELL, R.MTR_SECRECL, R.BIL_KOFFL, R.BIL_NEXTL, R.BIL_TFIRSTL, R.BIL_TLASTL, R.BIL_TDELL, R.BIL_TRECL] ++
  [R.BIL_SSTARTL, R.BIL_SENERGYL, R.BIL_EBASE0L, R.BIL_EBASE1L, R.SIG_DEVSERL, R.SIG_NEXTL, R.SIG_LIMITL, R.RNG_TDECLL, R.EST_PACKIDL, R.EST_QL, R.TIM_NOWL, R.TIM_INCL, R.TIM_CALSETL, R.TIM_PPSIL, R.TIM_TSL]

end Sys2Proof.Machine
end

