-- ==== Sys2Proof/Machine/State.lean ====
section
/-! DEFINITION. The state of the block, as plain data: the register file of the manual's register
tables (Machine/RegMap.lean), the byte-addressed memories, one structure of remembered state for each
block, and the queue of waiting commands. -/

namespace Sys2Proof.Machine

/-- The read latch of one initiator: the address of the 64-bit quantity and its high word (R13). -/
structure Latch where
  initiator : Nat
  addr : Nat
  word : Word
  deriving DecidableEq, Repr, Inhabited

/-- Where the device stands as a whole (R38, R44, R53). -/
inductive Phase where
  /-- no supply above V_START yet, or Furl: nothing runs -/
  | off
  /-- a reset is held: RST_N low, or the reference not yet qualified -/
  | held
  /-- the boot tracks run -/
  | booting
  /-- boot hold (R51) -/
  | bootHold
  /-- a power state of R38, with the boot ended -/
  | running
  deriving DecidableEq, Repr, Inhabited

/-- Which boot the tracks carry out (R43, R53, R54). -/
inductive BootKind where
  | cold | warm | resume
  deriving DecidableEq, Repr, Inhabited

/-- The state of an image slot in the MRAM boot record (R50). -/
inductive SlotState where
  | empty | trial | confirmed
  deriving DecidableEq, Repr, Inhabited

/-- One image slot of the boot record (R50). -/
structure ImageSlot where
  /-- R50: state -/
  state : SlotState := .empty
  /-- R50: boots so far in trial state -/
  trials : Nat := 0
  /-- R50: security version of the image -/
  secVer : Nat := 0
  deriving DecidableEq, Repr, Inhabited

/-- Clocks, supplies, power ladder, reset and boot (R25 to R57). -/
structure SysState where
  /-- R38, R44: phase of the device -/
  phase : Phase := .booting
  /-- R53: kind of the boot in progress -/
  bootKind : BootKind := .cold
  /-- R53: steps of the main track that have ended -/
  mainStep : Nat := 0
  /-- R53: steps of the shroud track that have ended -/
  shroudStep : Nat := 0
  /-- R53: steps of the analog track that have ended -/
  analogStep : Nat := 0
  /-- R53: the main track waits for THM_JSTAT.NVOK at its MRAM step -/
  nvPause : Bool := false
  /-- R49: BOOTSEL as sampled at the last cold reset, 2 bits -/
  bootsel : Nat := 0
  /-- R578: HSEL as sampled at the last cold reset: 0 PCI Express, 1 quad SPI -/
  hsel : Nat := 0
  /-- R44: RST_N is held low -/
  rstLow : Bool := false
  /-- R28: the reference is lost and the boot waits for it -/
  refWait : Bool := false
  /-- R29: result of the last clock-check window, none before the first after a cold reset -/
  clockWindow : Option Bool := none
  /-- R34: step of the save sequence in progress, 0 when none runs -/
  saveStep : Nat := 0
  /-- R37: the device holds in the save-end state -/
  saveEnd : Bool := false
  /-- R34: system clock at which the warning was declared -/
  saveStart : Nat := 0
  /-- R638: reset causes held until the save ends, bits as SYS_RSTCAUSE -/
  heldCauses : Nat := 0
  /-- R38: the power state being entered, while a transition runs -/
  target : Option Nat := none
  /-- R41: the transition has passed its commit point -/
  committed : Bool := false
  /-- R41: wake sources recorded after the commit point, 8 bits -/
  wakePend : Nat := 0
  /-- R43: Stow is held on HP with VIN gone -/
  onHp : Bool := false
  /-- R43: the resume handler has started -/
  resumeStarted : Bool := false
  /-- R46: half the watchdog timeout has passed since the last restart -/
  wdtHalf : Bool := false
  /-- R45: a software cold reset waits for the shroud's contactor rule -/
  coldWait : Bool := false
  /-- R37: VIN has crossed V_WARN upward since the last warning -/
  vinOk : Bool := true
  /-- R44: VIN has fallen below V_BOR -/
  vinGone : Bool := false
  /-- R50: slots A and B of the MRAM boot record -/
  slotA : ImageSlot := {}
  slotB : ImageSlot := {}
  /-- R50: which slot is tried first: 0 A, 1 B (MRAM boot record) -/
  slotOrder : Nat := 0
  /-- R50: minimum security version, kept in MRAM -/
  minSecVer : Nat := 0
  /-- R52: raise the minimum to this version at the next boot -/
  raiseSecVer : Option Nat := none
  /-- R54: a warm boot that goes on as a cold boot from the MRAM step -/
  refetch : Bool := false
  /-- R53: slots already refused in the boot in progress, and the one whose image was fetched -/
  tried : List Nat := []
  fetchedSlot : Option Nat := none
  /-- R38, R40: the device is in Furl -/
  furl : Bool := false
  /-- R53: the image bytes fetched in the boot in progress -/
  fetched : List Byte := []
  deriving DecidableEq, Repr, Inhabited

/-- What a hart is doing (SYS_HARTSTAT.STATE, R90). -/
inductive RunState where
  | halted | running | halting | startPending
  deriving DecidableEq, Repr, Inhabited

/-- What a waiting hart waits for (R69, R71). -/
inductive WaitState where
  /-- not waiting -/
  | none
  /-- WAITEV -/
  | event
  /-- WAITT with its instant -/
  | time (until_ : Word)
  deriving DecidableEq, Repr, Inhabited

/-- One policy hart: general registers, control words, local store, reservation and inbox
(R58, R61, R72, R73, R83, R92). -/
structure HartCtx where
  /-- R61: general registers g0 to g31, 32 bits each; g0 is never written -/
  g : Vector Word 32 := Vector.replicate 32 0
  /-- R73: address of the next instruction, 32 bits -/
  pc : Word := 0
  /-- R72: CW_MODE, 32 bits -/
  mode : Word := 1
  /-- R72: CW_TRAPBASE, 32 bits -/
  trapBase : Word := 0
  /-- R72: CW_CLOCKS, 64 bits -/
  clocks : BitVec 64 := 0
  /-- R72: CW_DONE, 64 bits -/
  done : BitVec 64 := 0
  /-- R72: index of the low control word read last and the high word it latched -/
  cwLatch : Option (Nat × Word) := none
  /-- R72: CW_RGNBASE, 8 words -/
  rgnBase : Vector Word 8 := Vector.replicate 8 0
  /-- R72: CW_RGNATTR, 8 words -/
  rgnAttr : Vector Word 8 := Vector.replicate 8 0
  /-- R72: CW_ALARM, 32 bits -/
  alarm : Word := 0
  /-- R77: local store, 16 KiB, by offset; unlisted bytes read 0 -/
  localStore : List Host.Cell := []
  /-- R83: the reserved 32-byte granule and the system clock it was reserved in -/
  reservation : Option (Nat × Nat) := none
  /-- R90: run state -/
  run : RunState := .halted
  /-- R69: what the hart waits for -/
  wait : WaitState := .none
  /-- R92: inbox, at most 16 words, oldest first -/
  inbox : List Word := []
  /-- R92: MBOXSTAT.UNDER of this hart -/
  mboxUnder : Bool := false
  /-- R92: MBOXSTAT.OVF of this hart, 4 bits -/
  mboxOvf : Nat := 0
  deriving DecidableEq, Repr, Inhabited

/-- The state of one image ticket of the boot ROM services (R103, R104). -/
structure Ticket where
  /-- R103: image address in SRAM -/
  addr : Nat
  /-- R103: bytes including the signature -/
  len : Nat
  /-- R103: result of IMG_STATUS, 0 while checking -/
  status : Nat
  deriving DecidableEq, Repr, Inhabited

/-- One range of the seal (R102). -/
structure SealRange where
  target : Nat
  addr : Nat
  size : Nat
  deriving DecidableEq, Repr, Inhabited

/-- The resume record in MRAM (R43, R103). -/
structure ResumeRecord where
  sram : Nat
  start : Nat
  len : Nat
  hash : List Byte
  deriving DecidableEq, Repr, Inhabited

/-- Images after boot (R102 to R107). -/
structure ImageState where
  /-- R103: tickets 1 to 4 -/
  tickets : Vector (Option Ticket) 4 := Vector.replicate 4 none
  /-- R102: sealed ranges, at most 64, kept in MRAM -/
  sealRanges : List SealRange := []
  /-- R103: the sealed ranges of the running boot image -/
  bootRanges : List SealRange := []
  /-- R102: sealed hash, 32 bytes, kept in MRAM -/
  sealHash : List Byte := []
  /-- R103: resume record, kept in MRAM -/
  resume : Option ResumeRecord := none
  /-- R97: owner keys 1 to 4 of the running boot image, 68 bytes each -/
  ownerKeys : List (List Byte) := []
  /-- R104: security version of the running boot image -/
  secVer : Nat := 0
  /-- R96: generation the running boot image implements -/
  gen : Nat := 1
  /-- R96: lowest generation the running boot image implements -/
  minGen : Nat := 1
  /-- R97: the safety image of the running boot image, as placed -/
  safetyImage : List Byte := []
  /-- R54: the safety image the shroud runs -/
  shroudImage : List Byte := []
  /-- R88: ENTRY[0] to ENTRY[3] of the running boot image -/
  entries : List Nat := []
  /-- R50: slot of the running boot image, 0 A and 1 B; none for a host image -/
  slot : Option Nat := none
  /-- R56: source of the running boot image, as SYS_BOOTSTAT.SOURCE -/
  source : Nat := 0
  deriving DecidableEq, Repr, Inhabited

/-- One engine lane while it works on a cell (R125). -/
structure LaneCtx where
  /-- R125: v0 to v15, signed 24 bits each -/
  v : Vector Int 16 := Vector.replicate 16 0
  /-- R125: ac0 to ac3, signed 56 bits each -/
  ac : Vector Int 4 := Vector.replicate 4 0
  /-- R125: compare flag F -/
  flag : Bool := false
  /-- R131: init flag -/
  init : Bool := false
  /-- R114: IN0 to IN7 as latched at the tick -/
  ins : Vector Int 8 := Vector.replicate 8 0
  /-- R114: coefficient words in effect at the tick -/
  coef : Vector Word 16 := Vector.replicate 16 0
  /-- R154: value presented by VFE, none before the first -/
  fe : Option Int := none
  deriving DecidableEq, Repr, Inhabited

/-- A batch that is ready to run in a window (R114, R115). -/
structure ReadyBatch where
  batch : Nat
  group : Nat
  /-- R113: window, as the number of its tick -/
  window : Nat
  /-- R115: system clock at which the window ends -/
  due : Nat
  kernel : Nat
  mask : Nat
  /-- R131: lanes whose init flag is set -/
  init : Nat
  /-- R114: inputs and coefficients of each lane -/
  ins : List (Vector Int 8)
  coef : List (Vector Word 16)
  /-- R201: OUT1 and OUT2 that port power writes, by lane -/
  exceeded : List (Option (Int × Int))
  /-- R161: the launch instant has passed -/
  late : Bool := false
  deriving DecidableEq, Repr, Inhabited

/-- Outputs of a batch that wait for their launch (R114). -/
structure BatchResult where
  batch : Nat
  group : Nat
  window : Nat
  /-- slot and OUT0 to OUT2 -/
  outs : List (Nat × Int × Int × Int)
  deriving DecidableEq, Repr, Inhabited

/-- One coefficient word of the pending-write pool (R138). -/
structure PoolWrite where
  bank : Nat
  slot : Nat
  w : Nat
  v : Word
  /-- R213: the entry is port power's own -/
  own : Bool
  deriving DecidableEq, Repr, Inhabited

/-- One sample group beside its register (R112, R113). -/
structure LpeGroup where
  /-- R113: the tick grid runs -/
  grid : Bool := false
  /-- R113: EN was set and no allocation period has started since -/
  armed : Bool := false
  /-- R112: period in force, system clocks, doubled in takeover -/
  period : Nat := 2000
  /-- R113: ticks of the grid so far -/
  ticks : Nat := 0
  deriving DecidableEq, Repr, Inhabited

/-- One batch beside its registers (R132). -/
structure LpeBatch where
  /-- R132: kernel slot and mask in force -/
  kernel : Nat := 0
  mask : Nat := 0
  deriving DecidableEq, Repr, Inhabited

/-- The test-signal injector beside its registers (R156 to R158). -/
structure Injector where
  /-- R157: armed, waiting for the batch's next tick -/
  armed : Bool := false
  /-- R157: ARM cleared, stops at the next tick -/
  stopping : Bool := false
  /-- R158: samples injected so far -/
  n : Nat := 0
  /-- R158: phase, 32 bits -/
  phase : Nat := 0
  /-- R158: PRBS register -/
  lfsr : Nat := 0
  deriving DecidableEq, Repr, Inhabited

/-- The capture unit beside its registers (R159, R160). -/
structure Capture where
  /-- R160: armed and not full -/
  armed : Bool := false
  /-- R160: samples recorded since the start -/
  n : Nat := 0
  /-- R160: the first sample is under way (SYNC met) -/
  started : Bool := false
  /-- R160: the single-mode fill is complete -/
  full : Bool := false
  /-- R159: value of each channel in the sample in progress -/
  vals : Vector (Option Int) 4 := Vector.replicate 4 none
  /-- R159: the buffer, entries 0 to 16,383; unlisted 0 -/
  buf : List (Nat × Word) := []
  deriving DecidableEq, Repr, Inhabited

/-- The loop engine beside its registers (R108 to R162). -/
structure LpeState where
  /-- R134: input words, signed 24 bits, by 8 × slot + word; unlisted 0 -/
  ins : List (Nat × Int) := []
  /-- R134: output words, signed 24 bits, by 4 × slot + word; unlisted 0 -/
  outs : List (Nat × Int) := []
  /-- R135: state words, signed 56 bits, by 8 × slot + word; unlisted 0 -/
  sts : List (Nat × Int) := []
  /-- R136: coefficient words, by 16 × (1,024 × bank + slot) + word; unlisted 0 -/
  coef : List (Nat × Word) := []
  /-- R128: kernel memory, words by 512 × kernel slot + word; unlisted 0 -/
  kernels : List (Nat × Word) := []
  /-- R125: engine lanes 0 to 15 -/
  lanes : Vector LaneCtx 16 := Vector.replicate 16 {}
  /-- R110: batch the lanes work on, and the lanes whose cell is enabled -/
  cur : Nat := 0
  curMask : Nat := 0xFFFF
  /-- R112, R113: sample groups 0 to 7 -/
  group : Vector LpeGroup 8 := Vector.replicate 8 {}
  /-- R132: batches 0 to 63 -/
  batch : Vector LpeBatch 64 := Vector.replicate 64 {}
  /-- R131: slots whose init flag is set at their next sample -/
  initPend : List Nat := []
  /-- R115: ready batches -/
  ready : List ReadyBatch := []
  /-- R114: outputs that wait for their launch -/
  results : List BatchResult := []
  /-- R114: OUT0 to OUT2 handed to the cell lanes at the latest launch, by slot -/
  handed : List (Nat × Int × Int × Int) := []
  /-- R138: pending-write pool, at most 64 words, oldest first -/
  pool : List PoolWrite := []
  /-- R154: following-error counts, by slot; unlisted 0 -/
  feCount : List (Nat × Nat) := []
  /-- R155: slots whose action has been taken since their count was last 0 -/
  feActed : List Nat := []
  /-- R156: the injector -/
  inj : Injector := {}
  /-- R159: the capture unit -/
  cap : Capture := {}
  /-- R149, R153: signal of the ring block that waits for a tick of group 0: true start, false return -/
  signal : Option Bool := none
  deriving DecidableEq, Repr, Inhabited

/-- One lane beside its registers: HL0 to HL15, then GL0 to GL15 (R163 to R193). -/
structure LaneLink where
  /-- R179: step of the link start in progress, 1 to 8; 0 when none runs -/
  step : Nat := 0
  /-- R180: capability record of each position in the link start, and why it was refused (0 not) -/
  recs : List (Nat × List Byte × Nat) := []
  /-- R182: delay of each position, bit times -/
  delays : List (Nat × Nat) := []
  /-- R165: admitted cells, position and slot, positions rising -/
  admitted : List (Nat × Nat) := []
  /-- R170: exchange count -/
  exchange : Nat := 0
  /-- R170: SYNC of the latest exchange: SEQ, FLAGS, CRC-8 -/
  sync : List Byte := []
  /-- R175: exchanges still to carry TAKE -/
  take : Nat := 0
  /-- R188: the lane was taken over or taken back: MODE hold until window `from_` of its group -/
  hold : Bool := false
  from_ : Option Nat := none
  /-- R173: valid telemetry of the exchange in progress, by position -/
  telemetry : List (Nat × List Byte) := []
  /-- R185: slot being readmitted; its record and its ranging have arrived -/
  readmit : Option Nat := none
  readmitCap : Bool := false
  readmitRange : Bool := false
  /-- R189: the link start runs on the cells' inactive port, at the rate the shadow names -/
  inactive : Bool := false
  /-- R182: far-end ranging was echoed in this link start -/
  farEcho : Bool := false
  /-- R164: the latest frame a guard lane echoed -/
  echoed : List Byte := []
  /-- R164: the guard lane has seen a SYNC of its neighbour chain since it last had no traffic -/
  synced : Bool := false
  deriving DecidableEq, Repr, Inhabited

/-- Cell lanes beside their registers (R163 to R194). -/
structure ClnState where
  /-- R181: capability record of each admitted cell, 32 bytes, by cell slot -/
  caps : List (Nat × List Byte) := []
  /-- R173: IAVAIL of each cell in format B, fraction of IFS, by cell slot -/
  iAvail : List (Nat × Int) := []
  /-- R163: lanes 0 to 31 -/
  link : Vector LaneLink 32 := Vector.replicate 32 {}
  /-- R171: payload of the latest command frame of each cell, 48 bits, by cell slot -/
  command : List (Nat × Nat) := []
  /-- R191: lane and position of the outstanding management request -/
  request : Option (Nat × Nat) := none
  /-- R183, R188: shadowed rate, format and dmax of each guard lane, by guard lane number -/
  shadow : List (Nat × Nat × Nat × Nat) := []
  /-- R189: rate that the shadow names, by home lane -/
  backRate : List (Nat × Nat) := []
  deriving DecidableEq, Repr, Inhabited

/-- Largest and smallest values since the last snap (R232). -/
structure Cleat where
  iMax : Int
  iMin : Int
  vMax : Int
  vMin : Int
  pMax : Int
  pMin : Int
  tMax : Int
  deriving DecidableEq, Repr, Inhabited

/-- Sums of the samples of one averaging window (R231). -/
structure Sums where
  i : Int := 0
  v : Int := 0
  p : Int := 0
  t : Int := 0
  n : Nat := 0
  deriving DecidableEq, Repr, Inhabited

/-- Averages and cleats of one group or cell slot (R231, R232). -/
structure Telemetry where
  ms1 : Sums := {}
  ms100 : Sums := {}
  s1 : Sums := {}
  cleat : Option Cleat := none
  deriving DecidableEq, Repr, Inhabited

/-- One port-power group beside its record (R195 to R232). -/
structure PrtGroup where
  /-- R214: remainders of the current and the voltage ramp -/
  fracI : Nat := 0
  fracV : Nat := 0
  /-- R214: target and rate of each ramp at the last tick -/
  lastI : Int × Nat := (0, 0)
  lastV : Int × Nat := (0, 0)
  /-- R206: current reference at the last tick -/
  lastRef : Int := 0
  /-- R206: rotation count -/
  rot : Nat := 0
  /-- R204: the last tick had a shortfall -/
  short : Bool := false
  /-- R207: the group runs its voltage-mode kernel -/
  voltMode : Bool := false
  /-- R225: pending command, OP and MODE -/
  pendCmd : Option (Nat × Nat) := none
  /-- R217: state that follows CLOSING -/
  target : Nat := 0
  /-- R220: precharge step in progress, 0 when none -/
  preStep : Nat := 0
  /-- R220: instants t1 and t2, ns of device time -/
  t1 : Option Nat := none
  t2 : Option Nat := none
  /-- R220: instant of the PRECHARGE command, ns -/
  preStart : Nat := 0
  /-- R222: instant the discharge timing started, ns -/
  discStart : Nat := 0
  /-- R222: OPENING was forced at 5 s, or leads to FAULT -/
  forced : Bool := false
  /-- R217: the discharge uses the bleeder only, after an opening without request -/
  bleedOnly : Bool := false
  /-- R224: weld step in progress, 0 when none -/
  weldStep : Nat := 0
  /-- R208: kernel change refused at admission, to be treated as STOP -/
  modeErr : Bool := false
  /-- R230: quantities of the latest tick: I, V, P, T, and the sum of the members' currents -/
  i : Int := 0
  v : Int := 0
  p : Int := 0
  t : Int := 0
  sumI : Int := 0
  /-- R228: samples of the search so far, and how many each slot explains -/
  search : Option Nat := none
  explains : List (Nat × Nat) := []
  /-- R231, R232: averages and cleats -/
  tel : Telemetry := {}
  deriving DecidableEq, Repr, Inhabited

/-- Port power beside its registers (R195 to R234). -/
structure PrtState where
  /-- R195: groups 0 to 79 -/
  group : Vector PrtGroup 80 := Vector.replicate 80 {}
  /-- R203: share in force, mA, by cell slot; unlisted 0 -/
  share : List (Nat × Int) := []
  /-- R226: removals that take effect at the next tick: slot and reason -/
  removals : List (Nat × Nat) := []
  /-- R226: returns that take effect at the next tick -/
  returns : List Nat := []
  /-- R231, R232: averages and cleats by cell slot -/
  cellTel : List (Nat × Telemetry) := []
  /-- R213: marked coefficient words with their value, by 16 × slot + word -/
  marks : List (Nat × Word) := []
  /-- R211: E1 as port power last set it, by cell slot; unlisted 0 -/
  e1 : List (Nat × Int) := []
  /-- R213: limits last marked, by 16 × slot + word -/
  limits : List (Nat × Int) := []
  deriving DecidableEq, Repr, Inhabited

/-- The allocator beside its registers (R235 to R268). -/
structure AlcState where
  /-- R245: node table in force, words by 2 × node + word; unlisted as at reset (not valid, a root) -/
  table : List (Nat × Word) := []
  /-- R245: a commit waits for the next snapshot -/
  commit : Bool := false
  /-- R235: an accepted PERIOD and the 10 ms span it was written in -/
  periodPend : Option (Nat × Nat) := none
  /-- R237: the module's own halyard of this period, and the proxy halyard it sends, 1,664 bytes each -/
  own : List Byte := []
  proxy : List Byte := []
  /-- R260: halyards accepted in this window, by module -/
  received : List (Nat × List Byte) := []
  /-- R260: halyards that wait for their period, by module -/
  early : List (Nat × List Byte) := []
  /-- R260: last halyard used of each module -/
  lastUsed : List (Nat × List Byte) := []
  /-- R237: the exchange window is open -/
  windowOpen : Bool := false
  /-- R252: halyards of the solve in progress, in ascending module identifier -/
  solving : Option (List (List Byte)) := none
  /-- R256: S of the solve that waits for its period start, by port 0 to 47 and by 64 + string 0 to 15 -/
  result : Option (List (Nat × Int)) := none
  /-- R259: S of the solve before -/
  previous : List (Nat × Int) := []
  /-- R250: magnitude for ports whose request is negative, by port -/
  negative : List (Nat × Int) := []
  /-- R266: the solve of this period was discarded -/
  overran : Bool := false
  /-- R258: AGREE of the next decision is 0: first solve, or a discarded one -/
  noAgree : Bool := true
  /-- R258: epoch at the last two period starts -/
  epochNow : Nat := 0
  epochBefore : Nat := 0
  /-- R247: consecutive snapshots above the limit, by node -/
  exceeded : List (Nat × Nat) := []
  /-- R243: PRICE has aged -/
  priceAged : Bool := false
  /-- R465: halyard sent on, and hops that remain -/
  forwarded : Option (List Byte × Nat) := none
  /-- R467: shadowed node records of the protected module, three words each -/
  guestNodes : List (Nat × Nat × Nat) := []
  deriving DecidableEq, Repr, Inhabited

/-- What a loop response carries (R286). -/
structure LoopAnswer where
  i : Int
  v : Int
  maxI : Nat
  maxV : Nat
  maxP : Nat
  /-- SFY_PSTAT.ISO -/
  iso : Nat
  esd : Bool
  stop : Bool
  finished : Bool
  deriving DecidableEq, Repr, Inhabited

/-- A frame sent to a vehicle: a program's response, or one of the loop responder. -/
inductive VehFrame where
  | bytes (b : List Byte)
  | loop (a : LoopAnswer)
  deriving DecidableEq, Repr, Inhabited

/-- One session context beside its record (R284 to R296). -/
structure Session where
  /-- R290: the context is enabled in effect -/
  active : Bool := false
  /-- R284: SLAC matched or T1S up; SDP answered; TCP accepted -/
  link : Bool := false
  sdp : Bool := false
  tcp : Bool := false
  /-- R280: schema version chosen -/
  schema : Nat := 0
  /-- R281: cipher suite, group and signature chosen -/
  hello : Option (Nat × Nat × Nat) := none
  /-- R282: client and server traffic secrets -/
  secrets : Option (List Byte × List Byte) := none
  /-- R282: record counters, received and sent -/
  rxCount : Nat := 0
  txCount : Nat := 0
  /-- R285: a request waits for the program's response -/
  outstanding : Bool := false
  /-- R285: one request held until the receive area is released -/
  held : Option (List Byte) := none
  /-- R284: the cable check has been reported finished -/
  checked : Bool := false
  /-- R284: kind of the last PowerDelivery request -/
  delivery : Option PowerDelivery := none
  /-- R363: the session has entered CHARGE -/
  charged : Bool := false
  /-- R286: a program STOP is to be notified -/
  stopNote : Bool := false
  /-- R277: network membership key of the session -/
  netKey : Nat := 0
  /-- R292: last request and last response -/
  lastRequest : List Byte := []
  lastResponse : Option VehFrame := none
  /-- R292: a delta waits for its acknowledgement, with the frame it holds back -/
  heldFrame : Option VehFrame := none
  /-- R279: last frame sent to the vehicle -/
  wire : Option VehFrame := none
  /-- R293: number of the latest request seen on the wire, and whether it was answered -/
  seen : Option Nat := none
  answered : Bool := true
  deriving DecidableEq, Repr, Inhabited

/-- One front-end beside its register (R269, R278, R294). -/
structure FrontEnd where
  /-- R278: mean attenuation, dB, of each RunID heard -/
  runs : List (Nat × Nat) := []
  /-- R294: a standby front-end drives the pilot -/
  driving : Bool := false
  /-- R296: an own front-end has been released to the buddy -/
  released : Bool := false
  deriving DecidableEq, Repr, Inhabited

/-- Vehicle sessions beside their registers (R269 to R298). -/
structure VehState where
  /-- R270: contexts 0 to 47 -/
  ctx : Vector Session 48 := Vector.replicate 48 {}
  /-- R269: front-ends 0 to 23 -/
  fe : Vector FrontEnd 24 := Vector.replicate 24 {}
  deriving DecidableEq, Repr, Inhabited

/-- One temperature sensor beside its record (R301, R303). -/
structure Sensor where
  /-- R301: consecutive broken and consecutive valid conversions -/
  bad : Nat := 0
  good : Nat := 0
  /-- R301: kind of the last broken conversion: 1 open, 2 short -/
  kind : Nat := 0
  /-- R303: consecutive samples that would allow a longer period -/
  calm : Nat := 0
  deriving DecidableEq, Repr, Inhabited

/-- The observer of one port: T1, T2 in µ°C and the remainders, signed 64 bits each (R308). -/
structure Observer where
  t1 : Int
  t2 : Int
  f1 : Int := 0
  f2 : Int := 0
  deriving DecidableEq, Repr, Inhabited

/-- One thermal port beside its record (R304 to R312). -/
structure ThmPort where
  /-- R308: the observer, none before its first start -/
  obs : Option Observer := none
  /-- R304: µs of device time of the last edge and of the one before -/
  edge : Option Nat := none
  edgeBefore : Option Nat := none
  /-- R305, R318: the inlet lay in its window, the flow met FLOWMIN, a pin stood at TPINWARN -/
  inletOk : Bool := false
  flowOk : Bool := false
  pinHot : Bool := false
  deriving DecidableEq, Repr, Inhabited

/-- Cable thermal control beside its registers (R298 to R320). -/
structure ThmState where
  /-- R299: last conversion of each sensor, 0.01 °C; none where it was broken -/
  conv : Vector (Option Int) 80 := Vector.replicate 80 none
  /-- R299: sensors 0 to 79 -/
  sensor : Vector Sensor 80 := Vector.replicate 80 {}
  /-- R304: ports 0 to 47 -/
  port : Vector ThmPort 48 := Vector.replicate 48 {}
  /-- R316: newest record in MRAM: observers by port, and FAULT of each sensor -/
  saved : Option (List (Nat × Observer) × List (Nat × Nat)) := none
  deriving DecidableEq, Repr, Inhabited

/-- The last legal sample of a meter (R326, R328). -/
structure LegalSample where
  /-- R328: start and end, ns of device time -/
  s : Nat
  e : Nat
  /-- R327: the energy went to RAWDEL -/
  del : Bool
  /-- R326: energy, whole units of 2⁻¹⁶ mWh -/
  units : Nat
  deriving DecidableEq, Repr, Inhabited

/-- One port meter beside its record (R321 to R348). -/
structure Meter where
  /-- R327: RAWDEL and RAWREC on the analog die, 48 bits, and the energy below one unit -/
  rawDel : Nat := 0
  rawRec : Nat := 0
  carryDel : Nat := 0
  carryRec : Nat := 0
  /-- R328: end of the last sample; none before the first -/
  lastEnd : Option Nat := none
  /-- R328: the last sample -/
  last : Option LegalSample := none
  /-- R326: corrected current of the last sample, mA -/
  amps : Int := 0
  /-- R349: energy and time since the last fold, for P1 -/
  sumP : Int := 0
  sumT : Nat := 0
  /-- R329: 16-bit fractions of the totals -/
  fracDel : Nat := 0
  fracRec : Nat := 0
  /-- R332: the last check failed -/
  failed : Bool := false
  /-- R353: raw values at the latch-list instants passed last: instant, RAWDEL, RAWREC -/
  latched : List (Nat × Nat × Nat) := []
  /-- R337: MPOm is low-impedance -/
  pulse : Bool := false
  deriving DecidableEq, Repr, Inhabited

/-- One meter in the committed fold record (R329, R336). -/
structure MeterRecord where
  rawDel : Nat := 0
  rawRec : Nat := 0
  del : Nat := 0
  fracDel : Nat := 0
  rcv : Nat := 0
  fracRec : Nat := 0
  pulses : Nat := 0
  deriving DecidableEq, Repr, Inhabited

/-- The fold record in MRAM (R329). -/
structure FoldRecord where
  seq : Nat := 0
  run : Nat := 0
  /-- fold instant, ns of device time -/
  instant : Nat := 0
  meters : List MeterRecord := []
  /-- grid totals and fractions: imported, exported -/
  grid : Nat × Nat × Nat × Nat := (0, 0, 0, 0)
  deriving DecidableEq, Repr, Inhabited

/-- One direction of the grid meter beside its record (R342). -/
structure GridInput where
  /-- R329: fraction of the total, 2⁻¹⁶ mWh -/
  frac : Nat := 0
  /-- R342: remainder of the last quantum, and of the own measurement -/
  carryPulse : Nat := 0
  carryOwn : Nat := 0
  /-- R342: own-measured energy since the last pulse of this input, 2⁻¹⁶ mWh -/
  own : Nat := 0
  /-- R342: consecutive pulses that agree with the own measurement -/
  agree : Nat := 0
  /-- R342: pulse energy and own energy of the interval, 2⁻¹⁶ mWh -/
  ivPulse : Nat := 0
  ivOwn : Nat := 0
  deriving DecidableEq, Repr, Inhabited

/-- Metering beside its registers (R321 to R349). -/
structure MtrState where
  /-- R321: port meters 0 to 23 -/
  meter : Vector Meter 24 := Vector.replicate 24 {}
  /-- R330: run identifier that the analog die reports, and whether its converters run -/
  run : Nat := 0
  /-- R329: the committed record -/
  committed : FoldRecord := {}
  /-- R342: import and export of the grid meter -/
  imp : GridInput := {}
  exp : GridInput := {}
  /-- R353: the latch list: next two boundary instants of billing, ns -/
  latchList : List Nat := []
  /-- R349: queued boundaries: instant, meter, tag -/
  queue : List (Nat × Nat × Nat) := []
  /-- R349: next entry of the result ring -/
  resNext : Nat := 0
  /-- R347: carried fraction of secondary energy by record, delivered and received, 2 × h + direction -/
  secCarry : List (Nat × Nat) := []
  deriving DecidableEq, Repr, Inhabited

/-- A group of records and envelopes in the archive (R379, R613). -/
structure ArchiveGroup where
  /-- R389: ISEQ of the covering root -/
  iseq : Nat
  /-- R376: close of the interval, ns of device time -/
  close : Nat
  /-- R379: records, each with its meter number -/
  records : List (Nat × List Byte)
  /-- R389: the covering signed root's envelope, once archived -/
  envelope : Option (List Byte)
  deriving DecidableEq, Repr, Inhabited

/-- One boundary that waits for its processing (R365). -/
structure BilSlot where
  /-- R352: instant, ns of device time, and calendar instant, ns -/
  b : Nat
  q : Int
  /-- R352: it ends a profile interval, a demand interval -/
  p : Bool
  d : Bool
  /-- R369: instant at which the new intervals open -/
  opens : Nat
  /-- R365: totals at the close and at the opening, mWh, by meter -/
  tot : List (Nat × Nat)
  toto : List (Nat × Nat)
  /-- R347: secondary totals, mWh, by record -/
  sec : List (Nat × Nat)
  /-- R375: flags of the intervals that close and open here -/
  xf : Nat
  /-- R372: fold span that becomes live here -/
  span : Option (Nat × Nat)
  deriving DecidableEq, Repr, Inhabited

/-- What the boundary engine carries from boundary to boundary, beside its registers (R360 to R373). -/
structure BilWork where
  /-- R375: start of the open profile interval, ns; none before the first -/
  pS : Option Nat := none
  /-- R375: its label and flags -/
  pL : Nat := 0
  pFl : Nat := 0
  /-- R360: totals at its start, mWh, and secondary totals -/
  pT : List (Nat × Nat) := []
  pSec : List (Nat × Nat) := []
  /-- R375: highest demand within it, W, by meter -/
  pD : List Nat := []
  /-- R361: start, label and tariff of the open demand interval, and the direction-0 totals there -/
  dS : Option Nat := none
  dL : Nat := 0
  dTar : Nat := 0
  dT : List Nat := []
  /-- R361: DEMLEN in use, as its code -/
  demlen : Nat := 0
  /-- R370: adjusted K that waits for the next profile boundary -/
  kadj : Option Int := none
  /-- R358: local instant of the last profile boundary, ns -/
  ploc : Option Int := none
  /-- R360: EBASE has been taken -/
  based : Bool := false
  /-- R362: a maximum-demand reset is requested -/
  rst : Bool := false
  /-- R352: calendar instant of the last boundary processed, and of the next -/
  lastQ : Option Int := none
  nextQ : Int := 0
  /-- R376, R377: records that wait for the next group: type, meter, module, bytes 0x08 to 0x3B -/
  grp : List (Nat × Nat × Nat × List Byte) := []
  deriving DecidableEq, Repr, Inhabited

/-- One display unit beside its record (R384 to R386). -/
structure DisplayUnit where
  /-- R385: frames sent of the item now shown -/
  shown : Nat := 0
  /-- R386: answers missed in a row, and given in a row -/
  missed : Nat := 0
  good : Nat := 0
  /-- R384: the last frame sent -/
  frame : List Byte := []
  deriving DecidableEq, Repr, Inhabited

/-- What a session receipt takes from the start of its session (R403). -/
structure SessionStart where
  /-- own port 0 to 23 -/
  port : Nat
  t : Nat
  label : Nat
  del : Nat
  rcv : Nat
  sec : Nat × Nat
  iseq : Nat
  flags : Nat := 0
  deriving DecidableEq, Repr, Inhabited

/-- Billing beside its registers (R350 to R387). -/
structure BilState where
  work : BilWork := {}
  /-- R365: boundaries passed and not processed, oldest first -/
  slots : List BilSlot := []
  /-- R365: the boundary slot in MRAM while it is open -/
  mramSlot : Option BilSlot := none
  /-- R364: the committed journal: carried data and register words -/
  journal : BilWork := {}
  journalRegs : List (Nat × Word) := []
  /-- R371: a step of K that waits for the next fold: time-step record bytes and whether it is backward -/
  step : Option (List Byte × Bool) := none
  /-- R375: flags of the open interval that one meter set, by meter -/
  flags : List (Nat × Nat) := []
  /-- R379: staged groups, oldest first -/
  staged : List ArchiveGroup := []
  /-- R381: the next profile record carries ARCHLOSS -/
  archLoss : Bool := false
  /-- R363: sessions whose energy runs -/
  sessions : List SessionStart := []
  /-- R384: display units 0 to 23 -/
  display : Vector DisplayUnit 24 := Vector.replicate 24 {}
  deriving DecidableEq, Repr, Inhabited

/-- A reservation record of a device key (R392). -/
structure Reservation where
  gen : Nat
  limit : Nat
  closed : Bool
  used : Nat
  deriving DecidableEq, Repr, Inhabited

/-- One object that waits for a device signature (R398 to R407, R412). -/
structure SignReq where
  /-- R398: KIND: 1 root, 2 receipt, 3 interruption record, 4 attestation report, 5 key statement -/
  kind : Nat
  /-- R398: key, 0 meter and 1 attestation -/
  key : Nat
  /-- R398: payload; a root's PREV is filled in when it is started -/
  payload : List Byte
  /-- R409: job descriptor that waits for it -/
  job : Option Nat := none
  /-- R588: host operation slot that waits for it -/
  slot : Option Nat := none
  deriving DecidableEq, Repr, Inhabited

/-- A signature being computed (R393). -/
structure Signing where
  req : SignReq
  index : Nat
  gen : Nat
  start : Nat
  deriving DecidableEq, Repr, Inhabited

/-- Signatures, identity and crypto services beside their registers (R388 to R414). -/
structure SigState where
  /-- R392: reservation records of the meter and the attestation key in MRAM; none where no copy is valid -/
  record0 : Option Reservation := none
  record1 : Option Reservation := none
  /-- R412: objects that wait, in arrival order -/
  queue : List SignReq := []
  /-- R393: the signature under way -/
  current : Option Signing := none
  /-- R394: no signature is started any more -/
  stopped : Bool := false
  /-- R399: ISEQ last covered by a root, as the next root counts it -/
  rootTo : Nat := 0
  /-- R399: digest of the last signed-root envelope, and the one committed in MRAM -/
  prev : List Byte := List.replicate 32 0
  prevKept : List Byte := List.replicate 32 0
  /-- R400: signed roots that wait for the archive: last ISEQ and envelope -/
  roots : List (Nat × List Byte) := []
  /-- R402, R403, R405: other envelopes that wait for the archive -/
  envelopes : List (List Byte) := []
  /-- R403: SIG_REF latched at END, by own port -/
  refs : List (Nat × List Byte) := []
  /-- R404: next generation of each key, ready to take over -/
  nextGen0 : Option Nat := none
  nextGen1 : Option Nat := none
  /-- R391, R592: highest generation of each key that has ever been started, kept in MRAM -/
  genUsed0 : Nat := 0
  genUsed1 : Nat := 0
  /-- R409: queued descriptors, oldest first -/
  jobs : List Nat := []
  /-- R409: status of the job at the head, once carried out -/
  result : Option Nat := none
  /-- R410: ephemeral slots: curve and private share -/
  ephemeral : List (Nat × Nat × Nat) := []
  /-- R411: private keys of the TLS slots, kept in MRAM encrypted -/
  tlsKeys : List (Nat × Nat) := []
  /-- R412: class served last: 0 device signing, 1 program jobs, 2 image checks -/
  turn : Nat := 2
  /-- R588: envelopes of host operations, by slot -/
  hostDone : List (Nat × List Byte) := []
  deriving DecidableEq, Repr, Inhabited

/-- One port of the shroud beside its record (R427 to R437). -/
structure SfyPort where
  /-- R427: a release is due; TREL in ms -/
  release : Option Nat := none
  /-- R427: the release leaves out the current condition -/
  holdFull : Bool := false
  /-- R432: system clock of the last change of each mirror, positive pole first -/
  posSince : Nat := 0
  negSince : Nat := 0
  /-- R435: an unlock request waits for verified no voltage -/
  unlockReq : Bool := false
  /-- R434: a lock request waits for its feedback -/
  lockReq : Bool := false
  /-- R436: system clock at which FAULT became inactive -/
  imdSince : Nat := 0
  /-- R424: time the IMD test output is driven for, ms -/
  imdTest : Option Nat := none
  /-- R432: an SRST_N pulse has followed the opening of a welded pole -/
  weldReset : Bool := false
  deriving DecidableEq, Repr, Inhabited

/-- One actuator axis beside its record (R439 to R441). -/
structure Axis where
  /-- R439: encoder levels at the last sample -/
  levelA : Bool := false
  levelB : Bool := false
  /-- R439: positions of the last 100 samples, newest first -/
  window : List Int := []
  /-- R441: consecutive samples at speed 0 -/
  still : Nat := 0
  deriving DecidableEq, Repr, Inhabited

/-- The shroud and the trip fabric beside their registers (R415 to R454). -/
structure SfyState where
  /-- R53, R43: the safety image runs -/
  running : Bool := false
  /-- R422: last acknowledged SEQ of each request slot -/
  acked : Vector (Option Nat) 16 := Vector.replicate 16 none
  /-- R427: ports 0 to 47 -/
  port : Vector SfyPort 48 := Vector.replicate 48 {}
  /-- R429: system clock at which each zone's input became inactive -/
  zoneSince : Vector Nat 5 := Vector.replicate 5 0
  /-- R430: the stay chain is open -/
  stayOpen : Bool := false
  /-- R430: consecutive test pulses STAYI failed to follow -/
  stayMissed : Nat := 0
  /-- R442: levels of the 64 land sources: trip inputs low, lane trip lines high -/
  levels : Nat := 0xFFFFFFFF00000000
  /-- R439: axes 0 to 7 -/
  axis : Vector Axis 8 := Vector.replicate 8 {}
  /-- R426: ports whose category 1 stop port power has not taken yet -/
  stops : List Nat := []
  /-- R625: system clock at which VAUX appeared -/
  vauxSince : Nat := 0
  /-- R433: coils dropped by a supply loss stay off until a new close request -/
  vauxLost : Bool := false
  deriving DecidableEq, Repr, Inhabited

/-- What a module changes in the ring view (R461). -/
inductive RingChange where
  | lose (m : Nat)
  /-- join of a module downstream (true) or upstream of this one, with its offer -/
  | join (m : Nat) (down : Bool) (offer : Nat)
  | leave
  | splice
  | spliceEnd
  | raiseGen (g : Nat)
  deriving DecidableEq, Repr, Inhabited

/-- One Crateuth port beside its registers: 0 is D, 1 is U (R455, R456, R458, R469). -/
structure RingPort where
  /-- R456: step of the link start that has ended last: 0 none, 1 idle locked, 2 LINKCAP, 4 UP -/
  step : Nat := 0
  /-- R456: own nonce and ECDHE private share of this start -/
  nonce : Nat := 0
  share : Nat := 0
  /-- R456: the peer's identifier, nonce and public share, and the highest common version -/
  peer : Nat := 0
  peerNonce : List Byte := []
  peerShare : List Byte := []
  version : Nat := 0
  /-- R458: the two link keys, none while the link is down -/
  keys : Option (List Byte × List Byte) := none
  /-- R458: frame counter of the frames sent, 64 bits -/
  frames : Nat := 0
  /-- R469: consecutive missed heartbeats, and the latest heartbeat received -/
  misses : Nat := 0
  beat : Option HeartbeatFrame := none
  deriving DecidableEq, Repr, Inhabited

/-- The Crateuth ring beside its registers (R455 to R481). -/
structure RngState where
  /-- R455: ports D and U -/
  port : Vector RingPort 2 := Vector.replicate 2 {}
  /-- R457: ring secret, 8 words, kept in MRAM -/
  secret : Vector Word 8 := Vector.replicate 8 0
  /-- R469: count of the heartbeats sent, and the latest one -/
  beats : Nat := 0
  beat : Option HeartbeatFrame := none
  /-- R461: views announced or received that are not adopted yet -/
  views : List ViewFrame := []
  /-- R461: the module's own announced change and the view that carries it -/
  announced : Option (RingChange × ViewFrame) := none
  /-- R468: shadow of this period: words, lanes, observers, nodes, fold record -/
  words : List (Nat × Word) := []
  lanes : List (Nat × Nat × Nat × Nat) := []
  observers : List (Nat × Int × Int) := []
  nodes : List (Nat × Nat × Nat) := []
  fold : Option ShadowFold := none
  /-- R468: the shadow of this period is complete and waits for the period start -/
  complete : Bool := false
  /-- R467: the fold record of the last shadow applied -/
  lastFold : Option ShadowFold := none
  /-- R473: a takeover whose records wait for the first fold -/
  takeFold : Bool := false
  /-- R347, R471: guest secondary measurement runs -/
  secondary : Bool := false
  /-- R477: module whose open guest interval closes at the next boundary -/
  closing : Option Nat := none
  /-- R292: port and number of the last delta acknowledged -/
  acked : Option (Nat × Nat) := none
  /-- R476: buddy: a return was asked for; home: the request was sent, the guest state has arrived -/
  asked : Bool := false
  gotState : Bool := false
  /-- R476: SEQ of the return instant T_r -/
  returnAt : Option Nat := none
  /-- R477: the return signal has been given and GUEST is still 1 -/
  signalled : Bool := false
  /-- R474, R479: home lanes idle, own front-ends held, no own halyard, until the return -/
  silent : Bool := false
  deriving DecidableEq, Repr, Inhabited

/-- One protected channel beside its registers (R484 to R498). -/
structure Channel where
  /-- R485: MODE, FREQ and DUTY in use -/
  mode : Nat := 0
  freq : Nat := 200
  duty : Nat := 128
  /-- R486: the inrush window is open -/
  inrush : Bool := false
  /-- R490: order in which the channel was switched on last -/
  onOrder : Nat := 0
  /-- R494: the clamp of a turn-off has not ended -/
  clamping : Bool := false
  /-- R498: the held output is on -/
  heldOn : Bool := false
  deriving DecidableEq, Repr, Inhabited

/-- The protected channels beside their registers (R482 to R503). -/
structure LswState where
  /-- R484: CH0 to CH15 -/
  chan : Vector Channel 16 := Vector.replicate 16 {}
  /-- R490: how many switch-ons there have been -/
  switchOns : Nat := 0
  deriving DecidableEq, Repr, Inhabited

/-- The record of one pack in MRAM: kept register words by bus address, and TLASTREST (R519). -/
structure PackRecord where
  words : List (Nat × Word)
  lastRest : Int
  deriving DecidableEq, Repr, Inhabited

/-- One pack of the estimator beside its record (R505 to R524). -/
structure Pack where
  /-- R509: relaxation term, mV -/
  vrc : Int := 0
  /-- R509, R511, R518: remainders of counting, of drift and of cycles -/
  remCount : Int := 0
  remDrift : Nat := 0
  remCycles : Nat := 0
  /-- R512: TLASTREST, calendar time, ns, kept in the record -/
  lastRest : Int := 0
  /-- R517: SOC_e and Q at the last rest, none after an unmeasured span -/
  rest : Option (Nat × Int) := none
  /-- R507: calendar instant at which the counter stopped, ns -/
  gap : Option Int := none
  /-- R515: DIS and CHG are held at 0 -/
  disHeld : Bool := false
  chgHeld : Bool := false
  /-- R518: voltage and current of the last 1 ms mean -/
  lastMs : Option (Int × Int) := none
  /-- R506: consecutive counter checks passed -/
  passed : Nat := 0
  /-- R519: a write was refused by a gate and is retried -/
  retry : Bool := false
  /-- R519: newest valid copy in MRAM -/
  saved : Option PackRecord := none
  deriving DecidableEq, Repr, Inhabited

/-- The estimator beside its registers (R505 to R525). -/
structure EstState where
  /-- R505: packs 0 to 8 -/
  pack : Vector Pack 9 := Vector.replicate 9 {}
  /-- R522: the charger of HP is on -/
  charging : Bool := false
  deriving DecidableEq, Repr, Inhabited

/-- One captured timestamp (R534, R542). -/
structure Stamp where
  time : Nat
  domain : Nat
  sent : Bool
  msgType : Nat
  seq : Nat
  deriving DecidableEq, Repr, Inhabited

/-- Device time, timestamps and the calendar clock beside their registers (R526 to R542). -/
structure TimeState where
  /-- R526: device time, 96 bits: 64 bits of nanoseconds and 32 bits of fraction -/
  now : Nat := 0
  /-- R351, R529: K, calendar time minus device time, ns, kept in MRAM -/
  koff : Int := 0
  /-- R531: pending step, ms -/
  stepPend : Option Int := none
  /-- R539: pending calendar set: UTC instant in ns, and SRC -/
  calPend : Option (Int × Nat) := none
  /-- R534: timestamp FIFOs, at most 16 entries each, oldest first -/
  fifos : Vector (List Stamp) 4 := Vector.replicate 4 []
  /-- R527: increment in effect, units of 2⁻³² ns for each system clock -/
  inc : Nat := 21474836480
  /-- R535: pulses given on land PPSO -/
  ppsOut : Nat := 0
  /-- R537: fraction of an RTC tick passed, 10⁻⁹ -/
  rtcAcc : Nat := 0
  /-- R541: the RTC oscillator runs -/
  oscRunning : Bool := true
  deriving DecidableEq, Repr, Inhabited

/-- One entry of a CAN transmit queue (R548). -/
structure CanEntry where
  /-- R557: TXHDR, TXHDR2, TXLAUNCH as staged -/
  hdr : Word
  hdr2 : Word
  launch : Word
  /-- R557: staged data words 0 to 15 -/
  data : List Word
  /-- R551: an ABORT waits for it to lose arbitration or meet an error -/
  aborting : Bool := false
  /-- R536: it could not start at its launch time -/
  late : Bool := false
  deriving DecidableEq, Repr, Inhabited

/-- One entry of a transmit event FIFO (R549). -/
structure CanEvent where
  /-- R549: event time of the SOF sample point, TAG, STATUS, LATE -/
  t : Word
  tag : Nat
  status : Nat
  late : Bool
  deriving DecidableEq, Repr, Inhabited

/-- One CAN controller beside its registers (R543 to R557). -/
structure CanCtl where
  /-- R548: transmit queue, at most 16, head first -/
  queue : List CanEntry := []
  /-- R549, R551: the head is in arbitration or transmission, since the event time of its SOF -/
  wire : Option Word := none
  /-- R549: transmit event FIFO, at most 16, head first -/
  events : List CanEvent := []
  /-- R553: next receive entry to fill -/
  rxNext : Nat := 0
  /-- R555: 11 recessive bits have been seen since the enable -/
  joined : Bool := false
  /-- R554: recovery from bus-off runs -/
  recovering : Bool := false
  /-- R547: the nominal set being tried and the passes ended; none when no search runs -/
  search : Option (Nat × Nat) := none
  /-- R547: the search ended with no set adopted: listen-only -/
  noRate : Bool := false
  deriving DecidableEq, Repr, Inhabited


/-- What the sender knows of one unit of a frame (R570, R571). -/
inductive UnitState where
  | unsent | waiting | lost | acked
  deriving DecidableEq, Repr, Inhabited

/-- A frame the coordinator sends (R569 to R571). -/
structure DklTx where
  /-- R569: DST, next hop, TYPE, FSEQ -/
  dst : Nat
  next : Nat
  kind : Nat
  fseq : Nat
  /-- R577: TAG of a DATA frame of a program; none for the block's own frames and forwarded ones -/
  tag : Option Nat
  /-- R569: the frame's bytes, header, payload and CRC-32 -/
  bytes : List Byte
  /-- R571: each unit's state and the times it has been sent -/
  units : List (UnitState × Nat)
  deriving DecidableEq, Repr, Inhabited

/-- A segment on the line (R570). -/
structure DklOut where
  slot : Nat
  robust : Bool
  /-- R570: OFFSET and FSEQ[3:0] of its header -/
  offset : Nat
  fseq : Nat
  /-- the units it carries -/
  units : List Nat
  data : List Byte
  deriving DecidableEq, Repr, Inhabited

/-- One node's link beside its table entry (R565 to R575). -/
structure DklLink where
  /-- R569: FSEQ of the next frame to the node -/
  fseq : Nat := 0
  /-- R571: the frame being received: FSEQ and bitmap of its units -/
  rx : Option (Nat × List Nat) := none
  /-- R569: FSEQ of the last frame delivered -/
  last : Option Nat := none
  /-- R567: consecutive failed segments of each slot -/
  fails : List Nat := List.replicate 8 0
  /-- R571: the slot of a degraded receive map that the next ACK carries -/
  mapSlot : Option Nat := none
  /-- R565, R567: transmit maps that come into use at the next half-cycle, by slot -/
  newMaps : List (Nat × List Nat) := []
  /-- R575: the direct link is up -/
  up : Bool := false
  /-- R575: repeaters of its route, none for the direct one -/
  route : List Nat := []
  /-- R575: the nodes it last reported, with their LQ -/
  heard : List (Nat × Nat) := []
  /-- R572: ASSIGN has been queued -/
  approved : Bool := false
  deriving DecidableEq, Repr, Inhabited

/-- One completion of the transmit queue (R577). -/
structure DklEvent where
  tag : Nat
  status : Nat
  dst : Nat
  deriving DecidableEq, Repr, Inhabited

/-- Deckline beside its registers (R558 to R577). -/
structure DklState where
  /-- R560: device time of the last crossing, ns -/
  cross : Option Nat := none
  /-- R560: the last 16 half-cycles, ns, newest first -/
  halves : List Nat := []
  /-- R560: consecutive crossings within one class -/
  steady : Nat := 0
  /-- R568: owner of the present half-cycle, and of the next odd one with its JOIN bit -/
  owner : Nat := 0
  grant : Nat := 0
  join : Bool := false
  /-- R562: the beacon last sent, 22 bits -/
  beacon : Nat := 0
  /-- R561: the present slot -/
  slot : Nat := 0
  /-- R570: the segment on the line -/
  line : Option DklOut := none
  /-- R570: index in the send list of the frame that fills the present half-cycle -/
  current : Option Nat := none
  /-- R569, R571: frames to send, oldest first -/
  tx : List DklTx := []
  /-- R568: nodes that owe an ACK, repeaters with frames to forward, oldest first -/
  owes : List Nat := []
  forwards : List Nat := []
  /-- R568: the joined node granted last -/
  lastGrant : Nat := 0
  /-- R571: links owed an ACK by the coordinator, with the FSEQ -/
  ackDue : List (Nat × Nat) := []
  /-- R577: completions, oldest first -/
  events : List DklEvent := []
  /-- R577: next receive entry to fill -/
  rxNext : Nat := 0
  /-- R572: links of nodes 0 to 63 -/
  links : Vector DklLink 64 := Vector.replicate 64 {}
  deriving DecidableEq, Repr, Inhabited


/-- One operation in flight (R584, R591). -/
structure HostOp where
  /-- R584: submission queue -/
  queue : Nat
  /-- R583: TAG -/
  tag : Nat
  /-- R583: OP -/
  op : Nat
  /-- R583: FLAGS -/
  flags : Nat
  /-- R583: LEN, ADDR, RADDR, RLEN -/
  len : Nat
  addr : Nat
  raddr : Nat
  rlen : Nat
  /-- R583: ARG, 8 words -/
  args : List Word
  /-- R583: the 64 bytes as fetched -/
  raw : List Byte
  /-- R591: state as HST_OPSTAT: 1 message, 2 stepping, 3 waiting for engine -/
  state : Nat
  /-- R592: an ABORT asked for its end at the next step boundary -/
  aborting : Bool := false
  /-- R586: the descriptor has been copied into the hart's message ring -/
  delivered : Bool := false
  /-- R585: the operation has ended and its completion is due -/
  ended : Bool := false
  /-- R588: bytes an EXPORT has still to write, with the ISEQ of each whole record or envelope -/
  items : List (Nat × List Byte) := []
  /-- R590: bytes the steps of the operation have moved -/
  moved : Nat := 0
  /-- R588: words 1 to 3 that the end of the operation writes -/
  status : Nat := 0
  more : Bool := false
  result0 : Word := 0
  result1 : Word := 0
  deriving DecidableEq, Repr, Inhabited

/-- Host port, queues and events beside their registers (R578 to R602). -/
structure HostState where
  /-- R584: operations in flight, 48 slots -/
  slots : Vector (Option HostOp) 48 := Vector.replicate 48 none
  /-- R584: queue served last at each priority level, for the round-robin -/
  lastQueue0 : Nat := 31
  lastQueue1 : Nat := 31
  /-- R585: slots of operations that have ended, in the order of their ends -/
  endOrder : List Nat := []
  /-- R585: PHASE of each queue's next completion -/
  phase : Vector Bool 32 := Vector.replicate 32 true
  /-- R586: next entry to fill of each hart's message ring -/
  ringNext : Vector Nat 4 := Vector.replicate 4 0
  /-- R586: entries of each hart's message ring that the hart holds -/
  ringHeld : Vector Nat 4 := Vector.replicate 4 0
  /-- R579: number of MSI vectors granted; 0 while INTA is used -/
  msiVectors : Nat := 0
  /-- R596: MSI vectors sent, newest last -/
  msiSent : List Nat := []
  /-- R579: bytes written to host bus addresses (HOSTMEM), by host address -/
  hostMem : List Host.Cell := []
  /-- R580: bytes the last QSPI read or status transaction returned -/
  qspiOut : List Byte := []
  /-- R34, R593: fetching has stopped for the save sequence -/
  fetchStopped : Bool := false
  /-- R587: tags of message operations the block completed itself, by queue, awaiting a late GO -/
  lateTags : List (Nat × Nat) := []
  /-- R590: storage engine: the round-robin in fetch order, host slots as they are and request k as 48 + k -/
  storageOrder : List Nat := []
  deriving DecidableEq, Repr, Inhabited

/-- One Ethernet MAC beside its registers (R603 to R611). -/
structure EthMac where
  /-- R607: next receive entry to fill -/
  rxNext : Nat := 0
  /-- R609: ring 1 is held by a PAUSE frame -/
  paused : Bool := false
  /-- R606, R536: the ring of the frame on the wire, and its LATE flag -/
  wire : Option (Nat × Bool) := none
  /-- R536: rings whose head could not start at its launch time -/
  late : List Nat := []
  /-- R605: the transaction in progress, as the MDIO word that started it -/
  mdio : Option Word := none
  deriving DecidableEq, Repr, Inhabited

/-- The eMMC and its controller beside their registers (R612 to R619). -/
structure StoState where
  /-- R613: user-area bytes of the slots and the program area, by byte address; unlisted read 0 -/
  emmc : List Host.Cell := []
  /-- R613: archive region, oldest group first -/
  archive : List ArchiveGroup := []
  /-- R616: failed commands in a row -/
  failed : Nat := 0
  /-- R616: consecutive failed initialisations -/
  initFailed : Nat := 0
  /-- R613: the layout record is present and valid -/
  layoutOk : Bool := false
  /-- R403: envelopes archived beside the groups: receipts, interruption records, key statements -/
  envelopes : List (List Byte) := []
  /-- R379, R590: bytes of the archive write in progress already moved -/
  moved : Nat := 0
  /-- R616: retries of the command in progress -/
  attempts : Nat := 0
  deriving DecidableEq, Repr, Inhabited

/-- The whole block. -/
structure State where
  /-- R7, R9: every register word that differs from its reset word, by the key of the register and its member -/
  regs : List (Nat × Word) := []
  /-- R77: SRAM, the MRAM program area and the shroud exchange window, by bus address;
  unlisted bytes read 0 -/
  mem : List Host.Cell := []
  /-- R13: read latches, at most one for each initiator -/
  latches : List Latch := []
  /-- R13: write holding registers, at most one for each initiator -/
  holds : List Latch := []
  /-- R9: what the last read command returned -/
  readData : Word := 0
  /-- R7: the last register access ended in a bus error to its initiator -/
  busError : Bool := false
  /-- R25: system clocks since power-on (the model's own count; it times nothing that a command states) -/
  tick : Nat := 0
  /-- the model's own counter of free values drawn (no part of the hardware) -/
  drawn : Nat := 0
  sys : SysState := {}
  /-- R58: policy harts P0 to P3 -/
  harts : Vector HartCtx 4 := Vector.replicate 4 {}
  images : ImageState := {}
  lpe : LpeState := {}
  cln : ClnState := {}
  prt : PrtState := {}
  veh : VehState := {}
  alc : AlcState := {}
  thm : ThmState := {}
  mtr : MtrState := {}
  bil : BilState := {}
  sig : SigState := {}
  sfy : SfyState := {}
  rng : RngState := {}
  est : EstState := {}
  lsw : LswState := {}
  time : TimeState := {}
  host : HostState := {}
  eth : Vector EthMac 2 := Vector.replicate 2 {}
  sto : StoState := {}
  /-- R543: CAN controllers 0 to 7 -/
  cans : Vector CanCtl 8 := Vector.replicate 8 {}
  /-- R558: Deckline -/
  dkl : DklState := {}
  /-- the commands that wait, oldest first -/
  pending : List Instr := []
  deriving DecidableEq, Repr

/-- Why the machine stops with a fault. No command of this block does: an access the manual forbids
ends in a bus error to its initiator, and every other effect is a state. -/
inductive Fault where
  /-- raised by no command: the block has no fault that stops it (safe) -/
  | stopped
  deriving DecidableEq, Repr

/-- Why a command has no meaning here. -/
inductive Refusal where
  /-- raised by the arm of a command that has no meaning yet (safe: nothing can be proved of it) -/
  | notModelled (mnemonic : String)
  deriving DecidableEq, Repr

/-- The block right after a power-on reset: every register at its reset value, memories clear,
the boot tracks at their first step, no command waiting (R11, R44, R53). -/
def State.reset : State := {}

end Sys2Proof.Machine
end

