-- ==== Sys2Proof/Machine/Ops.lean ====
section
/-! DEFINITION. The named operations every meaning is built from: registers and their fields, memory,
device time, causes and events, wake-up, free values. -/

namespace Sys2Proof.Machine

/-- What a command answers. -/
abbrev Out := Host.Outcome State Fault Refusal

/-! ### Control -/

/-- Applies a change where a condition holds. -/
def State.when (s : State) (c : Bool) (f : State → State) : State := if c then f s else s

/-- Applies a change for each number below `n`, in rising order. -/
def State.each (s : State) (n : Nat) (f : Nat → State → State) : State :=
  (List.range n).foldl (fun s i => f i s) s

/-- Applies a change for each member of a list, in order. -/
def State.eachOf {α : Type} (s : State) (l : List α) (f : α → State → State) : State :=
  l.foldl (fun s i => f i s) s

/-! ### Registers (R7, R8, R11) -/

/-- Bus address of member `i` of a register array, members counted with the last dimension fastest. -/
def Rg.addrAt (r : Rg) (i : Nat) : Nat :=
  match r.dims with
  | [] => r.addr
  | [(_, a)] => r.addr + i * a
  | [(_, a), (m, b)] => r.addr + i / m * a + i % m * b
  | (_, a) :: (m, b) :: (n, c) :: _ => r.addr + i / (m * n) * a + i / n % m * b + i % n * c

/-- Number of members. -/
def Rg.count (r : Rg) : Nat := r.dims.foldl (fun n d => n * d.1) 1

/-- Where the register file lists member `i`: the bus address of the first member, then the member. -/
def Rg.key (r : Rg) (i : Nat) : Nat := r.addr * 65536 + i

/-- Bus address of the first member of the register at a key of the register file. -/
def keyBase (k : Nat) : Nat := k / 65536

/-- Reset word of member `i` (the Reset column, R11). -/
def Rg.resetAt (r : Rg) (i : Nat) : Word :=
  match r.vary with
  | .none => r.reset
  | .cellMap => BitVec.ofNat 32 ((if i < 512 then 2 ^ 31 else 0) + i / 32 % 16 * 65536 + i % 32)
  | .frontEnd => withBits r.reset Fl.VEH_FE_CTX.lsb Fl.VEH_FE_CTX.width i
  | .displayUnit => withBits r.reset Fl.BIL_DCFG_METER.lsb Fl.BIL_DCFG_METER.width i
  | .tripLimit =>
    withBits r.reset Fl.LSW_CHLIM_ITRIP.lsb Fl.LSW_CHLIM_ITRIP.width (if i < 12 then 600 else 1200)

/-- The word a register holds; there is none past the last member (read as its reset word). -/
def State.reg (s : State) (r : Rg) (i : Nat := 0) : Word :=
  if i < r.count then cellsGet (r.resetAt i) s.regs (r.key i) else r.resetAt i

/-- Sets the word a register holds; there is nothing to set past the last member. -/
def State.setReg (s : State) (r : Rg) (i : Nat) (v : Word) : State :=
  if i < r.count then { s with regs := cellsPut (r.resetAt i) s.regs (r.key i) v } else s

/-- The value of a field. -/
def State.f (s : State) (fl : Fld) (i : Nat := 0) : Nat := bitsOf (s.reg fl.reg i) fl.lsb fl.width

/-- Whether a field is not zero. -/
def State.b (s : State) (fl : Fld) (i : Nat := 0) : Bool := s.f fl i != 0

/-- The value of a signed field. -/
def State.fi (s : State) (fl : Fld) (i : Nat := 0) : Int := signedOf fl.width (s.f fl i)

/-- Sets a field. -/
def State.setF (s : State) (fl : Fld) (i v : Nat) : State :=
  s.setReg fl.reg i (withBits (s.reg fl.reg i) fl.lsb fl.width v)

/-- Sets a signed field. -/
def State.setFi (s : State) (fl : Fld) (i : Nat) (v : Int) : State :=
  s.setF fl i (unsignedOf fl.width v)

/-- Sets a one-bit field. -/
def State.setB (s : State) (fl : Fld) (i : Nat) (v : Bool) : State := s.setF fl i (b2n v)

/-- Sets one bit of a field. -/
def State.setFBit (s : State) (fl : Fld) (i j : Nat) (v : Bool) : State :=
  s.setF fl i (if v then setBit (s.f fl i) j else clearBit (s.f fl i) j)

/-- Adds to a field that stops at its largest value. -/
def State.satF (s : State) (fl : Fld) (i n : Nat) : State := s.setF fl i (satAdd fl.width (s.f fl i) n)

/-- Adds to a field that wraps. -/
def State.addF (s : State) (fl : Fld) (i n : Nat) : State :=
  s.setF fl i ((s.f fl i + n) % 2 ^ fl.width)

/-- The 64-bit quantity of a low and a high register (R13). -/
def State.q (s : State) (lo hi : Rg) (i : Nat := 0) : Nat :=
  (s.reg lo i).toNat + 2 ^ 32 * (s.reg hi i).toNat

/-- The signed 64-bit quantity of a low and a high register. -/
def State.qi (s : State) (lo hi : Rg) (i : Nat := 0) : Int := signedOf 64 (s.q lo hi i)

/-- Sets the 64-bit quantity of a low and a high register. -/
def State.setQ (s : State) (lo hi : Rg) (i v : Nat) : State :=
  (s.setReg lo i (BitVec.ofNat 32 v)).setReg hi i (BitVec.ofNat 32 (v / 2 ^ 32))

/-- Sets the signed 64-bit quantity of a low and a high register. -/
def State.setQi (s : State) (lo hi : Rg) (i : Nat) (v : Int) : State :=
  s.setQ lo hi i (unsignedOf 64 v)

/-- A register write by the access codes alone: RW bits take the value, W1C bits written 1 clear (R7). -/
def plainWrite (r : Rg) (i : Nat) (v : Word) (s : State) : State :=
  s.setReg r i (((s.reg r i &&& ~~~r.rw) &&& ~~~(r.w1c &&& v)) ||| (v &&& r.rw))

/-! ### Memory (R77) -/

/-- What an unlisted byte of SRAM or of the MRAM program area reads as: the boot ROM clears SRAM to
zero (R53); the manual gives the MRAM area no first contents (DESIGN CHOICE, assumption 5). -/
def memDefault : Byte := 0

/-- One byte of memory. -/
def State.byte (s : State) (a : Nat) : Byte := cellsGet memDefault s.mem a

/-- Writes one byte of memory. -/
def State.setByte (s : State) (a : Nat) (v : Byte) : State :=
  { s with mem := cellsPut memDefault s.mem a v }

/-- `n` bytes of memory from an address on. -/
def State.bytes (s : State) (a n : Nat) : List Byte := (List.range n).map (fun i => s.byte (a + i))

/-- Writes bytes of memory from an address on. -/
def State.setBytes (s : State) : Nat → List Byte → State
  | _, [] => s
  | a, v :: vs => (s.setByte a v).setBytes (a + 1) vs

/-- A little-endian word of memory (R7). -/
def State.word (s : State) (a : Nat) : Word := BitVec.ofNat 32 (leNat (s.bytes a 4))

/-- Writes a little-endian word of memory. -/
def State.setWord (s : State) (a : Nat) (v : Word) : State := s.setBytes a (leBytes 4 v.toNat)

/-- Whether memory is in its canonical form. -/
def State.memWf (s : State) : Bool := cellsWf memDefault s.mem

/-- SRAM (R77). -/
def inSram (a n : Nat) : Bool := decide (0x20000000 ≤ a ∧ a + n ≤ 0x21800000)

/-- The MRAM program area (R77). -/
def inMramProgram (a n : Nat) : Bool := decide (0x10100000 ≤ a ∧ a + n ≤ 0x10400000)

/-! ### Device time (R526, R528) -/

/-- Device time in whole nanoseconds. -/
def State.now (s : State) : Nat := s.time.now / 2 ^ 32 % 2 ^ 64

/-- Event time: the low 32 bits of device time (R528). -/
def State.eventTime (s : State) : Word := BitVec.ofNat 32 s.now

/-- Whether event time has reached an instant, by the signed 32-bit difference (R528). -/
def State.reached (s : State) (t : Word) : Bool := decide (0 ≤ (s.eventTime - t).toInt)

/-- The offset K: calendar time minus device time, ns (R351). -/
def State.koff (s : State) : Int := s.time.koff

/-- Calendar time, ns of UTC: device time plus K (R351). -/
def State.calendar (s : State) : Int := (s.now : Int) + s.koff

/-! ### Free values -/

/-- A value the manual leaves open, drawn afresh: nothing constrains it. -/
def State.draw (s : State) : Nat × State := (Config.freeValue s.drawn, { s with drawn := s.drawn + 1 })

/-! ### Causes and events (R594, R595) -/

/-- Raises an event source (R595). -/
def State.raise (s : State) (src : Nat) : State := s.setFBit Fl.EVT_PEND_PEND (src / 32) (src % 32) true

/-- Bit `j` of a cause field occurs: the bit is set, and the source is raised where the matching
enable bit is 1 (R595). -/
def State.causeOn (s : State) (stat en : Fld) (i j src : Nat) : State :=
  let t := s.setFBit stat i j true
  if bitOf (t.f en i) j then t.raise src else t

/-- The event sources that are pending. -/
def State.pendingSources (s : State) : List Nat :=
  (List.range 4).foldl (fun l j =>
    let w := s.f Fl.EVT_PEND_PEND j
    if w = 0 then l else l ++ ((List.range 32).filter (fun i => bitOf w i)).map (fun i => 32 * j + i)) []

/-- The host lines with a pending source routed to them (R596), before LINEEN. -/
def State.lineRequests (s : State) : Nat :=
  s.pendingSources.foldl (fun m i =>
    if s.b Fl.EVT_ROUTE_HEN i then setBit m (s.f Fl.EVT_ROUTE_LINE i) else m) 0

/-- The host lines that are active (R596). -/
def State.activeLines (s : State) : Nat := s.lineRequests &&& s.f Fl.EVT_LINEEN_EN

/-- The event lines of P0 to P3 that are active (R597). -/
def State.activeHartLines (s : State) : Nat :=
  s.pendingSources.foldl (fun m i => m ||| s.f Fl.EVT_ROUTE_WAKE i) 0

/-- Whether the host port is PCI Express (R578). -/
def State.pcie (s : State) : Bool := s.sys.hsel == 0

/-- The MSI vectors that newly active lines send (R596). -/
def State.sendMsi (s : State) (lines : Nat) : State :=
  if s.pcie && s.host.msiVectors != 0 then
    let new := (List.range 8).filter (fun k => bitOf lines k)
    { s with host.msiSent := s.host.msiSent ++ new.map (fun k => k % s.host.msiVectors) }
  else s

/-! ### Wake-up (R41, R42) -/

/-- Whether a wake source acts in a power state (R42's table; states as SYS_PWRCTL.REQ). -/
def wakesFrom (src state : Nat) : Bool :=
  match src with
  | 0 => state == 1
  | 1 => state == 2
  | 2 => state == 1 || state == 2 || state == 3
  | 3 => state == 1 || state == 2
  | 4 => state == 1 || state == 2 || state == 3
  | 5 => state == 1 || state == 2 || state == 3
  | 6 => state == 3
  | 7 => state == 1 || state == 2
  | _ => false

/-- An enabled wake source: it aborts an entry before its commit point, is recorded as pending after
it, and starts the exit from a low-power state (R41, R42). -/
def State.wake (s : State) (src : Nat) : State :=
  if !bitOf (s.f Fl.SYS_WAKEEN_SRC) src then s else
  match s.sys.target with
  | some t =>
    if t == 0 || !wakesFrom src t then s
    else if s.sys.committed then
      (s.setF Fl.SYS_PWRSTAT_WAKE_PEND 0 1 |> fun s =>
        { s with sys.wakePend := setBit s.sys.wakePend src })
    else
      (s.setF Fl.SYS_PWRCTL_REQ 0 (s.f Fl.SYS_PWRSTAT_STATE) |>.setF Fl.SYS_PWRSTAT_BUSY 0 0 |> fun s =>
        { s with sys.target := none })
  | none =>
    if wakesFrom src (s.f Fl.SYS_PWRSTAT_STATE) then
      (s.setF Fl.SYS_WAKESRC_SRC 0 (setBit (s.f Fl.SYS_WAKESRC_SRC) src)
        |>.setF Fl.SYS_PWRSTAT_FURL_ARMED 0 0
        |>.setF Fl.SYS_PWRSTAT_BUSY 0 1 |>.setF Fl.SYS_PWRCTL_REQ 0 0 |> fun s =>
        { s with sys.target := some 0, sys.committed := true,
                 sys.bootKind := if s.f Fl.SYS_PWRSTAT_STATE = 3 then .resume else s.sys.bootKind })
    else s

/-! ### Tamper log (R382) -/

/-- One event counts in its class; cause TAMPER. -/
def tamper (cls : Nat) (s : State) : State :=
  let s := s.when (s.f Fl.BIL_TCOUNT_COUNT cls == 0) (fun s => s.setQ R.BIL_TFIRSTL R.BIL_TFIRSTH cls s.now)
  (s.satF Fl.BIL_TCOUNT_COUNT cls 1 |>.setQ R.BIL_TLASTL R.BIL_TLASTH cls s.now).causeOn
    Fl.BIL_STAT_CAUSE Fl.BIL_CTL_EVEN 0 2 82

/-- Sets flag bits of a meter's open profile interval (R375). -/
def meterFlag (m bits : Nat) (s : State) : State :=
  { s with bil.flags := cellsPut (0 : Nat) s.bil.flags m (cellsGet 0 s.bil.flags m ||| bits) }

/-! ### Non-volatile writes (R32, R313) -/

/-- Whether a non-volatile write may start: VIN above V_HOLD and the junction window open. -/
def State.nvOk (s : State) : Bool := s.b Fl.SYS_SUPSTAT_ABOVE_HOLD && s.b Fl.THM_JSTAT_NVOK

/-! ### Capability records (R181) -/

/-- A field of the capability record of a cell, little-endian; 0 where the cell has none. -/
def State.capNat (s : State) (c off n : Nat) : Nat :=
  leNat ((((cellsFind s.cln.caps c).getD []).drop off).take n)

/-- IFS, mA. -/
def State.capIfs (s : State) (c : Nat) : Nat := s.capNat c 0x10 4

/-- VFS, mV. -/
def State.capVfs (s : State) (c : Nat) : Nat := s.capNat c 0x14 4

/-- ROLES, one bit per role. -/
def State.capRoles (s : State) (c : Nat) : Nat := s.capNat c 0x0C 1

/-! ### Port ceilings (R198, R203, R262 to R264) -/

/-- The members of a group in ascending slot order, removed cells left out (R198). -/
def State.members (s : State) (g : Nat) : List Nat :=
  (List.range 1024).filter fun c => s.f Fl.PRT_CELL_GROUP c == g && s.f Fl.PRT_CELL_RM c == 0

/-- Current limit of a cell, mA: IFS, or IAVAIL in format B where smaller. -/
def State.cellLimit (s : State) (c : Nat) : Nat :=
  match cellsFind s.cln.iAvail c with
  | none => s.capIfs c
  | some x => min (s.capIfs c) ((x.toNat * s.capIfs c) / 2 ^ 23)

/-- CELLS: what the members of a group can carry together, mA (R240). -/
def State.groupCells (s : State) (g : Nat) : Nat := (s.members g).foldl (fun a c => a + s.cellLimit c) 0

/-- The effective reef of an own port: the highest of its four sources (R262). -/
def State.effReef (s : State) (p : Nat) : Nat :=
  max (max (s.f Fl.PRT_GSTAT_REEFREQ p) (s.f Fl.ALC_PCFG_FORCE p))
    (max (s.f Fl.THM_PSTAT_TREEF p) (s.f Fl.SFY_PSTAT_SREEF p))

/-- F of a reef level, in 128ths; values above 128 act as 128 (R263). -/
def State.reefFraction (s : State) (r : Nat) : Nat :=
  if r = 0 then 128
  else min 128 (bitsOf (if r < 4 then s.reg R.ALC_REEFFRAC0 else s.reg R.ALC_REEFFRAC1) (8 * (r % 4)) 8)

/-- The cap of a reef level on a port, mA (R263). -/
def State.reefCap (s : State) (p r : Nat) : Nat := s.f Fl.ALC_PRATED_RATED p * s.reefFraction r / 128

/-- The local clamp of an own port, mA (R264). -/
def State.localClamp (s : State) (p : Nat) : Nat :=
  min (s.reefCap p (s.effReef p)) (min (s.f Fl.THM_CABLE_CABLE p) (s.groupCells p))

/-- The port group that serves allocator port `p`: own or guest (R233). -/
def portGroup (p : Nat) : Nat := if p < 24 then p else p + 16

/-- The sheet in force of an allocator port, shown in APPLIED as well (R240). -/
def setSheet (p v : Nat) (s : State) : State :=
  s.setF Fl.PRT_ISHEET_SHEET (portGroup p) v |>.setF Fl.ALC_PAPPLIED_APPLIED p v

/-- Shows a port's effective reef, and holds its sheet at or below the local clamp (R262, R264). -/
def clampPort (p : Nat) (s : State) : State :=
  let r := s.effReef p
  let s := if s.f Fl.ALC_PSTAT_REEF p = r then s
    else (s.setF Fl.ALC_PSTAT_REEF p r).causeOn Fl.ALC_STAT_CAUSE Fl.ALC_CTL_EVEN 0 5 61
  let a := s.f Fl.PRT_ISHEET_SHEET p
  if a = 0 then s else
    let c := s.localClamp p
    if c < a then setSheet p c s else s

end Sys2Proof.Machine
end

