-- ==== Sys2Proof/Machine/HartControl.lean ====
section
/-! DEFINITION. The policy harts as the rest of the device sees them: start and halt, what SYS_HARTSTAT shows,
mailboxes (R88 to R92). -/

namespace Sys2Proof.Machine

/-- A policy hart. -/
def State.hart (s : State) (n : Nat) : HartCtx := s.harts.toList.getD n {}

/-- Changes a policy hart. -/
def State.setHart (s : State) (n : Nat) (f : HartCtx → HartCtx) : State :=
  { s with harts := s.harts.setIfInBounds n (f (s.hart n)) }

/-- SYS_HARTSTAT.STATE of a hart (R90). -/
def HartCtx.code (x : HartCtx) : Nat :=
  match x.run with
  | .halted => 0
  | .running => if x.wait = .none then 1 else 3
  | .halting => 2
  | .startPending => 4

/-- Supervisor privilege (R59, R72). -/
def HartCtx.sup (x : HartCtx) : Bool := x.mode.getLsbD 0

/-- Shows a hart's state and privilege. -/
def showHart (n : Nat) (s : State) : State :=
  if 4 ≤ n then s else
  s.setF Fl.SYS_HARTSTAT_STATE n (s.hart n).code |>.setB Fl.SYS_HARTSTAT_PRIV n (s.hart n).sup

/-- Changes a policy hart and shows it. -/
def State.withHart (s : State) (n : Nat) (f : HartCtx → HartCtx) : State := showHart n (s.setHart n f)

/-- A hart as START leaves it: CW_MODE at its reset value, g1 to g31 and the counters cleared, region descriptors
disabled; the local store and the other control words stand (R89). -/
def startedHart (pc : Word) (x : HartCtx) : HartCtx :=
  { x with g := Vector.replicate 32 0, pc := pc, mode := 1, clocks := 0, done := 0
           rgnAttr := x.rgnAttr.map fun w => w &&& 0x7FFFFFFF
           reservation := none, run := .running, wait := .none }

/-- A hart starts at an address. -/
def startHart (n : Nat) (pc : Word) (s : State) : State := s.withHart n (startedHart pc)

/-- A halted hart. -/
def stopHart (x : HartCtx) : HartCtx := { x with run := .halted, wait := .none, reservation := none }

/-- The policy harts are halted. -/
def haltHarts (s : State) : State := s.each 4 fun n s => s.withHart n stopHart

/-- Address that START loads: SYS_HARTENTRY (R89). -/
def State.hartEntry (s : State) (n : Nat) : Word := s.reg R.SYS_HARTENTRY n &&& 0xFFFFFFFC

/-- P1 to P3 stay halted until the boot image is placed (R43). -/
def State.mayStart (s : State) (n : Nat) : Bool :=
  n < 4 && s.sys.phase == .running && (n == 0 || s.b Fl.SYS_PWRSTAT_IMGRDY)

/-- START: a halted hart starts; a halting one records the start as pending (R89, R90). -/
def hartStart (n : Nat) (s : State) : State :=
  if !s.mayStart n then s else
  match (s.hart n).run with
  | .halted => startHart n (s.hartEntry n) s
  | .halting => s.withHart n fun x => { x with run := .startPending }
  | _ => s

/-- HALT: a running hart halts at its next instruction boundary (R90). -/
def hartHalt (n : Nat) (s : State) : State :=
  if 4 ≤ n then s else
  match (s.hart n).run with
  | .running => s.withHart n fun x => { x with run := .halting }
  | .startPending => s.withHart n fun x => { x with run := .halting }
  | _ => s

/-- A halting hart has completed its accesses: it halts, and a pending start is acted on (R90). -/
def haltComplete (n : Nat) (s : State) : State :=
  if 4 ≤ n then s else
  match (s.hart n).run with
  | .halting => s.withHart n stopHart
  | .startPending => startHart n (s.hartEntry n) s
  | _ => s

/-- Appends a word to the inbox of hart `n`; a full inbox discards it and sets the writer's OVF bit (R92). -/
def mailboxWrite (writer n : Nat) (v : Word) (s : State) : State :=
  if 4 ≤ n then s
  else if (s.hart n).inbox.length < 16 then s.setHart n fun x => { x with inbox := x.inbox ++ [v] }
  else s.setHart writer fun x => { x with mboxOvf := setBit x.mboxOvf n }

/-- Removes and returns the oldest word of a hart's inbox; 0 and UNDER where it is empty (R92). -/
def mailboxRead (n : Nat) (s : State) : State :=
  match (s.hart n).inbox with
  | v :: rest => { s.setHart n (fun x => { x with inbox := rest }) with readData := v }
  | [] => { s.setHart n (fun x => { x with mboxUnder := true }) with readData := 0 }

/-- SYS_MBOXSTAT as hart `n` reads it (R92). -/
def State.mboxStat (s : State) (n : Nat) : Word :=
  let x := s.hart n
  let full := (List.range 4).foldl (fun m k => if 16 ≤ (s.hart k).inbox.length then setBit m k else m) 0
  BitVec.ofNat 32 (x.inbox.length + full * 2 ^ 12 + x.mboxOvf % 16 * 2 ^ 16 + b2n x.mboxUnder * 2 ^ 20)

/-- A write of SYS_MBOXSTAT by hart `n`: UNDER and OVF bits written 1 clear. -/
def mboxStatWrite (n : Nat) (v : Word) (s : State) : State :=
  s.setHart n fun x =>
    { x with mboxUnder := x.mboxUnder && !v.getLsbD 20
             mboxOvf := (List.range 4).foldl (fun m k => if v.getLsbD (16 + k) then clearBit m k else m) x.mboxOvf }

/-- SYS_OWNERLOCK.LOCK (R94). -/
def ownerLock (s : State) : State := s.setB Fl.SYS_OWNERLOCK_LOCK 0 true

/-- The hart clocks run: in Run, until an entry passes its commit point (R38, R41). -/
def State.hartsClocked (s : State) : Bool :=
  s.sys.phase == .running && s.f Fl.SYS_PWRSTAT_STATE == 0 &&
  (match s.sys.target with | some t => t == 0 || !s.sys.committed | none => true)

/-- One system clock of the harts: CW_CLOCKS of each started hart (R72). -/
def hartTick (s : State) : State :=
  if !s.hartsClocked then s else
  { s with harts := s.harts.map fun x => if x.run = .halted then x else { x with clocks := x.clocks + 1 } }

/-- Hart `k` loses its reservation where another initiator has written bytes of its granule; the writer's own stands
(R83). -/
def dropReservation (own : Option Nat) (a n k : Nat) (s : State) : State :=
  match (s.hart k).reservation with
  | some (g, _) =>
    if own != some k && a < 32 * g + 32 && 32 * g < a + n then s.setHart k fun x => { x with reservation := none } else s
  | none => s

/-- Bytes of SRAM have been written: the reservations of their granules are lost, but for hart `own` (R83). -/
def dropReservations (own : Option Nat) (a n : Nat) (s : State) : State := s.each 4 (dropReservation own a n)

/-- Bytes under an image check are read-only to every hart and every DMA initiator (R105). -/
def State.readOnly (s : State) (a n : Nat) : Bool :=
  s.images.tickets.toList.any fun t => match t with
    | some x => a < x.addr + x.len && x.addr < a + n
    | none => false

/-- Bytes written to SRAM by an initiator other than a hart; a write into a range under an image check ends in a bus
error to its initiator (R83, R105). -/
def State.dma (s : State) (a : Nat) (l : List Byte) : State :=
  if s.readOnly a l.length then s else dropReservations none a l.length (s.setBytes a l)

/-- A little-endian word written so. -/
def State.dmaWord (s : State) (a : Nat) (v : Word) : State := s.dma a (leBytes 4 v.toNat)

end Sys2Proof.Machine
end

