-- ==== Sys2Proof/Machine/Checks.lean ====
section
/-! DEFINITION. The check codes the manual computes: CRC-7, CRC-8, CRC-16, CRC-32 and CRC-64. -/

namespace Sys2Proof.Machine

/-- One bit of a most-significant-first CRC of `w` bits. -/
def crcBit (w poly c : Nat) (b : Bool) : Nat :=
  let top := c.testBit (w - 1)
  let c := c * 2 % 2 ^ w
  if top != b then c ^^^ poly else c

/-- The eight bits of one byte, most significant first. -/
def bitsMsb (b : Byte) : List Bool := (List.range 8).map fun i => b.toNat.testBit (7 - i)

/-- A most-significant-first CRC over bytes. -/
def crcMsb (w poly init : Nat) (bs : List Byte) : Nat :=
  bs.foldl (fun c b => (bitsMsb b).foldl (crcBit w poly) c) init

/-- One bit of a least-significant-first CRC. -/
def crcBitLsb (poly c : Nat) (b : Bool) : Nat :=
  let low := c.testBit 0
  if low != b then c / 2 ^^^ poly else c / 2

/-- The CRC-32 of IEEE 802.3. -/
def crc32 (bs : List Byte) : Word :=
  BitVec.ofNat 32 (bs.foldl (fun c b =>
    (List.range 8).foldl (fun c i => crcBitLsb 0xEDB88320 c (b.toNat.testBit i)) c) 0xFFFFFFFF ^^^ 0xFFFFFFFF)

/-- The CRC-64 of R257: 0x42F0E1EBA9EA3693, reflected, initial all ones, final inversion. -/
def crc64 (bs : List Byte) : Nat :=
  bs.foldl (fun c b => (List.range 8).foldl (fun c i => crcBitLsb 0xC96C5795D7870F42 c (b.toNat.testBit i)) c)
    0xFFFFFFFFFFFFFFFF ^^^ 0xFFFFFFFFFFFFFFFF

/-- CRC-16 of R169: 0x1021, initial 0xFFFF. -/
def crc16 (bs : List Byte) : Nat := crcMsb 16 0x1021 0xFFFF bs

/-- CRC-8 of R170: 0x07, initial 0. -/
def crc8 (bs : List Byte) : Nat := crcMsb 8 0x07 0 bs

/-- A frame body of R169: header and payload followed by their CRC-16, low byte first. -/
def frameOk (bs : List Byte) : Bool :=
  3 ≤ bs.length && leNat (bs.drop (bs.length - 2)) == crc16 (bs.take (bs.length - 2))

end Sys2Proof.Machine
end

