-- ==== Sys2Proof/Machine/Flags.lean ====
section
/-! DEFINITION. Saturating arithmetic of the loop engine, with the lane's saturation flag (R119 to R123). -/

namespace Sys2Proof.Machine

/-- A value and whether it saturated. -/
abbrev Satd := Int × Bool

/-- Saturation to `width` bits, two's complement. -/
def saturate (width : Nat) (x : Int) : Satd :=
  let hi : Int := 2 ^ (width - 1) - 1
  let lo : Int := -(2 ^ (width - 1))
  if hi < x then (hi, true) else if x < lo then (lo, true) else (x, false)

/-- A signal saturates to 24 bits (R119, R123). -/
def sat24 (x : Int) : Satd := saturate 24 x

/-- An accumulator saturates to 56 bits (R120). -/
def sat56 (x : Int) : Satd := saturate 56 x

/-- The shift of R121: left for k ≤ 0, right with rounding for 1 ≤ k ≤ 63, 0 from 64 on. -/
def roundShift (x : Int) (k : Int) : Int :=
  if k ≤ 0 then x * 2 ^ (-k).toNat
  else if k ≤ 63 then floorDiv (x + 2 ^ (k.toNat - 1)) (2 ^ k.toNat)
  else 0

/-- VCLS: k = 23 + D − Es, the result saturated to 24 bits (R121). -/
def closeStage (acc d e : Int) : Satd := sat24 (roundShift acc (23 + d - e))

/-- VOPEN: j = 23 + D − Es; left shifts saturate to 56 bits, right shifts round as R121 (R122). -/
def openStage (m d e : Int) : Satd :=
  let j := 23 + d - e
  if 0 ≤ j then sat56 (m * 2 ^ j.toNat) else (roundShift m (-j), false)

end Sys2Proof.Machine
end

