-- ==== Sys2Proof/Machine/Operands.lean ====
section
/-! DEFINITION. Operand forms of the vector instructions: the fields of the 32-bit word and the check of
R130 (R124, R126). -/

namespace Sys2Proof.Machine

/-- A vector instruction with its operands (R126). -/
inductive VecOp where
  | nop
  | ldi (vd k : Nat)
  | sto (va k : Nat)
  | ldsv (vd k : Nat)
  | stsv (va k : Nat)
  | lds (acd k : Nat)
  | sts (acs k : Nat)
  | clr (acd : Nat)
  | clri (acd : Nat)
  | mac (acd va k : Nat)
  | msc (acd va k : Nat)
  | macv (acd va vb : Nat)
  | opn (acd va s : Nat) (d : Int)
  | cls (vd acs s : Nat) (d : Int)
  | add (vd va vb : Nat)
  | sub (vd va vb : Nat)
  | lim (vd va lo hi : Nat)
  | seli (vd va vb : Nat)
  | sel (vd va vb : Nat)
  | cmp (va vb : Nat)
  | fe (va : Nat)
  | abs (vd va : Nat)
  | kld (vd k : Nat)
  deriving DecidableEq, Repr, Inhabited

/-- The lane register an instruction writes, if it writes one (R126, R156). -/
def VecOp.dest : VecOp → Option Nat
  | .ldi vd _ => some vd
  | .ldsv vd _ => some vd
  | .cls vd _ _ _ => some vd
  | .add vd _ _ => some vd
  | .sub vd _ _ => some vd
  | .lim vd _ _ _ => some vd
  | .seli vd _ _ => some vd
  | .sel vd _ _ => some vd
  | .abs vd _ => some vd
  | .kld vd _ => some vd
  | .nop => none | .sto _ _ => none | .stsv _ _ => none | .lds _ _ => none | .sts _ _ => none
  | .clr _ => none | .clri _ => none | .mac _ _ _ => none | .msc _ _ _ => none | .macv _ _ _ => none
  | .opn _ _ _ _ => none | .cmp _ _ => none | .fe _ => none

/-- Reads a vector instruction word; none for an opcode R126 does not list, a field out of its range, or a
field that the instruction does not use and that is not 0 (R124, R126, R127, R130). -/
def vecDecode (w : Word) : Option VecOp :=
  let op := bitsOf w 26 6
  let x := bitsOf w 22 4
  let y := bitsOf w 18 4
  let z := bitsOf w 14 4
  let i := bitsOf w 0 14
  let d := signedOf 6 (i / 256)
  let use (c : Bool) (v : VecOp) : Option VecOp := if c then some v else none
  match op with
  | 0x00 => use (w == 0) .nop
  | 0x01 => use (y == 0 && z == 0 && i < 8) (.ldi x i)
  | 0x02 => use (x == 0 && z == 0 && i < 4) (.sto y i)
  | 0x03 => use (y == 0 && z == 0 && i < 8) (.ldsv x i)
  | 0x04 => use (x == 0 && z == 0 && i < 8) (.stsv y i)
  | 0x05 => use (x < 4 && y == 0 && z == 0 && i < 8) (.lds x i)
  | 0x06 => use (x == 0 && y < 4 && z == 0 && i < 8) (.sts y i)
  | 0x07 => use (x < 4 && y == 0 && z == 0 && i == 0) (.clr x)
  | 0x08 => use (x < 4 && y == 0 && z == 0 && i == 0) (.clri x)
  | 0x09 => use (x < 4 && z == 0 && 1 ≤ i && i < 16) (.mac x y i)
  | 0x0A => use (x < 4 && z == 0 && 1 ≤ i && i < 16) (.msc x y i)
  | 0x0B => use (x < 4 && i == 0) (.macv x y z)
  | 0x0C => use (x < 4 && z == 0 && i % 256 < 4) (.opn x y (i % 4) d)
  | 0x0D => use (y < 4 && z == 0 && i % 256 < 4) (.cls x y (i % 4) d)
  | 0x0E => use (i == 0) (.add x y z)
  | 0x0F => use (i == 0) (.sub x y z)
  | 0x10 => use (z == 0 && i < 256 && i % 16 != 0 && i / 16 != 0) (.lim x y (i % 16) (i / 16))
  | 0x11 => use (i == 0) (.seli x y z)
  | 0x12 => use (i == 0) (.sel x y z)
  | 0x13 => use (x == 0 && i == 0) (.cmp y z)
  | 0x14 => use (x == 0 && z == 0 && i == 0) (.fe y)
  | 0x15 => use (z == 0 && i == 0) (.abs x y)
  | 0x16 => use (y == 0 && z == 0 && 1 ≤ i && i < 16) (.kld x i)
  | _ => none

end Sys2Proof.Machine
end

