-- ==== Sys2Proof/Machine/LoopEngine.lean ====
section
/-! DEFINITION. The loop engine: lanes, kernels, admission, coefficient writes, batches, supervision,
injection and capture (R108 to R162). -/

namespace Sys2Proof.Machine

/-! ### Access -/

/-- Sample group `g` beside its register. -/
def State.lg (s : State) (g : Nat) : LpeGroup := s.lpe.group.toList.getD g {}

/-- Changes sample group `g` beside its register. -/
def State.setLg (s : State) (g : Nat) (f : LpeGroup → LpeGroup) : State :=
  { s with lpe.group := s.lpe.group.setIfInBounds g (f (s.lg g)) }

/-- Batch `b` beside its registers. -/
def State.lb (s : State) (b : Nat) : LpeBatch := s.lpe.batch.toList.getD b {}

/-- Changes batch `b` beside its registers. -/
def State.setLb (s : State) (b : Nat) (f : LpeBatch → LpeBatch) : State :=
  { s with lpe.batch := s.lpe.batch.setIfInBounds b (f (s.lb b)) }

/-- A cause of LPE_STAT: bit `j` raises event 127 where enabled (R162). -/
def lpeCause (j : Nat) (s : State) : State :=
  s.causeOn ⟨R.LPE_STAT, 0, 9⟩ Fl.LPE_CTL_EVEN 0 j 127

/-- Input word `k` of a cell slot (R134). -/
def State.cellIn (s : State) (c k : Nat) : Int := cellsGet (0 : Int) s.lpe.ins (8 * c + k)

/-- Sets an input word of a cell slot. -/
def setCellIn (c k : Nat) (v : Int) (s : State) : State :=
  { s with lpe.ins := cellsPut (0 : Int) s.lpe.ins (8 * c + k) v }

/-- Output word `k` of a cell slot (R134). -/
def State.cellOut (s : State) (c k : Nat) : Int := cellsGet (0 : Int) s.lpe.outs (4 * c + k)

/-- Sets an output word of a cell slot. -/
def setCellOut (c k : Nat) (v : Int) (s : State) : State :=
  { s with lpe.outs := cellsPut (0 : Int) s.lpe.outs (4 * c + k) v }

/-- State word `k` of a cell slot (R135). -/
def State.cellSt (s : State) (c k : Nat) : Int := cellsGet (0 : Int) s.lpe.sts (8 * c + k)

/-- Sets a state word of a cell slot. -/
def setCellSt (c k : Nat) (v : Int) (s : State) : State :=
  { s with lpe.sts := cellsPut (0 : Int) s.lpe.sts (8 * c + k) v }

/-! ### Vector instructions (R125, R126) -/

/-- What one vector instruction does on one lane: the lane, a state word, an output word, saturation. -/
structure LaneStep where
  lane : LaneCtx
  st : Option (Nat × Int) := none
  out : Option (Nat × Int) := none
  sat : Bool := false

/-- A lane register; v0 reads 0 (R125). -/
def LaneCtx.reg (x : LaneCtx) (n : Nat) : Int := if n = 0 then 0 else x.v.toList.getD n 0

/-- An accumulator. -/
def LaneCtx.acc (x : LaneCtx) (n : Nat) : Int := x.ac.toList.getD n 0

/-- The mantissa of coefficient `k` (R136). -/
def LaneCtx.mant (x : LaneCtx) (k : Nat) : Int := signedOf 24 (x.coef.toList.getD k 0).toNat

/-- The exponent of stage `s`: a signed byte of word 0 (R136). -/
def LaneCtx.expo (x : LaneCtx) (s : Nat) : Int := signedOf 8 ((x.coef.toList.getD 0 0).toNat / 256 ^ s)

/-- Writes a lane register; a write of v0 is discarded. -/
def LaneCtx.setReg (x : LaneCtx) (n : Nat) (m : Int) : LaneCtx :=
  if n = 0 then x else { x with v := x.v.setIfInBounds n m }

/-- Writes an accumulator. -/
def LaneCtx.setAcc (x : LaneCtx) (n : Nat) (m : Int) : LaneCtx := { x with ac := x.ac.setIfInBounds n m }

/-- A step that writes a lane register. -/
def laneReg (x : LaneCtx) (n : Nat) (r : Satd) : LaneStep := { lane := x.setReg n r.1, sat := r.2 }

/-- A step that writes an accumulator. -/
def laneAcc (x : LaneCtx) (n : Nat) (r : Satd) : LaneStep := { lane := x.setAcc n r.1, sat := r.2 }

/-- One vector instruction on one lane; `st` reads the state words of the lane's cell (R126). -/
def VecOp.onLane (op : VecOp) (st : Nat → Int) (x : LaneCtx) : LaneStep :=
  match op with
  | .nop => { lane := x }
  | .ldi vd k => laneReg x vd (x.ins.toList.getD k 0, false)
  | .sto va k => { lane := x, out := some (k, x.reg va) }
  | .ldsv vd k => laneReg x vd (signedOf 24 (unsignedOf 24 (st k)), false)
  | .stsv va k => { lane := x, st := some (k, x.reg va) }
  | .lds acd k => laneAcc x acd (st k, false)
  | .sts acs k => { lane := x, st := some (k, x.acc acs) }
  | .clr acd => laneAcc x acd (0, false)
  | .clri acd => if x.init then laneAcc x acd (0, false) else { lane := x }
  | .mac acd va k => laneAcc x acd (sat56 (x.acc acd + x.reg va * x.mant k))
  | .msc acd va k => laneAcc x acd (sat56 (x.acc acd - x.reg va * x.mant k))
  | .macv acd va vb => laneAcc x acd (sat56 (x.acc acd + x.reg va * x.reg vb))
  | .opn acd va s d => laneAcc x acd (openStage (x.reg va) d (x.expo s))
  | .cls vd acs s d => laneReg x vd (closeStage (x.acc acs) d (x.expo s))
  | .add vd va vb => laneReg x vd (sat24 (x.reg va + x.reg vb))
  | .sub vd va vb => laneReg x vd (sat24 (x.reg va - x.reg vb))
  | .lim vd va lo hi => laneReg x vd (min (max (x.reg va) (x.mant lo)) (x.mant hi), false)
  | .seli vd va vb => laneReg x vd (if x.init then x.reg va else x.reg vb, false)
  | .sel vd va vb => laneReg x vd (if x.flag then x.reg va else x.reg vb, false)
  | .cmp va vb => { lane := { x with flag := decide (x.reg va < x.reg vb) } }
  | .fe va => { lane := { x with fe := some (x.reg va) } }
  | .abs vd va => laneReg x vd (sat24 (x.reg va).natAbs)
  | .kld vd k => laneReg x vd (x.mant k, false)

/-- A lane of the engine. -/
def State.lane (s : State) (i : Nat) : LaneCtx := s.lpe.lanes.toList.getD i {}

/-- A saturation of lane `i` of the current batch: its flag, and LPE_STAT.SAT (R123). -/
def satFlag (i : Nat) (s : State) : State := lpeCause 3 (s.setFBit Fl.LPE_SATST_LANE s.lpe.cur i true)

/-- One vector instruction on lane `i`, where the lane's cell is enabled. -/
def vecLane (op : VecOp) (i : Nat) (s : State) : State :=
  if bitOf s.lpe.curMask i then
    let c := 16 * s.lpe.cur + i
    let r := op.onLane (s.cellSt c) (s.lane i)
    let s := { s with lpe.lanes := s.lpe.lanes.setIfInBounds i r.lane }
    let s := match r.st with | none => s | some e => setCellSt c e.1 e.2 s
    let s := match r.out with | none => s | some e => setCellOut c e.1 e.2 s
    s.when r.sat (satFlag i)
  else s

/-- One vector instruction on all 16 engine lanes (R108). -/
def vecAll (op : VecOp) (s : State) : State := s.each 16 (vecLane op)

/-! ### Kernels (R128, R130) -/

/-- A word of kernel memory. -/
def State.kernelWord (s : State) (k w : Nat) : Word := cellsGet (0 : Word) s.lpe.kernels (512 * k + w)

/-- LENGTH of a kernel slot. -/
def State.kernelLen (s : State) (k : Nat) : Nat := bitsOf (s.kernelWord k 0) 0 8

/-- The check of a kernel slot: 1 header, 2 illegal instruction or unused field, 0 good (R130). -/
def State.kernelCheck (s : State) (k : Nat) : Nat :=
  let h := s.kernelWord k 0
  if bitsOf h 0 8 == 0 || 250 < bitsOf h 0 8 || bitsOf h 8 8 != 1 then 1
  else if (List.range (s.kernelLen k)).all (fun i => (vecDecode (s.kernelWord k (i + 1))).isSome) then 0
  else 2

/-- The instructions of a kernel slot in order. -/
def State.kernelOps (s : State) (k : Nat) : List VecOp :=
  (List.range (s.kernelLen k)).map fun i => (vecDecode (s.kernelWord k (i + 1))).getD .nop

/-! ### Admission (R116 to R118) -/

/-- A group runs: a home group that is enabled, or a guest group that is enabled during takeover. -/
def State.groupRuns (s : State) (g : Nat) : Bool :=
  s.b Fl.LPE_GROUP_EN g && (g < 4 || s.b Fl.LPE_TAKE_ACTIVE)

/-- A batch is enabled: a guest batch counts during takeover. -/
def State.batchOn (s : State) (b : Nat) : Bool :=
  s.b Fl.LPE_BATCH_EN b && (b < 32 || s.b Fl.LPE_TAKE_ACTIVE)

/-- Cost of a batch: kernel length plus 6 (R111). -/
def State.batchCost (s : State) (b : Nat) : Nat := s.kernelLen (s.f Fl.LPE_BATCH_KERNEL b) + 6

/-- The effective period of a group: the doubled one under takeover, else the one written. -/
def State.effPeriod (s : State) (g : Nat) : Nat :=
  if s.b Fl.LPE_GROUP_HALF g then (s.lg g).period else s.f Fl.LPE_GROUP_PERIOD g

/-- Summed cost of the batches of a group that a test admits. -/
def State.groupCost (s : State) (on : Nat → Bool) (g : Nat) : Nat :=
  (List.range 64).foldl (fun c b =>
    if on b && s.f Fl.LPE_BATCH_GROUP b == g then c + s.batchCost b else c) 0

/-- The load W (R116). -/
def State.load (s : State) : Nat :=
  (List.range 8).foldl (fun w g =>
    if s.groupRuns g then w + ceilDiv (65536 * s.groupCost s.batchOn g) (s.effPeriod g) else w) 0

/-- The load that takeover would produce: every enabled group, home and guest, at twice its written
period (R118, R149). -/
def State.takeoverLoad (s : State) : Nat :=
  (List.range 8).foldl (fun w g =>
    if s.b Fl.LPE_GROUP_EN g then
      w + ceilDiv (65536 * s.groupCost (fun b => s.b Fl.LPE_BATCH_EN b) g) (2 * s.f Fl.LPE_GROUP_PERIOD g)
    else w) 0

/-- The cost of the longest enabled batch. -/
def State.longest (s : State) : Nat :=
  (List.range 64).foldl (fun m b => if s.batchOn b then max m (s.batchCost b) else m) 0

/-- The load passes R116. -/
def State.loadOk (s : State) : Bool := decide (s.load ≤ 65536)

/-- LPE_LAUNCH passes R116. -/
def State.launchOk (s : State) : Bool := decide (s.longest ≤ s.f Fl.LPE_LAUNCH_OFFSET)

/-- Shows LOAD, TLOAD and TOVER (R118). -/
def showLoad (s : State) : State :=
  let t := s.takeoverLoad
  let exceeded := decide (65536 < t)
  let was := s.b Fl.LPE_STAT_TOVER
  let s := s.setF Fl.LPE_LOAD_W 0 (min s.load (2 ^ 18 - 1)) |>.setF Fl.LPE_TLOAD_W 0 (min t (2 ^ 18 - 1))
  if exceeded && !was then lpeCause 5 s else s.setB Fl.LPE_STAT_TOVER 0 exceeded

/-- A batch write refused with a reason (R117, R130). -/
def batchRefuse (b err : Nat) (s : State) : State :=
  (s.setF Fl.LPE_BSTAT_ERR b err).when (3 ≤ err) (lpeCause 1)

/-! ### The tick grid (R113) -/

/-- Some lane that names the group is not down. -/
def State.laneNames (s : State) (g : Nat) : Bool :=
  (List.range 32).any fun j => s.f Fl.CLN_LANECFG_GROUP j == g && s.f Fl.CLN_LANESTAT_STATE j != 0

/-- The condition of the tick grid. -/
def State.gridWanted (s : State) (g : Nat) : Bool := s.b Fl.LPE_GROUP_EN g || s.laneNames g

/-- Coefficient words are stored; mantissas read as the sign extension of bit 23 (R136). -/
def storeCoef (bank slot w : Nat) (v : Word) (s : State) : State :=
  let v := if w = 0 then v else BitVec.ofInt 32 (signedOf 24 v.toNat)
  { s with lpe.coef := cellsPut (0 : Word) s.lpe.coef (16 * (1024 * bank + slot) + w) v }

/-- The coefficient word in effect (R140). -/
def State.coefAt (s : State) (bank slot w : Nat) : Word :=
  cellsGet (0 : Word) s.lpe.coef (16 * (1024 * bank + slot) + w)

/-- Group of a slot's batch. -/
def State.slotGroup (s : State) (slot : Nat) : Nat := s.f Fl.LPE_BATCH_GROUP (slot / 16)

/-- Shows the words pending (R141). -/
def showPool (s : State) : State := s.setF Fl.LPE_CWSTAT_PEND 0 s.lpe.pool.length

/-- The pending words of a group take effect in the order of their arrival, so the later of two writes of
one word stands (R138, R139). -/
def applyPool (g : Nat) (s : State) : State :=
  let mine := s.lpe.pool.filter fun e => s.slotGroup e.slot == g
  let s := s.eachOf mine fun e s => storeCoef e.bank e.slot e.w e.v s
  showPool { s with lpe.pool := s.lpe.pool.filter fun e => s.slotGroup e.slot != g }

/-- A cell's slot is in an enabled batch of an enabled group (R138). -/
def State.slotRuns (s : State) (slot : Nat) : Bool :=
  s.batchOn (slot / 16) && s.groupRuns (s.slotGroup slot)

/-- A coefficient write enters the pool, or takes effect at once; `none` where the pool is full (R138,
R141). -/
def coefStore (own : Bool) (bank slot w : Nat) (v : Word) (s : State) : Option State :=
  if s.slotRuns slot then
    if 64 ≤ s.lpe.pool.length then none
    else some (showPool { s with lpe.pool := s.lpe.pool ++ [⟨bank, slot, w, v, own⟩] })
  else some (storeCoef bank slot w v s)

/-- A write of port power to both banks, the active one first (R213). -/
def ownCoef (slot w : Nat) (v : Word) (s : State) : State :=
  let first := s.f Fl.LPE_GROUP_BANK (s.slotGroup slot)
  let put (bank : Nat) (s : State) : State := (coefStore true bank slot w v s).getD s
  put (1 - first) (put first s)

/-- Pool entries of port power (R213). -/
def State.ownPending (s : State) : Nat := (s.lpe.pool.filter (·.own)).length

/-- The word that stands once the pool has drained, in the active bank. -/
def State.coefNext (s : State) (slot w : Nat) : Word :=
  let bank := s.f Fl.LPE_GROUP_BANK (s.slotGroup slot)
  ((s.lpe.pool.filter fun e => e.bank == bank && e.slot == slot && e.w == w).getLast?.map (·.v)).getD
    (s.coefAt bank slot w)

/-- The slot is a member of an enabled port-power group (R144). -/
def State.portCell (s : State) (slot : Nat) : Bool :=
  let g := s.f Fl.PRT_CELL_GROUP slot
  g < 80 && s.b Fl.PRT_GCFG_EN g && s.f Fl.PRT_CELL_RM slot == 0

/-- A program's coefficient write: E1 of a port-power member stays port power's; a full pool ends in a
bus error with CWFULL (R141, R144). -/
def coefWrite (bank slot w : Nat) (v : Word) (s : State) : State :=
  let v := if w = 0 && s.portCell slot then
      withBits v 8 8 (unsignedOf 8 (cellsGet (0 : Int) s.prt.e1 slot)) else v
  match coefStore false bank slot w v s with
  | some s => s
  | none => lpeCause 4 { s with busError := true }

/-- Sets init flags for slots' next samples (R131). -/
def initSlots (l : List Nat) (s : State) : State :=
  { s with lpe.initPend := s.lpe.initPend ++ l.filter fun c => !s.lpe.initPend.contains c }

/-- The slots of a batch whose lanes are in a mask. -/
def maskSlots (b mask : Nat) : List Nat :=
  ((List.range 16).filter fun i => bitOf mask i).map fun i => 16 * b + i

/-- A stop of a batch completes; a pending enable makes it run with init flags (R133). -/
def finishStop (b : Nat) (s : State) : State :=
  match s.f Fl.LPE_BSTAT_STATE b with
  | 2 => s.setF Fl.LPE_BSTAT_STATE b 0
  | 3 =>
    let m := s.f Fl.LPE_BATCH_MASK b
    let k := s.f Fl.LPE_BATCH_KERNEL b
    initSlots (maskSlots b m) ((s.setF Fl.LPE_BSTAT_STATE b 1).setLb b fun x => { x with kernel := k, mask := m })
  | _ => s

/-- The grid stops once neither condition holds; stops and pending words of the group complete (R113,
R133). -/
def gridCheck (g : Nat) (s : State) : State :=
  if (s.lg g).grid && !s.gridWanted g then
    let s := s.setLg g fun x => { x with grid := false }
    let s := applyPool g s
    s.each 64 fun b s => s.when (s.f Fl.LPE_BATCH_GROUP b == g) (finishStop b)
  else s

/-- An allocation period starts: grids begin, and groups enabled since the last start may run their
batches (R113). -/
def gridStart (s : State) : State :=
  s.each 8 fun g s =>
    if s.gridWanted g && (g < 4 || s.b Fl.LPE_TAKE_ACTIVE || s.laneNames g) then
      s.setLg g fun x => { x with grid := true, armed := false,
                                  period := if x.grid then x.period else s.effPeriod g }
    else s

/-! ### Configuration writes (R112, R116, R117, R130 to R133) -/

/-- Applies a batch write that passed its checks (R131 to R133). -/
def batchAccept (b : Nat) (v : Word) (s : State) : State :=
  let was := s.b Fl.LPE_BATCH_EN b
  let st := s.f Fl.LPE_BSTAT_STATE b
  let s := s.setReg R.LPE_BATCH b (v &&& R.LPE_BATCH.rw)
  let en := s.b Fl.LPE_BATCH_EN b
  let m := s.f Fl.LPE_BATCH_MASK b
  let k := s.f Fl.LPE_BATCH_KERNEL b
  let grid := (s.lg (s.f Fl.LPE_BATCH_GROUP b)).grid
  let s :=
    if en && !was then
      if st == 2 then s.setF Fl.LPE_BSTAT_STATE b 3
      else initSlots (maskSlots b m)
        ((s.setF Fl.LPE_BSTAT_STATE b 1).setLb b fun x => { x with kernel := k, mask := m })
    else if !en && was then
      s.setF Fl.LPE_BSTAT_STATE b (if grid && st != 0 then 2 else 0)
    else s
  showLoad s

/-- A write of LPE_BATCH[b]: the kernel slot is checked, then the group, then admission; a write that
fails takes no effect (R117, R130). -/
def batchWrite (b : Nat) (v : Word) (s : State) : State :=
  if 64 ≤ b then s else
  let new := s.setReg R.LPE_BATCH b (v &&& R.LPE_BATCH.rw)
  let k := new.f Fl.LPE_BATCH_KERNEL b
  let g := new.f Fl.LPE_BATCH_GROUP b
  let on := new.b Fl.LPE_BATCH_EN b
  let fresh := on && (!s.b Fl.LPE_BATCH_EN b || k != s.f Fl.LPE_BATCH_KERNEL b)
  let chk := if fresh then s.kernelCheck k else 0
  if chk != 0 then batchRefuse b chk s
  else if (b < 32) != (g < 4) then batchRefuse b 3 s
  else if on && !new.loadOk then batchRefuse b 3 s
  else if on && !new.launchOk then batchRefuse b 4 s
  else batchAccept b v s

/-- A kernel change of several batches passes the checks (R130, R208). -/
def State.kernelsFit (s : State) (bs : List Nat) (k : Nat) : Bool :=
  let new := s.eachOf bs fun b s => s.setF Fl.LPE_BATCH_KERNEL b k
  s.kernelCheck k == 0 && new.loadOk && new.launchOk

/-- Writes the KERNEL field of a batch whose change has been admitted. -/
def batchKernel (k b : Nat) (s : State) : State :=
  batchAccept b (withBits (s.reg R.LPE_BATCH b) 0 4 k) s

/-- Port power changes the mask bit of a cell (R226). -/
def laneMask (slot : Nat) (on : Bool) (s : State) : State :=
  s.setFBit Fl.LPE_BATCH_MASK (slot / 16) (slot % 16) on

/-- A write that fails admission (R117). -/
def admitFail (s : State) : State := lpeCause 1 s

/-- A write of LPE_GROUP[g]: PERIOD in range and R116, or no effect; a disabled group's grid stops with
its lanes (R112, R113, R117, R152). -/
def groupWrite (g : Nat) (v : Word) (s : State) : State :=
  if 8 ≤ g then s else
  let was := s.b Fl.LPE_GROUP_EN g
  let new := s.setReg R.LPE_GROUP g (withBits (v &&& R.LPE_GROUP.rw) 16 2 (bitsOf (s.reg R.LPE_GROUP g) 16 2))
  let p := new.f Fl.LPE_GROUP_PERIOD g
  let en := new.b Fl.LPE_GROUP_EN g
  if p < 2000 || 20000 < p then admitFail s
  else if en && !new.loadOk then admitFail s
  else
    let s := new.when (en && !was) fun s => s.setLg g fun x => { x with armed := true }
    showLoad (gridCheck g s)

/-- A write of LPE_LAUNCH (R117). -/
def launchWrite (v : Nat) (s : State) : State :=
  let new := s.setF Fl.LPE_LAUNCH_OFFSET 0 v
  if v < 512 && new.launchOk then new else admitFail s

/-- A write of LPE_CELLINIT (R131). -/
def cellInit (slot : Nat) (s : State) : State := if slot < 1024 then initSlots [slot] s else s

/-! ### Injection and capture (R156 to R160) -/

/-- The node is an instruction of the batch's kernel that writes a lane register (R156). -/
def State.nodeWrites (s : State) (b node : Nat) : Bool :=
  let k := s.f Fl.LPE_BATCH_KERNEL b
  1 ≤ node && node ≤ s.kernelLen k &&
    ((vecDecode (s.kernelWord k node)).bind VecOp.dest).isSome

/-- ARM is set: the injector waits for the batch's next tick, or refuses (R157, R158). -/
def injectorArm (s : State) : State :=
  let b := s.f Fl.LPE_INJCTL_BATCH
  let s := s.setB Fl.LPE_INJCTL_ARM 0 true
  if s.batchOn b && s.nodeWrites b (s.f Fl.LPE_INJNODE_NODE) && s.f Fl.LPE_INJCTL_WAVE != 3 then
    { s with lpe.inj := { s.lpe.inj with armed := true, stopping := false } }
  else s.setB Fl.LPE_INJCTL_ERR 0 true

/-- ARM is cleared: injection stops at the next tick (R157). -/
def injectorDisarm (s : State) : State :=
  let s := s.setB Fl.LPE_INJCTL_ARM 0 false
  { s with lpe.inj := { s.lpe.inj with armed := false, stopping := s.b Fl.LPE_INJCTL_RUN } }

/-- A write of LPE_INJCTL. -/
def injWrite (v : Word) (s : State) : State :=
  let was := s.b Fl.LPE_INJCTL_ARM
  let err := s.b Fl.LPE_INJCTL_ERR && !bitOf v.toNat 2
  let run := s.b Fl.LPE_INJCTL_RUN
  let s := s.setReg R.LPE_INJCTL 0 (withBits (withBits (v &&& R.LPE_INJCTL.rw) 1 1 (b2n run)) 2 1 (b2n err))
  let arm := s.b Fl.LPE_INJCTL_ARM
  if arm && !was then injectorArm s else if !arm && was then injectorDisarm s else s

/-- The injector at a tick of its batch's group (R157). -/
def injectorTick (s : State) : State :=
  if s.lpe.inj.stopping then
    { s.setB Fl.LPE_INJCTL_RUN 0 false with lpe.inj := { s.lpe.inj with stopping := false } }
  else if s.lpe.inj.armed then
    let i : Injector := { lfsr := 2 ^ (s.f Fl.LPE_INJP0_P0 % 32) - 1 }
    let s := s.setB Fl.LPE_INJCTL_RUN 0 true
    let sync := s.b Fl.LPE_CAPCTL_SYNC && s.lpe.cap.armed
    { s with lpe.inj := i, lpe.cap := { s.lpe.cap with started := s.lpe.cap.started || sync } }
  else s

/-- The other tap of the polynomial of an order (R158). -/
def prbsTap : Nat → Option Nat
  | 7 => some 6 | 9 => some 5 | 11 => some 9 | 15 => some 14 | 23 => some 18 | 31 => some 28 | _ => none

/-- The test signal of the present sample (R158). An ORDER outside the list and the exact sine are free
values, the sine within its bound. -/
def injSignal (s : State) : Int × State :=
  let a : Int := s.f Fl.LPE_INJAMP_A
  let i := s.lpe.inj
  if s.f Fl.LPE_INJCTL_WAVE == 0 then
    let order := s.f Fl.LPE_INJP0_P0 % 32
    match prbsTap order with
    | some _ => (if bitOf i.lfsr (order - 1) then a else -a, s)
    | none => let d := s.draw; (if bitOf d.1 0 then a else -a, d.2)
  else
    let d := s.draw
    let top : Int := a + 4 + (s.f Fl.LPE_INJAMP_A / 2 ^ 16 : Nat)
    (clampInt (-top) top (signedOf 25 d.1), d.2)

/-- The injector moves on by one sample (R158). -/
def injAdvance (s : State) : State :=
  let i := s.lpe.inj
  let p0 := s.f Fl.LPE_INJP0_P0
  let p1 := s.f Fl.LPE_INJP1_P1
  let len := s.f Fl.LPE_INJLEN_LEN
  let order := p0 % 32
  let hold := p0 / 256 % 256
  let lfsr := if (i.n + 1) % (hold + 1) = 0 then
      match prbsTap order with
      | some t => (2 * i.lfsr + b2n (bitOf i.lfsr (order - 1) != bitOf i.lfsr (t - 1))) % 2 ^ order
      | none => i.lfsr
    else i.lfsr
  let inc : Int := if s.f Fl.LPE_INJCTL_WAVE == 2 then
      p0 + truncDiv (((p1 : Int) - p0) * i.n) len else p0
  { s with lpe.inj := { i with n := i.n + 1, lfsr := lfsr, phase := unsignedOf 32 (i.phase + inc) } }

/-- Injects into the lanes of LANEMASK after the node's instruction has written its lane register. -/
def injectAt (node : Nat) (op : VecOp) (sig : Int) (s : State) : State :=
  if node != s.f Fl.LPE_INJNODE_NODE then s else
  match op.dest with
  | none => s
  | some vd =>
    s.each 16 fun i s =>
      if bitOf (s.f Fl.LPE_INJCTL_LANEMASK) i && bitOf s.lpe.curMask i && vd != 0 then
        let r := sat24 ((s.lane i).reg vd + sig)
        ({ s with lpe.lanes := s.lpe.lanes.setIfInBounds i ((s.lane i).setReg vd r.1) }).when r.2 (satFlag i)
      else s

/-- Channels of the capture unit. -/
def State.nch (s : State) : Nat := s.f Fl.LPE_CAPCTL_NCH + 1

/-- Notes the value of every channel whose node is the instruction just executed (R159). -/
def captureNode (node : Nat) (op : VecOp) (s : State) : State :=
  s.each s.nch fun c s =>
    if s.f Fl.LPE_CAPCH_NODE c == node then
      match op.dest with
      | none => s
      | some vd =>
        let v := (s.lane (s.f Fl.LPE_CAPCH_LANE c)).reg vd
        { s with lpe.cap := { s.lpe.cap with vals := s.lpe.cap.vals.setIfInBounds c (some v) } }
    else s

/-- The value of a channel at the end of a sample: an input word from 0xF0 on, an output word from 0xF8 on,
else what the instruction wrote; a code that names no node of the kernel is a free value (R159). -/
def captureValue (c : Nat) (s : State) : Int × State :=
  let node := s.f Fl.LPE_CAPCH_NODE c
  let lane := s.f Fl.LPE_CAPCH_LANE c
  if 0xF0 ≤ node && node < 0xF8 then
    ((s.lane lane).ins.toList.getD (node - 0xF0) 0, s)
  else if 0xF8 ≤ node && node < 0xFC then (s.cellOut (16 * s.lpe.cur + lane) (node - 0xF8), s)
  else match s.lpe.cap.vals.toList.getD c none with
    | some v => (v, s)
    | none => let d := s.draw; (signedOf 24 d.1, d.2)

/-- Records one entry at NEXT (R159). -/
def captureEntry (v : Int) (s : State) : State :=
  let i := s.f Fl.LPE_CAPSTAT_NEXT
  let w := BitVec.ofNat 32 (unsignedOf 24 v + 2 ^ 24 * (s.lpe.cap.n % 256))
  ({ s with lpe.cap := { s.lpe.cap with buf := cellsPut (0 : Word) s.lpe.cap.buf i w } }).setF
    Fl.LPE_CAPSTAT_NEXT 0 (i + 1)

/-- Entries of a fill: whole samples of every channel (R159). -/
def State.fillEnd (s : State) : Nat := 16384 / s.nch * s.nch

/-- Records one sample of every channel; at the end of a fill ring mode goes on from entry 0, single mode
is full (R159, R160). -/
def captureSample (s : State) : State :=
  let s := s.each s.nch fun c s => let r := captureValue c s; captureEntry r.1 r.2
  let n := s.lpe.cap.n + 1
  let s := { s with lpe.cap := { s.lpe.cap with n := n, vals := Vector.replicate 4 none } }
  if n * s.nch % s.fillEnd = 0 then
    if s.b Fl.LPE_CAPCTL_MODE then s.setF Fl.LPE_CAPSTAT_NEXT 0 0 |>.setB Fl.LPE_CAPSTAT_WRAPPED 0 true
    else { s with lpe.cap := { s.lpe.cap with full := true, armed := false } }
  else s

/-- ARM of the capture unit is set (R160). -/
def captureArm (s : State) : State :=
  let s := (s.setB Fl.LPE_CAPCTL_ARM 0 true).setF Fl.LPE_CAPSTAT_NEXT 0 0
  let sync := s.b Fl.LPE_CAPCTL_SYNC
  { s with lpe.cap := { s.lpe.cap with armed := true, full := false, n := 0, started := !sync,
                                       vals := Vector.replicate 4 none } }

/-- A write of LPE_CAPCTL. -/
def capWrite (v : Word) (s : State) : State :=
  let was := s.b Fl.LPE_CAPCTL_ARM
  let s := s.setReg R.LPE_CAPCTL 0 (v &&& R.LPE_CAPCTL.rw)
  let arm := s.b Fl.LPE_CAPCTL_ARM
  if arm && !was then captureArm s
  else if !arm && was then { s with lpe.cap := { s.lpe.cap with armed := false } } else s

/-! ### A sample of a batch (R114, R115, R125, R131, R154) -/

/-- The lane as a sample begins: F clear, IN, coefficients and init flag of the window; what the lane
registers and accumulators hold is open (R125). -/
def freshLane (r : ReadyBatch) (i base : Nat) : LaneCtx :=
  let free (w j : Nat) : Int := signedOf w (Config.freeValue (base + 32 * i + j))
  { v := Vector.ofFn fun j : Fin 16 => if j.val = 0 then 0 else free 24 j.val
    ac := Vector.ofFn fun j : Fin 4 => free 56 (16 + j.val)
    flag := false
    init := bitOf r.init i
    ins := r.ins.getD i (Vector.replicate 8 0)
    coef := r.coef.getD i (Vector.replicate 16 0)
    fe := none }

/-- The sample starts: the lanes take up the batch, the outputs of its cells are cleared (R125, R134). -/
def sampleStart (r : ReadyBatch) (s : State) : State :=
  let base := s.drawn
  let s := { s with drawn := base + 512, lpe.cur := r.batch, lpe.curMask := r.mask,
                    lpe.lanes := Vector.ofFn fun i : Fin 16 => freshLane r i.val base }
  s.eachOf (maskSlots r.batch r.mask) fun c s => s.each 4 fun k s => setCellOut c k 0 s

/-- The instructions of the kernel in order, with injection and capture at their nodes. -/
def runOps (inject : Bool) (sig : Int) (capture : Bool) : Nat → List VecOp → State → State
  | _, [], s => s
  | n, op :: ops, s =>
    let s := vecAll op s
    let s := s.when inject (injectAt n op sig)
    let s := s.when capture (captureNode n op)
    runOps inject sig capture (n + 1) ops s

/-- Supervision of one lane: the count of consecutive samples above the limit (R154). -/
def superviseLane (b i : Nat) (s : State) : State :=
  let c := 16 * b + i
  let exceeded := match (s.lane i).fe with
    | none => false
    | some m => decide (s.f Fl.LPE_FECFG_LIMIT b < m.natAbs / 2 ^ 7)
  let n := cellsGet 0 s.lpe.feCount c
  let s := s.setF Fl.LPE_FEST_OVER b
    (if exceeded then setBit (s.f Fl.LPE_FEST_OVER b) i else clearBit (s.f Fl.LPE_FEST_OVER b) i)
  let cnt := if exceeded then n + 1 else 0
  let acted := if exceeded then s.lpe.feActed else s.lpe.feActed.filter (· != c)
  { s with lpe.feCount := cellsPut 0 s.lpe.feCount c cnt, lpe.feActed := acted }

/-- OUT1 and OUT2 of members of an interleaved group are port power's (R201). -/
def overwrite (r : ReadyBatch) (s : State) : State :=
  s.each 16 fun i s =>
    match r.exceeded.getD i none with
    | none => s
    | some e => if bitOf r.mask i then setCellOut (16 * r.batch + i) 2 e.2 (setCellOut (16 * r.batch + i) 1 e.1 s) else s

/-- The outputs of a batch wait for their launch; those of an overrun are discarded (R114, R161). -/
def keepResults (r : ReadyBatch) (s : State) : State :=
  if r.late then s else
  let outs := (maskSlots r.batch r.mask).map fun c => (c, s.cellOut c 0, s.cellOut c 1, s.cellOut c 2)
  { s with lpe.results := s.lpe.results ++ [⟨r.batch, r.group, r.window, outs⟩] }

/-- One batch runs to its end (R114). -/
def runBatch (r : ReadyBatch) (s : State) : State :=
  let s := sampleStart r s
  let inject := s.b Fl.LPE_INJCTL_RUN && s.f Fl.LPE_INJCTL_BATCH == r.batch &&
    decide (s.lpe.inj.n < s.f Fl.LPE_INJLEN_LEN)
  let d := if inject then injSignal s else (0, s)
  let s := d.2
  let capture := s.lpe.cap.armed && s.lpe.cap.started && s.f Fl.LPE_CAPCTL_BATCH == r.batch
  let s := runOps inject d.1 capture 1 (s.kernelOps r.kernel) s
  let s := s.when inject injAdvance
  let s := overwrite r s
  let s := s.when capture captureSample
  let s := s.when (s.b Fl.LPE_FECFG_EN r.batch) fun s =>
    s.each 16 fun i s => s.when (bitOf r.mask i) (superviseLane r.batch i)
  keepResults r s

/-- The ready batch whose window ends first, ties in ascending batch number (R115). -/
def nextReady (l : List ReadyBatch) : Option ReadyBatch :=
  l.foldl (fun best r => match best with
    | none => some r
    | some x => if r.due < x.due || (r.due == x.due && r.batch < x.batch) then some r else best) none

/-- The engine runs the next ready batch. -/
def batchRun (s : State) : State :=
  match nextReady s.lpe.ready with
  | none => s
  | some r => runBatch r { s with lpe.ready := s.lpe.ready.erase r }

/-! ### The tick (R112 to R114, R132, R133, R138) -/

/-- OUT1 and OUT2 that port power writes for a cell in this window (R201). -/
def State.c12 (s : State) (c : Nat) : Option (Int × Int) :=
  let g := s.f Fl.PRT_CELL_GROUP c
  if s.portCell c && s.b Fl.PRT_GCFG_ILEN g then
    some (signedOf 24 (s.f Fl.PRT_CELL_C1 c * 2 ^ 12), signedOf 24 (s.f Fl.PRT_CELL_C2 c * 2 ^ 17))
  else none

/-- Kernel and mask as written come into force, with the init flags they bring (R131, R132). -/
def takeBatch (b : Nat) (s : State) : State :=
  let x := s.lb b
  let k := s.f Fl.LPE_BATCH_KERNEL b
  let m := s.f Fl.LPE_BATCH_MASK b
  let fresh := (List.range 16).filter fun i => bitOf m i && (k != x.kernel || !bitOf x.mask i)
  initSlots (fresh.map fun i => 16 * b + i) (s.setLb b fun _ => { kernel := k, mask := m })

/-- A batch becomes ready with the inputs, references and coefficients of the tick (R114). -/
def makeReady (g b : Nat) (s : State) : State :=
  let x := s.lb b
  let bank := s.f Fl.LPE_GROUP_BANK g
  let slots := (List.range 16).map fun i => 16 * b + i
  let init := (List.range 16).foldl (fun m i => if s.lpe.initPend.contains (16 * b + i) && bitOf x.mask i
    then setBit m i else m) 0
  let r : ReadyBatch :=
    { batch := b, group := g, window := (s.lg g).ticks
      due := s.tick + (s.lg g).period + s.f Fl.LPE_LAUNCH_OFFSET
      kernel := x.kernel, mask := x.mask, init := init
      ins := slots.map fun c => Vector.ofFn fun k : Fin 8 => s.cellIn c k.val
      coef := slots.map fun c => Vector.ofFn fun w : Fin 16 => s.coefAt bank c w.val
      exceeded := slots.map s.c12 }
  { s with lpe.ready := s.lpe.ready ++ [r],
           lpe.initPend := s.lpe.initPend.filter fun c => !(c / 16 == b && bitOf x.mask (c % 16)) }

/-- One batch of the group at its tick. -/
def batchTick (g b : Nat) (s : State) : State :=
  if s.f Fl.LPE_BATCH_GROUP b != g then s else
  let s := finishStop b s
  if s.batchOn b && s.f Fl.LPE_BSTAT_STATE b == 1 then
    let s := takeBatch b s
    let s := s.when (s.f Fl.LPE_INJCTL_BATCH == b) injectorTick
    s.when (s.groupRuns g && !(s.lg g).armed) (makeReady g b)
  else s

/-- Pending coefficient words of the group, and its period, come into force (R112, R138). -/
def tickBegin (g : Nat) (s : State) : State :=
  applyPool g (s.setLg g fun x => { x with period := s.effPeriod g })

/-- The batches of the group become ready. -/
def tickEnd (g : Nat) (s : State) : State :=
  (s.each 64 (batchTick g)).setLg g fun x => { x with ticks := x.ticks + 1 }

/-! ### Launch (R114, R161) -/

/-- A batch not run by its launch instant has overrun (R161). -/
def overrun (r : ReadyBatch) (s : State) : State :=
  lpeCause 0 (s.setB Fl.LPE_BSTAT_OVR r.batch true)

/-- The outputs of the last window but one of the group leave for the cell lanes (R114). -/
def handOutputs (g : Nat) (s : State) : State :=
  let t := (s.lg g).ticks
  let go (group window : Nat) : Bool := group == g && window + 2 ≤ t
  let out := s.lpe.results.filter fun r => go r.group r.window
  let late := s.lpe.ready.filter fun r => go r.group r.window && !r.late
  let s := s.eachOf late overrun
  let stay := s.lpe.handed.filter fun e => s.slotGroup e.1 != g
  { s with lpe.handed := stay ++ (out.map (·.outs)).flatten,
           lpe.results := s.lpe.results.filter fun r => !go r.group r.window,
           lpe.ready := s.lpe.ready.map fun r => if go r.group r.window then { r with late := true } else r }

end Sys2Proof.Machine
end

