-- ==== Sys2Proof/Machine/Lsw.lean ====
section
/-! DEFINITION. Protected channels CH0 to CH15 (R482 to R499). -/

namespace Sys2Proof.Machine

/-- Channel `n` beside its registers. -/
def State.ch (s : State) (n : Nat) : Channel := s.lsw.chan.toList.getD n {}

/-- Changes channel `n` beside its registers. -/
def State.setCh (s : State) (n : Nat) (f : Channel → Channel) : State :=
  { s with lsw.chan := s.lsw.chan.setIfInBounds n (f (s.ch n)) }

/-- A cause of the LSW block (R503). -/
def lswCause (j : Nat) (s : State) : State :=
  s.causeOn Fl.LSW_STAT_CAUSE Fl.LSW_CTL_EVEN 0 j
    (match j with | 0 => 108 | 1 => 108 | 3 => 108 | 2 => 109 | 4 => 110 | 5 => 110 | _ => 111)

/-- No supply condition of R495 holds. -/
def State.supplyOk (s : State) : Bool :=
  !(s.b Fl.LSW_SUP_UV || s.b Fl.LSW_SUP_OV || s.b Fl.LSW_SUP_REV || s.b Fl.LSW_SUP_GND)

/-- At least one request of R484 is active. -/
def State.chWanted (s : State) (n : Nat) : Bool :=
  s.b Fl.LSW_CHSTAT_PROG n || s.b Fl.LSW_CHSTAT_FORCE n || s.b Fl.LSW_CHSTAT_BLEED n

/-- TINRUSH as it acts, ms (R486). -/
def State.tInrush (s : State) (n : Nat) : Nat := min (s.f Fl.LSW_CHCFG_TINRUSH n) 1000

/-- MODE, FREQ and DUTY as written come into use (R485). -/
def chTakeForm (n : Nat) (s : State) : State :=
  s.setCh n fun c => { c with mode := s.f Fl.LSW_CHCFG_MODE n, freq := s.f Fl.LSW_CHPWM_FREQ n,
                              duty := s.f Fl.LSW_CHPWM_DUTY n }

/-- The transition from off to on: a new inrush window opens (R486). -/
def chTurnOn (n : Nat) (s : State) : State :=
  let s := chTakeForm n s
  let k := s.lsw.switchOns + 1
  let w := s.tInrush n != 0
  ({ s with lsw.switchOns := k }.setCh n fun c => { c with inrush := w, onOrder := k })
    |>.setF Fl.LSW_CHSTAT_STATE n (if w then 2 else 1)

/-- The turn-off: the output clamps until it rises above −1 V (R494). -/
def chTurnOff (n : Nat) (s : State) : State :=
  (s.setCh n fun c => { c with inrush := false, clamping := true, heldOn := false })
    |>.setF Fl.LSW_CHSTAT_STATE n 3

/-- Brings a channel to what its requests and the supply ask for (R484, R494, R495). -/
def chUpdate (n : Nat) (s : State) : State :=
  let want := s.chWanted n && s.supplyOk
  match s.f Fl.LSW_CHSTAT_STATE n with
  | 0 => s.when want (chTurnOn n)
  | 1 => s.when (!want) (chTurnOff n)
  | 2 => s.when (!want) (chTurnOff n)
  | 3 => s.when want (fun s => s.setF Fl.LSW_CHSTAT_STATE n 6)
  | 6 => s.when (!want) (fun s => s.setF Fl.LSW_CHSTAT_STATE n 3)
  | _ => s

/-- Latches a channel off with a fault code (R487 to R490, R495). -/
def chLatch (n flt : Nat) (s : State) : State :=
  let st := s.f Fl.LSW_CHSTAT_STATE n
  let clamp := st == 1 || st == 2 || st == 3 || st == 6 || (st == 5 && (s.ch n).heldOn)
  (s.setCh n fun c => { c with inrush := false, clamping := clamp || c.clamping, heldOn := false })
    |>.setF Fl.LSW_CHSTAT_STATE n 4 |>.setF Fl.LSW_CHSTAT_FLT n flt |>.setF Fl.LSW_CHI_I n 0xFFFF

/-- The output of a channel carries current: on, held on, or clamping after a turn-off. -/
def State.chLive (s : State) (n : Nat) : Bool :=
  let st := s.f Fl.LSW_CHSTAT_STATE n
  st == 1 || st == 2 || st == 3 || st == 6 || (st == 5 && (s.ch n).heldOn)

/-- The present trip threshold, units of 10 mA (R486). -/
def State.chThreshold (s : State) (n : Nat) : Nat :=
  let t := s.f Fl.LSW_CHLIM_ITRIP n
  if (s.ch n).inrush then min (3 * t) (if n < 12 then 2400 else 4800) else t

/-- Sets FORCE or BLEED of a channel (R484). -/
def chRequest (fl : Fld) (n : Nat) (v : Bool) (s : State) : State :=
  if n < 16 then chUpdate n (s.setB fl n v) else s

/-- Command ON (R484, R489, R498). -/
def channelOn (n : Nat) (s : State) : State :=
  match s.f Fl.LSW_CHSTAT_STATE n with
  | 4 => lswCause 7 s
  | 5 =>
    let s := s.setB Fl.LSW_CHSTAT_PROG n true
    if (s.ch n).heldOn then
      (s.setF Fl.LSW_CHSTAT_STATE n (if (s.ch n).inrush then 2 else 1)).setCh n
        (fun c => { c with heldOn := false })
    else chUpdate n (s.setF Fl.LSW_CHSTAT_STATE n 0)
  | _ => chUpdate n (s.setB Fl.LSW_CHSTAT_PROG n true)

/-- The end of a hold: a held output turns off, or follows a request active by then (R498). -/
def chEndHold (n : Nat) (s : State) : State :=
  chUpdate n (if (s.ch n).heldOn then chTurnOff n s else s.setF Fl.LSW_CHSTAT_STATE n 0)

/-- Command OFF (R484, R498). -/
def channelOff (n : Nat) (s : State) : State :=
  let s := s.setB Fl.LSW_CHSTAT_PROG n false
  if s.f Fl.LSW_CHSTAT_STATE n == 5 then chEndHold n s else chUpdate n s

/-- Command CLEAR: accepted once the clamp has ended and, after FLT = 2, once the junction reads below
150 °C (R489). -/
def channelClear (n : Nat) (s : State) : State :=
  if s.f Fl.LSW_CHSTAT_STATE n == 4 && !(s.ch n).clamping &&
      (s.f Fl.LSW_CHSTAT_FLT n != 2 || decide (s.fi ⟨R.LSW_CHI, 16, 16⟩ n < 15000)) then
    chUpdate n (s.setF Fl.LSW_CHSTAT_FLT n 0 |>.setB Fl.LSW_CHSTAT_PROG n false
      |>.setF Fl.LSW_CHI_I n 0 |>.setF Fl.LSW_CHSTAT_STATE n 0)
  else s

/-- The channel the aggregate rule latches: the latest window among those in inrush, else the one
switched on latest; ties go to the higher number (R490). -/
def aggregateChoice (s : State) : Option Nat :=
  let on := (List.range 16).filter (fun n =>
    let st := s.f Fl.LSW_CHSTAT_STATE n
    st == 1 || st == 2 || (st == 5 && (s.ch n).heldOn))
  let inr := on.filter (fun n => (s.ch n).inrush)
  let pool := if inr.isEmpty then on else inr
  pool.foldl (fun best n =>
    match best with
    | none => some n
    | some m => if (s.ch m).onOrder ≤ (s.ch n).onOrder then some n else some m) none

/-- Every channel off and every request cleared, on entry to Stow (R497). -/
def lswAllOff (s : State) : State :=
  s.each 16 fun n s =>
    chUpdate n (s.setB Fl.LSW_CHSTAT_PROG n false |>.setB Fl.LSW_CHSTAT_FORCE n false
      |>.setB Fl.LSW_CHSTAT_BLEED n false
      |> fun s => s.when (s.f Fl.LSW_CHSTAT_STATE n == 5) (chEndHold n))

/-- The hold of a warm reset (R498, R499). The registers of the block take their reset values beside
this; CHSTAT is set here from the channel before the reset. -/
def lswWarm (old s : State) : State :=
  s.each 16 fun n s =>
    let st := old.f Fl.LSW_CHSTAT_STATE n
    let c := old.ch n
    let on := st == 1 || st == 2 || (st == 5 && c.heldOn)
    let s := s.setF Fl.LSW_CHCFG_MODE n c.mode |>.setF Fl.LSW_CHPWM_FREQ n c.freq
      |>.setF Fl.LSW_CHPWM_DUTY n c.duty
    if st == 4 then
      s.setF Fl.LSW_CHSTAT_STATE n 4 |>.setF Fl.LSW_CHSTAT_FLT n (old.f Fl.LSW_CHSTAT_FLT n)
        |>.setF Fl.LSW_CHI_I n 0xFFFF
    else if old.b Fl.LSW_CHCFG_REL n then
      if on then chTurnOff n s else s.setF Fl.LSW_CHSTAT_STATE n (if c.clamping then 3 else 0)
    else (s.setF Fl.LSW_CHSTAT_STATE n 5).setCh n fun c => { c with heldOn := on }

/-- The channel current sum, units of 10 mA (R490). -/
def chSum (s : State) : Nat :=
  (List.range 16).foldl (fun a n =>
    if s.f Fl.LSW_CHI_I n == 0xFFFF then a else a + s.f Fl.LSW_CHI_I n) 0

end Sys2Proof.Machine
end

