-- ==== Sys2Proof/Machine/Shroud.lean ====
section
/-! DEFINITION. The shroud and the trip fabric: coils, contactors, demands, the release rule, locks,
insulation, cable temperature, safe motion, the fabric and the safe state (R415 to R454, R500 to R502). -/

namespace Sys2Proof.Machine

/-! ### Access -/

/-- Port `p` of the shroud beside its record. -/
def State.sp (s : State) (p : Nat) : SfyPort := s.sfy.port.toList.getD p {}

/-- Changes port `p` of the shroud beside its record. -/
def State.setSp (s : State) (p : Nat) (f : SfyPort → SfyPort) : State :=
  { s with sfy.port := s.sfy.port.setIfInBounds p (f (s.sp p)) }

/-- Axis `a` beside its record. -/
def State.axis (s : State) (a : Nat) : Axis := s.sfy.axis.toList.getD a {}

/-- A cause of the SFY block: bit `j` raises event 96 + j (R454). -/
def sfyCause (j : Nat) (s : State) : State := s.causeOn Fl.SFY_STAT_CAUSE Fl.SFY_CTL_EVEN 0 j (96 + j)

/-- System clocks in `ms` milliseconds (R25). -/
def clocksOfMs (ms : Nat) : Nat := ms * 200000

/-- I_FT of own port `p`, mA, or the guest group's current for a guest port (R427, R448). -/
def State.portCurrent (s : State) (p : Nat) : Int :=
  if p < 24 then signedOf 32 (s.f Fl.MTR_FTI_I_FT p)
  else ((s.prt.group.toList.getD (16 + p) {}).sumI)

/-- Vehicle-side V_FT of own port `p`, mV (R339). -/
def State.portVolt (s : State) (p : Nat) : Int := signedOf 32 (s.f Fl.MTR_FTV_V_FT p)

/-- Coil output of a pole; 0x3F means none. -/
def State.poleCoil (s : State) (p : Nat) : Pole → Nat
  | .pos => s.f Fl.SFY_PCO_POSCO p
  | .neg => s.f Fl.SFY_PCO_NEGCO p

/-- Feedback input of a pole's mirror contact; 0x7F means none. -/
def State.poleFb (s : State) (p : Nat) : Pole → Nat
  | .pos => s.f Fl.SFY_PFB_POSFB p
  | .neg => s.f Fl.SFY_PFB_NEGFB p

/-- The field that shows a pole commanded closed. -/
def poleCmd : Pole → Fld
  | .pos => Fl.SFY_PSTAT_POSCMD
  | .neg => Fl.SFY_PSTAT_NEGCMD

/-- The field that shows a pole closed by its mirror. -/
def poleClosed : Pole → Fld
  | .pos => Fl.SFY_PSTAT_POSCL
  | .neg => Fl.SFY_PSTAT_NEGCL

/-- The weld fault of a pole. -/
def poleWeld : Pole → Fld
  | .pos => Fl.SFY_PSTAT_WELDP
  | .neg => Fl.SFY_PSTAT_WELDN

/-! ### Trip fabric (R442 to R446) -/

/-- A target is tripped; its TRIPPED outlives a change of its configuration (R444). -/
def State.tripped (s : State) (t : Nat) : Bool := s.b Fl.SFY_TGT3_TRIPPED t

/-- The fabric or the safe state pulls lane trip line `k` (0 to 15 LTH, 16 to 31 LTG) low; a guard line
only while its lane serves in takeover, unless ALWAYS (R418, R446). -/
def State.pulled (s : State) (k : Nat) : Bool :=
  s.b Fl.SFY_STAT_SAFE ||
  (s.tripped (32 + k) && (k < 16 || s.b Fl.RNG_STAT_GUEST || s.b Fl.SFY_TGT3_ALWAYS (32 + k)))

/-- Whether a source is active, after polarity and mask (R442, R446). -/
def State.sourceActive (s : State) (i : Nat) : Bool :=
  if i < 64 then
    (bitOf s.sfy.levels i != s.b Fl.SFY_SRC_POL i) && !(32 ≤ i && s.pulled (i - 32))
  else s.b Fl.SFY_SRC_SET i != s.b Fl.SFY_SRC_POL i

/-- Shows a source in its register. -/
def showSource (i : Nat) (s : State) : State :=
  let a := s.sourceActive i
  (s.setB Fl.SFY_SRC_ACT i a).when a (fun s => s.setB Fl.SFY_SRC_SEEN i true)

/-- Some source in a target's mask is active. -/
def State.maskActive (s : State) (t : Nat) : Bool :=
  (List.range 72).any fun i =>
    bitOf (if i < 32 then s.f Fl.SFY_TGT0_MASK0 t else if i < 64 then s.f Fl.SFY_TGT1_MASK1 t
      else s.f Fl.SFY_TGT2_MASK2 t) (i % 32) && s.b Fl.SFY_SRC_ACT i

/-- Evaluates one target: it trips with a source, and returns with its sources unless it latches
(R442, R444). -/
def evalTarget (t : Nat) (s : State) : State :=
  if !s.b Fl.SFY_TGT3_EN t then s
  else if s.maskActive t then
    if s.b Fl.SFY_TGT3_TRIPPED t then s else sfyCause 7 (s.setB Fl.SFY_TGT3_TRIPPED t true)
  else if s.b Fl.SFY_TGT3_LATCH t then s else s.setB Fl.SFY_TGT3_TRIPPED t false

/-- Trips the targets whose sources are active; releases none, as a configuration change must not (R444). -/
def tripOnly (s : State) : State :=
  s.each 64 fun t s =>
    if s.b Fl.SFY_TGT3_EN t && s.maskActive t && !s.b Fl.SFY_TGT3_TRIPPED t
    then sfyCause 7 (s.setB Fl.SFY_TGT3_TRIPPED t true) else s

/-- Shows every lane line as a source again after targets have changed, and evaluates the targets with
the lines so masked or unmasked (R446). -/
def evalFabric (s : State) : State :=
  let s := s.each 64 evalTarget
  let s := s.each 32 (fun k => showSource (32 + k))
  s.each 64 evalTarget

/-- Sets the level of a source and evaluates the fabric. -/
def setSource (i : Nat) (high : Bool) (s : State) : State :=
  let s := if i < 64 then
      { s with sfy.levels := if high then setBit s.sfy.levels i else clearBit s.sfy.levels i }
    else s.setB Fl.SFY_SRC_SET i high
  evalFabric (showSource i s)

/-- The level trip output `n` drives: SAFE when tripped or in the safe state, the other level when not;
low until the shroud has loaded its configuration (R445). -/
def State.tripOutput (s : State) (n : Nat) : Bool :=
  if !s.sfy.running && !s.b Fl.SFY_STAT_SAFE then false
  else if s.tripped n || s.b Fl.SFY_STAT_SAFE then s.b Fl.SFY_TGT3_SAFE n
  else s.b Fl.SFY_TGT3_EN n && !s.b Fl.SFY_TGT3_SAFE n

/-! ### Coils (R500) -/

/-- Energises a coil output: pull-in starts. An output latched off for over-current stays off. -/
def coilOn (n : Nat) (s : State) : State :=
  if n < 48 && s.f Fl.SFY_COIL_FAULT n != 3 && !s.b Fl.SFY_STAT_SAFE && s.sfy.running then
    s.setB Fl.SFY_COIL_PULLIN n (!s.b Fl.SFY_COIL_ON n || s.b Fl.SFY_COIL_PULLIN n)
      |>.setB Fl.SFY_COIL_ON n true
  else s

/-- De-energises a coil output. -/
def coilOff (n : Nat) (s : State) : State :=
  if n < 48 then s.setB Fl.SFY_COIL_ON n false |>.setB Fl.SFY_COIL_PULLIN n false else s

/-! ### Reef request and emergency flag (R438) -/

/-- Zone `z` stops port `p`: own ports by bit, guest port h by bit h (R428). -/
def State.zoneStops (s : State) (z p : Nat) : Bool :=
  s.b Fl.SFY_ZONE0_EN z && bitOf (s.f Fl.SFY_ZONE0_PORTS z) (p % 24)

/-- A zone in the port's mask is in DEMAND or STOPPED (R431, R438). -/
def State.zoneHolds (s : State) (p : Nat) : Bool :=
  (List.range 5).any fun z => s.zoneStops z p && s.f Fl.SFY_ZONE1_STATE z != 0

/-- A fault that holds the reef request at 7 is latched (R426, R432). -/
def State.faultHolds (s : State) (p : Nat) : Bool :=
  s.b Fl.SFY_PSTAT_WELDP p || s.b Fl.SFY_PSTAT_WELDN p || s.b Fl.SFY_PSTAT_FAILCL p ||
  s.b Fl.SFY_PSTAT_DISCREP p || s.b Fl.SFY_PSTAT_TCUT p || s.b Fl.SFY_PSTAT_IMDF p

/-- Any fault is latched for the port. -/
def State.anyFault (s : State) (p : Nat) : Bool :=
  s.faultHolds p || s.b Fl.SFY_PSTAT_LOCKF p || s.b Fl.SFY_PSTAT_PBRK p

/-- The shroud's reef request for a port: the highest of its functions' levels (R438, R452). -/
def State.shroudReef (s : State) (p : Nat) : Nat :=
  if s.b Fl.SFY_STAT_SAFE || s.zoneHolds p || s.faultHolds p || (s.sp p).release.isSome then 7
  else
    max (if s.b Fl.SFY_PSTAT_PBRK p then 4 else 0)
      (if 24 ≤ p && s.b Fl.RNG_STAT_GUEST then s.f Fl.SFY_GUEST_GREEF else 0)

/-- The insulation monitor's FAULT contact is active. -/
def State.imdFault (s : State) (p : Nat) : Bool :=
  s.b Fl.SFY_PIMD_IMDEN p && s.b Fl.SFY_SRC_ACT (s.f Fl.SFY_PIMD_FAULTTI p)

/-- The insulation monitor's WARN contact is active. -/
def State.imdWarn (s : State) (p : Nat) : Bool :=
  s.b Fl.SFY_PIMD_IMDEN p && s.b Fl.SFY_SRC_ACT (s.f Fl.SFY_PIMD_WARNTI p)

/-- Isolation status: invalid without a monitor; valid while a pole stays commanded closed; fault while
the FAULT contact is active (R436). -/
def State.isoNow (s : State) (p : Nat) : Nat :=
  if !s.b Fl.SFY_PIMD_IMDEN p then 0 else
  match s.f Fl.SFY_PSTAT_ISO p with
  | 1 => if s.b Fl.SFY_PSTAT_POSCMD p || s.b Fl.SFY_PSTAT_NEGCMD p then 1 else 0
  | 3 => if s.imdFault p then 3 else 0
  | x => x

/-- Shows a port's reef request, emergency flag and isolation status. -/
def refreshPort (p : Nat) (s : State) : State :=
  s.setF Fl.SFY_PSTAT_SREEF p (s.shroudReef p) |>.setB Fl.SFY_PSTAT_ESD p (s.zoneHolds p)
    |>.setF Fl.SFY_PSTAT_ISO p (s.isoNow p)

/-! ### Demands and the release rule (R426, R427) -/

/-- A demand on a port: reef request 7 and a release with the given TREL; the shortest TREL applies.
A category 1 stop also asks port power to stop. -/
def demandPort (trel : Nat) (stop : Bool) (p : Nat) (s : State) : State :=
  let s := s.setSp p fun x => { x with release := some (match x.release with
    | none => trel | some t => min t trel) }
  let s := s.when stop (fun s => { s with sfy.stops := s.sfy.stops ++ [p] })
  refreshPort p s

/-- De-energises a port's pole coils. -/
def releasePoles (p : Nat) (s : State) : State :=
  let s := (coilOff (s.poleCoil p .pos) s) |> fun s => coilOff (s.poleCoil p .neg) s
  let s := s.setB Fl.SFY_PSTAT_POSCMD p false |>.setB Fl.SFY_PSTAT_NEGCMD p false
    |>.setB Fl.SFY_PSTAT_STANDBY p false
  refreshPort p (s.setSp p fun x => { x with release := none, holdFull := false })

/-- The release rule acts: at the first cycle with |current| below 5 A, or when TREL has passed. -/
def releaseDue (p : Nat) (expired : Bool) (s : State) : State :=
  if (s.sp p).release.isSome &&
      (expired || (!(s.sp p).holdFull && decide ((s.portCurrent p).natAbs < 5000)))
  then releasePoles p s else s

/-- The release rule on every port, own and served guests, with TREL = 2 ms; `dual` leaves out the
current condition of dual-fed ports when a buddy is in service (R417, R427). -/
def releaseAll (dual : Bool) (s : State) : State :=
  s.each 48 fun p s =>
    if s.b Fl.SFY_PSTAT_POSCMD p || s.b Fl.SFY_PSTAT_NEGCMD p then
      let hold := dual && s.b Fl.SFY_PCO_DUAL p && !s.b Fl.RNG_STAT_NOBUDDY && s.f Fl.RNG_STAT_BUDDY != 0
      (demandPort 2 false p s).when hold (fun s => s.setSp p fun x => { x with holdFull := true })
    else s

/-- The safe state: lane lines low, coils off, axis enables removed, event 96 (R418). -/
def safeState (cause : Nat) (s : State) : State :=
  if s.b Fl.SFY_STAT_SAFE then s else
  let s := s.setB Fl.SFY_STAT_SAFE 0 true |>.setF Fl.SFY_STAT_SAFECAUSE 0 cause
  let s := s.each 48 coilOff
  let s := s.each 48 releasePoles
  let s := s.each 8 fun a s => s.setB Fl.SFY_ASTAT_ENABLED a false
  let s := s.each 72 showSource
  sfyCause 0 s

/-- The input of a zone is active: a trip input for zones 0 to 3, the open loop for zone 4 (R428, R430). -/
def State.zoneInput (s : State) (z : Nat) : Bool :=
  if z < 4 then s.b Fl.SFY_SRC_ACT (s.f Fl.SFY_ZONE0_SRC z) else s.sfy.stayOpen

/-- A zone demand is qualified: the zone's category acts on every port in its mask; it also requests a
wake (R42, R426, R428). -/
def zoneDemand (z : Nat) (s : State) : State :=
  if !(z < 5 && s.b Fl.SFY_ZONE0_EN z && s.zoneInput z) || !s.sfy.running then s else
  let s := s.setF Fl.SFY_ZONE1_STATE z 1
  let cat := s.b Fl.SFY_ZONE0_CAT z
  let trel := if cat then s.f Fl.SFY_ZONE1_TSTOP1 z else 2
  let s := s.each 48 fun p s => s.when (s.zoneStops z p) (demandPort trel cat p)
  (sfyCause 1 s).wake 7

/-- The zone's input has been inactive for TDEB (R429). -/
def State.zoneQuiet (s : State) (z : Nat) : Bool :=
  !s.zoneInput z &&
    decide (s.sfy.zoneSince.toList.getD z 0 + clocksOfMs (s.f Fl.SFY_ZONE1_TDEB z) ≤ s.tick)

/-- A zone leaves STOPPED for IDLE by a reset; it closes nothing (R429). -/
def zoneToIdle (z : Nat) (s : State) : State :=
  (s.setF Fl.SFY_ZONE1_STATE z 0).each 48 fun p s => s.when (s.zoneStops z p) (refreshPort p)

/-! ### Contactors (R431, R432) -/

/-- The port's lock feedback shows locked; a port without a lock has no such condition. -/
def State.lockOk (s : State) (p : Nat) : Bool :=
  s.f Fl.SFY_PFB_LOCKFB p == 0x7F || s.b Fl.SFY_PSTAT_LOCKED p

/-- The last conversion of a pin sensor, 0.01 °C; none where broken (R437). -/
def State.pinTemp (s : State) (i : Nat) : Option Int := (s.thm.conv.toList.getD i none)

/-- A pin condition holds: no sensor is named, or its conversion is valid and below the level. -/
def State.pinBelow (s : State) (i : Nat) (level : Int) : Bool :=
  i == 0x7F || (match s.pinTemp i with | none => false | some t => decide (t < level))

/-- Both pins of a port are valid and below its cut level (R431). -/
def State.pinsOk (s : State) (p : Nat) : Bool :=
  s.pinBelow (s.f Fl.THM_PSEN_PINP p) (s.f Fl.SFY_PTMP_TPCUT p) &&
  s.pinBelow (s.f Fl.THM_PSEN_PINN p) (s.f Fl.SFY_PTMP_TPCUT p)

/-- A named pin's last conversion is broken (R437). -/
def State.pinIsBroken (s : State) (p : Nat) : Bool :=
  [s.f Fl.THM_PSEN_PINP p, s.f Fl.THM_PSEN_PINN p].any fun i => i != 0x7F && (s.pinTemp i).isNone

/-- The closing conditions of R431, the voltage condition apart: the shroud runs, coils have supply, no
demand, locked, no insulation fault, pins cool, no latched fault. -/
def State.mayClose (s : State) (p : Nat) : Bool :=
  s.sfy.running && !s.b Fl.SFY_STAT_SAFE && s.b Fl.SYS_SUPSTAT_VAUX_OK &&
  decide (s.sfy.vauxSince + clocksOfMs 10 ≤ s.tick) &&
  !s.zoneHolds p && s.lockOk p && !s.imdFault p && s.pinsOk p && !s.anyFault p

/-- A pole's earlier release has not been confirmed by its mirror (R425). -/
def State.unconfirmed (s : State) (p : Nat) (pole : Pole) : Bool :=
  !s.b (poleCmd pole) p && s.b (poleClosed pole) p

/-- The poles a request names. -/
def polesOf (pos neg : Bool) : List Pole := (if pos then [Pole.pos] else []) ++ (if neg then [Pole.neg] else [])

/-- Energises one pole. -/
def energisePole (p : Nat) (pole : Pole) (s : State) : State :=
  (coilOn (s.poleCoil p pole) s).setB (poleCmd pole) p true

/-- Whether a close request is accepted (R425, R431). -/
def State.closeOk (s : State) (p : Nat) (pos neg : Bool) : Bool :=
  p < 24 && s.mayClose p && s.b Fl.SYS_PWRSTAT_ANARDY && decide ((s.portVolt p).natAbs < 60000) &&
  (s.sp p).release.isNone && (pos || neg) &&
  (polesOf pos neg).all (fun pole => !s.unconfirmed p pole && s.poleCoil p pole != 0x3F)

/-- A close request: the named coils are energised only when every condition holds; a refusal has no
effect but its cause (R425, R431). -/
def closeRequest (p : Nat) (pos neg : Bool) (s : State) : State :=
  if s.closeOk p pos neg then
    refreshPort p ((s.eachOf (polesOf pos neg) (energisePole p)).setB Fl.SFY_PSTAT_NOV p false)
  else sfyCause 7 s

/-- An open request: the named coils are de-energised. -/
def openRequest (p : Nat) (pos neg : Bool) (s : State) : State :=
  if p < 48 then refreshPort p (s.eachOf (polesOf pos neg) fun pole s =>
    (coilOff (s.poleCoil p pole) s).setB (poleCmd pole) p false)
  else s

/-- A lock request pulses LOCKCO (R434). -/
def lockRequest (p : Nat) (s : State) : State :=
  if p < 48 then
    (coilOn (s.f Fl.SFY_PCO_LOCKCO p) s).setSp p fun x => { x with lockReq := true, unlockReq := false }
  else s

/-- An unlock request is accepted at any time and waits for verified no voltage; a guest port's is
refused (R435, R451). -/
def unlockRequest (p : Nat) (s : State) : State :=
  if p < 24 then s.setSp p fun x => { x with unlockReq := true }
  else sfyCause 7 s

/-- A mirror contact moves. Away from an unchanged command it latches DISCREP and releases both poles,
unless the supply of the coils failed; a guest's poles follow the home module
until its standby coils are energised (R432, R433, R448). -/
def mirrorSet (p : Nat) (pole : Pole) (closed : Bool) (s : State) : State :=
  if !(p < 48) || s.b (poleClosed pole) p == closed then s else
  let s := s.setB (poleClosed pole) p closed
  let s := s.setSp p fun x => match pole with
    | .pos => { x with posSince := s.tick } | .neg => { x with negSince := s.tick }
  if s.b (poleCmd pole) p == closed || s.sfy.vauxLost || s.b Fl.SFY_STAT_SAFE ||
      (24 ≤ p && !s.b Fl.SFY_PSTAT_STANDBY p) then refreshPort p s
  else
    sfyCause 2 (demandPort 2 false p (s.setB Fl.SFY_PSTAT_DISCREP p true))

/-- A contactor fault of the port a coil output belongs to (R417, R432). -/
def coilFault (n : Nat) (s : State) : State :=
  s.each 48 fun p s =>
    if n < 48 && (s.poleCoil p .pos == n || s.poleCoil p .neg == n) then
      sfyCause 2 (demandPort 2 false p (s.setB Fl.SFY_PSTAT_DISCREP p true))
    else s

/-- A contactor fault of the ports that use a feedback input (R417, R432). -/
def feedbackFault (k : Nat) (s : State) : State :=
  s.each 48 fun p s =>
    if k < 96 && (s.poleFb p .pos == k || s.poleFb p .neg == k) then
      sfyCause 2 (demandPort 2 false p (s.setB Fl.SFY_PSTAT_DISCREP p true))
    else s

/-- A pole has shown open by its mirror for 1 s (R432). -/
def State.openFor1s (s : State) (p : Nat) (pole : Pole) : Bool :=
  !s.b (poleClosed pole) p &&
    decide ((match pole with | .pos => (s.sp p).posSince | .neg => (s.sp p).negSince)
      + clocksOfMs 1000 ≤ s.tick)

/-- A pole's mirror has agreed with its command for 1 s (R432). -/
def State.agreesFor1s (s : State) (p : Nat) (pole : Pole) : Bool :=
  s.b (poleClosed pole) p == s.b (poleCmd pole) p &&
    decide ((match pole with | .pos => (s.sp p).posSince | .neg => (s.sp p).negSince)
      + clocksOfMs 1000 ≤ s.tick)

/-- CLEAR: each fault clears only after its own clearing condition has held (R432, R436, R437); a weld
needs an SRST_N pulse after its pole has shown open for 1 s. -/
def faultClear (p : Nat) (s : State) : State :=
  let clr (fl : Fld) (c : Bool) (s : State) := if c then s.setB fl p false else s
  let s := clr Fl.SFY_PSTAT_FAILCL (s.openFor1s p .pos && s.openFor1s p .neg) s
  let s := clr Fl.SFY_PSTAT_WELDP ((s.sp p).weldReset && s.openFor1s p .pos) s
  let s := clr Fl.SFY_PSTAT_WELDN ((s.sp p).weldReset && s.openFor1s p .neg) s
  let s := clr Fl.SFY_PSTAT_DISCREP (s.agreesFor1s p .pos && s.agreesFor1s p .neg) s
  let s := clr Fl.SFY_PSTAT_IMDF
    (!s.imdFault p && decide ((s.sp p).imdSince + clocksOfMs 1000 ≤ s.tick)) s
  let limit : Int := (s.f Fl.SFY_PTMP_TPCUT p : Int) - 1000
  let s := clr Fl.SFY_PSTAT_TCUT
    (s.pinBelow (s.f Fl.THM_PSEN_PINP p) limit && s.pinBelow (s.f Fl.THM_PSEN_PINN p) limit) s
  let s := clr Fl.SFY_PSTAT_PBRK (!s.pinIsBroken p) s
  let s := clr Fl.SFY_PSTAT_LOCKF (s.b Fl.SFY_PSTAT_LOCKED p || s.b Fl.SFY_PSTAT_UNLOCKED p) s
  refreshPort p (s.setSp p fun x => { x with weldReset := false })

/-- Whether any fault of the port would clear now. -/
def State.clearOk (s : State) (p : Nat) : Bool :=
  !s.anyFault p || [Fl.SFY_PSTAT_WELDP, Fl.SFY_PSTAT_WELDN, Fl.SFY_PSTAT_FAILCL, Fl.SFY_PSTAT_DISCREP,
    Fl.SFY_PSTAT_IMDF, Fl.SFY_PSTAT_TCUT, Fl.SFY_PSTAT_PBRK, Fl.SFY_PSTAT_LOCKF].any fun fl =>
      s.b fl p && !(faultClear p s).b fl p

/-- The coils lose their supply: every coil drops, no contactor fault is latched, and no coil is
re-energised until a new close request (R433). -/
def coilsLost (s : State) : State :=
  let s := s.each 48 coilOff
  let s := s.each 48 fun p s => s.setB Fl.SFY_PSTAT_POSCMD p false |>.setB Fl.SFY_PSTAT_NEGCMD p false
    |>.setB Fl.SFY_PSTAT_STANDBY p false |>.setSp p fun x => { x with release := none }
  { s with sfy.vauxLost := true }

/-! ### Safe motion (R439 to R441) -/

/-- The limit set in force: set 0 until the axis is referenced (R440). -/
def State.limitSet (s : State) (a : Nat) : Nat :=
  4 * a + (if s.b Fl.SFY_ACFG_REFD a then s.f Fl.SFY_ACFG_SET a else 0)

/-- A limit of the active set is violated (R441). -/
def State.axisViolates (s : State) (a : Nat) : Bool :=
  let k := s.limitSet a
  let v := signedOf 32 (s.f Fl.SFY_SPD_SPD a)
  let pos := signedOf 32 (s.f Fl.SFY_POS_POS a)
  let dir := s.f Fl.SFY_LIMA_DIR k
  decide (s.f Fl.SFY_LIMA_SPDMAX k < v.natAbs) ||
  (s.b Fl.SFY_ACFG_REFD a &&
    decide (pos < signedOf 32 (s.f Fl.SFY_LIMB_POSMIN k) ∨ signedOf 32 (s.f Fl.SFY_LIMC_POSMAX k) < pos)) ||
  (decide (2 < v.natAbs) && ((dir == 1 && decide (v < 0)) || (dir == 2 && decide (0 < v))))

/-- A violation: safe torque off, event 102, and the port of the axis stopped (R441). -/
def axisViolation (a : Nat) (s : State) : State :=
  let s := coilOff (s.f Fl.SFY_ACFG_ENCO a) s
  let s := s.setB Fl.SFY_ASTAT_VIOL a true |>.setB Fl.SFY_ASTAT_ENABLED a false
  let port := s.f Fl.SFY_ACFG_PORT a
  sfyCause 6 (s.when (port != 0x1F && port < 24) (demandPort 2 false port))

/-- Standstill: speed 0 for 100 ms, in samples of 10 µs (R441). -/
def State.standstill (s : State) (a : Nat) : Bool := decide (10000 ≤ (s.axis a).still)

/-- Limit set `k` admits nothing that set `j` forbids (R441). -/
def State.noLooser (s : State) (j k : Nat) : Bool :=
  decide (s.f Fl.SFY_LIMA_SPDMAX k ≤ s.f Fl.SFY_LIMA_SPDMAX j) &&
  decide (signedOf 32 (s.f Fl.SFY_LIMB_POSMIN j) ≤ signedOf 32 (s.f Fl.SFY_LIMB_POSMIN k)) &&
  decide (signedOf 32 (s.f Fl.SFY_LIMC_POSMAX k) ≤ signedOf 32 (s.f Fl.SFY_LIMC_POSMAX j)) &&
  (s.f Fl.SFY_LIMA_DIR j == 0 || s.f Fl.SFY_LIMA_DIR j == s.f Fl.SFY_LIMA_DIR k)

/-- One sample of an encoder and its reference switch. Level A leading level B counts up. -/
def axisSample (a : Nat) (la lb lz : Bool) (s : State) : State :=
  let x := s.axis a
  let phase (p q : Bool) : Nat := match p, q with
    | false, false => 0 | true, false => 1 | true, true => 2 | false, true => 3
  let d := (phase la lb + 4 - phase x.levelA x.levelB) % 4
  let pos : Int := signedOf 32 (s.f Fl.SFY_POS_POS a) + (if d == 1 then 1 else if d == 3 then -1 else 0)
  let w := (pos :: x.window).take 101
  let v : Int := pos - w.getLastD pos
  let s := s.setF Fl.SFY_POS_POS a (unsignedOf 32 pos) |>.setF Fl.SFY_SPD_SPD a (unsignedOf 32 v)
  let x' : Axis := { levelA := la, levelB := lb, window := w, still := if v == 0 then x.still + 1 else 0 }
  let s := { s with sfy.axis := s.sfy.axis.setIfInBounds a x' }
  let s := s.when lz (fun s => s.setB Fl.SFY_ACFG_REFD a true)
  if s.b Fl.SFY_ACFG_EN a && !s.b Fl.SFY_ASTAT_VIOL a && (d == 2 || s.axisViolates a)
  then axisViolation a s else s

/-! ### Requests of the exchange window (R422 to R425) -/

/-- Largest TARGET of a request kind (R424); `none` for a kind out of range. -/
def requestTop : Nat → Option Nat
  | 1 => some 47 | 2 => some 4 | 3 => some 7 | 4 => some 7 | 5 => some 23 | 6 => some 63 | 7 => some 47
  | _ => none

/-- The configuration permits a request (status 6, R423). -/
def State.requestPermitted (s : State) (kind target : Nat) : Bool :=
  match kind with
  | 2 => s.b Fl.SFY_ZONE0_EN target && s.b Fl.SFY_ZONE0_PROGRST target
  | 3 => s.b Fl.SFY_ACFG_EN target
  | 4 => s.b Fl.SFY_ACFG_EN target
  | 5 => s.b Fl.SFY_PIMD_IMDEN target
  | 6 => s.b Fl.SFY_TGT3_EN target
  | _ => true

/-- The shut-down of the function concerned has reached its end state (status 5, R425). -/
def State.requestEnded (s : State) (kind target : Nat) : Bool :=
  match kind with
  | 2 => !s.zoneInput target
  | 4 => !s.b Fl.SFY_ASTAT_VIOL target || s.standstill target
  | 6 => !s.maskActive target
  | _ => true

/-- The function's own conditions hold (status 4, R424). -/
def State.requestHolds (s : State) (kind target arg : Nat) : Bool :=
  match kind with
  | 2 => s.f Fl.SFY_ZONE1_STATE target != 0 && s.zoneQuiet target
  | 3 => decide (arg < 4) && (s.standstill target ||
      s.noLooser (4 * target + s.f Fl.SFY_ACFG_SET target) (4 * target + arg))
  | 4 => !s.axisViolates target && s.b Fl.SFY_ACFG_REFD target
  | 5 => decide (10 ≤ arg ∧ arg ≤ 5000) &&
      !s.b Fl.SFY_PSTAT_POSCL target && !s.b Fl.SFY_PSTAT_NEGCL target
  | 7 => s.clearOk target
  | _ => true

/-- The status of a request whose CRC and SEQ are right: 0, or the first check that fails (R423). -/
def State.requestStatus (s : State) (kind target arg : Nat) : Nat :=
  match requestTop kind with
  | none => 3
  | some top =>
    if top < target then 3
    else if !s.requestPermitted kind target then 6
    else if !s.requestEnded kind target then 5
    else if !s.requestHolds kind target arg then 4
    else 0

/-- Carries out an accepted request (R424). -/
def requestAct (kind target arg : Nat) (s : State) : State :=
  match kind with
  | 1 => demandPort (s.f Fl.SFY_ZONE1_TSTOP1 0) true target s
  | 2 => zoneToIdle target s
  | 3 => s.setF Fl.SFY_ACFG_SET target arg
  | 4 =>
    let s := coilOn (s.f Fl.SFY_ACFG_ENCO target) s
    s.setB Fl.SFY_ASTAT_VIOL target false
      |>.setB Fl.SFY_ASTAT_ENABLED target (s.b Fl.SFY_COIL_ON (s.f Fl.SFY_ACFG_ENCO target))
  | 5 => s.setSp target fun x => { x with imdTest := some arg }
  | 6 => evalFabric (s.setB Fl.SFY_TGT3_TRIPPED target false)
  | 7 => faultClear target s
  | _ => s

/-- A request: carried out, or refused with no effect but cause REQ (R423, R454). -/
def request (kind target arg : Nat) (s : State) : State :=
  if s.requestStatus kind target arg == 0 then requestAct kind target arg s else sfyCause 7 s

/-- One request slot: a new SEQ is checked and acknowledged (R422, R423). -/
def requestSlot (n : Nat) (s : State) : State :=
  let a := 0x28000000 + 32 * n
  let w0 := (s.word a).toNat
  let seq := w0 / 2 ^ 16
  let last := s.sfy.acked.toList.getD n none
  if last == some seq || (last == none && w0 == 0) then s else
  let kind := w0 / 256 % 256
  let target := w0 % 256
  let arg := (s.word (a + 4)).toNat
  let status :=
    if crc32 (s.bytes a 28) != s.word (a + 28) then 1
    else if (match last with | none => false | some l => (l + 1) % 2 ^ 16 != seq) then 2
    else s.requestStatus kind target arg
  let s := if status == 0 then requestAct kind target arg s else sfyCause 7 s
  let s := { s with sfy.acked := s.sfy.acked.setIfInBounds n (some seq) }
  (s.setWord (0x28000800 + 8 * n) (BitVec.ofNat 32 (seq * 2 ^ 16))).setWord (0x28000804 + 8 * n)
    (BitVec.ofNat 32 status)

/-- One cycle of the safety image: request slots, zones whose input has gone, pending no-voltage release
(R416, R422, R429). -/
def shroudCycle (s : State) : State :=
  if !s.sfy.running || s.b Fl.SFY_STAT_SAFE then s else
  let s := s.each 16 requestSlot
  let s := s.each 5 fun z s =>
    if s.f Fl.SFY_ZONE1_STATE z == 1 && !s.zoneInput z then s.setF Fl.SFY_ZONE1_STATE z 2 else s
  s.each 48 fun p s => refreshPort p (releaseDue p false s)

/-- A port group has left OFF and has not reached WELD (R436: any state from CLOSING to OPENING). -/
def State.charging (s : State) (p : Nat) : Bool :=
  let g := if p < 24 then p else p + 16
  let st := s.f Fl.PRT_GSTAT_STATE g
  decide (1 ≤ st ∧ st ≤ 10)

end Sys2Proof.Machine
end

