-- ==== Sys2Proof/Machine/PortPower.lean ====
section
/-! DEFINITION. Port power control: groups, sharing, interleave, ramps, modes, the port sequence,
removed cells, averages and cleats (R195 to R234). -/

namespace Sys2Proof.Machine

/-! ### Access -/

/-- Group `g` beside its record. -/
def State.pg (s : State) (g : Nat) : PrtGroup := s.prt.group.toList.getD g {}

/-- Changes group `g` beside its record. -/
def State.setPg (s : State) (g : Nat) (f : PrtGroup → PrtGroup) : State :=
  { s with prt.group := s.prt.group.setIfInBounds g (f (s.pg g)) }

/-- State codes of GSTAT.STATE (R234). -/
def gOff : Nat := 0
def gClosing : Nat := 1
def gCheck : Nat := 2
def gPrecharge : Nat := 3
def gReady : Nat := 4
def gRunI : Nat := 5
def gRunV : Nat := 6
def gRampdown : Nat := 7
def gZero : Nat := 8
def gDischarge : Nat := 9
def gOpening : Nat := 10
def gWeld : Nat := 11
def gFault : Nat := 12

/-- The state of a group. -/
def State.gst (s : State) (g : Nat) : Nat := s.f Fl.PRT_GSTAT_STATE g

/-- The port whose event reports group `g` (R234). -/
def State.eventPort (s : State) (g : Nat) : Nat :=
  if g < 24 then g else if 40 ≤ g && g < 64 then g - 40 else s.f Fl.PRT_GCFG_EVPORT g

/-- A cause of a group (R234). -/
def prtCause (j g : Nat) (s : State) : State :=
  let s := s.setFBit ⟨R.PRT_GCAUSE, 0, 29⟩ g j true
  let p := s.eventPort g
  if bitOf (s.f Fl.PRT_CTL_EVEN) j && p < 24 then s.raise (32 + p) else s

/-- The shroud port of a group, for own and guest port groups. -/
def groupPort (g : Nat) : Option Nat :=
  if g < 24 then some g else if 40 ≤ g && g < 64 then some (g - 16) else none

/-- The cells assigned to a group, removed ones included. -/
def State.assigned (s : State) (g : Nat) : List Nat :=
  (List.range 1024).filter fun c => s.f Fl.PRT_CELL_GROUP c == g

/-- The batches that hold a group's cells. -/
def State.groupBatches (s : State) (g : Nat) : List Nat :=
  (List.range 64).filter fun b => (s.assigned g).any fun c => c / 16 == b

/-! ### Measured quantities (R218, R230) -/

/-- Current of a cell, mA. -/
def State.cellI (s : State) (c : Nat) : Int := truncDiv (s.cellIn c 0 * s.capIfs c) (2 ^ 23)

/-- Output voltage of a cell, mV. -/
def State.cellV (s : State) (c : Nat) : Int := truncDiv (s.cellIn c 1 * s.capVfs c) (2 ^ 23)

/-- Temperature of a cell, 0.01 °C. -/
def State.cellT (s : State) (c : Nat) : Int := truncDiv (s.cellIn c 3 * 25600) (2 ^ 23)

/-- Sum of the members' currents, mA. -/
def State.sumI (s : State) (g : Nat) : Int := (s.members g).foldl (fun a c => a + s.cellI c) 0

/-- Cabinet-side voltage: the mean output voltage of the members, mV. -/
def State.cabinetV (s : State) (g : Nat) : Int :=
  let m := s.members g
  if m.isEmpty then 0 else truncDiv (m.foldl (fun a c => a + s.cellV c) 0) m.length

/-- Vehicle-side voltage, mV: the fast tap of an own port's meter; the cabinet side where no port meter
measures the group (DEDUCED, assumption 12). -/
def State.vehicleV (s : State) (g : Nat) : Int :=
  if g < 24 && !s.b Fl.MTR_MSTAT_FAULT g then s.portVolt g else s.cabinetV g

/-- Group current, mA: the shunt of an own port, else the sum of the members (R230). -/
def State.groupI (s : State) (g : Nat) : Int :=
  if g < 24 && !s.b Fl.MTR_MSTAT_FAULT g then s.portCurrent g else s.sumI g

/-! ### Sharing (R203) -/

/-- Weight of a cell. -/
def State.weight (s : State) (c : Nat) : Nat := max 1 (s.capIfs c / 1000)

/-- One round of R203's loop: members over their limit leave the free list with their limit. The fuel
is the number of members. -/
def shareRounds (s : State) : Nat → Nat → List Nat → List (Nat × Nat) → Nat × List Nat × List (Nat × Nat)
  | 0, a, free, out => (a, free, out)
  | fuel + 1, a, free, out =>
    let w := free.foldl (fun t c => t + s.weight c) 0
    let exceeded := free.filter fun c => decide (s.cellLimit c < a * s.weight c / w)
    if free.isEmpty || exceeded.isEmpty then (a, free, out)
    else
      shareRounds s fuel (exceeded.foldl (fun a c => a - s.cellLimit c) a)
        (free.filter fun c => !exceeded.contains c)
        (out ++ exceeded.map fun c => (c, s.cellLimit c))

/-- The members in firing order: ascending rank (i − ROT) mod n (R206). -/
def firingOrder (rot : Nat) (m : List Nat) : List Nat :=
  if m.isEmpty then [] else m.rotateLeft (rot % m.length)

/-- The share of each member, mA, and whether A still exceeds zero with every member at its limit
(R203, R204). -/
def shares (s : State) (m : List Nat) (rot : Nat) (i : Int) : List (Nat × Int) × Bool :=
  let r := shareRounds s (m.length + 1) i.natAbs m []
  let a := r.1
  let free := r.2.1
  let w := free.foldl (fun t c => t + s.weight c) 0
  let t := free.map fun c => (c, a * s.weight c / w)
  let left := a - t.foldl (fun x e => x + e.2) 0
  let first := ((firingOrder rot m).filter free.contains).take (if free.isEmpty then 0 else left)
  let all := r.2.2 ++ t.map fun e => (e.1, if first.contains e.1 then e.2 + 1 else e.2)
  (all.map fun e => (e.1, if i < 0 then -(e.2 : Int) else (e.2 : Int)), free.isEmpty && decide (0 < a))

/-- The share of one member in a list of shares. -/
def shareOf (l : List (Nat × Int)) (c : Nat) : Int := ((l.find? fun e => e.1 == c).map (·.2)).getD 0

/-- A value as a signal: value × 2²³ ÷ full scale, rounded to nearest, saturated (R200). -/
def toSignal (x : Int) (fs : Nat) : Int :=
  if fs = 0 then 0 else clampInt (-(2 ^ 23)) (2 ^ 23 - 1) (roundDiv (x * 2 ^ 23) fs)

/-! ### Reefs and removal (R204, R226, R229) -/

/-- Raises REEFREQ by one level, up to 7. -/
def raiseReef (g : Nat) (s : State) : State := s.satF Fl.PRT_GSTAT_REEFREQ g 1

/-- Notes a removal that takes effect at the next tick. -/
def removeCell (c reason : Nat) (s : State) : State :=
  if s.f Fl.PRT_CELL_RM c == 0 && !(s.prt.removals.any fun e => e.1 == c) then
    { s with prt.removals := s.prt.removals ++ [(c, reason)] }
  else s

/-- Shows the number of members not removed. -/
def showMembers (g : Nat) (s : State) : State := s.setF Fl.PRT_GSTAT_NCELL g (s.members g).length

/-- Removals and returns of one cell take effect: mask bit, mode and reason (R226). -/
def applyRemovals (g : Nat) (s : State) : State :=
  let mine := s.prt.removals.filter fun e => s.f Fl.PRT_CELL_GROUP e.1 == g
  let back := s.prt.returns.filter fun c => s.f Fl.PRT_CELL_GROUP c == g
  if mine.isEmpty && back.isEmpty then s else
  let s := s.eachOf mine fun e s => laneMask e.1 false (s.setF Fl.PRT_CELL_RM e.1 e.2)
  let s := s.eachOf back fun c s => laneMask c true (s.setF Fl.PRT_CELL_RM c 0)
  showMembers g { s with prt.removals := s.prt.removals.filter fun e => !mine.contains e,
                         prt.returns := s.prt.returns.filter fun c => !back.contains c }

/-! ### The port sequence (R217 to R225) -/

/-- The bleeder of a port while it discharges (R222). -/
def bleeder (g : Nat) (on : Bool) (s : State) : State :=
  if s.b Fl.PRT_PCFG_BLEEDEN g then chRequest Fl.LSW_CHSTAT_BLEED (s.f Fl.PRT_PCFG_BLEED g) on s else s

/-- A transition of a group (cause STATE); entering OFF returns REEFREQ to 0 (R229). -/
def toState (g st : Nat) (s : State) : State :=
  if s.gst g == st then s else
  let s := s.when (s.gst g == gDischarge) (bleeder g false)
  let s := prtCause 0 g (s.setF Fl.PRT_GSTAT_STATE g st)
  let s := s.when (st == gDischarge) (bleeder g true)
  if st == gOff then
    (s.setF Fl.PRT_GSTAT_REEFREQ g 0 |>.setF Fl.PRT_IAPP_IAPP g 0 |>.setF Fl.PRT_VAPP_VAPP g 0).setPg g
      fun x => { x with fracI := 0, fracV := 0, lastRef := 0, short := false, preStep := 0, forced := false,
                        bleedOnly := false, weldStep := 0 }
  else s

/-- FAULT: the group asks for open contactors whatever its current (R218). -/
def toFault (cause g : Nat) (s : State) : State :=
  let s := toState g gFault (prtCause cause g s)
  match groupPort g with | none => s | some p => openRequest p true true s

/-- DISCHARGE: the timing starts (R222). -/
def toDischarge (g : Nat) (s : State) : State :=
  toState g gDischarge (s.setPg g fun x => { x with discStart := s.now, preStep := 0 })

/-- OPENING: port power asks the shroud to open (R217, R218). -/
def toOpening (g : Nat) (s : State) : State :=
  let s := toState g gOpening s
  match groupPort g with | none => s | some p => openRequest p true true s

/-- A STOP command in a state that knows it (R217). -/
def groupStopAct (g : Nat) (s : State) : State :=
  match s.gst g with
  | 2 => toDischarge g s
  | 3 => toDischarge g s
  | 4 => toDischarge g s
  | 5 => toState g gRampdown s
  | 6 => toState g gRampdown s
  | _ => s

/-- Puts the kernel of the mode into every batch of the group; a change that fails admission leaves the
mode, sets MODEERR and acts as STOP (R207, R208). -/
def setMode (g : Nat) (volt : Bool) (s : State) : State :=
  let k := s.f (if volt then Fl.PRT_GCFG_KVOLT else Fl.PRT_GCFG_KCUR) g
  let bs := s.groupBatches g
  if (s.pg g).voltMode == volt then s
  else if s.kernelsFit bs k then
    (s.eachOf bs (batchKernel k)).setPg g fun x => { x with voltMode := volt }
  else
    groupStopAct g (prtCause 26 g s)

/-- RUN-I or RUN-V per MODE. -/
def toRun (g mode : Nat) (s : State) : State :=
  toState g (if mode == 1 then gRunV else gRunI) s |> setMode g (mode == 1)

/-- Asks the shroud for both poles where both sides lie below 60 V (R218). -/
def askClose (g : Nat) (s : State) : State :=
  match groupPort g with
  | none => s
  | some p =>
    if decide ((s.cabinetV g).natAbs < 60000) && decide ((s.vehicleV g).natAbs < 60000) &&
        !(s.b Fl.SFY_PSTAT_POSCMD p && s.b Fl.SFY_PSTAT_NEGCMD p)
    then closeRequest p true true s else s

/-- CLOSING with the state that follows it. -/
def toClosing (g target : Nat) (s : State) : State :=
  askClose g (toState g gClosing (s.setPg g fun x => { x with target := target }))

/-- PRECHARGE starts with a discharge at 20 % of VSET or above, else in current mode (R220). -/
def toPrecharge (g : Nat) (s : State) : State :=
  let hot := decide ((s.f Fl.PRT_VSET_VSET g : Int) ≤ 5 * s.vehicleV g)
  let s := s.setPg g fun x => { x with preStart := s.now, preStep := if hot then 1 else 2, t1 := none, t2 := none }
  toState g gPrecharge s |> setMode g hot

/-- Enters the state that follows CLOSING or CHECK. -/
def enterTarget (g st : Nat) (s : State) : State :=
  if st == gPrecharge then toPrecharge g s
  else toState g gCheck s |> setMode g true

/-- Refuses a command (R217, R219). -/
def cmdRefuse (g code : Nat) (s : State) : State := s.setF Fl.PRT_GSTAT_CMDERR g code

/-- The stored energy of a capacitance at VSET exceeds a limit in mJ (R219, R220). -/
def energyOver (c v limit : Nat) : Bool := decide (2 * limit * 10 ^ 12 < c * v * v)

/-- A new VSET: in READY it must pass the energy check with CIDENT, or it is refused (R221). -/
def setVset (g : Nat) (v : Word) (s : State) : State :=
  if s.gst g == gReady && energyOver (s.f Fl.PRT_CIDENT_CIDENT g) v.toNat (s.f Fl.PRT_EMAX_EPRE g) then
    prtCause 6 g (cmdRefuse g 3 s)
  else s.setReg R.PRT_VSET g v

/-- CHECK in OFF: the stored-energy limit (R219). -/
def checkInOff (g : Nat) (s : State) : State :=
  let c := max (s.f Fl.PRT_CNOM_CNOM g) (s.f Fl.PRT_CIDENT_CIDENT g)
  if c == 0 then prtCause 28 g (cmdRefuse g 2 s)
  else if energyOver c (s.f Fl.PRT_VSET_VSET g) (s.f Fl.PRT_EMAX_ECHK g) then
    prtCause 6 g (cmdRefuse g 3 s)
  else toClosing g gCheck s

/-- A command would be accepted in OFF, by the role of the group (R217, R225). -/
def State.offAccepts (s : State) (g op : Nat) : Bool :=
  let role := s.f Fl.PRT_GCFG_ROLE g
  (op == 1 && role == 0) || (op == 2 && role == 3) || (op == 3 && (role == 1 || role == 2))

/-- A command acts in OFF. -/
def actInOff (g op mode : Nat) (s : State) : State :=
  if !s.offAccepts g op then cmdRefuse g 1 s
  else match op with
    | 1 => checkInOff g s
    | 2 => toClosing g gPrecharge s
    | _ => toRun g mode s

/-- Reaching OFF acts on a pending command (R225). -/
def offWithPending (g : Nat) (s : State) : State :=
  let p := (s.pg g).pendCmd
  let s := toState g gOff s
  match p with
  | none => s
  | some (op, mode) =>
    actInOff g op mode ((s.setPg g fun x => { x with pendCmd := none }).setB Fl.PRT_GSTAT_PEND g false)

/-- Records a command as pending where OFF would accept it (R225). -/
def pendOrRefuse (g op mode : Nat) (s : State) : State :=
  if s.offAccepts g op then
    (s.setPg g fun x => { x with pendCmd := some (op, mode) }).setB Fl.PRT_GSTAT_PEND g true
  else cmdRefuse g 1 s

/-- Clears a pending command. -/
def dropPending (g : Nat) (s : State) : State :=
  (s.setPg g fun x => { x with pendCmd := none }).setB Fl.PRT_GSTAT_PEND g false

/-- Whether the state records commands as pending (R225). -/
def pendState (st : Nat) : Bool := st == gRampdown || st == gZero || st == gDischarge || st == gOpening || st == gWeld

/-- One command of GCMD.OP (R217, R225, R229). -/
def groupCommand (g op mode : Nat) (s : State) : State :=
  let st := s.gst g
  let role := s.f Fl.PRT_GCFG_ROLE g
  if 80 ≤ g || op == 0 || 8 ≤ op then s
  else if op == 7 then s.setF Fl.PRT_GSTAT_REEFREQ g 0
  else if !s.b Fl.PRT_GCFG_EN g then cmdRefuse g 1 s
  else if op == 6 then (if st == gFault then offWithPending g s else cmdRefuse g 1 s)
  else if st == gFault then cmdRefuse g 1 s
  else if op == 4 then
    if pendState st then dropPending g s
    else if st == gCheck || st == gPrecharge || st == gReady || st == gRunI || st == gRunV then
      groupStopAct g (dropPending g s)
    else cmdRefuse g 1 s
  else if op == 5 then
    if st == gZero then (if role == 3 then toOpening g s else toDischarge g s |> setMode g true)
    else cmdRefuse g 1 s
  else if st == gOff then actInOff g op mode s
  else if op == 2 && st == gCheck then toPrecharge g s
  else if op == 3 && (st == gReady || st == gZero) then toRun g mode s
  else if op == 3 && ((st == gRunI && mode == 1) || (st == gRunV && mode != 1)) then toRun g mode s
  else if pendState st then pendOrRefuse g op mode s
  else cmdRefuse g 1 s

/-- A STOP from another block: the shroud, a session, the thermal block or the loop engine. -/
def groupStop (g : Nat) (s : State) : State :=
  if s.b Fl.PRT_GCFG_EN g then
    if pendState (s.gst g) then dropPending g s else groupStopAct g s
  else s

/-! ### The tick (R199 to R216) -/

/-- One advance of a ramp: value, target, rate, period in ns and remainder give value and remainder
(R214). -/
def rampStep (value target : Int) (rate periodNs frac : Nat) : Int × Nat :=
  let num := rate * periodNs + frac
  let step : Int := (num / 1000000 : Nat)
  let f := num % 1000000
  if value < target then (min (value + step) target, f)
  else if target < value then (max (value - step) target, f)
  else (value, 0)

/-- The signed current ramp value of a group, mA. -/
def State.iApp (s : State) (g : Nat) : Int := signedOf 32 (s.f Fl.PRT_IAPP_IAPP g)

/-- The target of the current ramp (R214, R216, R217). -/
def State.iTarget (s : State) (g : Nat) : Int :=
  let st := s.gst g
  let iset := signedOf 32 (s.f Fl.PRT_ISET_ISET g)
  if st == gRunI || st == gRunV then
    if s.f Fl.PRT_GCFG_ROLE g == 0 then min iset (s.f Fl.PRT_ISHEET_SHEET g) else iset
  else 0

/-- The target of the voltage ramp, mV (R214, R219, R222, R224). -/
def State.vTarget (s : State) (g : Nat) : Int :=
  let st := s.gst g
  if st == gDischarge || st == gOff || st == gFault then 0
  else if st == gWeld then (if (s.pg g).weldStep == 0 then 0 else (s.f Fl.PRT_TIMES_VWELD g : Int) * 1000)
  else s.f Fl.PRT_VSET_VSET g

/-- The current ramp advances; a new target or rate clears the remainder, and a sheet below the ramp
sets it at once (R214 to R216). -/
def tickCurrent (g periodNs : Nat) (s : State) : State :=
  let st := s.gst g
  let target := s.iTarget g
  let rate := s.f Fl.PRT_RATE_IRATE g
  let x := s.pg g
  let frac := if x.lastI == (target, rate) then x.fracI else 0
  let running := st == gRunI || st == gRunV || st == gRampdown
  let sheet : Int := s.f Fl.PRT_ISHEET_SHEET g
  let v0 := s.iApp g
  let r :=
    if !running then (0, 0)
    else if s.f Fl.PRT_GCFG_ROLE g == 0 && decide (sheet < v0) then (sheet, 0)
    else rampStep v0 target rate periodNs frac
  (s.setF Fl.PRT_IAPP_IAPP g (unsignedOf 32 r.1)).setPg g fun x =>
    { x with fracI := r.2, lastI := (target, rate) }

/-- The voltage ramp advances (R214). -/
def tickVoltage (g periodNs : Nat) (s : State) : State :=
  let target := s.vTarget g
  let rate := s.f Fl.PRT_RATE_VRATE g
  let x := s.pg g
  let frac := if x.lastV == (target, rate) then x.fracV else 0
  let r := rampStep (s.f Fl.PRT_VAPP_VAPP g) target rate periodNs frac
  (s.setF Fl.PRT_VAPP_VAPP g r.1.toNat).setPg g fun x => { x with fracV := r.2, lastV := (target, rate) }

/-- The precharge steps that a tick ends (R220). -/
def tickPrecharge (g : Nat) (s : State) : State :=
  if s.gst g != gPrecharge then s else
  let v := s.vehicleV g
  let vset : Int := s.f Fl.PRT_VSET_VSET g
  let x := s.pg g
  match x.preStep with
  | 1 => if 5 * v < vset then setMode g false (s.setPg g fun x => { x with preStep := 2 }) else s
  | 2 =>
    let s := s.when (x.t1.isNone && decide (vset ≤ 5 * v)) (fun s => s.setPg g fun x => { x with t1 := some s.now })
    match (s.pg g).t1 with
    | none => s
    | some t1 =>
      if 4 * vset ≤ 5 * v then
        let dv := (vset.toNat * 80 / 100) - (vset.toNat * 20 / 100)
        let c := if dv = 0 then 0 else s.f Fl.PRT_PCFG_IPC g * (s.now - t1) / dv
        let s := s.setF Fl.PRT_CIDENT_CIDENT g (min c (2 ^ 24 - 1))
        if energyOver c vset.toNat (s.f Fl.PRT_EMAX_EPRE g) then toFault 6 g s
        else
          (s.setF Fl.PRT_VAPP_VAPP g v.toNat).setPg g (fun x => { x with preStep := 5, t2 := some s.now, fracV := 0 })
            |> setMode g true
      else s
  | _ => s

/-- The current reference of the group at this tick (R206, R216, R217). -/
def State.currentRef (s : State) (g : Nat) : Int :=
  let st := s.gst g
  if st == gRunI || st == gRunV || st == gRampdown then s.iApp g
  else if st == gPrecharge && (s.pg g).preStep == 2 then s.f Fl.PRT_PCFG_IPC g
  else 0

/-- The group current limit of a voltage-mode state, mA, and whether current may sink (R212). -/
def State.voltLimit (s : State) (g : Nat) : Int × Bool :=
  let st := s.gst g
  if st == gRunV then
    let iset := signedOf 32 (s.f Fl.PRT_ISET_ISET g)
    (if s.f Fl.PRT_GCFG_ROLE g == 0 then min iset (s.f Fl.PRT_ISHEET_SHEET g) else iset, s.b Fl.PRT_GCFG_BIDIR g)
  else if st == gCheck || st == gReady then (s.f Fl.PRT_PCFG_IPC g, false)
  else if st == gPrecharge then
    if (s.pg g).preStep == 1 then (s.f Fl.PRT_DISCFG_IDIS g, true) else (s.f Fl.PRT_PCFG_IPC g, false)
  else if st == gDischarge || st == gWeld then
    if (s.pg g).bleedOnly then (0, false) else (s.f Fl.PRT_DISCFG_IDIS g, true)
  else (0, false)

/-- Marks a coefficient word; a newer value replaces the older one (R213). -/
def markWord (c w : Nat) (v : Word) (s : State) : State :=
  { s with prt.marks := cellsInsert s.prt.marks (16 * c + w) v }

/-- Marks a current-reference limit where it has moved by more than 2¹⁵ mantissa units, or at mode entry
(R213). -/
def markLimit (c w : Nat) (entry : Bool) (m : Int) (s : State) : State :=
  let old := cellsGet (0 : Int) s.prt.limits (16 * c + w)
  if entry || decide (2 ^ 15 < (m - old).natAbs) then
    markWord c w (BitVec.ofInt 32 (m % 2 ^ 24)) { s with prt.limits := cellsPut (0 : Int) s.prt.limits (16 * c + w) m }
  else s

/-- E1 and the mantissa of the droop coefficient of a member (R211). -/
def droop (s : State) (rll w c : Nat) : Nat × Nat :=
  let num := rll * w * s.capIfs c * 2 ^ 23
  let den := s.weight c * s.capVfs c * 10 ^ 6
  if den = 0 then (0, 0) else
  let mant (e : Nat) : Nat := (2 * num + den * 2 ^ e) / (2 * den * 2 ^ e)
  let e := (firstBelow 64 fun e => decide (mant e < 2 ^ 23)).getD 0
  (e, mant e)

/-- The coefficients of a voltage-mode member (R211 to R213). -/
def markCoefs (g : Nat) (m : List Nat) (entry : Bool) (s : State) : State :=
  let lim := s.voltLimit g
  let up := (shares s m (s.pg g).rot lim.1).1
  let w := m.foldl (fun t c => t + s.weight c) 0
  let rll := s.f Fl.PRT_RLL_RLL g
  s.eachOf m fun c s =>
    let k4 := toSignal (shareOf up c) (s.capIfs c)
    let k3 := if lim.2 then -k4 else 0
    let s := markLimit c 4 entry k4 (markLimit c 3 entry k3 s)
    let d := droop s rll w c
    let e1 := cellsGet (0 : Int) s.prt.e1 c
    let s := if e1 == (d.1 : Int) then s else
      markWord c 0 (BitVec.ofNat 32 d.1) { s with prt.e1 := cellsPut (0 : Int) s.prt.e1 c (d.1 : Int) }
    let old := cellsGet (0 : Int) s.prt.limits (16 * c + 5)
    if entry || old != (d.2 : Int) then
      markWord c 5 (BitVec.ofNat 32 d.2) { s with prt.limits := cellsPut (0 : Int) s.prt.limits (16 * c + 5) (d.2 : Int) }
    else s

/-- The writes one marked word stands for: word 0 stands for K5 = 0 and the exponent word with the new
E1; K5 follows as its own mark (R213). -/
def markWrites (c w : Nat) (v : Word) (s : State) : State :=
  if w == 0 then
    ownCoef c 0 (withBits (s.coefNext c 0) 8 8 v.toNat) (ownCoef c 5 0 s)
  else ownCoef c w v s

/-- Pool entries a mark stands for: each word goes to both banks, and a mark of word 0 clears K5 first. -/
def markCost (w : Nat) : Nat := if w == 0 then 4 else 2

/-- The marks that fit into `room` entries of the pool, in ascending slot order (R213). -/
def marksThatFit : Nat → List (Nat × Word) → List (Nat × Word)
  | _, [] => []
  | room, e :: l =>
    if markCost (e.1 % 16) ≤ room then e :: marksThatFit (room - markCost (e.1 % 16)) l else []

/-- Place of a word among the marks of its slot: the limits in clamp order, then the exponents, then K5
(R148, R213). -/
def markRank (rising : Bool) (w : Nat) : Nat :=
  if w == 4 then (if rising then 1 else 3) else if w == 3 then 2 else if w == 0 then 4 else 5

/-- Serves the queue in ascending slot order, at most 32 entries of the pool at once; each mark goes to
both banks (R213). Within a slot the limits go in clamp order. -/
def serveMarks (s : State) : State :=
  let take := marksThatFit (min (32 - s.ownPending) (64 - s.lpe.pool.length)) s.prt.marks
  let rising (c : Nat) : Bool := decide (cellsGet (0 : Int) s.prt.limits (16 * c + 4) ≥
    signedOf 24 (s.coefNext c 4).toNat)
  let key (e : Nat × Word) : Nat := 16 * (e.1 / 16) + markRank (rising (e.1 / 16)) (e.1 % 16)
  let ordered := take.mergeSort fun a b => decide (key a ≤ key b)
  let s := { s with prt.marks := s.prt.marks.drop take.length }
  let s := s.eachOf ordered fun e s => markWrites (e.1 / 16) (e.1 % 16) e.2 s
  s.setF Fl.PRT_STAT_CWQ 0 s.prt.marks.length

/-- References and command fields of the members (R199 to R206). -/
def tickShares (g : Nat) (s : State) : State :=
  let m := s.members g
  let n := m.length
  let x := s.pg g
  let ref := s.currentRef g
  let step := decide ((s.f Fl.PRT_GCFG_STEPTH g) * 1000 < (ref - x.lastRef).natAbs)
  let rot := if n = 0 then 0 else if step then (x.rot + 1) % n else x.rot % n
  let sh := shares s m rot ref
  let s := s.when (sh.2 && !x.short) (fun s => raiseReef g (prtCause 5 g s))
  let s := s.setPg g fun x => { x with rot := rot, lastRef := ref, short := sh.2 }
  let st := s.gst g
  let off := st == gOff || st == gClosing || st == gFault || st == gOpening
  let volt := x.voltMode
  let target := (s.f Fl.PRT_VAPP_VAPP g : Int) - truncDiv (s.groupI g * s.f Fl.PRT_RLL_RLL g) (10 ^ 6)
  let ilen := s.b Fl.PRT_GCFG_ILEN g
  let s := s.eachOf (m.zipIdx) fun e s =>
    let c := e.1
    let i := e.2
    let share := shareOf sh.1 c
    let s := { s with prt.share := cellsPut (0 : Int) s.prt.share c share }
    let in6 := if off then 0 else if volt then toSignal target (s.capVfs c) else toSignal share (s.capIfs c)
    let in7 := if off then 0 else if volt then toSignal share (s.capIfs c)
      else toSignal (s.f Fl.PRT_VSET_VSET g) (s.capVfs c)
    let s := setCellIn c 7 in7 (setCellIn c 6 in6 s)
    if ilen then
      s.setF Fl.PRT_CELL_C1 c (4096 * i / n)
        |>.setF Fl.PRT_CELL_C2 c (if step then 128 * ((i + n - rot) % n) / n else 0)
    else s
  let gone := (s.assigned g).filter fun c => s.f Fl.PRT_CELL_RM c != 0
  s.eachOf gone fun c s => setCellIn c 7 0 (setCellIn c 6 0 s)

/-- Adds one sample to a window. -/
def Sums.add (a : Sums) (i v p t : Int) : Sums :=
  { i := a.i + i, v := a.v + v, p := a.p + p, t := a.t + t, n := a.n + 1 }

/-- Adds one sample to the averages and cleats (R231, R232). -/
def Telemetry.add (a : Telemetry) (i v p t : Int) : Telemetry :=
  let c : Cleat := match a.cleat with
    | none => { iMax := i, iMin := i, vMax := v, vMin := v, pMax := p, pMin := p, tMax := t }
    | some c => { iMax := max c.iMax i, iMin := min c.iMin i, vMax := max c.vMax v, vMin := min c.vMin v,
                  pMax := max c.pMax p, pMin := min c.pMin p, tMax := max c.tMax t }
  { ms1 := a.ms1.add i v p t, ms100 := a.ms100.add i v p t, s1 := a.s1.add i v p t, cleat := some c }

/-- The sample of one cell slot joins its averages (R230). -/
def sampleCell (c : Nat) (s : State) : State :=
  let i := s.cellI c
  let v := s.cellV c
  let p := truncDiv (i * v) (10 ^ 6)
  let a := (cellsFind s.prt.cellTel c).getD {}
  { s with prt.cellTel := cellsInsert s.prt.cellTel c (a.add i v p (s.cellT c)) }

/-- The sample of a group joins its averages (R230). -/
def sampleGroup (g : Nat) (s : State) : State :=
  let m := s.members g
  let i := s.groupI g
  let v := if s.f Fl.PRT_GCFG_ROLE g == 0 then s.vehicleV g else s.cabinetV g
  let p := truncDiv (i * v) (10 ^ 6)
  let t := match m with
    | [] => -32768
    | c :: cs => cs.foldl (fun a c => max a (s.cellT c)) (s.cellT c)
  let sum := s.sumI g
  s.setPg g fun x => { x with i := i, v := v, p := p, t := t, sumI := sum, tel := x.tel.add i v p t }

/-- |S − I_sh| exceeds 3 % of |I_sh| plus 5,000 mA (R228). -/
def senseOver (sum shunt : Int) : Bool := decide (3 * shunt.natAbs + 500000 < 100 * (sum - shunt).natAbs)

/-- One sample of a search for a failed sensor: which members explain it (R228). -/
def searchSample (g : Nat) (s : State) : State :=
  match (s.pg g).search with
  | none => s
  | some n =>
    let m := s.members g
    let sum := s.sumI g
    let sh := s.groupI g
    let tot := m.foldl (fun a c => a + cellsGet (0 : Int) s.prt.share c) 0
    let ok (c : Nat) : Bool :=
      let share := cellsGet (0 : Int) s.prt.share c
      let rest := sum - s.cellI c
      let est := if tot - share = 0 then 0 else (share * rest).tdiv (tot - share)
      !senseOver (rest + est) sh
    s.setPg g fun x => { x with
      search := some (n + 1)
      explains := m.foldl (fun l c => if ok c then cellsInsert l c (cellsGet 0 l c + 1) else l) x.explains }

/-- The secondary record of a group, while its meter is faulted or, from the first fold on, a takeover serves it (R347, R471). -/
def State.secondaryRecord (s : State) (g : Nat) : Option Nat :=
  if g < 24 then (if s.b Fl.MTR_MSTAT_FAULT g then some g else none)
  else if 40 ≤ g && g < 64 && s.b Fl.LPE_TAKE_ACTIVE && s.rng.secondary then some (g - 16) else none

/-- Secondary energy of one tick: P × the period, into SECDEL or SECREC with a carried fraction (R347). -/
def secondaryTick (g periodNs : Nat) (s : State) : State :=
  match s.secondaryRecord g with
  | none => s
  | some h =>
    let p := (s.pg g).p
    let rec_ := decide (p < 0)
    let key := 2 * h + b2n rec_
    let n := p.natAbs * periodNs + cellsGet 0 s.mtr.secCarry key
    let lo := if rec_ then R.MTR_SECRECL else R.MTR_SECDELL
    let hi := if rec_ then R.MTR_SECRECH else R.MTR_SECDELH
    let s := { s with mtr.secCarry := cellsPut (0 : Nat) s.mtr.secCarry key (n % 3600000000) }
    s.setQ lo hi h ((s.q lo hi h + n / 3600000000) % 2 ^ 64)

/-- Whether a port-power group's cells run in sample group `grp`. -/
def State.inSampleGroup (s : State) (g grp : Nat) : Bool :=
  match s.groupBatches g with
  | [] => false
  | b :: _ => s.f Fl.LPE_BATCH_GROUP b == grp

/-- Port power of one group at its tick: removals, samples, precharge, ramps, shares, coefficients
(R199). -/
def tickGroup (periodNs g : Nat) (s : State) : State :=
  let was := (s.pg g).voltMode
  let s := applyRemovals g s
  let s := searchSample g (secondaryTick g periodNs (sampleGroup g s))
  let s := s.when (s.gst g == gClosing) (askClose g)
  let s := tickPrecharge g s
  let s := tickVoltage g periodNs (tickCurrent g periodNs s)
  let s := tickShares g s
  if (s.pg g).voltMode then markCoefs g (s.members g) (!was) s else s

/-- Port power at a tick of sample group `grp` (R199). -/
def portPowerTick (grp periodNs : Nat) (s : State) : State :=
  let s := s.each 80 fun g s =>
    if s.b Fl.PRT_GCFG_EN g && s.inSampleGroup g grp then tickGroup periodNs g s else s
  let s := s.each 64 fun b s =>
    if s.f Fl.LPE_BATCH_GROUP b == grp && s.b Fl.LPE_BATCH_EN b then
      s.each 16 fun l s => if (cellsFind s.cln.caps (16 * b + l)).isSome then sampleCell (16 * b + l) s else s
    else s
  serveMarks s

/-! ### Enabling and assignment (R196, R197) -/

/-- ROLES bit of a group role (R181, R196). -/
def roleBit : Nat → Nat
  | 0 => 2 | 1 => 1 | 2 => 0 | _ => 3

/-- An enable of the group is free of every fault of R196 and R197. -/
def State.enableOk (s : State) (g : Nat) : Bool :=
  let a := s.assigned g
  let role := s.f Fl.PRT_GCFG_ROLE g
  role < 4 && 1 ≤ a.length && a.length ≤ 64 &&
  a.all (fun c => (cellsFind s.cln.caps c).isSome && bitOf (s.capRoles c) (roleBit role)) &&
  (s.f Fl.PRT_GCFG_KCUR g == s.f Fl.PRT_GCFG_KVOLT g ||
    (s.groupBatches g).all fun b => (List.range 16).all fun l =>
      let c := 16 * b + l
      let o := s.f Fl.PRT_CELL_GROUP c
      o == g || (o == 0x7F && !bitOf (s.f Fl.LPE_BATCH_MASK b) l))

/-- Sets GCFG.EN, or refuses it with CFGERR (R196). -/
def portGroupEnable (g : Nat) (s : State) : State :=
  if 80 ≤ g || s.b Fl.PRT_GCFG_EN g then s
  else if s.enableOk g then showMembers g (s.setB Fl.PRT_GCFG_EN g true)
  else prtCause 28 g s

/-- Clears GCFG.EN: the group drives nothing. -/
def portGroupDisable (g : Nat) (s : State) : State :=
  if 80 ≤ g || !s.b Fl.PRT_GCFG_EN g then s else
  let m := s.members g
  let s := toState g gOff (dropPending g s)
  let s := s.eachOf m fun c s => setCellIn c 7 0 (setCellIn c 6 0 s)
  s.setB Fl.PRT_GCFG_EN g false

/-- Assigns a cell to a group while both groups are disabled (R196). -/
def cellAssign (c group : Nat) (s : State) : State :=
  let on (g : Nat) : Bool := g < 80 && s.b Fl.PRT_GCFG_EN g
  if c < 1024 && !on (s.f Fl.PRT_CELL_GROUP c) && !on group then s.setF Fl.PRT_CELL_GROUP c group else s

end Sys2Proof.Machine
end

