-- ==== Sys2Proof/Machine/Lanes.lean ====
section
/-! DEFINITION. Cell lanes: link start, exchanges, telemetry, lost cells, management access and the guard
lanes (R163 to R194). -/

namespace Sys2Proof.Machine

/-! ### Access -/

/-- Lane `j` beside its registers: 0 to 15 home lanes, 16 to 31 guard lanes. -/
def State.ln (s : State) (j : Nat) : LaneLink := s.cln.link.toList.getD j {}

/-- Changes lane `j` beside its registers. -/
def State.setLn (s : State) (j : Nat) (f : LaneLink → LaneLink) : State :=
  { s with cln.link := s.cln.link.setIfInBounds j (f (s.ln j)) }

/-- State of a lane (CLN_LANESTAT.STATE). -/
def State.laneSt (s : State) (j : Nat) : Nat := s.f Fl.CLN_LANESTAT_STATE j

/-- A cause of the chain of lane `j`: bit `b` of CLN_LANEEV raises event 16 + k (R194). -/
def clnCause (j b : Nat) (s : State) : State :=
  s.causeOn ⟨R.CLN_LANEEV, 0, 14⟩ Fl.CLN_CTL_EVEN (j % 16) b (16 + j % 16)

/-- The lane that a map entry of cell `c` names (R165, R166). -/
def State.mapLane (s : State) (c : Nat) : Nat :=
  s.f Fl.CLN_CELLMAP_LANE c + (if c < 512 then 0 else 16)

/-- The slots that valid entries put at a position of a lane. -/
def State.slotsAt (s : State) (j pos : Nat) : List Nat :=
  let base := if j < 16 then 0 else 512
  ((List.range 512).map (base + ·)).filter fun c =>
    s.b Fl.CLN_CELLMAP_VALID c && s.mapLane c == j && s.f Fl.CLN_CELLMAP_POS c == pos

/-- The slots that valid entries put on a lane. -/
def State.laneSlots (s : State) (j : Nat) : List Nat :=
  let base := if j < 16 then 0 else 512
  ((List.range 512).map (base + ·)).filter fun c => s.b Fl.CLN_CELLMAP_VALID c && s.mapLane c == j

/-! ### Symbols and the schedule (R167, R177) -/

/-- Bit times of 1.25 ns in one symbol at a rate: 0 200, 1 400, 2 800 Mbaud (R167). -/
def symbolBits (rate : Nat) : Nat := 10 * 2 ^ (2 - rate)

/-- Whole symbols in a number of system clocks. -/
def symbolsOf (rate clocks : Nat) : Nat := clocks * 4 / symbolBits rate

/-- Telemetry slot, symbols: format A 18, format B 30 (R169). -/
def telSlot (fmt : Nat) : Nat := if fmt = 0 then 18 else 30

/-- A schedule of `n` cells fits a period of `p` symbols; `extra` is 16 after a port change (R177). -/
def fits (n tel dmax extra p : Nat) : Bool :=
  decide (6 + 12 * n + max 44 (dmax + 8) + extra ≤ p) && decide (n * tel + 60 ≤ p)

/-- The largest delay of a lane in symbols, rounded up. -/
def State.dmax (s : State) (j rate : Nat) : Nat := ceilDiv (s.f Fl.CLN_LANETIM_DMAX j) (symbolBits rate)

/-- The schedule of `n` cells fits the lane's MINPER. -/
def State.fitsMin (s : State) (j n rate fmt : Nat) : Bool :=
  fits n (telSlot fmt) (s.dmax j rate) 0 (symbolsOf rate (s.f Fl.CLN_LANECFG_MINPER j))

/-- The schedule of a lane fits its group's present effective period (R177). -/
def State.fitsNow (s : State) (j : Nat) : Bool :=
  let rate := s.f Fl.CLN_LANESTAT_RATE j
  fits (s.ln j).admitted.length (telSlot (s.f Fl.CLN_LANESTAT_FMT j)) (s.dmax j rate)
    (if (s.ln j).take = 0 then 0 else 16)
    (symbolsOf rate (s.lg (s.f Fl.CLN_LANECFG_GROUP j)).period)

/-! ### Admission (R180) -/

/-- A byte of a capability record. -/
def recByte (r : List Byte) (i : Nat) : Nat := (r.getD i 0).toNat

/-- Whether a capability record is whole: 32 bytes with their CRC (R181). -/
def recOk (r : List Byte) : Bool := r.length == 32 && frameOk r

/-- The reason for which a cell's record refuses it, 0 for none: CRC, protocol version, format A,
200 Mbaud, ramp (R180). -/
def recReason (rampMax : Nat) (r : List Byte) : Nat :=
  if !recOk r then 5
  else if 1 < recByte r 8 || recByte r 9 < 1 then 1
  else if !bitOf (recByte r 0xB) 0 then 2
  else if !bitOf (recByte r 0xA) 0 then 3
  else if rampMax < leNat ((r.drop 0xE).take 2) then 4
  else 0

/-- Shows a cell's record in CLN_CAP (R181). -/
def showCap (c : Nat) (r : List Byte) (s : State) : State :=
  s.each 8 fun w s => s.setReg R.CLN_CAP (8 * c + w) (BitVec.ofNat 32 (leNat ((r.drop (4 * w)).take 4)))

/-- Refuses a cell with a reason (R180). -/
def cellRefuse (j c reason : Nat) (s : State) : State :=
  let s := s.setF Fl.CLN_CELLST_STATE c 6 |>.setF Fl.CLN_CELLST_REFUSE c reason
  clnCause j 7 { s with cln.caps := cellsErase s.cln.caps c }

/-- A record arrives in the link start: the cell of the position is checked; two entries that name one
position refuse both (R165, R180). -/
def capStart (j pos : Nat) (r : List Byte) (s : State) : State :=
  let cs := s.slotsAt j pos
  let reason := if 1 < cs.length then 7 else recReason (s.f Fl.CLN_CTL_RAMPMAX) r
  let s := s.eachOf cs fun c s => (showCap c r s).when (reason != 0) (cellRefuse j c reason)
  s.setLn j fun x => { x with recs := cellsInsert x.recs pos (r, reason) }

/-- A record arrives for a cell being readmitted: it must equal the first one in every field but CRC
(R185). -/
def capReadmit (j pos : Nat) (r : List Byte) (s : State) : State :=
  match (s.ln j).readmit with
  | none => s
  | some c =>
    if s.f Fl.CLN_CELLMAP_POS c != pos then s else
    let first := (cellsFind s.cln.caps c).getD []
    if recOk r && r.take 30 == first.take 30 then s.setLn j fun x => { x with readmitCap := true }
    else cellRefuse j c 5 (s.setLn j fun x => { x with readmit := none })

/-- The candidates of a link start: positions whose record was not refused and that one valid entry names,
rising (R180). -/
def State.candidates (s : State) (j : Nat) : List (Nat × Nat × List Byte) :=
  (s.ln j).recs.filterMap fun e =>
    match s.slotsAt j e.1 with
    | [c] => if e.2.2 = 0 then some (e.1, c, e.2.1) else none
    | _ => none

/-- The rate of a chain: the highest in every remaining cell's RATES, not above RATEMAX (R180). -/
def chainRate (top : Nat) (l : List (Nat × Nat × List Byte)) : Nat :=
  if 2 ≤ top && l.all (fun e => bitOf (recByte e.2.2 0xA) 2) then 2
  else if 1 ≤ top && l.all (fun e => bitOf (recByte e.2.2 0xA) 1) then 1
  else 0

/-- Refuses cells from the highest position downward until the schedule fits at MINPER (R180). The fuel is
the number of cells. -/
def trimCells (j rate fmt : Nat) : Nat → List (Nat × Nat × List Byte) → State → List (Nat × Nat × List Byte) × State
  | 0, l, s => (l, s)
  | n + 1, l, s =>
    if l.isEmpty || s.fitsMin j l.length rate fmt then (l, s) else
    match l.getLast? with
    | none => (l, s)
    | some e => trimCells j rate fmt n l.dropLast (cellRefuse j e.2.1 6 s)

/-- Selection: rate, format, schedule; the cells that remain are admitted (R180). -/
def selectCells (j : Nat) (s : State) : State :=
  let l := s.candidates j
  let rate := if (s.ln j).inactive then cellsGet (s.f Fl.CLN_LANESTAT_RATE j) s.cln.backRate j
    else chainRate (s.f Fl.CLN_LANECFG_RATEMAX j) l
  let b := s.b Fl.CLN_LANECFG_FMTB j && l.all (fun e => bitOf (recByte e.2.2 0xB) 1) &&
    s.fitsMin j l.length rate 1
  let r := trimCells j rate (b2n b) l.length l s
  let s := r.2.setF Fl.CLN_LANESTAT_RATE j rate |>.setB Fl.CLN_LANESTAT_FMT j b
    |>.setF Fl.CLN_LANESTAT_NCELL j r.1.length
  let s := s.eachOf r.1 fun e s => { s with cln.caps := cellsInsert s.cln.caps e.2.1 e.2.2 }
  s.setLn j fun x => { x with admitted := r.1.map fun e => (e.1, e.2.1) }

/-- The end of ranging: DMAX over the admitted cells, the schedule with it, and NODUAL without a far-end
echo (R180, R182). -/
def rangingEnd (j : Nat) (s : State) : State :=
  let x := s.ln j
  let d := x.admitted.foldl (fun m e => max m (cellsGet 0 x.delays e.1)) 0
  let s := s.setF Fl.CLN_LANETIM_DMAX j d
  let fmt := s.f Fl.CLN_LANESTAT_FMT j
  let l := x.admitted.map fun e => (e.1, e.2, (cellsFind s.cln.caps e.2).getD [])
  let r := trimCells j (s.f Fl.CLN_LANESTAT_RATE j) fmt l.length l s
  let s := r.2.setF Fl.CLN_LANESTAT_NCELL j r.1.length
  let s := s.setLn j fun x => { x with admitted := r.1.map fun e => (e.1, e.2.1) }
  if x.farEcho then s else clnCause j 10 (s.setF Fl.CLN_LANETIM_TFAR j 0xFFFF)

/-! ### Lane states (R179, R192) -/

/-- A link start begins. -/
def startLink (j : Nat) (inactive : Bool) (s : State) : State :=
  let s := s.setF Fl.CLN_LANESTAT_STATE j 1 |>.setF Fl.CLN_LANESTAT_NCELL j 0
    |>.setF Fl.CLN_LANESTAT_NENUM j 0
  let s := s.eachOf (s.laneSlots j) fun c s => s.setReg R.CLN_CELLST c 0x20000000
  s.setLn j fun x => { x with step := 1, recs := [], delays := [], admitted := [], telemetry := [],
                              inactive := inactive, farEcho := false, readmit := none, hold := false,
                              from_ := none, take := 0 }

/-- A lane falls silent: its cells unlink. -/
def laneQuiet (j : Nat) (s : State) : State :=
  let s := s.setF Fl.CLN_LANESTAT_STATE j 0 |>.setB Fl.CLN_LANESTAT_SCHEDERR j false
  let s := s.when (j < 16) fun s => s.setFBit Fl.CLN_STAT_READY 0 j false
  let s := s.eachOf (s.laneSlots j) fun c s => s.setF Fl.CLN_CELLST_STATE c 0
  s.setLn j fun x => { x with step := 0, admitted := [], telemetry := [], readmit := none,
                              hold := false, from_ := none, take := 0 }

/-- A lane goes down: its cells unlink, and its group's grid may stop (R113, R192). -/
def laneDown (j : Nat) (s : State) : State :=
  let was := s.laneSt j
  let s := laneQuiet j s
  let s := s.when (j < 16 && (was == 2 || was == 3 || was == 4)) (clnCause j 1)
  gridCheck (s.f Fl.CLN_LANECFG_GROUP j) s

/-- READY: the lane joins the schedule of its group (R179). -/
def laneReady (j : Nat) (s : State) : State :=
  let back := (s.ln j).inactive
  let s := s.setF Fl.CLN_LANESTAT_STATE j 2 |>.setFBit Fl.CLN_STAT_READY 0 j true
  let s := s.eachOf (s.ln j).admitted fun e s => s.setF Fl.CLN_CELLST_STATE e.2 (if back then 4 else 2)
  let s := s.setLn j fun x => { x with step := 0, exchange := 0, take := if back then 3 else 0, hold := back,
                                       from_ := none, inactive := false }
  clnCause j 0 s

/-- EN is set: a down lane starts its link start, a stopping one records it; a guard lane monitors (R164,
R179, R192). -/
def laneEnable (j : Nat) (s : State) : State :=
  if 32 ≤ j then s else
  let s := s.setB Fl.CLN_LANECFG_EN j true
  match s.laneSt j with
  | 0 => if j < 16 then startLink j false s else s.setF Fl.CLN_LANESTAT_STATE j 5
  | 3 => s.setF Fl.CLN_LANESTAT_STATE j 4
  | _ => s

/-- EN is cleared (R192). -/
def laneDisable (j : Nat) (s : State) : State :=
  if 32 ≤ j then s else
  let s := s.setB Fl.CLN_LANECFG_EN j false
  match s.laneSt j with
  | 2 => s.setF Fl.CLN_LANESTAT_STATE j 3
  | 4 => s.setF Fl.CLN_LANESTAT_STATE j 3
  | 5 => laneDown j s
  | 6 => laneDown j s
  | _ => s

/-- One step of a link start ends (R179). -/
def linkStep (j nEnum : Nat) (s : State) : State :=
  if !(j < 16) || s.laneSt j != 1 then s
  else if !s.b Fl.CLN_LANECFG_EN j && !(s.ln j).inactive then laneDown j s
  else
    let step := (s.ln j).step
    let s := match step with
      | 2 => s.setF Fl.CLN_LANESTAT_NENUM j (min nEnum 32)
      | 3 => s.eachOf ((s.laneSlots j).filter fun c => (cellsFind (s.ln j).recs (s.f Fl.CLN_CELLMAP_POS c)).isNone)
          fun c s => s.setF Fl.CLN_CELLST_STATE c 0
      | 4 => selectCells j s
      | 6 => rangingEnd j s
      | _ => s
    if step < 8 then s.setLn j fun x => { x with step := step + 1 } else laneReady j s

/-- A stopping lane is down; a pending enable begins its link start (R192). -/
def laneStopped (j : Nat) (elapsed : Bool) (s : State) : State :=
  let st := s.laneSt j
  let small := (s.ln j).admitted.all fun e => decide ((s.cellIn e.2 0).natAbs < 2 ^ 13)
  if (st == 3 || st == 4) && (elapsed || small) then
    let s := laneDown j s
    s.when (st == 4) (startLink j false)
  else s

/-! ### Exchanges (R170 to R177, R188) -/

/-- A signed field of `width` bits from a signal: half of the dropped part is added, the upper bits are
taken, saturating (R171). -/
def roundField (width : Nat) (m : Int) : Nat :=
  unsignedOf width (saturate width (floorDiv (m + 2 ^ (23 - width)) (2 ^ (24 - width)))).1

/-- The command payload (R171). -/
def commandWord (o : Int × Int × Int) (mode seq : Nat) : Nat :=
  unsignedOf 24 o.1 * 2 ^ 24 + roundField 12 o.2.1 * 2 ^ 12 + roundField 7 o.2.2 * 2 ^ 5 + mode * 8 + seq % 4

/-- The slot's batch runs in a group other than its lane's (R172). -/
def State.groupErr (s : State) (j c : Nat) : Bool :=
  s.batchOn (c / 16) && s.slotGroup c != s.f Fl.CLN_LANECFG_GROUP j

/-- The outputs of the slot's window were discarded by an overrun (R161). -/
def State.discarded (s : State) (c : Nat) : Bool :=
  s.lpe.ready.any fun r => r.late && r.batch == c / 16 && bitOf r.mask (c % 16)

/-- The exchanges hold their cells: no window has used telemetry of this lane's exchanges yet (R188). -/
def State.holding (s : State) (j : Nat) : Bool :=
  (s.ln j).hold && (match (s.ln j).from_ with
    | none => true
    | some w => decide ((s.lg (s.f Fl.CLN_LANECFG_GROUP j)).ticks < w + 2))

/-- The command frame of one admitted cell (R172, R185, R188). -/
def sendCommand (j c : Nat) (s : State) : State :=
  let st := s.f Fl.CLN_CELLST_STATE c
  let seq := (s.ln j).exchange
  let put (mode : Nat) (o : Int × Int × Int) (st : Nat) (s : State) : State :=
    { s with cln.command := cellsInsert s.cln.command c (commandWord o mode seq) }.setF Fl.CLN_CELLST_STATE c st
  let err := s.groupErr j c
  let s := s.setB Fl.CLN_CELLST_GROUPERR c err
  let off := put 0 (0, 0, 0) (if st == 5 || st == 7 then st else 2)
  if s.discarded c then s
  else if st == 5 || st == 7 || s.laneSt j == 3 || s.laneSt j == 4 || err then off s
  else if s.holding j then put 2 (0, 0, 0) 4 s
  else match cellsFind s.lpe.handed c with
    | some o => put 1 o 3 s
    | none => off s

/-- The engine commands cells in this state of the device: in Luff the exchanges carry no commands
(R193). -/
def State.lanesIdle (s : State) : Bool := s.f Fl.SYS_PWRSTAT_STATE == 1

/-- A lane takes part in the exchanges of its group; the home lanes of a displaced module send idle (R474). -/
def State.exchanging (s : State) (j : Nat) : Bool :=
  let st := s.laneSt j
  !(s.rng.silent && j < 16) && (st == 2 || st == 3 || st == 4 || st == 6)

/-- The exchange of one lane leaves at the launch instant: SYNC, then the commands (R175). -/
def laneExchange (j : Nat) (s : State) : State :=
  let x := s.ln j
  let idle := s.b Fl.CLN_LANESTAT_SCHEDERR j || s.lanesIdle
  let half := s.b Fl.LPE_GROUP_HALF (s.f Fl.CLN_LANECFG_GROUP j)
  let flags := b2n (16 ≤ j) + 2 * b2n half + 4 * b2n idle
  let body : List Byte := [BitVec.ofNat 8 x.exchange, BitVec.ofNat 8 flags]
  let s := s.setLn j fun x => { x with sync := body ++ [BitVec.ofNat 8 (crc8 body)], take := x.take - 1,
                                       telemetry := [] }
  let s := if idle then s else s.eachOf x.admitted fun e s => sendCommand j e.2 s
  s.setLn j fun x => { x with exchange := x.exchange + 1 }

/-- Outputs are handed over and the exchanges of the group's lanes leave (R114, R175). -/
def outputLaunch (g : Nat) (s : State) : State :=
  if 8 ≤ g || !(s.lg g).grid then s else
  let s := handOutputs g s
  s.each 32 fun j s => if s.exchanging j && s.f Fl.CLN_LANECFG_GROUP j == g then laneExchange j s else s

/-- The fit of a lane's schedule at a tick (R177). -/
def laneFit (g : Nat) (s : State) : State :=
  s.each 32 fun j s =>
    if s.exchanging j && s.f Fl.CLN_LANECFG_GROUP j == g then
      let bad := !s.fitsNow j
      (s.setB Fl.CLN_LANESTAT_SCHEDERR j bad).when bad (clnCause j 4)
    else s

/-- A counter of a lane rises by one (R187). -/
def countUp (fl : Fld) (j : Nat) (s : State) : State := s.satF fl j 1

/-- A telemetry frame in a position's slot: a frame with a violation, or one that fails its check, is
counted and discarded (R169, R187). -/
def telemetryFrame (j pos : Nat) (bytes : List Byte) (violation : Bool) (s : State) : State :=
  if !(j < 32) || !s.exchanging j || s.b Fl.CLN_LANESTAT_SCHEDERR j then s
  else if violation then countUp Fl.CLN_ERRA_CODEV j s
  else
    let fmt := s.f Fl.CLN_LANESTAT_FMT j
    let h := (bytes.headD 0).toNat
    if frameOk bytes && h / 32 == 1 + fmt && h % 32 == pos && bytes.length == (if fmt = 0 then 15 else 27) then
      s.setLn j fun x => { x with telemetry := cellsInsert x.telemetry pos ((bytes.drop 1).dropLast.dropLast) }
    else countUp Fl.CLN_ERRA_CRCUP j s

/-- The input words, IAVAIL and status of one cell's telemetry (R173, R174). -/
def takeTelemetry (j c fmt : Nat) (p : List Byte) (s : State) : State :=
  let v := leNat p
  let at_ (lsb width : Nat) : Int := signedOf width (v / 2 ^ lsb)
  let s := if fmt = 0 then
      setCellIn c 0 (at_ 72 24) s |> setCellIn c 1 (at_ 48 24) |> setCellIn c 2 (at_ 32 16 * 2 ^ 8)
        |> setCellIn c 3 (at_ 24 8 * 2 ^ 16) |> setCellIn c 4 0 |> setCellIn c 5 (at_ 8 16 * 2 ^ 8)
    else
      let s := setCellIn c 0 (at_ 168 24) s |> setCellIn c 1 (at_ 144 24) |> setCellIn c 2 (at_ 120 24)
        |> setCellIn c 3 (at_ 104 16 * 2 ^ 8) |> setCellIn c 4 (at_ 80 24) |> setCellIn c 5 (at_ 56 24)
      { s with cln.iAvail := cellsInsert s.cln.iAvail c (at_ 32 24) }
  let stat := v / 16 % 16
  let s := s.setF Fl.CLN_CELLST_STAT c stat |>.setF Fl.CLN_CELLST_MISS c (v % 4) |>.setF Fl.CLN_CELLST_STALE c 0
  s.when (bitOf stat 0) (countUp Fl.CLN_ERRB_CRCDN j)

/-- The first position from which on every admitted position is silent in this exchange (R186). -/
def breakAt (silent : Nat → Bool) (l : List (Nat × Nat)) : Option Nat :=
  ((l.reverse.takeWhile fun e => silent e.1).getLast?).map (·.1)

/-- The end of an exchange (R174, R185, R186). -/
def exchangeEnd (j : Nat) (s : State) : State :=
  if !(j < 32) || !s.exchanging j || s.b Fl.CLN_LANESTAT_SCHEDERR j then s else
  let x := s.ln j
  let fmt := s.f Fl.CLN_LANESTAT_FMT j
  let s := s.eachOf x.admitted fun e s =>
    match cellsFind x.telemetry e.1 with
    | some p => takeTelemetry j e.2 fmt p s
    | none => countUp Fl.CLN_ERRB_MISSTEL j
        (s.setF Fl.CLN_CELLST_STALE e.2 (min 3 (s.f Fl.CLN_CELLST_STALE e.2 + 1)))
  let s := match breakAt (fun p => (cellsFind x.telemetry p).isNone) x.admitted with
    | none => s
    | some p => clnCause j 3 (s.setF Fl.CLN_LANESTAT_BREAKPOS j p)
  let first := x.hold && x.from_.isNone && !x.telemetry.isEmpty
  let s := s.when first fun s => initSlots (x.admitted.map (·.2)) (s.setLn j fun x =>
    { x with from_ := some (s.lg (s.f Fl.CLN_LANECFG_GROUP j)).ticks })
  s.setLn j fun x => { x with telemetry := [] }

/-- The lane of a cell slot. -/
def State.cellLane (s : State) (c : Nat) : Nat := s.mapLane c

/-- A cell with three missing frames in succession is lost (R185). -/
def cellLost (c : Nat) (s : State) : State :=
  let st := s.f Fl.CLN_CELLST_STATE c
  if c < 1024 && (st == 2 || st == 3 || st == 4 || st == 7) && s.f Fl.CLN_CELLST_STALE c == 3 then
    removeCell c 3 (clnCause (s.cellLane c) 2 (s.setF Fl.CLN_CELLST_STATE c 5))
  else s

/-- A lost cell is to be readmitted (R185). -/
def cellReadmit (c : Nat) (s : State) : State :=
  let j := s.cellLane c
  if c < 1024 && s.f Fl.CLN_CELLST_STATE c == 5 && (s.ln j).readmit.isNone && s.exchanging j then
    s.setLn j fun x => { x with readmit := some c, readmitCap := false, readmitRange := false }
  else s

/-- The readmission ends: ready where the cell answered, else still lost (R185). -/
def readmitEnd (c : Nat) (s : State) : State :=
  let j := s.cellLane c
  let x := s.ln j
  if x.readmit == some c then
    let s := s.setLn j fun x => { x with readmit := none }
    if x.readmitCap && x.readmitRange then
      s.setF Fl.CLN_CELLST_STATE c 2 |>.setF Fl.CLN_CELLST_STALE c 0
    else s
  else s

/-- A RANGE echo: delay = (round trip − 16 symbols) ÷ 2 in bit times (R182). -/
def rangeEcho (j : Nat) (pos : Option Nat) (roundTrip : Nat) (s : State) : State :=
  if 32 ≤ j then s else
  let d := (roundTrip - 16 * symbolBits (s.f Fl.CLN_LANESTAT_RATE j)) / 2
  let x := s.ln j
  match pos with
  | none =>
    if s.laneSt j == 1 && x.step == 6 then
      (s.setF Fl.CLN_LANETIM_TFAR j (min d 0xFFFE)).setLn j fun x => { x with farEcho := true }
    else s
  | some p =>
    if s.laneSt j == 1 && x.step == 6 then s.setLn j fun x => { x with delays := cellsInsert x.delays p d }
    else match x.readmit with
      | some c =>
        if s.f Fl.CLN_CELLMAP_POS c == p then
          let s := s.setLn j fun x => { x with delays := cellsInsert x.delays p d, readmitRange := true }
          s.setF Fl.CLN_LANETIM_DMAX j
            ((s.ln j).admitted.foldl (fun m e => max m (cellsGet 0 (s.ln j).delays e.1)) 0)
        else s
      | none => s

/-- A write of a map entry takes effect only while the old and the new lane are down; guest entries are
written in takeover only (R165, R166). -/
def cellmapWrite (c : Nat) (v : Word) (s : State) : State :=
  if 1024 ≤ c then s else
  let new := s.setReg R.CLN_CELLMAP c (v &&& R.CLN_CELLMAP.rw)
  if s.laneSt (s.mapLane c) == 0 && s.laneSt (new.mapLane c) == 0 then new else s

/-! ### Errors (R187) -/

/-- Some counter of a lane has reached ERRTH. -/
def State.errReached (s : State) (j : Nat) : Bool :=
  let t := s.f Fl.CLN_LANECFG_ERRTH j
  t != 0 && [Fl.CLN_ERRA_CODEV, Fl.CLN_ERRA_CRCUP, Fl.CLN_ERRB_CRCDN, Fl.CLN_ERRB_MISSTEL, Fl.CLN_ERRC_MGTO,
    Fl.CLN_ERRC_RELOCK].any fun fl => t ≤ s.f fl j

/-- ERRTH of a lane. -/
def errorThreshold (j : Nat) (s : State) : State :=
  if j < 32 && s.errReached j then clnCause j (if j < 16 then 6 else 13) s else s

/-- CLN_ERRCLR clears the counters of lanes. -/
def errorsClear (mask : Word) (s : State) : State :=
  s.each 32 fun j s => s.when (bitOf mask.toNat j) fun s =>
    s.setReg R.CLN_ERRA j 0 |>.setReg R.CLN_ERRB j 0 |>.setReg R.CLN_ERRC j 0

/-- The land of a lane trip line changes level (R190). -/
def laneTripLevel (j : Nat) (low : Bool) (s : State) : State :=
  let was := s.b Fl.CLN_LANESTAT_TRIP j
  (s.setB Fl.CLN_LANESTAT_TRIP j low).when (low && !was) (clnCause j (if j < 16 then 5 else 12))

/-! ### Management access (R191) -/

/-- The request ends. -/
def mgmtEnd (err : Nat) (s : State) : State :=
  ({ s with cln.request := none }).setB Fl.CLN_MGSTAT_BUSY 0 false |>.setB Fl.CLN_MGSTAT_DONE 0 true
    |>.setF Fl.CLN_MGSTAT_ERR 0 err

/-- GO: the request waits for its window, or ends at once. -/
def mgmtRequest (s : State) : State :=
  let j := s.f Fl.CLN_MGREQ_LANE
  let len := s.f Fl.CLN_MGREQ_LEN
  if s.b Fl.CLN_MGSTAT_BUSY then s
  else if len == 0 || 32 < len then mgmtEnd 6 s
  else if !(s.laneSt j == 2 && j < 16) && s.laneSt j != 6 then mgmtEnd 4 s
  else ({ s with cln.request := some (j, s.f Fl.CLN_MGREQ_POS) }).setB Fl.CLN_MGSTAT_BUSY 0 true
    |>.setB Fl.CLN_MGSTAT_DONE 0 false |>.setF Fl.CLN_MGSTAT_ERR 0 0

/-- The response arrives: status 0 good, 2 bad response, 3 refused by the cell. -/
def mgmtResponse (status : Nat) (cstat : Byte) (data : List Byte) (s : State) : State :=
  if !s.b Fl.CLN_MGSTAT_BUSY then s else
  let err := if status == 0 || status == 3 then status else 2
  let s := s.setF Fl.CLN_MGSTAT_CSTAT 0 cstat.toNat
  let s := if err == 0 && !s.b Fl.CLN_MGREQ_WR then
      s.each 8 fun w s =>
        let bs := (data.take (s.f Fl.CLN_MGREQ_LEN)).drop (4 * w)
        if bs.isEmpty then s else s.setReg R.CLN_MGBUF w (BitVec.ofNat 32 (leNat (bs.take 4)))
    else s
  mgmtEnd err s

/-- No response within 1 ms. -/
def mgmtTimeout (s : State) : State :=
  match s.cln.request with
  | none => s
  | some (j, _) => mgmtEnd 1 (countUp Fl.CLN_ERRC_MGTO j s)

/-! ### Guard lanes, takeover and return (R164, R188, R189) -/

/-- A guard lane becomes active: shadowed rate and format, TAKE in three exchanges, MODE hold until a
window uses its telemetry (R188). -/
def guardActivate (k : Nat) (s : State) : State :=
  let j := 16 + k
  let slots := s.laneSlots j
  if slots.isEmpty || s.laneSt j != 5 then s else
  let sh := cellsGet (2, 0, 0) s.cln.shadow j
  let s := s.setF Fl.CLN_LANESTAT_STATE j 6 |>.setF Fl.CLN_LANESTAT_RATE j sh.1
    |>.setF Fl.CLN_LANESTAT_FMT j sh.2.1 |>.setF Fl.CLN_LANETIM_DMAX j sh.2.2
  let adm := ((List.range 32).map fun p => (s.slotsAt j p).map fun c => (p, c)).flatten
  let s := s.setF Fl.CLN_LANESTAT_NCELL j adm.length
  let s := s.eachOf adm fun e s => s.setF Fl.CLN_CELLST_STATE e.2 4
  let s := s.setLn j fun x => { x with admitted := adm, exchange := 0, take := 3, hold := true, from_ := none,
                                       telemetry := [] }
  clnCause k 11 s

/-- Guard lanes go back to monitoring (R467's return). -/
def guardRelease (s : State) : State :=
  s.each 16 fun k s => if s.laneSt (16 + k) == 6 then (laneDown (16 + k) s).setF Fl.CLN_LANESTAT_STATE (16 + k) 5 else s

/-- The traffic a guard lane receives: a valid frame shows the chain's end alive, the first SYNC that its
lane has reached ready; a far-end RANGE is echoed; no bytes stand for silence (R164, R169, R170). -/
def guardTraffic (j : Nat) (frame : List Byte) (s : State) : State :=
  if j < 16 || 32 ≤ j || s.laneSt j != 5 then s else
  let k := j - 16
  if frame.isEmpty then
    let was := bitOf (s.f Fl.CLN_STAT_GUARDOK) k
    ((s.setFBit Fl.CLN_STAT_GUARDOK 0 k false).setLn j fun x => { x with synced := false }).when was (clnCause j 9)
  else if frame.length == 3 && leNat (frame.drop 2) == crc8 (frame.take 2) then
    let s := s.setFBit Fl.CLN_STAT_GUARDOK 0 k true
    if (s.ln j).synced then s else clnCause j 8 (s.setLn j fun x => { x with synced := true })
  else if frameOk frame && (frame.headD 0).toNat / 32 < 6 then
    let s := s.setFBit Fl.CLN_STAT_GUARDOK 0 k true
    if (frame.headD 0).toNat / 32 == 5 then s.setLn j fun x => { x with echoed := frame } else s
  else countUp Fl.CLN_ERRA_CRCUP j s

/-- A lane loses lock: RELOCK counts, the lane goes down; a guard lane loses its traffic (R187). -/
def lockLost (j : Nat) (s : State) : State :=
  if 32 ≤ j || s.laneSt j == 0 then s else
  let s := countUp Fl.CLN_ERRC_RELOCK j s
  if s.laneSt j == 5 then guardTraffic j [] s else laneDown j s

/-- Step 2 of the save sequence: a chain with a guard end and a buddy in service falls idle; every other
chain receives one frame with MODE orderly stop (R35, R172). -/
def lanesSave (buddy : Bool) (s : State) : State :=
  s.each 32 fun j s =>
    if !s.exchanging j || (buddy && j < 16 && s.f Fl.CLN_LANETIM_TFAR j != 0xFFFF) then s else
    s.eachOf (s.ln j).admitted fun e s =>
      ({ s with cln.command := cellsInsert s.cln.command e.2 (commandWord (0, 0, 0) 3 (s.ln j).exchange) }).setF
        Fl.CLN_CELLST_STATE e.2 7

/-- A write of CLN_LANECFG[j]: a group outside the lane's range discards the whole write (R194). -/
def laneCfgWrite (j : Nat) (v : Word) (s : State) : State :=
  let new := s.setReg R.CLN_LANECFG j (v &&& R.CLN_LANECFG.rw)
  let g := new.f Fl.CLN_LANECFG_GROUP j
  if (j < 16) != (g < 4) then s else
  let was := s.b Fl.CLN_LANECFG_EN j
  let en := new.b Fl.CLN_LANECFG_EN j
  if en && !was then laneEnable j new else if !en && was then laneDisable j new else new

end Sys2Proof.Machine
end

