-- ==== Sys2Proof/Machine/Solver.lean ====
section
/-! DEFINITION. The allocation solver: hierarchical weighted water-filling over the constraint tree and the
dispatch of support strings, in the integer arithmetic the manual states (R246 to R256). -/

namespace Sys2Proof.Machine

/-- One node of the tree in force (R245, R247). -/
structure TreeNode where
  num : Nat
  /-- parent; 0xFFF for a root -/
  parent : Nat
  owner : Nat
  msrc : Nat
  /-- effective limit, W -/
  limit : Nat
  /-- uncontrolled load U, W -/
  load : Nat
  deriving DecidableEq, Repr, Inhabited

/-- One consumer of the tree: a port, or a string in charge or support (R246, R249, R251). -/
structure Consumer where
  key : Nat
  parent : Nat
  cls : Nat
  weight : Nat
  /-- demand that is left, W -/
  d : Nat
  /-- granted so far, W -/
  a : Nat := 0
  /-- support offer, W -/
  offer : Nat := 0
  /-- dispatched support, W -/
  disp : Nat := 0
  deriving DecidableEq, Repr, Inhabited

/-- A valid node of that number. -/
def findNode (t : List TreeNode) (n : Nat) : Option TreeNode := t.find? fun x => x.num == n

/-- `n` is the node `top` or lies below it; the fuel bounds the climb. -/
def climbs (t : List TreeNode) (top : Nat) : Nat → Nat → Bool
  | 0, _ => false
  | fuel + 1, n =>
    if n == top then true
    else match findNode t n with
      | none => false
      | some x => x.parent != 0xFFF && climbs t top fuel x.parent

/-- Consumer `c` is attached to node `n` or below it. -/
def below (t : List TreeNode) (n : Nat) (c : Consumer) : Bool := climbs t n (t.length + 1) c.parent

/-- Every valid node climbs to a root: no parent is missing and no cycle exists (R245). -/
def reachesRoot (t : List TreeNode) : Nat → Nat → Bool
  | 0, _ => false
  | fuel + 1, n =>
    match findNode t n with
    | none => false
    | some x => x.parent == 0xFFF || reachesRoot t fuel x.parent

/-- A child in a share: tie key, demand, weight. -/
structure Child where
  tie : Nat
  d : Nat
  w : Nat
  deriving DecidableEq, Repr, Inhabited

/-- Tie order of a generation: 1 by key, 2 rotating with SEQ (R254). -/
def tieRank (gen seq key : Nat) : Nat :=
  if gen = 2 then (key + 16384 * (seq / 16384 + 1) - seq) % 16384 else key

/-- The order of a share: lower demand per weight first, equal ones by tie (R253). -/
def childLe (gen seq : Nat) (a b : Child) : Bool :=
  if a.d * b.w = b.d * a.w then decide (tieRank gen seq a.tie ≤ tieRank gen seq b.tie)
  else decide (a.d * b.w < b.d * a.w)

/-- Shares a grant among ordered children (R253). -/
def shareOut : Nat → Nat → List Child → List (Nat × Nat)
  | _, _, [] => []
  | g, w, k :: ks =>
    let x := if w = 0 then 0 else g * k.w / w
    let y := min x k.d
    (k.tie, y) :: shareOut (g - y) (w - k.w) ks

/-- The grants of a node's children (R253). -/
def share (gen seq g : Nat) (l : List Child) : List (Nat × Nat) :=
  let k := sortBy (childLe gen seq) (l.filter fun c => 0 < c.d)
  shareOut g (k.foldl (fun a c => a + c.w) 0) k

/-- The capacity left at each node. -/
abbrev Room := List (Nat × Nat)

/-- Capacity left at a node. -/
def roomOf (r : Room) (n : Nat) : Nat := ((r.find? fun e => e.1 == n).map (·.2)).getD 0

/-- A consumer of class `c` with its demand, as a child; a weight of 0 acts as 1 (R253). -/
def consumerChild (c : Nat) (x : Consumer) : Child :=
  let d := if x.cls = c then x.d else 0
  { tie := x.key, d := d, w := if d = 0 then 0 else max 1 x.weight }

/-- Demand and weight of a node for class `c`, children before parents (R253). -/
def nodeChild (t : List TreeNode) (cs : List Consumer) (r : Room) (c : Nat) : Nat → Nat → Child
  | 0, n => { tie := n, d := 0, w := 0 }
  | fuel + 1, n =>
    let kids := ((t.filter fun x => x.parent == n).map fun x => nodeChild t cs r c fuel x.num) ++
      ((cs.filter fun x => x.parent == n).map (consumerChild c))
    { tie := n
      d := min (roomOf r n) (kids.foldl (fun a k => a + k.d) 0)
      w := kids.foldl (fun a k => a + k.w) 0 }

/-- Grants below a node, parents before children: consumer keys with their grants (R253). -/
def grantBelow (gen seq : Nat) (t : List TreeNode) (cs : List Consumer) (r : Room) (c : Nat) :
    Nat → Nat → Nat → List (Nat × Nat)
  | 0, _, _ => []
  | fuel + 1, n, g =>
    let nodes := t.filter fun x => x.parent == n
    let kids := (nodes.map fun x => nodeChild t cs r c fuel x.num) ++
      ((cs.filter fun x => x.parent == n).map (consumerChild c))
    let out := share gen seq g kids
    ((out.filter fun e => nodes.any fun x => x.num == e.1).map fun e =>
        grantBelow gen seq t cs r c fuel e.1 e.2).flatten ++
      out.filter fun e => !nodes.any fun x => x.num == e.1

/-- One priority class (R253). -/
def solveClass (gen seq : Nat) (t : List TreeNode) (c : Nat) (st : List Consumer × Room) :
    List Consumer × Room :=
  let cs := st.1
  let r := st.2
  let fuel := t.length + 1
  let roots := t.filter fun x => x.parent == 0xFFF
  let g := (roots.map fun x =>
    grantBelow gen seq t cs r c fuel x.num (nodeChild t cs r c fuel x.num).d).flatten
  let grant (k : Nat) : Nat := ((g.find? fun e => e.1 == k).map (·.2)).getD 0
  (cs.map fun x => { x with a := x.a + grant x.key, d := x.d - grant x.key },
    r.map fun e => (e.1, e.2 - (cs.filter (below t e.1)).foldl (fun a x => a + grant x.key) 0))

/-- Depth of a node, roots 0. -/
def depth (t : List TreeNode) : Nat → Nat → Nat
  | 0, _ => 0
  | fuel + 1, n =>
    match findNode t n with
    | none => 0
    | some x => if x.parent == 0xFFF then 0 else depth t fuel x.parent + 1

/-- Dispatches the support strings below one node (R255). -/
def dispatchNode (t : List TreeNode) (n : TreeNode) (cs : List Consumer) : List Consumer :=
  let mine := cs.filter (below t n.num)
  let load := mine.foldl (fun a x => a + x.a) 0
  let used := mine.foldl (fun a x => a + x.disp) 0
  let need := load - (n.limit - n.load) - used
  let keys := sortBy (fun a b : Consumer => decide (a.key ≤ b.key)) (mine.filter fun x => 0 < x.offer)
  (keys.foldl (fun (st : List Consumer × Nat) x =>
    let y := min st.2 (x.offer - x.disp)
    (st.1.map fun z => if z.key == x.key then { z with disp := z.disp + y } else z, st.2 - y)) (cs, need)).1

/-- The whole solve: classes in ascending order, then the dispatch, nodes with children before parents
(R253, R255). -/
def solveTree (gen seq clsen : Nat) (t : List TreeNode) (cs : List Consumer) : List Consumer × Room :=
  let r : Room := t.map fun n =>
    (n.num, (n.limit - n.load) + (cs.filter (below t n.num)).foldl (fun a x => a + x.offer) 0)
  let st := (List.range 8).foldl (fun st c => if bitOf clsen c then solveClass gen seq t c st else st) (cs, r)
  let order := sortBy (fun a b : TreeNode => decide (depth t t.length b.num ≤ depth t t.length a.num)) t
  (order.foldl (fun cs n => dispatchNode t n cs) st.1, st.2)

end Sys2Proof.Machine
end

