-- ==== Sys2Proof/Machine/Alloc.lean ====
section
/-! DEFINITION. Site allocation: periods, halyards, the node table, the solve and its application (R235 to
R268). -/

namespace Sys2Proof.Machine

/-- A cause of the ALC block: bit `j` raises event 56 + j (R268). -/
def alcCause (j : Nat) (s : State) : State := s.causeOn Fl.ALC_STAT_CAUSE Fl.ALC_CTL_EVEN 0 j (56 + j)

/-! ### Access -/

/-- The module's own identifier. -/
def State.modid (s : State) : Nat := s.f Fl.RNG_CFG_MODID

/-- The module is in a ring view of several members. -/
def State.inView (s : State) : Bool := 1 < s.f Fl.RNG_VIEWST_NMEM

/-- A module is a member of the ring view. -/
def State.member (s : State) (m : Nat) : Bool := bitOf (s.f Fl.RNG_MEM_MOD (m / 32)) (m % 32)

/-- The other members of the ring view. -/
def State.others (s : State) : List Nat :=
  if s.inView then (List.range 256).filter fun m => s.member m && m != s.modid else []

/-- Modules in the ring view, proxies included; a module alone counts itself (R238). -/
def State.viewSize (s : State) : Nat := s.others.length + 1 + b2n (s.b Fl.RNG_STAT_GUEST)

/-- A word of a halyard. -/
def halWord (h : List Byte) (off : Nat) : Nat := leNat ((h.drop off).take 4)

/-- A word of a port record (R240). -/
def halPort (h : List Byte) (p w : Nat) : Nat := halWord h (0x20 + 40 * p + 4 * w)

/-- A word of a string record (R241). -/
def halStr (h : List Byte) (i w : Nat) : Nat := halWord h (0x3E0 + 36 * i + 4 * w)

/-- A word of a node record (R242). -/
def halNode (h : List Byte) (j w : Nat) : Nat := halWord h (0x500 + 12 * j + 4 * w)

/-- A word of a halyard replaced. -/
def halPut (h : List Byte) (off v : Nat) : List Byte := h.take off ++ leBytes 4 v ++ h.drop (off + 4)

/-- Module a halyard speaks for. -/
def halMod (h : List Byte) : Nat := leNat (h.take 1)

/-- Sequence number of a halyard. -/
def halSeq (h : List Byte) : Nat := halWord h 4

/-! ### The node table (R245) -/

/-- A word of the table in force. -/
def State.tableWord (s : State) (n w : Nat) : Word :=
  cellsGet (if w = 0 then R.ALC_NODE0.reset else R.ALC_NODE1.reset) s.alc.table (2 * n + w)

/-- The shadow table as the table in force would hold it: words that differ from their reset. -/
def State.shadowTable (s : State) : List (Nat × Word) :=
  (List.range 4096).foldr (fun n l =>
    let a := s.reg R.ALC_NODE0 n
    let b := s.reg R.ALC_NODE1 n
    let l := if b = R.ALC_NODE1.reset then l else (2 * n + 1, b) :: l
    if a = R.ALC_NODE0.reset then l else (2 * n, a) :: l) []

/-- The valid nodes of a table, their dynamic fields not yet filled in. -/
def nodesOf (w0 w1 : Nat → Word) : List TreeNode :=
  (List.range 4096).filterMap fun n =>
    let a := w0 n
    if bitOf a.toNat 31 then
      some { num := n, parent := bitsOf a 0 12, owner := bitsOf a 16 8, msrc := bitsOf a 24 4,
             limit := (w1 n).toNat, load := 0 }
    else none

/-- The valid nodes in force. -/
def State.nodes (s : State) : List TreeNode := nodesOf (fun n => s.tableWord n 0) fun n => s.tableWord n 1

/-- TREEDIG: CRC-32 over the table, word by word in node order. -/
def State.tableDigest (s : State) : Word :=
  crc32 ((List.range 4096).map fun n => leBytes 4 (s.tableWord n 0).toNat ++ leBytes 4 (s.tableWord n 1).toNat).flatten

/-! ### Admission (R235, R238) -/

/-- The accepted periods, µs. -/
def periods : List Nat := [250, 400, 500, 625, 1000, 1250, 2000, 2500, 5000, 10000]

/-- T_solve, ns, for an enabled-class word and a number of nodes (R238). -/
def State.tSolve (s : State) (clsen n : Nat) : Nat := 5000 + 20 * (popCount 8 clsen * n + 32 * s.viewSize)

/-- Admission: XWIN + T_solve + 20 µs ≤ PERIOD. -/
def State.alcFits (s : State) (period xwin clsen n : Nat) : Bool :=
  decide (1000 * xwin + s.tSolve clsen n + 20000 ≤ 1000 * period)

/-- Number of valid nodes in force. -/
def State.nodeCount (s : State) : Nat := s.nodes.length

/-- Shows the present bound, µs, rounded up. -/
def showBound (s : State) : State :=
  s.setF Fl.ALC_TSOLVE_WORST 0 (min 65535 (ceilDiv (s.tSolve (s.f Fl.ALC_CFG_CLSEN) s.nodeCount) 1000))

/-- A write of PERIOD, µs: accepted values wait for the next multiple of 10 ms (R235). -/
def periodWrite (p : Nat) (s : State) : State :=
  if periods.contains p && s.alcFits p (s.f Fl.ALC_WIN_XWIN) (s.f Fl.ALC_CFG_CLSEN) s.nodeCount then
    { s with alc.periodPend := some (p, s.now / 10 ^ 7) }
  else alcCause 3 s

/-- A write of XWIN and CLSEN (R238). -/
def alcConfigWrite (xwin clsen : Nat) (s : State) : State :=
  if xwin < 65536 && clsen < 256 && s.alcFits (s.f Fl.ALC_CFG_PERIOD) xwin clsen s.nodeCount then
    showBound (s.setF Fl.ALC_WIN_XWIN 0 xwin |>.setF Fl.ALC_CFG_CLSEN 0 clsen)
  else alcCause 3 s

/-- The commit at a snapshot: refused for a parent that is no valid node, a cycle, an owner of more than
256 nodes, or failing admission (R245). -/
def treeCommit (s : State) : State :=
  let s := { s with alc.commit := false }
  let new := { s with alc.table := s.shadowTable }
  let t := new.nodes
  let ok := t.all (fun x => reachesRoot t (t.length + 1) x.num) &&
    (List.range 256).all (fun m => (t.filter fun x => x.owner == m).length ≤ 256) &&
    s.alcFits (s.f Fl.ALC_CFG_PERIOD) (s.f Fl.ALC_WIN_XWIN) (s.f Fl.ALC_CFG_CLSEN) t.length
  if ok then showBound (new.setReg R.ALC_TREEDIG 0 new.tableDigest) else alcCause 3 s

/-! ### The snapshot (R237, R239 to R244) -/

/-- The consumers are sent as active: the allocator is enabled (R267). -/
def State.alcOn (s : State) : Bool := s.b Fl.ALC_CTL_EN

/-- A 1 ms average of a group: 1 V, 2 P (R231). -/
def State.v1 (s : State) (g w : Nat) : Nat := (s.reg R.PRT_GTEL (12 * g + w)).toNat

/-- A port record of the snapshot (R240, R243). -/
def portRecord (s : State) (p : Nat) : List Byte :=
  let g := portGroup p
  let req := signedOf 32 (s.f Fl.ALC_PREQ_REQ p)
  let applied := s.f Fl.ALC_PAPPLIED_APPLIED p
  let stale := s.b Fl.ALC_PSTAT_STALE p
  let reef := if p < 24 then s.effReef p else max (s.f Fl.PRT_GSTAT_REEFREQ g)
    (max (s.f Fl.ALC_PCFG_FORCE p) (max (s.f Fl.THM_PSTAT_TREEF p) (s.f Fl.SFY_PSTAT_SREEF p)))
  let cfg := s.f Fl.ALC_PCFG_PARENT p + 2 ^ 12 * s.f Fl.ALC_PCFG_CLASS p +
    2 ^ 15 * b2n (s.b Fl.ALC_PCFG_ACTIVE p && s.alcOn) + 2 ^ 16 * reef + 2 ^ 19 * b2n stale +
    2 ^ 24 * s.f Fl.ALC_PCFG_WEIGHT p
  ([unsignedOf 32 (if stale then min req (applied : Int) else req), s.f Fl.ALC_PRATED_RATED p,
    s.f Fl.THM_CABLE_CABLE p, s.groupCells g, applied, s.f Fl.ALC_PLAST_LAST p, s.f Fl.ALC_PRAMP_RAMP p,
    s.v1 g 1, s.v1 g 2, cfg].map (leBytes 4)).flatten

/-- The group of a string: BS0 to BS7, then the guest strings. -/
def stringGroup (i : Nat) : Nat := if i < 8 then 24 + i else 56 + i

/-- A string record of the snapshot; the estimator's limits of a guest string are not held here (R241). -/
def stringRecord (s : State) (i : Nat) : List Byte :=
  let cfg := s.f Fl.ALC_SCFG_PARENT i + 2 ^ 12 * s.f Fl.ALC_SCFG_CLASS i +
    2 ^ 15 * b2n (s.b Fl.ALC_SCFG_ENABLED i && s.alcOn) + 2 ^ 24 * s.f Fl.ALC_SCFG_WEIGHT i
  ([if i < 8 then s.f Fl.EST_CHG_P i else 0, if i < 8 then s.f Fl.EST_DIS_P i else 0,
    s.f Fl.ALC_SSETPOINT_SETPOINT i, s.f Fl.ALC_SLAST_LAST i, s.f Fl.ALC_SRAMP_RAMP i,
    s.v1 (stringGroup i) 2, s.f Fl.ALC_SCHGPRICE_CHGPRICE i, s.f Fl.ALC_SDISPRICE_DISPRICE i, cfg].map (leBytes 4)).flatten

/-- The ALC_DYN entry of a node, if one is valid. -/
def State.dynOf (s : State) (n : Nat) : Option Nat :=
  (List.range 32).find? fun j => s.b Fl.ALC_DYN0_VALID j && s.f Fl.ALC_DYN0_NODE j == n

/-- The node records of the snapshot: own nodes with a dynamic limit or a measurement, at most 32 (R242). -/
def nodeRecords (s : State) : List Byte :=
  let mine := (s.nodes.filter fun x => x.owner == s.modid && ((s.dynOf x.num).isSome || x.msrc == 1)).take 32
  let recs := mine.map fun x =>
    let d := s.dynOf x.num
    let has := x.msrc == 1 || (x.msrc == 2 && d.isSome)
    let meas := if x.msrc == 1 then s.f Fl.MTR_GP1_GP1
      else match d with | none => 0 | some j => s.f Fl.ALC_DYN2_MEAS j
    let lim := match d with | none => 2 ^ 32 - 1 | some j => s.f Fl.ALC_DYN1_DYNLIMIT j
    leBytes 4 (x.num + 2 ^ 12 + 2 ^ 14 * b2n has) ++ leBytes 4 lim ++ leBytes 4 (if has then meas else 0)
  recs.flatten ++ List.replicate (12 * (32 - recs.length)) 0

/-- PRICEV: this module supplies the price and it has not aged (R243, R244). -/
def State.priceValid (s : State) : Bool := s.b Fl.ALC_CTL_PRICEOWN && !s.alc.priceAged

/-- The highest generation the module offers: the smaller of its image's and 2 (R261). -/
def State.genOffer (s : State) : Nat := min s.images.gen 2

/-- The halyard of the module itself, or the proxy halyard of the module it serves (R239, R265). -/
def buildHalyard (proxy : Bool) (s : State) : List Byte :=
  let head : List Byte :=
    leBytes 1 (if proxy then s.f Fl.RNG_STAT_GUESTID else s.modid) ++
    leBytes 1 (b2n proxy + 2 * b2n (!proxy && s.priceValid)) ++ leBytes 2 s.genOffer ++
    leBytes 4 (s.f Fl.ALC_SEQ_SEQ) ++ leBytes 4 (s.f Fl.ALC_EPOCH_EPOCH) ++ leBytes 4 (s.f Fl.ALC_TREEDIG_DIG) ++
    leBytes 8 (s.q R.ALC_IDL R.ALC_IDH) ++ leBytes 4 (if proxy then 0 else s.f Fl.ALC_PRICE_PRICE) ++ leBytes 4 0
  let p0 := if proxy then 24 else 0
  let s0 := if proxy then 8 else 0
  let nodes := if proxy then
      let l := (s.alc.guestNodes.take 32).map fun e =>
        leBytes 4 (setBit e.1 13) ++ leBytes 4 e.2.1 ++ leBytes 4 e.2.2
      l.flatten ++ List.replicate (12 * (32 - l.length)) 0
    else nodeRecords s
  head ++ ((List.range 24).map fun i => portRecord s (p0 + i)).flatten ++
    ((List.range 8).map fun i => stringRecord s (s0 + i)).flatten ++ nodes

/-! ### Application (R259, R265, R266) -/

/-- The value of a list by key, 0 where it has none. -/
def intAt (l : List (Nat × Int)) (k : Nat) : Int := cellsGet (0 : Int) l k

/-- The setpoint of a string comes into force; DRIVE writes the group's ISET (R268). -/
def setSetpoint (i : Nat) (v : Int) (s : State) : State :=
  let g := stringGroup i
  let s := s.setFi Fl.ALC_SSETPOINT_SETPOINT i v
  if s.b Fl.ALC_SCFG_DRIVE i then
    let va := max (s.v1 g 1) (1000 * s.f Fl.ALC_WIN_VFLOOR)
    if va = 0 then s else s.setReg R.PRT_ISET g (BitVec.ofInt 32 (truncDiv (v * 10 ^ 6) va))
  else s

/-- Ports and strings the module applies results to: its own, and its guests in takeover. -/
def State.ownPorts (s : State) : List Nat := List.range (if s.b Fl.RNG_STAT_GUEST then 48 else 24)
def State.ownStrings (s : State) : List Nat := List.range (if s.b Fl.RNG_STAT_GUEST then 16 else 8)

/-- Every own sheet and setpoint is 0 (R267). -/
def zeroSheets (s : State) : State :=
  let s := s.eachOf s.ownPorts fun p s => setSheet p 0 s
  s.eachOf s.ownStrings fun i s => setSetpoint i 0 s

/-- The apply rule at a period start (R259): the smaller of S and the S before where the solve before was
agreed, else the smaller of S and the value in force. -/
def applyResult (r : List (Nat × Int)) (s : State) : State :=
  let agree := s.b Fl.ALC_STAT_AGREE
  let s := s.eachOf s.ownPorts fun p s =>
    let v := match cellsFind s.alc.negative p with
      | some m => m
      | none => if agree then min (intAt r p) (intAt s.alc.previous p)
        else min (intAt r p) (s.f Fl.ALC_PAPPLIED_APPLIED p)
    setSheet p v.toNat s
  let s := s.eachOf s.ownStrings fun i s =>
    setSetpoint i (if agree then min (intAt r (64 + i)) (intAt s.alc.previous (64 + i))
      else min (intAt r (64 + i)) (signedOf 32 (s.f Fl.ALC_SSETPOINT_SETPOINT i))) s
  alcCause 0 { s with alc.previous := r, alc.result := none }

/-- After a discarded solve, each sheet is the smaller of its value and the local clamp (R266). -/
def applyOverrun (s : State) : State :=
  let s := s.each 24 fun p s => setSheet p (min (s.f Fl.ALC_PAPPLIED_APPLIED p) (s.localClamp p)) s
  { s with alc.overran := false, alc.result := none }

/-! ### The period start (R236, R237) -/

/-- A PERIOD accepted in an earlier span of 10 ms comes into force (R235). -/
def takePeriod (s : State) : State :=
  match s.alc.periodPend with
  | none => s
  | some (p, span) =>
    if span < s.now / 10 ^ 7 then { s.setF Fl.ALC_CFG_PERIOD 0 p with alc.periodPend := none } else s

/-- A change of epoch or generation comes into force (R261). -/
def takeView (s : State) : State :=
  let e := s.f Fl.RNG_EPOCH_EPOCH
  let g := s.f Fl.RNG_VIEWST_GEN
  let was := e == s.f Fl.ALC_EPOCH_EPOCH && g == s.f Fl.ALC_STAT_GEN
  let s := { s with alc.epochBefore := s.alc.epochNow, alc.epochNow := e }
  if was then s else
    let s := alcCause 7 (s.setF Fl.ALC_EPOCH_EPOCH 0 e |>.setF Fl.ALC_STAT_GEN 0 g)
    let fits := s.alcFits (s.f Fl.ALC_CFG_PERIOD) (s.f Fl.ALC_WIN_XWIN) (s.f Fl.ALC_CFG_CLSEN) s.nodeCount
    showBound (if fits then s else alcCause 3 s)

/-- A displaced or refused module sends no halyard and holds every own sheet and setpoint at 0 (R463, R474). -/
def State.ringHeld (s : State) : Bool := s.rng.silent || s.f Fl.RNG_STAT_STATE == 7

/-- The proxy halyard is sent: from the takeover to the return signal (R265, R477). -/
def State.proxying (s : State) : Bool := s.b Fl.RNG_STAT_GUEST && !s.rng.signalled

/-- The own snapshot: SEQ, halyards, the window opens with the halyards that waited (R237, R260). -/
def takeSnapshot (s : State) : State :=
  let seq := s.now / (1000 * s.f Fl.ALC_CFG_PERIOD) % 2 ^ 32
  let s := s.setF Fl.ALC_SEQ_SEQ 0 seq
  let own := buildHalyard false s
  let proxy := if s.proxying then buildHalyard true s else []
  { s with alc.own := own, alc.proxy := proxy, alc.windowOpen := true
           alc.received := s.alc.early.filter fun e => halSeq e.2 == seq
           alc.early := s.alc.early.filter fun e => halSeq e.2 != seq }

/-- The allocator exchanges and solves (R267). -/
def State.allocating (s : State) : Bool :=
  s.sys.saveStep < 2 && !s.sys.saveEnd && !s.ringHeld && (s.f Fl.ALC_STAT_STATE == 1 || s.inView)

/-- The stop of the allocator completes at a period start (R267). -/
def finishAlloc (s : State) : State :=
  match s.f Fl.ALC_STAT_STATE with
  | 2 => zeroSheets (s.setF Fl.ALC_STAT_STATE 0 0)
  | 3 =>
    let s := zeroSheets (s.setF Fl.ALC_STAT_STATE 0 1)
    { s with alc.noAgree := true, alc.result := none, alc.previous := [] }
  | _ => s

/-- An allocation period starts (R113, R237). -/
def periodStart (s : State) : State :=
  let s := gridStart s
  if 2 ≤ s.sys.saveStep || s.sys.saveEnd then s else
  let s := match s.alc.overran, s.alc.result with
    | true, _ => applyOverrun s
    | false, some r => if s.alcOn && !s.ringHeld then applyResult r s else zeroSheets { s with alc.result := none }
    | false, none => s
  let s := finishAlloc s
  let s := takeView (takePeriod s)
  let s := s.when s.alc.commit treeCommit
  if s.allocating then takeSnapshot s else s

/-! ### The window's end (R257, R258, R260) -/

/-- What replaces a missing halyard: the last one used with smaller wishes (R260). -/
def substitute (h : List Byte) : List Byte :=
  let h := (List.range 24).foldl (fun h p =>
    halPut h (0x20 + 40 * p) (unsignedOf 32 (min (signedOf 32 (halPort h p 0)) (halPort h p 4 : Int)))) h
  (List.range 8).foldl (fun h i =>
    halPut h (0x3E0 + 36 * i) (unsignedOf 32 (max 0 (min (halStr h i 0 : Int) (signedOf 32 (halStr h i 2)))))) h

/-- Halyards in ascending module identifier. -/
def byModule (l : List (Nat × List Byte)) : List (Nat × List Byte) := l.mergeSort fun a b => decide (a.1 ≤ b.1)

/-- The halyards the solve uses, by module: own, proxy, received or substituted (R260, R265). -/
def State.usedHalyards (s : State) : List (Nat × List Byte) :=
  let peers := s.others.filterMap fun m =>
    match cellsFind s.alc.received m with
    | some h => some (m, h)
    | none => (cellsFind s.alc.lastUsed m).map fun h => (m, substitute h)
  let proxies := s.alc.received.filter fun e => bitOf (halWord e.2 0) 8 && !s.member e.1
  let mine := [(s.modid, s.alc.own)] ++ (if s.alc.proxy.isEmpty then [] else [(halMod s.alc.proxy, s.alc.proxy)])
  byModule (mine ++ peers ++ proxies)

/-- The configuration block of the digest (R257). -/
def State.configBlock (s : State) : List Byte :=
  ([s.f Fl.ALC_CFG_PERIOD, s.f Fl.ALC_WIN_VFLOOR, s.f Fl.ALC_CFG_CLSEN, s.f Fl.ALC_STAT_GEN, s.f Fl.ALC_EPOCH_EPOCH,
    s.f Fl.ALC_TREEDIG_DIG, (s.reg R.ALC_REEFFRAC0).toNat, (s.reg R.ALC_REEFFRAC1).toNat].map (leBytes 4)).flatten

/-- The decision on the solve before (R258). -/
def decideAgree (s : State) : State :=
  let id := s.q R.ALC_IDL R.ALC_IDH
  let ok := !s.alc.noAgree && s.alc.epochBefore == s.alc.epochNow &&
    s.others.all fun m => match cellsFind s.alc.received m with
      | none => false
      | some h => leNat ((h.drop 0x10).take 8) == id
  let s := ({ s with alc.noAgree := false }).setB Fl.ALC_STAT_AGREE 0 ok
  if ok then s else alcCause 2 (s.satF Fl.ALC_CNT_NOAGREE 0 1)

/-- Marks the modules whose halyard is missing (R260). -/
def markMissing (s : State) : State :=
  let s := s.each 8 fun j s => s.setReg R.ALC_MISS j 0
  s.eachOf (s.others.filter fun m => (cellsFind s.alc.received m).isNone) fun m s =>
    alcCause 1 (s.setFBit Fl.ALC_MISS_MOD (m / 32) (m % 32) true |>.satF Fl.ALC_CNT_LATE 0 1)

/-- Counts the snapshots in which a node's measured load exceeds its limit (R247). -/
def countOver (hs : List (List Byte)) (t : List TreeNode) (s : State) : State :=
  let meas (x : TreeNode) : Option Int :=
    hs.findSome? fun h =>
      if halMod h == x.owner then
        (List.range 32).findSome? fun j =>
          let w := halNode h j 0
          if w % 4096 == x.num && bitOf w 12 && bitOf w 14 then some (signedOf 32 (halNode h j 2)) else none
      else none
  let exceeded := t.filterMap fun x => match meas x with
    | some m => if decide ((x.limit : Int) < m) then some (x.num, cellsGet 0 s.alc.exceeded x.num + 1) else none
    | none => none
  { s with alc.exceeded := exceeded }

/-- The dynamic limit and the measurement that a node's owner reports (R242, R247). -/
def reported (hs : List (List Byte)) (x : TreeNode) : Option (Nat × Option Int) :=
  hs.findSome? fun h =>
    if halMod h == x.owner then
      (List.range 32).findSome? fun j =>
        let w := halNode h j 0
        if w % 4096 == x.num && bitOf w 12 then
          some (halNode h j 1, if bitOf w 14 then some (signedOf 32 (halNode h j 2)) else none)
        else none
    else none

/-- The consumers' measured powers: key, parent, PMEAS. -/
def consumerPower (hs : List (List Byte)) : List (Consumer × Int) :=
  (hs.map fun h =>
    let m := halMod h
    ((List.range 24).map fun p =>
      ({ key := 4096 + 32 * m + p, parent := halPort h p 9 % 4096, cls := 0, weight := 0, d := 0 },
        signedOf 32 (halPort h p 8))) ++
    (List.range 8).map fun i =>
      ({ key := 4096 + 32 * m + 24 + i, parent := halStr h i 8 % 4096, cls := 0, weight := 0, d := 0 },
        signedOf 32 (halStr h i 5))).flatten

/-- The tree in force with its effective limits and uncontrolled loads (R247). -/
def State.solveTreeOf (s : State) (hs : List (List Byte)) : List TreeNode :=
  let t := s.nodes
  let ps := consumerPower hs
  t.map fun x =>
    match reported hs x with
    | none => x
    | some (dyn, meas) =>
      let u := match meas with
        | none => 0
        | some m => (m - (ps.filter fun e => below t x.num e.1).foldl (fun a e => a + e.2) 0).toNat
      { x with limit := min x.limit dyn, load := u }

/-- The window closes: substitution, agreement, digest; the solve starts (R237). -/
def windowClose (s : State) : State :=
  if !s.allocating || !s.alc.windowOpen then s else
  let s := decideAgree (markMissing s)
  let used := s.usedHalyards
  let id := crc64 (s.configBlock ++ (used.map (·.2)).flatten)
  let s := s.setQ R.ALC_IDL R.ALC_IDH 0 id
  let s := s.when (s.alc.received.any fun e => s.member e.1 && halWord e.2 0xC != s.f Fl.ALC_TREEDIG_DIG) (alcCause 6)
  let hs := used.map (·.2)
  let s := countOver hs (s.solveTreeOf hs) s
  { s with alc.windowOpen := false, alc.solving := some hs
           alc.lastUsed := used.foldl (fun l e => cellsInsert l e.1 e.2) s.alc.lastUsed }

/-! ### The solve (R249 to R256) -/

/-- The site price: the PRICE of the member with the lowest identifier among those with PRICEV (R244). -/
def sitePrice (hs : List (List Byte)) : Option Int :=
  (hs.find? fun h => bitOf (halWord h 0) 9).map fun h => signedOf 32 (halWord h 0x18)

/-- V_a of a port record, mV (R249). -/
def State.vAlloc (s : State) (h : List Byte) (p : Nat) : Nat :=
  max (halPort h p 7) (1000 * s.f Fl.ALC_WIN_VFLOOR)

/-- The current ceiling of a port whose request is not negative, mA (R249). -/
def State.iCap (s : State) (h : List Byte) (p : Nat) : Nat :=
  let cfg := halPort h p 9
  let ramp := halPort h p 6
  let base := min (halPort h p 5) (halPort h p 4 + ramp)
  let c := min (min (halPort h p 0) (halPort h p 1 * s.reefFraction (cfg / 2 ^ 16 % 8) / 128))
    (min (halPort h p 2) (halPort h p 3))
  if !bitOf cfg 15 then 0 else if ramp = 0 then c else min c (base + ramp)

/-- The sheet magnitude of a port whose request is negative (R250). -/
def State.negCap (s : State) (h : List Byte) (p : Nat) : Nat :=
  let cfg := halPort h p 9
  if !bitOf cfg 15 then 0 else
  min (min (signedOf 32 (halPort h p 0)).natAbs (halPort h p 1 * s.reefFraction (cfg / 2 ^ 16 % 8) / 128))
    (min (halPort h p 2) (halPort h p 3))

/-- Mode of a string: 0 idle, 1 charge, 2 support (R251). -/
def stringMode (price : Option Int) (h : List Byte) (i : Nat) : Nat :=
  match price with
  | none => 0
  | some x =>
    if !bitOf (halStr h i 8) 15 then 0
    else if signedOf 32 (halStr h i 7) ≤ x then 2
    else if x ≤ signedOf 32 (halStr h i 6) then 1 else 0

/-- Demand of a string in charge, W (R251). -/
def chargeDemand (h : List Byte) (i : Nat) : Nat :=
  let ramp := halStr h i 4
  let b := max 0 (min (signedOf 32 (halStr h i 3)) (signedOf 32 (halStr h i 2) + ramp))
  if ramp = 0 then halStr h i 0 else min (halStr h i 0) (b.toNat + ramp)

/-- Every consumer of the site with a valid parent (R246, R249 to R251). -/
def State.consumers (s : State) (t : List TreeNode) (hs : List (List Byte)) : List Consumer :=
  let price := sitePrice hs
  let all := (hs.map fun h =>
    let m := halMod h
    ((List.range 24).map fun p =>
      let cfg := halPort h p 9
      let d := if signedOf 32 (halPort h p 0) < 0 then 0 else s.iCap h p * s.vAlloc h p / 10 ^ 6
      ({ key := 4096 + 32 * m + p, parent := cfg % 4096, cls := cfg / 2 ^ 12 % 8, weight := cfg / 2 ^ 24,
         d := d } : Consumer)) ++
    (List.range 8).map fun i =>
      let cfg := halStr h i 8
      let mode := stringMode price h i
      ({ key := 4096 + 32 * m + 24 + i, parent := cfg % 4096, cls := cfg / 2 ^ 12 % 8, weight := cfg / 2 ^ 24,
         d := if mode = 1 then chargeDemand h i else 0, offer := if mode = 2 then halStr h i 1 else 0 } : Consumer)).flatten
  all.filter fun c => (findNode t c.parent).isSome

/-- Shows what a solve gave for one port, and answers its S (R256). -/
def portResult (h : List Byte) (cs : List Consumer) (p i : Nat) (s : State) : State :=
  let key := 4096 + 32 * halMod h + i
  let g := ((cs.find? fun c => c.key == key).map (·.a)).getD 0
  let va := s.vAlloc h i
  let neg := signedOf 32 (halPort h i 0) < 0
  let v := if neg then s.negCap h i else if va = 0 then 0 else g * 10 ^ 6 / va
  let s := s.setF Fl.ALC_PLAST_LAST p v |>.setF Fl.ALC_PGRANT_GRANT p g
  { s with alc.result := some (cellsPut (0 : Int) (s.alc.result.getD []) p v)
           alc.negative := if neg then cellsInsert s.alc.negative p v else cellsErase s.alc.negative p }

/-- Shows what a solve gave for one string, and keeps its setpoint (R255). -/
def stringResult (h : List Byte) (mode : Nat) (cs : List Consumer) (p i : Nat) (s : State) : State :=
  let key := 4096 + 32 * halMod h + 24 + i
  let c := (cs.find? fun c => c.key == key).getD default
  let v : Int := if mode = 1 then c.a else if mode = 2 then -(c.disp : Int) else 0
  let s := s.setFi Fl.ALC_SLAST_LAST p v |>.setF Fl.ALC_SOFFER_OFFER p c.offer |>.setF Fl.ALC_SSTAT_MODE p mode
  { s with alc.result := some (cellsPut (0 : Int) (s.alc.result.getD []) (64 + p) v) }

/-- Own consumers whose parent is no valid node set cause ADMIT (R246). -/
def badParent (t : List TreeNode) (h : List Byte) : Bool :=
  ((List.range 24).any fun p => bitOf (halPort h p 9) 15 && (findNode t (halPort h p 9 % 4096)).isNone) ||
  (List.range 8).any fun i => bitOf (halStr h i 8) 15 && (findNode t (halStr h i 8 % 4096)).isNone

/-- The solve ends: the results of own and guest consumers are held for the next period start (R252,
R256). -/
def solveComplete (durationUs : Nat) (s : State) : State :=
  match s.alc.solving with
  | none => s
  | some hs =>
    let t := s.solveTreeOf hs
    let r := solveTree (s.f Fl.ALC_STAT_GEN) (s.f Fl.ALC_SEQ_SEQ) (s.f Fl.ALC_CFG_CLSEN) t (s.consumers t hs)
    let price := sitePrice hs
    let s := { s with alc.solving := none, alc.result := some [] }
    let s := s.setF Fl.ALC_TSOLVE_LAST 0 (min durationUs 65535)
    let s := s.when (badParent t s.alc.own) (alcCause 3)
    let s := s.eachOf t fun x s =>
      let l := (r.1.filter (below t x.num)).foldl (fun a c => a + c.a) 0
      s.setReg R.ALC_NODEST0 x.num (BitVec.ofNat 32 l) |>.setReg R.ALC_NODEST1 x.num (BitVec.ofNat 32 x.load)
    let put (h : List Byte) (p0 s0 : Nat) (s : State) : State :=
      let s := s.each 24 fun i s => portResult h r.1 (p0 + i) i s
      s.each 8 fun i s => stringResult h (stringMode price h i) r.1 (s0 + i) i s
    let s := put s.alc.own 0 0 s
    if s.alc.proxy.isEmpty then s else put s.alc.proxy 24 8 s

/-- A solve not ended in time is discarded (R266). -/
def solveOverrun (s : State) : State :=
  if s.alc.solving.isSome then
    alcCause 3 { s with alc.solving := none, alc.overran := true, alc.noAgree := true }
  else s

/-! ### Halyards received (R260) -/

/-- A halyard arrives: of this period inside the window it is accepted; after the window it is late; of a
later period it waits; an older one is discarded. It goes on while hops remain (R260, R465). -/
def halyardReceived (h : List Byte) (tagOk : Bool) (hops : Nat) (s : State) : State :=
  if !tagOk || h.length != 1664 then s else
  let m := halMod h
  let s := { s with alc.forwarded := if hops = 0 then none else some (h, hops - 1) }
  let ahead := (BitVec.ofNat 32 (halSeq h) - BitVec.ofNat 32 (s.f Fl.ALC_SEQ_SEQ)).toInt
  if m == s.modid || !(s.member m || bitOf (halWord h 0) 8) then s
  else if ahead < 0 then s
  else if 0 < ahead then { s with alc.early := cellsInsert s.alc.early m h }
  else if s.alc.windowOpen then { s with alc.received := cellsInsert s.alc.received m h }
  else alcCause 1 (s.satF Fl.ALC_CNT_LATE 0 1)

/-- A write of REQ restarts its age (R243). -/
def reqWrite (p : Nat) (v : Word) (s : State) : State :=
  s.setReg R.ALC_PREQ p v |>.setB Fl.ALC_PSTAT_STALE p false

/-- A write of PRICE restarts its age (R243). -/
def priceWrite (v : Word) (s : State) : State :=
  { s.setReg R.ALC_PRICE 0 v with alc.priceAged := false }

end Sys2Proof.Machine
end

