-- ==== Sys2Proof/Machine/Save.lean ====
section
/-! DEFINITION. The start of the save sequence, which several blocks request (R33, R34, R314). -/

namespace Sys2Proof.Machine

/-- An early warning: step 1 of the save sequence, event 1. A second warning has no further effect, and
Stow and Furl have nothing to save (R33, R34). -/
def startSave (src : Nat) (s : State) : State :=
  if s.sys.saveStep != 0 || s.sys.saveEnd || s.sys.phase == .off || 3 ≤ s.f Fl.SYS_PWRSTAT_STATE then s else
  let s := { s with sys.saveStep := 1, sys.saveStart := s.tick, sys.vinOk := false }
  (s.setReg R.SYS_SAVESTAT 0 0 |>.setF Fl.SYS_SAVESTAT_SRC 0 src |>.setB Fl.SYS_SAVESTAT_ACTIVE 0 true).raise 1

end Sys2Proof.Machine
end

