-- ==== Sys2Proof/Machine/Thermal.lean ====
section
/-! DEFINITION. Cable cooling: sensors, coolant window, conductor observer, reefs and the junction gate (R299
to R320). -/

namespace Sys2Proof.Machine

/-! ### Access -/

/-- A cause of the THM block: bit `j` raises event 64 + j (R319). -/
def thmCause (j : Nat) (s : State) : State := s.causeOn Fl.THM_STAT_CAUSE Fl.THM_CTL_EVEN 0 j (64 + j)

/-- Sensor `i` beside its record. -/
def State.sen (s : State) (i : Nat) : Sensor := s.thm.sensor.toList.getD i {}

/-- Changes sensor `i` beside its record. -/
def State.setSen (s : State) (i : Nat) (f : Sensor → Sensor) : State :=
  { s with thm.sensor := s.thm.sensor.setIfInBounds i (f (s.sen i)) }

/-- Thermal port `p` beside its record. -/
def State.tp (s : State) (p : Nat) : ThmPort := s.thm.port.toList.getD p {}

/-- Changes thermal port `p` beside its record. -/
def State.setTp (s : State) (p : Nat) (f : ThmPort → ThmPort) : State :=
  { s with thm.port := s.thm.port.setIfInBounds p (f (s.tp p)) }

/-- "No valid reading" (R4). -/
def noReading : Int := -32768

/-- The value in use of a sensor, 0.01 °C; `none` where it has no valid reading (R302). -/
def State.sensorT (s : State) (i : Nat) : Option Int :=
  if 80 ≤ i then none
  else
    let t := s.fi Fl.THM_SSTAT_T i
    if t = noReading then none else some t

/-- A sensor's FAULT is set. -/
def State.sensorBroken (s : State) (i : Nat) : Bool := s.b Fl.THM_SSTAT_FAULT i

/-- Port sensors. -/
def State.inlet (s : State) (p : Nat) : Option Int := s.sensorT (s.f Fl.THM_PSEN_INLET p)
def State.outlet (s : State) (p : Nat) : Option Int := s.sensorT (s.f Fl.THM_PSEN_OUTLET p)

/-- Whether a sensor is one of a port's four. -/
def State.portSensor (s : State) (p i : Nat) : Bool :=
  s.f Fl.THM_PSEN_INLET p == i || s.f Fl.THM_PSEN_OUTLET p == i || s.f Fl.THM_PSEN_PINP p == i ||
  s.f Fl.THM_PSEN_PINN p == i

/-- Whether a sensor is a pin of a port. -/
def State.portPin (s : State) (p i : Nat) : Bool := s.f Fl.THM_PSEN_PINP p == i || s.f Fl.THM_PSEN_PINN p == i

/-! ### Reefs (R311, R312) -/

/-- STEP, µ°C. -/
def State.reefStep (s : State) (p : Nat) : Int := (max 1 (s.f Fl.THM_REEF_REEFSTEP p) : Nat) * 100000

/-- The level of a temperature against a warning level, both µ°C (R311). -/
def reefLevel (t w step : Int) : Nat := if t < w then 0 else min 7 (1 + (Int.tdiv (t - w) step).toNat)

/-- The higher valid pin value in use, µ°C. -/
def State.pinHigh (s : State) (p : Nat) : Option Int :=
  match s.sensorT (s.f Fl.THM_PSEN_PINP p), s.sensorT (s.f Fl.THM_PSEN_PINN p) with
  | none, none => none
  | some a, none => some (a * 10000)
  | none, some b => some (b * 10000)
  | some a, some b => some (max a b * 10000)

/-- A pin sensor is broken and has no valid fallback (R312). -/
def State.pinDark (s : State) (p : Nat) : Bool :=
  let dark (i : Nat) : Bool := i < 80 && s.sensorBroken i && (s.sensorT i).isNone
  dark (s.f Fl.THM_PSEN_PINP p) || dark (s.f Fl.THM_PSEN_PINN p)

/-- TWARN and TPINWARN, µ°C. -/
def State.tWarn (s : State) (p : Nat) : Int := s.fi Fl.THM_LIM_TWARN p * 10000
def State.tPinWarn (s : State) (p : Nat) : Int := s.fi Fl.THM_REEF_TPINWARN p * 10000

/-- The level a port's temperatures ask for now (R311, R312). -/
def State.reefWanted (s : State) (p : Nat) : Nat :=
  let step := s.reefStep p
  let a := match (s.tp p).obs with | none => 0 | some o => reefLevel o.t1 (s.tWarn p) step
  let b := match s.pinHigh p with | none => 0 | some t => reefLevel t (s.tPinWarn p) step
  max (max a b) (if s.pinDark p then 3 else 0)

/-- A new request of a port (R311). -/
def setReef (p k : Nat) (s : State) : State :=
  if s.f Fl.THM_PSTAT_TREEF p = k then s
  else thmCause 2 (prtCause 19 (portGroup p) (s.setF Fl.THM_PSTAT_TREEF p k))

/-- The request rises at once. -/
def reefRise (p : Nat) (s : State) : State :=
  let k := s.reefWanted p
  if s.f Fl.THM_PSTAT_TREEF p < k then setReef p k s else s

/-- Both temperatures lie 2 K below the start of the present level (R311). -/
def State.reefMayFall (s : State) (p : Nat) : Bool :=
  let k := s.f Fl.THM_PSTAT_TREEF p
  let low (t : Option Int) (w : Int) : Bool := match t with
    | none => true
    | some t => decide (t < w + (k - 1 : Nat) * s.reefStep p - 2000000)
  0 < k && low ((s.tp p).obs.map (·.t1)) (s.tWarn p) && low (s.pinHigh p) (s.tPinWarn p) &&
    !(s.pinDark p && k ≤ 3)

/-! ### The coolant window (R304 to R306) -/

/-- The inlet lies in [TCMIN + m, TCMAX − m]. -/
def State.inletIn (s : State) (p : Nat) (m : Int) : Bool :=
  match s.inlet p with
  | none => false
  | some t => decide (s.fi Fl.THM_WIN_TCMIN p + m ≤ t ∧ t ≤ s.fi Fl.THM_WIN_TCMAX p - m)

/-- FLOW meets FLOWMIN. -/
def State.flowMet (s : State) (p : Nat) : Bool := s.f Fl.THM_FLOWCFG_FLOWMIN p ≤ s.f Fl.THM_FLOW_FLOW p

/-- A port becomes NOGO: CABLE is 0 at once (R305, R306). -/
def toNogo (p : Nat) (s : State) : State :=
  if s.b Fl.THM_PSTAT_NOGO p then s
  else thmCause 1 (prtCause 23 (portGroup p) (s.setB Fl.THM_PSTAT_NOGO p true |>.setF Fl.THM_CABLE_CABLE p 0))

/-- One evaluation of an own port's coolant window (R305, R318). -/
def evalWindow (p : Nat) (s : State) : State :=
  if 24 ≤ p then s else
  let inOk := s.inletIn p 0
  let flOk := s.flowMet p
  let x := s.tp p
  let s := s.when (x.inletOk && !inOk) (prtCause 22 p)
  let s := s.when (x.flowOk && !flOk) fun s => thmCause 4 (prtCause 21 p s)
  let s := s.setTp p fun x => { x with inletOk := inOk, flowOk := flOk }
  if inOk && flOk && s.b Fl.THM_PCH_EN p then s else toNogo p s

/-- A port leaves NOGO after its 5 s (R305). -/
def nogoClear (p : Nat) (s : State) : State :=
  if p < 24 && s.b Fl.THM_PCH_EN p && s.inletIn p 100 && s.flowMet p then s.setB Fl.THM_PSTAT_NOGO p false else s

/-! ### Sensors (R301 to R303, R313 to R315) -/

/-- The fallback of a broken sensor and whether it is in use (R302). -/
def State.fallback (s : State) (i : Nat) : Int :=
  let alt := s.f Fl.THM_SCFG_ALT i
  if !s.b Fl.THM_SCFG_FBFIX i && alt < 80 && !s.sensorBroken alt && (s.sensorT alt).isSome then
    signedOf 16 (unsignedOf 16 (s.fi Fl.THM_SSTAT_T alt + s.fi Fl.THM_SFB_OFFS i))
  else s.fi Fl.THM_SFB_FIXT i

/-- The margin of a sensor to the nearest of its limits, 0.01 °C; negative beyond one (R303). -/
def State.margin (s : State) (i : Nat) (t : Int) : Int :=
  let own := min (s.fi Fl.THM_SLIM_HI i - t) (t - s.fi Fl.THM_SLIM_LO i)
  (List.range 48).foldl (fun m p =>
    let m := if s.f Fl.THM_PSEN_INLET p = i then
      min m (min (s.fi Fl.THM_WIN_TCMAX p - t) (t - s.fi Fl.THM_WIN_TCMIN p)) else m
    if s.portPin p i then min m (s.fi Fl.THM_REEF_TPINWARN p - t) else m) own

/-- The period a margin asks for, with the boundaries raised by `more`: 0 1 s, 1 100 ms, 2 10 ms. -/
def ladder (m more : Int) : Nat := if 1000 + more ≤ m then 0 else if 300 + more ≤ m then 1 else 2

/-- A pin at or above its reef start, or a broken sensor, always runs at 10 ms (R303). -/
def State.fastSensor (s : State) (i : Nat) (t : Int) : Bool :=
  s.sensorBroken i || (List.range 48).any fun p => s.portPin p i && decide (s.fi Fl.THM_REEF_TPINWARN p ≤ t)

/-- The sampling ladder after a sample (R303). -/
def stepLadder (i : Nat) (t : Int) (s : State) : State :=
  let now := s.f Fl.THM_SSTAT_PERIOD i
  let m := s.margin i t
  if s.fastSensor i t then (s.setF Fl.THM_SSTAT_PERIOD i 2).setSen i fun x => { x with calm := 0 }
  else if now < ladder m 0 then (s.setF Fl.THM_SSTAT_PERIOD i (ladder m 0)).setSen i fun x => { x with calm := 0 }
  else if ladder m 100 < now then
    if 2 ≤ (s.sen i).calm then (s.setF Fl.THM_SSTAT_PERIOD i (ladder m 100)).setSen i fun x => { x with calm := 0 }
    else s.setSen i fun x => { x with calm := x.calm + 1 }
  else s.setSen i fun x => { x with calm := 0 }

/-- Supervision of a value by HI and LO; a bit clears 1 K inside its limit (R315). -/
def checkLimits (i : Nat) (t : Int) (s : State) : State :=
  let hi := s.fi Fl.THM_SLIM_HI i
  let lo := s.fi Fl.THM_SLIM_LO i
  let edge (fl : Fld) (beyond inside : Bool) (s : State) : State :=
    if beyond then (if s.b fl i then s else thmCause 3 (s.setB fl i true))
    else if inside then s.setB fl i false else s
  edge Fl.THM_SSTAT_LOX (decide (t < lo)) (decide (lo + 100 ≤ t))
    (edge Fl.THM_SSTAT_HIX (decide (hi < t)) (decide (t ≤ hi - 100)) s)

/-- The junction gate over the on-die sensors: TJMAX, TJMIN, NVOK, JWARN, and the thermal save (R313, R314). -/
def junction (s : State) : State :=
  let l := ((List.range 16).filterMap fun k => s.sensorT (64 + k))
  match l with
  | [] => s
  | t :: ts =>
    let hi := ts.foldl max t
    let lo := ts.foldl min t
    let was := s.fi Fl.THM_JSTAT_TJMAX
    let s := s.setFi Fl.THM_JSTAT_TJMAX 0 hi |>.setFi Fl.THM_JSTAT_TJMIN 0 (floorDiv lo 4)
    let s := s.setB Fl.THM_JSTAT_NVOK 0 (decide (hi ≤ 12500 ∧ -4000 ≤ lo))
    let s := s.when (decide (was < 11500 ∧ 11500 ≤ hi)) (thmCause 5)
    if decide (was < 12000 ∧ 12000 ≤ hi) then thmCause 6 (startSave 4 (s.setB Fl.THM_JSTAT_JSAVE 0 true)) else s

/-- What follows a new value in use for the ports that use the sensor (R305, R311, R318). -/
def portsOfSensor (i : Nat) (s : State) : State :=
  s.each 48 fun p s =>
    if !s.portSensor p i then s else
    let hot := match s.pinHigh p with | none => false | some t => decide (s.tPinWarn p ≤ t)
    let was := (s.tp p).pinHot
    let s := s.when (hot && !was) (prtCause 18 (portGroup p))
    reefRise p (evalWindow p (s.setTp p fun x => { x with pinHot := hot }))

/-- A value comes into use (R302). -/
def useValue (i : Nat) (t : Int) (fb : Bool) (s : State) : State :=
  let s := s.setFi Fl.THM_SSTAT_T i t |>.setB Fl.THM_SSTAT_FB i fb
  let s := if t = noReading then s else stepLadder i t (checkLimits i t s)
  let s := portsOfSensor i s
  s.when (64 ≤ i) junction

/-- A value comes into use, and with it the fallbacks taken from it. -/
def useAndFollow (i : Nat) (t : Int) (fb : Bool) (s : State) : State :=
  let s := useValue i t fb s
  s.each 80 fun k s =>
    if s.sensorBroken k && s.f Fl.THM_SCFG_ALT k = i && k ≠ i then useValue k (s.fallback k) true s else s

/-- Whether a conversion is broken: 0 no, 1 open, 2 short (R301). -/
def brokenKind (type ohms : Nat) : Nat :=
  if type = 1 then (if 4000 < ohms then 1 else if ohms < 500 then 2 else 0)
  else if type = 2 then (if 2000000 < ohms then 1 else if ohms < 20 then 2 else 0)
  else 0

/-- The sensor is in use: an on-die one, or an external one of a type. -/
def State.sensorOn (s : State) (i : Nat) : Bool :=
  (64 ≤ i && i < 80) || (i < 64 && (s.f Fl.THM_SCFG_TYPE i == 1 || s.f Fl.THM_SCFG_TYPE i == 2))

/-- One conversion: its resistance and the temperature it converts to, 0.01 °C (R300, R301). -/
def conversion (i ohms : Nat) (t : Int) (s : State) : State :=
  if !s.sensorOn i then s else
  let kind := if i < 64 then brokenKind (s.f Fl.THM_SCFG_TYPE i) ohms else 0
  let s := { s with thm.conv := s.thm.conv.setIfInBounds i (if kind = 0 then some t else none) }
  let s := s.setSen i fun x =>
    if kind = 0 then { x with bad := 0, good := x.good + 1 } else { x with bad := x.bad + 1, good := 0, kind := kind }
  if kind = 0 && !s.sensorBroken i then useAndFollow i t false s else s

/-- Two consecutive broken conversions: the fallback comes into use (R301, R302). -/
def sensorBreaks (i : Nat) (s : State) : State :=
  if 80 ≤ i || s.sensorBroken i || (s.sen i).bad < 2 then s else
  let s := thmCause 0 (s.setF Fl.THM_SSTAT_FAULT i (s.sen i).kind |>.setF Fl.THM_SSTAT_PERIOD i 2)
  let s := s.each 48 fun p s => s.when (s.portSensor p i) (prtCause 20 (portGroup p))
  useAndFollow i (s.fallback i) true s

/-- Ten consecutive valid conversions: the sensor returns to use (R301). -/
def sensorReturns (i : Nat) (s : State) : State :=
  match s.thm.conv.toList.getD i none with
  | some t =>
    if s.sensorBroken i && 10 ≤ (s.sen i).good then useAndFollow i t false (s.setF Fl.THM_SSTAT_FAULT i 0) else s
  | none => s

/-! ### Flow (R304) -/

/-- FLOW of a port, mL/min; a quotient that 16 bits cannot hold is a free value. -/
def flowOf (p : Nat) (s : State) : Nat × State :=
  let x := s.tp p
  let now := s.now / 1000
  match x.edge, x.edgeBefore with
  | some e, some b =>
    let d := max (e - b) (now - e)
    if 60000000 ≤ now - e then (0, s)
    else
      let kf := max 1 (s.f Fl.THM_FLOWCFG_KF p)
      let v := if d = 0 then 2 ^ 16 else 60000000000 / (kf * d)
      if v < 2 ^ 16 then (v, s) else let r := s.draw; (r.1 % 2 ^ 16, r.2)
  | _, _ => (0, s)

/-- FLOW of every own port is computed and its window evaluated. -/
def flowCompute (s : State) : State :=
  s.each 24 fun p s =>
    let r := flowOf p s
    evalWindow p (r.2.setF Fl.THM_FLOW_FLOW p r.1)

/-! ### The observer (R308 to R310, R317) -/

/-- A resistance at a temperature, µΩ (R308). -/
def resistanceAt (r20 alpha : Nat) (t : Int) : Int :=
  truncDiv (r20 * (1000000 + truncDiv (alpha * (t - 20000000)) 1000000)) 1000000

/-- The integer square root, rounded down, of a number below 2⁶⁴ or above by the same method. -/
def isqrt (n : Nat) : Nat :=
  (List.range 64).foldl (fun r i => let b := 2 ^ (63 - i); if (r + b) * (r + b) ≤ n then r + b else r) 0

/-- One step of the two-node model (R308). -/
def observe (o : Observer) (i : Int) (flow cpv r20 alpha g12 c1 c2 lobs : Nat) (tin : Int) (tout : Option Int) :
    Observer :=
  let gf : Int := (flow * cpv / 60 : Nat)
  let rc := resistanceAt r20 alpha o.t1
  let p1 := truncDiv (i * i * rc) 1000000
  let p12 := truncDiv (g12 * (o.t1 - o.t2)) 1000
  let pf := truncDiv (gf * (o.t2 - tin)) 1000
  let n1 := p1 - p12 + o.f1
  let n2 := p12 - pf + o.f2
  let t2 := o.t2 + Int.tdiv n2 (1000 * c2 : Nat)
  { t1 := o.t1 + Int.tdiv n1 (1000 * c1 : Nat)
    f1 := Int.tmod n1 (1000 * c1 : Nat)
    t2 := match tout with | none => t2 | some x => t2 + truncDiv ((x - t2) * lobs) 256
    f2 := Int.tmod n2 (1000 * c2 : Nat) }

/-- The headroom of R309; with a conductor of no resistance the manual states no quotient: a free value. -/
def headroom (o : Observer) (p : Nat) (s : State) : Nat × State :=
  let tlim := s.fi Fl.THM_LIM_TLIM p * 10000
  let eh := s.f Fl.THM_OBS_EH p
  let rl := resistanceAt (s.f Fl.THM_R20_R20 p) (s.f Fl.THM_COEF_ALPHA p) tlim
  let tss := tlim + truncDiv ((tlim - o.t1) * eh) (65536 - eh)
  let top := s.f Fl.THM_IMAXH_IMAXH p
  if tss ≤ o.t2 then (0, s)
  else if rl ≤ 0 then let r := s.draw; (min top r.1, r.2)
  else (min top (isqrt ((tss - o.t2) * s.f Fl.THM_G12_G12 p * 1000 / rl).toNat), s)

/-- The observer cannot run (R310). -/
def State.obsFallback (s : State) (p : Nat) : Bool :=
  let g := s.f Fl.THM_G12_G12 p
  !s.b Fl.THM_CAP_C1 p || !s.b Fl.THM_CAP_C2 p || g == 0 || 10000000 < g || (p < 24 && (s.inlet p).isNone)

/-- Shows the estimates, rounded toward zero (R320). -/
def showObserver (p : Nat) (o : Observer) (s : State) : State :=
  s.setFi Fl.THM_TEST_T1 p (truncDiv o.t1 10000) |>.setFi Fl.THM_TEST_T2 p (truncDiv o.t2 10000)

/-- Publishes CABLE; a NOGO port has none (R306). -/
def publishCable (p v : Nat) (s : State) : State :=
  s.setF Fl.THM_CABLE_CABLE p (if p < 24 && s.b Fl.THM_PSTAT_NOGO p then 0 else v)

/-- The observer of one port, 1 ms (R308 to R310, R317). -/
def observePort (p : Nat) (s : State) : State :=
  if s.obsFallback p then
    let s := if s.b Fl.THM_PSTAT_OBSFB p then s
      else thmCause 7 (prtCause 17 (portGroup p) (s.setB Fl.THM_PSTAT_OBSFB p true))
    publishCable p (min (s.f Fl.THM_ISTAT_ISTAT p) (s.f Fl.THM_IMAXH_IMAXH p)) s
  else
    let guest := 24 ≤ p
    let tin : Int := (if guest then s.fi Fl.THM_WIN_TCMAX p else (s.inlet p).getD 0) * 10000
    let tout : Option Int := if guest then none else (s.outlet p).map (· * 10000)
    let start : Int := match tout with | none => tin | some x => max tin x
    let o := match (s.tp p).obs, s.b Fl.THM_PSTAT_OBSFB p with
      | some o, false => o
      | _, _ => { t1 := start, t2 := start }
    let i := signedOf 32 (s.reg R.PRT_GTEL (12 * portGroup p)).toNat
    let o := observe o i (if guest then 0 else s.f Fl.THM_FLOW_FLOW p) (s.f Fl.THM_COEF_CPV p)
      (s.f Fl.THM_R20_R20 p) (s.f Fl.THM_COEF_ALPHA p) (s.f Fl.THM_G12_G12 p) (s.f Fl.THM_CAP_C1 p)
      (s.f Fl.THM_CAP_C2 p) (s.f Fl.THM_OBS_LOBS p) tin tout
    let s := showObserver p o ((s.setB Fl.THM_PSTAT_OBSFB p false).setTp p fun x => { x with obs := some o })
    let r := headroom o p s
    reefRise p (publishCable p (if guest then min r.1 (s.f Fl.THM_ISTAT_ISTAT p) else r.1) r.2)

/-- The observer's millisecond: own ports, and guests in takeover. -/
def observerStep (s : State) : State :=
  s.each (if s.b Fl.RNG_STAT_GUEST then 48 else 24) observePort

/-! ### Forced cooling and records (R307, R316) -/

/-- Holds a port's pump and fan channels on, or lets them go (R307). -/
def forceCooling (p : Nat) (on : Bool) (s : State) : State :=
  if s.b Fl.THM_PCH_FORCE p || !on then
    chRequest Fl.LSW_CHSTAT_FORCE (s.f Fl.THM_PCH_PUMP p) on
      (chRequest Fl.LSW_CHSTAT_FORCE (s.f Fl.THM_PCH_FAN p) on s)
  else s

/-- The record of R316 in MRAM. -/
def thermalRecord (s : State) : State :=
  let o := (List.range 48).filterMap fun p => (s.tp p).obs.map fun o => (p, o)
  let f := ((List.range 80).filter s.sensorBroken).map fun i => (i, s.f Fl.THM_SSTAT_FAULT i)
  { s with thm.saved := some (o, f) }

/-- At boot each port resumes from its record (R316). -/
def thermalBoot (s : State) : State :=
  match s.thm.saved with
  | none => s
  | some (l, faults) =>
    let s := s.eachOf faults fun e s => s.setF Fl.THM_SSTAT_FAULT e.1 e.2
    s.eachOf l fun e s =>
      let low (x : Option Int) (t : Int) : Int := match x with | none => t | some v => max t (v * 10000)
      s.setTp e.1 fun x => { x with obs := some { e.2 with
        t1 := low (s.outlet e.1) (low (s.inlet e.1) e.2.t1), t2 := low (s.outlet e.1) e.2.t2 } }

end Sys2Proof.Machine
end

