-- ==== Sys2Proof/Machine/Session.lean ====
section
/-! DEFINITION. Vehicle sessions: front-ends, pilot, link, protocol and security choice, the session machine,
messages and the loop responder (R269 to R297). -/

namespace Sys2Proof.Machine

/-! ### Access -/

/-- Context `c` beside its record. -/
def State.ses (s : State) (c : Nat) : Session := s.veh.ctx.toList.getD c {}

/-- Changes context `c` beside its record. -/
def State.setSes (s : State) (c : Nat) (f : Session → Session) : State :=
  { s with veh.ctx := s.veh.ctx.setIfInBounds c (f (s.ses c)) }

/-- Front-end `f` beside its register. -/
def State.fe (s : State) (f : Nat) : FrontEnd := s.veh.fe.toList.getD f {}

/-- Changes front-end `f` beside its register. -/
def State.setFe (s : State) (f : Nat) (g : FrontEnd → FrontEnd) : State :=
  { s with veh.fe := s.veh.fe.setIfInBounds f (g (s.fe f)) }

/-- State codes of SSTAT.STATE (R284). -/
def sIdle : Nat := 0
def sPlugged : Nat := 1
def sLink : Nat := 2
def sSetup : Nat := 3
def sAuth : Nat := 4
def sParam : Nat := 5
def sCableCheck : Nat := 6
def sPrecharge : Nat := 7
def sCharge : Nat := 8
def sPause : Nat := 9
def sStopping : Nat := 10
def sUnlock : Nat := 11
def sEnd : Nat := 12
def sFault : Nat := 13

/-- The state of a context. -/
def State.sst (s : State) (c : Nat) : Nat := s.f Fl.VEH_SSTAT_STATE c

/-- MODE of a front-end; 3 acts as 0 (R271). -/
def State.feMode (s : State) (f : Nat) : Nat := s.f Fl.VEH_FE_MODE f % 3

/-- The front-end that serves a context: an own one for an own context, a driving standby one for a guest;
the lowest that names it. -/
def State.feOf (s : State) (c : Nat) : Option Nat :=
  (List.range 24).find? fun f => s.f Fl.VEH_FE_CTX f == c &&
    ((s.feMode f == 1 && !(s.fe f).released) || (s.feMode f == 2 && (s.fe f).driving))

/-- The context's front-end is a CCS one. -/
def State.ccs (s : State) (c : Nat) : Bool :=
  match s.feOf c with | none => true | some f => !s.b Fl.VEH_FE_TYPE f

/-- A session cause: bits 8 to 15 of the group's GCAUSE (R297). -/
def sesCause (j c : Nat) (s : State) : State := prtCause j (portGroup c) s

/-- A port-power command of a session. -/
def portCmd (op mode c : Nat) (s : State) : State :=
  let g := portGroup c
  groupCommand g op mode (if op == 3 then s.setF Fl.PRT_GCMD_MODE g mode else s)

/-! ### Basebands (R273) -/

/-- The lowest free baseband. -/
def State.freePlc (s : State) : Option Nat :=
  (List.range 12).find? fun k => (List.range 24).all fun f => s.f Fl.VEH_FE_PLC f != k

/-- Shows the number of free basebands. -/
def showPlc (s : State) : State :=
  s.setF Fl.VEH_STAT_PLCFREE 0 ((List.range 12).filter fun k =>
    (List.range 24).all fun f => s.f Fl.VEH_FE_PLC f != k).length

/-- A front-end takes a free baseband, or waits (own) or shows NOPLC (standby). -/
def takePlc (f : Nat) (s : State) : State :=
  if s.b Fl.VEH_FE_TYPE f || s.f Fl.VEH_FE_PLC f != 0xF then s else
  match s.freePlc with
  | some k => showPlc (s.setF Fl.VEH_FE_PLC f k |>.setB Fl.VEH_FE_NOPLC f false
      |>.setFBit Fl.VEH_STAT_PLCWAIT 0 f false)
  | none => if s.feMode f == 1 then s.setFBit Fl.VEH_STAT_PLCWAIT 0 f true else s.setB Fl.VEH_FE_NOPLC f true

/-- A baseband frees: waiting own front-ends take it first, then standby ones, in ascending order. -/
def dropPlc (f : Nat) (s : State) : State :=
  let s := s.setFBit Fl.VEH_STAT_PLCWAIT 0 f false
  if s.f Fl.VEH_FE_PLC f == 0xF then s else
  let s := showPlc (s.setF Fl.VEH_FE_PLC f 0xF)
  let own := (List.range 24).filter fun k => bitOf (s.f Fl.VEH_STAT_PLCWAIT) k
  let standby := (List.range 24).filter fun k => s.b Fl.VEH_FE_NOPLC k
  match own ++ standby with
  | [] => s
  | k :: _ => takePlc k s

/-! ### Transitions (R284, R288) -/

/-- A context changes state (cause MSG). -/
def toSession (c st : Nat) (s : State) : State :=
  sesCause 8 c ((s.setF Fl.VEH_SSTAT_STATE c st).setSes c fun x =>
    { x with charged := st == sCharge || (x.charged && st != sEnd && st != sIdle && st != sPlugged) })

/-- What ends with a session's connection. -/
def closeLink (c : Nat) (s : State) : State :=
  (s.setB Fl.VEH_SSTAT_TLS c false |>.setB Fl.VEH_SSTAT_BPTACT c false).setSes c fun x =>
    { x with link := false, sdp := false, tcp := false, hello := none, secrets := none, outstanding := false,
             held := none, checked := false, delivery := none, stopNote := false, heldFrame := none }

/-- PLUGGED: the lock is requested, a CCS front-end takes a baseband (R273, R284). -/
def toPlugged (c : Nat) (s : State) : State :=
  let s := toSession c sPlugged (closeLink c (s.setF Fl.VEH_SSTAT_STOPCODE c 0 |>.setF Fl.VEH_SSTAT_PROTOSEL c 0))
  let s := lockRequest c s
  match s.feOf c with | none => s | some f => takePlc f s

/-- END: TCP and TLS closed, oscillator off, baseband released; forced cooling ends; the
reference of the receipt is latched (R284, R307, R403). -/
def toEnd (c : Nat) (s : State) : State :=
  let ref := (List.range 8).flatMap fun i => leBytes 4 (s.reg R.SIG_REF (8 * c + i)).toNat
  let s := s.when ((s.ses c).charged && c < 24) fun s => { s with sig.refs := cellsInsert s.sig.refs c ref }
  let s := forceCooling c false (closeLink c (toSession c sEnd s))
  match s.feOf c with | none => s | some f => dropPlc f s

/-- UNLOCK: unlocking is requested (R284). -/
def toUnlock (c : Nat) (s : State) : State := unlockRequest c (toSession c sUnlock s)

/-- The condition that started the stop stays recorded (R288). -/
def noteStop (cause c : Nat) (s : State) : State :=
  let s := sesCause cause c s
  if s.f Fl.VEH_SSTAT_STOPCODE c == 0 then s.setF Fl.VEH_SSTAT_STOPCODE c cause else s

/-- Ends a session with a cause. -/
def endWith (cause c : Nat) (s : State) : State := toEnd c (noteStop cause c s)

/-- What a stopping context asks of port power in its present state (R288). -/
def stopPort (c : Nat) (s : State) : State :=
  let st := s.gst (portGroup c)
  if st == gZero then portCmd 5 0 c s
  else if st == gCheck || st == gPrecharge || st == gReady || st == gRunI || st == gRunV then portCmd 4 0 c s
  else s

/-- STOPPING: a steeper ramp-down, STOP or DISCH to port power (R288). -/
def toStopping (cause c : Nat) (s : State) : State :=
  let g := portGroup c
  let s := toSession c sStopping (noteStop cause c s)
  let s := s.setF Fl.PRT_RATE_IRATE g (max (s.f Fl.PRT_RATE_IRATE g) (max 1 (s.f Fl.VEH_TIM3_STOPRATE)))
  stopPort c s

/-- From AUTH to PAUSE (R284). -/
def State.midSession (s : State) (c : Nat) : Bool := decide (sAuth ≤ s.sst c ∧ s.sst c ≤ sPause)

/-- A stop condition of R284 in AUTH to PAUSE. -/
def stopWith (cause c : Nat) (s : State) : State := if s.midSession c then toStopping cause c s else s

/-- FAULT of the session with port power's (R284). -/
def toSessionFault (c : Nat) (s : State) : State := toSession c sFault s

/-! ### Block transitions (R284, R289) -/

/-- IDLE is reached: a pending enable takes effect (R290). -/
def toIdle (c : Nat) (s : State) : State :=
  let s := toSession c sIdle s
  let en := s.b Fl.VEH_SCFG_EN c
  (s.setB Fl.VEH_SSTAT_PEND c false).setSes c fun x => { x with active := en }

/-- One block transition of a context, where its condition holds. -/
def pollSession (c : Nat) (s : State) : State :=
  let st := s.sst c
  let ps := s.gst (portGroup c)
  let pilot := s.f Fl.VEH_SSTAT_PILOT c
  let x := s.ses c
  if (s.feOf c).isNone && st != sStopping && st != sUnlock then s
  else if st == sIdle then if x.active && c < 24 && (pilot == 1 || pilot == 2) then toPlugged c s else s
  else if st == sPlugged then
    let ready := match s.feOf c with
      | none => false
      | some f => s.b Fl.VEH_FE_TYPE f || s.f Fl.VEH_FE_PLC f != 0xF
    if s.b Fl.SFY_PSTAT_LOCKED c && ready then toSession c sLink s else s
  else if st == sLink then if x.link && x.sdp && x.tcp then toSession c sSetup s else s
  else if st == sStopping then
    if ps == gFault then toSessionFault c s
    else if ps == gOff then toUnlock c s
    else stopPort c s
  else if st == sUnlock then if s.b Fl.SFY_PSTAT_UNLOCKED c then toEnd c s else s
  else if st == sEnd then if pilot == 0 then toIdle c s else s
  else if s.midSession c && ps == gFault then toSessionFault c s
  else s

/-- Contexts follow their block conditions; a context out of use has none. -/
def pollSessions (s : State) : State :=
  s.each 48 fun c s =>
    if s.sst c == sIdle && !(s.ses c).active then s
    else pollSession c (pollSession c (pollSession c s))

/-! ### Pilot (R274 to R276, R284) -/

/-- The oscillator of a CCS front-end runs from LINK until END (R284). -/
def State.oscillator (s : State) (c : Nat) : Bool :=
  let st := s.sst c
  decide (sLink ≤ st) && st != sEnd

/-- The state a CCS pilot shows (R274). -/
def ccsState (osc : Bool) (hi lo : Int) : Nat :=
  let in_ (a b : Int) : Bool := decide (a ≤ hi ∧ hi ≤ b)
  if osc && decide (-11000 < lo) then 6
  else if in_ 11000 13000 then 0
  else if in_ 8000 10000 then 1
  else if in_ 5000 7000 then 2
  else if in_ 2000 4000 then 3
  else if in_ (-1000) 1000 then 4
  else if hi < -11000 then 5
  else 6

/-- A pilot state ends or stops a session (R276, R284). -/
def pilotActs (c k : Nat) (s : State) : State :=
  let st := s.sst c
  let ventOk := s.b Fl.VEH_SCFG_VENTOK c
  let error := 4 ≤ k || (k == 3 && !ventOk)
  let ready := k == 2 || (k == 3 && ventOk)
  if st == sIdle || st == sEnd || st == sFault then s
  else if k == 0 then
    if s.gst (portGroup c) == gOff then endWith 9 c s
    else if st == sStopping || st == sUnlock then sesCause 9 c s
    else toStopping 9 c s
  else if error then stopWith 15 c s
  else if (st == sCharge || st == sPause) && !ready then stopWith 15 c s
  else s

/-- A pilot state is qualified (R276). -/
def pilotQualified (f : Nat) (r : PilotReading) (s : State) : State :=
  let c := s.f Fl.VEH_FE_CTX f
  if 24 ≤ f || 48 ≤ c || s.feMode f == 0 then s else
  let k := match r with
    | .ccs hi lo => ccsState (s.oscillator c) hi lo
    | .mcs code => min code 6
  let s := s.setF Fl.VEH_SSTAT_PILOT c k
  if s.feOf c == some f then pilotActs c k s else s

/-! ### Link and discovery (R277 to R279) -/

/-- A RunID is heard more strongly, by XDB or more, on another own CCS front-end (R278). -/
def State.strongerElsewhere (s : State) (f run att : Nat) : Bool :=
  (List.range 24).any fun g => g != f && s.feMode g == 1 && !s.b Fl.VEH_FE_TYPE g &&
    (match cellsFind (s.fe g).runs run with
      | none => false
      | some a => a + s.f Fl.VEH_TIM2_XDB ≤ att)

/-- A SLAC message: attenuations are noted, a match is granted with a fresh membership key or refused
(R277, R278). -/
def slacMessage (f : Nat) (m : SlacMsg) (s : State) : State :=
  if 24 ≤ f || s.b Fl.VEH_FE_TYPE f || s.feMode f != 1 || s.f Fl.VEH_FE_PLC f == 0xF then s else
  match m with
  | .parmReq run => s.setFe f fun x => { x with runs := cellsErase x.runs run }
  | .atten run db => s.setFe f fun x => { x with runs := cellsInsert x.runs run db }
  | .matchReq run =>
    let c := s.f Fl.VEH_FE_CTX f
    match cellsFind (s.fe f).runs run with
    | none => s
    | some a =>
      if s.sst c == sLink && a ≤ s.f Fl.VEH_TIM2_ATTMAX && !s.strongerElsewhere f run a then
        let d := s.draw
        d.2.setSes c fun x => { x with link := true, netKey := d.1 }
      else s

/-! ### Frames to the vehicle (R292) -/

/-- The context's deltas go to a buddy. -/
def State.onRing (s : State) : Bool := s.inView && !s.b Fl.RNG_STAT_NOBUDDY

/-- A frame goes to the vehicle; on a ring it waits for its delta's acknowledgement (R292). -/
def sendVehicle (c : Nat) (m : VehFrame) (s : State) : State :=
  s.setSes c fun x =>
    if s.onRing && c < 24 then { x with heldFrame := some m, lastResponse := some m, txCount := x.txCount + 1 }
    else { x with wire := some m, lastResponse := some m, txCount := x.txCount + 1 }

/-- The held frame is released (R292). -/
def releaseFrame (c : Nat) (acked : Bool) (s : State) : State :=
  match (s.ses c).heldFrame with
  | none => s
  | some m => (s.setB Fl.VEH_SSTAT_UNCONF c (!acked)).setSes c fun x => { x with heldFrame := none, wire := some m }

/-! ### Protocol and security (R280 to R282) -/

/-- The protocols a context may choose, best first (R280). -/
def State.protocols (s : State) (c : Nat) : List Nat :=
  let p := s.f Fl.VEH_SCFG_PROTO c
  [3, 2, 1].filter fun k => bitOf p (k - 1) && (k == 3 || s.ccs c)

/-- supportedAppProtocol: the highest device preference the vehicle offers, in the schema version the
vehicle prefers; nothing in common ends the session (R280). -/
def appProtocol (c : Nat) (offers : List AppOffer) (s : State) : State :=
  if s.sst c != sSetup then s else
  match (s.protocols c).find? fun k => offers.any fun o => o.proto == k with
  | none => endWith 13 c s
  | some k =>
    let best := (offers.filter fun o => o.proto == k).foldl (fun (b : Option AppOffer) o =>
      match b with
      | none => some o
      | some x => if o.priority < x.priority then some o else b) none
    (s.setF Fl.VEH_SSTAT_PROTOSEL c k).setSes c fun x => { x with schema := (best.map (·.schemaId)).getD 0 }

/-- The TLS options in order of preference, by the code points of TLS 1.3 (R281; PRESUMED, assumption 21). -/
def tlsSuites : List Nat := [0x1302, 0x1301]
def tlsGroups : List Nat := [0x0019, 0x0017]
def tlsSignatures : List Nat := [0x0603, 0x0808]

/-- The first supported option that is offered. -/
def firstOffered (mine offered : List Nat) : Option Nat := mine.find? offered.contains

/-- A ClientHello that offers none of the options ends the session (R281). -/
def clientHello (c : Nat) (suites groups sigs : List Nat) (s : State) : State :=
  if s.sst c != sSetup || s.f Fl.VEH_SSTAT_PROTOSEL c == 1 || s.f Fl.VEH_SSTAT_PROTOSEL c == 2 then s else
  match firstOffered tlsSuites suites, firstOffered tlsGroups groups, firstOffered tlsSignatures sigs with
  | some a, some b, some d => s.setSes c fun x => { x with hello := some (a, b, d) }
  | _, _, _ => endWith 12 c s

/-- The traffic secrets are written: the record layer runs from here on (R282). -/
def tlsSecrets (c : Nat) (client server : List Byte) (s : State) : State :=
  if (s.ses c).hello.isSome then
    (s.setB Fl.VEH_SSTAT_TLS c true).setSes c fun x =>
      { x with secrets := some (client, server), rxCount := 0, txCount := 0 }
  else s

/-! ### Messages (R279, R285) -/

/-- A request is placed for the program (R285). -/
def placeRequest (c : Nat) (p : List Byte) (s : State) : State :=
  let a := s.f Fl.VEH_RXADDR_ADDR c
  let s := if inSram a p.length then s.dma a p else s
  sesCause 8 c ((s.setF Fl.VEH_RXLEN_LEN c p.length).setSes c fun x =>
    { x with outstanding := true, lastRequest := p })

/-- A request for the program: placed, held one deep, or discarded (R285). -/
def programRequest (c : Nat) (p : List Byte) (s : State) : State :=
  if s.f Fl.VEH_RXLEN_LEN c == 0 then placeRequest c p s
  else if (s.ses c).held.isNone then s.setSes c fun x => { x with held := some p }
  else s

/-- The connection of a context is up. -/
def State.connected (s : State) (c : Nat) : Bool :=
  c < 48 && (s.ses c).tcp && decide (sSetup ≤ s.sst c ∧ s.sst c ≤ sStopping)

/-- A V2GTP frame: one that fails its checks is discarded and counted; one whose record fails stops the
session; a loop request is answered by the loop responder (R279, R285, R297). -/
def v2gFrame (c : Nat) (m : V2gFrame) (s : State) : State :=
  if !s.connected c then s
  else if s.b Fl.VEH_SSTAT_TLS c && !m.recordOk then
    if s.sst c == sSetup then endWith 12 c s else stopWith 12 c s
  else if m.version != 1 || m.inverse != 0xFE || m.length != m.payload.length || 8192 < m.payload.length then
    s.satF Fl.VEH_LOOPCNT_BADFRAME c 1
  else
    let s := s.setSes c fun x => { x with rxCount := x.rxCount + 1 }
    if m.loop then s else programRequest c m.payload s

/-- GO: the program's response is sent. In SETUP, with a protocol chosen and TLS complete where required, it
is the SessionSetup response and AUTH follows (R284, R285). -/
def responseSend (c len : Nat) (s : State) : State :=
  if !s.connected c || len == 0 || 8192 < len || !(s.ses c).outstanding then s else
  let b := s.bytes (s.f Fl.VEH_TXADDR_ADDR c) len
  let s := sendVehicle c (.bytes b) ((s.setF Fl.VEH_TXLEN_LEN c len).setSes c fun x => { x with outstanding := false })
  let proto := s.f Fl.VEH_SSTAT_PROTOSEL c
  if s.sst c == sSetup && proto != 0 && (proto != 3 || s.b Fl.VEH_SSTAT_TLS c) then toSession c sAuth s else s

/-- RXLEN = 0 releases the receive area; a held request follows (R285). -/
def receiveRelease (c : Nat) (s : State) : State :=
  let s := s.setF Fl.VEH_RXLEN_LEN c 0
  match (s.ses c).held with
  | none => s
  | some p => placeRequest c p (s.setSes c fun x => { x with held := none })

/-! ### The loop responder (R286, R287) -/

/-- The values of a loop response. -/
def loopAnswer (c : Nat) (finished : Bool) (s : State) : LoopAnswer :=
  let g := portGroup c
  let avg (w : Nat) : Int := signedOf 32 (s.reg R.PRT_GTEL (12 * g + w)).toNat
  { i := avg 0, v := avg 1
    maxI := min (s.f Fl.PRT_ISHEET_SHEET g) (s.f Fl.VEH_LIMI_LIMI c)
    maxV := s.f Fl.VEH_LIMV_LIMV c, maxP := s.f Fl.VEH_LIMP_LIMP c
    iso := s.f Fl.SFY_PSTAT_ISO c, esd := s.b Fl.SFY_PSTAT_ESD c, stop := (s.ses c).stopNote, finished := finished }

/-- A loop request is answered. -/
def answerLoop (c : Nat) (finished : Bool) (s : State) : State :=
  sendVehicle c (.loop (loopAnswer c finished s)) (s.addF Fl.VEH_LOOPCNT_LOOPS c 1)

/-- CableCheck: finished once port power is in CHECK and the insulation is valid (R286). -/
def cableCheckReq (c : Nat) (s : State) : State :=
  if !s.connected c then s else
  let ok := s.sst c == sCableCheck && s.gst (portGroup c) == gCheck && s.f Fl.SFY_PSTAT_ISO c == 1
  answerLoop c ok (s.setSes c fun x => { x with checked := x.checked || ok })

/-- PreCharge: the target is forwarded as VSET; the first request after the check leads to PRECHARGE (R284,
R286). -/
def preChargeReq (c : Nat) (v : Word) (s : State) : State :=
  if !s.connected c then s else
  let g := portGroup c
  let s := s.setReg R.VEH_EVV c v
  let s := if s.sst c == sCableCheck && (s.ses c).checked then
      portCmd 2 0 c (setVset g v (toSession c sPrecharge s))
    else if s.sst c == sPrecharge then setVset g v s else s
  answerLoop c false s

/-- The request value a target current stands for (R286, R287). -/
def State.reqOf (s : State) (c : Nat) (i : Int) : Int :=
  if i < 0 then
    if s.f Fl.VEH_SSTAT_PROTOSEL c == 3 && s.b Fl.VEH_SCFG_BPT c && s.b Fl.PRT_GCFG_BIDIR (portGroup c) then i else 0
  else min i (s.f Fl.VEH_LIMI_LIMI c)

/-- A charge-loop request: targets, REQ and VSET in CHARGE; a vehicle error stops (R284, R286, R287). -/
def chargeLoop (c : Nat) (ti tv : Word) (soc : Nat) (evError : Bool) (s : State) : State :=
  if !s.connected c then s else
  let s := if s.sst c == sCharge then
      let req := s.reqOf c ti.toInt
      let s := s.setReg R.VEH_EVI c ti |>.setReg R.VEH_EVV c tv |>.setF Fl.VEH_EVSOC_SOC c (min soc 255)
      let s := s.setB Fl.VEH_SSTAT_BPTACT c (decide (req < 0))
      setVset (portGroup c) tv (reqWrite c (BitVec.ofInt 32 req) s)
    else s
  let s := answerLoop c false s
  if evError then stopWith 10 c s else s

/-- PowerDelivery: passed to the program; a stop stops the session (R284). -/
def powerDelivery (c : Nat) (k : PowerDelivery) (p : List Byte) (s : State) : State :=
  if !s.connected c then s else
  let s := programRequest c p (s.setSes c fun x => { x with delivery := some k })
  if k == .stop then stopWith 10 c s else s

/-! ### Program commands (R284, R289, R290, R306) -/

/-- A command is refused (R289). -/
def sesRefuse (c : Nat) (s : State) : State := s.setB Fl.VEH_SSTAT_CMDERR c true

/-- PROCEED (R284). -/
def proceed (c : Nat) (s : State) : State :=
  let x := s.ses c
  let nogo := s.b Fl.THM_PSTAT_NOGO c && c < 24
  let st := s.sst c
  if st == sAuth then toSession c sParam s
  else if st == sParam then
    portCmd 1 0 c (setVset (portGroup c) (s.reg R.VEH_CHKV c) (forceCooling c true (toSession c sCableCheck s)))
  else if st == sPrecharge && x.delivery == some .start && s.gst (portGroup c) == gReady && !nogo then
    portCmd 3 0 c (toSession c sCharge s)
  else if st == sCharge && x.delivery == some .standby && s.f Fl.VEH_SSTAT_PROTOSEL c == 3 then
    portCmd 4 0 c (toSession c sPause s)
  else if st == sPause && x.delivery == some .start && !nogo then portCmd 3 0 c (toSession c sCharge s)
  else sesRefuse c s

/-- STOP of a program (R284, R288). -/
def sessionStop (c : Nat) (s : State) : State :=
  if s.midSession c then toStopping 10 c (s.setSes c fun x => { x with stopNote := true }) else sesRefuse c s

/-- CLEAR (R284). -/
def sessionClear (c : Nat) (s : State) : State :=
  if s.sst c == sFault then toUnlock c (portCmd 6 0 c s) else sesRefuse c s

/-- EN is set: at IDLE at once, else pending (R290). -/
def sessionEnable (c : Nat) (s : State) : State :=
  let s := s.setB Fl.VEH_SCFG_EN c true
  if s.sst c == sIdle then s.setSes c fun x => { x with active := true }
  else s.setB Fl.VEH_SSTAT_PEND c (!(s.ses c).active)

/-- EN is cleared: in any state but IDLE it acts as a program STOP (R290). -/
def sessionDisable (c : Nat) (s : State) : State :=
  let s := (s.setB Fl.VEH_SCFG_EN c false |>.setB Fl.VEH_SSTAT_PEND c false).setSes c fun x => { x with active := false }
  let st := s.sst c
  if decide (sPlugged ≤ st ∧ st ≤ sPause) then
    toStopping 10 c (s.setSes c fun x => { x with stopNote := true })
  else s

/-- The front-end a context shows (R298). -/
def showFront (c : Nat) (s : State) : State :=
  if c < 48 then
    s.setF Fl.VEH_SSTAT_FE c (((List.range 24).find? fun f => s.f Fl.VEH_FE_CTX f == c && s.feMode f != 0).getD 0x3F)
  else s

/-- MODE and CTX of a front-end change only while both contexts are IDLE (R271). -/
def frontEndConfig (f mode ctx : Nat) (s : State) : State :=
  let old := s.f Fl.VEH_FE_CTX f
  let idle (c : Nat) : Bool := 48 ≤ c || s.sst c == sIdle
  if 24 ≤ f || 4 ≤ mode || 64 ≤ ctx || !idle old || !idle ctx then s else
  let s := (s.setF Fl.VEH_FE_MODE f mode |>.setF Fl.VEH_FE_CTX f ctx).setFe f fun x =>
    { x with driving := false, released := false }
  showFront ctx (showFront old s)

/-! ### Standby, takeover, handover (R293 to R296) -/

/-- A standby front-end sees a frame on its port (R293). -/
def standbyObserved (f : Nat) (m : ObservedFrame) (s : State) : State :=
  if 24 ≤ f || s.feMode f != 2 then s else
  let c := s.f Fl.VEH_FE_CTX f
  match m with
  | .request ctx seq =>
    if ctx == c then s.setSes c fun x => { x with seen := some seq, answered := false } else s
  | .response ctx seq =>
    if ctx == c && (s.ses c).seen == some seq then s.setSes c fun x => { x with answered := true } else s
  | .other => s

/-- A guest context that cannot continue (R295). -/
def guestLost (c : Nat) (s : State) : State :=
  let st := s.sst c
  if decide (sPlugged ≤ st ∧ st ≤ sPause) then toStopping 14 c s else s

/-- A standby front-end takes a guest session over: it drives the pilot; an unanswered request is answered by
the shadowed response, or goes to the program (R294, R295). -/
def standbyTakeover (f : Nat) (s : State) : State :=
  let c := s.f Fl.VEH_FE_CTX f
  if 24 ≤ f || s.feMode f != 2 || c < 24 || 48 ≤ c || s.sst c == sIdle || !s.b Fl.RNG_STAT_GUEST then s
  else if s.b Fl.VEH_FE_NOPLC f then guestLost c s
  else
    let s := s.setFe f fun x => { x with driving := true }
    let x := s.ses c
    if x.answered then s
    else match x.lastResponse with
      | some m => s.setSes c fun x => { x with wire := some m, answered := true }
      | none => programRequest c x.lastRequest s

/-- The home front-end releases a session after an acknowledged delta and a sent response (R296). -/
def sessionHandover (c : Nat) (s : State) : State :=
  let x := s.ses c
  if 24 ≤ c || s.sst c == sIdle || x.outstanding || x.heldFrame.isSome || s.b Fl.VEH_SSTAT_UNCONF c then s else
  match s.feOf c with
  | none => s
  | some f => (s.setFe f fun x => { x with released := true }).setF Fl.VEH_SSTAT_STATE c sIdle
      |>.setSes c fun x => { x with active := false }

end Sys2Proof.Machine
end

