-- ==== Sys2Proof/Machine/Metering.lean ====
section
/-! DEFINITION. Legal metering: samples, boundaries, folds, pulses, the grid meter, the metrological
configuration and secondary measurement (R321 to R349). -/

namespace Sys2Proof.Machine

/-- Meter `m` beside its record. -/
def State.mt (s : State) (m : Nat) : Meter := s.mtr.meter.toList.getD m {}

/-- Changes meter `m` beside its record. -/
def State.setMt (s : State) (m : Nat) (f : Meter → Meter) : State :=
  { s with mtr.meter := s.mtr.meter.setIfInBounds m (f (s.mt m)) }

/-- A cause of the MTR block: bit `j` raises event 72 + j (R349). -/
def mtrCause (j : Nat) (s : State) : State := s.causeOn Fl.MTR_STAT_CAUSE Fl.MTR_CTL_EVEN 0 j (72 + j)

/-! ### Samples (R326, R327, R332, R343) -/

/-- A reading after its gain and offset corrections, in 2⁻³⁰ of its unit (R343). -/
def corrected (x : Int) (gain off : Int) : Int := x * (2 ^ 30 + gain) + off * 2 ^ 30

/-- Corrected current of meter `m`, 2⁻³⁰ mA. -/
def State.calI (s : State) (m : Nat) (i : Int) : Int :=
  corrected i (s.fi Fl.MTR_IGAIN_IGAIN m) (s.fi Fl.MTR_IOFF_IOFF m)

/-- Corrected voltage of meter `m`, 2⁻³⁰ mV. -/
def State.calV (s : State) (m : Nat) (v : Int) : Int :=
  corrected v (s.fi Fl.MTR_VGAIN_VGAIN m) (s.fi Fl.MTR_VOFF_VOFF m)

/-- Power of corrected 2⁻³⁰ mA and 2⁻³⁰ mV with the loss compensation, in 2⁻⁶⁰ pW (R326). -/
def legalPower (i v : Int) (rcomp : Nat) : Int := i * v * 1000000 - i * i * (rcomp : Int)

/-- One unit of 2⁻¹⁶ mWh, in 2⁻⁶⁰ pW·ns. -/
def energyUnit : Nat := 2 ^ 44 * (36 * 10 ^ 20)

/-- Full scale of the current and voltage inputs, mA and mV (R322). -/
def fullI : Int := 3600000
def fullV : Int := 1500000

/-- A meter saturates (R332, R382 class 5). -/
def meterOver (m : Nat) (s : State) : State :=
  let s := s.when (!s.b Fl.MTR_MSTAT_OVR m) (tamper 5)
  mtrCause 0 (meterFlag m 32 (s.setB Fl.MTR_MSTAT_OVR m true))

/-- RAWDEL and RAWREC as they stand at an instant: a latched value, or the last sample split there, its part
before the instant rounded toward zero (R328, R353). -/
def rawAt (x : Meter) (b : Nat) : Nat × Nat :=
  match x.latched.find? fun e => e.1 == b with
  | some e => e.2
  | none =>
    match x.last with
    | none => (x.rawDel, x.rawRec)
    | some l =>
      if l.e ≤ b then (x.rawDel, x.rawRec)
      else
        let before := if b ≤ l.s then 0 else l.units * (b - l.s) / (l.e - l.s)
        let after := l.units - before
        if l.del then ((x.rawDel + 2 ^ 48 - after) % 2 ^ 48, x.rawRec)
        else (x.rawDel, (x.rawRec + 2 ^ 48 - after) % 2 ^ 48)

/-- The instants of the latch list that a meter's last sample has passed are latched (R353). -/
def latchPassed (l : List Nat) (x : Meter) : Meter :=
  match x.last with
  | none => x
  | some e =>
    let hit := (l.filter fun b => e.s ≤ b && b ≤ e.e && !(x.latched.any fun y => y.1 == b)).map fun b => (b, rawAt x b)
    if hit.isEmpty then x else { x with latched := (hit ++ x.latched).take 2 }

/-- One legal sample that ends now: it is corrected and its energy joins an accumulator; below ICREEP and
while the meter is faulted it adds nothing (R325 to R328, R332). -/
def meterSample (m : Nat) (i v : Int) (s : State) : State :=
  let s := s.when (decide (fullI < i.natAbs) || decide (fullV < v.natAbs)) (meterOver m)
  let ci := s.calI m (clampInt (-fullI) fullI i)
  let cv := s.calV m (clampInt (-fullV) fullV v)
  let e := s.now
  let x := s.mt m
  let t0 := x.lastEnd.getD e
  let dt := e - t0
  let creep := decide (ci.natAbs < 1000 * 2 ^ 30)
  let s := s.setB Fl.MTR_MSTAT_CREEP m creep
  let idle := creep || s.b Fl.MTR_MSTAT_FAULT m
  let p := if idle then 0 else legalPower ci cv (s.f Fl.MTR_RCOMP_RCOMP m)
  let del := decide (0 < p)
  let e0 := p.natAbs * dt + (if del then x.carryDel else x.carryRec)
  let units := if p == 0 then 0 else e0 / energyUnit
  let carry := e0 % energyUnit
  s.setMt m fun x => latchPassed s.mtr.latchList { x with
    rawDel := if del then (x.rawDel + units) % 2 ^ 48 else x.rawDel
    rawRec := if del || p == 0 then x.rawRec else (x.rawRec + units) % 2 ^ 48
    carryDel := if del then carry else x.carryDel
    carryRec := if del || p == 0 then x.carryRec else carry
    lastEnd := some e
    last := some { s := t0, e := e, del := del, units := units }
    amps := truncDiv ci (2 ^ 30)
    sumP := x.sumP + p * dt
    sumT := x.sumT + dt }

/-! ### Totals and folds (R329 to R334) -/

/-- Delivered total with its fraction as the registers hold it, 2⁻¹⁶ mWh. -/
def State.totalDel (s : State) (m : Nat) : Nat := s.q R.MTR_EDELL R.MTR_EDELH m * 65536 + (s.mt m).fracDel

/-- Received total with its fraction as the registers hold it, 2⁻¹⁶ mWh. -/
def State.totalRec (s : State) (m : Nat) : Nat := s.q R.MTR_ERECL R.MTR_ERECH m * 65536 + (s.mt m).fracRec

/-- Delivered and received total of a port meter at an instant, 2⁻¹⁶ mWh. -/
def State.totalsAt (s : State) (m b : Nat) : Nat × Nat :=
  let r := rawAt (s.mt m) b
  (s.totalDel m + (r.1 + 2 ^ 48 - s.q R.MTR_RAWDELL R.MTR_RAWDELH m) % 2 ^ 48,
   s.totalRec m + (r.2 + 2 ^ 48 - s.q R.MTR_RAWRECL R.MTR_RAWRECH m) % 2 ^ 48)

/-- Grid totals, 2⁻¹⁶ mWh: imported and exported. -/
def State.gridTotals (s : State) : Nat × Nat :=
  (s.q R.MTR_EIMPL R.MTR_EIMPH * 65536 + s.mtr.imp.frac, s.q R.MTR_EEXPL R.MTR_EEXPH * 65536 + s.mtr.exp.frac)

/-- Totals of meter 0 to 23 or of the grid (24) at an instant. -/
def State.meterTotals (s : State) (m b : Nat) : Nat × Nat :=
  if m < 24 then s.totalsAt m b else s.gridTotals

/-- Shows the totals of a port meter, with the exported registers (R334). -/
def showTotals (m del rec : Nat) (s : State) : State :=
  let d := del / 65536 % 2 ^ 64
  let r := rec / 65536 % 2 ^ 64
  let s := s.setQ R.MTR_EDELL R.MTR_EDELH m d |>.setQ R.MTR_ERECL R.MTR_ERECH m r
    |>.setF Fl.MTR_XDEL_XDEL m (d / 1000 % 10 ^ 9) |>.setF Fl.MTR_XREC_XREC m (r / 1000 % 10 ^ 9)
  s.setMt m fun x => { x with fracDel := del % 65536, fracRec := rec % 65536 }

/-- Shows the grid totals. -/
def showGrid (imp exp : Nat) (s : State) : State :=
  let d := imp / 65536 % 2 ^ 64
  let r := exp / 65536 % 2 ^ 64
  let s := s.setQ R.MTR_EIMPL R.MTR_EIMPH 0 d |>.setQ R.MTR_EEXPL R.MTR_EEXPH 0 r
    |>.setF Fl.MTR_XIMP_XIMP 0 (d / 1000 % 10 ^ 9) |>.setF Fl.MTR_XEXP_XEXP 0 (r / 1000 % 10 ^ 9)
  { s with mtr.imp.frac := imp % 65536, mtr.exp.frac := exp % 65536 }

/-- Pulses due and not emitted, modulo 2³² (R336). -/
def State.pulsesDue (s : State) (m : Nat) : Nat :=
  let t := s.totalsAt m s.now
  let mwh := (if s.b Fl.MTR_MCFG_PSRC m then t.2 else t.1) / 65536
  let d := (mwh * s.f Fl.MTR_MCFG_KP m / 1000000 + 2 ^ 32 - s.f Fl.MTR_PCNT_PCNT m) % 2 ^ 32
  if d < 2 ^ 31 then d else 0

/-- Shows PBACK. -/
def showBacklog (m : Nat) (s : State) : State := s.setF Fl.MTR_MSTAT_PBACK m (min 65535 (s.pulsesDue m))

/-- Folds one meter at an instant (R329). -/
def foldMeter (b m : Nat) (s : State) : State :=
  let r := rawAt (s.mt m) b
  let t := s.totalsAt m b
  let x := s.mt m
  let p1 := if x.sumT = 0 then 0 else truncDiv x.sumP (x.sumT * (2 ^ 60 * 10 ^ 12))
  let s := showTotals m t.1 t.2 s
  let s := s.setQ R.MTR_RAWDELL R.MTR_RAWDELH m r.1 |>.setQ R.MTR_RAWRECL R.MTR_RAWRECH m r.2
    |>.setFi Fl.MTR_MP1_P1 m p1
  showBacklog m (s.setMt m fun x => { x with sumP := 0, sumT := 0 })

/-- One meter as the fold record holds it. -/
def State.meterRecord (s : State) (m : Nat) : MeterRecord :=
  { rawDel := s.q R.MTR_RAWDELL R.MTR_RAWDELH m, rawRec := s.q R.MTR_RAWRECL R.MTR_RAWRECH m
    del := s.q R.MTR_EDELL R.MTR_EDELH m, fracDel := (s.mt m).fracDel
    rcv := s.q R.MTR_ERECL R.MTR_ERECH m, fracRec := (s.mt m).fracRec
    pulses := s.f Fl.MTR_PCNT_PCNT m }

/-- Commits the fold record, or skips it while a gate is closed (R329, R331). -/
def commitFold (b : Nat) (s : State) : State :=
  if s.nvOk then
    let seq := s.mtr.committed.seq + 1
    let s := s.setF Fl.MTR_FOLD_SEQ 0 seq
    let g := s.gridTotals
    let r : FoldRecord :=
      { seq := seq, run := s.mtr.run, instant := b, meters := (List.range 24).map s.meterRecord
        grid := (g.1 / 65536, g.1 % 65536, g.2 / 65536, g.2 % 65536) }
    { s with mtr.committed := r }
  else s.satF Fl.MTR_FOLD_SKIP 0 1

/-- Folding runs in Run and Luff, once the analog die is ready; during a boot the join folds (R47, R53, R348). -/
def State.metersRun (s : State) : Bool :=
  s.sys.phase == .running && s.f Fl.SYS_PWRSTAT_STATE ≤ 1 && s.b Fl.SYS_PWRSTAT_ANARDY

/-- The fold of every meter at the last whole millisecond of device time (R329). -/
def fold (s : State) : State :=
  if !s.metersRun then s else
  let b := s.now / 1000000 * 1000000
  commitFold b (s.each 24 (foldMeter b))

/-- The fold of save step 6: the closing fold of each meter (R345). -/
def closingFold (s : State) : State :=
  let b := s.now
  let s := s.each 24 fun m s =>
    (foldMeter b m s).setReg R.MTR_CLOSEI m (s.reg R.MTR_FTI m) |>.setReg R.MTR_CLOSEV m (s.reg R.MTR_FTV m)
      |>.setQ R.MTR_CLOSETL R.MTR_CLOSETH m b
  commitFold b s

/-- The meters restart after a reset from the committed record: an unchanged run identifier continues the
raw accumulators, a new one restarts them and records a gap (R330, R331, R346). -/
def metersRestart (newRun : Option Nat) (s : State) : State :=
  let c := s.mtr.committed
  let s := match newRun with
    | none => s
    | some k => { s with mtr.run := k, mtr.meter := Vector.replicate 24 {} }
  let gap := decide (c.run ≠ s.mtr.run)
  let s := s.each 24 fun m s =>
    let r := c.meters.getD m {}
    let s := showTotals m (r.del * 65536 + r.fracDel) (r.rcv * 65536 + r.fracRec) s
    let s := s.setF Fl.MTR_PCNT_PCNT m r.pulses |>.setB Fl.MTR_MSTAT_GAP m gap
      |>.setQ R.MTR_RAWDELL R.MTR_RAWDELH m (if gap then 0 else r.rawDel)
      |>.setQ R.MTR_RAWRECL R.MTR_RAWRECH m (if gap then 0 else r.rawRec)
    s.setMt m fun x => { x with pulse := false }
  let s := showGrid (c.grid.1 * 65536 + c.grid.2.1) (c.grid.2.2.1 * 65536 + c.grid.2.2.2) s
  s.setF Fl.MTR_FOLD_SEQ 0 c.seq

/-! ### Checks and the fast tap (R332, R339) -/

/-- The 10 ms check of a meter: a failure faults it and starts secondary measurement
(tamper classes 4 and 11). -/
def meterCheck (m : Nat) (pass : Bool) (s : State) : State :=
  let s := s.setMt m fun x => { x with failed := !pass }
  if pass || s.b Fl.MTR_MSTAT_FAULT m then s
  else tamper 11 (tamper 4 (mtrCause 1 (meterFlag m 12
    (s.setB Fl.MTR_MSTAT_FAULT m true |>.setB Fl.MTR_MSTAT_SEC m true))))

/-- One second of passed checks clears FAULT. -/
def meterFaultClear (m : Nat) (s : State) : State :=
  if (s.mt m).failed then s else s.setB Fl.MTR_MSTAT_FAULT m false |>.setB Fl.MTR_MSTAT_SEC m false

/-- A fast-tap sample (R339). -/
def fastTap (m : Nat) (i v : Int) (s : State) : State :=
  s.setFi Fl.MTR_FTI_I_FT m (truncDiv (s.calI m i) (2 ^ 30))
    |>.setFi Fl.MTR_FTV_V_FT m (truncDiv (s.calV m v) (2 ^ 30))

/-! ### Pulses (R336, R337) -/

def pulseStart (m : Nat) (s : State) : State :=
  if s.b Fl.MTR_MCFG_PEN m && !(s.mt m).pulse && s.pulsesDue m != 0 && s.metersRun then
    showBacklog m ((s.addF Fl.MTR_PCNT_PCNT m 1).setMt m fun x => { x with pulse := true })
  else s

/-! ### The grid meter (R340 to R342) -/

/-- KG of a direction; 0 acts as 1. -/
def State.kg (s : State) (ex : Bool) : Nat := max 1 (s.f (if ex then Fl.MTR_GKG_KGE else Fl.MTR_GKG_KGI))

/-- One quantum of a direction, 2⁻¹⁶ mWh, whole units. -/
def State.quantum (s : State) (ex : Bool) : Nat := 10 ^ 6 * 65536 / s.kg ex

/-- A direction of the grid meter beside its record. -/
def State.gin (s : State) (ex : Bool) : GridInput := if ex then s.mtr.exp else s.mtr.imp

/-- Changes a direction of the grid meter. -/
def State.setGin (s : State) (ex : Bool) (f : GridInput → GridInput) : State :=
  if ex then { s with mtr.exp := f s.mtr.exp } else { s with mtr.imp := f s.mtr.imp }

/-- Credits energy to a grid total, 2⁻¹⁶ mWh. -/
def gridCredit (ex : Bool) (u : Nat) (s : State) : State :=
  let g := s.gridTotals
  if ex then showGrid g.1 (g.2 + u) s else showGrid (g.1 + u) g.2 s

/-- The grid meter runs in PULSE mode. -/
def State.gridPulse (s : State) : Bool := s.f Fl.MTR_GSTAT_MODE == 1

/-- The grid meter changes mode (R342). -/
def gridMode (mode reason : Nat) (s : State) : State :=
  let s := s.setF Fl.MTR_GSTAT_MODE 0 mode |>.setF Fl.MTR_GSTAT_REASON 0 reason
  let s := meterFlag 24 (if mode = 1 then 1024 else 512) s
  let z (x : GridInput) : GridInput := { x with agree := 0 }
  mtrCause 4 ((s.setGin false z).setGin true z)

/-- One millisecond of the own measurement: GP1, RMS values and frequency, and its energy in the direction of
GP1. In PULSE mode energy of 3 quanta without a pulse returns to OWN (R340, R342). -/
def gridCompute (gp1 : Int) (vRms iRms : List Nat) (mHz : Nat) (s : State) : State :=
  let s := s.setFi Fl.MTR_GP1_GP1 0 gp1 |>.setF Fl.MTR_GFREQ_F 0 mHz
  let s := s.each 3 fun k s => s.setF Fl.MTR_GRMSV_V k (vRms.getD k 0) |>.setF Fl.MTR_GRMSI_I k (iRms.getD k 0)
  let ex := decide (gp1 < 0)
  let n := gp1.natAbs * 65536 + (s.gin ex).carryOwn
  let u := n / 3600
  let s := s.setGin ex fun x => { x with carryOwn := n % 3600, own := x.own + u, ivOwn := x.ivOwn + u }
  if !s.gridPulse then gridCredit ex u s
  else if 3 * s.quantum ex ≤ (s.gin ex).own then
    let s := gridCredit false (s.gin false).own (gridCredit true (s.gin true).own s)
    tamper 6 (mtrCause 5 (gridMode 0 2 s))
  else s

/-- A pulse of the utility meter: short ones are counted as such; in PULSE mode it credits its quantum; in
OWN mode the tenth consecutive one that agrees enters PULSE (R342). -/
def utilityPulse (ex : Bool) (widthUs : Nat) (s : State) : State :=
  if widthUs < 2000 then s.satF Fl.MTR_GSTAT_SHORTP 0 1 else
  let n := 10 ^ 6 * 65536 + (s.gin ex).carryPulse
  let q := n / s.kg ex
  let own := (s.gin ex).own
  let diff := if own ≤ q then q - own else own - q
  let ok := decide (10 * diff ≤ own) || decide (diff ≤ q)
  if s.gridPulse then
    gridCredit ex q (s.setGin ex fun x => { x with carryPulse := n % s.kg ex, own := 0, ivPulse := x.ivPulse + q })
  else
    let a := if ok && !s.b Fl.MTR_GCFG_FORCE then (s.gin ex).agree + 1 else 0
    let s := s.setGin ex fun x => { x with own := 0, agree := a, ivPulse := x.ivPulse + q }
    if 10 ≤ a then gridMode 1 0 (s.setGin (!ex) fun x => { x with own := 0 }) else s

/-- FORCE is set (R342). -/
def gridForce (s : State) : State :=
  let s := s.setB Fl.MTR_GCFG_FORCE 0 true
  s.when s.gridPulse (gridMode 0 1)

/-- At the end of an interval pulse and own energy are compared, and the counts restart (R342). -/
def gridInterval (s : State) : State :=
  let off (ex : Bool) : Bool :=
    let x := s.gin ex
    let d := if x.ivOwn ≤ x.ivPulse then x.ivPulse - x.ivOwn else x.ivOwn - x.ivPulse
    decide (2 * x.ivOwn + 200 * s.quantum ex < 100 * d)
  let s := s.when (s.gridPulse && (off false || off true)) fun s => tamper 7 (mtrCause 6 (meterFlag 24 2048 s))
  let z (x : GridInput) : GridInput := { x with ivPulse := 0, ivOwn := 0 }
  (s.setGin false z).setGin true z

/-! ### Metrological configuration (R338, R343, R344) -/

/-- The metrological bits of a register (R343). -/
def metroBits (r : Rg) : Word := r.mram &&& r.rw

/-- A metrological value lies in its range (R338 and the register tables). -/
def metroRange (r : Rg) (v : Word) : Bool :=
  if r = R.MTR_MCFG then decide (1 ≤ v.toNat % 65536 ∧ v.toNat % 65536 ≤ 1666)
  else if r = R.MTR_CTRATIO then decide (1 ≤ v.toNat ∧ v.toNat ≤ 10000000)
  else if r = R.MTR_VTRATIO then decide (1 ≤ v.toNat ∧ v.toNat ≤ 10000)
  else true

/-- A write that changes metrological bits: accepted with MCAL_N low and, on a port meter, |I| below Ist;
refused otherwise (R343). An accepted write counts and is a tamper event of class "metrology configuration". -/
def metroWrite (r : Rg) (i : Nat) (v : Word) (s : State) : State :=
  let portRec := r = R.MTR_MCFG || r = R.MTR_IGAIN || r = R.MTR_IOFF || r = R.MTR_VGAIN || r = R.MTR_VOFF ||
    r = R.MTR_RCOMP
  if !(s.b Fl.MTR_STAT_CALEN && (!portRec || decide ((s.mt i).amps.natAbs < 2000)) && metroRange r v) then
    mtrCause 3 s
  else tamper 1 (mtrCause 2 (meterFlag (if portRec then i else 24) 128
    ((plainWrite r i v s).addF Fl.MTR_CALCNT_COUNT 0 1)))

/-- Whether a write changes a metrological field. -/
def State.metroChange (s : State) (r : Rg) (i : Nat) (v : Word) : Bool :=
  metroBits r != 0 && (s.reg r i &&& metroBits r) != (v &&& metroBits r)

/-! ### Queued boundaries (R328, R349) -/

/-- A boundary is queued, or refused when the queue is full, its instant is past or its meter does not
exist. -/
def boundaryEnqueue (s : State) : State :=
  let b := s.q R.MTR_BNDL R.MTR_BNDH
  let m := s.f Fl.MTR_BNDCTL_METER
  if 8 ≤ s.mtr.queue.length || b < s.now || 24 < m then mtrCause 7 (s.setB Fl.MTR_BNDCTL_ERR 0 true)
  else
    let q := s.mtr.queue ++ [(b, m, s.f Fl.MTR_BNDCTL_TAG)]
    { s.setF Fl.MTR_BNDCTL_COUNT 0 q.length with mtr.queue := q }

/-- Writes the result of one boundary into the ring. -/
def boundaryResult (e : Nat × Nat × Nat) (s : State) : State :=
  let t := s.meterTotals e.2.1 e.1
  let k := s.mtr.resNext
  let s := s.setReg R.MTR_RES0 k 0 |>.setB Fl.MTR_RES0_VALID k true |>.setF Fl.MTR_RES0_METER k e.2.1
    |>.setF Fl.MTR_RES0_TAG k e.2.2 |>.setQ R.MTR_RESBL R.MTR_RESBH k e.1
    |>.setQ R.MTR_RESEDL R.MTR_RESEDH k (t.1 / 65536) |>.setQ R.MTR_MIRL R.MTR_MIRH k (t.2 / 65536)
    |>.setF Fl.MTR_RESFRAC_DEL k (t.1 % 65536) |>.setF Fl.MTR_RESFRAC_REC k (t.2 % 65536)
  mtrCause 7 { s with mtr.resNext := (k + 1) % 16 }

/-- Every queued boundary whose instant has come is latched, the earliest first. -/
def boundaryLatch (s : State) : State :=
  let due := s.mtr.queue.filter fun e => e.1 ≤ s.now
  let rest := s.mtr.queue.filter fun e => !(e.1 ≤ s.now)
  let order := sortBy (fun a b => decide (a.1 ≤ b.1)) due
  let s := s.eachOf order boundaryResult
  { s.setF Fl.MTR_BNDCTL_COUNT 0 rest.length with mtr.queue := rest }

end Sys2Proof.Machine
end

