-- ==== Sys2Proof/Machine/Calendar.lean ====
section
/-! DEFINITION. The tariff calendar: civil dates, seasons, day profiles, switch points and the validation of a
calendar copy (R351, R355 to R359). -/

namespace Sys2Proof.Machine

/-- One minute, one profile interval and one day, ns. -/
def minuteNs : Nat := 60000000000
def profileNs : Nat := 15 * minuteNs
def dayNs : Nat := 1440 * minuteNs

/-- A civil date: year, month 1 to 12, day 1 to 31, weekday 0 Monday to 6 Sunday. -/
structure CivilDate where
  year : Nat
  month : Nat
  day : Nat
  weekday : Nat
  deriving DecidableEq, Repr, Inhabited

/-- The date of a day counted from 2000-01-01, which was a Saturday. -/
def civil (days : Int) : CivilDate :=
  let z := (days + 730425).toNat
  let era := z / 146097
  let doe := z % 146097
  let yoe := (doe - doe / 1460 + doe / 36524 - doe / 146096) / 365
  let doy := doe - (365 * yoe + yoe / 4 - yoe / 100)
  let mp := (5 * doy + 2) / 153
  let month := if mp < 10 then mp + 3 else mp - 9
  { year := yoe + era * 400 + (if month ≤ 2 then 1 else 0), month := month
    day := doy - (153 * mp + 2) / 5 + 1, weekday := ((days + 5) % 7).toNat }

/-- A calendar copy, by its register arrays: the passive or the active one (R359). -/
structure CalCopy where
  sea0 : Rg
  sea1 : Rg
  week0 : Rg
  week1 : Rg
  day : Rg
  spec : Rg

def passiveCal : CalCopy := ⟨R.BIL_PSEA0, R.BIL_PSEA1, R.BIL_PWEEK0, R.BIL_PWEEK1, R.BIL_PDAY, R.BIL_PSPEC⟩
def activeCal : CalCopy := ⟨R.BIL_ASEA0, R.BIL_ASEA1, R.BIL_AWEEK0, R.BIL_AWEEK1, R.BIL_ADAY, R.BIL_ASPEC⟩

/-- A field of a calendar copy, by the same field of the passive copy. -/
def State.cal (s : State) (r : Rg) (fl : Fld) (i : Nat) : Nat := bitsOf (s.reg r i) fl.lsb fl.width

/-- Month, day and minute as one rising number. -/
def yearKey (month day minute : Nat) : Nat := (month * 32 + day) * 2048 + minute

/-- Start of a season within its year. -/
def State.seasonStart (s : State) (c : CalCopy) (i : Nat) : Nat :=
  yearKey (s.cal c.sea0 Fl.BIL_PSEA0_MONTH i) (s.cal c.sea0 Fl.BIL_PSEA0_DAY i) (s.cal c.sea1 Fl.BIL_PSEA1_MINUTE i)

/-- The valid season with the latest start among those that satisfy a test. -/
def State.latestSeason (s : State) (c : CalCopy) (ok : Nat → Bool) : Option Nat :=
  (List.range 8).foldl (fun best i =>
    if s.cal c.sea0 Fl.BIL_PSEA0_VALID i == 1 && ok (s.seasonStart c i) then
      match best with
      | none => some i
      | some b => if s.seasonStart c b < s.seasonStart c i then some i else some b
    else best) none

/-- The season in force at a calendar instant (R356). -/
def State.seasonAt (s : State) (c : CalCopy) (utc : Int) : Option Nat :=
  let d := civil (Int.fdiv utc dayNs)
  let now := yearKey d.month d.day ((Int.fmod utc dayNs).toNat / minuteNs)
  match s.latestSeason c fun k => decide (k ≤ now) with
  | some i => some i
  | none => s.latestSeason c fun _ => true

/-- Local time of a calendar instant, ns (R356). -/
def State.localTime (s : State) (c : CalCopy) (utc : Int) : Int :=
  match s.seasonAt c utc with
  | none => utc
  | some i => utc + signedOf 8 (s.cal c.sea1 Fl.BIL_PSEA1_OFFSET i) * (profileNs : Int)

/-- The valid switch points of a day profile: local minute and tariff, in table order. -/
def State.switchPoints (s : State) (c : CalCopy) (d : Nat) : List (Nat × Nat) :=
  ((List.range 24).map fun q => 24 * d + q).filterMap fun i =>
    if s.cal c.day Fl.BIL_PDAY_VALID i == 1 then
      some (s.cal c.day Fl.BIL_PDAY_MINUTE i, s.cal c.day Fl.BIL_PDAY_TARIFF i)
    else none

/-- The day profile a week profile names for a weekday. -/
def State.weekDay (s : State) (c : CalCopy) (w wd : Nat) : Nat :=
  if wd < 4 then bitsOf (s.reg c.week0 w) (8 * wd) 5 else bitsOf (s.reg c.week1 w) (8 * (wd - 4)) 5

/-- The day profile of a local date with a season in force: a special day of the year first, then one of every
year, then the week profile (R357). -/
def State.dayProfile (s : State) (c : CalCopy) (season : Option Nat) (days : Int) : Option Nat :=
  let d := civil days
  let hit (every : Bool) := (List.range 256).find? fun k =>
    s.cal c.spec Fl.BIL_PSPEC_VALID k == 1 && s.cal c.spec Fl.BIL_PSPEC_MONTH k == d.month &&
    s.cal c.spec Fl.BIL_PSPEC_DAY k == d.day && (s.cal c.spec Fl.BIL_PSPEC_EVERYYEAR k == 1) == every &&
    (every || s.cal c.spec Fl.BIL_PSPEC_YEAR k + 2000 == d.year)
  match hit false with
  | some k => some (s.cal c.spec Fl.BIL_PSPEC_DAYPROF k)
  | none =>
    match hit true with
    | some k => some (s.cal c.spec Fl.BIL_PSPEC_DAYPROF k)
    | none => season.map fun i => s.weekDay c (s.cal c.sea0 Fl.BIL_PSEA0_WEEK i) d.weekday

/-- The switch point with the largest minute among those that satisfy a test; the later entry where two share
a minute. -/
def lastPoint (l : List (Nat × Nat)) (ok : Nat → Bool) : Option (Nat × Nat) :=
  l.foldl (fun best e => if !ok e.1 then best else
    match best with | none => some e | some b => if b.1 ≤ e.1 then some e else some b) none

/-- The tariff of the calendar at an instant, switch points acting cyclically (R357). -/
def State.tariffAt (s : State) (c : CalCopy) (utc : Int) : Option Nat :=
  let l := s.localTime c utc
  match s.dayProfile c (s.seasonAt c utc) (Int.fdiv l dayNs) with
  | none => none
  | some d =>
    let pts := s.switchPoints c d
    let x := (Int.fmod l dayNs).toNat / minuteNs
    match lastPoint pts fun m => decide (m ≤ x) with
    | some e => some e.2
    | none => (lastPoint pts fun _ => true).map (·.2)

/-- The last switch point crossed in the local span (from, to], searched back from its last day (R358). Every
day profile of a validated calendar holds a point, so two days back suffice. -/
def State.crossed (s : State) (season : Option Nat) (from_ to_ : Int) : Option Nat :=
  let c := activeCal
  let d0 := Int.fdiv to_ dayNs
  (List.range 3).foldl (fun r k =>
    match r with
    | some t => some t
    | none =>
      let d : Int := d0 - (k : Nat)
      match s.dayProfile c season d with
      | none => none
      | some p =>
        (lastPoint (s.switchPoints c p) fun m =>
          let x : Int := d * (dayNs : Int) + (m * minuteNs : Nat)
          decide (from_ < x ∧ x ≤ to_)).map (·.2)) none

/-- A day profile has a valid switch point. -/
def State.profileOk (s : State) (c : CalCopy) (d : Nat) : Bool := !(s.switchPoints c d).isEmpty

/-- The validation of a calendar copy (R359). -/
def State.calendarOk (s : State) (c : CalCopy) : Bool :=
  let seasons := (List.range 8).filter fun i => s.cal c.sea0 Fl.BIL_PSEA0_VALID i == 1
  !seasons.isEmpty &&
  seasons.all (fun i => (List.range 7).all fun wd =>
    s.profileOk c (s.weekDay c (s.cal c.sea0 Fl.BIL_PSEA0_WEEK i) wd)) &&
  ((List.range 256).all fun k =>
    s.cal c.spec Fl.BIL_PSPEC_VALID k == 0 || s.profileOk c (s.cal c.spec Fl.BIL_PSPEC_DAYPROF k)) &&
  (List.range 32).all fun d => (s.switchPoints c d).all fun e => e.1 % 15 == 0 && e.1 ≤ 1425

/-- Copies the passive tables into the active copy (R359). -/
def copyCalendar (s : State) : State :=
  let copy (a b : Rg) (n : Nat) (s : State) : State := s.each n fun i s => s.setReg b i (s.reg a i)
  copy R.BIL_PSEA0 R.BIL_ASEA0 8 s |> copy R.BIL_PSEA1 R.BIL_ASEA1 8
    |> copy R.BIL_PWEEK0 R.BIL_AWEEK0 16 |> copy R.BIL_PWEEK1 R.BIL_AWEEK1 16
    |> copy R.BIL_PDAY R.BIL_ADAY 768 |> copy R.BIL_PSPEC R.BIL_ASPEC 256

end Sys2Proof.Machine
end

