-- ==== Sys2Proof/Machine/Signatures.lean ====
section
/-! DEFINITION. Device keys, index reservation, envelopes, roots, receipts, statements, attestation and the
crypto jobs (R388 to R414). -/

namespace Sys2Proof.Machine

/-- A cause of the SIG block: bit `j` raises event 88 + j (R414). -/
def sigCause (j : Nat) (s : State) : State := s.causeOn Fl.SIG_STAT_CAUSE Fl.SIG_CTL_EVEN 0 j (88 + j)

/-- A byte string brought to a length. -/
def fitTo (n : Nat) (l : List Byte) : List Byte := (l ++ List.replicate n 0).take n

/-- SHAKE256 with 256-bit output. -/
def digest (l : List Byte) : List Byte := fitTo 32 (Config.shake256 l 32)

/-- The module identifier in records and envelopes: 0 outside a ring. -/
def State.recordModule (s : State) : Nat := if s.b Fl.RNG_CTL_EN then s.f Fl.RNG_CFG_MODID else 0

/-! ### Keys and reservation (R391 to R397, R413) -/

/-- The reservation record of a key. -/
def State.reservation (s : State) (k : Nat) : Option Reservation := if k = 0 then s.sig.record0 else s.sig.record1

/-- Writes a reservation record, and shows LIMIT and CLOSED. -/
def writeReservation (k : Nat) (r : Reservation) (s : State) : State :=
  let s := s.setQ R.SIG_LIMITL R.SIG_LIMITH k r.limit |>.setB Fl.SIG_KSTAT_CLOSED k r.closed
  if k = 0 then { s with sig.record0 := some r } else { s with sig.record1 := some r }

/-- State of a key: 0 none, 1 building, 2 ready, 3 exhausted, 4 lost. -/
def State.keyState (s : State) (k : Nat) : Nat := s.f Fl.SIG_KSTAT_STATE k

/-- Sets the state of a key, and its ready bit. -/
def setKeyState (k st : Nat) (s : State) : State :=
  (s.setF Fl.SIG_KSTAT_STATE k st).setB (if k = 0 then Fl.SIG_STAT_KRDY0 else Fl.SIG_STAT_KRDY1) 0 (st == 2)

/-- NEXT of a key. -/
def State.keyNext (s : State) (k : Nat) : Nat := s.q R.SIG_NEXTL R.SIG_NEXTH k

/-- Indices of a key (R388). -/
def keyIndices (k : Nat) : Nat := if k = 0 then 2 ^ 40 else 2 ^ 20

/-- Public key of a key in force, 68 bytes. -/
def State.keyPublic (s : State) (k : Nat) : List Byte :=
  (List.range 17).flatMap fun i => leBytes 4 (s.reg R.SIG_PUB (17 * k + i)).toNat

/-- At boot the newest valid record decides where a key resumes (R395). -/
def keyBoot (k : Nat) (s : State) : State :=
  if s.f Fl.SIG_KSTAT_GEN k = 0 then setKeyState k 0 s else
  match s.reservation k with
  | none => sigCause 6 (setKeyState k 4 s)
  | some r =>
    let s := if r.closed then s.setQ R.SIG_NEXTL R.SIG_NEXTH k r.used
      else (s.setQ R.SIG_NEXTL R.SIG_NEXTH k r.limit).satF Fl.SIG_DISCARD_BLOCKS k 1
    if keyIndices k ≤ s.keyNext k then sigCause 6 (setKeyState k 3 s) else setKeyState k 1 s

/-- What signing takes up at boot: keys resume, and the root chain continues from LASTROOT (R395, R400). -/
def signBoot (s : State) : State :=
  let s := keyBoot 1 (keyBoot 0 s)
  { s with sig.rootTo := s.f Fl.SIG_LASTROOT_ISEQ, sig.prev := s.sig.prevKept, sig.stopped := false
           sig.queue := [], sig.current := none }

/-- A key's working state has been rebuilt (R413). -/
def keyRebuilt (k : Nat) (s : State) : State :=
  if k < 2 && s.keyState k == 1 then sigCause 4 (setKeyState k 2 s) else s

/-- The closing record of each key: CLOSED = 1, USED = NEXT; an unfinished signature is dropped (R394). -/
def closingRecords (s : State) : State :=
  let s := { s with sig.current := none }
  if !s.nvOk then s else
  s.each 2 fun k s => match s.reservation k with
    | none => s
    | some r => writeReservation k { r with closed := true, used := s.keyNext k } s

/-! ### Envelopes (R398) -/

/-- The 64-byte header of an envelope. -/
def State.envelopeHeader (s : State) (x : Signing) (plen : Nat) : List Byte :=
  leBytes 4 0x4E475356 ++ leBytes 1 x.req.kind ++ leBytes 1 (x.req.key + 1) ++ leBytes 1 s.recordModule ++
  leBytes 1 x.gen ++ leBytes 8 Config.devSer ++ leBytes 8 x.index ++ leBytes 8 x.start ++ leBytes 4 plen ++
  List.replicate 28 0

/-- Signature bytes of a key (R388). -/
def signatureBytes (k : Nat) : Nat := if k = 0 then 9893 else 4963

/-- An envelope with its signature. -/
def State.envelope (s : State) (x : Signing) : List Byte :=
  let m := s.envelopeHeader x x.req.payload.length ++ x.req.payload
  m ++ fitTo (signatureBytes x.req.key) (Config.deviceSign x.req.key x.gen x.index m)

/-- An object joins the queue. -/
def queueSign (r : SignReq) (s : State) : State := { s with sig.queue := s.sig.queue ++ [r] }

/-! ### Roots (R399) -/

/-- One level of the Merkle tree: pairs are hashed, an odd node passes up. -/
def merkleLevel : List (List Byte) → List (List Byte)
  | a :: b :: rest => digest (1 :: (a ++ b)) :: merkleLevel rest
  | l => l

/-- The root of a list of nodes. -/
def merkleRoot : Nat → List (List Byte) → List Byte
  | _, [] => []
  | _, [a] => a
  | 0, a :: _ => a
  | fuel + 1, l => merkleRoot fuel (merkleLevel l)

/-- A record carries SEC; a record is of kind TAKEOVER. -/
def recordSec (r : List Byte) : Bool := (r.getD 4 0) == 1 && bitOf (leNat ((r.drop 0x3A).take 2)) 3
def recordTakeover (r : List Byte) : Bool := (r.getD 4 0) == 2 && (r.getD 0x38 0) == 3

/-- A profile boundary queues the root over every record staged since the last one; without a record none
is due. PREV is filled in at its start. -/
def rootRequest (iseq label b : Nat) (s : State) : State :=
  let first := s.sig.rootTo + 1
  let recs := (s.bil.staged.filter fun g => first ≤ g.iseq && g.iseq ≤ iseq).flatMap fun g => g.records.map (·.2)
  if recs.isEmpty then s else
  let root := merkleRoot 16 (recs.map fun r => digest (0 :: r))
  let flags := b2n (recs.any recordSec) + 2 * b2n (recs.any recordTakeover)
  let p := leBytes 4 first ++ leBytes 4 iseq ++ leBytes 4 label ++ leBytes 2 recs.length ++
    leBytes 1 s.recordModule ++ leBytes 1 flags ++ leBytes 8 b ++ root ++ List.replicate 40 0
  queueSign { kind := 1, key := 0, payload := p } { s with sig.rootTo := iseq }

/-! ### Receipts (R403) -/

/-- A session has ended: its receipt is queued where RECEN enables it. -/
def receiptRequest (x : SessionStart) (b label : Nat) (s : State) : State :=
  let p := x.port
  if !bitOf (s.f Fl.SIG_RECEN_PORT) p then s else
  let ref := fitTo 32 (cellsGet [] s.sig.refs p)
  let sd := s.q R.MTR_SECDELL R.MTR_SECDELH p - x.sec.1
  let sr := s.q R.MTR_SECRECL R.MTR_SECRECH p - x.sec.2
  let body := leBytes 1 p ++ leBytes 1 s.recordModule ++ leBytes 2 x.flags ++ leBytes 4 0 ++ ref ++
    leBytes 8 x.t ++ leBytes 8 b ++ leBytes 4 x.label ++ leBytes 4 label ++
    leBytes 8 x.del ++ leBytes 8 (s.q R.MTR_EDELL R.MTR_EDELH p) ++
    leBytes 8 x.rcv ++ leBytes 8 (s.q R.MTR_ERECL R.MTR_ERECH p) ++
    leBytes 4 sd ++ leBytes 4 sr ++ leBytes 4 x.iseq ++ leBytes 4 (s.f Fl.BIL_ISEQ_ISEQ) ++ List.replicate 16 0
  queueSign { kind := 2, key := 0, payload := body } s

/-! ### Statements and generations (R404, R405) -/

/-- The next generation of a key that is ready to take over. -/
def State.nextGen (s : State) (k : Nat) : Option Nat := if k = 0 then s.sig.nextGen0 else s.sig.nextGen1

/-- A ready generation takes over at a profile boundary: the key statement, the reservation record, the new key
in force. It waits while a write gate is closed. -/
def keyTakeover (k : Nat) (s : State) : State :=
  match s.nextGen k with
  | none => s
  | some g =>
    if !s.nvOk then s else
    let pub := fitTo 68 (Config.devicePublic k g)
    let st := leBytes 1 (k + 1) ++ leBytes 1 g ++ List.replicate 6 0 ++ leBytes 8 s.now ++ pub ++
      leBytes 4 (s.f Fl.SIG_LASTROOT_ISEQ) ++ List.replicate 8 0
    let s := queueSign { kind := 5, key := 1, payload := st } s
    let s := s.setF Fl.SIG_KSTAT_GEN k g |>.setQ R.SIG_NEXTL R.SIG_NEXTH k 0
    let s := writeReservation k { gen := g, limit := 0, closed := false, used := 0 } s
    let s := s.each 17 fun i s =>
      s.setReg R.SIG_PUB (17 * k + i) (BitVec.ofNat 32 (leNat ((pub.drop (4 * i)).take 4)))
    let s := if k = 0 then { s with sig.nextGen0 := none } else { s with sig.nextGen1 := none }
    (sigCause 4 (setKeyState k 2 s)).when (k = 0) (tamper 1)

/-- The generation a KEYGEN starts: above every one ever started (R391). -/
def State.newGen (s : State) (k : Nat) : Nat :=
  max (s.f Fl.SIG_KSTAT_GEN k) (if k = 0 then s.sig.genUsed0 else s.sig.genUsed1) + 1

/-- A generation number is used up (R391, R592). -/
def spendGen (k g : Nat) (s : State) : State :=
  if k = 0 then { s with sig.genUsed0 := g } else { s with sig.genUsed1 := g }

/-- KEYGEN: the next generation of a key, where its condition holds (R404). -/
def keygen (k : Nat) (s : State) : Nat × State :=
  let ok := if k = 0 then s.b Fl.MTR_STAT_CALEN else s.f Fl.SYS_BOOTSTAT_SOURCE == 3
  let g := s.newGen k
  if !ok || 255 < g then (6, s)
  else (0, spendGen k g (if k = 0 then { s with sig.nextGen0 := some g } else { s with sig.nextGen1 := some g }))

/-! ### Attestation (R407) -/

/-- The 16 tamper class records, 512 bytes, as BIL 0x200 to 0x3FF reads. -/
def State.tamperBytes (s : State) : List Byte :=
  (List.range 16).flatMap fun t =>
    leBytes 4 (s.f Fl.BIL_TCOUNT_COUNT t) ++ leBytes 8 (s.q R.BIL_TFIRSTL R.BIL_TFIRSTH t) ++
    leBytes 8 (s.q R.BIL_TLASTL R.BIL_TLASTH t) ++ List.replicate 12 0

/-- The payload of an attestation report. -/
def State.report (s : State) (nonce : List Byte) : List Byte :=
  fitTo 32 nonce ++ leBytes 4 (s.reg R.SYS_ID).toNat ++ leBytes 4 s.images.secVer ++ leBytes 4 s.sys.minSecVer ++
  leBytes 4 (s.reg R.SYS_BOOTSTAT).toNat ++ fitTo 32 s.images.sealHash ++
  leBytes 4 (s.f Fl.MTR_CALCNT_COUNT) ++ leBytes 4 (s.f Fl.BIL_ISEQ_ISEQ) ++ digest (s.keyPublic 0) ++
  digest s.tamperBytes ++ List.replicate 8 0

/-- ATTEST draws a token and queues its report; without a token it ends with status 5 and cause ATTREF. -/
def attest (nonce : List Byte) (job slot : Option Nat) (s : State) : Option Nat × State :=
  let n := s.f Fl.SIG_STAT_ATTTOK
  if n = 0 then (some 5, sigCause 7 s)
  else (none, queueSign { kind := 4, key := 1, payload := s.report nonce, job := job, slot := slot }
    (s.setF Fl.SIG_STAT_ATTTOK 0 (n - 1)))

/-! ### Signing (R393, R396, R412) -/

/-- Order of device signing: interruption records, roots, receipts, then statements and attestation. -/
def signRank (k : Nat) : Nat := match k with | 3 => 0 | 1 => 1 | 2 => 2 | _ => 3

/-- The request served next: the oldest of the first rank whose key is ready. -/
def State.nextSign (s : State) : Option SignReq :=
  (sortBy (fun a b : SignReq => decide (signRank a.kind ≤ signRank b.kind)) s.sig.queue).find? fun r =>
    s.keyState r.key == 2

/-- Whether a signature needs a reservation write first: a new block, or the reopening of a closed record. -/
def State.needsWrite (s : State) (k : Nat) : Bool :=
  match s.reservation k with
  | none => true
  | some r => r.closed || s.keyNext k == r.limit

/-- The reservation write before a signature (R393, R395). -/
def reserve (k : Nat) (s : State) : State :=
  match s.reservation k with
  | none => s
  | some r =>
    let lim := if s.keyNext k = r.limit then r.limit + 64 else r.limit
    writeReservation k { r with limit := lim, closed := false } s

/-- The payload as it is signed: a root takes PREV. -/
def State.signedPayload (s : State) (r : SignReq) : List Byte :=
  if r.kind = 1 then r.payload.take 0x38 ++ fitTo 32 s.sig.prev ++ List.replicate 8 0 else r.payload

/-- Starts the next signature: the index is taken as it starts; a new block is reserved first, or the request
waits with cause RESV while a gate is closed. -/
def signStart (s : State) : State :=
  if s.sig.stopped || s.sig.current.isSome then s else
  match s.nextSign with
  | none => s
  | some r =>
    let k := r.key
    if s.needsWrite k && !s.nvOk then sigCause 3 s else
    let s := s.when (s.needsWrite k) (reserve k)
    let i := s.keyNext k
    let x : Signing :=
      { req := { r with payload := s.signedPayload r }, index := i, gen := s.f Fl.SIG_KSTAT_GEN k, start := s.now }
    let s := { s with sig.queue := s.sig.queue.erase r, sig.current := some x }
    let s := s.setQ R.SIG_NEXTL R.SIG_NEXTH k (i + 1)
    let s := s.when (k = 1 && keyIndices 1 - (i + 1) < 65536) (sigCause 5)
    if keyIndices k ≤ i + 1 then sigCause 6 (setKeyState k 3 s) else s

/-- A finished receipt goes to the archive and, where RXBASE is set, to the next slot of the ring. -/
def releaseReceipt (env : List Byte) (s : State) : State :=
  let s := { s with sig.envelopes := s.sig.envelopes ++ [env] }
  let base := s.f Fl.SIG_RXBASE_BASE * 4096
  let n := s.f Fl.SIG_RXNEXT_SLOT
  let s := if base = 0 then s else (s.dma (base + 12288 * n) env).setF Fl.SIG_RXNEXT_SLOT 0 (n + 1)
  sigCause 1 s

/-- A signature finishes and its envelope is released. -/
def signComplete (s : State) : State :=
  match s.sig.current with
  | none => s
  | some x =>
    let env := s.envelope x
    let s := { s with sig.current := none }
    match x.req.kind with
    | 1 => { s with sig.roots := s.sig.roots ++ [(leNat ((x.req.payload.drop 4).take 4), env)], sig.prev := digest env }
    | 2 => releaseReceipt env s
    | 4 =>
      match x.req.job, x.req.slot with
      | some d, _ => { s.dma (s.word (d + 0x0C)).toNat env with sig.result := some 0 }
      | none, some h => { s with sig.hostDone := cellsInsert s.sig.hostDone h env }
      | none, none => s
    | _ => { s with sig.envelopes := s.sig.envelopes ++ [env] }

/-! ### Jobs (R409 to R411) -/

/-- Shows the number of queued descriptors and whether the engine works on one. -/
def showJobs (s : State) : State :=
  s.setF Fl.SIG_JOBSTAT_COUNT 0 s.sig.jobs.length |>.setB Fl.SIG_JOBSTAT_BUSY 0 (!s.sig.jobs.isEmpty)

/-- A write of JOBQ queues a descriptor; a full queue discards it with QFULL. -/
def jobSubmit (addr : Nat) (s : State) : State :=
  if 16 ≤ s.sig.jobs.length then s.setB Fl.SIG_STAT_QFULL 0 true
  else showJobs { s with sig.jobs := s.sig.jobs ++ [addr / 32 * 32] }

/-- A job descriptor as it stands in SRAM. -/
structure Job where
  at_ : Nat
  op : Nat
  alg : Nat
  slot : Nat
  src : Nat
  srcLen : Nat
  dst : Nat
  dstLen : Nat
  aux : Nat
  auxLen : Nat
  deriving DecidableEq, Repr

/-- Reads the descriptor at an address. -/
def State.jobAt (s : State) (a : Nat) : Job :=
  let w (o : Nat) : Nat := (s.word (a + o)).toNat
  { at_ := a, op := w 0 % 256, alg := w 0 / 256 % 256, slot := w 0 / 65536 % 256, src := w 4, srcLen := w 8
    dst := w 12, dstLen := w 16, aux := w 20, auxLen := w 24 }

/-- Carries out the job at the head of the queue where its OP is the one named and it has not run yet. The
result is a status and the new state; no status while the job goes on. Buffers outside SRAM end it with
status 2. -/
def runJob (op : Nat) (f : Job → State → Option Nat × State) (s : State) : State :=
  match s.sig.jobs with
  | [] => s
  | a :: _ =>
    let j := s.jobAt a
    if j.op != op || s.sig.result.isSome then s
    else if !((j.srcLen = 0 || inSram j.src j.srcLen) && (j.dstLen = 0 || inSram j.dst j.dstLen) &&
        (j.auxLen = 0 || inSram j.aux j.auxLen)) then { s with sig.result := some 2 }
    else
      let r := f j s
      { r.2 with sig.result := r.1 }

/-- The engine writes STATUS with DONE and takes the next descriptor; a descriptor of no operation ends with
status 1. -/
def jobDone (s : State) : State :=
  match s.sig.jobs with
  | [] => s
  | a :: rest =>
    let op := (s.jobAt a).op
    let r := match s.sig.result with
      | some r => some r
      | none => if op = 0 || 16 < op then some 1 else none
    match r with
    | none => s
    | some r =>
      let s := s.dmaWord (a + 0x1C) (BitVec.ofNat 32 (2 ^ 31 + r))
      sigCause 2 (showJobs { s with sig.jobs := rest, sig.result := none })

/-- Output bytes of a hash; the destination's for SHAKE. -/
def hashBytes (alg dst : Nat) : Option Nat :=
  match alg with
  | 1 => some 32 | 2 => some 48 | 3 => some 64 | 4 => some 32 | 5 => some 64 | 6 => some dst | 7 => some dst
  | _ => none

/-- Writes a result to the destination where it fits. -/
def jobOutput (j : Job) (n : Nat) (l : List Byte) (s : State) : Option Nat × State :=
  if j.dstLen < n then (some 2, s) else (some 0, s.dma j.dst (fitTo n l))

def jobHash (j : Job) (s : State) : Option Nat × State :=
  match hashBytes j.alg j.dstLen with
  | none => (some 1, s)
  | some n => jobOutput j n (Config.hash j.alg (s.bytes j.src j.srcLen) n) s

/-- Output bytes of HMAC and HKDF-Extract. -/
def macBytes (alg : Nat) : Option Nat := match alg with | 1 => some 32 | 2 => some 48 | _ => none

def jobHmac (j : Job) (s : State) : Option Nat × State :=
  match macBytes j.alg with
  | none => (some 1, s)
  | some n => jobOutput j n (Config.hmac j.alg (s.bytes j.aux j.auxLen) (s.bytes j.src j.srcLen)) s

def jobHkdfExtract (j : Job) (s : State) : Option Nat × State :=
  match macBytes j.alg with
  | none => (some 1, s)
  | some n => jobOutput j n (Config.hkdfExtract j.alg (s.bytes j.aux j.auxLen) (s.bytes j.src j.srcLen)) s

def jobHkdfExpand (j : Job) (s : State) : Option Nat × State :=
  match macBytes j.alg with
  | none => (some 1, s)
  | some n =>
    if 255 * n < j.dstLen then (some 2, s)
    else jobOutput j j.dstLen (Config.hkdfExpand j.alg (s.bytes j.src j.srcLen) (s.bytes j.aux j.auxLen) j.dstLen) s

def jobAesGcm (enc : Bool) (j : Job) (s : State) : Option Nat × State :=
  if (j.auxLen != 16 && j.auxLen != 32) || j.srcLen < 12 then (some 2, s) else
  match Config.aesGcm enc (s.bytes j.aux j.auxLen) (s.bytes j.src j.srcLen) with
  | none => (some 4, s)
  | some l => jobOutput j j.dstLen l s

def jobEcdheKeygen (j : Job) (s : State) : Option Nat × State :=
  if !(j.alg == 1 || j.alg == 2) || 16 ≤ j.slot then (some 1, s) else
  let d := s.draw
  jobOutput j j.dstLen (Config.ecdhPublic j.alg d.1)
    { d.2 with sig.ephemeral := cellsInsert d.2.sig.ephemeral j.slot (j.alg, d.1) }

def jobEcdheDerive (j : Job) (s : State) : Option Nat × State :=
  match cellsFind s.sig.ephemeral j.slot with
  | none => (some 3, s)
  | some e => jobOutput j j.dstLen (Config.ecdhDerive e.1 e.2 (s.bytes j.src j.srcLen))
      { s with sig.ephemeral := cellsErase s.sig.ephemeral j.slot }

/-- Type of a TLS slot; 0 empty. -/
def State.tlsType (s : State) (t : Nat) : Nat := if t < 8 then s.f Fl.SIG_TLSSLOT_TYPE t else 0

def jobSign (j : Job) (s : State) : Option Nat × State :=
  if s.tlsType j.slot = 0 then (some 3, s) else
  let d := s.draw
  jobOutput j j.dstLen (Config.tlsSign (s.tlsType j.slot) (cellsGet 0 s.sig.tlsKeys j.slot) d.1
    (s.bytes j.src j.srcLen)) d.2

def jobVerify (j : Job) (s : State) : Option Nat × State :=
  if j.alg = 0 || 5 < j.alg then (some 1, s)
  else (some (if Config.verify j.alg (s.bytes j.aux j.auxLen) (s.bytes j.src j.srcLen) then 0 else 4), s)

def jobTlsKeygen (j : Job) (s : State) : Option Nat × State :=
  if 8 ≤ j.slot || j.alg = 0 || 3 < j.alg then (some 1, s)
  else if !s.nvOk then (some 7, s) else
  let d := s.draw
  jobOutput j j.dstLen (Config.tlsPublic j.alg d.1)
    { d.2.setF Fl.SIG_TLSSLOT_TYPE j.slot j.alg with sig.tlsKeys := cellsInsert d.2.sig.tlsKeys j.slot d.1 }

def jobTlsErase (j : Job) (s : State) : Option Nat × State :=
  if 8 ≤ j.slot then (some 1, s)
  else if !s.nvOk then (some 7, s)
  else (some 0, { s.setF Fl.SIG_TLSSLOT_TYPE j.slot 0 with sig.tlsKeys := cellsErase s.sig.tlsKeys j.slot })

def jobPublicKey (j : Job) (s : State) : Option Nat × State :=
  if j.alg = 1 || j.alg = 2 then
    (if s.f Fl.SIG_KSTAT_GEN (j.alg - 1) = 0 then (some 3, s) else jobOutput j 68 (s.keyPublic (j.alg - 1)) s)
  else if s.tlsType j.slot = 0 then (some 3, s)
  else jobOutput j j.dstLen (Config.tlsPublic (s.tlsType j.slot) (cellsGet 0 s.sig.tlsKeys j.slot)) s

def jobAttest (j : Job) (s : State) : Option Nat × State :=
  if j.srcLen != 32 || j.dstLen < 5187 then (some 2, s)
  else attest (s.bytes j.src 32) (some j.at_) none s

def jobKeygen (j : Job) (s : State) : Option Nat × State :=
  if j.alg != 1 && j.alg != 2 then (some 1, s)
  else let r := keygen (j.alg - 1) s; (some r.1, r.2)

def jobRandom (j : Job) (s : State) : Option Nat × State :=
  let d := s.draw
  jobOutput j j.dstLen (Config.randomBytes d.1 j.dstLen) d.2

/-- One engine step: the next class with work in round-robin order (R412). -/
def engineStep (s : State) : State :=
  let work (c : Nat) : Bool := match c with
    | 0 => s.sig.current.isSome || !s.sig.queue.isEmpty || s.keyState 0 == 1 || s.keyState 1 == 1
    | 1 => !s.sig.jobs.isEmpty
    | _ => (s.images.tickets.toList.any fun t => match t with | some x => x.status == 0 | none => false) ||
        s.host.slots.toList.any fun o => match o with | some x => x.op == 0x81 && !x.ended | none => false
  match ((List.range 3).map fun i => (s.sig.turn + 1 + i) % 3).find? work with
  | none => s
  | some c => { s with sig.turn := c }

end Sys2Proof.Machine
end

