-- ==== Sys2Proof/Machine/Billing.lean ====
section
/-! DEFINITION. The boundary engine: boundaries, the four steps, records, clock steps, restart, session energy
and legal displays (R350 to R387). -/

namespace Sys2Proof.Machine

/-- A cause of the BIL block: bit `j` raises event 80 + j (R387). -/
def bilCause (j : Nat) (s : State) : State := s.causeOn Fl.BIL_STAT_CAUSE Fl.BIL_CTL_EVEN 0 j (80 + j)

/-- Changes what the engine carries. -/
def State.work (s : State) (f : BilWork → BilWork) : State := { s with bil.work := f s.bil.work }

/-- Minutes of a DEMLEN code (R387). -/
def demMinutes (code : Nat) : Nat := [5, 10, 15, 30, 60].getD code 60

/-- The billing offset in force, ns (R351). -/
def State.bilK (s : State) : Int := s.qi R.BIL_KOFFL R.BIL_KOFFH

/-! ### Boundary instants (R352, R353) -/

/-- The first whole multiple of a length after a calendar instant. -/
def nextMultiple (len : Nat) (c : Int) : Int := (Int.fdiv c len + 1) * (len : Int)

/-- The next calendar boundary after an instant. -/
def State.nextQ (s : State) (c : Int) : Int :=
  min (nextMultiple profileNs c) (nextMultiple (demMinutes s.bil.work.demlen * minuteNs) c)

/-- The device-time instant of a calendar boundary: the first fold instant at or after Q − K. -/
def State.boundaryOf (s : State) (q : Int) : Nat := (-(Int.fdiv (-(q - s.bilK)) 1000000) * 1000000).toNat

/-- Sets the next boundary and the latch list. A boundary already processed does not come again. -/
def schedule (s : State) : State :=
  if !s.b Fl.BIL_CTL_EN then s else
  let c := (s.now : Int) + s.bilK
  let c := match s.bil.work.lastQ with | none => c | some q => max c q
  let q := s.nextQ c
  let b := s.boundaryOf q
  let s := (s.setQ R.BIL_NEXTL R.BIL_NEXTH 0 b).work fun w => { w with nextQ := q }
  { s with mtr.latchList := [b, s.boundaryOf (s.nextQ q)] }

/-- Totals of all 25 meters at an instant, mWh. -/
def State.allTotals (s : State) (b : Nat) : List (Nat × Nat) :=
  (List.range 25).map fun m => let t := s.meterTotals m b; (t.1 / 65536 % 2 ^ 64, t.2 / 65536 % 2 ^ 64)

/-- Secondary totals of all records, mWh. -/
def State.allSecondary (s : State) : List (Nat × Nat) :=
  (List.range 48).map fun h => (s.q R.MTR_SECDELL R.MTR_SECDELH h, s.q R.MTR_SECRECL R.MTR_SECRECH h)

/-- A boundary at device instant `b` and calendar instant `q`, with what it closes. -/
def State.slotAt (s : State) (b : Nat) (q : Int) (p d : Bool) (xf : Nat) : BilSlot :=
  let t := s.allTotals b
  { b := b, q := q, p := p, d := d, opens := b, tot := t, toto := t, sec := s.allSecondary, xf := xf, span := none }

/-- A boundary has passed: it waits for its processing, and the fold's commit writes it into the MRAM slot
(R365). -/
def pushSlot (x : BilSlot) (s : State) : State :=
  let s := { s with bil.slots := s.bil.slots ++ [x] }
  if s.nvOk then { s with bil.mramSlot := some x } else s

/-- Calendar boundary `q` ends a profile interval, a demand interval. -/
def State.kinds (s : State) (q : Int) : Bool × Bool :=
  (Int.fmod q profileNs == 0, Int.fmod q (demMinutes s.bil.work.demlen * minuteNs) == 0)

/-! ### Records (R374 to R378) -/

/-- A record: common header, body, padding to 60 bytes, CRC-32. -/
def recordBytes (iseq type meter module_ fold : Nat) (body : List Byte) : List Byte :=
  let l := leBytes 4 iseq ++ leBytes 1 type ++ leBytes 1 meter ++ leBytes 1 module_ ++ leBytes 1 fold ++ body
  let l := l ++ List.replicate (60 - l.length) 0
  l ++ leBytes 4 (crc32 l).toNat

/-- Body of a profile record (R375). -/
def profileBody (start close e0 e1 label dem sec0 sec1 tariff flags : Nat) : List Byte :=
  leBytes 8 start ++ leBytes 8 close ++ leBytes 8 e0 ++ leBytes 8 e1 ++ leBytes 4 label ++ leBytes 4 dem ++
  leBytes 4 sec0 ++ leBytes 4 sec1 ++ leBytes 1 tariff ++ [0] ++ leBytes 2 flags

/-- Body of an interruption record (R376). -/
def interruptBody (close restart e0 e1 i v calClose calRestart kind cause : Nat) : List Byte :=
  leBytes 8 close ++ leBytes 8 restart ++ leBytes 8 e0 ++ leBytes 8 e1 ++ leBytes 4 i ++ leBytes 4 v ++
  leBytes 4 calClose ++ leBytes 4 calRestart ++ leBytes 1 kind ++ leBytes 1 cause

/-- Body of a time-step record (R377). -/
def stepBody (start : Nat) (dk : Int) (oldLabel newLabel src : Nat) : List Byte :=
  leBytes 8 start ++ leBytes 8 (unsignedOf 64 dk) ++ leBytes 4 oldLabel ++ leBytes 4 newLabel ++ leBytes 1 src

/-- The calendar minute of an instant, 32 bits (R351). -/
def labelOf (q : Int) : Nat := unsignedOf 32 (Int.fdiv q minuteNs)

/-- The label of the interval of `len` minutes that contains an instant. -/
def intervalLabel (len : Nat) (q : Int) : Nat := unsignedOf 32 (Int.fdiv q (len * minuteNs) * (len : Int))

/-! ### Fold spans (R372) -/

/-- The live fold spans: number, first and last label. -/
def State.spans (s : State) : List (Nat × Nat × Nat) :=
  (List.range 64).filterMap fun j =>
    let a := s.f Fl.BIL_SPAN0_LFROM j
    if a = 0xFFFFFFFF then none else some (j, a, s.f Fl.BIL_SPAN1_LTO j)

/-- Spans whose last label lies over 400 days back expire. -/
def expireSpans (now : Nat) (s : State) : State :=
  s.eachOf s.spans fun e s =>
    if e.2.2 + 400 * 1440 < now then s.setF Fl.BIL_SPAN0_LFROM e.1 0xFFFFFFFF |>.setF Fl.BIL_SPAN1_LTO e.1 0 else s

/-- A span becomes live in the lowest unused entry. -/
def addSpan (x : Nat × Nat) (s : State) : State :=
  match (List.range 64).find? fun j => s.f Fl.BIL_SPAN0_LFROM j == 0xFFFFFFFF with
  | none => s
  | some j => s.setF Fl.BIL_SPAN0_LFROM j x.1 |>.setF Fl.BIL_SPAN1_LTO j x.2

/-- FOLD of an interval with a label. -/
def State.foldOf (s : State) (label : Nat) : Nat :=
  min 255 (s.spans.filter fun e => e.2.1 ≤ label && label ≤ e.2.2).length

/-! ### The four steps (R364) -/

/-- Flags a meter's interval opens with: conditions that hold already (R375). -/
def State.openFlags (s : State) (m : Nat) : Nat :=
  if m < 24 then (if s.b Fl.MTR_MSTAT_FAULT m then 12 else 0) else if s.gridPulse then 1024 else 512

/-- A maximum-demand reset is due at a boundary: local 00:00 of day RESETDAY, or one requested at a demand
boundary (R362). -/
def State.resetDue (s : State) (x : BilSlot) : Bool :=
  let l := s.localTime activeCal x.q
  let day := s.f Fl.BIL_CTL_RESETDAY
  (day != 0 && Int.fmod l dayNs == 0 && (civil (Int.fdiv l dayNs)).day == day) || (s.bil.work.rst && x.d)

/-- Demand of a meter over the closing demand interval, W (R361). -/
def State.demandOf (s : State) (x : BilSlot) (m : Nat) : Nat :=
  ((x.tot.getD m (0, 0)).1 - s.bil.work.dT.getD m 0) * 3600000000 /
    (demMinutes s.bil.work.demlen * 60000000000)

/-- Step 1: the demand interval closes; a due reset; the next demand interval opens. -/
def boundaryStep1 (x : BilSlot) (due : Bool) (s : State) : State :=
  let w := s.bil.work
  let s := s.addF Fl.BIL_ISEQ_ISEQ 0 1
  let s := if !(x.d && w.dS.isSome) then s else
    let s := s.each 25 fun m s =>
      let d := s.demandOf x m
      let k := 8 * m + w.dTar
      let s := s.setF Fl.BIL_DLAST_D m d
      if s.f Fl.BIL_DMAX0_D k < d then s.setF Fl.BIL_DMAX0_D k d |>.setF Fl.BIL_DMAX1_LABEL k w.dL else s
    s.work fun w => { w with pD := (List.range 25).map fun m => max (w.pD.getD m 0) (s.demandOf x m) }
  let s := if !due then s else
    (s.each 200 fun k s =>
      s.setReg R.BIL_DPREV0 k (s.reg R.BIL_DMAX0 k) |>.setReg R.BIL_DPREV1 k (s.reg R.BIL_DMAX1 k)
        |>.setReg R.BIL_DMAX0 k 0 |>.setReg R.BIL_DMAX1 k 0).work fun w =>
      { w with rst := false, pFl := if x.p || w.pS.isNone then w.pFl else w.pFl ||| 256 }
  if !(x.d || w.dS.isNone) then s else
  let s := if s.b Fl.BIL_STAT_DLENPEND && labelOf x.q % 60 = 0 then
      (s.setB Fl.BIL_STAT_DLENPEND 0 false).work fun w => { w with demlen := s.f Fl.BIL_CTL_DEMLEN }
    else s
  s.work fun w => { w with
    dS := some x.opens, dL := intervalLabel (demMinutes w.demlen) x.q, dT := x.toto.map (·.1) }

/-- The profile record of one meter for the closing interval. -/
def State.profileOf (s : State) (x : BilSlot) (start : Nat) (m : Nat) : List Byte :=
  let w := s.bil.work
  let t := x.tot.getD m (0, 0)
  let a := x.sec.getD m (0, 0)
  let a0 := w.pSec.getD m (0, 0)
  let sec := if m < 24 then (a.1 - a0.1, a.2 - a0.2) else (0, 0)
  let grid := cellsGet 0 s.bil.flags 24 &&& 3584
  let fl := w.pFl ||| x.xf ||| cellsGet 0 s.bil.flags m ||| grid ||| (if s.bil.archLoss && m == 0 then 4096 else 0)
  recordBytes (s.f Fl.BIL_ISEQ_ISEQ) 1 m s.recordModule (s.f Fl.BIL_STAT_FOLD)
    (profileBody start x.b t.1 t.2 w.pL (w.pD.getD m 0) sec.1 sec.2 (s.f Fl.BIL_STAT_TARIFF) fl)

/-- The module whose guest ports a boundary records: the one served, or the one returned since the boundary
before (R378, R477). -/
def State.guestModule (s : State) : Option Nat :=
  if s.rng.closing.isSome then s.rng.closing
  else if s.b Fl.LPE_TAKE_ACTIVE then some (s.f Fl.RNG_STAT_GUESTID) else none

/-- The profile record of a guest port of a module; SHORT where the takeover has ended within the interval
(R378, R477). -/
def State.guestProfile (s : State) (g : Nat) (x : BilSlot) (start : Nat) (h : Nat) : List Byte :=
  let w := s.bil.work
  let a := x.sec.getD (24 + h) (0, 0)
  let a0 := w.pSec.getD (24 + h) (0, 0)
  recordBytes (s.f Fl.BIL_ISEQ_ISEQ) 1 h g (s.f Fl.BIL_STAT_FOLD)
    (profileBody start x.b a.1 a.2 w.pL 0 (a.1 - a0.1) (a.2 - a0.2) (s.f Fl.BIL_STAT_TARIFF)
      (w.pFl ||| x.xf ||| 8 ||| b2n s.rng.closing.isSome))

/-- Step 2: the profile interval closes into the tariff registers and records; the next one opens. -/
def boundaryStep2 (x : BilSlot) (due : Bool) (s : State) : State × List (Nat × List Byte) :=
  let w := s.bil.work
  let s := s.when (x.p && w.pS.isSome) gridInterval
  let recs := match w.pS with
    | some start => if !x.p then [] else
        ((List.range 25).map fun m => (m, s.profileOf x start m)) ++
        (match s.guestModule with
          | none => []
          | some g =>
            ((List.range 24).filter fun h => s.b Fl.PRT_GCFG_EN (40 + h)).map fun h => (h, s.guestProfile g x start h))
    | none => []
  let s := if x.p then { s with rng.closing := none } else s
  let r := s.f Fl.BIL_STAT_TARIFF
  let s := if !(x.p && w.pS.isSome) then s else
    s.each 25 fun m s =>
      let t := x.tot.getD m (0, 0)
      let t0 := w.pT.getD m (0, 0)
      let k := 8 * m + r
      s.setQ R.BIL_TDELL R.BIL_TDELH k ((s.q R.BIL_TDELL R.BIL_TDELH k + (t.1 - t0.1)) % 2 ^ 64)
        |>.setQ R.BIL_TRECL R.BIL_TRECH k ((s.q R.BIL_TRECL R.BIL_TRECH k + (t.2 - t0.2)) % 2 ^ 64)
  let s := match x.span with | none => s | some p => addSpan p s
  let s := expireSpans (labelOf x.q) s
  if !(x.p || w.pS.isNone) then (s, recs) else
  let s := if w.based then s else
    (s.each 25 fun m s =>
      let t := x.toto.getD m (0, 0)
      s.setQ R.BIL_EBASE0L R.BIL_EBASE0H m t.1 |>.setQ R.BIL_EBASE1L R.BIL_EBASE1H m t.2).work
      fun w => { w with based := true }
  let label := intervalLabel 15 x.q
  let s := s.setF Fl.BIL_STAT_FOLD 0 (s.foldOf label)
  let s := { s with bil.flags := (List.range 25).foldl (fun l m => cellsPut (0 : Nat) l m (s.openFlags m)) []
                    bil.archLoss := s.bil.archLoss && recs.isEmpty }
  (s.work fun w => { w with
    pS := some x.opens, pL := label, pT := x.toto, pSec := x.sec, pD := List.replicate 25 0
    pFl := x.xf ||| (if due then 256 else 0) ||| (if x.p then 0 else 1) }, recs)

/-- The armed calendar is validated again, copied, and its tariff looked up; or it is refused (R359). -/
def activateCalendar (q : Int) (s : State) : State :=
  let s := s.setB Fl.BIL_STAT_ACTPEND 0 false
  let s := if s.calendarOk passiveCal then
      let s := copyCalendar s
      let s := match s.tariffAt activeCal q with | none => s | some t => s.setF Fl.BIL_STAT_TARIFF 0 t
      s.work fun w => { w with pFl := w.pFl ||| 64, ploc := some (s.localTime activeCal q) }
    else s.setB Fl.BIL_STAT_CALERR 0 true
  tamper 10 (bilCause 4 s)

/-- Step 3: the tariff changes where a switch point has been crossed; an armed calendar is activated. -/
def boundaryStep3 (x : BilSlot) (first firstD : Bool) (s : State) : State :=
  let s := if !(x.p || first) then s else
    let l := s.localTime activeCal x.q
    let t := match s.bil.work.ploc with
      | none => s.tariffAt activeCal x.q
      | some l0 => if l0 < l then s.crossed (s.seasonAt activeCal x.q) l0 l else none
    let s := match t with | none => s | some t => s.setF Fl.BIL_STAT_TARIFF 0 t
    let s := s.work fun w => { w with ploc := some l }
    if s.b Fl.BIL_STAT_ACTPEND && x.p && s.f Fl.BIL_ACTAT_LABEL ≤ s.bil.work.pL then activateCalendar x.q s else s
  if x.d || firstD then s.work fun w => { w with dTar := s.f Fl.BIL_STAT_TARIFF } else s

/-- Stages the records of one boundary as a group; a full staging area loses it (R379, R381). -/
def stageGroup (close : Nat) (recs : List (Nat × List Byte)) (s : State) : State :=
  if recs.isEmpty then s
  else if 192 ≤ s.bil.staged.length then
    tamper 13 (bilCause 6 { s.satF Fl.BIL_ARCH_LOST 0 1 with bil.archLoss := true })
  else
    let g : ArchiveGroup := { iseq := s.f Fl.BIL_ISEQ_ISEQ, close := close, records := recs, envelope := none }
    let l := s.bil.staged ++ [g]
    { s.setF Fl.BIL_ARCH_BACKLOG 0 l.length with bil.staged := l }

/-- The register words the journal holds: FOLD and TARIFF, ISEQ, the fold spans, the active calendar and the
meter records (R364). -/
def journalAddr (a : Nat) : Bool :=
  a == 0x40200004 || a == 0x40200008 || (0x40200400 ≤ a && a < 0x40200600) ||
  (0x40206000 ≤ a && a < 0x40207200) || (0x40208000 ≤ a && a < 0x4020B200)

/-- Commits the journal while the gates are open; the boundary slot closes with it (R364, R365). -/
def commitJournal (s : State) : State :=
  if s.nvOk then
    { s with bil.journal := s.bil.work, bil.mramSlot := none
             bil.journalRegs := s.regs.filter fun c => journalAddr (keyBase c.1) }
  else s

/-- Step 4: the records are staged, interruption records and the root are queued for signing, a ready key
generation takes over, an adjustment of K applies, the journal commits (R364, R399, R402, R404). -/
def boundaryStep4 (x : BilSlot) (label : Nat) (recs : List (Nat × List Byte)) (s : State) : State :=
  let w := s.bil.work
  let iseq := s.f Fl.BIL_ISEQ_ISEQ
  let extra := w.grp.map fun e => (e.2.1, recordBytes iseq e.1 e.2.1 e.2.2.1 0 e.2.2.2)
  let s := stageGroup x.b (recs ++ extra) s
  let s := s.eachOf (extra.filter fun e => e.2.getD 4 0 == 2) fun e s =>
    queueSign { kind := 3, key := 0, payload := e.2 } s
  let s := s.when x.p fun s => rootRequest iseq label x.b (keyTakeover 1 (keyTakeover 0 s))
  let s := s.work fun w => { w with grp := [], lastQ := some x.q }
  let s := match w.kadj with
    | some k => if x.p then
        (s.setQi R.BIL_KOFFL R.BIL_KOFFH 0 k).work fun w => { w with kadj := none }
      else s
    | none => s
  let s := commitJournal s
  s.when x.p (bilCause 0)

/-- All four steps of one boundary, in their fixed order (R364). -/
def processSlot (x : BilSlot) (s : State) : State :=
  let first := s.bil.work.pS.isNone
  let firstD := s.bil.work.dS.isNone
  let due := s.resetDue x
  let label := s.bil.work.pL
  let r := boundaryStep2 x due (boundaryStep1 x due s)
  schedule (boundaryStep4 x label r.2 (boundaryStep3 x first firstD r.1))

/-- Processes the oldest boundary that waits. -/
def boundaryProcess (s : State) : State :=
  match s.bil.slots with
  | [] => s
  | x :: rest => processSlot x { s with bil.slots := rest }

/-- Processes every boundary that waits (R367). -/
def boundaryAll (s : State) : State :=
  s.eachOf s.bil.slots fun x s => processSlot x { s with bil.slots := s.bil.slots.tail }

/-! ### Clock steps (R370 to R373) -/

/-- K changes: an adjustment waits for the next profile boundary; a larger change is a step, processed at the
first fold after it; a backward step with 64 spans live is refused and K keeps its value. -/
def kChange (new : Int) (src : Nat) (s : State) : State :=
  let old := s.koff
  let set (s : State) : State := { s with time.koff := new }
  if !s.b Fl.BIL_CTL_EN then (set s).setQi R.BIL_KOFFL R.BIL_KOFFH 0 new else
  let dk := new - s.bilK
  if decide (dk.natAbs ≤ min 60000 (s.f Fl.BIL_STEPTH_STEPTH) * 1000000) then
    (set s).work fun w => { w with kadj := some new }
  else if dk < 0 && 64 ≤ s.spans.length then tamper 0 (bilCause 7 s)
  else
    let body := stepBody s.now (new - old) (labelOf ((s.now : Int) + old)) (labelOf ((s.now : Int) + new)) src
    let s := ((set s).setQi R.BIL_KOFFL R.BIL_KOFFH 0 new).work fun w => { w with kadj := none, lastQ := none }
    { s with bil.step := some (body, decide (dk < 0)) }

/-- The boundary of a clock step, at the first fold after it (R371). -/
def stepBoundary (b : Nat) (s : State) : State :=
  match s.bil.step with
  | none => s
  | some (body, back) =>
    let s := { s with bil.step := none }
    let s := s.work fun w => { w with grp := w.grp ++ [(3, 0xFF, s.recordModule, body)] }
    let q := (b : Int) + s.bilK
    let x := s.slotAt b q true true 17
    let x := if back && s.bil.work.pS.isSome then { x with span := some (intervalLabel 15 q, s.bil.work.pL) } else x
    schedule (pushSlot x (tamper 0 (bilCause 1 s)))

/-- Device time has stepped: K moves against it, the calendar stays, boundary instants shift (R531). -/
def deviceStepped (delta : Int) (s : State) : State :=
  let s := { s with time.koff := s.time.koff - delta }
  let s := (s.setQi R.BIL_KOFFL R.BIL_KOFFH 0 (s.bilK - delta)).work fun w => { w with kadj := w.kadj.map (· - delta) }
  schedule { s with bil.journal.kadj := s.bil.journal.kadj.map (· - delta) }

/-! ### At each fold (R363, R365) -/

/-- What a session's flags gain at a fold: SEC, FAULT, a negative target (R403). -/
def State.sessionFlags (s : State) (p : Nat) : Nat :=
  b2n (s.b Fl.MTR_MSTAT_SEC p) + 4 * b2n (s.b Fl.MTR_MSTAT_FAULT p) +
  16 * b2n (s.b Fl.VEH_SSTAT_BPTACT p && decide ((s.reg R.ALC_PREQ p).toInt < 0))

/-- Session energy at a fold: a session that has entered CHARGE takes its snapshot, an open one shows its
energy; at its end it keeps it and its receipt is queued (R363, R403). -/
def sessionEnergy (b : Nat) (s : State) : State :=
  s.each 24 fun p s =>
    let e := s.q R.MTR_EDELL R.MTR_EDELH p
    let label := labelOf ((b : Int) + s.bilK)
    match s.bil.sessions.find? fun x => x.port == p with
    | none =>
      if !(s.ses p).charged then s else
      let x : SessionStart :=
        { port := p, t := b, label := label, del := e, rcv := s.q R.MTR_ERECL R.MTR_ERECH p
          sec := (s.q R.MTR_SECDELL R.MTR_SECDELH p, s.q R.MTR_SECRECL R.MTR_SECRECH p)
          iseq := s.f Fl.BIL_ISEQ_ISEQ, flags := s.sessionFlags p }
      { (s.setQ R.BIL_SSTARTL R.BIL_SSTARTH p e).setQ R.BIL_SENERGYL R.BIL_SENERGYH p 0
        with bil.sessions := x :: s.bil.sessions }
    | some x =>
      let s := s.setQ R.BIL_SENERGYL R.BIL_SENERGYH p (e - x.del)
      if (s.ses p).charged then
        let f := x.flags ||| s.sessionFlags p
        { s with bil.sessions := s.bil.sessions.map fun y => if y.port == p then { y with flags := f } else y }
      else
        receiptRequest x b label { s with bil.sessions := s.bil.sessions.filter fun y => y.port != p }

/-- What billing does at a fold instant: a step's boundary, else a calendar boundary that has come. -/
def billingFold (b : Nat) (s : State) : State :=
  let s := sessionEnergy b s
  if !s.b Fl.BIL_CTL_EN then s
  else if s.bil.step.isSome then stepBoundary b s
  else if s.q R.BIL_NEXTL R.BIL_NEXTH ≤ b then
    let q := s.bil.work.nextQ
    let at_ := s.q R.BIL_NEXTL R.BIL_NEXTH
    let k := s.kinds q
    let s := pushSlot (s.slotAt at_ q k.1 k.2 0) s
    schedule (s.work fun w => { w with lastQ := some q })
  else s

/-! ### Restart (R353, R368, R369, R376) -/

/-- The engine returns to the last committed journal. -/
def billingReset (s : State) : State :=
  let kept := s.regs.filter fun c => !journalAddr (keyBase c.1)
  let back := s.bil.journalRegs.filter fun c => journalAddr (keyBase c.1)
  { s with regs := back.foldl (fun l c => cellsInsert l c.1 c.2) kept
           bil.work := s.bil.journal, bil.slots := [], bil.step := none }

/-- Replays an open boundary slot (R368). -/
def boundaryReplay (s : State) : State :=
  match s.bil.mramSlot with
  | none => s
  | some x => tamper 12 (bilCause 3 (processSlot x s))

/-- Processes the boundaries that a warm reset let pass, in order (R353). -/
def latchedBoundaries (s : State) : State :=
  s.each 2 fun _ s =>
    if s.q R.BIL_NEXTL R.BIL_NEXTH ≤ s.now then
      let q := s.bil.work.nextQ
      let k := s.kinds q
      processSlot (s.slotAt (s.q R.BIL_NEXTL R.BIL_NEXTH) q k.1 k.2 0) s
    else s

/-- The interruption record of a meter (R376). -/
def State.interruption (s : State) (m restart cause : Nat) (gap : Bool) : Nat × Nat × Nat × List Byte :=
  let c := s.mtr.committed
  let close := c.instant
  let t := if m < 24 then (((c.meters.getD m {}).del), (c.meters.getD m {}).rcv) else (c.grid.1, c.grid.2.2.1)
  (2, m, s.recordModule, interruptBody close restart t.1 t.2
    (if m < 24 then (s.reg R.MTR_CLOSEI m).toNat else 0) (if m < 24 then (s.reg R.MTR_CLOSEV m).toNat else 0)
    (labelOf ((close : Int) + s.bilK)) (labelOf ((restart : Int) + s.bilK)) (if gap then 2 else 1) cause)

/-- After a restart the interval open at the last committed fold continues, closes at the closing fold, or is
settled as a backward step (R369). -/
def restartSettle (warm : Bool) (cause : Nat) (s : State) : State :=
  let gap := s.b Fl.MTR_MSTAT_GAP 0
  let s := tamper (if gap then 2 else 3) s
  if !s.b Fl.BIL_CTL_EN then s else
  let s := schedule (boundaryReplay s)
  let s := s.when warm latchedBoundaries
  let restart := (s.now + 999999) / 1000000 * 1000000
  let close := s.mtr.committed.instant
  let s := s.work fun w => { w with grp := w.grp ++ (List.range 25).map fun m => s.interruption m restart cause gap }
  let s := { s with bil.journal.grp := s.bil.work.grp }
  let qc := (close : Int) + s.bilK
  let qr := (restart : Int) + s.bilK
  if s.bil.work.pS.isNone then schedule s
  else if qr < qc then
    schedule { s with bil.step := some (stepBody restart (qr - qc) (labelOf qc) (labelOf qr) 4, true) }
  else if intervalLabel 15 qr == s.bil.work.pL then
    let s := s.work fun w => { w with pFl := w.pFl ||| 2 }
    schedule { s with bil.journal.pFl := s.bil.journal.pFl ||| 2 }
  else
    let c := s.mtr.committed
    let tot := ((List.range 24).map fun m => ((c.meters.getD m {}).del, (c.meters.getD m {}).rcv)) ++
      [(c.grid.1, c.grid.2.2.1)]
    let x := s.slotAt close qr true true 3
    schedule (pushSlot { x with opens := restart, tot := tot } s)

/-! ### Control (R359, R360, R362) -/

/-- Billing is enabled; EBASE is taken at the next boundary. -/
def billingEnable (s : State) : State :=
  if s.b Fl.BIL_CTL_EN then s else
  schedule ((s.setB Fl.BIL_CTL_EN 0 true).setQi R.BIL_KOFFL R.BIL_KOFFH 0 s.koff)

/-- ACTIVATE validates and arms the passive calendar. -/
def calendarActivate (s : State) : State :=
  if s.calendarOk passiveCal then s.setB Fl.BIL_STAT_ACTPEND 0 true
  else tamper 10 (bilCause 4 (s.setB Fl.BIL_STAT_CALERR 0 true))

/-- A write of DEMLEN. -/
def demlenWrite (code : Nat) (s : State) : State :=
  if 4 < code then bilCause 4 (s.setB Fl.BIL_STAT_CALERR 0 true)
  else (s.setF Fl.BIL_CTL_DEMLEN 0 code).setB Fl.BIL_STAT_DLENPEND 0 (code != s.bil.work.demlen)

/-! ### Legal displays (R384 to R386) -/

/-- Decimal digits of a number, most significant first, as ASCII. -/
def digits : Nat → Nat → List Byte
  | 0, _ => []
  | fuel + 1, n => if n < 10 then [BitVec.ofNat 8 (48 + n)] else digits fuel (n / 10) ++ [BitVec.ofNat 8 (48 + n % 10)]

/-- A number as ASCII digits. -/
def decimal (n : Nat) : List Byte := digits 20 n

/-- Thousandths as a number with three decimals. -/
def milli (n : Nat) : List Byte :=
  decimal (n / 1000) ++ [0x2E, BitVec.ofNat 8 (48 + n / 100 % 10), BitVec.ofNat 8 (48 + n / 10 % 10),
    BitVec.ofNat 8 (48 + n % 10)]

/-- The value an item shows, before it is placed at the right. -/
def State.itemText (s : State) (u code arg : Nat) : List Byte :=
  let m := s.f Fl.BIL_DCFG_METER u
  let r := arg % 8
  match code with
  | 1 => milli (if m < 24 then s.f Fl.MTR_XDEL_XDEL m else s.f Fl.MTR_XIMP_XIMP)
  | 2 => milli (if m < 24 then s.f Fl.MTR_XREC_XREC m else s.f Fl.MTR_XEXP_XEXP)
  | 3 => milli (s.q R.BIL_TDELL R.BIL_TDELH (8 * m + r) / 1000 % 10 ^ 9)
  | 4 => milli (s.q R.BIL_TRECL R.BIL_TRECH (8 * m + r) / 1000 % 10 ^ 9)
  | 5 => decimal (s.f Fl.BIL_STAT_TARIFF)
  | 6 => milli (s.q R.BIL_SENERGYL R.BIL_SENERGYH m / 1000)
  | 7 => milli (s.f Fl.BIL_DMAX0_D (8 * m + r))
  | 8 => Config.displayText 8 [unsignedOf 64 (s.localTime activeCal ((s.now : Int) + s.bilK))]
  | 9 => Config.displayText 9 [s.modid, m]
  | 10 => decimal (s.f Fl.MTR_CALCNT_COUNT)
  | 11 => decimal s.images.secVer
  | 12 =>
    if m < 24 && s.b Fl.MTR_MSTAT_FAULT m then [0x46, 0x41, 0x55, 0x4C, 0x54]
    else if m < 24 && s.b Fl.MTR_MSTAT_SEC m then [0x53, 0x45, 0x43] else [0x4F, 0x4B]
  | 13 => (List.range 4).flatMap fun k => leBytes 4 (s.reg R.BIL_TEXT (4 * u + k)).toNat
  | c => Config.displayText c [arg]

/-- Sixteen characters, right-aligned. -/
def rightAlign (l : List Byte) : List Byte := List.replicate (16 - l.length) 0x20 ++ l.drop (l.length - 16)

/-- The frame of a display unit (R384). -/
def State.displayFrame (s : State) (u : Nat) : List Byte :=
  let w := s.reg R.BIL_ITEM (16 * u + s.f Fl.BIL_DSTAT_ITEM u)
  let code := bitsOf w 0 8
  let m := s.f Fl.BIL_DCFG_METER u
  let legal := 1 ≤ code && code ≤ 12
  let fault := m < 24 && (s.b Fl.MTR_MSTAT_FAULT m || s.b Fl.MTR_MSTAT_SEC m)
  let body := leBytes 1 u ++ leBytes 1 code ++ rightAlign (s.itemText u code (bitsOf w 8 8)) ++
    leBytes 1 (b2n legal + 2 * b2n fault)
  [0x02] ++ body ++ leBytes 2 (crc16 body) ++ [0x03]

/-- Display unit `u` beside its record. -/
def State.disp (s : State) (u : Nat) : DisplayUnit := s.bil.display.toList.getD u {}

/-- Changes display unit `u` beside its record. -/
def State.setDisp (s : State) (u : Nat) (f : DisplayUnit → DisplayUnit) : State :=
  { s with bil.display := s.bil.display.setIfInBounds u (f (s.disp u)) }

/-- The frames of 250 ms: each enabled unit is sent its item; after its dwell, four frames a second, the next
item follows. -/
def displayFrames (s : State) : State :=
  s.each 24 fun u s =>
    if !s.b Fl.BIL_DCFG_EN u then s else
    let i := s.f Fl.BIL_DSTAT_ITEM u
    let n := (s.disp u).shown
    let dwell := 4 * max 1 (bitsOf (s.reg R.BIL_ITEM (16 * u + i)) 16 8)
    let next := if i < s.f Fl.BIL_DCFG_NITEM u then i + 1 else 0
    let turn := decide (dwell ≤ n)
    let s := s.when turn (fun s => s.setF Fl.BIL_DSTAT_ITEM u next)
    let fr := s.displayFrame u
    s.setDisp u fun x => { x with shown := if turn then 1 else n + 1, frame := fr }

/-- A unit answers: three answers in a row mark a failed unit good. -/
def displayAnswer (u : Nat) (s : State) : State :=
  let n := (s.disp u).good + 1
  let s := s.setDisp u fun x => { x with missed := 0, good := n }
  if 3 ≤ n then s.setB Fl.BIL_DSTAT_FAIL u false else s

/-- A unit misses an answer: the third in a row marks it failed. -/
def displayMissed (u : Nat) (s : State) : State :=
  let n := (s.disp u).missed + 1
  let s := s.setDisp u fun x => { x with missed := n, good := 0 }
  if 3 ≤ n && !s.b Fl.BIL_DSTAT_FAIL u then bilCause 5 (s.setB Fl.BIL_DSTAT_FAIL u true) else s

end Sys2Proof.Machine
end

