-- ==== Sys2Proof/Machine/Stamps.lean ====
section
/-! DEFINITION. The timestamp FIFOs of device time (R534, R542). -/

namespace Sys2Proof.Machine

/-- The FIFO of timestamp port `q`. -/
def State.fifo (s : State) (q : Nat) : List Stamp := s.time.fifos.toList.getD q []

/-- Shows the head and the count of a timestamp FIFO in its registers (R542). -/
def stampShow (q : Nat) (s : State) : State :=
  let l := s.fifo q
  let s := s.setF Fl.TIM_FSTAT_COUNT q l.length
  match l with
  | [] => s.setQ R.TIM_TSL R.TIM_TSH q 0 |>.setReg R.TIM_INFO q 0
  | e :: _ =>
    (s.setQ R.TIM_TSL R.TIM_TSH q e.time).setReg R.TIM_INFO q 0
      |>.setF Fl.TIM_INFO_DOMAIN q e.domain |>.setB Fl.TIM_INFO_DIR q e.sent
      |>.setF Fl.TIM_INFO_MSGTYPE q e.msgType |>.setF Fl.TIM_INFO_SEQID q e.seq

/-- Replaces the FIFO of a timestamp port. -/
def setFifo (q : Nat) (l : List Stamp) (s : State) : State :=
  stampShow q { s with time.fifos := s.time.fifos.setIfInBounds q l }

/-- A cause of the TIM block (R542). -/
def timCause (j : Nat) (s : State) : State :=
  s.causeOn Fl.TIM_STAT_CAUSE Fl.TIM_CTL_EVEN 0 j
    (match j with | 0 => 116 | 7 => 116 | 1 => 117 | 5 => 119 | 6 => 119 | _ => 118)

/-- Captures device time for an event message: Sync, Delay_Req, Pdelay_Req or Pdelay_Resp, whose
message types are 0 to 3. A capture into a full FIFO is discarded and sets OVF (R534). -/
def stampCapture (q : Nat) (sent : Bool) (msgType seq domain : Nat) (s : State) : State :=
  if 4 ≤ msgType then s else
  let l := s.fifo q
  timCause 1 (if 16 ≤ l.length then s.setB Fl.TIM_FSTAT_OVF q true
    else setFifo q (l ++ [{ time := s.now, domain := domain, sent := sent, msgType := msgType, seq := seq }]) s)

/-- Reading INFO removes the head entry (R542). -/
def stampRead (q : Nat) (s : State) : State :=
  setFifo q (s.fifo q).tail { s with readData := s.reg R.TIM_INFO q }

end Sys2Proof.Machine
end

