-- ==== Sys2Proof/Machine/Timebase.lean ====
section
/-! DEFINITION. Device time, its increment and steps, the calendar clock, the RTC, and what happens at a fold
instant (R526 to R541). -/

namespace Sys2Proof.Machine

/-! ### Increment (R527) -/

/-- Least and largest increment: 5 ns ±1,000 ppm, in 2⁻³² ns. -/
def incMin : Nat := 21453361644
def incMax : Nat := 21496311316

/-- A write to INCH: the increment of INCL and INCH takes effect, at the nearest limit where outside. -/
def incrementWrite (ns : Nat) (s : State) : State :=
  let x := clampNat incMin incMax (s.f Fl.TIM_INCL_FRAC + ns % 16 * 2 ^ 32)
  { s.setF Fl.TIM_INCL_FRAC 0 x |>.setF Fl.TIM_INCH_NS 0 (x / 2 ^ 32) with time.inc := x }

/-! ### Steps (R531, R532) -/

/-- RUNLOCK (R532). -/
def State.runlock (s : State) : Bool :=
  ((List.range 8).any fun g => s.b Fl.LPE_GROUP_EN g) || s.b Fl.ALC_STAT_STATE || s.inView || s.b Fl.TIM_CTL_LOCK

/-- A step is refused: STEPERR and cause STEP. -/
def stepRefused (s : State) : State := timCause 4 (s.setB Fl.TIM_STAT_STEPERR 0 true)

/-- A write of TIM_STEP: it replaces the pending step, 0 withdraws it; under RUNLOCK it is refused. -/
def timeStepRequest (ms : Int) (s : State) : State :=
  if s.runlock then stepRefused s
  else if ms = 0 then { s.setB Fl.TIM_STAT_STEPPEND 0 false with time.stepPend := none }
  else { s.setB Fl.TIM_STAT_STEPPEND 0 true with time.stepPend := some ms }

/-- Adds to device time, modulo 2⁶⁴ ns. -/
def addTime (ns : Int) (s : State) : State :=
  { s with time.now := unsignedOf 96 ((s.time.now : Int) + ns * 2 ^ 32) }

/-- Device time steps: K moves against it, and queued boundary instants with it; the sample under way keeps its
counted duration. -/
def timeStep (ms : Int) (s : State) : State :=
  let d : Int := ms * 1000000
  let mv (x : Nat) : Nat := ((x : Int) + d).toNat
  let s := addTime d s
  let s := s.each 24 fun m s => s.setMt m fun x =>
    { x with lastEnd := x.lastEnd.map mv, last := x.last.map fun l => { l with s := mv l.s, e := mv l.e } }
  deviceStepped d { s with mtr.queue := s.mtr.queue.map fun e => (mv e.1, e.2) }

/-- The pending step at a fold instant: applied, or dropped under RUNLOCK. -/
def stepAtFold (s : State) : State :=
  match s.time.stepPend with
  | none => s
  | some ms =>
    let s := { s.setB Fl.TIM_STAT_STEPPEND 0 false with time.stepPend := none }
    if s.runlock then stepRefused s else timeStep ms s

/-! ### Calendar (R538 to R540) -/

/-- GO: the instant and its source become the pending set, in place of an earlier one. -/
def calendarSet (src : Nat) (s : State) : State :=
  let s := s.setF Fl.TIM_CALCTL_SRC 0 src
  { s.setB Fl.TIM_STAT_CALPEND 0 true with time.calPend := some (s.q R.TIM_CALSETL R.TIM_CALSETH, src % 8) }

/-- The pending set at a fold instant: K becomes its instant minus device time. -/
def calendarAtFold (s : State) : State :=
  match s.time.calPend with
  | none => s
  | some (utc, src) =>
    let s := { s.setB Fl.TIM_STAT_CALPEND 0 false with time.calPend := none }
    let s := s.setB Fl.TIM_STAT_CALVALID 0 true |>.when s.time.oscRunning (fun s => s.setB Fl.TIM_STAT_RTCVALID 0 true)
    timCause 3 (kChange (utc - (s.now : Int)) src s)

/-- The leap instant: K and TAIUTC change by one second, PEND clears. -/
def leapSecond (s : State) : State :=
  let p := s.f Fl.TIM_LEAP_PEND
  if !((p == 1 || p == 2) && decide ((s.f Fl.TIM_LEAPAT_S * 1000000000 : Nat) ≤ s.calendar)) then s else
  let d : Int := if p = 1 then -1000000000 else 1000000000
  let t := s.f Fl.TIM_LEAP_TAIUTC
  let s := s.setF Fl.TIM_LEAP_PEND 0 0 |>.setF Fl.TIM_LEAP_TAIUTC 0 (if p = 1 then t + 1 else t + 255)
  kChange (s.koff + d) (if s.b Fl.TIM_CTL_SYNC then 3 else 1) s

/-- The present whole calendar second is loaded into the RTC, in Run and Luff. -/
def rtcLoad (s : State) : State :=
  if 1 < s.f Fl.SYS_PWRSTAT_STATE then s
  else { s.setF Fl.TIM_RTCS_S 0 (unsignedOf 32 (Int.fdiv s.calendar 1000000000)) |>.setF Fl.TIM_RTCSUB_SUB 0 0
         with time.rtcAcc := 0 }

/-- Device time is reloaded from the RTC, or resumes 1 ms after the newest fold record (R529, R530). -/
def timeReload (s : State) : State :=
  if s.b Fl.TIM_STAT_RTCVALID then
    let utc : Int := (s.f Fl.TIM_RTCS_S * 1000000000 + s.f Fl.TIM_RTCSUB_SUB * 1000000000 / 32768 : Nat)
    { s with time.now := unsignedOf 64 (utc - s.koff) * 2 ^ 32 }
  else { s.setB Fl.TIM_STAT_CALVALID 0 false with
         time.now := (s.mtr.committed.instant + 1000000) % 2 ^ 64 * 2 ^ 32 }

/-! ### The fold instant -/

/-- The first fold after a takeover: the interruption records of the lost module's meters are staged and guest
secondary measurement starts (R347, R471, R473). -/
def takeoverFold (b : Nat) (s : State) : State :=
  if !s.rng.takeFold then s else
  let s := { s with rng.takeFold := false, rng.secondary := true }
  let s := s.each 24 fun h s => s.when (s.b Fl.PRT_GCFG_EN (40 + h)) (tamper 11)
  match s.rng.lastFold with
  | none => s
  | some f =>
    let g := s.f Fl.RNG_STAT_GUESTID
    let label := labelOf ((b : Int) + s.bilK)
    s.work fun w => { w with grp := w.grp ++ (List.range 25).map fun m =>
      let x := f.meters.getD m (0, 0, 0, 0)
      (2, m, g, interruptBody f.instant b x.1 x.2.1 (if m < 24 then x.2.2.1 else 0) (if m < 24 then x.2.2.2 else 0)
        f.label label 3 0xFF) }

/-- A fold instant: every meter is folded, the records of a takeover are staged, billing takes its boundaries,
then a pending step and a pending calendar set apply (R329, R365, R473, R531, R539). -/
def foldInstant (s : State) : State :=
  let b := s.now / 1000000 * 1000000
  calendarAtFold (stepAtFold (billingFold b (takeoverFold b (fold s))))

/-! ### The system clock (R526, R537) -/

/-- One clock of device time, in Run and Luff. -/
def timeTick (s : State) : State :=
  if s.f Fl.SYS_PWRSTAT_STATE ≤ 1 && s.sys.phase != .off
  then { s with time.now := (s.time.now + s.time.inc) % 2 ^ 96 } else s

/-- 5 ns of the RTC, which runs except in Furl. -/
def rtcTick (s : State) : State :=
  if !s.time.oscRunning || s.sys.phase == .off then s else
  let a := s.time.rtcAcc + 163840
  if a < 1000000000 then { s with time.rtcAcc := a }
  else
    let sub := s.f Fl.TIM_RTCSUB_SUB + 1
    let s := s.setF Fl.TIM_RTCSUB_SUB 0 (sub % 32768)
    { s.when (32768 ≤ sub) (fun s => s.addF Fl.TIM_RTCS_S 0 1) with time.rtcAcc := a - 1000000000 }

end Sys2Proof.Machine
end

