-- ==== Sys2Proof/Machine/Clock.lean ====
section
/-! DEFINITION. One clock of the system clock, in which no command acts (R25, R72, R526, R537). -/

namespace Sys2Proof.Machine

/-- 5 ns pass: the model's count of clocks, device time, the RTC, the clock counters of the harts. -/
def clockTick (s : State) : State := hartTick (rtcTick (timeTick { s with tick := s.tick + 1 }))

end Sys2Proof.Machine
end

