-- ==== Sys2Proof/Machine/Ring.lean ====
section
/-! DEFINITION. The Crateuth ring: links, view and generation, shadowing, loss and takeover, return, splice
(R455 to R481). -/

namespace Sys2Proof.Machine

/-! ### Access -/

/-- Crateuth port `k` beside its registers: 0 is D, 1 is U. -/
def State.rp (s : State) (k : Nat) : RingPort := s.rng.port.toList.getD k {}

/-- Changes Crateuth port `k` beside its registers. -/
def State.setRp (s : State) (k : Nat) (f : RingPort → RingPort) : State :=
  { s with rng.port := s.rng.port.setIfInBounds k (f (s.rp k)) }

/-- Events of the RNG causes (R481). -/
def rngCause (j : Nat) (s : State) : State :=
  s.causeOn Fl.RNG_CAUSE_CAUSE Fl.RNG_CTL_EVEN 0 j
    (if j < 5 then 104 else if j < 9 then 105 else if j < 13 then 106 else 107)

/-- State codes of RNG_STAT.STATE (R481). -/
def rAlone : Nat := 0
def rJoining : Nat := 1
def rService : Nat := 2
def rSplicing : Nat := 3
def rDisplaced : Nat := 4
def rReturning : Nat := 5
def rLeft : Nat := 6
def rRefused : Nat := 7

/-- The state of the module in the ring. -/
def State.ringState (s : State) : Nat := s.f Fl.RNG_STAT_STATE

/-- A Crateuth link is up. -/
def State.linkUp (s : State) (k : Nat) : Bool := s.f Fl.RNG_LINK_STATE k == 2

/-- The members in ring order from this module downstream (RNG_ORDER). -/
def State.ringOrder (s : State) : List Nat :=
  ((List.range 256).map fun i => bitsOf (s.reg R.RNG_ORDER (i / 4)) (8 * (i % 4)) 8).takeWhile (· != 0)

/-- The present sequence number (R236). -/
def State.seqNow (s : State) : Nat := s.now / (1000 * s.f Fl.ALC_CFG_PERIOD) % 2 ^ 32

/-- A period's sequence number has been reached, modulo 2³². -/
def State.seqReached (s : State) (q : Nat) : Bool := (s.seqNow + 2 ^ 32 - q % 2 ^ 32) % 2 ^ 32 < 2 ^ 31

/-! ### Links (R456 to R458) -/

/-- A down port begins a link start (R456, R464). -/
def ringLinkStart (k : Nat) (s : State) : State :=
  if 2 ≤ k || !s.b Fl.RNG_CTL_EN || s.modid == 0 || s.linkUp k then s else
  let a := s.draw
  let b := a.2.draw
  (b.2.setF Fl.RNG_LINK_STATE k 1 |>.satF Fl.RNG_LINKERR_STARTS k 1).setRp k fun _ =>
    { step := 1, nonce := a.1, share := b.1 }

/-- A link start fails: the port stays down. -/
def linkRefused (k j : Nat) (s : State) : State :=
  rngCause j ((s.setF Fl.RNG_LINK_STATE k 0).setRp k fun _ => {})

/-- A LINKCAP arrives (R456). -/
def linkCap (k peer lo hi : Nat) (nonce share : List Byte) (s : State) : State :=
  if 2 ≤ k || (s.rp k).step != 1 then s
  else if peer == s.modid then linkRefused k 4 s
  else
    let v := min hi 2
    if v < max lo 1 then linkRefused k 2 s
    else s.setRp k fun x => { x with step := 2, peer := peer, peerNonce := nonce, peerShare := share, version := v }

/-- The ring secret as bytes (R457). -/
def State.ringSecret (s : State) : List Byte := (s.rng.secret.toList.map fun w => leBytes 4 w.toNat).flatten

/-- A module whose first link comes up is joining. -/
def joinStart (s : State) : State :=
  if s.ringState == rAlone then s.setF Fl.RNG_STAT_STATE 0 rJoining else s

/-- LINE: a link of the ring is down (R465). -/
def showLine (broken : Bool) (s : State) : State :=
  let line := s.inView && (broken || !s.linkUp 0 || !s.linkUp 1)
  let was := s.b Fl.RNG_STAT_LINE
  (s.setB Fl.RNG_STAT_LINE 0 line).when (line && !was) (rngCause 7)

/-- LINKAUTH is verified: the link comes up with its version and keys, or stays down (R456, R458). -/
def linkAuth (k : Nat) (ok : Bool) (s : State) : State :=
  if 2 ≤ k || (s.rp k).step != 2 then s
  else if !ok then linkRefused k 3 s
  else
    let x := s.rp k
    let s := s.setRp k fun x => { x with
      step := 4, misses := 0, beat := none, frames := 0
      keys := some (Config.linkKeys s.ringSecret (Config.ecdhDerive 1 x.share x.peerShare)) }
    let s := s.setF Fl.RNG_LINK_STATE k 2 |>.setF Fl.RNG_LINK_VER k x.version |>.setF Fl.RNG_LINK_PEER k x.peer
      |>.setF Fl.RNG_LINK_HBMISS k 0
    showLine false (rngCause 0 (joinStart s))

/-- A link goes down. -/
def ringLinkDown (k : Nat) (s : State) : State :=
  showLine false (rngCause 1 ((s.setF Fl.RNG_LINK_STATE k 0).setRp k fun _ => {}))

/-! ### The view (R460 to R463) -/

/-- The view in force as a frame of this module: its members, or the module alone. -/
def State.viewNow (s : State) : ViewFrame :=
  { origin := s.modid, epoch := s.f Fl.RNG_EPOCH_EPOCH, seqEff := s.seqNow
    members := if s.ringOrder.isEmpty then [s.modid] else s.ringOrder
    gen := if s.inView then s.f Fl.RNG_VIEWST_GEN else s.genOffer, splid := s.f Fl.RNG_VIEWST_SPLID }

/-- A member placed after another one in ring order. -/
def placeAfter (a m : Nat) : List Nat → List Nat
  | [] => [m]
  | x :: xs => if x = a then x :: m :: xs else x :: placeAfter a m xs

/-- A member placed before another one in ring order. -/
def placeBefore (a m : Nat) : List Nat → List Nat
  | [] => [m]
  | x :: xs => if x = a then m :: x :: xs else x :: placeBefore a m xs

/-- A view with one change made to it by module `own` (R461, R462). -/
def changeView (own : Nat) (c : RingChange) (v : ViewFrame) : ViewFrame :=
  match c with
  | .lose m => { v with members := v.members.filter (· != m), splid := if v.splid = m then 0 else v.splid }
  | .join m down offer =>
    if v.members.contains m then { v with gen := min v.gen offer }
    else { v with members := (if down then placeAfter own m else placeBefore own m) v.members, gen := min v.gen offer }
  | .leave => { v with members := v.members.filter (· != own), splid := if v.splid = own then 0 else v.splid }
  | .splice => { v with splid := own }
  | .spliceEnd => { v with splid := if v.splid = own then 0 else v.splid }
  | .raiseGen g => { v with gen := max v.gen g }

/-- A change is announced on top of a view: epoch E + 1, SEQ_eff two periods ahead (R461). -/
def announceOn (base : ViewFrame) (c : RingChange) (s : State) : State :=
  let v := { changeView s.modid c base with origin := s.modid, epoch := base.epoch + 1, seqEff := s.seqNow + 2 }
  { s with rng.announced := some (c, v), rng.views := s.rng.views ++ [v] }

/-- The newest view known: the one in force, or the one of the highest epoch that waits. -/
def State.viewBase (s : State) : ViewFrame :=
  s.rng.views.foldl (fun (b : ViewFrame) v => if b.epoch < v.epoch then v else b) s.viewNow

/-- A change is announced, unless the newest view already shows it. -/
def announce (c : RingChange) (s : State) : State :=
  let base := s.viewBase
  let v := changeView s.modid c base
  if v.members == base.members && v.splid == base.splid && v.gen == base.gen then s else announceOn base c s

/-- A VIEW frame arrives: of two with the same epoch and different content the one of the lower origin stays,
and this module announces its own change again on top of the winner (R461). -/
def viewFrame (v : ViewFrame) (s : State) : State :=
  if v.epoch ≤ s.f Fl.RNG_EPOCH_EPOCH || v.origin == s.modid then s else
  match s.rng.views.find? fun x => x.epoch == v.epoch with
  | none => { s with rng.views := s.rng.views ++ [v] }
  | some x =>
    if x.members == v.members && x.splid == v.splid && x.gen == v.gen then s
    else if x.origin < v.origin then s
    else
      let s := { s with rng.views := s.rng.views.filter (fun y : ViewFrame => y.epoch != v.epoch) ++ [v] }
      match s.rng.announced with
      | some (c, own) => if x.origin == s.modid && own.epoch == v.epoch then announceOn v c s else s
      | none => s

/-- XMIN of a ring and of a line of M modules, µs, rounded up (R466). -/
def xmin (m : Nat) : Nat := (200 + (m + 1) / 2 * 64 + 9) / 10
def xminLine (m : Nat) : Nat := (200 + (m - 1) * 64 + 9) / 10

/-- The list turned so that it begins with a member. -/
def turnTo (m : Nat) (l : List Nat) : List Nat := l.dropWhile (· != m) ++ l.takeWhile (· != m)

/-- Shows a view: members, ring order, buddy and protected module, generation, splice mark, XMIN (R460, R466,
R481). -/
def showView (v : ViewFrame) (s : State) : State :=
  let mine := v.members.contains s.modid
  let order := if mine then turnTo s.modid v.members else v.members
  let m := order.length
  let s := s.setF Fl.RNG_EPOCH_EPOCH 0 v.epoch |>.setF Fl.RNG_VIEWST_NMEM 0 (min m 255)
    |>.setF Fl.RNG_VIEWST_SPLID 0 v.splid |>.setF Fl.RNG_VIEWST_GEN 0 v.gen
    |>.setF Fl.RNG_VIEWST_OFFER 0 s.genOffer
    |>.setF Fl.RNG_XMIN_XMIN 0 (xmin m) |>.setF Fl.RNG_XMIN_XMINL 0 (xminLine m)
  let s := s.each 8 fun j s => s.setF Fl.RNG_MEM_MOD j
    (((List.range 32).filter fun i => order.contains (32 * j + i)).foldl setBit 0)
  let s := s.each 64 fun j s => s.setReg R.RNG_ORDER j
    (BitVec.ofNat 32 (leNat ((List.range 4).map fun i => BitVec.ofNat 8 (order.getD (4 * j + i) 0))))
  let other := mine && 1 < m
  s.setF Fl.RNG_STAT_BUDDY 0 (if other then order.getD 1 0 else 0)
    |>.setF Fl.RNG_STAT_PROT 0 (if other then order.getLastD 0 else 0)

/-- The state a module takes on with a new view (R460, R478, R481). -/
def viewState (v : ViewFrame) (s : State) : State :=
  let mine := v.members.contains s.modid
  let st := s.ringState
  if !mine then (if st == rService || st == rSplicing then s.setF Fl.RNG_STAT_STATE 0 rJoining else s)
  else if v.members.length ≤ 1 then
    (if st == rService || st == rSplicing || st == rJoining then s.setF Fl.RNG_STAT_STATE 0 rAlone else s)
  else if st == rAlone || st == rJoining then s.setF Fl.RNG_STAT_STATE 0 rService
  else if st == rService && v.splid == s.modid && s.f Fl.RNG_SPL_STEP == 1 then s.setF Fl.RNG_STAT_STATE 0 rSplicing
  else if st == rSplicing && v.splid != s.modid then s.setF Fl.RNG_STAT_STATE 0 rService
  else s

/-- A view comes into force (R461). A loss turns the ring into a line; a leave does not (R465, R480). -/
def adoptView (v : ViewFrame) (s : State) : State :=
  let shrunk := s.ringOrder.any fun m => !v.members.contains m
  let lost := shrunk && v.members.contains v.origin
  let s := viewState v (showView v s)
  let s := { s with rng.views := s.rng.views.filter fun x => v.epoch < x.epoch }
  let s := showLine lost s
  let s := s.when (s.linkUp 0 && s.f Fl.RNG_STAT_BUDDY != 0 && s.f Fl.RNG_LINK_PEER 0 == s.f Fl.RNG_STAT_BUDDY)
    (fun s => s.setB Fl.RNG_STAT_NOBUDDY 0 false)
  rngCause 5 s

/-- At a period start, every view whose SEQ_eff has been reached comes into force, epochs rising (R461). -/
def viewAdopt (s : State) : State :=
  let due := (s.rng.views.filter fun v => s.seqReached v.seqEff).foldl
    (fun (b : Option ViewFrame) v => match b with
      | none => some v
      | some x => if x.epoch < v.epoch then some v else some x) none
  match due with
  | none => s
  | some v => if v.epoch ≤ s.f Fl.RNG_EPOCH_EPOCH then s else adoptView v s

/-- GEN of a member's last halyard (R239). -/
def State.memberOffer (s : State) (m : Nat) : Option Nat :=
  (cellsFind s.alc.lastUsed m).map fun h => leNat ((h.drop 2).take 2)

/-- The lowest member announces the lowest offer once every member has carried a higher one (R462). -/
def generationRaise (s : State) : State :=
  let offers := s.others.map s.memberOffer
  let low := offers.foldl (fun (b : Option Nat) o => match b, o with
    | some x, some y => some (min x y)
    | _, _ => none) (some s.genOffer)
  match low with
  | none => s
  | some g =>
    if s.ringState == rService && s.others.all (s.modid < ·) && s.f Fl.RNG_VIEWST_GEN < g
    then announce (.raiseGen g) s else s

/-! ### Heartbeats (R469) -/

/-- A module that joins would break the generation rules of R463: its MINGEN lies above the generation the view
would run, or its offer below a member's MINGEN. -/
def joinBreaks (gen offer minGen others : Nat) : Bool := min gen offer < minGen || offer < others

/-- The heartbeat the module sends (R469, R478). -/
def State.ownBeat (s : State) : HeartbeatFrame :=
  { modid := s.modid, state := s.ringState, epoch := s.f Fl.RNG_EPOCH_EPOCH, count := s.rng.beats
    guest := s.b Fl.RNG_STAT_GUEST, tover := s.b Fl.LPE_STAT_TOVER, age := s.f Fl.RNG_SHSTAT_AGE
    gen := s.viewNow.gen, offer := s.genOffer, minGen := s.images.minGen }

/-- Heartbeats leave on both ports (R469). -/
def heartbeatSend (s : State) : State :=
  if s.linkUp 0 || s.linkUp 1 then { s with rng.beat := some s.ownBeat, rng.beats := s.rng.beats + 1 } else s

/-- The joining module is refused (R463). -/
def refuseJoin (s : State) : State := rngCause 6 (zeroSheets (s.setF Fl.RNG_STAT_STATE 0 rRefused))

/-- A valid heartbeat: the miss count resets; a neighbour that is up and not a member joins (R461, R463). -/
def heartbeat (k : Nat) (h : HeartbeatFrame) (s : State) : State :=
  if 2 ≤ k || !s.linkUp k then s else
  let s := s.setRp k fun x => { x with misses := 0, beat := some h }
  let st := s.ringState
  let joins (x : Nat) : Bool := x == rAlone || x == rJoining || x == rDisplaced
  if joins st && (h.state == rService || h.state == rSplicing) && !s.member h.modid &&
      joinBreaks h.gen s.genOffer s.images.minGen h.minGen then refuseJoin s
  else if joins h.state && (st == rService || st == rSplicing || st == rJoining) && !s.member h.modid &&
      !joinBreaks s.viewNow.gen h.offer h.minGen s.images.minGen then announce (.join h.modid (k == 0) h.offer) s
  else s

/-- A 10 µs interval without a valid heartbeat (R469). -/
def heartbeatMissed (k : Nat) (s : State) : State :=
  if 2 ≤ k || !s.linkUp k then s else
  (s.satF Fl.RNG_LINK_HBMISS k 1).setRp k fun x => { x with misses := x.misses + 1 }

/-! ### Takeover (R470, R471) -/

/-- The takeover begins: GUEST, the takeover signal, records at the next fold; guest sessions without a standby
front-end stop (R295, R471, R473). -/
def takeoverBegin (m : Nat) (s : State) : State :=
  let s := s.setB Fl.RNG_STAT_GUEST 0 true |>.setF Fl.RNG_STAT_GUESTID 0 m
  let s := { s with lpe.signal := some true, rng.takeFold := true, rng.signalled := false, rng.asked := false
                    rng.returnAt := none, rng.closing := none }
  let s := s.each 24 fun h s =>
    if (List.range 24).any fun f => s.feMode f == 2 && s.f Fl.VEH_FE_CTX f == 24 + h then s else guestLost (24 + h) s
  rngCause 9 s

/-- The conditions of a takeover of module `m`, last heard with heartbeat `b` (R470). -/
def State.takeoverOk (s : State) (m : Nat) (b : Option HeartbeatFrame) : Bool :=
  s.b Fl.RNG_CTL_TAKEEN && s.ringState == rService && !s.b Fl.RNG_STAT_GUEST && s.member m &&
  (match b with | none => false | some h => h.state == rService || h.state == rSplicing) &&
  s.f Fl.RNG_SHSTAT_AGE ≤ max 1 (s.f Fl.RNG_CFG_AGEMAX)

/-- A neighbour is declared lost at the fourth consecutive miss (R469 to R471). -/
def neighbourLost (k : Nat) (s : State) : State :=
  let x := s.rp k
  if 2 ≤ k || !s.linkUp k || x.misses < 4 then s else
  let m := s.f Fl.RNG_LINK_PEER k
  let was := s.member m
  let prot := was && s.f Fl.RNG_STAT_PROT == m
  let buddy := was && s.f Fl.RNG_STAT_BUDDY == m
  let ok := s.takeoverOk m x.beat
  let s := ringLinkDown k (s.setQ R.RNG_TDECLL R.RNG_TDECLH 0 s.now)
  let s := s.when was (announce (.lose m))
  let s := s.when (k == 1 && prot) (if ok then takeoverBegin m else rngCause 12)
  s.when (k == 0 && buddy) fun s => rngCause 8 (s.setB Fl.RNG_STAT_NOBUDDY 0 true)

/-! ### Shadowing (R467, R468) -/

/-- The shadowed register arrays, with how many members the home module has: the same register of the guest lies
that many members on (R150, R467). -/
def shadowRegs : List (Rg × Nat) :=
  [(R.LPE_GROUP, 4), (R.LPE_BATCH, 32), (R.LPE_FECFG, 32), (R.CLN_LANECFG, 16), (R.CLN_CELLMAP, 512),
   (R.PRT_GCFG, 40), (R.PRT_GCMD, 40), (R.PRT_ISET, 40), (R.PRT_VSET, 40), (R.PRT_RATE, 40), (R.PRT_RLL, 40),
   (R.PRT_IRATED, 40), (R.PRT_PCFG, 40), (R.PRT_EMAX, 40), (R.PRT_CNOM, 40)] ++
  [(R.PRT_TIMES, 40), (R.PRT_DISCFG, 40), (R.PRT_GSTAT, 40), (R.PRT_GCAUSE, 40), (R.PRT_ISHEET, 40),
   (R.PRT_IAPP, 40), (R.PRT_VAPP, 40), (R.PRT_CIDENT, 40), (R.PRT_TREP, 40), (R.PRT_CELL, 512),
   (R.ALC_PREQ, 24), (R.ALC_PCFG, 24), (R.ALC_PRAMP, 24), (R.ALC_PRATED, 24), (R.ALC_PAPPLIED, 24)] ++
  [(R.ALC_PLAST, 24), (R.ALC_PGRANT, 24), (R.ALC_PSTAT, 24), (R.ALC_SCFG, 8), (R.ALC_SCHGPRICE, 8),
   (R.ALC_SDISPRICE, 8), (R.ALC_SRAMP, 8), (R.ALC_SSETPOINT, 8), (R.ALC_SLAST, 8), (R.ALC_SOFFER, 8),
   (R.ALC_SSTAT, 8)] ++
  [(R.THM_PSEN, 24), (R.THM_PCH, 24), (R.THM_FLOWCFG, 24), (R.THM_WIN, 24), (R.THM_LIM, 24), (R.THM_REEF, 24),
   (R.THM_R20, 24), (R.THM_COEF, 24), (R.THM_CAP, 24), (R.THM_G12, 24), (R.THM_OBS, 24), (R.THM_IMAXH, 24),
   (R.THM_ISTAT, 24), (R.THM_FLOW, 24), (R.THM_TEST, 24), (R.THM_CABLE, 24), (R.THM_PSTAT, 24)]

/-- The words of a session context that a delta carries (R292). -/
def deltaRegs : List (Rg × Nat) :=
  [(R.VEH_SCFG, 24), (R.VEH_SSTAT, 24), (R.VEH_RXADDR, 24), (R.VEH_RXLEN, 24), (R.VEH_TXADDR, 24),
   (R.VEH_LIMI, 24), (R.VEH_LIMV, 24), (R.VEH_LIMP, 24), (R.VEH_CHKV, 24), (R.VEH_EVI, 24), (R.VEH_EVV, 24),
   (R.VEH_EVSOC, 24), (R.VEH_LOOPCNT, 24)]

/-- The member of an array that lies at an address, among the first `n`. -/
def memberAt (r : Rg) (n a : Nat) : Option Nat :=
  match r.dims with
  | [(_, st)] => if r.addr ≤ a && (a - r.addr) % st == 0 && (a - r.addr) / st < n then some ((a - r.addr) / st) else none
  | _ => none

/-- Writes a word of the home module into the guest's register (`guest`) or into its own. -/
def placeWord (regs : List (Rg × Nat)) (guest : Bool) (e : Nat × Word) (s : State) : State :=
  match regs.findSome? fun x => (memberAt x.1 x.2 e.1).map fun i => (x.1, i + (if guest then x.2 else 0)) with
  | some (r, i) => s.setReg r i e.2
  | none =>
    let o := e.1 - 0x40060000
    let slot := o / 64 % 1024
    if 0x40060000 ≤ e.1 && e.1 < 0x40080000 && slot < 512 then
      let key := o / 65536 * 16384 + (slot + (if guest then 512 else 0)) * 16 + o / 4 % 16
      { s with lpe.coef := cellsPut 0 s.lpe.coef key e.2 }
    else s

/-- A shadow frame is gathered; the last one completes the period's shadow or shows it incomplete (R468). -/
def shadowFrame (f : ShadowFrame) (s : State) : State :=
  if !s.linkUp 1 then s
  else if !f.tagOk then s.satF Fl.RNG_LINKERR_TAGERR 1 1
  else
    let s := { s with rng.words := s.rng.words ++ f.words, rng.lanes := s.rng.lanes ++ f.lanes
                      rng.observers := s.rng.observers ++ f.observers, rng.nodes := s.rng.nodes ++ f.nodes
                      rng.fold := f.fold.orElse fun _ => s.rng.fold }
    if !f.last then s
    else if f.count == s.rng.words.length then { s with rng.complete := true }
    else rngCause 13 { s.satF Fl.RNG_SHSTAT_LAG 0 1 with
      rng.words := [], rng.lanes := [], rng.observers := [], rng.nodes := [], rng.fold := none, rng.complete := false }

/-- A complete shadow is applied to the guest resources in one step (R467, R468). -/
def applyShadow (s : State) : State :=
  let r := s.rng
  let s := s.eachOf r.words (placeWord shadowRegs true)
  let s := s.eachOf r.lanes fun e s => { s with cln.shadow := cellsInsert s.cln.shadow e.1 (e.2.1, e.2.2.1, e.2.2.2) }
  let s := s.eachOf r.observers fun e s =>
    if e.1 < 24 then s.setTp (24 + e.1) fun x => { x with obs := some { t1 := e.2.1, t2 := e.2.2 } } else s
  let s := { s with alc.guestNodes := if r.nodes.isEmpty then s.alc.guestNodes else r.nodes
                    rng.lastFold := r.fold.orElse fun _ => r.lastFold }
  s.setF Fl.RNG_SHSTAT_AGE 0 0

/-- A period start on the ring: the complete shadow of the period before is applied, or its age rises (R468). -/
def ringPeriod (s : State) : State :=
  let s := if s.f Fl.RNG_STAT_PROT == 0 || s.b Fl.RNG_STAT_GUEST then s
    else if s.rng.complete then applyShadow s else s.satF Fl.RNG_SHSTAT_AGE 0 1
  if s.rng.complete then
    { s with rng.words := [], rng.lanes := [], rng.observers := [], rng.nodes := [], rng.fold := none
             rng.complete := false }
  else s

/-- A session delta updates its guest context and is acknowledged; during a return it updates the own context
(R292, R296). -/
def deltaFrame (d : DeltaFrame) (s : State) : State :=
  let back := s.ringState == rReturning
  let k := if back then 0 else 1
  if 24 ≤ d.port || !s.linkUp k then s
  else if !d.tagOk then s.satF Fl.RNG_LINKERR_TAGERR k 1
  else
    let c := if back then d.port else 24 + d.port
    let s := s.eachOf d.words (placeWord deltaRegs (!back))
    let s := (s.setF Fl.VEH_SSTAT_STATE c (d.state % 16)).setSes c fun x => { x with
      active := d.state != sIdle, netKey := d.netKey, lastRequest := d.request
      lastResponse := if d.response.isEmpty then none else some (.bytes d.response)
      secrets := d.secrets, rxCount := d.rxCount, txCount := d.txCount }
    { s with rng.acked := some (d.port, d.seq) }

/-! ### Displacement and return (R474 to R477) -/

/-- Home lanes idle, own front-ends held as in standby, own sheets and setpoints 0 (R474). -/
def goSilent (s : State) : State :=
  let s := { s with rng.silent := true }
  let s := s.each 24 fun f s =>
    if s.feMode f == 1 && s.f Fl.VEH_FE_CTX f < 24 then s.setFe f fun x => { x with released := true } else s
  let s := s.each 24 fun p s => setSheet p 0 s
  s.each 8 fun i s => setSetpoint i 0 s

/-- A home lane receives a TAKE that names its chain, or a SYNC with SRC = 1 (R474, R479). -/
def displaced (lane : Nat) (s : State) : State :=
  if 16 ≤ lane || !s.inView || s.rng.silent then s
  else if s.ringState == rSplicing then goSilent s
  else rngCause 11 ((goSilent s).setF Fl.RNG_STAT_STATE 0 rDisplaced)

/-- The module's load is at its buddy. -/
def State.loadAway (s : State) : Bool :=
  s.ringState == rDisplaced ||
  ((s.ringState == rService || s.ringState == rSplicing) &&
    (match (s.rp 0).beat with | none => false | some h => h.guest && h.modid == s.f Fl.RNG_STAT_BUDDY))

/-- A return starts with a request to the buddy (R476). -/
def returnRequest (s : State) : State :=
  if s.member s.modid && s.linkUp 0 && s.loadAway then
    let spl := s.f Fl.RNG_VIEWST_SPLID == s.modid
    let s := (s.setF Fl.RNG_STAT_STATE 0 rReturning).when spl fun s => s.setF Fl.RNG_SPL_STEP 0 4
    goSilent { s with rng.asked := true, rng.gotState := false, rng.returnAt := none }
  else s

/-- A frame of a return or splice handshake (R476, R477, R479). -/
def spliceFrame (f : SpliceFrame) (s : State) : State :=
  match f with
  | .returnRequest =>
    if s.b Fl.RNG_STAT_GUEST && s.linkUp 1 && s.f Fl.RNG_LINK_PEER 1 == s.f Fl.RNG_STAT_GUESTID
    then { s with rng.asked := true } else s
  | .guestState words =>
    if s.ringState == rReturning && s.linkUp 0 then
      let s := s.eachOf words (placeWord shadowRegs false)
      let s := s.each 16 fun j s => if s.b Fl.CLN_LANECFG_EN j then startLink j true s else s
      { s with rng.gotState := true }
    else s
  | .returnAt seq =>
    if (s.ringState == rReturning && s.rng.gotState) || (s.b Fl.RNG_STAT_GUEST && s.rng.asked)
    then { s with rng.returnAt := some seq } else s
  | .portMoved p =>
    if 24 ≤ p then s
    else if s.ringState == rReturning || s.rng.returnAt.isSome && !s.b Fl.RNG_STAT_GUEST then
      s.each 24 fun f s => if s.f Fl.VEH_FE_CTX f == p then s.setFe f fun x => { x with released := false } else s
    else if s.b Fl.RNG_STAT_GUEST then
      s.each 24 fun f s => if s.f Fl.VEH_FE_CTX f == 24 + p then standbyTakeover f s else s
    else s

/-- A home register of the return is closed to harts until T_r (R476). -/
def State.returnBlocks (s : State) (a : Nat) : Bool :=
  s.ringState == rReturning && s.rng.asked &&
  (shadowRegs.any fun x => (memberAt x.1 x.2 a).isSome)

/-- T_r has come. -/
def State.returnDue (s : State) : Bool := match s.rng.returnAt with | none => false | some q => s.seqReached q

/-- The return signal: on the home module its groups run again with the init flag; on the buddy the engine, the
proxy halyard and guest secondary measurement stop (R131, R153, R477). -/
def returnSignal (s : State) : State :=
  if !s.returnDue then s
  else if s.b Fl.RNG_STAT_GUEST && s.rng.asked then
    { s with lpe.signal := some false, rng.signalled := true, rng.secondary := false
             rng.closing := some (s.f Fl.RNG_STAT_GUESTID) }
  else if s.ringState == rReturning then
    let s := { s.setF Fl.RNG_STAT_STATE 0 rService with rng.silent := false, rng.asked := false }
    s.each 32 fun b s =>
      if s.b Fl.LPE_BATCH_EN b then initSlots (maskSlots b (s.f Fl.LPE_BATCH_MASK b)) s else s
  else s

/-- Three home periods after T_r: the guard lanes monitor again, GUEST clears; the home module ends a splice
(R477, R479). -/
def returnComplete (s : State) : State :=
  if s.b Fl.RNG_STAT_GUEST && s.rng.signalled then
    let s := guardRelease s
    let s := s.setB Fl.RNG_STAT_GUEST 0 false |>.setF Fl.RNG_STAT_GUESTID 0 0
    rngCause 10 { s with rng.asked := false, rng.returnAt := none, rng.signalled := false }
  else if s.rng.returnAt.isSome && s.ringState == rService then
    let s := { s with rng.returnAt := none, rng.gotState := false }
    if s.f Fl.RNG_VIEWST_SPLID == s.modid
    then rngCause 15 (announce .spliceEnd (s.setF Fl.RNG_SPL_STEP 0 0)) else s
  else s

/-! ### Splice and leave (R478 to R480) -/

/-- Why a splice is refused: RNG_SPL.REASON, 0 where it may start (R478). -/
def State.spliceReason (s : State) : Nat :=
  if s.ringState != rService || s.b Fl.RNG_STAT_GUEST then 5 else
  match (s.rp 0).beat with
  | none => 2
  | some h =>
    if !s.linkUp 0 || h.modid != s.f Fl.RNG_STAT_BUDDY || h.state != rService || h.guest then 2
    else if s.b Fl.RNG_VIEWST_SPLID then 1
    else if 1 < h.age then 4
    else if h.tover then 3 else 0

/-- Writing SPLICE (R478, R479). -/
def spliceStart (s : State) : State :=
  let r := s.spliceReason
  if r = 0 then announce .splice (s.setF Fl.RNG_SPL_STEP 0 1 |>.setF Fl.RNG_SPL_REASON 0 0)
  else rngCause 14 (s.setF Fl.RNG_SPL_REASON 0 r)

/-- T_s: the buddy takes over; the splicing module's contexts in IDLE or END move (R479). -/
def spliceHandover (s : State) : State :=
  let m := s.f Fl.RNG_VIEWST_SPLID
  if m == 0 then s
  else if m == s.modid then
    if s.f Fl.RNG_SPL_STEP != 1 then s else
    let s := s.setF Fl.RNG_SPL_STEP 0 2
    s.each 24 fun f s =>
      let c := s.f Fl.VEH_FE_CTX f
      if c < 24 && s.feMode f == 1 && (s.sst c == sIdle || s.sst c == sEnd)
      then s.setFe f fun x => { x with released := true } else s
  else if m == s.f Fl.RNG_STAT_PROT && s.ringState == rService && !s.b Fl.RNG_STAT_GUEST then
    takeoverBegin m (s.setQ R.RNG_TDECLL R.RNG_TDECLH 0 s.now)
  else s

/-- Writing LEAVE (R480). -/
def leaveRing (s : State) : State :=
  if ((List.range 16).all fun j => s.laneSt j == 0) && ((List.range 24).all fun c => s.sst c == sIdle)
  then (announce .leave s).setF Fl.RNG_STAT_STATE 0 rLeft
  else rngCause 14 (s.setF Fl.RNG_SPL_REASON 0 6)

/-! ### Registers (R457, R464, R481) -/

/-- Writes of the RNG block. -/
def rngWrite (r : Rg) (i : Nat) (v : Word) (s : State) : Option State :=
  if r == R.RNG_CTL then
    let s := plainWrite r i v s
    let s := s.when (v.getLsbD 28) returnRequest
    let s := s.when (v.getLsbD 27) spliceStart
    some (s.when (v.getLsbD 26) leaveRing)
  else if r == R.RNG_CFG then
    let old := s.modid
    let s := plainWrite r i v s
    some (if s.modid = 255 then s.setF Fl.RNG_CFG_MODID 0 old else s)
  else if r == R.RNG_SECRET then some { s with rng.secret := s.rng.secret.setIfInBounds i v }
  else none

end Sys2Proof.Machine
end

