-- ==== Sys2Proof/Machine/Settle.lean ====
section
/-! DEFINITION. The end of every command: what follows at once from the new state. -/

namespace Sys2Proof.Machine

/-- The category 1 stops of the shroud reach port power (R426). -/
def takeStops (s : State) : State :=
  s.eachOf s.sfy.stops (fun p s => groupStop (portGroup p) s) |> fun s => { s with sfy.stops := [] }

/-- What follows at once from the new state: stops, sessions, the local clamps, the active lines, the MSI vectors
of newly active lines, and the wake from Luff by a routed event (R42, R264, R284, R426, R596, R597, R600). -/
def State.settle (s : State) : State :=
  let s := takeStops s
  let s := pollSessions s
  let s := s.each 24 clampPort
  let lines := s.activeLines
  let harts := s.activeHartLines
  let old := s.f Fl.EVT_LINESTAT_LINE
  let s := s.sendMsi (lines &&& (0xFF ^^^ old))
  let s := s.setF Fl.EVT_LINESTAT_LINE 0 lines
  let s := s.setF Fl.EVT_LINESTAT_HART 0 harts
  s.when (harts != 0) (fun s => s.wake 0)

/-- Answers the next state. -/
def done (s : State) : Out := .next s.settle

end Sys2Proof.Machine
end

