-- ==== Sys2Proof/Machine/AllocCommands.lean ====
section
/-! DEFINITION. The commands of site allocation (R235 to R268). -/

namespace Sys2Proof.Machine

/-! ### Commands -/

def execAllocationPeriodStart (s : State) : Out := done (periodStart (ringPeriod s))

def execExchangeWindowClose (s : State) : Out := done (windowClose s)

def execSolveComplete (durationUs : Nat) (s : State) : Out := done (solveComplete durationUs s)

def execSolveOverrun (s : State) : Out := done (solveOverrun s)

def execHalyardReceived (bytes : List Byte) (tagOk : Bool) (hops : Nat) (s : State) : Out :=
  done (halyardReceived bytes tagOk hops s)

def execAllocationPeriodWrite (period : Nat) (s : State) : Out := done (periodWrite period s)

def execAllocationConfigWrite (xwin clsen : Nat) (s : State) : Out := done (alcConfigWrite xwin clsen s)

def execTreeCommit (s : State) : Out := done { s with alc.commit := true }

/-- CNTCLR clears ALC_CNT. -/
def counterClear (s : State) : State := s.setReg R.ALC_CNT 0 0

def execAlcCounterClear (s : State) : Out := done (counterClear s)

/-- EN is set (R267). -/
def alcEnable (s : State) : State :=
  let s := s.setB Fl.ALC_CTL_EN 0 true
  match s.f Fl.ALC_STAT_STATE with
  | 0 => { s.setF Fl.ALC_STAT_STATE 0 1 with alc.noAgree := true, alc.result := none, alc.previous := [] }
  | 2 => s.setF Fl.ALC_STAT_STATE 0 3
  | _ => s

/-- EN is cleared (R267). -/
def alcDisable (s : State) : State :=
  let s := s.setB Fl.ALC_CTL_EN 0 false
  match s.f Fl.ALC_STAT_STATE with
  | 1 => s.setF Fl.ALC_STAT_STATE 0 2
  | 3 => s.setF Fl.ALC_STAT_STATE 0 2
  | _ => s

def execAllocatorEnable (s : State) : Out := done (alcEnable s)

def execAllocatorDisable (s : State) : Out := done (alcDisable s)

def execReqWrite (p : Nat) (v : Word) (s : State) : Out :=
  done (if 48 ≤ p || (24 ≤ p && !s.b Fl.LPE_TAKE_ACTIVE) then { s with busError := true } else reqWrite p v s)

def execPriceWrite (v : Word) (s : State) : Out := done (priceWrite v s)

def execReqAged (p : Nat) (s : State) : Out :=
  done (if p < 48 && s.b Fl.ALC_AGE_REQAGE then s.setB Fl.ALC_PSTAT_STALE p true else s)

def execPriceAged (s : State) : Out :=
  done (if s.b Fl.ALC_AGE_PRICEAGE then { s with alc.priceAged := true } else s)

def execNodeViolation (n : Nat) (s : State) : Out :=
  done (if 3 ≤ cellsGet 0 s.alc.exceeded n then alcCause 4 s else s)

/-- A write to a register of the ALC block that does more than its access codes say (R235, R238, R243, R245,
R263, R267). -/
def alcWrite (r : Rg) (i : Nat) (v : Word) (s : State) : Option State :=
  if r = R.ALC_CTL then
    let en := s.b Fl.ALC_CTL_EN
    let s := s.setReg r 0 (withBits (v &&& r.rw) 0 1 (b2n en))
    let s := s.when (bitOf v.toNat 24) counterClear
    let s := if bitOf v.toNat 25 then { s with alc.commit := true } else s
    some (if bitOf v.toNat 0 && !en then alcEnable s else if !bitOf v.toNat 0 && en then alcDisable s else s)
  else if r = R.ALC_CFG then
    let p := v.toNat % 65536
    let c := bitsOf v 16 8
    if (p == s.f Fl.ALC_CFG_PERIOD || periods.contains p) && s.alcFits p (s.f Fl.ALC_WIN_XWIN) c s.nodeCount then
      some (showBound (s.setF Fl.ALC_CFG_CLSEN 0 c) |> fun s =>
        if p == s.f Fl.ALC_CFG_PERIOD then s else periodWrite p s)
    else some (alcCause 3 s)
  else if r = R.ALC_WIN then
    if s.alcFits (s.f Fl.ALC_CFG_PERIOD) (v.toNat % 65536) (s.f Fl.ALC_CFG_CLSEN) s.nodeCount then some (s.setReg r 0 v)
    else some (alcCause 3 s)
  else if r = R.ALC_PRICE then some (priceWrite v s)
  else if r = R.ALC_PREQ then some (reqWrite i v s)
  else if r = R.ALC_REEFFRAC0 || r = R.ALC_REEFFRAC1 then
    let cap (j : Nat) (w : Word) : Word := withBits w (8 * j) 8 (min 128 (bitsOf w (8 * j) 8))
    let w := cap 3 (cap 2 (cap 1 (cap 0 v)))
    some (s.setReg r 0 (if r = R.ALC_REEFFRAC0 then withBits w 0 8 128 else w))
  else none

end Sys2Proof.Machine
end

