-- ==== Sys2Proof/Machine/Can.lean ====
section
/-! DEFINITION. The CAN FD controllers: bit timing, bit-rate search, transmit queue, reception, fault confinement
(R536, R543 to R557). -/

namespace Sys2Proof.Machine

/-- Controller `n` beside its registers. -/
def State.can (s : State) (n : Nat) : CanCtl := s.cans.toList.getD n {}

/-- Changes controller `n` beside its registers, and shows its queue and its event FIFO. -/
def State.setCan (s : State) (n : Nat) (f : CanCtl → CanCtl) : State :=
  let s := { s with cans := s.cans.setIfInBounds n (f (s.can n)) }
  let c := s.can n
  let s := s.setF Fl.CAN_TXSTAT_QCOUNT n c.queue.length |>.setF Fl.CAN_TXSTAT_EVCOUNT n c.events.length
  match c.events with
  | [] => s.setReg R.CAN_TXEVA n 0 |>.setReg R.CAN_TXEVB n 0
  | e :: _ =>
    (s.setReg R.CAN_TXEVA n e.t).setReg R.CAN_TXEVB n 0 |>.setF Fl.CAN_TXEVB_TAG n e.tag
      |>.setF Fl.CAN_TXEVB_STATUS n e.status |>.setB Fl.CAN_TXEVB_LATE n e.late

/-- A cause of controller `n`: bit `j` raises event 120 + n ÷ 2 (R557). -/
def canCause (j n : Nat) (s : State) : State := s.causeOn Fl.CAN_STAT_CAUSE Fl.CAN_CTL_EVEN n j (120 + n / 2)

/-- A subcause: bit `b` of SUBCAUSE, with cause 6 for NORATE and 7 for the others (R557). -/
def canSub (b n : Nat) (s : State) : State :=
  canCause (if b = 5 then 6 else 7) n (s.setFBit Fl.CAN_STAT_SUBCAUSE n b true)

/-- State of a controller: 0 off, 1 running, 2 stopping, 3 enable pending. -/
def State.canState (s : State) (n : Nat) : Nat := s.f Fl.CAN_STAT_STATE n

/-! ### Bit timing (R544) -/

/-- A nominal timing word in range: a bit lasts at least 1 µs. -/
def nominalOk (v : Word) : Bool :=
  let brp := bitsOf v 0 8
  let t1 := bitsOf v 8 8 + 1
  let t2 := bitsOf v 16 8 + 1
  let sjw := bitsOf v 24 8 + 1
  2 ≤ t1 && t2 ≤ 128 && sjw ≤ 128 && sjw ≤ t2 && 1000 ≤ (brp + 1) * 5 * (1 + t1 + t2)

/-- A data timing word in range: a bit lasts at least 125 ns. -/
def dataOk (v : Word) : Bool :=
  let brp := bitsOf v 0 5
  let t1 := bitsOf v 8 6 + 1
  let t2 := bitsOf v 16 5 + 1
  let sjw := bitsOf v 24 5 + 1
  sjw ≤ t2 && 125 ≤ (brp + 1) * 5 * (1 + t1 + t2)

/-- A write of a timing register: 0 NBT, 1 DBT, 2 to 5 NSET0 to NSET3. It is refused with CFGERR while EN is 1 or
out of range; an unused NSET is 0. -/
def timingWrite (n reg : Nat) (v : Word) (s : State) : State :=
  if 8 ≤ n || 6 ≤ reg then s else
  let ok := !s.b Fl.CAN_CTL_EN n &&
    (if reg = 0 then nominalOk v else if reg = 1 then dataOk v else v == 0 || nominalOk v)
  if !ok then canSub 3 n s
  else if reg = 0 then plainWrite R.CAN_NBT n v s
  else if reg = 1 then plainWrite R.CAN_DBT n v s
  else plainWrite R.CAN_NSET (4 * n + (reg - 2)) v s

/-! ### Transmission (R536, R548 to R551) -/

/-- LAUNCH and ONESHOT of an entry. -/
def CanEntry.launches (e : CanEntry) : Bool := bitOf e.hdr2.toNat 10
def CanEntry.oneShot (e : CanEntry) : Bool := bitOf e.hdr2.toNat 9

/-- A completion enters the event FIFO; a full FIFO drops it with TXEVOVF. TXDONE is set (R549). -/
def canEvent (n : Nat) (e : CanEntry) (t : Word) (status : Nat) (s : State) : State :=
  let x : CanEvent := { t := t, tag := bitsOf e.hdr2 12 4, status := status, late := e.late }
  if 16 ≤ (s.can n).events.length then canSub 1 n (canCause 0 n s)
  else canCause 0 n (s.setCan n fun c => { c with events := c.events ++ [x] })

/-- The controller may transmit: running, joined, not bus-off, in normal mode or internal loopback, and no bit-rate
search holding it in listen-only. -/
def State.canSends (s : State) (n : Nat) : Bool :=
  let m := s.f Fl.CAN_CTL_MODE n
  s.canState n == 1 && (s.can n).joined && s.f Fl.CAN_STAT_FCS n != 2 && (m == 0 || m == 3) &&
  (s.can n).search.isNone && !(s.can n).noRate

/-- The head starts arbitration where it may: no launch time ahead. It is late where its launch time has gone by,
with cause LATE (R536). -/
def canNext (n : Nat) (s : State) : State :=
  if !s.canSends n || (s.can n).wire.isSome then s else
  match (s.can n).queue with
  | [] => s
  | e :: rest =>
    let w := (e.launch - s.eventTime).toInt
    if e.launches && 0 < w then s else
    let late := e.late || (e.launches && w < 0)
    let s := s.setCan n fun c => { c with queue := { e with late := late } :: rest, wire := some s.eventTime }
    s.when late (canSub 4 n)

/-- The launch time of a waiting head arrives: the controller starts it, or leaves it late while it cannot. -/
def canLaunch (n : Nat) (s : State) : State :=
  match (s.can n).queue, (s.can n).wire with
  | e :: rest, none =>
    if !e.launches || 0 < (e.launch - s.eventTime).toInt then s
    else if s.canSends n then canNext n s
    else s.setCan n fun c => { c with queue := { e with late := true } :: rest }
  | _, _ => s

/-- TXPUSH queues the staged frame; a full queue refuses it with PUSHERR. -/
def canPush (n : Nat) (s : State) : State :=
  if 8 ≤ n then s
  else if 16 ≤ (s.can n).queue.length then canSub 0 n s
  else
    let e : CanEntry :=
      { hdr := s.reg R.CAN_TXHDR n, hdr2 := s.reg R.CAN_TXHDR2 n, launch := s.reg R.CAN_TXLAUNCH n
        data := (List.range 16).map fun w => s.reg R.CAN_TXDATA (16 * n + w) }
    canNext n (s.setCan n fun c => { c with queue := c.queue ++ [e] })

/-- The event time of a frame that never reached its SOF: the manual gives none. -/
def noSof (s : State) : Word × State := let d := s.draw; (BitVec.ofNat 32 d.1, d.2)

/-- Removes the head with a status. -/
def canPop (n status : Nat) (s : State) : State :=
  match (s.can n).queue with
  | [] => s
  | e :: rest =>
    let r := match (s.can n).wire with | some t => (t, s) | none => noSof s
    canEvent n e r.1 status (r.2.setCan n fun c => { c with queue := rest, wire := none })

/-- ABORT of the head: at once where it has not started, else when it loses arbitration or meets an error (R551). -/
def canAbort (n : Nat) (s : State) : State :=
  match (s.can n).queue, (s.can n).wire with
  | [], _ => s
  | _, none => canNext n (canPop n 3 s)
  | e :: rest, some _ => s.setCan n fun c => { c with queue := { e with aborting := true } :: rest }

/-- ABORTALL does the same for every entry. -/
def canAbortAll (n : Nat) (s : State) : State :=
  let drop (l : List CanEntry) (s : State) : State := s.eachOf l fun e s =>
    let r := noSof s
    canEvent n e r.1 3 r.2
  match (s.can n).queue, (s.can n).wire with
  | [], _ => s
  | l, none => drop l (s.setCan n fun c => { c with queue := [] })
  | e :: rest, some _ => drop rest (s.setCan n fun c => { c with queue := [{ e with aborting := true }] })

/-! ### Fault confinement (R554) -/

/-- New error counters, with WARN as one reaches 96, ERRPASS above 127 and BUSOFF where TEC passes 255 (PRESUMED: the
limits of ISO 11898-1). Bus-off halts the queue; AUTOREC starts the recovery. -/
def canCounters (n tec rec_ : Nat) (s : State) : State :=
  let warned := 96 ≤ s.f Fl.CAN_ERR_TEC n || 96 ≤ s.f Fl.CAN_ERR_REC n
  let fcs := if 255 < tec then 2 else if 127 < tec || 127 < rec_ then 1 else 0
  let old := s.f Fl.CAN_STAT_FCS n
  let s := s.setF Fl.CAN_ERR_TEC n (min 255 tec) |>.setF Fl.CAN_ERR_REC n (min 255 rec_) |>.setF Fl.CAN_STAT_FCS n fcs
  let s := s.when (!warned && (96 ≤ tec || 96 ≤ rec_)) (canCause 3 n)
  let s := s.when (fcs == 1 && old == 0) (canCause 4 n)
  if fcs == 2 && old != 2 then
    canCause 5 n (s.setCan n fun c => { c with recovering := s.b Fl.CAN_CTL_AUTOREC n, wire := none })
  else s

/-- RECOVER starts the recovery of a controller in bus-off. -/
def canRecover (n : Nat) (s : State) : State :=
  if s.f Fl.CAN_STAT_FCS n = 2 then s.setCan n fun c => { c with recovering := true } else s

/-- 128 occurrences of 11 recessive bits: the controller is error active again, with both counters 0. -/
def canRecovered (n : Nat) (s : State) : State :=
  if s.f Fl.CAN_STAT_FCS n != 2 || !(s.can n).recovering then s
  else
    let s := s.setF Fl.CAN_ERR_TEC n 0 |>.setF Fl.CAN_ERR_REC n 0 |>.setF Fl.CAN_STAT_FCS n 0
    canNext n (s.setCan n fun c => { c with recovering := false })

/-- A bus error while receiving: REC rises by 1 (PRESUMED: ISO 11898-1). -/
def canRxError (n lec : Nat) (s : State) : State :=
  if 8 ≤ n || s.canState n = 0 || s.f Fl.CAN_STAT_FCS n = 2 then s
  else canCounters n (s.f Fl.CAN_ERR_TEC n) (s.f Fl.CAN_ERR_REC n + 1) (s.setF Fl.CAN_STAT_LEC n lec)

/-! ### Reception (R552, R553) -/

/-- A filter matches a frame: IDE equal, the compared identifier bits equal, and RTR set for a remote frame. -/
def State.canMatch (s : State) (n f : Nat) (x : CanFrame) : Bool :=
  let k := 16 * n + f
  s.b Fl.CAN_FILTA_EN k && s.b Fl.CAN_FILTA_IDE k == x.ide && (!x.rtr || s.b Fl.CAN_FILTA_RTR k) &&
  (s.f Fl.CAN_FILTA_ID k ^^^ x.id) &&& s.f Fl.CAN_FILTB_MASK k == 0

/-- The filter that accepts a frame: none where none of the enabled filters matches. With no filter enabled every
frame is accepted, and the manual names no matching filter: a free value. -/
def canAccept (n : Nat) (x : CanFrame) (s : State) : Option Nat × State :=
  if (List.range 16).any fun f => s.b Fl.CAN_FILTA_EN (16 * n + f) then
    ((List.range 16).find? fun f => s.canMatch n f x, s)
  else let d := s.draw; (some (d.1 % 32), d.2)

/-- An accepted frame enters the ring; with every entry owned by software it is lost with RXOVF. -/
def canStore (n : Nat) (x : CanFrame) (s : State) : State :=
  let r := canAccept n x s
  match r.1 with
  | none => s
  | some f =>
    let s := r.2
    let k := s.f Fl.CAN_RXSTAT_COUNT n
    if 32 ≤ k then canCause 2 n (s.satF Fl.CAN_ERR_RXLOST n 1) else
    let i := (s.can n).rxNext
    let base := (n * 32 + i) * 20
    let put (w v : Nat) (s : State) : State := s.setReg R.CAN_RXRING (base + w) (BitVec.ofNat 32 v)
    let s := put 0 (x.id % 2 ^ 29 + 2 ^ 29 * b2n x.ide + 2 ^ 30 * b2n x.rtr + 2 ^ 31 * b2n x.fdf) s
    let s := put 1 (x.dlc % 16 + 16 * b2n x.brs + 32 * b2n x.esi + 256 * f) s
    let s := put 3 0 (put 2 s.eventTime.toNat s)
    let s := s.each 16 fun w s => put (4 + w) (leNat ((x.data.drop (4 * w)).take 4)) s
    let s := s.setCan n fun c => { c with rxNext := (i + 1) % 32 }
    canCause 1 n (s.setF Fl.CAN_RXSTAT_COUNT n (k + 1))

/-- The bit-rate search adopts the set under test: NBT takes it, normal mode, cause RATE (R547). -/
def canAdopt (n : Nat) (s : State) : State :=
  match (s.can n).search with
  | none => s
  | some (k, _) =>
    let s := s.setReg R.CAN_NBT n (s.reg R.CAN_NSET (4 * n + k)) |>.setF Fl.CAN_CTL_MODE n 0
    canNext n (canCause 6 n (s.setCan n fun c => { c with search := none }))

/-- A received data or remote frame is valid: REC falls, the search adopts its set, the frame is stored. -/
def canReceive (n : Nat) (x : CanFrame) (s : State) : State :=
  if 8 ≤ n || s.canState n = 0 || !(s.can n).joined || s.f Fl.CAN_STAT_FCS n = 2 then s else
  let rec_ := s.f Fl.CAN_ERR_REC n
  let d := s.draw
  let s := if 127 < rec_ then canCounters n (s.f Fl.CAN_ERR_TEC n) (119 + d.1 % 9) d.2
    else canCounters n (s.f Fl.CAN_ERR_TEC n) (rec_ - 1) s
  canStore n x (canAdopt n s)

/-- Software returns the oldest entries, at most those it owns (R553). -/
def canRxReturn (n cnt : Nat) (s : State) : State :=
  if 8 ≤ n then s else
  let k := s.f Fl.CAN_RXSTAT_COUNT n
  let c := min k (cnt % 64)
  s.setF Fl.CAN_RXSTAT_COUNT n (k - c) |>.setF Fl.CAN_RXSTAT_NEXT n ((s.f Fl.CAN_RXSTAT_NEXT n + c) % 32)

/-- Reading the second TXEV word removes the head of the event FIFO (R549). -/
def canEventRead (n : Nat) (s : State) : State :=
  if 8 ≤ n then s else
  ({ s with readData := s.reg R.CAN_TXEVB n }).setCan n fun c => { c with events := c.events.drop 1 }

/-! ### The end of an attempt (R546, R549, R551, R554) -/

/-- The data bytes of a data length code. -/
def dlcBytes (dlc : Nat) : Nat := [0, 1, 2, 3, 4, 5, 6, 7, 8, 12, 16, 20, 24, 32, 48, 64].getD dlc 8

/-- The frame of an entry, as the bus carries it. -/
def State.canFrameOf (s : State) (n : Nat) (e : CanEntry) : CanFrame :=
  let fdf := bitOf e.hdr.toNat 31 && !bitOf e.hdr.toNat 30
  let rtr := bitOf e.hdr.toNat 30
  let dlc := bitsOf e.hdr2 0 4
  let len := if rtr then 0 else if fdf then dlcBytes dlc else min 8 dlc
  { fdf := fdf, rtr := rtr, ide := bitOf e.hdr.toNat 29, brs := fdf && bitOf e.hdr2.toNat 8
    esi := fdf && s.f Fl.CAN_STAT_FCS n == 1, id := bitsOf e.hdr 0 29, dlc := dlc
    data := (e.data.flatMap fun w => leBytes 4 w.toNat).take len }

/-- The loop delay measured in a BRS frame with TDCEN: a value of the board, capped at 127 with TDCSAT (R546). -/
def canTdc (n : Nat) (x : CanFrame) (s : State) : State :=
  if !x.brs || !s.b Fl.CAN_CTL_TDCEN n then s else
  let d := s.draw
  (d.2.setF Fl.CAN_TDC_TDCV n (min 127 d.1)).when (127 < d.1) (canSub 2 n)

/-- An attempt of the head frame ends. -/
def canTxEnd (n : Nat) (r : CanTxResult) (s : State) : State :=
  if 8 ≤ n then s else
  match (s.can n).queue, (s.can n).wire with
  | e :: rest, some _ =>
    let x := s.canFrameOf n e
    let retry (s : State) : State :=
      s.setCan n fun c => { c with queue := { e with late := e.late || e.launches } :: rest, wire := none }
    match r with
    | .sent =>
      let s := canTdc n x s
      let s := canPop n 0 s
      let s := canCounters n (s.f Fl.CAN_ERR_TEC n - 1) (s.f Fl.CAN_ERR_REC n) s
      canNext n (s.when (s.f Fl.CAN_CTL_MODE n == 3) (canStore n x))
    | .lostArbitration =>
      canNext n (if e.aborting then canPop n 3 s else if e.oneShot then canPop n 1 s else retry s)
    | .error lec =>
      let tec := s.f Fl.CAN_ERR_TEC n
      let s := s.setF Fl.CAN_STAT_LEC n lec
      let keep := lec == 3 && s.f Fl.CAN_STAT_FCS n == 1
      let s := if e.aborting then canPop n 3 s else if e.oneShot then canPop n 2 s else retry s
      canNext n (canCounters n (if keep then tec else tec + 8) (s.f Fl.CAN_ERR_REC n) s)
  | _, _ => s

/-! ### Enabling and the bit-rate search (R547, R555) -/

/-- The first used nominal set from index `k` on. -/
def State.nextSet (s : State) (n k : Nat) : Option Nat :=
  ((List.range 4).filter fun i => k ≤ i).find? fun i => s.reg R.CAN_NSET (4 * n + i) != 0

/-- A controller starts; with ABD.EN it searches its bit rate from NSET0 on. -/
def canStart (n : Nat) (s : State) : State :=
  let search := if s.b Fl.CAN_ABD_EN n then some ((s.nextSet n 0).getD 0, 0) else none
  (s.setF Fl.CAN_STAT_STATE n 1).setCan n fun c => { c with joined := false, wire := none, search := search, noRate := false }

/-- Setting EN starts a controller that is off, or is recorded as pending while it is stopping. -/
def canEnable (n : Nat) (s : State) : State :=
  if 8 ≤ n then s else
  let s := s.setB Fl.CAN_CTL_EN n true
  match s.canState n with
  | 0 => if 1 < s.f Fl.SYS_PWRSTAT_STATE then s else canStart n s
  | 2 => s.setF Fl.CAN_STAT_STATE n 3
  | _ => s

/-- Clearing EN lets the frame on the wire end. -/
def canDisable (n : Nat) (s : State) : State :=
  if 8 ≤ n then s else
  let s := s.setB Fl.CAN_CTL_EN n false
  match s.canState n with
  | 1 => s.setF Fl.CAN_STAT_STATE n 2
  | 3 => s.setF Fl.CAN_STAT_STATE n 2
  | _ => s

/-- The stopping controller ends: every queued entry completes with status 3; receive entries are kept. -/
def canStop (n : Nat) (s : State) : State :=
  if 8 ≤ n || s.canState n < 2 then s else
  let s := s.each (s.can n).queue.length fun _ s => canPop n 3 s
  let pend := s.canState n = 3
  let s := (s.setF Fl.CAN_STAT_STATE n 0).setCan n fun c =>
    { c with joined := false, wire := none, search := none, noRate := false }
  if pend then canStart n s else s

/-- Every controller stops at once. -/
def canHalt (s : State) : State :=
  s.each 8 fun n s => if s.canState n = 0 then s else
    canStop n (s.setB Fl.CAN_CTL_EN n false |>.setF Fl.CAN_STAT_STATE n 2)

/-- 11 recessive bits: the controller joins the bus. -/
def canJoin (n : Nat) (s : State) : State :=
  if 8 ≤ n || s.canState n != 1 then s else canNext n (s.setCan n fun c => { c with joined := true })

/-- A search window ends: a frame received without error adopts its set; else the next used set is tried, and after
ABDPASS passes the controller stays listen-only on NSET0 with NORATE (R547). -/
def abdWindowEnd (n framesOk : Nat) (s : State) : State :=
  match (s.can n).search with
  | none => s
  | some (k, p) =>
    if framesOk != 0 then canAdopt n s else
    match s.nextSet n (k + 1) with
    | some j => s.setCan n fun c => { c with search := some (j, p) }
    | none =>
      if p + 1 < max 1 (s.f Fl.CAN_ABD_ABDPASS n) then
        s.setCan n fun c => { c with search := some ((s.nextSet n 0).getD 0, p + 1) }
      else
        let s := s.setReg R.CAN_NBT n (s.reg R.CAN_NSET (4 * n)) |>.setF Fl.CAN_CTL_MODE n 1
        canSub 5 n (s.setCan n fun c => { c with search := none, noRate := true })

/-- The wake-up pattern on a controller whose WAKEEN is 1, in Slack or Stow (R556, R42). -/
def canWake (n : Nat) (s : State) : State :=
  if n < 8 && s.b Fl.CAN_CTL_WAKEEN n && 2 ≤ s.f Fl.SYS_PWRSTAT_STATE then s.wake 4 else s

end Sys2Proof.Machine
end

