-- ==== Sys2Proof/Machine/Ethernet.lean ====
section
/-! DEFINITION. The Ethernet MACs: rings, filters, PAUSE, MDIO and stopping (R603 to R611). -/

namespace Sys2Proof.Machine

/-- A PTP event frame on an Ethernet port is captured: EtherType 0x88F7, messageType in the low four bits of the first
byte of the PTP header (PRESUMED: the header layout of IEEE 1588). -/
def ptpCapture (m : Nat) (sent : Bool) (frame : List Byte) (s : State) : State :=
  let o := if (frame.drop 12).take 2 == [0x81, 0x00] then 16 else 12
  if (frame.drop o).take 2 != [0x88, 0xF7] then s else
  let p := frame.drop (o + 2)
  let b (i : Nat) : Nat := (p.getD i 0).toNat
  stampCapture m sent (b 0 % 16) (256 * b 30 + b 31) (b 4) s

/-- A cause of MAC `m`: any enabled one raises event 125 (R611). -/
def ethCause (j m : Nat) (s : State) : State := s.causeOn Fl.ETH_STAT_CAUSE Fl.ETH_CTL_EVEN m j 125

/-- MAC `m` beside its registers. -/
def State.mac (s : State) (m : Nat) : EthMac := s.eth.toList.getD m {}

/-- Changes MAC `m` beside its registers. -/
def State.setMac (s : State) (m : Nat) (f : EthMac → EthMac) : State :=
  { s with eth := s.eth.setIfInBounds m (f (s.mac m)) }

/-- State of a MAC: 0 off, 1 running, 2 stopping, 3 enable pending. -/
def State.macState (s : State) (m : Nat) : Nat := s.f Fl.ETH_STAT_STATE m

/-! ### Transmission (R606) -/

/-- Address of descriptor `i` of ring `r` of MAC `m`. -/
def State.txDesc (s : State) (m r i : Nat) : Nat := s.f Fl.ETH_TXBASE_BASE (2 * m + r) * 512 + 16 * i

/-- The head of a ring is a descriptor handed over whose OWN is set. -/
def State.txReady (s : State) (m r : Nat) : Bool :=
  let h := s.f Fl.ETH_TXHEAD_HEAD (2 * m + r)
  h != s.f Fl.ETH_TXTAIL_TAIL (2 * m + r) && (s.word (s.txDesc m r h + 4)).toNat.testBit 31

/-- Completes the descriptor at the head of a ring: word 3, OWN cleared, TXHEAD advanced. -/
def txComplete (m r : Nat) (late err : Bool) (s : State) : State :=
  let k := 2 * m + r
  let h := s.f Fl.ETH_TXHEAD_HEAD k
  let d := s.txDesc m r h
  let s := s.dmaWord (d + 12) (BitVec.ofNat 32 (2 ^ 31 + 2 * b2n late + b2n err))
  let s := s.dmaWord (d + 4) (s.word (d + 4) &&& 0x7FFFFFFF)
  s.setF Fl.ETH_TXHEAD_HEAD k ((h + 1) % 32)

/-- A frame with a length out of range completes with ERR and is not sent. -/
def State.txLenOk (s : State) (m r : Nat) : Bool :=
  let n := (s.word (s.txDesc m r (s.f Fl.ETH_TXHEAD_HEAD (2 * m + r)) + 4)).toNat % 2048
  14 ≤ n && n ≤ 1518

/-- Nanoseconds until the launch time of the head of a ring; none where LAUNCH is 0 (R536). -/
def State.txWait (s : State) (m r : Nat) : Option Int :=
  let d := s.txDesc m r (s.f Fl.ETH_TXHEAD_HEAD (2 * m + r))
  if (s.word (d + 4)).toNat.testBit 16 then some ((s.word (d + 8)) - s.eventTime).toInt else none

/-- Nanoseconds a frame of `n` bytes takes at the present speed, with start, padding, FCS and gap. -/
def State.wireNs (s : State) (m n : Nat) : Nat :=
  (max n 60 + 24) * 8 * (match s.f Fl.ETH_CFG_SPEED m with | 0 => 100 | 1 => 10 | _ => 1)

/-- The head of a ring may start: it is ready, of a valid length, and its launch time, if any, is not ahead. -/
def State.txDue (s : State) (m r : Nat) : Bool :=
  s.txReady m r && s.txLenOk m r && (match s.txWait m r with | none => true | some w => decide (w ≤ 0))

/-- Ring 1 may start a frame: no PAUSE holds it, ring 0 has none to start, and the frame ends before the launch time
of a waiting head of ring 0. -/
def State.ring1Free (s : State) (m : Nat) : Bool :=
  let d := s.txDesc m 1 (s.f Fl.ETH_TXHEAD_HEAD (2 * m + 1))
  let n := (s.word (d + 4)).toNat % 2048
  !(s.mac m).paused && !s.txDue m 0 &&
  (!s.txReady m 0 || (match s.txWait m 0 with | none => true | some w => decide ((s.wireNs m n : Int) < w)))

/-- A frame starts on the wire; late where its launch time has gone by (R536). -/
def txStart (m r : Nat) (s : State) : State :=
  let late := match s.txWait m r with
    | none => false
    | some w => decide (w < 0) || (s.mac m).late.contains r
  let s := s.setMac m fun x => { x with wire := some (r, late), late := x.late.filter (· != r) }
  s.when late (ethCause 3 m)

/-- An idle MAC starts the next frame (R606). -/
def txNext (m : Nat) (s : State) : State :=
  if s.macState m != 1 || (s.mac m).wire.isSome then s
  else if s.txDue m 0 then txStart m 0 s
  else if s.txDue m 1 && s.ring1Free m then txStart m 1 s
  else s

/-- The launch time of the head of a ring arrives: an idle MAC starts it, a busy one leaves it late (R536). -/
def txLaunch (m r : Nat) (s : State) : State :=
  if s.macState m != 1 || !s.txDue m r || (s.txWait m r).isNone then s
  else match (s.mac m).wire with
    | none => if r == 0 || s.ring1Free m then txStart m r s
        else s.setMac m fun x => { x with late := r :: x.late.filter (· != r) }
    | some (q, _) => if q == r then s else s.setMac m fun x => { x with late := r :: x.late.filter (· != r) }

/-- Writing TXTAIL hands descriptors to the MAC. -/
def txTail (m r tail : Nat) (s : State) : State :=
  if 2 ≤ m || 2 ≤ r then s else txNext m (s.setF Fl.ETH_TXTAIL_TAIL (2 * m + r) (tail % 32))

/-- The frame of a ring has been sent, or is refused for its length. A transmitted PTP event frame is captured
with its tag (R534). -/
def ethTxComplete (m r : Nat) (s : State) : State :=
  if 2 ≤ m || 2 ≤ r || s.macState m = 0 || !s.txReady m r then s
  else if !s.txLenOk m r then
    if s.macState m != 1 then s else txNext m (ethCause 7 m (txComplete m r false true s))
  else match (s.mac m).wire with
    | some (q, late) =>
      if q != r then s else
      let d := s.txDesc m r (s.f Fl.ETH_TXHEAD_HEAD (2 * m + r))
      let frame := s.bytes (s.word d).toNat ((s.word (d + 4)).toNat % 2048)
      let s := s.setMac m fun x => { x with wire := none }
      let s := ptpCapture m true frame s
      txNext m (ethCause 0 m (txComplete m r late false (s.addF Fl.ETH_TXFRM_N m 1)))
    | none => s

/-- Setting EN starts a MAC that is off, or is recorded as pending while it is stopping (R610). -/
def ethEnable (m : Nat) (s : State) : State :=
  if 2 ≤ m then s else
  let s := s.setB Fl.ETH_CTL_EN m true
  match s.macState m with
  | 0 => if 1 < s.f Fl.SYS_PWRSTAT_STATE then s else txNext m (s.setF Fl.ETH_STAT_STATE m 1)
  | 2 => s.setF Fl.ETH_STAT_STATE m 3
  | _ => s

/-- Clearing EN moves a running MAC to stopping (R610). -/
def ethDisable (m : Nat) (s : State) : State :=
  if 2 ≤ m then s else
  let s := s.setB Fl.ETH_CTL_EN m false
  match s.macState m with
  | 1 => s.setF Fl.ETH_STAT_STATE m 2
  | 3 => s.setF Fl.ETH_STAT_STATE m 2
  | _ => s

/-- The stopping MAC ends: what it still owns completes with ERR; it is off, or starts again where an enable is
pending (R610). -/
def ethStop (m : Nat) (s : State) : State :=
  if 2 ≤ m || s.macState m < 2 then s else
  let s := s.each 2 fun r s => s.each 32 fun _ s => s.when (s.txReady m r) (txComplete m r false true)
  let s := s.setMac m fun x => { x with paused := false, late := [], wire := none }
  txNext m (s.setF Fl.ETH_STAT_STATE m (if s.macState m = 3 then 1 else 0))

/-- Both MACs stop at once, RGMII idle, received entries kept (R610). -/
def ethHalt (s : State) : State :=
  s.each 2 fun m s => if s.macState m = 0 then s else
    ethStop m (s.setB Fl.ETH_CTL_EN m false |>.setF Fl.ETH_STAT_STATE m 2)

/-! ### Reception (R607 to R609) -/

/-- A six-byte address held in two registers, byte 0 lowest. -/
def addrBytes (lo hi : Word) : List Byte := leBytes 4 lo.toNat ++ leBytes 2 hi.toNat

/-- The filter that accepts a destination: 0 own, 1 broadcast, 2 multicast entry, 3 PTP, 4 promiscuous. -/
def State.ethFilter (s : State) (m : Nat) (dst : List Byte) : Option Nat :=
  if dst == addrBytes (s.reg R.ETH_ADDRL m) (s.reg R.ETH_ADDRH m) then some 0
  else if dst == List.replicate 6 0xFF then some 1
  else if (List.range 16).any fun i => s.b Fl.ETH_MCASTB_EN (16 * m + i) &&
      dst == addrBytes (s.reg R.ETH_MCASTA (16 * m + i)) (BitVec.ofNat 32 (s.f Fl.ETH_MCASTB_ADDR (16 * m + i))) then some 2
  else if s.b Fl.ETH_CTL_PTPEN m && (dst == [0x01, 0x1B, 0x19, 0, 0, 0] || dst == [0x01, 0x80, 0xC2, 0, 0, 0x0E]) then
    some 3
  else if s.b Fl.ETH_CTL_PROMISC m then some 4
  else none

/-- A PAUSE frame of IEEE 802.3: MAC control, opcode 1. -/
def isPause (f : List Byte) : Bool :=
  (f.drop 12).take 2 == [0x88, 0x08] && (f.drop 14).take 2 == [0x00, 0x01]

/-- A received PAUSE frame holds ring 1 while RXPAUSE is 1; a quanta of 0 frees it (R609). -/
def ethPause (m quanta : Nat) (s : State) : State :=
  if 2 ≤ m || s.macState m = 0 || !s.b Fl.ETH_CTL_RXPAUSE m then s
  else ethCause 5 m (s.setMac m fun x => { x with paused := quanta != 0 })

/-- The pause time ends. -/
def ethPauseEnd (m : Nat) (s : State) : State := txNext m (s.setMac m fun x => { x with paused := false })

/-- A frame arrives, its FCS removed. -/
def ethReceive (m : Nat) (frame : List Byte) (fcsOk : Bool) (s : State) : State :=
  if 2 ≤ m || s.macState m != 1 then s
  else if 1518 < frame.length then s.addF Fl.ETH_RXLONG_N m 1
  else if !fcsOk then s.addF Fl.ETH_RXFCS_N m 1
  else if isPause frame then s
  else
    match s.ethFilter m (frame.take 6) with
    | none => s
    | some flt =>
      let n := s.f Fl.ETH_RXSTAT_COUNT m
      if 64 ≤ n then ethCause 2 m (s.addF Fl.ETH_RXLOST_N m 1) else
      let before := (s.fifo m).length
      let s := ptpCapture m false frame s
      let ev := (s.fifo m).length != before
      let vlan := (frame.drop 12).take 2 == [0x81, 0x00]
      let i := (s.mac m).rxNext
      let at_ := s.f Fl.ETH_RXBASE_BASE m * 2048 + 2048 * i
      let w := frame.length + 4096 * flt + 65536 * b2n vlan + 131072 * b2n ev
      let s := s.dma at_ (leBytes 4 w ++ leBytes 4 0 ++ frame)
      let s := s.setMac m fun x => { x with rxNext := (i + 1) % 64 }
      ethCause 1 m ((s.setF Fl.ETH_RXSTAT_COUNT m (n + 1)).addF Fl.ETH_RXFRM_N m 1)

/-- Software returns the oldest entries. -/
def rxReturn (m cnt : Nat) (s : State) : State :=
  if 2 ≤ m then s else
  let n := s.f Fl.ETH_RXSTAT_COUNT m
  let c := min n (cnt % 128)
  s.setF Fl.ETH_RXSTAT_COUNT m (n - c) |>.setF Fl.ETH_RXSTAT_NEXT m ((s.f Fl.ETH_RXSTAT_NEXT m + c) % 64)

/-! ### MDIO and configuration (R604, R605) -/

/-- GO starts a transaction; it is ignored while one is in progress. -/
def mdioGo (m : Nat) (v : Word) (s : State) : State :=
  if 2 ≤ m || s.b Fl.ETH_MDIOSTAT_BUSY m then s else
  let s := plainWrite R.ETH_MDIO m v s
  if !v.toNat.testBit 31 then s
  else (s.setB Fl.ETH_MDIOSTAT_BUSY m true).setMac m fun x => { x with mdio := some v }

/-- A transaction ends: a read leaves its data, cause MDIODONE. -/
def mdioDone (m : Nat) (data : BitVec 16) (s : State) : State :=
  match (s.mac m).mdio with
  | none => s
  | some v =>
    let s := (s.setB Fl.ETH_MDIOSTAT_BUSY m false).setMac m fun x => { x with mdio := none }
    let s := if bitsOf v 28 2 = 2 then s.setF Fl.ETH_MDIO_DATA m data.toNat else s
    ethCause 4 m s

/-- A write of CFG: SPEED changes only while EN is 0, else cause CFGERR and the write is refused. -/
def ethConfig (m : Nat) (v : Word) (s : State) : State :=
  if 2 ≤ m then s
  else if s.b Fl.ETH_CTL_EN m && bitsOf v 0 2 != s.f Fl.ETH_CFG_SPEED m then ethCause 6 m s
  else plainWrite R.ETH_CFG m v s

end Sys2Proof.Machine
end

