-- ==== Sys2Proof/Machine/CanCommands.lean ====
section
/-! DEFINITION. The commands of the CAN FD controllers and the timed launch of frames (R536, R543 to R557). -/

namespace Sys2Proof.Machine

def execCanEnable (n : Nat) (s : State) : Out := done (canEnable n s)
def execCanDisable (n : Nat) (s : State) : Out := done (canDisable n s)
def execCanStopComplete (n : Nat) (s : State) : Out := done (canStop n s)
def execCanBusJoin (n : Nat) (s : State) : Out := done (canJoin n s)
def execCanRecover (n : Nat) (s : State) : Out := done (canRecover n s)
def execCanAbort (n : Nat) (s : State) : Out := done (canAbort n s)
def execCanAbortAll (n : Nat) (s : State) : Out := done (canAbortAll n s)
def execCanPush (n : Nat) (s : State) : Out := done (canPush n s)
def execCanRxReturn (n cnt : Nat) (s : State) : Out := done (canRxReturn n cnt s)
def execCanTxEventRead (n : Nat) (s : State) : Out := done (canEventRead n s)
def execCanTimingWrite (n reg : Nat) (v : Word) (s : State) : Out := done (timingWrite n reg v s)
def execCanFrameReceived (n : Nat) (f : CanFrame) (s : State) : Out := done (canReceive n f s)
def execCanTxComplete (n : Nat) (r : CanTxResult) (s : State) : Out := done (canTxEnd n r s)
def execCanRecoveryComplete (n : Nat) (s : State) : Out := done (canRecovered n s)
def execAbdWindowEnd (n framesOk _framesBad : Nat) (s : State) : Out := done (abdWindowEnd n framesOk s)
def execCanWakePattern (n : Nat) (s : State) : Out := done (canWake n s)
def execCanRxError (n lec : Nat) (s : State) : Out := done (canRxError n lec s)

/-- The launch time of a waiting frame arrives (R536): source 0 to 3 is ring `src % 2` of MAC `src / 2`, 4 to 11 is
CAN controller `src - 4`. -/
def execLaunchTimeReached (src : Nat) (s : State) : Out :=
  done (if src < 4 then txLaunch (src / 2) (src % 2) s else if src < 12 then canLaunch (src - 4) s else s)

/-- A write to a register of a CAN controller that does more than its access codes say (R557). -/
def canWrite (r : Rg) (i : Nat) (v : Word) (s : State) : Option State :=
  if r = R.CAN_CTL then
    let en := s.b Fl.CAN_CTL_EN i
    let s := (plainWrite r i v s).setB Fl.CAN_CTL_EN i en
    let s := if v.toNat.testBit 31 then (if en then s else canEnable i s) else if en then canDisable i s else s
    let s := s.when (v.toNat.testBit 25) (canRecover i)
    some (if v.toNat.testBit 23 then canAbortAll i s else s.when (v.toNat.testBit 24) (canAbort i))
  else if r = R.CAN_NBT then some (timingWrite i 0 v s)
  else if r = R.CAN_DBT then some (timingWrite i 1 v s)
  else if r = R.CAN_NSET then some (timingWrite (i / 4) (2 + i % 4) v s)
  else if r = R.CAN_TXPUSH then some (s.when (v.toNat.testBit 0) (canPush i))
  else if r = R.CAN_RXACK then some (canRxReturn i v.toNat s)
  else none

end Sys2Proof.Machine
end

