-- ==== Sys2Proof/Machine/Deckline.lean ====
section
/-! DEFINITION. Deckline: mains timing, slots and the beacon, tone maps, frames and segments, repeats, joining and
routes (R558 to R577). -/

namespace Sys2Proof.Machine

/-- A cause of the DKL block: any enabled one raises event 124 (R577). -/
def dklCause (j : Nat) (s : State) : State := s.causeOn Fl.DKL_STAT_CAUSE Fl.DKL_CTL_EVEN 0 j 124

/-- State of the block: 0 off, 1 running, 2 stopping, 3 enable pending. -/
def State.dklState (s : State) : Nat := s.f Fl.DKL_STAT_STATE

/-- The link of node `n`. -/
def State.link (s : State) (n : Nat) : DklLink := s.dkl.links.toList.getD n {}

/-- Changes the link of node `n`. -/
def State.setLink (s : State) (n : Nat) (f : DklLink → DklLink) : State :=
  { s with dkl.links := s.dkl.links.setIfInBounds n (f (s.link n)) }

/-- State of node `n`, 1 to 62: 0 free, 1 pending, 2 joined, 3 lost. -/
def State.node (s : State) (n : Nat) : Nat := if 1 ≤ n && n ≤ 62 then s.f Fl.DKL_NODEC_STATE (n - 1) else 0

/-- Sets the state of node `n`. -/
def setNode (n st : Nat) (s : State) : State := s.setF Fl.DKL_NODEC_STATE (n - 1) st

/-- The nodes in a state, ascending. -/
def State.nodesIn (s : State) (st : Nat) : List Nat := ((List.range 62).map (· + 1)).filter fun n => s.node n == st

/-! ### Tone maps (R564, R566, R567) -/

/-- A map as its register words hold it: carriers 3 to 18, then 19 to 24, two bits each. -/
def mapCodes (a b : Word) : List Nat :=
  ((List.range 16).map fun i => bitsOf a (2 * i) 2) ++ (List.range 6).map fun i => bitsOf b (2 * i) 2

/-- Two-bit codes packed from the low end. -/
def packCodes (l : List Nat) : Nat := l.foldr (fun c n => c % 4 + 4 * n) 0

/-- The transmit map of a slot to node `n`; the receive map from it. -/
def State.txMap (s : State) (n i : Nat) : List Nat := mapCodes (s.reg R.DKL_TXMAPA (8 * n + i)) (s.reg R.DKL_TXMAPB (8 * n + i))
def State.rxMap (s : State) (n i : Nat) : List Nat := mapCodes (s.reg R.DKL_RXMAPA (8 * n + i)) (s.reg R.DKL_RXMAPB (8 * n + i))

/-- Stores a transmit map; a receive map. -/
def setTxMap (n i : Nat) (m : List Nat) (s : State) : State :=
  s.setReg R.DKL_TXMAPA (8 * n + i) (BitVec.ofNat 32 (packCodes (m.take 16)))
    |>.setReg R.DKL_TXMAPB (8 * n + i) (BitVec.ofNat 32 (packCodes ((m.drop 16).take 6)))
def setRxMap (n i : Nat) (m : List Nat) (s : State) : State :=
  s.setReg R.DKL_RXMAPA (8 * n + i) (BitVec.ofNat 32 (packCodes (m.take 16)))
    |>.setReg R.DKL_RXMAPB (8 * n + i) (BitVec.ofNat 32 (packCodes ((m.drop 16).take 6)))

/-- B: the bits of a map (R564). -/
def mapBits (m : List Nat) : Nat := m.foldl (· + ·) 0

/-- Every carrier one code down (R567). -/
def degrade (m : List Nat) : List Nat := m.map (· - 1)

/-- Symbols per slot in the present mains class. -/
def State.symbols (s : State) : Nat := match s.f Fl.DKL_STAT_MCLASS with | 1 => 4 | 2 => 3 | _ => 0

/-- Data symbols of a slot: slot 0 carries the beacon as well. -/
def State.dataSymbols (s : State) (i : Nat) : Nat := if i = 0 then s.symbols - 1 else s.symbols

/-- A slot is enabled (R564). -/
def State.slotOn (s : State) (i : Nat) : Bool := bitOf (s.f Fl.DKL_CFG_SLOTEN) i

/-- U from C, bytes. -/
def dataCapacity (c : Nat) : Nat := 4 * ((c - 4) / 4)

/-- U of a slot toward node `n`; 0 where the slot carries no segment. -/
def State.slotCapacity (s : State) (n i : Nat) : Nat :=
  if s.slotOn i then dataCapacity (s.dataSymbols i * mapBits (s.txMap n i) / 12) else 0

/-- U of the one segment of a half-cycle in robust mode: BPSK on all 22 carriers at rate 1/2. -/
def State.robustCapacity (s : State) : Nat :=
  dataCapacity (((List.range 8).foldl (fun n i => if s.slotOn i then n + s.dataSymbols i else n) 0) * 22 / 16)

/-- The link's maps hold no usable slot in the transmit direction. -/
def State.noSlot (s : State) (n : Nat) : Bool := (List.range 8).all fun i => s.slotCapacity n i == 0

/-! ### Completions (R577) -/

/-- Shows the queue, the completions and their head. -/
def showDkl (s : State) : State :=
  let s := s.setF Fl.DKL_TXSTAT_QCOUNT 0 (s.dkl.tx.filter fun x : DklTx => x.tag.isSome).length
    |>.setF Fl.DKL_TXSTAT_EVCOUNT 0 (min 31 s.dkl.events.length)
  match s.dkl.events with
  | [] => s.setReg R.DKL_TXEV 0 0
  | e :: _ => (s.setReg R.DKL_TXEV 0 0).setF Fl.DKL_TXEV_TAG 0 e.tag |>.setF Fl.DKL_TXEV_STATUS 0 e.status
      |>.setF Fl.DKL_TXEV_DST 0 e.dst

/-- A frame ends: a program's frame leaves a completion, TXDONE with status 0 and TXFAIL with any other. -/
def dklEvent (x : DklTx) (status : Nat) (s : State) : State :=
  match x.tag with
  | none => s
  | some t =>
    dklCause (if status = 0 then 1 else 2)
      (showDkl { s with dkl.events := s.dkl.events ++ [{ tag := t, status := status, dst := x.dst }] })

/-- Removes a frame from the send list. -/
def dropTx (x : DklTx) (s : State) : State := showDkl { s with dkl.tx := s.dkl.tx.erase x, dkl.current := none }

/-- Every frame in the list fails with a status where a test holds. -/
def failTx (p : DklTx → Bool) (status : Nat) (s : State) : State :=
  s.eachOf (s.dkl.tx.filter p) fun x s => dklEvent x status (dropTx x s)

/-! ### Frames (R566, R569) -/

/-- Queues a frame toward a node, on its route; source 0 is the coordinator. -/
def queueTx (src dst kind : Nat) (tag : Option Nat) (payload : List Byte) (s : State) : State :=
  let next := if dst = 63 then 63 else (s.link dst).route.headD dst
  let q := (s.link next).fseq
  let h := leBytes 1 (s.f Fl.DKL_CFG_NETID) ++ leBytes 1 dst ++ leBytes 1 src ++ leBytes 1 next ++ leBytes 1 kind ++
    leBytes 1 q ++ leBytes 2 payload.length ++ payload
  let b := h ++ leBytes 4 (crc32 h).toNat
  let x : DklTx :=
    { dst := dst, next := next, kind := kind, fseq := q, tag := tag, bytes := b
      units := List.replicate (ceilDiv b.length 4) (.unsent, 0) }
  showDkl ({ s with dkl.tx := s.dkl.tx ++ [x] }.setLink next fun l => { l with fseq := (q + 1) % 256 })

/-- The block's own frames whose payload layout the manual does not give: SOUND and ASSIGN. -/
def queueOwn (dst kind : Nat) (args : List Nat) (s : State) : State :=
  queueTx 0 dst kind none ((Config.decklinePayload kind args).take 240) s

/-- Payload of an ACK (R571). -/
def State.ackPayload (s : State) (n fseq : Nat) : List Byte :=
  let l := s.link n
  let bits := match l.rx with | some (f, u) => if f = fseq then u else [] | none => []
  let done := l.last == some fseq
  let m := (List.range 63).foldl (fun v i => if done || bits.contains i then setBit v i else v) 0
  leBytes 1 fseq ++ leBytes 8 m ++
  (match l.mapSlot with
    | none => leBytes 1 0xFF ++ List.replicate 6 0
    | some i => leBytes 1 i ++ leBytes 6 (packCodes (s.rxMap n i)))

/-- Queues the ACKs that are due; they go ahead of other frames. -/
def queueAcks (s : State) : State :=
  let due := s.dkl.ackDue
  s.eachOf due (fun e s =>
    let old := s.dkl.tx
    let s := queueTx 0 e.1 1 none (s.ackPayload e.1 e.2) { s with dkl.tx := [] }
    let s := { s with dkl.tx := s.dkl.tx ++ old }
    showDkl (s.setLink e.1 fun l => { l with mapSlot := none })) |> fun s => { s with dkl.ackDue := [] }

/-! ### Half-cycles and slots (R561, R562, R568, R570) -/

/-- A frame sent in robust mode. -/
def State.robustTx (s : State) (x : DklTx) : Bool := x.dst == 63 || x.kind == 2 || x.kind == 5 || s.noSlot x.next

/-- A unit that the sender sends next: lost ones and ones not yet sent; a broadcast unit twice. -/
def sendable (x : DklTx) (u : UnitState × Nat) : Bool :=
  if x.dst = 63 then u.2 < 2 else u.1 == .unsent || u.1 == .lost

/-- The units a segment carries, in order: lost ones first, then ones not yet sent. -/
def nextUnits (x : DklTx) (n : Nat) : List Nat :=
  let idx := (List.range x.units.length).filter fun i => sendable x (x.units.getD i (.acked, 0))
  let old := idx.filter fun i => (x.units.getD i (.acked, 0)).2 != 0
  let new := idx.filter fun i => (x.units.getD i (.acked, 0)).2 == 0
  if x.dst = 63 && !old.isEmpty then old.take n else (old ++ new).take n

/-- The frame that fills an own half-cycle: the first with units to send, on a link without an earlier frame. -/
def State.pickTx (s : State) : Option Nat :=
  (List.range s.dkl.tx.length).find? fun i =>
    match s.dkl.tx[i]? with
    | none => false
    | some x => !(nextUnits x 63).isEmpty && ((s.dkl.tx.take i).all fun y : DklTx => y.next != x.next || y.kind == 1)

/-- The owner of an odd half-cycle, with the JOIN bit (R568). -/
def State.chooseGrant (s : State) (h : Nat) : Nat × Bool :=
  if s.b Fl.DKL_CTL_JOINEN && h % 16 == 15 then (63, true) else
  match s.dkl.owes, s.dkl.forwards with
  | n :: _, _ => (n, false)
  | [], n :: _ => (n, false)
  | [], [] =>
    let j := s.nodesIn 2
    match j.find? fun n => s.dkl.lastGrant < n with
    | some n => (n, false)
    | none => (j.headD 0, false)

/-- The beacon (R562). -/
def beaconOf (h grant : Nat) (join : Bool) : Nat :=
  let v := h % 256 * 128 + grant % 64 * 2 + b2n join
  let c := (List.range 15).foldl (fun c i => crcBit 7 0x09 c (v.testBit (14 - i))) 0
  v * 128 + c

/-- Transmission is allowed: enabled, in a mains class, with 16 consecutive crossings within it. -/
def State.dklSends (s : State) : Bool :=
  (s.dklState == 1 || s.dklState == 2 || s.dklState == 3) && s.f Fl.DKL_STAT_MCLASS != 0 && 16 ≤ s.dkl.steady

/-- The transmit maps that wait come into use. -/
def takeMaps (s : State) : State :=
  s.each 63 fun n s =>
    match (s.link n).newMaps with
    | [] => s
    | l => (s.eachOf l fun e s => setTxMap n e.1 e.2 s).setLink n fun k => { k with newMaps := [] }

/-- A half-cycle begins. -/
def halfCycle (h : Nat) (s : State) : State :=
  let s := { s with dkl.line := none, dkl.slot := 0, dkl.current := none }
  if !s.dklSends then { s with dkl.owner := 0 } else
  if h % 2 = 0 then
    let s := queueAcks (takeMaps s)
    let g := s.chooseGrant ((h + 1) % 256)
    let ded := s.nodesIn 2
    let s := { s with dkl.grant := g.1, dkl.join := g.2, dkl.owner := 0
                      dkl.lastGrant := if s.dkl.owes.isEmpty && s.dkl.forwards.isEmpty && ded.contains g.1 then g.1
                        else s.dkl.lastGrant
                      dkl.owes := if g.2 then s.dkl.owes else s.dkl.owes.erase g.1
                      dkl.forwards := if g.2 || s.dkl.owes.contains g.1 then s.dkl.forwards else s.dkl.forwards.erase g.1 }
    { s with dkl.beacon := beaconOf h g.1 g.2, dkl.current := s.pickTx }
  else
    let s := { s with dkl.owner := s.dkl.grant, dkl.beacon := beaconOf h s.dkl.grant s.dkl.join }
    if s.dkl.grant = 0 then let s := queueAcks (takeMaps s); { s with dkl.current := s.pickTx } else s

/-- Marks units as sent once more. -/
def markSent (l : List Nat) (x : DklTx) : DklTx :=
  { x with units := (List.range x.units.length).map fun i =>
      let u := x.units.getD i (.acked, 0)
      if l.contains i then (.waiting, u.2 + 1) else u }

/-- A frame that asks for no ACK ends when all of its units have gone: an ACK or MAP frame sent once, a broadcast
sent twice. -/
def sentOut (x : DklTx) : Bool :=
  (x.dst == 63 && x.units.all fun u => 2 ≤ u.2) ||
  ((x.kind == 1 || x.kind == 3) && x.dst != 63 && x.units.all fun u => u.1 == .waiting)

/-- Slot `i` of an own half-cycle: the current frame's next segment goes onto the line. In robust mode one segment
takes all enabled slots, from the first of them on. -/
def slotStart (i : Nat) (s : State) : State :=
  let s := { s with dkl.slot := i, dkl.line := none }
  if 8 ≤ i || !s.dklSends || s.dkl.owner != 0 then s else
  match s.dkl.current.bind fun k => s.dkl.tx[k]? with
  | none => s
  | some x =>
    let robust := s.robustTx x
    let first := (List.range 8).find? fun j => s.slotOn j
    let u := if robust then (if first == some i then s.robustCapacity else 0) else s.slotCapacity x.next i
    let l := nextUnits x (u / 4)
    if l.isEmpty then s else
    let out : DklOut :=
      { slot := i, robust := robust, offset := l.headD 0, fseq := x.fseq % 16, units := l
        data := l.flatMap fun k => (x.bytes.drop (4 * k)).take 4 }
    let y := markSent l x
    let s := { s with dkl.tx := s.dkl.tx.map fun z => if z == x then y else z, dkl.line := some out }
    let s := { s with dkl.owes := if y.kind == 1 || y.kind == 3 || y.dst == 63 || s.dkl.owes.contains y.next then s.dkl.owes
                        else s.dkl.owes ++ [y.next] }
    if sentOut y then dklEvent y 0 (dropTx y s) else showDkl s

/-! ### Stopping (R576) -/

/-- The block is off: queued frames fail with status 3, the drivers are in high impedance; a pending enable starts
it again. -/
def dklOff (s : State) : State :=
  let pend := s.dklState = 3
  let s := failTx (fun _ => true) 3 s
  let s := { s with dkl.tx := [], dkl.line := none, dkl.current := none, dkl.owner := 0, dkl.owes := [], dkl.forwards := []
                    dkl.ackDue := [], dkl.steady := 0 }
  showDkl (s.setF Fl.DKL_STAT_STATE 0 (if pend then 1 else 0))

/-- Setting EN starts the block, or is recorded as pending while it is stopping. -/
def dklEnable (s : State) : State :=
  let s := s.setB Fl.DKL_CTL_EN 0 true
  match s.dklState with
  | 0 => if 1 < s.f Fl.SYS_PWRSTAT_STATE then s else s.setF Fl.DKL_STAT_STATE 0 1
  | 2 => s.setF Fl.DKL_STAT_STATE 0 3
  | _ => s

/-- Clearing EN lets the present half-cycle end; without one the block is off at once. -/
def dklDisable (s : State) : State :=
  let s := s.setB Fl.DKL_CTL_EN 0 false
  match s.dklState with
  | 1 => let t := s.setF Fl.DKL_STAT_STATE 0 2; if s.dklSends then t else dklOff t
  | 3 => s.setF Fl.DKL_STAT_STATE 0 2
  | _ => s

/-- The block stops at once. -/
def dklHalt (s : State) : State :=
  if s.dklState = 0 then s else dklOff (s.setB Fl.DKL_CTL_EN 0 false |>.setF Fl.DKL_STAT_STATE 0 2)

/-! ### Mains (R560, R561) -/

/-- The mains class of a half-cycle length, ns: 47.5 to 51.0 Hz, 57.0 to 61.0 Hz, or none. -/
def mainsClass (h : Nat) : Nat :=
  if 475 * (2 * h) ≤ 10000000000 && 10000000000 ≤ 510 * (2 * h) then 1
  else if 570 * (2 * h) ≤ 10000000000 && 10000000000 ≤ 610 * (2 * h) then 2
  else 0

/-- A change of class sets MAINS and stops transmission until 16 crossings lie within one class. -/
def takeClass (c : Nat) (s : State) : State :=
  if s.f Fl.DKL_STAT_MCLASS = c then { s with dkl.steady := if c = 0 then 0 else s.dkl.steady + 1 }
  else dklCause 7 { s.setF Fl.DKL_STAT_MCLASS 0 c with dkl.steady := if c = 0 then 0 else 1 }

/-- A mains zero crossing: H is the mean of the last 16 half-cycles, HCNT rises and is even at a rising crossing, and
the next half-cycle begins; a stopping block is off. -/
def zeroCrossing (rising : Bool) (s : State) : State :=
  if s.dklState = 0 then s
  else if 2 ≤ s.dklState then dklOff { s with dkl.cross := some s.now }
  else
    let s := match s.dkl.cross with
      | none => s
      | some t =>
        let d := s.now - t
        let h := s.f Fl.DKL_MAINS_HALF * 1000
        let s := s.satF Fl.DKL_MAINS_ZCERR 0 (if h = 0 then 0 else (d + h / 2) / h - 1)
        { s with dkl.halves := (d :: s.dkl.halves).take 16 }
    let s := { s with dkl.cross := some s.now }
    let l := s.dkl.halves
    let s := if l.length < 16 then s else
      let h := l.foldl (· + ·) 0 / 16
      takeClass (mainsClass h) (s.setF Fl.DKL_MAINS_HALF 0 (min 65535 (h / 1000)))
    let c := (s.f Fl.DKL_STAT_HCNT + 1) % 256
    let c := if (c % 2 == 0) == rising then c else (c + 1) % 256
    halfCycle c (s.setF Fl.DKL_STAT_HCNT 0 c)

/-- No crossing for 100 ms: class none, no transmission. -/
def mainsLost (s : State) : State :=
  if s.dklState = 0 then s else
  let s := takeClass 0 { s with dkl.cross := none, dkl.halves := [], dkl.line := none, dkl.current := none }
  if 2 ≤ s.dklState then dklOff s else s

/-! ### Routes (R575) -/

/-- LQ between the coordinator and node `n`: the smaller sum of B over the enabled slots; none while it is down. -/
def State.directLq (s : State) (n : Nat) : Option Nat :=
  if !(s.link n).up then none else
  let sum (f : Nat → Nat → List Nat) : Nat := (List.range 8).foldl (fun v i => if s.slotOn i then v + mapBits (f n i) else v) 0
  some (min (sum s.txMap) (sum s.rxMap))

/-- LQ between two nodes as they report it. -/
def State.nodeLq (s : State) (a b : Nat) : Option Nat :=
  let r (x y : Nat) : Option Nat := ((s.link x).heard.find? fun e => e.1 == y).map (·.2)
  match r a b, r b a with
  | some x, some y => some (min x y)
  | some x, none => some x
  | none, y => y

/-- Quality of a route over repeaters: the smallest LQ of its hops. -/
def State.routeLq (s : State) : List Nat → Nat → Option Nat
  | [], n => s.directLq n
  | [r], n => match s.directLq r, s.nodeLq r n with | some x, some y => some (min x y) | _, _ => none
  | [r, t], n =>
    match s.directLq r, s.nodeLq r t, s.nodeLq t n with
    | some x, some y, some z => some (min x (min y z))
    | _, _, _ => none
  | _, _ => none

/-- The routes to a node: direct, over one repeater, over two. -/
def State.routesTo (s : State) (n : Nat) : List (List Nat) :=
  let j := (s.nodesIn 2).filter (· != n)
  [] :: (j.map fun r => [r]) ++ j.flatMap fun r => (j.filter (· != r)).map fun t => [r, t]

/-- The route of highest quality, the first of equals in order of repeater address. -/
def State.bestRoute (s : State) (n : Nat) : Option (List Nat × Nat) :=
  (s.routesTo n).foldl (fun b r =>
    match s.routeLq r n, b with
    | none, b => b
    | some q, none => some (r, q)
    | some q, some (r0, q0) => if q0 < q then some (r, q) else some (r0, q0)) none

/-- Takes a route. -/
def takeRoute (n : Nat) (r : List Nat) (q : Nat) (s : State) : State :=
  (s.setLink n fun l => { l with route := r }).setF Fl.DKL_NODEC_NEXT (n - 1) (r.headD n)
    |>.setF Fl.DKL_NODEC_LQ (n - 1) (min 511 q)

/-- The route of a joined node is chosen again; a node with no route left is lost, and its frames fail. -/
def reroute (n : Nat) (s : State) : State :=
  if s.node n != 2 then s else
  let old := (s.link n).route
  match s.routeLq old n, s.bestRoute n with
  | some q, some (r, b) =>
    if r != old && 5 * q ≤ 4 * b then dklCause 5 (takeRoute n r b s) else takeRoute n old q s
  | none, some (r, b) => dklCause 5 (takeRoute n r b s)
  | _, none => failTx (fun x => x.dst == n) 2 (dklCause 6 (setNode n 3 s))

/-- Routes of every joined node. -/
def rerouteAll (s : State) : State := s.eachOf (s.nodesIn 2) reroute

/-! ### ACK and repeats (R571) -/

/-- A frame fails; the link to its next hop is lost, and routes are chosen again. -/
def txFailed (x : DklTx) (s : State) : State :=
  let s := dklEvent x 1 (dropTx x s)
  rerouteAll (s.setLink x.next fun l => { l with up := false })

/-- A frame has reached its next hop. A node that has taken ASSIGN is joined, and its link is sounded; a repeater
has a frame to forward. -/
def txDone (x : DklTx) (s : State) : State :=
  let s := dklEvent x 0 (dropTx x s)
  let s := if x.kind = 5 && s.node x.dst = 1 then
      reroute x.dst (queueOwn x.dst 2 [] ((setNode x.dst 2 s).setLink x.dst fun l => { l with up := true }))
    else s
  if x.next != x.dst && x.dst != 63 && !s.dkl.forwards.contains x.next then
    { s with dkl.forwards := s.dkl.forwards ++ [x.next] }
  else s

/-- Units that the sender must repeat; a unit sent five times without acknowledgement fails its frame. -/
def repeatUnits (x y : DklTx) (s : State) : State :=
  if y.units.any fun u => u.1 == .lost && 5 ≤ u.2 then txFailed x s
  else if y.units.all fun u => u.1 == .acked then txDone x s
  else { s with dkl.tx := s.dkl.tx.map fun z => if z == x then y else z }

/-- The frame to a next hop that waits for its ACK. -/
def State.waitingTx (s : State) (n : Nat) : Option DklTx :=
  s.dkl.tx.find? fun x : DklTx => x.next == n && x.kind != 1 && x.kind != 3 && x.dst != 63 && x.units.any fun u => u.2 != 0

/-- A unit after an ACK: received, or to be repeated where it has been sent. -/
def ackUnit (bitmap : List Bool) (i : Nat) (u : UnitState × Nat) : UnitState × Nat :=
  if bitmap.getD i false then (.acked, u.2)
  else if u.1 == .waiting || u.1 == .acked then (.lost, u.2)
  else u

/-- An ACK arrives: units it leaves clear are repeated; it may carry a degraded map, which is used from the next
half-cycle, and the link is sounded again (R565, R567). -/
def dklAck (src frame : Nat) (bitmap : List Bool) (degraded : Option (Nat × List Nat)) (s : State) : State :=
  if s.dklState = 0 then s else
  let s := { s with dkl.owes := s.dkl.owes.erase src }
  let s := match degraded with
    | some (i, m) =>
      if i < 8 then queueOwn src 2 [] (s.setLink src fun l => { l with newMaps := l.newMaps ++ [(i, m)] }) else s
    | none => s
  match s.waitingTx src with
  | none => s
  | some x =>
    if x.fseq != frame then s else
    repeatUnits x { x with units := (List.range x.units.length).map fun i => ackUnit bitmap i (x.units.getD i (.acked, 0)) } s

/-- No ACK within two of the sender's half-cycles: every unit sent and not acknowledged is repeated. -/
def ackTimeout (n : Nat) (s : State) : State :=
  match s.waitingTx n with
  | none => s
  | some x =>
    repeatUnits x { x with units := x.units.map fun u => if u.1 == .waiting then (UnitState.lost, u.2) else u } s

/-! ### Reception (R565, R567, R570) -/

/-- A segment arrives from a node: a failed CRC counts for its slot, and the third in a row degrades the slot's
receive map with cause DEGRADE; a passed one resets the count and records its units. -/
def segmentReceived (src : Nat) (x : DklSegment) (s : State) : State :=
  if s.dklState = 0 || src = 0 || 62 < src || 8 ≤ x.slot then s else
  let l := s.link src
  if !x.crcOk then
    let n := l.fails.getD x.slot 0 + 1
    if n < 3 then s.setLink src fun l => { l with fails := l.fails.set x.slot n }
    else
      let s := setRxMap src x.slot (degrade (s.rxMap src x.slot)) s
      dklCause 4 (s.setLink src fun l => { l with fails := l.fails.set x.slot 0, mapSlot := some x.slot })
  else
    let old := match l.rx with | some (f, u) => if f = x.frame then u else [] | none => []
    s.setLink src fun l => { l with fails := l.fails.set x.slot 0, up := true
                                    rx := some (x.frame, old ++ (x.units.map (·.1)).filter fun u => !old.contains u) }

/-- An ACK is due to a link. -/
def oweAck (n fseq : Nat) (s : State) : State :=
  if s.dkl.ackDue.contains (n, fseq) then s else { s with dkl.ackDue := s.dkl.ackDue ++ [(n, fseq)] }

/-- A complete DATA frame: one for the coordinator enters the receive ring while it owns an entry, one for another
node is forwarded, and either is acknowledged. A frame received again is only acknowledged. -/
def dataFrame (x : DklDataFrame) (s : State) : State :=
  if s.dklState = 0 || x.src = 0 || 62 < x.src then s else
  let again := (s.link x.src).last == some x.frame
  let s := oweAck x.src x.frame (s.setLink x.src fun l => { l with last := some x.frame, up := true })
  if again then s
  else if x.dst != 0 && x.dst != 63 then queueTx x.src x.dst 0 none (x.payload.take 240) s
  else
    let n := s.f Fl.DKL_RXSTAT_COUNT
    if 16 ≤ n then s else
    let i := s.dkl.rxNext
    let p := x.payload.take 240
    let ph := if s.node x.src = 0 then 0 else s.f Fl.DKL_NODEC_PHASE (x.src - 1)
    let s := s.setReg R.DKL_RXRING (64 * i) (BitVec.ofNat 32 (p.length + 65536 * ph + 16777216 * x.src))
    let s := s.each (ceilDiv p.length 4) fun w s =>
      s.setReg R.DKL_RXRING (64 * i + 1 + w) (BitVec.ofNat 32 (leNat ((p.drop (4 * w)).take 4)))
    dklCause 0 ({ s with dkl.rxNext := (i + 1) % 16 }.setF Fl.DKL_RXSTAT_COUNT 0 (n + 1))

/-- Software returns the oldest receive entries. -/
def dklRxReturn (cnt : Nat) (s : State) : State :=
  let n := s.f Fl.DKL_RXSTAT_COUNT
  let c := min n (cnt % 32)
  s.setF Fl.DKL_RXSTAT_COUNT 0 (n - c) |>.setF Fl.DKL_RXSTAT_NEXT 0 ((s.f Fl.DKL_RXSTAT_NEXT + c) % 16)

/-- The code a carrier's SNR supports, in dB (R565). -/
def snrCode (db : Nat) : Nat := if 14 ≤ db then 3 else if 9 ≤ db then 2 else if 6 ≤ db then 1 else 0

/-- A sounding from a node: the receive maps follow its SNR, and return in a MAP frame. -/
def soundFrame (src : Nat) (snr : List (List Nat)) (s : State) : State :=
  if s.dklState = 0 || s.node src != 2 then s else
  let s := s.each 8 fun i s => setRxMap src i (((snr.getD i []).take 22).map snrCode) s
  let p := (List.range 8).flatMap fun i => leBytes 6 (packCodes (s.rxMap src i))
  reroute src (queueTx 0 src 3 none p s)

/-- A MAP frame: the maps are used from the sender's next half-cycle. -/
def mapFrame (src : Nat) (maps : List (List Nat)) (s : State) : State :=
  if s.dklState = 0 || s.node src != 2 then s else
  s.setLink src fun l => { l with newMaps := (List.range 8).map fun i => (i, (maps.getD i []).take 22) }

/-- A NEIGH report: up to 8 nodes with their LQ; routes are chosen again. -/
def neighFrame (src : Nat) (l : List (Nat × Nat)) (s : State) : State :=
  if s.dklState = 0 || s.node src != 2 then s
  else rerouteAll (s.setLink src fun k => { k with heard := l.take 8, up := true })

/-! ### Joining (R572, R574) -/

/-- Phase of Δ: within T ÷ 12 of 0, T ÷ 3 or 2T ÷ 3; 0 unknown (R574). -/
def phaseOf (t d : Nat) : Nat :=
  if t = 0 then 0 else
  let d := d % t
  if 12 * d < t || 11 * t ≤ 12 * d then 1
  else if 3 * t ≤ 12 * d && 12 * d ≤ 5 * t then 2
  else if 7 * t ≤ 12 * d && 12 * d ≤ 9 * t then 3
  else 0

/-- ASSIGN goes to a pending node. -/
def assign (n : Nat) (s : State) : State :=
  if s.node n != 1 || (s.link n).approved then s
  else queueOwn n 5 [n, s.f Fl.DKL_NODEA_ID (n - 1), s.f Fl.DKL_NODEB_ID (n - 1)]
    (s.setLink n fun l => { l with approved := true })

/-- A node's entry becomes free. -/
def freeNode (n : Nat) (s : State) : State :=
  let s := failTx (fun x => x.dst == n) 2 s
  (s.setReg R.DKL_NODEA (n - 1) 0 |>.setReg R.DKL_NODEB (n - 1) 0 |>.setReg R.DKL_NODEC (n - 1) 0
    |>.setReg R.DKL_NODED (n - 1) 0).setLink n fun _ => {}

/-- A JOIN frame: a known identifier keeps its previous address where that is free, any other node takes the lowest
free one; the node is pending with cause JOIN, and approved at once with AUTOAPP. -/
def joinFrame (id previous delta : Nat) (s : State) : State :=
  if s.dklState = 0 then s else
  let all := (List.range 62).map (· + 1)
  let known := all.find? fun n => s.node n != 0 && s.q R.DKL_NODEA R.DKL_NODEB (n - 1) == id
  let prev := if 1 ≤ previous && previous ≤ 62 && s.node previous = 0 then some previous else none
  match (known.orElse fun _ => prev).orElse fun _ => all.find? fun n => s.node n == 0 with
  | none => s.satF Fl.DKL_STAT_JOINFULL 0 1
  | some n =>
    let ph := if s.b Fl.DKL_CFG_COUPLE then phaseOf (2 * s.f Fl.DKL_MAINS_HALF) delta else 0
    let s := setNode n 1 ((freeNode n s).setQ R.DKL_NODEA R.DKL_NODEB (n - 1) id)
      |>.setF Fl.DKL_NODEC_PHASE (n - 1) ph |>.setF Fl.DKL_NODED_DELTA (n - 1) delta
      |>.setF Fl.DKL_NODEC_NEXT (n - 1) n
    (dklCause 3 s).when (s.b Fl.DKL_CTL_AUTOAPP) (assign n)

/-- A pending node not approved within 10 s is dropped. -/
def joinTimeout (n : Nat) (s : State) : State :=
  if s.node n == 1 && !(s.link n).approved then freeNode n s else s

/-- APPROVE of a pending node. -/
def nodeApprove (n : Nat) (s : State) : State := if s.dklState = 0 then s else assign n s

/-- MAPPER seconds have passed on a link: it is sounded again. -/
def soundingDue (n : Nat) (s : State) : State :=
  if s.dklState = 1 && s.node n == 2 && !(s.dkl.tx.any fun x : DklTx => x.kind == 2 && x.dst == n) then queueOwn n 2 [] s else s

/-! ### Sending (R569, R577) -/

/-- TXCTL with GO queues a DATA frame: a full queue, or a payload over 240 bytes, refuses it with TXFAIL; one to a
node that is not joined completes at once as node lost. -/
def dklSend (v : Word) (s : State) : State :=
  let s := plainWrite R.DKL_TXCTL 0 v s
  if !v.toNat.testBit 31 then s else
  let dst := bitsOf v 24 6
  let tag := bitsOf v 16 4
  let len := bitsOf v 0 8
  if 8 ≤ (s.dkl.tx.filter fun x : DklTx => x.tag.isSome).length || 240 < len then dklCause 2 s
  else if dst != 63 && s.node dst != 2 then
    dklCause 2 (showDkl { s with dkl.events := s.dkl.events ++ [{ tag := tag, status := 2, dst := dst }] })
  else queueTx 0 dst 0 (some tag) (s.bytes (s.f Fl.DKL_TXADDR_ADDR * 4) len) s

/-- Reading TXEV removes the head completion. -/
def dklEventRead (s : State) : State :=
  showDkl { s with readData := s.reg R.DKL_TXEV, dkl.events := s.dkl.events.drop 1 }

end Sys2Proof.Machine
end

