-- ==== Sys2Proof/Machine/DecklineCommands.lean ====
section
/-! DEFINITION. The commands of Deckline (R558 to R577). -/

namespace Sys2Proof.Machine

def execZeroCrossing (rising : Bool) (s : State) : Out := done (zeroCrossing rising s)
def execMainsLost (s : State) : Out := done (mainsLost s)
def execSlotStart (i : Nat) (s : State) : Out := done (slotStart i s)
def execSegmentReceived (src : Nat) (seg : DklSegment) (s : State) : Out := done (segmentReceived src seg s)
def execDklDataFrame (f : DklDataFrame) (s : State) : Out := done (dataFrame f s)
def execDklAckFrame (src frame : Nat) (bitmap : List Bool) (degraded : Option (Nat × List Nat)) (s : State) : Out :=
  done (dklAck src frame bitmap degraded s)
def execSoundFrame (src : Nat) (snr : List (List Nat)) (s : State) : Out := done (soundFrame src snr s)
def execMapFrame (src : Nat) (maps : List (List Nat)) (s : State) : Out := done (mapFrame src maps s)
def execJoinFrame (id previous delta : Nat) (s : State) : Out := done (joinFrame id previous delta s)
def execNeighFrame (src : Nat) (neigh : List (Nat × Nat)) (s : State) : Out := done (neighFrame src neigh s)
def execAckTimeout (dst : Nat) (s : State) : Out := done (ackTimeout dst s)
def execJoinApprovalTimeout (n : Nat) (s : State) : Out := done (joinTimeout n s)
def execNodeApprove (n : Nat) (s : State) : Out := done (nodeApprove n s)
def execDklSend (v : Word) (s : State) : Out := done (dklSend v s)
def execDklRxReturn (cnt : Nat) (s : State) : Out := done (dklRxReturn cnt s)
def execDklTxEventRead (s : State) : Out := done (dklEventRead s)
def execDklEnable (s : State) : Out := done (dklEnable s)
def execDklDisable (s : State) : Out := done (dklDisable s)
def execSoundingDue (dst : Nat) (s : State) : Out := done (soundingDue dst s)

/-- A write to a register of the DKL block that does more than its access codes say (R577). -/
def dklWrite (r : Rg) (i : Nat) (v : Word) (s : State) : Option State :=
  if r = R.DKL_CTL then
    let en := s.b Fl.DKL_CTL_EN
    let s := (plainWrite r i v s).setB Fl.DKL_CTL_EN 0 en
    let s := if v.toNat.testBit 31 then (if en then s else dklEnable s) else if en then dklDisable s else s
    some (if s.b Fl.DKL_CTL_AUTOAPP then s.eachOf (s.nodesIn 1) nodeApprove else s)
  else if r = R.DKL_TXCTL then some (dklSend v s)
  else if r = R.DKL_RXACK then some (dklRxReturn v.toNat s)
  else if r = R.DKL_NODEC then some (s.when (v.toNat.testBit 28) (nodeApprove (i + 1)))
  else none

end Sys2Proof.Machine
end

