-- ==== Sys2Proof/Machine/Estimator.lean ====
section
/-! DEFINITION. The estimator of the battery strings and the holdover pack: counting, model, rest, limits,
learned values, insertion, the holdover pack (R505 to R525). -/

namespace Sys2Proof.Machine

/-! ### Access -/

/-- Pack `k` beside its registers. -/
def State.pk (s : State) (k : Nat) : Pack := s.est.pack.toList.getD k {}

/-- Changes pack `k` beside its registers. -/
def State.setPk (s : State) (k : Nat) (f : Pack → Pack) : State :=
  { s with est.pack := s.est.pack.setIfInBounds k (f (s.pk k)) }

/-- Causes of EST: bit j raises event 112 + j ÷ 2 (R525). -/
def estCause (j : Nat) (s : State) : State := s.causeOn Fl.EST_STAT_CAUSE Fl.EST_CTL_EVEN 0 j (112 + j / 2)

/-- State codes of EST_SOCE.STATE (R525). -/
def pkAbsent : Nat := 0
def pkPending : Nat := 1
def pkEstimating : Nat := 2
def pkRest : Nat := 3
def pkFault : Nat := 4
def pkUnmeasured : Nat := 5

def State.pkSt (s : State) (k : Nat) : Nat := s.f Fl.EST_SOCE_STATE k

/-- The pack is served. -/
def State.pkOn (s : State) (k : Nat) : Bool := k < 9 && s.b Fl.EST_CFG_EN k

/-! ### Tables (R508) -/

/-- A point of the OCV table, mV. -/
def State.ocvPoint (s : State) (k i : Nat) : Nat := s.f Fl.EST_OCV_MV (21 * k + i)

/-- An entry of the impedance table, µΩ. -/
def State.impEntry (s : State) (k e : Nat) : Nat :=
  if e % 2 = 0 then s.f Fl.EST_IMP_LO (22 * k + e / 2) else s.f Fl.EST_IMP_HI (22 * k + e / 2)

/-- Sets an entry of the impedance table. -/
def setImpEntry (k e v : Nat) (s : State) : State :=
  if e % 2 = 0 then s.setF Fl.EST_IMP_LO (22 * k + e / 2) v else s.setF Fl.EST_IMP_HI (22 * k + e / 2) v

/-- Linear interpolation between table points `step` units apart. -/
def interpolate (step : Nat) (at_ : Nat → Nat) (x : Nat) : Int :=
  let i := x / step
  let a : Int := at_ i
  if x % step = 0 then a else a + Int.tdiv (((at_ (i + 1) : Int) - a) * (x % step : Nat)) step

/-- The pack temperature in use, 0.01 °C; none where no valid value stands (R508). -/
def State.packTemp (s : State) (k : Nat) : Option Int :=
  let i := s.f Fl.EST_CFG_TSENS k
  if 80 ≤ i then none else
  let t := s.f Fl.THM_SSTAT_T i
  if t = 0x8000 then none else some (signedOf 16 t)

/-- The temperature band of the impedance table (R508). -/
def State.packBand (s : State) (k : Nat) : Nat :=
  match s.packTemp k with
  | none => 0
  | some t => if t < 0 then 0 else if t < 1500 then 1 else if t < 3500 then 2 else 3

/-- OCV at a state of charge, mV. -/
def State.ocvAt (s : State) (k soc : Nat) : Int := interpolate 500 (s.ocvPoint k) (min soc 10000)

/-- R0 at a state of charge, µΩ. -/
def State.r0At (s : State) (k soc : Nat) : Int :=
  interpolate 1000 (fun i => s.impEntry k (11 * s.packBand k + i)) (min soc 10000)

/-- The slope of the OCV table at a state of charge, mV per unit, at least 1 (R509). -/
def State.ocvSlope (s : State) (k soc : Nat) : Int :=
  let i := min (soc / 500) 19
  max 1 (Int.tdiv ((s.ocvPoint k (i + 1) : Int) - s.ocvPoint k i) 500)

/-- The state of charge whose OCV is a voltage: in the first segment that reaches it (R512). -/
def State.ocvInverse (s : State) (k : Nat) (mv : Int) : Nat :=
  if mv ≤ s.ocvPoint k 0 then 0 else
  match (List.range 20).find? fun i => decide (mv ≤ (s.ocvPoint k (i + 1) : Int)) with
  | none => 10000
  | some i =>
    let a : Int := s.ocvPoint k i
    let b : Int := s.ocvPoint k (i + 1)
    if b ≤ a then 500 * i else 500 * i + (Int.tdiv ((mv - a) * 500) (b - a)).toNat

/-! ### Records (R519, R520) -/

/-- The kept words of a pack: PACKID, SOC, SOCE, Q, CAP, CYCLES and the impedance table. -/
def packRegs (k : Nat) : List (Rg × Nat) :=
  [(R.EST_PACKIDL, k), (R.EST_PACKIDH, k), (R.EST_SOC, k), (R.EST_SOCE, k), (R.EST_QL, k), (R.EST_QH, k),
   (R.EST_CAP, k), (R.EST_CYCLES, k)] ++ (List.range 22).map fun i => (R.EST_IMP, 22 * k + i)

/-- The record of a pack is written, or its write waits for the gates (R519). -/
def packRecord (k : Nat) (s : State) : State :=
  if s.nvOk then
    let words := (packRegs k).map fun e => (e.1.addrAt e.2, s.reg e.1 e.2)
    s.setPk k fun x => { x with saved := some { words := words, lastRest := x.lastRest }, retry := false }
  else s.setPk k fun x => { x with retry := true }

/-- The records of every served pack are written. -/
def packRecords (s : State) : State := s.each 9 fun k s => if s.pkOn k then packRecord k s else s

/-- A counter stops: the span is unmeasured (R507). -/
def counterStop (k : Nat) (s : State) : State :=
  if (s.pk k).gap.isSome then s else
  let s := s.setPk k fun x => { x with gap := some s.calendar, rest := none, lastMs := none }
  if s.pkSt k == pkEstimating || s.pkSt k == pkRest then
    s.setF Fl.EST_SOCE_STATE k pkUnmeasured |>.setReg R.EST_CHG k 0 |>.setReg R.EST_DIS k 0
  else s

/-- The counters of the strings stop with the analog die (R507). -/
def stringCountersStop (s : State) : State := s.each 8 counterStop

/-- Boot: each pack resumes from its newest valid copy; without one CAP is CAPNOM and CYCLES 0 (R520). -/
def estBoot (s : State) : State :=
  s.each 9 fun k s =>
    match (s.pk k).saved with
    | some rcd =>
      let s := s.eachOf (packRegs k) fun e s =>
        match cellsFind rcd.words (e.1.addrAt e.2) with | none => s | some w => s.setReg e.1 e.2 w
      (s.setF Fl.EST_SOCE_STATE k pkAbsent).setPk k fun x => { x with lastRest := rcd.lastRest }
    | none =>
      estCause 5 (s.setReg R.EST_CAP k (s.reg R.EST_CAPNOM k) |>.setReg R.EST_CYCLES k 0)

/-! ### Limits (R513 to R516) -/

/-- The window shrink of R513, 0.01 %. -/
def shrinkOf (days : Nat) : Nat :=
  if days < 7 then 0 else if days < 14 then 500 else if days < 21 then 1000 else if days < 28 then 1500 else 2000

/-- DAYS and S (R513). -/
def showDays (k : Nat) (s : State) : State :=
  let d := (Int.tdiv (s.calendar - (s.pk k).lastRest) 86400000000000).toNat
  let sh := shrinkOf d
  let was := s.f Fl.EST_DAYS_S k
  let s := s.setF Fl.EST_DAYS_DAYS k (min d 65535) |>.setF Fl.EST_DAYS_S k sh
  s.when (was != sh) (estCause 2)

/-- The limits DIS and CHG of R514. -/
def State.packLimits (s : State) (k : Nat) : Int × Int :=
  let soc : Int := s.f Fl.EST_SOC_SOCR k
  let u : Int := s.f Fl.EST_SOC_U k
  let sh : Int := s.f Fl.EST_DAYS_S k
  let lo : Int := (s.f Fl.EST_WIN_SOCMIN k : Int) + u + sh
  let hi : Int := (s.f Fl.EST_WIN_SOCMAX k : Int) - u - sh
  let ocv := s.ocvAt k soc.toNat
  let r0 := max 1 (s.r0At k soc.toNat)
  let tap : Int := max 1 (s.f Fl.EST_TAPER_TAPER k)
  let id := max 0 (min (s.f Fl.EST_IDISMAX_I k : Int) (Int.tdiv ((ocv - s.f Fl.EST_VMIN_V k) * 1000000) r0))
  let pd := min (s.f Fl.EST_PDISMAX_P k : Int) (Int.tdiv (id * (ocv - Int.tdiv (id * r0) 1000000)) 1000000)
  let ic := max 0 (min (s.f Fl.EST_ICHGMAX_I k : Int) (Int.tdiv (((s.f Fl.EST_VMAX_V k : Int) - ocv) * 1000000) r0))
  let pc := min (s.f Fl.EST_PCHGMAX_P k : Int) (Int.tdiv (ic * (ocv + Int.tdiv (ic * r0) 1000000)) 1000000)
  if hi ≤ lo then (0, 0) else
  (if soc ≤ lo then 0 else if lo + tap ≤ soc then pd else Int.tdiv (pd * (soc - lo)) tap,
   if hi ≤ soc then 0 else if soc ≤ hi - tap then pc else Int.tdiv (pc * (hi - soc)) tap)

/-- Publishes DIS and CHG of a string: 0 unless it is estimating or at rest, and while a limit holds them
(R514, R515). -/
def showLimits (k : Nat) (s : State) : State :=
  if 8 ≤ k then s else
  let on := s.pkSt k == pkEstimating || s.pkSt k == pkRest
  let l := s.packLimits k
  let x := s.pk k
  s.setReg R.EST_DIS k (BitVec.ofInt 32 (if on && !x.disHeld then l.1 else 0))
    |>.setReg R.EST_CHG k (BitVec.ofInt 32 (if on && !x.chgHeld then l.2 else 0))

/-- A zero that the 1 ms comparison set ends where the voltage lies inside its limit by 1 % (R515). -/
def limitsRelease (k : Nat) (mv : Int) (s : State) : State :=
  let lo : Int := s.f Fl.EST_VMIN_V k
  let hi : Int := s.f Fl.EST_VMAX_V k
  s.setPk k fun x => { x with
    disHeld := x.disHeld && decide (mv < lo + Int.tdiv lo 100)
    chgHeld := x.chgHeld && decide (hi - Int.tdiv hi 100 < mv) }

/-! ### The step (R509 to R511) -/

/-- Q rises by the charge counted; a pack without shunt has no counter (R506, R525). -/
def countCharge (k : Nat) (dq : Int) (s : State) : State :=
  if s.b Fl.EST_SHUNT_SHUNT k then s.setQi R.EST_QL R.EST_QH k (s.qi R.EST_QL R.EST_QH k + dq) else s

/-- Step 1: the counted change of SOC_e, and CYCLES in discharge (R509, R518). A capacity of 0 leaves the result
open: a free value. -/
def countSoc (k : Nat) (dq : Int) (s : State) : State × Int :=
  if s.f Fl.EST_CAP_CAP k = 0 then
    let d := s.draw
    let v := d.1 % 10001
    (d.2.setF Fl.EST_SOCE_SOCE k v, (v : Int) - s.f Fl.EST_SOCE_SOCE k)
  else
    let den : Int := (s.f Fl.EST_CAP_CAP k : Int) * 3600000
    let x := s.pk k
    let n := dq * 10000 + x.remCount
    let c := Int.tdiv n den
    let m := x.remCycles + (if dq < 0 then dq.natAbs * 100 else 0)
    let s := s.setF Fl.EST_SOCE_SOCE k (clampInt 0 10000 ((s.f Fl.EST_SOCE_SOCE k : Int) + c)).toNat
    let s := s.setReg R.EST_CYCLES k (s.reg R.EST_CYCLES k + BitVec.ofNat 32 (m / den.toNat))
    (s.setPk k fun x => { x with remCount := n - c * den, remCycles := m % den.toNat }, c)

/-- Steps 2 and 3: the model voltage, and the correction of a pack not at rest (R509). -/
def modelStep (k : Nat) (mv ma : Int) (s : State) : State :=
  let soc := s.f Fl.EST_SOCE_SOCE k
  let r0 := s.r0At k soc
  let ir := Int.tdiv (ma * r0) 1000000
  let x := s.pk k
  let e := mv - (s.ocvAt k soc + ir + x.vrc)
  let tau := max 1 (s.f Fl.EST_MODEL_TAU k)
  let s := s.setF Fl.EST_R0_R0 k r0.toNat
  let s := s.setPk k fun x => { x with vrc := x.vrc + Int.tdiv (ir - x.vrc) (10 * tau : Nat) }
  if s.pkSt k == pkRest then s else
  let d := clampInt (-5) 5 (Int.tdiv (e * s.f Fl.EST_MODEL_KV k) (256 * s.ocvSlope k soc))
  s.setF Fl.EST_SOCE_SOCE k (clampInt 0 10000 ((soc : Int) + d)).toNat

/-- Step 4: the uncertainty grows (R511). -/
def growUncertainty (k : Nat) (counted : Int) (s : State) : State :=
  let x := s.pk k
  let m := s.f Fl.EST_UCFG_UDRIFT k + x.remDrift
  let u := s.f Fl.EST_SOC_U k + 2 * counted.natAbs / 1000 + m / 864000
  (s.setF Fl.EST_SOC_U k (min 5000 u)).setPk k fun x => { x with remDrift := m % 864000 }

/-- After an unmeasured span U grows by UDRIFT for each day of it (R511). -/
def spanUncertainty (k : Nat) (s : State) : State :=
  match (s.pk k).gap with
  | none => s
  | some t =>
    let d := (Int.tdiv (s.calendar - t) 1000000).toNat
    let s := s.setF Fl.EST_SOC_U k (min 5000 (s.f Fl.EST_SOC_U k + s.f Fl.EST_UCFG_UDRIFT k * d / 86400000))
    let s := s.setPk k fun x => { x with gap := none }
    s.when (s.pkSt k == pkUnmeasured) (fun s => s.setF Fl.EST_SOCE_STATE k pkEstimating)

/-- Step 5: the reported charge (R510). -/
def reportSoc (k : Nat) (ma : Int) (s : State) : State :=
  let e := s.f Fl.EST_SOCE_SOCE k
  let r := s.f Fl.EST_SOC_SOCR k
  s.setF Fl.EST_SOC_SOCR k
    (if ma ≤ -(s.f Fl.EST_REST_IREST k : Int) then min r e
     else if r ≤ e then min e (r + 10) else max e (r - 10))

/-- HP_OK (R523). -/
def showHpOk (mv : Int) (s : State) : State :=
  let t := match s.packTemp 8 with | none => false | some t => decide (-2000 ≤ t ∧ t ≤ 6000)
  let ok := decide (3300 ≤ mv) && s.f Fl.EST_HPCFG_HPMIN * 100 ≤ s.f Fl.EST_SOC_SOCR 8 && t
  let was := s.b Fl.SYS_SUPSTAT_HP_OK
  (s.setB Fl.SYS_SUPSTAT_HP_OK 0 ok).when (was && !ok) (estCause 6)

/-- HP charges from VIN in Run and Luff, up to 4,100 mV, from 0 °C to 45 °C, once its first estimate stands
(R521, R522). -/
def chargeHp (mv : Int) (s : State) : State :=
  let t := match s.packTemp 8 with | none => false | some t => decide (0 ≤ t ∧ t ≤ 4500)
  let may := s.pkOn 8 && (s.pkSt 8 == pkEstimating || s.pkSt 8 == pkRest) && t && s.f Fl.SYS_PWRSTAT_STATE ≤ 1 &&
    !s.sys.onHp
  { s with est.charging := may && (s.est.charging || decide (mv < 4100)) }

/-- The 100 ms step of one pack (R509). -/
def estimatorStep (k : Nat) (dq mv ma : Int) (s : State) : State :=
  if !s.pkOn k || s.sys.phase != .running || 1 < s.f Fl.SYS_PWRSTAT_STATE then s else
  let s := countCharge k dq s
  let s := s.setReg R.EST_V k (BitVec.ofInt 32 mv) |>.setReg R.EST_I k (BitVec.ofInt 32 ma)
    |>.setB Fl.EST_CFG_PRESENT k (decide ((s.f Fl.EST_VMIN_V k / 10 : Nat) < mv))
  let s := s.when (s.packTemp k).isNone (estCause 4)
  let s := spanUncertainty k s
  let s := if s.pkSt k == pkRest && (s.f Fl.EST_REST_IREST k : Int) ≤ ma.natAbs
    then s.setF Fl.EST_SOCE_STATE k pkEstimating else s
  let s := if s.pkSt k == pkEstimating || s.pkSt k == pkRest then
      let c := countSoc k dq s
      reportSoc k ma (growUncertainty k c.2 (modelStep k mv ma c.1))
    else s
  let s := limitsRelease k mv (showDays k s)
  let s := showLimits k s
  let s := s.when (s.pk k).retry (packRecord k)
  if k == 8 then chargeHp mv (showHpOk mv s) else s

/-! ### Rest and learning (R512, R517, R518) -/

/-- The learned capacity after two rests (R517). -/
def learnCapacity (k : Nat) (s : State) : State :=
  match (s.pk k).rest with
  | none => s
  | some (soc, q) =>
    let ds := ((s.f Fl.EST_SOCE_SOCE k : Int) - soc).natAbs
    if ds < 4000 then s else
    let capl := (s.qi R.EST_QL R.EST_QH k - q).natAbs * 10000 / (3600000 * ds)
    let cap : Int := s.f Fl.EST_CAP_CAP k
    let nom : Int := s.f Fl.EST_CAPNOM_CAPNOM k
    let new := clampInt (Int.tdiv nom 2) (Int.tdiv (nom * 11) 10) (cap + Int.tdiv ((capl : Int) - cap) 4)
    estCause 1 (s.setReg R.EST_CAP k (BitVec.ofInt 32 new))

/-- The correction at rest (R512). -/
def restCorrect (first : Bool) (k : Nat) (s : State) : State :=
  let s := s.setF Fl.EST_SOCE_SOCE k (s.ocvInverse k (signedOf 32 (s.reg R.EST_V k).toNat))
    |>.setF Fl.EST_SOC_U k (min 5000 (s.f Fl.EST_UCFG_UOCV k))
  let s := s.when first (learnCapacity k)
  let s := s.setPk k fun x => { x with
    vrc := 0, lastRest := s.calendar, rest := some (s.f Fl.EST_SOCE_SOCE k, s.qi R.EST_QL R.EST_QH k) }
  packRecord k (showDays k s)

/-- The pack's current lies below IREST. -/
def State.quiet (s : State) (k : Nat) : Bool :=
  (signedOf 32 (s.reg R.EST_I k).toNat).natAbs < s.f Fl.EST_REST_IREST k

/-- Rest begins: TREST, or 10 s after an unmeasured span, has passed (R512). -/
def restStart (k : Nat) (s : State) : State :=
  if s.pkOn k && s.pkSt k == pkEstimating && s.quiet k
  then restCorrect true k (s.setF Fl.EST_SOCE_STATE k pkRest) else s

/-- Rest lasts another 60 s (R512). -/
def restRepeat (k : Nat) (s : State) : State :=
  if s.pkOn k && s.pkSt k == pkRest then restCorrect false k s else s

/-- The impedance entry moves 1/16 of the way where the current steps (R518). -/
def learnImpedance (k : Nat) (mv ma : Int) (s : State) : State :=
  match (s.pk k).lastMs with
  | none => s
  | some (v0, i0) =>
    let di := (ma - i0).natAbs
    if di = 0 || di < s.f Fl.EST_IDISMAX_I k / 10 then s else
    let z : Int := (mv - v0).natAbs * 1000000 / di
    let e := 11 * s.packBand k + min 10 ((s.f Fl.EST_SOCE_SOCE k + 500) / 1000)
    let old : Int := s.impEntry k e
    setImpEntry k e (clampInt 0 65535 (old + Int.tdiv (z - old) 16)).toNat s

/-- The comparison of every millisecond (R515), and the impedance learned from two means (R518). -/
def voltageLimit (k : Nat) (mv ma : Int) (s : State) : State :=
  if !s.pkOn k then s else
  let s := (learnImpedance k mv ma s).setPk k fun x => { x with lastMs := some (mv, ma) }
  let low := decide (mv ≤ (s.f Fl.EST_VMIN_V k : Int))
  let high := decide ((s.f Fl.EST_VMAX_V k : Int) ≤ mv)
  let s := s.setPk k fun x => { x with disHeld := x.disHeld || low, chgHeld := x.chgHeld || high }
  let s := s.when low (fun s => s.setReg R.EST_DIS k 0) |>.when high (fun s => s.setReg R.EST_CHG k 0)
  s.when (low || high) (estCause 3)

/-! ### Checks and insertion (R506, R521) -/

/-- The check of a string's counter every 10 ms (R506). -/
def counterCheck (k : Nat) (ok : Bool) (s : State) : State :=
  if 8 ≤ k || !s.pkOn k then s
  else if !ok then
    let s := (s.setF Fl.EST_SOCE_STATE k pkFault).setPk k fun x => { x with passed := 0 }
    estCause 4 (s.setReg R.EST_DIS k 0 |>.setReg R.EST_CHG k 0)
  else
    let n := (s.pk k).passed + 1
    let s := s.setPk k fun x => { x with passed := min n 100 }
    if s.pkSt k == pkFault && 100 ≤ n then s.setF Fl.EST_SOCE_STATE k pkEstimating else s

/-- A new pack: CAP is CAPNOM and CYCLES 0 (R521). -/
def newPack (k : Nat) (s : State) : State :=
  (s.setReg R.EST_CAP k (s.reg R.EST_CAPNOM k) |>.setReg R.EST_CYCLES k 0).setPk k fun x =>
    { x with remCycles := 0, rest := none }

/-- PACKID differs from the one in the record, or there is none (R520, R521). -/
def State.otherPack (s : State) (k : Nat) : Bool :=
  match (s.pk k).saved with
  | none => true
  | some rcd => [(R.EST_PACKIDL, k), (R.EST_PACKIDH, k)].any fun e =>
      cellsFind rcd.words (e.1.addrAt e.2) != some (s.reg e.1 e.2)

/-- A pack is inserted: pending, limits 0, the charger of HP off (R521). -/
def packInsert (k : Nat) (s : State) : State :=
  let s := s.setF Fl.EST_SOCE_STATE k pkPending |>.setReg R.EST_DIS k 0 |>.setReg R.EST_CHG k 0
  let s := s.when (s.otherPack k) (newPack k)
  let s := s.setPk k fun x => { x with disHeld := false, chgHeld := false, rest := none, gap := none }
  if k == 8 then { s with est.charging := false } else s

/-- The voltage of a served pack rises through VMIN ÷ 10 after 1 s below it (R521). -/
def packAppears (k : Nat) (mv : Int) (s : State) : State :=
  if s.pkOn k && decide ((s.f Fl.EST_VMIN_V k / 10 : Nat) < mv) then
    packInsert k (s.setB Fl.EST_CFG_PRESENT k true |>.setReg R.EST_V k (BitVec.ofInt 32 mv))
  else s

/-- The first estimate: after 10 s of rest, or at 60 s (R521). -/
def firstEstimate (k : Nat) (s : State) : State :=
  if !s.pkOn k || s.pkSt k != pkPending then s else
  let v := signedOf 32 (s.reg R.EST_V k).toNat
  let i := signedOf 32 (s.reg R.EST_I k).toNat
  let q := s.quiet k
  let soc := if q then s.ocvInverse k v
    else s.ocvInverse k (v - Int.tdiv (i * s.r0At k (s.f Fl.EST_SOCE_SOCE k)) 1000000)
  let s := s.setF Fl.EST_SOCE_SOCE k soc |>.setF Fl.EST_SOC_SOCR k soc
    |>.setF Fl.EST_SOC_U k (if q then 500 else 1500) |>.setF Fl.EST_SOCE_STATE k pkEstimating
  estCause 0 (s.setPk k fun x => { x with vrc := 0, remCount := 0 })

/-- EST_CMD (R521). -/
def estCommand (op k : Nat) (s : State) : State :=
  if 9 ≤ k then s
  else if op = 1 then (if s.pkOn k then packInsert k s else s)
  else if op = 2 then
    let s := newPack k s
    if s.pkOn k then packInsert k s else s
  else s

/-! ### The holdover pack (R522, R524) -/

/-- The charge of HP ends (R522). -/
def hpChargeEnd (ma : Int) (s : State) : State :=
  if ma < s.f Fl.EST_HPCFG_HPICHG then { s with est.charging := false } else s

/-- The comparison of HP in Stow, every second: the charge is counted, and Furl is armed where the pack is
depleted (R524). -/
def hpStowCheck (dq mv : Int) (s : State) : State :=
  if s.f Fl.SYS_PWRSTAT_STATE != 3 || !s.sys.onHp || !s.pkOn 8 then s else
  let s := showHpOk mv ((countCharge 8 dq s).setReg R.EST_V 8 (BitVec.ofInt 32 mv))
  let s := if s.pkSt 8 == pkEstimating || s.pkSt 8 == pkRest then
      let c := countSoc 8 dq s
      c.1.setF Fl.EST_SOC_SOCR 8 (min (c.1.f Fl.EST_SOC_SOCR 8) (c.1.f Fl.EST_SOCE_SOCE 8))
    else s
  if s.b Fl.EST_HPCFG_AUTOFURL &&
      (s.f Fl.EST_SOC_SOCR 8 ≤ s.f Fl.EST_HPCFG_FURLSOC * 100 || decide (mv ≤ 3000))
  then estCause 7 (s.setB Fl.SYS_PWRSTAT_FURL_ARMED 0 true) else s

/-! ### Registers (R525) -/

/-- Writes of the EST block. -/
def estWrite (r : Rg) (i : Nat) (v : Word) (s : State) : Option State :=
  if r == R.EST_CMD then some (estCommand (bitsOf v 4 4) (bitsOf v 0 4) s)
  else if r == R.EST_CFG then
    let was := s.b Fl.EST_CFG_EN i
    let s := plainWrite r i v s
    let on := s.b Fl.EST_CFG_EN i
    some (if on && !was then packInsert i s
      else if was && !on then
        s.setF Fl.EST_SOCE_STATE i pkAbsent |>.setReg R.EST_DIS i 0 |>.setReg R.EST_CHG i 0
      else s)
  else none

end Sys2Proof.Machine
end

