-- ==== Sys2Proof/Machine/Images.lean ====
section
/-! DEFINITION. Program images: the header and segment table, the checks that refuse one, placement and the seal
(R51, R96 to R102, R104). -/

namespace Sys2Proof.Machine

/-- A little-endian field of an image. -/
def imgNat (b : List Byte) (off n : Nat) : Nat := leNat ((b.drop off).take n)

/-- One entry of the segment table (R97). -/
structure Segment where
  addr : Nat
  off : Nat
  size : Nat
  attr : Nat
  deriving DecidableEq, Repr, Inhabited

/-- Destination of a segment (R97). -/
def Segment.target (g : Segment) : Nat := g.attr % 16

/-- ZERO and EXEC of a segment (R97). -/
def Segment.zero (g : Segment) : Bool := g.attr.testBit 8
def Segment.exec (g : Segment) : Bool := g.attr.testBit 9

/-- The header fields (R96). -/
def imgType (b : List Byte) : Nat := imgNat b 8 1
def imgMinStep (b : List Byte) : Nat := imgNat b 9 1
def imgGen (b : List Byte) : Nat := imgNat b 0x0A 2
def imgSecVer (b : List Byte) : Nat := imgNat b 0x0C 4
def imgLength (b : List Byte) : Nat := imgNat b 0x10 4
def imgNseg (b : List Byte) : Nat := imgNat b 0x14 2
def imgMinGen (b : List Byte) : Nat := imgNat b 0x16 2
def imgEntry (b : List Byte) (n : Nat) : Nat := imgNat b (0x18 + 4 * n) 4
def imgKeyId (b : List Byte) : Nat := imgNat b 0x38 4

/-- The segment table (R97). -/
def imgSegments (b : List Byte) : List Segment :=
  (List.range (imgNseg b)).map fun i =>
    let o := 0x40 + 16 * i
    { addr := imgNat b o 4, off := imgNat b (o + 4) 4, size := imgNat b (o + 8) 4, attr := imgNat b (o + 12) 4 }

/-- Bytes of the XMSS signature of an image (R96). -/
def sigBytes : Nat := 2820

/-- The image types that may carry a target (R97). -/
def targetAllowed (target type : Nat) : Bool :=
  match target with
  | 0 => type == 1 || type == 2 || type == 3 || type == 5
  | 1 => type == 1 || type == 2
  | 2 => type == 1 || type == 4
  | 3 => type == 1 || type == 3 || type == 5
  | 4 => type == 1 || type == 2
  | _ => false

/-- A segment lies inside its target (R97, R98). The manual gives the shroud memory no addresses. -/
def segInside (g : Segment) : Bool :=
  match g.target with
  | 0 => inSram g.addr g.size
  | 1 => true
  | 2 => decide (0x40048000 ≤ g.addr ∧ g.addr + g.size ≤ 0x40050000)
  | 3 => inMramProgram g.addr g.size
  | 4 => g.size % 68 == 0 && decide (68 ≤ g.size ∧ g.size ≤ 272)
  | _ => false

/-- One segment table entry is well formed (R97, R98). -/
def segOk (b : List Byte) (g : Segment) : Bool :=
  targetAllowed g.target (imgType b) && segInside g && g.addr % 32 == 0 && g.attr / 1024 == 0 &&
  g.attr / 16 % 16 == 0 &&
  (g.zero || (g.off % 32 == 0 && decide (imgNat b 6 2 ≤ g.off ∧ g.off + g.size ≤ imgLength b)))

/-- Two segments of one target overlap (R98). -/
def segOverlap (a b : Segment) : Bool :=
  a.target == b.target && a.addr < b.addr + b.size && b.addr < a.addr + a.size

/-- No two segments overlap. -/
def segsApart : List Segment → Bool
  | [] => true
  | g :: rest => rest.all (fun h => !segOverlap g h) && segsApart rest

/-- The image is well formed (R96 to R98); `total` is its length with the signature. -/
def imgWellFormed (b : List Byte) (total : Nat) : Bool :=
  let ty := imgType b
  let boot := ty == 1 || ty == 2
  imgNat b 0 4 == 0x494C5254 && imgNat b 4 2 == 1 && imgNat b 6 2 == 0x40 + 16 * imgNseg b &&
  decide (1 ≤ ty ∧ ty ≤ 5) && imgMinGen b ≤ imgGen b && decide (1 ≤ imgNseg b ∧ imgNseg b ≤ 32) &&
  imgLength b % 32 == 0 && imgNat b 6 2 ≤ imgLength b && imgLength b + sigBytes == total &&
  imgNat b 0x3C 4 == 0 && imgKeyId b ≤ 4 &&
  (if boot then imgEntry b 0 != 0 && imgKeyId b == 0
   else imgKeyId b != 0 && (List.range 4).all fun n => imgEntry b n == 0) &&
  (imgSegments b).all (segOk b) && segsApart (imgSegments b)

/-- The key that signs an image: the vendor firmware key, or an owner key of the running boot image; none for an
empty owner key slot (R99). -/
def State.imgKey (s : State) (b : List Byte) : Option (List Byte) :=
  if imgKeyId b = 0 then some Config.vendorKey else s.images.ownerKeys[imgKeyId b - 1]?

/-- The XMSS signature verifies (R51, R96). -/
def imgVerified (key b : List Byte) : Bool :=
  Config.xmssVerify key (b.take (imgLength b)) ((b.drop (imgLength b)).take sigBytes)

/-- The stepping of the device as SYS_ID[11:4] shows it (R23, R24). -/
def State.stepping (s : State) : Nat := bitsOf (s.reg R.SYS_ID) 4 8

/-- Why the boot ROM refuses a boot image: SYS_BOOTSTAT.REFUSE, 0 where it accepts it (R51, R56). The length and
the form are read before the signature. -/
def State.bootRefusal (s : State) (b : List Byte) : Nat :=
  if 0x800000 < imgLength b + sigBytes then 4
  else if !imgWellFormed b (imgLength b + sigBytes) || 3 ≤ imgType b then 8
  else if !imgVerified Config.vendorKey b then 1
  else if imgSecVer b < s.sys.minSecVer then 2
  else if s.stepping < imgMinStep b then 3
  else 0

/-- The result of a check by IMG_CHECK: the codes of IMG_STATUS (R103, R104). -/
def State.checkResult (s : State) (b : List Byte) : Nat :=
  if !imgWellFormed b b.length || 0x800000 < b.length && imgType b ≤ 2 then 5 else
  match s.imgKey b with
  | none => 6
  | some key =>
    if !imgVerified key b then 2
    else if imgSecVer b < (if imgType b ≤ 2 then s.sys.minSecVer else s.images.secVer) then 3
    else if s.stepping < imgMinStep b then 4
    else 1

/-! ### Placement (R97, R101, R102, R129) -/

/-- The bytes a segment brings. -/
def segBytes (b : List Byte) (g : Segment) : List Byte :=
  if g.zero then List.replicate g.size 0 else (b.drop g.off).take g.size

/-- The kernel slots a segment reaches (R129). -/
def segKernels (g : Segment) : List Nat :=
  if g.target = 2 && 0 < g.size then
    (List.range 16).filter fun k => g.addr < 0x40048800 + 0x800 * k && 0x40048000 + 0x800 * k < g.addr + g.size
  else []

/-- Writes bytes into kernel memory from a word address on. -/
def kernelBytes : Nat → List Byte → State → State
  | a, b0 :: b1 :: b2 :: b3 :: rest, s =>
    kernelBytes (a + 4) rest
      { s with lpe.kernels := cellsPut 0 s.lpe.kernels ((a - 0x40048000) / 4)
                 (BitVec.ofNat 32 (leNat [b0, b1, b2, b3])) }
  | _, _, s => s

/-- A segment of the MRAM program area would change bytes while the gates are closed (R101). -/
def State.segRefused (s : State) (b : List Byte) (g : Segment) : Bool :=
  g.target == 3 && !s.nvOk && s.bytes g.addr g.size != segBytes b g

/-- Splits owner keys of 68 bytes. -/
def splitKeys : Nat → List Byte → List (List Byte)
  | 0, _ => []
  | n + 1, b => if b.isEmpty then [] else b.take 68 :: splitKeys n (b.drop 68)

/-- Places one segment at its target (R97). -/
def placeSegment (b : List Byte) (g : Segment) (s : State) : State :=
  let x := segBytes b g
  match g.target with
  | 0 => s.dma g.addr x
  | 1 => { s with images.safetyImage := s.images.safetyImage ++ x }
  | 2 => kernelBytes g.addr x s
  | 3 => s.setBytes g.addr x
  | _ => { s with images.ownerKeys := s.images.ownerKeys ++ splitKeys 4 x }

/-- Clears the kernel slots that the segments reach, then places every segment (R129). -/
def placeSegments (b : List Byte) (s : State) : State :=
  let g := imgSegments b
  let slots := g.flatMap segKernels
  let s := { s with lpe.kernels := s.lpe.kernels.filter fun e => !slots.contains (e.1 / 512) }
  s.eachOf g (placeSegment b)

/-- The sealed ranges of an image: executable segments, kernel memory and owner keys (R102). -/
def imgSealed (b : List Byte) : List SealRange :=
  ((imgSegments b).filter fun g => g.exec || g.target == 2 || g.target == 4).map fun g =>
    { target := g.target, addr := g.addr, size := g.size }

/-- The bytes of a sealed range as they stand. -/
def State.sealedBytes (s : State) (r : SealRange) : List Byte :=
  match r.target with
  | 1 => s.images.safetyImage
  | 2 => (List.range (r.size / 4)).flatMap fun i =>
      leBytes 4 (cellsGet (0 : Word) s.lpe.kernels ((r.addr - 0x40048000) / 4 + i)).toNat
  | 4 => s.images.ownerKeys.flatten
  | _ => s.bytes r.addr r.size

/-- The hash over sealed ranges as they stand (R54, R102). -/
def State.sealNow (s : State) (l : List SealRange) : List Byte :=
  Config.shake256 (l.flatMap s.sealedBytes) 32

/-- Writes the seal over a list of ranges, at most 64 (R102). -/
def writeSeal (l : List SealRange) (s : State) : State :=
  let l := l.take 64
  { s with images.sealRanges := l, images.sealHash := s.sealNow l }

/-- The boot image is placed: it becomes the running image, sealed (R88, R102). -/
def placeBoot (b : List Byte) (s : State) : State :=
  let s := { s with images.ownerKeys := [], images.safetyImage := [], images.secVer := imgSecVer b
                    images.gen := imgGen b, images.minGen := imgMinGen b
                    images.entries := (List.range 4).map (imgEntry b), images.bootRanges := imgSealed b }
  writeSeal (imgSealed b) (placeSegments b s)

/-! ### Image slots in the eMMC (R50, R613) -/

/-- First byte of a slot in the user area. -/
def slotBase (k : Nat) : Nat := if k = 0 then 2048 * 512 else 34816 * 512

/-- The image a slot holds: as many bytes as its header states. -/
def State.slotImage (s : State) (k : Nat) : List Byte :=
  let at_ (n : Nat) : List Byte := (List.range n).map fun i => cellsGet (0 : Byte) s.sto.emmc (slotBase k + i)
  let n := min (imgLength (at_ 0x20) + sigBytes) 0x1000000
  at_ n

/-- Writes an image into a slot. -/
def slotStore (k : Nat) : Nat → List Byte → State → State
  | _, [], s => s
  | i, v :: vs, s => slotStore k (i + 1) vs { s with sto.emmc := cellsPut (0 : Byte) s.sto.emmc (slotBase k + i) v }

/-- The boot record of a slot (R50). -/
def State.imgSlot (s : State) (k : Nat) : ImageSlot := if k = 0 then s.sys.slotA else s.sys.slotB

/-- Changes the boot record of a slot. -/
def setImgSlot (k : Nat) (f : ImageSlot → ImageSlot) (s : State) : State :=
  if k = 0 then { s with sys.slotA := f s.sys.slotA } else { s with sys.slotB := f s.sys.slotB }

/-- A boot image is written to the non-running slot in trial state, to be booted next (R50, R103, R107). -/
def writeSlot (b : List Byte) (s : State) : State :=
  let k := match s.images.slot with | some 0 => 1 | some _ => 0 | none => 1 - min 1 s.sys.slotOrder
  let s := slotStore k 0 b (setImgSlot k (fun _ => { state := .trial, trials := 0, secVer := imgSecVer b }) s)
  { s with sys.slotOrder := k }

end Sys2Proof.Machine
end

