-- ==== Sys2Proof/Machine/Blocks.lean ====
section
/-! DEFINITION. The register blocks by bus address, and what a reset keeps of the register file (R11, R14, R44,
R77). -/

namespace Sys2Proof.Machine

/-- Index of a bus address in the dimensions of an array, by its offset. -/
def dimIndex : List (Nat × Nat) → Nat → Option Nat
  | [], o => if o = 0 then some 0 else none
  | (n, st) :: rest, o =>
    let i := o / st
    if n ≤ i then none else (dimIndex rest (o % st)).map fun k => i * rest.foldl (fun m d => m * d.1) 1 + k

/-- The member of a register at a bus address. -/
def Rg.memberAt (r : Rg) (a : Nat) : Option Nat := if a < r.addr then none else dimIndex r.dims (a - r.addr)

/-- A register block: from its base to the next base (R14, R77). -/
inductive Blk where
  | sys | evt | hst | lpe | cln | prt | alc | veh | thm | mtr | bil | sig | sfy | rng | lsw | est | tim | can | dkl | eth | sto
  deriving DecidableEq, Repr

/-- The block at a bus address; none outside 0x4000_0000 to 0x404B_FFFF. -/
def blockAt (a : Nat) : Option Blk :=
  if a < 0x40000000 then none
  else if a < 0x40010000 then some .sys
  else if a < 0x40020000 then some .evt
  else if a < 0x40040000 then some .hst
  else if a < 0x40080000 then some .lpe
  else if a < 0x400C0000 then some .cln
  else if a < 0x40100000 then some .prt
  else if a < 0x40140000 then some .alc
  else if a < 0x40180000 then some .veh
  else if a < 0x401C0000 then some .thm
  else if a < 0x40200000 then some .mtr
  else if a < 0x40240000 then some .bil
  else if a < 0x40280000 then some .sig
  else if a < 0x402C0000 then some .sfy
  else if a < 0x40300000 then some .rng
  else if a < 0x40340000 then some .lsw
  else if a < 0x40380000 then some .est
  else if a < 0x403C0000 then some .tim
  else if a < 0x40400000 then some .can
  else if a < 0x40440000 then some .dkl
  else if a < 0x40480000 then some .eth
  else if a < 0x404C0000 then some .sto
  else none

/-- The registers of a block. -/
def Blk.regs : Blk → List Rg
  | .sys => regsSYS | .evt => regsEVT | .hst => regsHST | .lpe => regsLPE | .cln => regsCLN | .prt => regsPRT
  | .alc => regsALC | .veh => regsVEH | .thm => regsTHM | .mtr => regsMTR | .bil => regsBIL | .sig => regsSIG
  | .sfy => regsSFY | .rng => regsRNG | .lsw => regsLSW | .est => regsEST | .tim => regsTIM | .can => regsCAN
  | .dkl => regsDKL | .eth => regsETH | .sto => regsSTO

/-- The register, with its member, at a bus address. -/
def rgAt (a : Nat) : Option (Rg × Nat) :=
  match blockAt a with
  | none => none
  | some b => b.regs.findSome? fun r => (r.memberAt a).map fun i => (r, i)

/-- The register, with its member, at a key of the register file. -/
def rgOfKey (k : Nat) : Option (Rg × Nat) :=
  match blockAt (keyBase k) with
  | none => none
  | some b => (b.regs.find? fun r => r.addr == keyBase k).map fun r => (r, k % 65536)

/-- Where a reset stops: warm keeps the shroud and the bits marked so; cold keeps what lies in MRAM; the exit from
Stow keeps the power-state controller too. -/
inductive ResetKind where
  | warm | cold | resume
  deriving DecidableEq, Repr

/-- The bits of a register word that a reset keeps. The supply monitors keep running through every reset. -/
def keptBits (k : ResetKind) (r : Rg) : Word :=
  if r = R.SYS_SUPSTAT then 0xFFFFFFFF else
  match k with
  | .cold => r.mram
  | .warm => if blockAt r.addr = some .sfy || r = R.LSW_SUP then 0xFFFFFFFF else r.keep ||| r.mram
  | .resume => if blockAt r.addr = some .sys && r.addr < 0x40000100 then 0xFFFFFFFF else r.mram

/-- A word after a reset: its reset word but for the bits kept. -/
def resetWord (k : ResetKind) (r : Rg) (i : Nat) (w : Word) : Word :=
  (r.resetAt i &&& ~~~keptBits k r) ||| (w &&& keptBits k r)

/-- The register file after a reset. -/
def State.resetRegs (s : State) (k : ResetKind) : List (Nat × Word) :=
  s.regs.foldr (fun e l =>
    match rgOfKey e.1 with
    | none => l
    | some (r, i) => cellsPut (r.resetAt i) l e.1 (resetWord k r i e.2)) []

end Sys2Proof.Machine
end

