-- ==== Sys2Proof/Machine/Host.lean ====
section
/-! DEFINITION. The host port: queues, descriptors and completions, messages, device operations, and the event
router's clears (R578 to R602). -/

namespace Sys2Proof.Machine

/-- A cause of the HST block: bit `j` raises event 8 + j (R601). -/
def hstCause (j : Nat) (s : State) : State := s.causeOn Fl.HST_STAT_CAUSE Fl.HST_CTL_EVEN 0 j (8 + j)

/-! ### Slots and queues (R582, R584, R591) -/

/-- The operation in a slot. -/
def State.op (s : State) (k : Nat) : Option HostOp := (s.host.slots.toList.getD k none)

/-- The slots in use, with their operations. -/
def State.ops (s : State) : List (Nat × HostOp) :=
  (List.range 48).filterMap fun k => (s.op k).map fun o => (k, o)

/-- Operations in flight from a queue. -/
def State.inflight (s : State) (q : Nat) : Nat := (s.ops.filter fun e => e.2.queue == q).length

/-- Shows the counts of operations in flight. -/
def showInflight (q : Nat) (s : State) : State :=
  (s.setF Fl.HST_QSTAT_INFL q (s.inflight q)).setF Fl.HST_STAT_INFLIGHT 0 s.ops.length

/-- Puts an operation into a slot, and shows it in OPSTAT. -/
def putOp (k : Nat) (o : HostOp) (s : State) : State :=
  let s := { s with host.slots := s.host.slots.setIfInBounds k (some o) }
  showInflight o.queue (s.setF Fl.HST_OPSTAT_QID k o.queue |>.setF Fl.HST_OPSTAT_STATE k o.state
    |>.setF Fl.HST_OPSTAT_OP k o.op |>.setF Fl.HST_OPSTAT_TAG k o.tag)

/-- Shows the step counts of a slot. -/
def putSteps (k d t : Nat) (s : State) : State :=
  s.setF Fl.HST_OPSTEPS_DONE k d |>.setF Fl.HST_OPSTEPS_TOTAL k t

/-- State of a queue: 0 off, 1 running, 2 stopping, 3 enable pending. -/
def State.queueState (s : State) (q : Nat) : Nat := s.f Fl.HST_QSTAT_STATE q

/-- A queue that starts: both rings empty at their first slot, PHASE 1 (R585, R599). -/
def queueStart (q : Nat) (s : State) : State :=
  let s := s.setF Fl.HST_SQTAIL_TAIL q 0 |>.setF Fl.HST_SQHEAD_HEAD q 0 |>.setF Fl.HST_CQTAIL_TAIL q 0
    |>.setF Fl.HST_CQHEAD_HEAD q 0 |>.setF Fl.HST_QSTAT_STATE q 1
  { s with host.phase := s.host.phase.setIfInBounds q true }

/-- A stopping queue with nothing in flight is off, or starts where an enable is pending (R599). -/
def queueSettle (q : Nat) (s : State) : State :=
  if s.inflight q != 0 then s else
  match s.queueState q with
  | 2 => s.setF Fl.HST_QSTAT_STATE q 0 |>.setF Fl.HST_SQTAIL_TAIL q 0 |>.setF Fl.HST_SQHEAD_HEAD q 0
      |>.setF Fl.HST_CQTAIL_TAIL q 0 |>.setF Fl.HST_CQHEAD_HEAD q 0
  | 3 => queueStart q s
  | _ => s

/-- Setting EN starts a queue that is off, and is recorded as pending while it is stopping (R599). -/
def queueEnable (q : Nat) (s : State) : State :=
  if 32 ≤ q then s else
  let s := s.setB Fl.HST_QCFG_EN q true
  match s.queueState q with
  | 0 => queueStart q s
  | 2 => s.setF Fl.HST_QSTAT_STATE q 3
  | _ => s

/-- Clearing EN stops fetching from a queue (R599). -/
def queueDisable (q : Nat) (s : State) : State :=
  if 32 ≤ q then s else
  let s := s.setB Fl.HST_QCFG_EN q false
  match s.queueState q with
  | 1 => queueSettle q (s.setF Fl.HST_QSTAT_STATE q 2)
  | 3 => s.setF Fl.HST_QSTAT_STATE q 2
  | _ => s

/-- A doorbell: the new tail keeps every waiting descriptor waiting; any other, and one to a queue that does not
run, is ignored with ERR (R582). A valid one is a wake source (R42). -/
def doorbell (q tail : Nat) (s : State) : State :=
  if 32 ≤ q then s else
  let head := s.f Fl.HST_SQHEAD_HEAD q
  let old := (s.f Fl.HST_SQTAIL_TAIL q + 16 - head) % 16
  let new := (tail % 16 + 16 - head) % 16
  if s.queueState q != 1 || new < old then hstCause 6 (s.setB Fl.HST_QSTAT_ERR q true)
  else (s.setF Fl.HST_SQTAIL_TAIL q (tail % 16)).wake 3

/-! ### Payload addresses (R581, R583) -/

/-- The host data window in SRAM. -/
def State.windowBase (s : State) : Nat := 0x20000000 + s.f Fl.HST_WIN_BASE * 0x100000
def State.windowSize (s : State) : Nat := s.f Fl.HST_WIN_SIZE * 0x100000

/-- HOSTMEM, IRQ and FENCE of an operation. -/
def HostOp.hostMem (o : HostOp) : Bool := bitOf o.flags 0
def HostOp.irq (o : HostOp) : Bool := bitOf o.flags 1
def HostOp.fence (o : HostOp) : Bool := bitOf o.flags 2

/-- An address and length that an operation may use. -/
def State.reachable (s : State) (o : HostOp) (a n : Nat) : Bool := o.hostMem || a + n ≤ s.windowSize

/-- Reads the payload of an operation; what the model has not written to host memory is a free value. -/
def readPayload (o : HostOp) (a n : Nat) (s : State) : List Byte × State :=
  if o.hostMem then
    let d := s.draw
    let l := fitTo n (Config.hostBytes d.1 a n)
    ((List.range n).map fun i => (cellsFind s.host.hostMem (a + i)).getD (l.getD i 0), d.2)
  else (s.bytes (s.windowBase + a) n, s)

/-- Lists bytes at consecutive addresses. -/
def cellsFill : Nat → List Byte → List Host.Cell → List Host.Cell
  | _, [], m => m
  | a, v :: vs, m => cellsFill (a + 1) vs (cellsInsert m a v)

/-- Writes the result of an operation. -/
def writePayload (o : HostOp) (a : Nat) (l : List Byte) (s : State) : State :=
  if o.hostMem then { s with host.hostMem := cellsFill a l s.host.hostMem }
  else s.dma (s.windowBase + a) l

/-! ### Fetch (R583, R584, R588) -/

/-- Word `w` of descriptor `i` of a queue. -/
def State.sqWord (s : State) (q i w : Nat) : Word := s.reg R.HST_SQMEM ((q * 16 + i) * 16 + w)

/-- The descriptor at index `i` of a queue (R583). -/
def State.descriptor (s : State) (q i : Nat) : HostOp :=
  let w (n : Nat) : Nat := (s.sqWord q i n).toNat
  { queue := q, op := w 0 % 256, flags := w 0 / 256 % 256, tag := w 0 / 65536, len := w 1
    addr := w 2 + 2 ^ 32 * w 3, raddr := w 4 + 2 ^ 32 * w 5, rlen := w 6
    args := (List.range 8).map fun n => s.sqWord q i (8 + n)
    raw := (List.range 16).flatMap fun n => leBytes 4 (w n), state := 3 }

/-- The stepped operations (R590). -/
def steppedOp (op : Nat) : Bool := 0x81 ≤ op && op ≤ 0x85

/-- The device operations of R588. -/
def deviceOp (op : Nat) : Bool := (0x80 ≤ op && op ≤ 0x86) || op == 0x8F

/-- A queue from which a descriptor can be fetched now (R584). -/
def State.fetchable (s : State) (q : Nat) : Bool :=
  let head := s.f Fl.HST_SQHEAD_HEAD q
  let n := s.inflight q
  let used := (s.f Fl.HST_CQTAIL_TAIL q + 16 - s.f Fl.HST_CQHEAD_HEAD q) % 16
  s.queueState q == 1 && head != s.f Fl.HST_SQTAIL_TAIL q && n < s.f Fl.HST_QCFG_QMAX q + 1 &&
  n + used < 15 && (n == 0 || !(s.descriptor q head).fence)

/-- The queue served next at a priority level, round-robin in ascending number. -/
def State.nextQueue (s : State) (prio last : Nat) : Option Nat :=
  ((List.range 32).map fun i => (last + 1 + i) % 32).find? fun q =>
    s.f Fl.HST_QCFG_PRIO q == prio && s.fetchable q

/-- Ends an operation: words 1 to 3 of its completion are known. A stepped operation raises STEPEND (R591). -/
def endOp (k status : Nat) (r0 r1 : Word) (s : State) : State :=
  match s.op k with
  | none => s
  | some o =>
    if o.ended then s else
    let s := putOp k { o with ended := true, status := status, result0 := r0, result1 := r1 } s
    let s := { s with host.endOrder := s.host.endOrder ++ [k], host.storageOrder := s.host.storageOrder.erase k }
    s.when (steppedOp o.op) (hstCause 5)

/-- The status that turns an operation away as it is fetched: HOSTMEM on QSPI, a queue without DEVOPS, an unknown
OP (R588, R589). -/
def State.turnAway (s : State) (o : HostOp) : Option Nat :=
  if 0x90 ≤ o.op then some 1
  else if 0x80 ≤ o.op && !s.b Fl.HST_QCFG_DEVOPS o.queue then some 3
  else if 0x80 ≤ o.op && !deviceOp o.op then some 1
  else if o.hostMem && !s.pcie then some 2
  else none

/-- Fetches the next descriptor (R584). -/
def descriptorFetch (s : State) : State :=
  if s.host.fetchStopped then s else
  match s.nextQueue 0 s.host.lastQueue0, s.nextQueue 1 s.host.lastQueue1,
      (List.range 48).find? fun k => (s.op k).isNone with
  | some q, _, some k => fetch q k { s with host.lastQueue0 := q }
  | none, some q, some k => fetch q k { s with host.lastQueue1 := q }
  | _, _, _ => s
where
  /-- Takes the descriptor at the head of a queue into a slot. -/
  fetch (q k : Nat) (s : State) : State :=
    let head := s.f Fl.HST_SQHEAD_HEAD q
    let o := s.descriptor q head
    let o := if o.op < 0x80 then { o with state := 1 } else o
    let s := putSteps k 0 0 (putOp k o (s.setF Fl.HST_SQHEAD_HEAD q ((head + 1) % 16)))
    match s.turnAway o with
    | some st => endOp k st 0 0 s
    | none => s

/-! ### Completion (R585) -/

/-- Frees a slot. -/
def freeOp (k : Nat) (s : State) : State :=
  let q := match s.op k with | some o => o.queue | none => 0
  let s := { s with host.slots := s.host.slots.setIfInBounds k none, host.endOrder := s.host.endOrder.erase k
                    host.storageOrder := s.host.storageOrder.erase k, sig.hostDone := cellsErase s.sig.hostDone k
                    sig.queue := s.sig.queue.filter fun r : SignReq => r.slot != some k
                    sig.current := s.sig.current.map fun x : Signing =>
                      if x.req.slot == some k then { x with req := { x.req with slot := none } } else x }
  queueSettle q (showInflight q (s.setReg R.HST_OPSTAT k 0 |>.setReg R.HST_OPSTEPS k 0))

/-- Writes the completion of an operation that has ended, and frees its slot. -/
def writeCompletion (k : Nat) (s : State) : State :=
  match s.op k with
  | none => s
  | some o =>
    let q := o.queue
    let i := s.f Fl.HST_CQTAIL_TAIL q
    let ph := s.host.phase.toList.getD q true
    let at_ := (q * 16 + i) * 4
    let s := s.setReg R.HST_CQMEM at_ (BitVec.ofNat 32 (o.tag + 65536 * q + 2 ^ 31 * b2n ph))
      |>.setReg R.HST_CQMEM (at_ + 1) (BitVec.ofNat 32 (o.status % 65536 + 65536 * b2n o.more))
      |>.setReg R.HST_CQMEM (at_ + 2) o.result0 |>.setReg R.HST_CQMEM (at_ + 3) o.result1
      |>.setF Fl.HST_CQTAIL_TAIL q ((i + 1) % 16)
    let s := if i = 15 then { s with host.phase := s.host.phase.setIfInBounds q (!ph) } else s
    (freeOp k s).when o.irq (hstCause 0)

/-- Completions are written in the order in which operations end: every one up to slot `k`. -/
def completeThrough (k : Nat) (s : State) : State :=
  let l := s.host.endOrder
  if l.contains k then s.eachOf (l.take (l.idxOf k + 1)) writeCompletion else s

/-- Ends an operation and writes its completion, behind those that have ended before it. -/
def completeNow (k status : Nat) (r0 r1 : Word) (s : State) : State := completeThrough k (endOp k status r0 r1 s)

/-- Step 3 of the save sequence: every operation in flight completes with status 6 (R593). -/
def interruptOps (s : State) : State :=
  s.eachOf s.ops fun e s => completeNow e.1 6 0 0 s

/-! ### Messages (R586, R587) -/

/-- A message operation in flight that has not ended. -/
def HostOp.message (o : HostOp) : Bool := o.op < 0x80 && !o.ended

/-- The descriptor is copied into the next entry of its hart's ring, where the ring has room. -/
def messageDeliver (k : Nat) (s : State) : State :=
  match s.op k with
  | none => s
  | some o =>
    let n := s.f Fl.HST_QCFG_HART o.queue
    if !o.message || o.delivered || 16 ≤ s.host.ringHeld.toList.getD n 0 then s else
    let i := s.host.ringNext.toList.getD n 0
    let s := s.dma (s.f Fl.HST_HRING_BASE n * 1024 + 64 * i) o.raw
    let s := { s with host.ringNext := s.host.ringNext.setIfInBounds n ((i + 1) % 16)
                      host.ringHeld := s.host.ringHeld.setIfInBounds n (s.host.ringHeld.toList.getD n 0 + 1) }
    hstCause (1 + n) (putOp k { o with delivered := true } s)

/-- A hart returns entries of its message ring. -/
def ringReturn (n cnt : Nat) (s : State) : State :=
  { s with host.ringHeld := s.host.ringHeld.setIfInBounds n (s.host.ringHeld.toList.getD n 0 - cnt % 32) }

/-- The message in flight that a queue and a tag name. -/
def State.messageAt (s : State) (q tag : Nat) : Option Nat :=
  (s.ops.find? fun e => e.2.message && e.2.queue == q && e.2.tag == tag).map (·.1)

/-- GO of a hart's completion registers: the message in flight completes; a tag the block completed itself is
LATE, and any other an ERR. -/
def hartCompletion (n : Nat) (s : State) : State :=
  if 4 ≤ n then s else
  let q := s.f Fl.HST_HCOP_QID n
  let tag := s.f Fl.HST_HCOP_TAG n
  match s.messageAt q tag with
  | some k =>
    let s := match s.op k with
      | none => s
      | some o => putOp k { o with more := s.b Fl.HST_HCSTMO_MORE n } s
    completeNow k (s.f Fl.HST_HCSTMO_STATUS n) (s.reg R.HST_HCRES0 n) (s.reg R.HST_HCRES1 n) s
  | none =>
    if s.host.lateTags.contains (q, tag) then
      { s.setB Fl.HST_HCSTAT_LATE n true with host.lateTags := s.host.lateTags.erase (q, tag) }
    else s.setB Fl.HST_HCSTAT_ERR n true

/-- The block itself completes a message; a later GO for its tag is late. -/
def messageEnd (k status : Nat) (s : State) : State :=
  match s.op k with
  | none => s
  | some o =>
    if !o.message then s
    else completeNow k status 0 0 { s with host.lateTags := s.host.lateTags ++ [(o.queue, o.tag)] }

/-- TMO ms have passed since the fetch of a message (R587). -/
def messageTimeout (k : Nat) (s : State) : State :=
  match s.op k with
  | none => s
  | some o => if s.f Fl.HST_QCFG_TMO o.queue = 0 then s else messageEnd k 7 s

/-! ### Device operations (R588, R589, R592) -/

/-- Argument `n` of an operation. -/
def HostOp.arg (o : HostOp) (n : Nat) : Nat := (o.args.getD n 0).toNat

/-- Carries out an operation of one OP that waits for its engine. -/
def onOp (k op : Nat) (f : HostOp → State → State) (s : State) : State :=
  match s.op k with
  | none => s
  | some o => if o.op == op && !o.ended then f o s else s

/-- NOP completes with no effect. -/
def opNop (k : Nat) (s : State) : State := onOp k 0x80 (fun _ => endOp k 0 0 0) s

/-- The steps an operation of the crypto engine takes: computed from the job, in a number the manual does not
state. -/
def cryptoSteps (k : Nat) (s : State) : State :=
  let d := s.draw
  let n := d.1 % 65535 + 1
  putSteps k n n d.2

/-- The slot INSTALL writes: the one that is not running. -/
def State.spareSlot (s : State) : Nat :=
  match s.images.slot with | some 0 => 1 | some _ => 0 | none => 1 - min 1 s.sys.slotOrder

/-- INSTALL: the image at ADDR is checked under R104 and written to the slot that does not run; RESULT0 gives the
code of IMG_STATUS. One cut short by an ABORT leaves that slot empty (R592). -/
def opInstall (k : Nat) (s : State) : State :=
  onOp k 0x81 (fun o s =>
    if o.aborting then endOp k 5 0 0 (setImgSlot s.spareSlot (fun _ => {}) s)
    else if !s.reachable o o.addr o.len then endOp k 2 0 0 s
    else
      let r := readPayload o o.addr o.len s
      let s := cryptoSteps k r.2
      let c := s.checkResult r.1
      if imgType r.1 != 1 && imgType r.1 != 2 then endOp k 4 (BitVec.ofNat 32 c) 0 s
      else if c != 1 then endOp k 4 (BitVec.ofNat 32 c) 0 s
      else if s.f Fl.STO_STAT_STATE != 2 then endOp k 4 0x10 0 s
      else if !s.nvOk then endOp k 8 (BitVec.ofNat 32 c) 0 s
      else endOp k 0 1 0 (writeSlot r.1 s)) s

/-- KEYGEN: 1 starts a generation of the meter key, 2 of the attestation key; conditions unmet give status 4 with
the job's status. One cut short by an ABORT uses up its generation number (R592). -/
def opKeygen (k : Nat) (s : State) : State :=
  onOp k 0x84 (fun o s =>
    let key := o.arg 0
    if key != 1 && key != 2 then endOp k 4 0 0 s
    else if o.aborting then endOp k 5 0 0 (spendGen (key - 1) (s.newGen (key - 1)) s)
    else
      let r := keygen (key - 1) (cryptoSteps k s)
      endOp k (if r.1 = 0 then 0 else 4) (BitVec.ofNat 32 r.1) 0 r.2) s

/-- ATTEST: the report over the nonce is queued for its signature; the envelope goes to RADDR. Without a token it
ends with status 4 and the job's status (R407). -/
def opAttest (k : Nat) (s : State) : State :=
  onOp k 0x85 (fun o s =>
    match cellsFind s.sig.hostDone k with
    | some env =>
      let s := { s with sig.hostDone := cellsErase s.sig.hostDone k }
      if o.aborting then endOp k 5 0 0 s
      else endOp k 0 0 0 (writePayload o o.raddr env (cryptoSteps k s))
    | none =>
      if o.aborting then endOp k 5 0 0 { s with sig.queue := s.sig.queue.filter fun r : SignReq => r.slot != some k }
      else if o.rlen < 5187 || !s.reachable o o.raddr 5187 then endOp k 2 0 0 s
      else if o.delivered then s
      else
        let r := attest (o.args.flatMap fun w => leBytes 4 w.toNat) none (some k) s
        match r.1 with
        | some st => endOp k 4 (BitVec.ofNat 32 st) 0 r.2
        | none => putOp k { o with state := 2, delivered := true } r.2) s

/-- ABORT: a message ends at once, a stepped operation at its next step boundary; RESULT0 is 1 when it acted
(R592). -/
def opAbort (k : Nat) (s : State) : State :=
  onOp k 0x86 (fun o s =>
    match s.ops.find? fun e => e.1 != k && e.2.queue == o.queue && e.2.tag == o.arg 0 && !e.2.ended &&
        (e.2.op < 0x80 || steppedOp e.2.op) with
    | none => endOp k 0 0 0 s
    | some (j, t) =>
      if t.op < 0x80 then endOp k 0 1 0 (messageEnd j 5 s)
      else endOp k 0 1 0 (putOp j { t with aborting := true } s)) s

/-! ### Events (R595, R596, R598) -/

/-- A block holds an enabled cause bit of a source set. -/
def State.heldSource (s : State) (i : Nat) : Bool :=
  let both (a b : Fld) (x y : Nat) : Bool := (s.f a x &&& s.f b y) != 0
  let bits (a b : Fld) (l : List Nat) : Bool := l.any fun j => bitOf (s.f a &&& s.f b) j
  if i < 8 then false
  else if i < 16 then bits Fl.HST_STAT_CAUSE Fl.HST_CTL_EVEN [i - 8]
  else if i < 32 then
    let ev : Fld := ⟨R.CLN_LANEEV, 0, 14⟩
    both ev Fl.CLN_CTL_EVEN (i - 16) (i - 16) || both ev Fl.CLN_CTL_EVEN i (i - 16)
  else if i < 56 then
    (List.range 64).any fun g => s.eventPort g == i - 32 && both ⟨R.PRT_GCAUSE, 0, 29⟩ Fl.PRT_CTL_EVEN g 0
  else if i < 64 then bits Fl.ALC_STAT_CAUSE Fl.ALC_CTL_EVEN [i - 56]
  else if i < 72 then bits Fl.THM_STAT_CAUSE Fl.THM_CTL_EVEN [i - 64]
  else if i < 80 then bits Fl.MTR_STAT_CAUSE Fl.MTR_CTL_EVEN [i - 72]
  else if i < 88 then bits Fl.BIL_STAT_CAUSE Fl.BIL_CTL_EVEN [i - 80]
  else if i < 96 then bits Fl.SIG_STAT_CAUSE Fl.SIG_CTL_EVEN [i - 88]
  else if i < 104 then bits Fl.SFY_STAT_CAUSE Fl.SFY_CTL_EVEN [i - 96]
  else if i < 108 then bits Fl.RNG_CAUSE_CAUSE Fl.RNG_CTL_EVEN
    (match i with | 104 => [0, 1, 2, 3, 4] | 105 => [5, 6, 7, 8] | 106 => [9, 10, 11, 12] | _ => [13, 14, 15])
  else if i < 112 then bits Fl.LSW_STAT_CAUSE Fl.LSW_CTL_EVEN
    (match i with | 108 => [0, 1, 3] | 109 => [2] | 110 => [4, 5] | _ => [6, 7])
  else if i < 116 then bits Fl.EST_STAT_CAUSE Fl.EST_CTL_EVEN [2 * (i - 112), 2 * (i - 112) + 1]
  else if i < 120 then bits Fl.TIM_STAT_CAUSE Fl.TIM_CTL_EVEN
    (match i with | 116 => [0, 7] | 117 => [1] | 119 => [5, 6] | _ => [2, 3, 4])
  else if i < 124 then
    [2 * (i - 120), 2 * (i - 120) + 1].any fun n => both Fl.CAN_STAT_CAUSE Fl.CAN_CTL_EVEN n n
  else if i = 124 then both Fl.DKL_STAT_CAUSE Fl.DKL_CTL_EVEN 0 0
  else if i = 125 then
    both Fl.ETH_STAT_CAUSE Fl.ETH_CTL_EVEN 0 0 || both Fl.ETH_STAT_CAUSE Fl.ETH_CTL_EVEN 1 1
  else if i = 126 then both Fl.STO_STAT_CAUSE Fl.STO_CTL_EVEN 0 0
  else both ⟨R.LPE_STAT, 0, 9⟩ Fl.LPE_CTL_EVEN 0 0

/-- Clears pending bits; one whose block still holds an enabled cause bit sets again in the next clock (R595). -/
def eventClear (j : Nat) (mask : Nat) (s : State) : State :=
  if 4 ≤ j then s else
  let old := s.f Fl.EVT_PEND_PEND j
  let again := (List.range 32).foldl (fun m i =>
    if bitOf (old &&& mask) i && s.heldSource (32 * j + i) then setBit m i else m) 0
  s.setF Fl.EVT_PEND_PEND j ((old &&& (mask ^^^ 0xFFFFFFFF)) ||| again)

/-- The host clears pending bits of sources routed to a host line (R598). -/
def hostEventClear (j : Nat) (mask : Nat) (s : State) : State :=
  eventClear j ((List.range 32).foldl (fun m i =>
    if bitOf mask i && s.b Fl.EVT_ROUTE_HEN (32 * j + i) then setBit m i else m) 0) s

/-- LINEACK: with MSI the vector of each acknowledged line that is still active is sent again (R596). -/
def lineAck (mask : Nat) (s : State) : State := s.sendMsi (mask &&& s.activeLines)

/-- The blocks with an enable recorded as pending (R600). -/
def State.pendSum (s : State) : Nat :=
  let any (n : Nat) (p : Nat → Bool) : Nat := b2n ((List.range n).any p)
  b2n (s.harts.toList.any fun h => h.run == .startPending) +
  2 * any 64 (fun b => s.f Fl.LPE_BSTAT_STATE b == 3) + 4 * any 32 (fun j => s.f Fl.CLN_LANESTAT_STATE j == 4) +
  8 * any 64 (fun g => s.b Fl.PRT_GSTAT_PEND g) + 16 * b2n (s.f Fl.ALC_STAT_STATE == 3) +
  32 * any 48 (fun c => s.b Fl.VEH_SSTAT_PEND c) + 64 * any 16 (fun n => s.f Fl.LSW_CHSTAT_STATE n == 6) +
  128 * any 8 (fun n => s.f Fl.CAN_STAT_STATE n == 3) + 256 * b2n (s.f Fl.DKL_STAT_STATE == 3) +
  512 * any 32 (fun q => s.f Fl.HST_QSTAT_STATE q == 3) + 1024 * s.f Fl.SYS_PWRSTAT_WAKE_PEND +
  2048 * any 2 (fun m => s.f Fl.ETH_STAT_STATE m == 3)

/-- The host link comes up or goes down. On PCI Express the host then grants MSI vectors or keeps INTA, which the
manual leaves to it: a free value (R579). -/
def linkChange (up : Bool) (s : State) : State :=
  let s := hstCause 7 (s.setB Fl.HST_STAT_LINK 0 up)
  if !s.pcie then s
  else if !up then { s with host.msiVectors := 0 }
  else
    let d := s.draw
    { d.2 with host.msiVectors := [0, 1, 2, 4, 8].getD (d.1 % 5) 0 }

end Sys2Proof.Machine
end

