-- ==== Sys2Proof/Machine/Storage.lean ====
section
/-! DEFINITION. The eMMC and its engine: archive writes, EXPORT, COMPACT, program requests, initialisation and
failures (R379 to R381, R400, R588 to R592, R612 to R619). -/

namespace Sys2Proof.Machine

/-- A cause of the STO block: any enabled one raises event 126 (R619). -/
def stoCause (j : Nat) (s : State) : State := s.causeOn Fl.STO_STAT_CAUSE Fl.STO_CTL_EVEN 0 j 126

/-- Bytes a storage step moves at most (R590). -/
def stepBytes : Nat := 4096

/-- The storage engine can run a step: the device is ready, in Run or Luff (R618). -/
def State.stoReady (s : State) : Bool := s.f Fl.STO_STAT_STATE == 2 && s.f Fl.SYS_PWRSTAT_STATE ≤ 1

/-! ### The archive (R379, R381, R400, R613) -/

/-- Bytes of a group's records. -/
def ArchiveGroup.bytes (g : ArchiveGroup) : Nat := 64 * g.records.length

/-- Blocks of the archive region in use. -/
def State.archiveUse (s : State) : Nat :=
  s.sto.archive.foldl (fun n (g : ArchiveGroup) =>
    n + Config.archiveBlocks g.bytes + (match g.envelope with | some e => Config.archiveBlocks e.length | none => 0)) 0 +
  s.sto.envelopes.foldl (fun n (e : List Byte) => n + Config.archiveBlocks e.length) 0

/-- Shows the blocks in use. -/
def showArchive (s : State) : State := s.setF Fl.STO_ARCHUSE_BLOCKS 0 s.archiveUse

/-- The region has room for an item. -/
def State.archiveRoom (s : State) (n : Nat) : Bool :=
  s.archiveUse + Config.archiveBlocks n ≤ s.f Fl.STO_ARCHEND_BLOCK + 1 - 67584

/-- The archive write served next. -/
inductive ArchiveItem where
  /-- a staged group -/
  | group (g : ArchiveGroup)
  /-- a signed root with the last ISEQ it covers -/
  | root (iseq : Nat) (env : List Byte)
  /-- another envelope -/
  | envelope (env : List Byte)
  deriving DecidableEq, Repr

/-- Staged groups first, then signed roots, then other envelopes. -/
def State.archiveItem (s : State) : Option ArchiveItem :=
  match s.bil.staged.find? fun g : ArchiveGroup => !(s.sto.archive.any fun a : ArchiveGroup => a.iseq == g.iseq) with
  | some g => some (.group g)
  | none =>
    match s.sig.roots, s.sig.envelopes with
    | r :: _, _ => some (.root r.1 r.2)
    | [], e :: _ => some (.envelope e)
    | [], [] => none

/-- Length of an item, bytes. -/
def ArchiveItem.length : ArchiveItem → Nat
  | .group g => g.bytes
  | .root _ e => e.length
  | .envelope e => e.length

/-- Attaches a root to the newest archived group it covers. -/
def attachRoot (iseq : Nat) (env : List Byte) : List ArchiveGroup → List ArchiveGroup
  | [] => []
  | g :: rest =>
    if g.envelope.isNone && g.iseq ≤ iseq && rest.all (fun h : ArchiveGroup => iseq < h.iseq) then
      { g with envelope := some env } :: rest
    else g :: attachRoot iseq env rest

/-- An item has been written and read back. A root commits LASTROOT and its digest, raises ROOT, and frees the
staged groups it covers (R400). -/
def archiveDone (x : ArchiveItem) (s : State) : State :=
  match x with
  | .group g => { s with sto.archive := s.sto.archive ++ [g] }
  | .root i e =>
    let staged := s.bil.staged.filter fun g : ArchiveGroup => i < g.iseq
    let s := { s with sto.archive := attachRoot i e s.sto.archive, sig.roots := s.sig.roots.drop 1
                      sig.prevKept := digest e, bil.staged := staged }
    sigCause 0 (s.setF Fl.SIG_LASTROOT_ISEQ 0 i |>.setF Fl.BIL_ARCH_BACKLOG 0 staged.length)
  | .envelope e => { s with sto.envelopes := s.sto.envelopes ++ [e], sig.envelopes := s.sig.envelopes.drop 1 }

/-- One step of the archive write in progress. A full region writes nothing further, with cause FULL (R613). -/
def archiveStep (x : ArchiveItem) (s : State) : State :=
  if s.sto.moved = 0 && !s.archiveRoom x.length then stoCause 6 s
  else
    let m := s.sto.moved + stepBytes
    if x.length ≤ m then showArchive (archiveDone x { s with sto.moved := 0 }) else { s with sto.moved := m }

/-! ### EXPORT (R588, R590, R591) -/

/-- The CRC of a record holds (R374). -/
def recordOk (r : List Byte) : Bool := leNat (r.drop 60) == (crc32 (r.take 60)).toNat

/-- The archived roots: first and last ISEQ, envelope. -/
def State.archivedRoots (s : State) : List (Nat × Nat × List Byte) :=
  s.sto.archive.filterMap fun g : ArchiveGroup => g.envelope.map fun e =>
    (leNat ((e.drop 0x40).take 4), leNat ((e.drop 0x44).take 4), e)

/-- What EXPORT writes for a range of ISEQ and a meter mask: for each signed root in ISEQ order the records it
covers, then its envelope. -/
def State.exportItems (s : State) (lo hi mask : Nat) : List (Nat × List Byte) :=
  s.archivedRoots.flatMap fun r =>
    (s.sto.archive.flatMap fun g : ArchiveGroup =>
      if r.1 ≤ g.iseq && g.iseq ≤ r.2.1 && lo ≤ g.iseq && g.iseq ≤ hi then
        (g.records.filter fun e => bitOf mask e.1).map fun e => (g.iseq, e.2)
      else []) ++
    (if lo ≤ r.2.1 && r.2.1 ≤ hi then [(r.2.1, r.2.2)] else [])

/-- The whole items that fit a length, and the ISEQ of the first that does not. -/
def fitItems : Nat → List (Nat × List Byte) → List (Nat × List Byte) × Option Nat
  | _, [] => ([], none)
  | n, x :: rest =>
    if x.2.length ≤ n then
      let r := fitItems (n - x.2.length) rest
      (x :: r.1, r.2)
    else ([], some x.1)

/-- Total length of items. -/
def itemBytes (l : List (Nat × List Byte)) : Nat := l.foldl (fun n x => n + x.2.length) 0

/-- Joins the storage round-robin with a number of steps. -/
def joinStorage (k steps : Nat) (s : State) : State :=
  putSteps k 0 steps { s with host.storageOrder := s.host.storageOrder ++ [k] }

/-- Starts an EXPORT: TOTAL is fixed from the archive index. -/
def opExport (k : Nat) (s : State) : State :=
  onOp k 0x82 (fun o s =>
    if o.state != 3 then s
    else if !s.reachable o o.raddr o.rlen then endOp k 2 0 0 s
    else
      let r := fitItems o.rlen (s.exportItems (o.arg 0) (o.arg 1) (o.arg 2))
      joinStorage k (ceilDiv (itemBytes r.1) stepBytes)
        (putOp k { o with state := 2, items := r.1, more := r.2.isSome
                          result0 := BitVec.ofNat 32 (itemBytes r.1)
                          result1 := BitVec.ofNat 32 (r.2.getD 0) } s)) s

/-- One step of an EXPORT: the next 4,096 bytes leave; the last step ends it. A record whose CRC fails as it is
read counts in tamper class 13. -/
def exportStep (k : Nat) (o : HostOp) (s : State) : State :=
  let all := o.items.flatMap (·.2)
  let s := if o.moved = 0 then
      s.eachOf (o.items.filter fun x => x.2.length == 64 && !recordOk x.2) fun _ s => tamper 13 s
    else s
  let s := writePayload o (o.raddr + o.moved) ((all.drop o.moved).take stepBytes) s
  let m := o.moved + stepBytes
  let s := putOp k { o with moved := m } (s.addF Fl.HST_OPSTEPS_DONE k 1)
  if all.length ≤ m then endOp k 0 o.result0 o.result1 s else s

/-! ### COMPACT (R588, R592) -/

/-- Archive groups older than an age in days whose covering root is archived. -/
def State.oldGroups (s : State) (days : Nat) : List ArchiveGroup :=
  s.sto.archive.filter fun g : ArchiveGroup =>
    g.close + days * 86400000000000 < s.now &&
    s.archivedRoots.any fun r => r.1 ≤ g.iseq && g.iseq ≤ r.2.1

/-- Starts a COMPACT: an age of less than 400 days is refused. -/
def opCompact (k : Nat) (s : State) : State :=
  onOp k 0x83 (fun o s =>
    if o.state != 3 then s
    else if o.arg 0 < 400 then endOp k 4 0 0 s
    else joinStorage k (s.oldGroups (o.arg 0)).length (putOp k { o with state := 2 } s)) s

/-- One step of a COMPACT: it removes at most one group; a closed write gate ends it with status 8. -/
def compactStep (k : Nat) (o : HostOp) (s : State) : State :=
  match s.oldGroups (o.arg 0) with
  | [] => endOp k 0 o.result0 0 s
  | g :: rest =>
    if !s.nvOk then endOp k 8 o.result0 0 s else
    let s := showArchive { s with sto.archive := s.sto.archive.erase g }
    let r := o.result0 + 1
    let s := putOp k { o with result0 := r } (s.addF Fl.HST_OPSTEPS_DONE k 1)
    if rest.isEmpty then endOp k 0 r 0 s else s

/-! ### Program requests (R615) -/

/-- A request ends: DONE, ERR, cause DONE, and cause ERR where it failed. -/
def requestEnd (k err : Nat) (s : State) : State :=
  let s := { s with host.storageOrder := s.host.storageOrder.erase (48 + k) }
  let s := s.setB Fl.STO_REQSTAT_BUSY k false |>.setB Fl.STO_REQSTAT_DONE k true |>.setF Fl.STO_REQSTAT_ERR k err
  (stoCause 0 s).when (err != 0) (stoCause 1)

/-- GO starts a request; it is ignored while the slot is busy. -/
def requestGo (k : Nat) (v : Word) (s : State) : State :=
  if 4 ≤ k then s
  else if s.b Fl.STO_REQSTAT_BUSY k then s
  else
    let s := plainWrite R.STO_REQCMD k v s
    if !v.toNat.testBit 31 then s else
    let n := s.f Fl.STO_REQCMD_COUNT k
    let s := s.setReg R.STO_REQSTAT k 0
    if n = 0 || 256 < n || s.f Fl.STO_PASIZE_BLOCKS < s.f Fl.STO_REQBLK_BLOCK k + n then requestEnd k 2 s
    else if !inSram (s.f Fl.STO_REQADDR_ADDR k * 32) (512 * n) then requestEnd k 3 s
    else { s.setB Fl.STO_REQSTAT_BUSY k true with host.storageOrder := s.host.storageOrder ++ [48 + k] }

/-- Writes bytes into the user area. -/
def emmcFill : Nat → List Byte → State → State
  | _, [], s => s
  | a, v :: vs, s => emmcFill (a + 1) vs { s with sto.emmc := cellsPut (0 : Byte) s.sto.emmc a v }

/-- One step of a request: at most eight blocks; a write only while the gates are open. -/
def requestStep (k : Nat) (s : State) : State :=
  let wr := s.b Fl.STO_REQCMD_WR k
  if wr && !s.nvOk then requestEnd k 7 s else
  let n := s.f Fl.STO_REQCMD_COUNT k
  let m := s.f Fl.STO_REQSTAT_MOVED k
  let c := min 8 (n - m)
  let ram := s.f Fl.STO_REQADDR_ADDR k * 32 + 512 * m
  let blk := (s.f Fl.STO_PAREA_BLOCK + s.f Fl.STO_REQBLK_BLOCK k + m) * 512
  let s := if wr then emmcFill blk (s.bytes ram (512 * c)) s
    else s.dma ram ((List.range (512 * c)).map fun i => cellsGet (0 : Byte) s.sto.emmc (blk + i))
  let s := s.setF Fl.STO_REQSTAT_MOVED k (m + c)
  if n ≤ m + c then requestEnd k 0 s else s

/-- Step 7 of the save sequence: writes in flight are abandoned at their last complete block (R618). -/
def abandonWrites (s : State) : State :=
  (s.each 4 fun k s => s.when (s.b Fl.STO_REQSTAT_BUSY k) (requestEnd k 4)) |> fun s => { s with sto.moved := 0 }

/-! ### The engine (R590) -/

/-- A command of the device has succeeded. -/
def commandOk (s : State) : State := { s with sto.failed := 0, sto.attempts := 0 }

/-- One step of the operation at the head of the round-robin, which then goes to its tail. -/
def turnStep (x : Nat) (s : State) : State :=
  let s := { s with host.storageOrder := s.host.storageOrder.erase x ++ [x] }
  if 48 ≤ x then requestStep (x - 48) s else
  match s.op x with
  | none => s
  | some o =>
    if o.aborting then endOp x 5 o.result0 0 s
    else if o.op = 0x82 then exportStep x o s
    else compactStep x o s

/-- One step of the storage engine: staged archive writes first, then the round-robin. -/
def storageStep (s : State) : State :=
  if !s.stoReady then s else
  match s.archiveItem, s.host.storageOrder with
  | some x, rest =>
    if s.nvOk && s.sys.saveStep = 0 && !s.sys.saveEnd && (s.sto.moved != 0 || s.archiveRoom x.length) then archiveStep x (commandOk s)
    else
      let s := s.when (s.nvOk && s.sys.saveStep = 0 && !s.sys.saveEnd) (stoCause 6)
      match rest with
      | y :: _ => turnStep y (commandOk s)
      | [] => s
  | none, y :: _ => turnStep y (commandOk s)
  | none, [] => s

/-! ### Initialisation and failures (R612, R616, R617) -/

/-- Wear indicators; WEAR on warning or urgent, or from 80 % of the life used (R617). The codes are those of
JESD84-B51: PRE_EOL_INFO 2 and 3, life-time estimate 9 and above (PRESUMED). -/
def showHealth (preEol estA estB : Nat) (s : State) : State :=
  let s := s.setF Fl.STO_HEALTH_PREEOL 0 preEol |>.setF Fl.STO_HEALTH_ESTA 0 estA |>.setF Fl.STO_HEALTH_ESTB 0 estB
  s.when (preEol == 2 || preEol == 3 || 9 ≤ estA || 9 ≤ estB) (stoCause 3)

/-- The reset land is pulsed and the device initialises again (R618). -/
def emmcRestart (s : State) : State :=
  { s.setF Fl.STO_STAT_STATE 0 1 |>.setF Fl.STO_STAT_MODE 0 0 with sto.failed := 0, sto.attempts := 0, sto.moved := 0 }

/-- An initialisation ends: a device found comes up in the mode its tuning selected; three that fail in a row leave
it absent. -/
def emmcInit (found : Bool) (mode blocks preEol estA estB : Nat) (s : State) : State :=
  if 1 < s.f Fl.STO_STAT_STATE || 1 < s.f Fl.SYS_PWRSTAT_STATE then s
  else if found && 1 ≤ mode && mode ≤ 4 && 0x400000 ≤ blocks then
    let slow := mode ≤ 2
    let s := { s with sto.initFailed := 0, sto.failed := 0, sto.attempts := 0 }
    let s := s.setF Fl.STO_STAT_STATE 0 2 |>.setF Fl.STO_STAT_MODE 0 mode |>.setB Fl.STO_STAT_SLOW 0 slow
      |>.setF Fl.STO_CAP_BLOCKS 0 blocks |>.setF Fl.STO_PAREA_BLOCK 0 (blocks - 2097152)
      |>.setF Fl.STO_ARCHEND_BLOCK 0 (blocks - 2097152 - 1)
    showHealth preEol estA estB (s.when slow (stoCause 4))
  else
    let n := s.sto.initFailed + 1
    if 3 ≤ n then stoCause 7 { s.setF Fl.STO_STAT_STATE 0 0 |>.setF Fl.STO_STAT_MODE 0 0 with sto.initFailed := 0 }
    else { s.setF Fl.STO_STAT_STATE 0 1 with sto.initFailed := n }

/-- Every 10 s an absent device is initialised again (R616). -/
def emmcRetry (s : State) : State := if s.f Fl.STO_STAT_STATE = 0 then emmcRestart s else s

/-- The operation whose step is under way ends with a device error (R616). -/
def stepFails (s : State) : State :=
  match s.archiveItem, s.host.storageOrder with
  | some _, _ => { s with sto.moved := 0 }
  | none, x :: _ => if 48 ≤ x then requestEnd (x - 48) 1 s else endOp x 4 0x10 0 s
  | none, [] => s

/-- A command fails: it is retried up to three times; then its operation ends with an error. Three failures in a row
initialise the device again, with cause REINIT (R616). -/
def commandFail (s : State) : State :=
  if s.f Fl.STO_STAT_STATE != 2 then s else
  let s := if s.sto.attempts < 3 then { s.satF Fl.STO_CNT_RETRY 0 1 with sto.attempts := s.sto.attempts + 1 }
    else stepFails { s with sto.attempts := 0 }
  if s.sto.failed + 1 < 3 then { s with sto.failed := s.sto.failed + 1 }
  else
    let a := s.sto.attempts
    let s := emmcRestart (stoCause 2 (s.satF Fl.STO_CNT_REINIT 0 1))
    { s with sto.attempts := a }

end Sys2Proof.Machine
end

