-- ==== Sys2Proof/Machine/Reset.lean ====
section
/-! DEFINITION. The resets: what each kind clears and what it keeps (R11, R44 to R48, R638). -/

namespace Sys2Proof.Machine

/-- A hart after a reset that keeps local stores, or one that does not. -/
def resetHart (keep : Bool) (h : HartCtx) : HartCtx := { localStore := if keep then h.localStore else [] }

/-- What the estimator keeps in MRAM of a pack (R519). -/
def keptPack (p : Pack) : Pack := { saved := p.saved, lastRest := p.lastRest }

/-- What signing keeps in MRAM (R392, R399, R411). -/
def keptSig (x : SigState) : SigState :=
  { record0 := x.record0, record1 := x.record1, prevKept := x.prevKept, prev := x.prevKept, tlsKeys := x.tlsKeys
    genUsed0 := x.genUsed0, genUsed1 := x.genUsed1 }

/-- What the eMMC keeps: its contents. -/
def keptSto (x : StoState) : StoState :=
  { emmc := x.emmc, archive := x.archive, envelopes := x.envelopes, layoutOk := x.layoutOk }

/-- The blocks of the control die that every reset clears (R48). -/
def resetBlocks (s : State) : State :=
  let x : SigState := keptSig s.sig
  let e : EstState := { pack := s.est.pack.map keptPack }
  let t : TimeState := { s.time with stepPend := none, calPend := none, fifos := Vector.replicate 4 [] }
  { s with
    latches := [], holds := [], cln := {}, prt := {}, veh := {}, alc := {}, thm := { saved := s.thm.saved }, sig := x
    rng := { secret := s.rng.secret }, est := e, time := t, host := { hostMem := s.host.hostMem }
    eth := Vector.replicate 2 {}, sto := keptSto s.sto, cans := Vector.replicate 8 {}, dkl := {}
    images.tickets := Vector.replicate 4 none
    bil.display := Vector.replicate 24 {}, bil.sessions := [] }

/-- Power and boot state at the start of a boot: the lands held low, or the reference not qualified, hold it. A warm
reset during a cold boot starts the main track again; the shroud and the analog die go on. -/
def startBoot (k : BootKind) (s : State) : State :=
  let again := k = .warm && s.sys.bootKind = .cold && s.sys.phase != .running
  { s with
    sys.phase := if s.sys.rstLow || s.sys.refWait then .held else .booting
    sys.bootKind := if again then .cold else k
    sys.mainStep := 0, sys.shroudStep := if again then s.sys.shroudStep else 0
    sys.analogStep := if again then s.sys.analogStep else 0, sys.nvPause := false
    sys.saveStep := 0, sys.saveEnd := false, sys.heldCauses := 0, sys.target := none, sys.committed := false
    sys.wakePend := 0, sys.onHp := false, sys.resumeStarted := false, sys.wdtHalf := false, sys.coldWait := false
    sys.tried := [], sys.fetched := [], sys.fetchedSlot := none, sys.refetch := false }

/-- The eMMC is initialised again after a reset (R618). -/
def stoAfterReset (s : State) : State := s.setF Fl.STO_STAT_STATE 0 1

/-- The host port that HSEL selects, shown (R578). -/
def showPort (s : State) : State := s.setF Fl.HST_STAT_PORT 0 s.sys.hsel

/-- Sets the bits of SYS_RSTCAUSE. -/
def addCause (bits : Nat) (s : State) : State :=
  s.setReg R.SYS_RSTCAUSE 0 (s.reg R.SYS_RSTCAUSE ||| BitVec.ofNat 32 bits)

/-- A warm reset with its causes: the control die but for the shroud, RWS fields, MRAM and the RTC; the analog die
keeps running; the shroud applies its contactor rule; channels are held (R44, R47, R48, R498). -/
def warmReset (causes : Nat) (s : State) : State :=
  let old := s
  let s := releaseAll true (addCause causes s)
  let wdt := s.reg R.SYS_WDTCTL
  let s := { s with regs := s.resetRegs .warm }
  let s := s.setReg R.SYS_WDTCTL 0 (if wdt.toNat.testBit 31 then wdt else R.SYS_WDTCTL.reset)
  let s := resetBlocks (billingReset s)
  let s := { s with harts := s.harts.map (resetHart true), lpe := { kernels := s.lpe.kernels }, mtr.queue := [] }
  showPort (stoAfterReset (startBoot .warm (lswWarm old s)))

/-- A cold reset with its one cause: everything but MRAM, the RTC and the eMMC; coil outputs de-energise, trip
targets go to their reset levels (R44, R45, R48). -/
def coldReset (cause : Nat) (s : State) : State :=
  let s := { s with regs := s.resetRegs .cold }
  let s := s.setReg R.SYS_RSTCAUSE 0 (BitVec.ofNat 32 cause)
  let s := resetBlocks (billingReset s)
  let m : MtrState := { committed := s.mtr.committed, run := s.mtr.run }
  let s := { s with
    harts := s.harts.map (resetHart false), lpe := {}, sfy := {}, lsw := {}, mtr := m
    mem := s.mem.filter fun c => c.1 < 0x28000000
    sys.clockWindow := none, time.inc := 21474836480 }
  showPort (stoAfterReset (startBoot .cold s))

/-- A warm-reset cause: recorded and held while a save runs or the device holds in the save-end state, else acting
at once (R638). -/
def warmCause (bit : Nat) (s : State) : State :=
  if s.sys.phase == .off || s.f Fl.SYS_PWRSTAT_STATE = 3 then s
  else if s.sys.saveStep != 0 || s.sys.saveEnd then
    addCause (2 ^ bit) { s with sys.heldCauses := setBit s.sys.heldCauses bit }
  else warmReset (2 ^ bit) s

/-- Some port carries 5 A or more (R45). -/
def State.portsCarry (s : State) : Bool := (List.range 24).any fun p => decide (5000 ≤ (s.portCurrent p).natAbs)

/-- SYS_RSTCTL.COLD: the shroud's contactor rule comes first; before step 3 of a save it is recorded and held (R45,
R638). -/
def softwareCold (s : State) : State :=
  if s.sys.phase == .off || s.sys.phase == .held then s
  else if s.sys.saveStep != 0 || s.sys.saveEnd then
    if s.sys.saveStep = 1 || s.sys.saveStep = 2 then
      addCause 4 { s with sys.heldCauses := setBit s.sys.heldCauses 2 }
    else s
  else { releaseAll false s with sys.coldWait := true }

/-- The requested cold reset asserts once every port's current is below 5 A, or 2 ms have passed; the boot lands are
sampled at its end (R45, R49). -/
def coldAssert (elapsed : Bool) (bootsel hsel : Nat) (s : State) : State :=
  if s.sys.coldWait && (elapsed || !s.portsCarry) then
    coldReset 4 { s with sys.bootsel := bootsel % 4, sys.hsel := hsel % 2 }
  else s

end Sys2Proof.Machine
end

