-- ==== Sys2Proof/Machine/Boot.lean ====
section
/-! DEFINITION. The boots: the three tracks, image choice and refusal, the join, and the resume from Stow (R43, R49
to R54, R101, R103). -/

namespace Sys2Proof.Machine

/-- Clears SRAM to zero (R53). -/
def clearSram (s : State) : State := { s with mem := s.mem.filter fun c => !(0x20000000 ≤ c.1 && c.1 < 0x21800000) }

/-- The boot status of a slot: REFUSE_A or REFUSE_B (R56). -/
def setRefuse (k code : Nat) (s : State) : State :=
  s.setF (if k = 0 then Fl.SYS_BOOTSTAT_REFUSE_A else Fl.SYS_BOOTSTAT_REFUSE_B) 0 code

/-- A slot is refused with its reason; event 7 (R51, R57). -/
def refuseSlot (k code : Nat) (s : State) : State :=
  (setRefuse k code { s with sys.tried := s.sys.tried ++ [k] }).raise 7

/-- The boot ROM serves queue 0 of the host port (R588, R601). -/
def openBootQueue (s : State) : State :=
  if s.b Fl.HST_STAT_BOOTROM then s
  else queueEnable 0 (s.setB Fl.HST_STAT_BOOTROM 0 true |>.setB Fl.HST_QCFG_DEVOPS 0 true)

/-- The boot ROM stops serving: queue 0 is at its reset values again. -/
def closeBootQueue (s : State) : State :=
  if !s.b Fl.HST_STAT_BOOTROM then s else
  let s := s.eachOf (s.ops.filter fun e => e.2.queue == 0) fun e s => completeThrough e.1 s
  let s := s.eachOf (s.ops.filter fun e => e.2.queue == 0) fun e s => freeOp e.1 s
  queueSettle 0 ((s.setB Fl.HST_STAT_BOOTROM 0 false |>.setReg R.HST_QCFG 0 R.HST_QCFG.reset).setF Fl.HST_QSTAT_STATE 0 2)

/-- Boot hold: coils de-energised, channels off; the host port accepts recovery images; event 7 (R51). -/
def bootHold (s : State) : State :=
  let s := (s.each 48 coilOff).each 48 releasePoles
  openBootQueue ((lswAllOff { s with sys.phase := .bootHold, sys.fetched := [], sys.fetchedSlot := none }).setB
    Fl.SYS_BOOTSTAT_HOLD 0 true |>.raise 7)

/-- The host is the image source: the boot ROM waits for BOOT on a port that is up, else the device holds. -/
def tryHost (s : State) : State :=
  if s.sys.bootsel != 0 || s.b Fl.HST_STAT_LINK then openBootQueue s else bootHold s

/-- The main track's image fetch from the slots in their order: empty and used-up slots are refused (R50, R53). -/
def fetchSlot : List Nat → State → State
  | [], s => tryHost s
  | k :: rest, s =>
    if s.sys.tried.contains k then fetchSlot rest s else
    let x := s.imgSlot k
    if x.state = .empty then fetchSlot rest (refuseSlot k 5 s)
    else if x.state = .trial && 3 ≤ x.trials then
      fetchSlot rest (refuseSlot k 6 (setImgSlot k (fun y => { y with state := .empty }) s))
    else { s with sys.fetched := s.slotImage k, sys.fetchedSlot := some k, sys.mainStep := 4 }

/-- The layout record is written where none is found and both slots are empty; any other failure of it holds the
boot with LAYOUT (R613). -/
def layoutCheck (s : State) : State :=
  if s.sto.layoutOk then s
  else if s.sys.slotA.state = .empty && s.sys.slotB.state = .empty then { s with sto.layoutOk := true }
  else bootHold (stoCause 5 (s.setB Fl.STO_STAT_LAYOUT 0 true))

/-- Step 4 of the main track: the image is fetched. With BOOTSEL 0 the eMMC comes first; without the device the host
is tried (R49, R616). -/
def fetchImage (s : State) : State :=
  if s.sys.bootsel != 0 then tryHost s
  else match s.f Fl.STO_STAT_STATE with
    | 1 => s
    | 2 =>
      let s := layoutCheck s
      if s.sys.phase = .bootHold then s else fetchSlot [s.sys.slotOrder % 2, 1 - s.sys.slotOrder % 2] s
    | _ => tryHost s

/-- BOOT: the boot ROM takes the image at window offset 0. It is refused as R51 states; in recovery, and in boot
hold, any type but recovery is refused as malformed (R49, R51). -/
def opBoot (k : Nat) (s : State) : State :=
  onOp k 0x8F (fun o s =>
    if !s.b Fl.HST_STAT_BOOTROM then endOp k 4 0 0 s
    else if !s.reachable { o with flags := 0 } 0 o.len || o.len = 0 then endOp k 2 0 0 s
    else
      let b := s.bytes s.windowBase o.len
      let only := s.sys.bootsel = 3 || s.sys.phase = .bootHold
      let r := if only && imgType b != 2 then 8 else s.bootRefusal b
      if r != 0 then (endOp k 4 (BitVec.ofNat 32 r) 0 s).raise 7
      else
        let src := if only then 3 else if s.pcie then 1 else 2
        endOp k 0 0 0 ({ s with sys.fetched := b, sys.fetchedSlot := none, sys.mainStep := 4, sys.phase := .booting
                                images.source := src }.setB Fl.SYS_BOOTSTAT_HOLD 0 false)) s

/-- The running image, shown: source, slot, trial count, confirmation (R56). -/
def showImage (s : State) : State :=
  let x := match s.images.slot with | some k => s.imgSlot k | none => {}
  let s := s.setF Fl.SYS_BOOTSTAT_SOURCE 0 s.images.source |>.setF Fl.SYS_BOOTSTAT_SLOT 0 (s.images.slot.getD 0)
  s.setF Fl.SYS_BOOTSTAT_TRIAL 0 (if x.state = .trial then x.trials else 0)
    |>.setB Fl.SYS_BOOTCFG_CONFIRMED 0 (s.images.slot.isSome && x.state = .confirmed)

/-- One more boot of a slot in trial state. -/
def countTrial (s : State) : State :=
  match s.images.slot with
  | none => s
  | some k => setImgSlot k (fun x => if x.state = .trial then { x with trials := x.trials + 1 } else x) s

/-- Step 5 of the main track: the image is verified and placed. A refused slot sends the track back to the fetch; a
segment that the closed write gates keep out of the MRAM program area holds the boot with reason 7 (R51, R101). -/
def verifyImage (s : State) : State :=
  let b := s.sys.fetched
  let r := s.bootRefusal b
  if r != 0 then
    match s.sys.fetchedSlot with
    | some k => refuseSlot k r { s with sys.mainStep := 3, sys.fetched := [], sys.fetchedSlot := none }
    | none => { s with sys.mainStep := 3, sys.fetched := [] }.raise 7
  else if (imgSegments b).any (s.segRefused b) then
    match s.sys.fetchedSlot with
    | some k => bootHold (setRefuse k 7 s)
    | none => bootHold s
  else
    let slot := s.sys.fetchedSlot
    let src := if slot.isSome then 0 else s.images.source
    let s := closeBootQueue (placeBoot b s)
    let s := countTrial { s with images.slot := slot, images.source := src, sys.fetched := [], sys.fetchedSlot := none
                                 sys.mainStep := 5 }
    let pend := s.sys.bootKind = .warm && s.images.safetyImage != s.images.shroudImage
    showImage (s.setB Fl.SYS_BOOTSTAT_SFYPEND 0 pend)

/-- A slot that waits for its first trial boot (R54). -/
def State.newTrial (s : State) : Bool :=
  (s.sys.slotA.state = .trial && s.sys.slotA.trials = 0) || (s.sys.slotB.state = .trial && s.sys.slotB.trials = 0)

/-- The main track reaches its MRAM step: it pauses there while NVOK is 0 (R53, R313). -/
def mramStep (s : State) : State := { s with sys.mainStep := 2, sys.nvPause := !s.b Fl.THM_JSTAT_NVOK }

/-- The running slot may be booted once more. -/
def State.trialLeft (s : State) : Bool :=
  match s.images.slot with | none => true | some k => (s.imgSlot k).state != .trial || (s.imgSlot k).trials < 3

/-- A warm boot compares the resident image with its seal: on a match it is ready at once; a slot that waits for
its first trial boot, or a mismatch, goes on as a cold boot from the MRAM step (R54). -/
def warmCompare (s : State) : State :=
  if s.newTrial then mramStep (clearSram { s with sys.refetch := true })
  else if !s.images.entries.isEmpty && s.sealNow s.images.sealRanges == s.images.sealHash && s.trialLeft then
    let s := countTrial { s with sys.mainStep := 5 }
    let s := s.setB Fl.SYS_BOOTSTAT_SFYPEND 0 (s.images.safetyImage != s.images.shroudImage)
    showImage (s.setB Fl.SYS_BOOTSTAT_WARMHASH 0 true)
  else mramStep { s with sys.refetch := true }

/-- A step of the main track ends. -/
def mainStepEnd (s : State) : State :=
  match s.sys.mainStep with
  | 0 => { s.setB Fl.SYS_CLKSTAT_LOCK 0 true |>.setB Fl.SYS_CLKSTAT_BACKUP 0 false with sys.mainStep := 1 }
  | 1 => if s.sys.bootKind = .warm then warmCompare s else mramStep (clearSram s)
  | 2 =>
    if s.sys.nvPause then s else
    let v := match s.sys.raiseSecVer with | some v => max v s.sys.minSecVer | none => s.sys.minSecVer
    { s with sys.mainStep := 3, sys.minSecVer := v, sys.raiseSecVer := none }
  | 3 => fetchImage s
  | 4 => verifyImage s
  | _ => s

/-- A step of a boot track ends. The shroud loads its image once the main track has placed it; in a warm boot the
shroud and the analog die go on as they are. -/
def bootStepEnd (t : Track) (s : State) : State :=
  if s.sys.phase != .booting || s.sys.bootKind = .resume || s.sys.saveStep != 0 || s.sys.saveEnd then s else
  match t with
  | .main => mainStepEnd s
  | .shroud =>
    if s.sys.bootKind = .warm then s
    else if s.sys.shroudStep = 0 then { s with sys.shroudStep := 1 }
    else if s.sys.shroudStep = 1 && s.sys.mainStep = 5 then
      { s with sys.shroudStep := 2, sfy.running := true, images.shroudImage := s.images.safetyImage }
    else s
  | .analog => if s.sys.bootKind = .warm then s else { s with sys.analogStep := 1 }

/-- NVOK is 1: a paused main track goes on (R313). -/
def bootResume (s : State) : State :=
  if s.sys.phase = .booting && s.sys.nvPause && s.b Fl.THM_JSTAT_NVOK then { s with sys.nvPause := false } else s

/-- The three tracks have ended. -/
def State.tracksEnded (s : State) : Bool :=
  s.sys.mainStep == 5 && (s.sys.bootKind = .warm || (s.sys.shroudStep == 2 && s.sys.analogStep == 1))

/-- Bit number of the reset cause that an interruption record names: the highest one set (R376). -/
def State.causeBit (s : State) : Nat :=
  (List.range 11).foldl (fun n i => if bitOf (s.reg R.SYS_RSTCAUSE).toNat i then i else n) 0

/-- What every block takes up from MRAM at a boot. -/
def blocksBoot (s : State) : State := estBoot (thermalBoot (signBoot s))

/-- The entries of the running image become the entry registers of P1 to P3 (R88). -/
def setEntries (s : State) : State :=
  s.each 4 fun n s => s.setReg R.SYS_HARTENTRY n (BitVec.ofNat 32 (s.images.entries.getD n 0) &&& R.SYS_HARTENTRY.rw)

/-- The join: time is reloaded, raw accumulators are folded, interruption records written, and P0 is released (R53,
R54, R529, R530). -/
def bootJoin (s : State) : State :=
  if s.sys.phase != .booting || s.sys.bootKind = .resume || s.sys.saveStep != 0 || s.sys.saveEnd || !s.tracksEnded
  then s else
  let warm := s.sys.bootKind = .warm
  let s := if warm then metersRestart none s else metersRestart (some (s.mtr.run + 1)) (timeReload s)
  let s := blocksBoot (restartSettle warm s.causeBit s)
  let s := setEntries { s with sys.phase := .running }
  let s := s.setB Fl.SYS_PWRSTAT_IMGRDY 0 true |>.setB Fl.SYS_PWRSTAT_SFYRDY 0 true |>.setB Fl.SYS_PWRSTAT_ANARDY 0 true
  startHart 0 (BitVec.ofNat 32 (s.images.entries.getD 0 0)) s

/-! ### Resume from Stow (R43) -/

/-- A failed handler or image on leaving Stow: the device takes a cold boot. -/
def resumeFailed (s : State) : State := coldReset 0 s

/-- The handler range is copied from MRAM to SRAM and checked; P0 starts in it, in Run. -/
def stowHandler (s : State) : State :=
  if s.f Fl.SYS_PWRSTAT_STATE != 3 || s.sys.target != some 0 || s.sys.resumeStarted then s else
  match s.images.resume with
  | none => resumeFailed s
  | some r =>
    let b := s.bytes r.start r.len
    if Config.shake256 b 32 != r.hash then resumeFailed s else
    let s := { s with regs := s.resetRegs .resume }
    let s := resetBlocks (billingReset s)
    let s := { s with harts := s.harts.map (resetHart false), lpe := {}, lsw := {}, mem := s.mem.filter fun c => c.1 < 0x20000000 }
    let s := timeReload (showPort (stoAfterReset (s.setBytes r.sram b)))
    let s := { s with sys.resumeStarted := true, sys.bootKind := .resume, sys.phase := .running, sys.onHp := false }
    let s := s.setF Fl.SYS_PWRSTAT_PREV 0 3 |>.setF Fl.SYS_PWRSTAT_STATE 0 0
      |>.setB Fl.SYS_PWRSTAT_IMGRDY 0 false |>.setB Fl.SYS_PWRSTAT_SFYRDY 0 false |>.setB Fl.SYS_PWRSTAT_ANARDY 0 false
    let s := s.setB Fl.SYS_CLKSTAT_LOCK 0 true |>.setB Fl.SYS_CLKSTAT_BACKUP 0 false
    startHart 0 (BitVec.ofNat 32 r.sram) (blocksBoot s)

/-- The running slot is fetched, verified and placed around the handler range; event 0. -/
def stowImage (s : State) : State :=
  if !s.sys.resumeStarted || s.b Fl.SYS_PWRSTAT_IMGRDY || s.f Fl.STO_STAT_STATE != 2 then s else
  match s.images.slot, s.images.resume with
  | some k, some r =>
    let b := s.slotImage k
    if s.bootRefusal b != 0 || (imgSegments b).any (s.segRefused b) then resumeFailed s else
    let keep := s.bytes r.sram r.len
    let s := setEntries ((placeBoot b s).setBytes r.sram keep)
    { s.setB Fl.SYS_PWRSTAT_IMGRDY 0 true |>.setB Fl.SYS_PWRSTAT_BUSY 0 false with sys.target := none }.raise 0
  | _, _ => resumeFailed s

/-- The shroud has tested itself and loaded its image. -/
def stowShroud (s : State) : State :=
  if !s.sys.resumeStarted || !s.b Fl.SYS_PWRSTAT_IMGRDY || s.b Fl.SYS_PWRSTAT_SFYRDY then s
  else { s.setB Fl.SYS_PWRSTAT_SFYRDY 0 true with sfy.running := true, images.shroudImage := s.images.safetyImage }

/-- The analog die is ready: accumulators are folded and GAP records written. -/
def stowAnalog (s : State) : State :=
  if !s.sys.resumeStarted || s.b Fl.SYS_PWRSTAT_ANARDY then s
  else restartSettle false s.causeBit (metersRestart (some (s.mtr.run + 1)) (s.setB Fl.SYS_PWRSTAT_ANARDY 0 true))

end Sys2Proof.Machine
end

