-- ==== Sys2Proof/Machine/Power.lean ====
section
/-! DEFINITION. Clocks, supplies, the save sequence, the power ladder, the watchdog and the reset requests (R25 to
R48, R50, R479, R625, R638). -/

namespace Sys2Proof.Machine

/-! ### Reference and clock check (R27 to R29) -/

/-- The reference is lost, or the PLL has lost lock: REFLOST, event 2, a warm reset; the boot waits for the reference.
In Stow only the reference oscillator is alive and nothing runs from it (R28, R38). -/
def referenceLost (bit : Nat) (s : State) : State :=
  if s.sys.phase == .off || s.f Fl.SYS_PWRSTAT_STATE = 3 then s else
  let s := { s.setB Fl.SYS_CLKSTAT_REFLOST 0 true with sys.refWait := true }
  warmCause bit (s.setB Fl.SYS_CLKSTAT_LOCK 0 false |>.setB Fl.SYS_CLKSTAT_BACKUP 0 true |>.raise 2)

/-- A held boot goes on once RST_N is high and the reference is qualified. -/
def releaseHeld (s : State) : State :=
  if s.sys.phase == .held && !s.sys.rstLow && !s.sys.refWait then { s with sys.phase := .booting } else s

/-- The reference has been present and the PLL locked for 10 ms. -/
def referenceQualified (s : State) : State := releaseHeld { s with sys.refWait := false }

/-- The clock check of one 20 µs window: more than 5 % between the 50 MHz clock and a quarter of the shroud's clock
fails. A failing window after a passing one, or the first one, is a fault: CCHK, event 2, and the shroud's release
rule on every port (R29, R418). -/
def clockWindow (m n : Nat) (s : State) : State :=
  if s.sys.phase == .off || s.f Fl.SYS_PWRSTAT_STATE = 3 then s else
  let fails := decide (n < 20 * (max m n - min m n))
  let fault := fails && s.sys.clockWindow != some false
  let s := { s with sys.clockWindow := some (!fails) }
  if !fault then s
  else sfyCause 0 ((s.setB Fl.SYS_CLKSTAT_CCHK 0 true |>.raise 2).each 48 fun p s =>
    s.when (p < 24 || s.b Fl.RNG_STAT_GUEST) (demandPort 2 false p))

/-! ### What stops (R34, R38) -/

/-- The loop engine stops: every sample grid ends. -/
def engineStop (s : State) : State :=
  { s with lpe.group := s.lpe.group.map fun x => { x with grid := false }, lpe.ready := [], lpe.results := [] }

/-- The Crateuth ports stop transmitting (R35). -/
def ringSilent (s : State) : State := s.each 2 fun k s => (s.setF Fl.RNG_LINK_STATE k 0).setRp k fun _ => {}

/-- T1S PHYs and PLC basebands lose their clocks: every vehicle link is down. -/
def vehicleLinksOff (s : State) : State := { s with veh.ctx := s.veh.ctx.map fun x => { x with link := false } }

/-- Lanes, ring links, vehicle links, Ethernet, CAN and Deckline stop. -/
def portsStop (s : State) : State :=
  dklHalt (canHalt (ethHalt (vehicleLinksOff (ringSilent (s.each 32 laneQuiet)))))

/-- Records written to MRAM when a state is entered or a save runs: signing, estimator, thermal (R34, R519). -/
def closingWrites (s : State) : State := if s.nvOk then packRecords (thermalRecord (closingRecords s)) else s

/-! ### The save sequence (R33 to R37, R638) -/

/-- An early warning from VIN (1) or PFW_N (2); both within 1 µs read as 3 (R33). -/
def warning (src : Nat) (s : State) : State :=
  if s.sys.saveStep != 0 && s.f Fl.SYS_SAVESTAT_SRC + src = 3 && decide (s.tick ≤ s.sys.saveStart + 200)
  then s.setF Fl.SYS_SAVESTAT_SRC 0 3 else startSave src s

/-- A buddy is in service. -/
def State.buddyServes (s : State) : Bool := !s.b Fl.RNG_STAT_NOBUDDY && s.f Fl.RNG_STAT_BUDDY != 0

/-- The device is in Stow: the shroud, the PLL and the analog die have no power (R38). -/
def inStow (hp : Bool) (s : State) : State :=
  let s := lswAllOff { s with sfy := {}, sys.onHp := hp, sys.target := none, sys.committed := false
                              sys.resumeStarted := false
                              regs := s.regs.filter fun e => blockAt (keyBase e.1) != some .sfy }
  s.setF Fl.SYS_PWRSTAT_PREV 0 (s.f Fl.SYS_PWRSTAT_STATE) |>.setF Fl.SYS_PWRSTAT_STATE 0 3
    |>.setF Fl.SYS_PWRCTL_REQ 0 3 |>.setB Fl.SYS_PWRSTAT_BUSY 0 false |>.setB Fl.SYS_CLKSTAT_LOCK 0 false

/-- The action of a step of the save sequence. -/
def saveAction (n : Nat) (s : State) : State :=
  match n with
  | 2 =>
    let s := engineStop (lanesSave s.buddyServes s)
    ringSilent { s with sig.stopped := true, host.fetchStopped := true }
  | 3 => portsStop (interruptOps (haltHarts s))
  | 4 => closingFold s
  | 5 => boundaryAll s
  | 6 => closingWrites (commitJournal (closingFold s))
  | 7 =>
    let s := s.setB Fl.SYS_SAVESTAT_DONE 0 true
      |>.setF Fl.SYS_SAVESTAT_DURATION 0 (min ((s.tick - s.sys.saveStart) / 200) 65535)
    abandonWrites (s.raise 3)
  | 8 =>
    let s := s.setB Fl.SYS_SAVESTAT_ACTIVE 0 false
    if !s.b Fl.SYS_SUPSTAT_ABOVE_WARN && s.b Fl.SYS_SUPSTAT_HP_OK then
      inStow true { s.setB Fl.SYS_SAVESTAT_STOWED 0 true with sys.heldCauses := 0, sys.saveEnd := false }
    else { s with sys.saveEnd := true }
  | _ => s

/-- A step of the save sequence completes and the next one starts. -/
def saveStepComplete (s : State) : State :=
  let n := s.sys.saveStep
  if n = 0 then s else
  let s := saveAction n (s.setF Fl.SYS_SAVESTAT_LASTSTEP 0 n)
  { s with sys.saveStep := if n = 8 then 0 else n + 1 }

/-- The save-end state ends: VIN has stayed above 17.5 V for 10 ms and, after a thermal save, the die is below 105 °C.
A held SYS_RSTCTL.COLD turns the warm reset into a software cold reset (R37, R314, R638). -/
def saveEndRelease (s : State) : State :=
  let cool := decide (s.fi Fl.THM_JSTAT_TJMAX < 10500)
  if !s.sys.saveEnd || !s.b Fl.SYS_SUPSTAT_ABOVE_WARN || (s.f Fl.SYS_SAVESTAT_SRC = 4 && !cool) then s
  else if bitOf s.sys.heldCauses 2 then softwareCold { s with sys.saveEnd := false }
  else warmReset (setBit s.sys.heldCauses 9) s

/-! ### Supply monitor (R30, R33) -/

/-- VIN as measured. -/
def vinIs (mv : Nat) (s : State) : State := s.setF Fl.SYS_SUPSTAT_VIN_MV 0 (min mv 65535)

/-- VIN falls through V_WARN. -/
def vinBelowWarn (mv : Nat) (s : State) : State := warning 1 ((vinIs mv s).setB Fl.SYS_SUPSTAT_ABOVE_WARN 0 false)

/-- VIN rises through V_WARN: event 6 after a warning. -/
def vinAboveWarn (mv : Nat) (s : State) : State :=
  let s := { (vinIs mv s).setB Fl.SYS_SUPSTAT_ABOVE_WARN 0 true with sys.vinGone := false }
  if s.sys.vinOk then s else { s with sys.vinOk := true }.raise 6

/-- VIN crosses V_HOLD: the gate of non-volatile writes follows. -/
def vinHold (above : Bool) (mv : Nat) (s : State) : State :=
  let s := (vinIs mv s).setB Fl.SYS_SUPSTAT_ABOVE_HOLD 0 above
  { s with sys.vinGone := s.sys.vinGone && !above }

/-- No supply: everything but MRAM, the eMMC and what HP keeps is lost. -/
def powerLoss (furl : Bool) (s : State) : State :=
  let s := coldReset 1 s
  { s with sys.phase := .off, sys.furl := furl }

/-- An armed device in Stow with VIN below V_BOR disconnects HP (R40). -/
def furlCheck (s : State) : State :=
  if s.f Fl.SYS_PWRSTAT_STATE = 3 && s.sys.target.isNone && s.sys.vinGone && s.b Fl.SYS_PWRSTAT_FURL_ARMED then powerLoss true s else s

/-- VIN falls below V_BOR: Stow stays on HP, or enters Furl when armed; the save-end state enters Stow on HP; from
step 3 on HP carries the save sequence; anything else loses power (R37, R38, R40, R44). -/
def vinBrownOut (mv : Nat) (s : State) : State :=
  if s.sys.phase == .off then s else
  let s := (vinIs mv s).setB Fl.SYS_SUPSTAT_ABOVE_WARN 0 false |>.setB Fl.SYS_SUPSTAT_ABOVE_HOLD 0 false
  let s := { s with sys.vinGone := true }
  let hp := s.b Fl.SYS_SUPSTAT_HP_OK
  if s.f Fl.SYS_PWRSTAT_STATE = 3 then
    if hp || s.sys.onHp then furlCheck { s with sys.onHp := true } else powerLoss false s
  else if s.sys.saveEnd && hp then
    inStow true { s.setB Fl.SYS_SAVESTAT_STOWED 0 true with sys.heldCauses := 0, sys.saveEnd := false }
  else if 3 ≤ s.sys.saveStep && hp then s
  else powerLoss false s

/-- The lands BOOTSEL and HSEL are sampled (R49, R578). -/
def sampleLands (bootsel hsel : Nat) (s : State) : State :=
  showPort { s with sys.bootsel := bootsel % 4, sys.hsel := hsel % 2 }

/-- VIN has stayed above V_START for 5 ms: a device without power boots, with POR or after Furl FURL in RSTCAUSE; Stow
on HP wakes (R30, R42, R44). The RTC has lost its time unless HP kept it. -/
def vinAboveStart (mv bootsel hsel : Nat) (s : State) : State :=
  let s := vinIs mv s |>.setB Fl.SYS_SUPSTAT_ABOVE_WARN 0 true |>.setB Fl.SYS_SUPSTAT_ABOVE_HOLD 0 true
  let s := { s with sys.vinGone := false }
  if s.sys.phase == .off then
    let s := s.when (s.sys.furl || !s.b Fl.SYS_SUPSTAT_HP_OK) fun s => s.setB Fl.TIM_STAT_RTCVALID 0 false
    let cause := if s.sys.furl then 8 else 1
    coldReset cause (sampleLands bootsel hsel { s with sys.furl := false, sys.vinOk := true })
  else if s.f Fl.SYS_PWRSTAT_STATE = 3 && s.sys.onHp then { s with sys.onHp := false }.wake 6
  else s

/-- PFW_N after its filter: shown, and a warning while UPS_EN is 1 (R33). -/
def pfwAsserted (s : State) : State :=
  let s := s.setB Fl.SYS_SUPSTAT_PFW 0 true
  if s.b Fl.SYS_SAVECFG_UPS_EN then warning 2 s else s

/-- HP removed: in Stow on HP that is a power loss (R625). -/
def hpRemoved (s : State) : State :=
  let on := s.f Fl.SYS_PWRSTAT_STATE = 3 && s.sys.onHp
  let s := s.setB Fl.SYS_SUPSTAT_HP_OK 0 false
  if on then powerLoss false s else s

/-! ### The power ladder (R38 to R42) -/

/-- A group of a port is OFF and its context IDLE, over own ports and guest ports (R39). -/
def State.portsIdle (s : State) : Bool :=
  ((List.range 24).all fun p => s.f Fl.PRT_GSTAT_STATE p == 0) &&
  ((List.range 24).all fun h => s.f Fl.PRT_GSTAT_STATE (40 + h) == 0) &&
  (List.range 48).all fun c => s.f Fl.VEH_SSTAT_STATE c == 0

/-- A contactor is commanded or fed back closed. -/
def State.contactorClosed (s : State) : Bool :=
  (List.range 48).any fun p => s.b Fl.SFY_PSTAT_POSCMD p || s.b Fl.SFY_PSTAT_NEGCMD p || s.b Fl.SFY_PSTAT_POSCL p ||
    s.b Fl.SFY_PSTAT_NEGCL p

/-- A stepped operation is in progress: of the host queues, an image check, or a crypto job (R590). -/
def State.steppedOps (s : State) : Bool :=
  (s.ops.any fun e => steppedOp e.2.op && !e.2.ended) || !s.sig.jobs.isEmpty ||
  s.images.tickets.toList.any fun t => match t with | some x => x.status == 0 | none => false

/-- Why an entry is refused: SYS_PWRSTAT.REFUSE, 0 where it is not (R39). -/
def State.entryRefusal (s : State) (t : Nat) : Nat :=
  if (List.range 1024).any fun c => s.f Fl.CLN_CELLST_STATE c == 3 || s.f Fl.CLN_CELLST_STATE c == 4 then 1
  else if !s.portsIdle then 2
  else if t < 2 then 0
  else if s.contactorClosed then 3
  else if (s.linkUp 0 || s.linkUp 1) && s.ringState != rLeft then 4
  else if s.steppedOps then 5
  else 0

/-- REQ shows the state the device is in or is moving to. -/
def showReq (s : State) : State := s.setF Fl.SYS_PWRCTL_REQ 0 (s.sys.target.getD (s.f Fl.SYS_PWRSTAT_STATE))

/-- A transition starts. -/
def startTransition (t : Nat) (committed : Bool) (s : State) : State :=
  { s.setB Fl.SYS_PWRSTAT_BUSY 0 true |>.setF Fl.SYS_PWRCTL_REQ 0 t with sys.target := some t, sys.committed := committed }

/-- A power state is requested. Run stops an entry that has not passed its commit point, and starts the exit from Luff
or Slack; an entry is refused as R39 states. During a save, and while another transition runs, nothing starts. -/
def requestState (t : Nat) (s : State) : State :=
  if s.sys.phase != .running || s.sys.saveStep != 0 || s.sys.saveEnd then showReq s else
  match s.sys.target with
  | some x =>
    if t = 0 && x != 0 && !s.sys.committed then
      showReq { s.setB Fl.SYS_PWRSTAT_BUSY 0 false with sys.target := none }
    else showReq s
  | none =>
    let st := s.f Fl.SYS_PWRSTAT_STATE
    if t = st then showReq s
    else if t = 0 then if st = 3 then showReq s else startTransition 0 true s
    else if st != 0 then showReq s
    else
      let r := s.entryRefusal t
      if r = 0 then startTransition t false s
      else showReq (s.setF Fl.SYS_PWRSTAT_REFUSE 0 r |>.raise 4)

/-- The commit point of an entry: for Luff the hart clocks are gated, for Slack the lanes and every port stop, for Stow
the shroud loses its power too (R41). -/
def commitPoint (s : State) : State :=
  match s.sys.target with
  | some t =>
    if t = 0 || s.sys.committed then s else
    let s := { s with sys.committed := true }
    if t = 1 then engineStop s
    else portsStop (engineStop (stringCountersStop (closingWrites s)))
  | none => s

/-- Wakes recorded after the commit point start the exit at once. -/
def pendingWake (s : State) : State :=
  if s.sys.wakePend = 0 then s else
  let kind := if s.f Fl.SYS_PWRSTAT_STATE = 3 then BootKind.resume else s.sys.bootKind
  let s := s.setF Fl.SYS_WAKESRC_SRC 0 (s.f Fl.SYS_WAKESRC_SRC ||| s.sys.wakePend)
    |>.setB Fl.SYS_PWRSTAT_WAKE_PEND 0 false |>.setB Fl.SYS_PWRSTAT_FURL_ARMED 0 false
  startTransition 0 true { s with sys.wakePend := 0, sys.bootKind := kind }

/-- A transition completes: PREV, STATE, event 0. The exit from Stow completes as R43 states instead. -/
def transitionComplete (s : State) : State :=
  match s.sys.target with
  | none => s
  | some t =>
    let st := s.f Fl.SYS_PWRSTAT_STATE
    if !s.sys.committed || (t = 0 && st = 3) || s.sys.resumeStarted && t = 0 && !s.b Fl.SYS_PWRSTAT_IMGRDY then s
    else if t = 3 then
      let s := inStow false (commitJournal (closingFold s))
      pendingWake (s.raise 0)
    else
      let s := { s with sys.target := none, sys.committed := false }
      let s := s.setF Fl.SYS_PWRSTAT_PREV 0 st |>.setF Fl.SYS_PWRSTAT_STATE 0 t |>.setB Fl.SYS_PWRSTAT_BUSY 0 false
      let s := s.when (t = 2) fun s => s.setF Fl.STO_STAT_STATE 0 3
      let s := s.when (t = 0) fun s => s.setB Fl.SYS_PWRSTAT_FURL_ARMED 0 false
      let s := s.when (t = 0 && st = 2) fun s => emmcRestart (timeReload s)
      pendingWake (s.raise 0)

/-- WAKE_N, or a current of 1 A or more on a port meter in Slack (R42). -/
def startCurrent (p : Nat) (mA : Int) (s : State) : State :=
  if p < 24 && s.f Fl.SYS_PWRSTAT_STATE = 2 && decide (1000 ≤ mA.natAbs) then s.wake 1 else s

/-! ### Pin and software resets, watchdog (R44 to R46) -/

/-- RST_N has stayed low for 1 µs. -/
def pinWarm (s : State) : State := warmCause 4 { s with sys.rstLow := true }

/-- RST_N is still low 10 ms after its falling edge: a cold reset at once, with PINCOLD in place of PINWARM. -/
def pinCold (s : State) : State := if s.sys.rstLow && s.sys.phase != .off then coldReset 2 s else s

/-- The rising edge of RST_N: the boot starts; after a cold reset the lands are sampled. -/
def rstRelease (bootsel hsel : Nat) (s : State) : State :=
  let s := s.when (s.sys.phase == .held && s.sys.bootKind = .cold && s.sys.rstLow) (sampleLands bootsel hsel)
  releaseHeld { s with sys.rstLow := false }

/-- SYS_WDTCTL: EN and TIMEOUT are written while EN is 0. -/
def watchdogWrite (en : Bool) (timeout : Nat) (s : State) : State :=
  if s.b Fl.SYS_WDTCTL_EN then s
  else { s.setB Fl.SYS_WDTCTL_EN 0 en |>.setF Fl.SYS_WDTCTL_TIMEOUT 0 (clampNat 1 1000 timeout) with sys.wdtHalf := false }

/-- SYS_WDTKICK.KEY: 0x5A restarts the count, anything else expires it, while EN is 1. -/
def watchdogKey (key : Nat) (s : State) : State :=
  if !s.b Fl.SYS_WDTCTL_EN then s
  else if key = 0x5A then { s with sys.wdtHalf := false }
  else warmCause 6 s

/-- The count runs: held from a reset until P0 is released. -/
def State.watchdogRuns (s : State) : Bool := s.b Fl.SYS_WDTCTL_EN && s.sys.phase == .running

def watchdogHalf (s : State) : State :=
  if s.watchdogRuns && !s.sys.wdtHalf then { s with sys.wdtHalf := true }.raise 5 else s

def watchdogExpiry (s : State) : State := if s.watchdogRuns then warmCause 6 s else s

/-! ### Confirmation and splice (R50, R52, R479) -/

/-- SYS_BOOTCFG.CONFIRM: the running trial slot is confirmed in MRAM; a version above the minimum raises it at the next
boot. -/
def confirmSlot (s : State) : State :=
  match s.images.slot with
  | none => s
  | some k =>
    if s.f Fl.SYS_BOOTSTAT_SOURCE != 0 || (s.imgSlot k).state != .trial || !s.nvOk then s else
    let s := setImgSlot k (fun x => { x with state := .confirmed, trials := 0 }) s
    let s := if s.sys.minSecVer < s.images.secVer then { s with sys.raiseSecVer := some s.images.secVer } else s
    tamper 9 (s.setB Fl.SYS_BOOTCFG_CONFIRMED 0 true |>.setF Fl.SYS_BOOTSTAT_TRIAL 0 0)

/-- Every port has moved, or SPLTO has passed: the splicing module takes its warm reset. -/
def spliceReset (s : State) : State :=
  if s.ringState = rSplicing && s.f Fl.RNG_SPL_STEP = 2 then warmReset 0x20 (s.setF Fl.RNG_SPL_STEP 0 3) else s

end Sys2Proof.Machine
end

