-- ==== Sys2Proof/Machine/EstimatorCommands.lean ====
section
/-! DEFINITION. The commands of the battery strings and the holdover pack (R506 to R524). -/

namespace Sys2Proof.Machine

def execEstimatorStep (k : Nat) (countDelta : Int) (mv mA : Int) (s : State) : Out :=
  done (estimatorStep k countDelta mv mA s)
def execVoltageLimitCheck (k : Nat) (mv mA : Int) (s : State) : Out := done (voltageLimit k mv mA s)
def execRestStart (k : Nat) (s : State) : Out := done (restStart k s)
def execRestRepeat (k : Nat) (s : State) : Out := done (restRepeat k s)
def execCounterCheck (k : Nat) (ok : Bool) (s : State) : Out := done (counterCheck k ok s)
def execPackRecordWrite (s : State) : Out := done (packRecords s)
def execPackInsert (k : Nat) (mv : Int) (s : State) : Out := done (packAppears k mv s)
def execReestimate (k : Nat) (s : State) : Out := done (estCommand 1 k s)
def execNewpack (k : Nat) (s : State) : Out := done (estCommand 2 k s)
def execFirstEstimate (k : Nat) (s : State) : Out := done (firstEstimate k s)
def execHpChargeEnd (mA : Int) (s : State) : Out := done (hpChargeEnd mA s)
def execHpStowCheck (countDelta : Int) (mv : Int) (s : State) : Out := done (furlCheck (hpStowCheck countDelta mv s))

end Sys2Proof.Machine
end

