-- ==== Sys2Proof/Machine/HostCommands.lean ====
section
/-! DEFINITION. The commands of the host queues, the event router, the Ethernet MACs and the eMMC (R578 to R619). -/

namespace Sys2Proof.Machine

def execHostDoorbell (q tail : Nat) (s : State) : Out := done (doorbell q tail s)
def execDescriptorFetch (s : State) : Out := done (descriptorFetch s)
def execHostNop (slot : Nat) (s : State) : Out := done (opNop slot s)
def execInstall (slot : Nat) (s : State) : Out := done (opInstall slot s)
def execExportArchive (slot : Nat) (s : State) : Out := done (opExport slot s)
def execCompact (slot : Nat) (s : State) : Out := done (opCompact slot s)
def execHostKeygen (slot : Nat) (s : State) : Out := done (opKeygen slot s)
def execHostAttest (slot : Nat) (s : State) : Out := done (opAttest slot s)
def execHostAbort (slot : Nat) (s : State) : Out := done (opAbort slot s)
def execMessageOperation (slot : Nat) (s : State) : Out := done (messageDeliver slot s)
def execHartCompletion (n : Nat) (s : State) : Out := done (hartCompletion n s)
def execHartRingReturn (n cnt : Nat) (s : State) : Out := done (ringReturn n cnt s)

/-- The host returns completion slots by writing CQHEAD (R585). -/
def completionReturn (q head : Nat) (s : State) : State := if q < 32 then s.setF Fl.HST_CQHEAD_HEAD q (head % 16) else s

def execCompletionReturn (q head : Nat) (s : State) : Out := done (completionReturn q head s)
def execMessageTimeout (slot : Nat) (s : State) : Out := done (messageTimeout slot s)
def execQueueEnable (q : Nat) (s : State) : Out := done (queueEnable q s)
def execQueueDisable (q : Nat) (s : State) : Out := done (queueDisable q s)
def execOperationComplete (slot : Nat) (s : State) : Out := done (completeThrough slot s)
def execStorageStep (s : State) : Out := done (storageStep s)
def execHostEventClear (j : Nat) (mask : Word) (s : State) : Out := done (hostEventClear j mask.toNat s)
def execLineAck (mask : Byte) (s : State) : Out := done (lineAck mask.toNat s)
def execHostLinkChange (up : Bool) (s : State) : Out := done (linkChange up s)

/-- QSPI command 0x05: READY in bit 0, on the port that HSEL selects (R578, R580). -/
def qspiStatus (s : State) : State :=
  if s.pcie then s
  else { s with host.qspiOut := [BitVec.ofNat 8 (b2n (s.sys.phase == .running || s.sys.phase == .bootHold))] }

def execQspiStatus (s : State) : Out := done (qspiStatus s)
def execEthEnable (m : Nat) (s : State) : Out := done (ethEnable m s)
def execEthDisable (m : Nat) (s : State) : Out := done (ethDisable m s)
def execEthStopComplete (m : Nat) (s : State) : Out := done (ethStop m s)
def execEthTxTail (m r tail : Nat) (s : State) : Out := done (txTail m r tail s)
def execEthTxComplete (m r : Nat) (s : State) : Out := done (ethTxComplete m r s)
def execEthFrameReceived (m : Nat) (frame : List Byte) (fcsOk : Bool) (s : State) : Out := done (ethReceive m frame fcsOk s)
def execEthPause (m : Nat) (quanta : Nat) (s : State) : Out := done (ethPause m quanta s)
def execEthPauseEnd (m : Nat) (s : State) : Out := done (ethPauseEnd m s)
def execEthRxReturn (m cnt : Nat) (s : State) : Out := done (rxReturn m cnt s)
def execMdioTransaction (m : Nat) (v : Word) (s : State) : Out := done (mdioGo m v s)
def execMdioDone (m : Nat) (readData : BitVec 16) (s : State) : Out := done (mdioDone m readData s)
def execEthConfigWrite (m : Nat) (v : Word) (s : State) : Out := done (ethConfig m v s)
def execStoRequest (k : Nat) (v : Word) (s : State) : Out := done (requestGo k v s)
def execEmmcInit (found : Bool) (mode blocks preEol estA estB : Nat) (s : State) : Out :=
  done (emmcInit found mode blocks preEol estA estB s)
def execEmmcCommandFail (s : State) : Out := done (commandFail s)
def execEmmcRetry (s : State) : Out := done (emmcRetry s)

/-- Every 24 h the wear indicators are read again (R617). -/
def execEmmcHealth (preEol estA estB : Nat) (s : State) : Out :=
  done (if s.stoReady then showHealth preEol estA estB s else s)

/-- A write to a register of the HST block (R581 to R601). -/
def hstWrite (r : Rg) (i : Nat) (v : Word) (s : State) : Option State :=
  if r = R.HST_WIN then
    let b := bitsOf v 24 5
    let n := bitsOf v 0 4
    some (if 1 ≤ n && n ≤ 8 && b + n ≤ 24 then plainWrite r i v s else s)
  else if r = R.HST_HACK then some (ringReturn i v.toNat s)
  else if r = R.HST_HCGO then some (if v.toNat.testBit 31 then hartCompletion i s else s)
  else if r = R.HST_SQTAIL then some (doorbell i (v.toNat % 16) s)
  else if r = R.HST_CQHEAD then some (completionReturn i v.toNat s)
  else if r = R.HST_QCFG then
    let en := s.b Fl.HST_QCFG_EN i
    let s := (plainWrite r i v s).setB Fl.HST_QCFG_EN i en
    some (if v.toNat.testBit 31 then (if en then s else queueEnable i s)
      else if en then queueDisable i s else s)
  else none

/-- A write to a register of the EVT block (R602). -/
def evtWrite (r : Rg) (i : Nat) (v : Word) (s : State) : Option State :=
  if r = R.EVT_PEND then some (eventClear i v.toNat s)
  else if r = R.EVT_LINEACK then some (lineAck (v.toNat % 256) s)
  else none

/-- A write to a register of an Ethernet MAC (R611). -/
def ethWrite (r : Rg) (i : Nat) (v : Word) (s : State) : Option State :=
  if r = R.ETH_CTL then
    let en := s.b Fl.ETH_CTL_EN i
    let s := (plainWrite r i v s).setB Fl.ETH_CTL_EN i en
    some (if v.toNat.testBit 31 then (if en then s else ethEnable i s)
      else if en then ethDisable i s else s)
  else if r = R.ETH_CFG then some (ethConfig i v s)
  else if r = R.ETH_MDIO then some (mdioGo i v s)
  else if r = R.ETH_TXTAIL then some (txTail (i / 2) (i % 2) v.toNat s)
  else if r = R.ETH_RXACK then some (rxReturn i v.toNat s)
  else none

/-- A write to a register of the STO block (R619). -/
def stoWrite (r : Rg) (i : Nat) (v : Word) (s : State) : Option State :=
  if r = R.STO_REQCMD then some (requestGo i v s)
  else if r = R.STO_REQADDR || r = R.STO_REQBLK then
    some (if s.b Fl.STO_REQSTAT_BUSY i then s else plainWrite r i v s)
  else none

end Sys2Proof.Machine
end

