-- ==== Sys2Proof/Machine/LaneCommands.lean ====
section
/-! DEFINITION. The commands of the cell lanes (R163 to R194). -/

namespace Sys2Proof.Machine

/-! ### Commands -/

def execLaneEnable (j : Nat) (s : State) : Out := done (laneEnable j s)

def execLinkStartStepEnd (j nEnum : Nat) (s : State) : Out := done (linkStep j nEnum s)

def execCapRecord (j pos : Nat) (bytes : List Byte) (s : State) : Out :=
  done (if 32 ≤ j then s
    else if s.laneSt j == 1 && (s.ln j).step == 3 && pos < s.f Fl.CLN_LANESTAT_NENUM j then capStart j pos bytes s
    else capReadmit j pos bytes s)

def execRangeEcho (j : Nat) (pos : Option Nat) (roundTrip : Nat) (s : State) : Out :=
  done (rangeEcho j pos roundTrip s)

def execTelemetryFrame (j pos : Nat) (bytes : List Byte) (violation : Bool) (s : State) : Out :=
  done (telemetryFrame j pos bytes violation s)

def execExchangeEnd (j : Nat) (s : State) : Out := done (exchangeEnd j s)

def execCellLost (slot : Nat) (s : State) : Out := done (cellLost slot s)

def execErrorThreshold (j : Nat) (s : State) : Out := done (errorThreshold j s)

def execErrorCountersClear (mask : Word) (s : State) : Out := done (errorsClear mask s)

def execCellReadmit (slot : Nat) (s : State) : Out := done (cellReadmit slot s)

def execReadmitEnd (slot : Nat) (s : State) : Out := done (readmitEnd slot s)

def execCellmapWrite (c : Nat) (v : Word) (s : State) : Out :=
  done (if 512 ≤ c && !s.b Fl.LPE_TAKE_ACTIVE then { s with busError := true } else cellmapWrite c v s)

def execLaneDisable (j : Nat) (s : State) : Out := done (laneDisable j s)

def execLaneStopComplete (j : Nat) (elapsed : Bool) (s : State) : Out := done (laneStopped j elapsed s)

def execLaneTripFall (j : Nat) (s : State) : Out := done (if j < 32 then laneTripLevel j true s else s)

def execMgmtRequest (s : State) : Out := done (mgmtRequest s)

def execMgmtResponse (status : Nat) (cstat : Byte) (data : List Byte) (s : State) : Out :=
  done (mgmtResponse status cstat data s)

def execMgmtTimeout (s : State) : Out := done (mgmtTimeout s)

def execGuardTakeover (s : State) : Out := done (if s.b Fl.RNG_STAT_GUEST then s.each 16 guardActivate else s)

/-- The home lane links on the cells' inactive port and takes the chain back (R189). -/
def execHomeLaneReturn (k : Nat) (s : State) : Out :=
  done (if k < 16 && s.laneSt k == 0 then startLink k true s else s)

def execGuardLaneTraffic (j : Nat) (frame : List Byte) (s : State) : Out := done (guardTraffic j frame s)

def execLaneLockLost (j : Nat) (s : State) : Out := done (lockLost j s)

/-- A write to a register of the CLN block that does more than its access codes say (R165, R185, R187, R191,
R194). -/
def clnWrite (r : Rg) (i : Nat) (v : Word) (s : State) : Option State :=
  if r = R.CLN_ERRCLR then some (errorsClear v s)
  else if r = R.CLN_READMIT then some (cellReadmit (v.toNat % 1024) s)
  else if r = R.CLN_CELLMAP then some (cellmapWrite i v s)
  else if r = R.CLN_LANECFG then some (laneCfgWrite i v s)
  else if r = R.CLN_MGREQ then
    let s := s.setReg r 0 (v &&& r.rw)
    some (if bitOf v.toNat 31 then mgmtRequest s else s)
  else none

end Sys2Proof.Machine
end

