-- ==== Sys2Proof/Machine/LoopCommands.lean ====
section
/-! DEFINITION. The commands of the loop engine: vector instructions, ticks, launches, configuration,
coefficient writes, injection, capture, supervision and takeover (R108 to R162). -/

namespace Sys2Proof.Machine

/-! ### Vector instructions -/

def execVnop (s : State) : Out := done (vecAll .nop s)
def execVldi (vd : LaneReg) (k : BitVec 3) (s : State) : Out := done (vecAll (.ldi vd.toNat k.toNat) s)
def execVsto (va : LaneReg) (k : BitVec 2) (s : State) : Out := done (vecAll (.sto va.toNat k.toNat) s)
def execVldsv (vd : LaneReg) (k : BitVec 3) (s : State) : Out := done (vecAll (.ldsv vd.toNat k.toNat) s)
def execVstsv (va : LaneReg) (k : BitVec 3) (s : State) : Out := done (vecAll (.stsv va.toNat k.toNat) s)
def execVlds (acd : AccReg) (k : BitVec 3) (s : State) : Out := done (vecAll (.lds acd.toNat k.toNat) s)
def execVsts (acs : AccReg) (k : BitVec 3) (s : State) : Out := done (vecAll (.sts acs.toNat k.toNat) s)
def execVclr (acd : AccReg) (s : State) : Out := done (vecAll (.clr acd.toNat) s)
def execVclri (acd : AccReg) (s : State) : Out := done (vecAll (.clri acd.toNat) s)

/-- A coefficient index of 0 names no mantissa: the instruction is illegal and no kernel that holds it is
enabled (R127, R130), so nothing runs. -/
def vecLegal (ok : Bool) (op : VecOp) (s : State) : State := if ok then vecAll op s else s

def execVmac (acd : AccReg) (va : LaneReg) (k : BitVec 4) (s : State) : Out :=
  done (vecLegal (k != 0) (.mac acd.toNat va.toNat k.toNat) s)
def execVmsc (acd : AccReg) (va : LaneReg) (k : BitVec 4) (s : State) : Out :=
  done (vecLegal (k != 0) (.msc acd.toNat va.toNat k.toNat) s)
def execVmacv (acd : AccReg) (va vb : LaneReg) (s : State) : Out :=
  done (vecAll (.macv acd.toNat va.toNat vb.toNat) s)
def execVopen (acd : AccReg) (va : LaneReg) (sg : BitVec 2) (d : BitVec 6) (s : State) : Out :=
  done (vecAll (.opn acd.toNat va.toNat sg.toNat d.toInt) s)
def execVcls (vd : LaneReg) (acs : AccReg) (sg : BitVec 2) (d : BitVec 6) (s : State) : Out :=
  done (vecAll (.cls vd.toNat acs.toNat sg.toNat d.toInt) s)
def execVadd (vd va vb : LaneReg) (s : State) : Out := done (vecAll (.add vd.toNat va.toNat vb.toNat) s)
def execVsub (vd va vb : LaneReg) (s : State) : Out := done (vecAll (.sub vd.toNat va.toNat vb.toNat) s)
def execVlim (vd va : LaneReg) (lo hi : BitVec 4) (s : State) : Out :=
  done (vecLegal (lo != 0 && hi != 0) (.lim vd.toNat va.toNat lo.toNat hi.toNat) s)
def execVseli (vd va vb : LaneReg) (s : State) : Out := done (vecAll (.seli vd.toNat va.toNat vb.toNat) s)
def execVsel (vd va vb : LaneReg) (s : State) : Out := done (vecAll (.sel vd.toNat va.toNat vb.toNat) s)
def execVcmp (va vb : LaneReg) (s : State) : Out := done (vecAll (.cmp va.toNat vb.toNat) s)
def execVfe (va : LaneReg) (s : State) : Out := done (vecAll (.fe va.toNat) s)
def execVabs (vd va : LaneReg) (s : State) : Out := done (vecAll (.abs vd.toNat va.toNat) s)
def execVkld (vd : LaneReg) (k : BitVec 4) (s : State) : Out :=
  done (vecLegal (k != 0) (.kld vd.toNat k.toNat) s)

/-! ### Ticks, windows and launches -/

/-- A tick of a sample group whose grid runs: pending words and period, lane fit, port power, batches
(R112 to R114, R138, R177, R199). -/
def groupTick (g : Nat) (s : State) : State :=
  if 8 ≤ g || !(s.lg g).grid then s else
  let s := laneFit g (tickBegin g s)
  let s := portPowerTick g (5 * (s.lg g).period) s
  tickEnd g s

def execGroupTick (g : Nat) (s : State) : Out := done (groupTick g s)

def execBatchRun (s : State) : Out := done (batchRun s)

def execOutputLaunch (g : Nat) (s : State) : Out := done (outputLaunch g s)

/-! ### Configuration -/

/-- Guest registers and words are written in takeover only: at any other time a bus error (R150). -/
def guestGate (guest : Bool) (f : State → State) (s : State) : State :=
  if guest && !s.b Fl.LPE_TAKE_ACTIVE then { s with busError := true } else f s

/-- LPE_BATCH[b] with a field replaced. -/
def batchField (fl : Fld) (b v : Nat) (s : State) : State :=
  if 64 ≤ b then s else
  guestGate (32 ≤ b) (batchWrite b (withBits (s.reg R.LPE_BATCH b) fl.lsb fl.width v)) s

/-- LPE_GROUP[g] with a field replaced. -/
def groupField (fl : Fld) (g v : Nat) (s : State) : State :=
  if 8 ≤ g then s else
  guestGate (4 ≤ g) (groupWrite g (withBits (s.reg R.LPE_GROUP g) fl.lsb fl.width v)) s

def execBatchEnable (b : Nat) (s : State) : Out := done (batchField Fl.LPE_BATCH_EN b 1 s)
def execBatchDisable (b : Nat) (s : State) : Out := done (batchField Fl.LPE_BATCH_EN b 0 s)
def execBatchKernelChange (b k : Nat) (s : State) : Out := done (batchField Fl.LPE_BATCH_KERNEL b k s)
def execBatchMaskChange (b : Nat) (mask : BitVec 16) (s : State) : Out :=
  done (batchField Fl.LPE_BATCH_MASK b mask.toNat s)
def execGroupEnable (g : Nat) (s : State) : Out := done (groupField Fl.LPE_GROUP_EN g 1 s)
def execGroupDisable (g : Nat) (s : State) : Out := done (groupField Fl.LPE_GROUP_EN g 0 s)

/-- PERIOD of a group; a value outside the field fails admission (R112, R117). -/
def execGroupPeriodWrite (g period : Nat) (s : State) : Out :=
  done (if period < 65536 then groupField Fl.LPE_GROUP_PERIOD g period s
    else guestGate (4 ≤ g) admitFail s)

def execLaunchWrite (offset : Nat) (s : State) : Out := done (launchWrite offset s)

/-- Whether an initiator may write a block: harts other than its owner may not (R93). -/
def State.mayWrite (s : State) (owner : Fld) (ini : Initiator) : Bool :=
  match ini with
  | .hart n => let o := s.f owner; 4 ≤ o || o == n
  | .s0 | .s1 => false
  | _ => true

/-- A coefficient write of the bus (R136, R138, R150). -/
def coefficientWrite (ini : Initiator) (bank slot w : Nat) (v : Word) (s : State) : State :=
  if 2 ≤ bank || 1024 ≤ slot || 16 ≤ w then { s with busError := true }
  else if !s.mayWrite Fl.SYS_OWNER0_LPE ini ||
      (512 ≤ slot && !s.b Fl.LPE_TAKE_ACTIVE && ini != .ring) then { s with busError := true }
  else coefWrite bank slot w v { s with busError := false }

def execCoefficientWrite (ini : Initiator) (bank slot w : Nat) (v : Word) (s : State) : Out :=
  done (coefficientWrite ini bank slot w v s)

def execCellInit (slot : Nat) (s : State) : Out := done (cellInit slot s)

/-! ### Injection and capture -/

def execInjectorArm (s : State) : Out := done (injectorArm s)

def execInjectorDisarm (s : State) : Out := done (injectorDisarm s)

/-- LEN samples have been injected (R157). -/
def execInjectionDone (s : State) : Out :=
  done (if s.b Fl.LPE_INJCTL_RUN && s.f Fl.LPE_INJLEN_LEN ≤ s.lpe.inj.n then
    lpeCause 6 (s.setB Fl.LPE_INJCTL_RUN 0 false) else s)

def execCaptureArm (s : State) : Out := done (captureArm s)

/-- The single-mode buffer is full (R160). -/
def execCaptureDone (s : State) : Out :=
  done (if s.lpe.cap.full then
    lpeCause 7 (({ s with lpe.cap := { s.lpe.cap with full := false } }).setB Fl.LPE_CAPSTAT_DONE 0 true) else s)

/-! ### Following-error supervision (R154, R155) -/

/-- The effect of an action on a cell (R155). -/
def feEffect (action slot : Nat) (s : State) : State :=
  let g := s.f Fl.PRT_CELL_GROUP slot
  match action with
  | 1 =>
    if s.lpe.ready.any fun r => r.batch == slot / 16 then
      { s with lpe.ready := s.lpe.ready.map fun r =>
          if r.batch == slot / 16 then { r with init := setBit r.init (slot % 16) } else r }
    else initSlots [slot] s
  | 2 => if g < 80 then raiseReef g s else s
  | 3 => if g < 80 then removeCell slot 4 s else s
  | 4 => if g < 80 then groupStop g s else s
  | _ => s

/-- The count of a cell has reached TIMER (R154). -/
def followingError (slot : Nat) (s : State) : State :=
  let b := slot / 16
  if slot < 1024 && s.b Fl.LPE_FECFG_EN b && max 1 (s.f Fl.LPE_FECFG_TIMER b) ≤ cellsGet 0 s.lpe.feCount slot &&
      !s.lpe.feActed.contains slot then
    let s := { s with lpe.feActed := s.lpe.feActed ++ [slot] }
    let s := lpeCause 2 (s.setFBit Fl.LPE_FEST_ACTED b (slot % 16) true)
    feEffect (s.f Fl.LPE_FECFG_ACTION b) slot s
  else s

def execFollowingErrorAction (slot : Nat) (s : State) : Out := done (followingError slot s)

/-! ### Takeover (R149 to R153) -/

/-- A group runs at double period on bank 1. -/
def halveGroup (g : Nat) (s : State) : State :=
  if s.b Fl.LPE_GROUP_EN g then
    let p := 2 * s.f Fl.LPE_GROUP_PERIOD g
    (s.setB Fl.LPE_GROUP_HALF g true |>.setF Fl.LPE_GROUP_BANK g 1).setLg g fun x => { x with period := p }
  else s

/-- An enabled guest batch begins, its lanes with the init flag (R131). -/
def guestBatch (b : Nat) (s : State) : State :=
  if s.b Fl.LPE_BATCH_EN b then
    let m := s.f Fl.LPE_BATCH_MASK b
    let k := s.f Fl.LPE_BATCH_KERNEL b
    initSlots (maskSlots b m) ((s.setF Fl.LPE_BSTAT_STATE b 1).setLb b fun _ => { kernel := k, mask := m })
  else s

/-- Disables one guest batch at takeover; port power treats its cells as removed (R149, R151). -/
def shedBatch (b : Nat) (s : State) : State :=
  let s := s.setB Fl.LPE_BATCH_EN b false |>.setF Fl.LPE_BSTAT_STATE b 0
  let s := s.eachOf ((List.range 16).map fun i => 16 * b + i) fun c s =>
    if s.f Fl.PRT_CELL_GROUP c < 80 then removeCell c 5 s else s
  lpeCause 8 s

/-- Guest batches are disabled from 63 downward until R116 holds (R149). -/
def shedGuests (s : State) : State :=
  (List.range 32).foldl (fun s i =>
    if s.loadOk && s.launchOk || !s.b Fl.LPE_BATCH_EN (63 - i) then s else shedBatch (63 - i) s) s

/-- The engine's part of a takeover (R149). -/
def takeoverStart (s : State) : State :=
  let s := s.each 4 halveGroup
  let s := ({ s with lpe.signal := none }).setB Fl.LPE_TAKE_ACTIVE 0 true
  let s := s.each 4 fun i s =>
    if s.b Fl.LPE_GROUP_EN (4 + i) then
      (halveGroup (4 + i) s).setLg (4 + i) fun x => { x with grid := true, armed := false }
    else s
  let s := s.each 32 fun i s => guestBatch (32 + i) s
  showLoad (shedGuests s)

/-- The engine's part of the return (R153). -/
def takeoverReturn (s : State) : State :=
  let s := s.each 8 fun g s =>
    let p := s.f Fl.LPE_GROUP_PERIOD g
    (s.setB Fl.LPE_GROUP_HALF g false |>.setF Fl.LPE_GROUP_BANK g 0).setLg g fun x =>
      { x with period := p, grid := x.grid && g < 4 }
  let s := s.each 32 fun i s => s.setF Fl.LPE_BSTAT_STATE (32 + i) 0
  let s := { s with lpe.signal := none
                    lpe.ready := s.lpe.ready.filter fun r => r.batch < 32
                    lpe.results := s.lpe.results.filter fun r => r.batch < 32 }
  showLoad (s.setB Fl.LPE_TAKE_ACTIVE 0 false)

def execTakeoverEngineStart (s : State) : Out :=
  done (if s.lpe.signal == some true then takeoverStart s else s)

def execTakeoverEngineReturn (s : State) : Out :=
  done (if s.lpe.signal == some false then takeoverReturn s else s)

/-- A write to a register of the LPE block that does more than its access codes say (R112, R117, R131,
R157, R160). -/
def lpeWrite (r : Rg) (i : Nat) (v : Word) (s : State) : Option State :=
  if r = R.LPE_GROUP then some (groupWrite i v s)
  else if r = R.LPE_BATCH then some (batchWrite i v s)
  else if r = R.LPE_LAUNCH then some (launchWrite (v.toNat % 512) s)
  else if r = R.LPE_CELLINIT then some (cellInit (v.toNat % 1024) s)
  else if r = R.LPE_INJCTL then some (injWrite v s)
  else if r = R.LPE_CAPCTL then some (capWrite v s)
  else none

end Sys2Proof.Machine
end

