-- ==== Sys2Proof/Machine/LswCommands.lean ====
section
/-! DEFINITION. The commands of the protected channels (R482 to R503). -/

namespace Sys2Proof.Machine

def execChannelOn (n : Nat) (s : State) : Out := done (if n < 16 then channelOn n s else s)

def execChannelOff (n : Nat) (s : State) : Out := done (if n < 16 then channelOff n s else s)

def execChannelClear (n : Nat) (s : State) : Out := done (if n < 16 then channelClear n s else s)

def execChannelOvercurrent (n mA10 : Nat) (s : State) : Out :=
  done (if n < 16 && s.chLive n && decide (s.chThreshold n < mA10)
    then lswCause 0 (chLatch n 1 s) else s)

def execChannelOvertemp (n : Nat) (s : State) : Out :=
  done (if n < 16 && s.f Fl.LSW_CHSTAT_STATE n != 4 then lswCause 1 (chLatch n 2 s) else s)

def execAggregateTrip (s : State) : Out :=
  done (match aggregateChoice s with | none => s | some n => lswCause 3 (chLatch n 3 s))

/-- VAUX below 20.0 V; at 21.0 V the flag falls again (R491). -/
def execVauxDroop (mv : Nat) (s : State) : Out :=
  let s := s.setF Fl.LSW_SUP_VAUX 0 (mv / 10)
  done (if mv < 20000 then lswCause 4 (s.setB Fl.LSW_SUP_DROOP 0 true)
    else s.when (21000 ≤ mv) (fun s => s.setB Fl.LSW_SUP_DROOP 0 false))

/-- The check is on for a channel that is on outside its window, with IOL not 0 and no supply
condition (R492). -/
def execOpenLoad (n : Nat) (s : State) : Out :=
  done (if n < 16 && s.f Fl.LSW_CHSTAT_STATE n == 1 && s.b Fl.LSW_CHLIM_IOL n && s.supplyOk
    then lswCause 2 (s.setB Fl.LSW_CHSTAT_OL n true) else s)

def execInrushEnd (n : Nat) (s : State) : Out :=
  done (if n < 16 && (s.ch n).inrush then
    (s.setCh n fun c => { c with inrush := false }).when (s.f Fl.LSW_CHSTAT_STATE n == 2)
      (fun s => s.setF Fl.LSW_CHSTAT_STATE n 1) else s)

def execPwmPeriod (n : Nat) (s : State) : Out :=
  done (if n < 16 && (s.ch n).mode == 1 then chTakeForm n s else s)

def execTimedPulseEnd (n : Nat) (s : State) : Out :=
  done (if n < 16 && (s.ch n).mode == 2 && s.b Fl.LSW_CHSTAT_PROG n &&
      (s.f Fl.LSW_CHSTAT_STATE n == 1 || s.f Fl.LSW_CHSTAT_STATE n == 2)
    then chUpdate n (s.setB Fl.LSW_CHSTAT_PROG n false) else s)

/-- The output rises above −1 V (R494). -/
def execClampEnd (n : Nat) (s : State) : Out :=
  done (if n < 16 && (s.ch n).clamping then
    let s := s.setCh n fun c => { c with clamping := false }
    match s.f Fl.LSW_CHSTAT_STATE n with
    | 3 => chUpdate n (s.setF Fl.LSW_CHSTAT_STATE n 0)
    | 6 => chUpdate n (s.setF Fl.LSW_CHSTAT_STATE n 0)
    | _ => s
  else s)

def execHoldEnd (n : Nat) (s : State) : Out :=
  done (if n < 16 && s.f Fl.LSW_CHSTAT_STATE n == 5 then lswCause 6 (chEndHold n s) else s)

/-- One conversion of a channel's current, units of 10 mA, and of its junction, 0.01 °C; a latched
channel and one without ground keep the fault level (R492, R493). -/
def execCurrentSense (n i : Nat) (tj : Int) (s : State) : Out :=
  done (if n < 16 then
    let s := s.setFi Fl.LSW_CHI_TJ n tj
    let latched := s.f Fl.LSW_CHSTAT_STATE n == 4 || s.b Fl.LSW_SUP_GND
    let s := s.setF Fl.LSW_CHI_I n (if latched then 0xFFFF else i)
    let s := s.when (decide (s.f Fl.LSW_CHLIM_IOL n + 50 ≤ 10 * i))
      (fun s => s.setB Fl.LSW_CHSTAT_OL n false)
    s.setF Fl.LSW_AGG_SUM 0 (chSum s)
  else s)

/-- A write to a register of the LSW block that does more than its access codes say (R485, R503);
`none` where the access codes say all. -/
def lswWrite (r : Rg) (i : Nat) (v : Word) (s : State) : Option State :=
  if r = R.LSW_CHCMD then
    some (match v.toNat % 4 with
      | 1 => channelOn i s | 2 => channelOff i s | 3 => channelClear i s | _ => s)
  else if r = R.LSW_CHLIM then
    let t := bitsOf v 16 16
    let t := if i < 12 then clampNat 50 900 t else clampNat 100 1800 t
    some (s.setReg r i (withBits v 16 16 t))
  else if r = R.LSW_CHCFG || r = R.LSW_CHPWM then
    let s := s.setReg r i (v &&& r.rw)
    some (if (s.ch i).mode == 1 && s.chLive i then s else chTakeForm i s)
  else if r = R.LSW_AGG then
    some (s.setF Fl.LSW_AGG_IAGG 0 (v.toNat % 128))
  else none

end Sys2Proof.Machine
end

