-- ==== Sys2Proof/Machine/MeteringCommands.lean ====
section
/-! DEFINITION. The commands of metering and billing (R321 to R387), but for the fold. -/

namespace Sys2Proof.Machine

def execMeterSample (m : Nat) (i v : Int) (s : State) : Out := done (if m < 24 then meterSample m i v s else s)

def execFastTapSample (m : Nat) (i v : Int) (s : State) : Out := done (if m < 24 then fastTap m i v s else s)

def execMeterCheck (m : Nat) (pass : Bool) (s : State) : Out := done (if m < 24 then meterCheck m pass s else s)

def execMeterFaultClear (m : Nat) (s : State) : Out := done (if m < 24 then meterFaultClear m s else s)

def execPulseStart (m : Nat) (s : State) : Out := done (if m < 24 then pulseStart m s else s)

def execPulseEnd (m : Nat) (s : State) : Out := done (s.setMt m fun x => { x with pulse := false })

def execGridCompute (gp1 : Int) (vRms iRms : List Nat) (mHz : Nat) (s : State) : Out :=
  done (gridCompute gp1 vRms iRms mHz s)

def execUtilityPulse (export_ : Bool) (widthUs : Nat) (s : State) : Out := done (utilityPulse export_ widthUs s)

def execGridForce (s : State) : Out := done (gridForce s)

/-- The metrological registers, arrays by member (R343). -/
def metroRegs : List (Rg × Nat) :=
  [(R.MTR_MCFG, 24), (R.MTR_IGAIN, 24), (R.MTR_IOFF, 24), (R.MTR_VGAIN, 24), (R.MTR_VOFF, 24), (R.MTR_RCOMP, 24),
   (R.MTR_GCFG, 1), (R.MTR_GKG, 1), (R.MTR_CTRATIO, 1), (R.MTR_VTRATIO, 1), (R.MTR_GCAL, 6)]

/-- The metrological register at a bus address. -/
def metroAt (addr : Nat) : Option (Rg × Nat) :=
  metroRegs.findSome? fun e => ((List.range e.2).find? fun i => e.1.addrAt i == addr).map fun i => (e.1, i)

/-- A write of a metrological register with the level of MCAL_N. -/
def execMetrologyConfigWrite (calLow : Bool) (addr : Nat) (v : Word) (s : State) : Out :=
  let s := s.setB Fl.MTR_STAT_CALEN 0 calLow
  done (match metroAt addr with | none => s | some (r, i) => metroWrite r i v s)

def execBoundaryEnqueue (s : State) : Out := done (boundaryEnqueue s)

def execBoundaryLatch (s : State) : Out := done (boundaryLatch s)

/-- A write to a register of the MTR block that does more than its access codes say (R338, R342, R343, R349). -/
def mtrWrite (r : Rg) (i : Nat) (v : Word) (s : State) : Option State :=
  if r = R.MTR_MCFG then some (if s.metroChange r i v then metroWrite r i v s else plainWrite r i v s)
  else if r = R.MTR_GCFG then
    let s' := if s.metroChange r i v then metroWrite r i (v &&& 0x7FFFFFFF ||| (s.reg r i &&& 0x80000000)) s else s
    some (if bitOf v.toNat 31 then gridForce s' else s'.setB Fl.MTR_GCFG_FORCE 0 false)
  else if metroBits r != 0 then some (metroWrite r i v s)
  else if r = R.MTR_BNDCTL then
    let s := plainWrite r i v s
    some (s.when (bitOf v.toNat 31) boundaryEnqueue)
  else none

/-! ### Billing -/

def execBoundaryProcess (s : State) : Out := done (boundaryProcess s)

def execCalendarActivate (s : State) : Out := done (calendarActivate s)

def execDemandResetRequest (s : State) : Out := done (s.work fun w => { w with rst := true })

def execDemlenWrite (code : Nat) (s : State) : Out := done (demlenWrite code s)

def execBillingEnable (s : State) : Out := done (billingEnable s)

def execSealOpen (s : State) : Out := done (tamper 8 s)

def execDisplayFrame (s : State) : Out := done (displayFrames s)

def execDisplayAnswer (u : Nat) (s : State) : Out := done (if u < 24 then displayAnswer u s else s)

def execDisplayAnswerMissed (u : Nat) (s : State) : Out := done (if u < 24 then displayMissed u s else s)

/-- A write to a register of the BIL block that does more than its access codes say (R359, R362, R387). -/
def bilWrite (r : Rg) (_i : Nat) (v : Word) (s : State) : Option State :=
  if r = R.BIL_CTL then
    let n := v.toNat
    let s := s.setF Fl.BIL_CTL_EVEN 0 (n % 256) |>.setF Fl.BIL_CTL_RESETDAY 0 (n / 2 ^ 16 % 32)
    let s := s.when (n / 256 % 8 != s.f Fl.BIL_CTL_DEMLEN) (demlenWrite (n / 256 % 8))
    let s := s.when (bitOf n 31) billingEnable
    let s := s.when (bitOf n 30) calendarActivate
    some (s.when (bitOf n 29) fun s => s.work fun w => { w with rst := true })
  else if r = R.BIL_STEPTH then some (s.setF Fl.BIL_STEPTH_STEPTH 0 (min 60000 (v.toNat % 65536)))
  else none

end Sys2Proof.Machine
end

