-- ==== Sys2Proof/Machine/PortCommands.lean ====
section
/-! DEFINITION. The commands of port power control (R195 to R234). -/

namespace Sys2Proof.Machine

/-! ### Commands -/

def execPortGroupEnable (g : Nat) (s : State) : Out := done (portGroupEnable g s)

def execPortGroupDisable (g : Nat) (s : State) : Out := done (portGroupDisable g s)

def execCellGroupAssign (c group : Nat) (s : State) : Out := done (cellAssign c group s)

def execGroupCheck (g : Nat) (s : State) : Out := done (groupCommand g 1 0 s)

def execGroupPrecharge (g : Nat) (s : State) : Out := done (groupCommand g 2 0 s)

def execGroupRun (g mode : Nat) (s : State) : Out :=
  done (groupCommand g 3 mode (if g < 80 then s.setF Fl.PRT_GCMD_MODE g mode else s))

def execGroupStop (g : Nat) (s : State) : Out := done (groupCommand g 4 0 s)

def execGroupDisch (g : Nat) (s : State) : Out := done (groupCommand g 5 0 s)

def execGroupClear (g : Nat) (s : State) : Out := done (groupCommand g 6 0 s)

def execGroupClrreef (g : Nat) (s : State) : Out := done (groupCommand g 7 0 s)

def execContactorsClosed (g : Nat) (s : State) : Out :=
  done (if s.gst g == gClosing then enterTarget g (s.pg g).target s else s)

def execClosingTimeout (g : Nat) (s : State) : Out :=
  done (if s.gst g == gClosing then toFault 27 g s else s)

/-- READY once the vehicle side has stayed within VTOL of VSET for 1 ms (R220). -/
def execPrechargeComplete (g : Nat) (s : State) : Out :=
  done (if s.gst g == gPrecharge && (s.pg g).preStep == 5 &&
      decide ((s.vehicleV g - (s.f Fl.PRT_VSET_VSET g : Int)).natAbs ≤ s.f Fl.PRT_PCFG_VTOL g * 1000) then
    toState g gReady (s.setF Fl.PRT_TREP_TPRE g (min ((s.now - (s.pg g).preStart) / 1000000) 65535)
      |>.setPg g fun x => { x with preStep := 0 })
  else s)

def execPrechargeTimeout (g : Nat) (s : State) : Out :=
  done (if s.gst g == gPrecharge then toFault 27 g s else s)

/-- ZERO, or OFF for a DC-bus or grid front-end group (R217). -/
def execRampdownComplete (g : Nat) (s : State) : Out :=
  done (if s.gst g == gRampdown && decide ((s.groupI g).natAbs < 5000) then
    let role := s.f Fl.PRT_GCFG_ROLE g
    if role == 1 || role == 2 then offWithPending g s else toState g gZero s
  else s)

/-- The vehicle side has fallen below 60 V (R222); after an opening without request the group goes to
OFF (R217). -/
def execDischargeComplete (g : Nat) (s : State) : Out :=
  done (if s.gst g == gDischarge && decide (s.vehicleV g < 60000) then
    let s := s.setF Fl.PRT_TREP_TDIS g (min ((s.now - (s.pg g).discStart) / 1000000) 65535)
    if (s.pg g).bleedOnly then offWithPending g s else toOpening g s
  else s)

def execDischargeTimeout (g : Nat) (s : State) : Out :=
  done (if s.gst g == gDischarge && decide (60000 ≤ s.vehicleV g) then prtCause 7 g s else s)

def execDischargeForcedOpen (g : Nat) (s : State) : Out :=
  done (if s.gst g == gDischarge then toOpening g (s.setPg g fun x => { x with forced := true }) else s)

/-- Starts a weld step: the shroud closes the pole that is not under test (R224). -/
def weldStart (g step : Nat) (s : State) : State :=
  let s := s.setPg g fun x => { x with weldStep := step }
  match groupPort g with
  | none => s
  | some p =>
    let s := openRequest p true true s
    if step == 1 then closeRequest p false true s else if step == 2 then closeRequest p true false s else s

def execContactorsOpened (g : Nat) (s : State) : Out :=
  done (if s.gst g == gOpening then
    if (s.pg g).forced then toState g gFault s
    else if s.b Fl.PRT_PCFG_WELDEN g then
      weldStart g 1 (toState g gWeld (s.setF Fl.PRT_GSTAT_WELD g 0) |> setMode g true)
    else offWithPending g s
  else s)

def execOpeningTimeout (g : Nat) (s : State) : Out :=
  done (if s.gst g == gOpening then toFault 27 g s else s)

/-- A wait of the weld check ends (R224). -/
def execWeldStepEnd (g : Nat) (s : State) : Out :=
  done (if s.gst g == gWeld then
    let step := (s.pg g).weldStep
    if step == 3 then
      if s.b Fl.PRT_GSTAT_WELD g then toFault 24 g s else offWithPending g s
    else if decide (30000 < s.vehicleV g) then
      toFault 24 g (s.setF Fl.PRT_GSTAT_WELD g (setBit (s.f Fl.PRT_GSTAT_WELD g) (step - 1)))
    else weldStart g (step + 1) s
  else s)

/-- Discharge on the bleeder only, with cause SOPEN (R217). -/
def unrequestedOpen (g : Nat) (s : State) : State :=
  if s.gst g == gOff || s.gst g == gFault || s.gst g == gOpening then s else
  let s := prtCause 25 g s
  toDischarge g (s.setPg g fun x => { x with bleedOnly := true })

def execUnrequestedOpen (g : Nat) (s : State) : Out := done (unrequestedOpen g s)

def execAutocvSwitch (g : Nat) (s : State) : Out :=
  done (if s.gst g == gRunI && s.b Fl.PRT_GCFG_AUTOCV g && s.f Fl.PRT_GCFG_ROLE g == 0 &&
      decide ((s.f Fl.PRT_VSET_VSET g : Int) - s.f Fl.PRT_DISCFG_VMARG g * 1000 ≤ s.vehicleV g)
    then toRun g 1 s else s)

/-- The cell reads below 1/20 of its share while the group carries over 20 % of its rating (R227). -/
def execOpenCell (slot : Nat) (s : State) : Out :=
  let g := s.f Fl.PRT_CELL_GROUP slot
  let share := cellsGet (0 : Int) s.prt.share slot
  done (if slot < 1024 && g < 80 && s.f Fl.PRT_CELL_RM slot == 0 && share != 0 &&
      decide (20 * (s.cellI slot).natAbs < share.natAbs) &&
      decide (s.f Fl.PRT_IRATED_IRATED g < 5 * (s.groupI g).natAbs)
    then prtCause 2 g (removeCell slot 1 s) else s)

def execSenseSearchStart (g : Nat) (s : State) : Out :=
  done (if g < 80 && s.f Fl.PRT_GCFG_ROLE g == 0 && s.b Fl.PRT_GCFG_EN g && (s.pg g).search.isNone &&
      senseOver (s.sumI g) (s.groupI g)
    then s.setPg g fun x => { x with search := some 0, explains := [] } else s)

/-- One member identified is removed; none or several raise REEFREQ with cause UNID (R228). -/
def execSenseSearchEnd (g : Nat) (s : State) : Out :=
  done (match (s.pg g).search with
    | none => s
    | some n =>
      let hits := (s.pg g).explains.filter fun e => decide (9 * n ≤ 10 * e.2)
      let s := s.setPg g fun x => { x with search := none, explains := [] }
      match hits with
      | [(c, _)] => prtCause 3 g (removeCell c 2 s)
      | _ => raiseReef g (prtCause 4 g s))

/-- Returns a removed cell at the next tick (R226). -/
def cellRestore (c : Nat) (s : State) : State :=
  if c < 1024 && s.f Fl.PRT_CELL_RM c != 0 && !s.prt.returns.contains c then
    { s with prt.returns := s.prt.returns ++ [c] } else s

def execCellRestore (slot : Nat) (s : State) : Out := done (cellRestore slot s)

/-- Copies the cleats of a group or cell to SNAPOUT and restarts them (R232). -/
def snap (cell : Bool) (index : Nat) (s : State) : State :=
  if (cell && 1024 ≤ index) || (!cell && 80 ≤ index) then s else
  let tel := if cell then (cellsFind s.prt.cellTel index).getD {} else (s.pg index).tel
  let l : List Int := match tel.cleat with
    | none => [0, 0, 0, 0, 0, 0, 0]
    | some c => [c.iMax, c.iMin, c.vMax, c.vMin, c.pMax, c.pMin, (unsignedOf 16 c.tMax : Nat)]
  let s := s.eachOf l.zipIdx fun e s => s.setReg R.PRT_SNAPOUT e.2 (BitVec.ofInt 32 e.1)
  if cell then { s with prt.cellTel := cellsInsert s.prt.cellTel index { tel with cleat := none } }
  else s.setPg index fun x => { x with tel := { x.tel with cleat := none } }

def execSnap (cell : Bool) (index : Nat) (s : State) : Out := done (snap cell index s)

/-- The four averages of a window: the sums by the count toward zero; without samples 0 and 0x8000
(R231). -/
def Sums.mean (a : Sums) : List Word :=
  if a.n = 0 then [0, 0, 0, 0x8000]
  else [BitVec.ofInt 32 (truncDiv a.i a.n), BitVec.ofInt 32 (truncDiv a.v a.n), BitVec.ofInt 32 (truncDiv a.p a.n),
        BitVec.ofNat 32 (unsignedOf 16 (truncDiv a.t a.n))]

/-- The window of a telemetry record: 0 for 1 ms, 1 for 100 ms, 2 for 1 s. -/
def Telemetry.window (a : Telemetry) : Nat → Sums
  | 0 => a.ms1 | 1 => a.ms100 | _ => a.s1

/-- Restarts one window. -/
def Telemetry.restart (a : Telemetry) : Nat → Telemetry
  | 0 => { a with ms1 := {} } | 1 => { a with ms100 := {} } | _ => { a with s1 := {} }

/-- Publishes the four averages of a window together, for every group and every cell slot (R231). -/
def averagePublish (window : Nat) (s : State) : State :=
  if 3 ≤ window then s else
  let s := s.each 80 fun g s =>
    let a := (s.pg g).tel
    (s.eachOf ((a.window window).mean.zipIdx) fun e s => s.setReg R.PRT_GTEL (12 * g + 4 * window + e.2) e.1).setPg g
      fun x => { x with tel := x.tel.restart window }
  s.each 1024 fun c s =>
    let a := (cellsFind s.prt.cellTel c).getD {}
    let s := s.eachOf ((a.window window).mean.zipIdx) fun e s => s.setReg R.PRT_CTEL (12 * c + 4 * window + e.2) e.1
    if (cellsFind s.prt.cellTel c).isSome then
      { s with prt.cellTel := cellsInsert s.prt.cellTel c (a.restart window) } else s

def execAveragePublish (window : Nat) (s : State) : Out := done (averagePublish window s)

/-- A write to a register of the PRT block that does more than its access codes say (R196, R217, R219,
R221, R226, R232). -/
def prtWrite (r : Rg) (i : Nat) (v : Word) (s : State) : Option State :=
  if r = R.PRT_SNAP then some (snap (bitOf v.toNat 31) (v.toNat % 1024) s)
  else if r = R.PRT_CELLRST then some (cellRestore (v.toNat % 1024) s)
  else if r = R.PRT_CELL then some (cellAssign i (bitsOf v 25 7) s)
  else if r = R.PRT_GCMD then
    let s := s.setF Fl.PRT_GCMD_MODE i (bitsOf v 4 2)
    some (groupCommand i (v.toNat % 16) (bitsOf v 4 2) s)
  else if r = R.PRT_RLL then some (s.setF Fl.PRT_RLL_RLL i (min (v.toNat % 65536) 50000))
  else if r = R.PRT_VSET then some (setVset i v s)
  else if r = R.PRT_GCFG then
    let en := s.b Fl.PRT_GCFG_EN i
    let s := s.setReg r i (withBits (v &&& r.rw) 31 1 (b2n en))
    some (if bitOf v.toNat 31 then (if en then s else portGroupEnable i s)
      else if en then portGroupDisable i s else s)
  else none

end Sys2Proof.Machine
end

