-- ==== Sys2Proof/Machine/PowerCommands.lean ====
section
/-! DEFINITION. The commands of clocks, power states, resets and start-up (R25 to R57). -/

namespace Sys2Proof.Machine

def execReferenceLost (s : State) : Out := done (referenceLost 7 s)
def execPllLockLost (s : State) : Out := done (referenceLost 8 s)
def execReferenceQualified (s : State) : Out := done (referenceQualified s)
def execClockCheckWindow (metrologyEdges shroudEdges : Nat) (s : State) : Out :=
  done (clockWindow metrologyEdges shroudEdges s)
def execVinBelowWarn (mv : Nat) (s : State) : Out := done (vinBelowWarn mv s)
def execVinAboveWarn (mv : Nat) (s : State) : Out := done (vinAboveWarn mv s)
def execVinBelowHold (mv : Nat) (s : State) : Out := done (vinHold false mv s)
def execVinAboveHold (mv : Nat) (s : State) : Out := done (vinHold true mv s)
def execVinBrownOut (mv : Nat) (s : State) : Out := done (vinBrownOut mv s)
def execVinAboveStart (mv bootsel hsel : Nat) (s : State) : Out := done (vinAboveStart mv bootsel hsel s)
def execPfwAsserted (s : State) : Out := done (pfwAsserted s)
def execPfwReleased (s : State) : Out := done (s.setB Fl.SYS_SUPSTAT_PFW 0 false)
def execSaveStepComplete (s : State) : Out := done (saveStepComplete s)
def execSaveEndRelease (s : State) : Out := done (saveEndRelease s)
def execRequestRun (s : State) : Out := done (requestState 0 s)
def execRequestLuff (s : State) : Out := done (requestState 1 s)
def execRequestSlack (s : State) : Out := done (requestState 2 s)
def execRequestStow (s : State) : Out := done (requestState 3 s)
def execCommitPoint (s : State) : Out := done (commitPoint s)
def execPowerTransitionComplete (s : State) : Out := done (transitionComplete s)

/-- FURL_ARM: 0xF0 arms, 0x00 disarms, other values are ignored (R40, R56). -/
def furlArm (key : Nat) (s : State) : State :=
  if key = 0xF0 then furlCheck (s.setB Fl.SYS_PWRSTAT_FURL_ARMED 0 true)
  else if key = 0 then s.setB Fl.SYS_PWRSTAT_FURL_ARMED 0 false
  else s

def execFurlArm (s : State) : Out := done (furlArm 0xF0 s)
def execFurlDisarm (s : State) : Out := done (furlArm 0 s)
def execWakeNAsserted (s : State) : Out := done (s.wake 5)
def execStartCurrentDetected (port : Nat) (mA : Int) (s : State) : Out := done (startCurrent port mA s)
def execStowHandlerStart (s : State) : Out := done (stowHandler s)
def execStowImageReady (s : State) : Out := done (stowImage s)
def execStowShroudReady (s : State) : Out := done (stowShroud s)
def execStowAnalogReady (s : State) : Out := done (stowAnalog s)
def execPinWarmReset (s : State) : Out := done (pinWarm s)
def execPinColdReset (s : State) : Out := done (pinCold s)
def execRstNRelease (bootsel hsel : Nat) (s : State) : Out := done (rstRelease bootsel hsel s)
def execSoftwareWarmReset (s : State) : Out := done (warmCause 5 s)
def execSoftwareColdReset (s : State) : Out := done (softwareCold s)
def execColdResetAssert (elapsed2ms : Bool) (bootsel hsel : Nat) (s : State) : Out :=
  done (coldAssert elapsed2ms bootsel hsel s)
def execWatchdogEnable (timeout : Nat) (s : State) : Out := done (watchdogWrite true timeout s)
def execWatchdogKick (s : State) : Out := done (watchdogKey 0x5A s)
def execWatchdogBadKey (key : Byte) (s : State) : Out := done (if key = 0x5A then s else watchdogKey key.toNat s)
def execWatchdogHalf (s : State) : Out := done (watchdogHalf s)
def execWatchdogExpiry (s : State) : Out := done (watchdogExpiry s)
def execBootStepEnd (track : Track) (s : State) : Out := done (bootStepEnd track s)
def execBootNvokResume (s : State) : Out := done (bootResume s)
def execBootJoin (s : State) : Out := done (bootJoin s)
def execConfirmSlot (s : State) : Out := done (confirmSlot s)
def execSpliceReset (s : State) : Out := done (spliceReset s)
def execHostBoot (slot : Nat) (s : State) : Out := done (opBoot slot s)
def execHpRemoved (s : State) : Out := done (hpRemoved s)

end Sys2Proof.Machine
end

