-- ==== Sys2Proof/Machine/RingCommands.lean ====
section
/-! DEFINITION. The commands of the Crateuth ring (R455 to R481). -/

namespace Sys2Proof.Machine

def execRingLinkStart (k : Nat) (s : State) : Out := done (ringLinkStart k s)

def execLinkcap (k peer verMin verMax : Nat) (nonce share : List Byte) (s : State) : Out :=
  done (linkCap k peer verMin verMax nonce share s)

def execLinkauth (k : Nat) (ok : Bool) (s : State) : Out := done (linkAuth k ok s)

def execHeartbeatSend (s : State) : Out := done (heartbeatSend s)

def execHeartbeat (k : Nat) (hb : HeartbeatFrame) (s : State) : Out := done (heartbeat k hb s)

def execHeartbeatMissed (k : Nat) (s : State) : Out := done (heartbeatMissed k s)

def execNeighbourLost (k : Nat) (s : State) : Out := done (neighbourLost k s)

def execViewFrame (v : ViewFrame) (s : State) : Out := done (viewFrame v s)

def execViewAdopt (s : State) : Out := done (viewAdopt s)

def execGenerationRaise (s : State) : Out := done (generationRaise s)

def execShdFrame (f : ShadowFrame) (s : State) : Out := done (shadowFrame f s)

def execDeltaFrame (d : DeltaFrame) (s : State) : Out := done (deltaFrame d s)

def execDisplaced (lane : Nat) (s : State) : Out := done (displaced lane s)

def execReturnRequest (s : State) : Out := done (returnRequest s)

def execSplFrame (f : SpliceFrame) (s : State) : Out := done (spliceFrame f s)

def execReturnSignal (s : State) : Out := done (returnSignal s)

def execReturnComplete (s : State) : Out := done (returnComplete s)

def execSplice (s : State) : Out := done (spliceStart s)

def execSpliceHandover (s : State) : Out := done (spliceHandover s)

def execLeave (s : State) : Out := done (leaveRing s)

end Sys2Proof.Machine
end

