-- ==== Sys2Proof/Machine/SafetyCommands.lean ====
section
/-! DEFINITION. The commands of the shroud, the trip fabric, VAUX and the coil drivers (R415 to R454,
R495 to R504). -/

namespace Sys2Proof.Machine

def execShroudCycle (s : State) : Out := done (shroudCycle s)

/-! ### Zones and the stay chain (R428 to R430) -/

def execZoneDemand (z : Nat) (s : State) : Out := done (zoneDemand z s)

/-- The stay chain is open: its zone's demand is raised (R430). -/
def stayOpens (s : State) : State := zoneDemand 4 { s with sfy.stayOpen := true }

def execStayChainOpen (s : State) : Out := done (stayOpens s)

/-- One test pulse: a second failure in a row opens the loop with STAYSHORT; a pulse followed shows it
closed (R430). -/
def stayPulse (follows : Bool) (s : State) : State :=
  if follows then
    { s with sfy.stayMissed := 0, sfy.stayOpen := false
             sfy.zoneSince := if s.sfy.stayOpen then s.sfy.zoneSince.setIfInBounds 4 s.tick else s.sfy.zoneSince }
  else
    let n := s.sfy.stayMissed + 1
    let s := { s with sfy.stayMissed := n }
    if n < 2 then s else stayOpens (s.setB Fl.SFY_STAT_STAYSHORT 0 true)

def execStayTestPulse (follows : Bool) (s : State) : Out := done (stayPulse follows s)

/-- A pulse of SRST_N resets every zone whose input has been quiet for TDEB, and is the pulse that
welded poles wait for (R429, R432). -/
def srstPulse (s : State) : State :=
  let s := s.each 5 fun z s =>
    s.when (s.f Fl.SFY_ZONE1_STATE z != 0 && s.zoneQuiet z) (zoneToIdle z)
  s.each 48 fun p s =>
    if (s.b Fl.SFY_PSTAT_WELDP p && s.openFor1s p .pos) || (s.b Fl.SFY_PSTAT_WELDN p && s.openFor1s p .neg)
    then s.setSp p fun x => { x with weldReset := true } else s

def execSrstPulse (ms : Nat) (s : State) : Out :=
  done (if 100 ≤ ms && ms ≤ 5000 && s.sfy.running then srstPulse s else s)

/-! ### Requests (R424, R425) -/

def execShroudStop1 (p : Nat) (s : State) : Out := done (request 1 p 0 s)
def execZoneReset (z : Nat) (s : State) : Out := done (request 2 z 0 s)
def execLimset (a set : Nat) (s : State) : Out := done (request 3 a set s)
def execAxen (a : Nat) (s : State) : Out := done (request 4 a 0 s)
def execImdtest (p ms : Nat) (s : State) : Out := done (request 5 p ms s)
def execTargetRelease (t : Nat) (s : State) : Out := done (request 6 t 0 s)
def execFaultClear (p : Nat) (s : State) : Out := done (request 7 p 0 s)

def execCloseRequest (p : Nat) (pos neg : Bool) (s : State) : Out := done (closeRequest p pos neg s)
def execOpenRequest (p : Nat) (pos neg : Bool) (s : State) : Out := done (openRequest p pos neg s)
def execLockRequest (p : Nat) (s : State) : Out := done (lockRequest p s)
def execUnlockRequest (p : Nat) (s : State) : Out := done (unlockRequest p s)

def execCoilRelease (p : Nat) (expired : Bool) (s : State) : Out :=
  done (if p < 48 then releaseDue p expired s else s)

/-! ### Mirrors and feedback (R432, R502) -/

/-- The level of a feedback input; `none` for 0x7F. -/
def State.fbLevel (s : State) (k : Nat) : Option Bool :=
  if k < 96 then some (bitOf (s.f Fl.SFY_FB_LEVEL (k / 32)) (k % 32)) else none

/-- A pole does not follow its command in time (R432). -/
def mirrorTimeout (p : Nat) (pole : Pole) (s : State) : State :=
  if !(p < 24 || (p < 48 && s.b Fl.SFY_PSTAT_STANDBY p)) then s
  else if s.b (poleCmd pole) p && !s.b (poleClosed pole) p then
    let s := (coilOff (s.poleCoil p pole) s).setB (poleCmd pole) p false
    sfyCause 2 (refreshPort p (s.setB Fl.SFY_PSTAT_FAILCL p true))
  else if !s.b (poleCmd pole) p && s.b (poleClosed pole) p then
    sfyCause 2 (refreshPort p (s.setB (poleWeld pole) p true))
  else s

def execMirrorTimeout (p : Nat) (pole : Pole) (s : State) : Out := done (mirrorTimeout p pole s)

def execMirrorChange (p : Nat) (pole : Pole) (closed : Bool) (s : State) : Out :=
  done (mirrorSet p pole closed s)

/-- A feedback input changes: mirrors are NC contacts, on while the pole is open; a lock feedback that
goes off reads as not locked (R432, R434, R502). -/
def feedbackChange (k : Nat) (level : Bool) (s : State) : State :=
  if 96 ≤ k then s else
  let s := s.setFBit Fl.SFY_FB_LEVEL (k / 32) (k % 32) level
  s.each 48 fun p s =>
    let s := s.when (s.poleFb p .pos == k) (mirrorSet p .pos (!level))
    let s := s.when (s.poleFb p .neg == k) (mirrorSet p .neg (!level))
    s.when (s.f Fl.SFY_PFB_LOCKFB p == k && !level) (fun s => s.setB Fl.SFY_PSTAT_LOCKED p false)

def execFeedbackChange (k : Nat) (level : Bool) (s : State) : Out := done (feedbackChange k level s)

/-! ### Lock and no voltage (R434, R435) -/

/-- LOCKFB has shown locked for 20 ms. -/
def lockConfirmed (p : Nat) (s : State) : State :=
  if p < 48 && s.fbLevel (s.f Fl.SFY_PFB_LOCKFB p) != some false then
    (coilOff (s.f Fl.SFY_PCO_LOCKCO p) s).setB Fl.SFY_PSTAT_LOCKED p true |>.setB Fl.SFY_PSTAT_UNLOCKED p false
      |>.setSp p fun x => { x with lockReq := false }
  else s

def execLockConfirmed (p : Nat) (s : State) : Out := done (lockConfirmed p s)

def lockTimeout (p : Nat) (s : State) : State :=
  if p < 48 && (s.sp p).lockReq then
    let s := coilOff (s.f Fl.SFY_PCO_LOCKCO p) s
    sfyCause 3 (refreshPort p ((s.setB Fl.SFY_PSTAT_LOCKF p true).setSp p fun x => { x with lockReq := false }))
  else s

def execLockTimeout (p : Nat) (s : State) : Out := done (lockTimeout p s)

/-- The three conditions of R435. -/
def State.noVoltage (s : State) (p : Nat) : Bool :=
  !s.b Fl.SFY_PSTAT_POSCMD p && !s.b Fl.SFY_PSTAT_NEGCMD p &&
  !s.b Fl.SFY_PSTAT_POSCL p && !s.b Fl.SFY_PSTAT_NEGCL p &&
  decide ((s.portVolt p).natAbs < 60000) && !s.b Fl.MTR_MSTAT_FAULT p

/-- No voltage has held for 100 ms: an accepted unlock request pulses UNLKCO. -/
def noVoltageVerified (p : Nat) (s : State) : State :=
  if p < 24 && (s.sp p).unlockReq && s.noVoltage p then
    coilOn (s.f Fl.SFY_PCO_UNLKCO p) (s.setB Fl.SFY_PSTAT_NOV p true)
  else s

def execNoVoltageVerified (p : Nat) (s : State) : Out := done (noVoltageVerified p s)

/-- LOCKFB shows unlocked after the pulse. -/
def unlockConfirmed (p : Nat) (s : State) : State :=
  if p < 24 && (s.sp p).unlockReq && s.b Fl.SFY_PSTAT_NOV p &&
      s.fbLevel (s.f Fl.SFY_PFB_LOCKFB p) != some true then
    (coilOff (s.f Fl.SFY_PCO_UNLKCO p) s).setB Fl.SFY_PSTAT_LOCKED p false
      |>.setB Fl.SFY_PSTAT_UNLOCKED p true |>.setSp p fun x => { x with unlockReq := false }
  else s

def execUnlockConfirmed (p : Nat) (s : State) : Out := done (unlockConfirmed p s)

/-! ### Insulation and pins (R436, R437) -/

/-- FAULT active for 20 ms: isolation fault; from CLOSING to OPENING the port stops with IMDF latched. -/
def imdFaultQualified (p : Nat) (s : State) : State :=
  if p < 48 && s.imdFault p then
    let s := s.setF Fl.SFY_PSTAT_ISO p 3
    if s.charging p then sfyCause 4 (demandPort 2 false p (s.setB Fl.SFY_PSTAT_IMDF p true)) else s
  else s

def execImdFault (p : Nat) (s : State) : Out := done (imdFaultQualified p s)

/-- WARN sets status warning and raises event 100; the charge goes on. When it ends the status is invalid
until the conditions of R436 hold again. -/
def imdWarning (p : Nat) (active : Bool) (s : State) : State :=
  if !(p < 48 && s.b Fl.SFY_PIMD_IMDEN p) then s
  else if active then
    sfyCause 4 (if s.f Fl.SFY_PSTAT_ISO p == 3 then s else s.setF Fl.SFY_PSTAT_ISO p 2)
  else if s.f Fl.SFY_PSTAT_ISO p == 2 then s.setF Fl.SFY_PSTAT_ISO p 0 else s

def execImdWarn (p : Nat) (active : Bool) (s : State) : Out := done (imdWarning p active s)

/-- The IMD conditions of a cable check have held for TIMD. -/
def isolationValid (p : Nat) (s : State) : State :=
  if p < 24 && s.b Fl.SFY_PIMD_IMDEN p && !s.imdFault p && !s.imdWarn p && s.f Fl.SFY_PSTAT_ISO p != 2 &&
      s.f Fl.PRT_GSTAT_STATE p == 2 &&
      decide ((9 * s.f Fl.PRT_VSET_VSET p : Nat) ≤ (10 * s.portVolt p : Int)) then
    s.setF Fl.SFY_PSTAT_ISO p 1
  else s

def execIsolationValid (p : Nat) (s : State) : Out := done (isolationValid p s)

/-- A named pin's last conversion is at or above TPCUT. -/
def State.pinAtCut (s : State) (p : Nat) : Bool :=
  [s.f Fl.THM_PSEN_PINP p, s.f Fl.THM_PSEN_PINN p].any fun i =>
    i != 0x7F && (match s.pinTemp i with | none => false | some t => decide ((s.f Fl.SFY_PTMP_TPCUT p : Int) ≤ t))

def tempCut (p : Nat) (s : State) : State :=
  if p < 24 && s.pinAtCut p then sfyCause 5 (demandPort 2 false p (s.setB Fl.SFY_PSTAT_TCUT p true)) else s

def execTempCut (p : Nat) (s : State) : Out := done (tempCut p s)

def pinBroken (p : Nat) (s : State) : State :=
  if p < 24 && s.pinIsBroken p then refreshPort p (s.setB Fl.SFY_PSTAT_PBRK p true) else s

def execPinBroken (p : Nat) (s : State) : Out := done (pinBroken p s)

/-- A pin broken for TPBRK during a charge: category 1 with TSTOP1 of zone 0. -/
def pinBrokenStop (p : Nat) (s : State) : State :=
  if p < 24 && s.b Fl.SFY_PSTAT_PBRK p && s.pinIsBroken p && s.charging p then
    demandPort (s.f Fl.SFY_ZONE1_TSTOP1 0) true p s
  else s

def execPinBrokenStop (p : Nat) (s : State) : Out := done (pinBrokenStop p s)

/-! ### Axes and diagnostics (R417, R439) -/

def execAxisSample (a : Nat) (levelA levelB levelZ : Bool) (s : State) : Out :=
  done (if a < 8 then axisSample a levelA levelB levelZ s else s)

def execLockstepMismatch (s : State) : Out := done (safeState 1 s)
def execMemoryDoubleError (s : State) : Out := done (safeState 2 s)

/-- A cycle of the safety image of this length; longer than 100 µs it is an overrun. -/
def cycleLength (tenthsUs : Nat) (s : State) : State :=
  let s := s.setF Fl.SFY_DIAG_CYCMAX 0 (max (s.f Fl.SFY_DIAG_CYCMAX) (min tenthsUs 65535))
  s.when (1000 < tenthsUs) (safeState 3)

def execCycleOverrun (tenthsUs : Nat) (s : State) : Out := done (cycleLength tenthsUs s)

def execMemoryScrub (singleErrors : Nat) (s : State) : Out :=
  done (s.satF Fl.SFY_DIAG_ECC 0 singleErrors)

def execFeedbackTest (stuck : List Nat) (s : State) : Out := done (s.eachOf stuck feedbackFault)

/-- The test pulse of an energised output: a driver stuck on is FAULT 2 and a contactor fault. -/
def execCoilTestPulse (n : Nat) (stuckOn : Bool) (s : State) : Out :=
  done (if n < 48 && s.b Fl.SFY_COIL_ON n && stuckOn
    then coilFault n (s.setF Fl.SFY_COIL_FAULT n 2) else s)

def execPullInEnd (n : Nat) (s : State) : Out :=
  done (if n < 48 then s.setB Fl.SFY_COIL_PULLIN n false else s)

/-- Above 1.2 A for 5 µs the output latches off with FAULT 3 (R500). -/
def execCoilOvercurrent (n : Nat) (s : State) : Out :=
  done (if n < 48 && s.b Fl.SFY_COIL_ON n then coilOff n (s.setF Fl.SFY_COIL_FAULT n 3) else s)

/-- The current of an energised coil does not reach 20 mA: FAULT 1, a contactor fault (R417, R501). -/
def execCoilOpen (n : Nat) (s : State) : Out :=
  done (if n < 48 && s.b Fl.SFY_COIL_ON n then coilFault n (s.setF Fl.SFY_COIL_FAULT n 1) else s)

/-! ### Trip fabric (R442) -/

/-- A source changes after its filter. A trip input that falls inactive starts the quiet time of the zones
and the insulation monitors it feeds; a lane trip line is shown in its lane as well. -/
def sourceChange (i : Nat) (high : Bool) (s : State) : State :=
  if 72 ≤ i then s else
  let was := s.b Fl.SFY_SRC_ACT i
  let s := setSource i high s
  let s := s.when (32 ≤ i && i < 64) (laneTripLevel (i - 32) (!high))
  if i < 32 && was && !s.b Fl.SFY_SRC_ACT i then
    let s := s.each 4 fun z s =>
      if s.f Fl.SFY_ZONE0_SRC z == i
      then { s with sfy.zoneSince := s.sfy.zoneSince.setIfInBounds z s.tick } else s
    s.each 48 fun p s =>
      if s.b Fl.SFY_PIMD_IMDEN p && s.f Fl.SFY_PIMD_FAULTTI p == i
      then refreshPort p (s.setSp p fun x => { x with imdSince := s.tick }) else s
  else s

def execFabricSourceChange (i : Nat) (high : Bool) (s : State) : Out := done (sourceChange i high s)

/-! ### Takeover (R448 to R453) -/

/-- The veto input is active (R450). -/
def State.vetoActive (s : State) : Bool :=
  !s.b Fl.SFY_GUEST_NOVETO && s.b Fl.SFY_SRC_ACT (s.f Fl.SFY_GUEST_VETOTI)

/-- A guest port whose standby coils may take over (R449). -/
def State.standbyOk (s : State) (p : Nat) : Bool :=
  s.b Fl.SFY_PSTAT_POSCL p && s.b Fl.SFY_PSTAT_NEGCL p && !s.zoneHolds p && !s.imdFault p && !s.vetoActive

def standbyEnergise (s : State) : State :=
  if s.b Fl.RNG_STAT_GUEST && s.sfy.running then
    s.each 24 fun h s =>
      let p := 24 + h
      if s.standbyOk p then
        refreshPort p ((energisePole p .neg (energisePole p .pos s)).setB Fl.SFY_PSTAT_STANDBY p true)
      else refreshPort p s
  else s

def execStandbyCoilsEnergise (s : State) : Out := done (standbyEnergise s)

def execVetoActive (s : State) : Out :=
  done (if s.b Fl.RNG_STAT_GUEST && s.vetoActive
    then s.each 24 (fun h s => demandPort 2 false (24 + h) s) else s)

def execGuestTimeLimit (s : State) : Out :=
  done (if s.b Fl.RNG_STAT_GUEST && s.f Fl.SFY_GUEST_TGUEST != 0
    then s.each 24 (fun h s => demandPort (s.f Fl.SFY_ZONE1_TSTOP1 0) true (24 + h) s) else s)

/-- The home shroud takes its closed ports back (R453). -/
def shroudReturn (s : State) : State :=
  s.each 24 fun p s =>
    if s.b Fl.SFY_PSTAT_POSCL p && s.b Fl.SFY_PSTAT_NEGCL p && s.mayClose p then
      refreshPort p (energisePole p .neg (energisePole p .pos s))
    else s

def execShroudReturn (s : State) : Out := done (shroudReturn s)

/-- The buddy releases its standby coils, under the release rule (R453). -/
def standbyRelease (s : State) : State :=
  s.each 24 fun h s =>
    if s.b Fl.SFY_PSTAT_STANDBY (24 + h) then releaseDue (24 + h) false (demandPort 2 false (24 + h) s) else s

def execStandbyCoilsRelease (s : State) : Out := done (standbyRelease s)

/-! ### VAUX and ground (R495, R496, R625) -/

/-- Channels follow the supply. -/
def channelsFollow (s : State) : State := s.each 16 chUpdate

/-- VAUX below 14.0 V; below 12.0 V the coils drop too. -/
def vauxUnder (mv : Nat) (s : State) : State :=
  let s := s.setF Fl.LSW_SUP_VAUX 0 (mv / 10)
  if 14000 ≤ mv then s else
  let s := s.setB Fl.LSW_SUP_UV 0 true |>.setB Fl.SYS_SUPSTAT_VAUX_OK 0 false
  (lswCause 5 (channelsFollow s)).when (mv < 12000) coilsLost

def execVauxUndervoltage (mv : Nat) (s : State) : Out := done (vauxUnder mv s)

def vauxOver (mv : Nat) (s : State) : State :=
  let s := s.setF Fl.LSW_SUP_VAUX 0 (mv / 10)
  if mv ≤ 36000 then s else
  lswCause 5 (channelsFollow (s.setB Fl.LSW_SUP_OV 0 true |>.setB Fl.SYS_SUPSTAT_VAUX_OK 0 false))

def execVauxOvervoltage (mv : Nat) (s : State) : Out := done (vauxOver mv s)

def execVauxReverse (s : State) : Out :=
  done (coilsLost (lswCause 5 (channelsFollow
    (s.setB Fl.LSW_SUP_REV 0 true |>.setB Fl.SYS_SUPSTAT_VAUX_OK 0 false))))

/-- Loss of ground: channels latch with FLT 4, coils drop. -/
def groundLoss (s : State) : State :=
  let s := s.setB Fl.LSW_SUP_GND 0 true |>.setB Fl.SYS_SUPSTAT_VAUX_OK 0 false
  coilsLost (lswCause 5 (s.each 16 fun n s => chLatch n 4 s))

def execGroundLoss (s : State) : Out := done (groundLoss s)

/-- VAUX has held from 16.0 V to 34.0 V for 1 ms: the supply flags clear and channels return to their
requests. At its first appearance only requests made afterwards act (R625). -/
def vauxReturn (mv : Nat) (s : State) : State :=
  let s := s.setF Fl.LSW_SUP_VAUX 0 (mv / 10)
  if mv < 16000 || 34000 < mv then s else
  let first := s.supplyOk && !s.b Fl.SYS_SUPSTAT_VAUX_OK
  let s := s.when first lswAllOff
  let s := s.setB Fl.LSW_SUP_UV 0 false |>.setB Fl.LSW_SUP_OV 0 false |>.setB Fl.LSW_SUP_REV 0 false
    |>.setB Fl.LSW_SUP_GND 0 false |>.when (21000 ≤ mv) (fun s => s.setB Fl.LSW_SUP_DROOP 0 false)
  let s := if s.b Fl.SYS_SUPSTAT_VAUX_OK then s
    else { s.setB Fl.SYS_SUPSTAT_VAUX_OK 0 true with sfy.vauxSince := s.tick }
  channelsFollow { s with sfy.vauxLost := false }

def execVauxReturn (mv : Nat) (s : State) : Out := done (vauxReturn mv s)

/-! ### Registers (R420, R421, R444, R454) -/

/-- A store of S0 or S1 to the SFY block. -/
def sfyWrite (r : Rg) (i : Nat) (v : Word) (s : State) : State :=
  if r = R.SFY_SRC then
    let s := plainWrite r i v s
    if 64 ≤ i then evalFabric (showSource i s)
    else tripOnly (showSource i (s.setB Fl.SFY_SRC_SET i false))
  else if r = R.SFY_TGT3 then
    let s := tripOnly (plainWrite r i v s)
    if v.toNat % 2 = 1 && !s.maskActive i then evalFabric (s.setB Fl.SFY_TGT3_TRIPPED i false) else s
  else
    let s := tripOnly (plainWrite r i v s)
    s.each 48 refreshPort

end Sys2Proof.Machine
end

