-- ==== Sys2Proof/Machine/SessionCommands.lean ====
section
/-! DEFINITION. The commands of vehicle sessions (R269 to R298). -/

namespace Sys2Proof.Machine

/-- A command on a context that exists. -/
def onCtx (c : Nat) (f : Nat → State → State) (s : State) : State := if c < 48 then f c s else s

def execPilotStateQualified (f : Nat) (pilot : PilotReading) (s : State) : Out := done (pilotQualified f pilot s)

def execSlacMessage (f : Nat) (msg : SlacMsg) (s : State) : Out := done (slacMessage f msg s)

/-- The context of an own front-end in LINK. -/
def State.linking (s : State) (f : Nat) : Option Nat :=
  let c := s.f Fl.VEH_FE_CTX f
  if f < 24 && s.feOf c == some f && s.sst c == sLink then some c else none

/-- SDP is answered once the link is up (R279). -/
def execSdpRequest (f : Nat) (s : State) : Out :=
  done (match s.linking f with
    | none => s
    | some c => if (s.ses c).link then s.setSes c fun x => { x with sdp := true } else s)

/-- One TCP connection for each session (R279). -/
def execTcpConnect (f : Nat) (s : State) : Out :=
  done (match s.linking f with
    | none => s
    | some c => if (s.ses c).sdp then s.setSes c fun x => { x with tcp := true } else s)

/-- The T1S PHY of an MCS front-end comes up (R284). -/
def execT1sLinkUp (f : Nat) (s : State) : Out :=
  done (match s.linking f with
    | none => s
    | some c => if s.b Fl.VEH_FE_TYPE f then s.setSes c fun x => { x with link := true } else s)

/-- The link to the vehicle is lost (R297). -/
def execVehicleLinkLost (c : Nat) (s : State) : Out :=
  done (onCtx c (fun c s =>
    let st := s.sst c
    if st == sLink || st == sSetup then endWith 14 c s
    else stopWith 14 c (s.setSes c fun x => { x with link := false, tcp := false })) s)

def execV2gtpFrame (c : Nat) (frame : V2gFrame) (s : State) : Out := done (v2gFrame c frame s)

def execSupportedAppProtocol (c : Nat) (offers : List AppOffer) (s : State) : Out :=
  done (onCtx c (fun c => appProtocol c offers) s)

def execClientHello (c : Nat) (suites groups sigs : List Nat) (s : State) : Out :=
  done (onCtx c (fun c => clientHello c suites groups sigs) s)

def execTlsSecretsWrite (c : Nat) (client server : List Byte) (s : State) : Out :=
  done (onCtx c (fun c => tlsSecrets c client server) s)

def execResponseSend (c len : Nat) (s : State) : Out := done (responseSend c len s)

def execReceiveRelease (c : Nat) (s : State) : Out := done (onCtx c receiveRelease s)

def execCableCheckReq (c : Nat) (s : State) : Out := done (cableCheckReq c s)

def execPreChargeReq (c : Nat) (targetV : Word) (s : State) : Out := done (preChargeReq c targetV s)

/-- CurrentDemand of DIN SPEC 70121 and ISO 15118-2 (R286). -/
def execCurrentDemandReq (c : Nat) (targetI targetV : Word) (soc : Nat) (evError : Bool) (s : State) : Out :=
  done (chargeLoop c targetI targetV soc evError s)

/-- DC_ChargeLoop of ISO 15118-20, its BPT form included (R286, R287). -/
def execDcChargeLoopReq (c : Nat) (targetI targetV : Word) (soc : Nat) (evError : Bool) (s : State) : Out :=
  done (chargeLoop c targetI targetV soc evError s)

def execSessionStopReq (c : Nat) (s : State) : Out :=
  done (if s.connected c then stopWith 10 c s else s)

def execPowerDeliveryReq (c : Nat) (kind : PowerDelivery) (payload : List Byte) (s : State) : Out :=
  done (powerDelivery c kind payload s)

def execProceed (c : Nat) (s : State) : Out := done (onCtx c proceed s)

def execSessionStop (c : Nat) (s : State) : Out := done (onCtx c sessionStop s)

def execSessionClear (c : Nat) (s : State) : Out := done (onCtx c sessionClear s)

def execTlinkExpiry (c : Nat) (s : State) : Out :=
  done (onCtx c (fun c s => if s.sst c == sLink then endWith 14 c s else s) s)

def execTsetupExpiry (c : Nat) (s : State) : Out :=
  done (onCtx c (fun c s => if s.sst c == sSetup then endWith 14 c s else s) s)

def execTseqExpiry (c : Nat) (s : State) : Out := done (onCtx c (stopWith 11) s)

def execTrespExpiry (c : Nat) (s : State) : Out :=
  done (onCtx c (fun c s => if (s.ses c).outstanding then stopWith 11 c s else s) s)

def execTloopExpiry (c : Nat) (s : State) : Out :=
  done (onCtx c (fun c s => if s.sst c == sCharge then toStopping 11 c s else s) s)

def execTchkExpiry (c : Nat) (s : State) : Out :=
  done (onCtx c (fun c s => if s.sst c == sCableCheck then toStopping 11 c s else s) s)

/-- A context has waited TPLC for a baseband (R273). -/
def execTplcExpiry (c : Nat) (s : State) : Out :=
  done (onCtx c (fun c s => match s.feOf c with
    | none => s
    | some f => if s.sst c == sPlugged && bitOf (s.f Fl.VEH_STAT_PLCWAIT) f then endWith 14 c s else s) s)

def execSessionEnable (c : Nat) (s : State) : Out := done (onCtx c sessionEnable s)

def execSessionDisable (c : Nat) (s : State) : Out := done (onCtx c sessionDisable s)

def execFrontEndConfig (f mode ctx : Nat) (s : State) : Out := done (frontEndConfig f mode ctx s)

def execDeltaAck (c : Nat) (s : State) : Out := done (onCtx c (fun c => releaseFrame c true) s)

def execDeltaReleaseTimeout (c : Nat) (s : State) : Out := done (onCtx c (fun c => releaseFrame c false) s)

def execStandbyFrameObserved (f : Nat) (frame : ObservedFrame) (s : State) : Out := done (standbyObserved f frame s)

def execStandbyTakeover (f : Nat) (s : State) : Out := done (standbyTakeover f s)

def execSessionHandover (c : Nat) (s : State) : Out := done (sessionHandover c s)

/-- NOGO has lasted NOGOT in CHARGE or PAUSE: STOP to the context (R306). -/
def execNogoStop (p : Nat) (s : State) : Out :=
  done (if p < 24 && s.b Fl.THM_PSTAT_NOGO p && (s.sst p == sCharge || s.sst p == sPause) then
    sessionStop p (prtCause 16 p s) else s)

/-- A write to a register of the VEH block that does more than its access codes say (R271, R284, R285,
R290). -/
def vehWrite (r : Rg) (i : Nat) (v : Word) (s : State) : Option State :=
  if r = R.VEH_FE then
    let s := s.setF Fl.VEH_FE_TYPE i (bitsOf v 29 1)
    some (frontEndConfig i (bitsOf v 30 2) (bitsOf v 0 6) s)
  else if r = R.VEH_SCMD then
    some (match v.toNat % 16 with
      | 1 => proceed i s | 2 => sessionStop i s | 3 => sessionClear i s | _ => s)
  else if r = R.VEH_SCFG then
    let was := s.b Fl.VEH_SCFG_EN i
    let s := s.setReg r i (withBits (v &&& r.rw) 31 1 (b2n was))
    some (if bitOf v.toNat 31 then (if was then s else sessionEnable i s)
      else if was then sessionDisable i s else s)
  else if r = R.VEH_RXLEN then
    some (if v.toNat % 2 ^ 14 = 0 then receiveRelease i s else s.setF Fl.VEH_RXLEN_LEN i (v.toNat % 2 ^ 14))
  else if r = R.VEH_TXLEN then
    let s := s.setF Fl.VEH_TXLEN_LEN i (v.toNat % 2 ^ 14)
    some (if bitOf v.toNat 31 then responseSend i (v.toNat % 2 ^ 14) s else s)
  else none

end Sys2Proof.Machine
end

