-- ==== Sys2Proof/Machine/SignatureCommands.lean ====
section
/-! DEFINITION. The commands of signatures and crypto services (R388 to R414). -/

namespace Sys2Proof.Machine

def execSignatureStart (s : State) : Out := done (signStart s)
def execSignatureComplete (s : State) : Out := done (signComplete s)
def execKeyRebuildComplete (k : Nat) (s : State) : Out := done (keyRebuilt k s)
def execJobSubmit (addr : Word) (s : State) : Out := done (jobSubmit addr.toNat s)
def execJobHash (s : State) : Out := done (runJob 1 jobHash s)
def execJobHmac (s : State) : Out := done (runJob 2 jobHmac s)
def execJobHkdfExtract (s : State) : Out := done (runJob 3 jobHkdfExtract s)
def execJobHkdfExpand (s : State) : Out := done (runJob 4 jobHkdfExpand s)
def execJobAesGcmEncrypt (s : State) : Out := done (runJob 5 (jobAesGcm true) s)
def execJobAesGcmDecrypt (s : State) : Out := done (runJob 6 (jobAesGcm false) s)
def execJobEcdheKeygen (s : State) : Out := done (runJob 7 jobEcdheKeygen s)
def execJobEcdheDerive (s : State) : Out := done (runJob 8 jobEcdheDerive s)
def execJobSign (s : State) : Out := done (runJob 9 jobSign s)
def execJobVerify (s : State) : Out := done (runJob 10 jobVerify s)
def execJobTlsKeygen (s : State) : Out := done (runJob 11 jobTlsKeygen s)
def execJobTlsKeyErase (s : State) : Out := done (runJob 12 jobTlsErase s)
def execJobPublicKeyRead (s : State) : Out := done (runJob 13 jobPublicKey s)
def execJobAttest (s : State) : Out := done (runJob 14 jobAttest s)
def execJobKeygen (s : State) : Out := done (runJob 15 jobKeygen s)
def execJobRandom (s : State) : Out := done (runJob 16 jobRandom s)
def execEngineStep (s : State) : Out := done (engineStep s)
def execJobDone (s : State) : Out := done (jobDone s)

/-- Twelve hours of device time give one token, up to 4 (R407). -/
def execAttestTokenRefill (s : State) : Out :=
  done (s.setF Fl.SIG_STAT_ATTTOK 0 (min 4 (s.f Fl.SIG_STAT_ATTTOK + 1)))

/-- A write to a register of the SIG block that does more than its access codes say (R409). -/
def sigWrite (r : Rg) (_i : Nat) (v : Word) (s : State) : Option State :=
  if r = R.SIG_JOBQ then some (jobSubmit v.toNat s) else none

end Sys2Proof.Machine
end

