-- ==== Sys2Proof/Machine/ThermalCommands.lean ====
section
/-! DEFINITION. The commands of cable cooling (R299 to R320). -/

namespace Sys2Proof.Machine

/-! ### Commands -/

def execSensorConversion (i ohms : Nat) (t : Int) (s : State) : Out := done (conversion i ohms t s)

def execSensorBroken (i : Nat) (s : State) : Out := done (sensorBreaks i s)

def execSensorRestored (i : Nat) (s : State) : Out := done (sensorReturns i s)

/-- A rising edge on FLp (R304). -/
def flowEdge (p : Nat) (s : State) : State :=
  let t := s.now / 1000
  s.setTp p fun x => { x with edgeBefore := x.edge, edge := some t }

def execFlowEdge (p : Nat) (s : State) : Out := done (if p < 24 then flowEdge p s else s)

def execFlowCompute (s : State) : Out := done (flowCompute s)

def execNogoClear (p : Nat) (s : State) : Out := done (nogoClear p s)

def execObserverStep (s : State) : Out := done (observerStep s)

def execThermalReefFall (p : Nat) (s : State) : Out :=
  done (if p < 48 && s.reefMayFall p then setReef p (s.f Fl.THM_PSTAT_TREEF p - 1) s else s)

def execThermalRecordWrite (s : State) : Out := done (if s.nvOk then thermalRecord s else s)

/-- Sensor records 64 to 79 take only HI and LO (R320). -/
def thmWrite (r : Rg) (i : Nat) (v : Word) (s : State) : Option State :=
  if r = R.THM_SCFG && 64 ≤ i || r = R.THM_SFB && 64 ≤ i then some s
  else if r = R.THM_PCH then some (evalWindow i (s.setReg r i (v &&& r.rw)))
  else none

end Sys2Proof.Machine
end

