-- ==== Sys2Proof/Machine/TimeCommands.lean ====
section
/-! DEFINITION. The commands of device time, the calendar and the fold (R329, R526 to R542). -/

namespace Sys2Proof.Machine

def execFold (s : State) : Out := done (foldInstant s)

def execIncrementWrite (ns : Nat) (s : State) : Out := done (incrementWrite ns s)

def execTimeStepRequest (ms : Int) (s : State) : Out := done (timeStepRequest ms s)

def execRunlockSet (s : State) : Out := done (s.setB Fl.TIM_CTL_LOCK 0 true)

def execCalendarSet (src : Nat) (s : State) : Out := done (calendarSet src s)

def execLeapSecond (s : State) : Out := done (leapSecond s)

/-- No edge of the oscillator for 1 ms (R541). -/
def rtcFails (s : State) : State :=
  timCause 6 { s.setB Fl.TIM_STAT_OSCF 0 true |>.setB Fl.TIM_STAT_RTCVALID 0 false with time.oscRunning := false }

def execRtcOscFail (s : State) : Out := done (rtcFails s)

/-- The RTC seconds equal the alarm (R541, R42). -/
def execRtcAlarm (s : State) : Out :=
  done (if s.f Fl.TIM_RTCS_S == s.f Fl.TIM_ALARM_S then (timCause 5 s).wake 2 else s)

def execRtcSecondLoad (s : State) : Out := done (rtcLoad s)

/-- A whole second of device time: cause SECOND, and a pulse on PPSO where enabled (R535, R542). -/
def execPpsOut (s : State) : Out :=
  done (timCause 0 (s.when (s.b Fl.TIM_CTL_PPSEN) fun s => { s with time.ppsOut := s.time.ppsOut + 1 }))

/-- An edge on PPSI captures device time (R535). -/
def execPpsIn (s : State) : Out := done (timCause 7 (s.setQ R.TIM_PPSIL R.TIM_PPSIH 0 s.now))

def execTimestampRead (q : Nat) (s : State) : Out := done (if q < 4 then stampRead q s else s)

/-- A PTP event frame on Crateuth port D (0) or U (1) is stamped at its K27.7 symbol (R534). -/
def execRingPtpFrame (port msgType seq domain : Nat) (s : State) : Out :=
  done (if port < 2 && s.f Fl.RNG_LINK_STATE port == 2 then stampCapture (2 + port) false msgType seq domain s else s)

/-- A write to a register of the TIM block that does more than its access codes say (R527, R531, R532, R539). -/
def timWrite (r : Rg) (i : Nat) (v : Word) (s : State) : Option State :=
  if r = R.TIM_INCH then some (incrementWrite v.toNat s)
  else if r = R.TIM_STEP then some (timeStepRequest v.toInt s)
  else if r = R.TIM_CALCTL then
    some (if bitOf v.toNat 31 then calendarSet (v.toNat % 8) s else plainWrite r i v s)
  else if r = R.TIM_CTL then
    let lock := s.b Fl.TIM_CTL_LOCK
    some ((plainWrite r i v s).when lock fun s => s.setB Fl.TIM_CTL_LOCK 0 true)
  else none

end Sys2Proof.Machine
end

