-- ==== Sys2Proof/Machine/Bus.lean ====
section
/-! DEFINITION. The register bus: what a read returns and a write does, by initiator; the 64-bit quantities; the host
page and the data window (R7, R9, R12, R13, R56, R77, R93, R94, R150, R420, R580, R581). -/

namespace Sys2Proof.Machine

/-! ### Initiators and 64-bit quantities (R13) -/

/-- The number under which an initiator's latch and holding register are kept. -/
def iniCode : Initiator → Nat
  | .hart n => n
  | .host => 4
  | .ring => 5
  | .bootRom => 6
  | .s0 => 7
  | .s1 => 8

/-- The low words of the 64-bit quantities; the high word is the next register. -/
def lowWords : List Rg :=
  [R.ALC_IDL, R.MTR_BNDL, R.MTR_RESBL, R.MTR_RESEDL, R.MTR_MIRL, R.MTR_EDELL, R.MTR_ERECL, R.MTR_RAWDELL,
   R.MTR_RAWRECL, R.MTR_CLOSETL, R.MTR_EIMPL, R.MTR_EEXPL, R.MTR_SECDELL, R.MTR_SECRECL, R.BIL_KOFFL, R.BIL_NEXTL,
   R.BIL_TFIRSTL, R.BIL_TLASTL, R.BIL_TDELL, R.BIL_TRECL, R.BIL_SSTARTL, R.BIL_SENERGYL, R.BIL_EBASE0L, R.BIL_EBASE1L,
   R.SIG_DEVSERL, R.SIG_NEXTL, R.SIG_LIMITL, R.RNG_TDECLL, R.EST_PACKIDL, R.EST_QL, R.TIM_NOWL, R.TIM_INCL,
   R.TIM_CALSETL, R.TIM_PPSIL, R.TIM_TSL]

/-- The register at an address is the low word of a 64-bit quantity. -/
def isLow (a : Nat) : Bool := match rgAt a with | some (r, _) => lowWords.contains r | none => false

/-- The register at an address is the high word of a 64-bit quantity. -/
def isHigh (a : Nat) : Bool := decide (4 ≤ a) && isLow (a - 4)

/-- What an initiator's latch or holding register holds for the quantity whose low word is at an address. -/
def latchFind (l : List Latch) (ini : Initiator) (low : Nat) : Option Word :=
  (l.find? fun x => x.initiator == iniCode ini && x.addr == low).map (·.word)

/-- Empties an initiator's latch or holding register. -/
def latchDrop (l : List Latch) (ini : Initiator) : List Latch := l.filter fun x => x.initiator != iniCode ini

/-- Loads an initiator's latch or holding register. -/
def latchLoad (l : List Latch) (ini : Initiator) (low : Nat) (w : Word) : List Latch :=
  latchDrop l ini ++ [{ initiator := iniCode ini, addr := low, word := w }]

/-! ### Reads (R9, R12) -/

/-- The word a register shows: what it holds, but for the registers that follow other state. -/
def State.shown (s : State) (ini : Initiator) (r : Rg) (i : Nat) : Word :=
  let w := s.reg r i
  if r = R.TIM_NOWL then BitVec.ofNat 32 s.now
  else if r = R.TIM_NOWH then BitVec.ofNat 32 (s.now / 2 ^ 32)
  else if r = R.TIM_EVT then s.eventTime
  else if r = R.TIM_STAT then withBits w Fl.TIM_STAT_RUNLOCK.lsb 1 (b2n s.runlock)
  else if r = R.HST_PENDSUM then BitVec.ofNat 32 s.pendSum
  else if r = R.HST_PCIID then withBits w Fl.HST_PCIID_VENID.lsb 16 Config.vendorId.toNat
  else if r = R.SIG_DEVSERL then BitVec.ofNat 32 Config.devSer
  else if r = R.SIG_DEVSERH then BitVec.ofNat 32 (Config.devSer / 2 ^ 32)
  else if r = R.SIG_CERT then Config.certWord i
  else if r = R.SYS_MBOXSTAT then (match ini with | .hart n => s.mboxStat n | _ => 0)
  else w

/-- What a read of a register does beside returning its word (R92, R536, R551, R576). -/
def readEffect (ini : Initiator) (r : Rg) (i : Nat) (s : State) : State :=
  if r = R.SYS_MBOXRX then (match ini with | .hart n => mailboxRead n s | _ => s)
  else if r = R.TIM_INFO then stampRead i s
  else if r = R.CAN_TXEVB then canEventRead i s
  else if r = R.DKL_TXEV then dklEventRead s
  else s

/-- The word of the loop engine's memories at an address; none elsewhere (R128, R136, R140, R159). -/
def State.lpeWindow (s : State) (a : Nat) : Option Word :=
  if 0x40048000 ≤ a && a < 0x40050000 then some (cellsGet 0 s.lpe.kernels ((a - 0x40048000) / 4))
  else if 0x40050000 ≤ a && a < 0x40060000 then some (cellsGet 0 s.lpe.cap.buf ((a - 0x40050000) / 4))
  else if 0x40060000 ≤ a && a < 0x40080000 then
    some (s.coefAt ((a - 0x40060000) / 0x10000) ((a - 0x40060000) / 0x40 % 1024) (a / 4 % 16))
  else none

/-- A word of the host event mirror (R598, R601). -/
def State.mirrorWord (s : State) (a : Nat) : Option Word :=
  if 0x4002E000 ≤ a && a < 0x4002E010 then some (s.reg R.EVT_PEND ((a - 0x4002E000) / 4)) else none

/-- The word at a register address; reserved words read 0. -/
def State.wordAt (s : State) (ini : Initiator) (a : Nat) : Word :=
  match s.lpeWindow a, s.mirrorWord a, rgAt a with
  | some w, _, _ => w
  | _, some w, _ => w
  | _, _, some (r, i) => s.shown ini r i
  | _, _, none => 0

/-- A read that ends in a bus error. -/
def busFault (s : State) : State := { s with busError := true }

/-- A read of an aligned 32-bit register by an initiator on the bus: `readData` holds the word (R7, R13). -/
def busRead (ini : Initiator) (a : Nat) (s : State) : State :=
  if a % 4 != 0 || (blockAt a).isNone then busFault s else
  let w := s.wordAt ini a
  let s := { s with busError := false, readData := w }
  if isLow a then { s with latches := latchLoad s.latches ini a (s.wordAt ini (a + 4)) }
  else if isHigh a then
    match latchFind s.latches ini (a - 4) with
    | some v => { s with readData := v, latches := latchDrop s.latches ini }
    | none => s
  else match rgAt a with
    | some (r, i) => readEffect ini r i s
    | none => s

/-! ### Writes -/

/-- The owner field of a block; SYS and SFY have none (R93, R94). -/
def Blk.owner : Blk → Option Fld
  | .sys => none | .sfy => none
  | .evt => some Fl.SYS_OWNER0_EVT | .hst => some Fl.SYS_OWNER0_HST | .lpe => some Fl.SYS_OWNER0_LPE
  | .cln => some Fl.SYS_OWNER0_CLN | .prt => some Fl.SYS_OWNER0_PRT | .alc => some Fl.SYS_OWNER0_ALC
  | .veh => some Fl.SYS_OWNER0_VEH | .thm => some Fl.SYS_OWNER0_THM | .mtr => some Fl.SYS_OWNER1_MTR
  | .bil => some Fl.SYS_OWNER1_BIL | .sig => some Fl.SYS_OWNER1_SIG | .rng => some Fl.SYS_OWNER1_RNG
  | .lsw => some Fl.SYS_OWNER1_LSW | .est => some Fl.SYS_OWNER1_EST | .tim => some Fl.SYS_OWNER1_TIM
  | .can => some Fl.SYS_OWNER1_CAN | .dkl => some Fl.SYS_OWNER2_DKL | .eth => some Fl.SYS_OWNER2_ETH
  | .sto => some Fl.SYS_OWNER2_STO

/-- A write of SYS_PWRCTL: FURL_ARM, then REQ, of which 4 to 7 are ignored (R39, R40, R56). -/
def pwrctlWrite (v : Word) (s : State) : State :=
  let s := furlArm (bitsOf v 8 8) s
  if bitsOf v 0 3 ≤ 3 then requestState (bitsOf v 0 3) s else s

/-- A write of SYS_RSTCTL: with the key, COLD before WARM (R56). -/
def rstctlWrite (v : Word) (s : State) : State :=
  if bitsOf v 16 16 != 0xA5C3 then s
  else if v.getLsbD 1 then softwareCold s
  else if v.getLsbD 0 then warmCause 5 s else s

/-- A write of SYS_HARTCTL[n]: HALT, then START; ICINV changes nothing the model holds (R80, R90). -/
def hartctlWrite (n : Nat) (v : Word) (s : State) : State :=
  let s := s.when (v.getLsbD 1) (hartHalt n)
  s.when (v.getLsbD 0) (hartStart n)

/-- A write of a register of the SYS block by hart `n` in supervisor privilege (R56, R94, R95). -/
def sysWrite (n : Nat) (r : Rg) (i : Nat) (v : Word) (s : State) : State :=
  let p0 (f : State → State) : State := if n = 0 then f s else busFault s
  if r = R.SYS_PWRCTL then pwrctlWrite v s
  else if r = R.SYS_RSTCTL then rstctlWrite v s
  else if r = R.SYS_WDTCTL then watchdogWrite (v.getLsbD 31) (bitsOf v 0 10) s
  else if r = R.SYS_WDTKICK then watchdogKey (bitsOf v 0 8) s
  else if r = R.SYS_BOOTCFG then s.when (v.getLsbD 0) confirmSlot
  else if r = R.SYS_HARTCTL then hartctlWrite i v s
  else if r = R.SYS_MBOXTX then mailboxWrite n i v s
  else if r = R.SYS_MBOXSTAT then mboxStatWrite n v s
  else if r = R.SYS_OWNER0 || r = R.SYS_OWNER1 || r = R.SYS_OWNER2 then
    p0 fun s => if s.b Fl.SYS_OWNERLOCK_LOCK then s else plainWrite r i v s
  else if r = R.SYS_OWNERLOCK then p0 fun s => s.when (v.getLsbD 0) ownerLock
  else plainWrite r i v s

/-- What a write of a register does beyond its access codes, by block. -/
def Blk.hook (b : Blk) (r : Rg) (i : Nat) (v : Word) (s : State) : Option State :=
  match b with
  | .sys => none | .sfy => none
  | .evt => evtWrite r i v s | .hst => hstWrite r i v s | .lpe => lpeWrite r i v s | .cln => clnWrite r i v s
  | .prt => prtWrite r i v s | .alc => alcWrite r i v s | .veh => vehWrite r i v s | .thm => thmWrite r i v s
  | .mtr => mtrWrite r i v s | .bil => bilWrite r i v s | .sig => sigWrite r i v s | .rng => rngWrite r i v s
  | .lsw => lswWrite r i v s | .est => estWrite r i v s | .tim => timWrite r i v s | .can => canWrite r i v s
  | .dkl => dklWrite r i v s | .eth => ethWrite r i v s | .sto => stoWrite r i v s

/-- A write of a register outside SYS and SFY. -/
def blockWrite (b : Blk) (r : Rg) (i : Nat) (v : Word) (s : State) : State :=
  (b.hook r i v s).getD (plainWrite r i v s)

/-- The first guest member of a register: guest groups and batches, guard lanes and guest slots, guest groups of
port power, guest entries of the allocator, guest contexts and guest thermal records (R150, R166, R194, R234, R268,
R298, R317); none where every member is a home member. -/
def Rg.guestFrom (r : Rg) : Option Nat :=
  match blockAt r.addr with
  | some .lpe => if r = R.LPE_GROUP then some 4 else if r.count = 64 then some 32 else none
  | some .cln => if r = R.CLN_LANECFG then some 16 else if r = R.CLN_CELLMAP then some 512 else none
  | some .prt => if r = R.PRT_CELL then some 512 else if r.count = 80 then some 40 else none
  | some .alc => if r.count = 48 then some 24 else if r.count = 16 then some 8 else none
  | some .veh | some .thm => if r.count = 48 then some 24 else none
  | _ => none

/-- A guest register: a hart writes it only while LPE_TAKE.ACTIVE is 1 (R150). -/
def guestRegister (r : Rg) (i : Nat) : Bool :=
  match r.guestFrom with
  | some n => decide (n ≤ i)
  | none => false

/-- A write that the initiator's place forbids (R93, R150, R476). -/
def State.writeForbidden (s : State) (ini : Initiator) (b : Blk) (a : Nat) : Bool :=
  let owner := match b.owner with | some f => !s.mayWrite f ini | none => false
  let guest := match rgAt a with
    | some (r, i) => guestRegister r i && !s.b Fl.LPE_TAKE_ACTIVE && (match ini with | .hart _ => true | _ => false)
    | none => false
  owner || guest || ((match ini with | .hart _ => true | _ => false) && s.returnBlocks a)

/-- A word written to a register, low and high words of 64-bit quantities by the rules of R13. -/
def quantityWrite (ini : Initiator) (b : Blk) (a : Nat) (v : Word) (s : State) : State :=
  match rgAt a with
  | none => s
  | some (r, i) =>
    if isLow a then { s with holds := latchLoad s.holds ini a v }
    else if isHigh a then
      match latchFind s.holds ini (a - 4), rgAt (a - 4) with
      | some low, some (rl, il) =>
        blockWrite b r i v (blockWrite b rl il low { s with holds := latchDrop s.holds ini })
      | _, _ => blockWrite b r i v s
    else blockWrite b r i v s

/-- A store to SFY by another initiator than S0 or S1 (R420). -/
def foreignStore (s : State) : State := busFault (sfyCause 7 (s.satF Fl.SFY_STAT_FOREIGN 0 1))

/-- A store to SFY: S0 and S1 write it while the shroud runs, each by its access codes; a word that no register
has takes nothing (R12, R15, R420, R421, R454). -/
def sfyStore (ini : Initiator) (a : Nat) (v : Word) (s : State) : State :=
  match ini with
  | .s0 | .s1 =>
    if !s.sfy.running then s else
    match rgAt a with | some (r, i) => sfyWrite r i v s | none => s
  | _ => foreignStore s

/-- A write of an aligned 32-bit register by an initiator on the bus; `sup` is the privilege of a hart. A bus error
is left in `busError` (R7, R56, R93, R129, R420). -/
def busWrite (ini : Initiator) (sup : Bool) (a : Nat) (v : Word) (s : State) : State :=
  let s := { s with busError := false }
  if a % 4 != 0 then busFault s else
  match blockAt a with
  | none => busFault s
  | some .sfy => sfyStore ini a v s
  | some .sys =>
    match ini with
    | .hart n =>
      if !sup then busFault s else
      match rgAt a with | some (r, i) => sysWrite n r i v s | none => s
    | _ => busFault s
  | some b =>
    if s.writeForbidden ini b a then busFault s
    else if 0x40048000 ≤ a && a < 0x40050000 then busFault s
    else if 0x40050000 ≤ a && a < 0x40060000 then s
    else if 0x40060000 ≤ a && a < 0x40080000 then
      coefficientWrite ini ((a - 0x40060000) / 0x10000) ((a - 0x40060000) / 0x40 % 1024) (a / 4 % 16) v s
    else quantityWrite ini b a v s

/-! ### The host port (R580, R581) -/

/-- The host reaches the device: the PCI Express link is up, or the QSPI port is ready; not in Stow (R38, R48,
R578). -/
def State.hostReady (s : State) : Bool :=
  s.f Fl.SYS_PWRSTAT_STATE != 3 &&
  (if s.pcie then s.b Fl.HST_STAT_LINK
   else s.sys.phase == .running || s.sys.phase == .bootHold || s.b Fl.HST_STAT_BOOTROM)

/-- A word the host writes at an offset of the host page: only the fields marked H take it (R581, R601). -/
def hostPageWrite (off : Nat) (v : Word) (s : State) : State :=
  if 0xE000 ≤ off && off < 0xE010 then hostEventClear ((off - 0xE000) / 4) v.toNat s
  else if off = 0xE010 then lineAck (bitsOf v 0 8) s
  else match rgAt (0x40020000 + off) with
    | some (r, i) =>
      if r = R.HST_SQTAIL || r = R.HST_CQHEAD then (hstWrite r i v s).getD s
      else if r = R.HST_SQMEM then plainWrite r i v s
      else s
    | none => s

/-- A byte the host writes to the data window; beyond its size nothing is written. -/
def hostWindowWrite (off : Nat) (l : List Byte) (s : State) : State :=
  s.dma (s.windowBase + off) (l.take (s.windowSize - off))

/-- A byte the host reads from the data window; beyond its size it reads 0. -/
def State.hostWindowByte (s : State) (off : Nat) : Byte :=
  if off < s.windowSize then s.byte (s.windowBase + off) else 0

/-- A 32-bit write of the host at a bus address: the host page or the data window; nothing else is reached. -/
def hostWrite (a : Nat) (v : Word) (s : State) : State :=
  let s := { s with busError := false }
  if !s.hostReady || a % 4 != 0 then busFault s
  else if 0x40020000 ≤ a && a < 0x40030000 then hostPageWrite (a - 0x40020000) v s
  else if s.windowBase ≤ a && a < s.windowBase + 0x800000 then
    hostWindowWrite (a - s.windowBase) (leBytes 4 v.toNat) s
  else busFault s

/-- A 32-bit read of the host at a bus address. -/
def hostRead (a : Nat) (s : State) : State :=
  if !s.hostReady then busFault s
  else if 0x40020000 ≤ a && a < 0x40030000 then busRead .host a s
  else if s.windowBase ≤ a && a < s.windowBase + 0x800000 && a % 4 == 0 then
    { s with busError := false
             readData := BitVec.ofNat 32 (leNat ((List.range 4).map fun i => s.hostWindowByte (a - s.windowBase + i))) }
  else busFault s

/-- Whole words written to the host page from an offset on. -/
def pageWords : Nat → List Byte → State → State
  | off, b0 :: b1 :: b2 :: b3 :: rest, s =>
    pageWords (off + 4) rest
      (if off < 0x10000 then hostPageWrite off (BitVec.ofNat 32 (leNat [b0, b1, b2, b3])) s else s)
  | _, _, s => s

/-- QSPI command 0x32 at a 24-bit host offset; discarded while the device is not ready. The host page takes aligned
words (R7, R580, R581). -/
def qspiWrite (off : Nat) (l : List Byte) (s : State) : State :=
  if s.pcie || !s.hostReady then s
  else if off < 0x10000 then if off % 4 = 0 then pageWords off l s else s
  else if 0x800000 ≤ off then hostWindowWrite (off - 0x800000) l s
  else s

/-- A byte that QSPI command 0xEB returns at a host offset. -/
def State.qspiByte (s : State) (off : Nat) : Byte :=
  if off < 0x10000 then
    BitVec.ofNat 8 ((s.wordAt .host (0x40020000 + off / 4 * 4)).toNat / 256 ^ (off % 4))
  else if 0x800000 ≤ off then s.hostWindowByte (off - 0x800000)
  else 0

/-- QSPI command 0xEB: reads return 0 while the device is not ready. -/
def qspiRead (off len : Nat) (s : State) : State :=
  if s.pcie then s else
  { s with host.qspiOut := (List.range len).map fun i => if s.hostReady then s.qspiByte (off + i) else 0 }

/-! ### By initiator -/

/-- A register read of any initiator. -/
def initiatorRead (ini : Initiator) (a : Nat) (s : State) : State :=
  match ini with
  | .host => hostRead a s
  | _ => busRead ini a s

/-- A register write of any initiator; a hart writes in its present privilege. -/
def initiatorWrite (ini : Initiator) (a : Nat) (v : Word) (s : State) : State :=
  match ini with
  | .host => hostWrite a v s
  | .hart n => busWrite ini (s.hart n).sup a v s
  | _ => busWrite ini true a v s

end Sys2Proof.Machine
end

