-- ==== Sys2Proof/Machine/BusCommands.lean ====
section
/-! DEFINITION. The commands of the register bus, of hart control and of the host port's accesses (R7 to R13, R80,
R88 to R94, R580, R595). -/

namespace Sys2Proof.Machine

def execRegisterWrite (ini : Initiator) (addr : Nat) (v : Word) (s : State) : Out := done (initiatorWrite ini addr v s)

/-- A read of the low word of a 64-bit quantity; of another register the command reads nothing. -/
def execReadLowWord (ini : Initiator) (addr : Nat) (s : State) : Out :=
  done (if isLow addr then initiatorRead ini addr s else s)

def execReadHighWord (ini : Initiator) (addr : Nat) (s : State) : Out :=
  done (if isHigh addr then initiatorRead ini addr s else s)

def execWriteLowWord (ini : Initiator) (addr : Nat) (v : Word) (s : State) : Out :=
  done (if isLow addr then initiatorWrite ini addr v s else s)

def execWriteHighWord (ini : Initiator) (addr : Nat) (v : Word) (s : State) : Out :=
  done (if isHigh addr then initiatorWrite ini addr v s else s)

/-- A hart's write of EVT_PEND[j] (R595, R598). -/
def execEventClear (ini : Initiator) (j : Nat) (mask : Word) (s : State) : Out :=
  done (if j < 4 then initiatorWrite ini (R.EVT_PEND.addrAt j) mask s else s)

def execQspiWrite (addr : BitVec 24) (data : List Byte) (s : State) : Out := done (qspiWrite addr.toNat data s)
def execQspiRead (addr : BitVec 24) (len : Nat) (s : State) : Out := done (qspiRead addr.toNat len s)

def execHartStart (n : Nat) (s : State) : Out := done (hartStart n s)
def execHartHalt (n : Nat) (s : State) : Out := done (hartHalt n s)

/-- The model holds no instruction cache: instructions are commands (R80). -/
def execHartIcinv (_n : Nat) (s : State) : Out := done s

def execHaltComplete (n : Nat) (s : State) : Out := done (haltComplete n s)
def execMailboxWrite (writer : Hart) (n : Nat) (v : Word) (s : State) : Out := done (mailboxWrite writer.val n v s)
def execMailboxRead (h : Hart) (s : State) : Out := done (mailboxRead h.val s)
def execOwnerLock (s : State) : Out := done (ownerLock s)

end Sys2Proof.Machine
end

