-- ==== Sys2Proof/Machine/ScalarOps.lean ====
section
/-! DEFINITION. What the scalar operations compute (R64, R66 to R70). -/

namespace Sys2Proof.Machine

/-- A doubleword: a register pair (R61). -/
abbrev DWord := BitVec 64

/-- 1 or 0. -/
def flagWord (b : Bool) : Word := if b then 1 else 0

/-- An immediate, sign-extended (R64). -/
def sext (imm : BitVec 16) : Word := imm.signExtend 32

/-- An immediate, zero-extended: ANDI, ORI, XORI (R64). -/
def zext (imm : BitVec 16) : Word := imm.zeroExtend 32

/-- An immediate as the upper half of a word: LUI, ADDPC. -/
def upper (imm : BitVec 16) : Word := sext imm <<< 16

/-- SLL, SRL, SRA: the shift by the low five bits of the second operand (R67). -/
def sllW (a b : Word) : Word := a <<< (b.toNat % 32)
def srlW (a b : Word) : Word := a >>> (b.toNat % 32)
def sraW (a b : Word) : Word := a.sshiftRight (b.toNat % 32)

/-- SLT, SLTU. -/
def sltW (a b : Word) : Word := flagWord (a.slt b)
def sltuW (a b : Word) : Word := flagWord (a.ult b)

/-- MIN, MAX, MINU, MAXU. -/
def minW (a b : Word) : Word := if b.slt a then b else a
def maxW (a b : Word) : Word := if a.slt b then b else a
def minuW (a b : Word) : Word := if b.ult a then b else a
def maxuW (a b : Word) : Word := if a.ult b then b else a

/-- A signed number clamped to 32 bits: ADDS, SUBS. -/
def clampW (x : Int) : Word := BitVec.ofInt 32 (clampInt (-2147483648) 2147483647 x)

def addsW (a b : Word) : Word := clampW (a.toInt + b.toInt)
def subsW (a b : Word) : Word := clampW (a.toInt - b.toInt)

/-- MULH, MULHU: the high word of the product. -/
def mulhW (a b : Word) : Word := BitVec.ofInt 32 (floorDiv (a.toInt * b.toInt) (2 ^ 32))
def mulhuW (a b : Word) : Word := BitVec.ofNat 32 (a.toNat * b.toNat / 2 ^ 32)

/-- DIV, DIVU, REM, REMU: division by zero gives all ones and the dividend; the one overflow wraps (R70). -/
def divW (a b : Word) : Word := if b = 0 then 0xFFFFFFFF else BitVec.ofInt 32 (Int.tdiv a.toInt b.toInt)
def divuW (a b : Word) : Word := if b = 0 then 0xFFFFFFFF else BitVec.ofNat 32 (a.toNat / b.toNat)
def remW (a b : Word) : Word := if b = 0 then a else BitVec.ofInt 32 (Int.tmod a.toInt b.toInt)
def remuW (a b : Word) : Word := if b = 0 then a else BitVec.ofNat 32 (a.toNat % b.toNat)

/-- CLZ: the number of leading zero bits; POPC: the number of one bits. -/
def clzW (a : Word) : Word :=
  BitVec.ofNat 32 (((List.range 32).find? fun i => a.getLsbD (31 - i)).getD 32)
def popcW (a : Word) : Word := BitVec.ofNat 32 (popCount 32 a.toNat)

/-- Shifts of a pair by the low six bits of a register (R68). -/
def slldD (a : DWord) (b : Word) : DWord := a <<< (b.toNat % 64)
def srldD (a : DWord) (b : Word) : DWord := a >>> (b.toNat % 64)
def sradD (a : DWord) (b : Word) : DWord := a.sshiftRight (b.toNat % 64)

/-- MULW, MULWU: 64-bit products of single registers. -/
def mulwD (a b : Word) : DWord := BitVec.ofInt 64 (a.toInt * b.toInt)
def mulwuD (a b : Word) : DWord := BitVec.ofNat 64 (a.toNat * b.toNat)

end Sys2Proof.Machine
end

