-- ==== Sys2Proof/Machine/Harts.lean ====
section
/-! DEFINITION. One instruction of a policy hart: fetch, registers, the memory map, traps, interrupts, control words
and waits (R59 to R83). -/

namespace Sys2Proof.Machine

/-- What an instruction comes to: the state after it, or a trap with its cause and DETAIL. -/
inductive HRes where
  | ok (s : State)
  | trap (cause : Nat) (detail : Option Word) (s : State)

/-! ### General registers (R61, R62) -/

/-- A general register; g0 reads as zero. -/
def HartCtx.r (x : HartCtx) (n : RegNum) : Word := if n = 0 then 0 else x.g.toList.getD n.toNat 0

/-- Writes a general register; a write to g0 is discarded. -/
def HartCtx.setR (x : HartCtx) (n : RegNum) (v : Word) : HartCtx :=
  if n = 0 then x else { x with g := x.g.setIfInBounds n.toNat v }

/-- A register pair, named by its even register; pair 0 reads as zero. -/
def HartCtx.pair (x : HartCtx) (n : RegNum) : DWord := if n = 0 then 0 else x.r (n + 1) ++ x.r n

/-- Writes a register pair; pair 0 discards both words. -/
def HartCtx.setPair (x : HartCtx) (n : RegNum) (v : DWord) : HartCtx :=
  if n = 0 then x else (x.setR n (v.extractLsb' 0 32)).setR (n + 1) (v.extractLsb' 32 32)

/-- An odd register names no pair. -/
def oddPair (n : RegNum) : Bool := n.getLsbD 0

/-- Writes a general register of hart `n`. -/
def setG (n : Nat) (rd : RegNum) (v : Word) (s : State) : State := s.setHart n fun x => x.setR rd v

/-- Writes a register pair of hart `n`. -/
def setGPair (n : Nat) (rd : RegNum) (v : DWord) (s : State) : State := s.setHart n fun x => x.setPair rd v

/-- The hart continues at an address. -/
def setPc (n : Nat) (pc : Word) (s : State) : State := s.setHart n fun x => { x with pc := pc }

/-! ### Local store and traps (R73 to R77) -/

/-- Bytes of a hart's local store. -/
def HartCtx.localBytes (x : HartCtx) (off n : Nat) : List Byte :=
  (List.range n).map fun i => cellsGet (0 : Byte) x.localStore (off + i)

/-- Writes bytes of a hart's local store. -/
def HartCtx.setLocal (x : HartCtx) : Nat → List Byte → HartCtx
  | _, [] => x
  | off, v :: vs => ({ x with localStore := cellsPut (0 : Byte) x.localStore off v } : HartCtx).setLocal (off + 1) vs

/-- A word of the local store. -/
def HartCtx.localWord (x : HartCtx) (off : Nat) : Word := BitVec.ofNat 32 (leNat (x.localBytes off 4))

/-- Writes a word of the local store. -/
def HartCtx.setLocalWord (x : HartCtx) (off : Nat) (v : Word) : HartCtx := x.setLocal off (leBytes 4 v.toNat)

/-- INTRAP, IRQON of CW_MODE. -/
def HartCtx.inTrap (x : HartCtx) : Bool := x.mode.getLsbD 5
def HartCtx.irqOn (x : HartCtx) : Bool := x.mode.getLsbD 1

/-- CODE of a trap record. -/
def trapCode (irq : Bool) (cause : Nat) : Word := BitVec.ofNat 32 (b2n irq * 2 ^ 31 + cause)

/-- A hart as a trap leaves it: the record written, SUP and INTRAP set, IRQON cleared, at the table entry; its
reservation lost (R73, R83). -/
def trapped (irq : Bool) (cause : Nat) (detail : Word) (x : HartCtx) : HartCtx :=
  let y := (((x.setLocalWord 0x3FF0 x.pc).setLocalWord 0x3FF4 x.mode).setLocalWord 0x3FF8 (trapCode irq cause)).setLocalWord
    0x3FFC detail
  { y with mode := (x.mode ||| 0x21) &&& 0xFFFFFFFD, pc := x.trapBase + BitVec.ofNat 32 (16 * cause)
           reservation := none, wait := .none }

/-- A hart takes a trap; with INTRAP 1 it is a hart lockup: the hart stops and the device takes a warm reset. DETAIL is
a free value where the manual states none (R73, R75). -/
def takeTrap (n : Nat) (irq : Bool) (cause : Nat) (detail : Option Word) (s : State) : State :=
  let s := s.setF Fl.SYS_HARTSTAT_LASTCAUSE n (b2n irq * 128 + cause)
  if (s.hart n).inTrap then warmCause 10 (s.withHart n stopHart) else
  let d := match detail with | some v => (v, s) | none => (BitVec.ofNat 32 s.draw.1, s.draw.2)
  d.2.withHart n (trapped irq cause d.1)

/-! ### Fetch (R73, R76, R77) -/

/-- An access in program privilege that some enabled region allows: bit 8 R, 9 W, 10 X (R76). -/
def HartCtx.regionAllows (x : HartCtx) (a bit : Nat) : Bool :=
  (List.range 8).any fun k =>
    let w := x.rgnAttr.toList.getD k 0
    let size := bitsOf w 0 5
    w.getLsbD 31 && w.getLsbD bit && 8 ≤ size && (x.rgnBase.toList.getD k 0).toNat / 2 ^ size == a / 2 ^ size

/-- An access that the hart's privilege allows. -/
def HartCtx.allows (x : HartCtx) (a bit : Nat) : Bool := x.sup || x.regionAllows a bit

/-- Until the image is placed after Stow, P0 runs from the handler range and the boot ROM alone (R43). -/
def State.fetchArea (s : State) (a : Nat) : Bool :=
  a < 0x10000 || (inSram a 4 && (s.b Fl.SYS_PWRSTAT_IMGRDY ||
    (match s.images.resume with | some r => r.sram ≤ a && a + 4 ≤ r.sram + r.len | none => false)))

/-- The exception of a fetch at the hart's address, if it raises one. -/
def State.fetchFault (s : State) (n : Nat) : Option Nat :=
  let x := s.hart n
  let a := x.pc.toNat
  if a % 4 != 0 then some 3 else if s.fetchArea a && x.allows a 10 then none else some 2

/-- The hart executes: running, not waiting, clocked; until the image is placed after Stow, P0 alone (R43, R90). -/
def State.hartRuns (s : State) (n : Nat) : Bool :=
  let x := s.hart n
  x.run == .running && x.wait == .none && s.hartsClocked && (n == 0 || s.b Fl.SYS_PWRSTAT_IMGRDY)

/-- The instruction word at an address, for DETAIL of cause 1. -/
def State.instrWord (s : State) (a : Nat) : Word :=
  if a < 0x10000 then BitVec.ofNat 32 (leNat ((List.range 4).map fun i => Config.bootRom (a + i))) else s.word a

/-- An instruction completes: CW_DONE counts it, unless it waits (R72). -/
def retire (n : Nat) (s : State) : State :=
  s.withHart n fun x => if x.run = .halted || x.wait != .none then x else { x with done := x.done + 1 }

/-- One instruction of hart `n`: the fetch, then its body, whose operands are those before it; it continues at the next
word unless the body says otherwise. A trap leaves the address at the instruction. -/
def instr (n : Nat) (body : HartCtx → State → HRes) (s : State) : State :=
  if !s.hartRuns n then s else
  let x := s.hart n
  match s.fetchFault n with
  | some c => takeTrap n false c (some x.pc) s
  | none =>
    match body x (setPc n (x.pc + 4) s) with
    | .ok t => retire n t
    | .trap c d t => takeTrap n false c d (setPc n x.pc t)

/-- An illegal instruction (R62, R65). -/
def illegal (x : HartCtx) (s : State) : HRes := .trap 1 (some (s.instrWord x.pc.toNat)) s

/-! ### Loads and stores (R77 to R79) -/

/-- The part of the physical map an address lies in (R77). -/
inductive Area where
  | bootRom | mramSystem | mramProgram | sram | toShroud | fromShroud | localStore | block | unmapped
  deriving DecidableEq, Repr

/-- The map of R77. -/
def areaOf (a : Nat) : Area :=
  if a < 0x10000 then .bootRom
  else if a < 0x10000000 then .unmapped
  else if a < 0x10100000 then .mramSystem
  else if a < 0x10400000 then .mramProgram
  else if a < 0x20000000 then .unmapped
  else if a < 0x21800000 then .sram
  else if a < 0x28000000 then .unmapped
  else if a < 0x28000800 then .toShroud
  else if a < 0x28001000 then .fromShroud
  else if a < 0x30000000 then .unmapped
  else if a < 0x30004000 then .localStore
  else if a < 0x40000000 then .unmapped
  else if a < 0x404C0000 then .block
  else .unmapped

/-- A load access fault at an address. -/
def loadFault (a : Word) (s : State) : HRes := .trap 4 (some a) s

/-- A store access fault at an address. -/
def storeFault (a : Word) (s : State) : HRes := .trap 5 (some a) s

/-- A word access of a register block by hart `n`. -/
def regLoad (n : Nat) (a : Word) (s : State) (k : Nat → State → HRes) : HRes :=
  let t := busRead (.hart n) a.toNat s
  if t.busError then loadFault a t else k t.readData.toNat t

/-- A word store to a register block by hart `n`. -/
def regStore (n : Nat) (sup : Bool) (a v : Word) (s : State) (k : State → HRes) : HRes :=
  let t := busWrite (.hart n) sup a.toNat v s
  if t.busError then storeFault a t else k t

/-- `len` bytes loaded by hart `n` at an address; `k` goes on with their little-endian number. -/
def load (n len : Nat) (a : Word) (x : HartCtx) (s : State) (k : Nat → State → HRes) : HRes :=
  let at_ := a.toNat
  if at_ % len != 0 then .trap 3 (some a) s
  else if !x.allows at_ 8 then loadFault a s
  else match areaOf at_ with
    | .bootRom => k (leNat ((List.range len).map fun i => Config.bootRom (at_ + i))) s
    | .mramSystem =>
      if x.sup then k (leNat ((List.range len).map fun i => Config.mramSystem s.drawn (at_ + i))) { s with drawn := s.drawn + 1 }
      else loadFault a s
    | .mramProgram => k (leNat (s.bytes at_ len)) s
    | .sram => k (leNat (s.bytes at_ len)) s
    | .toShroud => if x.sup then k (leNat (s.bytes at_ len)) s else loadFault a s
    | .fromShroud => if x.sup then k (leNat (s.bytes at_ len)) s else loadFault a s
    | .localStore => k (leNat ((s.hart n).localBytes (at_ - 0x30000000) len)) s
    | .block =>
      if len = 4 then regLoad n a s k
      else if len = 8 then regLoad n a s fun lo s => regLoad n (a + 4) s fun hi s => k (lo + 2 ^ 32 * hi) s
      else loadFault a (busFault s)
    | .unmapped => loadFault a s

/-- Bytes stored to SRAM by hart `n`: reservations of other harts are lost (R83). -/
def sramStore (n a : Nat) (l : List Byte) (s : State) : State := dropReservations (some n) a l.length (s.setBytes a l)

/-- `len` bytes of a number stored by hart `n` at an address. -/
def store (n len : Nat) (a : Word) (v : Nat) (x : HartCtx) (s : State) (k : State → HRes) : HRes :=
  let at_ := a.toNat
  if at_ % len != 0 then .trap 3 (some a) s
  else if !x.allows at_ 9 then storeFault a s
  else match areaOf at_ with
    | .bootRom => storeFault a s
    | .mramSystem => storeFault a s
    | .mramProgram => if s.nvOk then k (s.setBytes at_ (leBytes len v)) else .trap 6 (some a) s
    | .sram => if s.readOnly at_ len then storeFault a s else k (sramStore n at_ (leBytes len v) s)
    | .toShroud => if x.sup then k (s.setBytes at_ (leBytes len v)) else storeFault a s
    | .fromShroud => storeFault a s
    | .localStore =>
      if !x.sup && 0x30003FC0 ≤ at_ then storeFault a s
      else k (s.setHart n fun y => y.setLocal (at_ - 0x30000000) (leBytes len v))
    | .block =>
      if len = 4 then regStore n x.sup a (BitVec.ofNat 32 v) s k
      else if len = 8 then
        regStore n x.sup a (BitVec.ofNat 32 v) s fun s => regStore n x.sup (a + 4) (BitVec.ofNat 32 (v / 2 ^ 32)) s k
      else storeFault a (if blockAt at_ = some .sfy then foreignStore s else busFault s)
    | .unmapped => storeFault a s

/-! ### Reservations (R83) -/

/-- The granule of an address. -/
def granule (a : Nat) : Nat := a / 32

/-- LWX, SWX, SWAP work on aligned words of SRAM (R78, R83). -/
def exclusive (write : Bool) (a : Word) (s : State) (k : State → HRes) : HRes :=
  if a.toNat % 4 != 0 then .trap 3 (some a) s
  else if !inSram a.toNat 4 then (if write then storeFault a s else loadFault a s)
  else k s

/-- The reservation of a hart holds for an address. -/
def State.reserved (s : State) (n a : Nat) : Bool :=
  match (s.hart n).reservation with
  | some (g, t) => g == granule a && s.tick < t + 256
  | none => false

/-! ### Interrupts and waits (R71, R72, R74) -/

/-- The event line of a hart is active (R597). -/
def State.eventLine (s : State) (n : Nat) : Bool := bitOf s.activeHartLines n

/-- The lowest cause code of the enabled interrupts that are pending. -/
def State.pendingIrq (s : State) (n : Nat) : Option Nat :=
  let x := s.hart n
  if x.mode.getLsbD 2 && s.eventLine n then some 16
  else if x.mode.getLsbD 3 && s.reached x.alarm then some 17
  else if x.mode.getLsbD 4 && !x.inbox.isEmpty then some 18
  else none

/-- What a wait waits for has come, or an enabled interrupt is pending (R69, R71). -/
def State.waitOver (s : State) (n : Nat) (w : WaitState) : Bool :=
  (s.pendingIrq n).isSome ||
  match w with
  | .none => true
  | .event => s.eventLine n
  | .time t => s.reached t

/-- The instruction of a wait: it completes at once where it is over already. -/
def waitFor (n : Nat) (w : WaitState) (s : State) : State :=
  if s.waitOver n w then s else s.setHart n fun x => { x with wait := w }

/-- A wait in progress ends; the instruction has completed. -/
def endWait (n : Nat) (s : State) : State :=
  if (s.hart n).wait = .none then s
  else s.withHart n fun x => { x with wait := .none, done := x.done + 1 }

/-- A wait ends once its condition is met; a gated hart stays as it is. -/
def waitEnd (n : Nat) (s : State) : State :=
  let x := s.hart n
  if x.wait != .none && s.hartsClocked && s.waitOver n x.wait then endWait n s else s

/-- Between instructions an enabled interrupt is taken while IRQON is 1 and INTRAP is 0 (R74). -/
def interrupt (n : Nat) (s : State) : State :=
  let x := s.hart n
  if x.run != .running || !s.hartsClocked || !x.irqOn || x.inTrap then s else
  match s.pendingIrq n with
  | some c => takeTrap n true c none (endWait n s)
  | none => s

/-! ### Control words (R72) -/

/-- A half of a 64-bit counter: the low word latches the high one. -/
def counterRead (n low : Nat) (v : BitVec 64) (high : Bool) (s : State) : Word × State :=
  if !high then
    (v.extractLsb' 0 32, s.setHart n fun x => { x with cwLatch := some (low, v.extractLsb' 32 32) })
  else match (s.hart n).cwLatch with
    | some (i, w) =>
      if i = low then (w, s.setHart n fun x => { x with cwLatch := none }) else (v.extractLsb' 32 32, s)
    | none => (v.extractLsb' 32 32, s)

/-- A control word of hart `n`; none for an index not listed. -/
def cwRead (n i : Nat) (s : State) : Option (Word × State) :=
  let x := s.hart n
  match i with
  | 0x000 => some (x.mode, s)
  | 0x001 => some (x.trapBase, s)
  | 0x002 => some (BitVec.ofNat 32 n, s)
  | 0x004 => some (counterRead n 4 x.clocks false s)
  | 0x005 => some (counterRead n 4 x.clocks true s)
  | 0x006 => some (counterRead n 6 x.done false s)
  | 0x007 => some (counterRead n 6 x.done true s)
  | 0x020 => some (x.alarm, s)
  | _ =>
    if 0x010 ≤ i && i < 0x020 then
      some ((if i % 2 = 0 then x.rgnBase else x.rgnAttr).toList.getD ((i - 0x010) / 2) 0, s)
    else none

/-- Writes a control word; the read-only ones ignore it. -/
def cwWrite (n i : Nat) (v : Word) (s : State) : State :=
  match i with
  | 0x000 => s.setHart n fun x => { x with mode := (x.mode &&& 0x20) ||| (v &&& 0x1F) }
  | 0x001 => s.setHart n fun x => { x with trapBase := v &&& 0xFFFFFE00 }
  | 0x020 => s.setHart n fun x => { x with alarm := v }
  | _ =>
    if 0x010 ≤ i && i < 0x020 then
      s.setHart n fun x =>
        if i % 2 = 0 then { x with rgnBase := x.rgnBase.setIfInBounds ((i - 0x010) / 2) v }
        else { x with rgnAttr := x.rgnAttr.setIfInBounds ((i - 0x010) / 2) (v &&& 0x8000071F) }
    else s

/-- RDCW and WRCW: privileged; an index not listed is illegal. -/
def control (n : Nat) (rd : RegNum) (i : Nat) (w : Option Word) (x : HartCtx) (s : State) : HRes :=
  if !x.sup then .trap 7 none s else
  match cwRead n i s with
  | none => illegal x s
  | some (v, s) => .ok (setG n rd v (match w with | some new => cwWrite n i new s | none => s))

/-- RESUME: CW_MODE from PREV with INTRAP cleared, the address from RET; supervisor only (R69, R73). -/
def resumeHart (n : Nat) (x : HartCtx) (s : State) : HRes :=
  if !x.sup then .trap 7 none s
  else .ok (s.setHart n fun y => { y with mode := y.localWord 0x3FF4 &&& 0x1F, pc := y.localWord 0x3FF0 })

end Sys2Proof.Machine
end

