-- ==== Sys2Proof/Machine/HartArithmeticCommands.lean ====
section
/-! DEFINITION. The register instructions of a policy hart: operate, pair operate, immediates (R64 to R70). -/

namespace Sys2Proof.Machine

/-- rd from two registers (R67). -/
def operate (h : Hart) (f : Word → Word → Word) (rd rs1 rs2 : RegNum) (s : State) : State :=
  instr h.val (fun x s => .ok (setG h.val rd (f (x.r rs1) (x.r rs2)) s)) s

/-- rd from one register (R67). -/
def operate1 (h : Hart) (f : Word → Word) (rd rs1 : RegNum) (s : State) : State :=
  instr h.val (fun x s => .ok (setG h.val rd (f (x.r rs1)) s)) s

/-- Pair rd from two pairs; an odd register is illegal (R62, R68). -/
def operateD (h : Hart) (f : DWord → DWord → DWord) (rd rs1 rs2 : RegNum) (s : State) : State :=
  instr h.val (fun x s =>
    if oddPair rd || oddPair rs1 || oddPair rs2 then illegal x s
    else .ok (setGPair h.val rd (f (x.pair rs1) (x.pair rs2)) s)) s

/-- Pair rd from a pair shifted by a single register. -/
def shiftD (h : Hart) (f : DWord → Word → DWord) (rd rs1 rs2 : RegNum) (s : State) : State :=
  instr h.val (fun x s =>
    if oddPair rd || oddPair rs1 then illegal x s
    else .ok (setGPair h.val rd (f (x.pair rs1) (x.r rs2)) s)) s

/-- A single register from the comparison of two pairs. -/
def compareD (h : Hart) (f : DWord → DWord → Bool) (rd rs1 rs2 : RegNum) (s : State) : State :=
  instr h.val (fun x s =>
    if oddPair rs1 || oddPair rs2 then illegal x s
    else .ok (setG h.val rd (flagWord (f (x.pair rs1) (x.pair rs2))) s)) s

/-- Pair rd from its old value and two single registers. -/
def productD (h : Hart) (f : DWord → Word → Word → DWord) (rd rs1 rs2 : RegNum) (s : State) : State :=
  instr h.val (fun x s =>
    if oddPair rd then illegal x s
    else .ok (setGPair h.val rd (f (x.pair rd) (x.r rs1) (x.r rs2)) s)) s

/-- rd from a register and an immediate, extended as the instruction states (R64, R66). -/
def immediate (h : Hart) (f : Word → Word → Word) (rd rs1 : RegNum) (imm : Word) (s : State) : State :=
  instr h.val (fun x s => .ok (setG h.val rd (f (x.r rs1) imm) s)) s

/-- A shift by imm[4:0]; imm[15:5] must be 0 (R65). -/
def shiftImm (h : Hart) (f : Word → Word → Word) (rd rs1 : RegNum) (imm : BitVec 16) (s : State) : State :=
  instr h.val (fun x s =>
    if imm.toNat / 32 != 0 then illegal x s else .ok (setG h.val rd (f (x.r rs1) (zext imm)) s)) s

/-! ### Operate (R67) -/

def execAdd (h : Hart) (rd rs1 rs2 : RegNum) (s : State) : Out := done (operate h (fun a b => a + b) rd rs1 rs2 s)
def execSub (h : Hart) (rd rs1 rs2 : RegNum) (s : State) : Out := done (operate h (fun a b => a - b) rd rs1 rs2 s)
def execAnd (h : Hart) (rd rs1 rs2 : RegNum) (s : State) : Out := done (operate h (fun a b => a &&& b) rd rs1 rs2 s)
def execOr (h : Hart) (rd rs1 rs2 : RegNum) (s : State) : Out := done (operate h (fun a b => a ||| b) rd rs1 rs2 s)
def execXor (h : Hart) (rd rs1 rs2 : RegNum) (s : State) : Out := done (operate h (fun a b => a ^^^ b) rd rs1 rs2 s)
def execSll (h : Hart) (rd rs1 rs2 : RegNum) (s : State) : Out := done (operate h sllW rd rs1 rs2 s)
def execSrl (h : Hart) (rd rs1 rs2 : RegNum) (s : State) : Out := done (operate h srlW rd rs1 rs2 s)
def execSra (h : Hart) (rd rs1 rs2 : RegNum) (s : State) : Out := done (operate h sraW rd rs1 rs2 s)
def execSlt (h : Hart) (rd rs1 rs2 : RegNum) (s : State) : Out := done (operate h sltW rd rs1 rs2 s)
def execSltu (h : Hart) (rd rs1 rs2 : RegNum) (s : State) : Out := done (operate h sltuW rd rs1 rs2 s)
def execMin (h : Hart) (rd rs1 rs2 : RegNum) (s : State) : Out := done (operate h minW rd rs1 rs2 s)
def execMax (h : Hart) (rd rs1 rs2 : RegNum) (s : State) : Out := done (operate h maxW rd rs1 rs2 s)
def execMinu (h : Hart) (rd rs1 rs2 : RegNum) (s : State) : Out := done (operate h minuW rd rs1 rs2 s)
def execMaxu (h : Hart) (rd rs1 rs2 : RegNum) (s : State) : Out := done (operate h maxuW rd rs1 rs2 s)
def execAdds (h : Hart) (rd rs1 rs2 : RegNum) (s : State) : Out := done (operate h addsW rd rs1 rs2 s)
def execSubs (h : Hart) (rd rs1 rs2 : RegNum) (s : State) : Out := done (operate h subsW rd rs1 rs2 s)
def execMul (h : Hart) (rd rs1 rs2 : RegNum) (s : State) : Out := done (operate h (fun a b => a * b) rd rs1 rs2 s)
def execMulh (h : Hart) (rd rs1 rs2 : RegNum) (s : State) : Out := done (operate h mulhW rd rs1 rs2 s)
def execMulhu (h : Hart) (rd rs1 rs2 : RegNum) (s : State) : Out := done (operate h mulhuW rd rs1 rs2 s)
def execDiv (h : Hart) (rd rs1 rs2 : RegNum) (s : State) : Out := done (operate h divW rd rs1 rs2 s)
def execDivu (h : Hart) (rd rs1 rs2 : RegNum) (s : State) : Out := done (operate h divuW rd rs1 rs2 s)
def execRem (h : Hart) (rd rs1 rs2 : RegNum) (s : State) : Out := done (operate h remW rd rs1 rs2 s)
def execRemu (h : Hart) (rd rs1 rs2 : RegNum) (s : State) : Out := done (operate h remuW rd rs1 rs2 s)
def execClz (h : Hart) (rd rs1 : RegNum) (s : State) : Out := done (operate1 h clzW rd rs1 s)
def execPopc (h : Hart) (rd rs1 : RegNum) (s : State) : Out := done (operate1 h popcW rd rs1 s)

/-! ### Pair operate (R68) -/

def execAddd (h : Hart) (rd rs1 rs2 : RegNum) (s : State) : Out := done (operateD h (fun a b => a + b) rd rs1 rs2 s)
def execSubd (h : Hart) (rd rs1 rs2 : RegNum) (s : State) : Out := done (operateD h (fun a b => a - b) rd rs1 rs2 s)
def execSlld (h : Hart) (rd rs1 rs2 : RegNum) (s : State) : Out := done (shiftD h slldD rd rs1 rs2 s)
def execSrld (h : Hart) (rd rs1 rs2 : RegNum) (s : State) : Out := done (shiftD h srldD rd rs1 rs2 s)
def execSrad (h : Hart) (rd rs1 rs2 : RegNum) (s : State) : Out := done (shiftD h sradD rd rs1 rs2 s)
def execSltd (h : Hart) (rd rs1 rs2 : RegNum) (s : State) : Out := done (compareD h (fun a b => a.slt b) rd rs1 rs2 s)
def execSltdu (h : Hart) (rd rs1 rs2 : RegNum) (s : State) : Out := done (compareD h (fun a b => a.ult b) rd rs1 rs2 s)
def execMulw (h : Hart) (rd rs1 rs2 : RegNum) (s : State) : Out := done (productD h (fun _ a b => mulwD a b) rd rs1 rs2 s)
def execMulwu (h : Hart) (rd rs1 rs2 : RegNum) (s : State) : Out := done (productD h (fun _ a b => mulwuD a b) rd rs1 rs2 s)
def execMacw (h : Hart) (rd rs1 rs2 : RegNum) (s : State) : Out := done (productD h (fun d a b => d + mulwD a b) rd rs1 rs2 s)
def execSextd (h : Hart) (rd rs1 : RegNum) (s : State) : Out :=
  done (productD h (fun _ a _ => a.signExtend 64) rd rs1 0 s)

/-! ### Immediates (R64, R66) -/

def execAddi (h : Hart) (rd rs1 : RegNum) (imm : BitVec 16) (s : State) : Out :=
  done (immediate h (fun a b => a + b) rd rs1 (sext imm) s)
def execSlti (h : Hart) (rd rs1 : RegNum) (imm : BitVec 16) (s : State) : Out :=
  done (immediate h sltW rd rs1 (sext imm) s)
def execSltiu (h : Hart) (rd rs1 : RegNum) (imm : BitVec 16) (s : State) : Out :=
  done (immediate h sltuW rd rs1 (sext imm) s)
def execAndi (h : Hart) (rd rs1 : RegNum) (imm : BitVec 16) (s : State) : Out :=
  done (immediate h (fun a b => a &&& b) rd rs1 (zext imm) s)
def execOri (h : Hart) (rd rs1 : RegNum) (imm : BitVec 16) (s : State) : Out :=
  done (immediate h (fun a b => a ||| b) rd rs1 (zext imm) s)
def execXori (h : Hart) (rd rs1 : RegNum) (imm : BitVec 16) (s : State) : Out :=
  done (immediate h (fun a b => a ^^^ b) rd rs1 (zext imm) s)
def execSlli (h : Hart) (rd rs1 : RegNum) (imm : BitVec 16) (s : State) : Out := done (shiftImm h sllW rd rs1 imm s)
def execSrli (h : Hart) (rd rs1 : RegNum) (imm : BitVec 16) (s : State) : Out := done (shiftImm h srlW rd rs1 imm s)
def execSrai (h : Hart) (rd rs1 : RegNum) (imm : BitVec 16) (s : State) : Out := done (shiftImm h sraW rd rs1 imm s)

def execLui (h : Hart) (rd : RegNum) (imm : BitVec 16) (s : State) : Out :=
  done (instr h.val (fun _ s => .ok (setG h.val rd (upper imm) s)) s)

def execAddpc (h : Hart) (rd : RegNum) (imm : BitVec 16) (s : State) : Out :=
  done (instr h.val (fun x s => .ok (setG h.val rd (x.pc + upper imm) s)) s)

end Sys2Proof.Machine
end

