-- ==== Sys2Proof/Machine/HartCommands.lean ====
section
/-! DEFINITION. Loads, stores, branches, calls, atomic accesses, the system instructions, interrupts and waits of a
policy hart (R64, R66, R69, R71 to R83). -/

namespace Sys2Proof.Machine

/-! ### Loads (R66, R78) -/

/-- rd from `len` bytes at rs1 + imm. -/
def loadTo (h : Hart) (len : Nat) (ext : Nat → Word) (rd rs1 : RegNum) (imm : BitVec 16) (s : State) : State :=
  instr h.val (fun x s => load h.val len (x.r rs1 + sext imm) x s fun v s => .ok (setG h.val rd (ext v) s)) s

def execLb (h : Hart) (rd rs1 : RegNum) (imm : BitVec 16) (s : State) : Out :=
  done (loadTo h 1 (fun v => BitVec.ofInt 32 (signedOf 8 v)) rd rs1 imm s)
def execLbu (h : Hart) (rd rs1 : RegNum) (imm : BitVec 16) (s : State) : Out :=
  done (loadTo h 1 (BitVec.ofNat 32) rd rs1 imm s)
def execLh (h : Hart) (rd rs1 : RegNum) (imm : BitVec 16) (s : State) : Out :=
  done (loadTo h 2 (fun v => BitVec.ofInt 32 (signedOf 16 v)) rd rs1 imm s)
def execLhu (h : Hart) (rd rs1 : RegNum) (imm : BitVec 16) (s : State) : Out :=
  done (loadTo h 2 (BitVec.ofNat 32) rd rs1 imm s)
def execLw (h : Hart) (rd rs1 : RegNum) (imm : BitVec 16) (s : State) : Out :=
  done (loadTo h 4 (BitVec.ofNat 32) rd rs1 imm s)

/-- Pair rd from the doubleword at rs1 + imm. -/
def execLd (h : Hart) (rd rs1 : RegNum) (imm : BitVec 16) (s : State) : Out :=
  done (instr h.val (fun x s =>
    if oddPair rd then illegal x s
    else load h.val 8 (x.r rs1 + sext imm) x s fun v s => .ok (setGPair h.val rd (BitVec.ofNat 64 v) s)) s)

/-! ### Stores (R66, R78, R79) -/

/-- The low `len` bytes of rs2 to rs1 + imm. -/
def storeFrom (h : Hart) (len : Nat) (rs2 rs1 : RegNum) (imm : BitVec 16) (s : State) : State :=
  instr h.val (fun x s => store h.val len (x.r rs1 + sext imm) (x.r rs2).toNat x s .ok) s

def execSb (h : Hart) (rs2 rs1 : RegNum) (imm : BitVec 16) (s : State) : Out := done (storeFrom h 1 rs2 rs1 imm s)
def execSh (h : Hart) (rs2 rs1 : RegNum) (imm : BitVec 16) (s : State) : Out := done (storeFrom h 2 rs2 rs1 imm s)
def execSw (h : Hart) (rs2 rs1 : RegNum) (imm : BitVec 16) (s : State) : Out := done (storeFrom h 4 rs2 rs1 imm s)

/-- Pair rs2 to the doubleword at rs1 + imm. -/
def execSd (h : Hart) (rs2 rs1 : RegNum) (imm : BitVec 16) (s : State) : Out :=
  done (instr h.val (fun x s =>
    if oddPair rs2 then illegal x s
    else store h.val 8 (x.r rs1 + sext imm) (x.pair rs2).toNat x s .ok) s)

/-! ### Branches and calls (R64, R66) -/

/-- A branch to the instruction's own address plus off16 × 4. -/
def branch (h : Hart) (c : Word → Word → Bool) (rs1 rs2 : RegNum) (off : BitVec 16) (s : State) : State :=
  instr h.val (fun x s =>
    .ok (if c (x.r rs1) (x.r rs2) then setPc h.val (x.pc + sext off <<< 2) s else s)) s

def execBeq (h : Hart) (rs1 rs2 : RegNum) (off : BitVec 16) (s : State) : Out :=
  done (branch h (fun a b => a == b) rs1 rs2 off s)
def execBne (h : Hart) (rs1 rs2 : RegNum) (off : BitVec 16) (s : State) : Out :=
  done (branch h (fun a b => a != b) rs1 rs2 off s)
def execBlt (h : Hart) (rs1 rs2 : RegNum) (off : BitVec 16) (s : State) : Out :=
  done (branch h (fun a b => a.slt b) rs1 rs2 off s)
def execBge (h : Hart) (rs1 rs2 : RegNum) (off : BitVec 16) (s : State) : Out :=
  done (branch h (fun a b => !a.slt b) rs1 rs2 off s)
def execBltu (h : Hart) (rs1 rs2 : RegNum) (off : BitVec 16) (s : State) : Out :=
  done (branch h (fun a b => a.ult b) rs1 rs2 off s)
def execBgeu (h : Hart) (rs1 rs2 : RegNum) (off : BitVec 16) (s : State) : Out :=
  done (branch h (fun a b => !a.ult b) rs1 rs2 off s)

def execCall (h : Hart) (rd : RegNum) (off : BitVec 21) (s : State) : Out :=
  done (instr h.val (fun x s =>
    .ok (setPc h.val (x.pc + off.signExtend 32 <<< 2) (setG h.val rd (x.pc + 4) s))) s)

def execCallr (h : Hart) (rd rs1 : RegNum) (imm : BitVec 16) (s : State) : Out :=
  done (instr h.val (fun x s =>
    .ok (setPc h.val ((x.r rs1 + sext imm) &&& 0xFFFFFFFC) (setG h.val rd (x.pc + 4) s))) s)

/-! ### Atomic accesses (R83) -/

/-- LWX: the granule of the address is reserved. -/
def execLwx (h : Hart) (rd rs1 : RegNum) (imm : BitVec 16) (s : State) : Out :=
  done (instr h.val (fun x s =>
    let a := x.r rs1 + sext imm
    exclusive false a s fun s => load h.val 4 a x s fun v s =>
      .ok (setG h.val rd (BitVec.ofNat 32 v)
        (s.setHart h.val fun y => { y with reservation := some (granule a.toNat, s.tick) }))) s)

/-- SWX: rd reads 0 and the word is stored while the reservation holds, else 1; the reservation is lost. -/
def execSwx (h : Hart) (rd rs1 rs2 : RegNum) (s : State) : Out :=
  done (instr h.val (fun x s =>
    let a := x.r rs1
    exclusive true a s fun s =>
      let held := s.reserved h.val a.toNat
      let s := s.setHart h.val fun y => { y with reservation := none }
      if held then store h.val 4 a (x.r rs2).toNat x s fun s => .ok (setG h.val rd 0 s)
      else .ok (setG h.val rd 1 s)) s)

/-- SWAP: rd takes the word at rs1, which takes rs2. -/
def execSwap (h : Hart) (rd rs1 rs2 : RegNum) (s : State) : Out :=
  done (instr h.val (fun x s =>
    let a := x.r rs1
    exclusive true a s fun s => load h.val 4 a x s fun v s =>
      store h.val 4 a (x.r rs2).toNat x s fun s => .ok (setG h.val rd (BitVec.ofNat 32 v) s)) s)

/-- 256 system clocks have passed since LWX. -/
def execReservationTimeout (h : Hart) (s : State) : Out := done (s.setHart h.val fun x => { x with reservation := none })

/-! ### Control words and the system instructions (R69, R71, R72) -/

/-- RDCW: imm[15:12] must be 0 (R66). -/
def execRdcw (h : Hart) (rd _rs1 : RegNum) (imm : BitVec 16) (s : State) : Out :=
  done (instr h.val (fun x s =>
    if x.sup && imm.toNat / 4096 != 0 then illegal x s else control h.val rd (imm.toNat % 4096) none x s) s)

def execWrcw (h : Hart) (rd rs1 : RegNum) (imm : BitVec 16) (s : State) : Out :=
  done (instr h.val (fun x s => control h.val rd (imm.toNat % 4096) (some (x.r rs1)) x s) s)

def execSvreq (h : Hart) (rs1 : RegNum) (s : State) : Out :=
  done (instr h.val (fun x s => .trap (if x.sup then 9 else 8) (some (x.r rs1)) s) s)

def execBrkpt (h : Hart) (s : State) : Out := done (instr h.val (fun _ s => .trap 10 none s) s)
def execResume (h : Hart) (s : State) : Out := done (instr h.val (fun x s => resumeHart h.val x s) s)
def execWaitev (h : Hart) (s : State) : Out := done (instr h.val (fun _ s => .ok (waitFor h.val .event s)) s)
def execWaitt (h : Hart) (rs1 : RegNum) (s : State) : Out :=
  done (instr h.val (fun x s => .ok (waitFor h.val (.time (x.r rs1)) s)) s)

/-- Every store has completed by the time the next command runs. -/
def execDrain (h : Hart) (s : State) : Out := done (instr h.val (fun _ s => .ok s) s)

/-- The model holds no instruction cache. -/
def execIcinv (h : Hart) (s : State) : Out := done (instr h.val (fun _ s => .ok s) s)

def execInterrupt (h : Hart) (s : State) : Out := done (interrupt h.val s)

/-- The alarm interrupt is pending from then on: an enabled one ends a wait (R71, R72). -/
def execAlarmDue (h : Hart) (s : State) : Out :=
  done (if s.reached (s.hart h.val).alarm && (s.hart h.val).mode.getLsbD 3 then waitEnd h.val s else s)

def execWaitEnd (h : Hart) (s : State) : Out := done (waitEnd h.val s)

end Sys2Proof.Machine
end

