-- ==== Sys2Proof/Machine/ImageServices.lean ====
section
/-! DEFINITION. The boot ROM services for images and the resume record (R103 to R106). -/

namespace Sys2Proof.Machine

/-- Registers that a service does not preserve, beside g1 and g2. -/
def clobbered : List RegNum := (List.range 17).map (fun i => BitVec.ofNat 5 (i + 3)) ++ [31]

/-- A service returns to lk: its result in g2, g1 0 or −1; the registers it does not preserve, and the count of
instructions it took, are free values. -/
def serviceReturn (n : Nat) (v : Int) (s : State) : State :=
  let lk := (s.hart n).r 31
  let s := s.eachOf clobbered fun r s => let d := s.draw; setG n r (BitVec.ofNat 32 d.1) d.2
  let d := s.draw
  d.2.withHart n fun x =>
    { ((x.setR 2 (BitVec.ofInt 32 v)).setR 1 (if v < 0 then 0xFFFFFFFF else 0)) with
      pc := lk &&& 0xFFFFFFFC, done := x.done + BitVec.ofNat 64 d.1 }

/-- A service runs for a supervisor program whose hart stands at its entry. -/
def service (n entry : Nat) (body : HartCtx → State → Int × State) (s : State) : State :=
  let x := s.hart n
  if s.hartRuns n && x.sup && x.pc.toNat == entry then
    let r := body x s
    serviceReturn n r.1 r.2
  else s

/-- A ticket by its number 1 to 4. -/
def State.ticket (s : State) (t : Nat) : Option Ticket := if t = 0 then none else (s.images.tickets[t - 1]?).join

/-- Sets a ticket. -/
def setTicket (t : Nat) (x : Option Ticket) (s : State) : State :=
  { s with images.tickets := s.images.tickets.setIfInBounds (t - 1) x }

/-- IMG_CHECK: a free ticket, its check started (R104). -/
def imgCheck (x : HartCtx) (s : State) : Int × State :=
  match (List.range 4).find? fun i => (s.ticket (i + 1)).isNone with
  | none => (-1, s)
  | some i => ((i : Int) + 1, setTicket (i + 1) (some { addr := (x.r 2).toNat, len := (x.r 3).toNat, status := 0 }) s)

/-- IMG_STATUS. -/
def imgStatus (x : HartCtx) (s : State) : Int × State :=
  match s.ticket (x.r 2).toNat with
  | none => (-5, s)
  | some t => (t.status, s)

/-- IMG_DROP. -/
def imgDrop (x : HartCtx) (s : State) : Int × State :=
  if (s.ticket (x.r 2).toNat).isSome then (0, setTicket (x.r 2).toNat none s) else (0, s)

/-- A segment overlaps a sealed range of the boot image, or reaches a kernel slot that an enabled batch names
(R103, R129). -/
def State.segSealed (s : State) (g : Segment) : Bool :=
  (s.images.bootRanges.any fun r => r.target == g.target && r.addr < g.addr + g.size && g.addr < r.addr + r.size) ||
  (segKernels g).any fun k =>
    (List.range 64).any fun b => s.b Fl.LPE_BATCH_EN b && s.f Fl.LPE_BATCH_KERNEL b == k

/-- IMG_PLACE: an accepted overlay, kernel set or data image is placed, the seal extended, the ticket released
(R103, R106). -/
def imgPlace (x : HartCtx) (s : State) : Int × State :=
  let t := (x.r 2).toNat
  match s.ticket t with
  | none => (-5, s)
  | some k =>
    let b := s.bytes k.addr k.len
    if k.status != 1 || imgType b < 3 then (-2, s)
    else if (imgSegments b).any s.segSealed then (-3, s)
    else if !s.nvOk && ((imgSegments b).any (fun g => g.target == 3) || !(imgSealed b).isEmpty) then (-4, s)
    else
      let s := placeSegments b (setTicket t none s)
      (0, if (imgSealed b).isEmpty then s else writeSeal (s.images.sealRanges ++ imgSealed b) s)

/-- IMG_SLOT: an accepted boot image is written to the non-running slot in trial state, the ticket released; the
result for another image is a free value (R103, R107). -/
def imgSlot (x : HartCtx) (s : State) : Int × State :=
  let t := (x.r 2).toNat
  match s.ticket t with
  | none => (-5, s)
  | some k =>
    let b := s.bytes k.addr k.len
    if k.status != 1 || imgType b != 1 then (signedOf 32 s.draw.1, s.draw.2)
    else if !s.nvOk || !s.stoReady then (-4, s)
    else (0, setTicket t none (writeSlot b s))

/-- RESUME_SET: the resume record with the hash of its range (R43, R103). -/
def resumeSet (x : HartCtx) (s : State) : Int × State :=
  let sram := (x.r 2).toNat
  let start := (x.r 3).toNat
  let len := (x.r 4).toNat
  if !inMramProgram start len || len < 4 || 16384 < len || !inSram sram len then (-2, s)
  else if !s.nvOk then (-4, s)
  else
    let r : ResumeRecord := { sram := sram, start := start, len := len, hash := Config.shake256 (s.bytes start len) 32 }
    (0, { s with images.resume := some r })

/-- The check of a ticket ends (R104). -/
def imageCheckDone (t : Nat) (s : State) : State :=
  match s.ticket t with
  | none => s
  | some k =>
    if k.status != 0 then s
    else setTicket t (some { k with status := s.checkResult (s.bytes k.addr k.len) }) s

def execImgCheck (h : Hart) (s : State) : Out := done (service h.val 0xFF00 imgCheck s)
def execImgStatus (h : Hart) (s : State) : Out := done (service h.val 0xFF04 imgStatus s)
def execImgPlace (h : Hart) (s : State) : Out := done (service h.val 0xFF08 imgPlace s)
def execImgSlot (h : Hart) (s : State) : Out := done (service h.val 0xFF0C imgSlot s)
def execImgDrop (h : Hart) (s : State) : Out := done (service h.val 0xFF10 imgDrop s)
def execResumeSet (h : Hart) (s : State) : Out := done (service h.val 0xFF14 resumeSet s)
def execImageCheckDone (ticket : Nat) (s : State) : Out := done (imageCheckDone ticket s)

end Sys2Proof.Machine
end

