-- ==== Sys2Proof/Machine/Dispatch.lean ====
section
/-! DEFINITION. One arm for each command: a direct call of its meaning. -/

namespace Sys2Proof.Machine

def exec (i : Instr) (s : State) : Host.Outcome State Fault Refusal :=
  match i with
  | .registerWrite ini addr v => Sys2Proof.Machine.execRegisterWrite ini addr v s
  | .readLowWord ini addr => Sys2Proof.Machine.execReadLowWord ini addr s
  | .readHighWord ini addr => Sys2Proof.Machine.execReadHighWord ini addr s
  | .writeLowWord ini addr v => Sys2Proof.Machine.execWriteLowWord ini addr v s
  | .writeHighWord ini addr v => Sys2Proof.Machine.execWriteHighWord ini addr v s
  | .referenceLost => Sys2Proof.Machine.execReferenceLost s
  | .pllLockLost => Sys2Proof.Machine.execPllLockLost s
  | .referenceQualified => Sys2Proof.Machine.execReferenceQualified s
  | .clockCheckWindow metrologyEdges shroudEdges => Sys2Proof.Machine.execClockCheckWindow metrologyEdges shroudEdges s
  | .vinBelowWarn mv => Sys2Proof.Machine.execVinBelowWarn mv s
  | .vinAboveWarn mv => Sys2Proof.Machine.execVinAboveWarn mv s
  | .vinBelowHold mv => Sys2Proof.Machine.execVinBelowHold mv s
  | .vinAboveHold mv => Sys2Proof.Machine.execVinAboveHold mv s
  | .vinBrownOut mv => Sys2Proof.Machine.execVinBrownOut mv s
  | .vinAboveStart mv bootsel hsel => Sys2Proof.Machine.execVinAboveStart mv bootsel hsel s
  | .pfwAsserted => Sys2Proof.Machine.execPfwAsserted s
  | .pfwReleased => Sys2Proof.Machine.execPfwReleased s
  | .saveStepComplete => Sys2Proof.Machine.execSaveStepComplete s
  | .saveEndRelease => Sys2Proof.Machine.execSaveEndRelease s
  | .requestRun => Sys2Proof.Machine.execRequestRun s
  | .requestLuff => Sys2Proof.Machine.execRequestLuff s
  | .requestSlack => Sys2Proof.Machine.execRequestSlack s
  | .requestStow => Sys2Proof.Machine.execRequestStow s
  | .commitPoint => Sys2Proof.Machine.execCommitPoint s
  | .powerTransitionComplete => Sys2Proof.Machine.execPowerTransitionComplete s
  | .furlArm => Sys2Proof.Machine.execFurlArm s
  | .furlDisarm => Sys2Proof.Machine.execFurlDisarm s
  | .wakeNAsserted => Sys2Proof.Machine.execWakeNAsserted s
  | .startCurrentDetected port mA => Sys2Proof.Machine.execStartCurrentDetected port mA s
  | .stowHandlerStart => Sys2Proof.Machine.execStowHandlerStart s
  | .stowImageReady => Sys2Proof.Machine.execStowImageReady s
  | .stowShroudReady => Sys2Proof.Machine.execStowShroudReady s
  | .stowAnalogReady => Sys2Proof.Machine.execStowAnalogReady s
  | .pinWarmReset => Sys2Proof.Machine.execPinWarmReset s
  | .pinColdReset => Sys2Proof.Machine.execPinColdReset s
  | .rstNRelease bootsel hsel => Sys2Proof.Machine.execRstNRelease bootsel hsel s
  | .softwareWarmReset => Sys2Proof.Machine.execSoftwareWarmReset s
  | .softwareColdReset => Sys2Proof.Machine.execSoftwareColdReset s
  | .coldResetAssert elapsed2ms bootsel hsel => Sys2Proof.Machine.execColdResetAssert elapsed2ms bootsel hsel s
  | .watchdogEnable timeout => Sys2Proof.Machine.execWatchdogEnable timeout s
  | .watchdogKick => Sys2Proof.Machine.execWatchdogKick s
  | .watchdogBadKey key => Sys2Proof.Machine.execWatchdogBadKey key s
  | .watchdogHalf => Sys2Proof.Machine.execWatchdogHalf s
  | .watchdogExpiry => Sys2Proof.Machine.execWatchdogExpiry s
  | .bootStepEnd track => Sys2Proof.Machine.execBootStepEnd track s
  | .bootNvokResume => Sys2Proof.Machine.execBootNvokResume s
  | .bootJoin => Sys2Proof.Machine.execBootJoin s
  | .confirmSlot => Sys2Proof.Machine.execConfirmSlot s
  | .add h rd rs1 rs2 => Sys2Proof.Machine.execAdd h rd rs1 rs2 s
  | .sub h rd rs1 rs2 => Sys2Proof.Machine.execSub h rd rs1 rs2 s
  | .and h rd rs1 rs2 => Sys2Proof.Machine.execAnd h rd rs1 rs2 s
  | .or h rd rs1 rs2 => Sys2Proof.Machine.execOr h rd rs1 rs2 s
  | .xor h rd rs1 rs2 => Sys2Proof.Machine.execXor h rd rs1 rs2 s
  | .sll h rd rs1 rs2 => Sys2Proof.Machine.execSll h rd rs1 rs2 s
  | .srl h rd rs1 rs2 => Sys2Proof.Machine.execSrl h rd rs1 rs2 s
  | .sra h rd rs1 rs2 => Sys2Proof.Machine.execSra h rd rs1 rs2 s
  | .slt h rd rs1 rs2 => Sys2Proof.Machine.execSlt h rd rs1 rs2 s
  | .sltu h rd rs1 rs2 => Sys2Proof.Machine.execSltu h rd rs1 rs2 s
  | .min h rd rs1 rs2 => Sys2Proof.Machine.execMin h rd rs1 rs2 s
  | .max h rd rs1 rs2 => Sys2Proof.Machine.execMax h rd rs1 rs2 s
  | .minu h rd rs1 rs2 => Sys2Proof.Machine.execMinu h rd rs1 rs2 s
  | .maxu h rd rs1 rs2 => Sys2Proof.Machine.execMaxu h rd rs1 rs2 s
  | .adds h rd rs1 rs2 => Sys2Proof.Machine.execAdds h rd rs1 rs2 s
  | .subs h rd rs1 rs2 => Sys2Proof.Machine.execSubs h rd rs1 rs2 s
  | .mul h rd rs1 rs2 => Sys2Proof.Machine.execMul h rd rs1 rs2 s
  | .mulh h rd rs1 rs2 => Sys2Proof.Machine.execMulh h rd rs1 rs2 s
  | .mulhu h rd rs1 rs2 => Sys2Proof.Machine.execMulhu h rd rs1 rs2 s
  | .div h rd rs1 rs2 => Sys2Proof.Machine.execDiv h rd rs1 rs2 s
  | .divu h rd rs1 rs2 => Sys2Proof.Machine.execDivu h rd rs1 rs2 s
  | .rem h rd rs1 rs2 => Sys2Proof.Machine.execRem h rd rs1 rs2 s
  | .remu h rd rs1 rs2 => Sys2Proof.Machine.execRemu h rd rs1 rs2 s
  | .clz h rd rs1 => Sys2Proof.Machine.execClz h rd rs1 s
  | .popc h rd rs1 => Sys2Proof.Machine.execPopc h rd rs1 s
  | .addd h rd rs1 rs2 => Sys2Proof.Machine.execAddd h rd rs1 rs2 s
  | .subd h rd rs1 rs2 => Sys2Proof.Machine.execSubd h rd rs1 rs2 s
  | .slld h rd rs1 rs2 => Sys2Proof.Machine.execSlld h rd rs1 rs2 s
  | .srld h rd rs1 rs2 => Sys2Proof.Machine.execSrld h rd rs1 rs2 s
  | .srad h rd rs1 rs2 => Sys2Proof.Machine.execSrad h rd rs1 rs2 s
  | .sltd h rd rs1 rs2 => Sys2Proof.Machine.execSltd h rd rs1 rs2 s
  | .sltdu h rd rs1 rs2 => Sys2Proof.Machine.execSltdu h rd rs1 rs2 s
  | .mulw h rd rs1 rs2 => Sys2Proof.Machine.execMulw h rd rs1 rs2 s
  | .mulwu h rd rs1 rs2 => Sys2Proof.Machine.execMulwu h rd rs1 rs2 s
  | .macw h rd rs1 rs2 => Sys2Proof.Machine.execMacw h rd rs1 rs2 s
  | .sextd h rd rs1 => Sys2Proof.Machine.execSextd h rd rs1 s
  | .addi h rd rs1 imm => Sys2Proof.Machine.execAddi h rd rs1 imm s
  | .slti h rd rs1 imm => Sys2Proof.Machine.execSlti h rd rs1 imm s
  | .sltiu h rd rs1 imm => Sys2Proof.Machine.execSltiu h rd rs1 imm s
  | .andi h rd rs1 imm => Sys2Proof.Machine.execAndi h rd rs1 imm s
  | .ori h rd rs1 imm => Sys2Proof.Machine.execOri h rd rs1 imm s
  | .xori h rd rs1 imm => Sys2Proof.Machine.execXori h rd rs1 imm s
  | .slli h rd rs1 imm => Sys2Proof.Machine.execSlli h rd rs1 imm s
  | .srli h rd rs1 imm => Sys2Proof.Machine.execSrli h rd rs1 imm s
  | .srai h rd rs1 imm => Sys2Proof.Machine.execSrai h rd rs1 imm s
  | .lui h rd imm => Sys2Proof.Machine.execLui h rd imm s
  | .addpc h rd imm => Sys2Proof.Machine.execAddpc h rd imm s
  | .lb h rd rs1 imm => Sys2Proof.Machine.execLb h rd rs1 imm s
  | .lbu h rd rs1 imm => Sys2Proof.Machine.execLbu h rd rs1 imm s
  | .lh h rd rs1 imm => Sys2Proof.Machine.execLh h rd rs1 imm s
  | .lhu h rd rs1 imm => Sys2Proof.Machine.execLhu h rd rs1 imm s
  | .lw h rd rs1 imm => Sys2Proof.Machine.execLw h rd rs1 imm s
  | .ld h rd rs1 imm => Sys2Proof.Machine.execLd h rd rs1 imm s
  | .sb h rs2 rs1 imm => Sys2Proof.Machine.execSb h rs2 rs1 imm s
  | .sh h rs2 rs1 imm => Sys2Proof.Machine.execSh h rs2 rs1 imm s
  | .sw h rs2 rs1 imm => Sys2Proof.Machine.execSw h rs2 rs1 imm s
  | .sd h rs2 rs1 imm => Sys2Proof.Machine.execSd h rs2 rs1 imm s
  | .beq h rs1 rs2 off => Sys2Proof.Machine.execBeq h rs1 rs2 off s
  | .bne h rs1 rs2 off => Sys2Proof.Machine.execBne h rs1 rs2 off s
  | .blt h rs1 rs2 off => Sys2Proof.Machine.execBlt h rs1 rs2 off s
  | .bge h rs1 rs2 off => Sys2Proof.Machine.execBge h rs1 rs2 off s
  | .bltu h rs1 rs2 off => Sys2Proof.Machine.execBltu h rs1 rs2 off s
  | .bgeu h rs1 rs2 off => Sys2Proof.Machine.execBgeu h rs1 rs2 off s
  | .call h rd off => Sys2Proof.Machine.execCall h rd off s
  | .callr h rd rs1 imm => Sys2Proof.Machine.execCallr h rd rs1 imm s
  | .lwx h rd rs1 imm => Sys2Proof.Machine.execLwx h rd rs1 imm s
  | .swx h rd rs1 rs2 => Sys2Proof.Machine.execSwx h rd rs1 rs2 s
  | .swap h rd rs1 rs2 => Sys2Proof.Machine.execSwap h rd rs1 rs2 s
  | .rdcw h rd rs1 imm => Sys2Proof.Machine.execRdcw h rd rs1 imm s
  | .wrcw h rd rs1 imm => Sys2Proof.Machine.execWrcw h rd rs1 imm s
  | .svreq h rs1 => Sys2Proof.Machine.execSvreq h rs1 s
  | .brkpt h => Sys2Proof.Machine.execBrkpt h s
  | .resume h => Sys2Proof.Machine.execResume h s
  | .waitev h => Sys2Proof.Machine.execWaitev h s
  | .waitt h rs1 => Sys2Proof.Machine.execWaitt h rs1 s
  | .drain h => Sys2Proof.Machine.execDrain h s
  | .icinv h => Sys2Proof.Machine.execIcinv h s
  | .interrupt h => Sys2Proof.Machine.execInterrupt h s
  | .reservationTimeout h => Sys2Proof.Machine.execReservationTimeout h s
  | .alarmDue h => Sys2Proof.Machine.execAlarmDue h s
  | .waitEnd h => Sys2Proof.Machine.execWaitEnd h s
  | .hartStart n => Sys2Proof.Machine.execHartStart n s
  | .hartHalt n => Sys2Proof.Machine.execHartHalt n s
  | .hartIcinv n => Sys2Proof.Machine.execHartIcinv n s
  | .haltComplete n => Sys2Proof.Machine.execHaltComplete n s
  | .mailboxWrite writer n v => Sys2Proof.Machine.execMailboxWrite writer n v s
  | .mailboxRead h => Sys2Proof.Machine.execMailboxRead h s
  | .ownerLock => Sys2Proof.Machine.execOwnerLock s
  | .imgCheck h => Sys2Proof.Machine.execImgCheck h s
  | .imgStatus h => Sys2Proof.Machine.execImgStatus h s
  | .imgPlace h => Sys2Proof.Machine.execImgPlace h s
  | .imgSlot h => Sys2Proof.Machine.execImgSlot h s
  | .imgDrop h => Sys2Proof.Machine.execImgDrop h s
  | .resumeSet h => Sys2Proof.Machine.execResumeSet h s
  | .imageCheckDone ticket => Sys2Proof.Machine.execImageCheckDone ticket s
  | .vnop => Sys2Proof.Machine.execVnop s
  | .vldi vd k => Sys2Proof.Machine.execVldi vd k s
  | .vsto va k => Sys2Proof.Machine.execVsto va k s
  | .vldsv vd k => Sys2Proof.Machine.execVldsv vd k s
  | .vstsv va k => Sys2Proof.Machine.execVstsv va k s
  | .vlds acd k => Sys2Proof.Machine.execVlds acd k s
  | .vsts acs k => Sys2Proof.Machine.execVsts acs k s
  | .vclr acd => Sys2Proof.Machine.execVclr acd s
  | .vclri acd => Sys2Proof.Machine.execVclri acd s
  | .vmac acd va k => Sys2Proof.Machine.execVmac acd va k s
  | .vmsc acd va k => Sys2Proof.Machine.execVmsc acd va k s
  | .vmacv acd va vb => Sys2Proof.Machine.execVmacv acd va vb s
  | .vopen acd va sg d => Sys2Proof.Machine.execVopen acd va sg d s
  | .vcls vd acs sg d => Sys2Proof.Machine.execVcls vd acs sg d s
  | .vadd vd va vb => Sys2Proof.Machine.execVadd vd va vb s
  | .vsub vd va vb => Sys2Proof.Machine.execVsub vd va vb s
  | .vlim vd va lo hi => Sys2Proof.Machine.execVlim vd va lo hi s
  | .vseli vd va vb => Sys2Proof.Machine.execVseli vd va vb s
  | .vsel vd va vb => Sys2Proof.Machine.execVsel vd va vb s
  | .vcmp va vb => Sys2Proof.Machine.execVcmp va vb s
  | .vfe va => Sys2Proof.Machine.execVfe va s
  | .vabs vd va => Sys2Proof.Machine.execVabs vd va s
  | .vkld vd k => Sys2Proof.Machine.execVkld vd k s
  | .groupTick g => Sys2Proof.Machine.execGroupTick g s
  | .batchRun => Sys2Proof.Machine.execBatchRun s
  | .outputLaunch g => Sys2Proof.Machine.execOutputLaunch g s
  | .batchEnable b => Sys2Proof.Machine.execBatchEnable b s
  | .batchDisable b => Sys2Proof.Machine.execBatchDisable b s
  | .batchKernelChange b k => Sys2Proof.Machine.execBatchKernelChange b k s
  | .batchMaskChange b mask => Sys2Proof.Machine.execBatchMaskChange b mask s
  | .groupEnable g => Sys2Proof.Machine.execGroupEnable g s
  | .groupDisable g => Sys2Proof.Machine.execGroupDisable g s
  | .groupPeriodWrite g period => Sys2Proof.Machine.execGroupPeriodWrite g period s
  | .launchWrite offset => Sys2Proof.Machine.execLaunchWrite offset s
  | .coefficientWrite ini bank slot w v => Sys2Proof.Machine.execCoefficientWrite ini bank slot w v s
  | .cellInit slot => Sys2Proof.Machine.execCellInit slot s
  | .injectorArm => Sys2Proof.Machine.execInjectorArm s
  | .injectorDisarm => Sys2Proof.Machine.execInjectorDisarm s
  | .injectionDone => Sys2Proof.Machine.execInjectionDone s
  | .captureArm => Sys2Proof.Machine.execCaptureArm s
  | .captureDone => Sys2Proof.Machine.execCaptureDone s
  | .followingErrorAction slot => Sys2Proof.Machine.execFollowingErrorAction slot s
  | .takeoverEngineStart => Sys2Proof.Machine.execTakeoverEngineStart s
  | .takeoverEngineReturn => Sys2Proof.Machine.execTakeoverEngineReturn s
  | .laneEnable j => Sys2Proof.Machine.execLaneEnable j s
  | .linkStartStepEnd j nEnum => Sys2Proof.Machine.execLinkStartStepEnd j nEnum s
  | .capRecord j pos bytes => Sys2Proof.Machine.execCapRecord j pos bytes s
  | .rangeEcho j pos roundTrip => Sys2Proof.Machine.execRangeEcho j pos roundTrip s
  | .telemetryFrame j pos bytes violation => Sys2Proof.Machine.execTelemetryFrame j pos bytes violation s
  | .exchangeEnd j => Sys2Proof.Machine.execExchangeEnd j s
  | .cellLost slot => Sys2Proof.Machine.execCellLost slot s
  | .errorThreshold j => Sys2Proof.Machine.execErrorThreshold j s
  | .errorCountersClear mask => Sys2Proof.Machine.execErrorCountersClear mask s
  | .cellReadmit slot => Sys2Proof.Machine.execCellReadmit slot s
  | .readmitEnd slot => Sys2Proof.Machine.execReadmitEnd slot s
  | .cellmapWrite c v => Sys2Proof.Machine.execCellmapWrite c v s
  | .laneDisable j => Sys2Proof.Machine.execLaneDisable j s
  | .laneStopComplete j elapsed => Sys2Proof.Machine.execLaneStopComplete j elapsed s
  | .laneTripFall j => Sys2Proof.Machine.execLaneTripFall j s
  | .mgmtRequest => Sys2Proof.Machine.execMgmtRequest s
  | .mgmtResponse status cstat data => Sys2Proof.Machine.execMgmtResponse status cstat data s
  | .mgmtTimeout => Sys2Proof.Machine.execMgmtTimeout s
  | .guardTakeover => Sys2Proof.Machine.execGuardTakeover s
  | .homeLaneReturn k => Sys2Proof.Machine.execHomeLaneReturn k s
  | .portGroupEnable g => Sys2Proof.Machine.execPortGroupEnable g s
  | .portGroupDisable g => Sys2Proof.Machine.execPortGroupDisable g s
  | .cellGroupAssign c group => Sys2Proof.Machine.execCellGroupAssign c group s
  | .groupCheck g => Sys2Proof.Machine.execGroupCheck g s
  | .groupPrecharge g => Sys2Proof.Machine.execGroupPrecharge g s
  | .groupRun g mode => Sys2Proof.Machine.execGroupRun g mode s
  | .groupStop g => Sys2Proof.Machine.execGroupStop g s
  | .groupDisch g => Sys2Proof.Machine.execGroupDisch g s
  | .groupClear g => Sys2Proof.Machine.execGroupClear g s
  | .groupClrreef g => Sys2Proof.Machine.execGroupClrreef g s
  | .contactorsClosed g => Sys2Proof.Machine.execContactorsClosed g s
  | .closingTimeout g => Sys2Proof.Machine.execClosingTimeout g s
  | .prechargeComplete g => Sys2Proof.Machine.execPrechargeComplete g s
  | .prechargeTimeout g => Sys2Proof.Machine.execPrechargeTimeout g s
  | .rampdownComplete g => Sys2Proof.Machine.execRampdownComplete g s
  | .dischargeComplete g => Sys2Proof.Machine.execDischargeComplete g s
  | .dischargeTimeout g => Sys2Proof.Machine.execDischargeTimeout g s
  | .dischargeForcedOpen g => Sys2Proof.Machine.execDischargeForcedOpen g s
  | .contactorsOpened g => Sys2Proof.Machine.execContactorsOpened g s
  | .openingTimeout g => Sys2Proof.Machine.execOpeningTimeout g s
  | .weldStepEnd g => Sys2Proof.Machine.execWeldStepEnd g s
  | .unrequestedOpen g => Sys2Proof.Machine.execUnrequestedOpen g s
  | .autocvSwitch g => Sys2Proof.Machine.execAutocvSwitch g s
  | .openCell slot => Sys2Proof.Machine.execOpenCell slot s
  | .senseSearchStart g => Sys2Proof.Machine.execSenseSearchStart g s
  | .senseSearchEnd g => Sys2Proof.Machine.execSenseSearchEnd g s
  | .cellRestore slot => Sys2Proof.Machine.execCellRestore slot s
  | .snap cell index => Sys2Proof.Machine.execSnap cell index s
  | .averagePublish window => Sys2Proof.Machine.execAveragePublish window s
  | .allocationPeriodStart => Sys2Proof.Machine.execAllocationPeriodStart s
  | .exchangeWindowClose => Sys2Proof.Machine.execExchangeWindowClose s
  | .solveComplete durationUs => Sys2Proof.Machine.execSolveComplete durationUs s
  | .solveOverrun => Sys2Proof.Machine.execSolveOverrun s
  | .halyardReceived bytes tagOk hops => Sys2Proof.Machine.execHalyardReceived bytes tagOk hops s
  | .allocationPeriodWrite period => Sys2Proof.Machine.execAllocationPeriodWrite period s
  | .allocationConfigWrite xwin clsen => Sys2Proof.Machine.execAllocationConfigWrite xwin clsen s
  | .treeCommit => Sys2Proof.Machine.execTreeCommit s
  | .alcCounterClear => Sys2Proof.Machine.execAlcCounterClear s
  | .allocatorEnable => Sys2Proof.Machine.execAllocatorEnable s
  | .allocatorDisable => Sys2Proof.Machine.execAllocatorDisable s
  | .reqWrite p v => Sys2Proof.Machine.execReqWrite p v s
  | .priceWrite v => Sys2Proof.Machine.execPriceWrite v s
  | .reqAged p => Sys2Proof.Machine.execReqAged p s
  | .priceAged => Sys2Proof.Machine.execPriceAged s
  | .nodeViolation n => Sys2Proof.Machine.execNodeViolation n s
  | .pilotStateQualified f pilot => Sys2Proof.Machine.execPilotStateQualified f pilot s
  | .slacMessage f msg => Sys2Proof.Machine.execSlacMessage f msg s
  | .sdpRequest f => Sys2Proof.Machine.execSdpRequest f s
  | .tcpConnect f => Sys2Proof.Machine.execTcpConnect f s
  | .v2gtpFrame c frame => Sys2Proof.Machine.execV2gtpFrame c frame s
  | .supportedAppProtocol c offers => Sys2Proof.Machine.execSupportedAppProtocol c offers s
  | .clientHello c suites groups sigs => Sys2Proof.Machine.execClientHello c suites groups sigs s
  | .tlsSecretsWrite c client server => Sys2Proof.Machine.execTlsSecretsWrite c client server s
  | .responseSend c len => Sys2Proof.Machine.execResponseSend c len s
  | .receiveRelease c => Sys2Proof.Machine.execReceiveRelease c s
  | .cableCheckReq c => Sys2Proof.Machine.execCableCheckReq c s
  | .preChargeReq c targetV => Sys2Proof.Machine.execPreChargeReq c targetV s
  | .currentDemandReq c targetI targetV soc evError => Sys2Proof.Machine.execCurrentDemandReq c targetI targetV soc evError s
  | .dcChargeLoopReq c targetI targetV soc evError => Sys2Proof.Machine.execDcChargeLoopReq c targetI targetV soc evError s
  | .sessionStopReq c => Sys2Proof.Machine.execSessionStopReq c s
  | .powerDeliveryReq c kind payload => Sys2Proof.Machine.execPowerDeliveryReq c kind payload s
  | .proceed c => Sys2Proof.Machine.execProceed c s
  | .sessionStop c => Sys2Proof.Machine.execSessionStop c s
  | .sessionClear c => Sys2Proof.Machine.execSessionClear c s
  | .tlinkExpiry c => Sys2Proof.Machine.execTlinkExpiry c s
  | .tsetupExpiry c => Sys2Proof.Machine.execTsetupExpiry c s
  | .tseqExpiry c => Sys2Proof.Machine.execTseqExpiry c s
  | .trespExpiry c => Sys2Proof.Machine.execTrespExpiry c s
  | .tloopExpiry c => Sys2Proof.Machine.execTloopExpiry c s
  | .tchkExpiry c => Sys2Proof.Machine.execTchkExpiry c s
  | .tplcExpiry c => Sys2Proof.Machine.execTplcExpiry c s
  | .sessionEnable c => Sys2Proof.Machine.execSessionEnable c s
  | .sessionDisable c => Sys2Proof.Machine.execSessionDisable c s
  | .frontEndConfig f mode ctx => Sys2Proof.Machine.execFrontEndConfig f mode ctx s
  | .deltaAck c => Sys2Proof.Machine.execDeltaAck c s
  | .deltaReleaseTimeout c => Sys2Proof.Machine.execDeltaReleaseTimeout c s
  | .standbyFrameObserved f frame => Sys2Proof.Machine.execStandbyFrameObserved f frame s
  | .standbyTakeover f => Sys2Proof.Machine.execStandbyTakeover f s
  | .sessionHandover c => Sys2Proof.Machine.execSessionHandover c s
  | .sensorConversion sensor ohms t => Sys2Proof.Machine.execSensorConversion sensor ohms t s
  | .sensorBroken sensor => Sys2Proof.Machine.execSensorBroken sensor s
  | .sensorRestored sensor => Sys2Proof.Machine.execSensorRestored sensor s
  | .flowEdge p => Sys2Proof.Machine.execFlowEdge p s
  | .flowCompute => Sys2Proof.Machine.execFlowCompute s
  | .nogoClear p => Sys2Proof.Machine.execNogoClear p s
  | .nogoStop p => Sys2Proof.Machine.execNogoStop p s
  | .observerStep => Sys2Proof.Machine.execObserverStep s
  | .thermalReefFall p => Sys2Proof.Machine.execThermalReefFall p s
  | .thermalRecordWrite => Sys2Proof.Machine.execThermalRecordWrite s
  | .meterSample m cur v => Sys2Proof.Machine.execMeterSample m cur v s
  | .fastTapSample m cur v => Sys2Proof.Machine.execFastTapSample m cur v s
  | .fold => Sys2Proof.Machine.execFold s
  | .meterCheck m pass => Sys2Proof.Machine.execMeterCheck m pass s
  | .meterFaultClear m => Sys2Proof.Machine.execMeterFaultClear m s
  | .pulseStart m => Sys2Proof.Machine.execPulseStart m s
  | .pulseEnd m => Sys2Proof.Machine.execPulseEnd m s
  | .gridCompute gp1 vRms iRms mHz => Sys2Proof.Machine.execGridCompute gp1 vRms iRms mHz s
  | .utilityPulse export_ widthUs => Sys2Proof.Machine.execUtilityPulse export_ widthUs s
  | .gridForce => Sys2Proof.Machine.execGridForce s
  | .metrologyConfigWrite calLow addr v => Sys2Proof.Machine.execMetrologyConfigWrite calLow addr v s
  | .boundaryEnqueue => Sys2Proof.Machine.execBoundaryEnqueue s
  | .boundaryLatch => Sys2Proof.Machine.execBoundaryLatch s
  | .boundaryProcess => Sys2Proof.Machine.execBoundaryProcess s
  | .calendarActivate => Sys2Proof.Machine.execCalendarActivate s
  | .demandResetRequest => Sys2Proof.Machine.execDemandResetRequest s
  | .demlenWrite code => Sys2Proof.Machine.execDemlenWrite code s
  | .billingEnable => Sys2Proof.Machine.execBillingEnable s
  | .sealOpen => Sys2Proof.Machine.execSealOpen s
  | .displayFrame => Sys2Proof.Machine.execDisplayFrame s
  | .displayAnswer u => Sys2Proof.Machine.execDisplayAnswer u s
  | .displayAnswerMissed u => Sys2Proof.Machine.execDisplayAnswerMissed u s
  | .signatureStart => Sys2Proof.Machine.execSignatureStart s
  | .signatureComplete => Sys2Proof.Machine.execSignatureComplete s
  | .keyRebuildComplete k => Sys2Proof.Machine.execKeyRebuildComplete k s
  | .jobSubmit addr => Sys2Proof.Machine.execJobSubmit addr s
  | .jobHash => Sys2Proof.Machine.execJobHash s
  | .jobHmac => Sys2Proof.Machine.execJobHmac s
  | .jobHkdfExtract => Sys2Proof.Machine.execJobHkdfExtract s
  | .jobHkdfExpand => Sys2Proof.Machine.execJobHkdfExpand s
  | .jobAesGcmEncrypt => Sys2Proof.Machine.execJobAesGcmEncrypt s
  | .jobAesGcmDecrypt => Sys2Proof.Machine.execJobAesGcmDecrypt s
  | .jobEcdheKeygen => Sys2Proof.Machine.execJobEcdheKeygen s
  | .jobEcdheDerive => Sys2Proof.Machine.execJobEcdheDerive s
  | .jobSign => Sys2Proof.Machine.execJobSign s
  | .jobVerify => Sys2Proof.Machine.execJobVerify s
  | .jobTlsKeygen => Sys2Proof.Machine.execJobTlsKeygen s
  | .jobTlsKeyErase => Sys2Proof.Machine.execJobTlsKeyErase s
  | .jobPublicKeyRead => Sys2Proof.Machine.execJobPublicKeyRead s
  | .jobAttest => Sys2Proof.Machine.execJobAttest s
  | .jobKeygen => Sys2Proof.Machine.execJobKeygen s
  | .jobRandom => Sys2Proof.Machine.execJobRandom s
  | .engineStep => Sys2Proof.Machine.execEngineStep s
  | .jobDone => Sys2Proof.Machine.execJobDone s
  | .attestTokenRefill => Sys2Proof.Machine.execAttestTokenRefill s
  | .shroudCycle => Sys2Proof.Machine.execShroudCycle s
  | .zoneDemand z => Sys2Proof.Machine.execZoneDemand z s
  | .stayTestPulse follows => Sys2Proof.Machine.execStayTestPulse follows s
  | .stayChainOpen => Sys2Proof.Machine.execStayChainOpen s
  | .srstPulse ms => Sys2Proof.Machine.execSrstPulse ms s
  | .shroudStop1 p => Sys2Proof.Machine.execShroudStop1 p s
  | .zoneReset z => Sys2Proof.Machine.execZoneReset z s
  | .limset a set => Sys2Proof.Machine.execLimset a set s
  | .axen a => Sys2Proof.Machine.execAxen a s
  | .imdtest p ms => Sys2Proof.Machine.execImdtest p ms s
  | .targetRelease t => Sys2Proof.Machine.execTargetRelease t s
  | .faultClear p => Sys2Proof.Machine.execFaultClear p s
  | .closeRequest p pos neg => Sys2Proof.Machine.execCloseRequest p pos neg s
  | .openRequest p pos neg => Sys2Proof.Machine.execOpenRequest p pos neg s
  | .lockRequest p => Sys2Proof.Machine.execLockRequest p s
  | .unlockRequest p => Sys2Proof.Machine.execUnlockRequest p s
  | .coilRelease p expired => Sys2Proof.Machine.execCoilRelease p expired s
  | .mirrorTimeout p pole => Sys2Proof.Machine.execMirrorTimeout p pole s
  | .mirrorChange p pole closed => Sys2Proof.Machine.execMirrorChange p pole closed s
  | .lockConfirmed p => Sys2Proof.Machine.execLockConfirmed p s
  | .lockTimeout p => Sys2Proof.Machine.execLockTimeout p s
  | .noVoltageVerified p => Sys2Proof.Machine.execNoVoltageVerified p s
  | .unlockConfirmed p => Sys2Proof.Machine.execUnlockConfirmed p s
  | .imdFault p => Sys2Proof.Machine.execImdFault p s
  | .imdWarn p active => Sys2Proof.Machine.execImdWarn p active s
  | .isolationValid p => Sys2Proof.Machine.execIsolationValid p s
  | .tempCut p => Sys2Proof.Machine.execTempCut p s
  | .pinBroken p => Sys2Proof.Machine.execPinBroken p s
  | .pinBrokenStop p => Sys2Proof.Machine.execPinBrokenStop p s
  | .axisSample a levelA levelB levelZ => Sys2Proof.Machine.execAxisSample a levelA levelB levelZ s
  | .lockstepMismatch => Sys2Proof.Machine.execLockstepMismatch s
  | .memoryDoubleError => Sys2Proof.Machine.execMemoryDoubleError s
  | .cycleOverrun tenthsUs => Sys2Proof.Machine.execCycleOverrun tenthsUs s
  | .memoryScrub singleErrors => Sys2Proof.Machine.execMemoryScrub singleErrors s
  | .feedbackTest stuck => Sys2Proof.Machine.execFeedbackTest stuck s
  | .coilTestPulse n stuckOn => Sys2Proof.Machine.execCoilTestPulse n stuckOn s
  | .fabricSourceChange source high => Sys2Proof.Machine.execFabricSourceChange source high s
  | .standbyCoilsEnergise => Sys2Proof.Machine.execStandbyCoilsEnergise s
  | .vetoActive => Sys2Proof.Machine.execVetoActive s
  | .guestTimeLimit => Sys2Proof.Machine.execGuestTimeLimit s
  | .shroudReturn => Sys2Proof.Machine.execShroudReturn s
  | .standbyCoilsRelease => Sys2Proof.Machine.execStandbyCoilsRelease s
  | .ringLinkStart k => Sys2Proof.Machine.execRingLinkStart k s
  | .linkcap k peer verMin verMax nonce share => Sys2Proof.Machine.execLinkcap k peer verMin verMax nonce share s
  | .linkauth k ok => Sys2Proof.Machine.execLinkauth k ok s
  | .heartbeatSend => Sys2Proof.Machine.execHeartbeatSend s
  | .heartbeat k hb => Sys2Proof.Machine.execHeartbeat k hb s
  | .heartbeatMissed k => Sys2Proof.Machine.execHeartbeatMissed k s
  | .neighbourLost k => Sys2Proof.Machine.execNeighbourLost k s
  | .viewFrame v => Sys2Proof.Machine.execViewFrame v s
  | .viewAdopt => Sys2Proof.Machine.execViewAdopt s
  | .generationRaise => Sys2Proof.Machine.execGenerationRaise s
  | .shdFrame f => Sys2Proof.Machine.execShdFrame f s
  | .deltaFrame d => Sys2Proof.Machine.execDeltaFrame d s
  | .displaced lane => Sys2Proof.Machine.execDisplaced lane s
  | .returnRequest => Sys2Proof.Machine.execReturnRequest s
  | .splFrame f => Sys2Proof.Machine.execSplFrame f s
  | .returnSignal => Sys2Proof.Machine.execReturnSignal s
  | .returnComplete => Sys2Proof.Machine.execReturnComplete s
  | .splice => Sys2Proof.Machine.execSplice s
  | .spliceHandover => Sys2Proof.Machine.execSpliceHandover s
  | .spliceReset => Sys2Proof.Machine.execSpliceReset s
  | .leave => Sys2Proof.Machine.execLeave s
  | .channelOn n => Sys2Proof.Machine.execChannelOn n s
  | .channelOff n => Sys2Proof.Machine.execChannelOff n s
  | .channelClear n => Sys2Proof.Machine.execChannelClear n s
  | .channelOvercurrent n mA10 => Sys2Proof.Machine.execChannelOvercurrent n mA10 s
  | .channelOvertemp n => Sys2Proof.Machine.execChannelOvertemp n s
  | .aggregateTrip => Sys2Proof.Machine.execAggregateTrip s
  | .vauxDroop mv => Sys2Proof.Machine.execVauxDroop mv s
  | .openLoad n => Sys2Proof.Machine.execOpenLoad n s
  | .inrushEnd n => Sys2Proof.Machine.execInrushEnd n s
  | .pwmPeriod n => Sys2Proof.Machine.execPwmPeriod n s
  | .timedPulseEnd n => Sys2Proof.Machine.execTimedPulseEnd n s
  | .clampEnd n => Sys2Proof.Machine.execClampEnd n s
  | .holdEnd n => Sys2Proof.Machine.execHoldEnd n s
  | .currentSense n mA tj => Sys2Proof.Machine.execCurrentSense n mA tj s
  | .vauxUndervoltage mv => Sys2Proof.Machine.execVauxUndervoltage mv s
  | .vauxOvervoltage mv => Sys2Proof.Machine.execVauxOvervoltage mv s
  | .vauxReverse => Sys2Proof.Machine.execVauxReverse s
  | .groundLoss => Sys2Proof.Machine.execGroundLoss s
  | .vauxReturn mv => Sys2Proof.Machine.execVauxReturn mv s
  | .pullInEnd n => Sys2Proof.Machine.execPullInEnd n s
  | .coilOvercurrent n => Sys2Proof.Machine.execCoilOvercurrent n s
  | .coilOpen n => Sys2Proof.Machine.execCoilOpen n s
  | .feedbackChange k level => Sys2Proof.Machine.execFeedbackChange k level s
  | .estimatorStep k countDelta mv mA => Sys2Proof.Machine.execEstimatorStep k countDelta mv mA s
  | .voltageLimitCheck k mv mA => Sys2Proof.Machine.execVoltageLimitCheck k mv mA s
  | .restStart k => Sys2Proof.Machine.execRestStart k s
  | .restRepeat k => Sys2Proof.Machine.execRestRepeat k s
  | .counterCheck k ok => Sys2Proof.Machine.execCounterCheck k ok s
  | .packRecordWrite => Sys2Proof.Machine.execPackRecordWrite s
  | .packInsert k mv => Sys2Proof.Machine.execPackInsert k mv s
  | .reestimate k => Sys2Proof.Machine.execReestimate k s
  | .newpack k => Sys2Proof.Machine.execNewpack k s
  | .firstEstimate k => Sys2Proof.Machine.execFirstEstimate k s
  | .hpChargeEnd mA => Sys2Proof.Machine.execHpChargeEnd mA s
  | .hpStowCheck countDelta mv => Sys2Proof.Machine.execHpStowCheck countDelta mv s
  | .incrementWrite ns => Sys2Proof.Machine.execIncrementWrite ns s
  | .timeStepRequest ms => Sys2Proof.Machine.execTimeStepRequest ms s
  | .runlockSet => Sys2Proof.Machine.execRunlockSet s
  | .calendarSet src => Sys2Proof.Machine.execCalendarSet src s
  | .leapSecond => Sys2Proof.Machine.execLeapSecond s
  | .rtcOscFail => Sys2Proof.Machine.execRtcOscFail s
  | .rtcAlarm => Sys2Proof.Machine.execRtcAlarm s
  | .rtcSecondLoad => Sys2Proof.Machine.execRtcSecondLoad s
  | .ppsOut => Sys2Proof.Machine.execPpsOut s
  | .ppsIn => Sys2Proof.Machine.execPpsIn s
  | .timestampRead q => Sys2Proof.Machine.execTimestampRead q s
  | .launchTimeReached src => Sys2Proof.Machine.execLaunchTimeReached src s
  | .canEnable n => Sys2Proof.Machine.execCanEnable n s
  | .canDisable n => Sys2Proof.Machine.execCanDisable n s
  | .canStopComplete n => Sys2Proof.Machine.execCanStopComplete n s
  | .canBusJoin n => Sys2Proof.Machine.execCanBusJoin n s
  | .canRecover n => Sys2Proof.Machine.execCanRecover n s
  | .canAbort n => Sys2Proof.Machine.execCanAbort n s
  | .canAbortAll n => Sys2Proof.Machine.execCanAbortAll n s
  | .canPush n => Sys2Proof.Machine.execCanPush n s
  | .canRxReturn n cnt => Sys2Proof.Machine.execCanRxReturn n cnt s
  | .canTxEventRead n => Sys2Proof.Machine.execCanTxEventRead n s
  | .canTimingWrite n reg v => Sys2Proof.Machine.execCanTimingWrite n reg v s
  | .canFrameReceived n f => Sys2Proof.Machine.execCanFrameReceived n f s
  | .canTxComplete n r => Sys2Proof.Machine.execCanTxComplete n r s
  | .canRecoveryComplete n => Sys2Proof.Machine.execCanRecoveryComplete n s
  | .abdWindowEnd n framesOk framesBad => Sys2Proof.Machine.execAbdWindowEnd n framesOk framesBad s
  | .canWakePattern n => Sys2Proof.Machine.execCanWakePattern n s
  | .zeroCrossing rising => Sys2Proof.Machine.execZeroCrossing rising s
  | .mainsLost => Sys2Proof.Machine.execMainsLost s
  | .slotStart slot => Sys2Proof.Machine.execSlotStart slot s
  | .segmentReceived src seg => Sys2Proof.Machine.execSegmentReceived src seg s
  | .dklDataFrame f => Sys2Proof.Machine.execDklDataFrame f s
  | .dklAckFrame src frame bitmap degraded => Sys2Proof.Machine.execDklAckFrame src frame bitmap degraded s
  | .soundFrame src snr => Sys2Proof.Machine.execSoundFrame src snr s
  | .mapFrame src maps => Sys2Proof.Machine.execMapFrame src maps s
  | .joinFrame id previous delta => Sys2Proof.Machine.execJoinFrame id previous delta s
  | .neighFrame src neigh => Sys2Proof.Machine.execNeighFrame src neigh s
  | .ackTimeout dst => Sys2Proof.Machine.execAckTimeout dst s
  | .joinApprovalTimeout n => Sys2Proof.Machine.execJoinApprovalTimeout n s
  | .nodeApprove n => Sys2Proof.Machine.execNodeApprove n s
  | .dklSend v => Sys2Proof.Machine.execDklSend v s
  | .dklRxReturn cnt => Sys2Proof.Machine.execDklRxReturn cnt s
  | .dklTxEventRead => Sys2Proof.Machine.execDklTxEventRead s
  | .dklEnable => Sys2Proof.Machine.execDklEnable s
  | .dklDisable => Sys2Proof.Machine.execDklDisable s
  | .soundingDue dst => Sys2Proof.Machine.execSoundingDue dst s
  | .hostDoorbell q tail => Sys2Proof.Machine.execHostDoorbell q tail s
  | .descriptorFetch => Sys2Proof.Machine.execDescriptorFetch s
  | .hostNop slot => Sys2Proof.Machine.execHostNop slot s
  | .install slot => Sys2Proof.Machine.execInstall slot s
  | .exportArchive slot => Sys2Proof.Machine.execExportArchive slot s
  | .compact slot => Sys2Proof.Machine.execCompact slot s
  | .hostKeygen slot => Sys2Proof.Machine.execHostKeygen slot s
  | .hostAttest slot => Sys2Proof.Machine.execHostAttest slot s
  | .hostAbort slot => Sys2Proof.Machine.execHostAbort slot s
  | .hostBoot slot => Sys2Proof.Machine.execHostBoot slot s
  | .messageOperation slot => Sys2Proof.Machine.execMessageOperation slot s
  | .hartCompletion n => Sys2Proof.Machine.execHartCompletion n s
  | .hartRingReturn n cnt => Sys2Proof.Machine.execHartRingReturn n cnt s
  | .completionReturn q head => Sys2Proof.Machine.execCompletionReturn q head s
  | .messageTimeout slot => Sys2Proof.Machine.execMessageTimeout slot s
  | .queueEnable q => Sys2Proof.Machine.execQueueEnable q s
  | .queueDisable q => Sys2Proof.Machine.execQueueDisable q s
  | .operationComplete slot => Sys2Proof.Machine.execOperationComplete slot s
  | .storageStep => Sys2Proof.Machine.execStorageStep s
  | .eventClear ini j mask => Sys2Proof.Machine.execEventClear ini j mask s
  | .hostEventClear j mask => Sys2Proof.Machine.execHostEventClear j mask s
  | .lineAck mask => Sys2Proof.Machine.execLineAck mask s
  | .hostLinkChange up => Sys2Proof.Machine.execHostLinkChange up s
  | .qspiWrite addr data => Sys2Proof.Machine.execQspiWrite addr data s
  | .qspiRead addr len => Sys2Proof.Machine.execQspiRead addr len s
  | .qspiStatus => Sys2Proof.Machine.execQspiStatus s
  | .ethEnable m => Sys2Proof.Machine.execEthEnable m s
  | .ethDisable m => Sys2Proof.Machine.execEthDisable m s
  | .ethStopComplete m => Sys2Proof.Machine.execEthStopComplete m s
  | .ethTxTail m r tail => Sys2Proof.Machine.execEthTxTail m r tail s
  | .ethTxComplete m r => Sys2Proof.Machine.execEthTxComplete m r s
  | .ethFrameReceived m frame fcsOk => Sys2Proof.Machine.execEthFrameReceived m frame fcsOk s
  | .ethPause m quanta => Sys2Proof.Machine.execEthPause m quanta s
  | .ethPauseEnd m => Sys2Proof.Machine.execEthPauseEnd m s
  | .ethRxReturn m cnt => Sys2Proof.Machine.execEthRxReturn m cnt s
  | .mdioTransaction m v => Sys2Proof.Machine.execMdioTransaction m v s
  | .mdioDone m readData => Sys2Proof.Machine.execMdioDone m readData s
  | .ethConfigWrite m v => Sys2Proof.Machine.execEthConfigWrite m v s
  | .stoRequest k v => Sys2Proof.Machine.execStoRequest k v s
  | .emmcInit found mode blocks preEol estA estB => Sys2Proof.Machine.execEmmcInit found mode blocks preEol estA estB s
  | .emmcCommandFail => Sys2Proof.Machine.execEmmcCommandFail s
  | .emmcRetry => Sys2Proof.Machine.execEmmcRetry s
  | .emmcHealth preEol estA estB => Sys2Proof.Machine.execEmmcHealth preEol estA estB s
  | .hpRemoved => Sys2Proof.Machine.execHpRemoved s
  | .guardLaneTraffic j frame => Sys2Proof.Machine.execGuardLaneTraffic j frame s
  | .laneLockLost j => Sys2Proof.Machine.execLaneLockLost j s
  | .ringPtpFrame port msgType seq domain => Sys2Proof.Machine.execRingPtpFrame port msgType seq domain s
  | .canRxError n lec => Sys2Proof.Machine.execCanRxError n lec s
  | .t1sLinkUp f => Sys2Proof.Machine.execT1sLinkUp f s
  | .vehicleLinkLost c => Sys2Proof.Machine.execVehicleLinkLost c s

end Sys2Proof.Machine
end

