-- ==== Sys2Proof/Machine/Step.lean ====
section
/-! DEFINITION. One step: the oldest waiting command, or one system clock where none waits. -/

namespace Sys2Proof.Machine

/-- One step of the block. DESIGN CHOICE (assumption 1): with no command waiting one system clock passes. -/
def step (s : State) : Host.Outcome State Fault Refusal :=
  match s.pending with
  | [] => .next (clockTick s)
  | c :: rest => exec c { s with pending := rest }

/-- The state with a command in front of its queue. -/
def State.queued (s : State) (c : Instr) : State := { s with pending := c :: s.pending }

/-- The command that a word of the table spells is put in front of the queue; no word spells one. -/
def State.withFetchWord (s : State) (nbits w : Nat) : State :=
  match decodeTableWord nbits w with
  | some c => s.queued c
  | none => s

end Sys2Proof.Machine
end

