-- ==== Sys2Proof/Machine/Part.lean ====
section
/-! DEFINITION. Parts of the state, for statements about what a command leaves unchanged. -/

namespace Sys2Proof.Machine

/-- A part of the state: registers by the bus address of their first member, and the other components by name. -/
structure Part where
  /-- whether the registers whose first member has this bus address belong to the part -/
  regs : Nat → Bool
  mem : Bool := false
  latches : Bool := false
  holds : Bool := false
  readData : Bool := false
  busError : Bool := false
  tick : Bool := false
  drawn : Bool := false
  sys : Bool := false
  harts : Bool := false
  images : Bool := false
  lpe : Bool := false
  cln : Bool := false
  prt : Bool := false
  veh : Bool := false
  alc : Bool := false
  thm : Bool := false
  mtr : Bool := false
  bil : Bool := false
  sig : Bool := false
  sfy : Bool := false
  rng : Bool := false
  est : Bool := false
  lsw : Bool := false
  time : Bool := false
  host : Bool := false
  eth : Bool := false
  sto : Bool := false
  cans : Bool := false
  dkl : Bool := false
  pending : Bool := false

/-- The state with a part taken out: two states agree outside the part where this gives one state. -/
def State.without (A : Part) (s : State) : State where
  regs := s.regs.filter fun e => !A.regs (keyBase e.1)
  mem := if A.mem then State.reset.mem else s.mem
  latches := if A.latches then State.reset.latches else s.latches
  holds := if A.holds then State.reset.holds else s.holds
  readData := if A.readData then State.reset.readData else s.readData
  busError := if A.busError then State.reset.busError else s.busError
  tick := if A.tick then State.reset.tick else s.tick
  drawn := if A.drawn then State.reset.drawn else s.drawn
  sys := if A.sys then State.reset.sys else s.sys
  harts := if A.harts then State.reset.harts else s.harts
  images := if A.images then State.reset.images else s.images
  lpe := if A.lpe then State.reset.lpe else s.lpe
  cln := if A.cln then State.reset.cln else s.cln
  prt := if A.prt then State.reset.prt else s.prt
  veh := if A.veh then State.reset.veh else s.veh
  alc := if A.alc then State.reset.alc else s.alc
  thm := if A.thm then State.reset.thm else s.thm
  mtr := if A.mtr then State.reset.mtr else s.mtr
  bil := if A.bil then State.reset.bil else s.bil
  sig := if A.sig then State.reset.sig else s.sig
  sfy := if A.sfy then State.reset.sfy else s.sfy
  rng := if A.rng then State.reset.rng else s.rng
  est := if A.est then State.reset.est else s.est
  lsw := if A.lsw then State.reset.lsw else s.lsw
  time := if A.time then State.reset.time else s.time
  host := if A.host then State.reset.host else s.host
  eth := if A.eth then State.reset.eth else s.eth
  sto := if A.sto then State.reset.sto else s.sto
  cans := if A.cans then State.reset.cans else s.cans
  dkl := if A.dkl then State.reset.dkl else s.dkl
  pending := if A.pending then State.reset.pending else s.pending

/-- The registers of a list, as a part's first field. -/
def regsIn (l : List Rg) (a : Nat) : Bool := l.any fun r => r.addr == a

/-- What follows at once from any command may touch: the causes and events it raises, the active lines, the port
groups with their poles, coils and loads, the sessions, the local clamps and the wake-up from Luff. -/
def settledPart : Part where
  regs := regsIn [R.ALC_PAPPLIED, R.ALC_PSTAT, R.ALC_STAT, R.EVT_LINESTAT, R.EVT_PEND, R.LPE_BATCH, R.LPE_BSTAT,
    R.LPE_LOAD, R.LPE_TLOAD, R.LPE_STAT, R.LSW_CHSTAT, R.LSW_STAT, R.PRT_GCAUSE, R.PRT_GCMD, R.PRT_GSTAT, R.PRT_STAT, R.PRT_IAPP, R.PRT_ISHEET,
    R.PRT_VAPP, R.SFY_COIL, R.SFY_PSTAT, R.SFY_STAT, R.SYS_PWRCTL, R.SYS_PWRSTAT, R.SYS_WAKESRC, R.VEH_FE,
    R.VEH_SSTAT, R.VEH_STAT]
  prt := true
  lsw := true
  sfy := true
  veh := true
  lpe := true
  host := true
  sig := true
  sys := true

/-- What an instruction of a policy hart may touch beside its own effect on memory and registers. -/
def hartPart : Part where
  regs := fun a => settledPart.regs a || regsIn [R.SYS_HARTSTAT] a
  harts := true
  prt := true
  lsw := true
  sfy := true
  veh := true
  lpe := true
  host := true
  sig := true
  sys := true

end Sys2Proof.Machine
end

