-- ==== Sys2Proof/Machine/Writes.lean ====
section
/-! DEFINITION. What each command may change by its own effect: the registers and the parts of the state it writes. What
follows at once from any command (`State.settle`) stands in `settledPart`. A command that resets blocks, restores
saved state or writes the register its operand names is not listed: its statements name what it keeps. -/

namespace Sys2Proof.Machine

/-- What the commands of the bus, power modes and boot, and hart control
may change by their own effect; none where the list leaves a command out. -/
def coreWrites (c : Instr) : Option Part :=
  match c with
  | .readLowWord _ _ | .readHighWord _ _ =>
    some { busError := true, cans := true, dkl := true, harts := true, latches := true, readData := true,
           time := true, regs := regsIn [R.CAN_TXEVA, R.CAN_TXEVB, R.CAN_TXSTAT, R.DKL_TXEV, R.DKL_TXSTAT,
           R.TIM_FSTAT, R.TIM_INFO, R.TIM_TSH, R.TIM_TSL] }
  | .referenceQualified | .bootNvokResume =>
    some { sys := true, regs := regsIn [] }
  | .clockCheckWindow _ _ =>
    some { sfy := true, sys := true, regs := regsIn [R.EVT_PEND, R.SFY_PSTAT, R.SFY_STAT, R.SYS_CLKSTAT] }
  | .vinBelowWarn _ | .pfwAsserted =>
    some { sys := true, regs := regsIn [R.EVT_PEND, R.SYS_SAVESTAT, R.SYS_SUPSTAT] }
  | .vinAboveWarn _ =>
    some { sys := true, regs := regsIn [R.EVT_PEND, R.SYS_SUPSTAT] }
  | .vinBelowHold _ | .vinAboveHold _ =>
    some { sys := true, regs := regsIn [R.SYS_SUPSTAT] }
  | .pfwReleased =>
    some { regs := regsIn [R.SYS_SUPSTAT] }
  | .requestRun | .requestLuff | .requestSlack | .requestStow =>
    some { sys := true, regs := regsIn [R.EVT_PEND, R.SYS_PWRCTL, R.SYS_PWRSTAT] }
  | .commitPoint =>
    some { cans := true, cln := true, dkl := true, drawn := true, est := true, eth := true, harts := true,
           lpe := true, mem := true, rng := true, sig := true, sys := true, thm := true, veh := true,
           regs := regsIn [R.CAN_CTL, R.CAN_STAT, R.CAN_TXEVA, R.CAN_TXEVB, R.CAN_TXSTAT, R.CLN_CELLST,
           R.CLN_LANESTAT, R.CLN_STAT, R.DKL_CTL, R.DKL_STAT, R.DKL_TXEV, R.DKL_TXSTAT, R.EST_CHG, R.EST_DIS,
           R.EST_SOCE, R.ETH_CTL, R.ETH_STAT, R.ETH_TXHEAD, R.EVT_PEND, R.RNG_LINK, R.SIG_KSTAT, R.SIG_LIMITH,
           R.SIG_LIMITL] }
  | .wakeNAsserted | .startCurrentDetected _ _ =>
    some { sys := true, regs := regsIn [R.SYS_PWRCTL, R.SYS_PWRSTAT, R.SYS_WAKESRC] }
  | .stowShroudReady =>
    some { images := true, sfy := true, regs := regsIn [R.SYS_PWRSTAT] }
  | .stowAnalogReady =>
    some { bil := true, mtr := true, rng := true, sig := true, regs := regsIn [R.BIL_ADAY, R.BIL_ARCH, R.BIL_ASEA0,
           R.BIL_ASEA1, R.BIL_ASPEC, R.BIL_AWEEK0, R.BIL_AWEEK1, R.BIL_DLAST, R.BIL_DMAX0, R.BIL_DMAX1,
           R.BIL_DPREV0, R.BIL_DPREV1, R.BIL_EBASE0H, R.BIL_EBASE0L, R.BIL_EBASE1H, R.BIL_EBASE1L, R.BIL_ISEQ,
           R.BIL_KOFFH, R.BIL_KOFFL, R.BIL_NEXTH, R.BIL_NEXTL, R.BIL_SPAN0, R.BIL_SPAN1, R.BIL_STAT, R.BIL_TCOUNT,
           R.BIL_TDELH, R.BIL_TDELL, R.BIL_TFIRSTH, R.BIL_TFIRSTL, R.BIL_TLASTH, R.BIL_TLASTL, R.BIL_TRECH,
           R.BIL_TRECL, R.EVT_PEND, R.MTR_EDELH, R.MTR_EDELL, R.MTR_EEXPH, R.MTR_EEXPL, R.MTR_EIMPH, R.MTR_EIMPL,
           R.MTR_ERECH, R.MTR_ERECL, R.MTR_FOLD, R.MTR_MSTAT, R.MTR_PCNT, R.MTR_RAWDELH, R.MTR_RAWDELL,
           R.MTR_RAWRECH, R.MTR_RAWRECL, R.MTR_STAT, R.MTR_XDEL, R.MTR_XEXP, R.MTR_XIMP, R.MTR_XREC, R.SIG_KSTAT,
           R.SIG_LIMITH, R.SIG_LIMITL, R.SIG_NEXTH, R.SIG_NEXTL, R.SIG_PUB, R.SIG_STAT, R.SYS_PWRSTAT] }
  | .rstNRelease _ _ =>
    some { sys := true, regs := regsIn [R.HST_STAT] }
  | .softwareColdReset =>
    some { sfy := true, sys := true, regs := regsIn [R.SFY_PSTAT, R.SYS_RSTCAUSE] }
  | .watchdogEnable _ =>
    some { sys := true, regs := regsIn [R.SYS_WDTCTL] }
  | .watchdogHalf =>
    some { sys := true, regs := regsIn [R.EVT_PEND] }
  | .bootStepEnd _ =>
    some { harts := true, host := true, images := true, lpe := true, lsw := true, mem := true, sfy := true,
           sig := true, sto := true, sys := true, regs := regsIn [R.EVT_PEND, R.HST_CQHEAD, R.HST_CQMEM,
           R.HST_CQTAIL, R.HST_OPSTAT, R.HST_OPSTEPS, R.HST_QCFG, R.HST_QSTAT, R.HST_SQHEAD, R.HST_SQTAIL,
           R.HST_STAT, R.LSW_CHSTAT, R.SFY_COIL, R.SFY_PSTAT, R.STO_STAT, R.SYS_BOOTCFG, R.SYS_BOOTSTAT,
           R.SYS_CLKSTAT] }
  | .bootJoin =>
    some { bil := true, est := true, harts := true, mtr := true, rng := true, sig := true, sys := true, thm := true,
           time := true, regs := regsIn [R.BIL_ADAY, R.BIL_ARCH, R.BIL_ASEA0, R.BIL_ASEA1, R.BIL_ASPEC,
           R.BIL_AWEEK0, R.BIL_AWEEK1, R.BIL_DLAST, R.BIL_DMAX0, R.BIL_DMAX1, R.BIL_DPREV0, R.BIL_DPREV1,
           R.BIL_EBASE0H, R.BIL_EBASE0L, R.BIL_EBASE1H, R.BIL_EBASE1L, R.BIL_ISEQ, R.BIL_KOFFH, R.BIL_KOFFL,
           R.BIL_NEXTH, R.BIL_NEXTL, R.BIL_SPAN0, R.BIL_SPAN1, R.BIL_STAT, R.BIL_TCOUNT, R.BIL_TDELH, R.BIL_TDELL,
           R.BIL_TFIRSTH, R.BIL_TFIRSTL, R.BIL_TLASTH, R.BIL_TLASTL, R.BIL_TRECH, R.BIL_TRECL, R.EST_CAP,
           R.EST_CYCLES, R.EST_IMP, R.EST_PACKIDH, R.EST_PACKIDL, R.EST_QH, R.EST_QL, R.EST_SOC, R.EST_SOCE,
           R.EST_STAT, R.EVT_PEND, R.MTR_EDELH, R.MTR_EDELL, R.MTR_EEXPH, R.MTR_EEXPL, R.MTR_EIMPH, R.MTR_EIMPL,
           R.MTR_ERECH, R.MTR_ERECL, R.MTR_FOLD, R.MTR_MSTAT, R.MTR_PCNT, R.MTR_RAWDELH, R.MTR_RAWDELL,
           R.MTR_RAWRECH, R.MTR_RAWRECL, R.MTR_STAT, R.MTR_XDEL, R.MTR_XEXP, R.MTR_XIMP, R.MTR_XREC, R.SIG_DISCARD,
           R.SIG_KSTAT, R.SIG_LIMITH, R.SIG_LIMITL, R.SIG_NEXTH, R.SIG_NEXTL, R.SIG_PUB, R.SIG_STAT,
           R.SYS_HARTENTRY, R.SYS_HARTSTAT, R.SYS_PWRSTAT, R.THM_SSTAT, R.TIM_STAT] }
  | .confirmSlot =>
    some { sys := true, regs := regsIn [R.BIL_STAT, R.BIL_TCOUNT, R.BIL_TFIRSTH, R.BIL_TFIRSTL, R.BIL_TLASTH,
           R.BIL_TLASTL, R.EVT_PEND, R.SYS_BOOTCFG, R.SYS_BOOTSTAT] }
  | .reservationTimeout _ | .mailboxWrite _ _ _ =>
    some { harts := true, regs := regsIn [] }
  | .hartStart _ | .hartHalt _ | .haltComplete _ =>
    some { harts := true, regs := regsIn [R.SYS_HARTSTAT] }
  | .hartIcinv _ =>
    some { regs := regsIn [] }
  | .mailboxRead _ =>
    some { harts := true, readData := true, regs := regsIn [] }
  | .ownerLock =>
    some { regs := regsIn [R.SYS_OWNERLOCK] }
  | .imgCheck _ | .imgDrop _ | .resumeSet _ =>
    some { drawn := true, harts := true, images := true, regs := regsIn [R.SYS_HARTSTAT] }
  | .imgStatus _ =>
    some { drawn := true, harts := true, regs := regsIn [R.SYS_HARTSTAT] }
  | .imgPlace _ =>
    some { drawn := true, harts := true, images := true, lpe := true, mem := true, regs := regsIn [R.SYS_HARTSTAT] }
  | .imgSlot _ =>
    some { drawn := true, harts := true, images := true, sto := true, sys := true, regs := regsIn [R.SYS_HARTSTAT] }
  | .imageCheckDone _ =>
    some { images := true, regs := regsIn [] }
  | .hostBoot _ =>
    some { host := true, images := true, sys := true, regs := regsIn [R.EVT_PEND, R.HST_OPSTAT, R.HST_QSTAT,
           R.HST_STAT, R.SYS_BOOTSTAT] }
  | .qspiRead _ _ =>
    some { host := true, regs := regsIn [] }
  | _ => none

/-- What the commands of the loop engine, cell lanes, port power, allocation, sessions and thermal
may change by their own effect; none where the list leaves a command out. -/
def driveWrites (c : Instr) : Option Part :=
  match c with
  | .vnop | .vldi _ _ | .vsto _ _ | .vldsv _ _ | .vstsv _ _ | .vlds _ _ | .vsts _ _ | .vclr _ | .vclri _
  | .vmac _ _ _ | .vmsc _ _ _ | .vmacv _ _ _ | .vopen _ _ _ _ | .vcls _ _ _ _ | .vadd _ _ _ | .vsub _ _ _
  | .vlim _ _ _ _ | .vseli _ _ _ | .vsel _ _ _ | .vcmp _ _ | .vfe _ | .vabs _ _ | .vkld _ _ =>
    some { lpe := true, regs := regsIn [R.EVT_PEND, R.LPE_SATST, R.LPE_STAT] }
  | .groupTick _ =>
    some { lpe := true, lsw := true, mtr := true, prt := true, regs := regsIn [R.CLN_LANEEV, R.CLN_LANESTAT,
           R.EVT_PEND, R.LPE_BATCH, R.LPE_BSTAT, R.LPE_CWSTAT, R.LPE_INJCTL, R.LPE_LOAD, R.LPE_STAT, R.LPE_TLOAD,
           R.LSW_CHSTAT, R.MTR_SECDELH, R.MTR_SECDELL, R.MTR_SECRECH, R.MTR_SECRECL, R.PRT_CELL, R.PRT_CIDENT,
           R.PRT_GCAUSE, R.PRT_GSTAT, R.PRT_IAPP, R.PRT_STAT, R.PRT_VAPP, R.SFY_COIL, R.SFY_PSTAT, R.SFY_STAT] }
  | .batchRun =>
    some { drawn := true, lpe := true, regs := regsIn [R.EVT_PEND, R.LPE_CAPSTAT, R.LPE_FEST, R.LPE_SATST,
           R.LPE_STAT] }
  | .outputLaunch _ =>
    some { cln := true, lpe := true, regs := regsIn [R.CLN_CELLST, R.EVT_PEND, R.LPE_BSTAT, R.LPE_STAT] }
  | .batchEnable _ | .batchDisable _ | .batchKernelChange _ _ | .batchMaskChange _ _ =>
    some { busError := true, lpe := true, regs := regsIn [R.EVT_PEND, R.LPE_BATCH, R.LPE_BSTAT, R.LPE_LOAD,
           R.LPE_STAT, R.LPE_TLOAD] }
  | .groupEnable _ | .groupDisable _ | .groupPeriodWrite _ _ =>
    some { busError := true, lpe := true, regs := regsIn [R.EVT_PEND, R.LPE_BSTAT, R.LPE_CWSTAT, R.LPE_GROUP,
           R.LPE_LOAD, R.LPE_STAT, R.LPE_TLOAD] }
  | .launchWrite _ =>
    some { regs := regsIn [R.EVT_PEND, R.LPE_LAUNCH, R.LPE_STAT] }
  | .coefficientWrite _ _ _ _ _ =>
    some { busError := true, lpe := true, regs := regsIn [R.EVT_PEND, R.LPE_CWSTAT, R.LPE_STAT] }
  | .cellInit _ =>
    some { lpe := true, regs := regsIn [] }
  | .injectorArm | .injectorDisarm =>
    some { lpe := true, regs := regsIn [R.LPE_INJCTL] }
  | .injectionDone =>
    some { regs := regsIn [R.EVT_PEND, R.LPE_INJCTL, R.LPE_STAT] }
  | .captureArm =>
    some { lpe := true, regs := regsIn [R.LPE_CAPCTL, R.LPE_CAPSTAT] }
  | .captureDone =>
    some { lpe := true, regs := regsIn [R.EVT_PEND, R.LPE_CAPSTAT, R.LPE_STAT] }
  | .followingErrorAction _ =>
    some { lpe := true, lsw := true, prt := true, regs := regsIn [R.EVT_PEND, R.LPE_FEST, R.LPE_STAT, R.LSW_CHSTAT,
           R.PRT_GCAUSE, R.PRT_GSTAT, R.PRT_IAPP, R.PRT_VAPP] }
  | .takeoverEngineStart =>
    some { lpe := true, prt := true, regs := regsIn [R.EVT_PEND, R.LPE_BATCH, R.LPE_BSTAT, R.LPE_GROUP, R.LPE_LOAD,
           R.LPE_STAT, R.LPE_TAKE, R.LPE_TLOAD] }
  | .takeoverEngineReturn =>
    some { lpe := true, regs := regsIn [R.EVT_PEND, R.LPE_BSTAT, R.LPE_GROUP, R.LPE_LOAD, R.LPE_STAT, R.LPE_TAKE,
           R.LPE_TLOAD] }
  | .laneEnable _ =>
    some { cln := true, regs := regsIn [R.CLN_CELLST, R.CLN_LANECFG, R.CLN_LANESTAT] }
  | .linkStartStepEnd _ _ =>
    some { cln := true, lpe := true, regs := regsIn [R.CLN_CELLST, R.CLN_LANEEV, R.CLN_LANESTAT, R.CLN_LANETIM,
           R.CLN_STAT, R.EVT_PEND, R.LPE_BSTAT, R.LPE_CWSTAT] }
  | .capRecord _ _ _ =>
    some { cln := true, regs := regsIn [R.CLN_CAP, R.CLN_CELLST, R.CLN_LANEEV, R.EVT_PEND] }
  | .rangeEcho _ _ _ =>
    some { cln := true, regs := regsIn [R.CLN_LANETIM] }
  | .telemetryFrame _ _ _ _ =>
    some { cln := true, regs := regsIn [R.CLN_ERRA] }
  | .exchangeEnd _ =>
    some { cln := true, lpe := true, regs := regsIn [R.CLN_CELLST, R.CLN_ERRB, R.CLN_LANEEV, R.CLN_LANESTAT,
           R.EVT_PEND] }
  | .cellLost _ =>
    some { prt := true, regs := regsIn [R.CLN_CELLST, R.CLN_LANEEV, R.EVT_PEND] }
  | .errorThreshold _ =>
    some { regs := regsIn [R.CLN_LANEEV, R.EVT_PEND] }
  | .errorCountersClear _ =>
    some { regs := regsIn [R.CLN_ERRA, R.CLN_ERRB, R.CLN_ERRC] }
  | .cellReadmit _ =>
    some { cln := true, regs := regsIn [] }
  | .readmitEnd _ =>
    some { cln := true, regs := regsIn [R.CLN_CELLST] }
  | .cellmapWrite _ _ =>
    some { busError := true, regs := regsIn [R.CLN_CELLMAP] }
  | .laneDisable _ =>
    some { cln := true, lpe := true, regs := regsIn [R.CLN_CELLST, R.CLN_LANECFG, R.CLN_LANEEV, R.CLN_LANESTAT,
           R.CLN_STAT, R.EVT_PEND, R.LPE_BSTAT, R.LPE_CWSTAT] }
  | .laneStopComplete _ _ =>
    some { cln := true, lpe := true, regs := regsIn [R.CLN_CELLST, R.CLN_LANEEV, R.CLN_LANESTAT, R.CLN_STAT,
           R.EVT_PEND, R.LPE_BSTAT, R.LPE_CWSTAT] }
  | .laneTripFall _ =>
    some { regs := regsIn [R.CLN_LANEEV, R.CLN_LANESTAT, R.EVT_PEND] }
  | .mgmtRequest =>
    some { cln := true, regs := regsIn [R.CLN_MGSTAT] }
  | .mgmtResponse _ _ _ =>
    some { cln := true, regs := regsIn [R.CLN_MGBUF, R.CLN_MGSTAT] }
  | .mgmtTimeout =>
    some { cln := true, regs := regsIn [R.CLN_ERRC, R.CLN_MGSTAT] }
  | .guardTakeover =>
    some { cln := true, regs := regsIn [R.CLN_CELLST, R.CLN_LANEEV, R.CLN_LANESTAT, R.CLN_LANETIM, R.EVT_PEND] }
  | .homeLaneReturn _ =>
    some { cln := true, regs := regsIn [R.CLN_CELLST, R.CLN_LANESTAT] }
  | .portGroupEnable _ =>
    some { regs := regsIn [R.EVT_PEND, R.PRT_GCAUSE, R.PRT_GCFG, R.PRT_GSTAT] }
  | .portGroupDisable _ =>
    some { lpe := true, lsw := true, prt := true, regs := regsIn [R.EVT_PEND, R.LSW_CHSTAT, R.PRT_GCAUSE,
           R.PRT_GCFG, R.PRT_GSTAT, R.PRT_IAPP, R.PRT_VAPP] }
  | .cellGroupAssign _ _ =>
    some { regs := regsIn [R.PRT_CELL] }
  | .groupCheck _ | .groupPrecharge _ | .groupStop _ | .groupDisch _ | .groupClear _ | .groupClrreef _
  | .rampdownComplete _ | .contactorsOpened _ | .weldStepEnd _ =>
    some { lpe := true, lsw := true, prt := true, regs := regsIn [R.EVT_PEND, R.LPE_BATCH, R.LPE_BSTAT, R.LPE_LOAD,
           R.LPE_STAT, R.LPE_TLOAD, R.LSW_CHSTAT, R.PRT_GCAUSE, R.PRT_GSTAT, R.PRT_IAPP, R.PRT_VAPP, R.SFY_COIL,
           R.SFY_PSTAT, R.SFY_STAT] }
  | .groupRun _ _ =>
    some { lpe := true, lsw := true, prt := true, regs := regsIn [R.EVT_PEND, R.LPE_BATCH, R.LPE_BSTAT, R.LPE_LOAD,
           R.LPE_STAT, R.LPE_TLOAD, R.LSW_CHSTAT, R.PRT_GCAUSE, R.PRT_GCMD, R.PRT_GSTAT, R.PRT_IAPP, R.PRT_VAPP,
           R.SFY_COIL, R.SFY_PSTAT, R.SFY_STAT] }
  | .contactorsClosed _ | .autocvSwitch _ =>
    some { lpe := true, lsw := true, prt := true, regs := regsIn [R.EVT_PEND, R.LPE_BATCH, R.LPE_BSTAT, R.LPE_LOAD,
           R.LPE_STAT, R.LPE_TLOAD, R.LSW_CHSTAT, R.PRT_GCAUSE, R.PRT_GSTAT, R.PRT_IAPP, R.PRT_VAPP] }
  | .closingTimeout _ | .prechargeTimeout _ | .dischargeForcedOpen _ | .openingTimeout _ =>
    some { lsw := true, prt := true, regs := regsIn [R.EVT_PEND, R.LSW_CHSTAT, R.PRT_GCAUSE, R.PRT_GSTAT,
           R.PRT_IAPP, R.PRT_VAPP, R.SFY_COIL, R.SFY_PSTAT] }
  | .prechargeComplete _ =>
    some { lsw := true, prt := true, regs := regsIn [R.EVT_PEND, R.LSW_CHSTAT, R.PRT_GCAUSE, R.PRT_GSTAT,
           R.PRT_IAPP, R.PRT_TREP, R.PRT_VAPP] }
  | .dischargeComplete _ =>
    some { lpe := true, lsw := true, prt := true, regs := regsIn [R.EVT_PEND, R.LPE_BATCH, R.LPE_BSTAT, R.LPE_LOAD,
           R.LPE_STAT, R.LPE_TLOAD, R.LSW_CHSTAT, R.PRT_GCAUSE, R.PRT_GSTAT, R.PRT_IAPP, R.PRT_TREP, R.PRT_VAPP,
           R.SFY_COIL, R.SFY_PSTAT, R.SFY_STAT] }
  | .dischargeTimeout _ =>
    some { regs := regsIn [R.EVT_PEND, R.PRT_GCAUSE] }
  | .unrequestedOpen _ =>
    some { lsw := true, prt := true, regs := regsIn [R.EVT_PEND, R.LSW_CHSTAT, R.PRT_GCAUSE, R.PRT_GSTAT,
           R.PRT_IAPP, R.PRT_VAPP] }
  | .openCell _ =>
    some { prt := true, regs := regsIn [R.EVT_PEND, R.PRT_GCAUSE] }
  | .senseSearchStart _ | .cellRestore _ =>
    some { prt := true, regs := regsIn [] }
  | .senseSearchEnd _ =>
    some { prt := true, regs := regsIn [R.EVT_PEND, R.PRT_GCAUSE, R.PRT_GSTAT] }
  | .snap _ _ =>
    some { prt := true, regs := regsIn [R.PRT_SNAPOUT] }
  | .averagePublish _ =>
    some { prt := true, regs := regsIn [R.PRT_CTEL, R.PRT_GTEL] }
  | .allocationPeriodStart =>
    some { alc := true, cln := true, lpe := true, rng := true, thm := true, regs := regsIn [R.ALC_CFG, R.ALC_EPOCH,
           R.ALC_PAPPLIED, R.ALC_PCFG, R.ALC_PGRANT, R.ALC_PLAST, R.ALC_PRAMP, R.ALC_PRATED, R.ALC_PREQ,
           R.ALC_PSTAT, R.ALC_SCFG, R.ALC_SCHGPRICE, R.ALC_SDISPRICE, R.ALC_SEQ, R.ALC_SLAST, R.ALC_SOFFER,
           R.ALC_SRAMP, R.ALC_SSETPOINT, R.ALC_SSTAT, R.ALC_STAT, R.ALC_TREEDIG, R.ALC_TSOLVE, R.CLN_CELLMAP,
           R.CLN_LANECFG, R.EVT_PEND, R.LPE_BATCH, R.LPE_FECFG, R.LPE_GROUP, R.PRT_CELL, R.PRT_CIDENT, R.PRT_CNOM,
           R.PRT_DISCFG, R.PRT_EMAX, R.PRT_GCAUSE, R.PRT_GCFG, R.PRT_GCMD, R.PRT_GSTAT, R.PRT_IAPP, R.PRT_IRATED,
           R.PRT_ISET, R.PRT_ISHEET, R.PRT_PCFG, R.PRT_RATE, R.PRT_RLL, R.PRT_TIMES, R.PRT_TREP, R.PRT_VAPP,
           R.PRT_VSET, R.RNG_SHSTAT, R.THM_CABLE, R.THM_CAP, R.THM_COEF, R.THM_FLOW, R.THM_FLOWCFG, R.THM_G12,
           R.THM_IMAXH, R.THM_ISTAT, R.THM_LIM, R.THM_OBS, R.THM_PCH, R.THM_PSEN, R.THM_PSTAT, R.THM_R20,
           R.THM_REEF, R.THM_TEST, R.THM_WIN, R.VEH_CHKV, R.VEH_EVI, R.VEH_EVSOC, R.VEH_EVV, R.VEH_LIMI, R.VEH_LIMP,
           R.VEH_LIMV, R.VEH_LOOPCNT, R.VEH_RXADDR, R.VEH_RXLEN, R.VEH_SCFG, R.VEH_SSTAT, R.VEH_TXADDR] }
  | .exchangeWindowClose =>
    some { alc := true, regs := regsIn [R.ALC_CNT, R.ALC_IDH, R.ALC_IDL, R.ALC_MISS, R.ALC_STAT, R.EVT_PEND] }
  | .solveComplete _ =>
    some { alc := true, regs := regsIn [R.ALC_NODEST0, R.ALC_NODEST1, R.ALC_PGRANT, R.ALC_PLAST, R.ALC_SLAST,
           R.ALC_SOFFER, R.ALC_SSTAT, R.ALC_STAT, R.ALC_TSOLVE, R.EVT_PEND] }
  | .solveOverrun | .allocationPeriodWrite _ =>
    some { alc := true, regs := regsIn [R.ALC_STAT, R.EVT_PEND] }
  | .halyardReceived _ _ _ =>
    some { alc := true, regs := regsIn [R.ALC_CNT, R.ALC_STAT, R.EVT_PEND] }
  | .allocationConfigWrite _ _ =>
    some { regs := regsIn [R.ALC_CFG, R.ALC_STAT, R.ALC_TSOLVE, R.ALC_WIN, R.EVT_PEND] }
  | .treeCommit | .priceAged =>
    some { alc := true, regs := regsIn [] }
  | .alcCounterClear =>
    some { regs := regsIn [R.ALC_CNT] }
  | .allocatorEnable =>
    some { alc := true, regs := regsIn [R.ALC_CTL, R.ALC_STAT] }
  | .allocatorDisable =>
    some { regs := regsIn [R.ALC_CTL, R.ALC_STAT] }
  | .reqWrite _ _ =>
    some { busError := true, regs := regsIn [R.ALC_PREQ, R.ALC_PSTAT] }
  | .priceWrite _ =>
    some { alc := true, regs := regsIn [R.ALC_PRICE] }
  | .reqAged _ =>
    some { regs := regsIn [R.ALC_PSTAT] }
  | .nodeViolation _ =>
    some { regs := regsIn [R.ALC_STAT, R.EVT_PEND] }
  | .pilotStateQualified _ _ | .vehicleLinkLost _ =>
    some { lpe := true, lsw := true, prt := true, sig := true, veh := true, regs := regsIn [R.EVT_PEND, R.LPE_BATCH,
           R.LPE_BSTAT, R.LPE_LOAD, R.LPE_STAT, R.LPE_TLOAD, R.LSW_CHSTAT, R.PRT_GCAUSE, R.PRT_GCMD, R.PRT_GSTAT,
           R.PRT_IAPP, R.PRT_RATE, R.PRT_VAPP, R.SFY_COIL, R.SFY_PSTAT, R.SFY_STAT, R.VEH_FE, R.VEH_SSTAT,
           R.VEH_STAT] }
  | .slacMessage _ _ =>
    some { drawn := true, veh := true, regs := regsIn [] }
  | .sdpRequest _ | .tcpConnect _ | .standbyFrameObserved _ _ | .t1sLinkUp _ =>
    some { veh := true, regs := regsIn [] }
  | .v2gtpFrame _ _ =>
    some { harts := true, lpe := true, lsw := true, mem := true, prt := true, sig := true, veh := true,
           regs := regsIn [R.EVT_PEND, R.LPE_BATCH, R.LPE_BSTAT, R.LPE_LOAD, R.LPE_STAT, R.LPE_TLOAD, R.LSW_CHSTAT,
           R.PRT_GCAUSE, R.PRT_GCMD, R.PRT_GSTAT, R.PRT_IAPP, R.PRT_RATE, R.PRT_VAPP, R.SFY_COIL, R.SFY_PSTAT,
           R.SFY_STAT, R.VEH_FE, R.VEH_LOOPCNT, R.VEH_RXLEN, R.VEH_SSTAT, R.VEH_STAT] }
  | .supportedAppProtocol _ _ | .clientHello _ _ _ _ | .tlinkExpiry _ | .tsetupExpiry _ | .tplcExpiry _ =>
    some { lsw := true, sig := true, veh := true, regs := regsIn [R.EVT_PEND, R.LSW_CHSTAT, R.PRT_GCAUSE, R.VEH_FE,
           R.VEH_SSTAT, R.VEH_STAT] }
  | .tlsSecretsWrite _ _ _ | .deltaAck _ | .deltaReleaseTimeout _ | .sessionHandover _ =>
    some { veh := true, regs := regsIn [R.VEH_SSTAT] }
  | .responseSend _ _ =>
    some { veh := true, regs := regsIn [R.EVT_PEND, R.PRT_GCAUSE, R.VEH_SSTAT, R.VEH_TXLEN] }
  | .receiveRelease _ =>
    some { harts := true, mem := true, veh := true, regs := regsIn [R.EVT_PEND, R.PRT_GCAUSE, R.VEH_RXLEN] }
  | .cableCheckReq _ =>
    some { veh := true, regs := regsIn [R.VEH_LOOPCNT] }
  | .preChargeReq _ _ =>
    some { lpe := true, lsw := true, prt := true, veh := true, regs := regsIn [R.EVT_PEND, R.LPE_BATCH, R.LPE_BSTAT,
           R.LPE_LOAD, R.LPE_STAT, R.LPE_TLOAD, R.LSW_CHSTAT, R.PRT_GCAUSE, R.PRT_GCMD, R.PRT_GSTAT, R.PRT_IAPP,
           R.PRT_VAPP, R.PRT_VSET, R.SFY_COIL, R.SFY_PSTAT, R.SFY_STAT, R.VEH_EVV, R.VEH_LOOPCNT, R.VEH_SSTAT] }
  | .currentDemandReq _ _ _ _ _ | .dcChargeLoopReq _ _ _ _ _ =>
    some { lpe := true, lsw := true, prt := true, veh := true, regs := regsIn [R.ALC_PREQ, R.ALC_PSTAT, R.EVT_PEND,
           R.LPE_BATCH, R.LPE_BSTAT, R.LPE_LOAD, R.LPE_STAT, R.LPE_TLOAD, R.LSW_CHSTAT, R.PRT_GCAUSE, R.PRT_GCMD,
           R.PRT_GSTAT, R.PRT_IAPP, R.PRT_RATE, R.PRT_VAPP, R.PRT_VSET, R.SFY_COIL, R.SFY_PSTAT, R.SFY_STAT,
           R.VEH_EVI, R.VEH_EVSOC, R.VEH_EVV, R.VEH_LOOPCNT, R.VEH_SSTAT] }
  | .sessionStopReq _ | .sessionStop _ | .tseqExpiry _ | .trespExpiry _ | .tloopExpiry _ | .tchkExpiry _
  | .nogoStop _ =>
    some { lpe := true, lsw := true, prt := true, veh := true, regs := regsIn [R.EVT_PEND, R.LPE_BATCH, R.LPE_BSTAT,
           R.LPE_LOAD, R.LPE_STAT, R.LPE_TLOAD, R.LSW_CHSTAT, R.PRT_GCAUSE, R.PRT_GCMD, R.PRT_GSTAT, R.PRT_IAPP,
           R.PRT_RATE, R.PRT_VAPP, R.SFY_COIL, R.SFY_PSTAT, R.SFY_STAT, R.VEH_SSTAT] }
  | .powerDeliveryReq _ _ _ | .standbyTakeover _ =>
    some { harts := true, lpe := true, lsw := true, mem := true, prt := true, veh := true,
           regs := regsIn [R.EVT_PEND, R.LPE_BATCH, R.LPE_BSTAT, R.LPE_LOAD, R.LPE_STAT, R.LPE_TLOAD, R.LSW_CHSTAT,
           R.PRT_GCAUSE, R.PRT_GCMD, R.PRT_GSTAT, R.PRT_IAPP, R.PRT_RATE, R.PRT_VAPP, R.SFY_COIL, R.SFY_PSTAT,
           R.SFY_STAT, R.VEH_RXLEN, R.VEH_SSTAT] }
  | .proceed _ =>
    some { lpe := true, lsw := true, prt := true, veh := true, regs := regsIn [R.EVT_PEND, R.LPE_BATCH, R.LPE_BSTAT,
           R.LPE_LOAD, R.LPE_STAT, R.LPE_TLOAD, R.LSW_CHSTAT, R.PRT_GCAUSE, R.PRT_GCMD, R.PRT_GSTAT, R.PRT_IAPP,
           R.PRT_VAPP, R.PRT_VSET, R.SFY_COIL, R.SFY_PSTAT, R.SFY_STAT, R.VEH_SSTAT] }
  | .sessionClear _ =>
    some { lpe := true, lsw := true, prt := true, sfy := true, veh := true, regs := regsIn [R.EVT_PEND, R.LPE_BATCH,
           R.LPE_BSTAT, R.LPE_LOAD, R.LPE_STAT, R.LPE_TLOAD, R.LSW_CHSTAT, R.PRT_GCAUSE, R.PRT_GCMD, R.PRT_GSTAT,
           R.PRT_IAPP, R.PRT_VAPP, R.SFY_COIL, R.SFY_PSTAT, R.SFY_STAT, R.VEH_SSTAT] }
  | .sessionEnable _ =>
    some { veh := true, regs := regsIn [R.VEH_SCFG, R.VEH_SSTAT] }
  | .sessionDisable _ =>
    some { lpe := true, lsw := true, prt := true, veh := true, regs := regsIn [R.EVT_PEND, R.LPE_BATCH, R.LPE_BSTAT,
           R.LPE_LOAD, R.LPE_STAT, R.LPE_TLOAD, R.LSW_CHSTAT, R.PRT_GCAUSE, R.PRT_GCMD, R.PRT_GSTAT, R.PRT_IAPP,
           R.PRT_RATE, R.PRT_VAPP, R.SFY_COIL, R.SFY_PSTAT, R.SFY_STAT, R.VEH_SCFG, R.VEH_SSTAT] }
  | .frontEndConfig _ _ _ =>
    some { veh := true, regs := regsIn [R.VEH_FE, R.VEH_SSTAT] }
  | .sensorConversion _ _ _ | .sensorBroken _ | .sensorRestored _ =>
    some { sys := true, thm := true, regs := regsIn [R.EVT_PEND, R.PRT_GCAUSE, R.SYS_SAVESTAT, R.THM_CABLE,
           R.THM_JSTAT, R.THM_PSTAT, R.THM_SSTAT, R.THM_STAT] }
  | .flowEdge _ | .thermalRecordWrite =>
    some { thm := true, regs := regsIn [] }
  | .flowCompute =>
    some { drawn := true, thm := true, regs := regsIn [R.EVT_PEND, R.PRT_GCAUSE, R.THM_CABLE, R.THM_FLOW,
           R.THM_PSTAT, R.THM_STAT] }
  | .nogoClear _ =>
    some { regs := regsIn [R.THM_PSTAT] }
  | .observerStep =>
    some { drawn := true, thm := true, regs := regsIn [R.EVT_PEND, R.PRT_GCAUSE, R.THM_CABLE, R.THM_PSTAT,
           R.THM_STAT, R.THM_TEST] }
  | .thermalReefFall _ =>
    some { regs := regsIn [R.EVT_PEND, R.PRT_GCAUSE, R.THM_PSTAT, R.THM_STAT] }
  | .guardLaneTraffic _ _ =>
    some { cln := true, regs := regsIn [R.CLN_ERRA, R.CLN_LANEEV, R.CLN_STAT, R.EVT_PEND] }
  | .laneLockLost _ =>
    some { cln := true, lpe := true, regs := regsIn [R.CLN_CELLST, R.CLN_ERRA, R.CLN_ERRC, R.CLN_LANEEV,
           R.CLN_LANESTAT, R.CLN_STAT, R.EVT_PEND, R.LPE_BSTAT, R.LPE_CWSTAT] }
  | _ => none

/-- What the commands of metering and billing, signatures, time and the estimator
may change by their own effect; none where the list leaves a command out. -/
def meterWrites (c : Instr) : Option Part :=
  match c with
  | .meterSample _ _ _ | .meterCheck _ _ =>
    some { bil := true, mtr := true, regs := regsIn [R.BIL_STAT, R.BIL_TCOUNT, R.BIL_TFIRSTH, R.BIL_TFIRSTL,
           R.BIL_TLASTH, R.BIL_TLASTL, R.EVT_PEND, R.MTR_MSTAT, R.MTR_STAT] }
  | .fastTapSample _ _ _ =>
    some { regs := regsIn [R.MTR_FTI, R.MTR_FTV] }
  | .fold =>
    some { bil := true, mtr := true, rng := true, sig := true, time := true, regs := regsIn [R.BIL_KOFFH,
           R.BIL_KOFFL, R.BIL_NEXTH, R.BIL_NEXTL, R.BIL_SENERGYH, R.BIL_SENERGYL, R.BIL_SSTARTH, R.BIL_SSTARTL,
           R.BIL_STAT, R.BIL_TCOUNT, R.BIL_TFIRSTH, R.BIL_TFIRSTL, R.BIL_TLASTH, R.BIL_TLASTL, R.EVT_PEND,
           R.MTR_EDELH, R.MTR_EDELL, R.MTR_ERECH, R.MTR_ERECL, R.MTR_FOLD, R.MTR_MP1, R.MTR_MSTAT, R.MTR_RAWDELH,
           R.MTR_RAWDELL, R.MTR_RAWRECH, R.MTR_RAWRECL, R.MTR_XDEL, R.MTR_XREC, R.TIM_STAT] }
  | .meterFaultClear _ =>
    some { regs := regsIn [R.MTR_MSTAT] }
  | .pulseStart _ =>
    some { mtr := true, regs := regsIn [R.MTR_MSTAT, R.MTR_PCNT] }
  | .pulseEnd _ =>
    some { mtr := true, regs := regsIn [] }
  | .gridCompute _ _ _ _ =>
    some { bil := true, mtr := true, regs := regsIn [R.BIL_STAT, R.BIL_TCOUNT, R.BIL_TFIRSTH, R.BIL_TFIRSTL,
           R.BIL_TLASTH, R.BIL_TLASTL, R.EVT_PEND, R.MTR_EEXPH, R.MTR_EEXPL, R.MTR_EIMPH, R.MTR_EIMPL, R.MTR_GFREQ,
           R.MTR_GP1, R.MTR_GRMSI, R.MTR_GRMSV, R.MTR_GSTAT, R.MTR_STAT, R.MTR_XEXP, R.MTR_XIMP] }
  | .utilityPulse _ _ =>
    some { bil := true, mtr := true, regs := regsIn [R.EVT_PEND, R.MTR_EEXPH, R.MTR_EEXPL, R.MTR_EIMPH, R.MTR_EIMPL,
           R.MTR_GSTAT, R.MTR_STAT, R.MTR_XEXP, R.MTR_XIMP] }
  | .gridForce =>
    some { bil := true, mtr := true, regs := regsIn [R.EVT_PEND, R.MTR_GCFG, R.MTR_GSTAT, R.MTR_STAT] }
  | .metrologyConfigWrite _ _ _ =>
    some { bil := true, regs := regsIn [R.BIL_STAT, R.BIL_TCOUNT, R.BIL_TFIRSTH, R.BIL_TFIRSTL, R.BIL_TLASTH,
           R.BIL_TLASTL, R.EVT_PEND, R.MTR_CALCNT, R.MTR_CTRATIO, R.MTR_GCAL, R.MTR_GCFG, R.MTR_GKG, R.MTR_IGAIN,
           R.MTR_IOFF, R.MTR_MCFG, R.MTR_RCOMP, R.MTR_STAT, R.MTR_VGAIN, R.MTR_VOFF, R.MTR_VTRATIO] }
  | .boundaryEnqueue =>
    some { mtr := true, regs := regsIn [R.EVT_PEND, R.MTR_BNDCTL, R.MTR_STAT] }
  | .boundaryLatch =>
    some { mtr := true, regs := regsIn [R.EVT_PEND, R.MTR_BNDCTL, R.MTR_MIRH, R.MTR_MIRL, R.MTR_RES0, R.MTR_RESBH,
           R.MTR_RESBL, R.MTR_RESEDH, R.MTR_RESEDL, R.MTR_RESFRAC, R.MTR_STAT] }
  | .boundaryProcess =>
    some { bil := true, mtr := true, rng := true, sig := true, regs := regsIn [R.BIL_ADAY, R.BIL_ARCH, R.BIL_ASEA0,
           R.BIL_ASEA1, R.BIL_ASPEC, R.BIL_AWEEK0, R.BIL_AWEEK1, R.BIL_DLAST, R.BIL_DMAX0, R.BIL_DMAX1,
           R.BIL_DPREV0, R.BIL_DPREV1, R.BIL_EBASE0H, R.BIL_EBASE0L, R.BIL_EBASE1H, R.BIL_EBASE1L, R.BIL_ISEQ,
           R.BIL_KOFFH, R.BIL_KOFFL, R.BIL_NEXTH, R.BIL_NEXTL, R.BIL_SPAN0, R.BIL_SPAN1, R.BIL_STAT, R.BIL_TCOUNT,
           R.BIL_TDELH, R.BIL_TDELL, R.BIL_TFIRSTH, R.BIL_TFIRSTL, R.BIL_TLASTH, R.BIL_TLASTL, R.BIL_TRECH,
           R.BIL_TRECL, R.EVT_PEND, R.MTR_STAT, R.SIG_KSTAT, R.SIG_LIMITH, R.SIG_LIMITL, R.SIG_NEXTH, R.SIG_NEXTL,
           R.SIG_PUB, R.SIG_STAT] }
  | .calendarActivate | .sealOpen =>
    some { regs := regsIn [R.BIL_STAT, R.BIL_TCOUNT, R.BIL_TFIRSTH, R.BIL_TFIRSTL, R.BIL_TLASTH, R.BIL_TLASTL,
           R.EVT_PEND] }
  | .demandResetRequest =>
    some { bil := true, regs := regsIn [] }
  | .demlenWrite _ =>
    some { regs := regsIn [R.BIL_CTL, R.BIL_STAT, R.EVT_PEND] }
  | .billingEnable =>
    some { bil := true, mtr := true, regs := regsIn [R.BIL_CTL, R.BIL_KOFFH, R.BIL_KOFFL, R.BIL_NEXTH, R.BIL_NEXTL] }
  | .displayFrame | .displayAnswer _ =>
    some { bil := true, regs := regsIn [R.BIL_DSTAT] }
  | .displayAnswerMissed _ =>
    some { bil := true, regs := regsIn [R.BIL_DSTAT, R.BIL_STAT, R.EVT_PEND] }
  | .signatureStart =>
    some { sig := true, regs := regsIn [R.EVT_PEND, R.SIG_KSTAT, R.SIG_LIMITH, R.SIG_LIMITL, R.SIG_NEXTH,
           R.SIG_NEXTL, R.SIG_STAT] }
  | .signatureComplete =>
    some { harts := true, mem := true, sig := true, regs := regsIn [R.EVT_PEND, R.SIG_RXNEXT, R.SIG_STAT] }
  | .keyRebuildComplete _ =>
    some { regs := regsIn [R.EVT_PEND, R.SIG_KSTAT, R.SIG_STAT] }
  | .jobSubmit _ =>
    some { sig := true, regs := regsIn [R.SIG_JOBSTAT, R.SIG_STAT] }
  | .jobHash | .jobHmac | .jobHkdfExtract | .jobHkdfExpand | .jobAesGcmEncrypt | .jobAesGcmDecrypt
  | .jobEcdheDerive | .jobPublicKeyRead =>
    some { harts := true, mem := true, sig := true, regs := regsIn [] }
  | .jobEcdheKeygen | .jobSign | .jobRandom =>
    some { drawn := true, harts := true, mem := true, sig := true, regs := regsIn [] }
  | .jobVerify | .jobKeygen | .engineStep =>
    some { sig := true, regs := regsIn [] }
  | .jobTlsKeygen =>
    some { drawn := true, harts := true, mem := true, sig := true, regs := regsIn [R.SIG_TLSSLOT] }
  | .jobTlsKeyErase =>
    some { sig := true, regs := regsIn [R.SIG_TLSSLOT] }
  | .jobAttest =>
    some { sig := true, regs := regsIn [R.EVT_PEND, R.SIG_STAT] }
  | .jobDone =>
    some { harts := true, mem := true, sig := true, regs := regsIn [R.EVT_PEND, R.SIG_JOBSTAT, R.SIG_STAT] }
  | .attestTokenRefill =>
    some { regs := regsIn [R.SIG_STAT] }
  | .estimatorStep _ _ _ _ =>
    some { drawn := true, est := true, regs := regsIn [R.EST_CFG, R.EST_CHG, R.EST_CYCLES, R.EST_DAYS, R.EST_DIS,
           R.EST_I, R.EST_QH, R.EST_QL, R.EST_R0, R.EST_SOC, R.EST_SOCE, R.EST_STAT, R.EST_V, R.EVT_PEND,
           R.SYS_SUPSTAT] }
  | .voltageLimitCheck _ _ _ =>
    some { est := true, regs := regsIn [R.EST_CHG, R.EST_DIS, R.EST_IMP, R.EST_STAT, R.EVT_PEND] }
  | .restStart _ | .restRepeat _ =>
    some { est := true, regs := regsIn [R.EST_CAP, R.EST_DAYS, R.EST_SOC, R.EST_SOCE, R.EST_STAT, R.EVT_PEND] }
  | .counterCheck _ _ =>
    some { est := true, regs := regsIn [R.EST_CHG, R.EST_DIS, R.EST_SOCE, R.EST_STAT, R.EVT_PEND] }
  | .packRecordWrite | .hpChargeEnd _ =>
    some { est := true, regs := regsIn [] }
  | .packInsert _ _ =>
    some { est := true, regs := regsIn [R.EST_CAP, R.EST_CFG, R.EST_CHG, R.EST_CYCLES, R.EST_DIS, R.EST_SOCE,
           R.EST_V] }
  | .reestimate _ | .newpack _ =>
    some { est := true, regs := regsIn [R.EST_CAP, R.EST_CHG, R.EST_CYCLES, R.EST_DIS, R.EST_SOCE] }
  | .firstEstimate _ =>
    some { est := true, regs := regsIn [R.EST_SOC, R.EST_SOCE, R.EST_STAT, R.EVT_PEND] }
  | .incrementWrite _ =>
    some { time := true, regs := regsIn [R.TIM_INCH, R.TIM_INCL] }
  | .timeStepRequest _ | .rtcOscFail | .ppsOut =>
    some { time := true, regs := regsIn [R.EVT_PEND, R.TIM_STAT] }
  | .runlockSet =>
    some { regs := regsIn [R.TIM_CTL] }
  | .calendarSet _ =>
    some { time := true, regs := regsIn [R.TIM_CALCTL, R.TIM_STAT] }
  | .leapSecond =>
    some { bil := true, time := true, regs := regsIn [R.BIL_KOFFH, R.BIL_KOFFL, R.BIL_STAT, R.BIL_TCOUNT,
           R.BIL_TFIRSTH, R.BIL_TFIRSTL, R.BIL_TLASTH, R.BIL_TLASTL, R.EVT_PEND, R.TIM_LEAP] }
  | .rtcAlarm =>
    some { sys := true, regs := regsIn [R.EVT_PEND, R.SYS_PWRCTL, R.SYS_PWRSTAT, R.SYS_WAKESRC, R.TIM_STAT] }
  | .rtcSecondLoad =>
    some { time := true, regs := regsIn [R.TIM_RTCS, R.TIM_RTCSUB] }
  | .ppsIn =>
    some { regs := regsIn [R.EVT_PEND, R.TIM_PPSIH, R.TIM_PPSIL, R.TIM_STAT] }
  | .timestampRead _ =>
    some { readData := true, time := true, regs := regsIn [R.TIM_FSTAT, R.TIM_INFO, R.TIM_TSH, R.TIM_TSL] }
  | .ringPtpFrame _ _ _ _ =>
    some { time := true, regs := regsIn [R.EVT_PEND, R.TIM_FSTAT, R.TIM_INFO, R.TIM_STAT, R.TIM_TSH, R.TIM_TSL] }
  | _ => none

/-- What the commands of the shroud, the ring, the low-side switches, CAN, Deckline, host, Ethernet and storage
may change by their own effect; none where the list leaves a command out. -/
def linkWrites (c : Instr) : Option Part :=
  match c with
  | .shroudCycle =>
    some { mem := true, sfy := true, regs := regsIn [R.EVT_PEND, R.SFY_ACFG, R.SFY_ASTAT, R.SFY_COIL, R.SFY_PSTAT,
           R.SFY_SRC, R.SFY_STAT, R.SFY_TGT3, R.SFY_ZONE1] }
  | .zoneDemand _ | .stayTestPulse _ | .stayChainOpen =>
    some { sfy := true, sys := true, regs := regsIn [R.EVT_PEND, R.SFY_PSTAT, R.SFY_STAT, R.SFY_ZONE1, R.SYS_PWRCTL,
           R.SYS_PWRSTAT, R.SYS_WAKESRC] }
  | .srstPulse _ =>
    some { sfy := true, regs := regsIn [R.SFY_PSTAT, R.SFY_ZONE1] }
  | .shroudStop1 _ | .zoneReset _ | .limset _ _ | .axen _ | .imdtest _ _ | .targetRelease _ | .faultClear _ =>
    some { sfy := true, regs := regsIn [R.EVT_PEND, R.SFY_ACFG, R.SFY_ASTAT, R.SFY_COIL, R.SFY_PSTAT, R.SFY_SRC,
           R.SFY_STAT, R.SFY_TGT3, R.SFY_ZONE1] }
  | .closeRequest _ _ _ | .mirrorTimeout _ _ =>
    some { regs := regsIn [R.EVT_PEND, R.SFY_COIL, R.SFY_PSTAT, R.SFY_STAT] }
  | .openRequest _ _ _ | .noVoltageVerified _ | .standbyCoilsEnergise | .shroudReturn =>
    some { regs := regsIn [R.SFY_COIL, R.SFY_PSTAT] }
  | .lockRequest _ =>
    some { sfy := true, regs := regsIn [R.SFY_COIL] }
  | .unlockRequest _ =>
    some { sfy := true, regs := regsIn [R.EVT_PEND, R.SFY_STAT] }
  | .coilRelease _ _ | .lockConfirmed _ | .unlockConfirmed _ | .standbyCoilsRelease =>
    some { sfy := true, regs := regsIn [R.SFY_COIL, R.SFY_PSTAT] }
  | .mirrorChange _ _ _ | .imdFault _ | .tempCut _ | .feedbackTest _ =>
    some { sfy := true, regs := regsIn [R.EVT_PEND, R.SFY_PSTAT, R.SFY_STAT] }
  | .lockTimeout _ | .coilTestPulse _ _ | .coilOpen _ =>
    some { sfy := true, regs := regsIn [R.EVT_PEND, R.SFY_COIL, R.SFY_PSTAT, R.SFY_STAT] }
  | .imdWarn _ _ =>
    some { regs := regsIn [R.EVT_PEND, R.SFY_PSTAT, R.SFY_STAT] }
  | .isolationValid _ | .pinBroken _ =>
    some { regs := regsIn [R.SFY_PSTAT] }
  | .pinBrokenStop _ | .vetoActive | .guestTimeLimit =>
    some { sfy := true, regs := regsIn [R.SFY_PSTAT] }
  | .axisSample _ _ _ _ =>
    some { sfy := true, regs := regsIn [R.EVT_PEND, R.SFY_ACFG, R.SFY_ASTAT, R.SFY_COIL, R.SFY_POS, R.SFY_PSTAT,
           R.SFY_SPD, R.SFY_STAT] }
  | .lockstepMismatch | .memoryDoubleError =>
    some { sfy := true, regs := regsIn [R.EVT_PEND, R.SFY_ASTAT, R.SFY_COIL, R.SFY_PSTAT, R.SFY_SRC, R.SFY_STAT] }
  | .cycleOverrun _ =>
    some { sfy := true, regs := regsIn [R.EVT_PEND, R.SFY_ASTAT, R.SFY_COIL, R.SFY_DIAG, R.SFY_PSTAT, R.SFY_SRC,
           R.SFY_STAT] }
  | .memoryScrub _ =>
    some { regs := regsIn [R.SFY_DIAG] }
  | .fabricSourceChange _ _ =>
    some { sfy := true, regs := regsIn [R.CLN_LANEEV, R.CLN_LANESTAT, R.EVT_PEND, R.SFY_PSTAT, R.SFY_SRC,
           R.SFY_STAT, R.SFY_TGT3] }
  | .ringLinkStart _ =>
    some { drawn := true, rng := true, regs := regsIn [R.RNG_LINK, R.RNG_LINKERR] }
  | .linkcap _ _ _ _ _ _ =>
    some { rng := true, regs := regsIn [R.EVT_PEND, R.RNG_CAUSE, R.RNG_LINK] }
  | .linkauth _ _ =>
    some { rng := true, regs := regsIn [R.EVT_PEND, R.RNG_CAUSE, R.RNG_LINK, R.RNG_STAT] }
  | .heartbeatSend | .viewFrame _ | .generationRaise =>
    some { rng := true, regs := regsIn [] }
  | .heartbeat _ _ =>
    some { rng := true, regs := regsIn [R.ALC_PAPPLIED, R.ALC_SSETPOINT, R.EVT_PEND, R.PRT_ISET, R.PRT_ISHEET,
           R.RNG_CAUSE, R.RNG_STAT] }
  | .heartbeatMissed _ =>
    some { rng := true, regs := regsIn [R.RNG_LINK] }
  | .neighbourLost _ =>
    some { lpe := true, lsw := true, prt := true, rng := true, veh := true, regs := regsIn [R.EVT_PEND, R.LPE_BATCH,
           R.LPE_BSTAT, R.LPE_LOAD, R.LPE_STAT, R.LPE_TLOAD, R.LSW_CHSTAT, R.PRT_GCAUSE, R.PRT_GCMD, R.PRT_GSTAT,
           R.PRT_IAPP, R.PRT_RATE, R.PRT_VAPP, R.RNG_CAUSE, R.RNG_LINK, R.RNG_STAT, R.RNG_TDECLH, R.RNG_TDECLL,
           R.SFY_COIL, R.SFY_PSTAT, R.SFY_STAT, R.VEH_SSTAT] }
  | .viewAdopt =>
    some { rng := true, regs := regsIn [R.EVT_PEND, R.RNG_CAUSE, R.RNG_EPOCH, R.RNG_MEM, R.RNG_ORDER, R.RNG_STAT,
           R.RNG_VIEWST, R.RNG_XMIN] }
  | .shdFrame _ =>
    some { rng := true, regs := regsIn [R.EVT_PEND, R.RNG_CAUSE, R.RNG_LINKERR, R.RNG_SHSTAT] }
  | .deltaFrame _ =>
    some { lpe := true, rng := true, veh := true, regs := regsIn [R.ALC_PAPPLIED, R.ALC_PCFG, R.ALC_PGRANT,
           R.ALC_PLAST, R.ALC_PRAMP, R.ALC_PRATED, R.ALC_PREQ, R.ALC_PSTAT, R.ALC_SCFG, R.ALC_SCHGPRICE,
           R.ALC_SDISPRICE, R.ALC_SLAST, R.ALC_SOFFER, R.ALC_SRAMP, R.ALC_SSETPOINT, R.ALC_SSTAT, R.CLN_CELLMAP,
           R.CLN_LANECFG, R.LPE_BATCH, R.LPE_FECFG, R.LPE_GROUP, R.PRT_CELL, R.PRT_CIDENT, R.PRT_CNOM, R.PRT_DISCFG,
           R.PRT_EMAX, R.PRT_GCAUSE, R.PRT_GCFG, R.PRT_GCMD, R.PRT_GSTAT, R.PRT_IAPP, R.PRT_IRATED, R.PRT_ISET,
           R.PRT_ISHEET, R.PRT_PCFG, R.PRT_RATE, R.PRT_RLL, R.PRT_TIMES, R.PRT_TREP, R.PRT_VAPP, R.PRT_VSET,
           R.RNG_LINKERR, R.THM_CABLE, R.THM_CAP, R.THM_COEF, R.THM_FLOW, R.THM_FLOWCFG, R.THM_G12, R.THM_IMAXH,
           R.THM_ISTAT, R.THM_LIM, R.THM_OBS, R.THM_PCH, R.THM_PSEN, R.THM_PSTAT, R.THM_R20, R.THM_REEF, R.THM_TEST,
           R.THM_WIN, R.VEH_CHKV, R.VEH_EVI, R.VEH_EVSOC, R.VEH_EVV, R.VEH_LIMI, R.VEH_LIMP, R.VEH_LIMV,
           R.VEH_LOOPCNT, R.VEH_RXADDR, R.VEH_RXLEN, R.VEH_SCFG, R.VEH_SSTAT, R.VEH_TXADDR] }
  | .displaced _ =>
    some { rng := true, veh := true, regs := regsIn [R.ALC_PAPPLIED, R.ALC_SSETPOINT, R.EVT_PEND, R.PRT_ISET,
           R.PRT_ISHEET, R.RNG_CAUSE, R.RNG_STAT] }
  | .returnRequest =>
    some { rng := true, veh := true, regs := regsIn [R.ALC_PAPPLIED, R.ALC_SSETPOINT, R.PRT_ISET, R.PRT_ISHEET,
           R.RNG_SPL, R.RNG_STAT] }
  | .splFrame _ =>
    some { cln := true, harts := true, lpe := true, lsw := true, mem := true, prt := true, rng := true, veh := true,
           regs := regsIn [R.ALC_PAPPLIED, R.ALC_PCFG, R.ALC_PGRANT, R.ALC_PLAST, R.ALC_PRAMP, R.ALC_PRATED,
           R.ALC_PREQ, R.ALC_PSTAT, R.ALC_SCFG, R.ALC_SCHGPRICE, R.ALC_SDISPRICE, R.ALC_SLAST, R.ALC_SOFFER,
           R.ALC_SRAMP, R.ALC_SSETPOINT, R.ALC_SSTAT, R.CLN_CELLMAP, R.CLN_CELLST, R.CLN_LANECFG, R.CLN_LANESTAT,
           R.EVT_PEND, R.LPE_BATCH, R.LPE_BSTAT, R.LPE_FECFG, R.LPE_GROUP, R.LPE_LOAD, R.LPE_STAT, R.LPE_TLOAD,
           R.LSW_CHSTAT, R.PRT_CELL, R.PRT_CIDENT, R.PRT_CNOM, R.PRT_DISCFG, R.PRT_EMAX, R.PRT_GCAUSE, R.PRT_GCFG,
           R.PRT_GCMD, R.PRT_GSTAT, R.PRT_IAPP, R.PRT_IRATED, R.PRT_ISET, R.PRT_ISHEET, R.PRT_PCFG, R.PRT_RATE,
           R.PRT_RLL, R.PRT_TIMES, R.PRT_TREP, R.PRT_VAPP, R.PRT_VSET, R.SFY_COIL, R.SFY_PSTAT, R.SFY_STAT,
           R.THM_CABLE, R.THM_CAP, R.THM_COEF, R.THM_FLOW, R.THM_FLOWCFG, R.THM_G12, R.THM_IMAXH, R.THM_ISTAT,
           R.THM_LIM, R.THM_OBS, R.THM_PCH, R.THM_PSEN, R.THM_PSTAT, R.THM_R20, R.THM_REEF, R.THM_TEST, R.THM_WIN,
           R.VEH_CHKV, R.VEH_EVI, R.VEH_EVSOC, R.VEH_EVV, R.VEH_LIMI, R.VEH_LIMP, R.VEH_LIMV, R.VEH_LOOPCNT,
           R.VEH_RXADDR, R.VEH_RXLEN, R.VEH_SCFG, R.VEH_SSTAT, R.VEH_TXADDR] }
  | .returnSignal =>
    some { lpe := true, rng := true, regs := regsIn [R.RNG_STAT] }
  | .returnComplete =>
    some { cln := true, lpe := true, rng := true, regs := regsIn [R.CLN_CELLST, R.CLN_LANEEV, R.CLN_LANESTAT,
           R.CLN_STAT, R.EVT_PEND, R.LPE_BSTAT, R.LPE_CWSTAT, R.RNG_CAUSE, R.RNG_SPL, R.RNG_STAT] }
  | .splice =>
    some { rng := true, regs := regsIn [R.EVT_PEND, R.RNG_CAUSE, R.RNG_SPL] }
  | .spliceHandover =>
    some { lpe := true, lsw := true, prt := true, rng := true, veh := true, regs := regsIn [R.EVT_PEND, R.LPE_BATCH,
           R.LPE_BSTAT, R.LPE_LOAD, R.LPE_STAT, R.LPE_TLOAD, R.LSW_CHSTAT, R.PRT_GCAUSE, R.PRT_GCMD, R.PRT_GSTAT,
           R.PRT_IAPP, R.PRT_RATE, R.PRT_VAPP, R.RNG_CAUSE, R.RNG_SPL, R.RNG_STAT, R.RNG_TDECLH, R.RNG_TDECLL,
           R.SFY_COIL, R.SFY_PSTAT, R.SFY_STAT, R.VEH_SSTAT] }
  | .leave =>
    some { rng := true, regs := regsIn [R.EVT_PEND, R.RNG_CAUSE, R.RNG_SPL, R.RNG_STAT] }
  | .channelOn _ | .holdEnd _ =>
    some { lsw := true, regs := regsIn [R.EVT_PEND, R.LSW_CHSTAT, R.LSW_STAT] }
  | .channelOff _ | .inrushEnd _ | .timedPulseEnd _ | .clampEnd _ =>
    some { lsw := true, regs := regsIn [R.LSW_CHSTAT] }
  | .channelClear _ =>
    some { lsw := true, regs := regsIn [R.LSW_CHI, R.LSW_CHSTAT] }
  | .channelOvercurrent _ _ | .channelOvertemp _ | .aggregateTrip =>
    some { lsw := true, regs := regsIn [R.EVT_PEND, R.LSW_CHI, R.LSW_CHSTAT, R.LSW_STAT] }
  | .vauxDroop _ =>
    some { regs := regsIn [R.EVT_PEND, R.LSW_STAT, R.LSW_SUP] }
  | .openLoad _ =>
    some { regs := regsIn [R.EVT_PEND, R.LSW_CHSTAT, R.LSW_STAT] }
  | .pwmPeriod _ =>
    some { lsw := true, regs := regsIn [] }
  | .currentSense _ _ _ =>
    some { regs := regsIn [R.LSW_AGG, R.LSW_CHI, R.LSW_CHSTAT] }
  | .vauxUndervoltage _ | .vauxReverse =>
    some { lsw := true, sfy := true, regs := regsIn [R.EVT_PEND, R.LSW_CHSTAT, R.LSW_STAT, R.LSW_SUP, R.SFY_COIL,
           R.SFY_PSTAT, R.SYS_SUPSTAT] }
  | .vauxOvervoltage _ =>
    some { lsw := true, regs := regsIn [R.EVT_PEND, R.LSW_CHSTAT, R.LSW_STAT, R.LSW_SUP, R.SYS_SUPSTAT] }
  | .groundLoss =>
    some { lsw := true, sfy := true, regs := regsIn [R.EVT_PEND, R.LSW_CHI, R.LSW_CHSTAT, R.LSW_STAT, R.LSW_SUP,
           R.SFY_COIL, R.SFY_PSTAT, R.SYS_SUPSTAT] }
  | .vauxReturn _ =>
    some { lsw := true, sfy := true, regs := regsIn [R.LSW_CHSTAT, R.LSW_SUP, R.SYS_SUPSTAT] }
  | .pullInEnd _ | .coilOvercurrent _ =>
    some { regs := regsIn [R.SFY_COIL] }
  | .feedbackChange _ _ =>
    some { sfy := true, regs := regsIn [R.EVT_PEND, R.SFY_FB, R.SFY_PSTAT, R.SFY_STAT] }
  | .launchTimeReached _ =>
    some { cans := true, eth := true, regs := regsIn [R.CAN_STAT, R.CAN_TXEVA, R.CAN_TXEVB, R.CAN_TXSTAT,
           R.ETH_STAT, R.EVT_PEND] }
  | .canEnable _ =>
    some { cans := true, regs := regsIn [R.CAN_CTL, R.CAN_STAT, R.CAN_TXEVA, R.CAN_TXEVB, R.CAN_TXSTAT] }
  | .canDisable _ =>
    some { regs := regsIn [R.CAN_CTL, R.CAN_STAT] }
  | .canStopComplete _ | .canAbort _ | .canAbortAll _ =>
    some { cans := true, drawn := true, regs := regsIn [R.CAN_STAT, R.CAN_TXEVA, R.CAN_TXEVB, R.CAN_TXSTAT,
           R.EVT_PEND] }
  | .canBusJoin _ | .canPush _ =>
    some { cans := true, regs := regsIn [R.CAN_STAT, R.CAN_TXEVA, R.CAN_TXEVB, R.CAN_TXSTAT, R.EVT_PEND] }
  | .canRecover _ =>
    some { cans := true, regs := regsIn [R.CAN_TXEVA, R.CAN_TXEVB, R.CAN_TXSTAT] }
  | .canRxReturn _ _ =>
    some { regs := regsIn [R.CAN_RXSTAT] }
  | .canTxEventRead _ =>
    some { cans := true, readData := true, regs := regsIn [R.CAN_TXEVA, R.CAN_TXEVB, R.CAN_TXSTAT] }
  | .canTimingWrite _ _ _ =>
    some { regs := regsIn [R.CAN_DBT, R.CAN_NBT, R.CAN_NSET, R.CAN_STAT, R.EVT_PEND] }
  | .canFrameReceived _ _ =>
    some { cans := true, drawn := true, regs := regsIn [R.CAN_CTL, R.CAN_ERR, R.CAN_NBT, R.CAN_RXRING, R.CAN_RXSTAT,
           R.CAN_STAT, R.CAN_TXEVA, R.CAN_TXEVB, R.CAN_TXSTAT, R.EVT_PEND] }
  | .canTxComplete _ _ =>
    some { cans := true, drawn := true, regs := regsIn [R.CAN_ERR, R.CAN_RXRING, R.CAN_RXSTAT, R.CAN_STAT,
           R.CAN_TDC, R.CAN_TXEVA, R.CAN_TXEVB, R.CAN_TXSTAT, R.EVT_PEND] }
  | .canRecoveryComplete _ | .canRxError _ _ =>
    some { cans := true, regs := regsIn [R.CAN_ERR, R.CAN_STAT, R.CAN_TXEVA, R.CAN_TXEVB, R.CAN_TXSTAT, R.EVT_PEND] }
  | .abdWindowEnd _ _ _ =>
    some { cans := true, regs := regsIn [R.CAN_CTL, R.CAN_NBT, R.CAN_STAT, R.CAN_TXEVA, R.CAN_TXEVB, R.CAN_TXSTAT,
           R.EVT_PEND] }
  | .canWakePattern _ =>
    some { sys := true, regs := regsIn [R.SYS_PWRCTL, R.SYS_PWRSTAT, R.SYS_WAKESRC] }
  | .zeroCrossing _ =>
    some { dkl := true, regs := regsIn [R.DKL_MAINS, R.DKL_STAT, R.DKL_TXEV, R.DKL_TXMAPA, R.DKL_TXMAPB,
           R.DKL_TXSTAT, R.EVT_PEND] }
  | .mainsLost | .slotStart _ =>
    some { dkl := true, regs := regsIn [R.DKL_STAT, R.DKL_TXEV, R.DKL_TXSTAT, R.EVT_PEND] }
  | .segmentReceived _ _ =>
    some { dkl := true, regs := regsIn [R.DKL_RXMAPA, R.DKL_RXMAPB, R.DKL_STAT, R.EVT_PEND] }
  | .dklDataFrame _ =>
    some { dkl := true, regs := regsIn [R.DKL_RXRING, R.DKL_RXSTAT, R.DKL_STAT, R.DKL_TXEV, R.DKL_TXSTAT, R.EVT_PEND] }
  | .dklAckFrame _ _ _ _ | .neighFrame _ _ | .ackTimeout _ =>
    some { dkl := true, regs := regsIn [R.DKL_NODEC, R.DKL_STAT, R.DKL_TXEV, R.DKL_TXSTAT, R.EVT_PEND] }
  | .soundFrame _ _ =>
    some { dkl := true, regs := regsIn [R.DKL_NODEC, R.DKL_RXMAPA, R.DKL_RXMAPB, R.DKL_STAT, R.DKL_TXEV,
           R.DKL_TXSTAT, R.EVT_PEND] }
  | .mapFrame _ _ =>
    some { dkl := true, regs := regsIn [] }
  | .joinFrame _ _ _ | .joinApprovalTimeout _ =>
    some { dkl := true, regs := regsIn [R.DKL_NODEA, R.DKL_NODEB, R.DKL_NODEC, R.DKL_NODED, R.DKL_STAT, R.DKL_TXEV,
           R.DKL_TXSTAT, R.EVT_PEND] }
  | .nodeApprove _ | .soundingDue _ =>
    some { dkl := true, regs := regsIn [R.DKL_TXEV, R.DKL_TXSTAT] }
  | .dklSend _ =>
    some { dkl := true, regs := regsIn [R.DKL_STAT, R.DKL_TXCTL, R.DKL_TXEV, R.DKL_TXSTAT, R.EVT_PEND] }
  | .dklRxReturn _ =>
    some { regs := regsIn [R.DKL_RXSTAT] }
  | .dklTxEventRead =>
    some { dkl := true, readData := true, regs := regsIn [R.DKL_TXEV, R.DKL_TXSTAT] }
  | .dklEnable =>
    some { regs := regsIn [R.DKL_CTL, R.DKL_STAT] }
  | .dklDisable =>
    some { dkl := true, regs := regsIn [R.DKL_CTL, R.DKL_STAT, R.DKL_TXEV, R.DKL_TXSTAT, R.EVT_PEND] }
  | .hostDoorbell _ _ =>
    some { sys := true, regs := regsIn [R.EVT_PEND, R.HST_QSTAT, R.HST_SQTAIL, R.HST_STAT, R.SYS_PWRCTL,
           R.SYS_PWRSTAT, R.SYS_WAKESRC] }
  | .descriptorFetch =>
    some { host := true, regs := regsIn [R.EVT_PEND, R.HST_OPSTAT, R.HST_OPSTEPS, R.HST_QSTAT, R.HST_SQHEAD,
           R.HST_STAT] }
  | .hostNop _ =>
    some { host := true, regs := regsIn [R.EVT_PEND, R.HST_OPSTAT, R.HST_QSTAT, R.HST_STAT] }
  | .install _ =>
    some { drawn := true, host := true, sto := true, sys := true, regs := regsIn [R.EVT_PEND, R.HST_OPSTAT,
           R.HST_OPSTEPS, R.HST_QSTAT, R.HST_STAT] }
  | .exportArchive _ | .compact _ =>
    some { host := true, regs := regsIn [R.EVT_PEND, R.HST_OPSTAT, R.HST_OPSTEPS, R.HST_QSTAT, R.HST_STAT] }
  | .hostKeygen _ =>
    some { drawn := true, host := true, sig := true, regs := regsIn [R.EVT_PEND, R.HST_OPSTAT, R.HST_OPSTEPS,
           R.HST_QSTAT, R.HST_STAT] }
  | .hostAttest _ =>
    some { drawn := true, harts := true, host := true, mem := true, sig := true, regs := regsIn [R.EVT_PEND,
           R.HST_OPSTAT, R.HST_OPSTEPS, R.HST_QSTAT, R.HST_STAT, R.SIG_STAT] }
  | .hostAbort _ | .messageTimeout _ | .operationComplete _ =>
    some { host := true, sig := true, regs := regsIn [R.EVT_PEND, R.HST_CQHEAD, R.HST_CQMEM, R.HST_CQTAIL,
           R.HST_OPSTAT, R.HST_OPSTEPS, R.HST_QSTAT, R.HST_SQHEAD, R.HST_SQTAIL, R.HST_STAT] }
  | .messageOperation _ =>
    some { harts := true, host := true, mem := true, regs := regsIn [R.EVT_PEND, R.HST_OPSTAT, R.HST_QSTAT,
           R.HST_STAT] }
  | .hartCompletion _ =>
    some { host := true, sig := true, regs := regsIn [R.EVT_PEND, R.HST_CQHEAD, R.HST_CQMEM, R.HST_CQTAIL,
           R.HST_HCSTAT, R.HST_OPSTAT, R.HST_OPSTEPS, R.HST_QSTAT, R.HST_SQHEAD, R.HST_SQTAIL, R.HST_STAT] }
  | .hartRingReturn _ _ | .lineAck _ | .qspiStatus =>
    some { host := true, regs := regsIn [] }
  | .completionReturn _ _ =>
    some { regs := regsIn [R.HST_CQHEAD] }
  | .queueEnable _ | .queueDisable _ =>
    some { host := true, regs := regsIn [R.HST_CQHEAD, R.HST_CQTAIL, R.HST_QCFG, R.HST_QSTAT, R.HST_SQHEAD,
           R.HST_SQTAIL] }
  | .storageStep =>
    some { bil := true, harts := true, host := true, mem := true, sig := true, sto := true,
           regs := regsIn [R.BIL_ARCH, R.BIL_STAT, R.BIL_TCOUNT, R.BIL_TFIRSTH, R.BIL_TFIRSTL, R.BIL_TLASTH,
           R.BIL_TLASTL, R.EVT_PEND, R.HST_OPSTAT, R.HST_OPSTEPS, R.HST_QSTAT, R.HST_STAT, R.SIG_LASTROOT,
           R.SIG_STAT, R.STO_ARCHUSE, R.STO_REQSTAT, R.STO_STAT] }
  | .hostEventClear _ _ =>
    some { regs := regsIn [R.EVT_PEND] }
  | .hostLinkChange _ =>
    some { drawn := true, host := true, regs := regsIn [R.EVT_PEND, R.HST_STAT] }
  | .ethEnable _ =>
    some { eth := true, regs := regsIn [R.ETH_CTL, R.ETH_STAT, R.EVT_PEND] }
  | .ethDisable _ =>
    some { regs := regsIn [R.ETH_CTL, R.ETH_STAT] }
  | .ethStopComplete _ =>
    some { eth := true, harts := true, mem := true, regs := regsIn [R.ETH_STAT, R.ETH_TXHEAD, R.EVT_PEND] }
  | .ethTxTail _ _ _ =>
    some { eth := true, regs := regsIn [R.ETH_STAT, R.ETH_TXTAIL, R.EVT_PEND] }
  | .ethTxComplete _ _ =>
    some { eth := true, harts := true, mem := true, time := true, regs := regsIn [R.ETH_STAT, R.ETH_TXFRM,
           R.ETH_TXHEAD, R.EVT_PEND, R.TIM_FSTAT, R.TIM_INFO, R.TIM_STAT, R.TIM_TSH, R.TIM_TSL] }
  | .ethFrameReceived _ _ _ =>
    some { eth := true, harts := true, mem := true, time := true, regs := regsIn [R.ETH_RXFCS, R.ETH_RXFRM,
           R.ETH_RXLONG, R.ETH_RXLOST, R.ETH_RXSTAT, R.ETH_STAT, R.EVT_PEND, R.TIM_FSTAT, R.TIM_INFO, R.TIM_STAT,
           R.TIM_TSH, R.TIM_TSL] }
  | .ethPause _ _ | .ethPauseEnd _ =>
    some { eth := true, regs := regsIn [R.ETH_STAT, R.EVT_PEND] }
  | .ethRxReturn _ _ =>
    some { regs := regsIn [R.ETH_RXSTAT] }
  | .mdioTransaction _ _ =>
    some { eth := true, regs := regsIn [R.ETH_MDIO, R.ETH_MDIOSTAT] }
  | .mdioDone _ _ =>
    some { eth := true, regs := regsIn [R.ETH_MDIO, R.ETH_MDIOSTAT, R.ETH_STAT, R.EVT_PEND] }
  | .ethConfigWrite _ _ =>
    some { regs := regsIn [R.ETH_CFG, R.ETH_STAT, R.EVT_PEND] }
  | .stoRequest _ _ =>
    some { host := true, regs := regsIn [R.EVT_PEND, R.STO_REQCMD, R.STO_REQSTAT, R.STO_STAT] }
  | .emmcInit _ _ _ _ _ _ =>
    some { sto := true, regs := regsIn [R.EVT_PEND, R.STO_ARCHEND, R.STO_CAP, R.STO_HEALTH, R.STO_PAREA, R.STO_STAT] }
  | .emmcCommandFail =>
    some { host := true, sto := true, regs := regsIn [R.EVT_PEND, R.HST_OPSTAT, R.HST_QSTAT, R.HST_STAT, R.STO_CNT,
           R.STO_REQSTAT, R.STO_STAT] }
  | .emmcRetry =>
    some { sto := true, regs := regsIn [R.STO_STAT] }
  | .emmcHealth _ _ _ =>
    some { regs := regsIn [R.EVT_PEND, R.STO_HEALTH, R.STO_STAT] }
  | _ => none

end Sys2Proof.Machine
end

