-- ==== Sys2Proof/Safety.lean ====
section
/-! DEFINITION. The terms statements use: what a command answers, what a safe step is, and what holds of the device
after every command (R264, R596, R597). -/

namespace Sys2Proof

open Sys2Proof.Machine

/-- A step that does not stop. -/
def Safe (o : Host.Outcome State Fault Refusal) : Prop := ∃ t, o = .next t

/-- The command answers a next state of which something holds. -/
def Answers (c : Instr) (s : State) (P : State → Prop) : Prop := ∃ t, exec c s = .next t ∧ P t

/-- The command's own effect is a state of which something holds; the next state is what follows at once from it. -/
def Effect (c : Instr) (s : State) (P : State → Prop) : Prop := ∃ u, exec c s = .next u.settle ∧ P u

/-- An event source is pending (R595). -/
def Raised (s : State) (src : Nat) : Prop := bitOf (s.f Fl.EVT_PEND_PEND (src / 32)) (src % 32) = true

/-- The device runs: no save sequence, no power transition, no boot in progress. -/
def Steady (s : State) : Prop :=
  s.sys.phase = .running ∧ s.sys.saveStep = 0 ∧ s.sys.saveEnd = false ∧ s.sys.target = none

/-- Resets act at once: the device has power outside Stow, and no save runs or has just ended (R44, R638). -/
def ResetsAct (s : State) : Prop :=
  s.sys.phase ≠ .off ∧ s.f Fl.SYS_PWRSTAT_STATE ≠ 3 ∧ s.sys.saveStep = 0 ∧ s.sys.saveEnd = false

/-- EVT_LINESTAT shows the active host and hart lines (R596, R597, R602). -/
def LinesShown (s : State) : Prop :=
  s.f Fl.EVT_LINESTAT_LINE = s.activeLines ∧ s.f Fl.EVT_LINESTAT_HART = s.activeHartLines

/-- Every own port's sheet is 0, or at or below its local clamp (R264). -/
def SheetsClamped (s : State) : Prop :=
  ∀ p, p < 24 → s.f Fl.PRT_ISHEET_SHEET p = 0 ∨ s.f Fl.PRT_ISHEET_SHEET p ≤ s.localClamp p

/-- A policy hart executes its next instruction: it runs, and its fetch raises no exception (R43, R73, R90). -/
def Executes (h : Hart) (s : State) : Prop := s.hartRuns h.val = true ∧ s.fetchFault h.val = none

/-- An instruction leaves a hart as `y` but for CW_DONE, one more than before; the other harts, memory and everything
else outside `hartPart` stand. -/
def Completes (c : Instr) (h : Hart) (s : State) (y : HartCtx) : Prop :=
  Answers c s fun t => t.hart h.val = { y with done := (s.hart h.val).done + 1 } ∧
    (∀ k, k ≠ h.val → t.hart k = s.hart k) ∧ t.without hartPart = s.without hartPart

/-- A hart with a general register written, at its next instruction. -/
def wrote (x : HartCtx) (rd : RegNum) (v : Word) : HartCtx := { x.setR rd v with pc := x.pc + 4 }

/-- A hart with a register pair written, at its next instruction. -/
def wrotePair (x : HartCtx) (rd : RegNum) (v : DWord) : HartCtx := { x.setPair rd v with pc := x.pc + 4 }

/-- The bytes a load of hart `h` takes from memory: none where the address lies in a register block, in the MRAM system
area or in no area its privilege reaches (R77). -/
def loaded (s : State) (h : Hart) (a len : Nat) : Option (List Byte) :=
  match areaOf a with
  | .bootRom => some ((List.range len).map fun i => Config.bootRom (a + i))
  | .mramProgram => some (s.bytes a len)
  | .sram => some (s.bytes a len)
  | .toShroud => if (s.hart h.val).sup then some (s.bytes a len) else none
  | .fromShroud => if (s.hart h.val).sup then some (s.bytes a len) else none
  | .localStore => some ((s.hart h.val).localBytes (a - 0x30000000) len)
  | .mramSystem => none
  | .block => none
  | .unmapped => none

/-- A load of hart `h` that memory answers: naturally aligned and allowed (R76, R77, R78). -/
def Loads (s : State) (h : Hart) (a len : Nat) (l : List Byte) : Prop :=
  a % len = 0 ∧ (s.hart h.val).allows a 8 = true ∧ loaded s h a len = some l

/-- A store of hart `h` that memory takes: naturally aligned, allowed, and in an area its privilege writes; the MRAM
program area with its gate open, SRAM outside the ranges under an image check (R32, R76 to R78, R105). -/
def StoresToMemory (s : State) (h : Hart) (a len : Nat) : Prop :=
  a % len = 0 ∧ (s.hart h.val).allows a 9 = true ∧
    (areaOf a = .sram ∧ s.readOnly a len = false ∨ areaOf a = .mramProgram ∧ s.nvOk = true ∨
      areaOf a = .toShroud ∧ (s.hart h.val).sup = true)

/-- Byte `i` of a number, lowest first. -/
def byteOf (v i : Nat) : Byte := BitVec.ofNat 8 (v / 256 ^ i)

/-- What a trap leaves of a hart: the trap record, SUP and INTRAP set and IRQON cleared, the table entry, general
registers as they were, no reservation (R61, R73, R83). -/
def TrapTaken (x y : HartCtx) (irq : Bool) (cause : Nat) (detail : Word) : Prop :=
  y.localWord 0x3FF0 = x.pc ∧ y.localWord 0x3FF4 = x.mode ∧
    y.localWord 0x3FF8 = BitVec.ofNat 32 ((if irq then 2 ^ 31 else 0) + cause) ∧ y.localWord 0x3FFC = detail ∧
    y.mode = (x.mode ||| 0x21) &&& 0xFFFFFFFD ∧ y.pc = x.trapBase + BitVec.ofNat 32 (16 * cause) ∧
    y.g = x.g ∧ y.reservation = none ∧ y.run = x.run

/-- The command traps on hart `h`: only that hart, its SYS_HARTSTAT and what follows at once change. -/
def Traps (c : Instr) (h : Hart) (s : State) (cause : Nat) (detail : Word) : Prop :=
  Answers c s fun t => TrapTaken (s.hart h.val) (t.hart h.val) false cause detail ∧
    (∀ k, k ≠ h.val → t.hart k = s.hart k) ∧ t.f Fl.SYS_HARTSTAT_LASTCAUSE h.val = cause ∧
    t.without hartPart = s.without hartPart

end Sys2Proof
end

