-- ==== Sys2Proof/Certificates/Slice0/Obligations.lean ====
section
/-! DEFINITION. The statements for the provers, family by family of the command table. -/

open Sys2Proof Sys2Proof.Machine

/-! ### The register bus, hart control, events (spec/00, spec/03) -/

/-- R7, R9, R15, R56, R93, R150, R420, R454: register writes of the harts. -/
def Obligations.RegisterWrites : Prop :=
  ∀ (n a : Nat) (v : Word) (s : State),
    let refused : Prop := Answers (.registerWrite (.hart n) a v) s fun t => t.busError = true ∧
      t.without settledPart = ({ s with busError := true } : State).without settledPart
    (a % 4 ≠ 0 → refused) ∧
    (blockAt a = none → refused) ∧
    (blockAt a = some .sys → (s.hart n).sup = false → refused) ∧
    (∀ b f, blockAt a = some b → b.owner = some f → s.f f < 4 → s.f f ≠ n → refused) ∧
    (∀ b r i, blockAt a = some b → b ≠ .sys → b ≠ .sfy → rgAt a = some (r, i) → guestRegister r i = true →
      s.b Fl.LPE_TAKE_ACTIVE = false → refused) ∧
    (a % 4 = 0 → blockAt a = some .sfy → Answers (.registerWrite (.hart n) a v) s fun t => t.busError = true) ∧
    (∀ b f r i, a % 4 = 0 → blockAt a = some b → b.owner = some f → 4 ≤ s.f f → b ≠ .lpe → s.returnBlocks a = false →
      rgAt a = some (r, i) → (guestRegister r i = true → s.b Fl.LPE_TAKE_ACTIVE = true) → i < r.count → isLow a = false → isHigh a = false → b.hook r i v { s with busError := false } = none →
      Effect (.registerWrite (.hart n) a v) s fun u => u.busError = false ∧
        ∀ j, j < 32 → (u.reg r i).getLsbD j = if r.rw.getLsbD j then v.getLsbD j
          else (s.reg r i).getLsbD j && !(r.w1c.getLsbD j && v.getLsbD j)) ∧
    ∀ ini r i, ini ∈ [Initiator.s0, .s1] → s.sfy.running = true → a % 4 = 0 → rgAt a = some (r, i) → i < r.count →
      r ∈ [R.SFY_ZONE0, R.SFY_PCO, R.SFY_PFB, R.SFY_PIMD, R.SFY_PTMP, R.SFY_PTIM, R.SFY_TGT0, R.SFY_TGT1, R.SFY_TGT2,
        R.SFY_LIMA, R.SFY_LIMB, R.SFY_LIMC, R.SFY_FBCFG] → blockAt a = some .sfy →
      Effect (.registerWrite ini a v) s fun u => u.busError = false ∧
        ∀ j, j < 32 → (u.reg r i).getLsbD j = if r.rw.getLsbD j then v.getLsbD j else (s.reg r i).getLsbD j

/-- R13: 64-bit quantities. -/
def Obligations.Quantities : Prop :=
  ∀ (n a : Nat) (v : Word) (s : State), isLow a = true → a % 4 = 0 → (blockAt a).isSome = true →
    (blockAt (a + 4)).isSome = true → isLow (a + 4) = false →
    let ini : Initiator := .hart n
    (Answers (.readLowWord ini a) s fun t => t.readData = s.wordAt ini a ∧ t.busError = false ∧
      latchFind t.latches ini a = some (s.wordAt ini (a + 4))) ∧
    (∀ w, latchFind s.latches ini a = some w →
      Answers (.readHighWord ini (a + 4)) s fun t => t.readData = w ∧ latchFind t.latches ini a = none) ∧
    (latchFind s.latches ini a = none →
      Answers (.readHighWord ini (a + 4)) s fun t => t.readData = s.wordAt ini (a + 4) ∧ t.latches = s.latches) ∧
    (∀ b, blockAt a = some b → b ≠ .sys → b ≠ .sfy → s.writeForbidden ini b a = false → ¬(0x40048000 ≤ a ∧ a < 0x40080000) →
      Answers (.writeLowWord ini a v) s fun t => latchFind t.holds ini a = some v ∧
        (∀ l, l ≠ a → latchFind t.holds ini l = none) ∧
        ∀ r i, settledPart.regs r.addr = false → r.count ≤ 65536 → t.reg r i = s.reg r i) ∧
    ∀ rl rh k i b, (rl, rh, k) ∈ [(R.MTR_BNDL, R.MTR_BNDH, 1), (R.TIM_CALSETL, R.TIM_CALSETH, 1),
        (R.EST_PACKIDL, R.EST_PACKIDH, 9)] → i < k → a = rl.addrAt i → blockAt (a + 4) = some b →
      s.writeForbidden ini b (a + 4) = false →
      (∀ low, latchFind s.holds ini a = some low → Answers (.writeHighWord ini (a + 4) v) s fun t =>
        t.reg rl i = low ∧ t.reg rh i = v ∧ latchFind t.holds ini a = none) ∧
      (latchFind s.holds ini a = none → Answers (.writeHighWord ini (a + 4) v) s fun t =>
        t.reg rl i = s.reg rl i ∧ t.reg rh i = v)

/-- R89, R90, R92, R94: hart control. -/
def Obligations.HartControl : Prop :=
  (∀ (h : Hart) (s : State),
    let x := s.hart h.val
    let started (y : HartCtx) : Prop := y.run = .running ∧ y.pc = s.reg R.SYS_HARTENTRY h.val &&& 0xFFFFFFFC ∧
      y.mode = 1 ∧ (∀ r : RegNum, y.r r = 0) ∧ y.clocks = 0 ∧ y.done = 0 ∧ y.localStore = x.localStore ∧
      y.trapBase = x.trapBase ∧ ∀ k : Fin 8, y.rgnAttr[k].getLsbD 31 = false
    (s.mayStart h.val = true → x.run = .halted → Answers (.hartStart h.val) s fun t => started (t.hart h.val)) ∧
    (s.mayStart h.val = true → x.run = .halting →
      Answers (.hartStart h.val) s fun t => t.hart h.val = { x with run := .startPending }) ∧
    (x.run = .running → Answers (.hartHalt h.val) s fun t => t.hart h.val = { x with run := .halting }) ∧
    (x.run = .halting → Answers (.haltComplete h.val) s fun t => (t.hart h.val).run = .halted) ∧
    (x.run = .startPending → Answers (.haltComplete h.val) s fun t => started (t.hart h.val)) ∧
    (x.inbox.length < 16 → ∀ (w : Hart) v,
      Answers (.mailboxWrite w h.val v) s fun t => (t.hart h.val).inbox = x.inbox ++ [v]) ∧
    (16 ≤ x.inbox.length → ∀ (w : Hart) v, Answers (.mailboxWrite w h.val v) s fun t =>
      (t.hart h.val).inbox = x.inbox ∧ bitOf (t.hart w.val).mboxOvf h.val = true) ∧
    (∀ v l, x.inbox = v :: l → Answers (.mailboxRead h) s fun t => t.readData = v ∧ (t.hart h.val).inbox = l) ∧
    (x.inbox = [] → Answers (.mailboxRead h) s fun t => t.readData = 0 ∧ (t.hart h.val).mboxUnder = true) ∧
    Answers (.hartIcinv h.val) s fun t => t.without settledPart = s.without settledPart) ∧
  ∀ s : State, Answers .ownerLock s fun t => t.f Fl.SYS_OWNERLOCK_LOCK = 1

/-- R580, R581, R595: clearing events, and the quad SPI port. -/
def Obligations.EventsAndQspi : Prop :=
  ∀ (s : State),
    (∀ n j (mask : Word), j < 4 → s.mayWrite Fl.SYS_OWNER0_EVT (.hart n) = true → s.returnBlocks (R.EVT_PEND.addrAt j) = false →
      Effect (.eventClear (.hart n) j mask) s fun u => ∀ i, i < 32 →
        bitOf (u.f Fl.EVT_PEND_PEND j) i = (bitOf (s.f Fl.EVT_PEND_PEND j) i &&
          (!mask.getLsbD i || s.heldSource (32 * j + i)))) ∧
    (∀ (a : BitVec 24) (l : List Byte), s.sys.hsel ≠ 0 → s.hostReady = true → 0x800000 ≤ a.toNat →
      a.toNat - 0x800000 + l.length ≤ s.windowSize →
      s.readOnly (s.windowBase + (a.toNat - 0x800000)) l.length = false →
      Answers (.qspiWrite a l) s fun t =>
        (∀ i (h : i < l.length), t.byte (s.windowBase + (a.toNat - 0x800000) + i) = l[i]) ∧
        ∀ b, b < s.windowBase + (a.toNat - 0x800000) ∨ s.windowBase + (a.toNat - 0x800000) + l.length ≤ b →
          t.byte b = s.byte b) ∧
    ∀ (a : BitVec 24) (n : Nat), s.sys.hsel ≠ 0 → s.hostReady = true → 0x800000 ≤ a.toNat →
      Effect (.qspiRead a n) s fun u => u.host.qspiOut = (List.range n).map fun i =>
        if a.toNat - 0x800000 + i < s.windowSize then s.byte (s.windowBase + (a.toNat - 0x800000) + i) else 0

/-! ### Clocks, supplies, power states, resets, boot (spec/02) -/

/-- R30, R33, R37, R44: the supply commands. -/
def Obligations.SupplyMonitor : Prop :=
  ∀ (mv bootsel hsel : Nat) (s : State),
    Answers (.vinBelowHold mv) s (fun t => t.f Fl.SYS_SUPSTAT_ABOVE_HOLD = 0 ∧
      t.f Fl.SYS_SUPSTAT_VIN_MV = min mv 65535) ∧
    Answers (.vinAboveHold mv) s (fun t => t.f Fl.SYS_SUPSTAT_ABOVE_HOLD = 1 ∧
      t.f Fl.SYS_SUPSTAT_VIN_MV = min mv 65535) ∧
    Answers (.vinBelowWarn mv) s (fun t => t.f Fl.SYS_SUPSTAT_ABOVE_WARN = 0) ∧
    (s.sys.phase ≠ .off → s.f Fl.SYS_PWRSTAT_STATE < 3 → s.sys.saveStep = 0 → s.sys.saveEnd = false →
      Effect (.vinBelowWarn mv) s (fun u => u.sys.saveStep = 1 ∧ u.f Fl.SYS_SAVESTAT_SRC = 1 ∧
        u.f Fl.SYS_SAVESTAT_ACTIVE = 1 ∧ Raised u 1) ∧
      (s.f Fl.SYS_SAVECFG_UPS_EN = 1 → Effect .pfwAsserted s fun u => u.sys.saveStep = 1 ∧
        u.f Fl.SYS_SAVESTAT_SRC = 2 ∧ u.f Fl.SYS_SAVESTAT_ACTIVE = 1 ∧ Raised u 1)) ∧
    Answers (.vinAboveWarn mv) s (fun t => t.f Fl.SYS_SUPSTAT_ABOVE_WARN = 1) ∧
    (s.sys.vinOk = false → Effect (.vinAboveWarn mv) s fun u => Raised u 6) ∧
    Answers .pfwAsserted s (fun t => t.f Fl.SYS_SUPSTAT_PFW = 1) ∧
    Answers .pfwReleased s (fun t => t.f Fl.SYS_SUPSTAT_PFW = 0) ∧
    (s.sys.phase ≠ .off → s.f Fl.SYS_PWRSTAT_STATE ≠ 3 → s.sys.saveEnd = false → s.sys.saveStep < 3 →
      Effect (.vinBrownOut mv) s fun u => u.sys.phase = .off) ∧
    (s.sys.phase ≠ .off → s.f Fl.SYS_PWRSTAT_STATE = 3 → s.f Fl.SYS_SUPSTAT_HP_OK = 1 →
      s.f Fl.SYS_PWRSTAT_FURL_ARMED = 0 → Effect (.vinBrownOut mv) s fun u =>
        u.sys.phase = s.sys.phase ∧ u.sys.onHp = true ∧ u.f Fl.SYS_SUPSTAT_ABOVE_HOLD = 0) ∧
    (s.sys.phase = .off → s.sys.rstLow = false → s.sys.refWait = false →
      Effect (.vinAboveStart mv bootsel hsel) s fun u => u.sys.phase = .booting ∧ u.sys.bootKind = .cold ∧
        u.sys.bootsel = bootsel % 4 ∧ u.sys.hsel = hsel % 2) ∧
    (s.f Fl.SYS_PWRSTAT_STATE ≠ 3 → Answers .hpRemoved s fun t => t.f Fl.SYS_SUPSTAT_HP_OK = 0)

/-- R34, R37, R638: the save sequence. -/
def Obligations.SaveSequence : Prop :=
  ∀ (s : State),
    (∀ n, s.sys.saveStep = n → 1 ≤ n → n ≤ 7 → Effect .saveStepComplete s fun u => u.sys.saveStep = n + 1) ∧
    (s.sys.saveStep = 8 → s.f Fl.SYS_SUPSTAT_ABOVE_WARN = 1 → Effect .saveStepComplete s fun u =>
      u.sys.saveStep = 0 ∧ u.sys.saveEnd = true ∧ u.f Fl.SYS_SAVESTAT_ACTIVE = 0 ∧ u.f Fl.SYS_SAVESTAT_LASTSTEP = 8) ∧
    (s.sys.saveStep = 8 → s.f Fl.SYS_SUPSTAT_ABOVE_WARN = 0 → s.f Fl.SYS_SUPSTAT_HP_OK = 1 →
      Effect .saveStepComplete s fun u => u.sys.saveStep = 0 ∧ u.f Fl.SYS_PWRSTAT_STATE = 3 ∧ u.sys.onHp = true) ∧
    (s.sys.phase ≠ .off → s.f Fl.SYS_PWRSTAT_STATE ≠ 3 → s.sys.saveStep ≠ 0 →
      Effect .softwareWarmReset s fun u => u.sys.phase = s.sys.phase ∧ u.sys.saveStep = s.sys.saveStep ∧
        bitOf u.sys.heldCauses 5 = true ∧ u.f Fl.SYS_RSTCAUSE_SWWARM = 1) ∧
    (s.sys.saveEnd = true → s.f Fl.SYS_SUPSTAT_ABOVE_WARN = 1 → s.f Fl.SYS_SAVESTAT_SRC ≠ 4 →
      bitOf s.sys.heldCauses 2 = false → s.sys.rstLow = false → s.sys.refWait = false →
      Effect .saveEndRelease s fun u => u.sys.saveEnd = false ∧ u.sys.phase = .booting ∧
        u.f Fl.SYS_RSTCAUSE_SAVE = 1)

/-- R38 to R42: the power ladder. -/
def Obligations.PowerLadder : Prop :=
  ∀ (s : State),
    let enters (c : Instr) (t : Nat) : Prop :=
      (s.entryRefusal t = 0 → Effect c s fun u => u.f Fl.SYS_PWRSTAT_BUSY = 1 ∧ u.f Fl.SYS_PWRCTL_REQ = t ∧
        u.sys.target = some t ∧ u.sys.committed = false) ∧
      (s.entryRefusal t ≠ 0 → Effect c s fun u => u.f Fl.SYS_PWRSTAT_REFUSE = s.entryRefusal t ∧
        u.f Fl.SYS_PWRCTL_REQ = 0 ∧ u.sys.target = none ∧ Raised u 4)
    let leaves (u : State) : Prop :=
      u.f Fl.SYS_PWRSTAT_BUSY = 1 ∧ u.f Fl.SYS_PWRCTL_REQ = 0 ∧ u.sys.target = some 0 ∧ u.sys.committed = true
    (Steady s → s.f Fl.SYS_PWRSTAT_STATE = 0 →
      enters .requestLuff 1 ∧ enters .requestSlack 2 ∧ enters .requestStow 3) ∧
    (Steady s → (s.f Fl.SYS_PWRSTAT_STATE = 1 ∨ s.f Fl.SYS_PWRSTAT_STATE = 2) → Effect .requestRun s leaves) ∧
    (Steady s → s.f Fl.SYS_PWRSTAT_STATE = 0 →
      Effect .requestRun s fun u => u.f Fl.SYS_PWRCTL_REQ = 0 ∧ u.sys.target = none) ∧
    (∀ t, s.sys.phase = .running → s.sys.saveStep = 0 → s.sys.saveEnd = false → s.sys.target = some t → t ≠ 0 →
      s.sys.committed = false → Effect .requestRun s fun u => u.sys.target = none ∧ u.f Fl.SYS_PWRSTAT_BUSY = 0) ∧
    (s.sys.target = some 1 → s.sys.committed = false → Effect .commitPoint s fun u => u.sys.committed = true) ∧
    (s.sys.target = some 1 → s.sys.committed = true → s.sys.wakePend = 0 →
      s.f Fl.SYS_PWRSTAT_STATE = 0 → Effect .powerTransitionComplete s fun u => u.f Fl.SYS_PWRSTAT_STATE = 1 ∧
        u.f Fl.SYS_PWRSTAT_PREV = 0 ∧ u.f Fl.SYS_PWRSTAT_BUSY = 0 ∧ u.sys.target = none ∧ Raised u 0) ∧
    ((s.f Fl.SYS_PWRSTAT_STATE ≠ 3 → Effect .furlArm s fun u => u.f Fl.SYS_PWRSTAT_FURL_ARMED = 1) ∧
      Effect .furlDisarm s fun u => u.f Fl.SYS_PWRSTAT_FURL_ARMED = 0) ∧
    (bitOf (s.f Fl.SYS_WAKEEN_SRC) 5 = true → s.sys.target = none → 1 ≤ s.f Fl.SYS_PWRSTAT_STATE →
      s.f Fl.SYS_PWRSTAT_STATE ≤ 3 →
      Effect .wakeNAsserted s fun u => leaves u ∧ bitOf (u.f Fl.SYS_WAKESRC_SRC) 5 = true) ∧
    (bitOf (s.f Fl.SYS_WAKEEN_SRC) 5 = true → ∀ t, s.sys.target = some t → 1 ≤ t → t ≤ 3 → s.sys.committed = true →
      Effect .wakeNAsserted s fun u => u.f Fl.SYS_PWRSTAT_WAKE_PEND = 1 ∧ bitOf u.sys.wakePend 5 = true) ∧
    ∀ (p : Nat) (mA : Int), p < 24 → s.f Fl.SYS_PWRSTAT_STATE = 2 → s.sys.target = none →
      bitOf (s.f Fl.SYS_WAKEEN_SRC) 1 = true → 1000 ≤ mA.natAbs →
      Effect (.startCurrentDetected p mA) s fun u => leaves u ∧ bitOf (u.f Fl.SYS_WAKESRC_SRC) 1 = true

/-- R27 to R29, R44 to R46: resets, clock check and watchdog. -/
def Obligations.Resets : Prop :=
  ∀ (s : State),
    let warm (c : Instr) (cause : Fld) : Prop := Effect c s fun u =>
      u.f cause = 1 ∧ u.sys.saveStep = 0 ∧ (u.sys.phase = .booting ∨ u.sys.phase = .held)
    (ResetsAct s →
      (warm .referenceLost Fl.SYS_RSTCAUSE_REFLOSS ∧
        Effect .referenceLost s fun u => u.f Fl.SYS_CLKSTAT_REFLOST = 1 ∧ u.sys.phase = .held ∧ u.sys.refWait = true) ∧
      (warm .pllLockLost Fl.SYS_RSTCAUSE_PLLLOCK ∧
        Effect .pllLockLost s fun u => u.f Fl.SYS_CLKSTAT_REFLOST = 1 ∧ u.sys.phase = .held) ∧
      (warm .pinWarmReset Fl.SYS_RSTCAUSE_PINWARM ∧
        Effect .pinWarmReset s fun u => u.sys.phase = .held ∧ u.sys.rstLow = true) ∧
      warm .softwareWarmReset Fl.SYS_RSTCAUSE_SWWARM ∧
      (s.f Fl.SYS_WDTCTL_EN = 1 → ∀ k : Byte, k ≠ 0x5A → warm (.watchdogBadKey k) Fl.SYS_RSTCAUSE_WDT) ∧
      (s.f Fl.SYS_WDTCTL_EN = 1 → s.sys.phase = .running → warm .watchdogExpiry Fl.SYS_RSTCAUSE_WDT) ∧
      (s.sys.phase ≠ .held → Effect .softwareColdReset s fun u => u.sys.coldWait = true)) ∧
    (s.sys.phase = .held → s.sys.rstLow = false → Effect .referenceQualified s fun u =>
      u.sys.phase = .booting ∧ u.sys.refWait = false) ∧
    (s.sys.phase ≠ .off → s.sys.rstLow = true → Effect .pinColdReset s fun u =>
      u.reg R.SYS_RSTCAUSE = 2 ∧ u.sys.bootKind = .cold ∧ u.sys.phase = .held) ∧
    (∀ bootsel hsel, s.sys.phase = .held → s.sys.refWait = false →
      Effect (.rstNRelease bootsel hsel) s fun u => u.sys.phase = .booting ∧ u.sys.rstLow = false) ∧
    (∀ bootsel hsel, s.sys.coldWait = true → s.sys.rstLow = false → s.sys.refWait = false →
      Effect (.coldResetAssert true bootsel hsel) s fun u => u.reg R.SYS_RSTCAUSE = 4 ∧ u.sys.phase = .booting ∧
        u.sys.bootKind = .cold ∧ u.sys.bootsel = bootsel % 4) ∧
    (s.f Fl.SYS_WDTCTL_EN = 0 → ∀ n, Answers (.watchdogEnable n) s fun t => t.f Fl.SYS_WDTCTL_EN = 1 ∧
      t.f Fl.SYS_WDTCTL_TIMEOUT = max 1 (min 1000 n)) ∧
    (s.f Fl.SYS_WDTCTL_EN = 1 → Effect .watchdogKick s (fun u => u.sys.wdtHalf = false ∧ u.sys.phase = s.sys.phase) ∧
      (s.sys.phase = .running → s.sys.wdtHalf = false →
        Effect .watchdogHalf s fun u => u.sys.wdtHalf = true ∧ Raised u 5)) ∧
    (∀ m n, s.sys.phase ≠ .off → s.f Fl.SYS_PWRSTAT_STATE ≠ 3 →
      Effect (.clockCheckWindow m n) s fun u =>
        u.sys.clockWindow = some (decide (20 * (max m n - min m n) ≤ n)) ∧
        (s.sys.clockWindow ≠ some false → n < 20 * (max m n - min m n) → u.f Fl.SYS_CLKSTAT_CCHK = 1 ∧ Raised u 2)) ∧
    (s.ringState = rSplicing → s.f Fl.RNG_SPL_STEP = 2 →
      Effect .spliceReset s fun u => u.sys.phase = .booting ∨ u.sys.phase = .held)

/-- R43, R49 to R54, R313: boots, confirmation and the exit from Stow. -/
def Obligations.Boots : Prop :=
  ∀ (s : State),
    let cold : Prop := s.sys.phase = .booting ∧ s.sys.bootKind = .cold ∧ s.sys.saveStep = 0 ∧ s.sys.saveEnd = false
    (cold → s.sys.mainStep = 0 →
      Effect (.bootStepEnd .main) s fun u => u.sys.mainStep = 1 ∧ u.f Fl.SYS_CLKSTAT_LOCK = 1 ∧ u.f Fl.SYS_CLKSTAT_BACKUP = 0) ∧
    (cold → s.sys.mainStep = 1 → Effect (.bootStepEnd .main) s fun u => u.sys.mainStep = 2 ∧
      (u.sys.nvPause = true ↔ s.f Fl.THM_JSTAT_NVOK = 0) ∧
      ∀ a, 0x20000000 ≤ a → a < 0x21800000 → u.byte a = 0) ∧
    (cold → s.sys.shroudStep = 0 → Effect (.bootStepEnd .shroud) s fun u => u.sys.shroudStep = 1) ∧
    (cold → Effect (.bootStepEnd .analog) s fun u => u.sys.analogStep = 1) ∧
    (s.sys.phase = .booting → s.sys.nvPause = true → s.f Fl.THM_JSTAT_NVOK = 1 →
      Effect .bootNvokResume s fun u => u.sys.nvPause = false) ∧
    (cold → s.sys.mainStep = 5 → s.sys.shroudStep = 2 → s.sys.analogStep = 1 →
      Effect .bootJoin s fun u => u.sys.phase = .running ∧ u.f Fl.SYS_PWRSTAT_IMGRDY = 1 ∧
        u.f Fl.SYS_PWRSTAT_SFYRDY = 1 ∧ u.f Fl.SYS_PWRSTAT_ANARDY = 1 ∧ (u.hart 0).run = .running ∧
        (u.hart 0).mode = 1) ∧
    (∀ k, s.images.slot = some k → s.f Fl.SYS_BOOTSTAT_SOURCE = 0 → (s.imgSlot k).state = .trial → s.nvOk = true →
      Effect .confirmSlot s fun u => (u.imgSlot k).state = .confirmed ∧ u.f Fl.SYS_BOOTCFG_CONFIRMED = 1) ∧
    (∀ r, s.f Fl.SYS_PWRSTAT_STATE = 3 → s.sys.target = some 0 → s.sys.resumeStarted = false →
      s.images.resume = some r → Config.shake256 (s.bytes r.start r.len) 32 = r.hash →
      Effect .stowHandlerStart s fun u => u.sys.resumeStarted = true ∧ (u.hart 0).run = .running ∧
        (u.hart 0).pc = BitVec.ofNat 32 r.sram) ∧
    (s.sys.resumeStarted = true → s.f Fl.SYS_PWRSTAT_IMGRDY = 0 → s.f Fl.STO_STAT_STATE = 2 → s.images.slot = none →
      Effect .stowImageReady s fun u => u.sys.bootKind = .cold ∧ u.sys.resumeStarted = false) ∧
    (s.sys.resumeStarted = true → s.f Fl.SYS_PWRSTAT_IMGRDY = 1 → s.f Fl.SYS_PWRSTAT_SFYRDY = 0 →
      Effect .stowShroudReady s fun u => u.f Fl.SYS_PWRSTAT_SFYRDY = 1 ∧ u.sfy.running = true) ∧
    (s.sys.resumeStarted = true → s.f Fl.SYS_PWRSTAT_ANARDY = 0 →
      Effect .stowAnalogReady s fun u => u.f Fl.SYS_PWRSTAT_ANARDY = 1) ∧
    (∀ k o, s.op k = some o → o.op = 0x8F → o.ended = false →
      (s.f Fl.HST_STAT_BOOTROM = 0 → Effect (.hostBoot k) s fun u => ∃ p, u.op k = some p ∧ p.ended = true ∧ p.status = 4) ∧
      (s.f Fl.HST_STAT_BOOTROM = 1 → s.reachable { o with flags := 0 } 0 o.len = true → o.len ≠ 0 →
        s.sys.bootsel ≠ 3 → s.sys.phase ≠ .bootHold →
        Effect (.hostBoot k) s fun u => ∃ p, u.op k = some p ∧ p.ended = true ∧
          if s.bootRefusal (s.bytes s.windowBase o.len) = 0 then p.status = 0 ∧ u.sys.phase = .booting ∧
            u.sys.mainStep = 4 ∧ u.sys.fetched = s.bytes s.windowBase o.len ∧ u.f Fl.SYS_BOOTSTAT_HOLD = 0
          else p.status = 4 ∧ Raised u 7))

/-! ### Policy harts (spec/03) -/

/-- R67: the operate instructions. -/
def Obligations.HartOperate : Prop :=
  ∀ (h : Hart) (rd a b : RegNum) (s : State), Executes h s →
    let x := s.hart h.val
    let p := x.r a
    let q := x.r b
    Completes (.add h rd a b) h s (wrote x rd (p + q)) ∧
    Completes (.sub h rd a b) h s (wrote x rd (p - q)) ∧
    Completes (.and h rd a b) h s (wrote x rd (p &&& q)) ∧
    Completes (.or h rd a b) h s (wrote x rd (p ||| q)) ∧
    Completes (.xor h rd a b) h s (wrote x rd (p ^^^ q)) ∧
    Completes (.sll h rd a b) h s (wrote x rd (p <<< (q.toNat % 32))) ∧
    Completes (.srl h rd a b) h s (wrote x rd (p >>> (q.toNat % 32))) ∧
    Completes (.sra h rd a b) h s (wrote x rd (p.sshiftRight (q.toNat % 32))) ∧
    Completes (.slt h rd a b) h s (wrote x rd (if p.toInt < q.toInt then 1 else 0)) ∧
    Completes (.sltu h rd a b) h s (wrote x rd (if p.toNat < q.toNat then 1 else 0)) ∧
    Completes (.min h rd a b) h s (wrote x rd (if p.toInt ≤ q.toInt then p else q)) ∧
    Completes (.max h rd a b) h s (wrote x rd (if p.toInt ≤ q.toInt then q else p)) ∧
    Completes (.minu h rd a b) h s (wrote x rd (if p.toNat ≤ q.toNat then p else q)) ∧
    Completes (.maxu h rd a b) h s (wrote x rd (if p.toNat ≤ q.toNat then q else p)) ∧
    Completes (.adds h rd a b) h s
      (wrote x rd (BitVec.ofInt 32 (max (-2 ^ 31) (min (2 ^ 31 - 1) (p.toInt + q.toInt))))) ∧
    Completes (.subs h rd a b) h s
      (wrote x rd (BitVec.ofInt 32 (max (-2 ^ 31) (min (2 ^ 31 - 1) (p.toInt - q.toInt))))) ∧
    Completes (.mul h rd a b) h s (wrote x rd (p * q)) ∧
    Completes (.mulh h rd a b) h s (wrote x rd (BitVec.ofInt 32 (p.toInt * q.toInt / 2 ^ 32))) ∧
    Completes (.mulhu h rd a b) h s (wrote x rd (BitVec.ofNat 32 (p.toNat * q.toNat / 2 ^ 32))) ∧
    Completes (.clz h rd a) h s (wrote x rd (BitVec.ofNat 32 (32 - if p = 0 then 0 else Nat.log2 p.toNat + 1))) ∧
    Completes (.popc h rd a) h s
      (wrote x rd (BitVec.ofNat 32 ((List.range 32).countP fun i => p.getLsbD i)))

/-- R70: integer division completes on all operands, and its corner results. -/
def Obligations.HartDivision : Prop :=
  ∀ (h : Hart) (rd a b : RegNum) (s : State), Executes h s →
    let x := s.hart h.val
    let p := x.r a
    let q := x.r b
    Completes (.div h rd a b) h s (wrote x rd
      (if q = 0 then 0xFFFFFFFF else if p = 0x80000000 ∧ q = 0xFFFFFFFF then 0x80000000
        else BitVec.ofInt 32 (p.toInt.tdiv q.toInt))) ∧
    Completes (.divu h rd a b) h s (wrote x rd
      (if q = 0 then 0xFFFFFFFF else BitVec.ofNat 32 (p.toNat / q.toNat))) ∧
    Completes (.rem h rd a b) h s (wrote x rd
      (if q = 0 then p else if p = 0x80000000 ∧ q = 0xFFFFFFFF then 0
        else BitVec.ofInt 32 (p.toInt.tmod q.toInt))) ∧
    Completes (.remu h rd a b) h s (wrote x rd (if q = 0 then p else BitVec.ofNat 32 (p.toNat % q.toNat)))

/-- R68: the pair instructions. -/
def Obligations.HartPairs : Prop :=
  ∀ (h : Hart) (rd a b : RegNum) (s : State), Executes h s →
    let x := s.hart h.val
    let pair (n : RegNum) : DWord := if n = 0 then 0 else x.r (n + 1) ++ x.r n
    let signed (w : Word) : DWord := w.signExtend 64
    let wide (w : Word) : DWord := w.zeroExtend 64
    (rd.getLsbD 0 = false → a.getLsbD 0 = false → b.getLsbD 0 = false →
      Completes (.addd h rd a b) h s (wrotePair x rd (pair a + pair b)) ∧
      Completes (.subd h rd a b) h s (wrotePair x rd (pair a - pair b))) ∧
    (rd.getLsbD 0 = false → a.getLsbD 0 = false →
      Completes (.slld h rd a b) h s (wrotePair x rd (pair a <<< ((x.r b).toNat % 64))) ∧
      Completes (.srld h rd a b) h s (wrotePair x rd (pair a >>> ((x.r b).toNat % 64))) ∧
      Completes (.srad h rd a b) h s (wrotePair x rd ((pair a).sshiftRight ((x.r b).toNat % 64)))) ∧
    (a.getLsbD 0 = false → b.getLsbD 0 = false →
      Completes (.sltd h rd a b) h s (wrote x rd (if (pair a).toInt < (pair b).toInt then 1 else 0)) ∧
      Completes (.sltdu h rd a b) h s (wrote x rd (if (pair a).toNat < (pair b).toNat then 1 else 0))) ∧
    (rd.getLsbD 0 = false →
      Completes (.mulw h rd a b) h s (wrotePair x rd (signed (x.r a) * signed (x.r b))) ∧
      Completes (.mulwu h rd a b) h s (wrotePair x rd (wide (x.r a) * wide (x.r b))) ∧
      Completes (.macw h rd a b) h s (wrotePair x rd (pair rd + signed (x.r a) * signed (x.r b))) ∧
      Completes (.sextd h rd a) h s (wrotePair x rd (signed (x.r a))))

/-- R64, R66: the immediate instructions. -/
def Obligations.HartImmediates : Prop :=
  ∀ (h : Hart) (rd a : RegNum) (imm : BitVec 16) (s : State), Executes h s →
    let x := s.hart h.val
    let p := x.r a
    Completes (.addi h rd a imm) h s (wrote x rd (p + imm.signExtend 32)) ∧
    Completes (.slti h rd a imm) h s (wrote x rd (if p.toInt < imm.toInt then 1 else 0)) ∧
    Completes (.sltiu h rd a imm) h s (wrote x rd (if p.toNat < (imm.signExtend 32).toNat then 1 else 0)) ∧
    Completes (.andi h rd a imm) h s (wrote x rd (p &&& imm.zeroExtend 32)) ∧
    Completes (.ori h rd a imm) h s (wrote x rd (p ||| imm.zeroExtend 32)) ∧
    Completes (.xori h rd a imm) h s (wrote x rd (p ^^^ imm.zeroExtend 32)) ∧
    Completes (.lui h rd imm) h s (wrote x rd (BitVec.ofNat 32 (imm.toNat * 65536))) ∧
    Completes (.addpc h rd imm) h s (wrote x rd (x.pc + BitVec.ofNat 32 (imm.toNat * 65536))) ∧
    (imm.toNat < 32 →
      Completes (.slli h rd a imm) h s (wrote x rd (p <<< imm.toNat)) ∧
      Completes (.srli h rd a imm) h s (wrote x rd (p >>> imm.toNat)) ∧
      Completes (.srai h rd a imm) h s (wrote x rd (p.sshiftRight imm.toNat)))

/-- R66, R77, R78: loads. -/
def Obligations.HartLoads : Prop :=
  ∀ (h : Hart) (rd rs1 : RegNum) (imm : BitVec 16) (s : State), Executes h s →
    let x := s.hart h.val
    let a := (x.r rs1 + imm.signExtend 32)
    (∀ l, Loads s h a.toNat 1 l →
      Completes (.lb h rd rs1 imm) h s (wrote x rd ((BitVec.ofNat 8 (leNat l)).signExtend 32)) ∧
      Completes (.lbu h rd rs1 imm) h s (wrote x rd (BitVec.ofNat 32 (leNat l)))) ∧
    (∀ l, Loads s h a.toNat 2 l →
      Completes (.lh h rd rs1 imm) h s (wrote x rd ((BitVec.ofNat 16 (leNat l)).signExtend 32)) ∧
      Completes (.lhu h rd rs1 imm) h s (wrote x rd (BitVec.ofNat 32 (leNat l)))) ∧
    (∀ l, Loads s h a.toNat 4 l → Completes (.lw h rd rs1 imm) h s (wrote x rd (BitVec.ofNat 32 (leNat l)))) ∧
    (∀ l, Loads s h a.toNat 8 l → rd.getLsbD 0 = false →
      Completes (.ld h rd rs1 imm) h s (wrotePair x rd (BitVec.ofNat 64 (leNat l)))) ∧
    (a.toNat % 4 = 0 → x.allows a.toNat 8 = true → areaOf a.toNat = .block →
      (busRead (.hart h.val) a.toNat (setPc h.val (x.pc + 4) s)).busError = false →
      Answers (.lw h rd rs1 imm) s fun t => rd ≠ 0 →
        (t.hart h.val).r rd = (busRead (.hart h.val) a.toNat (setPc h.val (x.pc + 4) s)).readData)

/-- R66, R77, R78: stores. -/
def Obligations.HartStores : Prop :=
  ∀ (h : Hart) (rs2 rs1 : RegNum) (imm : BitVec 16) (s : State), Executes h s →
    let x := s.hart h.val
    let a := (x.r rs1 + imm.signExtend 32).toNat
    let next : HartCtx := { x with pc := x.pc + 4, done := x.done + 1 }
    let stored (c : Instr) (len v : Nat) : Prop := Answers c s fun t =>
      t.hart h.val = next ∧ (∀ i, i < len → t.byte (a + i) = byteOf v i) ∧
        ∀ b, b < a ∨ a + len ≤ b → t.byte b = s.byte b
    let kept (c : Instr) (len v : Nat) : Prop := Answers c s fun t =>
      t.hart h.val = { next with localStore := (x.setLocal (a - 0x30000000) (leBytes len v)).localStore } ∧
        ∀ b, t.byte b = s.byte b
    (StoresToMemory s h a 1 → stored (.sb h rs2 rs1 imm) 1 (x.r rs2).toNat) ∧
    (StoresToMemory s h a 2 → stored (.sh h rs2 rs1 imm) 2 (x.r rs2).toNat) ∧
    (StoresToMemory s h a 4 → stored (.sw h rs2 rs1 imm) 4 (x.r rs2).toNat) ∧
    (StoresToMemory s h a 8 → rs2.getLsbD 0 = false → stored (.sd h rs2 rs1 imm) 8 (x.pair rs2).toNat) ∧
    (areaOf a = .localStore → x.allows a 9 = true → (x.sup = true ∨ a < 0x30003FC0) →
      kept (.sb h rs2 rs1 imm) 1 (x.r rs2).toNat ∧
      (a % 2 = 0 → kept (.sh h rs2 rs1 imm) 2 (x.r rs2).toNat) ∧
      (a % 4 = 0 → kept (.sw h rs2 rs1 imm) 4 (x.r rs2).toNat) ∧
      (a % 8 = 0 → rs2.getLsbD 0 = false → kept (.sd h rs2 rs1 imm) 8 (x.pair rs2).toNat))

/-- R64, R66: branches and calls. -/
def Obligations.HartBranches : Prop :=
  ∀ (h : Hart) (a b rd : RegNum) (off : BitVec 16) (off21 : BitVec 21) (s : State), Executes h s →
    let x := s.hart h.val
    let p := x.r a
    let q := x.r b
    let goes (c : Prop) [Decidable c] : HartCtx :=
      { x with pc := if c then x.pc + BitVec.ofInt 32 (off.toInt * 4) else x.pc + 4 }
    Completes (.beq h a b off) h s (goes (p = q)) ∧
    Completes (.bne h a b off) h s (goes (p ≠ q)) ∧
    Completes (.blt h a b off) h s (goes (p.toInt < q.toInt)) ∧
    Completes (.bge h a b off) h s (goes (q.toInt ≤ p.toInt)) ∧
    Completes (.bltu h a b off) h s (goes (p.toNat < q.toNat)) ∧
    Completes (.bgeu h a b off) h s (goes (q.toNat ≤ p.toNat)) ∧
    Completes (.call h rd off21) h s
      { x.setR rd (x.pc + 4) with pc := x.pc + BitVec.ofInt 32 (off21.toInt * 4) } ∧
    Completes (.callr h rd a off) h s
      { x.setR rd (x.pc + 4) with pc := (p + off.signExtend 32) &&& 0xFFFFFFFC }

/-- R62, R65, R73, R77, R78: what traps, and the trap taken. -/
def Obligations.HartTraps : Prop :=
  ∀ (h : Hart) (rd rs1 rs2 : RegNum) (imm : BitVec 16) (s : State), Executes h s →
    (s.hart h.val).mode.getLsbD 5 = false →
    let x := s.hart h.val
    let a := x.r rs1 + imm.signExtend 32
    let word := s.instrWord x.pc.toNat
    (rd.getLsbD 0 = true →
      Traps (.addd h rd rs1 rs2) h s 1 word ∧ Traps (.mulw h rd rs1 rs2) h s 1 word ∧
      Traps (.ld h rd rs1 imm) h s 1 word ∧ Traps (.sd h rd rs1 imm) h s 1 word) ∧
    (32 ≤ imm.toNat → Traps (.slli h rd rs1 imm) h s 1 word ∧ Traps (.srli h rd rs1 imm) h s 1 word ∧
      Traps (.srai h rd rs1 imm) h s 1 word) ∧
    (a.toNat % 4 ≠ 0 → Traps (.lw h rd rs1 imm) h s 3 a ∧ Traps (.sw h rs2 rs1 imm) h s 3 a ∧
      Traps (.lwx h rd rs1 imm) h s 3 a) ∧
    (a.toNat % 2 ≠ 0 → Traps (.lh h rd rs1 imm) h s 3 a ∧ Traps (.sh h rs2 rs1 imm) h s 3 a) ∧
    (x.sup = true → areaOf a.toNat = .unmapped →
      Traps (.lb h rd rs1 imm) h s 4 a ∧ Traps (.sb h rs2 rs1 imm) h s 5 a ∧
      (a.toNat % 4 = 0 → Traps (.lwx h rd rs1 imm) h s 4 a)) ∧
    (x.sup = false → Answers (.resume h) s fun t => ∃ d, TrapTaken x (t.hart h.val) false 7 d) ∧
    (x.sup = false → Answers (.rdcw h rd rs1 imm) s fun t => ∃ d, TrapTaken x (t.hart h.val) false 7 d) ∧
    (x.sup = false → Answers (.wrcw h rd rs1 imm) s fun t => ∃ d, TrapTaken x (t.hart h.val) false 7 d) ∧
    Traps (.svreq h rs1) h s (if x.sup then 9 else 8) (x.r rs1) ∧
    Answers (.brkpt h) s fun t => ∃ d, TrapTaken x (t.hart h.val) false 10 d

/-- R83: reservations and the accesses that use them. -/
def Obligations.HartAtomics : Prop :=
  ∀ (h : Hart) (rd rs1 rs2 : RegNum) (imm : BitVec 16) (s : State),
    let x := s.hart h.val
    let a := x.r rs1 + imm.signExtend 32
    let b := (x.r rs1).toNat
    let word (a : Nat) : Word := BitVec.ofNat 32 (leNat (s.bytes a 4))
    let written (t : State) : Prop := (∀ i, i < 4 → t.byte (b + i) = byteOf (x.r rs2).toNat i) ∧
      ∀ c, c < b ∨ b + 4 ≤ c → t.byte c = s.byte c
    let free : HartCtx := { x with reservation := none, pc := x.pc + 4, done := x.done + 1 }
    (Executes h s → a.toNat % 4 = 0 → inSram a.toNat 4 = true → x.allows a.toNat 8 = true →
      Completes (.lwx h rd rs1 imm) h s
        { wrote x rd (word a.toNat) with reservation := some (a.toNat / 32, s.tick) }) ∧
    (Executes h s → b % 4 = 0 → inSram b 4 = true → x.allows b 9 = true → s.readOnly b 4 = false →
      (∀ g k, x.reservation = some (g, k) → g = b / 32 → s.tick < k + 256 →
        Answers (.swx h rd rs1 rs2) s fun t => t.hart h.val = free.setR rd 0 ∧ written t) ∧
      ((∀ g k, x.reservation = some (g, k) → g ≠ b / 32 ∨ k + 256 ≤ s.tick) →
        Answers (.swx h rd rs1 rs2) s fun t => t.hart h.val = free.setR rd 1 ∧ ∀ c, t.byte c = s.byte c) ∧
      (x.allows b 8 = true → Answers (.swap h rd rs1 rs2) s fun t =>
        t.hart h.val = ({ x with pc := x.pc + 4, done := x.done + 1 } : HartCtx).setR rd (word b) ∧ written t) ∧
      (∀ k : Hart, k ≠ h → ∀ g c, (s.hart k.val).reservation = some (g, c) → g = b / 32 →
        Answers (.sw h rs2 rs1 0) s fun t => (t.hart k.val).reservation = none)) ∧
    Answers (.reservationTimeout h) s fun t =>
      t.hart h.val = { x with reservation := none } ∧ (∀ k, k ≠ h.val → t.hart k = s.hart k) ∧
        t.without hartPart = s.without hartPart

/-- R69, R71, R72: control words and the system instructions that complete. -/
def Obligations.HartSystem : Prop :=
  ∀ (h : Hart) (rd rs1 : RegNum) (s : State), Executes h s →
    let x := s.hart h.val
    let p := x.r rs1
    (x.sup = true →
      Completes (.rdcw h rd rs1 0x000) h s (wrote x rd x.mode) ∧
      Completes (.rdcw h rd rs1 0x001) h s (wrote x rd x.trapBase) ∧
      Completes (.rdcw h rd rs1 0x002) h s (wrote x rd (BitVec.ofNat 32 h.val)) ∧
      Completes (.rdcw h rd rs1 0x020) h s (wrote x rd x.alarm) ∧
      Completes (.rdcw h rd rs1 0x004) h s
        { wrote x rd (x.clocks.extractLsb' 0 32) with cwLatch := some (4, x.clocks.extractLsb' 32 32) } ∧
      Completes (.rdcw h rd rs1 0x006) h s
        { wrote x rd (x.done.extractLsb' 0 32) with cwLatch := some (6, x.done.extractLsb' 32 32) } ∧
      (∀ w, x.cwLatch = some (4, w) → Completes (.rdcw h rd rs1 0x005) h s { wrote x rd w with cwLatch := none }) ∧
      (∀ k : Fin 8, Completes (.rdcw h rd rs1 (0x010 + 2 * BitVec.ofNat 16 k.val)) h s (wrote x rd x.rgnBase[k]) ∧
        Completes (.rdcw h rd rs1 (0x011 + 2 * BitVec.ofNat 16 k.val)) h s (wrote x rd x.rgnAttr[k])) ∧
      Completes (.wrcw h rd rs1 0x000) h s { wrote x rd x.mode with mode := (x.mode &&& 0x20) ||| (p &&& 0x1F) } ∧
      Completes (.wrcw h rd rs1 0x001) h s { wrote x rd x.trapBase with trapBase := p &&& 0xFFFFFE00 } ∧
      Completes (.wrcw h rd rs1 0x020) h s { wrote x rd x.alarm with alarm := p } ∧
      Completes (.wrcw h rd rs1 0x002) h s (wrote x rd (BitVec.ofNat 32 h.val)) ∧
      Completes (.resume h) h s { x with mode := x.localWord 0x3FF4 &&& 0x1F, pc := x.localWord 0x3FF0 }) ∧
    (bitOf s.activeHartLines h.val = true ∨ (s.pendingIrq h.val).isSome = true →
      Completes (.waitev h) h s { x with pc := x.pc + 4 }) ∧
    (bitOf s.activeHartLines h.val = false → s.pendingIrq h.val = none →
      Answers (.waitev h) s fun t => t.hart h.val = { x with pc := x.pc + 4, wait := .event }) ∧
    (0 ≤ (s.eventTime - p).toInt ∨ (s.pendingIrq h.val).isSome = true →
      Completes (.waitt h rs1) h s { x with pc := x.pc + 4 }) ∧
    ((s.eventTime - p).toInt < 0 → s.pendingIrq h.val = none →
      Answers (.waitt h rs1) s fun t => t.hart h.val = { x with pc := x.pc + 4, wait := .time p }) ∧
    Completes (.drain h) h s { x with pc := x.pc + 4 } ∧
    Completes (.icinv h) h s { x with pc := x.pc + 4 }

/-- R71, R74: interrupts and the end of waits. -/
def Obligations.HartInterrupts : Prop :=
  ∀ (h : Hart) (s : State),
    let x := s.hart h.val
    (x.run = .running → s.hartsClocked = true →
      (x.mode.getLsbD 1 = true → x.mode.getLsbD 5 = false →
        (x.mode.getLsbD 2 = true → bitOf s.activeHartLines h.val = true →
          Answers (.interrupt h) s fun t => ∃ d, TrapTaken x (t.hart h.val) true 16 d) ∧
        ((x.mode.getLsbD 2 = false ∨ bitOf s.activeHartLines h.val = false) → x.mode.getLsbD 3 = true →
          0 ≤ (s.eventTime - x.alarm).toInt →
          Answers (.interrupt h) s fun t => ∃ d, TrapTaken x (t.hart h.val) true 17 d) ∧
        ((x.mode.getLsbD 2 = false ∨ bitOf s.activeHartLines h.val = false) →
          (x.mode.getLsbD 3 = false ∨ (s.eventTime - x.alarm).toInt < 0) → x.mode.getLsbD 4 = true → x.inbox ≠ [] →
          Answers (.interrupt h) s fun t => ∃ d, TrapTaken x (t.hart h.val) true 18 d)) ∧
      (x.mode.getLsbD 1 = false ∨ x.mode.getLsbD 5 = true →
        Answers (.interrupt h) s fun t => t.hart h.val = x)) ∧
    (s.hartsClocked = true → x.wait ≠ .none →
      let ended : HartCtx := { x with wait := .none, done := x.done + 1 }
      (s.waitOver h.val x.wait = true → Answers (.waitEnd h) s fun t => t.hart h.val = ended) ∧
      (s.waitOver h.val x.wait = false → Answers (.waitEnd h) s fun t => t.hart h.val = x) ∧
      (x.mode.getLsbD 3 = true → 0 ≤ (s.eventTime - x.alarm).toInt →
        Answers (.alarmDue h) s fun t => t.hart h.val = ended))

/-- R103 to R107: the image services and the end of a check. -/
def Obligations.ImageServices : Prop :=
  (∀ (h : Hart) (s : State), s.hartRuns h.val = true → (s.hart h.val).sup = true →
    let x := s.hart h.val
    let n := (x.r 2).toNat
    let returns (t : State) (v : Int) : Prop := (t.hart h.val).r 2 = BitVec.ofInt 32 v ∧
      (t.hart h.val).r 1 = (if v < 0 then 0xFFFFFFFF else 0) ∧ (t.hart h.val).pc = x.r 31 &&& 0xFFFFFFFC ∧
      ∀ k : RegNum, 20 ≤ k.toNat → k.toNat < 31 → (t.hart h.val).r k = x.r k
    (x.pc = 0xFF00 →
      (∀ i : Nat, i < 4 → s.ticket (i + 1) = none → (∀ j, j < i → (s.ticket (j + 1)).isSome = true) →
        Answers (.imgCheck h) s fun t => returns t (i + 1) ∧
          t.ticket (i + 1) = some { addr := (x.r 2).toNat, len := (x.r 3).toNat, status := 0 }) ∧
      ((∀ i, i < 4 → (s.ticket (i + 1)).isSome = true) → Answers (.imgCheck h) s fun t => returns t (-1))) ∧
    (x.pc = 0xFF04 → Answers (.imgStatus h) s fun t =>
      returns t (match s.ticket n with | some k => k.status | none => -5) ∧ t.images = s.images) ∧
    (x.pc = 0xFF08 → s.ticket n = none → Answers (.imgPlace h) s fun t => returns t (-5)) ∧
    (x.pc = 0xFF08 → ∀ k, s.ticket n = some k → k.status ≠ 1 → Answers (.imgPlace h) s fun t => returns t (-2)) ∧
    (x.pc = 0xFF0C → s.ticket n = none → Answers (.imgSlot h) s fun t => returns t (-5)) ∧
    (x.pc = 0xFF0C → ∀ k, s.ticket n = some k → k.status = 1 → imgType (s.bytes k.addr k.len) = 1 → s.nvOk = false →
      Answers (.imgSlot h) s fun t => returns t (-4)) ∧
    (x.pc = 0xFF10 → Answers (.imgDrop h) s fun t => returns t 0 ∧ t.ticket n = none) ∧
    (x.pc = 0xFF14 →
      let lo := (x.r 3).toNat
      let len := (x.r 4).toNat
      (lo < 0x10100000 ∨ 0x10400000 < lo + len ∨ 16384 < len → Answers (.resumeSet h) s fun t => returns t (-2)) ∧
      (0x10100000 ≤ lo → lo + len ≤ 0x10400000 → 4 ≤ len → len ≤ 16384 → inSram n len = true → s.nvOk = true →
        Answers (.resumeSet h) s fun t => returns t 0 ∧ t.images.resume =
          some { sram := n, start := lo, len := len, hash := Config.shake256 (s.bytes lo len) 32 }))) ∧
  (∀ (n : Nat) (k : Ticket) (s : State), s.ticket n = some k → k.status = 0 →
    Answers (.imageCheckDone n) s fun t => t.ticket n = some { k with status := s.checkResult (s.bytes k.addr k.len) })

/-! ### The loop engine (spec/04) -/

/-- R121 to R123, R125, R126: the vector instructions. -/
def Obligations.VectorInstructions : Prop :=
  ∀ (s : State),
    let lanes (c : Instr) (y : LaneCtx → (Nat → Int) → LaneCtx) : Prop := Effect c s fun u => ∀ i, i < 16 →
      u.lane i = if bitOf s.lpe.curMask i then y (s.lane i) (s.cellSt (16 * s.lpe.cur + i)) else s.lane i
    let clip (w : Nat) (x : Int) : Int := max (-(2 ^ (w - 1))) (min (2 ^ (w - 1) - 1) x)
    let rounded (x : Int) (k : Int) : Int := if k ≤ 0 then x * 2 ^ (-k).toNat
      else if k ≤ 63 then (x + 2 ^ (k.toNat - 1)) / 2 ^ k.toNat else 0
    lanes .vnop (fun x _ => x) ∧
    (∀ (vd va vb : LaneReg),
      (∀ k, lanes (.vldi vd k) fun x _ => x.setReg vd.toNat (x.ins.toList.getD k.toNat 0)) ∧
      (∀ k, lanes (.vldsv vd k) fun x st => x.setReg vd.toNat (signedOf 24 (unsignedOf 24 (st k.toNat)))) ∧
      lanes (.vadd vd va vb) (fun x _ => x.setReg vd.toNat (clip 24 (x.reg va.toNat + x.reg vb.toNat))) ∧
      lanes (.vsub vd va vb) (fun x _ => x.setReg vd.toNat (clip 24 (x.reg va.toNat - x.reg vb.toNat))) ∧
      (∀ lo hi, lo ≠ 0 → hi ≠ 0 → lanes (.vlim vd va lo hi) fun x _ =>
        x.setReg vd.toNat (min (max (x.reg va.toNat) (x.mant lo.toNat)) (x.mant hi.toNat))) ∧
      lanes (.vseli vd va vb) (fun x _ => x.setReg vd.toNat (if x.init then x.reg va.toNat else x.reg vb.toNat)) ∧
      lanes (.vsel vd va vb) (fun x _ => x.setReg vd.toNat (if x.flag then x.reg va.toNat else x.reg vb.toNat)) ∧
      lanes (.vcmp va vb) (fun x _ => { x with flag := decide (x.reg va.toNat < x.reg vb.toNat) }) ∧
      lanes (.vfe va) (fun x _ => { x with fe := some (x.reg va.toNat) }) ∧
      lanes (.vabs vd va) (fun x _ => x.setReg vd.toNat (clip 24 (if x.reg va.toNat < 0 then -x.reg va.toNat else x.reg va.toNat))) ∧
      (∀ k, k ≠ 0 → lanes (.vkld vd k) fun x _ => x.setReg vd.toNat (x.mant k.toNat)) ∧
      (∀ acs sg d, lanes (.vcls vd acs sg d) fun x _ =>
        x.setReg vd.toNat (clip 24 (rounded (x.acc acs.toNat) (23 + d.toInt - x.expo sg.toNat)))) ∧
      (∀ i k, i < 16 → bitOf s.lpe.curMask i = true → Effect (.vsto va k) s fun u =>
        u.cellOut (16 * s.lpe.cur + i) k.toNat = (s.lane i).reg va.toNat ∧ u.lane i = s.lane i) ∧
      ∀ i k, i < 16 → bitOf s.lpe.curMask i = true → Effect (.vstsv va k) s fun u =>
        u.cellSt (16 * s.lpe.cur + i) k.toNat = (s.lane i).reg va.toNat ∧ u.lane i = s.lane i) ∧
    ∀ (acd : AccReg) (va vb : LaneReg),
      (∀ k, lanes (.vlds acd k) fun x st => x.setAcc acd.toNat (st k.toNat)) ∧
      (∀ i k, i < 16 → bitOf s.lpe.curMask i = true → Effect (.vsts acd k) s fun u =>
        u.cellSt (16 * s.lpe.cur + i) k.toNat = (s.lane i).acc acd.toNat ∧ u.lane i = s.lane i) ∧
      lanes (.vclr acd) (fun x _ => x.setAcc acd.toNat 0) ∧
      lanes (.vclri acd) (fun x _ => if x.init then x.setAcc acd.toNat 0 else x) ∧
      (∀ k, k ≠ 0 → lanes (.vmac acd va k) fun x _ =>
        x.setAcc acd.toNat (clip 56 (x.acc acd.toNat + x.reg va.toNat * x.mant k.toNat))) ∧
      (∀ k, k ≠ 0 → lanes (.vmsc acd va k) fun x _ =>
        x.setAcc acd.toNat (clip 56 (x.acc acd.toNat - x.reg va.toNat * x.mant k.toNat))) ∧
      lanes (.vmacv acd va vb) (fun x _ => x.setAcc acd.toNat (clip 56 (x.acc acd.toNat + x.reg va.toNat * x.reg vb.toNat))) ∧
      (∀ sg d, lanes (.vopen acd va sg d) fun x _ =>
        let j := 23 + d.toInt - x.expo sg.toNat
        x.setAcc acd.toNat (if 0 ≤ j then clip 56 (x.reg va.toNat * 2 ^ j.toNat) else rounded (x.reg va.toNat) (-j))) ∧
      Effect (.vmac acd va 0) s fun u => u = s

/-- R112 to R118, R130 to R141: batches, groups, launch offset and coefficients. -/
def Obligations.LoopConfiguration : Prop :=
  ∀ (s : State),
    (∀ b, b < 32 → s.f Fl.LPE_BATCH_GROUP b < 4 →
      let new (fl : Fld) (v : Nat) : State := s.setReg R.LPE_BATCH b (withBits (s.reg R.LPE_BATCH b) fl.lsb fl.width v &&& R.LPE_BATCH.rw)
      let fits (x : State) : Prop := x.loadOk = true ∧ x.launchOk = true
      (s.f Fl.LPE_BATCH_EN b = 0 → s.kernelCheck (s.f Fl.LPE_BATCH_KERNEL b) = 0 → fits (new Fl.LPE_BATCH_EN 1) →
        Effect (.batchEnable b) s fun u => u.f Fl.LPE_BATCH_EN b = 1 ∧
          u.f Fl.LPE_BSTAT_STATE b = (if s.f Fl.LPE_BSTAT_STATE b = 2 then 3 else 1)) ∧
      (s.f Fl.LPE_BATCH_EN b = 0 → s.kernelCheck (s.f Fl.LPE_BATCH_KERNEL b) ≠ 0 → Effect (.batchEnable b) s fun u =>
        u.reg R.LPE_BATCH b = s.reg R.LPE_BATCH b ∧ u.f Fl.LPE_BSTAT_ERR b = s.kernelCheck (s.f Fl.LPE_BATCH_KERNEL b)) ∧
      (s.f Fl.LPE_BATCH_EN b = 1 → Effect (.batchDisable b) s fun u => u.f Fl.LPE_BATCH_EN b = 0 ∧
        u.f Fl.LPE_BSTAT_STATE b =
          if (s.lg (s.f Fl.LPE_BATCH_GROUP b)).grid = true ∧ s.f Fl.LPE_BSTAT_STATE b ≠ 0 then 2 else 0) ∧
      (∀ k, k < 16 → s.f Fl.LPE_BATCH_EN b = 1 → k ≠ s.f Fl.LPE_BATCH_KERNEL b → s.kernelCheck k = 0 →
        fits (new Fl.LPE_BATCH_KERNEL k) → Effect (.batchKernelChange b k) s fun u => u.f Fl.LPE_BATCH_KERNEL b = k ∧
          u.f Fl.LPE_BSTAT_STATE b = s.f Fl.LPE_BSTAT_STATE b) ∧
      ∀ m : BitVec 16, s.f Fl.LPE_BATCH_EN b = 0 ∨ fits (new Fl.LPE_BATCH_MASK m.toNat) →
        Effect (.batchMaskChange b m) s fun u => u.f Fl.LPE_BATCH_MASK b = m.toNat) ∧
    (∀ g, g < 4 →
      let new (fl : Fld) (v : Nat) : State := s.setReg R.LPE_GROUP g (withBits
        (withBits (s.reg R.LPE_GROUP g) fl.lsb fl.width v &&& R.LPE_GROUP.rw) 16 2 (bitsOf (s.reg R.LPE_GROUP g) 16 2))
      let legal : Prop := 2000 ≤ s.f Fl.LPE_GROUP_PERIOD g ∧ s.f Fl.LPE_GROUP_PERIOD g ≤ 20000
      (s.f Fl.LPE_GROUP_EN g = 0 → legal → (new Fl.LPE_GROUP_EN 1).loadOk = true → Effect (.groupEnable g) s fun u =>
        u.f Fl.LPE_GROUP_EN g = 1 ∧ (u.lg g).armed = true) ∧
      (legal → Effect (.groupDisable g) s fun u => u.f Fl.LPE_GROUP_EN g = 0 ∧
        (s.laneNames g = false → (u.lg g).grid = false)) ∧
      (∀ p, p < 2000 ∨ 20000 < p → Effect (.groupPeriodWrite g p) s fun u =>
        u.reg R.LPE_GROUP g = s.reg R.LPE_GROUP g ∧ bitOf (u.f ⟨R.LPE_STAT, 0, 9⟩) 1 = true) ∧
      ∀ p, 2000 ≤ p → p ≤ 20000 → s.f Fl.LPE_GROUP_EN g = 0 → Effect (.groupPeriodWrite g p) s fun u =>
        u.f Fl.LPE_GROUP_PERIOD g = p) ∧
    (∀ v, (v < 512 → (s.setF Fl.LPE_LAUNCH_OFFSET 0 v).launchOk = true → Effect (.launchWrite v) s fun u =>
        u.f Fl.LPE_LAUNCH_OFFSET = v) ∧
      ((s.setF Fl.LPE_LAUNCH_OFFSET 0 v).launchOk = false → Effect (.launchWrite v) s fun u =>
        u.f Fl.LPE_LAUNCH_OFFSET = s.f Fl.LPE_LAUNCH_OFFSET ∧ bitOf (u.f ⟨R.LPE_STAT, 0, 9⟩) 1 = true)) ∧
    (∀ ini bank slot w v, bank < 2 → slot < 512 → w < 16 → s.mayWrite Fl.SYS_OWNER0_LPE ini = true →
      w ≠ 0 ∨ s.portCell slot = false →
      let stored : Word := if w = 0 then v else BitVec.ofInt 32 (signedOf 24 v.toNat)
      (s.slotRuns slot = false → Effect (.coefficientWrite ini bank slot w v) s fun u =>
        u.coefAt bank slot w = stored ∧ u.busError = false) ∧
      (s.slotRuns slot = true → s.lpe.pool.length < 64 → Effect (.coefficientWrite ini bank slot w v) s fun u =>
        u.lpe.pool = s.lpe.pool ++ [{ bank := bank, slot := slot, w := w, v := v, own := false }] ∧
          u.coefAt bank slot w = s.coefAt bank slot w ∧ u.busError = false) ∧
      (s.slotRuns slot = true → 64 ≤ s.lpe.pool.length → Effect (.coefficientWrite ini bank slot w v) s fun u =>
        u.lpe.pool = s.lpe.pool ∧ u.busError = true ∧ bitOf (u.f ⟨R.LPE_STAT, 0, 9⟩) 4 = true)) ∧
    ∀ c, c < 1024 → Effect (.cellInit c) s fun u => c ∈ u.lpe.initPend

/-- R113 to R115, R149 to R161: the running engine. -/
def Obligations.LoopRunning : Prop :=
  ∀ (s : State),
    (∀ g, g < 8 → (s.lg g).grid = true → Effect (.groupTick g) s fun u => (u.lg g).ticks = (s.lg g).ticks + 1 ∧
      (u.lg g).period = s.effPeriod g) ∧
    (∀ r, nextReady s.lpe.ready = some r → Effect .batchRun s fun u => u.lpe.ready = s.lpe.ready.erase r ∧
      u.lpe.cur = r.batch ∧ u.lpe.results.length = s.lpe.results.length + (if r.late then 0 else 1)) ∧
    (∀ g, g < 8 → (s.lg g).grid = true → Effect (.outputLaunch g) s fun u =>
      u.lpe.results = s.lpe.results.filter (fun r => !(r.group == g && r.window + 2 ≤ (s.lg g).ticks)) ∧
      (∀ r ∈ s.lpe.ready, r.group = g → r.window + 2 ≤ (s.lg g).ticks → r.late = false → r.batch < 64 →
        u.f Fl.LPE_BSTAT_OVR r.batch = 1 ∧ bitOf (u.f ⟨R.LPE_STAT, 0, 9⟩) 0 = true) ∧
      ∀ j, j < 32 → s.exchanging j = true → s.f Fl.CLN_LANECFG_GROUP j = g → (u.ln j).exchange = (s.ln j).exchange + 1) ∧
    (let good : Prop := s.batchOn (s.f Fl.LPE_INJCTL_BATCH) = true ∧
        s.nodeWrites (s.f Fl.LPE_INJCTL_BATCH) (s.f Fl.LPE_INJNODE_NODE) = true ∧ s.f Fl.LPE_INJCTL_WAVE ≠ 3;
      (good → Effect .injectorArm s fun u => u.lpe.inj.armed = true ∧ u.f Fl.LPE_INJCTL_ARM = 1) ∧
      (¬ good → Effect .injectorArm s fun u => u.lpe.inj = s.lpe.inj ∧ u.f Fl.LPE_INJCTL_ERR = 1)) ∧
    (Effect .injectorDisarm s fun u => u.f Fl.LPE_INJCTL_ARM = 0 ∧ u.lpe.inj.armed = false ∧
      u.lpe.inj.stopping = s.b Fl.LPE_INJCTL_RUN) ∧
    (s.f Fl.LPE_INJCTL_RUN = 1 → s.f Fl.LPE_INJLEN_LEN ≤ s.lpe.inj.n → Effect .injectionDone s fun u =>
      u.f Fl.LPE_INJCTL_RUN = 0 ∧ bitOf (u.f ⟨R.LPE_STAT, 0, 9⟩) 6 = true) ∧
    (Effect .captureArm s fun u => u.lpe.cap.armed = true ∧ u.lpe.cap.started = !s.b Fl.LPE_CAPCTL_SYNC ∧
      u.f Fl.LPE_CAPSTAT_NEXT = 0) ∧
    (s.lpe.cap.full = true → Effect .captureDone s fun u => u.f Fl.LPE_CAPSTAT_DONE = 1 ∧ u.lpe.cap.full = false ∧
      bitOf (u.f ⟨R.LPE_STAT, 0, 9⟩) 7 = true) ∧
    (∀ c, c < 1024 → s.f Fl.LPE_FECFG_EN (c / 16) = 1 → max 1 (s.f Fl.LPE_FECFG_TIMER (c / 16)) ≤ cellsGet 0 s.lpe.feCount c →
      c ∉ s.lpe.feActed → Effect (.followingErrorAction c) s fun u => c ∈ u.lpe.feActed ∧
        bitOf (u.f Fl.LPE_FEST_ACTED (c / 16)) (c % 16) = true ∧ bitOf (u.f ⟨R.LPE_STAT, 0, 9⟩) 2 = true) ∧
    (s.lpe.signal = some true → Effect .takeoverEngineStart s fun u => u.f Fl.LPE_TAKE_ACTIVE = 1 ∧
      ∀ g, g < 8 → s.f Fl.LPE_GROUP_EN g = 1 → u.f Fl.LPE_GROUP_HALF g = 1 ∧ u.f Fl.LPE_GROUP_BANK g = 1) ∧
    (s.lpe.signal = some false → Effect .takeoverEngineReturn s fun u => u.f Fl.LPE_TAKE_ACTIVE = 0 ∧
      ∀ g, g < 8 → u.f Fl.LPE_GROUP_HALF g = 0 ∧ u.f Fl.LPE_GROUP_BANK g = 0)

/-! ### Cell lanes (spec/05) -/

/-- R164 to R166, R179 to R182, R187 to R192: the life of a lane. -/
def Obligations.LaneLife : Prop :=
  ∀ (j : Nat) (s : State), j < 32 →
    let cause (t : State) (b : Nat) : Prop := bitOf (t.f ⟨R.CLN_LANEEV, 0, 14⟩ (j % 16)) b = true
    (s.laneSt j = 0 → Answers (.laneEnable j) s fun t => t.f Fl.CLN_LANECFG_EN j = 1 ∧
      (j < 16 → t.laneSt j = 1 ∧ (t.ln j).step = 1) ∧ (16 ≤ j → t.laneSt j = 5)) ∧
    (s.laneSt j = 3 → Answers (.laneEnable j) s fun t => t.laneSt j = 4) ∧
    (s.laneSt j = 2 ∨ s.laneSt j = 4 → Answers (.laneDisable j) s fun t => t.f Fl.CLN_LANECFG_EN j = 0 ∧ t.laneSt j = 3) ∧
    (s.laneSt j = 5 ∨ s.laneSt j = 6 → Answers (.laneDisable j) s fun t => t.laneSt j = 0) ∧
    (s.laneSt j = 3 → Answers (.laneStopComplete j true) s fun t => t.laneSt j = 0 ∧ (t.ln j).admitted = []) ∧
    (s.laneSt j = 4 → Answers (.laneStopComplete j true) s fun t => t.laneSt j = 1 ∧ (t.ln j).step = 1) ∧
    (s.laneSt j ≠ 0 → s.laneSt j ≠ 5 → Answers (.laneLockLost j) s fun t => t.laneSt j = 0 ∧
      t.f Fl.CLN_ERRC_RELOCK j = min 65535 (s.f Fl.CLN_ERRC_RELOCK j + 1)) ∧
    (Answers (.laneTripFall j) s fun t => t.f Fl.CLN_LANESTAT_TRIP j = 1 ∧
      (s.f Fl.CLN_LANESTAT_TRIP j = 0 → cause t (if j < 16 then 5 else 12))) ∧
    (j < 16 → s.laneSt j = 1 →
      (s.f Fl.CLN_LANECFG_EN j = 1 →
        (∀ n, (s.ln j).step < 8 → Answers (.linkStartStepEnd j n) s fun t => (t.ln j).step = (s.ln j).step + 1 ∧
          t.laneSt j = 1 ∧ ((s.ln j).step = 2 → t.f Fl.CLN_LANESTAT_NENUM j = min n 32)) ∧
        (∀ n, (s.ln j).step = 8 → Answers (.linkStartStepEnd j n) s fun t => t.laneSt j = 2 ∧
          bitOf (t.f Fl.CLN_STAT_READY) j = true ∧ cause t 0)) ∧
      (∀ pos l c, (s.ln j).step = 3 → pos < s.f Fl.CLN_LANESTAT_NENUM j → s.slotsAt j pos = [c] →
        Answers (.capRecord j pos l) s fun t =>
          let r := recReason (s.f Fl.CLN_CTL_RAMPMAX) l
          cellsFind (t.ln j).recs pos = some (l, r) ∧
            (r ≠ 0 → t.f Fl.CLN_CELLST_STATE c = 6 ∧ t.f Fl.CLN_CELLST_REFUSE c = r ∧ cause t 7)) ∧
      ((s.ln j).step = 6 → ∀ rt,
        let d := (rt - 16 * symbolBits (s.f Fl.CLN_LANESTAT_RATE j)) / 2
        (Answers (.rangeEcho j none rt) s fun t => t.f Fl.CLN_LANETIM_TFAR j = min d 0xFFFE ∧ (t.ln j).farEcho = true) ∧
        ∀ p, Answers (.rangeEcho j (some p) rt) s fun t => cellsFind (t.ln j).delays p = some d)) ∧
    (j < 16 → s.laneSt j = 0 → Answers (.homeLaneReturn j) s fun t => t.laneSt j = 1 ∧ (t.ln j).inactive = true) ∧
    (∀ c v, c < 512 →
      let new := s.setReg R.CLN_CELLMAP c (v &&& R.CLN_CELLMAP.rw)
      (s.laneSt (s.mapLane c) = 0 → s.laneSt (new.mapLane c) = 0 → Answers (.cellmapWrite c v) s fun t =>
        t.reg R.CLN_CELLMAP c = v &&& R.CLN_CELLMAP.rw) ∧
      (s.laneSt (s.mapLane c) ≠ 0 ∨ s.laneSt (new.mapLane c) ≠ 0 → Answers (.cellmapWrite c v) s fun t =>
        t.reg R.CLN_CELLMAP c = s.reg R.CLN_CELLMAP c)) ∧
    ∀ c v, 512 ≤ c → s.f Fl.LPE_TAKE_ACTIVE = 0 → Answers (.cellmapWrite c v) s fun t => t.busError = true ∧
      t.reg R.CLN_CELLMAP c = s.reg R.CLN_CELLMAP c

/-- R164, R169, R174, R185 to R188, R191: exchanges, lost cells, management, guard lanes. -/
def Obligations.LaneTraffic : Prop :=
  ∀ (j : Nat) (s : State), j < 32 →
    let cause (t : State) (b : Nat) : Prop := bitOf (t.f ⟨R.CLN_LANEEV, 0, 14⟩ (j % 16)) b = true
    (s.exchanging j = true → s.f Fl.CLN_LANESTAT_SCHEDERR j = 0 →
      (∀ pos l, Answers (.telemetryFrame j pos l true) s fun t =>
        t.f Fl.CLN_ERRA_CODEV j = min 65535 (s.f Fl.CLN_ERRA_CODEV j + 1) ∧ (t.ln j).telemetry = (s.ln j).telemetry) ∧
      (∀ pos l, frameOk l = false → Answers (.telemetryFrame j pos l false) s fun t =>
        t.f Fl.CLN_ERRA_CRCUP j = min 65535 (s.f Fl.CLN_ERRA_CRCUP j + 1) ∧ (t.ln j).telemetry = (s.ln j).telemetry) ∧
      (∀ pos l, frameOk l = true → (l.headD 0).toNat = (1 + s.f Fl.CLN_LANESTAT_FMT j) * 32 + pos → pos < 32 →
        l.length = (if s.f Fl.CLN_LANESTAT_FMT j = 0 then 15 else 27) → Answers (.telemetryFrame j pos l false) s fun t =>
          cellsFind (t.ln j).telemetry pos = some ((l.drop 1).dropLast.dropLast)) ∧
      (((s.ln j).admitted.map (·.2)).Nodup → Answers (.exchangeEnd j) s fun t => (t.ln j).telemetry = [] ∧
        ∀ e ∈ (s.ln j).admitted, e.2 < 1024 → t.f Fl.CLN_CELLST_STALE e.2 =
          if (cellsFind (s.ln j).telemetry e.1).isSome then 0 else min 3 (s.f Fl.CLN_CELLST_STALE e.2 + 1))) ∧
    (∀ c, c < 1024 → s.cellLane c = j →
      (s.f Fl.CLN_CELLST_STATE c = 3 → s.f Fl.CLN_CELLST_STALE c = 3 → Answers (.cellLost c) s fun t =>
        t.f Fl.CLN_CELLST_STATE c = 5 ∧ cause t 2) ∧
      (s.f Fl.CLN_CELLST_STATE c = 5 → (s.ln j).readmit = none → s.exchanging j = true → Answers (.cellReadmit c) s fun t =>
        (t.ln j).readmit = some c) ∧
      ((s.ln j).readmit = some c → Answers (.readmitEnd c) s fun t => (t.ln j).readmit = none ∧
        t.f Fl.CLN_CELLST_STATE c = if (s.ln j).readmitCap && (s.ln j).readmitRange then 2 else s.f Fl.CLN_CELLST_STATE c)) ∧
    (s.errReached j = true → Answers (.errorThreshold j) s fun t => cause t (if j < 16 then 6 else 13)) ∧
    (∀ mask : Word, Answers (.errorCountersClear mask) s fun t =>
      t.reg R.CLN_ERRA j = (if mask.getLsbD j then 0 else s.reg R.CLN_ERRA j) ∧
        t.reg R.CLN_ERRB j = (if mask.getLsbD j then 0 else s.reg R.CLN_ERRB j) ∧
        t.reg R.CLN_ERRC j = (if mask.getLsbD j then 0 else s.reg R.CLN_ERRC j)) ∧
    (s.f Fl.CLN_MGSTAT_BUSY = 0 → s.f Fl.CLN_MGREQ_LANE = j →
      let len := s.f Fl.CLN_MGREQ_LEN
      let up : Prop := s.laneSt j = 2 ∧ j < 16 ∨ s.laneSt j = 6
      (1 ≤ len → len ≤ 32 → up → Answers .mgmtRequest s fun t => t.f Fl.CLN_MGSTAT_BUSY = 1 ∧
        t.cln.request = some (j, s.f Fl.CLN_MGREQ_POS)) ∧
      (1 ≤ len → len ≤ 32 → ¬ up → Answers .mgmtRequest s fun t => t.f Fl.CLN_MGSTAT_DONE = 1 ∧ t.f Fl.CLN_MGSTAT_ERR = 4) ∧
      (len = 0 ∨ 32 < len → Answers .mgmtRequest s fun t => t.f Fl.CLN_MGSTAT_DONE = 1 ∧ t.f Fl.CLN_MGSTAT_ERR = 6)) ∧
    (s.f Fl.CLN_MGSTAT_BUSY = 1 → ∀ st (x : Byte) l, Answers (.mgmtResponse st x l) s fun t =>
      t.f Fl.CLN_MGSTAT_BUSY = 0 ∧ t.f Fl.CLN_MGSTAT_DONE = 1 ∧ t.f Fl.CLN_MGSTAT_CSTAT = x.toNat ∧
        t.f Fl.CLN_MGSTAT_ERR = (if st = 0 ∨ st = 3 then st else 2) ∧
        ∀ w, w < 8 → st = 0 → s.f Fl.CLN_MGREQ_WR = 0 → 4 * w < s.f Fl.CLN_MGREQ_LEN → 4 * w < l.length →
          t.reg R.CLN_MGBUF w = BitVec.ofNat 32 (leNat (((l.take (s.f Fl.CLN_MGREQ_LEN)).drop (4 * w)).take 4))) ∧
    (∀ pos, s.cln.request = some (j, pos) → Answers .mgmtTimeout s fun t => t.f Fl.CLN_MGSTAT_ERR = 1 ∧
      t.f Fl.CLN_MGSTAT_DONE = 1 ∧ t.cln.request = none ∧ t.f Fl.CLN_ERRC_MGTO j = min 65535 (s.f Fl.CLN_ERRC_MGTO j + 1)) ∧
    (16 ≤ j → s.laneSt j = 5 →
      (s.f Fl.RNG_STAT_GUEST = 1 → s.laneSlots j ≠ [] → Answers .guardTakeover s fun t => t.laneSt j = 6 ∧
        (t.ln j).take = 3 ∧ cause t 11) ∧
      (Answers (.guardLaneTraffic j []) s fun t => bitOf (t.f Fl.CLN_STAT_GUARDOK) (j - 16) = false ∧
        (bitOf (s.f Fl.CLN_STAT_GUARDOK) (j - 16) = true → cause t 9)) ∧
      ∀ a b, Answers (.guardLaneTraffic j [a, b, BitVec.ofNat 8 (crc8 [a, b])]) s fun t =>
        bitOf (t.f Fl.CLN_STAT_GUARDOK) (j - 16) = true ∧ ((s.ln j).synced = false → cause t 8 ∧ (t.ln j).synced = true))

/-! ### Port power control (spec/06) -/

/-- R196, R217 to R220, R225, R229: the commands of a group. -/
def Obligations.PortCommands : Prop :=
  ∀ (g : Nat) (s : State), g < 80 →
    let x := s.pg g
    let cause (u : State) (j : Nat) : Prop := bitOf (u.f ⟨R.PRT_GCAUSE, 0, 29⟩ g) j = true
    let fits (volt : Bool) : Prop := x.voltMode = volt ∨
      s.kernelsFit (s.groupBatches g) (s.f (if volt then Fl.PRT_GCFG_KVOLT else Fl.PRT_GCFG_KCUR) g) = true
    (s.f Fl.PRT_GCFG_EN g = 0 → Effect (.portGroupEnable g) s fun u =>
      if s.enableOk g then u.f Fl.PRT_GCFG_EN g = 1 else u.f Fl.PRT_GCFG_EN g = 0 ∧ cause u 28) ∧
    (s.f Fl.PRT_GCFG_EN g = 1 → Effect (.portGroupDisable g) s fun u => u.f Fl.PRT_GCFG_EN g = 0 ∧ u.gst g = gOff ∧
      (u.pg g).pendCmd = none) ∧
    (∀ c, c < 1024 →
      let on (k : Nat) : Prop := k < 80 ∧ s.f Fl.PRT_GCFG_EN k = 1
      (¬ on (s.f Fl.PRT_CELL_GROUP c) → ¬ on g → Effect (.cellGroupAssign c g) s fun u => u.f Fl.PRT_CELL_GROUP c = g) ∧
      (on (s.f Fl.PRT_CELL_GROUP c) ∨ on g → Effect (.cellGroupAssign c g) s fun u =>
        u.f Fl.PRT_CELL_GROUP c = s.f Fl.PRT_CELL_GROUP c)) ∧
    Effect (.groupClrreef g) s (fun u => u.f Fl.PRT_GSTAT_REEFREQ g = 0) ∧
    (s.f Fl.PRT_GCFG_EN g = 1 →
      (s.gst g = gOff → s.f Fl.PRT_GCFG_ROLE g = 0 →
        let c := max (s.f Fl.PRT_CNOM_CNOM g) (s.f Fl.PRT_CIDENT_CIDENT g)
        (c = 0 → Effect (.groupCheck g) s fun u => u.gst g = gOff ∧ u.f Fl.PRT_GSTAT_CMDERR g = 2 ∧ cause u 28) ∧
        (2 * s.f Fl.PRT_EMAX_ECHK g * 10 ^ 12 < c * s.f Fl.PRT_VSET_VSET g * s.f Fl.PRT_VSET_VSET g → Effect (.groupCheck g) s fun u =>
          u.gst g = gOff ∧ u.f Fl.PRT_GSTAT_CMDERR g = 3 ∧ cause u 6) ∧
        (0 < c → c * s.f Fl.PRT_VSET_VSET g * s.f Fl.PRT_VSET_VSET g ≤ 2 * s.f Fl.PRT_EMAX_ECHK g * 10 ^ 12 →
          Effect (.groupCheck g) s fun u => u.gst g = gClosing ∧ (u.pg g).target = gCheck ∧ cause u 0)) ∧
      (s.gst g = gOff → s.f Fl.PRT_GCFG_ROLE g = 3 → Effect (.groupPrecharge g) s fun u =>
        u.gst g = gClosing ∧ (u.pg g).target = gPrecharge) ∧
      (s.gst g = gCheck → fits (decide ((s.f Fl.PRT_VSET_VSET g : Int) ≤ 5 * s.vehicleV g)) →
        Effect (.groupPrecharge g) s fun u => u.gst g = gPrecharge ∧ (u.pg g).preStart = s.now) ∧
      (∀ mode, s.gst g = gReady ∨ s.gst g = gZero → fits (mode == 1) → Effect (.groupRun g mode) s fun u =>
        u.gst g = (if mode = 1 then gRunV else gRunI) ∧ (u.pg g).voltMode = (mode == 1)) ∧
      (s.gst g = gReady → Effect (.groupStop g) s fun u => u.gst g = gDischarge ∧ (u.pg g).discStart = s.now) ∧
      (s.gst g = gRunI ∨ s.gst g = gRunV → Effect (.groupStop g) s fun u => u.gst g = gRampdown) ∧
      (pendState (s.gst g) = true → Effect (.groupStop g) s fun u => u.gst g = s.gst g ∧ (u.pg g).pendCmd = none) ∧
      (s.gst g = gOff → Effect (.groupStop g) s fun u => u.gst g = gOff ∧ u.f Fl.PRT_GSTAT_CMDERR g = 1) ∧
      (s.gst g = gZero → Effect (.groupDisch g) s fun u =>
        u.gst g = if s.f Fl.PRT_GCFG_ROLE g = 3 then gOpening else gDischarge) ∧
      (s.gst g = gFault → x.pendCmd = none → Effect (.groupClear g) s fun u => u.gst g = gOff ∧ u.f Fl.PRT_GSTAT_REEFREQ g = 0))

/-- R217 to R232: transitions, cells and telemetry. -/
def Obligations.PortSequence : Prop :=
  ∀ (g : Nat) (s : State), g < 80 →
    let x := s.pg g
    let cause (u : State) (j : Nat) : Prop := bitOf (u.f ⟨R.PRT_GCAUSE, 0, 29⟩ g) j = true
    let goes (c : Instr) (st : Nat) : Prop := Effect c s fun u => u.gst g = st
    let faults (c : Instr) : Prop := Effect c s fun u => u.gst g = gFault ∧ cause u 27
    let v := s.vehicleV g
    (s.gst g = gClosing → x.target = gCheck → x.voltMode = true → goes (.contactorsClosed g) gCheck) ∧
    (s.gst g = gClosing → faults (.closingTimeout g)) ∧
    (s.gst g = gPrecharge → x.preStep = 5 → (v - (s.f Fl.PRT_VSET_VSET g : Int)).natAbs ≤ s.f Fl.PRT_PCFG_VTOL g * 1000 →
      goes (.prechargeComplete g) gReady) ∧
    (s.gst g = gPrecharge → faults (.prechargeTimeout g)) ∧
    (s.gst g = gRampdown → (s.groupI g).natAbs < 5000 → x.pendCmd = none →
      goes (.rampdownComplete g) (if s.f Fl.PRT_GCFG_ROLE g = 1 ∨ s.f Fl.PRT_GCFG_ROLE g = 2 then gOff else gZero)) ∧
    (s.gst g = gDischarge → v < 60000 → x.pendCmd = none →
      goes (.dischargeComplete g) (if x.bleedOnly then gOff else gOpening)) ∧
    (s.gst g = gDischarge → 60000 ≤ v → Effect (.dischargeTimeout g) s fun u => u.gst g = gDischarge ∧ cause u 7) ∧
    (s.gst g = gDischarge → Effect (.dischargeForcedOpen g) s fun u => u.gst g = gOpening ∧ (u.pg g).forced = true) ∧
    (s.gst g = gOpening → x.pendCmd = none →
      goes (.contactorsOpened g) (if x.forced then gFault else if s.f Fl.PRT_PCFG_WELDEN g = 1 then gWeld else gOff)) ∧
    (s.gst g = gOpening → faults (.openingTimeout g)) ∧
    (s.gst g = gWeld →
      (x.weldStep = 3 → x.pendCmd = none → goes (.weldStepEnd g) (if s.f Fl.PRT_GSTAT_WELD g = 0 then gOff else gFault)) ∧
      (x.weldStep ≠ 3 → 30000 < v → Effect (.weldStepEnd g) s fun u => u.gst g = gFault ∧ cause u 24) ∧
      (x.weldStep ≠ 3 → v ≤ 30000 → Effect (.weldStepEnd g) s fun u => u.gst g = gWeld ∧ (u.pg g).weldStep = x.weldStep + 1)) ∧
    (s.gst g ≠ gOff → s.gst g ≠ gFault → s.gst g ≠ gOpening → Effect (.unrequestedOpen g) s fun u =>
      u.gst g = gDischarge ∧ (u.pg g).bleedOnly = true ∧ cause u 25) ∧
    (s.gst g = gRunI → s.f Fl.PRT_GCFG_AUTOCV g = 1 → s.f Fl.PRT_GCFG_ROLE g = 0 → x.voltMode = false →
      s.kernelsFit (s.groupBatches g) (s.f Fl.PRT_GCFG_KVOLT g) = true →
      (s.f Fl.PRT_VSET_VSET g : Int) - s.f Fl.PRT_DISCFG_VMARG g * 1000 ≤ v → Effect (.autocvSwitch g) s fun u =>
        u.gst g = gRunV ∧ (u.pg g).voltMode = true) ∧
    (s.f Fl.PRT_GCFG_ROLE g = 0 → s.f Fl.PRT_GCFG_EN g = 1 → x.search = none →
      3 * (s.groupI g).natAbs + 500000 < 100 * (s.sumI g - s.groupI g).natAbs → Effect (.senseSearchStart g) s fun u =>
        (u.pg g).search = some 0 ∧ (u.pg g).explains = []) ∧
    (∀ n, x.search = some n →
      (∀ c k, x.explains.filter (fun e => decide (9 * n ≤ 10 * e.2)) = [(c, k)] → s.f Fl.PRT_CELL_RM c = 0 →
        (∀ e ∈ s.prt.removals, e.1 ≠ c) → Effect (.senseSearchEnd g) s fun u => (u.pg g).search = none ∧ (c, 2) ∈ u.prt.removals ∧ cause u 3) ∧
      (x.explains.filter (fun e => decide (9 * n ≤ 10 * e.2)) = [] → Effect (.senseSearchEnd g) s fun u => cause u 4 ∧
        u.f Fl.PRT_GSTAT_REEFREQ g = min 7 (s.f Fl.PRT_GSTAT_REEFREQ g + 1))) ∧
    (∀ c, c < 1024 → s.f Fl.PRT_CELL_GROUP c = g →
      (s.f Fl.PRT_CELL_RM c = 0 → (∀ e ∈ s.prt.removals, e.1 ≠ c) → cellsGet (0 : Int) s.prt.share c ≠ 0 →
        20 * (s.cellI c).natAbs < (cellsGet (0 : Int) s.prt.share c).natAbs →
        s.f Fl.PRT_IRATED_IRATED g < 5 * (s.groupI g).natAbs → Effect (.openCell c) s fun u =>
          (c, 1) ∈ u.prt.removals ∧ cause u 2) ∧
      (s.f Fl.PRT_CELL_RM c ≠ 0 → Effect (.cellRestore c) s fun u => c ∈ u.prt.returns)) ∧
    (∀ c, x.tel.cleat = some c → Effect (.snap false g) s fun u => u.reg R.PRT_SNAPOUT 0 = BitVec.ofInt 32 c.iMax ∧
      u.reg R.PRT_SNAPOUT 1 = BitVec.ofInt 32 c.iMin ∧ u.reg R.PRT_SNAPOUT 2 = BitVec.ofInt 32 c.vMax ∧
      u.reg R.PRT_SNAPOUT 3 = BitVec.ofInt 32 c.vMin ∧ u.reg R.PRT_SNAPOUT 4 = BitVec.ofInt 32 c.pMax ∧
      u.reg R.PRT_SNAPOUT 5 = BitVec.ofInt 32 c.pMin ∧ (u.pg g).tel.cleat = none) ∧
    ∀ w, w < 3 → Effect (.averagePublish w) s fun u => (u.pg g).tel.window w = {} ∧
      let a := x.tel.window w
      (a.n ≠ 0 → u.reg R.PRT_GTEL (12 * g + 4 * w) = BitVec.ofInt 32 (Int.tdiv a.i a.n) ∧
        u.reg R.PRT_GTEL (12 * g + 4 * w + 1) = BitVec.ofInt 32 (Int.tdiv a.v a.n) ∧
        u.reg R.PRT_GTEL (12 * g + 4 * w + 2) = BitVec.ofInt 32 (Int.tdiv a.p a.n)) ∧
      (a.n = 0 → u.reg R.PRT_GTEL (12 * g + 4 * w) = 0 ∧ u.reg R.PRT_GTEL (12 * g + 4 * w + 3) = 0x8000)

/-! ### Site allocation (spec/07) -/

/-- R235 to R247, R258 to R260, R266, R267: site allocation. -/
def Obligations.Allocation : Prop :=
  ∀ (s : State),
    let cause (u : State) (j : Nat) : Prop := bitOf (u.f Fl.ALC_STAT_CAUSE) j = true
    (s.sys.saveStep < 2 → s.sys.saveEnd = false → s.f Fl.RNG_STAT_PROT = 0 → s.rng.complete = false →
      (∀ r p, s.alc.overran = false → s.alc.result = some r → s.f Fl.ALC_CTL_EN = 1 → s.ringHeld = false →
        s.f Fl.ALC_STAT_STATE = 1 → p < 24 → cellsFind s.alc.negative p = none → Effect .allocationPeriodStart s fun u =>
          u.f Fl.PRT_ISHEET_SHEET p = (if s.f Fl.ALC_STAT_AGREE = 1 then min (intAt r p) (intAt s.alc.previous p)
            else min (intAt r p) (s.f Fl.ALC_PAPPLIED_APPLIED p)).toNat % 2 ^ 32 ∧ cause u 0 ∧ u.alc.previous = r) ∧
      (s.alc.overran = false → s.alc.result = none → s.f Fl.ALC_STAT_STATE = 2 → Effect .allocationPeriodStart s fun u =>
        u.f Fl.ALC_STAT_STATE = 0 ∧ ∀ p, p < 24 → u.f Fl.PRT_ISHEET_SHEET p = 0) ∧
      (s.alc.overran = false → s.alc.result = none → s.f Fl.ALC_STAT_STATE = 1 → s.ringHeld = false → s.alc.periodPend = none →
        Effect .allocationPeriodStart s fun u => u.alc.windowOpen = true ∧
          u.f Fl.ALC_SEQ_SEQ = s.now / (1000 * s.f Fl.ALC_CFG_PERIOD) % 2 ^ 32)) ∧
    (s.allocating = true → s.alc.windowOpen = true → Effect .exchangeWindowClose s fun u => u.alc.windowOpen = false ∧
      u.alc.solving.isSome = true ∧ (s.others = [] →
        u.f Fl.ALC_STAT_AGREE = b2n (!s.alc.noAgree && s.alc.epochBefore == s.alc.epochNow))) ∧
    (∀ l d, s.alc.solving = some l → Effect (.solveComplete d) s fun u => u.alc.solving = none ∧
      u.alc.result.isSome = true ∧ u.f Fl.ALC_TSOLVE_LAST = min d 65535) ∧
    (∀ l, s.alc.solving = some l → Effect .solveOverrun s fun u => u.alc.solving = none ∧ u.alc.overran = true ∧
      u.alc.noAgree = true ∧ cause u 3) ∧
    (∀ l hops, l.length = 1664 → halMod l ≠ s.modid → s.member (halMod l) = true →
      BitVec.ofNat 32 (halSeq l) = BitVec.ofNat 32 (s.f Fl.ALC_SEQ_SEQ) →
      (s.alc.windowOpen = true → Effect (.halyardReceived l true hops) s fun u =>
        cellsFind u.alc.received (halMod l) = some l) ∧
      (s.alc.windowOpen = false → Effect (.halyardReceived l true hops) s fun u => u.alc.received = s.alc.received ∧
        u.f Fl.ALC_CNT_LATE = min 65535 (s.f Fl.ALC_CNT_LATE + 1) ∧ cause u 1)) ∧
    (∀ l hops, Effect (.halyardReceived l false hops) s fun u => u = s) ∧
    (∀ p, let ok : Prop := p ∈ periods ∧ s.alcFits p (s.f Fl.ALC_WIN_XWIN) (s.f Fl.ALC_CFG_CLSEN) s.nodeCount = true;
      (ok → Effect (.allocationPeriodWrite p) s fun u => ∃ n, u.alc.periodPend = some (p, n)) ∧
      (¬ ok → Effect (.allocationPeriodWrite p) s fun u => u.alc.periodPend = s.alc.periodPend ∧ cause u 3)) ∧
    (∀ x k, let ok : Prop := x < 65536 ∧ k < 256 ∧ s.alcFits (s.f Fl.ALC_CFG_PERIOD) x k s.nodeCount = true;
      (ok → Effect (.allocationConfigWrite x k) s fun u => u.f Fl.ALC_WIN_XWIN = x ∧ u.f Fl.ALC_CFG_CLSEN = k) ∧
      (¬ ok → Effect (.allocationConfigWrite x k) s fun u => u.reg R.ALC_WIN = s.reg R.ALC_WIN ∧
        u.reg R.ALC_CFG = s.reg R.ALC_CFG ∧ cause u 3)) ∧
    Effect .treeCommit s (fun u => u.alc.commit = true) ∧
    Effect .alcCounterClear s (fun u => u.reg R.ALC_CNT = 0) ∧
    (s.f Fl.ALC_STAT_STATE = 0 ∨ s.f Fl.ALC_STAT_STATE = 2 → Effect .allocatorEnable s fun u => u.f Fl.ALC_CTL_EN = 1 ∧
      u.f Fl.ALC_STAT_STATE = s.f Fl.ALC_STAT_STATE + 1) ∧
    (s.f Fl.ALC_STAT_STATE = 1 ∨ s.f Fl.ALC_STAT_STATE = 3 → Effect .allocatorDisable s fun u => u.f Fl.ALC_CTL_EN = 0 ∧
      u.f Fl.ALC_STAT_STATE = 2) ∧
    (∀ p v, (p < 24 → Effect (.reqWrite p v) s fun u => u.reg R.ALC_PREQ p = v ∧ u.f Fl.ALC_PSTAT_STALE p = 0) ∧
      (24 ≤ p → s.f Fl.LPE_TAKE_ACTIVE = 0 → Effect (.reqWrite p v) s fun u => u = { s with busError := true })) ∧
    (∀ v, Effect (.priceWrite v) s fun u => u.reg R.ALC_PRICE = v ∧ u.alc.priceAged = false) ∧
    (∀ p, p < 48 → s.f Fl.ALC_AGE_REQAGE ≠ 0 → Effect (.reqAged p) s fun u => u.f Fl.ALC_PSTAT_STALE p = 1) ∧
    (s.f Fl.ALC_AGE_PRICEAGE ≠ 0 → Effect .priceAged s fun u => u.alc.priceAged = true) ∧
    ∀ n, 3 ≤ cellsGet 0 s.alc.exceeded n → Effect (.nodeViolation n) s fun u => cause u 4

/-! ### Vehicle sessions (spec/08) -/

/-- R271, R274 to R278, R284, R288 to R290, R297, R306: the session machine. -/
def Obligations.SessionStates : Prop :=
  ∀ (c : Nat) (s : State), c < 48 →
    let x := s.ses c
    let cause (u : State) (j : Nat) : Prop := bitOf (u.f ⟨R.PRT_GCAUSE, 0, 29⟩ (portGroup c)) j = true
    let noted (u : State) (j : Nat) : Prop := cause u j ∧
      u.f Fl.VEH_SSTAT_STOPCODE c = if s.f Fl.VEH_SSTAT_STOPCODE c = 0 then j else s.f Fl.VEH_SSTAT_STOPCODE c
    let stops (i : Instr) (j : Nat) : Prop := Effect i s fun u => u.sst c = sStopping ∧ noted u j
    let ends (i : Instr) (j : Nat) : Prop := Effect i s fun u => u.sst c = sEnd ∧ noted u j ∧ (u.ses c).tcp = false
    let goes (i : Instr) (st : Nat) : Prop := Effect i s fun u => u.sst c = st
    (s.midSession c = true →
      stops (.sessionStop c) 10 ∧ stops (.tseqExpiry c) 11 ∧ stops (.vehicleLinkLost c) 14 ∧
      (x.outstanding = true → stops (.trespExpiry c) 11) ∧ (x.tcp = true → stops (.sessionStopReq c) 10)) ∧
    (s.sst c = sCharge → stops (.tloopExpiry c) 11) ∧
    (s.sst c = sCableCheck → stops (.tchkExpiry c) 11) ∧
    (s.sst c = sLink → ends (.tlinkExpiry c) 14 ∧ ends (.vehicleLinkLost c) 14) ∧
    (s.sst c = sSetup → ends (.tsetupExpiry c) 14 ∧ ends (.vehicleLinkLost c) 14) ∧
    (∀ f, s.sst c = sPlugged → s.feOf c = some f → bitOf (s.f Fl.VEH_STAT_PLCWAIT) f = true → ends (.tplcExpiry c) 14) ∧
    (s.sst c = sAuth → goes (.proceed c) sParam) ∧
    (s.sst c = sParam → goes (.proceed c) sCableCheck) ∧
    (let free : Prop := s.f Fl.THM_PSTAT_NOGO c = 0 ∨ 24 ≤ c;
      (s.sst c = sPrecharge → x.delivery = some .start → s.gst (portGroup c) = gReady → free → goes (.proceed c) sCharge) ∧
      (s.sst c = sPause → x.delivery = some .start → free → goes (.proceed c) sCharge)) ∧
    (s.sst c = sCharge → x.delivery = some .standby → s.f Fl.VEH_SSTAT_PROTOSEL c = 3 → goes (.proceed c) sPause) ∧
    (s.sst c = sFault → goes (.sessionClear c) sUnlock) ∧
    (s.sst c = sIdle → (∀ i ∈ [Instr.proceed c, .sessionStop c, .sessionClear c], Effect i s fun u =>
      u.sst c = sIdle ∧ u.f Fl.VEH_SSTAT_CMDERR c = 1)) ∧
    (s.sst c = sIdle → Effect (.sessionEnable c) s fun u => u.f Fl.VEH_SCFG_EN c = 1 ∧ (u.ses c).active = true) ∧
    (s.sst c ≠ sIdle → x.active = false → Effect (.sessionEnable c) s fun u => u.f Fl.VEH_SSTAT_PEND c = 1 ∧
      (u.ses c).active = false) ∧
    (s.sst c = sIdle → Effect (.sessionDisable c) s fun u => u.f Fl.VEH_SCFG_EN c = 0 ∧ (u.ses c).active = false) ∧
    (sPlugged ≤ s.sst c → s.sst c ≤ sPause → stops (.sessionDisable c) 10) ∧
    (∀ f m k, f < 24 → m < 4 → k < 64 →
      let idle (c : Nat) : Prop := 48 ≤ c ∨ s.sst c = sIdle
      (idle (s.f Fl.VEH_FE_CTX f) → idle k → Effect (.frontEndConfig f m k) s fun u => u.f Fl.VEH_FE_MODE f = m ∧
        u.f Fl.VEH_FE_CTX f = k) ∧
      (¬ (idle (s.f Fl.VEH_FE_CTX f) ∧ idle k) → Effect (.frontEndConfig f m k) s fun u => u.reg R.VEH_FE f = s.reg R.VEH_FE f)) ∧
    (∀ f, f < 24 → s.f Fl.VEH_FE_CTX f = c → s.feMode f ≠ 0 →
      (∀ n, Effect (.pilotStateQualified f (.mcs n)) s fun u => u.f Fl.VEH_SSTAT_PILOT c = min n 6) ∧
      (∀ hi lo, lo ≤ -11000 →
        let shows (k : Nat) : Prop := Effect (.pilotStateQualified f (.ccs hi lo)) s fun u => u.f Fl.VEH_SSTAT_PILOT c = k
        (11000 ≤ hi → hi ≤ 13000 → shows 0) ∧ (8000 ≤ hi → hi ≤ 10000 → shows 1) ∧
          (5000 ≤ hi → hi ≤ 7000 → shows 2) ∧ (2000 ≤ hi → hi ≤ 4000 → shows 3)) ∧
      (s.feOf c = some f → s.sst c = sCharge → stops (.pilotStateQualified f (.mcs 1)) 15)) ∧
    (c < 24 → s.f Fl.THM_PSTAT_NOGO c = 1 → s.sst c = sCharge → Effect (.nogoStop c) s fun u => u.sst c = sStopping ∧ cause u 16)

/-- R278 to R287, R292 to R296: what goes over a session's connection. -/
def Obligations.SessionMessages : Prop :=
  ∀ (c : Nat) (s : State), c < 48 →
    let x := s.ses c
    let cause (u : State) (j : Nat) : Prop := bitOf (u.f ⟨R.PRT_GCAUSE, 0, 29⟩ (portGroup c)) j = true
    let stops (i : Instr) (j : Nat) : Prop := Effect i s fun u => u.sst c = sStopping ∧ cause u j
    let ends (i : Instr) (j : Nat) : Prop := Effect i s fun u => u.sst c = sEnd ∧ cause u j
    (∀ f, f < 24 → s.f Fl.VEH_FE_TYPE f = 0 → s.feMode f = 1 → s.f Fl.VEH_FE_PLC f ≠ 0xF →
      (∀ run db, Effect (.slacMessage f (.atten run db)) s fun u => cellsFind (u.fe f).runs run = some db) ∧
      (∀ run a, s.f Fl.VEH_FE_CTX f = c → s.sst c = sLink → cellsFind (s.fe f).runs run = some a →
        a ≤ s.f Fl.VEH_TIM2_ATTMAX → s.strongerElsewhere f run a = false → Effect (.slacMessage f (.matchReq run)) s fun u =>
          (u.ses c).link = true)) ∧
    (∀ f, s.linking f = some c →
      (x.link = true → Effect (.sdpRequest f) s fun u => (u.ses c).sdp = true) ∧
      (x.sdp = true → Effect (.tcpConnect f) s fun u => (u.ses c).tcp = true) ∧
      (s.f Fl.VEH_FE_TYPE f = 1 → Effect (.t1sLinkUp f) s fun u => (u.ses c).link = true)) ∧
    (s.sst c = sSetup →
      (∀ offers k, (s.protocols c).find? (fun k => offers.any fun o => o.proto == k) = some k →
        Effect (.supportedAppProtocol c offers) s fun u => u.f Fl.VEH_SSTAT_PROTOSEL c = k) ∧
      (∀ offers, (s.protocols c).find? (fun k => offers.any fun o => o.proto == k) = none →
        ends (.supportedAppProtocol c offers) 13) ∧
      (s.f Fl.VEH_SSTAT_PROTOSEL c = 3 → ∀ suites groups sigs,
        (∀ a b d, firstOffered tlsSuites suites = some a → firstOffered tlsGroups groups = some b →
          firstOffered tlsSignatures sigs = some d → Effect (.clientHello c suites groups sigs) s fun u =>
            (u.ses c).hello = some (a, b, d)) ∧
        (firstOffered tlsSuites suites = none → ends (.clientHello c suites groups sigs) 12))) ∧
    (∀ a b, x.hello.isSome = true → Effect (.tlsSecretsWrite c a b) s fun u => u.f Fl.VEH_SSTAT_TLS c = 1 ∧
      (u.ses c).secrets = some (a, b) ∧ (u.ses c).rxCount = 0 ∧ (u.ses c).txCount = 0) ∧
    Effect (.receiveRelease c) s (fun u => match x.held with
      | none => u.f Fl.VEH_RXLEN_LEN c = 0
      | some p => u.f Fl.VEH_RXLEN_LEN c = p.length % 2 ^ 14 ∧ (u.ses c).held = none ∧ (u.ses c).lastRequest = p) ∧
    (s.connected c = true →
      (∀ m, s.midSession c = true → s.f Fl.VEH_SSTAT_TLS c = 1 → m.recordOk = false → stops (.v2gtpFrame c m) 12) ∧
      (∀ m, m.recordOk = true → m.version ≠ 1 ∨ m.inverse ≠ 0xFE ∨ m.length ≠ m.payload.length → Effect (.v2gtpFrame c m) s fun u =>
        u.f Fl.VEH_LOOPCNT_BADFRAME c = min 65535 (s.f Fl.VEH_LOOPCNT_BADFRAME c + 1)) ∧
      (∀ m, m.recordOk = true → m.version = 1 → m.inverse = 0xFE → m.length = m.payload.length → m.payload.length ≤ 8192 →
        m.loop = false → s.f Fl.VEH_RXLEN_LEN c = 0 → Effect (.v2gtpFrame c m) s fun u =>
          u.f Fl.VEH_RXLEN_LEN c = m.payload.length ∧ (u.ses c).outstanding = true ∧ (u.ses c).lastRequest = m.payload) ∧
      (∀ n, 1 ≤ n → n ≤ 8192 → x.outstanding = true →
        (Effect (.responseSend c n) s fun u => (u.ses c).outstanding = false ∧
          (u.ses c).lastResponse = some (.bytes (s.bytes (s.f Fl.VEH_TXADDR_ADDR c) n)) ∧
          (s.onRing = false → (u.ses c).wire = (u.ses c).lastResponse)) ∧
        (s.sst c = sSetup → s.f Fl.VEH_SSTAT_PROTOSEL c = 1 ∨ s.f Fl.VEH_SSTAT_PROTOSEL c = 2 ∨ s.f Fl.VEH_SSTAT_TLS c = 1 ∧
          s.f Fl.VEH_SSTAT_PROTOSEL c = 3 → Effect (.responseSend c n) s fun u => u.sst c = sAuth)) ∧
      (let done : Prop := s.sst c = sCableCheck ∧ s.gst (portGroup c) = gCheck ∧ s.f Fl.SFY_PSTAT_ISO c = 1;
        Effect (.cableCheckReq c) s fun u => (u.ses c).checked = (x.checked || decide done) ∧
          ∃ a, (u.ses c).lastResponse = some (.loop a) ∧ a.finished = decide done) ∧
      (∀ v, Effect (.preChargeReq c v) s fun u => u.reg R.VEH_EVV c = v ∧
        (s.sst c = sCableCheck → x.checked = true → u.sst c = sPrecharge)) ∧
      (∀ ti tv n, s.sst c = sCharge →
        let taken (u : State) : Prop := u.reg R.VEH_EVI c = ti ∧ u.reg R.VEH_EVV c = tv ∧
          (0 ≤ ti.toInt → u.reg R.ALC_PREQ c = BitVec.ofInt 32 (min ti.toInt (s.f Fl.VEH_LIMI_LIMI c)))
        Effect (.currentDemandReq c ti tv n false) s taken ∧ Effect (.dcChargeLoopReq c ti tv n false) s taken ∧
          stops (.currentDemandReq c ti tv n true) 10 ∧ stops (.dcChargeLoopReq c ti tv n true) 10) ∧
      (∀ k p, k ≠ .stop → Effect (.powerDeliveryReq c k p) s fun u => (u.ses c).delivery = some k ∧ u.sst c = s.sst c) ∧
      (∀ p, s.midSession c = true → stops (.powerDeliveryReq c .stop p) 10)) ∧
    (∀ m, x.heldFrame = some m →
      (Effect (.deltaAck c) s fun u => (u.ses c).wire = some m ∧ (u.ses c).heldFrame = none ∧ u.f Fl.VEH_SSTAT_UNCONF c = 0) ∧
      Effect (.deltaReleaseTimeout c) s fun u => (u.ses c).wire = some m ∧ (u.ses c).heldFrame = none ∧
        u.f Fl.VEH_SSTAT_UNCONF c = 1) ∧
    (∀ f, f < 24 → s.feMode f = 2 → s.f Fl.VEH_FE_CTX f = c →
      (∀ n, Effect (.standbyFrameObserved f (.request c n)) s fun u => (u.ses c).seen = some n ∧ (u.ses c).answered = false) ∧
      (24 ≤ c → s.sst c ≠ sIdle → s.f Fl.RNG_STAT_GUEST = 1 → s.f Fl.VEH_FE_NOPLC f = 0 →
        Effect (.standbyTakeover f) s fun u => (u.fe f).driving = true ∧
          ∀ m, x.answered = false → x.lastResponse = some m → (u.ses c).wire = some m)) ∧
    ∀ f, c < 24 → s.sst c ≠ sIdle → x.outstanding = false → x.heldFrame = none → s.f Fl.VEH_SSTAT_UNCONF c = 0 → s.feOf c = some f →
      Effect (.sessionHandover c) s fun u => u.sst c = sIdle ∧ (u.fe f).released = true ∧ (u.ses c).active = false

/-! ### Cable cooling (spec/09) -/

/-- R301 to R306, R311, R316: the sensors and the window. -/
def Obligations.CableCooling : Prop :=
  ∀ s : State,
    (∀ (i ohms : Nat) (t : Int), i < 80 → -32768 ≤ t → t < 32768 →
      let pt := i < 64 ∧ s.f Fl.THM_SCFG_TYPE i = 1
      let ntc := i < 64 ∧ s.f Fl.THM_SCFG_TYPE i = 2
      let opened := pt ∧ 4000 < ohms ∨ ntc ∧ 2000000 < ohms
      let short := pt ∧ ohms < 500 ∨ ntc ∧ ohms < 20
      (pt ∨ ntc ∨ 64 ≤ i →
        (¬ opened → ¬ short → Answers (.sensorConversion i ohms t) s fun u => (u.sen i).good = (s.sen i).good + 1 ∧
          (u.sen i).bad = 0 ∧ (s.f Fl.THM_SSTAT_FAULT i = 0 → u.fi Fl.THM_SSTAT_T i = t ∧ u.f Fl.THM_SSTAT_FB i = 0)) ∧
        (opened ∨ short → Answers (.sensorConversion i ohms t) s fun u => (u.sen i).good = 0 ∧
          (u.sen i).bad = (s.sen i).bad + 1 ∧ (opened → (u.sen i).kind = 1) ∧ (short → (u.sen i).kind = 2) ∧
          u.reg R.THM_SSTAT i = s.reg R.THM_SSTAT i)) ∧
      (s.thm.conv.toList.getD i none = some t → s.f Fl.THM_SSTAT_FAULT i ≠ 0 → 10 ≤ (s.sen i).good →
        Answers (.sensorRestored i) s fun u => u.f Fl.THM_SSTAT_FAULT i = 0 ∧ u.fi Fl.THM_SSTAT_T i = t ∧
          u.f Fl.THM_SSTAT_FB i = 0)) ∧
    (∀ i, i < 80 → s.f Fl.THM_SSTAT_FAULT i = 0 → 2 ≤ (s.sen i).bad → (s.sen i).kind = 1 ∨ (s.sen i).kind = 2 →
      let a := s.f Fl.THM_SCFG_ALT i
      let other := s.f Fl.THM_SCFG_FBFIX i = 0 ∧ a < 80 ∧ a ≠ i ∧ s.f Fl.THM_SSTAT_FAULT a = 0 ∧ s.fi Fl.THM_SSTAT_T a ≠ -32768
      Answers (.sensorBroken i) s fun u => u.f Fl.THM_SSTAT_FAULT i = (s.sen i).kind ∧ u.f Fl.THM_SSTAT_PERIOD i = 2 ∧
        u.f Fl.THM_SSTAT_FB i = 1 ∧ bitOf (u.f Fl.THM_STAT_CAUSE) 0 = true ∧
        (other → u.f Fl.THM_SSTAT_T i = unsignedOf 16 (s.fi Fl.THM_SSTAT_T a + s.fi Fl.THM_SFB_OFFS i)) ∧
        (¬ other → u.f Fl.THM_SSTAT_T i = s.f Fl.THM_SFB_FIXT i)) ∧
    (∀ p, p < 24 →
      Answers (.flowEdge p) s (fun u => (u.tp p).edge = some (s.now / 1000) ∧ (u.tp p).edgeBefore = (s.tp p).edge) ∧
      (Answers .flowCompute s fun u =>
        (∀ e b, (s.tp p).edge = some e → (s.tp p).edgeBefore = some b →
          let d := max (e - b) (s.now / 1000 - e)
          let q := 60000000000 / (s.f Fl.THM_FLOWCFG_KF p * d)
          (60000000 ≤ s.now / 1000 - e → u.f Fl.THM_FLOW_FLOW p = 0) ∧
          (s.now / 1000 - e < 60000000 → 0 < d → 0 < s.f Fl.THM_FLOWCFG_KF p → q < 2 ^ 16 → u.f Fl.THM_FLOW_FLOW p = q)) ∧
        (if s.inletIn p 0 = true ∧ s.f Fl.THM_FLOWCFG_FLOWMIN p ≤ u.f Fl.THM_FLOW_FLOW p ∧ s.f Fl.THM_PCH_EN p = 1
          then u.f Fl.THM_PSTAT_NOGO p = s.f Fl.THM_PSTAT_NOGO p
          else u.f Fl.THM_PSTAT_NOGO p = 1 ∧ (s.f Fl.THM_PSTAT_NOGO p = 0 → u.f Fl.THM_CABLE_CABLE p = 0))) ∧
      Answers (.nogoClear p) s (fun u => u.f Fl.THM_PSTAT_NOGO p =
        if s.f Fl.THM_PCH_EN p = 1 ∧ s.inletIn p 100 = true ∧ s.f Fl.THM_FLOWCFG_FLOWMIN p ≤ s.f Fl.THM_FLOW_FLOW p
          then 0 else s.f Fl.THM_PSTAT_NOGO p)) ∧
    (∀ p, p < 48 →
      (s.reefMayFall p = true → Answers (.thermalReefFall p) s fun u =>
        u.f Fl.THM_PSTAT_TREEF p = s.f Fl.THM_PSTAT_TREEF p - 1 ∧ bitOf (u.f Fl.THM_STAT_CAUSE) 2 = true) ∧
      (s.reefMayFall p = false → Answers (.thermalReefFall p) s fun u =>
        u.f Fl.THM_PSTAT_TREEF p = s.f Fl.THM_PSTAT_TREEF p)) ∧
    (s.nvOk = true → Answers .thermalRecordWrite s fun u => u.thm.saved =
      some ((List.range 48).filterMap (fun p => (s.tp p).obs.map fun o => (p, o)),
        ((List.range 80).filter fun i => decide (s.f Fl.THM_SSTAT_FAULT i ≠ 0)).map fun i => (i, s.f Fl.THM_SSTAT_FAULT i))) ∧
    (s.nvOk = false → Answers .thermalRecordWrite s fun u => u.thm.saved = s.thm.saved)

/-- R308 to R310: the cable observer. -/
def Obligations.CableObserver : Prop :=
  ∀ (p : Nat) (s : State), p < (if s.b Fl.RNG_STAT_GUEST then 48 else 24) →
    let own := p < 24
    let shown (u : State) (v : Nat) : Prop :=
      u.f Fl.THM_CABLE_CABLE p = if own ∧ s.f Fl.THM_PSTAT_NOGO p = 1 then 0 else v
    (s.obsFallback p = true → Answers .observerStep s fun u => u.f Fl.THM_PSTAT_OBSFB p = 1 ∧
      (u.tp p).obs = (s.tp p).obs ∧ shown u (min (s.f Fl.THM_ISTAT_ISTAT p) (s.f Fl.THM_IMAXH_IMAXH p))) ∧
    ∀ o, s.obsFallback p = false → s.f Fl.THM_PSTAT_OBSFB p = 0 → (s.tp p).obs = some o →
      let i := (s.reg R.PRT_GTEL (12 * portGroup p)).toInt
      let tin : Int := (if own then (s.inlet p).getD 0 else s.fi Fl.THM_WIN_TCMAX p) * 10000
      let tout : Option Int := if own then (s.outlet p).map (· * 10000) else none
      let c1 : Int := (1000 * s.f Fl.THM_CAP_C1 p : Nat)
      let c2 : Int := (1000 * s.f Fl.THM_CAP_C2 p : Nat)
      let res (t : Int) : Int := Int.tdiv (s.f Fl.THM_R20_R20 p * (1000000 +
        Int.tdiv (s.f Fl.THM_COEF_ALPHA p * (t - 20000000)) 1000000)) 1000000
      let gf : Int := (if own then s.f Fl.THM_FLOW_FLOW p * s.f Fl.THM_COEF_CPV p / 60 else 0 : Nat)
      let p1 := Int.tdiv (i * i * res o.t1) 1000000
      let p12 := Int.tdiv (s.f Fl.THM_G12_G12 p * (o.t1 - o.t2)) 1000
      let pf := Int.tdiv (gf * (o.t2 - tin)) 1000
      let n1 := p1 - p12 + o.f1
      let n2 := p12 - pf + o.f2
      Answers .observerStep s fun u => u.f Fl.THM_PSTAT_OBSFB p = 0 ∧ ∃ x, (u.tp p).obs = some x ∧
        x.t1 = o.t1 + Int.tdiv n1 c1 ∧ x.f1 = Int.tmod n1 c1 ∧ x.f2 = Int.tmod n2 c2 ∧
        (tout = none → x.t2 = o.t2 + Int.tdiv n2 c2) ∧
        (∀ y, tout = some y → x.t2 = o.t2 + Int.tdiv n2 c2 +
          Int.tdiv ((y - (o.t2 + Int.tdiv n2 c2)) * s.f Fl.THM_OBS_LOBS p) 256) ∧
        (let tlim := s.fi Fl.THM_LIM_TLIM p * 10000
         let eh : Int := s.f Fl.THM_OBS_EH p
         let tss := tlim + Int.tdiv ((tlim - x.t1) * eh) (65536 - eh)
         let top (v : Nat) : Nat := if own then v else min v (s.f Fl.THM_ISTAT_ISTAT p)
         (tss ≤ x.t2 → shown u 0) ∧
         (∀ r : Nat, x.t2 < tss → 0 < res tlim →
           let y := ((tss - x.t2) * s.f Fl.THM_G12_G12 p * 1000 / res tlim).toNat
           r * r ≤ y → y < (r + 1) * (r + 1) → r < 2 ^ 64 → shown u (top (min (s.f Fl.THM_IMAXH_IMAXH p) r))))

/-! ### Metrology and billing (spec/10, spec/11) -/

/-- R326 to R349: the metering commands but for the fold. -/
def Obligations.Metering : Prop :=
  ∀ s : State,
    let cause (u : State) (j : Nat) : Prop := bitOf (u.f Fl.MTR_STAT_CAUSE) j = true
    (∀ m, m < 24 →
      (∀ (i v : Int) (t0 : Nat), (s.mt m).lastEnd = some t0 →
        let ci := s.calI m (max (-3600000) (min 3600000 i))
        let cv := s.calV m (max (-1500000) (min 1500000 v))
        let p := ci * cv * 1000000 - ci * ci * s.f Fl.MTR_RCOMP_RCOMP m
        let e := p.natAbs * (s.now - t0)
        let runs := 1000 * 2 ^ 30 ≤ ci.natAbs ∧ s.f Fl.MTR_MSTAT_FAULT m = 0
        Answers (.meterSample m i v) s fun u => (u.mt m).lastEnd = some s.now ∧
          (3600000 < i.natAbs ∨ 1500000 < v.natAbs → u.f Fl.MTR_MSTAT_OVR m = 1 ∧ cause u 0) ∧
          (runs → 0 < p → (u.mt m).rawRec = (s.mt m).rawRec ∧ ∃ n, n * energyUnit + (u.mt m).carryDel = e + (s.mt m).carryDel ∧
            (u.mt m).carryDel < energyUnit ∧ (u.mt m).rawDel = ((s.mt m).rawDel + n) % 2 ^ 48) ∧
          (runs → p < 0 → (u.mt m).rawDel = (s.mt m).rawDel ∧ ∃ n, n * energyUnit + (u.mt m).carryRec = e + (s.mt m).carryRec ∧
            (u.mt m).carryRec < energyUnit ∧ (u.mt m).rawRec = ((s.mt m).rawRec + n) % 2 ^ 48) ∧
          (¬ runs → (u.mt m).rawDel = (s.mt m).rawDel ∧ (u.mt m).rawRec = (s.mt m).rawRec)) ∧
      (∀ i v, Answers (.fastTapSample m i v) s fun u => u.reg R.MTR_FTI m = BitVec.ofInt 32 (Int.tdiv (s.calI m i) (2 ^ 30)) ∧
        u.reg R.MTR_FTV m = BitVec.ofInt 32 (Int.tdiv (s.calV m v) (2 ^ 30))) ∧
      (s.f Fl.MTR_MSTAT_FAULT m = 0 → Answers (.meterCheck m false) s fun u => u.f Fl.MTR_MSTAT_FAULT m = 1 ∧
        u.f Fl.MTR_MSTAT_SEC m = 1 ∧ cause u 1 ∧ (u.mt m).failed = true) ∧
      Answers (.meterCheck m true) s (fun u => u.reg R.MTR_MSTAT m = s.reg R.MTR_MSTAT m ∧ (u.mt m).failed = false) ∧
      ((s.mt m).failed = false → Answers (.meterFaultClear m) s fun u => u.f Fl.MTR_MSTAT_FAULT m = 0 ∧
        u.f Fl.MTR_MSTAT_SEC m = 0) ∧
      (let due := s.f Fl.MTR_MCFG_PEN m = 1 ∧ (s.mt m).pulse = false ∧ s.pulsesDue m ≠ 0 ∧ s.metersRun = true
       (due → Answers (.pulseStart m) s fun u => (u.mt m).pulse = true ∧
         u.f Fl.MTR_PCNT_PCNT m = (s.f Fl.MTR_PCNT_PCNT m + 1) % 2 ^ 32) ∧
       (¬ due → Answers (.pulseStart m) s fun u => u.f Fl.MTR_PCNT_PCNT m = s.f Fl.MTR_PCNT_PCNT m)) ∧
      Answers (.pulseEnd m) s (fun u => (u.mt m).pulse = false)) ∧
    (∀ gp1 v i hz, Answers (.gridCompute gp1 v i hz) s fun u =>
      let ex := decide (gp1 < 0)
      let n := gp1.natAbs * 65536 + (s.gin ex).carryOwn
      u.reg R.MTR_GP1 = BitVec.ofInt 32 gp1 ∧ u.f Fl.MTR_GFREQ_F = hz % 2 ^ 32 ∧
        (∀ k, k < 3 → u.f Fl.MTR_GRMSV_V k = v.getD k 0 % 2 ^ 32 ∧ u.f Fl.MTR_GRMSI_I k = i.getD k 0 % 2 ^ 32) ∧
        (s.f Fl.MTR_GSTAT_MODE ≠ 1 → (u.gin ex).carryOwn = n % 3600 ∧
          u.gridTotals.1 = (if ex then s.gridTotals.1 else s.gridTotals.1 + n / 3600) % 2 ^ 80 ∧
          u.gridTotals.2 = (if ex then s.gridTotals.2 + n / 3600 else s.gridTotals.2) % 2 ^ 80) ∧
        (s.f Fl.MTR_GSTAT_MODE = 1 → (s.gin ex).own + n / 3600 < 3 * s.quantum ex → u.gridTotals = s.gridTotals) ∧
        (s.f Fl.MTR_GSTAT_MODE = 1 → 3 * s.quantum ex ≤ (s.gin ex).own + n / 3600 →
          u.f Fl.MTR_GSTAT_MODE = 0 ∧ u.f Fl.MTR_GSTAT_REASON = 2 ∧ cause u 4 ∧ cause u 5)) ∧
    (∀ ex w,
      (w < 2000 → Answers (.utilityPulse ex w) s fun u =>
        u.f Fl.MTR_GSTAT_SHORTP = min 65535 (s.f Fl.MTR_GSTAT_SHORTP + 1) ∧ u.gridTotals = s.gridTotals) ∧
      (2000 ≤ w → s.f Fl.MTR_GSTAT_MODE = 1 → Answers (.utilityPulse ex w) s fun u =>
        let n := 65536000000 + (s.gin ex).carryPulse
        (u.gin ex).carryPulse = n % s.kg ex ∧ (u.gin ex).own = 0 ∧
          u.gridTotals.1 = (if ex then s.gridTotals.1 else s.gridTotals.1 + n / s.kg ex) % 2 ^ 80 ∧
          u.gridTotals.2 = (if ex then s.gridTotals.2 + n / s.kg ex else s.gridTotals.2) % 2 ^ 80) ∧
      (2000 ≤ w → s.f Fl.MTR_GSTAT_MODE = 0 → s.f Fl.MTR_GCFG_FORCE = 1 → Answers (.utilityPulse ex w) s fun u =>
        u.f Fl.MTR_GSTAT_MODE = 0 ∧ (u.gin ex).agree = 0 ∧ u.gridTotals = s.gridTotals)) ∧
    Answers .gridForce s (fun u => u.f Fl.MTR_GCFG_FORCE = 1 ∧
      (s.f Fl.MTR_GSTAT_MODE = 1 → u.f Fl.MTR_GSTAT_MODE = 0 ∧ u.f Fl.MTR_GSTAT_REASON = 1 ∧ cause u 4)) ∧
    (∀ low addr v r i, metroAt addr = some (r, i) →
      let own := r ∈ [R.MTR_MCFG, R.MTR_IGAIN, R.MTR_IOFF, R.MTR_VGAIN, R.MTR_VOFF, R.MTR_RCOMP]
      let taken := low = true ∧ (own → (s.mt i).amps.natAbs < 2000) ∧ metroRange r v = true
      (taken → Answers (.metrologyConfigWrite low addr v) s fun u => u.reg r i = (plainWrite r i v s).reg r i ∧
        u.f Fl.MTR_CALCNT_COUNT = (s.f Fl.MTR_CALCNT_COUNT + 1) % 2 ^ 32 ∧ cause u 2 ∧ u.f Fl.MTR_STAT_CALEN = 1) ∧
      (¬ taken → Answers (.metrologyConfigWrite low addr v) s fun u => u.reg r i = s.reg r i ∧ cause u 3 ∧
        u.f Fl.MTR_CALCNT_COUNT = s.f Fl.MTR_CALCNT_COUNT)) ∧
    (let b := s.q R.MTR_BNDL R.MTR_BNDH
     let m := s.f Fl.MTR_BNDCTL_METER
     let refused := 8 ≤ s.mtr.queue.length ∨ b < s.now ∨ 24 < m
     (refused → Answers .boundaryEnqueue s fun u => u.f Fl.MTR_BNDCTL_ERR = 1 ∧ cause u 7 ∧ u.mtr.queue = s.mtr.queue) ∧
     (¬ refused → Answers .boundaryEnqueue s fun u => u.mtr.queue = s.mtr.queue ++ [(b, m, s.f Fl.MTR_BNDCTL_TAG)] ∧
       u.f Fl.MTR_BNDCTL_COUNT = s.mtr.queue.length + 1)) ∧
    Answers .boundaryLatch s (fun u => u.mtr.queue = s.mtr.queue.filter fun e => decide (s.now < e.1)) ∧
    ∀ b m tag, (s.mtr.queue.filter fun e => decide (e.1 ≤ s.now)) = [(b, m, tag)] → b < 2 ^ 64 → m < 25 → tag < 256 →
      s.mtr.resNext < 16 → Answers .boundaryLatch s fun u => let k := s.mtr.resNext
        u.f Fl.MTR_RES0_VALID k = 1 ∧ u.f Fl.MTR_RES0_METER k = m ∧ u.f Fl.MTR_RES0_TAG k = tag ∧
          u.q R.MTR_RESBL R.MTR_RESBH k = b ∧ u.q R.MTR_RESEDL R.MTR_RESEDH k = (s.meterTotals m b).1 / 65536 % 2 ^ 64 ∧
          u.mtr.resNext = (k + 1) % 16 ∧ cause u 7

/-- R359 to R387: the billing commands. -/
def Obligations.Billing : Prop :=
  ∀ s : State,
    let cause (u : State) (j : Nat) : Prop := bitOf (u.f Fl.BIL_STAT_CAUSE) j = true
    (s.bil.slots = [] → Answers .boundaryProcess s fun u => u.without settledPart = s.without settledPart) ∧
    (∀ x rest, s.bil.slots = x :: rest → Answers .boundaryProcess s fun u => u.bil.slots = rest ∧
      u.f Fl.BIL_ISEQ_ISEQ = (s.f Fl.BIL_ISEQ_ISEQ + 1) % 2 ^ 32 ∧ u.bil.work.lastQ = some x.q ∧ u.bil.work.grp = [] ∧
      (x.d = true → s.bil.work.dS.isSome = true → ∀ m, m < 25 →
        let d := s.demandOf x m
        u.f Fl.BIL_DLAST_D m = d % 2 ^ 32 ∧ (s.resetDue x = false → d < 2 ^ 32 → s.bil.work.dTar < 8 →
          u.f Fl.BIL_DMAX0_D (8 * m + s.bil.work.dTar) = max d (s.f Fl.BIL_DMAX0_D (8 * m + s.bil.work.dTar)))) ∧
      (x.d = true → u.bil.work.dS = some x.opens ∧ u.bil.work.dT = x.toto.map (·.1)) ∧
      (∀ m r, m < 25 → r < 8 → u.q R.BIL_TDELL R.BIL_TDELH (8 * m + r) =
        if x.p = true ∧ s.bil.work.pS.isSome = true ∧ r = s.f Fl.BIL_STAT_TARIFF then
          (s.q R.BIL_TDELL R.BIL_TDELH (8 * m + r) + ((x.tot.getD m (0, 0)).1 - (s.bil.work.pT.getD m (0, 0)).1)) % 2 ^ 64
        else s.q R.BIL_TDELL R.BIL_TDELH (8 * m + r)) ∧
      (x.p = true → u.bil.work.pS = some x.opens ∧ u.bil.work.pT = x.toto ∧ cause u 0 ∧
        (s.bil.work.pS.isSome = true → s.bil.staged.length < 192 → u.bil.staged.length = s.bil.staged.length + 1))) ∧
    (s.calendarOk passiveCal = true → Answers .calendarActivate s fun u => u.f Fl.BIL_STAT_ACTPEND = 1) ∧
    (s.calendarOk passiveCal = false → Answers .calendarActivate s fun u => u.f Fl.BIL_STAT_CALERR = 1 ∧ cause u 4 ∧
      u.f Fl.BIL_STAT_ACTPEND = s.f Fl.BIL_STAT_ACTPEND) ∧
    Answers .demandResetRequest s (fun u => u.bil.work = { s.bil.work with rst := true }) ∧
    (∀ code,
      (code ≤ 4 → Answers (.demlenWrite code) s fun u => u.f Fl.BIL_CTL_DEMLEN = code ∧
        u.f Fl.BIL_STAT_DLENPEND = if code = s.bil.work.demlen then 0 else 1) ∧
      (4 < code → Answers (.demlenWrite code) s fun u => u.f Fl.BIL_STAT_CALERR = 1 ∧ cause u 4 ∧
        u.f Fl.BIL_CTL_DEMLEN = s.f Fl.BIL_CTL_DEMLEN)) ∧
    (s.f Fl.BIL_CTL_EN = 1 → Answers .billingEnable s fun u => u.without settledPart = s.without settledPart) ∧
    (s.f Fl.BIL_CTL_EN = 0 → -2 ^ 63 ≤ s.time.koff → s.time.koff < 2 ^ 63 → Answers .billingEnable s fun u =>
      u.f Fl.BIL_CTL_EN = 1 ∧ u.qi R.BIL_KOFFL R.BIL_KOFFH = s.time.koff ∧
        (s.bil.work.lastQ = none →
          let ends (q : Int) : Prop := (900000000000 : Int) ∣ q ∨ ((demMinutes s.bil.work.demlen * 60000000000 : Nat) : Int) ∣ q
          ends u.bil.work.nextQ ∧ s.calendar < u.bil.work.nextQ ∧
            ∀ q, ends q → s.calendar < q → u.bil.work.nextQ ≤ q)) ∧
    Answers .sealOpen s (fun u => u.f Fl.BIL_TCOUNT_COUNT 8 = min (2 ^ 32 - 1) (s.f Fl.BIL_TCOUNT_COUNT 8 + 1) ∧
      u.q R.BIL_TLASTL R.BIL_TLASTH 8 = s.now ∧ cause u 2 ∧ u.q R.BIL_TFIRSTL R.BIL_TFIRSTH 8 =
        if s.f Fl.BIL_TCOUNT_COUNT 8 = 0 then s.now else s.q R.BIL_TFIRSTL R.BIL_TFIRSTH 8) ∧
    ∀ k, k < 24 →
      (Answers .displayFrame s fun u =>
        if s.f Fl.BIL_DCFG_EN k = 1 then ∃ code flags text, text.length = 16 ∧
            let body := [BitVec.ofNat 8 k, code] ++ text ++ [flags]
            (u.disp k).frame = [0x02] ++ body ++ leBytes 2 (crc16 body) ++ [0x03]
          else u.disp k = s.disp k ∧ u.reg R.BIL_DSTAT k = s.reg R.BIL_DSTAT k) ∧
      Answers (.displayAnswer k) s (fun u => u.disp k = { s.disp k with missed := 0, good := (s.disp k).good + 1 } ∧
        u.f Fl.BIL_DSTAT_FAIL k = if 2 ≤ (s.disp k).good then 0 else s.f Fl.BIL_DSTAT_FAIL k) ∧
      Answers (.displayAnswerMissed k) s fun u => u.disp k = { s.disp k with missed := (s.disp k).missed + 1, good := 0 } ∧
        u.f Fl.BIL_DSTAT_FAIL k = (if 2 ≤ (s.disp k).missed then 1 else s.f Fl.BIL_DSTAT_FAIL k) ∧
        (2 ≤ (s.disp k).missed → s.f Fl.BIL_DSTAT_FAIL k = 0 → cause u 5)

/-! ### Signatures and crypto services (spec/12) -/

/-- R393 to R413: keys, signatures and the job queue. -/
def Obligations.Signing : Prop :=
  ∀ s : State,
    let cause (u : State) (j : Nat) : Prop := bitOf (u.f Fl.SIG_STAT_CAUSE) j = true
    (∀ r rv, s.sig.stopped = false → s.sig.current = none → s.nextSign = some r → r.key < 2 → s.reservation r.key = some rv →
      let k := r.key
      let i := s.keyNext k
      let writes := rv.closed = true ∨ i = rv.limit
      (writes → s.nvOk = false → Effect .signatureStart s fun u => cause u 3 ∧ u.sig.current = none ∧ u.keyNext k = i ∧
        u.sig.queue = s.sig.queue) ∧
      (¬ writes ∨ s.nvOk = true → i + 1 < 2 ^ 64 → Effect .signatureStart s fun u =>
        u.sig.current = some { req := { r with payload := s.signedPayload r }, index := i, gen := s.f Fl.SIG_KSTAT_GEN k, start := s.now } ∧
        u.keyNext k = i + 1 ∧ u.sig.queue = s.sig.queue.erase r ∧
        (i = rv.limit → u.reservation k = some { rv with limit := rv.limit + 64, closed := false }) ∧
        (i ≠ rv.limit → u.reservation k = some { rv with closed := false }) ∧
        (keyIndices k ≤ i + 1 → u.keyState k = 3 ∧ cause u 6))) ∧
    (∀ x, s.sig.current = some x → Effect .signatureComplete s fun u => u.sig.current = none ∧
      (x.req.kind = 1 → u.sig.prev = digest (s.envelope x) ∧
        u.sig.roots = s.sig.roots ++ [(leNat ((x.req.payload.drop 4).take 4), s.envelope x)]) ∧
      (x.req.kind = 2 → u.sig.envelopes = s.sig.envelopes ++ [s.envelope x] ∧ cause u 1 ∧
        u.f Fl.SIG_RXNEXT_SLOT = (if s.f Fl.SIG_RXBASE_BASE = 0 then s.f Fl.SIG_RXNEXT_SLOT else (s.f Fl.SIG_RXNEXT_SLOT + 1) % 16)) ∧
      (x.req.kind = 3 ∨ x.req.kind = 5 → u.sig.envelopes = s.sig.envelopes ++ [s.envelope x]) ∧
      (∀ d, x.req.kind = 4 → x.req.job = some d → u.sig.result = some 0 ∧
        u.mem = (s.dma (s.word (d + 0x0C)).toNat (s.envelope x)).mem) ∧
      (∀ h, x.req.kind = 4 → x.req.job = none → x.req.slot = some h →
        u.sig.hostDone = cellsInsert s.sig.hostDone h (s.envelope x))) ∧
    (∀ k, k < 2 →
      (s.keyState k = 1 → Effect (.keyRebuildComplete k) s fun u => u.keyState k = 2 ∧ cause u 4 ∧
        u.f (if k = 0 then Fl.SIG_STAT_KRDY0 else Fl.SIG_STAT_KRDY1) = 1) ∧
      (s.keyState k ≠ 1 → Effect (.keyRebuildComplete k) s fun u => u.keyState k = s.keyState k)) ∧
    (∀ addr : Word,
      (16 ≤ s.sig.jobs.length → Effect (.jobSubmit addr) s fun u => u.f Fl.SIG_STAT_QFULL = 1 ∧ u.sig.jobs = s.sig.jobs) ∧
      (s.sig.jobs.length < 16 → Effect (.jobSubmit addr) s fun u => u.sig.jobs = s.sig.jobs ++ [addr.toNat / 32 * 32] ∧
        u.f Fl.SIG_JOBSTAT_COUNT = s.sig.jobs.length + 1 ∧ u.f Fl.SIG_JOBSTAT_BUSY = 1)) ∧
    (∀ a rest, s.sig.jobs = a :: rest → s.sig.jobs.length ≤ 16 →
      let finished (r : Nat) : Prop := Effect .jobDone s fun u => u.sig.jobs = rest ∧ u.sig.result = none ∧ cause u 2 ∧
        u.f Fl.SIG_JOBSTAT_COUNT = rest.length ∧ u.mem = (s.dmaWord (a + 0x1C) (BitVec.ofNat 32 (2 ^ 31 + r))).mem;
      (∀ r, s.sig.result = some r → finished r) ∧
      (s.sig.result = none → (s.jobAt a).op = 0 ∨ 16 < (s.jobAt a).op → finished 1) ∧
      (s.sig.result = none → (s.jobAt a).op ≠ 0 → (s.jobAt a).op ≤ 16 → Effect .jobDone s fun u => u.sig.jobs = s.sig.jobs)) ∧
    (s.sig.current.isSome = true → s.sig.turn = 2 → Effect .engineStep s fun u => u.sig.turn = 0) ∧
    (s.sig.jobs ≠ [] → s.sig.turn = 0 → Effect .engineStep s fun u => u.sig.turn = 1) ∧
    (s.sig.jobs = [] → s.sig.turn = 0 → (∀ k, k < 8 → ∀ x, s.images.tickets.toList.getD k none = some x → x.status ≠ 0) →
      (∀ o ∈ s.host.slots.toList, ∀ x, o = some x → x.op ≠ 0x81) → s.sig.current.isSome = true →
      Effect .engineStep s fun u => u.sig.turn = 0) ∧
    Effect .attestTokenRefill s fun u => u.f Fl.SIG_STAT_ATTTOK = min 4 (s.f Fl.SIG_STAT_ATTTOK + 1)

/-- R404, R407, R409 to R411: the operations of the crypto engine. -/
def Obligations.CryptoJobs : Prop :=
  ∀ (a : Nat) (rest : List Nat) (s : State), s.sig.jobs = a :: rest → s.sig.result = none →
    let j := s.jobAt a
    let fits (b n : Nat) : Prop := n = 0 ∨ inSram b n = true
    fits j.src j.srcLen → fits j.dst j.dstLen → fits j.aux j.auxLen →
    let src := s.bytes j.src j.srcLen
    let aux := s.bytes j.aux j.auxLen
    let ends (c : Instr) (r : Nat) : Prop := Effect c s fun u => u.sig.result = some r
    let gives (c : Instr) (n : Nat) (l : List Byte) : Prop :=
      if j.dstLen < n then Effect c s fun u => u.sig.result = some 2 ∧ u.mem = s.mem
      else Effect c s fun u => u.sig.result = some 0 ∧ u.mem = (s.dma j.dst (fitTo n l)).mem
    let mac (n : Nat) : Prop := j.alg = 1 ∧ n = 32 ∨ j.alg = 2 ∧ n = 48
    (j.op = 1 →
      (j.alg = 0 ∨ 7 < j.alg → ends .jobHash 1) ∧
      (∀ n, [(1, 32), (2, 48), (3, 64), (4, 32), (5, 64), (6, j.dstLen), (7, j.dstLen)].contains (j.alg, n) = true →
        gives .jobHash n (Config.hash j.alg src n))) ∧
    (j.op = 2 → (j.alg ≠ 1 → j.alg ≠ 2 → ends .jobHmac 1) ∧ ∀ n, mac n → gives .jobHmac n (Config.hmac j.alg aux src)) ∧
    (j.op = 3 → (j.alg ≠ 1 → j.alg ≠ 2 → ends .jobHkdfExtract 1) ∧
      ∀ n, mac n → gives .jobHkdfExtract n (Config.hkdfExtract j.alg aux src)) ∧
    (j.op = 4 → (j.alg ≠ 1 → j.alg ≠ 2 → ends .jobHkdfExpand 1) ∧
      ∀ n, mac n → (255 * n < j.dstLen → ends .jobHkdfExpand 2) ∧
        (j.dstLen ≤ 255 * n → gives .jobHkdfExpand j.dstLen (Config.hkdfExpand j.alg src aux j.dstLen))) ∧
    (∀ enc, j.op = (if enc then 5 else 6) →
      let c : Instr := if enc then .jobAesGcmEncrypt else .jobAesGcmDecrypt
      (j.auxLen ≠ 16 ∧ j.auxLen ≠ 32 ∨ j.srcLen < 12 → ends c 2) ∧
      (j.auxLen = 16 ∨ j.auxLen = 32 → 12 ≤ j.srcLen →
        match Config.aesGcm enc aux src with
        | none => ends c 4
        | some l => gives c j.dstLen l)) ∧
    (j.op = 7 → j.alg = 1 ∨ j.alg = 2 → j.slot < 16 → ∃ key, gives .jobEcdheKeygen j.dstLen (Config.ecdhPublic j.alg key) ∧
      Effect .jobEcdheKeygen s fun u => cellsFind u.sig.ephemeral j.slot = some (j.alg, key)) ∧
    (j.op = 7 → j.alg ≠ 1 ∧ j.alg ≠ 2 ∨ 16 ≤ j.slot → ends .jobEcdheKeygen 1) ∧
    (j.op = 8 →
      (cellsFind s.sig.ephemeral j.slot = none → ends .jobEcdheDerive 3) ∧
      ∀ curve key, cellsFind s.sig.ephemeral j.slot = some (curve, key) →
        gives .jobEcdheDerive j.dstLen (Config.ecdhDerive curve key src) ∧
        Effect .jobEcdheDerive s fun u => u.sig.ephemeral = cellsErase s.sig.ephemeral j.slot) ∧
    (j.op = 9 →
      (s.tlsType j.slot = 0 → ends .jobSign 3) ∧
      (s.tlsType j.slot ≠ 0 → ∃ x, gives .jobSign j.dstLen
        (Config.tlsSign (s.tlsType j.slot) (cellsGet 0 s.sig.tlsKeys j.slot) x src))) ∧
    (j.op = 10 →
      (j.alg = 0 ∨ 5 < j.alg → ends .jobVerify 1) ∧
      (0 < j.alg → j.alg ≤ 5 → ends .jobVerify (if Config.verify j.alg aux src then 0 else 4))) ∧
    (j.op = 11 → 8 ≤ j.slot ∨ j.alg = 0 ∨ 3 < j.alg → ends .jobTlsKeygen 1) ∧
    (j.op = 11 → j.slot < 8 → 0 < j.alg → j.alg ≤ 3 →
      (s.nvOk = false → ends .jobTlsKeygen 7) ∧
      (s.nvOk = true → ∃ key, gives .jobTlsKeygen j.dstLen (Config.tlsPublic j.alg key) ∧
        Effect .jobTlsKeygen s fun u => u.f Fl.SIG_TLSSLOT_TYPE j.slot = j.alg ∧
          cellsFind u.sig.tlsKeys j.slot = some key)) ∧
    (j.op = 12 →
      (8 ≤ j.slot → ends .jobTlsKeyErase 1) ∧
      (j.slot < 8 → s.nvOk = false → ends .jobTlsKeyErase 7) ∧
      (j.slot < 8 → s.nvOk = true → Effect .jobTlsKeyErase s fun u => u.sig.result = some 0 ∧
        u.f Fl.SIG_TLSSLOT_TYPE j.slot = 0 ∧ u.sig.tlsKeys = cellsErase s.sig.tlsKeys j.slot)) ∧
    (j.op = 13 →
      (∀ k, k < 2 → j.alg = k + 1 →
        (s.f Fl.SIG_KSTAT_GEN k = 0 → ends .jobPublicKeyRead 3) ∧
        (s.f Fl.SIG_KSTAT_GEN k ≠ 0 → gives .jobPublicKeyRead 68 (s.keyPublic k))) ∧
      (j.alg ≠ 1 → j.alg ≠ 2 →
        (s.tlsType j.slot = 0 → ends .jobPublicKeyRead 3) ∧
        (s.tlsType j.slot ≠ 0 → gives .jobPublicKeyRead j.dstLen
          (Config.tlsPublic (s.tlsType j.slot) (cellsGet 0 s.sig.tlsKeys j.slot))))) ∧
    (j.op = 14 →
      (j.srcLen ≠ 32 ∨ j.dstLen < 5187 → ends .jobAttest 2) ∧
      (j.srcLen = 32 → 5187 ≤ j.dstLen →
        (s.f Fl.SIG_STAT_ATTTOK = 0 → Effect .jobAttest s fun u => u.sig.result = some 5 ∧
          bitOf (u.f Fl.SIG_STAT_CAUSE) 7 = true) ∧
        (s.f Fl.SIG_STAT_ATTTOK ≠ 0 → Effect .jobAttest s fun u => u.sig.result = none ∧
          u.f Fl.SIG_STAT_ATTTOK = s.f Fl.SIG_STAT_ATTTOK - 1 ∧
          u.sig.queue = s.sig.queue ++ [{ kind := 4, key := 1, payload := s.report src, job := some a }]))) ∧
    (j.op = 15 →
      (j.alg ≠ 1 → j.alg ≠ 2 → ends .jobKeygen 1) ∧
      (j.alg = 1 → s.f Fl.MTR_STAT_CALEN = 0 → ends .jobKeygen 6) ∧
      (j.alg = 1 → s.f Fl.MTR_STAT_CALEN = 1 → s.newGen 0 ≤ 255 → Effect .jobKeygen s fun u =>
        u.sig.result = some 0 ∧ u.sig.nextGen0 = some (s.newGen 0)) ∧
      (j.alg = 2 → s.f Fl.SYS_BOOTSTAT_SOURCE ≠ 3 → ends .jobKeygen 6) ∧
      (j.alg = 2 → s.f Fl.SYS_BOOTSTAT_SOURCE = 3 → s.newGen 1 ≤ 255 → Effect .jobKeygen s fun u =>
        u.sig.result = some 0 ∧ u.sig.nextGen1 = some (s.newGen 1))) ∧
    (j.op = 16 → ∃ x, gives .jobRandom j.dstLen (Config.randomBytes x j.dstLen))

/-! ### The shroud and the trip fabric (spec/13), VAUX (spec/15) -/

/-- R416 to R446: zones, requests, axes, safe state, fabric. -/
def Obligations.ShroudFunctions : Prop :=
  ∀ s : State,
    let cause (u : State) (j : Nat) : Prop := bitOf (u.f Fl.SFY_STAT_CAUSE) j = true
    let demanded (u : State) (p trel : Nat) : Prop := u.f Fl.SFY_PSTAT_SREEF p = 7 ∧
      (u.sp p).release = some (match (s.sp p).release with | none => trel | some t => min t trel)
    let safe (u : State) (k : Nat) : Prop := u.f Fl.SFY_STAT_SAFE = 1 ∧ u.f Fl.SFY_STAT_SAFECAUSE = k ∧ cause u 0 ∧
      (∀ n, n < 48 → u.f Fl.SFY_COIL_ON n = 0 ∧ u.f Fl.SFY_PSTAT_POSCMD n = 0 ∧ u.f Fl.SFY_PSTAT_NEGCMD n = 0) ∧
      ∀ a, a < 8 → u.f Fl.SFY_ASTAT_ENABLED a = 0
    let kept (c : Instr) (r : Rg) (i : Nat) : Prop := Effect c s fun u => cause u 7 ∧ u.reg r i = s.reg r i;
    (∀ z, z < 5 → s.f Fl.SFY_ZONE0_EN z = 1 → s.zoneInput z = true → s.sfy.running = true → Effect (.zoneDemand z) s fun u =>
      u.f Fl.SFY_ZONE1_STATE z = 1 ∧ cause u 1 ∧ ∀ p, p < 48 → s.zoneStops z p = true →
        demanded u p (if s.f Fl.SFY_ZONE0_CAT z = 1 then s.f Fl.SFY_ZONE1_TSTOP1 z else 2) ∧
        (s.f Fl.SFY_ZONE0_CAT z = 1 → p ∈ u.sfy.stops)) ∧
    (∀ z, s.zoneInput z = false → Effect (.zoneDemand z) s fun u => u.f Fl.SFY_ZONE1_STATE z = s.f Fl.SFY_ZONE1_STATE z) ∧
    (Effect .stayChainOpen s fun u => u.sfy.stayOpen = true ∧
      (s.f Fl.SFY_ZONE0_EN 4 = 1 → s.sfy.running = true → u.f Fl.SFY_ZONE1_STATE 4 = 1)) ∧
    (Effect (.stayTestPulse true) s fun u => u.sfy.stayMissed = 0 ∧ u.sfy.stayOpen = false) ∧
    (s.sfy.stayMissed = 0 → Effect (.stayTestPulse false) s fun u => u.sfy.stayMissed = 1 ∧ u.sfy.stayOpen = s.sfy.stayOpen) ∧
    (1 ≤ s.sfy.stayMissed → Effect (.stayTestPulse false) s fun u => u.f Fl.SFY_STAT_STAYSHORT = 1 ∧ u.sfy.stayOpen = true) ∧
    (∀ ms z, z < 5 → Effect (.srstPulse ms) s fun u => u.f Fl.SFY_ZONE1_STATE z =
      if 100 ≤ ms ∧ ms ≤ 5000 ∧ s.sfy.running = true ∧ s.zoneQuiet z = true then 0 else s.f Fl.SFY_ZONE1_STATE z) ∧
    (let w (n o : Nat) : Nat := (s.word (0x28000000 + 32 * n + o)).toNat
     let idle (n : Nat) : Prop := s.sfy.acked.toList.getD n none = some (w n 0 / 2 ^ 16) ∨
       s.sfy.acked.toList.getD n none = none ∧ w n 0 = 0
     (s.sfy.running = false ∨ s.f Fl.SFY_STAT_SAFE = 1 → Effect .shroudCycle s fun u => u = s) ∧
     (s.sfy.running = true → s.f Fl.SFY_STAT_SAFE = 0 → (∀ n, n < 16 → idle n) → Effect .shroudCycle s fun u =>
       (∀ z, z < 5 → u.f Fl.SFY_ZONE1_STATE z = if s.f Fl.SFY_ZONE1_STATE z = 1 ∧ s.zoneInput z = false then 2
         else s.f Fl.SFY_ZONE1_STATE z) ∧
       ∀ p, p < 48 → (s.sp p).release.isSome = true → (s.sp p).holdFull = false → (s.portCurrent p).natAbs < 5000 →
         u.f Fl.SFY_PSTAT_POSCMD p = 0 ∧ u.f Fl.SFY_PSTAT_NEGCMD p = 0 ∧ (u.sp p).release = none) ∧
     (∀ n, n < 16 → s.sfy.running = true → s.f Fl.SFY_STAT_SAFE = 0 → ¬ idle n → (∀ k, k < 16 → k ≠ n → idle k) →
       let q := w n 0 / 2 ^ 16
       let stale := ∃ l, s.sfy.acked.toList.getD n none = some l ∧ (l + 1) % 2 ^ 16 ≠ q
       let checked := crc32 (s.bytes (0x28000000 + 32 * n) 28) = s.word (0x28000000 + 32 * n + 28)
       Effect .shroudCycle s fun u => u.sfy.acked.toList.getD n none = some q ∧
         (u.word (0x28000800 + 8 * n)).toNat = q * 2 ^ 16 ∧
         (¬ checked → (u.word (0x28000804 + 8 * n)).toNat = 1) ∧
         (checked → stale → (u.word (0x28000804 + 8 * n)).toNat = 2) ∧
         (checked → ¬ stale → (u.word (0x28000804 + 8 * n)).toNat =
           s.requestStatus (w n 0 / 256 % 256) (w n 0 % 256) (w n 4)))) ∧
    (∀ p, (p < 48 → Effect (.shroudStop1 p) s fun u => demanded u p (s.f Fl.SFY_ZONE1_TSTOP1 0) ∧ p ∈ u.sfy.stops) ∧
      (48 ≤ p → kept (.shroudStop1 p) R.SFY_PSTAT p)) ∧
    (∀ z,
      let ok := z < 5 ∧ s.f Fl.SFY_ZONE0_EN z = 1 ∧ s.f Fl.SFY_ZONE0_PROGRST z = 1 ∧ s.f Fl.SFY_ZONE1_STATE z ≠ 0 ∧
        s.zoneQuiet z = true;
      (ok → Effect (.zoneReset z) s fun u => u.f Fl.SFY_ZONE1_STATE z = 0) ∧ (¬ ok → kept (.zoneReset z) R.SFY_ZONE1 z)) ∧
    (∀ a k,
      let ok := a < 8 ∧ s.f Fl.SFY_ACFG_EN a = 1 ∧ k < 4 ∧ (s.standstill a = true ∨
        s.noLooser (4 * a + s.f Fl.SFY_ACFG_SET a) (4 * a + k) = true);
      (ok → Effect (.limset a k) s fun u => u.f Fl.SFY_ACFG_SET a = k) ∧ (¬ ok → kept (.limset a k) R.SFY_ACFG a)) ∧
    (∀ a,
      let ok := a < 8 ∧ s.f Fl.SFY_ACFG_EN a = 1 ∧ (s.f Fl.SFY_ASTAT_VIOL a = 0 ∨ s.standstill a = true) ∧
        s.axisViolates a = false ∧ s.f Fl.SFY_ACFG_REFD a = 1;
      (ok → Effect (.axen a) s fun u => u.f Fl.SFY_ASTAT_VIOL a = 0 ∧
        u.f Fl.SFY_ASTAT_ENABLED a = u.f Fl.SFY_COIL_ON (s.f Fl.SFY_ACFG_ENCO a)) ∧ (¬ ok → kept (.axen a) R.SFY_ASTAT a)) ∧
    (∀ p ms,
      let ok := p < 24 ∧ s.f Fl.SFY_PIMD_IMDEN p = 1 ∧ 10 ≤ ms ∧ ms ≤ 5000 ∧ s.f Fl.SFY_PSTAT_POSCL p = 0 ∧
        s.f Fl.SFY_PSTAT_NEGCL p = 0;
      (ok → Effect (.imdtest p ms) s fun u => (u.sp p).imdTest = some ms) ∧
      (¬ ok → Effect (.imdtest p ms) s fun u => cause u 7 ∧ u.sp p = s.sp p)) ∧
    (∀ t,
      let ok := t < 64 ∧ s.f Fl.SFY_TGT3_EN t = 1 ∧ s.maskActive t = false;
      (ok → Effect (.targetRelease t) s fun u => u.f Fl.SFY_TGT3_TRIPPED t = if u.maskActive t then 1 else 0) ∧
      (¬ ok → kept (.targetRelease t) R.SFY_TGT3 t)) ∧
    (∀ p, p < 48 →
      (s.clearOk p = true → Effect (.faultClear p) s fun u =>
        u.f Fl.SFY_PSTAT_FAILCL p = (if s.openFor1s p .pos && s.openFor1s p .neg then 0 else s.f Fl.SFY_PSTAT_FAILCL p) ∧
        u.f Fl.SFY_PSTAT_WELDP p = (if (s.sp p).weldReset && s.openFor1s p .pos then 0 else s.f Fl.SFY_PSTAT_WELDP p) ∧
        u.f Fl.SFY_PSTAT_WELDN p = (if (s.sp p).weldReset && s.openFor1s p .neg then 0 else s.f Fl.SFY_PSTAT_WELDN p) ∧
        u.f Fl.SFY_PSTAT_DISCREP p = (if s.agreesFor1s p .pos && s.agreesFor1s p .neg then 0 else s.f Fl.SFY_PSTAT_DISCREP p) ∧
        u.f Fl.SFY_PSTAT_PBRK p = if s.pinIsBroken p then s.f Fl.SFY_PSTAT_PBRK p else 0) ∧
      (s.clearOk p = false → kept (.faultClear p) R.SFY_PSTAT p)) ∧
    (∀ a la lb lz, a < 8 →
      let ph (x y : Bool) : Nat := if x then (if y then 2 else 1) else (if y then 3 else 0)
      let d := (ph la lb + 4 - ph (s.axis a).levelA (s.axis a).levelB) % 4
      let live := s.f Fl.SFY_ACFG_EN a = 1 ∧ s.f Fl.SFY_ASTAT_VIOL a = 0
      Effect (.axisSample a la lb lz) s fun u =>
        u.reg R.SFY_POS a = s.reg R.SFY_POS a + (if d = 1 then 1 else if d = 3 then -1 else 0) ∧
        (lz = true → u.f Fl.SFY_ACFG_REFD a = 1) ∧
        (live → d = 2 ∨ u.axisViolates a = true → u.f Fl.SFY_ASTAT_VIOL a = 1 ∧ u.f Fl.SFY_ASTAT_ENABLED a = 0 ∧ cause u 6) ∧
        (live → d ≠ 2 → u.axisViolates a = false → u.reg R.SFY_ASTAT a = s.reg R.SFY_ASTAT a)) ∧
    (s.f Fl.SFY_STAT_SAFE = 0 → Effect .lockstepMismatch s fun u => safe u 1) ∧
    (s.f Fl.SFY_STAT_SAFE = 0 → Effect .memoryDoubleError s fun u => safe u 2) ∧
    (∀ t, Effect (.cycleOverrun t) s fun u => u.f Fl.SFY_DIAG_CYCMAX = max (s.f Fl.SFY_DIAG_CYCMAX) (min t 65535) ∧
      (1000 < t → s.f Fl.SFY_STAT_SAFE = 0 → safe u 3) ∧ (t ≤ 1000 → u.f Fl.SFY_STAT_SAFE = s.f Fl.SFY_STAT_SAFE)) ∧
    (∀ n, Effect (.memoryScrub n) s fun u => u.f Fl.SFY_DIAG_ECC = min 65535 (s.f Fl.SFY_DIAG_ECC + n)) ∧
    ∀ i high, i < 72 → Effect (.fabricSourceChange i high) s fun u =>
      (i < 32 → u.f Fl.SFY_SRC_ACT i = b2n (high != s.b Fl.SFY_SRC_POL i)) ∧
      ∀ t, t < 64 → s.f Fl.SFY_TGT3_EN t = 1 →
        (u.maskActive t = true → u.f Fl.SFY_TGT3_TRIPPED t = 1) ∧
        (u.maskActive t = false → s.f Fl.SFY_TGT3_LATCH t = 0 → u.f Fl.SFY_TGT3_TRIPPED t = 0) ∧
        (s.f Fl.SFY_TGT3_LATCH t = 1 → s.f Fl.SFY_TGT3_TRIPPED t = 1 → u.f Fl.SFY_TGT3_TRIPPED t = 1)

/-- R425 to R437, R500 to R502: contactors, locks, insulation, pins, coils. -/
def Obligations.ShroudContactors : Prop :=
  ∀ (p : Nat) (s : State), p < 48 →
    let cause (u : State) (j : Nat) : Prop := bitOf (u.f Fl.SFY_STAT_CAUSE) j = true
    let same (c : Instr) : Prop := Effect c s fun u => u.reg R.SFY_PSTAT p = s.reg R.SFY_PSTAT p
    let due (u : State) : Prop := u.f Fl.SFY_PSTAT_SREEF p = 7 ∧ (u.sp p).release.isSome = true
    let off (u : State) (n : Nat) : Prop := n < 48 → u.f Fl.SFY_COIL_ON n = 0
    let canOn (n : Nat) : Prop := n < 48 ∧ s.f Fl.SFY_COIL_FAULT n ≠ 3 ∧ s.f Fl.SFY_STAT_SAFE = 0 ∧ s.sfy.running = true
    let lockFb := s.fbLevel (s.f Fl.SFY_PFB_LOCKFB p)
    let served := p < 24 ∨ s.f Fl.SFY_PSTAT_STANDBY p = 1
    (∀ pos neg,
      (s.closeOk p pos neg = true → Effect (.closeRequest p pos neg) s fun u => u.f Fl.SFY_PSTAT_NOV p = 0 ∧
        ∀ pole ∈ polesOf pos neg, u.f (poleCmd pole) p = 1 ∧ (canOn (s.poleCoil p pole) → u.f Fl.SFY_COIL_ON (s.poleCoil p pole) = 1)) ∧
      (s.closeOk p pos neg = false → Effect (.closeRequest p pos neg) s fun u => cause u 7 ∧
        u.reg R.SFY_PSTAT p = s.reg R.SFY_PSTAT p) ∧
      Effect (.openRequest p pos neg) s fun u => ∀ pole ∈ polesOf pos neg, u.f (poleCmd pole) p = 0 ∧ off u (s.poleCoil p pole)) ∧
    (Effect (.lockRequest p) s fun u => (u.sp p).lockReq = true ∧ (u.sp p).unlockReq = false ∧
      (canOn (s.f Fl.SFY_PCO_LOCKCO p) → u.f Fl.SFY_COIL_ON (s.f Fl.SFY_PCO_LOCKCO p) = 1)) ∧
    (p < 24 → Effect (.unlockRequest p) s fun u => (u.sp p).unlockReq = true) ∧
    (24 ≤ p → Effect (.unlockRequest p) s fun u => cause u 7 ∧ (u.sp p).unlockReq = (s.sp p).unlockReq) ∧
    (∀ expired : Bool,
      let acts := (s.sp p).release.isSome = true ∧ (expired = true ∨ (s.sp p).holdFull = false ∧ (s.portCurrent p).natAbs < 5000)
      (acts → Effect (.coilRelease p expired) s fun u => u.f Fl.SFY_PSTAT_POSCMD p = 0 ∧ u.f Fl.SFY_PSTAT_NEGCMD p = 0 ∧
        u.f Fl.SFY_PSTAT_STANDBY p = 0 ∧ (u.sp p).release = none ∧ off u (s.poleCoil p .pos) ∧ off u (s.poleCoil p .neg)) ∧
      (¬ acts → same (.coilRelease p expired))) ∧
    (∀ pole,
      let cmd := s.f (poleCmd pole) p
      let shut := s.f (poleClosed pole) p
      (served → cmd = 1 → shut = 0 → Effect (.mirrorTimeout p pole) s fun u => u.f Fl.SFY_PSTAT_FAILCL p = 1 ∧
        u.f (poleCmd pole) p = 0 ∧ off u (s.poleCoil p pole) ∧ cause u 2) ∧
      (served → cmd = 0 → shut = 1 → Effect (.mirrorTimeout p pole) s fun u => u.f (poleWeld pole) p = 1 ∧ cause u 2) ∧
      (cmd = shut → same (.mirrorTimeout p pole)) ∧
      (∀ closed : Bool, b2n closed = shut → same (.mirrorChange p pole closed)) ∧
      (∀ closed : Bool, b2n closed ≠ shut →
        let follows := b2n closed = cmd ∨ s.sfy.vauxLost = true ∨ s.f Fl.SFY_STAT_SAFE = 1 ∨ ¬ served
        (follows → Effect (.mirrorChange p pole closed) s fun u => u.f (poleClosed pole) p = b2n closed ∧
          u.f Fl.SFY_PSTAT_DISCREP p = s.f Fl.SFY_PSTAT_DISCREP p) ∧
        (¬ follows → Effect (.mirrorChange p pole closed) s fun u => u.f (poleClosed pole) p = b2n closed ∧
          u.f Fl.SFY_PSTAT_DISCREP p = 1 ∧ due u ∧ cause u 2)) ∧
      (∀ k level, k < 96 → s.poleFb p pole = k → Effect (.feedbackChange k level) s fun u =>
        bitOf (u.f Fl.SFY_FB_LEVEL (k / 32)) (k % 32) = level ∧ u.f (poleClosed pole) p = b2n (!level)) ∧
      (∀ l : List Nat, s.poleFb p pole ∈ l → s.poleFb p pole < 96 → Effect (.feedbackTest l) s fun u =>
        u.f Fl.SFY_PSTAT_DISCREP p = 1 ∧ due u ∧ cause u 2) ∧
      (∀ n, n < 48 → s.f Fl.SFY_COIL_ON n = 1 → s.poleCoil p pole = n →
        (Effect (.coilTestPulse n true) s fun u => u.f Fl.SFY_COIL_FAULT n = 2 ∧ u.f Fl.SFY_PSTAT_DISCREP p = 1 ∧ due u ∧ cause u 2) ∧
        Effect (.coilOpen n) s fun u => u.f Fl.SFY_COIL_FAULT n = 1 ∧ u.f Fl.SFY_PSTAT_DISCREP p = 1 ∧ due u ∧ cause u 2)) ∧
    (∀ n, n < 48 → (s.f Fl.SFY_COIL_ON n = 1 → Effect (.coilOvercurrent n) s fun u => u.f Fl.SFY_COIL_FAULT n = 3 ∧
        u.f Fl.SFY_COIL_ON n = 0) ∧ (s.f Fl.SFY_COIL_ON n = 0 → Effect (.coilOvercurrent n) s fun u => u = s) ∧
      (Effect (.pullInEnd n) s fun u => u.f Fl.SFY_COIL_PULLIN n = 0 ∧ u.f Fl.SFY_COIL_ON n = s.f Fl.SFY_COIL_ON n) ∧
      Effect (.coilTestPulse n false) s fun u => u = s) ∧
    (lockFb ≠ some false → Effect (.lockConfirmed p) s fun u => u.f Fl.SFY_PSTAT_LOCKED p = 1 ∧
      u.f Fl.SFY_PSTAT_UNLOCKED p = 0 ∧ (u.sp p).lockReq = false) ∧
    ((s.sp p).lockReq = true → Effect (.lockTimeout p) s fun u => u.f Fl.SFY_PSTAT_LOCKF p = 1 ∧ cause u 3 ∧
      (u.sp p).lockReq = false) ∧
    (p < 24 → (s.sp p).unlockReq = true →
      let dead := s.f Fl.SFY_PSTAT_POSCMD p = 0 ∧ s.f Fl.SFY_PSTAT_NEGCMD p = 0 ∧ s.f Fl.SFY_PSTAT_POSCL p = 0 ∧
        s.f Fl.SFY_PSTAT_NEGCL p = 0 ∧ (s.portVolt p).natAbs < 60000 ∧ s.f Fl.MTR_MSTAT_FAULT p = 0
      (dead → Effect (.noVoltageVerified p) s fun u => u.f Fl.SFY_PSTAT_NOV p = 1 ∧
        (canOn (s.f Fl.SFY_PCO_UNLKCO p) → u.f Fl.SFY_COIL_ON (s.f Fl.SFY_PCO_UNLKCO p) = 1)) ∧
      (¬ dead → same (.noVoltageVerified p)) ∧
      (s.f Fl.SFY_PSTAT_NOV p = 1 → lockFb ≠ some true → Effect (.unlockConfirmed p) s fun u =>
        u.f Fl.SFY_PSTAT_LOCKED p = 0 ∧ u.f Fl.SFY_PSTAT_UNLOCKED p = 1 ∧ (u.sp p).unlockReq = false)) ∧
    (s.imdFault p = true → Effect (.imdFault p) s fun u => u.f Fl.SFY_PSTAT_ISO p = 3 ∧
      (s.charging p = true → u.f Fl.SFY_PSTAT_IMDF p = 1 ∧ due u ∧ cause u 4) ∧
      (s.charging p = false → u.f Fl.SFY_PSTAT_IMDF p = s.f Fl.SFY_PSTAT_IMDF p)) ∧
    (s.f Fl.SFY_PIMD_IMDEN p = 1 → (Effect (.imdWarn p true) s fun u => cause u 4 ∧
        u.f Fl.SFY_PSTAT_ISO p = if s.f Fl.SFY_PSTAT_ISO p = 3 then 3 else 2) ∧
      Effect (.imdWarn p false) s fun u => u.f Fl.SFY_PSTAT_ISO p = if s.f Fl.SFY_PSTAT_ISO p = 2 then 0 else s.f Fl.SFY_PSTAT_ISO p) ∧
    (p < 24 → s.f Fl.SFY_PIMD_IMDEN p = 1 → s.imdFault p = false → s.imdWarn p = false → s.f Fl.SFY_PSTAT_ISO p ≠ 2 →
      s.f Fl.PRT_GSTAT_STATE p = 2 → 9 * (s.f Fl.PRT_VSET_VSET p : Int) ≤ 10 * s.portVolt p → Effect (.isolationValid p) s fun u =>
        u.f Fl.SFY_PSTAT_ISO p = 1) ∧
    (p < 24 → s.pinAtCut p = true → Effect (.tempCut p) s fun u => u.f Fl.SFY_PSTAT_TCUT p = 1 ∧ due u ∧ cause u 5) ∧
    (s.pinAtCut p = false → same (.tempCut p)) ∧
    (p < 24 → s.pinIsBroken p = true → (Effect (.pinBroken p) s fun u => u.f Fl.SFY_PSTAT_PBRK p = 1 ∧
        4 ≤ u.f Fl.SFY_PSTAT_SREEF p) ∧
      (s.f Fl.SFY_PSTAT_PBRK p = 1 → s.charging p = true → Effect (.pinBrokenStop p) s fun u => due u ∧ p ∈ u.sfy.stops))

/-- R433, R449 to R453, R495, R496, R625. -/
def Obligations.StandbyAndSupply : Prop :=
  ∀ s : State,
    let guest := s.f Fl.RNG_STAT_GUEST = 1
    let cause (u : State) : Prop := bitOf (u.f Fl.LSW_STAT_CAUSE) 5 = true
    let closed (u : State) (p : Nat) : Prop := u.f Fl.SFY_PSTAT_POSCMD p = 1 ∧ u.f Fl.SFY_PSTAT_NEGCMD p = 1
    let demanded (u : State) (p trel : Nat) : Prop := u.f Fl.SFY_PSTAT_SREEF p = 7 ∧
      (u.sp p).release = some (match (s.sp p).release with | none => trel | some t => min t trel)
    let chOff (u : State) : Prop := ∀ n, n < 16 → s.f Fl.LSW_CHSTAT_STATE n = 1 ∨ s.f Fl.LSW_CHSTAT_STATE n = 2 →
      u.f Fl.LSW_CHSTAT_STATE n = 3
    let coilsOff (u : State) : Prop := ∀ n, n < 48 → u.f Fl.SFY_COIL_ON n = 0 ∧ u.f Fl.SFY_PSTAT_POSCMD n = 0 ∧
      u.f Fl.SFY_PSTAT_NEGCMD n = 0
    (∀ h, h < 24 →
      let p := 24 + h
      let take := s.f Fl.SFY_PSTAT_POSCL p = 1 ∧ s.f Fl.SFY_PSTAT_NEGCL p = 1 ∧ s.zoneHolds p = false ∧
        s.imdFault p = false ∧ s.vetoActive = false
      (guest → s.sfy.running = true → Effect .standbyCoilsEnergise s fun u =>
        (take → u.f Fl.SFY_PSTAT_STANDBY p = 1 ∧ closed u p) ∧
        (¬ take → u.f Fl.SFY_PSTAT_STANDBY p = s.f Fl.SFY_PSTAT_STANDBY p)) ∧
      (guest → s.vetoActive = true → Effect .vetoActive s fun u => demanded u p 2) ∧
      (s.vetoActive = false → Effect .vetoActive s fun u => u = s) ∧
      (guest → s.f Fl.SFY_GUEST_TGUEST ≠ 0 → Effect .guestTimeLimit s fun u =>
        demanded u p (s.f Fl.SFY_ZONE1_TSTOP1 0) ∧ p ∈ u.sfy.stops) ∧
      (Effect .shroudReturn s fun u =>
        if s.f Fl.SFY_PSTAT_POSCL h = 1 ∧ s.f Fl.SFY_PSTAT_NEGCL h = 1 ∧ s.mayClose h = true then closed u h
        else u.f Fl.SFY_PSTAT_POSCMD h = s.f Fl.SFY_PSTAT_POSCMD h) ∧
      (s.f Fl.SFY_PSTAT_STANDBY p = 1 → Effect .standbyCoilsRelease s fun u =>
        if (s.sp p).holdFull = false ∧ (s.portCurrent p).natAbs < 5000 then u.f Fl.SFY_PSTAT_STANDBY p = 0 ∧
          u.f Fl.SFY_PSTAT_POSCMD p = 0 ∧ u.f Fl.SFY_PSTAT_NEGCMD p = 0
        else demanded u p 2)) ∧
    (∀ mv,
      (mv < 14000 → Effect (.vauxUndervoltage mv) s fun u => u.f Fl.LSW_SUP_UV = 1 ∧ cause u ∧ chOff u ∧
        u.f Fl.SYS_SUPSTAT_VAUX_OK = 0 ∧ (mv < 12000 → coilsOff u ∧ u.sfy.vauxLost = true) ∧
        (12000 ≤ mv → ∀ n, u.reg R.SFY_COIL n = s.reg R.SFY_COIL n)) ∧
      (14000 ≤ mv → Effect (.vauxUndervoltage mv) s fun u => u.f Fl.LSW_SUP_UV = s.f Fl.LSW_SUP_UV ∧
        u.f Fl.LSW_SUP_VAUX = mv / 10 % 65536) ∧
      (36000 < mv → Effect (.vauxOvervoltage mv) s fun u => u.f Fl.LSW_SUP_OV = 1 ∧ cause u ∧ chOff u ∧
        ∀ n, u.reg R.SFY_COIL n = s.reg R.SFY_COIL n) ∧
      (mv ≤ 36000 → Effect (.vauxOvervoltage mv) s fun u => u.f Fl.LSW_SUP_OV = s.f Fl.LSW_SUP_OV) ∧
      (16000 ≤ mv → mv ≤ 34000 → Effect (.vauxReturn mv) s fun u => u.supplyOk = true ∧ u.f Fl.SYS_SUPSTAT_VAUX_OK = 1 ∧
        u.sfy.vauxLost = false ∧ (s.supplyOk = false ∨ s.f Fl.SYS_SUPSTAT_VAUX_OK = 1 → ∀ n, n < 16 →
          s.f Fl.LSW_CHSTAT_STATE n = 0 → s.chWanted n = true →
          u.f Fl.LSW_CHSTAT_STATE n = if s.f Fl.LSW_CHCFG_TINRUSH n = 0 then 1 else 2)) ∧
      (mv < 16000 ∨ 34000 < mv → Effect (.vauxReturn mv) s fun u => u.supplyOk = s.supplyOk ∧
        u.f Fl.SYS_SUPSTAT_VAUX_OK = s.f Fl.SYS_SUPSTAT_VAUX_OK)) ∧
    (Effect .vauxReverse s fun u => u.f Fl.LSW_SUP_REV = 1 ∧ cause u ∧ chOff u ∧ coilsOff u) ∧
    Effect .groundLoss s fun u => u.f Fl.LSW_SUP_GND = 1 ∧ cause u ∧ coilsOff u ∧ ∀ n, n < 16 →
      u.f Fl.LSW_CHSTAT_STATE n = 4 ∧ u.f Fl.LSW_CHSTAT_FLT n = 4

/-! ### The Crateuth ring (spec/14) -/

/-- R456 to R480: links and views. -/
def Obligations.RingLinksAndViews : Prop :=
  ∀ s : State,
    let st := s.f Fl.RNG_STAT_STATE
    let cause (u : State) (j : Nat) : Prop := bitOf (u.f Fl.RNG_CAUSE_CAUSE) j = true
    let base := s.viewNow
    let announced (u : State) (P : ViewFrame → Prop) : Prop := ∃ v, u.rng.views = [v] ∧ v.origin = s.modid ∧
      v.epoch = s.f Fl.RNG_EPOCH_EPOCH + 1 ∧ v.seqEff = s.seqNow + 2 ∧ P v;
    (∀ k, k < 2 →
      (s.f Fl.RNG_CTL_EN = 1 → s.modid ≠ 0 → s.f Fl.RNG_LINK_STATE k ≠ 2 → Answers (.ringLinkStart k) s fun u =>
        u.f Fl.RNG_LINK_STATE k = 1 ∧ (u.rp k).step = 1 ∧
          u.f Fl.RNG_LINKERR_STARTS k = min 65535 (s.f Fl.RNG_LINKERR_STARTS k + 1)) ∧
      (∀ peer lo hi nonce share, (s.rp k).step = 1 →
        let top := min hi 2
        (peer = s.modid → Answers (.linkcap k peer lo hi nonce share) s fun u => u.f Fl.RNG_LINK_STATE k = 0 ∧ cause u 4) ∧
        (peer ≠ s.modid → top < max lo 1 → Answers (.linkcap k peer lo hi nonce share) s fun u =>
          u.f Fl.RNG_LINK_STATE k = 0 ∧ cause u 2) ∧
        (peer ≠ s.modid → max lo 1 ≤ top → Answers (.linkcap k peer lo hi nonce share) s fun u =>
          (u.rp k).step = 2 ∧ (u.rp k).peer = peer ∧ (u.rp k).version = top)) ∧
      ((s.rp k).step = 2 →
        (Answers (.linkauth k false) s fun u => u.f Fl.RNG_LINK_STATE k = 0 ∧ cause u 3) ∧
        Answers (.linkauth k true) s fun u => u.f Fl.RNG_LINK_STATE k = 2 ∧ cause u 0 ∧
          u.f Fl.RNG_LINK_VER k = (s.rp k).version % 8 ∧ u.f Fl.RNG_LINK_PEER k = (s.rp k).peer % 256 ∧
          (u.rp k).keys.isSome = true ∧ u.f Fl.RNG_STAT_STATE = if st = 0 then 1 else st) ∧
      (s.f Fl.RNG_LINK_STATE k = 2 →
        (Answers .heartbeatSend s fun u => u.rng.beat = some s.ownBeat ∧ u.rng.beats = s.rng.beats + 1) ∧
        (Answers (.heartbeatMissed k) s fun u => (u.rp k).misses = (s.rp k).misses + 1 ∧
          u.f Fl.RNG_LINK_HBMISS k = min 65535 (s.f Fl.RNG_LINK_HBMISS k + 1)) ∧
        ∀ h : HeartbeatFrame,
          (Answers (.heartbeat k h) s fun u => (u.rp k).misses = 0 ∧ (u.rp k).beat = some h) ∧
          (st = 0 ∨ st = 1 ∨ st = 4 → h.state = 2 ∨ h.state = 3 → s.member h.modid = false →
            min h.gen s.genOffer < s.images.minGen ∨ s.genOffer < h.minGen → Answers (.heartbeat k h) s fun u =>
              u.f Fl.RNG_STAT_STATE = 7 ∧ cause u 6) ∧
          (st = 1 ∨ st = 2 ∨ st = 3 → h.state = 0 ∨ h.state = 1 ∨ h.state = 4 → s.member h.modid = false →
            h.minGen ≤ min base.gen h.offer → s.images.minGen ≤ h.offer → h.modid ∉ base.members → s.rng.views = [] →
            Answers (.heartbeat k h) s fun u => announced u fun v =>
              v.gen = min base.gen h.offer ∧ ∀ m, m ∈ v.members ↔ m = h.modid ∨ m ∈ base.members))) ∧
    (∀ v : ViewFrame,
      (s.f Fl.RNG_EPOCH_EPOCH < v.epoch → v.origin ≠ s.modid → (∀ x ∈ s.rng.views, x.epoch ≠ v.epoch) →
        Answers (.viewFrame v) s fun u => u.rng.views = s.rng.views ++ [v]) ∧
      (∀ x, s.f Fl.RNG_EPOCH_EPOCH < v.epoch → v.origin ≠ s.modid → s.rng.views = [x] → x.epoch = v.epoch →
        x.members ≠ v.members → s.rng.announced = none → Answers (.viewFrame v) s fun u =>
          u.rng.views = if x.origin < v.origin then [x] else [v]) ∧
      (v.epoch ≤ s.f Fl.RNG_EPOCH_EPOCH → Answers (.viewFrame v) s fun u => u.rng.views = s.rng.views) ∧
      (s.rng.views = [v] → s.seqReached v.seqEff = true → s.f Fl.RNG_EPOCH_EPOCH < v.epoch → v.epoch < 2 ^ 32 →
        Answers .viewAdopt s fun u => u.f Fl.RNG_EPOCH_EPOCH = v.epoch ∧ u.f Fl.RNG_VIEWST_NMEM = min v.members.length 255 ∧
          u.f Fl.RNG_VIEWST_GEN = v.gen % 8 ∧ u.f Fl.RNG_VIEWST_SPLID = v.splid % 256 ∧ u.rng.views = [] ∧ cause u 5 ∧
          (∀ m, m < 256 → (u.member m = true ↔ m ∈ v.members)) ∧
          (s.modid ∈ v.members → 1 < v.members.length → st = 0 ∨ st = 1 → u.f Fl.RNG_STAT_STATE = 2)) ∧
      (s.rng.views = [v] → s.seqReached v.seqEff = false → Answers .viewAdopt s fun u => u.rng.views = [v] ∧
        u.f Fl.RNG_EPOCH_EPOCH = s.f Fl.RNG_EPOCH_EPOCH)) ∧
    (∀ g, st = 2 → s.inView = true → (∀ m ∈ s.others, s.modid < m ∧ ∃ o, s.memberOffer m = some o ∧ g ≤ o) →
      g ≤ s.genOffer → (g = s.genOffer ∨ ∃ m ∈ s.others, s.memberOffer m = some g) → s.f Fl.RNG_VIEWST_GEN < g →
      s.rng.views = [] → Answers .generationRaise s fun u => announced u fun v => v.gen = g ∧ v.members = base.members) ∧
    (s.spliceReason = 0 ↔ st = 2 ∧ s.f Fl.RNG_STAT_GUEST = 0 ∧ s.f Fl.RNG_LINK_STATE 0 = 2 ∧ s.f Fl.RNG_VIEWST_SPLID = 0 ∧
      ∃ h, (s.rp 0).beat = some h ∧ h.modid = s.f Fl.RNG_STAT_BUDDY ∧ h.state = 2 ∧ h.guest = false ∧ h.age ≤ 1 ∧
        h.tover = false) ∧
    (s.spliceReason = 0 → s.modid ≠ 0 → s.rng.views = [] → Answers .splice s fun u => u.f Fl.RNG_SPL_STEP = 1 ∧
      u.f Fl.RNG_SPL_REASON = 0 ∧ announced u fun v => v.splid = s.modid) ∧
    (s.spliceReason ≠ 0 → Answers .splice s fun u => cause u 14 ∧ u.f Fl.RNG_SPL_REASON = s.spliceReason ∧
      u.f Fl.RNG_SPL_STEP = s.f Fl.RNG_SPL_STEP) ∧
    (let free := (∀ j, j < 16 → s.f Fl.CLN_LANESTAT_STATE j = 0) ∧ ∀ c, c < 24 → s.f Fl.VEH_SSTAT_STATE c = 0
     (free → Answers .leave s fun u => u.f Fl.RNG_STAT_STATE = 6 ∧ (s.modid ∈ base.members → s.rng.views = [] →
       announced u fun v => v.members = base.members.filter (· != s.modid))) ∧
     (¬ free → Answers .leave s fun u => cause u 14 ∧ u.f Fl.RNG_SPL_REASON = 6 ∧ u.f Fl.RNG_STAT_STATE = st))

/-- R458 to R479: shadow, takeover and return. -/
def Obligations.RingTakeover : Prop :=
  ∀ s : State,
    let st := s.f Fl.RNG_STAT_STATE
    let guest := s.f Fl.RNG_STAT_GUEST = 1
    let cause (u : State) (j : Nat) : Prop := bitOf (u.f Fl.RNG_CAUSE_CAUSE) j = true
    let keeps (c : Instr) : Prop := Answers c s fun u => u.without settledPart = s.without settledPart;
    (∀ k, k < 2 → s.f Fl.RNG_LINK_STATE k = 2 →
      let m := s.f Fl.RNG_LINK_PEER k
      let prot := k = 1 ∧ s.member m = true ∧ s.f Fl.RNG_STAT_PROT = m
      let takes := s.f Fl.RNG_CTL_TAKEEN = 1 ∧ st = 2 ∧ ¬ guest ∧
        (∃ h, (s.rp k).beat = some h ∧ (h.state = 2 ∨ h.state = 3)) ∧ s.f Fl.RNG_SHSTAT_AGE ≤ max 1 (s.f Fl.RNG_CFG_AGEMAX)
      ((s.rp k).misses < 4 → keeps (.neighbourLost k)) ∧
      (4 ≤ (s.rp k).misses → Answers (.neighbourLost k) s fun u => u.f Fl.RNG_LINK_STATE k = 0 ∧ cause u 1 ∧
        u.q R.RNG_TDECLL R.RNG_TDECLH = s.now ∧
        (prot → takes → u.f Fl.RNG_STAT_GUEST = 1 ∧ u.f Fl.RNG_STAT_GUESTID = m ∧ cause u 9 ∧ u.rng.takeFold = true) ∧
        (prot → ¬ takes → cause u 12 ∧ u.f Fl.RNG_STAT_GUEST = s.f Fl.RNG_STAT_GUEST) ∧
        (¬ prot → u.f Fl.RNG_STAT_GUEST = s.f Fl.RNG_STAT_GUEST) ∧
        (k = 0 → s.member m = true → s.f Fl.RNG_STAT_BUDDY = m → u.f Fl.RNG_STAT_NOBUDDY = 1 ∧ cause u 8))) ∧
    (∀ f : ShadowFrame, s.f Fl.RNG_LINK_STATE 1 = 2 →
      (f.tagOk = false → Answers (.shdFrame f) s fun u => u.rng = s.rng ∧
        u.f Fl.RNG_LINKERR_TAGERR 1 = min 65535 (s.f Fl.RNG_LINKERR_TAGERR 1 + 1)) ∧
      (f.tagOk = true → f.last = false → Answers (.shdFrame f) s fun u => u.rng.words = s.rng.words ++ f.words ∧
        u.rng.complete = s.rng.complete) ∧
      (f.tagOk = true → f.last = true → f.count = s.rng.words.length + f.words.length → Answers (.shdFrame f) s fun u =>
        u.rng.complete = true ∧ u.rng.words = s.rng.words ++ f.words) ∧
      (f.tagOk = true → f.last = true → f.count ≠ s.rng.words.length + f.words.length → Answers (.shdFrame f) s fun u =>
        u.rng.complete = false ∧ u.rng.words = [] ∧ cause u 13 ∧
          u.f Fl.RNG_SHSTAT_LAG = min 65535 (s.f Fl.RNG_SHSTAT_LAG + 1))) ∧
    (∀ d : DeltaFrame, d.port < 24 → s.f Fl.RNG_LINK_STATE (if st = 5 then 0 else 1) = 2 →
      (d.tagOk = true → Effect (.deltaFrame d) s fun u => u.rng.acked = some (d.port, d.seq) ∧
        let c := if st = 5 then d.port else 24 + d.port
        u.f Fl.VEH_SSTAT_STATE c = d.state % 16 ∧ (u.ses c).lastRequest = d.request ∧ (u.ses c).netKey = d.netKey) ∧
      (d.tagOk = false → Effect (.deltaFrame d) s fun u => u.rng.acked = s.rng.acked ∧
        u.f Fl.RNG_LINKERR_TAGERR (if st = 5 then 0 else 1) =
          min 65535 (s.f Fl.RNG_LINKERR_TAGERR (if st = 5 then 0 else 1) + 1))) ∧
    (∀ lane, lane < 16 → s.inView = true →
      (s.rng.silent = false → Effect (.displaced lane) s fun u => u.rng.silent = true ∧
        u.f Fl.RNG_STAT_STATE = (if st = 3 then 3 else 4) ∧ (st ≠ 3 → cause u 11) ∧
        ∀ p, p < 24 → u.f Fl.PRT_ISHEET_SHEET (portGroup p) = 0) ∧
      (s.rng.silent = true → keeps (.displaced lane))) ∧
    (let asks := s.member s.modid = true ∧ s.f Fl.RNG_LINK_STATE 0 = 2 ∧ s.loadAway = true
     (asks → Answers .returnRequest s fun u => u.f Fl.RNG_STAT_STATE = 5 ∧ u.rng.asked = true ∧ u.rng.silent = true ∧
       u.rng.returnAt = none) ∧
     (¬ asks → keeps .returnRequest)) ∧
    (guest → s.f Fl.RNG_LINK_STATE 1 = 2 → s.f Fl.RNG_LINK_PEER 1 = s.f Fl.RNG_STAT_GUESTID →
      Answers (.splFrame .returnRequest) s fun u => u.rng.asked = true) ∧
    (∀ words, st = 5 → s.f Fl.RNG_LINK_STATE 0 = 2 → Answers (.splFrame (.guestState words)) s fun u =>
      u.rng.gotState = true) ∧
    (∀ seq, st = 5 ∧ s.rng.gotState = true ∨ guest ∧ s.rng.asked = true → Answers (.splFrame (.returnAt seq)) s fun u =>
      u.rng.returnAt = some seq) ∧
    (∀ p, p < 24 → st = 5 → Effect (.splFrame (.portMoved p)) s fun u =>
      ∀ f, f < 24 → s.f Fl.VEH_FE_CTX f = p → (u.fe f).released = false) ∧
    (s.returnDue = false → keeps .returnSignal) ∧
    (s.returnDue = true → guest → s.rng.asked = true → Effect .returnSignal s fun u => u.lpe.signal = some false ∧
      u.rng.signalled = true ∧ u.rng.secondary = false ∧ u.rng.closing = some (s.f Fl.RNG_STAT_GUESTID)) ∧
    (s.returnDue = true → ¬ guest → st = 5 → Effect .returnSignal s fun u => u.f Fl.RNG_STAT_STATE = 2 ∧
      u.rng.silent = false ∧ u.rng.asked = false) ∧
    (guest → s.rng.signalled = true → Answers .returnComplete s fun u => u.f Fl.RNG_STAT_GUEST = 0 ∧
      u.f Fl.RNG_STAT_GUESTID = 0 ∧ cause u 10 ∧ u.rng.asked = false ∧ u.rng.returnAt = none) ∧
    (¬ guest → s.rng.returnAt.isSome = true → st = 2 → Answers .returnComplete s fun u => u.rng.returnAt = none ∧
      (s.f Fl.RNG_VIEWST_SPLID = s.modid → u.f Fl.RNG_SPL_STEP = 0 ∧ cause u 15)) ∧
    (let m := s.f Fl.RNG_VIEWST_SPLID
     (m = 0 → keeps .spliceHandover) ∧
     (m ≠ 0 → m = s.modid → s.f Fl.RNG_SPL_STEP = 1 → Answers .spliceHandover s fun u => u.f Fl.RNG_SPL_STEP = 2) ∧
     (m ≠ 0 → m ≠ s.modid → m = s.f Fl.RNG_STAT_PROT → st = 2 → ¬ guest → Answers .spliceHandover s fun u =>
       u.f Fl.RNG_STAT_GUEST = 1 ∧ u.f Fl.RNG_STAT_GUESTID = m ∧ cause u 9 ∧ u.q R.RNG_TDECLL R.RNG_TDECLH = s.now))

/-! ### Protected channels (spec/15) -/

/-- R484 to R490, R494, R498: requests, latches and holds. -/
def Obligations.ProtectedChannels : Prop :=
  ∀ (n : Nat) (s : State), n < 16 →
    let st (u : State) (k : Nat) : Nat := u.f Fl.LSW_CHSTAT_STATE k
    let cause (u : State) (j : Nat) : Prop := bitOf (u.f Fl.LSW_STAT_CAUSE) j = true
    let isOn (u : State) : Prop := st u n = (if s.f Fl.LSW_CHCFG_TINRUSH n = 0 then 1 else 2) ∧
      (u.ch n).inrush = decide (s.f Fl.LSW_CHCFG_TINRUSH n ≠ 0)
    let prog (u : State) (v : Nat) : Prop := u.f Fl.LSW_CHSTAT_PROG n = v
    let others := s.f Fl.LSW_CHSTAT_FORCE n = 1 ∨ s.f Fl.LSW_CHSTAT_BLEED n = 1
    let latched (u : State) (k flt : Nat) : Prop := st u k = 4 ∧ u.f Fl.LSW_CHSTAT_FLT k = flt ∧ u.f Fl.LSW_CHI_I k = 0xFFFF
    (st s n = 4 → Effect (.channelOn n) s fun u => cause u 7 ∧ st u n = 4) ∧
    (st s n = 0 → s.supplyOk = true → Effect (.channelOn n) s fun u => isOn u ∧ prog u 1) ∧
    (st s n = 0 → s.supplyOk = false → Effect (.channelOn n) s fun u => st u n = 0 ∧ prog u 1) ∧
    (st s n = 1 ∨ st s n = 2 → s.supplyOk = true → Effect (.channelOn n) s fun u => st u n = st s n ∧ prog u 1) ∧
    (st s n = 3 → s.supplyOk = true → Effect (.channelOn n) s fun u => st u n = 6 ∧ prog u 1) ∧
    (st s n = 5 → (s.ch n).heldOn = true → Effect (.channelOn n) s fun u => prog u 1 ∧
      st u n = if (s.ch n).inrush then 2 else 1) ∧
    (st s n = 5 → (s.ch n).heldOn = false → s.supplyOk = true → Effect (.channelOn n) s fun u => isOn u ∧ prog u 1) ∧
    (st s n = 1 ∨ st s n = 2 → ¬ others → Effect (.channelOff n) s fun u => st u n = 3 ∧ prog u 0 ∧ (u.ch n).clamping = true) ∧
    (st s n = 1 ∨ st s n = 2 → others → s.supplyOk = true → Effect (.channelOff n) s fun u => st u n = st s n ∧ prog u 0) ∧
    (st s n = 5 → ¬ others → Effect (.channelOff n) s fun u => prog u 0 ∧ st u n = if (s.ch n).heldOn then 3 else 0) ∧
    (let free := st s n = 4 ∧ (s.ch n).clamping = false ∧
       (s.f Fl.LSW_CHSTAT_FLT n ≠ 2 ∨ s.fi Fl.LSW_CHI_TJ n < 15000)
     (free → Effect (.channelClear n) s fun u => prog u 0 ∧ u.f Fl.LSW_CHSTAT_FLT n = 0 ∧
       (¬ others → st u n = 0) ∧ (others → s.supplyOk = true → isOn u)) ∧
     (¬ free → Effect (.channelClear n) s fun u => u.reg R.LSW_CHSTAT n = s.reg R.LSW_CHSTAT n)) ∧
    (∀ mA10,
      let trip := s.f Fl.LSW_CHLIM_ITRIP n
      let level := if (s.ch n).inrush then min (3 * trip) (if n < 12 then 2400 else 4800) else trip
      let live := st s n = 1 ∨ st s n = 2 ∨ st s n = 3 ∨ st s n = 6 ∨ st s n = 5 ∧ (s.ch n).heldOn = true
      (live → level < mA10 → Effect (.channelOvercurrent n mA10) s fun u => latched u n 1 ∧ cause u 0) ∧
      (mA10 ≤ level → Effect (.channelOvercurrent n mA10) s fun u => u.reg R.LSW_CHSTAT n = s.reg R.LSW_CHSTAT n)) ∧
    (st s n ≠ 4 → Effect (.channelOvertemp n) s fun u => latched u n 2 ∧ cause u 1) ∧
    (let on (k : Nat) : Prop := k < 16 ∧ (st s k = 1 ∨ st s k = 2 ∨ st s k = 5 ∧ (s.ch k).heldOn = true)
     let pool (k : Nat) : Prop := on k ∧ ((s.ch k).inrush = true ∨ ∀ j, on j → (s.ch j).inrush = false)
     (pool n → (∀ m, pool m → m ≠ n → (s.ch m).onOrder < (s.ch n).onOrder ∨
       (s.ch m).onOrder = (s.ch n).onOrder ∧ m < n) → Effect .aggregateTrip s fun u => latched u n 3 ∧ cause u 3 ∧
         ∀ m, m < 16 → m ≠ n → u.reg R.LSW_CHSTAT m = s.reg R.LSW_CHSTAT m) ∧
     ((∀ k, ¬ on k) → Effect .aggregateTrip s fun u => u.reg R.LSW_CHSTAT n = s.reg R.LSW_CHSTAT n)) ∧
    (st s n = 5 → s.chWanted n = false → Effect (.holdEnd n) s fun u => cause u 6 ∧
      st u n = if (s.ch n).heldOn then 3 else 0)

/-- R485, R486, R491 to R494: the channels over time. -/
def Obligations.ChannelEvents : Prop :=
  ∀ (n : Nat) (s : State), n < 16 →
    let st (u : State) : Nat := u.f Fl.LSW_CHSTAT_STATE n
    let isOn (u : State) : Prop := st u = (if s.f Fl.LSW_CHCFG_TINRUSH n = 0 then 1 else 2) ∧
      (u.ch n).inrush = decide (s.f Fl.LSW_CHCFG_TINRUSH n ≠ 0)
    let others := s.f Fl.LSW_CHSTAT_FORCE n = 1 ∨ s.f Fl.LSW_CHSTAT_BLEED n = 1
    ((s.ch n).inrush = true → Effect (.inrushEnd n) s fun u => (u.ch n).inrush = false ∧
      st u = if st s = 2 then 1 else st s) ∧
    ((s.ch n).mode = 1 → Effect (.pwmPeriod n) s fun u => (u.ch n).mode = s.f Fl.LSW_CHCFG_MODE n ∧
      (u.ch n).freq = s.f Fl.LSW_CHPWM_FREQ n ∧ (u.ch n).duty = s.f Fl.LSW_CHPWM_DUTY n) ∧
    ((s.ch n).mode = 2 → s.f Fl.LSW_CHSTAT_PROG n = 1 → st s = 1 ∨ st s = 2 →
      (¬ others → Effect (.timedPulseEnd n) s fun u => u.f Fl.LSW_CHSTAT_PROG n = 0 ∧ st u = 3) ∧
      (others → s.supplyOk = true → Effect (.timedPulseEnd n) s fun u => u.f Fl.LSW_CHSTAT_PROG n = 0 ∧ st u = st s)) ∧
    ((s.ch n).clamping = true → st s = 3 → s.chWanted n = false → Effect (.clampEnd n) s fun u => st u = 0 ∧
      (u.ch n).clamping = false) ∧
    ((s.ch n).clamping = true → st s = 6 → s.chWanted n = true → s.supplyOk = true → Effect (.clampEnd n) s fun u =>
      isOn u ∧ (u.ch n).clamping = false) ∧
    (let found := st s = 1 ∧ s.f Fl.LSW_CHLIM_IOL n ≠ 0 ∧ s.supplyOk = true
     (found → Effect (.openLoad n) s fun u => u.f Fl.LSW_CHSTAT_OL n = 1 ∧ st u = 1 ∧
       bitOf (u.f Fl.LSW_STAT_CAUSE) 2 = true) ∧
     (¬ found → Effect (.openLoad n) s fun u => u.reg R.LSW_CHSTAT n = s.reg R.LSW_CHSTAT n)) ∧
    (∀ (i : Nat) (tj : Int), i < 65536 → -32768 ≤ tj → tj < 32768 → Effect (.currentSense n i tj) s fun u =>
      u.fi Fl.LSW_CHI_TJ n = tj ∧ u.f Fl.LSW_CHI_I n = (if st s = 4 ∨ s.f Fl.LSW_SUP_GND = 1 then 0xFFFF else i) ∧
        (s.f Fl.LSW_CHLIM_IOL n + 50 ≤ 10 * i → u.f Fl.LSW_CHSTAT_OL n = 0) ∧
        u.f Fl.LSW_AGG_SUM = ((List.range 16).map fun k =>
          if u.f Fl.LSW_CHI_I k = 0xFFFF then 0 else u.f Fl.LSW_CHI_I k).sum % 65536) ∧
    ∀ mv, Effect (.vauxDroop mv) s fun u => u.f Fl.LSW_SUP_VAUX = mv / 10 % 65536 ∧
      (mv < 20000 → u.f Fl.LSW_SUP_DROOP = 1 ∧ bitOf (u.f Fl.LSW_STAT_CAUSE) 4 = true) ∧
      (20000 ≤ mv → mv < 21000 → u.f Fl.LSW_SUP_DROOP = s.f Fl.LSW_SUP_DROOP) ∧
      (21000 ≤ mv → u.f Fl.LSW_SUP_DROOP = 0) ∧ st u = st s

/-! ### Battery strings and the holdover pack (spec/16) -/

/-- R506 to R524: the estimator's commands. -/
def Obligations.Estimator : Prop :=
  ∀ (k : Nat) (s : State), s.pkOn k = true →
    (∀ dq mv ma, s.sys.phase = .running → s.f Fl.SYS_PWRSTAT_STATE ≤ 1 → Answers (.estimatorStep k dq mv ma) s fun t =>
      t.reg R.EST_V k = BitVec.ofInt 32 mv ∧ t.reg R.EST_I k = BitVec.ofInt 32 ma ∧
        t.q R.EST_QL R.EST_QH k = (if s.f Fl.EST_SHUNT_SHUNT k = 0 then s.q R.EST_QL R.EST_QH k
          else unsignedOf 64 (s.qi R.EST_QL R.EST_QH k + dq)) ∧
        (s.packTemp k = none → bitOf (t.f Fl.EST_STAT_CAUSE) 4 = true) ∧
        (s.pkSt k = pkPending → k < 8 → t.reg R.EST_DIS k = 0 ∧ t.reg R.EST_CHG k = 0 ∧ t.f Fl.EST_SOCE_SOCE k = s.f Fl.EST_SOCE_SOCE k) ∧
        (s.pkSt k = pkEstimating ∨ s.pkSt k = pkRest →
          let r := s.f Fl.EST_SOC_SOCR k
          let e := t.f Fl.EST_SOCE_SOCE k
          t.f Fl.EST_SOC_SOCR k = if ma ≤ -(s.f Fl.EST_REST_IREST k : Int) then min r e
            else if r ≤ e then min e (r + 10) else max e (r - 10))) ∧
    (∀ mv ma,
      (mv ≤ (s.f Fl.EST_VMIN_V k : Int) → Answers (.voltageLimitCheck k mv ma) s fun t =>
        t.reg R.EST_DIS k = 0 ∧ bitOf (t.f Fl.EST_STAT_CAUSE) 3 = true) ∧
      ((s.f Fl.EST_VMAX_V k : Int) ≤ mv → Answers (.voltageLimitCheck k mv ma) s fun t =>
        t.reg R.EST_CHG k = 0 ∧ bitOf (t.f Fl.EST_STAT_CAUSE) 3 = true) ∧
      ((s.f Fl.EST_VMIN_V k : Int) < mv → mv < s.f Fl.EST_VMAX_V k → Answers (.voltageLimitCheck k mv ma) s fun t =>
        t.reg R.EST_DIS k = s.reg R.EST_DIS k ∧ t.reg R.EST_CHG k = s.reg R.EST_CHG k)) ∧
    (let rests (t : State) : Prop := t.pkSt k = pkRest ∧ t.f Fl.EST_SOC_U k = min 5000 (s.f Fl.EST_UCFG_UOCV k) ∧
        t.f Fl.EST_SOCE_SOCE k = s.ocvInverse k (signedOf 32 (s.reg R.EST_V k).toNat) ∧ (t.pk k).lastRest = s.calendar;
      (s.pkSt k = pkEstimating → s.quiet k = true → Answers (.restStart k) s rests) ∧
      (s.pkSt k = pkRest → Answers (.restRepeat k) s rests)) ∧
    (k < 8 → (Answers (.counterCheck k false) s fun t => t.pkSt k = pkFault ∧ t.reg R.EST_DIS k = 0 ∧
        t.reg R.EST_CHG k = 0 ∧ bitOf (t.f Fl.EST_STAT_CAUSE) 4 = true) ∧
      (s.pkSt k = pkFault → Answers (.counterCheck k true) s fun t =>
        t.pkSt k = if 99 ≤ (s.pk k).passed then pkEstimating else pkFault)) ∧
    (Answers .packRecordWrite s fun t => if s.nvOk then
        (t.pk k).saved = some { words := (packRegs k).map fun e => (e.1.addrAt e.2, s.reg e.1 e.2), lastRest := (s.pk k).lastRest }
      else (t.pk k).retry = true) ∧
    (let inserted (t : State) : Prop := t.pkSt k = pkPending ∧ t.reg R.EST_DIS k = 0 ∧ t.reg R.EST_CHG k = 0 ∧
        (s.otherPack k = true → t.reg R.EST_CAP k = s.reg R.EST_CAPNOM k ∧ t.reg R.EST_CYCLES k = 0);
      (∀ mv : Int, ((s.f Fl.EST_VMIN_V k / 10 : Nat) : Int) < mv → Answers (.packInsert k mv) s inserted) ∧
      Answers (.reestimate k) s inserted) ∧
    (Answers (.newpack k) s fun t => t.pkSt k = pkPending ∧ t.reg R.EST_CAP k = s.reg R.EST_CAPNOM k ∧ t.reg R.EST_CYCLES k = 0) ∧
    (s.pkSt k = pkPending → Answers (.firstEstimate k) s fun t => t.pkSt k = pkEstimating ∧
      t.f Fl.EST_SOC_SOCR k = t.f Fl.EST_SOCE_SOCE k ∧ t.f Fl.EST_SOC_U k = (if s.quiet k then 500 else 1500) ∧
      bitOf (t.f Fl.EST_STAT_CAUSE) 0 = true ∧
      (s.quiet k = true → t.f Fl.EST_SOCE_SOCE k = s.ocvInverse k (signedOf 32 (s.reg R.EST_V k).toNat))) ∧
    (∀ ma, Answers (.hpChargeEnd ma) s fun t =>
      t.est.charging = if ma < (s.f Fl.EST_HPCFG_HPICHG : Int) then false else s.est.charging) ∧
    ∀ dq mv, s.pkOn 8 = true → s.f Fl.SYS_PWRSTAT_STATE = 3 → s.sys.onHp = true →
      (s.f Fl.EST_HPCFG_AUTOFURL = 0 → s.f Fl.SYS_PWRSTAT_FURL_ARMED = 0 → Answers (.hpStowCheck dq mv) s fun t =>
        t.reg R.EST_V 8 = BitVec.ofInt 32 mv) ∧
      (s.f Fl.EST_HPCFG_AUTOFURL = 1 → mv ≤ 3000 → s.sys.target = none → s.sys.vinGone = true →
        Effect (.hpStowCheck dq mv) s fun u => u.sys.phase = .off ∧ u.sys.furl = true)

/-! ### Time and synchronisation (spec/18) -/

/-- R329, R527, R531, R532, R539, R540. -/
def Obligations.FoldAndCalendar : Prop :=
  ∀ s : State,
    let b := s.now / 1000000 * 1000000
    let cause (u : State) (j : Nat) : Prop := bitOf (u.f Fl.TIM_STAT_CAUSE) j = true
    (∀ m, m < 24 → s.metersRun = true → (rawAt (s.mt m) b).1 < 2 ^ 48 → (rawAt (s.mt m) b).2 < 2 ^ 48 →
      let del := s.totalDel m + ((rawAt (s.mt m) b).1 + 2 ^ 48 - s.q R.MTR_RAWDELL R.MTR_RAWDELH m) % 2 ^ 48
      let rcv := s.totalRec m + ((rawAt (s.mt m) b).2 + 2 ^ 48 - s.q R.MTR_RAWRECL R.MTR_RAWRECH m) % 2 ^ 48
      Answers .fold s fun u => u.q R.MTR_EDELL R.MTR_EDELH m = del / 65536 % 2 ^ 64 ∧ (u.mt m).fracDel = del % 65536 ∧
        u.q R.MTR_ERECL R.MTR_ERECH m = rcv / 65536 % 2 ^ 64 ∧ (u.mt m).fracRec = rcv % 65536 ∧
        u.q R.MTR_RAWDELL R.MTR_RAWDELH m = (rawAt (s.mt m) b).1 ∧ u.q R.MTR_RAWRECL R.MTR_RAWRECH m = (rawAt (s.mt m) b).2 ∧
        (s.nvOk = true → u.mtr.committed.seq = s.mtr.committed.seq + 1 ∧ u.mtr.committed.instant = b ∧
          (u.mtr.committed.meters.getD m {}).del = del / 65536 % 2 ^ 64 ∧ u.mtr.committed.run = s.mtr.run) ∧
        (s.nvOk = false → u.mtr.committed = s.mtr.committed)) ∧
    (∀ ms, s.time.stepPend = some ms →
      (s.runlock = false → s.time.calPend = none → Answers .fold s fun u => u.time.stepPend = none ∧
        u.f Fl.TIM_STAT_STEPPEND = 0 ∧ u.time.koff = s.time.koff - ms * 1000000 ∧
        u.time.now = unsignedOf 96 ((s.time.now : Int) + ms * 1000000 * 2 ^ 32)) ∧
      (s.runlock = true → Answers .fold s fun u => u.time.stepPend = none ∧ u.f Fl.TIM_STAT_STEPPEND = 0 ∧
        u.f Fl.TIM_STAT_STEPERR = 1 ∧ cause u 4 ∧ u.time.now = s.time.now)) ∧
    (∀ utc src, s.time.stepPend = none → s.time.calPend = some (utc, src) → Answers .fold s fun u =>
      u.time.calPend = none ∧ u.f Fl.TIM_STAT_CALPEND = 0 ∧ u.f Fl.TIM_STAT_CALVALID = 1 ∧ cause u 3 ∧
        u.time.now = s.time.now ∧ (s.time.oscRunning = true → u.f Fl.TIM_STAT_RTCVALID = 1) ∧
        (s.f Fl.BIL_CTL_EN = 0 → u.time.koff = (utc : Int) - s.now)) ∧
    (∀ ns, Answers (.incrementWrite ns) s fun u =>
      u.time.inc = max 21453361644 (min 21496311316 (s.f Fl.TIM_INCL_FRAC + ns % 16 * 2 ^ 32)) ∧
        u.f Fl.TIM_INCL_FRAC = u.time.inc % 2 ^ 32 ∧ u.f Fl.TIM_INCH_NS = u.time.inc / 2 ^ 32) ∧
    (∀ ms,
      (s.runlock = true → Answers (.timeStepRequest ms) s fun u => u.f Fl.TIM_STAT_STEPERR = 1 ∧ cause u 4 ∧
        u.time.stepPend = s.time.stepPend) ∧
      (s.runlock = false → Answers (.timeStepRequest ms) s fun u =>
        u.time.stepPend = (if ms = 0 then none else some ms) ∧ u.f Fl.TIM_STAT_STEPPEND = if ms = 0 then 0 else 1)) ∧
    Answers .runlockSet s (fun u => u.f Fl.TIM_CTL_LOCK = 1 ∧ u.runlock = true) ∧
    (∀ src, src < 8 → Answers (.calendarSet src) s fun u => u.f Fl.TIM_STAT_CALPEND = 1 ∧ u.f Fl.TIM_CALCTL_SRC = src ∧
      u.time.calPend = some ((s.q R.TIM_CALSETL R.TIM_CALSETH : Int), src)) ∧
    (let p := s.f Fl.TIM_LEAP_PEND
     let due := (p = 1 ∨ p = 2) ∧ ((s.f Fl.TIM_LEAPAT_S * 1000000000 : Nat) : Int) ≤ s.calendar
     let new := s.time.koff + if p = 1 then -1000000000 else 1000000000
     (due → Answers .leapSecond s fun u => u.f Fl.TIM_LEAP_PEND = 0 ∧
       u.f Fl.TIM_LEAP_TAIUTC = (s.f Fl.TIM_LEAP_TAIUTC + if p = 1 then 1 else 255) % 256 ∧
       (s.f Fl.BIL_CTL_EN = 0 ∨ (new - s.bilK).natAbs ≤ min 60000 (s.f Fl.BIL_STEPTH_STEPTH) * 1000000 →
         u.time.koff = new)) ∧
     (¬ due → Answers .leapSecond s fun u => u.time.koff = s.time.koff ∧ u.f Fl.TIM_LEAP_PEND = p))

/-- R534, R535, R538, R541, R542. -/
def Obligations.RtcAndTimestamps : Prop :=
  ∀ s : State,
    let cause (u : State) (j : Nat) : Prop := bitOf (u.f Fl.TIM_STAT_CAUSE) j = true
    Answers .rtcOscFail s (fun u => u.f Fl.TIM_STAT_OSCF = 1 ∧ u.f Fl.TIM_STAT_RTCVALID = 0 ∧ cause u 6 ∧
      u.time.oscRunning = false) ∧
    (s.f Fl.TIM_RTCS_S = s.f Fl.TIM_ALARM_S → Answers .rtcAlarm s fun u => cause u 5) ∧
    (s.f Fl.TIM_RTCS_S ≠ s.f Fl.TIM_ALARM_S → Answers .rtcAlarm s fun u => u.without settledPart = s.without settledPart) ∧
    (s.f Fl.SYS_PWRSTAT_STATE ≤ 1 → Answers .rtcSecondLoad s fun u => u.f Fl.TIM_RTCSUB_SUB = 0 ∧
      (u.f Fl.TIM_RTCS_S : Int) = s.calendar / 1000000000 % 2 ^ 32) ∧
    (1 < s.f Fl.SYS_PWRSTAT_STATE → Answers .rtcSecondLoad s fun u => u.f Fl.TIM_RTCS_S = s.f Fl.TIM_RTCS_S) ∧
    Answers .ppsOut s (fun u => cause u 0 ∧
      u.time.ppsOut = if s.f Fl.TIM_CTL_PPSEN = 1 then s.time.ppsOut + 1 else s.time.ppsOut) ∧
    Answers .ppsIn s (fun u => u.q R.TIM_PPSIL R.TIM_PPSIH = s.now ∧ cause u 7) ∧
    (∀ q e l, q < 4 → s.fifo q = e :: l → l.length < 16 → Answers (.timestampRead q) s fun u =>
      u.readData = s.reg R.TIM_INFO q ∧ u.fifo q = l ∧ u.f Fl.TIM_FSTAT_COUNT q = l.length ∧
        ∀ e' l', l = e' :: l' → e'.time < 2 ^ 64 → e'.msgType < 16 → e'.seq < 65536 → e'.domain < 256 →
          u.q R.TIM_TSL R.TIM_TSH q = e'.time ∧ u.f Fl.TIM_INFO_MSGTYPE q = e'.msgType ∧
            u.f Fl.TIM_INFO_SEQID q = e'.seq ∧ u.f Fl.TIM_INFO_DOMAIN q = e'.domain ∧ u.f Fl.TIM_INFO_DIR q = b2n e'.sent) ∧
    ∀ port k seq domain, port < 2 → s.f Fl.RNG_LINK_STATE port = 2 →
      let q := 2 + port
      (k < 4 → (s.fifo q).length < 16 → Answers (.ringPtpFrame port k seq domain) s fun u => cause u 1 ∧
        u.fifo q = s.fifo q ++ [{ time := s.now, domain := domain, sent := false, msgType := k, seq := seq }] ∧
        u.f Fl.TIM_FSTAT_COUNT q = (s.fifo q).length + 1) ∧
      (k < 4 → 16 ≤ (s.fifo q).length → Answers (.ringPtpFrame port k seq domain) s fun u => cause u 1 ∧
        u.f Fl.TIM_FSTAT_OVF q = 1 ∧ u.fifo q = s.fifo q) ∧
      (4 ≤ k → Answers (.ringPtpFrame port k seq domain) s fun u => u.without settledPart = s.without settledPart)

/-! ### CAN FD (spec/20) -/

/-- R544 to R556: the CAN commands. -/
def Obligations.CanCommands : Prop :=
  ∀ (n : Nat) (s : State), n < 8 →
    let c := s.can n
    (s.f Fl.CAN_STAT_STATE n = 0 → s.f Fl.SYS_PWRSTAT_STATE ≤ 1 → Answers (.canEnable n) s fun t =>
      t.f Fl.CAN_CTL_EN n = 1 ∧ t.f Fl.CAN_STAT_STATE n = 1 ∧ (t.can n).joined = false) ∧
    (s.f Fl.CAN_STAT_STATE n = 1 → Answers (.canDisable n) s fun t =>
      t.f Fl.CAN_CTL_EN n = 0 ∧ t.f Fl.CAN_STAT_STATE n = 2) ∧
    (s.f Fl.CAN_STAT_STATE n = 2 → Answers (.canStopComplete n) s fun t =>
      t.f Fl.CAN_STAT_STATE n = 0 ∧ (t.can n).queue = [] ∧ t.f Fl.CAN_RXSTAT_COUNT n = s.f Fl.CAN_RXSTAT_COUNT n) ∧
    (s.f Fl.CAN_STAT_STATE n = 1 → Answers (.canBusJoin n) s fun t => (t.can n).joined = true) ∧
    (s.f Fl.CAN_STAT_FCS n = 2 → Answers (.canRecover n) s fun t => (t.can n).recovering = true) ∧
    (s.f Fl.CAN_STAT_FCS n = 2 → c.recovering = true → Answers (.canRecoveryComplete n) s fun t =>
      t.f Fl.CAN_STAT_FCS n = 0 ∧ t.f Fl.CAN_ERR_TEC n = 0 ∧ t.f Fl.CAN_ERR_REC n = 0) ∧
    (∀ e rest, c.queue = e :: rest →
      (c.wire = none → Answers (.canAbort n) s fun t => (t.can n).queue.length = rest.length) ∧
      (∀ w, c.wire = some w → Answers (.canAbort n) s fun t => (t.can n).queue = { e with aborting := true } :: rest) ∧
      (∀ w, c.wire = some w → Answers (.canAbortAll n) s fun t => (t.can n).queue = [{ e with aborting := true }]) ∧
      (∀ w, c.wire = some w → Answers (.canTxComplete n .sent) s fun t =>
        bitOf (t.f Fl.CAN_STAT_CAUSE n) 0 = true ∧ (t.can n).queue.length = rest.length) ∧
      (c.wire = none → e.launches = true → (e.launch - s.eventTime).toInt ≤ 0 → s.canSends n = true →
        Answers (.launchTimeReached (4 + n)) s fun t => (t.can n).wire = some s.eventTime)) ∧
    (c.wire = none → Answers (.canAbortAll n) s fun t => (t.can n).queue = []) ∧
    (c.queue.length < 16 → Answers (.canPush n) s fun t => (t.can n).queue.length = c.queue.length + 1 ∧
      (t.can n).queue.getLast?.map (·.hdr) = some (s.reg R.CAN_TXHDR n)) ∧
    (16 ≤ c.queue.length → Answers (.canPush n) s fun t => (t.can n).queue = c.queue ∧
      bitOf (t.f Fl.CAN_STAT_SUBCAUSE n) 0 = true) ∧
    (∀ k, Answers (.canRxReturn n k) s fun t =>
      t.f Fl.CAN_RXSTAT_COUNT n = s.f Fl.CAN_RXSTAT_COUNT n - min (s.f Fl.CAN_RXSTAT_COUNT n) (k % 64)) ∧
    Answers (.canTxEventRead n) s (fun t => t.readData = s.reg R.CAN_TXEVB n ∧ (t.can n).events = c.events.drop 1) ∧
    (∀ v, (s.f Fl.CAN_CTL_EN n = 0 → nominalOk v = true →
        Answers (.canTimingWrite n 0 v) s fun t => t.reg R.CAN_NBT n = v) ∧
      (s.f Fl.CAN_CTL_EN n = 1 → Answers (.canTimingWrite n 0 v) s fun t =>
        t.reg R.CAN_NBT n = s.reg R.CAN_NBT n ∧ bitOf (t.f Fl.CAN_STAT_SUBCAUSE n) 3 = true)) ∧
    (∀ x f, s.f Fl.CAN_STAT_STATE n = 1 → c.joined = true → s.f Fl.CAN_STAT_FCS n = 0 → s.f Fl.CAN_ERR_REC n ≤ 127 →
      c.search = none → s.f Fl.CAN_RXSTAT_COUNT n < 32 → f < 16 → s.canMatch n f x = true →
      Answers (.canFrameReceived n x) s fun t => t.f Fl.CAN_RXSTAT_COUNT n = s.f Fl.CAN_RXSTAT_COUNT n + 1) ∧
    (∀ k p bad, c.search = some (k, p) → k < 4 → Answers (.abdWindowEnd n 1 bad) s fun t =>
      t.reg R.CAN_NBT n = s.reg R.CAN_NSET (4 * n + k) ∧ t.f Fl.CAN_CTL_MODE n = 0 ∧ (t.can n).search = none) ∧
    (∀ lec, s.f Fl.CAN_STAT_STATE n = 1 → s.f Fl.CAN_STAT_FCS n ≠ 2 → Answers (.canRxError n lec) s fun t =>
      t.f Fl.CAN_STAT_LEC n = lec % 16 ∧ t.f Fl.CAN_ERR_REC n = min 255 (s.f Fl.CAN_ERR_REC n + 1)) ∧
    (s.f Fl.CAN_CTL_WAKEEN n = 1 → s.f Fl.SYS_PWRSTAT_STATE = 2 → s.sys.target = none →
      bitOf (s.f Fl.SYS_WAKEEN_SRC) 4 = true → Effect (.canWakePattern n) s fun u =>
        u.sys.target = some 0 ∧ bitOf (u.f Fl.SYS_WAKESRC_SRC) 4 = true)

/-! ### Deckline (spec/19) -/

/-- R560, R561, R567, R570, R571, R576: Deckline's line side. -/
def Obligations.DecklineLine : Prop :=
  ∀ (s : State), s.dklState ≠ 0 →
    (∀ rising, s.dklState = 1 → Answers (.zeroCrossing rising) s fun t =>
      t.f Fl.DKL_STAT_HCNT % 2 = (if rising then 0 else 1) ∧ t.dkl.cross = some s.now ∧
        (((s.f Fl.DKL_STAT_HCNT + 1) % 2 == 0) = rising → t.f Fl.DKL_STAT_HCNT = (s.f Fl.DKL_STAT_HCNT + 1) % 256)) ∧
    (∀ rising, 2 ≤ s.dklState → Answers (.zeroCrossing rising) s fun t =>
      t.dklState = (if s.dklState = 3 then 1 else 0) ∧ t.dkl.tx = [] ∧ t.dkl.line = none) ∧
    (s.dklState = 1 → Answers .mainsLost s fun t => t.f Fl.DKL_STAT_MCLASS = 0 ∧ t.dkl.line = none ∧
      (s.f Fl.DKL_STAT_MCLASS ≠ 0 → bitOf (t.f Fl.DKL_STAT_CAUSE) 7 = true)) ∧
    (∀ i k x, i < 8 → s.dklSends = true → s.dkl.owner = 0 → s.dkl.current = some k → s.dkl.tx[k]? = some x →
      s.robustTx x = false → nextUnits x (s.slotCapacity x.next i / 4) ≠ [] → Answers (.slotStart i) s fun t =>
        ∃ o, t.dkl.line = some o ∧ o.slot = i ∧ o.fseq = x.fseq % 16 ∧
          o.units = nextUnits x (s.slotCapacity x.next i / 4) ∧
          o.data = o.units.flatMap fun k => (x.bytes.drop (4 * k)).take 4) ∧
    (∀ n x, 1 ≤ n → n ≤ 62 → x.slot < 8 → x.slot < (s.link n).fails.length →
      (x.crcOk = true → Answers (.segmentReceived n x) s fun t => (t.link n).fails.getD x.slot 0 = 0 ∧
        (t.link n).up = true ∧ ∃ l, (t.link n).rx = some (x.frame, l) ∧ ∀ u ∈ x.units, u.1 ∈ l) ∧
      (x.crcOk = false → (s.link n).fails.getD x.slot 0 < 2 → Answers (.segmentReceived n x) s fun t =>
        (t.link n).fails.getD x.slot 0 = (s.link n).fails.getD x.slot 0 + 1 ∧ ∀ i, t.rxMap n i = s.rxMap n i) ∧
      (x.crcOk = false → 2 ≤ (s.link n).fails.getD x.slot 0 → Answers (.segmentReceived n x) s fun t =>
        t.rxMap n x.slot = degrade (s.rxMap n x.slot) ∧ (t.link n).mapSlot = some x.slot ∧
          bitOf (t.f Fl.DKL_STAT_CAUSE) 4 = true)) ∧
    (∀ n x g bits, s.waitingTx n = some x → x.kind = 0 → x.tag = some g → (∀ i, i < x.units.length → bits.getD i false = true) →
      Answers (.dklAckFrame n x.fseq bits none) s fun t => t.dkl.tx = s.dkl.tx.erase x ∧
        t.dkl.events = s.dkl.events ++ [{ tag := g, status := 0, dst := x.dst }] ∧
        bitOf (t.f Fl.DKL_STAT_CAUSE) 1 = true) ∧
    (∀ n q bits i m, n < 64 → s.waitingTx n = none → i < 8 → Answers (.dklAckFrame n q bits (some (i, m))) s fun t =>
      (t.link n).newMaps = (s.link n).newMaps ++ [(i, m)] ∧ t.dkl.owes = s.dkl.owes.erase n) ∧
    ∀ n x g, s.waitingTx n = some x → x.tag = some g →
      ((∃ u ∈ x.units, u.1 = .waiting ∧ 5 ≤ u.2) → n < 64 → Answers (.ackTimeout n) s fun t =>
        { tag := g, status := 1, dst := x.dst } ∈ t.dkl.events ∧ bitOf (t.f Fl.DKL_STAT_CAUSE) 2 = true ∧
          (t.link n).up = false) ∧
      ((∃ u ∈ x.units, u.1 = .waiting) → (∀ u ∈ x.units, u.1 = .waiting ∨ u.1 = .lost → u.2 < 5) →
        Answers (.ackTimeout n) s fun t => t.dkl.tx = s.dkl.tx.map fun z => if z == x then
          { x with units := x.units.map fun u => if u.1 == .waiting then (UnitState.lost, u.2) else u } else z)

/-- R565, R569, R572, R575 to R577: Deckline's network side. -/
def Obligations.DecklineNetwork : Prop :=
  ∀ (s : State),
    (s.dklState ≠ 0 →
      (∀ x, 1 ≤ x.src → x.src ≤ 62 →
        ((s.link x.src).last ≠ some x.frame → x.dst = 0 → s.f Fl.DKL_RXSTAT_COUNT < 16 → Answers (.dklDataFrame x) s fun t =>
          t.f Fl.DKL_RXSTAT_COUNT = s.f Fl.DKL_RXSTAT_COUNT + 1 ∧ bitOf (t.f Fl.DKL_STAT_CAUSE) 0 = true ∧
            (x.src, x.frame) ∈ t.dkl.ackDue) ∧
        ((s.link x.src).last ≠ some x.frame → x.dst ≠ 0 → x.dst ≠ 63 → Answers (.dklDataFrame x) s fun t =>
          t.dkl.tx.length = s.dkl.tx.length + 1 ∧ (x.src, x.frame) ∈ t.dkl.ackDue ∧
            t.f Fl.DKL_RXSTAT_COUNT = s.f Fl.DKL_RXSTAT_COUNT) ∧
        ((s.link x.src).last = some x.frame → Answers (.dklDataFrame x) s fun t =>
          t.dkl.tx = s.dkl.tx ∧ (x.src, x.frame) ∈ t.dkl.ackDue ∧ t.f Fl.DKL_RXSTAT_COUNT = s.f Fl.DKL_RXSTAT_COUNT)) ∧
      (∀ n, s.node n = 2 →
        (∀ snr i, i < 8 → (snr.getD i []).length = 22 → Answers (.soundFrame n snr) s fun t =>
          t.rxMap n i = (snr.getD i []).map snrCode) ∧
        (∀ maps, Answers (.mapFrame n maps) s fun t =>
          (t.link n).newMaps = (List.range 8).map fun i => (i, (maps.getD i []).take 22)) ∧
        (∀ l, Answers (.neighFrame n l) s fun t => (t.link n).heard = l.take 8) ∧
        (s.dklState = 1 → (∀ x ∈ s.dkl.tx, x.kind = 2 → x.dst ≠ n) → Answers (.soundingDue n) s fun t =>
          t.dkl.tx.length = s.dkl.tx.length + 1)) ∧
      (∀ id d n, id < 2 ^ 64 → (∀ k, 1 ≤ k → k ≤ 62 → s.node k ≠ 0 → s.q R.DKL_NODEA R.DKL_NODEB (k - 1) ≠ id) →
        (1 ≤ n → n ≤ 62 → s.node n = 0 → (∀ k, 1 ≤ k → k < n → s.node k ≠ 0) → s.f Fl.DKL_CTL_AUTOAPP = 0 →
          Answers (.joinFrame id 0 d) s fun t => t.node n = 1 ∧ t.q R.DKL_NODEA R.DKL_NODEB (n - 1) = id ∧
            bitOf (t.f Fl.DKL_STAT_CAUSE) 3 = true) ∧
        ((∀ k, 1 ≤ k → k ≤ 62 → s.node k ≠ 0) → Answers (.joinFrame id 0 d) s fun t =>
          t.f Fl.DKL_STAT_JOINFULL = min 255 (s.f Fl.DKL_STAT_JOINFULL + 1) ∧ ∀ k, t.node k = s.node k)) ∧
      ∀ n, s.node n = 1 → (s.link n).approved = false → Answers (.nodeApprove n) s fun t =>
        (t.link n).approved = true ∧ t.dkl.tx.length = s.dkl.tx.length + 1) ∧
    (∀ n, s.node n = 1 → (s.link n).approved = false → Answers (.joinApprovalTimeout n) s fun t => t.node n = 0) ∧
    (∀ v : Word, v.getLsbD 31 = true →
      let own := (s.dkl.tx.filter fun x : DklTx => x.tag.isSome).length
      (own < 8 → bitsOf v 0 8 ≤ 240 → bitsOf v 24 6 = 63 ∨ s.node (bitsOf v 24 6) = 2 → Answers (.dklSend v) s fun t =>
        t.dkl.tx.length = s.dkl.tx.length + 1 ∧ (t.dkl.tx.getLast?.map (·.tag)) = some (some (bitsOf v 16 4))) ∧
      (8 ≤ own ∨ 240 < bitsOf v 0 8 → Answers (.dklSend v) s fun t =>
        t.dkl.tx = s.dkl.tx ∧ bitOf (t.f Fl.DKL_STAT_CAUSE) 2 = true)) ∧
    (∀ k, Answers (.dklRxReturn k) s fun t =>
      t.f Fl.DKL_RXSTAT_COUNT = s.f Fl.DKL_RXSTAT_COUNT - min (s.f Fl.DKL_RXSTAT_COUNT) (k % 32)) ∧
    (Answers .dklTxEventRead s fun t => t.readData = s.reg R.DKL_TXEV ∧ t.dkl.events = s.dkl.events.drop 1) ∧
    (s.dklState = 0 → s.f Fl.SYS_PWRSTAT_STATE ≤ 1 → Answers .dklEnable s fun t =>
      t.f Fl.DKL_CTL_EN = 1 ∧ t.dklState = 1) ∧
    (s.dklState = 2 → Answers .dklEnable s fun t => t.dklState = 3) ∧
    (s.dklState = 1 → s.dklSends = true → Answers .dklDisable s fun t => t.f Fl.DKL_CTL_EN = 0 ∧ t.dklState = 2) ∧
    (s.dklState = 1 → s.dklSends = false → Answers .dklDisable s fun t => t.dklState = 0 ∧ t.dkl.tx = [])

/-! ### The host port (spec/20) -/

/-- R582 to R587, R595 to R599: queues and messages. -/
def Obligations.HostQueues : Prop :=
  ∀ (s : State),
    (∀ q, q < 32 →
      (∀ tail,
        let head := s.f Fl.HST_SQHEAD_HEAD q
        let kept : Prop := (s.f Fl.HST_SQTAIL_TAIL q + 16 - head) % 16 ≤ (tail % 16 + 16 - head) % 16
        (s.queueState q = 1 → kept → Answers (.hostDoorbell q tail) s fun t => t.f Fl.HST_SQTAIL_TAIL q = tail % 16) ∧
        (s.queueState q ≠ 1 ∨ ¬ kept → Answers (.hostDoorbell q tail) s fun t =>
          t.f Fl.HST_SQTAIL_TAIL q = s.f Fl.HST_SQTAIL_TAIL q ∧ t.f Fl.HST_QSTAT_ERR q = 1 ∧
            bitOf (t.f Fl.HST_STAT_CAUSE) 6 = true)) ∧
      (s.queueState q = 0 → Answers (.queueEnable q) s fun t => t.queueState q = 1 ∧ t.f Fl.HST_QCFG_EN q = 1 ∧
        t.f Fl.HST_SQHEAD_HEAD q = 0 ∧ t.f Fl.HST_SQTAIL_TAIL q = 0) ∧
      (s.queueState q = 2 → Answers (.queueEnable q) s fun t => t.queueState q = 3) ∧
      (s.queueState q = 1 → Answers (.queueDisable q) s fun t => t.f Fl.HST_QCFG_EN q = 0 ∧
        t.queueState q = if s.inflight q = 0 then 0 else 2) ∧
      (s.queueState q = 3 → Answers (.queueDisable q) s fun t => t.queueState q = 2) ∧
      (∀ head, Answers (.completionReturn q head) s fun t => t.f Fl.HST_CQHEAD_HEAD q = head % 16)) ∧
    (∀ q k, s.host.fetchStopped = false → s.nextQueue 0 s.host.lastQueue0 = some q →
      (List.range 48).find? (fun k => (s.op k).isNone) = some k →
      let d := s.descriptor q (s.f Fl.HST_SQHEAD_HEAD q)
      Effect .descriptorFetch s fun u => u.f Fl.HST_SQHEAD_HEAD q = (s.f Fl.HST_SQHEAD_HEAD q + 1) % 16 ∧
        ∃ o, u.op k = some o ∧ o.queue = q ∧ o.op = d.op ∧ o.tag = d.tag ∧ o.ended = (s.turnAway d).isSome) ∧
    (∀ k o, s.op k = some o → o.message = true →
      let n := s.f Fl.HST_QCFG_HART o.queue
      (o.delivered = false → s.host.ringHeld.toList.getD n 0 < 16 → Effect (.messageOperation k) s fun u =>
        u.op k = some { o with delivered := true } ∧
          u.host.ringHeld.toList.getD n 0 = s.host.ringHeld.toList.getD n 0 + 1 ∧
          bitOf (u.f Fl.HST_STAT_CAUSE) (1 + n) = true) ∧
      (s.host.endOrder = [] → s.queueState o.queue = 1 → o.queue < 32 →
        let w := (o.queue * 16 + s.f Fl.HST_CQTAIL_TAIL o.queue) * 4
        let freed (u : State) (status : Nat) (r0 r1 : Word) : Prop := u.op k = none ∧
          bitsOf (u.reg R.HST_CQMEM w) 0 16 = o.tag % 65536 ∧ bitsOf (u.reg R.HST_CQMEM (w + 1)) 0 16 = status ∧
          u.reg R.HST_CQMEM (w + 2) = r0 ∧ u.reg R.HST_CQMEM (w + 3) = r1 ∧
          u.f Fl.HST_CQTAIL_TAIL o.queue = (s.f Fl.HST_CQTAIL_TAIL o.queue + 1) % 16
        (s.f Fl.HST_QCFG_TMO o.queue ≠ 0 → Effect (.messageTimeout k) s fun u => freed u 7 0 0 ∧
          (o.queue, o.tag) ∈ u.host.lateTags) ∧
        ∀ h, h < 4 → s.messageAt (s.f Fl.HST_HCOP_QID h) (s.f Fl.HST_HCOP_TAG h) = some k →
          Effect (.hartCompletion h) s fun u =>
            freed u (s.f Fl.HST_HCSTMO_STATUS h) (s.reg R.HST_HCRES0 h) (s.reg R.HST_HCRES1 h))) ∧
    (∀ h, h < 4 → s.messageAt (s.f Fl.HST_HCOP_QID h) (s.f Fl.HST_HCOP_TAG h) = none → Effect (.hartCompletion h) s fun u =>
      if (s.f Fl.HST_HCOP_QID h, s.f Fl.HST_HCOP_TAG h) ∈ s.host.lateTags then u.f Fl.HST_HCSTAT_LATE h = 1
      else u.f Fl.HST_HCSTAT_ERR h = 1) ∧
    (∀ h n, h < 4 → Effect (.hartRingReturn h n) s fun u =>
      u.host.ringHeld.toList.getD h 0 = s.host.ringHeld.toList.getD h 0 - n % 32) ∧
    (∀ k l o, s.host.endOrder = k :: l → s.op k = some o → Effect (.operationComplete k) s fun u =>
      u.op k = none ∧ u.host.endOrder = l) ∧
    (∀ j (mask : Word), j < 4 → Effect (.hostEventClear j mask) s fun u => ∀ i, i < 32 →
      bitOf (u.f Fl.EVT_PEND_PEND j) i = (bitOf (s.f Fl.EVT_PEND_PEND j) i &&
        (!(mask.getLsbD i && s.b Fl.EVT_ROUTE_HEN (32 * j + i)) || s.heldSource (32 * j + i)))) ∧
    (∀ m : Byte, (s.host.msiVectors = 0 → Effect (.lineAck m) s fun u => u = s) ∧
      (s.pcie = true → s.host.msiVectors ≠ 0 → Effect (.lineAck m) s fun u => ∀ k, k < 8 → m.getLsbD k = true →
        bitOf s.activeLines k = true → k % s.host.msiVectors ∈ u.host.msiSent)) ∧
    (∀ up, Answers (.hostLinkChange up) s fun t => t.f Fl.HST_STAT_LINK = b2n up ∧ bitOf (t.f Fl.HST_STAT_CAUSE) 7 = true) ∧
    (s.pcie = false → Effect .qspiStatus s fun u =>
      u.host.qspiOut = [BitVec.ofNat 8 (b2n (s.sys.phase == .running || s.sys.phase == .bootHold))])

/-- R588 to R592, R613 to R617: device operations and the eMMC. -/
def Obligations.HostOperations : Prop :=
  ∀ (s : State),
    (∀ k o, s.op k = some o → o.ended = false →
      let ends (c : Instr) (status : Nat) (r0 : Word) : Prop := Effect c s fun u =>
        ∃ x, u.op k = some x ∧ x.ended = true ∧ x.status = status ∧ x.result0 = r0 ∧ x.tag = o.tag
      (o.op = 0x80 → ends (.hostNop k) 0 0) ∧
      (o.op = 0x81 → o.aborting = false → o.hostMem = false → o.addr + o.len ≤ s.windowSize →
        let image := s.bytes (s.windowBase + o.addr) o.len
        imgType image = 1 ∨ imgType image = 2 → s.checkResult image ≠ 1 →
          ends (.install k) 4 (BitVec.ofNat 32 (s.checkResult image))) ∧
      (o.op = 0x81 → o.aborting = true → ends (.install k) 5 0) ∧
      (o.op = 0x82 → o.state = 3 → s.reachable o o.raddr o.rlen = true → Effect (.exportArchive k) s fun u =>
        ∃ x, u.op k = some x ∧ x.state = 2 ∧ x.ended = false ∧
          x.items = (fitItems o.rlen (s.exportItems (o.arg 0) (o.arg 1) (o.arg 2))).1) ∧
      (o.op = 0x83 → o.state = 3 → o.arg 0 < 400 → ends (.compact k) 4 0) ∧
      (o.op = 0x83 → o.state = 3 → 400 ≤ o.arg 0 → Effect (.compact k) s fun u =>
        u.op k = some { o with state := 2 } ∧ u.host.storageOrder = s.host.storageOrder ++ [k]) ∧
      (o.op = 0x84 → o.arg 0 ≠ 1 → o.arg 0 ≠ 2 → ends (.hostKeygen k) 4 0) ∧
      (o.op = 0x84 → o.arg 0 = 1 ∨ o.arg 0 = 2 → o.aborting = true → ends (.hostKeygen k) 5 0) ∧
      (o.op = 0x84 → o.arg 0 = 1 ∨ o.arg 0 = 2 → o.aborting = false → Effect (.hostKeygen k) s fun u =>
        ∃ x, u.op k = some x ∧ x.ended = true ∧ x.status = if x.result0 = 0 then 0 else 4) ∧
      (o.op = 0x85 → o.aborting = false → cellsFind s.sig.hostDone k = none → o.rlen < 5187 → ends (.hostAttest k) 2 0) ∧
      (∀ env, o.op = 0x85 → o.aborting = false → cellsFind s.sig.hostDone k = some env → ends (.hostAttest k) 0 0) ∧
      (o.op = 0x86 → (s.ops.find? fun e => e.1 != k && e.2.queue == o.queue && e.2.tag == o.arg 0 && !e.2.ended &&
        (e.2.op < 0x80 || steppedOp e.2.op)) = none → ends (.hostAbort k) 0 0) ∧
      (∀ j x, o.op = 0x86 → (s.ops.find? fun e => e.1 != k && e.2.queue == o.queue && e.2.tag == o.arg 0 && !e.2.ended &&
        (e.2.op < 0x80 || steppedOp e.2.op)) = some (j, x) → 0x80 ≤ x.op →
        ends (.hostAbort k) 0 1 ∧ Effect (.hostAbort k) s fun u => u.op j = some { x with aborting := true })) ∧
    (∀ g, s.stoReady = true → s.archiveItem = some (.group g) → s.nvOk = true → s.sys.saveStep = 0 → s.sys.saveEnd = false →
      s.sto.moved = 0 → g.bytes ≤ 4096 → s.host.storageOrder = [] → Answers .storageStep s fun t =>
        if s.archiveRoom g.bytes then t.sto.archive = s.sto.archive ++ [g] ∧ t.sto.moved = 0
        else t.sto.archive = s.sto.archive ∧ bitOf (t.f Fl.STO_STAT_CAUSE) 6 = true) ∧
    (∀ k (v : Word), k < 4 → s.f Fl.STO_REQSTAT_BUSY k = 0 → v.getLsbD 31 = true →
      let n := bitsOf v 0 9
      (n = 0 ∨ 256 < n → Answers (.stoRequest k v) s fun t => t.f Fl.STO_REQSTAT_BUSY k = 0 ∧
        t.f Fl.STO_REQSTAT_DONE k = 1 ∧ t.f Fl.STO_REQSTAT_ERR k = 2 ∧ bitOf (t.f Fl.STO_STAT_CAUSE) 1 = true) ∧
      (1 ≤ n → n ≤ 256 → s.f Fl.STO_REQBLK_BLOCK k + n ≤ s.f Fl.STO_PASIZE_BLOCKS →
        inSram (s.f Fl.STO_REQADDR_ADDR k * 32) (512 * n) = true → Effect (.stoRequest k v) s fun u =>
          u.f Fl.STO_REQSTAT_BUSY k = 1 ∧ u.host.storageOrder = s.host.storageOrder ++ [48 + k])) ∧
    (∀ mode blocks p a b, s.f Fl.STO_STAT_STATE ≤ 1 → s.f Fl.SYS_PWRSTAT_STATE ≤ 1 →
      (1 ≤ mode → mode ≤ 4 → 0x400000 ≤ blocks → blocks < 2 ^ 32 → Answers (.emmcInit true mode blocks p a b) s fun t =>
        t.f Fl.STO_STAT_STATE = 2 ∧ t.f Fl.STO_STAT_MODE = mode ∧ t.f Fl.STO_CAP_BLOCKS = blocks ∧
          t.f Fl.STO_PAREA_BLOCK = blocks - 2097152) ∧
      (s.sto.initFailed = 2 → Answers (.emmcInit false mode blocks p a b) s fun t =>
        t.f Fl.STO_STAT_STATE = 0 ∧ bitOf (t.f Fl.STO_STAT_CAUSE) 7 = true)) ∧
    (s.f Fl.STO_STAT_STATE = 2 → s.sto.attempts < 3 →
      (s.sto.failed < 2 → Answers .emmcCommandFail s fun t => t.sto.failed = s.sto.failed + 1 ∧
        t.sto.attempts = s.sto.attempts + 1 ∧ t.f Fl.STO_CNT_RETRY = min 65535 (s.f Fl.STO_CNT_RETRY + 1)) ∧
      (2 ≤ s.sto.failed → Answers .emmcCommandFail s fun t => t.f Fl.STO_STAT_STATE = 1 ∧
        bitOf (t.f Fl.STO_STAT_CAUSE) 2 = true)) ∧
    (s.f Fl.STO_STAT_STATE = 0 → Answers .emmcRetry s fun t => t.f Fl.STO_STAT_STATE = 1) ∧
    (∀ p a b, s.stoReady = true → Answers (.emmcHealth p a b) s fun t => t.f Fl.STO_HEALTH_PREEOL = p % 256 ∧
      t.f Fl.STO_HEALTH_ESTA = a % 256 ∧ t.f Fl.STO_HEALTH_ESTB = b % 256)

/-! ### Ethernet (spec/20) -/

/-- R604 to R610: the Ethernet MACs. -/
def Obligations.Ethernet : Prop :=
  ∀ (m : Nat) (s : State), m < 2 →
    (s.macState m = 0 → s.f Fl.SYS_PWRSTAT_STATE ≤ 1 → Answers (.ethEnable m) s fun t =>
      t.macState m = 1 ∧ t.f Fl.ETH_CTL_EN m = 1) ∧
    (s.macState m = 2 → Answers (.ethEnable m) s fun t => t.macState m = 3) ∧
    (s.macState m = 1 ∨ s.macState m = 3 → Answers (.ethDisable m) s fun t => t.macState m = 2 ∧ t.f Fl.ETH_CTL_EN m = 0) ∧
    (2 ≤ s.macState m → Answers (.ethStopComplete m) s fun t => t.macState m = (if s.macState m = 3 then 1 else 0) ∧
      (t.mac m).paused = false) ∧
    (∀ r tail, r < 2 → Answers (.ethTxTail m r tail) s fun t => t.f Fl.ETH_TXTAIL_TAIL (2 * m + r) = tail % 32) ∧
    (∀ r late, r < 2 → s.macState m ≠ 0 → s.txReady m r = true → s.txLenOk m r = true → (s.mac m).wire = some (r, late) →
      Answers (.ethTxComplete m r) s fun t =>
        t.f Fl.ETH_TXHEAD_HEAD (2 * m + r) = (s.f Fl.ETH_TXHEAD_HEAD (2 * m + r) + 1) % 32 ∧
          t.f Fl.ETH_TXFRM_N m = (s.f Fl.ETH_TXFRM_N m + 1) % 2 ^ 32 ∧ bitOf (t.f Fl.ETH_STAT_CAUSE m) 0 = true) ∧
    (∀ r, r < 2 → s.macState m = 1 → s.txReady m r = true → s.txLenOk m r = false →
      Answers (.ethTxComplete m r) s fun t =>
        t.f Fl.ETH_TXHEAD_HEAD (2 * m + r) = (s.f Fl.ETH_TXHEAD_HEAD (2 * m + r) + 1) % 32 ∧
          bitOf (t.f Fl.ETH_STAT_CAUSE m) 7 = true) ∧
    (∀ frame : List Byte, s.macState m = 1 →
      (1518 < frame.length → ∀ ok, Answers (.ethFrameReceived m frame ok) s fun t =>
        t.f Fl.ETH_RXLONG_N m = (s.f Fl.ETH_RXLONG_N m + 1) % 2 ^ 32 ∧ t.f Fl.ETH_RXSTAT_COUNT m = s.f Fl.ETH_RXSTAT_COUNT m) ∧
      (frame.length ≤ 1518 → Answers (.ethFrameReceived m frame false) s fun t =>
        t.f Fl.ETH_RXFCS_N m = (s.f Fl.ETH_RXFCS_N m + 1) % 2 ^ 32 ∧ t.f Fl.ETH_RXSTAT_COUNT m = s.f Fl.ETH_RXSTAT_COUNT m) ∧
      (frame.length ≤ 1518 → isPause frame = false → (s.ethFilter m (frame.take 6)).isSome = true →
        Answers (.ethFrameReceived m frame true) s fun t =>
          if 64 ≤ s.f Fl.ETH_RXSTAT_COUNT m then t.f Fl.ETH_RXSTAT_COUNT m = s.f Fl.ETH_RXSTAT_COUNT m ∧
            t.f Fl.ETH_RXLOST_N m = (s.f Fl.ETH_RXLOST_N m + 1) % 2 ^ 32 ∧ bitOf (t.f Fl.ETH_STAT_CAUSE m) 2 = true
          else t.f Fl.ETH_RXSTAT_COUNT m = s.f Fl.ETH_RXSTAT_COUNT m + 1 ∧
            t.f Fl.ETH_RXFRM_N m = (s.f Fl.ETH_RXFRM_N m + 1) % 2 ^ 32 ∧ bitOf (t.f Fl.ETH_STAT_CAUSE m) 1 = true)) ∧
    (∀ quanta, s.macState m ≠ 0 → s.f Fl.ETH_CTL_RXPAUSE m = 1 → Answers (.ethPause m quanta) s fun t =>
      (t.mac m).paused = (quanta != 0) ∧ bitOf (t.f Fl.ETH_STAT_CAUSE m) 5 = true) ∧
    Answers (.ethPauseEnd m) s (fun t => (t.mac m).paused = false) ∧
    (∀ n, Answers (.ethRxReturn m n) s fun t =>
      t.f Fl.ETH_RXSTAT_COUNT m = s.f Fl.ETH_RXSTAT_COUNT m - min (s.f Fl.ETH_RXSTAT_COUNT m) (n % 128)) ∧
    (∀ v : Word, s.f Fl.ETH_MDIOSTAT_BUSY m = 0 → v.getLsbD 31 = true → Answers (.mdioTransaction m v) s fun t =>
      t.f Fl.ETH_MDIOSTAT_BUSY m = 1 ∧ (t.mac m).mdio = some v) ∧
    (∀ (v : Word) (d : BitVec 16), (s.mac m).mdio = some v → Answers (.mdioDone m d) s fun t =>
      t.f Fl.ETH_MDIOSTAT_BUSY m = 0 ∧ (t.mac m).mdio = none ∧ bitOf (t.f Fl.ETH_STAT_CAUSE m) 4 = true ∧
        t.f Fl.ETH_MDIO_DATA m = if bitsOf v 28 2 = 2 then d.toNat else s.f Fl.ETH_MDIO_DATA m) ∧
    ∀ v : Word,
      (s.f Fl.ETH_CTL_EN m = 1 → bitsOf v 0 2 ≠ s.f Fl.ETH_CFG_SPEED m → Answers (.ethConfigWrite m v) s fun t =>
        t.reg R.ETH_CFG m = s.reg R.ETH_CFG m ∧ bitOf (t.f Fl.ETH_STAT_CAUSE m) 6 = true) ∧
      (s.f Fl.ETH_CTL_EN m = 0 → Answers (.ethConfigWrite m v) s fun t =>
        t.f Fl.ETH_CFG_SPEED m = bitsOf v 0 2 ∧ t.f Fl.ETH_CFG_TXDLY m = bitsOf v 4 1 ∧ t.f Fl.ETH_CFG_RXDLY m = bitsOf v 5 1)

/-! ### Every command: the queue, what a command may change, and what every step keeps -/

/-- A step is exec of the front command; an empty queue lets a clock pass (assumption 1). -/
def Obligations.StepRunsFront : Prop :=
  ∀ (c : Instr) (s : State),
    (∀ rest, step { s with pending := c :: rest } = exec c { s with pending := rest }) ∧
    step (s.queued c) = exec c s ∧
    (s.pending = [] → step s = .next (clockTick s))

/-- The frame of the commands of chapters 2 to 9: `coreWrites` and `driveWrites`. -/
def Obligations.CoreAndDriveFrames : Prop :=
  ∀ (c : Instr) (s : State) (A : Part), coreWrites c = some A ∨ driveWrites c = some A →
    Effect c s fun u => u.without A = s.without A

/-- The frame of the commands of metering, billing, signatures, the estimator and time: `meterWrites`. -/
def Obligations.MeterFrames : Prop :=
  ∀ (c : Instr) (s : State) (A : Part), meterWrites c = some A → Effect c s fun u => u.without A = s.without A

/-- The frame of the commands of the shroud, the ring, channels, CAN, Deckline, host, Ethernet and storage. -/
def Obligations.LinkFrames : Prop :=
  ∀ (c : Instr) (s : State) (A : Part), linkWrites c = some A → Effect c s fun u => u.without A = s.without A

/-- No step stops, and every step keeps R264, R596 and R597. -/
def Obligations.EveryStepKeeps : Prop :=
  ∀ s : State, ∃ t, step s = .next t ∧ t.pending = s.pending.tail ∧
    (s.pending ≠ [] → LinesShown t ∧ SheetsClamped t) ∧
    (LinesShown s → LinesShown t) ∧ (SheetsClamped s → SheetsClamped t)

/-- Memory keeps its canonical form under every step. -/
def Obligations.MemoryStaysCanonical : Prop :=
  ∀ s t : State, s.memWf = true → step s = .next t → t.memWf = true

/-- R11, R72, R263: reset, and what every step keeps holds there. -/
def Obligations.AtReset : Prop :=
  (∀ r i, i < r.count → State.reset.reg r i = r.resetAt i) ∧
  (∀ r, 1 ≤ r → r < 8 → State.reset.reefFraction r = [128, 112, 96, 80, 64, 48, 32, 0].getD r 0) ∧
  (∀ h : Hart, (State.reset.hart h.val).mode = 1 ∧ ∀ r : RegNum, (State.reset.hart h.val).r r = 0) ∧
  LinesShown State.reset ∧ SheetsClamped State.reset ∧ State.reset.pending = [] ∧
  State.reset.memWf = true ∧ ∀ a, State.reset.byte a = 0
end

