-- ==== Sys2Proof/Laws/Bits.lean ====
section
/-! SUPPORT. Bit fields: reading a field after writing it or another one. -/

namespace Sys2Proof.Machine

theorem testBit_bitsOf (w : Word) (l n j : Nat) :
    (bitsOf w l n).testBit j = (decide (j < n) && w.getLsbD (l + j)) := by
  simp [bitsOf, Nat.testBit_mod_two_pow, Nat.testBit_div_two_pow, BitVec.getLsbD, Nat.add_comm]

theorem bitsOf_lt (w : Word) (l n : Nat) : bitsOf w l n < 2 ^ n := Nat.mod_lt _ (Nat.two_pow_pos n)

theorem getLsbD_withBits (w : Word) (l n v j : Nat) :
    (withBits w l n v).getLsbD j =
      (decide (j < 32) && if l ≤ j ∧ j < l + n then v.testBit (j - l) else w.getLsbD j) := by
  have hm : ((2 ^ n - 1) * 2 ^ l).testBit j = (decide (l ≤ j) && decide (j - l < n)) := by
    rw [Nat.mul_comm, Nat.testBit_two_pow_mul, Nat.testBit_two_pow_sub_one]
  have hv : (v % 2 ^ n * 2 ^ l).testBit j = (decide (l ≤ j) && (decide (j - l < n) && v.testBit (j - l))) := by
    rw [Nat.mul_comm, Nat.testBit_two_pow_mul, Nat.testBit_mod_two_pow]
  by_cases hj : j < 32
  · simp only [withBits, BitVec.getLsbD_or, BitVec.getLsbD_and, BitVec.getLsbD_not, BitVec.getLsbD_ofNat,
      hm, hv, hj, decide_true, Bool.true_and]
    by_cases h1 : l ≤ j
    · by_cases h2 : j < l + n
      · have : j - l < n := by omega
        simp [h1, h2, this]
      · have : ¬ j - l < n := by omega
        simp [h1, h2, this]
    · simp [h1]
  · have : (withBits w l n v).getLsbD j = false := BitVec.getLsbD_of_ge _ _ (by omega)
    simp [hj, this]

/-- A field reads as the low bits of what was written to it. -/
theorem bitsOf_withBits_same (w : Word) (l n v : Nat) (h : l + n ≤ 32) :
    bitsOf (withBits w l n v) l n = v % 2 ^ n := by
  apply Nat.eq_of_testBit_eq
  intro j
  rw [testBit_bitsOf, getLsbD_withBits, Nat.testBit_mod_two_pow]
  by_cases hj : j < n
  · have h1 : l + j < 32 := by omega
    simp [hj, h1]
  · simp [hj]

/-- A field does not see a write to bits outside it. -/
theorem bitsOf_withBits_apart (w : Word) (l n v l' n' : Nat) (h : l + n ≤ l' ∨ l' + n' ≤ l) :
    bitsOf (withBits w l n v) l' n' = bitsOf w l' n' := by
  apply Nat.eq_of_testBit_eq
  intro j
  rw [testBit_bitsOf, testBit_bitsOf, getLsbD_withBits]
  by_cases hj : j < n'
  · have h1 : ¬(l ≤ l' + j ∧ l' + j < l + n) := by omega
    by_cases h2 : l' + j < 32
    · simp [h1, h2]
    · have : w.getLsbD (l' + j) = false := BitVec.getLsbD_of_ge _ _ (by omega)
      simp [h2, this]
  · simp [hj]

end Sys2Proof.Machine
end

