-- ==== Sys2Proof/Laws/Cells.lean ====
section
/-! SUPPORT. Sparse storage: reading after writing, and the canonical form. -/

namespace Sys2Proof.Machine

variable {α : Type}

theorem cellsFind_erase_same (l : List (Nat × α)) (k : Nat) : cellsFind (cellsErase l k) k = none := by
  induction l with
  | nil => rfl
  | cons e l ih => simp only [cellsErase]; split <;> simp_all [cellsFind]

theorem cellsFind_erase_ne (l : List (Nat × α)) {k j : Nat} (h : k ≠ j) :
    cellsFind (cellsErase l k) j = cellsFind l j := by
  induction l with
  | nil => rfl
  | cons e l ih => simp only [cellsErase]; split <;> simp_all [cellsFind]

theorem cellsFind_insert_same (l : List (Nat × α)) (k : Nat) (x : α) :
    cellsFind (cellsInsert l k x) k = some x := by
  induction l with
  | nil => simp [cellsInsert, cellsFind]
  | cons e l ih => simp only [cellsInsert]; (repeat' split) <;> simp_all [cellsFind]

theorem cellsFind_insert_ne (l : List (Nat × α)) {k j : Nat} (x : α) (h : k ≠ j) :
    cellsFind (cellsInsert l k x) j = cellsFind l j := by
  induction l with
  | nil => simp [cellsInsert, cellsFind, h]
  | cons e l ih => simp only [cellsInsert]; (repeat' split) <;> simp_all [cellsFind]

theorem cellsGet_put_same [DecidableEq α] (d : α) (l : List (Nat × α)) (k : Nat) (x : α) :
    cellsGet d (cellsPut d l k x) k = x := by
  simp only [cellsGet, cellsPut]
  split <;> simp_all [cellsFind_erase_same, cellsFind_insert_same]

theorem cellsGet_put_ne [DecidableEq α] (d e : α) (l : List (Nat × α)) {k j : Nat} (x : α) (h : k ≠ j) :
    cellsGet e (cellsPut d l k x) j = cellsGet e l j := by
  simp only [cellsGet, cellsPut]
  split <;> simp [cellsFind_erase_ne l h, cellsFind_insert_ne l x h]

theorem cellsWfFrom_mono [DecidableEq α] {d : α} {l : List (Nat × α)} {a b : Nat} (hab : a ≤ b)
    (h : cellsWfFrom d b l = true) : cellsWfFrom d a l = true := by
  cases l with
  | nil => rfl
  | cons e l => simp_all [cellsWfFrom] <;> omega

theorem cellsWfFrom_erase [DecidableEq α] (d : α) (l : List (Nat × α)) (lo k : Nat)
    (h : cellsWfFrom d lo l = true) : cellsWfFrom d lo (cellsErase l k) = true := by
  induction l generalizing lo with
  | nil => rfl
  | cons e l ih =>
    simp only [cellsWfFrom, Bool.and_eq_true, decide_eq_true_eq] at h
    simp only [cellsErase]
    split
    · exact ih lo (cellsWfFrom_mono (by omega) h.2)
    · simp [cellsWfFrom, h.1, ih _ h.2]

theorem cellsWfFrom_insert [DecidableEq α] (d : α) (l : List (Nat × α)) (lo k : Nat) (x : α)
    (hx : x ≠ d) (hk : lo ≤ k) (h : cellsWfFrom d lo l = true) :
    cellsWfFrom d lo (cellsInsert l k x) = true := by
  induction l generalizing lo with
  | nil => simp [cellsInsert, cellsWfFrom, hx, hk]
  | cons e l ih =>
    simp only [cellsWfFrom, Bool.and_eq_true, decide_eq_true_eq] at h
    simp only [cellsInsert]
    split
    · simp_all [cellsWfFrom]
    · split
      · simp_all [cellsWfFrom] <;> omega
      · simp only [cellsWfFrom, Bool.and_eq_true, decide_eq_true_eq]
        exact ⟨h.1, ih _ (by omega) h.2⟩

/-- Writing a cell keeps the canonical form. -/
theorem cellsWf_put [DecidableEq α] (d : α) (l : List (Nat × α)) (k : Nat) (x : α)
    (h : cellsWf d l = true) : cellsWf d (cellsPut d l k x) = true := by
  simp only [cellsWf, cellsPut] at *
  split
  · exact cellsWfFrom_erase d l 0 k h
  · exact cellsWfFrom_insert d l 0 k x (by assumption) (Nat.zero_le _) h

theorem cellsErase_filter (l : List (Nat × α)) (k : Nat) (p : Nat → Bool) (h : p k = false) :
    (cellsErase l k).filter (fun e => p e.1) = l.filter (fun e => p e.1) := by
  induction l with
  | nil => rfl
  | cons e l ih => simp only [cellsErase]; split <;> simp_all [List.filter_cons]

theorem cellsInsert_filter (l : List (Nat × α)) (k : Nat) (x : α) (p : Nat → Bool) (h : p k = false) :
    (cellsInsert l k x).filter (fun e => p e.1) = l.filter (fun e => p e.1) := by
  induction l with
  | nil => simp [cellsInsert, h]
  | cons e l ih => simp only [cellsInsert]; (repeat' split) <;> simp_all [List.filter_cons]

/-- A filter that drops the key does not see a write to it. -/
theorem cellsPut_filter [DecidableEq α] (d : α) (l : List (Nat × α)) (k : Nat) (x : α) (p : Nat → Bool)
    (h : p k = false) : (cellsPut d l k x).filter (fun e => p e.1) = l.filter (fun e => p e.1) := by
  simp only [cellsPut]
  split
  · exact cellsErase_filter l k p h
  · exact cellsInsert_filter l k x p h

/-- What a filter keeps reads the same. -/
theorem cellsGet_filter (d : α) (l : List (Nat × α)) (k : Nat) (p : Nat → Bool) (h : p k = true) :
    cellsGet d (l.filter (fun e => p e.1)) k = cellsGet d l k := by
  have hf : cellsFind (l.filter (fun e => p e.1)) k = cellsFind l k := by
    induction l with
    | nil => rfl
    | cons e l ih =>
      simp only [List.filter_cons]
      by_cases he : e.1 = k
      · simp [he, h, cellsFind]
      · split <;> simp [cellsFind, he, ih]
  simp [cellsGet, hf]

end Sys2Proof.Machine
end

