-- ==== Sys2Proof/Laws/Registers.lean ====
section
/-! SUPPORT. The register file: what a register and a field hold after a write. -/

namespace Sys2Proof.Machine

/-- Two registers with different addresses, both with at most 65,536 members. -/
def Rg.apart (a b : Rg) : Bool :=
  decide (a.addr ≠ b.addr) && decide (a.count ≤ 65536) && decide (b.count ≤ 65536)

/-- Two fields of different registers, or of one register without a bit in common. -/
def Fld.apart (a b : Fld) : Bool :=
  a.reg.apart b.reg || (decide (a.reg = b.reg) && decide (a.lsb + a.width ≤ b.lsb ∨ b.lsb + b.width ≤ a.lsb))

theorem State.reg_setReg_same (s : State) (r : Rg) (i : Nat) (v : Word) (h : i < r.count) :
    (s.setReg r i v).reg r i = v := by
  simp [State.reg, State.setReg, h, cellsGet_put_same]

theorem State.reg_setReg_member (s : State) (r : Rg) (i j : Nat) (v : Word) (h : i ≠ j) :
    (s.setReg r i v).reg r j = s.reg r j := by
  have hk : r.key i ≠ r.key j := by simp [Rg.key, h]
  unfold State.reg State.setReg
  by_cases hi : i < r.count <;> by_cases hj : j < r.count <;> simp [hi, hj, cellsGet_put_ne _ _ _ _ hk]

theorem State.reg_setReg_apart (s : State) (a b : Rg) (i j : Nat) (v : Word) (h : a.apart b = true) :
    (s.setReg a i v).reg b j = s.reg b j := by
  simp only [Rg.apart, Bool.and_eq_true, decide_eq_true_eq] at h
  obtain ⟨⟨h1, h2⟩, h3⟩ := h
  unfold State.reg State.setReg
  by_cases hi : i < a.count <;> by_cases hj : j < b.count <;> simp [hi, hj]
  have hk : a.key i ≠ b.key j := by simp only [Rg.key]; omega
  simp [cellsGet_put_ne _ _ _ _ hk]

/-- A field holds the low bits of what was written to it. -/
theorem State.f_setF_same (s : State) (fl : Fld) (i v : Nat) (hi : i < fl.reg.count)
    (hw : fl.lsb + fl.width ≤ 32) : (s.setF fl i v).f fl i = v % 2 ^ fl.width := by
  simp [State.f, State.setF, State.reg_setReg_same _ _ _ _ hi, bitsOf_withBits_same _ _ _ _ hw]

/-- A field does not see a write to a field apart from it. -/
theorem State.f_setF_apart (s : State) (a b : Fld) (i j v : Nat) (h : a.apart b = true) :
    (s.setF a i v).f b j = s.f b j := by
  simp only [Fld.apart, Bool.or_eq_true, Bool.and_eq_true, decide_eq_true_eq] at h
  rcases h with h | ⟨hr, hb⟩
  · simp [State.f, State.setF, State.reg_setReg_apart _ _ _ _ _ _ h]
  · by_cases hij : i = j
    · subst hij
      by_cases hi : i < a.reg.count
      · simp only [State.f, State.setF, ← hr, State.reg_setReg_same _ _ _ _ hi]
        exact bitsOf_withBits_apart _ _ _ _ _ _ hb
      · simp [State.f, State.setF, State.setReg, hi]
    · simp [State.f, State.setF, ← hr, State.reg_setReg_member _ _ _ _ _ hij]

/-- A member of a field does not see a write to another member. -/
theorem State.f_setF_member (s : State) (fl : Fld) (i j v : Nat) (h : i ≠ j) :
    (s.setF fl i v).f fl j = s.f fl j := by
  simp [State.f, State.setF, State.reg_setReg_member _ _ _ _ _ h]

theorem State.f_lt (s : State) (fl : Fld) (i : Nat) : s.f fl i < 2 ^ fl.width := bitsOf_lt _ _ _

theorem State.f_setReg_apart (s : State) (a : Rg) (b : Fld) (i j : Nat) (v : Word) (h : a.apart b.reg = true) :
    (s.setReg a i v).f b j = s.f b j := by
  simp [State.f, State.reg_setReg_apart _ _ _ _ _ _ h]

theorem State.reg_setF_apart (s : State) (a : Fld) (b : Rg) (i j v : Nat) (h : a.reg.apart b = true) :
    (s.setF a i v).reg b j = s.reg b j := by
  simp [State.setF, State.reg_setReg_apart _ _ _ _ _ _ h]

/-- Only the register file changes. -/
theorem State.setReg_frame (s : State) (r : Rg) (i : Nat) (v : Word) :
    s.setReg r i v = { s with regs := (s.setReg r i v).regs } := by
  unfold State.setReg; split <;> rfl

theorem State.setF_frame (s : State) (fl : Fld) (i v : Nat) :
    s.setF fl i v = { s with regs := (s.setF fl i v).regs } := State.setReg_frame _ _ _ _

end Sys2Proof.Machine
end

