-- ==== Sys2Proof/Laws/Frame.lean ====
section
/-! SUPPORT. Parts of the state: what leaves a state unchanged outside a part, and what follows from it. -/

namespace Sys2Proof.Machine

/-- Whether a part lies inside another one. -/
def Part.within (A B : Part) : Prop :=
  (∀ a, A.regs a = true → B.regs a = true) ∧
  (A.mem = true → B.mem = true) ∧
  (A.latches = true → B.latches = true) ∧
  (A.holds = true → B.holds = true) ∧
  (A.readData = true → B.readData = true) ∧
  (A.busError = true → B.busError = true) ∧
  (A.tick = true → B.tick = true) ∧
  (A.drawn = true → B.drawn = true) ∧
  (A.sys = true → B.sys = true) ∧
  (A.harts = true → B.harts = true) ∧
  (A.images = true → B.images = true) ∧
  (A.lpe = true → B.lpe = true) ∧
  (A.cln = true → B.cln = true) ∧
  (A.prt = true → B.prt = true) ∧
  (A.veh = true → B.veh = true) ∧
  (A.alc = true → B.alc = true) ∧
  (A.thm = true → B.thm = true) ∧
  (A.mtr = true → B.mtr = true) ∧
  (A.bil = true → B.bil = true) ∧
  (A.sig = true → B.sig = true) ∧
  (A.sfy = true → B.sfy = true) ∧
  (A.rng = true → B.rng = true) ∧
  (A.est = true → B.est = true) ∧
  (A.lsw = true → B.lsw = true) ∧
  (A.time = true → B.time = true) ∧
  (A.host = true → B.host = true) ∧
  (A.eth = true → B.eth = true) ∧
  (A.sto = true → B.sto = true) ∧
  (A.cans = true → B.cans = true) ∧
  (A.dkl = true → B.dkl = true) ∧
  (A.pending = true → B.pending = true)

theorem State.without_ite (A : Part) (c : Prop) [Decidable c] (s t : State) :
    (if c then s else t).without A = if c then s.without A else t.without A := by split <;> rfl

theorem State.without_cond {A : Part} {c : Prop} [Decidable c] {s t u : State} (hs : s.without A = u)
    (ht : t.without A = u) : (if c then s else t).without A = u := by split <;> assumption

theorem State.without_setReg {A : Part} {r : Rg} (h : (A.regs r.addr && decide (r.count ≤ 65536)) = true)
    (s : State) (i : Nat) (v : Word) : (s.setReg r i v).without A = s.without A := by
  simp only [Bool.and_eq_true, decide_eq_true_eq] at h
  obtain ⟨h, hc⟩ := h
  unfold State.setReg
  split
  · have hk : keyBase (r.key i) = r.addr := by simp only [keyBase, Rg.key]; omega
    simp [State.without, cellsPut_filter (r.resetAt i) s.regs (r.key i) v
      (fun k => !A.regs (keyBase k)) (by simp [hk, h])]
  · rfl

theorem State.without_setF {A : Part} {fl : Fld} (h : (A.regs fl.reg.addr && decide (fl.reg.count ≤ 65536)) = true)
    (s : State) (i v : Nat) : (s.setF fl i v).without A = s.without A := State.without_setReg h _ _ _

theorem State.without_setB {A : Part} {fl : Fld} (h : (A.regs fl.reg.addr && decide (fl.reg.count ≤ 65536)) = true)
    (s : State) (i : Nat) (v : Bool) : (s.setB fl i v).without A = s.without A := State.without_setReg h _ _ _

theorem State.without_setFBit {A : Part} {fl : Fld}
    (h : (A.regs fl.reg.addr && decide (fl.reg.count ≤ 65536)) = true)
    (s : State) (i j : Nat) (v : Bool) : (s.setFBit fl i j v).without A = s.without A := State.without_setReg h _ _ _

theorem State.without_setFi {A : Part} {fl : Fld} (h : (A.regs fl.reg.addr && decide (fl.reg.count ≤ 65536)) = true)
    (s : State) (i : Nat) (v : Int) : (s.setFi fl i v).without A = s.without A := State.without_setReg h _ _ _

theorem State.without_satF {A : Part} {fl : Fld} (h : (A.regs fl.reg.addr && decide (fl.reg.count ≤ 65536)) = true)
    (s : State) (i v : Nat) : (s.satF fl i v).without A = s.without A := State.without_setReg h _ _ _

theorem State.without_addF {A : Part} {fl : Fld} (h : (A.regs fl.reg.addr && decide (fl.reg.count ≤ 65536)) = true)
    (s : State) (i v : Nat) : (s.addF fl i v).without A = s.without A := State.without_setReg h _ _ _

theorem State.without_setQ {A : Part} {lo hi : Rg}
    (hl : (A.regs lo.addr && decide (lo.count ≤ 65536)) = true)
    (hh : (A.regs hi.addr && decide (hi.count ≤ 65536)) = true)
    (s : State) (i v : Nat) : (s.setQ lo hi i v).without A = s.without A := by
  unfold State.setQ; rw [State.without_setReg hh, State.without_setReg hl]

theorem State.without_setQi {A : Part} {lo hi : Rg}
    (hl : (A.regs lo.addr && decide (lo.count ≤ 65536)) = true)
    (hh : (A.regs hi.addr && decide (hi.count ≤ 65536)) = true)
    (s : State) (i : Nat) (v : Int) : (s.setQi lo hi i v).without A = s.without A := State.without_setQ hl hh _ _ _

theorem State.without_when_if (A : Part) (f : State → State) (s : State) (c : Bool) :
    (s.when c f).without A = if c = true then (f s).without A else s.without A := by
  unfold State.when; split <;> rfl

theorem State.without_raise {A : Part} (h : A.regs R.EVT_PEND.addr = true) (s : State) (n : Nat) :
    (s.raise n).without A = s.without A := State.without_setFBit (by rw [show Fl.EVT_PEND_PEND.reg = R.EVT_PEND from rfl, h]; decide) _ _ _ _

theorem State.without_causeOn {A : Part} {fl : Fld} (hp : A.regs R.EVT_PEND.addr = true)
    (h : (A.regs fl.reg.addr && decide (fl.reg.count ≤ 65536)) = true) (en : Fld)
    (s : State) (i j n : Nat) : (s.causeOn fl en i j n).without A = s.without A := by
  simp only [State.causeOn]
  split
  · rw [State.without_raise hp, State.without_setFBit h]
  · rw [State.without_setFBit h]

theorem State.without_when {A : Part} {f : State → State} (h : ∀ s, (f s).without A = s.without A)
    (s : State) (c : Bool) : (s.when c f).without A = s.without A := by
  unfold State.when; split <;> simp [h]

theorem State.without_eachOf {α : Type} {A : Part} {f : α → State → State}
    (h : ∀ x s, (f x s).without A = s.without A) (s : State) (l : List α) :
    (s.eachOf l f).without A = s.without A := by
  unfold State.eachOf
  induction l generalizing s with
  | nil => rfl
  | cons x l ih => simp [ih, h]

theorem State.without_each {A : Part} {f : Nat → State → State} (h : ∀ x s, (f x s).without A = s.without A)
    (s : State) (n : Nat) : (s.each n f).without A = s.without A := State.without_eachOf h s (List.range n)

theorem State.mem_of_without {A : Part} {s t : State} (h : t.without A = s.without A) (hA : A.mem = false) :
    t.mem = s.mem := by simpa [State.without, hA] using congrArg State.mem h

theorem State.latches_of_without {A : Part} {s t : State} (h : t.without A = s.without A) (hA : A.latches = false) :
    t.latches = s.latches := by simpa [State.without, hA] using congrArg State.latches h

theorem State.holds_of_without {A : Part} {s t : State} (h : t.without A = s.without A) (hA : A.holds = false) :
    t.holds = s.holds := by simpa [State.without, hA] using congrArg State.holds h

theorem State.readData_of_without {A : Part} {s t : State} (h : t.without A = s.without A) (hA : A.readData = false) :
    t.readData = s.readData := by simpa [State.without, hA] using congrArg State.readData h

theorem State.busError_of_without {A : Part} {s t : State} (h : t.without A = s.without A) (hA : A.busError = false) :
    t.busError = s.busError := by simpa [State.without, hA] using congrArg State.busError h

theorem State.tick_of_without {A : Part} {s t : State} (h : t.without A = s.without A) (hA : A.tick = false) :
    t.tick = s.tick := by simpa [State.without, hA] using congrArg State.tick h

theorem State.drawn_of_without {A : Part} {s t : State} (h : t.without A = s.without A) (hA : A.drawn = false) :
    t.drawn = s.drawn := by simpa [State.without, hA] using congrArg State.drawn h

theorem State.sys_of_without {A : Part} {s t : State} (h : t.without A = s.without A) (hA : A.sys = false) :
    t.sys = s.sys := by simpa [State.without, hA] using congrArg State.sys h

theorem State.harts_of_without {A : Part} {s t : State} (h : t.without A = s.without A) (hA : A.harts = false) :
    t.harts = s.harts := by simpa [State.without, hA] using congrArg State.harts h

theorem State.images_of_without {A : Part} {s t : State} (h : t.without A = s.without A) (hA : A.images = false) :
    t.images = s.images := by simpa [State.without, hA] using congrArg State.images h

theorem State.lpe_of_without {A : Part} {s t : State} (h : t.without A = s.without A) (hA : A.lpe = false) :
    t.lpe = s.lpe := by simpa [State.without, hA] using congrArg State.lpe h

theorem State.cln_of_without {A : Part} {s t : State} (h : t.without A = s.without A) (hA : A.cln = false) :
    t.cln = s.cln := by simpa [State.without, hA] using congrArg State.cln h

theorem State.prt_of_without {A : Part} {s t : State} (h : t.without A = s.without A) (hA : A.prt = false) :
    t.prt = s.prt := by simpa [State.without, hA] using congrArg State.prt h

theorem State.veh_of_without {A : Part} {s t : State} (h : t.without A = s.without A) (hA : A.veh = false) :
    t.veh = s.veh := by simpa [State.without, hA] using congrArg State.veh h

theorem State.alc_of_without {A : Part} {s t : State} (h : t.without A = s.without A) (hA : A.alc = false) :
    t.alc = s.alc := by simpa [State.without, hA] using congrArg State.alc h

theorem State.thm_of_without {A : Part} {s t : State} (h : t.without A = s.without A) (hA : A.thm = false) :
    t.thm = s.thm := by simpa [State.without, hA] using congrArg State.thm h

theorem State.mtr_of_without {A : Part} {s t : State} (h : t.without A = s.without A) (hA : A.mtr = false) :
    t.mtr = s.mtr := by simpa [State.without, hA] using congrArg State.mtr h

theorem State.bil_of_without {A : Part} {s t : State} (h : t.without A = s.without A) (hA : A.bil = false) :
    t.bil = s.bil := by simpa [State.without, hA] using congrArg State.bil h

theorem State.sig_of_without {A : Part} {s t : State} (h : t.without A = s.without A) (hA : A.sig = false) :
    t.sig = s.sig := by simpa [State.without, hA] using congrArg State.sig h

theorem State.sfy_of_without {A : Part} {s t : State} (h : t.without A = s.without A) (hA : A.sfy = false) :
    t.sfy = s.sfy := by simpa [State.without, hA] using congrArg State.sfy h

theorem State.rng_of_without {A : Part} {s t : State} (h : t.without A = s.without A) (hA : A.rng = false) :
    t.rng = s.rng := by simpa [State.without, hA] using congrArg State.rng h

theorem State.est_of_without {A : Part} {s t : State} (h : t.without A = s.without A) (hA : A.est = false) :
    t.est = s.est := by simpa [State.without, hA] using congrArg State.est h

theorem State.lsw_of_without {A : Part} {s t : State} (h : t.without A = s.without A) (hA : A.lsw = false) :
    t.lsw = s.lsw := by simpa [State.without, hA] using congrArg State.lsw h

theorem State.time_of_without {A : Part} {s t : State} (h : t.without A = s.without A) (hA : A.time = false) :
    t.time = s.time := by simpa [State.without, hA] using congrArg State.time h

theorem State.host_of_without {A : Part} {s t : State} (h : t.without A = s.without A) (hA : A.host = false) :
    t.host = s.host := by simpa [State.without, hA] using congrArg State.host h

theorem State.eth_of_without {A : Part} {s t : State} (h : t.without A = s.without A) (hA : A.eth = false) :
    t.eth = s.eth := by simpa [State.without, hA] using congrArg State.eth h

theorem State.sto_of_without {A : Part} {s t : State} (h : t.without A = s.without A) (hA : A.sto = false) :
    t.sto = s.sto := by simpa [State.without, hA] using congrArg State.sto h

theorem State.cans_of_without {A : Part} {s t : State} (h : t.without A = s.without A) (hA : A.cans = false) :
    t.cans = s.cans := by simpa [State.without, hA] using congrArg State.cans h

theorem State.dkl_of_without {A : Part} {s t : State} (h : t.without A = s.without A) (hA : A.dkl = false) :
    t.dkl = s.dkl := by simpa [State.without, hA] using congrArg State.dkl h

theorem State.pending_of_without {A : Part} {s t : State} (h : t.without A = s.without A) (hA : A.pending = false) :
    t.pending = s.pending := by simpa [State.without, hA] using congrArg State.pending h

theorem State.without_upd_mem {A : Part} (h : A.mem = true) (s : State) (x) :
    ({ s with mem := x } : State).without A = s.without A := by simp [State.without, h]

theorem State.without_upd_latches {A : Part} (h : A.latches = true) (s : State) (x) :
    ({ s with latches := x } : State).without A = s.without A := by simp [State.without, h]

theorem State.without_upd_holds {A : Part} (h : A.holds = true) (s : State) (x) :
    ({ s with holds := x } : State).without A = s.without A := by simp [State.without, h]

theorem State.without_upd_readData {A : Part} (h : A.readData = true) (s : State) (x) :
    ({ s with readData := x } : State).without A = s.without A := by simp [State.without, h]

theorem State.without_upd_busError {A : Part} (h : A.busError = true) (s : State) (x) :
    ({ s with busError := x } : State).without A = s.without A := by simp [State.without, h]

theorem State.without_upd_tick {A : Part} (h : A.tick = true) (s : State) (x) :
    ({ s with tick := x } : State).without A = s.without A := by simp [State.without, h]

theorem State.without_upd_drawn {A : Part} (h : A.drawn = true) (s : State) (x) :
    ({ s with drawn := x } : State).without A = s.without A := by simp [State.without, h]

theorem State.without_upd_sys {A : Part} (h : A.sys = true) (s : State) (x) :
    ({ s with sys := x } : State).without A = s.without A := by simp [State.without, h]

theorem State.without_upd_harts {A : Part} (h : A.harts = true) (s : State) (x) :
    ({ s with harts := x } : State).without A = s.without A := by simp [State.without, h]

theorem State.without_upd_images {A : Part} (h : A.images = true) (s : State) (x) :
    ({ s with images := x } : State).without A = s.without A := by simp [State.without, h]

theorem State.without_upd_lpe {A : Part} (h : A.lpe = true) (s : State) (x) :
    ({ s with lpe := x } : State).without A = s.without A := by simp [State.without, h]

theorem State.without_upd_cln {A : Part} (h : A.cln = true) (s : State) (x) :
    ({ s with cln := x } : State).without A = s.without A := by simp [State.without, h]

theorem State.without_upd_prt {A : Part} (h : A.prt = true) (s : State) (x) :
    ({ s with prt := x } : State).without A = s.without A := by simp [State.without, h]

theorem State.without_upd_veh {A : Part} (h : A.veh = true) (s : State) (x) :
    ({ s with veh := x } : State).without A = s.without A := by simp [State.without, h]

theorem State.without_upd_alc {A : Part} (h : A.alc = true) (s : State) (x) :
    ({ s with alc := x } : State).without A = s.without A := by simp [State.without, h]

theorem State.without_upd_thm {A : Part} (h : A.thm = true) (s : State) (x) :
    ({ s with thm := x } : State).without A = s.without A := by simp [State.without, h]

theorem State.without_upd_mtr {A : Part} (h : A.mtr = true) (s : State) (x) :
    ({ s with mtr := x } : State).without A = s.without A := by simp [State.without, h]

theorem State.without_upd_bil {A : Part} (h : A.bil = true) (s : State) (x) :
    ({ s with bil := x } : State).without A = s.without A := by simp [State.without, h]

theorem State.without_upd_sig {A : Part} (h : A.sig = true) (s : State) (x) :
    ({ s with sig := x } : State).without A = s.without A := by simp [State.without, h]

theorem State.without_upd_sfy {A : Part} (h : A.sfy = true) (s : State) (x) :
    ({ s with sfy := x } : State).without A = s.without A := by simp [State.without, h]

theorem State.without_upd_rng {A : Part} (h : A.rng = true) (s : State) (x) :
    ({ s with rng := x } : State).without A = s.without A := by simp [State.without, h]

theorem State.without_upd_est {A : Part} (h : A.est = true) (s : State) (x) :
    ({ s with est := x } : State).without A = s.without A := by simp [State.without, h]

theorem State.without_upd_lsw {A : Part} (h : A.lsw = true) (s : State) (x) :
    ({ s with lsw := x } : State).without A = s.without A := by simp [State.without, h]

theorem State.without_upd_time {A : Part} (h : A.time = true) (s : State) (x) :
    ({ s with time := x } : State).without A = s.without A := by simp [State.without, h]

theorem State.without_upd_host {A : Part} (h : A.host = true) (s : State) (x) :
    ({ s with host := x } : State).without A = s.without A := by simp [State.without, h]

theorem State.without_upd_eth {A : Part} (h : A.eth = true) (s : State) (x) :
    ({ s with eth := x } : State).without A = s.without A := by simp [State.without, h]

theorem State.without_upd_sto {A : Part} (h : A.sto = true) (s : State) (x) :
    ({ s with sto := x } : State).without A = s.without A := by simp [State.without, h]

theorem State.without_upd_cans {A : Part} (h : A.cans = true) (s : State) (x) :
    ({ s with cans := x } : State).without A = s.without A := by simp [State.without, h]

theorem State.without_upd_dkl {A : Part} (h : A.dkl = true) (s : State) (x) :
    ({ s with dkl := x } : State).without A = s.without A := by simp [State.without, h]

theorem State.without_upd_pending {A : Part} (h : A.pending = true) (s : State) (x) :
    ({ s with pending := x } : State).without A = s.without A := by simp [State.without, h]

/-- What a register outside the part holds. -/
theorem State.reg_of_without {A : Part} {s t : State} (h : t.without A = s.without A) {r : Rg} (i : Nat)
    (hA : (!A.regs r.addr && decide (r.count ≤ 65536)) = true) : t.reg r i = s.reg r i := by
  simp only [Bool.and_eq_true, decide_eq_true_eq] at hA
  unfold State.reg
  split
  · have hk : keyBase (r.key i) = r.addr := by simp only [keyBase, Rg.key]; omega
    have hp : (fun k => !A.regs (keyBase k)) (r.key i) = true := by simpa [hk] using hA.1
    rw [← cellsGet_filter _ t.regs _ (fun k => !A.regs (keyBase k)) hp,
      ← cellsGet_filter _ s.regs _ (fun k => !A.regs (keyBase k)) hp]
    exact congrArg (fun l => cellsGet _ l _) (congrArg State.regs h)
  · rfl

theorem State.f_of_without {A : Part} {s t : State} (h : t.without A = s.without A) {fl : Fld} (i : Nat)
    (hA : (!A.regs fl.reg.addr && decide (fl.reg.count ≤ 65536)) = true) : t.f fl i = s.f fl i := by
  simp [State.f, State.reg_of_without h i hA]

theorem State.without_within {A B : Part} (hAB : A.within B) {s t : State} (h : t.without A = s.without A) :
    t.without B = s.without B := by
  have key : ∀ u : State, u.without B = (u.without A).without B := by
    intro u
    obtain ⟨hr, h0, h1, h2, h3, h4, h5, h6, h7, h8, h9, h10, h11, h12, h13, h14, h15, h16, h17, h18, h19, h20, h21, h22, h23, h24, h25, h26, h27, h28, h29⟩ := hAB
    have hf : u.regs.filter (fun e => !B.regs (keyBase e.1)) =
        (u.regs.filter (fun e => !A.regs (keyBase e.1))).filter (fun e => !B.regs (keyBase e.1)) := by
      rw [List.filter_filter]
      apply List.filter_congr
      intro e _
      by_cases ha : A.regs (keyBase e.1) = true
      · simp [ha, hr _ ha]
      · simp [ha]
    simp only [State.without, hf]
    congr 1 <;> split <;> simp_all
  rw [key t, key s, h]

end Sys2Proof.Machine
end

