-- ==== Sys2Proof/Laws/Settle.lean ====
section
/-! SUPPORT. What changes nothing outside settledPart. -/

set_option linter.all false

namespace Sys2Proof.Machine

theorem State.setPg_settled (s : State) (g : Nat) (f : PrtGroup → PrtGroup) :
    (State.setPg s g f).without settledPart = s.without settledPart := by
  unfold State.setPg
  (try simp (disch := decide) only [State.without_ite, ite_self, State.without_upd_prt, State.without_upd_lsw, State.without_upd_sfy, State.without_upd_veh, State.without_upd_lpe, State.without_upd_host, State.without_upd_sig, State.without_upd_sys]) <;> (repeat' split) <;>
    (try simp (disch := decide) only [State.without_ite, ite_self, State.without_upd_prt, State.without_upd_lsw, State.without_upd_sfy, State.without_upd_veh, State.without_upd_lpe, State.without_upd_host, State.without_upd_sig, State.without_upd_sys])

theorem dropPending_settled (g : Nat) (s : State) :
    (dropPending g s).without settledPart = s.without settledPart := by
  unfold dropPending
  (try simp (disch := decide) only [State.without_setB, State.without_ite, ite_self, State.setPg_settled]) <;> (repeat' split) <;>
    (try simp (disch := decide) only [State.without_setB, State.without_ite, ite_self, State.setPg_settled])

theorem State.setCh_settled (s : State) (n : Nat) (f : Channel → Channel) :
    (State.setCh s n f).without settledPart = s.without settledPart := by
  unfold State.setCh
  (try simp (disch := decide) only [State.without_ite, ite_self, State.without_upd_prt, State.without_upd_lsw, State.without_upd_sfy, State.without_upd_veh, State.without_upd_lpe, State.without_upd_host, State.without_upd_sig, State.without_upd_sys]) <;> (repeat' split) <;>
    (try simp (disch := decide) only [State.without_ite, ite_self, State.without_upd_prt, State.without_upd_lsw, State.without_upd_sfy, State.without_upd_veh, State.without_upd_lpe, State.without_upd_host, State.without_upd_sig, State.without_upd_sys])

theorem chTakeForm_settled (n : Nat) (s : State) :
    (chTakeForm n s).without settledPart = s.without settledPart := by
  unfold chTakeForm
  (try simp (disch := decide) only [State.without_ite, ite_self, State.setCh_settled]) <;> (repeat' split) <;>
    (try simp (disch := decide) only [State.without_ite, ite_self, State.setCh_settled])

theorem chTurnOn_settled (n : Nat) (s : State) :
    (chTurnOn n s).without settledPart = s.without settledPart := by
  unfold chTurnOn
  (try simp (disch := decide) only [State.without_setF, State.without_ite, ite_self, State.without_upd_prt, State.without_upd_lsw, State.without_upd_sfy, State.without_upd_veh, State.without_upd_lpe, State.without_upd_host, State.without_upd_sig, State.without_upd_sys, chTakeForm_settled, State.setCh_settled]) <;> (repeat' split) <;>
    (try simp (disch := decide) only [State.without_setF, State.without_ite, ite_self, State.without_upd_prt, State.without_upd_lsw, State.without_upd_sfy, State.without_upd_veh, State.without_upd_lpe, State.without_upd_host, State.without_upd_sig, State.without_upd_sys, chTakeForm_settled, State.setCh_settled])

theorem chTurnOff_settled (n : Nat) (s : State) :
    (chTurnOff n s).without settledPart = s.without settledPart := by
  unfold chTurnOff
  (try simp (disch := decide) only [State.without_setF, State.without_ite, ite_self, State.setCh_settled]) <;> (repeat' split) <;>
    (try simp (disch := decide) only [State.without_setF, State.without_ite, ite_self, State.setCh_settled])

theorem chUpdate_settled (n : Nat) (s : State) :
    (chUpdate n s).without settledPart = s.without settledPart := by
  unfold chUpdate
  (try simp (disch := decide) only [State.without_setF, State.without_when_if, State.without_ite, ite_self, chTurnOn_settled, chTurnOff_settled]) <;> (repeat' split) <;>
    (try simp (disch := decide) only [State.without_setF, State.without_when_if, State.without_ite, ite_self, chTurnOn_settled, chTurnOff_settled])

theorem chRequest_settled (fl : Fld) (h : fl.reg = R.LSW_CHSTAT) (n : Nat) (v : Bool) (s : State) :
    (chRequest fl n v s).without settledPart = s.without settledPart := by
  have hs : ∀ s : State, (s.setB fl n v).without settledPart = s.without settledPart :=
    fun s => State.without_setB (by rw [h]; decide) s n v
  unfold chRequest
  split <;> simp only [hs, chUpdate_settled]

theorem bleeder_settled (g : Nat) (on : Bool) (s : State) :
    (bleeder g on s).without settledPart = s.without settledPart := by
  unfold bleeder
  split
  · exact chRequest_settled _ rfl _ _ _
  · rfl

theorem prtCause_settled (j : Nat) (g : Nat) (s : State) :
    (prtCause j g s).without settledPart = s.without settledPart := by
  have hs : ∀ s : State, (s.setFBit ⟨R.PRT_GCAUSE, 0, 29⟩ g j true).without settledPart = s.without settledPart :=
    fun s => State.without_setFBit (by decide) s g j true
  unfold prtCause
  simp (disch := decide) only [hs, State.without_setFBit, State.without_raise, State.without_ite, ite_self]

theorem toState_settled (g : Nat) (st : Nat) (s : State) :
    (toState g st s).without settledPart = s.without settledPart := by
  unfold toState
  (try simp (disch := decide) only [State.without_setF, State.without_when_if, State.without_ite, ite_self, bleeder_settled, prtCause_settled, State.setPg_settled]) <;> (repeat' split) <;>
    (try simp (disch := decide) only [State.without_setF, State.without_when_if, State.without_ite, ite_self, bleeder_settled, prtCause_settled, State.setPg_settled])

theorem toDischarge_settled (g : Nat) (s : State) :
    (toDischarge g s).without settledPart = s.without settledPart := by
  unfold toDischarge
  (try simp (disch := decide) only [State.without_ite, ite_self, toState_settled, State.setPg_settled]) <;> (repeat' split) <;>
    (try simp (disch := decide) only [State.without_ite, ite_self, toState_settled, State.setPg_settled])

theorem groupStopAct_settled (g : Nat) (s : State) :
    (groupStopAct g s).without settledPart = s.without settledPart := by
  unfold groupStopAct
  (try simp (disch := decide) only [State.without_ite, ite_self, toDischarge_settled, toState_settled]) <;> (repeat' split) <;>
    (try simp (disch := decide) only [State.without_ite, ite_self, toDischarge_settled, toState_settled])

theorem groupStop_settled (g : Nat) (s : State) :
    (groupStop g s).without settledPart = s.without settledPart := by
  unfold groupStop
  (try simp (disch := decide) only [State.without_ite, ite_self, dropPending_settled, groupStopAct_settled]) <;> (repeat' split) <;>
    (try simp (disch := decide) only [State.without_ite, ite_self, dropPending_settled, groupStopAct_settled])

theorem takeStops_settled (s : State) :
    (takeStops s).without settledPart = s.without settledPart := by
  unfold takeStops
  simp (disch := decide) only [State.without_ite, ite_self, State.without_upd_prt, State.without_upd_lsw, State.without_upd_sfy, State.without_upd_veh, State.without_upd_lpe, State.without_upd_host, State.without_upd_sig, State.without_upd_sys, groupStop_settled]
  exact State.without_eachOf (fun p s => groupStop_settled _ s) _ _

theorem sesCause_settled (j : Nat) (c : Nat) (s : State) :
    (sesCause j c s).without settledPart = s.without settledPart := by
  unfold sesCause
  (try simp (disch := decide) only [State.without_ite, ite_self, prtCause_settled]) <;> (repeat' split) <;>
    (try simp (disch := decide) only [State.without_ite, ite_self, prtCause_settled])

theorem State.setSes_settled (s : State) (c : Nat) (f : Session → Session) :
    (State.setSes s c f).without settledPart = s.without settledPart := by
  unfold State.setSes
  (try simp (disch := decide) only [State.without_ite, ite_self, State.without_upd_prt, State.without_upd_lsw, State.without_upd_sfy, State.without_upd_veh, State.without_upd_lpe, State.without_upd_host, State.without_upd_sig, State.without_upd_sys]) <;> (repeat' split) <;>
    (try simp (disch := decide) only [State.without_ite, ite_self, State.without_upd_prt, State.without_upd_lsw, State.without_upd_sfy, State.without_upd_veh, State.without_upd_lpe, State.without_upd_host, State.without_upd_sig, State.without_upd_sys])

theorem toSession_settled (c : Nat) (st : Nat) (s : State) :
    (toSession c st s).without settledPart = s.without settledPart := by
  unfold toSession
  (try simp (disch := decide) only [State.without_setF, State.without_ite, ite_self, sesCause_settled, State.setSes_settled]) <;> (repeat' split) <;>
    (try simp (disch := decide) only [State.without_setF, State.without_ite, ite_self, sesCause_settled, State.setSes_settled])

theorem closeLink_settled (c : Nat) (s : State) :
    (closeLink c s).without settledPart = s.without settledPart := by
  unfold closeLink
  (try simp (disch := decide) only [State.without_setB, State.without_ite, ite_self, State.setSes_settled]) <;> (repeat' split) <;>
    (try simp (disch := decide) only [State.without_setB, State.without_ite, ite_self, State.setSes_settled])

theorem State.setSp_settled (s : State) (p : Nat) (f : SfyPort → SfyPort) :
    (State.setSp s p f).without settledPart = s.without settledPart := by
  unfold State.setSp
  (try simp (disch := decide) only [State.without_ite, ite_self, State.without_upd_prt, State.without_upd_lsw, State.without_upd_sfy, State.without_upd_veh, State.without_upd_lpe, State.without_upd_host, State.without_upd_sig, State.without_upd_sys]) <;> (repeat' split) <;>
    (try simp (disch := decide) only [State.without_ite, ite_self, State.without_upd_prt, State.without_upd_lsw, State.without_upd_sfy, State.without_upd_veh, State.without_upd_lpe, State.without_upd_host, State.without_upd_sig, State.without_upd_sys])

theorem coilOn_settled (n : Nat) (s : State) :
    (coilOn n s).without settledPart = s.without settledPart := by
  unfold coilOn
  (try simp (disch := decide) only [State.without_setB, State.without_ite, ite_self]) <;> (repeat' split) <;>
    (try simp (disch := decide) only [State.without_setB, State.without_ite, ite_self])

theorem lockRequest_settled (p : Nat) (s : State) :
    (lockRequest p s).without settledPart = s.without settledPart := by
  unfold lockRequest
  (try simp (disch := decide) only [State.without_ite, ite_self, State.setSp_settled, coilOn_settled]) <;> (repeat' split) <;>
    (try simp (disch := decide) only [State.without_ite, ite_self, State.setSp_settled, coilOn_settled])

theorem showPlc_settled (s : State) :
    (showPlc s).without settledPart = s.without settledPart := by
  unfold showPlc
  (try simp (disch := decide) only [State.without_setF, State.without_ite, ite_self]) <;> (repeat' split) <;>
    (try simp (disch := decide) only [State.without_setF, State.without_ite, ite_self])

theorem takePlc_settled (f : Nat) (s : State) :
    (takePlc f s).without settledPart = s.without settledPart := by
  unfold takePlc
  (try simp (disch := decide) only [State.without_setF, State.without_setB, State.without_setFBit, State.without_ite, ite_self, showPlc_settled]) <;> (repeat' split) <;>
    (try simp (disch := decide) only [State.without_setF, State.without_setB, State.without_setFBit, State.without_ite, ite_self, showPlc_settled])

theorem toPlugged_settled (c : Nat) (s : State) :
    (toPlugged c s).without settledPart = s.without settledPart := by
  unfold toPlugged
  (try simp (disch := decide) only [State.without_setF, State.without_ite, ite_self, toSession_settled, closeLink_settled, lockRequest_settled, takePlc_settled]) <;> (repeat' split) <;>
    (try simp (disch := decide) only [State.without_setF, State.without_ite, ite_self, toSession_settled, closeLink_settled, lockRequest_settled, takePlc_settled])

theorem toSessionFault_settled (c : Nat) (s : State) :
    (toSessionFault c s).without settledPart = s.without settledPart := by
  unfold toSessionFault
  (try simp (disch := decide) only [State.without_ite, ite_self, toSession_settled]) <;> (repeat' split) <;>
    (try simp (disch := decide) only [State.without_ite, ite_self, toSession_settled])

theorem sfyCause_settled (j : Nat) (s : State) :
    (sfyCause j s).without settledPart = s.without settledPart := by
  unfold sfyCause
  (try simp (disch := decide) only [State.without_causeOn, State.without_ite, ite_self]) <;> (repeat' split) <;>
    (try simp (disch := decide) only [State.without_causeOn, State.without_ite, ite_self])

theorem unlockRequest_settled (p : Nat) (s : State) :
    (unlockRequest p s).without settledPart = s.without settledPart := by
  unfold unlockRequest
  (try simp (disch := decide) only [State.without_ite, ite_self, State.setSp_settled, sfyCause_settled]) <;> (repeat' split) <;>
    (try simp (disch := decide) only [State.without_ite, ite_self, State.setSp_settled, sfyCause_settled])

theorem toUnlock_settled (c : Nat) (s : State) :
    (toUnlock c s).without settledPart = s.without settledPart := by
  unfold toUnlock
  (try simp (disch := decide) only [State.without_ite, ite_self, unlockRequest_settled, toSession_settled]) <;> (repeat' split) <;>
    (try simp (disch := decide) only [State.without_ite, ite_self, unlockRequest_settled, toSession_settled])

theorem cmdRefuse_settled (g : Nat) (code : Nat) (s : State) :
    (cmdRefuse g code s).without settledPart = s.without settledPart := by
  unfold cmdRefuse
  (try simp (disch := decide) only [State.without_setF, State.without_ite, ite_self]) <;> (repeat' split) <;>
    (try simp (disch := decide) only [State.without_setF, State.without_ite, ite_self])

theorem refreshPort_settled (p : Nat) (s : State) :
    (refreshPort p s).without settledPart = s.without settledPart := by
  unfold refreshPort
  (try simp (disch := decide) only [State.without_setF, State.without_setB, State.without_ite, ite_self]) <;> (repeat' split) <;>
    (try simp (disch := decide) only [State.without_setF, State.without_setB, State.without_ite, ite_self])

theorem energisePole_settled (p : Nat) (pole : Pole) (s : State) :
    (energisePole p pole s).without settledPart = s.without settledPart := by
  unfold energisePole
  cases pole <;> (try simp (disch := decide) only [poleCmd, State.without_setB, State.without_ite, ite_self, coilOn_settled]) <;> (repeat' split) <;>
    (try simp (disch := decide) only [poleCmd, State.without_setB, State.without_ite, ite_self, coilOn_settled])

theorem closeRequest_settled (p : Nat) (pos : Bool) (neg : Bool) (s : State) :
    (closeRequest p pos neg s).without settledPart = s.without settledPart := by
  have h : ∀ s : State, (s.eachOf (polesOf pos neg) (energisePole p)).without settledPart = s.without settledPart :=
    fun s => State.without_eachOf (fun pole s => energisePole_settled p pole s) s _
  unfold closeRequest
  (try simp (disch := decide) only [State.without_setB, State.without_ite, ite_self, refreshPort_settled, energisePole_settled, sfyCause_settled]) <;> (repeat' split) <;> (try simp (disch := decide) only [h, State.without_setB, State.without_ite, ite_self, refreshPort_settled, energisePole_settled, sfyCause_settled])

theorem askClose_settled (g : Nat) (s : State) :
    (askClose g s).without settledPart = s.without settledPart := by
  unfold askClose
  (try simp (disch := decide) only [State.without_ite, ite_self, closeRequest_settled]) <;> (repeat' split) <;>
    (try simp (disch := decide) only [State.without_ite, ite_self, closeRequest_settled])

theorem toClosing_settled (g : Nat) (target : Nat) (s : State) :
    (toClosing g target s).without settledPart = s.without settledPart := by
  unfold toClosing
  (try simp (disch := decide) only [State.without_ite, ite_self, askClose_settled, toState_settled, State.setPg_settled]) <;> (repeat' split) <;>
    (try simp (disch := decide) only [State.without_ite, ite_self, askClose_settled, toState_settled, State.setPg_settled])

theorem checkInOff_settled (g : Nat) (s : State) :
    (checkInOff g s).without settledPart = s.without settledPart := by
  unfold checkInOff
  (try simp (disch := decide) only [State.without_ite, ite_self, prtCause_settled, cmdRefuse_settled, toClosing_settled]) <;> (repeat' split) <;>
    (try simp (disch := decide) only [State.without_ite, ite_self, prtCause_settled, cmdRefuse_settled, toClosing_settled])

theorem initSlots_settled (l : List Nat) (s : State) :
    (initSlots l s).without settledPart = s.without settledPart := by
  unfold initSlots
  (try simp (disch := decide) only [State.without_ite, ite_self, State.without_upd_prt, State.without_upd_lsw, State.without_upd_sfy, State.without_upd_veh, State.without_upd_lpe, State.without_upd_host, State.without_upd_sig, State.without_upd_sys]) <;> (repeat' split) <;>
    (try simp (disch := decide) only [State.without_ite, ite_self, State.without_upd_prt, State.without_upd_lsw, State.without_upd_sfy, State.without_upd_veh, State.without_upd_lpe, State.without_upd_host, State.without_upd_sig, State.without_upd_sys])

theorem State.setLb_settled (s : State) (b : Nat) (f : LpeBatch → LpeBatch) :
    (State.setLb s b f).without settledPart = s.without settledPart := by
  unfold State.setLb
  (try simp (disch := decide) only [State.without_ite, ite_self, State.without_upd_prt, State.without_upd_lsw, State.without_upd_sfy, State.without_upd_veh, State.without_upd_lpe, State.without_upd_host, State.without_upd_sig, State.without_upd_sys]) <;> (repeat' split) <;>
    (try simp (disch := decide) only [State.without_ite, ite_self, State.without_upd_prt, State.without_upd_lsw, State.without_upd_sfy, State.without_upd_veh, State.without_upd_lpe, State.without_upd_host, State.without_upd_sig, State.without_upd_sys])

theorem lpeCause_settled (j : Nat) (s : State) :
    (lpeCause j s).without settledPart = s.without settledPart := by
  unfold lpeCause
  (try simp (disch := decide) only [State.without_causeOn, State.without_ite, ite_self]) <;> (repeat' split) <;>
    (try simp (disch := decide) only [State.without_causeOn, State.without_ite, ite_self])

theorem showLoad_settled (s : State) :
    (showLoad s).without settledPart = s.without settledPart := by
  unfold showLoad
  (try simp (disch := decide) only [State.without_setF, State.without_setB, State.without_ite, ite_self, lpeCause_settled]) <;> (repeat' split) <;>
    (try simp (disch := decide) only [State.without_setF, State.without_setB, State.without_ite, ite_self, lpeCause_settled])

theorem batchAccept_settled (b : Nat) (v : Word) (s : State) :
    (batchAccept b v s).without settledPart = s.without settledPart := by
  unfold batchAccept
  (try simp (disch := decide) only [State.without_setReg, State.without_setF, State.without_ite, ite_self, initSlots_settled, State.setLb_settled, showLoad_settled]) <;> (repeat' split) <;>
    (try simp (disch := decide) only [State.without_setReg, State.without_setF, State.without_ite, ite_self, initSlots_settled, State.setLb_settled, showLoad_settled])

theorem batchKernel_settled (k : Nat) (b : Nat) (s : State) :
    (batchKernel k b s).without settledPart = s.without settledPart := by
  unfold batchKernel
  (try simp (disch := decide) only [State.without_ite, ite_self, batchAccept_settled]) <;> (repeat' split) <;>
    (try simp (disch := decide) only [State.without_ite, ite_self, batchAccept_settled])

theorem setMode_settled (g : Nat) (volt : Bool) (s : State) :
    (setMode g volt s).without settledPart = s.without settledPart := by
  have h : ∀ (k : Nat) (s : State), (s.eachOf (s.groupBatches g) (batchKernel k)).without settledPart = s.without settledPart :=
    fun k s => State.without_eachOf (fun b s => batchKernel_settled k b s) s _
  unfold setMode
  (try simp (disch := decide) only [State.without_ite, ite_self, State.setPg_settled, batchKernel_settled, groupStopAct_settled, prtCause_settled]) <;> (repeat' split) <;> (try simp (disch := decide) only [h, State.without_ite, ite_self, State.setPg_settled, batchKernel_settled, groupStopAct_settled, prtCause_settled])

theorem toRun_settled (g : Nat) (mode : Nat) (s : State) :
    (toRun g mode s).without settledPart = s.without settledPart := by
  unfold toRun
  (try simp (disch := decide) only [State.without_ite, ite_self, setMode_settled, toState_settled]) <;> (repeat' split) <;>
    (try simp (disch := decide) only [State.without_ite, ite_self, setMode_settled, toState_settled])

theorem actInOff_settled (g : Nat) (op : Nat) (mode : Nat) (s : State) :
    (actInOff g op mode s).without settledPart = s.without settledPart := by
  unfold actInOff
  (try simp (disch := decide) only [State.without_ite, ite_self, cmdRefuse_settled, checkInOff_settled, toClosing_settled, toRun_settled]) <;> (repeat' split) <;>
    (try simp (disch := decide) only [State.without_ite, ite_self, cmdRefuse_settled, checkInOff_settled, toClosing_settled, toRun_settled])

theorem offWithPending_settled (g : Nat) (s : State) :
    (offWithPending g s).without settledPart = s.without settledPart := by
  unfold offWithPending
  (try simp (disch := decide) only [State.without_setB, State.without_ite, ite_self, toState_settled, actInOff_settled, State.setPg_settled]) <;> (repeat' split) <;>
    (try simp (disch := decide) only [State.without_setB, State.without_ite, ite_self, toState_settled, actInOff_settled, State.setPg_settled])

theorem coilOff_settled (n : Nat) (s : State) :
    (coilOff n s).without settledPart = s.without settledPart := by
  unfold coilOff
  (try simp (disch := decide) only [State.without_setB, State.without_ite, ite_self]) <;> (repeat' split) <;>
    (try simp (disch := decide) only [State.without_setB, State.without_ite, ite_self])

theorem openRequest_settled (p : Nat) (pos : Bool) (neg : Bool) (s : State) :
    (openRequest p pos neg s).without settledPart = s.without settledPart := by
  have h : ∀ s : State, (s.eachOf (polesOf pos neg)
      fun pole s => (coilOff (s.poleCoil p pole) s).setB (poleCmd pole) p false).without settledPart =
      s.without settledPart := fun s => State.without_eachOf (fun pole s => by
    cases pole <;> simp (disch := decide) only [poleCmd, State.without_setB, coilOff_settled]) s _
  unfold openRequest
  (try simp (disch := decide) only [State.without_setB, State.without_ite, ite_self, refreshPort_settled, coilOff_settled]) <;> (repeat' split) <;> (try simp (disch := decide) only [h, State.without_setB, State.without_ite, ite_self, refreshPort_settled, coilOff_settled])

theorem toOpening_settled (g : Nat) (s : State) :
    (toOpening g s).without settledPart = s.without settledPart := by
  unfold toOpening
  (try simp (disch := decide) only [State.without_ite, ite_self, toState_settled, openRequest_settled]) <;> (repeat' split) <;>
    (try simp (disch := decide) only [State.without_ite, ite_self, toState_settled, openRequest_settled])

theorem toPrecharge_settled (g : Nat) (s : State) :
    (toPrecharge g s).without settledPart = s.without settledPart := by
  unfold toPrecharge
  (try simp (disch := decide) only [State.without_ite, ite_self, State.setPg_settled, setMode_settled, toState_settled]) <;> (repeat' split) <;>
    (try simp (disch := decide) only [State.without_ite, ite_self, State.setPg_settled, setMode_settled, toState_settled])

theorem pendOrRefuse_settled (g : Nat) (op : Nat) (mode : Nat) (s : State) :
    (pendOrRefuse g op mode s).without settledPart = s.without settledPart := by
  unfold pendOrRefuse
  (try simp (disch := decide) only [State.without_setB, State.without_ite, ite_self, State.setPg_settled, cmdRefuse_settled]) <;> (repeat' split) <;>
    (try simp (disch := decide) only [State.without_setB, State.without_ite, ite_self, State.setPg_settled, cmdRefuse_settled])

theorem groupCommand_settled (g : Nat) (op : Nat) (mode : Nat) (s : State) :
    (groupCommand g op mode s).without settledPart = s.without settledPart := by
  unfold groupCommand
  (repeat' with_reducible apply State.without_cond) <;> (try simp (disch := decide) only [State.without_setF, State.without_ite, ite_self, cmdRefuse_settled, offWithPending_settled, dropPending_settled, groupStopAct_settled, toOpening_settled, setMode_settled, toDischarge_settled, actInOff_settled, toPrecharge_settled, toRun_settled, pendOrRefuse_settled])

theorem portCmd_settled (op : Nat) (mode : Nat) (c : Nat) (s : State) :
    (portCmd op mode c s).without settledPart = s.without settledPart := by
  unfold portCmd
  (try simp (disch := decide) only [State.without_setF, State.without_ite, ite_self, groupCommand_settled]) <;> (repeat' split) <;>
    (try simp (disch := decide) only [State.without_setF, State.without_ite, ite_self, groupCommand_settled])

theorem stopPort_settled (c : Nat) (s : State) :
    (stopPort c s).without settledPart = s.without settledPart := by
  unfold stopPort
  (try simp (disch := decide) only [State.without_ite, ite_self, portCmd_settled]) <;> (repeat' split) <;>
    (try simp (disch := decide) only [State.without_ite, ite_self, portCmd_settled])

theorem forceCooling_settled (p : Nat) (on : Bool) (s : State) :
    (forceCooling p on s).without settledPart = s.without settledPart := by
  unfold forceCooling
  split
  · rw [chRequest_settled _ rfl, chRequest_settled _ rfl]
  · rfl

theorem dropPlc_settled (f : Nat) (s : State) :
    (dropPlc f s).without settledPart = s.without settledPart := by
  unfold dropPlc
  (try simp (disch := decide) only [State.without_setF, State.without_setFBit, State.without_ite, ite_self, showPlc_settled, takePlc_settled]) <;> (repeat' split) <;>
    (try simp (disch := decide) only [State.without_setF, State.without_setFBit, State.without_ite, ite_self, showPlc_settled, takePlc_settled])

theorem toEnd_settled (c : Nat) (s : State) :
    (toEnd c s).without settledPart = s.without settledPart := by
  unfold toEnd
  (try simp (disch := decide) only [State.without_when_if, State.without_ite, ite_self, State.without_upd_prt, State.without_upd_lsw, State.without_upd_sfy, State.without_upd_veh, State.without_upd_lpe, State.without_upd_host, State.without_upd_sig, State.without_upd_sys, forceCooling_settled, closeLink_settled, toSession_settled, dropPlc_settled]) <;> (repeat' split) <;>
    (try simp (disch := decide) only [State.without_when_if, State.without_ite, ite_self, State.without_upd_prt, State.without_upd_lsw, State.without_upd_sfy, State.without_upd_veh, State.without_upd_lpe, State.without_upd_host, State.without_upd_sig, State.without_upd_sys, forceCooling_settled, closeLink_settled, toSession_settled, dropPlc_settled])

theorem toIdle_settled (c : Nat) (s : State) :
    (toIdle c s).without settledPart = s.without settledPart := by
  unfold toIdle
  (try simp (disch := decide) only [State.without_setB, State.without_ite, ite_self, toSession_settled, State.setSes_settled]) <;> (repeat' split) <;>
    (try simp (disch := decide) only [State.without_setB, State.without_ite, ite_self, toSession_settled, State.setSes_settled])

theorem pollSession_settled (c : Nat) (s : State) :
    (pollSession c s).without settledPart = s.without settledPart := by
  unfold pollSession
  (try simp (disch := decide) only [State.without_ite, ite_self, toPlugged_settled, toSession_settled, toSessionFault_settled, toUnlock_settled, stopPort_settled, toEnd_settled, toIdle_settled]) <;> (repeat' split) <;>
    (try simp (disch := decide) only [State.without_ite, ite_self, toPlugged_settled, toSession_settled, toSessionFault_settled, toUnlock_settled, stopPort_settled, toEnd_settled, toIdle_settled])

theorem pollSessions_settled (s : State) :
    (pollSessions s).without settledPart = s.without settledPart := by
  unfold pollSessions
  exact State.without_each (fun c s => by split <;> simp only [pollSession_settled]) s 48

theorem setSheet_settled (p : Nat) (v : Nat) (s : State) :
    (setSheet p v s).without settledPart = s.without settledPart := by
  unfold setSheet
  (try simp (disch := decide) only [State.without_setF, State.without_ite, ite_self]) <;> (repeat' split) <;>
    (try simp (disch := decide) only [State.without_setF, State.without_ite, ite_self])

theorem clampPort_settled (p : Nat) (s : State) :
    (clampPort p s).without settledPart = s.without settledPart := by
  unfold clampPort
  (try simp (disch := decide) only [State.without_setF, State.without_causeOn, State.without_ite, ite_self, setSheet_settled]) <;> (repeat' split) <;>
    (try simp (disch := decide) only [State.without_setF, State.without_causeOn, State.without_ite, ite_self, setSheet_settled])

theorem State.sendMsi_settled (s : State) (lines : Nat) :
    (State.sendMsi s lines).without settledPart = s.without settledPart := by
  unfold State.sendMsi
  (try simp (disch := decide) only [State.without_ite, ite_self, State.without_upd_prt, State.without_upd_lsw, State.without_upd_sfy, State.without_upd_veh, State.without_upd_lpe, State.without_upd_host, State.without_upd_sig, State.without_upd_sys]) <;> (repeat' split) <;>
    (try simp (disch := decide) only [State.without_ite, ite_self, State.without_upd_prt, State.without_upd_lsw, State.without_upd_sfy, State.without_upd_veh, State.without_upd_lpe, State.without_upd_host, State.without_upd_sig, State.without_upd_sys])

theorem State.wake_settled (s : State) (src : Nat) :
    (State.wake s src).without settledPart = s.without settledPart := by
  unfold State.wake
  (try simp (disch := decide) only [State.without_setF, State.without_ite, ite_self, State.without_upd_prt, State.without_upd_lsw, State.without_upd_sfy, State.without_upd_veh, State.without_upd_lpe, State.without_upd_host, State.without_upd_sig, State.without_upd_sys]) <;> (repeat' split) <;>
    (try simp (disch := decide) only [State.without_setF, State.without_ite, ite_self, State.without_upd_prt, State.without_upd_lsw, State.without_upd_sfy, State.without_upd_veh, State.without_upd_lpe, State.without_upd_host, State.without_upd_sig, State.without_upd_sys])

theorem State.settle_settled (s : State) :
    (State.settle s).without settledPart = s.without settledPart := by
  unfold State.settle
  simp (disch := decide) only [State.without_setF, State.without_when_if, State.without_ite, ite_self, takeStops_settled, pollSessions_settled, clampPort_settled, State.sendMsi_settled, State.wake_settled]
  rw [State.without_each (fun p s => clampPort_settled p s), pollSessions_settled, takeStops_settled]

end Sys2Proof.Machine
end

