-- ==== Sys2Proof/Laws/Harts.lean ====
section
/-! SUPPORT. The policy harts: a hart after a change of it or of another one, and what one instruction comes to. -/

namespace Sys2Proof.Machine

@[simp] theorem State.hart_setHart_same (s : State) (h : Hart) (f : HartCtx → HartCtx) :
    (s.setHart h.val f).hart h.val = f (s.hart h.val) := by
  have hh : h.val < s.harts.size := by simp
  simp [State.hart, State.setHart, List.getD, h.isLt]

@[simp] theorem State.hart_setHart_ne (s : State) {n k : Nat} (f : HartCtx → HartCtx) (h : k ≠ n) :
    (s.setHart n f).hart k = s.hart k := by
  simp only [State.hart, State.setHart, List.getD]
  congr 1
  simp only [Vector.toList_setIfInBounds, List.getElem?_set]
  split
  · omega
  · rfl

@[simp] theorem State.harts_setReg (s : State) (r : Rg) (i : Nat) (v : Word) : (s.setReg r i v).harts = s.harts := by
  unfold State.setReg; split <;> rfl

@[simp] theorem State.harts_setF (s : State) (fl : Fld) (i v : Nat) : (s.setF fl i v).harts = s.harts :=
  State.harts_setReg _ _ _ _

@[simp] theorem State.harts_setB (s : State) (fl : Fld) (i : Nat) (v : Bool) : (s.setB fl i v).harts = s.harts :=
  State.harts_setReg _ _ _ _

@[simp] theorem showHart_harts (n : Nat) (s : State) : (showHart n s).harts = s.harts := by
  unfold showHart; split <;> simp

theorem State.hart_congr {s t : State} (h : t.harts = s.harts) (k : Nat) : t.hart k = s.hart k := by
  simp [State.hart, h]

@[simp] theorem showHart_hart (n k : Nat) (s : State) : (showHart n s).hart k = s.hart k :=
  State.hart_congr (showHart_harts n s) k

@[simp] theorem State.hart_withHart_same (s : State) (h : Hart) (f : HartCtx → HartCtx) :
    (s.withHart h.val f).hart h.val = f (s.hart h.val) := by simp [State.withHart]

theorem State.hart_withHart_ne (s : State) {n k : Nat} (f : HartCtx → HartCtx) (h : k ≠ n) :
    (s.withHart n f).hart k = s.hart k := by simp [State.withHart, State.hart_setHart_ne _ _ h]

@[simp] theorem State.settle_harts (s : State) : s.settle.harts = s.harts :=
  State.harts_of_without (State.settle_settled s) rfl

@[simp] theorem State.settle_hart (s : State) (k : Nat) : s.settle.hart k = s.hart k :=
  State.hart_congr (State.settle_harts s) k

theorem settledPart_within_hartPart : settledPart.within hartPart := by
  refine ⟨fun a h => by simp only [hartPart]; simp [h], ?_⟩
  simp [settledPart, hartPart]

@[simp] theorem State.settle_without_hart (s : State) : s.settle.without hartPart = s.without hartPart :=
  State.without_within settledPart_within_hartPart (State.settle_settled s)

@[simp] theorem State.setHart_without_hart (s : State) (n : Nat) (f : HartCtx → HartCtx) :
    (s.setHart n f).without hartPart = s.without hartPart := State.without_upd_harts rfl s _

@[simp] theorem showHart_without_hart (n : Nat) (s : State) :
    (showHart n s).without hartPart = s.without hartPart := by
  unfold showHart
  simp (disch := decide) only [State.without_ite, State.without_setB, State.without_setF, ite_self]

@[simp] theorem State.withHart_without_hart (s : State) (n : Nat) (f : HartCtx → HartCtx) :
    (s.withHart n f).without hartPart = s.without hartPart := by simp [State.withHart]

/-- A body that answers a state is the instruction's effect, counted. -/
theorem instr_ok {n : Nat} {body : HartCtx → State → HRes} {s u : State} (hr : s.hartRuns n = true)
    (hf : s.fetchFault n = none) (hb : body (s.hart n) (setPc n ((s.hart n).pc + 4) s) = .ok u) :
    instr n body s = retire n u := by
  simp only [instr, hr, hf, Bool.not_true, Bool.false_eq_true, if_false, hb]

/-- A body that traps is the trap at the instruction. -/
theorem instr_trap {n : Nat} {body : HartCtx → State → HRes} {s u : State} {c : Nat} {d : Option Word}
    (hr : s.hartRuns n = true) (hf : s.fetchFault n = none)
    (hb : body (s.hart n) (setPc n ((s.hart n).pc + 4) s) = .trap c d u) :
    instr n body s = takeTrap n false c d (setPc n (s.hart n).pc u) := by
  simp only [instr, hr, hf, Bool.not_true, Bool.false_eq_true, if_false, hb]

/-- A fetch that raises an exception traps with the address as DETAIL. -/
theorem instr_fetch {n : Nat} {body : HartCtx → State → HRes} {s : State} {c : Nat}
    (hr : s.hartRuns n = true) (hf : s.fetchFault n = some c) :
    instr n body s = takeTrap n false c (some (s.hart n).pc) s := by
  simp only [instr, hr, hf, Bool.not_true, Bool.false_eq_true, if_false]

theorem State.hartRuns_run {s : State} {n : Nat} (h : s.hartRuns n = true) :
    (s.hart n).run = .running ∧ (s.hart n).wait = .none := by
  simp only [State.hartRuns, Bool.and_eq_true, beq_iff_eq] at h
  exact ⟨h.1.1.1, h.1.1.2⟩

@[simp] theorem HartCtx.setR_run (x : HartCtx) (n : RegNum) (v : Word) : (x.setR n v).run = x.run := by
  unfold HartCtx.setR; split <;> rfl
@[simp] theorem HartCtx.setR_wait (x : HartCtx) (n : RegNum) (v : Word) : (x.setR n v).wait = x.wait := by
  unfold HartCtx.setR; split <;> rfl
@[simp] theorem HartCtx.setR_done (x : HartCtx) (n : RegNum) (v : Word) : (x.setR n v).done = x.done := by
  unfold HartCtx.setR; split <;> rfl
@[simp] theorem HartCtx.setR_pc (x : HartCtx) (n : RegNum) (v : Word) : (x.setR n v).pc = x.pc := by
  unfold HartCtx.setR; split <;> rfl
@[simp] theorem HartCtx.setPair_run (x : HartCtx) (n : RegNum) (v : DWord) : (x.setPair n v).run = x.run := by
  unfold HartCtx.setPair; split <;> simp
@[simp] theorem HartCtx.setPair_wait (x : HartCtx) (n : RegNum) (v : DWord) : (x.setPair n v).wait = x.wait := by
  unfold HartCtx.setPair; split <;> simp
@[simp] theorem HartCtx.setPair_done (x : HartCtx) (n : RegNum) (v : DWord) : (x.setPair n v).done = x.done := by
  unfold HartCtx.setPair; split <;> simp

theorem HartCtx.setR_setPc (x : HartCtx) (n : RegNum) (v a : Word) :
    ({ x with pc := a } : HartCtx).setR n v = { x.setR n v with pc := a } := by
  unfold HartCtx.setR; split <;> rfl

theorem HartCtx.setPair_setPc (x : HartCtx) (n : RegNum) (v : DWord) (a : Word) :
    ({ x with pc := a } : HartCtx).setPair n v = { x.setPair n v with pc := a } := by
  unfold HartCtx.setPair HartCtx.setR
  by_cases h1 : n = 0 <;> by_cases h2 : n + 1 = 0 <;> simp only [h1, h2, if_true, if_false]

theorem setPc_hart (h : Hart) (a : Word) (s : State) :
    (setPc h.val a s).hart h.val = { s.hart h.val with pc := a } := by simp [setPc]

/-- What counting an instruction leaves of a hart that goes on running. -/
theorem retire_hart {h : Hart} {s : State} {y : HartCtx} (hy : s.hart h.val = y) (hr : y.run = .running)
    (hw : y.wait = .none) : (retire h.val s).hart h.val = { y with done := y.done + 1 } := by
  simp [retire, hy, hr, hw]

theorem retire_hart_ne {n k : Nat} (s : State) (h : k ≠ n) : (retire n s).hart k = s.hart k := by
  simp [retire, State.hart_withHart_ne _ _ h]

@[simp] theorem retire_without_hart (n : Nat) (s : State) :
    (retire n s).without hartPart = s.without hartPart := by simp [retire]

/-- An instruction that changes its own hart only completes: the form of every register instruction. -/
theorem completes_of {c : Instr} {h : Hart} {s : State} {body : HartCtx → State → HRes} {g : HartCtx → HartCtx}
    {y : HartCtx} (he : exec c s = .next (State.settle (instr h.val body s))) (hx : Executes h s)
    (hb : body (s.hart h.val) (setPc h.val ((s.hart h.val).pc + 4) s) =
      .ok ((setPc h.val ((s.hart h.val).pc + 4) s).setHart h.val g))
    (hy : g { s.hart h.val with pc := (s.hart h.val).pc + 4 } = y) (hr : y.run = .running)
    (hw : y.wait = .none) (hd : y.done = (s.hart h.val).done) : Completes c h s y := by
  have hi := instr_ok hx.1 hx.2 hb
  refine ⟨_, he, ?_, ?_, ?_⟩
  · rw [State.settle_hart, hi, retire_hart (y := y) _ hr hw, hd]
    rw [State.hart_setHart_same, setPc_hart, hy]
  · intro k hk
    rw [State.settle_hart, hi, retire_hart_ne _ hk, State.hart_setHart_ne _ _ hk]
    exact State.hart_setHart_ne _ _ hk
  · rw [State.settle_without_hart, hi]
    simp [setPc]

end Sys2Proof.Machine
end

