-- ==== Sys2Proof/Laws/Memory.lean ====
section
/-! SUPPORT. Memory: reading after writing, what a write leaves alone, and the canonical form. -/

namespace Sys2Proof.Machine

@[simp] theorem State.byte_setByte_same (s : State) (a : Nat) (v : Byte) : (s.setByte a v).byte a = v := by
  simp [State.byte, State.setByte, cellsGet_put_same]

theorem State.byte_setByte_ne (s : State) {a b : Nat} (v : Byte) (h : a ≠ b) : (s.setByte a v).byte b = s.byte b := by
  simp [State.byte, State.setByte, cellsGet_put_ne _ _ _ _ h]

theorem State.byte_congr {s t : State} (h : t.mem = s.mem) (a : Nat) : t.byte a = s.byte a := by
  simp [State.byte, h]

/-- Bytes outside the written ones read as before. -/
theorem State.byte_setBytes_outside (l : List Byte) (s : State) (a b : Nat) (h : b < a ∨ a + l.length ≤ b) :
    (s.setBytes a l).byte b = s.byte b := by
  induction l generalizing s a with
  | nil => rfl
  | cons v l ih =>
    simp only [List.length_cons] at h
    rw [State.setBytes, ih _ _ (by omega), State.byte_setByte_ne _ _ (by omega)]

/-- The written bytes read back. -/
theorem State.byte_setBytes_inside (l : List Byte) (s : State) (a i : Nat) (h : i < l.length) :
    (s.setBytes a l).byte (a + i) = l[i] := by
  induction l generalizing s a i with
  | nil => simp at h
  | cons v l ih =>
    rw [State.setBytes]
    cases i with
    | zero => rw [State.byte_setBytes_outside _ _ _ _ (by omega)]; simp
    | succ i =>
      have hi : i < l.length := by simpa using h
      rw [show a + (i + 1) = a + 1 + i by omega, ih _ _ _ hi]; simp

/-- The little-endian bytes of a number. -/
theorem leBytes_length (n v : Nat) : (leBytes n v).length = n := by
  induction n generalizing v with
  | zero => rfl
  | succ n ih => simp [leBytes, ih]

theorem leBytes_get (n v i : Nat) (h : i < (leBytes n v).length) : (leBytes n v)[i] = BitVec.ofNat 8 (v / 256 ^ i) := by
  induction n generalizing v i with
  | zero => simp [leBytes] at h
  | succ n ih =>
    cases i with
    | zero => simp [leBytes]
    | succ i => simp [leBytes, ih, Nat.div_div_eq_div_mul, Nat.pow_succ, Nat.mul_comm]

/-- A number from its own little-endian bytes. -/
theorem leNat_leBytes (n v : Nat) : leNat (leBytes n v) = v % 256 ^ n := by
  induction n generalizing v with
  | zero => simp [leBytes, leNat, Nat.mod_one]
  | succ n ih => simp [leBytes, leNat, ih, Nat.pow_succ, Nat.mul_comm (256 ^ n) 256, Nat.mod_mul]

theorem State.setByte_upd (s : State) (a : Nat) (v : Byte) : s.setByte a v = { s with mem := (s.setByte a v).mem } := rfl

/-- Only memory changes. -/
theorem State.setBytes_frame (l : List Byte) (s : State) (a : Nat) :
    s.setBytes a l = { s with mem := (s.setBytes a l).mem } := by
  induction l generalizing s a with
  | nil => rfl
  | cons v l ih => rw [State.setBytes, ih]; rfl

theorem State.setBytes_mem_congr {s t : State} (h : t.mem = s.mem) (l : List Byte) (a : Nat) :
    (t.setBytes a l).mem = (s.setBytes a l).mem := by
  induction l generalizing s t a with
  | nil => exact h
  | cons v l ih => exact ih (by simp [State.setByte, h]) _

/-- Writing a byte keeps the canonical form of memory. -/
theorem State.setByte_memWf (s : State) (a : Nat) (v : Byte) (h : s.memWf = true) : (s.setByte a v).memWf = true :=
  cellsWf_put memDefault s.mem a v h

theorem State.setBytes_memWf (l : List Byte) (s : State) (a : Nat) (h : s.memWf = true) :
    (s.setBytes a l).memWf = true := by
  induction l generalizing s a with
  | nil => exact h
  | cons v l ih => exact ih _ _ (s.setByte_memWf a v h)

theorem State.setWord_memWf (s : State) (a : Nat) (v : Word) (h : s.memWf = true) : (s.setWord a v).memWf = true :=
  State.setBytes_memWf _ _ _ h

theorem State.each_mem {f : Nat → State → State} (hf : ∀ i s, (f i s).mem = s.mem) (s : State) (n : Nat) :
    (s.each n f).mem = s.mem := by
  unfold State.each
  induction (List.range n) generalizing s with
  | nil => rfl
  | cons i l ih => simp [ih, hf]

theorem dropReservation_mem (own : Option Nat) (a n k : Nat) (s : State) : (dropReservation own a n k s).mem = s.mem := by
  unfold dropReservation
  split
  · split <;> rfl
  · rfl

/-- Losing reservations changes no memory. -/
@[simp] theorem dropReservations_mem (own : Option Nat) (a n : Nat) (s : State) :
    (dropReservations own a n s).mem = s.mem := State.each_mem (dropReservation_mem own a n) s 4

theorem State.dma_memWf (s : State) (a : Nat) (l : List Byte) (h : s.memWf = true) : (s.dma a l).memWf = true := by
  unfold State.dma
  split
  · exact h
  · unfold State.memWf
    rw [dropReservations_mem]
    exact State.setBytes_memWf l s a h

/-- Memory lists nothing at reset, in its canonical form. -/
theorem State.reset_memWf : State.reset.memWf = true := rfl

end Sys2Proof.Machine
end

