-- ==== Sys2Proof/Laws/HartMemory.lean ====
section
/-! SUPPORT. Loads, stores and traps of a policy hart: what each shared operation comes to. -/

namespace Sys2Proof.Machine

theorem setPc_mem (n : Nat) (a : Word) (s : State) : (setPc n a s).mem = s.mem := rfl
theorem setPc_regs (n : Nat) (a : Word) (s : State) : (setPc n a s).regs = s.regs := rfl

theorem setPc_hart_ne {n k : Nat} (a : Word) (s : State) (h : k ≠ n) : (setPc n a s).hart k = s.hart k :=
  State.hart_setHart_ne _ _ h

theorem State.bytes_congr {s t : State} (h : t.mem = s.mem) (a n : Nat) : t.bytes a n = s.bytes a n := by
  simp [State.bytes, State.byte_congr h]

theorem State.hart_setBytes (s : State) (a : Nat) (l : List Byte) (k : Nat) : (s.setBytes a l).hart k = s.hart k := by
  rw [State.setBytes_frame]; rfl

/-- What follows at once from a command changes no memory. -/
@[simp] theorem State.settle_byte (s : State) (a : Nat) : s.settle.byte a = s.byte a :=
  State.byte_congr (State.mem_of_without (State.settle_settled s) rfl) a

theorem State.withHart_mem (s : State) (n : Nat) (f : HartCtx → HartCtx) : (s.withHart n f).mem = s.mem :=
  State.mem_of_without (State.withHart_without_hart s n f) rfl

@[simp] theorem retire_byte (s : State) (n a : Nat) : (retire n s).byte a = s.byte a :=
  State.byte_congr (State.withHart_mem _ _ _) a

/-- An instruction that answers a state completes with it. -/
theorem completes_of_state {c : Instr} {h : Hart} {s u : State} {body : HartCtx → State → HRes} {y : HartCtx}
    (he : exec c s = .next (State.settle (instr h.val body s))) (hx : Executes h s)
    (hb : body (s.hart h.val) (setPc h.val ((s.hart h.val).pc + 4) s) = .ok u) (hy : u.hart h.val = y)
    (hr : y.run = .running) (hw : y.wait = .none) (hd : y.done = (s.hart h.val).done)
    (ho : ∀ k, k ≠ h.val → u.hart k = s.hart k) (hu : u.without hartPart = s.without hartPart) :
    Completes c h s y := by
  have hi := instr_ok hx.1 hx.2 hb
  refine ⟨_, he, ?_, ?_, ?_⟩
  · rw [State.settle_hart, hi, retire_hart hy hr hw, hd]
  · intro k hk
    rw [State.settle_hart, hi, retire_hart_ne _ hk, ho k hk]
  · rw [State.settle_without_hart, hi, retire_without_hart, hu]

/-- A load that memory answers goes on with the number its bytes spell. -/
theorem load_of_loads {s t : State} {h : Hart} {len : Nat} {a : Word} {l : List Byte} (hl : Loads s h a.toNat len l)
    (hm : t.mem = s.mem) (hs : (t.hart h.val).localStore = (s.hart h.val).localStore)
    (k : Nat → State → HRes) : load h.val len a (s.hart h.val) t k = k (leNat l) t := by
  obtain ⟨ha, hp, hb⟩ := hl
  unfold load
  simp only [ha, hp, bne_self_eq_false, Bool.false_eq_true, if_false, Bool.not_true]
  unfold loaded at hb
  revert hb
  cases areaOf a.toNat <;> simp only [reduceCtorEq, false_implies, Option.some.injEq] <;>
    intro hb
  · rw [hb]
  · rw [State.bytes_congr hm, hb]
  · rw [State.bytes_congr hm, hb]
  · split at hb
    · next hsup => simp only [hsup, if_true]; rw [State.bytes_congr hm]; injection hb with hb; rw [hb]
    · cases hb
  · split at hb
    · next hsup => simp only [hsup, if_true]; rw [State.bytes_congr hm]; injection hb with hb; rw [hb]
    · cases hb
  · unfold HartCtx.localBytes at hb ⊢; rw [hs, hb]

theorem State.readOnly_congr {s t : State} (h : t.images = s.images) (a n : Nat) : t.readOnly a n = s.readOnly a n := by
  simp [State.readOnly, h]

theorem State.f_congr {s t : State} (h : t.regs = s.regs) (fl : Fld) (i : Nat) : t.f fl i = s.f fl i := by
  simp [State.f, State.reg, h]

theorem State.nvOk_congr {s t : State} (h : t.regs = s.regs) : t.nvOk = s.nvOk := by
  simp [State.nvOk, State.b, State.f_congr h]

/-- A hart after the loss of a reservation: as it was, or without its reservation. -/
theorem dropReservation_hart (own : Option Nat) (a n i : Nat) (s : State) (k : Nat) :
    (dropReservation own a n i s).hart k = s.hart k ∨
      (dropReservation own a n i s).hart k = { s.hart k with reservation := none } := by
  unfold dropReservation
  split
  · split
    · by_cases hik : k = i
      · subst hik
        by_cases h4 : k < 4
        · exact Or.inr (State.hart_setHart_same s ⟨k, h4⟩ _)
        · left
          unfold State.setHart State.hart
          rw [List.getD_eq_default _ _ (by simp; omega), List.getD_eq_default _ _ (by simp; omega)]
      · exact Or.inl (State.hart_setHart_ne _ _ hik)
    · exact Or.inl rfl
  · exact Or.inl rfl

theorem dropReservations_hart (own : Option Nat) (a n : Nat) (s : State) (k : Nat) :
    (dropReservations own a n s).hart k = s.hart k ∨
      (dropReservations own a n s).hart k = { s.hart k with reservation := none } := by
  unfold dropReservations State.each
  generalize List.range 4 = l
  induction l generalizing s with
  | nil => exact Or.inl rfl
  | cons i l ih =>
    rw [List.foldl_cons]
    rcases ih (dropReservation own a n i s) with h | h <;>
      rcases dropReservation_hart own a n i s k with h' | h' <;> rw [h, h'] <;> first | exact Or.inl rfl | exact Or.inr rfl

/-- The writer's own reservation stands. -/
theorem dropReservations_own (h : Nat) (a n : Nat) (s : State) :
    (dropReservations (some h) a n s).hart h = s.hart h := by
  unfold dropReservations State.each
  generalize List.range 4 = l
  induction l generalizing s with
  | nil => rfl
  | cons i l ih =>
    rw [List.foldl_cons, ih]
    unfold dropReservation
    split
    · split
      · next hc =>
        have : h ≠ i := by
          intro he; subst he; simp at hc
        exact State.hart_setHart_ne _ _ this
      · rfl
    · rfl

/-- A store that memory takes goes on with its bytes stored. -/
theorem store_of_takes {s t : State} {h : Hart} {len : Nat} {a : Word} (v : Nat) (hl : StoresToMemory s h a.toNat len)
    (hr : t.regs = s.regs) (hi : t.images = s.images) (k : State → HRes) :
    store h.val len a v (s.hart h.val) t k =
      k (if areaOf a.toNat = .sram then sramStore h.val a.toNat (leBytes len v) t
        else t.setBytes a.toNat (leBytes len v)) := by
  obtain ⟨ha, hp, hb⟩ := hl
  unfold store
  simp only [ha, hp, bne_self_eq_false, Bool.false_eq_true, if_false, Bool.not_true]
  rcases hb with ⟨h1, h2⟩ | ⟨h1, h2⟩ | ⟨h1, h2⟩
  · rw [h1]; simp [State.readOnly_congr hi, h2]
  · rw [h1]; simp [State.nvOk_congr hr, h2]
  · rw [h1]; simp [h2]

/-- A load that memory answers, in the body of an instruction. -/
theorem load_in_body {s : State} {h : Hart} {len : Nat} {a pc : Word} {l : List Byte} (hl : Loads s h a.toNat len l)
    (k : Nat → State → HRes) :
    load h.val len a (s.hart h.val) (setPc h.val pc s) k = k (leNat l) (setPc h.val pc s) :=
  load_of_loads (t := setPc h.val pc s) hl rfl (by rw [setPc_hart]) k

/-- A store that memory takes, in the body of an instruction. -/
theorem store_in_body {s : State} {h : Hart} {len : Nat} {a pc : Word} (v : Nat)
    (hl : StoresToMemory s h a.toNat len) (k : State → HRes) :
    store h.val len a v (s.hart h.val) (setPc h.val pc s) k =
      k (if areaOf a.toNat = .sram then sramStore h.val a.toNat (leBytes len v) (setPc h.val pc s)
        else (setPc h.val pc s).setBytes a.toNat (leBytes len v)) := 
  store_of_takes (t := setPc h.val pc s) v hl rfl rfl k

/-- A general register written reads back, but for g0. -/
theorem HartCtx.r_setR (x : HartCtx) (n : RegNum) (v : Word) (h : n ≠ 0) : (x.setR n v).r n = v := by
  unfold HartCtx.setR HartCtx.r
  rw [if_neg h, if_neg h]
  simp [List.getD, n.isLt]

theorem HartCtx.r_setR_ne (x : HartCtx) {n m : RegNum} (v : Word) (h : n ≠ m) : (x.setR n v).r m = x.r m := by
  have hn : n.toNat ≠ m.toNat := fun he => h (BitVec.eq_of_toNat_eq he)
  unfold HartCtx.setR HartCtx.r
  split
  · rfl
  · split
    · rfl
    · simp only [Vector.toList_setIfInBounds, List.getD, List.getElem?_set, if_neg hn]

end Sys2Proof.Machine
end

