-- ==== Sys2Proof/Laws/State.lean ====
section
/-! SUPPORT. Each update of the state leaves every other part as it is, one lemma per update and part, and an indexed
update is read back where it was made. -/

namespace Sys2Proof.Machine

/-! ### Register writes change registers alone -/

@[simp] theorem State.setReg_mem (s : State) (r : Rg) (i : Nat) (v : Word) : (s.setReg r i v).mem = s.mem := by
  unfold State.setReg; split <;> rfl

@[simp] theorem State.setReg_latches (s : State) (r : Rg) (i : Nat) (v : Word) : (s.setReg r i v).latches = s.latches := by
  unfold State.setReg; split <;> rfl

@[simp] theorem State.setReg_holds (s : State) (r : Rg) (i : Nat) (v : Word) : (s.setReg r i v).holds = s.holds := by
  unfold State.setReg; split <;> rfl

@[simp] theorem State.setReg_readData (s : State) (r : Rg) (i : Nat) (v : Word) : (s.setReg r i v).readData = s.readData := by
  unfold State.setReg; split <;> rfl

@[simp] theorem State.setReg_busError (s : State) (r : Rg) (i : Nat) (v : Word) : (s.setReg r i v).busError = s.busError := by
  unfold State.setReg; split <;> rfl

@[simp] theorem State.setReg_tick (s : State) (r : Rg) (i : Nat) (v : Word) : (s.setReg r i v).tick = s.tick := by
  unfold State.setReg; split <;> rfl

@[simp] theorem State.setReg_drawn (s : State) (r : Rg) (i : Nat) (v : Word) : (s.setReg r i v).drawn = s.drawn := by
  unfold State.setReg; split <;> rfl

@[simp] theorem State.setReg_sys (s : State) (r : Rg) (i : Nat) (v : Word) : (s.setReg r i v).sys = s.sys := by
  unfold State.setReg; split <;> rfl

@[simp] theorem State.setReg_harts (s : State) (r : Rg) (i : Nat) (v : Word) : (s.setReg r i v).harts = s.harts := by
  unfold State.setReg; split <;> rfl

@[simp] theorem State.setReg_images (s : State) (r : Rg) (i : Nat) (v : Word) : (s.setReg r i v).images = s.images := by
  unfold State.setReg; split <;> rfl

@[simp] theorem State.setReg_lpe (s : State) (r : Rg) (i : Nat) (v : Word) : (s.setReg r i v).lpe = s.lpe := by
  unfold State.setReg; split <;> rfl

@[simp] theorem State.setReg_cln (s : State) (r : Rg) (i : Nat) (v : Word) : (s.setReg r i v).cln = s.cln := by
  unfold State.setReg; split <;> rfl

@[simp] theorem State.setReg_prt (s : State) (r : Rg) (i : Nat) (v : Word) : (s.setReg r i v).prt = s.prt := by
  unfold State.setReg; split <;> rfl

@[simp] theorem State.setReg_veh (s : State) (r : Rg) (i : Nat) (v : Word) : (s.setReg r i v).veh = s.veh := by
  unfold State.setReg; split <;> rfl

@[simp] theorem State.setReg_alc (s : State) (r : Rg) (i : Nat) (v : Word) : (s.setReg r i v).alc = s.alc := by
  unfold State.setReg; split <;> rfl

@[simp] theorem State.setReg_thm (s : State) (r : Rg) (i : Nat) (v : Word) : (s.setReg r i v).thm = s.thm := by
  unfold State.setReg; split <;> rfl

@[simp] theorem State.setReg_mtr (s : State) (r : Rg) (i : Nat) (v : Word) : (s.setReg r i v).mtr = s.mtr := by
  unfold State.setReg; split <;> rfl

@[simp] theorem State.setReg_bil (s : State) (r : Rg) (i : Nat) (v : Word) : (s.setReg r i v).bil = s.bil := by
  unfold State.setReg; split <;> rfl

@[simp] theorem State.setReg_sig (s : State) (r : Rg) (i : Nat) (v : Word) : (s.setReg r i v).sig = s.sig := by
  unfold State.setReg; split <;> rfl

@[simp] theorem State.setReg_sfy (s : State) (r : Rg) (i : Nat) (v : Word) : (s.setReg r i v).sfy = s.sfy := by
  unfold State.setReg; split <;> rfl

@[simp] theorem State.setReg_rng (s : State) (r : Rg) (i : Nat) (v : Word) : (s.setReg r i v).rng = s.rng := by
  unfold State.setReg; split <;> rfl

@[simp] theorem State.setReg_est (s : State) (r : Rg) (i : Nat) (v : Word) : (s.setReg r i v).est = s.est := by
  unfold State.setReg; split <;> rfl

@[simp] theorem State.setReg_lsw (s : State) (r : Rg) (i : Nat) (v : Word) : (s.setReg r i v).lsw = s.lsw := by
  unfold State.setReg; split <;> rfl

@[simp] theorem State.setReg_time (s : State) (r : Rg) (i : Nat) (v : Word) : (s.setReg r i v).time = s.time := by
  unfold State.setReg; split <;> rfl

@[simp] theorem State.setReg_host (s : State) (r : Rg) (i : Nat) (v : Word) : (s.setReg r i v).host = s.host := by
  unfold State.setReg; split <;> rfl

@[simp] theorem State.setReg_eth (s : State) (r : Rg) (i : Nat) (v : Word) : (s.setReg r i v).eth = s.eth := by
  unfold State.setReg; split <;> rfl

@[simp] theorem State.setReg_sto (s : State) (r : Rg) (i : Nat) (v : Word) : (s.setReg r i v).sto = s.sto := by
  unfold State.setReg; split <;> rfl

@[simp] theorem State.setReg_cans (s : State) (r : Rg) (i : Nat) (v : Word) : (s.setReg r i v).cans = s.cans := by
  unfold State.setReg; split <;> rfl

@[simp] theorem State.setReg_dkl (s : State) (r : Rg) (i : Nat) (v : Word) : (s.setReg r i v).dkl = s.dkl := by
  unfold State.setReg; split <;> rfl

@[simp] theorem State.setReg_pending (s : State) (r : Rg) (i : Nat) (v : Word) : (s.setReg r i v).pending = s.pending := by
  unfold State.setReg; split <;> rfl

/-! ### `State.setF` -/

@[simp] theorem State.setF_mem (s : State) (fl : Fld) (i v : Nat) : (s.setF fl i v).mem = s.mem := State.setReg_mem _ _ _ _
@[simp] theorem State.setF_latches (s : State) (fl : Fld) (i v : Nat) : (s.setF fl i v).latches = s.latches := State.setReg_latches _ _ _ _
@[simp] theorem State.setF_holds (s : State) (fl : Fld) (i v : Nat) : (s.setF fl i v).holds = s.holds := State.setReg_holds _ _ _ _
@[simp] theorem State.setF_readData (s : State) (fl : Fld) (i v : Nat) : (s.setF fl i v).readData = s.readData := State.setReg_readData _ _ _ _
@[simp] theorem State.setF_busError (s : State) (fl : Fld) (i v : Nat) : (s.setF fl i v).busError = s.busError := State.setReg_busError _ _ _ _
@[simp] theorem State.setF_tick (s : State) (fl : Fld) (i v : Nat) : (s.setF fl i v).tick = s.tick := State.setReg_tick _ _ _ _
@[simp] theorem State.setF_drawn (s : State) (fl : Fld) (i v : Nat) : (s.setF fl i v).drawn = s.drawn := State.setReg_drawn _ _ _ _
@[simp] theorem State.setF_sys (s : State) (fl : Fld) (i v : Nat) : (s.setF fl i v).sys = s.sys := State.setReg_sys _ _ _ _
@[simp] theorem State.setF_harts (s : State) (fl : Fld) (i v : Nat) : (s.setF fl i v).harts = s.harts := State.setReg_harts _ _ _ _
@[simp] theorem State.setF_images (s : State) (fl : Fld) (i v : Nat) : (s.setF fl i v).images = s.images := State.setReg_images _ _ _ _
@[simp] theorem State.setF_lpe (s : State) (fl : Fld) (i v : Nat) : (s.setF fl i v).lpe = s.lpe := State.setReg_lpe _ _ _ _
@[simp] theorem State.setF_cln (s : State) (fl : Fld) (i v : Nat) : (s.setF fl i v).cln = s.cln := State.setReg_cln _ _ _ _
@[simp] theorem State.setF_prt (s : State) (fl : Fld) (i v : Nat) : (s.setF fl i v).prt = s.prt := State.setReg_prt _ _ _ _
@[simp] theorem State.setF_veh (s : State) (fl : Fld) (i v : Nat) : (s.setF fl i v).veh = s.veh := State.setReg_veh _ _ _ _
@[simp] theorem State.setF_alc (s : State) (fl : Fld) (i v : Nat) : (s.setF fl i v).alc = s.alc := State.setReg_alc _ _ _ _
@[simp] theorem State.setF_thm (s : State) (fl : Fld) (i v : Nat) : (s.setF fl i v).thm = s.thm := State.setReg_thm _ _ _ _
@[simp] theorem State.setF_mtr (s : State) (fl : Fld) (i v : Nat) : (s.setF fl i v).mtr = s.mtr := State.setReg_mtr _ _ _ _
@[simp] theorem State.setF_bil (s : State) (fl : Fld) (i v : Nat) : (s.setF fl i v).bil = s.bil := State.setReg_bil _ _ _ _
@[simp] theorem State.setF_sig (s : State) (fl : Fld) (i v : Nat) : (s.setF fl i v).sig = s.sig := State.setReg_sig _ _ _ _
@[simp] theorem State.setF_sfy (s : State) (fl : Fld) (i v : Nat) : (s.setF fl i v).sfy = s.sfy := State.setReg_sfy _ _ _ _
@[simp] theorem State.setF_rng (s : State) (fl : Fld) (i v : Nat) : (s.setF fl i v).rng = s.rng := State.setReg_rng _ _ _ _
@[simp] theorem State.setF_est (s : State) (fl : Fld) (i v : Nat) : (s.setF fl i v).est = s.est := State.setReg_est _ _ _ _
@[simp] theorem State.setF_lsw (s : State) (fl : Fld) (i v : Nat) : (s.setF fl i v).lsw = s.lsw := State.setReg_lsw _ _ _ _
@[simp] theorem State.setF_time (s : State) (fl : Fld) (i v : Nat) : (s.setF fl i v).time = s.time := State.setReg_time _ _ _ _
@[simp] theorem State.setF_host (s : State) (fl : Fld) (i v : Nat) : (s.setF fl i v).host = s.host := State.setReg_host _ _ _ _
@[simp] theorem State.setF_eth (s : State) (fl : Fld) (i v : Nat) : (s.setF fl i v).eth = s.eth := State.setReg_eth _ _ _ _
@[simp] theorem State.setF_sto (s : State) (fl : Fld) (i v : Nat) : (s.setF fl i v).sto = s.sto := State.setReg_sto _ _ _ _
@[simp] theorem State.setF_cans (s : State) (fl : Fld) (i v : Nat) : (s.setF fl i v).cans = s.cans := State.setReg_cans _ _ _ _
@[simp] theorem State.setF_dkl (s : State) (fl : Fld) (i v : Nat) : (s.setF fl i v).dkl = s.dkl := State.setReg_dkl _ _ _ _
@[simp] theorem State.setF_pending (s : State) (fl : Fld) (i v : Nat) : (s.setF fl i v).pending = s.pending := State.setReg_pending _ _ _ _

/-! ### `State.setFi` -/

@[simp] theorem State.setFi_mem (s : State) (fl : Fld) (i : Nat) (v : Int) : (s.setFi fl i v).mem = s.mem := State.setF_mem _ _ _ _
@[simp] theorem State.setFi_latches (s : State) (fl : Fld) (i : Nat) (v : Int) : (s.setFi fl i v).latches = s.latches := State.setF_latches _ _ _ _
@[simp] theorem State.setFi_holds (s : State) (fl : Fld) (i : Nat) (v : Int) : (s.setFi fl i v).holds = s.holds := State.setF_holds _ _ _ _
@[simp] theorem State.setFi_readData (s : State) (fl : Fld) (i : Nat) (v : Int) : (s.setFi fl i v).readData = s.readData := State.setF_readData _ _ _ _
@[simp] theorem State.setFi_busError (s : State) (fl : Fld) (i : Nat) (v : Int) : (s.setFi fl i v).busError = s.busError := State.setF_busError _ _ _ _
@[simp] theorem State.setFi_tick (s : State) (fl : Fld) (i : Nat) (v : Int) : (s.setFi fl i v).tick = s.tick := State.setF_tick _ _ _ _
@[simp] theorem State.setFi_drawn (s : State) (fl : Fld) (i : Nat) (v : Int) : (s.setFi fl i v).drawn = s.drawn := State.setF_drawn _ _ _ _
@[simp] theorem State.setFi_sys (s : State) (fl : Fld) (i : Nat) (v : Int) : (s.setFi fl i v).sys = s.sys := State.setF_sys _ _ _ _
@[simp] theorem State.setFi_harts (s : State) (fl : Fld) (i : Nat) (v : Int) : (s.setFi fl i v).harts = s.harts := State.setF_harts _ _ _ _
@[simp] theorem State.setFi_images (s : State) (fl : Fld) (i : Nat) (v : Int) : (s.setFi fl i v).images = s.images := State.setF_images _ _ _ _
@[simp] theorem State.setFi_lpe (s : State) (fl : Fld) (i : Nat) (v : Int) : (s.setFi fl i v).lpe = s.lpe := State.setF_lpe _ _ _ _
@[simp] theorem State.setFi_cln (s : State) (fl : Fld) (i : Nat) (v : Int) : (s.setFi fl i v).cln = s.cln := State.setF_cln _ _ _ _
@[simp] theorem State.setFi_prt (s : State) (fl : Fld) (i : Nat) (v : Int) : (s.setFi fl i v).prt = s.prt := State.setF_prt _ _ _ _
@[simp] theorem State.setFi_veh (s : State) (fl : Fld) (i : Nat) (v : Int) : (s.setFi fl i v).veh = s.veh := State.setF_veh _ _ _ _
@[simp] theorem State.setFi_alc (s : State) (fl : Fld) (i : Nat) (v : Int) : (s.setFi fl i v).alc = s.alc := State.setF_alc _ _ _ _
@[simp] theorem State.setFi_thm (s : State) (fl : Fld) (i : Nat) (v : Int) : (s.setFi fl i v).thm = s.thm := State.setF_thm _ _ _ _
@[simp] theorem State.setFi_mtr (s : State) (fl : Fld) (i : Nat) (v : Int) : (s.setFi fl i v).mtr = s.mtr := State.setF_mtr _ _ _ _
@[simp] theorem State.setFi_bil (s : State) (fl : Fld) (i : Nat) (v : Int) : (s.setFi fl i v).bil = s.bil := State.setF_bil _ _ _ _
@[simp] theorem State.setFi_sig (s : State) (fl : Fld) (i : Nat) (v : Int) : (s.setFi fl i v).sig = s.sig := State.setF_sig _ _ _ _
@[simp] theorem State.setFi_sfy (s : State) (fl : Fld) (i : Nat) (v : Int) : (s.setFi fl i v).sfy = s.sfy := State.setF_sfy _ _ _ _
@[simp] theorem State.setFi_rng (s : State) (fl : Fld) (i : Nat) (v : Int) : (s.setFi fl i v).rng = s.rng := State.setF_rng _ _ _ _
@[simp] theorem State.setFi_est (s : State) (fl : Fld) (i : Nat) (v : Int) : (s.setFi fl i v).est = s.est := State.setF_est _ _ _ _
@[simp] theorem State.setFi_lsw (s : State) (fl : Fld) (i : Nat) (v : Int) : (s.setFi fl i v).lsw = s.lsw := State.setF_lsw _ _ _ _
@[simp] theorem State.setFi_time (s : State) (fl : Fld) (i : Nat) (v : Int) : (s.setFi fl i v).time = s.time := State.setF_time _ _ _ _
@[simp] theorem State.setFi_host (s : State) (fl : Fld) (i : Nat) (v : Int) : (s.setFi fl i v).host = s.host := State.setF_host _ _ _ _
@[simp] theorem State.setFi_eth (s : State) (fl : Fld) (i : Nat) (v : Int) : (s.setFi fl i v).eth = s.eth := State.setF_eth _ _ _ _
@[simp] theorem State.setFi_sto (s : State) (fl : Fld) (i : Nat) (v : Int) : (s.setFi fl i v).sto = s.sto := State.setF_sto _ _ _ _
@[simp] theorem State.setFi_cans (s : State) (fl : Fld) (i : Nat) (v : Int) : (s.setFi fl i v).cans = s.cans := State.setF_cans _ _ _ _
@[simp] theorem State.setFi_dkl (s : State) (fl : Fld) (i : Nat) (v : Int) : (s.setFi fl i v).dkl = s.dkl := State.setF_dkl _ _ _ _
@[simp] theorem State.setFi_pending (s : State) (fl : Fld) (i : Nat) (v : Int) : (s.setFi fl i v).pending = s.pending := State.setF_pending _ _ _ _

/-! ### `State.setB` -/

@[simp] theorem State.setB_mem (s : State) (fl : Fld) (i : Nat) (v : Bool) : (s.setB fl i v).mem = s.mem := State.setF_mem _ _ _ _
@[simp] theorem State.setB_latches (s : State) (fl : Fld) (i : Nat) (v : Bool) : (s.setB fl i v).latches = s.latches := State.setF_latches _ _ _ _
@[simp] theorem State.setB_holds (s : State) (fl : Fld) (i : Nat) (v : Bool) : (s.setB fl i v).holds = s.holds := State.setF_holds _ _ _ _
@[simp] theorem State.setB_readData (s : State) (fl : Fld) (i : Nat) (v : Bool) : (s.setB fl i v).readData = s.readData := State.setF_readData _ _ _ _
@[simp] theorem State.setB_busError (s : State) (fl : Fld) (i : Nat) (v : Bool) : (s.setB fl i v).busError = s.busError := State.setF_busError _ _ _ _
@[simp] theorem State.setB_tick (s : State) (fl : Fld) (i : Nat) (v : Bool) : (s.setB fl i v).tick = s.tick := State.setF_tick _ _ _ _
@[simp] theorem State.setB_drawn (s : State) (fl : Fld) (i : Nat) (v : Bool) : (s.setB fl i v).drawn = s.drawn := State.setF_drawn _ _ _ _
@[simp] theorem State.setB_sys (s : State) (fl : Fld) (i : Nat) (v : Bool) : (s.setB fl i v).sys = s.sys := State.setF_sys _ _ _ _
@[simp] theorem State.setB_harts (s : State) (fl : Fld) (i : Nat) (v : Bool) : (s.setB fl i v).harts = s.harts := State.setF_harts _ _ _ _
@[simp] theorem State.setB_images (s : State) (fl : Fld) (i : Nat) (v : Bool) : (s.setB fl i v).images = s.images := State.setF_images _ _ _ _
@[simp] theorem State.setB_lpe (s : State) (fl : Fld) (i : Nat) (v : Bool) : (s.setB fl i v).lpe = s.lpe := State.setF_lpe _ _ _ _
@[simp] theorem State.setB_cln (s : State) (fl : Fld) (i : Nat) (v : Bool) : (s.setB fl i v).cln = s.cln := State.setF_cln _ _ _ _
@[simp] theorem State.setB_prt (s : State) (fl : Fld) (i : Nat) (v : Bool) : (s.setB fl i v).prt = s.prt := State.setF_prt _ _ _ _
@[simp] theorem State.setB_veh (s : State) (fl : Fld) (i : Nat) (v : Bool) : (s.setB fl i v).veh = s.veh := State.setF_veh _ _ _ _
@[simp] theorem State.setB_alc (s : State) (fl : Fld) (i : Nat) (v : Bool) : (s.setB fl i v).alc = s.alc := State.setF_alc _ _ _ _
@[simp] theorem State.setB_thm (s : State) (fl : Fld) (i : Nat) (v : Bool) : (s.setB fl i v).thm = s.thm := State.setF_thm _ _ _ _
@[simp] theorem State.setB_mtr (s : State) (fl : Fld) (i : Nat) (v : Bool) : (s.setB fl i v).mtr = s.mtr := State.setF_mtr _ _ _ _
@[simp] theorem State.setB_bil (s : State) (fl : Fld) (i : Nat) (v : Bool) : (s.setB fl i v).bil = s.bil := State.setF_bil _ _ _ _
@[simp] theorem State.setB_sig (s : State) (fl : Fld) (i : Nat) (v : Bool) : (s.setB fl i v).sig = s.sig := State.setF_sig _ _ _ _
@[simp] theorem State.setB_sfy (s : State) (fl : Fld) (i : Nat) (v : Bool) : (s.setB fl i v).sfy = s.sfy := State.setF_sfy _ _ _ _
@[simp] theorem State.setB_rng (s : State) (fl : Fld) (i : Nat) (v : Bool) : (s.setB fl i v).rng = s.rng := State.setF_rng _ _ _ _
@[simp] theorem State.setB_est (s : State) (fl : Fld) (i : Nat) (v : Bool) : (s.setB fl i v).est = s.est := State.setF_est _ _ _ _
@[simp] theorem State.setB_lsw (s : State) (fl : Fld) (i : Nat) (v : Bool) : (s.setB fl i v).lsw = s.lsw := State.setF_lsw _ _ _ _
@[simp] theorem State.setB_time (s : State) (fl : Fld) (i : Nat) (v : Bool) : (s.setB fl i v).time = s.time := State.setF_time _ _ _ _
@[simp] theorem State.setB_host (s : State) (fl : Fld) (i : Nat) (v : Bool) : (s.setB fl i v).host = s.host := State.setF_host _ _ _ _
@[simp] theorem State.setB_eth (s : State) (fl : Fld) (i : Nat) (v : Bool) : (s.setB fl i v).eth = s.eth := State.setF_eth _ _ _ _
@[simp] theorem State.setB_sto (s : State) (fl : Fld) (i : Nat) (v : Bool) : (s.setB fl i v).sto = s.sto := State.setF_sto _ _ _ _
@[simp] theorem State.setB_cans (s : State) (fl : Fld) (i : Nat) (v : Bool) : (s.setB fl i v).cans = s.cans := State.setF_cans _ _ _ _
@[simp] theorem State.setB_dkl (s : State) (fl : Fld) (i : Nat) (v : Bool) : (s.setB fl i v).dkl = s.dkl := State.setF_dkl _ _ _ _
@[simp] theorem State.setB_pending (s : State) (fl : Fld) (i : Nat) (v : Bool) : (s.setB fl i v).pending = s.pending := State.setF_pending _ _ _ _

/-! ### `State.setFBit` -/

@[simp] theorem State.setFBit_mem (s : State) (fl : Fld) (i j : Nat) (v : Bool) : (s.setFBit fl i j v).mem = s.mem := State.setF_mem _ _ _ _
@[simp] theorem State.setFBit_latches (s : State) (fl : Fld) (i j : Nat) (v : Bool) : (s.setFBit fl i j v).latches = s.latches := State.setF_latches _ _ _ _
@[simp] theorem State.setFBit_holds (s : State) (fl : Fld) (i j : Nat) (v : Bool) : (s.setFBit fl i j v).holds = s.holds := State.setF_holds _ _ _ _
@[simp] theorem State.setFBit_readData (s : State) (fl : Fld) (i j : Nat) (v : Bool) : (s.setFBit fl i j v).readData = s.readData := State.setF_readData _ _ _ _
@[simp] theorem State.setFBit_busError (s : State) (fl : Fld) (i j : Nat) (v : Bool) : (s.setFBit fl i j v).busError = s.busError := State.setF_busError _ _ _ _
@[simp] theorem State.setFBit_tick (s : State) (fl : Fld) (i j : Nat) (v : Bool) : (s.setFBit fl i j v).tick = s.tick := State.setF_tick _ _ _ _
@[simp] theorem State.setFBit_drawn (s : State) (fl : Fld) (i j : Nat) (v : Bool) : (s.setFBit fl i j v).drawn = s.drawn := State.setF_drawn _ _ _ _
@[simp] theorem State.setFBit_sys (s : State) (fl : Fld) (i j : Nat) (v : Bool) : (s.setFBit fl i j v).sys = s.sys := State.setF_sys _ _ _ _
@[simp] theorem State.setFBit_harts (s : State) (fl : Fld) (i j : Nat) (v : Bool) : (s.setFBit fl i j v).harts = s.harts := State.setF_harts _ _ _ _
@[simp] theorem State.setFBit_images (s : State) (fl : Fld) (i j : Nat) (v : Bool) : (s.setFBit fl i j v).images = s.images := State.setF_images _ _ _ _
@[simp] theorem State.setFBit_lpe (s : State) (fl : Fld) (i j : Nat) (v : Bool) : (s.setFBit fl i j v).lpe = s.lpe := State.setF_lpe _ _ _ _
@[simp] theorem State.setFBit_cln (s : State) (fl : Fld) (i j : Nat) (v : Bool) : (s.setFBit fl i j v).cln = s.cln := State.setF_cln _ _ _ _
@[simp] theorem State.setFBit_prt (s : State) (fl : Fld) (i j : Nat) (v : Bool) : (s.setFBit fl i j v).prt = s.prt := State.setF_prt _ _ _ _
@[simp] theorem State.setFBit_veh (s : State) (fl : Fld) (i j : Nat) (v : Bool) : (s.setFBit fl i j v).veh = s.veh := State.setF_veh _ _ _ _
@[simp] theorem State.setFBit_alc (s : State) (fl : Fld) (i j : Nat) (v : Bool) : (s.setFBit fl i j v).alc = s.alc := State.setF_alc _ _ _ _
@[simp] theorem State.setFBit_thm (s : State) (fl : Fld) (i j : Nat) (v : Bool) : (s.setFBit fl i j v).thm = s.thm := State.setF_thm _ _ _ _
@[simp] theorem State.setFBit_mtr (s : State) (fl : Fld) (i j : Nat) (v : Bool) : (s.setFBit fl i j v).mtr = s.mtr := State.setF_mtr _ _ _ _
@[simp] theorem State.setFBit_bil (s : State) (fl : Fld) (i j : Nat) (v : Bool) : (s.setFBit fl i j v).bil = s.bil := State.setF_bil _ _ _ _
@[simp] theorem State.setFBit_sig (s : State) (fl : Fld) (i j : Nat) (v : Bool) : (s.setFBit fl i j v).sig = s.sig := State.setF_sig _ _ _ _
@[simp] theorem State.setFBit_sfy (s : State) (fl : Fld) (i j : Nat) (v : Bool) : (s.setFBit fl i j v).sfy = s.sfy := State.setF_sfy _ _ _ _
@[simp] theorem State.setFBit_rng (s : State) (fl : Fld) (i j : Nat) (v : Bool) : (s.setFBit fl i j v).rng = s.rng := State.setF_rng _ _ _ _
@[simp] theorem State.setFBit_est (s : State) (fl : Fld) (i j : Nat) (v : Bool) : (s.setFBit fl i j v).est = s.est := State.setF_est _ _ _ _
@[simp] theorem State.setFBit_lsw (s : State) (fl : Fld) (i j : Nat) (v : Bool) : (s.setFBit fl i j v).lsw = s.lsw := State.setF_lsw _ _ _ _
@[simp] theorem State.setFBit_time (s : State) (fl : Fld) (i j : Nat) (v : Bool) : (s.setFBit fl i j v).time = s.time := State.setF_time _ _ _ _
@[simp] theorem State.setFBit_host (s : State) (fl : Fld) (i j : Nat) (v : Bool) : (s.setFBit fl i j v).host = s.host := State.setF_host _ _ _ _
@[simp] theorem State.setFBit_eth (s : State) (fl : Fld) (i j : Nat) (v : Bool) : (s.setFBit fl i j v).eth = s.eth := State.setF_eth _ _ _ _
@[simp] theorem State.setFBit_sto (s : State) (fl : Fld) (i j : Nat) (v : Bool) : (s.setFBit fl i j v).sto = s.sto := State.setF_sto _ _ _ _
@[simp] theorem State.setFBit_cans (s : State) (fl : Fld) (i j : Nat) (v : Bool) : (s.setFBit fl i j v).cans = s.cans := State.setF_cans _ _ _ _
@[simp] theorem State.setFBit_dkl (s : State) (fl : Fld) (i j : Nat) (v : Bool) : (s.setFBit fl i j v).dkl = s.dkl := State.setF_dkl _ _ _ _
@[simp] theorem State.setFBit_pending (s : State) (fl : Fld) (i j : Nat) (v : Bool) : (s.setFBit fl i j v).pending = s.pending := State.setF_pending _ _ _ _

/-! ### `State.satF` -/

@[simp] theorem State.satF_mem (s : State) (fl : Fld) (i n : Nat) : (s.satF fl i n).mem = s.mem := State.setF_mem _ _ _ _
@[simp] theorem State.satF_latches (s : State) (fl : Fld) (i n : Nat) : (s.satF fl i n).latches = s.latches := State.setF_latches _ _ _ _
@[simp] theorem State.satF_holds (s : State) (fl : Fld) (i n : Nat) : (s.satF fl i n).holds = s.holds := State.setF_holds _ _ _ _
@[simp] theorem State.satF_readData (s : State) (fl : Fld) (i n : Nat) : (s.satF fl i n).readData = s.readData := State.setF_readData _ _ _ _
@[simp] theorem State.satF_busError (s : State) (fl : Fld) (i n : Nat) : (s.satF fl i n).busError = s.busError := State.setF_busError _ _ _ _
@[simp] theorem State.satF_tick (s : State) (fl : Fld) (i n : Nat) : (s.satF fl i n).tick = s.tick := State.setF_tick _ _ _ _
@[simp] theorem State.satF_drawn (s : State) (fl : Fld) (i n : Nat) : (s.satF fl i n).drawn = s.drawn := State.setF_drawn _ _ _ _
@[simp] theorem State.satF_sys (s : State) (fl : Fld) (i n : Nat) : (s.satF fl i n).sys = s.sys := State.setF_sys _ _ _ _
@[simp] theorem State.satF_harts (s : State) (fl : Fld) (i n : Nat) : (s.satF fl i n).harts = s.harts := State.setF_harts _ _ _ _
@[simp] theorem State.satF_images (s : State) (fl : Fld) (i n : Nat) : (s.satF fl i n).images = s.images := State.setF_images _ _ _ _
@[simp] theorem State.satF_lpe (s : State) (fl : Fld) (i n : Nat) : (s.satF fl i n).lpe = s.lpe := State.setF_lpe _ _ _ _
@[simp] theorem State.satF_cln (s : State) (fl : Fld) (i n : Nat) : (s.satF fl i n).cln = s.cln := State.setF_cln _ _ _ _
@[simp] theorem State.satF_prt (s : State) (fl : Fld) (i n : Nat) : (s.satF fl i n).prt = s.prt := State.setF_prt _ _ _ _
@[simp] theorem State.satF_veh (s : State) (fl : Fld) (i n : Nat) : (s.satF fl i n).veh = s.veh := State.setF_veh _ _ _ _
@[simp] theorem State.satF_alc (s : State) (fl : Fld) (i n : Nat) : (s.satF fl i n).alc = s.alc := State.setF_alc _ _ _ _
@[simp] theorem State.satF_thm (s : State) (fl : Fld) (i n : Nat) : (s.satF fl i n).thm = s.thm := State.setF_thm _ _ _ _
@[simp] theorem State.satF_mtr (s : State) (fl : Fld) (i n : Nat) : (s.satF fl i n).mtr = s.mtr := State.setF_mtr _ _ _ _
@[simp] theorem State.satF_bil (s : State) (fl : Fld) (i n : Nat) : (s.satF fl i n).bil = s.bil := State.setF_bil _ _ _ _
@[simp] theorem State.satF_sig (s : State) (fl : Fld) (i n : Nat) : (s.satF fl i n).sig = s.sig := State.setF_sig _ _ _ _
@[simp] theorem State.satF_sfy (s : State) (fl : Fld) (i n : Nat) : (s.satF fl i n).sfy = s.sfy := State.setF_sfy _ _ _ _
@[simp] theorem State.satF_rng (s : State) (fl : Fld) (i n : Nat) : (s.satF fl i n).rng = s.rng := State.setF_rng _ _ _ _
@[simp] theorem State.satF_est (s : State) (fl : Fld) (i n : Nat) : (s.satF fl i n).est = s.est := State.setF_est _ _ _ _
@[simp] theorem State.satF_lsw (s : State) (fl : Fld) (i n : Nat) : (s.satF fl i n).lsw = s.lsw := State.setF_lsw _ _ _ _
@[simp] theorem State.satF_time (s : State) (fl : Fld) (i n : Nat) : (s.satF fl i n).time = s.time := State.setF_time _ _ _ _
@[simp] theorem State.satF_host (s : State) (fl : Fld) (i n : Nat) : (s.satF fl i n).host = s.host := State.setF_host _ _ _ _
@[simp] theorem State.satF_eth (s : State) (fl : Fld) (i n : Nat) : (s.satF fl i n).eth = s.eth := State.setF_eth _ _ _ _
@[simp] theorem State.satF_sto (s : State) (fl : Fld) (i n : Nat) : (s.satF fl i n).sto = s.sto := State.setF_sto _ _ _ _
@[simp] theorem State.satF_cans (s : State) (fl : Fld) (i n : Nat) : (s.satF fl i n).cans = s.cans := State.setF_cans _ _ _ _
@[simp] theorem State.satF_dkl (s : State) (fl : Fld) (i n : Nat) : (s.satF fl i n).dkl = s.dkl := State.setF_dkl _ _ _ _
@[simp] theorem State.satF_pending (s : State) (fl : Fld) (i n : Nat) : (s.satF fl i n).pending = s.pending := State.setF_pending _ _ _ _

/-! ### `State.addF` -/

@[simp] theorem State.addF_mem (s : State) (fl : Fld) (i n : Nat) : (s.addF fl i n).mem = s.mem := State.setF_mem _ _ _ _
@[simp] theorem State.addF_latches (s : State) (fl : Fld) (i n : Nat) : (s.addF fl i n).latches = s.latches := State.setF_latches _ _ _ _
@[simp] theorem State.addF_holds (s : State) (fl : Fld) (i n : Nat) : (s.addF fl i n).holds = s.holds := State.setF_holds _ _ _ _
@[simp] theorem State.addF_readData (s : State) (fl : Fld) (i n : Nat) : (s.addF fl i n).readData = s.readData := State.setF_readData _ _ _ _
@[simp] theorem State.addF_busError (s : State) (fl : Fld) (i n : Nat) : (s.addF fl i n).busError = s.busError := State.setF_busError _ _ _ _
@[simp] theorem State.addF_tick (s : State) (fl : Fld) (i n : Nat) : (s.addF fl i n).tick = s.tick := State.setF_tick _ _ _ _
@[simp] theorem State.addF_drawn (s : State) (fl : Fld) (i n : Nat) : (s.addF fl i n).drawn = s.drawn := State.setF_drawn _ _ _ _
@[simp] theorem State.addF_sys (s : State) (fl : Fld) (i n : Nat) : (s.addF fl i n).sys = s.sys := State.setF_sys _ _ _ _
@[simp] theorem State.addF_harts (s : State) (fl : Fld) (i n : Nat) : (s.addF fl i n).harts = s.harts := State.setF_harts _ _ _ _
@[simp] theorem State.addF_images (s : State) (fl : Fld) (i n : Nat) : (s.addF fl i n).images = s.images := State.setF_images _ _ _ _
@[simp] theorem State.addF_lpe (s : State) (fl : Fld) (i n : Nat) : (s.addF fl i n).lpe = s.lpe := State.setF_lpe _ _ _ _
@[simp] theorem State.addF_cln (s : State) (fl : Fld) (i n : Nat) : (s.addF fl i n).cln = s.cln := State.setF_cln _ _ _ _
@[simp] theorem State.addF_prt (s : State) (fl : Fld) (i n : Nat) : (s.addF fl i n).prt = s.prt := State.setF_prt _ _ _ _
@[simp] theorem State.addF_veh (s : State) (fl : Fld) (i n : Nat) : (s.addF fl i n).veh = s.veh := State.setF_veh _ _ _ _
@[simp] theorem State.addF_alc (s : State) (fl : Fld) (i n : Nat) : (s.addF fl i n).alc = s.alc := State.setF_alc _ _ _ _
@[simp] theorem State.addF_thm (s : State) (fl : Fld) (i n : Nat) : (s.addF fl i n).thm = s.thm := State.setF_thm _ _ _ _
@[simp] theorem State.addF_mtr (s : State) (fl : Fld) (i n : Nat) : (s.addF fl i n).mtr = s.mtr := State.setF_mtr _ _ _ _
@[simp] theorem State.addF_bil (s : State) (fl : Fld) (i n : Nat) : (s.addF fl i n).bil = s.bil := State.setF_bil _ _ _ _
@[simp] theorem State.addF_sig (s : State) (fl : Fld) (i n : Nat) : (s.addF fl i n).sig = s.sig := State.setF_sig _ _ _ _
@[simp] theorem State.addF_sfy (s : State) (fl : Fld) (i n : Nat) : (s.addF fl i n).sfy = s.sfy := State.setF_sfy _ _ _ _
@[simp] theorem State.addF_rng (s : State) (fl : Fld) (i n : Nat) : (s.addF fl i n).rng = s.rng := State.setF_rng _ _ _ _
@[simp] theorem State.addF_est (s : State) (fl : Fld) (i n : Nat) : (s.addF fl i n).est = s.est := State.setF_est _ _ _ _
@[simp] theorem State.addF_lsw (s : State) (fl : Fld) (i n : Nat) : (s.addF fl i n).lsw = s.lsw := State.setF_lsw _ _ _ _
@[simp] theorem State.addF_time (s : State) (fl : Fld) (i n : Nat) : (s.addF fl i n).time = s.time := State.setF_time _ _ _ _
@[simp] theorem State.addF_host (s : State) (fl : Fld) (i n : Nat) : (s.addF fl i n).host = s.host := State.setF_host _ _ _ _
@[simp] theorem State.addF_eth (s : State) (fl : Fld) (i n : Nat) : (s.addF fl i n).eth = s.eth := State.setF_eth _ _ _ _
@[simp] theorem State.addF_sto (s : State) (fl : Fld) (i n : Nat) : (s.addF fl i n).sto = s.sto := State.setF_sto _ _ _ _
@[simp] theorem State.addF_cans (s : State) (fl : Fld) (i n : Nat) : (s.addF fl i n).cans = s.cans := State.setF_cans _ _ _ _
@[simp] theorem State.addF_dkl (s : State) (fl : Fld) (i n : Nat) : (s.addF fl i n).dkl = s.dkl := State.setF_dkl _ _ _ _
@[simp] theorem State.addF_pending (s : State) (fl : Fld) (i n : Nat) : (s.addF fl i n).pending = s.pending := State.setF_pending _ _ _ _

/-! ### `State.raise` -/

@[simp] theorem State.raise_mem (s : State) (n : Nat) : (s.raise n).mem = s.mem := State.setFBit_mem _ _ _ _ _
@[simp] theorem State.raise_latches (s : State) (n : Nat) : (s.raise n).latches = s.latches := State.setFBit_latches _ _ _ _ _
@[simp] theorem State.raise_holds (s : State) (n : Nat) : (s.raise n).holds = s.holds := State.setFBit_holds _ _ _ _ _
@[simp] theorem State.raise_readData (s : State) (n : Nat) : (s.raise n).readData = s.readData := State.setFBit_readData _ _ _ _ _
@[simp] theorem State.raise_busError (s : State) (n : Nat) : (s.raise n).busError = s.busError := State.setFBit_busError _ _ _ _ _
@[simp] theorem State.raise_tick (s : State) (n : Nat) : (s.raise n).tick = s.tick := State.setFBit_tick _ _ _ _ _
@[simp] theorem State.raise_drawn (s : State) (n : Nat) : (s.raise n).drawn = s.drawn := State.setFBit_drawn _ _ _ _ _
@[simp] theorem State.raise_sys (s : State) (n : Nat) : (s.raise n).sys = s.sys := State.setFBit_sys _ _ _ _ _
@[simp] theorem State.raise_harts (s : State) (n : Nat) : (s.raise n).harts = s.harts := State.setFBit_harts _ _ _ _ _
@[simp] theorem State.raise_images (s : State) (n : Nat) : (s.raise n).images = s.images := State.setFBit_images _ _ _ _ _
@[simp] theorem State.raise_lpe (s : State) (n : Nat) : (s.raise n).lpe = s.lpe := State.setFBit_lpe _ _ _ _ _
@[simp] theorem State.raise_cln (s : State) (n : Nat) : (s.raise n).cln = s.cln := State.setFBit_cln _ _ _ _ _
@[simp] theorem State.raise_prt (s : State) (n : Nat) : (s.raise n).prt = s.prt := State.setFBit_prt _ _ _ _ _
@[simp] theorem State.raise_veh (s : State) (n : Nat) : (s.raise n).veh = s.veh := State.setFBit_veh _ _ _ _ _
@[simp] theorem State.raise_alc (s : State) (n : Nat) : (s.raise n).alc = s.alc := State.setFBit_alc _ _ _ _ _
@[simp] theorem State.raise_thm (s : State) (n : Nat) : (s.raise n).thm = s.thm := State.setFBit_thm _ _ _ _ _
@[simp] theorem State.raise_mtr (s : State) (n : Nat) : (s.raise n).mtr = s.mtr := State.setFBit_mtr _ _ _ _ _
@[simp] theorem State.raise_bil (s : State) (n : Nat) : (s.raise n).bil = s.bil := State.setFBit_bil _ _ _ _ _
@[simp] theorem State.raise_sig (s : State) (n : Nat) : (s.raise n).sig = s.sig := State.setFBit_sig _ _ _ _ _
@[simp] theorem State.raise_sfy (s : State) (n : Nat) : (s.raise n).sfy = s.sfy := State.setFBit_sfy _ _ _ _ _
@[simp] theorem State.raise_rng (s : State) (n : Nat) : (s.raise n).rng = s.rng := State.setFBit_rng _ _ _ _ _
@[simp] theorem State.raise_est (s : State) (n : Nat) : (s.raise n).est = s.est := State.setFBit_est _ _ _ _ _
@[simp] theorem State.raise_lsw (s : State) (n : Nat) : (s.raise n).lsw = s.lsw := State.setFBit_lsw _ _ _ _ _
@[simp] theorem State.raise_time (s : State) (n : Nat) : (s.raise n).time = s.time := State.setFBit_time _ _ _ _ _
@[simp] theorem State.raise_host (s : State) (n : Nat) : (s.raise n).host = s.host := State.setFBit_host _ _ _ _ _
@[simp] theorem State.raise_eth (s : State) (n : Nat) : (s.raise n).eth = s.eth := State.setFBit_eth _ _ _ _ _
@[simp] theorem State.raise_sto (s : State) (n : Nat) : (s.raise n).sto = s.sto := State.setFBit_sto _ _ _ _ _
@[simp] theorem State.raise_cans (s : State) (n : Nat) : (s.raise n).cans = s.cans := State.setFBit_cans _ _ _ _ _
@[simp] theorem State.raise_dkl (s : State) (n : Nat) : (s.raise n).dkl = s.dkl := State.setFBit_dkl _ _ _ _ _
@[simp] theorem State.raise_pending (s : State) (n : Nat) : (s.raise n).pending = s.pending := State.setFBit_pending _ _ _ _ _

/-! ### `State.setQ`, `State.setQi`, `State.causeOn` -/

@[simp] theorem State.setQ_mem (s : State) (lo hi : Rg) (i v : Nat) : (s.setQ lo hi i v).mem = s.mem := by
  simp [State.setQ]
@[simp] theorem State.setQi_mem (s : State) (lo hi : Rg) (i : Nat) (v : Int) : (s.setQi lo hi i v).mem = s.mem := by
  simp [State.setQi]
@[simp] theorem State.causeOn_mem (s : State) (a b : Fld) (i j n : Nat) : (s.causeOn a b i j n).mem = s.mem := by
  unfold State.causeOn; dsimp only; split <;> simp

@[simp] theorem State.setQ_latches (s : State) (lo hi : Rg) (i v : Nat) : (s.setQ lo hi i v).latches = s.latches := by
  simp [State.setQ]
@[simp] theorem State.setQi_latches (s : State) (lo hi : Rg) (i : Nat) (v : Int) : (s.setQi lo hi i v).latches = s.latches := by
  simp [State.setQi]
@[simp] theorem State.causeOn_latches (s : State) (a b : Fld) (i j n : Nat) : (s.causeOn a b i j n).latches = s.latches := by
  unfold State.causeOn; dsimp only; split <;> simp

@[simp] theorem State.setQ_holds (s : State) (lo hi : Rg) (i v : Nat) : (s.setQ lo hi i v).holds = s.holds := by
  simp [State.setQ]
@[simp] theorem State.setQi_holds (s : State) (lo hi : Rg) (i : Nat) (v : Int) : (s.setQi lo hi i v).holds = s.holds := by
  simp [State.setQi]
@[simp] theorem State.causeOn_holds (s : State) (a b : Fld) (i j n : Nat) : (s.causeOn a b i j n).holds = s.holds := by
  unfold State.causeOn; dsimp only; split <;> simp

@[simp] theorem State.setQ_readData (s : State) (lo hi : Rg) (i v : Nat) : (s.setQ lo hi i v).readData = s.readData := by
  simp [State.setQ]
@[simp] theorem State.setQi_readData (s : State) (lo hi : Rg) (i : Nat) (v : Int) : (s.setQi lo hi i v).readData = s.readData := by
  simp [State.setQi]
@[simp] theorem State.causeOn_readData (s : State) (a b : Fld) (i j n : Nat) : (s.causeOn a b i j n).readData = s.readData := by
  unfold State.causeOn; dsimp only; split <;> simp

@[simp] theorem State.setQ_busError (s : State) (lo hi : Rg) (i v : Nat) : (s.setQ lo hi i v).busError = s.busError := by
  simp [State.setQ]
@[simp] theorem State.setQi_busError (s : State) (lo hi : Rg) (i : Nat) (v : Int) : (s.setQi lo hi i v).busError = s.busError := by
  simp [State.setQi]
@[simp] theorem State.causeOn_busError (s : State) (a b : Fld) (i j n : Nat) : (s.causeOn a b i j n).busError = s.busError := by
  unfold State.causeOn; dsimp only; split <;> simp

@[simp] theorem State.setQ_tick (s : State) (lo hi : Rg) (i v : Nat) : (s.setQ lo hi i v).tick = s.tick := by
  simp [State.setQ]
@[simp] theorem State.setQi_tick (s : State) (lo hi : Rg) (i : Nat) (v : Int) : (s.setQi lo hi i v).tick = s.tick := by
  simp [State.setQi]
@[simp] theorem State.causeOn_tick (s : State) (a b : Fld) (i j n : Nat) : (s.causeOn a b i j n).tick = s.tick := by
  unfold State.causeOn; dsimp only; split <;> simp

@[simp] theorem State.setQ_drawn (s : State) (lo hi : Rg) (i v : Nat) : (s.setQ lo hi i v).drawn = s.drawn := by
  simp [State.setQ]
@[simp] theorem State.setQi_drawn (s : State) (lo hi : Rg) (i : Nat) (v : Int) : (s.setQi lo hi i v).drawn = s.drawn := by
  simp [State.setQi]
@[simp] theorem State.causeOn_drawn (s : State) (a b : Fld) (i j n : Nat) : (s.causeOn a b i j n).drawn = s.drawn := by
  unfold State.causeOn; dsimp only; split <;> simp

@[simp] theorem State.setQ_sys (s : State) (lo hi : Rg) (i v : Nat) : (s.setQ lo hi i v).sys = s.sys := by
  simp [State.setQ]
@[simp] theorem State.setQi_sys (s : State) (lo hi : Rg) (i : Nat) (v : Int) : (s.setQi lo hi i v).sys = s.sys := by
  simp [State.setQi]
@[simp] theorem State.causeOn_sys (s : State) (a b : Fld) (i j n : Nat) : (s.causeOn a b i j n).sys = s.sys := by
  unfold State.causeOn; dsimp only; split <;> simp

@[simp] theorem State.setQ_harts (s : State) (lo hi : Rg) (i v : Nat) : (s.setQ lo hi i v).harts = s.harts := by
  simp [State.setQ]
@[simp] theorem State.setQi_harts (s : State) (lo hi : Rg) (i : Nat) (v : Int) : (s.setQi lo hi i v).harts = s.harts := by
  simp [State.setQi]
@[simp] theorem State.causeOn_harts (s : State) (a b : Fld) (i j n : Nat) : (s.causeOn a b i j n).harts = s.harts := by
  unfold State.causeOn; dsimp only; split <;> simp

@[simp] theorem State.setQ_images (s : State) (lo hi : Rg) (i v : Nat) : (s.setQ lo hi i v).images = s.images := by
  simp [State.setQ]
@[simp] theorem State.setQi_images (s : State) (lo hi : Rg) (i : Nat) (v : Int) : (s.setQi lo hi i v).images = s.images := by
  simp [State.setQi]
@[simp] theorem State.causeOn_images (s : State) (a b : Fld) (i j n : Nat) : (s.causeOn a b i j n).images = s.images := by
  unfold State.causeOn; dsimp only; split <;> simp

@[simp] theorem State.setQ_lpe (s : State) (lo hi : Rg) (i v : Nat) : (s.setQ lo hi i v).lpe = s.lpe := by
  simp [State.setQ]
@[simp] theorem State.setQi_lpe (s : State) (lo hi : Rg) (i : Nat) (v : Int) : (s.setQi lo hi i v).lpe = s.lpe := by
  simp [State.setQi]
@[simp] theorem State.causeOn_lpe (s : State) (a b : Fld) (i j n : Nat) : (s.causeOn a b i j n).lpe = s.lpe := by
  unfold State.causeOn; dsimp only; split <;> simp

@[simp] theorem State.setQ_cln (s : State) (lo hi : Rg) (i v : Nat) : (s.setQ lo hi i v).cln = s.cln := by
  simp [State.setQ]
@[simp] theorem State.setQi_cln (s : State) (lo hi : Rg) (i : Nat) (v : Int) : (s.setQi lo hi i v).cln = s.cln := by
  simp [State.setQi]
@[simp] theorem State.causeOn_cln (s : State) (a b : Fld) (i j n : Nat) : (s.causeOn a b i j n).cln = s.cln := by
  unfold State.causeOn; dsimp only; split <;> simp

@[simp] theorem State.setQ_prt (s : State) (lo hi : Rg) (i v : Nat) : (s.setQ lo hi i v).prt = s.prt := by
  simp [State.setQ]
@[simp] theorem State.setQi_prt (s : State) (lo hi : Rg) (i : Nat) (v : Int) : (s.setQi lo hi i v).prt = s.prt := by
  simp [State.setQi]
@[simp] theorem State.causeOn_prt (s : State) (a b : Fld) (i j n : Nat) : (s.causeOn a b i j n).prt = s.prt := by
  unfold State.causeOn; dsimp only; split <;> simp

@[simp] theorem State.setQ_veh (s : State) (lo hi : Rg) (i v : Nat) : (s.setQ lo hi i v).veh = s.veh := by
  simp [State.setQ]
@[simp] theorem State.setQi_veh (s : State) (lo hi : Rg) (i : Nat) (v : Int) : (s.setQi lo hi i v).veh = s.veh := by
  simp [State.setQi]
@[simp] theorem State.causeOn_veh (s : State) (a b : Fld) (i j n : Nat) : (s.causeOn a b i j n).veh = s.veh := by
  unfold State.causeOn; dsimp only; split <;> simp

@[simp] theorem State.setQ_alc (s : State) (lo hi : Rg) (i v : Nat) : (s.setQ lo hi i v).alc = s.alc := by
  simp [State.setQ]
@[simp] theorem State.setQi_alc (s : State) (lo hi : Rg) (i : Nat) (v : Int) : (s.setQi lo hi i v).alc = s.alc := by
  simp [State.setQi]
@[simp] theorem State.causeOn_alc (s : State) (a b : Fld) (i j n : Nat) : (s.causeOn a b i j n).alc = s.alc := by
  unfold State.causeOn; dsimp only; split <;> simp

@[simp] theorem State.setQ_thm (s : State) (lo hi : Rg) (i v : Nat) : (s.setQ lo hi i v).thm = s.thm := by
  simp [State.setQ]
@[simp] theorem State.setQi_thm (s : State) (lo hi : Rg) (i : Nat) (v : Int) : (s.setQi lo hi i v).thm = s.thm := by
  simp [State.setQi]
@[simp] theorem State.causeOn_thm (s : State) (a b : Fld) (i j n : Nat) : (s.causeOn a b i j n).thm = s.thm := by
  unfold State.causeOn; dsimp only; split <;> simp

@[simp] theorem State.setQ_mtr (s : State) (lo hi : Rg) (i v : Nat) : (s.setQ lo hi i v).mtr = s.mtr := by
  simp [State.setQ]
@[simp] theorem State.setQi_mtr (s : State) (lo hi : Rg) (i : Nat) (v : Int) : (s.setQi lo hi i v).mtr = s.mtr := by
  simp [State.setQi]
@[simp] theorem State.causeOn_mtr (s : State) (a b : Fld) (i j n : Nat) : (s.causeOn a b i j n).mtr = s.mtr := by
  unfold State.causeOn; dsimp only; split <;> simp

@[simp] theorem State.setQ_bil (s : State) (lo hi : Rg) (i v : Nat) : (s.setQ lo hi i v).bil = s.bil := by
  simp [State.setQ]
@[simp] theorem State.setQi_bil (s : State) (lo hi : Rg) (i : Nat) (v : Int) : (s.setQi lo hi i v).bil = s.bil := by
  simp [State.setQi]
@[simp] theorem State.causeOn_bil (s : State) (a b : Fld) (i j n : Nat) : (s.causeOn a b i j n).bil = s.bil := by
  unfold State.causeOn; dsimp only; split <;> simp

@[simp] theorem State.setQ_sig (s : State) (lo hi : Rg) (i v : Nat) : (s.setQ lo hi i v).sig = s.sig := by
  simp [State.setQ]
@[simp] theorem State.setQi_sig (s : State) (lo hi : Rg) (i : Nat) (v : Int) : (s.setQi lo hi i v).sig = s.sig := by
  simp [State.setQi]
@[simp] theorem State.causeOn_sig (s : State) (a b : Fld) (i j n : Nat) : (s.causeOn a b i j n).sig = s.sig := by
  unfold State.causeOn; dsimp only; split <;> simp

@[simp] theorem State.setQ_sfy (s : State) (lo hi : Rg) (i v : Nat) : (s.setQ lo hi i v).sfy = s.sfy := by
  simp [State.setQ]
@[simp] theorem State.setQi_sfy (s : State) (lo hi : Rg) (i : Nat) (v : Int) : (s.setQi lo hi i v).sfy = s.sfy := by
  simp [State.setQi]
@[simp] theorem State.causeOn_sfy (s : State) (a b : Fld) (i j n : Nat) : (s.causeOn a b i j n).sfy = s.sfy := by
  unfold State.causeOn; dsimp only; split <;> simp

@[simp] theorem State.setQ_rng (s : State) (lo hi : Rg) (i v : Nat) : (s.setQ lo hi i v).rng = s.rng := by
  simp [State.setQ]
@[simp] theorem State.setQi_rng (s : State) (lo hi : Rg) (i : Nat) (v : Int) : (s.setQi lo hi i v).rng = s.rng := by
  simp [State.setQi]
@[simp] theorem State.causeOn_rng (s : State) (a b : Fld) (i j n : Nat) : (s.causeOn a b i j n).rng = s.rng := by
  unfold State.causeOn; dsimp only; split <;> simp

@[simp] theorem State.setQ_est (s : State) (lo hi : Rg) (i v : Nat) : (s.setQ lo hi i v).est = s.est := by
  simp [State.setQ]
@[simp] theorem State.setQi_est (s : State) (lo hi : Rg) (i : Nat) (v : Int) : (s.setQi lo hi i v).est = s.est := by
  simp [State.setQi]
@[simp] theorem State.causeOn_est (s : State) (a b : Fld) (i j n : Nat) : (s.causeOn a b i j n).est = s.est := by
  unfold State.causeOn; dsimp only; split <;> simp

@[simp] theorem State.setQ_lsw (s : State) (lo hi : Rg) (i v : Nat) : (s.setQ lo hi i v).lsw = s.lsw := by
  simp [State.setQ]
@[simp] theorem State.setQi_lsw (s : State) (lo hi : Rg) (i : Nat) (v : Int) : (s.setQi lo hi i v).lsw = s.lsw := by
  simp [State.setQi]
@[simp] theorem State.causeOn_lsw (s : State) (a b : Fld) (i j n : Nat) : (s.causeOn a b i j n).lsw = s.lsw := by
  unfold State.causeOn; dsimp only; split <;> simp

@[simp] theorem State.setQ_time (s : State) (lo hi : Rg) (i v : Nat) : (s.setQ lo hi i v).time = s.time := by
  simp [State.setQ]
@[simp] theorem State.setQi_time (s : State) (lo hi : Rg) (i : Nat) (v : Int) : (s.setQi lo hi i v).time = s.time := by
  simp [State.setQi]
@[simp] theorem State.causeOn_time (s : State) (a b : Fld) (i j n : Nat) : (s.causeOn a b i j n).time = s.time := by
  unfold State.causeOn; dsimp only; split <;> simp

@[simp] theorem State.setQ_host (s : State) (lo hi : Rg) (i v : Nat) : (s.setQ lo hi i v).host = s.host := by
  simp [State.setQ]
@[simp] theorem State.setQi_host (s : State) (lo hi : Rg) (i : Nat) (v : Int) : (s.setQi lo hi i v).host = s.host := by
  simp [State.setQi]
@[simp] theorem State.causeOn_host (s : State) (a b : Fld) (i j n : Nat) : (s.causeOn a b i j n).host = s.host := by
  unfold State.causeOn; dsimp only; split <;> simp

@[simp] theorem State.setQ_eth (s : State) (lo hi : Rg) (i v : Nat) : (s.setQ lo hi i v).eth = s.eth := by
  simp [State.setQ]
@[simp] theorem State.setQi_eth (s : State) (lo hi : Rg) (i : Nat) (v : Int) : (s.setQi lo hi i v).eth = s.eth := by
  simp [State.setQi]
@[simp] theorem State.causeOn_eth (s : State) (a b : Fld) (i j n : Nat) : (s.causeOn a b i j n).eth = s.eth := by
  unfold State.causeOn; dsimp only; split <;> simp

@[simp] theorem State.setQ_sto (s : State) (lo hi : Rg) (i v : Nat) : (s.setQ lo hi i v).sto = s.sto := by
  simp [State.setQ]
@[simp] theorem State.setQi_sto (s : State) (lo hi : Rg) (i : Nat) (v : Int) : (s.setQi lo hi i v).sto = s.sto := by
  simp [State.setQi]
@[simp] theorem State.causeOn_sto (s : State) (a b : Fld) (i j n : Nat) : (s.causeOn a b i j n).sto = s.sto := by
  unfold State.causeOn; dsimp only; split <;> simp

@[simp] theorem State.setQ_cans (s : State) (lo hi : Rg) (i v : Nat) : (s.setQ lo hi i v).cans = s.cans := by
  simp [State.setQ]
@[simp] theorem State.setQi_cans (s : State) (lo hi : Rg) (i : Nat) (v : Int) : (s.setQi lo hi i v).cans = s.cans := by
  simp [State.setQi]
@[simp] theorem State.causeOn_cans (s : State) (a b : Fld) (i j n : Nat) : (s.causeOn a b i j n).cans = s.cans := by
  unfold State.causeOn; dsimp only; split <;> simp

@[simp] theorem State.setQ_dkl (s : State) (lo hi : Rg) (i v : Nat) : (s.setQ lo hi i v).dkl = s.dkl := by
  simp [State.setQ]
@[simp] theorem State.setQi_dkl (s : State) (lo hi : Rg) (i : Nat) (v : Int) : (s.setQi lo hi i v).dkl = s.dkl := by
  simp [State.setQi]
@[simp] theorem State.causeOn_dkl (s : State) (a b : Fld) (i j n : Nat) : (s.causeOn a b i j n).dkl = s.dkl := by
  unfold State.causeOn; dsimp only; split <;> simp

@[simp] theorem State.setQ_pending (s : State) (lo hi : Rg) (i v : Nat) : (s.setQ lo hi i v).pending = s.pending := by
  simp [State.setQ]
@[simp] theorem State.setQi_pending (s : State) (lo hi : Rg) (i : Nat) (v : Int) : (s.setQi lo hi i v).pending = s.pending := by
  simp [State.setQi]
@[simp] theorem State.causeOn_pending (s : State) (a b : Fld) (i j n : Nat) : (s.causeOn a b i j n).pending = s.pending := by
  unfold State.causeOn; dsimp only; split <;> simp

/-! ### Updates beside the registers -/

@[simp] theorem State.setByte_regs (s : State) (a : Nat) (v : Byte) : (s.setByte a v).regs = s.regs := rfl
@[simp] theorem State.setByte_latches (s : State) (a : Nat) (v : Byte) : (s.setByte a v).latches = s.latches := rfl
@[simp] theorem State.setByte_holds (s : State) (a : Nat) (v : Byte) : (s.setByte a v).holds = s.holds := rfl
@[simp] theorem State.setByte_readData (s : State) (a : Nat) (v : Byte) : (s.setByte a v).readData = s.readData := rfl
@[simp] theorem State.setByte_busError (s : State) (a : Nat) (v : Byte) : (s.setByte a v).busError = s.busError := rfl
@[simp] theorem State.setByte_tick (s : State) (a : Nat) (v : Byte) : (s.setByte a v).tick = s.tick := rfl
@[simp] theorem State.setByte_drawn (s : State) (a : Nat) (v : Byte) : (s.setByte a v).drawn = s.drawn := rfl
@[simp] theorem State.setByte_sys (s : State) (a : Nat) (v : Byte) : (s.setByte a v).sys = s.sys := rfl
@[simp] theorem State.setByte_harts (s : State) (a : Nat) (v : Byte) : (s.setByte a v).harts = s.harts := rfl
@[simp] theorem State.setByte_images (s : State) (a : Nat) (v : Byte) : (s.setByte a v).images = s.images := rfl
@[simp] theorem State.setByte_lpe (s : State) (a : Nat) (v : Byte) : (s.setByte a v).lpe = s.lpe := rfl
@[simp] theorem State.setByte_cln (s : State) (a : Nat) (v : Byte) : (s.setByte a v).cln = s.cln := rfl
@[simp] theorem State.setByte_prt (s : State) (a : Nat) (v : Byte) : (s.setByte a v).prt = s.prt := rfl
@[simp] theorem State.setByte_veh (s : State) (a : Nat) (v : Byte) : (s.setByte a v).veh = s.veh := rfl
@[simp] theorem State.setByte_alc (s : State) (a : Nat) (v : Byte) : (s.setByte a v).alc = s.alc := rfl
@[simp] theorem State.setByte_thm (s : State) (a : Nat) (v : Byte) : (s.setByte a v).thm = s.thm := rfl
@[simp] theorem State.setByte_mtr (s : State) (a : Nat) (v : Byte) : (s.setByte a v).mtr = s.mtr := rfl
@[simp] theorem State.setByte_bil (s : State) (a : Nat) (v : Byte) : (s.setByte a v).bil = s.bil := rfl
@[simp] theorem State.setByte_sig (s : State) (a : Nat) (v : Byte) : (s.setByte a v).sig = s.sig := rfl
@[simp] theorem State.setByte_sfy (s : State) (a : Nat) (v : Byte) : (s.setByte a v).sfy = s.sfy := rfl
@[simp] theorem State.setByte_rng (s : State) (a : Nat) (v : Byte) : (s.setByte a v).rng = s.rng := rfl
@[simp] theorem State.setByte_est (s : State) (a : Nat) (v : Byte) : (s.setByte a v).est = s.est := rfl
@[simp] theorem State.setByte_lsw (s : State) (a : Nat) (v : Byte) : (s.setByte a v).lsw = s.lsw := rfl
@[simp] theorem State.setByte_time (s : State) (a : Nat) (v : Byte) : (s.setByte a v).time = s.time := rfl
@[simp] theorem State.setByte_host (s : State) (a : Nat) (v : Byte) : (s.setByte a v).host = s.host := rfl
@[simp] theorem State.setByte_eth (s : State) (a : Nat) (v : Byte) : (s.setByte a v).eth = s.eth := rfl
@[simp] theorem State.setByte_sto (s : State) (a : Nat) (v : Byte) : (s.setByte a v).sto = s.sto := rfl
@[simp] theorem State.setByte_cans (s : State) (a : Nat) (v : Byte) : (s.setByte a v).cans = s.cans := rfl
@[simp] theorem State.setByte_dkl (s : State) (a : Nat) (v : Byte) : (s.setByte a v).dkl = s.dkl := rfl
@[simp] theorem State.setByte_pending (s : State) (a : Nat) (v : Byte) : (s.setByte a v).pending = s.pending := rfl
@[simp] theorem State.setByte_reg (s : State) (a : Nat) (v : Byte) (r : Rg) (j : Nat) : (s.setByte a v).reg r j = s.reg r j := rfl
@[simp] theorem State.setByte_f (s : State) (a : Nat) (v : Byte) (fl : Fld) (j : Nat) : (s.setByte a v).f fl j = s.f fl j := rfl

@[simp] theorem State.queued_regs (s : State) (c : Instr) : (s.queued c).regs = s.regs := rfl
@[simp] theorem State.queued_mem (s : State) (c : Instr) : (s.queued c).mem = s.mem := rfl
@[simp] theorem State.queued_latches (s : State) (c : Instr) : (s.queued c).latches = s.latches := rfl
@[simp] theorem State.queued_holds (s : State) (c : Instr) : (s.queued c).holds = s.holds := rfl
@[simp] theorem State.queued_readData (s : State) (c : Instr) : (s.queued c).readData = s.readData := rfl
@[simp] theorem State.queued_busError (s : State) (c : Instr) : (s.queued c).busError = s.busError := rfl
@[simp] theorem State.queued_tick (s : State) (c : Instr) : (s.queued c).tick = s.tick := rfl
@[simp] theorem State.queued_drawn (s : State) (c : Instr) : (s.queued c).drawn = s.drawn := rfl
@[simp] theorem State.queued_sys (s : State) (c : Instr) : (s.queued c).sys = s.sys := rfl
@[simp] theorem State.queued_harts (s : State) (c : Instr) : (s.queued c).harts = s.harts := rfl
@[simp] theorem State.queued_images (s : State) (c : Instr) : (s.queued c).images = s.images := rfl
@[simp] theorem State.queued_lpe (s : State) (c : Instr) : (s.queued c).lpe = s.lpe := rfl
@[simp] theorem State.queued_cln (s : State) (c : Instr) : (s.queued c).cln = s.cln := rfl
@[simp] theorem State.queued_prt (s : State) (c : Instr) : (s.queued c).prt = s.prt := rfl
@[simp] theorem State.queued_veh (s : State) (c : Instr) : (s.queued c).veh = s.veh := rfl
@[simp] theorem State.queued_alc (s : State) (c : Instr) : (s.queued c).alc = s.alc := rfl
@[simp] theorem State.queued_thm (s : State) (c : Instr) : (s.queued c).thm = s.thm := rfl
@[simp] theorem State.queued_mtr (s : State) (c : Instr) : (s.queued c).mtr = s.mtr := rfl
@[simp] theorem State.queued_bil (s : State) (c : Instr) : (s.queued c).bil = s.bil := rfl
@[simp] theorem State.queued_sig (s : State) (c : Instr) : (s.queued c).sig = s.sig := rfl
@[simp] theorem State.queued_sfy (s : State) (c : Instr) : (s.queued c).sfy = s.sfy := rfl
@[simp] theorem State.queued_rng (s : State) (c : Instr) : (s.queued c).rng = s.rng := rfl
@[simp] theorem State.queued_est (s : State) (c : Instr) : (s.queued c).est = s.est := rfl
@[simp] theorem State.queued_lsw (s : State) (c : Instr) : (s.queued c).lsw = s.lsw := rfl
@[simp] theorem State.queued_time (s : State) (c : Instr) : (s.queued c).time = s.time := rfl
@[simp] theorem State.queued_host (s : State) (c : Instr) : (s.queued c).host = s.host := rfl
@[simp] theorem State.queued_eth (s : State) (c : Instr) : (s.queued c).eth = s.eth := rfl
@[simp] theorem State.queued_sto (s : State) (c : Instr) : (s.queued c).sto = s.sto := rfl
@[simp] theorem State.queued_cans (s : State) (c : Instr) : (s.queued c).cans = s.cans := rfl
@[simp] theorem State.queued_dkl (s : State) (c : Instr) : (s.queued c).dkl = s.dkl := rfl
@[simp] theorem State.queued_reg (s : State) (c : Instr) (r : Rg) (j : Nat) : (s.queued c).reg r j = s.reg r j := rfl
@[simp] theorem State.queued_f (s : State) (c : Instr) (fl : Fld) (j : Nat) : (s.queued c).f fl j = s.f fl j := rfl

@[simp] theorem State.setHart_regs (s : State) (n : Nat) (f : HartCtx → HartCtx) : (s.setHart n f).regs = s.regs := rfl
@[simp] theorem State.setHart_mem (s : State) (n : Nat) (f : HartCtx → HartCtx) : (s.setHart n f).mem = s.mem := rfl
@[simp] theorem State.setHart_latches (s : State) (n : Nat) (f : HartCtx → HartCtx) : (s.setHart n f).latches = s.latches := rfl
@[simp] theorem State.setHart_holds (s : State) (n : Nat) (f : HartCtx → HartCtx) : (s.setHart n f).holds = s.holds := rfl
@[simp] theorem State.setHart_readData (s : State) (n : Nat) (f : HartCtx → HartCtx) : (s.setHart n f).readData = s.readData := rfl
@[simp] theorem State.setHart_busError (s : State) (n : Nat) (f : HartCtx → HartCtx) : (s.setHart n f).busError = s.busError := rfl
@[simp] theorem State.setHart_tick (s : State) (n : Nat) (f : HartCtx → HartCtx) : (s.setHart n f).tick = s.tick := rfl
@[simp] theorem State.setHart_drawn (s : State) (n : Nat) (f : HartCtx → HartCtx) : (s.setHart n f).drawn = s.drawn := rfl
@[simp] theorem State.setHart_sys (s : State) (n : Nat) (f : HartCtx → HartCtx) : (s.setHart n f).sys = s.sys := rfl
@[simp] theorem State.setHart_images (s : State) (n : Nat) (f : HartCtx → HartCtx) : (s.setHart n f).images = s.images := rfl
@[simp] theorem State.setHart_lpe (s : State) (n : Nat) (f : HartCtx → HartCtx) : (s.setHart n f).lpe = s.lpe := rfl
@[simp] theorem State.setHart_cln (s : State) (n : Nat) (f : HartCtx → HartCtx) : (s.setHart n f).cln = s.cln := rfl
@[simp] theorem State.setHart_prt (s : State) (n : Nat) (f : HartCtx → HartCtx) : (s.setHart n f).prt = s.prt := rfl
@[simp] theorem State.setHart_veh (s : State) (n : Nat) (f : HartCtx → HartCtx) : (s.setHart n f).veh = s.veh := rfl
@[simp] theorem State.setHart_alc (s : State) (n : Nat) (f : HartCtx → HartCtx) : (s.setHart n f).alc = s.alc := rfl
@[simp] theorem State.setHart_thm (s : State) (n : Nat) (f : HartCtx → HartCtx) : (s.setHart n f).thm = s.thm := rfl
@[simp] theorem State.setHart_mtr (s : State) (n : Nat) (f : HartCtx → HartCtx) : (s.setHart n f).mtr = s.mtr := rfl
@[simp] theorem State.setHart_bil (s : State) (n : Nat) (f : HartCtx → HartCtx) : (s.setHart n f).bil = s.bil := rfl
@[simp] theorem State.setHart_sig (s : State) (n : Nat) (f : HartCtx → HartCtx) : (s.setHart n f).sig = s.sig := rfl
@[simp] theorem State.setHart_sfy (s : State) (n : Nat) (f : HartCtx → HartCtx) : (s.setHart n f).sfy = s.sfy := rfl
@[simp] theorem State.setHart_rng (s : State) (n : Nat) (f : HartCtx → HartCtx) : (s.setHart n f).rng = s.rng := rfl
@[simp] theorem State.setHart_est (s : State) (n : Nat) (f : HartCtx → HartCtx) : (s.setHart n f).est = s.est := rfl
@[simp] theorem State.setHart_lsw (s : State) (n : Nat) (f : HartCtx → HartCtx) : (s.setHart n f).lsw = s.lsw := rfl
@[simp] theorem State.setHart_time (s : State) (n : Nat) (f : HartCtx → HartCtx) : (s.setHart n f).time = s.time := rfl
@[simp] theorem State.setHart_host (s : State) (n : Nat) (f : HartCtx → HartCtx) : (s.setHart n f).host = s.host := rfl
@[simp] theorem State.setHart_eth (s : State) (n : Nat) (f : HartCtx → HartCtx) : (s.setHart n f).eth = s.eth := rfl
@[simp] theorem State.setHart_sto (s : State) (n : Nat) (f : HartCtx → HartCtx) : (s.setHart n f).sto = s.sto := rfl
@[simp] theorem State.setHart_cans (s : State) (n : Nat) (f : HartCtx → HartCtx) : (s.setHart n f).cans = s.cans := rfl
@[simp] theorem State.setHart_dkl (s : State) (n : Nat) (f : HartCtx → HartCtx) : (s.setHart n f).dkl = s.dkl := rfl
@[simp] theorem State.setHart_pending (s : State) (n : Nat) (f : HartCtx → HartCtx) : (s.setHart n f).pending = s.pending := rfl
@[simp] theorem State.setHart_reg (s : State) (n : Nat) (f : HartCtx → HartCtx) (r : Rg) (j : Nat) : (s.setHart n f).reg r j = s.reg r j := rfl
@[simp] theorem State.setHart_f (s : State) (n : Nat) (f : HartCtx → HartCtx) (fl : Fld) (j : Nat) : (s.setHart n f).f fl j = s.f fl j := rfl

@[simp] theorem State.setLg_regs (s : State) (n : Nat) (f : LpeGroup → LpeGroup) : (s.setLg n f).regs = s.regs := rfl
@[simp] theorem State.setLg_mem (s : State) (n : Nat) (f : LpeGroup → LpeGroup) : (s.setLg n f).mem = s.mem := rfl
@[simp] theorem State.setLg_latches (s : State) (n : Nat) (f : LpeGroup → LpeGroup) : (s.setLg n f).latches = s.latches := rfl
@[simp] theorem State.setLg_holds (s : State) (n : Nat) (f : LpeGroup → LpeGroup) : (s.setLg n f).holds = s.holds := rfl
@[simp] theorem State.setLg_readData (s : State) (n : Nat) (f : LpeGroup → LpeGroup) : (s.setLg n f).readData = s.readData := rfl
@[simp] theorem State.setLg_busError (s : State) (n : Nat) (f : LpeGroup → LpeGroup) : (s.setLg n f).busError = s.busError := rfl
@[simp] theorem State.setLg_tick (s : State) (n : Nat) (f : LpeGroup → LpeGroup) : (s.setLg n f).tick = s.tick := rfl
@[simp] theorem State.setLg_drawn (s : State) (n : Nat) (f : LpeGroup → LpeGroup) : (s.setLg n f).drawn = s.drawn := rfl
@[simp] theorem State.setLg_sys (s : State) (n : Nat) (f : LpeGroup → LpeGroup) : (s.setLg n f).sys = s.sys := rfl
@[simp] theorem State.setLg_harts (s : State) (n : Nat) (f : LpeGroup → LpeGroup) : (s.setLg n f).harts = s.harts := rfl
@[simp] theorem State.setLg_images (s : State) (n : Nat) (f : LpeGroup → LpeGroup) : (s.setLg n f).images = s.images := rfl
@[simp] theorem State.setLg_cln (s : State) (n : Nat) (f : LpeGroup → LpeGroup) : (s.setLg n f).cln = s.cln := rfl
@[simp] theorem State.setLg_prt (s : State) (n : Nat) (f : LpeGroup → LpeGroup) : (s.setLg n f).prt = s.prt := rfl
@[simp] theorem State.setLg_veh (s : State) (n : Nat) (f : LpeGroup → LpeGroup) : (s.setLg n f).veh = s.veh := rfl
@[simp] theorem State.setLg_alc (s : State) (n : Nat) (f : LpeGroup → LpeGroup) : (s.setLg n f).alc = s.alc := rfl
@[simp] theorem State.setLg_thm (s : State) (n : Nat) (f : LpeGroup → LpeGroup) : (s.setLg n f).thm = s.thm := rfl
@[simp] theorem State.setLg_mtr (s : State) (n : Nat) (f : LpeGroup → LpeGroup) : (s.setLg n f).mtr = s.mtr := rfl
@[simp] theorem State.setLg_bil (s : State) (n : Nat) (f : LpeGroup → LpeGroup) : (s.setLg n f).bil = s.bil := rfl
@[simp] theorem State.setLg_sig (s : State) (n : Nat) (f : LpeGroup → LpeGroup) : (s.setLg n f).sig = s.sig := rfl
@[simp] theorem State.setLg_sfy (s : State) (n : Nat) (f : LpeGroup → LpeGroup) : (s.setLg n f).sfy = s.sfy := rfl
@[simp] theorem State.setLg_rng (s : State) (n : Nat) (f : LpeGroup → LpeGroup) : (s.setLg n f).rng = s.rng := rfl
@[simp] theorem State.setLg_est (s : State) (n : Nat) (f : LpeGroup → LpeGroup) : (s.setLg n f).est = s.est := rfl
@[simp] theorem State.setLg_lsw (s : State) (n : Nat) (f : LpeGroup → LpeGroup) : (s.setLg n f).lsw = s.lsw := rfl
@[simp] theorem State.setLg_time (s : State) (n : Nat) (f : LpeGroup → LpeGroup) : (s.setLg n f).time = s.time := rfl
@[simp] theorem State.setLg_host (s : State) (n : Nat) (f : LpeGroup → LpeGroup) : (s.setLg n f).host = s.host := rfl
@[simp] theorem State.setLg_eth (s : State) (n : Nat) (f : LpeGroup → LpeGroup) : (s.setLg n f).eth = s.eth := rfl
@[simp] theorem State.setLg_sto (s : State) (n : Nat) (f : LpeGroup → LpeGroup) : (s.setLg n f).sto = s.sto := rfl
@[simp] theorem State.setLg_cans (s : State) (n : Nat) (f : LpeGroup → LpeGroup) : (s.setLg n f).cans = s.cans := rfl
@[simp] theorem State.setLg_dkl (s : State) (n : Nat) (f : LpeGroup → LpeGroup) : (s.setLg n f).dkl = s.dkl := rfl
@[simp] theorem State.setLg_pending (s : State) (n : Nat) (f : LpeGroup → LpeGroup) : (s.setLg n f).pending = s.pending := rfl
@[simp] theorem State.setLg_reg (s : State) (n : Nat) (f : LpeGroup → LpeGroup) (r : Rg) (j : Nat) : (s.setLg n f).reg r j = s.reg r j := rfl
@[simp] theorem State.setLg_f (s : State) (n : Nat) (f : LpeGroup → LpeGroup) (fl : Fld) (j : Nat) : (s.setLg n f).f fl j = s.f fl j := rfl

theorem State.lg_setLg_other (s : State) (n k : Nat) (f : LpeGroup → LpeGroup) (h : n ≠ k) : (s.setLg n f).lg k = s.lg k := by
  simp [State.lg, State.setLg, List.getD, List.getElem?_set_ne h]

@[simp] theorem State.setLb_regs (s : State) (n : Nat) (f : LpeBatch → LpeBatch) : (s.setLb n f).regs = s.regs := rfl
@[simp] theorem State.setLb_mem (s : State) (n : Nat) (f : LpeBatch → LpeBatch) : (s.setLb n f).mem = s.mem := rfl
@[simp] theorem State.setLb_latches (s : State) (n : Nat) (f : LpeBatch → LpeBatch) : (s.setLb n f).latches = s.latches := rfl
@[simp] theorem State.setLb_holds (s : State) (n : Nat) (f : LpeBatch → LpeBatch) : (s.setLb n f).holds = s.holds := rfl
@[simp] theorem State.setLb_readData (s : State) (n : Nat) (f : LpeBatch → LpeBatch) : (s.setLb n f).readData = s.readData := rfl
@[simp] theorem State.setLb_busError (s : State) (n : Nat) (f : LpeBatch → LpeBatch) : (s.setLb n f).busError = s.busError := rfl
@[simp] theorem State.setLb_tick (s : State) (n : Nat) (f : LpeBatch → LpeBatch) : (s.setLb n f).tick = s.tick := rfl
@[simp] theorem State.setLb_drawn (s : State) (n : Nat) (f : LpeBatch → LpeBatch) : (s.setLb n f).drawn = s.drawn := rfl
@[simp] theorem State.setLb_sys (s : State) (n : Nat) (f : LpeBatch → LpeBatch) : (s.setLb n f).sys = s.sys := rfl
@[simp] theorem State.setLb_harts (s : State) (n : Nat) (f : LpeBatch → LpeBatch) : (s.setLb n f).harts = s.harts := rfl
@[simp] theorem State.setLb_images (s : State) (n : Nat) (f : LpeBatch → LpeBatch) : (s.setLb n f).images = s.images := rfl
@[simp] theorem State.setLb_cln (s : State) (n : Nat) (f : LpeBatch → LpeBatch) : (s.setLb n f).cln = s.cln := rfl
@[simp] theorem State.setLb_prt (s : State) (n : Nat) (f : LpeBatch → LpeBatch) : (s.setLb n f).prt = s.prt := rfl
@[simp] theorem State.setLb_veh (s : State) (n : Nat) (f : LpeBatch → LpeBatch) : (s.setLb n f).veh = s.veh := rfl
@[simp] theorem State.setLb_alc (s : State) (n : Nat) (f : LpeBatch → LpeBatch) : (s.setLb n f).alc = s.alc := rfl
@[simp] theorem State.setLb_thm (s : State) (n : Nat) (f : LpeBatch → LpeBatch) : (s.setLb n f).thm = s.thm := rfl
@[simp] theorem State.setLb_mtr (s : State) (n : Nat) (f : LpeBatch → LpeBatch) : (s.setLb n f).mtr = s.mtr := rfl
@[simp] theorem State.setLb_bil (s : State) (n : Nat) (f : LpeBatch → LpeBatch) : (s.setLb n f).bil = s.bil := rfl
@[simp] theorem State.setLb_sig (s : State) (n : Nat) (f : LpeBatch → LpeBatch) : (s.setLb n f).sig = s.sig := rfl
@[simp] theorem State.setLb_sfy (s : State) (n : Nat) (f : LpeBatch → LpeBatch) : (s.setLb n f).sfy = s.sfy := rfl
@[simp] theorem State.setLb_rng (s : State) (n : Nat) (f : LpeBatch → LpeBatch) : (s.setLb n f).rng = s.rng := rfl
@[simp] theorem State.setLb_est (s : State) (n : Nat) (f : LpeBatch → LpeBatch) : (s.setLb n f).est = s.est := rfl
@[simp] theorem State.setLb_lsw (s : State) (n : Nat) (f : LpeBatch → LpeBatch) : (s.setLb n f).lsw = s.lsw := rfl
@[simp] theorem State.setLb_time (s : State) (n : Nat) (f : LpeBatch → LpeBatch) : (s.setLb n f).time = s.time := rfl
@[simp] theorem State.setLb_host (s : State) (n : Nat) (f : LpeBatch → LpeBatch) : (s.setLb n f).host = s.host := rfl
@[simp] theorem State.setLb_eth (s : State) (n : Nat) (f : LpeBatch → LpeBatch) : (s.setLb n f).eth = s.eth := rfl
@[simp] theorem State.setLb_sto (s : State) (n : Nat) (f : LpeBatch → LpeBatch) : (s.setLb n f).sto = s.sto := rfl
@[simp] theorem State.setLb_cans (s : State) (n : Nat) (f : LpeBatch → LpeBatch) : (s.setLb n f).cans = s.cans := rfl
@[simp] theorem State.setLb_dkl (s : State) (n : Nat) (f : LpeBatch → LpeBatch) : (s.setLb n f).dkl = s.dkl := rfl
@[simp] theorem State.setLb_pending (s : State) (n : Nat) (f : LpeBatch → LpeBatch) : (s.setLb n f).pending = s.pending := rfl
@[simp] theorem State.setLb_reg (s : State) (n : Nat) (f : LpeBatch → LpeBatch) (r : Rg) (j : Nat) : (s.setLb n f).reg r j = s.reg r j := rfl
@[simp] theorem State.setLb_f (s : State) (n : Nat) (f : LpeBatch → LpeBatch) (fl : Fld) (j : Nat) : (s.setLb n f).f fl j = s.f fl j := rfl

theorem State.lb_setLb_other (s : State) (n k : Nat) (f : LpeBatch → LpeBatch) (h : n ≠ k) : (s.setLb n f).lb k = s.lb k := by
  simp [State.lb, State.setLb, List.getD, List.getElem?_set_ne h]

@[simp] theorem State.setLn_regs (s : State) (n : Nat) (f : LaneLink → LaneLink) : (s.setLn n f).regs = s.regs := rfl
@[simp] theorem State.setLn_mem (s : State) (n : Nat) (f : LaneLink → LaneLink) : (s.setLn n f).mem = s.mem := rfl
@[simp] theorem State.setLn_latches (s : State) (n : Nat) (f : LaneLink → LaneLink) : (s.setLn n f).latches = s.latches := rfl
@[simp] theorem State.setLn_holds (s : State) (n : Nat) (f : LaneLink → LaneLink) : (s.setLn n f).holds = s.holds := rfl
@[simp] theorem State.setLn_readData (s : State) (n : Nat) (f : LaneLink → LaneLink) : (s.setLn n f).readData = s.readData := rfl
@[simp] theorem State.setLn_busError (s : State) (n : Nat) (f : LaneLink → LaneLink) : (s.setLn n f).busError = s.busError := rfl
@[simp] theorem State.setLn_tick (s : State) (n : Nat) (f : LaneLink → LaneLink) : (s.setLn n f).tick = s.tick := rfl
@[simp] theorem State.setLn_drawn (s : State) (n : Nat) (f : LaneLink → LaneLink) : (s.setLn n f).drawn = s.drawn := rfl
@[simp] theorem State.setLn_sys (s : State) (n : Nat) (f : LaneLink → LaneLink) : (s.setLn n f).sys = s.sys := rfl
@[simp] theorem State.setLn_harts (s : State) (n : Nat) (f : LaneLink → LaneLink) : (s.setLn n f).harts = s.harts := rfl
@[simp] theorem State.setLn_images (s : State) (n : Nat) (f : LaneLink → LaneLink) : (s.setLn n f).images = s.images := rfl
@[simp] theorem State.setLn_lpe (s : State) (n : Nat) (f : LaneLink → LaneLink) : (s.setLn n f).lpe = s.lpe := rfl
@[simp] theorem State.setLn_prt (s : State) (n : Nat) (f : LaneLink → LaneLink) : (s.setLn n f).prt = s.prt := rfl
@[simp] theorem State.setLn_veh (s : State) (n : Nat) (f : LaneLink → LaneLink) : (s.setLn n f).veh = s.veh := rfl
@[simp] theorem State.setLn_alc (s : State) (n : Nat) (f : LaneLink → LaneLink) : (s.setLn n f).alc = s.alc := rfl
@[simp] theorem State.setLn_thm (s : State) (n : Nat) (f : LaneLink → LaneLink) : (s.setLn n f).thm = s.thm := rfl
@[simp] theorem State.setLn_mtr (s : State) (n : Nat) (f : LaneLink → LaneLink) : (s.setLn n f).mtr = s.mtr := rfl
@[simp] theorem State.setLn_bil (s : State) (n : Nat) (f : LaneLink → LaneLink) : (s.setLn n f).bil = s.bil := rfl
@[simp] theorem State.setLn_sig (s : State) (n : Nat) (f : LaneLink → LaneLink) : (s.setLn n f).sig = s.sig := rfl
@[simp] theorem State.setLn_sfy (s : State) (n : Nat) (f : LaneLink → LaneLink) : (s.setLn n f).sfy = s.sfy := rfl
@[simp] theorem State.setLn_rng (s : State) (n : Nat) (f : LaneLink → LaneLink) : (s.setLn n f).rng = s.rng := rfl
@[simp] theorem State.setLn_est (s : State) (n : Nat) (f : LaneLink → LaneLink) : (s.setLn n f).est = s.est := rfl
@[simp] theorem State.setLn_lsw (s : State) (n : Nat) (f : LaneLink → LaneLink) : (s.setLn n f).lsw = s.lsw := rfl
@[simp] theorem State.setLn_time (s : State) (n : Nat) (f : LaneLink → LaneLink) : (s.setLn n f).time = s.time := rfl
@[simp] theorem State.setLn_host (s : State) (n : Nat) (f : LaneLink → LaneLink) : (s.setLn n f).host = s.host := rfl
@[simp] theorem State.setLn_eth (s : State) (n : Nat) (f : LaneLink → LaneLink) : (s.setLn n f).eth = s.eth := rfl
@[simp] theorem State.setLn_sto (s : State) (n : Nat) (f : LaneLink → LaneLink) : (s.setLn n f).sto = s.sto := rfl
@[simp] theorem State.setLn_cans (s : State) (n : Nat) (f : LaneLink → LaneLink) : (s.setLn n f).cans = s.cans := rfl
@[simp] theorem State.setLn_dkl (s : State) (n : Nat) (f : LaneLink → LaneLink) : (s.setLn n f).dkl = s.dkl := rfl
@[simp] theorem State.setLn_pending (s : State) (n : Nat) (f : LaneLink → LaneLink) : (s.setLn n f).pending = s.pending := rfl
@[simp] theorem State.setLn_reg (s : State) (n : Nat) (f : LaneLink → LaneLink) (r : Rg) (j : Nat) : (s.setLn n f).reg r j = s.reg r j := rfl
@[simp] theorem State.setLn_f (s : State) (n : Nat) (f : LaneLink → LaneLink) (fl : Fld) (j : Nat) : (s.setLn n f).f fl j = s.f fl j := rfl

theorem State.ln_setLn_other (s : State) (n k : Nat) (f : LaneLink → LaneLink) (h : n ≠ k) : (s.setLn n f).ln k = s.ln k := by
  simp [State.ln, State.setLn, List.getD, List.getElem?_set_ne h]

@[simp] theorem State.setPg_regs (s : State) (n : Nat) (f : PrtGroup → PrtGroup) : (s.setPg n f).regs = s.regs := rfl
@[simp] theorem State.setPg_mem (s : State) (n : Nat) (f : PrtGroup → PrtGroup) : (s.setPg n f).mem = s.mem := rfl
@[simp] theorem State.setPg_latches (s : State) (n : Nat) (f : PrtGroup → PrtGroup) : (s.setPg n f).latches = s.latches := rfl
@[simp] theorem State.setPg_holds (s : State) (n : Nat) (f : PrtGroup → PrtGroup) : (s.setPg n f).holds = s.holds := rfl
@[simp] theorem State.setPg_readData (s : State) (n : Nat) (f : PrtGroup → PrtGroup) : (s.setPg n f).readData = s.readData := rfl
@[simp] theorem State.setPg_busError (s : State) (n : Nat) (f : PrtGroup → PrtGroup) : (s.setPg n f).busError = s.busError := rfl
@[simp] theorem State.setPg_tick (s : State) (n : Nat) (f : PrtGroup → PrtGroup) : (s.setPg n f).tick = s.tick := rfl
@[simp] theorem State.setPg_drawn (s : State) (n : Nat) (f : PrtGroup → PrtGroup) : (s.setPg n f).drawn = s.drawn := rfl
@[simp] theorem State.setPg_sys (s : State) (n : Nat) (f : PrtGroup → PrtGroup) : (s.setPg n f).sys = s.sys := rfl
@[simp] theorem State.setPg_harts (s : State) (n : Nat) (f : PrtGroup → PrtGroup) : (s.setPg n f).harts = s.harts := rfl
@[simp] theorem State.setPg_images (s : State) (n : Nat) (f : PrtGroup → PrtGroup) : (s.setPg n f).images = s.images := rfl
@[simp] theorem State.setPg_lpe (s : State) (n : Nat) (f : PrtGroup → PrtGroup) : (s.setPg n f).lpe = s.lpe := rfl
@[simp] theorem State.setPg_cln (s : State) (n : Nat) (f : PrtGroup → PrtGroup) : (s.setPg n f).cln = s.cln := rfl
@[simp] theorem State.setPg_veh (s : State) (n : Nat) (f : PrtGroup → PrtGroup) : (s.setPg n f).veh = s.veh := rfl
@[simp] theorem State.setPg_alc (s : State) (n : Nat) (f : PrtGroup → PrtGroup) : (s.setPg n f).alc = s.alc := rfl
@[simp] theorem State.setPg_thm (s : State) (n : Nat) (f : PrtGroup → PrtGroup) : (s.setPg n f).thm = s.thm := rfl
@[simp] theorem State.setPg_mtr (s : State) (n : Nat) (f : PrtGroup → PrtGroup) : (s.setPg n f).mtr = s.mtr := rfl
@[simp] theorem State.setPg_bil (s : State) (n : Nat) (f : PrtGroup → PrtGroup) : (s.setPg n f).bil = s.bil := rfl
@[simp] theorem State.setPg_sig (s : State) (n : Nat) (f : PrtGroup → PrtGroup) : (s.setPg n f).sig = s.sig := rfl
@[simp] theorem State.setPg_sfy (s : State) (n : Nat) (f : PrtGroup → PrtGroup) : (s.setPg n f).sfy = s.sfy := rfl
@[simp] theorem State.setPg_rng (s : State) (n : Nat) (f : PrtGroup → PrtGroup) : (s.setPg n f).rng = s.rng := rfl
@[simp] theorem State.setPg_est (s : State) (n : Nat) (f : PrtGroup → PrtGroup) : (s.setPg n f).est = s.est := rfl
@[simp] theorem State.setPg_lsw (s : State) (n : Nat) (f : PrtGroup → PrtGroup) : (s.setPg n f).lsw = s.lsw := rfl
@[simp] theorem State.setPg_time (s : State) (n : Nat) (f : PrtGroup → PrtGroup) : (s.setPg n f).time = s.time := rfl
@[simp] theorem State.setPg_host (s : State) (n : Nat) (f : PrtGroup → PrtGroup) : (s.setPg n f).host = s.host := rfl
@[simp] theorem State.setPg_eth (s : State) (n : Nat) (f : PrtGroup → PrtGroup) : (s.setPg n f).eth = s.eth := rfl
@[simp] theorem State.setPg_sto (s : State) (n : Nat) (f : PrtGroup → PrtGroup) : (s.setPg n f).sto = s.sto := rfl
@[simp] theorem State.setPg_cans (s : State) (n : Nat) (f : PrtGroup → PrtGroup) : (s.setPg n f).cans = s.cans := rfl
@[simp] theorem State.setPg_dkl (s : State) (n : Nat) (f : PrtGroup → PrtGroup) : (s.setPg n f).dkl = s.dkl := rfl
@[simp] theorem State.setPg_pending (s : State) (n : Nat) (f : PrtGroup → PrtGroup) : (s.setPg n f).pending = s.pending := rfl
@[simp] theorem State.setPg_reg (s : State) (n : Nat) (f : PrtGroup → PrtGroup) (r : Rg) (j : Nat) : (s.setPg n f).reg r j = s.reg r j := rfl
@[simp] theorem State.setPg_f (s : State) (n : Nat) (f : PrtGroup → PrtGroup) (fl : Fld) (j : Nat) : (s.setPg n f).f fl j = s.f fl j := rfl

theorem State.pg_setPg_other (s : State) (n k : Nat) (f : PrtGroup → PrtGroup) (h : n ≠ k) : (s.setPg n f).pg k = s.pg k := by
  simp [State.pg, State.setPg, List.getD, List.getElem?_set_ne h]

@[simp] theorem State.setSes_regs (s : State) (n : Nat) (f : Session → Session) : (s.setSes n f).regs = s.regs := rfl
@[simp] theorem State.setSes_mem (s : State) (n : Nat) (f : Session → Session) : (s.setSes n f).mem = s.mem := rfl
@[simp] theorem State.setSes_latches (s : State) (n : Nat) (f : Session → Session) : (s.setSes n f).latches = s.latches := rfl
@[simp] theorem State.setSes_holds (s : State) (n : Nat) (f : Session → Session) : (s.setSes n f).holds = s.holds := rfl
@[simp] theorem State.setSes_readData (s : State) (n : Nat) (f : Session → Session) : (s.setSes n f).readData = s.readData := rfl
@[simp] theorem State.setSes_busError (s : State) (n : Nat) (f : Session → Session) : (s.setSes n f).busError = s.busError := rfl
@[simp] theorem State.setSes_tick (s : State) (n : Nat) (f : Session → Session) : (s.setSes n f).tick = s.tick := rfl
@[simp] theorem State.setSes_drawn (s : State) (n : Nat) (f : Session → Session) : (s.setSes n f).drawn = s.drawn := rfl
@[simp] theorem State.setSes_sys (s : State) (n : Nat) (f : Session → Session) : (s.setSes n f).sys = s.sys := rfl
@[simp] theorem State.setSes_harts (s : State) (n : Nat) (f : Session → Session) : (s.setSes n f).harts = s.harts := rfl
@[simp] theorem State.setSes_images (s : State) (n : Nat) (f : Session → Session) : (s.setSes n f).images = s.images := rfl
@[simp] theorem State.setSes_lpe (s : State) (n : Nat) (f : Session → Session) : (s.setSes n f).lpe = s.lpe := rfl
@[simp] theorem State.setSes_cln (s : State) (n : Nat) (f : Session → Session) : (s.setSes n f).cln = s.cln := rfl
@[simp] theorem State.setSes_prt (s : State) (n : Nat) (f : Session → Session) : (s.setSes n f).prt = s.prt := rfl
@[simp] theorem State.setSes_alc (s : State) (n : Nat) (f : Session → Session) : (s.setSes n f).alc = s.alc := rfl
@[simp] theorem State.setSes_thm (s : State) (n : Nat) (f : Session → Session) : (s.setSes n f).thm = s.thm := rfl
@[simp] theorem State.setSes_mtr (s : State) (n : Nat) (f : Session → Session) : (s.setSes n f).mtr = s.mtr := rfl
@[simp] theorem State.setSes_bil (s : State) (n : Nat) (f : Session → Session) : (s.setSes n f).bil = s.bil := rfl
@[simp] theorem State.setSes_sig (s : State) (n : Nat) (f : Session → Session) : (s.setSes n f).sig = s.sig := rfl
@[simp] theorem State.setSes_sfy (s : State) (n : Nat) (f : Session → Session) : (s.setSes n f).sfy = s.sfy := rfl
@[simp] theorem State.setSes_rng (s : State) (n : Nat) (f : Session → Session) : (s.setSes n f).rng = s.rng := rfl
@[simp] theorem State.setSes_est (s : State) (n : Nat) (f : Session → Session) : (s.setSes n f).est = s.est := rfl
@[simp] theorem State.setSes_lsw (s : State) (n : Nat) (f : Session → Session) : (s.setSes n f).lsw = s.lsw := rfl
@[simp] theorem State.setSes_time (s : State) (n : Nat) (f : Session → Session) : (s.setSes n f).time = s.time := rfl
@[simp] theorem State.setSes_host (s : State) (n : Nat) (f : Session → Session) : (s.setSes n f).host = s.host := rfl
@[simp] theorem State.setSes_eth (s : State) (n : Nat) (f : Session → Session) : (s.setSes n f).eth = s.eth := rfl
@[simp] theorem State.setSes_sto (s : State) (n : Nat) (f : Session → Session) : (s.setSes n f).sto = s.sto := rfl
@[simp] theorem State.setSes_cans (s : State) (n : Nat) (f : Session → Session) : (s.setSes n f).cans = s.cans := rfl
@[simp] theorem State.setSes_dkl (s : State) (n : Nat) (f : Session → Session) : (s.setSes n f).dkl = s.dkl := rfl
@[simp] theorem State.setSes_pending (s : State) (n : Nat) (f : Session → Session) : (s.setSes n f).pending = s.pending := rfl
@[simp] theorem State.setSes_reg (s : State) (n : Nat) (f : Session → Session) (r : Rg) (j : Nat) : (s.setSes n f).reg r j = s.reg r j := rfl
@[simp] theorem State.setSes_f (s : State) (n : Nat) (f : Session → Session) (fl : Fld) (j : Nat) : (s.setSes n f).f fl j = s.f fl j := rfl

theorem State.ses_setSes_other (s : State) (n k : Nat) (f : Session → Session) (h : n ≠ k) : (s.setSes n f).ses k = s.ses k := by
  simp [State.ses, State.setSes, List.getD, List.getElem?_set_ne h]

@[simp] theorem State.setFe_regs (s : State) (n : Nat) (f : FrontEnd → FrontEnd) : (s.setFe n f).regs = s.regs := rfl
@[simp] theorem State.setFe_mem (s : State) (n : Nat) (f : FrontEnd → FrontEnd) : (s.setFe n f).mem = s.mem := rfl
@[simp] theorem State.setFe_latches (s : State) (n : Nat) (f : FrontEnd → FrontEnd) : (s.setFe n f).latches = s.latches := rfl
@[simp] theorem State.setFe_holds (s : State) (n : Nat) (f : FrontEnd → FrontEnd) : (s.setFe n f).holds = s.holds := rfl
@[simp] theorem State.setFe_readData (s : State) (n : Nat) (f : FrontEnd → FrontEnd) : (s.setFe n f).readData = s.readData := rfl
@[simp] theorem State.setFe_busError (s : State) (n : Nat) (f : FrontEnd → FrontEnd) : (s.setFe n f).busError = s.busError := rfl
@[simp] theorem State.setFe_tick (s : State) (n : Nat) (f : FrontEnd → FrontEnd) : (s.setFe n f).tick = s.tick := rfl
@[simp] theorem State.setFe_drawn (s : State) (n : Nat) (f : FrontEnd → FrontEnd) : (s.setFe n f).drawn = s.drawn := rfl
@[simp] theorem State.setFe_sys (s : State) (n : Nat) (f : FrontEnd → FrontEnd) : (s.setFe n f).sys = s.sys := rfl
@[simp] theorem State.setFe_harts (s : State) (n : Nat) (f : FrontEnd → FrontEnd) : (s.setFe n f).harts = s.harts := rfl
@[simp] theorem State.setFe_images (s : State) (n : Nat) (f : FrontEnd → FrontEnd) : (s.setFe n f).images = s.images := rfl
@[simp] theorem State.setFe_lpe (s : State) (n : Nat) (f : FrontEnd → FrontEnd) : (s.setFe n f).lpe = s.lpe := rfl
@[simp] theorem State.setFe_cln (s : State) (n : Nat) (f : FrontEnd → FrontEnd) : (s.setFe n f).cln = s.cln := rfl
@[simp] theorem State.setFe_prt (s : State) (n : Nat) (f : FrontEnd → FrontEnd) : (s.setFe n f).prt = s.prt := rfl
@[simp] theorem State.setFe_alc (s : State) (n : Nat) (f : FrontEnd → FrontEnd) : (s.setFe n f).alc = s.alc := rfl
@[simp] theorem State.setFe_thm (s : State) (n : Nat) (f : FrontEnd → FrontEnd) : (s.setFe n f).thm = s.thm := rfl
@[simp] theorem State.setFe_mtr (s : State) (n : Nat) (f : FrontEnd → FrontEnd) : (s.setFe n f).mtr = s.mtr := rfl
@[simp] theorem State.setFe_bil (s : State) (n : Nat) (f : FrontEnd → FrontEnd) : (s.setFe n f).bil = s.bil := rfl
@[simp] theorem State.setFe_sig (s : State) (n : Nat) (f : FrontEnd → FrontEnd) : (s.setFe n f).sig = s.sig := rfl
@[simp] theorem State.setFe_sfy (s : State) (n : Nat) (f : FrontEnd → FrontEnd) : (s.setFe n f).sfy = s.sfy := rfl
@[simp] theorem State.setFe_rng (s : State) (n : Nat) (f : FrontEnd → FrontEnd) : (s.setFe n f).rng = s.rng := rfl
@[simp] theorem State.setFe_est (s : State) (n : Nat) (f : FrontEnd → FrontEnd) : (s.setFe n f).est = s.est := rfl
@[simp] theorem State.setFe_lsw (s : State) (n : Nat) (f : FrontEnd → FrontEnd) : (s.setFe n f).lsw = s.lsw := rfl
@[simp] theorem State.setFe_time (s : State) (n : Nat) (f : FrontEnd → FrontEnd) : (s.setFe n f).time = s.time := rfl
@[simp] theorem State.setFe_host (s : State) (n : Nat) (f : FrontEnd → FrontEnd) : (s.setFe n f).host = s.host := rfl
@[simp] theorem State.setFe_eth (s : State) (n : Nat) (f : FrontEnd → FrontEnd) : (s.setFe n f).eth = s.eth := rfl
@[simp] theorem State.setFe_sto (s : State) (n : Nat) (f : FrontEnd → FrontEnd) : (s.setFe n f).sto = s.sto := rfl
@[simp] theorem State.setFe_cans (s : State) (n : Nat) (f : FrontEnd → FrontEnd) : (s.setFe n f).cans = s.cans := rfl
@[simp] theorem State.setFe_dkl (s : State) (n : Nat) (f : FrontEnd → FrontEnd) : (s.setFe n f).dkl = s.dkl := rfl
@[simp] theorem State.setFe_pending (s : State) (n : Nat) (f : FrontEnd → FrontEnd) : (s.setFe n f).pending = s.pending := rfl
@[simp] theorem State.setFe_reg (s : State) (n : Nat) (f : FrontEnd → FrontEnd) (r : Rg) (j : Nat) : (s.setFe n f).reg r j = s.reg r j := rfl
@[simp] theorem State.setFe_f (s : State) (n : Nat) (f : FrontEnd → FrontEnd) (fl : Fld) (j : Nat) : (s.setFe n f).f fl j = s.f fl j := rfl

theorem State.fe_setFe_other (s : State) (n k : Nat) (f : FrontEnd → FrontEnd) (h : n ≠ k) : (s.setFe n f).fe k = s.fe k := by
  simp [State.fe, State.setFe, List.getD, List.getElem?_set_ne h]

@[simp] theorem State.setSen_regs (s : State) (n : Nat) (f : Sensor → Sensor) : (s.setSen n f).regs = s.regs := rfl
@[simp] theorem State.setSen_mem (s : State) (n : Nat) (f : Sensor → Sensor) : (s.setSen n f).mem = s.mem := rfl
@[simp] theorem State.setSen_latches (s : State) (n : Nat) (f : Sensor → Sensor) : (s.setSen n f).latches = s.latches := rfl
@[simp] theorem State.setSen_holds (s : State) (n : Nat) (f : Sensor → Sensor) : (s.setSen n f).holds = s.holds := rfl
@[simp] theorem State.setSen_readData (s : State) (n : Nat) (f : Sensor → Sensor) : (s.setSen n f).readData = s.readData := rfl
@[simp] theorem State.setSen_busError (s : State) (n : Nat) (f : Sensor → Sensor) : (s.setSen n f).busError = s.busError := rfl
@[simp] theorem State.setSen_tick (s : State) (n : Nat) (f : Sensor → Sensor) : (s.setSen n f).tick = s.tick := rfl
@[simp] theorem State.setSen_drawn (s : State) (n : Nat) (f : Sensor → Sensor) : (s.setSen n f).drawn = s.drawn := rfl
@[simp] theorem State.setSen_sys (s : State) (n : Nat) (f : Sensor → Sensor) : (s.setSen n f).sys = s.sys := rfl
@[simp] theorem State.setSen_harts (s : State) (n : Nat) (f : Sensor → Sensor) : (s.setSen n f).harts = s.harts := rfl
@[simp] theorem State.setSen_images (s : State) (n : Nat) (f : Sensor → Sensor) : (s.setSen n f).images = s.images := rfl
@[simp] theorem State.setSen_lpe (s : State) (n : Nat) (f : Sensor → Sensor) : (s.setSen n f).lpe = s.lpe := rfl
@[simp] theorem State.setSen_cln (s : State) (n : Nat) (f : Sensor → Sensor) : (s.setSen n f).cln = s.cln := rfl
@[simp] theorem State.setSen_prt (s : State) (n : Nat) (f : Sensor → Sensor) : (s.setSen n f).prt = s.prt := rfl
@[simp] theorem State.setSen_veh (s : State) (n : Nat) (f : Sensor → Sensor) : (s.setSen n f).veh = s.veh := rfl
@[simp] theorem State.setSen_alc (s : State) (n : Nat) (f : Sensor → Sensor) : (s.setSen n f).alc = s.alc := rfl
@[simp] theorem State.setSen_mtr (s : State) (n : Nat) (f : Sensor → Sensor) : (s.setSen n f).mtr = s.mtr := rfl
@[simp] theorem State.setSen_bil (s : State) (n : Nat) (f : Sensor → Sensor) : (s.setSen n f).bil = s.bil := rfl
@[simp] theorem State.setSen_sig (s : State) (n : Nat) (f : Sensor → Sensor) : (s.setSen n f).sig = s.sig := rfl
@[simp] theorem State.setSen_sfy (s : State) (n : Nat) (f : Sensor → Sensor) : (s.setSen n f).sfy = s.sfy := rfl
@[simp] theorem State.setSen_rng (s : State) (n : Nat) (f : Sensor → Sensor) : (s.setSen n f).rng = s.rng := rfl
@[simp] theorem State.setSen_est (s : State) (n : Nat) (f : Sensor → Sensor) : (s.setSen n f).est = s.est := rfl
@[simp] theorem State.setSen_lsw (s : State) (n : Nat) (f : Sensor → Sensor) : (s.setSen n f).lsw = s.lsw := rfl
@[simp] theorem State.setSen_time (s : State) (n : Nat) (f : Sensor → Sensor) : (s.setSen n f).time = s.time := rfl
@[simp] theorem State.setSen_host (s : State) (n : Nat) (f : Sensor → Sensor) : (s.setSen n f).host = s.host := rfl
@[simp] theorem State.setSen_eth (s : State) (n : Nat) (f : Sensor → Sensor) : (s.setSen n f).eth = s.eth := rfl
@[simp] theorem State.setSen_sto (s : State) (n : Nat) (f : Sensor → Sensor) : (s.setSen n f).sto = s.sto := rfl
@[simp] theorem State.setSen_cans (s : State) (n : Nat) (f : Sensor → Sensor) : (s.setSen n f).cans = s.cans := rfl
@[simp] theorem State.setSen_dkl (s : State) (n : Nat) (f : Sensor → Sensor) : (s.setSen n f).dkl = s.dkl := rfl
@[simp] theorem State.setSen_pending (s : State) (n : Nat) (f : Sensor → Sensor) : (s.setSen n f).pending = s.pending := rfl
@[simp] theorem State.setSen_reg (s : State) (n : Nat) (f : Sensor → Sensor) (r : Rg) (j : Nat) : (s.setSen n f).reg r j = s.reg r j := rfl
@[simp] theorem State.setSen_f (s : State) (n : Nat) (f : Sensor → Sensor) (fl : Fld) (j : Nat) : (s.setSen n f).f fl j = s.f fl j := rfl

theorem State.sen_setSen_other (s : State) (n k : Nat) (f : Sensor → Sensor) (h : n ≠ k) : (s.setSen n f).sen k = s.sen k := by
  simp [State.sen, State.setSen, List.getD, List.getElem?_set_ne h]

@[simp] theorem State.setTp_regs (s : State) (n : Nat) (f : ThmPort → ThmPort) : (s.setTp n f).regs = s.regs := rfl
@[simp] theorem State.setTp_mem (s : State) (n : Nat) (f : ThmPort → ThmPort) : (s.setTp n f).mem = s.mem := rfl
@[simp] theorem State.setTp_latches (s : State) (n : Nat) (f : ThmPort → ThmPort) : (s.setTp n f).latches = s.latches := rfl
@[simp] theorem State.setTp_holds (s : State) (n : Nat) (f : ThmPort → ThmPort) : (s.setTp n f).holds = s.holds := rfl
@[simp] theorem State.setTp_readData (s : State) (n : Nat) (f : ThmPort → ThmPort) : (s.setTp n f).readData = s.readData := rfl
@[simp] theorem State.setTp_busError (s : State) (n : Nat) (f : ThmPort → ThmPort) : (s.setTp n f).busError = s.busError := rfl
@[simp] theorem State.setTp_tick (s : State) (n : Nat) (f : ThmPort → ThmPort) : (s.setTp n f).tick = s.tick := rfl
@[simp] theorem State.setTp_drawn (s : State) (n : Nat) (f : ThmPort → ThmPort) : (s.setTp n f).drawn = s.drawn := rfl
@[simp] theorem State.setTp_sys (s : State) (n : Nat) (f : ThmPort → ThmPort) : (s.setTp n f).sys = s.sys := rfl
@[simp] theorem State.setTp_harts (s : State) (n : Nat) (f : ThmPort → ThmPort) : (s.setTp n f).harts = s.harts := rfl
@[simp] theorem State.setTp_images (s : State) (n : Nat) (f : ThmPort → ThmPort) : (s.setTp n f).images = s.images := rfl
@[simp] theorem State.setTp_lpe (s : State) (n : Nat) (f : ThmPort → ThmPort) : (s.setTp n f).lpe = s.lpe := rfl
@[simp] theorem State.setTp_cln (s : State) (n : Nat) (f : ThmPort → ThmPort) : (s.setTp n f).cln = s.cln := rfl
@[simp] theorem State.setTp_prt (s : State) (n : Nat) (f : ThmPort → ThmPort) : (s.setTp n f).prt = s.prt := rfl
@[simp] theorem State.setTp_veh (s : State) (n : Nat) (f : ThmPort → ThmPort) : (s.setTp n f).veh = s.veh := rfl
@[simp] theorem State.setTp_alc (s : State) (n : Nat) (f : ThmPort → ThmPort) : (s.setTp n f).alc = s.alc := rfl
@[simp] theorem State.setTp_mtr (s : State) (n : Nat) (f : ThmPort → ThmPort) : (s.setTp n f).mtr = s.mtr := rfl
@[simp] theorem State.setTp_bil (s : State) (n : Nat) (f : ThmPort → ThmPort) : (s.setTp n f).bil = s.bil := rfl
@[simp] theorem State.setTp_sig (s : State) (n : Nat) (f : ThmPort → ThmPort) : (s.setTp n f).sig = s.sig := rfl
@[simp] theorem State.setTp_sfy (s : State) (n : Nat) (f : ThmPort → ThmPort) : (s.setTp n f).sfy = s.sfy := rfl
@[simp] theorem State.setTp_rng (s : State) (n : Nat) (f : ThmPort → ThmPort) : (s.setTp n f).rng = s.rng := rfl
@[simp] theorem State.setTp_est (s : State) (n : Nat) (f : ThmPort → ThmPort) : (s.setTp n f).est = s.est := rfl
@[simp] theorem State.setTp_lsw (s : State) (n : Nat) (f : ThmPort → ThmPort) : (s.setTp n f).lsw = s.lsw := rfl
@[simp] theorem State.setTp_time (s : State) (n : Nat) (f : ThmPort → ThmPort) : (s.setTp n f).time = s.time := rfl
@[simp] theorem State.setTp_host (s : State) (n : Nat) (f : ThmPort → ThmPort) : (s.setTp n f).host = s.host := rfl
@[simp] theorem State.setTp_eth (s : State) (n : Nat) (f : ThmPort → ThmPort) : (s.setTp n f).eth = s.eth := rfl
@[simp] theorem State.setTp_sto (s : State) (n : Nat) (f : ThmPort → ThmPort) : (s.setTp n f).sto = s.sto := rfl
@[simp] theorem State.setTp_cans (s : State) (n : Nat) (f : ThmPort → ThmPort) : (s.setTp n f).cans = s.cans := rfl
@[simp] theorem State.setTp_dkl (s : State) (n : Nat) (f : ThmPort → ThmPort) : (s.setTp n f).dkl = s.dkl := rfl
@[simp] theorem State.setTp_pending (s : State) (n : Nat) (f : ThmPort → ThmPort) : (s.setTp n f).pending = s.pending := rfl
@[simp] theorem State.setTp_reg (s : State) (n : Nat) (f : ThmPort → ThmPort) (r : Rg) (j : Nat) : (s.setTp n f).reg r j = s.reg r j := rfl
@[simp] theorem State.setTp_f (s : State) (n : Nat) (f : ThmPort → ThmPort) (fl : Fld) (j : Nat) : (s.setTp n f).f fl j = s.f fl j := rfl

theorem State.tp_setTp_other (s : State) (n k : Nat) (f : ThmPort → ThmPort) (h : n ≠ k) : (s.setTp n f).tp k = s.tp k := by
  simp [State.tp, State.setTp, List.getD, List.getElem?_set_ne h]

@[simp] theorem State.setMt_regs (s : State) (n : Nat) (f : Meter → Meter) : (s.setMt n f).regs = s.regs := rfl
@[simp] theorem State.setMt_mem (s : State) (n : Nat) (f : Meter → Meter) : (s.setMt n f).mem = s.mem := rfl
@[simp] theorem State.setMt_latches (s : State) (n : Nat) (f : Meter → Meter) : (s.setMt n f).latches = s.latches := rfl
@[simp] theorem State.setMt_holds (s : State) (n : Nat) (f : Meter → Meter) : (s.setMt n f).holds = s.holds := rfl
@[simp] theorem State.setMt_readData (s : State) (n : Nat) (f : Meter → Meter) : (s.setMt n f).readData = s.readData := rfl
@[simp] theorem State.setMt_busError (s : State) (n : Nat) (f : Meter → Meter) : (s.setMt n f).busError = s.busError := rfl
@[simp] theorem State.setMt_tick (s : State) (n : Nat) (f : Meter → Meter) : (s.setMt n f).tick = s.tick := rfl
@[simp] theorem State.setMt_drawn (s : State) (n : Nat) (f : Meter → Meter) : (s.setMt n f).drawn = s.drawn := rfl
@[simp] theorem State.setMt_sys (s : State) (n : Nat) (f : Meter → Meter) : (s.setMt n f).sys = s.sys := rfl
@[simp] theorem State.setMt_harts (s : State) (n : Nat) (f : Meter → Meter) : (s.setMt n f).harts = s.harts := rfl
@[simp] theorem State.setMt_images (s : State) (n : Nat) (f : Meter → Meter) : (s.setMt n f).images = s.images := rfl
@[simp] theorem State.setMt_lpe (s : State) (n : Nat) (f : Meter → Meter) : (s.setMt n f).lpe = s.lpe := rfl
@[simp] theorem State.setMt_cln (s : State) (n : Nat) (f : Meter → Meter) : (s.setMt n f).cln = s.cln := rfl
@[simp] theorem State.setMt_prt (s : State) (n : Nat) (f : Meter → Meter) : (s.setMt n f).prt = s.prt := rfl
@[simp] theorem State.setMt_veh (s : State) (n : Nat) (f : Meter → Meter) : (s.setMt n f).veh = s.veh := rfl
@[simp] theorem State.setMt_alc (s : State) (n : Nat) (f : Meter → Meter) : (s.setMt n f).alc = s.alc := rfl
@[simp] theorem State.setMt_thm (s : State) (n : Nat) (f : Meter → Meter) : (s.setMt n f).thm = s.thm := rfl
@[simp] theorem State.setMt_bil (s : State) (n : Nat) (f : Meter → Meter) : (s.setMt n f).bil = s.bil := rfl
@[simp] theorem State.setMt_sig (s : State) (n : Nat) (f : Meter → Meter) : (s.setMt n f).sig = s.sig := rfl
@[simp] theorem State.setMt_sfy (s : State) (n : Nat) (f : Meter → Meter) : (s.setMt n f).sfy = s.sfy := rfl
@[simp] theorem State.setMt_rng (s : State) (n : Nat) (f : Meter → Meter) : (s.setMt n f).rng = s.rng := rfl
@[simp] theorem State.setMt_est (s : State) (n : Nat) (f : Meter → Meter) : (s.setMt n f).est = s.est := rfl
@[simp] theorem State.setMt_lsw (s : State) (n : Nat) (f : Meter → Meter) : (s.setMt n f).lsw = s.lsw := rfl
@[simp] theorem State.setMt_time (s : State) (n : Nat) (f : Meter → Meter) : (s.setMt n f).time = s.time := rfl
@[simp] theorem State.setMt_host (s : State) (n : Nat) (f : Meter → Meter) : (s.setMt n f).host = s.host := rfl
@[simp] theorem State.setMt_eth (s : State) (n : Nat) (f : Meter → Meter) : (s.setMt n f).eth = s.eth := rfl
@[simp] theorem State.setMt_sto (s : State) (n : Nat) (f : Meter → Meter) : (s.setMt n f).sto = s.sto := rfl
@[simp] theorem State.setMt_cans (s : State) (n : Nat) (f : Meter → Meter) : (s.setMt n f).cans = s.cans := rfl
@[simp] theorem State.setMt_dkl (s : State) (n : Nat) (f : Meter → Meter) : (s.setMt n f).dkl = s.dkl := rfl
@[simp] theorem State.setMt_pending (s : State) (n : Nat) (f : Meter → Meter) : (s.setMt n f).pending = s.pending := rfl
@[simp] theorem State.setMt_reg (s : State) (n : Nat) (f : Meter → Meter) (r : Rg) (j : Nat) : (s.setMt n f).reg r j = s.reg r j := rfl
@[simp] theorem State.setMt_f (s : State) (n : Nat) (f : Meter → Meter) (fl : Fld) (j : Nat) : (s.setMt n f).f fl j = s.f fl j := rfl

theorem State.mt_setMt_other (s : State) (n k : Nat) (f : Meter → Meter) (h : n ≠ k) : (s.setMt n f).mt k = s.mt k := by
  simp [State.mt, State.setMt, List.getD, List.getElem?_set_ne h]

@[simp] theorem State.setSp_regs (s : State) (n : Nat) (f : SfyPort → SfyPort) : (s.setSp n f).regs = s.regs := rfl
@[simp] theorem State.setSp_mem (s : State) (n : Nat) (f : SfyPort → SfyPort) : (s.setSp n f).mem = s.mem := rfl
@[simp] theorem State.setSp_latches (s : State) (n : Nat) (f : SfyPort → SfyPort) : (s.setSp n f).latches = s.latches := rfl
@[simp] theorem State.setSp_holds (s : State) (n : Nat) (f : SfyPort → SfyPort) : (s.setSp n f).holds = s.holds := rfl
@[simp] theorem State.setSp_readData (s : State) (n : Nat) (f : SfyPort → SfyPort) : (s.setSp n f).readData = s.readData := rfl
@[simp] theorem State.setSp_busError (s : State) (n : Nat) (f : SfyPort → SfyPort) : (s.setSp n f).busError = s.busError := rfl
@[simp] theorem State.setSp_tick (s : State) (n : Nat) (f : SfyPort → SfyPort) : (s.setSp n f).tick = s.tick := rfl
@[simp] theorem State.setSp_drawn (s : State) (n : Nat) (f : SfyPort → SfyPort) : (s.setSp n f).drawn = s.drawn := rfl
@[simp] theorem State.setSp_sys (s : State) (n : Nat) (f : SfyPort → SfyPort) : (s.setSp n f).sys = s.sys := rfl
@[simp] theorem State.setSp_harts (s : State) (n : Nat) (f : SfyPort → SfyPort) : (s.setSp n f).harts = s.harts := rfl
@[simp] theorem State.setSp_images (s : State) (n : Nat) (f : SfyPort → SfyPort) : (s.setSp n f).images = s.images := rfl
@[simp] theorem State.setSp_lpe (s : State) (n : Nat) (f : SfyPort → SfyPort) : (s.setSp n f).lpe = s.lpe := rfl
@[simp] theorem State.setSp_cln (s : State) (n : Nat) (f : SfyPort → SfyPort) : (s.setSp n f).cln = s.cln := rfl
@[simp] theorem State.setSp_prt (s : State) (n : Nat) (f : SfyPort → SfyPort) : (s.setSp n f).prt = s.prt := rfl
@[simp] theorem State.setSp_veh (s : State) (n : Nat) (f : SfyPort → SfyPort) : (s.setSp n f).veh = s.veh := rfl
@[simp] theorem State.setSp_alc (s : State) (n : Nat) (f : SfyPort → SfyPort) : (s.setSp n f).alc = s.alc := rfl
@[simp] theorem State.setSp_thm (s : State) (n : Nat) (f : SfyPort → SfyPort) : (s.setSp n f).thm = s.thm := rfl
@[simp] theorem State.setSp_mtr (s : State) (n : Nat) (f : SfyPort → SfyPort) : (s.setSp n f).mtr = s.mtr := rfl
@[simp] theorem State.setSp_bil (s : State) (n : Nat) (f : SfyPort → SfyPort) : (s.setSp n f).bil = s.bil := rfl
@[simp] theorem State.setSp_sig (s : State) (n : Nat) (f : SfyPort → SfyPort) : (s.setSp n f).sig = s.sig := rfl
@[simp] theorem State.setSp_rng (s : State) (n : Nat) (f : SfyPort → SfyPort) : (s.setSp n f).rng = s.rng := rfl
@[simp] theorem State.setSp_est (s : State) (n : Nat) (f : SfyPort → SfyPort) : (s.setSp n f).est = s.est := rfl
@[simp] theorem State.setSp_lsw (s : State) (n : Nat) (f : SfyPort → SfyPort) : (s.setSp n f).lsw = s.lsw := rfl
@[simp] theorem State.setSp_time (s : State) (n : Nat) (f : SfyPort → SfyPort) : (s.setSp n f).time = s.time := rfl
@[simp] theorem State.setSp_host (s : State) (n : Nat) (f : SfyPort → SfyPort) : (s.setSp n f).host = s.host := rfl
@[simp] theorem State.setSp_eth (s : State) (n : Nat) (f : SfyPort → SfyPort) : (s.setSp n f).eth = s.eth := rfl
@[simp] theorem State.setSp_sto (s : State) (n : Nat) (f : SfyPort → SfyPort) : (s.setSp n f).sto = s.sto := rfl
@[simp] theorem State.setSp_cans (s : State) (n : Nat) (f : SfyPort → SfyPort) : (s.setSp n f).cans = s.cans := rfl
@[simp] theorem State.setSp_dkl (s : State) (n : Nat) (f : SfyPort → SfyPort) : (s.setSp n f).dkl = s.dkl := rfl
@[simp] theorem State.setSp_pending (s : State) (n : Nat) (f : SfyPort → SfyPort) : (s.setSp n f).pending = s.pending := rfl
@[simp] theorem State.setSp_reg (s : State) (n : Nat) (f : SfyPort → SfyPort) (r : Rg) (j : Nat) : (s.setSp n f).reg r j = s.reg r j := rfl
@[simp] theorem State.setSp_f (s : State) (n : Nat) (f : SfyPort → SfyPort) (fl : Fld) (j : Nat) : (s.setSp n f).f fl j = s.f fl j := rfl

theorem State.sp_setSp_other (s : State) (n k : Nat) (f : SfyPort → SfyPort) (h : n ≠ k) : (s.setSp n f).sp k = s.sp k := by
  simp [State.sp, State.setSp, List.getD, List.getElem?_set_ne h]

@[simp] theorem State.setRp_regs (s : State) (n : Nat) (f : RingPort → RingPort) : (s.setRp n f).regs = s.regs := rfl
@[simp] theorem State.setRp_mem (s : State) (n : Nat) (f : RingPort → RingPort) : (s.setRp n f).mem = s.mem := rfl
@[simp] theorem State.setRp_latches (s : State) (n : Nat) (f : RingPort → RingPort) : (s.setRp n f).latches = s.latches := rfl
@[simp] theorem State.setRp_holds (s : State) (n : Nat) (f : RingPort → RingPort) : (s.setRp n f).holds = s.holds := rfl
@[simp] theorem State.setRp_readData (s : State) (n : Nat) (f : RingPort → RingPort) : (s.setRp n f).readData = s.readData := rfl
@[simp] theorem State.setRp_busError (s : State) (n : Nat) (f : RingPort → RingPort) : (s.setRp n f).busError = s.busError := rfl
@[simp] theorem State.setRp_tick (s : State) (n : Nat) (f : RingPort → RingPort) : (s.setRp n f).tick = s.tick := rfl
@[simp] theorem State.setRp_drawn (s : State) (n : Nat) (f : RingPort → RingPort) : (s.setRp n f).drawn = s.drawn := rfl
@[simp] theorem State.setRp_sys (s : State) (n : Nat) (f : RingPort → RingPort) : (s.setRp n f).sys = s.sys := rfl
@[simp] theorem State.setRp_harts (s : State) (n : Nat) (f : RingPort → RingPort) : (s.setRp n f).harts = s.harts := rfl
@[simp] theorem State.setRp_images (s : State) (n : Nat) (f : RingPort → RingPort) : (s.setRp n f).images = s.images := rfl
@[simp] theorem State.setRp_lpe (s : State) (n : Nat) (f : RingPort → RingPort) : (s.setRp n f).lpe = s.lpe := rfl
@[simp] theorem State.setRp_cln (s : State) (n : Nat) (f : RingPort → RingPort) : (s.setRp n f).cln = s.cln := rfl
@[simp] theorem State.setRp_prt (s : State) (n : Nat) (f : RingPort → RingPort) : (s.setRp n f).prt = s.prt := rfl
@[simp] theorem State.setRp_veh (s : State) (n : Nat) (f : RingPort → RingPort) : (s.setRp n f).veh = s.veh := rfl
@[simp] theorem State.setRp_alc (s : State) (n : Nat) (f : RingPort → RingPort) : (s.setRp n f).alc = s.alc := rfl
@[simp] theorem State.setRp_thm (s : State) (n : Nat) (f : RingPort → RingPort) : (s.setRp n f).thm = s.thm := rfl
@[simp] theorem State.setRp_mtr (s : State) (n : Nat) (f : RingPort → RingPort) : (s.setRp n f).mtr = s.mtr := rfl
@[simp] theorem State.setRp_bil (s : State) (n : Nat) (f : RingPort → RingPort) : (s.setRp n f).bil = s.bil := rfl
@[simp] theorem State.setRp_sig (s : State) (n : Nat) (f : RingPort → RingPort) : (s.setRp n f).sig = s.sig := rfl
@[simp] theorem State.setRp_sfy (s : State) (n : Nat) (f : RingPort → RingPort) : (s.setRp n f).sfy = s.sfy := rfl
@[simp] theorem State.setRp_est (s : State) (n : Nat) (f : RingPort → RingPort) : (s.setRp n f).est = s.est := rfl
@[simp] theorem State.setRp_lsw (s : State) (n : Nat) (f : RingPort → RingPort) : (s.setRp n f).lsw = s.lsw := rfl
@[simp] theorem State.setRp_time (s : State) (n : Nat) (f : RingPort → RingPort) : (s.setRp n f).time = s.time := rfl
@[simp] theorem State.setRp_host (s : State) (n : Nat) (f : RingPort → RingPort) : (s.setRp n f).host = s.host := rfl
@[simp] theorem State.setRp_eth (s : State) (n : Nat) (f : RingPort → RingPort) : (s.setRp n f).eth = s.eth := rfl
@[simp] theorem State.setRp_sto (s : State) (n : Nat) (f : RingPort → RingPort) : (s.setRp n f).sto = s.sto := rfl
@[simp] theorem State.setRp_cans (s : State) (n : Nat) (f : RingPort → RingPort) : (s.setRp n f).cans = s.cans := rfl
@[simp] theorem State.setRp_dkl (s : State) (n : Nat) (f : RingPort → RingPort) : (s.setRp n f).dkl = s.dkl := rfl
@[simp] theorem State.setRp_pending (s : State) (n : Nat) (f : RingPort → RingPort) : (s.setRp n f).pending = s.pending := rfl
@[simp] theorem State.setRp_reg (s : State) (n : Nat) (f : RingPort → RingPort) (r : Rg) (j : Nat) : (s.setRp n f).reg r j = s.reg r j := rfl
@[simp] theorem State.setRp_f (s : State) (n : Nat) (f : RingPort → RingPort) (fl : Fld) (j : Nat) : (s.setRp n f).f fl j = s.f fl j := rfl

theorem State.rp_setRp_other (s : State) (n k : Nat) (f : RingPort → RingPort) (h : n ≠ k) : (s.setRp n f).rp k = s.rp k := by
  simp [State.rp, State.setRp, List.getD, List.getElem?_set_ne h]

@[simp] theorem State.setPk_regs (s : State) (n : Nat) (f : Pack → Pack) : (s.setPk n f).regs = s.regs := rfl
@[simp] theorem State.setPk_mem (s : State) (n : Nat) (f : Pack → Pack) : (s.setPk n f).mem = s.mem := rfl
@[simp] theorem State.setPk_latches (s : State) (n : Nat) (f : Pack → Pack) : (s.setPk n f).latches = s.latches := rfl
@[simp] theorem State.setPk_holds (s : State) (n : Nat) (f : Pack → Pack) : (s.setPk n f).holds = s.holds := rfl
@[simp] theorem State.setPk_readData (s : State) (n : Nat) (f : Pack → Pack) : (s.setPk n f).readData = s.readData := rfl
@[simp] theorem State.setPk_busError (s : State) (n : Nat) (f : Pack → Pack) : (s.setPk n f).busError = s.busError := rfl
@[simp] theorem State.setPk_tick (s : State) (n : Nat) (f : Pack → Pack) : (s.setPk n f).tick = s.tick := rfl
@[simp] theorem State.setPk_drawn (s : State) (n : Nat) (f : Pack → Pack) : (s.setPk n f).drawn = s.drawn := rfl
@[simp] theorem State.setPk_sys (s : State) (n : Nat) (f : Pack → Pack) : (s.setPk n f).sys = s.sys := rfl
@[simp] theorem State.setPk_harts (s : State) (n : Nat) (f : Pack → Pack) : (s.setPk n f).harts = s.harts := rfl
@[simp] theorem State.setPk_images (s : State) (n : Nat) (f : Pack → Pack) : (s.setPk n f).images = s.images := rfl
@[simp] theorem State.setPk_lpe (s : State) (n : Nat) (f : Pack → Pack) : (s.setPk n f).lpe = s.lpe := rfl
@[simp] theorem State.setPk_cln (s : State) (n : Nat) (f : Pack → Pack) : (s.setPk n f).cln = s.cln := rfl
@[simp] theorem State.setPk_prt (s : State) (n : Nat) (f : Pack → Pack) : (s.setPk n f).prt = s.prt := rfl
@[simp] theorem State.setPk_veh (s : State) (n : Nat) (f : Pack → Pack) : (s.setPk n f).veh = s.veh := rfl
@[simp] theorem State.setPk_alc (s : State) (n : Nat) (f : Pack → Pack) : (s.setPk n f).alc = s.alc := rfl
@[simp] theorem State.setPk_thm (s : State) (n : Nat) (f : Pack → Pack) : (s.setPk n f).thm = s.thm := rfl
@[simp] theorem State.setPk_mtr (s : State) (n : Nat) (f : Pack → Pack) : (s.setPk n f).mtr = s.mtr := rfl
@[simp] theorem State.setPk_bil (s : State) (n : Nat) (f : Pack → Pack) : (s.setPk n f).bil = s.bil := rfl
@[simp] theorem State.setPk_sig (s : State) (n : Nat) (f : Pack → Pack) : (s.setPk n f).sig = s.sig := rfl
@[simp] theorem State.setPk_sfy (s : State) (n : Nat) (f : Pack → Pack) : (s.setPk n f).sfy = s.sfy := rfl
@[simp] theorem State.setPk_rng (s : State) (n : Nat) (f : Pack → Pack) : (s.setPk n f).rng = s.rng := rfl
@[simp] theorem State.setPk_lsw (s : State) (n : Nat) (f : Pack → Pack) : (s.setPk n f).lsw = s.lsw := rfl
@[simp] theorem State.setPk_time (s : State) (n : Nat) (f : Pack → Pack) : (s.setPk n f).time = s.time := rfl
@[simp] theorem State.setPk_host (s : State) (n : Nat) (f : Pack → Pack) : (s.setPk n f).host = s.host := rfl
@[simp] theorem State.setPk_eth (s : State) (n : Nat) (f : Pack → Pack) : (s.setPk n f).eth = s.eth := rfl
@[simp] theorem State.setPk_sto (s : State) (n : Nat) (f : Pack → Pack) : (s.setPk n f).sto = s.sto := rfl
@[simp] theorem State.setPk_cans (s : State) (n : Nat) (f : Pack → Pack) : (s.setPk n f).cans = s.cans := rfl
@[simp] theorem State.setPk_dkl (s : State) (n : Nat) (f : Pack → Pack) : (s.setPk n f).dkl = s.dkl := rfl
@[simp] theorem State.setPk_pending (s : State) (n : Nat) (f : Pack → Pack) : (s.setPk n f).pending = s.pending := rfl
@[simp] theorem State.setPk_reg (s : State) (n : Nat) (f : Pack → Pack) (r : Rg) (j : Nat) : (s.setPk n f).reg r j = s.reg r j := rfl
@[simp] theorem State.setPk_f (s : State) (n : Nat) (f : Pack → Pack) (fl : Fld) (j : Nat) : (s.setPk n f).f fl j = s.f fl j := rfl

theorem State.pk_setPk_other (s : State) (n k : Nat) (f : Pack → Pack) (h : n ≠ k) : (s.setPk n f).pk k = s.pk k := by
  simp [State.pk, State.setPk, List.getD, List.getElem?_set_ne h]

@[simp] theorem State.setCh_regs (s : State) (n : Nat) (f : Channel → Channel) : (s.setCh n f).regs = s.regs := rfl
@[simp] theorem State.setCh_mem (s : State) (n : Nat) (f : Channel → Channel) : (s.setCh n f).mem = s.mem := rfl
@[simp] theorem State.setCh_latches (s : State) (n : Nat) (f : Channel → Channel) : (s.setCh n f).latches = s.latches := rfl
@[simp] theorem State.setCh_holds (s : State) (n : Nat) (f : Channel → Channel) : (s.setCh n f).holds = s.holds := rfl
@[simp] theorem State.setCh_readData (s : State) (n : Nat) (f : Channel → Channel) : (s.setCh n f).readData = s.readData := rfl
@[simp] theorem State.setCh_busError (s : State) (n : Nat) (f : Channel → Channel) : (s.setCh n f).busError = s.busError := rfl
@[simp] theorem State.setCh_tick (s : State) (n : Nat) (f : Channel → Channel) : (s.setCh n f).tick = s.tick := rfl
@[simp] theorem State.setCh_drawn (s : State) (n : Nat) (f : Channel → Channel) : (s.setCh n f).drawn = s.drawn := rfl
@[simp] theorem State.setCh_sys (s : State) (n : Nat) (f : Channel → Channel) : (s.setCh n f).sys = s.sys := rfl
@[simp] theorem State.setCh_harts (s : State) (n : Nat) (f : Channel → Channel) : (s.setCh n f).harts = s.harts := rfl
@[simp] theorem State.setCh_images (s : State) (n : Nat) (f : Channel → Channel) : (s.setCh n f).images = s.images := rfl
@[simp] theorem State.setCh_lpe (s : State) (n : Nat) (f : Channel → Channel) : (s.setCh n f).lpe = s.lpe := rfl
@[simp] theorem State.setCh_cln (s : State) (n : Nat) (f : Channel → Channel) : (s.setCh n f).cln = s.cln := rfl
@[simp] theorem State.setCh_prt (s : State) (n : Nat) (f : Channel → Channel) : (s.setCh n f).prt = s.prt := rfl
@[simp] theorem State.setCh_veh (s : State) (n : Nat) (f : Channel → Channel) : (s.setCh n f).veh = s.veh := rfl
@[simp] theorem State.setCh_alc (s : State) (n : Nat) (f : Channel → Channel) : (s.setCh n f).alc = s.alc := rfl
@[simp] theorem State.setCh_thm (s : State) (n : Nat) (f : Channel → Channel) : (s.setCh n f).thm = s.thm := rfl
@[simp] theorem State.setCh_mtr (s : State) (n : Nat) (f : Channel → Channel) : (s.setCh n f).mtr = s.mtr := rfl
@[simp] theorem State.setCh_bil (s : State) (n : Nat) (f : Channel → Channel) : (s.setCh n f).bil = s.bil := rfl
@[simp] theorem State.setCh_sig (s : State) (n : Nat) (f : Channel → Channel) : (s.setCh n f).sig = s.sig := rfl
@[simp] theorem State.setCh_sfy (s : State) (n : Nat) (f : Channel → Channel) : (s.setCh n f).sfy = s.sfy := rfl
@[simp] theorem State.setCh_rng (s : State) (n : Nat) (f : Channel → Channel) : (s.setCh n f).rng = s.rng := rfl
@[simp] theorem State.setCh_est (s : State) (n : Nat) (f : Channel → Channel) : (s.setCh n f).est = s.est := rfl
@[simp] theorem State.setCh_time (s : State) (n : Nat) (f : Channel → Channel) : (s.setCh n f).time = s.time := rfl
@[simp] theorem State.setCh_host (s : State) (n : Nat) (f : Channel → Channel) : (s.setCh n f).host = s.host := rfl
@[simp] theorem State.setCh_eth (s : State) (n : Nat) (f : Channel → Channel) : (s.setCh n f).eth = s.eth := rfl
@[simp] theorem State.setCh_sto (s : State) (n : Nat) (f : Channel → Channel) : (s.setCh n f).sto = s.sto := rfl
@[simp] theorem State.setCh_cans (s : State) (n : Nat) (f : Channel → Channel) : (s.setCh n f).cans = s.cans := rfl
@[simp] theorem State.setCh_dkl (s : State) (n : Nat) (f : Channel → Channel) : (s.setCh n f).dkl = s.dkl := rfl
@[simp] theorem State.setCh_pending (s : State) (n : Nat) (f : Channel → Channel) : (s.setCh n f).pending = s.pending := rfl
@[simp] theorem State.setCh_reg (s : State) (n : Nat) (f : Channel → Channel) (r : Rg) (j : Nat) : (s.setCh n f).reg r j = s.reg r j := rfl
@[simp] theorem State.setCh_f (s : State) (n : Nat) (f : Channel → Channel) (fl : Fld) (j : Nat) : (s.setCh n f).f fl j = s.f fl j := rfl

theorem State.ch_setCh_other (s : State) (n k : Nat) (f : Channel → Channel) (h : n ≠ k) : (s.setCh n f).ch k = s.ch k := by
  simp [State.ch, State.setCh, List.getD, List.getElem?_set_ne h]

@[simp] theorem State.setMac_regs (s : State) (n : Nat) (f : EthMac → EthMac) : (s.setMac n f).regs = s.regs := rfl
@[simp] theorem State.setMac_mem (s : State) (n : Nat) (f : EthMac → EthMac) : (s.setMac n f).mem = s.mem := rfl
@[simp] theorem State.setMac_latches (s : State) (n : Nat) (f : EthMac → EthMac) : (s.setMac n f).latches = s.latches := rfl
@[simp] theorem State.setMac_holds (s : State) (n : Nat) (f : EthMac → EthMac) : (s.setMac n f).holds = s.holds := rfl
@[simp] theorem State.setMac_readData (s : State) (n : Nat) (f : EthMac → EthMac) : (s.setMac n f).readData = s.readData := rfl
@[simp] theorem State.setMac_busError (s : State) (n : Nat) (f : EthMac → EthMac) : (s.setMac n f).busError = s.busError := rfl
@[simp] theorem State.setMac_tick (s : State) (n : Nat) (f : EthMac → EthMac) : (s.setMac n f).tick = s.tick := rfl
@[simp] theorem State.setMac_drawn (s : State) (n : Nat) (f : EthMac → EthMac) : (s.setMac n f).drawn = s.drawn := rfl
@[simp] theorem State.setMac_sys (s : State) (n : Nat) (f : EthMac → EthMac) : (s.setMac n f).sys = s.sys := rfl
@[simp] theorem State.setMac_harts (s : State) (n : Nat) (f : EthMac → EthMac) : (s.setMac n f).harts = s.harts := rfl
@[simp] theorem State.setMac_images (s : State) (n : Nat) (f : EthMac → EthMac) : (s.setMac n f).images = s.images := rfl
@[simp] theorem State.setMac_lpe (s : State) (n : Nat) (f : EthMac → EthMac) : (s.setMac n f).lpe = s.lpe := rfl
@[simp] theorem State.setMac_cln (s : State) (n : Nat) (f : EthMac → EthMac) : (s.setMac n f).cln = s.cln := rfl
@[simp] theorem State.setMac_prt (s : State) (n : Nat) (f : EthMac → EthMac) : (s.setMac n f).prt = s.prt := rfl
@[simp] theorem State.setMac_veh (s : State) (n : Nat) (f : EthMac → EthMac) : (s.setMac n f).veh = s.veh := rfl
@[simp] theorem State.setMac_alc (s : State) (n : Nat) (f : EthMac → EthMac) : (s.setMac n f).alc = s.alc := rfl
@[simp] theorem State.setMac_thm (s : State) (n : Nat) (f : EthMac → EthMac) : (s.setMac n f).thm = s.thm := rfl
@[simp] theorem State.setMac_mtr (s : State) (n : Nat) (f : EthMac → EthMac) : (s.setMac n f).mtr = s.mtr := rfl
@[simp] theorem State.setMac_bil (s : State) (n : Nat) (f : EthMac → EthMac) : (s.setMac n f).bil = s.bil := rfl
@[simp] theorem State.setMac_sig (s : State) (n : Nat) (f : EthMac → EthMac) : (s.setMac n f).sig = s.sig := rfl
@[simp] theorem State.setMac_sfy (s : State) (n : Nat) (f : EthMac → EthMac) : (s.setMac n f).sfy = s.sfy := rfl
@[simp] theorem State.setMac_rng (s : State) (n : Nat) (f : EthMac → EthMac) : (s.setMac n f).rng = s.rng := rfl
@[simp] theorem State.setMac_est (s : State) (n : Nat) (f : EthMac → EthMac) : (s.setMac n f).est = s.est := rfl
@[simp] theorem State.setMac_lsw (s : State) (n : Nat) (f : EthMac → EthMac) : (s.setMac n f).lsw = s.lsw := rfl
@[simp] theorem State.setMac_time (s : State) (n : Nat) (f : EthMac → EthMac) : (s.setMac n f).time = s.time := rfl
@[simp] theorem State.setMac_host (s : State) (n : Nat) (f : EthMac → EthMac) : (s.setMac n f).host = s.host := rfl
@[simp] theorem State.setMac_sto (s : State) (n : Nat) (f : EthMac → EthMac) : (s.setMac n f).sto = s.sto := rfl
@[simp] theorem State.setMac_cans (s : State) (n : Nat) (f : EthMac → EthMac) : (s.setMac n f).cans = s.cans := rfl
@[simp] theorem State.setMac_dkl (s : State) (n : Nat) (f : EthMac → EthMac) : (s.setMac n f).dkl = s.dkl := rfl
@[simp] theorem State.setMac_pending (s : State) (n : Nat) (f : EthMac → EthMac) : (s.setMac n f).pending = s.pending := rfl
@[simp] theorem State.setMac_reg (s : State) (n : Nat) (f : EthMac → EthMac) (r : Rg) (j : Nat) : (s.setMac n f).reg r j = s.reg r j := rfl
@[simp] theorem State.setMac_f (s : State) (n : Nat) (f : EthMac → EthMac) (fl : Fld) (j : Nat) : (s.setMac n f).f fl j = s.f fl j := rfl

theorem State.mac_setMac_other (s : State) (n k : Nat) (f : EthMac → EthMac) (h : n ≠ k) : (s.setMac n f).mac k = s.mac k := by
  simp [State.mac, State.setMac, List.getD, List.getElem?_set_ne h]

@[simp] theorem State.setLink_regs (s : State) (n : Nat) (f : DklLink → DklLink) : (s.setLink n f).regs = s.regs := rfl
@[simp] theorem State.setLink_mem (s : State) (n : Nat) (f : DklLink → DklLink) : (s.setLink n f).mem = s.mem := rfl
@[simp] theorem State.setLink_latches (s : State) (n : Nat) (f : DklLink → DklLink) : (s.setLink n f).latches = s.latches := rfl
@[simp] theorem State.setLink_holds (s : State) (n : Nat) (f : DklLink → DklLink) : (s.setLink n f).holds = s.holds := rfl
@[simp] theorem State.setLink_readData (s : State) (n : Nat) (f : DklLink → DklLink) : (s.setLink n f).readData = s.readData := rfl
@[simp] theorem State.setLink_busError (s : State) (n : Nat) (f : DklLink → DklLink) : (s.setLink n f).busError = s.busError := rfl
@[simp] theorem State.setLink_tick (s : State) (n : Nat) (f : DklLink → DklLink) : (s.setLink n f).tick = s.tick := rfl
@[simp] theorem State.setLink_drawn (s : State) (n : Nat) (f : DklLink → DklLink) : (s.setLink n f).drawn = s.drawn := rfl
@[simp] theorem State.setLink_sys (s : State) (n : Nat) (f : DklLink → DklLink) : (s.setLink n f).sys = s.sys := rfl
@[simp] theorem State.setLink_harts (s : State) (n : Nat) (f : DklLink → DklLink) : (s.setLink n f).harts = s.harts := rfl
@[simp] theorem State.setLink_images (s : State) (n : Nat) (f : DklLink → DklLink) : (s.setLink n f).images = s.images := rfl
@[simp] theorem State.setLink_lpe (s : State) (n : Nat) (f : DklLink → DklLink) : (s.setLink n f).lpe = s.lpe := rfl
@[simp] theorem State.setLink_cln (s : State) (n : Nat) (f : DklLink → DklLink) : (s.setLink n f).cln = s.cln := rfl
@[simp] theorem State.setLink_prt (s : State) (n : Nat) (f : DklLink → DklLink) : (s.setLink n f).prt = s.prt := rfl
@[simp] theorem State.setLink_veh (s : State) (n : Nat) (f : DklLink → DklLink) : (s.setLink n f).veh = s.veh := rfl
@[simp] theorem State.setLink_alc (s : State) (n : Nat) (f : DklLink → DklLink) : (s.setLink n f).alc = s.alc := rfl
@[simp] theorem State.setLink_thm (s : State) (n : Nat) (f : DklLink → DklLink) : (s.setLink n f).thm = s.thm := rfl
@[simp] theorem State.setLink_mtr (s : State) (n : Nat) (f : DklLink → DklLink) : (s.setLink n f).mtr = s.mtr := rfl
@[simp] theorem State.setLink_bil (s : State) (n : Nat) (f : DklLink → DklLink) : (s.setLink n f).bil = s.bil := rfl
@[simp] theorem State.setLink_sig (s : State) (n : Nat) (f : DklLink → DklLink) : (s.setLink n f).sig = s.sig := rfl
@[simp] theorem State.setLink_sfy (s : State) (n : Nat) (f : DklLink → DklLink) : (s.setLink n f).sfy = s.sfy := rfl
@[simp] theorem State.setLink_rng (s : State) (n : Nat) (f : DklLink → DklLink) : (s.setLink n f).rng = s.rng := rfl
@[simp] theorem State.setLink_est (s : State) (n : Nat) (f : DklLink → DklLink) : (s.setLink n f).est = s.est := rfl
@[simp] theorem State.setLink_lsw (s : State) (n : Nat) (f : DklLink → DklLink) : (s.setLink n f).lsw = s.lsw := rfl
@[simp] theorem State.setLink_time (s : State) (n : Nat) (f : DklLink → DklLink) : (s.setLink n f).time = s.time := rfl
@[simp] theorem State.setLink_host (s : State) (n : Nat) (f : DklLink → DklLink) : (s.setLink n f).host = s.host := rfl
@[simp] theorem State.setLink_eth (s : State) (n : Nat) (f : DklLink → DklLink) : (s.setLink n f).eth = s.eth := rfl
@[simp] theorem State.setLink_sto (s : State) (n : Nat) (f : DklLink → DklLink) : (s.setLink n f).sto = s.sto := rfl
@[simp] theorem State.setLink_cans (s : State) (n : Nat) (f : DklLink → DklLink) : (s.setLink n f).cans = s.cans := rfl
@[simp] theorem State.setLink_pending (s : State) (n : Nat) (f : DklLink → DklLink) : (s.setLink n f).pending = s.pending := rfl
@[simp] theorem State.setLink_reg (s : State) (n : Nat) (f : DklLink → DklLink) (r : Rg) (j : Nat) : (s.setLink n f).reg r j = s.reg r j := rfl
@[simp] theorem State.setLink_f (s : State) (n : Nat) (f : DklLink → DklLink) (fl : Fld) (j : Nat) : (s.setLink n f).f fl j = s.f fl j := rfl

theorem State.link_setLink_other (s : State) (n k : Nat) (f : DklLink → DklLink) (h : n ≠ k) : (s.setLink n f).link k = s.link k := by
  simp [State.link, State.setLink, List.getD, List.getElem?_set_ne h]

end Sys2Proof.Machine
end

