-- ==== Sys2Proof/Laws/Writes1.lean ====
section
/-! SUPPORT. What each operation leaves unchanged (1 of 5): everything outside a part that holds what it writes. -/

set_option linter.all false

namespace Sys2Proof.Machine

theorem State.w_setReg {P : Part} {r : Rg} (h : P.regs r.addr = true) (hc : r.count ≤ 65536) (s : State) (i : Nat)
    (v : Word) : (s.setReg r i v).without P = s.without P := State.without_setReg (by simp [h, hc]) s i v
theorem State.w_setF {P : Part} {fl : Fld} (h : P.regs fl.reg.addr = true) (hc : fl.reg.count ≤ 65536) (s : State)
    (i v : Nat) : (s.setF fl i v).without P = s.without P := State.w_setReg h hc _ _ _
theorem State.w_setB {P : Part} {fl : Fld} (h : P.regs fl.reg.addr = true) (hc : fl.reg.count ≤ 65536) (s : State)
    (i : Nat) (v : Bool) : (s.setB fl i v).without P = s.without P := State.w_setReg h hc _ _ _
theorem State.w_setFi {P : Part} {fl : Fld} (h : P.regs fl.reg.addr = true) (hc : fl.reg.count ≤ 65536) (s : State)
    (i : Nat) (v : Int) : (s.setFi fl i v).without P = s.without P := State.w_setReg h hc _ _ _
theorem State.w_setFBit {P : Part} {fl : Fld} (h : P.regs fl.reg.addr = true) (hc : fl.reg.count ≤ 65536) (s : State)
    (i j : Nat) (v : Bool) : (s.setFBit fl i j v).without P = s.without P := State.w_setReg h hc _ _ _
theorem State.w_satF {P : Part} {fl : Fld} (h : P.regs fl.reg.addr = true) (hc : fl.reg.count ≤ 65536) (s : State)
    (i v : Nat) : (s.satF fl i v).without P = s.without P := State.w_setReg h hc _ _ _
theorem State.w_addF {P : Part} {fl : Fld} (h : P.regs fl.reg.addr = true) (hc : fl.reg.count ≤ 65536) (s : State)
    (i v : Nat) : (s.addF fl i v).without P = s.without P := State.w_setReg h hc _ _ _
theorem State.w_setQ {P : Part} {lo hi : Rg} (hl : P.regs lo.addr = true) (hh : P.regs hi.addr = true)
    (kl : lo.count ≤ 65536) (kh : hi.count ≤ 65536) (s : State) (i v : Nat) :
    (s.setQ lo hi i v).without P = s.without P := State.without_setQ (by simp [hl, kl]) (by simp [hh, kh]) s i v
theorem State.w_setQi {P : Part} {lo hi : Rg} (hl : P.regs lo.addr = true) (hh : P.regs hi.addr = true)
    (kl : lo.count ≤ 65536) (kh : hi.count ≤ 65536) (s : State) (i : Nat) (v : Int) :
    (s.setQi lo hi i v).without P = s.without P := State.w_setQ hl hh kl kh s i _
theorem State.w_causeOn {P : Part} {fl : Fld} (hp : P.regs R.EVT_PEND.addr = true) (h : P.regs fl.reg.addr = true)
    (hc : fl.reg.count ≤ 65536) (en : Fld) (s : State) (i j n : Nat) :
    (s.causeOn fl en i j n).without P = s.without P := State.without_causeOn hp (by simp [h, hc]) en s i j n
theorem State.w_setFM {P : Part} {r : Rg} (h : P.regs r.addr = true) (hc : r.count ≤ 65536) (lo w : Nat) (s : State)
    (i v : Nat) : (s.setF ⟨r, lo, w⟩ i v).without P = s.without P := State.w_setReg h hc _ _ _
theorem State.w_setBM {P : Part} {r : Rg} (h : P.regs r.addr = true) (hc : r.count ≤ 65536) (lo w : Nat) (s : State)
    (i : Nat) (v : Bool) : (s.setB ⟨r, lo, w⟩ i v).without P = s.without P := State.w_setReg h hc _ _ _
theorem State.w_setFiM {P : Part} {r : Rg} (h : P.regs r.addr = true) (hc : r.count ≤ 65536) (lo w : Nat) (s : State)
    (i : Nat) (v : Int) : (s.setFi ⟨r, lo, w⟩ i v).without P = s.without P := State.w_setReg h hc _ _ _
theorem State.w_setFBitM {P : Part} {r : Rg} (h : P.regs r.addr = true) (hc : r.count ≤ 65536) (lo w : Nat) (s :
    State)
    (i j : Nat) (v : Bool) : (s.setFBit ⟨r, lo, w⟩ i j v).without P = s.without P := State.w_setReg h hc _ _ _
theorem State.w_satFM {P : Part} {r : Rg} (h : P.regs r.addr = true) (hc : r.count ≤ 65536) (lo w : Nat) (s : State)
    (i v : Nat) : (s.satF ⟨r, lo, w⟩ i v).without P = s.without P := State.w_setReg h hc _ _ _
theorem State.w_addFM {P : Part} {r : Rg} (h : P.regs r.addr = true) (hc : r.count ≤ 65536) (lo w : Nat) (s : State)
    (i v : Nat) : (s.addF ⟨r, lo, w⟩ i v).without P = s.without P := State.w_setReg h hc _ _ _
theorem State.w_causeOnM {P : Part} {r : Rg} (hp : P.regs R.EVT_PEND.addr = true) (h : P.regs r.addr = true)
    (hc : r.count ≤ 65536) (lo w : Nat) (en : Fld) (s : State) (i j n : Nat) :
    (s.causeOn ⟨r, lo, w⟩ en i j n).without P = s.without P := State.without_causeOn hp (by simp [h, hc]) en s i j n
theorem State.without_upd_sig_host {P : Part} (h0 : P.sig = true) (h1 : P.host = true) (s : State) (x0) (x1) :
    ({ s with sig := x0, host := x1 } : State).without P = s.without P := by simp [State.without, h0, h1]
theorem State.without_upd_drawn_lpe {P : Part} (h0 : P.drawn = true) (h1 : P.lpe = true) (s : State) (x0) (x1) :
    ({ s with drawn := x0, lpe := x1 } : State).without P = s.without P := by simp [State.without, h0, h1]
theorem State.without_upd_images_sfy {P : Part} (h0 : P.images = true) (h1 : P.sfy = true) (s : State) (x0) (x1) :
    ({ s with images := x0, sfy := x1 } : State).without P = s.without P := by simp [State.without, h0, h1]
theorem State.without_upd_latches_readData {P : Part} (h0 : P.latches = true) (h1 : P.readData = true) (s : State)
    (x0) (x1) :
    ({ s with latches := x0, readData := x1 } : State).without P = s.without P := by simp [State.without, h0, h1]
theorem State.without_upd_lpe_rng {P : Part} (h0 : P.lpe = true) (h1 : P.rng = true) (s : State) (x0) (x1) :
    ({ s with lpe := x0, rng := x1 } : State).without P = s.without P := by simp [State.without, h0, h1]
theorem State.without_upd_readData_busError {P : Part} (h0 : P.readData = true) (h1 : P.busError = true) (s : State)
    (x0) (x1) :
    ({ s with readData := x0, busError := x1 } : State).without P = s.without P := by simp [State.without, h0, h1]
theorem State.without_upd_readData_dkl {P : Part} (h0 : P.readData = true) (h1 : P.dkl = true) (s : State) (x0) (x1) :
    ({ s with readData := x0, dkl := x1 } : State).without P = s.without P := by simp [State.without, h0, h1]
theorem State.without_upd_sig_sto {P : Part} (h0 : P.sig = true) (h1 : P.sto = true) (s : State) (x0) (x1) :
    ({ s with sig := x0, sto := x1 } : State).without P = s.without P := by simp [State.without, h0, h1]
theorem State.without_upd_sys_images {P : Part} (h0 : P.sys = true) (h1 : P.images = true) (s : State) (x0) (x1) :
    ({ s with sys := x0, images := x1 } : State).without P = s.without P := by simp [State.without, h0, h1]
theorem State.without_upd_sys_images_sfy {P : Part} (h0 : P.sys = true) (h1 : P.images = true) (h2 : P.sfy = true) (s
    : State) (x0) (x1) (x2) :
    ({ s with sys := x0, images := x1, sfy := x2 } : State).without P = s.without P := by simp [State.without, h0,
        h1, h2]
theorem State.without_upd_alc_rng {P : Part} (h0 : P.alc = true) (h1 : P.rng = true) (s : State) (x0) (x1) :
    ({ s with alc := x0, rng := x1 } : State).without P = s.without P := by simp [State.without, h0, h1]
theorem State.without_upd_bil_sig_sto {P : Part} (h0 : P.bil = true) (h1 : P.sig = true) (h2 : P.sto = true) (s :
    State) (x0) (x1) (x2) :
    ({ s with bil := x0, sig := x1, sto := x2 } : State).without P = s.without P := by simp [State.without, h0, h1,
        h2]
theorem State.without_upd_harts_lpe_mtr {P : Part} (h0 : P.harts = true) (h1 : P.lpe = true) (h2 : P.mtr = true) (s :
    State) (x0) (x1) (x2) :
    ({ s with harts := x0, lpe := x1, mtr := x2 } : State).without P = s.without P := by simp [State.without, h0, h1,
        h2]
theorem State.without_upd_mem_harts_lpe_lsw {P : Part} (h0 : P.mem = true) (h1 : P.harts = true) (h2 : P.lpe = true)
    (h3 : P.lsw = true) (s : State) (x0) (x1) (x2) (x3) :
    ({ s with mem := x0, harts := x1, lpe := x2, lsw := x3 } : State).without P = s.without P := by simp [State.without, h0, h1, h2, h3]

variable {P : Part}
variable (h_ALC_CNT : P.regs R.ALC_CNT.addr = true) (h_ALC_CTL : P.regs R.ALC_CTL.addr = true)
variable (h_ALC_PAPPLIED : P.regs R.ALC_PAPPLIED.addr = true) (h_ALC_PREQ : P.regs R.ALC_PREQ.addr = true)
variable (h_ALC_PRICE : P.regs R.ALC_PRICE.addr = true) (h_ALC_PSTAT : P.regs R.ALC_PSTAT.addr = true)
variable (h_ALC_STAT : P.regs R.ALC_STAT.addr = true) (h_ALC_TSOLVE : P.regs R.ALC_TSOLVE.addr = true)
variable (h_BIL_STAT : P.regs R.BIL_STAT.addr = true) (h_BIL_TCOUNT : P.regs R.BIL_TCOUNT.addr = true)
variable (h_BIL_TFIRSTH : P.regs R.BIL_TFIRSTH.addr = true) (h_BIL_TFIRSTL : P.regs R.BIL_TFIRSTL.addr = true)
variable (h_BIL_TLASTH : P.regs R.BIL_TLASTH.addr = true) (h_BIL_TLASTL : P.regs R.BIL_TLASTL.addr = true)
variable (h_CLN_CELLMAP : P.regs R.CLN_CELLMAP.addr = true) (h_CLN_CELLST : P.regs R.CLN_CELLST.addr = true)
variable (h_CLN_ERRA : P.regs R.CLN_ERRA.addr = true) (h_CLN_ERRB : P.regs R.CLN_ERRB.addr = true)
variable (h_CLN_ERRC : P.regs R.CLN_ERRC.addr = true) (h_CLN_LANECFG : P.regs R.CLN_LANECFG.addr = true)
variable (h_CLN_LANEEV : P.regs R.CLN_LANEEV.addr = true) (h_CLN_LANESTAT : P.regs R.CLN_LANESTAT.addr = true)
variable (h_CLN_MGSTAT : P.regs R.CLN_MGSTAT.addr = true) (h_CLN_STAT : P.regs R.CLN_STAT.addr = true)
variable (h_EVT_PEND : P.regs R.EVT_PEND.addr = true) (h_HST_CQHEAD : P.regs R.HST_CQHEAD.addr = true)
variable (h_HST_CQMEM : P.regs R.HST_CQMEM.addr = true) (h_HST_CQTAIL : P.regs R.HST_CQTAIL.addr = true)
variable (h_HST_HCSTAT : P.regs R.HST_HCSTAT.addr = true) (h_HST_OPSTAT : P.regs R.HST_OPSTAT.addr = true)
variable (h_HST_OPSTEPS : P.regs R.HST_OPSTEPS.addr = true) (h_HST_QCFG : P.regs R.HST_QCFG.addr = true)
variable (h_HST_QSTAT : P.regs R.HST_QSTAT.addr = true) (h_HST_SQHEAD : P.regs R.HST_SQHEAD.addr = true)
variable (h_HST_SQTAIL : P.regs R.HST_SQTAIL.addr = true) (h_HST_STAT : P.regs R.HST_STAT.addr = true)
variable (h_LPE_BATCH : P.regs R.LPE_BATCH.addr = true) (h_LPE_BSTAT : P.regs R.LPE_BSTAT.addr = true)
variable (h_LPE_CAPCTL : P.regs R.LPE_CAPCTL.addr = true) (h_LPE_CAPSTAT : P.regs R.LPE_CAPSTAT.addr = true)
variable (h_LPE_CWSTAT : P.regs R.LPE_CWSTAT.addr = true) (h_LPE_GROUP : P.regs R.LPE_GROUP.addr = true)
variable (h_LPE_INJCTL : P.regs R.LPE_INJCTL.addr = true) (h_LPE_LAUNCH : P.regs R.LPE_LAUNCH.addr = true)
variable (h_LPE_LOAD : P.regs R.LPE_LOAD.addr = true) (h_LPE_STAT : P.regs R.LPE_STAT.addr = true)
variable (h_LPE_TLOAD : P.regs R.LPE_TLOAD.addr = true) (h_LSW_CHSTAT : P.regs R.LSW_CHSTAT.addr = true)
variable (h_PRT_CELL : P.regs R.PRT_CELL.addr = true) (h_PRT_GCAUSE : P.regs R.PRT_GCAUSE.addr = true)
variable (h_PRT_GCFG : P.regs R.PRT_GCFG.addr = true) (h_PRT_GCMD : P.regs R.PRT_GCMD.addr = true)
variable (h_PRT_GSTAT : P.regs R.PRT_GSTAT.addr = true) (h_PRT_IAPP : P.regs R.PRT_IAPP.addr = true)
variable (h_PRT_ISHEET : P.regs R.PRT_ISHEET.addr = true) (h_PRT_SNAPOUT : P.regs R.PRT_SNAPOUT.addr = true)
variable (h_PRT_VAPP : P.regs R.PRT_VAPP.addr = true) (h_PRT_VSET : P.regs R.PRT_VSET.addr = true)
variable (h_SFY_COIL : P.regs R.SFY_COIL.addr = true) (h_SFY_PSTAT : P.regs R.SFY_PSTAT.addr = true)
variable (h_SFY_STAT : P.regs R.SFY_STAT.addr = true) (h_SYS_BOOTCFG : P.regs R.SYS_BOOTCFG.addr = true)
variable (h_SYS_BOOTSTAT : P.regs R.SYS_BOOTSTAT.addr = true) (h_SYS_HARTSTAT : P.regs R.SYS_HARTSTAT.addr = true)
variable (h_SYS_OWNERLOCK : P.regs R.SYS_OWNERLOCK.addr = true) (h_SYS_PWRCTL : P.regs R.SYS_PWRCTL.addr = true)
variable (h_SYS_PWRSTAT : P.regs R.SYS_PWRSTAT.addr = true) (h_SYS_RSTCAUSE : P.regs R.SYS_RSTCAUSE.addr = true)
variable (h_SYS_WAKESRC : P.regs R.SYS_WAKESRC.addr = true) (h_SYS_WDTCTL : P.regs R.SYS_WDTCTL.addr = true)
variable (h_VEH_FE : P.regs R.VEH_FE.addr = true) (h_VEH_SSTAT : P.regs R.VEH_SSTAT.addr = true)
variable (h_VEH_STAT : P.regs R.VEH_STAT.addr = true) (c_alc : P.alc = true) (c_busError : P.busError = true)
variable (c_cln : P.cln = true) (c_harts : P.harts = true) (c_host : P.host = true) (c_lpe : P.lpe = true)
variable (c_lsw : P.lsw = true) (c_mem : P.mem = true) (c_prt : P.prt = true) (c_sfy : P.sfy = true)
variable (c_sig : P.sig = true) (c_sys : P.sys = true) (c_veh : P.veh = true)

include c_prt in
theorem State.setPg_writes (s : State) (g : Nat) (f : PrtGroup → PrtGroup) :
    (State.setPg s g f).without P = s.without P := by
  unfold State.setPg
  simp only [State.without_upd_prt c_prt, State.without_ite, ite_self]

include h_PRT_GSTAT c_prt in
theorem dropPending_writes (g : Nat) (s : State) :
    (dropPending g s).without P = s.without P := by
  unfold dropPending
  simp only [State.w_setB (fl := Fl.PRT_GSTAT_PEND) h_PRT_GSTAT (by decide), State.without_upd_prt c_prt,
      State.setPg_writes (P := P) c_prt, State.without_ite, ite_self]

include c_lsw in
theorem State.setCh_writes (s : State) (n : Nat) (f : Channel → Channel) :
    (State.setCh s n f).without P = s.without P := by
  unfold State.setCh
  simp only [State.without_upd_lsw c_lsw, State.without_ite, ite_self]

include c_lsw in
theorem chTakeForm_writes (n : Nat) (s : State) :
    (chTakeForm n s).without P = s.without P := by
  unfold chTakeForm
  simp only [State.without_upd_lsw c_lsw, State.setCh_writes (P := P) c_lsw, State.without_ite, ite_self]

include h_LSW_CHSTAT c_lsw in
theorem chTurnOn_writes (n : Nat) (s : State) :
    (chTurnOn n s).without P = s.without P := by
  unfold chTurnOn
  simp only [State.w_setF (fl := Fl.LSW_CHSTAT_STATE) h_LSW_CHSTAT (by decide), State.without_upd_lsw c_lsw,
      chTakeForm_writes (P := P) c_lsw, State.setCh_writes (P := P) c_lsw, State.without_ite, ite_self]

include h_LSW_CHSTAT c_lsw in
theorem chTurnOff_writes (n : Nat) (s : State) :
    (chTurnOff n s).without P = s.without P := by
  unfold chTurnOff
  simp only [State.w_setF (fl := Fl.LSW_CHSTAT_STATE) h_LSW_CHSTAT (by decide), State.without_upd_lsw c_lsw,
      State.setCh_writes (P := P) c_lsw, State.without_ite, ite_self]

include h_LSW_CHSTAT c_lsw in
theorem chUpdate_writes (n : Nat) (s : State) :
    (chUpdate n s).without P = s.without P := by
  unfold chUpdate
  (repeat' split) <;> simp only [State.w_setF (fl := Fl.LSW_CHSTAT_STATE) h_LSW_CHSTAT (by decide),
      State.without_upd_lsw c_lsw, chTurnOn_writes (P := P) h_LSW_CHSTAT c_lsw,
      chTurnOff_writes (P := P) h_LSW_CHSTAT c_lsw, State.without_when_if, State.without_ite, ite_self]

include h_LSW_CHSTAT c_lsw in
theorem chRequest_writes (fl : Fld) (h : fl.reg = R.LSW_CHSTAT) (n : Nat) (v : Bool) (s : State) :
    (chRequest fl n v s).without P = s.without P := by
  have hs : ∀ s : State, (s.setB fl n v).without P = s.without P :=
    fun s => State.w_setB (by rw [h]; assumption) (by rw [h]; decide) s n v
  unfold chRequest
  split <;> simp only [hs, State.without_upd_lsw c_lsw, chUpdate_writes (P := P) h_LSW_CHSTAT c_lsw,
      State.without_ite, ite_self]

include h_LSW_CHSTAT c_lsw in
theorem bleeder_writes (g : Nat) (on : Bool) (s : State) :
    (bleeder g on s).without P = s.without P := by
  unfold bleeder
  split
  · exact chRequest_writes h_LSW_CHSTAT c_lsw _ rfl _ _ _
  · rfl

include h_EVT_PEND h_PRT_GCAUSE in
theorem prtCause_writes (j : Nat) (g : Nat) (s : State) :
    (prtCause j g s).without P = s.without P := by
  unfold prtCause
  simp only [State.w_setFBitM (r := R.PRT_GCAUSE) h_PRT_GCAUSE (by decide), State.without_raise h_EVT_PEND,
      State.without_ite, ite_self]

include h_EVT_PEND h_LSW_CHSTAT h_PRT_GCAUSE h_PRT_GSTAT h_PRT_IAPP h_PRT_VAPP c_lsw c_prt in
theorem toState_writes (g : Nat) (st : Nat) (s : State) :
    (toState g st s).without P = s.without P := by
  unfold toState
  simp only [State.w_setF (fl := Fl.PRT_GSTAT_STATE) h_PRT_GSTAT (by decide),
      State.w_setF (fl := Fl.PRT_VAPP_VAPP) h_PRT_VAPP (by decide),
      State.w_setF (fl := Fl.PRT_IAPP_IAPP) h_PRT_IAPP (by decide),
      State.w_setF (fl := Fl.PRT_GSTAT_REEFREQ) h_PRT_GSTAT (by decide), State.without_upd_lsw c_lsw,
      State.without_upd_prt c_prt, bleeder_writes (P := P) h_LSW_CHSTAT c_lsw,
      prtCause_writes (P := P) h_EVT_PEND h_PRT_GCAUSE, State.setPg_writes (P := P) c_prt, State.without_when_if,
      State.without_ite, ite_self]

include h_EVT_PEND h_LSW_CHSTAT h_PRT_GCAUSE h_PRT_GSTAT h_PRT_IAPP h_PRT_VAPP c_lsw c_prt in
theorem toDischarge_writes (g : Nat) (s : State) :
    (toDischarge g s).without P = s.without P := by
  unfold toDischarge
  simp only [State.without_upd_lsw c_lsw, State.without_upd_prt c_prt,
      toState_writes (P := P) h_EVT_PEND h_LSW_CHSTAT h_PRT_GCAUSE h_PRT_GSTAT h_PRT_IAPP h_PRT_VAPP c_lsw c_prt,
      State.setPg_writes (P := P) c_prt, State.without_ite, ite_self]

include h_EVT_PEND h_LSW_CHSTAT h_PRT_GCAUSE h_PRT_GSTAT h_PRT_IAPP h_PRT_VAPP c_lsw c_prt in
theorem groupStopAct_writes (g : Nat) (s : State) :
    (groupStopAct g s).without P = s.without P := by
  unfold groupStopAct
  (repeat' split) <;> simp only [State.without_upd_lsw c_lsw, State.without_upd_prt c_prt,
      toDischarge_writes (P := P) h_EVT_PEND h_LSW_CHSTAT h_PRT_GCAUSE h_PRT_GSTAT h_PRT_IAPP h_PRT_VAPP c_lsw c_prt,
      toState_writes (P := P) h_EVT_PEND h_LSW_CHSTAT h_PRT_GCAUSE h_PRT_GSTAT h_PRT_IAPP h_PRT_VAPP c_lsw c_prt,
      State.without_ite, ite_self]

include h_EVT_PEND h_LSW_CHSTAT h_PRT_GCAUSE h_PRT_GSTAT h_PRT_IAPP h_PRT_VAPP c_lsw c_prt in
theorem groupStop_writes (g : Nat) (s : State) :
    (groupStop g s).without P = s.without P := by
  unfold groupStop
  simp only [State.without_upd_lsw c_lsw, State.without_upd_prt c_prt, dropPending_writes (P := P) h_PRT_GSTAT c_prt,
      groupStopAct_writes (P := P) h_EVT_PEND h_LSW_CHSTAT h_PRT_GCAUSE h_PRT_GSTAT h_PRT_IAPP h_PRT_VAPP c_lsw c_prt, State.without_ite, ite_self]

include h_EVT_PEND h_PRT_GCAUSE in
theorem sesCause_writes (j : Nat) (c : Nat) (s : State) :
    (sesCause j c s).without P = s.without P := by
  unfold sesCause
  simp only [prtCause_writes (P := P) h_EVT_PEND h_PRT_GCAUSE, State.without_ite, ite_self]

include c_veh in
theorem State.setSes_writes (s : State) (c : Nat) (f : Session → Session) :
    (State.setSes s c f).without P = s.without P := by
  unfold State.setSes
  simp only [State.without_upd_veh c_veh, State.without_ite, ite_self]

include h_EVT_PEND h_PRT_GCAUSE h_VEH_SSTAT c_veh in
theorem toSession_writes (c : Nat) (st : Nat) (s : State) :
    (toSession c st s).without P = s.without P := by
  unfold toSession
  simp only [State.w_setF (fl := Fl.VEH_SSTAT_STATE) h_VEH_SSTAT (by decide), State.without_upd_veh c_veh,
      sesCause_writes (P := P) h_EVT_PEND h_PRT_GCAUSE, State.setSes_writes (P := P) c_veh, State.without_ite,
      ite_self]

include h_VEH_SSTAT c_veh in
theorem closeLink_writes (c : Nat) (s : State) :
    (closeLink c s).without P = s.without P := by
  unfold closeLink
  simp only [State.w_setB (fl := Fl.VEH_SSTAT_BPTACT) h_VEH_SSTAT (by decide),
      State.w_setB (fl := Fl.VEH_SSTAT_TLS) h_VEH_SSTAT (by decide), State.without_upd_veh c_veh,
      State.setSes_writes (P := P) c_veh, State.without_ite, ite_self]

include c_sfy in
theorem State.setSp_writes (s : State) (p : Nat) (f : SfyPort → SfyPort) :
    (State.setSp s p f).without P = s.without P := by
  unfold State.setSp
  simp only [State.without_upd_sfy c_sfy, State.without_ite, ite_self]

include h_SFY_COIL in
theorem coilOn_writes (n : Nat) (s : State) :
    (coilOn n s).without P = s.without P := by
  unfold coilOn
  simp only [State.w_setB (fl := Fl.SFY_COIL_ON) h_SFY_COIL (by decide),
      State.w_setB (fl := Fl.SFY_COIL_PULLIN) h_SFY_COIL (by decide), State.without_ite, ite_self]

include h_SFY_COIL c_sfy in
theorem lockRequest_writes (p : Nat) (s : State) :
    (lockRequest p s).without P = s.without P := by
  unfold lockRequest
  simp only [State.without_upd_sfy c_sfy, State.setSp_writes (P := P) c_sfy, coilOn_writes (P := P) h_SFY_COIL,
      State.without_ite, ite_self]

include h_VEH_STAT in
theorem showPlc_writes (s : State) :
    (showPlc s).without P = s.without P := by
  unfold showPlc
  simp only [State.w_setF (fl := Fl.VEH_STAT_PLCFREE) h_VEH_STAT (by decide), State.without_ite, ite_self]

include h_VEH_FE h_VEH_STAT in
theorem takePlc_writes (f : Nat) (s : State) :
    (takePlc f s).without P = s.without P := by
  unfold takePlc
  (repeat' split) <;> simp only [State.w_setF (fl := Fl.VEH_STAT_PLCWAIT) h_VEH_STAT (by decide),
      State.w_setF (fl := Fl.VEH_FE_NOPLC) h_VEH_FE (by decide),
      State.w_setF (fl := Fl.VEH_FE_PLC) h_VEH_FE (by decide),
      State.w_setB (fl := Fl.VEH_STAT_PLCWAIT) h_VEH_STAT (by decide),
      State.w_setB (fl := Fl.VEH_FE_NOPLC) h_VEH_FE (by decide),
      State.w_setB (fl := Fl.VEH_FE_PLC) h_VEH_FE (by decide),
      State.w_setFBit (fl := Fl.VEH_STAT_PLCWAIT) h_VEH_STAT (by decide),
      State.w_setFBit (fl := Fl.VEH_FE_NOPLC) h_VEH_FE (by decide),
      State.w_setFBit (fl := Fl.VEH_FE_PLC) h_VEH_FE (by decide), showPlc_writes (P := P) h_VEH_STAT,
      State.without_ite, ite_self]

include h_EVT_PEND h_SFY_STAT in
theorem sfyCause_writes (j : Nat) (s : State) :
    (sfyCause j s).without P = s.without P := by
  unfold sfyCause
  simp only [State.w_causeOn (fl := Fl.SFY_STAT_CAUSE) h_EVT_PEND h_SFY_STAT (by decide), State.without_ite, ite_self]

include h_EVT_PEND h_SFY_STAT c_sfy in
theorem unlockRequest_writes (p : Nat) (s : State) :
    (unlockRequest p s).without P = s.without P := by
  unfold unlockRequest
  simp only [State.without_upd_sfy c_sfy, State.setSp_writes (P := P) c_sfy,
      sfyCause_writes (P := P) h_EVT_PEND h_SFY_STAT, State.without_ite, ite_self]

include h_EVT_PEND h_PRT_GCAUSE h_SFY_STAT h_VEH_SSTAT c_sfy c_veh in
theorem toUnlock_writes (c : Nat) (s : State) :
    (toUnlock c s).without P = s.without P := by
  unfold toUnlock
  simp only [State.without_upd_sfy c_sfy, State.without_upd_veh c_veh,
      unlockRequest_writes (P := P) h_EVT_PEND h_SFY_STAT c_sfy,
      toSession_writes (P := P) h_EVT_PEND h_PRT_GCAUSE h_VEH_SSTAT c_veh, State.without_ite, ite_self]

include h_PRT_GSTAT in
theorem cmdRefuse_writes (g : Nat) (code : Nat) (s : State) :
    (cmdRefuse g code s).without P = s.without P := by
  unfold cmdRefuse
  simp only [State.w_setF (fl := Fl.PRT_GSTAT_CMDERR) h_PRT_GSTAT (by decide), State.without_ite, ite_self]

include h_SFY_PSTAT in
theorem refreshPort_writes (p : Nat) (s : State) :
    (refreshPort p s).without P = s.without P := by
  unfold refreshPort
  simp only [State.w_setF (fl := Fl.SFY_PSTAT_ISO) h_SFY_PSTAT (by decide),
      State.w_setF (fl := Fl.SFY_PSTAT_ESD) h_SFY_PSTAT (by decide),
      State.w_setF (fl := Fl.SFY_PSTAT_SREEF) h_SFY_PSTAT (by decide),
      State.w_setB (fl := Fl.SFY_PSTAT_ISO) h_SFY_PSTAT (by decide),
      State.w_setB (fl := Fl.SFY_PSTAT_ESD) h_SFY_PSTAT (by decide),
      State.w_setB (fl := Fl.SFY_PSTAT_SREEF) h_SFY_PSTAT (by decide), State.without_ite, ite_self]

include h_SFY_COIL h_SFY_PSTAT in
theorem energisePole_writes (p : Nat) (pole : Pole) (s : State) :
    (energisePole p pole s).without P = s.without P := by
  unfold energisePole
  cases pole <;> simp only [poleCmd, State.w_setB (fl := Fl.SFY_PSTAT_POSCMD) h_SFY_PSTAT (by decide),
      State.w_setB (fl := Fl.SFY_PSTAT_NEGCMD) h_SFY_PSTAT (by decide), coilOn_writes (P := P) h_SFY_COIL,
      State.without_ite, ite_self]

include h_EVT_PEND h_SFY_COIL h_SFY_PSTAT h_SFY_STAT in
theorem closeRequest_writes (p : Nat) (pos : Bool) (neg : Bool) (s : State) :
    (closeRequest p pos neg s).without P = s.without P := by
  unfold closeRequest
  simp (disch := (intros; simp only [State.w_setB (fl := Fl.SFY_PSTAT_NOV) h_SFY_PSTAT (by decide), refreshPort_writes (P := P) h_SFY_PSTAT, energisePole_writes (P := P) h_SFY_COIL h_SFY_PSTAT, sfyCause_writes (P := P) h_EVT_PEND h_SFY_STAT, State.without_ite, ite_self]; done)) only [State.without_each, State.without_eachOf, State.w_setB (fl := Fl.SFY_PSTAT_NOV) h_SFY_PSTAT (by decide), refreshPort_writes (P := P) h_SFY_PSTAT, energisePole_writes (P := P) h_SFY_COIL h_SFY_PSTAT, sfyCause_writes (P := P) h_EVT_PEND h_SFY_STAT, State.without_ite, ite_self]

include h_EVT_PEND h_SFY_COIL h_SFY_PSTAT h_SFY_STAT in
theorem askClose_writes (g : Nat) (s : State) :
    (askClose g s).without P = s.without P := by
  unfold askClose
  (repeat' split) <;> simp only [closeRequest_writes (P := P) h_EVT_PEND h_SFY_COIL h_SFY_PSTAT h_SFY_STAT,
      State.without_ite, ite_self]

include h_EVT_PEND h_LSW_CHSTAT h_PRT_GCAUSE h_PRT_GSTAT h_PRT_IAPP h_PRT_VAPP h_SFY_COIL h_SFY_PSTAT h_SFY_STAT
    c_lsw c_prt in
theorem toClosing_writes (g : Nat) (target : Nat) (s : State) :
    (toClosing g target s).without P = s.without P := by
  unfold toClosing
  simp only [State.without_upd_lsw c_lsw, State.without_upd_prt c_prt,
      askClose_writes (P := P) h_EVT_PEND h_SFY_COIL h_SFY_PSTAT h_SFY_STAT,
      toState_writes (P := P) h_EVT_PEND h_LSW_CHSTAT h_PRT_GCAUSE h_PRT_GSTAT h_PRT_IAPP h_PRT_VAPP c_lsw c_prt,
      State.setPg_writes (P := P) c_prt, State.without_ite, ite_self]

include h_EVT_PEND h_LSW_CHSTAT h_PRT_GCAUSE h_PRT_GSTAT h_PRT_IAPP h_PRT_VAPP h_SFY_COIL h_SFY_PSTAT h_SFY_STAT
    c_lsw c_prt in
theorem checkInOff_writes (g : Nat) (s : State) :
    (checkInOff g s).without P = s.without P := by
  unfold checkInOff
  simp only [State.without_upd_lsw c_lsw, State.without_upd_prt c_prt,
      prtCause_writes (P := P) h_EVT_PEND h_PRT_GCAUSE, cmdRefuse_writes (P := P) h_PRT_GSTAT,
      toClosing_writes (P := P) h_EVT_PEND h_LSW_CHSTAT h_PRT_GCAUSE h_PRT_GSTAT h_PRT_IAPP h_PRT_VAPP h_SFY_COIL h_SFY_PSTAT h_SFY_STAT c_lsw c_prt, State.without_ite, ite_self]

include c_lpe in
theorem initSlots_writes (l : List Nat) (s : State) :
    (initSlots l s).without P = s.without P := by
  unfold initSlots
  simp only [State.without_upd_lpe c_lpe, State.without_ite, ite_self]

include c_lpe in
theorem State.setLb_writes (s : State) (b : Nat) (f : LpeBatch → LpeBatch) :
    (State.setLb s b f).without P = s.without P := by
  unfold State.setLb
  simp only [State.without_upd_lpe c_lpe, State.without_ite, ite_self]

include h_EVT_PEND h_LPE_STAT in
theorem lpeCause_writes (j : Nat) (s : State) :
    (lpeCause j s).without P = s.without P := by
  unfold lpeCause
  simp only [State.w_causeOnM (r := R.LPE_STAT) h_EVT_PEND h_LPE_STAT (by decide), State.without_ite, ite_self]

include h_EVT_PEND h_LPE_LOAD h_LPE_STAT h_LPE_TLOAD in
theorem showLoad_writes (s : State) :
    (showLoad s).without P = s.without P := by
  unfold showLoad
  simp only [State.w_setF (fl := Fl.LPE_TLOAD_W) h_LPE_TLOAD (by decide),
      State.w_setF (fl := Fl.LPE_LOAD_W) h_LPE_LOAD (by decide),
      State.w_setF (fl := Fl.LPE_STAT_TOVER) h_LPE_STAT (by decide),
      State.w_setB (fl := Fl.LPE_TLOAD_W) h_LPE_TLOAD (by decide),
      State.w_setB (fl := Fl.LPE_LOAD_W) h_LPE_LOAD (by decide),
      State.w_setB (fl := Fl.LPE_STAT_TOVER) h_LPE_STAT (by decide), lpeCause_writes (P := P) h_EVT_PEND h_LPE_STAT,
      State.without_ite, ite_self]

include h_EVT_PEND h_LPE_BATCH h_LPE_BSTAT h_LPE_LOAD h_LPE_STAT h_LPE_TLOAD c_lpe in
theorem batchAccept_writes (b : Nat) (v : Word) (s : State) :
    (batchAccept b v s).without P = s.without P := by
  unfold batchAccept
  simp only [State.w_setFM (r := R.LPE_BATCH) h_LPE_BATCH (by decide),
      State.w_setF (fl := Fl.LPE_BSTAT_STATE) h_LPE_BSTAT (by decide),
      State.w_setReg (r := R.LPE_BATCH) h_LPE_BATCH (by decide), State.without_upd_lpe c_lpe,
      initSlots_writes (P := P) c_lpe, State.setLb_writes (P := P) c_lpe,
      showLoad_writes (P := P) h_EVT_PEND h_LPE_LOAD h_LPE_STAT h_LPE_TLOAD, State.without_ite, ite_self]

include h_EVT_PEND h_LPE_BATCH h_LPE_BSTAT h_LPE_LOAD h_LPE_STAT h_LPE_TLOAD c_lpe in
theorem batchKernel_writes (k : Nat) (b : Nat) (s : State) :
    (batchKernel k b s).without P = s.without P := by
  unfold batchKernel
  simp only [State.without_upd_lpe c_lpe,
      batchAccept_writes (P := P) h_EVT_PEND h_LPE_BATCH h_LPE_BSTAT h_LPE_LOAD h_LPE_STAT h_LPE_TLOAD c_lpe,
      State.without_ite, ite_self]

include h_EVT_PEND h_LPE_BATCH h_LPE_BSTAT h_LPE_LOAD h_LPE_STAT h_LPE_TLOAD h_LSW_CHSTAT h_PRT_GCAUSE h_PRT_GSTAT
    h_PRT_IAPP h_PRT_VAPP c_lpe c_lsw c_prt in
theorem setMode_writes (g : Nat) (volt : Bool) (s : State) :
    (setMode g volt s).without P = s.without P := by
  unfold setMode
  simp (disch := (intros; simp only [State.without_upd_lpe c_lpe, State.without_upd_lsw c_lsw, State.without_upd_prt c_prt, State.setPg_writes (P := P) c_prt, batchKernel_writes (P := P) h_EVT_PEND h_LPE_BATCH h_LPE_BSTAT h_LPE_LOAD h_LPE_STAT h_LPE_TLOAD c_lpe, groupStopAct_writes (P := P) h_EVT_PEND h_LSW_CHSTAT h_PRT_GCAUSE h_PRT_GSTAT h_PRT_IAPP h_PRT_VAPP c_lsw c_prt, prtCause_writes (P := P) h_EVT_PEND h_PRT_GCAUSE, State.without_ite, ite_self]; done)) only [State.without_each, State.without_eachOf, State.without_upd_lpe c_lpe, State.without_upd_lsw c_lsw, State.without_upd_prt c_prt, State.setPg_writes (P := P) c_prt, batchKernel_writes (P := P) h_EVT_PEND h_LPE_BATCH h_LPE_BSTAT h_LPE_LOAD h_LPE_STAT h_LPE_TLOAD c_lpe, groupStopAct_writes (P := P) h_EVT_PEND h_LSW_CHSTAT h_PRT_GCAUSE h_PRT_GSTAT h_PRT_IAPP h_PRT_VAPP c_lsw c_prt, prtCause_writes (P := P) h_EVT_PEND h_PRT_GCAUSE, State.without_ite, ite_self]

include h_EVT_PEND h_LPE_BATCH h_LPE_BSTAT h_LPE_LOAD h_LPE_STAT h_LPE_TLOAD h_LSW_CHSTAT h_PRT_GCAUSE h_PRT_GSTAT
    h_PRT_IAPP h_PRT_VAPP c_lpe c_lsw c_prt in
theorem toRun_writes (g : Nat) (mode : Nat) (s : State) :
    (toRun g mode s).without P = s.without P := by
  unfold toRun
  simp only [State.without_upd_lpe c_lpe, State.without_upd_lsw c_lsw, State.without_upd_prt c_prt,
      setMode_writes (P := P) h_EVT_PEND h_LPE_BATCH h_LPE_BSTAT h_LPE_LOAD h_LPE_STAT h_LPE_TLOAD h_LSW_CHSTAT h_PRT_GCAUSE h_PRT_GSTAT h_PRT_IAPP h_PRT_VAPP c_lpe c_lsw c_prt, toState_writes (P := P) h_EVT_PEND h_LSW_CHSTAT h_PRT_GCAUSE h_PRT_GSTAT h_PRT_IAPP h_PRT_VAPP c_lsw c_prt, State.without_ite, ite_self]

include h_EVT_PEND h_LPE_BATCH h_LPE_BSTAT h_LPE_LOAD h_LPE_STAT h_LPE_TLOAD h_LSW_CHSTAT h_PRT_GCAUSE h_PRT_GSTAT
    h_PRT_IAPP h_PRT_VAPP h_SFY_COIL h_SFY_PSTAT h_SFY_STAT c_lpe c_lsw c_prt in
theorem actInOff_writes (g : Nat) (op : Nat) (mode : Nat) (s : State) :
    (actInOff g op mode s).without P = s.without P := by
  unfold actInOff
  (repeat' split) <;> simp only [State.without_upd_lpe c_lpe, State.without_upd_lsw c_lsw,
      State.without_upd_prt c_prt, cmdRefuse_writes (P := P) h_PRT_GSTAT,
      checkInOff_writes (P := P) h_EVT_PEND h_LSW_CHSTAT h_PRT_GCAUSE h_PRT_GSTAT h_PRT_IAPP h_PRT_VAPP h_SFY_COIL h_SFY_PSTAT h_SFY_STAT c_lsw c_prt, toClosing_writes (P := P) h_EVT_PEND h_LSW_CHSTAT h_PRT_GCAUSE h_PRT_GSTAT h_PRT_IAPP h_PRT_VAPP h_SFY_COIL h_SFY_PSTAT h_SFY_STAT c_lsw c_prt, toRun_writes (P := P) h_EVT_PEND h_LPE_BATCH h_LPE_BSTAT h_LPE_LOAD h_LPE_STAT h_LPE_TLOAD h_LSW_CHSTAT h_PRT_GCAUSE h_PRT_GSTAT h_PRT_IAPP h_PRT_VAPP c_lpe c_lsw c_prt, State.without_ite, ite_self]

include h_EVT_PEND h_LPE_BATCH h_LPE_BSTAT h_LPE_LOAD h_LPE_STAT h_LPE_TLOAD h_LSW_CHSTAT h_PRT_GCAUSE h_PRT_GSTAT
    h_PRT_IAPP h_PRT_VAPP h_SFY_COIL h_SFY_PSTAT h_SFY_STAT c_lpe c_lsw c_prt in
theorem offWithPending_writes (g : Nat) (s : State) :
    (offWithPending g s).without P = s.without P := by
  unfold offWithPending
  (try simp only [State.w_setB (fl := Fl.PRT_GSTAT_PEND) h_PRT_GSTAT (by decide), State.without_upd_lpe c_lpe,
      State.without_upd_lsw c_lsw, State.without_upd_prt c_prt,
      toState_writes (P := P) h_EVT_PEND h_LSW_CHSTAT h_PRT_GCAUSE h_PRT_GSTAT h_PRT_IAPP h_PRT_VAPP c_lsw c_prt,
      actInOff_writes (P := P) h_EVT_PEND h_LPE_BATCH h_LPE_BSTAT h_LPE_LOAD h_LPE_STAT h_LPE_TLOAD h_LSW_CHSTAT h_PRT_GCAUSE h_PRT_GSTAT h_PRT_IAPP h_PRT_VAPP h_SFY_COIL h_SFY_PSTAT h_SFY_STAT c_lpe c_lsw c_prt, State.setPg_writes (P := P) c_prt, State.without_ite, ite_self]) <;> (repeat' split) <;> simp only [State.w_setB (fl := Fl.PRT_GSTAT_PEND) h_PRT_GSTAT (by decide), State.without_upd_lpe c_lpe, State.without_upd_lsw c_lsw, State.without_upd_prt c_prt, toState_writes (P := P) h_EVT_PEND h_LSW_CHSTAT h_PRT_GCAUSE h_PRT_GSTAT h_PRT_IAPP h_PRT_VAPP c_lsw c_prt, actInOff_writes (P := P) h_EVT_PEND h_LPE_BATCH h_LPE_BSTAT h_LPE_LOAD h_LPE_STAT h_LPE_TLOAD h_LSW_CHSTAT h_PRT_GCAUSE h_PRT_GSTAT h_PRT_IAPP h_PRT_VAPP h_SFY_COIL h_SFY_PSTAT h_SFY_STAT c_lpe c_lsw c_prt, State.setPg_writes (P := P) c_prt, State.without_ite, ite_self]

include h_SFY_COIL in
theorem coilOff_writes (n : Nat) (s : State) :
    (coilOff n s).without P = s.without P := by
  unfold coilOff
  simp only [State.w_setB (fl := Fl.SFY_COIL_PULLIN) h_SFY_COIL (by decide),
      State.w_setB (fl := Fl.SFY_COIL_ON) h_SFY_COIL (by decide), State.without_ite, ite_self]

include h_SFY_COIL h_SFY_PSTAT in
theorem openRequest_writes (p : Nat) (pos : Bool) (neg : Bool) (s : State) :
    (openRequest p pos neg s).without P = s.without P := by
  have h : ∀ (pole : Pole) (s : State), ((coilOff (s.poleCoil p pole) s).setB (poleCmd pole) p false).without P =
      s.without P := fun pole s => by
    cases pole <;> simp only [poleCmd, State.w_setB (fl := Fl.SFY_PSTAT_POSCMD) h_SFY_PSTAT (by decide),
        State.w_setB (fl := Fl.SFY_PSTAT_NEGCMD) h_SFY_PSTAT (by decide), refreshPort_writes (P := P) h_SFY_PSTAT,
        coilOff_writes (P := P) h_SFY_COIL, State.without_ite, ite_self]
  unfold openRequest
  split
  · simp only [State.without_eachOf h, refreshPort_writes (P := P) h_SFY_PSTAT, coilOff_writes (P := P) h_SFY_COIL,
      State.without_ite, ite_self]
  · rfl

include h_EVT_PEND h_LSW_CHSTAT h_PRT_GCAUSE h_PRT_GSTAT h_PRT_IAPP h_PRT_VAPP h_SFY_COIL h_SFY_PSTAT c_lsw c_prt in
theorem toOpening_writes (g : Nat) (s : State) :
    (toOpening g s).without P = s.without P := by
  unfold toOpening
  (repeat' split) <;> simp only [State.without_upd_lsw c_lsw, State.without_upd_prt c_prt,
      toState_writes (P := P) h_EVT_PEND h_LSW_CHSTAT h_PRT_GCAUSE h_PRT_GSTAT h_PRT_IAPP h_PRT_VAPP c_lsw c_prt,
      openRequest_writes (P := P) h_SFY_COIL h_SFY_PSTAT, State.without_ite, ite_self]

include h_EVT_PEND h_LPE_BATCH h_LPE_BSTAT h_LPE_LOAD h_LPE_STAT h_LPE_TLOAD h_LSW_CHSTAT h_PRT_GCAUSE h_PRT_GSTAT
    h_PRT_IAPP h_PRT_VAPP c_lpe c_lsw c_prt in
theorem toPrecharge_writes (g : Nat) (s : State) :
    (toPrecharge g s).without P = s.without P := by
  unfold toPrecharge
  simp only [State.without_upd_lpe c_lpe, State.without_upd_lsw c_lsw, State.without_upd_prt c_prt,
      State.setPg_writes (P := P) c_prt,
      setMode_writes (P := P) h_EVT_PEND h_LPE_BATCH h_LPE_BSTAT h_LPE_LOAD h_LPE_STAT h_LPE_TLOAD h_LSW_CHSTAT h_PRT_GCAUSE h_PRT_GSTAT h_PRT_IAPP h_PRT_VAPP c_lpe c_lsw c_prt, toState_writes (P := P) h_EVT_PEND h_LSW_CHSTAT h_PRT_GCAUSE h_PRT_GSTAT h_PRT_IAPP h_PRT_VAPP c_lsw c_prt, State.without_ite, ite_self]

include h_PRT_GSTAT c_prt in
theorem pendOrRefuse_writes (g : Nat) (op : Nat) (mode : Nat) (s : State) :
    (pendOrRefuse g op mode s).without P = s.without P := by
  unfold pendOrRefuse
  simp only [State.w_setB (fl := Fl.PRT_GSTAT_PEND) h_PRT_GSTAT (by decide), State.without_upd_prt c_prt,
      State.setPg_writes (P := P) c_prt, cmdRefuse_writes (P := P) h_PRT_GSTAT, State.without_ite, ite_self]

include h_EVT_PEND h_LPE_BATCH h_LPE_BSTAT h_LPE_LOAD h_LPE_STAT h_LPE_TLOAD h_LSW_CHSTAT h_PRT_GCAUSE h_PRT_GSTAT
    h_PRT_IAPP h_PRT_VAPP h_SFY_COIL h_SFY_PSTAT h_SFY_STAT c_lpe c_lsw c_prt in
theorem groupCommand_writes (g : Nat) (op : Nat) (mode : Nat) (s : State) :
    (groupCommand g op mode s).without P = s.without P := by
  unfold groupCommand
  simp only [State.w_setF (fl := Fl.PRT_GSTAT_REEFREQ) h_PRT_GSTAT (by decide), State.without_upd_lpe c_lpe,
      State.without_upd_lsw c_lsw, State.without_upd_prt c_prt, cmdRefuse_writes (P := P) h_PRT_GSTAT,
      offWithPending_writes (P := P) h_EVT_PEND h_LPE_BATCH h_LPE_BSTAT h_LPE_LOAD h_LPE_STAT h_LPE_TLOAD h_LSW_CHSTAT h_PRT_GCAUSE h_PRT_GSTAT h_PRT_IAPP h_PRT_VAPP h_SFY_COIL h_SFY_PSTAT h_SFY_STAT c_lpe c_lsw c_prt, dropPending_writes (P := P) h_PRT_GSTAT c_prt, groupStopAct_writes (P := P) h_EVT_PEND h_LSW_CHSTAT h_PRT_GCAUSE h_PRT_GSTAT h_PRT_IAPP h_PRT_VAPP c_lsw c_prt, toOpening_writes (P := P) h_EVT_PEND h_LSW_CHSTAT h_PRT_GCAUSE h_PRT_GSTAT h_PRT_IAPP h_PRT_VAPP h_SFY_COIL h_SFY_PSTAT c_lsw c_prt, setMode_writes (P := P) h_EVT_PEND h_LPE_BATCH h_LPE_BSTAT h_LPE_LOAD h_LPE_STAT h_LPE_TLOAD h_LSW_CHSTAT h_PRT_GCAUSE h_PRT_GSTAT h_PRT_IAPP h_PRT_VAPP c_lpe c_lsw c_prt, toDischarge_writes (P := P) h_EVT_PEND h_LSW_CHSTAT h_PRT_GCAUSE h_PRT_GSTAT h_PRT_IAPP h_PRT_VAPP c_lsw c_prt, actInOff_writes (P := P) h_EVT_PEND h_LPE_BATCH h_LPE_BSTAT h_LPE_LOAD h_LPE_STAT h_LPE_TLOAD h_LSW_CHSTAT h_PRT_GCAUSE h_PRT_GSTAT h_PRT_IAPP h_PRT_VAPP h_SFY_COIL h_SFY_PSTAT h_SFY_STAT c_lpe c_lsw c_prt, toPrecharge_writes (P := P) h_EVT_PEND h_LPE_BATCH h_LPE_BSTAT h_LPE_LOAD h_LPE_STAT h_LPE_TLOAD h_LSW_CHSTAT h_PRT_GCAUSE h_PRT_GSTAT h_PRT_IAPP h_PRT_VAPP c_lpe c_lsw c_prt, toRun_writes (P := P) h_EVT_PEND h_LPE_BATCH h_LPE_BSTAT h_LPE_LOAD h_LPE_STAT h_LPE_TLOAD h_LSW_CHSTAT h_PRT_GCAUSE h_PRT_GSTAT h_PRT_IAPP h_PRT_VAPP c_lpe c_lsw c_prt, pendOrRefuse_writes (P := P) h_PRT_GSTAT c_prt, State.without_ite, ite_self]

include h_EVT_PEND h_LPE_BATCH h_LPE_BSTAT h_LPE_LOAD h_LPE_STAT h_LPE_TLOAD h_LSW_CHSTAT h_PRT_GCAUSE h_PRT_GCMD
    h_PRT_GSTAT h_PRT_IAPP h_PRT_VAPP h_SFY_COIL h_SFY_PSTAT h_SFY_STAT c_lpe c_lsw c_prt in
theorem portCmd_writes (op : Nat) (mode : Nat) (c : Nat) (s : State) :
    (portCmd op mode c s).without P = s.without P := by
  unfold portCmd
  simp only [State.w_setF (fl := Fl.PRT_GCMD_MODE) h_PRT_GCMD (by decide), State.without_upd_lpe c_lpe,
      State.without_upd_lsw c_lsw, State.without_upd_prt c_prt,
      groupCommand_writes (P := P) h_EVT_PEND h_LPE_BATCH h_LPE_BSTAT h_LPE_LOAD h_LPE_STAT h_LPE_TLOAD h_LSW_CHSTAT h_PRT_GCAUSE h_PRT_GSTAT h_PRT_IAPP h_PRT_VAPP h_SFY_COIL h_SFY_PSTAT h_SFY_STAT c_lpe c_lsw c_prt, State.without_ite, ite_self]

include h_EVT_PEND h_LPE_BATCH h_LPE_BSTAT h_LPE_LOAD h_LPE_STAT h_LPE_TLOAD h_LSW_CHSTAT h_PRT_GCAUSE h_PRT_GCMD
    h_PRT_GSTAT h_PRT_IAPP h_PRT_VAPP h_SFY_COIL h_SFY_PSTAT h_SFY_STAT c_lpe c_lsw c_prt in
theorem stopPort_writes (c : Nat) (s : State) :
    (stopPort c s).without P = s.without P := by
  unfold stopPort
  simp only [State.without_upd_lpe c_lpe, State.without_upd_lsw c_lsw, State.without_upd_prt c_prt,
      portCmd_writes (P := P) h_EVT_PEND h_LPE_BATCH h_LPE_BSTAT h_LPE_LOAD h_LPE_STAT h_LPE_TLOAD h_LSW_CHSTAT h_PRT_GCAUSE h_PRT_GCMD h_PRT_GSTAT h_PRT_IAPP h_PRT_VAPP h_SFY_COIL h_SFY_PSTAT h_SFY_STAT c_lpe c_lsw c_prt, State.without_ite, ite_self]

include h_LSW_CHSTAT c_lsw in
theorem forceCooling_writes (p : Nat) (on : Bool) (s : State) :
    (forceCooling p on s).without P = s.without P := by
  unfold forceCooling
  (try simp only [chRequest_writes h_LSW_CHSTAT c_lsw Fl.LSW_CHSTAT_FORCE rfl, State.without_upd_lsw c_lsw,
      chRequest_writes (P := P) h_LSW_CHSTAT c_lsw, State.without_ite,
      ite_self]) <;> (repeat' split) <;> (try simp only [chRequest_writes h_LSW_CHSTAT c_lsw Fl.LSW_CHSTAT_FORCE rfl,
      State.without_upd_lsw c_lsw, chRequest_writes (P := P) h_LSW_CHSTAT c_lsw, State.without_ite, ite_self])

include h_VEH_FE h_VEH_STAT in
theorem dropPlc_writes (f : Nat) (s : State) :
    (dropPlc f s).without P = s.without P := by
  unfold dropPlc
  (try simp only [State.w_setF (fl := Fl.VEH_STAT_PLCWAIT) h_VEH_STAT (by decide),
      State.w_setF (fl := Fl.VEH_FE_PLC) h_VEH_FE (by decide),
      State.w_setFBit (fl := Fl.VEH_STAT_PLCWAIT) h_VEH_STAT (by decide),
      State.w_setFBit (fl := Fl.VEH_FE_PLC) h_VEH_FE (by decide), showPlc_writes (P := P) h_VEH_STAT,
      takePlc_writes (P := P) h_VEH_FE h_VEH_STAT, State.without_ite,
      ite_self]) <;> (repeat' split) <;> simp only [State.w_setF (fl := Fl.VEH_STAT_PLCWAIT) h_VEH_STAT (by decide),
      State.w_setF (fl := Fl.VEH_FE_PLC) h_VEH_FE (by decide),
      State.w_setFBit (fl := Fl.VEH_STAT_PLCWAIT) h_VEH_STAT (by decide),
      State.w_setFBit (fl := Fl.VEH_FE_PLC) h_VEH_FE (by decide), showPlc_writes (P := P) h_VEH_STAT,
      takePlc_writes (P := P) h_VEH_FE h_VEH_STAT, State.without_ite, ite_self]

include h_EVT_PEND h_LSW_CHSTAT h_PRT_GCAUSE h_VEH_FE h_VEH_SSTAT h_VEH_STAT c_lsw c_sig c_veh in
theorem toEnd_writes (c : Nat) (s : State) :
    (toEnd c s).without P = s.without P := by
  unfold toEnd
  (try simp only [State.without_upd_lsw c_lsw, State.without_upd_sig c_sig, State.without_upd_veh c_veh,
      forceCooling_writes (P := P) h_LSW_CHSTAT c_lsw, closeLink_writes (P := P) h_VEH_SSTAT c_veh,
      toSession_writes (P := P) h_EVT_PEND h_PRT_GCAUSE h_VEH_SSTAT c_veh,
      dropPlc_writes (P := P) h_VEH_FE h_VEH_STAT, State.without_when_if, State.without_ite,
      ite_self]) <;> (repeat' split) <;> simp only [State.without_upd_lsw c_lsw, State.without_upd_sig c_sig,
      State.without_upd_veh c_veh, forceCooling_writes (P := P) h_LSW_CHSTAT c_lsw,
      closeLink_writes (P := P) h_VEH_SSTAT c_veh,
      toSession_writes (P := P) h_EVT_PEND h_PRT_GCAUSE h_VEH_SSTAT c_veh,
      dropPlc_writes (P := P) h_VEH_FE h_VEH_STAT, State.without_when_if, State.without_ite, ite_self]

include h_ALC_PAPPLIED h_PRT_ISHEET in
theorem setSheet_writes (p : Nat) (v : Nat) (s : State) :
    (setSheet p v s).without P = s.without P := by
  unfold setSheet
  simp only [State.w_setF (fl := Fl.ALC_PAPPLIED_APPLIED) h_ALC_PAPPLIED (by decide),
      State.w_setF (fl := Fl.PRT_ISHEET_SHEET) h_PRT_ISHEET (by decide), State.without_ite, ite_self]

include c_host in
theorem State.sendMsi_writes (s : State) (lines : Nat) :
    (State.sendMsi s lines).without P = s.without P := by
  unfold State.sendMsi
  simp only [State.without_upd_host c_host, State.without_ite, ite_self]

include h_SYS_PWRCTL h_SYS_PWRSTAT h_SYS_WAKESRC c_sys in
theorem State.wake_writes (s : State) (src : Nat) :
    (State.wake s src).without P = s.without P := by
  unfold State.wake
  (repeat' split) <;> simp only [State.w_setF (fl := Fl.SYS_PWRSTAT_WAKE_PEND) h_SYS_PWRSTAT (by decide),
      State.w_setF (fl := Fl.SYS_PWRSTAT_BUSY) h_SYS_PWRSTAT (by decide),
      State.w_setF (fl := Fl.SYS_PWRCTL_REQ) h_SYS_PWRCTL (by decide),
      State.w_setF (fl := Fl.SYS_PWRSTAT_FURL_ARMED) h_SYS_PWRSTAT (by decide),
      State.w_setF (fl := Fl.SYS_WAKESRC_SRC) h_SYS_WAKESRC (by decide), State.without_upd_sys c_sys,
      State.without_ite, ite_self]

include c_busError in
theorem busFault_writes (s : State) :
    (busFault s).without P = s.without P := by
  unfold busFault
  simp only [State.without_upd_busError c_busError, State.without_ite, ite_self]

include h_EVT_PEND in
theorem eventClear_writes (j : Nat) (mask : Nat) (s : State) :
    (eventClear j mask s).without P = s.without P := by
  unfold eventClear
  simp only [State.w_setF (fl := Fl.EVT_PEND_PEND) h_EVT_PEND (by decide), State.without_ite, ite_self]

include h_EVT_PEND in
theorem hostEventClear_writes (j : Nat) (mask : Nat) (s : State) :
    (hostEventClear j mask s).without P = s.without P := by
  unfold hostEventClear
  simp only [eventClear_writes (P := P) h_EVT_PEND, State.without_ite, ite_self]

include c_host in
theorem lineAck_writes (mask : Nat) (s : State) :
    (lineAck mask s).without P = s.without P := by
  unfold lineAck
  simp only [State.without_upd_host c_host, State.sendMsi_writes (P := P) c_host, State.without_ite, ite_self]

theorem plainWrite_writes {P : Part} {r : Rg} (h : P.regs r.addr = true) (hc : r.count ≤ 65536) (i : Nat) (v : Word)
    (s : State) :
    (plainWrite r i v s).without P = s.without P := by
  unfold plainWrite; exact State.w_setReg h hc _ _ _

include c_host in
theorem ringReturn_writes (n : Nat) (cnt : Nat) (s : State) :
    (ringReturn n cnt s).without P = s.without P := by
  unfold ringReturn
  simp only [State.without_upd_host c_host, State.without_ite, ite_self]

include h_HST_QSTAT h_HST_STAT in
theorem showInflight_writes (q : Nat) (s : State) :
    (showInflight q s).without P = s.without P := by
  unfold showInflight
  simp only [State.w_setF (fl := Fl.HST_STAT_INFLIGHT) h_HST_STAT (by decide),
      State.w_setF (fl := Fl.HST_QSTAT_INFL) h_HST_QSTAT (by decide), State.without_ite, ite_self]

include h_HST_OPSTAT h_HST_QSTAT h_HST_STAT c_host in
theorem putOp_writes (k : Nat) (o : HostOp) (s : State) :
    (putOp k o s).without P = s.without P := by
  unfold putOp
  simp only [State.w_setF (fl := Fl.HST_OPSTAT_TAG) h_HST_OPSTAT (by decide),
      State.w_setF (fl := Fl.HST_OPSTAT_OP) h_HST_OPSTAT (by decide),
      State.w_setF (fl := Fl.HST_OPSTAT_STATE) h_HST_OPSTAT (by decide),
      State.w_setF (fl := Fl.HST_OPSTAT_QID) h_HST_OPSTAT (by decide), State.without_upd_host c_host,
      showInflight_writes (P := P) h_HST_QSTAT h_HST_STAT, State.without_ite, ite_self]

include h_HST_CQHEAD h_HST_CQTAIL h_HST_QSTAT h_HST_SQHEAD h_HST_SQTAIL c_host in
theorem queueStart_writes (q : Nat) (s : State) :
    (queueStart q s).without P = s.without P := by
  unfold queueStart
  simp only [State.w_setF (fl := Fl.HST_QSTAT_STATE) h_HST_QSTAT (by decide),
      State.w_setF (fl := Fl.HST_CQHEAD_HEAD) h_HST_CQHEAD (by decide),
      State.w_setF (fl := Fl.HST_CQTAIL_TAIL) h_HST_CQTAIL (by decide),
      State.w_setF (fl := Fl.HST_SQHEAD_HEAD) h_HST_SQHEAD (by decide),
      State.w_setF (fl := Fl.HST_SQTAIL_TAIL) h_HST_SQTAIL (by decide), State.without_upd_host c_host,
      State.without_ite, ite_self]

include h_HST_CQHEAD h_HST_CQTAIL h_HST_QSTAT h_HST_SQHEAD h_HST_SQTAIL c_host in
theorem queueSettle_writes (q : Nat) (s : State) :
    (queueSettle q s).without P = s.without P := by
  unfold queueSettle
  (repeat' split) <;> simp only [State.w_setF (fl := Fl.HST_CQHEAD_HEAD) h_HST_CQHEAD (by decide),
      State.w_setF (fl := Fl.HST_CQTAIL_TAIL) h_HST_CQTAIL (by decide),
      State.w_setF (fl := Fl.HST_SQHEAD_HEAD) h_HST_SQHEAD (by decide),
      State.w_setF (fl := Fl.HST_SQTAIL_TAIL) h_HST_SQTAIL (by decide),
      State.w_setF (fl := Fl.HST_QSTAT_STATE) h_HST_QSTAT (by decide), State.without_upd_host c_host,
      queueStart_writes (P := P) h_HST_CQHEAD h_HST_CQTAIL h_HST_QSTAT h_HST_SQHEAD h_HST_SQTAIL c_host,
      State.without_ite, ite_self]

include h_HST_CQHEAD h_HST_CQTAIL h_HST_OPSTAT h_HST_OPSTEPS h_HST_QSTAT h_HST_SQHEAD h_HST_SQTAIL h_HST_STAT c_host
    c_sig in
theorem freeOp_writes (k : Nat) (s : State) :
    (freeOp k s).without P = s.without P := by
  unfold freeOp
  simp only [State.w_setReg (r := R.HST_OPSTEPS) h_HST_OPSTEPS (by decide),
      State.w_setReg (r := R.HST_OPSTAT) h_HST_OPSTAT (by decide), State.without_upd_sig_host c_sig c_host,
      State.without_upd_host c_host, State.without_upd_sig c_sig,
      queueSettle_writes (P := P) h_HST_CQHEAD h_HST_CQTAIL h_HST_QSTAT h_HST_SQHEAD h_HST_SQTAIL c_host,
      showInflight_writes (P := P) h_HST_QSTAT h_HST_STAT, State.without_ite, ite_self]

include h_EVT_PEND h_HST_STAT in
theorem hstCause_writes (j : Nat) (s : State) :
    (hstCause j s).without P = s.without P := by
  unfold hstCause
  simp only [State.w_causeOn (fl := Fl.HST_STAT_CAUSE) h_EVT_PEND h_HST_STAT (by decide), State.without_ite, ite_self]

include h_EVT_PEND h_HST_CQHEAD h_HST_CQMEM h_HST_CQTAIL h_HST_OPSTAT h_HST_OPSTEPS h_HST_QSTAT h_HST_SQHEAD
    h_HST_SQTAIL h_HST_STAT c_host c_sig in
theorem writeCompletion_writes (k : Nat) (s : State) :
    (writeCompletion k s).without P = s.without P := by
  unfold writeCompletion
  (repeat' split) <;> simp only [State.w_setF (fl := Fl.HST_CQTAIL_TAIL) h_HST_CQTAIL (by decide),
      State.w_setFM (r := R.HST_CQMEM) h_HST_CQMEM (by decide),
      State.w_setReg (r := R.HST_CQMEM) h_HST_CQMEM (by decide), State.without_upd_host c_host,
      State.without_upd_sig c_sig,
      freeOp_writes (P := P) h_HST_CQHEAD h_HST_CQTAIL h_HST_OPSTAT h_HST_OPSTEPS h_HST_QSTAT h_HST_SQHEAD h_HST_SQTAIL h_HST_STAT c_host c_sig, hstCause_writes (P := P) h_EVT_PEND h_HST_STAT, State.without_when_if, State.without_ite, ite_self]

include h_EVT_PEND h_HST_CQHEAD h_HST_CQMEM h_HST_CQTAIL h_HST_OPSTAT h_HST_OPSTEPS h_HST_QSTAT h_HST_SQHEAD
    h_HST_SQTAIL h_HST_STAT c_host c_sig in
theorem completeThrough_writes (k : Nat) (s : State) :
    (completeThrough k s).without P = s.without P := by
  unfold completeThrough
  simp (disch := (intros; simp only [State.without_upd_host c_host, State.without_upd_sig c_sig, writeCompletion_writes (P := P) h_EVT_PEND h_HST_CQHEAD h_HST_CQMEM h_HST_CQTAIL h_HST_OPSTAT h_HST_OPSTEPS h_HST_QSTAT h_HST_SQHEAD h_HST_SQTAIL h_HST_STAT c_host c_sig, State.without_ite, ite_self]; done)) only [State.without_each, State.without_eachOf, State.without_upd_host c_host, State.without_upd_sig c_sig, writeCompletion_writes (P := P) h_EVT_PEND h_HST_CQHEAD h_HST_CQMEM h_HST_CQTAIL h_HST_OPSTAT h_HST_OPSTEPS h_HST_QSTAT h_HST_SQHEAD h_HST_SQTAIL h_HST_STAT c_host c_sig, State.without_ite, ite_self]

include h_EVT_PEND h_HST_OPSTAT h_HST_QSTAT h_HST_STAT c_host in
theorem endOp_writes (k : Nat) (status : Nat) (r0 : Word) (r1 : Word) (s : State) :
    (endOp k status r0 r1 s).without P = s.without P := by
  unfold endOp
  (repeat' split) <;> simp only [State.without_upd_host c_host,
      putOp_writes (P := P) h_HST_OPSTAT h_HST_QSTAT h_HST_STAT c_host,
      hstCause_writes (P := P) h_EVT_PEND h_HST_STAT, State.without_when_if, State.without_ite, ite_self]

include h_EVT_PEND h_HST_CQHEAD h_HST_CQMEM h_HST_CQTAIL h_HST_OPSTAT h_HST_OPSTEPS h_HST_QSTAT h_HST_SQHEAD
    h_HST_SQTAIL h_HST_STAT c_host c_sig in
theorem completeNow_writes (k : Nat) (status : Nat) (r0 : Word) (r1 : Word) (s : State) :
    (completeNow k status r0 r1 s).without P = s.without P := by
  unfold completeNow
  simp only [State.without_upd_host c_host, State.without_upd_sig c_sig,
      completeThrough_writes (P := P) h_EVT_PEND h_HST_CQHEAD h_HST_CQMEM h_HST_CQTAIL h_HST_OPSTAT h_HST_OPSTEPS h_HST_QSTAT h_HST_SQHEAD h_HST_SQTAIL h_HST_STAT c_host c_sig, endOp_writes (P := P) h_EVT_PEND h_HST_OPSTAT h_HST_QSTAT h_HST_STAT c_host, State.without_ite, ite_self]

include h_EVT_PEND h_HST_CQHEAD h_HST_CQMEM h_HST_CQTAIL h_HST_HCSTAT h_HST_OPSTAT h_HST_OPSTEPS h_HST_QSTAT
    h_HST_SQHEAD h_HST_SQTAIL h_HST_STAT c_host c_sig in
theorem hartCompletion_writes (n : Nat) (s : State) :
    (hartCompletion n s).without P = s.without P := by
  unfold hartCompletion
  split
  · rfl
  dsimp only
  split
  · rw [completeNow_writes (P := P) h_EVT_PEND h_HST_CQHEAD h_HST_CQMEM h_HST_CQTAIL h_HST_OPSTAT h_HST_OPSTEPS h_HST_QSTAT h_HST_SQHEAD h_HST_SQTAIL h_HST_STAT c_host c_sig]
    split
    · rfl
    · exact putOp_writes (P := P) h_HST_OPSTAT h_HST_QSTAT h_HST_STAT c_host _ _ _
  · split <;> simp only [State.w_setB (fl := Fl.HST_HCSTAT_LATE) h_HST_HCSTAT (by decide),
      State.w_setB (fl := Fl.HST_HCSTAT_ERR) h_HST_HCSTAT (by decide), State.without_upd_host c_host,
      State.without_upd_sig c_sig, putOp_writes (P := P) h_HST_OPSTAT h_HST_QSTAT h_HST_STAT c_host,
      completeNow_writes (P := P) h_EVT_PEND h_HST_CQHEAD h_HST_CQMEM h_HST_CQTAIL h_HST_OPSTAT h_HST_OPSTEPS h_HST_QSTAT h_HST_SQHEAD h_HST_SQTAIL h_HST_STAT c_host c_sig, State.without_ite, ite_self]

include h_EVT_PEND h_HST_QSTAT h_HST_SQTAIL h_HST_STAT h_SYS_PWRCTL h_SYS_PWRSTAT h_SYS_WAKESRC c_sys in
theorem doorbell_writes (q : Nat) (tail : Nat) (s : State) :
    (doorbell q tail s).without P = s.without P := by
  unfold doorbell
  simp only [State.w_setF (fl := Fl.HST_QSTAT_ERR) h_HST_QSTAT (by decide),
      State.w_setF (fl := Fl.HST_SQTAIL_TAIL) h_HST_SQTAIL (by decide),
      State.w_setB (fl := Fl.HST_QSTAT_ERR) h_HST_QSTAT (by decide),
      State.w_setB (fl := Fl.HST_SQTAIL_TAIL) h_HST_SQTAIL (by decide), State.without_upd_sys c_sys,
      hstCause_writes (P := P) h_EVT_PEND h_HST_STAT,
      State.wake_writes (P := P) h_SYS_PWRCTL h_SYS_PWRSTAT h_SYS_WAKESRC c_sys, State.without_ite, ite_self]

include h_HST_CQHEAD in
theorem completionReturn_writes (q : Nat) (head : Nat) (s : State) :
    (completionReturn q head s).without P = s.without P := by
  unfold completionReturn
  simp only [State.w_setF (fl := Fl.HST_CQHEAD_HEAD) h_HST_CQHEAD (by decide), State.without_ite, ite_self]

include h_HST_CQHEAD h_HST_CQTAIL h_HST_QCFG h_HST_QSTAT h_HST_SQHEAD h_HST_SQTAIL c_host in
theorem queueEnable_writes (q : Nat) (s : State) :
    (queueEnable q s).without P = s.without P := by
  unfold queueEnable
  (try simp only [State.w_setF (fl := Fl.HST_QCFG_EN) h_HST_QCFG (by decide),
      State.w_setF (fl := Fl.HST_QSTAT_STATE) h_HST_QSTAT (by decide),
      State.w_setB (fl := Fl.HST_QCFG_EN) h_HST_QCFG (by decide),
      State.w_setB (fl := Fl.HST_QSTAT_STATE) h_HST_QSTAT (by decide), State.without_upd_host c_host,
      queueStart_writes (P := P) h_HST_CQHEAD h_HST_CQTAIL h_HST_QSTAT h_HST_SQHEAD h_HST_SQTAIL c_host,
      State.without_ite,
      ite_self]) <;> (repeat' split) <;> simp only [State.w_setF (fl := Fl.HST_QCFG_EN) h_HST_QCFG (by decide),
      State.w_setF (fl := Fl.HST_QSTAT_STATE) h_HST_QSTAT (by decide),
      State.w_setB (fl := Fl.HST_QCFG_EN) h_HST_QCFG (by decide),
      State.w_setB (fl := Fl.HST_QSTAT_STATE) h_HST_QSTAT (by decide), State.without_upd_host c_host,
      queueStart_writes (P := P) h_HST_CQHEAD h_HST_CQTAIL h_HST_QSTAT h_HST_SQHEAD h_HST_SQTAIL c_host,
      State.without_ite, ite_self]

include h_HST_CQHEAD h_HST_CQTAIL h_HST_QCFG h_HST_QSTAT h_HST_SQHEAD h_HST_SQTAIL c_host in
theorem queueDisable_writes (q : Nat) (s : State) :
    (queueDisable q s).without P = s.without P := by
  unfold queueDisable
  (try simp only [State.w_setF (fl := Fl.HST_QCFG_EN) h_HST_QCFG (by decide),
      State.w_setF (fl := Fl.HST_QSTAT_STATE) h_HST_QSTAT (by decide),
      State.w_setB (fl := Fl.HST_QCFG_EN) h_HST_QCFG (by decide),
      State.w_setB (fl := Fl.HST_QSTAT_STATE) h_HST_QSTAT (by decide), State.without_upd_host c_host,
      queueSettle_writes (P := P) h_HST_CQHEAD h_HST_CQTAIL h_HST_QSTAT h_HST_SQHEAD h_HST_SQTAIL c_host,
      State.without_ite,
      ite_self]) <;> (repeat' split) <;> simp only [State.w_setF (fl := Fl.HST_QCFG_EN) h_HST_QCFG (by decide),
      State.w_setF (fl := Fl.HST_QSTAT_STATE) h_HST_QSTAT (by decide),
      State.w_setB (fl := Fl.HST_QCFG_EN) h_HST_QCFG (by decide),
      State.w_setB (fl := Fl.HST_QSTAT_STATE) h_HST_QSTAT (by decide), State.without_upd_host c_host,
      queueSettle_writes (P := P) h_HST_CQHEAD h_HST_CQTAIL h_HST_QSTAT h_HST_SQHEAD h_HST_SQTAIL c_host,
      State.without_ite, ite_self]

include c_harts in
theorem State.setHart_writes (s : State) (n : Nat) (f : HartCtx → HartCtx) :
    (State.setHart s n f).without P = s.without P := by
  unfold State.setHart
  simp only [State.without_upd_harts c_harts, State.without_ite, ite_self]

include c_harts in
theorem dropReservation_writes (own : Option Nat) (a : Nat) (n : Nat) (k : Nat) (s : State) :
    (dropReservation own a n k s).without P = s.without P := by
  unfold dropReservation
  (repeat' split) <;> simp only [State.without_upd_harts c_harts, State.setHart_writes (P := P) c_harts,
      State.without_ite, ite_self]

include c_harts in
theorem dropReservations_writes (own : Option Nat) (a : Nat) (n : Nat) (s : State) :
    (dropReservations own a n s).without P = s.without P := by
  unfold dropReservations
  simp (disch := (intros; simp only [State.without_upd_harts c_harts, dropReservation_writes (P := P) c_harts, State.without_ite, ite_self]; done)) only [State.without_each, State.without_eachOf, State.without_upd_harts c_harts, dropReservation_writes (P := P) c_harts, State.without_ite, ite_self]

include c_mem in
theorem State.setByte_writes (s : State) (a : Nat) (v : Byte) :
    (State.setByte s a v).without P = s.without P := by
  unfold State.setByte
  simp only [State.without_upd_mem c_mem, State.without_ite, ite_self]

include c_mem in
theorem State.setBytes_writes (s : State) (a : Nat) (l : List Byte) :
    (State.setBytes s a l).without P = s.without P := by
  induction l generalizing s a with
  | nil => rfl
  | cons v l ih => simp only [State.setBytes, ih, State.without_upd_mem c_mem, State.setByte_writes (P := P) c_mem,
      State.without_ite, ite_self]

include c_harts c_mem in
theorem State.dma_writes (s : State) (a : Nat) (l : List Byte) :
    (State.dma s a l).without P = s.without P := by
  unfold State.dma
  simp only [State.without_upd_harts c_harts, State.without_upd_mem c_mem, dropReservations_writes (P := P) c_harts,
      State.setBytes_writes (P := P) c_mem, State.without_ite, ite_self]

include h_HST_STAT in
theorem showPort_writes (s : State) :
    (showPort s).without P = s.without P := by
  unfold showPort
  simp only [State.w_setF (fl := Fl.HST_STAT_PORT) h_HST_STAT (by decide), State.without_ite, ite_self]

include h_SYS_PWRCTL in
theorem showReq_writes (s : State) :
    (showReq s).without P = s.without P := by
  unfold showReq
  simp only [State.w_setF (fl := Fl.SYS_PWRCTL_REQ) h_SYS_PWRCTL (by decide), State.without_ite, ite_self]

include h_SYS_PWRCTL h_SYS_PWRSTAT c_sys in
theorem startTransition_writes (t : Nat) (committed : Bool) (s : State) :
    (startTransition t committed s).without P = s.without P := by
  unfold startTransition
  simp only [State.w_setF (fl := Fl.SYS_PWRCTL_REQ) h_SYS_PWRCTL (by decide),
      State.w_setF (fl := Fl.SYS_PWRSTAT_BUSY) h_SYS_PWRSTAT (by decide),
      State.w_setB (fl := Fl.SYS_PWRCTL_REQ) h_SYS_PWRCTL (by decide),
      State.w_setB (fl := Fl.SYS_PWRSTAT_BUSY) h_SYS_PWRSTAT (by decide), State.without_upd_sys c_sys,
      State.without_ite, ite_self]

include h_EVT_PEND h_SYS_PWRCTL h_SYS_PWRSTAT c_sys in
theorem requestState_writes (t : Nat) (s : State) :
    (requestState t s).without P = s.without P := by
  unfold requestState
  (repeat' split) <;> simp only [State.w_setF (fl := Fl.SYS_PWRSTAT_BUSY) h_SYS_PWRSTAT (by decide),
      State.w_setF (fl := Fl.SYS_PWRSTAT_REFUSE) h_SYS_PWRSTAT (by decide),
      State.w_setB (fl := Fl.SYS_PWRSTAT_BUSY) h_SYS_PWRSTAT (by decide),
      State.w_setB (fl := Fl.SYS_PWRSTAT_REFUSE) h_SYS_PWRSTAT (by decide), State.without_raise h_EVT_PEND,
      State.without_upd_sys c_sys, showReq_writes (P := P) h_SYS_PWRCTL,
      startTransition_writes (P := P) h_SYS_PWRCTL h_SYS_PWRSTAT c_sys, State.without_ite, ite_self]

include h_SYS_RSTCAUSE in
theorem addCause_writes (bits : Nat) (s : State) :
    (addCause bits s).without P = s.without P := by
  unfold addCause
  simp only [State.w_setReg (r := R.SYS_RSTCAUSE) h_SYS_RSTCAUSE (by decide), State.without_ite, ite_self]

include h_SFY_PSTAT c_sfy in
theorem demandPort_writes (trel : Nat) (stop : Bool) (p : Nat) (s : State) :
    (demandPort trel stop p s).without P = s.without P := by
  unfold demandPort
  simp only [State.without_upd_sfy c_sfy, State.setSp_writes (P := P) c_sfy, refreshPort_writes (P := P) h_SFY_PSTAT,
      State.without_when_if, State.without_ite, ite_self]

include h_SFY_PSTAT c_sfy in
theorem releaseAll_writes (dual : Bool) (s : State) :
    (releaseAll dual s).without P = s.without P := by
  unfold releaseAll
  simp (disch := (intros; simp only [State.without_upd_sfy c_sfy, demandPort_writes (P := P) h_SFY_PSTAT c_sfy, State.setSp_writes (P := P) c_sfy, State.without_when_if, State.without_ite, ite_self]; done)) only [State.without_each, State.without_eachOf, State.without_upd_sfy c_sfy, demandPort_writes (P := P) h_SFY_PSTAT c_sfy, State.setSp_writes (P := P) c_sfy, State.without_when_if, State.without_ite, ite_self]

include h_SFY_PSTAT h_SYS_RSTCAUSE c_sfy c_sys in
theorem softwareCold_writes (s : State) :
    (softwareCold s).without P = s.without P := by
  unfold softwareCold
  simp only [State.without_upd_sfy c_sfy, State.without_upd_sys c_sys, addCause_writes (P := P) h_SYS_RSTCAUSE,
      releaseAll_writes (P := P) h_SFY_PSTAT c_sfy, State.without_ite, ite_self]

include h_SYS_WDTCTL c_sys in
theorem watchdogWrite_writes (en : Bool) (timeout : Nat) (s : State) :
    (watchdogWrite en timeout s).without P = s.without P := by
  unfold watchdogWrite
  simp only [State.w_setF (fl := Fl.SYS_WDTCTL_TIMEOUT) h_SYS_WDTCTL (by decide),
      State.w_setF (fl := Fl.SYS_WDTCTL_EN) h_SYS_WDTCTL (by decide),
      State.w_setB (fl := Fl.SYS_WDTCTL_TIMEOUT) h_SYS_WDTCTL (by decide),
      State.w_setB (fl := Fl.SYS_WDTCTL_EN) h_SYS_WDTCTL (by decide), State.without_upd_sys c_sys, State.without_ite,
      ite_self]

include c_sys in
theorem setImgSlot_writes (k : Nat) (f : ImageSlot → ImageSlot) (s : State) :
    (setImgSlot k f s).without P = s.without P := by
  unfold setImgSlot
  simp only [State.without_upd_sys c_sys, State.without_ite, ite_self]

include h_BIL_STAT h_BIL_TCOUNT h_BIL_TFIRSTH h_BIL_TFIRSTL h_BIL_TLASTH h_BIL_TLASTL h_EVT_PEND in
theorem tamper_writes (cls : Nat) (s : State) :
    (tamper cls s).without P = s.without P := by
  unfold tamper
  simp only [State.w_satFM (r := R.BIL_TFIRSTL) h_BIL_TFIRSTL (by decide),
      State.w_satFM (r := R.BIL_TFIRSTH) h_BIL_TFIRSTH (by decide),
      State.w_satF (fl := Fl.BIL_STAT_CAUSE) h_BIL_STAT (by decide),
      State.w_satFM (r := R.BIL_TLASTL) h_BIL_TLASTL (by decide),
      State.w_satFM (r := R.BIL_TLASTH) h_BIL_TLASTH (by decide),
      State.w_satF (fl := Fl.BIL_TCOUNT_COUNT) h_BIL_TCOUNT (by decide),
      State.w_setQ (lo := R.BIL_TFIRSTL) (hi := R.BIL_TFIRSTH) h_BIL_TFIRSTL h_BIL_TFIRSTH (by decide) (by decide),
      State.w_setQ (lo := R.BIL_TLASTL) (hi := R.BIL_TLASTH) h_BIL_TLASTL h_BIL_TLASTH (by decide) (by decide),
      State.w_causeOnM (r := R.BIL_TFIRSTL) h_EVT_PEND h_BIL_TFIRSTL (by decide),
      State.w_causeOnM (r := R.BIL_TFIRSTH) h_EVT_PEND h_BIL_TFIRSTH (by decide),
      State.w_causeOn (fl := Fl.BIL_STAT_CAUSE) h_EVT_PEND h_BIL_STAT (by decide),
      State.w_causeOnM (r := R.BIL_TLASTL) h_EVT_PEND h_BIL_TLASTL (by decide),
      State.w_causeOnM (r := R.BIL_TLASTH) h_EVT_PEND h_BIL_TLASTH (by decide),
      State.w_causeOn (fl := Fl.BIL_TCOUNT_COUNT) h_EVT_PEND h_BIL_TCOUNT (by decide), State.without_when_if,
      State.without_ite, ite_self]

include h_BIL_STAT h_BIL_TCOUNT h_BIL_TFIRSTH h_BIL_TFIRSTL h_BIL_TLASTH h_BIL_TLASTL h_EVT_PEND h_SYS_BOOTCFG
    h_SYS_BOOTSTAT c_sys in
theorem confirmSlot_writes (s : State) :
    (confirmSlot s).without P = s.without P := by
  unfold confirmSlot
  (repeat' split) <;> simp only [State.w_setF (fl := Fl.SYS_BOOTSTAT_TRIAL) h_SYS_BOOTSTAT (by decide),
      State.w_setF (fl := Fl.SYS_BOOTCFG_CONFIRMED) h_SYS_BOOTCFG (by decide),
      State.w_setB (fl := Fl.SYS_BOOTSTAT_TRIAL) h_SYS_BOOTSTAT (by decide),
      State.w_setB (fl := Fl.SYS_BOOTCFG_CONFIRMED) h_SYS_BOOTCFG (by decide), State.without_upd_sys c_sys,
      setImgSlot_writes (P := P) c_sys,
      tamper_writes (P := P) h_BIL_STAT h_BIL_TCOUNT h_BIL_TFIRSTH h_BIL_TFIRSTL h_BIL_TLASTH h_BIL_TLASTL h_EVT_PEND, State.without_ite, ite_self]

include h_SYS_HARTSTAT in
theorem showHart_writes (n : Nat) (s : State) :
    (showHart n s).without P = s.without P := by
  unfold showHart
  simp only [State.w_setF (fl := Fl.SYS_HARTSTAT_PRIV) h_SYS_HARTSTAT (by decide),
      State.w_setF (fl := Fl.SYS_HARTSTAT_STATE) h_SYS_HARTSTAT (by decide),
      State.w_setB (fl := Fl.SYS_HARTSTAT_PRIV) h_SYS_HARTSTAT (by decide),
      State.w_setB (fl := Fl.SYS_HARTSTAT_STATE) h_SYS_HARTSTAT (by decide), State.without_ite, ite_self]

include h_SYS_HARTSTAT c_harts in
theorem State.withHart_writes (s : State) (n : Nat) (f : HartCtx → HartCtx) :
    (State.withHart s n f).without P = s.without P := by
  unfold State.withHart
  simp only [State.without_upd_harts c_harts, showHart_writes (P := P) h_SYS_HARTSTAT,
      State.setHart_writes (P := P) c_harts, State.without_ite, ite_self]

include h_SYS_HARTSTAT c_harts in
theorem hartHalt_writes (n : Nat) (s : State) :
    (hartHalt n s).without P = s.without P := by
  unfold hartHalt
  (repeat' split) <;> simp only [State.without_upd_harts c_harts,
      State.withHart_writes (P := P) h_SYS_HARTSTAT c_harts, State.without_ite, ite_self]

include h_SYS_HARTSTAT c_harts in
theorem startHart_writes (n : Nat) (pc : Word) (s : State) :
    (startHart n pc s).without P = s.without P := by
  unfold startHart
  simp only [State.without_upd_harts c_harts, State.withHart_writes (P := P) h_SYS_HARTSTAT c_harts,
      State.without_ite, ite_self]

include h_SYS_HARTSTAT c_harts in
theorem hartStart_writes (n : Nat) (s : State) :
    (hartStart n s).without P = s.without P := by
  unfold hartStart
  (repeat' split) <;> simp only [State.without_upd_harts c_harts, startHart_writes (P := P) h_SYS_HARTSTAT c_harts,
      State.withHart_writes (P := P) h_SYS_HARTSTAT c_harts, State.without_ite, ite_self]

include c_harts in
theorem mailboxWrite_writes (writer : Nat) (n : Nat) (v : Word) (s : State) :
    (mailboxWrite writer n v s).without P = s.without P := by
  unfold mailboxWrite
  simp only [State.without_upd_harts c_harts, State.setHart_writes (P := P) c_harts, State.without_ite, ite_self]

include h_SYS_OWNERLOCK in
theorem ownerLock_writes (s : State) :
    (ownerLock s).without P = s.without P := by
  unfold ownerLock
  simp only [State.w_setB (fl := Fl.SYS_OWNERLOCK_LOCK) h_SYS_OWNERLOCK (by decide), State.without_ite, ite_self]

include h_LPE_CWSTAT in
theorem showPool_writes (s : State) :
    (showPool s).without P = s.without P := by
  unfold showPool
  simp only [State.w_setF (fl := Fl.LPE_CWSTAT_PEND) h_LPE_CWSTAT (by decide), State.without_ite, ite_self]

include c_lpe in
theorem storeCoef_writes (bank : Nat) (slot : Nat) (w : Nat) (v : Word) (s : State) :
    (storeCoef bank slot w v s).without P = s.without P := by
  unfold storeCoef
  simp only [State.without_upd_lpe c_lpe, State.without_ite, ite_self]

include h_EVT_PEND h_LPE_CWSTAT h_LPE_STAT c_busError c_lpe in
theorem coefWrite_writes (bank : Nat) (slot : Nat) (w : Nat) (v : Word) (s : State) :
    (coefWrite bank slot w v s).without P = s.without P := by
  have hc : ∀ v t, coefStore false bank slot w v s = some t → t.without P = s.without P := by
    intro v t h
    unfold coefStore at h
    (repeat' split at h) <;> simp only [Option.some.injEq,
        reduceCtorEq] at h <;> subst h <;> simp only [showPool_writes (P := P) h_LPE_CWSTAT,
        storeCoef_writes (P := P) c_lpe, State.without_upd_busError c_busError, State.without_upd_lpe c_lpe,
        lpeCause_writes (P := P) h_EVT_PEND h_LPE_STAT, State.without_ite, ite_self]
  unfold coefWrite
  dsimp only
  split
  · next h => exact hc _ _ h
  · simp only [State.without_upd_busError c_busError, State.without_upd_lpe c_lpe,
      lpeCause_writes (P := P) h_EVT_PEND h_LPE_STAT, State.without_ite, ite_self]

include h_EVT_PEND h_LPE_CWSTAT h_LPE_STAT c_busError c_lpe in
theorem coefficientWrite_writes (ini : Initiator) (bank : Nat) (slot : Nat) (w : Nat) (v : Word) (s : State) :
    (coefficientWrite ini bank slot w v s).without P = s.without P := by
  unfold coefficientWrite
  simp only [State.without_upd_busError c_busError, State.without_upd_lpe c_lpe,
      coefWrite_writes (P := P) h_EVT_PEND h_LPE_CWSTAT h_LPE_STAT c_busError c_lpe, State.without_ite, ite_self]

include h_EVT_PEND h_LPE_STAT in
theorem admitFail_writes (s : State) :
    (admitFail s).without P = s.without P := by
  unfold admitFail
  simp only [lpeCause_writes (P := P) h_EVT_PEND h_LPE_STAT, State.without_ite, ite_self]

include c_lpe in
theorem State.setLg_writes (s : State) (g : Nat) (f : LpeGroup → LpeGroup) :
    (State.setLg s g f).without P = s.without P := by
  unfold State.setLg
  simp only [State.without_upd_lpe c_lpe, State.without_ite, ite_self]

include h_LPE_CWSTAT c_lpe in
theorem applyPool_writes (g : Nat) (s : State) :
    (applyPool g s).without P = s.without P := by
  unfold applyPool
  simp (disch := (intros; simp only [State.without_upd_lpe c_lpe, storeCoef_writes (P := P) c_lpe, showPool_writes (P := P) h_LPE_CWSTAT, State.without_ite, ite_self]; done)) only [State.without_each, State.without_eachOf, State.without_upd_lpe c_lpe, storeCoef_writes (P := P) c_lpe, showPool_writes (P := P) h_LPE_CWSTAT, State.without_ite, ite_self]

include h_LPE_BSTAT c_lpe in
theorem finishStop_writes (b : Nat) (s : State) :
    (finishStop b s).without P = s.without P := by
  unfold finishStop
  (repeat' split) <;> simp only [State.w_setF (fl := Fl.LPE_BSTAT_STATE) h_LPE_BSTAT (by decide),
      State.without_upd_lpe c_lpe, initSlots_writes (P := P) c_lpe, State.setLb_writes (P := P) c_lpe,
      State.without_ite, ite_self]

include h_LPE_BSTAT h_LPE_CWSTAT c_lpe in
theorem gridCheck_writes (g : Nat) (s : State) :
    (gridCheck g s).without P = s.without P := by
  unfold gridCheck
  simp (disch := (intros; simp only [State.without_upd_lpe c_lpe, State.setLg_writes (P := P) c_lpe, applyPool_writes (P := P) h_LPE_CWSTAT c_lpe, finishStop_writes (P := P) h_LPE_BSTAT c_lpe, State.without_when_if, State.without_ite, ite_self]; done)) only [State.without_each, State.without_eachOf, State.without_upd_lpe c_lpe, State.setLg_writes (P := P) c_lpe, applyPool_writes (P := P) h_LPE_CWSTAT c_lpe, finishStop_writes (P := P) h_LPE_BSTAT c_lpe, State.without_when_if, State.without_ite, ite_self]

include h_EVT_PEND h_LPE_BSTAT h_LPE_CWSTAT h_LPE_GROUP h_LPE_LOAD h_LPE_STAT h_LPE_TLOAD c_lpe in
theorem groupWrite_writes (g : Nat) (v : Word) (s : State) :
    (groupWrite g v s).without P = s.without P := by
  unfold groupWrite
  simp only [State.w_setReg (r := R.LPE_GROUP) h_LPE_GROUP (by decide), State.without_upd_lpe c_lpe,
      admitFail_writes (P := P) h_EVT_PEND h_LPE_STAT, State.setLg_writes (P := P) c_lpe,
      showLoad_writes (P := P) h_EVT_PEND h_LPE_LOAD h_LPE_STAT h_LPE_TLOAD,
      gridCheck_writes (P := P) h_LPE_BSTAT h_LPE_CWSTAT c_lpe, State.without_when_if, State.without_ite, ite_self]

include h_EVT_PEND h_LPE_BSTAT h_LPE_STAT in
theorem batchRefuse_writes (b : Nat) (err : Nat) (s : State) :
    (batchRefuse b err s).without P = s.without P := by
  unfold batchRefuse
  simp only [State.w_setF (fl := Fl.LPE_BSTAT_ERR) h_LPE_BSTAT (by decide),
      lpeCause_writes (P := P) h_EVT_PEND h_LPE_STAT, State.without_when_if, State.without_ite, ite_self]

include h_EVT_PEND h_LPE_BATCH h_LPE_BSTAT h_LPE_LOAD h_LPE_STAT h_LPE_TLOAD c_lpe in
theorem batchWrite_writes (b : Nat) (v : Word) (s : State) :
    (batchWrite b v s).without P = s.without P := by
  unfold batchWrite
  simp only [State.w_setReg (r := R.LPE_BATCH) h_LPE_BATCH (by decide), State.without_upd_lpe c_lpe,
      batchRefuse_writes (P := P) h_EVT_PEND h_LPE_BSTAT h_LPE_STAT,
      batchAccept_writes (P := P) h_EVT_PEND h_LPE_BATCH h_LPE_BSTAT h_LPE_LOAD h_LPE_STAT h_LPE_TLOAD c_lpe,
      State.without_ite, ite_self]

include h_EVT_PEND h_LPE_LAUNCH h_LPE_STAT in
theorem launchWrite_writes (v : Nat) (s : State) :
    (launchWrite v s).without P = s.without P := by
  unfold launchWrite
  simp only [State.w_setF (fl := Fl.LPE_LAUNCH_OFFSET) h_LPE_LAUNCH (by decide),
      admitFail_writes (P := P) h_EVT_PEND h_LPE_STAT, State.without_ite, ite_self]

include c_lpe in
theorem cellInit_writes (slot : Nat) (s : State) :
    (cellInit slot s).without P = s.without P := by
  unfold cellInit
  simp only [State.without_upd_lpe c_lpe, initSlots_writes (P := P) c_lpe, State.without_ite, ite_self]

include h_LPE_INJCTL c_lpe in
theorem injectorArm_writes (s : State) :
    (injectorArm s).without P = s.without P := by
  unfold injectorArm
  simp only [State.w_setB (fl := Fl.LPE_INJCTL_ARM) h_LPE_INJCTL (by decide),
      State.w_setB (fl := Fl.LPE_INJCTL_ERR) h_LPE_INJCTL (by decide), State.without_upd_lpe c_lpe,
      State.without_ite, ite_self]

include h_LPE_INJCTL c_lpe in
theorem injectorDisarm_writes (s : State) :
    (injectorDisarm s).without P = s.without P := by
  unfold injectorDisarm
  simp only [State.w_setB (fl := Fl.LPE_INJCTL_ARM) h_LPE_INJCTL (by decide), State.without_upd_lpe c_lpe,
      State.without_ite, ite_self]

include h_LPE_CAPCTL h_LPE_CAPSTAT c_lpe in
theorem captureArm_writes (s : State) :
    (captureArm s).without P = s.without P := by
  unfold captureArm
  simp only [State.w_setF (fl := Fl.LPE_CAPSTAT_NEXT) h_LPE_CAPSTAT (by decide),
      State.w_setF (fl := Fl.LPE_CAPCTL_ARM) h_LPE_CAPCTL (by decide),
      State.w_setB (fl := Fl.LPE_CAPSTAT_NEXT) h_LPE_CAPSTAT (by decide),
      State.w_setB (fl := Fl.LPE_CAPCTL_ARM) h_LPE_CAPCTL (by decide), State.without_upd_lpe c_lpe,
      State.without_ite, ite_self]

include h_CLN_ERRA h_CLN_ERRB h_CLN_ERRC in
theorem errorsClear_writes (mask : Word) (s : State) :
    (errorsClear mask s).without P = s.without P := by
  unfold errorsClear
  simp (disch := (intros; simp only [State.w_setReg (r := R.CLN_ERRC) h_CLN_ERRC (by decide), State.w_setReg (r := R.CLN_ERRB) h_CLN_ERRB (by decide), State.w_setReg (r := R.CLN_ERRA) h_CLN_ERRA (by decide), State.without_when_if, State.without_ite, ite_self]; done)) only [State.without_each, State.without_eachOf, State.w_setReg (r := R.CLN_ERRC) h_CLN_ERRC (by decide), State.w_setReg (r := R.CLN_ERRB) h_CLN_ERRB (by decide), State.w_setReg (r := R.CLN_ERRA) h_CLN_ERRA (by decide), State.without_when_if, State.without_ite, ite_self]

include c_cln in
theorem State.setLn_writes (s : State) (j : Nat) (f : LaneLink → LaneLink) :
    (State.setLn s j f).without P = s.without P := by
  unfold State.setLn
  simp only [State.without_upd_cln c_cln, State.without_ite, ite_self]

include c_cln in
theorem cellReadmit_writes (c : Nat) (s : State) :
    (cellReadmit c s).without P = s.without P := by
  unfold cellReadmit
  simp only [State.without_upd_cln c_cln, State.setLn_writes (P := P) c_cln, State.without_ite, ite_self]

include h_CLN_CELLMAP in
theorem cellmapWrite_writes (c : Nat) (v : Word) (s : State) :
    (cellmapWrite c v s).without P = s.without P := by
  unfold cellmapWrite
  simp only [State.w_setReg (r := R.CLN_CELLMAP) h_CLN_CELLMAP (by decide), State.without_ite, ite_self]

include h_CLN_CELLST h_CLN_LANESTAT c_cln in
theorem startLink_writes (j : Nat) (inactive : Bool) (s : State) :
    (startLink j inactive s).without P = s.without P := by
  unfold startLink
  simp (disch := (intros; simp only [State.w_setF (fl := Fl.CLN_LANESTAT_NENUM) h_CLN_LANESTAT (by decide), State.w_setF (fl := Fl.CLN_LANESTAT_NCELL) h_CLN_LANESTAT (by decide), State.w_setF (fl := Fl.CLN_LANESTAT_STATE) h_CLN_LANESTAT (by decide), State.w_setFM (r := R.CLN_CELLST) h_CLN_CELLST (by decide), State.w_setReg (r := R.CLN_CELLST) h_CLN_CELLST (by decide), State.without_upd_cln c_cln, State.setLn_writes (P := P) c_cln, State.without_ite, ite_self]; done)) only [State.without_each, State.without_eachOf, State.w_setF (fl := Fl.CLN_LANESTAT_NENUM) h_CLN_LANESTAT (by decide), State.w_setF (fl := Fl.CLN_LANESTAT_NCELL) h_CLN_LANESTAT (by decide), State.w_setF (fl := Fl.CLN_LANESTAT_STATE) h_CLN_LANESTAT (by decide), State.w_setFM (r := R.CLN_CELLST) h_CLN_CELLST (by decide), State.w_setReg (r := R.CLN_CELLST) h_CLN_CELLST (by decide), State.without_upd_cln c_cln, State.setLn_writes (P := P) c_cln, State.without_ite, ite_self]

include h_CLN_CELLST h_CLN_LANECFG h_CLN_LANESTAT c_cln in
theorem laneEnable_writes (j : Nat) (s : State) :
    (laneEnable j s).without P = s.without P := by
  unfold laneEnable
  (try simp only [State.w_setF (fl := Fl.CLN_LANECFG_EN) h_CLN_LANECFG (by decide),
      State.w_setF (fl := Fl.CLN_LANESTAT_STATE) h_CLN_LANESTAT (by decide),
      State.w_setB (fl := Fl.CLN_LANECFG_EN) h_CLN_LANECFG (by decide),
      State.w_setB (fl := Fl.CLN_LANESTAT_STATE) h_CLN_LANESTAT (by decide), State.without_upd_cln c_cln,
      startLink_writes (P := P) h_CLN_CELLST h_CLN_LANESTAT c_cln, State.without_ite,
      ite_self]) <;> (repeat' split) <;> simp only [State.w_setF (fl := Fl.CLN_LANECFG_EN) h_CLN_LANECFG (by decide),
      State.w_setF (fl := Fl.CLN_LANESTAT_STATE) h_CLN_LANESTAT (by decide),
      State.w_setB (fl := Fl.CLN_LANECFG_EN) h_CLN_LANECFG (by decide),
      State.w_setB (fl := Fl.CLN_LANESTAT_STATE) h_CLN_LANESTAT (by decide), State.without_upd_cln c_cln,
      startLink_writes (P := P) h_CLN_CELLST h_CLN_LANESTAT c_cln, State.without_ite, ite_self]

include h_CLN_CELLST h_CLN_LANESTAT h_CLN_STAT c_cln in
theorem laneQuiet_writes (j : Nat) (s : State) :
    (laneQuiet j s).without P = s.without P := by
  unfold laneQuiet
  simp (disch := (intros; simp only [State.w_setF (fl := Fl.CLN_LANESTAT_SCHEDERR) h_CLN_LANESTAT (by decide), State.w_setF (fl := Fl.CLN_LANESTAT_STATE) h_CLN_LANESTAT (by decide), State.w_setF (fl := Fl.CLN_STAT_READY) h_CLN_STAT (by decide), State.w_setF (fl := Fl.CLN_CELLST_STATE) h_CLN_CELLST (by decide), State.w_setB (fl := Fl.CLN_LANESTAT_SCHEDERR) h_CLN_LANESTAT (by decide), State.w_setB (fl := Fl.CLN_LANESTAT_STATE) h_CLN_LANESTAT (by decide), State.w_setB (fl := Fl.CLN_STAT_READY) h_CLN_STAT (by decide), State.w_setB (fl := Fl.CLN_CELLST_STATE) h_CLN_CELLST (by decide), State.w_setFBit (fl := Fl.CLN_LANESTAT_SCHEDERR) h_CLN_LANESTAT (by decide), State.w_setFBit (fl := Fl.CLN_LANESTAT_STATE) h_CLN_LANESTAT (by decide), State.w_setFBit (fl := Fl.CLN_STAT_READY) h_CLN_STAT (by decide), State.w_setFBit (fl := Fl.CLN_CELLST_STATE) h_CLN_CELLST (by decide), State.without_upd_cln c_cln, State.setLn_writes (P := P) c_cln, State.without_when_if, State.without_ite, ite_self]; done)) only [State.without_each, State.without_eachOf, State.w_setF (fl := Fl.CLN_LANESTAT_SCHEDERR) h_CLN_LANESTAT (by decide), State.w_setF (fl := Fl.CLN_LANESTAT_STATE) h_CLN_LANESTAT (by decide), State.w_setF (fl := Fl.CLN_STAT_READY) h_CLN_STAT (by decide), State.w_setF (fl := Fl.CLN_CELLST_STATE) h_CLN_CELLST (by decide), State.w_setB (fl := Fl.CLN_LANESTAT_SCHEDERR) h_CLN_LANESTAT (by decide), State.w_setB (fl := Fl.CLN_LANESTAT_STATE) h_CLN_LANESTAT (by decide), State.w_setB (fl := Fl.CLN_STAT_READY) h_CLN_STAT (by decide), State.w_setB (fl := Fl.CLN_CELLST_STATE) h_CLN_CELLST (by decide), State.w_setFBit (fl := Fl.CLN_LANESTAT_SCHEDERR) h_CLN_LANESTAT (by decide), State.w_setFBit (fl := Fl.CLN_LANESTAT_STATE) h_CLN_LANESTAT (by decide), State.w_setFBit (fl := Fl.CLN_STAT_READY) h_CLN_STAT (by decide), State.w_setFBit (fl := Fl.CLN_CELLST_STATE) h_CLN_CELLST (by decide), State.without_upd_cln c_cln, State.setLn_writes (P := P) c_cln, State.without_when_if, State.without_ite, ite_self]

include h_CLN_LANEEV h_EVT_PEND in
theorem clnCause_writes (j : Nat) (b : Nat) (s : State) :
    (clnCause j b s).without P = s.without P := by
  unfold clnCause
  simp only [State.w_causeOnM (r := R.CLN_LANEEV) h_EVT_PEND h_CLN_LANEEV (by decide), State.without_ite, ite_self]

include h_CLN_CELLST h_CLN_LANEEV h_CLN_LANESTAT h_CLN_STAT h_EVT_PEND h_LPE_BSTAT h_LPE_CWSTAT c_cln c_lpe in
theorem laneDown_writes (j : Nat) (s : State) :
    (laneDown j s).without P = s.without P := by
  unfold laneDown
  simp only [State.without_upd_cln c_cln, State.without_upd_lpe c_lpe,
      laneQuiet_writes (P := P) h_CLN_CELLST h_CLN_LANESTAT h_CLN_STAT c_cln,
      clnCause_writes (P := P) h_CLN_LANEEV h_EVT_PEND, gridCheck_writes (P := P) h_LPE_BSTAT h_LPE_CWSTAT c_lpe,
      State.without_when_if, State.without_ite, ite_self]

include h_CLN_CELLST h_CLN_LANECFG h_CLN_LANEEV h_CLN_LANESTAT h_CLN_STAT h_EVT_PEND h_LPE_BSTAT h_LPE_CWSTAT c_cln
    c_lpe in
theorem laneDisable_writes (j : Nat) (s : State) :
    (laneDisable j s).without P = s.without P := by
  unfold laneDisable
  (try simp only [State.w_setF (fl := Fl.CLN_LANECFG_EN) h_CLN_LANECFG (by decide),
      State.w_setF (fl := Fl.CLN_LANESTAT_STATE) h_CLN_LANESTAT (by decide),
      State.w_setB (fl := Fl.CLN_LANECFG_EN) h_CLN_LANECFG (by decide),
      State.w_setB (fl := Fl.CLN_LANESTAT_STATE) h_CLN_LANESTAT (by decide), State.without_upd_cln c_cln,
      State.without_upd_lpe c_lpe,
      laneDown_writes (P := P) h_CLN_CELLST h_CLN_LANEEV h_CLN_LANESTAT h_CLN_STAT h_EVT_PEND h_LPE_BSTAT h_LPE_CWSTAT c_cln c_lpe, State.without_ite, ite_self]) <;> (repeat' split) <;> simp only [State.w_setF (fl := Fl.CLN_LANECFG_EN) h_CLN_LANECFG (by decide), State.w_setF (fl := Fl.CLN_LANESTAT_STATE) h_CLN_LANESTAT (by decide), State.w_setB (fl := Fl.CLN_LANECFG_EN) h_CLN_LANECFG (by decide), State.w_setB (fl := Fl.CLN_LANESTAT_STATE) h_CLN_LANESTAT (by decide), State.without_upd_cln c_cln, State.without_upd_lpe c_lpe, laneDown_writes (P := P) h_CLN_CELLST h_CLN_LANEEV h_CLN_LANESTAT h_CLN_STAT h_EVT_PEND h_LPE_BSTAT h_LPE_CWSTAT c_cln c_lpe, State.without_ite, ite_self]

include h_CLN_MGSTAT c_cln in
theorem mgmtEnd_writes (err : Nat) (s : State) :
    (mgmtEnd err s).without P = s.without P := by
  unfold mgmtEnd
  simp only [State.w_setF (fl := Fl.CLN_MGSTAT_ERR) h_CLN_MGSTAT (by decide),
      State.w_setF (fl := Fl.CLN_MGSTAT_DONE) h_CLN_MGSTAT (by decide),
      State.w_setF (fl := Fl.CLN_MGSTAT_BUSY) h_CLN_MGSTAT (by decide),
      State.w_setB (fl := Fl.CLN_MGSTAT_ERR) h_CLN_MGSTAT (by decide),
      State.w_setB (fl := Fl.CLN_MGSTAT_DONE) h_CLN_MGSTAT (by decide),
      State.w_setB (fl := Fl.CLN_MGSTAT_BUSY) h_CLN_MGSTAT (by decide), State.without_upd_cln c_cln,
      State.without_ite, ite_self]

include h_CLN_MGSTAT c_cln in
theorem mgmtRequest_writes (s : State) :
    (mgmtRequest s).without P = s.without P := by
  unfold mgmtRequest
  simp only [State.w_setF (fl := Fl.CLN_MGSTAT_ERR) h_CLN_MGSTAT (by decide),
      State.w_setF (fl := Fl.CLN_MGSTAT_DONE) h_CLN_MGSTAT (by decide),
      State.w_setF (fl := Fl.CLN_MGSTAT_BUSY) h_CLN_MGSTAT (by decide),
      State.w_setB (fl := Fl.CLN_MGSTAT_ERR) h_CLN_MGSTAT (by decide),
      State.w_setB (fl := Fl.CLN_MGSTAT_DONE) h_CLN_MGSTAT (by decide),
      State.w_setB (fl := Fl.CLN_MGSTAT_BUSY) h_CLN_MGSTAT (by decide), State.without_upd_cln c_cln,
      mgmtEnd_writes (P := P) h_CLN_MGSTAT c_cln, State.without_ite, ite_self]

include h_PRT_SNAPOUT c_prt in
theorem snap_writes (cell : Bool) (index : Nat) (s : State) :
    (snap cell index s).without P = s.without P := by
  unfold snap
  simp (disch := (intros; simp only [State.w_setReg (r := R.PRT_SNAPOUT) h_PRT_SNAPOUT (by decide), State.without_upd_prt c_prt, State.setPg_writes (P := P) c_prt, State.without_ite, ite_self]; done)) only [State.without_each, State.without_eachOf, State.w_setReg (r := R.PRT_SNAPOUT) h_PRT_SNAPOUT (by decide), State.without_upd_prt c_prt, State.setPg_writes (P := P) c_prt, State.without_ite, ite_self]

include c_prt in
theorem cellRestore_writes (c : Nat) (s : State) :
    (cellRestore c s).without P = s.without P := by
  unfold cellRestore
  simp only [State.without_upd_prt c_prt, State.without_ite, ite_self]

include h_PRT_CELL in
theorem cellAssign_writes (c : Nat) (group : Nat) (s : State) :
    (cellAssign c group s).without P = s.without P := by
  unfold cellAssign
  simp only [State.w_setF (fl := Fl.PRT_CELL_GROUP) h_PRT_CELL (by decide), State.without_ite, ite_self]

include h_EVT_PEND h_PRT_GCAUSE h_PRT_GSTAT h_PRT_VSET in
theorem setVset_writes (g : Nat) (v : Word) (s : State) :
    (setVset g v s).without P = s.without P := by
  unfold setVset
  simp only [State.w_setReg (r := R.PRT_VSET) h_PRT_VSET (by decide),
      prtCause_writes (P := P) h_EVT_PEND h_PRT_GCAUSE, cmdRefuse_writes (P := P) h_PRT_GSTAT, State.without_ite,
      ite_self]

include h_PRT_GSTAT in
theorem showMembers_writes (g : Nat) (s : State) :
    (showMembers g s).without P = s.without P := by
  unfold showMembers
  simp only [State.w_setF (fl := Fl.PRT_GSTAT_NCELL) h_PRT_GSTAT (by decide), State.without_ite, ite_self]

include h_EVT_PEND h_PRT_GCAUSE h_PRT_GCFG h_PRT_GSTAT in
theorem portGroupEnable_writes (g : Nat) (s : State) :
    (portGroupEnable g s).without P = s.without P := by
  unfold portGroupEnable
  simp only [State.w_setB (fl := Fl.PRT_GCFG_EN) h_PRT_GCFG (by decide), showMembers_writes (P := P) h_PRT_GSTAT,
      prtCause_writes (P := P) h_EVT_PEND h_PRT_GCAUSE, State.without_ite, ite_self]

include c_lpe in
theorem setCellIn_writes (c : Nat) (k : Nat) (v : Int) (s : State) :
    (setCellIn c k v s).without P = s.without P := by
  unfold setCellIn
  simp only [State.without_upd_lpe c_lpe, State.without_ite, ite_self]

include h_EVT_PEND h_LSW_CHSTAT h_PRT_GCAUSE h_PRT_GCFG h_PRT_GSTAT h_PRT_IAPP h_PRT_VAPP c_lpe c_lsw c_prt in
theorem portGroupDisable_writes (g : Nat) (s : State) :
    (portGroupDisable g s).without P = s.without P := by
  unfold portGroupDisable
  simp (disch := (intros; simp only [State.w_setB (fl := Fl.PRT_GCFG_EN) h_PRT_GCFG (by decide), State.without_upd_lpe c_lpe, State.without_upd_lsw c_lsw, State.without_upd_prt c_prt, toState_writes (P := P) h_EVT_PEND h_LSW_CHSTAT h_PRT_GCAUSE h_PRT_GSTAT h_PRT_IAPP h_PRT_VAPP c_lsw c_prt, dropPending_writes (P := P) h_PRT_GSTAT c_prt, setCellIn_writes (P := P) c_lpe, State.without_ite, ite_self]; done)) only [State.without_each, State.without_eachOf, State.w_setB (fl := Fl.PRT_GCFG_EN) h_PRT_GCFG (by decide), State.without_upd_lpe c_lpe, State.without_upd_lsw c_lsw, State.without_upd_prt c_prt, toState_writes (P := P) h_EVT_PEND h_LSW_CHSTAT h_PRT_GCAUSE h_PRT_GSTAT h_PRT_IAPP h_PRT_VAPP c_lsw c_prt, dropPending_writes (P := P) h_PRT_GSTAT c_prt, setCellIn_writes (P := P) c_lpe, State.without_ite, ite_self]

include h_ALC_CNT in
theorem counterClear_writes (s : State) :
    (counterClear s).without P = s.without P := by
  unfold counterClear
  simp only [State.w_setReg (r := R.ALC_CNT) h_ALC_CNT (by decide), State.without_ite, ite_self]

include h_ALC_CTL h_ALC_STAT c_alc in
theorem alcEnable_writes (s : State) :
    (alcEnable s).without P = s.without P := by
  unfold alcEnable
  (try simp only [State.w_setF (fl := Fl.ALC_CTL_EN) h_ALC_CTL (by decide),
      State.w_setF (fl := Fl.ALC_STAT_STATE) h_ALC_STAT (by decide),
      State.w_setB (fl := Fl.ALC_CTL_EN) h_ALC_CTL (by decide),
      State.w_setB (fl := Fl.ALC_STAT_STATE) h_ALC_STAT (by decide), State.without_upd_alc c_alc, State.without_ite,
      ite_self]) <;> (repeat' split) <;> simp only [State.w_setF (fl := Fl.ALC_CTL_EN) h_ALC_CTL (by decide),
      State.w_setF (fl := Fl.ALC_STAT_STATE) h_ALC_STAT (by decide),
      State.w_setB (fl := Fl.ALC_CTL_EN) h_ALC_CTL (by decide),
      State.w_setB (fl := Fl.ALC_STAT_STATE) h_ALC_STAT (by decide), State.without_upd_alc c_alc, State.without_ite,
      ite_self]

include h_ALC_CTL h_ALC_STAT in
theorem alcDisable_writes (s : State) :
    (alcDisable s).without P = s.without P := by
  unfold alcDisable
  (try simp only [State.w_setF (fl := Fl.ALC_CTL_EN) h_ALC_CTL (by decide),
      State.w_setF (fl := Fl.ALC_STAT_STATE) h_ALC_STAT (by decide),
      State.w_setB (fl := Fl.ALC_CTL_EN) h_ALC_CTL (by decide),
      State.w_setB (fl := Fl.ALC_STAT_STATE) h_ALC_STAT (by decide), State.without_ite,
      ite_self]) <;> (repeat' split) <;> simp only [State.w_setF (fl := Fl.ALC_CTL_EN) h_ALC_CTL (by decide),
      State.w_setF (fl := Fl.ALC_STAT_STATE) h_ALC_STAT (by decide),
      State.w_setB (fl := Fl.ALC_CTL_EN) h_ALC_CTL (by decide),
      State.w_setB (fl := Fl.ALC_STAT_STATE) h_ALC_STAT (by decide), State.without_ite, ite_self]

include h_ALC_STAT h_EVT_PEND in
theorem alcCause_writes (j : Nat) (s : State) :
    (alcCause j s).without P = s.without P := by
  unfold alcCause
  simp only [State.w_causeOn (fl := Fl.ALC_STAT_CAUSE) h_EVT_PEND h_ALC_STAT (by decide), State.without_ite, ite_self]

include h_ALC_STAT h_EVT_PEND c_alc in
theorem periodWrite_writes (p : Nat) (s : State) :
    (periodWrite p s).without P = s.without P := by
  unfold periodWrite
  simp only [State.without_upd_alc c_alc, alcCause_writes (P := P) h_ALC_STAT h_EVT_PEND, State.without_ite, ite_self]

include h_ALC_TSOLVE in
theorem showBound_writes (s : State) :
    (showBound s).without P = s.without P := by
  unfold showBound
  simp only [State.w_setF (fl := Fl.ALC_TSOLVE_WORST) h_ALC_TSOLVE (by decide), State.without_ite, ite_self]

include h_ALC_PRICE c_alc in
theorem priceWrite_writes (v : Word) (s : State) :
    (priceWrite v s).without P = s.without P := by
  unfold priceWrite
  simp only [State.w_setReg (r := R.ALC_PRICE) h_ALC_PRICE (by decide), State.without_upd_alc c_alc,
      State.without_ite, ite_self]

include h_ALC_PREQ h_ALC_PSTAT in
theorem reqWrite_writes (p : Nat) (v : Word) (s : State) :
    (reqWrite p v s).without P = s.without P := by
  unfold reqWrite
  simp only [State.w_setB (fl := Fl.ALC_PSTAT_STALE) h_ALC_PSTAT (by decide),
      State.w_setBM (r := R.ALC_PREQ) h_ALC_PREQ (by decide),
      State.w_setReg (r := R.ALC_PREQ) h_ALC_PREQ (by decide), State.without_ite, ite_self]

include c_veh in
theorem State.setFe_writes (s : State) (f : Nat) (g : FrontEnd → FrontEnd) :
    (State.setFe s f g).without P = s.without P := by
  unfold State.setFe
  simp only [State.without_upd_veh c_veh, State.without_ite, ite_self]

include h_VEH_SSTAT in
theorem showFront_writes (c : Nat) (s : State) :
    (showFront c s).without P = s.without P := by
  unfold showFront
  simp only [State.w_setF (fl := Fl.VEH_SSTAT_FE) h_VEH_SSTAT (by decide), State.without_ite, ite_self]

include h_VEH_FE h_VEH_SSTAT c_veh in
theorem frontEndConfig_writes (f : Nat) (mode : Nat) (ctx : Nat) (s : State) :
    (frontEndConfig f mode ctx s).without P = s.without P := by
  unfold frontEndConfig
  simp only [State.w_setF (fl := Fl.VEH_FE_CTX) h_VEH_FE (by decide),
      State.w_setF (fl := Fl.VEH_FE_MODE) h_VEH_FE (by decide), State.without_upd_veh c_veh,
      State.setFe_writes (P := P) c_veh, showFront_writes (P := P) h_VEH_SSTAT, State.without_ite, ite_self]

include h_VEH_SSTAT in
theorem sesRefuse_writes (c : Nat) (s : State) :
    (sesRefuse c s).without P = s.without P := by
  unfold sesRefuse
  simp only [State.w_setB (fl := Fl.VEH_SSTAT_CMDERR) h_VEH_SSTAT (by decide), State.without_ite, ite_self]

include h_EVT_PEND h_LPE_BATCH h_LPE_BSTAT h_LPE_LOAD h_LPE_STAT h_LPE_TLOAD h_LSW_CHSTAT h_PRT_GCAUSE h_PRT_GCMD
    h_PRT_GSTAT h_PRT_IAPP h_PRT_VAPP h_PRT_VSET h_SFY_COIL h_SFY_PSTAT h_SFY_STAT h_VEH_SSTAT c_lpe c_lsw c_prt c_veh in
theorem proceed_writes (c : Nat) (s : State) :
    (proceed c s).without P = s.without P := by
  unfold proceed
  simp only [State.without_upd_lpe c_lpe, State.without_upd_lsw c_lsw, State.without_upd_prt c_prt,
      State.without_upd_veh c_veh, toSession_writes (P := P) h_EVT_PEND h_PRT_GCAUSE h_VEH_SSTAT c_veh,
      portCmd_writes (P := P) h_EVT_PEND h_LPE_BATCH h_LPE_BSTAT h_LPE_LOAD h_LPE_STAT h_LPE_TLOAD h_LSW_CHSTAT h_PRT_GCAUSE h_PRT_GCMD h_PRT_GSTAT h_PRT_IAPP h_PRT_VAPP h_SFY_COIL h_SFY_PSTAT h_SFY_STAT c_lpe c_lsw c_prt, setVset_writes (P := P) h_EVT_PEND h_PRT_GCAUSE h_PRT_GSTAT h_PRT_VSET, forceCooling_writes (P := P) h_LSW_CHSTAT c_lsw, sesRefuse_writes (P := P) h_VEH_SSTAT, State.without_ite, ite_self]

include h_EVT_PEND h_PRT_GCAUSE h_VEH_SSTAT in
theorem noteStop_writes (cause : Nat) (c : Nat) (s : State) :
    (noteStop cause c s).without P = s.without P := by
  unfold noteStop
  simp only [State.w_setF (fl := Fl.VEH_SSTAT_STOPCODE) h_VEH_SSTAT (by decide),
      sesCause_writes (P := P) h_EVT_PEND h_PRT_GCAUSE, State.without_ite, ite_self]

end Sys2Proof.Machine
end

