-- ==== Sys2Proof/Laws/Writes2.lean ====
section
/-! SUPPORT. What each operation leaves unchanged (2 of 5): everything outside a part that holds what it writes. -/

set_option linter.all false

namespace Sys2Proof.Machine

variable {P : Part}
variable (h_ALC_PAPPLIED : P.regs R.ALC_PAPPLIED.addr = true) (h_ALC_SSETPOINT : P.regs R.ALC_SSETPOINT.addr = true)
variable (h_BIL_ADAY : P.regs R.BIL_ADAY.addr = true) (h_BIL_ARCH : P.regs R.BIL_ARCH.addr = true)
variable (h_BIL_ASEA0 : P.regs R.BIL_ASEA0.addr = true) (h_BIL_ASEA1 : P.regs R.BIL_ASEA1.addr = true)
variable (h_BIL_ASPEC : P.regs R.BIL_ASPEC.addr = true) (h_BIL_AWEEK0 : P.regs R.BIL_AWEEK0.addr = true)
variable (h_BIL_AWEEK1 : P.regs R.BIL_AWEEK1.addr = true) (h_BIL_CTL : P.regs R.BIL_CTL.addr = true)
variable (h_BIL_DLAST : P.regs R.BIL_DLAST.addr = true) (h_BIL_DMAX0 : P.regs R.BIL_DMAX0.addr = true)
variable (h_BIL_DMAX1 : P.regs R.BIL_DMAX1.addr = true) (h_BIL_DPREV0 : P.regs R.BIL_DPREV0.addr = true)
variable (h_BIL_DPREV1 : P.regs R.BIL_DPREV1.addr = true) (h_BIL_EBASE0H : P.regs R.BIL_EBASE0H.addr = true)
variable (h_BIL_EBASE0L : P.regs R.BIL_EBASE0L.addr = true) (h_BIL_EBASE1H : P.regs R.BIL_EBASE1H.addr = true)
variable (h_BIL_EBASE1L : P.regs R.BIL_EBASE1L.addr = true) (h_BIL_ISEQ : P.regs R.BIL_ISEQ.addr = true)
variable (h_BIL_KOFFH : P.regs R.BIL_KOFFH.addr = true) (h_BIL_KOFFL : P.regs R.BIL_KOFFL.addr = true)
variable (h_BIL_NEXTH : P.regs R.BIL_NEXTH.addr = true) (h_BIL_NEXTL : P.regs R.BIL_NEXTL.addr = true)
variable (h_BIL_SPAN0 : P.regs R.BIL_SPAN0.addr = true) (h_BIL_SPAN1 : P.regs R.BIL_SPAN1.addr = true)
variable (h_BIL_STAT : P.regs R.BIL_STAT.addr = true) (h_BIL_TCOUNT : P.regs R.BIL_TCOUNT.addr = true)
variable (h_BIL_TDELH : P.regs R.BIL_TDELH.addr = true) (h_BIL_TDELL : P.regs R.BIL_TDELL.addr = true)
variable (h_BIL_TFIRSTH : P.regs R.BIL_TFIRSTH.addr = true) (h_BIL_TFIRSTL : P.regs R.BIL_TFIRSTL.addr = true)
variable (h_BIL_TLASTH : P.regs R.BIL_TLASTH.addr = true) (h_BIL_TLASTL : P.regs R.BIL_TLASTL.addr = true)
variable (h_BIL_TRECH : P.regs R.BIL_TRECH.addr = true) (h_BIL_TRECL : P.regs R.BIL_TRECL.addr = true)
variable (h_CAN_CTL : P.regs R.CAN_CTL.addr = true) (h_CAN_DBT : P.regs R.CAN_DBT.addr = true)
variable (h_CAN_NBT : P.regs R.CAN_NBT.addr = true) (h_CAN_NSET : P.regs R.CAN_NSET.addr = true)
variable (h_CAN_RXSTAT : P.regs R.CAN_RXSTAT.addr = true) (h_CAN_STAT : P.regs R.CAN_STAT.addr = true)
variable (h_CAN_TXEVA : P.regs R.CAN_TXEVA.addr = true) (h_CAN_TXEVB : P.regs R.CAN_TXEVB.addr = true)
variable (h_CAN_TXSTAT : P.regs R.CAN_TXSTAT.addr = true) (h_CLN_CELLST : P.regs R.CLN_CELLST.addr = true)
variable (h_CLN_LANESTAT : P.regs R.CLN_LANESTAT.addr = true) (h_CLN_STAT : P.regs R.CLN_STAT.addr = true)
variable (h_DKL_CTL : P.regs R.DKL_CTL.addr = true) (h_DKL_RXSTAT : P.regs R.DKL_RXSTAT.addr = true)
variable (h_DKL_STAT : P.regs R.DKL_STAT.addr = true) (h_DKL_TXCTL : P.regs R.DKL_TXCTL.addr = true)
variable (h_DKL_TXEV : P.regs R.DKL_TXEV.addr = true) (h_DKL_TXSTAT : P.regs R.DKL_TXSTAT.addr = true)
variable (h_EST_CAP : P.regs R.EST_CAP.addr = true) (h_EST_CHG : P.regs R.EST_CHG.addr = true)
variable (h_EST_CYCLES : P.regs R.EST_CYCLES.addr = true) (h_EST_DIS : P.regs R.EST_DIS.addr = true)
variable (h_EST_SOCE : P.regs R.EST_SOCE.addr = true) (h_ETH_CFG : P.regs R.ETH_CFG.addr = true)
variable (h_ETH_CTL : P.regs R.ETH_CTL.addr = true) (h_ETH_MDIO : P.regs R.ETH_MDIO.addr = true)
variable (h_ETH_MDIOSTAT : P.regs R.ETH_MDIOSTAT.addr = true) (h_ETH_RXSTAT : P.regs R.ETH_RXSTAT.addr = true)
variable (h_ETH_STAT : P.regs R.ETH_STAT.addr = true) (h_ETH_TXHEAD : P.regs R.ETH_TXHEAD.addr = true)
variable (h_ETH_TXTAIL : P.regs R.ETH_TXTAIL.addr = true) (h_EVT_PEND : P.regs R.EVT_PEND.addr = true)
variable (h_HST_STAT : P.regs R.HST_STAT.addr = true) (h_LPE_BATCH : P.regs R.LPE_BATCH.addr = true)
variable (h_LPE_BSTAT : P.regs R.LPE_BSTAT.addr = true) (h_LPE_LOAD : P.regs R.LPE_LOAD.addr = true)
variable (h_LPE_STAT : P.regs R.LPE_STAT.addr = true) (h_LPE_TLOAD : P.regs R.LPE_TLOAD.addr = true)
variable (h_LSW_CHI : P.regs R.LSW_CHI.addr = true) (h_LSW_CHSTAT : P.regs R.LSW_CHSTAT.addr = true)
variable (h_LSW_STAT : P.regs R.LSW_STAT.addr = true) (h_MTR_BNDCTL : P.regs R.MTR_BNDCTL.addr = true)
variable (h_MTR_EDELH : P.regs R.MTR_EDELH.addr = true) (h_MTR_EDELL : P.regs R.MTR_EDELL.addr = true)
variable (h_MTR_ERECH : P.regs R.MTR_ERECH.addr = true) (h_MTR_ERECL : P.regs R.MTR_ERECL.addr = true)
variable (h_MTR_FOLD : P.regs R.MTR_FOLD.addr = true) (h_MTR_GCFG : P.regs R.MTR_GCFG.addr = true)
variable (h_MTR_GSTAT : P.regs R.MTR_GSTAT.addr = true) (h_MTR_MP1 : P.regs R.MTR_MP1.addr = true)
variable (h_MTR_MSTAT : P.regs R.MTR_MSTAT.addr = true) (h_MTR_RAWDELH : P.regs R.MTR_RAWDELH.addr = true)
variable (h_MTR_RAWDELL : P.regs R.MTR_RAWDELL.addr = true) (h_MTR_RAWRECH : P.regs R.MTR_RAWRECH.addr = true)
variable (h_MTR_RAWRECL : P.regs R.MTR_RAWRECL.addr = true) (h_MTR_STAT : P.regs R.MTR_STAT.addr = true)
variable (h_MTR_XDEL : P.regs R.MTR_XDEL.addr = true) (h_MTR_XREC : P.regs R.MTR_XREC.addr = true)
variable (h_PRT_GCAUSE : P.regs R.PRT_GCAUSE.addr = true) (h_PRT_GCMD : P.regs R.PRT_GCMD.addr = true)
variable (h_PRT_GSTAT : P.regs R.PRT_GSTAT.addr = true) (h_PRT_IAPP : P.regs R.PRT_IAPP.addr = true)
variable (h_PRT_ISET : P.regs R.PRT_ISET.addr = true) (h_PRT_ISHEET : P.regs R.PRT_ISHEET.addr = true)
variable (h_PRT_RATE : P.regs R.PRT_RATE.addr = true) (h_PRT_VAPP : P.regs R.PRT_VAPP.addr = true)
variable (h_RNG_CAUSE : P.regs R.RNG_CAUSE.addr = true) (h_RNG_LINK : P.regs R.RNG_LINK.addr = true)
variable (h_RNG_SPL : P.regs R.RNG_SPL.addr = true) (h_RNG_STAT : P.regs R.RNG_STAT.addr = true)
variable (h_SFY_COIL : P.regs R.SFY_COIL.addr = true) (h_SFY_PSTAT : P.regs R.SFY_PSTAT.addr = true)
variable (h_SFY_STAT : P.regs R.SFY_STAT.addr = true) (h_SIG_JOBSTAT : P.regs R.SIG_JOBSTAT.addr = true)
variable (h_SIG_KSTAT : P.regs R.SIG_KSTAT.addr = true) (h_SIG_LIMITH : P.regs R.SIG_LIMITH.addr = true)
variable (h_SIG_LIMITL : P.regs R.SIG_LIMITL.addr = true) (h_SIG_NEXTH : P.regs R.SIG_NEXTH.addr = true)
variable (h_SIG_NEXTL : P.regs R.SIG_NEXTL.addr = true) (h_SIG_PUB : P.regs R.SIG_PUB.addr = true)
variable (h_SIG_STAT : P.regs R.SIG_STAT.addr = true) (h_STO_REQCMD : P.regs R.STO_REQCMD.addr = true)
variable (h_STO_REQSTAT : P.regs R.STO_REQSTAT.addr = true) (h_STO_STAT : P.regs R.STO_STAT.addr = true)
variable (h_SYS_CLKSTAT : P.regs R.SYS_CLKSTAT.addr = true) (h_SYS_SAVESTAT : P.regs R.SYS_SAVESTAT.addr = true)
variable (h_SYS_SUPSTAT : P.regs R.SYS_SUPSTAT.addr = true) (h_THM_CABLE : P.regs R.THM_CABLE.addr = true)
variable (h_THM_PSTAT : P.regs R.THM_PSTAT.addr = true) (h_THM_STAT : P.regs R.THM_STAT.addr = true)
variable (h_TIM_CALCTL : P.regs R.TIM_CALCTL.addr = true) (h_TIM_FSTAT : P.regs R.TIM_FSTAT.addr = true)
variable (h_TIM_INCH : P.regs R.TIM_INCH.addr = true) (h_TIM_INCL : P.regs R.TIM_INCL.addr = true)
variable (h_TIM_INFO : P.regs R.TIM_INFO.addr = true) (h_TIM_STAT : P.regs R.TIM_STAT.addr = true)
variable (h_TIM_TSH : P.regs R.TIM_TSH.addr = true) (h_TIM_TSL : P.regs R.TIM_TSL.addr = true)
variable (h_VEH_RXLEN : P.regs R.VEH_RXLEN.addr = true) (h_VEH_SCFG : P.regs R.VEH_SCFG.addr = true)
variable (h_VEH_SSTAT : P.regs R.VEH_SSTAT.addr = true) (h_VEH_TXLEN : P.regs R.VEH_TXLEN.addr = true)
variable (c_bil : P.bil = true) (c_busError : P.busError = true) (c_cans : P.cans = true) (c_cln : P.cln = true)
variable (c_dkl : P.dkl = true) (c_drawn : P.drawn = true) (c_est : P.est = true) (c_eth : P.eth = true)
variable (c_harts : P.harts = true) (c_host : P.host = true) (c_latches : P.latches = true) (c_lpe : P.lpe = true)
variable (c_lsw : P.lsw = true) (c_mem : P.mem = true) (c_mtr : P.mtr = true) (c_prt : P.prt = true)
variable (c_readData : P.readData = true) (c_rng : P.rng = true) (c_sfy : P.sfy = true) (c_sig : P.sig = true)
variable (c_sys : P.sys = true) (c_thm : P.thm = true) (c_time : P.time = true) (c_veh : P.veh = true)

include h_EVT_PEND h_LPE_BATCH h_LPE_BSTAT h_LPE_LOAD h_LPE_STAT h_LPE_TLOAD h_LSW_CHSTAT h_PRT_GCAUSE h_PRT_GCMD
    h_PRT_GSTAT h_PRT_IAPP h_PRT_RATE h_PRT_VAPP h_SFY_COIL h_SFY_PSTAT h_SFY_STAT h_VEH_SSTAT c_lpe c_lsw c_prt c_veh in
theorem toStopping_writes (cause : Nat) (c : Nat) (s : State) :
    (toStopping cause c s).without P = s.without P := by
  unfold toStopping
  simp only [State.w_setF (fl := Fl.PRT_RATE_IRATE) h_PRT_RATE (by decide), State.without_upd_lpe c_lpe,
      State.without_upd_lsw c_lsw, State.without_upd_prt c_prt, State.without_upd_veh c_veh,
      toSession_writes (P := P) h_EVT_PEND h_PRT_GCAUSE h_VEH_SSTAT c_veh,
      noteStop_writes (P := P) h_EVT_PEND h_PRT_GCAUSE h_VEH_SSTAT,
      stopPort_writes (P := P) h_EVT_PEND h_LPE_BATCH h_LPE_BSTAT h_LPE_LOAD h_LPE_STAT h_LPE_TLOAD h_LSW_CHSTAT h_PRT_GCAUSE h_PRT_GCMD h_PRT_GSTAT h_PRT_IAPP h_PRT_VAPP h_SFY_COIL h_SFY_PSTAT h_SFY_STAT c_lpe c_lsw c_prt, State.without_ite, ite_self]

include h_EVT_PEND h_LPE_BATCH h_LPE_BSTAT h_LPE_LOAD h_LPE_STAT h_LPE_TLOAD h_LSW_CHSTAT h_PRT_GCAUSE h_PRT_GCMD
    h_PRT_GSTAT h_PRT_IAPP h_PRT_RATE h_PRT_VAPP h_SFY_COIL h_SFY_PSTAT h_SFY_STAT h_VEH_SSTAT c_lpe c_lsw c_prt c_veh in
theorem sessionStop_writes (c : Nat) (s : State) :
    (sessionStop c s).without P = s.without P := by
  unfold sessionStop
  simp only [State.without_upd_lpe c_lpe, State.without_upd_lsw c_lsw, State.without_upd_prt c_prt,
      State.without_upd_veh c_veh,
      toStopping_writes (P := P) h_EVT_PEND h_LPE_BATCH h_LPE_BSTAT h_LPE_LOAD h_LPE_STAT h_LPE_TLOAD h_LSW_CHSTAT h_PRT_GCAUSE h_PRT_GCMD h_PRT_GSTAT h_PRT_IAPP h_PRT_RATE h_PRT_VAPP h_SFY_COIL h_SFY_PSTAT h_SFY_STAT h_VEH_SSTAT c_lpe c_lsw c_prt c_veh, State.setSes_writes (P := P) c_veh, sesRefuse_writes (P := P) h_VEH_SSTAT, State.without_ite, ite_self]

include h_EVT_PEND h_LPE_BATCH h_LPE_BSTAT h_LPE_LOAD h_LPE_STAT h_LPE_TLOAD h_LSW_CHSTAT h_PRT_GCAUSE h_PRT_GCMD
    h_PRT_GSTAT h_PRT_IAPP h_PRT_VAPP h_SFY_COIL h_SFY_PSTAT h_SFY_STAT h_VEH_SSTAT c_lpe c_lsw c_prt c_sfy c_veh in
theorem sessionClear_writes (c : Nat) (s : State) :
    (sessionClear c s).without P = s.without P := by
  unfold sessionClear
  simp only [State.without_upd_lpe c_lpe, State.without_upd_lsw c_lsw, State.without_upd_prt c_prt,
      State.without_upd_sfy c_sfy, State.without_upd_veh c_veh,
      toUnlock_writes (P := P) h_EVT_PEND h_PRT_GCAUSE h_SFY_STAT h_VEH_SSTAT c_sfy c_veh,
      portCmd_writes (P := P) h_EVT_PEND h_LPE_BATCH h_LPE_BSTAT h_LPE_LOAD h_LPE_STAT h_LPE_TLOAD h_LSW_CHSTAT h_PRT_GCAUSE h_PRT_GCMD h_PRT_GSTAT h_PRT_IAPP h_PRT_VAPP h_SFY_COIL h_SFY_PSTAT h_SFY_STAT c_lpe c_lsw c_prt, sesRefuse_writes (P := P) h_VEH_SSTAT, State.without_ite, ite_self]

include h_VEH_SCFG h_VEH_SSTAT c_veh in
theorem sessionEnable_writes (c : Nat) (s : State) :
    (sessionEnable c s).without P = s.without P := by
  unfold sessionEnable
  simp only [State.w_setB (fl := Fl.VEH_SCFG_EN) h_VEH_SCFG (by decide),
      State.w_setB (fl := Fl.VEH_SSTAT_PEND) h_VEH_SSTAT (by decide), State.without_upd_veh c_veh,
      State.setSes_writes (P := P) c_veh, State.without_ite, ite_self]

include h_EVT_PEND h_LPE_BATCH h_LPE_BSTAT h_LPE_LOAD h_LPE_STAT h_LPE_TLOAD h_LSW_CHSTAT h_PRT_GCAUSE h_PRT_GCMD
    h_PRT_GSTAT h_PRT_IAPP h_PRT_RATE h_PRT_VAPP h_SFY_COIL h_SFY_PSTAT h_SFY_STAT h_VEH_SCFG h_VEH_SSTAT c_lpe c_lsw c_prt c_veh in
theorem sessionDisable_writes (c : Nat) (s : State) :
    (sessionDisable c s).without P = s.without P := by
  unfold sessionDisable
  simp only [State.w_setB (fl := Fl.VEH_SSTAT_PEND) h_VEH_SSTAT (by decide),
      State.w_setB (fl := Fl.VEH_SCFG_EN) h_VEH_SCFG (by decide), State.without_upd_lpe c_lpe,
      State.without_upd_lsw c_lsw, State.without_upd_prt c_prt, State.without_upd_veh c_veh,
      State.setSes_writes (P := P) c_veh,
      toStopping_writes (P := P) h_EVT_PEND h_LPE_BATCH h_LPE_BSTAT h_LPE_LOAD h_LPE_STAT h_LPE_TLOAD h_LSW_CHSTAT h_PRT_GCAUSE h_PRT_GCMD h_PRT_GSTAT h_PRT_IAPP h_PRT_RATE h_PRT_VAPP h_SFY_COIL h_SFY_PSTAT h_SFY_STAT h_VEH_SSTAT c_lpe c_lsw c_prt c_veh, State.without_ite, ite_self]

include h_EVT_PEND h_PRT_GCAUSE h_VEH_RXLEN c_harts c_mem c_veh in
theorem placeRequest_writes (c : Nat) (p : List Byte) (s : State) :
    (placeRequest c p s).without P = s.without P := by
  unfold placeRequest
  simp only [State.w_setF (fl := Fl.VEH_RXLEN_LEN) h_VEH_RXLEN (by decide), State.without_upd_harts c_harts,
      State.without_upd_mem c_mem, State.without_upd_veh c_veh, State.dma_writes (P := P) c_harts c_mem,
      sesCause_writes (P := P) h_EVT_PEND h_PRT_GCAUSE, State.setSes_writes (P := P) c_veh, State.without_ite,
      ite_self]

include h_EVT_PEND h_PRT_GCAUSE h_VEH_RXLEN c_harts c_mem c_veh in
theorem receiveRelease_writes (c : Nat) (s : State) :
    (receiveRelease c s).without P = s.without P := by
  unfold receiveRelease
  (try simp only [State.w_setF (fl := Fl.VEH_RXLEN_LEN) h_VEH_RXLEN (by decide), State.without_upd_harts c_harts,
      State.without_upd_mem c_mem, State.without_upd_veh c_veh,
      placeRequest_writes (P := P) h_EVT_PEND h_PRT_GCAUSE h_VEH_RXLEN c_harts c_mem c_veh,
      State.setSes_writes (P := P) c_veh, State.without_ite,
      ite_self]) <;> (repeat' split) <;> simp only [State.w_setF (fl := Fl.VEH_RXLEN_LEN) h_VEH_RXLEN (by decide),
      State.without_upd_harts c_harts, State.without_upd_mem c_mem, State.without_upd_veh c_veh,
      placeRequest_writes (P := P) h_EVT_PEND h_PRT_GCAUSE h_VEH_RXLEN c_harts c_mem c_veh,
      State.setSes_writes (P := P) c_veh, State.without_ite, ite_self]

include c_veh in
theorem sendVehicle_writes (c : Nat) (m : VehFrame) (s : State) :
    (sendVehicle c m s).without P = s.without P := by
  unfold sendVehicle
  simp only [State.without_upd_veh c_veh, State.setSes_writes (P := P) c_veh, State.without_ite, ite_self]

include h_EVT_PEND h_PRT_GCAUSE h_VEH_SSTAT h_VEH_TXLEN c_veh in
theorem responseSend_writes (c : Nat) (len : Nat) (s : State) :
    (responseSend c len s).without P = s.without P := by
  unfold responseSend
  simp only [State.w_setF (fl := Fl.VEH_TXLEN_LEN) h_VEH_TXLEN (by decide), State.without_upd_veh c_veh,
      sendVehicle_writes (P := P) c_veh, State.setSes_writes (P := P) c_veh,
      toSession_writes (P := P) h_EVT_PEND h_PRT_GCAUSE h_VEH_SSTAT c_veh, State.without_ite, ite_self]

include h_EVT_PEND h_THM_STAT in
theorem thmCause_writes (j : Nat) (s : State) :
    (thmCause j s).without P = s.without P := by
  unfold thmCause
  simp only [State.w_causeOn (fl := Fl.THM_STAT_CAUSE) h_EVT_PEND h_THM_STAT (by decide), State.without_ite, ite_self]

include c_thm in
theorem State.setTp_writes (s : State) (p : Nat) (f : ThmPort → ThmPort) :
    (State.setTp s p f).without P = s.without P := by
  unfold State.setTp
  simp only [State.without_upd_thm c_thm, State.without_ite, ite_self]

include h_EVT_PEND h_PRT_GCAUSE h_THM_CABLE h_THM_PSTAT h_THM_STAT in
theorem toNogo_writes (p : Nat) (s : State) :
    (toNogo p s).without P = s.without P := by
  unfold toNogo
  simp only [State.w_setF (fl := Fl.THM_CABLE_CABLE) h_THM_CABLE (by decide),
      State.w_setF (fl := Fl.THM_PSTAT_NOGO) h_THM_PSTAT (by decide),
      State.w_setB (fl := Fl.THM_CABLE_CABLE) h_THM_CABLE (by decide),
      State.w_setB (fl := Fl.THM_PSTAT_NOGO) h_THM_PSTAT (by decide), thmCause_writes (P := P) h_EVT_PEND h_THM_STAT,
      prtCause_writes (P := P) h_EVT_PEND h_PRT_GCAUSE, State.without_ite, ite_self]

include h_EVT_PEND h_PRT_GCAUSE h_THM_CABLE h_THM_PSTAT h_THM_STAT c_thm in
theorem evalWindow_writes (p : Nat) (s : State) :
    (evalWindow p s).without P = s.without P := by
  unfold evalWindow
  simp only [State.without_upd_thm c_thm, prtCause_writes (P := P) h_EVT_PEND h_PRT_GCAUSE,
      thmCause_writes (P := P) h_EVT_PEND h_THM_STAT, State.setTp_writes (P := P) c_thm,
      toNogo_writes (P := P) h_EVT_PEND h_PRT_GCAUSE h_THM_CABLE h_THM_PSTAT h_THM_STAT, State.without_when_if,
      State.without_ite, ite_self]

include h_EVT_PEND h_MTR_STAT in
theorem mtrCause_writes (j : Nat) (s : State) :
    (mtrCause j s).without P = s.without P := by
  unfold mtrCause
  simp only [State.w_causeOn (fl := Fl.MTR_STAT_CAUSE) h_EVT_PEND h_MTR_STAT (by decide), State.without_ite, ite_self]

include c_bil in
theorem meterFlag_writes (m : Nat) (bits : Nat) (s : State) :
    (meterFlag m bits s).without P = s.without P := by
  unfold meterFlag
  simp only [State.without_upd_bil c_bil, State.without_ite, ite_self]

theorem metroWrite_writes {P : Part} (h_BIL_STAT : P.regs R.BIL_STAT.addr = true) (h_BIL_TCOUNT : P.regs
    R.BIL_TCOUNT.addr = true) (h_BIL_TFIRSTH : P.regs R.BIL_TFIRSTH.addr = true) (h_BIL_TFIRSTL : P.regs R.BIL_TFIRSTL.addr = true) (h_BIL_TLASTH : P.regs R.BIL_TLASTH.addr = true) (h_BIL_TLASTL : P.regs R.BIL_TLASTL.addr = true) (h_EVT_PEND : P.regs R.EVT_PEND.addr = true) (h_MTR_CALCNT : P.regs R.MTR_CALCNT.addr = true) (h_MTR_STAT : P.regs R.MTR_STAT.addr = true) (c_bil : P.bil = true)
    {r : Rg} (h : P.regs r.addr = true) (hc : r.count ≤ 65536) (i : Nat) (v : Word) (s : State) :
    (metroWrite r i v s).without P = s.without P := by
  have hp : ∀ s : State, (plainWrite r i v s).without P = s.without P := plainWrite_writes h hc i v
  unfold metroWrite
  dsimp only
  split <;> simp only [hp, State.w_addF (fl := Fl.MTR_CALCNT_COUNT) h_MTR_CALCNT (by decide),
      State.without_upd_bil c_bil, mtrCause_writes (P := P) h_EVT_PEND h_MTR_STAT,
      tamper_writes (P := P) h_BIL_STAT h_BIL_TCOUNT h_BIL_TFIRSTH h_BIL_TFIRSTL h_BIL_TLASTH h_BIL_TLASTL h_EVT_PEND, meterFlag_writes (P := P) c_bil, State.without_ite, ite_self]

include c_mtr in
theorem State.setGin_writes (s : State) (ex : Bool) (f : GridInput → GridInput) :
    (State.setGin s ex f).without P = s.without P := by
  unfold State.setGin
  simp only [State.without_upd_mtr c_mtr, State.without_ite, ite_self]

include h_EVT_PEND h_MTR_GSTAT h_MTR_STAT c_bil c_mtr in
theorem gridMode_writes (mode : Nat) (reason : Nat) (s : State) :
    (gridMode mode reason s).without P = s.without P := by
  unfold gridMode
  simp only [State.w_setF (fl := Fl.MTR_GSTAT_REASON) h_MTR_GSTAT (by decide),
      State.w_setF (fl := Fl.MTR_GSTAT_MODE) h_MTR_GSTAT (by decide), State.without_upd_bil c_bil,
      State.without_upd_mtr c_mtr, meterFlag_writes (P := P) c_bil, mtrCause_writes (P := P) h_EVT_PEND h_MTR_STAT,
      State.setGin_writes (P := P) c_mtr, State.without_ite, ite_self]

include h_EVT_PEND h_MTR_GCFG h_MTR_GSTAT h_MTR_STAT c_bil c_mtr in
theorem gridForce_writes (s : State) :
    (gridForce s).without P = s.without P := by
  unfold gridForce
  simp only [State.w_setB (fl := Fl.MTR_GCFG_FORCE) h_MTR_GCFG (by decide), State.without_upd_bil c_bil,
      State.without_upd_mtr c_mtr, gridMode_writes (P := P) h_EVT_PEND h_MTR_GSTAT h_MTR_STAT c_bil c_mtr,
      State.without_when_if, State.without_ite, ite_self]

include h_EVT_PEND h_MTR_BNDCTL h_MTR_STAT c_mtr in
theorem boundaryEnqueue_writes (s : State) :
    (boundaryEnqueue s).without P = s.without P := by
  unfold boundaryEnqueue
  simp only [State.w_setF (fl := Fl.MTR_BNDCTL_ERR) h_MTR_BNDCTL (by decide),
      State.w_setF (fl := Fl.MTR_BNDCTL_COUNT) h_MTR_BNDCTL (by decide),
      State.w_setB (fl := Fl.MTR_BNDCTL_ERR) h_MTR_BNDCTL (by decide),
      State.w_setB (fl := Fl.MTR_BNDCTL_COUNT) h_MTR_BNDCTL (by decide), State.without_upd_mtr c_mtr,
      mtrCause_writes (P := P) h_EVT_PEND h_MTR_STAT, State.without_ite, ite_self]

include h_BIL_STAT h_EVT_PEND in
theorem bilCause_writes (j : Nat) (s : State) :
    (bilCause j s).without P = s.without P := by
  unfold bilCause
  simp only [State.w_causeOn (fl := Fl.BIL_STAT_CAUSE) h_EVT_PEND h_BIL_STAT (by decide), State.without_ite, ite_self]

include h_BIL_CTL h_BIL_STAT h_EVT_PEND in
theorem demlenWrite_writes (code : Nat) (s : State) :
    (demlenWrite code s).without P = s.without P := by
  unfold demlenWrite
  simp only [State.w_setF (fl := Fl.BIL_STAT_CALERR) h_BIL_STAT (by decide),
      State.w_setF (fl := Fl.BIL_STAT_DLENPEND) h_BIL_STAT (by decide),
      State.w_setF (fl := Fl.BIL_CTL_DEMLEN) h_BIL_CTL (by decide),
      State.w_setB (fl := Fl.BIL_STAT_CALERR) h_BIL_STAT (by decide),
      State.w_setB (fl := Fl.BIL_STAT_DLENPEND) h_BIL_STAT (by decide),
      State.w_setB (fl := Fl.BIL_CTL_DEMLEN) h_BIL_CTL (by decide), bilCause_writes (P := P) h_BIL_STAT h_EVT_PEND,
      State.without_ite, ite_self]

include c_bil in
theorem State.work_writes (s : State) (f : BilWork → BilWork) :
    (State.work s f).without P = s.without P := by
  unfold State.work
  simp only [State.without_upd_bil c_bil, State.without_ite, ite_self]

include h_BIL_NEXTH h_BIL_NEXTL c_bil c_mtr in
theorem schedule_writes (s : State) :
    (schedule s).without P = s.without P := by
  unfold schedule
  simp only [State.w_setQ (lo := R.BIL_NEXTL) (hi := R.BIL_NEXTH) h_BIL_NEXTL h_BIL_NEXTH (by decide) (by decide),
      State.without_upd_bil c_bil, State.without_upd_mtr c_mtr, State.work_writes (P := P) c_bil, State.without_ite,
      ite_self]

include h_BIL_CTL h_BIL_KOFFH h_BIL_KOFFL h_BIL_NEXTH h_BIL_NEXTL c_bil c_mtr in
theorem billingEnable_writes (s : State) :
    (billingEnable s).without P = s.without P := by
  unfold billingEnable
  simp only [State.w_setBM (r := R.BIL_KOFFL) h_BIL_KOFFL (by decide),
      State.w_setBM (r := R.BIL_KOFFH) h_BIL_KOFFH (by decide),
      State.w_setB (fl := Fl.BIL_CTL_EN) h_BIL_CTL (by decide),
      State.w_setQi (lo := R.BIL_KOFFL) (hi := R.BIL_KOFFH) h_BIL_KOFFL h_BIL_KOFFH (by decide) (by decide),
      State.without_upd_bil c_bil, State.without_upd_mtr c_mtr,
      schedule_writes (P := P) h_BIL_NEXTH h_BIL_NEXTL c_bil c_mtr, State.without_ite, ite_self]

include h_BIL_STAT h_BIL_TCOUNT h_BIL_TFIRSTH h_BIL_TFIRSTL h_BIL_TLASTH h_BIL_TLASTL h_EVT_PEND in
theorem calendarActivate_writes (s : State) :
    (calendarActivate s).without P = s.without P := by
  unfold calendarActivate
  simp only [State.w_setB (fl := Fl.BIL_STAT_ACTPEND) h_BIL_STAT (by decide),
      State.w_setB (fl := Fl.BIL_STAT_CALERR) h_BIL_STAT (by decide),
      tamper_writes (P := P) h_BIL_STAT h_BIL_TCOUNT h_BIL_TFIRSTH h_BIL_TFIRSTL h_BIL_TLASTH h_BIL_TLASTL h_EVT_PEND, bilCause_writes (P := P) h_BIL_STAT h_EVT_PEND, State.without_ite, ite_self]

include h_SIG_JOBSTAT in
theorem showJobs_writes (s : State) :
    (showJobs s).without P = s.without P := by
  unfold showJobs
  simp only [State.w_setF (fl := Fl.SIG_JOBSTAT_BUSY) h_SIG_JOBSTAT (by decide),
      State.w_setF (fl := Fl.SIG_JOBSTAT_COUNT) h_SIG_JOBSTAT (by decide),
      State.w_setB (fl := Fl.SIG_JOBSTAT_BUSY) h_SIG_JOBSTAT (by decide),
      State.w_setB (fl := Fl.SIG_JOBSTAT_COUNT) h_SIG_JOBSTAT (by decide), State.without_ite, ite_self]

include h_SIG_JOBSTAT h_SIG_STAT c_sig in
theorem jobSubmit_writes (addr : Nat) (s : State) :
    (jobSubmit addr s).without P = s.without P := by
  unfold jobSubmit
  simp only [State.w_setB (fl := Fl.SIG_STAT_QFULL) h_SIG_STAT (by decide), State.without_upd_sig c_sig,
      showJobs_writes (P := P) h_SIG_JOBSTAT, State.without_ite, ite_self]

include h_ALC_SSETPOINT h_PRT_ISET in
theorem setSetpoint_writes (i : Nat) (v : Int) (s : State) :
    (setSetpoint i v s).without P = s.without P := by
  unfold setSetpoint
  simp only [State.w_setFi (fl := Fl.ALC_SSETPOINT_SETPOINT) h_ALC_SSETPOINT (by decide),
      State.w_setFiM (r := R.PRT_ISET) h_PRT_ISET (by decide),
      State.w_setReg (r := R.PRT_ISET) h_PRT_ISET (by decide), State.without_ite, ite_self]

include h_ALC_PAPPLIED h_ALC_SSETPOINT h_PRT_ISET h_PRT_ISHEET c_rng c_veh in
theorem goSilent_writes (s : State) :
    (goSilent s).without P = s.without P := by
  unfold goSilent
  simp (disch := (intros; simp only [State.without_upd_rng c_rng, State.without_upd_veh c_veh, State.setFe_writes (P := P) c_veh, setSheet_writes (P := P) h_ALC_PAPPLIED h_PRT_ISHEET, setSetpoint_writes (P := P) h_ALC_SSETPOINT h_PRT_ISET, State.without_ite, ite_self]; done)) only [State.without_each, State.without_eachOf, State.without_upd_rng c_rng, State.without_upd_veh c_veh, State.setFe_writes (P := P) c_veh, setSheet_writes (P := P) h_ALC_PAPPLIED h_PRT_ISHEET, setSetpoint_writes (P := P) h_ALC_SSETPOINT h_PRT_ISET, State.without_ite, ite_self]

include h_ALC_PAPPLIED h_ALC_SSETPOINT h_PRT_ISET h_PRT_ISHEET h_RNG_SPL h_RNG_STAT c_rng c_veh in
theorem returnRequest_writes (s : State) :
    (returnRequest s).without P = s.without P := by
  unfold returnRequest
  simp only [State.w_setF (fl := Fl.RNG_STAT_STATE) h_RNG_STAT (by decide),
      State.w_setF (fl := Fl.RNG_SPL_STEP) h_RNG_SPL (by decide), State.without_upd_rng c_rng,
      State.without_upd_veh c_veh,
      goSilent_writes (P := P) h_ALC_PAPPLIED h_ALC_SSETPOINT h_PRT_ISET h_PRT_ISHEET c_rng c_veh,
      State.without_when_if, State.without_ite, ite_self]

include c_rng in
theorem announceOn_writes (base : ViewFrame) (c : RingChange) (s : State) :
    (announceOn base c s).without P = s.without P := by
  unfold announceOn
  simp only [State.without_upd_rng c_rng, State.without_ite, ite_self]

include c_rng in
theorem announce_writes (c : RingChange) (s : State) :
    (announce c s).without P = s.without P := by
  unfold announce
  simp only [State.without_upd_rng c_rng, announceOn_writes (P := P) c_rng, State.without_ite, ite_self]

include h_EVT_PEND h_RNG_CAUSE in
theorem rngCause_writes (j : Nat) (s : State) :
    (rngCause j s).without P = s.without P := by
  unfold rngCause
  simp only [State.w_causeOn (fl := Fl.RNG_CAUSE_CAUSE) h_EVT_PEND h_RNG_CAUSE (by decide), State.without_ite,
      ite_self]

include h_EVT_PEND h_RNG_CAUSE h_RNG_SPL c_rng in
theorem spliceStart_writes (s : State) :
    (spliceStart s).without P = s.without P := by
  unfold spliceStart
  simp only [State.w_setF (fl := Fl.RNG_SPL_REASON) h_RNG_SPL (by decide),
      State.w_setF (fl := Fl.RNG_SPL_STEP) h_RNG_SPL (by decide), State.without_upd_rng c_rng,
      announce_writes (P := P) c_rng, rngCause_writes (P := P) h_EVT_PEND h_RNG_CAUSE, State.without_ite, ite_self]

include h_EVT_PEND h_RNG_CAUSE h_RNG_SPL h_RNG_STAT c_rng in
theorem leaveRing_writes (s : State) :
    (leaveRing s).without P = s.without P := by
  unfold leaveRing
  simp only [State.w_setF (fl := Fl.RNG_STAT_STATE) h_RNG_STAT (by decide),
      State.w_setF (fl := Fl.RNG_SPL_REASON) h_RNG_SPL (by decide), State.without_upd_rng c_rng,
      announce_writes (P := P) c_rng, rngCause_writes (P := P) h_EVT_PEND h_RNG_CAUSE, State.without_ite, ite_self]

include h_EVT_PEND h_LSW_STAT in
theorem lswCause_writes (j : Nat) (s : State) :
    (lswCause j s).without P = s.without P := by
  unfold lswCause
  simp only [State.w_causeOn (fl := Fl.LSW_STAT_CAUSE) h_EVT_PEND h_LSW_STAT (by decide), State.without_ite, ite_self]

include h_EVT_PEND h_LSW_CHSTAT h_LSW_STAT c_lsw in
theorem channelOn_writes (n : Nat) (s : State) :
    (channelOn n s).without P = s.without P := by
  unfold channelOn
  (repeat' split) <;> simp only [State.w_setF (fl := Fl.LSW_CHSTAT_PROG) h_LSW_CHSTAT (by decide),
      State.w_setF (fl := Fl.LSW_CHSTAT_STATE) h_LSW_CHSTAT (by decide),
      State.w_setB (fl := Fl.LSW_CHSTAT_PROG) h_LSW_CHSTAT (by decide),
      State.w_setB (fl := Fl.LSW_CHSTAT_STATE) h_LSW_CHSTAT (by decide), State.without_upd_lsw c_lsw,
      lswCause_writes (P := P) h_EVT_PEND h_LSW_STAT, State.setCh_writes (P := P) c_lsw,
      chUpdate_writes (P := P) h_LSW_CHSTAT c_lsw, State.without_ite, ite_self]

include h_LSW_CHSTAT c_lsw in
theorem chEndHold_writes (n : Nat) (s : State) :
    (chEndHold n s).without P = s.without P := by
  unfold chEndHold
  simp only [State.w_setF (fl := Fl.LSW_CHSTAT_STATE) h_LSW_CHSTAT (by decide), State.without_upd_lsw c_lsw,
      chUpdate_writes (P := P) h_LSW_CHSTAT c_lsw, chTurnOff_writes (P := P) h_LSW_CHSTAT c_lsw, State.without_ite,
      ite_self]

include h_LSW_CHSTAT c_lsw in
theorem channelOff_writes (n : Nat) (s : State) :
    (channelOff n s).without P = s.without P := by
  unfold channelOff
  simp only [State.w_setB (fl := Fl.LSW_CHSTAT_PROG) h_LSW_CHSTAT (by decide), State.without_upd_lsw c_lsw,
      chEndHold_writes (P := P) h_LSW_CHSTAT c_lsw, chUpdate_writes (P := P) h_LSW_CHSTAT c_lsw, State.without_ite,
      ite_self]

include h_LSW_CHI h_LSW_CHSTAT c_lsw in
theorem channelClear_writes (n : Nat) (s : State) :
    (channelClear n s).without P = s.without P := by
  unfold channelClear
  simp only [State.w_setF (fl := Fl.LSW_CHSTAT_STATE) h_LSW_CHSTAT (by decide),
      State.w_setF (fl := Fl.LSW_CHI_I) h_LSW_CHI (by decide),
      State.w_setF (fl := Fl.LSW_CHSTAT_PROG) h_LSW_CHSTAT (by decide),
      State.w_setF (fl := Fl.LSW_CHSTAT_FLT) h_LSW_CHSTAT (by decide),
      State.w_setB (fl := Fl.LSW_CHSTAT_STATE) h_LSW_CHSTAT (by decide),
      State.w_setB (fl := Fl.LSW_CHI_I) h_LSW_CHI (by decide),
      State.w_setB (fl := Fl.LSW_CHSTAT_PROG) h_LSW_CHSTAT (by decide),
      State.w_setB (fl := Fl.LSW_CHSTAT_FLT) h_LSW_CHSTAT (by decide), State.without_upd_lsw c_lsw,
      chUpdate_writes (P := P) h_LSW_CHSTAT c_lsw, State.without_ite, ite_self]

include c_est in
theorem State.setPk_writes (s : State) (k : Nat) (f : Pack → Pack) :
    (State.setPk s k f).without P = s.without P := by
  unfold State.setPk
  simp only [State.without_upd_est c_est, State.without_ite, ite_self]

include h_EST_CAP h_EST_CYCLES c_est in
theorem newPack_writes (k : Nat) (s : State) :
    (newPack k s).without P = s.without P := by
  unfold newPack
  simp only [State.w_setReg (r := R.EST_CYCLES) h_EST_CYCLES (by decide),
      State.w_setReg (r := R.EST_CAP) h_EST_CAP (by decide), State.without_upd_est c_est,
      State.setPk_writes (P := P) c_est, State.without_ite, ite_self]

include h_EST_CAP h_EST_CHG h_EST_CYCLES h_EST_DIS h_EST_SOCE c_est in
theorem packInsert_writes (k : Nat) (s : State) :
    (packInsert k s).without P = s.without P := by
  unfold packInsert
  simp only [State.w_setFM (r := R.EST_CHG) h_EST_CHG (by decide),
      State.w_setFM (r := R.EST_DIS) h_EST_DIS (by decide),
      State.w_setF (fl := Fl.EST_SOCE_STATE) h_EST_SOCE (by decide),
      State.w_setReg (r := R.EST_CHG) h_EST_CHG (by decide), State.w_setReg (r := R.EST_DIS) h_EST_DIS (by decide),
      State.without_upd_est c_est, newPack_writes (P := P) h_EST_CAP h_EST_CYCLES c_est,
      State.setPk_writes (P := P) c_est, State.without_when_if, State.without_ite, ite_self]

include h_EST_CAP h_EST_CHG h_EST_CYCLES h_EST_DIS h_EST_SOCE c_est in
theorem estCommand_writes (op : Nat) (k : Nat) (s : State) :
    (estCommand op k s).without P = s.without P := by
  unfold estCommand
  simp only [State.without_upd_est c_est,
      packInsert_writes (P := P) h_EST_CAP h_EST_CHG h_EST_CYCLES h_EST_DIS h_EST_SOCE c_est,
      newPack_writes (P := P) h_EST_CAP h_EST_CYCLES c_est, State.without_ite, ite_self]

include h_TIM_INCH h_TIM_INCL c_time in
theorem incrementWrite_writes (ns : Nat) (s : State) :
    (incrementWrite ns s).without P = s.without P := by
  unfold incrementWrite
  simp only [State.w_setF (fl := Fl.TIM_INCH_NS) h_TIM_INCH (by decide),
      State.w_setF (fl := Fl.TIM_INCL_FRAC) h_TIM_INCL (by decide), State.without_upd_time c_time, State.without_ite,
      ite_self]

include h_EVT_PEND h_TIM_STAT in
theorem timCause_writes (j : Nat) (s : State) :
    (timCause j s).without P = s.without P := by
  unfold timCause
  simp only [State.w_causeOn (fl := Fl.TIM_STAT_CAUSE) h_EVT_PEND h_TIM_STAT (by decide), State.without_ite, ite_self]

include h_EVT_PEND h_TIM_STAT in
theorem stepRefused_writes (s : State) :
    (stepRefused s).without P = s.without P := by
  unfold stepRefused
  simp only [State.w_setB (fl := Fl.TIM_STAT_STEPERR) h_TIM_STAT (by decide),
      timCause_writes (P := P) h_EVT_PEND h_TIM_STAT, State.without_ite, ite_self]

include h_EVT_PEND h_TIM_STAT c_time in
theorem timeStepRequest_writes (ms : Int) (s : State) :
    (timeStepRequest ms s).without P = s.without P := by
  unfold timeStepRequest
  simp only [State.w_setB (fl := Fl.TIM_STAT_STEPPEND) h_TIM_STAT (by decide), State.without_upd_time c_time,
      stepRefused_writes (P := P) h_EVT_PEND h_TIM_STAT, State.without_ite, ite_self]

include h_TIM_CALCTL h_TIM_STAT c_time in
theorem calendarSet_writes (src : Nat) (s : State) :
    (calendarSet src s).without P = s.without P := by
  unfold calendarSet
  simp only [State.w_setF (fl := Fl.TIM_CALCTL_SRC) h_TIM_CALCTL (by decide),
      State.w_setF (fl := Fl.TIM_STAT_CALPEND) h_TIM_STAT (by decide),
      State.w_setB (fl := Fl.TIM_CALCTL_SRC) h_TIM_CALCTL (by decide),
      State.w_setB (fl := Fl.TIM_STAT_CALPEND) h_TIM_STAT (by decide), State.without_upd_time c_time,
      State.without_ite, ite_self]

include h_CAN_TXEVA h_CAN_TXEVB h_CAN_TXSTAT c_cans in
theorem State.setCan_writes (s : State) (n : Nat) (f : CanCtl → CanCtl) :
    (State.setCan s n f).without P = s.without P := by
  unfold State.setCan
  (try simp only [State.w_setF (fl := Fl.CAN_TXSTAT_EVCOUNT) h_CAN_TXSTAT (by decide),
      State.w_setF (fl := Fl.CAN_TXSTAT_QCOUNT) h_CAN_TXSTAT (by decide),
      State.w_setFM (r := R.CAN_TXEVB) h_CAN_TXEVB (by decide),
      State.w_setFM (r := R.CAN_TXEVA) h_CAN_TXEVA (by decide),
      State.w_setF (fl := Fl.CAN_TXEVB_LATE) h_CAN_TXEVB (by decide),
      State.w_setF (fl := Fl.CAN_TXEVB_STATUS) h_CAN_TXEVB (by decide),
      State.w_setF (fl := Fl.CAN_TXEVB_TAG) h_CAN_TXEVB (by decide),
      State.w_setB (fl := Fl.CAN_TXSTAT_EVCOUNT) h_CAN_TXSTAT (by decide),
      State.w_setB (fl := Fl.CAN_TXSTAT_QCOUNT) h_CAN_TXSTAT (by decide),
      State.w_setBM (r := R.CAN_TXEVB) h_CAN_TXEVB (by decide),
      State.w_setBM (r := R.CAN_TXEVA) h_CAN_TXEVA (by decide),
      State.w_setB (fl := Fl.CAN_TXEVB_LATE) h_CAN_TXEVB (by decide),
      State.w_setB (fl := Fl.CAN_TXEVB_STATUS) h_CAN_TXEVB (by decide),
      State.w_setB (fl := Fl.CAN_TXEVB_TAG) h_CAN_TXEVB (by decide),
      State.w_setReg (r := R.CAN_TXEVB) h_CAN_TXEVB (by decide),
      State.w_setReg (r := R.CAN_TXEVA) h_CAN_TXEVA (by decide), State.without_upd_cans c_cans, State.without_ite,
      ite_self]) <;> (repeat' split) <;> simp only [State.w_setF (fl := Fl.CAN_TXSTAT_EVCOUNT) h_CAN_TXSTAT (by decide), State.w_setF (fl := Fl.CAN_TXSTAT_QCOUNT) h_CAN_TXSTAT (by decide), State.w_setFM (r := R.CAN_TXEVB) h_CAN_TXEVB (by decide), State.w_setFM (r := R.CAN_TXEVA) h_CAN_TXEVA (by decide), State.w_setF (fl := Fl.CAN_TXEVB_LATE) h_CAN_TXEVB (by decide), State.w_setF (fl := Fl.CAN_TXEVB_STATUS) h_CAN_TXEVB (by decide), State.w_setF (fl := Fl.CAN_TXEVB_TAG) h_CAN_TXEVB (by decide), State.w_setB (fl := Fl.CAN_TXSTAT_EVCOUNT) h_CAN_TXSTAT (by decide), State.w_setB (fl := Fl.CAN_TXSTAT_QCOUNT) h_CAN_TXSTAT (by decide), State.w_setBM (r := R.CAN_TXEVB) h_CAN_TXEVB (by decide), State.w_setBM (r := R.CAN_TXEVA) h_CAN_TXEVA (by decide), State.w_setB (fl := Fl.CAN_TXEVB_LATE) h_CAN_TXEVB (by decide), State.w_setB (fl := Fl.CAN_TXEVB_STATUS) h_CAN_TXEVB (by decide), State.w_setB (fl := Fl.CAN_TXEVB_TAG) h_CAN_TXEVB (by decide), State.w_setReg (r := R.CAN_TXEVB) h_CAN_TXEVB (by decide), State.w_setReg (r := R.CAN_TXEVA) h_CAN_TXEVA (by decide), State.without_upd_cans c_cans, State.without_ite, ite_self]

include h_CAN_STAT h_CAN_TXEVA h_CAN_TXEVB h_CAN_TXSTAT c_cans in
theorem canStart_writes (n : Nat) (s : State) :
    (canStart n s).without P = s.without P := by
  unfold canStart
  simp only [State.w_setF (fl := Fl.CAN_STAT_STATE) h_CAN_STAT (by decide), State.without_upd_cans c_cans,
      State.setCan_writes (P := P) h_CAN_TXEVA h_CAN_TXEVB h_CAN_TXSTAT c_cans, State.without_ite, ite_self]

include h_CAN_CTL h_CAN_STAT h_CAN_TXEVA h_CAN_TXEVB h_CAN_TXSTAT c_cans in
theorem canEnable_writes (n : Nat) (s : State) :
    (canEnable n s).without P = s.without P := by
  unfold canEnable
  (try simp only [State.w_setF (fl := Fl.CAN_CTL_EN) h_CAN_CTL (by decide),
      State.w_setF (fl := Fl.CAN_STAT_STATE) h_CAN_STAT (by decide),
      State.w_setB (fl := Fl.CAN_CTL_EN) h_CAN_CTL (by decide),
      State.w_setB (fl := Fl.CAN_STAT_STATE) h_CAN_STAT (by decide), State.without_upd_cans c_cans,
      canStart_writes (P := P) h_CAN_STAT h_CAN_TXEVA h_CAN_TXEVB h_CAN_TXSTAT c_cans, State.without_ite,
      ite_self]) <;> (repeat' split) <;> simp only [State.w_setF (fl := Fl.CAN_CTL_EN) h_CAN_CTL (by decide),
      State.w_setF (fl := Fl.CAN_STAT_STATE) h_CAN_STAT (by decide),
      State.w_setB (fl := Fl.CAN_CTL_EN) h_CAN_CTL (by decide),
      State.w_setB (fl := Fl.CAN_STAT_STATE) h_CAN_STAT (by decide), State.without_upd_cans c_cans,
      canStart_writes (P := P) h_CAN_STAT h_CAN_TXEVA h_CAN_TXEVB h_CAN_TXSTAT c_cans, State.without_ite, ite_self]

include h_CAN_CTL h_CAN_STAT in
theorem canDisable_writes (n : Nat) (s : State) :
    (canDisable n s).without P = s.without P := by
  unfold canDisable
  (try simp only [State.w_setF (fl := Fl.CAN_CTL_EN) h_CAN_CTL (by decide),
      State.w_setF (fl := Fl.CAN_STAT_STATE) h_CAN_STAT (by decide),
      State.w_setB (fl := Fl.CAN_CTL_EN) h_CAN_CTL (by decide),
      State.w_setB (fl := Fl.CAN_STAT_STATE) h_CAN_STAT (by decide), State.without_ite,
      ite_self]) <;> (repeat' split) <;> simp only [State.w_setF (fl := Fl.CAN_CTL_EN) h_CAN_CTL (by decide),
      State.w_setF (fl := Fl.CAN_STAT_STATE) h_CAN_STAT (by decide),
      State.w_setB (fl := Fl.CAN_CTL_EN) h_CAN_CTL (by decide),
      State.w_setB (fl := Fl.CAN_STAT_STATE) h_CAN_STAT (by decide), State.without_ite, ite_self]

include h_CAN_TXEVA h_CAN_TXEVB h_CAN_TXSTAT c_cans in
theorem canRecover_writes (n : Nat) (s : State) :
    (canRecover n s).without P = s.without P := by
  unfold canRecover
  simp only [State.without_upd_cans c_cans, State.setCan_writes (P := P) h_CAN_TXEVA h_CAN_TXEVB h_CAN_TXSTAT c_cans,
      State.without_ite, ite_self]

include c_drawn in
theorem State.draw_writes (s : State) :
    (State.draw s).2.without P = s.without P := by
  unfold State.draw
  simp only [State.without_upd_drawn c_drawn, State.without_ite, ite_self]

include c_drawn in
theorem noSof_writes (s : State) :
    (noSof s).2.without P = s.without P := by
  unfold noSof
  simp only [State.without_upd_drawn c_drawn, State.draw_writes (P := P) c_drawn, State.without_ite, ite_self]

include h_CAN_STAT h_EVT_PEND in
theorem canCause_writes (j : Nat) (n : Nat) (s : State) :
    (canCause j n s).without P = s.without P := by
  unfold canCause
  simp only [State.w_causeOn (fl := Fl.CAN_STAT_CAUSE) h_EVT_PEND h_CAN_STAT (by decide), State.without_ite, ite_self]

include h_CAN_STAT h_EVT_PEND in
theorem canSub_writes (b : Nat) (n : Nat) (s : State) :
    (canSub b n s).without P = s.without P := by
  unfold canSub
  simp only [State.w_setFBit (fl := Fl.CAN_STAT_SUBCAUSE) h_CAN_STAT (by decide),
      canCause_writes (P := P) h_CAN_STAT h_EVT_PEND, State.without_ite, ite_self]

include h_CAN_STAT h_CAN_TXEVA h_CAN_TXEVB h_CAN_TXSTAT h_EVT_PEND c_cans in
theorem canEvent_writes (n : Nat) (e : CanEntry) (t : Word) (status : Nat) (s : State) :
    (canEvent n e t status s).without P = s.without P := by
  unfold canEvent
  simp only [State.without_upd_cans c_cans, canSub_writes (P := P) h_CAN_STAT h_EVT_PEND,
      canCause_writes (P := P) h_CAN_STAT h_EVT_PEND,
      State.setCan_writes (P := P) h_CAN_TXEVA h_CAN_TXEVB h_CAN_TXSTAT c_cans, State.without_ite, ite_self]

include h_CAN_STAT h_CAN_TXEVA h_CAN_TXEVB h_CAN_TXSTAT h_EVT_PEND c_cans c_drawn in
theorem canAbortAll_writes (n : Nat) (s : State) :
    (canAbortAll n s).without P = s.without P := by
  unfold canAbortAll
  (repeat' split) <;> simp (disch := (intros; simp only [State.without_upd_cans c_cans, State.without_upd_drawn c_drawn, noSof_writes (P := P) c_drawn, canEvent_writes (P := P) h_CAN_STAT h_CAN_TXEVA h_CAN_TXEVB h_CAN_TXSTAT h_EVT_PEND c_cans, State.setCan_writes (P := P) h_CAN_TXEVA h_CAN_TXEVB h_CAN_TXSTAT c_cans, State.without_ite, ite_self]; done)) only [State.without_each, State.without_eachOf, State.without_upd_cans c_cans, State.without_upd_drawn c_drawn, noSof_writes (P := P) c_drawn, canEvent_writes (P := P) h_CAN_STAT h_CAN_TXEVA h_CAN_TXEVB h_CAN_TXSTAT h_EVT_PEND c_cans, State.setCan_writes (P := P) h_CAN_TXEVA h_CAN_TXEVB h_CAN_TXSTAT c_cans, State.without_ite, ite_self]

include h_CAN_STAT h_CAN_TXEVA h_CAN_TXEVB h_CAN_TXSTAT h_EVT_PEND c_cans in
theorem canNext_writes (n : Nat) (s : State) :
    (canNext n s).without P = s.without P := by
  unfold canNext
  (repeat' split) <;> simp only [State.without_upd_cans c_cans,
      State.setCan_writes (P := P) h_CAN_TXEVA h_CAN_TXEVB h_CAN_TXSTAT c_cans,
      canSub_writes (P := P) h_CAN_STAT h_EVT_PEND, State.without_when_if, State.without_ite, ite_self]

include h_CAN_STAT h_CAN_TXEVA h_CAN_TXEVB h_CAN_TXSTAT h_EVT_PEND c_cans c_drawn in
theorem canPop_writes (n : Nat) (status : Nat) (s : State) :
    (canPop n status s).without P = s.without P := by
  unfold canPop
  (repeat' split) <;> simp only [State.without_upd_cans c_cans, State.without_upd_drawn c_drawn,
      noSof_writes (P := P) c_drawn,
      canEvent_writes (P := P) h_CAN_STAT h_CAN_TXEVA h_CAN_TXEVB h_CAN_TXSTAT h_EVT_PEND c_cans,
      State.setCan_writes (P := P) h_CAN_TXEVA h_CAN_TXEVB h_CAN_TXSTAT c_cans, State.without_ite, ite_self]

include h_CAN_STAT h_CAN_TXEVA h_CAN_TXEVB h_CAN_TXSTAT h_EVT_PEND c_cans c_drawn in
theorem canAbort_writes (n : Nat) (s : State) :
    (canAbort n s).without P = s.without P := by
  unfold canAbort
  (repeat' split) <;> simp only [State.without_upd_cans c_cans, State.without_upd_drawn c_drawn,
      canNext_writes (P := P) h_CAN_STAT h_CAN_TXEVA h_CAN_TXEVB h_CAN_TXSTAT h_EVT_PEND c_cans,
      canPop_writes (P := P) h_CAN_STAT h_CAN_TXEVA h_CAN_TXEVB h_CAN_TXSTAT h_EVT_PEND c_cans c_drawn,
      State.setCan_writes (P := P) h_CAN_TXEVA h_CAN_TXEVB h_CAN_TXSTAT c_cans, State.without_ite, ite_self]

include h_CAN_DBT h_CAN_NBT h_CAN_NSET h_CAN_STAT h_EVT_PEND in
theorem timingWrite_writes (n : Nat) (reg : Nat) (v : Word) (s : State) :
    (timingWrite n reg v s).without P = s.without P := by
  unfold timingWrite
  simp only [State.w_setReg (r := R.CAN_NBT) h_CAN_NBT (by decide),
      State.w_setReg (r := R.CAN_DBT) h_CAN_DBT (by decide), State.w_setReg (r := R.CAN_NSET) h_CAN_NSET (by decide),
      plainWrite_writes (r := R.CAN_NBT) h_CAN_NBT (by decide),
      plainWrite_writes (r := R.CAN_DBT) h_CAN_DBT (by decide),
      plainWrite_writes (r := R.CAN_NSET) h_CAN_NSET (by decide), canSub_writes (P := P) h_CAN_STAT h_EVT_PEND,
      State.without_ite, ite_self]

include h_CAN_STAT h_CAN_TXEVA h_CAN_TXEVB h_CAN_TXSTAT h_EVT_PEND c_cans in
theorem canPush_writes (n : Nat) (s : State) :
    (canPush n s).without P = s.without P := by
  unfold canPush
  simp only [State.without_upd_cans c_cans, canSub_writes (P := P) h_CAN_STAT h_EVT_PEND,
      canNext_writes (P := P) h_CAN_STAT h_CAN_TXEVA h_CAN_TXEVB h_CAN_TXSTAT h_EVT_PEND c_cans,
      State.setCan_writes (P := P) h_CAN_TXEVA h_CAN_TXEVB h_CAN_TXSTAT c_cans, State.without_ite, ite_self]

include h_CAN_RXSTAT in
theorem canRxReturn_writes (n : Nat) (cnt : Nat) (s : State) :
    (canRxReturn n cnt s).without P = s.without P := by
  unfold canRxReturn
  simp only [State.w_setF (fl := Fl.CAN_RXSTAT_NEXT) h_CAN_RXSTAT (by decide),
      State.w_setF (fl := Fl.CAN_RXSTAT_COUNT) h_CAN_RXSTAT (by decide), State.without_ite, ite_self]

include h_DKL_CTL h_DKL_STAT in
theorem dklEnable_writes (s : State) :
    (dklEnable s).without P = s.without P := by
  unfold dklEnable
  (try simp only [State.w_setF (fl := Fl.DKL_CTL_EN) h_DKL_CTL (by decide),
      State.w_setF (fl := Fl.DKL_STAT_STATE) h_DKL_STAT (by decide),
      State.w_setB (fl := Fl.DKL_CTL_EN) h_DKL_CTL (by decide),
      State.w_setB (fl := Fl.DKL_STAT_STATE) h_DKL_STAT (by decide), State.without_ite,
      ite_self]) <;> (repeat' split) <;> simp only [State.w_setF (fl := Fl.DKL_CTL_EN) h_DKL_CTL (by decide),
      State.w_setF (fl := Fl.DKL_STAT_STATE) h_DKL_STAT (by decide),
      State.w_setB (fl := Fl.DKL_CTL_EN) h_DKL_CTL (by decide),
      State.w_setB (fl := Fl.DKL_STAT_STATE) h_DKL_STAT (by decide), State.without_ite, ite_self]

include h_DKL_STAT h_EVT_PEND in
theorem dklCause_writes (j : Nat) (s : State) :
    (dklCause j s).without P = s.without P := by
  unfold dklCause
  simp only [State.w_causeOn (fl := Fl.DKL_STAT_CAUSE) h_EVT_PEND h_DKL_STAT (by decide), State.without_ite, ite_self]

include h_DKL_TXEV h_DKL_TXSTAT in
theorem showDkl_writes (s : State) :
    (showDkl s).without P = s.without P := by
  unfold showDkl
  (try simp only [State.w_setF (fl := Fl.DKL_TXSTAT_EVCOUNT) h_DKL_TXSTAT (by decide),
      State.w_setF (fl := Fl.DKL_TXSTAT_QCOUNT) h_DKL_TXSTAT (by decide),
      State.w_setFM (r := R.DKL_TXEV) h_DKL_TXEV (by decide),
      State.w_setF (fl := Fl.DKL_TXEV_DST) h_DKL_TXEV (by decide),
      State.w_setF (fl := Fl.DKL_TXEV_STATUS) h_DKL_TXEV (by decide),
      State.w_setF (fl := Fl.DKL_TXEV_TAG) h_DKL_TXEV (by decide),
      State.w_setReg (r := R.DKL_TXEV) h_DKL_TXEV (by decide), State.without_ite,
      ite_self]) <;> (repeat' split) <;> simp only [State.w_setF (fl := Fl.DKL_TXSTAT_EVCOUNT) h_DKL_TXSTAT (by decide), State.w_setF (fl := Fl.DKL_TXSTAT_QCOUNT) h_DKL_TXSTAT (by decide), State.w_setFM (r := R.DKL_TXEV) h_DKL_TXEV (by decide), State.w_setF (fl := Fl.DKL_TXEV_DST) h_DKL_TXEV (by decide), State.w_setF (fl := Fl.DKL_TXEV_STATUS) h_DKL_TXEV (by decide), State.w_setF (fl := Fl.DKL_TXEV_TAG) h_DKL_TXEV (by decide), State.w_setReg (r := R.DKL_TXEV) h_DKL_TXEV (by decide), State.without_ite, ite_self]

include h_DKL_STAT h_DKL_TXEV h_DKL_TXSTAT h_EVT_PEND c_dkl in
theorem dklEvent_writes (x : DklTx) (status : Nat) (s : State) :
    (dklEvent x status s).without P = s.without P := by
  unfold dklEvent
  (repeat' split) <;> simp only [State.without_upd_dkl c_dkl, dklCause_writes (P := P) h_DKL_STAT h_EVT_PEND,
      showDkl_writes (P := P) h_DKL_TXEV h_DKL_TXSTAT, State.without_ite, ite_self]

include h_DKL_TXEV h_DKL_TXSTAT c_dkl in
theorem dropTx_writes (x : DklTx) (s : State) :
    (dropTx x s).without P = s.without P := by
  unfold dropTx
  simp only [State.without_upd_dkl c_dkl, showDkl_writes (P := P) h_DKL_TXEV h_DKL_TXSTAT, State.without_ite,
      ite_self]

include h_DKL_STAT h_DKL_TXEV h_DKL_TXSTAT h_EVT_PEND c_dkl in
theorem failTx_writes (p : DklTx → Bool) (status : Nat) (s : State) :
    (failTx p status s).without P = s.without P := by
  unfold failTx
  simp (disch := (intros; simp only [State.without_upd_dkl c_dkl, dklEvent_writes (P := P) h_DKL_STAT h_DKL_TXEV h_DKL_TXSTAT h_EVT_PEND c_dkl, dropTx_writes (P := P) h_DKL_TXEV h_DKL_TXSTAT c_dkl, State.without_ite, ite_self]; done)) only [State.without_each, State.without_eachOf, State.without_upd_dkl c_dkl, dklEvent_writes (P := P) h_DKL_STAT h_DKL_TXEV h_DKL_TXSTAT h_EVT_PEND c_dkl, dropTx_writes (P := P) h_DKL_TXEV h_DKL_TXSTAT c_dkl, State.without_ite, ite_self]

include h_DKL_STAT h_DKL_TXEV h_DKL_TXSTAT h_EVT_PEND c_dkl in
theorem dklOff_writes (s : State) :
    (dklOff s).without P = s.without P := by
  unfold dklOff
  simp only [State.w_setF (fl := Fl.DKL_STAT_STATE) h_DKL_STAT (by decide), State.without_upd_dkl c_dkl,
      failTx_writes (P := P) h_DKL_STAT h_DKL_TXEV h_DKL_TXSTAT h_EVT_PEND c_dkl,
      showDkl_writes (P := P) h_DKL_TXEV h_DKL_TXSTAT, State.without_ite, ite_self]

include h_DKL_CTL h_DKL_STAT h_DKL_TXEV h_DKL_TXSTAT h_EVT_PEND c_dkl in
theorem dklDisable_writes (s : State) :
    (dklDisable s).without P = s.without P := by
  unfold dklDisable
  (try simp only [State.w_setF (fl := Fl.DKL_CTL_EN) h_DKL_CTL (by decide),
      State.w_setF (fl := Fl.DKL_STAT_STATE) h_DKL_STAT (by decide),
      State.w_setB (fl := Fl.DKL_CTL_EN) h_DKL_CTL (by decide),
      State.w_setB (fl := Fl.DKL_STAT_STATE) h_DKL_STAT (by decide), State.without_upd_dkl c_dkl,
      dklOff_writes (P := P) h_DKL_STAT h_DKL_TXEV h_DKL_TXSTAT h_EVT_PEND c_dkl, State.without_ite,
      ite_self]) <;> (repeat' split) <;> simp only [State.w_setF (fl := Fl.DKL_CTL_EN) h_DKL_CTL (by decide),
      State.w_setF (fl := Fl.DKL_STAT_STATE) h_DKL_STAT (by decide),
      State.w_setB (fl := Fl.DKL_CTL_EN) h_DKL_CTL (by decide),
      State.w_setB (fl := Fl.DKL_STAT_STATE) h_DKL_STAT (by decide), State.without_upd_dkl c_dkl,
      dklOff_writes (P := P) h_DKL_STAT h_DKL_TXEV h_DKL_TXSTAT h_EVT_PEND c_dkl, State.without_ite, ite_self]

include c_dkl in
theorem State.setLink_writes (s : State) (n : Nat) (f : DklLink → DklLink) :
    (State.setLink s n f).without P = s.without P := by
  unfold State.setLink
  simp only [State.without_upd_dkl c_dkl, State.without_ite, ite_self]

include h_DKL_TXEV h_DKL_TXSTAT c_dkl in
theorem queueTx_writes (src : Nat) (dst : Nat) (kind : Nat) (tag : Option Nat) (payload : List Byte) (s : State) :
    (queueTx src dst kind tag payload s).without P = s.without P := by
  unfold queueTx
  simp only [State.without_upd_dkl c_dkl, showDkl_writes (P := P) h_DKL_TXEV h_DKL_TXSTAT,
      State.setLink_writes (P := P) c_dkl, State.without_ite, ite_self]

include h_DKL_TXEV h_DKL_TXSTAT c_dkl in
theorem queueOwn_writes (dst : Nat) (kind : Nat) (args : List Nat) (s : State) :
    (queueOwn dst kind args s).without P = s.without P := by
  unfold queueOwn
  simp only [State.without_upd_dkl c_dkl, queueTx_writes (P := P) h_DKL_TXEV h_DKL_TXSTAT c_dkl, State.without_ite,
      ite_self]

include h_DKL_TXEV h_DKL_TXSTAT c_dkl in
theorem assign_writes (n : Nat) (s : State) :
    (assign n s).without P = s.without P := by
  unfold assign
  simp only [State.without_upd_dkl c_dkl, queueOwn_writes (P := P) h_DKL_TXEV h_DKL_TXSTAT c_dkl,
      State.setLink_writes (P := P) c_dkl, State.without_ite, ite_self]

include h_DKL_TXEV h_DKL_TXSTAT c_dkl in
theorem nodeApprove_writes (n : Nat) (s : State) :
    (nodeApprove n s).without P = s.without P := by
  unfold nodeApprove
  simp only [State.without_upd_dkl c_dkl, assign_writes (P := P) h_DKL_TXEV h_DKL_TXSTAT c_dkl, State.without_ite,
      ite_self]

include h_DKL_STAT h_DKL_TXCTL h_DKL_TXEV h_DKL_TXSTAT h_EVT_PEND c_dkl in
theorem dklSend_writes (v : Word) (s : State) :
    (dklSend v s).without P = s.without P := by
  unfold dklSend
  simp only [State.w_setReg (r := R.DKL_TXCTL) h_DKL_TXCTL (by decide), State.without_upd_dkl c_dkl,
      plainWrite_writes (r := R.DKL_TXCTL) h_DKL_TXCTL (by decide), dklCause_writes (P := P) h_DKL_STAT h_EVT_PEND,
      showDkl_writes (P := P) h_DKL_TXEV h_DKL_TXSTAT, queueTx_writes (P := P) h_DKL_TXEV h_DKL_TXSTAT c_dkl,
      State.without_ite, ite_self]

include h_DKL_RXSTAT in
theorem dklRxReturn_writes (cnt : Nat) (s : State) :
    (dklRxReturn cnt s).without P = s.without P := by
  unfold dklRxReturn
  simp only [State.w_setF (fl := Fl.DKL_RXSTAT_NEXT) h_DKL_RXSTAT (by decide),
      State.w_setF (fl := Fl.DKL_RXSTAT_COUNT) h_DKL_RXSTAT (by decide), State.without_ite, ite_self]

include c_eth in
theorem State.setMac_writes (s : State) (m : Nat) (f : EthMac → EthMac) :
    (State.setMac s m f).without P = s.without P := by
  unfold State.setMac
  simp only [State.without_upd_eth c_eth, State.without_ite, ite_self]

include h_ETH_STAT h_EVT_PEND in
theorem ethCause_writes (j : Nat) (m : Nat) (s : State) :
    (ethCause j m s).without P = s.without P := by
  unfold ethCause
  simp only [State.w_causeOn (fl := Fl.ETH_STAT_CAUSE) h_EVT_PEND h_ETH_STAT (by decide), State.without_ite, ite_self]

include h_ETH_STAT h_EVT_PEND c_eth in
theorem txStart_writes (m : Nat) (r : Nat) (s : State) :
    (txStart m r s).without P = s.without P := by
  unfold txStart
  simp only [State.without_upd_eth c_eth, State.setMac_writes (P := P) c_eth,
      ethCause_writes (P := P) h_ETH_STAT h_EVT_PEND, State.without_when_if, State.without_ite, ite_self]

include h_ETH_STAT h_EVT_PEND c_eth in
theorem txNext_writes (m : Nat) (s : State) :
    (txNext m s).without P = s.without P := by
  unfold txNext
  simp only [State.without_upd_eth c_eth, txStart_writes (P := P) h_ETH_STAT h_EVT_PEND c_eth, State.without_ite,
      ite_self]

include h_ETH_CTL h_ETH_STAT h_EVT_PEND c_eth in
theorem ethEnable_writes (m : Nat) (s : State) :
    (ethEnable m s).without P = s.without P := by
  unfold ethEnable
  (try simp only [State.w_setF (fl := Fl.ETH_CTL_EN) h_ETH_CTL (by decide),
      State.w_setF (fl := Fl.ETH_STAT_STATE) h_ETH_STAT (by decide),
      State.w_setB (fl := Fl.ETH_CTL_EN) h_ETH_CTL (by decide),
      State.w_setB (fl := Fl.ETH_STAT_STATE) h_ETH_STAT (by decide), State.without_upd_eth c_eth,
      txNext_writes (P := P) h_ETH_STAT h_EVT_PEND c_eth, State.without_ite,
      ite_self]) <;> (repeat' split) <;> simp only [State.w_setF (fl := Fl.ETH_CTL_EN) h_ETH_CTL (by decide),
      State.w_setF (fl := Fl.ETH_STAT_STATE) h_ETH_STAT (by decide),
      State.w_setB (fl := Fl.ETH_CTL_EN) h_ETH_CTL (by decide),
      State.w_setB (fl := Fl.ETH_STAT_STATE) h_ETH_STAT (by decide), State.without_upd_eth c_eth,
      txNext_writes (P := P) h_ETH_STAT h_EVT_PEND c_eth, State.without_ite, ite_self]

include h_ETH_CTL h_ETH_STAT in
theorem ethDisable_writes (m : Nat) (s : State) :
    (ethDisable m s).without P = s.without P := by
  unfold ethDisable
  (try simp only [State.w_setF (fl := Fl.ETH_CTL_EN) h_ETH_CTL (by decide),
      State.w_setF (fl := Fl.ETH_STAT_STATE) h_ETH_STAT (by decide),
      State.w_setB (fl := Fl.ETH_CTL_EN) h_ETH_CTL (by decide),
      State.w_setB (fl := Fl.ETH_STAT_STATE) h_ETH_STAT (by decide), State.without_ite,
      ite_self]) <;> (repeat' split) <;> simp only [State.w_setF (fl := Fl.ETH_CTL_EN) h_ETH_CTL (by decide),
      State.w_setF (fl := Fl.ETH_STAT_STATE) h_ETH_STAT (by decide),
      State.w_setB (fl := Fl.ETH_CTL_EN) h_ETH_CTL (by decide),
      State.w_setB (fl := Fl.ETH_STAT_STATE) h_ETH_STAT (by decide), State.without_ite, ite_self]

include h_ETH_CFG h_ETH_STAT h_EVT_PEND in
theorem ethConfig_writes (m : Nat) (v : Word) (s : State) :
    (ethConfig m v s).without P = s.without P := by
  unfold ethConfig
  simp only [State.w_setReg (r := R.ETH_CFG) h_ETH_CFG (by decide),
      plainWrite_writes (r := R.ETH_CFG) h_ETH_CFG (by decide), ethCause_writes (P := P) h_ETH_STAT h_EVT_PEND,
      State.without_ite, ite_self]

include h_ETH_MDIO h_ETH_MDIOSTAT c_eth in
theorem mdioGo_writes (m : Nat) (v : Word) (s : State) :
    (mdioGo m v s).without P = s.without P := by
  unfold mdioGo
  simp only [State.w_setBM (r := R.ETH_MDIO) h_ETH_MDIO (by decide),
      State.w_setB (fl := Fl.ETH_MDIOSTAT_BUSY) h_ETH_MDIOSTAT (by decide),
      State.w_setReg (r := R.ETH_MDIO) h_ETH_MDIO (by decide), State.without_upd_eth c_eth,
      plainWrite_writes (r := R.ETH_MDIO) h_ETH_MDIO (by decide), State.setMac_writes (P := P) c_eth,
      State.without_ite, ite_self]

include h_ETH_STAT h_ETH_TXTAIL h_EVT_PEND c_eth in
theorem txTail_writes (m : Nat) (r : Nat) (tail : Nat) (s : State) :
    (txTail m r tail s).without P = s.without P := by
  unfold txTail
  simp only [State.w_setF (fl := Fl.ETH_TXTAIL_TAIL) h_ETH_TXTAIL (by decide), State.without_upd_eth c_eth,
      txNext_writes (P := P) h_ETH_STAT h_EVT_PEND c_eth, State.without_ite, ite_self]

include h_ETH_RXSTAT in
theorem rxReturn_writes (m : Nat) (cnt : Nat) (s : State) :
    (rxReturn m cnt s).without P = s.without P := by
  unfold rxReturn
  simp only [State.w_setF (fl := Fl.ETH_RXSTAT_NEXT) h_ETH_RXSTAT (by decide),
      State.w_setF (fl := Fl.ETH_RXSTAT_COUNT) h_ETH_RXSTAT (by decide), State.without_ite, ite_self]

include h_EVT_PEND h_STO_STAT in
theorem stoCause_writes (j : Nat) (s : State) :
    (stoCause j s).without P = s.without P := by
  unfold stoCause
  simp only [State.w_causeOn (fl := Fl.STO_STAT_CAUSE) h_EVT_PEND h_STO_STAT (by decide), State.without_ite, ite_self]

include h_EVT_PEND h_STO_REQSTAT h_STO_STAT c_host in
theorem requestEnd_writes (k : Nat) (err : Nat) (s : State) :
    (requestEnd k err s).without P = s.without P := by
  unfold requestEnd
  simp only [State.w_setF (fl := Fl.STO_REQSTAT_ERR) h_STO_REQSTAT (by decide),
      State.w_setF (fl := Fl.STO_REQSTAT_DONE) h_STO_REQSTAT (by decide),
      State.w_setF (fl := Fl.STO_REQSTAT_BUSY) h_STO_REQSTAT (by decide),
      State.w_setB (fl := Fl.STO_REQSTAT_ERR) h_STO_REQSTAT (by decide),
      State.w_setB (fl := Fl.STO_REQSTAT_DONE) h_STO_REQSTAT (by decide),
      State.w_setB (fl := Fl.STO_REQSTAT_BUSY) h_STO_REQSTAT (by decide), State.without_upd_host c_host,
      stoCause_writes (P := P) h_EVT_PEND h_STO_STAT, State.without_when_if, State.without_ite, ite_self]

include h_EVT_PEND h_STO_REQCMD h_STO_REQSTAT h_STO_STAT c_host in
theorem requestGo_writes (k : Nat) (v : Word) (s : State) :
    (requestGo k v s).without P = s.without P := by
  unfold requestGo
  simp only [State.w_setBM (r := R.STO_REQCMD) h_STO_REQCMD (by decide),
      State.w_setBM (r := R.STO_REQSTAT) h_STO_REQSTAT (by decide),
      State.w_setB (fl := Fl.STO_REQSTAT_BUSY) h_STO_REQSTAT (by decide),
      State.w_setReg (r := R.STO_REQCMD) h_STO_REQCMD (by decide),
      State.w_setReg (r := R.STO_REQSTAT) h_STO_REQSTAT (by decide), State.without_upd_host c_host,
      plainWrite_writes (r := R.STO_REQCMD) h_STO_REQCMD (by decide),
      plainWrite_writes (r := R.STO_REQSTAT) h_STO_REQSTAT (by decide),
      requestEnd_writes (P := P) h_EVT_PEND h_STO_REQSTAT h_STO_STAT c_host, State.without_ite, ite_self]

include c_harts c_readData in
theorem mailboxRead_writes (n : Nat) (s : State) :
    (mailboxRead n s).without P = s.without P := by
  unfold mailboxRead
  (repeat' split) <;> simp only [State.without_upd_harts c_harts, State.without_upd_readData c_readData,
      State.setHart_writes (P := P) c_harts, State.without_ite, ite_self]

include h_TIM_FSTAT h_TIM_INFO h_TIM_TSH h_TIM_TSL in
theorem stampShow_writes (q : Nat) (s : State) :
    (stampShow q s).without P = s.without P := by
  unfold stampShow
  (try simp only [State.w_setF (fl := Fl.TIM_FSTAT_COUNT) h_TIM_FSTAT (by decide),
      State.w_setFM (r := R.TIM_INFO) h_TIM_INFO (by decide), State.w_setFM (r := R.TIM_TSL) h_TIM_TSL (by decide),
      State.w_setFM (r := R.TIM_TSH) h_TIM_TSH (by decide),
      State.w_setF (fl := Fl.TIM_INFO_SEQID) h_TIM_INFO (by decide),
      State.w_setF (fl := Fl.TIM_INFO_MSGTYPE) h_TIM_INFO (by decide),
      State.w_setF (fl := Fl.TIM_INFO_DIR) h_TIM_INFO (by decide),
      State.w_setF (fl := Fl.TIM_INFO_DOMAIN) h_TIM_INFO (by decide),
      State.w_setB (fl := Fl.TIM_FSTAT_COUNT) h_TIM_FSTAT (by decide),
      State.w_setBM (r := R.TIM_INFO) h_TIM_INFO (by decide), State.w_setBM (r := R.TIM_TSL) h_TIM_TSL (by decide),
      State.w_setBM (r := R.TIM_TSH) h_TIM_TSH (by decide),
      State.w_setB (fl := Fl.TIM_INFO_SEQID) h_TIM_INFO (by decide),
      State.w_setB (fl := Fl.TIM_INFO_MSGTYPE) h_TIM_INFO (by decide),
      State.w_setB (fl := Fl.TIM_INFO_DIR) h_TIM_INFO (by decide),
      State.w_setB (fl := Fl.TIM_INFO_DOMAIN) h_TIM_INFO (by decide),
      State.w_setReg (r := R.TIM_INFO) h_TIM_INFO (by decide), State.w_setReg (r := R.TIM_TSL) h_TIM_TSL (by decide),
      State.w_setReg (r := R.TIM_TSH) h_TIM_TSH (by decide),
      State.w_setQ (lo := R.TIM_TSL) (hi := R.TIM_TSH) h_TIM_TSL h_TIM_TSH (by decide) (by decide),
      State.without_ite,
      ite_self]) <;> (repeat' split) <;> simp only [State.w_setF (fl := Fl.TIM_FSTAT_COUNT) h_TIM_FSTAT (by decide),
      State.w_setFM (r := R.TIM_INFO) h_TIM_INFO (by decide), State.w_setFM (r := R.TIM_TSL) h_TIM_TSL (by decide),
      State.w_setFM (r := R.TIM_TSH) h_TIM_TSH (by decide),
      State.w_setF (fl := Fl.TIM_INFO_SEQID) h_TIM_INFO (by decide),
      State.w_setF (fl := Fl.TIM_INFO_MSGTYPE) h_TIM_INFO (by decide),
      State.w_setF (fl := Fl.TIM_INFO_DIR) h_TIM_INFO (by decide),
      State.w_setF (fl := Fl.TIM_INFO_DOMAIN) h_TIM_INFO (by decide),
      State.w_setB (fl := Fl.TIM_FSTAT_COUNT) h_TIM_FSTAT (by decide),
      State.w_setBM (r := R.TIM_INFO) h_TIM_INFO (by decide), State.w_setBM (r := R.TIM_TSL) h_TIM_TSL (by decide),
      State.w_setBM (r := R.TIM_TSH) h_TIM_TSH (by decide),
      State.w_setB (fl := Fl.TIM_INFO_SEQID) h_TIM_INFO (by decide),
      State.w_setB (fl := Fl.TIM_INFO_MSGTYPE) h_TIM_INFO (by decide),
      State.w_setB (fl := Fl.TIM_INFO_DIR) h_TIM_INFO (by decide),
      State.w_setB (fl := Fl.TIM_INFO_DOMAIN) h_TIM_INFO (by decide),
      State.w_setReg (r := R.TIM_INFO) h_TIM_INFO (by decide), State.w_setReg (r := R.TIM_TSL) h_TIM_TSL (by decide),
      State.w_setReg (r := R.TIM_TSH) h_TIM_TSH (by decide),
      State.w_setQ (lo := R.TIM_TSL) (hi := R.TIM_TSH) h_TIM_TSL h_TIM_TSH (by decide) (by decide),
      State.without_ite, ite_self]

include h_TIM_FSTAT h_TIM_INFO h_TIM_TSH h_TIM_TSL c_time in
theorem setFifo_writes (q : Nat) (l : List Stamp) (s : State) :
    (setFifo q l s).without P = s.without P := by
  unfold setFifo
  simp only [State.without_upd_time c_time, stampShow_writes (P := P) h_TIM_FSTAT h_TIM_INFO h_TIM_TSH h_TIM_TSL,
      State.without_ite, ite_self]

include h_TIM_FSTAT h_TIM_INFO h_TIM_TSH h_TIM_TSL c_readData c_time in
theorem stampRead_writes (q : Nat) (s : State) :
    (stampRead q s).without P = s.without P := by
  unfold stampRead
  simp only [State.without_upd_readData c_readData, State.without_upd_time c_time,
      setFifo_writes (P := P) h_TIM_FSTAT h_TIM_INFO h_TIM_TSH h_TIM_TSL c_time, State.without_ite, ite_self]

include h_CAN_TXEVA h_CAN_TXEVB h_CAN_TXSTAT c_cans c_readData in
theorem canEventRead_writes (n : Nat) (s : State) :
    (canEventRead n s).without P = s.without P := by
  unfold canEventRead
  simp only [State.without_upd_cans c_cans, State.without_upd_readData c_readData,
      State.setCan_writes (P := P) h_CAN_TXEVA h_CAN_TXEVB h_CAN_TXSTAT c_cans, State.without_ite, ite_self]

include h_DKL_TXEV h_DKL_TXSTAT c_dkl c_readData in
theorem dklEventRead_writes (s : State) :
    (dklEventRead s).without P = s.without P := by
  unfold dklEventRead
  simp only [State.without_upd_readData_dkl c_readData c_dkl, State.without_upd_dkl c_dkl,
      State.without_upd_readData c_readData, showDkl_writes (P := P) h_DKL_TXEV h_DKL_TXSTAT, State.without_ite,
      ite_self]

include h_CAN_TXEVA h_CAN_TXEVB h_CAN_TXSTAT h_DKL_TXEV h_DKL_TXSTAT h_TIM_FSTAT h_TIM_INFO h_TIM_TSH h_TIM_TSL
    c_cans c_dkl c_harts c_readData c_time in
theorem readEffect_writes (ini : Initiator) (r : Rg) (i : Nat) (s : State) :
    (readEffect ini r i s).without P = s.without P := by
  unfold readEffect
  (repeat' split) <;> simp only [State.without_upd_cans c_cans, State.without_upd_dkl c_dkl,
      State.without_upd_harts c_harts, State.without_upd_readData c_readData, State.without_upd_time c_time,
      mailboxRead_writes (P := P) c_harts c_readData,
      stampRead_writes (P := P) h_TIM_FSTAT h_TIM_INFO h_TIM_TSH h_TIM_TSL c_readData c_time,
      canEventRead_writes (P := P) h_CAN_TXEVA h_CAN_TXEVB h_CAN_TXSTAT c_cans c_readData,
      dklEventRead_writes (P := P) h_DKL_TXEV h_DKL_TXSTAT c_dkl c_readData, State.without_ite, ite_self]

include h_CAN_TXEVA h_CAN_TXEVB h_CAN_TXSTAT h_DKL_TXEV h_DKL_TXSTAT h_TIM_FSTAT h_TIM_INFO h_TIM_TSH h_TIM_TSL
    c_busError c_cans c_dkl c_harts c_latches c_readData c_time in
theorem busRead_writes (ini : Initiator) (a : Nat) (s : State) :
    (busRead ini a s).without P = s.without P := by
  unfold busRead
  split
  · simp only [State.without_upd_readData_busError c_readData c_busError,
      State.without_upd_latches_readData c_latches c_readData, State.without_upd_busError c_busError,
      State.without_upd_cans c_cans, State.without_upd_dkl c_dkl, State.without_upd_harts c_harts,
      State.without_upd_latches c_latches, State.without_upd_readData c_readData, State.without_upd_time c_time,
      busFault_writes (P := P) c_busError,
      readEffect_writes (P := P) h_CAN_TXEVA h_CAN_TXEVB h_CAN_TXSTAT h_DKL_TXEV h_DKL_TXSTAT h_TIM_FSTAT h_TIM_INFO h_TIM_TSH h_TIM_TSL c_cans c_dkl c_harts c_readData c_time, State.without_ite, ite_self]
  dsimp only
  split
  · simp [State.without, c_latches, c_readData, c_busError]
  · (repeat' split) <;> (try simp only [State.without_upd_readData_busError c_readData c_busError,
      State.without_upd_latches_readData c_latches c_readData,
      readEffect_writes (P := P) h_CAN_TXEVA h_CAN_TXEVB h_CAN_TXSTAT h_DKL_TXEV h_DKL_TXSTAT h_TIM_FSTAT h_TIM_INFO h_TIM_TSH h_TIM_TSL c_cans c_dkl c_harts c_readData c_time]) <;> (try simp [State.without, c_latches, c_readData, c_busError])

include h_CAN_TXEVA h_CAN_TXEVB h_CAN_TXSTAT h_DKL_TXEV h_DKL_TXSTAT h_TIM_FSTAT h_TIM_INFO h_TIM_TSH h_TIM_TSL
    c_busError c_cans c_dkl c_harts c_latches c_readData c_time in
theorem hostRead_writes (a : Nat) (s : State) :
    (hostRead a s).without P = s.without P := by
  unfold hostRead
  simp only [State.without_upd_readData_busError c_readData c_busError, State.without_upd_busError c_busError,
      State.without_upd_cans c_cans, State.without_upd_dkl c_dkl, State.without_upd_harts c_harts,
      State.without_upd_latches c_latches, State.without_upd_readData c_readData, State.without_upd_time c_time,
      busFault_writes (P := P) c_busError,
      busRead_writes (P := P) h_CAN_TXEVA h_CAN_TXEVB h_CAN_TXSTAT h_DKL_TXEV h_DKL_TXSTAT h_TIM_FSTAT h_TIM_INFO h_TIM_TSH h_TIM_TSL c_busError c_cans c_dkl c_harts c_latches c_readData c_time, State.without_ite, ite_self]

include h_CAN_TXEVA h_CAN_TXEVB h_CAN_TXSTAT h_DKL_TXEV h_DKL_TXSTAT h_TIM_FSTAT h_TIM_INFO h_TIM_TSH h_TIM_TSL
    c_busError c_cans c_dkl c_harts c_latches c_readData c_time in
theorem initiatorRead_writes (ini : Initiator) (a : Nat) (s : State) :
    (initiatorRead ini a s).without P = s.without P := by
  unfold initiatorRead
  (repeat' split) <;> simp only [State.without_upd_busError c_busError, State.without_upd_cans c_cans,
      State.without_upd_dkl c_dkl, State.without_upd_harts c_harts, State.without_upd_latches c_latches,
      State.without_upd_readData c_readData, State.without_upd_time c_time,
      hostRead_writes (P := P) h_CAN_TXEVA h_CAN_TXEVB h_CAN_TXSTAT h_DKL_TXEV h_DKL_TXSTAT h_TIM_FSTAT h_TIM_INFO h_TIM_TSH h_TIM_TSL c_busError c_cans c_dkl c_harts c_latches c_readData c_time, busRead_writes (P := P) h_CAN_TXEVA h_CAN_TXEVB h_CAN_TXSTAT h_DKL_TXEV h_DKL_TXSTAT h_TIM_FSTAT h_TIM_INFO h_TIM_TSH h_TIM_TSL c_busError c_cans c_dkl c_harts c_latches c_readData c_time, State.without_ite, ite_self]

include c_sys in
theorem releaseHeld_writes (s : State) :
    (releaseHeld s).without P = s.without P := by
  unfold releaseHeld
  simp only [State.without_upd_sys c_sys, State.without_ite, ite_self]

include c_sys in
theorem referenceQualified_writes (s : State) :
    (referenceQualified s).without P = s.without P := by
  unfold referenceQualified
  simp only [State.without_upd_sys c_sys, releaseHeld_writes (P := P) c_sys, State.without_ite, ite_self]

include h_EVT_PEND h_SFY_PSTAT h_SFY_STAT h_SYS_CLKSTAT c_sfy c_sys in
theorem clockWindow_writes (m : Nat) (n : Nat) (s : State) :
    (clockWindow m n s).without P = s.without P := by
  unfold clockWindow
  simp (disch := (intros; simp only [State.w_setB (fl := Fl.SYS_CLKSTAT_CCHK) h_SYS_CLKSTAT (by decide), State.without_raise h_EVT_PEND, State.without_upd_sfy c_sfy, State.without_upd_sys c_sys, sfyCause_writes (P := P) h_EVT_PEND h_SFY_STAT, demandPort_writes (P := P) h_SFY_PSTAT c_sfy, State.without_when_if, State.without_ite, ite_self]; done)) only [State.without_each, State.without_eachOf, State.w_setB (fl := Fl.SYS_CLKSTAT_CCHK) h_SYS_CLKSTAT (by decide), State.without_raise h_EVT_PEND, State.without_upd_sfy c_sfy, State.without_upd_sys c_sys, sfyCause_writes (P := P) h_EVT_PEND h_SFY_STAT, demandPort_writes (P := P) h_SFY_PSTAT c_sfy, State.without_when_if, State.without_ite, ite_self]

include h_EVT_PEND h_SYS_SAVESTAT c_sys in
theorem startSave_writes (src : Nat) (s : State) :
    (startSave src s).without P = s.without P := by
  unfold startSave
  simp only [State.w_setF (fl := Fl.SYS_SAVESTAT_ACTIVE) h_SYS_SAVESTAT (by decide),
      State.w_setF (fl := Fl.SYS_SAVESTAT_SRC) h_SYS_SAVESTAT (by decide),
      State.w_setFM (r := R.SYS_SAVESTAT) h_SYS_SAVESTAT (by decide),
      State.w_setB (fl := Fl.SYS_SAVESTAT_ACTIVE) h_SYS_SAVESTAT (by decide),
      State.w_setB (fl := Fl.SYS_SAVESTAT_SRC) h_SYS_SAVESTAT (by decide),
      State.w_setBM (r := R.SYS_SAVESTAT) h_SYS_SAVESTAT (by decide),
      State.w_setReg (r := R.SYS_SAVESTAT) h_SYS_SAVESTAT (by decide), State.without_raise h_EVT_PEND,
      State.without_upd_sys c_sys, State.without_ite, ite_self]

include h_EVT_PEND h_SYS_SAVESTAT c_sys in
theorem warning_writes (src : Nat) (s : State) :
    (warning src s).without P = s.without P := by
  unfold warning
  simp only [State.w_setF (fl := Fl.SYS_SAVESTAT_SRC) h_SYS_SAVESTAT (by decide), State.without_upd_sys c_sys,
      startSave_writes (P := P) h_EVT_PEND h_SYS_SAVESTAT c_sys, State.without_ite, ite_self]

include h_SYS_SUPSTAT in
theorem vinIs_writes (mv : Nat) (s : State) :
    (vinIs mv s).without P = s.without P := by
  unfold vinIs
  simp only [State.w_setF (fl := Fl.SYS_SUPSTAT_VIN_MV) h_SYS_SUPSTAT (by decide), State.without_ite, ite_self]

include h_EVT_PEND h_SYS_SAVESTAT h_SYS_SUPSTAT c_sys in
theorem vinBelowWarn_writes (mv : Nat) (s : State) :
    (vinBelowWarn mv s).without P = s.without P := by
  unfold vinBelowWarn
  simp only [State.w_setB (fl := Fl.SYS_SUPSTAT_ABOVE_WARN) h_SYS_SUPSTAT (by decide), State.without_upd_sys c_sys,
      warning_writes (P := P) h_EVT_PEND h_SYS_SAVESTAT c_sys, vinIs_writes (P := P) h_SYS_SUPSTAT,
      State.without_ite, ite_self]

include h_EVT_PEND h_SYS_SUPSTAT c_sys in
theorem vinAboveWarn_writes (mv : Nat) (s : State) :
    (vinAboveWarn mv s).without P = s.without P := by
  unfold vinAboveWarn
  simp only [State.w_setB (fl := Fl.SYS_SUPSTAT_ABOVE_WARN) h_SYS_SUPSTAT (by decide),
      State.without_raise h_EVT_PEND, State.without_upd_sys c_sys, vinIs_writes (P := P) h_SYS_SUPSTAT,
      State.without_ite, ite_self]

include h_SYS_SUPSTAT c_sys in
theorem vinHold_writes (above : Bool) (mv : Nat) (s : State) :
    (vinHold above mv s).without P = s.without P := by
  unfold vinHold
  simp only [State.w_setB (fl := Fl.SYS_SUPSTAT_ABOVE_HOLD) h_SYS_SUPSTAT (by decide), State.without_upd_sys c_sys,
      vinIs_writes (P := P) h_SYS_SUPSTAT, State.without_ite, ite_self]

include h_LSW_CHSTAT c_lsw in
theorem lswAllOff_writes (s : State) :
    (lswAllOff s).without P = s.without P := by
  unfold lswAllOff
  simp (disch := (intros; simp only [State.w_setB (fl := Fl.LSW_CHSTAT_BLEED) h_LSW_CHSTAT (by decide), State.w_setB (fl := Fl.LSW_CHSTAT_FORCE) h_LSW_CHSTAT (by decide), State.w_setB (fl := Fl.LSW_CHSTAT_PROG) h_LSW_CHSTAT (by decide), State.without_upd_lsw c_lsw, chUpdate_writes (P := P) h_LSW_CHSTAT c_lsw, chEndHold_writes (P := P) h_LSW_CHSTAT c_lsw, State.without_when_if, State.without_ite, ite_self]; done)) only [State.without_each, State.without_eachOf, State.w_setB (fl := Fl.LSW_CHSTAT_BLEED) h_LSW_CHSTAT (by decide), State.w_setB (fl := Fl.LSW_CHSTAT_FORCE) h_LSW_CHSTAT (by decide), State.w_setB (fl := Fl.LSW_CHSTAT_PROG) h_LSW_CHSTAT (by decide), State.without_upd_lsw c_lsw, chUpdate_writes (P := P) h_LSW_CHSTAT c_lsw, chEndHold_writes (P := P) h_LSW_CHSTAT c_lsw, State.without_when_if, State.without_ite, ite_self]

include h_HST_STAT c_sys in
theorem sampleLands_writes (bootsel : Nat) (hsel : Nat) (s : State) :
    (sampleLands bootsel hsel s).without P = s.without P := by
  unfold sampleLands
  simp only [State.without_upd_sys c_sys, showPort_writes (P := P) h_HST_STAT, State.without_ite, ite_self]

include h_EVT_PEND h_SYS_SAVESTAT h_SYS_SUPSTAT c_sys in
theorem pfwAsserted_writes (s : State) :
    (pfwAsserted s).without P = s.without P := by
  unfold pfwAsserted
  simp only [State.w_setB (fl := Fl.SYS_SUPSTAT_PFW) h_SYS_SUPSTAT (by decide), State.without_upd_sys c_sys,
      warning_writes (P := P) h_EVT_PEND h_SYS_SAVESTAT c_sys, State.without_ite, ite_self]

include c_lpe in
theorem engineStop_writes (s : State) :
    (engineStop s).without P = s.without P := by
  unfold engineStop
  simp only [State.without_upd_lpe c_lpe, State.without_ite, ite_self]

include c_rng in
theorem State.setRp_writes (s : State) (k : Nat) (f : RingPort → RingPort) :
    (State.setRp s k f).without P = s.without P := by
  unfold State.setRp
  simp only [State.without_upd_rng c_rng, State.without_ite, ite_self]

include h_RNG_LINK c_rng in
theorem ringSilent_writes (s : State) :
    (ringSilent s).without P = s.without P := by
  unfold ringSilent
  simp (disch := (intros; simp only [State.w_setF (fl := Fl.RNG_LINK_STATE) h_RNG_LINK (by decide), State.without_upd_rng c_rng, State.setRp_writes (P := P) c_rng, State.without_ite, ite_self]; done)) only [State.without_each, State.without_eachOf, State.w_setF (fl := Fl.RNG_LINK_STATE) h_RNG_LINK (by decide), State.without_upd_rng c_rng, State.setRp_writes (P := P) c_rng, State.without_ite, ite_self]

include h_DKL_CTL h_DKL_STAT h_DKL_TXEV h_DKL_TXSTAT h_EVT_PEND c_dkl in
theorem dklHalt_writes (s : State) :
    (dklHalt s).without P = s.without P := by
  unfold dklHalt
  simp only [State.w_setF (fl := Fl.DKL_STAT_STATE) h_DKL_STAT (by decide),
      State.w_setF (fl := Fl.DKL_CTL_EN) h_DKL_CTL (by decide),
      State.w_setB (fl := Fl.DKL_STAT_STATE) h_DKL_STAT (by decide),
      State.w_setB (fl := Fl.DKL_CTL_EN) h_DKL_CTL (by decide), State.without_upd_dkl c_dkl,
      dklOff_writes (P := P) h_DKL_STAT h_DKL_TXEV h_DKL_TXSTAT h_EVT_PEND c_dkl, State.without_ite, ite_self]

include h_CAN_STAT h_CAN_TXEVA h_CAN_TXEVB h_CAN_TXSTAT h_EVT_PEND c_cans c_drawn in
theorem canStop_writes (n : Nat) (s : State) :
    (canStop n s).without P = s.without P := by
  unfold canStop
  simp (disch := (intros; simp only [State.w_setF (fl := Fl.CAN_STAT_STATE) h_CAN_STAT (by decide), State.without_upd_cans c_cans, State.without_upd_drawn c_drawn, canPop_writes (P := P) h_CAN_STAT h_CAN_TXEVA h_CAN_TXEVB h_CAN_TXSTAT h_EVT_PEND c_cans c_drawn, State.setCan_writes (P := P) h_CAN_TXEVA h_CAN_TXEVB h_CAN_TXSTAT c_cans, canStart_writes (P := P) h_CAN_STAT h_CAN_TXEVA h_CAN_TXEVB h_CAN_TXSTAT c_cans, State.without_ite, ite_self]; done)) only [State.without_each, State.without_eachOf, State.w_setF (fl := Fl.CAN_STAT_STATE) h_CAN_STAT (by decide), State.without_upd_cans c_cans, State.without_upd_drawn c_drawn, canPop_writes (P := P) h_CAN_STAT h_CAN_TXEVA h_CAN_TXEVB h_CAN_TXSTAT h_EVT_PEND c_cans c_drawn, State.setCan_writes (P := P) h_CAN_TXEVA h_CAN_TXEVB h_CAN_TXSTAT c_cans, canStart_writes (P := P) h_CAN_STAT h_CAN_TXEVA h_CAN_TXEVB h_CAN_TXSTAT c_cans, State.without_ite, ite_self]

include h_CAN_CTL h_CAN_STAT h_CAN_TXEVA h_CAN_TXEVB h_CAN_TXSTAT h_EVT_PEND c_cans c_drawn in
theorem canHalt_writes (s : State) :
    (canHalt s).without P = s.without P := by
  unfold canHalt
  simp (disch := (intros; simp only [State.w_setF (fl := Fl.CAN_STAT_STATE) h_CAN_STAT (by decide), State.w_setF (fl := Fl.CAN_CTL_EN) h_CAN_CTL (by decide), State.w_setB (fl := Fl.CAN_STAT_STATE) h_CAN_STAT (by decide), State.w_setB (fl := Fl.CAN_CTL_EN) h_CAN_CTL (by decide), State.without_upd_cans c_cans, State.without_upd_drawn c_drawn, canStop_writes (P := P) h_CAN_STAT h_CAN_TXEVA h_CAN_TXEVB h_CAN_TXSTAT h_EVT_PEND c_cans c_drawn, State.without_ite, ite_self]; done)) only [State.without_each, State.without_eachOf, State.w_setF (fl := Fl.CAN_STAT_STATE) h_CAN_STAT (by decide), State.w_setF (fl := Fl.CAN_CTL_EN) h_CAN_CTL (by decide), State.w_setB (fl := Fl.CAN_STAT_STATE) h_CAN_STAT (by decide), State.w_setB (fl := Fl.CAN_CTL_EN) h_CAN_CTL (by decide), State.without_upd_cans c_cans, State.without_upd_drawn c_drawn, canStop_writes (P := P) h_CAN_STAT h_CAN_TXEVA h_CAN_TXEVB h_CAN_TXSTAT h_EVT_PEND c_cans c_drawn, State.without_ite, ite_self]

include c_harts c_mem in
theorem State.dmaWord_writes (s : State) (a : Nat) (v : Word) :
    (State.dmaWord s a v).without P = s.without P := by
  unfold State.dmaWord
  simp only [State.without_upd_harts c_harts, State.without_upd_mem c_mem, State.dma_writes (P := P) c_harts c_mem,
      State.without_ite, ite_self]

include h_ETH_TXHEAD c_harts c_mem in
theorem txComplete_writes (m : Nat) (r : Nat) (late : Bool) (err : Bool) (s : State) :
    (txComplete m r late err s).without P = s.without P := by
  unfold txComplete
  simp only [State.w_setF (fl := Fl.ETH_TXHEAD_HEAD) h_ETH_TXHEAD (by decide), State.without_upd_harts c_harts,
      State.without_upd_mem c_mem, State.dmaWord_writes (P := P) c_harts c_mem, State.without_ite, ite_self]

include h_ETH_STAT h_ETH_TXHEAD h_EVT_PEND c_eth c_harts c_mem in
theorem ethStop_writes (m : Nat) (s : State) :
    (ethStop m s).without P = s.without P := by
  unfold ethStop
  (try simp (disch := (intros; ((try simp (disch := (intros; ((try simp only [State.w_setF (fl := Fl.ETH_STAT_STATE) h_ETH_STAT (by decide), State.without_upd_eth c_eth, State.without_upd_harts c_harts, State.without_upd_mem c_mem, txComplete_writes (P := P) h_ETH_TXHEAD c_harts c_mem, State.setMac_writes (P := P) c_eth, txNext_writes (P := P) h_ETH_STAT h_EVT_PEND c_eth, State.without_when_if, State.without_ite, ite_self]) <;> (repeat' split) <;> (try simp only [State.w_setF (fl := Fl.ETH_STAT_STATE) h_ETH_STAT (by decide), State.without_upd_eth c_eth, State.without_upd_harts c_harts, State.without_upd_mem c_mem, txComplete_writes (P := P) h_ETH_TXHEAD c_harts c_mem, State.setMac_writes (P := P) c_eth, txNext_writes (P := P) h_ETH_STAT h_EVT_PEND c_eth, State.without_when_if, State.without_ite, ite_self])); done)) only [State.without_each, State.without_eachOf, State.w_setF (fl := Fl.ETH_STAT_STATE) h_ETH_STAT (by decide), State.without_upd_eth c_eth, State.without_upd_harts c_harts, State.without_upd_mem c_mem, txComplete_writes (P := P) h_ETH_TXHEAD c_harts c_mem, State.setMac_writes (P := P) c_eth, txNext_writes (P := P) h_ETH_STAT h_EVT_PEND c_eth, State.without_when_if, State.without_ite, ite_self]) <;> (repeat' split) <;> (try simp (disch := (intros; ((try simp only [State.w_setF (fl := Fl.ETH_STAT_STATE) h_ETH_STAT (by decide), State.without_upd_eth c_eth, State.without_upd_harts c_harts, State.without_upd_mem c_mem, txComplete_writes (P := P) h_ETH_TXHEAD c_harts c_mem, State.setMac_writes (P := P) c_eth, txNext_writes (P := P) h_ETH_STAT h_EVT_PEND c_eth, State.without_when_if, State.without_ite, ite_self]) <;> (repeat' split) <;> (try simp only [State.w_setF (fl := Fl.ETH_STAT_STATE) h_ETH_STAT (by decide), State.without_upd_eth c_eth, State.without_upd_harts c_harts, State.without_upd_mem c_mem, txComplete_writes (P := P) h_ETH_TXHEAD c_harts c_mem, State.setMac_writes (P := P) c_eth, txNext_writes (P := P) h_ETH_STAT h_EVT_PEND c_eth, State.without_when_if, State.without_ite, ite_self])); done)) only [State.without_each, State.without_eachOf, State.w_setF (fl := Fl.ETH_STAT_STATE) h_ETH_STAT (by decide), State.without_upd_eth c_eth, State.without_upd_harts c_harts, State.without_upd_mem c_mem, txComplete_writes (P := P) h_ETH_TXHEAD c_harts c_mem, State.setMac_writes (P := P) c_eth, txNext_writes (P := P) h_ETH_STAT h_EVT_PEND c_eth, State.without_when_if, State.without_ite, ite_self])); done)) only [State.without_each, State.without_eachOf, State.w_setF (fl := Fl.ETH_STAT_STATE) h_ETH_STAT (by decide), State.without_upd_eth c_eth, State.without_upd_harts c_harts, State.without_upd_mem c_mem, txComplete_writes (P := P) h_ETH_TXHEAD c_harts c_mem, State.setMac_writes (P := P) c_eth, txNext_writes (P := P) h_ETH_STAT h_EVT_PEND c_eth, State.without_when_if, State.without_ite, ite_self]) <;> (repeat' split) <;>
    (try simp (disch := (intros; ((try simp (disch := (intros; ((try simp only [State.w_setF (fl := Fl.ETH_STAT_STATE) h_ETH_STAT (by decide), State.without_upd_eth c_eth, State.without_upd_harts c_harts, State.without_upd_mem c_mem, txComplete_writes (P := P) h_ETH_TXHEAD c_harts c_mem, State.setMac_writes (P := P) c_eth, txNext_writes (P := P) h_ETH_STAT h_EVT_PEND c_eth, State.without_when_if, State.without_ite, ite_self]) <;> (repeat' split) <;> (try simp only [State.w_setF (fl := Fl.ETH_STAT_STATE) h_ETH_STAT (by decide), State.without_upd_eth c_eth, State.without_upd_harts c_harts, State.without_upd_mem c_mem, txComplete_writes (P := P) h_ETH_TXHEAD c_harts c_mem, State.setMac_writes (P := P) c_eth, txNext_writes (P := P) h_ETH_STAT h_EVT_PEND c_eth, State.without_when_if, State.without_ite, ite_self])); done)) only [State.without_each, State.without_eachOf, State.w_setF (fl := Fl.ETH_STAT_STATE) h_ETH_STAT (by decide), State.without_upd_eth c_eth, State.without_upd_harts c_harts, State.without_upd_mem c_mem, txComplete_writes (P := P) h_ETH_TXHEAD c_harts c_mem, State.setMac_writes (P := P) c_eth, txNext_writes (P := P) h_ETH_STAT h_EVT_PEND c_eth, State.without_when_if, State.without_ite, ite_self]) <;> (repeat' split) <;> (try simp (disch := (intros; ((try simp only [State.w_setF (fl := Fl.ETH_STAT_STATE) h_ETH_STAT (by decide), State.without_upd_eth c_eth, State.without_upd_harts c_harts, State.without_upd_mem c_mem, txComplete_writes (P := P) h_ETH_TXHEAD c_harts c_mem, State.setMac_writes (P := P) c_eth, txNext_writes (P := P) h_ETH_STAT h_EVT_PEND c_eth, State.without_when_if, State.without_ite, ite_self]) <;> (repeat' split) <;> (try simp only [State.w_setF (fl := Fl.ETH_STAT_STATE) h_ETH_STAT (by decide), State.without_upd_eth c_eth, State.without_upd_harts c_harts, State.without_upd_mem c_mem, txComplete_writes (P := P) h_ETH_TXHEAD c_harts c_mem, State.setMac_writes (P := P) c_eth, txNext_writes (P := P) h_ETH_STAT h_EVT_PEND c_eth, State.without_when_if, State.without_ite, ite_self])); done)) only [State.without_each, State.without_eachOf, State.w_setF (fl := Fl.ETH_STAT_STATE) h_ETH_STAT (by decide), State.without_upd_eth c_eth, State.without_upd_harts c_harts, State.without_upd_mem c_mem, txComplete_writes (P := P) h_ETH_TXHEAD c_harts c_mem, State.setMac_writes (P := P) c_eth, txNext_writes (P := P) h_ETH_STAT h_EVT_PEND c_eth, State.without_when_if, State.without_ite, ite_self])); done)) only [State.without_each, State.without_eachOf, State.w_setF (fl := Fl.ETH_STAT_STATE) h_ETH_STAT (by decide), State.without_upd_eth c_eth, State.without_upd_harts c_harts, State.without_upd_mem c_mem, txComplete_writes (P := P) h_ETH_TXHEAD c_harts c_mem, State.setMac_writes (P := P) c_eth, txNext_writes (P := P) h_ETH_STAT h_EVT_PEND c_eth, State.without_when_if, State.without_ite, ite_self])

include h_ETH_CTL h_ETH_STAT h_ETH_TXHEAD h_EVT_PEND c_eth c_harts c_mem in
theorem ethHalt_writes (s : State) :
    (ethHalt s).without P = s.without P := by
  unfold ethHalt
  simp (disch := (intros; simp only [State.w_setF (fl := Fl.ETH_STAT_STATE) h_ETH_STAT (by decide), State.w_setF (fl := Fl.ETH_CTL_EN) h_ETH_CTL (by decide), State.w_setB (fl := Fl.ETH_STAT_STATE) h_ETH_STAT (by decide), State.w_setB (fl := Fl.ETH_CTL_EN) h_ETH_CTL (by decide), State.without_upd_eth c_eth, State.without_upd_harts c_harts, State.without_upd_mem c_mem, ethStop_writes (P := P) h_ETH_STAT h_ETH_TXHEAD h_EVT_PEND c_eth c_harts c_mem, State.without_ite, ite_self]; done)) only [State.without_each, State.without_eachOf, State.w_setF (fl := Fl.ETH_STAT_STATE) h_ETH_STAT (by decide), State.w_setF (fl := Fl.ETH_CTL_EN) h_ETH_CTL (by decide), State.w_setB (fl := Fl.ETH_STAT_STATE) h_ETH_STAT (by decide), State.w_setB (fl := Fl.ETH_CTL_EN) h_ETH_CTL (by decide), State.without_upd_eth c_eth, State.without_upd_harts c_harts, State.without_upd_mem c_mem, ethStop_writes (P := P) h_ETH_STAT h_ETH_TXHEAD h_EVT_PEND c_eth c_harts c_mem, State.without_ite, ite_self]

include c_veh in
theorem vehicleLinksOff_writes (s : State) :
    (vehicleLinksOff s).without P = s.without P := by
  unfold vehicleLinksOff
  simp only [State.without_upd_veh c_veh, State.without_ite, ite_self]

include h_CAN_CTL h_CAN_STAT h_CAN_TXEVA h_CAN_TXEVB h_CAN_TXSTAT h_CLN_CELLST h_CLN_LANESTAT h_CLN_STAT h_DKL_CTL
    h_DKL_STAT h_DKL_TXEV h_DKL_TXSTAT h_ETH_CTL h_ETH_STAT h_ETH_TXHEAD h_EVT_PEND h_RNG_LINK c_cans c_cln c_dkl c_drawn c_eth c_harts c_mem c_rng c_veh in
theorem portsStop_writes (s : State) :
    (portsStop s).without P = s.without P := by
  unfold portsStop
  simp (disch := (intros; simp only [State.without_upd_cans c_cans, State.without_upd_cln c_cln, State.without_upd_dkl c_dkl, State.without_upd_drawn c_drawn, State.without_upd_eth c_eth, State.without_upd_harts c_harts, State.without_upd_mem c_mem, State.without_upd_rng c_rng, State.without_upd_veh c_veh, dklHalt_writes (P := P) h_DKL_CTL h_DKL_STAT h_DKL_TXEV h_DKL_TXSTAT h_EVT_PEND c_dkl, canHalt_writes (P := P) h_CAN_CTL h_CAN_STAT h_CAN_TXEVA h_CAN_TXEVB h_CAN_TXSTAT h_EVT_PEND c_cans c_drawn, ethHalt_writes (P := P) h_ETH_CTL h_ETH_STAT h_ETH_TXHEAD h_EVT_PEND c_eth c_harts c_mem, vehicleLinksOff_writes (P := P) c_veh, ringSilent_writes (P := P) h_RNG_LINK c_rng, laneQuiet_writes (P := P) h_CLN_CELLST h_CLN_LANESTAT h_CLN_STAT c_cln, State.without_ite, ite_self]; done)) only [State.without_each, State.without_eachOf, State.without_upd_cans c_cans, State.without_upd_cln c_cln, State.without_upd_dkl c_dkl, State.without_upd_drawn c_drawn, State.without_upd_eth c_eth, State.without_upd_harts c_harts, State.without_upd_mem c_mem, State.without_upd_rng c_rng, State.without_upd_veh c_veh, dklHalt_writes (P := P) h_DKL_CTL h_DKL_STAT h_DKL_TXEV h_DKL_TXSTAT h_EVT_PEND c_dkl, canHalt_writes (P := P) h_CAN_CTL h_CAN_STAT h_CAN_TXEVA h_CAN_TXEVB h_CAN_TXSTAT h_EVT_PEND c_cans c_drawn, ethHalt_writes (P := P) h_ETH_CTL h_ETH_STAT h_ETH_TXHEAD h_EVT_PEND c_eth c_harts c_mem, vehicleLinksOff_writes (P := P) c_veh, ringSilent_writes (P := P) h_RNG_LINK c_rng, laneQuiet_writes (P := P) h_CLN_CELLST h_CLN_LANESTAT h_CLN_STAT c_cln, State.without_ite, ite_self]

include c_mtr in
theorem State.setMt_writes (s : State) (m : Nat) (f : Meter → Meter) :
    (State.setMt s m f).without P = s.without P := by
  unfold State.setMt
  simp only [State.without_upd_mtr c_mtr, State.without_ite, ite_self]

include h_MTR_EDELH h_MTR_EDELL h_MTR_ERECH h_MTR_ERECL h_MTR_XDEL h_MTR_XREC c_mtr in
theorem showTotals_writes (m : Nat) (del : Nat) (rec : Nat) (s : State) :
    (showTotals m del rec s).without P = s.without P := by
  unfold showTotals
  simp only [State.w_setF (fl := Fl.MTR_XREC_XREC) h_MTR_XREC (by decide),
      State.w_setF (fl := Fl.MTR_XDEL_XDEL) h_MTR_XDEL (by decide),
      State.w_setFM (r := R.MTR_ERECL) h_MTR_ERECL (by decide),
      State.w_setFM (r := R.MTR_ERECH) h_MTR_ERECH (by decide),
      State.w_setFM (r := R.MTR_EDELL) h_MTR_EDELL (by decide),
      State.w_setFM (r := R.MTR_EDELH) h_MTR_EDELH (by decide),
      State.w_setQ (lo := R.MTR_ERECL) (hi := R.MTR_ERECH) h_MTR_ERECL h_MTR_ERECH (by decide) (by decide),
      State.w_setQ (lo := R.MTR_EDELL) (hi := R.MTR_EDELH) h_MTR_EDELL h_MTR_EDELH (by decide) (by decide),
      State.without_upd_mtr c_mtr, State.setMt_writes (P := P) c_mtr, State.without_ite, ite_self]

include h_MTR_MSTAT in
theorem showBacklog_writes (m : Nat) (s : State) :
    (showBacklog m s).without P = s.without P := by
  unfold showBacklog
  simp only [State.w_setF (fl := Fl.MTR_MSTAT_PBACK) h_MTR_MSTAT (by decide), State.without_ite, ite_self]

include h_MTR_EDELH h_MTR_EDELL h_MTR_ERECH h_MTR_ERECL h_MTR_MP1 h_MTR_MSTAT h_MTR_RAWDELH h_MTR_RAWDELL
    h_MTR_RAWRECH h_MTR_RAWRECL h_MTR_XDEL h_MTR_XREC c_mtr in
theorem foldMeter_writes (b : Nat) (m : Nat) (s : State) :
    (foldMeter b m s).without P = s.without P := by
  unfold foldMeter
  simp only [State.w_setFi (fl := Fl.MTR_MP1_P1) h_MTR_MP1 (by decide),
      State.w_setFiM (r := R.MTR_RAWRECL) h_MTR_RAWRECL (by decide),
      State.w_setFiM (r := R.MTR_RAWRECH) h_MTR_RAWRECH (by decide),
      State.w_setFiM (r := R.MTR_RAWDELL) h_MTR_RAWDELL (by decide),
      State.w_setFiM (r := R.MTR_RAWDELH) h_MTR_RAWDELH (by decide),
      State.w_setQ (lo := R.MTR_RAWRECL) (hi := R.MTR_RAWRECH) h_MTR_RAWRECL h_MTR_RAWRECH (by decide) (by decide),
      State.w_setQ (lo := R.MTR_RAWDELL) (hi := R.MTR_RAWDELH) h_MTR_RAWDELL h_MTR_RAWDELH (by decide) (by decide),
      State.without_upd_mtr c_mtr,
      showTotals_writes (P := P) h_MTR_EDELH h_MTR_EDELL h_MTR_ERECH h_MTR_ERECL h_MTR_XDEL h_MTR_XREC c_mtr,
      showBacklog_writes (P := P) h_MTR_MSTAT, State.setMt_writes (P := P) c_mtr, State.without_ite, ite_self]

include h_MTR_FOLD c_mtr in
theorem commitFold_writes (b : Nat) (s : State) :
    (commitFold b s).without P = s.without P := by
  unfold commitFold
  simp only [State.w_setF (fl := Fl.MTR_FOLD_SEQ) h_MTR_FOLD (by decide),
      State.w_setF (fl := Fl.MTR_FOLD_SKIP) h_MTR_FOLD (by decide),
      State.w_satF (fl := Fl.MTR_FOLD_SEQ) h_MTR_FOLD (by decide),
      State.w_satF (fl := Fl.MTR_FOLD_SKIP) h_MTR_FOLD (by decide), State.without_upd_mtr c_mtr, State.without_ite,
      ite_self]

include h_BIL_STAT h_BIL_TCOUNT h_BIL_TFIRSTH h_BIL_TFIRSTL h_BIL_TLASTH h_BIL_TLASTL h_EVT_PEND h_MTR_STAT c_bil
    c_mtr in
theorem gridInterval_writes (s : State) :
    (gridInterval s).without P = s.without P := by
  unfold gridInterval
  simp only [State.without_upd_bil c_bil, State.without_upd_mtr c_mtr,
      tamper_writes (P := P) h_BIL_STAT h_BIL_TCOUNT h_BIL_TFIRSTH h_BIL_TFIRSTL h_BIL_TLASTH h_BIL_TLASTL h_EVT_PEND, mtrCause_writes (P := P) h_EVT_PEND h_MTR_STAT, meterFlag_writes (P := P) c_bil, State.setGin_writes (P := P) c_mtr, State.without_when_if, State.without_ite, ite_self]

include h_BIL_SPAN0 h_BIL_SPAN1 in
theorem addSpan_writes (x : Prod Nat Nat) (s : State) :
    (addSpan x s).without P = s.without P := by
  unfold addSpan
  (repeat' split) <;> simp only [State.w_setF (fl := Fl.BIL_SPAN1_LTO) h_BIL_SPAN1 (by decide),
      State.w_setF (fl := Fl.BIL_SPAN0_LFROM) h_BIL_SPAN0 (by decide), State.without_ite, ite_self]

include h_BIL_SPAN0 h_BIL_SPAN1 in
theorem expireSpans_writes (now : Nat) (s : State) :
    (expireSpans now s).without P = s.without P := by
  unfold expireSpans
  simp (disch := (intros; simp only [State.w_setF (fl := Fl.BIL_SPAN1_LTO) h_BIL_SPAN1 (by decide), State.w_setF (fl := Fl.BIL_SPAN0_LFROM) h_BIL_SPAN0 (by decide), State.without_ite, ite_self]; done)) only [State.without_each, State.without_eachOf, State.w_setF (fl := Fl.BIL_SPAN1_LTO) h_BIL_SPAN1 (by decide), State.w_setF (fl := Fl.BIL_SPAN0_LFROM) h_BIL_SPAN0 (by decide), State.without_ite, ite_self]

include h_BIL_DLAST h_BIL_DMAX0 h_BIL_DMAX1 h_BIL_DPREV0 h_BIL_DPREV1 h_BIL_ISEQ h_BIL_STAT c_bil in
theorem boundaryStep1_writes (x : BilSlot) (due : Bool) (s : State) :
    (boundaryStep1 x due s).without P = s.without P := by
  unfold boundaryStep1
  simp (disch := (intros; simp only [State.w_setF (fl := Fl.BIL_ISEQ_ISEQ) h_BIL_ISEQ (by decide), State.w_setF (fl := Fl.BIL_DLAST_D) h_BIL_DLAST (by decide), State.w_setF (fl := Fl.BIL_DMAX1_LABEL) h_BIL_DMAX1 (by decide), State.w_setF (fl := Fl.BIL_DMAX0_D) h_BIL_DMAX0 (by decide), State.w_setFM (r := R.BIL_DMAX1) h_BIL_DMAX1 (by decide), State.w_setFM (r := R.BIL_DMAX0) h_BIL_DMAX0 (by decide), State.w_setFM (r := R.BIL_DPREV1) h_BIL_DPREV1 (by decide), State.w_setFM (r := R.BIL_DPREV0) h_BIL_DPREV0 (by decide), State.w_setF (fl := Fl.BIL_STAT_DLENPEND) h_BIL_STAT (by decide), State.w_setB (fl := Fl.BIL_ISEQ_ISEQ) h_BIL_ISEQ (by decide), State.w_setB (fl := Fl.BIL_DLAST_D) h_BIL_DLAST (by decide), State.w_setB (fl := Fl.BIL_DMAX1_LABEL) h_BIL_DMAX1 (by decide), State.w_setB (fl := Fl.BIL_DMAX0_D) h_BIL_DMAX0 (by decide), State.w_setBM (r := R.BIL_DMAX1) h_BIL_DMAX1 (by decide), State.w_setBM (r := R.BIL_DMAX0) h_BIL_DMAX0 (by decide), State.w_setBM (r := R.BIL_DPREV1) h_BIL_DPREV1 (by decide), State.w_setBM (r := R.BIL_DPREV0) h_BIL_DPREV0 (by decide), State.w_setB (fl := Fl.BIL_STAT_DLENPEND) h_BIL_STAT (by decide), State.w_addF (fl := Fl.BIL_ISEQ_ISEQ) h_BIL_ISEQ (by decide), State.w_addF (fl := Fl.BIL_DLAST_D) h_BIL_DLAST (by decide), State.w_addF (fl := Fl.BIL_DMAX1_LABEL) h_BIL_DMAX1 (by decide), State.w_addF (fl := Fl.BIL_DMAX0_D) h_BIL_DMAX0 (by decide), State.w_addFM (r := R.BIL_DMAX1) h_BIL_DMAX1 (by decide), State.w_addFM (r := R.BIL_DMAX0) h_BIL_DMAX0 (by decide), State.w_addFM (r := R.BIL_DPREV1) h_BIL_DPREV1 (by decide), State.w_addFM (r := R.BIL_DPREV0) h_BIL_DPREV0 (by decide), State.w_addF (fl := Fl.BIL_STAT_DLENPEND) h_BIL_STAT (by decide), State.w_setReg (r := R.BIL_DMAX1) h_BIL_DMAX1 (by decide), State.w_setReg (r := R.BIL_DMAX0) h_BIL_DMAX0 (by decide), State.w_setReg (r := R.BIL_DPREV1) h_BIL_DPREV1 (by decide), State.w_setReg (r := R.BIL_DPREV0) h_BIL_DPREV0 (by decide), State.without_upd_bil c_bil, State.work_writes (P := P) c_bil, State.without_ite, ite_self]; done)) only [State.without_each, State.without_eachOf, State.w_setF (fl := Fl.BIL_ISEQ_ISEQ) h_BIL_ISEQ (by decide), State.w_setF (fl := Fl.BIL_DLAST_D) h_BIL_DLAST (by decide), State.w_setF (fl := Fl.BIL_DMAX1_LABEL) h_BIL_DMAX1 (by decide), State.w_setF (fl := Fl.BIL_DMAX0_D) h_BIL_DMAX0 (by decide), State.w_setFM (r := R.BIL_DMAX1) h_BIL_DMAX1 (by decide), State.w_setFM (r := R.BIL_DMAX0) h_BIL_DMAX0 (by decide), State.w_setFM (r := R.BIL_DPREV1) h_BIL_DPREV1 (by decide), State.w_setFM (r := R.BIL_DPREV0) h_BIL_DPREV0 (by decide), State.w_setF (fl := Fl.BIL_STAT_DLENPEND) h_BIL_STAT (by decide), State.w_setB (fl := Fl.BIL_ISEQ_ISEQ) h_BIL_ISEQ (by decide), State.w_setB (fl := Fl.BIL_DLAST_D) h_BIL_DLAST (by decide), State.w_setB (fl := Fl.BIL_DMAX1_LABEL) h_BIL_DMAX1 (by decide), State.w_setB (fl := Fl.BIL_DMAX0_D) h_BIL_DMAX0 (by decide), State.w_setBM (r := R.BIL_DMAX1) h_BIL_DMAX1 (by decide), State.w_setBM (r := R.BIL_DMAX0) h_BIL_DMAX0 (by decide), State.w_setBM (r := R.BIL_DPREV1) h_BIL_DPREV1 (by decide), State.w_setBM (r := R.BIL_DPREV0) h_BIL_DPREV0 (by decide), State.w_setB (fl := Fl.BIL_STAT_DLENPEND) h_BIL_STAT (by decide), State.w_addF (fl := Fl.BIL_ISEQ_ISEQ) h_BIL_ISEQ (by decide), State.w_addF (fl := Fl.BIL_DLAST_D) h_BIL_DLAST (by decide), State.w_addF (fl := Fl.BIL_DMAX1_LABEL) h_BIL_DMAX1 (by decide), State.w_addF (fl := Fl.BIL_DMAX0_D) h_BIL_DMAX0 (by decide), State.w_addFM (r := R.BIL_DMAX1) h_BIL_DMAX1 (by decide), State.w_addFM (r := R.BIL_DMAX0) h_BIL_DMAX0 (by decide), State.w_addFM (r := R.BIL_DPREV1) h_BIL_DPREV1 (by decide), State.w_addFM (r := R.BIL_DPREV0) h_BIL_DPREV0 (by decide), State.w_addF (fl := Fl.BIL_STAT_DLENPEND) h_BIL_STAT (by decide), State.w_setReg (r := R.BIL_DMAX1) h_BIL_DMAX1 (by decide), State.w_setReg (r := R.BIL_DMAX0) h_BIL_DMAX0 (by decide), State.w_setReg (r := R.BIL_DPREV1) h_BIL_DPREV1 (by decide), State.w_setReg (r := R.BIL_DPREV0) h_BIL_DPREV0 (by decide), State.without_upd_bil c_bil, State.work_writes (P := P) c_bil, State.without_ite, ite_self]

include h_BIL_ARCH h_BIL_STAT h_BIL_TCOUNT h_BIL_TFIRSTH h_BIL_TFIRSTL h_BIL_TLASTH h_BIL_TLASTL h_EVT_PEND c_bil in
theorem stageGroup_writes (close : Nat) (recs : List (Prod Nat (List Byte))) (s : State) :
    (stageGroup close recs s).without P = s.without P := by
  unfold stageGroup
  simp only [State.w_setF (fl := Fl.BIL_ARCH_LOST) h_BIL_ARCH (by decide),
      State.w_setF (fl := Fl.BIL_ARCH_BACKLOG) h_BIL_ARCH (by decide),
      State.w_satF (fl := Fl.BIL_ARCH_LOST) h_BIL_ARCH (by decide),
      State.w_satF (fl := Fl.BIL_ARCH_BACKLOG) h_BIL_ARCH (by decide), State.without_upd_bil c_bil,
      tamper_writes (P := P) h_BIL_STAT h_BIL_TCOUNT h_BIL_TFIRSTH h_BIL_TFIRSTL h_BIL_TLASTH h_BIL_TLASTL h_EVT_PEND, bilCause_writes (P := P) h_BIL_STAT h_EVT_PEND, State.without_ite, ite_self]

include c_sig in
theorem queueSign_writes (r : SignReq) (s : State) :
    (queueSign r s).without P = s.without P := by
  unfold queueSign
  simp only [State.without_upd_sig c_sig, State.without_ite, ite_self]

include c_sig in
theorem rootRequest_writes (iseq : Nat) (label : Nat) (b : Nat) (s : State) :
    (rootRequest iseq label b s).without P = s.without P := by
  unfold rootRequest
  simp only [State.without_upd_sig c_sig, queueSign_writes (P := P) c_sig, State.without_ite, ite_self]

include h_SIG_KSTAT h_SIG_LIMITH h_SIG_LIMITL c_sig in
theorem writeReservation_writes (k : Nat) (r : Reservation) (s : State) :
    (writeReservation k r s).without P = s.without P := by
  unfold writeReservation
  simp only [State.w_setB (fl := Fl.SIG_KSTAT_CLOSED) h_SIG_KSTAT (by decide),
      State.w_setBM (r := R.SIG_LIMITL) h_SIG_LIMITL (by decide),
      State.w_setBM (r := R.SIG_LIMITH) h_SIG_LIMITH (by decide),
      State.w_setQ (lo := R.SIG_LIMITL) (hi := R.SIG_LIMITH) h_SIG_LIMITL h_SIG_LIMITH (by decide) (by decide),
      State.without_upd_sig c_sig, State.without_ite, ite_self]

include h_EVT_PEND h_SIG_STAT in
theorem sigCause_writes (j : Nat) (s : State) :
    (sigCause j s).without P = s.without P := by
  unfold sigCause
  simp only [State.w_causeOn (fl := Fl.SIG_STAT_CAUSE) h_EVT_PEND h_SIG_STAT (by decide), State.without_ite, ite_self]

include h_SIG_KSTAT h_SIG_STAT in
theorem setKeyState_writes (k : Nat) (st : Nat) (s : State) :
    (setKeyState k st s).without P = s.without P := by
  unfold setKeyState
  split <;> simp only [State.w_setB (fl := Fl.SIG_STAT_KRDY0) h_SIG_STAT (by decide),
      State.w_setB (fl := Fl.SIG_STAT_KRDY1) h_SIG_STAT (by decide),
      State.w_setF (fl := Fl.SIG_KSTAT_STATE) h_SIG_KSTAT (by decide),
      State.w_setB (fl := Fl.SIG_KSTAT_STATE) h_SIG_KSTAT (by decide), State.without_ite, ite_self]

include h_BIL_STAT h_BIL_TCOUNT h_BIL_TFIRSTH h_BIL_TFIRSTL h_BIL_TLASTH h_BIL_TLASTL h_EVT_PEND h_SIG_KSTAT
    h_SIG_LIMITH h_SIG_LIMITL h_SIG_NEXTH h_SIG_NEXTL h_SIG_PUB h_SIG_STAT c_sig in
theorem keyTakeover_writes (k : Nat) (s : State) :
    (keyTakeover k s).without P = s.without P := by
  unfold keyTakeover
  (repeat' split) <;> simp (disch := (intros; simp only [State.w_setFM (r := R.SIG_NEXTL) h_SIG_NEXTL (by decide), State.w_setFM (r := R.SIG_NEXTH) h_SIG_NEXTH (by decide), State.w_setF (fl := Fl.SIG_KSTAT_GEN) h_SIG_KSTAT (by decide), State.w_setFM (r := R.SIG_PUB) h_SIG_PUB (by decide), State.w_setReg (r := R.SIG_NEXTL) h_SIG_NEXTL (by decide), State.w_setReg (r := R.SIG_NEXTH) h_SIG_NEXTH (by decide), State.w_setReg (r := R.SIG_PUB) h_SIG_PUB (by decide), State.w_setQ (lo := R.SIG_NEXTL) (hi := R.SIG_NEXTH) h_SIG_NEXTL h_SIG_NEXTH (by decide) (by decide), State.without_upd_sig c_sig, queueSign_writes (P := P) c_sig, writeReservation_writes (P := P) h_SIG_KSTAT h_SIG_LIMITH h_SIG_LIMITL c_sig, sigCause_writes (P := P) h_EVT_PEND h_SIG_STAT, setKeyState_writes (P := P) h_SIG_KSTAT h_SIG_STAT, tamper_writes (P := P) h_BIL_STAT h_BIL_TCOUNT h_BIL_TFIRSTH h_BIL_TFIRSTL h_BIL_TLASTH h_BIL_TLASTL h_EVT_PEND, State.without_when_if, State.without_ite, ite_self]; done)) only [State.without_each, State.without_eachOf, State.w_setFM (r := R.SIG_NEXTL) h_SIG_NEXTL (by decide), State.w_setFM (r := R.SIG_NEXTH) h_SIG_NEXTH (by decide), State.w_setF (fl := Fl.SIG_KSTAT_GEN) h_SIG_KSTAT (by decide), State.w_setFM (r := R.SIG_PUB) h_SIG_PUB (by decide), State.w_setReg (r := R.SIG_NEXTL) h_SIG_NEXTL (by decide), State.w_setReg (r := R.SIG_NEXTH) h_SIG_NEXTH (by decide), State.w_setReg (r := R.SIG_PUB) h_SIG_PUB (by decide), State.w_setQ (lo := R.SIG_NEXTL) (hi := R.SIG_NEXTH) h_SIG_NEXTL h_SIG_NEXTH (by decide) (by decide), State.without_upd_sig c_sig, queueSign_writes (P := P) c_sig, writeReservation_writes (P := P) h_SIG_KSTAT h_SIG_LIMITH h_SIG_LIMITL c_sig, sigCause_writes (P := P) h_EVT_PEND h_SIG_STAT, setKeyState_writes (P := P) h_SIG_KSTAT h_SIG_STAT, tamper_writes (P := P) h_BIL_STAT h_BIL_TCOUNT h_BIL_TFIRSTH h_BIL_TFIRSTL h_BIL_TLASTH h_BIL_TLASTL h_EVT_PEND, State.without_when_if, State.without_ite, ite_self]

include c_bil in
theorem commitJournal_writes (s : State) :
    (commitJournal s).without P = s.without P := by
  unfold commitJournal
  simp only [State.without_upd_bil c_bil, State.without_ite, ite_self]

include h_BIL_ARCH h_BIL_KOFFH h_BIL_KOFFL h_BIL_STAT h_BIL_TCOUNT h_BIL_TFIRSTH h_BIL_TFIRSTL h_BIL_TLASTH
    h_BIL_TLASTL h_EVT_PEND h_SIG_KSTAT h_SIG_LIMITH h_SIG_LIMITL h_SIG_NEXTH h_SIG_NEXTL h_SIG_PUB h_SIG_STAT c_bil c_sig in
theorem boundaryStep4_writes (x : BilSlot) (label : Nat) (recs : List (Prod Nat (List Byte))) (s : State) :
    (boundaryStep4 x label recs s).without P = s.without P := by
  unfold boundaryStep4
  (try simp (disch := (intros; ((try simp only [State.w_setQi (lo := R.BIL_KOFFL) (hi := R.BIL_KOFFH) h_BIL_KOFFL h_BIL_KOFFH (by decide) (by decide), State.without_upd_bil c_bil, State.without_upd_sig c_sig, stageGroup_writes (P := P) h_BIL_ARCH h_BIL_STAT h_BIL_TCOUNT h_BIL_TFIRSTH h_BIL_TFIRSTL h_BIL_TLASTH h_BIL_TLASTL h_EVT_PEND c_bil, queueSign_writes (P := P) c_sig, rootRequest_writes (P := P) c_sig, keyTakeover_writes (P := P) h_BIL_STAT h_BIL_TCOUNT h_BIL_TFIRSTH h_BIL_TFIRSTL h_BIL_TLASTH h_BIL_TLASTL h_EVT_PEND h_SIG_KSTAT h_SIG_LIMITH h_SIG_LIMITL h_SIG_NEXTH h_SIG_NEXTL h_SIG_PUB h_SIG_STAT c_sig, State.work_writes (P := P) c_bil, commitJournal_writes (P := P) c_bil, bilCause_writes (P := P) h_BIL_STAT h_EVT_PEND, State.without_when_if, State.without_ite, ite_self]) <;> (repeat' split) <;> (try simp only [State.w_setQi (lo := R.BIL_KOFFL) (hi := R.BIL_KOFFH) h_BIL_KOFFL h_BIL_KOFFH (by decide) (by decide), State.without_upd_bil c_bil, State.without_upd_sig c_sig, stageGroup_writes (P := P) h_BIL_ARCH h_BIL_STAT h_BIL_TCOUNT h_BIL_TFIRSTH h_BIL_TFIRSTL h_BIL_TLASTH h_BIL_TLASTL h_EVT_PEND c_bil, queueSign_writes (P := P) c_sig, rootRequest_writes (P := P) c_sig, keyTakeover_writes (P := P) h_BIL_STAT h_BIL_TCOUNT h_BIL_TFIRSTH h_BIL_TFIRSTL h_BIL_TLASTH h_BIL_TLASTL h_EVT_PEND h_SIG_KSTAT h_SIG_LIMITH h_SIG_LIMITL h_SIG_NEXTH h_SIG_NEXTL h_SIG_PUB h_SIG_STAT c_sig, State.work_writes (P := P) c_bil, commitJournal_writes (P := P) c_bil, bilCause_writes (P := P) h_BIL_STAT h_EVT_PEND, State.without_when_if, State.without_ite, ite_self])); done)) only [State.without_each, State.without_eachOf, State.w_setQi (lo := R.BIL_KOFFL) (hi := R.BIL_KOFFH) h_BIL_KOFFL h_BIL_KOFFH (by decide) (by decide), State.without_upd_bil c_bil, State.without_upd_sig c_sig, stageGroup_writes (P := P) h_BIL_ARCH h_BIL_STAT h_BIL_TCOUNT h_BIL_TFIRSTH h_BIL_TFIRSTL h_BIL_TLASTH h_BIL_TLASTL h_EVT_PEND c_bil, queueSign_writes (P := P) c_sig, rootRequest_writes (P := P) c_sig, keyTakeover_writes (P := P) h_BIL_STAT h_BIL_TCOUNT h_BIL_TFIRSTH h_BIL_TFIRSTL h_BIL_TLASTH h_BIL_TLASTL h_EVT_PEND h_SIG_KSTAT h_SIG_LIMITH h_SIG_LIMITL h_SIG_NEXTH h_SIG_NEXTL h_SIG_PUB h_SIG_STAT c_sig, State.work_writes (P := P) c_bil, commitJournal_writes (P := P) c_bil, bilCause_writes (P := P) h_BIL_STAT h_EVT_PEND, State.without_when_if, State.without_ite, ite_self]) <;> (repeat' split) <;>
    (try simp (disch := (intros; ((try simp only [State.w_setQi (lo := R.BIL_KOFFL) (hi := R.BIL_KOFFH) h_BIL_KOFFL h_BIL_KOFFH (by decide) (by decide), State.without_upd_bil c_bil, State.without_upd_sig c_sig, stageGroup_writes (P := P) h_BIL_ARCH h_BIL_STAT h_BIL_TCOUNT h_BIL_TFIRSTH h_BIL_TFIRSTL h_BIL_TLASTH h_BIL_TLASTL h_EVT_PEND c_bil, queueSign_writes (P := P) c_sig, rootRequest_writes (P := P) c_sig, keyTakeover_writes (P := P) h_BIL_STAT h_BIL_TCOUNT h_BIL_TFIRSTH h_BIL_TFIRSTL h_BIL_TLASTH h_BIL_TLASTL h_EVT_PEND h_SIG_KSTAT h_SIG_LIMITH h_SIG_LIMITL h_SIG_NEXTH h_SIG_NEXTL h_SIG_PUB h_SIG_STAT c_sig, State.work_writes (P := P) c_bil, commitJournal_writes (P := P) c_bil, bilCause_writes (P := P) h_BIL_STAT h_EVT_PEND, State.without_when_if, State.without_ite, ite_self]) <;> (repeat' split) <;> (try simp only [State.w_setQi (lo := R.BIL_KOFFL) (hi := R.BIL_KOFFH) h_BIL_KOFFL h_BIL_KOFFH (by decide) (by decide), State.without_upd_bil c_bil, State.without_upd_sig c_sig, stageGroup_writes (P := P) h_BIL_ARCH h_BIL_STAT h_BIL_TCOUNT h_BIL_TFIRSTH h_BIL_TFIRSTL h_BIL_TLASTH h_BIL_TLASTL h_EVT_PEND c_bil, queueSign_writes (P := P) c_sig, rootRequest_writes (P := P) c_sig, keyTakeover_writes (P := P) h_BIL_STAT h_BIL_TCOUNT h_BIL_TFIRSTH h_BIL_TFIRSTL h_BIL_TLASTH h_BIL_TLASTL h_EVT_PEND h_SIG_KSTAT h_SIG_LIMITH h_SIG_LIMITL h_SIG_NEXTH h_SIG_NEXTL h_SIG_PUB h_SIG_STAT c_sig, State.work_writes (P := P) c_bil, commitJournal_writes (P := P) c_bil, bilCause_writes (P := P) h_BIL_STAT h_EVT_PEND, State.without_when_if, State.without_ite, ite_self])); done)) only [State.without_each, State.without_eachOf, State.w_setQi (lo := R.BIL_KOFFL) (hi := R.BIL_KOFFH) h_BIL_KOFFL h_BIL_KOFFH (by decide) (by decide), State.without_upd_bil c_bil, State.without_upd_sig c_sig, stageGroup_writes (P := P) h_BIL_ARCH h_BIL_STAT h_BIL_TCOUNT h_BIL_TFIRSTH h_BIL_TFIRSTL h_BIL_TLASTH h_BIL_TLASTL h_EVT_PEND c_bil, queueSign_writes (P := P) c_sig, rootRequest_writes (P := P) c_sig, keyTakeover_writes (P := P) h_BIL_STAT h_BIL_TCOUNT h_BIL_TFIRSTH h_BIL_TFIRSTL h_BIL_TLASTH h_BIL_TLASTL h_EVT_PEND h_SIG_KSTAT h_SIG_LIMITH h_SIG_LIMITL h_SIG_NEXTH h_SIG_NEXTL h_SIG_PUB h_SIG_STAT c_sig, State.work_writes (P := P) c_bil, commitJournal_writes (P := P) c_bil, bilCause_writes (P := P) h_BIL_STAT h_EVT_PEND, State.without_when_if, State.without_ite, ite_self])

include h_BIL_ADAY h_BIL_ASEA0 h_BIL_ASEA1 h_BIL_ASPEC h_BIL_AWEEK0 h_BIL_AWEEK1 in
theorem copyCalendar_writes (s : State) :
    (copyCalendar s).without P = s.without P := by
  unfold copyCalendar
  simp (disch := (intros; simp only [State.w_setReg (r := R.BIL_ASEA0) h_BIL_ASEA0 (by decide), State.w_setReg (r := R.BIL_ASEA1) h_BIL_ASEA1 (by decide), State.w_setReg (r := R.BIL_AWEEK0) h_BIL_AWEEK0 (by decide), State.w_setReg (r := R.BIL_AWEEK1) h_BIL_AWEEK1 (by decide), State.w_setReg (r := R.BIL_ADAY) h_BIL_ADAY (by decide), State.w_setReg (r := R.BIL_ASPEC) h_BIL_ASPEC (by decide), State.without_ite, ite_self]; done)) only [State.without_each, State.without_eachOf, State.w_setReg (r := R.BIL_ASEA0) h_BIL_ASEA0 (by decide), State.w_setReg (r := R.BIL_ASEA1) h_BIL_ASEA1 (by decide), State.w_setReg (r := R.BIL_AWEEK0) h_BIL_AWEEK0 (by decide), State.w_setReg (r := R.BIL_AWEEK1) h_BIL_AWEEK1 (by decide), State.w_setReg (r := R.BIL_ADAY) h_BIL_ADAY (by decide), State.w_setReg (r := R.BIL_ASPEC) h_BIL_ASPEC (by decide), State.without_ite, ite_self]

include h_BIL_ADAY h_BIL_ASEA0 h_BIL_ASEA1 h_BIL_ASPEC h_BIL_AWEEK0 h_BIL_AWEEK1 h_BIL_STAT h_BIL_TCOUNT
    h_BIL_TFIRSTH h_BIL_TFIRSTL h_BIL_TLASTH h_BIL_TLASTL h_EVT_PEND c_bil in
theorem activateCalendar_writes (q : Int) (s : State) :
    (activateCalendar q s).without P = s.without P := by
  unfold activateCalendar
  rw [tamper_writes (P := P) h_BIL_STAT h_BIL_TCOUNT h_BIL_TFIRSTH h_BIL_TFIRSTL h_BIL_TLASTH h_BIL_TLASTL h_EVT_PEND, bilCause_writes (P := P) h_BIL_STAT h_EVT_PEND]
  have h0 : (s.setB Fl.BIL_STAT_ACTPEND 0 false).without P = s.without P := State.w_setB (fl := Fl.BIL_STAT_ACTPEND) h_BIL_STAT (by decide) _ _ _
  rw [← h0]
  generalize s.setB Fl.BIL_STAT_ACTPEND 0 false = s
  dsimp only
  split
  · rw [State.work_writes (P := P) c_bil,
      ← copyCalendar_writes (P := P) h_BIL_ADAY h_BIL_ASEA0 h_BIL_ASEA1 h_BIL_ASPEC h_BIL_AWEEK0 h_BIL_AWEEK1 s]
    split
    · rfl
    · exact State.w_setF (fl := Fl.BIL_STAT_TARIFF) h_BIL_STAT (by decide) _ _ _
  · exact State.w_setB (fl := Fl.BIL_STAT_CALERR) h_BIL_STAT (by decide) _ _ _

include h_BIL_ADAY h_BIL_ASEA0 h_BIL_ASEA1 h_BIL_ASPEC h_BIL_AWEEK0 h_BIL_AWEEK1 h_BIL_STAT h_BIL_TCOUNT
    h_BIL_TFIRSTH h_BIL_TFIRSTL h_BIL_TLASTH h_BIL_TLASTL h_EVT_PEND c_bil in
theorem boundaryStep3_writes (x : BilSlot) (first : Bool) (firstD : Bool) (s : State) :
    (boundaryStep3 x first firstD s).without P = s.without P := by
  unfold boundaryStep3
  (try simp only [State.w_setF (fl := Fl.BIL_STAT_TARIFF) h_BIL_STAT (by decide), State.without_upd_bil c_bil,
      State.work_writes (P := P) c_bil,
      activateCalendar_writes (P := P) h_BIL_ADAY h_BIL_ASEA0 h_BIL_ASEA1 h_BIL_ASPEC h_BIL_AWEEK0 h_BIL_AWEEK1 h_BIL_STAT h_BIL_TCOUNT h_BIL_TFIRSTH h_BIL_TFIRSTL h_BIL_TLASTH h_BIL_TLASTL h_EVT_PEND c_bil, State.without_ite, ite_self]) <;> (repeat' split) <;> simp only [State.w_setF (fl := Fl.BIL_STAT_TARIFF) h_BIL_STAT (by decide), State.without_upd_bil c_bil, State.work_writes (P := P) c_bil, activateCalendar_writes (P := P) h_BIL_ADAY h_BIL_ASEA0 h_BIL_ASEA1 h_BIL_ASPEC h_BIL_AWEEK0 h_BIL_AWEEK1 h_BIL_STAT h_BIL_TCOUNT h_BIL_TFIRSTH h_BIL_TFIRSTL h_BIL_TLASTH h_BIL_TLASTL h_EVT_PEND c_bil, State.without_ite, ite_self]

include h_BIL_ADAY h_BIL_ARCH h_BIL_ASEA0 h_BIL_ASEA1 h_BIL_ASPEC h_BIL_AWEEK0 h_BIL_AWEEK1 h_BIL_DLAST h_BIL_DMAX0
    h_BIL_DMAX1 h_BIL_DPREV0 h_BIL_DPREV1 h_BIL_EBASE0H h_BIL_EBASE0L h_BIL_EBASE1H h_BIL_EBASE1L h_BIL_ISEQ h_BIL_KOFFH h_BIL_KOFFL h_BIL_NEXTH h_BIL_NEXTL h_BIL_SPAN0 h_BIL_SPAN1 h_BIL_STAT h_BIL_TCOUNT h_BIL_TDELH h_BIL_TDELL h_BIL_TFIRSTH h_BIL_TFIRSTL h_BIL_TLASTH h_BIL_TLASTL h_BIL_TRECH h_BIL_TRECL h_EVT_PEND h_MTR_STAT h_SIG_KSTAT h_SIG_LIMITH h_SIG_LIMITL h_SIG_NEXTH h_SIG_NEXTL h_SIG_PUB h_SIG_STAT c_bil c_mtr c_rng c_sig in
theorem processSlot_writes (x : BilSlot) (s : State) :
    (processSlot x s).without P = s.without P := by
  have hq : ∀ (k : Nat) (a b : Nat) (s : State), ((s.setQ R.BIL_TDELL R.BIL_TDELH k a).setQ R.BIL_TRECL R.BIL_TRECH k b).without P = s.without P :=
    fun k a b s => by simp only [gridInterval_writes (P := P) h_BIL_STAT h_BIL_TCOUNT h_BIL_TFIRSTH h_BIL_TFIRSTL h_BIL_TLASTH h_BIL_TLASTL h_EVT_PEND h_MTR_STAT c_bil c_mtr, addSpan_writes (P := P) h_BIL_SPAN0 h_BIL_SPAN1, expireSpans_writes (P := P) h_BIL_SPAN0 h_BIL_SPAN1, State.work_writes (P := P) c_bil, State.w_setF (fl := Fl.BIL_STAT_FOLD) h_BIL_STAT (by decide), State.without_upd_bil c_bil, State.without_upd_rng c_rng, State.without_when_if, State.without_ite, ite_self, State.w_setQ (lo := R.BIL_TDELL) (hi := R.BIL_TDELH) h_BIL_TDELL h_BIL_TDELH (by decide) (by decide), State.w_setQ (lo := R.BIL_TRECL) (hi := R.BIL_TRECH) h_BIL_TRECL h_BIL_TRECH (by decide) (by decide), State.w_setQ (lo := R.BIL_EBASE0L) (hi := R.BIL_EBASE0H) h_BIL_EBASE0L h_BIL_EBASE0H (by decide) (by decide), State.w_setQ (lo := R.BIL_EBASE1L) (hi := R.BIL_EBASE1H) h_BIL_EBASE1L h_BIL_EBASE1H (by decide) (by decide)]
  have hb : ∀ (k : Nat) (a b : Nat) (s : State), ((s.setQ R.BIL_EBASE0L R.BIL_EBASE0H k a).setQ R.BIL_EBASE1L R.BIL_EBASE1H k b).without P = s.without P :=
    fun k a b s => by simp only [gridInterval_writes (P := P) h_BIL_STAT h_BIL_TCOUNT h_BIL_TFIRSTH h_BIL_TFIRSTL h_BIL_TLASTH h_BIL_TLASTL h_EVT_PEND h_MTR_STAT c_bil c_mtr, addSpan_writes (P := P) h_BIL_SPAN0 h_BIL_SPAN1, expireSpans_writes (P := P) h_BIL_SPAN0 h_BIL_SPAN1, State.work_writes (P := P) c_bil, State.w_setF (fl := Fl.BIL_STAT_FOLD) h_BIL_STAT (by decide), State.without_upd_bil c_bil, State.without_upd_rng c_rng, State.without_when_if, State.without_ite, ite_self, State.w_setQ (lo := R.BIL_TDELL) (hi := R.BIL_TDELH) h_BIL_TDELL h_BIL_TDELH (by decide) (by decide), State.w_setQ (lo := R.BIL_TRECL) (hi := R.BIL_TRECH) h_BIL_TRECL h_BIL_TRECH (by decide) (by decide), State.w_setQ (lo := R.BIL_EBASE0L) (hi := R.BIL_EBASE0H) h_BIL_EBASE0L h_BIL_EBASE0H (by decide) (by decide), State.w_setQ (lo := R.BIL_EBASE1L) (hi := R.BIL_EBASE1H) h_BIL_EBASE1L h_BIL_EBASE1H (by decide) (by decide)]
  have h2 : ∀ (due : Bool) (s : State), (boundaryStep2 x due s).1.without P = s.without P := by
    intro due s
    unfold boundaryStep2
    extract_lets w s1 recs r1 s2 r s3 s4 s5 s6 label s7 r2 s8
    have h1 : s1.without P = s.without P := by simp only [s1,
        gridInterval_writes (P := P) h_BIL_STAT h_BIL_TCOUNT h_BIL_TFIRSTH h_BIL_TFIRSTL h_BIL_TLASTH h_BIL_TLASTL h_EVT_PEND h_MTR_STAT c_bil c_mtr, addSpan_writes (P := P) h_BIL_SPAN0 h_BIL_SPAN1, expireSpans_writes (P := P) h_BIL_SPAN0 h_BIL_SPAN1, State.work_writes (P := P) c_bil, State.w_setF (fl := Fl.BIL_STAT_FOLD) h_BIL_STAT (by decide), State.without_upd_bil c_bil, State.without_upd_rng c_rng, State.without_when_if, State.without_ite, ite_self, State.w_setQ (lo := R.BIL_TDELL) (hi := R.BIL_TDELH) h_BIL_TDELL h_BIL_TDELH (by decide) (by decide), State.w_setQ (lo := R.BIL_TRECL) (hi := R.BIL_TRECH) h_BIL_TRECL h_BIL_TRECH (by decide) (by decide), State.w_setQ (lo := R.BIL_EBASE0L) (hi := R.BIL_EBASE0H) h_BIL_EBASE0L h_BIL_EBASE0H (by decide) (by decide), State.w_setQ (lo := R.BIL_EBASE1L) (hi := R.BIL_EBASE1H) h_BIL_EBASE1L h_BIL_EBASE1H (by decide) (by decide)]
    have h2 : s2.without P = s1.without P := by simp only [s2]; split <;> simp only [gridInterval_writes (P := P) h_BIL_STAT h_BIL_TCOUNT h_BIL_TFIRSTH h_BIL_TFIRSTL h_BIL_TLASTH h_BIL_TLASTL h_EVT_PEND h_MTR_STAT c_bil c_mtr, addSpan_writes (P := P) h_BIL_SPAN0 h_BIL_SPAN1, expireSpans_writes (P := P) h_BIL_SPAN0 h_BIL_SPAN1, State.work_writes (P := P) c_bil, State.w_setF (fl := Fl.BIL_STAT_FOLD) h_BIL_STAT (by decide), State.without_upd_bil c_bil, State.without_upd_rng c_rng, State.without_when_if, State.without_ite, ite_self, State.w_setQ (lo := R.BIL_TDELL) (hi := R.BIL_TDELH) h_BIL_TDELL h_BIL_TDELH (by decide) (by decide), State.w_setQ (lo := R.BIL_TRECL) (hi := R.BIL_TRECH) h_BIL_TRECL h_BIL_TRECH (by decide) (by decide), State.w_setQ (lo := R.BIL_EBASE0L) (hi := R.BIL_EBASE0H) h_BIL_EBASE0L h_BIL_EBASE0H (by decide) (by decide), State.w_setQ (lo := R.BIL_EBASE1L) (hi := R.BIL_EBASE1H) h_BIL_EBASE1L h_BIL_EBASE1H (by decide) (by decide)]
    have h3 : s3.without P = s2.without P := by
      simp only [s3]
      split
      · rfl
      · exact State.without_each (fun m s => by simp only [gridInterval_writes (P := P) h_BIL_STAT h_BIL_TCOUNT h_BIL_TFIRSTH h_BIL_TFIRSTL h_BIL_TLASTH h_BIL_TLASTL h_EVT_PEND h_MTR_STAT c_bil c_mtr, addSpan_writes (P := P) h_BIL_SPAN0 h_BIL_SPAN1, expireSpans_writes (P := P) h_BIL_SPAN0 h_BIL_SPAN1, State.work_writes (P := P) c_bil, State.w_setF (fl := Fl.BIL_STAT_FOLD) h_BIL_STAT (by decide), State.without_upd_bil c_bil, State.without_upd_rng c_rng, State.without_when_if, State.without_ite, ite_self, State.w_setQ (lo := R.BIL_TDELL) (hi := R.BIL_TDELH) h_BIL_TDELL h_BIL_TDELH (by decide) (by decide), State.w_setQ (lo := R.BIL_TRECL) (hi := R.BIL_TRECH) h_BIL_TRECL h_BIL_TRECH (by decide) (by decide), State.w_setQ (lo := R.BIL_EBASE0L) (hi := R.BIL_EBASE0H) h_BIL_EBASE0L h_BIL_EBASE0H (by decide) (by decide), State.w_setQ (lo := R.BIL_EBASE1L) (hi := R.BIL_EBASE1H) h_BIL_EBASE1L h_BIL_EBASE1H (by decide) (by decide)]) _ _
    have h4 : s4.without P = s3.without P := by simp only [s4]; split <;> simp only [gridInterval_writes (P := P) h_BIL_STAT h_BIL_TCOUNT h_BIL_TFIRSTH h_BIL_TFIRSTL h_BIL_TLASTH h_BIL_TLASTL h_EVT_PEND h_MTR_STAT c_bil c_mtr, addSpan_writes (P := P) h_BIL_SPAN0 h_BIL_SPAN1, expireSpans_writes (P := P) h_BIL_SPAN0 h_BIL_SPAN1, State.work_writes (P := P) c_bil, State.w_setF (fl := Fl.BIL_STAT_FOLD) h_BIL_STAT (by decide), State.without_upd_bil c_bil, State.without_upd_rng c_rng, State.without_when_if, State.without_ite, ite_self, State.w_setQ (lo := R.BIL_TDELL) (hi := R.BIL_TDELH) h_BIL_TDELL h_BIL_TDELH (by decide) (by decide), State.w_setQ (lo := R.BIL_TRECL) (hi := R.BIL_TRECH) h_BIL_TRECL h_BIL_TRECH (by decide) (by decide), State.w_setQ (lo := R.BIL_EBASE0L) (hi := R.BIL_EBASE0H) h_BIL_EBASE0L h_BIL_EBASE0H (by decide) (by decide), State.w_setQ (lo := R.BIL_EBASE1L) (hi := R.BIL_EBASE1H) h_BIL_EBASE1L h_BIL_EBASE1H (by decide) (by decide)]
    have h5 : s5.without P = s4.without P := by simp only [s5,
        gridInterval_writes (P := P) h_BIL_STAT h_BIL_TCOUNT h_BIL_TFIRSTH h_BIL_TFIRSTL h_BIL_TLASTH h_BIL_TLASTL h_EVT_PEND h_MTR_STAT c_bil c_mtr, addSpan_writes (P := P) h_BIL_SPAN0 h_BIL_SPAN1, expireSpans_writes (P := P) h_BIL_SPAN0 h_BIL_SPAN1, State.work_writes (P := P) c_bil, State.w_setF (fl := Fl.BIL_STAT_FOLD) h_BIL_STAT (by decide), State.without_upd_bil c_bil, State.without_upd_rng c_rng, State.without_when_if, State.without_ite, ite_self, State.w_setQ (lo := R.BIL_TDELL) (hi := R.BIL_TDELH) h_BIL_TDELL h_BIL_TDELH (by decide) (by decide), State.w_setQ (lo := R.BIL_TRECL) (hi := R.BIL_TRECH) h_BIL_TRECL h_BIL_TRECH (by decide) (by decide), State.w_setQ (lo := R.BIL_EBASE0L) (hi := R.BIL_EBASE0H) h_BIL_EBASE0L h_BIL_EBASE0H (by decide) (by decide), State.w_setQ (lo := R.BIL_EBASE1L) (hi := R.BIL_EBASE1H) h_BIL_EBASE1L h_BIL_EBASE1H (by decide) (by decide)]
    have h6 : s6.without P = s5.without P := by
      simp only [s6]
      split
      · rfl
      · rw [State.work_writes (P := P) c_bil]
        exact State.without_each (fun m s => by simp only [gridInterval_writes (P := P) h_BIL_STAT h_BIL_TCOUNT h_BIL_TFIRSTH h_BIL_TFIRSTL h_BIL_TLASTH h_BIL_TLASTL h_EVT_PEND h_MTR_STAT c_bil c_mtr, addSpan_writes (P := P) h_BIL_SPAN0 h_BIL_SPAN1, expireSpans_writes (P := P) h_BIL_SPAN0 h_BIL_SPAN1, State.work_writes (P := P) c_bil, State.w_setF (fl := Fl.BIL_STAT_FOLD) h_BIL_STAT (by decide), State.without_upd_bil c_bil, State.without_upd_rng c_rng, State.without_when_if, State.without_ite, ite_self, State.w_setQ (lo := R.BIL_TDELL) (hi := R.BIL_TDELH) h_BIL_TDELL h_BIL_TDELH (by decide) (by decide), State.w_setQ (lo := R.BIL_TRECL) (hi := R.BIL_TRECH) h_BIL_TRECL h_BIL_TRECH (by decide) (by decide), State.w_setQ (lo := R.BIL_EBASE0L) (hi := R.BIL_EBASE0H) h_BIL_EBASE0L h_BIL_EBASE0H (by decide) (by decide), State.w_setQ (lo := R.BIL_EBASE1L) (hi := R.BIL_EBASE1H) h_BIL_EBASE1L h_BIL_EBASE1H (by decide) (by decide)]) _ _
    have h7 : s7.without P = s6.without P := by simp only [s7,
        gridInterval_writes (P := P) h_BIL_STAT h_BIL_TCOUNT h_BIL_TFIRSTH h_BIL_TFIRSTL h_BIL_TLASTH h_BIL_TLASTL h_EVT_PEND h_MTR_STAT c_bil c_mtr, addSpan_writes (P := P) h_BIL_SPAN0 h_BIL_SPAN1, expireSpans_writes (P := P) h_BIL_SPAN0 h_BIL_SPAN1, State.work_writes (P := P) c_bil, State.w_setF (fl := Fl.BIL_STAT_FOLD) h_BIL_STAT (by decide), State.without_upd_bil c_bil, State.without_upd_rng c_rng, State.without_when_if, State.without_ite, ite_self, State.w_setQ (lo := R.BIL_TDELL) (hi := R.BIL_TDELH) h_BIL_TDELL h_BIL_TDELH (by decide) (by decide), State.w_setQ (lo := R.BIL_TRECL) (hi := R.BIL_TRECH) h_BIL_TRECL h_BIL_TRECH (by decide) (by decide), State.w_setQ (lo := R.BIL_EBASE0L) (hi := R.BIL_EBASE0H) h_BIL_EBASE0L h_BIL_EBASE0H (by decide) (by decide), State.w_setQ (lo := R.BIL_EBASE1L) (hi := R.BIL_EBASE1H) h_BIL_EBASE1L h_BIL_EBASE1H (by decide) (by decide)]
    have h8 : s8.without P = s7.without P := State.without_upd_bil c_bil _ _
    have h := h5.trans (h4.trans (h3.trans (h2.trans h1)))
    split
    · exact h
    · exact (State.work_writes (P := P) c_bil _ _).trans (h8.trans (h7.trans (h6.trans h)))
  unfold processSlot
  simp only [h2, State.without_upd_bil c_bil, State.without_upd_mtr c_mtr, State.without_upd_rng c_rng,
      State.without_upd_sig c_sig,
      boundaryStep1_writes (P := P) h_BIL_DLAST h_BIL_DMAX0 h_BIL_DMAX1 h_BIL_DPREV0 h_BIL_DPREV1 h_BIL_ISEQ h_BIL_STAT c_bil, schedule_writes (P := P) h_BIL_NEXTH h_BIL_NEXTL c_bil c_mtr, boundaryStep4_writes (P := P) h_BIL_ARCH h_BIL_KOFFH h_BIL_KOFFL h_BIL_STAT h_BIL_TCOUNT h_BIL_TFIRSTH h_BIL_TFIRSTL h_BIL_TLASTH h_BIL_TLASTL h_EVT_PEND h_SIG_KSTAT h_SIG_LIMITH h_SIG_LIMITL h_SIG_NEXTH h_SIG_NEXTL h_SIG_PUB h_SIG_STAT c_bil c_sig, boundaryStep3_writes (P := P) h_BIL_ADAY h_BIL_ASEA0 h_BIL_ASEA1 h_BIL_ASPEC h_BIL_AWEEK0 h_BIL_AWEEK1 h_BIL_STAT h_BIL_TCOUNT h_BIL_TFIRSTH h_BIL_TFIRSTL h_BIL_TLASTH h_BIL_TLASTL h_EVT_PEND c_bil, State.without_ite, ite_self]

include c_est in
theorem packRecord_writes (k : Nat) (s : State) :
    (packRecord k s).without P = s.without P := by
  unfold packRecord
  simp only [State.without_upd_est c_est, State.setPk_writes (P := P) c_est, State.without_ite, ite_self]

include c_est in
theorem packRecords_writes (s : State) :
    (packRecords s).without P = s.without P := by
  unfold packRecords
  simp (disch := (intros; simp only [State.without_upd_est c_est, packRecord_writes (P := P) c_est, State.without_ite, ite_self]; done)) only [State.without_each, State.without_eachOf, State.without_upd_est c_est, packRecord_writes (P := P) c_est, State.without_ite, ite_self]

include c_thm in
theorem thermalRecord_writes (s : State) :
    (thermalRecord s).without P = s.without P := by
  unfold thermalRecord
  simp only [State.without_upd_thm c_thm, State.without_ite, ite_self]

end Sys2Proof.Machine
end

