-- ==== Sys2Proof/Laws/Writes3.lean ====
section
/-! SUPPORT. What each operation leaves unchanged (3 of 5): everything outside a part that holds what it writes. -/

set_option linter.all false

namespace Sys2Proof.Machine

variable {P : Part}
variable (h_BIL_ADAY : P.regs R.BIL_ADAY.addr = true) (h_BIL_ARCH : P.regs R.BIL_ARCH.addr = true)
variable (h_BIL_ASEA0 : P.regs R.BIL_ASEA0.addr = true) (h_BIL_ASEA1 : P.regs R.BIL_ASEA1.addr = true)
variable (h_BIL_ASPEC : P.regs R.BIL_ASPEC.addr = true) (h_BIL_AWEEK0 : P.regs R.BIL_AWEEK0.addr = true)
variable (h_BIL_AWEEK1 : P.regs R.BIL_AWEEK1.addr = true) (h_BIL_DLAST : P.regs R.BIL_DLAST.addr = true)
variable (h_BIL_DMAX0 : P.regs R.BIL_DMAX0.addr = true) (h_BIL_DMAX1 : P.regs R.BIL_DMAX1.addr = true)
variable (h_BIL_DPREV0 : P.regs R.BIL_DPREV0.addr = true) (h_BIL_DPREV1 : P.regs R.BIL_DPREV1.addr = true)
variable (h_BIL_EBASE0H : P.regs R.BIL_EBASE0H.addr = true) (h_BIL_EBASE0L : P.regs R.BIL_EBASE0L.addr = true)
variable (h_BIL_EBASE1H : P.regs R.BIL_EBASE1H.addr = true) (h_BIL_EBASE1L : P.regs R.BIL_EBASE1L.addr = true)
variable (h_BIL_ISEQ : P.regs R.BIL_ISEQ.addr = true) (h_BIL_KOFFH : P.regs R.BIL_KOFFH.addr = true)
variable (h_BIL_KOFFL : P.regs R.BIL_KOFFL.addr = true) (h_BIL_NEXTH : P.regs R.BIL_NEXTH.addr = true)
variable (h_BIL_NEXTL : P.regs R.BIL_NEXTL.addr = true) (h_BIL_SPAN0 : P.regs R.BIL_SPAN0.addr = true)
variable (h_BIL_SPAN1 : P.regs R.BIL_SPAN1.addr = true) (h_BIL_STAT : P.regs R.BIL_STAT.addr = true)
variable (h_BIL_TCOUNT : P.regs R.BIL_TCOUNT.addr = true) (h_BIL_TDELH : P.regs R.BIL_TDELH.addr = true)
variable (h_BIL_TDELL : P.regs R.BIL_TDELL.addr = true) (h_BIL_TFIRSTH : P.regs R.BIL_TFIRSTH.addr = true)
variable (h_BIL_TFIRSTL : P.regs R.BIL_TFIRSTL.addr = true) (h_BIL_TLASTH : P.regs R.BIL_TLASTH.addr = true)
variable (h_BIL_TLASTL : P.regs R.BIL_TLASTL.addr = true) (h_BIL_TRECH : P.regs R.BIL_TRECH.addr = true)
variable (h_BIL_TRECL : P.regs R.BIL_TRECL.addr = true) (h_CAN_CTL : P.regs R.CAN_CTL.addr = true)
variable (h_CAN_STAT : P.regs R.CAN_STAT.addr = true) (h_CAN_TXEVA : P.regs R.CAN_TXEVA.addr = true)
variable (h_CAN_TXEVB : P.regs R.CAN_TXEVB.addr = true) (h_CAN_TXSTAT : P.regs R.CAN_TXSTAT.addr = true)
variable (h_CLN_CAP : P.regs R.CLN_CAP.addr = true) (h_CLN_CELLST : P.regs R.CLN_CELLST.addr = true)
variable (h_CLN_ERRA : P.regs R.CLN_ERRA.addr = true) (h_CLN_ERRB : P.regs R.CLN_ERRB.addr = true)
variable (h_CLN_ERRC : P.regs R.CLN_ERRC.addr = true) (h_CLN_LANEEV : P.regs R.CLN_LANEEV.addr = true)
variable (h_CLN_LANESTAT : P.regs R.CLN_LANESTAT.addr = true) (h_CLN_LANETIM : P.regs R.CLN_LANETIM.addr = true)
variable (h_CLN_MGBUF : P.regs R.CLN_MGBUF.addr = true) (h_CLN_MGSTAT : P.regs R.CLN_MGSTAT.addr = true)
variable (h_CLN_STAT : P.regs R.CLN_STAT.addr = true) (h_DKL_CTL : P.regs R.DKL_CTL.addr = true)
variable (h_DKL_STAT : P.regs R.DKL_STAT.addr = true) (h_DKL_TXEV : P.regs R.DKL_TXEV.addr = true)
variable (h_DKL_TXSTAT : P.regs R.DKL_TXSTAT.addr = true) (h_EST_CAP : P.regs R.EST_CAP.addr = true)
variable (h_EST_CHG : P.regs R.EST_CHG.addr = true) (h_EST_CYCLES : P.regs R.EST_CYCLES.addr = true)
variable (h_EST_DIS : P.regs R.EST_DIS.addr = true) (h_EST_IMP : P.regs R.EST_IMP.addr = true)
variable (h_EST_PACKIDH : P.regs R.EST_PACKIDH.addr = true) (h_EST_PACKIDL : P.regs R.EST_PACKIDL.addr = true)
variable (h_EST_QH : P.regs R.EST_QH.addr = true) (h_EST_QL : P.regs R.EST_QL.addr = true)
variable (h_EST_SOC : P.regs R.EST_SOC.addr = true) (h_EST_SOCE : P.regs R.EST_SOCE.addr = true)
variable (h_EST_STAT : P.regs R.EST_STAT.addr = true) (h_ETH_CTL : P.regs R.ETH_CTL.addr = true)
variable (h_ETH_STAT : P.regs R.ETH_STAT.addr = true) (h_ETH_TXHEAD : P.regs R.ETH_TXHEAD.addr = true)
variable (h_EVT_PEND : P.regs R.EVT_PEND.addr = true) (h_HST_CQHEAD : P.regs R.HST_CQHEAD.addr = true)
variable (h_HST_CQMEM : P.regs R.HST_CQMEM.addr = true) (h_HST_CQTAIL : P.regs R.HST_CQTAIL.addr = true)
variable (h_HST_OPSTAT : P.regs R.HST_OPSTAT.addr = true) (h_HST_OPSTEPS : P.regs R.HST_OPSTEPS.addr = true)
variable (h_HST_QCFG : P.regs R.HST_QCFG.addr = true) (h_HST_QSTAT : P.regs R.HST_QSTAT.addr = true)
variable (h_HST_SQHEAD : P.regs R.HST_SQHEAD.addr = true) (h_HST_SQTAIL : P.regs R.HST_SQTAIL.addr = true)
variable (h_HST_STAT : P.regs R.HST_STAT.addr = true) (h_LPE_BATCH : P.regs R.LPE_BATCH.addr = true)
variable (h_LPE_BSTAT : P.regs R.LPE_BSTAT.addr = true) (h_LPE_CAPSTAT : P.regs R.LPE_CAPSTAT.addr = true)
variable (h_LPE_CWSTAT : P.regs R.LPE_CWSTAT.addr = true) (h_LPE_FEST : P.regs R.LPE_FEST.addr = true)
variable (h_LPE_GROUP : P.regs R.LPE_GROUP.addr = true) (h_LPE_INJCTL : P.regs R.LPE_INJCTL.addr = true)
variable (h_LPE_LOAD : P.regs R.LPE_LOAD.addr = true) (h_LPE_SATST : P.regs R.LPE_SATST.addr = true)
variable (h_LPE_STAT : P.regs R.LPE_STAT.addr = true) (h_LPE_TAKE : P.regs R.LPE_TAKE.addr = true)
variable (h_LPE_TLOAD : P.regs R.LPE_TLOAD.addr = true) (h_LSW_CHSTAT : P.regs R.LSW_CHSTAT.addr = true)
variable (h_MTR_EDELH : P.regs R.MTR_EDELH.addr = true) (h_MTR_EDELL : P.regs R.MTR_EDELL.addr = true)
variable (h_MTR_EEXPH : P.regs R.MTR_EEXPH.addr = true) (h_MTR_EEXPL : P.regs R.MTR_EEXPL.addr = true)
variable (h_MTR_EIMPH : P.regs R.MTR_EIMPH.addr = true) (h_MTR_EIMPL : P.regs R.MTR_EIMPL.addr = true)
variable (h_MTR_ERECH : P.regs R.MTR_ERECH.addr = true) (h_MTR_ERECL : P.regs R.MTR_ERECL.addr = true)
variable (h_MTR_FOLD : P.regs R.MTR_FOLD.addr = true) (h_MTR_MSTAT : P.regs R.MTR_MSTAT.addr = true)
variable (h_MTR_PCNT : P.regs R.MTR_PCNT.addr = true) (h_MTR_RAWDELH : P.regs R.MTR_RAWDELH.addr = true)
variable (h_MTR_RAWDELL : P.regs R.MTR_RAWDELL.addr = true) (h_MTR_RAWRECH : P.regs R.MTR_RAWRECH.addr = true)
variable (h_MTR_RAWRECL : P.regs R.MTR_RAWRECL.addr = true) (h_MTR_SECDELH : P.regs R.MTR_SECDELH.addr = true)
variable (h_MTR_SECDELL : P.regs R.MTR_SECDELL.addr = true) (h_MTR_SECRECH : P.regs R.MTR_SECRECH.addr = true)
variable (h_MTR_SECRECL : P.regs R.MTR_SECRECL.addr = true) (h_MTR_STAT : P.regs R.MTR_STAT.addr = true)
variable (h_MTR_XDEL : P.regs R.MTR_XDEL.addr = true) (h_MTR_XEXP : P.regs R.MTR_XEXP.addr = true)
variable (h_MTR_XIMP : P.regs R.MTR_XIMP.addr = true) (h_MTR_XREC : P.regs R.MTR_XREC.addr = true)
variable (h_PRT_CELL : P.regs R.PRT_CELL.addr = true) (h_PRT_CIDENT : P.regs R.PRT_CIDENT.addr = true)
variable (h_PRT_CTEL : P.regs R.PRT_CTEL.addr = true) (h_PRT_GCAUSE : P.regs R.PRT_GCAUSE.addr = true)
variable (h_PRT_GSTAT : P.regs R.PRT_GSTAT.addr = true) (h_PRT_GTEL : P.regs R.PRT_GTEL.addr = true)
variable (h_PRT_IAPP : P.regs R.PRT_IAPP.addr = true) (h_PRT_STAT : P.regs R.PRT_STAT.addr = true)
variable (h_PRT_VAPP : P.regs R.PRT_VAPP.addr = true) (h_RNG_LINK : P.regs R.RNG_LINK.addr = true)
variable (h_SFY_COIL : P.regs R.SFY_COIL.addr = true) (h_SFY_PSTAT : P.regs R.SFY_PSTAT.addr = true)
variable (h_SFY_STAT : P.regs R.SFY_STAT.addr = true) (h_SIG_DISCARD : P.regs R.SIG_DISCARD.addr = true)
variable (h_SIG_KSTAT : P.regs R.SIG_KSTAT.addr = true) (h_SIG_LIMITH : P.regs R.SIG_LIMITH.addr = true)
variable (h_SIG_LIMITL : P.regs R.SIG_LIMITL.addr = true) (h_SIG_NEXTH : P.regs R.SIG_NEXTH.addr = true)
variable (h_SIG_NEXTL : P.regs R.SIG_NEXTL.addr = true) (h_SIG_PUB : P.regs R.SIG_PUB.addr = true)
variable (h_SIG_STAT : P.regs R.SIG_STAT.addr = true) (h_STO_STAT : P.regs R.STO_STAT.addr = true)
variable (h_SYS_BOOTCFG : P.regs R.SYS_BOOTCFG.addr = true) (h_SYS_BOOTSTAT : P.regs R.SYS_BOOTSTAT.addr = true)
variable (h_SYS_CLKSTAT : P.regs R.SYS_CLKSTAT.addr = true) (h_SYS_HARTENTRY : P.regs R.SYS_HARTENTRY.addr = true)
variable (h_SYS_HARTSTAT : P.regs R.SYS_HARTSTAT.addr = true) (h_SYS_PWRCTL : P.regs R.SYS_PWRCTL.addr = true)
variable (h_SYS_PWRSTAT : P.regs R.SYS_PWRSTAT.addr = true) (h_SYS_WAKESRC : P.regs R.SYS_WAKESRC.addr = true)
variable (h_THM_SSTAT : P.regs R.THM_SSTAT.addr = true) (h_TIM_STAT : P.regs R.TIM_STAT.addr = true)
variable (c_bil : P.bil = true) (c_busError : P.busError = true) (c_cans : P.cans = true) (c_cln : P.cln = true)
variable (c_dkl : P.dkl = true) (c_drawn : P.drawn = true) (c_est : P.est = true) (c_eth : P.eth = true)
variable (c_harts : P.harts = true) (c_host : P.host = true) (c_images : P.images = true) (c_lpe : P.lpe = true)
variable (c_lsw : P.lsw = true) (c_mem : P.mem = true) (c_mtr : P.mtr = true) (c_prt : P.prt = true)
variable (c_rng : P.rng = true) (c_sfy : P.sfy = true) (c_sig : P.sig = true) (c_sto : P.sto = true)
variable (c_sys : P.sys = true) (c_thm : P.thm = true) (c_time : P.time = true) (c_veh : P.veh = true)

include h_SIG_KSTAT h_SIG_LIMITH h_SIG_LIMITL c_sig in
theorem closingRecords_writes (s : State) :
    (closingRecords s).without P = s.without P := by
  unfold closingRecords
  simp (disch := (intros; (repeat' split) <;> simp only [State.without_upd_sig c_sig, writeReservation_writes (P := P) h_SIG_KSTAT h_SIG_LIMITH h_SIG_LIMITL c_sig, State.without_ite, ite_self]; done)) only [State.without_each, State.without_eachOf, State.without_upd_sig c_sig, writeReservation_writes (P := P) h_SIG_KSTAT h_SIG_LIMITH h_SIG_LIMITL c_sig, State.without_ite, ite_self]

include h_SIG_KSTAT h_SIG_LIMITH h_SIG_LIMITL c_est c_sig c_thm in
theorem closingWrites_writes (s : State) :
    (closingWrites s).without P = s.without P := by
  unfold closingWrites
  simp only [State.without_upd_est c_est, State.without_upd_sig c_sig, State.without_upd_thm c_thm,
      packRecords_writes (P := P) c_est, thermalRecord_writes (P := P) c_thm,
      closingRecords_writes (P := P) h_SIG_KSTAT h_SIG_LIMITH h_SIG_LIMITL c_sig, State.without_ite, ite_self]

include h_EST_CHG h_EST_DIS h_EST_SOCE c_est in
theorem counterStop_writes (k : Nat) (s : State) :
    (counterStop k s).without P = s.without P := by
  unfold counterStop
  simp only [State.w_setFM (r := R.EST_DIS) h_EST_DIS (by decide),
      State.w_setFM (r := R.EST_CHG) h_EST_CHG (by decide),
      State.w_setF (fl := Fl.EST_SOCE_STATE) h_EST_SOCE (by decide),
      State.w_setReg (r := R.EST_DIS) h_EST_DIS (by decide), State.w_setReg (r := R.EST_CHG) h_EST_CHG (by decide),
      State.without_upd_est c_est, State.setPk_writes (P := P) c_est, State.without_ite, ite_self]

include h_EST_CHG h_EST_DIS h_EST_SOCE c_est in
theorem stringCountersStop_writes (s : State) :
    (stringCountersStop s).without P = s.without P := by
  unfold stringCountersStop
  simp (disch := (intros; simp only [State.without_upd_est c_est, counterStop_writes (P := P) h_EST_CHG h_EST_DIS h_EST_SOCE c_est, State.without_ite, ite_self]; done)) only [State.without_each, State.without_eachOf, State.without_upd_est c_est, counterStop_writes (P := P) h_EST_CHG h_EST_DIS h_EST_SOCE c_est, State.without_ite, ite_self]

include h_CAN_CTL h_CAN_STAT h_CAN_TXEVA h_CAN_TXEVB h_CAN_TXSTAT h_CLN_CELLST h_CLN_LANESTAT h_CLN_STAT h_DKL_CTL
    h_DKL_STAT h_DKL_TXEV h_DKL_TXSTAT h_EST_CHG h_EST_DIS h_EST_SOCE h_ETH_CTL h_ETH_STAT h_ETH_TXHEAD h_EVT_PEND h_RNG_LINK h_SIG_KSTAT h_SIG_LIMITH h_SIG_LIMITL c_cans c_cln c_dkl c_drawn c_est c_eth c_harts c_lpe c_mem c_rng c_sig c_sys c_thm c_veh in
theorem commitPoint_writes (s : State) :
    (commitPoint s).without P = s.without P := by
  unfold commitPoint
  (repeat' split) <;> simp only [State.without_upd_cans c_cans, State.without_upd_cln c_cln,
      State.without_upd_dkl c_dkl, State.without_upd_drawn c_drawn, State.without_upd_est c_est,
      State.without_upd_eth c_eth, State.without_upd_harts c_harts, State.without_upd_lpe c_lpe,
      State.without_upd_mem c_mem, State.without_upd_rng c_rng, State.without_upd_sig c_sig,
      State.without_upd_sys c_sys, State.without_upd_thm c_thm, State.without_upd_veh c_veh,
      engineStop_writes (P := P) c_lpe,
      portsStop_writes (P := P) h_CAN_CTL h_CAN_STAT h_CAN_TXEVA h_CAN_TXEVB h_CAN_TXSTAT h_CLN_CELLST h_CLN_LANESTAT h_CLN_STAT h_DKL_CTL h_DKL_STAT h_DKL_TXEV h_DKL_TXSTAT h_ETH_CTL h_ETH_STAT h_ETH_TXHEAD h_EVT_PEND h_RNG_LINK c_cans c_cln c_dkl c_drawn c_eth c_harts c_mem c_rng c_veh, stringCountersStop_writes (P := P) h_EST_CHG h_EST_DIS h_EST_SOCE c_est, closingWrites_writes (P := P) h_SIG_KSTAT h_SIG_LIMITH h_SIG_LIMITL c_est c_sig c_thm, State.without_ite, ite_self]

include h_STO_STAT c_sto in
theorem emmcRestart_writes (s : State) :
    (emmcRestart s).without P = s.without P := by
  unfold emmcRestart
  simp only [State.w_setF (fl := Fl.STO_STAT_MODE) h_STO_STAT (by decide),
      State.w_setF (fl := Fl.STO_STAT_STATE) h_STO_STAT (by decide), State.without_upd_sto c_sto, State.without_ite,
      ite_self]

include h_TIM_STAT c_time in
theorem timeReload_writes (s : State) :
    (timeReload s).without P = s.without P := by
  unfold timeReload
  simp only [State.w_setB (fl := Fl.TIM_STAT_CALVALID) h_TIM_STAT (by decide), State.without_upd_time c_time,
      State.without_ite, ite_self]

include h_SYS_PWRCTL h_SYS_PWRSTAT h_SYS_WAKESRC c_sys in
theorem startCurrent_writes (p : Nat) (mA : Int) (s : State) :
    (startCurrent p mA s).without P = s.without P := by
  unfold startCurrent
  simp only [State.without_upd_sys c_sys, State.wake_writes (P := P) h_SYS_PWRCTL h_SYS_PWRSTAT h_SYS_WAKESRC c_sys,
      State.without_ite, ite_self]

include h_EST_STAT h_EVT_PEND in
theorem estCause_writes (j : Nat) (s : State) :
    (estCause j s).without P = s.without P := by
  unfold estCause
  simp only [State.w_causeOn (fl := Fl.EST_STAT_CAUSE) h_EVT_PEND h_EST_STAT (by decide), State.without_ite, ite_self]

include h_EST_CAP h_EST_CYCLES h_EST_IMP h_EST_PACKIDH h_EST_PACKIDL h_EST_QH h_EST_QL h_EST_SOC h_EST_SOCE
    h_EST_STAT h_EVT_PEND c_est in
theorem estBoot_writes (s : State) :
    (estBoot s).without P = s.without P := by
  have h1 : ∀ (k : Nat) (l : List (Nat × Word)) (s : State), (s.eachOf (packRegs k) fun e s =>
        match cellsFind l (e.1.addrAt e.2) with | none => s | some w => s.setReg e.1 e.2 w).without P = s.without P := by
    intro k l s
    have hr : ∀ e ∈ packRegs k, P.regs e.1.addr = true ∧ e.1.count ≤ 65536 := by
      intro e he
      simp only [packRegs, List.cons_append, List.nil_append, List.mem_cons, List.mem_map] at he
      rcases he with rfl | rfl | rfl | rfl | rfl | rfl | rfl | rfl | ⟨i, -, rfl⟩ <;> refine ⟨?_, by simp only; decide⟩ <;> assumption
    revert hr
    unfold State.eachOf
    generalize packRegs k = rs
    intro hr
    induction rs generalizing s with
    | nil => rfl
    | cons e rs ih =>
      simp only [List.foldl_cons]
      rw [ih _ fun x hx => hr x (List.mem_cons_of_mem _ hx)]
      split
      · rfl
      · exact State.w_setReg (hr e (List.mem_cons_self ..)).1 (hr e (List.mem_cons_self ..)).2 _ _ _
  unfold estBoot
  refine State.without_each (fun n s => ?_) s 9
  split
  · rw [State.setPk_writes (P := P) c_est, State.w_setF (fl := Fl.EST_SOCE_STATE) h_EST_SOCE (by decide)]
    exact h1 _ _ _
  · simp only [State.w_setF (fl := Fl.EST_SOCE_STATE) h_EST_SOCE (by decide),
      State.w_setFM (r := R.EST_CYCLES) h_EST_CYCLES (by decide),
      State.w_setFM (r := R.EST_CAP) h_EST_CAP (by decide),
      State.w_setReg (r := R.EST_CYCLES) h_EST_CYCLES (by decide),
      State.w_setReg (r := R.EST_CAP) h_EST_CAP (by decide),
      State.w_setReg (r := R.EST_PACKIDL) h_EST_PACKIDL (by decide),
      State.w_setReg (r := R.EST_PACKIDH) h_EST_PACKIDH (by decide),
      State.w_setReg (r := R.EST_SOC) h_EST_SOC (by decide), State.w_setReg (r := R.EST_SOCE) h_EST_SOCE (by decide),
      State.w_setReg (r := R.EST_QL) h_EST_QL (by decide), State.w_setReg (r := R.EST_QH) h_EST_QH (by decide),
      State.w_setReg (r := R.EST_CAP) h_EST_CAP (by decide),
      State.w_setReg (r := R.EST_CYCLES) h_EST_CYCLES (by decide),
      State.w_setReg (r := R.EST_IMP) h_EST_IMP (by decide), State.without_upd_est c_est,
      State.setPk_writes (P := P) c_est, estCause_writes (P := P) h_EST_STAT h_EVT_PEND, State.without_ite, ite_self]

include h_THM_SSTAT c_thm in
theorem thermalBoot_writes (s : State) :
    (thermalBoot s).without P = s.without P := by
  unfold thermalBoot
  (repeat' split) <;> simp (disch := (intros; simp only [State.w_setF (fl := Fl.THM_SSTAT_FAULT) h_THM_SSTAT (by decide), State.without_upd_thm c_thm, State.setTp_writes (P := P) c_thm, State.without_ite, ite_self]; done)) only [State.without_each, State.without_eachOf, State.w_setF (fl := Fl.THM_SSTAT_FAULT) h_THM_SSTAT (by decide), State.without_upd_thm c_thm, State.setTp_writes (P := P) c_thm, State.without_ite, ite_self]

include h_EVT_PEND h_SIG_DISCARD h_SIG_KSTAT h_SIG_NEXTH h_SIG_NEXTL h_SIG_STAT in
theorem keyBoot_writes (k : Nat) (s : State) :
    (keyBoot k s).without P = s.without P := by
  unfold keyBoot
  (repeat' split) <;> simp only [State.w_satFM (r := R.SIG_NEXTL) h_SIG_NEXTL (by decide),
      State.w_satFM (r := R.SIG_NEXTH) h_SIG_NEXTH (by decide),
      State.w_satF (fl := Fl.SIG_DISCARD_BLOCKS) h_SIG_DISCARD (by decide),
      State.w_setQ (lo := R.SIG_NEXTL) (hi := R.SIG_NEXTH) h_SIG_NEXTL h_SIG_NEXTH (by decide) (by decide),
      setKeyState_writes (P := P) h_SIG_KSTAT h_SIG_STAT, sigCause_writes (P := P) h_EVT_PEND h_SIG_STAT,
      State.without_ite, ite_self]

include h_EVT_PEND h_SIG_DISCARD h_SIG_KSTAT h_SIG_NEXTH h_SIG_NEXTL h_SIG_STAT c_sig in
theorem signBoot_writes (s : State) :
    (signBoot s).without P = s.without P := by
  unfold signBoot
  simp only [State.without_upd_sig c_sig,
      keyBoot_writes (P := P) h_EVT_PEND h_SIG_DISCARD h_SIG_KSTAT h_SIG_NEXTH h_SIG_NEXTL h_SIG_STAT,
      State.without_ite, ite_self]

include h_EST_CAP h_EST_CYCLES h_EST_IMP h_EST_PACKIDH h_EST_PACKIDL h_EST_QH h_EST_QL h_EST_SOC h_EST_SOCE
    h_EST_STAT h_EVT_PEND h_SIG_DISCARD h_SIG_KSTAT h_SIG_NEXTH h_SIG_NEXTL h_SIG_STAT h_THM_SSTAT c_est c_sig c_thm in
theorem blocksBoot_writes (s : State) :
    (blocksBoot s).without P = s.without P := by
  unfold blocksBoot
  simp only [State.without_upd_est c_est, State.without_upd_sig c_sig, State.without_upd_thm c_thm,
      estBoot_writes (P := P) h_EST_CAP h_EST_CYCLES h_EST_IMP h_EST_PACKIDH h_EST_PACKIDL h_EST_QH h_EST_QL h_EST_SOC h_EST_SOCE h_EST_STAT h_EVT_PEND c_est, thermalBoot_writes (P := P) h_THM_SSTAT c_thm, signBoot_writes (P := P) h_EVT_PEND h_SIG_DISCARD h_SIG_KSTAT h_SIG_NEXTH h_SIG_NEXTL h_SIG_STAT c_sig, State.without_ite, ite_self]

include h_SYS_HARTENTRY in
theorem setEntries_writes (s : State) :
    (setEntries s).without P = s.without P := by
  unfold setEntries
  simp (disch := (intros; simp only [State.w_setReg (r := R.SYS_HARTENTRY) h_SYS_HARTENTRY (by decide), State.without_ite, ite_self]; done)) only [State.without_each, State.without_eachOf, State.w_setReg (r := R.SYS_HARTENTRY) h_SYS_HARTENTRY (by decide), State.without_ite, ite_self]

include c_images in
theorem writeSeal_writes (l : List SealRange) (s : State) :
    (writeSeal l s).without P = s.without P := by
  unfold writeSeal
  simp only [State.without_upd_images c_images, State.without_ite, ite_self]

include c_lpe in
theorem kernelBytes_writes (a : Nat) (l : List Byte) (s : State) :
    (kernelBytes a l s).without P = s.without P := by
  fun_induction kernelBytes a l s <;> simp_all only [State.without_upd_lpe c_lpe]

include c_harts c_images c_lpe c_mem in
theorem placeSegment_writes (b : List Byte) (g : Segment) (s : State) :
    (placeSegment b g s).without P = s.without P := by
  unfold placeSegment
  (repeat' split) <;> simp only [State.without_upd_harts c_harts, State.without_upd_images c_images,
      State.without_upd_lpe c_lpe, State.without_upd_mem c_mem, State.dma_writes (P := P) c_harts c_mem,
      kernelBytes_writes (P := P) c_lpe, State.setBytes_writes (P := P) c_mem, State.without_ite, ite_self]

include c_harts c_images c_lpe c_mem in
theorem placeSegments_writes (b : List Byte) (s : State) :
    (placeSegments b s).without P = s.without P := by
  unfold placeSegments
  simp (disch := (intros; simp only [State.without_upd_harts c_harts, State.without_upd_images c_images, State.without_upd_lpe c_lpe, State.without_upd_mem c_mem, placeSegment_writes (P := P) c_harts c_images c_lpe c_mem, State.without_ite, ite_self]; done)) only [State.without_each, State.without_eachOf, State.without_upd_harts c_harts, State.without_upd_images c_images, State.without_upd_lpe c_lpe, State.without_upd_mem c_mem, placeSegment_writes (P := P) c_harts c_images c_lpe c_mem, State.without_ite, ite_self]

include c_harts c_images c_lpe c_mem in
theorem placeBoot_writes (b : List Byte) (s : State) :
    (placeBoot b s).without P = s.without P := by
  unfold placeBoot
  simp only [State.without_upd_harts c_harts, State.without_upd_images c_images, State.without_upd_lpe c_lpe,
      State.without_upd_mem c_mem, writeSeal_writes (P := P) c_images,
      placeSegments_writes (P := P) c_harts c_images c_lpe c_mem, State.without_ite, ite_self]

include h_SYS_PWRSTAT c_images c_sfy in
theorem stowShroud_writes (s : State) :
    (stowShroud s).without P = s.without P := by
  unfold stowShroud
  simp only [State.w_setB (fl := Fl.SYS_PWRSTAT_SFYRDY) h_SYS_PWRSTAT (by decide),
      State.without_upd_images_sfy c_images c_sfy, State.without_upd_images c_images, State.without_upd_sfy c_sfy,
      State.without_ite, ite_self]

include h_BIL_ADAY h_BIL_ARCH h_BIL_ASEA0 h_BIL_ASEA1 h_BIL_ASPEC h_BIL_AWEEK0 h_BIL_AWEEK1 h_BIL_DLAST h_BIL_DMAX0
    h_BIL_DMAX1 h_BIL_DPREV0 h_BIL_DPREV1 h_BIL_EBASE0H h_BIL_EBASE0L h_BIL_EBASE1H h_BIL_EBASE1L h_BIL_ISEQ h_BIL_KOFFH h_BIL_KOFFL h_BIL_NEXTH h_BIL_NEXTL h_BIL_SPAN0 h_BIL_SPAN1 h_BIL_STAT h_BIL_TCOUNT h_BIL_TDELH h_BIL_TDELL h_BIL_TFIRSTH h_BIL_TFIRSTL h_BIL_TLASTH h_BIL_TLASTL h_BIL_TRECH h_BIL_TRECL h_EVT_PEND h_MTR_STAT h_SIG_KSTAT h_SIG_LIMITH h_SIG_LIMITL h_SIG_NEXTH h_SIG_NEXTL h_SIG_PUB h_SIG_STAT c_bil c_mtr c_rng c_sig in
theorem boundaryReplay_writes (s : State) :
    (boundaryReplay s).without P = s.without P := by
  unfold boundaryReplay
  (repeat' split) <;> simp only [State.without_upd_bil c_bil, State.without_upd_mtr c_mtr,
      State.without_upd_rng c_rng, State.without_upd_sig c_sig,
      tamper_writes (P := P) h_BIL_STAT h_BIL_TCOUNT h_BIL_TFIRSTH h_BIL_TFIRSTL h_BIL_TLASTH h_BIL_TLASTL h_EVT_PEND, bilCause_writes (P := P) h_BIL_STAT h_EVT_PEND, processSlot_writes (P := P) h_BIL_ADAY h_BIL_ARCH h_BIL_ASEA0 h_BIL_ASEA1 h_BIL_ASPEC h_BIL_AWEEK0 h_BIL_AWEEK1 h_BIL_DLAST h_BIL_DMAX0 h_BIL_DMAX1 h_BIL_DPREV0 h_BIL_DPREV1 h_BIL_EBASE0H h_BIL_EBASE0L h_BIL_EBASE1H h_BIL_EBASE1L h_BIL_ISEQ h_BIL_KOFFH h_BIL_KOFFL h_BIL_NEXTH h_BIL_NEXTL h_BIL_SPAN0 h_BIL_SPAN1 h_BIL_STAT h_BIL_TCOUNT h_BIL_TDELH h_BIL_TDELL h_BIL_TFIRSTH h_BIL_TFIRSTL h_BIL_TLASTH h_BIL_TLASTL h_BIL_TRECH h_BIL_TRECL h_EVT_PEND h_MTR_STAT h_SIG_KSTAT h_SIG_LIMITH h_SIG_LIMITL h_SIG_NEXTH h_SIG_NEXTL h_SIG_PUB h_SIG_STAT c_bil c_mtr c_rng c_sig, State.without_ite, ite_self]

include h_BIL_ADAY h_BIL_ARCH h_BIL_ASEA0 h_BIL_ASEA1 h_BIL_ASPEC h_BIL_AWEEK0 h_BIL_AWEEK1 h_BIL_DLAST h_BIL_DMAX0
    h_BIL_DMAX1 h_BIL_DPREV0 h_BIL_DPREV1 h_BIL_EBASE0H h_BIL_EBASE0L h_BIL_EBASE1H h_BIL_EBASE1L h_BIL_ISEQ h_BIL_KOFFH h_BIL_KOFFL h_BIL_NEXTH h_BIL_NEXTL h_BIL_SPAN0 h_BIL_SPAN1 h_BIL_STAT h_BIL_TCOUNT h_BIL_TDELH h_BIL_TDELL h_BIL_TFIRSTH h_BIL_TFIRSTL h_BIL_TLASTH h_BIL_TLASTL h_BIL_TRECH h_BIL_TRECL h_EVT_PEND h_MTR_STAT h_SIG_KSTAT h_SIG_LIMITH h_SIG_LIMITL h_SIG_NEXTH h_SIG_NEXTL h_SIG_PUB h_SIG_STAT c_bil c_mtr c_rng c_sig in
theorem latchedBoundaries_writes (s : State) :
    (latchedBoundaries s).without P = s.without P := by
  unfold latchedBoundaries
  simp (disch := (intros; simp only [State.without_upd_bil c_bil, State.without_upd_mtr c_mtr, State.without_upd_rng c_rng, State.without_upd_sig c_sig, processSlot_writes (P := P) h_BIL_ADAY h_BIL_ARCH h_BIL_ASEA0 h_BIL_ASEA1 h_BIL_ASPEC h_BIL_AWEEK0 h_BIL_AWEEK1 h_BIL_DLAST h_BIL_DMAX0 h_BIL_DMAX1 h_BIL_DPREV0 h_BIL_DPREV1 h_BIL_EBASE0H h_BIL_EBASE0L h_BIL_EBASE1H h_BIL_EBASE1L h_BIL_ISEQ h_BIL_KOFFH h_BIL_KOFFL h_BIL_NEXTH h_BIL_NEXTL h_BIL_SPAN0 h_BIL_SPAN1 h_BIL_STAT h_BIL_TCOUNT h_BIL_TDELH h_BIL_TDELL h_BIL_TFIRSTH h_BIL_TFIRSTL h_BIL_TLASTH h_BIL_TLASTL h_BIL_TRECH h_BIL_TRECL h_EVT_PEND h_MTR_STAT h_SIG_KSTAT h_SIG_LIMITH h_SIG_LIMITL h_SIG_NEXTH h_SIG_NEXTL h_SIG_PUB h_SIG_STAT c_bil c_mtr c_rng c_sig, State.without_ite, ite_self]; done)) only [State.without_each, State.without_eachOf, State.without_upd_bil c_bil, State.without_upd_mtr c_mtr, State.without_upd_rng c_rng, State.without_upd_sig c_sig, processSlot_writes (P := P) h_BIL_ADAY h_BIL_ARCH h_BIL_ASEA0 h_BIL_ASEA1 h_BIL_ASPEC h_BIL_AWEEK0 h_BIL_AWEEK1 h_BIL_DLAST h_BIL_DMAX0 h_BIL_DMAX1 h_BIL_DPREV0 h_BIL_DPREV1 h_BIL_EBASE0H h_BIL_EBASE0L h_BIL_EBASE1H h_BIL_EBASE1L h_BIL_ISEQ h_BIL_KOFFH h_BIL_KOFFL h_BIL_NEXTH h_BIL_NEXTL h_BIL_SPAN0 h_BIL_SPAN1 h_BIL_STAT h_BIL_TCOUNT h_BIL_TDELH h_BIL_TDELL h_BIL_TFIRSTH h_BIL_TFIRSTL h_BIL_TLASTH h_BIL_TLASTL h_BIL_TRECH h_BIL_TRECL h_EVT_PEND h_MTR_STAT h_SIG_KSTAT h_SIG_LIMITH h_SIG_LIMITL h_SIG_NEXTH h_SIG_NEXTL h_SIG_PUB h_SIG_STAT c_bil c_mtr c_rng c_sig, State.without_ite, ite_self]

include c_bil in
theorem pushSlot_writes (x : BilSlot) (s : State) :
    (pushSlot x s).without P = s.without P := by
  unfold pushSlot
  simp only [State.without_upd_bil c_bil, State.without_ite, ite_self]

include h_BIL_ADAY h_BIL_ARCH h_BIL_ASEA0 h_BIL_ASEA1 h_BIL_ASPEC h_BIL_AWEEK0 h_BIL_AWEEK1 h_BIL_DLAST h_BIL_DMAX0
    h_BIL_DMAX1 h_BIL_DPREV0 h_BIL_DPREV1 h_BIL_EBASE0H h_BIL_EBASE0L h_BIL_EBASE1H h_BIL_EBASE1L h_BIL_ISEQ h_BIL_KOFFH h_BIL_KOFFL h_BIL_NEXTH h_BIL_NEXTL h_BIL_SPAN0 h_BIL_SPAN1 h_BIL_STAT h_BIL_TCOUNT h_BIL_TDELH h_BIL_TDELL h_BIL_TFIRSTH h_BIL_TFIRSTL h_BIL_TLASTH h_BIL_TLASTL h_BIL_TRECH h_BIL_TRECL h_EVT_PEND h_MTR_STAT h_SIG_KSTAT h_SIG_LIMITH h_SIG_LIMITL h_SIG_NEXTH h_SIG_NEXTL h_SIG_PUB h_SIG_STAT c_bil c_mtr c_rng c_sig in
theorem restartSettle_writes (warm : Bool) (cause : Nat) (s : State) :
    (restartSettle warm cause s).without P = s.without P := by
  unfold restartSettle
  simp only [State.without_upd_bil c_bil, State.without_upd_mtr c_mtr, State.without_upd_rng c_rng,
      State.without_upd_sig c_sig,
      tamper_writes (P := P) h_BIL_STAT h_BIL_TCOUNT h_BIL_TFIRSTH h_BIL_TFIRSTL h_BIL_TLASTH h_BIL_TLASTL h_EVT_PEND, schedule_writes (P := P) h_BIL_NEXTH h_BIL_NEXTL c_bil c_mtr, boundaryReplay_writes (P := P) h_BIL_ADAY h_BIL_ARCH h_BIL_ASEA0 h_BIL_ASEA1 h_BIL_ASPEC h_BIL_AWEEK0 h_BIL_AWEEK1 h_BIL_DLAST h_BIL_DMAX0 h_BIL_DMAX1 h_BIL_DPREV0 h_BIL_DPREV1 h_BIL_EBASE0H h_BIL_EBASE0L h_BIL_EBASE1H h_BIL_EBASE1L h_BIL_ISEQ h_BIL_KOFFH h_BIL_KOFFL h_BIL_NEXTH h_BIL_NEXTL h_BIL_SPAN0 h_BIL_SPAN1 h_BIL_STAT h_BIL_TCOUNT h_BIL_TDELH h_BIL_TDELL h_BIL_TFIRSTH h_BIL_TFIRSTL h_BIL_TLASTH h_BIL_TLASTL h_BIL_TRECH h_BIL_TRECL h_EVT_PEND h_MTR_STAT h_SIG_KSTAT h_SIG_LIMITH h_SIG_LIMITL h_SIG_NEXTH h_SIG_NEXTL h_SIG_PUB h_SIG_STAT c_bil c_mtr c_rng c_sig, latchedBoundaries_writes (P := P) h_BIL_ADAY h_BIL_ARCH h_BIL_ASEA0 h_BIL_ASEA1 h_BIL_ASPEC h_BIL_AWEEK0 h_BIL_AWEEK1 h_BIL_DLAST h_BIL_DMAX0 h_BIL_DMAX1 h_BIL_DPREV0 h_BIL_DPREV1 h_BIL_EBASE0H h_BIL_EBASE0L h_BIL_EBASE1H h_BIL_EBASE1L h_BIL_ISEQ h_BIL_KOFFH h_BIL_KOFFL h_BIL_NEXTH h_BIL_NEXTL h_BIL_SPAN0 h_BIL_SPAN1 h_BIL_STAT h_BIL_TCOUNT h_BIL_TDELH h_BIL_TDELL h_BIL_TFIRSTH h_BIL_TFIRSTL h_BIL_TLASTH h_BIL_TLASTL h_BIL_TRECH h_BIL_TRECL h_EVT_PEND h_MTR_STAT h_SIG_KSTAT h_SIG_LIMITH h_SIG_LIMITL h_SIG_NEXTH h_SIG_NEXTL h_SIG_PUB h_SIG_STAT c_bil c_mtr c_rng c_sig, State.work_writes (P := P) c_bil, pushSlot_writes (P := P) c_bil, State.without_when_if, State.without_ite, ite_self]

include h_MTR_EEXPH h_MTR_EEXPL h_MTR_EIMPH h_MTR_EIMPL h_MTR_XEXP h_MTR_XIMP c_mtr in
theorem showGrid_writes (imp : Nat) (exp : Nat) (s : State) :
    (showGrid imp exp s).without P = s.without P := by
  unfold showGrid
  simp only [State.w_setF (fl := Fl.MTR_XEXP_XEXP) h_MTR_XEXP (by decide),
      State.w_setF (fl := Fl.MTR_XIMP_XIMP) h_MTR_XIMP (by decide),
      State.w_setFM (r := R.MTR_EEXPL) h_MTR_EEXPL (by decide),
      State.w_setFM (r := R.MTR_EEXPH) h_MTR_EEXPH (by decide),
      State.w_setFM (r := R.MTR_EIMPL) h_MTR_EIMPL (by decide),
      State.w_setFM (r := R.MTR_EIMPH) h_MTR_EIMPH (by decide),
      State.w_setQ (lo := R.MTR_EEXPL) (hi := R.MTR_EEXPH) h_MTR_EEXPL h_MTR_EEXPH (by decide) (by decide),
      State.w_setQ (lo := R.MTR_EIMPL) (hi := R.MTR_EIMPH) h_MTR_EIMPL h_MTR_EIMPH (by decide) (by decide),
      State.without_upd_mtr c_mtr, State.without_ite, ite_self]

include h_MTR_EDELH h_MTR_EDELL h_MTR_EEXPH h_MTR_EEXPL h_MTR_EIMPH h_MTR_EIMPL h_MTR_ERECH h_MTR_ERECL h_MTR_FOLD
    h_MTR_MSTAT h_MTR_PCNT h_MTR_RAWDELH h_MTR_RAWDELL h_MTR_RAWRECH h_MTR_RAWRECL h_MTR_XDEL h_MTR_XEXP h_MTR_XIMP h_MTR_XREC c_mtr in
theorem metersRestart_writes (newRun : Option Nat) (s : State) :
    (metersRestart newRun s).without P = s.without P := by
  unfold metersRestart
  (repeat' split) <;> simp (disch := (intros; simp only [State.w_setFM (r := R.MTR_RAWRECL) h_MTR_RAWRECL (by decide), State.w_setFM (r := R.MTR_RAWRECH) h_MTR_RAWRECH (by decide), State.w_setFM (r := R.MTR_RAWDELL) h_MTR_RAWDELL (by decide), State.w_setFM (r := R.MTR_RAWDELH) h_MTR_RAWDELH (by decide), State.w_setF (fl := Fl.MTR_MSTAT_GAP) h_MTR_MSTAT (by decide), State.w_setF (fl := Fl.MTR_PCNT_PCNT) h_MTR_PCNT (by decide), State.w_setF (fl := Fl.MTR_FOLD_SEQ) h_MTR_FOLD (by decide), State.w_setBM (r := R.MTR_RAWRECL) h_MTR_RAWRECL (by decide), State.w_setBM (r := R.MTR_RAWRECH) h_MTR_RAWRECH (by decide), State.w_setBM (r := R.MTR_RAWDELL) h_MTR_RAWDELL (by decide), State.w_setBM (r := R.MTR_RAWDELH) h_MTR_RAWDELH (by decide), State.w_setB (fl := Fl.MTR_MSTAT_GAP) h_MTR_MSTAT (by decide), State.w_setB (fl := Fl.MTR_PCNT_PCNT) h_MTR_PCNT (by decide), State.w_setB (fl := Fl.MTR_FOLD_SEQ) h_MTR_FOLD (by decide), State.w_setQ (lo := R.MTR_RAWRECL) (hi := R.MTR_RAWRECH) h_MTR_RAWRECL h_MTR_RAWRECH (by decide) (by decide), State.w_setQ (lo := R.MTR_RAWDELL) (hi := R.MTR_RAWDELH) h_MTR_RAWDELL h_MTR_RAWDELH (by decide) (by decide), State.without_upd_mtr c_mtr, showTotals_writes (P := P) h_MTR_EDELH h_MTR_EDELL h_MTR_ERECH h_MTR_ERECL h_MTR_XDEL h_MTR_XREC c_mtr, State.setMt_writes (P := P) c_mtr, showGrid_writes (P := P) h_MTR_EEXPH h_MTR_EEXPL h_MTR_EIMPH h_MTR_EIMPL h_MTR_XEXP h_MTR_XIMP c_mtr, State.without_ite, ite_self]; done)) only [State.without_each, State.without_eachOf, State.w_setFM (r := R.MTR_RAWRECL) h_MTR_RAWRECL (by decide), State.w_setFM (r := R.MTR_RAWRECH) h_MTR_RAWRECH (by decide), State.w_setFM (r := R.MTR_RAWDELL) h_MTR_RAWDELL (by decide), State.w_setFM (r := R.MTR_RAWDELH) h_MTR_RAWDELH (by decide), State.w_setF (fl := Fl.MTR_MSTAT_GAP) h_MTR_MSTAT (by decide), State.w_setF (fl := Fl.MTR_PCNT_PCNT) h_MTR_PCNT (by decide), State.w_setF (fl := Fl.MTR_FOLD_SEQ) h_MTR_FOLD (by decide), State.w_setBM (r := R.MTR_RAWRECL) h_MTR_RAWRECL (by decide), State.w_setBM (r := R.MTR_RAWRECH) h_MTR_RAWRECH (by decide), State.w_setBM (r := R.MTR_RAWDELL) h_MTR_RAWDELL (by decide), State.w_setBM (r := R.MTR_RAWDELH) h_MTR_RAWDELH (by decide), State.w_setB (fl := Fl.MTR_MSTAT_GAP) h_MTR_MSTAT (by decide), State.w_setB (fl := Fl.MTR_PCNT_PCNT) h_MTR_PCNT (by decide), State.w_setB (fl := Fl.MTR_FOLD_SEQ) h_MTR_FOLD (by decide), State.w_setQ (lo := R.MTR_RAWRECL) (hi := R.MTR_RAWRECH) h_MTR_RAWRECL h_MTR_RAWRECH (by decide) (by decide), State.w_setQ (lo := R.MTR_RAWDELL) (hi := R.MTR_RAWDELH) h_MTR_RAWDELL h_MTR_RAWDELH (by decide) (by decide), State.without_upd_mtr c_mtr, showTotals_writes (P := P) h_MTR_EDELH h_MTR_EDELL h_MTR_ERECH h_MTR_ERECL h_MTR_XDEL h_MTR_XREC c_mtr, State.setMt_writes (P := P) c_mtr, showGrid_writes (P := P) h_MTR_EEXPH h_MTR_EEXPL h_MTR_EIMPH h_MTR_EIMPL h_MTR_XEXP h_MTR_XIMP c_mtr, State.without_ite, ite_self]

include h_BIL_ADAY h_BIL_ARCH h_BIL_ASEA0 h_BIL_ASEA1 h_BIL_ASPEC h_BIL_AWEEK0 h_BIL_AWEEK1 h_BIL_DLAST h_BIL_DMAX0
    h_BIL_DMAX1 h_BIL_DPREV0 h_BIL_DPREV1 h_BIL_EBASE0H h_BIL_EBASE0L h_BIL_EBASE1H h_BIL_EBASE1L h_BIL_ISEQ h_BIL_KOFFH h_BIL_KOFFL h_BIL_NEXTH h_BIL_NEXTL h_BIL_SPAN0 h_BIL_SPAN1 h_BIL_STAT h_BIL_TCOUNT h_BIL_TDELH h_BIL_TDELL h_BIL_TFIRSTH h_BIL_TFIRSTL h_BIL_TLASTH h_BIL_TLASTL h_BIL_TRECH h_BIL_TRECL h_EVT_PEND h_MTR_EDELH h_MTR_EDELL h_MTR_EEXPH h_MTR_EEXPL h_MTR_EIMPH h_MTR_EIMPL h_MTR_ERECH h_MTR_ERECL h_MTR_FOLD h_MTR_MSTAT h_MTR_PCNT h_MTR_RAWDELH h_MTR_RAWDELL h_MTR_RAWRECH h_MTR_RAWRECL h_MTR_STAT h_MTR_XDEL h_MTR_XEXP h_MTR_XIMP h_MTR_XREC h_SIG_KSTAT h_SIG_LIMITH h_SIG_LIMITL h_SIG_NEXTH h_SIG_NEXTL h_SIG_PUB h_SIG_STAT h_SYS_PWRSTAT c_bil c_mtr c_rng c_sig in
theorem stowAnalog_writes (s : State) :
    (stowAnalog s).without P = s.without P := by
  unfold stowAnalog
  simp only [State.w_setB (fl := Fl.SYS_PWRSTAT_ANARDY) h_SYS_PWRSTAT (by decide), State.without_upd_bil c_bil,
      State.without_upd_mtr c_mtr, State.without_upd_rng c_rng, State.without_upd_sig c_sig,
      restartSettle_writes (P := P) h_BIL_ADAY h_BIL_ARCH h_BIL_ASEA0 h_BIL_ASEA1 h_BIL_ASPEC h_BIL_AWEEK0 h_BIL_AWEEK1 h_BIL_DLAST h_BIL_DMAX0 h_BIL_DMAX1 h_BIL_DPREV0 h_BIL_DPREV1 h_BIL_EBASE0H h_BIL_EBASE0L h_BIL_EBASE1H h_BIL_EBASE1L h_BIL_ISEQ h_BIL_KOFFH h_BIL_KOFFL h_BIL_NEXTH h_BIL_NEXTL h_BIL_SPAN0 h_BIL_SPAN1 h_BIL_STAT h_BIL_TCOUNT h_BIL_TDELH h_BIL_TDELL h_BIL_TFIRSTH h_BIL_TFIRSTL h_BIL_TLASTH h_BIL_TLASTL h_BIL_TRECH h_BIL_TRECL h_EVT_PEND h_MTR_STAT h_SIG_KSTAT h_SIG_LIMITH h_SIG_LIMITL h_SIG_NEXTH h_SIG_NEXTL h_SIG_PUB h_SIG_STAT c_bil c_mtr c_rng c_sig, metersRestart_writes (P := P) h_MTR_EDELH h_MTR_EDELL h_MTR_EEXPH h_MTR_EEXPL h_MTR_EIMPH h_MTR_EIMPL h_MTR_ERECH h_MTR_ERECL h_MTR_FOLD h_MTR_MSTAT h_MTR_PCNT h_MTR_RAWDELH h_MTR_RAWDELL h_MTR_RAWRECH h_MTR_RAWRECL h_MTR_XDEL h_MTR_XEXP h_MTR_XIMP h_MTR_XREC c_mtr, State.without_ite, ite_self]

include h_HST_STAT c_sys in
theorem rstRelease_writes (bootsel : Nat) (hsel : Nat) (s : State) :
    (rstRelease bootsel hsel s).without P = s.without P := by
  unfold rstRelease
  simp only [State.without_upd_sys c_sys, sampleLands_writes (P := P) h_HST_STAT c_sys,
      releaseHeld_writes (P := P) c_sys, State.without_when_if, State.without_ite, ite_self]

include h_EVT_PEND c_sys in
theorem watchdogHalf_writes (s : State) :
    (watchdogHalf s).without P = s.without P := by
  unfold watchdogHalf
  simp only [State.without_raise h_EVT_PEND, State.without_upd_sys c_sys, State.without_ite, ite_self]

include c_sys in
theorem mramStep_writes (s : State) :
    (mramStep s).without P = s.without P := by
  unfold mramStep
  simp only [State.without_upd_sys c_sys, State.without_ite, ite_self]

include c_mem in
theorem clearSram_writes (s : State) :
    (clearSram s).without P = s.without P := by
  unfold clearSram
  simp only [State.without_upd_mem c_mem, State.without_ite, ite_self]

include c_sys in
theorem countTrial_writes (s : State) :
    (countTrial s).without P = s.without P := by
  unfold countTrial
  (repeat' split) <;> simp only [State.without_upd_sys c_sys, setImgSlot_writes (P := P) c_sys, State.without_ite,
      ite_self]

include h_SYS_BOOTCFG h_SYS_BOOTSTAT in
theorem showImage_writes (s : State) :
    (showImage s).without P = s.without P := by
  unfold showImage
  simp only [State.w_setF (fl := Fl.SYS_BOOTSTAT_SLOT) h_SYS_BOOTSTAT (by decide),
      State.w_setF (fl := Fl.SYS_BOOTSTAT_SOURCE) h_SYS_BOOTSTAT (by decide),
      State.w_setF (fl := Fl.SYS_BOOTCFG_CONFIRMED) h_SYS_BOOTCFG (by decide),
      State.w_setF (fl := Fl.SYS_BOOTSTAT_TRIAL) h_SYS_BOOTSTAT (by decide),
      State.w_setB (fl := Fl.SYS_BOOTSTAT_SLOT) h_SYS_BOOTSTAT (by decide),
      State.w_setB (fl := Fl.SYS_BOOTSTAT_SOURCE) h_SYS_BOOTSTAT (by decide),
      State.w_setB (fl := Fl.SYS_BOOTCFG_CONFIRMED) h_SYS_BOOTCFG (by decide),
      State.w_setB (fl := Fl.SYS_BOOTSTAT_TRIAL) h_SYS_BOOTSTAT (by decide), State.without_ite, ite_self]

include h_SYS_BOOTCFG h_SYS_BOOTSTAT c_mem c_sys in
theorem warmCompare_writes (s : State) :
    (warmCompare s).without P = s.without P := by
  unfold warmCompare
  simp only [State.w_setB (fl := Fl.SYS_BOOTSTAT_SFYPEND) h_SYS_BOOTSTAT (by decide),
      State.w_setB (fl := Fl.SYS_BOOTSTAT_WARMHASH) h_SYS_BOOTSTAT (by decide), State.without_upd_mem c_mem,
      State.without_upd_sys c_sys, mramStep_writes (P := P) c_sys, clearSram_writes (P := P) c_mem,
      countTrial_writes (P := P) c_sys, showImage_writes (P := P) h_SYS_BOOTCFG h_SYS_BOOTSTAT, State.without_ite,
      ite_self]

include h_HST_CQHEAD h_HST_CQTAIL h_HST_QCFG h_HST_QSTAT h_HST_SQHEAD h_HST_SQTAIL h_HST_STAT c_host in
theorem openBootQueue_writes (s : State) :
    (openBootQueue s).without P = s.without P := by
  unfold openBootQueue
  simp only [State.w_setB (fl := Fl.HST_QCFG_DEVOPS) h_HST_QCFG (by decide),
      State.w_setB (fl := Fl.HST_STAT_BOOTROM) h_HST_STAT (by decide), State.without_upd_host c_host,
      queueEnable_writes (P := P) h_HST_CQHEAD h_HST_CQTAIL h_HST_QCFG h_HST_QSTAT h_HST_SQHEAD h_HST_SQTAIL c_host,
      State.without_ite, ite_self]

include h_SFY_COIL h_SFY_PSTAT c_sfy in
theorem releasePoles_writes (p : Nat) (s : State) :
    (releasePoles p s).without P = s.without P := by
  unfold releasePoles
  simp only [State.w_setB (fl := Fl.SFY_PSTAT_STANDBY) h_SFY_PSTAT (by decide),
      State.w_setB (fl := Fl.SFY_PSTAT_NEGCMD) h_SFY_PSTAT (by decide),
      State.w_setB (fl := Fl.SFY_PSTAT_POSCMD) h_SFY_PSTAT (by decide), State.without_upd_sfy c_sfy,
      coilOff_writes (P := P) h_SFY_COIL, refreshPort_writes (P := P) h_SFY_PSTAT, State.setSp_writes (P := P) c_sfy,
      State.without_ite, ite_self]

include h_EVT_PEND h_HST_CQHEAD h_HST_CQTAIL h_HST_QCFG h_HST_QSTAT h_HST_SQHEAD h_HST_SQTAIL h_HST_STAT h_LSW_CHSTAT
    h_SFY_COIL h_SFY_PSTAT h_SYS_BOOTSTAT c_host c_lsw c_sfy c_sys in
theorem bootHold_writes (s : State) :
    (bootHold s).without P = s.without P := by
  unfold bootHold
  simp (disch := (intros; simp only [State.w_setB (fl := Fl.SYS_BOOTSTAT_HOLD) h_SYS_BOOTSTAT (by decide), State.without_raise h_EVT_PEND, State.without_upd_host c_host, State.without_upd_lsw c_lsw, State.without_upd_sfy c_sfy, State.without_upd_sys c_sys, coilOff_writes (P := P) h_SFY_COIL, releasePoles_writes (P := P) h_SFY_COIL h_SFY_PSTAT c_sfy, openBootQueue_writes (P := P) h_HST_CQHEAD h_HST_CQTAIL h_HST_QCFG h_HST_QSTAT h_HST_SQHEAD h_HST_SQTAIL h_HST_STAT c_host, lswAllOff_writes (P := P) h_LSW_CHSTAT c_lsw, State.without_ite, ite_self]; done)) only [State.without_each, State.without_eachOf, State.w_setB (fl := Fl.SYS_BOOTSTAT_HOLD) h_SYS_BOOTSTAT (by decide), State.without_raise h_EVT_PEND, State.without_upd_host c_host, State.without_upd_lsw c_lsw, State.without_upd_sfy c_sfy, State.without_upd_sys c_sys, coilOff_writes (P := P) h_SFY_COIL, releasePoles_writes (P := P) h_SFY_COIL h_SFY_PSTAT c_sfy, openBootQueue_writes (P := P) h_HST_CQHEAD h_HST_CQTAIL h_HST_QCFG h_HST_QSTAT h_HST_SQHEAD h_HST_SQTAIL h_HST_STAT c_host, lswAllOff_writes (P := P) h_LSW_CHSTAT c_lsw, State.without_ite, ite_self]

include h_EVT_PEND h_HST_CQHEAD h_HST_CQTAIL h_HST_QCFG h_HST_QSTAT h_HST_SQHEAD h_HST_SQTAIL h_HST_STAT h_LSW_CHSTAT
    h_SFY_COIL h_SFY_PSTAT h_SYS_BOOTSTAT c_host c_lsw c_sfy c_sys in
theorem tryHost_writes (s : State) :
    (tryHost s).without P = s.without P := by
  unfold tryHost
  simp only [State.without_upd_host c_host, State.without_upd_lsw c_lsw, State.without_upd_sfy c_sfy,
      State.without_upd_sys c_sys,
      openBootQueue_writes (P := P) h_HST_CQHEAD h_HST_CQTAIL h_HST_QCFG h_HST_QSTAT h_HST_SQHEAD h_HST_SQTAIL h_HST_STAT c_host, bootHold_writes (P := P) h_EVT_PEND h_HST_CQHEAD h_HST_CQTAIL h_HST_QCFG h_HST_QSTAT h_HST_SQHEAD h_HST_SQTAIL h_HST_STAT h_LSW_CHSTAT h_SFY_COIL h_SFY_PSTAT h_SYS_BOOTSTAT c_host c_lsw c_sfy c_sys, State.without_ite, ite_self]

include h_EVT_PEND h_HST_CQHEAD h_HST_CQTAIL h_HST_QCFG h_HST_QSTAT h_HST_SQHEAD h_HST_SQTAIL h_HST_STAT h_LSW_CHSTAT
    h_SFY_COIL h_SFY_PSTAT h_STO_STAT h_SYS_BOOTSTAT c_host c_lsw c_sfy c_sto c_sys in
theorem layoutCheck_writes (s : State) :
    (layoutCheck s).without P = s.without P := by
  unfold layoutCheck
  simp only [State.w_setB (fl := Fl.STO_STAT_LAYOUT) h_STO_STAT (by decide), State.without_upd_host c_host,
      State.without_upd_lsw c_lsw, State.without_upd_sfy c_sfy, State.without_upd_sto c_sto,
      State.without_upd_sys c_sys,
      bootHold_writes (P := P) h_EVT_PEND h_HST_CQHEAD h_HST_CQTAIL h_HST_QCFG h_HST_QSTAT h_HST_SQHEAD h_HST_SQTAIL h_HST_STAT h_LSW_CHSTAT h_SFY_COIL h_SFY_PSTAT h_SYS_BOOTSTAT c_host c_lsw c_sfy c_sys, stoCause_writes (P := P) h_EVT_PEND h_STO_STAT, State.without_ite, ite_self]

include h_SYS_BOOTSTAT in
theorem setRefuse_writes (k : Nat) (code : Nat) (s : State) :
    (setRefuse k code s).without P = s.without P := by
  unfold setRefuse
  split <;> simp only [State.w_setF (fl := Fl.SYS_BOOTSTAT_REFUSE_A) h_SYS_BOOTSTAT (by decide),
      State.w_setF (fl := Fl.SYS_BOOTSTAT_REFUSE_B) h_SYS_BOOTSTAT (by decide), State.without_ite, ite_self]

include h_EVT_PEND h_SYS_BOOTSTAT c_sys in
theorem refuseSlot_writes (k : Nat) (code : Nat) (s : State) :
    (refuseSlot k code s).without P = s.without P := by
  unfold refuseSlot
  simp only [State.without_raise h_EVT_PEND, State.without_upd_sys c_sys, setRefuse_writes (P := P) h_SYS_BOOTSTAT,
      State.without_ite, ite_self]

include h_EVT_PEND h_HST_CQHEAD h_HST_CQTAIL h_HST_QCFG h_HST_QSTAT h_HST_SQHEAD h_HST_SQTAIL h_HST_STAT h_LSW_CHSTAT
    h_SFY_COIL h_SFY_PSTAT h_SYS_BOOTSTAT c_host c_lsw c_sfy c_sys in
theorem fetchSlot_writes (l : List Nat) (s : State) :
    (fetchSlot l s).without P = s.without P := by
  induction l generalizing s with
  | nil => simp only [fetchSlot, State.without_upd_host c_host, State.without_upd_lsw c_lsw,
      State.without_upd_sfy c_sfy, State.without_upd_sys c_sys,
      tryHost_writes (P := P) h_EVT_PEND h_HST_CQHEAD h_HST_CQTAIL h_HST_QCFG h_HST_QSTAT h_HST_SQHEAD h_HST_SQTAIL h_HST_STAT h_LSW_CHSTAT h_SFY_COIL h_SFY_PSTAT h_SYS_BOOTSTAT c_host c_lsw c_sfy c_sys, refuseSlot_writes (P := P) h_EVT_PEND h_SYS_BOOTSTAT c_sys, setImgSlot_writes (P := P) c_sys, State.without_ite, ite_self]
  | cons k l ih =>
    unfold fetchSlot
    (try simp only [ih, State.without_upd_host c_host, State.without_upd_lsw c_lsw, State.without_upd_sfy c_sfy,
        State.without_upd_sys c_sys,
        tryHost_writes (P := P) h_EVT_PEND h_HST_CQHEAD h_HST_CQTAIL h_HST_QCFG h_HST_QSTAT h_HST_SQHEAD h_HST_SQTAIL h_HST_STAT h_LSW_CHSTAT h_SFY_COIL h_SFY_PSTAT h_SYS_BOOTSTAT c_host c_lsw c_sfy c_sys, refuseSlot_writes (P := P) h_EVT_PEND h_SYS_BOOTSTAT c_sys, setImgSlot_writes (P := P) c_sys, State.without_ite, ite_self]) <;> (repeat' split) <;> (try simp only [ih, State.without_upd_host c_host, State.without_upd_lsw c_lsw, State.without_upd_sfy c_sfy, State.without_upd_sys c_sys, tryHost_writes (P := P) h_EVT_PEND h_HST_CQHEAD h_HST_CQTAIL h_HST_QCFG h_HST_QSTAT h_HST_SQHEAD h_HST_SQTAIL h_HST_STAT h_LSW_CHSTAT h_SFY_COIL h_SFY_PSTAT h_SYS_BOOTSTAT c_host c_lsw c_sfy c_sys, refuseSlot_writes (P := P) h_EVT_PEND h_SYS_BOOTSTAT c_sys, setImgSlot_writes (P := P) c_sys, State.without_ite, ite_self])

include h_EVT_PEND h_HST_CQHEAD h_HST_CQTAIL h_HST_QCFG h_HST_QSTAT h_HST_SQHEAD h_HST_SQTAIL h_HST_STAT h_LSW_CHSTAT
    h_SFY_COIL h_SFY_PSTAT h_STO_STAT h_SYS_BOOTSTAT c_host c_lsw c_sfy c_sto c_sys in
theorem fetchImage_writes (s : State) :
    (fetchImage s).without P = s.without P := by
  unfold fetchImage
  (repeat' split) <;> simp only [State.without_upd_host c_host, State.without_upd_lsw c_lsw,
      State.without_upd_sfy c_sfy, State.without_upd_sto c_sto, State.without_upd_sys c_sys,
      tryHost_writes (P := P) h_EVT_PEND h_HST_CQHEAD h_HST_CQTAIL h_HST_QCFG h_HST_QSTAT h_HST_SQHEAD h_HST_SQTAIL h_HST_STAT h_LSW_CHSTAT h_SFY_COIL h_SFY_PSTAT h_SYS_BOOTSTAT c_host c_lsw c_sfy c_sys, layoutCheck_writes (P := P) h_EVT_PEND h_HST_CQHEAD h_HST_CQTAIL h_HST_QCFG h_HST_QSTAT h_HST_SQHEAD h_HST_SQTAIL h_HST_STAT h_LSW_CHSTAT h_SFY_COIL h_SFY_PSTAT h_STO_STAT h_SYS_BOOTSTAT c_host c_lsw c_sfy c_sto c_sys, fetchSlot_writes (P := P) h_EVT_PEND h_HST_CQHEAD h_HST_CQTAIL h_HST_QCFG h_HST_QSTAT h_HST_SQHEAD h_HST_SQTAIL h_HST_STAT h_LSW_CHSTAT h_SFY_COIL h_SFY_PSTAT h_SYS_BOOTSTAT c_host c_lsw c_sfy c_sys, State.without_ite, ite_self]

include h_EVT_PEND h_HST_CQHEAD h_HST_CQMEM h_HST_CQTAIL h_HST_OPSTAT h_HST_OPSTEPS h_HST_QCFG h_HST_QSTAT
    h_HST_SQHEAD h_HST_SQTAIL h_HST_STAT c_host c_sig in
theorem closeBootQueue_writes (s : State) :
    (closeBootQueue s).without P = s.without P := by
  unfold closeBootQueue
  simp (disch := (intros; simp only [State.w_setF (fl := Fl.HST_QSTAT_STATE) h_HST_QSTAT (by decide), State.w_setFM (r := R.HST_QCFG) h_HST_QCFG (by decide), State.w_setF (fl := Fl.HST_STAT_BOOTROM) h_HST_STAT (by decide), State.w_setB (fl := Fl.HST_QSTAT_STATE) h_HST_QSTAT (by decide), State.w_setBM (r := R.HST_QCFG) h_HST_QCFG (by decide), State.w_setB (fl := Fl.HST_STAT_BOOTROM) h_HST_STAT (by decide), State.w_setReg (r := R.HST_QCFG) h_HST_QCFG (by decide), State.without_upd_host c_host, State.without_upd_sig c_sig, completeThrough_writes (P := P) h_EVT_PEND h_HST_CQHEAD h_HST_CQMEM h_HST_CQTAIL h_HST_OPSTAT h_HST_OPSTEPS h_HST_QSTAT h_HST_SQHEAD h_HST_SQTAIL h_HST_STAT c_host c_sig, freeOp_writes (P := P) h_HST_CQHEAD h_HST_CQTAIL h_HST_OPSTAT h_HST_OPSTEPS h_HST_QSTAT h_HST_SQHEAD h_HST_SQTAIL h_HST_STAT c_host c_sig, queueSettle_writes (P := P) h_HST_CQHEAD h_HST_CQTAIL h_HST_QSTAT h_HST_SQHEAD h_HST_SQTAIL c_host, State.without_ite, ite_self]; done)) only [State.without_each, State.without_eachOf, State.w_setF (fl := Fl.HST_QSTAT_STATE) h_HST_QSTAT (by decide), State.w_setFM (r := R.HST_QCFG) h_HST_QCFG (by decide), State.w_setF (fl := Fl.HST_STAT_BOOTROM) h_HST_STAT (by decide), State.w_setB (fl := Fl.HST_QSTAT_STATE) h_HST_QSTAT (by decide), State.w_setBM (r := R.HST_QCFG) h_HST_QCFG (by decide), State.w_setB (fl := Fl.HST_STAT_BOOTROM) h_HST_STAT (by decide), State.w_setReg (r := R.HST_QCFG) h_HST_QCFG (by decide), State.without_upd_host c_host, State.without_upd_sig c_sig, completeThrough_writes (P := P) h_EVT_PEND h_HST_CQHEAD h_HST_CQMEM h_HST_CQTAIL h_HST_OPSTAT h_HST_OPSTEPS h_HST_QSTAT h_HST_SQHEAD h_HST_SQTAIL h_HST_STAT c_host c_sig, freeOp_writes (P := P) h_HST_CQHEAD h_HST_CQTAIL h_HST_OPSTAT h_HST_OPSTEPS h_HST_QSTAT h_HST_SQHEAD h_HST_SQTAIL h_HST_STAT c_host c_sig, queueSettle_writes (P := P) h_HST_CQHEAD h_HST_CQTAIL h_HST_QSTAT h_HST_SQHEAD h_HST_SQTAIL c_host, State.without_ite, ite_self]

include h_EVT_PEND h_HST_CQHEAD h_HST_CQMEM h_HST_CQTAIL h_HST_OPSTAT h_HST_OPSTEPS h_HST_QCFG h_HST_QSTAT
    h_HST_SQHEAD h_HST_SQTAIL h_HST_STAT h_LSW_CHSTAT h_SFY_COIL h_SFY_PSTAT h_SYS_BOOTCFG h_SYS_BOOTSTAT c_harts c_host c_images c_lpe c_lsw c_mem c_sfy c_sig c_sys in
theorem verifyImage_writes (s : State) :
    (verifyImage s).without P = s.without P := by
  unfold verifyImage
  (repeat' split) <;> simp only [State.w_setB (fl := Fl.SYS_BOOTSTAT_SFYPEND) h_SYS_BOOTSTAT (by decide),
      State.without_raise h_EVT_PEND, State.without_upd_sys_images c_sys c_images, State.without_upd_harts c_harts,
      State.without_upd_host c_host, State.without_upd_images c_images, State.without_upd_lpe c_lpe,
      State.without_upd_lsw c_lsw, State.without_upd_mem c_mem, State.without_upd_sfy c_sfy,
      State.without_upd_sig c_sig, State.without_upd_sys c_sys,
      refuseSlot_writes (P := P) h_EVT_PEND h_SYS_BOOTSTAT c_sys,
      bootHold_writes (P := P) h_EVT_PEND h_HST_CQHEAD h_HST_CQTAIL h_HST_QCFG h_HST_QSTAT h_HST_SQHEAD h_HST_SQTAIL h_HST_STAT h_LSW_CHSTAT h_SFY_COIL h_SFY_PSTAT h_SYS_BOOTSTAT c_host c_lsw c_sfy c_sys, setRefuse_writes (P := P) h_SYS_BOOTSTAT, closeBootQueue_writes (P := P) h_EVT_PEND h_HST_CQHEAD h_HST_CQMEM h_HST_CQTAIL h_HST_OPSTAT h_HST_OPSTEPS h_HST_QCFG h_HST_QSTAT h_HST_SQHEAD h_HST_SQTAIL h_HST_STAT c_host c_sig, placeBoot_writes (P := P) c_harts c_images c_lpe c_mem, countTrial_writes (P := P) c_sys, showImage_writes (P := P) h_SYS_BOOTCFG h_SYS_BOOTSTAT, State.without_ite, ite_self]

include h_EVT_PEND h_HST_CQHEAD h_HST_CQMEM h_HST_CQTAIL h_HST_OPSTAT h_HST_OPSTEPS h_HST_QCFG h_HST_QSTAT
    h_HST_SQHEAD h_HST_SQTAIL h_HST_STAT h_LSW_CHSTAT h_SFY_COIL h_SFY_PSTAT h_STO_STAT h_SYS_BOOTCFG h_SYS_BOOTSTAT h_SYS_CLKSTAT c_harts c_host c_images c_lpe c_lsw c_mem c_sfy c_sig c_sto c_sys in
theorem mainStepEnd_writes (s : State) :
    (mainStepEnd s).without P = s.without P := by
  unfold mainStepEnd
  (repeat' split) <;> simp only [State.w_setB (fl := Fl.SYS_CLKSTAT_BACKUP) h_SYS_CLKSTAT (by decide),
      State.w_setB (fl := Fl.SYS_CLKSTAT_LOCK) h_SYS_CLKSTAT (by decide), State.without_upd_harts c_harts,
      State.without_upd_host c_host, State.without_upd_images c_images, State.without_upd_lpe c_lpe,
      State.without_upd_lsw c_lsw, State.without_upd_mem c_mem, State.without_upd_sfy c_sfy,
      State.without_upd_sig c_sig, State.without_upd_sto c_sto, State.without_upd_sys c_sys,
      warmCompare_writes (P := P) h_SYS_BOOTCFG h_SYS_BOOTSTAT c_mem c_sys, mramStep_writes (P := P) c_sys,
      clearSram_writes (P := P) c_mem,
      fetchImage_writes (P := P) h_EVT_PEND h_HST_CQHEAD h_HST_CQTAIL h_HST_QCFG h_HST_QSTAT h_HST_SQHEAD h_HST_SQTAIL h_HST_STAT h_LSW_CHSTAT h_SFY_COIL h_SFY_PSTAT h_STO_STAT h_SYS_BOOTSTAT c_host c_lsw c_sfy c_sto c_sys, verifyImage_writes (P := P) h_EVT_PEND h_HST_CQHEAD h_HST_CQMEM h_HST_CQTAIL h_HST_OPSTAT h_HST_OPSTEPS h_HST_QCFG h_HST_QSTAT h_HST_SQHEAD h_HST_SQTAIL h_HST_STAT h_LSW_CHSTAT h_SFY_COIL h_SFY_PSTAT h_SYS_BOOTCFG h_SYS_BOOTSTAT c_harts c_host c_images c_lpe c_lsw c_mem c_sfy c_sig c_sys, State.without_ite, ite_self]

include h_EVT_PEND h_HST_CQHEAD h_HST_CQMEM h_HST_CQTAIL h_HST_OPSTAT h_HST_OPSTEPS h_HST_QCFG h_HST_QSTAT
    h_HST_SQHEAD h_HST_SQTAIL h_HST_STAT h_LSW_CHSTAT h_SFY_COIL h_SFY_PSTAT h_STO_STAT h_SYS_BOOTCFG h_SYS_BOOTSTAT h_SYS_CLKSTAT c_harts c_host c_images c_lpe c_lsw c_mem c_sfy c_sig c_sto c_sys in
theorem bootStepEnd_writes (t : Track) (s : State) :
    (bootStepEnd t s).without P = s.without P := by
  unfold bootStepEnd
  (repeat' split) <;> simp only [State.without_upd_sys_images_sfy c_sys c_images c_sfy,
      State.without_upd_harts c_harts, State.without_upd_host c_host, State.without_upd_images c_images,
      State.without_upd_lpe c_lpe, State.without_upd_lsw c_lsw, State.without_upd_mem c_mem,
      State.without_upd_sfy c_sfy, State.without_upd_sig c_sig, State.without_upd_sto c_sto,
      State.without_upd_sys c_sys,
      mainStepEnd_writes (P := P) h_EVT_PEND h_HST_CQHEAD h_HST_CQMEM h_HST_CQTAIL h_HST_OPSTAT h_HST_OPSTEPS h_HST_QCFG h_HST_QSTAT h_HST_SQHEAD h_HST_SQTAIL h_HST_STAT h_LSW_CHSTAT h_SFY_COIL h_SFY_PSTAT h_STO_STAT h_SYS_BOOTCFG h_SYS_BOOTSTAT h_SYS_CLKSTAT c_harts c_host c_images c_lpe c_lsw c_mem c_sfy c_sig c_sto c_sys, State.without_ite, ite_self]

include c_sys in
theorem bootResume_writes (s : State) :
    (bootResume s).without P = s.without P := by
  unfold bootResume
  simp only [State.without_upd_sys c_sys, State.without_ite, ite_self]

include h_BIL_ADAY h_BIL_ARCH h_BIL_ASEA0 h_BIL_ASEA1 h_BIL_ASPEC h_BIL_AWEEK0 h_BIL_AWEEK1 h_BIL_DLAST h_BIL_DMAX0
    h_BIL_DMAX1 h_BIL_DPREV0 h_BIL_DPREV1 h_BIL_EBASE0H h_BIL_EBASE0L h_BIL_EBASE1H h_BIL_EBASE1L h_BIL_ISEQ h_BIL_KOFFH h_BIL_KOFFL h_BIL_NEXTH h_BIL_NEXTL h_BIL_SPAN0 h_BIL_SPAN1 h_BIL_STAT h_BIL_TCOUNT h_BIL_TDELH h_BIL_TDELL h_BIL_TFIRSTH h_BIL_TFIRSTL h_BIL_TLASTH h_BIL_TLASTL h_BIL_TRECH h_BIL_TRECL h_EST_CAP h_EST_CYCLES h_EST_IMP h_EST_PACKIDH h_EST_PACKIDL h_EST_QH h_EST_QL h_EST_SOC h_EST_SOCE h_EST_STAT h_EVT_PEND h_MTR_EDELH h_MTR_EDELL h_MTR_EEXPH h_MTR_EEXPL h_MTR_EIMPH h_MTR_EIMPL h_MTR_ERECH h_MTR_ERECL h_MTR_FOLD h_MTR_MSTAT h_MTR_PCNT h_MTR_RAWDELH h_MTR_RAWDELL h_MTR_RAWRECH h_MTR_RAWRECL h_MTR_STAT h_MTR_XDEL h_MTR_XEXP h_MTR_XIMP h_MTR_XREC h_SIG_DISCARD h_SIG_KSTAT h_SIG_LIMITH h_SIG_LIMITL h_SIG_NEXTH h_SIG_NEXTL h_SIG_PUB h_SIG_STAT h_SYS_HARTENTRY h_SYS_HARTSTAT h_SYS_PWRSTAT h_THM_SSTAT h_TIM_STAT c_bil c_est c_harts c_mtr c_rng c_sig c_sys c_thm c_time in
theorem bootJoin_writes (s : State) :
    (bootJoin s).without P = s.without P := by
  unfold bootJoin
  simp only [State.w_setB (fl := Fl.SYS_PWRSTAT_ANARDY) h_SYS_PWRSTAT (by decide),
      State.w_setB (fl := Fl.SYS_PWRSTAT_SFYRDY) h_SYS_PWRSTAT (by decide),
      State.w_setB (fl := Fl.SYS_PWRSTAT_IMGRDY) h_SYS_PWRSTAT (by decide), State.without_upd_bil c_bil,
      State.without_upd_est c_est, State.without_upd_harts c_harts, State.without_upd_mtr c_mtr,
      State.without_upd_rng c_rng, State.without_upd_sig c_sig, State.without_upd_sys c_sys,
      State.without_upd_thm c_thm, State.without_upd_time c_time,
      metersRestart_writes (P := P) h_MTR_EDELH h_MTR_EDELL h_MTR_EEXPH h_MTR_EEXPL h_MTR_EIMPH h_MTR_EIMPL h_MTR_ERECH h_MTR_ERECL h_MTR_FOLD h_MTR_MSTAT h_MTR_PCNT h_MTR_RAWDELH h_MTR_RAWDELL h_MTR_RAWRECH h_MTR_RAWRECL h_MTR_XDEL h_MTR_XEXP h_MTR_XIMP h_MTR_XREC c_mtr, timeReload_writes (P := P) h_TIM_STAT c_time, blocksBoot_writes (P := P) h_EST_CAP h_EST_CYCLES h_EST_IMP h_EST_PACKIDH h_EST_PACKIDL h_EST_QH h_EST_QL h_EST_SOC h_EST_SOCE h_EST_STAT h_EVT_PEND h_SIG_DISCARD h_SIG_KSTAT h_SIG_NEXTH h_SIG_NEXTL h_SIG_STAT h_THM_SSTAT c_est c_sig c_thm, restartSettle_writes (P := P) h_BIL_ADAY h_BIL_ARCH h_BIL_ASEA0 h_BIL_ASEA1 h_BIL_ASPEC h_BIL_AWEEK0 h_BIL_AWEEK1 h_BIL_DLAST h_BIL_DMAX0 h_BIL_DMAX1 h_BIL_DPREV0 h_BIL_DPREV1 h_BIL_EBASE0H h_BIL_EBASE0L h_BIL_EBASE1H h_BIL_EBASE1L h_BIL_ISEQ h_BIL_KOFFH h_BIL_KOFFL h_BIL_NEXTH h_BIL_NEXTL h_BIL_SPAN0 h_BIL_SPAN1 h_BIL_STAT h_BIL_TCOUNT h_BIL_TDELH h_BIL_TDELL h_BIL_TFIRSTH h_BIL_TFIRSTL h_BIL_TLASTH h_BIL_TLASTL h_BIL_TRECH h_BIL_TRECL h_EVT_PEND h_MTR_STAT h_SIG_KSTAT h_SIG_LIMITH h_SIG_LIMITL h_SIG_NEXTH h_SIG_NEXTL h_SIG_PUB h_SIG_STAT c_bil c_mtr c_rng c_sig, setEntries_writes (P := P) h_SYS_HARTENTRY, startHart_writes (P := P) h_SYS_HARTSTAT c_harts, State.without_ite, ite_self]

include c_harts in
theorem setG_writes (n : Nat) (rd : RegNum) (v : Word) (s : State) :
    (setG n rd v s).without P = s.without P := by
  unfold setG
  simp only [State.without_upd_harts c_harts, State.setHart_writes (P := P) c_harts, State.without_ite, ite_self]

include h_SYS_HARTSTAT c_harts in
theorem haltComplete_writes (n : Nat) (s : State) :
    (haltComplete n s).without P = s.without P := by
  unfold haltComplete
  (repeat' split) <;> simp only [State.without_upd_harts c_harts,
      State.withHart_writes (P := P) h_SYS_HARTSTAT c_harts, startHart_writes (P := P) h_SYS_HARTSTAT c_harts,
      State.without_ite, ite_self]

include h_SYS_HARTSTAT c_drawn c_harts in
theorem serviceReturn_writes (n : Nat) (v : Int) (s : State) :
    (serviceReturn n v s).without P = s.without P := by
  unfold serviceReturn
  simp (disch := (intros; simp only [State.without_upd_drawn c_drawn, State.without_upd_harts c_harts, State.draw_writes (P := P) c_drawn, setG_writes (P := P) c_harts, State.withHart_writes (P := P) h_SYS_HARTSTAT c_harts, State.without_ite, ite_self]; done)) only [State.without_each, State.without_eachOf, State.without_upd_drawn c_drawn, State.without_upd_harts c_harts, State.draw_writes (P := P) c_drawn, setG_writes (P := P) c_harts, State.withHart_writes (P := P) h_SYS_HARTSTAT c_harts, State.without_ite, ite_self]

include h_SYS_HARTSTAT c_drawn c_harts in
theorem service_writes (n entry : Nat) (body : HartCtx → State → Int × State)
    (hb : ∀ x s, (body x s).2.without P = s.without P) (s : State) : (service n entry body s).without P = s.without P := by
  unfold service
  dsimp only
  split <;> simp only [hb, State.without_upd_drawn c_drawn, State.without_upd_harts c_harts,
      serviceReturn_writes (P := P) h_SYS_HARTSTAT c_drawn c_harts, State.without_ite, ite_self]

include c_images in
theorem setTicket_writes (t : Nat) (x : Option Ticket) (s : State) :
    (setTicket t x s).without P = s.without P := by
  unfold setTicket
  simp only [State.without_upd_images c_images, State.without_ite, ite_self]

include c_images in
theorem imgCheck_writes (x : HartCtx) (s : State) :
    (imgCheck x s).2.without P = s.without P := by
  unfold imgCheck
  (repeat' split) <;> simp only [State.without_upd_images c_images, setTicket_writes (P := P) c_images,
      State.without_ite, ite_self]

theorem imgStatus_writes (x : HartCtx) (s : State) :
    (imgStatus x s).2.without P = s.without P := by
  unfold imgStatus
  (repeat' split) <;> simp only [State.without_ite, ite_self]

include c_harts c_images c_lpe c_mem in
theorem imgPlace_writes (x : HartCtx) (s : State) :
    (imgPlace x s).2.without P = s.without P := by
  unfold imgPlace
  (try simp only [State.without_upd_harts c_harts, State.without_upd_images c_images, State.without_upd_lpe c_lpe,
      State.without_upd_mem c_mem, placeSegments_writes (P := P) c_harts c_images c_lpe c_mem,
      setTicket_writes (P := P) c_images, writeSeal_writes (P := P) c_images, State.without_ite,
      ite_self]) <;> (repeat' split) <;> simp only [State.without_upd_harts c_harts,
      State.without_upd_images c_images, State.without_upd_lpe c_lpe, State.without_upd_mem c_mem,
      placeSegments_writes (P := P) c_harts c_images c_lpe c_mem, setTicket_writes (P := P) c_images,
      writeSeal_writes (P := P) c_images, State.without_ite, ite_self]

include c_sto in
theorem slotStore_writes (k a : Nat) (l : List Byte) (s : State) :
    (slotStore k a l s).without P = s.without P := by
  induction l generalizing s a with
  | nil => rfl
  | cons v l ih => simp only [slotStore, ih, State.without_upd_sto c_sto, State.without_ite, ite_self]

include c_sto c_sys in
theorem writeSlot_writes (b : List Byte) (s : State) :
    (writeSlot b s).without P = s.without P := by
  unfold writeSlot
  simp only [State.without_upd_sto c_sto, State.without_upd_sys c_sys, slotStore_writes (P := P) c_sto,
      setImgSlot_writes (P := P) c_sys, State.without_ite, ite_self]

include c_drawn c_images c_sto c_sys in
theorem imgSlot_writes (x : HartCtx) (s : State) :
    (imgSlot x s).2.without P = s.without P := by
  unfold imgSlot
  (try simp only [State.without_upd_drawn c_drawn, State.without_upd_images c_images, State.without_upd_sto c_sto,
      State.without_upd_sys c_sys, State.draw_writes (P := P) c_drawn, setTicket_writes (P := P) c_images,
      writeSlot_writes (P := P) c_sto c_sys, State.without_ite,
      ite_self]) <;> (repeat' split) <;> simp only [State.without_upd_drawn c_drawn,
      State.without_upd_images c_images, State.without_upd_sto c_sto, State.without_upd_sys c_sys,
      State.draw_writes (P := P) c_drawn, setTicket_writes (P := P) c_images, writeSlot_writes (P := P) c_sto c_sys,
      State.without_ite, ite_self]

include c_images in
theorem imgDrop_writes (x : HartCtx) (s : State) :
    (imgDrop x s).2.without P = s.without P := by
  unfold imgDrop
  (repeat' split) <;> simp only [State.without_upd_images c_images, setTicket_writes (P := P) c_images,
      State.without_ite, ite_self]

include c_images in
theorem resumeSet_writes (x : HartCtx) (s : State) :
    (resumeSet x s).2.without P = s.without P := by
  unfold resumeSet
  (try simp only [State.without_upd_images c_images, State.without_ite,
      ite_self]) <;> (repeat' split) <;> simp only [State.without_upd_images c_images, State.without_ite, ite_self]

include c_images in
theorem imageCheckDone_writes (t : Nat) (s : State) :
    (imageCheckDone t s).without P = s.without P := by
  unfold imageCheckDone
  (repeat' split) <;> simp only [State.without_upd_images c_images, setTicket_writes (P := P) c_images,
      State.without_ite, ite_self]

include c_lpe in
theorem setCellSt_writes (c : Nat) (k : Nat) (v : Int) (s : State) :
    (setCellSt c k v s).without P = s.without P := by
  unfold setCellSt
  simp only [State.without_upd_lpe c_lpe, State.without_ite, ite_self]

include c_lpe in
theorem setCellOut_writes (c : Nat) (k : Nat) (v : Int) (s : State) :
    (setCellOut c k v s).without P = s.without P := by
  unfold setCellOut
  simp only [State.without_upd_lpe c_lpe, State.without_ite, ite_self]

include h_EVT_PEND h_LPE_SATST h_LPE_STAT in
theorem satFlag_writes (i : Nat) (s : State) :
    (satFlag i s).without P = s.without P := by
  unfold satFlag
  simp only [State.w_setFBit (fl := Fl.LPE_SATST_LANE) h_LPE_SATST (by decide),
      lpeCause_writes (P := P) h_EVT_PEND h_LPE_STAT, State.without_ite, ite_self]

include h_EVT_PEND h_LPE_SATST h_LPE_STAT c_lpe in
theorem vecLane_writes (op : VecOp) (i : Nat) (s : State) :
    (vecLane op i s).without P = s.without P := by
  unfold vecLane
  (try simp only [State.without_upd_lpe c_lpe, setCellSt_writes (P := P) c_lpe, setCellOut_writes (P := P) c_lpe,
      satFlag_writes (P := P) h_EVT_PEND h_LPE_SATST h_LPE_STAT, State.without_when_if, State.without_ite,
      ite_self]) <;> (repeat' split) <;> simp only [State.without_upd_lpe c_lpe, setCellSt_writes (P := P) c_lpe,
      setCellOut_writes (P := P) c_lpe, satFlag_writes (P := P) h_EVT_PEND h_LPE_SATST h_LPE_STAT,
      State.without_when_if, State.without_ite, ite_self]

include h_EVT_PEND h_LPE_SATST h_LPE_STAT c_lpe in
theorem vecAll_writes (op : VecOp) (s : State) :
    (vecAll op s).without P = s.without P := by
  unfold vecAll
  simp (disch := (intros; simp only [State.without_upd_lpe c_lpe, vecLane_writes (P := P) h_EVT_PEND h_LPE_SATST h_LPE_STAT c_lpe, State.without_ite, ite_self]; done)) only [State.without_each, State.without_eachOf, State.without_upd_lpe c_lpe, vecLane_writes (P := P) h_EVT_PEND h_LPE_SATST h_LPE_STAT c_lpe, State.without_ite, ite_self]

include h_EVT_PEND h_LPE_SATST h_LPE_STAT c_lpe in
theorem vecLegal_writes (ok : Bool) (op : VecOp) (s : State) :
    (vecLegal ok op s).without P = s.without P := by
  unfold vecLegal
  simp only [State.without_upd_lpe c_lpe, vecAll_writes (P := P) h_EVT_PEND h_LPE_SATST h_LPE_STAT c_lpe,
      State.without_ite, ite_self]

include h_CLN_LANEEV h_CLN_LANESTAT h_EVT_PEND in
theorem laneFit_writes (g : Nat) (s : State) :
    (laneFit g s).without P = s.without P := by
  unfold laneFit
  simp (disch := (intros; simp only [State.w_setB (fl := Fl.CLN_LANESTAT_SCHEDERR) h_CLN_LANESTAT (by decide), clnCause_writes (P := P) h_CLN_LANEEV h_EVT_PEND, State.without_when_if, State.without_ite, ite_self]; done)) only [State.without_each, State.without_eachOf, State.w_setB (fl := Fl.CLN_LANESTAT_SCHEDERR) h_CLN_LANESTAT (by decide), clnCause_writes (P := P) h_CLN_LANEEV h_EVT_PEND, State.without_when_if, State.without_ite, ite_self]

include h_LPE_CWSTAT c_lpe in
theorem tickBegin_writes (g : Nat) (s : State) :
    (tickBegin g s).without P = s.without P := by
  unfold tickBegin
  simp only [State.without_upd_lpe c_lpe, applyPool_writes (P := P) h_LPE_CWSTAT c_lpe,
      State.setLg_writes (P := P) c_lpe, State.without_ite, ite_self]

include h_LPE_BATCH in
theorem laneMask_writes (slot : Nat) (on : Bool) (s : State) :
    (laneMask slot on s).without P = s.without P := by
  unfold laneMask
  simp only [State.w_setFBit (fl := Fl.LPE_BATCH_MASK) h_LPE_BATCH (by decide), State.without_ite, ite_self]

include h_LPE_BATCH h_PRT_CELL h_PRT_GSTAT c_prt in
theorem applyRemovals_writes (g : Nat) (s : State) :
    (applyRemovals g s).without P = s.without P := by
  unfold applyRemovals
  simp (disch := (intros; simp only [State.w_setF (fl := Fl.PRT_CELL_RM) h_PRT_CELL (by decide), State.without_upd_prt c_prt, laneMask_writes (P := P) h_LPE_BATCH, showMembers_writes (P := P) h_PRT_GSTAT, State.without_ite, ite_self]; done)) only [State.without_each, State.without_eachOf, State.w_setF (fl := Fl.PRT_CELL_RM) h_PRT_CELL (by decide), State.without_upd_prt c_prt, laneMask_writes (P := P) h_LPE_BATCH, showMembers_writes (P := P) h_PRT_GSTAT, State.without_ite, ite_self]

include c_prt in
theorem searchSample_writes (g : Nat) (s : State) :
    (searchSample g s).without P = s.without P := by
  unfold searchSample
  (repeat' split) <;> simp only [State.without_upd_prt c_prt, State.setPg_writes (P := P) c_prt, State.without_ite,
      ite_self]

include h_MTR_SECDELH h_MTR_SECDELL h_MTR_SECRECH h_MTR_SECRECL c_mtr in
theorem secondaryTick_writes (g : Nat) (periodNs : Nat) (s : State) :
    (secondaryTick g periodNs s).without P = s.without P := by
  unfold secondaryTick
  (try simp only [State.w_setQ (lo := R.MTR_SECDELL) (hi := R.MTR_SECDELH) h_MTR_SECDELL h_MTR_SECDELH (by decide) (by decide), State.w_setQ (lo := R.MTR_SECRECL) (hi := R.MTR_SECRECH) h_MTR_SECRECL h_MTR_SECRECH (by decide) (by decide), State.without_upd_mtr c_mtr, State.without_ite, ite_self]) <;> (repeat' split) <;> simp only [State.w_setQ (lo := R.MTR_SECDELL) (hi := R.MTR_SECDELH) h_MTR_SECDELL h_MTR_SECDELH (by decide) (by decide), State.w_setQ (lo := R.MTR_SECRECL) (hi := R.MTR_SECRECH) h_MTR_SECRECL h_MTR_SECRECH (by decide) (by decide), State.without_upd_mtr c_mtr, State.without_ite, ite_self]

include c_prt in
theorem sampleGroup_writes (g : Nat) (s : State) :
    (sampleGroup g s).without P = s.without P := by
  unfold sampleGroup
  simp only [State.without_upd_prt c_prt, State.setPg_writes (P := P) c_prt, State.without_ite, ite_self]

include h_EVT_PEND h_LSW_CHSTAT h_PRT_GCAUSE h_PRT_GSTAT h_PRT_IAPP h_PRT_VAPP h_SFY_COIL h_SFY_PSTAT c_lsw c_prt in
theorem toFault_writes (cause : Nat) (g : Nat) (s : State) :
    (toFault cause g s).without P = s.without P := by
  unfold toFault
  (repeat' split) <;> simp only [State.without_upd_lsw c_lsw, State.without_upd_prt c_prt,
      toState_writes (P := P) h_EVT_PEND h_LSW_CHSTAT h_PRT_GCAUSE h_PRT_GSTAT h_PRT_IAPP h_PRT_VAPP c_lsw c_prt,
      prtCause_writes (P := P) h_EVT_PEND h_PRT_GCAUSE, openRequest_writes (P := P) h_SFY_COIL h_SFY_PSTAT,
      State.without_ite, ite_self]

include h_EVT_PEND h_LPE_BATCH h_LPE_BSTAT h_LPE_LOAD h_LPE_STAT h_LPE_TLOAD h_LSW_CHSTAT h_PRT_CIDENT h_PRT_GCAUSE
    h_PRT_GSTAT h_PRT_IAPP h_PRT_VAPP h_SFY_COIL h_SFY_PSTAT c_lpe c_lsw c_prt in
theorem tickPrecharge_writes (g : Nat) (s : State) :
    (tickPrecharge g s).without P = s.without P := by
  unfold tickPrecharge
  (try simp only [State.w_setF (fl := Fl.PRT_CIDENT_CIDENT) h_PRT_CIDENT (by decide),
      State.w_setF (fl := Fl.PRT_VAPP_VAPP) h_PRT_VAPP (by decide), State.without_upd_lpe c_lpe,
      State.without_upd_lsw c_lsw, State.without_upd_prt c_prt,
      setMode_writes (P := P) h_EVT_PEND h_LPE_BATCH h_LPE_BSTAT h_LPE_LOAD h_LPE_STAT h_LPE_TLOAD h_LSW_CHSTAT h_PRT_GCAUSE h_PRT_GSTAT h_PRT_IAPP h_PRT_VAPP c_lpe c_lsw c_prt, State.setPg_writes (P := P) c_prt, toFault_writes (P := P) h_EVT_PEND h_LSW_CHSTAT h_PRT_GCAUSE h_PRT_GSTAT h_PRT_IAPP h_PRT_VAPP h_SFY_COIL h_SFY_PSTAT c_lsw c_prt, State.without_when_if, State.without_ite, ite_self]) <;> (repeat' split) <;> simp only [State.w_setF (fl := Fl.PRT_CIDENT_CIDENT) h_PRT_CIDENT (by decide), State.w_setF (fl := Fl.PRT_VAPP_VAPP) h_PRT_VAPP (by decide), State.without_upd_lpe c_lpe, State.without_upd_lsw c_lsw, State.without_upd_prt c_prt, setMode_writes (P := P) h_EVT_PEND h_LPE_BATCH h_LPE_BSTAT h_LPE_LOAD h_LPE_STAT h_LPE_TLOAD h_LSW_CHSTAT h_PRT_GCAUSE h_PRT_GSTAT h_PRT_IAPP h_PRT_VAPP c_lpe c_lsw c_prt, State.setPg_writes (P := P) c_prt, toFault_writes (P := P) h_EVT_PEND h_LSW_CHSTAT h_PRT_GCAUSE h_PRT_GSTAT h_PRT_IAPP h_PRT_VAPP h_SFY_COIL h_SFY_PSTAT c_lsw c_prt, State.without_when_if, State.without_ite, ite_self]

include h_PRT_VAPP c_prt in
theorem tickVoltage_writes (g : Nat) (periodNs : Nat) (s : State) :
    (tickVoltage g periodNs s).without P = s.without P := by
  unfold tickVoltage
  simp only [State.w_setF (fl := Fl.PRT_VAPP_VAPP) h_PRT_VAPP (by decide), State.without_upd_prt c_prt,
      State.setPg_writes (P := P) c_prt, State.without_ite, ite_self]

include h_PRT_IAPP c_prt in
theorem tickCurrent_writes (g : Nat) (periodNs : Nat) (s : State) :
    (tickCurrent g periodNs s).without P = s.without P := by
  unfold tickCurrent
  simp only [State.w_setF (fl := Fl.PRT_IAPP_IAPP) h_PRT_IAPP (by decide), State.without_upd_prt c_prt,
      State.setPg_writes (P := P) c_prt, State.without_ite, ite_self]

include h_PRT_GSTAT in
theorem raiseReef_writes (g : Nat) (s : State) :
    (raiseReef g s).without P = s.without P := by
  unfold raiseReef
  simp only [State.w_satF (fl := Fl.PRT_GSTAT_REEFREQ) h_PRT_GSTAT (by decide), State.without_ite, ite_self]

include h_EVT_PEND h_PRT_CELL h_PRT_GCAUSE h_PRT_GSTAT c_lpe c_prt in
theorem tickShares_writes (g : Nat) (s : State) :
    (tickShares g s).without P = s.without P := by
  have h1 : ∀ (c : Nat) (a b : Int) (s : State), (setCellIn c 7 a (setCellIn c 6 b s)).without P = s.without P := fun c a b s => by simp only [State.w_setF (fl := Fl.PRT_CELL_C2) h_PRT_CELL (by decide), State.w_setF (fl := Fl.PRT_CELL_C1) h_PRT_CELL (by decide), State.without_upd_lpe c_lpe, State.without_upd_prt c_prt, raiseReef_writes (P := P) h_PRT_GSTAT, prtCause_writes (P := P) h_EVT_PEND h_PRT_GCAUSE, State.setPg_writes (P := P) c_prt, setCellIn_writes (P := P) c_lpe, State.without_when_if, State.without_ite, ite_self]
  unfold tickShares
  dsimp only
  rw [State.without_eachOf (fun c s => h1 c 0 0 s)]
  rw [State.without_eachOf (f := fun (e : Nat × Nat) s => _) (fun e s => ?_)]
  · simp only [State.w_setF (fl := Fl.PRT_CELL_C2) h_PRT_CELL (by decide),
      State.w_setF (fl := Fl.PRT_CELL_C1) h_PRT_CELL (by decide), State.without_upd_lpe c_lpe,
      State.without_upd_prt c_prt, raiseReef_writes (P := P) h_PRT_GSTAT,
      prtCause_writes (P := P) h_EVT_PEND h_PRT_GCAUSE, State.setPg_writes (P := P) c_prt,
      setCellIn_writes (P := P) c_lpe, State.without_when_if, State.without_ite, ite_self]
  · split <;> simp only [h1, State.w_setF (fl := Fl.PRT_CELL_C2) h_PRT_CELL (by decide),
      State.w_setF (fl := Fl.PRT_CELL_C1) h_PRT_CELL (by decide), State.without_upd_lpe c_lpe,
      State.without_upd_prt c_prt, raiseReef_writes (P := P) h_PRT_GSTAT,
      prtCause_writes (P := P) h_EVT_PEND h_PRT_GCAUSE, State.setPg_writes (P := P) c_prt,
      setCellIn_writes (P := P) c_lpe, State.without_when_if, State.without_ite, ite_self]

include c_prt in
theorem markWord_writes (c : Nat) (w : Nat) (v : Word) (s : State) :
    (markWord c w v s).without P = s.without P := by
  unfold markWord
  simp only [State.without_upd_prt c_prt, State.without_ite, ite_self]

include c_prt in
theorem markLimit_writes (c : Nat) (w : Nat) (entry : Bool) (m : Int) (s : State) :
    (markLimit c w entry m s).without P = s.without P := by
  unfold markLimit
  simp only [State.without_upd_prt c_prt, markWord_writes (P := P) c_prt, State.without_ite, ite_self]

include c_prt in
theorem markCoefs_writes (g : Nat) (m : List Nat) (entry : Bool) (s : State) :
    (markCoefs g m entry s).without P = s.without P := by
  unfold markCoefs
  simp (disch := (intros; simp only [State.without_upd_prt c_prt, markLimit_writes (P := P) c_prt, markWord_writes (P := P) c_prt, State.without_ite, ite_self]; done)) only [State.without_each, State.without_eachOf, State.without_upd_prt c_prt, markLimit_writes (P := P) c_prt, markWord_writes (P := P) c_prt, State.without_ite, ite_self]

include h_EVT_PEND h_LPE_BATCH h_LPE_BSTAT h_LPE_LOAD h_LPE_STAT h_LPE_TLOAD h_LSW_CHSTAT h_MTR_SECDELH h_MTR_SECDELL
    h_MTR_SECRECH h_MTR_SECRECL h_PRT_CELL h_PRT_CIDENT h_PRT_GCAUSE h_PRT_GSTAT h_PRT_IAPP h_PRT_VAPP h_SFY_COIL h_SFY_PSTAT h_SFY_STAT c_lpe c_lsw c_mtr c_prt in
theorem tickGroup_writes (periodNs : Nat) (g : Nat) (s : State) :
    (tickGroup periodNs g s).without P = s.without P := by
  unfold tickGroup
  simp only [State.without_upd_lpe c_lpe, State.without_upd_lsw c_lsw, State.without_upd_mtr c_mtr,
      State.without_upd_prt c_prt, applyRemovals_writes (P := P) h_LPE_BATCH h_PRT_CELL h_PRT_GSTAT c_prt,
      searchSample_writes (P := P) c_prt,
      secondaryTick_writes (P := P) h_MTR_SECDELH h_MTR_SECDELL h_MTR_SECRECH h_MTR_SECRECL c_mtr,
      sampleGroup_writes (P := P) c_prt, askClose_writes (P := P) h_EVT_PEND h_SFY_COIL h_SFY_PSTAT h_SFY_STAT,
      tickPrecharge_writes (P := P) h_EVT_PEND h_LPE_BATCH h_LPE_BSTAT h_LPE_LOAD h_LPE_STAT h_LPE_TLOAD h_LSW_CHSTAT h_PRT_CIDENT h_PRT_GCAUSE h_PRT_GSTAT h_PRT_IAPP h_PRT_VAPP h_SFY_COIL h_SFY_PSTAT c_lpe c_lsw c_prt, tickVoltage_writes (P := P) h_PRT_VAPP c_prt, tickCurrent_writes (P := P) h_PRT_IAPP c_prt, tickShares_writes (P := P) h_EVT_PEND h_PRT_CELL h_PRT_GCAUSE h_PRT_GSTAT c_lpe c_prt, markCoefs_writes (P := P) c_prt, State.without_when_if, State.without_ite, ite_self]

include c_prt in
theorem sampleCell_writes (c : Nat) (s : State) :
    (sampleCell c s).without P = s.without P := by
  unfold sampleCell
  simp only [State.without_upd_prt c_prt, State.without_ite, ite_self]

include h_LPE_CWSTAT c_lpe in
theorem ownCoef_writes (slot : Nat) (w : Nat) (v : Word) (s : State) :
    (ownCoef slot w v s).without P = s.without P := by
  have hc : ∀ bank (s : State), ((coefStore true bank slot w v s).getD s).without P = s.without P := by
    intro bank s
    unfold coefStore
    (repeat' split) <;> simp only [Option.getD_some, Option.getD_none, showPool_writes (P := P) h_LPE_CWSTAT,
        storeCoef_writes (P := P) c_lpe, State.without_upd_lpe c_lpe, State.without_ite, ite_self]
  unfold ownCoef
  simp only [hc]

include h_LPE_CWSTAT c_lpe in
theorem markWrites_writes (c : Nat) (w : Nat) (v : Word) (s : State) :
    (markWrites c w v s).without P = s.without P := by
  unfold markWrites
  simp only [State.without_upd_lpe c_lpe, ownCoef_writes (P := P) h_LPE_CWSTAT c_lpe, State.without_ite, ite_self]

include h_LPE_CWSTAT h_PRT_STAT c_lpe c_prt in
theorem serveMarks_writes (s : State) :
    (serveMarks s).without P = s.without P := by
  unfold serveMarks
  simp (disch := (intros; simp only [State.w_setF (fl := Fl.PRT_STAT_CWQ) h_PRT_STAT (by decide), State.without_upd_lpe c_lpe, State.without_upd_prt c_prt, markWrites_writes (P := P) h_LPE_CWSTAT c_lpe, State.without_ite, ite_self]; done)) only [State.without_each, State.without_eachOf, State.w_setF (fl := Fl.PRT_STAT_CWQ) h_PRT_STAT (by decide), State.without_upd_lpe c_lpe, State.without_upd_prt c_prt, markWrites_writes (P := P) h_LPE_CWSTAT c_lpe, State.without_ite, ite_self]

include h_EVT_PEND h_LPE_BATCH h_LPE_BSTAT h_LPE_CWSTAT h_LPE_LOAD h_LPE_STAT h_LPE_TLOAD h_LSW_CHSTAT h_MTR_SECDELH
    h_MTR_SECDELL h_MTR_SECRECH h_MTR_SECRECL h_PRT_CELL h_PRT_CIDENT h_PRT_GCAUSE h_PRT_GSTAT h_PRT_IAPP h_PRT_STAT h_PRT_VAPP h_SFY_COIL h_SFY_PSTAT h_SFY_STAT c_lpe c_lsw c_mtr c_prt in
theorem portPowerTick_writes (grp : Nat) (periodNs : Nat) (s : State) :
    (portPowerTick grp periodNs s).without P = s.without P := by
  unfold portPowerTick
  (try simp (disch := (intros; ((try simp (disch := (intros; ((try simp only [State.without_upd_lpe c_lpe, State.without_upd_lsw c_lsw, State.without_upd_mtr c_mtr, State.without_upd_prt c_prt, tickGroup_writes (P := P) h_EVT_PEND h_LPE_BATCH h_LPE_BSTAT h_LPE_LOAD h_LPE_STAT h_LPE_TLOAD h_LSW_CHSTAT h_MTR_SECDELH h_MTR_SECDELL h_MTR_SECRECH h_MTR_SECRECL h_PRT_CELL h_PRT_CIDENT h_PRT_GCAUSE h_PRT_GSTAT h_PRT_IAPP h_PRT_VAPP h_SFY_COIL h_SFY_PSTAT h_SFY_STAT c_lpe c_lsw c_mtr c_prt, sampleCell_writes (P := P) c_prt, serveMarks_writes (P := P) h_LPE_CWSTAT h_PRT_STAT c_lpe c_prt, State.without_ite, ite_self]) <;> (repeat' split) <;> (try simp only [State.without_upd_lpe c_lpe, State.without_upd_lsw c_lsw, State.without_upd_mtr c_mtr, State.without_upd_prt c_prt, tickGroup_writes (P := P) h_EVT_PEND h_LPE_BATCH h_LPE_BSTAT h_LPE_LOAD h_LPE_STAT h_LPE_TLOAD h_LSW_CHSTAT h_MTR_SECDELH h_MTR_SECDELL h_MTR_SECRECH h_MTR_SECRECL h_PRT_CELL h_PRT_CIDENT h_PRT_GCAUSE h_PRT_GSTAT h_PRT_IAPP h_PRT_VAPP h_SFY_COIL h_SFY_PSTAT h_SFY_STAT c_lpe c_lsw c_mtr c_prt, sampleCell_writes (P := P) c_prt, serveMarks_writes (P := P) h_LPE_CWSTAT h_PRT_STAT c_lpe c_prt, State.without_ite, ite_self])); done)) only [State.without_each, State.without_eachOf, State.without_upd_lpe c_lpe, State.without_upd_lsw c_lsw, State.without_upd_mtr c_mtr, State.without_upd_prt c_prt, tickGroup_writes (P := P) h_EVT_PEND h_LPE_BATCH h_LPE_BSTAT h_LPE_LOAD h_LPE_STAT h_LPE_TLOAD h_LSW_CHSTAT h_MTR_SECDELH h_MTR_SECDELL h_MTR_SECRECH h_MTR_SECRECL h_PRT_CELL h_PRT_CIDENT h_PRT_GCAUSE h_PRT_GSTAT h_PRT_IAPP h_PRT_VAPP h_SFY_COIL h_SFY_PSTAT h_SFY_STAT c_lpe c_lsw c_mtr c_prt, sampleCell_writes (P := P) c_prt, serveMarks_writes (P := P) h_LPE_CWSTAT h_PRT_STAT c_lpe c_prt, State.without_ite, ite_self]) <;> (repeat' split) <;> (try simp (disch := (intros; ((try simp only [State.without_upd_lpe c_lpe, State.without_upd_lsw c_lsw, State.without_upd_mtr c_mtr, State.without_upd_prt c_prt, tickGroup_writes (P := P) h_EVT_PEND h_LPE_BATCH h_LPE_BSTAT h_LPE_LOAD h_LPE_STAT h_LPE_TLOAD h_LSW_CHSTAT h_MTR_SECDELH h_MTR_SECDELL h_MTR_SECRECH h_MTR_SECRECL h_PRT_CELL h_PRT_CIDENT h_PRT_GCAUSE h_PRT_GSTAT h_PRT_IAPP h_PRT_VAPP h_SFY_COIL h_SFY_PSTAT h_SFY_STAT c_lpe c_lsw c_mtr c_prt, sampleCell_writes (P := P) c_prt, serveMarks_writes (P := P) h_LPE_CWSTAT h_PRT_STAT c_lpe c_prt, State.without_ite, ite_self]) <;> (repeat' split) <;> (try simp only [State.without_upd_lpe c_lpe, State.without_upd_lsw c_lsw, State.without_upd_mtr c_mtr, State.without_upd_prt c_prt, tickGroup_writes (P := P) h_EVT_PEND h_LPE_BATCH h_LPE_BSTAT h_LPE_LOAD h_LPE_STAT h_LPE_TLOAD h_LSW_CHSTAT h_MTR_SECDELH h_MTR_SECDELL h_MTR_SECRECH h_MTR_SECRECL h_PRT_CELL h_PRT_CIDENT h_PRT_GCAUSE h_PRT_GSTAT h_PRT_IAPP h_PRT_VAPP h_SFY_COIL h_SFY_PSTAT h_SFY_STAT c_lpe c_lsw c_mtr c_prt, sampleCell_writes (P := P) c_prt, serveMarks_writes (P := P) h_LPE_CWSTAT h_PRT_STAT c_lpe c_prt, State.without_ite, ite_self])); done)) only [State.without_each, State.without_eachOf, State.without_upd_lpe c_lpe, State.without_upd_lsw c_lsw, State.without_upd_mtr c_mtr, State.without_upd_prt c_prt, tickGroup_writes (P := P) h_EVT_PEND h_LPE_BATCH h_LPE_BSTAT h_LPE_LOAD h_LPE_STAT h_LPE_TLOAD h_LSW_CHSTAT h_MTR_SECDELH h_MTR_SECDELL h_MTR_SECRECH h_MTR_SECRECL h_PRT_CELL h_PRT_CIDENT h_PRT_GCAUSE h_PRT_GSTAT h_PRT_IAPP h_PRT_VAPP h_SFY_COIL h_SFY_PSTAT h_SFY_STAT c_lpe c_lsw c_mtr c_prt, sampleCell_writes (P := P) c_prt, serveMarks_writes (P := P) h_LPE_CWSTAT h_PRT_STAT c_lpe c_prt, State.without_ite, ite_self])); done)) only [State.without_each, State.without_eachOf, State.without_upd_lpe c_lpe, State.without_upd_lsw c_lsw, State.without_upd_mtr c_mtr, State.without_upd_prt c_prt, tickGroup_writes (P := P) h_EVT_PEND h_LPE_BATCH h_LPE_BSTAT h_LPE_LOAD h_LPE_STAT h_LPE_TLOAD h_LSW_CHSTAT h_MTR_SECDELH h_MTR_SECDELL h_MTR_SECRECH h_MTR_SECRECL h_PRT_CELL h_PRT_CIDENT h_PRT_GCAUSE h_PRT_GSTAT h_PRT_IAPP h_PRT_VAPP h_SFY_COIL h_SFY_PSTAT h_SFY_STAT c_lpe c_lsw c_mtr c_prt, sampleCell_writes (P := P) c_prt, serveMarks_writes (P := P) h_LPE_CWSTAT h_PRT_STAT c_lpe c_prt, State.without_ite, ite_self]) <;> (repeat' split) <;>
    (try simp (disch := (intros; ((try simp (disch := (intros; ((try simp only [State.without_upd_lpe c_lpe, State.without_upd_lsw c_lsw, State.without_upd_mtr c_mtr, State.without_upd_prt c_prt, tickGroup_writes (P := P) h_EVT_PEND h_LPE_BATCH h_LPE_BSTAT h_LPE_LOAD h_LPE_STAT h_LPE_TLOAD h_LSW_CHSTAT h_MTR_SECDELH h_MTR_SECDELL h_MTR_SECRECH h_MTR_SECRECL h_PRT_CELL h_PRT_CIDENT h_PRT_GCAUSE h_PRT_GSTAT h_PRT_IAPP h_PRT_VAPP h_SFY_COIL h_SFY_PSTAT h_SFY_STAT c_lpe c_lsw c_mtr c_prt, sampleCell_writes (P := P) c_prt, serveMarks_writes (P := P) h_LPE_CWSTAT h_PRT_STAT c_lpe c_prt, State.without_ite, ite_self]) <;> (repeat' split) <;> (try simp only [State.without_upd_lpe c_lpe, State.without_upd_lsw c_lsw, State.without_upd_mtr c_mtr, State.without_upd_prt c_prt, tickGroup_writes (P := P) h_EVT_PEND h_LPE_BATCH h_LPE_BSTAT h_LPE_LOAD h_LPE_STAT h_LPE_TLOAD h_LSW_CHSTAT h_MTR_SECDELH h_MTR_SECDELL h_MTR_SECRECH h_MTR_SECRECL h_PRT_CELL h_PRT_CIDENT h_PRT_GCAUSE h_PRT_GSTAT h_PRT_IAPP h_PRT_VAPP h_SFY_COIL h_SFY_PSTAT h_SFY_STAT c_lpe c_lsw c_mtr c_prt, sampleCell_writes (P := P) c_prt, serveMarks_writes (P := P) h_LPE_CWSTAT h_PRT_STAT c_lpe c_prt, State.without_ite, ite_self])); done)) only [State.without_each, State.without_eachOf, State.without_upd_lpe c_lpe, State.without_upd_lsw c_lsw, State.without_upd_mtr c_mtr, State.without_upd_prt c_prt, tickGroup_writes (P := P) h_EVT_PEND h_LPE_BATCH h_LPE_BSTAT h_LPE_LOAD h_LPE_STAT h_LPE_TLOAD h_LSW_CHSTAT h_MTR_SECDELH h_MTR_SECDELL h_MTR_SECRECH h_MTR_SECRECL h_PRT_CELL h_PRT_CIDENT h_PRT_GCAUSE h_PRT_GSTAT h_PRT_IAPP h_PRT_VAPP h_SFY_COIL h_SFY_PSTAT h_SFY_STAT c_lpe c_lsw c_mtr c_prt, sampleCell_writes (P := P) c_prt, serveMarks_writes (P := P) h_LPE_CWSTAT h_PRT_STAT c_lpe c_prt, State.without_ite, ite_self]) <;> (repeat' split) <;> (try simp (disch := (intros; ((try simp only [State.without_upd_lpe c_lpe, State.without_upd_lsw c_lsw, State.without_upd_mtr c_mtr, State.without_upd_prt c_prt, tickGroup_writes (P := P) h_EVT_PEND h_LPE_BATCH h_LPE_BSTAT h_LPE_LOAD h_LPE_STAT h_LPE_TLOAD h_LSW_CHSTAT h_MTR_SECDELH h_MTR_SECDELL h_MTR_SECRECH h_MTR_SECRECL h_PRT_CELL h_PRT_CIDENT h_PRT_GCAUSE h_PRT_GSTAT h_PRT_IAPP h_PRT_VAPP h_SFY_COIL h_SFY_PSTAT h_SFY_STAT c_lpe c_lsw c_mtr c_prt, sampleCell_writes (P := P) c_prt, serveMarks_writes (P := P) h_LPE_CWSTAT h_PRT_STAT c_lpe c_prt, State.without_ite, ite_self]) <;> (repeat' split) <;> (try simp only [State.without_upd_lpe c_lpe, State.without_upd_lsw c_lsw, State.without_upd_mtr c_mtr, State.without_upd_prt c_prt, tickGroup_writes (P := P) h_EVT_PEND h_LPE_BATCH h_LPE_BSTAT h_LPE_LOAD h_LPE_STAT h_LPE_TLOAD h_LSW_CHSTAT h_MTR_SECDELH h_MTR_SECDELL h_MTR_SECRECH h_MTR_SECRECL h_PRT_CELL h_PRT_CIDENT h_PRT_GCAUSE h_PRT_GSTAT h_PRT_IAPP h_PRT_VAPP h_SFY_COIL h_SFY_PSTAT h_SFY_STAT c_lpe c_lsw c_mtr c_prt, sampleCell_writes (P := P) c_prt, serveMarks_writes (P := P) h_LPE_CWSTAT h_PRT_STAT c_lpe c_prt, State.without_ite, ite_self])); done)) only [State.without_each, State.without_eachOf, State.without_upd_lpe c_lpe, State.without_upd_lsw c_lsw, State.without_upd_mtr c_mtr, State.without_upd_prt c_prt, tickGroup_writes (P := P) h_EVT_PEND h_LPE_BATCH h_LPE_BSTAT h_LPE_LOAD h_LPE_STAT h_LPE_TLOAD h_LSW_CHSTAT h_MTR_SECDELH h_MTR_SECDELL h_MTR_SECRECH h_MTR_SECRECL h_PRT_CELL h_PRT_CIDENT h_PRT_GCAUSE h_PRT_GSTAT h_PRT_IAPP h_PRT_VAPP h_SFY_COIL h_SFY_PSTAT h_SFY_STAT c_lpe c_lsw c_mtr c_prt, sampleCell_writes (P := P) c_prt, serveMarks_writes (P := P) h_LPE_CWSTAT h_PRT_STAT c_lpe c_prt, State.without_ite, ite_self])); done)) only [State.without_each, State.without_eachOf, State.without_upd_lpe c_lpe, State.without_upd_lsw c_lsw, State.without_upd_mtr c_mtr, State.without_upd_prt c_prt, tickGroup_writes (P := P) h_EVT_PEND h_LPE_BATCH h_LPE_BSTAT h_LPE_LOAD h_LPE_STAT h_LPE_TLOAD h_LSW_CHSTAT h_MTR_SECDELH h_MTR_SECDELL h_MTR_SECRECH h_MTR_SECRECL h_PRT_CELL h_PRT_CIDENT h_PRT_GCAUSE h_PRT_GSTAT h_PRT_IAPP h_PRT_VAPP h_SFY_COIL h_SFY_PSTAT h_SFY_STAT c_lpe c_lsw c_mtr c_prt, sampleCell_writes (P := P) c_prt, serveMarks_writes (P := P) h_LPE_CWSTAT h_PRT_STAT c_lpe c_prt, State.without_ite, ite_self])

include c_lpe in
theorem takeBatch_writes (b : Nat) (s : State) :
    (takeBatch b s).without P = s.without P := by
  unfold takeBatch
  simp only [State.without_upd_lpe c_lpe, initSlots_writes (P := P) c_lpe, State.setLb_writes (P := P) c_lpe,
      State.without_ite, ite_self]

include h_LPE_INJCTL c_lpe in
theorem injectorTick_writes (s : State) :
    (injectorTick s).without P = s.without P := by
  unfold injectorTick
  simp only [State.w_setB (fl := Fl.LPE_INJCTL_RUN) h_LPE_INJCTL (by decide), State.without_upd_lpe c_lpe,
      State.without_ite, ite_self]

include c_lpe in
theorem makeReady_writes (g : Nat) (b : Nat) (s : State) :
    (makeReady g b s).without P = s.without P := by
  unfold makeReady
  simp only [State.without_upd_lpe c_lpe, State.without_ite, ite_self]

include h_LPE_BSTAT h_LPE_INJCTL c_lpe in
theorem batchTick_writes (g : Nat) (b : Nat) (s : State) :
    (batchTick g b s).without P = s.without P := by
  unfold batchTick
  simp only [State.without_upd_lpe c_lpe, finishStop_writes (P := P) h_LPE_BSTAT c_lpe,
      takeBatch_writes (P := P) c_lpe, injectorTick_writes (P := P) h_LPE_INJCTL c_lpe,
      makeReady_writes (P := P) c_lpe, State.without_when_if, State.without_ite, ite_self]

include h_LPE_BSTAT h_LPE_INJCTL c_lpe in
theorem tickEnd_writes (g : Nat) (s : State) :
    (tickEnd g s).without P = s.without P := by
  unfold tickEnd
  simp (disch := (intros; simp only [State.without_upd_lpe c_lpe, State.setLg_writes (P := P) c_lpe, batchTick_writes (P := P) h_LPE_BSTAT h_LPE_INJCTL c_lpe, State.without_ite, ite_self]; done)) only [State.without_each, State.without_eachOf, State.without_upd_lpe c_lpe, State.setLg_writes (P := P) c_lpe, batchTick_writes (P := P) h_LPE_BSTAT h_LPE_INJCTL c_lpe, State.without_ite, ite_self]

include h_CLN_LANEEV h_CLN_LANESTAT h_EVT_PEND h_LPE_BATCH h_LPE_BSTAT h_LPE_CWSTAT h_LPE_INJCTL h_LPE_LOAD
    h_LPE_STAT h_LPE_TLOAD h_LSW_CHSTAT h_MTR_SECDELH h_MTR_SECDELL h_MTR_SECRECH h_MTR_SECRECL h_PRT_CELL h_PRT_CIDENT h_PRT_GCAUSE h_PRT_GSTAT h_PRT_IAPP h_PRT_STAT h_PRT_VAPP h_SFY_COIL h_SFY_PSTAT h_SFY_STAT c_lpe c_lsw c_mtr c_prt in
theorem groupTick_writes (g : Nat) (s : State) :
    (groupTick g s).without P = s.without P := by
  unfold groupTick
  simp only [State.without_upd_lpe c_lpe, State.without_upd_lsw c_lsw, State.without_upd_mtr c_mtr,
      State.without_upd_prt c_prt, laneFit_writes (P := P) h_CLN_LANEEV h_CLN_LANESTAT h_EVT_PEND,
      tickBegin_writes (P := P) h_LPE_CWSTAT c_lpe,
      portPowerTick_writes (P := P) h_EVT_PEND h_LPE_BATCH h_LPE_BSTAT h_LPE_CWSTAT h_LPE_LOAD h_LPE_STAT h_LPE_TLOAD h_LSW_CHSTAT h_MTR_SECDELH h_MTR_SECDELL h_MTR_SECRECH h_MTR_SECRECL h_PRT_CELL h_PRT_CIDENT h_PRT_GCAUSE h_PRT_GSTAT h_PRT_IAPP h_PRT_STAT h_PRT_VAPP h_SFY_COIL h_SFY_PSTAT h_SFY_STAT c_lpe c_lsw c_mtr c_prt, tickEnd_writes (P := P) h_LPE_BSTAT h_LPE_INJCTL c_lpe, State.without_ite, ite_self]

include c_drawn c_lpe in
theorem sampleStart_writes (r : ReadyBatch) (s : State) :
    (sampleStart r s).without P = s.without P := by
  unfold sampleStart
  (try simp (disch := (intros; ((try simp (disch := (intros; ((try simp only [State.without_upd_drawn_lpe c_drawn c_lpe, State.without_upd_drawn c_drawn, State.without_upd_lpe c_lpe, setCellOut_writes (P := P) c_lpe, State.without_ite, ite_self]) <;> (repeat' split) <;> (try simp only [State.without_upd_drawn_lpe c_drawn c_lpe, State.without_upd_drawn c_drawn, State.without_upd_lpe c_lpe, setCellOut_writes (P := P) c_lpe, State.without_ite, ite_self])); done)) only [State.without_each, State.without_eachOf, State.without_upd_drawn_lpe c_drawn c_lpe, State.without_upd_drawn c_drawn, State.without_upd_lpe c_lpe, setCellOut_writes (P := P) c_lpe, State.without_ite, ite_self]) <;> (repeat' split) <;> (try simp (disch := (intros; ((try simp only [State.without_upd_drawn_lpe c_drawn c_lpe, State.without_upd_drawn c_drawn, State.without_upd_lpe c_lpe, setCellOut_writes (P := P) c_lpe, State.without_ite, ite_self]) <;> (repeat' split) <;> (try simp only [State.without_upd_drawn_lpe c_drawn c_lpe, State.without_upd_drawn c_drawn, State.without_upd_lpe c_lpe, setCellOut_writes (P := P) c_lpe, State.without_ite, ite_self])); done)) only [State.without_each, State.without_eachOf, State.without_upd_drawn_lpe c_drawn c_lpe, State.without_upd_drawn c_drawn, State.without_upd_lpe c_lpe, setCellOut_writes (P := P) c_lpe, State.without_ite, ite_self])); done)) only [State.without_each, State.without_eachOf, State.without_upd_drawn_lpe c_drawn c_lpe, State.without_upd_drawn c_drawn, State.without_upd_lpe c_lpe, setCellOut_writes (P := P) c_lpe, State.without_ite, ite_self]) <;> (repeat' split) <;>
    (try simp (disch := (intros; ((try simp (disch := (intros; ((try simp only [State.without_upd_drawn_lpe c_drawn c_lpe, State.without_upd_drawn c_drawn, State.without_upd_lpe c_lpe, setCellOut_writes (P := P) c_lpe, State.without_ite, ite_self]) <;> (repeat' split) <;> (try simp only [State.without_upd_drawn_lpe c_drawn c_lpe, State.without_upd_drawn c_drawn, State.without_upd_lpe c_lpe, setCellOut_writes (P := P) c_lpe, State.without_ite, ite_self])); done)) only [State.without_each, State.without_eachOf, State.without_upd_drawn_lpe c_drawn c_lpe, State.without_upd_drawn c_drawn, State.without_upd_lpe c_lpe, setCellOut_writes (P := P) c_lpe, State.without_ite, ite_self]) <;> (repeat' split) <;> (try simp (disch := (intros; ((try simp only [State.without_upd_drawn_lpe c_drawn c_lpe, State.without_upd_drawn c_drawn, State.without_upd_lpe c_lpe, setCellOut_writes (P := P) c_lpe, State.without_ite, ite_self]) <;> (repeat' split) <;> (try simp only [State.without_upd_drawn_lpe c_drawn c_lpe, State.without_upd_drawn c_drawn, State.without_upd_lpe c_lpe, setCellOut_writes (P := P) c_lpe, State.without_ite, ite_self])); done)) only [State.without_each, State.without_eachOf, State.without_upd_drawn_lpe c_drawn c_lpe, State.without_upd_drawn c_drawn, State.without_upd_lpe c_lpe, setCellOut_writes (P := P) c_lpe, State.without_ite, ite_self])); done)) only [State.without_each, State.without_eachOf, State.without_upd_drawn_lpe c_drawn c_lpe, State.without_upd_drawn c_drawn, State.without_upd_lpe c_lpe, setCellOut_writes (P := P) c_lpe, State.without_ite, ite_self])

include c_drawn in
theorem injSignal_writes (s : State) :
    (injSignal s).2.without P = s.without P := by
  unfold injSignal
  (try simp only [State.without_upd_drawn c_drawn, State.draw_writes (P := P) c_drawn, State.without_ite,
      ite_self]) <;> (repeat' split) <;> simp only [State.without_upd_drawn c_drawn,
      State.draw_writes (P := P) c_drawn, State.without_ite, ite_self]

include h_EVT_PEND h_LPE_SATST h_LPE_STAT c_lpe in
theorem injectAt_writes (node : Nat) (op : VecOp) (sig : Int) (s : State) :
    (injectAt node op sig s).without P = s.without P := by
  unfold injectAt
  (repeat' split) <;> simp (disch := (intros; simp only [State.without_upd_lpe c_lpe, satFlag_writes (P := P) h_EVT_PEND h_LPE_SATST h_LPE_STAT, State.without_when_if, State.without_ite, ite_self]; done)) only [State.without_each, State.without_eachOf, State.without_upd_lpe c_lpe, satFlag_writes (P := P) h_EVT_PEND h_LPE_SATST h_LPE_STAT, State.without_when_if, State.without_ite, ite_self]

include c_lpe in
theorem captureNode_writes (node : Nat) (op : VecOp) (s : State) :
    (captureNode node op s).without P = s.without P := by
  unfold captureNode
  (repeat' split) <;> simp (disch := (intros; simp only [State.without_upd_lpe c_lpe, State.without_ite, ite_self]; done)) only [State.without_each, State.without_eachOf, State.without_upd_lpe c_lpe, State.without_ite, ite_self]

include h_EVT_PEND h_LPE_SATST h_LPE_STAT c_lpe in
theorem runOps_writes (inject : Bool) (sig : Int) (capture : Bool) (n : Nat) (l : List VecOp) (s : State) :
    (runOps inject sig capture n l s).without P = s.without P := by
  induction l generalizing s n with
  | nil => rfl
  | cons v l ih =>
    unfold runOps
    (try simp only [ih, State.without_upd_lpe c_lpe, vecAll_writes (P := P) h_EVT_PEND h_LPE_SATST h_LPE_STAT c_lpe,
        injectAt_writes (P := P) h_EVT_PEND h_LPE_SATST h_LPE_STAT c_lpe, captureNode_writes (P := P) c_lpe,
        State.without_when_if, State.without_ite, ite_self]) <;> (repeat' split) <;> (try simp only [ih,
        State.without_upd_lpe c_lpe, vecAll_writes (P := P) h_EVT_PEND h_LPE_SATST h_LPE_STAT c_lpe,
        injectAt_writes (P := P) h_EVT_PEND h_LPE_SATST h_LPE_STAT c_lpe, captureNode_writes (P := P) c_lpe,
        State.without_when_if, State.without_ite, ite_self])

include c_lpe in
theorem injAdvance_writes (s : State) :
    (injAdvance s).without P = s.without P := by
  unfold injAdvance
  simp only [State.without_upd_lpe c_lpe, State.without_ite, ite_self]

include c_lpe in
theorem overwrite_writes (r : ReadyBatch) (s : State) :
    (overwrite r s).without P = s.without P := by
  unfold overwrite
  simp (disch := (intros; (repeat' split) <;> simp only [State.without_upd_lpe c_lpe, setCellOut_writes (P := P) c_lpe, State.without_ite, ite_self]; done)) only [State.without_each, State.without_eachOf, State.without_upd_lpe c_lpe, setCellOut_writes (P := P) c_lpe, State.without_ite, ite_self]

include c_drawn in
theorem captureValue_writes (c : Nat) (s : State) :
    (captureValue c s).2.without P = s.without P := by
  unfold captureValue
  (try simp only [State.without_upd_drawn c_drawn, State.draw_writes (P := P) c_drawn, State.without_ite,
      ite_self]) <;> (repeat' split) <;> simp only [State.without_upd_drawn c_drawn,
      State.draw_writes (P := P) c_drawn, State.without_ite, ite_self]

include h_LPE_CAPSTAT c_lpe in
theorem captureEntry_writes (v : Int) (s : State) :
    (captureEntry v s).without P = s.without P := by
  unfold captureEntry
  simp only [State.w_setF (fl := Fl.LPE_CAPSTAT_NEXT) h_LPE_CAPSTAT (by decide), State.without_upd_lpe c_lpe,
      State.without_ite, ite_self]

include h_LPE_CAPSTAT c_drawn c_lpe in
theorem captureSample_writes (s : State) :
    (captureSample s).without P = s.without P := by
  unfold captureSample
  simp (disch := (intros; simp only [State.w_setF (fl := Fl.LPE_CAPSTAT_WRAPPED) h_LPE_CAPSTAT (by decide), State.w_setF (fl := Fl.LPE_CAPSTAT_NEXT) h_LPE_CAPSTAT (by decide), State.w_setB (fl := Fl.LPE_CAPSTAT_WRAPPED) h_LPE_CAPSTAT (by decide), State.w_setB (fl := Fl.LPE_CAPSTAT_NEXT) h_LPE_CAPSTAT (by decide), State.without_upd_drawn c_drawn, State.without_upd_lpe c_lpe, captureValue_writes (P := P) c_drawn, captureEntry_writes (P := P) h_LPE_CAPSTAT c_lpe, State.without_ite, ite_self]; done)) only [State.without_each, State.without_eachOf, State.w_setF (fl := Fl.LPE_CAPSTAT_WRAPPED) h_LPE_CAPSTAT (by decide), State.w_setF (fl := Fl.LPE_CAPSTAT_NEXT) h_LPE_CAPSTAT (by decide), State.w_setB (fl := Fl.LPE_CAPSTAT_WRAPPED) h_LPE_CAPSTAT (by decide), State.w_setB (fl := Fl.LPE_CAPSTAT_NEXT) h_LPE_CAPSTAT (by decide), State.without_upd_drawn c_drawn, State.without_upd_lpe c_lpe, captureValue_writes (P := P) c_drawn, captureEntry_writes (P := P) h_LPE_CAPSTAT c_lpe, State.without_ite, ite_self]

include h_LPE_FEST c_lpe in
theorem superviseLane_writes (b : Nat) (i : Nat) (s : State) :
    (superviseLane b i s).without P = s.without P := by
  unfold superviseLane
  simp only [State.w_setF (fl := Fl.LPE_FEST_OVER) h_LPE_FEST (by decide), State.without_upd_lpe c_lpe,
      State.without_ite, ite_self]

include c_lpe in
theorem keepResults_writes (r : ReadyBatch) (s : State) :
    (keepResults r s).without P = s.without P := by
  unfold keepResults
  simp only [State.without_upd_lpe c_lpe, State.without_ite, ite_self]

include h_EVT_PEND h_LPE_CAPSTAT h_LPE_FEST h_LPE_SATST h_LPE_STAT c_drawn c_lpe in
theorem runBatch_writes (r : ReadyBatch) (s : State) :
    (runBatch r s).without P = s.without P := by
  unfold runBatch
  (try simp (disch := (intros; ((try simp only [State.without_upd_drawn c_drawn, State.without_upd_lpe c_lpe, sampleStart_writes (P := P) c_drawn c_lpe, injSignal_writes (P := P) c_drawn, runOps_writes (P := P) h_EVT_PEND h_LPE_SATST h_LPE_STAT c_lpe, injAdvance_writes (P := P) c_lpe, overwrite_writes (P := P) c_lpe, captureSample_writes (P := P) h_LPE_CAPSTAT c_drawn c_lpe, superviseLane_writes (P := P) h_LPE_FEST c_lpe, keepResults_writes (P := P) c_lpe, State.without_when_if, State.without_ite, ite_self]) <;> (repeat' split) <;> (try simp only [State.without_upd_drawn c_drawn, State.without_upd_lpe c_lpe, sampleStart_writes (P := P) c_drawn c_lpe, injSignal_writes (P := P) c_drawn, runOps_writes (P := P) h_EVT_PEND h_LPE_SATST h_LPE_STAT c_lpe, injAdvance_writes (P := P) c_lpe, overwrite_writes (P := P) c_lpe, captureSample_writes (P := P) h_LPE_CAPSTAT c_drawn c_lpe, superviseLane_writes (P := P) h_LPE_FEST c_lpe, keepResults_writes (P := P) c_lpe, State.without_when_if, State.without_ite, ite_self])); done)) only [State.without_each, State.without_eachOf, State.without_upd_drawn c_drawn, State.without_upd_lpe c_lpe, sampleStart_writes (P := P) c_drawn c_lpe, injSignal_writes (P := P) c_drawn, runOps_writes (P := P) h_EVT_PEND h_LPE_SATST h_LPE_STAT c_lpe, injAdvance_writes (P := P) c_lpe, overwrite_writes (P := P) c_lpe, captureSample_writes (P := P) h_LPE_CAPSTAT c_drawn c_lpe, superviseLane_writes (P := P) h_LPE_FEST c_lpe, keepResults_writes (P := P) c_lpe, State.without_when_if, State.without_ite, ite_self]) <;> (repeat' split) <;>
    (try simp (disch := (intros; ((try simp only [State.without_upd_drawn c_drawn, State.without_upd_lpe c_lpe, sampleStart_writes (P := P) c_drawn c_lpe, injSignal_writes (P := P) c_drawn, runOps_writes (P := P) h_EVT_PEND h_LPE_SATST h_LPE_STAT c_lpe, injAdvance_writes (P := P) c_lpe, overwrite_writes (P := P) c_lpe, captureSample_writes (P := P) h_LPE_CAPSTAT c_drawn c_lpe, superviseLane_writes (P := P) h_LPE_FEST c_lpe, keepResults_writes (P := P) c_lpe, State.without_when_if, State.without_ite, ite_self]) <;> (repeat' split) <;> (try simp only [State.without_upd_drawn c_drawn, State.without_upd_lpe c_lpe, sampleStart_writes (P := P) c_drawn c_lpe, injSignal_writes (P := P) c_drawn, runOps_writes (P := P) h_EVT_PEND h_LPE_SATST h_LPE_STAT c_lpe, injAdvance_writes (P := P) c_lpe, overwrite_writes (P := P) c_lpe, captureSample_writes (P := P) h_LPE_CAPSTAT c_drawn c_lpe, superviseLane_writes (P := P) h_LPE_FEST c_lpe, keepResults_writes (P := P) c_lpe, State.without_when_if, State.without_ite, ite_self])); done)) only [State.without_each, State.without_eachOf, State.without_upd_drawn c_drawn, State.without_upd_lpe c_lpe, sampleStart_writes (P := P) c_drawn c_lpe, injSignal_writes (P := P) c_drawn, runOps_writes (P := P) h_EVT_PEND h_LPE_SATST h_LPE_STAT c_lpe, injAdvance_writes (P := P) c_lpe, overwrite_writes (P := P) c_lpe, captureSample_writes (P := P) h_LPE_CAPSTAT c_drawn c_lpe, superviseLane_writes (P := P) h_LPE_FEST c_lpe, keepResults_writes (P := P) c_lpe, State.without_when_if, State.without_ite, ite_self])

include h_EVT_PEND h_LPE_CAPSTAT h_LPE_FEST h_LPE_SATST h_LPE_STAT c_drawn c_lpe in
theorem batchRun_writes (s : State) :
    (batchRun s).without P = s.without P := by
  unfold batchRun
  (repeat' split) <;> simp only [State.without_upd_drawn c_drawn, State.without_upd_lpe c_lpe,
      runBatch_writes (P := P) h_EVT_PEND h_LPE_CAPSTAT h_LPE_FEST h_LPE_SATST h_LPE_STAT c_drawn c_lpe,
      State.without_ite, ite_self]

include h_EVT_PEND h_LPE_BSTAT h_LPE_STAT in
theorem overrun_writes (r : ReadyBatch) (s : State) :
    (overrun r s).without P = s.without P := by
  unfold overrun
  simp only [State.w_setB (fl := Fl.LPE_BSTAT_OVR) h_LPE_BSTAT (by decide),
      lpeCause_writes (P := P) h_EVT_PEND h_LPE_STAT, State.without_ite, ite_self]

include h_EVT_PEND h_LPE_BSTAT h_LPE_STAT c_lpe in
theorem handOutputs_writes (g : Nat) (s : State) :
    (handOutputs g s).without P = s.without P := by
  unfold handOutputs
  simp (disch := (intros; simp only [State.without_upd_lpe c_lpe, overrun_writes (P := P) h_EVT_PEND h_LPE_BSTAT h_LPE_STAT, State.without_ite, ite_self]; done)) only [State.without_each, State.without_eachOf, State.without_upd_lpe c_lpe, overrun_writes (P := P) h_EVT_PEND h_LPE_BSTAT h_LPE_STAT, State.without_ite, ite_self]

include h_CLN_CELLST c_cln in
theorem sendCommand_writes (j : Nat) (c : Nat) (s : State) :
    (sendCommand j c s).without P = s.without P := by
  unfold sendCommand
  (try simp only [State.w_setF (fl := Fl.CLN_CELLST_STATE) h_CLN_CELLST (by decide),
      State.w_setF (fl := Fl.CLN_CELLST_GROUPERR) h_CLN_CELLST (by decide),
      State.w_setB (fl := Fl.CLN_CELLST_STATE) h_CLN_CELLST (by decide),
      State.w_setB (fl := Fl.CLN_CELLST_GROUPERR) h_CLN_CELLST (by decide), State.without_upd_cln c_cln,
      State.without_ite,
      ite_self]) <;> (repeat' split) <;> simp only [State.w_setF (fl := Fl.CLN_CELLST_STATE) h_CLN_CELLST (by decide), State.w_setF (fl := Fl.CLN_CELLST_GROUPERR) h_CLN_CELLST (by decide), State.w_setB (fl := Fl.CLN_CELLST_STATE) h_CLN_CELLST (by decide), State.w_setB (fl := Fl.CLN_CELLST_GROUPERR) h_CLN_CELLST (by decide), State.without_upd_cln c_cln, State.without_ite, ite_self]

include h_CLN_CELLST c_cln in
theorem laneExchange_writes (j : Nat) (s : State) :
    (laneExchange j s).without P = s.without P := by
  unfold laneExchange
  simp (disch := (intros; simp only [State.without_upd_cln c_cln, State.setLn_writes (P := P) c_cln, sendCommand_writes (P := P) h_CLN_CELLST c_cln, State.without_ite, ite_self]; done)) only [State.without_each, State.without_eachOf, State.without_upd_cln c_cln, State.setLn_writes (P := P) c_cln, sendCommand_writes (P := P) h_CLN_CELLST c_cln, State.without_ite, ite_self]

include h_CLN_CELLST h_EVT_PEND h_LPE_BSTAT h_LPE_STAT c_cln c_lpe in
theorem outputLaunch_writes (g : Nat) (s : State) :
    (outputLaunch g s).without P = s.without P := by
  unfold outputLaunch
  simp (disch := (intros; simp only [State.without_upd_cln c_cln, State.without_upd_lpe c_lpe, handOutputs_writes (P := P) h_EVT_PEND h_LPE_BSTAT h_LPE_STAT c_lpe, laneExchange_writes (P := P) h_CLN_CELLST c_cln, State.without_ite, ite_self]; done)) only [State.without_each, State.without_eachOf, State.without_upd_cln c_cln, State.without_upd_lpe c_lpe, handOutputs_writes (P := P) h_EVT_PEND h_LPE_BSTAT h_LPE_STAT c_lpe, laneExchange_writes (P := P) h_CLN_CELLST c_cln, State.without_ite, ite_self]

include c_busError in
theorem guestGate_writes (guest : Bool) (f : State → State) (hf : ∀ s, (f s).without P = s.without P) (s : State) :
    (guestGate guest f s).without P = s.without P := by
  unfold guestGate
  split <;> simp only [hf, State.without_upd_busError c_busError, State.without_ite, ite_self]

include h_EVT_PEND h_LPE_BATCH h_LPE_BSTAT h_LPE_LOAD h_LPE_STAT h_LPE_TLOAD c_busError c_lpe in
theorem batchField_writes (fl : Fld) (b : Nat) (v : Nat) (s : State) :
    (batchField fl b v s).without P = s.without P := by
  unfold batchField
  simp (disch := (intros; simp only [State.without_upd_busError c_busError, State.without_upd_lpe c_lpe, guestGate_writes (P := P) c_busError, batchWrite_writes (P := P) h_EVT_PEND h_LPE_BATCH h_LPE_BSTAT h_LPE_LOAD h_LPE_STAT h_LPE_TLOAD c_lpe, State.without_ite, ite_self]; done)) only [State.without_each, State.without_eachOf, State.without_upd_busError c_busError, State.without_upd_lpe c_lpe, guestGate_writes (P := P) c_busError, batchWrite_writes (P := P) h_EVT_PEND h_LPE_BATCH h_LPE_BSTAT h_LPE_LOAD h_LPE_STAT h_LPE_TLOAD c_lpe, State.without_ite, ite_self]

include h_EVT_PEND h_LPE_BSTAT h_LPE_CWSTAT h_LPE_GROUP h_LPE_LOAD h_LPE_STAT h_LPE_TLOAD c_busError c_lpe in
theorem groupField_writes (fl : Fld) (g : Nat) (v : Nat) (s : State) :
    (groupField fl g v s).without P = s.without P := by
  unfold groupField
  simp (disch := (intros; simp only [State.without_upd_busError c_busError, State.without_upd_lpe c_lpe, guestGate_writes (P := P) c_busError, groupWrite_writes (P := P) h_EVT_PEND h_LPE_BSTAT h_LPE_CWSTAT h_LPE_GROUP h_LPE_LOAD h_LPE_STAT h_LPE_TLOAD c_lpe, State.without_ite, ite_self]; done)) only [State.without_each, State.without_eachOf, State.without_upd_busError c_busError, State.without_upd_lpe c_lpe, guestGate_writes (P := P) c_busError, groupWrite_writes (P := P) h_EVT_PEND h_LPE_BSTAT h_LPE_CWSTAT h_LPE_GROUP h_LPE_LOAD h_LPE_STAT h_LPE_TLOAD c_lpe, State.without_ite, ite_self]

include c_prt in
theorem removeCell_writes (c : Nat) (reason : Nat) (s : State) :
    (removeCell c reason s).without P = s.without P := by
  unfold removeCell
  simp only [State.without_upd_prt c_prt, State.without_ite, ite_self]

include h_EVT_PEND h_LSW_CHSTAT h_PRT_GCAUSE h_PRT_GSTAT h_PRT_IAPP h_PRT_VAPP c_lpe c_lsw c_prt in
theorem feEffect_writes (action : Nat) (slot : Nat) (s : State) :
    (feEffect action slot s).without P = s.without P := by
  unfold feEffect
  (repeat' split) <;> simp only [State.without_upd_lpe c_lpe, State.without_upd_lsw c_lsw,
      State.without_upd_prt c_prt, initSlots_writes (P := P) c_lpe, raiseReef_writes (P := P) h_PRT_GSTAT,
      removeCell_writes (P := P) c_prt,
      groupStop_writes (P := P) h_EVT_PEND h_LSW_CHSTAT h_PRT_GCAUSE h_PRT_GSTAT h_PRT_IAPP h_PRT_VAPP c_lsw c_prt,
      State.without_ite, ite_self]

include h_EVT_PEND h_LPE_FEST h_LPE_STAT h_LSW_CHSTAT h_PRT_GCAUSE h_PRT_GSTAT h_PRT_IAPP h_PRT_VAPP c_lpe c_lsw
    c_prt in
theorem followingError_writes (slot : Nat) (s : State) :
    (followingError slot s).without P = s.without P := by
  unfold followingError
  simp only [State.w_setFBit (fl := Fl.LPE_FEST_ACTED) h_LPE_FEST (by decide), State.without_upd_lpe c_lpe,
      State.without_upd_lsw c_lsw, State.without_upd_prt c_prt, lpeCause_writes (P := P) h_EVT_PEND h_LPE_STAT,
      feEffect_writes (P := P) h_EVT_PEND h_LSW_CHSTAT h_PRT_GCAUSE h_PRT_GSTAT h_PRT_IAPP h_PRT_VAPP c_lpe c_lsw c_prt, State.without_ite, ite_self]

include h_LPE_GROUP c_lpe in
theorem halveGroup_writes (g : Nat) (s : State) :
    (halveGroup g s).without P = s.without P := by
  unfold halveGroup
  simp only [State.w_setF (fl := Fl.LPE_GROUP_BANK) h_LPE_GROUP (by decide),
      State.w_setF (fl := Fl.LPE_GROUP_HALF) h_LPE_GROUP (by decide),
      State.w_setB (fl := Fl.LPE_GROUP_BANK) h_LPE_GROUP (by decide),
      State.w_setB (fl := Fl.LPE_GROUP_HALF) h_LPE_GROUP (by decide), State.without_upd_lpe c_lpe,
      State.setLg_writes (P := P) c_lpe, State.without_ite, ite_self]

include h_LPE_BSTAT c_lpe in
theorem guestBatch_writes (b : Nat) (s : State) :
    (guestBatch b s).without P = s.without P := by
  unfold guestBatch
  simp only [State.w_setF (fl := Fl.LPE_BSTAT_STATE) h_LPE_BSTAT (by decide), State.without_upd_lpe c_lpe,
      initSlots_writes (P := P) c_lpe, State.setLb_writes (P := P) c_lpe, State.without_ite, ite_self]

include h_EVT_PEND h_LPE_BATCH h_LPE_BSTAT h_LPE_STAT c_prt in
theorem shedBatch_writes (b : Nat) (s : State) :
    (shedBatch b s).without P = s.without P := by
  unfold shedBatch
  simp (disch := (intros; simp only [State.w_setF (fl := Fl.LPE_BSTAT_STATE) h_LPE_BSTAT (by decide), State.w_setF (fl := Fl.LPE_BATCH_EN) h_LPE_BATCH (by decide), State.w_setB (fl := Fl.LPE_BSTAT_STATE) h_LPE_BSTAT (by decide), State.w_setB (fl := Fl.LPE_BATCH_EN) h_LPE_BATCH (by decide), State.without_upd_prt c_prt, removeCell_writes (P := P) c_prt, lpeCause_writes (P := P) h_EVT_PEND h_LPE_STAT, State.without_ite, ite_self]; done)) only [State.without_each, State.without_eachOf, State.w_setF (fl := Fl.LPE_BSTAT_STATE) h_LPE_BSTAT (by decide), State.w_setF (fl := Fl.LPE_BATCH_EN) h_LPE_BATCH (by decide), State.w_setB (fl := Fl.LPE_BSTAT_STATE) h_LPE_BSTAT (by decide), State.w_setB (fl := Fl.LPE_BATCH_EN) h_LPE_BATCH (by decide), State.without_upd_prt c_prt, removeCell_writes (P := P) c_prt, lpeCause_writes (P := P) h_EVT_PEND h_LPE_STAT, State.without_ite, ite_self]

include h_EVT_PEND h_LPE_BATCH h_LPE_BSTAT h_LPE_STAT c_prt in
theorem shedGuests_writes (s : State) :
    (shedGuests s).without P = s.without P := by
  have h : ∀ (l : List Nat) (s : State), (l.foldl (fun s i =>
    if s.loadOk && s.launchOk || !s.b Fl.LPE_BATCH_EN (63 - i) then s else shedBatch (63 - i) s) s).without P =
      s.without P := fun l => by
    induction l with
    | nil => intro s; rfl
    | cons i l ih => intro s; simp only [List.foldl_cons, ih]; split <;> simp only [State.without_upd_prt c_prt,
        shedBatch_writes (P := P) h_EVT_PEND h_LPE_BATCH h_LPE_BSTAT h_LPE_STAT c_prt, State.without_ite, ite_self]
  exact h _ _

include h_EVT_PEND h_LPE_BATCH h_LPE_BSTAT h_LPE_GROUP h_LPE_LOAD h_LPE_STAT h_LPE_TAKE h_LPE_TLOAD c_lpe c_prt in
theorem takeoverStart_writes (s : State) :
    (takeoverStart s).without P = s.without P := by
  unfold takeoverStart
  simp (disch := (intros; simp only [State.w_setB (fl := Fl.LPE_TAKE_ACTIVE) h_LPE_TAKE (by decide), State.without_upd_lpe c_lpe, State.without_upd_prt c_prt, halveGroup_writes (P := P) h_LPE_GROUP c_lpe, State.setLg_writes (P := P) c_lpe, guestBatch_writes (P := P) h_LPE_BSTAT c_lpe, showLoad_writes (P := P) h_EVT_PEND h_LPE_LOAD h_LPE_STAT h_LPE_TLOAD, shedGuests_writes (P := P) h_EVT_PEND h_LPE_BATCH h_LPE_BSTAT h_LPE_STAT c_prt, State.without_ite, ite_self]; done)) only [State.without_each, State.without_eachOf, State.w_setB (fl := Fl.LPE_TAKE_ACTIVE) h_LPE_TAKE (by decide), State.without_upd_lpe c_lpe, State.without_upd_prt c_prt, halveGroup_writes (P := P) h_LPE_GROUP c_lpe, State.setLg_writes (P := P) c_lpe, guestBatch_writes (P := P) h_LPE_BSTAT c_lpe, showLoad_writes (P := P) h_EVT_PEND h_LPE_LOAD h_LPE_STAT h_LPE_TLOAD, shedGuests_writes (P := P) h_EVT_PEND h_LPE_BATCH h_LPE_BSTAT h_LPE_STAT c_prt, State.without_ite, ite_self]

include h_EVT_PEND h_LPE_BSTAT h_LPE_GROUP h_LPE_LOAD h_LPE_STAT h_LPE_TAKE h_LPE_TLOAD c_lpe in
theorem takeoverReturn_writes (s : State) :
    (takeoverReturn s).without P = s.without P := by
  unfold takeoverReturn
  simp (disch := (intros; simp only [State.w_setF (fl := Fl.LPE_GROUP_BANK) h_LPE_GROUP (by decide), State.w_setF (fl := Fl.LPE_GROUP_HALF) h_LPE_GROUP (by decide), State.w_setF (fl := Fl.LPE_BSTAT_STATE) h_LPE_BSTAT (by decide), State.w_setF (fl := Fl.LPE_TAKE_ACTIVE) h_LPE_TAKE (by decide), State.w_setB (fl := Fl.LPE_GROUP_BANK) h_LPE_GROUP (by decide), State.w_setB (fl := Fl.LPE_GROUP_HALF) h_LPE_GROUP (by decide), State.w_setB (fl := Fl.LPE_BSTAT_STATE) h_LPE_BSTAT (by decide), State.w_setB (fl := Fl.LPE_TAKE_ACTIVE) h_LPE_TAKE (by decide), State.without_upd_lpe c_lpe, State.setLg_writes (P := P) c_lpe, showLoad_writes (P := P) h_EVT_PEND h_LPE_LOAD h_LPE_STAT h_LPE_TLOAD, State.without_ite, ite_self]; done)) only [State.without_each, State.without_eachOf, State.w_setF (fl := Fl.LPE_GROUP_BANK) h_LPE_GROUP (by decide), State.w_setF (fl := Fl.LPE_GROUP_HALF) h_LPE_GROUP (by decide), State.w_setF (fl := Fl.LPE_BSTAT_STATE) h_LPE_BSTAT (by decide), State.w_setF (fl := Fl.LPE_TAKE_ACTIVE) h_LPE_TAKE (by decide), State.w_setB (fl := Fl.LPE_GROUP_BANK) h_LPE_GROUP (by decide), State.w_setB (fl := Fl.LPE_GROUP_HALF) h_LPE_GROUP (by decide), State.w_setB (fl := Fl.LPE_BSTAT_STATE) h_LPE_BSTAT (by decide), State.w_setB (fl := Fl.LPE_TAKE_ACTIVE) h_LPE_TAKE (by decide), State.without_upd_lpe c_lpe, State.setLg_writes (P := P) c_lpe, showLoad_writes (P := P) h_EVT_PEND h_LPE_LOAD h_LPE_STAT h_LPE_TLOAD, State.without_ite, ite_self]

include h_CLN_CELLST h_CLN_LANEEV h_EVT_PEND c_cln in
theorem cellRefuse_writes (j : Nat) (c : Nat) (reason : Nat) (s : State) :
    (cellRefuse j c reason s).without P = s.without P := by
  unfold cellRefuse
  simp only [State.w_setF (fl := Fl.CLN_CELLST_REFUSE) h_CLN_CELLST (by decide),
      State.w_setF (fl := Fl.CLN_CELLST_STATE) h_CLN_CELLST (by decide), State.without_upd_cln c_cln,
      clnCause_writes (P := P) h_CLN_LANEEV h_EVT_PEND, State.without_ite, ite_self]

include h_CLN_CELLST h_CLN_LANEEV h_CLN_LANESTAT h_EVT_PEND c_cln in
theorem selectCells_writes (j : Nat) (s : State) :
    (selectCells j s).without P = s.without P := by
  have ht : ∀ (j rate fmt n : Nat) (l : List (Nat × Nat × List Byte)) (s : State),
      (trimCells j rate fmt n l s).2.without P = s.without P := by
    intro j rate fmt n
    induction n with
    | zero => intro l s; rfl
    | succ n ih =>
      intro l s
      unfold trimCells
      (repeat' split) <;> simp only [ih, cellRefuse_writes h_CLN_CELLST h_CLN_LANEEV h_EVT_PEND c_cln]
  have he : ∀ (e : Nat × Nat × List Byte) (s : State), ({ s with cln.caps := cellsInsert s.cln.caps e.2.1 e.2.2 } : State).without P = s.without P :=
    fun e s => State.without_upd_cln c_cln s _
  unfold selectCells
  simp only [State.without_eachOf he, ht, State.w_setF (fl := Fl.CLN_LANESTAT_NCELL) h_CLN_LANESTAT (by decide),
      State.w_setF (fl := Fl.CLN_LANESTAT_FMT) h_CLN_LANESTAT (by decide),
      State.w_setF (fl := Fl.CLN_LANESTAT_RATE) h_CLN_LANESTAT (by decide),
      State.w_setB (fl := Fl.CLN_LANESTAT_NCELL) h_CLN_LANESTAT (by decide),
      State.w_setB (fl := Fl.CLN_LANESTAT_FMT) h_CLN_LANESTAT (by decide),
      State.w_setB (fl := Fl.CLN_LANESTAT_RATE) h_CLN_LANESTAT (by decide), State.without_upd_cln c_cln,
      State.setLn_writes (P := P) c_cln, State.without_ite, ite_self]

include h_CLN_CELLST h_CLN_LANEEV h_CLN_LANESTAT h_CLN_LANETIM h_EVT_PEND c_cln in
theorem rangingEnd_writes (j : Nat) (s : State) :
    (rangingEnd j s).without P = s.without P := by
  have ht : ∀ (j rate fmt n : Nat) (l : List (Nat × Nat × List Byte)) (s : State),
      (trimCells j rate fmt n l s).2.without P = s.without P := by
    intro j rate fmt n
    induction n with
    | zero => intro l s; rfl
    | succ n ih =>
      intro l s
      unfold trimCells
      (repeat' split) <;> simp only [ih, cellRefuse_writes h_CLN_CELLST h_CLN_LANEEV h_EVT_PEND c_cln]
  unfold rangingEnd
  (try simp only [ht, State.w_setF (fl := Fl.CLN_LANETIM_DMAX) h_CLN_LANETIM (by decide),
      State.w_setF (fl := Fl.CLN_LANESTAT_NCELL) h_CLN_LANESTAT (by decide),
      State.w_setF (fl := Fl.CLN_LANETIM_TFAR) h_CLN_LANETIM (by decide), State.without_upd_cln c_cln,
      State.setLn_writes (P := P) c_cln, clnCause_writes (P := P) h_CLN_LANEEV h_EVT_PEND, State.without_ite,
      ite_self]) <;> (repeat' split) <;> (try simp only [ht,
      State.w_setF (fl := Fl.CLN_LANETIM_DMAX) h_CLN_LANETIM (by decide),
      State.w_setF (fl := Fl.CLN_LANESTAT_NCELL) h_CLN_LANESTAT (by decide),
      State.w_setF (fl := Fl.CLN_LANETIM_TFAR) h_CLN_LANETIM (by decide), State.without_upd_cln c_cln,
      State.setLn_writes (P := P) c_cln, clnCause_writes (P := P) h_CLN_LANEEV h_EVT_PEND, State.without_ite,
      ite_self])

include h_CLN_CELLST h_CLN_LANEEV h_CLN_LANESTAT h_CLN_STAT h_EVT_PEND c_cln in
theorem laneReady_writes (j : Nat) (s : State) :
    (laneReady j s).without P = s.without P := by
  unfold laneReady
  simp (disch := (intros; simp only [State.w_setF (fl := Fl.CLN_STAT_READY) h_CLN_STAT (by decide), State.w_setF (fl := Fl.CLN_LANESTAT_STATE) h_CLN_LANESTAT (by decide), State.w_setF (fl := Fl.CLN_CELLST_STATE) h_CLN_CELLST (by decide), State.w_setFBit (fl := Fl.CLN_STAT_READY) h_CLN_STAT (by decide), State.w_setFBit (fl := Fl.CLN_LANESTAT_STATE) h_CLN_LANESTAT (by decide), State.w_setFBit (fl := Fl.CLN_CELLST_STATE) h_CLN_CELLST (by decide), State.without_upd_cln c_cln, State.setLn_writes (P := P) c_cln, clnCause_writes (P := P) h_CLN_LANEEV h_EVT_PEND, State.without_ite, ite_self]; done)) only [State.without_each, State.without_eachOf, State.w_setF (fl := Fl.CLN_STAT_READY) h_CLN_STAT (by decide), State.w_setF (fl := Fl.CLN_LANESTAT_STATE) h_CLN_LANESTAT (by decide), State.w_setF (fl := Fl.CLN_CELLST_STATE) h_CLN_CELLST (by decide), State.w_setFBit (fl := Fl.CLN_STAT_READY) h_CLN_STAT (by decide), State.w_setFBit (fl := Fl.CLN_LANESTAT_STATE) h_CLN_LANESTAT (by decide), State.w_setFBit (fl := Fl.CLN_CELLST_STATE) h_CLN_CELLST (by decide), State.without_upd_cln c_cln, State.setLn_writes (P := P) c_cln, clnCause_writes (P := P) h_CLN_LANEEV h_EVT_PEND, State.without_ite, ite_self]

include h_CLN_CELLST h_CLN_LANEEV h_CLN_LANESTAT h_CLN_LANETIM h_CLN_STAT h_EVT_PEND h_LPE_BSTAT h_LPE_CWSTAT c_cln
    c_lpe in
theorem linkStep_writes (j : Nat) (nEnum : Nat) (s : State) :
    (linkStep j nEnum s).without P = s.without P := by
  have he : ∀ (c : Nat) (s : State), (s.setF Fl.CLN_CELLST_STATE c 0).without P = s.without P := fun c s =>
    State.w_setF (fl := Fl.CLN_CELLST_STATE) h_CLN_CELLST (by decide) s c 0
  unfold linkStep
  (try simp only [State.without_eachOf he, State.w_setF (fl := Fl.CLN_LANESTAT_NENUM) h_CLN_LANESTAT (by decide),
      State.w_setF (fl := Fl.CLN_CELLST_STATE) h_CLN_CELLST (by decide), State.without_upd_cln c_cln,
      State.without_upd_lpe c_lpe,
      laneDown_writes (P := P) h_CLN_CELLST h_CLN_LANEEV h_CLN_LANESTAT h_CLN_STAT h_EVT_PEND h_LPE_BSTAT h_LPE_CWSTAT c_cln c_lpe, selectCells_writes (P := P) h_CLN_CELLST h_CLN_LANEEV h_CLN_LANESTAT h_EVT_PEND c_cln, rangingEnd_writes (P := P) h_CLN_CELLST h_CLN_LANEEV h_CLN_LANESTAT h_CLN_LANETIM h_EVT_PEND c_cln, State.setLn_writes (P := P) c_cln, laneReady_writes (P := P) h_CLN_CELLST h_CLN_LANEEV h_CLN_LANESTAT h_CLN_STAT h_EVT_PEND c_cln, State.without_ite, ite_self]) <;> (repeat' split) <;> (try simp only [State.without_eachOf he, State.w_setF (fl := Fl.CLN_LANESTAT_NENUM) h_CLN_LANESTAT (by decide), State.w_setF (fl := Fl.CLN_CELLST_STATE) h_CLN_CELLST (by decide), State.without_upd_cln c_cln, State.without_upd_lpe c_lpe, laneDown_writes (P := P) h_CLN_CELLST h_CLN_LANEEV h_CLN_LANESTAT h_CLN_STAT h_EVT_PEND h_LPE_BSTAT h_LPE_CWSTAT c_cln c_lpe, selectCells_writes (P := P) h_CLN_CELLST h_CLN_LANEEV h_CLN_LANESTAT h_EVT_PEND c_cln, rangingEnd_writes (P := P) h_CLN_CELLST h_CLN_LANEEV h_CLN_LANESTAT h_CLN_LANETIM h_EVT_PEND c_cln, State.setLn_writes (P := P) c_cln, laneReady_writes (P := P) h_CLN_CELLST h_CLN_LANEEV h_CLN_LANESTAT h_CLN_STAT h_EVT_PEND c_cln, State.without_ite, ite_self])

include h_CLN_CAP in
theorem showCap_writes (c : Nat) (r : List Byte) (s : State) :
    (showCap c r s).without P = s.without P := by
  unfold showCap
  simp (disch := (intros; simp only [State.w_setReg (r := R.CLN_CAP) h_CLN_CAP (by decide), State.without_ite, ite_self]; done)) only [State.without_each, State.without_eachOf, State.w_setReg (r := R.CLN_CAP) h_CLN_CAP (by decide), State.without_ite, ite_self]

include h_CLN_CAP h_CLN_CELLST h_CLN_LANEEV h_EVT_PEND c_cln in
theorem capStart_writes (j : Nat) (pos : Nat) (r : List Byte) (s : State) :
    (capStart j pos r s).without P = s.without P := by
  unfold capStart
  simp (disch := (intros; simp only [State.without_upd_cln c_cln, showCap_writes (P := P) h_CLN_CAP, cellRefuse_writes (P := P) h_CLN_CELLST h_CLN_LANEEV h_EVT_PEND c_cln, State.setLn_writes (P := P) c_cln, State.without_when_if, State.without_ite, ite_self]; done)) only [State.without_each, State.without_eachOf, State.without_upd_cln c_cln, showCap_writes (P := P) h_CLN_CAP, cellRefuse_writes (P := P) h_CLN_CELLST h_CLN_LANEEV h_EVT_PEND c_cln, State.setLn_writes (P := P) c_cln, State.without_when_if, State.without_ite, ite_self]

include h_CLN_CELLST h_CLN_LANEEV h_EVT_PEND c_cln in
theorem capReadmit_writes (j : Nat) (pos : Nat) (r : List Byte) (s : State) :
    (capReadmit j pos r s).without P = s.without P := by
  unfold capReadmit
  (repeat' split) <;> simp only [State.without_upd_cln c_cln, State.setLn_writes (P := P) c_cln,
      cellRefuse_writes (P := P) h_CLN_CELLST h_CLN_LANEEV h_EVT_PEND c_cln, State.without_ite, ite_self]

include h_CLN_LANETIM c_cln in
theorem rangeEcho_writes (j : Nat) (pos : Option Nat) (roundTrip : Nat) (s : State) :
    (rangeEcho j pos roundTrip s).without P = s.without P := by
  unfold rangeEcho
  (try simp only [State.w_setF (fl := Fl.CLN_LANETIM_TFAR) h_CLN_LANETIM (by decide),
      State.w_setF (fl := Fl.CLN_LANETIM_DMAX) h_CLN_LANETIM (by decide), State.without_upd_cln c_cln,
      State.setLn_writes (P := P) c_cln, State.without_ite,
      ite_self]) <;> (repeat' split) <;> simp only [State.w_setF (fl := Fl.CLN_LANETIM_TFAR) h_CLN_LANETIM (by decide), State.w_setF (fl := Fl.CLN_LANETIM_DMAX) h_CLN_LANETIM (by decide), State.without_upd_cln c_cln, State.setLn_writes (P := P) c_cln, State.without_ite, ite_self]

theorem countUp_writes {P : Part} {fl : Fld} (h : P.regs fl.reg.addr = true) (hc : fl.reg.count ≤ 65536) (j : Nat) (s
    : State) :
    (countUp fl j s).without P = s.without P := by
  unfold countUp; exact State.w_satF h hc _ _ _

include h_CLN_ERRA c_cln in
theorem telemetryFrame_writes (j : Nat) (pos : Nat) (bytes : List Byte) (violation : Bool) (s : State) :
    (telemetryFrame j pos bytes violation s).without P = s.without P := by
  unfold telemetryFrame
  simp only [State.without_upd_cln c_cln, countUp_writes (fl := Fl.CLN_ERRA_CODEV) h_CLN_ERRA (by decide),
      countUp_writes (fl := Fl.CLN_ERRA_CRCUP) h_CLN_ERRA (by decide), State.setLn_writes (P := P) c_cln,
      State.without_ite, ite_self]

include h_CLN_CELLST h_CLN_ERRB c_cln c_lpe in
theorem takeTelemetry_writes (j : Nat) (c : Nat) (fmt : Nat) (p : List Byte) (s : State) :
    (takeTelemetry j c fmt p s).without P = s.without P := by
  unfold takeTelemetry
  simp only [State.w_setF (fl := Fl.CLN_CELLST_STALE) h_CLN_CELLST (by decide),
      State.w_setF (fl := Fl.CLN_CELLST_MISS) h_CLN_CELLST (by decide),
      State.w_setF (fl := Fl.CLN_CELLST_STAT) h_CLN_CELLST (by decide),
      State.w_setF (fl := Fl.CLN_ERRB_CRCDN) h_CLN_ERRB (by decide), State.without_upd_cln c_cln,
      State.without_upd_lpe c_lpe, countUp_writes (fl := Fl.CLN_ERRB_CRCDN) h_CLN_ERRB (by decide),
      setCellIn_writes (P := P) c_lpe, State.without_when_if, State.without_ite, ite_self]

include h_CLN_CELLST h_CLN_ERRB h_CLN_LANEEV h_CLN_LANESTAT h_EVT_PEND c_cln c_lpe in
theorem exchangeEnd_writes (j : Nat) (s : State) :
    (exchangeEnd j s).without P = s.without P := by
  unfold exchangeEnd
  (try simp (disch := (intros; ((try simp only [State.w_setF (fl := Fl.CLN_CELLST_STALE) h_CLN_CELLST (by decide), State.w_setF (fl := Fl.CLN_LANESTAT_BREAKPOS) h_CLN_LANESTAT (by decide), State.w_setF (fl := Fl.CLN_ERRB_MISSTEL) h_CLN_ERRB (by decide), State.without_upd_cln c_cln, State.without_upd_lpe c_lpe, countUp_writes (fl := Fl.CLN_ERRB_MISSTEL) h_CLN_ERRB (by decide), takeTelemetry_writes (P := P) h_CLN_CELLST h_CLN_ERRB c_cln c_lpe, clnCause_writes (P := P) h_CLN_LANEEV h_EVT_PEND, initSlots_writes (P := P) c_lpe, State.setLn_writes (P := P) c_cln, State.without_when_if, State.without_ite, ite_self]) <;> (repeat' split) <;> (try simp only [State.w_setF (fl := Fl.CLN_CELLST_STALE) h_CLN_CELLST (by decide), State.w_setF (fl := Fl.CLN_LANESTAT_BREAKPOS) h_CLN_LANESTAT (by decide), State.w_setF (fl := Fl.CLN_ERRB_MISSTEL) h_CLN_ERRB (by decide), State.without_upd_cln c_cln, State.without_upd_lpe c_lpe, countUp_writes (fl := Fl.CLN_ERRB_MISSTEL) h_CLN_ERRB (by decide), takeTelemetry_writes (P := P) h_CLN_CELLST h_CLN_ERRB c_cln c_lpe, clnCause_writes (P := P) h_CLN_LANEEV h_EVT_PEND, initSlots_writes (P := P) c_lpe, State.setLn_writes (P := P) c_cln, State.without_when_if, State.without_ite, ite_self])); done)) only [State.without_each, State.without_eachOf, State.w_setF (fl := Fl.CLN_CELLST_STALE) h_CLN_CELLST (by decide), State.w_setF (fl := Fl.CLN_LANESTAT_BREAKPOS) h_CLN_LANESTAT (by decide), State.w_setF (fl := Fl.CLN_ERRB_MISSTEL) h_CLN_ERRB (by decide), State.without_upd_cln c_cln, State.without_upd_lpe c_lpe, countUp_writes (fl := Fl.CLN_ERRB_MISSTEL) h_CLN_ERRB (by decide), takeTelemetry_writes (P := P) h_CLN_CELLST h_CLN_ERRB c_cln c_lpe, clnCause_writes (P := P) h_CLN_LANEEV h_EVT_PEND, initSlots_writes (P := P) c_lpe, State.setLn_writes (P := P) c_cln, State.without_when_if, State.without_ite, ite_self]) <;> (repeat' split) <;>
    (try simp (disch := (intros; ((try simp only [State.w_setF (fl := Fl.CLN_CELLST_STALE) h_CLN_CELLST (by decide), State.w_setF (fl := Fl.CLN_LANESTAT_BREAKPOS) h_CLN_LANESTAT (by decide), State.w_setF (fl := Fl.CLN_ERRB_MISSTEL) h_CLN_ERRB (by decide), State.without_upd_cln c_cln, State.without_upd_lpe c_lpe, countUp_writes (fl := Fl.CLN_ERRB_MISSTEL) h_CLN_ERRB (by decide), takeTelemetry_writes (P := P) h_CLN_CELLST h_CLN_ERRB c_cln c_lpe, clnCause_writes (P := P) h_CLN_LANEEV h_EVT_PEND, initSlots_writes (P := P) c_lpe, State.setLn_writes (P := P) c_cln, State.without_when_if, State.without_ite, ite_self]) <;> (repeat' split) <;> (try simp only [State.w_setF (fl := Fl.CLN_CELLST_STALE) h_CLN_CELLST (by decide), State.w_setF (fl := Fl.CLN_LANESTAT_BREAKPOS) h_CLN_LANESTAT (by decide), State.w_setF (fl := Fl.CLN_ERRB_MISSTEL) h_CLN_ERRB (by decide), State.without_upd_cln c_cln, State.without_upd_lpe c_lpe, countUp_writes (fl := Fl.CLN_ERRB_MISSTEL) h_CLN_ERRB (by decide), takeTelemetry_writes (P := P) h_CLN_CELLST h_CLN_ERRB c_cln c_lpe, clnCause_writes (P := P) h_CLN_LANEEV h_EVT_PEND, initSlots_writes (P := P) c_lpe, State.setLn_writes (P := P) c_cln, State.without_when_if, State.without_ite, ite_self])); done)) only [State.without_each, State.without_eachOf, State.w_setF (fl := Fl.CLN_CELLST_STALE) h_CLN_CELLST (by decide), State.w_setF (fl := Fl.CLN_LANESTAT_BREAKPOS) h_CLN_LANESTAT (by decide), State.w_setF (fl := Fl.CLN_ERRB_MISSTEL) h_CLN_ERRB (by decide), State.without_upd_cln c_cln, State.without_upd_lpe c_lpe, countUp_writes (fl := Fl.CLN_ERRB_MISSTEL) h_CLN_ERRB (by decide), takeTelemetry_writes (P := P) h_CLN_CELLST h_CLN_ERRB c_cln c_lpe, clnCause_writes (P := P) h_CLN_LANEEV h_EVT_PEND, initSlots_writes (P := P) c_lpe, State.setLn_writes (P := P) c_cln, State.without_when_if, State.without_ite, ite_self])

include h_CLN_CELLST h_CLN_LANEEV h_EVT_PEND c_prt in
theorem cellLost_writes (c : Nat) (s : State) :
    (cellLost c s).without P = s.without P := by
  unfold cellLost
  simp only [State.w_setF (fl := Fl.CLN_CELLST_STATE) h_CLN_CELLST (by decide), State.without_upd_prt c_prt,
      removeCell_writes (P := P) c_prt, clnCause_writes (P := P) h_CLN_LANEEV h_EVT_PEND, State.without_ite, ite_self]

include h_CLN_LANEEV h_EVT_PEND in
theorem errorThreshold_writes (j : Nat) (s : State) :
    (errorThreshold j s).without P = s.without P := by
  unfold errorThreshold
  simp only [clnCause_writes (P := P) h_CLN_LANEEV h_EVT_PEND, State.without_ite, ite_self]

include h_CLN_CELLST c_cln in
theorem readmitEnd_writes (c : Nat) (s : State) :
    (readmitEnd c s).without P = s.without P := by
  unfold readmitEnd
  simp only [State.w_setF (fl := Fl.CLN_CELLST_STALE) h_CLN_CELLST (by decide),
      State.w_setF (fl := Fl.CLN_CELLST_STATE) h_CLN_CELLST (by decide), State.without_upd_cln c_cln,
      State.setLn_writes (P := P) c_cln, State.without_ite, ite_self]

include h_CLN_CELLST h_CLN_LANEEV h_CLN_LANESTAT h_CLN_STAT h_EVT_PEND h_LPE_BSTAT h_LPE_CWSTAT c_cln c_lpe in
theorem laneStopped_writes (j : Nat) (elapsed : Bool) (s : State) :
    (laneStopped j elapsed s).without P = s.without P := by
  unfold laneStopped
  simp only [State.without_upd_cln c_cln, State.without_upd_lpe c_lpe,
      laneDown_writes (P := P) h_CLN_CELLST h_CLN_LANEEV h_CLN_LANESTAT h_CLN_STAT h_EVT_PEND h_LPE_BSTAT h_LPE_CWSTAT c_cln c_lpe, startLink_writes (P := P) h_CLN_CELLST h_CLN_LANESTAT c_cln, State.without_when_if, State.without_ite, ite_self]

include h_CLN_LANEEV h_CLN_LANESTAT h_EVT_PEND in
theorem laneTripLevel_writes (j : Nat) (low : Bool) (s : State) :
    (laneTripLevel j low s).without P = s.without P := by
  unfold laneTripLevel
  simp only [State.w_setB (fl := Fl.CLN_LANESTAT_TRIP) h_CLN_LANESTAT (by decide),
      clnCause_writes (P := P) h_CLN_LANEEV h_EVT_PEND, State.without_when_if, State.without_ite, ite_self]

include h_CLN_MGBUF h_CLN_MGSTAT c_cln in
theorem mgmtResponse_writes (status : Nat) (cstat : Byte) (data : List Byte) (s : State) :
    (mgmtResponse status cstat data s).without P = s.without P := by
  unfold mgmtResponse
  simp (disch := (intros; simp only [State.w_setF (fl := Fl.CLN_MGSTAT_CSTAT) h_CLN_MGSTAT (by decide), State.w_setFM (r := R.CLN_MGBUF) h_CLN_MGBUF (by decide), State.w_setReg (r := R.CLN_MGBUF) h_CLN_MGBUF (by decide), State.without_upd_cln c_cln, mgmtEnd_writes (P := P) h_CLN_MGSTAT c_cln, State.without_ite, ite_self]; done)) only [State.without_each, State.without_eachOf, State.w_setF (fl := Fl.CLN_MGSTAT_CSTAT) h_CLN_MGSTAT (by decide), State.w_setFM (r := R.CLN_MGBUF) h_CLN_MGBUF (by decide), State.w_setReg (r := R.CLN_MGBUF) h_CLN_MGBUF (by decide), State.without_upd_cln c_cln, mgmtEnd_writes (P := P) h_CLN_MGSTAT c_cln, State.without_ite, ite_self]

include h_CLN_ERRC h_CLN_MGSTAT c_cln in
theorem mgmtTimeout_writes (s : State) :
    (mgmtTimeout s).without P = s.without P := by
  unfold mgmtTimeout
  (repeat' split) <;> simp only [State.without_upd_cln c_cln,
      countUp_writes (fl := Fl.CLN_ERRC_MGTO) h_CLN_ERRC (by decide), mgmtEnd_writes (P := P) h_CLN_MGSTAT c_cln,
      State.without_ite, ite_self]

include h_CLN_CELLST h_CLN_LANEEV h_CLN_LANESTAT h_CLN_LANETIM h_EVT_PEND c_cln in
theorem guardActivate_writes (k : Nat) (s : State) :
    (guardActivate k s).without P = s.without P := by
  unfold guardActivate
  simp (disch := (intros; simp only [State.w_setF (fl := Fl.CLN_LANETIM_DMAX) h_CLN_LANETIM (by decide), State.w_setF (fl := Fl.CLN_LANESTAT_FMT) h_CLN_LANESTAT (by decide), State.w_setF (fl := Fl.CLN_LANESTAT_RATE) h_CLN_LANESTAT (by decide), State.w_setF (fl := Fl.CLN_LANESTAT_STATE) h_CLN_LANESTAT (by decide), State.w_setF (fl := Fl.CLN_LANESTAT_NCELL) h_CLN_LANESTAT (by decide), State.w_setF (fl := Fl.CLN_CELLST_STATE) h_CLN_CELLST (by decide), State.without_upd_cln c_cln, State.setLn_writes (P := P) c_cln, clnCause_writes (P := P) h_CLN_LANEEV h_EVT_PEND, State.without_ite, ite_self]; done)) only [State.without_each, State.without_eachOf, State.w_setF (fl := Fl.CLN_LANETIM_DMAX) h_CLN_LANETIM (by decide), State.w_setF (fl := Fl.CLN_LANESTAT_FMT) h_CLN_LANESTAT (by decide), State.w_setF (fl := Fl.CLN_LANESTAT_RATE) h_CLN_LANESTAT (by decide), State.w_setF (fl := Fl.CLN_LANESTAT_STATE) h_CLN_LANESTAT (by decide), State.w_setF (fl := Fl.CLN_LANESTAT_NCELL) h_CLN_LANESTAT (by decide), State.w_setF (fl := Fl.CLN_CELLST_STATE) h_CLN_CELLST (by decide), State.without_upd_cln c_cln, State.setLn_writes (P := P) c_cln, clnCause_writes (P := P) h_CLN_LANEEV h_EVT_PEND, State.without_ite, ite_self]

include h_EVT_PEND h_LPE_BATCH h_LPE_BSTAT h_LPE_LOAD h_LPE_STAT h_LPE_TLOAD h_LSW_CHSTAT h_PRT_GCAUSE h_PRT_GSTAT
    h_PRT_IAPP h_PRT_VAPP c_lpe c_lsw c_prt in
theorem enterTarget_writes (g : Nat) (st : Nat) (s : State) :
    (enterTarget g st s).without P = s.without P := by
  unfold enterTarget
  simp only [State.without_upd_lpe c_lpe, State.without_upd_lsw c_lsw, State.without_upd_prt c_prt,
      toPrecharge_writes (P := P) h_EVT_PEND h_LPE_BATCH h_LPE_BSTAT h_LPE_LOAD h_LPE_STAT h_LPE_TLOAD h_LSW_CHSTAT h_PRT_GCAUSE h_PRT_GSTAT h_PRT_IAPP h_PRT_VAPP c_lpe c_lsw c_prt, setMode_writes (P := P) h_EVT_PEND h_LPE_BATCH h_LPE_BSTAT h_LPE_LOAD h_LPE_STAT h_LPE_TLOAD h_LSW_CHSTAT h_PRT_GCAUSE h_PRT_GSTAT h_PRT_IAPP h_PRT_VAPP c_lpe c_lsw c_prt, toState_writes (P := P) h_EVT_PEND h_LSW_CHSTAT h_PRT_GCAUSE h_PRT_GSTAT h_PRT_IAPP h_PRT_VAPP c_lsw c_prt, State.without_ite, ite_self]

include h_EVT_PEND h_SFY_COIL h_SFY_PSTAT h_SFY_STAT c_prt in
theorem weldStart_writes (g : Nat) (step : Nat) (s : State) :
    (weldStart g step s).without P = s.without P := by
  unfold weldStart
  (repeat' split) <;> simp only [State.without_upd_prt c_prt, State.setPg_writes (P := P) c_prt,
      openRequest_writes (P := P) h_SFY_COIL h_SFY_PSTAT,
      closeRequest_writes (P := P) h_EVT_PEND h_SFY_COIL h_SFY_PSTAT h_SFY_STAT, State.without_ite, ite_self]

include h_EVT_PEND h_LSW_CHSTAT h_PRT_GCAUSE h_PRT_GSTAT h_PRT_IAPP h_PRT_VAPP c_lsw c_prt in
theorem unrequestedOpen_writes (g : Nat) (s : State) :
    (unrequestedOpen g s).without P = s.without P := by
  unfold unrequestedOpen
  simp only [State.without_upd_lsw c_lsw, State.without_upd_prt c_prt,
      prtCause_writes (P := P) h_EVT_PEND h_PRT_GCAUSE,
      toDischarge_writes (P := P) h_EVT_PEND h_LSW_CHSTAT h_PRT_GCAUSE h_PRT_GSTAT h_PRT_IAPP h_PRT_VAPP c_lsw c_prt,
      State.setPg_writes (P := P) c_prt, State.without_ite, ite_self]

include h_PRT_CTEL h_PRT_GTEL c_prt in
theorem averagePublish_writes (window : Nat) (s : State) :
    (averagePublish window s).without P = s.without P := by
  unfold averagePublish
  (try simp (disch := (intros; ((try simp (disch := (intros; ((try simp only [State.w_setReg (r := R.PRT_GTEL) h_PRT_GTEL (by decide), State.w_setReg (r := R.PRT_CTEL) h_PRT_CTEL (by decide), State.without_upd_prt c_prt, State.setPg_writes (P := P) c_prt, State.without_ite, ite_self]) <;> (repeat' split) <;> (try simp only [State.w_setReg (r := R.PRT_GTEL) h_PRT_GTEL (by decide), State.w_setReg (r := R.PRT_CTEL) h_PRT_CTEL (by decide), State.without_upd_prt c_prt, State.setPg_writes (P := P) c_prt, State.without_ite, ite_self])); done)) only [State.without_each, State.without_eachOf, State.w_setReg (r := R.PRT_GTEL) h_PRT_GTEL (by decide), State.w_setReg (r := R.PRT_CTEL) h_PRT_CTEL (by decide), State.without_upd_prt c_prt, State.setPg_writes (P := P) c_prt, State.without_ite, ite_self]) <;> (repeat' split) <;> (try simp (disch := (intros; ((try simp only [State.w_setReg (r := R.PRT_GTEL) h_PRT_GTEL (by decide), State.w_setReg (r := R.PRT_CTEL) h_PRT_CTEL (by decide), State.without_upd_prt c_prt, State.setPg_writes (P := P) c_prt, State.without_ite, ite_self]) <;> (repeat' split) <;> (try simp only [State.w_setReg (r := R.PRT_GTEL) h_PRT_GTEL (by decide), State.w_setReg (r := R.PRT_CTEL) h_PRT_CTEL (by decide), State.without_upd_prt c_prt, State.setPg_writes (P := P) c_prt, State.without_ite, ite_self])); done)) only [State.without_each, State.without_eachOf, State.w_setReg (r := R.PRT_GTEL) h_PRT_GTEL (by decide), State.w_setReg (r := R.PRT_CTEL) h_PRT_CTEL (by decide), State.without_upd_prt c_prt, State.setPg_writes (P := P) c_prt, State.without_ite, ite_self])); done)) only [State.without_each, State.without_eachOf, State.w_setReg (r := R.PRT_GTEL) h_PRT_GTEL (by decide), State.w_setReg (r := R.PRT_CTEL) h_PRT_CTEL (by decide), State.without_upd_prt c_prt, State.setPg_writes (P := P) c_prt, State.without_ite, ite_self]) <;> (repeat' split) <;>
    (try simp (disch := (intros; ((try simp (disch := (intros; ((try simp only [State.w_setReg (r := R.PRT_GTEL) h_PRT_GTEL (by decide), State.w_setReg (r := R.PRT_CTEL) h_PRT_CTEL (by decide), State.without_upd_prt c_prt, State.setPg_writes (P := P) c_prt, State.without_ite, ite_self]) <;> (repeat' split) <;> (try simp only [State.w_setReg (r := R.PRT_GTEL) h_PRT_GTEL (by decide), State.w_setReg (r := R.PRT_CTEL) h_PRT_CTEL (by decide), State.without_upd_prt c_prt, State.setPg_writes (P := P) c_prt, State.without_ite, ite_self])); done)) only [State.without_each, State.without_eachOf, State.w_setReg (r := R.PRT_GTEL) h_PRT_GTEL (by decide), State.w_setReg (r := R.PRT_CTEL) h_PRT_CTEL (by decide), State.without_upd_prt c_prt, State.setPg_writes (P := P) c_prt, State.without_ite, ite_self]) <;> (repeat' split) <;> (try simp (disch := (intros; ((try simp only [State.w_setReg (r := R.PRT_GTEL) h_PRT_GTEL (by decide), State.w_setReg (r := R.PRT_CTEL) h_PRT_CTEL (by decide), State.without_upd_prt c_prt, State.setPg_writes (P := P) c_prt, State.without_ite, ite_self]) <;> (repeat' split) <;> (try simp only [State.w_setReg (r := R.PRT_GTEL) h_PRT_GTEL (by decide), State.w_setReg (r := R.PRT_CTEL) h_PRT_CTEL (by decide), State.without_upd_prt c_prt, State.setPg_writes (P := P) c_prt, State.without_ite, ite_self])); done)) only [State.without_each, State.without_eachOf, State.w_setReg (r := R.PRT_GTEL) h_PRT_GTEL (by decide), State.w_setReg (r := R.PRT_CTEL) h_PRT_CTEL (by decide), State.without_upd_prt c_prt, State.setPg_writes (P := P) c_prt, State.without_ite, ite_self])); done)) only [State.without_each, State.without_eachOf, State.w_setReg (r := R.PRT_GTEL) h_PRT_GTEL (by decide), State.w_setReg (r := R.PRT_CTEL) h_PRT_CTEL (by decide), State.without_upd_prt c_prt, State.setPg_writes (P := P) c_prt, State.without_ite, ite_self])

end Sys2Proof.Machine
end

