-- ==== Sys2Proof/Laws/Writes4.lean ====
section
/-! SUPPORT. What each operation leaves unchanged (4 of 5): everything outside a part that holds what it writes. -/

set_option linter.all false

namespace Sys2Proof.Machine

variable {P : Part}
variable (h_ALC_CFG : P.regs R.ALC_CFG.addr = true) (h_ALC_CNT : P.regs R.ALC_CNT.addr = true)
variable (h_ALC_EPOCH : P.regs R.ALC_EPOCH.addr = true) (h_ALC_IDH : P.regs R.ALC_IDH.addr = true)
variable (h_ALC_IDL : P.regs R.ALC_IDL.addr = true) (h_ALC_MISS : P.regs R.ALC_MISS.addr = true)
variable (h_ALC_NODEST0 : P.regs R.ALC_NODEST0.addr = true) (h_ALC_NODEST1 : P.regs R.ALC_NODEST1.addr = true)
variable (h_ALC_PAPPLIED : P.regs R.ALC_PAPPLIED.addr = true) (h_ALC_PCFG : P.regs R.ALC_PCFG.addr = true)
variable (h_ALC_PGRANT : P.regs R.ALC_PGRANT.addr = true) (h_ALC_PLAST : P.regs R.ALC_PLAST.addr = true)
variable (h_ALC_PRAMP : P.regs R.ALC_PRAMP.addr = true) (h_ALC_PRATED : P.regs R.ALC_PRATED.addr = true)
variable (h_ALC_PREQ : P.regs R.ALC_PREQ.addr = true) (h_ALC_PSTAT : P.regs R.ALC_PSTAT.addr = true)
variable (h_ALC_SCFG : P.regs R.ALC_SCFG.addr = true) (h_ALC_SCHGPRICE : P.regs R.ALC_SCHGPRICE.addr = true)
variable (h_ALC_SDISPRICE : P.regs R.ALC_SDISPRICE.addr = true) (h_ALC_SEQ : P.regs R.ALC_SEQ.addr = true)
variable (h_ALC_SLAST : P.regs R.ALC_SLAST.addr = true) (h_ALC_SOFFER : P.regs R.ALC_SOFFER.addr = true)
variable (h_ALC_SRAMP : P.regs R.ALC_SRAMP.addr = true) (h_ALC_SSETPOINT : P.regs R.ALC_SSETPOINT.addr = true)
variable (h_ALC_SSTAT : P.regs R.ALC_SSTAT.addr = true) (h_ALC_STAT : P.regs R.ALC_STAT.addr = true)
variable (h_ALC_TREEDIG : P.regs R.ALC_TREEDIG.addr = true) (h_ALC_TSOLVE : P.regs R.ALC_TSOLVE.addr = true)
variable (h_ALC_WIN : P.regs R.ALC_WIN.addr = true) (h_BIL_ADAY : P.regs R.BIL_ADAY.addr = true)
variable (h_BIL_ARCH : P.regs R.BIL_ARCH.addr = true) (h_BIL_ASEA0 : P.regs R.BIL_ASEA0.addr = true)
variable (h_BIL_ASEA1 : P.regs R.BIL_ASEA1.addr = true) (h_BIL_ASPEC : P.regs R.BIL_ASPEC.addr = true)
variable (h_BIL_AWEEK0 : P.regs R.BIL_AWEEK0.addr = true) (h_BIL_AWEEK1 : P.regs R.BIL_AWEEK1.addr = true)
variable (h_BIL_DLAST : P.regs R.BIL_DLAST.addr = true) (h_BIL_DMAX0 : P.regs R.BIL_DMAX0.addr = true)
variable (h_BIL_DMAX1 : P.regs R.BIL_DMAX1.addr = true) (h_BIL_DPREV0 : P.regs R.BIL_DPREV0.addr = true)
variable (h_BIL_DPREV1 : P.regs R.BIL_DPREV1.addr = true) (h_BIL_DSTAT : P.regs R.BIL_DSTAT.addr = true)
variable (h_BIL_EBASE0H : P.regs R.BIL_EBASE0H.addr = true) (h_BIL_EBASE0L : P.regs R.BIL_EBASE0L.addr = true)
variable (h_BIL_EBASE1H : P.regs R.BIL_EBASE1H.addr = true) (h_BIL_EBASE1L : P.regs R.BIL_EBASE1L.addr = true)
variable (h_BIL_ISEQ : P.regs R.BIL_ISEQ.addr = true) (h_BIL_KOFFH : P.regs R.BIL_KOFFH.addr = true)
variable (h_BIL_KOFFL : P.regs R.BIL_KOFFL.addr = true) (h_BIL_NEXTH : P.regs R.BIL_NEXTH.addr = true)
variable (h_BIL_NEXTL : P.regs R.BIL_NEXTL.addr = true) (h_BIL_SENERGYH : P.regs R.BIL_SENERGYH.addr = true)
variable (h_BIL_SENERGYL : P.regs R.BIL_SENERGYL.addr = true) (h_BIL_SPAN0 : P.regs R.BIL_SPAN0.addr = true)
variable (h_BIL_SPAN1 : P.regs R.BIL_SPAN1.addr = true) (h_BIL_SSTARTH : P.regs R.BIL_SSTARTH.addr = true)
variable (h_BIL_SSTARTL : P.regs R.BIL_SSTARTL.addr = true) (h_BIL_STAT : P.regs R.BIL_STAT.addr = true)
variable (h_BIL_TCOUNT : P.regs R.BIL_TCOUNT.addr = true) (h_BIL_TDELH : P.regs R.BIL_TDELH.addr = true)
variable (h_BIL_TDELL : P.regs R.BIL_TDELL.addr = true) (h_BIL_TFIRSTH : P.regs R.BIL_TFIRSTH.addr = true)
variable (h_BIL_TFIRSTL : P.regs R.BIL_TFIRSTL.addr = true) (h_BIL_TLASTH : P.regs R.BIL_TLASTH.addr = true)
variable (h_BIL_TLASTL : P.regs R.BIL_TLASTL.addr = true) (h_BIL_TRECH : P.regs R.BIL_TRECH.addr = true)
variable (h_BIL_TRECL : P.regs R.BIL_TRECL.addr = true) (h_CLN_CELLMAP : P.regs R.CLN_CELLMAP.addr = true)
variable (h_CLN_LANECFG : P.regs R.CLN_LANECFG.addr = true) (h_EVT_PEND : P.regs R.EVT_PEND.addr = true)
variable (h_LPE_BATCH : P.regs R.LPE_BATCH.addr = true) (h_LPE_BSTAT : P.regs R.LPE_BSTAT.addr = true)
variable (h_LPE_FECFG : P.regs R.LPE_FECFG.addr = true) (h_LPE_GROUP : P.regs R.LPE_GROUP.addr = true)
variable (h_LPE_LOAD : P.regs R.LPE_LOAD.addr = true) (h_LPE_STAT : P.regs R.LPE_STAT.addr = true)
variable (h_LPE_TLOAD : P.regs R.LPE_TLOAD.addr = true) (h_LSW_CHSTAT : P.regs R.LSW_CHSTAT.addr = true)
variable (h_MTR_BNDCTL : P.regs R.MTR_BNDCTL.addr = true) (h_MTR_EDELH : P.regs R.MTR_EDELH.addr = true)
variable (h_MTR_EDELL : P.regs R.MTR_EDELL.addr = true) (h_MTR_EEXPH : P.regs R.MTR_EEXPH.addr = true)
variable (h_MTR_EEXPL : P.regs R.MTR_EEXPL.addr = true) (h_MTR_EIMPH : P.regs R.MTR_EIMPH.addr = true)
variable (h_MTR_EIMPL : P.regs R.MTR_EIMPL.addr = true) (h_MTR_ERECH : P.regs R.MTR_ERECH.addr = true)
variable (h_MTR_ERECL : P.regs R.MTR_ERECL.addr = true) (h_MTR_FOLD : P.regs R.MTR_FOLD.addr = true)
variable (h_MTR_FTI : P.regs R.MTR_FTI.addr = true) (h_MTR_FTV : P.regs R.MTR_FTV.addr = true)
variable (h_MTR_GFREQ : P.regs R.MTR_GFREQ.addr = true) (h_MTR_GP1 : P.regs R.MTR_GP1.addr = true)
variable (h_MTR_GRMSI : P.regs R.MTR_GRMSI.addr = true) (h_MTR_GRMSV : P.regs R.MTR_GRMSV.addr = true)
variable (h_MTR_GSTAT : P.regs R.MTR_GSTAT.addr = true) (h_MTR_MIRH : P.regs R.MTR_MIRH.addr = true)
variable (h_MTR_MIRL : P.regs R.MTR_MIRL.addr = true) (h_MTR_MP1 : P.regs R.MTR_MP1.addr = true)
variable (h_MTR_MSTAT : P.regs R.MTR_MSTAT.addr = true) (h_MTR_PCNT : P.regs R.MTR_PCNT.addr = true)
variable (h_MTR_RAWDELH : P.regs R.MTR_RAWDELH.addr = true) (h_MTR_RAWDELL : P.regs R.MTR_RAWDELL.addr = true)
variable (h_MTR_RAWRECH : P.regs R.MTR_RAWRECH.addr = true) (h_MTR_RAWRECL : P.regs R.MTR_RAWRECL.addr = true)
variable (h_MTR_RES0 : P.regs R.MTR_RES0.addr = true) (h_MTR_RESBH : P.regs R.MTR_RESBH.addr = true)
variable (h_MTR_RESBL : P.regs R.MTR_RESBL.addr = true) (h_MTR_RESEDH : P.regs R.MTR_RESEDH.addr = true)
variable (h_MTR_RESEDL : P.regs R.MTR_RESEDL.addr = true) (h_MTR_RESFRAC : P.regs R.MTR_RESFRAC.addr = true)
variable (h_MTR_STAT : P.regs R.MTR_STAT.addr = true) (h_MTR_XDEL : P.regs R.MTR_XDEL.addr = true)
variable (h_MTR_XEXP : P.regs R.MTR_XEXP.addr = true) (h_MTR_XIMP : P.regs R.MTR_XIMP.addr = true)
variable (h_MTR_XREC : P.regs R.MTR_XREC.addr = true) (h_PRT_CELL : P.regs R.PRT_CELL.addr = true)
variable (h_PRT_CIDENT : P.regs R.PRT_CIDENT.addr = true) (h_PRT_CNOM : P.regs R.PRT_CNOM.addr = true)
variable (h_PRT_DISCFG : P.regs R.PRT_DISCFG.addr = true) (h_PRT_EMAX : P.regs R.PRT_EMAX.addr = true)
variable (h_PRT_GCAUSE : P.regs R.PRT_GCAUSE.addr = true) (h_PRT_GCFG : P.regs R.PRT_GCFG.addr = true)
variable (h_PRT_GCMD : P.regs R.PRT_GCMD.addr = true) (h_PRT_GSTAT : P.regs R.PRT_GSTAT.addr = true)
variable (h_PRT_IAPP : P.regs R.PRT_IAPP.addr = true) (h_PRT_IRATED : P.regs R.PRT_IRATED.addr = true)
variable (h_PRT_ISET : P.regs R.PRT_ISET.addr = true) (h_PRT_ISHEET : P.regs R.PRT_ISHEET.addr = true)
variable (h_PRT_PCFG : P.regs R.PRT_PCFG.addr = true) (h_PRT_RATE : P.regs R.PRT_RATE.addr = true)
variable (h_PRT_RLL : P.regs R.PRT_RLL.addr = true) (h_PRT_TIMES : P.regs R.PRT_TIMES.addr = true)
variable (h_PRT_TREP : P.regs R.PRT_TREP.addr = true) (h_PRT_VAPP : P.regs R.PRT_VAPP.addr = true)
variable (h_PRT_VSET : P.regs R.PRT_VSET.addr = true) (h_RNG_SHSTAT : P.regs R.RNG_SHSTAT.addr = true)
variable (h_SFY_ACFG : P.regs R.SFY_ACFG.addr = true) (h_SFY_ASTAT : P.regs R.SFY_ASTAT.addr = true)
variable (h_SFY_COIL : P.regs R.SFY_COIL.addr = true) (h_SFY_DIAG : P.regs R.SFY_DIAG.addr = true)
variable (h_SFY_POS : P.regs R.SFY_POS.addr = true) (h_SFY_PSTAT : P.regs R.SFY_PSTAT.addr = true)
variable (h_SFY_SPD : P.regs R.SFY_SPD.addr = true) (h_SFY_SRC : P.regs R.SFY_SRC.addr = true)
variable (h_SFY_STAT : P.regs R.SFY_STAT.addr = true) (h_SFY_TGT3 : P.regs R.SFY_TGT3.addr = true)
variable (h_SFY_ZONE1 : P.regs R.SFY_ZONE1.addr = true) (h_SIG_JOBSTAT : P.regs R.SIG_JOBSTAT.addr = true)
variable (h_SIG_KSTAT : P.regs R.SIG_KSTAT.addr = true) (h_SIG_LIMITH : P.regs R.SIG_LIMITH.addr = true)
variable (h_SIG_LIMITL : P.regs R.SIG_LIMITL.addr = true) (h_SIG_NEXTH : P.regs R.SIG_NEXTH.addr = true)
variable (h_SIG_NEXTL : P.regs R.SIG_NEXTL.addr = true) (h_SIG_PUB : P.regs R.SIG_PUB.addr = true)
variable (h_SIG_RXNEXT : P.regs R.SIG_RXNEXT.addr = true) (h_SIG_STAT : P.regs R.SIG_STAT.addr = true)
variable (h_SIG_TLSSLOT : P.regs R.SIG_TLSSLOT.addr = true) (h_SYS_PWRCTL : P.regs R.SYS_PWRCTL.addr = true)
variable (h_SYS_PWRSTAT : P.regs R.SYS_PWRSTAT.addr = true) (h_SYS_SAVESTAT : P.regs R.SYS_SAVESTAT.addr = true)
variable (h_SYS_WAKESRC : P.regs R.SYS_WAKESRC.addr = true) (h_THM_CABLE : P.regs R.THM_CABLE.addr = true)
variable (h_THM_CAP : P.regs R.THM_CAP.addr = true) (h_THM_COEF : P.regs R.THM_COEF.addr = true)
variable (h_THM_FLOW : P.regs R.THM_FLOW.addr = true) (h_THM_FLOWCFG : P.regs R.THM_FLOWCFG.addr = true)
variable (h_THM_G12 : P.regs R.THM_G12.addr = true) (h_THM_IMAXH : P.regs R.THM_IMAXH.addr = true)
variable (h_THM_ISTAT : P.regs R.THM_ISTAT.addr = true) (h_THM_JSTAT : P.regs R.THM_JSTAT.addr = true)
variable (h_THM_LIM : P.regs R.THM_LIM.addr = true) (h_THM_OBS : P.regs R.THM_OBS.addr = true)
variable (h_THM_PCH : P.regs R.THM_PCH.addr = true) (h_THM_PSEN : P.regs R.THM_PSEN.addr = true)
variable (h_THM_PSTAT : P.regs R.THM_PSTAT.addr = true) (h_THM_R20 : P.regs R.THM_R20.addr = true)
variable (h_THM_REEF : P.regs R.THM_REEF.addr = true) (h_THM_SSTAT : P.regs R.THM_SSTAT.addr = true)
variable (h_THM_STAT : P.regs R.THM_STAT.addr = true) (h_THM_TEST : P.regs R.THM_TEST.addr = true)
variable (h_THM_WIN : P.regs R.THM_WIN.addr = true) (h_TIM_STAT : P.regs R.TIM_STAT.addr = true)
variable (h_VEH_CHKV : P.regs R.VEH_CHKV.addr = true) (h_VEH_EVI : P.regs R.VEH_EVI.addr = true)
variable (h_VEH_EVSOC : P.regs R.VEH_EVSOC.addr = true) (h_VEH_EVV : P.regs R.VEH_EVV.addr = true)
variable (h_VEH_FE : P.regs R.VEH_FE.addr = true) (h_VEH_LIMI : P.regs R.VEH_LIMI.addr = true)
variable (h_VEH_LIMP : P.regs R.VEH_LIMP.addr = true) (h_VEH_LIMV : P.regs R.VEH_LIMV.addr = true)
variable (h_VEH_LOOPCNT : P.regs R.VEH_LOOPCNT.addr = true) (h_VEH_RXADDR : P.regs R.VEH_RXADDR.addr = true)
variable (h_VEH_RXLEN : P.regs R.VEH_RXLEN.addr = true) (h_VEH_SCFG : P.regs R.VEH_SCFG.addr = true)
variable (h_VEH_SSTAT : P.regs R.VEH_SSTAT.addr = true) (h_VEH_STAT : P.regs R.VEH_STAT.addr = true)
variable (h_VEH_TXADDR : P.regs R.VEH_TXADDR.addr = true) (c_alc : P.alc = true) (c_bil : P.bil = true)
variable (c_cln : P.cln = true) (c_drawn : P.drawn = true) (c_harts : P.harts = true) (c_lpe : P.lpe = true)
variable (c_lsw : P.lsw = true) (c_mem : P.mem = true) (c_mtr : P.mtr = true) (c_prt : P.prt = true)
variable (c_rng : P.rng = true) (c_sfy : P.sfy = true) (c_sig : P.sig = true) (c_sys : P.sys = true)
variable (c_thm : P.thm = true) (c_time : P.time = true) (c_veh : P.veh = true)

include c_lpe in
theorem gridStart_writes (s : State) :
    (gridStart s).without P = s.without P := by
  unfold gridStart
  simp (disch := (intros; simp only [State.without_upd_lpe c_lpe, State.setLg_writes (P := P) c_lpe, State.without_ite, ite_self]; done)) only [State.without_each, State.without_eachOf, State.without_upd_lpe c_lpe, State.setLg_writes (P := P) c_lpe, State.without_ite, ite_self]

include h_ALC_PAPPLIED h_PRT_ISHEET c_alc in
theorem applyOverrun_writes (s : State) :
    (applyOverrun s).without P = s.without P := by
  unfold applyOverrun
  simp (disch := (intros; simp only [State.without_upd_alc c_alc, setSheet_writes (P := P) h_ALC_PAPPLIED h_PRT_ISHEET, State.without_ite, ite_self]; done)) only [State.without_each, State.without_eachOf, State.without_upd_alc c_alc, setSheet_writes (P := P) h_ALC_PAPPLIED h_PRT_ISHEET, State.without_ite, ite_self]

include h_ALC_PAPPLIED h_ALC_SSETPOINT h_ALC_STAT h_EVT_PEND h_PRT_ISET h_PRT_ISHEET c_alc in
theorem applyResult_writes (r : List (Prod Nat Int)) (s : State) :
    (applyResult r s).without P = s.without P := by
  unfold applyResult
  simp (disch := (intros; simp only [State.without_upd_alc c_alc, setSheet_writes (P := P) h_ALC_PAPPLIED h_PRT_ISHEET, setSetpoint_writes (P := P) h_ALC_SSETPOINT h_PRT_ISET, alcCause_writes (P := P) h_ALC_STAT h_EVT_PEND, State.without_ite, ite_self]; done)) only [State.without_each, State.without_eachOf, State.without_upd_alc c_alc, setSheet_writes (P := P) h_ALC_PAPPLIED h_PRT_ISHEET, setSetpoint_writes (P := P) h_ALC_SSETPOINT h_PRT_ISET, alcCause_writes (P := P) h_ALC_STAT h_EVT_PEND, State.without_ite, ite_self]

include h_ALC_PAPPLIED h_ALC_SSETPOINT h_PRT_ISET h_PRT_ISHEET in
theorem zeroSheets_writes (s : State) :
    (zeroSheets s).without P = s.without P := by
  unfold zeroSheets
  simp (disch := (intros; simp only [setSheet_writes (P := P) h_ALC_PAPPLIED h_PRT_ISHEET, setSetpoint_writes (P := P) h_ALC_SSETPOINT h_PRT_ISET, State.without_ite, ite_self]; done)) only [State.without_each, State.without_eachOf, setSheet_writes (P := P) h_ALC_PAPPLIED h_PRT_ISHEET, setSetpoint_writes (P := P) h_ALC_SSETPOINT h_PRT_ISET, State.without_ite, ite_self]

include h_ALC_PAPPLIED h_ALC_SSETPOINT h_ALC_STAT h_PRT_ISET h_PRT_ISHEET c_alc in
theorem finishAlloc_writes (s : State) :
    (finishAlloc s).without P = s.without P := by
  unfold finishAlloc
  (repeat' split) <;> simp only [State.w_setF (fl := Fl.ALC_STAT_STATE) h_ALC_STAT (by decide),
      State.without_upd_alc c_alc, zeroSheets_writes (P := P) h_ALC_PAPPLIED h_ALC_SSETPOINT h_PRT_ISET h_PRT_ISHEET,
      State.without_ite, ite_self]

include h_ALC_EPOCH h_ALC_STAT h_ALC_TSOLVE h_EVT_PEND c_alc in
theorem takeView_writes (s : State) :
    (takeView s).without P = s.without P := by
  unfold takeView
  simp only [State.w_setF (fl := Fl.ALC_STAT_GEN) h_ALC_STAT (by decide),
      State.w_setF (fl := Fl.ALC_EPOCH_EPOCH) h_ALC_EPOCH (by decide), State.without_upd_alc c_alc,
      alcCause_writes (P := P) h_ALC_STAT h_EVT_PEND, showBound_writes (P := P) h_ALC_TSOLVE, State.without_ite,
      ite_self]

include h_ALC_CFG c_alc in
theorem takePeriod_writes (s : State) :
    (takePeriod s).without P = s.without P := by
  unfold takePeriod
  (repeat' split) <;> simp only [State.w_setF (fl := Fl.ALC_CFG_PERIOD) h_ALC_CFG (by decide),
      State.without_upd_alc c_alc, State.without_ite, ite_self]

include h_ALC_STAT h_ALC_TREEDIG h_ALC_TSOLVE h_EVT_PEND c_alc in
theorem treeCommit_writes (s : State) :
    (treeCommit s).without P = s.without P := by
  unfold treeCommit
  simp only [State.w_setReg (r := R.ALC_TREEDIG) h_ALC_TREEDIG (by decide), State.without_upd_alc c_alc,
      showBound_writes (P := P) h_ALC_TSOLVE, alcCause_writes (P := P) h_ALC_STAT h_EVT_PEND, State.without_ite,
      ite_self]

include h_ALC_SEQ c_alc in
theorem takeSnapshot_writes (s : State) :
    (takeSnapshot s).without P = s.without P := by
  unfold takeSnapshot
  simp only [State.w_setF (fl := Fl.ALC_SEQ_SEQ) h_ALC_SEQ (by decide), State.without_upd_alc c_alc,
      State.without_ite, ite_self]

include h_ALC_CFG h_ALC_EPOCH h_ALC_PAPPLIED h_ALC_SEQ h_ALC_SSETPOINT h_ALC_STAT h_ALC_TREEDIG h_ALC_TSOLVE
    h_EVT_PEND h_PRT_ISET h_PRT_ISHEET c_alc c_lpe in
theorem periodStart_writes (s : State) :
    (periodStart s).without P = s.without P := by
  unfold periodStart
  (try simp only [State.without_upd_alc c_alc, State.without_upd_lpe c_lpe, gridStart_writes (P := P) c_lpe,
      applyOverrun_writes (P := P) h_ALC_PAPPLIED h_PRT_ISHEET c_alc,
      applyResult_writes (P := P) h_ALC_PAPPLIED h_ALC_SSETPOINT h_ALC_STAT h_EVT_PEND h_PRT_ISET h_PRT_ISHEET c_alc,
      zeroSheets_writes (P := P) h_ALC_PAPPLIED h_ALC_SSETPOINT h_PRT_ISET h_PRT_ISHEET,
      finishAlloc_writes (P := P) h_ALC_PAPPLIED h_ALC_SSETPOINT h_ALC_STAT h_PRT_ISET h_PRT_ISHEET c_alc,
      takeView_writes (P := P) h_ALC_EPOCH h_ALC_STAT h_ALC_TSOLVE h_EVT_PEND c_alc,
      takePeriod_writes (P := P) h_ALC_CFG c_alc,
      treeCommit_writes (P := P) h_ALC_STAT h_ALC_TREEDIG h_ALC_TSOLVE h_EVT_PEND c_alc,
      takeSnapshot_writes (P := P) h_ALC_SEQ c_alc, State.without_when_if, State.without_ite,
      ite_self]) <;> (repeat' split) <;> simp only [State.without_upd_alc c_alc, State.without_upd_lpe c_lpe,
      gridStart_writes (P := P) c_lpe, applyOverrun_writes (P := P) h_ALC_PAPPLIED h_PRT_ISHEET c_alc,
      applyResult_writes (P := P) h_ALC_PAPPLIED h_ALC_SSETPOINT h_ALC_STAT h_EVT_PEND h_PRT_ISET h_PRT_ISHEET c_alc,
      zeroSheets_writes (P := P) h_ALC_PAPPLIED h_ALC_SSETPOINT h_PRT_ISET h_PRT_ISHEET,
      finishAlloc_writes (P := P) h_ALC_PAPPLIED h_ALC_SSETPOINT h_ALC_STAT h_PRT_ISET h_PRT_ISHEET c_alc,
      takeView_writes (P := P) h_ALC_EPOCH h_ALC_STAT h_ALC_TSOLVE h_EVT_PEND c_alc,
      takePeriod_writes (P := P) h_ALC_CFG c_alc,
      treeCommit_writes (P := P) h_ALC_STAT h_ALC_TREEDIG h_ALC_TSOLVE h_EVT_PEND c_alc,
      takeSnapshot_writes (P := P) h_ALC_SEQ c_alc, State.without_when_if, State.without_ite, ite_self]

theorem placeWord_writes {P : Part} (c_lpe : P.lpe = true) {regs : List (Rg × Nat)} (hr : ∀ x ∈ regs, P.regs x.1.addr
    = true ∧ x.1.count ≤ 65536)
    (guest : Bool) (e : Nat × Word) (s : State) : (placeWord regs guest e s).without P = s.without P := by
  unfold placeWord
  split
  · next r i h =>
    obtain ⟨x, hx, hy⟩ := List.exists_of_findSome?_eq_some h
    cases hm : memberAt x.1 x.2 e.1 with
    | none => simp [hm] at hy
    | some k =>
      simp only [hm, Option.map_some, Option.some.injEq, Prod.mk.injEq] at hy
      obtain ⟨rfl, -⟩ := hy
      exact State.w_setReg (hr x hx).1 (hr x hx).2 _ _ _
  · dsimp only
    split <;> simp only [State.without_upd_lpe c_lpe]

include h_ALC_PAPPLIED h_ALC_PCFG h_ALC_PGRANT h_ALC_PLAST h_ALC_PRAMP h_ALC_PRATED h_ALC_PREQ h_ALC_PSTAT h_ALC_SCFG
    h_ALC_SCHGPRICE h_ALC_SDISPRICE h_ALC_SLAST h_ALC_SOFFER h_ALC_SRAMP h_ALC_SSETPOINT h_ALC_SSTAT h_CLN_CELLMAP h_CLN_LANECFG h_LPE_BATCH h_LPE_FECFG h_LPE_GROUP h_PRT_CELL h_PRT_CIDENT h_PRT_CNOM h_PRT_DISCFG h_PRT_EMAX h_PRT_GCAUSE h_PRT_GCFG h_PRT_GCMD h_PRT_GSTAT h_PRT_IAPP h_PRT_IRATED h_PRT_ISET h_PRT_ISHEET h_PRT_PCFG h_PRT_RATE h_PRT_RLL h_PRT_TIMES h_PRT_TREP h_PRT_VAPP h_PRT_VSET h_RNG_SHSTAT h_THM_CABLE h_THM_CAP h_THM_COEF h_THM_FLOW h_THM_FLOWCFG h_THM_G12 h_THM_IMAXH h_THM_ISTAT h_THM_LIM h_THM_OBS h_THM_PCH h_THM_PSEN h_THM_PSTAT h_THM_R20 h_THM_REEF h_THM_TEST h_THM_WIN h_VEH_CHKV h_VEH_EVI h_VEH_EVSOC h_VEH_EVV h_VEH_LIMI h_VEH_LIMP h_VEH_LIMV h_VEH_LOOPCNT h_VEH_RXADDR h_VEH_RXLEN h_VEH_SCFG h_VEH_SSTAT h_VEH_TXADDR c_alc c_cln c_lpe c_rng c_thm in
theorem applyShadow_writes (s : State) :
    (applyShadow s).without P = s.without P := by
  have hr : ∀ x ∈ shadowRegs, P.regs x.1.addr = true ∧ x.1.count ≤ 65536 := by
    have hc : ∀ x ∈ shadowRegs, x.1.count ≤ 65536 := by decide
    have ha : ∀ x ∈ shadowRegs, P.regs x.1.addr = true := by
      simp only [shadowRegs, List.cons_append, List.nil_append, List.forall_mem_cons, List.not_mem_nil,
          IsEmpty.forall_iff, implies_true, and_true, true_and, h_ALC_PAPPLIED, h_ALC_PCFG, h_ALC_PGRANT,
          h_ALC_PLAST, h_ALC_PRAMP, h_ALC_PRATED, h_ALC_PREQ, h_ALC_PSTAT, h_ALC_SCFG, h_ALC_SCHGPRICE,
          h_ALC_SDISPRICE, h_ALC_SLAST, h_ALC_SOFFER, h_ALC_SRAMP, h_ALC_SSETPOINT, h_ALC_SSTAT, h_CLN_CELLMAP,
          h_CLN_LANECFG, h_LPE_BATCH, h_LPE_FECFG, h_LPE_GROUP, h_PRT_CELL, h_PRT_CIDENT, h_PRT_CNOM, h_PRT_DISCFG,
          h_PRT_EMAX, h_PRT_GCAUSE, h_PRT_GCFG, h_PRT_GCMD, h_PRT_GSTAT, h_PRT_IAPP, h_PRT_IRATED, h_PRT_ISET,
          h_PRT_ISHEET, h_PRT_PCFG, h_PRT_RATE, h_PRT_RLL, h_PRT_TIMES, h_PRT_TREP, h_PRT_VAPP, h_PRT_VSET,
          h_RNG_SHSTAT, h_THM_CABLE, h_THM_CAP, h_THM_COEF, h_THM_FLOW, h_THM_FLOWCFG, h_THM_G12, h_THM_IMAXH,
          h_THM_ISTAT, h_THM_LIM, h_THM_OBS, h_THM_PCH, h_THM_PSEN, h_THM_PSTAT, h_THM_R20, h_THM_REEF, h_THM_TEST,
          h_THM_WIN, h_VEH_CHKV, h_VEH_EVI, h_VEH_EVSOC, h_VEH_EVV, h_VEH_LIMI, h_VEH_LIMP, h_VEH_LIMV,
          h_VEH_LOOPCNT, h_VEH_RXADDR, h_VEH_RXLEN, h_VEH_SCFG, h_VEH_SSTAT, h_VEH_TXADDR]
    exact fun x hx => ⟨ha x hx, hc x hx⟩
  unfold applyShadow
  (try simp (disch := (intros; (simp only [placeWord_writes (P := P) c_lpe hr, State.w_setF (fl := Fl.RNG_SHSTAT_AGE) h_RNG_SHSTAT (by decide), State.without_upd_alc_rng c_alc c_rng, State.without_upd_alc c_alc, State.without_upd_cln c_cln, State.without_upd_lpe c_lpe, State.without_upd_rng c_rng, State.without_upd_thm c_thm, State.setTp_writes (P := P) c_thm, State.without_ite, ite_self]); done)) only [State.without_eachOf, State.without_each, placeWord_writes (P := P) c_lpe hr, State.w_setF (fl := Fl.RNG_SHSTAT_AGE) h_RNG_SHSTAT (by decide), State.without_upd_alc_rng c_alc c_rng, State.without_upd_alc c_alc, State.without_upd_cln c_cln, State.without_upd_lpe c_lpe, State.without_upd_rng c_rng, State.without_upd_thm c_thm, State.setTp_writes (P := P) c_thm, State.without_ite, ite_self]) <;> (repeat' split) <;>
    (try simp (disch := (intros; (simp only [placeWord_writes (P := P) c_lpe hr, State.w_setF (fl := Fl.RNG_SHSTAT_AGE) h_RNG_SHSTAT (by decide), State.without_upd_alc_rng c_alc c_rng, State.without_upd_alc c_alc, State.without_upd_cln c_cln, State.without_upd_lpe c_lpe, State.without_upd_rng c_rng, State.without_upd_thm c_thm, State.setTp_writes (P := P) c_thm, State.without_ite, ite_self]); done)) only [State.without_eachOf, State.without_each, placeWord_writes (P := P) c_lpe hr, State.w_setF (fl := Fl.RNG_SHSTAT_AGE) h_RNG_SHSTAT (by decide), State.without_upd_alc_rng c_alc c_rng, State.without_upd_alc c_alc, State.without_upd_cln c_cln, State.without_upd_lpe c_lpe, State.without_upd_rng c_rng, State.without_upd_thm c_thm, State.setTp_writes (P := P) c_thm, State.without_ite, ite_self])

include h_ALC_PAPPLIED h_ALC_PCFG h_ALC_PGRANT h_ALC_PLAST h_ALC_PRAMP h_ALC_PRATED h_ALC_PREQ h_ALC_PSTAT h_ALC_SCFG
    h_ALC_SCHGPRICE h_ALC_SDISPRICE h_ALC_SLAST h_ALC_SOFFER h_ALC_SRAMP h_ALC_SSETPOINT h_ALC_SSTAT h_CLN_CELLMAP h_CLN_LANECFG h_LPE_BATCH h_LPE_FECFG h_LPE_GROUP h_PRT_CELL h_PRT_CIDENT h_PRT_CNOM h_PRT_DISCFG h_PRT_EMAX h_PRT_GCAUSE h_PRT_GCFG h_PRT_GCMD h_PRT_GSTAT h_PRT_IAPP h_PRT_IRATED h_PRT_ISET h_PRT_ISHEET h_PRT_PCFG h_PRT_RATE h_PRT_RLL h_PRT_TIMES h_PRT_TREP h_PRT_VAPP h_PRT_VSET h_RNG_SHSTAT h_THM_CABLE h_THM_CAP h_THM_COEF h_THM_FLOW h_THM_FLOWCFG h_THM_G12 h_THM_IMAXH h_THM_ISTAT h_THM_LIM h_THM_OBS h_THM_PCH h_THM_PSEN h_THM_PSTAT h_THM_R20 h_THM_REEF h_THM_TEST h_THM_WIN h_VEH_CHKV h_VEH_EVI h_VEH_EVSOC h_VEH_EVV h_VEH_LIMI h_VEH_LIMP h_VEH_LIMV h_VEH_LOOPCNT h_VEH_RXADDR h_VEH_RXLEN h_VEH_SCFG h_VEH_SSTAT h_VEH_TXADDR c_alc c_cln c_lpe c_rng c_thm in
theorem ringPeriod_writes (s : State) :
    (ringPeriod s).without P = s.without P := by
  unfold ringPeriod
  simp only [State.w_satF (fl := Fl.RNG_SHSTAT_AGE) h_RNG_SHSTAT (by decide), State.without_upd_alc c_alc,
      State.without_upd_cln c_cln, State.without_upd_lpe c_lpe, State.without_upd_rng c_rng,
      State.without_upd_thm c_thm,
      applyShadow_writes (P := P) h_ALC_PAPPLIED h_ALC_PCFG h_ALC_PGRANT h_ALC_PLAST h_ALC_PRAMP h_ALC_PRATED h_ALC_PREQ h_ALC_PSTAT h_ALC_SCFG h_ALC_SCHGPRICE h_ALC_SDISPRICE h_ALC_SLAST h_ALC_SOFFER h_ALC_SRAMP h_ALC_SSETPOINT h_ALC_SSTAT h_CLN_CELLMAP h_CLN_LANECFG h_LPE_BATCH h_LPE_FECFG h_LPE_GROUP h_PRT_CELL h_PRT_CIDENT h_PRT_CNOM h_PRT_DISCFG h_PRT_EMAX h_PRT_GCAUSE h_PRT_GCFG h_PRT_GCMD h_PRT_GSTAT h_PRT_IAPP h_PRT_IRATED h_PRT_ISET h_PRT_ISHEET h_PRT_PCFG h_PRT_RATE h_PRT_RLL h_PRT_TIMES h_PRT_TREP h_PRT_VAPP h_PRT_VSET h_RNG_SHSTAT h_THM_CABLE h_THM_CAP h_THM_COEF h_THM_FLOW h_THM_FLOWCFG h_THM_G12 h_THM_IMAXH h_THM_ISTAT h_THM_LIM h_THM_OBS h_THM_PCH h_THM_PSEN h_THM_PSTAT h_THM_R20 h_THM_REEF h_THM_TEST h_THM_WIN h_VEH_CHKV h_VEH_EVI h_VEH_EVSOC h_VEH_EVV h_VEH_LIMI h_VEH_LIMP h_VEH_LIMV h_VEH_LOOPCNT h_VEH_RXADDR h_VEH_RXLEN h_VEH_SCFG h_VEH_SSTAT h_VEH_TXADDR c_alc c_cln c_lpe c_rng c_thm, State.without_ite, ite_self]

include h_ALC_CNT h_ALC_STAT h_EVT_PEND c_alc in
theorem decideAgree_writes (s : State) :
    (decideAgree s).without P = s.without P := by
  unfold decideAgree
  simp only [State.w_setB (fl := Fl.ALC_STAT_AGREE) h_ALC_STAT (by decide),
      State.w_setB (fl := Fl.ALC_CNT_NOAGREE) h_ALC_CNT (by decide),
      State.w_satF (fl := Fl.ALC_STAT_AGREE) h_ALC_STAT (by decide),
      State.w_satF (fl := Fl.ALC_CNT_NOAGREE) h_ALC_CNT (by decide), State.without_upd_alc c_alc,
      alcCause_writes (P := P) h_ALC_STAT h_EVT_PEND, State.without_ite, ite_self]

include h_ALC_CNT h_ALC_MISS h_ALC_STAT h_EVT_PEND in
theorem markMissing_writes (s : State) :
    (markMissing s).without P = s.without P := by
  unfold markMissing
  simp (disch := (intros; simp only [State.w_setFBitM (r := R.ALC_MISS) h_ALC_MISS (by decide), State.w_setFBit (fl := Fl.ALC_CNT_LATE) h_ALC_CNT (by decide), State.w_setFBit (fl := Fl.ALC_MISS_MOD) h_ALC_MISS (by decide), State.w_satFM (r := R.ALC_MISS) h_ALC_MISS (by decide), State.w_satF (fl := Fl.ALC_CNT_LATE) h_ALC_CNT (by decide), State.w_satF (fl := Fl.ALC_MISS_MOD) h_ALC_MISS (by decide), State.w_setReg (r := R.ALC_MISS) h_ALC_MISS (by decide), alcCause_writes (P := P) h_ALC_STAT h_EVT_PEND, State.without_ite, ite_self]; done)) only [State.without_each, State.without_eachOf, State.w_setFBitM (r := R.ALC_MISS) h_ALC_MISS (by decide), State.w_setFBit (fl := Fl.ALC_CNT_LATE) h_ALC_CNT (by decide), State.w_setFBit (fl := Fl.ALC_MISS_MOD) h_ALC_MISS (by decide), State.w_satFM (r := R.ALC_MISS) h_ALC_MISS (by decide), State.w_satF (fl := Fl.ALC_CNT_LATE) h_ALC_CNT (by decide), State.w_satF (fl := Fl.ALC_MISS_MOD) h_ALC_MISS (by decide), State.w_setReg (r := R.ALC_MISS) h_ALC_MISS (by decide), alcCause_writes (P := P) h_ALC_STAT h_EVT_PEND, State.without_ite, ite_self]

include c_alc in
theorem countOver_writes (hs : List (List Byte)) (t : List TreeNode) (s : State) :
    (countOver hs t s).without P = s.without P := by
  unfold countOver
  simp only [State.without_upd_alc c_alc, State.without_ite, ite_self]

include h_ALC_CNT h_ALC_IDH h_ALC_IDL h_ALC_MISS h_ALC_STAT h_EVT_PEND c_alc in
theorem windowClose_writes (s : State) :
    (windowClose s).without P = s.without P := by
  unfold windowClose
  simp only [State.w_setQ (lo := R.ALC_IDL) (hi := R.ALC_IDH) h_ALC_IDL h_ALC_IDH (by decide) (by decide),
      State.without_upd_alc c_alc, decideAgree_writes (P := P) h_ALC_CNT h_ALC_STAT h_EVT_PEND c_alc,
      markMissing_writes (P := P) h_ALC_CNT h_ALC_MISS h_ALC_STAT h_EVT_PEND,
      alcCause_writes (P := P) h_ALC_STAT h_EVT_PEND, countOver_writes (P := P) c_alc, State.without_when_if,
      State.without_ite, ite_self]

include h_ALC_PGRANT h_ALC_PLAST c_alc in
theorem portResult_writes (h : List Byte) (cs : List Consumer) (p : Nat) (i : Nat) (s : State) :
    (portResult h cs p i s).without P = s.without P := by
  unfold portResult
  simp only [State.w_setF (fl := Fl.ALC_PGRANT_GRANT) h_ALC_PGRANT (by decide),
      State.w_setF (fl := Fl.ALC_PLAST_LAST) h_ALC_PLAST (by decide), State.without_upd_alc c_alc, State.without_ite,
      ite_self]

include h_ALC_SLAST h_ALC_SOFFER h_ALC_SSTAT c_alc in
theorem stringResult_writes (h : List Byte) (mode : Nat) (cs : List Consumer) (p : Nat) (i : Nat) (s : State) :
    (stringResult h mode cs p i s).without P = s.without P := by
  unfold stringResult
  simp only [State.w_setF (fl := Fl.ALC_SSTAT_MODE) h_ALC_SSTAT (by decide),
      State.w_setF (fl := Fl.ALC_SOFFER_OFFER) h_ALC_SOFFER (by decide),
      State.w_setF (fl := Fl.ALC_SLAST_LAST) h_ALC_SLAST (by decide),
      State.w_setFi (fl := Fl.ALC_SSTAT_MODE) h_ALC_SSTAT (by decide),
      State.w_setFi (fl := Fl.ALC_SOFFER_OFFER) h_ALC_SOFFER (by decide),
      State.w_setFi (fl := Fl.ALC_SLAST_LAST) h_ALC_SLAST (by decide), State.without_upd_alc c_alc,
      State.without_ite, ite_self]

include h_ALC_NODEST0 h_ALC_NODEST1 h_ALC_PGRANT h_ALC_PLAST h_ALC_SLAST h_ALC_SOFFER h_ALC_SSTAT h_ALC_STAT
    h_ALC_TSOLVE h_EVT_PEND c_alc in
theorem solveComplete_writes (durationUs : Nat) (s : State) :
    (solveComplete durationUs s).without P = s.without P := by
  unfold solveComplete
  (repeat' split) <;> simp (disch := (intros; simp only [State.w_setF (fl := Fl.ALC_TSOLVE_LAST) h_ALC_TSOLVE (by decide), State.w_setFM (r := R.ALC_NODEST1) h_ALC_NODEST1 (by decide), State.w_setFM (r := R.ALC_NODEST0) h_ALC_NODEST0 (by decide), State.w_setReg (r := R.ALC_NODEST1) h_ALC_NODEST1 (by decide), State.w_setReg (r := R.ALC_NODEST0) h_ALC_NODEST0 (by decide), State.without_upd_alc c_alc, alcCause_writes (P := P) h_ALC_STAT h_EVT_PEND, portResult_writes (P := P) h_ALC_PGRANT h_ALC_PLAST c_alc, stringResult_writes (P := P) h_ALC_SLAST h_ALC_SOFFER h_ALC_SSTAT c_alc, State.without_when_if, State.without_ite, ite_self]; done)) only [State.without_each, State.without_eachOf, State.w_setF (fl := Fl.ALC_TSOLVE_LAST) h_ALC_TSOLVE (by decide), State.w_setFM (r := R.ALC_NODEST1) h_ALC_NODEST1 (by decide), State.w_setFM (r := R.ALC_NODEST0) h_ALC_NODEST0 (by decide), State.w_setReg (r := R.ALC_NODEST1) h_ALC_NODEST1 (by decide), State.w_setReg (r := R.ALC_NODEST0) h_ALC_NODEST0 (by decide), State.without_upd_alc c_alc, alcCause_writes (P := P) h_ALC_STAT h_EVT_PEND, portResult_writes (P := P) h_ALC_PGRANT h_ALC_PLAST c_alc, stringResult_writes (P := P) h_ALC_SLAST h_ALC_SOFFER h_ALC_SSTAT c_alc, State.without_when_if, State.without_ite, ite_self]

include h_ALC_STAT h_EVT_PEND c_alc in
theorem solveOverrun_writes (s : State) :
    (solveOverrun s).without P = s.without P := by
  unfold solveOverrun
  simp only [State.without_upd_alc c_alc, alcCause_writes (P := P) h_ALC_STAT h_EVT_PEND, State.without_ite, ite_self]

include h_ALC_CNT h_ALC_STAT h_EVT_PEND c_alc in
theorem halyardReceived_writes (h : List Byte) (tagOk : Bool) (hops : Nat) (s : State) :
    (halyardReceived h tagOk hops s).without P = s.without P := by
  unfold halyardReceived
  simp only [State.w_satF (fl := Fl.ALC_CNT_LATE) h_ALC_CNT (by decide), State.without_upd_alc c_alc,
      alcCause_writes (P := P) h_ALC_STAT h_EVT_PEND, State.without_ite, ite_self]

include h_ALC_CFG h_ALC_STAT h_ALC_TSOLVE h_ALC_WIN h_EVT_PEND in
theorem alcConfigWrite_writes (xwin : Nat) (clsen : Nat) (s : State) :
    (alcConfigWrite xwin clsen s).without P = s.without P := by
  unfold alcConfigWrite
  simp only [State.w_setF (fl := Fl.ALC_CFG_CLSEN) h_ALC_CFG (by decide),
      State.w_setF (fl := Fl.ALC_WIN_XWIN) h_ALC_WIN (by decide), showBound_writes (P := P) h_ALC_TSOLVE,
      alcCause_writes (P := P) h_ALC_STAT h_EVT_PEND, State.without_ite, ite_self]

include h_EVT_PEND h_LSW_CHSTAT h_PRT_GCAUSE h_VEH_FE h_VEH_SSTAT h_VEH_STAT c_lsw c_sig c_veh in
theorem endWith_writes (cause : Nat) (c : Nat) (s : State) :
    (endWith cause c s).without P = s.without P := by
  unfold endWith
  simp only [State.without_upd_lsw c_lsw, State.without_upd_sig c_sig, State.without_upd_veh c_veh,
      toEnd_writes (P := P) h_EVT_PEND h_LSW_CHSTAT h_PRT_GCAUSE h_VEH_FE h_VEH_SSTAT h_VEH_STAT c_lsw c_sig c_veh,
      noteStop_writes (P := P) h_EVT_PEND h_PRT_GCAUSE h_VEH_SSTAT, State.without_ite, ite_self]

include h_EVT_PEND h_LPE_BATCH h_LPE_BSTAT h_LPE_LOAD h_LPE_STAT h_LPE_TLOAD h_LSW_CHSTAT h_PRT_GCAUSE h_PRT_GCMD
    h_PRT_GSTAT h_PRT_IAPP h_PRT_RATE h_PRT_VAPP h_SFY_COIL h_SFY_PSTAT h_SFY_STAT h_VEH_SSTAT c_lpe c_lsw c_prt c_veh in
theorem stopWith_writes (cause : Nat) (c : Nat) (s : State) :
    (stopWith cause c s).without P = s.without P := by
  unfold stopWith
  simp only [State.without_upd_lpe c_lpe, State.without_upd_lsw c_lsw, State.without_upd_prt c_prt,
      State.without_upd_veh c_veh,
      toStopping_writes (P := P) h_EVT_PEND h_LPE_BATCH h_LPE_BSTAT h_LPE_LOAD h_LPE_STAT h_LPE_TLOAD h_LSW_CHSTAT h_PRT_GCAUSE h_PRT_GCMD h_PRT_GSTAT h_PRT_IAPP h_PRT_RATE h_PRT_VAPP h_SFY_COIL h_SFY_PSTAT h_SFY_STAT h_VEH_SSTAT c_lpe c_lsw c_prt c_veh, State.without_ite, ite_self]

include h_EVT_PEND h_LPE_BATCH h_LPE_BSTAT h_LPE_LOAD h_LPE_STAT h_LPE_TLOAD h_LSW_CHSTAT h_PRT_GCAUSE h_PRT_GCMD
    h_PRT_GSTAT h_PRT_IAPP h_PRT_RATE h_PRT_VAPP h_SFY_COIL h_SFY_PSTAT h_SFY_STAT h_VEH_FE h_VEH_SSTAT h_VEH_STAT c_lpe c_lsw c_prt c_sig c_veh in
theorem pilotActs_writes (c : Nat) (k : Nat) (s : State) :
    (pilotActs c k s).without P = s.without P := by
  unfold pilotActs
  simp only [State.without_upd_lpe c_lpe, State.without_upd_lsw c_lsw, State.without_upd_prt c_prt,
      State.without_upd_sig c_sig, State.without_upd_veh c_veh,
      endWith_writes (P := P) h_EVT_PEND h_LSW_CHSTAT h_PRT_GCAUSE h_VEH_FE h_VEH_SSTAT h_VEH_STAT c_lsw c_sig c_veh,
      sesCause_writes (P := P) h_EVT_PEND h_PRT_GCAUSE,
      toStopping_writes (P := P) h_EVT_PEND h_LPE_BATCH h_LPE_BSTAT h_LPE_LOAD h_LPE_STAT h_LPE_TLOAD h_LSW_CHSTAT h_PRT_GCAUSE h_PRT_GCMD h_PRT_GSTAT h_PRT_IAPP h_PRT_RATE h_PRT_VAPP h_SFY_COIL h_SFY_PSTAT h_SFY_STAT h_VEH_SSTAT c_lpe c_lsw c_prt c_veh, stopWith_writes (P := P) h_EVT_PEND h_LPE_BATCH h_LPE_BSTAT h_LPE_LOAD h_LPE_STAT h_LPE_TLOAD h_LSW_CHSTAT h_PRT_GCAUSE h_PRT_GCMD h_PRT_GSTAT h_PRT_IAPP h_PRT_RATE h_PRT_VAPP h_SFY_COIL h_SFY_PSTAT h_SFY_STAT h_VEH_SSTAT c_lpe c_lsw c_prt c_veh, State.without_ite, ite_self]

include h_EVT_PEND h_LPE_BATCH h_LPE_BSTAT h_LPE_LOAD h_LPE_STAT h_LPE_TLOAD h_LSW_CHSTAT h_PRT_GCAUSE h_PRT_GCMD
    h_PRT_GSTAT h_PRT_IAPP h_PRT_RATE h_PRT_VAPP h_SFY_COIL h_SFY_PSTAT h_SFY_STAT h_VEH_FE h_VEH_SSTAT h_VEH_STAT c_lpe c_lsw c_prt c_sig c_veh in
theorem pilotQualified_writes (f : Nat) (r : PilotReading) (s : State) :
    (pilotQualified f r s).without P = s.without P := by
  unfold pilotQualified
  simp only [State.w_setF (fl := Fl.VEH_SSTAT_PILOT) h_VEH_SSTAT (by decide), State.without_upd_lpe c_lpe,
      State.without_upd_lsw c_lsw, State.without_upd_prt c_prt, State.without_upd_sig c_sig,
      State.without_upd_veh c_veh,
      pilotActs_writes (P := P) h_EVT_PEND h_LPE_BATCH h_LPE_BSTAT h_LPE_LOAD h_LPE_STAT h_LPE_TLOAD h_LSW_CHSTAT h_PRT_GCAUSE h_PRT_GCMD h_PRT_GSTAT h_PRT_IAPP h_PRT_RATE h_PRT_VAPP h_SFY_COIL h_SFY_PSTAT h_SFY_STAT h_VEH_FE h_VEH_SSTAT h_VEH_STAT c_lpe c_lsw c_prt c_sig c_veh, State.without_ite, ite_self]

include c_drawn c_veh in
theorem slacMessage_writes (f : Nat) (m : SlacMsg) (s : State) :
    (slacMessage f m s).without P = s.without P := by
  unfold slacMessage
  (repeat' split) <;> simp only [State.without_upd_drawn c_drawn, State.without_upd_veh c_veh,
      State.setFe_writes (P := P) c_veh, State.draw_writes (P := P) c_drawn, State.setSes_writes (P := P) c_veh,
      State.without_ite, ite_self]

include h_EVT_PEND h_PRT_GCAUSE h_VEH_RXLEN c_harts c_mem c_veh in
theorem programRequest_writes (c : Nat) (p : List Byte) (s : State) :
    (programRequest c p s).without P = s.without P := by
  unfold programRequest
  simp only [State.without_upd_harts c_harts, State.without_upd_mem c_mem, State.without_upd_veh c_veh,
      placeRequest_writes (P := P) h_EVT_PEND h_PRT_GCAUSE h_VEH_RXLEN c_harts c_mem c_veh,
      State.setSes_writes (P := P) c_veh, State.without_ite, ite_self]

include h_EVT_PEND h_LPE_BATCH h_LPE_BSTAT h_LPE_LOAD h_LPE_STAT h_LPE_TLOAD h_LSW_CHSTAT h_PRT_GCAUSE h_PRT_GCMD
    h_PRT_GSTAT h_PRT_IAPP h_PRT_RATE h_PRT_VAPP h_SFY_COIL h_SFY_PSTAT h_SFY_STAT h_VEH_FE h_VEH_LOOPCNT h_VEH_RXLEN h_VEH_SSTAT h_VEH_STAT c_harts c_lpe c_lsw c_mem c_prt c_sig c_veh in
theorem v2gFrame_writes (c : Nat) (m : V2gFrame) (s : State) :
    (v2gFrame c m s).without P = s.without P := by
  unfold v2gFrame
  simp only [State.w_satF (fl := Fl.VEH_LOOPCNT_BADFRAME) h_VEH_LOOPCNT (by decide), State.without_upd_harts c_harts,
      State.without_upd_lpe c_lpe, State.without_upd_lsw c_lsw, State.without_upd_mem c_mem,
      State.without_upd_prt c_prt, State.without_upd_sig c_sig, State.without_upd_veh c_veh,
      endWith_writes (P := P) h_EVT_PEND h_LSW_CHSTAT h_PRT_GCAUSE h_VEH_FE h_VEH_SSTAT h_VEH_STAT c_lsw c_sig c_veh,
      stopWith_writes (P := P) h_EVT_PEND h_LPE_BATCH h_LPE_BSTAT h_LPE_LOAD h_LPE_STAT h_LPE_TLOAD h_LSW_CHSTAT h_PRT_GCAUSE h_PRT_GCMD h_PRT_GSTAT h_PRT_IAPP h_PRT_RATE h_PRT_VAPP h_SFY_COIL h_SFY_PSTAT h_SFY_STAT h_VEH_SSTAT c_lpe c_lsw c_prt c_veh, State.setSes_writes (P := P) c_veh, programRequest_writes (P := P) h_EVT_PEND h_PRT_GCAUSE h_VEH_RXLEN c_harts c_mem c_veh, State.without_ite, ite_self]

theorem onCtx_writes (c : Nat) (f : Nat → State → State) (hf : ∀ c s, (f c s).without P = s.without P) (s : State) :
    (onCtx c f s).without P = s.without P := by
  unfold onCtx
  split <;> simp only [hf]

include h_EVT_PEND h_LSW_CHSTAT h_PRT_GCAUSE h_VEH_FE h_VEH_SSTAT h_VEH_STAT c_lsw c_sig c_veh in
theorem appProtocol_writes (c : Nat) (offers : List AppOffer) (s : State) :
    (appProtocol c offers s).without P = s.without P := by
  unfold appProtocol
  (repeat' split) <;> simp only [State.w_setF (fl := Fl.VEH_SSTAT_PROTOSEL) h_VEH_SSTAT (by decide),
      State.without_upd_lsw c_lsw, State.without_upd_sig c_sig, State.without_upd_veh c_veh,
      endWith_writes (P := P) h_EVT_PEND h_LSW_CHSTAT h_PRT_GCAUSE h_VEH_FE h_VEH_SSTAT h_VEH_STAT c_lsw c_sig c_veh,
      State.setSes_writes (P := P) c_veh, State.without_ite, ite_self]

include h_EVT_PEND h_LSW_CHSTAT h_PRT_GCAUSE h_VEH_FE h_VEH_SSTAT h_VEH_STAT c_lsw c_sig c_veh in
theorem clientHello_writes (c : Nat) (suites : List Nat) (groups : List Nat) (sigs : List Nat) (s : State) :
    (clientHello c suites groups sigs s).without P = s.without P := by
  unfold clientHello
  (repeat' split) <;> simp only [State.without_upd_lsw c_lsw, State.without_upd_sig c_sig,
      State.without_upd_veh c_veh, State.setSes_writes (P := P) c_veh,
      endWith_writes (P := P) h_EVT_PEND h_LSW_CHSTAT h_PRT_GCAUSE h_VEH_FE h_VEH_SSTAT h_VEH_STAT c_lsw c_sig c_veh,
      State.without_ite, ite_self]

include h_VEH_SSTAT c_veh in
theorem tlsSecrets_writes (c : Nat) (client : List Byte) (server : List Byte) (s : State) :
    (tlsSecrets c client server s).without P = s.without P := by
  unfold tlsSecrets
  simp only [State.w_setB (fl := Fl.VEH_SSTAT_TLS) h_VEH_SSTAT (by decide), State.without_upd_veh c_veh,
      State.setSes_writes (P := P) c_veh, State.without_ite, ite_self]

include h_VEH_LOOPCNT c_veh in
theorem answerLoop_writes (c : Nat) (finished : Bool) (s : State) :
    (answerLoop c finished s).without P = s.without P := by
  unfold answerLoop
  simp only [State.w_addF (fl := Fl.VEH_LOOPCNT_LOOPS) h_VEH_LOOPCNT (by decide), State.without_upd_veh c_veh,
      sendVehicle_writes (P := P) c_veh, State.without_ite, ite_self]

include h_VEH_LOOPCNT c_veh in
theorem cableCheckReq_writes (c : Nat) (s : State) :
    (cableCheckReq c s).without P = s.without P := by
  unfold cableCheckReq
  simp only [State.without_upd_veh c_veh, answerLoop_writes (P := P) h_VEH_LOOPCNT c_veh,
      State.setSes_writes (P := P) c_veh, State.without_ite, ite_self]

include h_EVT_PEND h_LPE_BATCH h_LPE_BSTAT h_LPE_LOAD h_LPE_STAT h_LPE_TLOAD h_LSW_CHSTAT h_PRT_GCAUSE h_PRT_GCMD
    h_PRT_GSTAT h_PRT_IAPP h_PRT_VAPP h_PRT_VSET h_SFY_COIL h_SFY_PSTAT h_SFY_STAT h_VEH_EVV h_VEH_LOOPCNT h_VEH_SSTAT c_lpe c_lsw c_prt c_veh in
theorem preChargeReq_writes (c : Nat) (v : Word) (s : State) :
    (preChargeReq c v s).without P = s.without P := by
  unfold preChargeReq
  simp only [State.w_setReg (r := R.VEH_EVV) h_VEH_EVV (by decide), State.without_upd_lpe c_lpe,
      State.without_upd_lsw c_lsw, State.without_upd_prt c_prt, State.without_upd_veh c_veh,
      portCmd_writes (P := P) h_EVT_PEND h_LPE_BATCH h_LPE_BSTAT h_LPE_LOAD h_LPE_STAT h_LPE_TLOAD h_LSW_CHSTAT h_PRT_GCAUSE h_PRT_GCMD h_PRT_GSTAT h_PRT_IAPP h_PRT_VAPP h_SFY_COIL h_SFY_PSTAT h_SFY_STAT c_lpe c_lsw c_prt, setVset_writes (P := P) h_EVT_PEND h_PRT_GCAUSE h_PRT_GSTAT h_PRT_VSET, toSession_writes (P := P) h_EVT_PEND h_PRT_GCAUSE h_VEH_SSTAT c_veh, answerLoop_writes (P := P) h_VEH_LOOPCNT c_veh, State.without_ite, ite_self]

include h_ALC_PREQ h_ALC_PSTAT h_EVT_PEND h_LPE_BATCH h_LPE_BSTAT h_LPE_LOAD h_LPE_STAT h_LPE_TLOAD h_LSW_CHSTAT
    h_PRT_GCAUSE h_PRT_GCMD h_PRT_GSTAT h_PRT_IAPP h_PRT_RATE h_PRT_VAPP h_PRT_VSET h_SFY_COIL h_SFY_PSTAT h_SFY_STAT h_VEH_EVI h_VEH_EVSOC h_VEH_EVV h_VEH_LOOPCNT h_VEH_SSTAT c_lpe c_lsw c_prt c_veh in
theorem chargeLoop_writes (c : Nat) (ti : Word) (tv : Word) (soc : Nat) (evError : Bool) (s : State) :
    (chargeLoop c ti tv soc evError s).without P = s.without P := by
  unfold chargeLoop
  simp only [State.w_setF (fl := Fl.VEH_EVSOC_SOC) h_VEH_EVSOC (by decide),
      State.w_setFM (r := R.VEH_EVV) h_VEH_EVV (by decide), State.w_setFM (r := R.VEH_EVI) h_VEH_EVI (by decide),
      State.w_setF (fl := Fl.VEH_SSTAT_BPTACT) h_VEH_SSTAT (by decide),
      State.w_setB (fl := Fl.VEH_EVSOC_SOC) h_VEH_EVSOC (by decide),
      State.w_setBM (r := R.VEH_EVV) h_VEH_EVV (by decide), State.w_setBM (r := R.VEH_EVI) h_VEH_EVI (by decide),
      State.w_setB (fl := Fl.VEH_SSTAT_BPTACT) h_VEH_SSTAT (by decide),
      State.w_setReg (r := R.VEH_EVV) h_VEH_EVV (by decide), State.w_setReg (r := R.VEH_EVI) h_VEH_EVI (by decide),
      State.without_upd_lpe c_lpe, State.without_upd_lsw c_lsw, State.without_upd_prt c_prt,
      State.without_upd_veh c_veh, setVset_writes (P := P) h_EVT_PEND h_PRT_GCAUSE h_PRT_GSTAT h_PRT_VSET,
      reqWrite_writes (P := P) h_ALC_PREQ h_ALC_PSTAT, answerLoop_writes (P := P) h_VEH_LOOPCNT c_veh,
      stopWith_writes (P := P) h_EVT_PEND h_LPE_BATCH h_LPE_BSTAT h_LPE_LOAD h_LPE_STAT h_LPE_TLOAD h_LSW_CHSTAT h_PRT_GCAUSE h_PRT_GCMD h_PRT_GSTAT h_PRT_IAPP h_PRT_RATE h_PRT_VAPP h_SFY_COIL h_SFY_PSTAT h_SFY_STAT h_VEH_SSTAT c_lpe c_lsw c_prt c_veh, State.without_ite, ite_self]

include h_EVT_PEND h_LPE_BATCH h_LPE_BSTAT h_LPE_LOAD h_LPE_STAT h_LPE_TLOAD h_LSW_CHSTAT h_PRT_GCAUSE h_PRT_GCMD
    h_PRT_GSTAT h_PRT_IAPP h_PRT_RATE h_PRT_VAPP h_SFY_COIL h_SFY_PSTAT h_SFY_STAT h_VEH_RXLEN h_VEH_SSTAT c_harts c_lpe c_lsw c_mem c_prt c_veh in
theorem powerDelivery_writes (c : Nat) (k : PowerDelivery) (p : List Byte) (s : State) :
    (powerDelivery c k p s).without P = s.without P := by
  unfold powerDelivery
  simp only [State.without_upd_harts c_harts, State.without_upd_lpe c_lpe, State.without_upd_lsw c_lsw,
      State.without_upd_mem c_mem, State.without_upd_prt c_prt, State.without_upd_veh c_veh,
      programRequest_writes (P := P) h_EVT_PEND h_PRT_GCAUSE h_VEH_RXLEN c_harts c_mem c_veh,
      State.setSes_writes (P := P) c_veh,
      stopWith_writes (P := P) h_EVT_PEND h_LPE_BATCH h_LPE_BSTAT h_LPE_LOAD h_LPE_STAT h_LPE_TLOAD h_LSW_CHSTAT h_PRT_GCAUSE h_PRT_GCMD h_PRT_GSTAT h_PRT_IAPP h_PRT_RATE h_PRT_VAPP h_SFY_COIL h_SFY_PSTAT h_SFY_STAT h_VEH_SSTAT c_lpe c_lsw c_prt c_veh, State.without_ite, ite_self]

include h_VEH_SSTAT c_veh in
theorem releaseFrame_writes (c : Nat) (acked : Bool) (s : State) :
    (releaseFrame c acked s).without P = s.without P := by
  unfold releaseFrame
  (repeat' split) <;> simp only [State.w_setB (fl := Fl.VEH_SSTAT_UNCONF) h_VEH_SSTAT (by decide),
      State.without_upd_veh c_veh, State.setSes_writes (P := P) c_veh, State.without_ite, ite_self]

include c_veh in
theorem standbyObserved_writes (f : Nat) (m : ObservedFrame) (s : State) :
    (standbyObserved f m s).without P = s.without P := by
  unfold standbyObserved
  (repeat' split) <;> simp only [State.without_upd_veh c_veh, State.setSes_writes (P := P) c_veh, State.without_ite,
      ite_self]

include h_EVT_PEND h_LPE_BATCH h_LPE_BSTAT h_LPE_LOAD h_LPE_STAT h_LPE_TLOAD h_LSW_CHSTAT h_PRT_GCAUSE h_PRT_GCMD
    h_PRT_GSTAT h_PRT_IAPP h_PRT_RATE h_PRT_VAPP h_SFY_COIL h_SFY_PSTAT h_SFY_STAT h_VEH_SSTAT c_lpe c_lsw c_prt c_veh in
theorem guestLost_writes (c : Nat) (s : State) :
    (guestLost c s).without P = s.without P := by
  unfold guestLost
  simp only [State.without_upd_lpe c_lpe, State.without_upd_lsw c_lsw, State.without_upd_prt c_prt,
      State.without_upd_veh c_veh,
      toStopping_writes (P := P) h_EVT_PEND h_LPE_BATCH h_LPE_BSTAT h_LPE_LOAD h_LPE_STAT h_LPE_TLOAD h_LSW_CHSTAT h_PRT_GCAUSE h_PRT_GCMD h_PRT_GSTAT h_PRT_IAPP h_PRT_RATE h_PRT_VAPP h_SFY_COIL h_SFY_PSTAT h_SFY_STAT h_VEH_SSTAT c_lpe c_lsw c_prt c_veh, State.without_ite, ite_self]

include h_EVT_PEND h_LPE_BATCH h_LPE_BSTAT h_LPE_LOAD h_LPE_STAT h_LPE_TLOAD h_LSW_CHSTAT h_PRT_GCAUSE h_PRT_GCMD
    h_PRT_GSTAT h_PRT_IAPP h_PRT_RATE h_PRT_VAPP h_SFY_COIL h_SFY_PSTAT h_SFY_STAT h_VEH_RXLEN h_VEH_SSTAT c_harts c_lpe c_lsw c_mem c_prt c_veh in
theorem standbyTakeover_writes (f : Nat) (s : State) :
    (standbyTakeover f s).without P = s.without P := by
  unfold standbyTakeover
  (try simp only [State.without_upd_harts c_harts, State.without_upd_lpe c_lpe, State.without_upd_lsw c_lsw,
      State.without_upd_mem c_mem, State.without_upd_prt c_prt, State.without_upd_veh c_veh,
      guestLost_writes (P := P) h_EVT_PEND h_LPE_BATCH h_LPE_BSTAT h_LPE_LOAD h_LPE_STAT h_LPE_TLOAD h_LSW_CHSTAT h_PRT_GCAUSE h_PRT_GCMD h_PRT_GSTAT h_PRT_IAPP h_PRT_RATE h_PRT_VAPP h_SFY_COIL h_SFY_PSTAT h_SFY_STAT h_VEH_SSTAT c_lpe c_lsw c_prt c_veh, State.setFe_writes (P := P) c_veh, State.setSes_writes (P := P) c_veh, programRequest_writes (P := P) h_EVT_PEND h_PRT_GCAUSE h_VEH_RXLEN c_harts c_mem c_veh, State.without_ite, ite_self]) <;> (repeat' split) <;> simp only [State.without_upd_harts c_harts, State.without_upd_lpe c_lpe, State.without_upd_lsw c_lsw, State.without_upd_mem c_mem, State.without_upd_prt c_prt, State.without_upd_veh c_veh, guestLost_writes (P := P) h_EVT_PEND h_LPE_BATCH h_LPE_BSTAT h_LPE_LOAD h_LPE_STAT h_LPE_TLOAD h_LSW_CHSTAT h_PRT_GCAUSE h_PRT_GCMD h_PRT_GSTAT h_PRT_IAPP h_PRT_RATE h_PRT_VAPP h_SFY_COIL h_SFY_PSTAT h_SFY_STAT h_VEH_SSTAT c_lpe c_lsw c_prt c_veh, State.setFe_writes (P := P) c_veh, State.setSes_writes (P := P) c_veh, programRequest_writes (P := P) h_EVT_PEND h_PRT_GCAUSE h_VEH_RXLEN c_harts c_mem c_veh, State.without_ite, ite_self]

include h_VEH_SSTAT c_veh in
theorem sessionHandover_writes (c : Nat) (s : State) :
    (sessionHandover c s).without P = s.without P := by
  unfold sessionHandover
  (repeat' split) <;> simp only [State.w_setF (fl := Fl.VEH_SSTAT_STATE) h_VEH_SSTAT (by decide),
      State.without_upd_veh c_veh, State.setSes_writes (P := P) c_veh, State.setFe_writes (P := P) c_veh,
      State.without_ite, ite_self]

include c_thm in
theorem State.setSen_writes (s : State) (i : Nat) (f : Sensor → Sensor) :
    (State.setSen s i f).without P = s.without P := by
  unfold State.setSen
  simp only [State.without_upd_thm c_thm, State.without_ite, ite_self]

include h_THM_SSTAT c_thm in
theorem stepLadder_writes (i : Nat) (t : Int) (s : State) :
    (stepLadder i t s).without P = s.without P := by
  unfold stepLadder
  simp only [State.w_setF (fl := Fl.THM_SSTAT_PERIOD) h_THM_SSTAT (by decide), State.without_upd_thm c_thm,
      State.setSen_writes (P := P) c_thm, State.without_ite, ite_self]

include h_EVT_PEND h_THM_SSTAT h_THM_STAT in
theorem checkLimits_writes (i : Nat) (t : Int) (s : State) :
    (checkLimits i t s).without P = s.without P := by
  have hx : ∀ (fl : Fld) (b c : Bool) (s : State), fl.reg = R.THM_SSTAT →
      (if b = true then (if s.b fl i = true then s else thmCause 3 (s.setB fl i true))
        else if c = true then s.setB fl i false else s).without P = s.without P := by
    intro fl b c s h
    have hs : ∀ (v : Bool), (s.setB fl i v).without P = s.without P :=
      fun v => State.w_setB (by rw [h]; assumption) (by rw [h]; decide) s i v
    (repeat' split) <;> simp only [hs, thmCause_writes (P := P) h_EVT_PEND h_THM_STAT, State.without_ite, ite_self]
  unfold checkLimits
  dsimp only
  rw [hx _ _ _ _ rfl, hx _ _ _ _ rfl]

include h_EVT_PEND h_PRT_GCAUSE h_THM_PSTAT h_THM_STAT in
theorem setReef_writes (p : Nat) (k : Nat) (s : State) :
    (setReef p k s).without P = s.without P := by
  unfold setReef
  simp only [State.w_setF (fl := Fl.THM_PSTAT_TREEF) h_THM_PSTAT (by decide),
      thmCause_writes (P := P) h_EVT_PEND h_THM_STAT, prtCause_writes (P := P) h_EVT_PEND h_PRT_GCAUSE,
      State.without_ite, ite_self]

include h_EVT_PEND h_PRT_GCAUSE h_THM_PSTAT h_THM_STAT in
theorem reefRise_writes (p : Nat) (s : State) :
    (reefRise p s).without P = s.without P := by
  unfold reefRise
  simp only [setReef_writes (P := P) h_EVT_PEND h_PRT_GCAUSE h_THM_PSTAT h_THM_STAT, State.without_ite, ite_self]

include h_EVT_PEND h_PRT_GCAUSE h_THM_CABLE h_THM_PSTAT h_THM_STAT c_thm in
theorem portsOfSensor_writes (i : Nat) (s : State) :
    (portsOfSensor i s).without P = s.without P := by
  unfold portsOfSensor
  simp (disch := (intros; simp only [State.without_upd_thm c_thm, prtCause_writes (P := P) h_EVT_PEND h_PRT_GCAUSE, reefRise_writes (P := P) h_EVT_PEND h_PRT_GCAUSE h_THM_PSTAT h_THM_STAT, evalWindow_writes (P := P) h_EVT_PEND h_PRT_GCAUSE h_THM_CABLE h_THM_PSTAT h_THM_STAT c_thm, State.setTp_writes (P := P) c_thm, State.without_when_if, State.without_ite, ite_self]; done)) only [State.without_each, State.without_eachOf, State.without_upd_thm c_thm, prtCause_writes (P := P) h_EVT_PEND h_PRT_GCAUSE, reefRise_writes (P := P) h_EVT_PEND h_PRT_GCAUSE h_THM_PSTAT h_THM_STAT, evalWindow_writes (P := P) h_EVT_PEND h_PRT_GCAUSE h_THM_CABLE h_THM_PSTAT h_THM_STAT c_thm, State.setTp_writes (P := P) c_thm, State.without_when_if, State.without_ite, ite_self]

include h_EVT_PEND h_SYS_SAVESTAT h_THM_JSTAT h_THM_STAT c_sys in
theorem junction_writes (s : State) :
    (junction s).without P = s.without P := by
  unfold junction
  (try simp only [State.w_setB (fl := Fl.THM_JSTAT_TJMIN) h_THM_JSTAT (by decide),
      State.w_setB (fl := Fl.THM_JSTAT_TJMAX) h_THM_JSTAT (by decide),
      State.w_setB (fl := Fl.THM_JSTAT_NVOK) h_THM_JSTAT (by decide),
      State.w_setB (fl := Fl.THM_JSTAT_JSAVE) h_THM_JSTAT (by decide),
      State.w_setFi (fl := Fl.THM_JSTAT_TJMIN) h_THM_JSTAT (by decide),
      State.w_setFi (fl := Fl.THM_JSTAT_TJMAX) h_THM_JSTAT (by decide),
      State.w_setFi (fl := Fl.THM_JSTAT_NVOK) h_THM_JSTAT (by decide),
      State.w_setFi (fl := Fl.THM_JSTAT_JSAVE) h_THM_JSTAT (by decide), State.without_upd_sys c_sys,
      thmCause_writes (P := P) h_EVT_PEND h_THM_STAT, startSave_writes (P := P) h_EVT_PEND h_SYS_SAVESTAT c_sys,
      State.without_when_if, State.without_ite,
      ite_self]) <;> (repeat' split) <;> simp only [State.w_setB (fl := Fl.THM_JSTAT_TJMIN) h_THM_JSTAT (by decide),
      State.w_setB (fl := Fl.THM_JSTAT_TJMAX) h_THM_JSTAT (by decide),
      State.w_setB (fl := Fl.THM_JSTAT_NVOK) h_THM_JSTAT (by decide),
      State.w_setB (fl := Fl.THM_JSTAT_JSAVE) h_THM_JSTAT (by decide),
      State.w_setFi (fl := Fl.THM_JSTAT_TJMIN) h_THM_JSTAT (by decide),
      State.w_setFi (fl := Fl.THM_JSTAT_TJMAX) h_THM_JSTAT (by decide),
      State.w_setFi (fl := Fl.THM_JSTAT_NVOK) h_THM_JSTAT (by decide),
      State.w_setFi (fl := Fl.THM_JSTAT_JSAVE) h_THM_JSTAT (by decide), State.without_upd_sys c_sys,
      thmCause_writes (P := P) h_EVT_PEND h_THM_STAT, startSave_writes (P := P) h_EVT_PEND h_SYS_SAVESTAT c_sys,
      State.without_when_if, State.without_ite, ite_self]

include h_EVT_PEND h_PRT_GCAUSE h_SYS_SAVESTAT h_THM_CABLE h_THM_JSTAT h_THM_PSTAT h_THM_SSTAT h_THM_STAT c_sys c_thm
    in
theorem useValue_writes (i : Nat) (t : Int) (fb : Bool) (s : State) :
    (useValue i t fb s).without P = s.without P := by
  unfold useValue
  simp only [State.w_setB (fl := Fl.THM_SSTAT_FB) h_THM_SSTAT (by decide),
      State.w_setB (fl := Fl.THM_SSTAT_T) h_THM_SSTAT (by decide),
      State.w_setFi (fl := Fl.THM_SSTAT_FB) h_THM_SSTAT (by decide),
      State.w_setFi (fl := Fl.THM_SSTAT_T) h_THM_SSTAT (by decide), State.without_upd_sys c_sys,
      State.without_upd_thm c_thm, stepLadder_writes (P := P) h_THM_SSTAT c_thm,
      checkLimits_writes (P := P) h_EVT_PEND h_THM_SSTAT h_THM_STAT,
      portsOfSensor_writes (P := P) h_EVT_PEND h_PRT_GCAUSE h_THM_CABLE h_THM_PSTAT h_THM_STAT c_thm,
      junction_writes (P := P) h_EVT_PEND h_SYS_SAVESTAT h_THM_JSTAT h_THM_STAT c_sys, State.without_when_if,
      State.without_ite, ite_self]

include h_EVT_PEND h_PRT_GCAUSE h_SYS_SAVESTAT h_THM_CABLE h_THM_JSTAT h_THM_PSTAT h_THM_SSTAT h_THM_STAT c_sys c_thm
    in
theorem useAndFollow_writes (i : Nat) (t : Int) (fb : Bool) (s : State) :
    (useAndFollow i t fb s).without P = s.without P := by
  unfold useAndFollow
  simp (disch := (intros; simp only [State.without_upd_sys c_sys, State.without_upd_thm c_thm, useValue_writes (P := P) h_EVT_PEND h_PRT_GCAUSE h_SYS_SAVESTAT h_THM_CABLE h_THM_JSTAT h_THM_PSTAT h_THM_SSTAT h_THM_STAT c_sys c_thm, State.without_ite, ite_self]; done)) only [State.without_each, State.without_eachOf, State.without_upd_sys c_sys, State.without_upd_thm c_thm, useValue_writes (P := P) h_EVT_PEND h_PRT_GCAUSE h_SYS_SAVESTAT h_THM_CABLE h_THM_JSTAT h_THM_PSTAT h_THM_SSTAT h_THM_STAT c_sys c_thm, State.without_ite, ite_self]

include h_EVT_PEND h_PRT_GCAUSE h_SYS_SAVESTAT h_THM_CABLE h_THM_JSTAT h_THM_PSTAT h_THM_SSTAT h_THM_STAT c_sys c_thm
    in
theorem conversion_writes (i : Nat) (ohms : Nat) (t : Int) (s : State) :
    (conversion i ohms t s).without P = s.without P := by
  unfold conversion
  simp only [State.without_upd_sys c_sys, State.without_upd_thm c_thm, State.setSen_writes (P := P) c_thm,
      useAndFollow_writes (P := P) h_EVT_PEND h_PRT_GCAUSE h_SYS_SAVESTAT h_THM_CABLE h_THM_JSTAT h_THM_PSTAT h_THM_SSTAT h_THM_STAT c_sys c_thm, State.without_ite, ite_self]

include h_EVT_PEND h_PRT_GCAUSE h_SYS_SAVESTAT h_THM_CABLE h_THM_JSTAT h_THM_PSTAT h_THM_SSTAT h_THM_STAT c_sys c_thm
    in
theorem sensorBreaks_writes (i : Nat) (s : State) :
    (sensorBreaks i s).without P = s.without P := by
  unfold sensorBreaks
  simp (disch := (intros; simp only [State.w_setF (fl := Fl.THM_SSTAT_PERIOD) h_THM_SSTAT (by decide), State.w_setF (fl := Fl.THM_SSTAT_FAULT) h_THM_SSTAT (by decide), State.without_upd_sys c_sys, State.without_upd_thm c_thm, thmCause_writes (P := P) h_EVT_PEND h_THM_STAT, prtCause_writes (P := P) h_EVT_PEND h_PRT_GCAUSE, useAndFollow_writes (P := P) h_EVT_PEND h_PRT_GCAUSE h_SYS_SAVESTAT h_THM_CABLE h_THM_JSTAT h_THM_PSTAT h_THM_SSTAT h_THM_STAT c_sys c_thm, State.without_when_if, State.without_ite, ite_self]; done)) only [State.without_each, State.without_eachOf, State.w_setF (fl := Fl.THM_SSTAT_PERIOD) h_THM_SSTAT (by decide), State.w_setF (fl := Fl.THM_SSTAT_FAULT) h_THM_SSTAT (by decide), State.without_upd_sys c_sys, State.without_upd_thm c_thm, thmCause_writes (P := P) h_EVT_PEND h_THM_STAT, prtCause_writes (P := P) h_EVT_PEND h_PRT_GCAUSE, useAndFollow_writes (P := P) h_EVT_PEND h_PRT_GCAUSE h_SYS_SAVESTAT h_THM_CABLE h_THM_JSTAT h_THM_PSTAT h_THM_SSTAT h_THM_STAT c_sys c_thm, State.without_when_if, State.without_ite, ite_self]

include h_EVT_PEND h_PRT_GCAUSE h_SYS_SAVESTAT h_THM_CABLE h_THM_JSTAT h_THM_PSTAT h_THM_SSTAT h_THM_STAT c_sys c_thm
    in
theorem sensorReturns_writes (i : Nat) (s : State) :
    (sensorReturns i s).without P = s.without P := by
  unfold sensorReturns
  (repeat' split) <;> simp only [State.w_setF (fl := Fl.THM_SSTAT_FAULT) h_THM_SSTAT (by decide),
      State.without_upd_sys c_sys, State.without_upd_thm c_thm,
      useAndFollow_writes (P := P) h_EVT_PEND h_PRT_GCAUSE h_SYS_SAVESTAT h_THM_CABLE h_THM_JSTAT h_THM_PSTAT h_THM_SSTAT h_THM_STAT c_sys c_thm, State.without_ite, ite_self]

include c_thm in
theorem flowEdge_writes (p : Nat) (s : State) :
    (flowEdge p s).without P = s.without P := by
  unfold flowEdge
  simp only [State.without_upd_thm c_thm, State.setTp_writes (P := P) c_thm, State.without_ite, ite_self]

include c_drawn in
theorem flowOf_writes (p : Nat) (s : State) :
    (flowOf p s).2.without P = s.without P := by
  unfold flowOf
  (try simp only [State.without_upd_drawn c_drawn, State.draw_writes (P := P) c_drawn, State.without_ite,
      ite_self]) <;> (repeat' split) <;> simp only [State.without_upd_drawn c_drawn,
      State.draw_writes (P := P) c_drawn, State.without_ite, ite_self]

include h_EVT_PEND h_PRT_GCAUSE h_THM_CABLE h_THM_FLOW h_THM_PSTAT h_THM_STAT c_drawn c_thm in
theorem flowCompute_writes (s : State) :
    (flowCompute s).without P = s.without P := by
  unfold flowCompute
  simp (disch := (intros; simp only [State.w_setF (fl := Fl.THM_FLOW_FLOW) h_THM_FLOW (by decide), State.without_upd_drawn c_drawn, State.without_upd_thm c_thm, flowOf_writes (P := P) c_drawn, evalWindow_writes (P := P) h_EVT_PEND h_PRT_GCAUSE h_THM_CABLE h_THM_PSTAT h_THM_STAT c_thm, State.without_ite, ite_self]; done)) only [State.without_each, State.without_eachOf, State.w_setF (fl := Fl.THM_FLOW_FLOW) h_THM_FLOW (by decide), State.without_upd_drawn c_drawn, State.without_upd_thm c_thm, flowOf_writes (P := P) c_drawn, evalWindow_writes (P := P) h_EVT_PEND h_PRT_GCAUSE h_THM_CABLE h_THM_PSTAT h_THM_STAT c_thm, State.without_ite, ite_self]

include h_THM_PSTAT in
theorem nogoClear_writes (p : Nat) (s : State) :
    (nogoClear p s).without P = s.without P := by
  unfold nogoClear
  simp only [State.w_setB (fl := Fl.THM_PSTAT_NOGO) h_THM_PSTAT (by decide), State.without_ite, ite_self]

include h_THM_CABLE in
theorem publishCable_writes (p : Nat) (v : Nat) (s : State) :
    (publishCable p v s).without P = s.without P := by
  unfold publishCable
  simp only [State.w_setF (fl := Fl.THM_CABLE_CABLE) h_THM_CABLE (by decide), State.without_ite, ite_self]

include h_THM_TEST in
theorem showObserver_writes (p : Nat) (o : Observer) (s : State) :
    (showObserver p o s).without P = s.without P := by
  unfold showObserver
  simp only [State.w_setFi (fl := Fl.THM_TEST_T2) h_THM_TEST (by decide),
      State.w_setFi (fl := Fl.THM_TEST_T1) h_THM_TEST (by decide), State.without_ite, ite_self]

include c_drawn in
theorem headroom_writes (o : Observer) (p : Nat) (s : State) :
    (headroom o p s).2.without P = s.without P := by
  unfold headroom
  (try simp only [State.without_upd_drawn c_drawn, State.draw_writes (P := P) c_drawn, State.without_ite,
      ite_self]) <;> (repeat' split) <;> simp only [State.without_upd_drawn c_drawn,
      State.draw_writes (P := P) c_drawn, State.without_ite, ite_self]

include h_EVT_PEND h_PRT_GCAUSE h_THM_CABLE h_THM_PSTAT h_THM_STAT h_THM_TEST c_drawn c_thm in
theorem observePort_writes (p : Nat) (s : State) :
    (observePort p s).without P = s.without P := by
  unfold observePort
  simp only [State.w_setB (fl := Fl.THM_PSTAT_OBSFB) h_THM_PSTAT (by decide), State.without_upd_drawn c_drawn,
      State.without_upd_thm c_thm, thmCause_writes (P := P) h_EVT_PEND h_THM_STAT,
      prtCause_writes (P := P) h_EVT_PEND h_PRT_GCAUSE, publishCable_writes (P := P) h_THM_CABLE,
      showObserver_writes (P := P) h_THM_TEST, State.setTp_writes (P := P) c_thm, headroom_writes (P := P) c_drawn,
      reefRise_writes (P := P) h_EVT_PEND h_PRT_GCAUSE h_THM_PSTAT h_THM_STAT, State.without_ite, ite_self]

include h_EVT_PEND h_PRT_GCAUSE h_THM_CABLE h_THM_PSTAT h_THM_STAT h_THM_TEST c_drawn c_thm in
theorem observerStep_writes (s : State) :
    (observerStep s).without P = s.without P := by
  unfold observerStep
  simp (disch := (intros; simp only [State.without_upd_drawn c_drawn, State.without_upd_thm c_thm, observePort_writes (P := P) h_EVT_PEND h_PRT_GCAUSE h_THM_CABLE h_THM_PSTAT h_THM_STAT h_THM_TEST c_drawn c_thm, State.without_ite, ite_self]; done)) only [State.without_each, State.without_eachOf, State.without_upd_drawn c_drawn, State.without_upd_thm c_thm, observePort_writes (P := P) h_EVT_PEND h_PRT_GCAUSE h_THM_CABLE h_THM_PSTAT h_THM_STAT h_THM_TEST c_drawn c_thm, State.without_ite, ite_self]

include h_BIL_STAT h_BIL_TCOUNT h_BIL_TFIRSTH h_BIL_TFIRSTL h_BIL_TLASTH h_BIL_TLASTL h_EVT_PEND h_MTR_MSTAT
    h_MTR_STAT c_bil in
theorem meterOver_writes (m : Nat) (s : State) :
    (meterOver m s).without P = s.without P := by
  unfold meterOver
  simp only [State.w_setB (fl := Fl.MTR_MSTAT_OVR) h_MTR_MSTAT (by decide), State.without_upd_bil c_bil,
      tamper_writes (P := P) h_BIL_STAT h_BIL_TCOUNT h_BIL_TFIRSTH h_BIL_TFIRSTL h_BIL_TLASTH h_BIL_TLASTL h_EVT_PEND, mtrCause_writes (P := P) h_EVT_PEND h_MTR_STAT, meterFlag_writes (P := P) c_bil, State.without_when_if, State.without_ite, ite_self]

include h_BIL_STAT h_BIL_TCOUNT h_BIL_TFIRSTH h_BIL_TFIRSTL h_BIL_TLASTH h_BIL_TLASTL h_EVT_PEND h_MTR_MSTAT
    h_MTR_STAT c_bil c_mtr in
theorem meterSample_writes (m : Nat) (i : Int) (v : Int) (s : State) :
    (meterSample m i v s).without P = s.without P := by
  unfold meterSample
  simp only [State.w_setB (fl := Fl.MTR_MSTAT_CREEP) h_MTR_MSTAT (by decide), State.without_upd_bil c_bil,
      State.without_upd_mtr c_mtr,
      meterOver_writes (P := P) h_BIL_STAT h_BIL_TCOUNT h_BIL_TFIRSTH h_BIL_TFIRSTL h_BIL_TLASTH h_BIL_TLASTL h_EVT_PEND h_MTR_MSTAT h_MTR_STAT c_bil, State.setMt_writes (P := P) c_mtr, State.without_when_if, State.without_ite, ite_self]

include h_MTR_FTI h_MTR_FTV in
theorem fastTap_writes (m : Nat) (i : Int) (v : Int) (s : State) :
    (fastTap m i v s).without P = s.without P := by
  unfold fastTap
  simp only [State.w_setFi (fl := Fl.MTR_FTV_V_FT) h_MTR_FTV (by decide),
      State.w_setFi (fl := Fl.MTR_FTI_I_FT) h_MTR_FTI (by decide), State.without_ite, ite_self]

include h_BIL_KOFFH h_BIL_KOFFL h_BIL_STAT h_BIL_TCOUNT h_BIL_TFIRSTH h_BIL_TFIRSTL h_BIL_TLASTH h_BIL_TLASTL
    h_EVT_PEND c_bil c_time in
theorem kChange_writes (new : Int) (src : Nat) (s : State) :
    (kChange new src s).without P = s.without P := by
  unfold kChange
  simp only [State.w_setQi (lo := R.BIL_KOFFL) (hi := R.BIL_KOFFH) h_BIL_KOFFL h_BIL_KOFFH (by decide) (by decide),
      State.without_upd_bil c_bil, State.without_upd_time c_time, State.work_writes (P := P) c_bil,
      tamper_writes (P := P) h_BIL_STAT h_BIL_TCOUNT h_BIL_TFIRSTH h_BIL_TFIRSTL h_BIL_TLASTH h_BIL_TLASTL h_EVT_PEND, bilCause_writes (P := P) h_BIL_STAT h_EVT_PEND, State.without_ite, ite_self]

include h_BIL_KOFFH h_BIL_KOFFL h_BIL_STAT h_BIL_TCOUNT h_BIL_TFIRSTH h_BIL_TFIRSTL h_BIL_TLASTH h_BIL_TLASTL
    h_EVT_PEND h_TIM_STAT c_bil c_time in
theorem calendarAtFold_writes (s : State) :
    (calendarAtFold s).without P = s.without P := by
  unfold calendarAtFold
  (repeat' split) <;> simp only [State.w_setB (fl := Fl.TIM_STAT_CALPEND) h_TIM_STAT (by decide),
      State.w_setB (fl := Fl.TIM_STAT_CALVALID) h_TIM_STAT (by decide),
      State.w_setB (fl := Fl.TIM_STAT_RTCVALID) h_TIM_STAT (by decide), State.without_upd_bil c_bil,
      State.without_upd_time c_time, timCause_writes (P := P) h_EVT_PEND h_TIM_STAT,
      kChange_writes (P := P) h_BIL_KOFFH h_BIL_KOFFL h_BIL_STAT h_BIL_TCOUNT h_BIL_TFIRSTH h_BIL_TFIRSTL h_BIL_TLASTH h_BIL_TLASTL h_EVT_PEND c_bil c_time, State.without_when_if, State.without_ite, ite_self]

include c_time in
theorem addTime_writes (ns : Int) (s : State) :
    (addTime ns s).without P = s.without P := by
  unfold addTime
  simp only [State.without_upd_time c_time, State.without_ite, ite_self]

include h_BIL_KOFFH h_BIL_KOFFL h_BIL_NEXTH h_BIL_NEXTL c_bil c_mtr c_time in
theorem deviceStepped_writes (delta : Int) (s : State) :
    (deviceStepped delta s).without P = s.without P := by
  unfold deviceStepped
  simp only [State.w_setQi (lo := R.BIL_KOFFL) (hi := R.BIL_KOFFH) h_BIL_KOFFL h_BIL_KOFFH (by decide) (by decide),
      State.without_upd_bil c_bil, State.without_upd_mtr c_mtr, State.without_upd_time c_time,
      State.work_writes (P := P) c_bil, schedule_writes (P := P) h_BIL_NEXTH h_BIL_NEXTL c_bil c_mtr,
      State.without_ite, ite_self]

include h_BIL_KOFFH h_BIL_KOFFL h_BIL_NEXTH h_BIL_NEXTL c_bil c_mtr c_time in
theorem timeStep_writes (ms : Int) (s : State) :
    (timeStep ms s).without P = s.without P := by
  unfold timeStep
  simp (disch := (intros; simp only [State.without_upd_bil c_bil, State.without_upd_mtr c_mtr, State.without_upd_time c_time, addTime_writes (P := P) c_time, State.setMt_writes (P := P) c_mtr, deviceStepped_writes (P := P) h_BIL_KOFFH h_BIL_KOFFL h_BIL_NEXTH h_BIL_NEXTL c_bil c_mtr c_time, State.without_ite, ite_self]; done)) only [State.without_each, State.without_eachOf, State.without_upd_bil c_bil, State.without_upd_mtr c_mtr, State.without_upd_time c_time, addTime_writes (P := P) c_time, State.setMt_writes (P := P) c_mtr, deviceStepped_writes (P := P) h_BIL_KOFFH h_BIL_KOFFL h_BIL_NEXTH h_BIL_NEXTL c_bil c_mtr c_time, State.without_ite, ite_self]

include h_BIL_KOFFH h_BIL_KOFFL h_BIL_NEXTH h_BIL_NEXTL h_EVT_PEND h_TIM_STAT c_bil c_mtr c_time in
theorem stepAtFold_writes (s : State) :
    (stepAtFold s).without P = s.without P := by
  unfold stepAtFold
  (repeat' split) <;> simp only [State.w_setB (fl := Fl.TIM_STAT_STEPPEND) h_TIM_STAT (by decide),
      State.without_upd_bil c_bil, State.without_upd_mtr c_mtr, State.without_upd_time c_time,
      stepRefused_writes (P := P) h_EVT_PEND h_TIM_STAT,
      timeStep_writes (P := P) h_BIL_KOFFH h_BIL_KOFFL h_BIL_NEXTH h_BIL_NEXTL c_bil c_mtr c_time, State.without_ite,
      ite_self]

include c_sig in
theorem receiptRequest_writes (x : SessionStart) (b : Nat) (label : Nat) (s : State) :
    (receiptRequest x b label s).without P = s.without P := by
  unfold receiptRequest
  simp only [State.without_upd_sig c_sig, queueSign_writes (P := P) c_sig, State.without_ite, ite_self]

include h_BIL_SENERGYH h_BIL_SENERGYL h_BIL_SSTARTH h_BIL_SSTARTL c_bil c_sig in
theorem sessionEnergy_writes (b : Nat) (s : State) :
    (sessionEnergy b s).without P = s.without P := by
  unfold sessionEnergy
  simp (disch := (intros; (repeat' split) <;> simp only [State.w_setQ (lo := R.BIL_SENERGYL) (hi := R.BIL_SENERGYH) h_BIL_SENERGYL h_BIL_SENERGYH (by decide) (by decide), State.w_setQ (lo := R.BIL_SSTARTL) (hi := R.BIL_SSTARTH) h_BIL_SSTARTL h_BIL_SSTARTH (by decide) (by decide), State.without_upd_bil c_bil, State.without_upd_sig c_sig, receiptRequest_writes (P := P) c_sig, State.without_ite, ite_self]; done)) only [State.without_each, State.without_eachOf, State.w_setQ (lo := R.BIL_SENERGYL) (hi := R.BIL_SENERGYH) h_BIL_SENERGYL h_BIL_SENERGYH (by decide) (by decide), State.w_setQ (lo := R.BIL_SSTARTL) (hi := R.BIL_SSTARTH) h_BIL_SSTARTL h_BIL_SSTARTH (by decide) (by decide), State.without_upd_bil c_bil, State.without_upd_sig c_sig, receiptRequest_writes (P := P) c_sig, State.without_ite, ite_self]

include h_BIL_NEXTH h_BIL_NEXTL h_BIL_STAT h_BIL_TCOUNT h_BIL_TFIRSTH h_BIL_TFIRSTL h_BIL_TLASTH h_BIL_TLASTL
    h_EVT_PEND c_bil c_mtr in
theorem stepBoundary_writes (b : Nat) (s : State) :
    (stepBoundary b s).without P = s.without P := by
  unfold stepBoundary
  (repeat' split) <;> simp only [State.without_upd_bil c_bil, State.without_upd_mtr c_mtr,
      State.work_writes (P := P) c_bil, schedule_writes (P := P) h_BIL_NEXTH h_BIL_NEXTL c_bil c_mtr,
      pushSlot_writes (P := P) c_bil,
      tamper_writes (P := P) h_BIL_STAT h_BIL_TCOUNT h_BIL_TFIRSTH h_BIL_TFIRSTL h_BIL_TLASTH h_BIL_TLASTL h_EVT_PEND, bilCause_writes (P := P) h_BIL_STAT h_EVT_PEND, State.without_ite, ite_self]

include h_BIL_NEXTH h_BIL_NEXTL h_BIL_SENERGYH h_BIL_SENERGYL h_BIL_SSTARTH h_BIL_SSTARTL h_BIL_STAT h_BIL_TCOUNT
    h_BIL_TFIRSTH h_BIL_TFIRSTL h_BIL_TLASTH h_BIL_TLASTL h_EVT_PEND c_bil c_mtr c_sig in
theorem billingFold_writes (b : Nat) (s : State) :
    (billingFold b s).without P = s.without P := by
  unfold billingFold
  simp only [State.without_upd_bil c_bil, State.without_upd_mtr c_mtr, State.without_upd_sig c_sig,
      sessionEnergy_writes (P := P) h_BIL_SENERGYH h_BIL_SENERGYL h_BIL_SSTARTH h_BIL_SSTARTL c_bil c_sig,
      stepBoundary_writes (P := P) h_BIL_NEXTH h_BIL_NEXTL h_BIL_STAT h_BIL_TCOUNT h_BIL_TFIRSTH h_BIL_TFIRSTL h_BIL_TLASTH h_BIL_TLASTL h_EVT_PEND c_bil c_mtr, pushSlot_writes (P := P) c_bil, schedule_writes (P := P) h_BIL_NEXTH h_BIL_NEXTL c_bil c_mtr, State.work_writes (P := P) c_bil, State.without_ite, ite_self]

include h_BIL_STAT h_BIL_TCOUNT h_BIL_TFIRSTH h_BIL_TFIRSTL h_BIL_TLASTH h_BIL_TLASTL h_EVT_PEND c_bil c_rng in
theorem takeoverFold_writes (b : Nat) (s : State) :
    (takeoverFold b s).without P = s.without P := by
  unfold takeoverFold
  (try simp (disch := (intros; ((try simp only [State.without_upd_bil c_bil, State.without_upd_rng c_rng, tamper_writes (P := P) h_BIL_STAT h_BIL_TCOUNT h_BIL_TFIRSTH h_BIL_TFIRSTL h_BIL_TLASTH h_BIL_TLASTL h_EVT_PEND, State.work_writes (P := P) c_bil, State.without_when_if, State.without_ite, ite_self]) <;> (repeat' split) <;> (try simp only [State.without_upd_bil c_bil, State.without_upd_rng c_rng, tamper_writes (P := P) h_BIL_STAT h_BIL_TCOUNT h_BIL_TFIRSTH h_BIL_TFIRSTL h_BIL_TLASTH h_BIL_TLASTL h_EVT_PEND, State.work_writes (P := P) c_bil, State.without_when_if, State.without_ite, ite_self])); done)) only [State.without_each, State.without_eachOf, State.without_upd_bil c_bil, State.without_upd_rng c_rng, tamper_writes (P := P) h_BIL_STAT h_BIL_TCOUNT h_BIL_TFIRSTH h_BIL_TFIRSTL h_BIL_TLASTH h_BIL_TLASTL h_EVT_PEND, State.work_writes (P := P) c_bil, State.without_when_if, State.without_ite, ite_self]) <;> (repeat' split) <;>
    (try simp (disch := (intros; ((try simp only [State.without_upd_bil c_bil, State.without_upd_rng c_rng, tamper_writes (P := P) h_BIL_STAT h_BIL_TCOUNT h_BIL_TFIRSTH h_BIL_TFIRSTL h_BIL_TLASTH h_BIL_TLASTL h_EVT_PEND, State.work_writes (P := P) c_bil, State.without_when_if, State.without_ite, ite_self]) <;> (repeat' split) <;> (try simp only [State.without_upd_bil c_bil, State.without_upd_rng c_rng, tamper_writes (P := P) h_BIL_STAT h_BIL_TCOUNT h_BIL_TFIRSTH h_BIL_TFIRSTL h_BIL_TLASTH h_BIL_TLASTL h_EVT_PEND, State.work_writes (P := P) c_bil, State.without_when_if, State.without_ite, ite_self])); done)) only [State.without_each, State.without_eachOf, State.without_upd_bil c_bil, State.without_upd_rng c_rng, tamper_writes (P := P) h_BIL_STAT h_BIL_TCOUNT h_BIL_TFIRSTH h_BIL_TFIRSTL h_BIL_TLASTH h_BIL_TLASTL h_EVT_PEND, State.work_writes (P := P) c_bil, State.without_when_if, State.without_ite, ite_self])

include h_MTR_EDELH h_MTR_EDELL h_MTR_ERECH h_MTR_ERECL h_MTR_FOLD h_MTR_MP1 h_MTR_MSTAT h_MTR_RAWDELH h_MTR_RAWDELL
    h_MTR_RAWRECH h_MTR_RAWRECL h_MTR_XDEL h_MTR_XREC c_mtr in
theorem fold_writes (s : State) :
    (fold s).without P = s.without P := by
  unfold fold
  simp (disch := (intros; simp only [State.without_upd_mtr c_mtr, commitFold_writes (P := P) h_MTR_FOLD c_mtr, foldMeter_writes (P := P) h_MTR_EDELH h_MTR_EDELL h_MTR_ERECH h_MTR_ERECL h_MTR_MP1 h_MTR_MSTAT h_MTR_RAWDELH h_MTR_RAWDELL h_MTR_RAWRECH h_MTR_RAWRECL h_MTR_XDEL h_MTR_XREC c_mtr, State.without_ite, ite_self]; done)) only [State.without_each, State.without_eachOf, State.without_upd_mtr c_mtr, commitFold_writes (P := P) h_MTR_FOLD c_mtr, foldMeter_writes (P := P) h_MTR_EDELH h_MTR_EDELL h_MTR_ERECH h_MTR_ERECL h_MTR_MP1 h_MTR_MSTAT h_MTR_RAWDELH h_MTR_RAWDELL h_MTR_RAWRECH h_MTR_RAWRECL h_MTR_XDEL h_MTR_XREC c_mtr, State.without_ite, ite_self]

include h_BIL_KOFFH h_BIL_KOFFL h_BIL_NEXTH h_BIL_NEXTL h_BIL_SENERGYH h_BIL_SENERGYL h_BIL_SSTARTH h_BIL_SSTARTL
    h_BIL_STAT h_BIL_TCOUNT h_BIL_TFIRSTH h_BIL_TFIRSTL h_BIL_TLASTH h_BIL_TLASTL h_EVT_PEND h_MTR_EDELH h_MTR_EDELL h_MTR_ERECH h_MTR_ERECL h_MTR_FOLD h_MTR_MP1 h_MTR_MSTAT h_MTR_RAWDELH h_MTR_RAWDELL h_MTR_RAWRECH h_MTR_RAWRECL h_MTR_XDEL h_MTR_XREC h_TIM_STAT c_bil c_mtr c_rng c_sig c_time in
theorem foldInstant_writes (s : State) :
    (foldInstant s).without P = s.without P := by
  unfold foldInstant
  simp only [State.without_upd_bil c_bil, State.without_upd_mtr c_mtr, State.without_upd_rng c_rng,
      State.without_upd_sig c_sig, State.without_upd_time c_time,
      calendarAtFold_writes (P := P) h_BIL_KOFFH h_BIL_KOFFL h_BIL_STAT h_BIL_TCOUNT h_BIL_TFIRSTH h_BIL_TFIRSTL h_BIL_TLASTH h_BIL_TLASTL h_EVT_PEND h_TIM_STAT c_bil c_time, stepAtFold_writes (P := P) h_BIL_KOFFH h_BIL_KOFFL h_BIL_NEXTH h_BIL_NEXTL h_EVT_PEND h_TIM_STAT c_bil c_mtr c_time, billingFold_writes (P := P) h_BIL_NEXTH h_BIL_NEXTL h_BIL_SENERGYH h_BIL_SENERGYL h_BIL_SSTARTH h_BIL_SSTARTL h_BIL_STAT h_BIL_TCOUNT h_BIL_TFIRSTH h_BIL_TFIRSTL h_BIL_TLASTH h_BIL_TLASTL h_EVT_PEND c_bil c_mtr c_sig, takeoverFold_writes (P := P) h_BIL_STAT h_BIL_TCOUNT h_BIL_TFIRSTH h_BIL_TFIRSTL h_BIL_TLASTH h_BIL_TLASTL h_EVT_PEND c_bil c_rng, fold_writes (P := P) h_MTR_EDELH h_MTR_EDELL h_MTR_ERECH h_MTR_ERECL h_MTR_FOLD h_MTR_MP1 h_MTR_MSTAT h_MTR_RAWDELH h_MTR_RAWDELL h_MTR_RAWRECH h_MTR_RAWRECL h_MTR_XDEL h_MTR_XREC c_mtr, State.without_ite, ite_self]

include h_BIL_STAT h_BIL_TCOUNT h_BIL_TFIRSTH h_BIL_TFIRSTL h_BIL_TLASTH h_BIL_TLASTL h_EVT_PEND h_MTR_MSTAT
    h_MTR_STAT c_bil c_mtr in
theorem meterCheck_writes (m : Nat) (pass : Bool) (s : State) :
    (meterCheck m pass s).without P = s.without P := by
  unfold meterCheck
  simp only [State.w_setB (fl := Fl.MTR_MSTAT_SEC) h_MTR_MSTAT (by decide),
      State.w_setB (fl := Fl.MTR_MSTAT_FAULT) h_MTR_MSTAT (by decide), State.without_upd_bil c_bil,
      State.without_upd_mtr c_mtr, State.setMt_writes (P := P) c_mtr,
      tamper_writes (P := P) h_BIL_STAT h_BIL_TCOUNT h_BIL_TFIRSTH h_BIL_TFIRSTL h_BIL_TLASTH h_BIL_TLASTL h_EVT_PEND, mtrCause_writes (P := P) h_EVT_PEND h_MTR_STAT, meterFlag_writes (P := P) c_bil, State.without_ite, ite_self]

include h_MTR_MSTAT in
theorem meterFaultClear_writes (m : Nat) (s : State) :
    (meterFaultClear m s).without P = s.without P := by
  unfold meterFaultClear
  simp only [State.w_setB (fl := Fl.MTR_MSTAT_SEC) h_MTR_MSTAT (by decide),
      State.w_setB (fl := Fl.MTR_MSTAT_FAULT) h_MTR_MSTAT (by decide), State.without_ite, ite_self]

include h_MTR_MSTAT h_MTR_PCNT c_mtr in
theorem pulseStart_writes (m : Nat) (s : State) :
    (pulseStart m s).without P = s.without P := by
  unfold pulseStart
  simp only [State.w_addF (fl := Fl.MTR_PCNT_PCNT) h_MTR_PCNT (by decide), State.without_upd_mtr c_mtr,
      showBacklog_writes (P := P) h_MTR_MSTAT, State.setMt_writes (P := P) c_mtr, State.without_ite, ite_self]

include h_MTR_EEXPH h_MTR_EEXPL h_MTR_EIMPH h_MTR_EIMPL h_MTR_XEXP h_MTR_XIMP c_mtr in
theorem gridCredit_writes (ex : Bool) (u : Nat) (s : State) :
    (gridCredit ex u s).without P = s.without P := by
  unfold gridCredit
  simp only [State.without_upd_mtr c_mtr,
      showGrid_writes (P := P) h_MTR_EEXPH h_MTR_EEXPL h_MTR_EIMPH h_MTR_EIMPL h_MTR_XEXP h_MTR_XIMP c_mtr,
      State.without_ite, ite_self]

include h_BIL_STAT h_BIL_TCOUNT h_BIL_TFIRSTH h_BIL_TFIRSTL h_BIL_TLASTH h_BIL_TLASTL h_EVT_PEND h_MTR_EEXPH
    h_MTR_EEXPL h_MTR_EIMPH h_MTR_EIMPL h_MTR_GFREQ h_MTR_GP1 h_MTR_GRMSI h_MTR_GRMSV h_MTR_GSTAT h_MTR_STAT h_MTR_XEXP h_MTR_XIMP c_bil c_mtr in
theorem gridCompute_writes (gp1 : Int) (vRms : List Nat) (iRms : List Nat) (mHz : Nat) (s : State) :
    (gridCompute gp1 vRms iRms mHz s).without P = s.without P := by
  unfold gridCompute
  simp (disch := (intros; simp only [State.w_setF (fl := Fl.MTR_GFREQ_F) h_MTR_GFREQ (by decide), State.w_setF (fl := Fl.MTR_GP1_GP1) h_MTR_GP1 (by decide), State.w_setF (fl := Fl.MTR_GRMSI_I) h_MTR_GRMSI (by decide), State.w_setF (fl := Fl.MTR_GRMSV_V) h_MTR_GRMSV (by decide), State.w_setFi (fl := Fl.MTR_GFREQ_F) h_MTR_GFREQ (by decide), State.w_setFi (fl := Fl.MTR_GP1_GP1) h_MTR_GP1 (by decide), State.w_setFi (fl := Fl.MTR_GRMSI_I) h_MTR_GRMSI (by decide), State.w_setFi (fl := Fl.MTR_GRMSV_V) h_MTR_GRMSV (by decide), State.without_upd_bil c_bil, State.without_upd_mtr c_mtr, State.setGin_writes (P := P) c_mtr, gridCredit_writes (P := P) h_MTR_EEXPH h_MTR_EEXPL h_MTR_EIMPH h_MTR_EIMPL h_MTR_XEXP h_MTR_XIMP c_mtr, tamper_writes (P := P) h_BIL_STAT h_BIL_TCOUNT h_BIL_TFIRSTH h_BIL_TFIRSTL h_BIL_TLASTH h_BIL_TLASTL h_EVT_PEND, mtrCause_writes (P := P) h_EVT_PEND h_MTR_STAT, gridMode_writes (P := P) h_EVT_PEND h_MTR_GSTAT h_MTR_STAT c_bil c_mtr, State.without_ite, ite_self]; done)) only [State.without_each, State.without_eachOf, State.w_setF (fl := Fl.MTR_GFREQ_F) h_MTR_GFREQ (by decide), State.w_setF (fl := Fl.MTR_GP1_GP1) h_MTR_GP1 (by decide), State.w_setF (fl := Fl.MTR_GRMSI_I) h_MTR_GRMSI (by decide), State.w_setF (fl := Fl.MTR_GRMSV_V) h_MTR_GRMSV (by decide), State.w_setFi (fl := Fl.MTR_GFREQ_F) h_MTR_GFREQ (by decide), State.w_setFi (fl := Fl.MTR_GP1_GP1) h_MTR_GP1 (by decide), State.w_setFi (fl := Fl.MTR_GRMSI_I) h_MTR_GRMSI (by decide), State.w_setFi (fl := Fl.MTR_GRMSV_V) h_MTR_GRMSV (by decide), State.without_upd_bil c_bil, State.without_upd_mtr c_mtr, State.setGin_writes (P := P) c_mtr, gridCredit_writes (P := P) h_MTR_EEXPH h_MTR_EEXPL h_MTR_EIMPH h_MTR_EIMPL h_MTR_XEXP h_MTR_XIMP c_mtr, tamper_writes (P := P) h_BIL_STAT h_BIL_TCOUNT h_BIL_TFIRSTH h_BIL_TFIRSTL h_BIL_TLASTH h_BIL_TLASTL h_EVT_PEND, mtrCause_writes (P := P) h_EVT_PEND h_MTR_STAT, gridMode_writes (P := P) h_EVT_PEND h_MTR_GSTAT h_MTR_STAT c_bil c_mtr, State.without_ite, ite_self]

include h_EVT_PEND h_MTR_EEXPH h_MTR_EEXPL h_MTR_EIMPH h_MTR_EIMPL h_MTR_GSTAT h_MTR_STAT h_MTR_XEXP h_MTR_XIMP c_bil
    c_mtr in
theorem utilityPulse_writes (ex : Bool) (widthUs : Nat) (s : State) :
    (utilityPulse ex widthUs s).without P = s.without P := by
  unfold utilityPulse
  simp only [State.w_satF (fl := Fl.MTR_GSTAT_SHORTP) h_MTR_GSTAT (by decide), State.without_upd_bil c_bil,
      State.without_upd_mtr c_mtr,
      gridCredit_writes (P := P) h_MTR_EEXPH h_MTR_EEXPL h_MTR_EIMPH h_MTR_EIMPL h_MTR_XEXP h_MTR_XIMP c_mtr,
      State.setGin_writes (P := P) c_mtr, gridMode_writes (P := P) h_EVT_PEND h_MTR_GSTAT h_MTR_STAT c_bil c_mtr,
      State.without_ite, ite_self]

include h_EVT_PEND h_MTR_MIRH h_MTR_MIRL h_MTR_RES0 h_MTR_RESBH h_MTR_RESBL h_MTR_RESEDH h_MTR_RESEDL h_MTR_RESFRAC
    h_MTR_STAT c_mtr in
theorem boundaryResult_writes (e : Prod Nat (Prod Nat Nat)) (s : State) :
    (boundaryResult e s).without P = s.without P := by
  unfold boundaryResult
  simp only [State.w_setF (fl := Fl.MTR_RESFRAC_REC) h_MTR_RESFRAC (by decide),
      State.w_setF (fl := Fl.MTR_RESFRAC_DEL) h_MTR_RESFRAC (by decide),
      State.w_setFM (r := R.MTR_MIRL) h_MTR_MIRL (by decide), State.w_setFM (r := R.MTR_MIRH) h_MTR_MIRH (by decide),
      State.w_setFM (r := R.MTR_RESEDL) h_MTR_RESEDL (by decide),
      State.w_setFM (r := R.MTR_RESEDH) h_MTR_RESEDH (by decide),
      State.w_setFM (r := R.MTR_RESBL) h_MTR_RESBL (by decide),
      State.w_setFM (r := R.MTR_RESBH) h_MTR_RESBH (by decide),
      State.w_setF (fl := Fl.MTR_RES0_TAG) h_MTR_RES0 (by decide),
      State.w_setF (fl := Fl.MTR_RES0_METER) h_MTR_RES0 (by decide),
      State.w_setF (fl := Fl.MTR_RES0_VALID) h_MTR_RES0 (by decide),
      State.w_setFM (r := R.MTR_RES0) h_MTR_RES0 (by decide),
      State.w_setB (fl := Fl.MTR_RESFRAC_REC) h_MTR_RESFRAC (by decide),
      State.w_setB (fl := Fl.MTR_RESFRAC_DEL) h_MTR_RESFRAC (by decide),
      State.w_setBM (r := R.MTR_MIRL) h_MTR_MIRL (by decide), State.w_setBM (r := R.MTR_MIRH) h_MTR_MIRH (by decide),
      State.w_setBM (r := R.MTR_RESEDL) h_MTR_RESEDL (by decide),
      State.w_setBM (r := R.MTR_RESEDH) h_MTR_RESEDH (by decide),
      State.w_setBM (r := R.MTR_RESBL) h_MTR_RESBL (by decide),
      State.w_setBM (r := R.MTR_RESBH) h_MTR_RESBH (by decide),
      State.w_setB (fl := Fl.MTR_RES0_TAG) h_MTR_RES0 (by decide),
      State.w_setB (fl := Fl.MTR_RES0_METER) h_MTR_RES0 (by decide),
      State.w_setB (fl := Fl.MTR_RES0_VALID) h_MTR_RES0 (by decide),
      State.w_setBM (r := R.MTR_RES0) h_MTR_RES0 (by decide),
      State.w_setReg (r := R.MTR_MIRL) h_MTR_MIRL (by decide),
      State.w_setReg (r := R.MTR_MIRH) h_MTR_MIRH (by decide),
      State.w_setReg (r := R.MTR_RESEDL) h_MTR_RESEDL (by decide),
      State.w_setReg (r := R.MTR_RESEDH) h_MTR_RESEDH (by decide),
      State.w_setReg (r := R.MTR_RESBL) h_MTR_RESBL (by decide),
      State.w_setReg (r := R.MTR_RESBH) h_MTR_RESBH (by decide),
      State.w_setReg (r := R.MTR_RES0) h_MTR_RES0 (by decide),
      State.w_setQ (lo := R.MTR_MIRL) (hi := R.MTR_MIRH) h_MTR_MIRL h_MTR_MIRH (by decide) (by decide),
      State.w_setQ (lo := R.MTR_RESEDL) (hi := R.MTR_RESEDH) h_MTR_RESEDL h_MTR_RESEDH (by decide) (by decide),
      State.w_setQ (lo := R.MTR_RESBL) (hi := R.MTR_RESBH) h_MTR_RESBL h_MTR_RESBH (by decide) (by decide),
      State.without_upd_mtr c_mtr, mtrCause_writes (P := P) h_EVT_PEND h_MTR_STAT, State.without_ite, ite_self]

include h_EVT_PEND h_MTR_BNDCTL h_MTR_MIRH h_MTR_MIRL h_MTR_RES0 h_MTR_RESBH h_MTR_RESBL h_MTR_RESEDH h_MTR_RESEDL
    h_MTR_RESFRAC h_MTR_STAT c_mtr in
theorem boundaryLatch_writes (s : State) :
    (boundaryLatch s).without P = s.without P := by
  unfold boundaryLatch
  simp (disch := (intros; simp only [State.w_setF (fl := Fl.MTR_BNDCTL_COUNT) h_MTR_BNDCTL (by decide), State.without_upd_mtr c_mtr, boundaryResult_writes (P := P) h_EVT_PEND h_MTR_MIRH h_MTR_MIRL h_MTR_RES0 h_MTR_RESBH h_MTR_RESBL h_MTR_RESEDH h_MTR_RESEDL h_MTR_RESFRAC h_MTR_STAT c_mtr, State.without_ite, ite_self]; done)) only [State.without_each, State.without_eachOf, State.w_setF (fl := Fl.MTR_BNDCTL_COUNT) h_MTR_BNDCTL (by decide), State.without_upd_mtr c_mtr, boundaryResult_writes (P := P) h_EVT_PEND h_MTR_MIRH h_MTR_MIRL h_MTR_RES0 h_MTR_RESBH h_MTR_RESBL h_MTR_RESEDH h_MTR_RESEDL h_MTR_RESFRAC h_MTR_STAT c_mtr, State.without_ite, ite_self]

include h_BIL_ADAY h_BIL_ARCH h_BIL_ASEA0 h_BIL_ASEA1 h_BIL_ASPEC h_BIL_AWEEK0 h_BIL_AWEEK1 h_BIL_DLAST h_BIL_DMAX0
    h_BIL_DMAX1 h_BIL_DPREV0 h_BIL_DPREV1 h_BIL_EBASE0H h_BIL_EBASE0L h_BIL_EBASE1H h_BIL_EBASE1L h_BIL_ISEQ h_BIL_KOFFH h_BIL_KOFFL h_BIL_NEXTH h_BIL_NEXTL h_BIL_SPAN0 h_BIL_SPAN1 h_BIL_STAT h_BIL_TCOUNT h_BIL_TDELH h_BIL_TDELL h_BIL_TFIRSTH h_BIL_TFIRSTL h_BIL_TLASTH h_BIL_TLASTL h_BIL_TRECH h_BIL_TRECL h_EVT_PEND h_MTR_STAT h_SIG_KSTAT h_SIG_LIMITH h_SIG_LIMITL h_SIG_NEXTH h_SIG_NEXTL h_SIG_PUB h_SIG_STAT c_bil c_mtr c_rng c_sig in
theorem boundaryProcess_writes (s : State) :
    (boundaryProcess s).without P = s.without P := by
  unfold boundaryProcess
  (repeat' split) <;> simp only [State.without_upd_bil c_bil, State.without_upd_mtr c_mtr,
      State.without_upd_rng c_rng, State.without_upd_sig c_sig,
      processSlot_writes (P := P) h_BIL_ADAY h_BIL_ARCH h_BIL_ASEA0 h_BIL_ASEA1 h_BIL_ASPEC h_BIL_AWEEK0 h_BIL_AWEEK1 h_BIL_DLAST h_BIL_DMAX0 h_BIL_DMAX1 h_BIL_DPREV0 h_BIL_DPREV1 h_BIL_EBASE0H h_BIL_EBASE0L h_BIL_EBASE1H h_BIL_EBASE1L h_BIL_ISEQ h_BIL_KOFFH h_BIL_KOFFL h_BIL_NEXTH h_BIL_NEXTL h_BIL_SPAN0 h_BIL_SPAN1 h_BIL_STAT h_BIL_TCOUNT h_BIL_TDELH h_BIL_TDELL h_BIL_TFIRSTH h_BIL_TFIRSTL h_BIL_TLASTH h_BIL_TLASTL h_BIL_TRECH h_BIL_TRECL h_EVT_PEND h_MTR_STAT h_SIG_KSTAT h_SIG_LIMITH h_SIG_LIMITL h_SIG_NEXTH h_SIG_NEXTL h_SIG_PUB h_SIG_STAT c_bil c_mtr c_rng c_sig, State.without_ite, ite_self]

include c_bil in
theorem State.setDisp_writes (s : State) (u : Nat) (f : DisplayUnit → DisplayUnit) :
    (State.setDisp s u f).without P = s.without P := by
  unfold State.setDisp
  simp only [State.without_upd_bil c_bil, State.without_ite, ite_self]

include h_BIL_DSTAT c_bil in
theorem displayFrames_writes (s : State) :
    (displayFrames s).without P = s.without P := by
  unfold displayFrames
  simp (disch := (intros; simp only [State.w_setF (fl := Fl.BIL_DSTAT_ITEM) h_BIL_DSTAT (by decide), State.without_upd_bil c_bil, State.setDisp_writes (P := P) c_bil, State.without_when_if, State.without_ite, ite_self]; done)) only [State.without_each, State.without_eachOf, State.w_setF (fl := Fl.BIL_DSTAT_ITEM) h_BIL_DSTAT (by decide), State.without_upd_bil c_bil, State.setDisp_writes (P := P) c_bil, State.without_when_if, State.without_ite, ite_self]

include h_BIL_DSTAT c_bil in
theorem displayAnswer_writes (u : Nat) (s : State) :
    (displayAnswer u s).without P = s.without P := by
  unfold displayAnswer
  simp only [State.w_setB (fl := Fl.BIL_DSTAT_FAIL) h_BIL_DSTAT (by decide), State.without_upd_bil c_bil,
      State.setDisp_writes (P := P) c_bil, State.without_ite, ite_self]

include h_BIL_DSTAT h_BIL_STAT h_EVT_PEND c_bil in
theorem displayMissed_writes (u : Nat) (s : State) :
    (displayMissed u s).without P = s.without P := by
  unfold displayMissed
  simp only [State.w_setB (fl := Fl.BIL_DSTAT_FAIL) h_BIL_DSTAT (by decide), State.without_upd_bil c_bil,
      State.setDisp_writes (P := P) c_bil, bilCause_writes (P := P) h_BIL_STAT h_EVT_PEND, State.without_ite,
      ite_self]

include h_SIG_KSTAT h_SIG_LIMITH h_SIG_LIMITL c_sig in
theorem reserve_writes (k : Nat) (s : State) :
    (reserve k s).without P = s.without P := by
  unfold reserve
  (repeat' split) <;> simp only [State.without_upd_sig c_sig,
      writeReservation_writes (P := P) h_SIG_KSTAT h_SIG_LIMITH h_SIG_LIMITL c_sig, State.without_ite, ite_self]

include h_EVT_PEND h_SIG_KSTAT h_SIG_LIMITH h_SIG_LIMITL h_SIG_NEXTH h_SIG_NEXTL h_SIG_STAT c_sig in
theorem signStart_writes (s : State) :
    (signStart s).without P = s.without P := by
  unfold signStart
  (repeat' split) <;> simp only [State.w_setQ (lo := R.SIG_NEXTL) (hi := R.SIG_NEXTH) h_SIG_NEXTL h_SIG_NEXTH (by decide) (by decide), State.without_upd_sig c_sig, sigCause_writes (P := P) h_EVT_PEND h_SIG_STAT, reserve_writes (P := P) h_SIG_KSTAT h_SIG_LIMITH h_SIG_LIMITL c_sig, setKeyState_writes (P := P) h_SIG_KSTAT h_SIG_STAT, State.without_when_if, State.without_ite, ite_self]

include h_EVT_PEND h_SIG_RXNEXT h_SIG_STAT c_harts c_mem c_sig in
theorem releaseReceipt_writes (env : List Byte) (s : State) :
    (releaseReceipt env s).without P = s.without P := by
  unfold releaseReceipt
  simp only [State.w_setF (fl := Fl.SIG_RXNEXT_SLOT) h_SIG_RXNEXT (by decide), State.without_upd_harts c_harts,
      State.without_upd_mem c_mem, State.without_upd_sig c_sig, State.dma_writes (P := P) c_harts c_mem,
      sigCause_writes (P := P) h_EVT_PEND h_SIG_STAT, State.without_ite, ite_self]

include h_EVT_PEND h_SIG_RXNEXT h_SIG_STAT c_harts c_mem c_sig in
theorem signComplete_writes (s : State) :
    (signComplete s).without P = s.without P := by
  unfold signComplete
  (repeat' split) <;> simp only [State.without_upd_harts c_harts, State.without_upd_mem c_mem,
      State.without_upd_sig c_sig,
      releaseReceipt_writes (P := P) h_EVT_PEND h_SIG_RXNEXT h_SIG_STAT c_harts c_mem c_sig,
      State.dma_writes (P := P) c_harts c_mem, State.without_ite, ite_self]

include h_EVT_PEND h_SIG_KSTAT h_SIG_STAT in
theorem keyRebuilt_writes (k : Nat) (s : State) :
    (keyRebuilt k s).without P = s.without P := by
  unfold keyRebuilt
  simp only [sigCause_writes (P := P) h_EVT_PEND h_SIG_STAT, setKeyState_writes (P := P) h_SIG_KSTAT h_SIG_STAT,
      State.without_ite, ite_self]

include c_sig in
theorem runJob_writes (op : Nat) (f : Job → State → Option Nat × State) (hf : ∀ j s, (f j s).2.without P = s.without
    P) (s : State) :
    (runJob op f s).without P = s.without P := by
  unfold runJob
  (repeat' split) <;> simp only [hf, State.without_upd_sig c_sig, State.without_ite, ite_self]

include c_harts c_mem in
theorem jobOutput_writes (j : Job) (n : Nat) (l : List Byte) (s : State) :
    (jobOutput j n l s).2.without P = s.without P := by
  unfold jobOutput
  (repeat' split) <;> simp only [State.without_upd_harts c_harts, State.without_upd_mem c_mem,
      State.dma_writes (P := P) c_harts c_mem, State.without_ite, ite_self]

include c_harts c_mem in
theorem jobHash_writes (j : Job) (s : State) :
    (jobHash j s).2.without P = s.without P := by
  unfold jobHash
  (repeat' split) <;> simp only [State.without_upd_harts c_harts, State.without_upd_mem c_mem,
      jobOutput_writes (P := P) c_harts c_mem, State.without_ite, ite_self]

include c_harts c_mem in
theorem jobHmac_writes (j : Job) (s : State) :
    (jobHmac j s).2.without P = s.without P := by
  unfold jobHmac
  (repeat' split) <;> simp only [State.without_upd_harts c_harts, State.without_upd_mem c_mem,
      jobOutput_writes (P := P) c_harts c_mem, State.without_ite, ite_self]

include c_harts c_mem in
theorem jobHkdfExtract_writes (j : Job) (s : State) :
    (jobHkdfExtract j s).2.without P = s.without P := by
  unfold jobHkdfExtract
  (repeat' split) <;> simp only [State.without_upd_harts c_harts, State.without_upd_mem c_mem,
      jobOutput_writes (P := P) c_harts c_mem, State.without_ite, ite_self]

include c_harts c_mem in
theorem jobHkdfExpand_writes (j : Job) (s : State) :
    (jobHkdfExpand j s).2.without P = s.without P := by
  unfold jobHkdfExpand
  (repeat' split) <;> simp only [State.without_upd_harts c_harts, State.without_upd_mem c_mem,
      jobOutput_writes (P := P) c_harts c_mem, State.without_ite, ite_self]

include c_harts c_mem in
theorem jobAesGcm_writes (enc : Bool) (j : Job) (s : State) :
    (jobAesGcm enc j s).2.without P = s.without P := by
  unfold jobAesGcm
  (repeat' split) <;> simp only [State.without_upd_harts c_harts, State.without_upd_mem c_mem,
      jobOutput_writes (P := P) c_harts c_mem, State.without_ite, ite_self]

include c_drawn c_harts c_mem c_sig in
theorem jobEcdheKeygen_writes (j : Job) (s : State) :
    (jobEcdheKeygen j s).2.without P = s.without P := by
  unfold jobEcdheKeygen
  (repeat' split) <;> simp only [State.without_upd_drawn c_drawn, State.without_upd_harts c_harts,
      State.without_upd_mem c_mem, State.without_upd_sig c_sig, State.draw_writes (P := P) c_drawn,
      jobOutput_writes (P := P) c_harts c_mem, State.without_ite, ite_self]

include c_harts c_mem c_sig in
theorem jobEcdheDerive_writes (j : Job) (s : State) :
    (jobEcdheDerive j s).2.without P = s.without P := by
  unfold jobEcdheDerive
  (repeat' split) <;> simp only [State.without_upd_harts c_harts, State.without_upd_mem c_mem,
      State.without_upd_sig c_sig, jobOutput_writes (P := P) c_harts c_mem, State.without_ite, ite_self]

include c_drawn c_harts c_mem in
theorem jobSign_writes (j : Job) (s : State) :
    (jobSign j s).2.without P = s.without P := by
  unfold jobSign
  (repeat' split) <;> simp only [State.without_upd_drawn c_drawn, State.without_upd_harts c_harts,
      State.without_upd_mem c_mem, State.draw_writes (P := P) c_drawn, jobOutput_writes (P := P) c_harts c_mem,
      State.without_ite, ite_self]

theorem jobVerify_writes (j : Job) (s : State) :
    (jobVerify j s).2.without P = s.without P := by
  unfold jobVerify
  (repeat' split) <;> simp only [State.without_ite, ite_self]

include h_SIG_TLSSLOT c_drawn c_harts c_mem c_sig in
theorem jobTlsKeygen_writes (j : Job) (s : State) :
    (jobTlsKeygen j s).2.without P = s.without P := by
  unfold jobTlsKeygen
  (repeat' split) <;> simp only [State.w_setF (fl := Fl.SIG_TLSSLOT_TYPE) h_SIG_TLSSLOT (by decide),
      State.without_upd_drawn c_drawn, State.without_upd_harts c_harts, State.without_upd_mem c_mem,
      State.without_upd_sig c_sig, State.draw_writes (P := P) c_drawn, jobOutput_writes (P := P) c_harts c_mem,
      State.without_ite, ite_self]

include h_SIG_TLSSLOT c_sig in
theorem jobTlsErase_writes (j : Job) (s : State) :
    (jobTlsErase j s).2.without P = s.without P := by
  unfold jobTlsErase
  (repeat' split) <;> simp only [State.w_setF (fl := Fl.SIG_TLSSLOT_TYPE) h_SIG_TLSSLOT (by decide),
      State.without_upd_sig c_sig, State.without_ite, ite_self]

include c_harts c_mem in
theorem jobPublicKey_writes (j : Job) (s : State) :
    (jobPublicKey j s).2.without P = s.without P := by
  unfold jobPublicKey
  (repeat' split) <;> simp only [State.without_upd_harts c_harts, State.without_upd_mem c_mem,
      jobOutput_writes (P := P) c_harts c_mem, State.without_ite, ite_self]

include h_EVT_PEND h_SIG_STAT c_sig in
theorem attest_writes (nonce : List Byte) (job : Option Nat) (slot : Option Nat) (s : State) :
    (attest nonce job slot s).2.without P = s.without P := by
  unfold attest
  (try simp only [State.w_setF (fl := Fl.SIG_STAT_ATTTOK) h_SIG_STAT (by decide), State.without_upd_sig c_sig,
      sigCause_writes (P := P) h_EVT_PEND h_SIG_STAT, queueSign_writes (P := P) c_sig, State.without_ite,
      ite_self]) <;> (repeat' split) <;> simp only [State.w_setF (fl := Fl.SIG_STAT_ATTTOK) h_SIG_STAT (by decide),
      State.without_upd_sig c_sig, sigCause_writes (P := P) h_EVT_PEND h_SIG_STAT, queueSign_writes (P := P) c_sig,
      State.without_ite, ite_self]

include h_EVT_PEND h_SIG_STAT c_sig in
theorem jobAttest_writes (j : Job) (s : State) :
    (jobAttest j s).2.without P = s.without P := by
  unfold jobAttest
  (repeat' split) <;> simp only [State.without_upd_sig c_sig, attest_writes (P := P) h_EVT_PEND h_SIG_STAT c_sig,
      State.without_ite, ite_self]

include c_sig in
theorem spendGen_writes (k : Nat) (g : Nat) (s : State) :
    (spendGen k g s).without P = s.without P := by
  unfold spendGen
  simp only [State.without_upd_sig c_sig, State.without_ite, ite_self]

include c_sig in
theorem keygen_writes (k : Nat) (s : State) :
    (keygen k s).2.without P = s.without P := by
  unfold keygen
  (try simp only [State.without_upd_sig c_sig, spendGen_writes (P := P) c_sig, State.without_ite,
      ite_self]) <;> (repeat' split) <;> simp only [State.without_upd_sig c_sig, spendGen_writes (P := P) c_sig,
      State.without_ite, ite_self]

include c_sig in
theorem jobKeygen_writes (j : Job) (s : State) :
    (jobKeygen j s).2.without P = s.without P := by
  unfold jobKeygen
  (repeat' split) <;> simp only [State.without_upd_sig c_sig, keygen_writes (P := P) c_sig, State.without_ite,
      ite_self]

include c_drawn c_harts c_mem in
theorem jobRandom_writes (j : Job) (s : State) :
    (jobRandom j s).2.without P = s.without P := by
  unfold jobRandom
  simp only [State.without_upd_drawn c_drawn, State.without_upd_harts c_harts, State.without_upd_mem c_mem,
      State.draw_writes (P := P) c_drawn, jobOutput_writes (P := P) c_harts c_mem, State.without_ite, ite_self]

include c_sig in
theorem engineStep_writes (s : State) :
    (engineStep s).without P = s.without P := by
  unfold engineStep
  (try simp only [State.without_upd_sig c_sig, State.without_ite,
      ite_self]) <;> (repeat' split) <;> simp only [State.without_upd_sig c_sig, State.without_ite, ite_self]

include h_EVT_PEND h_SIG_JOBSTAT h_SIG_STAT c_harts c_mem c_sig in
theorem jobDone_writes (s : State) :
    (jobDone s).without P = s.without P := by
  unfold jobDone
  (try simp only [State.without_upd_harts c_harts, State.without_upd_mem c_mem, State.without_upd_sig c_sig,
      State.dmaWord_writes (P := P) c_harts c_mem, sigCause_writes (P := P) h_EVT_PEND h_SIG_STAT,
      showJobs_writes (P := P) h_SIG_JOBSTAT, State.without_ite,
      ite_self]) <;> (repeat' split) <;> simp only [State.without_upd_harts c_harts, State.without_upd_mem c_mem,
      State.without_upd_sig c_sig, State.dmaWord_writes (P := P) c_harts c_mem,
      sigCause_writes (P := P) h_EVT_PEND h_SIG_STAT, showJobs_writes (P := P) h_SIG_JOBSTAT, State.without_ite,
      ite_self]

include h_SFY_PSTAT c_sfy in
theorem faultClear_writes (p : Nat) (s : State) :
    (faultClear p s).without P = s.without P := by
  have clr : ∀ {fl : Fld}, fl.reg = R.SFY_PSTAT → ∀ (c : Bool) (s : State),
      (if c = true then s.setB fl p false else s).without P = s.without P := fun {fl} h c s => by
    split
    · exact State.w_setB (by rw [h]; assumption) (by rw [h]; decide) _ _ _
    · rfl
  unfold faultClear
  simp only [refreshPort_writes (P := P) h_SFY_PSTAT, State.setSp_writes (P := P) c_sfy,
      clr (fl := Fl.SFY_PSTAT_FAILCL) rfl, clr (fl := Fl.SFY_PSTAT_WELDP) rfl, clr (fl := Fl.SFY_PSTAT_WELDN) rfl,
      clr (fl := Fl.SFY_PSTAT_DISCREP) rfl, clr (fl := Fl.SFY_PSTAT_IMDF) rfl, clr (fl := Fl.SFY_PSTAT_TCUT) rfl,
      clr (fl := Fl.SFY_PSTAT_PBRK) rfl, clr (fl := Fl.SFY_PSTAT_LOCKF) rfl]

include h_SFY_PSTAT h_SFY_ZONE1 in
theorem zoneToIdle_writes (z : Nat) (s : State) :
    (zoneToIdle z s).without P = s.without P := by
  unfold zoneToIdle
  simp (disch := (intros; simp only [State.w_setF (fl := Fl.SFY_ZONE1_STATE) h_SFY_ZONE1 (by decide), refreshPort_writes (P := P) h_SFY_PSTAT, State.without_when_if, State.without_ite, ite_self]; done)) only [State.without_each, State.without_eachOf, State.w_setF (fl := Fl.SFY_ZONE1_STATE) h_SFY_ZONE1 (by decide), refreshPort_writes (P := P) h_SFY_PSTAT, State.without_when_if, State.without_ite, ite_self]

include h_EVT_PEND h_SFY_STAT h_SFY_TGT3 in
theorem evalTarget_writes (t : Nat) (s : State) :
    (evalTarget t s).without P = s.without P := by
  unfold evalTarget
  simp only [State.w_setB (fl := Fl.SFY_TGT3_TRIPPED) h_SFY_TGT3 (by decide),
      sfyCause_writes (P := P) h_EVT_PEND h_SFY_STAT, State.without_ite, ite_self]

include h_SFY_SRC in
theorem showSource_writes (i : Nat) (s : State) :
    (showSource i s).without P = s.without P := by
  unfold showSource
  simp only [State.w_setB (fl := Fl.SFY_SRC_ACT) h_SFY_SRC (by decide),
      State.w_setB (fl := Fl.SFY_SRC_SEEN) h_SFY_SRC (by decide), State.without_when_if, State.without_ite, ite_self]

include h_EVT_PEND h_SFY_SRC h_SFY_STAT h_SFY_TGT3 in
theorem evalFabric_writes (s : State) :
    (evalFabric s).without P = s.without P := by
  unfold evalFabric
  simp (disch := (intros; simp only [evalTarget_writes (P := P) h_EVT_PEND h_SFY_STAT h_SFY_TGT3, showSource_writes (P := P) h_SFY_SRC, State.without_ite, ite_self]; done)) only [State.without_each, State.without_eachOf, evalTarget_writes (P := P) h_EVT_PEND h_SFY_STAT h_SFY_TGT3, showSource_writes (P := P) h_SFY_SRC, State.without_ite, ite_self]

include h_EVT_PEND h_SFY_ACFG h_SFY_ASTAT h_SFY_COIL h_SFY_PSTAT h_SFY_SRC h_SFY_STAT h_SFY_TGT3 h_SFY_ZONE1 c_sfy in
theorem requestAct_writes (kind : Nat) (target : Nat) (arg : Nat) (s : State) :
    (requestAct kind target arg s).without P = s.without P := by
  unfold requestAct
  (repeat' split) <;> simp only [State.w_setF (fl := Fl.SFY_ACFG_SET) h_SFY_ACFG (by decide),
      State.w_setF (fl := Fl.SFY_ASTAT_ENABLED) h_SFY_ASTAT (by decide),
      State.w_setF (fl := Fl.SFY_ASTAT_VIOL) h_SFY_ASTAT (by decide),
      State.w_setF (fl := Fl.SFY_TGT3_TRIPPED) h_SFY_TGT3 (by decide),
      State.w_setB (fl := Fl.SFY_ACFG_SET) h_SFY_ACFG (by decide),
      State.w_setB (fl := Fl.SFY_ASTAT_ENABLED) h_SFY_ASTAT (by decide),
      State.w_setB (fl := Fl.SFY_ASTAT_VIOL) h_SFY_ASTAT (by decide),
      State.w_setB (fl := Fl.SFY_TGT3_TRIPPED) h_SFY_TGT3 (by decide), State.without_upd_sfy c_sfy,
      demandPort_writes (P := P) h_SFY_PSTAT c_sfy, zoneToIdle_writes (P := P) h_SFY_PSTAT h_SFY_ZONE1,
      coilOn_writes (P := P) h_SFY_COIL, State.setSp_writes (P := P) c_sfy,
      evalFabric_writes (P := P) h_EVT_PEND h_SFY_SRC h_SFY_STAT h_SFY_TGT3,
      faultClear_writes (P := P) h_SFY_PSTAT c_sfy, State.without_ite, ite_self]

include c_mem in
theorem State.setWord_writes (s : State) (a : Nat) (v : Word) :
    (State.setWord s a v).without P = s.without P := by
  unfold State.setWord
  simp only [State.without_upd_mem c_mem, State.setBytes_writes (P := P) c_mem, State.without_ite, ite_self]

include h_EVT_PEND h_SFY_ACFG h_SFY_ASTAT h_SFY_COIL h_SFY_PSTAT h_SFY_SRC h_SFY_STAT h_SFY_TGT3 h_SFY_ZONE1 c_mem
    c_sfy in
theorem requestSlot_writes (n : Nat) (s : State) :
    (requestSlot n s).without P = s.without P := by
  unfold requestSlot
  simp only [State.without_upd_mem c_mem, State.without_upd_sfy c_sfy,
      requestAct_writes (P := P) h_EVT_PEND h_SFY_ACFG h_SFY_ASTAT h_SFY_COIL h_SFY_PSTAT h_SFY_SRC h_SFY_STAT h_SFY_TGT3 h_SFY_ZONE1 c_sfy, sfyCause_writes (P := P) h_EVT_PEND h_SFY_STAT, State.setWord_writes (P := P) c_mem, State.without_ite, ite_self]

include h_SFY_COIL h_SFY_PSTAT c_sfy in
theorem releaseDue_writes (p : Nat) (expired : Bool) (s : State) :
    (releaseDue p expired s).without P = s.without P := by
  unfold releaseDue
  simp only [State.without_upd_sfy c_sfy, releasePoles_writes (P := P) h_SFY_COIL h_SFY_PSTAT c_sfy,
      State.without_ite, ite_self]

include h_EVT_PEND h_SFY_ACFG h_SFY_ASTAT h_SFY_COIL h_SFY_PSTAT h_SFY_SRC h_SFY_STAT h_SFY_TGT3 h_SFY_ZONE1 c_mem
    c_sfy in
theorem shroudCycle_writes (s : State) :
    (shroudCycle s).without P = s.without P := by
  unfold shroudCycle
  simp (disch := (intros; simp only [State.w_setF (fl := Fl.SFY_ZONE1_STATE) h_SFY_ZONE1 (by decide), State.without_upd_mem c_mem, State.without_upd_sfy c_sfy, requestSlot_writes (P := P) h_EVT_PEND h_SFY_ACFG h_SFY_ASTAT h_SFY_COIL h_SFY_PSTAT h_SFY_SRC h_SFY_STAT h_SFY_TGT3 h_SFY_ZONE1 c_mem c_sfy, refreshPort_writes (P := P) h_SFY_PSTAT, releaseDue_writes (P := P) h_SFY_COIL h_SFY_PSTAT c_sfy, State.without_ite, ite_self]; done)) only [State.without_each, State.without_eachOf, State.w_setF (fl := Fl.SFY_ZONE1_STATE) h_SFY_ZONE1 (by decide), State.without_upd_mem c_mem, State.without_upd_sfy c_sfy, requestSlot_writes (P := P) h_EVT_PEND h_SFY_ACFG h_SFY_ASTAT h_SFY_COIL h_SFY_PSTAT h_SFY_SRC h_SFY_STAT h_SFY_TGT3 h_SFY_ZONE1 c_mem c_sfy, refreshPort_writes (P := P) h_SFY_PSTAT, releaseDue_writes (P := P) h_SFY_COIL h_SFY_PSTAT c_sfy, State.without_ite, ite_self]

include h_EVT_PEND h_SFY_PSTAT h_SFY_STAT h_SFY_ZONE1 h_SYS_PWRCTL h_SYS_PWRSTAT h_SYS_WAKESRC c_sfy c_sys in
theorem zoneDemand_writes (z : Nat) (s : State) :
    (zoneDemand z s).without P = s.without P := by
  unfold zoneDemand
  simp (disch := (intros; simp only [State.w_setF (fl := Fl.SFY_ZONE1_STATE) h_SFY_ZONE1 (by decide), State.without_upd_sfy c_sfy, State.without_upd_sys c_sys, demandPort_writes (P := P) h_SFY_PSTAT c_sfy, State.wake_writes (P := P) h_SYS_PWRCTL h_SYS_PWRSTAT h_SYS_WAKESRC c_sys, sfyCause_writes (P := P) h_EVT_PEND h_SFY_STAT, State.without_when_if, State.without_ite, ite_self]; done)) only [State.without_each, State.without_eachOf, State.w_setF (fl := Fl.SFY_ZONE1_STATE) h_SFY_ZONE1 (by decide), State.without_upd_sfy c_sfy, State.without_upd_sys c_sys, demandPort_writes (P := P) h_SFY_PSTAT c_sfy, State.wake_writes (P := P) h_SYS_PWRCTL h_SYS_PWRSTAT h_SYS_WAKESRC c_sys, sfyCause_writes (P := P) h_EVT_PEND h_SFY_STAT, State.without_when_if, State.without_ite, ite_self]

include h_EVT_PEND h_SFY_PSTAT h_SFY_STAT h_SFY_ZONE1 h_SYS_PWRCTL h_SYS_PWRSTAT h_SYS_WAKESRC c_sfy c_sys in
theorem stayOpens_writes (s : State) :
    (stayOpens s).without P = s.without P := by
  unfold stayOpens
  simp only [State.without_upd_sfy c_sfy, State.without_upd_sys c_sys,
      zoneDemand_writes (P := P) h_EVT_PEND h_SFY_PSTAT h_SFY_STAT h_SFY_ZONE1 h_SYS_PWRCTL h_SYS_PWRSTAT h_SYS_WAKESRC c_sfy c_sys, State.without_ite, ite_self]

include h_EVT_PEND h_SFY_PSTAT h_SFY_STAT h_SFY_ZONE1 h_SYS_PWRCTL h_SYS_PWRSTAT h_SYS_WAKESRC c_sfy c_sys in
theorem stayPulse_writes (follows : Bool) (s : State) :
    (stayPulse follows s).without P = s.without P := by
  unfold stayPulse
  simp only [State.w_setB (fl := Fl.SFY_STAT_STAYSHORT) h_SFY_STAT (by decide), State.without_upd_sfy c_sfy,
      State.without_upd_sys c_sys,
      stayOpens_writes (P := P) h_EVT_PEND h_SFY_PSTAT h_SFY_STAT h_SFY_ZONE1 h_SYS_PWRCTL h_SYS_PWRSTAT h_SYS_WAKESRC c_sfy c_sys, State.without_ite, ite_self]

include h_SFY_PSTAT h_SFY_ZONE1 c_sfy in
theorem srstPulse_writes (s : State) :
    (srstPulse s).without P = s.without P := by
  unfold srstPulse
  simp (disch := (intros; simp only [State.without_upd_sfy c_sfy, zoneToIdle_writes (P := P) h_SFY_PSTAT h_SFY_ZONE1, State.setSp_writes (P := P) c_sfy, State.without_when_if, State.without_ite, ite_self]; done)) only [State.without_each, State.without_eachOf, State.without_upd_sfy c_sfy, zoneToIdle_writes (P := P) h_SFY_PSTAT h_SFY_ZONE1, State.setSp_writes (P := P) c_sfy, State.without_when_if, State.without_ite, ite_self]

include h_EVT_PEND h_SFY_ACFG h_SFY_ASTAT h_SFY_COIL h_SFY_PSTAT h_SFY_SRC h_SFY_STAT h_SFY_TGT3 h_SFY_ZONE1 c_sfy in
theorem request_writes (kind : Nat) (target : Nat) (arg : Nat) (s : State) :
    (request kind target arg s).without P = s.without P := by
  unfold request
  simp only [State.without_upd_sfy c_sfy,
      requestAct_writes (P := P) h_EVT_PEND h_SFY_ACFG h_SFY_ASTAT h_SFY_COIL h_SFY_PSTAT h_SFY_SRC h_SFY_STAT h_SFY_TGT3 h_SFY_ZONE1 c_sfy, sfyCause_writes (P := P) h_EVT_PEND h_SFY_STAT, State.without_ite, ite_self]

include h_EVT_PEND h_SFY_COIL h_SFY_PSTAT h_SFY_STAT in
theorem mirrorTimeout_writes (p : Nat) (pole : Pole) (s : State) :
    (mirrorTimeout p pole s).without P = s.without P := by
  unfold mirrorTimeout
  (try simp only [State.w_setB (fl := poleCmd pole) (by cases pole <;> exact h_SFY_PSTAT) (by cases pole <;> decide),
      State.w_setB (fl := poleClosed pole) (by cases pole <;> exact h_SFY_PSTAT) (by cases pole <;> decide),
      State.w_setB (fl := poleWeld pole) (by cases pole <;> exact h_SFY_PSTAT) (by cases pole <;> decide),
      State.w_setB (fl := Fl.SFY_PSTAT_FAILCL) h_SFY_PSTAT (by decide), coilOff_writes (P := P) h_SFY_COIL,
      sfyCause_writes (P := P) h_EVT_PEND h_SFY_STAT, refreshPort_writes (P := P) h_SFY_PSTAT, State.without_ite,
      ite_self]) <;> (repeat' split) <;> (try simp only [State.w_setB (fl := poleCmd pole) (by cases pole <;> exact h_SFY_PSTAT) (by cases pole <;> decide), State.w_setB (fl := poleClosed pole) (by cases pole <;> exact h_SFY_PSTAT) (by cases pole <;> decide), State.w_setB (fl := poleWeld pole) (by cases pole <;> exact h_SFY_PSTAT) (by cases pole <;> decide), State.w_setB (fl := Fl.SFY_PSTAT_FAILCL) h_SFY_PSTAT (by decide), coilOff_writes (P := P) h_SFY_COIL, sfyCause_writes (P := P) h_EVT_PEND h_SFY_STAT, refreshPort_writes (P := P) h_SFY_PSTAT, State.without_ite, ite_self])

include h_EVT_PEND h_SFY_PSTAT h_SFY_STAT c_sfy in
theorem mirrorSet_writes (p : Nat) (pole : Pole) (closed : Bool) (s : State) :
    (mirrorSet p pole closed s).without P = s.without P := by
  unfold mirrorSet
  (try simp only [State.w_setB (fl := poleCmd pole) (by cases pole <;> exact h_SFY_PSTAT) (by cases pole <;> decide),
      State.w_setB (fl := poleClosed pole) (by cases pole <;> exact h_SFY_PSTAT) (by cases pole <;> decide),
      State.w_setB (fl := poleWeld pole) (by cases pole <;> exact h_SFY_PSTAT) (by cases pole <;> decide),
      State.w_setB (fl := Fl.SFY_PSTAT_DISCREP) h_SFY_PSTAT (by decide), State.without_upd_sfy c_sfy,
      State.setSp_writes (P := P) c_sfy, refreshPort_writes (P := P) h_SFY_PSTAT,
      sfyCause_writes (P := P) h_EVT_PEND h_SFY_STAT, demandPort_writes (P := P) h_SFY_PSTAT c_sfy,
      State.without_ite,
      ite_self]) <;> (repeat' split) <;> (try simp only [State.w_setB (fl := poleCmd pole) (by cases pole <;> exact h_SFY_PSTAT) (by cases pole <;> decide), State.w_setB (fl := poleClosed pole) (by cases pole <;> exact h_SFY_PSTAT) (by cases pole <;> decide), State.w_setB (fl := poleWeld pole) (by cases pole <;> exact h_SFY_PSTAT) (by cases pole <;> decide), State.w_setB (fl := Fl.SFY_PSTAT_DISCREP) h_SFY_PSTAT (by decide), State.without_upd_sfy c_sfy, State.setSp_writes (P := P) c_sfy, refreshPort_writes (P := P) h_SFY_PSTAT, sfyCause_writes (P := P) h_EVT_PEND h_SFY_STAT, demandPort_writes (P := P) h_SFY_PSTAT c_sfy, State.without_ite, ite_self])

include h_SFY_COIL h_SFY_PSTAT c_sfy in
theorem lockConfirmed_writes (p : Nat) (s : State) :
    (lockConfirmed p s).without P = s.without P := by
  unfold lockConfirmed
  simp only [State.w_setB (fl := Fl.SFY_PSTAT_UNLOCKED) h_SFY_PSTAT (by decide),
      State.w_setB (fl := Fl.SFY_PSTAT_LOCKED) h_SFY_PSTAT (by decide), State.without_upd_sfy c_sfy,
      State.setSp_writes (P := P) c_sfy, coilOff_writes (P := P) h_SFY_COIL, State.without_ite, ite_self]

include h_EVT_PEND h_SFY_COIL h_SFY_PSTAT h_SFY_STAT c_sfy in
theorem lockTimeout_writes (p : Nat) (s : State) :
    (lockTimeout p s).without P = s.without P := by
  unfold lockTimeout
  simp only [State.w_setB (fl := Fl.SFY_PSTAT_LOCKF) h_SFY_PSTAT (by decide), State.without_upd_sfy c_sfy,
      coilOff_writes (P := P) h_SFY_COIL, sfyCause_writes (P := P) h_EVT_PEND h_SFY_STAT,
      refreshPort_writes (P := P) h_SFY_PSTAT, State.setSp_writes (P := P) c_sfy, State.without_ite, ite_self]

include h_SFY_COIL h_SFY_PSTAT in
theorem noVoltageVerified_writes (p : Nat) (s : State) :
    (noVoltageVerified p s).without P = s.without P := by
  unfold noVoltageVerified
  simp only [State.w_setB (fl := Fl.SFY_PSTAT_NOV) h_SFY_PSTAT (by decide), coilOn_writes (P := P) h_SFY_COIL,
      State.without_ite, ite_self]

include h_SFY_COIL h_SFY_PSTAT c_sfy in
theorem unlockConfirmed_writes (p : Nat) (s : State) :
    (unlockConfirmed p s).without P = s.without P := by
  unfold unlockConfirmed
  simp only [State.w_setB (fl := Fl.SFY_PSTAT_UNLOCKED) h_SFY_PSTAT (by decide),
      State.w_setB (fl := Fl.SFY_PSTAT_LOCKED) h_SFY_PSTAT (by decide), State.without_upd_sfy c_sfy,
      State.setSp_writes (P := P) c_sfy, coilOff_writes (P := P) h_SFY_COIL, State.without_ite, ite_self]

include h_EVT_PEND h_SFY_PSTAT h_SFY_STAT c_sfy in
theorem imdFaultQualified_writes (p : Nat) (s : State) :
    (imdFaultQualified p s).without P = s.without P := by
  unfold imdFaultQualified
  simp only [State.w_setF (fl := Fl.SFY_PSTAT_ISO) h_SFY_PSTAT (by decide),
      State.w_setF (fl := Fl.SFY_PSTAT_IMDF) h_SFY_PSTAT (by decide),
      State.w_setB (fl := Fl.SFY_PSTAT_ISO) h_SFY_PSTAT (by decide),
      State.w_setB (fl := Fl.SFY_PSTAT_IMDF) h_SFY_PSTAT (by decide), State.without_upd_sfy c_sfy,
      sfyCause_writes (P := P) h_EVT_PEND h_SFY_STAT, demandPort_writes (P := P) h_SFY_PSTAT c_sfy,
      State.without_ite, ite_self]

include h_EVT_PEND h_SFY_PSTAT h_SFY_STAT in
theorem imdWarning_writes (p : Nat) (active : Bool) (s : State) :
    (imdWarning p active s).without P = s.without P := by
  unfold imdWarning
  simp only [State.w_setF (fl := Fl.SFY_PSTAT_ISO) h_SFY_PSTAT (by decide),
      sfyCause_writes (P := P) h_EVT_PEND h_SFY_STAT, State.without_ite, ite_self]

include h_SFY_PSTAT in
theorem isolationValid_writes (p : Nat) (s : State) :
    (isolationValid p s).without P = s.without P := by
  unfold isolationValid
  simp only [State.w_setF (fl := Fl.SFY_PSTAT_ISO) h_SFY_PSTAT (by decide), State.without_ite, ite_self]

include h_EVT_PEND h_SFY_PSTAT h_SFY_STAT c_sfy in
theorem tempCut_writes (p : Nat) (s : State) :
    (tempCut p s).without P = s.without P := by
  unfold tempCut
  simp only [State.w_setB (fl := Fl.SFY_PSTAT_TCUT) h_SFY_PSTAT (by decide), State.without_upd_sfy c_sfy,
      sfyCause_writes (P := P) h_EVT_PEND h_SFY_STAT, demandPort_writes (P := P) h_SFY_PSTAT c_sfy,
      State.without_ite, ite_self]

include h_SFY_PSTAT in
theorem pinBroken_writes (p : Nat) (s : State) :
    (pinBroken p s).without P = s.without P := by
  unfold pinBroken
  simp only [State.w_setB (fl := Fl.SFY_PSTAT_PBRK) h_SFY_PSTAT (by decide), refreshPort_writes (P := P) h_SFY_PSTAT,
      State.without_ite, ite_self]

include h_SFY_PSTAT c_sfy in
theorem pinBrokenStop_writes (p : Nat) (s : State) :
    (pinBrokenStop p s).without P = s.without P := by
  unfold pinBrokenStop
  simp only [State.without_upd_sfy c_sfy, demandPort_writes (P := P) h_SFY_PSTAT c_sfy, State.without_ite, ite_self]

include h_EVT_PEND h_SFY_ASTAT h_SFY_COIL h_SFY_PSTAT h_SFY_STAT c_sfy in
theorem axisViolation_writes (a : Nat) (s : State) :
    (axisViolation a s).without P = s.without P := by
  unfold axisViolation
  simp only [State.w_setB (fl := Fl.SFY_ASTAT_ENABLED) h_SFY_ASTAT (by decide),
      State.w_setB (fl := Fl.SFY_ASTAT_VIOL) h_SFY_ASTAT (by decide), State.without_upd_sfy c_sfy,
      coilOff_writes (P := P) h_SFY_COIL, sfyCause_writes (P := P) h_EVT_PEND h_SFY_STAT,
      demandPort_writes (P := P) h_SFY_PSTAT c_sfy, State.without_when_if, State.without_ite, ite_self]

include h_EVT_PEND h_SFY_ACFG h_SFY_ASTAT h_SFY_COIL h_SFY_POS h_SFY_PSTAT h_SFY_SPD h_SFY_STAT c_sfy in
theorem axisSample_writes (a : Nat) (la : Bool) (lb : Bool) (lz : Bool) (s : State) :
    (axisSample a la lb lz s).without P = s.without P := by
  unfold axisSample
  simp only [State.w_setF (fl := Fl.SFY_SPD_SPD) h_SFY_SPD (by decide),
      State.w_setF (fl := Fl.SFY_POS_POS) h_SFY_POS (by decide),
      State.w_setF (fl := Fl.SFY_ACFG_REFD) h_SFY_ACFG (by decide),
      State.w_setB (fl := Fl.SFY_SPD_SPD) h_SFY_SPD (by decide),
      State.w_setB (fl := Fl.SFY_POS_POS) h_SFY_POS (by decide),
      State.w_setB (fl := Fl.SFY_ACFG_REFD) h_SFY_ACFG (by decide), State.without_upd_sfy c_sfy,
      axisViolation_writes (P := P) h_EVT_PEND h_SFY_ASTAT h_SFY_COIL h_SFY_PSTAT h_SFY_STAT c_sfy,
      State.without_when_if, State.without_ite, ite_self]

include h_EVT_PEND h_SFY_ASTAT h_SFY_COIL h_SFY_PSTAT h_SFY_SRC h_SFY_STAT c_sfy in
theorem safeState_writes (cause : Nat) (s : State) :
    (safeState cause s).without P = s.without P := by
  unfold safeState
  simp (disch := (intros; simp only [State.w_setF (fl := Fl.SFY_STAT_SAFECAUSE) h_SFY_STAT (by decide), State.w_setF (fl := Fl.SFY_STAT_SAFE) h_SFY_STAT (by decide), State.w_setF (fl := Fl.SFY_ASTAT_ENABLED) h_SFY_ASTAT (by decide), State.w_setB (fl := Fl.SFY_STAT_SAFECAUSE) h_SFY_STAT (by decide), State.w_setB (fl := Fl.SFY_STAT_SAFE) h_SFY_STAT (by decide), State.w_setB (fl := Fl.SFY_ASTAT_ENABLED) h_SFY_ASTAT (by decide), State.without_upd_sfy c_sfy, coilOff_writes (P := P) h_SFY_COIL, releasePoles_writes (P := P) h_SFY_COIL h_SFY_PSTAT c_sfy, showSource_writes (P := P) h_SFY_SRC, sfyCause_writes (P := P) h_EVT_PEND h_SFY_STAT, State.without_ite, ite_self]; done)) only [State.without_each, State.without_eachOf, State.w_setF (fl := Fl.SFY_STAT_SAFECAUSE) h_SFY_STAT (by decide), State.w_setF (fl := Fl.SFY_STAT_SAFE) h_SFY_STAT (by decide), State.w_setF (fl := Fl.SFY_ASTAT_ENABLED) h_SFY_ASTAT (by decide), State.w_setB (fl := Fl.SFY_STAT_SAFECAUSE) h_SFY_STAT (by decide), State.w_setB (fl := Fl.SFY_STAT_SAFE) h_SFY_STAT (by decide), State.w_setB (fl := Fl.SFY_ASTAT_ENABLED) h_SFY_ASTAT (by decide), State.without_upd_sfy c_sfy, coilOff_writes (P := P) h_SFY_COIL, releasePoles_writes (P := P) h_SFY_COIL h_SFY_PSTAT c_sfy, showSource_writes (P := P) h_SFY_SRC, sfyCause_writes (P := P) h_EVT_PEND h_SFY_STAT, State.without_ite, ite_self]

include h_EVT_PEND h_SFY_ASTAT h_SFY_COIL h_SFY_DIAG h_SFY_PSTAT h_SFY_SRC h_SFY_STAT c_sfy in
theorem cycleLength_writes (tenthsUs : Nat) (s : State) :
    (cycleLength tenthsUs s).without P = s.without P := by
  unfold cycleLength
  simp only [State.w_setF (fl := Fl.SFY_DIAG_CYCMAX) h_SFY_DIAG (by decide), State.without_upd_sfy c_sfy,
      safeState_writes (P := P) h_EVT_PEND h_SFY_ASTAT h_SFY_COIL h_SFY_PSTAT h_SFY_SRC h_SFY_STAT c_sfy,
      State.without_when_if, State.without_ite, ite_self]

include h_EVT_PEND h_SFY_PSTAT h_SFY_STAT c_sfy in
theorem feedbackFault_writes (k : Nat) (s : State) :
    (feedbackFault k s).without P = s.without P := by
  unfold feedbackFault
  simp (disch := (intros; simp only [State.w_setB (fl := Fl.SFY_PSTAT_DISCREP) h_SFY_PSTAT (by decide), State.without_upd_sfy c_sfy, sfyCause_writes (P := P) h_EVT_PEND h_SFY_STAT, demandPort_writes (P := P) h_SFY_PSTAT c_sfy, State.without_ite, ite_self]; done)) only [State.without_each, State.without_eachOf, State.w_setB (fl := Fl.SFY_PSTAT_DISCREP) h_SFY_PSTAT (by decide), State.without_upd_sfy c_sfy, sfyCause_writes (P := P) h_EVT_PEND h_SFY_STAT, demandPort_writes (P := P) h_SFY_PSTAT c_sfy, State.without_ite, ite_self]

include h_EVT_PEND h_SFY_PSTAT h_SFY_STAT c_sfy in
theorem coilFault_writes (n : Nat) (s : State) :
    (coilFault n s).without P = s.without P := by
  unfold coilFault
  simp (disch := (intros; simp only [State.w_setB (fl := Fl.SFY_PSTAT_DISCREP) h_SFY_PSTAT (by decide), State.without_upd_sfy c_sfy, sfyCause_writes (P := P) h_EVT_PEND h_SFY_STAT, demandPort_writes (P := P) h_SFY_PSTAT c_sfy, State.without_ite, ite_self]; done)) only [State.without_each, State.without_eachOf, State.w_setB (fl := Fl.SFY_PSTAT_DISCREP) h_SFY_PSTAT (by decide), State.without_upd_sfy c_sfy, sfyCause_writes (P := P) h_EVT_PEND h_SFY_STAT, demandPort_writes (P := P) h_SFY_PSTAT c_sfy, State.without_ite, ite_self]

end Sys2Proof.Machine
end

