-- ==== Sys2Proof/Laws/Writes5.lean ====
section
/-! SUPPORT. What each operation leaves unchanged (5 of 5): everything outside a part that holds what it writes. -/

set_option linter.all false

namespace Sys2Proof.Machine

variable {P : Part}
variable (h_ALC_PAPPLIED : P.regs R.ALC_PAPPLIED.addr = true) (h_ALC_PCFG : P.regs R.ALC_PCFG.addr = true)
variable (h_ALC_PGRANT : P.regs R.ALC_PGRANT.addr = true) (h_ALC_PLAST : P.regs R.ALC_PLAST.addr = true)
variable (h_ALC_PRAMP : P.regs R.ALC_PRAMP.addr = true) (h_ALC_PRATED : P.regs R.ALC_PRATED.addr = true)
variable (h_ALC_PREQ : P.regs R.ALC_PREQ.addr = true) (h_ALC_PSTAT : P.regs R.ALC_PSTAT.addr = true)
variable (h_ALC_SCFG : P.regs R.ALC_SCFG.addr = true) (h_ALC_SCHGPRICE : P.regs R.ALC_SCHGPRICE.addr = true)
variable (h_ALC_SDISPRICE : P.regs R.ALC_SDISPRICE.addr = true) (h_ALC_SLAST : P.regs R.ALC_SLAST.addr = true)
variable (h_ALC_SOFFER : P.regs R.ALC_SOFFER.addr = true) (h_ALC_SRAMP : P.regs R.ALC_SRAMP.addr = true)
variable (h_ALC_SSETPOINT : P.regs R.ALC_SSETPOINT.addr = true) (h_ALC_SSTAT : P.regs R.ALC_SSTAT.addr = true)
variable (h_BIL_ARCH : P.regs R.BIL_ARCH.addr = true) (h_BIL_KOFFH : P.regs R.BIL_KOFFH.addr = true)
variable (h_BIL_KOFFL : P.regs R.BIL_KOFFL.addr = true) (h_BIL_STAT : P.regs R.BIL_STAT.addr = true)
variable (h_BIL_TCOUNT : P.regs R.BIL_TCOUNT.addr = true) (h_BIL_TFIRSTH : P.regs R.BIL_TFIRSTH.addr = true)
variable (h_BIL_TFIRSTL : P.regs R.BIL_TFIRSTL.addr = true) (h_BIL_TLASTH : P.regs R.BIL_TLASTH.addr = true)
variable (h_BIL_TLASTL : P.regs R.BIL_TLASTL.addr = true) (h_CAN_CTL : P.regs R.CAN_CTL.addr = true)
variable (h_CAN_ERR : P.regs R.CAN_ERR.addr = true) (h_CAN_NBT : P.regs R.CAN_NBT.addr = true)
variable (h_CAN_RXRING : P.regs R.CAN_RXRING.addr = true) (h_CAN_RXSTAT : P.regs R.CAN_RXSTAT.addr = true)
variable (h_CAN_STAT : P.regs R.CAN_STAT.addr = true) (h_CAN_TDC : P.regs R.CAN_TDC.addr = true)
variable (h_CAN_TXEVA : P.regs R.CAN_TXEVA.addr = true) (h_CAN_TXEVB : P.regs R.CAN_TXEVB.addr = true)
variable (h_CAN_TXSTAT : P.regs R.CAN_TXSTAT.addr = true) (h_CLN_CELLMAP : P.regs R.CLN_CELLMAP.addr = true)
variable (h_CLN_CELLST : P.regs R.CLN_CELLST.addr = true) (h_CLN_ERRA : P.regs R.CLN_ERRA.addr = true)
variable (h_CLN_ERRC : P.regs R.CLN_ERRC.addr = true) (h_CLN_LANECFG : P.regs R.CLN_LANECFG.addr = true)
variable (h_CLN_LANEEV : P.regs R.CLN_LANEEV.addr = true) (h_CLN_LANESTAT : P.regs R.CLN_LANESTAT.addr = true)
variable (h_CLN_STAT : P.regs R.CLN_STAT.addr = true) (h_DKL_MAINS : P.regs R.DKL_MAINS.addr = true)
variable (h_DKL_NODEA : P.regs R.DKL_NODEA.addr = true) (h_DKL_NODEB : P.regs R.DKL_NODEB.addr = true)
variable (h_DKL_NODEC : P.regs R.DKL_NODEC.addr = true) (h_DKL_NODED : P.regs R.DKL_NODED.addr = true)
variable (h_DKL_RXMAPA : P.regs R.DKL_RXMAPA.addr = true) (h_DKL_RXMAPB : P.regs R.DKL_RXMAPB.addr = true)
variable (h_DKL_RXRING : P.regs R.DKL_RXRING.addr = true) (h_DKL_RXSTAT : P.regs R.DKL_RXSTAT.addr = true)
variable (h_DKL_STAT : P.regs R.DKL_STAT.addr = true) (h_DKL_TXEV : P.regs R.DKL_TXEV.addr = true)
variable (h_DKL_TXMAPA : P.regs R.DKL_TXMAPA.addr = true) (h_DKL_TXMAPB : P.regs R.DKL_TXMAPB.addr = true)
variable (h_DKL_TXSTAT : P.regs R.DKL_TXSTAT.addr = true) (h_EST_CAP : P.regs R.EST_CAP.addr = true)
variable (h_EST_CFG : P.regs R.EST_CFG.addr = true) (h_EST_CHG : P.regs R.EST_CHG.addr = true)
variable (h_EST_CYCLES : P.regs R.EST_CYCLES.addr = true) (h_EST_DAYS : P.regs R.EST_DAYS.addr = true)
variable (h_EST_DIS : P.regs R.EST_DIS.addr = true) (h_EST_I : P.regs R.EST_I.addr = true)
variable (h_EST_IMP : P.regs R.EST_IMP.addr = true) (h_EST_QH : P.regs R.EST_QH.addr = true)
variable (h_EST_QL : P.regs R.EST_QL.addr = true) (h_EST_R0 : P.regs R.EST_R0.addr = true)
variable (h_EST_SOC : P.regs R.EST_SOC.addr = true) (h_EST_SOCE : P.regs R.EST_SOCE.addr = true)
variable (h_EST_STAT : P.regs R.EST_STAT.addr = true) (h_EST_V : P.regs R.EST_V.addr = true)
variable (h_ETH_MDIO : P.regs R.ETH_MDIO.addr = true) (h_ETH_MDIOSTAT : P.regs R.ETH_MDIOSTAT.addr = true)
variable (h_ETH_RXFCS : P.regs R.ETH_RXFCS.addr = true) (h_ETH_RXFRM : P.regs R.ETH_RXFRM.addr = true)
variable (h_ETH_RXLONG : P.regs R.ETH_RXLONG.addr = true) (h_ETH_RXLOST : P.regs R.ETH_RXLOST.addr = true)
variable (h_ETH_RXSTAT : P.regs R.ETH_RXSTAT.addr = true) (h_ETH_STAT : P.regs R.ETH_STAT.addr = true)
variable (h_ETH_TXFRM : P.regs R.ETH_TXFRM.addr = true) (h_ETH_TXHEAD : P.regs R.ETH_TXHEAD.addr = true)
variable (h_EVT_PEND : P.regs R.EVT_PEND.addr = true) (h_HST_CQHEAD : P.regs R.HST_CQHEAD.addr = true)
variable (h_HST_CQMEM : P.regs R.HST_CQMEM.addr = true) (h_HST_CQTAIL : P.regs R.HST_CQTAIL.addr = true)
variable (h_HST_OPSTAT : P.regs R.HST_OPSTAT.addr = true) (h_HST_OPSTEPS : P.regs R.HST_OPSTEPS.addr = true)
variable (h_HST_QSTAT : P.regs R.HST_QSTAT.addr = true) (h_HST_SQHEAD : P.regs R.HST_SQHEAD.addr = true)
variable (h_HST_SQTAIL : P.regs R.HST_SQTAIL.addr = true) (h_HST_STAT : P.regs R.HST_STAT.addr = true)
variable (h_LPE_BATCH : P.regs R.LPE_BATCH.addr = true) (h_LPE_BSTAT : P.regs R.LPE_BSTAT.addr = true)
variable (h_LPE_CWSTAT : P.regs R.LPE_CWSTAT.addr = true) (h_LPE_FECFG : P.regs R.LPE_FECFG.addr = true)
variable (h_LPE_GROUP : P.regs R.LPE_GROUP.addr = true) (h_LPE_LOAD : P.regs R.LPE_LOAD.addr = true)
variable (h_LPE_STAT : P.regs R.LPE_STAT.addr = true) (h_LPE_TLOAD : P.regs R.LPE_TLOAD.addr = true)
variable (h_LSW_CHI : P.regs R.LSW_CHI.addr = true) (h_LSW_CHSTAT : P.regs R.LSW_CHSTAT.addr = true)
variable (h_LSW_STAT : P.regs R.LSW_STAT.addr = true) (h_LSW_SUP : P.regs R.LSW_SUP.addr = true)
variable (h_PRT_CELL : P.regs R.PRT_CELL.addr = true) (h_PRT_CIDENT : P.regs R.PRT_CIDENT.addr = true)
variable (h_PRT_CNOM : P.regs R.PRT_CNOM.addr = true) (h_PRT_DISCFG : P.regs R.PRT_DISCFG.addr = true)
variable (h_PRT_EMAX : P.regs R.PRT_EMAX.addr = true) (h_PRT_GCAUSE : P.regs R.PRT_GCAUSE.addr = true)
variable (h_PRT_GCFG : P.regs R.PRT_GCFG.addr = true) (h_PRT_GCMD : P.regs R.PRT_GCMD.addr = true)
variable (h_PRT_GSTAT : P.regs R.PRT_GSTAT.addr = true) (h_PRT_IAPP : P.regs R.PRT_IAPP.addr = true)
variable (h_PRT_IRATED : P.regs R.PRT_IRATED.addr = true) (h_PRT_ISET : P.regs R.PRT_ISET.addr = true)
variable (h_PRT_ISHEET : P.regs R.PRT_ISHEET.addr = true) (h_PRT_PCFG : P.regs R.PRT_PCFG.addr = true)
variable (h_PRT_RATE : P.regs R.PRT_RATE.addr = true) (h_PRT_RLL : P.regs R.PRT_RLL.addr = true)
variable (h_PRT_TIMES : P.regs R.PRT_TIMES.addr = true) (h_PRT_TREP : P.regs R.PRT_TREP.addr = true)
variable (h_PRT_VAPP : P.regs R.PRT_VAPP.addr = true) (h_PRT_VSET : P.regs R.PRT_VSET.addr = true)
variable (h_RNG_CAUSE : P.regs R.RNG_CAUSE.addr = true) (h_RNG_EPOCH : P.regs R.RNG_EPOCH.addr = true)
variable (h_RNG_LINK : P.regs R.RNG_LINK.addr = true) (h_RNG_LINKERR : P.regs R.RNG_LINKERR.addr = true)
variable (h_RNG_MEM : P.regs R.RNG_MEM.addr = true) (h_RNG_ORDER : P.regs R.RNG_ORDER.addr = true)
variable (h_RNG_SHSTAT : P.regs R.RNG_SHSTAT.addr = true) (h_RNG_SPL : P.regs R.RNG_SPL.addr = true)
variable (h_RNG_STAT : P.regs R.RNG_STAT.addr = true) (h_RNG_TDECLH : P.regs R.RNG_TDECLH.addr = true)
variable (h_RNG_TDECLL : P.regs R.RNG_TDECLL.addr = true) (h_RNG_VIEWST : P.regs R.RNG_VIEWST.addr = true)
variable (h_RNG_XMIN : P.regs R.RNG_XMIN.addr = true) (h_SFY_COIL : P.regs R.SFY_COIL.addr = true)
variable (h_SFY_FB : P.regs R.SFY_FB.addr = true) (h_SFY_PSTAT : P.regs R.SFY_PSTAT.addr = true)
variable (h_SFY_SRC : P.regs R.SFY_SRC.addr = true) (h_SFY_STAT : P.regs R.SFY_STAT.addr = true)
variable (h_SFY_TGT3 : P.regs R.SFY_TGT3.addr = true) (h_SIG_LASTROOT : P.regs R.SIG_LASTROOT.addr = true)
variable (h_SIG_STAT : P.regs R.SIG_STAT.addr = true) (h_STO_ARCHEND : P.regs R.STO_ARCHEND.addr = true)
variable (h_STO_ARCHUSE : P.regs R.STO_ARCHUSE.addr = true) (h_STO_CAP : P.regs R.STO_CAP.addr = true)
variable (h_STO_CNT : P.regs R.STO_CNT.addr = true) (h_STO_HEALTH : P.regs R.STO_HEALTH.addr = true)
variable (h_STO_PAREA : P.regs R.STO_PAREA.addr = true) (h_STO_REQSTAT : P.regs R.STO_REQSTAT.addr = true)
variable (h_STO_STAT : P.regs R.STO_STAT.addr = true) (h_SYS_BOOTSTAT : P.regs R.SYS_BOOTSTAT.addr = true)
variable (h_SYS_PWRCTL : P.regs R.SYS_PWRCTL.addr = true) (h_SYS_PWRSTAT : P.regs R.SYS_PWRSTAT.addr = true)
variable (h_SYS_SUPSTAT : P.regs R.SYS_SUPSTAT.addr = true) (h_SYS_WAKESRC : P.regs R.SYS_WAKESRC.addr = true)
variable (h_THM_CABLE : P.regs R.THM_CABLE.addr = true) (h_THM_CAP : P.regs R.THM_CAP.addr = true)
variable (h_THM_COEF : P.regs R.THM_COEF.addr = true) (h_THM_FLOW : P.regs R.THM_FLOW.addr = true)
variable (h_THM_FLOWCFG : P.regs R.THM_FLOWCFG.addr = true) (h_THM_G12 : P.regs R.THM_G12.addr = true)
variable (h_THM_IMAXH : P.regs R.THM_IMAXH.addr = true) (h_THM_ISTAT : P.regs R.THM_ISTAT.addr = true)
variable (h_THM_LIM : P.regs R.THM_LIM.addr = true) (h_THM_OBS : P.regs R.THM_OBS.addr = true)
variable (h_THM_PCH : P.regs R.THM_PCH.addr = true) (h_THM_PSEN : P.regs R.THM_PSEN.addr = true)
variable (h_THM_PSTAT : P.regs R.THM_PSTAT.addr = true) (h_THM_R20 : P.regs R.THM_R20.addr = true)
variable (h_THM_REEF : P.regs R.THM_REEF.addr = true) (h_THM_TEST : P.regs R.THM_TEST.addr = true)
variable (h_THM_WIN : P.regs R.THM_WIN.addr = true) (h_TIM_FSTAT : P.regs R.TIM_FSTAT.addr = true)
variable (h_TIM_INFO : P.regs R.TIM_INFO.addr = true) (h_TIM_LEAP : P.regs R.TIM_LEAP.addr = true)
variable (h_TIM_RTCS : P.regs R.TIM_RTCS.addr = true) (h_TIM_RTCSUB : P.regs R.TIM_RTCSUB.addr = true)
variable (h_TIM_STAT : P.regs R.TIM_STAT.addr = true) (h_TIM_TSH : P.regs R.TIM_TSH.addr = true)
variable (h_TIM_TSL : P.regs R.TIM_TSL.addr = true) (h_VEH_CHKV : P.regs R.VEH_CHKV.addr = true)
variable (h_VEH_EVI : P.regs R.VEH_EVI.addr = true) (h_VEH_EVSOC : P.regs R.VEH_EVSOC.addr = true)
variable (h_VEH_EVV : P.regs R.VEH_EVV.addr = true) (h_VEH_LIMI : P.regs R.VEH_LIMI.addr = true)
variable (h_VEH_LIMP : P.regs R.VEH_LIMP.addr = true) (h_VEH_LIMV : P.regs R.VEH_LIMV.addr = true)
variable (h_VEH_LOOPCNT : P.regs R.VEH_LOOPCNT.addr = true) (h_VEH_RXADDR : P.regs R.VEH_RXADDR.addr = true)
variable (h_VEH_RXLEN : P.regs R.VEH_RXLEN.addr = true) (h_VEH_SCFG : P.regs R.VEH_SCFG.addr = true)
variable (h_VEH_SSTAT : P.regs R.VEH_SSTAT.addr = true) (h_VEH_TXADDR : P.regs R.VEH_TXADDR.addr = true)
variable (c_bil : P.bil = true) (c_cans : P.cans = true) (c_cln : P.cln = true) (c_dkl : P.dkl = true)
variable (c_drawn : P.drawn = true) (c_est : P.est = true) (c_eth : P.eth = true) (c_harts : P.harts = true)
variable (c_host : P.host = true) (c_images : P.images = true) (c_lpe : P.lpe = true) (c_lsw : P.lsw = true)
variable (c_mem : P.mem = true) (c_prt : P.prt = true) (c_rng : P.rng = true) (c_sfy : P.sfy = true)
variable (c_sig : P.sig = true) (c_sto : P.sto = true) (c_sys : P.sys = true) (c_time : P.time = true)
variable (c_veh : P.veh = true)

include h_EVT_PEND h_SFY_SRC h_SFY_STAT h_SFY_TGT3 c_sfy in
theorem setSource_writes (i : Nat) (high : Bool) (s : State) :
    (setSource i high s).without P = s.without P := by
  unfold setSource
  simp only [State.w_setB (fl := Fl.SFY_SRC_SET) h_SFY_SRC (by decide), State.without_upd_sfy c_sfy,
      evalFabric_writes (P := P) h_EVT_PEND h_SFY_SRC h_SFY_STAT h_SFY_TGT3, showSource_writes (P := P) h_SFY_SRC,
      State.without_ite, ite_self]

include h_CLN_LANEEV h_CLN_LANESTAT h_EVT_PEND h_SFY_PSTAT h_SFY_SRC h_SFY_STAT h_SFY_TGT3 c_sfy in
theorem sourceChange_writes (i : Nat) (high : Bool) (s : State) :
    (sourceChange i high s).without P = s.without P := by
  unfold sourceChange
  simp (disch := (intros; simp only [State.without_upd_sfy c_sfy, setSource_writes (P := P) h_EVT_PEND h_SFY_SRC h_SFY_STAT h_SFY_TGT3 c_sfy, laneTripLevel_writes (P := P) h_CLN_LANEEV h_CLN_LANESTAT h_EVT_PEND, refreshPort_writes (P := P) h_SFY_PSTAT, State.setSp_writes (P := P) c_sfy, State.without_when_if, State.without_ite, ite_self]; done)) only [State.without_each, State.without_eachOf, State.without_upd_sfy c_sfy, setSource_writes (P := P) h_EVT_PEND h_SFY_SRC h_SFY_STAT h_SFY_TGT3 c_sfy, laneTripLevel_writes (P := P) h_CLN_LANEEV h_CLN_LANESTAT h_EVT_PEND, refreshPort_writes (P := P) h_SFY_PSTAT, State.setSp_writes (P := P) c_sfy, State.without_when_if, State.without_ite, ite_self]

include h_SFY_COIL h_SFY_PSTAT in
theorem standbyEnergise_writes (s : State) :
    (standbyEnergise s).without P = s.without P := by
  unfold standbyEnergise
  simp (disch := (intros; simp only [State.w_setB (fl := Fl.SFY_PSTAT_STANDBY) h_SFY_PSTAT (by decide), refreshPort_writes (P := P) h_SFY_PSTAT, energisePole_writes (P := P) h_SFY_COIL h_SFY_PSTAT, State.without_ite, ite_self]; done)) only [State.without_each, State.without_eachOf, State.w_setB (fl := Fl.SFY_PSTAT_STANDBY) h_SFY_PSTAT (by decide), refreshPort_writes (P := P) h_SFY_PSTAT, energisePole_writes (P := P) h_SFY_COIL h_SFY_PSTAT, State.without_ite, ite_self]

include h_SFY_COIL h_SFY_PSTAT in
theorem shroudReturn_writes (s : State) :
    (shroudReturn s).without P = s.without P := by
  unfold shroudReturn
  simp (disch := (intros; simp only [refreshPort_writes (P := P) h_SFY_PSTAT, energisePole_writes (P := P) h_SFY_COIL h_SFY_PSTAT, State.without_ite, ite_self]; done)) only [State.without_each, State.without_eachOf, refreshPort_writes (P := P) h_SFY_PSTAT, energisePole_writes (P := P) h_SFY_COIL h_SFY_PSTAT, State.without_ite, ite_self]

include h_SFY_COIL h_SFY_PSTAT c_sfy in
theorem standbyRelease_writes (s : State) :
    (standbyRelease s).without P = s.without P := by
  unfold standbyRelease
  simp (disch := (intros; simp only [State.without_upd_sfy c_sfy, releaseDue_writes (P := P) h_SFY_COIL h_SFY_PSTAT c_sfy, demandPort_writes (P := P) h_SFY_PSTAT c_sfy, State.without_ite, ite_self]; done)) only [State.without_each, State.without_eachOf, State.without_upd_sfy c_sfy, releaseDue_writes (P := P) h_SFY_COIL h_SFY_PSTAT c_sfy, demandPort_writes (P := P) h_SFY_PSTAT c_sfy, State.without_ite, ite_self]

include h_RNG_LINK h_RNG_LINKERR c_drawn c_rng in
theorem ringLinkStart_writes (k : Nat) (s : State) :
    (ringLinkStart k s).without P = s.without P := by
  unfold ringLinkStart
  simp only [State.w_setF (fl := Fl.RNG_LINKERR_STARTS) h_RNG_LINKERR (by decide),
      State.w_setF (fl := Fl.RNG_LINK_STATE) h_RNG_LINK (by decide),
      State.w_satF (fl := Fl.RNG_LINKERR_STARTS) h_RNG_LINKERR (by decide),
      State.w_satF (fl := Fl.RNG_LINK_STATE) h_RNG_LINK (by decide), State.without_upd_drawn c_drawn,
      State.without_upd_rng c_rng, State.draw_writes (P := P) c_drawn, State.setRp_writes (P := P) c_rng,
      State.without_ite, ite_self]

include h_EVT_PEND h_RNG_CAUSE h_RNG_LINK c_rng in
theorem linkRefused_writes (k : Nat) (j : Nat) (s : State) :
    (linkRefused k j s).without P = s.without P := by
  unfold linkRefused
  simp only [State.w_setF (fl := Fl.RNG_LINK_STATE) h_RNG_LINK (by decide), State.without_upd_rng c_rng,
      rngCause_writes (P := P) h_EVT_PEND h_RNG_CAUSE, State.setRp_writes (P := P) c_rng, State.without_ite, ite_self]

include h_EVT_PEND h_RNG_CAUSE h_RNG_LINK c_rng in
theorem linkCap_writes (k : Nat) (peer : Nat) (lo : Nat) (hi : Nat) (nonce : List Byte) (share : List Byte) (s :
    State) :
    (linkCap k peer lo hi nonce share s).without P = s.without P := by
  unfold linkCap
  simp only [State.without_upd_rng c_rng, linkRefused_writes (P := P) h_EVT_PEND h_RNG_CAUSE h_RNG_LINK c_rng,
      State.setRp_writes (P := P) c_rng, State.without_ite, ite_self]

include h_EVT_PEND h_RNG_CAUSE h_RNG_STAT in
theorem showLine_writes (broken : Bool) (s : State) :
    (showLine broken s).without P = s.without P := by
  unfold showLine
  simp only [State.w_setB (fl := Fl.RNG_STAT_LINE) h_RNG_STAT (by decide),
      rngCause_writes (P := P) h_EVT_PEND h_RNG_CAUSE, State.without_when_if, State.without_ite, ite_self]

include h_RNG_STAT in
theorem joinStart_writes (s : State) :
    (joinStart s).without P = s.without P := by
  unfold joinStart
  simp only [State.w_setF (fl := Fl.RNG_STAT_STATE) h_RNG_STAT (by decide), State.without_ite, ite_self]

include h_EVT_PEND h_RNG_CAUSE h_RNG_LINK h_RNG_STAT c_rng in
theorem linkAuth_writes (k : Nat) (ok : Bool) (s : State) :
    (linkAuth k ok s).without P = s.without P := by
  unfold linkAuth
  simp only [State.w_setF (fl := Fl.RNG_LINK_HBMISS) h_RNG_LINK (by decide),
      State.w_setF (fl := Fl.RNG_LINK_PEER) h_RNG_LINK (by decide),
      State.w_setF (fl := Fl.RNG_LINK_VER) h_RNG_LINK (by decide),
      State.w_setF (fl := Fl.RNG_LINK_STATE) h_RNG_LINK (by decide), State.without_upd_rng c_rng,
      linkRefused_writes (P := P) h_EVT_PEND h_RNG_CAUSE h_RNG_LINK c_rng, State.setRp_writes (P := P) c_rng,
      showLine_writes (P := P) h_EVT_PEND h_RNG_CAUSE h_RNG_STAT, rngCause_writes (P := P) h_EVT_PEND h_RNG_CAUSE,
      joinStart_writes (P := P) h_RNG_STAT, State.without_ite, ite_self]

include c_rng in
theorem heartbeatSend_writes (s : State) :
    (heartbeatSend s).without P = s.without P := by
  unfold heartbeatSend
  simp only [State.without_upd_rng c_rng, State.without_ite, ite_self]

include h_ALC_PAPPLIED h_ALC_SSETPOINT h_EVT_PEND h_PRT_ISET h_PRT_ISHEET h_RNG_CAUSE h_RNG_STAT in
theorem refuseJoin_writes (s : State) :
    (refuseJoin s).without P = s.without P := by
  unfold refuseJoin
  simp only [State.w_setF (fl := Fl.RNG_STAT_STATE) h_RNG_STAT (by decide),
      rngCause_writes (P := P) h_EVT_PEND h_RNG_CAUSE,
      zeroSheets_writes (P := P) h_ALC_PAPPLIED h_ALC_SSETPOINT h_PRT_ISET h_PRT_ISHEET, State.without_ite, ite_self]

include h_ALC_PAPPLIED h_ALC_SSETPOINT h_EVT_PEND h_PRT_ISET h_PRT_ISHEET h_RNG_CAUSE h_RNG_STAT c_rng in
theorem heartbeat_writes (k : Nat) (h : HeartbeatFrame) (s : State) :
    (heartbeat k h s).without P = s.without P := by
  unfold heartbeat
  simp only [State.without_upd_rng c_rng, State.setRp_writes (P := P) c_rng,
      refuseJoin_writes (P := P) h_ALC_PAPPLIED h_ALC_SSETPOINT h_EVT_PEND h_PRT_ISET h_PRT_ISHEET h_RNG_CAUSE h_RNG_STAT, announce_writes (P := P) c_rng, State.without_ite, ite_self]

include h_RNG_LINK c_rng in
theorem heartbeatMissed_writes (k : Nat) (s : State) :
    (heartbeatMissed k s).without P = s.without P := by
  unfold heartbeatMissed
  simp only [State.w_satF (fl := Fl.RNG_LINK_HBMISS) h_RNG_LINK (by decide), State.without_upd_rng c_rng,
      State.setRp_writes (P := P) c_rng, State.without_ite, ite_self]

include h_EVT_PEND h_RNG_CAUSE h_RNG_LINK h_RNG_STAT c_rng in
theorem ringLinkDown_writes (k : Nat) (s : State) :
    (ringLinkDown k s).without P = s.without P := by
  unfold ringLinkDown
  simp only [State.w_setF (fl := Fl.RNG_LINK_STATE) h_RNG_LINK (by decide), State.without_upd_rng c_rng,
      showLine_writes (P := P) h_EVT_PEND h_RNG_CAUSE h_RNG_STAT, rngCause_writes (P := P) h_EVT_PEND h_RNG_CAUSE,
      State.setRp_writes (P := P) c_rng, State.without_ite, ite_self]

include h_EVT_PEND h_LPE_BATCH h_LPE_BSTAT h_LPE_LOAD h_LPE_STAT h_LPE_TLOAD h_LSW_CHSTAT h_PRT_GCAUSE h_PRT_GCMD
    h_PRT_GSTAT h_PRT_IAPP h_PRT_RATE h_PRT_VAPP h_RNG_CAUSE h_RNG_STAT h_SFY_COIL h_SFY_PSTAT h_SFY_STAT h_VEH_SSTAT c_lpe c_lsw c_prt c_rng c_veh in
theorem takeoverBegin_writes (m : Nat) (s : State) :
    (takeoverBegin m s).without P = s.without P := by
  unfold takeoverBegin
  simp (disch := (intros; simp only [State.w_setF (fl := Fl.RNG_STAT_GUESTID) h_RNG_STAT (by decide), State.w_setF (fl := Fl.RNG_STAT_GUEST) h_RNG_STAT (by decide), State.w_setB (fl := Fl.RNG_STAT_GUESTID) h_RNG_STAT (by decide), State.w_setB (fl := Fl.RNG_STAT_GUEST) h_RNG_STAT (by decide), State.without_upd_lpe_rng c_lpe c_rng, State.without_upd_lpe c_lpe, State.without_upd_lsw c_lsw, State.without_upd_prt c_prt, State.without_upd_rng c_rng, State.without_upd_veh c_veh, guestLost_writes (P := P) h_EVT_PEND h_LPE_BATCH h_LPE_BSTAT h_LPE_LOAD h_LPE_STAT h_LPE_TLOAD h_LSW_CHSTAT h_PRT_GCAUSE h_PRT_GCMD h_PRT_GSTAT h_PRT_IAPP h_PRT_RATE h_PRT_VAPP h_SFY_COIL h_SFY_PSTAT h_SFY_STAT h_VEH_SSTAT c_lpe c_lsw c_prt c_veh, rngCause_writes (P := P) h_EVT_PEND h_RNG_CAUSE, State.without_ite, ite_self]; done)) only [State.without_each, State.without_eachOf, State.w_setF (fl := Fl.RNG_STAT_GUESTID) h_RNG_STAT (by decide), State.w_setF (fl := Fl.RNG_STAT_GUEST) h_RNG_STAT (by decide), State.w_setB (fl := Fl.RNG_STAT_GUESTID) h_RNG_STAT (by decide), State.w_setB (fl := Fl.RNG_STAT_GUEST) h_RNG_STAT (by decide), State.without_upd_lpe_rng c_lpe c_rng, State.without_upd_lpe c_lpe, State.without_upd_lsw c_lsw, State.without_upd_prt c_prt, State.without_upd_rng c_rng, State.without_upd_veh c_veh, guestLost_writes (P := P) h_EVT_PEND h_LPE_BATCH h_LPE_BSTAT h_LPE_LOAD h_LPE_STAT h_LPE_TLOAD h_LSW_CHSTAT h_PRT_GCAUSE h_PRT_GCMD h_PRT_GSTAT h_PRT_IAPP h_PRT_RATE h_PRT_VAPP h_SFY_COIL h_SFY_PSTAT h_SFY_STAT h_VEH_SSTAT c_lpe c_lsw c_prt c_veh, rngCause_writes (P := P) h_EVT_PEND h_RNG_CAUSE, State.without_ite, ite_self]

include h_EVT_PEND h_LPE_BATCH h_LPE_BSTAT h_LPE_LOAD h_LPE_STAT h_LPE_TLOAD h_LSW_CHSTAT h_PRT_GCAUSE h_PRT_GCMD
    h_PRT_GSTAT h_PRT_IAPP h_PRT_RATE h_PRT_VAPP h_RNG_CAUSE h_RNG_LINK h_RNG_STAT h_RNG_TDECLH h_RNG_TDECLL h_SFY_COIL h_SFY_PSTAT h_SFY_STAT h_VEH_SSTAT c_lpe c_lsw c_prt c_rng c_veh in
theorem neighbourLost_writes (k : Nat) (s : State) :
    (neighbourLost k s).without P = s.without P := by
  unfold neighbourLost
  (try simp only [State.w_setBM (r := R.RNG_TDECLL) h_RNG_TDECLL (by decide),
      State.w_setBM (r := R.RNG_TDECLH) h_RNG_TDECLH (by decide),
      State.w_setB (fl := Fl.RNG_STAT_NOBUDDY) h_RNG_STAT (by decide),
      State.w_setQ (lo := R.RNG_TDECLL) (hi := R.RNG_TDECLH) h_RNG_TDECLL h_RNG_TDECLH (by decide) (by decide),
      State.without_upd_lpe c_lpe, State.without_upd_lsw c_lsw, State.without_upd_prt c_prt,
      State.without_upd_rng c_rng, State.without_upd_veh c_veh,
      ringLinkDown_writes (P := P) h_EVT_PEND h_RNG_CAUSE h_RNG_LINK h_RNG_STAT c_rng,
      announce_writes (P := P) c_rng,
      takeoverBegin_writes (P := P) h_EVT_PEND h_LPE_BATCH h_LPE_BSTAT h_LPE_LOAD h_LPE_STAT h_LPE_TLOAD h_LSW_CHSTAT h_PRT_GCAUSE h_PRT_GCMD h_PRT_GSTAT h_PRT_IAPP h_PRT_RATE h_PRT_VAPP h_RNG_CAUSE h_RNG_STAT h_SFY_COIL h_SFY_PSTAT h_SFY_STAT h_VEH_SSTAT c_lpe c_lsw c_prt c_rng c_veh, rngCause_writes (P := P) h_EVT_PEND h_RNG_CAUSE, State.without_when_if, State.without_ite, ite_self]) <;> (repeat' split) <;> simp only [State.w_setBM (r := R.RNG_TDECLL) h_RNG_TDECLL (by decide), State.w_setBM (r := R.RNG_TDECLH) h_RNG_TDECLH (by decide), State.w_setB (fl := Fl.RNG_STAT_NOBUDDY) h_RNG_STAT (by decide), State.w_setQ (lo := R.RNG_TDECLL) (hi := R.RNG_TDECLH) h_RNG_TDECLL h_RNG_TDECLH (by decide) (by decide), State.without_upd_lpe c_lpe, State.without_upd_lsw c_lsw, State.without_upd_prt c_prt, State.without_upd_rng c_rng, State.without_upd_veh c_veh, ringLinkDown_writes (P := P) h_EVT_PEND h_RNG_CAUSE h_RNG_LINK h_RNG_STAT c_rng, announce_writes (P := P) c_rng, takeoverBegin_writes (P := P) h_EVT_PEND h_LPE_BATCH h_LPE_BSTAT h_LPE_LOAD h_LPE_STAT h_LPE_TLOAD h_LSW_CHSTAT h_PRT_GCAUSE h_PRT_GCMD h_PRT_GSTAT h_PRT_IAPP h_PRT_RATE h_PRT_VAPP h_RNG_CAUSE h_RNG_STAT h_SFY_COIL h_SFY_PSTAT h_SFY_STAT h_VEH_SSTAT c_lpe c_lsw c_prt c_rng c_veh, rngCause_writes (P := P) h_EVT_PEND h_RNG_CAUSE, State.without_when_if, State.without_ite, ite_self]

include c_rng in
theorem viewFrame_writes (v : ViewFrame) (s : State) :
    (viewFrame v s).without P = s.without P := by
  unfold viewFrame
  (try simp only [State.without_upd_rng c_rng, announceOn_writes (P := P) c_rng, State.without_ite,
      ite_self]) <;> (repeat' split) <;> simp only [State.without_upd_rng c_rng, announceOn_writes (P := P) c_rng,
      State.without_ite, ite_self]

include h_RNG_STAT in
theorem viewState_writes (v : ViewFrame) (s : State) :
    (viewState v s).without P = s.without P := by
  unfold viewState
  simp only [State.w_setF (fl := Fl.RNG_STAT_STATE) h_RNG_STAT (by decide), State.without_ite, ite_self]

include h_RNG_EPOCH h_RNG_MEM h_RNG_ORDER h_RNG_STAT h_RNG_VIEWST h_RNG_XMIN in
theorem showView_writes (v : ViewFrame) (s : State) :
    (showView v s).without P = s.without P := by
  unfold showView
  simp (disch := (intros; simp only [State.w_setF (fl := Fl.RNG_XMIN_XMINL) h_RNG_XMIN (by decide), State.w_setF (fl := Fl.RNG_XMIN_XMIN) h_RNG_XMIN (by decide), State.w_setF (fl := Fl.RNG_VIEWST_OFFER) h_RNG_VIEWST (by decide), State.w_setF (fl := Fl.RNG_VIEWST_GEN) h_RNG_VIEWST (by decide), State.w_setF (fl := Fl.RNG_VIEWST_SPLID) h_RNG_VIEWST (by decide), State.w_setF (fl := Fl.RNG_VIEWST_NMEM) h_RNG_VIEWST (by decide), State.w_setF (fl := Fl.RNG_EPOCH_EPOCH) h_RNG_EPOCH (by decide), State.w_setF (fl := Fl.RNG_MEM_MOD) h_RNG_MEM (by decide), State.w_setFM (r := R.RNG_ORDER) h_RNG_ORDER (by decide), State.w_setF (fl := Fl.RNG_STAT_PROT) h_RNG_STAT (by decide), State.w_setF (fl := Fl.RNG_STAT_BUDDY) h_RNG_STAT (by decide), State.w_setReg (r := R.RNG_ORDER) h_RNG_ORDER (by decide), State.without_ite, ite_self]; done)) only [State.without_each, State.without_eachOf, State.w_setF (fl := Fl.RNG_XMIN_XMINL) h_RNG_XMIN (by decide), State.w_setF (fl := Fl.RNG_XMIN_XMIN) h_RNG_XMIN (by decide), State.w_setF (fl := Fl.RNG_VIEWST_OFFER) h_RNG_VIEWST (by decide), State.w_setF (fl := Fl.RNG_VIEWST_GEN) h_RNG_VIEWST (by decide), State.w_setF (fl := Fl.RNG_VIEWST_SPLID) h_RNG_VIEWST (by decide), State.w_setF (fl := Fl.RNG_VIEWST_NMEM) h_RNG_VIEWST (by decide), State.w_setF (fl := Fl.RNG_EPOCH_EPOCH) h_RNG_EPOCH (by decide), State.w_setF (fl := Fl.RNG_MEM_MOD) h_RNG_MEM (by decide), State.w_setFM (r := R.RNG_ORDER) h_RNG_ORDER (by decide), State.w_setF (fl := Fl.RNG_STAT_PROT) h_RNG_STAT (by decide), State.w_setF (fl := Fl.RNG_STAT_BUDDY) h_RNG_STAT (by decide), State.w_setReg (r := R.RNG_ORDER) h_RNG_ORDER (by decide), State.without_ite, ite_self]

include h_EVT_PEND h_RNG_CAUSE h_RNG_EPOCH h_RNG_MEM h_RNG_ORDER h_RNG_STAT h_RNG_VIEWST h_RNG_XMIN c_rng in
theorem adoptView_writes (v : ViewFrame) (s : State) :
    (adoptView v s).without P = s.without P := by
  unfold adoptView
  simp only [State.w_setB (fl := Fl.RNG_STAT_NOBUDDY) h_RNG_STAT (by decide), State.without_upd_rng c_rng,
      viewState_writes (P := P) h_RNG_STAT,
      showView_writes (P := P) h_RNG_EPOCH h_RNG_MEM h_RNG_ORDER h_RNG_STAT h_RNG_VIEWST h_RNG_XMIN,
      showLine_writes (P := P) h_EVT_PEND h_RNG_CAUSE h_RNG_STAT, rngCause_writes (P := P) h_EVT_PEND h_RNG_CAUSE,
      State.without_when_if, State.without_ite, ite_self]

include h_EVT_PEND h_RNG_CAUSE h_RNG_EPOCH h_RNG_MEM h_RNG_ORDER h_RNG_STAT h_RNG_VIEWST h_RNG_XMIN c_rng in
theorem viewAdopt_writes (s : State) :
    (viewAdopt s).without P = s.without P := by
  unfold viewAdopt
  (try simp only [State.without_upd_rng c_rng,
      adoptView_writes (P := P) h_EVT_PEND h_RNG_CAUSE h_RNG_EPOCH h_RNG_MEM h_RNG_ORDER h_RNG_STAT h_RNG_VIEWST h_RNG_XMIN c_rng, State.without_ite, ite_self]) <;> (repeat' split) <;> simp only [State.without_upd_rng c_rng, adoptView_writes (P := P) h_EVT_PEND h_RNG_CAUSE h_RNG_EPOCH h_RNG_MEM h_RNG_ORDER h_RNG_STAT h_RNG_VIEWST h_RNG_XMIN c_rng, State.without_ite, ite_self]

include c_rng in
theorem generationRaise_writes (s : State) :
    (generationRaise s).without P = s.without P := by
  unfold generationRaise
  (try simp only [State.without_upd_rng c_rng, announce_writes (P := P) c_rng, State.without_ite,
      ite_self]) <;> (repeat' split) <;> simp only [State.without_upd_rng c_rng, announce_writes (P := P) c_rng,
      State.without_ite, ite_self]

include h_EVT_PEND h_RNG_CAUSE h_RNG_LINKERR h_RNG_SHSTAT c_rng in
theorem shadowFrame_writes (f : ShadowFrame) (s : State) :
    (shadowFrame f s).without P = s.without P := by
  unfold shadowFrame
  simp only [State.w_satF (fl := Fl.RNG_LINKERR_TAGERR) h_RNG_LINKERR (by decide),
      State.w_satF (fl := Fl.RNG_SHSTAT_LAG) h_RNG_SHSTAT (by decide), State.without_upd_rng c_rng,
      rngCause_writes (P := P) h_EVT_PEND h_RNG_CAUSE, State.without_ite, ite_self]

include h_ALC_PAPPLIED h_ALC_PCFG h_ALC_PGRANT h_ALC_PLAST h_ALC_PRAMP h_ALC_PRATED h_ALC_PREQ h_ALC_PSTAT h_ALC_SCFG
    h_ALC_SCHGPRICE h_ALC_SDISPRICE h_ALC_SLAST h_ALC_SOFFER h_ALC_SRAMP h_ALC_SSETPOINT h_ALC_SSTAT h_CLN_CELLMAP h_CLN_LANECFG h_LPE_BATCH h_LPE_FECFG h_LPE_GROUP h_PRT_CELL h_PRT_CIDENT h_PRT_CNOM h_PRT_DISCFG h_PRT_EMAX h_PRT_GCAUSE h_PRT_GCFG h_PRT_GCMD h_PRT_GSTAT h_PRT_IAPP h_PRT_IRATED h_PRT_ISET h_PRT_ISHEET h_PRT_PCFG h_PRT_RATE h_PRT_RLL h_PRT_TIMES h_PRT_TREP h_PRT_VAPP h_PRT_VSET h_RNG_LINKERR h_THM_CABLE h_THM_CAP h_THM_COEF h_THM_FLOW h_THM_FLOWCFG h_THM_G12 h_THM_IMAXH h_THM_ISTAT h_THM_LIM h_THM_OBS h_THM_PCH h_THM_PSEN h_THM_PSTAT h_THM_R20 h_THM_REEF h_THM_TEST h_THM_WIN h_VEH_CHKV h_VEH_EVI h_VEH_EVSOC h_VEH_EVV h_VEH_LIMI h_VEH_LIMP h_VEH_LIMV h_VEH_LOOPCNT h_VEH_RXADDR h_VEH_RXLEN h_VEH_SCFG h_VEH_SSTAT h_VEH_TXADDR c_lpe c_rng c_veh in
theorem deltaFrame_writes (d : DeltaFrame) (s : State) :
    (deltaFrame d s).without P = s.without P := by
  have hr : ∀ x ∈ deltaRegs, P.regs x.1.addr = true ∧ x.1.count ≤ 65536 := by
    have hc : ∀ x ∈ deltaRegs, x.1.count ≤ 65536 := by decide
    have ha : ∀ x ∈ deltaRegs, P.regs x.1.addr = true := by
      simp only [deltaRegs, List.cons_append, List.nil_append, List.forall_mem_cons, List.not_mem_nil,
          IsEmpty.forall_iff, implies_true, and_true, true_and, h_ALC_PAPPLIED, h_ALC_PCFG, h_ALC_PGRANT,
          h_ALC_PLAST, h_ALC_PRAMP, h_ALC_PRATED, h_ALC_PREQ, h_ALC_PSTAT, h_ALC_SCFG, h_ALC_SCHGPRICE,
          h_ALC_SDISPRICE, h_ALC_SLAST, h_ALC_SOFFER, h_ALC_SRAMP, h_ALC_SSETPOINT, h_ALC_SSTAT, h_CLN_CELLMAP,
          h_CLN_LANECFG, h_LPE_BATCH, h_LPE_FECFG, h_LPE_GROUP, h_PRT_CELL, h_PRT_CIDENT, h_PRT_CNOM, h_PRT_DISCFG,
          h_PRT_EMAX, h_PRT_GCAUSE, h_PRT_GCFG, h_PRT_GCMD, h_PRT_GSTAT, h_PRT_IAPP, h_PRT_IRATED, h_PRT_ISET,
          h_PRT_ISHEET, h_PRT_PCFG, h_PRT_RATE, h_PRT_RLL, h_PRT_TIMES, h_PRT_TREP, h_PRT_VAPP, h_PRT_VSET,
          h_RNG_LINKERR, h_THM_CABLE, h_THM_CAP, h_THM_COEF, h_THM_FLOW, h_THM_FLOWCFG, h_THM_G12, h_THM_IMAXH,
          h_THM_ISTAT, h_THM_LIM, h_THM_OBS, h_THM_PCH, h_THM_PSEN, h_THM_PSTAT, h_THM_R20, h_THM_REEF, h_THM_TEST,
          h_THM_WIN, h_VEH_CHKV, h_VEH_EVI, h_VEH_EVSOC, h_VEH_EVV, h_VEH_LIMI, h_VEH_LIMP, h_VEH_LIMV,
          h_VEH_LOOPCNT, h_VEH_RXADDR, h_VEH_RXLEN, h_VEH_SCFG, h_VEH_SSTAT, h_VEH_TXADDR]
    exact fun x hx => ⟨ha x hx, hc x hx⟩
  unfold deltaFrame
  (try simp (disch := (intros; (simp only [placeWord_writes (P := P) c_lpe hr, State.w_setF (fl := Fl.RNG_LINKERR_TAGERR) h_RNG_LINKERR (by decide), State.w_setF (fl := Fl.VEH_SSTAT_STATE) h_VEH_SSTAT (by decide), State.w_satF (fl := Fl.RNG_LINKERR_TAGERR) h_RNG_LINKERR (by decide), State.w_satF (fl := Fl.VEH_SSTAT_STATE) h_VEH_SSTAT (by decide), State.without_upd_lpe c_lpe, State.without_upd_rng c_rng, State.without_upd_veh c_veh, State.setSes_writes (P := P) c_veh, State.without_ite, ite_self]); done)) only [State.without_eachOf, State.without_each, placeWord_writes (P := P) c_lpe hr, State.w_setF (fl := Fl.RNG_LINKERR_TAGERR) h_RNG_LINKERR (by decide), State.w_setF (fl := Fl.VEH_SSTAT_STATE) h_VEH_SSTAT (by decide), State.w_satF (fl := Fl.RNG_LINKERR_TAGERR) h_RNG_LINKERR (by decide), State.w_satF (fl := Fl.VEH_SSTAT_STATE) h_VEH_SSTAT (by decide), State.without_upd_lpe c_lpe, State.without_upd_rng c_rng, State.without_upd_veh c_veh, State.setSes_writes (P := P) c_veh, State.without_ite, ite_self]) <;> (repeat' split) <;>
    (try simp (disch := (intros; (simp only [placeWord_writes (P := P) c_lpe hr, State.w_setF (fl := Fl.RNG_LINKERR_TAGERR) h_RNG_LINKERR (by decide), State.w_setF (fl := Fl.VEH_SSTAT_STATE) h_VEH_SSTAT (by decide), State.w_satF (fl := Fl.RNG_LINKERR_TAGERR) h_RNG_LINKERR (by decide), State.w_satF (fl := Fl.VEH_SSTAT_STATE) h_VEH_SSTAT (by decide), State.without_upd_lpe c_lpe, State.without_upd_rng c_rng, State.without_upd_veh c_veh, State.setSes_writes (P := P) c_veh, State.without_ite, ite_self]); done)) only [State.without_eachOf, State.without_each, placeWord_writes (P := P) c_lpe hr, State.w_setF (fl := Fl.RNG_LINKERR_TAGERR) h_RNG_LINKERR (by decide), State.w_setF (fl := Fl.VEH_SSTAT_STATE) h_VEH_SSTAT (by decide), State.w_satF (fl := Fl.RNG_LINKERR_TAGERR) h_RNG_LINKERR (by decide), State.w_satF (fl := Fl.VEH_SSTAT_STATE) h_VEH_SSTAT (by decide), State.without_upd_lpe c_lpe, State.without_upd_rng c_rng, State.without_upd_veh c_veh, State.setSes_writes (P := P) c_veh, State.without_ite, ite_self])

include h_ALC_PAPPLIED h_ALC_SSETPOINT h_EVT_PEND h_PRT_ISET h_PRT_ISHEET h_RNG_CAUSE h_RNG_STAT c_rng c_veh in
theorem displaced_writes (lane : Nat) (s : State) :
    (displaced lane s).without P = s.without P := by
  unfold displaced
  simp only [State.w_setF (fl := Fl.RNG_STAT_STATE) h_RNG_STAT (by decide), State.without_upd_rng c_rng,
      State.without_upd_veh c_veh,
      goSilent_writes (P := P) h_ALC_PAPPLIED h_ALC_SSETPOINT h_PRT_ISET h_PRT_ISHEET c_rng c_veh,
      rngCause_writes (P := P) h_EVT_PEND h_RNG_CAUSE, State.without_ite, ite_self]

include h_ALC_PAPPLIED h_ALC_PCFG h_ALC_PGRANT h_ALC_PLAST h_ALC_PRAMP h_ALC_PRATED h_ALC_PREQ h_ALC_PSTAT h_ALC_SCFG
    h_ALC_SCHGPRICE h_ALC_SDISPRICE h_ALC_SLAST h_ALC_SOFFER h_ALC_SRAMP h_ALC_SSETPOINT h_ALC_SSTAT h_CLN_CELLMAP h_CLN_CELLST h_CLN_LANECFG h_CLN_LANESTAT h_EVT_PEND h_LPE_BATCH h_LPE_BSTAT h_LPE_FECFG h_LPE_GROUP h_LPE_LOAD h_LPE_STAT h_LPE_TLOAD h_LSW_CHSTAT h_PRT_CELL h_PRT_CIDENT h_PRT_CNOM h_PRT_DISCFG h_PRT_EMAX h_PRT_GCAUSE h_PRT_GCFG h_PRT_GCMD h_PRT_GSTAT h_PRT_IAPP h_PRT_IRATED h_PRT_ISET h_PRT_ISHEET h_PRT_PCFG h_PRT_RATE h_PRT_RLL h_PRT_TIMES h_PRT_TREP h_PRT_VAPP h_PRT_VSET h_SFY_COIL h_SFY_PSTAT h_SFY_STAT h_THM_CABLE h_THM_CAP h_THM_COEF h_THM_FLOW h_THM_FLOWCFG h_THM_G12 h_THM_IMAXH h_THM_ISTAT h_THM_LIM h_THM_OBS h_THM_PCH h_THM_PSEN h_THM_PSTAT h_THM_R20 h_THM_REEF h_THM_TEST h_THM_WIN h_VEH_CHKV h_VEH_EVI h_VEH_EVSOC h_VEH_EVV h_VEH_LIMI h_VEH_LIMP h_VEH_LIMV h_VEH_LOOPCNT h_VEH_RXADDR h_VEH_RXLEN h_VEH_SCFG h_VEH_SSTAT h_VEH_TXADDR c_cln c_harts c_lpe c_lsw c_mem c_prt c_rng c_veh in
theorem spliceFrame_writes (f : SpliceFrame) (s : State) :
    (spliceFrame f s).without P = s.without P := by
  have hr : ∀ x ∈ shadowRegs, P.regs x.1.addr = true ∧ x.1.count ≤ 65536 := by
    have hc : ∀ x ∈ shadowRegs, x.1.count ≤ 65536 := by decide
    have ha : ∀ x ∈ shadowRegs, P.regs x.1.addr = true := by
      simp only [shadowRegs, List.cons_append, List.nil_append, List.forall_mem_cons, List.not_mem_nil,
          IsEmpty.forall_iff, implies_true, and_true, true_and, h_ALC_PAPPLIED, h_ALC_PCFG, h_ALC_PGRANT,
          h_ALC_PLAST, h_ALC_PRAMP, h_ALC_PRATED, h_ALC_PREQ, h_ALC_PSTAT, h_ALC_SCFG, h_ALC_SCHGPRICE,
          h_ALC_SDISPRICE, h_ALC_SLAST, h_ALC_SOFFER, h_ALC_SRAMP, h_ALC_SSETPOINT, h_ALC_SSTAT, h_CLN_CELLMAP,
          h_CLN_CELLST, h_CLN_LANECFG, h_CLN_LANESTAT, h_EVT_PEND, h_LPE_BATCH, h_LPE_BSTAT, h_LPE_FECFG,
          h_LPE_GROUP, h_LPE_LOAD, h_LPE_STAT, h_LPE_TLOAD, h_LSW_CHSTAT, h_PRT_CELL, h_PRT_CIDENT, h_PRT_CNOM,
          h_PRT_DISCFG, h_PRT_EMAX, h_PRT_GCAUSE, h_PRT_GCFG, h_PRT_GCMD, h_PRT_GSTAT, h_PRT_IAPP, h_PRT_IRATED,
          h_PRT_ISET, h_PRT_ISHEET, h_PRT_PCFG, h_PRT_RATE, h_PRT_RLL, h_PRT_TIMES, h_PRT_TREP, h_PRT_VAPP,
          h_PRT_VSET, h_SFY_COIL, h_SFY_PSTAT, h_SFY_STAT, h_THM_CABLE, h_THM_CAP, h_THM_COEF, h_THM_FLOW,
          h_THM_FLOWCFG, h_THM_G12, h_THM_IMAXH, h_THM_ISTAT, h_THM_LIM, h_THM_OBS, h_THM_PCH, h_THM_PSEN,
          h_THM_PSTAT, h_THM_R20, h_THM_REEF, h_THM_TEST, h_THM_WIN, h_VEH_CHKV, h_VEH_EVI, h_VEH_EVSOC, h_VEH_EVV,
          h_VEH_LIMI, h_VEH_LIMP, h_VEH_LIMV, h_VEH_LOOPCNT, h_VEH_RXADDR, h_VEH_RXLEN, h_VEH_SCFG, h_VEH_SSTAT,
          h_VEH_TXADDR]
    exact fun x hx => ⟨ha x hx, hc x hx⟩
  unfold spliceFrame
  (try simp (disch := (intros; (simp only [placeWord_writes (P := P) c_lpe hr, State.without_upd_cln c_cln, State.without_upd_harts c_harts, State.without_upd_lpe c_lpe, State.without_upd_lsw c_lsw, State.without_upd_mem c_mem, State.without_upd_prt c_prt, State.without_upd_rng c_rng, State.without_upd_veh c_veh, startLink_writes (P := P) h_CLN_CELLST h_CLN_LANESTAT c_cln, State.setFe_writes (P := P) c_veh, standbyTakeover_writes (P := P) h_EVT_PEND h_LPE_BATCH h_LPE_BSTAT h_LPE_LOAD h_LPE_STAT h_LPE_TLOAD h_LSW_CHSTAT h_PRT_GCAUSE h_PRT_GCMD h_PRT_GSTAT h_PRT_IAPP h_PRT_RATE h_PRT_VAPP h_SFY_COIL h_SFY_PSTAT h_SFY_STAT h_VEH_RXLEN h_VEH_SSTAT c_harts c_lpe c_lsw c_mem c_prt c_veh, State.without_ite, ite_self]); done)) only [State.without_eachOf, State.without_each, placeWord_writes (P := P) c_lpe hr, State.without_upd_cln c_cln, State.without_upd_harts c_harts, State.without_upd_lpe c_lpe, State.without_upd_lsw c_lsw, State.without_upd_mem c_mem, State.without_upd_prt c_prt, State.without_upd_rng c_rng, State.without_upd_veh c_veh, startLink_writes (P := P) h_CLN_CELLST h_CLN_LANESTAT c_cln, State.setFe_writes (P := P) c_veh, standbyTakeover_writes (P := P) h_EVT_PEND h_LPE_BATCH h_LPE_BSTAT h_LPE_LOAD h_LPE_STAT h_LPE_TLOAD h_LSW_CHSTAT h_PRT_GCAUSE h_PRT_GCMD h_PRT_GSTAT h_PRT_IAPP h_PRT_RATE h_PRT_VAPP h_SFY_COIL h_SFY_PSTAT h_SFY_STAT h_VEH_RXLEN h_VEH_SSTAT c_harts c_lpe c_lsw c_mem c_prt c_veh, State.without_ite, ite_self]) <;> (repeat' split) <;>
    (try simp (disch := (intros; (simp only [placeWord_writes (P := P) c_lpe hr, State.without_upd_cln c_cln, State.without_upd_harts c_harts, State.without_upd_lpe c_lpe, State.without_upd_lsw c_lsw, State.without_upd_mem c_mem, State.without_upd_prt c_prt, State.without_upd_rng c_rng, State.without_upd_veh c_veh, startLink_writes (P := P) h_CLN_CELLST h_CLN_LANESTAT c_cln, State.setFe_writes (P := P) c_veh, standbyTakeover_writes (P := P) h_EVT_PEND h_LPE_BATCH h_LPE_BSTAT h_LPE_LOAD h_LPE_STAT h_LPE_TLOAD h_LSW_CHSTAT h_PRT_GCAUSE h_PRT_GCMD h_PRT_GSTAT h_PRT_IAPP h_PRT_RATE h_PRT_VAPP h_SFY_COIL h_SFY_PSTAT h_SFY_STAT h_VEH_RXLEN h_VEH_SSTAT c_harts c_lpe c_lsw c_mem c_prt c_veh, State.without_ite, ite_self]); done)) only [State.without_eachOf, State.without_each, placeWord_writes (P := P) c_lpe hr, State.without_upd_cln c_cln, State.without_upd_harts c_harts, State.without_upd_lpe c_lpe, State.without_upd_lsw c_lsw, State.without_upd_mem c_mem, State.without_upd_prt c_prt, State.without_upd_rng c_rng, State.without_upd_veh c_veh, startLink_writes (P := P) h_CLN_CELLST h_CLN_LANESTAT c_cln, State.setFe_writes (P := P) c_veh, standbyTakeover_writes (P := P) h_EVT_PEND h_LPE_BATCH h_LPE_BSTAT h_LPE_LOAD h_LPE_STAT h_LPE_TLOAD h_LSW_CHSTAT h_PRT_GCAUSE h_PRT_GCMD h_PRT_GSTAT h_PRT_IAPP h_PRT_RATE h_PRT_VAPP h_SFY_COIL h_SFY_PSTAT h_SFY_STAT h_VEH_RXLEN h_VEH_SSTAT c_harts c_lpe c_lsw c_mem c_prt c_veh, State.without_ite, ite_self])

include h_RNG_STAT c_lpe c_rng in
theorem returnSignal_writes (s : State) :
    (returnSignal s).without P = s.without P := by
  unfold returnSignal
  simp (disch := (intros; simp only [State.w_setF (fl := Fl.RNG_STAT_STATE) h_RNG_STAT (by decide), State.without_upd_lpe_rng c_lpe c_rng, State.without_upd_lpe c_lpe, State.without_upd_rng c_rng, initSlots_writes (P := P) c_lpe, State.without_ite, ite_self]; done)) only [State.without_each, State.without_eachOf, State.w_setF (fl := Fl.RNG_STAT_STATE) h_RNG_STAT (by decide), State.without_upd_lpe_rng c_lpe c_rng, State.without_upd_lpe c_lpe, State.without_upd_rng c_rng, initSlots_writes (P := P) c_lpe, State.without_ite, ite_self]

include h_CLN_CELLST h_CLN_LANEEV h_CLN_LANESTAT h_CLN_STAT h_EVT_PEND h_LPE_BSTAT h_LPE_CWSTAT c_cln c_lpe in
theorem guardRelease_writes (s : State) :
    (guardRelease s).without P = s.without P := by
  unfold guardRelease
  simp (disch := (intros; simp only [State.w_setF (fl := Fl.CLN_LANESTAT_STATE) h_CLN_LANESTAT (by decide), State.without_upd_cln c_cln, State.without_upd_lpe c_lpe, laneDown_writes (P := P) h_CLN_CELLST h_CLN_LANEEV h_CLN_LANESTAT h_CLN_STAT h_EVT_PEND h_LPE_BSTAT h_LPE_CWSTAT c_cln c_lpe, State.without_ite, ite_self]; done)) only [State.without_each, State.without_eachOf, State.w_setF (fl := Fl.CLN_LANESTAT_STATE) h_CLN_LANESTAT (by decide), State.without_upd_cln c_cln, State.without_upd_lpe c_lpe, laneDown_writes (P := P) h_CLN_CELLST h_CLN_LANEEV h_CLN_LANESTAT h_CLN_STAT h_EVT_PEND h_LPE_BSTAT h_LPE_CWSTAT c_cln c_lpe, State.without_ite, ite_self]

include h_CLN_CELLST h_CLN_LANEEV h_CLN_LANESTAT h_CLN_STAT h_EVT_PEND h_LPE_BSTAT h_LPE_CWSTAT h_RNG_CAUSE h_RNG_SPL
    h_RNG_STAT c_cln c_lpe c_rng in
theorem returnComplete_writes (s : State) :
    (returnComplete s).without P = s.without P := by
  unfold returnComplete
  simp only [State.w_setF (fl := Fl.RNG_STAT_GUESTID) h_RNG_STAT (by decide),
      State.w_setF (fl := Fl.RNG_STAT_GUEST) h_RNG_STAT (by decide),
      State.w_setF (fl := Fl.RNG_SPL_STEP) h_RNG_SPL (by decide),
      State.w_setB (fl := Fl.RNG_STAT_GUESTID) h_RNG_STAT (by decide),
      State.w_setB (fl := Fl.RNG_STAT_GUEST) h_RNG_STAT (by decide),
      State.w_setB (fl := Fl.RNG_SPL_STEP) h_RNG_SPL (by decide), State.without_upd_cln c_cln,
      State.without_upd_lpe c_lpe, State.without_upd_rng c_rng,
      guardRelease_writes (P := P) h_CLN_CELLST h_CLN_LANEEV h_CLN_LANESTAT h_CLN_STAT h_EVT_PEND h_LPE_BSTAT h_LPE_CWSTAT c_cln c_lpe, rngCause_writes (P := P) h_EVT_PEND h_RNG_CAUSE, announce_writes (P := P) c_rng, State.without_ite, ite_self]

include h_EVT_PEND h_LPE_BATCH h_LPE_BSTAT h_LPE_LOAD h_LPE_STAT h_LPE_TLOAD h_LSW_CHSTAT h_PRT_GCAUSE h_PRT_GCMD
    h_PRT_GSTAT h_PRT_IAPP h_PRT_RATE h_PRT_VAPP h_RNG_CAUSE h_RNG_SPL h_RNG_STAT h_RNG_TDECLH h_RNG_TDECLL h_SFY_COIL h_SFY_PSTAT h_SFY_STAT h_VEH_SSTAT c_lpe c_lsw c_prt c_rng c_veh in
theorem spliceHandover_writes (s : State) :
    (spliceHandover s).without P = s.without P := by
  unfold spliceHandover
  simp (disch := (intros; simp only [State.w_setF (fl := Fl.RNG_SPL_STEP) h_RNG_SPL (by decide), State.w_setFM (r := R.RNG_TDECLL) h_RNG_TDECLL (by decide), State.w_setFM (r := R.RNG_TDECLH) h_RNG_TDECLH (by decide), State.w_setQ (lo := R.RNG_TDECLL) (hi := R.RNG_TDECLH) h_RNG_TDECLL h_RNG_TDECLH (by decide) (by decide), State.without_upd_lpe c_lpe, State.without_upd_lsw c_lsw, State.without_upd_prt c_prt, State.without_upd_rng c_rng, State.without_upd_veh c_veh, State.setFe_writes (P := P) c_veh, takeoverBegin_writes (P := P) h_EVT_PEND h_LPE_BATCH h_LPE_BSTAT h_LPE_LOAD h_LPE_STAT h_LPE_TLOAD h_LSW_CHSTAT h_PRT_GCAUSE h_PRT_GCMD h_PRT_GSTAT h_PRT_IAPP h_PRT_RATE h_PRT_VAPP h_RNG_CAUSE h_RNG_STAT h_SFY_COIL h_SFY_PSTAT h_SFY_STAT h_VEH_SSTAT c_lpe c_lsw c_prt c_rng c_veh, State.without_ite, ite_self]; done)) only [State.without_each, State.without_eachOf, State.w_setF (fl := Fl.RNG_SPL_STEP) h_RNG_SPL (by decide), State.w_setFM (r := R.RNG_TDECLL) h_RNG_TDECLL (by decide), State.w_setFM (r := R.RNG_TDECLH) h_RNG_TDECLH (by decide), State.w_setQ (lo := R.RNG_TDECLL) (hi := R.RNG_TDECLH) h_RNG_TDECLL h_RNG_TDECLH (by decide) (by decide), State.without_upd_lpe c_lpe, State.without_upd_lsw c_lsw, State.without_upd_prt c_prt, State.without_upd_rng c_rng, State.without_upd_veh c_veh, State.setFe_writes (P := P) c_veh, takeoverBegin_writes (P := P) h_EVT_PEND h_LPE_BATCH h_LPE_BSTAT h_LPE_LOAD h_LPE_STAT h_LPE_TLOAD h_LSW_CHSTAT h_PRT_GCAUSE h_PRT_GCMD h_PRT_GSTAT h_PRT_IAPP h_PRT_RATE h_PRT_VAPP h_RNG_CAUSE h_RNG_STAT h_SFY_COIL h_SFY_PSTAT h_SFY_STAT h_VEH_SSTAT c_lpe c_lsw c_prt c_rng c_veh, State.without_ite, ite_self]

include h_LSW_CHI h_LSW_CHSTAT c_lsw in
theorem chLatch_writes (n : Nat) (flt : Nat) (s : State) :
    (chLatch n flt s).without P = s.without P := by
  unfold chLatch
  simp only [State.w_setF (fl := Fl.LSW_CHI_I) h_LSW_CHI (by decide),
      State.w_setF (fl := Fl.LSW_CHSTAT_FLT) h_LSW_CHSTAT (by decide),
      State.w_setF (fl := Fl.LSW_CHSTAT_STATE) h_LSW_CHSTAT (by decide), State.without_upd_lsw c_lsw,
      State.setCh_writes (P := P) c_lsw, State.without_ite, ite_self]

include h_LSW_CHSTAT c_lsw in
theorem channelsFollow_writes (s : State) :
    (channelsFollow s).without P = s.without P := by
  unfold channelsFollow
  simp (disch := (intros; simp only [State.without_upd_lsw c_lsw, chUpdate_writes (P := P) h_LSW_CHSTAT c_lsw, State.without_ite, ite_self]; done)) only [State.without_each, State.without_eachOf, State.without_upd_lsw c_lsw, chUpdate_writes (P := P) h_LSW_CHSTAT c_lsw, State.without_ite, ite_self]

include h_SFY_COIL h_SFY_PSTAT c_sfy in
theorem coilsLost_writes (s : State) :
    (coilsLost s).without P = s.without P := by
  unfold coilsLost
  simp (disch := (intros; simp only [State.w_setB (fl := Fl.SFY_PSTAT_STANDBY) h_SFY_PSTAT (by decide), State.w_setB (fl := Fl.SFY_PSTAT_NEGCMD) h_SFY_PSTAT (by decide), State.w_setB (fl := Fl.SFY_PSTAT_POSCMD) h_SFY_PSTAT (by decide), State.without_upd_sfy c_sfy, coilOff_writes (P := P) h_SFY_COIL, State.setSp_writes (P := P) c_sfy, State.without_ite, ite_self]; done)) only [State.without_each, State.without_eachOf, State.w_setB (fl := Fl.SFY_PSTAT_STANDBY) h_SFY_PSTAT (by decide), State.w_setB (fl := Fl.SFY_PSTAT_NEGCMD) h_SFY_PSTAT (by decide), State.w_setB (fl := Fl.SFY_PSTAT_POSCMD) h_SFY_PSTAT (by decide), State.without_upd_sfy c_sfy, coilOff_writes (P := P) h_SFY_COIL, State.setSp_writes (P := P) c_sfy, State.without_ite, ite_self]

include h_EVT_PEND h_LSW_CHSTAT h_LSW_STAT h_LSW_SUP h_SFY_COIL h_SFY_PSTAT h_SYS_SUPSTAT c_lsw c_sfy in
theorem vauxUnder_writes (mv : Nat) (s : State) :
    (vauxUnder mv s).without P = s.without P := by
  unfold vauxUnder
  simp only [State.w_setF (fl := Fl.LSW_SUP_VAUX) h_LSW_SUP (by decide),
      State.w_setF (fl := Fl.SYS_SUPSTAT_VAUX_OK) h_SYS_SUPSTAT (by decide),
      State.w_setF (fl := Fl.LSW_SUP_UV) h_LSW_SUP (by decide),
      State.w_setB (fl := Fl.LSW_SUP_VAUX) h_LSW_SUP (by decide),
      State.w_setB (fl := Fl.SYS_SUPSTAT_VAUX_OK) h_SYS_SUPSTAT (by decide),
      State.w_setB (fl := Fl.LSW_SUP_UV) h_LSW_SUP (by decide), State.without_upd_lsw c_lsw,
      State.without_upd_sfy c_sfy, lswCause_writes (P := P) h_EVT_PEND h_LSW_STAT,
      channelsFollow_writes (P := P) h_LSW_CHSTAT c_lsw, coilsLost_writes (P := P) h_SFY_COIL h_SFY_PSTAT c_sfy,
      State.without_when_if, State.without_ite, ite_self]

include h_EVT_PEND h_LSW_CHSTAT h_LSW_STAT h_LSW_SUP h_SYS_SUPSTAT c_lsw in
theorem vauxOver_writes (mv : Nat) (s : State) :
    (vauxOver mv s).without P = s.without P := by
  unfold vauxOver
  simp only [State.w_setF (fl := Fl.LSW_SUP_VAUX) h_LSW_SUP (by decide),
      State.w_setF (fl := Fl.SYS_SUPSTAT_VAUX_OK) h_SYS_SUPSTAT (by decide),
      State.w_setF (fl := Fl.LSW_SUP_OV) h_LSW_SUP (by decide),
      State.w_setB (fl := Fl.LSW_SUP_VAUX) h_LSW_SUP (by decide),
      State.w_setB (fl := Fl.SYS_SUPSTAT_VAUX_OK) h_SYS_SUPSTAT (by decide),
      State.w_setB (fl := Fl.LSW_SUP_OV) h_LSW_SUP (by decide), State.without_upd_lsw c_lsw,
      lswCause_writes (P := P) h_EVT_PEND h_LSW_STAT, channelsFollow_writes (P := P) h_LSW_CHSTAT c_lsw,
      State.without_ite, ite_self]

include h_EVT_PEND h_LSW_CHI h_LSW_CHSTAT h_LSW_STAT h_LSW_SUP h_SFY_COIL h_SFY_PSTAT h_SYS_SUPSTAT c_lsw c_sfy in
theorem groundLoss_writes (s : State) :
    (groundLoss s).without P = s.without P := by
  unfold groundLoss
  simp (disch := (intros; simp only [State.w_setB (fl := Fl.SYS_SUPSTAT_VAUX_OK) h_SYS_SUPSTAT (by decide), State.w_setB (fl := Fl.LSW_SUP_GND) h_LSW_SUP (by decide), State.without_upd_lsw c_lsw, State.without_upd_sfy c_sfy, coilsLost_writes (P := P) h_SFY_COIL h_SFY_PSTAT c_sfy, lswCause_writes (P := P) h_EVT_PEND h_LSW_STAT, chLatch_writes (P := P) h_LSW_CHI h_LSW_CHSTAT c_lsw, State.without_ite, ite_self]; done)) only [State.without_each, State.without_eachOf, State.w_setB (fl := Fl.SYS_SUPSTAT_VAUX_OK) h_SYS_SUPSTAT (by decide), State.w_setB (fl := Fl.LSW_SUP_GND) h_LSW_SUP (by decide), State.without_upd_lsw c_lsw, State.without_upd_sfy c_sfy, coilsLost_writes (P := P) h_SFY_COIL h_SFY_PSTAT c_sfy, lswCause_writes (P := P) h_EVT_PEND h_LSW_STAT, chLatch_writes (P := P) h_LSW_CHI h_LSW_CHSTAT c_lsw, State.without_ite, ite_self]

include h_LSW_CHSTAT h_LSW_SUP h_SYS_SUPSTAT c_lsw c_sfy in
theorem vauxReturn_writes (mv : Nat) (s : State) :
    (vauxReturn mv s).without P = s.without P := by
  unfold vauxReturn
  simp only [State.w_setF (fl := Fl.LSW_SUP_VAUX) h_LSW_SUP (by decide),
      State.w_setF (fl := Fl.LSW_SUP_GND) h_LSW_SUP (by decide),
      State.w_setF (fl := Fl.LSW_SUP_REV) h_LSW_SUP (by decide),
      State.w_setF (fl := Fl.LSW_SUP_OV) h_LSW_SUP (by decide),
      State.w_setF (fl := Fl.LSW_SUP_UV) h_LSW_SUP (by decide),
      State.w_setF (fl := Fl.LSW_SUP_DROOP) h_LSW_SUP (by decide),
      State.w_setF (fl := Fl.SYS_SUPSTAT_VAUX_OK) h_SYS_SUPSTAT (by decide),
      State.w_setB (fl := Fl.LSW_SUP_VAUX) h_LSW_SUP (by decide),
      State.w_setB (fl := Fl.LSW_SUP_GND) h_LSW_SUP (by decide),
      State.w_setB (fl := Fl.LSW_SUP_REV) h_LSW_SUP (by decide),
      State.w_setB (fl := Fl.LSW_SUP_OV) h_LSW_SUP (by decide),
      State.w_setB (fl := Fl.LSW_SUP_UV) h_LSW_SUP (by decide),
      State.w_setB (fl := Fl.LSW_SUP_DROOP) h_LSW_SUP (by decide),
      State.w_setB (fl := Fl.SYS_SUPSTAT_VAUX_OK) h_SYS_SUPSTAT (by decide), State.without_upd_lsw c_lsw,
      State.without_upd_sfy c_sfy, lswAllOff_writes (P := P) h_LSW_CHSTAT c_lsw,
      channelsFollow_writes (P := P) h_LSW_CHSTAT c_lsw, State.without_when_if, State.without_ite, ite_self]

include h_EVT_PEND h_SFY_FB h_SFY_PSTAT h_SFY_STAT c_sfy in
theorem feedbackChange_writes (k : Nat) (level : Bool) (s : State) :
    (feedbackChange k level s).without P = s.without P := by
  unfold feedbackChange
  simp (disch := (intros; simp only [State.w_setB (fl := Fl.SFY_FB_LEVEL) h_SFY_FB (by decide), State.w_setB (fl := Fl.SFY_PSTAT_LOCKED) h_SFY_PSTAT (by decide), State.w_setFBit (fl := Fl.SFY_FB_LEVEL) h_SFY_FB (by decide), State.w_setFBit (fl := Fl.SFY_PSTAT_LOCKED) h_SFY_PSTAT (by decide), State.without_upd_sfy c_sfy, mirrorSet_writes (P := P) h_EVT_PEND h_SFY_PSTAT h_SFY_STAT c_sfy, State.without_when_if, State.without_ite, ite_self]; done)) only [State.without_each, State.without_eachOf, State.w_setB (fl := Fl.SFY_FB_LEVEL) h_SFY_FB (by decide), State.w_setB (fl := Fl.SFY_PSTAT_LOCKED) h_SFY_PSTAT (by decide), State.w_setFBit (fl := Fl.SFY_FB_LEVEL) h_SFY_FB (by decide), State.w_setFBit (fl := Fl.SFY_PSTAT_LOCKED) h_SFY_PSTAT (by decide), State.without_upd_sfy c_sfy, mirrorSet_writes (P := P) h_EVT_PEND h_SFY_PSTAT h_SFY_STAT c_sfy, State.without_when_if, State.without_ite, ite_self]

include h_EST_QH h_EST_QL in
theorem countCharge_writes (k : Nat) (dq : Int) (s : State) :
    (countCharge k dq s).without P = s.without P := by
  unfold countCharge
  simp only [State.w_setQi (lo := R.EST_QL) (hi := R.EST_QH) h_EST_QL h_EST_QH (by decide) (by decide),
      State.without_ite, ite_self]

include h_EST_SOC h_EST_SOCE c_est in
theorem spanUncertainty_writes (k : Nat) (s : State) :
    (spanUncertainty k s).without P = s.without P := by
  unfold spanUncertainty
  (repeat' split) <;> simp only [State.w_setF (fl := Fl.EST_SOC_U) h_EST_SOC (by decide),
      State.w_setF (fl := Fl.EST_SOCE_STATE) h_EST_SOCE (by decide), State.without_upd_est c_est,
      State.setPk_writes (P := P) c_est, State.without_when_if, State.without_ite, ite_self]

include h_EST_CYCLES h_EST_SOCE c_drawn c_est in
theorem countSoc_writes (k : Nat) (dq : Int) (s : State) :
    (countSoc k dq s).1.without P = s.without P := by
  unfold countSoc
  (repeat' split) <;> simp only [State.w_setF (fl := Fl.EST_SOCE_SOCE) h_EST_SOCE (by decide),
      State.w_setFM (r := R.EST_CYCLES) h_EST_CYCLES (by decide),
      State.w_setReg (r := R.EST_CYCLES) h_EST_CYCLES (by decide), State.without_upd_drawn c_drawn,
      State.without_upd_est c_est, State.draw_writes (P := P) c_drawn, State.setPk_writes (P := P) c_est,
      State.without_ite, ite_self]

include h_EST_SOC in
theorem reportSoc_writes (k : Nat) (ma : Int) (s : State) :
    (reportSoc k ma s).without P = s.without P := by
  unfold reportSoc
  simp only [State.w_setF (fl := Fl.EST_SOC_SOCR) h_EST_SOC (by decide), State.without_ite, ite_self]

include h_EST_SOC c_est in
theorem growUncertainty_writes (k : Nat) (counted : Int) (s : State) :
    (growUncertainty k counted s).without P = s.without P := by
  unfold growUncertainty
  simp only [State.w_setF (fl := Fl.EST_SOC_U) h_EST_SOC (by decide), State.without_upd_est c_est,
      State.setPk_writes (P := P) c_est, State.without_ite, ite_self]

include h_EST_R0 h_EST_SOCE c_est in
theorem modelStep_writes (k : Nat) (mv : Int) (ma : Int) (s : State) :
    (modelStep k mv ma s).without P = s.without P := by
  unfold modelStep
  simp only [State.w_setF (fl := Fl.EST_R0_R0) h_EST_R0 (by decide),
      State.w_setF (fl := Fl.EST_SOCE_SOCE) h_EST_SOCE (by decide), State.without_upd_est c_est,
      State.setPk_writes (P := P) c_est, State.without_ite, ite_self]

include c_est in
theorem limitsRelease_writes (k : Nat) (mv : Int) (s : State) :
    (limitsRelease k mv s).without P = s.without P := by
  unfold limitsRelease
  simp only [State.without_upd_est c_est, State.setPk_writes (P := P) c_est, State.without_ite, ite_self]

include h_EST_DAYS h_EST_STAT h_EVT_PEND in
theorem showDays_writes (k : Nat) (s : State) :
    (showDays k s).without P = s.without P := by
  unfold showDays
  simp only [State.w_setF (fl := Fl.EST_DAYS_S) h_EST_DAYS (by decide),
      State.w_setF (fl := Fl.EST_DAYS_DAYS) h_EST_DAYS (by decide), estCause_writes (P := P) h_EST_STAT h_EVT_PEND,
      State.without_when_if, State.without_ite, ite_self]

include h_EST_CHG h_EST_DIS in
theorem showLimits_writes (k : Nat) (s : State) :
    (showLimits k s).without P = s.without P := by
  unfold showLimits
  simp only [State.w_setReg (r := R.EST_CHG) h_EST_CHG (by decide),
      State.w_setReg (r := R.EST_DIS) h_EST_DIS (by decide), State.without_ite, ite_self]

include c_est in
theorem chargeHp_writes (mv : Int) (s : State) :
    (chargeHp mv s).without P = s.without P := by
  unfold chargeHp
  simp only [State.without_upd_est c_est, State.without_ite, ite_self]

include h_EST_STAT h_EVT_PEND h_SYS_SUPSTAT in
theorem showHpOk_writes (mv : Int) (s : State) :
    (showHpOk mv s).without P = s.without P := by
  unfold showHpOk
  simp only [State.w_setB (fl := Fl.SYS_SUPSTAT_HP_OK) h_SYS_SUPSTAT (by decide),
      estCause_writes (P := P) h_EST_STAT h_EVT_PEND, State.without_when_if, State.without_ite, ite_self]

include h_EST_CFG h_EST_CHG h_EST_CYCLES h_EST_DAYS h_EST_DIS h_EST_I h_EST_QH h_EST_QL h_EST_R0 h_EST_SOC h_EST_SOCE
    h_EST_STAT h_EST_V h_EVT_PEND h_SYS_SUPSTAT c_drawn c_est in
theorem estimatorStep_writes (k : Nat) (dq : Int) (mv : Int) (ma : Int) (s : State) :
    (estimatorStep k dq mv ma s).without P = s.without P := by
  unfold estimatorStep
  simp only [State.w_setF (fl := Fl.EST_CFG_PRESENT) h_EST_CFG (by decide),
      State.w_setFM (r := R.EST_I) h_EST_I (by decide), State.w_setFM (r := R.EST_V) h_EST_V (by decide),
      State.w_setF (fl := Fl.EST_SOCE_STATE) h_EST_SOCE (by decide),
      State.w_setB (fl := Fl.EST_CFG_PRESENT) h_EST_CFG (by decide),
      State.w_setBM (r := R.EST_I) h_EST_I (by decide), State.w_setBM (r := R.EST_V) h_EST_V (by decide),
      State.w_setB (fl := Fl.EST_SOCE_STATE) h_EST_SOCE (by decide),
      State.w_setReg (r := R.EST_I) h_EST_I (by decide), State.w_setReg (r := R.EST_V) h_EST_V (by decide),
      State.without_upd_drawn c_drawn, State.without_upd_est c_est, countCharge_writes (P := P) h_EST_QH h_EST_QL,
      estCause_writes (P := P) h_EST_STAT h_EVT_PEND, spanUncertainty_writes (P := P) h_EST_SOC h_EST_SOCE c_est,
      countSoc_writes (P := P) h_EST_CYCLES h_EST_SOCE c_drawn c_est, reportSoc_writes (P := P) h_EST_SOC,
      growUncertainty_writes (P := P) h_EST_SOC c_est, modelStep_writes (P := P) h_EST_R0 h_EST_SOCE c_est,
      limitsRelease_writes (P := P) c_est, showDays_writes (P := P) h_EST_DAYS h_EST_STAT h_EVT_PEND,
      showLimits_writes (P := P) h_EST_CHG h_EST_DIS, packRecord_writes (P := P) c_est,
      chargeHp_writes (P := P) c_est, showHpOk_writes (P := P) h_EST_STAT h_EVT_PEND h_SYS_SUPSTAT,
      State.without_when_if, State.without_ite, ite_self]

include h_EST_IMP in
theorem setImpEntry_writes (k : Nat) (e : Nat) (v : Nat) (s : State) :
    (setImpEntry k e v s).without P = s.without P := by
  unfold setImpEntry
  simp only [State.w_setF (fl := Fl.EST_IMP_LO) h_EST_IMP (by decide),
      State.w_setF (fl := Fl.EST_IMP_HI) h_EST_IMP (by decide), State.without_ite, ite_self]

include h_EST_IMP in
theorem learnImpedance_writes (k : Nat) (mv : Int) (ma : Int) (s : State) :
    (learnImpedance k mv ma s).without P = s.without P := by
  unfold learnImpedance
  (repeat' split) <;> simp only [setImpEntry_writes (P := P) h_EST_IMP, State.without_ite, ite_self]

include h_EST_CHG h_EST_DIS h_EST_IMP h_EST_STAT h_EVT_PEND c_est in
theorem voltageLimit_writes (k : Nat) (mv : Int) (ma : Int) (s : State) :
    (voltageLimit k mv ma s).without P = s.without P := by
  unfold voltageLimit
  simp only [State.w_setReg (r := R.EST_DIS) h_EST_DIS (by decide),
      State.w_setReg (r := R.EST_CHG) h_EST_CHG (by decide), State.without_upd_est c_est,
      State.setPk_writes (P := P) c_est, learnImpedance_writes (P := P) h_EST_IMP,
      estCause_writes (P := P) h_EST_STAT h_EVT_PEND, State.without_when_if, State.without_ite, ite_self]

include h_EST_CAP h_EST_STAT h_EVT_PEND in
theorem learnCapacity_writes (k : Nat) (s : State) :
    (learnCapacity k s).without P = s.without P := by
  unfold learnCapacity
  (repeat' split) <;> simp only [State.w_setReg (r := R.EST_CAP) h_EST_CAP (by decide),
      estCause_writes (P := P) h_EST_STAT h_EVT_PEND, State.without_ite, ite_self]

include h_EST_CAP h_EST_DAYS h_EST_SOC h_EST_SOCE h_EST_STAT h_EVT_PEND c_est in
theorem restCorrect_writes (first : Bool) (k : Nat) (s : State) :
    (restCorrect first k s).without P = s.without P := by
  unfold restCorrect
  simp only [State.w_setF (fl := Fl.EST_SOC_U) h_EST_SOC (by decide),
      State.w_setF (fl := Fl.EST_SOCE_SOCE) h_EST_SOCE (by decide), State.without_upd_est c_est,
      learnCapacity_writes (P := P) h_EST_CAP h_EST_STAT h_EVT_PEND, State.setPk_writes (P := P) c_est,
      packRecord_writes (P := P) c_est, showDays_writes (P := P) h_EST_DAYS h_EST_STAT h_EVT_PEND,
      State.without_when_if, State.without_ite, ite_self]

include h_EST_CAP h_EST_DAYS h_EST_SOC h_EST_SOCE h_EST_STAT h_EVT_PEND c_est in
theorem restStart_writes (k : Nat) (s : State) :
    (restStart k s).without P = s.without P := by
  unfold restStart
  simp only [State.w_setF (fl := Fl.EST_SOCE_STATE) h_EST_SOCE (by decide), State.without_upd_est c_est,
      restCorrect_writes (P := P) h_EST_CAP h_EST_DAYS h_EST_SOC h_EST_SOCE h_EST_STAT h_EVT_PEND c_est,
      State.without_ite, ite_self]

include h_EST_CAP h_EST_DAYS h_EST_SOC h_EST_SOCE h_EST_STAT h_EVT_PEND c_est in
theorem restRepeat_writes (k : Nat) (s : State) :
    (restRepeat k s).without P = s.without P := by
  unfold restRepeat
  simp only [State.without_upd_est c_est,
      restCorrect_writes (P := P) h_EST_CAP h_EST_DAYS h_EST_SOC h_EST_SOCE h_EST_STAT h_EVT_PEND c_est,
      State.without_ite, ite_self]

include h_EST_CHG h_EST_DIS h_EST_SOCE h_EST_STAT h_EVT_PEND c_est in
theorem counterCheck_writes (k : Nat) (ok : Bool) (s : State) :
    (counterCheck k ok s).without P = s.without P := by
  unfold counterCheck
  simp only [State.w_setF (fl := Fl.EST_SOCE_STATE) h_EST_SOCE (by decide),
      State.w_setFM (r := R.EST_CHG) h_EST_CHG (by decide), State.w_setFM (r := R.EST_DIS) h_EST_DIS (by decide),
      State.w_setReg (r := R.EST_CHG) h_EST_CHG (by decide), State.w_setReg (r := R.EST_DIS) h_EST_DIS (by decide),
      State.without_upd_est c_est, State.setPk_writes (P := P) c_est, estCause_writes (P := P) h_EST_STAT h_EVT_PEND,
      State.without_ite, ite_self]

include h_EST_CAP h_EST_CFG h_EST_CHG h_EST_CYCLES h_EST_DIS h_EST_SOCE h_EST_V c_est in
theorem packAppears_writes (k : Nat) (mv : Int) (s : State) :
    (packAppears k mv s).without P = s.without P := by
  unfold packAppears
  simp only [State.w_setBM (r := R.EST_V) h_EST_V (by decide),
      State.w_setB (fl := Fl.EST_CFG_PRESENT) h_EST_CFG (by decide),
      State.w_setReg (r := R.EST_V) h_EST_V (by decide), State.without_upd_est c_est,
      packInsert_writes (P := P) h_EST_CAP h_EST_CHG h_EST_CYCLES h_EST_DIS h_EST_SOCE c_est, State.without_ite,
      ite_self]

include h_EST_SOC h_EST_SOCE h_EST_STAT h_EVT_PEND c_est in
theorem firstEstimate_writes (k : Nat) (s : State) :
    (firstEstimate k s).without P = s.without P := by
  unfold firstEstimate
  simp only [State.w_setF (fl := Fl.EST_SOCE_STATE) h_EST_SOCE (by decide),
      State.w_setF (fl := Fl.EST_SOC_U) h_EST_SOC (by decide),
      State.w_setF (fl := Fl.EST_SOC_SOCR) h_EST_SOC (by decide),
      State.w_setF (fl := Fl.EST_SOCE_SOCE) h_EST_SOCE (by decide), State.without_upd_est c_est,
      estCause_writes (P := P) h_EST_STAT h_EVT_PEND, State.setPk_writes (P := P) c_est, State.without_ite, ite_self]

include c_est in
theorem hpChargeEnd_writes (ma : Int) (s : State) :
    (hpChargeEnd ma s).without P = s.without P := by
  unfold hpChargeEnd
  simp only [State.without_upd_est c_est, State.without_ite, ite_self]

include h_BIL_KOFFH h_BIL_KOFFL h_BIL_STAT h_BIL_TCOUNT h_BIL_TFIRSTH h_BIL_TFIRSTL h_BIL_TLASTH h_BIL_TLASTL
    h_EVT_PEND h_TIM_LEAP c_bil c_time in
theorem leapSecond_writes (s : State) :
    (leapSecond s).without P = s.without P := by
  unfold leapSecond
  simp only [State.w_setF (fl := Fl.TIM_LEAP_TAIUTC) h_TIM_LEAP (by decide),
      State.w_setF (fl := Fl.TIM_LEAP_PEND) h_TIM_LEAP (by decide), State.without_upd_bil c_bil,
      State.without_upd_time c_time,
      kChange_writes (P := P) h_BIL_KOFFH h_BIL_KOFFL h_BIL_STAT h_BIL_TCOUNT h_BIL_TFIRSTH h_BIL_TFIRSTL h_BIL_TLASTH h_BIL_TLASTL h_EVT_PEND c_bil c_time, State.without_ite, ite_self]

include h_EVT_PEND h_TIM_STAT c_time in
theorem rtcFails_writes (s : State) :
    (rtcFails s).without P = s.without P := by
  unfold rtcFails
  simp only [State.w_setB (fl := Fl.TIM_STAT_RTCVALID) h_TIM_STAT (by decide),
      State.w_setB (fl := Fl.TIM_STAT_OSCF) h_TIM_STAT (by decide), State.without_upd_time c_time,
      timCause_writes (P := P) h_EVT_PEND h_TIM_STAT, State.without_ite, ite_self]

include h_TIM_RTCS h_TIM_RTCSUB c_time in
theorem rtcLoad_writes (s : State) :
    (rtcLoad s).without P = s.without P := by
  unfold rtcLoad
  simp only [State.w_setF (fl := Fl.TIM_RTCSUB_SUB) h_TIM_RTCSUB (by decide),
      State.w_setF (fl := Fl.TIM_RTCS_S) h_TIM_RTCS (by decide), State.without_upd_time c_time, State.without_ite,
      ite_self]

include h_ETH_STAT h_EVT_PEND c_eth in
theorem txLaunch_writes (m : Nat) (r : Nat) (s : State) :
    (txLaunch m r s).without P = s.without P := by
  unfold txLaunch
  (repeat' split) <;> simp only [State.without_upd_eth c_eth, txStart_writes (P := P) h_ETH_STAT h_EVT_PEND c_eth,
      State.setMac_writes (P := P) c_eth, State.without_ite, ite_self]

include h_CAN_STAT h_CAN_TXEVA h_CAN_TXEVB h_CAN_TXSTAT h_EVT_PEND c_cans in
theorem canLaunch_writes (n : Nat) (s : State) :
    (canLaunch n s).without P = s.without P := by
  unfold canLaunch
  (repeat' split) <;> simp only [State.without_upd_cans c_cans,
      canNext_writes (P := P) h_CAN_STAT h_CAN_TXEVA h_CAN_TXEVB h_CAN_TXSTAT h_EVT_PEND c_cans,
      State.setCan_writes (P := P) h_CAN_TXEVA h_CAN_TXEVB h_CAN_TXSTAT c_cans, State.without_ite, ite_self]

include h_CAN_STAT h_CAN_TXEVA h_CAN_TXEVB h_CAN_TXSTAT h_EVT_PEND c_cans in
theorem canJoin_writes (n : Nat) (s : State) :
    (canJoin n s).without P = s.without P := by
  unfold canJoin
  simp only [State.without_upd_cans c_cans,
      canNext_writes (P := P) h_CAN_STAT h_CAN_TXEVA h_CAN_TXEVB h_CAN_TXSTAT h_EVT_PEND c_cans,
      State.setCan_writes (P := P) h_CAN_TXEVA h_CAN_TXEVB h_CAN_TXSTAT c_cans, State.without_ite, ite_self]

include h_CAN_ERR h_CAN_STAT h_CAN_TXEVA h_CAN_TXEVB h_CAN_TXSTAT h_EVT_PEND c_cans in
theorem canCounters_writes (n : Nat) (tec : Nat) (rec_ : Nat) (s : State) :
    (canCounters n tec rec_ s).without P = s.without P := by
  unfold canCounters
  simp only [State.w_setF (fl := Fl.CAN_STAT_FCS) h_CAN_STAT (by decide),
      State.w_setF (fl := Fl.CAN_ERR_REC) h_CAN_ERR (by decide),
      State.w_setF (fl := Fl.CAN_ERR_TEC) h_CAN_ERR (by decide), State.without_upd_cans c_cans,
      canCause_writes (P := P) h_CAN_STAT h_EVT_PEND,
      State.setCan_writes (P := P) h_CAN_TXEVA h_CAN_TXEVB h_CAN_TXSTAT c_cans, State.without_when_if,
      State.without_ite, ite_self]

include c_drawn in
theorem canAccept_writes (n : Nat) (x : CanFrame) (s : State) :
    (canAccept n x s).2.without P = s.without P := by
  unfold canAccept
  (repeat' split) <;> simp only [State.without_upd_drawn c_drawn, State.draw_writes (P := P) c_drawn,
      State.without_ite, ite_self]

include h_CAN_ERR h_CAN_RXRING h_CAN_RXSTAT h_CAN_STAT h_CAN_TXEVA h_CAN_TXEVB h_CAN_TXSTAT h_EVT_PEND c_cans c_drawn
    in
theorem canStore_writes (n : Nat) (x : CanFrame) (s : State) :
    (canStore n x s).without P = s.without P := by
  unfold canStore
  (try simp (disch := (intros; ((try simp only [State.w_setF (fl := Fl.CAN_ERR_RXLOST) h_CAN_ERR (by decide), State.w_setFM (r := R.CAN_RXRING) h_CAN_RXRING (by decide), State.w_setF (fl := Fl.CAN_RXSTAT_COUNT) h_CAN_RXSTAT (by decide), State.w_satF (fl := Fl.CAN_ERR_RXLOST) h_CAN_ERR (by decide), State.w_satFM (r := R.CAN_RXRING) h_CAN_RXRING (by decide), State.w_satF (fl := Fl.CAN_RXSTAT_COUNT) h_CAN_RXSTAT (by decide), State.w_setReg (r := R.CAN_RXRING) h_CAN_RXRING (by decide), State.without_upd_cans c_cans, State.without_upd_drawn c_drawn, canAccept_writes (P := P) c_drawn, canCause_writes (P := P) h_CAN_STAT h_EVT_PEND, State.setCan_writes (P := P) h_CAN_TXEVA h_CAN_TXEVB h_CAN_TXSTAT c_cans, State.without_ite, ite_self]) <;> (repeat' split) <;> (try simp only [State.w_setF (fl := Fl.CAN_ERR_RXLOST) h_CAN_ERR (by decide), State.w_setFM (r := R.CAN_RXRING) h_CAN_RXRING (by decide), State.w_setF (fl := Fl.CAN_RXSTAT_COUNT) h_CAN_RXSTAT (by decide), State.w_satF (fl := Fl.CAN_ERR_RXLOST) h_CAN_ERR (by decide), State.w_satFM (r := R.CAN_RXRING) h_CAN_RXRING (by decide), State.w_satF (fl := Fl.CAN_RXSTAT_COUNT) h_CAN_RXSTAT (by decide), State.w_setReg (r := R.CAN_RXRING) h_CAN_RXRING (by decide), State.without_upd_cans c_cans, State.without_upd_drawn c_drawn, canAccept_writes (P := P) c_drawn, canCause_writes (P := P) h_CAN_STAT h_EVT_PEND, State.setCan_writes (P := P) h_CAN_TXEVA h_CAN_TXEVB h_CAN_TXSTAT c_cans, State.without_ite, ite_self])); done)) only [State.without_each, State.without_eachOf, State.w_setF (fl := Fl.CAN_ERR_RXLOST) h_CAN_ERR (by decide), State.w_setFM (r := R.CAN_RXRING) h_CAN_RXRING (by decide), State.w_setF (fl := Fl.CAN_RXSTAT_COUNT) h_CAN_RXSTAT (by decide), State.w_satF (fl := Fl.CAN_ERR_RXLOST) h_CAN_ERR (by decide), State.w_satFM (r := R.CAN_RXRING) h_CAN_RXRING (by decide), State.w_satF (fl := Fl.CAN_RXSTAT_COUNT) h_CAN_RXSTAT (by decide), State.w_setReg (r := R.CAN_RXRING) h_CAN_RXRING (by decide), State.without_upd_cans c_cans, State.without_upd_drawn c_drawn, canAccept_writes (P := P) c_drawn, canCause_writes (P := P) h_CAN_STAT h_EVT_PEND, State.setCan_writes (P := P) h_CAN_TXEVA h_CAN_TXEVB h_CAN_TXSTAT c_cans, State.without_ite, ite_self]) <;> (repeat' split) <;>
    (try simp (disch := (intros; ((try simp only [State.w_setF (fl := Fl.CAN_ERR_RXLOST) h_CAN_ERR (by decide), State.w_setFM (r := R.CAN_RXRING) h_CAN_RXRING (by decide), State.w_setF (fl := Fl.CAN_RXSTAT_COUNT) h_CAN_RXSTAT (by decide), State.w_satF (fl := Fl.CAN_ERR_RXLOST) h_CAN_ERR (by decide), State.w_satFM (r := R.CAN_RXRING) h_CAN_RXRING (by decide), State.w_satF (fl := Fl.CAN_RXSTAT_COUNT) h_CAN_RXSTAT (by decide), State.w_setReg (r := R.CAN_RXRING) h_CAN_RXRING (by decide), State.without_upd_cans c_cans, State.without_upd_drawn c_drawn, canAccept_writes (P := P) c_drawn, canCause_writes (P := P) h_CAN_STAT h_EVT_PEND, State.setCan_writes (P := P) h_CAN_TXEVA h_CAN_TXEVB h_CAN_TXSTAT c_cans, State.without_ite, ite_self]) <;> (repeat' split) <;> (try simp only [State.w_setF (fl := Fl.CAN_ERR_RXLOST) h_CAN_ERR (by decide), State.w_setFM (r := R.CAN_RXRING) h_CAN_RXRING (by decide), State.w_setF (fl := Fl.CAN_RXSTAT_COUNT) h_CAN_RXSTAT (by decide), State.w_satF (fl := Fl.CAN_ERR_RXLOST) h_CAN_ERR (by decide), State.w_satFM (r := R.CAN_RXRING) h_CAN_RXRING (by decide), State.w_satF (fl := Fl.CAN_RXSTAT_COUNT) h_CAN_RXSTAT (by decide), State.w_setReg (r := R.CAN_RXRING) h_CAN_RXRING (by decide), State.without_upd_cans c_cans, State.without_upd_drawn c_drawn, canAccept_writes (P := P) c_drawn, canCause_writes (P := P) h_CAN_STAT h_EVT_PEND, State.setCan_writes (P := P) h_CAN_TXEVA h_CAN_TXEVB h_CAN_TXSTAT c_cans, State.without_ite, ite_self])); done)) only [State.without_each, State.without_eachOf, State.w_setF (fl := Fl.CAN_ERR_RXLOST) h_CAN_ERR (by decide), State.w_setFM (r := R.CAN_RXRING) h_CAN_RXRING (by decide), State.w_setF (fl := Fl.CAN_RXSTAT_COUNT) h_CAN_RXSTAT (by decide), State.w_satF (fl := Fl.CAN_ERR_RXLOST) h_CAN_ERR (by decide), State.w_satFM (r := R.CAN_RXRING) h_CAN_RXRING (by decide), State.w_satF (fl := Fl.CAN_RXSTAT_COUNT) h_CAN_RXSTAT (by decide), State.w_setReg (r := R.CAN_RXRING) h_CAN_RXRING (by decide), State.without_upd_cans c_cans, State.without_upd_drawn c_drawn, canAccept_writes (P := P) c_drawn, canCause_writes (P := P) h_CAN_STAT h_EVT_PEND, State.setCan_writes (P := P) h_CAN_TXEVA h_CAN_TXEVB h_CAN_TXSTAT c_cans, State.without_ite, ite_self])

include h_CAN_CTL h_CAN_NBT h_CAN_STAT h_CAN_TXEVA h_CAN_TXEVB h_CAN_TXSTAT h_EVT_PEND c_cans in
theorem canAdopt_writes (n : Nat) (s : State) :
    (canAdopt n s).without P = s.without P := by
  unfold canAdopt
  (repeat' split) <;> simp only [State.w_setF (fl := Fl.CAN_CTL_MODE) h_CAN_CTL (by decide),
      State.w_setFM (r := R.CAN_NBT) h_CAN_NBT (by decide), State.w_setReg (r := R.CAN_NBT) h_CAN_NBT (by decide),
      State.without_upd_cans c_cans,
      canNext_writes (P := P) h_CAN_STAT h_CAN_TXEVA h_CAN_TXEVB h_CAN_TXSTAT h_EVT_PEND c_cans,
      canCause_writes (P := P) h_CAN_STAT h_EVT_PEND,
      State.setCan_writes (P := P) h_CAN_TXEVA h_CAN_TXEVB h_CAN_TXSTAT c_cans, State.without_ite, ite_self]

include h_CAN_CTL h_CAN_ERR h_CAN_NBT h_CAN_RXRING h_CAN_RXSTAT h_CAN_STAT h_CAN_TXEVA h_CAN_TXEVB h_CAN_TXSTAT
    h_EVT_PEND c_cans c_drawn in
theorem canReceive_writes (n : Nat) (x : CanFrame) (s : State) :
    (canReceive n x s).without P = s.without P := by
  unfold canReceive
  simp only [State.without_upd_cans c_cans, State.without_upd_drawn c_drawn, State.draw_writes (P := P) c_drawn,
      canCounters_writes (P := P) h_CAN_ERR h_CAN_STAT h_CAN_TXEVA h_CAN_TXEVB h_CAN_TXSTAT h_EVT_PEND c_cans,
      canStore_writes (P := P) h_CAN_ERR h_CAN_RXRING h_CAN_RXSTAT h_CAN_STAT h_CAN_TXEVA h_CAN_TXEVB h_CAN_TXSTAT h_EVT_PEND c_cans c_drawn, canAdopt_writes (P := P) h_CAN_CTL h_CAN_NBT h_CAN_STAT h_CAN_TXEVA h_CAN_TXEVB h_CAN_TXSTAT h_EVT_PEND c_cans, State.without_ite, ite_self]

include h_CAN_STAT h_CAN_TDC h_EVT_PEND c_drawn in
theorem canTdc_writes (n : Nat) (x : CanFrame) (s : State) :
    (canTdc n x s).without P = s.without P := by
  unfold canTdc
  simp only [State.w_setF (fl := Fl.CAN_TDC_TDCV) h_CAN_TDC (by decide), State.without_upd_drawn c_drawn,
      State.draw_writes (P := P) c_drawn, canSub_writes (P := P) h_CAN_STAT h_EVT_PEND, State.without_when_if,
      State.without_ite, ite_self]

include h_CAN_ERR h_CAN_RXRING h_CAN_RXSTAT h_CAN_STAT h_CAN_TDC h_CAN_TXEVA h_CAN_TXEVB h_CAN_TXSTAT h_EVT_PEND
    c_cans c_drawn in
theorem canTxEnd_writes (n : Nat) (r : CanTxResult) (s : State) :
    (canTxEnd n r s).without P = s.without P := by
  unfold canTxEnd
  (repeat' split) <;> simp only [State.w_setF (fl := Fl.CAN_STAT_LEC) h_CAN_STAT (by decide),
      State.without_upd_cans c_cans, State.without_upd_drawn c_drawn,
      State.setCan_writes (P := P) h_CAN_TXEVA h_CAN_TXEVB h_CAN_TXSTAT c_cans,
      canTdc_writes (P := P) h_CAN_STAT h_CAN_TDC h_EVT_PEND c_drawn,
      canPop_writes (P := P) h_CAN_STAT h_CAN_TXEVA h_CAN_TXEVB h_CAN_TXSTAT h_EVT_PEND c_cans c_drawn,
      canCounters_writes (P := P) h_CAN_ERR h_CAN_STAT h_CAN_TXEVA h_CAN_TXEVB h_CAN_TXSTAT h_EVT_PEND c_cans,
      canNext_writes (P := P) h_CAN_STAT h_CAN_TXEVA h_CAN_TXEVB h_CAN_TXSTAT h_EVT_PEND c_cans,
      canStore_writes (P := P) h_CAN_ERR h_CAN_RXRING h_CAN_RXSTAT h_CAN_STAT h_CAN_TXEVA h_CAN_TXEVB h_CAN_TXSTAT h_EVT_PEND c_cans c_drawn, State.without_when_if, State.without_ite, ite_self]

include h_CAN_ERR h_CAN_STAT h_CAN_TXEVA h_CAN_TXEVB h_CAN_TXSTAT h_EVT_PEND c_cans in
theorem canRecovered_writes (n : Nat) (s : State) :
    (canRecovered n s).without P = s.without P := by
  unfold canRecovered
  simp only [State.w_setF (fl := Fl.CAN_STAT_FCS) h_CAN_STAT (by decide),
      State.w_setF (fl := Fl.CAN_ERR_REC) h_CAN_ERR (by decide),
      State.w_setF (fl := Fl.CAN_ERR_TEC) h_CAN_ERR (by decide), State.without_upd_cans c_cans,
      canNext_writes (P := P) h_CAN_STAT h_CAN_TXEVA h_CAN_TXEVB h_CAN_TXSTAT h_EVT_PEND c_cans,
      State.setCan_writes (P := P) h_CAN_TXEVA h_CAN_TXEVB h_CAN_TXSTAT c_cans, State.without_ite, ite_self]

include h_CAN_CTL h_CAN_NBT h_CAN_STAT h_CAN_TXEVA h_CAN_TXEVB h_CAN_TXSTAT h_EVT_PEND c_cans in
theorem abdWindowEnd_writes (n : Nat) (framesOk : Nat) (s : State) :
    (abdWindowEnd n framesOk s).without P = s.without P := by
  unfold abdWindowEnd
  (repeat' split) <;> simp only [State.w_setF (fl := Fl.CAN_CTL_MODE) h_CAN_CTL (by decide),
      State.w_setFM (r := R.CAN_NBT) h_CAN_NBT (by decide), State.w_setReg (r := R.CAN_NBT) h_CAN_NBT (by decide),
      State.without_upd_cans c_cans,
      canAdopt_writes (P := P) h_CAN_CTL h_CAN_NBT h_CAN_STAT h_CAN_TXEVA h_CAN_TXEVB h_CAN_TXSTAT h_EVT_PEND c_cans,
      State.setCan_writes (P := P) h_CAN_TXEVA h_CAN_TXEVB h_CAN_TXSTAT c_cans,
      canSub_writes (P := P) h_CAN_STAT h_EVT_PEND, State.without_ite, ite_self]

include h_SYS_PWRCTL h_SYS_PWRSTAT h_SYS_WAKESRC c_sys in
theorem canWake_writes (n : Nat) (s : State) :
    (canWake n s).without P = s.without P := by
  unfold canWake
  simp only [State.without_upd_sys c_sys, State.wake_writes (P := P) h_SYS_PWRCTL h_SYS_PWRSTAT h_SYS_WAKESRC c_sys,
      State.without_ite, ite_self]

include h_DKL_STAT h_EVT_PEND c_dkl in
theorem takeClass_writes (c : Nat) (s : State) :
    (takeClass c s).without P = s.without P := by
  unfold takeClass
  simp only [State.w_setF (fl := Fl.DKL_STAT_MCLASS) h_DKL_STAT (by decide), State.without_upd_dkl c_dkl,
      dklCause_writes (P := P) h_DKL_STAT h_EVT_PEND, State.without_ite, ite_self]

include h_DKL_TXEV h_DKL_TXSTAT c_dkl in
theorem queueAcks_writes (s : State) :
    (queueAcks s).without P = s.without P := by
  unfold queueAcks
  simp (disch := (intros; simp only [State.without_upd_dkl c_dkl, queueTx_writes (P := P) h_DKL_TXEV h_DKL_TXSTAT c_dkl, showDkl_writes (P := P) h_DKL_TXEV h_DKL_TXSTAT, State.setLink_writes (P := P) c_dkl, State.without_ite, ite_self]; done)) only [State.without_each, State.without_eachOf, State.without_upd_dkl c_dkl, queueTx_writes (P := P) h_DKL_TXEV h_DKL_TXSTAT c_dkl, showDkl_writes (P := P) h_DKL_TXEV h_DKL_TXSTAT, State.setLink_writes (P := P) c_dkl, State.without_ite, ite_self]

include h_DKL_TXMAPA h_DKL_TXMAPB in
theorem setTxMap_writes (n : Nat) (i : Nat) (m : List Nat) (s : State) :
    (setTxMap n i m s).without P = s.without P := by
  unfold setTxMap
  simp only [State.w_setReg (r := R.DKL_TXMAPB) h_DKL_TXMAPB (by decide),
      State.w_setReg (r := R.DKL_TXMAPA) h_DKL_TXMAPA (by decide), State.without_ite, ite_self]

include h_DKL_TXMAPA h_DKL_TXMAPB c_dkl in
theorem takeMaps_writes (s : State) :
    (takeMaps s).without P = s.without P := by
  unfold takeMaps
  refine State.without_each (fun n s => ?_) s 63
  split
  · rfl
  · rw [State.setLink_writes (P := P) c_dkl]
    exact State.without_eachOf (fun (e : Nat × List Nat) s => setTxMap_writes (P := P) h_DKL_TXMAPA h_DKL_TXMAPB n e.1 e.2 s) _ _

include h_DKL_TXEV h_DKL_TXMAPA h_DKL_TXMAPB h_DKL_TXSTAT c_dkl in
theorem halfCycle_writes (h : Nat) (s : State) :
    (halfCycle h s).without P = s.without P := by
  unfold halfCycle
  simp only [State.without_upd_dkl c_dkl, queueAcks_writes (P := P) h_DKL_TXEV h_DKL_TXSTAT c_dkl,
      takeMaps_writes (P := P) h_DKL_TXMAPA h_DKL_TXMAPB c_dkl, State.without_ite, ite_self]

include h_DKL_MAINS h_DKL_STAT h_DKL_TXEV h_DKL_TXMAPA h_DKL_TXMAPB h_DKL_TXSTAT h_EVT_PEND c_dkl in
theorem zeroCrossing_writes (rising : Bool) (s : State) :
    (zeroCrossing rising s).without P = s.without P := by
  unfold zeroCrossing
  (repeat' split) <;> simp only [State.w_setF (fl := Fl.DKL_MAINS_ZCERR) h_DKL_MAINS (by decide),
      State.w_setF (fl := Fl.DKL_MAINS_HALF) h_DKL_MAINS (by decide),
      State.w_setF (fl := Fl.DKL_STAT_HCNT) h_DKL_STAT (by decide),
      State.w_satF (fl := Fl.DKL_MAINS_ZCERR) h_DKL_MAINS (by decide),
      State.w_satF (fl := Fl.DKL_MAINS_HALF) h_DKL_MAINS (by decide),
      State.w_satF (fl := Fl.DKL_STAT_HCNT) h_DKL_STAT (by decide), State.without_upd_dkl c_dkl,
      dklOff_writes (P := P) h_DKL_STAT h_DKL_TXEV h_DKL_TXSTAT h_EVT_PEND c_dkl,
      takeClass_writes (P := P) h_DKL_STAT h_EVT_PEND c_dkl,
      halfCycle_writes (P := P) h_DKL_TXEV h_DKL_TXMAPA h_DKL_TXMAPB h_DKL_TXSTAT c_dkl, State.without_ite, ite_self]

include h_DKL_STAT h_DKL_TXEV h_DKL_TXSTAT h_EVT_PEND c_dkl in
theorem mainsLost_writes (s : State) :
    (mainsLost s).without P = s.without P := by
  unfold mainsLost
  simp only [State.without_upd_dkl c_dkl, takeClass_writes (P := P) h_DKL_STAT h_EVT_PEND c_dkl,
      dklOff_writes (P := P) h_DKL_STAT h_DKL_TXEV h_DKL_TXSTAT h_EVT_PEND c_dkl, State.without_ite, ite_self]

include h_DKL_STAT h_DKL_TXEV h_DKL_TXSTAT h_EVT_PEND c_dkl in
theorem slotStart_writes (i : Nat) (s : State) :
    (slotStart i s).without P = s.without P := by
  have h0 : ({ s with dkl.slot := i, dkl.line := none } : State).without P = s.without P := State.without_upd_dkl c_dkl s _
  unfold slotStart
  rw [← h0]
  generalize ({ s with dkl.slot := i, dkl.line := none } : State) = s
  dsimp only
  (repeat' split) <;> simp only [State.without_upd_dkl c_dkl,
      dklEvent_writes (P := P) h_DKL_STAT h_DKL_TXEV h_DKL_TXSTAT h_EVT_PEND c_dkl,
      dropTx_writes (P := P) h_DKL_TXEV h_DKL_TXSTAT c_dkl, showDkl_writes (P := P) h_DKL_TXEV h_DKL_TXSTAT,
      State.without_ite, ite_self]

include h_DKL_RXMAPA h_DKL_RXMAPB in
theorem setRxMap_writes (n : Nat) (i : Nat) (m : List Nat) (s : State) :
    (setRxMap n i m s).without P = s.without P := by
  unfold setRxMap
  simp only [State.w_setReg (r := R.DKL_RXMAPB) h_DKL_RXMAPB (by decide),
      State.w_setReg (r := R.DKL_RXMAPA) h_DKL_RXMAPA (by decide), State.without_ite, ite_self]

include h_DKL_RXMAPA h_DKL_RXMAPB h_DKL_STAT h_EVT_PEND c_dkl in
theorem segmentReceived_writes (src : Nat) (x : DklSegment) (s : State) :
    (segmentReceived src x s).without P = s.without P := by
  unfold segmentReceived
  simp only [State.without_upd_dkl c_dkl, State.setLink_writes (P := P) c_dkl,
      setRxMap_writes (P := P) h_DKL_RXMAPA h_DKL_RXMAPB, dklCause_writes (P := P) h_DKL_STAT h_EVT_PEND,
      State.without_ite, ite_self]

include c_dkl in
theorem oweAck_writes (n : Nat) (fseq : Nat) (s : State) :
    (oweAck n fseq s).without P = s.without P := by
  unfold oweAck
  simp only [State.without_upd_dkl c_dkl, State.without_ite, ite_self]

include h_DKL_RXRING h_DKL_RXSTAT h_DKL_STAT h_DKL_TXEV h_DKL_TXSTAT h_EVT_PEND c_dkl in
theorem dataFrame_writes (x : DklDataFrame) (s : State) :
    (dataFrame x s).without P = s.without P := by
  unfold dataFrame
  simp (disch := (intros; simp only [State.w_setFM (r := R.DKL_RXRING) h_DKL_RXRING (by decide), State.w_setF (fl := Fl.DKL_RXSTAT_COUNT) h_DKL_RXSTAT (by decide), State.w_setReg (r := R.DKL_RXRING) h_DKL_RXRING (by decide), State.without_upd_dkl c_dkl, oweAck_writes (P := P) c_dkl, State.setLink_writes (P := P) c_dkl, queueTx_writes (P := P) h_DKL_TXEV h_DKL_TXSTAT c_dkl, dklCause_writes (P := P) h_DKL_STAT h_EVT_PEND, State.without_ite, ite_self]; done)) only [State.without_each, State.without_eachOf, State.w_setFM (r := R.DKL_RXRING) h_DKL_RXRING (by decide), State.w_setF (fl := Fl.DKL_RXSTAT_COUNT) h_DKL_RXSTAT (by decide), State.w_setReg (r := R.DKL_RXRING) h_DKL_RXRING (by decide), State.without_upd_dkl c_dkl, oweAck_writes (P := P) c_dkl, State.setLink_writes (P := P) c_dkl, queueTx_writes (P := P) h_DKL_TXEV h_DKL_TXSTAT c_dkl, dklCause_writes (P := P) h_DKL_STAT h_EVT_PEND, State.without_ite, ite_self]

include h_DKL_NODEC c_dkl in
theorem takeRoute_writes (n : Nat) (r : List Nat) (q : Nat) (s : State) :
    (takeRoute n r q s).without P = s.without P := by
  unfold takeRoute
  simp only [State.w_setF (fl := Fl.DKL_NODEC_LQ) h_DKL_NODEC (by decide),
      State.w_setF (fl := Fl.DKL_NODEC_NEXT) h_DKL_NODEC (by decide), State.without_upd_dkl c_dkl,
      State.setLink_writes (P := P) c_dkl, State.without_ite, ite_self]

include h_DKL_NODEC in
theorem setNode_writes (n : Nat) (st : Nat) (s : State) :
    (setNode n st s).without P = s.without P := by
  unfold setNode
  simp only [State.w_setF (fl := Fl.DKL_NODEC_STATE) h_DKL_NODEC (by decide), State.without_ite, ite_self]

include h_DKL_NODEC h_DKL_STAT h_DKL_TXEV h_DKL_TXSTAT h_EVT_PEND c_dkl in
theorem reroute_writes (n : Nat) (s : State) :
    (reroute n s).without P = s.without P := by
  unfold reroute
  (try simp only [State.without_upd_dkl c_dkl, dklCause_writes (P := P) h_DKL_STAT h_EVT_PEND,
      takeRoute_writes (P := P) h_DKL_NODEC c_dkl,
      failTx_writes (P := P) h_DKL_STAT h_DKL_TXEV h_DKL_TXSTAT h_EVT_PEND c_dkl,
      setNode_writes (P := P) h_DKL_NODEC, State.without_ite,
      ite_self]) <;> (repeat' split) <;> simp only [State.without_upd_dkl c_dkl,
      dklCause_writes (P := P) h_DKL_STAT h_EVT_PEND, takeRoute_writes (P := P) h_DKL_NODEC c_dkl,
      failTx_writes (P := P) h_DKL_STAT h_DKL_TXEV h_DKL_TXSTAT h_EVT_PEND c_dkl,
      setNode_writes (P := P) h_DKL_NODEC, State.without_ite, ite_self]

include h_DKL_NODEC h_DKL_STAT h_DKL_TXEV h_DKL_TXSTAT h_EVT_PEND c_dkl in
theorem rerouteAll_writes (s : State) :
    (rerouteAll s).without P = s.without P := by
  unfold rerouteAll
  simp (disch := (intros; simp only [State.without_upd_dkl c_dkl, reroute_writes (P := P) h_DKL_NODEC h_DKL_STAT h_DKL_TXEV h_DKL_TXSTAT h_EVT_PEND c_dkl, State.without_ite, ite_self]; done)) only [State.without_each, State.without_eachOf, State.without_upd_dkl c_dkl, reroute_writes (P := P) h_DKL_NODEC h_DKL_STAT h_DKL_TXEV h_DKL_TXSTAT h_EVT_PEND c_dkl, State.without_ite, ite_self]

include h_DKL_NODEC h_DKL_STAT h_DKL_TXEV h_DKL_TXSTAT h_EVT_PEND c_dkl in
theorem txFailed_writes (x : DklTx) (s : State) :
    (txFailed x s).without P = s.without P := by
  unfold txFailed
  simp only [State.without_upd_dkl c_dkl,
      dklEvent_writes (P := P) h_DKL_STAT h_DKL_TXEV h_DKL_TXSTAT h_EVT_PEND c_dkl,
      dropTx_writes (P := P) h_DKL_TXEV h_DKL_TXSTAT c_dkl,
      rerouteAll_writes (P := P) h_DKL_NODEC h_DKL_STAT h_DKL_TXEV h_DKL_TXSTAT h_EVT_PEND c_dkl,
      State.setLink_writes (P := P) c_dkl, State.without_ite, ite_self]

include h_DKL_NODEC h_DKL_STAT h_DKL_TXEV h_DKL_TXSTAT h_EVT_PEND c_dkl in
theorem txDone_writes (x : DklTx) (s : State) :
    (txDone x s).without P = s.without P := by
  unfold txDone
  simp only [State.without_upd_dkl c_dkl,
      dklEvent_writes (P := P) h_DKL_STAT h_DKL_TXEV h_DKL_TXSTAT h_EVT_PEND c_dkl,
      dropTx_writes (P := P) h_DKL_TXEV h_DKL_TXSTAT c_dkl,
      reroute_writes (P := P) h_DKL_NODEC h_DKL_STAT h_DKL_TXEV h_DKL_TXSTAT h_EVT_PEND c_dkl,
      queueOwn_writes (P := P) h_DKL_TXEV h_DKL_TXSTAT c_dkl, State.setLink_writes (P := P) c_dkl,
      setNode_writes (P := P) h_DKL_NODEC, State.without_ite, ite_self]

include h_DKL_NODEC h_DKL_STAT h_DKL_TXEV h_DKL_TXSTAT h_EVT_PEND c_dkl in
theorem repeatUnits_writes (x : DklTx) (y : DklTx) (s : State) :
    (repeatUnits x y s).without P = s.without P := by
  unfold repeatUnits
  simp only [State.without_upd_dkl c_dkl,
      txFailed_writes (P := P) h_DKL_NODEC h_DKL_STAT h_DKL_TXEV h_DKL_TXSTAT h_EVT_PEND c_dkl,
      txDone_writes (P := P) h_DKL_NODEC h_DKL_STAT h_DKL_TXEV h_DKL_TXSTAT h_EVT_PEND c_dkl, State.without_ite,
      ite_self]

include h_DKL_NODEC h_DKL_STAT h_DKL_TXEV h_DKL_TXSTAT h_EVT_PEND c_dkl in
theorem dklAck_writes (src : Nat) (frame : Nat) (bitmap : List Bool) (degraded : Option (Prod Nat (List Nat))) (s :
    State) :
    (dklAck src frame bitmap degraded s).without P = s.without P := by
  unfold dklAck
  (try simp only [State.without_upd_dkl c_dkl, queueOwn_writes (P := P) h_DKL_TXEV h_DKL_TXSTAT c_dkl,
      State.setLink_writes (P := P) c_dkl,
      repeatUnits_writes (P := P) h_DKL_NODEC h_DKL_STAT h_DKL_TXEV h_DKL_TXSTAT h_EVT_PEND c_dkl, State.without_ite,
      ite_self]) <;> (repeat' split) <;> simp only [State.without_upd_dkl c_dkl,
      queueOwn_writes (P := P) h_DKL_TXEV h_DKL_TXSTAT c_dkl, State.setLink_writes (P := P) c_dkl,
      repeatUnits_writes (P := P) h_DKL_NODEC h_DKL_STAT h_DKL_TXEV h_DKL_TXSTAT h_EVT_PEND c_dkl, State.without_ite,
      ite_self]

include h_DKL_NODEC h_DKL_RXMAPA h_DKL_RXMAPB h_DKL_STAT h_DKL_TXEV h_DKL_TXSTAT h_EVT_PEND c_dkl in
theorem soundFrame_writes (src : Nat) (snr : List (List Nat)) (s : State) :
    (soundFrame src snr s).without P = s.without P := by
  unfold soundFrame
  simp (disch := (intros; simp only [State.without_upd_dkl c_dkl, setRxMap_writes (P := P) h_DKL_RXMAPA h_DKL_RXMAPB, reroute_writes (P := P) h_DKL_NODEC h_DKL_STAT h_DKL_TXEV h_DKL_TXSTAT h_EVT_PEND c_dkl, queueTx_writes (P := P) h_DKL_TXEV h_DKL_TXSTAT c_dkl, State.without_ite, ite_self]; done)) only [State.without_each, State.without_eachOf, State.without_upd_dkl c_dkl, setRxMap_writes (P := P) h_DKL_RXMAPA h_DKL_RXMAPB, reroute_writes (P := P) h_DKL_NODEC h_DKL_STAT h_DKL_TXEV h_DKL_TXSTAT h_EVT_PEND c_dkl, queueTx_writes (P := P) h_DKL_TXEV h_DKL_TXSTAT c_dkl, State.without_ite, ite_self]

include c_dkl in
theorem mapFrame_writes (src : Nat) (maps : List (List Nat)) (s : State) :
    (mapFrame src maps s).without P = s.without P := by
  unfold mapFrame
  simp only [State.without_upd_dkl c_dkl, State.setLink_writes (P := P) c_dkl, State.without_ite, ite_self]

include h_DKL_NODEA h_DKL_NODEB h_DKL_NODEC h_DKL_NODED h_DKL_STAT h_DKL_TXEV h_DKL_TXSTAT h_EVT_PEND c_dkl in
theorem freeNode_writes (n : Nat) (s : State) :
    (freeNode n s).without P = s.without P := by
  unfold freeNode
  simp only [State.w_setReg (r := R.DKL_NODED) h_DKL_NODED (by decide),
      State.w_setReg (r := R.DKL_NODEC) h_DKL_NODEC (by decide),
      State.w_setReg (r := R.DKL_NODEB) h_DKL_NODEB (by decide),
      State.w_setReg (r := R.DKL_NODEA) h_DKL_NODEA (by decide), State.without_upd_dkl c_dkl,
      failTx_writes (P := P) h_DKL_STAT h_DKL_TXEV h_DKL_TXSTAT h_EVT_PEND c_dkl,
      State.setLink_writes (P := P) c_dkl, State.without_ite, ite_self]

include h_DKL_NODEA h_DKL_NODEB h_DKL_NODEC h_DKL_NODED h_DKL_STAT h_DKL_TXEV h_DKL_TXSTAT h_EVT_PEND c_dkl in
theorem joinFrame_writes (id : Nat) (previous : Nat) (delta : Nat) (s : State) :
    (joinFrame id previous delta s).without P = s.without P := by
  unfold joinFrame
  (try simp only [State.w_setF (fl := Fl.DKL_STAT_JOINFULL) h_DKL_STAT (by decide),
      State.w_setF (fl := Fl.DKL_NODEC_NEXT) h_DKL_NODEC (by decide),
      State.w_setF (fl := Fl.DKL_NODED_DELTA) h_DKL_NODED (by decide),
      State.w_setF (fl := Fl.DKL_NODEC_PHASE) h_DKL_NODEC (by decide),
      State.w_setFM (r := R.DKL_NODEA) h_DKL_NODEA (by decide),
      State.w_setFM (r := R.DKL_NODEB) h_DKL_NODEB (by decide),
      State.w_satF (fl := Fl.DKL_STAT_JOINFULL) h_DKL_STAT (by decide),
      State.w_satF (fl := Fl.DKL_NODEC_NEXT) h_DKL_NODEC (by decide),
      State.w_satF (fl := Fl.DKL_NODED_DELTA) h_DKL_NODED (by decide),
      State.w_satF (fl := Fl.DKL_NODEC_PHASE) h_DKL_NODEC (by decide),
      State.w_satFM (r := R.DKL_NODEA) h_DKL_NODEA (by decide),
      State.w_satFM (r := R.DKL_NODEB) h_DKL_NODEB (by decide),
      State.w_setQ (lo := R.DKL_NODEA) (hi := R.DKL_NODEB) h_DKL_NODEA h_DKL_NODEB (by decide) (by decide),
      State.without_upd_dkl c_dkl, setNode_writes (P := P) h_DKL_NODEC,
      freeNode_writes (P := P) h_DKL_NODEA h_DKL_NODEB h_DKL_NODEC h_DKL_NODED h_DKL_STAT h_DKL_TXEV h_DKL_TXSTAT h_EVT_PEND c_dkl, dklCause_writes (P := P) h_DKL_STAT h_EVT_PEND, assign_writes (P := P) h_DKL_TXEV h_DKL_TXSTAT c_dkl, State.without_when_if, State.without_ite, ite_self]) <;> (repeat' split) <;> simp only [State.w_setF (fl := Fl.DKL_STAT_JOINFULL) h_DKL_STAT (by decide), State.w_setF (fl := Fl.DKL_NODEC_NEXT) h_DKL_NODEC (by decide), State.w_setF (fl := Fl.DKL_NODED_DELTA) h_DKL_NODED (by decide), State.w_setF (fl := Fl.DKL_NODEC_PHASE) h_DKL_NODEC (by decide), State.w_setFM (r := R.DKL_NODEA) h_DKL_NODEA (by decide), State.w_setFM (r := R.DKL_NODEB) h_DKL_NODEB (by decide), State.w_satF (fl := Fl.DKL_STAT_JOINFULL) h_DKL_STAT (by decide), State.w_satF (fl := Fl.DKL_NODEC_NEXT) h_DKL_NODEC (by decide), State.w_satF (fl := Fl.DKL_NODED_DELTA) h_DKL_NODED (by decide), State.w_satF (fl := Fl.DKL_NODEC_PHASE) h_DKL_NODEC (by decide), State.w_satFM (r := R.DKL_NODEA) h_DKL_NODEA (by decide), State.w_satFM (r := R.DKL_NODEB) h_DKL_NODEB (by decide), State.w_setQ (lo := R.DKL_NODEA) (hi := R.DKL_NODEB) h_DKL_NODEA h_DKL_NODEB (by decide) (by decide), State.without_upd_dkl c_dkl, setNode_writes (P := P) h_DKL_NODEC, freeNode_writes (P := P) h_DKL_NODEA h_DKL_NODEB h_DKL_NODEC h_DKL_NODED h_DKL_STAT h_DKL_TXEV h_DKL_TXSTAT h_EVT_PEND c_dkl, dklCause_writes (P := P) h_DKL_STAT h_EVT_PEND, assign_writes (P := P) h_DKL_TXEV h_DKL_TXSTAT c_dkl, State.without_when_if, State.without_ite, ite_self]

include h_DKL_NODEC h_DKL_STAT h_DKL_TXEV h_DKL_TXSTAT h_EVT_PEND c_dkl in
theorem neighFrame_writes (src : Nat) (l : List (Prod Nat Nat)) (s : State) :
    (neighFrame src l s).without P = s.without P := by
  unfold neighFrame
  simp only [State.without_upd_dkl c_dkl,
      rerouteAll_writes (P := P) h_DKL_NODEC h_DKL_STAT h_DKL_TXEV h_DKL_TXSTAT h_EVT_PEND c_dkl,
      State.setLink_writes (P := P) c_dkl, State.without_ite, ite_self]

include h_DKL_NODEC h_DKL_STAT h_DKL_TXEV h_DKL_TXSTAT h_EVT_PEND c_dkl in
theorem ackTimeout_writes (n : Nat) (s : State) :
    (ackTimeout n s).without P = s.without P := by
  unfold ackTimeout
  (repeat' split) <;> simp only [State.without_upd_dkl c_dkl,
      repeatUnits_writes (P := P) h_DKL_NODEC h_DKL_STAT h_DKL_TXEV h_DKL_TXSTAT h_EVT_PEND c_dkl, State.without_ite,
      ite_self]

include h_DKL_NODEA h_DKL_NODEB h_DKL_NODEC h_DKL_NODED h_DKL_STAT h_DKL_TXEV h_DKL_TXSTAT h_EVT_PEND c_dkl in
theorem joinTimeout_writes (n : Nat) (s : State) :
    (joinTimeout n s).without P = s.without P := by
  unfold joinTimeout
  simp only [State.without_upd_dkl c_dkl,
      freeNode_writes (P := P) h_DKL_NODEA h_DKL_NODEB h_DKL_NODEC h_DKL_NODED h_DKL_STAT h_DKL_TXEV h_DKL_TXSTAT h_EVT_PEND c_dkl, State.without_ite, ite_self]

include h_DKL_TXEV h_DKL_TXSTAT c_dkl in
theorem soundingDue_writes (n : Nat) (s : State) :
    (soundingDue n s).without P = s.without P := by
  unfold soundingDue
  simp only [State.without_upd_dkl c_dkl, queueOwn_writes (P := P) h_DKL_TXEV h_DKL_TXSTAT c_dkl, State.without_ite,
      ite_self]

include h_HST_OPSTEPS in
theorem putSteps_writes (k : Nat) (d : Nat) (t : Nat) (s : State) :
    (putSteps k d t s).without P = s.without P := by
  unfold putSteps
  simp only [State.w_setF (fl := Fl.HST_OPSTEPS_TOTAL) h_HST_OPSTEPS (by decide),
      State.w_setF (fl := Fl.HST_OPSTEPS_DONE) h_HST_OPSTEPS (by decide), State.without_ite, ite_self]

include h_EVT_PEND h_HST_OPSTAT h_HST_OPSTEPS h_HST_QSTAT h_HST_SQHEAD h_HST_STAT c_host in
theorem descriptorFetch.fetch_writes (q : Nat) (k : Nat) (s : State) :
    (descriptorFetch.fetch q k s).without P = s.without P := by
  unfold descriptorFetch.fetch
  (try simp only [State.w_setF (fl := Fl.HST_SQHEAD_HEAD) h_HST_SQHEAD (by decide), State.without_upd_host c_host,
      putSteps_writes (P := P) h_HST_OPSTEPS, putOp_writes (P := P) h_HST_OPSTAT h_HST_QSTAT h_HST_STAT c_host,
      endOp_writes (P := P) h_EVT_PEND h_HST_OPSTAT h_HST_QSTAT h_HST_STAT c_host, State.without_ite,
      ite_self]) <;> (repeat' split) <;> simp only [State.w_setF (fl := Fl.HST_SQHEAD_HEAD) h_HST_SQHEAD (by decide),
      State.without_upd_host c_host, putSteps_writes (P := P) h_HST_OPSTEPS,
      putOp_writes (P := P) h_HST_OPSTAT h_HST_QSTAT h_HST_STAT c_host,
      endOp_writes (P := P) h_EVT_PEND h_HST_OPSTAT h_HST_QSTAT h_HST_STAT c_host, State.without_ite, ite_self]

include h_EVT_PEND h_HST_OPSTAT h_HST_OPSTEPS h_HST_QSTAT h_HST_SQHEAD h_HST_STAT c_host in
theorem descriptorFetch_writes (s : State) :
    (descriptorFetch s).without P = s.without P := by
  unfold descriptorFetch
  (repeat' split) <;> simp only [State.without_upd_host c_host,
      descriptorFetch.fetch_writes (P := P) h_EVT_PEND h_HST_OPSTAT h_HST_OPSTEPS h_HST_QSTAT h_HST_SQHEAD h_HST_STAT c_host, putSteps_writes (P := P) h_HST_OPSTEPS, putOp_writes (P := P) h_HST_OPSTAT h_HST_QSTAT h_HST_STAT c_host, endOp_writes (P := P) h_EVT_PEND h_HST_OPSTAT h_HST_QSTAT h_HST_STAT c_host, State.without_ite, ite_self]

theorem onOp_writes (k op : Nat) (f : HostOp → State → State) (hf : ∀ o s, (f o s).without P = s.without P) (s :
    State) :
    (onOp k op f s).without P = s.without P := by
  unfold onOp
  (repeat' split) <;> simp only [hf]

include h_EVT_PEND h_HST_OPSTAT h_HST_QSTAT h_HST_STAT c_host in
theorem opNop_writes (k : Nat) (s : State) :
    (opNop k s).without P = s.without P := by
  unfold opNop
  simp (disch := (intros; simp only [State.without_upd_host c_host, onOp_writes (P := P), endOp_writes (P := P) h_EVT_PEND h_HST_OPSTAT h_HST_QSTAT h_HST_STAT c_host, State.without_ite, ite_self]; done)) only [State.without_each, State.without_eachOf, State.without_upd_host c_host, onOp_writes (P := P), endOp_writes (P := P) h_EVT_PEND h_HST_OPSTAT h_HST_QSTAT h_HST_STAT c_host, State.without_ite, ite_self]

include c_drawn in
theorem readPayload_writes (o : HostOp) (a : Nat) (n : Nat) (s : State) :
    (readPayload o a n s).2.without P = s.without P := by
  unfold readPayload
  (repeat' split) <;> simp only [State.without_upd_drawn c_drawn, State.draw_writes (P := P) c_drawn,
      State.without_ite, ite_self]

include h_HST_OPSTEPS c_drawn in
theorem cryptoSteps_writes (k : Nat) (s : State) :
    (cryptoSteps k s).without P = s.without P := by
  unfold cryptoSteps
  simp only [State.without_upd_drawn c_drawn, State.draw_writes (P := P) c_drawn,
      putSteps_writes (P := P) h_HST_OPSTEPS, State.without_ite, ite_self]

include h_EVT_PEND h_HST_OPSTAT h_HST_OPSTEPS h_HST_QSTAT h_HST_STAT c_drawn c_host c_sto c_sys in
theorem opInstall_writes (k : Nat) (s : State) :
    (opInstall k s).without P = s.without P := by
  unfold opInstall
  simp (disch := (intros; simp only [State.without_upd_drawn c_drawn, State.without_upd_host c_host, State.without_upd_sto c_sto, State.without_upd_sys c_sys, onOp_writes (P := P), endOp_writes (P := P) h_EVT_PEND h_HST_OPSTAT h_HST_QSTAT h_HST_STAT c_host, setImgSlot_writes (P := P) c_sys, readPayload_writes (P := P) c_drawn, cryptoSteps_writes (P := P) h_HST_OPSTEPS c_drawn, writeSlot_writes (P := P) c_sto c_sys, State.without_ite, ite_self]; done)) only [State.without_each, State.without_eachOf, State.without_upd_drawn c_drawn, State.without_upd_host c_host, State.without_upd_sto c_sto, State.without_upd_sys c_sys, onOp_writes (P := P), endOp_writes (P := P) h_EVT_PEND h_HST_OPSTAT h_HST_QSTAT h_HST_STAT c_host, setImgSlot_writes (P := P) c_sys, readPayload_writes (P := P) c_drawn, cryptoSteps_writes (P := P) h_HST_OPSTEPS c_drawn, writeSlot_writes (P := P) c_sto c_sys, State.without_ite, ite_self]

include h_HST_OPSTEPS c_host in
theorem joinStorage_writes (k : Nat) (steps : Nat) (s : State) :
    (joinStorage k steps s).without P = s.without P := by
  unfold joinStorage
  simp only [State.without_upd_host c_host, putSteps_writes (P := P) h_HST_OPSTEPS, State.without_ite, ite_self]

include h_EVT_PEND h_HST_OPSTAT h_HST_OPSTEPS h_HST_QSTAT h_HST_STAT c_host in
theorem opExport_writes (k : Nat) (s : State) :
    (opExport k s).without P = s.without P := by
  unfold opExport
  simp (disch := (intros; simp only [State.without_upd_host c_host, onOp_writes (P := P), endOp_writes (P := P) h_EVT_PEND h_HST_OPSTAT h_HST_QSTAT h_HST_STAT c_host, joinStorage_writes (P := P) h_HST_OPSTEPS c_host, putOp_writes (P := P) h_HST_OPSTAT h_HST_QSTAT h_HST_STAT c_host, State.without_ite, ite_self]; done)) only [State.without_each, State.without_eachOf, State.without_upd_host c_host, onOp_writes (P := P), endOp_writes (P := P) h_EVT_PEND h_HST_OPSTAT h_HST_QSTAT h_HST_STAT c_host, joinStorage_writes (P := P) h_HST_OPSTEPS c_host, putOp_writes (P := P) h_HST_OPSTAT h_HST_QSTAT h_HST_STAT c_host, State.without_ite, ite_self]

include h_EVT_PEND h_HST_OPSTAT h_HST_OPSTEPS h_HST_QSTAT h_HST_STAT c_host in
theorem opCompact_writes (k : Nat) (s : State) :
    (opCompact k s).without P = s.without P := by
  unfold opCompact
  simp (disch := (intros; simp only [State.without_upd_host c_host, onOp_writes (P := P), endOp_writes (P := P) h_EVT_PEND h_HST_OPSTAT h_HST_QSTAT h_HST_STAT c_host, joinStorage_writes (P := P) h_HST_OPSTEPS c_host, putOp_writes (P := P) h_HST_OPSTAT h_HST_QSTAT h_HST_STAT c_host, State.without_ite, ite_self]; done)) only [State.without_each, State.without_eachOf, State.without_upd_host c_host, onOp_writes (P := P), endOp_writes (P := P) h_EVT_PEND h_HST_OPSTAT h_HST_QSTAT h_HST_STAT c_host, joinStorage_writes (P := P) h_HST_OPSTEPS c_host, putOp_writes (P := P) h_HST_OPSTAT h_HST_QSTAT h_HST_STAT c_host, State.without_ite, ite_self]

include h_EVT_PEND h_HST_OPSTAT h_HST_OPSTEPS h_HST_QSTAT h_HST_STAT c_drawn c_host c_sig in
theorem opKeygen_writes (k : Nat) (s : State) :
    (opKeygen k s).without P = s.without P := by
  unfold opKeygen
  simp (disch := (intros; simp only [State.without_upd_drawn c_drawn, State.without_upd_host c_host, State.without_upd_sig c_sig, onOp_writes (P := P), endOp_writes (P := P) h_EVT_PEND h_HST_OPSTAT h_HST_QSTAT h_HST_STAT c_host, spendGen_writes (P := P) c_sig, keygen_writes (P := P) c_sig, cryptoSteps_writes (P := P) h_HST_OPSTEPS c_drawn, State.without_ite, ite_self]; done)) only [State.without_each, State.without_eachOf, State.without_upd_drawn c_drawn, State.without_upd_host c_host, State.without_upd_sig c_sig, onOp_writes (P := P), endOp_writes (P := P) h_EVT_PEND h_HST_OPSTAT h_HST_QSTAT h_HST_STAT c_host, spendGen_writes (P := P) c_sig, keygen_writes (P := P) c_sig, cryptoSteps_writes (P := P) h_HST_OPSTEPS c_drawn, State.without_ite, ite_self]

include c_harts c_host c_mem in
theorem writePayload_writes (o : HostOp) (a : Nat) (l : List Byte) (s : State) :
    (writePayload o a l s).without P = s.without P := by
  unfold writePayload
  simp only [State.without_upd_harts c_harts, State.without_upd_host c_host, State.without_upd_mem c_mem,
      State.dma_writes (P := P) c_harts c_mem, State.without_ite, ite_self]

include h_EVT_PEND h_HST_OPSTAT h_HST_OPSTEPS h_HST_QSTAT h_HST_STAT h_SIG_STAT c_drawn c_harts c_host c_mem c_sig in
theorem opAttest_writes (k : Nat) (s : State) :
    (opAttest k s).without P = s.without P := by
  unfold opAttest
  simp (disch := (intros; (repeat' split) <;> simp only [State.without_upd_drawn c_drawn, State.without_upd_harts c_harts, State.without_upd_host c_host, State.without_upd_mem c_mem, State.without_upd_sig c_sig, onOp_writes (P := P), endOp_writes (P := P) h_EVT_PEND h_HST_OPSTAT h_HST_QSTAT h_HST_STAT c_host, writePayload_writes (P := P) c_harts c_host c_mem, cryptoSteps_writes (P := P) h_HST_OPSTEPS c_drawn, attest_writes (P := P) h_EVT_PEND h_SIG_STAT c_sig, putOp_writes (P := P) h_HST_OPSTAT h_HST_QSTAT h_HST_STAT c_host, State.without_ite, ite_self]; done)) only [State.without_each, State.without_eachOf, State.without_upd_drawn c_drawn, State.without_upd_harts c_harts, State.without_upd_host c_host, State.without_upd_mem c_mem, State.without_upd_sig c_sig, onOp_writes (P := P), endOp_writes (P := P) h_EVT_PEND h_HST_OPSTAT h_HST_QSTAT h_HST_STAT c_host, writePayload_writes (P := P) c_harts c_host c_mem, cryptoSteps_writes (P := P) h_HST_OPSTEPS c_drawn, attest_writes (P := P) h_EVT_PEND h_SIG_STAT c_sig, putOp_writes (P := P) h_HST_OPSTAT h_HST_QSTAT h_HST_STAT c_host, State.without_ite, ite_self]

include h_EVT_PEND h_HST_CQHEAD h_HST_CQMEM h_HST_CQTAIL h_HST_OPSTAT h_HST_OPSTEPS h_HST_QSTAT h_HST_SQHEAD
    h_HST_SQTAIL h_HST_STAT c_host c_sig in
theorem messageEnd_writes (k : Nat) (status : Nat) (s : State) :
    (messageEnd k status s).without P = s.without P := by
  unfold messageEnd
  (repeat' split) <;> simp only [State.without_upd_host c_host, State.without_upd_sig c_sig,
      completeNow_writes (P := P) h_EVT_PEND h_HST_CQHEAD h_HST_CQMEM h_HST_CQTAIL h_HST_OPSTAT h_HST_OPSTEPS h_HST_QSTAT h_HST_SQHEAD h_HST_SQTAIL h_HST_STAT c_host c_sig, State.without_ite, ite_self]

include h_EVT_PEND h_HST_CQHEAD h_HST_CQMEM h_HST_CQTAIL h_HST_OPSTAT h_HST_OPSTEPS h_HST_QSTAT h_HST_SQHEAD
    h_HST_SQTAIL h_HST_STAT c_host c_sig in
theorem opAbort_writes (k : Nat) (s : State) :
    (opAbort k s).without P = s.without P := by
  unfold opAbort
  simp (disch := (intros; (repeat' split) <;> simp only [State.without_upd_host c_host, State.without_upd_sig c_sig, onOp_writes (P := P), endOp_writes (P := P) h_EVT_PEND h_HST_OPSTAT h_HST_QSTAT h_HST_STAT c_host, messageEnd_writes (P := P) h_EVT_PEND h_HST_CQHEAD h_HST_CQMEM h_HST_CQTAIL h_HST_OPSTAT h_HST_OPSTEPS h_HST_QSTAT h_HST_SQHEAD h_HST_SQTAIL h_HST_STAT c_host c_sig, putOp_writes (P := P) h_HST_OPSTAT h_HST_QSTAT h_HST_STAT c_host, State.without_ite, ite_self]; done)) only [State.without_each, State.without_eachOf, State.without_upd_host c_host, State.without_upd_sig c_sig, onOp_writes (P := P), endOp_writes (P := P) h_EVT_PEND h_HST_OPSTAT h_HST_QSTAT h_HST_STAT c_host, messageEnd_writes (P := P) h_EVT_PEND h_HST_CQHEAD h_HST_CQMEM h_HST_CQTAIL h_HST_OPSTAT h_HST_OPSTEPS h_HST_QSTAT h_HST_SQHEAD h_HST_SQTAIL h_HST_STAT c_host c_sig, putOp_writes (P := P) h_HST_OPSTAT h_HST_QSTAT h_HST_STAT c_host, State.without_ite, ite_self]

include h_EVT_PEND h_HST_OPSTAT h_HST_QSTAT h_HST_STAT h_SYS_BOOTSTAT c_host c_images c_sys in
theorem opBoot_writes (k : Nat) (s : State) :
    (opBoot k s).without P = s.without P := by
  unfold opBoot
  simp (disch := (intros; simp only [State.w_setB (fl := Fl.SYS_BOOTSTAT_HOLD) h_SYS_BOOTSTAT (by decide), State.without_raise h_EVT_PEND, State.without_upd_sys_images c_sys c_images, State.without_upd_host c_host, State.without_upd_images c_images, State.without_upd_sys c_sys, onOp_writes (P := P), endOp_writes (P := P) h_EVT_PEND h_HST_OPSTAT h_HST_QSTAT h_HST_STAT c_host, State.without_ite, ite_self]; done)) only [State.without_each, State.without_eachOf, State.w_setB (fl := Fl.SYS_BOOTSTAT_HOLD) h_SYS_BOOTSTAT (by decide), State.without_raise h_EVT_PEND, State.without_upd_sys_images c_sys c_images, State.without_upd_host c_host, State.without_upd_images c_images, State.without_upd_sys c_sys, onOp_writes (P := P), endOp_writes (P := P) h_EVT_PEND h_HST_OPSTAT h_HST_QSTAT h_HST_STAT c_host, State.without_ite, ite_self]

include h_EVT_PEND h_HST_OPSTAT h_HST_QSTAT h_HST_STAT c_harts c_host c_mem in
theorem messageDeliver_writes (k : Nat) (s : State) :
    (messageDeliver k s).without P = s.without P := by
  unfold messageDeliver
  (repeat' split) <;> simp only [State.without_upd_harts c_harts, State.without_upd_host c_host,
      State.without_upd_mem c_mem, State.dma_writes (P := P) c_harts c_mem,
      hstCause_writes (P := P) h_EVT_PEND h_HST_STAT,
      putOp_writes (P := P) h_HST_OPSTAT h_HST_QSTAT h_HST_STAT c_host, State.without_ite, ite_self]

include h_EVT_PEND h_HST_CQHEAD h_HST_CQMEM h_HST_CQTAIL h_HST_OPSTAT h_HST_OPSTEPS h_HST_QSTAT h_HST_SQHEAD
    h_HST_SQTAIL h_HST_STAT c_host c_sig in
theorem messageTimeout_writes (k : Nat) (s : State) :
    (messageTimeout k s).without P = s.without P := by
  unfold messageTimeout
  (repeat' split) <;> simp only [State.without_upd_host c_host, State.without_upd_sig c_sig,
      messageEnd_writes (P := P) h_EVT_PEND h_HST_CQHEAD h_HST_CQMEM h_HST_CQTAIL h_HST_OPSTAT h_HST_OPSTEPS h_HST_QSTAT h_HST_SQHEAD h_HST_SQTAIL h_HST_STAT c_host c_sig, State.without_ite, ite_self]

include h_STO_ARCHUSE in
theorem showArchive_writes (s : State) :
    (showArchive s).without P = s.without P := by
  unfold showArchive
  simp only [State.w_setF (fl := Fl.STO_ARCHUSE_BLOCKS) h_STO_ARCHUSE (by decide), State.without_ite, ite_self]

include h_BIL_ARCH h_EVT_PEND h_SIG_LASTROOT h_SIG_STAT c_bil c_sig c_sto in
theorem archiveDone_writes (x : ArchiveItem) (s : State) :
    (archiveDone x s).without P = s.without P := by
  unfold archiveDone
  (repeat' split) <;> simp only [State.w_setF (fl := Fl.BIL_ARCH_BACKLOG) h_BIL_ARCH (by decide),
      State.w_setF (fl := Fl.SIG_LASTROOT_ISEQ) h_SIG_LASTROOT (by decide),
      State.without_upd_bil_sig_sto c_bil c_sig c_sto, State.without_upd_sig_sto c_sig c_sto,
      State.without_upd_bil c_bil, State.without_upd_sig c_sig, State.without_upd_sto c_sto,
      sigCause_writes (P := P) h_EVT_PEND h_SIG_STAT, State.without_ite, ite_self]

include h_BIL_ARCH h_EVT_PEND h_SIG_LASTROOT h_SIG_STAT h_STO_ARCHUSE h_STO_STAT c_bil c_sig c_sto in
theorem archiveStep_writes (x : ArchiveItem) (s : State) :
    (archiveStep x s).without P = s.without P := by
  unfold archiveStep
  simp only [State.without_upd_bil c_bil, State.without_upd_sig c_sig, State.without_upd_sto c_sto,
      stoCause_writes (P := P) h_EVT_PEND h_STO_STAT, showArchive_writes (P := P) h_STO_ARCHUSE,
      archiveDone_writes (P := P) h_BIL_ARCH h_EVT_PEND h_SIG_LASTROOT h_SIG_STAT c_bil c_sig c_sto,
      State.without_ite, ite_self]

include c_sto in
theorem commandOk_writes (s : State) :
    (commandOk s).without P = s.without P := by
  unfold commandOk
  simp only [State.without_upd_sto c_sto, State.without_ite, ite_self]

include c_sto in
theorem emmcFill_writes (a : Nat) (l : List Byte) (s : State) :
    (emmcFill a l s).without P = s.without P := by
  induction l generalizing s a with
  | nil => rfl
  | cons v l ih => simp only [emmcFill, ih, State.without_upd_sto c_sto, State.without_ite, ite_self]

include h_EVT_PEND h_STO_REQSTAT h_STO_STAT c_harts c_host c_mem c_sto in
theorem requestStep_writes (k : Nat) (s : State) :
    (requestStep k s).without P = s.without P := by
  unfold requestStep
  simp only [State.w_setF (fl := Fl.STO_REQSTAT_MOVED) h_STO_REQSTAT (by decide), State.without_upd_harts c_harts,
      State.without_upd_host c_host, State.without_upd_mem c_mem, State.without_upd_sto c_sto,
      requestEnd_writes (P := P) h_EVT_PEND h_STO_REQSTAT h_STO_STAT c_host, emmcFill_writes (P := P) c_sto,
      State.dma_writes (P := P) c_harts c_mem, State.without_ite, ite_self]

include h_BIL_STAT h_BIL_TCOUNT h_BIL_TFIRSTH h_BIL_TFIRSTL h_BIL_TLASTH h_BIL_TLASTL h_EVT_PEND h_HST_OPSTAT
    h_HST_OPSTEPS h_HST_QSTAT h_HST_STAT c_harts c_host c_mem in
theorem exportStep_writes (k : Nat) (o : HostOp) (s : State) :
    (exportStep k o s).without P = s.without P := by
  unfold exportStep
  simp (disch := (intros; simp only [State.w_addF (fl := Fl.HST_OPSTEPS_DONE) h_HST_OPSTEPS (by decide), State.without_upd_harts c_harts, State.without_upd_host c_host, State.without_upd_mem c_mem, tamper_writes (P := P) h_BIL_STAT h_BIL_TCOUNT h_BIL_TFIRSTH h_BIL_TFIRSTL h_BIL_TLASTH h_BIL_TLASTL h_EVT_PEND, writePayload_writes (P := P) c_harts c_host c_mem, putOp_writes (P := P) h_HST_OPSTAT h_HST_QSTAT h_HST_STAT c_host, endOp_writes (P := P) h_EVT_PEND h_HST_OPSTAT h_HST_QSTAT h_HST_STAT c_host, State.without_ite, ite_self]; done)) only [State.without_each, State.without_eachOf, State.w_addF (fl := Fl.HST_OPSTEPS_DONE) h_HST_OPSTEPS (by decide), State.without_upd_harts c_harts, State.without_upd_host c_host, State.without_upd_mem c_mem, tamper_writes (P := P) h_BIL_STAT h_BIL_TCOUNT h_BIL_TFIRSTH h_BIL_TFIRSTL h_BIL_TLASTH h_BIL_TLASTL h_EVT_PEND, writePayload_writes (P := P) c_harts c_host c_mem, putOp_writes (P := P) h_HST_OPSTAT h_HST_QSTAT h_HST_STAT c_host, endOp_writes (P := P) h_EVT_PEND h_HST_OPSTAT h_HST_QSTAT h_HST_STAT c_host, State.without_ite, ite_self]

include h_EVT_PEND h_HST_OPSTAT h_HST_OPSTEPS h_HST_QSTAT h_HST_STAT h_STO_ARCHUSE c_host c_sto in
theorem compactStep_writes (k : Nat) (o : HostOp) (s : State) :
    (compactStep k o s).without P = s.without P := by
  unfold compactStep
  (repeat' split) <;> simp only [State.w_addF (fl := Fl.HST_OPSTEPS_DONE) h_HST_OPSTEPS (by decide),
      State.without_upd_host c_host, State.without_upd_sto c_sto,
      endOp_writes (P := P) h_EVT_PEND h_HST_OPSTAT h_HST_QSTAT h_HST_STAT c_host,
      showArchive_writes (P := P) h_STO_ARCHUSE, putOp_writes (P := P) h_HST_OPSTAT h_HST_QSTAT h_HST_STAT c_host,
      State.without_ite, ite_self]

include h_BIL_STAT h_BIL_TCOUNT h_BIL_TFIRSTH h_BIL_TFIRSTL h_BIL_TLASTH h_BIL_TLASTL h_EVT_PEND h_HST_OPSTAT
    h_HST_OPSTEPS h_HST_QSTAT h_HST_STAT h_STO_ARCHUSE h_STO_REQSTAT h_STO_STAT c_harts c_host c_mem c_sto in
theorem turnStep_writes (x : Nat) (s : State) :
    (turnStep x s).without P = s.without P := by
  unfold turnStep
  (try simp only [State.without_upd_harts c_harts, State.without_upd_host c_host, State.without_upd_mem c_mem,
      State.without_upd_sto c_sto,
      requestStep_writes (P := P) h_EVT_PEND h_STO_REQSTAT h_STO_STAT c_harts c_host c_mem c_sto,
      endOp_writes (P := P) h_EVT_PEND h_HST_OPSTAT h_HST_QSTAT h_HST_STAT c_host,
      exportStep_writes (P := P) h_BIL_STAT h_BIL_TCOUNT h_BIL_TFIRSTH h_BIL_TFIRSTL h_BIL_TLASTH h_BIL_TLASTL h_EVT_PEND h_HST_OPSTAT h_HST_OPSTEPS h_HST_QSTAT h_HST_STAT c_harts c_host c_mem, compactStep_writes (P := P) h_EVT_PEND h_HST_OPSTAT h_HST_OPSTEPS h_HST_QSTAT h_HST_STAT h_STO_ARCHUSE c_host c_sto, State.without_ite, ite_self]) <;> (repeat' split) <;> simp only [State.without_upd_harts c_harts, State.without_upd_host c_host, State.without_upd_mem c_mem, State.without_upd_sto c_sto, requestStep_writes (P := P) h_EVT_PEND h_STO_REQSTAT h_STO_STAT c_harts c_host c_mem c_sto, endOp_writes (P := P) h_EVT_PEND h_HST_OPSTAT h_HST_QSTAT h_HST_STAT c_host, exportStep_writes (P := P) h_BIL_STAT h_BIL_TCOUNT h_BIL_TFIRSTH h_BIL_TFIRSTL h_BIL_TLASTH h_BIL_TLASTL h_EVT_PEND h_HST_OPSTAT h_HST_OPSTEPS h_HST_QSTAT h_HST_STAT c_harts c_host c_mem, compactStep_writes (P := P) h_EVT_PEND h_HST_OPSTAT h_HST_OPSTEPS h_HST_QSTAT h_HST_STAT h_STO_ARCHUSE c_host c_sto, State.without_ite, ite_self]

include h_BIL_ARCH h_BIL_STAT h_BIL_TCOUNT h_BIL_TFIRSTH h_BIL_TFIRSTL h_BIL_TLASTH h_BIL_TLASTL h_EVT_PEND
    h_HST_OPSTAT h_HST_OPSTEPS h_HST_QSTAT h_HST_STAT h_SIG_LASTROOT h_SIG_STAT h_STO_ARCHUSE h_STO_REQSTAT h_STO_STAT c_bil c_harts c_host c_mem c_sig c_sto in
theorem storageStep_writes (s : State) :
    (storageStep s).without P = s.without P := by
  unfold storageStep
  (repeat' split) <;> simp only [State.without_upd_bil c_bil, State.without_upd_harts c_harts,
      State.without_upd_host c_host, State.without_upd_mem c_mem, State.without_upd_sig c_sig,
      State.without_upd_sto c_sto,
      archiveStep_writes (P := P) h_BIL_ARCH h_EVT_PEND h_SIG_LASTROOT h_SIG_STAT h_STO_ARCHUSE h_STO_STAT c_bil c_sig c_sto, commandOk_writes (P := P) c_sto, stoCause_writes (P := P) h_EVT_PEND h_STO_STAT, turnStep_writes (P := P) h_BIL_STAT h_BIL_TCOUNT h_BIL_TFIRSTH h_BIL_TFIRSTL h_BIL_TLASTH h_BIL_TLASTL h_EVT_PEND h_HST_OPSTAT h_HST_OPSTEPS h_HST_QSTAT h_HST_STAT h_STO_ARCHUSE h_STO_REQSTAT h_STO_STAT c_harts c_host c_mem c_sto, State.without_when_if, State.without_ite, ite_self]

include h_EVT_PEND h_HST_STAT c_drawn c_host in
theorem linkChange_writes (up : Bool) (s : State) :
    (linkChange up s).without P = s.without P := by
  unfold linkChange
  simp only [State.w_setB (fl := Fl.HST_STAT_LINK) h_HST_STAT (by decide), State.without_upd_drawn c_drawn,
      State.without_upd_host c_host, hstCause_writes (P := P) h_EVT_PEND h_HST_STAT,
      State.draw_writes (P := P) c_drawn, State.without_ite, ite_self]

include c_host in
theorem qspiRead_writes (off : Nat) (len : Nat) (s : State) :
    (qspiRead off len s).without P = s.without P := by
  unfold qspiRead
  simp only [State.without_upd_host c_host, State.without_ite, ite_self]

include c_host in
theorem qspiStatus_writes (s : State) :
    (qspiStatus s).without P = s.without P := by
  unfold qspiStatus
  simp only [State.without_upd_host c_host, State.without_ite, ite_self]

include h_EVT_PEND h_TIM_FSTAT h_TIM_INFO h_TIM_STAT h_TIM_TSH h_TIM_TSL c_time in
theorem stampCapture_writes (q : Nat) (sent : Bool) (msgType : Nat) (seq : Nat) (domain : Nat) (s : State) :
    (stampCapture q sent msgType seq domain s).without P = s.without P := by
  unfold stampCapture
  simp only [State.w_setB (fl := Fl.TIM_FSTAT_OVF) h_TIM_FSTAT (by decide), State.without_upd_time c_time,
      timCause_writes (P := P) h_EVT_PEND h_TIM_STAT,
      setFifo_writes (P := P) h_TIM_FSTAT h_TIM_INFO h_TIM_TSH h_TIM_TSL c_time, State.without_ite, ite_self]

include h_EVT_PEND h_TIM_FSTAT h_TIM_INFO h_TIM_STAT h_TIM_TSH h_TIM_TSL c_time in
theorem ptpCapture_writes (m : Nat) (sent : Bool) (frame : List Byte) (s : State) :
    (ptpCapture m sent frame s).without P = s.without P := by
  unfold ptpCapture
  simp only [State.without_upd_time c_time,
      stampCapture_writes (P := P) h_EVT_PEND h_TIM_FSTAT h_TIM_INFO h_TIM_STAT h_TIM_TSH h_TIM_TSL c_time,
      State.without_ite, ite_self]

include h_ETH_STAT h_ETH_TXFRM h_ETH_TXHEAD h_EVT_PEND h_TIM_FSTAT h_TIM_INFO h_TIM_STAT h_TIM_TSH h_TIM_TSL c_eth
    c_harts c_mem c_time in
theorem ethTxComplete_writes (m : Nat) (r : Nat) (s : State) :
    (ethTxComplete m r s).without P = s.without P := by
  unfold ethTxComplete
  (repeat' split) <;> simp only [State.w_addF (fl := Fl.ETH_TXFRM_N) h_ETH_TXFRM (by decide),
      State.without_upd_eth c_eth, State.without_upd_harts c_harts, State.without_upd_mem c_mem,
      State.without_upd_time c_time, txNext_writes (P := P) h_ETH_STAT h_EVT_PEND c_eth,
      ethCause_writes (P := P) h_ETH_STAT h_EVT_PEND, txComplete_writes (P := P) h_ETH_TXHEAD c_harts c_mem,
      State.setMac_writes (P := P) c_eth,
      ptpCapture_writes (P := P) h_EVT_PEND h_TIM_FSTAT h_TIM_INFO h_TIM_STAT h_TIM_TSH h_TIM_TSL c_time,
      State.without_ite, ite_self]

include h_ETH_RXFCS h_ETH_RXFRM h_ETH_RXLONG h_ETH_RXLOST h_ETH_RXSTAT h_ETH_STAT h_EVT_PEND h_TIM_FSTAT h_TIM_INFO
    h_TIM_STAT h_TIM_TSH h_TIM_TSL c_eth c_harts c_mem c_time in
theorem ethReceive_writes (m : Nat) (frame : List Byte) (fcsOk : Bool) (s : State) :
    (ethReceive m frame fcsOk s).without P = s.without P := by
  unfold ethReceive
  (repeat' split) <;> simp only [State.w_setF (fl := Fl.ETH_RXLONG_N) h_ETH_RXLONG (by decide),
      State.w_setF (fl := Fl.ETH_RXFCS_N) h_ETH_RXFCS (by decide),
      State.w_setF (fl := Fl.ETH_RXLOST_N) h_ETH_RXLOST (by decide),
      State.w_setF (fl := Fl.ETH_RXFRM_N) h_ETH_RXFRM (by decide),
      State.w_setF (fl := Fl.ETH_RXSTAT_COUNT) h_ETH_RXSTAT (by decide),
      State.w_addF (fl := Fl.ETH_RXLONG_N) h_ETH_RXLONG (by decide),
      State.w_addF (fl := Fl.ETH_RXFCS_N) h_ETH_RXFCS (by decide),
      State.w_addF (fl := Fl.ETH_RXLOST_N) h_ETH_RXLOST (by decide),
      State.w_addF (fl := Fl.ETH_RXFRM_N) h_ETH_RXFRM (by decide),
      State.w_addF (fl := Fl.ETH_RXSTAT_COUNT) h_ETH_RXSTAT (by decide), State.without_upd_eth c_eth,
      State.without_upd_harts c_harts, State.without_upd_mem c_mem, State.without_upd_time c_time,
      ethCause_writes (P := P) h_ETH_STAT h_EVT_PEND,
      ptpCapture_writes (P := P) h_EVT_PEND h_TIM_FSTAT h_TIM_INFO h_TIM_STAT h_TIM_TSH h_TIM_TSL c_time,
      State.dma_writes (P := P) c_harts c_mem, State.setMac_writes (P := P) c_eth, State.without_ite, ite_self]

include h_ETH_STAT h_EVT_PEND c_eth in
theorem ethPause_writes (m : Nat) (quanta : Nat) (s : State) :
    (ethPause m quanta s).without P = s.without P := by
  unfold ethPause
  simp only [State.without_upd_eth c_eth, ethCause_writes (P := P) h_ETH_STAT h_EVT_PEND,
      State.setMac_writes (P := P) c_eth, State.without_ite, ite_self]

include h_ETH_STAT h_EVT_PEND c_eth in
theorem ethPauseEnd_writes (m : Nat) (s : State) :
    (ethPauseEnd m s).without P = s.without P := by
  unfold ethPauseEnd
  simp only [State.without_upd_eth c_eth, txNext_writes (P := P) h_ETH_STAT h_EVT_PEND c_eth,
      State.setMac_writes (P := P) c_eth, State.without_ite, ite_self]

include h_ETH_MDIO h_ETH_MDIOSTAT h_ETH_STAT h_EVT_PEND c_eth in
theorem mdioDone_writes (m : Nat) (data : BitVec 16) (s : State) :
    (mdioDone m data s).without P = s.without P := by
  unfold mdioDone
  (repeat' split) <;> simp only [State.w_setF (fl := Fl.ETH_MDIOSTAT_BUSY) h_ETH_MDIOSTAT (by decide),
      State.w_setF (fl := Fl.ETH_MDIO_DATA) h_ETH_MDIO (by decide),
      State.w_setB (fl := Fl.ETH_MDIOSTAT_BUSY) h_ETH_MDIOSTAT (by decide),
      State.w_setB (fl := Fl.ETH_MDIO_DATA) h_ETH_MDIO (by decide), State.without_upd_eth c_eth,
      State.setMac_writes (P := P) c_eth, ethCause_writes (P := P) h_ETH_STAT h_EVT_PEND, State.without_ite, ite_self]

include h_EVT_PEND h_STO_HEALTH h_STO_STAT in
theorem showHealth_writes (preEol : Nat) (estA : Nat) (estB : Nat) (s : State) :
    (showHealth preEol estA estB s).without P = s.without P := by
  unfold showHealth
  simp only [State.w_setF (fl := Fl.STO_HEALTH_ESTB) h_STO_HEALTH (by decide),
      State.w_setF (fl := Fl.STO_HEALTH_ESTA) h_STO_HEALTH (by decide),
      State.w_setF (fl := Fl.STO_HEALTH_PREEOL) h_STO_HEALTH (by decide),
      stoCause_writes (P := P) h_EVT_PEND h_STO_STAT, State.without_when_if, State.without_ite, ite_self]

include h_EVT_PEND h_STO_ARCHEND h_STO_CAP h_STO_HEALTH h_STO_PAREA h_STO_STAT c_sto in
theorem emmcInit_writes (found : Bool) (mode : Nat) (blocks : Nat) (preEol : Nat) (estA : Nat) (estB : Nat) (s :
    State) :
    (emmcInit found mode blocks preEol estA estB s).without P = s.without P := by
  unfold emmcInit
  simp only [State.w_setF (fl := Fl.STO_ARCHEND_BLOCK) h_STO_ARCHEND (by decide),
      State.w_setF (fl := Fl.STO_PAREA_BLOCK) h_STO_PAREA (by decide),
      State.w_setF (fl := Fl.STO_CAP_BLOCKS) h_STO_CAP (by decide),
      State.w_setF (fl := Fl.STO_STAT_SLOW) h_STO_STAT (by decide),
      State.w_setF (fl := Fl.STO_STAT_MODE) h_STO_STAT (by decide),
      State.w_setF (fl := Fl.STO_STAT_STATE) h_STO_STAT (by decide),
      State.w_setB (fl := Fl.STO_ARCHEND_BLOCK) h_STO_ARCHEND (by decide),
      State.w_setB (fl := Fl.STO_PAREA_BLOCK) h_STO_PAREA (by decide),
      State.w_setB (fl := Fl.STO_CAP_BLOCKS) h_STO_CAP (by decide),
      State.w_setB (fl := Fl.STO_STAT_SLOW) h_STO_STAT (by decide),
      State.w_setB (fl := Fl.STO_STAT_MODE) h_STO_STAT (by decide),
      State.w_setB (fl := Fl.STO_STAT_STATE) h_STO_STAT (by decide), State.without_upd_sto c_sto,
      showHealth_writes (P := P) h_EVT_PEND h_STO_HEALTH h_STO_STAT, stoCause_writes (P := P) h_EVT_PEND h_STO_STAT,
      State.without_when_if, State.without_ite, ite_self]

include h_EVT_PEND h_HST_OPSTAT h_HST_QSTAT h_HST_STAT h_STO_REQSTAT h_STO_STAT c_host c_sto in
theorem stepFails_writes (s : State) :
    (stepFails s).without P = s.without P := by
  unfold stepFails
  (repeat' split) <;> simp only [State.without_upd_host c_host, State.without_upd_sto c_sto,
      requestEnd_writes (P := P) h_EVT_PEND h_STO_REQSTAT h_STO_STAT c_host,
      endOp_writes (P := P) h_EVT_PEND h_HST_OPSTAT h_HST_QSTAT h_HST_STAT c_host, State.without_ite, ite_self]

include h_EVT_PEND h_HST_OPSTAT h_HST_QSTAT h_HST_STAT h_STO_CNT h_STO_REQSTAT h_STO_STAT c_host c_sto in
theorem commandFail_writes (s : State) :
    (commandFail s).without P = s.without P := by
  unfold commandFail
  simp only [State.w_satF (fl := Fl.STO_CNT_RETRY) h_STO_CNT (by decide),
      State.w_satF (fl := Fl.STO_CNT_REINIT) h_STO_CNT (by decide), State.without_upd_host c_host,
      State.without_upd_sto c_sto,
      stepFails_writes (P := P) h_EVT_PEND h_HST_OPSTAT h_HST_QSTAT h_HST_STAT h_STO_REQSTAT h_STO_STAT c_host c_sto,
      emmcRestart_writes (P := P) h_STO_STAT c_sto, stoCause_writes (P := P) h_EVT_PEND h_STO_STAT,
      State.without_ite, ite_self]

include h_STO_STAT c_sto in
theorem emmcRetry_writes (s : State) :
    (emmcRetry s).without P = s.without P := by
  unfold emmcRetry
  simp only [State.without_upd_sto c_sto, emmcRestart_writes (P := P) h_STO_STAT c_sto, State.without_ite, ite_self]

include h_CLN_ERRA h_CLN_LANEEV h_CLN_STAT h_EVT_PEND c_cln in
theorem guardTraffic_writes (j : Nat) (frame : List Byte) (s : State) :
    (guardTraffic j frame s).without P = s.without P := by
  unfold guardTraffic
  simp only [State.w_setFBit (fl := Fl.CLN_STAT_GUARDOK) h_CLN_STAT (by decide),
      State.w_setFBit (fl := Fl.CLN_ERRA_CRCUP) h_CLN_ERRA (by decide), State.without_upd_cln c_cln,
      countUp_writes (fl := Fl.CLN_ERRA_CRCUP) h_CLN_ERRA (by decide), State.setLn_writes (P := P) c_cln,
      clnCause_writes (P := P) h_CLN_LANEEV h_EVT_PEND, State.without_when_if, State.without_ite, ite_self]

include h_CLN_CELLST h_CLN_ERRA h_CLN_ERRC h_CLN_LANEEV h_CLN_LANESTAT h_CLN_STAT h_EVT_PEND h_LPE_BSTAT h_LPE_CWSTAT
    c_cln c_lpe in
theorem lockLost_writes (j : Nat) (s : State) :
    (lockLost j s).without P = s.without P := by
  unfold lockLost
  simp only [State.without_upd_cln c_cln, State.without_upd_lpe c_lpe,
      countUp_writes (fl := Fl.CLN_ERRC_RELOCK) h_CLN_ERRC (by decide),
      guardTraffic_writes (P := P) h_CLN_ERRA h_CLN_LANEEV h_CLN_STAT h_EVT_PEND c_cln,
      laneDown_writes (P := P) h_CLN_CELLST h_CLN_LANEEV h_CLN_LANESTAT h_CLN_STAT h_EVT_PEND h_LPE_BSTAT h_LPE_CWSTAT c_cln c_lpe, State.without_ite, ite_self]

include h_CAN_ERR h_CAN_STAT h_CAN_TXEVA h_CAN_TXEVB h_CAN_TXSTAT h_EVT_PEND c_cans in
theorem canRxError_writes (n : Nat) (lec : Nat) (s : State) :
    (canRxError n lec s).without P = s.without P := by
  unfold canRxError
  simp only [State.w_setF (fl := Fl.CAN_STAT_LEC) h_CAN_STAT (by decide), State.without_upd_cans c_cans,
      canCounters_writes (P := P) h_CAN_ERR h_CAN_STAT h_CAN_TXEVA h_CAN_TXEVB h_CAN_TXSTAT h_EVT_PEND c_cans,
      State.without_ite, ite_self]

end Sys2Proof.Machine
end

