-- ==== Sys2Proof/WellFormed.lean ====
section
/-! DEFINITION. Well-formed commands: the operands that the manual gives no unit, register or code for are left out
(R16, R58, R109, R110, R126, R130, R462, R558, R582). A meaning answers for every operand; this says which ones name
something. -/

namespace Sys2Proof

/-- An initiator of the register bus: a hart is one of P0 to P3 (R13, R58). -/
def Initiator.wf : Initiator → Bool
  | .hart n => decide (n < 4)
  | .host => true
  | .ring => true
  | .bootRom => true
  | .s0 => true
  | .s1 => true

/-- A command whose operands lie in their ranges. -/
def Instr.wf : Instr → Bool
  | .registerWrite ini _ _ => ini.wf
  | .readLowWord ini _ => ini.wf
  | .readHighWord ini _ => ini.wf
  | .writeLowWord ini _ _ => ini.wf
  | .writeHighWord ini _ _ => ini.wf
  | .referenceLost => true
  | .pllLockLost => true
  | .referenceQualified => true
  | .clockCheckWindow _ _ => true
  | .vinBelowWarn _ => true
  | .vinAboveWarn _ => true
  | .vinBelowHold _ => true
  | .vinAboveHold _ => true
  | .vinBrownOut _ => true
  | .vinAboveStart _ bootsel hsel => decide (bootsel < 4) && decide (hsel < 2)
  | .pfwAsserted => true
  | .pfwReleased => true
  | .saveStepComplete => true
  | .saveEndRelease => true
  | .requestRun => true
  | .requestLuff => true
  | .requestSlack => true
  | .requestStow => true
  | .commitPoint => true
  | .powerTransitionComplete => true
  | .furlArm => true
  | .furlDisarm => true
  | .wakeNAsserted => true
  | .startCurrentDetected port _ => decide (port < 24)
  | .stowHandlerStart => true
  | .stowImageReady => true
  | .stowShroudReady => true
  | .stowAnalogReady => true
  | .pinWarmReset => true
  | .pinColdReset => true
  | .rstNRelease bootsel hsel => decide (bootsel < 4) && decide (hsel < 2)
  | .softwareWarmReset => true
  | .softwareColdReset => true
  | .coldResetAssert _ bootsel hsel => decide (bootsel < 4) && decide (hsel < 2)
  | .watchdogEnable timeout => decide (timeout < 1024)
  | .watchdogKick => true
  | .watchdogBadKey key => key != 0x5A
  | .watchdogHalf => true
  | .watchdogExpiry => true
  | .bootStepEnd _ => true
  | .bootNvokResume => true
  | .bootJoin => true
  | .confirmSlot => true
  | .add _ _ _ _ => true
  | .sub _ _ _ _ => true
  | .and _ _ _ _ => true
  | .or _ _ _ _ => true
  | .xor _ _ _ _ => true
  | .sll _ _ _ _ => true
  | .srl _ _ _ _ => true
  | .sra _ _ _ _ => true
  | .slt _ _ _ _ => true
  | .sltu _ _ _ _ => true
  | .min _ _ _ _ => true
  | .max _ _ _ _ => true
  | .minu _ _ _ _ => true
  | .maxu _ _ _ _ => true
  | .adds _ _ _ _ => true
  | .subs _ _ _ _ => true
  | .mul _ _ _ _ => true
  | .mulh _ _ _ _ => true
  | .mulhu _ _ _ _ => true
  | .div _ _ _ _ => true
  | .divu _ _ _ _ => true
  | .rem _ _ _ _ => true
  | .remu _ _ _ _ => true
  | .clz _ _ _ => true
  | .popc _ _ _ => true
  | .addd _ _ _ _ => true
  | .subd _ _ _ _ => true
  | .slld _ _ _ _ => true
  | .srld _ _ _ _ => true
  | .srad _ _ _ _ => true
  | .sltd _ _ _ _ => true
  | .sltdu _ _ _ _ => true
  | .mulw _ _ _ _ => true
  | .mulwu _ _ _ _ => true
  | .macw _ _ _ _ => true
  | .sextd _ _ _ => true
  | .addi _ _ _ _ => true
  | .slti _ _ _ _ => true
  | .sltiu _ _ _ _ => true
  | .andi _ _ _ _ => true
  | .ori _ _ _ _ => true
  | .xori _ _ _ _ => true
  | .slli _ _ _ _ => true
  | .srli _ _ _ _ => true
  | .srai _ _ _ _ => true
  | .lui _ _ _ => true
  | .addpc _ _ _ => true
  | .lb _ _ _ _ => true
  | .lbu _ _ _ _ => true
  | .lh _ _ _ _ => true
  | .lhu _ _ _ _ => true
  | .lw _ _ _ _ => true
  | .ld _ _ _ _ => true
  | .sb _ _ _ _ => true
  | .sh _ _ _ _ => true
  | .sw _ _ _ _ => true
  | .sd _ _ _ _ => true
  | .beq _ _ _ _ => true
  | .bne _ _ _ _ => true
  | .blt _ _ _ _ => true
  | .bge _ _ _ _ => true
  | .bltu _ _ _ _ => true
  | .bgeu _ _ _ _ => true
  | .call _ _ _ => true
  | .callr _ _ _ _ => true
  | .lwx _ _ _ _ => true
  | .swx _ _ _ _ => true
  | .swap _ _ _ _ => true
  | .rdcw _ _ _ _ => true
  | .wrcw _ _ _ _ => true
  | .svreq _ _ => true
  | .brkpt _ => true
  | .resume _ => true
  | .waitev _ => true
  | .waitt _ _ => true
  | .drain _ => true
  | .icinv _ => true
  | .interrupt _ => true
  | .reservationTimeout _ => true
  | .alarmDue _ => true
  | .waitEnd _ => true
  | .hartStart n => decide (n < 4)
  | .hartHalt n => decide (n < 4)
  | .hartIcinv n => decide (n < 4)
  | .haltComplete n => decide (n < 4)
  | .mailboxWrite _ n _ => decide (n < 4)
  | .mailboxRead _ => true
  | .ownerLock => true
  | .imgCheck _ => true
  | .imgStatus _ => true
  | .imgPlace _ => true
  | .imgSlot _ => true
  | .imgDrop _ => true
  | .resumeSet _ => true
  | .imageCheckDone ticket => decide (1 ≤ ticket ∧ ticket ≤ 4)
  | .vnop => true
  | .vldi _ _ => true
  | .vsto _ _ => true
  | .vldsv _ _ => true
  | .vstsv _ _ => true
  | .vlds _ _ => true
  | .vsts _ _ => true
  | .vclr _ => true
  | .vclri _ => true
  | .vmac _ _ k => k != 0
  | .vmsc _ _ k => k != 0
  | .vmacv _ _ _ => true
  | .vopen _ _ _ _ => true
  | .vcls _ _ _ _ => true
  | .vadd _ _ _ => true
  | .vsub _ _ _ => true
  | .vlim _ _ lo hi => lo != 0 && hi != 0
  | .vseli _ _ _ => true
  | .vsel _ _ _ => true
  | .vcmp _ _ => true
  | .vfe _ => true
  | .vabs _ _ => true
  | .vkld _ k => k != 0
  | .groupTick g => decide (g < 8)
  | .batchRun => true
  | .outputLaunch g => decide (g < 8)
  | .batchEnable b => decide (b < 64)
  | .batchDisable b => decide (b < 64)
  | .batchKernelChange b k => decide (b < 64) && decide (k < 16)
  | .batchMaskChange b _ => decide (b < 64)
  | .groupEnable g => decide (g < 8)
  | .groupDisable g => decide (g < 8)
  | .groupPeriodWrite g period => decide (g < 8) && decide (period < 65536)
  | .launchWrite offset => decide (offset < 512)
  | .coefficientWrite ini bank slot w _ => ini.wf && decide (bank < 2) && decide (slot < 1024) && decide (w < 16)
  | .cellInit slot => decide (slot < 1024)
  | .injectorArm => true
  | .injectorDisarm => true
  | .injectionDone => true
  | .captureArm => true
  | .captureDone => true
  | .followingErrorAction slot => decide (slot < 1024)
  | .takeoverEngineStart => true
  | .takeoverEngineReturn => true
  | .laneEnable j => decide (j < 32)
  | .linkStartStepEnd j nEnum => decide (j < 32) && decide (nEnum < 33)
  | .capRecord j pos _ => decide (j < 32) && decide (pos < 32)
  | .rangeEcho j _ _ => decide (j < 32)
  | .telemetryFrame j pos _ _ => decide (j < 32) && decide (pos < 32)
  | .exchangeEnd j => decide (j < 32)
  | .cellLost slot => decide (slot < 1024)
  | .errorThreshold j => decide (j < 32)
  | .errorCountersClear _ => true
  | .cellReadmit slot => decide (slot < 1024)
  | .readmitEnd slot => decide (slot < 1024)
  | .cellmapWrite c _ => decide (c < 1024)
  | .laneDisable j => decide (j < 32)
  | .laneStopComplete j _ => decide (j < 32)
  | .laneTripFall j => decide (j < 32)
  | .mgmtRequest => true
  | .mgmtResponse status _ _ => decide (status < 256)
  | .mgmtTimeout => true
  | .guardTakeover => true
  | .homeLaneReturn k => decide (k < 16)
  | .portGroupEnable g => decide (g < 80)
  | .portGroupDisable g => decide (g < 80)
  | .cellGroupAssign c group => decide (c < 1024) && decide (group < 80)
  | .groupCheck g => decide (g < 80)
  | .groupPrecharge g => decide (g < 80)
  | .groupRun g _ => decide (g < 80)
  | .groupStop g => decide (g < 80)
  | .groupDisch g => decide (g < 80)
  | .groupClear g => decide (g < 80)
  | .groupClrreef g => decide (g < 80)
  | .contactorsClosed g => decide (g < 80)
  | .closingTimeout g => decide (g < 80)
  | .prechargeComplete g => decide (g < 80)
  | .prechargeTimeout g => decide (g < 80)
  | .rampdownComplete g => decide (g < 80)
  | .dischargeComplete g => decide (g < 80)
  | .dischargeTimeout g => decide (g < 80)
  | .dischargeForcedOpen g => decide (g < 80)
  | .contactorsOpened g => decide (g < 80)
  | .openingTimeout g => decide (g < 80)
  | .weldStepEnd g => decide (g < 80)
  | .unrequestedOpen g => decide (g < 80)
  | .autocvSwitch g => decide (g < 80)
  | .openCell slot => decide (slot < 1024)
  | .senseSearchStart g => decide (g < 80)
  | .senseSearchEnd g => decide (g < 80)
  | .cellRestore slot => decide (slot < 1024)
  | .snap cell index => decide (index < if cell then 1024 else 80)
  | .averagePublish _ => true
  | .allocationPeriodStart => true
  | .exchangeWindowClose => true
  | .solveComplete _ => true
  | .solveOverrun => true
  | .halyardReceived _ _ hops => decide (hops < 256)
  | .allocationPeriodWrite _ => true
  | .allocationConfigWrite _ _ => true
  | .treeCommit => true
  | .alcCounterClear => true
  | .allocatorEnable => true
  | .allocatorDisable => true
  | .reqWrite p _ => decide (p < 48)
  | .priceWrite _ => true
  | .reqAged p => decide (p < 48)
  | .priceAged => true
  | .nodeViolation n => decide (n < 256)
  | .pilotStateQualified f _ => decide (f < 24)
  | .slacMessage f _ => decide (f < 24)
  | .sdpRequest f => decide (f < 24)
  | .tcpConnect f => decide (f < 24)
  | .v2gtpFrame c _ => decide (c < 48)
  | .supportedAppProtocol c _ => decide (c < 48)
  | .clientHello c _ _ _ => decide (c < 48)
  | .tlsSecretsWrite c _ _ => decide (c < 48)
  | .responseSend c _ => decide (c < 48)
  | .receiveRelease c => decide (c < 48)
  | .cableCheckReq c => decide (c < 48)
  | .preChargeReq c _ => decide (c < 48)
  | .currentDemandReq c _ _ soc _ => decide (c < 48) && decide (soc < 256)
  | .dcChargeLoopReq c _ _ soc _ => decide (c < 48) && decide (soc < 256)
  | .sessionStopReq c => decide (c < 48)
  | .powerDeliveryReq c _ _ => decide (c < 48)
  | .proceed c => decide (c < 48)
  | .sessionStop c => decide (c < 48)
  | .sessionClear c => decide (c < 48)
  | .tlinkExpiry c => decide (c < 48)
  | .tsetupExpiry c => decide (c < 48)
  | .tseqExpiry c => decide (c < 48)
  | .trespExpiry c => decide (c < 48)
  | .tloopExpiry c => decide (c < 48)
  | .tchkExpiry c => decide (c < 48)
  | .tplcExpiry c => decide (c < 48)
  | .sessionEnable c => decide (c < 48)
  | .sessionDisable c => decide (c < 48)
  | .frontEndConfig f mode ctx => decide (f < 24) && decide (mode < 4) && decide (ctx < 64)
  | .deltaAck c => decide (c < 48)
  | .deltaReleaseTimeout c => decide (c < 48)
  | .standbyFrameObserved f _ => decide (f < 24)
  | .standbyTakeover f => decide (f < 24)
  | .sessionHandover c => decide (c < 48)
  | .sensorConversion sensor _ _ => decide (sensor < 80)
  | .sensorBroken sensor => decide (sensor < 80)
  | .sensorRestored sensor => decide (sensor < 80)
  | .flowEdge p => decide (p < 24)
  | .flowCompute => true
  | .nogoClear p => decide (p < 24)
  | .nogoStop p => decide (p < 24)
  | .observerStep => true
  | .thermalReefFall p => decide (p < 24)
  | .thermalRecordWrite => true
  | .meterSample m _ _ => decide (m < 24)
  | .fastTapSample m _ _ => decide (m < 24)
  | .fold => true
  | .meterCheck m _ => decide (m < 24)
  | .meterFaultClear m => decide (m < 24)
  | .pulseStart m => decide (m < 24)
  | .pulseEnd m => decide (m < 24)
  | .gridCompute _ _ _ _ => true
  | .utilityPulse _ _ => true
  | .gridForce => true
  | .metrologyConfigWrite _ _ _ => true
  | .boundaryEnqueue => true
  | .boundaryLatch => true
  | .boundaryProcess => true
  | .calendarActivate => true
  | .demandResetRequest => true
  | .demlenWrite code => decide (code < 8)
  | .billingEnable => true
  | .sealOpen => true
  | .displayFrame => true
  | .displayAnswer u => decide (u < 24)
  | .displayAnswerMissed u => decide (u < 24)
  | .signatureStart => true
  | .signatureComplete => true
  | .keyRebuildComplete k => decide (k < 2)
  | .jobSubmit _ => true
  | .jobHash => true
  | .jobHmac => true
  | .jobHkdfExtract => true
  | .jobHkdfExpand => true
  | .jobAesGcmEncrypt => true
  | .jobAesGcmDecrypt => true
  | .jobEcdheKeygen => true
  | .jobEcdheDerive => true
  | .jobSign => true
  | .jobVerify => true
  | .jobTlsKeygen => true
  | .jobTlsKeyErase => true
  | .jobPublicKeyRead => true
  | .jobAttest => true
  | .jobKeygen => true
  | .jobRandom => true
  | .engineStep => true
  | .jobDone => true
  | .attestTokenRefill => true
  | .shroudCycle => true
  | .zoneDemand z => decide (z < 5)
  | .stayTestPulse _ => true
  | .stayChainOpen => true
  | .srstPulse _ => true
  | .shroudStop1 p => decide (p < 48)
  | .zoneReset z => decide (z < 5)
  | .limset a _ => decide (a < 8)
  | .axen a => decide (a < 8)
  | .imdtest p _ => decide (p < 48)
  | .targetRelease t => decide (t < 64)
  | .faultClear p => decide (p < 48)
  | .closeRequest p _ _ => decide (p < 48)
  | .openRequest p _ _ => decide (p < 48)
  | .lockRequest p => decide (p < 48)
  | .unlockRequest p => decide (p < 48)
  | .coilRelease p _ => decide (p < 48)
  | .mirrorTimeout p _ => decide (p < 48)
  | .mirrorChange p _ _ => decide (p < 48)
  | .lockConfirmed p => decide (p < 48)
  | .lockTimeout p => decide (p < 48)
  | .noVoltageVerified p => decide (p < 48)
  | .unlockConfirmed p => decide (p < 48)
  | .imdFault p => decide (p < 48)
  | .imdWarn p _ => decide (p < 48)
  | .isolationValid p => decide (p < 48)
  | .tempCut p => decide (p < 48)
  | .pinBroken p => decide (p < 48)
  | .pinBrokenStop p => decide (p < 48)
  | .axisSample a _ _ _ => decide (a < 8)
  | .lockstepMismatch => true
  | .memoryDoubleError => true
  | .cycleOverrun _ => true
  | .memoryScrub _ => true
  | .feedbackTest _ => true
  | .coilTestPulse n _ => decide (n < 48)
  | .fabricSourceChange source _ => decide (source < 72)
  | .standbyCoilsEnergise => true
  | .vetoActive => true
  | .guestTimeLimit => true
  | .shroudReturn => true
  | .standbyCoilsRelease => true
  | .ringLinkStart k => decide (k < 2)
  | .linkcap k peer _ _ _ _ => decide (k < 2) && decide (peer < 256)
  | .linkauth k _ => decide (k < 2)
  | .heartbeatSend => true
  | .heartbeat k _ => decide (k < 2)
  | .heartbeatMissed k => decide (k < 2)
  | .neighbourLost k => decide (k < 2)
  | .viewFrame _ => true
  | .viewAdopt => true
  | .generationRaise => true
  | .shdFrame _ => true
  | .deltaFrame _ => true
  | .displaced lane => decide (lane < 16)
  | .returnRequest => true
  | .splFrame _ => true
  | .returnSignal => true
  | .returnComplete => true
  | .splice => true
  | .spliceHandover => true
  | .spliceReset => true
  | .leave => true
  | .channelOn n => decide (n < 16)
  | .channelOff n => decide (n < 16)
  | .channelClear n => decide (n < 16)
  | .channelOvercurrent n _ => decide (n < 16)
  | .channelOvertemp n => decide (n < 16)
  | .aggregateTrip => true
  | .vauxDroop _ => true
  | .openLoad n => decide (n < 16)
  | .inrushEnd n => decide (n < 16)
  | .pwmPeriod n => decide (n < 16)
  | .timedPulseEnd n => decide (n < 16)
  | .clampEnd n => decide (n < 16)
  | .holdEnd n => decide (n < 16)
  | .currentSense n _ _ => decide (n < 16)
  | .vauxUndervoltage _ => true
  | .vauxOvervoltage _ => true
  | .vauxReverse => true
  | .groundLoss => true
  | .vauxReturn _ => true
  | .pullInEnd n => decide (n < 48)
  | .coilOvercurrent n => decide (n < 48)
  | .coilOpen n => decide (n < 48)
  | .feedbackChange k _ => decide (k < 96)
  | .estimatorStep k _ _ _ => decide (k < 9)
  | .voltageLimitCheck k _ _ => decide (k < 9)
  | .restStart k => decide (k < 9)
  | .restRepeat k => decide (k < 9)
  | .counterCheck k _ => decide (k < 9)
  | .packRecordWrite => true
  | .packInsert k _ => decide (k < 9)
  | .reestimate k => decide (k < 9)
  | .newpack k => decide (k < 9)
  | .firstEstimate k => decide (k < 9)
  | .hpChargeEnd _ => true
  | .hpStowCheck _ _ => true
  | .incrementWrite _ => true
  | .timeStepRequest _ => true
  | .runlockSet => true
  | .calendarSet src => decide (src < 8)
  | .leapSecond => true
  | .rtcOscFail => true
  | .rtcAlarm => true
  | .rtcSecondLoad => true
  | .ppsOut => true
  | .ppsIn => true
  | .timestampRead q => decide (q < 4)
  | .launchTimeReached src => decide (src < 12)
  | .canEnable n => decide (n < 8)
  | .canDisable n => decide (n < 8)
  | .canStopComplete n => decide (n < 8)
  | .canBusJoin n => decide (n < 8)
  | .canRecover n => decide (n < 8)
  | .canAbort n => decide (n < 8)
  | .canAbortAll n => decide (n < 8)
  | .canPush n => decide (n < 8)
  | .canRxReturn n _ => decide (n < 8)
  | .canTxEventRead n => decide (n < 8)
  | .canTimingWrite n reg _ => decide (n < 8) && decide (reg < 3)
  | .canFrameReceived n _ => decide (n < 8)
  | .canTxComplete n _ => decide (n < 8)
  | .canRecoveryComplete n => decide (n < 8)
  | .abdWindowEnd n _ _ => decide (n < 8)
  | .canWakePattern n => decide (n < 8)
  | .zeroCrossing _ => true
  | .mainsLost => true
  | .slotStart slot => decide (slot < 8)
  | .segmentReceived src _ => decide (1 ≤ src ∧ src ≤ 62)
  | .dklDataFrame _ => true
  | .dklAckFrame src _ _ _ => decide (1 ≤ src ∧ src ≤ 62)
  | .soundFrame src _ => decide (1 ≤ src ∧ src ≤ 62)
  | .mapFrame src _ => decide (1 ≤ src ∧ src ≤ 62)
  | .joinFrame _ _ _ => true
  | .neighFrame src _ => decide (1 ≤ src ∧ src ≤ 62)
  | .ackTimeout dst => decide (1 ≤ dst ∧ dst ≤ 63)
  | .joinApprovalTimeout n => decide (1 ≤ n ∧ n ≤ 62)
  | .nodeApprove n => decide (1 ≤ n ∧ n ≤ 62)
  | .dklSend _ => true
  | .dklRxReturn _ => true
  | .dklTxEventRead => true
  | .dklEnable => true
  | .dklDisable => true
  | .soundingDue dst => decide (1 ≤ dst ∧ dst ≤ 63)
  | .hostDoorbell q tail => decide (q < 32) && decide (tail < 16)
  | .descriptorFetch => true
  | .hostNop slot => decide (slot < 48)
  | .install slot => decide (slot < 48)
  | .exportArchive slot => decide (slot < 48)
  | .compact slot => decide (slot < 48)
  | .hostKeygen slot => decide (slot < 48)
  | .hostAttest slot => decide (slot < 48)
  | .hostAbort slot => decide (slot < 48)
  | .hostBoot slot => decide (slot < 48)
  | .messageOperation slot => decide (slot < 48)
  | .hartCompletion n => decide (n < 4)
  | .hartRingReturn n _ => decide (n < 4)
  | .completionReturn q head => decide (q < 32) && decide (head < 16)
  | .messageTimeout slot => decide (slot < 48)
  | .queueEnable q => decide (q < 32)
  | .queueDisable q => decide (q < 32)
  | .operationComplete slot => decide (slot < 48)
  | .storageStep => true
  | .eventClear ini j _ => ini.wf && decide (j < 4)
  | .hostEventClear j _ => decide (j < 4)
  | .lineAck _ => true
  | .hostLinkChange _ => true
  | .qspiWrite _ _ => true
  | .qspiRead _ _ => true
  | .qspiStatus => true
  | .ethEnable m => decide (m < 2)
  | .ethDisable m => decide (m < 2)
  | .ethStopComplete m => decide (m < 2)
  | .ethTxTail m r _ => decide (m < 2) && decide (r < 2)
  | .ethTxComplete m r => decide (m < 2) && decide (r < 2)
  | .ethFrameReceived m _ _ => decide (m < 2)
  | .ethPause m _ => decide (m < 2)
  | .ethPauseEnd m => decide (m < 2)
  | .ethRxReturn m _ => decide (m < 2)
  | .mdioTransaction m _ => decide (m < 2)
  | .mdioDone m _ => decide (m < 2)
  | .ethConfigWrite m _ => decide (m < 2)
  | .stoRequest k _ => decide (k < 4)
  | .emmcInit _ _ _ preEol estA estB => decide (preEol < 256) && decide (estA < 256) && decide (estB < 256)
  | .emmcCommandFail => true
  | .emmcRetry => true
  | .emmcHealth preEol estA estB => decide (preEol < 256) && decide (estA < 256) && decide (estB < 256)
  | .hpRemoved => true
  | .guardLaneTraffic j _ => decide (j < 16)
  | .laneLockLost j => decide (j < 32)
  | .ringPtpFrame port _ _ _ => decide (port < 2)
  | .canRxError n lec => decide (n < 8) && decide (lec < 8)
  | .t1sLinkUp f => decide (f < 24)
  | .vehicleLinkLost c => decide (c < 48)

end Sys2Proof
end

