-- ==== Sys2Proof/Tests/Slice0.lean ====
section
/-! SUPPORT. Tests: well-formedness, single steps with results of the manual, and for every statement with hypotheses a
state and operands that meet them. -/

namespace Sys2Proof.Tests

open Sys2Proof Sys2Proof.Machine

set_option Elab.async false

/-- The state after reset with fields set: field, member, value. -/
def fields (l : List (Fld × Nat × Nat)) : State := l.foldl (fun s e => s.setF e.1 e.2.1 e.2.2) State.reset

/-- The device running, with fields set. -/
def running (l : List (Fld × Nat × Nat)) : State := { fields l with sys.phase := .running }

/-- A policy hart of a running device changed. -/
def hartAt (h : Nat) (f : HartCtx → HartCtx) : State := (running []).setHart h f


/-- The state a command answers. -/
def after (c : Instr) (s : State) : State :=
  match exec c s with
  | .next t => t
  | _ => s
/-! ### Witnesses: the bus, hart control, events -/

theorem witness_registerWrites : (blockAt 0x40000000 = some .sys ∧ ((hartAt 1 fun x => { x with mode := 0 }).hart 1).sup = false) ∧
    blockAt 0x30000000 = none ∧ (0x40010001 % 4 ≠ 0) ∧
    (∃ b f, blockAt R.EVT_LINEEN.addr = some b ∧ b.owner = some f ∧ (fields [(f, 0, 3)]).f f < 4 ∧ (fields [(f, 0, 3)]).f f ≠ 2) ∧
    ∃ b f, blockAt R.EVT_LINEEN.addr = some b ∧ b.owner = some f ∧ 4 ≤ (fields [(f, 0, 4)]).f f ∧ b ≠ .lpe ∧
      (fields [(f, 0, 4)]).returnBlocks R.EVT_LINEEN.addr = false ∧ rgAt R.EVT_LINEEN.addr = some (R.EVT_LINEEN, 0) ∧
      isLow R.EVT_LINEEN.addr = false ∧ isHigh R.EVT_LINEEN.addr = false ∧
      b.hook R.EVT_LINEEN 0 0xFF (fields [(f, 0, 4)]) = none ∧ guestRegister R.EVT_LINEEN 0 = false := by
  refine ⟨by decide, by decide, by decide, ⟨.evt, Fl.SYS_OWNER0_EVT, by decide⟩, ⟨.evt, Fl.SYS_OWNER0_EVT, by decide⟩⟩

theorem witness_registerWrites_guest : ∃ b, blockAt (R.LPE_GROUP.addrAt 4) = some b ∧ b ≠ .sys ∧ b ≠ .sfy ∧
    rgAt (R.LPE_GROUP.addrAt 4) = some (R.LPE_GROUP, 4) ∧ guestRegister R.LPE_GROUP 4 = true ∧
    guestRegister R.LPE_GROUP 3 = false ∧ State.reset.b Fl.LPE_TAKE_ACTIVE = false :=
  ⟨.lpe, by decide⟩

theorem witness_registerWrites_safety : blockAt (R.SFY_PTIM.addrAt 47) = some .sfy ∧ R.SFY_PTIM.addrAt 47 % 4 = 0 ∧
    rgAt (R.SFY_PTIM.addrAt 47) = some (R.SFY_PTIM, 47) ∧ 47 < R.SFY_PTIM.count ∧
    ({ State.reset with sfy.running := true } : State).sfy.running = true := by decide

set_option maxRecDepth 100000 in
theorem test_safetyWrite : (({ State.reset with sfy.running := true } : State) |> fun s =>
    ((sfyStore .s1 (R.SFY_PTIM.addrAt 47) 0x05060700 s).f Fl.SFY_PTIM_TFBO 47,
     (sfyStore .ring (R.SFY_PTIM.addrAt 47) 0x05060700 s).f Fl.SFY_PTIM_TFBO 47)) = (6, 30) := by decide

/-- A held low word and a loaded latch. -/
def heldState : State := { running [] with
  latches := [{ initiator := 0, addr := R.MTR_BNDL.addr, word := 7 }]
  holds := [{ initiator := 0, addr := R.MTR_BNDL.addr, word := 9 }] }

theorem witness_quantities :
    (∀ r ∈ [R.MTR_BNDL, R.TIM_CALSETL, R.EST_PACKIDL], isLow r.addr = true ∧ r.addr % 4 = 0 ∧
      (blockAt r.addr).isSome = true ∧ (blockAt (r.addr + 4)).isSome = true ∧ isLow (r.addr + 4) = false) ∧
    latchFind heldState.latches (Initiator.hart 0) R.MTR_BNDL.addr = some 7 ∧
    latchFind heldState.latches (Initiator.hart 1) R.MTR_BNDL.addr = none ∧
    latchFind heldState.holds (Initiator.hart 0) R.MTR_BNDL.addr = some 9 ∧ latchFind heldState.holds (Initiator.hart 0) 0 = none ∧
    blockAt R.MTR_BNDL.addr = some .mtr ∧ heldState.writeForbidden (Initiator.hart 0) .mtr R.MTR_BNDL.addr = false ∧
    ¬(0x40048000 ≤ R.MTR_BNDL.addr ∧ R.MTR_BNDL.addr < 0x40080000) ∧
    blockAt (R.MTR_BNDL.addr + 4) = some .mtr ∧ heldState.writeForbidden (Initiator.hart 0) .mtr (R.MTR_BNDL.addr + 4) = false ∧
    isLow (R.EST_PACKIDL.addrAt 8) = true ∧ blockAt (R.EST_PACKIDL.addrAt 8 + 4) = some .est := by decide

theorem witness_hartControl :
    ((hartAt 3 fun x => { x with run := .halted }).hart 3).run = .halted ∧
    ({ hartAt 0 fun x => { x with run := .halted } with regs := [] }).mayStart 0 = true ∧
    (State.setB (hartAt 3 fun x => { x with run := .halting }) Fl.SYS_PWRSTAT_IMGRDY 0 true).mayStart 3 = true ∧
    ((hartAt 3 fun x => { x with run := .startPending }).hart 3).run = .startPending ∧
    ((hartAt 3 fun x => { x with run := .running }).hart 3).run = .running ∧
    ((hartAt 2 fun x => { x with inbox := List.replicate 15 1 }).hart 2).inbox.length < 16 ∧
    16 ≤ ((hartAt 2 fun x => { x with inbox := List.replicate 16 1 }).hart 2).inbox.length ∧
    ((hartAt 2 fun x => { x with inbox := [5] }).hart 2).inbox = [5] ∧ ((hartAt 2 id).hart 2).inbox = [] := by decide

/-- Quad SPI selected and the device running. -/
def spiState : State := { running [(Fl.HST_STAT_LINK, 0, 1)] with sys.phase := .running, sys.hsel := 1 }

theorem witness_eventsAndQspi :
    (running []).mayWrite Fl.SYS_OWNER0_EVT (Initiator.hart 3) = true ∧ (running []).returnBlocks (R.EVT_PEND.addrAt 3) = false ∧
    spiState.sys.hsel ≠ 0 ∧ spiState.hostReady = true ∧ 0x800000 ≤ (0x800000 : BitVec 24).toNat ∧
    (0x800000 : BitVec 24).toNat - 0x800000 + [(1 : Byte)].length ≤ spiState.windowSize ∧
    spiState.readOnly (spiState.windowBase + 0) 1 = false := by decide

/-! ### Witnesses: supplies, power states, resets, boot -/

/-- The device running, with its remembered device state changed. -/
def sysWith (l : List (Fld × Nat × Nat)) (f : SysState → SysState) : State :=
  let s := running l
  { s with sys := f s.sys }

theorem witness_supplyMonitor :
    (let s := sysWith [(Fl.SYS_SAVECFG_UPS_EN, 0, 1), (Fl.SYS_PWRSTAT_STATE, 0, 2)] fun y => { y with vinOk := false }
     s.sys.phase ≠ .off ∧ s.f Fl.SYS_PWRSTAT_STATE < 3 ∧ s.sys.saveStep = 0 ∧ s.sys.saveEnd = false ∧
     s.f Fl.SYS_SAVECFG_UPS_EN = 1 ∧ s.sys.vinOk = false ∧ s.f Fl.SYS_PWRSTAT_STATE ≠ 3 ∧ s.sys.saveStep < 3) ∧
    (let s := sysWith [] fun y => { y with saveStep := 2 }
     s.sys.phase ≠ .off ∧ s.f Fl.SYS_PWRSTAT_STATE ≠ 3 ∧ s.sys.saveEnd = false ∧ s.sys.saveStep < 3) ∧
    (let s := running [(Fl.SYS_PWRSTAT_STATE, 0, 3), (Fl.SYS_SUPSTAT_HP_OK, 0, 1)]
     s.sys.phase ≠ .off ∧ s.f Fl.SYS_PWRSTAT_STATE = 3 ∧ s.f Fl.SYS_SUPSTAT_HP_OK = 1 ∧
     s.f Fl.SYS_PWRSTAT_FURL_ARMED = 0) ∧
    (let s := sysWith [] fun y => { y with phase := .off }
     s.sys.phase = .off ∧ s.sys.rstLow = false ∧ s.sys.refWait = false) := by decide

theorem witness_saveSequence :
    ((sysWith [] fun y => { y with saveStep := 1 }).sys.saveStep = 1 ∧
      (sysWith [] fun y => { y with saveStep := 7 }).sys.saveStep = 7) ∧
    (let s := sysWith [(Fl.SYS_SUPSTAT_ABOVE_WARN, 0, 1)] fun y => { y with saveStep := 8 }
     s.sys.saveStep = 8 ∧ s.f Fl.SYS_SUPSTAT_ABOVE_WARN = 1) ∧
    (let s := sysWith [(Fl.SYS_SUPSTAT_ABOVE_WARN, 0, 0), (Fl.SYS_SUPSTAT_HP_OK, 0, 1)] fun y => { y with saveStep := 8 }
     s.sys.saveStep = 8 ∧ s.f Fl.SYS_SUPSTAT_ABOVE_WARN = 0 ∧ s.f Fl.SYS_SUPSTAT_HP_OK = 1 ∧
     s.sys.phase ≠ .off ∧ s.f Fl.SYS_PWRSTAT_STATE ≠ 3 ∧ s.sys.saveStep ≠ 0) ∧
    (let s := sysWith [(Fl.SYS_SUPSTAT_ABOVE_WARN, 0, 1), (Fl.SYS_SAVESTAT_SRC, 0, 2)] fun y => { y with saveEnd := true }
     s.sys.saveEnd = true ∧ s.f Fl.SYS_SUPSTAT_ABOVE_WARN = 1 ∧ s.f Fl.SYS_SAVESTAT_SRC ≠ 4 ∧
     bitOf s.sys.heldCauses 2 = false ∧ s.sys.rstLow = false ∧ s.sys.refWait = false) := by decide

/-- Running in a power state, with sources enabled to wake the device. -/
def asleep (st src : Nat) (target : Option Nat) (committed : Bool) : State :=
  sysWith [(Fl.SYS_PWRSTAT_STATE, 0, st), (Fl.SYS_WAKEEN_SRC, 0, src)] fun y => { y with target := target, committed := committed }

theorem witness_powerLadder :
    (let s := running []
     s.sys.phase = .running ∧ s.sys.saveStep = 0 ∧ s.sys.saveEnd = false ∧ s.sys.target = none ∧
     s.f Fl.SYS_PWRSTAT_STATE = 0 ∧ s.f Fl.SYS_PWRSTAT_STATE ≠ 3) ∧
    (let s := asleep 2 0 none false
     s.sys.phase = .running ∧ s.sys.saveStep = 0 ∧ s.sys.saveEnd = false ∧ s.sys.target = none ∧
     s.f Fl.SYS_PWRSTAT_STATE = 2) ∧
    (asleep 1 0 none false).f Fl.SYS_PWRSTAT_STATE = 1 ∧
    (∀ t ∈ [1, 2, 3], let s := asleep 0 0 (some t) false
      s.sys.phase = .running ∧ s.sys.saveStep = 0 ∧ s.sys.saveEnd = false ∧ s.sys.target = some t ∧ t ≠ 0 ∧
      s.sys.committed = false) ∧
    (let s := asleep 0 0 (some 1) true
     s.sys.target = some 1 ∧ s.sys.committed = true ∧ s.sys.wakePend = 0 ∧ s.f Fl.SYS_PWRSTAT_STATE = 0) ∧
    (∀ k ∈ [1, 3], let s := asleep k 0x20 none false
      bitOf (s.f Fl.SYS_WAKEEN_SRC) 5 = true ∧ s.sys.target = none ∧ 1 ≤ s.f Fl.SYS_PWRSTAT_STATE ∧
      s.f Fl.SYS_PWRSTAT_STATE ≤ 3) ∧
    (∀ t ∈ [1, 3], let s := asleep 0 0x20 (some t) true
      bitOf (s.f Fl.SYS_WAKEEN_SRC) 5 = true ∧ s.sys.target = some t ∧ s.sys.committed = true) ∧
    (let s := asleep 2 2 none false
     s.f Fl.SYS_PWRSTAT_STATE = 2 ∧ s.sys.target = none ∧ bitOf (s.f Fl.SYS_WAKEEN_SRC) 1 = true ∧
     1000 ≤ (-1000 : Int).natAbs) := by decide

/-- A cell that is connected, so that no entry is allowed. -/
def cellRunning : State := running [(Fl.CLN_CELLST_STATE, 1023, 4)]

theorem witness_powerLadder_refused : cellRunning.entryRefusal 1 ≠ 0 ∧ cellRunning.entryRefusal 3 ≠ 0 := by
  refine ⟨by decide +kernel, by decide +kernel⟩

theorem witness_powerLadder_allowed : (running []).entryRefusal 1 = 0 ∧ (running []).entryRefusal 2 = 0 ∧
    (running []).entryRefusal 3 = 0 := by
  refine ⟨by decide +kernel, by decide +kernel, by decide +kernel⟩

theorem witness_resets :
    (let s := running [(Fl.SYS_WDTCTL_EN, 0, 1)]
     s.sys.phase ≠ .off ∧ s.f Fl.SYS_PWRSTAT_STATE ≠ 3 ∧ s.sys.saveStep = 0 ∧ s.sys.saveEnd = false ∧
     s.f Fl.SYS_WDTCTL_EN = 1 ∧ (0x5B : Byte) ≠ 0x5A ∧ s.sys.phase = .running ∧ s.sys.phase ≠ .held ∧
     s.sys.wdtHalf = false ∧ s.sys.clockWindow ≠ some false ∧ 100 < 20 * (max 106 100 - min 106 100)) ∧
    (let s := sysWith [] fun y => { y with phase := .held, refWait := true }
     s.sys.phase = .held ∧ s.sys.rstLow = false) ∧
    (let s := sysWith [] fun y => { y with phase := .held, rstLow := true }
     s.sys.phase ≠ .off ∧ s.sys.rstLow = true ∧ s.sys.phase = .held ∧ s.sys.refWait = false) ∧
    (let s := sysWith [] fun y => { y with coldWait := true }
     s.sys.coldWait = true ∧ s.sys.rstLow = false ∧ s.sys.refWait = false ∧ s.f Fl.SYS_WDTCTL_EN = 0) ∧
    (let s := running [(Fl.RNG_STAT_STATE, 0, rSplicing), (Fl.RNG_SPL_STEP, 0, 2)]
     s.ringState = rSplicing ∧ s.f Fl.RNG_SPL_STEP = 2) := by decide

/-- A cold boot with each track at a step. -/
def coldBoot (m sh an : Nat) : State :=
  { State.reset with sys := { mainStep := m, shroudStep := sh, analogStep := an } }

/-- Leaving Stow with the handler started or not. -/
def leavingStow (l : List (Fld × Nat × Nat)) (started : Bool) : State :=
  let s := sysWith l fun y => { y with target := some 0, committed := true, resumeStarted := started }
  let r : ResumeRecord :=
    { sram := 0x20000000, start := 0x10100000, len := 4, hash := Config.shake256 (s.bytes 0x10100000 4) 32 }
  { s with images.resume := some r }

theorem witness_boots :
    (∀ m ∈ [0, 1, 5], let s := coldBoot m 0 0
      s.sys.phase = .booting ∧ s.sys.bootKind = .cold ∧ s.sys.saveStep = 0 ∧ s.sys.saveEnd = false ∧
      s.sys.mainStep = m ∧ s.sys.shroudStep = 0) ∧
    (let s := coldBoot 5 2 1
     s.sys.mainStep = 5 ∧ s.sys.shroudStep = 2 ∧ s.sys.analogStep = 1 ∧ s.sys.phase = .booting) ∧
    (let s : State := { fields [(Fl.THM_JSTAT_NVOK, 0, 1)] with sys := { nvPause := true, mainStep := 2 } }
     s.sys.phase = .booting ∧ s.sys.nvPause = true ∧ s.f Fl.THM_JSTAT_NVOK = 1) ∧
    (∀ k ∈ [0, 1], let t := running [(Fl.THM_JSTAT_NVOK, 0, 1), (Fl.SYS_SUPSTAT_ABOVE_HOLD, 0, 1)]
      let s : State := { t with sys.slotA.state := .trial, sys.slotB.state := .trial, images.slot := some k }
      s.images.slot = some k ∧ s.f Fl.SYS_BOOTSTAT_SOURCE = 0 ∧ (s.imgSlot k).state = .trial ∧ s.nvOk = true) ∧
    (let s := leavingStow [] true
     s.sys.resumeStarted = true ∧ s.f Fl.SYS_PWRSTAT_IMGRDY = 0 ∧ s.images.slot = none ∧
     s.f Fl.SYS_PWRSTAT_ANARDY = 0) ∧
    (let s := leavingStow [(Fl.STO_STAT_STATE, 0, 2)] true
     s.f Fl.SYS_PWRSTAT_IMGRDY = 0 ∧ s.f Fl.STO_STAT_STATE = 2) ∧
    (let s := leavingStow [(Fl.SYS_PWRSTAT_IMGRDY, 0, 1)] true
     s.sys.resumeStarted = true ∧ s.f Fl.SYS_PWRSTAT_IMGRDY = 1 ∧ s.f Fl.SYS_PWRSTAT_SFYRDY = 0) := by decide

theorem witness_boots_handler : ∃ r, let s := leavingStow [(Fl.SYS_PWRSTAT_STATE, 0, 3)] false
    s.f Fl.SYS_PWRSTAT_STATE = 3 ∧ s.sys.target = some 0 ∧ s.sys.resumeStarted = false ∧ s.images.resume = some r ∧
    Config.shake256 (s.bytes r.start r.len) 32 = r.hash :=
  ⟨_, by decide, rfl, rfl, rfl, rfl⟩

/-- An operation of the host in slot 0. -/
def hostOp (op len : Nat) : HostOp :=
  { queue := 0, tag := 0, op := op, flags := 0, len := len, addr := 0, raddr := 0, rlen := 0, args := [], raw := [], state := 2 }

/-- An operation in a slot of a device, with fields set. -/
def hostWith (l : List (Fld × Nat × Nat)) (k : Nat) (o : HostOp) : State :=
  let s := running l
  { s with host.slots := s.host.slots.set! k (some o) }

theorem witness_boots_host :
    (∀ b ∈ [0, 1], let s := hostWith [(Fl.HST_STAT_BOOTROM, 0, b), (Fl.HST_WIN_SIZE, 0, 1)] 47 (hostOp 0x8F 0x100000)
      s.op 47 = some (hostOp 0x8F 0x100000) ∧ s.f Fl.HST_STAT_BOOTROM = b ∧
      s.reachable { hostOp 0x8F 0x100000 with flags := 0 } 0 0x100000 = true ∧ s.sys.bootsel ≠ 3 ∧
      s.sys.phase ≠ .bootHold) := by decide

/-! ### Witnesses: the policy harts -/

/-- A device whose hart `h` runs, changed by `f`. -/
def runs (h : Nat) (f : HartCtx → HartCtx) : State :=
  (running [(Fl.SYS_PWRSTAT_IMGRDY, 0, 1)]).setHart h fun x => f { x with run := .running }

/-- A hart with g2 at an address. -/
def at2 (a : Word) (x : HartCtx) : HartCtx := x.setR 2 a

theorem witness_executes :
    Executes 0 (runs 0 id) ∧ Executes 3 (runs 3 fun x => { x with pc := 0x20001000 }) ∧
    (((30 : RegNum).getLsbD 0 = false) ∧ (0 : RegNum).getLsbD 0 = false ∧ (31 : BitVec 16).toNat < 32) := by
  unfold Executes; decide

theorem witness_hartLoads :
    (∀ e ∈ [(0x20000000, 1), (0x217FFFFF, 1), (0x217FFFFE, 2), (0x10100000, 4), (0x103FFFF8, 8), (0x30003FF8, 8), (0x28000000, 4)],
      let s := runs 1 (at2 (BitVec.ofNat 32 e.1))
      ((s.hart 1).r 2).toNat = e.1 ∧ e.1 % e.2 = 0 ∧ (s.hart 1).allows e.1 8 = true ∧
      loaded s 1 e.1 e.2 = some (List.replicate e.2 0)) ∧
    (let s := runs 1 (at2 0x40000000)
     let x := s.hart 1
     (x.r 2).toNat % 4 = 0 ∧ x.allows (x.r 2).toNat 8 = true ∧ areaOf (x.r 2).toNat = .block ∧
     (busRead (.hart 1) (x.r 2).toNat (setPc 1 (x.pc + 4) s)).busError = false) := by decide

theorem witness_hartStores :
    (∀ e ∈ [(0x20000000, 1), (0x217FFFFE, 2), (0x103FFFFC, 4), (0x280007F8, 8)],
      let s := (runs 1 (at2 (BitVec.ofNat 32 e.1))).setF Fl.THM_JSTAT_NVOK 0 1 |>.setF Fl.SYS_SUPSTAT_ABOVE_HOLD 0 1
      StoresToMemory s 1 e.1 e.2) ∧
    (∀ a ∈ [0x30000000, 0x30003FF8], let x := (runs 1 (at2 (BitVec.ofNat 32 a))).hart 1
      areaOf a = .localStore ∧ x.allows a 9 = true ∧ x.sup = true ∧ a % 8 = 0) ∧
    (let x := (runs 1 fun x => { at2 0x30003FBF x with mode := 0, rgnBase := x.rgnBase.set! 0 0x30000000, rgnAttr := x.rgnAttr.set! 0 0x8000020E }).hart 1
     areaOf 0x30003FBF = .localStore ∧ x.allows 0x30003FBF 9 = true ∧ x.sup = false ∧ 0x30003FBF < 0x30003FC0) := by
  unfold StoresToMemory; decide

theorem witness_hartTraps :
    (let s := runs 2 id
     Executes 2 s ∧ (s.hart 2).mode.getLsbD 5 = false ∧ (s.hart 2).sup = true ∧ (1 : RegNum).getLsbD 0 = true ∧
     32 ≤ (32 : BitVec 16).toNat ∧ ((s.hart 2).r 0 + (1 : BitVec 16).signExtend 32).toNat % 4 ≠ 0 ∧
     ((s.hart 2).r 0 + (1 : BitVec 16).signExtend 32).toNat % 2 ≠ 0) ∧
    (let s := runs 2 (at2 0x10400000)
     areaOf ((s.hart 2).r 2).toNat = .unmapped ∧ ((s.hart 2).r 2).toNat % 4 = 0) ∧
    (let s := runs 2 fun x => { x with mode := 0, pc := 0x20000000, rgnBase := x.rgnBase.set! 0 0x20000000, rgnAttr := x.rgnAttr.set! 0 0x8000040E }
     Executes 2 s ∧ (s.hart 2).mode.getLsbD 5 = false ∧ (s.hart 2).sup = false) := by
  unfold Executes; decide

/-- A hart whose g1 names an SRAM word, holding a reservation of a granule. -/
def reserving (a : Word) (r : Option (Nat × Nat)) : State := runs 1 fun x => { x.setR 1 a with reservation := r }

theorem witness_hartAtomics :
    (∀ a ∈ [0x20000000, 0x217FFFFC], let s := reserving (BitVec.ofNat 32 a) none
      Executes 1 s ∧ ((s.hart 1).r 1).toNat % 4 = 0 ∧ inSram ((s.hart 1).r 1).toNat 4 = true ∧
      (s.hart 1).allows ((s.hart 1).r 1).toNat 8 = true ∧ (s.hart 1).allows ((s.hart 1).r 1).toNat 9 = true ∧
      s.readOnly ((s.hart 1).r 1).toNat 4 = false) ∧
    (let s : State := { reserving 0x2000001C (some (0x1000000, 10)) with tick := 265 }
     (s.hart 1).reservation = some (0x1000000, 10) ∧ 0x1000000 = ((s.hart 1).r 1).toNat / 32 ∧ s.tick < 10 + 256) ∧
    (let s : State := { reserving 0x2000001C (some (0x1000000, 10)) with tick := 266 }
     (s.hart 1).reservation = some (0x1000000, 10) ∧ 10 + 256 ≤ s.tick) ∧
    (let s := reserving 0x20000020 (some (0x1000000, 0))
     (s.hart 1).reservation = some (0x1000000, 0) ∧ 0x1000000 ≠ ((s.hart 1).r 1).toNat / 32) ∧
    (let s := (reserving 0x20000020 none).setHart 2 fun x => { x with reservation := some (0x1000001, 0) }
     (s.hart 2).reservation = some (0x1000001, 0) ∧ 0x1000001 = ((s.hart 1).r 1).toNat / 32) := by
  unfold Executes; decide

theorem witness_hartSystem :
    (let s := runs 1 fun x => { x with cwLatch := some (4, 7) }
     Executes 1 s ∧ (s.hart 1).sup = true ∧ (s.hart 1).cwLatch = some (4, 7) ∧ bitOf s.activeHartLines 1 = false ∧
     s.pendingIrq 1 = none ∧ 0 ≤ (s.eventTime - (s.hart 1).r 1).toInt) ∧
    (let s := (runs 1 fun x => x.setR 1 1)
     (s.eventTime - (s.hart 1).r 1).toInt < 0 ∧ s.pendingIrq 1 = none) ∧
    (let s := runs 1 fun x => { x with mode := 0x11, inbox := [3] }
     Executes 1 s ∧ (s.pendingIrq 1).isSome = true) := by
  unfold Executes; decide

/-- Event source 0 pending and routed to wake P0. -/
def eventPending : List (Fld × Nat × Nat) :=
  [(Fl.SYS_PWRSTAT_IMGRDY, 0, 1), (Fl.EVT_PEND_PEND, 0, 1), (Fl.EVT_ROUTE_WAKE, 0, 1)]

theorem witness_hartInterrupts :
    (∀ w ∈ [WaitState.none, .event], let s := (running eventPending).setHart 0 fun x => { x with run := .running, mode := 0x07, wait := w }
      let x := s.hart 0
      x.run = .running ∧ s.hartsClocked = true ∧ x.mode.getLsbD 1 = true ∧ x.mode.getLsbD 5 = false ∧
      x.mode.getLsbD 2 = true ∧ bitOf s.activeHartLines 0 = true ∧ s.waitOver 0 x.wait = true) ∧
    (let s := runs 0 fun x => { x with mode := 0x0F, wait := .event }
     let x := s.hart 0
     x.mode.getLsbD 1 = true ∧ bitOf s.activeHartLines 0 = false ∧ x.mode.getLsbD 3 = true ∧
     0 ≤ (s.eventTime - x.alarm).toInt ∧ x.wait ≠ .none) ∧
    (let s := runs 0 fun x => { x with mode := 0x1E, alarm := 1, inbox := [0] }
     let x := s.hart 0
     x.mode.getLsbD 1 = true ∧ bitOf s.activeHartLines 0 = false ∧ (s.eventTime - x.alarm).toInt < 0 ∧
     x.mode.getLsbD 4 = true ∧ x.inbox ≠ []) ∧
    (let x := (runs 0 id).hart 0
     x.run = .running ∧ x.mode.getLsbD 1 = false) ∧
    (let s := runs 0 fun x => { x with wait := .time 1 }
     s.hartsClocked = true ∧ (s.hart 0).wait ≠ .none ∧ s.waitOver 0 (s.hart 0).wait = false) := by decide

/-- P0 at a service of the boot ROM, with tickets. -/
def service (pc : Word) (a b c d : Option Ticket) : State :=
  let s := runs 0 fun x => { (x.setR 2 1).setR 4 4 with pc := pc }
  { s with images.tickets := #v[a, b, c, d] }

/-- A ticket of an image with a status. -/
def ticketOf (st : Nat) : Ticket := { addr := 0x20000000, len := 9, status := st }

theorem witness_imageServices_first : (let s := service 0xFF00 none none none none
    s.hartRuns 0 = true ∧ (s.hart 0).sup = true ∧ (s.hart 0).pc = 0xFF00 ∧ s.ticket 1 = none) := by decide

theorem witness_imageServices_last : (let s := service 0xFF14 none none none none
    s.hartRuns 0 = true ∧ (s.hart 0).sup = true ∧ (s.hart 0).pc = 0xFF14 ∧ s.ticket 1 = none) := by decide

theorem witness_imageServices_tickets :
    (let s := service 0xFF00 (some (ticketOf 0)) (some (ticketOf 1)) (some (ticketOf 2)) none
     s.ticket 4 = none ∧ ∀ j, j < 3 → (s.ticket (j + 1)).isSome = true) ∧
    (let s := service 0xFF00 (some (ticketOf 0)) (some (ticketOf 1)) (some (ticketOf 2)) (some (ticketOf 0))
     ∀ j, j < 4 → (s.ticket (j + 1)).isSome = true) ∧
    (let s := service 0xFF08 (some (ticketOf 0)) none none none
     s.ticket ((s.hart 0).r 2).toNat = some (ticketOf 0) ∧ (ticketOf 0).status ≠ 1) := by decide

theorem witness_imageServices_slot :
    (let s := (service 0xFF0C (some (ticketOf 1)) none none none).setBytes 0x20000008 [1]
     imgType (s.bytes (ticketOf 1).addr (ticketOf 1).len) = 1 ∧
     s.ticket ((s.hart 0).r 2).toNat = some (ticketOf 1) ∧ (ticketOf 1).status = 1 ∧ s.nvOk = false) := by
  decide

/-- P0 at RESUME_SET with an SRAM address, a range and its length. -/
def resuming (sram lo len : Word) : State :=
  (((service 0xFF14 none none none none).setHart 0 fun x => ((x.setR 2 sram).setR 3 lo).setR 4 len).setF
    Fl.THM_JSTAT_NVOK 0 1).setF Fl.SYS_SUPSTAT_ABOVE_HOLD 0 1

theorem witness_imageServices_resume :
    (let s := resuming 0x20000000 0x103FFFFC 4
     let x := s.hart 0
     0x10100000 ≤ (x.r 3).toNat ∧ (x.r 3).toNat + (x.r 4).toNat ≤ 0x10400000 ∧ 4 ≤ (x.r 4).toNat ∧
     (x.r 4).toNat ≤ 16384 ∧ inSram (x.r 2).toNat (x.r 4).toNat = true ∧ s.nvOk = true) ∧
    ((resuming 0x20000000 0x100FFFFC 4).hart 0).r 3 < 0x10100000 ∧
    16384 < ((resuming 0x20000000 0x10100000 16388).hart 0).r 4 := by decide

/-! ### Witnesses: the loop engine -/

/-- One VLDI in each of the kernel slots 0 and 15, with fields set. -/
def loopWith (l : List (Fld × Nat × Nat)) (f : LpeState → LpeState) : State :=
  let s := running l
  { s with lpe := f { s.lpe with kernels := [(0, 0x101), (1, 0x04000000), (7680, 0x101), (7681, 0x04000000)] } }

/-- Batch 31 of group 3, enabled or not, with kernel slot 0. -/
def batchFields (en st : Nat) : List (Fld × Nat × Nat) :=
  [(Fl.LPE_BATCH_GROUP, 31, 3), (Fl.LPE_BATCH_EN, 31, en), (Fl.LPE_BATCH_KERNEL, 31, 0), (Fl.LPE_BSTAT_STATE, 31, st),
   (Fl.LPE_LAUNCH_OFFSET, 0, 500), (Fl.LPE_GROUP_PERIOD, 3, 2000)]

theorem witness_vectorInstructions :
    (let s := loopWith [] id
     bitOf s.lpe.curMask 15 = true) ∧ (15 : BitVec 4) ≠ 0 ∧ (1 : BitVec 4) ≠ 0 := by decide

theorem witness_loopConfiguration_batch :
    (∀ st ∈ [0, 2], let s := loopWith (batchFields 0 st) id
      s.f Fl.LPE_BATCH_GROUP 31 < 4 ∧ s.f Fl.LPE_BATCH_EN 31 = 0 ∧
      s.kernelCheck (s.f Fl.LPE_BATCH_KERNEL 31) = 0 ∧ s.f Fl.LPE_BSTAT_STATE 31 = st) ∧
    (let s := loopWith ((Fl.LPE_BATCH_KERNEL, 31, 1) :: batchFields 0 0) id
     s.kernelCheck 1 = 1) ∧
    (let s := loopWith (batchFields 1 1) id
     s.f Fl.LPE_BATCH_EN 31 = 1 ∧ 15 ≠ s.f Fl.LPE_BATCH_KERNEL 31 ∧ s.kernelCheck 15 = 0) := by decide +kernel

theorem witness_loopConfiguration_fits :
    (let s := loopWith (batchFields 0 0) id
     let new (fl : Fld) (v : Nat) : State := s.setReg R.LPE_BATCH 31 (withBits (s.reg R.LPE_BATCH 31) fl.lsb fl.width v &&& R.LPE_BATCH.rw)
     (new Fl.LPE_BATCH_EN 1).loadOk = true ∧ (new Fl.LPE_BATCH_EN 1).launchOk = true) ∧
    (let s := loopWith (batchFields 1 1) id
     let new (fl : Fld) (v : Nat) : State := s.setReg R.LPE_BATCH 31 (withBits (s.reg R.LPE_BATCH 31) fl.lsb fl.width v &&& R.LPE_BATCH.rw)
     (new Fl.LPE_BATCH_KERNEL 15).loadOk = true ∧ (new Fl.LPE_BATCH_KERNEL 15).launchOk = true ∧
     (new Fl.LPE_BATCH_MASK 0xFFFF).loadOk = true ∧ (new Fl.LPE_BATCH_MASK 0xFFFF).launchOk = true) := by decide +kernel

/-- Group 3, enabled or not, with a period. -/
def groupFields (en p : Nat) : State := loopWith [(Fl.LPE_GROUP_EN, 3, en), (Fl.LPE_GROUP_PERIOD, 3, p)] id

theorem witness_loopConfiguration_group :
    (∀ p ∈ [2000, 20000], let s := groupFields 0 p
      s.f Fl.LPE_GROUP_EN 3 = 0 ∧ 2000 ≤ s.f Fl.LPE_GROUP_PERIOD 3 ∧ s.f Fl.LPE_GROUP_PERIOD 3 ≤ 20000 ∧
      s.laneNames 3 = false ∧ (s.setReg R.LPE_GROUP 3 (withBits (withBits (s.reg R.LPE_GROUP 3) 31 1 1 &&& R.LPE_GROUP.rw)
        16 2 (bitsOf (s.reg R.LPE_GROUP 3) 16 2))).loadOk = true) ∧
    1999 < 2000 ∧ 20000 < 20001 := by decide +kernel

theorem witness_loopConfiguration_launch :
    (let s := loopWith (batchFields 1 1) id
     7 < 512 ∧ (s.setF Fl.LPE_LAUNCH_OFFSET 0 7).launchOk = true ∧ (s.setF Fl.LPE_LAUNCH_OFFSET 0 6).launchOk = false) := by
  decide +kernel

/-- A pool of `n` coefficient words. -/
def poolOf (n : Nat) : List PoolWrite := List.replicate n { bank := 0, slot := 0, w := 1, v := 0, own := false }

theorem witness_loopConfiguration_coefficient :
    (let s := loopWith [] id
     s.mayWrite Fl.SYS_OWNER0_LPE (.hart 3) = true ∧ s.portCell 511 = false ∧ s.slotRuns 511 = false) ∧
    (∀ n ∈ [63, 64], let s := loopWith ((Fl.LPE_GROUP_EN, 3, 1) :: batchFields 1 1) fun y => { y with pool := poolOf n }
      s.slotRuns 511 = true ∧ s.lpe.pool.length = n) := by decide

/-- A batch that waits. -/
def readyOf (b window : Nat) (late : Bool) : ReadyBatch :=
  { batch := b, group := 7, window := window, due := 10, kernel := 0, mask := 0xFFFF, init := 0, ins := [], coef := [],
    exceeded := [], late := late }

/-- Group 7 with a running grid, two batches waiting. -/
def gridRuns : State :=
  loopWith [(Fl.CLN_LANECFG_GROUP, 31, 7), (Fl.CLN_LANESTAT_STATE, 31, 6)] fun y =>
    { y with group := y.group.setIfInBounds 7 { grid := true, ticks := 2 }, ready := [readyOf 63 0 false, readyOf 62 1 true] }

theorem witness_loopRunning_tick :
    (gridRuns.lg 7).grid = true ∧ nextReady gridRuns.lpe.ready = some (readyOf 62 1 true) ∧
    (readyOf 63 0 false).window + 2 ≤ (gridRuns.lg 7).ticks ∧ (readyOf 63 0 false).late = false ∧
    gridRuns.exchanging 31 = true ∧ gridRuns.f Fl.CLN_LANECFG_GROUP 31 = 7 := by decide

theorem witness_loopRunning_units :
    (let s := loopWith ((Fl.LPE_INJNODE_NODE, 0, 1) :: (Fl.LPE_INJCTL_BATCH, 0, 31) :: batchFields 1 1) id
     s.batchOn (s.f Fl.LPE_INJCTL_BATCH) = true ∧
     s.nodeWrites (s.f Fl.LPE_INJCTL_BATCH) (s.f Fl.LPE_INJNODE_NODE) = true ∧ s.f Fl.LPE_INJCTL_WAVE ≠ 3) ∧
    (let s := loopWith [(Fl.LPE_INJCTL_RUN, 0, 1), (Fl.LPE_INJLEN_LEN, 0, 5)] fun y => { y with inj := { y.inj with n := 5 } }
     s.f Fl.LPE_INJCTL_RUN = 1 ∧ s.f Fl.LPE_INJLEN_LEN ≤ s.lpe.inj.n ∧ s.batchOn (s.f Fl.LPE_INJCTL_BATCH) = false) ∧
    (let s := loopWith [] fun y => { y with cap := { y.cap with full := true }, signal := some true }
     s.lpe.cap.full = true ∧ s.lpe.signal = some true) ∧
    (let s := loopWith [(Fl.LPE_FECFG_EN, 63, 1), (Fl.LPE_GROUP_EN, 3, 1)] fun y => { y with feCount := [(1023, 1)], signal := some false }
     s.f Fl.LPE_FECFG_EN (1023 / 16) = 1 ∧ max 1 (s.f Fl.LPE_FECFG_TIMER (1023 / 16)) ≤ cellsGet 0 s.lpe.feCount 1023 ∧
     1023 ∉ s.lpe.feActed ∧ s.lpe.signal = some false ∧ s.f Fl.LPE_GROUP_EN 3 = 1) := by decide +kernel

/-! ### Witnesses: cell lanes -/

/-- Lane `j` in a state, with fields set and its link changed. -/
def laneAt (j st : Nat) (l : List (Fld × Nat × Nat)) (f : LaneLink → LaneLink) : State :=
  let s := running ((Fl.CLN_LANESTAT_STATE, j, st) :: l)
  { s with cln := { s.cln with link := s.cln.link.setIfInBounds j (f {}) } }

theorem witness_laneLife :
    (∀ j ∈ [0, 15, 31], ∀ st ∈ [0, 2, 3, 4, 5, 6], (laneAt j st [] id).laneSt j = st) ∧
    (∀ k ∈ [7, 8], let s := laneAt 15 1 [(Fl.CLN_LANECFG_EN, 15, 1)] fun x => { x with step := k }
      s.laneSt 15 = 1 ∧ s.f Fl.CLN_LANECFG_EN 15 = 1 ∧ (s.ln 15).step = k) ∧
    (laneAt 15 1 [] fun x => { x with step := 6 }).laneSt 15 = 1 := by decide

theorem witness_laneLife_map :
    (let s := laneAt 15 1 [(Fl.CLN_LANESTAT_NENUM, 15, 32)] fun x => { x with step := 3 }
     (s.ln 15).step = 3 ∧ 31 < s.f Fl.CLN_LANESTAT_NENUM 15 ∧ s.slotsAt 15 31 = [511] ∧
     recReason (s.f Fl.CLN_CTL_RAMPMAX) [] = 5) ∧
    (let s := laneAt 0 0 [] id
     let new := s.setReg R.CLN_CELLMAP 511 (0xFFFFFFFF &&& R.CLN_CELLMAP.rw)
     s.laneSt (s.mapLane 511) = 0 ∧ s.laneSt (new.mapLane 511) = 0) ∧
    (let s := laneAt 15 2 [] id
     s.laneSt (s.mapLane 511) ≠ 0) ∧
    (running []).f Fl.LPE_TAKE_ACTIVE = 0 := by decide +kernel

/-- The wire bytes of a body under its check. -/
def guardSync : List Byte := [1, 0, BitVec.ofNat 8 (crc8 [1, 0])]

theorem witness_laneTraffic :
    (let s := laneAt 31 6 [] fun x => { x with admitted := [(0, 512), (1, 513)], telemetry := [(0, [])] }
     s.exchanging 31 = true ∧ s.f Fl.CLN_LANESTAT_SCHEDERR 31 = 0 ∧ ((s.ln 31).admitted.map (·.2)).Nodup ∧
     frameOk [1, 2, 3] = false) ∧
    (let s := laneAt 15 2 [(Fl.CLN_CELLMAP_LANE, 511, 15), (Fl.CLN_CELLST_STATE, 511, 3), (Fl.CLN_CELLST_STALE, 511, 3)] id
     s.cellLane 511 = 15 ∧ s.f Fl.CLN_CELLST_STATE 511 = 3 ∧ s.f Fl.CLN_CELLST_STALE 511 = 3) ∧
    (let s := laneAt 15 2 [(Fl.CLN_CELLMAP_LANE, 511, 15), (Fl.CLN_CELLST_STATE, 511, 5)] id
     s.cellLane 511 = 15 ∧ s.f Fl.CLN_CELLST_STATE 511 = 5 ∧ (s.ln 15).readmit = none ∧ s.exchanging 15 = true) ∧
    (let s := laneAt 15 2 [(Fl.CLN_CELLMAP_LANE, 511, 15)] fun x => { x with readmit := some 511 }
     (s.ln 15).readmit = some 511) ∧
    (laneAt 31 6 [(Fl.CLN_LANECFG_ERRTH, 31, 1), (Fl.CLN_ERRC_RELOCK, 31, 1)] id).errReached 31 = true := by decide

theorem witness_laneTraffic_management :
    (∀ n ∈ [1, 32], let s := laneAt 31 6 [(Fl.CLN_MGREQ_LANE, 0, 31), (Fl.CLN_MGREQ_LEN, 0, n)] id
      s.f Fl.CLN_MGSTAT_BUSY = 0 ∧ s.f Fl.CLN_MGREQ_LANE = 31 ∧ s.f Fl.CLN_MGREQ_LEN = n ∧ s.laneSt 31 = 6) ∧
    (let s := laneAt 31 5 [(Fl.CLN_MGREQ_LANE, 0, 31), (Fl.CLN_MGREQ_LEN, 0, 33)] id
     s.f Fl.CLN_MGREQ_LANE = 31 ∧ 32 < s.f Fl.CLN_MGREQ_LEN ∧ ¬(s.laneSt 31 = 2 ∧ 31 < 16 ∨ s.laneSt 31 = 6)) ∧
    (let s := running [(Fl.CLN_MGSTAT_BUSY, 0, 1), (Fl.CLN_MGREQ_LEN, 0, 32)]
     let t : State := { s with cln.request := some (31, 3) }
     t.f Fl.CLN_MGSTAT_BUSY = 1 ∧ t.f Fl.CLN_MGREQ_WR = 0 ∧ 4 * 7 < t.f Fl.CLN_MGREQ_LEN ∧
     4 * 7 < (List.replicate 29 (0 : Byte)).length ∧ t.cln.request = some (31, 3)) := by decide

theorem witness_laneTraffic_guard :
    (let s := laneAt 31 5 [(Fl.RNG_STAT_GUEST, 0, 1), (Fl.CLN_CELLMAP_VALID, 1023, 1), (Fl.CLN_CELLMAP_LANE, 1023, 15),
       (Fl.CLN_STAT_GUARDOK, 0, 0x8000)] id
     s.laneSt 31 = 5 ∧ s.f Fl.RNG_STAT_GUEST = 1 ∧ s.laneSlots 31 ≠ [] ∧
     bitOf (s.f Fl.CLN_STAT_GUARDOK) (31 - 16) = true ∧ (s.ln 31).synced = false) := by decide +kernel

/-- A telemetry frame from position 31: a body of format A under its check. -/
def goodFrame : List Byte :=
  let body : List Byte := 63 :: List.replicate 12 0
  body ++ leBytes 2 (crc16 body)

theorem witness_laneTraffic_telemetry : frameOk goodFrame = true ∧
    (goodFrame.headD 0).toNat = (1 + (running []).f Fl.CLN_LANESTAT_FMT 31) * 32 + 31 ∧ goodFrame.length = 15 := by
  decide +kernel

/-- A capability record that refuses nothing. -/
def goodRecord : List Byte :=
  let body : List Byte := [0, 0, 0, 0, 0, 0, 0, 0, 1, 1, 1, 1] ++ List.replicate 18 0
  body ++ leBytes 2 (crc16 body)

theorem witness_laneLife_record : recReason 0 goodRecord = 0 ∧ recReason 0 [] ≠ 0 := by decide +kernel

/-! ### Witnesses: port power -/

/-- A port group in a state, enabled, with fields set and its remembered values changed. -/
def groupAt (g st : Nat) (l : List (Fld × Nat × Nat)) (f : PrtGroup → PrtGroup) : State :=
  let s := loopWith ((Fl.PRT_GSTAT_STATE, g, st) :: (Fl.PRT_GCFG_EN, g, 1) :: (Fl.LPE_LAUNCH_OFFSET, 0, 7) :: l) id
  { s with prt := { s.prt with group := s.prt.group.setIfInBounds g (f {}) } }

theorem witness_portCommands :
    (∀ g ∈ [0, 79], (running []).f Fl.PRT_GCFG_EN g = 0 ∧ (groupAt g 0 [] id).f Fl.PRT_GCFG_EN g = 1) ∧
    (let s := groupAt 79 0 [] id
     ¬(s.f Fl.PRT_CELL_GROUP 1023 < 80 ∧ s.f Fl.PRT_GCFG_EN (s.f Fl.PRT_CELL_GROUP 1023) = 1) ∧
     ¬(78 < 80 ∧ s.f Fl.PRT_GCFG_EN 78 = 1) ∧ (79 < 80 ∧ s.f Fl.PRT_GCFG_EN 79 = 1)) ∧
    (let s := groupAt 23 gOff [] id
     s.gst 23 = gOff ∧ s.f Fl.PRT_GCFG_ROLE 23 = 0 ∧ max (s.f Fl.PRT_CNOM_CNOM 23) (s.f Fl.PRT_CIDENT_CIDENT 23) = 0) ∧
    (let s := groupAt 23 gOff [(Fl.PRT_CNOM_CNOM, 23, 100), (Fl.PRT_VSET_VSET, 23, 20000000), (Fl.PRT_EMAX_ECHK, 23, 20000)] id
     2 * s.f Fl.PRT_EMAX_ECHK 23 * 10 ^ 12 = 100 * s.f Fl.PRT_VSET_VSET 23 * s.f Fl.PRT_VSET_VSET 23 ∧
     max (s.f Fl.PRT_CNOM_CNOM 23) (s.f Fl.PRT_CIDENT_CIDENT 23) = 100) ∧
    (let s := groupAt 23 gOff [(Fl.PRT_CNOM_CNOM, 23, 100), (Fl.PRT_VSET_VSET, 23, 20000001), (Fl.PRT_EMAX_ECHK, 23, 20000)] id
     2 * s.f Fl.PRT_EMAX_ECHK 23 * 10 ^ 12 < 100 * s.f Fl.PRT_VSET_VSET 23 * s.f Fl.PRT_VSET_VSET 23) ∧
    (let s := groupAt 79 gOff [(Fl.PRT_GCFG_ROLE, 79, 3)] id
     s.gst 79 = gOff ∧ s.f Fl.PRT_GCFG_ROLE 79 = 3) := by decide +kernel

theorem witness_portCommands_states :
    (let s := groupAt 23 gCheck [] id
     s.gst 23 = gCheck ∧ decide ((s.f Fl.PRT_VSET_VSET 23 : Int) ≤ 5 * s.vehicleV 23) = true ∧
     s.kernelsFit (s.groupBatches 23) (s.f Fl.PRT_GCFG_KVOLT 23) = true) ∧
    (let s := groupAt 23 gCheck [(Fl.PRT_VSET_VSET, 23, 1)] id
     decide ((s.f Fl.PRT_VSET_VSET 23 : Int) ≤ 5 * s.vehicleV 23) = false ∧ (s.pg 23).voltMode = false) ∧
    (∀ st ∈ [gReady, gZero, gRunI, gRunV, gRampdown, gOff, gFault], (groupAt 79 st [] id).gst 79 = st ∧
      ((groupAt 79 st [] id).pg 79).voltMode = (0 == 1) ∧ ((groupAt 79 st [] id).pg 79).pendCmd = none) ∧
    pendState gRampdown = true ∧ pendState gWeld = true := by decide +kernel

theorem witness_portSequence :
    (let s := groupAt 0 gClosing [] fun x => { x with target := gCheck, voltMode := true }
     s.gst 0 = gClosing ∧ (s.pg 0).target = gCheck ∧ (s.pg 0).voltMode = true) ∧
    (let s := groupAt 23 gPrecharge [(Fl.MTR_FTV_V_FT, 23, 405000), (Fl.PRT_VSET_VSET, 23, 400000), (Fl.PRT_PCFG_VTOL, 23, 5)] fun x => { x with preStep := 5 }
     s.gst 23 = gPrecharge ∧ (s.pg 23).preStep = 5 ∧
     (s.vehicleV 23 - (s.f Fl.PRT_VSET_VSET 23 : Int)).natAbs ≤ s.f Fl.PRT_PCFG_VTOL 23 * 1000) ∧
    (let s := groupAt 23 gRampdown [(Fl.MTR_FTI_I_FT, 23, 4999)] id
     s.gst 23 = gRampdown ∧ (s.groupI 23).natAbs < 5000 ∧ (s.pg 23).pendCmd = none) ∧
    (let s := groupAt 23 gDischarge [(Fl.MTR_FTV_V_FT, 23, 59999)] id
     s.gst 23 = gDischarge ∧ s.vehicleV 23 < 60000 ∧ (s.pg 23).pendCmd = none) ∧
    (let s := groupAt 23 gDischarge [(Fl.MTR_FTV_V_FT, 23, 60000)] id
     s.gst 23 = gDischarge ∧ 60000 ≤ s.vehicleV 23) ∧
    (∀ f ∈ [true, false], let s := groupAt 23 gOpening [] fun x => { x with forced := f }
     s.gst 23 = gOpening ∧ (s.pg 23).pendCmd = none) ∧
    (let s := groupAt 23 gWeld [] fun x => { x with weldStep := 3 }
     s.gst 23 = gWeld ∧ (s.pg 23).weldStep = 3 ∧ (s.pg 23).pendCmd = none) ∧
    (∀ e ∈ [(30001, true), (30000, false)], let s := groupAt 23 gWeld [(Fl.MTR_FTV_V_FT, 23, e.1)] fun x => { x with weldStep := 1 }
     s.gst 23 = gWeld ∧ (s.pg 23).weldStep ≠ 3 ∧ decide (30000 < s.vehicleV 23) = e.2) ∧
    (let s := groupAt 23 gRunI [(Fl.PRT_GCFG_AUTOCV, 23, 1)] id
     s.gst 23 ≠ gOff ∧ s.gst 23 ≠ gFault ∧ s.gst 23 ≠ gOpening ∧ s.gst 23 = gRunI ∧ s.f Fl.PRT_GCFG_AUTOCV 23 = 1 ∧
     s.f Fl.PRT_GCFG_ROLE 23 = 0 ∧ (s.pg 23).voltMode = false ∧
     s.kernelsFit (s.groupBatches 23) (s.f Fl.PRT_GCFG_KVOLT 23) = true ∧
     (s.f Fl.PRT_VSET_VSET 23 : Int) - s.f Fl.PRT_DISCFG_VMARG 23 * 1000 ≤ s.vehicleV 23) := by decide +kernel

/-- Cells 0 and 1 in a group, cell 0 carrying 50 A of its 100 A. -/
def twoCells (g : Nat) : State :=
  let s := groupAt g gRunI [(Fl.PRT_CELL_GROUP, 0, g), (Fl.PRT_CELL_GROUP, 1, g)] id
  { s with cln.caps := [(0, List.replicate 16 0 ++ leBytes 4 100000)], lpe.ins := [(0, 2 ^ 22)], prt.share := [(1, 100000)] }

theorem witness_portSequence_cells :
    (let s := twoCells 23
     s.f Fl.PRT_GCFG_ROLE 23 = 0 ∧ s.f Fl.PRT_GCFG_EN 23 = 1 ∧ (s.pg 23).search = none ∧
     3 * (s.groupI 23).natAbs + 500000 < 100 * (s.sumI 23 - s.groupI 23).natAbs) ∧
    (let s := twoCells 79
     s.f Fl.PRT_CELL_GROUP 1 = 79 ∧ s.f Fl.PRT_CELL_RM 1 = 0 ∧ (∀ e ∈ s.prt.removals, e.1 ≠ 1) ∧
     cellsGet (0 : Int) s.prt.share 1 ≠ 0 ∧ 20 * (s.cellI 1).natAbs < (cellsGet (0 : Int) s.prt.share 1).natAbs ∧
     s.f Fl.PRT_IRATED_IRATED 79 < 5 * (s.groupI 79).natAbs) ∧
    (let s := groupAt 79 gRunI [(Fl.PRT_CELL_GROUP, 1023, 79), (Fl.PRT_CELL_RM, 1023, 1)] id
     s.f Fl.PRT_CELL_GROUP 1023 = 79 ∧ s.f Fl.PRT_CELL_RM 1023 ≠ 0) := by decide +kernel

theorem witness_portSequence_search :
    (let s := groupAt 23 gRunI [] fun x => { x with search := some 10, explains := [(4, 9), (5, 8)] }
     (s.pg 23).search = some 10 ∧ (s.pg 23).explains.filter (fun e => decide (9 * 10 ≤ 10 * e.2)) = [(4, 9)] ∧
     s.f Fl.PRT_CELL_RM 4 = 0 ∧ ∀ e ∈ s.prt.removals, e.1 ≠ 4) ∧
    (let s := groupAt 23 gRunI [] fun x => { x with search := some 10, explains := [(4, 8)] }
     (s.pg 23).explains.filter (fun e => decide (9 * 10 ≤ 10 * e.2)) = []) ∧
    (let s := groupAt 79 gRunI [] fun x => { x with tel := { cleat := some ⟨1, 0, 1, 0, 1, 0, 5⟩, s1 := { n := 2, i := -3 } } }
     (s.pg 79).tel.cleat = some ⟨1, 0, 1, 0, 1, 0, 5⟩ ∧ ((s.pg 79).tel.window 2).n ≠ 0 ∧ ((s.pg 79).tel.window 0).n = 0) := by
  decide

/-! ### Witnesses: site allocation -/

/-- A device with fields set and the allocator's remembered state changed. -/
def alcWith (l : List (Fld × Nat × Nat)) (f : AlcState → AlcState) : State :=
  let s := running l
  { s with alc := f s.alc }

theorem witness_allocation_periodStart :
    (∀ a ∈ [0, 1], let s := alcWith [(Fl.ALC_CTL_EN, 0, 1), (Fl.ALC_STAT_STATE, 0, 1), (Fl.ALC_STAT_AGREE, 0, a)] fun y =>
        { y with result := some [(23, 5000)], previous := [(23, 4000)] }
      s.sys.saveStep < 2 ∧ s.sys.saveEnd = false ∧ s.f Fl.RNG_STAT_PROT = 0 ∧ s.rng.complete = false ∧
      s.alc.overran = false ∧ s.alc.result = some [(23, 5000)] ∧ s.f Fl.ALC_CTL_EN = 1 ∧ s.ringHeld = false ∧
      s.f Fl.ALC_STAT_STATE = 1 ∧ cellsFind s.alc.negative 23 = none) ∧
    (∀ st ∈ [1, 2], let s := alcWith [(Fl.ALC_STAT_STATE, 0, st)] id
      s.alc.overran = false ∧ s.alc.result = none ∧ s.f Fl.ALC_STAT_STATE = st ∧ s.ringHeld = false ∧
      s.alc.periodPend = none) := by decide

/-- A halyard of module 1, period 0. -/
def halyard1 : List Byte := 1 :: List.replicate 1663 0

theorem witness_allocation_window :
    (let s := alcWith [(Fl.ALC_STAT_STATE, 0, 1)] fun y => { y with windowOpen := true, solving := some [[]] }
     s.allocating = true ∧ s.alc.windowOpen = true ∧ s.others = [] ∧ s.alc.solving = some [[]]) := by decide

theorem witness_allocation_halyard :
    (let s := alcWith [(Fl.RNG_MEM_MOD, 0, 2)] id
     halMod halyard1 ≠ s.modid ∧ s.member (halMod halyard1) = true ∧ s.alc.windowOpen = false ∧
     BitVec.ofNat 32 (halSeq halyard1) = BitVec.ofNat 32 (s.f Fl.ALC_SEQ_SEQ)) := by decide +kernel

theorem witness_allocation_halyard_length : halyard1.length = 1664 := by
  rw [halyard1, List.length_cons, List.length_replicate]

theorem witness_allocation_writes :
    (let s := alcWith [] id
     250 ∈ periods ∧ 10000 ∈ periods ∧ 251 ∉ periods ∧
     s.alcFits 10000 (s.f Fl.ALC_WIN_XWIN) (s.f Fl.ALC_CFG_CLSEN) s.nodeCount = true ∧
     s.alcFits (s.f Fl.ALC_CFG_PERIOD) 0 255 s.nodeCount = true ∧
     s.alcFits (s.f Fl.ALC_CFG_PERIOD) 65535 255 s.nodeCount = false) ∧
    (∀ st ∈ [0, 1, 2, 3], (alcWith [(Fl.ALC_STAT_STATE, 0, st)] id).f Fl.ALC_STAT_STATE = st) ∧
    (running []).f Fl.LPE_TAKE_ACTIVE = 0 ∧ (running [(Fl.ALC_AGE_REQAGE, 0, 1)]).f Fl.ALC_AGE_REQAGE ≠ 0 ∧
    (running [(Fl.ALC_AGE_PRICEAGE, 0, 1)]).f Fl.ALC_AGE_PRICEAGE ≠ 0 ∧
    (let s := alcWith [] fun y => { y with exceeded := [(255, 3)] }
     3 ≤ cellsGet 0 s.alc.exceeded 255) := by decide +kernel

/-! ### Witnesses: vehicle sessions -/

/-- Context `c` in a state, on front-end 23, with fields set and its remembered values changed. -/
def sessionAt (c st : Nat) (l : List (Fld × Nat × Nat)) (f : Session → Session) : State :=
  let s := running ([(Fl.VEH_SSTAT_STATE, c, st), (Fl.VEH_FE_CTX, 23, c), (Fl.VEH_FE_MODE, 23, 1)] ++ l)
  { s with veh := { s.veh with ctx := s.veh.ctx.setIfInBounds c (f {}) } }

theorem witness_sessionStates :
    (∀ st ∈ [sAuth, sPause], let s := sessionAt 47 st [] fun x => { x with outstanding := true, tcp := true }
      s.midSession 47 = true ∧ (s.ses 47).outstanding = true ∧ (s.ses 47).tcp = true) ∧
    (∀ st ∈ [sIdle, sPlugged, sLink, sSetup, sAuth, sParam, sCableCheck, sPrecharge, sCharge, sPause, sFault],
      (sessionAt 0 st [] id).sst 0 = st ∧ ((sessionAt 0 st [] id).ses 0).active = false) ∧
    (let s := sessionAt 0 sPlugged [(Fl.VEH_STAT_PLCWAIT, 0, 2 ^ 23)] id
     s.feOf 0 = some 23 ∧ bitOf (s.f Fl.VEH_STAT_PLCWAIT) 23 = true) ∧
    (let s := sessionAt 23 sPrecharge [(Fl.THM_PSTAT_NOGO, 23, 0), (Fl.PRT_GSTAT_STATE, 23, gReady)] fun x => { x with delivery := some .start }
     s.sst 23 = sPrecharge ∧ (s.ses 23).delivery = some .start ∧ s.gst (portGroup 23) = gReady ∧ s.f Fl.THM_PSTAT_NOGO 23 = 0) ∧
    (let s := sessionAt 24 sPause [] fun x => { x with delivery := some .start }
     s.sst 24 = sPause ∧ (s.ses 24).delivery = some .start ∧ 24 ≤ 24) ∧
    (let s := sessionAt 24 sCharge [(Fl.VEH_SSTAT_PROTOSEL, 24, 3)] fun x => { x with delivery := some .standby }
     s.sst 24 = sCharge ∧ (s.ses 24).delivery = some .standby ∧ s.f Fl.VEH_SSTAT_PROTOSEL 24 = 3) := by decide +kernel

theorem witness_sessionStates_frontEnds :
    (let s := sessionAt 47 sIdle [] id
     s.f Fl.VEH_FE_CTX 23 = 47 ∧ s.sst 47 = sIdle ∧ 48 ≤ 63) ∧
    (let s := sessionAt 47 sLink [] id
     ¬((48 ≤ s.f Fl.VEH_FE_CTX 23 ∨ s.sst (s.f Fl.VEH_FE_CTX 23) = sIdle) ∧ (48 ≤ 0 ∨ s.sst 0 = sIdle))) ∧
    (let s := sessionAt 23 sCharge [] id
     s.f Fl.VEH_FE_CTX 23 = 23 ∧ s.feMode 23 ≠ 0 ∧ s.feOf 23 = some 23 ∧ s.sst 23 = sCharge ∧ s.f Fl.THM_PSTAT_NOGO 23 = 1) ∧
    (-11000 : Int) ≤ -11000 ∧ (11000 : Int) ≤ 13000 ∧ (8000 : Int) ≤ 10000 ∧ (5000 : Int) ≤ 7000 ∧ (2000 : Int) ≤ 4000 := by
  decide +kernel

theorem witness_sessionMessages_link :
    (let s0 := sessionAt 23 sLink [(Fl.VEH_TIM2_ATTMAX, 0, 40), (Fl.VEH_FE_PLC, 23, 0)] fun x => { x with link := true, sdp := true }
     let s : State := { s0 with veh := { s0.veh with fe := s0.veh.fe.setIfInBounds 23 { runs := [(9, 40)] } } }
     s.f Fl.VEH_FE_TYPE 23 = 0 ∧ s.feMode 23 = 1 ∧ s.f Fl.VEH_FE_PLC 23 ≠ 0xF ∧ s.f Fl.VEH_FE_CTX 23 = 23 ∧ s.sst 23 = sLink ∧
     cellsFind (s.fe 23).runs 9 = some 40 ∧ 40 ≤ s.f Fl.VEH_TIM2_ATTMAX ∧ s.strongerElsewhere 23 9 40 = false ∧
     s.linking 23 = some 23 ∧ (s.ses 23).link = true ∧ (s.ses 23).sdp = true) ∧
    (let s := sessionAt 23 sLink [(Fl.VEH_FE_TYPE, 23, 1)] id
     s.linking 23 = some 23 ∧ s.f Fl.VEH_FE_TYPE 23 = 1) ∧
    (let s := sessionAt 23 sSetup [(Fl.VEH_SSTAT_PROTOSEL, 23, 3)] fun x => { x with hello := some (0, 0, 0) }
     s.sst 23 = sSetup ∧ s.f Fl.VEH_SSTAT_PROTOSEL 23 = 3 ∧ (s.ses 23).hello.isSome = true ∧
     (s.protocols 23).find? (fun k => [({ proto := 1, major := 2, minor := 0, priority := 1, schemaId := 0 } : AppOffer)].any fun o => o.proto == k) = some 1 ∧
     (s.protocols 23).find? (fun k => ([] : List AppOffer).any fun o => o.proto == k) = none) ∧
    (∃ a b d, firstOffered tlsSuites tlsSuites = some a ∧ firstOffered tlsGroups tlsGroups = some b ∧
      firstOffered tlsSignatures tlsSignatures = some d ∧ firstOffered tlsSuites [] = none) := by
  refine ⟨by decide +kernel, by decide +kernel, by decide +kernel, _, _, _, rfl, rfl, rfl, rfl⟩

/-- A frame with a payload. -/
def frameOf (p : List Byte) : V2gFrame :=
  { version := 1, inverse := 0xFE, length := p.length, payload := p, recordOk := true, loop := false }

theorem witness_sessionMessages_frames :
    (let s := sessionAt 23 sCharge [(Fl.VEH_SSTAT_TLS, 23, 1)] fun x => { x with tcp := true, outstanding := true, held := some [1] }
     s.connected 23 = true ∧ s.midSession 23 = true ∧ s.f Fl.VEH_SSTAT_TLS 23 = 1 ∧ s.f Fl.VEH_RXLEN_LEN 23 = 0 ∧
     (s.ses 23).outstanding = true ∧ s.sst 23 = sCharge ∧ s.onRing = false ∧ (s.ses 23).held = some [1]) ∧
    ({ frameOf [] with recordOk := false } : V2gFrame).recordOk = false ∧
    ({ frameOf [1] with version := 2 } : V2gFrame).version ≠ 1 ∧
    ({ frameOf [1] with length := 2 } : V2gFrame).length ≠ ({ frameOf [1] with length := 2 } : V2gFrame).payload.length ∧
    (let m := frameOf [1, 2]
     m.recordOk = true ∧ m.version = 1 ∧ m.inverse = 0xFE ∧ m.length = m.payload.length ∧ m.payload.length ≤ 8192 ∧ m.loop = false) ∧
    (∀ p ∈ [1, 2], let s := sessionAt 47 sSetup [(Fl.VEH_SSTAT_PROTOSEL, 47, p)] fun x => { x with tcp := true, outstanding := true }
      s.connected 47 = true ∧ s.sst 47 = sSetup ∧ s.f Fl.VEH_SSTAT_PROTOSEL 47 = p) ∧
    (let s := sessionAt 23 sCableCheck [(Fl.PRT_GSTAT_STATE, 23, gCheck), (Fl.SFY_PSTAT_ISO, 23, 1)] fun x => { x with tcp := true, checked := true }
     s.connected 23 = true ∧ s.sst 23 = sCableCheck ∧ s.gst (portGroup 23) = gCheck ∧ s.f Fl.SFY_PSTAT_ISO 23 = 1 ∧
     (s.ses 23).checked = true) ∧
    PowerDelivery.start ≠ .stop := by decide +kernel

theorem witness_sessionMessages_ring :
    (let s := sessionAt 23 sCharge [] fun x => { x with heldFrame := some (.bytes [1]) }
     (s.ses 23).heldFrame = some (.bytes [1])) ∧
    (let s := sessionAt 24 sCharge [(Fl.VEH_FE_MODE, 23, 2), (Fl.RNG_STAT_GUEST, 0, 1)] fun x =>
       { x with answered := false, lastResponse := some (.bytes [2]) }
     s.feMode 23 = 2 ∧ s.f Fl.VEH_FE_CTX 23 = 24 ∧ s.sst 24 ≠ sIdle ∧ s.f Fl.RNG_STAT_GUEST = 1 ∧
     s.f Fl.VEH_FE_NOPLC 23 = 0 ∧ (s.ses 24).answered = false ∧ (s.ses 24).lastResponse = some (.bytes [2])) ∧
    (let s := sessionAt 23 sCharge [] id
     s.sst 23 ≠ sIdle ∧ (s.ses 23).outstanding = false ∧ (s.ses 23).heldFrame = none ∧
     s.f Fl.VEH_SSTAT_UNCONF 23 = 0 ∧ s.feOf 23 = some 23) := by decide +kernel

/-! ### Witnesses: cable thermal control, and the observer example of R310 -/

/-- A device with fields set and sensor `i` and port `p` changed. -/
def cooling (l : List (Fld × Nat × Nat)) (i : Nat) (x : Sensor) (conv : Option Int) (p : Nat) (y : ThmPort) : State :=
  let s := running l
  { s with thm := { s.thm with sensor := s.thm.sensor.setIfInBounds i x, conv := s.thm.conv.setIfInBounds i conv, port := s.thm.port.setIfInBounds p y } }

theorem witness_cableCooling_sensors :
    (∀ e ∈ [(1, 4001), (1, 499), (2, 2000001), (2, 19), (1, 4000), (1, 500), (2, 2000000), (2, 20)],
      let s := running [(Fl.THM_SCFG_TYPE, 63, e.1)]
      s.f Fl.THM_SCFG_TYPE 63 = e.1) ∧
    (let s := cooling [(Fl.THM_SSTAT_FAULT, 79, 1)] 79 { good := 10 } (some (-500)) 0 {}
     s.thm.conv.toList.getD 79 none = some (-500) ∧ s.f Fl.THM_SSTAT_FAULT 79 ≠ 0 ∧ 10 ≤ (s.sen 79).good) ∧
    (let s := cooling [(Fl.THM_SCFG_ALT, 79, 0), (Fl.THM_SSTAT_T, 0, 2500)] 79 { bad := 2, kind := 2 } none 0 {}
     s.f Fl.THM_SSTAT_FAULT 79 = 0 ∧ 2 ≤ (s.sen 79).bad ∧ (s.sen 79).kind = 2 ∧
     s.f Fl.THM_SCFG_FBFIX 79 = 0 ∧ s.f Fl.THM_SCFG_ALT 79 < 80 ∧ s.f Fl.THM_SCFG_ALT 79 ≠ 79 ∧
     s.f Fl.THM_SSTAT_FAULT 0 = 0 ∧ s.fi Fl.THM_SSTAT_T 0 ≠ -32768) ∧
    (let s := cooling [(Fl.THM_SCFG_FBFIX, 0, 1)] 0 { bad := 2, kind := 1 } none 0 {}
     (s.sen 0).kind = 1 ∧ s.f Fl.THM_SCFG_FBFIX 0 ≠ 0) := by decide +kernel

theorem witness_cableCooling_ports :
    (let s0 := cooling [(Fl.THM_FLOWCFG_KF, 23, 1000)] 0 {} none 23 { edge := some 1000000, edgeBefore := some 0 }
     let s : State := { s0 with time := { s0.time with now := 61000000000 * 2 ^ 32 } }
     (s.tp 23).edge = some 1000000 ∧ (s.tp 23).edgeBefore = some 0 ∧ 60000000 ≤ s.now / 1000 - 1000000) ∧
    (let s := cooling [(Fl.THM_FLOWCFG_KF, 23, 1000)] 0 {} none 23 { edge := some 1000, edgeBefore := some 0 }
     s.now / 1000 - 1000 < 60000000 ∧ 0 < max (1000 - 0) (s.now / 1000 - 1000) ∧ 0 < s.f Fl.THM_FLOWCFG_KF 23 ∧
     60000000000 / (s.f Fl.THM_FLOWCFG_KF 23 * max (1000 - 0) (s.now / 1000 - 1000)) < 2 ^ 16) ∧
    (let s := running [(Fl.THM_PSTAT_TREEF, 47, 7)]
     s.reefMayFall 47 = true ∧ (running []).reefMayFall 47 = false) ∧
    (running [(Fl.THM_JSTAT_NVOK, 0, 1), (Fl.SYS_SUPSTAT_ABOVE_HOLD, 0, 1)]).nvOk = true ∧ (running []).nvOk = false := by
  decide +kernel

/-- A port with a coolant inlet at 20 °C, no outlet, and a model. -/
def observed (p : Nat) (o : Observer) : State :=
  cooling [(Fl.THM_PSEN_INLET, p, 0), (Fl.THM_PSEN_OUTLET, p, 127), (Fl.THM_SSTAT_T, 0, 2000), (Fl.THM_CAP_C1, p, 100),
    (Fl.THM_CAP_C2, p, 100), (Fl.THM_G12_G12, p, 1000), (Fl.THM_R20_R20, p, 1000), (Fl.THM_PSTAT_OBSFB, p, 0)] 0 {} none p
    { obs := some o }

theorem witness_cableObserver :
    (let s := observed 23 { t1 := 20000000, t2 := 20000000 }
     s.obsFallback 23 = false ∧ s.f Fl.THM_PSTAT_OBSFB 23 = 0 ∧ (s.tp 23).obs = some { t1 := 20000000, t2 := 20000000 } ∧
     (s.outlet 23).map (· * 10000) = none) ∧
    (running []).obsFallback 23 = true := by decide +kernel

/-- The MCS cable of the example of R310 on port 6, one millisecond before it holds T1 = 50 °C and T2 = 28 °C. -/
def exampleCable (eh : Nat) : State :=
  cooling [(Fl.THM_PSEN_INLET, 6, 0), (Fl.THM_PSEN_OUTLET, 6, 127), (Fl.THM_SSTAT_T, 0, 2000), (Fl.THM_CAP_C1, 6, 3000),
    (Fl.THM_CAP_C2, 6, 65535), (Fl.THM_G12_G12, 6, 40000), (Fl.THM_R20_R20, 6, 1200), (Fl.THM_COEF_ALPHA, 6, 3930),
    (Fl.THM_LIM_TLIM, 6, 9000), (Fl.THM_OBS_EH, 6, eh), (Fl.THM_PSTAT_OBSFB, 6, 0), (Fl.THM_PSTAT_NOGO, 6, 0),
    (Fl.THM_IMAXH_IMAXH, 6, 2000000)] 0 {} none 6
    { obs := some { t1 := 50000293, t2 := 27999987 } }

/-- R310, example: CABLE is 1,572,959 mA, and 1,273,151 mA with EH = 0. -/
theorem test_observer_example :
    (after .observerStep (exampleCable 29447)).f Fl.THM_CABLE_CABLE 6 = 1572959 ∧
    (after .observerStep (exampleCable 0)).f Fl.THM_CABLE_CABLE 6 = 1273151 := by decide +kernel

/-! ### Witnesses: metrology and billing -/

/-- A device with fields set and meter `m` changed. -/
def metering (m : Nat) (l : List (Fld × Nat × Nat)) (x : Meter) (f : MtrState → MtrState) : State :=
  let s := running l
  { s with mtr := f { s.mtr with meter := s.mtr.meter.setIfInBounds m x } }

theorem witness_metering_samples :
    (let s := metering 23 [] { lastEnd := some 0, failed := false } id
     (s.mt 23).lastEnd = some 0 ∧ 1000 * 2 ^ 30 ≤ (s.calI 23 1000).natAbs ∧ s.f Fl.MTR_MSTAT_FAULT 23 = 0 ∧
     0 < s.calI 23 1000 * s.calV 23 1000 * 1000000 - s.calI 23 1000 * s.calI 23 1000 * s.f Fl.MTR_RCOMP_RCOMP 23 ∧
     s.calI 23 (-1000) * s.calV 23 1000 * 1000000 - s.calI 23 (-1000) * s.calI 23 (-1000) * s.f Fl.MTR_RCOMP_RCOMP 23 < 0 ∧
     ¬(1000 * 2 ^ 30 ≤ (s.calI 23 0).natAbs) ∧ 3600000 < (3600001 : Int).natAbs ∧ 1500000 < (-1500001 : Int).natAbs) ∧
    (let s := metering 23 [(Fl.MTR_MCFG_PEN, 23, 1), (Fl.MTR_MCFG_KP, 23, 1000), (Fl.MTR_EDELL_EDEL, 23, 1000000), (Fl.SYS_PWRSTAT_ANARDY, 0, 1)] {} id
     s.f Fl.MTR_MCFG_PEN 23 = 1 ∧ (s.mt 23).pulse = false ∧ s.pulsesDue 23 ≠ 0 ∧ s.metersRun = true ∧
     (running []).f Fl.MTR_MCFG_PEN 23 = 0) := by decide +kernel

theorem witness_metering_grid :
    (∀ k ∈ [0, 1], let s := running [(Fl.MTR_GSTAT_MODE, 0, k), (Fl.MTR_GCFG_FORCE, 0, 1)]
      s.f Fl.MTR_GSTAT_MODE = k ∧ s.f Fl.MTR_GCFG_FORCE = 1) ∧
    (let s := running [(Fl.MTR_GSTAT_MODE, 0, 1)]
     (s.gin true).own + ((-1 : Int).natAbs * 65536 + (s.gin true).carryOwn) / 3600 < 3 * s.quantum true) ∧
    (let s := metering 0 [(Fl.MTR_GSTAT_MODE, 0, 1)] {} fun y => { y with imp := { own := 3 * 65536 * 1000000 } }
     3 * s.quantum false ≤ (s.gin false).own + ((0 : Int).natAbs * 65536 + (s.gin false).carryOwn) / 3600) := by decide +kernel

theorem witness_metering_registers :
    (let s := running []
     metroAt (R.MTR_MCFG.addrAt 23) = some (R.MTR_MCFG, 23) ∧ (s.mt 23).amps.natAbs < 2000 ∧
     metroRange R.MTR_MCFG 1666 = true ∧ metroRange R.MTR_MCFG 1667 = false) ∧
    (let s := metering 0 [(Fl.MTR_BNDCTL_METER, 0, 24)] {} fun y => { y with queue := List.replicate 7 (1, 24, 0) }
     ¬(8 ≤ s.mtr.queue.length ∨ s.q R.MTR_BNDL R.MTR_BNDH < s.now ∨ 24 < s.f Fl.MTR_BNDCTL_METER)) ∧
    (let s := metering 0 [(Fl.MTR_BNDCTL_METER, 0, 25)] {} id
     24 < s.f Fl.MTR_BNDCTL_METER) ∧
    (let s := metering 0 [] {} fun y => { y with queue := [(0, 24, 255)], resNext := 15 }
     (s.mtr.queue.filter fun e => decide (e.1 ≤ s.now)) = [(0, 24, 255)] ∧ s.mtr.resNext < 16) := by decide +kernel

/-- A boundary that ends an interval of each kind. -/
def bothEnd : BilSlot :=
  { b := 10, q := 0, p := true, d := true, opens := 10, tot := [], toto := [], sec := [], xf := 0, span := none }

/-- Billing with a boundary waiting and both intervals open. -/
def billing : State :=
  let s := running []
  { s with bil := { s.bil with slots := [bothEnd], work := { s.bil.work with dS := some 0, pS := some 0 } } }

theorem witness_billing :
    (billing.bil.slots = [bothEnd] ∧ bothEnd.d = true ∧ bothEnd.p = true ∧ billing.bil.work.dS.isSome = true ∧
      billing.bil.work.pS.isSome = true ∧ billing.bil.work.dTar < 8 ∧ billing.resetDue bothEnd = false ∧
      billing.demandOf bothEnd 24 < 2 ^ 32 ∧ billing.bil.staged.length < 192) ∧
    (running []).bil.slots = [] ∧ (running []).f Fl.BIL_CTL_EN = 0 ∧
    (running [(Fl.BIL_CTL_EN, 0, 1)]).f Fl.BIL_CTL_EN = 1 ∧ (running []).bil.work.lastQ = none ∧
    (-2 ^ 63 : Int) ≤ (running []).time.koff ∧ (running []).time.koff < 2 ^ 63 ∧
    (running [(Fl.BIL_DCFG_EN, 23, 1)]).f Fl.BIL_DCFG_EN 23 = 1 ∧ (running []).f Fl.BIL_DSTAT_FAIL 23 = 0 := by
  decide +kernel

theorem witness_billing_calendar :
    (running [(Fl.BIL_PSEA0_VALID, 7, 1), (Fl.BIL_PDAY_VALID, 0, 1)]).calendarOk passiveCal = true ∧
    (running []).calendarOk passiveCal = false := by
  refine ⟨by decide +kernel, by decide +kernel⟩

/-! ### Witnesses: signatures and the crypto engine -/

/-- A device with fields set and the signature block's remembered state changed. -/
def signing (l : List (Fld × Nat × Nat)) (f : SigState → SigState) : State :=
  let s := running l
  { s with sig := f s.sig }

/-- A receipt that waits for the receipt key. -/
def receipt : SignReq := { kind := 2, key := 0, payload := [] }

/-- Write gates open. -/
def gatesOpen : List (Fld × Nat × Nat) := [(Fl.THM_JSTAT_NVOK, 0, 1), (Fl.SYS_SUPSTAT_ABOVE_HOLD, 0, 1)]

theorem witness_signing_start :
    (∀ e ∈ [(64, true), (64, false), (65, true)], let s := signing ((Fl.SIG_KSTAT_STATE, 0, 2) :: (Fl.SIG_NEXTL_NEXT, 0, 64) :: gatesOpen) fun y =>
        { y with queue := [receipt], record0 := some { gen := 1, limit := e.1, closed := e.2, used := 0 } }
      s.sig.stopped = false ∧ s.sig.current = none ∧ s.nextSign = some receipt ∧ receipt.key < 2 ∧
      s.reservation receipt.key = some { gen := 1, limit := e.1, closed := e.2, used := 0 } ∧ s.keyNext 0 = 64 ∧
      s.nvOk = true) ∧
    (let s := signing [(Fl.SIG_KSTAT_STATE, 0, 2)] fun y => { y with queue := [receipt], record0 := some { gen := 1, limit := 0, closed := false, used := 0 } }
     s.nextSign = some receipt ∧ s.keyNext 0 = 0 ∧ s.nvOk = false) ∧
    (let s := signing [(Fl.SIG_NEXTH_NEXT, 0, 255), (Fl.SIG_NEXTL_NEXT, 0, 2 ^ 32 - 1)] id
     keyIndices 0 ≤ s.keyNext 0 + 1 ∧ s.keyNext 0 + 1 < 2 ^ 64) := by decide +kernel

theorem witness_signing_end :
    (∀ e ∈ [(1, none, none), (2, none, none), (3, none, none), (5, none, none), (4, some 0x20000000, none), (4, none, some 47)],
      let x : Signing := { req := { kind := e.1, key := 0, payload := [], job := e.2.1, slot := e.2.2 }, index := 0, gen := 1, start := 0 }
      (signing [] fun y => { y with current := some x }).sig.current = some x) ∧
    (signing [(Fl.SIG_KSTAT_STATE, 1, 1)] id).keyState 1 = 1 ∧ (signing [] id).keyState 1 ≠ 1 ∧
    (∀ n ∈ [15, 16], (signing [] fun y => { y with jobs := List.replicate n 0x20000000 }).sig.jobs.length = n) ∧
    (∀ t ∈ [0, 2], let s := signing [] fun y => { y with turn := t, jobs := [], current := some { req := receipt, index := 0, gen := 1, start := 0 } }
      s.sig.current.isSome = true ∧ s.sig.turn = t ∧ s.sig.jobs = [] ∧
      (∀ o ∈ s.host.slots.toList, o = none) ∧ ∀ k ∈ s.images.tickets.toList, k = none) ∧
    (let s := signing [] fun y => { y with turn := 0, jobs := [0x20000000] }
     s.sig.jobs ≠ [] ∧ s.sig.turn = 0) := by decide +kernel

/-- A device whose crypto queue holds one descriptor: OP, ALG, SLOT and the lengths of the source, destination and
auxiliary buffers. -/
def jobOf (l : List (Fld × Nat × Nat)) (op alg slot src dst aux : Nat) (f : SigState → SigState) : State :=
  let s := signing l fun y => f { y with jobs := [0x20000000] }
  s.setBytes 0x20000000 (leBytes 4 (op + 256 * alg + 65536 * slot) ++ leBytes 4 0x20001000 ++ leBytes 4 src ++
    leBytes 4 0x20002000 ++ leBytes 4 dst ++ leBytes 4 0x20003000 ++ leBytes 4 aux)

theorem witness_signing_jobs :
    (∀ op ∈ [0, 17], ((jobOf [] op 0 0 0 0 0 id).jobAt 0x20000000).op = op) ∧
    (let s := jobOf [] 16 0 0 0 0 0 fun y => { y with result := some 0 }
     s.sig.jobs = [0x20000000] ∧ s.sig.jobs.length ≤ 16 ∧ s.sig.result = some 0 ∧ (s.jobAt 0x20000000).op = 16) := by decide +kernel

theorem witness_cryptoJobs_buffers :
    (let s := jobOf [] 1 7 0 32 5187 16 id
     let j := s.jobAt 0x20000000
     s.sig.jobs = [0x20000000] ∧ s.sig.result = none ∧ inSram j.src j.srcLen = true ∧ inSram j.dst j.dstLen = true ∧
     inSram j.aux j.auxLen = true ∧ j.alg = 7 ∧ j.dstLen = 5187) := by decide +kernel

/-- The descriptor at the head has an OP, ALG, SLOT and lengths. -/
def headIs (s : State) (op alg slot src dst aux : Nat) : Bool :=
  let j := s.jobAt 0x20000000
  j.op == op && j.alg == alg && j.slot == slot && j.srcLen == src && j.dstLen == dst && j.auxLen == aux && s.sig.result.isNone

theorem witness_cryptoJobs_heads : ∀ e ∈
    [(1, 0, 0, 32, 32, 0), (1, 8, 0, 0, 0, 0), (1, 1, 0, 0, 32, 0), (1, 3, 0, 0, 63, 0), (1, 6, 0, 0, 100, 0), (2, 3, 0, 0, 32, 4),
     (2, 1, 0, 0, 31, 4), (2, 2, 0, 0, 48, 4), (3, 0, 0, 0, 0, 0), (3, 2, 0, 0, 48, 4), (4, 1, 0, 32, 8160, 4), (4, 1, 0, 32, 8161, 4),
     (5, 0, 0, 12, 28, 16), (5, 0, 0, 11, 28, 16), (6, 0, 0, 28, 28, 32), (6, 0, 0, 28, 28, 24), (7, 2, 15, 0, 133, 0), (7, 3, 0, 0, 133, 0),
     (7, 1, 16, 0, 65, 0), (8, 0, 15, 65, 32, 0), (9, 0, 7, 32, 64, 0), (10, 5, 0, 32, 0, 64), (10, 6, 0, 32, 0, 64), (11, 3, 7, 0, 57, 0),
     (11, 4, 7, 0, 57, 0), (12, 0, 7, 0, 0, 0), (12, 0, 8, 0, 0, 0), (13, 1, 0, 0, 68, 0), (13, 2, 0, 0, 67, 0), (13, 0, 7, 0, 65, 0),
     (14, 0, 0, 32, 5187, 0), (14, 0, 0, 32, 5186, 0), (15, 1, 0, 0, 0, 0), (15, 2, 0, 0, 0, 0), (15, 3, 0, 0, 0, 0), (16, 0, 0, 0, 32, 0)],
    headIs (jobOf [] e.1 e.2.1 e.2.2.1 e.2.2.2.1 e.2.2.2.2.1 e.2.2.2.2.2 id) e.1 e.2.1 e.2.2.1 e.2.2.2.1 e.2.2.2.2.1 e.2.2.2.2.2 = true := by
  decide +kernel

theorem witness_cryptoJobs_keys :
    (let s := jobOf gatesOpen 8 0 15 65 32 0 fun y => { y with ephemeral := [(15, 1, 99)] }
     cellsFind s.sig.ephemeral 15 = some (1, 99) ∧ s.nvOk = true ∧ (jobOf [] 8 0 15 65 32 0 id).nvOk = false ∧
     cellsFind (jobOf [] 8 0 15 65 32 0 id).sig.ephemeral 15 = none) ∧
    (∀ n ∈ [0, 1], let s := jobOf [(Fl.SIG_TLSSLOT_TYPE, 7, n), (Fl.SIG_KSTAT_GEN, 1, n), (Fl.SIG_STAT_ATTTOK, 0, n), (Fl.MTR_STAT_CALEN, 0, n)] 9 0 7 32 64 0 id
      s.tlsType 7 = n ∧ s.f Fl.SIG_KSTAT_GEN 1 = n ∧ s.f Fl.SIG_STAT_ATTTOK = n ∧ s.f Fl.MTR_STAT_CALEN = n) ∧
    (∀ k ∈ [0, 1], let s := jobOf [(Fl.SIG_KSTAT_GEN, k, 254), (Fl.SYS_BOOTSTAT_SOURCE, 0, 3)] 15 (k + 1) 0 0 0 0 id
      s.newGen k ≤ 255 ∧ s.f Fl.SYS_BOOTSTAT_SOURCE = 3) ∧
    (running []).f Fl.SYS_BOOTSTAT_SOURCE ≠ 3 := by decide +kernel

/-! ### Witnesses: the shroud and VAUX -/

/-- A device whose shroud runs, with fields set and the shroud's remembered state changed. -/
def shroud (l : List (Fld × Nat × Nat)) (f : SfyState → SfyState) : State :=
  let s := running l
  { s with sfy := f { s.sfy with running := true } }

theorem witness_shroudFunctions_zones :
    (∀ c ∈ [0, 1], let s := shroud [(Fl.SFY_ZONE0_EN, 4, 1), (Fl.SFY_ZONE0_CAT, 4, c), (Fl.SFY_ZONE0_PORTS, 4, 2 ^ 23)] fun y => { y with stayOpen := true }
      s.f Fl.SFY_ZONE0_EN 4 = 1 ∧ s.zoneInput 4 = true ∧ s.sfy.running = true ∧ s.zoneStops 4 47 = true ∧ s.f Fl.SFY_ZONE0_CAT 4 = c) ∧
    (let s := shroud [(Fl.SFY_ZONE0_EN, 0, 1), (Fl.SFY_ZONE0_PROGRST, 0, 1), (Fl.SFY_ZONE1_STATE, 0, 2)] fun y => { y with zoneSince := y.zoneSince }
     let t : State := { s with tick := 2 ^ 40 }
     t.zoneInput 0 = false ∧ t.zoneQuiet 0 = true ∧ t.f Fl.SFY_ZONE1_STATE 0 ≠ 0 ∧ t.f Fl.SFY_ZONE0_PROGRST 0 = 1 ∧
     t.sfy.stayMissed = 0) ∧
    1 ≤ (shroud [] fun y => { y with stayMissed := 1 }).sfy.stayMissed := by decide +kernel

theorem witness_shroudFunctions_cycle :
    (let s := shroud [(Fl.SFY_ZONE1_STATE, 0, 1)] fun y => { y with port := y.port.setIfInBounds 47 { release := some 5 } }
     s.sfy.running = true ∧ s.f Fl.SFY_STAT_SAFE = 0 ∧ (s.sp 47).release.isSome = true ∧ (s.sp 47).holdFull = false ∧
     (s.portCurrent 47).natAbs < 5000 ∧ s.f Fl.SFY_ZONE1_STATE 0 = 1 ∧ s.zoneInput 0 = false ∧
     ∀ n, n < 16 → s.sfy.acked.toList.getD n none = none ∧ (s.word (0x28000000 + 32 * n)).toNat = 0) ∧
    (running []).sfy.running = false ∧ (shroud [(Fl.SFY_STAT_SAFE, 0, 1)] id).f Fl.SFY_STAT_SAFE = 1 := by decide +kernel

/-- Request slot 15 holds a request with a SEQ and a check word; it was acknowledged with `l`. -/
def request (l : Option Nat) (seq : Nat) (check : Word) : State :=
  let s := shroud [] fun y => { y with acked := y.acked.setIfInBounds 15 l }
  s.setBytes (0x28000000 + 480) (leBytes 4 (seq * 65536 + 256) ++ List.replicate 24 0 ++ leBytes 4 check.toNat)

theorem witness_shroudFunctions_request : ∀ e ∈ [(none, 1), (some 1, 2), (some 1, 3)],
    let w := crc32 ((request e.1 e.2 0).bytes (0x28000000 + 480) 28)
    let s := request e.1 e.2 w
    (s.word (0x28000000 + 480)).toNat / 2 ^ 16 = e.2 ∧ crc32 (s.bytes (0x28000000 + 480) 28) = s.word (0x28000000 + 508) ∧
    s.sfy.acked.toList.getD 15 none = e.1 ∧ crc32 (s.bytes (0x28000000 + 480) 28) ≠ 1 ∧
    (e.1 = none → (s.word (0x28000000 + 480)).toNat ≠ 0) := by decide +kernel

theorem witness_shroudFunctions_axes :
    (let s := shroud [(Fl.SFY_ACFG_EN, 7, 1), (Fl.SFY_ACFG_REFD, 7, 1)] fun y => { y with axis := y.axis.setIfInBounds 7 { still := 10000 } }
     s.f Fl.SFY_ACFG_EN 7 = 1 ∧ s.standstill 7 = true ∧ s.f Fl.SFY_ASTAT_VIOL 7 = 0 ∧ s.axisViolates 7 = false ∧
     s.f Fl.SFY_ACFG_REFD 7 = 1) ∧
    (let s := shroud [(Fl.SFY_SPD_SPD, 7, 1000000)] id
     s.axisViolates 7 = true) ∧
    (let s := shroud [(Fl.SFY_PIMD_IMDEN, 23, 1)] id
     s.f Fl.SFY_PIMD_IMDEN 23 = 1 ∧ 10 ≤ 5000 ∧ s.f Fl.SFY_PSTAT_POSCL 23 = 0 ∧ s.f Fl.SFY_PSTAT_NEGCL 23 = 0) := by decide +kernel

theorem witness_shroudFunctions_fabric :
    (∀ c ∈ [0, 1], let s := shroud [(Fl.SFY_TGT3_EN, 63, 1), (Fl.SFY_TGT3_LATCH, 63, c), (Fl.SFY_TGT3_TRIPPED, 63, 1)] id
      s.f Fl.SFY_TGT3_EN 63 = 1 ∧ s.maskActive 63 = false ∧ s.f Fl.SFY_TGT3_LATCH 63 = c ∧ s.f Fl.SFY_TGT3_TRIPPED 63 = 1) ∧
    (let s := shroud [(Fl.SFY_TGT2_MASK2, 63, 128), (Fl.SFY_SRC_ACT, 71, 1)] id
     s.maskActive 63 = true) ∧
    (shroud [] id).clearOk 47 = true ∧
    (shroud [(Fl.SFY_PSTAT_TCUT, 47, 1), (Fl.SFY_PSTAT_POSCL, 47, 1), (Fl.THM_PSEN_PINP, 47, 0), (Fl.SFY_PSTAT_PBRK, 47, 1)] id).f
      Fl.SFY_PSTAT_TCUT 47 = 1 := by decide +kernel

theorem witness_shroudFunctions_kept :
    (shroud [(Fl.SFY_PSTAT_WELDP, 23, 1), (Fl.SFY_PSTAT_POSCL, 23, 1)] id).clearOk 23 = false := by decide +kernel

theorem witness_shroudContactors_close :
    (let s := shroud [(Fl.SYS_SUPSTAT_VAUX_OK, 0, 1), (Fl.SYS_PWRSTAT_ANARDY, 0, 1), (Fl.SFY_PFB_LOCKFB, 23, 127), (Fl.SFY_PCO_POSCO, 23, 47),
       (Fl.SFY_PCO_NEGCO, 23, 46), (Fl.THM_PSEN_PINP, 23, 127), (Fl.THM_PSEN_PINN, 23, 127)] id
     let t : State := { s with tick := 2 ^ 40 }
     t.closeOk 23 true true = true ∧ t.poleCoil 23 .pos < 48 ∧ t.f Fl.SFY_COIL_FAULT 47 ≠ 3 ∧ t.f Fl.SFY_STAT_SAFE = 0) ∧
    (shroud [] id).closeOk 47 true true = false ∧
    (let s := shroud [(Fl.SFY_PCO_LOCKCO, 23, 0), (Fl.SFY_PCO_UNLKCO, 23, 1)] fun y => { y with port := y.port.setIfInBounds 23 { lockReq := true, unlockReq := true } }
     s.f Fl.SFY_PCO_LOCKCO 23 < 48 ∧ (s.sp 23).lockReq = true ∧ (s.sp 23).unlockReq = true ∧ s.f Fl.SFY_PSTAT_POSCMD 23 = 0 ∧
     s.f Fl.SFY_PSTAT_NEGCMD 23 = 0 ∧ s.f Fl.SFY_PSTAT_POSCL 23 = 0 ∧ s.f Fl.SFY_PSTAT_NEGCL 23 = 0 ∧
     (s.portVolt 23).natAbs < 60000 ∧ s.f Fl.MTR_MSTAT_FAULT 23 = 0) ∧
    (∀ l ∈ [0, 1], let s := shroud [(Fl.SFY_PFB_LOCKFB, 23, 95), (Fl.SFY_FB_LEVEL, 2, l * 2 ^ 31), (Fl.SFY_PSTAT_NOV, 23, 1)] fun y => { y with port := y.port.setIfInBounds 23 { unlockReq := true } }
      s.fbLevel (s.f Fl.SFY_PFB_LOCKFB 23) = some (l == 1) ∧ s.f Fl.SFY_PSTAT_NOV 23 = 1) := by decide +kernel

theorem witness_shroudContactors_poles :
    (let s := shroud [] fun y => { y with port := y.port.setIfInBounds 23 { release := some 2 } }
     (s.sp 23).release.isSome = true ∧ (s.sp 23).holdFull = false ∧ (s.portCurrent 23).natAbs < 5000) ∧
    (∀ p ∈ [23, 47], ∀ c ∈ [0, 1], ∀ m ∈ [0, 1],
      let s := shroud [(Fl.SFY_PSTAT_STANDBY, 47, 1), (Fl.SFY_PSTAT_NEGCMD, p, c), (Fl.SFY_PSTAT_NEGCL, p, m)] id
      (p < 24 ∨ s.f Fl.SFY_PSTAT_STANDBY p = 1) ∧ s.f (poleCmd .neg) p = c ∧ s.f (poleClosed .neg) p = m ∧
      s.sfy.vauxLost = false ∧ s.f Fl.SFY_STAT_SAFE = 0) ∧
    (let s := shroud [(Fl.SFY_PFB_POSFB, 47, 95), (Fl.SFY_PCO_POSCO, 47, 47), (Fl.SFY_COIL_ON, 47, 1)] id
     s.poleFb 47 .pos = 95 ∧ s.poleCoil 47 .pos = 47 ∧ s.f Fl.SFY_COIL_ON 47 = 1) := by decide +kernel

theorem witness_shroudContactors_monitors :
    (∀ g ∈ [0, 1], let s := shroud [(Fl.SFY_PIMD_IMDEN, 23, 1), (Fl.SFY_PIMD_FAULTTI, 23, 31), (Fl.SFY_SRC_ACT, 31, 1), (Fl.PRT_GSTAT_STATE, 23, g)] id
      s.imdFault 23 = true ∧ s.charging 23 = (g == 1) ∧ s.f Fl.SFY_PIMD_IMDEN 23 = 1) ∧
    (let s := shroud [(Fl.SFY_PIMD_IMDEN, 23, 1), (Fl.PRT_GSTAT_STATE, 23, 2), (Fl.PRT_VSET_VSET, 23, 400000), (Fl.MTR_FTV_V_FT, 23, 360000)] id
     s.imdFault 23 = false ∧ s.imdWarn 23 = false ∧ s.f Fl.SFY_PSTAT_ISO 23 ≠ 2 ∧ s.f Fl.PRT_GSTAT_STATE 23 = 2 ∧
     9 * (s.f Fl.PRT_VSET_VSET 23 : Int) ≤ 10 * s.portVolt 23) ∧
    (let s := shroud [(Fl.THM_PSEN_PINP, 23, 0), (Fl.SFY_PTMP_TPCUT, 23, 9000), (Fl.THM_SSTAT_T, 0, 9000)] fun y => y
     let t : State := { s with thm := { s.thm with conv := s.thm.conv.setIfInBounds 0 (some 9000) } }
     t.pinAtCut 23 = true ∧ (shroud [] id).pinAtCut 23 = false) ∧
    (let s := shroud [(Fl.THM_PSEN_PINP, 23, 0), (Fl.SFY_PSTAT_PBRK, 23, 1), (Fl.PRT_GSTAT_STATE, 23, 1)] id
     s.pinIsBroken 23 = true ∧ s.f Fl.SFY_PSTAT_PBRK 23 = 1 ∧ s.charging 23 = true) := by decide +kernel

theorem witness_standbyAndSupply :
    (let s := shroud [(Fl.RNG_STAT_GUEST, 0, 1), (Fl.SFY_PSTAT_POSCL, 47, 1), (Fl.SFY_PSTAT_NEGCL, 47, 1), (Fl.SFY_PSTAT_STANDBY, 47, 1),
       (Fl.SFY_GUEST_TGUEST, 0, 1), (Fl.SFY_GUEST_NOVETO, 0, 1)] id
     s.f Fl.RNG_STAT_GUEST = 1 ∧ s.sfy.running = true ∧ s.f Fl.SFY_PSTAT_POSCL 47 = 1 ∧ s.f Fl.SFY_PSTAT_NEGCL 47 = 1 ∧
     s.zoneHolds 47 = false ∧ s.imdFault 47 = false ∧ s.vetoActive = false ∧ s.f Fl.SFY_GUEST_TGUEST ≠ 0 ∧
     s.f Fl.SFY_PSTAT_STANDBY 47 = 1) ∧
    (let s := shroud [(Fl.RNG_STAT_GUEST, 0, 1), (Fl.SFY_GUEST_NOVETO, 0, 0), (Fl.SFY_GUEST_VETOTI, 0, 31), (Fl.SFY_SRC_ACT, 31, 1)] id
     s.f Fl.RNG_STAT_GUEST = 1 ∧ s.vetoActive = true) ∧
    (∀ st ∈ [0, 1, 2], let s := shroud [(Fl.LSW_CHSTAT_STATE, 15, st), (Fl.LSW_CHSTAT_PROG, 15, 1), (Fl.LSW_SUP_UV, 0, 1)] id
      s.f Fl.LSW_CHSTAT_STATE 15 = st ∧ s.chWanted 15 = true ∧ s.supplyOk = false) := by decide +kernel

/-! ### Witnesses: the ring and the protected channels -/

/-- Module 5 in a ring state, with fields set, its ports and its remembered state changed. -/
def ringAt (st : Nat) (l : List (Fld × Nat × Nat)) (d u : RingPort) (f : RngState → RngState) : State :=
  let s := running ([(Fl.RNG_CFG_MODID, 0, 5), (Fl.RNG_STAT_STATE, 0, st), (Fl.RNG_CTL_EN, 0, 1)] ++ l)
  { s with rng := f { s.rng with port := #v[d, u] } }

/-- A heartbeat of a module in a state. -/
def beatOf (m st : Nat) : HeartbeatFrame := { modid := m, state := st, epoch := 0, count := 0 }

/-- A view of an origin and an epoch. -/
def viewOf (origin epoch : Nat) (members : List Nat) : ViewFrame :=
  { origin := origin, epoch := epoch, seqEff := 0, members := members, gen := 1, splid := 0 }

theorem witness_ringLinks :
    (∀ k ∈ [0, 1], let s := ringAt 0 [] {} {} id
      s.f Fl.RNG_CTL_EN = 1 ∧ s.modid ≠ 0 ∧ s.f Fl.RNG_LINK_STATE k ≠ 2) ∧
    (let s := ringAt 0 [] { step := 1 } { step := 2 } id
     (s.rp 0).step = 1 ∧ (s.rp 1).step = 2 ∧ 5 = s.modid ∧ 6 ≠ s.modid ∧ min 2 2 < max 3 1 ∧ max 1 1 ≤ min 1 2) ∧
    (∀ st ∈ [0, 1, 4], let s := ringAt st [(Fl.RNG_LINK_STATE, 1, 2)] {} {} id
      let h : HeartbeatFrame := { beatOf 6 2 with gen := 0 }
      s.f Fl.RNG_LINK_STATE 1 = 2 ∧ s.member h.modid = false ∧ min h.gen s.genOffer < s.images.minGen) ∧
    (∀ st ∈ [1, 2, 3], let s := ringAt st [(Fl.RNG_LINK_STATE, 1, 2)] {} {} id
      let h := beatOf 6 1
      s.f Fl.RNG_STAT_STATE = st ∧ s.member h.modid = false ∧ h.minGen ≤ min s.viewNow.gen h.offer ∧
      s.images.minGen ≤ h.offer ∧ h.modid ∉ s.viewNow.members ∧ s.rng.views = []) := by decide +kernel

theorem witness_ringViews :
    (let s := ringAt 2 [(Fl.RNG_EPOCH_EPOCH, 0, 3)] {} {} id
     s.f Fl.RNG_EPOCH_EPOCH < (viewOf 6 4 [5, 6]).epoch ∧ (viewOf 6 4 [5, 6]).origin ≠ s.modid ∧
     (∀ x ∈ s.rng.views, x.epoch ≠ 4) ∧ (viewOf 6 3 [5]).epoch ≤ s.f Fl.RNG_EPOCH_EPOCH) ∧
    (∀ o ∈ [6, 8], let s := ringAt 2 [(Fl.RNG_EPOCH_EPOCH, 0, 3)] {} {} fun y => { y with views := [viewOf 7 4 [5]] }
      s.rng.views = [viewOf 7 4 [5]] ∧ (viewOf 7 4 [5]).epoch = (viewOf o 4 [5, 6]).epoch ∧ [5] ≠ (viewOf o 4 [5, 6]).members ∧
      s.rng.announced = none) ∧
    (∀ st ∈ [0, 1], let s := ringAt st [] {} {} fun y => { y with views := [viewOf 6 1 [5, 6]] }
      s.seqReached (viewOf 6 1 [5, 6]).seqEff = true ∧ s.modid ∈ [5, 6] ∧ 1 < [5, 6].length ∧ (viewOf 6 1 [5, 6]).epoch < 2 ^ 32) ∧
    (ringAt 2 [] {} {} id).seqReached 1 = false := by decide +kernel

theorem witness_ringSplice :
    (let s0 := ringAt 2 [(Fl.RNG_VIEWST_NMEM, 0, 2), (Fl.RNG_MEM_MOD, 0, 96)] {} {} id
     let s : State := { s0 with alc := { s0.alc with lastUsed := [(6, [0, 0, 2, 0])] }, images := { s0.images with gen := 2 } }
     s.inView = true ∧ s.others = [6] ∧ s.memberOffer 6 = some 2 ∧ 2 ≤ s.genOffer ∧ s.f Fl.RNG_VIEWST_GEN < 2 ∧ s.rng.views = []) ∧
    (let s := ringAt 2 [(Fl.RNG_LINK_STATE, 0, 2), (Fl.RNG_STAT_BUDDY, 0, 6)] { beat := some (beatOf 6 2) } {} id
     s.spliceReason = 0 ∧ s.modid ≠ 0 ∧ s.rng.views = []) ∧
    (ringAt 2 [] {} {} id).spliceReason ≠ 0 ∧
    (let s := ringAt 2 [] {} {} id
     (∀ j, j < 16 → s.f Fl.CLN_LANESTAT_STATE j = 0) ∧ (∀ c, c < 24 → s.f Fl.VEH_SSTAT_STATE c = 0) ∧
     s.modid ∈ s.viewNow.members) ∧
    (ringAt 2 [(Fl.VEH_SSTAT_STATE, 23, 1)] {} {} id).f Fl.VEH_SSTAT_STATE 23 ≠ 0 := by decide +kernel

theorem witness_ringTakeover :
    (∀ e ∈ [0, 1], let s := ringAt 2 [(Fl.RNG_LINK_STATE, 1, 2), (Fl.RNG_LINK_PEER, 1, 6), (Fl.RNG_MEM_MOD, 0, 96), (Fl.RNG_STAT_PROT, 0, 6),
        (Fl.RNG_CTL_TAKEEN, 0, e), (Fl.RNG_SHSTAT_AGE, 0, 1)] {} { misses := 4, beat := some (beatOf 6 2) } id
      s.f Fl.RNG_LINK_STATE 1 = 2 ∧ s.member (s.f Fl.RNG_LINK_PEER 1) = true ∧ s.f Fl.RNG_STAT_PROT = s.f Fl.RNG_LINK_PEER 1 ∧
      4 ≤ (s.rp 1).misses ∧ s.f Fl.RNG_CTL_TAKEEN = e ∧ s.f Fl.RNG_STAT_GUEST = 0 ∧ (s.rp 1).beat = some (beatOf 6 2) ∧
      s.f Fl.RNG_SHSTAT_AGE ≤ max 1 (s.f Fl.RNG_CFG_AGEMAX)) ∧
    (let s := ringAt 2 [(Fl.RNG_LINK_STATE, 0, 2), (Fl.RNG_LINK_PEER, 0, 6), (Fl.RNG_MEM_MOD, 0, 96), (Fl.RNG_STAT_BUDDY, 0, 6)] { misses := 3 } {} id
     (s.rp 0).misses < 4 ∧ s.member (s.f Fl.RNG_LINK_PEER 0) = true ∧ s.f Fl.RNG_STAT_BUDDY = s.f Fl.RNG_LINK_PEER 0) ∧
    (∀ st ∈ [2, 5], let s := ringAt st [(Fl.RNG_LINK_STATE, if st = 5 then 0 else 1, 2)] {} {} id
      s.f Fl.RNG_LINK_STATE (if s.f Fl.RNG_STAT_STATE = 5 then 0 else 1) = 2) ∧
    (∀ b ∈ [true, false], let s := ringAt 3 [(Fl.RNG_VIEWST_NMEM, 0, 2)] {} {} fun y => { y with silent := b }
      s.inView = true ∧ s.rng.silent = b) := by decide +kernel

theorem witness_ringReturn :
    (let s := ringAt 4 [(Fl.RNG_MEM_MOD, 0, 32), (Fl.RNG_LINK_STATE, 0, 2)] {} {} id
     s.member s.modid = true ∧ s.f Fl.RNG_LINK_STATE 0 = 2 ∧ s.loadAway = true ∧ (ringAt 2 [] {} {} id).loadAway = false) ∧
    (let s := ringAt 2 [(Fl.RNG_STAT_GUEST, 0, 1), (Fl.RNG_STAT_GUESTID, 0, 6), (Fl.RNG_LINK_STATE, 1, 2), (Fl.RNG_LINK_PEER, 1, 6)] {} {} fun y =>
       { y with asked := true, returnAt := some 0, signalled := true }
     s.f Fl.RNG_STAT_GUEST = 1 ∧ s.f Fl.RNG_LINK_STATE 1 = 2 ∧ s.f Fl.RNG_LINK_PEER 1 = s.f Fl.RNG_STAT_GUESTID ∧
     s.rng.asked = true ∧ s.returnDue = true ∧ s.rng.signalled = true) ∧
    (let s := ringAt 5 [(Fl.RNG_LINK_STATE, 0, 2), (Fl.VEH_FE_CTX, 23, 23)] {} {} fun y => { y with gotState := true, returnAt := some 0 }
     s.f Fl.RNG_STAT_STATE = 5 ∧ s.f Fl.RNG_LINK_STATE 0 = 2 ∧ s.rng.gotState = true ∧ s.returnDue = true ∧
     s.f Fl.RNG_STAT_GUEST ≠ 1 ∧ s.f Fl.VEH_FE_CTX 23 = 23) ∧
    (ringAt 5 [] {} {} id).returnDue = false ∧
    (let s := ringAt 2 [(Fl.RNG_VIEWST_SPLID, 0, 5), (Fl.RNG_SPL_STEP, 0, 1)] {} {} fun y => { y with returnAt := some 0 }
     s.rng.returnAt.isSome = true ∧ s.f Fl.RNG_VIEWST_SPLID = s.modid ∧ s.f Fl.RNG_VIEWST_SPLID ≠ 0 ∧ s.f Fl.RNG_SPL_STEP = 1) ∧
    (let s := ringAt 2 [(Fl.RNG_VIEWST_SPLID, 0, 6), (Fl.RNG_STAT_PROT, 0, 6)] {} {} id
     s.f Fl.RNG_VIEWST_SPLID ≠ s.modid ∧ s.f Fl.RNG_VIEWST_SPLID = s.f Fl.RNG_STAT_PROT ∧ s.f Fl.RNG_STAT_STATE = 2) := by
  decide +kernel

/-- Channel `n` in a state, with fields set and its remembered values changed. -/
def channelAt (n st : Nat) (l : List (Fld × Nat × Nat)) (c : Channel) : State :=
  let s := running ((Fl.LSW_CHSTAT_STATE, n, st) :: l)
  { s with lsw := { s.lsw with chan := s.lsw.chan.setIfInBounds n c } }

theorem witness_protectedChannels :
    (∀ st ∈ [0, 1, 2, 3, 4, 5], ∀ h ∈ [true, false], let s := channelAt 15 st [] { heldOn := h }
      s.f Fl.LSW_CHSTAT_STATE 15 = st ∧ s.supplyOk = true ∧ (s.ch 15).heldOn = h ∧ (s.ch 15).clamping = false ∧
      s.f Fl.LSW_CHSTAT_FLT 15 ≠ 2 ∧ s.f Fl.LSW_CHSTAT_FORCE 15 = 0 ∧ s.f Fl.LSW_CHSTAT_BLEED 15 = 0 ∧ s.chWanted 15 = false) ∧
    (channelAt 0 0 [(Fl.LSW_SUP_UV, 0, 1)] {}).supplyOk = false ∧
    (channelAt 0 1 [(Fl.LSW_CHSTAT_FORCE, 0, 1)] {}).f Fl.LSW_CHSTAT_FORCE 0 = 1 ∧
    (let s := channelAt 15 4 [(Fl.LSW_CHSTAT_FLT, 15, 2), (Fl.LSW_CHI_TJ, 15, 14999)] {}
     s.fi Fl.LSW_CHI_TJ 15 < 15000 ∧ s.f Fl.LSW_CHSTAT_FLT 15 = 2) ∧
    (∀ i ∈ [true, false], let s := channelAt 15 1 [] { inrush := i }
      s.f Fl.LSW_CHLIM_ITRIP 15 = 1200 ∧ min (3 * s.f Fl.LSW_CHLIM_ITRIP 15) 4800 < 3601) ∧
    (∀ k, k < 16 → ¬((running []).f Fl.LSW_CHSTAT_STATE k = 1 ∨ (running []).f Fl.LSW_CHSTAT_STATE k = 2 ∨
      (running []).f Fl.LSW_CHSTAT_STATE k = 5 ∧ ((running []).ch k).heldOn = true)) ∧
    (let s := channelAt 15 2 [(Fl.LSW_CHSTAT_STATE, 0, 1)] { inrush := true, onOrder := 1 }
     (s.f Fl.LSW_CHSTAT_STATE 15 = 2 ∧ (s.ch 15).inrush = true) ∧
     ∀ m, m < 16 → m ≠ 15 → (s.ch m).onOrder < (s.ch 15).onOrder) := by decide +kernel

theorem witness_channelEvents :
    (∀ st ∈ [1, 2], ∀ b ∈ [0, 1], let s := channelAt 15 st [(Fl.LSW_CHSTAT_PROG, 15, 1), (Fl.LSW_CHSTAT_BLEED, 15, b)] { inrush := true, mode := 2 }
      (s.ch 15).inrush = true ∧ (s.ch 15).mode = 2 ∧ s.f Fl.LSW_CHSTAT_PROG 15 = 1 ∧ s.f Fl.LSW_CHSTAT_STATE 15 = st ∧
      s.f Fl.LSW_CHSTAT_BLEED 15 = b ∧ s.supplyOk = true) ∧
    (channelAt 15 1 [] { mode := 1 }).ch 15 = { mode := 1 } ∧
    (∀ st ∈ [3, 6], let s := channelAt 15 st [(Fl.LSW_CHSTAT_PROG, 15, if st = 6 then 1 else 0)] { clamping := true }
      (s.ch 15).clamping = true ∧ s.f Fl.LSW_CHSTAT_STATE 15 = st ∧ s.chWanted 15 = (st == 6) ∧ s.supplyOk = true) ∧
    (let s := channelAt 15 1 [(Fl.LSW_CHLIM_IOL, 15, 5)] {}
     s.f Fl.LSW_CHSTAT_STATE 15 = 1 ∧ s.f Fl.LSW_CHLIM_IOL 15 ≠ 0 ∧ s.supplyOk = true) := by decide +kernel

/-! ### Witnesses: battery strings and time -/

/-- Pack `k` served, in a state, with fields set and its remembered values changed. -/
def packAt (k st : Nat) (l : List (Fld × Nat × Nat)) (x : Pack) : State :=
  let s := running ([(Fl.EST_SOCE_STATE, k, st), (Fl.EST_CFG_EN, k, 1)] ++ l)
  { s with est := { s.est with pack := s.est.pack.setIfInBounds k x } }

theorem witness_estimator :
    (∀ st ∈ [pkPending, pkEstimating, pkRest, pkFault], ∀ k ∈ [0, 7, 8], let s := packAt k st [(Fl.EST_REST_IREST, k, 1000), (Fl.EST_CFG_TSENS, k, 127)] {}
      s.pkOn k = true ∧ s.pkSt k = st ∧ s.sys.phase = .running ∧ s.f Fl.SYS_PWRSTAT_STATE ≤ 1 ∧ s.packTemp k = none ∧
      s.quiet k = true ∧ s.otherPack k = true) ∧
    (let s := packAt 8 pkEstimating [(Fl.EST_VMIN_V, 8, 3000), (Fl.EST_VMAX_V, 8, 4200)] {}
     (3000 : Int) ≤ (s.f Fl.EST_VMIN_V 8 : Int) ∧ (s.f Fl.EST_VMAX_V 8 : Int) ≤ 4200 ∧ (s.f Fl.EST_VMIN_V 8 : Int) < 3001 ∧
     (3001 : Int) < s.f Fl.EST_VMAX_V 8 ∧ ((s.f Fl.EST_VMIN_V 8 / 10 : Nat) : Int) < 301) ∧
    (∀ a ∈ [0, 1], let s := packAt 8 pkEstimating [(Fl.SYS_PWRSTAT_STATE, 0, 3), (Fl.EST_HPCFG_AUTOFURL, 0, a)] {}
      let t : State := { s with sys := { s.sys with onHp := true, vinGone := true } }
      t.pkOn 8 = true ∧ t.f Fl.SYS_PWRSTAT_STATE = 3 ∧ t.sys.onHp = true ∧ t.f Fl.EST_HPCFG_AUTOFURL = a ∧
      t.f Fl.SYS_PWRSTAT_FURL_ARMED = 0 ∧ t.sys.target = none ∧ t.sys.vinGone = true) := by decide +kernel

/-- Device time and a pending step or calendar set. -/
def timeWith (l : List (Fld × Nat × Nat)) (f : TimeState → TimeState) : State :=
  let s := running ((Fl.SYS_PWRSTAT_ANARDY, 0, 1) :: l)
  { s with time := f s.time }

theorem witness_foldAndCalendar :
    (let s := timeWith [] fun y => { y with now := 1500000 * 2 ^ 32, stepPend := some (-3), calPend := none }
     s.metersRun = true ∧ (rawAt (s.mt 23) (s.now / 1000000 * 1000000)).1 < 2 ^ 48 ∧
     (rawAt (s.mt 23) (s.now / 1000000 * 1000000)).2 < 2 ^ 48 ∧ s.time.stepPend = some (-3) ∧ s.runlock = false ∧
     s.time.calPend = none ∧ s.nvOk = false) ∧
    (timeWith [(Fl.TIM_CTL_LOCK, 0, 1)] fun y => { y with stepPend := some 3 }).runlock = true ∧
    (let s := timeWith [] fun y => { y with calPend := some (5, 7), oscRunning := true }
     s.time.stepPend = none ∧ s.time.calPend = some (5, 7) ∧ s.time.oscRunning = true ∧ s.f Fl.BIL_CTL_EN = 0) ∧
    (∀ p ∈ [1, 2], let s := timeWith [(Fl.TIM_LEAP_PEND, 0, p), (Fl.TIM_LEAPAT_S, 0, 0)] id
      s.f Fl.TIM_LEAP_PEND = p ∧ ((s.f Fl.TIM_LEAPAT_S * 1000000000 : Nat) : Int) ≤ s.calendar) ∧
    ¬((timeWith [] id).f Fl.TIM_LEAP_PEND = 1 ∨ (timeWith [] id).f Fl.TIM_LEAP_PEND = 2) := by decide +kernel

/-- One captured event frame. -/
def stampOf (t : Nat) : Stamp := { time := t, domain := 255, sent := true, msgType := 15, seq := 65535 }

theorem witness_rtcAndTimestamps :
    (let s := timeWith [(Fl.TIM_ALARM_S, 0, 4), (Fl.TIM_RTCS_S, 0, 4)] id
     s.f Fl.TIM_RTCS_S = s.f Fl.TIM_ALARM_S ∧ s.f Fl.SYS_PWRSTAT_STATE ≤ 1) ∧
    (let s := timeWith [(Fl.TIM_ALARM_S, 0, 4), (Fl.TIM_RTCS_S, 0, 5), (Fl.SYS_PWRSTAT_STATE, 0, 2)] id
     s.f Fl.TIM_RTCS_S ≠ s.f Fl.TIM_ALARM_S ∧ 1 < s.f Fl.SYS_PWRSTAT_STATE) ∧
    (∀ n ∈ [15, 16], let s := timeWith [(Fl.RNG_LINK_STATE, 1, 2)] fun y => { y with fifos := y.fifos.setIfInBounds 3 (List.replicate n (stampOf (2 ^ 64 - 1))) }
      s.f Fl.RNG_LINK_STATE 1 = 2 ∧ (s.fifo 3).length = n ∧ s.fifo 3 = stampOf (2 ^ 64 - 1) :: List.replicate (n - 1) (stampOf (2 ^ 64 - 1))) ∧
    (stampOf (2 ^ 64 - 1)).time < 2 ^ 64 ∧ (stampOf 0).msgType < 16 ∧ (stampOf 0).seq < 65536 ∧ (stampOf 0).domain < 256 := by
  decide +kernel

/-! ### Witnesses: CAN FD and Deckline -/

/-- Controller `n` with fields set and its remembered state changed. -/
def canAt (n : Nat) (l : List (Fld × Nat × Nat)) (f : CanCtl → CanCtl) : State :=
  let s := running l
  { s with cans := s.cans.setIfInBounds n (f {}) }

/-- A queued frame with a launch time. -/
def entryAt (t : Word) : CanEntry := { hdr := 0, hdr2 := 0x400, launch := t, data := [] }

/-- A classic frame. -/
def canFrame : CanFrame := { fdf := false, rtr := false, ide := false, brs := false, esi := false, id := 5, dlc := 0, data := [] }

theorem witness_canCommands :
    (∀ st ∈ [0, 1, 2], let s := canAt 7 [(Fl.CAN_STAT_STATE, 7, st)] id
      s.f Fl.CAN_STAT_STATE 7 = st ∧ s.f Fl.SYS_PWRSTAT_STATE ≤ 1 ∧ (s.can 7).wire = none) ∧
    (let s := canAt 7 [(Fl.CAN_STAT_FCS, 7, 2)] fun c => { c with recovering := true }
     s.f Fl.CAN_STAT_FCS 7 = 2 ∧ (s.can 7).recovering = true) ∧
    (let s := canAt 7 [(Fl.CAN_STAT_STATE, 7, 1), (Fl.CAN_CTL_MODE, 7, 0)] fun c => { c with queue := [entryAt 0, entryAt 1], joined := true }
     (s.can 7).queue = entryAt 0 :: [entryAt 1] ∧ (s.can 7).wire = none ∧ (entryAt 0).launches = true ∧
     ((entryAt 0).launch - s.eventTime).toInt ≤ 0 ∧ s.canSends 7 = true) ∧
    (let s := canAt 7 [] fun c => { c with queue := [entryAt 0], wire := some 3 }
     (s.can 7).queue = entryAt 0 :: [] ∧ (s.can 7).wire = some 3) ∧
    (∀ n ∈ [15, 16], ((canAt 7 [] fun c => { c with queue := List.replicate n (entryAt 0) }).can 7).queue.length = n) ∧
    (∀ e ∈ [0, 1], (canAt 7 [(Fl.CAN_CTL_EN, 7, e)] id).f Fl.CAN_CTL_EN 7 = e) ∧ nominalOk 0x0F0F3E07 = true ∧
    (let s := canAt 7 [(Fl.CAN_STAT_STATE, 7, 1), (Fl.CAN_ERR_REC, 7, 127), (Fl.CAN_RXSTAT_COUNT, 7, 31), (Fl.CAN_FILTA_EN, 127, 1)] fun c => { c with joined := true }
     s.f Fl.CAN_STAT_STATE 7 = 1 ∧ (s.can 7).joined = true ∧ s.f Fl.CAN_STAT_FCS 7 = 0 ∧ s.f Fl.CAN_ERR_REC 7 ≤ 127 ∧
     (s.can 7).search = none ∧ s.f Fl.CAN_RXSTAT_COUNT 7 < 32 ∧ s.canMatch 7 15 canFrame = true) ∧
    ((canAt 7 [] fun c => { c with search := some (3, 0) }).can 7).search = some (3, 0) ∧
    (let s := canAt 7 [(Fl.CAN_CTL_WAKEEN, 7, 1), (Fl.SYS_PWRSTAT_STATE, 0, 2), (Fl.SYS_WAKEEN_SRC, 0, 16)] id
     s.f Fl.CAN_CTL_WAKEEN 7 = 1 ∧ s.f Fl.SYS_PWRSTAT_STATE = 2 ∧ s.sys.target = none ∧ bitOf (s.f Fl.SYS_WAKEEN_SRC) 4 = true) := by
  decide +kernel

/-- Deckline in a state, with fields set and its remembered state changed. -/
def dklAt (st : Nat) (l : List (Fld × Nat × Nat)) (f : DklState → DklState) : State :=
  let s := running ((Fl.DKL_STAT_STATE, 0, st) :: l)
  { s with dkl := f s.dkl }

/-- A frame to node 5 with one unit. -/
def txTo (u : UnitState × Nat) : DklTx := { dst := 5, next := 5, kind := 0, fseq := 1, tag := some 2, bytes := [1, 2, 3, 4], units := [u] }

/-- A segment of slot 7. -/
def segment7 (ok : Bool) : DklSegment := { dst := 0, phase := 0, slot := 7, frame := 3, units := [(0, [1])], crcOk := ok, robust := false }

theorem witness_decklineLine :
    (∀ st ∈ [1, 2, 3], (dklAt st [(Fl.DKL_STAT_MCLASS, 0, 1)] id).dklState = st ∧ (dklAt st [] id).dklState ≠ 0) ∧
    (∀ n ∈ [1, 2], ((dklAt 1 [] fun y => { y with links := y.links.setIfInBounds 62 { fails := List.replicate 8 n } }).link 62).fails.getD 7 0 = n ∧
      7 < ((dklAt 1 [] fun y => { y with links := y.links.setIfInBounds 62 { fails := List.replicate 8 n } }).link 62).fails.length) ∧
    (segment7 true).crcOk = true ∧ (segment7 false).crcOk = false ∧ (segment7 true).slot < 8 ∧
    (let s := dklAt 1 [] fun y => { y with tx := [txTo (.waiting, 4)] }
     s.waitingTx 5 = some (txTo (.waiting, 4)) ∧ (txTo (.waiting, 4)).kind = 0 ∧ (txTo (.waiting, 4)).tag = some 2 ∧
     (∀ i, i < 1 → [true].getD i false = true) ∧ ∀ u ∈ (txTo (.waiting, 4)).units, u.2 < 5) ∧
    (let s := dklAt 1 [] fun y => { y with tx := [txTo (.waiting, 5)] }
     s.waitingTx 5 = some (txTo (.waiting, 5)) ∧ ∃ u ∈ (txTo (.waiting, 5)).units, u.1 = .waiting ∧ 5 ≤ u.2) ∧
    (dklAt 1 [] id).waitingTx 63 = none := by decide +kernel

theorem witness_decklineLine_slot :
    (let s := dklAt 1 [(Fl.DKL_STAT_MCLASS, 0, 1), (Fl.DKL_CFG_SLOTEN, 0, 255)] fun y => { y with steady := 16, current := some 0, tx := [txTo (.unsent, 0)] }
     let t := (s.setReg R.DKL_TXMAPA 47 0xFFFFFFFF).setReg R.DKL_TXMAPB 47 0xFFF
     t.dklSends = true ∧ t.dkl.owner = 0 ∧ t.dkl.current = some 0 ∧ t.dkl.tx[0]? = some (txTo (.unsent, 0)) ∧
     t.robustTx (txTo (.unsent, 0)) = false ∧ nextUnits (txTo (.unsent, 0)) (t.slotCapacity 5 7 / 4) ≠ []) := by decide +kernel

/-- A data frame from node 62. -/
def dataFrom (dst : Nat) : DklDataFrame := { src := 62, dst := dst, frame := 1, payload := [] }

/-- A command word of GO with a destination and a length. -/
def goWord (dst len : Nat) : Word := BitVec.ofNat 32 (2 ^ 31 + dst * 2 ^ 24 + len)

theorem witness_decklineNetwork :
    (∀ c ∈ [0, 15], let s := dklAt 1 [(Fl.DKL_RXSTAT_COUNT, 0, c)] id
      (s.link 62).last ≠ some (dataFrom 0).frame ∧ s.f Fl.DKL_RXSTAT_COUNT < 16 ∧ (dataFrom 5).dst ≠ 0 ∧ (dataFrom 5).dst ≠ 63) ∧
    ((dklAt 1 [] fun y => { y with links := y.links.setIfInBounds 62 { last := some 1 } }).link 62).last = some 1 ∧
    (let s := dklAt 1 [(Fl.DKL_NODEC_STATE, 61, 2)] id
     s.node 62 = 2 ∧ s.dklState = 1 ∧ (∀ x ∈ s.dkl.tx, x.kind = 2 → x.dst ≠ 62) ∧ ([List.replicate 22 0].getD 0 []).length = 22) ∧
    (let s := dklAt 1 [(Fl.DKL_NODEC_STATE, 0, 2), (Fl.DKL_NODEA_ID, 0, 9)] id
     s.node 1 = 2 ∧ s.node 2 = 0 ∧ (∀ k, k < 2 → 1 ≤ k → s.node k ≠ 0) ∧ s.q R.DKL_NODEA R.DKL_NODEB 0 ≠ 7 ∧
     s.f Fl.DKL_CTL_AUTOAPP = 0) ∧
    (let s := dklAt 1 ((List.range 62).map fun k => (Fl.DKL_NODEC_STATE, k, 2)) id
     (∀ k, k < 62 → s.node (k + 1) ≠ 0) ∧ ∀ k, k < 62 → s.q R.DKL_NODEA R.DKL_NODEB k ≠ 7) ∧
    (let s := dklAt 1 [(Fl.DKL_NODEC_STATE, 61, 1)] id
     s.node 62 = 1 ∧ (s.link 62).approved = false) := by decide +kernel

theorem witness_decklineNetwork_send :
    (∀ n ∈ [7, 8], let s := dklAt 1 [(Fl.DKL_NODEC_STATE, 61, 2)] fun y => { y with tx := List.replicate n (txTo (.unsent, 0)) }
      (s.dkl.tx.filter fun x : DklTx => x.tag.isSome).length = n ∧ s.node (bitsOf (goWord 62 240) 24 6) = 2) ∧
    (goWord 63 241).getLsbD 31 = true ∧ bitsOf (goWord 63 240) 24 6 = 63 ∧ bitsOf (goWord 63 240) 0 8 ≤ 240 ∧
    240 < bitsOf (goWord 63 241) 0 8 ∧
    (∀ st ∈ [0, 1, 2], let s := dklAt st [] id
      s.dklState = st ∧ s.f Fl.SYS_PWRSTAT_STATE ≤ 1 ∧ s.dklSends = false) ∧
    (dklAt 1 [(Fl.DKL_STAT_MCLASS, 0, 1)] fun y => { y with steady := 16 }).dklSends = true := by decide +kernel

/-! ### Witnesses: host port, storage, Ethernet -/

/-- A queue in a state, with other fields set. -/
def queueAt (q st : Nat) (l : List (Fld × Nat × Nat)) : State := running ((Fl.HST_QSTAT_STATE, q, st) :: l)

theorem witness_hostQueues :
    (∀ st ∈ [0, 1, 2, 3], (queueAt 31 st []).queueState 31 = st) ∧
    (∀ x ∈ [(0, 15, 15, true), (0, 3, 2, false), (14, 1, 1, true), (14, 15, 0, true), (14, 15, 13, true), (14, 1, 15, false)],
      let s := queueAt 31 1 [(Fl.HST_SQHEAD_HEAD, 31, x.1), (Fl.HST_SQTAIL_TAIL, 31, x.2.1)]
      (decide ((s.f Fl.HST_SQTAIL_TAIL 31 + 16 - s.f Fl.HST_SQHEAD_HEAD 31) % 16 ≤
        (x.2.2.1 % 16 + 16 - s.f Fl.HST_SQHEAD_HEAD 31) % 16) = x.2.2.2)) ∧
    (let s := queueAt 31 1 [(Fl.HST_SQTAIL_TAIL, 31, 1)]
     s.host.fetchStopped = false ∧ s.nextQueue 0 s.host.lastQueue0 = some 31 ∧
     (List.range 48).find? (fun k => (s.op k).isNone) = some 0) ∧
    (running []).f Fl.EVT_LINESTAT_LINE = 0 ∧ (running []).pcie = true ∧
    ({ running [] with sys.hsel := 1, sys.phase := .running } : State).pcie = false := by decide +kernel

theorem witness_hostQueues_messages :
    (let s := hostWith [(Fl.HST_QSTAT_STATE, 0, 1), (Fl.HST_QCFG_TMO, 0, 1)] 47 (hostOp 0x7F 0)
     s.op 47 = some (hostOp 0x7F 0) ∧ (hostOp 0x7F 0).message = true ∧ (hostOp 0x7F 0).delivered = false ∧
     s.host.ringHeld.toList.getD 0 0 < 16 ∧ s.host.endOrder = [] ∧ s.queueState 0 = 1 ∧ s.f Fl.HST_QCFG_TMO 0 ≠ 0 ∧
     s.messageAt (s.f Fl.HST_HCOP_QID 3) (s.f Fl.HST_HCOP_TAG 3) = some 47) ∧
    (running []).messageAt 0 0 = none ∧
    (let o := { hostOp 0x80 0 with ended := true }
     let s := hostWith [] 47 o
     ({ s with host.endOrder := [47] } : State).op 47 = some o) ∧
    (let s := { running [(Fl.EVT_LINEEN_EN, 0, 255), (Fl.HST_CTL_EVEN, 0, 255)] with host.msiVectors := 1 }
     s.host.msiVectors ≠ 0 ∧ s.pcie = true) ∧
    (running []).host.msiVectors = 0 := by decide +kernel

theorem witness_hostOperations_ends :
    (∀ op ∈ [0x80, 0x82, 0x83, 0x84, 0x85, 0x86], (hostWith [] 47 (hostOp op 0)).op 47 = some (hostOp op 0) ∧
      (hostOp op 0).ended = false ∧ (hostOp op 0).arg 0 = 0 ∧ (hostOp op 0).rlen < 5187) ∧
    (let s := { hostWith [(Fl.HST_WIN_SIZE, 0, 1)] 47 (hostOp 0x81 9) with mem := [(0x20000008, 1)] }
     let image := s.bytes (s.windowBase + 0) 9
     (hostOp 0x81 9).hostMem = false ∧ 0 + 9 ≤ s.windowSize ∧ imgType image = 1 ∧ s.checkResult image ≠ 1) ∧
    (let o := { hostOp 0x82 0 with state := 3 }
     let s := hostWith [] 47 o
     s.op 47 = some o ∧ s.reachable o o.raddr o.rlen = true) ∧
    (∀ d ∈ [399, 400], ({ hostOp 0x83 0 with state := 3, args := [BitVec.ofNat 32 d] } : HostOp).arg 0 = d) ∧
    (∀ d ∈ [0, 1, 2, 3], ({ hostOp 0x84 0 with args := [BitVec.ofNat 32 d] } : HostOp).arg 0 = d) ∧
    (let s := { hostWith [] 47 (hostOp 0x85 0) with sig.hostDone := [(47, [])] }
     s.op 47 = some (hostOp 0x85 0) ∧ cellsFind s.sig.hostDone 47 = some [] ∧
     cellsFind (hostWith [] 47 (hostOp 0x85 0)).sig.hostDone 47 = none) := by decide +kernel

theorem witness_hostOperations_abort :
    (let s := hostWith [] 47 (hostOp 0x86 0)
     (s.ops.find? fun e => e.1 != 47 && e.2.queue == 0 && e.2.tag == 0 && !e.2.ended &&
        (e.2.op < 0x80 || steppedOp e.2.op)) = none) ∧
    (let x := hostOp 0x82 0
     let s := hostWith [] 47 (hostOp 0x86 0)
     let s := { s with host.slots := s.host.slots.set! 0 (some x) }
     (s.ops.find? fun e => e.1 != 47 && e.2.queue == 0 && e.2.tag == 0 && !e.2.ended &&
        (e.2.op < 0x80 || steppedOp e.2.op)) = some (0, x) ∧ 0x80 ≤ x.op) := by decide +kernel

theorem witness_hostOperations_storage :
    (let g : ArchiveGroup := { iseq := 1, close := 0, records := [], envelope := none }
     let s := running [(Fl.STO_STAT_STATE, 0, 2), (Fl.SYS_SUPSTAT_ABOVE_HOLD, 0, 1), (Fl.THM_JSTAT_NVOK, 0, 1)]
     let s := { s with bil.staged := [g] }
     s.stoReady = true ∧ s.archiveItem = some (.group g) ∧ s.nvOk = true ∧ s.sys.saveStep = 0 ∧ s.sys.saveEnd = false ∧
     s.sto.moved = 0 ∧ g.bytes ≤ 4096 ∧ s.host.storageOrder = []) ∧
    (∀ x ∈ [(0x80000000, 0), (0x80000101, 257), (0x80000001, 1), (0x80000100, 256)],
      (BitVec.ofNat 32 x.1).getLsbD 31 = true ∧ bitsOf (BitVec.ofNat 32 x.1) 0 9 = x.2) ∧
    (let s := running [(Fl.STO_PASIZE_BLOCKS, 0, 256), (Fl.STO_REQADDR_ADDR, 3, 0x1000000)]
     s.f Fl.STO_REQSTAT_BUSY 3 = 0 ∧ s.f Fl.STO_REQBLK_BLOCK 3 + 256 ≤ s.f Fl.STO_PASIZE_BLOCKS ∧
     inSram (s.f Fl.STO_REQADDR_ADDR 3 * 32) (512 * 256) = true) ∧
    (∀ n ∈ [0, 2], let s := { running [] with sto.initFailed := n }
      s.f Fl.STO_STAT_STATE ≤ 1 ∧ s.f Fl.SYS_PWRSTAT_STATE ≤ 1 ∧ s.sto.initFailed = n) ∧
    (∀ n ∈ [1, 2], let s := { running [(Fl.STO_STAT_STATE, 0, 2)] with sto.failed := n, sto.attempts := 2 }
      s.f Fl.STO_STAT_STATE = 2 ∧ s.sto.attempts < 3 ∧ s.sto.failed = n ∧ s.stoReady = true) ∧
    (running []).f Fl.STO_STAT_STATE = 0 := by decide +kernel

/-- MAC 1 in a state, with fields set and its link changed. -/
def macAt (st : Nat) (l : List (Fld × Nat × Nat)) (f : EthMac → EthMac) : State :=
  let s := running ((Fl.ETH_STAT_STATE, 1, st) :: l)
  { s with eth := s.eth.setIfInBounds 1 (f {}) }

/-- A descriptor of `n` bytes handed over at the head of ring 1 of MAC 1. -/
def frameQueued (n : Nat) : State :=
  let s := macAt 1 [(Fl.ETH_TXBASE_BASE, 3, 0x100000), (Fl.ETH_TXTAIL_TAIL, 3, 1)] fun y => { y with wire := some (1, false) }
  let w := leBytes 4 (2 ^ 31 + n)
  { s with mem := (List.range 4).map (fun i => (0x20000004 + i, w.getD i 0)) |>.filter fun c => c.2 != 0 }

theorem witness_ethernet :
    (∀ st ∈ [0, 1, 2, 3], (macAt st [] id).macState 1 = st) ∧
    (macAt 0 [] id).f Fl.SYS_PWRSTAT_STATE ≤ 1 ∧
    (∀ n ∈ [14, 1518], let s := frameQueued n
      s.txReady 1 1 = true ∧ s.txLenOk 1 1 = true ∧ s.macState 1 ≠ 0 ∧ (s.mac 1).wire = some (1, false)) ∧
    (∀ n ∈ [13, 1519], let s := frameQueued n
      s.txReady 1 1 = true ∧ s.txLenOk 1 1 = false ∧ s.macState 1 = 1) ∧
    (∀ c ∈ [63, 64], let s := macAt 1 [(Fl.ETH_RXSTAT_COUNT, 1, c)] id
      s.macState 1 = 1 ∧ s.f Fl.ETH_RXSTAT_COUNT 1 = c ∧ isPause (List.replicate 1518 (0xFF : Byte)) = false ∧
      (s.ethFilter 1 ((List.replicate 1518 (0xFF : Byte)).take 6)).isSome = true) ∧
    (let s := macAt 1 [(Fl.ETH_CTL_RXPAUSE, 1, 1), (Fl.ETH_CTL_EN, 1, 1)] id
     s.macState 1 ≠ 0 ∧ s.f Fl.ETH_CTL_RXPAUSE 1 = 1 ∧ s.f Fl.ETH_MDIOSTAT_BUSY 1 = 0 ∧
     (0x80000000 : Word).getLsbD 31 = true ∧ s.f Fl.ETH_CTL_EN 1 = 1 ∧ bitsOf (1 : Word) 0 2 ≠ s.f Fl.ETH_CFG_SPEED 1) ∧
    (∀ v ∈ [0xA0000000, 0x90000000], ((macAt 1 [] fun y => { y with mdio := some (BitVec.ofNat 32 v) }).mac 1).mdio =
      some (BitVec.ofNat 32 v)) ∧
    (macAt 0 [] id).f Fl.ETH_CTL_EN 1 = 0 := by decide +kernel

/-! ### Witnesses: frames and what every step keeps -/

theorem witness_frames :
    (coreWrites .referenceQualified).isSome = true ∧ (driveWrites (.laneEnable 31)).isSome = true ∧
    (meterWrites (.fold)).isSome = true ∧ (linkWrites .storageStep).isSome = true := by decide

theorem witness_everyStepKeeps : (State.reset.queued .referenceQualified).pending ≠ [] ∧
    ((State.reset.queued .referenceQualified).memWf = true) ∧ (Safe (step State.reset)) ∧
    LinesShown State.reset ∧ SheetsClamped State.reset :=
  ⟨by simp [State.queued], by decide +kernel, ⟨_, rfl⟩, by unfold LinesShown; decide +kernel, by unfold SheetsClamped; decide +kernel⟩

/-! ### Decode: no row of the table gives bits -/

theorem test_decode_none (nbits w : Nat) : decodeTableWord nbits w = none ∧ State.reset.withFetchWord nbits w = State.reset :=
  ⟨rfl, rfl⟩

/-! ### Well-formedness: an ill-formed command for every check is refused -/

/-- Chapter 2: bus and power. -/
theorem test_illFormed_bus_and_power :
    ([.registerWrite (.hart 4) default default, .readLowWord (.hart 4) default, .readHighWord (.hart 4) default,
     .writeLowWord (.hart 4) default default, .writeHighWord (.hart 4) default default,
     .vinAboveStart default 4 0, .vinAboveStart default 0 2, .startCurrentDetected 24 default, .rstNRelease 4 0,
     .rstNRelease 0 2, .coldResetAssert default 4 0, .coldResetAssert default 0 2, .watchdogEnable 1024,
     .watchdogBadKey 0x5A] : List Instr).all (fun c => !c.wf) = true := by decide

/-- Chapter 3: harts. -/
theorem test_illFormed_harts :
    ([.hartStart 4, .hartHalt 4, .hartIcinv 4, .haltComplete 4, .mailboxWrite default 4 default, .imageCheckDone 0,
     .imageCheckDone 5] : List Instr).all (fun c => !c.wf) = true := by decide

/-- Chapter 4: loop engine. -/
theorem test_illFormed_loop_engine :
    ([.vmac default default 0, .vmsc default default 0, .vlim default default 0 1, .vlim default default 1 0,
     .vkld default 0, .groupTick 8, .outputLaunch 8, .batchEnable 64, .batchDisable 64, .batchKernelChange 64 0,
     .batchKernelChange 0 16, .batchMaskChange 64 default, .groupEnable 8, .groupDisable 8, .groupPeriodWrite 8 0,
     .groupPeriodWrite 0 65536, .launchWrite 512, .coefficientWrite (.hart 4) 0 0 0 default,
     .coefficientWrite .host 2 0 0 default, .coefficientWrite .host 0 1024 0 default,
     .coefficientWrite .host 0 0 16 default, .cellInit 1024, .followingErrorAction 1024] : List Instr).all (fun c => !c.wf) = true := by decide

/-- Chapter 5: lanes. -/
theorem test_illFormed_lanes :
    ([.laneEnable 32, .linkStartStepEnd 32 0, .linkStartStepEnd 0 33, .capRecord 32 0 default,
     .capRecord 0 32 default, .rangeEcho 32 default default, .telemetryFrame 32 0 default default,
     .telemetryFrame 0 32 default default, .exchangeEnd 32, .cellLost 1024, .errorThreshold 32, .cellReadmit 1024,
     .readmitEnd 1024, .cellmapWrite 1024 default, .laneDisable 32, .laneStopComplete 32 default,
     .laneTripFall 32, .mgmtResponse 256 default default, .homeLaneReturn 16] : List Instr).all (fun c => !c.wf) = true := by decide

/-- Chapter 6: ports. -/
theorem test_illFormed_ports :
    ([.portGroupEnable 80, .portGroupDisable 80, .cellGroupAssign 1024 0, .cellGroupAssign 0 80, .groupCheck 80,
     .groupPrecharge 80, .groupRun 80 default, .groupStop 80, .groupDisch 80, .groupClear 80, .groupClrreef 80,
     .contactorsClosed 80, .closingTimeout 80, .prechargeComplete 80, .prechargeTimeout 80, .rampdownComplete 80,
     .dischargeComplete 80, .dischargeTimeout 80, .dischargeForcedOpen 80, .contactorsOpened 80,
     .openingTimeout 80, .weldStepEnd 80, .unrequestedOpen 80, .autocvSwitch 80] : List Instr).all (fun c => !c.wf) = true := by decide

/-- More of chapter 6. -/
theorem test_illFormed_ports_2 :
    ([.openCell 1024, .senseSearchStart 80, .senseSearchEnd 80, .cellRestore 1024, .snap default 1024] : List Instr).all (fun c => !c.wf) = true := by decide

/-- Chapter 7: allocation. -/
theorem test_illFormed_allocation :
    ([.halyardReceived default default 256, .reqWrite 48 default, .reqAged 48, .nodeViolation 256] : List Instr).all (fun c => !c.wf) = true := by decide

/-- Chapter 8: sessions. -/
theorem test_illFormed_sessions :
    ([.pilotStateQualified 24 default, .slacMessage 24 default, .sdpRequest 24, .tcpConnect 24,
     .v2gtpFrame 48 default, .supportedAppProtocol 48 default, .clientHello 48 default default default,
     .tlsSecretsWrite 48 default default, .responseSend 48 default, .receiveRelease 48, .cableCheckReq 48,
     .preChargeReq 48 default, .currentDemandReq 48 default default 0 default,
     .currentDemandReq 0 default default 256 default, .dcChargeLoopReq 48 default default 0 default,
     .dcChargeLoopReq 0 default default 256 default, .sessionStopReq 48, .powerDeliveryReq 48 default default,
     .proceed 48, .sessionStop 48, .sessionClear 48, .tlinkExpiry 48, .tsetupExpiry 48, .tseqExpiry 48] : List Instr).all (fun c => !c.wf) = true := by decide

/-- More of chapter 8. -/
theorem test_illFormed_sessions_2 :
    ([.trespExpiry 48, .tloopExpiry 48, .tchkExpiry 48, .tplcExpiry 48, .sessionEnable 48, .sessionDisable 48,
     .frontEndConfig 24 0 0, .frontEndConfig 0 4 0, .frontEndConfig 0 0 64, .deltaAck 48, .deltaReleaseTimeout 48,
     .standbyFrameObserved 24 default, .standbyTakeover 24, .sessionHandover 48] : List Instr).all (fun c => !c.wf) = true := by decide

/-- Chapter 9: cooling. -/
theorem test_illFormed_cooling :
    ([.sensorConversion 80 default default, .sensorBroken 80, .sensorRestored 80, .flowEdge 24, .nogoClear 24,
     .nogoStop 24, .thermalReefFall 24] : List Instr).all (fun c => !c.wf) = true := by decide

/-- Chapter 10: metering. -/
theorem test_illFormed_metering :
    ([.meterSample 24 default default, .fastTapSample 24 default default, .meterCheck 24 default,
     .meterFaultClear 24, .pulseStart 24, .pulseEnd 24] : List Instr).all (fun c => !c.wf) = true := by decide

/-- Chapter 11: billing. -/
theorem test_illFormed_billing :
    ([.demlenWrite 8, .displayAnswer 24, .displayAnswerMissed 24] : List Instr).all (fun c => !c.wf) = true := by decide

/-- Chapter 12: signatures. -/
theorem test_illFormed_signatures :
    ([.keyRebuildComplete 2] : List Instr).all (fun c => !c.wf) = true := by decide

/-- Chapter 13: shroud. -/
theorem test_illFormed_shroud :
    ([.zoneDemand 5, .shroudStop1 48, .zoneReset 5, .limset 8 default, .axen 8, .imdtest 48 default,
     .targetRelease 64, .faultClear 48, .closeRequest 48 default default, .openRequest 48 default default,
     .lockRequest 48, .unlockRequest 48, .coilRelease 48 default, .mirrorTimeout 48 default,
     .mirrorChange 48 default default, .lockConfirmed 48, .lockTimeout 48, .noVoltageVerified 48,
     .unlockConfirmed 48, .imdFault 48, .imdWarn 48 default, .isolationValid 48, .tempCut 48, .pinBroken 48] : List Instr).all (fun c => !c.wf) = true := by decide

/-- More of chapter 13. -/
theorem test_illFormed_shroud_2 :
    ([.pinBrokenStop 48, .axisSample 8 default default default, .coilTestPulse 48 default,
     .fabricSourceChange 72 default] : List Instr).all (fun c => !c.wf) = true := by decide

/-- Chapter 14: ring. -/
theorem test_illFormed_ring :
    ([.ringLinkStart 2, .linkcap 2 0 default default default default,
     .linkcap 0 256 default default default default, .linkauth 2 default, .heartbeat 2 default,
     .heartbeatMissed 2, .neighbourLost 2, .displaced 16] : List Instr).all (fun c => !c.wf) = true := by decide

/-- Chapter 15: land switches. -/
theorem test_illFormed_land_switches :
    ([.channelOn 16, .channelOff 16, .channelClear 16, .channelOvercurrent 16 default, .channelOvertemp 16,
     .openLoad 16, .inrushEnd 16, .pwmPeriod 16, .timedPulseEnd 16, .clampEnd 16, .holdEnd 16,
     .currentSense 16 default default, .pullInEnd 48, .coilOvercurrent 48, .coilOpen 48,
     .feedbackChange 96 default] : List Instr).all (fun c => !c.wf) = true := by decide

/-- Chapter 16: estimator. -/
theorem test_illFormed_estimator :
    ([.estimatorStep 9 default default default, .voltageLimitCheck 9 default default, .restStart 9, .restRepeat 9,
     .counterCheck 9 default, .packInsert 9 default, .reestimate 9, .newpack 9, .firstEstimate 9] : List Instr).all (fun c => !c.wf) = true := by decide

/-- Chapter 17: time. -/
theorem test_illFormed_time :
    ([.calendarSet 8, .timestampRead 4, .launchTimeReached 12] : List Instr).all (fun c => !c.wf) = true := by decide

/-- Chapter 18: CAN. -/
theorem test_illFormed_CAN :
    ([.canEnable 8, .canDisable 8, .canStopComplete 8, .canBusJoin 8, .canRecover 8, .canAbort 8, .canAbortAll 8,
     .canPush 8, .canRxReturn 8 default, .canTxEventRead 8, .canTimingWrite 8 0 default,
     .canTimingWrite 0 3 default, .canFrameReceived 8 default, .canTxComplete 8 default, .canRecoveryComplete 8,
     .abdWindowEnd 8 default default, .canWakePattern 8] : List Instr).all (fun c => !c.wf) = true := by decide

/-- Chapter 19: Deckline. -/
theorem test_illFormed_Deckline :
    ([.slotStart 8, .segmentReceived 0 default, .segmentReceived 63 default,
     .dklAckFrame 0 default default default, .dklAckFrame 63 default default default, .soundFrame 0 default,
     .soundFrame 63 default, .mapFrame 0 default, .mapFrame 63 default, .neighFrame 0 default,
     .neighFrame 63 default, .ackTimeout 0, .ackTimeout 64, .joinApprovalTimeout 0, .joinApprovalTimeout 63,
     .nodeApprove 0, .nodeApprove 63, .soundingDue 0, .soundingDue 64] : List Instr).all (fun c => !c.wf) = true := by decide

/-- Chapter 20: host. -/
theorem test_illFormed_host :
    ([.hostDoorbell 32 0, .hostDoorbell 0 16, .hostNop 48, .install 48, .exportArchive 48, .compact 48,
     .hostKeygen 48, .hostAttest 48, .hostAbort 48, .hostBoot 48, .messageOperation 48, .hartCompletion 4,
     .hartRingReturn 4 default, .completionReturn 32 0, .completionReturn 0 16, .messageTimeout 48,
     .queueEnable 32, .queueDisable 32, .operationComplete 48, .eventClear (.hart 4) 0 default,
     .eventClear .host 4 default, .hostEventClear 4 default, .ethEnable 2, .ethDisable 2] : List Instr).all (fun c => !c.wf) = true := by decide

/-- More of chapter 20. -/
theorem test_illFormed_host_2 :
    ([.ethStopComplete 2, .ethTxTail 2 0 default, .ethTxTail 0 2 default, .ethTxComplete 2 0, .ethTxComplete 0 2,
     .ethFrameReceived 2 default default, .ethPause 2 default, .ethPauseEnd 2, .ethRxReturn 2 default,
     .mdioTransaction 2 default, .mdioDone 2 default, .ethConfigWrite 2 default, .stoRequest 4 default,
     .emmcInit default default default 256 0 0, .emmcInit default default default 0 256 0,
     .emmcInit default default default 0 0 256, .emmcHealth 256 0 0, .emmcHealth 0 256 0, .emmcHealth 0 0 256,
     .guardLaneTraffic 16 default, .laneLockLost 32, .ringPtpFrame 2 default default default, .canRxError 8 0,
     .canRxError 0 8] : List Instr).all (fun c => !c.wf) = true := by decide

/-- More of chapter 20. -/
theorem test_illFormed_host_3 :
    ([.t1sLinkUp 24, .vehicleLinkLost 48] : List Instr).all (fun c => !c.wf) = true := by decide

/-! ### The manual's worked examples, one step each -/

/-- The tree of "Sharing the Site's Power", worked example. -/
def exampleTree : List TreeNode :=
  [⟨0, 0xFFF, 21, 1, 8000000, 300000⟩, ⟨1, 0, 21, 0, 5000000, 0⟩, ⟨2, 0, 21, 0, 4000000, 0⟩]

/-- Its consumers. -/
def exampleConsumers : List Consumer :=
  [⟨0x1000, 1, 0, 4, 2000000, 0, 0, 0⟩, ⟨0x1001, 1, 1, 2, 3000000, 0, 0, 0⟩, ⟨0x1002, 1, 1, 1, 1200000, 0, 0, 0⟩,
   ⟨0x1003, 2, 1, 2, 2700000, 0, 0, 0⟩, ⟨0x1004, 2, 1, 2, 1400000, 0, 0, 0⟩, ⟨0x1030, 2, 0, 1, 0, 0, 1000000, 0⟩]

/-- The grants and the dispatch of the example (R253, R255). -/
theorem test_allocation_example :
    ((solveTree 1 0 3 exampleTree exampleConsumers).1.map fun c => (c.a, c.disp)) =
      [(2000000, 0), (1914286, 0), (957142, 0), (2428572, 0), (1400000, 0), (0, 1000000)] := by decide +kernel

/-- The members, the capability and the firing order of port 4 (R203, R204). -/
def examplePort : State :=
  let s := running []
  { s with cln := { s.cln with caps := (List.range 40).map fun i => (128 + i, List.replicate 16 0 ++ leBytes 4 80000) } }

theorem test_share_example :
    let l := (shares examplePort ((List.range 40).map (128 + ·)) 7 2600017).1
    (List.range 40).map (fun i => shareOf l (128 + i)) =
      List.replicate 7 65000 ++ List.replicate 17 65001 ++ List.replicate 16 65000 := by decide +kernel

theorem test_share_example_removed :
    let m := ((List.range 40).map (128 + ·)).filter (· != 143)
    let l := (shares examplePort m 7 2600017).1
    (l.map (·.2)).foldl (· + ·) 0 = 2600017 ∧ (l.filter fun e => e.2 == 66668).length = 4 ∧
      (l.filter fun e => e.2 == 66667).length = 35 := by decide +kernel

theorem test_signal_example : toSignal 65001 80000 = 6815849 ∧ toSignal 65000 80000 = 6815744 := by decide

/-- Two groups of the loop engine's load example: 20 batches of length 18, 8 of length 35 (R116, R118). -/
def exampleLoop : State :=
  let s := running ([(Fl.LPE_GROUP_EN, 0, 1), (Fl.LPE_GROUP_PERIOD, 0, 2000), (Fl.LPE_GROUP_EN, 1, 1),
      (Fl.LPE_GROUP_PERIOD, 1, 4000)] ++
    (List.range 28).flatMap fun b => [(Fl.LPE_BATCH_EN, b, 1), (Fl.LPE_BATCH_GROUP, b, if b < 20 then 0 else 1),
      (Fl.LPE_BATCH_KERNEL, b, if b < 20 then 0 else 1)])
  { s with lpe.kernels := [(0, 18), (512, 35)] }

theorem test_load_example : exampleLoop.load = 21103 ∧ exampleLoop.longest = 41 ∧
    2 * exampleLoop.takeoverLoad = 21104 := by decide +kernel

/-- Meter 6 at 1,800 A and 760 V, its first sample ending 20 µs after the last one: 498,073.6 units (R328). -/
theorem test_meter_example :
    let s := running []
    let s := { s with time.now := 20000 * 2 ^ 32 }
    let s := s.setMt 6 fun x => { x with lastEnd := some 0 }
    let r := meterSample 6 1800000 760000 s
    (s.now = 20000 ∧ (r.mt 6).rawDel = 498073 ∧ (r.mt 6).rawRec = 0) := by decide +kernel

/-! ### Hart arithmetic at its corners (R66 to R70) -/

/-- Hart 0 with g2 and g3. -/
def with23 (a b : Word) : State := runs 0 fun x => (x.setR 2 a).setR 3 b

/-- g4 after an instruction. -/
def g4 (o : Host.Outcome State Fault Refusal) : Option (Nat × Nat) :=
  match o with
  | .next t => some (((t.hart 0).r 4).toNat, (t.hart 0).pc.toNat)
  | _ => none

theorem test_add_wraps :
    (g4 (exec (.add 0 4 2 3) (with23 0xFFFFFFFF 2))).map (·.1) = some 1 ∧
    (g4 (exec (.adds 0 4 2 3) (with23 0x7FFFFFFF 2))).map (·.1) = some 0x7FFFFFFF ∧
    (g4 (exec (.subs 0 4 2 3) (with23 0x80000000 1))).map (·.1) = some 0x80000000 := by decide +kernel

theorem test_shift_uses_five_bits :
    (g4 (exec (.sll 0 4 2 3) (with23 1 33))).map (·.1) = some 2 ∧
    (g4 (exec (.sra 0 4 2 3) (with23 0x80000000 4))).map (·.1) = some 0xF8000000 := by decide +kernel

theorem test_divide_rounds_toward_zero :
    (g4 (exec (.div 0 4 2 3) (with23 0xFFFFFFF9 2))).map (·.1) = some 0xFFFFFFFD ∧
    (g4 (exec (.rem 0 4 2 3) (with23 0xFFFFFFF9 2))).map (·.1) = some 0xFFFFFFFF := by decide +kernel

theorem test_mulh_signed :
    (g4 (exec (.mulh 0 4 2 3) (with23 0xFFFFFFFF 2))).map (·.1) = some 0xFFFFFFFF ∧
    (g4 (exec (.mulhu 0 4 2 3) (with23 0xFFFFFFFF 2))).map (·.1) = some 1 := by decide +kernel

theorem test_immediates :
    (g4 (exec (.addi 0 4 2 0xFFF0) (with23 16 0))).map (·.1) = some 0 ∧
    (g4 (exec (.clz 0 4 2) (with23 1 0))).map (·.1) = some 31 := by decide +kernel

end Sys2Proof.Tests
end

/-! ## Hart control (R89, R90, R92, R94): the effects of its commands on a hart -/

namespace Sys2Proof.Machine

/-- A command whose meaning is `u` answers what `u` and what follows at once from it satisfy. -/
theorem answers_of_done {c : Instr} {s u : State} {P : State → Prop} (he : exec c s = done u) (hP : P u.settle) :
    Answers c s P := ⟨u.settle, he, hP⟩

/-- What follows at once from a command leaves the word a read returned. -/
@[simp] theorem State.settle_readData (s : State) : s.settle.readData = s.readData :=
  State.readData_of_without (State.settle_settled s) rfl

/-! ### START and HALT (R89, R90) -/

/-- What START leaves of hart `x` at the address `entry` (R89). -/
def StartedAt (entry : Word) (x y : HartCtx) : Prop :=
  y.run = .running ∧ y.pc = entry ∧ y.mode = 1 ∧ (∀ r : RegNum, y.r r = 0) ∧ y.clocks = 0 ∧ y.done = 0 ∧
    y.localStore = x.localStore ∧ y.trapBase = x.trapBase ∧ ∀ k : Fin 8, y.rgnAttr[k].getLsbD 31 = false

theorem startedHart_r (pc : Word) (x : HartCtx) (r : RegNum) : (startedHart pc x).r r = 0 := by
  unfold HartCtx.r
  split
  · rfl
  · rw [startedHart, Vector.toList_replicate, List.getD_replicate 0 r.isLt]

theorem startedHart_region_disabled (pc : Word) (x : HartCtx) (k : Fin 8) :
    (startedHart pc x).rgnAttr[k].getLsbD 31 = false := by
  simp [startedHart]

theorem startedAt_startedHart (pc : Word) (x : HartCtx) : StartedAt pc x (startedHart pc x) :=
  ⟨rfl, rfl, rfl, startedHart_r pc x, rfl, rfl, rfl, rfl, startedHart_region_disabled pc x⟩

/-- A hart that starts at its entry is as START leaves it, after what follows at once too. -/
theorem startHart_settle_startedAt (h : Hart) (s : State) :
    StartedAt (s.hartEntry h.val) (s.hart h.val) ((startHart h.val (s.hartEntry h.val) s).settle.hart h.val) := by
  rw [State.settle_hart, startHart, State.hart_withHart_same]
  exact startedAt_startedHart _ _

theorem hartStart_of_halted {n : Nat} {s : State} (hm : s.mayStart n = true) (hr : (s.hart n).run = .halted) :
    hartStart n s = startHart n (s.hartEntry n) s := by
  simp [hartStart, hm, hr]

theorem hartStart_of_halting {n : Nat} {s : State} (hm : s.mayStart n = true) (hr : (s.hart n).run = .halting) :
    hartStart n s = s.withHart n fun x => { x with run := .startPending } := by
  simp [hartStart, hm, hr]

theorem hartHalt_of_running {h : Hart} {s : State} (hr : (s.hart h.val).run = .running) :
    hartHalt h.val s = s.withHart h.val fun x => { x with run := .halting } := by
  simp [hartHalt, hr, Nat.not_le.mpr h.isLt]

theorem haltComplete_of_halting {h : Hart} {s : State} (hr : (s.hart h.val).run = .halting) :
    haltComplete h.val s = s.withHart h.val stopHart := by
  simp [haltComplete, hr, Nat.not_le.mpr h.isLt]

theorem haltComplete_of_startPending {h : Hart} {s : State} (hr : (s.hart h.val).run = .startPending) :
    haltComplete h.val s = startHart h.val (s.hartEntry h.val) s := by
  simp [haltComplete, hr, Nat.not_le.mpr h.isLt]

/-! ### Mailboxes (R92) -/

theorem bitOf_setBit_same (v i : Nat) : bitOf (setBit v i) i = true := by
  simp [bitOf, setBit]

theorem mailboxWrite_of_room {w : Nat} {h : Hart} {v : Word} {s : State} (hl : (s.hart h.val).inbox.length < 16) :
    mailboxWrite w h.val v s = s.setHart h.val fun x => { x with inbox := x.inbox ++ [v] } := by
  simp [mailboxWrite, hl, Nat.not_le.mpr h.isLt]

theorem mailboxWrite_of_full {w : Nat} {h : Hart} {v : Word} {s : State} (hl : 16 ≤ (s.hart h.val).inbox.length) :
    mailboxWrite w h.val v s = s.setHart w fun x => { x with mboxOvf := setBit x.mboxOvf h.val } := by
  simp [mailboxWrite, Nat.not_lt.mpr hl, Nat.not_le.mpr h.isLt]

/-- A change of one hart that keeps its inbox keeps every inbox. -/
theorem State.inbox_setHart {w k : Hart} {f : HartCtx → HartCtx} (hf : ∀ x, (f x).inbox = x.inbox) (s : State) :
    ((s.setHart w.val f).hart k.val).inbox = (s.hart k.val).inbox := by
  by_cases hk : k = w
  · subst hk
    rw [State.hart_setHart_same, hf]
  · rw [State.hart_setHart_ne _ _ (Fin.val_ne_of_ne hk)]

theorem mailboxRead_of_cons {h : Hart} {s : State} {v : Word} {l : List Word} (hi : (s.hart h.val).inbox = v :: l) :
    (mailboxRead h.val s).readData = v ∧ (mailboxRead h.val s).hart h.val = { s.hart h.val with inbox := l } := by
  rw [mailboxRead, hi]
  exact ⟨rfl, State.hart_setHart_same s h fun x => { x with inbox := l }⟩

theorem mailboxRead_of_nil {h : Hart} {s : State} (hi : (s.hart h.val).inbox = []) :
    (mailboxRead h.val s).readData = 0 ∧ (mailboxRead h.val s).hart h.val = { s.hart h.val with mboxUnder := true } := by
  rw [mailboxRead, hi]
  exact ⟨rfl, State.hart_setHart_same s h fun x => { x with mboxUnder := true }⟩

/-! ### The owner lock (R94) -/

theorem ownerLock_settle_lock (s : State) : (ownerLock s).settle.f Fl.SYS_OWNERLOCK_LOCK = 1 := by
  rw [State.f_of_without (State.settle_settled _) 0 (by decide)]
  exact State.f_setF_same s Fl.SYS_OWNERLOCK_LOCK 0 1 (by decide) (by decide)

end Sys2Proof.Machine

/-! ## Integer division (R70): what the operate instructions compute -/

namespace Sys2Proof.Machine

/-- An instruction that writes rd from two registers completes with the result written. -/
theorem completes_operate {c : Instr} {h : Hart} {s : State} {f : Word → Word → Word} {rd a b : RegNum}
    (he : exec c s = done (operate h f rd a b s)) (hx : Executes h s) :
    Completes c h s (wrote (s.hart h.val) rd (f ((s.hart h.val).r a) ((s.hart h.val).r b))) := by
  obtain ⟨hr, hw⟩ := State.hartRuns_run hx.1
  refine completes_of (body := fun x s => .ok (setG h.val rd (f (x.r a) (x.r b)) s)) he hx rfl
    (HartCtx.setR_setPc _ _ _ _) ?_ ?_ ?_
  · simpa [wrote] using hr
  · simpa [wrote] using hw
  · simp [wrote]

/-- DIV of -2^31 by -1 is -2^31 (R70). -/
theorem divW_overflow : divW 0x80000000 0xFFFFFFFF = 0x80000000 := by decide

/-- REM of -2^31 by -1 is 0 (R70). -/
theorem remW_overflow : remW 0x80000000 0xFFFFFFFF = 0 := by decide

/-- The rounded quotient already wraps to R70's overflow result. -/
theorem divW_eq (p q : Word) :
    divW p q = if q = 0 then 0xFFFFFFFF else if p = 0x80000000 ∧ q = 0xFFFFFFFF then 0x80000000
      else BitVec.ofInt 32 (p.toInt.tdiv q.toInt) := by
  by_cases ho : p = 0x80000000 ∧ q = 0xFFFFFFFF
  · obtain ⟨rfl, rfl⟩ := ho
    exact divW_overflow
  · rw [if_neg ho, divW]

/-- The remainder of the rounded quotient already is R70's overflow result. -/
theorem remW_eq (p q : Word) :
    remW p q = if q = 0 then p else if p = 0x80000000 ∧ q = 0xFFFFFFFF then 0
      else BitVec.ofInt 32 (p.toInt.tmod q.toInt) := by
  by_cases ho : p = 0x80000000 ∧ q = 0xFFFFFFFF
  · obtain ⟨rfl, rfl⟩ := ho
    exact remW_overflow
  · rw [if_neg ho, remW]

end Sys2Proof.Machine

/-! ## The obligations -/

namespace Sys2Proof

open Sys2Proof.Machine

/-- Settles O3, clause by clause from the effect of each command on the hart. -/
theorem hartControl : Obligations.HartControl := by
  unfold Obligations.HartControl
  refine ⟨fun h s => ⟨?startHalted, ?startHalting, ?halt, ?haltComplete, ?haltPending, ?boxRoom, ?boxFull, ?boxRead,
    ?boxEmpty, ?icinv⟩, fun s => answers_of_done rfl (ownerLock_settle_lock s)⟩
  case startHalted =>
    intro hm hr
    refine answers_of_done rfl ?_
    rw [hartStart_of_halted hm hr]
    exact startHart_settle_startedAt h s
  case startHalting =>
    intro hm hr
    exact answers_of_done rfl (by simp [hartStart_of_halting hm hr])
  case halt =>
    intro hr
    exact answers_of_done rfl (by simp [hartHalt_of_running hr])
  case haltComplete =>
    intro hr
    exact answers_of_done rfl (by simp [haltComplete_of_halting hr, stopHart])
  case haltPending =>
    intro hr
    refine answers_of_done rfl ?_
    rw [haltComplete_of_startPending hr]
    exact startHart_settle_startedAt h s
  case boxRoom =>
    intro hl w v
    exact answers_of_done rfl (by simp [mailboxWrite_of_room hl])
  case boxFull =>
    intro hl w v
    refine answers_of_done rfl ?_
    rw [mailboxWrite_of_full hl, State.settle_hart, State.settle_hart, State.hart_setHart_same]
    constructor
    · exact State.inbox_setHart (f := fun x => { x with mboxOvf := setBit x.mboxOvf h.val }) (fun _ => rfl) s
    · exact bitOf_setBit_same (s.hart w.val).mboxOvf h.val
  case boxRead =>
    intro v l hi
    obtain ⟨hd, hh⟩ := mailboxRead_of_cons hi
    exact answers_of_done rfl (by simp [hd, hh])
  case boxEmpty =>
    intro hi
    obtain ⟨hd, hh⟩ := mailboxRead_of_nil hi
    exact answers_of_done rfl (by simp [hd, hh])
  case icinv =>
    exact answers_of_done (u := s) rfl (State.settle_settled s)

/-- Settles O11: each of the four is an operate instruction, and R70's corner results are those of its function. -/
theorem hartDivision : Obligations.HartDivision := by
  unfold Obligations.HartDivision
  intro h rd a b s hx
  refine ⟨?div, completes_operate (f := divuW) rfl hx, ?rem, completes_operate (f := remuW) rfl hx⟩
  case div =>
    rw [← divW_eq]
    exact completes_operate rfl hx
  case rem =>
    rw [← remW_eq]
    exact completes_operate rfl hx

end Sys2Proof

/-! ## Frames: what each listed command changes by its own effect -/

namespace Sys2Proof.Machine

set_option Elab.async false

/-- The register that a metrological write names is one of `metroRegs`. -/
theorem metroAt_mem {a i : Nat} {r : Rg} (h : metroAt a = some (r, i)) : ∃ n, (r, n) ∈ metroRegs := by
  obtain ⟨e, he, hf⟩ := List.exists_of_findSome?_eq_some h
  obtain ⟨j, _, hj⟩ := Option.map_eq_some_iff.mp hf
  cases hj
  exact ⟨e.2, he⟩

/-- The frame of METROLOGY_CONFIG_WRITE names every metrological register. -/
theorem metroWrites_regs {a i : Nat} {r : Rg} (h : metroAt a = some (r, i)) {low : Bool} {v : Word} {A : Part}
    (hA : meterWrites (.metrologyConfigWrite low a v) = some A) : A.regs r.addr = true ∧ r.count ≤ 65536 := by
  obtain ⟨n, hn⟩ := metroAt_mem h
  cases hA
  have hall : ∀ e ∈ metroRegs, regsIn [R.MTR_CTRATIO, R.MTR_GCAL, R.MTR_GCFG, R.MTR_GKG, R.MTR_IGAIN, R.MTR_IOFF,
      R.MTR_MCFG, R.MTR_RCOMP, R.MTR_VGAIN, R.MTR_VOFF, R.MTR_VTRATIO] e.1.addr = true ∧ e.1.count ≤ 65536 := by
    decide
  obtain ⟨hr, hc⟩ := hall _ hn
  refine ⟨?_, hc⟩
  simp only [regsIn, List.any_cons, Bool.or_eq_true] at hr ⊢
  tauto

end Sys2Proof.Machine

namespace Sys2Proof

set_option Elab.async false

open Sys2Proof.Machine

/-- The commands of the bus, power modes and boot, and hart control
that `coreWrites` lists change at most what it names: each by the frame of its own operation. -/
theorem coreWrites_frame {c : Instr} {A : Part} (h : coreWrites c = some A) (s : State) :
    Effect c s fun u => u.without A = s.without A := by
  cases c
  case readLowWord | readHighWord =>
    cases h
    exact ⟨_, rfl, by simp (disch := decide) only [initiatorRead_writes, State.without_ite, ite_self]⟩
  case referenceQualified =>
    cases h
    exact ⟨_, rfl, by simp (disch := decide) only [referenceQualified_writes]⟩
  case bootNvokResume =>
    cases h
    exact ⟨_, rfl, by simp (disch := decide) only [bootResume_writes]⟩
  case clockCheckWindow =>
    cases h
    exact ⟨_, rfl, by simp (disch := decide) only [clockWindow_writes]⟩
  case vinBelowWarn =>
    cases h
    exact ⟨_, rfl, by simp (disch := decide) only [vinBelowWarn_writes]⟩
  case pfwAsserted =>
    cases h
    exact ⟨_, rfl, by simp (disch := decide) only [pfwAsserted_writes]⟩
  case vinAboveWarn =>
    cases h
    exact ⟨_, rfl, by simp (disch := decide) only [vinAboveWarn_writes]⟩
  case vinBelowHold | vinAboveHold =>
    cases h
    exact ⟨_, rfl, by simp (disch := decide) only [vinHold_writes]⟩
  case pfwReleased =>
    cases h
    exact ⟨_, rfl, by simp (disch := decide) only [State.without_setB]⟩
  case requestRun | requestLuff | requestSlack | requestStow =>
    cases h
    exact ⟨_, rfl, by simp (disch := decide) only [requestState_writes]⟩
  case commitPoint =>
    cases h
    exact ⟨_, rfl, by simp (disch := decide) only [commitPoint_writes]⟩
  case wakeNAsserted =>
    cases h
    exact ⟨_, rfl, by simp (disch := decide) only [State.wake_writes]⟩
  case startCurrentDetected =>
    cases h
    exact ⟨_, rfl, by simp (disch := decide) only [startCurrent_writes]⟩
  case stowShroudReady =>
    cases h
    exact ⟨_, rfl, by simp (disch := decide) only [stowShroud_writes]⟩
  case stowAnalogReady =>
    cases h
    exact ⟨_, rfl, by simp (disch := decide) only [stowAnalog_writes]⟩
  case rstNRelease =>
    cases h
    exact ⟨_, rfl, by simp (disch := decide) only [rstRelease_writes]⟩
  case softwareColdReset =>
    cases h
    exact ⟨_, rfl, by simp (disch := decide) only [softwareCold_writes]⟩
  case watchdogEnable =>
    cases h
    exact ⟨_, rfl, by simp (disch := decide) only [watchdogWrite_writes]⟩
  case watchdogHalf =>
    cases h
    exact ⟨_, rfl, by simp (disch := decide) only [watchdogHalf_writes]⟩
  case bootStepEnd =>
    cases h
    exact ⟨_, rfl, by simp (disch := decide) only [bootStepEnd_writes]⟩
  case bootJoin =>
    cases h
    exact ⟨_, rfl, by simp (disch := decide) only [bootJoin_writes]⟩
  case confirmSlot =>
    cases h
    exact ⟨_, rfl, by simp (disch := decide) only [confirmSlot_writes]⟩
  case reservationTimeout =>
    cases h
    exact ⟨_, rfl, by simp (disch := decide) only [State.setHart_writes]⟩
  case mailboxWrite =>
    cases h
    exact ⟨_, rfl, by simp (disch := decide) only [mailboxWrite_writes]⟩
  case hartStart =>
    cases h
    exact ⟨_, rfl, by simp (disch := decide) only [hartStart_writes]⟩
  case hartHalt =>
    cases h
    exact ⟨_, rfl, by simp (disch := decide) only [hartHalt_writes]⟩
  case haltComplete =>
    cases h
    exact ⟨_, rfl, by simp (disch := decide) only [haltComplete_writes]⟩
  case hartIcinv =>
    cases h
    exact ⟨_, rfl, by simp (disch := decide) only []⟩
  case mailboxRead =>
    cases h
    exact ⟨_, rfl, by simp (disch := decide) only [mailboxRead_writes]⟩
  case ownerLock =>
    cases h
    exact ⟨_, rfl, by simp (disch := decide) only [ownerLock_writes]⟩
  case imgCheck =>
    cases h
    exact ⟨_, rfl, service_writes (by decide) rfl rfl _ _ _ (fun _ s => by simp (disch := decide) only
      [imgCheck_writes]) _⟩
  case imgDrop =>
    cases h
    exact ⟨_, rfl, service_writes (by decide) rfl rfl _ _ _ (fun _ s => by simp (disch := decide) only
      [imgDrop_writes]) _⟩
  case resumeSet =>
    cases h
    exact ⟨_, rfl, service_writes (by decide) rfl rfl _ _ _ (fun _ s => by simp (disch := decide) only
      [resumeSet_writes]) _⟩
  case imgStatus =>
    cases h
    exact ⟨_, rfl, service_writes (by decide) rfl rfl _ _ _ (fun _ s => by simp (disch := decide) only
      [imgStatus_writes]) _⟩
  case imgPlace =>
    cases h
    exact ⟨_, rfl, service_writes (by decide) rfl rfl _ _ _ (fun _ s => by simp (disch := decide) only
      [imgPlace_writes]) _⟩
  case imgSlot =>
    cases h
    exact ⟨_, rfl, service_writes (by decide) rfl rfl _ _ _ (fun _ s => by simp (disch := decide) only
      [imgSlot_writes]) _⟩
  case imageCheckDone =>
    cases h
    exact ⟨_, rfl, by simp (disch := decide) only [imageCheckDone_writes]⟩
  case hostBoot =>
    cases h
    exact ⟨_, rfl, by simp (disch := decide) only [opBoot_writes]⟩
  case qspiRead =>
    cases h
    exact ⟨_, rfl, by simp (disch := decide) only [qspiRead_writes]⟩
  all_goals cases h

/-- The commands of the loop engine, lanes, ports, allocation, sessions and cooling
that `driveWrites` lists change at most what it names: each by the frame of its own operation. -/
theorem driveWrites_frame {c : Instr} {A : Part} (h : driveWrites c = some A) (s : State) :
    Effect c s fun u => u.without A = s.without A := by
  cases c
  case vnop | vldi | vsto | vldsv | vstsv | vlds | vsts | vclr | vclri | vmacv | vopen | vcls | vadd | vsub | vseli
      | vsel | vcmp | vfe | vabs =>
    cases h
    exact ⟨_, rfl, by simp (disch := decide) only [vecAll_writes]⟩
  case vmac | vmsc | vlim | vkld =>
    cases h
    exact ⟨_, rfl, by simp (disch := decide) only [vecLegal_writes]⟩
  case groupTick =>
    cases h
    exact ⟨_, rfl, by simp (disch := decide) only [groupTick_writes]⟩
  case batchRun =>
    cases h
    exact ⟨_, rfl, by simp (disch := decide) only [batchRun_writes]⟩
  case outputLaunch =>
    cases h
    exact ⟨_, rfl, by simp (disch := decide) only [outputLaunch_writes]⟩
  case batchEnable | batchDisable | batchKernelChange | batchMaskChange =>
    cases h
    exact ⟨_, rfl, by simp (disch := decide) only [batchField_writes]⟩
  case groupEnable | groupDisable =>
    cases h
    exact ⟨_, rfl, by simp (disch := decide) only [groupField_writes]⟩
  case groupPeriodWrite =>
    cases h
    refine ⟨_, rfl, State.without_cond ?_ (guestGate_writes rfl _ _ (fun s => ?_) _)⟩ <;>
      simp (disch := decide) only [groupField_writes, admitFail_writes]
  case launchWrite =>
    cases h
    exact ⟨_, rfl, by simp (disch := decide) only [launchWrite_writes]⟩
  case coefficientWrite =>
    cases h
    exact ⟨_, rfl, by simp (disch := decide) only [coefficientWrite_writes]⟩
  case cellInit =>
    cases h
    exact ⟨_, rfl, by simp (disch := decide) only [cellInit_writes]⟩
  case injectorArm =>
    cases h
    exact ⟨_, rfl, by simp (disch := decide) only [injectorArm_writes]⟩
  case injectorDisarm =>
    cases h
    exact ⟨_, rfl, by simp (disch := decide) only [injectorDisarm_writes]⟩
  case injectionDone =>
    cases h
    exact ⟨_, rfl, by simp (disch := decide) only [lpeCause_writes, State.without_setB, State.without_ite,
      ite_self]⟩
  case captureArm =>
    cases h
    exact ⟨_, rfl, by simp (disch := decide) only [captureArm_writes]⟩
  case captureDone =>
    cases h
    exact ⟨_, rfl, by simp (disch := decide) only [lpeCause_writes, State.without_setB, State.without_ite, ite_self,
      State.without_upd_lpe]⟩
  case followingErrorAction =>
    cases h
    exact ⟨_, rfl, by simp (disch := decide) only [followingError_writes]⟩
  case takeoverEngineStart =>
    cases h
    exact ⟨_, rfl, by simp (disch := decide) only [takeoverStart_writes, State.without_ite, ite_self]⟩
  case takeoverEngineReturn =>
    cases h
    exact ⟨_, rfl, by simp (disch := decide) only [takeoverReturn_writes, State.without_ite, ite_self]⟩
  case laneEnable =>
    cases h
    exact ⟨_, rfl, by simp (disch := decide) only [laneEnable_writes]⟩
  case linkStartStepEnd =>
    cases h
    exact ⟨_, rfl, by simp (disch := decide) only [linkStep_writes]⟩
  case capRecord =>
    cases h
    exact ⟨_, rfl, by simp (disch := decide) only [capStart_writes, capReadmit_writes, State.without_ite, ite_self]⟩
  case rangeEcho =>
    cases h
    exact ⟨_, rfl, by simp (disch := decide) only [rangeEcho_writes]⟩
  case telemetryFrame =>
    cases h
    exact ⟨_, rfl, by simp (disch := decide) only [telemetryFrame_writes]⟩
  case exchangeEnd =>
    cases h
    exact ⟨_, rfl, by simp (disch := decide) only [exchangeEnd_writes]⟩
  case cellLost =>
    cases h
    exact ⟨_, rfl, by simp (disch := decide) only [cellLost_writes]⟩
  case errorThreshold =>
    cases h
    exact ⟨_, rfl, by simp (disch := decide) only [errorThreshold_writes]⟩
  case errorCountersClear =>
    cases h
    exact ⟨_, rfl, by simp (disch := decide) only [errorsClear_writes]⟩
  case cellReadmit =>
    cases h
    exact ⟨_, rfl, by simp (disch := decide) only [cellReadmit_writes]⟩
  case readmitEnd =>
    cases h
    exact ⟨_, rfl, by simp (disch := decide) only [readmitEnd_writes]⟩
  case cellmapWrite =>
    cases h
    exact ⟨_, rfl, by simp (disch := decide) only [cellmapWrite_writes, State.without_ite, ite_self,
      State.without_upd_busError]⟩
  case laneDisable =>
    cases h
    exact ⟨_, rfl, by simp (disch := decide) only [laneDisable_writes]⟩
  case laneStopComplete =>
    cases h
    exact ⟨_, rfl, by simp (disch := decide) only [laneStopped_writes]⟩
  case laneTripFall =>
    cases h
    exact ⟨_, rfl, by simp (disch := decide) only [laneTripLevel_writes, State.without_ite, ite_self]⟩
  case mgmtRequest =>
    cases h
    exact ⟨_, rfl, by simp (disch := decide) only [mgmtRequest_writes]⟩
  case mgmtResponse =>
    cases h
    exact ⟨_, rfl, by simp (disch := decide) only [mgmtResponse_writes]⟩
  case mgmtTimeout =>
    cases h
    exact ⟨_, rfl, by simp (disch := decide) only [mgmtTimeout_writes]⟩
  case guardTakeover =>
    cases h
    exact ⟨_, rfl, State.without_cond (State.without_each (fun _ s => by simp (disch := decide) only
      [guardActivate_writes]) _ _) rfl⟩
  case homeLaneReturn =>
    cases h
    exact ⟨_, rfl, by simp (disch := decide) only [startLink_writes, State.without_ite, ite_self]⟩
  case portGroupEnable =>
    cases h
    exact ⟨_, rfl, by simp (disch := decide) only [portGroupEnable_writes]⟩
  case portGroupDisable =>
    cases h
    exact ⟨_, rfl, by simp (disch := decide) only [portGroupDisable_writes]⟩
  case cellGroupAssign =>
    cases h
    exact ⟨_, rfl, by simp (disch := decide) only [cellAssign_writes]⟩
  case groupCheck | groupPrecharge | groupStop | groupDisch | groupClear | groupClrreef =>
    cases h
    exact ⟨_, rfl, by simp (disch := decide) only [groupCommand_writes]⟩
  case rampdownComplete =>
    cases h
    exact ⟨_, rfl, by simp (disch := decide) only [offWithPending_writes, toState_writes, State.without_ite,
      ite_self]⟩
  case contactorsOpened =>
    cases h
    exact ⟨_, rfl, by simp (disch := decide) only [toState_writes, weldStart_writes, setMode_writes,
      offWithPending_writes, State.without_setF, State.without_ite, ite_self]⟩
  case weldStepEnd =>
    cases h
    exact ⟨_, rfl, by simp (disch := decide) only [toFault_writes, offWithPending_writes, weldStart_writes,
      State.without_setF, State.without_ite, ite_self]⟩
  case groupRun =>
    cases h
    exact ⟨_, rfl, by simp (disch := decide) only [groupCommand_writes, State.without_setF, State.without_ite,
      ite_self]⟩
  case contactorsClosed =>
    cases h
    exact ⟨_, rfl, by simp (disch := decide) only [enterTarget_writes, State.without_ite, ite_self]⟩
  case autocvSwitch =>
    cases h
    exact ⟨_, rfl, by simp (disch := decide) only [toRun_writes, State.without_ite, ite_self]⟩
  case closingTimeout | prechargeTimeout | openingTimeout =>
    cases h
    exact ⟨_, rfl, by simp (disch := decide) only [toFault_writes, State.without_ite, ite_self]⟩
  case dischargeForcedOpen =>
    cases h
    exact ⟨_, rfl, by simp (disch := decide) only [toOpening_writes, State.setPg_writes, State.without_ite,
      ite_self]⟩
  case prechargeComplete =>
    cases h
    exact ⟨_, rfl, by simp (disch := decide) only [toState_writes, State.without_setF, State.setPg_writes,
      State.without_ite, ite_self]⟩
  case dischargeComplete =>
    cases h
    exact ⟨_, rfl, by simp (disch := decide) only [offWithPending_writes, toOpening_writes, State.without_setF,
      State.without_ite, ite_self]⟩
  case dischargeTimeout =>
    cases h
    exact ⟨_, rfl, by simp (disch := decide) only [prtCause_writes, State.without_ite, ite_self]⟩
  case unrequestedOpen =>
    cases h
    exact ⟨_, rfl, by simp (disch := decide) only [unrequestedOpen_writes]⟩
  case openCell =>
    cases h
    exact ⟨_, rfl, by simp (disch := decide) only [prtCause_writes, removeCell_writes, State.without_ite, ite_self]⟩
  case senseSearchStart =>
    cases h
    exact ⟨_, rfl, by simp (disch := decide) only [State.setPg_writes, State.without_ite, ite_self]⟩
  case cellRestore =>
    cases h
    exact ⟨_, rfl, by simp (disch := decide) only [cellRestore_writes]⟩
  case senseSearchEnd =>
    cases h
    refine ⟨_, rfl, ?_⟩
    split
    · rfl
    · dsimp only
      split <;> simp (disch := decide) only [prtCause_writes, removeCell_writes, raiseReef_writes,
        State.setPg_writes]
  case snap =>
    cases h
    exact ⟨_, rfl, by simp (disch := decide) only [snap_writes]⟩
  case averagePublish =>
    cases h
    exact ⟨_, rfl, by simp (disch := decide) only [averagePublish_writes]⟩
  case allocationPeriodStart =>
    cases h
    exact ⟨_, rfl, by simp (disch := decide) only [periodStart_writes, ringPeriod_writes]⟩
  case exchangeWindowClose =>
    cases h
    exact ⟨_, rfl, by simp (disch := decide) only [windowClose_writes]⟩
  case solveComplete =>
    cases h
    exact ⟨_, rfl, by simp (disch := decide) only [solveComplete_writes]⟩
  case solveOverrun =>
    cases h
    exact ⟨_, rfl, by simp (disch := decide) only [solveOverrun_writes]⟩
  case allocationPeriodWrite =>
    cases h
    exact ⟨_, rfl, by simp (disch := decide) only [periodWrite_writes]⟩
  case halyardReceived =>
    cases h
    exact ⟨_, rfl, by simp (disch := decide) only [halyardReceived_writes]⟩
  case allocationConfigWrite =>
    cases h
    exact ⟨_, rfl, by simp (disch := decide) only [alcConfigWrite_writes]⟩
  case treeCommit =>
    cases h
    exact ⟨_, rfl, by simp (disch := decide) only [State.without_upd_alc]⟩
  case priceAged =>
    cases h
    exact ⟨_, rfl, by simp (disch := decide) only [State.without_ite, ite_self, State.without_upd_alc]⟩
  case alcCounterClear =>
    cases h
    exact ⟨_, rfl, by simp (disch := decide) only [counterClear_writes]⟩
  case allocatorEnable =>
    cases h
    exact ⟨_, rfl, by simp (disch := decide) only [alcEnable_writes]⟩
  case allocatorDisable =>
    cases h
    exact ⟨_, rfl, by simp (disch := decide) only [alcDisable_writes]⟩
  case reqWrite =>
    cases h
    exact ⟨_, rfl, by simp (disch := decide) only [reqWrite_writes, State.without_ite, ite_self,
      State.without_upd_busError]⟩
  case priceWrite =>
    cases h
    exact ⟨_, rfl, by simp (disch := decide) only [priceWrite_writes]⟩
  case reqAged =>
    cases h
    exact ⟨_, rfl, by simp (disch := decide) only [State.without_setB, State.without_ite, ite_self]⟩
  case nodeViolation =>
    cases h
    exact ⟨_, rfl, by simp (disch := decide) only [alcCause_writes, State.without_ite, ite_self]⟩
  case pilotStateQualified =>
    cases h
    exact ⟨_, rfl, by simp (disch := decide) only [pilotQualified_writes]⟩
  case vehicleLinkLost =>
    cases h
    exact ⟨_, rfl, onCtx_writes _ _ (fun _ s => by simp (disch := decide) only [endWith_writes, stopWith_writes,
      State.setSes_writes, State.without_ite, ite_self]) _⟩
  case slacMessage =>
    cases h
    exact ⟨_, rfl, by simp (disch := decide) only [slacMessage_writes]⟩
  case sdpRequest | tcpConnect | t1sLinkUp =>
    cases h
    refine ⟨_, rfl, ?_⟩
    split
    · rfl
    · simp (disch := decide) only [State.setSes_writes, State.without_ite, ite_self]
  case standbyFrameObserved =>
    cases h
    exact ⟨_, rfl, by simp (disch := decide) only [standbyObserved_writes]⟩
  case v2gtpFrame =>
    cases h
    exact ⟨_, rfl, by simp (disch := decide) only [v2gFrame_writes]⟩
  case supportedAppProtocol =>
    cases h
    exact ⟨_, rfl, onCtx_writes _ _ (fun _ s => by simp (disch := decide) only [appProtocol_writes]) _⟩
  case clientHello =>
    cases h
    exact ⟨_, rfl, onCtx_writes _ _ (fun _ s => by simp (disch := decide) only [clientHello_writes]) _⟩
  case tlinkExpiry | tsetupExpiry =>
    cases h
    refine ⟨_, rfl, onCtx_writes _ _ (fun _ s => State.without_cond ?_ rfl) _⟩
    simp (disch := decide) only [endWith_writes]
  case tplcExpiry =>
    cases h
    refine ⟨_, rfl, onCtx_writes _ _ (fun _ s => ?_) _⟩
    split
    · rfl
    · simp (disch := decide) only [endWith_writes, State.without_ite, ite_self]
  case tlsSecretsWrite =>
    cases h
    exact ⟨_, rfl, onCtx_writes _ _ (fun _ s => by simp (disch := decide) only [tlsSecrets_writes]) _⟩
  case deltaAck | deltaReleaseTimeout =>
    cases h
    exact ⟨_, rfl, onCtx_writes _ _ (fun _ s => by simp (disch := decide) only [releaseFrame_writes]) _⟩
  case sessionHandover =>
    cases h
    exact ⟨_, rfl, by simp (disch := decide) only [sessionHandover_writes]⟩
  case responseSend =>
    cases h
    exact ⟨_, rfl, by simp (disch := decide) only [responseSend_writes]⟩
  case receiveRelease =>
    cases h
    exact ⟨_, rfl, onCtx_writes _ _ (fun _ s => by simp (disch := decide) only [receiveRelease_writes]) _⟩
  case cableCheckReq =>
    cases h
    exact ⟨_, rfl, by simp (disch := decide) only [cableCheckReq_writes]⟩
  case preChargeReq =>
    cases h
    exact ⟨_, rfl, by simp (disch := decide) only [preChargeReq_writes]⟩
  case currentDemandReq | dcChargeLoopReq =>
    cases h
    exact ⟨_, rfl, by simp (disch := decide) only [chargeLoop_writes]⟩
  case sessionStopReq =>
    cases h
    exact ⟨_, rfl, by simp (disch := decide) only [stopWith_writes, State.without_ite, ite_self]⟩
  case sessionStop =>
    cases h
    exact ⟨_, rfl, onCtx_writes _ _ (fun _ s => by simp (disch := decide) only [sessionStop_writes]) _⟩
  case tseqExpiry =>
    cases h
    exact ⟨_, rfl, onCtx_writes _ _ (fun _ s => by simp (disch := decide) only [stopWith_writes]) _⟩
  case trespExpiry =>
    cases h
    exact ⟨_, rfl, onCtx_writes _ _ (fun _ s => by simp (disch := decide) only [stopWith_writes, State.without_ite,
      ite_self]) _⟩
  case tloopExpiry | tchkExpiry =>
    cases h
    exact ⟨_, rfl, onCtx_writes _ _ (fun _ s => by simp (disch := decide) only [toStopping_writes,
      State.without_ite, ite_self]) _⟩
  case nogoStop =>
    cases h
    exact ⟨_, rfl, by simp (disch := decide) only [sessionStop_writes, prtCause_writes, State.without_ite,
      ite_self]⟩
  case powerDeliveryReq =>
    cases h
    exact ⟨_, rfl, by simp (disch := decide) only [powerDelivery_writes]⟩
  case standbyTakeover =>
    cases h
    exact ⟨_, rfl, by simp (disch := decide) only [standbyTakeover_writes]⟩
  case proceed =>
    cases h
    exact ⟨_, rfl, onCtx_writes _ _ (fun _ s => by simp (disch := decide) only [proceed_writes]) _⟩
  case sessionClear =>
    cases h
    exact ⟨_, rfl, onCtx_writes _ _ (fun _ s => by simp (disch := decide) only [sessionClear_writes]) _⟩
  case sessionEnable =>
    cases h
    exact ⟨_, rfl, onCtx_writes _ _ (fun _ s => by simp (disch := decide) only [sessionEnable_writes]) _⟩
  case sessionDisable =>
    cases h
    exact ⟨_, rfl, onCtx_writes _ _ (fun _ s => by simp (disch := decide) only [sessionDisable_writes]) _⟩
  case frontEndConfig =>
    cases h
    exact ⟨_, rfl, by simp (disch := decide) only [frontEndConfig_writes]⟩
  case sensorConversion =>
    cases h
    exact ⟨_, rfl, by simp (disch := decide) only [conversion_writes]⟩
  case sensorBroken =>
    cases h
    exact ⟨_, rfl, by simp (disch := decide) only [sensorBreaks_writes]⟩
  case sensorRestored =>
    cases h
    exact ⟨_, rfl, by simp (disch := decide) only [sensorReturns_writes]⟩
  case flowEdge =>
    cases h
    exact ⟨_, rfl, by simp (disch := decide) only [flowEdge_writes, State.without_ite, ite_self]⟩
  case thermalRecordWrite =>
    cases h
    exact ⟨_, rfl, by simp (disch := decide) only [thermalRecord_writes, State.without_ite, ite_self]⟩
  case flowCompute =>
    cases h
    exact ⟨_, rfl, by simp (disch := decide) only [flowCompute_writes]⟩
  case nogoClear =>
    cases h
    exact ⟨_, rfl, by simp (disch := decide) only [nogoClear_writes]⟩
  case observerStep =>
    cases h
    exact ⟨_, rfl, by simp (disch := decide) only [observerStep_writes]⟩
  case thermalReefFall =>
    cases h
    exact ⟨_, rfl, by simp (disch := decide) only [setReef_writes, State.without_ite, ite_self]⟩
  case guardLaneTraffic =>
    cases h
    exact ⟨_, rfl, by simp (disch := decide) only [guardTraffic_writes]⟩
  case laneLockLost =>
    cases h
    exact ⟨_, rfl, by simp (disch := decide) only [lockLost_writes]⟩
  all_goals cases h

/-- The commands of metering, billing, signatures, the estimator and time
that `meterWrites` lists change at most what it names: each by the frame of its own operation. -/
theorem meterWrites_frame {c : Instr} {A : Part} (h : meterWrites c = some A) (s : State) :
    Effect c s fun u => u.without A = s.without A := by
  cases c
  case meterSample =>
    cases h
    exact ⟨_, rfl, by simp (disch := decide) only [meterSample_writes, State.without_ite, ite_self]⟩
  case meterCheck =>
    cases h
    exact ⟨_, rfl, by simp (disch := decide) only [meterCheck_writes, State.without_ite, ite_self]⟩
  case fastTapSample =>
    cases h
    exact ⟨_, rfl, by simp (disch := decide) only [fastTap_writes, State.without_ite, ite_self]⟩
  case fold =>
    cases h
    exact ⟨_, rfl, by simp (disch := decide) only [foldInstant_writes]⟩
  case meterFaultClear =>
    cases h
    exact ⟨_, rfl, by simp (disch := decide) only [meterFaultClear_writes, State.without_ite, ite_self]⟩
  case pulseStart =>
    cases h
    exact ⟨_, rfl, by simp (disch := decide) only [pulseStart_writes, State.without_ite, ite_self]⟩
  case pulseEnd =>
    cases h
    exact ⟨_, rfl, by simp (disch := decide) only [State.setMt_writes]⟩
  case gridCompute =>
    cases h
    exact ⟨_, rfl, by simp (disch := decide) only [gridCompute_writes]⟩
  case utilityPulse =>
    cases h
    exact ⟨_, rfl, by simp (disch := decide) only [utilityPulse_writes]⟩
  case gridForce =>
    cases h
    exact ⟨_, rfl, by simp (disch := decide) only [gridForce_writes]⟩
  case metrologyConfigWrite =>
    cases h
    refine ⟨_, rfl, ?_⟩
    dsimp only
    split
    · simp (disch := decide) only [State.without_setB]
    · next r i hr =>
      have hp := metroWrites_regs hr (low := true) (v := 0) rfl
      rw [metroWrite_writes (by decide) (by decide) (by decide) (by decide) (by decide) (by decide) (by decide)
        (by decide) (by decide) rfl hp.1 hp.2]
      simp (disch := decide) only [State.without_setB]
  case boundaryEnqueue =>
    cases h
    exact ⟨_, rfl, by simp (disch := decide) only [boundaryEnqueue_writes]⟩
  case boundaryLatch =>
    cases h
    exact ⟨_, rfl, by simp (disch := decide) only [boundaryLatch_writes]⟩
  case boundaryProcess =>
    cases h
    exact ⟨_, rfl, by simp (disch := decide) only [boundaryProcess_writes]⟩
  case calendarActivate =>
    cases h
    exact ⟨_, rfl, by simp (disch := decide) only [calendarActivate_writes]⟩
  case sealOpen =>
    cases h
    exact ⟨_, rfl, by simp (disch := decide) only [tamper_writes]⟩
  case demandResetRequest =>
    cases h
    exact ⟨_, rfl, by simp (disch := decide) only [State.work_writes]⟩
  case demlenWrite =>
    cases h
    exact ⟨_, rfl, by simp (disch := decide) only [demlenWrite_writes]⟩
  case billingEnable =>
    cases h
    exact ⟨_, rfl, by simp (disch := decide) only [billingEnable_writes]⟩
  case displayFrame =>
    cases h
    exact ⟨_, rfl, by simp (disch := decide) only [displayFrames_writes]⟩
  case displayAnswer =>
    cases h
    exact ⟨_, rfl, by simp (disch := decide) only [displayAnswer_writes, State.without_ite, ite_self]⟩
  case displayAnswerMissed =>
    cases h
    exact ⟨_, rfl, by simp (disch := decide) only [displayMissed_writes, State.without_ite, ite_self]⟩
  case signatureStart =>
    cases h
    exact ⟨_, rfl, by simp (disch := decide) only [signStart_writes]⟩
  case signatureComplete =>
    cases h
    exact ⟨_, rfl, by simp (disch := decide) only [signComplete_writes]⟩
  case keyRebuildComplete =>
    cases h
    exact ⟨_, rfl, by simp (disch := decide) only [keyRebuilt_writes]⟩
  case jobSubmit =>
    cases h
    exact ⟨_, rfl, by simp (disch := decide) only [jobSubmit_writes]⟩
  case jobHash =>
    cases h
    exact ⟨_, rfl, runJob_writes rfl _ _ (fun _ s => by simp (disch := decide) only [jobHash_writes]) _⟩
  case jobHmac =>
    cases h
    exact ⟨_, rfl, runJob_writes rfl _ _ (fun _ s => by simp (disch := decide) only [jobHmac_writes]) _⟩
  case jobHkdfExtract =>
    cases h
    exact ⟨_, rfl, runJob_writes rfl _ _ (fun _ s => by simp (disch := decide) only [jobHkdfExtract_writes]) _⟩
  case jobHkdfExpand =>
    cases h
    exact ⟨_, rfl, runJob_writes rfl _ _ (fun _ s => by simp (disch := decide) only [jobHkdfExpand_writes]) _⟩
  case jobAesGcmEncrypt | jobAesGcmDecrypt =>
    cases h
    exact ⟨_, rfl, runJob_writes rfl _ _ (fun _ s => by simp (disch := decide) only [jobAesGcm_writes]) _⟩
  case jobEcdheDerive =>
    cases h
    exact ⟨_, rfl, runJob_writes rfl _ _ (fun _ s => by simp (disch := decide) only [jobEcdheDerive_writes]) _⟩
  case jobPublicKeyRead =>
    cases h
    exact ⟨_, rfl, runJob_writes rfl _ _ (fun _ s => by simp (disch := decide) only [jobPublicKey_writes]) _⟩
  case jobEcdheKeygen =>
    cases h
    exact ⟨_, rfl, runJob_writes rfl _ _ (fun _ s => by simp (disch := decide) only [jobEcdheKeygen_writes]) _⟩
  case jobSign =>
    cases h
    exact ⟨_, rfl, runJob_writes rfl _ _ (fun _ s => by simp (disch := decide) only [jobSign_writes]) _⟩
  case jobRandom =>
    cases h
    exact ⟨_, rfl, runJob_writes rfl _ _ (fun _ s => by simp (disch := decide) only [jobRandom_writes]) _⟩
  case jobVerify =>
    cases h
    exact ⟨_, rfl, runJob_writes rfl _ _ (fun _ s => by simp (disch := decide) only [jobVerify_writes]) _⟩
  case jobKeygen =>
    cases h
    exact ⟨_, rfl, runJob_writes rfl _ _ (fun _ s => by simp (disch := decide) only [jobKeygen_writes]) _⟩
  case engineStep =>
    cases h
    exact ⟨_, rfl, by simp (disch := decide) only [engineStep_writes]⟩
  case jobTlsKeygen =>
    cases h
    exact ⟨_, rfl, runJob_writes rfl _ _ (fun _ s => by simp (disch := decide) only [jobTlsKeygen_writes]) _⟩
  case jobTlsKeyErase =>
    cases h
    exact ⟨_, rfl, runJob_writes rfl _ _ (fun _ s => by simp (disch := decide) only [jobTlsErase_writes]) _⟩
  case jobAttest =>
    cases h
    exact ⟨_, rfl, runJob_writes rfl _ _ (fun _ s => by simp (disch := decide) only [jobAttest_writes]) _⟩
  case jobDone =>
    cases h
    exact ⟨_, rfl, by simp (disch := decide) only [jobDone_writes]⟩
  case attestTokenRefill =>
    cases h
    exact ⟨_, rfl, by simp (disch := decide) only [State.without_setF]⟩
  case estimatorStep =>
    cases h
    exact ⟨_, rfl, by simp (disch := decide) only [estimatorStep_writes]⟩
  case voltageLimitCheck =>
    cases h
    exact ⟨_, rfl, by simp (disch := decide) only [voltageLimit_writes]⟩
  case restStart =>
    cases h
    exact ⟨_, rfl, by simp (disch := decide) only [restStart_writes]⟩
  case restRepeat =>
    cases h
    exact ⟨_, rfl, by simp (disch := decide) only [restRepeat_writes]⟩
  case counterCheck =>
    cases h
    exact ⟨_, rfl, by simp (disch := decide) only [counterCheck_writes]⟩
  case packRecordWrite =>
    cases h
    exact ⟨_, rfl, by simp (disch := decide) only [packRecords_writes]⟩
  case hpChargeEnd =>
    cases h
    exact ⟨_, rfl, by simp (disch := decide) only [hpChargeEnd_writes]⟩
  case packInsert =>
    cases h
    exact ⟨_, rfl, by simp (disch := decide) only [packAppears_writes]⟩
  case reestimate | newpack =>
    cases h
    exact ⟨_, rfl, by simp (disch := decide) only [estCommand_writes]⟩
  case firstEstimate =>
    cases h
    exact ⟨_, rfl, by simp (disch := decide) only [firstEstimate_writes]⟩
  case incrementWrite =>
    cases h
    exact ⟨_, rfl, by simp (disch := decide) only [incrementWrite_writes]⟩
  case timeStepRequest =>
    cases h
    exact ⟨_, rfl, by simp (disch := decide) only [timeStepRequest_writes]⟩
  case rtcOscFail =>
    cases h
    exact ⟨_, rfl, by simp (disch := decide) only [rtcFails_writes]⟩
  case ppsOut =>
    cases h
    exact ⟨_, rfl, by
      simp (disch := decide) only [timCause_writes]
      exact State.without_when (fun s => State.without_upd_time rfl s _) _ _⟩
  case runlockSet =>
    cases h
    exact ⟨_, rfl, by simp (disch := decide) only [State.without_setB]⟩
  case calendarSet =>
    cases h
    exact ⟨_, rfl, by simp (disch := decide) only [calendarSet_writes]⟩
  case leapSecond =>
    cases h
    exact ⟨_, rfl, by simp (disch := decide) only [leapSecond_writes]⟩
  case rtcAlarm =>
    cases h
    exact ⟨_, rfl, by simp (disch := decide) only [timCause_writes, State.wake_writes, State.without_ite, ite_self]⟩
  case rtcSecondLoad =>
    cases h
    exact ⟨_, rfl, by simp (disch := decide) only [rtcLoad_writes]⟩
  case ppsIn =>
    cases h
    exact ⟨_, rfl, by simp (disch := decide) only [timCause_writes, State.without_setQ]⟩
  case timestampRead =>
    cases h
    exact ⟨_, rfl, by simp (disch := decide) only [stampRead_writes, State.without_ite, ite_self]⟩
  case ringPtpFrame =>
    cases h
    exact ⟨_, rfl, by simp (disch := decide) only [stampCapture_writes, State.without_ite, ite_self]⟩
  all_goals cases h

/-- The commands of the shroud, the ring, channels, CAN, Deckline, the host port, Ethernet and storage
that `linkWrites` lists change at most what it names: each by the frame of its own operation. -/
theorem linkWrites_frame {c : Instr} {A : Part} (h : linkWrites c = some A) (s : State) :
    Effect c s fun u => u.without A = s.without A := by
  cases c
  case shroudCycle =>
    cases h
    exact ⟨_, rfl, by simp (disch := decide) only [shroudCycle_writes]⟩
  case zoneDemand =>
    cases h
    exact ⟨_, rfl, by simp (disch := decide) only [zoneDemand_writes]⟩
  case stayTestPulse =>
    cases h
    exact ⟨_, rfl, by simp (disch := decide) only [stayPulse_writes]⟩
  case stayChainOpen =>
    cases h
    exact ⟨_, rfl, by simp (disch := decide) only [stayOpens_writes]⟩
  case srstPulse =>
    cases h
    exact ⟨_, rfl, by simp (disch := decide) only [srstPulse_writes, State.without_ite, ite_self]⟩
  case shroudStop1 | zoneReset | limset | axen | imdtest | targetRelease | faultClear =>
    cases h
    exact ⟨_, rfl, by simp (disch := decide) only [request_writes]⟩
  case closeRequest =>
    cases h
    exact ⟨_, rfl, by simp (disch := decide) only [closeRequest_writes]⟩
  case mirrorTimeout =>
    cases h
    exact ⟨_, rfl, by simp (disch := decide) only [mirrorTimeout_writes]⟩
  case openRequest =>
    cases h
    exact ⟨_, rfl, by simp (disch := decide) only [openRequest_writes]⟩
  case noVoltageVerified =>
    cases h
    exact ⟨_, rfl, by simp (disch := decide) only [noVoltageVerified_writes]⟩
  case standbyCoilsEnergise =>
    cases h
    exact ⟨_, rfl, by simp (disch := decide) only [standbyEnergise_writes]⟩
  case shroudReturn =>
    cases h
    exact ⟨_, rfl, by simp (disch := decide) only [shroudReturn_writes]⟩
  case lockRequest =>
    cases h
    exact ⟨_, rfl, by simp (disch := decide) only [lockRequest_writes]⟩
  case unlockRequest =>
    cases h
    exact ⟨_, rfl, by simp (disch := decide) only [unlockRequest_writes]⟩
  case coilRelease =>
    cases h
    exact ⟨_, rfl, by simp (disch := decide) only [releaseDue_writes, State.without_ite, ite_self]⟩
  case lockConfirmed =>
    cases h
    exact ⟨_, rfl, by simp (disch := decide) only [lockConfirmed_writes]⟩
  case unlockConfirmed =>
    cases h
    exact ⟨_, rfl, by simp (disch := decide) only [unlockConfirmed_writes]⟩
  case standbyCoilsRelease =>
    cases h
    exact ⟨_, rfl, by simp (disch := decide) only [standbyRelease_writes]⟩
  case mirrorChange =>
    cases h
    exact ⟨_, rfl, by simp (disch := decide) only [mirrorSet_writes]⟩
  case imdFault =>
    cases h
    exact ⟨_, rfl, by simp (disch := decide) only [imdFaultQualified_writes]⟩
  case tempCut =>
    cases h
    exact ⟨_, rfl, by simp (disch := decide) only [tempCut_writes]⟩
  case feedbackTest =>
    cases h
    exact ⟨_, rfl, State.without_eachOf (fun _ s => by simp (disch := decide) only [feedbackFault_writes]) _ _⟩
  case lockTimeout =>
    cases h
    exact ⟨_, rfl, by simp (disch := decide) only [lockTimeout_writes]⟩
  case coilTestPulse | coilOpen =>
    cases h
    exact ⟨_, rfl, by simp (disch := decide) only [coilFault_writes, State.without_setF, State.without_ite,
      ite_self]⟩
  case imdWarn =>
    cases h
    exact ⟨_, rfl, by simp (disch := decide) only [imdWarning_writes]⟩
  case isolationValid =>
    cases h
    exact ⟨_, rfl, by simp (disch := decide) only [isolationValid_writes]⟩
  case pinBroken =>
    cases h
    exact ⟨_, rfl, by simp (disch := decide) only [pinBroken_writes]⟩
  case pinBrokenStop =>
    cases h
    exact ⟨_, rfl, by simp (disch := decide) only [pinBrokenStop_writes]⟩
  case vetoActive | guestTimeLimit =>
    cases h
    exact ⟨_, rfl, State.without_cond (State.without_each (fun _ s => by simp (disch := decide) only
      [demandPort_writes]) _ _) rfl⟩
  case axisSample =>
    cases h
    exact ⟨_, rfl, by simp (disch := decide) only [axisSample_writes, State.without_ite, ite_self]⟩
  case lockstepMismatch | memoryDoubleError =>
    cases h
    exact ⟨_, rfl, by simp (disch := decide) only [safeState_writes]⟩
  case cycleOverrun =>
    cases h
    exact ⟨_, rfl, by simp (disch := decide) only [cycleLength_writes]⟩
  case memoryScrub =>
    cases h
    exact ⟨_, rfl, by simp (disch := decide) only [State.without_satF]⟩
  case fabricSourceChange =>
    cases h
    exact ⟨_, rfl, by simp (disch := decide) only [sourceChange_writes]⟩
  case ringLinkStart =>
    cases h
    exact ⟨_, rfl, by simp (disch := decide) only [ringLinkStart_writes]⟩
  case linkcap =>
    cases h
    exact ⟨_, rfl, by simp (disch := decide) only [linkCap_writes]⟩
  case linkauth =>
    cases h
    exact ⟨_, rfl, by simp (disch := decide) only [linkAuth_writes]⟩
  case heartbeatSend =>
    cases h
    exact ⟨_, rfl, by simp (disch := decide) only [heartbeatSend_writes]⟩
  case viewFrame =>
    cases h
    exact ⟨_, rfl, by simp (disch := decide) only [viewFrame_writes]⟩
  case generationRaise =>
    cases h
    exact ⟨_, rfl, by simp (disch := decide) only [generationRaise_writes]⟩
  case heartbeat =>
    cases h
    exact ⟨_, rfl, by simp (disch := decide) only [heartbeat_writes]⟩
  case heartbeatMissed =>
    cases h
    exact ⟨_, rfl, by simp (disch := decide) only [heartbeatMissed_writes]⟩
  case neighbourLost =>
    cases h
    exact ⟨_, rfl, by simp (disch := decide) only [neighbourLost_writes]⟩
  case viewAdopt =>
    cases h
    exact ⟨_, rfl, by simp (disch := decide) only [viewAdopt_writes]⟩
  case shdFrame =>
    cases h
    exact ⟨_, rfl, by simp (disch := decide) only [shadowFrame_writes]⟩
  case deltaFrame =>
    cases h
    exact ⟨_, rfl, by simp (disch := decide) only [deltaFrame_writes]⟩
  case displaced =>
    cases h
    exact ⟨_, rfl, by simp (disch := decide) only [displaced_writes]⟩
  case returnRequest =>
    cases h
    exact ⟨_, rfl, by simp (disch := decide) only [returnRequest_writes]⟩
  case splFrame =>
    cases h
    exact ⟨_, rfl, by simp (disch := decide) only [spliceFrame_writes]⟩
  case returnSignal =>
    cases h
    exact ⟨_, rfl, by simp (disch := decide) only [returnSignal_writes]⟩
  case returnComplete =>
    cases h
    exact ⟨_, rfl, by simp (disch := decide) only [returnComplete_writes]⟩
  case splice =>
    cases h
    exact ⟨_, rfl, by simp (disch := decide) only [spliceStart_writes]⟩
  case spliceHandover =>
    cases h
    exact ⟨_, rfl, by simp (disch := decide) only [spliceHandover_writes]⟩
  case leave =>
    cases h
    exact ⟨_, rfl, by simp (disch := decide) only [leaveRing_writes]⟩
  case channelOn =>
    cases h
    exact ⟨_, rfl, by simp (disch := decide) only [channelOn_writes, State.without_ite, ite_self]⟩
  case holdEnd =>
    cases h
    exact ⟨_, rfl, by simp (disch := decide) only [lswCause_writes, chEndHold_writes, State.without_ite, ite_self]⟩
  case channelOff =>
    cases h
    exact ⟨_, rfl, by simp (disch := decide) only [channelOff_writes, State.without_ite, ite_self]⟩
  case inrushEnd =>
    cases h
    exact ⟨_, rfl, by simp (disch := decide) only [State.setCh_writes, State.without_when_if, State.without_setF,
      State.without_ite, ite_self]⟩
  case timedPulseEnd =>
    cases h
    exact ⟨_, rfl, by simp (disch := decide) only [chUpdate_writes, State.without_setB, State.without_ite,
      ite_self]⟩
  case clampEnd =>
    cases h
    refine ⟨_, rfl, State.without_cond ?_ rfl⟩
    dsimp only
    split <;> simp (disch := decide) only [chUpdate_writes, State.setCh_writes, State.without_setF]
  case channelClear =>
    cases h
    exact ⟨_, rfl, by simp (disch := decide) only [channelClear_writes, State.without_ite, ite_self]⟩
  case channelOvercurrent | channelOvertemp =>
    cases h
    exact ⟨_, rfl, by simp (disch := decide) only [lswCause_writes, chLatch_writes, State.without_ite, ite_self]⟩
  case aggregateTrip =>
    cases h
    refine ⟨_, rfl, ?_⟩
    split
    · rfl
    · simp (disch := decide) only [lswCause_writes, chLatch_writes]
  case vauxDroop =>
    cases h
    exact ⟨_, rfl, by simp (disch := decide) only [lswCause_writes, State.without_setF, State.without_setB,
      State.without_when_if, State.without_ite, ite_self]⟩
  case openLoad =>
    cases h
    exact ⟨_, rfl, by simp (disch := decide) only [lswCause_writes, State.without_setB, State.without_ite,
      ite_self]⟩
  case pwmPeriod =>
    cases h
    exact ⟨_, rfl, by simp (disch := decide) only [chTakeForm_writes, State.without_ite, ite_self]⟩
  case currentSense =>
    cases h
    exact ⟨_, rfl, by simp (disch := decide) only [State.without_setFi, State.without_setF, State.without_when_if,
      State.without_setB, State.without_ite, ite_self]⟩
  case vauxUndervoltage =>
    cases h
    exact ⟨_, rfl, by simp (disch := decide) only [vauxUnder_writes]⟩
  case vauxReverse =>
    cases h
    exact ⟨_, rfl, by simp (disch := decide) only [coilsLost_writes, lswCause_writes, channelsFollow_writes,
      State.without_setB]⟩
  case vauxOvervoltage =>
    cases h
    exact ⟨_, rfl, by simp (disch := decide) only [vauxOver_writes]⟩
  case groundLoss =>
    cases h
    exact ⟨_, rfl, by simp (disch := decide) only [groundLoss_writes]⟩
  case vauxReturn =>
    cases h
    exact ⟨_, rfl, by simp (disch := decide) only [vauxReturn_writes]⟩
  case pullInEnd =>
    cases h
    exact ⟨_, rfl, by simp (disch := decide) only [State.without_setB, State.without_ite, ite_self]⟩
  case coilOvercurrent =>
    cases h
    exact ⟨_, rfl, by simp (disch := decide) only [coilOff_writes, State.without_setF, State.without_ite, ite_self]⟩
  case feedbackChange =>
    cases h
    exact ⟨_, rfl, by simp (disch := decide) only [feedbackChange_writes]⟩
  case launchTimeReached =>
    cases h
    exact ⟨_, rfl, by simp (disch := decide) only [txLaunch_writes, canLaunch_writes, State.without_ite, ite_self]⟩
  case canEnable =>
    cases h
    exact ⟨_, rfl, by simp (disch := decide) only [canEnable_writes]⟩
  case canDisable =>
    cases h
    exact ⟨_, rfl, by simp (disch := decide) only [canDisable_writes]⟩
  case canStopComplete =>
    cases h
    exact ⟨_, rfl, by simp (disch := decide) only [canStop_writes]⟩
  case canAbort =>
    cases h
    exact ⟨_, rfl, by simp (disch := decide) only [canAbort_writes]⟩
  case canAbortAll =>
    cases h
    exact ⟨_, rfl, by simp (disch := decide) only [canAbortAll_writes]⟩
  case canBusJoin =>
    cases h
    exact ⟨_, rfl, by simp (disch := decide) only [canJoin_writes]⟩
  case canPush =>
    cases h
    exact ⟨_, rfl, by simp (disch := decide) only [canPush_writes]⟩
  case canRecover =>
    cases h
    exact ⟨_, rfl, by simp (disch := decide) only [canRecover_writes]⟩
  case canRxReturn =>
    cases h
    exact ⟨_, rfl, by simp (disch := decide) only [canRxReturn_writes]⟩
  case canTxEventRead =>
    cases h
    exact ⟨_, rfl, by simp (disch := decide) only [canEventRead_writes]⟩
  case canTimingWrite =>
    cases h
    exact ⟨_, rfl, by simp (disch := decide) only [timingWrite_writes]⟩
  case canFrameReceived =>
    cases h
    exact ⟨_, rfl, by simp (disch := decide) only [canReceive_writes]⟩
  case canTxComplete =>
    cases h
    exact ⟨_, rfl, by simp (disch := decide) only [canTxEnd_writes]⟩
  case canRecoveryComplete =>
    cases h
    exact ⟨_, rfl, by simp (disch := decide) only [canRecovered_writes]⟩
  case canRxError =>
    cases h
    exact ⟨_, rfl, by simp (disch := decide) only [canRxError_writes]⟩
  case abdWindowEnd =>
    cases h
    exact ⟨_, rfl, by simp (disch := decide) only [abdWindowEnd_writes]⟩
  case canWakePattern =>
    cases h
    exact ⟨_, rfl, by simp (disch := decide) only [canWake_writes]⟩
  case zeroCrossing =>
    cases h
    exact ⟨_, rfl, by simp (disch := decide) only [zeroCrossing_writes]⟩
  case mainsLost =>
    cases h
    exact ⟨_, rfl, by simp (disch := decide) only [mainsLost_writes]⟩
  case slotStart =>
    cases h
    exact ⟨_, rfl, by simp (disch := decide) only [slotStart_writes]⟩
  case segmentReceived =>
    cases h
    exact ⟨_, rfl, by simp (disch := decide) only [segmentReceived_writes]⟩
  case dklDataFrame =>
    cases h
    exact ⟨_, rfl, by simp (disch := decide) only [dataFrame_writes]⟩
  case dklAckFrame =>
    cases h
    exact ⟨_, rfl, by simp (disch := decide) only [dklAck_writes]⟩
  case neighFrame =>
    cases h
    exact ⟨_, rfl, by simp (disch := decide) only [neighFrame_writes]⟩
  case ackTimeout =>
    cases h
    exact ⟨_, rfl, by simp (disch := decide) only [ackTimeout_writes]⟩
  case soundFrame =>
    cases h
    exact ⟨_, rfl, by simp (disch := decide) only [soundFrame_writes]⟩
  case mapFrame =>
    cases h
    exact ⟨_, rfl, by simp (disch := decide) only [mapFrame_writes]⟩
  case joinFrame =>
    cases h
    exact ⟨_, rfl, by simp (disch := decide) only [joinFrame_writes]⟩
  case joinApprovalTimeout =>
    cases h
    exact ⟨_, rfl, by simp (disch := decide) only [joinTimeout_writes]⟩
  case nodeApprove =>
    cases h
    exact ⟨_, rfl, by simp (disch := decide) only [nodeApprove_writes]⟩
  case soundingDue =>
    cases h
    exact ⟨_, rfl, by simp (disch := decide) only [soundingDue_writes]⟩
  case dklSend =>
    cases h
    exact ⟨_, rfl, by simp (disch := decide) only [dklSend_writes]⟩
  case dklRxReturn =>
    cases h
    exact ⟨_, rfl, by simp (disch := decide) only [dklRxReturn_writes]⟩
  case dklTxEventRead =>
    cases h
    exact ⟨_, rfl, by simp (disch := decide) only [dklEventRead_writes]⟩
  case dklEnable =>
    cases h
    exact ⟨_, rfl, by simp (disch := decide) only [dklEnable_writes]⟩
  case dklDisable =>
    cases h
    exact ⟨_, rfl, by simp (disch := decide) only [dklDisable_writes]⟩
  case hostDoorbell =>
    cases h
    exact ⟨_, rfl, by simp (disch := decide) only [doorbell_writes]⟩
  case descriptorFetch =>
    cases h
    exact ⟨_, rfl, by simp (disch := decide) only [descriptorFetch_writes]⟩
  case hostNop =>
    cases h
    exact ⟨_, rfl, by simp (disch := decide) only [opNop_writes]⟩
  case install =>
    cases h
    exact ⟨_, rfl, by simp (disch := decide) only [opInstall_writes]⟩
  case exportArchive =>
    cases h
    exact ⟨_, rfl, by simp (disch := decide) only [opExport_writes]⟩
  case compact =>
    cases h
    exact ⟨_, rfl, by simp (disch := decide) only [opCompact_writes]⟩
  case hostKeygen =>
    cases h
    exact ⟨_, rfl, by simp (disch := decide) only [opKeygen_writes]⟩
  case hostAttest =>
    cases h
    exact ⟨_, rfl, by simp (disch := decide) only [opAttest_writes]⟩
  case hostAbort =>
    cases h
    exact ⟨_, rfl, by simp (disch := decide) only [opAbort_writes]⟩
  case messageTimeout =>
    cases h
    exact ⟨_, rfl, by simp (disch := decide) only [messageTimeout_writes]⟩
  case operationComplete =>
    cases h
    exact ⟨_, rfl, by simp (disch := decide) only [completeThrough_writes]⟩
  case messageOperation =>
    cases h
    exact ⟨_, rfl, by simp (disch := decide) only [messageDeliver_writes]⟩
  case hartCompletion =>
    cases h
    exact ⟨_, rfl, by simp (disch := decide) only [hartCompletion_writes]⟩
  case hartRingReturn =>
    cases h
    exact ⟨_, rfl, by simp (disch := decide) only [ringReturn_writes]⟩
  case lineAck =>
    cases h
    exact ⟨_, rfl, by simp (disch := decide) only [lineAck_writes]⟩
  case qspiStatus =>
    cases h
    exact ⟨_, rfl, by simp (disch := decide) only [qspiStatus_writes]⟩
  case completionReturn =>
    cases h
    exact ⟨_, rfl, by simp (disch := decide) only [completionReturn_writes]⟩
  case queueEnable =>
    cases h
    exact ⟨_, rfl, by simp (disch := decide) only [queueEnable_writes]⟩
  case queueDisable =>
    cases h
    exact ⟨_, rfl, by simp (disch := decide) only [queueDisable_writes]⟩
  case storageStep =>
    cases h
    exact ⟨_, rfl, by simp (disch := decide) only [storageStep_writes]⟩
  case hostEventClear =>
    cases h
    exact ⟨_, rfl, by simp (disch := decide) only [hostEventClear_writes]⟩
  case hostLinkChange =>
    cases h
    exact ⟨_, rfl, by simp (disch := decide) only [linkChange_writes]⟩
  case ethEnable =>
    cases h
    exact ⟨_, rfl, by simp (disch := decide) only [ethEnable_writes]⟩
  case ethDisable =>
    cases h
    exact ⟨_, rfl, by simp (disch := decide) only [ethDisable_writes]⟩
  case ethStopComplete =>
    cases h
    exact ⟨_, rfl, by simp (disch := decide) only [ethStop_writes]⟩
  case ethTxTail =>
    cases h
    exact ⟨_, rfl, by simp (disch := decide) only [txTail_writes]⟩
  case ethTxComplete =>
    cases h
    exact ⟨_, rfl, by simp (disch := decide) only [ethTxComplete_writes]⟩
  case ethFrameReceived =>
    cases h
    exact ⟨_, rfl, by simp (disch := decide) only [ethReceive_writes]⟩
  case ethPause =>
    cases h
    exact ⟨_, rfl, by simp (disch := decide) only [ethPause_writes]⟩
  case ethPauseEnd =>
    cases h
    exact ⟨_, rfl, by simp (disch := decide) only [ethPauseEnd_writes]⟩
  case ethRxReturn =>
    cases h
    exact ⟨_, rfl, by simp (disch := decide) only [rxReturn_writes]⟩
  case mdioTransaction =>
    cases h
    exact ⟨_, rfl, by simp (disch := decide) only [mdioGo_writes]⟩
  case mdioDone =>
    cases h
    exact ⟨_, rfl, by simp (disch := decide) only [mdioDone_writes]⟩
  case ethConfigWrite =>
    cases h
    exact ⟨_, rfl, by simp (disch := decide) only [ethConfig_writes]⟩
  case stoRequest =>
    cases h
    exact ⟨_, rfl, by simp (disch := decide) only [requestGo_writes]⟩
  case emmcInit =>
    cases h
    exact ⟨_, rfl, by simp (disch := decide) only [emmcInit_writes]⟩
  case emmcCommandFail =>
    cases h
    exact ⟨_, rfl, by simp (disch := decide) only [commandFail_writes]⟩
  case emmcRetry =>
    cases h
    exact ⟨_, rfl, by simp (disch := decide) only [emmcRetry_writes]⟩
  case emmcHealth =>
    cases h
    exact ⟨_, rfl, by simp (disch := decide) only [showHealth_writes, State.without_ite, ite_self]⟩
  all_goals cases h

/-- Settles O55, by the frames of the two lists. -/
theorem coreAndDriveFrames : Obligations.CoreAndDriveFrames := by
  unfold Obligations.CoreAndDriveFrames
  intro c s A h
  rcases h with h | h
  · exact coreWrites_frame h s
  · exact driveWrites_frame h s

/-- Settles O56, by the frame of the list. -/
theorem meterFrames : Obligations.MeterFrames := by
  unfold Obligations.MeterFrames
  exact fun _ s _ h => meterWrites_frame h s

/-- Settles O57, by the frame of the list. -/
theorem linkFrames : Obligations.LinkFrames := by
  unfold Obligations.LinkFrames
  exact fun _ s _ h => linkWrites_frame h s

/-- Settles O54: a step takes the command at the front of the queue, and a clock where none waits. -/
theorem stepRunsFront : Obligations.StepRunsFront := by
  unfold Obligations.StepRunsFront
  refine fun c s => ⟨fun _ => rfl, rfl, fun h => ?_⟩
  rw [step, h]

end Sys2Proof

/-! ## What every command keeps: the queue, and the canonical form of memory -/

namespace Sys2Proof.Machine

set_option Elab.async false

/-- Everything beside memory and the queue. -/
def besideMemory : Part where
  regs := fun _ => true
  latches := true
  holds := true
  readData := true
  busError := true
  tick := true
  drawn := true
  sys := true
  harts := true
  images := true
  lpe := true
  cln := true
  prt := true
  veh := true
  alc := true
  thm := true
  mtr := true
  bil := true
  sig := true
  sfy := true
  rng := true
  est := true
  lsw := true
  time := true
  host := true
  eth := true
  sto := true
  cans := true
  dkl := true

/-- The queue stands, and memory stays in its canonical form. -/
def Keeps (s t : State) : Prop := t.pending = s.pending ∧ (s.memWf = true → t.memWf = true)

theorem Keeps.refl (s : State) : Keeps s s := ⟨rfl, id⟩

theorem Keeps.trans {s t u : State} (h : Keeps s t) (k : Keeps t u) : Keeps s u :=
  ⟨k.1.trans h.1, fun hw => k.2 (h.2 hw)⟩

theorem Keeps.ite {s t u : State} {c : Prop} [Decidable c] (ht : Keeps s t) (hu : Keeps s u) :
    Keeps s (if c then t else u) := by split <;> assumption

theorem Keeps.when {f : State → State} (hf : ∀ s, Keeps s (f s)) (s : State) (c : Bool) : Keeps s (s.when c f) :=
  Keeps.ite (hf s) (Keeps.refl s)

theorem Keeps.eachOf {α : Type} {f : α → State → State} (hf : ∀ x s, Keeps s (f x s)) (s : State) (l : List α) :
    Keeps s (s.eachOf l f) := by
  unfold State.eachOf
  induction l generalizing s with
  | nil => exact Keeps.refl s
  | cons x l ih => exact (hf x s).trans (ih _)

theorem Keeps.each {f : Nat → State → State} (hf : ∀ i s, Keeps s (f i s)) (s : State) (n : Nat) :
    Keeps s (s.each n f) := Keeps.eachOf hf s (List.range n)

/-- A change beside memory and the queue keeps both. -/
theorem keeps_of_eq {s t : State} (hm : t.mem = s.mem) (hp : t.pending = s.pending) : Keeps s t :=
  ⟨hp, fun hw => by rw [State.memWf, hm]; exact hw⟩

theorem keeps_of_without {A : Part} {s t : State} (h : t.without A = s.without A) (hm : A.mem = false := by rfl)
    (hp : A.pending = false := by rfl) : Keeps s t :=
  keeps_of_eq (State.mem_of_without h hm) (State.pending_of_without h hp)

/-- Only memory and the queue count. -/
theorem keeps_beside {s t : State} : Keeps s (t.without besideMemory) ↔ Keeps s t := Iff.rfl

/-! ### Memory -/

theorem State.setBytes_keeps (s : State) (a : Nat) (l : List Byte) : Keeps s (s.setBytes a l) :=
  ⟨by rw [State.setBytes_frame], State.setBytes_memWf l s a⟩

theorem State.setWord_keeps (s : State) (a : Nat) (v : Word) : Keeps s (s.setWord a v) := s.setBytes_keeps _ _

theorem dropReservations_keeps (own : Option Nat) (a n : Nat) (s : State) : Keeps s (dropReservations own a n s) :=
  keeps_of_without (A := besideMemory) (by simp (disch := decide) only [dropReservations_writes])

theorem State.dma_keeps (s : State) (a : Nat) (l : List Byte) : Keeps s (s.dma a l) :=
  Keeps.ite (Keeps.refl s) ((s.setBytes_keeps a l).trans (dropReservations_keeps _ _ _ _))

theorem State.dmaWord_keeps (s : State) (a : Nat) (v : Word) : Keeps s (s.dmaWord a v) := s.dma_keeps _ _

theorem cellsWfFrom_filter {α : Type} [DecidableEq α] (d : α) (p : Nat × α → Bool) (l : List (Nat × α)) (lo : Nat)
    (h : cellsWfFrom d lo l = true) : cellsWfFrom d lo (l.filter p) = true := by
  induction l generalizing lo with
  | nil => rfl
  | cons e l ih =>
    simp only [cellsWfFrom, Bool.and_eq_true, decide_eq_true_eq] at h
    rw [List.filter_cons]
    split
    · simp [cellsWfFrom, h.1, ih _ h.2]
    · exact cellsWfFrom_mono (by omega) (ih _ h.2)

/-- Dropping bytes of memory keeps its canonical form. -/
theorem keeps_of_filter {s t : State} (p : Nat × Byte → Bool) (hm : t.mem = s.mem.filter p)
    (hp : t.pending = s.pending) : Keeps s t :=
  ⟨hp, fun hw => by rw [State.memWf, hm]; exact cellsWfFrom_filter memDefault p s.mem 0 hw⟩

end Sys2Proof.Machine

namespace Sys2Proof.Machine

set_option Elab.async false

/-! ### Operations that write memory -/

theorem placeRequest_keeps (c : Nat) (p : List Byte) (s : State) : Keeps s (placeRequest c p s) := by
  refine keeps_beside.mp ?_
  unfold placeRequest
  simp (disch := decide) only [sesCause_writes, State.without_setF, State.setSes_writes, State.without_ite]
  split
  · exact s.dma_keeps _ _
  · exact Keeps.refl s

theorem receiveRelease_keeps (c : Nat) (s : State) : Keeps s (receiveRelease c s) := by
  unfold receiveRelease
  dsimp only
  split
  · exact keeps_of_without (A := besideMemory) (by simp (disch := decide) only [State.without_setF])
  · exact Keeps.trans (keeps_of_without (A := besideMemory) (by simp (disch := decide) only [State.without_setF,
      State.setSes_writes])) (placeRequest_keeps _ _ _)

theorem txComplete_keeps (m r : Nat) (late err : Bool) (s : State) : Keeps s (txComplete m r late err s) := by
  refine keeps_beside.mp ?_
  unfold txComplete
  simp (disch := decide) only [State.without_setF]
  exact keeps_beside.mpr ((s.dmaWord_keeps _ _).trans (State.dmaWord_keeps _ _ _))

theorem ethStop_keeps (m : Nat) (s : State) : Keeps s (ethStop m s) := by
  unfold ethStop
  refine Keeps.ite (Keeps.refl s) (keeps_beside.mp ?_)
  simp (disch := decide) only [txNext_writes, State.setMac_writes, State.without_setF]
  exact keeps_beside.mpr (Keeps.each (fun r s => Keeps.each (fun _ s => Keeps.when (txComplete_keeps m r _ _) s _) s
    32) s 2)

theorem ethHalt_keeps (s : State) : Keeps s (ethHalt s) := by
  unfold ethHalt
  refine Keeps.each (fun m s => Keeps.ite (Keeps.refl s) (Keeps.trans ?_ (ethStop_keeps m _))) s 2
  exact keeps_of_without (A := besideMemory) (by simp (disch := decide) only [State.without_setB, State.without_setF])

theorem portsStop_keeps (s : State) : Keeps s (portsStop s) := by
  refine keeps_beside.mp ?_
  unfold portsStop
  simp (disch := decide) only [dklHalt_writes, canHalt_writes]
  refine keeps_beside.mpr (Keeps.trans (keeps_of_without (A := besideMemory) ?_) (ethHalt_keeps _))
  simp (disch := decide) only [vehicleLinksOff_writes, ringSilent_writes]
  exact State.without_each (fun _ s => by simp (disch := decide) only [laneQuiet_writes]) s 32

theorem commitPoint_keeps (s : State) : Keeps s (commitPoint s) := by
  unfold commitPoint
  split
  · refine Keeps.ite (Keeps.refl s) (Keeps.ite ?_ ?_)
    · exact keeps_of_without (A := besideMemory) (by simp (disch := decide) only [engineStop_writes,
        State.without_upd_sys])
    · exact Keeps.trans (keeps_of_without (A := besideMemory) (by simp (disch := decide) only [engineStop_writes,
        stringCountersStop_writes, closingWrites_writes, State.without_upd_sys])) (portsStop_keeps _)
  · exact Keeps.refl s

theorem placeSegment_keeps (b : List Byte) (g : Segment) (s : State) : Keeps s (placeSegment b g s) := by
  unfold placeSegment
  dsimp only
  split
  · exact s.dma_keeps _ _
  · exact keeps_of_eq rfl rfl
  · exact keeps_of_without (A := besideMemory) (by simp (disch := decide) only [kernelBytes_writes])
  · exact s.setBytes_keeps _ _
  · exact keeps_of_eq rfl rfl

theorem placeSegments_keeps (b : List Byte) (s : State) : Keeps s (placeSegments b s) :=
  Keeps.trans (keeps_of_eq rfl rfl) (Keeps.eachOf (placeSegment_keeps b) _ _)

theorem placeBoot_keeps (b : List Byte) (s : State) : Keeps s (placeBoot b s) := by
  refine keeps_beside.mp ?_
  unfold placeBoot
  simp (disch := decide) only [writeSeal_writes]
  exact keeps_beside.mpr (Keeps.trans (keeps_of_eq rfl rfl) (placeSegments_keeps b _))

theorem clearSram_keeps (s : State) : Keeps s (clearSram s) := keeps_of_filter _ rfl rfl

theorem warmCompare_keeps (s : State) : Keeps s (warmCompare s) := by
  unfold warmCompare
  refine Keeps.ite ?_ (Keeps.ite ?_ ?_)
  · refine keeps_beside.mp ?_
    simp (disch := decide) only [mramStep_writes]
    exact keeps_beside.mpr (Keeps.trans (keeps_of_eq rfl rfl) (clearSram_keeps _))
  · exact keeps_of_without (A := besideMemory) (by simp (disch := decide) only [countTrial_writes, showImage_writes,
      State.without_setB, State.without_upd_sys])
  · exact keeps_of_without (A := besideMemory) (by simp (disch := decide) only [mramStep_writes,
      State.without_upd_sys])

theorem verifyImage_keeps (s : State) : Keeps s (verifyImage s) := by
  unfold verifyImage
  dsimp only
  split
  · split <;> exact keeps_of_without (A := besideMemory) (by simp (disch := decide) only [refuseSlot_writes,
      State.without_raise, State.without_upd_sys])
  · split
    · split <;> exact keeps_of_without (A := besideMemory) (by simp (disch := decide) only [bootHold_writes,
        setRefuse_writes])
    · refine keeps_beside.mp ?_
      simp (disch := decide) only [closeBootQueue_writes, countTrial_writes, showImage_writes, State.without_setB,
        State.without_upd_sys_images]
      exact keeps_beside.mpr (placeBoot_keeps _ s)

theorem mainStepEnd_keeps (s : State) : Keeps s (mainStepEnd s) := by
  unfold mainStepEnd
  split
  · exact keeps_of_without (A := besideMemory) (by simp (disch := decide) only [State.without_setB,
      State.without_upd_sys])
  · refine Keeps.ite (warmCompare_keeps s) (keeps_beside.mp ?_)
    simp (disch := decide) only [mramStep_writes]
    exact keeps_beside.mpr (clearSram_keeps s)
  · exact Keeps.ite (Keeps.refl s) (keeps_of_eq rfl rfl)
  · exact keeps_of_without (A := besideMemory) (by simp (disch := decide) only [fetchImage_writes])
  · exact verifyImage_keeps s
  · exact Keeps.refl s

theorem bootStepEnd_keeps (t : Track) (s : State) : Keeps s (bootStepEnd t s) := by
  unfold bootStepEnd
  refine Keeps.ite (Keeps.refl s) ?_
  cases t with
  | main => exact mainStepEnd_keeps s
  | shroud =>
    exact Keeps.ite (Keeps.refl s) (Keeps.ite (keeps_of_eq rfl rfl) (Keeps.ite (keeps_of_eq rfl rfl) (Keeps.refl s)))
  | analog => exact Keeps.ite (Keeps.refl s) (keeps_of_eq rfl rfl)

theorem imgPlace_keeps (x : HartCtx) (s : State) : Keeps s (imgPlace x s).2 := by
  unfold imgPlace
  dsimp only
  split
  · exact Keeps.refl s
  · split
    · exact Keeps.refl s
    · split
      · exact Keeps.refl s
      · split
        · exact Keeps.refl s
        · have hp (b : List Byte) (t : Nat) : Keeps s (placeSegments b (setTicket t none s)) :=
            Keeps.trans (keeps_of_eq rfl rfl) (placeSegments_keeps b _)
          refine Keeps.ite (hp _ _) (keeps_beside.mp ?_)
          simp (disch := decide) only [writeSeal_writes]
          exact keeps_beside.mpr (hp _ _)

theorem programRequest_keeps (c : Nat) (p : List Byte) (s : State) : Keeps s (programRequest c p s) :=
  Keeps.ite (placeRequest_keeps c p s) (Keeps.ite (keeps_of_eq rfl rfl) (Keeps.refl s))

theorem v2gFrame_keeps (c : Nat) (m : V2gFrame) (s : State) : Keeps s (v2gFrame c m s) := by
  unfold v2gFrame
  refine Keeps.ite (Keeps.refl s) (Keeps.ite ?_ (Keeps.ite ?_ ?_))
  · exact keeps_of_without (A := besideMemory) (by simp (disch := decide) only [endWith_writes, stopWith_writes,
      State.without_ite, ite_self])
  · exact keeps_of_without (A := besideMemory) (by simp (disch := decide) only [State.without_satF])
  · have hs (f : Session → Session) : Keeps s (s.setSes c f) := keeps_of_eq rfl rfl
    exact Keeps.ite (hs _) ((hs _).trans (programRequest_keeps c _ _))

theorem powerDelivery_keeps (c : Nat) (k : PowerDelivery) (p : List Byte) (s : State) :
    Keeps s (powerDelivery c k p s) := by
  have hp (f : Session → Session) : Keeps s (programRequest c p (s.setSes c f)) :=
    Keeps.trans (keeps_of_eq rfl rfl) (programRequest_keeps c p _)
  unfold powerDelivery
  refine Keeps.ite (Keeps.refl s) (Keeps.ite (keeps_beside.mp ?_) (hp _))
  simp (disch := decide) only [stopWith_writes]
  exact keeps_beside.mpr (hp _)

theorem standbyTakeover_keeps (f : Nat) (s : State) : Keeps s (standbyTakeover f s) := by
  have hf (g : FrontEnd → FrontEnd) : Keeps s (s.setFe f g) := keeps_of_eq rfl rfl
  unfold standbyTakeover
  refine Keeps.ite (Keeps.refl s) (Keeps.ite ?_ (Keeps.ite (hf _) ?_))
  · exact keeps_of_without (A := besideMemory) (by simp (disch := decide) only [guestLost_writes])
  · split
    · exact keeps_of_eq rfl rfl
    · exact (hf _).trans (programRequest_keeps _ _ _)

theorem releaseReceipt_keeps (env : List Byte) (s : State) : Keeps s (releaseReceipt env s) := by
  refine keeps_beside.mp ?_
  unfold releaseReceipt
  simp (disch := decide) only [sigCause_writes, State.without_setF, State.without_ite, State.without_upd_sig]
  refine Keeps.ite (Keeps.refl s) (keeps_beside.mp ?_)
  exact Keeps.trans (keeps_of_eq rfl rfl) (State.dma_keeps _ _ _)

theorem signComplete_keeps (s : State) : Keeps s (signComplete s) := by
  unfold signComplete
  split
  · exact Keeps.refl s
  · dsimp only
    split
    · exact keeps_of_eq rfl rfl
    · refine Keeps.trans ?_ (releaseReceipt_keeps _ _)
      exact keeps_of_eq rfl rfl
    · split
      · refine keeps_beside.mp ?_
        simp (disch := decide) only [State.without_upd_sig, State.without_upd_sig]
        refine keeps_beside.mpr (Keeps.trans ?_ (State.dma_keeps _ _ _))
        exact keeps_of_eq rfl rfl
      · exact keeps_of_eq rfl rfl
      · exact keeps_of_eq rfl rfl
    · exact keeps_of_eq rfl rfl

/-! ### Crypto jobs -/

theorem runJob_keeps (op : Nat) {f : Job → State → Option Nat × State} (hf : ∀ j s, Keeps s (f j s).2) (s : State) :
    Keeps s (runJob op f s) := by
  unfold runJob
  split
  · exact Keeps.refl s
  · exact Keeps.ite (Keeps.refl s) (Keeps.ite (keeps_of_eq rfl rfl) (Keeps.trans (hf _ s) (keeps_of_eq rfl rfl)))

theorem jobOutput_keeps (j : Job) (n : Nat) (l : List Byte) (s : State) : Keeps s (jobOutput j n l s).2 := by
  unfold jobOutput
  split
  · exact Keeps.refl s
  · exact s.dma_keeps _ _

theorem jobEcdheDerive_keeps (j : Job) (s : State) : Keeps s (jobEcdheDerive j s).2 := by
  unfold jobEcdheDerive
  split
  · exact Keeps.refl s
  · refine Keeps.trans ?_ (jobOutput_keeps _ _ _ _)
    exact keeps_of_eq rfl rfl

theorem jobHash_keeps (j : Job) (s : State) : Keeps s (jobHash j s).2 := by
  unfold jobHash
  split
  · exact Keeps.refl s
  · exact jobOutput_keeps _ _ _ s

theorem jobHmac_keeps (j : Job) (s : State) : Keeps s (jobHmac j s).2 := by
  unfold jobHmac
  split
  · exact Keeps.refl s
  · exact jobOutput_keeps _ _ _ s

theorem jobHkdfExtract_keeps (j : Job) (s : State) : Keeps s (jobHkdfExtract j s).2 := by
  unfold jobHkdfExtract
  split
  · exact Keeps.refl s
  · exact jobOutput_keeps _ _ _ s

theorem jobHkdfExpand_keeps (j : Job) (s : State) : Keeps s (jobHkdfExpand j s).2 := by
  unfold jobHkdfExpand
  split
  · exact Keeps.refl s
  · split
    · exact Keeps.refl s
    · exact jobOutput_keeps _ _ _ s

theorem jobAesGcm_keeps (enc : Bool) (j : Job) (s : State) : Keeps s (jobAesGcm enc j s).2 := by
  unfold jobAesGcm
  split
  · exact Keeps.refl s
  · split
    · exact Keeps.refl s
    · exact jobOutput_keeps _ _ _ s

theorem jobPublicKey_keeps (j : Job) (s : State) : Keeps s (jobPublicKey j s).2 := by
  unfold jobPublicKey
  (repeat' split)
  · exact Keeps.refl s
  · exact jobOutput_keeps _ _ _ s
  · exact Keeps.refl s
  · exact jobOutput_keeps _ _ _ s

theorem jobEcdheKeygen_keeps (j : Job) (s : State) : Keeps s (jobEcdheKeygen j s).2 := by
  unfold jobEcdheKeygen
  split
  · exact Keeps.refl s
  · exact Keeps.trans (keeps_of_eq rfl rfl) (jobOutput_keeps _ _ _ _)

theorem jobSign_keeps (j : Job) (s : State) : Keeps s (jobSign j s).2 := by
  unfold jobSign
  split
  · exact Keeps.refl s
  · exact Keeps.trans (keeps_of_eq rfl rfl) (jobOutput_keeps _ _ _ _)

theorem jobRandom_keeps (j : Job) (s : State) : Keeps s (jobRandom j s).2 :=
  Keeps.trans (keeps_of_eq rfl rfl) (jobOutput_keeps _ _ _ _)

theorem jobTlsKeygen_keeps (j : Job) (s : State) : Keeps s (jobTlsKeygen j s).2 := by
  unfold jobTlsKeygen
  split
  · exact Keeps.refl s
  · split
    · exact Keeps.refl s
    · refine Keeps.trans (keeps_of_eq ?_ ?_) (jobOutput_keeps _ _ _ _)
      · exact State.setF_mem _ _ _ _
      · exact State.setF_pending _ _ _ _

theorem jobDone_keeps (s : State) : Keeps s (jobDone s) := by
  unfold jobDone
  split
  · exact Keeps.refl s
  · dsimp only
    split
    · exact Keeps.refl s
    · refine keeps_beside.mp ?_
      simp (disch := decide) only [sigCause_writes, showJobs_writes, State.without_upd_sig]
      exact keeps_beside.mpr (s.dmaWord_keeps _ _)

/-! ### The shroud and the ring -/

theorem requestSlot_keeps (n : Nat) (s : State) : Keeps s (requestSlot n s) := by
  unfold requestSlot
  refine Keeps.ite (Keeps.refl s) (Keeps.trans (keeps_beside.mp ?_) ((State.setWord_keeps _ _ _).trans
    (State.setWord_keeps _ _ _)))
  simp (disch := decide) only [requestAct_writes, sfyCause_writes, State.without_ite, ite_self, State.without_upd_sfy]
  exact Keeps.refl s

theorem shroudCycle_keeps (s : State) : Keeps s (shroudCycle s) := by
  unfold shroudCycle
  refine Keeps.ite (Keeps.refl s) (Keeps.trans (Keeps.trans (Keeps.each requestSlot_keeps s 16) (Keeps.each ?_ _ _))
    (Keeps.each ?_ _ _))
  · exact fun z s => keeps_of_without (A := besideMemory) (by simp (disch := decide) only [State.without_setF,
      State.without_ite, ite_self])
  · exact fun p s => keeps_of_without (A := besideMemory) (by simp (disch := decide) only [refreshPort_writes,
      releaseDue_writes])

theorem spliceFrame_keeps (f : SpliceFrame) (s : State) : Keeps s (spliceFrame f s) := by
  have hw (l) : Keeps s (s.eachOf l (placeWord shadowRegs false)) :=
    Keeps.eachOf (fun _ s => keeps_of_without (A := besideMemory) (by simp (disch := decide) only
      [placeWord_writes])) s l
  have hl (t : State) : Keeps t (t.each 16 fun j s => if s.b Fl.CLN_LANECFG_EN j then startLink j true s else s) :=
    Keeps.each (fun j s => keeps_of_without (A := besideMemory) (by simp (disch := decide) only [startLink_writes,
      State.without_ite, ite_self])) t 16
  unfold spliceFrame
  split
  · exact Keeps.ite (keeps_of_eq rfl rfl) (Keeps.refl s)
  · exact Keeps.ite (((hw _).trans (hl _)).trans (keeps_of_eq rfl rfl)) (Keeps.refl s)
  · exact Keeps.ite (keeps_of_eq rfl rfl) (Keeps.refl s)
  · refine Keeps.ite (Keeps.refl s) (Keeps.ite (Keeps.each ?_ s 24) (Keeps.ite (Keeps.each ?_ s 24) (Keeps.refl s)))
    · exact fun f s => Keeps.ite (keeps_of_eq rfl rfl) (Keeps.refl s)
    · exact fun f s => Keeps.ite (standbyTakeover_keeps f s) (Keeps.refl s)

/-! ### The host port, storage and Ethernet -/

theorem writePayload_keeps (o : HostOp) (a : Nat) (l : List Byte) (s : State) : Keeps s (writePayload o a l s) :=
  Keeps.ite (keeps_of_eq rfl rfl) (s.dma_keeps _ _)

theorem onOp_keeps (k op : Nat) {f : HostOp → State → State} (hf : ∀ o s, Keeps s (f o s)) (s : State) :
    Keeps s (onOp k op f s) := by
  unfold onOp
  split
  · exact Keeps.refl s
  · exact Keeps.ite (hf _ s) (Keeps.refl s)

theorem opAttest_keeps (k : Nat) (s : State) : Keeps s (opAttest k s) := by
  unfold opAttest
  refine onOp_keeps _ _ (fun o s => ?_) s
  dsimp only
  split
  · split
    · exact keeps_of_without (A := besideMemory) (by simp (disch := decide) only [endOp_writes,
        State.without_upd_sig])
    · refine keeps_beside.mp ?_
      simp (disch := decide) only [endOp_writes]
      refine keeps_beside.mpr (Keeps.trans (keeps_of_without (A := besideMemory) ?_) (writePayload_keeps _ _ _ _))
      simp (disch := decide) only [cryptoSteps_writes, State.without_upd_sig]
  · split
    · exact keeps_of_without (A := besideMemory) (by simp (disch := decide) only [endOp_writes,
        State.without_upd_sig])
    · split
      · exact keeps_of_without (A := besideMemory) (by simp (disch := decide) only [endOp_writes])
      · refine Keeps.ite (Keeps.refl s) ?_
        split <;> exact keeps_of_without (A := besideMemory) (by simp (disch := decide) only [endOp_writes,
          attest_writes, putOp_writes])

theorem messageDeliver_keeps (k : Nat) (s : State) : Keeps s (messageDeliver k s) := by
  unfold messageDeliver
  split
  · exact Keeps.refl s
  · refine Keeps.ite (Keeps.refl s) (keeps_beside.mp ?_)
    simp (disch := decide) only [hstCause_writes, putOp_writes, State.without_upd_host]
    exact keeps_beside.mpr (s.dma_keeps _ _)

theorem requestStep_keeps (k : Nat) (s : State) : Keeps s (requestStep k s) := by
  unfold requestStep
  dsimp only
  split
  · exact keeps_of_without (A := besideMemory) (by simp (disch := decide) only [requestEnd_writes])
  · refine keeps_beside.mp ?_
    simp (disch := decide) only [requestEnd_writes, emmcFill_writes, State.without_setF, State.without_ite, ite_self]
    split
    · exact Keeps.refl s
    · exact keeps_beside.mpr (s.dma_keeps _ _)

theorem exportStep_keeps (k : Nat) (o : HostOp) (s : State) : Keeps s (exportStep k o s) := by
  unfold exportStep
  refine keeps_beside.mp ?_
  simp (disch := decide) only [putOp_writes, endOp_writes, State.without_addF, State.without_ite, ite_self]
  refine keeps_beside.mpr (Keeps.trans (Keeps.ite (Keeps.eachOf ?_ s _) (Keeps.refl s)) (writePayload_keeps _ _ _ _))
  exact fun _ s => keeps_of_without (A := besideMemory) (by simp (disch := decide) only [tamper_writes])

theorem turnStep_keeps (x : Nat) (s : State) : Keeps s (turnStep x s) := by
  unfold turnStep
  dsimp only
  refine Keeps.ite (Keeps.trans ?_ (requestStep_keeps _ _)) ?_
  · exact keeps_of_eq rfl rfl
  · split
    · exact keeps_of_eq rfl rfl
    · split
      · exact keeps_of_without (A := besideMemory) (by simp (disch := decide) only [endOp_writes,
          State.without_upd_host])
      · split
        · refine Keeps.trans ?_ (exportStep_keeps _ _ _)
          exact keeps_of_eq rfl rfl
        · exact keeps_of_without (A := besideMemory) (by simp (disch := decide) only [compactStep_writes,
            State.without_upd_host])

theorem storageStep_keeps (s : State) : Keeps s (storageStep s) := by
  have hc (t : State) : Keeps t (commandOk t) := keeps_of_without (A := besideMemory) (by simp (disch := decide)
    only [commandOk_writes])
  unfold storageStep
  refine Keeps.ite (Keeps.refl s) ?_
  split
  · refine Keeps.ite ?_ ?_
    · exact keeps_of_without (A := besideMemory) (by simp (disch := decide) only [archiveStep_writes,
        commandOk_writes])
    · have hs : Keeps s (s.when (s.nvOk && s.sys.saveStep = 0 && !s.sys.saveEnd) (stoCause 6)) :=
        keeps_of_without (A := besideMemory) (by simp (disch := decide) only [stoCause_writes,
          State.without_when_if, ite_self])
      dsimp only
      split
      · exact (hs.trans (hc _)).trans (turnStep_keeps _ _)
      · exact hs
  · exact (hc s).trans (turnStep_keeps _ _)
  · exact Keeps.refl s

theorem ethTxComplete_keeps (m r : Nat) (s : State) : Keeps s (ethTxComplete m r s) := by
  unfold ethTxComplete
  refine Keeps.ite (Keeps.refl s) ?_
  dsimp only
  split
  · refine Keeps.ite (Keeps.refl s) (keeps_beside.mp ?_)
    simp (disch := decide) only [txNext_writes, ethCause_writes]
    exact keeps_beside.mpr (txComplete_keeps _ _ _ _ s)
  · split
    · refine Keeps.ite (Keeps.refl s) (keeps_beside.mp ?_)
      simp (disch := decide) only [txNext_writes, ethCause_writes]
      refine keeps_beside.mpr (Keeps.trans (keeps_of_without (A := besideMemory) ?_) (txComplete_keeps _ _ _ _ _))
      simp (disch := decide) only [ptpCapture_writes, State.setMac_writes, State.without_addF]
    · exact Keeps.refl s

theorem ethReceive_keeps (m : Nat) (frame : List Byte) (fcsOk : Bool) (s : State) :
    Keeps s (ethReceive m frame fcsOk s) := by
  unfold ethReceive
  refine Keeps.ite (Keeps.refl s) (Keeps.ite ?_ (Keeps.ite ?_ (Keeps.ite (Keeps.refl s) ?_)))
  · exact keeps_of_without (A := besideMemory) (by simp (disch := decide) only [State.without_addF])
  · exact keeps_of_without (A := besideMemory) (by simp (disch := decide) only [State.without_addF])
  · split
    · exact Keeps.refl s
    · refine Keeps.ite ?_ (keeps_beside.mp ?_)
      · exact keeps_of_without (A := besideMemory) (by simp (disch := decide) only [ethCause_writes,
          State.without_addF])
      · simp (disch := decide) only [ethCause_writes, State.without_addF, State.setMac_writes, State.without_setF]
        refine keeps_beside.mpr (Keeps.trans (keeps_of_without (A := besideMemory) ?_) (State.dma_keeps _ _ _))
        simp (disch := decide) only [ptpCapture_writes]

end Sys2Proof.Machine

namespace Sys2Proof.Machine

set_option Elab.async false

/-! ### Register writes -/

theorem State.setReg_beside (s : State) (r : Rg) (i : Nat) (v : Word) :
    (s.setReg r i v).without besideMemory = s.without besideMemory := by
  simp [State.without, besideMemory]

theorem plainWrite_beside (r : Rg) (i : Nat) (v : Word) (s : State) :
    (plainWrite r i v s).without besideMemory = s.without besideMemory := s.setReg_beside _ _ _

theorem metroWrite_beside (r : Rg) (i : Nat) (v : Word) (s : State) :
    (metroWrite r i v s).without besideMemory = s.without besideMemory := by
  unfold metroWrite
  simp (disch := decide) only [mtrCause_writes, tamper_writes, meterFlag_writes, State.without_addF,
    State.without_ite, ite_self, plainWrite_beside]

theorem alcWrite_keeps {r : Rg} {i : Nat} {v : Word} {s t : State} (h : alcWrite r i v s = some t) : Keeps s t := by
  unfold alcWrite at h
  dsimp only at h
  (repeat' split at h) <;> cases h <;> refine keeps_of_without (A := besideMemory) ?_ <;>
    simp (disch := decide) only [counterClear_writes, alcEnable_writes, alcDisable_writes, showBound_writes,
      periodWrite_writes, alcCause_writes, priceWrite_writes, reqWrite_writes, State.without_when_if,
      State.without_setF, ite_self, State.without_upd_alc, State.setReg_beside]

theorem bilWrite_keeps {r : Rg} {i : Nat} {v : Word} {s t : State} (h : bilWrite r i v s = some t) : Keeps s t := by
  unfold bilWrite at h
  (repeat' split at h) <;> cases h <;> refine keeps_of_without (A := besideMemory) ?_ <;>
    simp (disch := decide) only [demlenWrite_writes, billingEnable_writes, calendarActivate_writes,
      State.without_setF, State.without_when_if, State.work_writes, ite_self, State.work_writes]

theorem canWrite_keeps {r : Rg} {i : Nat} {v : Word} {s t : State} (h : canWrite r i v s = some t) : Keeps s t := by
  unfold canWrite at h
  (repeat' split at h) <;> cases h <;> refine keeps_of_without (A := besideMemory) ?_ <;>
    simp (disch := decide) only [canEnable_writes, canDisable_writes, canRecover_writes, canAbortAll_writes,
      canAbort_writes, timingWrite_writes, canPush_writes, canRxReturn_writes, State.without_setB,
      State.without_when_if, State.without_ite, ite_self, plainWrite_beside]

theorem clnWrite_keeps {r : Rg} {i : Nat} {v : Word} {s t : State} (h : clnWrite r i v s = some t) : Keeps s t := by
  unfold clnWrite laneCfgWrite at h
  (repeat' split at h) <;> cases h <;> refine keeps_of_without (A := besideMemory) ?_ <;>
    simp (disch := decide) only [errorsClear_writes, cellReadmit_writes, cellmapWrite_writes, mgmtRequest_writes,
      State.without_setReg, State.without_ite, ite_self, laneEnable_writes, laneDisable_writes, State.setReg_beside]

theorem approvals_beside (s : State) (l : List Nat) :
    (s.eachOf l nodeApprove).without besideMemory = s.without besideMemory :=
  State.without_eachOf (fun _ s => by simp (disch := decide) only [nodeApprove_writes]) s l

theorem dklWrite_keeps {r : Rg} {i : Nat} {v : Word} {s t : State} (h : dklWrite r i v s = some t) : Keeps s t := by
  unfold dklWrite at h
  (repeat' split at h) <;> cases h <;> refine keeps_of_without (A := besideMemory) ?_ <;>
    simp (disch := decide) only [dklEnable_writes, dklDisable_writes, nodeApprove_writes, dklSend_writes,
      dklRxReturn_writes, State.without_setB, State.without_when_if, State.without_ite, ite_self, plainWrite_beside,
      approvals_beside]

theorem estWrite_keeps {r : Rg} {i : Nat} {v : Word} {s t : State} (h : estWrite r i v s = some t) : Keeps s t := by
  unfold estWrite at h
  (repeat' split at h) <;> cases h <;> refine keeps_of_without (A := besideMemory) ?_ <;>
    simp (disch := decide) only [estCommand_writes, packInsert_writes, State.without_setF, State.without_setReg,
      State.without_ite, ite_self, plainWrite_beside]

theorem ethWrite_keeps {r : Rg} {i : Nat} {v : Word} {s t : State} (h : ethWrite r i v s = some t) : Keeps s t := by
  unfold ethWrite at h
  (repeat' split at h) <;> cases h <;> refine keeps_of_without (A := besideMemory) ?_ <;>
    simp (disch := decide) only [ethEnable_writes, ethDisable_writes, ethConfig_writes, mdioGo_writes,
      txTail_writes, rxReturn_writes, State.without_setB, State.without_ite, ite_self, plainWrite_beside]

theorem evtWrite_keeps {r : Rg} {i : Nat} {v : Word} {s t : State} (h : evtWrite r i v s = some t) : Keeps s t := by
  unfold evtWrite at h
  (repeat' split at h) <;> cases h <;> refine keeps_of_without (A := besideMemory) ?_ <;>
    simp (disch := decide) only [eventClear_writes, lineAck_writes]

theorem hstWrite_keeps {r : Rg} {i : Nat} {v : Word} {s t : State} (h : hstWrite r i v s = some t) : Keeps s t := by
  unfold hstWrite at h
  (repeat' split at h) <;> cases h <;> refine keeps_of_without (A := besideMemory) ?_ <;>
    simp (disch := decide) only [ringReturn_writes, hartCompletion_writes, doorbell_writes, completionReturn_writes,
      queueEnable_writes, queueDisable_writes, State.without_setB, State.without_ite, ite_self, plainWrite_beside]

theorem lpeWrite_keeps {r : Rg} {i : Nat} {v : Word} {s t : State} (h : lpeWrite r i v s = some t) : Keeps s t := by
  unfold lpeWrite capWrite injWrite at h
  (repeat' split at h) <;> cases h <;> refine keeps_of_without (A := besideMemory) ?_ <;>
    simp (disch := decide) only [groupWrite_writes, batchWrite_writes, launchWrite_writes, cellInit_writes,
      State.without_ite, ite_self, captureArm_writes, State.without_setReg, State.without_upd_lpe,
      injectorArm_writes, injectorDisarm_writes]

theorem lswWrite_keeps {r : Rg} {i : Nat} {v : Word} {s t : State} (h : lswWrite r i v s = some t) : Keeps s t := by
  unfold lswWrite at h
  (repeat' split at h) <;> cases h <;> refine keeps_of_without (A := besideMemory) ?_
  all_goals simp (disch := decide) only [channelOn_writes, channelOff_writes, channelClear_writes,
    chTakeForm_writes, State.without_setF, State.without_ite, ite_self, State.setReg_beside]

theorem mtrWrite_keeps {r : Rg} {i : Nat} {v : Word} {s t : State} (h : mtrWrite r i v s = some t) : Keeps s t := by
  unfold mtrWrite at h
  (repeat' split at h) <;> cases h <;> refine keeps_of_without (A := besideMemory) ?_ <;>
    simp (disch := decide) only [gridForce_writes, boundaryEnqueue_writes, State.without_setB,
      State.without_when_if, ite_self, plainWrite_beside, metroWrite_beside]

theorem prtWrite_keeps {r : Rg} {i : Nat} {v : Word} {s t : State} (h : prtWrite r i v s = some t) : Keeps s t := by
  unfold prtWrite at h
  (repeat' split at h) <;> cases h <;> refine keeps_of_without (A := besideMemory) ?_ <;>
    simp (disch := decide) only [snap_writes, cellRestore_writes, cellAssign_writes, groupCommand_writes,
      setVset_writes, portGroupEnable_writes, portGroupDisable_writes, State.without_setF, State.without_ite,
      ite_self, State.setReg_beside]

theorem rngWrite_keeps {r : Rg} {i : Nat} {v : Word} {s t : State} (h : rngWrite r i v s = some t) : Keeps s t := by
  unfold rngWrite at h
  (repeat' split at h) <;> cases h <;> refine keeps_of_without (A := besideMemory) ?_ <;>
    simp (disch := decide) only [returnRequest_writes, spliceStart_writes, leaveRing_writes, State.without_when_if,
      State.without_setF, State.without_ite, ite_self, State.without_upd_rng, plainWrite_beside]

theorem sigWrite_keeps {r : Rg} {i : Nat} {v : Word} {s t : State} (h : sigWrite r i v s = some t) : Keeps s t := by
  unfold sigWrite at h
  split at h <;> cases h
  exact keeps_of_without (A := besideMemory) (by simp (disch := decide) only [jobSubmit_writes])

theorem stoWrite_keeps {r : Rg} {i : Nat} {v : Word} {s t : State} (h : stoWrite r i v s = some t) : Keeps s t := by
  unfold stoWrite at h
  (repeat' split at h) <;> cases h <;> refine keeps_of_without (A := besideMemory) ?_ <;>
    simp (disch := decide) only [requestGo_writes, plainWrite_beside]

theorem thmWrite_keeps {r : Rg} {i : Nat} {v : Word} {s t : State} (h : thmWrite r i v s = some t) : Keeps s t := by
  unfold thmWrite at h
  (repeat' split at h) <;> cases h
  · exact Keeps.refl s
  · exact keeps_of_without (A := besideMemory) (by simp (disch := decide) only [evalWindow_writes,
      State.setReg_beside])

theorem timWrite_keeps {r : Rg} {i : Nat} {v : Word} {s t : State} (h : timWrite r i v s = some t) : Keeps s t := by
  unfold timWrite at h
  (repeat' split at h) <;> cases h <;> refine keeps_of_without (A := besideMemory) ?_ <;>
    simp (disch := decide) only [incrementWrite_writes, timeStepRequest_writes, calendarSet_writes,
      State.without_when_if, State.without_setB, ite_self, plainWrite_beside]

theorem vehWrite_keeps {r : Rg} {i : Nat} {v : Word} {s t : State} (h : vehWrite r i v s = some t) : Keeps s t := by
  unfold vehWrite at h
  split at h
  · cases h
    exact keeps_of_without (A := besideMemory) (by simp (disch := decide) only [frontEndConfig_writes,
      State.without_setF])
  · split at h
    · cases h
      split <;> exact keeps_of_without (A := besideMemory) (by simp (disch := decide) only [proceed_writes,
        sessionStop_writes, sessionClear_writes])
    · split at h
      · cases h
        exact keeps_of_without (A := besideMemory) (by simp (disch := decide) only [sessionEnable_writes,
          sessionDisable_writes, State.without_ite, ite_self, State.setReg_beside])
      · split at h
        · cases h
          exact Keeps.ite (receiveRelease_keeps i s) (keeps_of_without (A := besideMemory) (by simp (disch :=
            decide) only [State.without_setF]))
        · split at h
          · cases h
            exact keeps_of_without (A := besideMemory) (by simp (disch := decide) only [responseSend_writes,
              State.without_setF, State.without_ite, ite_self])
          · cases h

/-- What a write of a register does beyond its access codes keeps both, in every block. -/
theorem hook_keeps {b : Blk} {r : Rg} {i : Nat} {v : Word} {s t : State} (h : b.hook r i v s = some t) :
    Keeps s t := by
  cases b with
  | sys => cases h
  | sfy => cases h
  | evt => exact evtWrite_keeps h
  | hst => exact hstWrite_keeps h
  | lpe => exact lpeWrite_keeps h
  | cln => exact clnWrite_keeps h
  | prt => exact prtWrite_keeps h
  | alc => exact alcWrite_keeps h
  | veh => exact vehWrite_keeps h
  | thm => exact thmWrite_keeps h
  | mtr => exact mtrWrite_keeps h
  | bil => exact bilWrite_keeps (i := i) h
  | sig => exact sigWrite_keeps (i := i) h
  | rng => exact rngWrite_keeps h
  | lsw => exact lswWrite_keeps h
  | est => exact estWrite_keeps h
  | tim => exact timWrite_keeps h
  | can => exact canWrite_keeps h
  | dkl => exact dklWrite_keeps h
  | eth => exact ethWrite_keeps h
  | sto => exact stoWrite_keeps h

theorem plainWrite_keeps (r : Rg) (i : Nat) (v : Word) (s : State) : Keeps s (plainWrite r i v s) :=
  keeps_of_without (plainWrite_beside r i v s)

theorem blockWrite_keeps (b : Blk) (r : Rg) (i : Nat) (v : Word) (s : State) : Keeps s (blockWrite b r i v s) := by
  unfold blockWrite
  cases h : b.hook r i v s with
  | none => exact plainWrite_keeps r i v s
  | some t => exact hook_keeps h

theorem quantityWrite_keeps (ini : Initiator) (b : Blk) (a : Nat) (v : Word) (s : State) :
    Keeps s (quantityWrite ini b a v s) := by
  unfold quantityWrite
  split
  · exact Keeps.refl s
  · refine Keeps.ite (keeps_of_eq rfl rfl) (Keeps.ite ?_ (blockWrite_keeps _ _ _ _ s))
    split
    · refine Keeps.trans (Keeps.trans ?_ (blockWrite_keeps _ _ _ _ _)) (blockWrite_keeps _ _ _ _ _)
      exact keeps_of_eq rfl rfl
    · exact blockWrite_keeps _ _ _ _ s

theorem tripOnly_beside (s : State) : (tripOnly s).without besideMemory = s.without besideMemory :=
  State.without_each (fun _ s => by simp (disch := decide) only [sfyCause_writes, State.without_setB,
    State.without_ite, ite_self]) s 64

theorem sfyWrite_keeps (r : Rg) (i : Nat) (v : Word) (s : State) : Keeps s (sfyWrite r i v s) := by
  unfold sfyWrite
  refine Keeps.ite ?_ (Keeps.ite ?_ ?_)
  · exact keeps_of_without (A := besideMemory) (by simp (disch := decide) only [evalFabric_writes,
      showSource_writes, State.without_setB, State.without_ite, ite_self, plainWrite_beside, tripOnly_beside])
  · exact keeps_of_without (A := besideMemory) (by simp (disch := decide) only [evalFabric_writes,
      State.without_setB, State.without_ite, ite_self, plainWrite_beside, tripOnly_beside])
  · refine Keeps.trans (t := tripOnly (plainWrite r i v s)) ?_ (Keeps.each (fun p s => ?_) _ 48)
    · exact keeps_of_without (A := besideMemory) (by simp only [tripOnly_beside, plainWrite_beside])
    · exact keeps_of_without (A := besideMemory) (by simp (disch := decide) only [refreshPort_writes])

theorem foreignStore_keeps (s : State) : Keeps s (foreignStore s) := by
  unfold foreignStore
  exact keeps_of_without (A := besideMemory) (by simp (disch := decide) only [busFault_writes, sfyCause_writes,
    State.without_satF])

theorem sfyStore_keeps (ini : Initiator) (a : Nat) (v : Word) (s : State) : Keeps s (sfyStore ini a v s) := by
  have hw : Keeps s (if !s.sfy.running then s else
      match rgAt a with | some (r, i) => sfyWrite r i v s | none => s) := by
    refine Keeps.ite (Keeps.refl s) ?_
    split
    · exact sfyWrite_keeps _ _ _ s
    · exact Keeps.refl s
  unfold sfyStore
  split
  · exact hw
  · exact hw
  · exact foreignStore_keeps s

/-! ### Resets and power -/

theorem State.setReg_keeps (s : State) (r : Rg) (i : Nat) (v : Word) : Keeps s (s.setReg r i v) :=
  keeps_of_without (s.setReg_beside r i v)

theorem billingReset_keeps (s : State) : Keeps s (billingReset s) := keeps_of_eq rfl rfl

theorem resetBlocks_keeps (s : State) : Keeps s (resetBlocks s) := keeps_of_eq rfl rfl

theorem startBoot_keeps (k : BootKind) (s : State) : Keeps s (startBoot k s) := keeps_of_eq rfl rfl

theorem resetRegs_keeps (k : ResetKind) (s : State) : Keeps s { s with regs := s.resetRegs k } := keeps_of_eq rfl rfl

theorem updSys_keeps (s : State) (x : SysState) : Keeps s { s with sys := x } := keeps_of_eq rfl rfl

/-- The registers that show the eMMC and the host port after a reset. -/
theorem showAfterReset_keeps (s : State) : Keeps s (showPort (stoAfterReset s)) := by
  unfold stoAfterReset
  exact keeps_of_without (A := besideMemory) (by simp (disch := decide) only [showPort_writes, State.without_setF])

theorem coldReset_keeps (cause : Nat) (s : State) : Keeps s (coldReset cause s) := by
  unfold coldReset
  refine Keeps.trans ?_ (showAfterReset_keeps _)
  refine Keeps.trans ?_ (startBoot_keeps _ _)
  have hb : Keeps s (resetBlocks (billingReset
      ((({ s with regs := s.resetRegs .cold } : State)).setReg R.SYS_RSTCAUSE 0 (BitVec.ofNat 32 cause)))) :=
    (((resetRegs_keeps .cold s).trans (State.setReg_keeps _ _ _ _)).trans (billingReset_keeps _)).trans
      (resetBlocks_keeps _)
  exact hb.trans (keeps_of_filter _ rfl rfl)

theorem powerLoss_keeps (furl : Bool) (s : State) : Keeps s (powerLoss furl s) :=
  (coldReset_keeps 1 s).trans (updSys_keeps _ _)

theorem furlCheck_keeps (s : State) : Keeps s (furlCheck s) := Keeps.ite (powerLoss_keeps _ s) (Keeps.refl s)

theorem furlArm_keeps (key : Nat) (s : State) : Keeps s (furlArm key s) := by
  have hb (v : Bool) : Keeps s (s.setB Fl.SYS_PWRSTAT_FURL_ARMED 0 v) :=
    keeps_of_without (A := besideMemory) (by simp (disch := decide) only [State.without_setB])
  exact Keeps.ite ((hb _).trans (furlCheck_keeps _)) (Keeps.ite (hb _) (Keeps.refl s))

theorem lswWarm_beside (old s : State) : (lswWarm old s).without besideMemory = s.without besideMemory :=
  State.without_each (fun _ s => by dsimp only; simp (disch := decide) only [chTurnOff_writes, State.without_setF,
    State.setCh_writes, State.without_ite, ite_self]) s 16

theorem releaseAll_keeps (dual : Bool) (s : State) : Keeps s (releaseAll dual s) := by
  unfold releaseAll
  exact Keeps.each (fun p s => keeps_of_without (A := besideMemory) (by simp (disch := decide) only
    [demandPort_writes, State.without_when_if, State.setSp_writes, State.without_ite, ite_self])) s 48

theorem warmParts_keeps (s : State) (h : Vector HartCtx 4) (l : LpeState) (m : MtrState) :
    Keeps s { s with harts := h, lpe := l, mtr := m } := keeps_of_eq rfl rfl

theorem warmReset_keeps (causes : Nat) (s : State) : Keeps s (warmReset causes s) := by
  unfold warmReset
  refine Keeps.trans ?_ (showAfterReset_keeps _)
  refine Keeps.trans ?_ (startBoot_keeps _ _)
  refine Keeps.trans ?_ (keeps_of_without (lswWarm_beside _ _))
  have hr : Keeps s (releaseAll true (addCause causes s)) :=
    Keeps.trans (State.setReg_keeps _ _ _ _) (releaseAll_keeps _ _)
  refine Keeps.trans ?_ (warmParts_keeps _ _ _ _)
  refine Keeps.trans ?_ (resetBlocks_keeps _)
  refine Keeps.trans ?_ (billingReset_keeps _)
  refine Keeps.trans ?_ (State.setReg_keeps _ _ _ _)
  exact hr.trans (resetRegs_keeps .warm _)

theorem warmCause_keeps (bit : Nat) (s : State) : Keeps s (warmCause bit s) := by
  unfold warmCause
  refine Keeps.ite (Keeps.refl s) (Keeps.ite ?_ (warmReset_keeps _ s))
  exact keeps_of_without (A := besideMemory) (by simp (disch := decide) only [addCause_writes, State.without_upd_sys])

theorem watchdogKey_keeps (key : Nat) (s : State) : Keeps s (watchdogKey key s) :=
  Keeps.ite (Keeps.refl s) (Keeps.ite (keeps_of_eq rfl rfl) (warmCause_keeps _ s))

theorem referenceLost_keeps (bit : Nat) (s : State) : Keeps s (referenceLost bit s) := by
  unfold referenceLost
  refine Keeps.ite (Keeps.refl s) (Keeps.trans ?_ (warmCause_keeps _ _))
  exact keeps_of_without (A := besideMemory) (by simp (disch := decide) only [State.without_setB,
    State.without_raise, State.without_upd_sys])

theorem inStow_keeps (hp : Bool) (s : State) : Keeps s (inStow hp s) := by
  refine keeps_beside.mp ?_
  unfold inStow
  simp (disch := decide) only [lswAllOff_writes, State.without_setF, State.without_setB]
  exact keeps_beside.mpr (keeps_of_eq rfl rfl)

theorem vinBrownOut_keeps (mv : Nat) (s : State) : Keeps s (vinBrownOut mv s) := by
  unfold vinBrownOut
  refine Keeps.ite (Keeps.refl s) ?_
  dsimp only
  have hs : Keeps s (((vinIs mv s).setB Fl.SYS_SUPSTAT_ABOVE_WARN 0 false).setB Fl.SYS_SUPSTAT_ABOVE_HOLD 0 false) :=
    keeps_of_without (A := besideMemory) (by simp (disch := decide) only [vinIs_writes, State.without_setB])
  generalize ((vinIs mv s).setB Fl.SYS_SUPSTAT_ABOVE_WARN 0 false).setB Fl.SYS_SUPSTAT_ABOVE_HOLD 0 false = t at hs ⊢
  refine Keeps.trans (hs.trans (updSys_keeps t { t.sys with vinGone := true })) ?_
  refine Keeps.ite (Keeps.ite ((updSys_keeps _ _).trans (furlCheck_keeps _)) (powerLoss_keeps _ _))
    (Keeps.ite (Keeps.trans ?_ (inStow_keeps _ _)) (Keeps.ite (Keeps.refl _) (powerLoss_keeps _ _)))
  exact keeps_of_without (A := besideMemory) (by simp (disch := decide) only [State.without_setB,
    State.without_upd_sys, State.without_upd_sys])

theorem vinAboveStart_keeps (mv bootsel hsel : Nat) (s : State) : Keeps s (vinAboveStart mv bootsel hsel s) := by
  unfold vinAboveStart
  dsimp only
  split
  · refine Keeps.trans ?_ (coldReset_keeps _ _)
    exact keeps_of_without (A := besideMemory) (by simp (disch := decide) only [vinIs_writes, sampleLands_writes,
      State.without_setB, State.without_when_if, ite_self, State.without_upd_sys, State.without_upd_sys])
  · exact keeps_of_without (A := besideMemory) (by simp (disch := decide) only [vinIs_writes, State.without_setB,
      State.wake_writes, State.without_ite, ite_self, State.without_upd_sys, State.without_upd_sys])

theorem closingFold_keeps (s : State) : Keeps s (closingFold s) := by
  refine keeps_beside.mp ?_
  unfold closingFold
  simp (disch := decide) only [commitFold_writes]
  exact keeps_beside.mpr (Keeps.each (fun m s => keeps_of_without (A := besideMemory) (by simp (disch := decide)
    only [foldMeter_writes, State.without_setReg, State.without_setQ])) s 24)

theorem interruptOps_keeps (s : State) : Keeps s (interruptOps s) :=
  Keeps.eachOf (fun _ s => keeps_of_without (A := besideMemory) (by simp (disch := decide) only
    [completeNow_writes])) s _

theorem haltHarts_keeps (s : State) : Keeps s (haltHarts s) :=
  Keeps.each (fun _ s => keeps_of_without (A := besideMemory) (by simp (disch := decide) only
    [State.withHart_writes])) s 4

theorem abandonWrites_keeps (s : State) : Keeps s (abandonWrites s) := by
  refine Keeps.trans (Keeps.each (fun k s => Keeps.when (fun s => ?_) s _) s 4) (keeps_of_eq rfl rfl)
  exact keeps_of_without (A := besideMemory) (by simp (disch := decide) only [requestEnd_writes])

theorem boundaryAll_keeps (s : State) : Keeps s (boundaryAll s) :=
  Keeps.eachOf (fun _ s => keeps_of_without (A := besideMemory) (by simp (disch := decide) only [processSlot_writes,
    State.without_upd_bil])) s _

theorem lanesSave_keeps (buddy : Bool) (s : State) : Keeps s (lanesSave buddy s) := by
  unfold lanesSave
  refine Keeps.each (fun j s => Keeps.ite (Keeps.refl s) (Keeps.eachOf (fun e s => ?_) s _)) s 32
  exact keeps_of_without (A := besideMemory) (by simp (disch := decide) only [State.without_setF,
    State.without_upd_cln])

theorem saveAction_keeps (n : Nat) (s : State) : Keeps s (saveAction n s) := by
  unfold saveAction
  split
  · refine keeps_beside.mp ?_
    simp (disch := decide) only [ringSilent_writes, State.without_upd_sig_host, engineStop_writes]
    exact keeps_beside.mpr (lanesSave_keeps _ s)
  · exact ((haltHarts_keeps s).trans (interruptOps_keeps _)).trans (portsStop_keeps _)
  · exact closingFold_keeps s
  · exact boundaryAll_keeps s
  · refine (closingFold_keeps s).trans (keeps_of_without (A := besideMemory) ?_)
    simp (disch := decide) only [closingWrites_writes, commitJournal_writes]
  · refine Keeps.trans ?_ (abandonWrites_keeps _)
    exact keeps_of_without (A := besideMemory) (by simp (disch := decide) only [State.without_setB,
      State.without_setF, State.without_raise])
  · dsimp only
    refine Keeps.ite (Keeps.trans ?_ (inStow_keeps _ _)) ?_
    · exact keeps_of_without (A := besideMemory) (by simp (disch := decide) only [State.without_setB,
        State.without_upd_sys, State.without_upd_sys])
    · exact keeps_of_without (A := besideMemory) (by simp (disch := decide) only [State.without_setB,
        State.without_upd_sys, State.without_upd_sys])
  · exact Keeps.refl s

theorem saveStepComplete_keeps (s : State) : Keeps s (saveStepComplete s) := by
  unfold saveStepComplete
  refine Keeps.ite (Keeps.refl s) ?_
  refine Keeps.trans (Keeps.trans ?_ (saveAction_keeps _ _)) (updSys_keeps _ _)
  exact keeps_of_without (A := besideMemory) (by simp (disch := decide) only [State.without_setF])

theorem saveEndRelease_keeps (s : State) : Keeps s (saveEndRelease s) := by
  unfold saveEndRelease
  refine Keeps.ite (Keeps.refl s) (Keeps.ite ?_ (warmReset_keeps _ s))
  exact keeps_of_without (A := besideMemory) (by simp (disch := decide) only [softwareCold_writes,
    State.without_upd_sys, State.without_upd_sys])

theorem pendingWake_beside (s : State) : (pendingWake s).without besideMemory = s.without besideMemory := by
  unfold pendingWake
  simp (disch := decide) only [startTransition_writes, State.without_setF, State.without_setB, State.without_ite,
    ite_self, State.without_upd_sys, State.without_upd_sys]

theorem transitionComplete_keeps (s : State) : Keeps s (transitionComplete s) := by
  unfold transitionComplete
  split
  · exact Keeps.refl s
  · refine Keeps.ite (Keeps.refl s) (Keeps.ite ?_ ?_)
    · refine keeps_beside.mp ?_
      simp (disch := decide) only [pendingWake_beside, State.without_raise]
      refine keeps_beside.mpr (Keeps.trans ?_ (inStow_keeps _ _))
      refine (closingFold_keeps s).trans (keeps_of_without (A := besideMemory) ?_)
      simp (disch := decide) only [commitJournal_writes]
    · exact keeps_of_without (A := besideMemory) (by simp (disch := decide) only [emmcRestart_writes,
        timeReload_writes, State.without_raise, State.without_setF, State.without_setB, State.without_when_if,
        ite_self, State.without_upd_sys, pendingWake_beside, State.without_upd_sys])

theorem stowHandler_keeps (s : State) : Keeps s (stowHandler s) := by
  unfold stowHandler
  refine Keeps.ite (Keeps.refl s) ?_
  split
  · exact coldReset_keeps 0 s
  · refine Keeps.ite (coldReset_keeps 0 s) (keeps_beside.mp ?_)
    simp (disch := decide) only [timeReload_writes, showPort_writes, startHart_writes, blocksBoot_writes,
      State.without_setF, State.without_setB, State.without_upd_sys, State.without_upd_sys, stoAfterReset]
    refine keeps_beside.mpr (Keeps.trans ?_ (State.setBytes_keeps _ _ _))
    refine Keeps.trans (t := resetBlocks (billingReset { s with regs := s.resetRegs .resume })) ?_
      (keeps_of_filter _ rfl rfl)
    exact ((resetRegs_keeps .resume s).trans (billingReset_keeps _)).trans (resetBlocks_keeps _)

theorem stowImage_keeps (s : State) : Keeps s (stowImage s) := by
  unfold stowImage
  refine Keeps.ite (Keeps.refl s) ?_
  split
  · refine Keeps.ite (coldReset_keeps 0 s) (keeps_beside.mp ?_)
    simp (disch := decide) only [setEntries_writes, State.without_setB, State.without_raise, State.without_upd_sys]
    exact keeps_beside.mpr ((placeBoot_keeps _ s).trans (State.setBytes_keeps _ _ _))
  · exact coldReset_keeps 0 s

theorem pinWarm_keeps (s : State) : Keeps s (pinWarm s) := (updSys_keeps _ _).trans (warmCause_keeps _ _)

theorem pinCold_keeps (s : State) : Keeps s (pinCold s) := Keeps.ite (coldReset_keeps _ s) (Keeps.refl s)

theorem coldAssert_keeps (elapsed : Bool) (bootsel hsel : Nat) (s : State) :
    Keeps s (coldAssert elapsed bootsel hsel s) :=
  Keeps.ite ((updSys_keeps _ _).trans (coldReset_keeps _ _)) (Keeps.refl s)

theorem watchdogExpiry_keeps (s : State) : Keeps s (watchdogExpiry s) :=
  Keeps.ite (warmCause_keeps _ s) (Keeps.refl s)

theorem spliceReset_keeps (s : State) : Keeps s (spliceReset s) := by
  unfold spliceReset
  refine Keeps.ite (Keeps.trans ?_ (warmReset_keeps _ _)) (Keeps.refl s)
  exact keeps_of_without (A := besideMemory) (by simp (disch := decide) only [State.without_setF])

theorem hpStowCheck_keeps (dq mv : Int) (s : State) : Keeps s (hpStowCheck dq mv s) := by
  unfold hpStowCheck
  exact keeps_of_without (A := besideMemory) (by simp (disch := decide) only [showHpOk_writes, countCharge_writes,
    countSoc_writes, estCause_writes, State.without_setReg, State.without_setF, State.without_setB,
    State.without_ite, ite_self])

theorem hpRemoved_keeps (s : State) : Keeps s (hpRemoved s) := by
  have hb : Keeps s (s.setB Fl.SYS_SUPSTAT_HP_OK 0 false) :=
    keeps_of_without (A := besideMemory) (by simp (disch := decide) only [State.without_setB])
  exact Keeps.ite (hb.trans (powerLoss_keeps _ _)) hb

end Sys2Proof.Machine

namespace Sys2Proof.Machine

set_option Elab.async false

/-! ### The bus and the host port -/

theorem State.setHart_keeps (s : State) (n : Nat) (f : HartCtx → HartCtx) : Keeps s (s.setHart n f) :=
  keeps_of_eq rfl rfl

theorem busFault_keeps (s : State) : Keeps s (busFault s) := keeps_of_eq rfl rfl

theorem hartctlWrite_keeps (n : Nat) (v : Word) (s : State) : Keeps s (hartctlWrite n v s) := by
  unfold hartctlWrite
  refine Keeps.trans (Keeps.when (fun s => ?_) s _) (Keeps.when (fun s => ?_) _ _)
  · exact keeps_of_without (A := besideMemory) (by simp (disch := decide) only [hartHalt_writes])
  · exact keeps_of_without (A := besideMemory) (by simp (disch := decide) only [hartStart_writes])

theorem sysWrite_keeps (n : Nat) (r : Rg) (i : Nat) (v : Word) (s : State) : Keeps s (sysWrite n r i v s) := by
  have hp {f : State → State} (hf : ∀ s, Keeps s (f s)) : Keeps s (if n = 0 then f s else busFault s) :=
    Keeps.ite (hf s) (busFault_keeps s)
  unfold sysWrite
  refine Keeps.ite ?pwrctl (Keeps.ite ?rstctl (Keeps.ite ?wdtctl (Keeps.ite (watchdogKey_keeps _ s) (Keeps.ite
    ?bootcfg
    (Keeps.ite (hartctlWrite_keeps _ _ s) (Keeps.ite ?mboxtx (Keeps.ite (State.setHart_keeps _ _ _) (Keeps.ite ?owner
    (Keeps.ite ?lock (plainWrite_keeps r i v s))))))))))
  case pwrctl =>
    refine Keeps.trans (furlArm_keeps (bitsOf v 8 8) s) (Keeps.ite ?_ (Keeps.refl _))
    exact keeps_of_without (A := besideMemory) (by simp (disch := decide) only [requestState_writes])
  case rstctl =>
    refine Keeps.ite (Keeps.refl s) (Keeps.ite ?_ (Keeps.ite (warmCause_keeps _ s) (Keeps.refl s)))
    exact keeps_of_without (A := besideMemory) (by simp (disch := decide) only [softwareCold_writes])
  case wdtctl => exact keeps_of_without (A := besideMemory) (by simp (disch := decide) only [watchdogWrite_writes])
  case bootcfg => exact keeps_of_without (A := besideMemory) (by simp (disch := decide) only [confirmSlot_writes,
    State.without_when_if, ite_self])
  case mboxtx => exact keeps_of_without (A := besideMemory) (by simp (disch := decide) only [mailboxWrite_writes])
  case owner => exact hp fun s => Keeps.ite (Keeps.refl s) (plainWrite_keeps r i v s)
  case lock =>
    refine hp (f := fun s => s.when (v.getLsbD 0) ownerLock) fun s => Keeps.when (fun s => ?_) s _
    exact keeps_of_without (A := besideMemory) (by simp (disch := decide) only [ownerLock_writes])

theorem busWrite_keeps (ini : Initiator) (sup : Bool) (a : Nat) (v : Word) (s : State) :
    Keeps s (busWrite ini sup a v s) := by
  unfold busWrite
  refine Keeps.trans (t := { s with busError := false }) (keeps_of_eq rfl rfl) (Keeps.ite (busFault_keeps _) ?_)
  split
  · exact busFault_keeps _
  · exact sfyStore_keeps _ _ _ _
  · split
    · refine Keeps.ite (busFault_keeps _) ?_
      split
      · exact sysWrite_keeps _ _ _ _ _
      · exact Keeps.refl _
    · exact busFault_keeps _
  · refine Keeps.ite (busFault_keeps _) (Keeps.ite (busFault_keeps _) (Keeps.ite (Keeps.refl _) (Keeps.ite ?_
      (quantityWrite_keeps _ _ _ _ _))))
    exact keeps_of_without (A := besideMemory) (by simp (disch := decide) only [coefficientWrite_writes,
      State.without_upd_busError])

theorem hostPageWrite_keeps (off : Nat) (v : Word) (s : State) : Keeps s (hostPageWrite off v s) := by
  unfold hostPageWrite
  refine Keeps.ite ?_ (Keeps.ite ?_ ?_)
  · exact keeps_of_without (A := besideMemory) (by simp (disch := decide) only [hostEventClear_writes])
  · exact keeps_of_without (A := besideMemory) (by simp (disch := decide) only [lineAck_writes])
  · split
    · refine Keeps.ite ?_ (Keeps.ite (plainWrite_keeps _ _ v s) (Keeps.refl s))
      next r i _ =>
      cases h : hstWrite r i v s with
      | none => exact Keeps.refl s
      | some t => exact hstWrite_keeps h
    · exact Keeps.refl s

theorem hostWindowWrite_keeps (off : Nat) (l : List Byte) (s : State) : Keeps s (hostWindowWrite off l s) :=
  s.dma_keeps _ _

theorem hostWrite_keeps (a : Nat) (v : Word) (s : State) : Keeps s (hostWrite a v s) := by
  have h0 : Keeps s { s with busError := false } := keeps_of_eq rfl rfl
  exact h0.trans (Keeps.ite (busFault_keeps _) (Keeps.ite (hostPageWrite_keeps _ _ _)
    (Keeps.ite (hostWindowWrite_keeps _ _ _) (busFault_keeps _))))

theorem initiatorWrite_keeps (ini : Initiator) (a : Nat) (v : Word) (s : State) :
    Keeps s (initiatorWrite ini a v s) := by
  unfold initiatorWrite
  split
  · exact hostWrite_keeps a v s
  · exact busWrite_keeps _ _ a v s
  · exact busWrite_keeps _ _ a v s

theorem pageWords_keeps (off : Nat) (l : List Byte) (s : State) : Keeps s (pageWords off l s) := by
  induction off, l, s using pageWords.induct with
  | case1 off b0 b1 b2 b3 rest s ih =>
    rw [pageWords]
    exact (Keeps.ite (hostPageWrite_keeps _ _ s) (Keeps.refl s)).trans ih
  | case2 off l s h =>
    rw [pageWords]
    · exact Keeps.refl s
    · exact h

theorem qspiWrite_keeps (off : Nat) (l : List Byte) (s : State) : Keeps s (qspiWrite off l s) :=
  Keeps.ite (Keeps.refl s) (Keeps.ite (Keeps.ite (pageWords_keeps _ _ s) (Keeps.refl s))
    (Keeps.ite (hostWindowWrite_keeps _ _ s) (Keeps.refl s)))

/-! ### Instructions -/

theorem setG_keeps (n : Nat) (rd : RegNum) (v : Word) (s : State) : Keeps s (setG n rd v s) := s.setHart_keeps n _

theorem setGPair_keeps (n : Nat) (rd : RegNum) (v : DWord) (s : State) : Keeps s (setGPair n rd v s) :=
  s.setHart_keeps n _

theorem setPc_keeps (n : Nat) (a : Word) (s : State) : Keeps s (setPc n a s) := s.setHart_keeps n _

/-- The state an instruction's body leaves. -/
def HRes.state : HRes → State
  | .ok t => t
  | .trap _ _ t => t

theorem takeTrap_keeps (n : Nat) (irq : Bool) (cause : Nat) (detail : Option Word) (s : State) :
    Keeps s (takeTrap n irq cause detail s) := by
  unfold takeTrap
  dsimp only
  split
  · refine Keeps.trans ?_ (warmCause_keeps _ _)
    exact keeps_of_without (A := besideMemory) (by simp (disch := decide) only [State.without_setF,
      State.withHart_writes])
  · split
    · exact keeps_of_without (A := besideMemory) (by simp (disch := decide) only [State.without_setF,
        State.withHart_writes])
    · exact keeps_of_without (A := besideMemory) (by simp (disch := decide) only [State.without_setF,
        State.withHart_writes, State.draw_writes])

theorem retire_keeps (n : Nat) (s : State) : Keeps s (retire n s) := by
  unfold retire
  exact keeps_of_without (A := besideMemory) (by simp (disch := decide) only [State.withHart_writes])

/-- An instruction whose body keeps both keeps both, whether it completes or traps. -/
theorem instr_keeps (n : Nat) {body : HartCtx → State → HRes} (hb : ∀ x s, Keeps s (body x s).state) (s : State) :
    Keeps s (instr n body s) := by
  unfold instr
  refine Keeps.ite (Keeps.refl s) ?_
  dsimp only
  split
  · exact takeTrap_keeps _ _ _ _ s
  · have h := hb (s.hart n) (setPc n ((s.hart n).pc + 4) s)
    split
    · next hr =>
      rw [hr] at h
      exact ((State.setHart_keeps _ _ _).trans h).trans (retire_keeps _ _)
    · next hr =>
      rw [hr] at h
      exact (((State.setHart_keeps _ _ _).trans h).trans (State.setHart_keeps _ _ _)).trans (takeTrap_keeps _ _ _ _ _)

theorem busRead_keeps (ini : Initiator) (a : Nat) (s : State) : Keeps s (busRead ini a s) :=
  keeps_of_without (A := besideMemory) (by simp (disch := decide) only [busRead_writes])

theorem regLoad_keeps (n : Nat) (a : Word) (s : State) {k : Nat → State → HRes}
    (hk : ∀ v s, Keeps s (k v s).state) : Keeps s (regLoad n a s k).state := by
  unfold regLoad
  dsimp only
  split
  · exact busRead_keeps _ _ s
  · exact (busRead_keeps _ _ s).trans (hk _ _)

theorem load_keeps (n len : Nat) (a : Word) (x : HartCtx) (s : State) {k : Nat → State → HRes}
    (hk : ∀ v s, Keeps s (k v s).state) : Keeps s (load n len a x s k).state := by
  unfold load
  dsimp only
  split
  · exact Keeps.refl s
  · split
    · exact Keeps.refl s
    · split
      · exact hk _ s
      · split
        · exact Keeps.trans (keeps_of_eq rfl rfl) (hk _ { s with drawn := s.drawn + 1 })
        · exact Keeps.refl s
      · exact hk _ s
      · exact hk _ s
      · split
        · exact hk _ s
        · exact Keeps.refl s
      · split
        · exact hk _ s
        · exact Keeps.refl s
      · exact hk _ s
      · split
        · exact regLoad_keeps n a s hk
        · split
          · exact regLoad_keeps n a s fun lo s => regLoad_keeps n _ s fun hi s => hk _ s
          · exact busFault_keeps s
      · exact Keeps.refl s

theorem regStore_keeps (n : Nat) (sup : Bool) (a v : Word) (s : State) {k : State → HRes}
    (hk : ∀ s, Keeps s (k s).state) : Keeps s (regStore n sup a v s k).state := by
  unfold regStore
  dsimp only
  split
  · exact busWrite_keeps _ _ _ _ s
  · exact (busWrite_keeps _ _ _ _ s).trans (hk _)

theorem store_keeps (n len : Nat) (a : Word) (v : Nat) (x : HartCtx) (s : State) {k : State → HRes}
    (hk : ∀ s, Keeps s (k s).state) : Keeps s (store n len a v x s k).state := by
  unfold store
  dsimp only
  split
  · exact Keeps.refl s
  · split
    · exact Keeps.refl s
    · split
      · exact Keeps.refl s
      · exact Keeps.refl s
      · split
        · exact (s.setBytes_keeps _ _).trans (hk _)
        · exact Keeps.refl s
      · split
        · exact Keeps.refl s
        · exact ((s.setBytes_keeps _ _).trans (dropReservations_keeps _ _ _ _)).trans (hk _)
      · split
        · exact (s.setBytes_keeps _ _).trans (hk _)
        · exact Keeps.refl s
      · exact Keeps.refl s
      · split
        · exact Keeps.refl s
        · exact (State.setHart_keeps _ _ _).trans (hk _)
      · split
        · exact regStore_keeps _ _ _ _ s hk
        · split
          · exact regStore_keeps _ _ _ _ s fun s => regStore_keeps _ _ _ _ s hk
          · split
            · exact foreignStore_keeps s
            · exact busFault_keeps s
      · exact Keeps.refl s

theorem exclusive_keeps (write : Bool) (a : Word) (s : State) {k : State → HRes} (hk : ∀ s, Keeps s (k s).state) :
    Keeps s (exclusive write a s k).state := by
  unfold exclusive
  split
  · exact Keeps.refl s
  · split
    · split <;> exact Keeps.refl s
    · exact hk s

theorem counterRead_keeps (n low : Nat) (v : BitVec 64) (high : Bool) (s : State) :
    Keeps s (counterRead n low v high s).2 := by
  unfold counterRead
  split
  · exact keeps_of_eq rfl rfl
  · split
    · split
      · exact keeps_of_eq rfl rfl
      · exact Keeps.refl s
    · exact Keeps.refl s

theorem cwWrite_keeps (n i : Nat) (v : Word) (s : State) : Keeps s (cwWrite n i v s) := by
  unfold cwWrite
  split
  · exact State.setHart_keeps _ _ _
  · exact State.setHart_keeps _ _ _
  · exact State.setHart_keeps _ _ _
  · exact Keeps.ite (State.setHart_keeps _ _ _) (Keeps.refl s)

theorem cwRead_keeps {n i : Nat} {s : State} {r : Word × State} (h : cwRead n i s = some r) : Keeps s r.2 := by
  unfold cwRead at h
  split at h
  · cases h
    exact Keeps.refl s
  · cases h
    exact Keeps.refl s
  · cases h
    exact Keeps.refl s
  · cases h
    exact counterRead_keeps _ _ _ _ s
  · cases h
    exact counterRead_keeps _ _ _ _ s
  · cases h
    exact counterRead_keeps _ _ _ _ s
  · cases h
    exact counterRead_keeps _ _ _ _ s
  · cases h
    exact Keeps.refl s
  · split at h
    · cases h
      exact Keeps.refl s
    · cases h

theorem control_keeps (n : Nat) (rd : RegNum) (i : Nat) (w : Option Word) (x : HartCtx) (s : State) :
    Keeps s (control n rd i w x s).state := by
  unfold control
  split
  · exact Keeps.refl s
  · split
    · exact Keeps.refl s
    · next h =>
      refine Keeps.trans (cwRead_keeps h) ?_
      cases w with
      | none => exact setG_keeps _ _ _ _
      | some new => exact (cwWrite_keeps _ _ _ _).trans (setG_keeps _ _ _ _)

theorem endWait_keeps (n : Nat) (s : State) : Keeps s (endWait n s) := by
  unfold endWait
  exact keeps_of_without (A := besideMemory) (by simp (disch := decide) only [State.withHart_writes,
    State.without_ite, ite_self])

theorem waitEnd_keeps (n : Nat) (s : State) : Keeps s (waitEnd n s) := Keeps.ite (endWait_keeps n s) (Keeps.refl s)

theorem interrupt_keeps (n : Nat) (s : State) : Keeps s (interrupt n s) := by
  unfold interrupt
  refine Keeps.ite (Keeps.refl s) ?_
  split
  · exact (endWait_keeps n s).trans (takeTrap_keeps _ _ _ _ _)
  · exact Keeps.refl s

end Sys2Proof.Machine

namespace Sys2Proof.Machine

set_option Elab.async false

/-- An illegal instruction changes nothing itself; a legal one goes on. -/
theorem orIllegal_keeps {c : Prop} [Decidable c] {x : HartCtx} {s : State} {r : HRes} (hr : Keeps s r.state) :
    Keeps s (if c then illegal x s else r).state := by
  split
  · exact Keeps.refl s
  · exact hr

theorem service_keeps (n entry : Nat) {body : HartCtx → State → Int × State} (hb : ∀ x s, Keeps s (body x s).2)
    (s : State) : Keeps s (service n entry body s) := by
  unfold service
  refine Keeps.ite ((hb (s.hart n) s).trans ?_) (Keeps.refl s)
  exact keeps_of_without (A := besideMemory) (by simp (disch := decide) only [serviceReturn_writes])

/-- What the four lists together say a command may write by its own effect. -/
def ownWrites (c : Instr) : Option Part :=
  (coreWrites c).or ((driveWrites c).or ((meterWrites c).or (linkWrites c)))

theorem ownWrites_frame {c : Instr} {A : Part} (h : ownWrites c = some A) (s : State) :
    Effect c s fun u => u.without A = s.without A := by
  simp only [ownWrites, Option.or_eq_some_iff] at h
  rcases h with h | ⟨_, h | ⟨_, h | ⟨_, h⟩⟩⟩
  · exact coreWrites_frame h s
  · exact driveWrites_frame h s
  · exact meterWrites_frame h s
  · exact linkWrites_frame h s

/-- A command that a list names without memory and the queue keeps both. -/
theorem effect_keeps_of_listed {c : Instr} {s : State} {A : Part} (h : ownWrites c = some A)
    (hm : A.mem = false := by rfl) (hp : A.pending = false := by rfl) : Effect c s (Keeps s) := by
  obtain ⟨u, hu, hw⟩ := ownWrites_frame h s
  exact ⟨u, hu, keeps_of_without hw hm hp⟩

/-- Every command's own effect keeps the queue and the canonical form of memory. -/
theorem effect_keeps (c : Instr) (s : State) : Effect c s (Keeps s) := by
  cases c
  case registerWrite => exact ⟨_, rfl, initiatorWrite_keeps _ _ _ s⟩
  case writeLowWord | writeHighWord | eventClear =>
    exact ⟨_, rfl, Keeps.ite (initiatorWrite_keeps _ _ _ s) (Keeps.refl s)⟩
  case qspiWrite => exact ⟨_, rfl, qspiWrite_keeps _ _ s⟩
  case referenceLost | pllLockLost => exact ⟨_, rfl, referenceLost_keeps _ s⟩
  case vinBrownOut => exact ⟨_, rfl, vinBrownOut_keeps _ s⟩
  case vinAboveStart => exact ⟨_, rfl, vinAboveStart_keeps _ _ _ s⟩
  case saveStepComplete => exact ⟨_, rfl, saveStepComplete_keeps s⟩
  case saveEndRelease => exact ⟨_, rfl, saveEndRelease_keeps s⟩
  case powerTransitionComplete => exact ⟨_, rfl, transitionComplete_keeps s⟩
  case furlArm | furlDisarm => exact ⟨_, rfl, furlArm_keeps _ s⟩
  case stowHandlerStart => exact ⟨_, rfl, stowHandler_keeps s⟩
  case stowImageReady => exact ⟨_, rfl, stowImage_keeps s⟩
  case pinWarmReset => exact ⟨_, rfl, pinWarm_keeps s⟩
  case pinColdReset => exact ⟨_, rfl, pinCold_keeps s⟩
  case softwareWarmReset => exact ⟨_, rfl, warmCause_keeps _ s⟩
  case coldResetAssert => exact ⟨_, rfl, coldAssert_keeps _ _ _ s⟩
  case watchdogKick => exact ⟨_, rfl, watchdogKey_keeps _ s⟩
  case watchdogBadKey => exact ⟨_, rfl, Keeps.ite (Keeps.refl s) (watchdogKey_keeps _ s)⟩
  case watchdogExpiry => exact ⟨_, rfl, watchdogExpiry_keeps s⟩
  case spliceReset => exact ⟨_, rfl, spliceReset_keeps s⟩
  case hpStowCheck => exact ⟨_, rfl, (hpStowCheck_keeps _ _ s).trans (furlCheck_keeps _)⟩
  case hpRemoved => exact ⟨_, rfl, hpRemoved_keeps s⟩
  case add | sub | and | or | xor | sll | srl | sra | slt | sltu | min | max | minu | maxu | adds | subs | mul |
      mulh | mulhu | div | divu | rem | remu | clz | popc | addi | slti | sltiu | andi | ori | xori | lui | addpc =>
    refine ⟨_, rfl, instr_keeps _ (fun _ s => ?_) s⟩
    exact setG_keeps _ _ _ s
  case addd | subd | slld | srld | srad | mulw | mulwu | macw | sextd =>
    refine ⟨_, rfl, instr_keeps _ (fun _ s => ?_) s⟩
    exact orIllegal_keeps (setGPair_keeps _ _ _ s)
  case sltd | sltdu | slli | srli | srai =>
    refine ⟨_, rfl, instr_keeps _ (fun _ s => ?_) s⟩
    exact orIllegal_keeps (setG_keeps _ _ _ s)
  case lb | lbu | lh | lhu | lw =>
    refine ⟨_, rfl, instr_keeps _ (fun x s => ?_) s⟩
    exact load_keeps _ _ _ x s fun _ s => setG_keeps _ _ _ s
  case ld =>
    refine ⟨_, rfl, instr_keeps _ (fun x s => ?_) s⟩
    exact orIllegal_keeps
      (load_keeps _ _ _ x s fun _ s => setGPair_keeps _ _ _ s)
  case sb | sh | sw =>
    refine ⟨_, rfl, instr_keeps _ (fun x s => ?_) s⟩
    exact store_keeps _ _ _ _ x s fun s => Keeps.refl s
  case sd =>
    refine ⟨_, rfl, instr_keeps _ (fun x s => ?_) s⟩
    exact orIllegal_keeps
      (store_keeps _ _ _ _ x s fun s => Keeps.refl s)
  case beq | bne | blt | bge | bltu | bgeu =>
    refine ⟨_, rfl, instr_keeps _ (fun _ s => ?_) s⟩
    exact Keeps.ite (setPc_keeps _ _ s) (Keeps.refl s)
  case call | callr =>
    refine ⟨_, rfl, instr_keeps _ (fun _ s => ?_) s⟩
    exact (setG_keeps _ _ _ s).trans (setPc_keeps _ _ _)
  case lwx =>
    refine ⟨_, rfl, instr_keeps _ (fun x s => ?_) s⟩
    exact exclusive_keeps _ _ s fun s => load_keeps _ _ _ x s fun _ s =>
      (State.setHart_keeps s _ _).trans (setG_keeps _ _ _ _)
  case swx =>
    refine ⟨_, rfl, instr_keeps _ (fun x s => ?_) s⟩
    refine exclusive_keeps _ _ s fun s => ?_
    dsimp only
    split
    · exact (State.setHart_keeps s _ _).trans (store_keeps _ _ _ _ x _ fun s => setG_keeps _ _ _ s)
    · exact (State.setHart_keeps s _ _).trans (setG_keeps _ _ _ _)
  case swap =>
    refine ⟨_, rfl, instr_keeps _ (fun x s => ?_) s⟩
    exact exclusive_keeps _ _ s fun s => load_keeps _ _ _ x s fun _ s =>
      store_keeps _ _ _ _ x s fun s => setG_keeps _ _ _ s
  case rdcw =>
    refine ⟨_, rfl, instr_keeps _ (fun x s => ?_) s⟩
    exact orIllegal_keeps (control_keeps _ _ _ _ x s)
  case wrcw => exact ⟨_, rfl, instr_keeps _ (fun x s => control_keeps _ _ _ _ x s) s⟩
  case svreq | brkpt | drain | icinv =>
    refine ⟨_, rfl, instr_keeps _ (fun _ s => ?_) s⟩
    exact Keeps.refl s
  case resume =>
    refine ⟨_, rfl, instr_keeps _ (fun x s => ?_) s⟩
    unfold resumeHart
    split
    · exact Keeps.refl s
    · simp only [HRes.state]
      exact State.setHart_keeps s _ _
  case waitev | waitt =>
    refine ⟨_, rfl, instr_keeps _ (fun _ s => ?_) s⟩
    exact Keeps.ite (Keeps.refl s) (State.setHart_keeps s _ _)
  case interrupt => exact ⟨_, rfl, interrupt_keeps _ s⟩
  case alarmDue => exact ⟨_, rfl, Keeps.ite (waitEnd_keeps _ s) (Keeps.refl s)⟩
  case waitEnd => exact ⟨_, rfl, waitEnd_keeps _ s⟩
  case commitPoint => exact ⟨_, rfl, commitPoint_keeps s⟩
  case bootStepEnd => exact ⟨_, rfl, bootStepEnd_keeps _ s⟩
  case imgPlace => exact ⟨_, rfl, service_keeps _ _ imgPlace_keeps s⟩
  case v2gtpFrame => exact ⟨_, rfl, v2gFrame_keeps _ _ s⟩
  case receiveRelease => exact ⟨_, rfl, Keeps.ite (receiveRelease_keeps _ s) (Keeps.refl s)⟩
  case powerDeliveryReq => exact ⟨_, rfl, powerDelivery_keeps _ _ _ s⟩
  case standbyTakeover => exact ⟨_, rfl, standbyTakeover_keeps _ s⟩
  case signatureComplete => exact ⟨_, rfl, signComplete_keeps s⟩
  case jobHash => exact ⟨_, rfl, runJob_keeps _ jobHash_keeps s⟩
  case jobHmac => exact ⟨_, rfl, runJob_keeps _ jobHmac_keeps s⟩
  case jobHkdfExtract => exact ⟨_, rfl, runJob_keeps _ jobHkdfExtract_keeps s⟩
  case jobHkdfExpand => exact ⟨_, rfl, runJob_keeps _ jobHkdfExpand_keeps s⟩
  case jobAesGcmEncrypt | jobAesGcmDecrypt => exact ⟨_, rfl, runJob_keeps _ (jobAesGcm_keeps _) s⟩
  case jobEcdheDerive => exact ⟨_, rfl, runJob_keeps _ jobEcdheDerive_keeps s⟩
  case jobPublicKeyRead => exact ⟨_, rfl, runJob_keeps _ jobPublicKey_keeps s⟩
  case jobEcdheKeygen => exact ⟨_, rfl, runJob_keeps _ jobEcdheKeygen_keeps s⟩
  case jobSign => exact ⟨_, rfl, runJob_keeps _ jobSign_keeps s⟩
  case jobRandom => exact ⟨_, rfl, runJob_keeps _ jobRandom_keeps s⟩
  case jobTlsKeygen => exact ⟨_, rfl, runJob_keeps _ jobTlsKeygen_keeps s⟩
  case jobDone => exact ⟨_, rfl, jobDone_keeps s⟩
  case shroudCycle => exact ⟨_, rfl, shroudCycle_keeps s⟩
  case splFrame => exact ⟨_, rfl, spliceFrame_keeps _ s⟩
  case hostAttest => exact ⟨_, rfl, opAttest_keeps _ s⟩
  case messageOperation => exact ⟨_, rfl, messageDeliver_keeps _ s⟩
  case storageStep => exact ⟨_, rfl, storageStep_keeps s⟩
  case ethStopComplete => exact ⟨_, rfl, ethStop_keeps _ s⟩
  case ethTxComplete => exact ⟨_, rfl, ethTxComplete_keeps _ _ s⟩
  case ethFrameReceived => exact ⟨_, rfl, ethReceive_keeps _ _ _ s⟩
  all_goals exact effect_keeps_of_listed rfl

end Sys2Proof.Machine

namespace Sys2Proof.Machine

set_option Elab.async false

/-! ### What settling and a clock establish -/

/-- What the clamps of the sheets, the steps of settling after them, and a clock may write. -/
def clampPart : Part where
  regs := regsIn [R.ALC_PAPPLIED, R.ALC_PSTAT, R.ALC_STAT, R.EVT_LINESTAT, R.EVT_PEND, R.PRT_ISHEET, R.SYS_PWRCTL,
    R.SYS_PWRSTAT, R.SYS_WAKESRC, R.TIM_RTCS, R.TIM_RTCSUB]
  tick := true
  sys := true
  harts := true
  time := true
  host := true

/-- What the wake after the active lines are shown may write. -/
def wakePart : Part where
  regs := regsIn [R.SYS_PWRCTL, R.SYS_PWRSTAT, R.SYS_WAKESRC]
  sys := true

/-- What the steps of settling after the clamps may write. -/
def showPart : Part where
  regs := regsIn [R.EVT_LINESTAT, R.SYS_PWRCTL, R.SYS_PWRSTAT, R.SYS_WAKESRC]
  sys := true
  host := true

/-- What a clock without a command may write. -/
def clockPart : Part where
  regs := regsIn [R.TIM_RTCS, R.TIM_RTCSUB]
  tick := true
  harts := true
  time := true

theorem regsIn_mono {l m : List Rg} (h : l ⊆ m) {a : Nat} (ha : regsIn l a = true) : regsIn m a = true := by
  simp only [regsIn, List.any_eq_true] at ha ⊢
  obtain ⟨r, hr, he⟩ := ha
  exact ⟨r, h hr, he⟩

theorem clockPart_within : clockPart.within clampPart := by
  refine ⟨fun _ h => regsIn_mono (by simp) h, ?_⟩
  simp [clockPart, clampPart]

theorem showPart_within : showPart.within clampPart := by
  refine ⟨fun _ h => regsIn_mono (by simp) h, ?_⟩
  simp [showPart, clampPart]

theorem wakePart_within : wakePart.within showPart := by
  refine ⟨fun _ h => regsIn_mono (by simp) h, ?_⟩
  simp [wakePart, showPart]

theorem clampPort_writes (p : Nat) (s : State) : (clampPort p s).without clampPart = s.without clampPart := by
  unfold clampPort
  simp (disch := decide) only [setSheet_writes, State.without_causeOn, State.without_setF, State.without_ite,
    ite_self]

/-! ### The local clamp -/

theorem State.cellLimit_of_cln {s t : State} (h : t.cln = s.cln) (c : Nat) : t.cellLimit c = s.cellLimit c := by
  simp only [State.cellLimit, State.capIfs, State.capNat, h]

/-- A field outside a part, for every member at once. -/
theorem State.f_eq_of_without {A : Part} {s t : State} (h : t.without A = s.without A) (fl : Fld)
    (hA : (!A.regs fl.reg.addr && decide (fl.reg.count ≤ 65536)) = true) : @State.f t fl = @State.f s fl :=
  funext fun i => State.f_of_without h i hA

/-- The local clamp of a port rests on none of what the clamps write. -/
theorem State.localClamp_of_without {s t : State} (h : t.without clampPart = s.without clampPart) (p : Nat) :
    t.localClamp p = s.localClamp p := by
  have hf := State.f_eq_of_without h
  have hr := fun (r : Rg) => State.reg_of_without h (r := r) 0
  have hreef : t.effReef p = s.effReef p := by
    simp only [State.effReef, hf Fl.PRT_GSTAT_REEFREQ (by decide), hf Fl.ALC_PCFG_FORCE (by decide),
      hf Fl.THM_PSTAT_TREEF (by decide), hf Fl.SFY_PSTAT_SREEF (by decide)]
  have hcap : t.reefCap p = s.reefCap p := by
    funext r
    rw [State.reefCap, State.reefCap, State.reefFraction, State.reefFraction, hf Fl.ALC_PRATED_RATED (by decide),
      hr R.ALC_REEFFRAC0 (by decide), hr R.ALC_REEFFRAC1 (by decide)]
  have hcells : t.groupCells p = s.groupCells p := by
    rw [State.groupCells, State.groupCells, State.members, State.members, hf Fl.PRT_CELL_GROUP (by decide),
      hf Fl.PRT_CELL_RM (by decide), funext (State.cellLimit_of_cln (State.cln_of_without h rfl))]
  rw [State.localClamp, State.localClamp, hreef, hcap, hcells, hf Fl.THM_CABLE_CABLE (by decide)]

/-- A port's sheet is 0 or at most its local clamp. -/
def Clamped (s : State) (p : Nat) : Prop :=
  s.f Fl.PRT_ISHEET_SHEET p = 0 ∨ s.f Fl.PRT_ISHEET_SHEET p ≤ s.localClamp p

theorem Clamped.of_without {s t : State} (h : t.without clampPart = s.without clampPart) {p : Nat}
    (hf : t.f Fl.PRT_ISHEET_SHEET p = s.f Fl.PRT_ISHEET_SHEET p) (hs : Clamped s p) : Clamped t p := by
  rw [Clamped, hf, State.localClamp_of_without h]
  exact hs

theorem sheetsClamped_of_show {s t : State} (h : t.without showPart = s.without showPart) (hs : SheetsClamped s) :
    SheetsClamped t := fun p hp =>
  Clamped.of_without (State.without_within showPart_within h) (State.f_of_without h p (by decide)) (hs p hp)

theorem sheetsClamped_of_clock {s t : State} (h : t.without clockPart = s.without clockPart) (hs : SheetsClamped s) :
    SheetsClamped t := fun p hp =>
  Clamped.of_without (State.without_within clockPart_within h) (State.f_of_without h p (by decide)) (hs p hp)

/-- The effective reef of a port is shown, with cause 0 where it changed (R262). -/
def showReef (p : Nat) (s : State) : State :=
  if s.f Fl.ALC_PSTAT_REEF p = s.effReef p then s
  else (s.setF Fl.ALC_PSTAT_REEF p (s.effReef p)).causeOn Fl.ALC_STAT_CAUSE Fl.ALC_CTL_EVEN 0 5 61

/-- The sheet of a port comes down to the local clamp where it is above it (R264). -/
def lowerSheet (p : Nat) (s : State) : State :=
  if s.f Fl.PRT_ISHEET_SHEET p = 0 then s
  else if s.localClamp p < s.f Fl.PRT_ISHEET_SHEET p then setSheet p (s.localClamp p) s else s

theorem clampPort_eq (p : Nat) (s : State) : clampPort p s = lowerSheet p (showReef p s) := rfl

theorem showReef_sheet (p q : Nat) (s : State) : (showReef p s).f Fl.PRT_ISHEET_SHEET q = s.f Fl.PRT_ISHEET_SHEET q
  := by
  refine State.f_of_without (A := { regs := regsIn [R.ALC_PSTAT, R.ALC_STAT, R.EVT_PEND] }) ?_ q (by decide)
  unfold showReef
  simp (disch := decide) only [State.without_causeOn, State.without_setF, State.without_ite, ite_self]

theorem lowerSheet_apart {p q : Nat} (h : portGroup p ≠ q) (s : State) :
    (lowerSheet p s).f Fl.PRT_ISHEET_SHEET q = s.f Fl.PRT_ISHEET_SHEET q := by
  unfold lowerSheet
  split
  · rfl
  · split
    · rw [setSheet, State.f_setF_apart _ _ _ _ _ _ (by decide), State.f_setF_member _ _ _ _ _ h]
    · rfl

theorem lowerSheet_writes (p : Nat) (s : State) : (lowerSheet p s).without clampPart = s.without clampPart := by
  unfold lowerSheet
  simp (disch := decide) only [setSheet_writes, State.without_ite, ite_self]

theorem lowerSheet_clamps {p : Nat} (hp : p < 24) (s : State) : Clamped (lowerSheet p s) p := by
  have hg : portGroup p = p := by simp [portGroup, hp]
  have hw := State.localClamp_of_without (lowerSheet_writes p s) p
  rw [Clamped, hw]
  unfold lowerSheet
  split
  · exact .inl ‹_›
  · split
    case _ hlt =>
      have hb : s.localClamp p < 2 ^ Fl.PRT_ISHEET_SHEET.width := lt_trans hlt (s.f_lt _ _)
      have hc : p < Fl.PRT_ISHEET_SHEET.reg.count := lt_of_lt_of_le hp (by decide)
      rw [setSheet, State.f_setF_apart _ _ _ _ _ _ (by decide), hg, State.f_setF_same _ _ _ _ hc (by decide),
        Nat.mod_eq_of_lt hb]
      exact .inr le_rfl
    case _ hle => exact .inr (not_lt.mp hle)

theorem clampPort_clamps {p : Nat} (hp : p < 24) (s : State) : Clamped (clampPort p s) p := lowerSheet_clamps hp _

theorem clampPort_kept {p q : Nat} (hp : p < 24) (h : p ≠ q) {s : State} (hs : Clamped s q) : Clamped (clampPort p
  s) q := by
  have hg : portGroup p ≠ q := by simpa [portGroup, hp] using h
  refine Clamped.of_without (clampPort_writes p s) ?_ hs
  rw [clampPort_eq, lowerSheet_apart hg, showReef_sheet]

theorem State.each_succ (s : State) (n : Nat) (f : Nat → State → State) : s.each (n + 1) f = f n (s.each n f) := by
  simp [State.each, List.range_succ]

/-- After the clamps of the first `n` ports each of them holds its sheet at or below its clamp. -/
theorem each_clampPort {n : Nat} (hn : n ≤ 24) (s : State) : ∀ p, p < n → Clamped (s.each n clampPort) p := by
  induction n with
  | zero => intro p hp; omega
  | succ n ih =>
    intro p hp
    rw [State.each_succ]
    by_cases h : n = p
    · subst h
      exact clampPort_clamps (by omega) _
    · exact clampPort_kept (by omega) h (ih (by omega) p (by omega))

/-! ### The active lines -/

theorem State.activeLines_of_without {A : Part} {s t : State} (h : t.without A = s.without A)
    (hA : ∀ r ∈ [R.EVT_PEND, R.EVT_ROUTE, R.EVT_LINEEN], A.regs r.addr = false) :
    t.activeLines = s.activeLines ∧ t.activeHartLines = s.activeHartLines := by
  have hf : ∀ fl : Fld, fl.reg ∈ [R.EVT_PEND, R.EVT_ROUTE, R.EVT_LINEEN] → fl.reg.count ≤ 65536 →
      @State.f t fl = @State.f s fl := fun fl hm hc => State.f_eq_of_without h fl (by simp [hA _ hm, hc])
  have hs : t.pendingSources = s.pendingSources := by
    rw [State.pendingSources, State.pendingSources, hf Fl.EVT_PEND_PEND (by decide) (by decide)]
  constructor
  · rw [State.activeLines, State.activeLines, State.lineRequests, State.lineRequests, hs]
    have hb : @State.b t Fl.EVT_ROUTE_HEN = @State.b s Fl.EVT_ROUTE_HEN :=
      funext fun i => by rw [State.b, State.b, hf Fl.EVT_ROUTE_HEN (by decide) (by decide)]
    rw [hb, hf Fl.EVT_ROUTE_LINE (by decide) (by decide),
      hf Fl.EVT_LINEEN_EN (by decide) (by decide)]
  · rw [State.activeHartLines, State.activeHartLines, hs, hf Fl.EVT_ROUTE_WAKE (by decide) (by decide)]

/-- The steps of settling after the clamps: the vectors of newly active lines, the lines, and the wake they cause. -/
def showLines (s : State) : State :=
  let t := ((s.sendMsi (s.activeLines &&& (0xFF ^^^ s.f Fl.EVT_LINESTAT_LINE))).setF Fl.EVT_LINESTAT_LINE 0
    s.activeLines).setF Fl.EVT_LINESTAT_HART 0 s.activeHartLines
  t.when (s.activeHartLines != 0) (fun s => s.wake 0)

theorem settle_eq (s : State) : s.settle = showLines ((pollSessions (takeStops s)).each 24 clampPort) := rfl

theorem showLines_writes (s : State) : (showLines s).without showPart = s.without showPart := by
  unfold showLines
  simp (disch := decide) only [State.without_setF, State.without_when_if, ite_self,
    State.sendMsi_writes, State.wake_writes]

theorem foldl_or_lt {α : Type} {w : Nat} (f : α → Nat) (hf : ∀ x, f x < 2 ^ w) (l : List α) {m : Nat}
    (hm : m < 2 ^ w) : l.foldl (fun m x => m ||| f x) m < 2 ^ w := by
  induction l generalizing m with
  | nil => exact hm
  | cons x l ih => exact ih (Nat.or_lt_two_pow hm (hf x))

theorem State.activeLines_lt (s : State) : s.activeLines < 2 ^ 8 :=
  lt_of_le_of_lt Nat.and_le_right (s.f_lt Fl.EVT_LINEEN_EN 0)

theorem State.activeHartLines_lt (s : State) : s.activeHartLines < 2 ^ 4 :=
  foldl_or_lt _ (fun i => s.f_lt Fl.EVT_ROUTE_WAKE i) _ (by decide)

/-- Whatever the state was, settling shows the active lines (R596, R597, R602). -/
theorem linesShown_settle (s : State) : LinesShown s.settle := by
  rw [settle_eq]
  generalize (pollSessions (takeStops s)).each 24 clampPort = u
  obtain ⟨hl, hh⟩ := State.activeLines_of_without (showLines_writes u) (by decide)
  rw [LinesShown, hl, hh]
  have hw : ∀ v : State, (v.when (u.activeHartLines != 0) (fun s => s.wake 0)).without wakePart = v.without wakePart
    := by
    intro v
    simp (disch := decide) only [State.without_when_if, State.wake_writes, ite_self]
  constructor
  · rw [showLines, State.f_of_without (hw _) 0 (by decide), State.f_setF_apart _ _ _ _ _ _ (by decide),
      State.f_setF_same _ _ _ _ (by decide) (by decide)]
    exact Nat.mod_eq_of_lt u.activeLines_lt
  · rw [showLines, State.f_of_without (hw _) 0 (by decide), State.f_setF_same _ _ _ _ (by decide) (by decide)]
    exact Nat.mod_eq_of_lt u.activeHartLines_lt

/-- Whatever the state was, settling holds every own sheet at or below its local clamp (R264). -/
theorem sheetsClamped_settle (s : State) : SheetsClamped s.settle := by
  rw [settle_eq]
  exact sheetsClamped_of_show (showLines_writes _) fun p hp => each_clampPort le_rfl _ p hp

theorem settle_keeps (s : State) : Keeps s s.settle := keeps_of_without (State.settle_settled s)

/-! ### A clock without a command -/

theorem timeTick_writes (s : State) : (timeTick s).without clockPart = s.without clockPart := by
  unfold timeTick
  simp (disch := decide) only [State.without_ite, State.without_upd_time, ite_self]

theorem rtcTick_writes (s : State) : (rtcTick s).without clockPart = s.without clockPart := by
  unfold rtcTick
  simp (disch := decide) only [State.without_ite, State.without_upd_time, State.addF, State.without_when_if,
    State.without_setF, ite_self]

theorem hartTick_writes (s : State) : (hartTick s).without clockPart = s.without clockPart := by
  unfold hartTick
  simp (disch := decide) only [State.without_ite, State.without_upd_harts, ite_self]

theorem clockTick_writes (s : State) : (clockTick s).without clockPart = s.without clockPart := by
  rw [clockTick, hartTick_writes, rtcTick_writes, timeTick_writes]
  rfl

theorem linesShown_of_clock {s t : State} (h : t.without clockPart = s.without clockPart) (hs : LinesShown s) :
    LinesShown t := by
  obtain ⟨hl, hh⟩ := State.activeLines_of_without h (by decide)
  rw [LinesShown, hl, hh, State.f_of_without h 0 (by decide), State.f_of_without h 0 (by decide)]
  exact hs

/-! ### The step -/

/-- Every command answers a settled state that keeps the queue and the canonical form of memory. -/
theorem exec_keeps (c : Instr) (s : State) : ∃ t,
  exec c s = .next t ∧ Keeps s t ∧ LinesShown t ∧ SheetsClamped t := by
  obtain ⟨u, hu, hk⟩ := effect_keeps c s
  exact ⟨_, hu, hk.trans (settle_keeps u), linesShown_settle u, sheetsClamped_settle u⟩

theorem step_nil {s : State} (h : s.pending = []) : step s = .next (clockTick s) := by
  rw [step, h]

theorem step_cons {s : State} {c : Instr} {l : List Instr} (h : s.pending = c :: l) :
    step s = exec c { s with pending := l } := by
  rw [step, h]

end Sys2Proof.Machine

namespace Sys2Proof
open Sys2Proof.Machine

set_option Elab.async false

/-- Settles O58: every command answers a settled state, and a clock alone writes nothing the two conditions read. -/
theorem everyStepKeeps : Obligations.EveryStepKeeps := by
  intro s
  match hp : s.pending with
  | [] =>
    have hw := clockTick_writes s
    refine ⟨_, step_nil hp, ?_, fun h => absurd rfl h, linesShown_of_clock hw, sheetsClamped_of_clock hw⟩
    rw [State.pending_of_without hw rfl, hp, List.tail_nil]
  | c :: l =>
    obtain ⟨t, ht, hk, hl, hs⟩ := exec_keeps c { s with pending := l }
    exact ⟨t, (step_cons hp).trans ht, hk.1, fun _ => ⟨hl, hs⟩, fun _ => hl, fun _ => hs⟩

/-- Settles O59: no command's own effect, no settling and no clock breaks the canonical form. -/
theorem memoryStaysCanonical : Obligations.MemoryStaysCanonical := by
  intro s t hs ht
  match hp : s.pending with
  | [] =>
    cases (step_nil hp).symm.trans ht
    rwa [State.memWf, State.mem_of_without (clockTick_writes s) rfl]
  | c :: l =>
    obtain ⟨u, hu, hk, -⟩ := exec_keeps c { s with pending := l }
    cases hu.symm.trans ((step_cons hp).symm.trans ht)
    exact hk.2 hs

theorem reset_reg (r : Rg) {i : Nat} (h : i < r.count) : State.reset.reg r i = r.resetAt i := by
  simp [State.reg, h, State.reset, cellsGet, cellsFind]

/-- Settles O60: the reset state lists no register, no byte and no command. -/
theorem atReset : Obligations.AtReset := by
  refine ⟨fun r i h => reset_reg r h, ?_, ?_, ?_, ?_, rfl, rfl, fun a => rfl⟩
  · decide
  · decide
  · unfold LinesShown
    decide +kernel
  · unfold SheetsClamped
    decide +kernel

end Sys2Proof

/-! ## Policy harts: the register instructions (R64 to R68) -/

namespace Sys2Proof.Machine

set_option Elab.async false

/-! ### The functions of the operate instructions -/

theorem sltW_eq (p q : Word) : sltW p q = if p.toInt < q.toInt then 1 else 0 := by
  simp [sltW, flagWord, BitVec.slt]

theorem sltuW_eq (p q : Word) : sltuW p q = if p.toNat < q.toNat then 1 else 0 := by
  simp [sltuW, flagWord, BitVec.ult]

theorem minW_eq (p q : Word) : minW p q = if p.toInt ≤ q.toInt then p else q := by
  simp only [minW, BitVec.slt, decide_eq_true_eq, ← not_lt, ite_not]

theorem minuW_eq (p q : Word) : minuW p q = if p.toNat ≤ q.toNat then p else q := by
  simp only [minuW, BitVec.ult, decide_eq_true_eq, ← not_lt, ite_not]

/-- Of two equal words either is the greater one. -/
theorem maxW_eq (p q : Word) : maxW p q = if p.toInt ≤ q.toInt then q else p := by
  simp only [maxW, BitVec.slt, decide_eq_true_eq]
  rcases lt_trichotomy p.toInt q.toInt with h | h | h
  · rw [if_pos h, if_pos h.le]
  · rw [BitVec.eq_of_toInt_eq h, ite_self, ite_self]
  · rw [if_neg (by omega), if_neg (by omega)]

theorem maxuW_eq (p q : Word) : maxuW p q = if p.toNat ≤ q.toNat then q else p := by
  simp only [maxuW, BitVec.ult, decide_eq_true_eq]
  rcases lt_trichotomy p.toNat q.toNat with h | h | h
  · rw [if_pos h, if_pos h.le]
  · rw [BitVec.eq_of_toNat_eq h, ite_self, ite_self]
  · rw [if_neg (by omega), if_neg (by omega)]

theorem mulhW_eq (p q : Word) : mulhW p q = BitVec.ofInt 32 (p.toInt * q.toInt / 2 ^ 32) := by
  rw [mulhW, floorDiv, Int.fdiv_eq_ediv_of_nonneg _ (Int.natCast_nonneg _)]
  rfl

theorem clampW_eq (x : Int) : clampW x = BitVec.ofInt 32 (max (-2 ^ 31) (min (2 ^ 31 - 1) x)) := by
  rw [clampW, clampInt]
  congr 1

theorem addsW_eq (p q : Word) :
    addsW p q = BitVec.ofInt 32 (max (-2 ^ 31) (min (2 ^ 31 - 1) (p.toInt + q.toInt))) := clampW_eq _

theorem subsW_eq (p q : Word) :
    subsW p q = BitVec.ofInt 32 (max (-2 ^ 31) (min (2 ^ 31 - 1) (p.toInt - q.toInt))) := clampW_eq _

/-- The first one from the top stands at the place of the binary logarithm. -/
theorem find_topBit {p : Word} (h : p ≠ 0) :
    (List.range 32).find? (fun i => p.getLsbD (31 - i)) = some (31 - Nat.log2 p.toNat) := by
  have hp : p.toNat ≠ 0 := fun h0 => h (BitVec.eq_of_toNat_eq h0)
  have hk : Nat.log2 p.toNat < 32 := (Nat.log2_lt hp).mpr p.isLt
  rw [List.find?_range_eq_some]
  refine ⟨?_, List.mem_range.mpr (by omega), fun j hj => ?_⟩
  · rw [show 31 - (31 - Nat.log2 p.toNat) = Nat.log2 p.toNat by omega]
    exact Nat.testBit_log2 hp
  · have hlt : p.toNat < 2 ^ (31 - j) := (Nat.log2_lt hp).mp (by omega)
    simp [BitVec.getLsbD, Nat.testBit_lt_two_pow hlt]

theorem clzW_eq (p : Word) : clzW p = BitVec.ofNat 32 (32 - if p = 0 then 0 else Nat.log2 p.toNat + 1) := by
  by_cases h : p = 0
  · subst h
    decide
  · rw [clzW, find_topBit h, if_neg h, Option.getD_some]
    congr 1
    omega

theorem foldl_count {α : Type} (f : α → Bool) (l : List α) (n : Nat) :
    l.foldl (fun c i => if f i then c + 1 else c) n = n + l.countP f := by
  induction l generalizing n with
  | nil => rfl
  | cons x l ih => rw [List.foldl_cons, ih, List.countP_cons]; split <;> omega

theorem popcW_eq (p : Word) : popcW p = BitVec.ofNat 32 ((List.range 32).countP fun i => p.getLsbD i) := by
  rw [popcW, popCount, foldl_count, Nat.zero_add]
  rfl

/-! ### What each form of register instruction comes to -/

/-- An instruction that writes rd completes with the value it computes. -/
theorem completes_setG {c : Instr} {h : Hart} {s : State} {body : HartCtx → State → HRes} {rd : RegNum} {v : Word}
    (hx : Executes h s) (he : exec c s = done (instr h.val body s))
    (hb : ∀ u, body (s.hart h.val) u = .ok (setG h.val rd v u)) : Completes c h s (wrote (s.hart h.val) rd v) := by
  obtain ⟨hr, hw⟩ := State.hartRuns_run hx.1
  refine completes_of he hx (hb _) (HartCtx.setR_setPc _ _ _ _) ?_ ?_ ?_
  · simpa [wrote] using hr
  · simpa [wrote] using hw
  · simp [wrote]

/-- An instruction that writes the pair rd completes with the value it computes. -/
theorem completes_setGPair {c : Instr} {h : Hart} {s : State} {body : HartCtx → State → HRes} {rd : RegNum} {v :
  DWord}
    (hx : Executes h s) (he : exec c s = done (instr h.val body s))
    (hb : ∀ u, body (s.hart h.val) u = .ok (setGPair h.val rd v u)) :
    Completes c h s (wrotePair (s.hart h.val) rd v) := by
  obtain ⟨hr, hw⟩ := State.hartRuns_run hx.1
  refine completes_of he hx (hb _) (HartCtx.setPair_setPc _ _ _ _) ?_ ?_ ?_
  · simpa [wrotePair] using hr
  · simpa [wrotePair] using hw
  · simp [wrotePair]

theorem mulwD_eq (p q : Word) : mulwD p q = p.signExtend 64 * q.signExtend 64 := by
  apply BitVec.eq_of_toInt_eq
  rw [mulwD, BitVec.toInt_ofInt, BitVec.toInt_mul, BitVec.toInt_signExtend_of_le (by decide),
    BitVec.toInt_signExtend_of_le (by decide)]

theorem mulwuD_eq (p q : Word) : mulwuD p q = p.zeroExtend 64 * q.zeroExtend 64 := by
  apply BitVec.eq_of_toNat_eq
  simp [mulwuD, BitVec.toNat_mul, BitVec.toNat_setWidth]

theorem upper_eq (imm : BitVec 16) : upper imm = BitVec.ofNat 32 (imm.toNat * 65536) := by
  refine BitVec.eq_of_getLsbD_eq fun i hi => ?_
  rw [upper, sext, BitVec.getLsbD_shiftLeft, BitVec.getLsbD_ofNat, show 65536 = 2 ^ 16 from rfl,
    Nat.testBit_mul_two_pow, BitVec.getLsbD_signExtend, BitVec.getLsbD]
  by_cases h : i < 16
  · simp [h]
  · simp [hi, show i - 16 < 16 by omega, show i - 16 < 32 by omega, not_lt.mp h]

/-- A word offset, shifted left by two, is four times the offset. -/
theorem offset_eq {w : Nat} (off : BitVec w) : off.signExtend 32 <<< 2 = BitVec.ofInt 32 (off.toInt * 4) := by
  rw [BitVec.shiftLeft_eq_mul_twoPow, BitVec.ofInt_mul]
  rfl

/-- A branch continues at its target or at the next word. -/
theorem completes_branch {c : Instr} {h : Hart} {s : State} {f : Word → Word → Bool} {a b : RegNum} {off : BitVec 16}
    (p : Prop) [Decidable p] (hx : Executes h s) (he : exec c s = done (branch h f a b off s))
    (hp : f ((s.hart h.val).r a) ((s.hart h.val).r b) = true ↔ p) :
    Completes c h s { s.hart h.val with
      pc := if p then (s.hart h.val).pc + BitVec.ofInt 32 (off.toInt * 4) else (s.hart h.val).pc + 4 } := by
  obtain ⟨hr, hw⟩ := State.hartRuns_run hx.1
  by_cases hc : p
  · refine completes_of (g := fun x => { x with pc := (s.hart h.val).pc + sext off <<< 2 }) he hx ?_ ?_ hr hw rfl
    · simp only [hp.mpr hc, if_true, setPc]
    · rw [if_pos hc, sext, offset_eq]
  · have hb : ¬f ((s.hart h.val).r a) ((s.hart h.val).r b) = true := fun h => hc (hp.mp h)
    refine completes_of_state he hx (congrArg HRes.ok (if_neg hb)) ?_ hr hw rfl ?_ ?_
    · rw [setPc_hart, if_neg hc]
    · exact fun k hk => State.hart_setHart_ne _ _ hk
    · exact State.setHart_without_hart _ _ _

/-- A call writes the address of the next word to rd and continues at its target. -/
theorem completes_call {c : Instr} {h : Hart} {s : State} {rd : RegNum} {target : HartCtx → Word} (hx : Executes h s)
    (he : exec c s = done (instr h.val (fun x s => .ok (setPc h.val (target x) (setG h.val rd (x.pc + 4) s))) s)) :
    Completes c h s { (s.hart h.val).setR rd ((s.hart h.val).pc + 4) with pc := target (s.hart h.val) } := by
  obtain ⟨hr, hw⟩ := State.hartRuns_run hx.1
  refine completes_of_state he hx rfl ?_ (by simpa using hr) (by simpa using hw) (by simp) ?_ ?_
  · rw [setPc_hart, setG, State.hart_setHart_same, setPc_hart, HartCtx.setR_setPc]
  · intro k hk
    simp only [setPc, setG, State.hart_setHart_ne _ _ hk]
  · simp only [setPc, setG, State.setHart_without_hart]

end Sys2Proof.Machine

namespace Sys2Proof
open Sys2Proof.Machine

set_option Elab.async false

/-- Settles O10: each function of the model is R67's function. -/
theorem hartOperate : Obligations.HartOperate := by
  intro h rd a b s hx
  simp only [← sltW_eq, ← sltuW_eq, ← minW_eq, ← maxW_eq, ← minuW_eq, ← maxuW_eq, ← addsW_eq, ← subsW_eq, ← mulhW_eq,
    ← clzW_eq, ← popcW_eq]
  refine ⟨?_, ?_, ?_, ?_, ?_, ?_, ?_, ?_, ?_, ?_, ?_, ?_, ?_, ?_, ?_, ?_, ?_, ?_, ?_, ?_, ?_⟩
  all_goals exact completes_setG hx rfl fun _ => rfl

/-- Settles O12: with even registers each pair instruction is legal, and its function is R68's. -/
theorem hartPairs : Obligations.HartPairs := by
  intro h rd a b s hx
  simp only [← mulwD_eq, ← mulwuD_eq]
  refine ⟨fun hd ha hb => ?_, fun hd ha => ?_, fun ha hb => ?_, fun hd => ?_⟩
  · have hl : ¬(oddPair rd || oddPair a || oddPair b) = true := by simp only [oddPair, hd, ha, hb]; decide
    refine ⟨?_, ?_⟩
    all_goals exact completes_setGPair hx rfl fun _ => if_neg hl
  · have hl : ¬(oddPair rd || oddPair a) = true := by simp only [oddPair, hd, ha]; decide
    refine ⟨?_, ?_, ?_⟩
    all_goals exact completes_setGPair hx rfl fun _ => if_neg hl
  · have hl : ¬(oddPair a || oddPair b) = true := by simp only [oddPair, ha, hb]; decide
    constructor
    case left =>
      refine completes_setG hx rfl fun _ => (if_neg hl).trans ?_
      simp [flagWord, BitVec.slt, HartCtx.pair]
    case right =>
      refine completes_setG hx rfl fun _ => (if_neg hl).trans ?_
      simp [flagWord, BitVec.ult, HartCtx.pair]
  · have hl : ¬oddPair rd = true := by simp only [oddPair, hd]; decide
    refine ⟨?_, ?_, ?_, ?_⟩
    all_goals exact completes_setGPair hx rfl fun _ => if_neg hl

/-- Settles O13: only the logical immediates are zero-extended, and the shift counts below 32 are legal. -/
theorem hartImmediates : Obligations.HartImmediates := by
  intro h rd a imm s hx
  have hslt : sltW ((s.hart h.val).r a) (sext imm) = if ((s.hart h.val).r a).toInt < imm.toInt then 1 else 0 := by
    rw [sltW_eq, sext, BitVec.toInt_signExtend_of_le (by decide)]
  simp only [← sltuW_eq, ← upper_eq, ← hslt]
  refine ⟨?_, ?_, ?_, ?_, ?_, ?_, ?_, ?_, fun hi => ?shifts⟩
  case shifts =>
    have hl : ¬(imm.toNat / 32 != 0) = true := by simp [Nat.div_eq_of_lt hi]
    have hz : (zext imm).toNat % 32 = imm.toNat := by
      rw [zext, BitVec.zeroExtend, BitVec.toNat_setWidth]
      omega
    refine ⟨?_, ?_, ?_⟩
    all_goals
      rw [← hz]
      exact completes_setG hx rfl fun _ => if_neg hl
  all_goals exact completes_setG hx rfl fun _ => rfl

/-- Settles O16: a branch by its condition, a call by its target and the return address in rd. -/
theorem hartBranches : Obligations.HartBranches := by
  intro h a b rd off off21 s hx
  obtain ⟨hr, hw⟩ := State.hartRuns_run hx.1
  refine ⟨?_, ?_, ?_, ?_, ?_, ?_, ?_, ?_⟩
  · exact completes_branch _ hx rfl (by simp)
  · exact completes_branch _ hx rfl (by simp)
  · exact completes_branch _ hx rfl (by simp [BitVec.slt])
  · exact completes_branch _ hx rfl (by simp [BitVec.slt])
  · exact completes_branch _ hx rfl (by simp [BitVec.ult])
  · exact completes_branch _ hx rfl (by simp [BitVec.ult])
  · rw [← offset_eq]
    exact completes_call (target := fun x => x.pc + off21.signExtend 32 <<< 2) hx rfl
  · exact completes_call (target := fun x => (x.r a + sext off) &&& 0xFFFFFFFC) hx rfl

end Sys2Proof

/-! ## Policy harts: loads, stores and the local store (R66, R76 to R78) -/

namespace Sys2Proof.Machine

set_option Elab.async false

theorem answers_mono {c : Instr} {s : State} {P Q : State → Prop} (h : Answers c s P) (hPQ : ∀ t, P t → Q t) :
    Answers c s Q := by
  obtain ⟨t, he, hP⟩ := h
  exact ⟨t, he, hPQ t hP⟩

/-- An instruction whose body goes on answers its state, counted. -/
theorem answers_instr {c : Instr} {h : Hart} {s u : State} {body : HartCtx → State → HRes} {y : HartCtx}
    (he : exec c s = done (instr h.val body s)) (hx : Executes h s)
    (hb : body (s.hart h.val) (setPc h.val ((s.hart h.val).pc + 4) s) = .ok u) (hy : u.hart h.val = y)
    (hr : y.run = .running) (hw : y.wait = .none) :
    Answers c s fun t => t.hart h.val = { y with done := y.done + 1 } ∧ (∀ k, k ≠ h.val → t.hart k = u.hart k) ∧
      ∀ a, t.byte a = u.byte a := by
  refine answers_of_done he ?_
  rw [instr_ok hx.1 hx.2 hb]
  refine ⟨?_, fun k hk => ?_, fun a => ?_⟩
  · rw [State.settle_hart, retire_hart hy hr hw]
  · rw [State.settle_hart, retire_hart_ne _ hk]
  · rw [State.settle_byte, retire_byte]

/-! ### Loads -/

/-- A loaded number taken as signed is its lowest bits, sign-extended. -/
theorem ofInt_signedOf {w : Nat} (hw : 0 < w) (v : Nat) :
    BitVec.ofInt 32 (signedOf w v) = (BitVec.ofNat w v).signExtend 32 := by
  have hp : 2 ^ w = 2 * 2 ^ (w - 1) := by rw [← Nat.pow_succ']; congr 1; omega
  rw [BitVec.signExtend, BitVec.toInt_eq_toNat_cond, BitVec.toNat_ofNat, signedOf]
  congr 1
  split <;> split <;> omega

theorem completes_load {c : Instr} {h : Hart} {s : State} {len : Nat} {ext : Nat → Word} {rd rs1 : RegNum}
    {imm : BitVec 16} {l : List Byte} (hx : Executes h s) (he : exec c s = done (loadTo h len ext rd rs1 imm s))
    (hl : Loads s h ((s.hart h.val).r rs1 + sext imm).toNat len l) :
    Completes c h s (wrote (s.hart h.val) rd (ext (leNat l))) := by
  obtain ⟨hr, hw⟩ := State.hartRuns_run hx.1
  refine completes_of he hx (load_in_body hl _) (HartCtx.setR_setPc _ _ _ _) ?_ ?_ ?_
  · simpa [wrote] using hr
  · simpa [wrote] using hw
  · simp [wrote]

theorem completes_loadPair {h : Hart} {s : State} {rd rs1 : RegNum} {imm : BitVec 16} {l : List Byte}
    (hx : Executes h s) (hd : rd.getLsbD 0 = false)
    (hl : Loads s h ((s.hart h.val).r rs1 + sext imm).toNat 8 l) :
    Completes (.ld h rd rs1 imm) h s (wrotePair (s.hart h.val) rd (BitVec.ofNat 64 (leNat l))) := by
  obtain ⟨hr, hw⟩ := State.hartRuns_run hx.1
  have hodd : ¬oddPair rd = true := by simp only [oddPair, hd]; decide
  refine completes_of rfl hx ((if_neg hodd).trans (load_in_body hl _)) (HartCtx.setPair_setPc _ _ _ _) ?_ ?_ ?_
  · simpa [wrotePair] using hr
  · simpa [wrotePair] using hw
  · simp [wrotePair]

theorem retire_hart_r (h : Hart) (s : State) (rd : RegNum) :
    ((retire h.val s).hart h.val).r rd = (s.hart h.val).r rd := by
  rw [retire, State.hart_withHart_same]
  split <;> rfl

/-- A word load of a register block that ends in no bus error. -/
theorem load_of_block {h : Hart} {a : Word} {x : HartCtx} {t : State} (ha : a.toNat % 4 = 0)
    (hp : x.allows a.toNat 8 = true) (hb : areaOf a.toNat = .block)
    (he : (busRead (.hart h.val) a.toNat t).busError = false) (k : Nat → State → HRes) :
    load h.val 4 a x t k =
      k (busRead (.hart h.val) a.toNat t).readData.toNat (busRead (.hart h.val) a.toNat t) := by
  simp [load, ha, hp, hb, regLoad, he]

/-- A hart that loads a word of a register block finds in rd the word read. -/
theorem loadTo_of_block {h : Hart} {s : State} {rd rs1 : RegNum} {imm : BitVec 16} (hx : Executes h s)
    (ha : ((s.hart h.val).r rs1 + sext imm).toNat % 4 = 0)
    (hp : (s.hart h.val).allows ((s.hart h.val).r rs1 + sext imm).toNat 8 = true)
    (hb : areaOf ((s.hart h.val).r rs1 + sext imm).toNat = .block)
    (he : (busRead (.hart h.val) ((s.hart h.val).r rs1 + sext imm).toNat
      (setPc h.val ((s.hart h.val).pc + 4) s)).busError = false) (hd : rd ≠ 0) :
    ((loadTo h 4 (BitVec.ofNat 32) rd rs1 imm s).hart h.val).r rd =
      (busRead (.hart h.val) ((s.hart h.val).r rs1 + sext imm).toNat (setPc h.val ((s.hart h.val).pc + 4)
        s)).readData := by
  have hi := load_of_block ha hp hb he fun v s => .ok (setG h.val rd (BitVec.ofNat 32 v) s)
  rw [loadTo, instr_ok hx.1 hx.2 hi, retire_hart_r, setG, State.hart_setHart_same, HartCtx.r_setR _ _ _ hd,
    BitVec.ofNat_toNat, BitVec.setWidth_eq]

/-! ### Stores -/

/-- What a store that memory takes leaves of the state. -/
def memStored (h : Hart) (a : Nat) (l : List Byte) (s : State) : State :=
  if areaOf a = .sram then sramStore h.val a l s else s.setBytes a l

theorem memStored_hart (h : Hart) (a : Nat) (l : List Byte) (s : State) :
    (memStored h a l s).hart h.val = s.hart h.val := by
  unfold memStored
  split
  · rw [sramStore, dropReservations_own, State.hart_setBytes]
  · rw [State.hart_setBytes]

theorem memStored_byte (h : Hart) (a : Nat) (l : List Byte) (s : State) (b : Nat) :
    (memStored h a l s).byte b = (s.setBytes a l).byte b := by
  unfold memStored
  split
  · exact State.byte_congr (dropReservations_mem _ _ _ _) b
  · rfl

/-- The bytes at an address are those of a number, and every other byte is as in another state. -/
def Stored (s t : State) (a len v : Nat) : Prop :=
  (∀ i, i < len → t.byte (a + i) = byteOf v i) ∧ ∀ b, b < a ∨ a + len ≤ b → t.byte b = s.byte b

theorem stored_memStored (h : Hart) (s : State) (a len v : Nat) :
    Stored s (memStored h a (leBytes len v) s) a len v := by
  constructor
  · intro i hi
    have hl : i < (leBytes len v).length := by rwa [leBytes_length]
    rw [memStored_byte, State.byte_setBytes_inside _ _ _ _ hl, leBytes_get _ _ _ hl, byteOf]
  · intro b hb
    rw [memStored_byte, State.byte_setBytes_outside _ _ _ _ (by rwa [leBytes_length])]

/-- An instruction that only stores goes on with its bytes stored. -/
theorem answers_store {c : Instr} {h : Hart} {s : State} {body : HartCtx → State → HRes} {a len v : Nat}
    (hx : Executes h s) (he : exec c s = done (instr h.val body s))
    (hb : ∀ pc, body (s.hart h.val) (setPc h.val pc s) = .ok (memStored h a (leBytes len v) (setPc h.val pc s))) :
    Answers c s fun t => t.hart h.val = { s.hart h.val with
      pc := (s.hart h.val).pc + 4, done := (s.hart h.val).done + 1 } ∧ Stored s t a len v := by
  obtain ⟨hr, hw⟩ := State.hartRuns_run hx.1
  have hy := (memStored_hart h a (leBytes len v) (setPc h.val ((s.hart h.val).pc + 4) s)).trans (setPc_hart _ _ _)
  refine answers_mono (answers_instr he hx (hb _) hy hr hw) fun t ⟨ht, _, hm⟩ => ⟨ht, ?_⟩
  obtain ⟨hin, hout⟩ := stored_memStored h (setPc h.val ((s.hart h.val).pc + 4) s) a len v
  exact ⟨fun i hi => (hm _).trans (hin i hi), fun b hb => (hm b).trans (hout b hb)⟩

theorem answers_storeFrom {c : Instr} {h : Hart} {s : State} {len : Nat} {rs2 rs1 : RegNum} {imm : BitVec 16}
    (hx : Executes h s) (he : exec c s = done (storeFrom h len rs2 rs1 imm s))
    (hl : StoresToMemory s h ((s.hart h.val).r rs1 + sext imm).toNat len) :
    Answers c s fun t => t.hart h.val = { s.hart h.val with
      pc := (s.hart h.val).pc + 4, done := (s.hart h.val).done + 1 } ∧
      Stored s t ((s.hart h.val).r rs1 + sext imm).toNat len ((s.hart h.val).r rs2).toNat :=
  answers_store hx he fun _ => store_in_body _ hl .ok

/-! ### The local store -/

/-- Only the local store changes, and only the local store counts. -/
theorem HartCtx.setLocal_eq {x y : HartCtx} (h : y.localStore = x.localStore) (off : Nat) (l : List Byte) :
    y.setLocal off l = { y with localStore := (x.setLocal off l).localStore } := by
  induction l generalizing x y off with
  | nil => rw [HartCtx.setLocal, HartCtx.setLocal, ← h]
  | cons v l ih =>
    rw [HartCtx.setLocal, HartCtx.setLocal]
    exact ih (y := { y with localStore := cellsPut 0 y.localStore off v }) (by rw [h]) (off + 1)

/-- A store to the local store that the hart's privilege reaches. -/
theorem store_of_local {h : Hart} {len : Nat} {a : Word} {x : HartCtx} {t : State} (v : Nat)
    (ha : a.toNat % len = 0) (hp : x.allows a.toNat 9 = true) (hb : areaOf a.toNat = .localStore)
    (hs : x.sup = true ∨ a.toNat < 0x30003FC0) (k : State → HRes) :
    store h.val len a v x t k = k (t.setHart h.val fun y => y.setLocal (a.toNat - 0x30000000) (leBytes len v)) := by
  have hn : (!x.sup && decide (0x30003FC0 ≤ a.toNat)) = false := by
    rcases hs with hs | hs
    · simp [hs]
    · simp [hs]
  simp [store, ha, hp, hb, hn]

theorem answers_localStore {c : Instr} {h : Hart} {s : State} {body : HartCtx → State → HRes} {off : Nat}
    {l : List Byte} (hx : Executes h s) (he : exec c s = done (instr h.val body s))
    (hb : ∀ u, body (s.hart h.val) u = .ok (u.setHart h.val fun y => y.setLocal off l)) :
    Answers c s fun t => t.hart h.val = { s.hart h.val with
      pc := (s.hart h.val).pc + 4, done := (s.hart h.val).done + 1,
      localStore := ((s.hart h.val).setLocal off l).localStore } ∧ ∀ b, t.byte b = s.byte b := by
  obtain ⟨hr, hw⟩ := State.hartRuns_run hx.1
  have hy : ((setPc h.val ((s.hart h.val).pc + 4) s).setHart h.val fun y => y.setLocal off l).hart h.val =
      { s.hart h.val with
        pc := (s.hart h.val).pc + 4, localStore := ((s.hart h.val).setLocal off l).localStore } := by
    rw [State.hart_setHart_same, setPc_hart]
    exact HartCtx.setLocal_eq (x := s.hart h.val) (y := { s.hart h.val with pc := (s.hart h.val).pc + 4 }) rfl off l
  exact answers_mono (answers_instr he hx (hb _) hy hr hw) fun t ⟨ht, _, hm⟩ => ⟨ht, hm⟩

end Sys2Proof.Machine

namespace Sys2Proof
open Sys2Proof.Machine

set_option Elab.async false

/-- Settles O14: each load goes on with the number its bytes spell, extended by its width. -/
theorem hartLoads : Obligations.HartLoads := by
  intro h rd rs1 imm s hx
  refine ⟨fun l hl => ⟨?byte, completes_load hx rfl hl⟩, fun l hl => ⟨?half, completes_load hx rfl hl⟩,
    fun l hl => completes_load hx rfl hl, fun l hl hd => completes_loadPair hx hd hl, fun ha hp hb he => ?block⟩
  case byte =>
    rw [← ofInt_signedOf (by decide)]
    exact completes_load (ext := fun v => BitVec.ofInt 32 (signedOf 8 v)) hx rfl hl
  case half =>
    rw [← ofInt_signedOf (by decide)]
    exact completes_load (ext := fun v => BitVec.ofInt 32 (signedOf 16 v)) hx rfl hl
  case block =>
    refine answers_of_done rfl fun hd => ?_
    rw [State.settle_hart]
    exact loadTo_of_block hx ha hp hb he hd

/-- Settles O15: a store of either kind leaves the hart at its next instruction with its bytes stored. -/
theorem hartStores : Obligations.HartStores := by
  intro h rs2 rs1 imm s hx
  refine ⟨answers_storeFrom hx rfl, answers_storeFrom hx rfl, answers_storeFrom hx rfl, fun hl hd => ?pair,
    fun hb hp hs => ⟨?locByte, fun ha => ?locHalf, fun ha => ?locWord, fun ha hd => ?locPair⟩⟩
  case pair =>
    have hodd : ¬oddPair rs2 = true := by simp only [oddPair, hd]; decide
    exact answers_store hx rfl fun _ => (if_neg hodd).trans (store_in_body _ hl .ok)
  case locByte => exact answers_localStore hx rfl fun _ => store_of_local _ (Nat.mod_one _) hp hb hs .ok
  case locHalf => exact answers_localStore hx rfl fun _ => store_of_local _ ha hp hb hs .ok
  case locWord => exact answers_localStore hx rfl fun _ => store_of_local _ ha hp hb hs .ok
  case locPair =>
    have hodd : ¬oddPair rs2 = true := by simp only [oddPair, hd]; decide
    exact answers_localStore hx rfl fun _ => (if_neg hodd).trans (store_of_local _ ha hp hb hs .ok)

end Sys2Proof

/-! ## Policy harts: atomic instructions and traps (R61, R73, R83) -/

namespace Sys2Proof.Machine

set_option Elab.async false

/-! ### Areas -/

theorem areaOf_of_inSram {a n : Nat} (hn : 0 < n) (h : inSram a n = true) : areaOf a = .sram := by
  simp only [inSram, decide_eq_true_eq] at h
  simp [areaOf, show ¬a < 0x10000 by omega, show ¬a < 0x10000000 by omega, show ¬a < 0x10100000 by omega,
    show ¬a < 0x10400000 by omega, show ¬a < 0x20000000 by omega, show a < 0x21800000 by omega]

theorem loads_of_inSram {s : State} {h : Hart} {a : Nat} (ha : a % 4 = 0) (hs : inSram a 4 = true)
    (hp : (s.hart h.val).allows a 8 = true) : Loads s h a 4 (s.bytes a 4) :=
  ⟨ha, hp, by rw [loaded, areaOf_of_inSram (by decide) hs]⟩

theorem storesToMemory_of_inSram {s : State} {h : Hart} {a : Nat} (ha : a % 4 = 0) (hs : inSram a 4 = true)
    (hp : (s.hart h.val).allows a 9 = true) (hr : s.readOnly a 4 = false) : StoresToMemory s h a 4 :=
  ⟨ha, hp, .inl ⟨areaOf_of_inSram (by decide) hs, hr⟩⟩

theorem exclusive_of_inSram {w : Bool} {a : Word} (ha : a.toNat % 4 = 0) (hs : inSram a.toNat 4 = true) (s : State)
    (k : State → HRes) : exclusive w a s k = k s := by
  simp [exclusive, ha, hs]

/-! ### LWX, SWX and SWAP -/

/-- LWX loads the word and reserves its granule. -/
theorem completes_lwx {h : Hart} {s : State} {rd rs1 : RegNum} {imm : BitVec 16} (hx : Executes h s)
    (ha : ((s.hart h.val).r rs1 + sext imm).toNat % 4 = 0)
    (hs : inSram ((s.hart h.val).r rs1 + sext imm).toNat 4 = true)
    (hp : (s.hart h.val).allows ((s.hart h.val).r rs1 + sext imm).toNat 8 = true) :
    Completes (.lwx h rd rs1 imm) h s
      { wrote (s.hart h.val) rd (BitVec.ofNat 32 (leNat (s.bytes ((s.hart h.val).r rs1 + sext imm).toNat 4))) with
        reservation := some (((s.hart h.val).r rs1 + sext imm).toNat / 32, s.tick) } := by
  obtain ⟨hr, hw⟩ := State.hartRuns_run hx.1
  have hl := loads_of_inSram ha hs hp
  refine completes_of_state rfl hx ((exclusive_of_inSram ha hs _ _).trans (load_in_body hl _)) ?_ ?_ ?_ ?_ ?_ ?_
  · rw [setG, State.hart_setHart_same, State.hart_setHart_same, setPc_hart, wrote]
    unfold HartCtx.setR
    split <;> rfl
  · simpa [wrote] using hr
  · simpa [wrote] using hw
  · simp [wrote]
  · intro k hk
    simp only [setG, setPc, State.hart_setHart_ne _ _ hk]
  · simp only [setG, setPc, State.setHart_without_hart]

/-- Counting an instruction and writing rd commute. -/
theorem HartCtx.setR_count (y : HartCtx) (rd : RegNum) (v : Word) :
    { y.setR rd v with done := (y.setR rd v).done + 1 } = ({ y with done := y.done + 1 } : HartCtx).setR rd v := by
  unfold HartCtx.setR
  split <;> rfl

/-- An instruction that writes rd in a state `u` of its hart. -/
theorem answers_setG {c : Instr} {h : Hart} {s u : State} {body : HartCtx → State → HRes} {y : HartCtx} {rd : RegNum}
    {v : Word} (hx : Executes h s) (he : exec c s = done (instr h.val body s))
    (hb : body (s.hart h.val) (setPc h.val ((s.hart h.val).pc + 4) s) = .ok (setG h.val rd v u))
    (hy : u.hart h.val = y) (hr : y.run = .running) (hw : y.wait = .none) :
    Answers c s fun t => t.hart h.val = ({ y with done := y.done + 1 } : HartCtx).setR rd v ∧
      ∀ a, t.byte a = u.byte a := by
  have hg : (setG h.val rd v u).hart h.val = y.setR rd v := by rw [setG, State.hart_setHart_same, hy]
  refine answers_mono (answers_instr he hx hb hg (by simpa using hr) (by simpa using hw)) fun t ⟨ht, _, hm⟩ => ?_
  exact ⟨ht.trans (HartCtx.setR_count y rd v), hm⟩

/-- The same, where `u` has stored bytes in a state of the same memory. -/
theorem answers_storeSetG {c : Instr} {h : Hart} {s u : State} {body : HartCtx → State → HRes} {y : HartCtx}
    {rd : RegNum} {a len n : Nat} {v : Word} (hx : Executes h s) (he : exec c s = done (instr h.val body s))
    (hb : body (s.hart h.val) (setPc h.val ((s.hart h.val).pc + 4) s) =
      .ok (setG h.val rd v (memStored h a (leBytes len n) u)))
    (hm : u.mem = s.mem) (hy : u.hart h.val = y) (hr : y.run = .running) (hw : y.wait = .none) :
    Answers c s fun t => t.hart h.val = ({ y with done := y.done + 1 } : HartCtx).setR rd v ∧ Stored s t a len n := by
  refine answers_mono (answers_setG hx he hb ((memStored_hart _ _ _ _).trans hy) hr hw) fun t ⟨ht, hbyte⟩ => ⟨ht, ?_⟩
  obtain ⟨hin, hout⟩ := stored_memStored h u a len n
  refine ⟨fun i hi => (hbyte _).trans (hin i hi), fun b hb => ?_⟩
  rw [hbyte, hout b hb, State.byte_congr hm]

/-- A store to an SRAM word that memory takes, in a state with the registers and image checks of `s`. -/
theorem store_sram {s t : State} {h : Hart} {a : Word} (v : Nat) (ha : a.toNat % 4 = 0)
    (hs : inSram a.toNat 4 = true) (hp : (s.hart h.val).allows a.toNat 9 = true)
    (hr : s.readOnly a.toNat 4 = false) (hreg : t.regs = s.regs) (himg : t.images = s.images) (k : State → HRes) :
    store h.val 4 a v (s.hart h.val) t k = k (memStored h a.toNat (leBytes 4 v) t) :=
  store_of_takes v (storesToMemory_of_inSram ha hs hp hr) hreg himg k

/-- The state of a hart whose SWX has lost its reservation. -/
theorem hart_lostReservation (h : Hart) (s : State) (pc : Word) :
    ((setPc h.val pc s).setHart h.val fun y => { y with reservation := none }).hart h.val =
      { s.hart h.val with pc := pc, reservation := none } := by
  rw [State.hart_setHart_same, setPc_hart]

section
variable {h : Hart} {s : State} {rd rs1 rs2 : RegNum}
  (hx : Executes h s) (ha : ((s.hart h.val).r rs1).toNat % 4 = 0) (hs : inSram ((s.hart h.val).r rs1).toNat 4 = true)
include hx ha hs

theorem answers_swx_held (hp : (s.hart h.val).allows ((s.hart h.val).r rs1).toNat 9 = true)
    (hro : s.readOnly ((s.hart h.val).r rs1).toNat 4 = false)
    (hheld : s.reserved h.val ((s.hart h.val).r rs1).toNat = true) :
    Answers (.swx h rd rs1 rs2) s fun t => t.hart h.val = ({ s.hart h.val with
      reservation := none, pc := (s.hart h.val).pc + 4, done := (s.hart h.val).done + 1 } : HartCtx).setR rd 0 ∧
      Stored s t ((s.hart h.val).r rs1).toNat 4 ((s.hart h.val).r rs2).toNat := by
  obtain ⟨hr, hw⟩ := State.hartRuns_run hx.1
  have hh : (setPc h.val ((s.hart h.val).pc + 4) s).reserved h.val ((s.hart h.val).r rs1).toNat = true := by
    rw [State.reserved, setPc_hart]
    exact hheld
  refine answers_storeSetG (u := (setPc h.val ((s.hart h.val).pc + 4) s).setHart h.val
    fun y => { y with reservation := none }) hx rfl ?_ rfl (hart_lostReservation h s _) hr hw
  refine (exclusive_of_inSram ha hs _ _).trans ?_
  dsimp only
  rw [if_pos hh]
  exact store_sram (t := (setPc h.val ((s.hart h.val).pc + 4) s).setHart h.val
    fun y => { y with reservation := none }) _ ha hs hp hro rfl rfl _

theorem answers_swx_lost (hheld : s.reserved h.val ((s.hart h.val).r rs1).toNat = false) :
    Answers (.swx h rd rs1 rs2) s fun t => t.hart h.val = ({ s.hart h.val with
      reservation := none, pc := (s.hart h.val).pc + 4, done := (s.hart h.val).done + 1 } : HartCtx).setR rd 1 ∧
      ∀ a, t.byte a = s.byte a := by
  obtain ⟨hr, hw⟩ := State.hartRuns_run hx.1
  have hh : ¬(setPc h.val ((s.hart h.val).pc + 4) s).reserved h.val ((s.hart h.val).r rs1).toNat = true := by
    rw [State.reserved, setPc_hart]
    exact ne_true_of_eq_false hheld
  refine answers_setG hx rfl ?_ (hart_lostReservation h s _) hr hw
  refine (exclusive_of_inSram ha hs _ _).trans ?_
  dsimp only
  rw [if_neg hh]

theorem answers_swap (hp : (s.hart h.val).allows ((s.hart h.val).r rs1).toNat 9 = true)
    (hro : s.readOnly ((s.hart h.val).r rs1).toNat 4 = false)
    (hp8 : (s.hart h.val).allows ((s.hart h.val).r rs1).toNat 8 = true) :
    Answers (.swap h rd rs1 rs2) s fun t => t.hart h.val = ({ s.hart h.val with
      pc := (s.hart h.val).pc + 4, done := (s.hart h.val).done + 1 } : HartCtx).setR rd
        (BitVec.ofNat 32 (leNat (s.bytes ((s.hart h.val).r rs1).toNat 4))) ∧
      Stored s t ((s.hart h.val).r rs1).toNat 4 ((s.hart h.val).r rs2).toNat := by
  obtain ⟨hr, hw⟩ := State.hartRuns_run hx.1
  refine answers_storeSetG (u := setPc h.val ((s.hart h.val).pc + 4) s) hx rfl ?_ rfl (setPc_hart h _ s) hr hw
  refine (exclusive_of_inSram ha hs _ _).trans ((load_in_body (loads_of_inSram ha hs hp8) _).trans ?_)
  exact store_sram (t := setPc h.val ((s.hart h.val).pc + 4) s) _ ha hs hp hro rfl rfl _

end

/-! ### Reservations that other writes lose -/

theorem dropReservation_none {own : Option Nat} {a n i k : Nat} {s : State} (h : (s.hart k).reservation = none) :
    ((dropReservation own a n i s).hart k).reservation = none := by
  rcases dropReservation_hart own a n i s k with hk | hk <;> rw [hk]
  exact h

theorem foldl_dropReservation_none {own : Option Nat} {a n k : Nat} (l : List Nat) {s : State}
    (h : (s.hart k).reservation = none) :
    ((l.foldl (fun s i => dropReservation own a n i s) s).hart k).reservation = none := by
  induction l generalizing s with
  | nil => exact h
  | cons i l ih => exact ih (dropReservation_none h)

/-- A write into the granule of another hart's reservation loses it. -/
theorem dropReservation_hit {own : Option Nat} {a n g c : Nat} {k : Hart} {s : State} (ho : own ≠ some k.val)
    (hr : (s.hart k.val).reservation = some (g, c)) (h1 : a < 32 * g + 32) (h2 : 32 * g < a + n) :
    ((dropReservation own a n k.val s).hart k.val).reservation = none := by
  rw [dropReservation, hr]
  simp [ho, h1, h2]

theorem dropReservations_hit {own : Option Nat} {a n g c : Nat} {k : Hart} {s : State} (ho : own ≠ some k.val)
    (hr : (s.hart k.val).reservation = some (g, c)) (h1 : a < 32 * g + 32) (h2 : 32 * g < a + n) :
    ((dropReservations own a n s).hart k.val).reservation = none := by
  unfold dropReservations State.each
  have hk : k.val ∈ List.range 4 := List.mem_range.mpr k.isLt
  generalize List.range 4 = l at hk
  induction l generalizing s with
  | nil => cases hk
  | cons i l ih =>
    rw [List.foldl_cons]
    by_cases hi : k.val = i
    · subst hi
      exact foldl_dropReservation_none l (dropReservation_hit ho hr h1 h2)
    · rcases dropReservation_hart own a n i s k.val with h | h
      · exact ih (by rw [h, hr]) ((List.mem_cons.mp hk).resolve_left hi)
      · exact foldl_dropReservation_none l (by rw [h])

/-- A word that hart `h` stores to SRAM loses the reservation that another hart holds on its granule. -/
theorem answers_sw_drops {h k : Hart} {s : State} {rs2 rs1 : RegNum} {imm : BitVec 16} {g c : Nat} (hx : Executes h s)
    (hk : k ≠ h) (ha : ((s.hart h.val).r rs1 + sext imm).toNat % 4 = 0)
    (hs : inSram ((s.hart h.val).r rs1 + sext imm).toNat 4 = true)
    (hp : (s.hart h.val).allows ((s.hart h.val).r rs1 + sext imm).toNat 9 = true)
    (hro : s.readOnly ((s.hart h.val).r rs1 + sext imm).toNat 4 = false)
    (hres : (s.hart k.val).reservation = some (g, c)) (hg : g = ((s.hart h.val).r rs1 + sext imm).toNat / 32) :
    Answers (.sw h rs2 rs1 imm) s fun t => (t.hart k.val).reservation = none := by
  obtain ⟨hr, hw⟩ := State.hartRuns_run hx.1
  have hkv : k.val ≠ h.val := Fin.val_ne_of_ne hk
  have hb := store_in_body (pc := (s.hart h.val).pc + 4) ((s.hart h.val).r rs2).toNat
    (storesToMemory_of_inSram ha hs hp hro) .ok
  have hy := (memStored_hart h ((s.hart h.val).r rs1 + sext imm).toNat (leBytes 4 ((s.hart h.val).r rs2).toNat)
    (setPc h.val ((s.hart h.val).pc + 4) s)).trans (setPc_hart _ _ _)
  refine answers_mono (answers_instr rfl hx hb hy hr hw) fun t ⟨_, ho, _⟩ => ?_
  rw [ho k.val hkv, if_pos (areaOf_of_inSram (by decide) hs), sramStore]
  refine dropReservations_hit (g := g) (c := c) (by simpa using hkv.symm) ?_ (by omega) ?_
  · rw [State.hart_setBytes, setPc_hart_ne _ _ hkv, hres]
  · rw [leBytes_length]
    omega

end Sys2Proof.Machine

namespace Sys2Proof
open Sys2Proof.Machine

set_option Elab.async false

/-- Settles O18: LWX, SWX with and without its reservation, SWAP, and the stores of another hart. -/
theorem hartAtomics : Obligations.HartAtomics := by
  intro h rd rs1 rs2 imm s
  refine ⟨fun hx ha hs hp => completes_lwx hx ha hs hp, fun hx hb hs hp hro => ⟨?held, ?lost, ?swap, ?other⟩,
    ?timeout⟩
  case held =>
    intro g k hres hg hk
    exact answers_swx_held hx hb hs hp hro (by simp [State.reserved, hres, hg, granule, hk])
  case lost =>
    intro hres
    refine answers_swx_lost hx hb hs ?_
    unfold State.reserved
    split
    · next g k hr =>
      rcases hres g k hr with h | h
      · simp [granule, h]
      · simp [granule, Nat.not_lt.mpr h]
    · rfl
  case swap => exact fun hp8 => answers_swap hx hb hs hp hro hp8
  case other =>
    intro k hk g c hres hg
    have h0 : (s.hart h.val).r rs1 + sext 0 = (s.hart h.val).r rs1 := BitVec.add_zero _
    rw [← h0] at hb hs hp hro hg
    exact answers_sw_drops hx hk hb hs hp hro hres hg
  case timeout =>
    refine answers_of_done rfl ⟨?_, fun k hk => ?_, ?_⟩
    · rw [State.settle_hart, State.hart_setHart_same]
    · rw [State.settle_hart, State.hart_setHart_ne _ _ hk]
    · rw [State.settle_without_hart, State.setHart_without_hart]

end Sys2Proof

/-! ## Policy harts: traps, control words, waits and interrupts (R69, R72, R73) -/

namespace Sys2Proof.Machine

set_option Elab.async false

/-! ### The trap record in the local store -/

theorem HartCtx.cellsGet_setLocal (x : HartCtx) (off : Nat) (l : List Byte) (k : Nat) :
    cellsGet (0 : Byte) (x.setLocal off l).localStore k =
      if off ≤ k ∧ k < off + l.length then l.getD (k - off) 0 else cellsGet (0 : Byte) x.localStore k := by
  induction l generalizing x off with
  | nil => rw [HartCtx.setLocal, if_neg (by simp)]
  | cons v l ih =>
    rw [HartCtx.setLocal, ih]
    by_cases h0 : k = off
    · subst h0
      simp [cellsGet_put_same]
    · rw [List.length_cons]
      by_cases h1 : off + 1 ≤ k ∧ k < off + 1 + l.length
      · rw [if_pos h1, if_pos (by omega), show k - off = k - (off + 1) + 1 by omega, List.getD_cons_succ]
      · rw [if_neg h1, if_neg (by omega), cellsGet_put_ne _ _ _ _ (Ne.symm h0)]

/-- A word written to the local store reads back. -/
theorem HartCtx.localWord_setLocalWord_same (x : HartCtx) (off : Nat) (v : Word) :
    (x.setLocalWord off v).localWord off = v := by
  have hb : (x.setLocalWord off v).localBytes off 4 = leBytes 4 v.toNat := by
    refine List.ext_getElem (by simp [HartCtx.localBytes, leBytes_length]) fun i hi hl => ?_
    have h4 : i < 4 := by rwa [leBytes_length] at hl
    simp only [HartCtx.localBytes, List.getElem_map, List.getElem_range]
    rw [HartCtx.setLocalWord, HartCtx.cellsGet_setLocal, if_pos ⟨by omega, by rw [leBytes_length]; omega⟩,
      Nat.add_sub_cancel_left, List.getD_eq_getElem _ _ hl]
  rw [HartCtx.localWord, hb, leNat_leBytes, show 256 ^ 4 = 2 ^ 32 from rfl, Nat.mod_eq_of_lt v.isLt,
    BitVec.ofNat_toNat, BitVec.setWidth_eq]

theorem HartCtx.localWord_setLocalWord_apart (x : HartCtx) {off k : Nat} (v : Word) (h : k + 4 ≤ off ∨ off + 4 ≤ k) :
    (x.setLocalWord off v).localWord k = x.localWord k := by
  have hb : (x.setLocalWord off v).localBytes k 4 = x.localBytes k 4 := by
    refine List.map_congr_left fun i hi => ?_
    have h4 : i < 4 := List.mem_range.mp hi
    rw [HartCtx.setLocalWord, HartCtx.cellsGet_setLocal, if_neg (by rw [leBytes_length]; omega)]
  rw [HartCtx.localWord, hb, HartCtx.localWord]

@[simp] theorem HartCtx.setLocalWord_g (x : HartCtx) (off : Nat) (v : Word) : (x.setLocalWord off v).g = x.g := by
  rw [HartCtx.setLocalWord, HartCtx.setLocal_eq (x := x) rfl]

@[simp] theorem HartCtx.setLocalWord_run (x : HartCtx) (off : Nat) (v : Word) : (x.setLocalWord off v).run = x.run
  := by
  rw [HartCtx.setLocalWord, HartCtx.setLocal_eq (x := x) rfl]

/-- The trap a hart takes writes the trap record of R73 and nothing else of its local store that R73 names. -/
theorem trapTaken_trapped (irq : Bool) (cause : Nat) (detail : Word) (x : HartCtx) :
    TrapTaken x (trapped irq cause detail x) irq cause detail := by
  refine ⟨?ret, ?prev, ?code, ?detail, rfl, rfl, ?g, rfl, ?run⟩
  case ret =>
    exact (HartCtx.localWord_setLocalWord_apart _ _ (by omega)).trans <|
      (HartCtx.localWord_setLocalWord_apart _ _ (by omega)).trans <|
      (HartCtx.localWord_setLocalWord_apart _ _ (by omega)).trans <| HartCtx.localWord_setLocalWord_same _ _ _
  case prev =>
    exact (HartCtx.localWord_setLocalWord_apart _ _ (by omega)).trans <|
      (HartCtx.localWord_setLocalWord_apart _ _ (by omega)).trans <| HartCtx.localWord_setLocalWord_same _ _ _
  case code =>
    refine (HartCtx.localWord_setLocalWord_apart _ _ (by omega)).trans <|
      (HartCtx.localWord_setLocalWord_same _ _ _).trans ?_
    cases irq <;> rfl
  case detail => exact HartCtx.localWord_setLocalWord_same _ _ _
  case g => simp [trapped]
  case run => simp [trapped]

/-! ### Taking a trap -/

/-- The state in which a trap is taken: the cause is shown. -/
def causeShown (n : Nat) (irq : Bool) (cause : Nat) (s : State) : State :=
  s.setF Fl.SYS_HARTSTAT_LASTCAUSE n (b2n irq * 128 + cause)

theorem causeShown_hart (n : Nat) (irq : Bool) (cause : Nat) (s : State) (k : Nat) :
    (causeShown n irq cause s).hart k = s.hart k := State.hart_congr (State.harts_setF _ _ _ _) k

theorem takeTrap_some {n : Nat} {irq : Bool} {cause : Nat} {d : Word} {s : State} (hi : (s.hart n).inTrap = false) :
    takeTrap n irq cause (some d) s = (causeShown n irq cause s).withHart n (trapped irq cause d) := by
  have h : ((causeShown n irq cause s).hart n).inTrap = false := by rw [causeShown_hart, hi]
  exact if_neg (ne_true_of_eq_false h)

theorem takeTrap_none {n : Nat} {irq : Bool} {cause : Nat} {s : State} (hi : (s.hart n).inTrap = false) :
    takeTrap n irq cause none s = (causeShown n irq cause s).draw.2.withHart n
      (trapped irq cause (BitVec.ofNat 32 (causeShown n irq cause s).draw.1)) := by
  have h : ((causeShown n irq cause s).hart n).inTrap = false := by rw [causeShown_hart, hi]
  exact if_neg (ne_true_of_eq_false h)

/-- A trap without a stated DETAIL takes a free value for it. -/
theorem takeTrap_hart {h : Hart} {irq : Bool} {cause : Nat} {d : Option Word} {s : State}
    (hi : (s.hart h.val).inTrap = false) :
    ∃ w, (takeTrap h.val irq cause d s).hart h.val = trapped irq cause w (s.hart h.val) := by
  have hc := causeShown_hart h.val irq cause s h.val
  cases d with
  | some d => exact ⟨d, by rw [takeTrap_some hi, State.hart_withHart_same, hc]⟩
  | none => exact ⟨_, by rw [takeTrap_none hi, State.hart_withHart_same]; exact congrArg _ hc⟩

theorem withHart_lastCause (n : Nat) (f : HartCtx → HartCtx) (s : State) (i : Nat) :
    (s.withHart n f).f Fl.SYS_HARTSTAT_LASTCAUSE i = s.f Fl.SYS_HARTSTAT_LASTCAUSE i := by
  rw [State.withHart, showHart]
  split
  · rfl
  · rw [State.setB, State.f_setF_apart _ _ _ _ _ _ (by decide), State.f_setF_apart _ _ _ _ _ _ (by decide)]
    rfl

/-- The body of an executing instruction that traps. -/
theorem instr_traps {h : Hart} {s : State} {body : HartCtx → State → HRes} {cause : Nat} {d : Option Word}
    (hx : Executes h s)
    (hb : ∀ pc, body (s.hart h.val) (setPc h.val pc s) = .trap cause d (setPc h.val pc s)) :
    instr h.val body s =
      takeTrap h.val false cause d (setPc h.val (s.hart h.val).pc (setPc h.val ((s.hart h.val).pc + 4) s)) :=
  instr_trap hx.1 hx.2 (hb _)

theorem setPc_back_hart (h : Hart) (pc : Word) (s : State) :
    (setPc h.val (s.hart h.val).pc (setPc h.val pc s)).hart h.val = s.hart h.val := by
  rw [setPc_hart, setPc_hart]

/-- A trapped instruction with a free DETAIL. -/
theorem answers_trap_free {c : Instr} {h : Hart} {s : State} {body : HartCtx → State → HRes} {cause : Nat}
    {d : Option Word} (hx : Executes h s) (hi : (s.hart h.val).mode.getLsbD 5 = false)
    (he : exec c s = done (instr h.val body s))
    (hb : ∀ pc, body (s.hart h.val) (setPc h.val pc s) = .trap cause d (setPc h.val pc s)) :
    Answers c s fun t => ∃ w, TrapTaken (s.hart h.val) (t.hart h.val) false cause w := by
  refine answers_of_done he ?_
  have hh := setPc_back_hart h ((s.hart h.val).pc + 4) s
  have hin : (s.hart h.val).inTrap = false := hi
  rw [← hh] at hin
  obtain ⟨w, hw⟩ := takeTrap_hart (irq := false) (cause := cause) (d := d) hin
  rw [State.settle_hart, instr_traps hx hb, hw, hh]
  exact ⟨w, trapTaken_trapped _ _ _ _⟩

/-- A trapped instruction with a stated DETAIL. -/
theorem traps_of_body {c : Instr} {h : Hart} {s : State} {body : HartCtx → State → HRes} {cause : Nat} {d : Word}
    (hx : Executes h s) (hi : (s.hart h.val).mode.getLsbD 5 = false)
    (he : exec c s = done (instr h.val body s)) (hc : cause < 128)
    (hb : ∀ pc, body (s.hart h.val) (setPc h.val pc s) = .trap cause (some d) (setPc h.val pc s)) :
    Traps c h s cause d := by
  refine answers_of_done he ?_
  have hh := setPc_back_hart h ((s.hart h.val).pc + 4) s
  have hin : (s.hart h.val).inTrap = false := hi
  rw [← hh] at hin
  rw [instr_traps hx hb, takeTrap_some hin]
  refine ⟨?taken, fun k hk => ?others, ?cause, ?frame⟩
  case taken =>
    rw [State.settle_hart, State.hart_withHart_same, causeShown_hart, hh]
    exact trapTaken_trapped _ _ _ _
  case others =>
    rw [State.settle_hart, State.hart_withHart_ne _ _ hk, causeShown_hart, setPc_hart_ne _ _ hk, setPc_hart_ne _ _ hk]
  case cause =>
    rw [State.f_of_without (State.settle_settled _) _ (by decide), withHart_lastCause, causeShown,
      State.f_setF_same _ _ _ _ h.isLt (by decide)]
    change (0 * 128 + cause) % 2 ^ 8 = cause
    omega
  case frame =>
    rw [State.settle_without_hart, State.withHart_without_hart, causeShown, State.without_setF (by decide)]
    simp [setPc]

/-! ### What traps -/

theorem load_misaligned {n len : Nat} {a : Word} (x : HartCtx) (t : State) (ha : a.toNat % len ≠ 0)
    (k : Nat → State → HRes) : load n len a x t k = .trap 3 (some a) t := by
  simp [load, ha]

theorem store_misaligned {n len v : Nat} {a : Word} (x : HartCtx) (t : State) (ha : a.toNat % len ≠ 0)
    (k : State → HRes) : store n len a v x t k = .trap 3 (some a) t := by
  simp [store, ha]

theorem exclusive_misaligned {w : Bool} {a : Word} (t : State) (ha : a.toNat % 4 ≠ 0) (k : State → HRes) :
    exclusive w a t k = .trap 3 (some a) t := by
  simp [exclusive, ha]

theorem load_unmapped {n : Nat} {a : Word} {x : HartCtx} (t : State) (hs : x.sup = true)
    (hu : areaOf a.toNat = .unmapped) (k : Nat → State → HRes) : load n 1 a x t k = .trap 4 (some a) t := by
  simp [load, loadFault, HartCtx.allows, hs, hu, Nat.mod_one]

theorem store_unmapped {n v : Nat} {a : Word} {x : HartCtx} (t : State) (hs : x.sup = true)
    (hu : areaOf a.toNat = .unmapped) (k : State → HRes) : store n 1 a v x t k = .trap 5 (some a) t := by
  simp [store, storeFault, HartCtx.allows, hs, hu, Nat.mod_one]

theorem exclusive_unmapped {a : Word} (t : State) (ha : a.toNat % 4 = 0) (hu : areaOf a.toNat = .unmapped)
    (k : State → HRes) : exclusive false a t k = .trap 4 (some a) t := by
  have hs : inSram a.toNat 4 = false := by
    by_contra h
    have := areaOf_of_inSram (by decide) (Bool.of_not_eq_false h)
    rw [hu] at this
    cases this
  simp [exclusive, loadFault, ha, hs]

theorem control_program {n i : Nat} {rd : RegNum} {w : Option Word} {x : HartCtx} (t : State) (hs : x.sup = false) :
    control n rd i w x t = .trap 7 none t := by
  simp [control, hs]

end Sys2Proof.Machine

namespace Sys2Proof
open Sys2Proof.Machine

set_option Elab.async false

/-- Settles O17: the body of each of these instructions traps before it changes anything. -/
theorem hartTraps : Obligations.HartTraps := by
  intro h rd rs1 rs2 imm s hx hi
  refine ⟨fun hd => ?odd, fun hn => ?shift, fun ha => ?word, fun ha => ?half, fun hs hu => ?unmapped,
    fun hs => ?resume,
    fun hs => ?rdcw, fun hs => ?wrcw, ?svreq, answers_trap_free hx hi rfl fun _ => rfl⟩
  case odd =>
    have ho : oddPair rd = true := hd
    refine ⟨?_, ?_, ?_, ?_⟩
    all_goals exact traps_of_body hx hi rfl (by decide) fun _ => if_pos (by simp [ho])
  case shift =>
    have hc : (imm.toNat / 32 != 0) = true := by
      have : imm.toNat / 32 ≠ 0 := by omega
      simpa using this
    refine ⟨?_, ?_, ?_⟩
    all_goals exact traps_of_body hx hi rfl (by decide) fun _ => if_pos hc
  case word =>
    exact ⟨traps_of_body hx hi rfl (by decide) fun _ => load_misaligned _ _ ha _,
      traps_of_body hx hi rfl (by decide) fun _ => store_misaligned _ _ ha _,
      traps_of_body hx hi rfl (by decide) fun _ => exclusive_misaligned _ ha _⟩
  case half =>
    exact ⟨traps_of_body hx hi rfl (by decide) fun _ => load_misaligned _ _ ha _,
      traps_of_body hx hi rfl (by decide) fun _ => store_misaligned _ _ ha _⟩
  case unmapped =>
    exact ⟨traps_of_body hx hi rfl (by decide) fun _ => load_unmapped _ hs hu _,
      traps_of_body hx hi rfl (by decide) fun _ => store_unmapped _ hs hu _,
      fun ha => traps_of_body hx hi rfl (by decide) fun _ => exclusive_unmapped _ ha hu _⟩
  case resume => exact answers_trap_free hx hi rfl fun _ => if_pos (by simp [hs])
  case rdcw =>
    refine answers_trap_free (d := none) hx hi rfl fun pc => ?_
    rw [hs, Bool.false_and, if_neg (by decide), control_program _ hs]
  case wrcw => exact answers_trap_free hx hi rfl fun _ => control_program _ hs
  case svreq => exact traps_of_body hx hi rfl (by split <;> decide) fun _ => rfl

end Sys2Proof

/-! ## Policy harts: control words, waits and interrupts (R69, R72, R73) -/

namespace Sys2Proof.Machine

set_option Elab.async false

/-- A state that differs from `s` in hart `h` alone, beside what an instruction of a hart may touch. -/
def OnlyHart (h : Hart) (s u : State) (y : HartCtx) : Prop :=
  u.hart h.val = y ∧ (∀ k, k ≠ h.val → u.hart k = s.hart k) ∧ u.without hartPart = s.without hartPart

theorem OnlyHart.setHart {h : Hart} {s u : State} {y : HartCtx} (hu : OnlyHart h s u y) (f : HartCtx → HartCtx) :
    OnlyHart h s (u.setHart h.val f) (f y) := by
  obtain ⟨hh, ho, hf⟩ := hu
  refine ⟨by rw [State.hart_setHart_same, hh], fun k hk => ?_, by rw [State.setHart_without_hart, hf]⟩
  rw [State.hart_setHart_ne _ _ hk, ho k hk]

theorem onlyHart_setPc (h : Hart) (pc : Word) (s : State) :
    OnlyHart h s (setPc h.val pc s) { s.hart h.val with pc := pc } :=
  ⟨setPc_hart _ _ _, fun _ hk => setPc_hart_ne _ _ hk, State.setHart_without_hart _ _ _⟩

theorem OnlyHart.completes {c : Instr} {h : Hart} {s u : State} {body : HartCtx → State → HRes} {y : HartCtx}
    (hu : OnlyHart h s u y) (hx : Executes h s) (he : exec c s = done (instr h.val body s))
    (hb : body (s.hart h.val) (setPc h.val ((s.hart h.val).pc + 4) s) = .ok u)
    (hr : y.run = (s.hart h.val).run := by rfl) (hw : y.wait = (s.hart h.val).wait := by rfl)
    (hd : y.done = (s.hart h.val).done := by rfl) : Completes c h s y := by
  obtain ⟨hrun, hwait⟩ := State.hartRuns_run hx.1
  exact completes_of_state he hx hb hu.1 (hr.trans hrun) (hw.trans hwait) hd hu.2.1 hu.2.2

/-- Writing rd commutes with a change that reads and writes no general register. -/
theorem HartCtx.setR_of_apart {f : HartCtx → HartCtx} (hf : ∀ (x : HartCtx) l,
  f { x with g := l } = { f x with g := l })
    (x : HartCtx) (rd : RegNum) (v : Word) (hg : (f x).g = x.g := by rfl) : (f x).setR rd v = f (x.setR rd v) := by
  unfold HartCtx.setR
  split
  · rfl
  · exact (congrArg (fun l => ({ f x with g := l } : HartCtx)) (by rw [hg])).trans (hf x _).symm

/-! ### Control words -/

section
variable {h : Hart} {s : State} {rd rs1 : RegNum} {imm : BitVec 16} {f : HartCtx → HartCtx} {v : Word} {u : State}

/-- RDCW of a control word that reads as `v` and leaves `u`. -/
theorem completes_rdcw (hx : Executes h s) (hs : (s.hart h.val).sup = true) (hi : imm.toNat < 4096)
    (hr : cwRead h.val imm.toNat (setPc h.val ((s.hart h.val).pc + 4) s) = some (v, u))
    (hu : OnlyHart h s u (f (s.hart h.val))) (hf : ∀ (x : HartCtx) l, f { x with g := l } = { f x with g := l })
    (hg : ∀ x, (f x).g = x.g ∧ (f x).run = x.run ∧ (f x).wait = x.wait ∧ (f x).done = x.done) :
    Completes (.rdcw h rd rs1 imm) h s (f ((s.hart h.val).setR rd v)) := by
  obtain ⟨h1, h2, h3, h4⟩ := hg (s.hart h.val)
  rw [← HartCtx.setR_of_apart hf _ _ _ h1]
  refine (hu.setHart fun x => x.setR rd v).completes hx rfl ?_ (by simp [h2]) (by simp [h3]) (by simp [h4])
  simp only [Nat.div_eq_of_lt hi, Nat.mod_eq_of_lt hi, control, hs, hr]
  rfl

/-- WRCW of a control word that reads as `v`, where the new value leaves `u`. -/
theorem completes_wrcw (hx : Executes h s) (hs : (s.hart h.val).sup = true) (hi : imm.toNat < 4096)
    (hr : cwRead h.val imm.toNat (setPc h.val ((s.hart h.val).pc + 4) s) =
      some (v, setPc h.val ((s.hart h.val).pc + 4) s))
    (hc : cwWrite h.val imm.toNat ((s.hart h.val).r rs1) (setPc h.val ((s.hart h.val).pc + 4) s) = u)
    (hu : OnlyHart h s u (f (s.hart h.val))) (hf : ∀ (x : HartCtx) l, f { x with g := l } = { f x with g := l })
    (hg : ∀ x, (f x).g = x.g ∧ (f x).run = x.run ∧ (f x).wait = x.wait ∧ (f x).done = x.done) :
    Completes (.wrcw h rd rs1 imm) h s (f ((s.hart h.val).setR rd v)) := by
  obtain ⟨h1, h2, h3, h4⟩ := hg (s.hart h.val)
  rw [← HartCtx.setR_of_apart hf _ _ _ h1]
  refine (hu.setHart fun x => x.setR rd v).completes hx rfl ?_ (by simp [h2]) (by simp [h3]) (by simp [h4])
  simp only [Nat.mod_eq_of_lt hi, control, hs, hr, hc]
  rfl

end

/-- RDCW of a control word without a reading effect. -/
theorem completes_rdcw_plain {h : Hart} {s : State} {rd rs1 : RegNum} {imm : BitVec 16} {v : Word} (hx : Executes h s)
    (hs : (s.hart h.val).sup = true) (hi : imm.toNat < 4096)
    (hr : cwRead h.val imm.toNat (setPc h.val ((s.hart h.val).pc + 4) s) =
      some (v, setPc h.val ((s.hart h.val).pc + 4) s)) :
    Completes (.rdcw h rd rs1 imm) h s (wrote (s.hart h.val) rd v) :=
  completes_rdcw (f := fun x => { x with pc := (s.hart h.val).pc + 4 }) hx hs hi hr (onlyHart_setPc h _ s)
    (fun _ _ => rfl) fun _ => ⟨rfl, rfl, rfl, rfl⟩

theorem regionBaseIndex : ∀ k : Fin 8, ((0x010 : BitVec 16) + 2 * BitVec.ofNat 16 k.val).toNat = 16 + 2 * k.val := by
  decide

theorem regionAttrIndex : ∀ k : Fin 8, ((0x011 : BitVec 16) + 2 * BitVec.ofNat 16 k.val).toNat = 17 + 2 * k.val := by
  decide

theorem cwRead_region {n i : Nat} (h1 : 0x010 ≤ i) (h2 : i < 0x020) (s : State) :
    cwRead n i s = some ((if i % 2 = 0 then (s.hart n).rgnBase else (s.hart n).rgnAttr).toList.getD ((i - 0x010) /
      2) 0,
      s) := by
  interval_cases i <;> rfl

/-! ### Waits -/

theorem pendingIrq_setPc (h : Hart) (pc : Word) (s : State) :
    (setPc h.val pc s).pendingIrq h.val = s.pendingIrq h.val := by
  rw [State.pendingIrq, setPc_hart]
  rfl

theorem waitOver_setPc (h : Hart) (pc : Word) (s : State) (w : WaitState) :
    (setPc h.val pc s).waitOver h.val w = s.waitOver h.val w := by
  unfold State.waitOver
  rw [pendingIrq_setPc]
  rfl

section
variable {c : Instr} {h : Hart} {s : State} {w : WaitState} {body : HartCtx → State → HRes}
  (hx : Executes h s) (he : exec c s = done (instr h.val body s))
  (hb : ∀ u, body (s.hart h.val) u = .ok (waitFor h.val w u))
include hx he hb

/-- A wait that is over completes. -/
theorem completes_wait (ho : s.waitOver h.val w = true) :
    Completes c h s { s.hart h.val with pc := (s.hart h.val).pc + 4 } :=
  (onlyHart_setPc h _ s).completes hx he
    ((hb _).trans (congrArg HRes.ok (if_pos (by rw [waitOver_setPc, ho]))))

/-- A wait that is not over is taken up, and is not counted. -/
theorem answers_wait (ho : s.waitOver h.val w = false) (hw : w ≠ .none) :
    Answers c s fun t => t.hart h.val = { s.hart h.val with pc := (s.hart h.val).pc + 4, wait := w } := by
  have hu := (onlyHart_setPc h ((s.hart h.val).pc + 4) s).setHart fun x => { x with wait := w }
  have hw' : waitFor h.val w (setPc h.val ((s.hart h.val).pc + 4) s) =
      (setPc h.val ((s.hart h.val).pc + 4) s).setHart h.val fun x => { x with wait := w } :=
    if_neg (by rw [waitOver_setPc, ho]; decide)
  refine answers_of_done he ?_
  rw [State.settle_hart, instr_ok hx.1 hx.2 ((hb _).trans (congrArg HRes.ok hw')), retire, State.hart_withHart_same,
    hu.1]
  exact if_pos (by simp [hw])

end

/-! ### Interrupts and the end of a wait -/

theorem interrupt_ready {h : Hart} {s : State} (hr : (s.hart h.val).run = .running) (hc : s.hartsClocked = true)
    (hon : (s.hart h.val).mode.getLsbD 1 = true) (hi : (s.hart h.val).mode.getLsbD 5 = false) :
    ((s.hart h.val).run != .running || !s.hartsClocked || !(s.hart h.val).irqOn || (s.hart h.val).inTrap) = false :=
      by
  simp only [hr, hc, HartCtx.irqOn, HartCtx.inTrap, hon, hi]
  rfl

theorem endWait_hart (h : Hart) (s : State) :
    ∃ w d, (endWait h.val s).hart h.val = { s.hart h.val with wait := w, done := d } := by
  unfold endWait
  split
  · exact ⟨_, _, rfl⟩
  · exact ⟨_, _, State.hart_withHart_same _ _ _⟩

/-- A trap taken from a hart whose wait has ended is a trap taken from the hart. -/
theorem TrapTaken.of_wait {x y : HartCtx} {irq : Bool} {cause : Nat} {d : Word} {w : WaitState} {n : BitVec 64}
    (h : TrapTaken { x with wait := w, done := n } y irq cause d) : TrapTaken x y irq cause d := h

/-- The interrupt of a pending cause is a trap of that cause. -/
theorem answers_interrupt {h : Hart} {s : State} {cause : Nat} (hr : (s.hart h.val).run = .running)
    (hc : s.hartsClocked = true) (hon : (s.hart h.val).mode.getLsbD 1 = true)
    (hi : (s.hart h.val).mode.getLsbD 5 = false) (hp : s.pendingIrq h.val = some cause) :
    Answers (.interrupt h) s fun t => ∃ d, TrapTaken (s.hart h.val) (t.hart h.val) true cause d := by
  obtain ⟨w, n, he⟩ := endWait_hart h s
  have hin : ((endWait h.val s).hart h.val).inTrap = false := by rw [he]; exact hi
  obtain ⟨d, hd⟩ := takeTrap_hart (irq := true) (cause := cause) (d := none) hin
  have hint : Machine.interrupt h.val s = takeTrap h.val true cause none (endWait h.val s) := by
    simp only [Machine.interrupt, interrupt_ready hr hc hon hi, hp]
    rfl
  refine answers_of_done rfl ⟨d, ?_⟩
  rw [State.settle_hart, hint, hd, he]
  exact TrapTaken.of_wait (trapTaken_trapped true cause d _)

theorem pendingIrq_of_event {h : Hart} {s : State} (hm : (s.hart h.val).mode.getLsbD 2 = true)
    (he : bitOf s.activeHartLines h.val = true) : s.pendingIrq h.val = some 16 := by
  simp [State.pendingIrq, State.eventLine, hm, he]

theorem pendingIrq_of_alarm {h : Hart} {s : State}
    (hn : (s.hart h.val).mode.getLsbD 2 = false ∨ bitOf s.activeHartLines h.val = false)
    (hm : (s.hart h.val).mode.getLsbD 3 = true) (ha : s.reached (s.hart h.val).alarm = true) :
    s.pendingIrq h.val = some 17 := by
  have hne : ((s.hart h.val).mode.getLsbD 2 && s.eventLine h.val) = false :=
    Bool.and_eq_false_iff.mpr hn
  simp only [State.pendingIrq, hne, hm, ha]
  rfl

theorem pendingIrq_of_mailbox {h : Hart} {s : State}
    (hn : (s.hart h.val).mode.getLsbD 2 = false ∨ bitOf s.activeHartLines h.val = false)
    (ha : (s.hart h.val).mode.getLsbD 3 = false ∨ s.reached (s.hart h.val).alarm = false)
    (hm : (s.hart h.val).mode.getLsbD 4 = true) (hb : (s.hart h.val).inbox ≠ []) : s.pendingIrq h.val = some 18 := by
  have hne : ((s.hart h.val).mode.getLsbD 2 && s.eventLine h.val) = false :=
    Bool.and_eq_false_iff.mpr hn
  have hna : ((s.hart h.val).mode.getLsbD 3 && s.reached (s.hart h.val).alarm) = false :=
    Bool.and_eq_false_iff.mpr ha
  have hbe : (s.hart h.val).inbox.isEmpty = false := by simpa using hb
  simp only [State.pendingIrq, hne, hna, hm, hbe]
  rfl

/-- The end of a wait that is over counts the waiting instruction. -/
theorem waitEnd_over {h : Hart} {s : State} (hc : s.hartsClocked = true) (hw : (s.hart h.val).wait ≠ .none)
    (ho : s.waitOver h.val (s.hart h.val).wait = true) :
    (Machine.waitEnd h.val s).hart h.val = { s.hart h.val with wait := .none, done := (s.hart h.val).done + 1 } := by
  simp [Machine.waitEnd, endWait, hc, hw, ho]

end Sys2Proof.Machine

namespace Sys2Proof
open Sys2Proof.Machine

set_option Elab.async false

/-- Settles O19: control words by the model's reading and writing of them, RESUME, the waits, and DRAIN and ICINV. -/
theorem hartSystem : Obligations.HartSystem := by
  intro h rd rs1 s hx
  have hpc := onlyHart_setPc h ((s.hart h.val).pc + 4) s
  refine ⟨fun hs => ⟨?mode, ?trapBase, ?hart, ?alarm, ?clocks, ?count, ?high, ?regions, ?wmode, ?wtrap, ?walarm,
    ?whart,
    ?resume⟩, ?event, ?noEvent, ?time, ?noTime, hpc.completes hx rfl rfl, hpc.completes hx rfl rfl⟩
  case mode => exact completes_rdcw_plain hx hs (by decide) (by simp [cwRead, setPc_hart])
  case trapBase => exact completes_rdcw_plain hx hs (by decide) (by simp [cwRead, setPc_hart])
  case hart => exact completes_rdcw_plain hx hs (by decide) (by simp [cwRead])
  case alarm => exact completes_rdcw_plain hx hs (by decide) (by simp [cwRead, setPc_hart])
  case clocks =>
    have hu := hpc.setHart fun x => { x with cwLatch := some (4, (s.hart h.val).clocks.extractLsb' 32 32) }
    exact completes_rdcw (f := fun x => { x with
      pc := (s.hart h.val).pc + 4, cwLatch := some (4, (s.hart h.val).clocks.extractLsb' 32 32) }) hx hs (by decide)
      (by simp [cwRead, counterRead, setPc_hart]) hu (fun _ _ => rfl) fun _ => ⟨rfl, rfl, rfl, rfl⟩
  case count =>
    have hu := hpc.setHart fun x => { x with cwLatch := some (6, (s.hart h.val).done.extractLsb' 32 32) }
    exact completes_rdcw (f := fun x => { x with
      pc := (s.hart h.val).pc + 4, cwLatch := some (6, (s.hart h.val).done.extractLsb' 32 32) }) hx hs (by decide)
      (by simp [cwRead, counterRead, setPc_hart]) hu (fun _ _ => rfl) fun _ => ⟨rfl, rfl, rfl, rfl⟩
  case high =>
    intro w hw
    have hu := hpc.setHart fun x => { x with cwLatch := none }
    exact completes_rdcw (f := fun x => { x with pc := (s.hart h.val).pc + 4, cwLatch := none }) hx hs (by decide)
      (by simp [cwRead, counterRead, setPc_hart, hw]) hu (fun _ _ => rfl) fun _ => ⟨rfl, rfl, rfl, rfl⟩
  case regions =>
    intro k
    have hk := k.isLt
    have h0 := regionBaseIndex k
    have h1 := regionAttrIndex k
    constructor
    · refine completes_rdcw_plain hx hs (by omega) ?_
      rw [h0, cwRead_region (by omega) (by omega), if_pos (by omega), setPc_hart,
        show (16 + 2 * k.val - 0x010) / 2 = k.val by omega]
      simp [List.getD]
    · refine completes_rdcw_plain hx hs (by omega) ?_
      rw [h1, cwRead_region (by omega) (by omega), if_neg (by omega), setPc_hart,
        show (17 + 2 * k.val - 0x010) / 2 = k.val by omega]
      simp [List.getD]
  case wmode =>
    have hu := hpc.setHart fun x => { x with mode := ((s.hart h.val).mode &&& 0x20) ||| ((s.hart h.val).r rs1 &&&
      0x1F) }
    exact completes_wrcw (f := fun x => { x with
      pc := (s.hart h.val).pc + 4, mode := ((s.hart h.val).mode &&& 0x20) ||| ((s.hart h.val).r rs1 &&& 0x1F) }) hx hs
      (by decide) (by simp [cwRead, setPc_hart]) (by simp [cwWrite, State.setHart,
        setPc_hart]) hu (fun _ _ => rfl) fun _ => ⟨rfl, rfl, rfl, rfl⟩
  case wtrap =>
    have hu := hpc.setHart fun x => { x with trapBase := (s.hart h.val).r rs1 &&& 0xFFFFFE00 }
    exact completes_wrcw (f := fun x => { x with
      pc := (s.hart h.val).pc + 4, trapBase := (s.hart h.val).r rs1 &&& 0xFFFFFE00 }) hx hs (by decide)
      (by simp [cwRead, setPc_hart]) rfl hu (fun _ _ => rfl) fun _ => ⟨rfl, rfl, rfl, rfl⟩
  case walarm =>
    have hu := hpc.setHart fun x => { x with alarm := (s.hart h.val).r rs1 }
    exact completes_wrcw (f := fun x => { x with pc := (s.hart h.val).pc + 4, alarm := (s.hart h.val).r rs1 }) hx hs
      (by decide) (by simp [cwRead, setPc_hart]) rfl hu (fun _ _ => rfl) fun _ => ⟨rfl, rfl, rfl, rfl⟩
  case whart =>
    exact completes_wrcw (f := fun x => { x with pc := (s.hart h.val).pc + 4 }) hx hs (by decide)
      (by simp [cwRead]) rfl hpc (fun _ _ => rfl) fun _ => ⟨rfl, rfl, rfl, rfl⟩
  case resume =>
    have hu := hpc.setHart fun y => { y with mode := y.localWord 0x3FF4 &&& 0x1F, pc := y.localWord 0x3FF0 }
    exact hu.completes hx rfl (if_neg (by simp [hs]))
  case event =>
    intro hev
    refine completes_wait hx rfl (fun _ => rfl) ?_
    rcases hev with hev | hev
    · simp [State.waitOver, State.eventLine, hev]
    · simp [State.waitOver, hev]
  case noEvent =>
    intro hev hi
    exact answers_wait hx rfl (fun _ => rfl) (by simp [State.waitOver, State.eventLine, hev, hi]) (by decide)
  case time =>
    intro ht
    refine completes_wait hx rfl (fun _ => rfl) ?_
    rcases ht with ht | ht
    · simp only [State.waitOver, State.reached, ht, decide_true, Bool.or_true]
    · simp [State.waitOver, ht]
  case noTime =>
    intro ht hi
    have ho : s.waitOver h.val (.time ((s.hart h.val).r rs1)) = false := by
      simp only [State.waitOver, State.reached, hi, not_le.mpr ht]
      decide
    exact answers_wait hx rfl (fun _ => rfl) ho (by simp)

/-- Settles O20: the lowest enabled pending cause is taken as a trap, and a wait that is over ends. -/
theorem hartInterrupts : Obligations.HartInterrupts := by
  intro h s
  refine ⟨fun hr hc => ⟨fun hon hi => ⟨fun hm he => ?event, fun hn hm ha => ?alarm, fun hn ha hm hb => ?mailbox⟩,
    fun hoff => ?off⟩, fun hc hw => ⟨fun ho => ?ended, fun ho => ?waits, fun hm ha => ?alarmDue⟩⟩
  case event => exact answers_interrupt hr hc hon hi (pendingIrq_of_event hm he)
  case alarm => exact answers_interrupt hr hc hon hi (pendingIrq_of_alarm hn hm (decide_eq_true ha))
  case mailbox =>
    refine answers_interrupt hr hc hon hi (pendingIrq_of_mailbox hn ?_ hm hb)
    exact ha.imp_right fun h => decide_eq_false (not_le.mpr h)
  case off =>
    refine answers_of_done rfl ?_
    have hn : ((s.hart h.val).run != .running || !s.hartsClocked || !(s.hart h.val).irqOn ||
        (s.hart h.val).inTrap) = true := by
      rcases hoff with h1 | h5
      · simp only [HartCtx.irqOn, h1, Bool.not_false, Bool.or_true, Bool.true_or]
      · simp only [HartCtx.inTrap, h5, Bool.or_true]
    rw [State.settle_hart, Machine.interrupt, if_pos hn]
  case ended =>
    refine answers_of_done rfl ?_
    rw [State.settle_hart, waitEnd_over hc hw ho]
  case waits =>
    refine answers_of_done rfl ?_
    rw [State.settle_hart, Machine.waitEnd, if_neg (by simp [ho])]
  case alarmDue =>
    have hreached : s.reached (s.hart h.val).alarm = true := decide_eq_true ha
    have hp : (s.pendingIrq h.val).isSome = true := by
      by_cases hn : (s.hart h.val).mode.getLsbD 2 = true ∧ bitOf s.activeHartLines h.val = true
      · rw [pendingIrq_of_event hn.1 hn.2]; rfl
      · rw [pendingIrq_of_alarm ((not_and_or.mp hn).imp Bool.eq_false_of_not_eq_true Bool.eq_false_of_not_eq_true)
          hm hreached]; rfl
    refine answers_of_done rfl ?_
    rw [State.settle_hart, if_pos (by rw [hreached, hm]; rfl), waitEnd_over hc hw]
    simp only [State.waitOver, hp, Bool.true_or]

end Sys2Proof

/-! ## The register bus (R7, R13, R93): what a write and a read come to -/

namespace Sys2Proof.Machine

set_option Elab.async false

/-! ### Refused writes -/

theorem busWrite_misaligned {ini : Initiator} {sup : Bool} {a : Nat} (v : Word) (s : State) (h : a % 4 ≠ 0) :
    busWrite ini sup a v s = { s with busError := true } := by
  simp [busWrite, busFault, h]

theorem busWrite_unmapped {ini : Initiator} {sup : Bool} {a : Nat} (v : Word) (s : State) (h : blockAt a = none) :
    busWrite ini sup a v s = { s with busError := true } := by
  simp [busWrite, busFault, h]

theorem busWrite_program {n a : Nat} (v : Word) (s : State) (h : blockAt a = some .sys) :
    busWrite (.hart n) false a v s = { s with busError := true } := by
  simp [busWrite, busFault, h]

/-- A write to a block with registers of its own, outside the system and shroud blocks. -/
theorem busWrite_block {ini : Initiator} {sup : Bool} {a : Nat} {b : Blk} (v : Word) (s : State) (ha : a % 4 = 0)
    (hb : blockAt a = some b) (hsys : b ≠ .sys) (hsfy : b ≠ .sfy) :
    busWrite ini sup a v s =
      if s.writeForbidden ini b a then { s with busError := true }
      else if 0x40048000 ≤ a && a < 0x40050000 then { s with busError := true }
      else if 0x40050000 ≤ a && a < 0x40060000 then { s with busError := false }
      else if 0x40060000 ≤ a && a < 0x40080000 then
        coefficientWrite ini ((a - 0x40060000) / 0x10000) ((a - 0x40060000) / 0x40 % 1024) (a / 4 % 16) v
          { s with busError := false }
      else quantityWrite ini b a v { s with busError := false } := by
  simp only [busWrite, ha, hb]
  cases b
  case sys => exact absurd rfl hsys
  case sfy => exact absurd rfl hsfy
  all_goals rfl

theorem busWrite_forbidden {ini : Initiator} {sup : Bool} {a : Nat} {b : Blk} (v : Word) (s : State)
    (hb : blockAt a = some b) (hsys : b ≠ .sys) (hsfy : b ≠ .sfy) (hf : s.writeForbidden ini b a = true) :
    busWrite ini sup a v s = { s with busError := true } := by
  by_cases ha : a % 4 = 0
  · rw [busWrite_block v s ha hb hsys hsfy]
    exact if_pos hf
  · exact busWrite_misaligned v s ha

/-- The windows of the loop engine lie in its block. -/
theorem not_lpeWindow {a : Nat} {b : Blk} (hb : blockAt a = some b) (hl : b ≠ .lpe) :
    ¬(0x40048000 ≤ a ∧ a < 0x40080000) := by
  rintro ⟨h1, h2⟩
  have h : blockAt a = some .lpe := by
    simp [blockAt, show ¬a < 0x40000000 by omega, show ¬a < 0x40010000 by omega, show ¬a < 0x40020000 by omega,
      show ¬a < 0x40040000 by omega, h2]
  exact hl (Option.some.inj (hb.symm.trans h))

/-- An allowed write outside the windows of the loop engine. -/
theorem busWrite_allowed {ini : Initiator} {sup : Bool} {a : Nat} {b : Blk} (v : Word) (s : State) (ha : a % 4 = 0)
    (hb : blockAt a = some b) (hsys : b ≠ .sys) (hsfy : b ≠ .sfy) (hf : s.writeForbidden ini b a = false)
    (hl : ¬(0x40048000 ≤ a ∧ a < 0x40080000)) :
    busWrite ini sup a v s = quantityWrite ini b a v { s with busError := false } := by
  rw [busWrite_block v s ha hb hsys hsfy, if_neg (ne_true_of_eq_false hf), if_neg, if_neg, if_neg]
  · simpa using fun h1 => by omega
  · simpa using fun h1 => by omega
  · simpa using fun h1 => by omega

theorem State.mayWrite_other {s : State} {f : Fld} {n : Nat} (h4 : s.f f < 4) (hn : s.f f ≠ n) :
    s.mayWrite f (.hart n) = false := by
  simp [State.mayWrite, Nat.not_le.mpr h4, hn]

theorem State.mayWrite_free {s : State} {f : Fld} {n : Nat} (h4 : 4 ≤ s.f f) : s.mayWrite f (.hart n) = true := by
  simp [State.mayWrite, h4]

theorem writeForbidden_owner {s : State} {n a : Nat} {b : Blk} {f : Fld} (hf : b.owner = some f)
    (hm : s.mayWrite f (.hart n) = false) : s.writeForbidden (.hart n) b a = true := by
  simp [State.writeForbidden, hf, hm]

theorem writeForbidden_guest {s : State} {n a i : Nat} {b : Blk} {r : Rg} (hr : rgAt a = some (r, i))
    (hg : guestRegister r i = true) (ht : s.b Fl.LPE_TAKE_ACTIVE = false) : s.writeForbidden (.hart n) b a = true := by
  simp [State.writeForbidden, hr, hg, ht]

theorem writeForbidden_allowed {s : State} {n a i : Nat} {b : Blk} {r : Rg} {f : Fld} (hf : b.owner = some f)
    (hm : s.mayWrite f (.hart n) = true) (hr : rgAt a = some (r, i))
    (hg : guestRegister r i = true → s.b Fl.LPE_TAKE_ACTIVE = true) (hret : s.returnBlocks a = false) :
    s.writeForbidden (.hart n) b a = false := by
  simp only [State.writeForbidden, hf, hm, hr, hret]
  cases hgr : guestRegister r i
  · rfl
  · rw [hg hgr]
    rfl

/-- A refused write sets BUSERROR and changes nothing but what follows at once. -/
theorem answers_refused {c : Instr} {s u : State} (he : exec c s = done u) (hu : u = { s with busError := true }) :
    Answers c s fun t => t.busError = true ∧
      t.without settledPart = ({ s with busError := true } : State).without settledPart := by
  refine answers_of_done he ?_
  rw [hu]
  exact ⟨State.busError_of_without (State.settle_settled _) rfl, State.settle_settled _⟩

/-! ### Plain writes -/

/-- What a write leaves in a register without an action of its own (R9). -/
theorem getLsbD_plainWrite {r : Rg} {i j : Nat} (v : Word) (s : State) (hi : i < r.count) (hj : j < 32) :
    ((plainWrite r i v s).reg r i).getLsbD j = if r.rw.getLsbD j then v.getLsbD j
      else (s.reg r i).getLsbD j && !(r.w1c.getLsbD j && v.getLsbD j) := by
  rw [plainWrite, State.reg_setReg_same _ _ _ _ hi]
  simp only [BitVec.getLsbD_or, BitVec.getLsbD_and, BitVec.getLsbD_not, hj, decide_true, Bool.true_and]
  cases r.rw.getLsbD j <;> simp

theorem quantityWrite_single {ini : Initiator} {b : Blk} {a i : Nat} {r : Rg} {v : Word} {s : State}
    (hr : rgAt a = some (r, i)) (hl : isLow a = false) (hh : isHigh a = false) :
    quantityWrite ini b a v s = blockWrite b r i v s := by
  simp [quantityWrite, hr, hl, hh]

theorem blockWrite_plain {b : Blk} {r : Rg} {i : Nat} {v : Word} {s : State} (h : b.hook r i v s = none) :
    blockWrite b r i v s = plainWrite r i v s := by
  simp [blockWrite, h]

/-! ### The shroud's configuration (R420) -/

/-- What a write to a configuration register of the shroud may change beside that register. -/
def shroudShown : Part where
  regs := regsIn [R.EVT_PEND, R.SFY_PSTAT, R.SFY_STAT, R.SFY_TGT3]
  sfy := true

theorem tripOnly_writes (s : State) : (tripOnly s).without shroudShown = s.without shroudShown := by
  unfold tripOnly
  refine State.without_each (fun t s => ?_) s 64
  simp (disch := decide) only [sfyCause_writes, State.without_setB, State.without_ite, ite_self]

theorem refreshPorts_writes (s : State) : (s.each 48 refreshPort).without shroudShown = s.without shroudShown :=
  State.without_each (fun p s => by simp (disch := decide) only [refreshPort_writes]) s 48

theorem sfyWrite_configuration {r : Rg} {i : Nat} {v : Word} {s : State} (hsrc : r ≠ R.SFY_SRC)
    (htgt : r ≠ R.SFY_TGT3) : sfyWrite r i v s = (tripOnly (plainWrite r i v s)).each 48 refreshPort := by
  simp [sfyWrite, hsrc, htgt]

/-- The shroud's registers that its cores write as configuration. -/
def shroudConfig : List Rg :=
  [R.SFY_ZONE0, R.SFY_PCO, R.SFY_PFB, R.SFY_PIMD, R.SFY_PTMP, R.SFY_PTIM, R.SFY_TGT0, R.SFY_TGT1, R.SFY_TGT2,
    R.SFY_LIMA, R.SFY_LIMB, R.SFY_LIMC, R.SFY_FBCFG]

theorem shroudConfig_spec : ∀ r ∈ shroudConfig, r ≠ R.SFY_SRC ∧ r ≠ R.SFY_TGT3 ∧ r.w1c = 0 ∧
    (!shroudShown.regs r.addr && decide (r.count ≤ 65536)) = true := by decide

theorem getLsbD_sfyWrite {r : Rg} {i j : Nat} {v : Word} {s : State} (hi : i < r.count) (hj : j < 32)
    (hr : r ∈ shroudConfig) :
    ((sfyWrite r i v s).reg r i).getLsbD j = if r.rw.getLsbD j then v.getLsbD j else (s.reg r i).getLsbD j := by
  obtain ⟨hsrc, htgt, hw1c, hout⟩ := shroudConfig_spec r hr
  have hw := (refreshPorts_writes (tripOnly (plainWrite r i v s))).trans (tripOnly_writes _)
  rw [sfyWrite_configuration hsrc htgt, State.reg_of_without hw i hout, getLsbD_plainWrite v s hi hj, hw1c]
  simp

end Sys2Proof.Machine

namespace Sys2Proof
open Sys2Proof.Machine

set_option Elab.async false

/-- Settles O1: the refused writes, the plain ones of the blocks, and those of the shroud's cores. -/
theorem registerWrites : Obligations.RegisterWrites := by
  intro n a v s
  refine ⟨fun ha => ?misaligned, fun hb => ?unmapped, fun hb hs => ?program, fun b f hb hf h4 hn => ?foreign,
    fun b r i hb hsys hsfy hr hg ht => ?guest, fun ha hb => ?shroud,
    fun b f r i ha hb hf h4 hl hret hr hg hi hlow hhigh hhook => ?plain,
    fun ini r i hini hrun ha hr hi hmem hb => ?core⟩
  case misaligned => exact answers_refused rfl (busWrite_misaligned v s ha)
  case unmapped => exact answers_refused rfl (busWrite_unmapped v s hb)
  case program =>
    refine answers_refused rfl ?_
    rw [initiatorWrite, hs]
    exact busWrite_program v s hb
  case foreign =>
    have hsys : b ≠ .sys := by rintro rfl; cases hf
    have hsfy : b ≠ .sfy := by rintro rfl; cases hf
    exact answers_refused rfl (busWrite_forbidden v s hb hsys hsfy (writeForbidden_owner hf (s.mayWrite_other h4 hn)))
  case guest => exact answers_refused rfl (busWrite_forbidden v s hb hsys hsfy (writeForbidden_guest hr hg ht))
  case shroud =>
    refine answers_of_done rfl ?_
    rw [State.busError_of_without (State.settle_settled _) rfl, initiatorWrite, busWrite, hb]
    simp [ha, sfyStore, foreignStore, busFault]
  case plain =>
    have hsys : b ≠ .sys := by rintro rfl; cases hf
    have hsfy : b ≠ .sfy := by rintro rfl; cases hf
    refine ⟨_, rfl, ?_⟩
    rw [initiatorWrite, busWrite_allowed v s ha hb hsys hsfy (writeForbidden_allowed hf (s.mayWrite_free h4) hr hg hret)
      (not_lpeWindow hb hl), quantityWrite_single hr hlow hhigh, blockWrite_plain hhook]
    exact ⟨State.setReg_busError _ _ _ _, fun j hj => getLsbD_plainWrite v { s with busError := false } hi hj⟩
  case core =>
    have hw : initiatorWrite ini a v s = sfyWrite r i v { s with busError := false } := by
      simp only [List.mem_cons, List.not_mem_nil, or_false] at hini
      rcases hini with rfl | rfl
      all_goals simp [initiatorWrite, busWrite, ha, hb, sfyStore, hrun, hr]
    obtain ⟨hsrc, htgt, -, -⟩ := shroudConfig_spec r hmem
    refine ⟨_, rfl, ?_⟩
    rw [hw]
    refine ⟨?_, fun j hj => getLsbD_sfyWrite hi hj hmem⟩
    rw [sfyWrite_configuration hsrc htgt, State.busError_of_without (refreshPorts_writes _) rfl,
      State.busError_of_without (tripOnly_writes _) rfl]
    exact State.setReg_busError _ _ _ _

end Sys2Proof

/-! ## 64-bit quantities (R13), event clearing and the quad SPI port (R580, R581, R595) -/

namespace Sys2Proof.Machine

set_option Elab.async false

/-! ### Latches -/

theorem find_latchDrop (l : List Latch) (ini : Initiator) (a : Nat) :
    (latchDrop l ini).find? (fun x => x.initiator == iniCode ini && x.addr == a) = none := by
  rw [latchDrop, List.find?_filter, List.find?_eq_none]
  intro x _ hx
  simp only [Bool.and_eq_true, bne_iff_ne, beq_iff_eq, decide_eq_true_eq] at hx
  exact hx.1 hx.2.1

theorem latchFind_drop (l : List Latch) (ini : Initiator) (a : Nat) : latchFind (latchDrop l ini) ini a = none := by
  rw [latchFind, find_latchDrop, Option.map_none]

theorem latchFind_load_same (l : List Latch) (ini : Initiator) (a : Nat) (w : Word) :
    latchFind (latchLoad l ini a w) ini a = some w := by
  simp [latchFind, latchLoad, List.find?_append, find_latchDrop]

theorem latchFind_load_other (l : List Latch) (ini : Initiator) {a b : Nat} (w : Word) (h : b ≠ a) :
    latchFind (latchLoad l ini a w) ini b = none := by
  simp [latchFind, latchLoad, List.find?_append, find_latchDrop, h.symm]

/-! ### Reading a quantity -/

theorem isHigh_of_low {a : Nat} (h : isLow a = true) : isHigh (a + 4) = true := by
  simp [isHigh, h]

theorem initiatorRead_hart (n a : Nat) (s : State) : initiatorRead (.hart n) a s = busRead (.hart n) a s := rfl

theorem busRead_low {ini : Initiator} {a : Nat} (s : State) (ha : a % 4 = 0) (hb : (blockAt a).isSome = true)
    (hl : isLow a = true) :
    busRead ini a s = { s with
      busError := false, readData := s.wordAt ini a, latches := latchLoad s.latches ini a (s.wordAt ini (a + 4)) } := by
  have hn : ¬(a % 4 != 0 || (blockAt a).isNone) = true := by simp [ha, Option.isSome_iff_ne_none.mp hb]
  rw [busRead, if_neg hn]
  exact if_pos hl

theorem busRead_high_latched {ini : Initiator} {a : Nat} {w : Word} (s : State) (ha : a % 4 = 0)
    (hb : (blockAt (a + 4)).isSome = true) (hl : isLow a = true) (hn : isLow (a + 4) = false)
    (hw : latchFind s.latches ini a = some w) :
    busRead ini (a + 4) s = { s with busError := false, readData := w, latches := latchDrop s.latches ini } := by
  have hm : ¬((a + 4) % 4 != 0 || (blockAt (a + 4)).isNone) = true := by
    simp [show (a + 4) % 4 = 0 by omega, Option.isSome_iff_ne_none.mp hb]
  rw [busRead, if_neg hm]
  simp [hn, isHigh_of_low hl, hw]

theorem busRead_high_live {ini : Initiator} {a : Nat} (s : State) (ha : a % 4 = 0)
    (hb : (blockAt (a + 4)).isSome = true) (hl : isLow a = true) (hn : isLow (a + 4) = false)
    (hw : latchFind s.latches ini a = none) :
    busRead ini (a + 4) s = { s with busError := false, readData := s.wordAt ini (a + 4) } := by
  have hm : ¬((a + 4) % 4 != 0 || (blockAt (a + 4)).isNone) = true := by
    simp [show (a + 4) % 4 = 0 by omega, Option.isSome_iff_ne_none.mp hb]
  rw [busRead, if_neg hm]
  simp [hn, isHigh_of_low hl, hw]

/-! ### Writing a quantity -/

theorem isLow_rgAt {a : Nat} (h : isLow a = true) : ∃ r i, rgAt a = some (r, i) := by
  unfold isLow at h
  split at h
  · exact ⟨_, _, ‹_›⟩
  · cases h

theorem quantityWrite_low {ini : Initiator} {b : Blk} {a : Nat} (v : Word) (s : State) (hl : isLow a = true) :
    quantityWrite ini b a v s = { s with holds := latchLoad s.holds ini a v } := by
  obtain ⟨r, i, hr⟩ := isLow_rgAt hl
  simp [quantityWrite, hr, hl]

/-- A register whose bits are all RW takes the word written. -/
theorem plainWrite_full {r : Rg} (hrw : r.rw = BitVec.allOnes 32) (i : Nat) (v : Word) (s : State) :
    plainWrite r i v s = s.setReg r i v := by
  rw [plainWrite, hrw, BitVec.not_allOnes, BitVec.and_zero, BitVec.zero_and, BitVec.and_allOnes, BitVec.zero_or]

/-- The quantities that programs write: low and high word, number of members, block. -/
def writtenQuantities : List (Rg × Rg × Nat × Blk) :=
  [(R.MTR_BNDL, R.MTR_BNDH, 1, .mtr), (R.TIM_CALSETL, R.TIM_CALSETH, 1, .tim), (R.EST_PACKIDL, R.EST_PACKIDH, 9, .est)]

theorem writtenQuantities_spec : ∀ q ∈ writtenQuantities,
    q.1.rw = BitVec.allOnes 32 ∧ q.2.1.rw = BitVec.allOnes 32 ∧ q.2.2.1 ≤ q.1.count ∧ q.2.2.1 ≤ q.2.1.count ∧
      q.2.1.apart q.1 = true ∧ q.1.apart q.2.1 = true ∧
      (!settledPart.regs q.1.addr && decide (q.1.count ≤ 65536)) = true ∧
      (!settledPart.regs q.2.1.addr && decide (q.2.1.count ≤ 65536)) = true ∧ q.2.2.2 ≠ .sys ∧ q.2.2.2 ≠ .sfy := by
  decide

theorem writtenQuantities_place : ∀ q ∈ writtenQuantities, ∀ i < q.2.2.1,
    rgAt (q.1.addrAt i) = some (q.1, i) ∧ rgAt (q.1.addrAt i + 4) = some (q.2.1, i) ∧
      blockAt (q.1.addrAt i + 4) = some q.2.2.2 := by
  decide

theorem writtenQuantities_hook {q : Rg × Rg × Nat × Blk} (hq : q ∈ writtenQuantities) (i : Nat) (v : Word) (s : State) :
    q.2.2.2.hook q.1 i v s = none ∧ q.2.2.2.hook q.2.1 i v s = none := by
  simp only [writtenQuantities, List.mem_cons, List.not_mem_nil, or_false] at hq
  rcases hq with rfl | rfl | rfl
  all_goals exact ⟨rfl, rfl⟩

theorem blockWrite_low {q : Rg × Rg × Nat × Blk} (hq : q ∈ writtenQuantities) (i : Nat) (v : Word) (s : State) :
    blockWrite q.2.2.2 q.1 i v s = s.setReg q.1 i v := by
  rw [blockWrite_plain (writtenQuantities_hook hq i v s).1, plainWrite_full (writtenQuantities_spec q hq).1]

theorem blockWrite_high {q : Rg × Rg × Nat × Blk} (hq : q ∈ writtenQuantities) (i : Nat) (v : Word) (s : State) :
    blockWrite q.2.2.2 q.2.1 i v s = s.setReg q.2.1 i v := by
  rw [blockWrite_plain (writtenQuantities_hook hq i v s).2, plainWrite_full (writtenQuantities_spec q hq).2.1]

section
variable {q : Rg × Rg × Nat × Blk} {ini : Initiator} {i : Nat} (hq : q ∈ writtenQuantities) (hi : i < q.2.2.1)
  (hl : isLow (q.1.addrAt i) = true) (hn : isLow (q.1.addrAt i + 4) = false) (v : Word) (s : State)
include hq hi hl hn

/-- The high word of a written quantity whose low word is held writes both words. -/
theorem quantityWrite_held {low : Word} (hw : latchFind s.holds ini (q.1.addrAt i) = some low) :
    quantityWrite ini q.2.2.2 (q.1.addrAt i + 4) v s =
      (({ s with holds := latchDrop s.holds ini } : State).setReg q.1 i low).setReg q.2.1 i v := by
  obtain ⟨hrl, hrh, -⟩ := writtenQuantities_place q hq i hi
  rw [← blockWrite_high hq, ← blockWrite_low hq]
  simp [quantityWrite, hrl, hrh, hn, isHigh_of_low hl, hw]

theorem quantityWrite_unheld (hw : latchFind s.holds ini (q.1.addrAt i) = none) :
    quantityWrite ini q.2.2.2 (q.1.addrAt i + 4) v s = s.setReg q.2.1 i v := by
  obtain ⟨hrl, hrh, -⟩ := writtenQuantities_place q hq i hi
  rw [← blockWrite_high hq]
  simp [quantityWrite, hrh, hn, isHigh_of_low hl, hw]

end

/-! ### Clearing events (R595) -/

theorem testBit_foldl_setBit (p : Nat → Bool) (l : List Nat) (m i : Nat) :
    bitOf (l.foldl (fun m i => if p i then setBit m i else m) m) i = (bitOf m i || (l.contains i && p i)) := by
  induction l generalizing m with
  | nil => simp
  | cons k l ih =>
    rw [List.foldl_cons, ih]
    by_cases hk : i = k
    · subst hk
      cases p i <;> simp [bitOf, setBit]
    · cases p k <;> simp [bitOf, setBit, hk, Nat.testBit_two_pow, Ne.symm hk]

theorem bitOf_field_mod {v w i : Nat} (h : i < w) : bitOf (v % 2 ^ w) i = bitOf v i := by
  simp [bitOf, Nat.testBit_mod_two_pow, h]

/-- What clearing leaves of a pending bit. -/
theorem bitOf_eventClear {j i : Nat} (mask : Nat) (s : State) (hj : j < 4) (hi : i < 32) :
    bitOf ((eventClear j mask s).f Fl.EVT_PEND_PEND j) i =
      (bitOf (s.f Fl.EVT_PEND_PEND j) i && (!bitOf mask i || s.heldSource (32 * j + i))) := by
  have hc : j < Fl.EVT_PEND_PEND.reg.count := lt_of_lt_of_le hj (by decide)
  have hf : bitOf 0xFFFFFFFF i = true := by
    rw [bitOf, show 0xFFFFFFFF = 2 ^ 32 - 1 from rfl, Nat.testBit_two_pow_sub_one, decide_eq_true hi]
  rw [eventClear, if_neg (by omega)]
  simp only
  rw [State.f_setF_same _ _ _ _ hc (by decide), show Fl.EVT_PEND_PEND.width = 32 from rfl, bitOf_field_mod hi]
  have hor : ∀ x y : Nat, bitOf (x ||| y) i = (bitOf x i || bitOf y i) := fun x y => Nat.testBit_or x y i
  have hand : ∀ x y : Nat, bitOf (x &&& y) i = (bitOf x i && bitOf y i) := fun x y => Nat.testBit_and x y i
  have hxor : ∀ x y : Nat, bitOf (x ^^^ y) i = (bitOf x i ^^ bitOf y i) := fun x y => Nat.testBit_xor x y i
  rw [hor, hand, hxor, hf, testBit_foldl_setBit, hand]
  simp only [List.contains_eq_mem, List.mem_range, hi]
  cases bitOf (s.f Fl.EVT_PEND_PEND j) i <;> cases bitOf mask i <;> simp [bitOf]

theorem pend_place : ∀ j < 4, (R.EVT_PEND.addrAt j) % 4 = 0 ∧ blockAt (R.EVT_PEND.addrAt j) = some .evt ∧
    rgAt (R.EVT_PEND.addrAt j) = some (R.EVT_PEND, j) ∧ isLow (R.EVT_PEND.addrAt j) = false ∧
    isHigh (R.EVT_PEND.addrAt j) = false ∧ guestRegister R.EVT_PEND j = false := by decide

/-- A hart that may write the event router clears what its mask names. -/
theorem initiatorWrite_pend {n j : Nat} (mask : Word) {s : State} (hj : j < 4)
    (hm : s.mayWrite Fl.SYS_OWNER0_EVT (.hart n) = true) (hret : s.returnBlocks (R.EVT_PEND.addrAt j) = false) :
    initiatorWrite (.hart n) (R.EVT_PEND.addrAt j) mask s = eventClear j mask.toNat { s with busError := false } := by
  obtain ⟨ha, hb, hr, hl, hh, hg⟩ := pend_place j hj
  have hf := writeForbidden_allowed (b := .evt) rfl hm hr (by simp [hg]) hret
  rw [initiatorWrite, busWrite_allowed mask s ha hb (by decide) (by decide) hf (not_lpeWindow hb (by decide)),
    quantityWrite_single hr hl hh]
  rfl

/-! ### The quad SPI window (R580, R581) -/

theorem State.pcie_of_qspi {s : State} (h : s.sys.hsel ≠ 0) : s.pcie = false := by
  simpa [State.pcie] using h

theorem State.dma_byte {s : State} {a : Nat} {l : List Byte} (hr : s.readOnly a l.length = false) (b : Nat) :
    (s.dma a l).byte b = (s.setBytes a l).byte b := by
  rw [State.dma, if_neg (ne_true_of_eq_false hr)]
  exact State.byte_congr (dropReservations_mem _ _ _ _) b

/-- Bytes written through the window go to SRAM at its base. -/
theorem qspiWrite_window {a : Nat} {l : List Byte} {s : State} (hq : s.sys.hsel ≠ 0) (hr : s.hostReady = true)
    (ha : 0x800000 ≤ a) (hl : a - 0x800000 + l.length ≤ s.windowSize) :
    Machine.qspiWrite a l s = s.dma (s.windowBase + (a - 0x800000)) l := by
  have hlen : l.length ≤ s.windowSize - (a - 0x800000) := by omega
  rw [Machine.qspiWrite, State.pcie_of_qspi hq, hr]
  simp only [Bool.not_true, Bool.or_self, Bool.false_eq_true, if_false, show ¬a < 0x10000 by omega, ha, if_true]
  rw [hostWindowWrite, List.take_of_length_le hlen]

theorem State.qspiByte_window {s : State} {a : Nat} (ha : 0x800000 ≤ a) (i : Nat) :
    s.qspiByte (a + i) = if a - 0x800000 + i < s.windowSize then s.byte (s.windowBase + (a - 0x800000) + i) else 0 := by
  have h : a + i - 0x800000 = a - 0x800000 + i := by omega
  rw [State.qspiByte, if_neg (by omega), if_pos (by omega), State.hostWindowByte, h, Nat.add_assoc]

end Sys2Proof.Machine

namespace Sys2Proof
open Sys2Proof.Machine

set_option Elab.async false

/-- Settles O2: reading and writing the words of a quantity, by what the latch and the holding register hold. -/
theorem quantities : Obligations.Quantities := by
  intro n a v s hl ha hb hb4 hn
  have hh := isHigh_of_low hl
  refine ⟨?readLow, fun w hw => ?readLatched, fun hw => ?readLive, fun b hblk hsys hsfy hf hwin => ?writeLow,
    fun rl rh k i b hq hi hai hblk hf => ?writeHigh⟩
  case readLow =>
    refine answers_of_done (congrArg done (if_pos hl)) ?_
    rw [State.settle_readData, State.busError_of_without (State.settle_settled _) rfl,
      State.latches_of_without (State.settle_settled _) rfl, initiatorRead_hart, busRead_low s ha hb hl]
    exact ⟨rfl, rfl, latchFind_load_same _ _ _ _⟩
  case readLatched =>
    refine answers_of_done (congrArg done (if_pos hh)) ?_
    rw [State.settle_readData, State.latches_of_without (State.settle_settled _) rfl, initiatorRead_hart,
      busRead_high_latched s ha hb4 hl hn hw]
    exact ⟨rfl, latchFind_drop _ _ _⟩
  case readLive =>
    refine answers_of_done (congrArg done (if_pos hh)) ?_
    rw [State.settle_readData, State.latches_of_without (State.settle_settled _) rfl, initiatorRead_hart,
      busRead_high_live s ha hb4 hl hn hw]
    exact ⟨rfl, rfl⟩
  case writeLow =>
    refine answers_of_done (congrArg done (if_pos hl)) ?_
    rw [State.holds_of_without (State.settle_settled _) rfl, initiatorWrite,
      busWrite_allowed v s ha hblk hsys hsfy hf hwin, quantityWrite_low v _ hl]
    refine ⟨latchFind_load_same _ _ _ _, fun l hne => latchFind_load_other _ _ _ hne, fun r i hr hc => ?_⟩
    exact State.reg_of_without (State.settle_settled _) i (by simp [hr, hc])
  case writeHigh =>
    subst hai
    obtain ⟨B, hmem⟩ : ∃ B, (rl, rh, k, B) ∈ writtenQuantities := by
      simp only [List.mem_cons, List.not_mem_nil, or_false] at hq
      rcases hq with h | h | h
      · cases h
        exact ⟨.mtr, by simp [writtenQuantities]⟩
      · cases h
        exact ⟨.tim, by simp [writtenQuantities]⟩
      · cases h
        exact ⟨.est, by simp [writtenQuantities]⟩
    obtain ⟨-, -, hcl, hch, hhl, hlh, hsl, hsh, hsys, hsfy⟩ := writtenQuantities_spec _ hmem
    obtain ⟨-, -, hplace⟩ := writtenQuantities_place _ hmem i hi
    obtain rfl : B = b := Option.some.inj (hplace.symm.trans hblk)
    have hwin : ¬(0x40048000 ≤ rl.addrAt i + 4 ∧ rl.addrAt i + 4 < 0x40080000) :=
      not_lpeWindow hblk (by rintro rfl; simp [writtenQuantities] at hmem)
    have hw := busWrite_allowed (sup := (s.hart n).sup) v s (by omega) hblk hsys hsfy hf hwin
    constructor
    · intro low hlow
      have hwrite := hw.trans (quantityWrite_held hmem hi hl hn v { s with busError := false } hlow)
      refine answers_of_done (congrArg done (if_pos hh)) ?_
      rw [initiatorWrite, hwrite, State.reg_of_without (State.settle_settled _) i hsl,
        State.reg_of_without (State.settle_settled _) i hsh, State.holds_of_without (State.settle_settled _) rfl,
        State.reg_setReg_apart _ _ _ _ _ _ hhl, State.reg_setReg_same _ _ _ _ (lt_of_lt_of_le hi hcl),
        State.reg_setReg_same _ _ _ _ (lt_of_lt_of_le hi hch), State.setReg_holds, State.setReg_holds]
      exact ⟨rfl, rfl, latchFind_drop _ _ _⟩
    · intro hlow
      have hwrite := hw.trans (quantityWrite_unheld hmem hi hl hn v { s with busError := false } hlow)
      refine answers_of_done (congrArg done (if_pos hh)) ?_
      rw [initiatorWrite, hwrite, State.reg_of_without (State.settle_settled _) i hsl,
        State.reg_of_without (State.settle_settled _) i hsh, State.reg_setReg_apart _ _ _ _ _ _ hhl,
        State.reg_setReg_same _ _ _ _ (lt_of_lt_of_le hi hch)]
      exact ⟨rfl, rfl⟩

/-- Settles O4: the event mask through the bus, and the bytes of the window both ways. -/
theorem eventsAndQspi : Obligations.EventsAndQspi := by
  intro s
  refine ⟨fun n j mask hj hm hret => ?clear, fun a l hq hr ha hl hro => ?write, fun a n hq hr ha => ?read⟩
  case clear =>
    refine ⟨_, congrArg done (if_pos hj), fun i hi => ?_⟩
    rw [initiatorWrite_pend mask hj hm hret]
    exact bitOf_eventClear mask.toNat { s with busError := false } hj hi
  case write =>
    refine answers_of_done rfl ⟨fun i hi => ?_, fun b hb => ?_⟩
    · rw [State.settle_byte, qspiWrite_window hq hr ha hl, State.dma_byte hro, State.byte_setBytes_inside _ _ _ _ hi]
    · rw [State.settle_byte, qspiWrite_window hq hr ha hl, State.dma_byte hro, State.byte_setBytes_outside _ _ _ _ hb]
  case read =>
    refine ⟨_, rfl, ?_⟩
    simp only [Machine.qspiRead, State.pcie_of_qspi hq, hr, State.qspiByte_window ha, if_true, Bool.false_eq_true,
      if_false]

end Sys2Proof

/-! ## Reading registers of an updated state

A field is read off the list of register words, so that an update of another part of the state reduces away. -/

namespace Sys2Proof.Machine

set_option Elab.async false

/-- A field of member `i` in a list of register words. -/
def fieldOf (regs : List (Nat × Word)) (fl : Fld) (i : Nat) : Nat := ({ State.reset with regs := regs } : State).f fl i

/-- Register `r`, member `i`, in a list of register words. -/
def regOf (regs : List (Nat × Word)) (r : Rg) (i : Nat) : Word := ({ State.reset with regs := regs } : State).reg r i

@[simp] theorem b2n_true : b2n true = 1 := rfl

@[simp] theorem b2n_false : b2n false = 0 := rfl

theorem State.f_fieldOf (s : State) (fl : Fld) (i : Nat) : s.f fl i = fieldOf s.regs fl i := by
  unfold fieldOf; rfl

theorem State.b_fieldOf (s : State) (fl : Fld) (i : Nat) : s.b fl i = (fieldOf s.regs fl i != 0) := by
  unfold fieldOf; rfl

theorem State.fi_fieldOf (s : State) (fl : Fld) (i : Nat) : s.fi fl i = signedOf fl.width (fieldOf s.regs fl i) := by
  unfold fieldOf; rfl

theorem State.reg_regOf (s : State) (r : Rg) (i : Nat) : s.reg r i = regOf s.regs r i := by
  unfold regOf; rfl

theorem fieldOf_setF_same (s : State) (fl : Fld) (i v : Nat) (hi : i < fl.reg.count) (hw : fl.lsb + fl.width ≤ 32) :
    fieldOf (s.setF fl i v).regs fl i = v % 2 ^ fl.width := State.f_setF_same s fl i v hi hw

/-- A value that fits its field reads back. -/
@[simp] theorem fieldOf_setF_fits (s : State) (fl : Fld) (i v : Nat) (hi : i < fl.reg.count)
    (hw : fl.lsb + fl.width ≤ 32) (hv : v < 2 ^ fl.width) : fieldOf (s.setF fl i v).regs fl i = v :=
  (State.f_setF_same s fl i v hi hw).trans (Nat.mod_eq_of_lt hv)

@[simp] theorem fieldOf_setF_apart (s : State) (a b : Fld) (i j v : Nat) (h : a.apart b = true) :
    fieldOf (s.setF a i v).regs b j = fieldOf s.regs b j := State.f_setF_apart s a b i j v h

@[simp] theorem fieldOf_setB_same (s : State) (fl : Fld) (i : Nat) (v : Bool) (hi : i < fl.reg.count)
    (hw : fl.lsb + fl.width ≤ 32) (h0 : 0 < fl.width) : fieldOf (s.setB fl i v).regs fl i = b2n v := by
  have hv : b2n v < 2 ^ fl.width :=
    lt_of_lt_of_le (show b2n v < 2 ^ 1 by cases v <;> decide) (Nat.pow_le_pow_right (by decide) h0)
  exact (State.f_setF_same s fl i _ hi hw).trans (Nat.mod_eq_of_lt hv)

@[simp] theorem fieldOf_setB_apart (s : State) (a b : Fld) (i j : Nat) (v : Bool) (h : a.apart b = true) :
    fieldOf (s.setB a i v).regs b j = fieldOf s.regs b j := State.f_setF_apart s a b i j _ h

@[simp] theorem fieldOf_setFi_apart (s : State) (a b : Fld) (i j : Nat) (v : Int) (h : a.apart b = true) :
    fieldOf (s.setFi a i v).regs b j = fieldOf s.regs b j := State.f_setF_apart s a b i j _ h

@[simp] theorem fieldOf_addF_apart (s : State) (a b : Fld) (i j v : Nat) (h : a.apart b = true) :
    fieldOf (s.addF a i v).regs b j = fieldOf s.regs b j := State.f_setF_apart s a b i j _ h

@[simp] theorem fieldOf_satF_apart (s : State) (a b : Fld) (i j v : Nat) (h : a.apart b = true) :
    fieldOf (s.satF a i v).regs b j = fieldOf s.regs b j := State.f_setF_apart s a b i j _ h

@[simp] theorem fieldOf_setFBit_apart (s : State) (a b : Fld) (i k j : Nat) (v : Bool) (h : a.apart b = true) :
    fieldOf (s.setFBit a i k v).regs b j = fieldOf s.regs b j := State.f_setF_apart s a b i j _ h

@[simp] theorem fieldOf_raise (s : State) (fl : Fld) (n j : Nat) (h : Fl.EVT_PEND_PEND.apart fl = true) :
    fieldOf (s.raise n).regs fl j = fieldOf s.regs fl j := State.f_setF_apart s _ fl _ j _ h

@[simp] theorem fieldOf_causeOn (s : State) (a en fl : Fld) (i k n j : Nat) (h : a.apart fl = true)
    (hp : Fl.EVT_PEND_PEND.apart fl = true) : fieldOf (s.causeOn a en i k n).regs fl j = fieldOf s.regs fl j := by
  unfold State.causeOn
  dsimp only
  split
  · rw [fieldOf_raise _ _ _ _ hp, fieldOf_setFBit_apart _ _ _ _ _ _ _ h]
  · rw [fieldOf_setFBit_apart _ _ _ _ _ _ _ h]

@[simp] theorem fieldOf_setReg_apart (s : State) (r : Rg) (fl : Fld) (i j : Nat) (v : Word)
    (h : r.apart fl.reg = true) :
    fieldOf (s.setReg r i v).regs fl j = fieldOf s.regs fl j := by
  change bitsOf ((s.setReg r i v).reg fl.reg j) fl.lsb fl.width = bitsOf (s.reg fl.reg j) fl.lsb fl.width
  rw [State.reg_setReg_apart _ _ _ _ _ _ h]

@[simp] theorem regOf_setReg_same (s : State) (r : Rg) (i : Nat) (v : Word) (hi : i < r.count) :
    regOf (s.setReg r i v).regs r i = v := State.reg_setReg_same s r i v hi

@[simp] theorem regOf_setReg_apart (s : State) (a b : Rg) (i j : Nat) (v : Word) (h : a.apart b = true) :
    regOf (s.setReg a i v).regs b j = regOf s.regs b j := State.reg_setReg_apart s a b i j v h

@[simp] theorem regOf_setF_apart (s : State) (a : Fld) (b : Rg) (i j v : Nat) (h : a.reg.apart b = true) :
    regOf (s.setF a i v).regs b j = regOf s.regs b j := State.reg_setReg_apart s a.reg b i j _ h

/-- A field that a part leaves out reads as before. -/
theorem fieldOf_of_without {A : Part} {s t : State} (h : t.without A = s.without A) {fl : Fld} (i : Nat)
    (hA : (!A.regs fl.reg.addr && decide (fl.reg.count ≤ 65536)) = true) :
    fieldOf t.regs fl i = fieldOf s.regs fl i := State.f_of_without h i hA

theorem regOf_of_without {A : Part} {s t : State} (h : t.without A = s.without A) {r : Rg} (i : Nat)
    (hA : (!A.regs r.addr && decide (r.count ≤ 65536)) = true) :
    regOf t.regs r i = regOf s.regs r i := State.reg_of_without h i hA

@[simp] theorem fieldOf_settle (s : State) (fl : Fld) (i : Nat)
    (h : (!settledPart.regs fl.reg.addr && decide (fl.reg.count ≤ 65536)) = true) :
    fieldOf s.settle.regs fl i = fieldOf s.regs fl i := fieldOf_of_without (State.settle_settled s) i h

@[simp] theorem regOf_settle (s : State) (r : Rg) (i : Nat)
    (h : (!settledPart.regs r.addr && decide (r.count ≤ 65536)) = true) :
    regOf s.settle.regs r i = regOf s.regs r i := regOf_of_without (State.settle_settled s) i h

/-- Everything but one register: what an operation that does not write `r` leaves as it is for its reader. -/
def butReg (r : Rg) : Part := { besideMemory with regs := fun a => a != r.addr, mem := true, pending := true }

/-- Everything but the state of the clocks, supplies and boot. -/
def butSys : Part := { besideMemory with sys := false, mem := true, pending := true }

theorem fieldOf_but {s t : State} {fl : Fld} (h : t.without (butReg fl.reg) = s.without (butReg fl.reg)) (i : Nat)
    (hc : fl.reg.count ≤ 65536) : fieldOf t.regs fl i = fieldOf s.regs fl i :=
  fieldOf_of_without h i (by simp [butReg, hc])

theorem sys_but {s t : State} (h : t.without butSys = s.without butSys) : t.sys = s.sys := State.sys_of_without h rfl

/-! ### Events (R595) -/

theorem testBit_setFBit (s : State) (fl : Fld) (i j k : Nat) (hi : i < fl.reg.count) (hw : fl.lsb + fl.width ≤ 32)
    (hk : k < fl.width) :
    bitOf ((s.setFBit fl i j true).f fl i) k = (bitOf (s.f fl i) k || decide (j = k)) := by
  rw [State.setFBit, State.f_setF_same _ _ _ _ hi hw, bitOf_field_mod hk]
  simp [bitOf, setBit, Nat.testBit_two_pow]

theorem raised_raise (s : State) (n : Nat) (h : n < 128) : Raised (s.raise n) n := by
  have hi : n / 32 < Fl.EVT_PEND_PEND.reg.count := lt_of_lt_of_le (show n / 32 < 4 by omega) (by decide)
  rw [Raised, State.raise, testBit_setFBit s Fl.EVT_PEND_PEND _ _ (n % 32) hi (by decide)
    (show n % 32 < 32 from Nat.mod_lt _ (by decide))]
  simp

/-- An event stays pending where the pending words stand. -/
theorem Raised.of_regs {s t : State} {n : Nat} (h : Raised s n)
    (he : fieldOf t.regs Fl.EVT_PEND_PEND (n / 32) = fieldOf s.regs Fl.EVT_PEND_PEND (n / 32)) : Raised t n := by
  rw [Raised, State.f_fieldOf, he]
  exact h

end Sys2Proof.Machine

/-! ## What a cold and a warm reset leave of the system registers (R44 to R46) -/

namespace Sys2Proof.Machine

set_option Elab.async false

theorem resetRegs_find {k : ResetKind} {r : Rg} {i key : Nat} (hk : rgOfKey key = some (r, i))
    (l : List (Nat × Word)) :
    cellsGet (r.resetAt i) (l.foldr (fun e l => match rgOfKey e.1 with
      | none => l
      | some (r, i) => cellsPut (r.resetAt i) l e.1 (resetWord k r i e.2)) []) key =
      match cellsFind l key with
      | some w => resetWord k r i w
      | none => r.resetAt i := by
  induction l with
  | nil => rfl
  | cons e l ih =>
    rw [List.foldr_cons]
    obtain ⟨a, w⟩ := e
    by_cases ha : a = key
    · subst ha
      simp only [hk, cellsFind, if_true]
      exact cellsGet_put_same _ _ _ _
    · simp only [cellsFind, if_neg ha]
      rw [← ih]
      split
      · rfl
      · exact cellsGet_put_ne _ _ _ _ ha

/-- A reset leaves of a register its kept bits, and the reset value elsewhere. -/
theorem reg_resetRegs {k : ResetKind} {r : Rg} {i : Nat} (hi : i < r.count) (hk : rgOfKey (r.key i) = some (r, i))
    (hr : resetWord k r i (r.resetAt i) = r.resetAt i) (s : State) :
    regOf (s.resetRegs k) r i = resetWord k r i (s.reg r i) := by
  have h := resetRegs_find (k := k) hk s.regs
  simp only [regOf, State.reg, hi, if_true, State.resetRegs]
  refine Eq.trans ?_ (h.trans ?_)
  · rfl
  · unfold cellsGet
    cases cellsFind s.regs (r.key i) with
    | none => exact hr.symm
    | some w => rfl

theorem cellsFind_foldl_insert {α : Type} (b l : List (Nat × α)) {k : Nat} (h : ∀ c ∈ b, c.1 ≠ k) :
    cellsFind (b.foldl (fun l c => cellsInsert l c.1 c.2) l) k = cellsFind l k := by
  induction b generalizing l with
  | nil => rfl
  | cons c b ih =>
    rw [List.foldl_cons, ih _ fun d hd => h d (List.mem_cons_of_mem _ hd)]
    exact cellsFind_insert_ne l c.2 (h c (List.mem_cons_self ..))

theorem cellsFind_filter {α : Type} (p : Nat → Bool) (l : List (Nat × α)) {k : Nat} (h : p k = true) :
    cellsFind (l.filter fun c => p c.1) k = cellsFind l k := by
  induction l with
  | nil => rfl
  | cons e l ih =>
    rw [List.filter_cons]
    split
    · simp only [cellsFind, ih]
    · next hp =>
      have : e.1 ≠ k := fun he => hp (he ▸ h)
      simp only [cellsFind, if_neg this, ih]

/-- The journal's registers alone change when billing goes back to its journal. -/
theorem regOf_billingReset {r : Rg} {i : Nat} (hj : journalAddr (keyBase (r.key i)) = false) (s : State) :
    regOf (billingReset s).regs r i = regOf s.regs r i := by
  have hne : ∀ c ∈ s.bil.journalRegs.filter fun c => journalAddr (keyBase c.1), c.1 ≠ r.key i := by
    intro c hc he
    rw [List.mem_filter, he, hj] at hc
    exact absurd hc.2 (by decide)
  have hfind : cellsFind (billingReset s).regs (r.key i) = cellsFind s.regs (r.key i) :=
    (cellsFind_foldl_insert _ _ hne).trans (cellsFind_filter (fun k => !journalAddr (keyBase k)) _ (by simp [hj]))
  simp only [regOf, State.reg, cellsGet, hfind]

/-- What the steps of a reset around the blocks' own reset may change: not the state of boot, and of the system block
not the causes, the clock and the power registers. -/
def aroundReset : Part :=
  { butSys with regs := regsIn [R.SFY_PSTAT, R.LSW_CHSTAT, R.LSW_CHCFG, R.LSW_CHPWM, R.LSW_CHI, R.STO_STAT, R.HST_STAT,
      R.SYS_WDTCTL] }

theorem lswWarm_writes (old s : State) : (lswWarm old s).without aroundReset = s.without aroundReset :=
  State.without_each (fun _ s => by dsimp only; simp (disch := decide) only [chTurnOff_writes, State.without_setF,
    State.setCh_writes, State.without_ite, ite_self]) s 16

theorem releaseAll_around (dual : Bool) (s : State) : (releaseAll dual s).without aroundReset = s.without aroundReset :=
  State.without_each (fun _ s => by simp (disch := decide) only [demandPort_writes, State.without_when_if,
    State.setSp_writes, State.without_ite, ite_self]) s 48

theorem showAfterReset_writes (s : State) :
    (showPort (stoAfterReset s)).without aroundReset = s.without aroundReset := by
  simp (disch := decide) only [showPort_writes, stoAfterReset, State.without_setF]

theorem startBoot_sys_congr (k : BootKind) {s t : State} (h : t.sys = s.sys) :
    (startBoot k t).sys = (startBoot k s).sys := by
  simp only [startBoot, h]

theorem coldReset_sys (c : Nat) (s : State) :
    (coldReset c s).sys = (startBoot .cold { s with sys.clockWindow := none }).sys := by
  refine (State.sys_of_without (showAfterReset_writes _) rfl).trans (startBoot_sys_congr _ ?_)
  simp [resetBlocks, billingReset]

/-- A cold reset shows its own cause alone (R45). -/
theorem coldReset_cause (c : Nat) (s : State) : regOf (coldReset c s).regs R.SYS_RSTCAUSE 0 = BitVec.ofNat 32 c := by
  refine (regOf_of_without (showAfterReset_writes _) 0 (by decide)).trans ?_
  exact (regOf_billingReset (by decide) _).trans (regOf_setReg_same _ _ _ _ (by decide))

theorem warmReset_sys (c : Nat) (s : State) : (warmReset c s).sys = (startBoot .warm s).sys := by
  refine (State.sys_of_without (showAfterReset_writes _) rfl).trans (startBoot_sys_congr _ ?_)
  refine (State.sys_of_without (lswWarm_writes _ _) rfl).trans ?_
  simp only [resetBlocks, billingReset, State.setReg_sys]
  exact (State.sys_of_without (releaseAll_around _ _) rfl).trans (State.setReg_sys _ _ _ _)

/-- The system registers whose kept bits a warm reset leaves as the causes and the clock set them. -/
def warmKept : List Rg := [R.SYS_RSTCAUSE, R.SYS_CLKSTAT]

theorem warmKept_spec : ∀ r ∈ warmKept, 0 < r.count ∧ rgOfKey (r.key 0) = some (r, 0) ∧
    resetWord .warm r 0 (r.resetAt 0) = r.resetAt 0 ∧ journalAddr (keyBase (r.key 0)) = false ∧
    R.SYS_WDTCTL.apart r = true ∧ (!aroundReset.regs r.addr && decide (r.count ≤ 65536)) = true := by decide

/-- What a warm reset leaves of such a register. -/
theorem warmReset_reg {r : Rg} (hr : r ∈ warmKept) (c : Nat) (s : State) :
    regOf (warmReset c s).regs r 0 = resetWord .warm r 0 ((addCause c s).reg r 0) := by
  obtain ⟨hc, hk, h0, hj, hw, hout⟩ := warmKept_spec r hr
  refine (regOf_of_without (showAfterReset_writes _) 0 hout).trans ?_
  refine (regOf_of_without (lswWarm_writes _ _) 0 hout).trans ?_
  refine (regOf_billingReset hj _).trans ((regOf_setReg_apart _ _ _ _ _ _ hw).trans ?_)
  refine (reg_resetRegs hc hk h0 _).trans (congrArg _ ?_)
  exact State.reg_of_without (releaseAll_around _ _) 0 hout

/-- A one-bit field shows the bit. -/
theorem bitsOf_one {w : Word} {k : Nat} (h : w.getLsbD k = true) : bitsOf w k 1 = 1 := by
  rw [BitVec.getLsbD, Nat.testBit_eq_decide_div_mod_eq, decide_eq_true_eq] at h
  exact h

/-- A warm reset adds its causes to those shown (R44). -/
theorem warmReset_cause {c k : Nat} (hk : k < 11) (hc : c.testBit k = true) (s : State) :
    (warmReset c s).f ⟨R.SYS_RSTCAUSE, k, 1⟩ 0 = 1 := by
  refine bitsOf_one ?_
  have hkept : ∀ k < 11, (keptBits .warm R.SYS_RSTCAUSE).getLsbD k = true := by decide
  have hreg := warmReset_reg (r := R.SYS_RSTCAUSE) (by decide) c s
  rw [addCause, State.reg_setReg_same _ _ _ _ (by decide)] at hreg
  change (regOf (warmReset c s).regs R.SYS_RSTCAUSE 0).getLsbD k = true
  rw [hreg, resetWord, BitVec.getLsbD_or, BitVec.getLsbD_and, BitVec.getLsbD_and, hkept k hk, BitVec.getLsbD_or,
    BitVec.getLsbD_ofNat]
  simp [hc, show k < 32 by omega]

/-- The loss of the reference stays shown over a warm reset. -/
theorem warmReset_refLost (c : Nat) {s : State} (h : s.f Fl.SYS_CLKSTAT_REFLOST 0 = 1) :
    (warmReset c s).f Fl.SYS_CLKSTAT_REFLOST 0 = 1 := by
  refine bitsOf_one ?_
  have hb : (s.reg R.SYS_CLKSTAT 0).getLsbD 1 = true := by
    rw [BitVec.getLsbD, Nat.testBit_eq_decide_div_mod_eq, decide_eq_true_eq]
    exact h
  have hreg := warmReset_reg (r := R.SYS_CLKSTAT) (by decide) c s
  rw [addCause, State.reg_setReg_apart _ _ _ _ _ _ (by decide)] at hreg
  change (regOf (warmReset c s).regs R.SYS_CLKSTAT 0).getLsbD 1 = true
  rw [hreg, resetWord, BitVec.getLsbD_or, BitVec.getLsbD_and, BitVec.getLsbD_and, hb]
  decide

end Sys2Proof.Machine

/-! ## The supply monitor and the save sequence (R24 to R37) -/

namespace Sys2Proof.Machine

set_option Elab.async false

theorem answers_done {c : Instr} {s u : State} {P : State → Prop} (h : exec c s = done u) (hp : P u.settle) :
    Answers c s P := ⟨u.settle, h, hp⟩

theorem effect_done {c : Instr} {s u : State} {P : State → Prop} (h : exec c s = done u) (hp : P u) :
    Effect c s P := ⟨u, h, hp⟩

theorem phase_off {s : State} (h : s.sys.phase ≠ .off) : (s.sys.phase == .off) = false := by simpa using h

/-! ### The thresholds of VIN -/

theorem vinHold_level (above : Bool) (mv : Nat) (s : State) :
    (vinHold above mv s).settle.f Fl.SYS_SUPSTAT_ABOVE_HOLD = b2n above ∧
      (vinHold above mv s).settle.f Fl.SYS_SUPSTAT_VIN_MV = min mv 65535 := by
  have hmv : min mv 65535 < 2 ^ Fl.SYS_SUPSTAT_VIN_MV.width := show min mv 65535 < 65536 by omega
  constructor
  · simp (disch := decide) [vinHold, State.f_fieldOf]
  · simp (disch := first | decide | exact hmv) [vinHold, vinIs, State.f_fieldOf]

/-- A warning touches no register but the save's status and the pending events. -/
theorem fieldOf_warning (src : Nat) (s : State) {fl : Fld} (i : Nat)
    (h : (!(regsIn [R.SYS_SAVESTAT, R.EVT_PEND]) fl.reg.addr && decide (fl.reg.count ≤ 65536)) = true) :
    fieldOf (warning src s).regs fl i = fieldOf s.regs fl i :=
  fieldOf_of_without (A := { butSys with sys := true, regs := regsIn [R.SYS_SAVESTAT, R.EVT_PEND] })
    (warning_writes rfl rfl rfl src s) i h

theorem vinBelowWarn_level (mv : Nat) (s : State) :
    (vinBelowWarn mv s).settle.f Fl.SYS_SUPSTAT_ABOVE_WARN = 0 := by
  simp (disch := decide) [vinBelowWarn, State.f_fieldOf, fieldOf_warning]

theorem vinAboveWarn_level (mv : Nat) (s : State) :
    (vinAboveWarn mv s).settle.f Fl.SYS_SUPSTAT_ABOVE_WARN = 1 := by
  unfold vinAboveWarn
  dsimp only
  split <;> simp (disch := decide) [State.f_fieldOf]

theorem pfwAsserted_level (s : State) : (pfwAsserted s).settle.f Fl.SYS_SUPSTAT_PFW = 1 := by
  unfold pfwAsserted
  dsimp only
  split <;> simp (disch := decide) [State.f_fieldOf, fieldOf_warning]

theorem vinAboveWarn_event {mv : Nat} {s : State} (h : s.sys.vinOk = false) : Raised (vinAboveWarn mv s) 6 := by
  simp only [vinAboveWarn, vinIs, State.setB_sys, State.setF_sys, h]
  exact raised_raise _ 6 (by decide)

/-! ### The start of the save sequence (R34) -/

/-- With no save in progress and power up, a warning starts the save with its source. -/
theorem warning_starts {src : Nat} {s : State} (hp : s.sys.phase ≠ .off) (hst : fieldOf s.regs Fl.SYS_PWRSTAT_STATE
  0 < 3)
    (hs : s.sys.saveStep = 0) (he : s.sys.saveEnd = false) (hsrc : src < 8) :
    (warning src s).sys.saveStep = 1 ∧ (warning src s).f Fl.SYS_SAVESTAT_SRC = src ∧
      (warning src s).f Fl.SYS_SAVESTAT_ACTIVE = 1 ∧ Raised (warning src s) 1 := by
  have hw : warning src s =
      ((({ s with sys.saveStep := 1, sys.saveStart := s.tick, sys.vinOk := false } : State).setReg R.SYS_SAVESTAT 0
        0).setF Fl.SYS_SAVESTAT_SRC 0 src |>.setB Fl.SYS_SAVESTAT_ACTIVE 0 true).raise 1 := by
    simp [warning, startSave, hs, he, phase_off hp, State.f_fieldOf, hst]
  have hm : src < 2 ^ Fl.SYS_SAVESTAT_SRC.width := hsrc
  rw [hw]
  refine ⟨by simp, ?_, ?_, raised_raise _ 1 (by decide)⟩
  · simp (disch := first | decide | exact hm) [State.f_fieldOf]
  · simp (disch := decide) [State.f_fieldOf]

/-! ### Brown-out and the return of VIN -/

theorem powerLoss_phase (furl : Bool) (s : State) : (powerLoss furl s).sys.phase = .off := rfl

theorem vinBrownOut_off {mv : Nat} {s : State} (hp : s.sys.phase ≠ .off) (hst : s.f Fl.SYS_PWRSTAT_STATE ≠ 3)
    (he : s.sys.saveEnd = false) (hs : s.sys.saveStep < 3) : (vinBrownOut mv s).sys.phase = .off := by
  have hst' : fieldOf s.regs Fl.SYS_PWRSTAT_STATE 0 ≠ 3 := hst
  have hs' : ¬ 3 ≤ s.sys.saveStep := by omega
  have : vinBrownOut mv s = powerLoss false
      { ((vinIs mv s).setB Fl.SYS_SUPSTAT_ABOVE_WARN 0 false).setB Fl.SYS_SUPSTAT_ABOVE_HOLD 0 false with
        sys.vinGone := true } := by
    simp (disch := decide) [vinBrownOut, vinIs, phase_off hp, he, State.f_fieldOf, hst', hs']
  rw [this, powerLoss_phase]

/-- In Stow the hold-up pack keeps the device up (R32). -/
theorem vinBrownOut_stow {mv : Nat} {s : State} (hp : s.sys.phase ≠ .off) (hst : s.f Fl.SYS_PWRSTAT_STATE = 3)
    (hhp : s.f Fl.SYS_SUPSTAT_HP_OK = 1) (hf : s.f Fl.SYS_PWRSTAT_FURL_ARMED = 0) :
    (vinBrownOut mv s).sys.phase = s.sys.phase ∧ (vinBrownOut mv s).sys.onHp = true ∧
      (vinBrownOut mv s).f Fl.SYS_SUPSTAT_ABOVE_HOLD = 0 := by
  rw [State.f_fieldOf] at hst hhp hf
  have : vinBrownOut mv s = { ((vinIs mv s).setB Fl.SYS_SUPSTAT_ABOVE_WARN 0 false).setB Fl.SYS_SUPSTAT_ABOVE_HOLD 0
    false with
        sys.vinGone := true, sys.onHp := true } := by
    simp (disch := decide) [vinBrownOut, vinIs, furlCheck, phase_off hp, State.f_fieldOf, State.b_fieldOf, hst, hhp,
      hf]
  rw [this]
  refine ⟨by simp [vinIs], rfl, by simp (disch := decide) [State.f_fieldOf]⟩

theorem showPort_sys (s : State) : (showPort s).sys = s.sys := State.setF_sys _ _ _ _

theorem vinAboveStart_boots {mv bootsel hsel : Nat} {s : State} (hp : s.sys.phase = .off) (hr : s.sys.rstLow = false)
    (hw : s.sys.refWait = false) :
    (vinAboveStart mv bootsel hsel s).sys.phase = .booting ∧ (vinAboveStart mv bootsel hsel s).sys.bootKind = .cold ∧
      (vinAboveStart mv bootsel hsel s).sys.bootsel = bootsel % 4 ∧
      (vinAboveStart mv bootsel hsel s).sys.hsel = hsel % 2 := by
  have hoff : (s.sys.phase == .off) = true := by simp [hp]
  simp only [vinAboveStart, vinIs, State.setB_sys, State.setF_sys, hoff, if_true, coldReset_sys, startBoot,
    sampleLands,
    showPort_sys, State.when, apply_ite State.sys, ite_self, hr, hw]
  simp

theorem hpRemoved_level {s : State} (h : s.f Fl.SYS_PWRSTAT_STATE ≠ 3) :
    (hpRemoved s).settle.f Fl.SYS_SUPSTAT_HP_OK = 0 := by
  rw [State.f_fieldOf] at h
  simp (disch := decide) [hpRemoved, h, State.f_fieldOf]

/-- Settles O5, from the thresholds, the start of the save, and what a loss of VIN leaves of the system block. -/
theorem supplyMonitor : Obligations.SupplyMonitor := by
  intro mv bootsel hsel s
  refine ⟨answers_done rfl (vinHold_level false mv s), answers_done rfl (vinHold_level true mv s),
    answers_done rfl (vinBelowWarn_level mv s), fun hp hst hs he => ⟨?_, fun hu => ?_⟩,
    answers_done rfl (vinAboveWarn_level mv s), fun h => effect_done rfl (vinAboveWarn_event h),
    answers_done rfl (pfwAsserted_level s), answers_done rfl ?_,
    fun hp hst he hs => effect_done rfl (vinBrownOut_off hp hst he hs),
    fun hp hst hhp hf => effect_done rfl (vinBrownOut_stow hp hst hhp hf),
    fun hp hr hw => effect_done rfl (vinAboveStart_boots hp hr hw), fun h => answers_done rfl (hpRemoved_level h)⟩
  · refine effect_done rfl (warning_starts ?_ ?_ ?_ ?_ (by decide))
    · simpa [vinIs] using hp
    · simpa (disch := decide) [vinIs, State.f_fieldOf] using hst
    · simpa [vinIs] using hs
    · simpa [vinIs] using he
  · have hb : (s.setB Fl.SYS_SUPSTAT_PFW 0 true).b Fl.SYS_SAVECFG_UPS_EN = true := by
      rw [State.f_fieldOf] at hu
      simp (disch := decide) [State.b_fieldOf, hu]
    refine effect_done (u := warning 2 (s.setB Fl.SYS_SUPSTAT_PFW 0 true))
      (congrArg done (if_pos hb)) (warning_starts ?_ ?_ ?_ ?_ (by decide))
    · simpa using hp
    · simpa (disch := decide) [State.f_fieldOf] using hst
    · simpa using hs
    · simpa using he
  · simp (disch := decide) [State.f_fieldOf]

end Sys2Proof.Machine

/-! ## The save sequence (R34 to R37) -/

namespace Sys2Proof.Machine

set_option Elab.async false

theorem saveStepComplete_step {s : State} (h : s.sys.saveStep ≠ 0) :
    (saveStepComplete s).sys.saveStep = if s.sys.saveStep = 8 then 0 else s.sys.saveStep + 1 := by
  rw [saveStepComplete, if_neg h]

/-- Step 8 with VIN back holds the device in the save-end state. -/
theorem saveStepComplete_saveEnd {s : State} (h : s.sys.saveStep = 8) (hv : s.f Fl.SYS_SUPSTAT_ABOVE_WARN = 1) :
    (saveStepComplete s).sys.saveStep = 0 ∧ (saveStepComplete s).sys.saveEnd = true ∧
      (saveStepComplete s).f Fl.SYS_SAVESTAT_ACTIVE = 0 ∧ (saveStepComplete s).f Fl.SYS_SAVESTAT_LASTSTEP = 8 := by
  rw [State.f_fieldOf] at hv
  have hs : saveStepComplete s = { (s.setF Fl.SYS_SAVESTAT_LASTSTEP 0 8).setB Fl.SYS_SAVESTAT_ACTIVE 0 false with
      sys.saveEnd := true, sys.saveStep := 0 } := by
    simp (disch := decide) [saveStepComplete, saveAction, h, State.b_fieldOf, hv]
  rw [hs]
  exact ⟨rfl, rfl, by simp (disch := decide) [State.f_fieldOf], by simp (disch := decide) [State.f_fieldOf]⟩

/-- The entry of Stow turns the protected channels off and touches no other part of the boot state. -/
theorem lswAllOff_sys (s : State) : (lswAllOff s).sys = s.sys :=
  sys_but (lswAllOff_writes rfl rfl s)

theorem inStow_state (hp : Bool) (s : State) :
    (inStow hp s).f Fl.SYS_PWRSTAT_STATE = 3 ∧ (inStow hp s).sys.onHp = hp := by
  constructor
  · simp (disch := decide) [inStow, State.f_fieldOf]
  · simp [inStow, lswAllOff_sys]

/-- Step 8 without VIN and with the hold-up pack goes to Stow. -/
theorem saveStepComplete_stow {s : State} (h : s.sys.saveStep = 8) (hv : s.f Fl.SYS_SUPSTAT_ABOVE_WARN = 0)
    (hp : s.f Fl.SYS_SUPSTAT_HP_OK = 1) :
    (saveStepComplete s).sys.saveStep = 0 ∧ (saveStepComplete s).f Fl.SYS_PWRSTAT_STATE = 3 ∧
      (saveStepComplete s).sys.onHp = true := by
  rw [State.f_fieldOf] at hv hp
  have hs : saveStepComplete s = { inStow true
      { ((s.setF Fl.SYS_SAVESTAT_LASTSTEP 0 8).setB Fl.SYS_SAVESTAT_ACTIVE 0 false).setB Fl.SYS_SAVESTAT_STOWED 0
        true with
        sys.heldCauses := 0, sys.saveEnd := false } with sys.saveStep := 0 } := by
    simp (disch := decide) [saveStepComplete, saveAction, h, State.b_fieldOf, hv, hp]
  rw [hs]
  exact ⟨rfl, (inStow_state true _).1, (inStow_state true _).2⟩

theorem bitOf_setBit (w k : Nat) : bitOf (setBit w k) k = true := by
  simp [bitOf, setBit]

/-- A recorded cause shows in RSTCAUSE. -/
theorem addCause_shows {k : Nat} (hk : k < 32) (s : State) :
    (addCause (2 ^ k) s).f ⟨R.SYS_RSTCAUSE, k, 1⟩ 0 = 1 := by
  refine bitsOf_one ?_
  rw [addCause, State.reg_setReg_same _ _ _ _ (by decide), BitVec.getLsbD_or, BitVec.getLsbD_ofNat]
  simp [hk]

/-- A warm-reset cause during a save is recorded and held (R44). -/
theorem warmCause_held {k : Nat} {s : State} (hp : s.sys.phase ≠ .off) (hst : s.f Fl.SYS_PWRSTAT_STATE ≠ 3)
    (hs : s.sys.saveStep ≠ 0) :
    warmCause k s = addCause (2 ^ k) { s with sys.heldCauses := setBit s.sys.heldCauses k } := by
  simp [warmCause, phase_off hp, hst, hs]

theorem saveEndRelease_boots {s : State} (he : s.sys.saveEnd = true) (hv : s.f Fl.SYS_SUPSTAT_ABOVE_WARN = 1)
    (hsrc : s.f Fl.SYS_SAVESTAT_SRC ≠ 4) (hc : bitOf s.sys.heldCauses 2 = false) :
    saveEndRelease s = warmReset (setBit s.sys.heldCauses 9) s := by
  rw [State.f_fieldOf] at hv hsrc
  simp [saveEndRelease, he, State.b_fieldOf, State.f_fieldOf, hv, hsrc, hc]

theorem warmReset_boots (c : Nat) {s : State} (hr : s.sys.rstLow = false) (hw : s.sys.refWait = false) :
    (warmReset c s).sys.phase = .booting := by
  simp [warmReset_sys, startBoot, hr, hw]

/-- Settles O6, by the step at which the save stands. -/
theorem saveSequence : Obligations.SaveSequence := by
  intro s
  refine ⟨fun n hn h1 h7 => effect_done rfl ?_, fun h hv => effect_done rfl (saveStepComplete_saveEnd h hv),
    fun h hv hp => effect_done rfl (saveStepComplete_stow h hv hp), fun hp hst hs => ?_,
    fun he hv hsrc hc hr hw => effect_done (congrArg done (saveEndRelease_boots he hv hsrc hc))
      ⟨by simp [warmReset_sys, startBoot], warmReset_boots _ hr hw,
        warmReset_cause (k := 9) (by decide) (bitOf_setBit _ _) s⟩⟩
  · rw [saveStepComplete_step (by omega), hn, if_neg (by omega)]
  · exact effect_done (congrArg done (warmCause_held hp hst hs))
      ⟨by simp [addCause], by simp [addCause], by simpa [addCause] using bitOf_setBit s.sys.heldCauses 5,
        addCause_shows (k := 5) (by decide) _⟩

end Sys2Proof.Machine

/-! ## The power ladder (R38 to R42) -/

namespace Sys2Proof.Machine

set_option Elab.async false

/-- A transition to Run is under way and committed. -/
def LeavingLow (u : State) : Prop :=
  u.f Fl.SYS_PWRSTAT_BUSY = 1 ∧ u.f Fl.SYS_PWRCTL_REQ = 0 ∧ u.sys.target = some 0 ∧ u.sys.committed = true

theorem startTransition_shows {t : Nat} (ht : t < 8) (committed : Bool) (s : State) :
    (startTransition t committed s).f Fl.SYS_PWRSTAT_BUSY = 1 ∧ (startTransition t committed s).f Fl.SYS_PWRCTL_REQ
      = t ∧
      (startTransition t committed s).sys.target = some t ∧
      (startTransition t committed s).sys.committed = committed := by
  have hw : t < 2 ^ Fl.SYS_PWRCTL_REQ.width := ht
  exact ⟨by simp (disch := decide) [startTransition, State.f_fieldOf],
    by simp (disch := first | decide | exact hw) [startTransition, State.f_fieldOf], rfl, rfl⟩

/-- In Run, a request that R39 does not refuse starts the entry. -/
theorem requestState_enters {t : Nat} {s : State} (hs : Steady s) (hst : s.f Fl.SYS_PWRSTAT_STATE = 0) (ht : t ≠ 0)
    (hr : s.entryRefusal t = 0) : requestState t s = startTransition t false s := by
  obtain ⟨hp, hsv, he, htg⟩ := hs
  simp [requestState, hp, hsv, he, htg, hst, ht, hr]

theorem requestState_refused {t : Nat} {s : State} (hs : Steady s) (hst : s.f Fl.SYS_PWRSTAT_STATE = 0) (ht : t ≠ 0)
    (hr : s.entryRefusal t ≠ 0) :
    requestState t s = showReq ((s.setF Fl.SYS_PWRSTAT_REFUSE 0 (s.entryRefusal t)).raise 4) := by
  obtain ⟨hp, hsv, he, htg⟩ := hs
  simp [requestState, hp, hsv, he, htg, hst, ht, hr]

theorem entryRefusal_le (s : State) (t : Nat) : s.entryRefusal t ≤ 5 := by
  unfold State.entryRefusal
  split_ifs <;> decide

theorem refused_shows {r : Nat} {s : State} (hr : r ≤ 5) (htg : s.sys.target = none) (hst : s.f Fl.SYS_PWRSTAT_STATE
  = 0) :
    let u := showReq ((s.setF Fl.SYS_PWRSTAT_REFUSE 0 r).raise 4)
    u.f Fl.SYS_PWRSTAT_REFUSE = r ∧ u.f Fl.SYS_PWRCTL_REQ = 0 ∧ u.sys.target = none ∧ Raised u 4 := by
  have hw : r < 2 ^ Fl.SYS_PWRSTAT_REFUSE.width := show r < 16 by omega
  rw [State.f_fieldOf] at hst
  refine ⟨?_, ?_, by simpa [showReq] using htg,
    Raised.of_regs (raised_raise (s.setF Fl.SYS_PWRSTAT_REFUSE 0 r) 4 (by decide)) ?_⟩
  · simp (disch := first | decide | exact hw) [showReq, State.f_fieldOf]
  · simp (disch := decide) [showReq, State.f_fieldOf, htg, hst]
  · simp (disch := decide) [showReq]

theorem power_enters {t : Nat} {s : State} (hs : Steady s) (hst : s.f Fl.SYS_PWRSTAT_STATE = 0) (ht : t ≠ 0) (h8 : t
  < 8)
    {c : Instr} (hc : exec c s = done (requestState t s)) :
    (s.entryRefusal t = 0 → Effect c s fun u => u.f Fl.SYS_PWRSTAT_BUSY = 1 ∧ u.f Fl.SYS_PWRCTL_REQ = t ∧
      u.sys.target = some t ∧ u.sys.committed = false) ∧
    (s.entryRefusal t ≠ 0 → Effect c s fun u => u.f Fl.SYS_PWRSTAT_REFUSE = s.entryRefusal t ∧
      u.f Fl.SYS_PWRCTL_REQ = 0 ∧ u.sys.target = none ∧ Raised u 4) := by
  refine ⟨fun hr => effect_done hc ?_, fun hr => effect_done hc ?_⟩
  · rw [requestState_enters hs hst ht hr]
    exact startTransition_shows h8 false s
  · rw [requestState_refused hs hst ht hr]
    exact refused_shows (entryRefusal_le s t) hs.2.2.2 hst

theorem requestRun_leaves {s : State} (hs : Steady s)
    (hst : s.f Fl.SYS_PWRSTAT_STATE = 1 ∨ s.f Fl.SYS_PWRSTAT_STATE = 2) :
    requestState 0 s = startTransition 0 true s := by
  obtain ⟨hp, hsv, he, htg⟩ := hs
  rcases hst with hst | hst <;> simp [requestState, hp, hsv, he, htg, hst]

theorem requestRun_inRun {s : State} (hs : Steady s) (hst : s.f Fl.SYS_PWRSTAT_STATE = 0) :
    requestState 0 s = showReq s := by
  obtain ⟨hp, hsv, he, htg⟩ := hs
  simp [requestState, hp, hsv, he, htg, hst]

/-- An entry that has not committed is withdrawn by a request of Run. -/
theorem requestRun_withdraws {s : State} {t : Nat} (hp : s.sys.phase = .running) (hsv : s.sys.saveStep = 0)
    (he : s.sys.saveEnd = false) (htg : s.sys.target = some t) (ht : t ≠ 0) (hc : s.sys.committed = false) :
    requestState 0 s = showReq { s.setB Fl.SYS_PWRSTAT_BUSY 0 false with sys.target := none } := by
  simp [requestState, hp, hsv, he, htg, ht, hc]

theorem commitPoint_luff {s : State} (ht : s.sys.target = some 1) (hc : s.sys.committed = false) :
    (commitPoint s).sys.committed = true := by
  simp [commitPoint, ht, hc, engineStop]

/-- A committed entry of Luff completes (R41). -/
theorem transitionComplete_luff {s : State} (ht : s.sys.target = some 1) (hc : s.sys.committed = true)
    (hw : s.sys.wakePend = 0) (hst : s.f Fl.SYS_PWRSTAT_STATE = 0) :
    transitionComplete s =
      (((({ s with sys.target := none, sys.committed := false } : State).setF Fl.SYS_PWRSTAT_PREV 0 0).setF
        Fl.SYS_PWRSTAT_STATE 0 1).setB Fl.SYS_PWRSTAT_BUSY 0 false).raise 0 := by
  simp [transitionComplete, pendingWake, ht, hc, hw, hst, State.when]

theorem luffComplete_shows (s : State) :
    let u := (((({ s with sys.target := none, sys.committed := false } : State).setF Fl.SYS_PWRSTAT_PREV 0 0).setF
        Fl.SYS_PWRSTAT_STATE 0 1).setB Fl.SYS_PWRSTAT_BUSY 0 false).raise 0
    u.f Fl.SYS_PWRSTAT_STATE = 1 ∧ u.f Fl.SYS_PWRSTAT_PREV = 0 ∧ u.f Fl.SYS_PWRSTAT_BUSY = 0 ∧ u.sys.target = none ∧
      Raised u 0 := by
  refine ⟨?_, ?_, ?_, by simp, raised_raise _ 0 (by decide)⟩ <;> simp (disch := decide) [State.f_fieldOf]

theorem furlArm_armed {s : State} (hst : s.f Fl.SYS_PWRSTAT_STATE ≠ 3) :
    (furlArm 0xF0 s).f Fl.SYS_PWRSTAT_FURL_ARMED = 1 := by
  rw [State.f_fieldOf] at hst
  simp (disch := decide) [furlArm, furlCheck, State.f_fieldOf, hst]

/-! ### Wakes (R42) -/

/-- An enabled wake that the present state listens to starts the exit and is shown. -/
theorem wake_leaves {src : Nat} {s : State} (hsrc : src < 8) (hen : bitOf (s.f Fl.SYS_WAKEEN_SRC) src = true)
    (ht : s.sys.target = none) (hw : wakesFrom src (s.f Fl.SYS_PWRSTAT_STATE) = true) :
    LeavingLow (s.wake src) ∧ bitOf ((s.wake src).f Fl.SYS_WAKESRC_SRC) src = true := by
  have hs : (setBit (fieldOf s.regs Fl.SYS_WAKESRC_SRC 0) src % 2 ^ Fl.SYS_WAKESRC_SRC.width).testBit src = true :=
    (bitOf_field_mod (w := Fl.SYS_WAKESRC_SRC.width) hsrc).trans (bitOf_setBit _ _)
  simp only [State.wake, hen, ht, hw]
  refine ⟨⟨?_, ?_, rfl, rfl⟩, ?_⟩
  · simp (disch := decide) [State.f_fieldOf]
  · simp (disch := decide) [State.f_fieldOf]
  · simpa (disch := decide) [State.f_fieldOf, fieldOf_setF_same, bitOf] using hs

/-- An enabled wake during a committed entry is kept until its end. -/
theorem wake_pends {src t : Nat} {s : State} (hen : bitOf (s.f Fl.SYS_WAKEEN_SRC) src = true)
    (ht : s.sys.target = some t) (h0 : t ≠ 0) (hw : wakesFrom src t = true) (hc : s.sys.committed = true) :
    (s.wake src).f Fl.SYS_PWRSTAT_WAKE_PEND = 1 ∧ bitOf (s.wake src).sys.wakePend src = true := by
  have hs : s.wake src = { s.setF Fl.SYS_PWRSTAT_WAKE_PEND 0 1 with sys.wakePend := setBit s.sys.wakePend src } := by
    simp [State.wake, hen, ht, h0, hw, hc]
  rw [hs]
  exact ⟨by simp (disch := decide) [State.f_fieldOf], bitOf_setBit _ _⟩

theorem wakesFrom_wakeN {st : Nat} (h1 : 1 ≤ st) (h3 : st ≤ 3) : wakesFrom 5 st = true := by
  interval_cases st <;> rfl

theorem startCurrent_wakes {p : Nat} {mA : Int} {s : State} (hp : p < 24) (hst : s.f Fl.SYS_PWRSTAT_STATE = 2)
    (hm : 1000 ≤ mA.natAbs) : startCurrent p mA s = s.wake 1 := by
  simp [startCurrent, hp, hst, hm]

/-- Settles O7, clause by clause: requests, the entry of Luff, Furl, and the wakes. -/
theorem powerLadder : Obligations.PowerLadder := by
  intro s
  refine ⟨fun hs hst => ⟨power_enters hs hst (by decide) (by decide) rfl,
    power_enters hs hst (by decide) (by decide) rfl,
      power_enters hs hst (by decide) (by decide) rfl⟩, fun hs hst => ?_, fun hs hst => ?_,
    fun t hp hsv he htg ht hc => ?_, fun ht hc => effect_done rfl (commitPoint_luff ht hc),
    fun ht hc hw hst => ?_, ⟨fun hst => effect_done rfl (furlArm_armed hst), ?_⟩,
    fun hen ht h1 h3 => effect_done rfl (wake_leaves (by decide) hen ht (wakesFrom_wakeN h1 h3)),
    fun hen t ht h1 h3 hc => effect_done rfl (wake_pends hen ht (by omega) (wakesFrom_wakeN h1 h3) hc),
    fun p mA hp hst ht hen hm => ?_⟩
  · exact effect_done (congrArg done (requestRun_leaves hs hst)) (startTransition_shows (by decide) true s)
  · have htg := hs.2.2.2
    rw [State.f_fieldOf] at hst
    refine effect_done (congrArg done (requestRun_inRun hs hst)) ⟨?_, by simpa [showReq] using htg⟩
    simp (disch := decide) [showReq, State.f_fieldOf, htg, hst]
  · refine effect_done (congrArg done (requestRun_withdraws hp hsv he htg ht hc)) ⟨by simp [showReq], ?_⟩
    simp (disch := decide) [showReq, State.f_fieldOf]
  · exact effect_done (congrArg done (transitionComplete_luff ht hc hw hst)) (luffComplete_shows s)
  · exact effect_done rfl (by simp (disch := decide) [furlArm, State.f_fieldOf])
  · exact effect_done (congrArg done (startCurrent_wakes hp hst hm)) 
      (wake_leaves (by decide) hen ht (by rw [hst]; rfl))

end Sys2Proof.Machine

/-! ## Reset causes, the watchdog and the clock check (R43 to R46) -/

namespace Sys2Proof.Machine

set_option Elab.async false

theorem bitOf_true {w k : Nat} : bitOf w k = true ↔ w.testBit k = true := Iff.rfl

/-- A raised event stays raised under a further event. -/
theorem raised_raise_other {s : State} {m n : Nat} (h : Raised s m) (hm : m < 128) : Raised (s.raise n) m := by
  by_cases hn : n / 32 = m / 32
  · have hi : n / 32 < Fl.EVT_PEND_PEND.reg.count := lt_of_lt_of_le (show n / 32 < 4 by omega) (by decide)
    rw [Raised, State.raise, ← hn, testBit_setFBit _ _ _ _ (m % 32) hi (by decide)
      (show m % 32 < 32 from Nat.mod_lt _ (by decide)), hn,
        show bitOf (s.f Fl.EVT_PEND_PEND (m / 32)) (m % 32) = true from h]
    rfl
  · rw [Raised, State.raise, State.setFBit, State.f_setF_member _ _ _ _ _ hn]
    exact h

/-- A block cause leaves every event raised that was raised before. -/
theorem Raised.causeOn {s : State} {a en : Fld} {i j n m : Nat} (h : Raised s m) (hm : m < 128)
    (ha : a.apart Fl.EVT_PEND_PEND = true) : Raised (s.causeOn a en i j n) m := by
  have hset : Raised (s.setFBit a i j true) m := Raised.of_regs h (fieldOf_setFBit_apart _ _ _ _ _ _ _ ha)
  unfold State.causeOn
  dsimp only
  split
  · exact raised_raise_other hset hm
  · exact hset

/-! ### Warm resets -/

theorem warmCause_acts {s : State} (k : Nat) (hr : ResetsAct s) : warmCause k s = warmReset (2 ^ k) s := by
  obtain ⟨hp, hst, hs, he⟩ := hr
  simp [warmCause, phase_off hp, hst, hs, he]

/-- A warm reset shows its cause, ends any save and boots, or waits where a boot is held. -/
theorem warmReset_acts {k : Nat} (hk : k < 11) (s : State) :
    (warmReset (2 ^ k) s).f ⟨R.SYS_RSTCAUSE, k, 1⟩ = 1 ∧ (warmReset (2 ^ k) s).sys.saveStep = 0 ∧
      ((warmReset (2 ^ k) s).sys.phase = .booting ∨ (warmReset (2 ^ k) s).sys.phase = .held) := by
  refine ⟨warmReset_cause hk (by simp []) s, by simp [warmReset_sys, startBoot], ?_⟩
  rw [warmReset_sys, startBoot]
  cases h : (s.sys.rstLow || s.sys.refWait) <;> simp

theorem warmCause_effect {c : Instr} {s u : State} {k : Nat} (hc : exec c s = done (warmCause k u)) (hk : k < 11)
    (hr : ResetsAct u) : Effect c s fun u => u.f ⟨R.SYS_RSTCAUSE, k, 1⟩ = 1 ∧ u.sys.saveStep = 0 ∧
      (u.sys.phase = .booting ∨ u.sys.phase = .held) :=
  effect_done hc (by rw [warmCause_acts k hr]; exact warmReset_acts hk u)

/-- What the loss of the reference leaves before its reset: the boot waits for the reference. -/
def lostReference (s : State) : State :=
  (({ s.setB Fl.SYS_CLKSTAT_REFLOST 0 true with sys.refWait := true } : State).setB Fl.SYS_CLKSTAT_LOCK 0 false
    |>.setB Fl.SYS_CLKSTAT_BACKUP 0 true).raise 2

theorem referenceLost_acts {s : State} (k : Nat) (hr : ResetsAct s) :
    referenceLost k s = warmCause k (lostReference s) := by
  obtain ⟨hp, hst, hs, he⟩ := hr
  simp [referenceLost, lostReference, phase_off hp, hst]

theorem lostReference_acts {s : State} (hr : ResetsAct s) : ResetsAct (lostReference s) := by
  obtain ⟨hp, hst, hs, he⟩ := hr
  rw [State.f_fieldOf] at hst
  exact ⟨by simpa [lostReference] using hp, by simpa (disch := decide) [lostReference, State.f_fieldOf] using hst,
    by simpa [lostReference] using hs, by simpa [lostReference] using he⟩

/-- The loss of the reference holds the boot until the reference is qualified. -/
theorem referenceLost_holds {s : State} (k : Nat) (hr : ResetsAct s) :
    (referenceLost k s).f Fl.SYS_CLKSTAT_REFLOST = 1 ∧ (referenceLost k s).sys.phase = .held ∧
      (referenceLost k s).sys.refWait = true := by
  rw [referenceLost_acts k hr, warmCause_acts k (lostReference_acts hr)]
  refine ⟨warmReset_refLost _ (by simp (disch := decide) [lostReference, State.f_fieldOf]), ?_, ?_⟩ <;>
    simp [warmReset_sys, startBoot, lostReference]

theorem referenceLost_effect {c : Instr} {s : State} {k : Nat} (hc : exec c s = done (referenceLost k s)) (hk : k <
  11)
    (hr : ResetsAct s) : Effect c s fun u => u.f ⟨R.SYS_RSTCAUSE, k, 1⟩ = 1 ∧ u.sys.saveStep = 0 ∧
      (u.sys.phase = .booting ∨ u.sys.phase = .held) :=
  warmCause_effect (hc.trans (congrArg done (referenceLost_acts k hr))) hk (lostReference_acts hr)

theorem pinWarm_holds {s : State} (hr : ResetsAct s) : (pinWarm s).sys.phase = .held ∧ (pinWarm s).sys.rstLow = true
  := by
  rw [pinWarm, warmCause_acts (s := { s with sys.rstLow := true }) 4 hr]
  constructor <;> simp [warmReset_sys, startBoot]

/-! ### Cold resets and the boots they let go -/

theorem softwareCold_waits {s : State} (hr : ResetsAct s) (hh : s.sys.phase ≠ .held) :
    (softwareCold s).sys.coldWait = true := by
  obtain ⟨hp, hst, hs, he⟩ := hr
  simp [softwareCold, phase_off hp, hh, hs, he]

theorem releaseHeld_boots {s : State} (hp : s.sys.phase = .held) (hr : s.sys.rstLow = false) (hw : s.sys.refWait =
  false) :
    releaseHeld s = { s with sys.phase := .booting } := by
  simp [releaseHeld, hp, hr, hw]

theorem pinCold_resets {s : State} (hp : s.sys.phase ≠ .off) (hr : s.sys.rstLow = true) :
    (pinCold s).reg R.SYS_RSTCAUSE = 2 ∧ (pinCold s).sys.bootKind = .cold ∧ (pinCold s).sys.phase = .held := by
  have hs : pinCold s = coldReset 2 s := by simp [pinCold, hp, hr]
  rw [hs]
  exact ⟨coldReset_cause 2 s, by simp [coldReset_sys, startBoot], by simp [coldReset_sys, startBoot, hr]⟩

theorem rstRelease_boots {bootsel hsel : Nat} {s : State} (hp : s.sys.phase = .held) (hw : s.sys.refWait = false) :
    (rstRelease bootsel hsel s).sys.phase = .booting ∧ (rstRelease bootsel hsel s).sys.rstLow = false := by
  rw [rstRelease, releaseHeld_boots]
  · exact ⟨rfl, rfl⟩
  · simp only [State.when]
    split <;> simp [sampleLands, showPort_sys, hp]
  · rfl
  · simp only [State.when]
    split <;> simp [sampleLands, showPort_sys, hw]

theorem coldAssert_resets {bootsel hsel : Nat} {s : State} (hc : s.sys.coldWait = true) (hr : s.sys.rstLow = false)
    (hw : s.sys.refWait = false) :
    let u := coldAssert true bootsel hsel s
    u.reg R.SYS_RSTCAUSE = 4 ∧ u.sys.phase = .booting ∧ u.sys.bootKind = .cold ∧ u.sys.bootsel = bootsel % 4 := by
  have hs : coldAssert true bootsel hsel s =
      coldReset 4 { s with sys.bootsel := bootsel % 4, sys.hsel := hsel % 2 } := by simp [coldAssert, hc]
  rw [hs]
  refine ⟨coldReset_cause 4 _, ?_, ?_, ?_⟩ <;> simp [coldReset_sys, startBoot, hr, hw]

/-! ### The watchdog and the clock check -/

theorem watchdogWrite_enables {s : State} (h : s.f Fl.SYS_WDTCTL_EN = 0) (n : Nat) :
    (watchdogWrite true n s).settle.f Fl.SYS_WDTCTL_EN = 1 ∧
      (watchdogWrite true n s).settle.f Fl.SYS_WDTCTL_TIMEOUT = max 1 (min 1000 n) := by
  have hw : clampNat 1 1000 n < 2 ^ Fl.SYS_WDTCTL_TIMEOUT.width := show max 1 (min 1000 n) < 1024 by omega
  rw [State.f_fieldOf] at h
  constructor
  · simp (disch := decide) [watchdogWrite, State.f_fieldOf, State.b_fieldOf, h]
  · simp (disch := first | decide | exact hw) [watchdogWrite, State.f_fieldOf, State.b_fieldOf, h]
    rfl

theorem watchdogKey_kick {s : State} (h : s.f Fl.SYS_WDTCTL_EN = 1) :
    (watchdogKey 0x5A s).sys.wdtHalf = false ∧ (watchdogKey 0x5A s).sys.phase = s.sys.phase := by
  simp [watchdogKey, State.b, h]

theorem watchdogKey_wrong {s : State} (h : s.f Fl.SYS_WDTCTL_EN = 1) {k : Byte} (hk : k ≠ 0x5A) :
    exec (.watchdogBadKey k) s = done (warmCause 6 s) := by
  have hn : k.toNat ≠ 0x5A := fun hn => hk (BitVec.eq_of_toNat_eq hn)
  refine congrArg done ?_
  rw [if_neg hk]
  simp [watchdogKey, State.b, h, hn]

theorem watchdogExpiry_acts {s : State} (h : s.f Fl.SYS_WDTCTL_EN = 1) (hp : s.sys.phase = .running) :
    watchdogExpiry s = warmCause 6 s := by
  simp [watchdogExpiry, State.watchdogRuns, State.b, h, hp]

theorem watchdogHalf_raises {s : State} (h : s.f Fl.SYS_WDTCTL_EN = 1) (hp : s.sys.phase = .running)
    (hh : s.sys.wdtHalf = false) : (watchdogHalf s).sys.wdtHalf = true ∧ Raised (watchdogHalf s) 5 := by
  have hs : watchdogHalf s = ({ s with sys.wdtHalf := true } : State).raise 5 := by
    simp [watchdogHalf, State.watchdogRuns, State.b, h, hp, hh]
  rw [hs]
  exact ⟨by simp, raised_raise _ 5 (by decide)⟩

/-- What a fault of the clock check changes after its event: the safety block's demands and causes (R438). -/
def clockFault (s : State) : State :=
  sfyCause 0 (s.each 48 fun p s => s.when (p < 24 || s.b Fl.RNG_STAT_GUEST) (demandPort 2 false p))

theorem clockFaultDemand_writes {A : Part} (hp : A.regs R.SFY_PSTAT.addr = true) (hy : A.sfy = true) (s : State) :
    (s.each 48 fun p s => s.when (p < 24 || s.b Fl.RNG_STAT_GUEST) (demandPort 2 false p)).without A = s.without A :=
  State.without_each (fun p s => State.without_when (demandPort_writes hp hy 2 false p) s _) s 48

theorem clockFault_sys (s : State) : (clockFault s).sys = s.sys :=
  sys_but ((sfyCause_writes rfl rfl _ _).trans (clockFaultDemand_writes rfl rfl s))

theorem clockFault_cchk (s : State) : (clockFault s).f Fl.SYS_CLKSTAT_CCHK = s.f Fl.SYS_CLKSTAT_CCHK :=
  fieldOf_but ((sfyCause_writes rfl rfl _ _).trans (clockFaultDemand_writes rfl rfl s)) 0 (by decide)

theorem clockFault_raised {s : State} {n : Nat} (h : Raised s n) (hn : n < 128) : Raised (clockFault s) n :=
  Raised.causeOn (Raised.of_regs h (fieldOf_but (fl := Fl.EVT_PEND_PEND)
    (clockFaultDemand_writes rfl rfl s) _ (by decide))) hn (by decide)

theorem clockWindow_eq (m n : Nat) {s : State} (hp : s.sys.phase ≠ .off) (hst : s.f Fl.SYS_PWRSTAT_STATE ≠ 3) :
    clockWindow m n s =
      let u := { s with sys.clockWindow := some (decide (20 * (max m n - min m n) ≤ n)) }
      if n < 20 * (max m n - min m n) ∧ s.sys.clockWindow ≠ some false then
        clockFault ((u.setB Fl.SYS_CLKSTAT_CCHK 0 true).raise 2) else u := by
  have hd : (!decide (n < 20 * (max m n - min m n))) = decide (20 * (max m n - min m n) ≤ n) := by
    rw [← decide_not]
    exact decide_eq_decide.mpr Nat.not_lt
  simp only [clockWindow, phase_off hp, hst, hd, clockFault]
  by_cases hf : n < 20 * (max m n - min m n) ∧ s.sys.clockWindow ≠ some false
  · simp [hf]
  · rw [if_neg hf]
    simp only [not_and_or, not_not, not_lt] at hf
    rcases hf with hf | hf <;> simp [hf]

theorem clockWindow_checks (m n : Nat) {s : State} (hp : s.sys.phase ≠ .off) (hst : s.f Fl.SYS_PWRSTAT_STATE ≠ 3) :
    (clockWindow m n s).sys.clockWindow = some (decide (20 * (max m n - min m n) ≤ n)) ∧
      (s.sys.clockWindow ≠ some false → n < 20 * (max m n - min m n) →
        (clockWindow m n s).f Fl.SYS_CLKSTAT_CCHK = 1 ∧ Raised (clockWindow m n s) 2) := by
  rw [clockWindow_eq m n hp hst]
  refine ⟨?_, fun hw hf => ?_⟩
  · dsimp only
    split
    · simp [clockFault_sys]
    · rfl
  · rw [if_pos ⟨hf, hw⟩]
    refine ⟨?_, clockFault_raised (raised_raise _ 2 (by decide)) (by decide)⟩
    rw [clockFault_cchk]
    simp (disch := decide) [State.f_fieldOf]

theorem spliceReset_resets {s : State} (hr : s.ringState = rSplicing) (h2 : s.f Fl.RNG_SPL_STEP = 2) :
    spliceReset s = warmReset (2 ^ 5) (s.setF Fl.RNG_SPL_STEP 0 3) := by
  simp [spliceReset, hr, h2]

/-- Settles O8, reset cause by reset cause. -/
theorem resets : Obligations.Resets := by
  intro s
  refine ⟨fun hr => ⟨⟨referenceLost_effect rfl (by decide) hr, effect_done rfl (referenceLost_holds 7 hr)⟩,
      ⟨referenceLost_effect rfl (by decide) hr, effect_done rfl ?_⟩,
      ⟨warmCause_effect (u := { s with sys.rstLow := true }) rfl (by decide) hr, effect_done rfl (pinWarm_holds hr)⟩,
      warmCause_effect rfl (by decide) hr, fun hen k hk => warmCause_effect (watchdogKey_wrong hen hk) (by decide) hr,
      fun hen hp => warmCause_effect (congrArg done (watchdogExpiry_acts hen hp)) (by decide) hr,
      fun hh => effect_done rfl (softwareCold_waits hr hh)⟩,
    fun hp hr => effect_done rfl ?_, fun hp hr => effect_done rfl (pinCold_resets hp hr),
    fun bootsel hsel hp hw => effect_done rfl (rstRelease_boots hp hw),
    fun bootsel hsel hc hr hw => effect_done rfl (coldAssert_resets hc hr hw),
    fun h n => answers_done rfl (watchdogWrite_enables h n),
    fun h => ⟨effect_done rfl (watchdogKey_kick h), fun hp hh => effect_done rfl (watchdogHalf_raises h hp hh)⟩,
    fun m n hp hst => effect_done rfl (clockWindow_checks m n hp hst), fun hr h2 => ?_⟩
  · exact ⟨(referenceLost_holds 8 hr).1, (referenceLost_holds 8 hr).2.1⟩
  · rw [referenceQualified, releaseHeld_boots (s := { s with sys.refWait := false }) hp hr rfl]
    exact ⟨rfl, rfl⟩
  · exact effect_done (congrArg done (spliceReset_resets hr h2)) (warmReset_acts (by decide) _).2.2

end Sys2Proof.Machine

/-! ## Operations of the host queues: what a write to a slot and its end leave (R585, R588) -/

namespace Sys2Proof.Machine

set_option Elab.async false

theorem putOp_host (k : Nat) (o : HostOp) (s : State) :
    (putOp k o s).host = { s.host with slots := s.host.slots.setIfInBounds k (some o) } := by
  simp [putOp, showInflight]

theorem op_lt {s : State} {k : Nat} {o : HostOp} (h : s.op k = some o) : k < 48 := by
  by_contra hk
  have hl : s.host.slots.toList.length = 48 := s.host.slots.length_toList
  rw [State.op, List.getD_eq_default _ _ (by omega)] at h
  exact absurd h (by simp)

theorem op_putOp_same {k : Nat} (hk : k < 48) (o : HostOp) (s : State) : (putOp k o s).op k = some o := by
  rw [State.op, putOp_host]
  simp [List.getD_eq_getElem?_getD, hk]

theorem op_putOp_other {k j : Nat} (h : k ≠ j) (o : HostOp) (s : State) : (putOp k o s).op j = s.op j := by
  rw [State.op, putOp_host]
  simp [List.getD_eq_getElem?_getD, State.op, h]

/-- The operation in slot `k` as `endOp` leaves it. -/
def HostOp.endsWith (o : HostOp) (status : Nat) (r0 r1 : Word) : HostOp :=
  { o with ended := true, status := status, result0 := r0, result1 := r1 }

theorem op_of_slots {s t : State} (h : t.host.slots = s.host.slots) (k : Nat) : t.op k = s.op k := by
  rw [State.op, h]
  rfl

theorem op_of_host {s t : State} (h : t.host = s.host) (k : Nat) : t.op k = s.op k :=
  op_of_slots (congrArg _ h) k

theorem op_hstCause (j k : Nat) (s : State) : (hstCause j s).op k = s.op k :=
  op_of_host (State.causeOn_host ..) k

theorem op_when {c : Bool} {f : State → State} {k : Nat} (h : ∀ s, (f s).op k = s.op k) (s : State) :
    (s.when c f).op k = s.op k := by
  unfold State.when
  split
  · exact h s
  · rfl

/-- The end of the operation in slot `k` is noted. -/
def endNoted (k : Nat) (s : State) : State :=
  { s with host.endOrder := s.host.endOrder ++ [k], host.storageOrder := s.host.storageOrder.erase k }

theorem op_endNoted (k j : Nat) (s : State) : (endNoted k s).op j = s.op j := op_of_slots rfl j

theorem endOp_open {s : State} {k : Nat} {o : HostOp} (h : s.op k = some o) (he : o.ended = false) (status : Nat)
    (r0 r1 : Word) : endOp k status r0 r1 s =
      (endNoted k (putOp k (o.endsWith status r0 r1) s)).when (steppedOp o.op) (hstCause 5) := by
  simp [endOp, h, he, endNoted, HostOp.endsWith]

/-- An operation that ends shows its status and results. -/
theorem op_endOp {s : State} {k : Nat} {o : HostOp} (h : s.op k = some o) (he : o.ended = false) (status : Nat)
    (r0 r1 : Word) : (endOp k status r0 r1 s).op k = some (o.endsWith status r0 r1) := by
  rw [endOp_open h he, op_when (op_hstCause 5 k), op_endNoted, op_putOp_same (op_lt h)]

theorem onOp_open {s : State} {k op : Nat} {o : HostOp} {f : HostOp → State → State} (h : s.op k = some o)
    (hop : o.op = op) (he : o.ended = false) : onOp k op f s = f o s := by
  simp [onOp, h, hop, he]

theorem endOp_sys (k status : Nat) (r0 r1 : Word) (s : State) : (endOp k status r0 r1 s).sys = s.sys :=
  sys_but (endOp_writes rfl rfl rfl rfl rfl k status r0 r1 s)

end Sys2Proof.Machine

/-! ## Boots (R50 to R54) -/

namespace Sys2Proof.Machine

set_option Elab.async false

/-- A cold boot is under way and no save holds it. -/
def ColdBoot (s : State) : Prop :=
  s.sys.phase = .booting ∧ s.sys.bootKind = .cold ∧ s.sys.saveStep = 0 ∧ s.sys.saveEnd = false

theorem bootStepEnd_main {s : State} (h : ColdBoot s) : bootStepEnd .main s = mainStepEnd s := by
  obtain ⟨hp, hk, hs, he⟩ := h
  simp [bootStepEnd, hp, hk, hs, he]

theorem bootStepEnd_lock {s : State} (h : ColdBoot s) (hm : s.sys.mainStep = 0) :
    (bootStepEnd .main s).sys.mainStep = 1 ∧ (bootStepEnd .main s).f Fl.SYS_CLKSTAT_LOCK = 1 ∧
      (bootStepEnd .main s).f Fl.SYS_CLKSTAT_BACKUP = 0 := by
  rw [bootStepEnd_main h, mainStepEnd, hm]
  exact ⟨rfl, by simp (disch := decide) [State.f_fieldOf], by simp (disch := decide) [State.f_fieldOf]⟩

theorem cellsFind_filter_out {α : Type} (p : Nat → Bool) (l : List (Nat × α)) {k : Nat} (h : p k = false) :
    cellsFind (l.filter fun c => p c.1) k = none := by
  induction l with
  | nil => rfl
  | cons e l ih =>
    rw [List.filter_cons]
    split
    · next hp =>
      have hne : e.1 ≠ k := fun he => by simp [he ▸ hp] at h
      simp only [cellsFind, if_neg hne, ih]
    · exact ih

theorem clearSram_byte {s : State} {a : Nat} (h1 : 0x20000000 ≤ a) (h2 : a < 0x21800000) : (clearSram s).byte a = 0
  := by
  have hnone : cellsFind (clearSram s).mem a = none :=
    cellsFind_filter_out (fun a => !(0x20000000 ≤ a && a < 0x21800000)) s.mem (by simp [h1, h2])
  rw [State.byte, cellsGet, hnone]
  rfl

/-- The second main step clears SRAM and pauses where non-volatile writes may not start (R51). -/
theorem bootStepEnd_mram {s : State} (h : ColdBoot s) (hm : s.sys.mainStep = 1) :
    (bootStepEnd .main s).sys.mainStep = 2 ∧
      ((bootStepEnd .main s).sys.nvPause = true ↔ s.f Fl.THM_JSTAT_NVOK = 0) ∧
      ∀ a, 0x20000000 ≤ a → a < 0x21800000 → (bootStepEnd .main s).byte a = 0 := by
  have hs : bootStepEnd .main s = mramStep (clearSram s) := by
    rw [bootStepEnd_main h, mainStepEnd, hm]
    simp [h.2.1]
  rw [hs]
  refine ⟨rfl, ?_, fun a h1 h2 => clearSram_byte h1 h2⟩
  change (!(s.f Fl.THM_JSTAT_NVOK != 0)) = true ↔ _
  simp

theorem bootStepEnd_tracks {s : State} (h : ColdBoot s) :
    (s.sys.shroudStep = 0 → (bootStepEnd .shroud s).sys.shroudStep = 1) ∧
      (bootStepEnd .analog s).sys.analogStep = 1 := by
  obtain ⟨hp, hk, hs, he⟩ := h
  constructor
  · intro h0
    simp [bootStepEnd, hp, hk, hs, he, h0]
  · simp [bootStepEnd, hp, hk, hs, he]

theorem bootResume_goes {s : State} (hp : s.sys.phase = .booting) (hn : s.sys.nvPause = true)
    (hv : s.f Fl.THM_JSTAT_NVOK = 1) : (bootResume s).sys.nvPause = false := by
  simp [bootResume, hp, hn, State.b, hv]

/-! ### The join -/

/-- What the join does before it marks the device running. -/
def joinBlocks (s : State) : State :=
  let s := metersRestart (some (s.mtr.run + 1)) (timeReload s)
  blocksBoot (restartSettle false s.causeBit s)

/-- The join shows the readiness bits and runs hart 0 at the image's first entry. -/
def joinRuns (s : State) : State :=
  let s := setEntries { s with sys.phase := .running }
  let s := s.setB Fl.SYS_PWRSTAT_IMGRDY 0 true |>.setB Fl.SYS_PWRSTAT_SFYRDY 0 true |>.setB Fl.SYS_PWRSTAT_ANARDY 0
    true
  startHart 0 (BitVec.ofNat 32 (s.images.entries.getD 0 0)) s

theorem bootJoin_cold {s : State} (h : ColdBoot s) (hm : s.sys.mainStep = 5) (hsh : s.sys.shroudStep = 2)
    (ha : s.sys.analogStep = 1) : bootJoin s = joinRuns (joinBlocks s) := by
  obtain ⟨hp, hk, hs, he⟩ := h
  simp [bootJoin, State.tracksEnded, hp, hk, hs, he, hm, hsh, ha, joinRuns, joinBlocks]

theorem startHart_sys (n : Nat) (pc : Word) (s : State) : (startHart n pc s).sys = s.sys :=
  sys_but (startHart_writes rfl rfl n pc s)

theorem fieldOf_startHart (n : Nat) (pc : Word) (s : State) {fl : Fld} (i : Nat)
    (h : (!(regsIn [R.SYS_HARTSTAT]) fl.reg.addr && decide (fl.reg.count ≤ 65536)) = true) :
    fieldOf (startHart n pc s).regs fl i = fieldOf s.regs fl i :=
  fieldOf_of_without (A := { besideMemory with regs := regsIn [R.SYS_HARTSTAT] }) (startHart_writes rfl rfl n pc s)
    i h

theorem hart_startHart (h : Hart) (pc : Word) (s : State) :
    (startHart h.val pc s).hart h.val = startedHart pc (s.hart h.val) := State.hart_withHart_same s h _

theorem setEntries_sys (s : State) : (setEntries s).sys = s.sys := sys_but (setEntries_writes rfl s)

theorem joinRuns_shows (s : State) :
    (joinRuns s).sys.phase = .running ∧ (joinRuns s).f Fl.SYS_PWRSTAT_IMGRDY = 1 ∧
      (joinRuns s).f Fl.SYS_PWRSTAT_SFYRDY = 1 ∧ (joinRuns s).f Fl.SYS_PWRSTAT_ANARDY = 1 ∧
      ((joinRuns s).hart 0).run = .running ∧ ((joinRuns s).hart 0).mode = 1 := by
  have hart0 := hart_startHart 0
  refine ⟨?_, ?_, ?_, ?_, ?_, ?_⟩
  · simp [joinRuns, startHart_sys, setEntries_sys]
  · simp (disch := decide) [joinRuns, State.f_fieldOf, fieldOf_startHart]
  · simp (disch := decide) [joinRuns, State.f_fieldOf, fieldOf_startHart]
  · simp (disch := decide) [joinRuns, State.f_fieldOf, fieldOf_startHart]
  · exact congrArg HartCtx.run (hart0 _ _)
  · exact congrArg HartCtx.mode (hart0 _ _)

/-! ### Slots and the return from Stow -/

theorem imgSlot_setImgSlot (k : Nat) (f : ImageSlot → ImageSlot) (s : State) :
    (setImgSlot k f s).imgSlot k = f (s.imgSlot k) := by
  unfold setImgSlot State.imgSlot
  split <;> rfl

theorem tamper_sys (cls : Nat) (s : State) : (tamper cls s).sys = s.sys :=
  sys_but (tamper_writes rfl rfl rfl rfl rfl rfl rfl cls s)

theorem imgSlot_sys {s t : State} (k : Nat) (ha : t.sys.slotA = s.sys.slotA) (hb : t.sys.slotB = s.sys.slotB) :
    t.imgSlot k = s.imgSlot k := by
  rw [State.imgSlot, ha, hb]
  rfl

/-- What CONFIRM_SLOT does to the running trial slot. -/
def slotConfirmed (k : Nat) (s : State) : State :=
  let s := setImgSlot k (fun x => { x with state := .confirmed, trials := 0 }) s
  let s := if s.sys.minSecVer < s.images.secVer then { s with sys.raiseSecVer := some s.images.secVer } else s
  tamper 9 (s.setB Fl.SYS_BOOTCFG_CONFIRMED 0 true |>.setF Fl.SYS_BOOTSTAT_TRIAL 0 0)

theorem confirmSlot_trial {s : State} {k : Nat} (hk : s.images.slot = some k) (hsrc : s.f Fl.SYS_BOOTSTAT_SOURCE = 0)
    (ht : (s.imgSlot k).state = .trial) (hn : s.nvOk = true) : confirmSlot s = slotConfirmed k s := by
  simp [confirmSlot, slotConfirmed, hk, hsrc, ht, hn]

theorem slotConfirmed_shows (k : Nat) (s : State) : ((slotConfirmed k s).imgSlot k).state = .confirmed ∧
    (slotConfirmed k s).f Fl.SYS_BOOTCFG_CONFIRMED = 1 := by
  constructor
  · rw [slotConfirmed, imgSlot_sys (s := setImgSlot k (fun x => { x with state := .confirmed, trials := 0 }) s),
      imgSlot_setImgSlot]
    all_goals simp only [tamper_sys, State.setF_sys, State.setB_sys]; split <;> rfl
  · rw [slotConfirmed, State.f_fieldOf, fieldOf_but (tamper_writes rfl rfl rfl rfl rfl rfl rfl _ _) 0 (by decide)]
    simp (disch := decide)

/-- The state in which the copied handler starts after Stow (R53). -/
def handlerCopied (r : ResumeRecord) (s : State) : State :=
  let b := s.bytes r.start r.len
  let s := { s with regs := s.resetRegs .resume }
  let s := resetBlocks (billingReset s)
  let s := { s with harts := s.harts.map (resetHart false), lpe := {}, lsw := {}
                    mem := s.mem.filter fun c => c.1 < 0x20000000 }
  let s := timeReload (showPort (stoAfterReset (s.setBytes r.sram b)))
  let s := { s with sys.resumeStarted := true, sys.bootKind := .resume, sys.phase := .running, sys.onHp := false }
  let s := s.setF Fl.SYS_PWRSTAT_PREV 0 3 |>.setF Fl.SYS_PWRSTAT_STATE 0 0
    |>.setB Fl.SYS_PWRSTAT_IMGRDY 0 false |>.setB Fl.SYS_PWRSTAT_SFYRDY 0 false |>.setB Fl.SYS_PWRSTAT_ANARDY 0 false
  s.setB Fl.SYS_CLKSTAT_LOCK 0 true |>.setB Fl.SYS_CLKSTAT_BACKUP 0 false

theorem handlerCopied_started (r : ResumeRecord) (s : State) : (handlerCopied r s).sys.resumeStarted = true := by
  simp [handlerCopied]

theorem stowHandler_matches {s : State} {r : ResumeRecord} (hst : s.f Fl.SYS_PWRSTAT_STATE = 3)
    (ht : s.sys.target = some 0) (hr : s.sys.resumeStarted = false) (hi : s.images.resume = some r)
    (hh : Config.shake256 (s.bytes r.start r.len) 32 = r.hash) :
    stowHandler s = startHart 0 (BitVec.ofNat 32 r.sram) (blocksBoot (handlerCopied r s)) := by
  have hgo : ¬(s.f Fl.SYS_PWRSTAT_STATE != 3 || s.sys.target != some 0 || s.sys.resumeStarted) = true := by
    simp [hst, ht, hr]
  have hok : ¬(Config.shake256 (s.bytes r.start r.len) 32 != r.hash) = true := by simp [hh]
  rw [stowHandler, if_neg hgo, hi]
  exact if_neg hok

theorem blocksBoot_sys (s : State) : (blocksBoot s).sys = s.sys :=
  sys_but (by simp (disch := decide) only [blocksBoot_writes])

theorem stowHandler_starts {s : State} {r : ResumeRecord} (h : stowHandler s =
    startHart 0 (BitVec.ofNat 32 r.sram) (blocksBoot (handlerCopied r s))) :
    (stowHandler s).sys.resumeStarted = true ∧ ((stowHandler s).hart 0).run = .running ∧
      ((stowHandler s).hart 0).pc = BitVec.ofNat 32 r.sram := by
  have hart0 := hart_startHart 0 (BitVec.ofNat 32 r.sram) (blocksBoot (handlerCopied r s))
  rw [h]
  refine ⟨?_, congrArg HartCtx.run hart0, congrArg HartCtx.pc hart0⟩
  rw [startHart_sys, blocksBoot_sys, handlerCopied_started]

theorem resumeFailed_sys (s : State) : (resumeFailed s).sys.bootKind = .cold ∧ (resumeFailed s).sys.resumeStarted =
  false := by
  constructor <;> simp [resumeFailed, coldReset_sys, startBoot]

theorem stowImage_fails {s : State} (hr : s.sys.resumeStarted = true) (hi : s.f Fl.SYS_PWRSTAT_IMGRDY = 0)
    (hst : s.f Fl.STO_STAT_STATE = 2) (hs : s.images.slot = none) : stowImage s = resumeFailed s := by
  simp [stowImage, hr, State.b, hi, hst, hs]

theorem stowShroud_ready {s : State} (hr : s.sys.resumeStarted = true) (hi : s.f Fl.SYS_PWRSTAT_IMGRDY = 1)
    (hs : s.f Fl.SYS_PWRSTAT_SFYRDY = 0) :
    (stowShroud s).f Fl.SYS_PWRSTAT_SFYRDY = 1 ∧ (stowShroud s).sfy.running = true := by
  have hw : stowShroud s = { s.setB Fl.SYS_PWRSTAT_SFYRDY 0 true with
      sfy.running := true, images.shroudImage := s.images.safetyImage } := by
    simp [stowShroud, hr, State.b, hi, hs]
  rw [hw]
  exact ⟨by simp (disch := decide) [State.f_fieldOf], rfl⟩

/-- The restart of metering and billing leaves the power status. -/
theorem stowAnalog_ready {s : State} (hr : s.sys.resumeStarted = true) (ha : s.f Fl.SYS_PWRSTAT_ANARDY = 0) :
    (stowAnalog s).f Fl.SYS_PWRSTAT_ANARDY = 1 := by
  have hw : ∀ c u, (restartSettle false c (metersRestart (some (s.mtr.run + 1)) u)).without
      (butReg R.SYS_PWRSTAT) = u.without (butReg R.SYS_PWRSTAT) := fun c u => by
    simp (disch := decide) only [restartSettle_writes, metersRestart_writes]
  have hs : stowAnalog s = restartSettle false s.causeBit (metersRestart (some (s.mtr.run + 1))
      (s.setB Fl.SYS_PWRSTAT_ANARDY 0 true)) := by
    simp [stowAnalog, hr, State.b, ha]
  rw [hs, State.f_fieldOf, fieldOf_but (fl := Fl.SYS_PWRSTAT_ANARDY) (hw _ _) 0 (by decide)]
  simp (disch := decide)

/-! ### HOST_BOOT -/

theorem opBoot_window {s : State} {k : Nat} {o : HostOp} (hk : s.op k = some o) (hop : o.op = 0x8F)
    (he : o.ended = false) (hb : s.f Fl.HST_STAT_BOOTROM = 1) (hr : s.reachable { o with flags := 0 } 0 o.len = true)
    (hl : o.len ≠ 0) (h3 : s.sys.bootsel ≠ 3) (hh : s.sys.phase ≠ .bootHold) :
    let b := s.bytes s.windowBase o.len
    opBoot k s = if s.bootRefusal b = 0 then
        endOp k 0 0 0 ({ s with sys.fetched := b, sys.fetchedSlot := none, sys.mainStep := 4, sys.phase := .booting
                                images.source := if s.pcie then 1 else 2 }.setB Fl.SYS_BOOTSTAT_HOLD 0 false)
      else (endOp k 4 (BitVec.ofNat 32 (s.bootRefusal b)) 0 s).raise 7 := by
  rw [opBoot, onOp_open hk hop he]
  simp [State.b, hb, hr, hl, h3, hh]

/-- What HOST_BOOT answers once the boot ROM waits for an image. -/
theorem opBoot_shows {s : State} {k : Nat} {o : HostOp} (hk : s.op k = some o) (hop : o.op = 0x8F)
    (he : o.ended = false) (hb : s.f Fl.HST_STAT_BOOTROM = 1) (hr : s.reachable { o with flags := 0 } 0 o.len = true)
    (hl : o.len ≠ 0) (h3 : s.sys.bootsel ≠ 3) (hh : s.sys.phase ≠ .bootHold) :
    ∃ p, (opBoot k s).op k = some p ∧ p.ended = true ∧
      if s.bootRefusal (s.bytes s.windowBase o.len) = 0 then p.status = 0 ∧ (opBoot k s).sys.phase = .booting ∧
        (opBoot k s).sys.mainStep = 4 ∧ (opBoot k s).sys.fetched = s.bytes s.windowBase o.len ∧
        (opBoot k s).f Fl.SYS_BOOTSTAT_HOLD = 0
      else p.status = 4 ∧ Raised (opBoot k s) 7 := by
  rw [opBoot_window hk hop he hb hr hl h3 hh]
  dsimp only
  by_cases hok : s.bootRefusal (s.bytes s.windowBase o.len) = 0
  · rw [if_pos hok]
    refine ⟨_, op_endOp ((op_of_host (by simp) k).trans hk) he _ _ _, rfl, ?_⟩
    rw [if_pos hok]
    refine ⟨rfl, ?_, ?_, ?_, ?_⟩
    · simp [endOp_sys]
    · simp [endOp_sys]
    · simp [endOp_sys]
    · rw [State.f_fieldOf, fieldOf_but (endOp_writes rfl rfl rfl rfl rfl _ _ _ _ _) 0 (by decide)]
      simp (disch := decide)
  · rw [if_neg hok]
    refine ⟨_, (op_of_host (State.raise_host ..) k).trans (op_endOp hk he _ _ _), rfl, ?_⟩
    rw [if_neg hok]
    exact ⟨rfl, raised_raise _ 7 (by decide)⟩

theorem opBoot_outside {s : State} {k : Nat} {o : HostOp} (hk : s.op k = some o) (hop : o.op = 0x8F)
    (he : o.ended = false) (hb : s.f Fl.HST_STAT_BOOTROM = 0) : opBoot k s = endOp k 4 0 0 s := by
  rw [opBoot, onOp_open hk hop he]
  simp [State.b, hb]

/-- Settles O9: the boot tracks, the join, the slot, the return from Stow, and HOST_BOOT. -/
theorem boots : Obligations.Boots := by
  intro s
  refine ⟨fun hc hm => effect_done rfl (bootStepEnd_lock hc hm),
    fun hc hm => effect_done rfl (bootStepEnd_mram hc hm),
    fun hc h0 => effect_done rfl ((bootStepEnd_tracks hc).1 h0), fun hc => effect_done rfl (bootStepEnd_tracks hc).2,
    fun hp hn hv => effect_done rfl (bootResume_goes hp hn hv),
    fun hc hm hsh ha => effect_done (congrArg done (bootJoin_cold hc hm hsh ha)) (joinRuns_shows _),
    fun k hk hsrc ht hn => effect_done (congrArg done (confirmSlot_trial hk hsrc ht hn)) (slotConfirmed_shows k s),
    fun r hst ht hr hi hh => effect_done rfl (stowHandler_starts (stowHandler_matches hst ht hr hi hh)),
    fun hr hi hst hs => effect_done (congrArg done (stowImage_fails hr hi hst hs)) (resumeFailed_sys s),
    fun hr hi hs => effect_done rfl (stowShroud_ready hr hi hs),
      fun hr ha => effect_done rfl (stowAnalog_ready hr ha),
    fun k o hk hop he => ⟨fun hb => ?_, fun hb hr hl h3 hh => effect_done rfl (opBoot_shows hk hop he hb hr hl h3
      hh)⟩⟩
  exact effect_done (congrArg done (opBoot_outside hk hop he hb)) ⟨_, op_endOp hk he _ _ _, rfl, rfl⟩

end Sys2Proof.Machine

/-! ## Boot ROM services (R98 to R106) -/

namespace Sys2Proof.Machine

set_option Elab.async false

/-- A service has returned `v` to the link register of the hart context `x` that called it. -/
def ServiceReturns (h : Hart) (x : HartCtx) (t : State) (v : Int) : Prop :=
  (t.hart h.val).r 2 = BitVec.ofInt 32 v ∧ (t.hart h.val).r 1 = (if v < 0 then 0xFFFFFFFF else 0) ∧
    (t.hart h.val).pc = x.r 31 &&& 0xFFFFFFFC ∧
    ∀ k : RegNum, 20 ≤ k.toNat → k.toNat < 31 → (t.hart h.val).r k = x.r k

theorem clobber_keeps (h : Hart) {k : RegNum} (l : List RegNum) (hk : k ∉ l) (s : State) :
    ((s.eachOf l fun r s => let d := s.draw; setG h.val r (BitVec.ofNat 32 d.1) d.2).hart h.val).r k =
      (s.hart h.val).r k := by
  induction l generalizing s with
  | nil => rfl
  | cons r l ih =>
    refine (ih (fun hl => hk (List.mem_cons_of_mem _ hl)) _).trans ?_
    dsimp only
    rw [setG, State.hart_setHart_same, HartCtx.r_setR_ne _ _ (show r ≠ k from fun he => hk (by simp [he]))]
    rfl

theorem not_clobbered : ∀ k : RegNum, 20 ≤ k.toNat → k.toNat < 31 → k ∉ clobbered ∧ k ≠ 1 ∧ k ≠ 2 := by decide

theorem serviceReturn_returns (h : Hart) (v : Int) (s : State) :
    ServiceReturns h (s.hart h.val) (serviceReturn h.val v s) v := by
  have hkept := fun k (hk : k ∉ clobbered) => clobber_keeps h clobbered hk s
  unfold ServiceReturns serviceReturn
  dsimp only
  generalize (s.eachOf clobbered fun r s => setG h.val r (BitVec.ofNat 32 s.draw.1) s.draw.2) = w at hkept ⊢
  rw [State.hart_withHart_same]
  refine ⟨?_, HartCtx.r_setR _ _ _ (by decide), rfl, fun k h20 h31 => ?_⟩
  · exact (HartCtx.r_setR_ne _ _ (by decide)).trans (HartCtx.r_setR _ _ _ (by decide))
  · obtain ⟨hc, h1, h2⟩ := not_clobbered k h20 h31
    exact (HartCtx.r_setR_ne _ _ h1.symm).trans ((HartCtx.r_setR_ne _ _ h2.symm).trans (hkept k hc))

theorem serviceReturn_images (n : Nat) (v : Int) (s : State) : (serviceReturn n v s).images = s.images :=
  State.images_of_without (A := { besideMemory with images := false, mem := true, pending := true })
    (serviceReturn_writes rfl rfl rfl n v s) rfl

/-- A supervisor hart at a service's entry gets the body's result, and the images as the body left them. -/
theorem answers_service {c : Instr} {h : Hart} {s u : State} {entry : Nat} {v : Int}
    {body : HartCtx → State → Int × State} (hc : exec c s = done (service h.val entry body s))
    (hr : s.hartRuns h.val = true) (hs : (s.hart h.val).sup = true) (hp : (s.hart h.val).pc = BitVec.ofNat 32 entry)
    (he : entry < 2 ^ 32) (hb : body (s.hart h.val) s = (v, u)) (hu : u.harts = s.harts) :
    Answers c s fun t => ServiceReturns h (s.hart h.val) t v ∧ t.images = u.images := by
  have hpc : (s.hart h.val).pc.toNat = entry := by rw [hp, BitVec.toNat_ofNat, Nat.mod_eq_of_lt he]
  have hserv : service h.val entry body s = serviceReturn h.val v u := by
    simp [service, hr, hs, hpc, hb]
  have hret := serviceReturn_returns h v u
  rw [State.hart_congr hu] at hret
  refine answers_done (hc.trans (congrArg done hserv)) ⟨?_, ?_⟩
  · simpa [ServiceReturns] using hret
  · exact (State.images_of_without (State.settle_settled _) rfl).trans (serviceReturn_images h.val v u)

theorem ticket_of_images {s t : State} (h : t.images = s.images) (n : Nat) : t.ticket n = s.ticket n := by
  rw [State.ticket, h]
  rfl

/-- Writing a ticket that stands in its range. -/
theorem ticket_setTicket {n : Nat} (h1 : 1 ≤ n) (h4 : n ≤ 4) (x : Option Ticket) (s : State) :
    (setTicket n x s).ticket n = x := by
  simp [State.ticket, setTicket, show n ≠ 0 by omega, show n - 1 < 4 by omega]

theorem ticket_range {s : State} {n : Nat} (h : (s.ticket n).isSome = true) : 1 ≤ n ∧ n ≤ 4 := by
  unfold State.ticket at h
  split at h
  · simp at h
  · next h0 =>
    by_cases hn : n - 1 < 4
    · omega
    · simp [hn] at h

theorem imgCheck_lowest {s : State} {i : Nat} (hi : i < 4) (hn : s.ticket (i + 1) = none)
    (hl : ∀ j, j < i → (s.ticket (j + 1)).isSome = true) (x : HartCtx) :
    imgCheck x s = ((i : Int) + 1,
      setTicket (i + 1) (some { addr := (x.r 2).toNat, len := (x.r 3).toNat, status := 0 }) s) := by
  have hf : ((List.range 4).find? fun i => (s.ticket (i + 1)).isNone) = some i := by
    refine List.find?_range_eq_some.mpr ⟨by simp [hn], List.mem_range.mpr hi, fun j hj => ?_⟩
    simpa using hl j hj
  rw [imgCheck, hf]

theorem imgCheck_full {s : State} (h : ∀ i, i < 4 → (s.ticket (i + 1)).isSome = true) (x : HartCtx) :
    imgCheck x s = (-1, s) := by
  have hf : ((List.range 4).find? fun i => (s.ticket (i + 1)).isNone) = none := by
    refine List.find?_eq_none.mpr fun i hi => ?_
    simpa using Option.isSome_iff_ne_none.mp (h i (List.mem_range.mp hi))
  rw [imgCheck, hf]

theorem imgStatus_eq (x : HartCtx) (s : State) :
    imgStatus x s = (match s.ticket (x.r 2).toNat with | some k => (k.status : Int) | none => -5, s) := by
  unfold imgStatus
  cases s.ticket (x.r 2).toNat <;> rfl

theorem imgDrop_drops (x : HartCtx) (s : State) :
    ∃ u, imgDrop x s = (0, u) ∧ u.harts = s.harts ∧ u.ticket (x.r 2).toNat = none := by
  cases ht : (s.ticket (x.r 2).toNat).isSome with
  | true =>
    obtain ⟨h1, h4⟩ := ticket_range ht
    exact ⟨setTicket (x.r 2).toNat none s, if_pos ht, rfl, ticket_setTicket h1 h4 none s⟩
  | false => exact ⟨s, if_neg (by rw [ht]; decide), rfl, by simpa using ht⟩

theorem imgPlace_noTicket {x : HartCtx} {s : State} (h : s.ticket (x.r 2).toNat = none) : imgPlace x s = (-5, s) := by
  rw [imgPlace, h]

theorem imgPlace_refused {x : HartCtx} {s : State} {k : Ticket} (h : s.ticket (x.r 2).toNat = some k)
    (hk : k.status ≠ 1) : imgPlace x s = (-2, s) := by
  rw [imgPlace, h]
  exact if_pos (by simp [hk])

theorem imgSlot_noTicket {x : HartCtx} {s : State} (h : s.ticket (x.r 2).toNat = none) : imgSlot x s = (-5, s) := by
  rw [imgSlot, h]

theorem imgSlot_closed {x : HartCtx} {s : State} {k : Ticket} (h : s.ticket (x.r 2).toNat = some k)
    (hk : k.status = 1) (ht : imgType (s.bytes k.addr k.len) = 1) (hn : s.nvOk = false) : imgSlot x s = (-4, s) := by
  rw [imgSlot, h]
  exact (if_neg (by simp [hk, ht])).trans (if_pos (by simp [hn]))

theorem resumeSet_refused {x : HartCtx} (s : State)
    (h : (x.r 3).toNat < 0x10100000 ∨ 0x10400000 < (x.r 3).toNat + (x.r 4).toNat ∨ 16384 < (x.r 4).toNat) :
    resumeSet x s = (-2, s) := by
  refine if_pos ?_
  simp only [inMramProgram, Bool.or_eq_true, Bool.not_eq_true', decide_eq_true_eq, decide_eq_false_iff_not]
  omega

theorem resumeSet_stores {x : HartCtx} {s : State} (h1 : 0x10100000 ≤ (x.r 3).toNat)
    (h2 : (x.r 3).toNat + (x.r 4).toNat ≤ 0x10400000) (h4 : 4 ≤ (x.r 4).toNat) (hl : (x.r 4).toNat ≤ 16384)
    (hs : inSram (x.r 2).toNat (x.r 4).toNat = true) (hn : s.nvOk = true) :
    resumeSet x s = (0, { s with images.resume := some (ResumeRecord.mk (x.r 2).toNat (x.r 3).toNat (x.r 4).toNat
      (Config.shake256 (s.bytes (x.r 3).toNat (x.r 4).toNat) 32)) }) := by
  have hgo : ¬(!inMramProgram (x.r 3).toNat (x.r 4).toNat || (x.r 4).toNat < 4 || 16384 < (x.r 4).toNat ||
      !inSram (x.r 2).toNat (x.r 4).toNat) = true := by
    simp only [inMramProgram, hs, Bool.or_eq_true, Bool.not_eq_true', decide_eq_true_eq, decide_eq_false_iff_not,
      Bool.not_true, Bool.false_eq_true, or_false]
    omega
  refine (if_neg hgo).trans ?_
  simp [hn]

theorem imageCheckDone_status {n : Nat} {k : Ticket} {s : State} (h : s.ticket n = some k) (h0 : k.status = 0) :
    (imageCheckDone n s).settle.ticket n = some { k with status := s.checkResult (s.bytes k.addr k.len) } := by
  obtain ⟨h1, h4⟩ := ticket_range (by rw [h]; rfl)
  have hs : imageCheckDone n s = setTicket n (some { k with status := s.checkResult (s.bytes k.addr k.len) }) s := by
    simp [imageCheckDone, h, h0]
  rw [ticket_of_images (State.images_of_without (State.settle_settled _) rfl), hs, ticket_setTicket h1 h4]

/-- Settles O21, service by service: what the body answers, and the return of every service. -/
theorem imageServices : Obligations.ImageServices := by
  refine ⟨fun h s hr hs => ⟨fun hp => ⟨fun i hi hn hl => ?_, fun hall => ?_⟩, fun hp => ?_, fun hp hn => ?_,
    fun hp k hk hk1 => ?_, fun hp hn => ?_, fun hp k hk hk1 ht hn => ?_, fun hp => ?_, fun hp => ⟨fun hb => ?_,
    fun h1 h2 h4 hl hin hn => ?_⟩⟩, fun n k s h h0 => answers_done rfl (imageCheckDone_status h h0)⟩
  · refine answers_mono (answers_service rfl hr hs hp (by decide) (imgCheck_lowest hi hn hl _) rfl) fun t ht => ⟨ht.1,
      ?_⟩
    rw [ticket_of_images ht.2, ticket_setTicket (by omega) (by omega)]
  · exact answers_mono (answers_service rfl hr hs hp (by decide) (imgCheck_full hall _) rfl) fun t ht => ht.1
  · exact answers_service rfl hr hs hp (by decide) (imgStatus_eq _ s) rfl
  · exact answers_mono (answers_service rfl hr hs hp (by decide) (imgPlace_noTicket hn) rfl) fun t ht => ht.1
  · exact answers_mono (answers_service rfl hr hs hp (by decide) (imgPlace_refused hk hk1) rfl) fun t ht => ht.1
  · exact answers_mono (answers_service rfl hr hs hp (by decide) (imgSlot_noTicket hn) rfl) fun t ht => ht.1
  · exact answers_mono (answers_service rfl hr hs hp (by decide) (imgSlot_closed hk hk1 ht hn) rfl) fun t ht => ht.1
  · obtain ⟨u, hu, hh, hn⟩ := imgDrop_drops (s.hart h.val) s
    refine answers_mono (answers_service rfl hr hs hp (by decide) hu hh) fun t ht => ⟨ht.1, ?_⟩
    rw [ticket_of_images ht.2, hn]
  · exact answers_mono (answers_service rfl hr hs hp (by decide) (resumeSet_refused s hb) rfl) fun t ht => ht.1
  · refine answers_mono (answers_service rfl hr hs hp (by decide) (resumeSet_stores h1 h2 h4 hl hin hn) rfl)
      fun t ht => ⟨ht.1, ?_⟩
    rw [ht.2]

end Sys2Proof.Machine

/-! ## Members of a block's vectors, and block causes -/

namespace Sys2Proof.Machine

set_option Elab.async false

/-- Member `n` of a vector of block states, as the model's accessors read it. -/
def memberOf {α : Type} {m : Nat} (v : Vector α m) (n : Nat) (d : α) : α := v.toList.getD n d

@[simp] theorem memberOf_set_same {α : Type} {m n : Nat} (v : Vector α m) (x d : α) (h : n < m) :
    memberOf (v.setIfInBounds n x) n d = x := by
  simp [memberOf, List.getD, h]

@[simp] theorem memberOf_set_other {α : Type} {m n k : Nat} (v : Vector α m) (x d : α) (h : n ≠ k) :
    memberOf (v.setIfInBounds n x) k d = memberOf v k d := by
  simp [memberOf, List.getD, h]

theorem State.ch_member (s : State) (n : Nat) : s.ch n = memberOf s.lsw.chan n {} := rfl

theorem State.setCh_chan (s : State) (n : Nat) (f : Channel → Channel) :
    (s.setCh n f).lsw.chan = s.lsw.chan.setIfInBounds n (f (s.ch n)) := rfl

/-- Raising an event keeps the fields of every other register. -/
theorem State.f_raise (s : State) (n : Nat) (fl : Fld) (i : Nat) (h : Fl.EVT_PEND_PEND.apart fl = true) :
    (s.raise n).f fl i = s.f fl i := State.f_setF_apart s _ fl _ i _ h

/-- A block cause shows the bit it sets. -/
theorem bitOf_causeOn (s : State) (a en : Fld) (i j n : Nat) (hi : i < a.reg.count) (hw : a.lsb + a.width ≤ 32)
    (hj : j < a.width) (ha : Fl.EVT_PEND_PEND.apart a = true) : bitOf ((s.causeOn a en i j n).f a i) j = true := by
  have hset : bitOf ((s.setFBit a i j true).f a i) j = true := by simp [testBit_setFBit s a i j j hi hw hj]
  unfold State.causeOn
  dsimp only
  split
  · rw [State.f_raise _ _ _ _ ha, hset]
  · exact hset

/-- A bit that a block shows stays shown under a further cause of the block. -/
theorem bitOf_causeOn_keeps {s : State} {a en : Fld} {i i' j n k : Nat} (hi : i < a.reg.count) (hi' : i' < a.reg.count)
    (hw : a.lsb + a.width ≤ 32) (hk : k < a.width) (ha : Fl.EVT_PEND_PEND.apart a = true)
    (h : bitOf (s.f a i) k = true) : bitOf ((s.causeOn a en i' j n).f a i) k = true := by
  have hset : bitOf ((s.setFBit a i' j true).f a i) k = true := by
    by_cases he : i' = i
    · subst he
      rw [testBit_setFBit s a i' j k hi hw hk, h]
      rfl
    · rw [State.setFBit, State.f_setF_member _ _ _ _ _ he]
      exact h
  unfold State.causeOn
  dsimp only
  split
  · rw [State.f_raise _ _ _ _ ha, hset]
  · exact hset

/-! ### Registers and 64-bit quantities under updates of other registers -/

@[simp] theorem regOf_setB_apart (s : State) (a : Fld) (b : Rg) (i j : Nat) (v : Bool) (h : a.reg.apart b = true) :
    regOf (s.setB a i v).regs b j = regOf s.regs b j := regOf_setF_apart s a b i j _ h

@[simp] theorem regOf_setFBit_apart (s : State) (a : Fld) (b : Rg) (i k j : Nat) (v : Bool) (h : a.reg.apart b = true) :
    regOf (s.setFBit a i k v).regs b j = regOf s.regs b j := regOf_setF_apart s a b i j _ h

@[simp] theorem regOf_raise (s : State) (n : Nat) (b : Rg) (j : Nat) (h : R.EVT_PEND.apart b = true) :
    regOf (s.raise n).regs b j = regOf s.regs b j := regOf_setFBit_apart s _ b _ _ j _ h

@[simp] theorem regOf_causeOn (s : State) (a en : Fld) (b : Rg) (i k n j : Nat) (h : a.reg.apart b = true)
    (hp : R.EVT_PEND.apart b = true) : regOf (s.causeOn a en i k n).regs b j = regOf s.regs b j := by
  unfold State.causeOn
  dsimp only
  split
  · rw [regOf_raise _ _ _ _ hp, regOf_setFBit_apart _ _ _ _ _ _ _ h]
  · exact regOf_setFBit_apart _ _ _ _ _ _ _ h

@[simp] theorem regOf_setQ_apart (s : State) (lo hi b : Rg) (i j v : Nat) (hl : lo.apart b = true) (hh : hi.apart b =
  true) :
    regOf (s.setQ lo hi i v).regs b j = regOf s.regs b j := by
  rw [State.setQ, regOf_setReg_apart _ _ _ _ _ _ hh, regOf_setReg_apart _ _ _ _ _ _ hl]

@[simp] theorem fieldOf_setQ_apart (s : State) (lo hi : Rg) (fl : Fld) (i j v : Nat) (hl : lo.apart fl.reg = true)
    (hh : hi.apart fl.reg = true) : fieldOf (s.setQ lo hi i v).regs fl j = fieldOf s.regs fl j := by
  rw [State.setQ, fieldOf_setReg_apart _ _ _ _ _ _ hh, fieldOf_setReg_apart _ _ _ _ _ _ hl]

/-- A 64-bit quantity in a list of register words. -/
def quantOf (regs : List (Nat × Word)) (lo hi : Rg) (i : Nat) : Nat :=
  (regOf regs lo i).toNat + 2 ^ 32 * (regOf regs hi i).toNat

theorem State.q_quantOf (s : State) (lo hi : Rg) (i : Nat) : s.q lo hi i = quantOf s.regs lo hi i := by
  unfold quantOf; rfl

theorem quantOf_setQ_same (s : State) (lo hi : Rg) (i v : Nat) (hl : i < lo.count) (hh : i < hi.count)
    (ha : hi.apart lo = true) (hv : v < 2 ^ 64) : quantOf (s.setQ lo hi i v).regs lo hi i = v := by
  rw [quantOf, State.setQ, regOf_setReg_same _ _ _ _ hh, regOf_setReg_apart _ _ _ _ _ _ ha,
    regOf_setReg_same _ _ _ _ hl, BitVec.toNat_ofNat, BitVec.toNat_ofNat]
  omega

/-- A quantity stands where both its words stand. -/
theorem quantOf_congr {s t : State} {lo hi : Rg} {i : Nat} (hl : regOf t.regs lo i = regOf s.regs lo i)
    (hh : regOf t.regs hi i = regOf s.regs hi i) : quantOf t.regs lo hi i = quantOf s.regs lo hi i := by
  rw [quantOf, hl, hh, quantOf]

/-! ### Operations that write some registers only -/

/-- Every block state, and the registers of a list. -/
def onlyRegs (l : List Rg) : Part := { besideMemory with regs := regsIn l, mem := true, pending := true }

theorem fieldOf_onlyRegs {l : List Rg} {s t : State} (h : t.without (onlyRegs l) = s.without (onlyRegs l)) {fl : Fld}
  (i : Nat)
    (hl : (!regsIn l fl.reg.addr && decide (fl.reg.count ≤ 65536)) = true) :
    fieldOf t.regs fl i = fieldOf s.regs fl i := fieldOf_of_without h i hl

theorem regOf_onlyRegs {l : List Rg} {s t : State} (h : t.without (onlyRegs l) = s.without (onlyRegs l)) {r : Rg} (i :
  Nat)
    (hl : (!regsIn l r.addr && decide (r.count ≤ 65536)) = true) :
    regOf t.regs r i = regOf s.regs r i := regOf_of_without h i hl

/-! ### Values of fields -/

theorem fieldOf_lt (regs : List (Nat × Word)) (fl : Fld) (i : Nat) : fieldOf regs fl i < 2 ^ fl.width := bitsOf_lt _ _ _

/-- A one-bit field that is not 1 is 0. -/
theorem fieldOf_zero {regs : List (Nat × Word)} {fl : Fld} {i : Nat} (hw : fl.width = 1) (h : fieldOf regs fl i ≠ 1) :
    fieldOf regs fl i = 0 := by
  have := fieldOf_lt regs fl i
  rw [hw] at this
  omega

/-- A writable field takes the value that a plain write carries. -/
theorem fieldOf_plainWrite (fl : Fld) (i : Nat) (v : Word) (s : State) (hi : i < fl.reg.count)
    (hw : fl.lsb + fl.width ≤ 32) (hrw : (List.range fl.width).all (fun k => fl.reg.rw.getLsbD (fl.lsb + k)) = true) :
    fieldOf (plainWrite fl.reg i v s).regs fl i = bitsOf v fl.lsb fl.width := by
  change bitsOf ((plainWrite fl.reg i v s).reg fl.reg i) fl.lsb fl.width = _
  refine Nat.eq_of_testBit_eq fun k => ?_
  rw [testBit_bitsOf, testBit_bitsOf]
  by_cases hk : k < fl.width
  · have hbit := List.all_eq_true.mp hrw k (List.mem_range.mpr hk)
    have hreg := getLsbD_plainWrite (j := fl.lsb + k) v s hi (by omega)
    rw [if_pos hbit] at hreg
    simpa [BitVec.getLsbD, hk] using hreg
  · simp [hk]

theorem fieldOf_addF_same (s : State) (fl : Fld) (i v : Nat) (hi : i < fl.reg.count) (hw : fl.lsb + fl.width ≤ 32) :
    fieldOf (s.addF fl i v).regs fl i = (s.f fl i + v) % 2 ^ fl.width :=
  fieldOf_setF_fits s fl i _ hi hw (Nat.mod_lt _ (Nat.two_pow_pos _))

theorem signedOf_unsignedOf {w : Nat} {v : Int} (hw : 0 < w) (h1 : -(2 ^ (w - 1) : Nat) ≤ v) (h2 : v < (2 ^ (w - 1) :
  Nat)) :
    signedOf w (unsignedOf w v) = v := by
  obtain ⟨k, rfl⟩ : ∃ k, w = k + 1 := ⟨w - 1, by omega⟩
  have hp : (2 ^ (k + 1) : Nat) = 2 ^ k + 2 ^ k := by rw [Nat.pow_succ]; omega
  have hm : unsignedOf (k + 1) v % 2 ^ (k + 1) = (v % (2 ^ (k + 1) : Nat)).toNat := by
    have h0 : 0 ≤ v % (2 ^ (k + 1) : Nat) := Int.emod_nonneg _ (by positivity)
    have hl : v % (2 ^ (k + 1) : Nat) < (2 ^ (k + 1) : Nat) := Int.emod_lt_of_pos _ (by positivity)
    exact Nat.mod_eq_of_lt (by rw [unsignedOf]; omega)
  unfold signedOf
  dsimp only
  rw [hm]
  simp only [Nat.add_sub_cancel] at h1 h2 ⊢
  rw [hp]
  generalize 2 ^ k = p at h1 h2 ⊢
  by_cases hv : 0 ≤ v
  · rw [Int.emod_eq_of_lt hv (by omega)]
    split <;> omega
  · rw [← Int.add_emod_right, Int.emod_eq_of_lt (by omega) (by omega)]
    split <;> omega

/-- A signed value that fits its field reads back. -/
theorem fi_setFi_same (s : State) (fl : Fld) (i : Nat) (v : Int) (hi : i < fl.reg.count) (hw : fl.lsb + fl.width ≤ 32)
    (h0 : 0 < fl.width) (h1 : -(2 ^ (fl.width - 1) : Nat) ≤ v) (h2 : v < (2 ^ (fl.width - 1) : Nat)) :
    (s.setFi fl i v).fi fl i = v := by
  have hlt : unsignedOf fl.width v < 2 ^ fl.width := by
    have := Int.emod_lt_of_pos v (show (0 : Int) < (2 ^ fl.width : Nat) by positivity)
    have := Int.emod_nonneg v (show ((2 ^ fl.width : Nat) : Int) ≠ 0 by positivity)
    rw [unsignedOf]
    omega
  rw [State.fi, State.setFi, State.f_setF_same _ _ _ _ hi hw, Nat.mod_eq_of_lt hlt, signedOf_unsignedOf h0 h1 h2]

theorem foldl_add_eq_sum (g : Nat → Nat) (l : List Nat) (a : Nat) :
    l.foldl (fun a n => a + g n) a = a + (l.map g).sum := by
  induction l generalizing a with
  | nil => simp
  | cons x l ih => simp [ih, Nat.add_assoc]

theorem fieldOf_when {f : State → State} {fl : Fld} {k : Nat} (h : ∀ s, fieldOf (f s).regs fl k = fieldOf s.regs fl k)
    (s : State) (c : Bool) : fieldOf (s.when c f).regs fl k = fieldOf s.regs fl k := by
  unfold State.when
  split
  · exact h s
  · rfl

end Sys2Proof.Machine

/-! ## Protected channels (R484 to R498) -/

namespace Sys2Proof.Machine

set_option Elab.async false

/-! ### Rules of the channel operations -/

theorem supplyOk_congr {s t : State} (h : regOf t.regs R.LSW_SUP 0 = regOf s.regs R.LSW_SUP 0) :
    t.supplyOk = s.supplyOk := by
  have h' : t.reg R.LSW_SUP 0 = s.reg R.LSW_SUP 0 := h
  simp only [State.supplyOk, State.b, State.f]
  rw [show t.reg Fl.LSW_SUP_UV.reg 0 = s.reg Fl.LSW_SUP_UV.reg 0 from h',
    show t.reg Fl.LSW_SUP_OV.reg 0 = s.reg Fl.LSW_SUP_OV.reg 0 from h',
    show t.reg Fl.LSW_SUP_REV.reg 0 = s.reg Fl.LSW_SUP_REV.reg 0 from h',
    show t.reg Fl.LSW_SUP_GND.reg 0 = s.reg Fl.LSW_SUP_GND.reg 0 from h']

@[simp] theorem supplyOk_setF (s : State) (fl : Fld) (i v : Nat) (h : fl.reg.apart R.LSW_SUP = true) :
    (s.setF fl i v).supplyOk = s.supplyOk := supplyOk_congr (regOf_setF_apart s fl _ i 0 v h)

@[simp] theorem supplyOk_setB (s : State) (fl : Fld) (i : Nat) (v : Bool) (h : fl.reg.apart R.LSW_SUP = true) :
    (s.setB fl i v).supplyOk = s.supplyOk := supplyOk_congr (regOf_setF_apart s fl _ i 0 _ h)

@[simp] theorem supplyOk_setCh (s : State) (n : Nat) (f : Channel → Channel) : (s.setCh n f).supplyOk = s.supplyOk :=
  supplyOk_congr rfl

/-- The channel is wanted by its program or by another owner. -/
theorem chWanted_eq (s : State) (n : Nat) :
    s.chWanted n = (fieldOf s.regs Fl.LSW_CHSTAT_PROG n != 0 || fieldOf s.regs Fl.LSW_CHSTAT_FORCE n != 0 ||
      fieldOf s.regs Fl.LSW_CHSTAT_BLEED n != 0) := rfl

theorem fieldOf_chTurnOn {fl : Fld} (n i : Nat) (s : State) (h : Fl.LSW_CHSTAT_STATE.apart fl = true) :
    fieldOf (chTurnOn n s).regs fl i = fieldOf s.regs fl i := by
  simp (disch := exact h) [chTurnOn, chTakeForm]

theorem fieldOf_chTurnOff {fl : Fld} (n i : Nat) (s : State) (h : Fl.LSW_CHSTAT_STATE.apart fl = true) :
    fieldOf (chTurnOff n s).regs fl i = fieldOf s.regs fl i := by
  simp (disch := exact h) [chTurnOff]

theorem chTurnOn_state {n : Nat} (hn : n < 16) (s : State) :
    fieldOf (chTurnOn n s).regs Fl.LSW_CHSTAT_STATE n = (if s.f Fl.LSW_CHCFG_TINRUSH n = 0 then 1 else 2) ∧
      ((chTurnOn n s).ch n).inrush = decide (s.f Fl.LSW_CHCFG_TINRUSH n ≠ 0) := by
  have hw : ((chTakeForm n s).tInrush n != 0) = decide (s.f Fl.LSW_CHCFG_TINRUSH n ≠ 0) := by
    change (min (s.f Fl.LSW_CHCFG_TINRUSH n) 1000 != 0) = _
    by_cases h : s.f Fl.LSW_CHCFG_TINRUSH n = 0
    · simp [h]
    · simp [h]
  unfold chTurnOn
  dsimp only
  rw [hw]
  constructor
  · by_cases h : s.f Fl.LSW_CHCFG_TINRUSH n = 0 <;> simp (disch := first | decide | (apply lt_of_lt_of_le hn; decide))
      [h]
  · simp (disch := exact hn) [State.ch_member, State.setCh_chan]

theorem chTurnOff_state {n : Nat} (hn : n < 16) (s : State) :
    fieldOf (chTurnOff n s).regs Fl.LSW_CHSTAT_STATE n = 3 ∧ ((chTurnOff n s).ch n).clamping = true := by
  constructor
  · simp (disch := first | decide | (apply lt_of_lt_of_le hn; decide)) [chTurnOff]
  · simp (disch := exact hn) [chTurnOff, State.ch_member, State.setCh_chan]

/-! ### What bringing a channel to its request does, by the state it is in -/

theorem chUpdate_on {n : Nat} {s : State} (hs : fieldOf s.regs Fl.LSW_CHSTAT_STATE n = 0) (hw : s.chWanted n = true)
    (hk : s.supplyOk = true) : chUpdate n s = chTurnOn n s := by
  simp [chUpdate, State.f_fieldOf, hs, hw, hk, State.when]

theorem chUpdate_stays {n : Nat} {s : State} (h : fieldOf s.regs Fl.LSW_CHSTAT_STATE n = 0 ∧
      (s.chWanted n = false ∨ s.supplyOk = false) ∨
    (fieldOf s.regs Fl.LSW_CHSTAT_STATE n = 1 ∨ fieldOf s.regs Fl.LSW_CHSTAT_STATE n = 2) ∧ s.chWanted n = true ∧
      s.supplyOk = true ∨
    fieldOf s.regs Fl.LSW_CHSTAT_STATE n = 3 ∧ s.chWanted n = false) : chUpdate n s = s := by
  rcases h with ⟨hs, hw | hk⟩ | ⟨hs | hs, hw, hk⟩ | ⟨hs, hw⟩
  · simp [chUpdate, State.f_fieldOf, hs, hw, State.when]
  · simp [chUpdate, State.f_fieldOf, hs, hk, State.when]
  · simp [chUpdate, State.f_fieldOf, hs, hw, hk, State.when]
  · simp [chUpdate, State.f_fieldOf, hs, hw, hk, State.when]
  · simp [chUpdate, State.f_fieldOf, hs, hw, State.when]

theorem chUpdate_off {n : Nat} {s : State}
    (hs : fieldOf s.regs Fl.LSW_CHSTAT_STATE n = 1 ∨ fieldOf s.regs Fl.LSW_CHSTAT_STATE n = 2)
    (hw : s.chWanted n = false) : chUpdate n s = chTurnOff n s := by
  rcases hs with hs | hs <;> simp [chUpdate, State.f_fieldOf, hs, hw, State.when]

theorem chUpdate_pends {n : Nat} {s : State} (hs : fieldOf s.regs Fl.LSW_CHSTAT_STATE n = 3)
    (hw : s.chWanted n = true) (hk : s.supplyOk = true) : chUpdate n s = s.setF Fl.LSW_CHSTAT_STATE n 6 := by
  simp [chUpdate, State.f_fieldOf, hs, hw, hk, State.when]

end Sys2Proof.Machine

/-! ## Events of the protected channels (R485 to R494) -/

namespace Sys2Proof.Machine

set_option Elab.async false

section
variable {n : Nat} {s : State} (hn : n < 16)
include hn

/-- A channel whose program asks for nothing is wanted by its other owners alone. -/
theorem chWanted_setProg_off :
    (s.setB Fl.LSW_CHSTAT_PROG n false).chWanted n =
      decide (s.f Fl.LSW_CHSTAT_FORCE n = 1 ∨ s.f Fl.LSW_CHSTAT_BLEED n = 1) := by
  have one : ∀ {a : Fld}, a.width = 1 → (fieldOf s.regs a n != 0) = decide (fieldOf s.regs a n = 1) := fun {a} hw => by
    have := fieldOf_lt s.regs a n
    rw [hw] at this
    have h2 : fieldOf s.regs a n < 2 := this
    interval_cases fieldOf s.regs a n <;> rfl
  rw [chWanted_eq]
  simp (disch := first | decide | (apply lt_of_lt_of_le hn; decide)) [State.f_fieldOf, one]

theorem inrushEnd_ends (h : (s.ch n).inrush = true) :
    Effect (.inrushEnd n) s fun u => (u.ch n).inrush = false ∧
      u.f Fl.LSW_CHSTAT_STATE n = if s.f Fl.LSW_CHSTAT_STATE n = 2 then 1 else s.f Fl.LSW_CHSTAT_STATE n := by
  refine effect_done (congrArg done (if_pos (by simp [hn, h]))) ?_
  rw [State.f_fieldOf, State.f_fieldOf]
  unfold State.when
  constructor
  · split <;> simp (disch := exact hn) [State.ch_member, State.setCh_chan]
  · by_cases h2 : fieldOf s.regs Fl.LSW_CHSTAT_STATE n = 2 <;>
      simp (disch := first | decide | (apply lt_of_lt_of_le hn; decide)) [h2]

theorem pwmPeriod_takes (h : (s.ch n).mode = 1) :
    Effect (.pwmPeriod n) s fun u => (u.ch n).mode = s.f Fl.LSW_CHCFG_MODE n ∧
      (u.ch n).freq = s.f Fl.LSW_CHPWM_FREQ n ∧ (u.ch n).duty = s.f Fl.LSW_CHPWM_DUTY n := by
  refine effect_done (congrArg done (if_pos (by simp [hn, h]))) ?_
  simp (disch := exact hn) [chTakeForm, State.ch_member, State.setCh_chan]

theorem timedPulseEnd_eq (hm : (s.ch n).mode = 2) (hp : s.f Fl.LSW_CHSTAT_PROG n = 1)
    (hs : s.f Fl.LSW_CHSTAT_STATE n = 1 ∨ s.f Fl.LSW_CHSTAT_STATE n = 2) :
    exec (.timedPulseEnd n) s = done (chUpdate n (s.setB Fl.LSW_CHSTAT_PROG n false)) := by
  refine congrArg done (if_pos ?_)
  rcases hs with hs | hs <;> simp [hn, hm, State.b, hp, hs]

/-- The end of a timed pulse turns the channel off unless another owner holds it. -/
theorem timedPulseEnd_ends (hm : (s.ch n).mode = 2) (hp : s.f Fl.LSW_CHSTAT_PROG n = 1)
    (hs : s.f Fl.LSW_CHSTAT_STATE n = 1 ∨ s.f Fl.LSW_CHSTAT_STATE n = 2) :
    (¬(s.f Fl.LSW_CHSTAT_FORCE n = 1 ∨ s.f Fl.LSW_CHSTAT_BLEED n = 1) → Effect (.timedPulseEnd n) s fun u =>
      u.f Fl.LSW_CHSTAT_PROG n = 0 ∧ u.f Fl.LSW_CHSTAT_STATE n = 3) ∧
    (s.f Fl.LSW_CHSTAT_FORCE n = 1 ∨ s.f Fl.LSW_CHSTAT_BLEED n = 1 → s.supplyOk = true →
      Effect (.timedPulseEnd n) s fun u =>
        u.f Fl.LSW_CHSTAT_PROG n = 0 ∧ u.f Fl.LSW_CHSTAT_STATE n = s.f Fl.LSW_CHSTAT_STATE n) := by
  have hw := chWanted_setProg_off (s := s) hn
  have hst : fieldOf (s.setB Fl.LSW_CHSTAT_PROG n false).regs Fl.LSW_CHSTAT_STATE n = s.f Fl.LSW_CHSTAT_STATE n :=
    fieldOf_setB_apart _ _ _ _ _ _ (by decide)
  have hprog : fieldOf (s.setB Fl.LSW_CHSTAT_PROG n false).regs Fl.LSW_CHSTAT_PROG n = 0 :=
    fieldOf_setB_same _ _ _ _ hn (by decide) (by decide)
  refine ⟨fun ho => effect_done (timedPulseEnd_eq hn hm hp hs) ?_,
    fun ho hk => effect_done (timedPulseEnd_eq hn hm hp hs) ?_⟩
  · rw [chUpdate_off (by rwa [hst]) (by rw [hw, decide_eq_false ho])]
    exact ⟨(fieldOf_chTurnOff n n _ (by decide)).trans hprog, (chTurnOff_state hn _).1⟩
  · rw [chUpdate_stays (.inr (.inl ⟨by rwa [hst], by rw [hw, decide_eq_true ho], by simpa (disch := decide) using hk⟩))]
    exact ⟨hprog, hst⟩

/-- The end of the clamp leaves the channel off, or switches it on for a pending request. -/
theorem clampEnd_eq (hc : (s.ch n).clamping = true)
    (hs : s.f Fl.LSW_CHSTAT_STATE n = 3 ∨ s.f Fl.LSW_CHSTAT_STATE n = 6) :
    exec (.clampEnd n) s = done (chUpdate n ((s.setCh n fun c => { c with clamping := false }).setF
      Fl.LSW_CHSTAT_STATE n 0)) := by
  refine congrArg done ((if_pos (by simp [hn, hc])).trans ?_)
  rcases hs with hs | hs <;> simp [hs]

theorem clampEnd_ends (hc : (s.ch n).clamping = true) :
    (s.f Fl.LSW_CHSTAT_STATE n = 3 → s.chWanted n = false → Effect (.clampEnd n) s fun u =>
      u.f Fl.LSW_CHSTAT_STATE n = 0 ∧ (u.ch n).clamping = false) ∧
    (s.f Fl.LSW_CHSTAT_STATE n = 6 → s.chWanted n = true → s.supplyOk = true → Effect (.clampEnd n) s fun u =>
      (u.f Fl.LSW_CHSTAT_STATE n = (if s.f Fl.LSW_CHCFG_TINRUSH n = 0 then 1 else 2) ∧
        (u.ch n).inrush = decide (s.f Fl.LSW_CHCFG_TINRUSH n ≠ 0)) ∧ (u.ch n).clamping = false) := by
  have hst : fieldOf ((s.setCh n fun c => { c with clamping := false }).setF Fl.LSW_CHSTAT_STATE n 0).regs
      Fl.LSW_CHSTAT_STATE n = 0 := fieldOf_setF_fits _ _ _ _ hn (by decide) (by decide)
  have hw : ((s.setCh n fun c => { c with clamping := false }).setF Fl.LSW_CHSTAT_STATE n 0).chWanted n = s.chWanted n
    := by
    simp (disch := decide) [chWanted_eq]
  have hk : ((s.setCh n fun c => { c with clamping := false }).setF Fl.LSW_CHSTAT_STATE n 0).supplyOk = s.supplyOk := by
    simp (disch := decide)
  refine ⟨fun hs hwant => effect_done (clampEnd_eq hn hc (.inl hs)) ?_,
    fun hs hwant hok => effect_done (clampEnd_eq hn hc (.inr hs)) ?_⟩
  · rw [chUpdate_stays (.inl ⟨hst, .inl (hw.trans hwant)⟩)]
    exact ⟨hst, by simp (disch := exact hn) [State.ch_member, State.setCh_chan]⟩
  · rw [chUpdate_on hst (hw.trans hwant) (hk.trans hok)]
    obtain ⟨hstate, hin⟩ := chTurnOn_state hn ((s.setCh n fun c => { c with clamping := false }).setF
      Fl.LSW_CHSTAT_STATE n 0)
    have htin : ((s.setCh n fun c => { c with clamping := false }).setF Fl.LSW_CHSTAT_STATE n 0).f
      Fl.LSW_CHCFG_TINRUSH n =
        s.f Fl.LSW_CHCFG_TINRUSH n := State.f_setF_apart _ _ _ _ _ _ (by decide)
    rw [htin] at hstate hin
    exact ⟨⟨hstate, hin⟩, by simp (disch := exact hn) [chTurnOn, chTakeForm, State.ch_member, State.setCh_chan]⟩

/-- An open load is found on a channel that is on outside its window, with a limit and a supply. -/
theorem openLoad_found :
    let found := s.f Fl.LSW_CHSTAT_STATE n = 1 ∧ s.f Fl.LSW_CHLIM_IOL n ≠ 0 ∧ s.supplyOk = true
    (found → Effect (.openLoad n) s fun u => u.f Fl.LSW_CHSTAT_OL n = 1 ∧ u.f Fl.LSW_CHSTAT_STATE n = 1 ∧
      bitOf (u.f Fl.LSW_STAT_CAUSE) 2 = true) ∧
    (¬found → Effect (.openLoad n) s fun u => u.reg R.LSW_CHSTAT n = s.reg R.LSW_CHSTAT n) := by
  have hc : (decide (n < 16) && s.f Fl.LSW_CHSTAT_STATE n == 1 && s.b Fl.LSW_CHLIM_IOL n && s.supplyOk) = true ↔
      s.f Fl.LSW_CHSTAT_STATE n = 1 ∧ s.f Fl.LSW_CHLIM_IOL n ≠ 0 ∧ s.supplyOk = true := by
    simp [hn, State.b, and_assoc]
  refine ⟨fun hf => effect_done (congrArg done (if_pos (hc.mpr hf))) ⟨?_, ?_, ?_⟩,
    fun hf => effect_done (congrArg done (if_neg (hf ∘ hc.mp))) rfl⟩
  · simp (disch := first | decide | (apply lt_of_lt_of_le hn; decide)) [lswCause, State.f_fieldOf]
  · have hst := hf.1
    rw [State.f_fieldOf] at hst
    simpa (disch := decide) [lswCause, State.f_fieldOf] using hst
  · exact bitOf_causeOn _ _ _ _ _ _ (by decide) (by decide) (by decide) (by decide)

end

/-- The aggregate sums the channels whose reading is not the fault level. -/
theorem chSum_eq (s : State) : chSum s = ((List.range 16).map fun k =>
    if s.f Fl.LSW_CHI_I k = 0xFFFF then 0 else s.f Fl.LSW_CHI_I k).sum := by
  have hg : ∀ a k, (if (s.f Fl.LSW_CHI_I k == 0xFFFF) = true then a else a + s.f Fl.LSW_CHI_I k) =
      a + if s.f Fl.LSW_CHI_I k = 0xFFFF then 0 else s.f Fl.LSW_CHI_I k := fun a k => by
    by_cases h : s.f Fl.LSW_CHI_I k = 0xFFFF <;> simp [h]
  simp only [chSum, hg]
  exact (foldl_add_eq_sum _ _ 0).trans (Nat.zero_add _)

/-- The state after one conversion, before the aggregate is renewed (R492, R493). -/
def channelRead (n i : Nat) (tj : Int) (s : State) : State :=
  let s := s.setFi Fl.LSW_CHI_TJ n tj
  let latched := s.f Fl.LSW_CHSTAT_STATE n == 4 || s.b Fl.LSW_SUP_GND
  let s := s.setF Fl.LSW_CHI_I n (if latched then 0xFFFF else i)
  s.when (decide (s.f Fl.LSW_CHLIM_IOL n + 50 ≤ 10 * i)) (fun s => s.setB Fl.LSW_CHSTAT_OL n false)

theorem currentSense_eq {n : Nat} (hn : n < 16) (i : Nat) (tj : Int) (s : State) :
    exec (.currentSense n i tj) s =
      done ((channelRead n i tj s).setF Fl.LSW_AGG_SUM 0 (chSum (channelRead n i tj s))) :=
  congrArg done (if_pos hn)

theorem channelRead_eq (n i : Nat) (tj : Int) (s : State) :
    channelRead n i tj s = ((s.setFi Fl.LSW_CHI_TJ n tj).setF Fl.LSW_CHI_I n
      (if s.f Fl.LSW_CHSTAT_STATE n = 4 ∨ s.f Fl.LSW_SUP_GND = 1 then 0xFFFF else i)).when
        (decide (s.f Fl.LSW_CHLIM_IOL n + 50 ≤ 10 * i)) fun s => s.setB Fl.LSW_CHSTAT_OL n false := by
  have hg : (s.f Fl.LSW_SUP_GND != 0) = decide (s.f Fl.LSW_SUP_GND = 1) := by
    have h2 : s.f Fl.LSW_SUP_GND < 2 := State.f_lt s Fl.LSW_SUP_GND 0
    interval_cases s.f Fl.LSW_SUP_GND <;> rfl
  have hst : (s.setFi Fl.LSW_CHI_TJ n tj).f Fl.LSW_CHSTAT_STATE n = s.f Fl.LSW_CHSTAT_STATE n :=
    fieldOf_setFi_apart _ _ _ _ _ _ (by decide)
  have hgnd : (s.setFi Fl.LSW_CHI_TJ n tj).f Fl.LSW_SUP_GND = s.f Fl.LSW_SUP_GND :=
    fieldOf_setFi_apart _ _ _ _ _ _ (by decide)
  have hiol : ∀ v, ((s.setFi Fl.LSW_CHI_TJ n tj).setF Fl.LSW_CHI_I n v).f Fl.LSW_CHLIM_IOL n = s.f Fl.LSW_CHLIM_IOL n :=
    fun v => (fieldOf_setF_apart _ _ _ _ _ _ (by decide)).trans (fieldOf_setFi_apart _ _ _ _ _ _ (by decide))
  simp only [channelRead, State.b, hst, hgnd, hiol, hg, Bool.or_eq_true, beq_iff_eq, decide_eq_true_eq]

theorem fieldOf_channelRead {fl : Fld} (n i k : Nat) (tj : Int) (s : State) (h : Fl.LSW_CHSTAT_OL.apart fl = true) :
    fieldOf (channelRead n i tj s).regs fl k =
      fieldOf ((s.setFi Fl.LSW_CHI_TJ n tj).setF Fl.LSW_CHI_I n
        (if s.f Fl.LSW_CHSTAT_STATE n = 4 ∨ s.f Fl.LSW_SUP_GND = 1 then 0xFFFF else i)).regs fl k := by
  rw [channelRead_eq, fieldOf_when fun u => fieldOf_setB_apart _ _ _ _ _ _ h]

theorem currentSense_shows {n i : Nat} {tj : Int} {s : State} (hn : n < 16) (hi : i < 65536) (h1 : -32768 ≤ tj)
    (h2 : tj < 32768) : Effect (.currentSense n i tj) s fun u => u.fi Fl.LSW_CHI_TJ n = tj ∧
      u.f Fl.LSW_CHI_I n = (if s.f Fl.LSW_CHSTAT_STATE n = 4 ∨ s.f Fl.LSW_SUP_GND = 1 then 0xFFFF else i) ∧
      (s.f Fl.LSW_CHLIM_IOL n + 50 ≤ 10 * i → u.f Fl.LSW_CHSTAT_OL n = 0) ∧
      u.f Fl.LSW_AGG_SUM = ((List.range 16).map fun k =>
        if u.f Fl.LSW_CHI_I k = 0xFFFF then 0 else u.f Fl.LSW_CHI_I k).sum % 65536 := by
  refine effect_done (currentSense_eq hn i tj s) ⟨?_, ?_, fun hol => ?_, ?_⟩
  · rw [State.fi_fieldOf, fieldOf_setF_apart _ _ _ _ _ _ (by decide), fieldOf_channelRead _ _ _ _ _ (by decide),
      fieldOf_setF_apart _ _ _ _ _ _ (by decide)]
    exact fi_setFi_same _ _ _ _ hn (by decide) (by decide) h1 h2
  · rw [State.f_fieldOf, fieldOf_setF_apart _ _ _ _ _ _ (by decide), fieldOf_channelRead _ _ _ _ _ (by decide),
      fieldOf_setF_fits _ _ _ _ hn (by decide)]
    have : (if s.f Fl.LSW_CHSTAT_STATE n = 4 ∨ s.f Fl.LSW_SUP_GND = 1 then 0xFFFF else i) < 65536 := by split <;> omega
    exact this
  · rw [State.f_fieldOf, fieldOf_setF_apart _ _ _ _ _ _ (by decide), channelRead_eq, State.when,
      if_pos (decide_eq_true hol)]
    exact fieldOf_setB_same _ _ _ _ hn (by decide) (by decide)
  · have hsum : ∀ k, ((channelRead n i tj s).setF Fl.LSW_AGG_SUM 0 (chSum (channelRead n i tj s))).f Fl.LSW_CHI_I k =
        (channelRead n i tj s).f Fl.LSW_CHI_I k := fun k => State.f_setF_apart _ _ _ _ _ _ (by decide)
    simp only [hsum]
    rw [← chSum_eq]
    exact State.f_setF_same _ _ _ _ (by decide) (by decide)

/-- The droop of VAUX with its hysteresis (R491). -/
theorem vauxDroop_shows (n mv : Nat) (s : State) :
    Effect (.vauxDroop mv) s fun u => u.f Fl.LSW_SUP_VAUX = mv / 10 % 65536 ∧
      (mv < 20000 → u.f Fl.LSW_SUP_DROOP = 1 ∧ bitOf (u.f Fl.LSW_STAT_CAUSE) 4 = true) ∧
      (20000 ≤ mv → mv < 21000 → u.f Fl.LSW_SUP_DROOP = s.f Fl.LSW_SUP_DROOP) ∧
      (21000 ≤ mv → u.f Fl.LSW_SUP_DROOP = 0) ∧ u.f Fl.LSW_CHSTAT_STATE n = s.f Fl.LSW_CHSTAT_STATE n := by
  have hv : fieldOf (s.setF Fl.LSW_SUP_VAUX 0 (mv / 10)).regs Fl.LSW_SUP_VAUX 0 = mv / 10 % 65536 :=
    fieldOf_setF_same _ _ _ _ (by decide) (by decide)
  by_cases hl : mv < 20000
  · refine effect_done (congrArg done (if_pos hl)) ⟨?_, fun _ => ⟨?_, ?_⟩, fun h => by omega, fun h => by omega, ?_⟩
    · simpa (disch := decide) [lswCause, State.f_fieldOf] using hv
    · simp (disch := decide) [lswCause, State.f_fieldOf]
    · exact bitOf_causeOn _ _ _ _ _ _ (by decide) (by decide) (by decide) (by decide)
    · simp (disch := decide) [lswCause, State.f_fieldOf]
  · refine effect_done (congrArg done (if_neg hl)) ⟨?_, fun h => absurd h hl, fun _ h => ?_, fun h => ?_, ?_⟩
    · unfold State.when
      split <;> simpa (disch := decide) [State.f_fieldOf] using hv
    · simp (disch := decide) [State.when, State.f_fieldOf, show ¬21000 ≤ mv by omega]
    · simp (disch := decide) [State.when, State.f_fieldOf, h]
    · unfold State.when
      split <;> simp (disch := decide) [State.f_fieldOf]

/-- Settles O44, event by event. -/
theorem channelEvents : Obligations.ChannelEvents := by
  intro n s hn
  exact ⟨inrushEnd_ends hn, pwmPeriod_takes hn, timedPulseEnd_ends hn, fun hc => (clampEnd_ends hn hc).1,
    fun hc => (clampEnd_ends hn hc).2, openLoad_found hn, fun i tj => currentSense_shows hn,
      fun mv => vauxDroop_shows n mv s⟩

end Sys2Proof.Machine

/-! ## The choice of the aggregate rule (R490) -/

namespace Sys2Proof.Machine

set_option Elab.async false

/-- One step of the search for the channel switched on latest, ties to the higher number. -/
def laterOf (key : Nat → Nat) (best : Option Nat) (n : Nat) : Option Nat :=
  match best with
  | none => some n
  | some m => if key m ≤ key n then some n else some m

theorem foldl_laterOf_mem (key : Nat → Nat) (l : List Nat) (b : Option Nat) :
    l.foldl (laterOf key) b = b ∨ ∃ m ∈ l, l.foldl (laterOf key) b = some m := by
  induction l generalizing b with
  | nil => exact .inl rfl
  | cons x l ih =>
    rw [List.foldl_cons]
    rcases ih (laterOf key b x) with h | ⟨m, hm, h⟩
    · rw [h]
      cases b with
      | none => exact .inr ⟨x, List.mem_cons_self .., rfl⟩
      | some y =>
        by_cases hk : key y ≤ key x
        · exact .inr ⟨x, List.mem_cons_self .., by simp [laterOf, hk]⟩
        · exact .inl (by simp [laterOf, hk])
    · exact .inr ⟨m, List.mem_cons_of_mem _ hm, h⟩

theorem foldl_laterOf_keeps (key : Nat → Nat) (l : List Nat) {n : Nat} (h : ∀ m ∈ l, key m < key n) :
    l.foldl (laterOf key) (some n) = some n := by
  induction l with
  | nil => rfl
  | cons x l ih =>
    have hx : ¬key n ≤ key x := Nat.not_le.mpr (h x (List.mem_cons_self ..))
    rw [List.foldl_cons, laterOf, if_neg hx]
    exact ih fun m hm => h m (List.mem_cons_of_mem _ hm)

/-- The search ends at the channel that every other one precedes. -/
theorem foldl_laterOf_last (key : Nat → Nat) {l : List Nat} {n : Nat} (hs : l.Pairwise (· < ·)) (hn : n ∈ l)
    (h : ∀ m ∈ l, m ≠ n → key m < key n ∨ key m = key n ∧ m < n) : l.foldl (laterOf key) none = some n := by
  obtain ⟨l1, l2, rfl⟩ := List.append_of_mem hn
  obtain ⟨-, hs2, hs12⟩ := List.pairwise_append.mp hs
  have hstep : laterOf key (l1.foldl (laterOf key) none) n = some n := by
    rcases foldl_laterOf_mem key l1 none with h1 | ⟨m, hm, h1⟩
    · rw [h1]
      rfl
    · have hlt := hs12 m hm n (List.mem_cons_self ..)
      have hk := h m (List.mem_append_left _ hm) (by omega)
      rw [h1, laterOf, if_pos (by omega)]
  rw [List.foldl_append, List.foldl_cons, hstep]
  refine foldl_laterOf_keeps key l2 fun m hm => ?_
  have hlt := (List.pairwise_cons.mp hs2).1 m hm
  have hk := h m (List.mem_append_right _ (List.mem_cons_of_mem _ hm)) (by omega)
  omega

/-- A channel that counts for the aggregate rule. -/
def ChannelOn (s : State) (k : Nat) : Prop :=
  k < 16 ∧ (s.f Fl.LSW_CHSTAT_STATE k = 1 ∨ s.f Fl.LSW_CHSTAT_STATE k = 2 ∨
    s.f Fl.LSW_CHSTAT_STATE k = 5 ∧ (s.ch k).heldOn = true)

/-- The channels among which the aggregate rule chooses. -/
def InPool (s : State) (k : Nat) : Prop :=
  ChannelOn s k ∧ ((s.ch k).inrush = true ∨ ∀ j, ChannelOn s j → (s.ch j).inrush = false)

/-- The channels that are on, in ascending order. -/
def onList (s : State) : List Nat := (List.range 16).filter fun n =>
  let st := s.f Fl.LSW_CHSTAT_STATE n
  st == 1 || st == 2 || (st == 5 && (s.ch n).heldOn)

/-- Those in inrush where there are any, else all that are on. -/
def poolList (s : State) : List Nat :=
  if ((onList s).filter fun n => (s.ch n).inrush).isEmpty then onList s else (onList s).filter fun n => (s.ch n).inrush

theorem aggregateChoice_eq (s : State) : aggregateChoice s = (poolList s).foldl (laterOf fun n => (s.ch n).onOrder)
  none := rfl

theorem mem_onList {s : State} {k : Nat} : k ∈ onList s ↔ ChannelOn s k := by
  simp [onList, ChannelOn, or_assoc]

theorem mem_poolList {s : State} {k : Nat} : k ∈ poolList s ↔ InPool s k := by
  unfold poolList InPool
  by_cases he : ((onList s).filter fun n => (s.ch n).inrush) = []
  · have hall : ∀ j, ChannelOn s j → (s.ch j).inrush = false := fun j hj => by
      have := List.filter_eq_nil_iff.mp he j (mem_onList.mpr hj)
      simpa using this
    rw [if_pos (by rw [he]; rfl), mem_onList]
    exact ⟨fun h => ⟨h, .inr hall⟩, And.left⟩
  · have hsome : ¬∀ j, ChannelOn s j → (s.ch j).inrush = false := fun hall => he <|
      List.filter_eq_nil_iff.mpr fun j hj => by simp [hall j (mem_onList.mp hj)]
    rw [if_neg (by simpa using he), List.mem_filter, mem_onList]
    exact ⟨fun h => ⟨h.1, .inl h.2⟩, fun h => ⟨h.1, h.2.resolve_right hsome⟩⟩

theorem poolList_sorted (s : State) : (poolList s).Pairwise (· < ·) := by
  have hon : (onList s).Pairwise (· < ·) := List.pairwise_lt_range.filter _
  unfold poolList
  split
  · exact hon
  · exact hon.filter _

theorem aggregateChoice_last {s : State} {n : Nat} (hn : InPool s n)
    (h : ∀ m, InPool s m → m ≠ n → (s.ch m).onOrder < (s.ch n).onOrder ∨ (s.ch m).onOrder = (s.ch n).onOrder ∧ m < n) :
    aggregateChoice s = some n := by
  rw [aggregateChoice_eq]
  exact foldl_laterOf_last _ (poolList_sorted s) (mem_poolList.mpr hn) fun m hm => h m (mem_poolList.mp hm)

theorem aggregateChoice_none {s : State} (h : ∀ k, ¬ChannelOn s k) : aggregateChoice s = none := by
  have he : poolList s = [] := List.eq_nil_iff_forall_not_mem.mpr fun k hk => h k (mem_poolList.mp hk).1
  rw [aggregateChoice_eq, he]
  rfl

end Sys2Proof.Machine

/-! ## Requests, latches and holds of the protected channels (R484 to R498) -/

namespace Sys2Proof.Machine

set_option Elab.async false

/-- Channel `n` has just been switched on, with the inrush window that its setting asks for. -/
def SwitchedOn (s u : State) (n : Nat) : Prop :=
  u.f Fl.LSW_CHSTAT_STATE n = (if s.f Fl.LSW_CHCFG_TINRUSH n = 0 then 1 else 2) ∧
    (u.ch n).inrush = decide (s.f Fl.LSW_CHCFG_TINRUSH n ≠ 0)

theorem chTurnOn_switched {n : Nat} (hn : n < 16) {s t : State}
    (h : t.f Fl.LSW_CHCFG_TINRUSH n = s.f Fl.LSW_CHCFG_TINRUSH n) : SwitchedOn s (chTurnOn n t) n := by
  rw [SwitchedOn, ← h]
  exact chTurnOn_state hn t

section
variable {n : Nat} {s : State} (hn : n < 16)
include hn

theorem setProg_on : (s.setB Fl.LSW_CHSTAT_PROG n true).f Fl.LSW_CHSTAT_PROG n = 1 ∧
    (s.setB Fl.LSW_CHSTAT_PROG n true).chWanted n = true := by
  have hp : fieldOf (s.setB Fl.LSW_CHSTAT_PROG n true).regs Fl.LSW_CHSTAT_PROG n = 1 :=
    fieldOf_setB_same _ _ _ _ hn (by decide) (by decide)
  exact ⟨hp, by rw [chWanted_eq, hp]; rfl⟩

theorem setProg_off : (s.setB Fl.LSW_CHSTAT_PROG n false).f Fl.LSW_CHSTAT_PROG n = 0 :=
  fieldOf_setB_same _ _ _ _ hn (by decide) (by decide)

omit hn in
theorem setProg_state (v : Bool) :
    fieldOf (s.setB Fl.LSW_CHSTAT_PROG n v).regs Fl.LSW_CHSTAT_STATE n = s.f Fl.LSW_CHSTAT_STATE n :=
  fieldOf_setB_apart _ _ _ _ _ _ (by decide)

omit hn in
theorem setProg_tInrush (v : Bool) :
    (s.setB Fl.LSW_CHSTAT_PROG n v).f Fl.LSW_CHCFG_TINRUSH n = s.f Fl.LSW_CHCFG_TINRUSH n :=
  fieldOf_setB_apart _ _ _ _ _ _ (by decide)

omit hn in
theorem setProg_supply (v : Bool) : (s.setB Fl.LSW_CHSTAT_PROG n v).supplyOk = s.supplyOk :=
  supplyOk_setB _ _ _ _ (by decide)

/-! ### ON -/

theorem exec_channelOn : exec (.channelOn n) s = done (channelOn n s) := congrArg done (if_pos hn)

theorem channelOn_latched (h : s.f Fl.LSW_CHSTAT_STATE n = 4) :
    Effect (.channelOn n) s fun u => bitOf (u.f Fl.LSW_STAT_CAUSE) 7 = true ∧ u.f Fl.LSW_CHSTAT_STATE n = 4 := by
  have hc : channelOn n s = lswCause 7 s := by simp only [channelOn, h]
  refine effect_done ((exec_channelOn hn).trans (congrArg done hc)) ⟨?_, ?_⟩
  · exact bitOf_causeOn _ _ _ _ _ _ (by decide) (by decide) (by decide) (by decide)
  · rw [State.f_fieldOf] at h ⊢
    simpa (disch := decide) [lswCause] using h

omit hn in
theorem channelOn_update (h : s.f Fl.LSW_CHSTAT_STATE n ≠ 4 ∧ s.f Fl.LSW_CHSTAT_STATE n ≠ 5) :
    channelOn n s = chUpdate n (s.setB Fl.LSW_CHSTAT_PROG n true) := by
  unfold channelOn
  split
  · next h4 => exact absurd h4 h.1
  · next h5 => exact absurd h5 h.2
  · rfl

theorem channelOn_off (h : s.f Fl.LSW_CHSTAT_STATE n = 0) :
    (s.supplyOk = true → Effect (.channelOn n) s fun u => SwitchedOn s u n ∧ u.f Fl.LSW_CHSTAT_PROG n = 1) ∧
    (s.supplyOk = false → Effect (.channelOn n) s fun u =>
      u.f Fl.LSW_CHSTAT_STATE n = 0 ∧ u.f Fl.LSW_CHSTAT_PROG n = 1) := by
  obtain ⟨hp, hw⟩ := setProg_on (s := s) hn
  have hst := (setProg_state (s := s) (n := n) true).trans h
  have he := (exec_channelOn (s := s) hn).trans (congrArg done (channelOn_update (by omega)))
  refine ⟨fun hk => effect_done he ?_, fun hk => effect_done he ?_⟩
  · rw [chUpdate_on hst hw ((setProg_supply true).trans hk)]
    exact ⟨chTurnOn_switched hn (setProg_tInrush true), (fieldOf_chTurnOn n n _ (by decide)).trans hp⟩
  · rw [chUpdate_stays (.inl ⟨hst, .inr ((setProg_supply true).trans hk)⟩)]
    exact ⟨hst, hp⟩

theorem channelOn_on (h : s.f Fl.LSW_CHSTAT_STATE n = 1 ∨ s.f Fl.LSW_CHSTAT_STATE n = 2) (hk : s.supplyOk = true) :
    Effect (.channelOn n) s fun u =>
      u.f Fl.LSW_CHSTAT_STATE n = s.f Fl.LSW_CHSTAT_STATE n ∧ u.f Fl.LSW_CHSTAT_PROG n = 1 := by
  obtain ⟨hp, hw⟩ := setProg_on (s := s) hn
  have hst := setProg_state (s := s) (n := n) true
  refine effect_done ((exec_channelOn hn).trans (congrArg done (channelOn_update (by omega)))) ?_
  rw [chUpdate_stays (.inr (.inl ⟨by rwa [hst], hw, (setProg_supply true).trans hk⟩))]
  exact ⟨hst, hp⟩

theorem channelOn_clamping (h : s.f Fl.LSW_CHSTAT_STATE n = 3) (hk : s.supplyOk = true) :
    Effect (.channelOn n) s fun u => u.f Fl.LSW_CHSTAT_STATE n = 6 ∧ u.f Fl.LSW_CHSTAT_PROG n = 1 := by
  obtain ⟨hp, hw⟩ := setProg_on (s := s) hn
  refine effect_done ((exec_channelOn hn).trans (congrArg done (channelOn_update (by omega)))) ?_
  rw [chUpdate_pends ((setProg_state true).trans h) hw ((setProg_supply true).trans hk)]
  exact ⟨fieldOf_setF_fits _ _ _ _ hn (by decide) (by decide), (fieldOf_setF_apart _ _ _ _ _ _ (by decide)).trans hp⟩

theorem channelOn_held (h : s.f Fl.LSW_CHSTAT_STATE n = 5) (hh : (s.ch n).heldOn = true) :
    Effect (.channelOn n) s fun u => u.f Fl.LSW_CHSTAT_PROG n = 1 ∧
      u.f Fl.LSW_CHSTAT_STATE n = if (s.ch n).inrush then 2 else 1 := by
  have hch : (s.setB Fl.LSW_CHSTAT_PROG n true).ch n = s.ch n := by simp [State.ch_member]
  have hc : channelOn n s = ((s.setB Fl.LSW_CHSTAT_PROG n true).setF Fl.LSW_CHSTAT_STATE n
      (if (s.ch n).inrush then 2 else 1)).setCh n fun c => { c with heldOn := false } := by
    simp only [channelOn, h, hch, hh, if_true]
  refine effect_done ((exec_channelOn hn).trans (congrArg done hc)) ⟨?_, ?_⟩
  · exact (fieldOf_setF_apart _ _ _ _ _ _ (by decide)).trans (setProg_on hn).1
  · cases (s.ch n).inrush
    · exact fieldOf_setF_fits _ _ _ _ hn (by decide) (by decide)
    · exact fieldOf_setF_fits _ _ _ _ hn (by decide) (by decide)

theorem channelOn_heldOff (h : s.f Fl.LSW_CHSTAT_STATE n = 5) (hh : (s.ch n).heldOn = false) (hk : s.supplyOk = true) :
    Effect (.channelOn n) s fun u => SwitchedOn s u n ∧ u.f Fl.LSW_CHSTAT_PROG n = 1 := by
  have hch : (s.setB Fl.LSW_CHSTAT_PROG n true).ch n = s.ch n := by simp [State.ch_member]
  have hc : channelOn n s = chUpdate n ((s.setB Fl.LSW_CHSTAT_PROG n true).setF Fl.LSW_CHSTAT_STATE n 0) := by
    simp only [channelOn, h, hch, hh, if_neg Bool.false_ne_true]
  have hp : fieldOf ((s.setB Fl.LSW_CHSTAT_PROG n true).setF Fl.LSW_CHSTAT_STATE n 0).regs Fl.LSW_CHSTAT_PROG n = 1 :=
    (fieldOf_setF_apart _ _ _ _ _ _ (by decide)).trans (setProg_on hn).1
  refine effect_done ((exec_channelOn hn).trans (congrArg done hc)) ?_
  rw [chUpdate_on (fieldOf_setF_fits _ _ _ _ hn (by decide) (by decide)) (by rw [chWanted_eq, hp]; rfl)
    (by simpa (disch := decide) using hk)]
  exact ⟨chTurnOn_switched hn ((fieldOf_setF_apart _ _ _ _ _ _ (by decide)).trans (setProg_tInrush true)),
    (fieldOf_chTurnOn n n _ (by decide)).trans hp⟩

/-! ### OFF and the end of a hold -/

theorem exec_channelOff : exec (.channelOff n) s = done (channelOff n s) := congrArg done (if_pos hn)

omit hn in
theorem channelOff_update (h : s.f Fl.LSW_CHSTAT_STATE n ≠ 5) :
    channelOff n s = chUpdate n (s.setB Fl.LSW_CHSTAT_PROG n false) := by
  have hst : (s.setB Fl.LSW_CHSTAT_PROG n false).f Fl.LSW_CHSTAT_STATE n ≠ 5 := by
    rw [State.f_fieldOf, setProg_state]
    exact h
  exact if_neg (by simpa using hst)

theorem channelOff_on (h : s.f Fl.LSW_CHSTAT_STATE n = 1 ∨ s.f Fl.LSW_CHSTAT_STATE n = 2) :
    (¬(s.f Fl.LSW_CHSTAT_FORCE n = 1 ∨ s.f Fl.LSW_CHSTAT_BLEED n = 1) → Effect (.channelOff n) s fun u =>
      u.f Fl.LSW_CHSTAT_STATE n = 3 ∧ u.f Fl.LSW_CHSTAT_PROG n = 0 ∧ (u.ch n).clamping = true) ∧
    (s.f Fl.LSW_CHSTAT_FORCE n = 1 ∨ s.f Fl.LSW_CHSTAT_BLEED n = 1 → s.supplyOk = true → Effect (.channelOff n) s fun
      u =>
      u.f Fl.LSW_CHSTAT_STATE n = s.f Fl.LSW_CHSTAT_STATE n ∧ u.f Fl.LSW_CHSTAT_PROG n = 0) := by
  have hw := chWanted_setProg_off (s := s) hn
  have hst := setProg_state (s := s) (n := n) false
  have he := (exec_channelOff (s := s) hn).trans (congrArg done (channelOff_update (by omega)))
  refine ⟨fun ho => effect_done he ?_, fun ho hk => effect_done he ?_⟩
  · rw [chUpdate_off (by rwa [hst]) (by rw [hw, decide_eq_false ho])]
    obtain ⟨h3, hcl⟩ := chTurnOff_state hn (s.setB Fl.LSW_CHSTAT_PROG n false)
    exact ⟨h3, (fieldOf_chTurnOff n n _ (by decide)).trans (setProg_off hn), hcl⟩
  · rw [chUpdate_stays (.inr (.inl ⟨by rwa [hst], by rw [hw, decide_eq_true ho], (setProg_supply false).trans hk⟩))]
    exact ⟨hst, setProg_off hn⟩

/-- The end of a hold of an unwanted channel turns a held output off and leaves the program's request. -/
theorem chEndHold_unwanted (hw : s.chWanted n = false) :
    (chEndHold n s).f Fl.LSW_CHSTAT_STATE n = (if (s.ch n).heldOn then 3 else 0) ∧
      (chEndHold n s).f Fl.LSW_CHSTAT_PROG n = s.f Fl.LSW_CHSTAT_PROG n := by
  cases hh : (s.ch n).heldOn with
  | true =>
    have h3 := (chTurnOff_state hn s).1
    have hw' : (chTurnOff n s).chWanted n = false := by
      rw [chWanted_eq] at hw ⊢
      simpa (disch := decide) only [fieldOf_chTurnOff] using hw
    rw [chEndHold, hh, if_pos rfl, chUpdate_stays (.inr (.inr ⟨h3, hw'⟩))]
    exact ⟨h3, fieldOf_chTurnOff n n _ (by decide)⟩
  | false =>
    have h0 : fieldOf (s.setF Fl.LSW_CHSTAT_STATE n 0).regs Fl.LSW_CHSTAT_STATE n = 0 :=
      fieldOf_setF_fits _ _ _ _ hn (by decide) (by decide)
    have hw' : (s.setF Fl.LSW_CHSTAT_STATE n 0).chWanted n = false := by
      rw [chWanted_eq] at hw ⊢
      simpa (disch := decide) only [fieldOf_setF_apart] using hw
    rw [chEndHold, hh, if_neg (by decide), chUpdate_stays (.inl ⟨h0, .inl hw'⟩)]
    exact ⟨h0, fieldOf_setF_apart _ _ _ _ _ _ (by decide)⟩

theorem channelOff_held (h : s.f Fl.LSW_CHSTAT_STATE n = 5)
    (ho : ¬(s.f Fl.LSW_CHSTAT_FORCE n = 1 ∨ s.f Fl.LSW_CHSTAT_BLEED n = 1)) :
    Effect (.channelOff n) s fun u =>
      u.f Fl.LSW_CHSTAT_PROG n = 0 ∧ u.f Fl.LSW_CHSTAT_STATE n = if (s.ch n).heldOn then 3 else 0 := by
  have hst : ((s.setB Fl.LSW_CHSTAT_PROG n false).f Fl.LSW_CHSTAT_STATE n == 5) = true :=
    beq_iff_eq.mpr ((setProg_state false).trans h)
  obtain ⟨hs, hp⟩ := chEndHold_unwanted hn ((chWanted_setProg_off (s := s) hn).trans (decide_eq_false ho))
  refine effect_done ((exec_channelOff hn).trans (congrArg done (if_pos hst))) ⟨hp.trans (setProg_off hn), ?_⟩
  have hch : (s.setB Fl.LSW_CHSTAT_PROG n false).ch n = s.ch n := by simp [State.ch_member]
  rwa [hch] at hs

theorem holdEnd_ends (h : s.f Fl.LSW_CHSTAT_STATE n = 5) (hw : s.chWanted n = false) :
    Effect (.holdEnd n) s fun u => bitOf (u.f Fl.LSW_STAT_CAUSE) 6 = true ∧
      u.f Fl.LSW_CHSTAT_STATE n = if (s.ch n).heldOn then 3 else 0 := by
  refine effect_done (congrArg done (if_pos (by simp [hn, h]))) ⟨?_, ?_⟩
  · exact bitOf_causeOn _ _ _ _ _ _ (by decide) (by decide) (by decide) (by decide)
  · exact (fieldOf_causeOn _ _ _ _ _ _ _ _ (by decide) (by decide)).trans (chEndHold_unwanted hn hw).1

/-! ### CLEAR and the latches -/

theorem channelClear_frees (hf : s.f Fl.LSW_CHSTAT_STATE n = 4 ∧ (s.ch n).clamping = false ∧
      (s.f Fl.LSW_CHSTAT_FLT n ≠ 2 ∨ s.fi Fl.LSW_CHI_TJ n < 15000)) :
    Effect (.channelClear n) s fun u => u.f Fl.LSW_CHSTAT_PROG n = 0 ∧ u.f Fl.LSW_CHSTAT_FLT n = 0 ∧
      (¬(s.f Fl.LSW_CHSTAT_FORCE n = 1 ∨ s.f Fl.LSW_CHSTAT_BLEED n = 1) → u.f Fl.LSW_CHSTAT_STATE n = 0) ∧
      (s.f Fl.LSW_CHSTAT_FORCE n = 1 ∨ s.f Fl.LSW_CHSTAT_BLEED n = 1 → s.supplyOk = true → SwitchedOn s u n) := by
  obtain ⟨h4, hcl, hj⟩ := hf
  have hcond : (s.f Fl.LSW_CHSTAT_STATE n == 4 && !(s.ch n).clamping &&
      (s.f Fl.LSW_CHSTAT_FLT n != 2 || decide (s.fi Fl.LSW_CHI_TJ n < 15000))) = true := by
    rcases hj with hj | hj <;> simp [h4, hcl, hj]
  have hwant := chWanted_setProg_off (s := s) hn
  let t := ((s.setF Fl.LSW_CHSTAT_FLT n 0).setB Fl.LSW_CHSTAT_PROG n false |>.setF Fl.LSW_CHI_I n 0).setF
    Fl.LSW_CHSTAT_STATE n 0
  have h0 : fieldOf t.regs Fl.LSW_CHSTAT_STATE n = 0 := fieldOf_setF_fits _ _ _ _ hn (by decide) (by decide)
  have hp : fieldOf t.regs Fl.LSW_CHSTAT_PROG n = 0 := by
    simp (disch := first | decide | (apply lt_of_lt_of_le hn; decide)) only [t, fieldOf_setF_apart, fieldOf_setB_same,
      b2n]
    rfl
  have hflt : fieldOf t.regs Fl.LSW_CHSTAT_FLT n = 0 := by
    simp (disch := first | decide | (apply lt_of_lt_of_le hn; decide)) only [t, fieldOf_setF_apart, fieldOf_setB_apart,
      fieldOf_setF_fits]
  have hw : t.chWanted n = decide (s.f Fl.LSW_CHSTAT_FORCE n = 1 ∨ s.f Fl.LSW_CHSTAT_BLEED n = 1) := by
    rw [← hwant, chWanted_eq, chWanted_eq, hp,
      show fieldOf (s.setB Fl.LSW_CHSTAT_PROG n false).regs _ n = 0 from setProg_off hn]
    simp (disch := decide) only [t, fieldOf_setF_apart, fieldOf_setB_apart]
  have hk : t.supplyOk = s.supplyOk := by simp (disch := decide) only [t, supplyOk_setF, supplyOk_setB]
  have htin : t.f Fl.LSW_CHCFG_TINRUSH n = s.f Fl.LSW_CHCFG_TINRUSH n := by
    simp (disch := decide) only [t, State.f_fieldOf, fieldOf_setF_apart, fieldOf_setB_apart]
  have he : exec (.channelClear n) s = done (chUpdate n t) := congrArg done ((if_pos hn).trans (if_pos hcond))
  clear_value t
  by_cases ho : (s.f Fl.LSW_CHSTAT_FORCE n = 1 ∨ s.f Fl.LSW_CHSTAT_BLEED n = 1) ∧ s.supplyOk = true
  · refine effect_done he ?_
    rw [chUpdate_on h0 (by rw [hw, decide_eq_true ho.1]) (by rw [hk, ho.2])]
    exact ⟨(fieldOf_chTurnOn n n t (by decide)).trans hp, (fieldOf_chTurnOn n n t (by decide)).trans hflt,
      fun h => absurd ho.1 h, fun _ _ => chTurnOn_switched hn htin⟩
  · refine effect_done he ?_
    rw [chUpdate_stays (.inl ⟨h0, ?_⟩)]
    · exact ⟨hp, hflt, fun _ => h0, fun h1 h2 => absurd ⟨h1, h2⟩ ho⟩
    · rw [hw, hk]
      rcases not_and_or.mp ho with h | h
      · exact .inl (decide_eq_false h)
      · exact .inr (by simpa using h)

theorem channelClear_keeps (hf : ¬(s.f Fl.LSW_CHSTAT_STATE n = 4 ∧ (s.ch n).clamping = false ∧
      (s.f Fl.LSW_CHSTAT_FLT n ≠ 2 ∨ s.fi Fl.LSW_CHI_TJ n < 15000))) :
    Effect (.channelClear n) s fun u => u.reg R.LSW_CHSTAT n = s.reg R.LSW_CHSTAT n := by
  have hcond : ¬(s.f Fl.LSW_CHSTAT_STATE n == 4 && !(s.ch n).clamping &&
      (s.f Fl.LSW_CHSTAT_FLT n != 2 || decide (s.fi Fl.LSW_CHI_TJ n < 15000))) = true := by
    simpa [and_assoc] using hf
  exact effect_done (congrArg done ((if_pos hn).trans (if_neg hcond))) rfl

/-- A latched channel shows its fault and the fault level of its reading. -/
theorem latched_shows (flt j : Nat) (hf : flt < 16) (hj : j < 8) :
    let u := lswCause j (chLatch n flt s)
    (u.f Fl.LSW_CHSTAT_STATE n = 4 ∧ u.f Fl.LSW_CHSTAT_FLT n = flt ∧ u.f Fl.LSW_CHI_I n = 0xFFFF) ∧
      bitOf (u.f Fl.LSW_STAT_CAUSE) j = true := by
  have hw : flt < 2 ^ Fl.LSW_CHSTAT_FLT.width := hf
  refine ⟨⟨?_, ?_, ?_⟩, bitOf_causeOn _ _ _ _ _ _ (by decide) (by decide) hj (by decide)⟩
  · exact (fieldOf_causeOn _ _ _ _ _ _ _ _ (by decide) (by decide)).trans (by
      simp (disch := first | decide | (apply lt_of_lt_of_le hn; decide)) only [chLatch, fieldOf_setF_apart,
        fieldOf_setF_fits])
  · exact (fieldOf_causeOn _ _ _ _ _ _ _ _ (by decide) (by decide)).trans ((fieldOf_setF_apart _ _ _ _ _ _ (by
      decide)).trans
      (fieldOf_setF_fits _ _ _ _ hn (by decide) hw))
  · exact (fieldOf_causeOn _ _ _ _ _ _ _ _ (by decide) (by decide)).trans
      (fieldOf_setF_fits _ _ _ _ hn (by decide) (by decide))

theorem overcurrent_latches {mA10 : Nat} (hl : s.chLive n = true) (ht : s.chThreshold n < mA10) :
    exec (.channelOvercurrent n mA10) s = done (lswCause 0 (chLatch n 1 s)) :=
  congrArg done (if_pos (by simp [hn, hl, ht]))

end

theorem chLive_iff (s : State) (n : Nat) : s.chLive n = true ↔ s.f Fl.LSW_CHSTAT_STATE n = 1 ∨
    s.f Fl.LSW_CHSTAT_STATE n = 2 ∨ s.f Fl.LSW_CHSTAT_STATE n = 3 ∨ s.f Fl.LSW_CHSTAT_STATE n = 6 ∨
    s.f Fl.LSW_CHSTAT_STATE n = 5 ∧ (s.ch n).heldOn = true := by
  simp [State.chLive, or_assoc]

/-- A latch of channel `n` leaves the status of every other channel. -/
theorem latch_others (n m flt j : Nat) (s : State) (h : m ≠ n) :
    (lswCause j (chLatch n flt s)).reg R.LSW_CHSTAT m = s.reg R.LSW_CHSTAT m := by
  have hcause : ∀ (u : State), regOf (lswCause j u).regs R.LSW_CHSTAT m = regOf u.regs R.LSW_CHSTAT m := fun u =>
    regOf_of_without (A := { besideMemory with regs := regsIn [R.LSW_STAT, R.EVT_PEND] })
      (lswCause_writes rfl rfl j u) m (by decide)
  have hmem : ∀ (u : State) (fl : Fld) v, fl.reg = R.LSW_CHSTAT →
      regOf (u.setF fl n v).regs R.LSW_CHSTAT m = regOf u.regs R.LSW_CHSTAT m := fun u fl v hr => by
    rw [← hr]
    exact State.reg_setReg_member _ _ _ _ _ h.symm
  refine (hcause _).trans ((regOf_setF_apart _ _ _ _ _ _ (by decide)).trans ?_)
  exact (hmem _ _ _ rfl).trans (hmem _ _ _ rfl)

/-- Settles O43, by the state in which the command or the event finds the channel. -/
theorem protectedChannels : Obligations.ProtectedChannels := by
  intro n s hn
  refine ⟨channelOn_latched hn, fun h => (channelOn_off hn h).1, fun h => (channelOn_off hn h).2, channelOn_on hn,
    channelOn_clamping hn, channelOn_held hn, channelOn_heldOff hn, fun h => (channelOff_on hn h).1,
    fun h => (channelOff_on hn h).2, channelOff_held hn, ⟨channelClear_frees hn, channelClear_keeps hn⟩,
    fun mA10 => ⟨fun hl ht => effect_done (overcurrent_latches hn ((chLive_iff s n).mpr hl) ht) (latched_shows hn 1 0
      (by decide) (by decide)),
      fun ht => effect_done (congrArg done (if_neg ?_)) rfl⟩,
    fun h => effect_done (congrArg done (if_pos ?_)) (latched_shows hn 2 1 (by decide) (by decide)),
    ⟨fun hp hall => effect_done (u := lswCause 3 (chLatch n 3 s)) ?_ ?_, fun hall => effect_done (u := s) ?_ rfl⟩,
    holdEnd_ends hn⟩
  · simp only [Bool.and_eq_true, decide_eq_true_eq, not_and]
    exact fun _ => Nat.not_lt.mpr ht
  · simp [hn, h]
  · change done (match aggregateChoice s with | none => s | some n => lswCause 3 (chLatch n 3 s)) = _
    rw [aggregateChoice_last hp hall]
  · obtain ⟨hl, hc⟩ := latched_shows (s := s) hn 3 3 (by decide) (by decide)
    exact ⟨hl, hc, fun m _ hm => latch_others n m 3 3 s hm⟩
  · change done (match aggregateChoice s with | none => s | some n => lswCause 3 (chLatch n 3 s)) = _
    rw [aggregateChoice_none hall]

end Sys2Proof.Machine

/-! ## The RTC, PPS and the timestamp FIFOs (R534 to R542) -/

namespace Sys2Proof.Machine

set_option Elab.async false

theorem timCause_shows (j : Nat) (hj : j < 8) (s : State) : bitOf ((timCause j s).settle.f Fl.TIM_STAT_CAUSE) j = true
  := by
  rw [State.f_fieldOf, fieldOf_settle _ _ _ (by decide)]
  exact bitOf_causeOn _ _ _ _ _ _ (by decide) (by decide) hj (by decide)

/-- A cause of the time block leaves every field of another register. -/
theorem fieldOf_timCause (j : Nat) (s : State) {fl : Fld} (i : Nat) (h : Fl.TIM_STAT_CAUSE.apart fl = true)
    (hp : Fl.EVT_PEND_PEND.apart fl = true) : fieldOf (timCause j s).regs fl i = fieldOf s.regs fl i :=
  fieldOf_causeOn _ _ _ _ _ _ _ _ h hp

theorem State.now_lt (s : State) : s.now < 2 ^ 64 := Nat.mod_lt _ (by decide)

theorem rtcFails_shows (s : State) :
    (rtcFails s).settle.f Fl.TIM_STAT_OSCF = 1 ∧ (rtcFails s).settle.f Fl.TIM_STAT_RTCVALID = 0 ∧
      bitOf ((rtcFails s).settle.f Fl.TIM_STAT_CAUSE) 6 = true ∧ (rtcFails s).settle.time.oscRunning = false := by
  refine ⟨?_, ?_, timCause_shows 6 (by decide) _, ?_⟩
  · simp (disch := decide) [rtcFails, timCause, State.f_fieldOf]
  · simp (disch := decide) [rtcFails, timCause, State.f_fieldOf]
  · rw [State.time_of_without (State.settle_settled _) rfl]
    simp [rtcFails, timCause]

theorem rtcAlarm_due {s : State} (h : s.f Fl.TIM_RTCS_S = s.f Fl.TIM_ALARM_S) :
    Answers .rtcAlarm s fun u => bitOf (u.f Fl.TIM_STAT_CAUSE) 5 = true := by
  have hw : ((timCause 5 s).wake 2).f Fl.TIM_STAT_CAUSE = (timCause 5 s).f Fl.TIM_STAT_CAUSE :=
    fieldOf_but (State.wake_writes rfl rfl rfl rfl _ _) 0 (by decide)
  refine answers_done (congrArg done (if_pos (beq_iff_eq.mpr h))) ?_
  rw [State.f_fieldOf, fieldOf_settle _ _ _ (by decide), ← State.f_fieldOf, hw]
  exact bitOf_causeOn _ _ _ _ _ _ (by decide) (by decide) (by decide) (by decide)

theorem rtcAlarm_not_due {s : State} (h : s.f Fl.TIM_RTCS_S ≠ s.f Fl.TIM_ALARM_S) :
    Answers .rtcAlarm s fun u => u.without settledPart = s.without settledPart :=
  answers_done (congrArg done (if_neg (by simpa using h))) (State.settle_settled s)

theorem rtcLoad_loads {s : State} (h : s.f Fl.SYS_PWRSTAT_STATE ≤ 1) :
    Answers .rtcSecondLoad s fun u => u.f Fl.TIM_RTCSUB_SUB = 0 ∧
      (u.f Fl.TIM_RTCS_S : Int) = s.calendar / 1000000000 % 2 ^ 32 := by
  have hfd : Int.fdiv s.calendar 1000000000 = s.calendar / 1000000000 := Int.fdiv_eq_ediv_of_nonneg _ (by decide)
  have hv : unsignedOf 32 (s.calendar / 1000000000) < 2 ^ Fl.TIM_RTCS_S.width := by
    change unsignedOf 32 (s.calendar / 1000000000) < 2 ^ 32
    unfold unsignedOf
    omega
  refine answers_done (congrArg done (if_neg (by omega))) ⟨?_, ?_⟩
  · simp (disch := decide) [State.f_fieldOf]
  · rw [State.f_fieldOf, fieldOf_settle _ _ _ (by decide)]
    change ((fieldOf ((s.setF Fl.TIM_RTCS_S 0 _).setF Fl.TIM_RTCSUB_SUB 0 0).regs Fl.TIM_RTCS_S 0 : Nat) : Int) = _
    rw [fieldOf_setF_apart _ _ _ _ _ _ (by decide), hfd, fieldOf_setF_fits _ _ _ _ (by decide) (by decide) hv,
      unsignedOf]
    omega

theorem rtcLoad_keeps {s : State} (h : 1 < s.f Fl.SYS_PWRSTAT_STATE) :
    Answers .rtcSecondLoad s fun u => u.f Fl.TIM_RTCS_S = s.f Fl.TIM_RTCS_S :=
  answers_done (congrArg done (if_pos h)) (fieldOf_settle _ _ _ (by decide))

theorem ppsOut_shows (s : State) : Answers .ppsOut s fun u => bitOf (u.f Fl.TIM_STAT_CAUSE) 0 = true ∧
    u.time.ppsOut = if s.f Fl.TIM_CTL_PPSEN = 1 then s.time.ppsOut + 1 else s.time.ppsOut := by
  refine answers_done rfl ⟨timCause_shows 0 (by decide) _, ?_⟩
  have h2 : s.f Fl.TIM_CTL_PPSEN < 2 := State.f_lt s Fl.TIM_CTL_PPSEN 0
  rw [State.time_of_without (State.settle_settled _) rfl]
  rcases Nat.lt_or_ge (s.f Fl.TIM_CTL_PPSEN) 1 with h | h
  · simp [timCause, State.when, State.b, show s.f Fl.TIM_CTL_PPSEN = 0 by omega]
  · simp [timCause, State.when, State.b, show s.f Fl.TIM_CTL_PPSEN = 1 by omega]

theorem ppsIn_shows (s : State) : Answers .ppsIn s fun u =>
    u.q R.TIM_PPSIL R.TIM_PPSIH = s.now ∧ bitOf (u.f Fl.TIM_STAT_CAUSE) 7 = true := by
  refine answers_done rfl ⟨?_, timCause_shows 7 (by decide) _⟩
  rw [State.q_quantOf, quantOf_congr (regOf_settle _ _ _ (by decide)) (regOf_settle _ _ _ (by decide))]
  refine (quantOf_congr (regOf_causeOn _ _ _ _ _ _ _ _ (by decide) (by decide))
    (regOf_causeOn _ _ _ _ _ _ _ _ (by decide) (by decide))).trans ?_
  exact quantOf_setQ_same _ _ _ _ _ (by decide) (by decide) (by decide) s.now_lt

/-! ### The timestamp FIFOs -/

theorem fifo_of_time {s t : State} (h : t.time = s.time) (q : Nat) : t.fifo q = s.fifo q := by
  rw [State.fifo, h]
  rfl

theorem fifo_stampShow (q k : Nat) (s : State) : (stampShow q s).fifo k = s.fifo k := by
  unfold stampShow State.fifo
  dsimp only
  split <;> simp

theorem fifo_setFifo {q : Nat} (hq : q < 4) (l : List Stamp) (s : State) : (setFifo q l s).fifo q = l := by
  rw [setFifo, fifo_stampShow]
  exact memberOf_set_same s.time.fifos l [] hq

theorem fieldOf_stampShow_count {q : Nat} (hq : q < 4) {s : State} (hl : (s.fifo q).length ≤ 16) :
    fieldOf (stampShow q s).regs Fl.TIM_FSTAT_COUNT q = (s.fifo q).length := by
  have hw : (s.fifo q).length < 2 ^ Fl.TIM_FSTAT_COUNT.width := show _ < 32 by omega
  have hset : fieldOf (s.setF Fl.TIM_FSTAT_COUNT q (s.fifo q).length).regs Fl.TIM_FSTAT_COUNT q = (s.fifo q).length :=
    fieldOf_setF_fits _ _ _ _ hq (by decide) hw
  unfold stampShow
  dsimp only
  split <;> (simp (disch := decide) only [fieldOf_setF_apart, fieldOf_setB_apart, fieldOf_setReg_apart,
    fieldOf_setQ_apart]; exact hset)

/-- The head of a FIFO shows its time and its description. -/
theorem stampShow_head {q : Nat} (hq : q < 4) {s : State} {e : Stamp} {l : List Stamp} (hf : s.fifo q = e :: l)
    (ht : e.time < 2 ^ 64) (hm : e.msgType < 16) (hs : e.seq < 65536) (hd : e.domain < 256) :
    (stampShow q s).q R.TIM_TSL R.TIM_TSH q = e.time ∧ (stampShow q s).f Fl.TIM_INFO_MSGTYPE q = e.msgType ∧
      (stampShow q s).f Fl.TIM_INFO_SEQID q = e.seq ∧ (stampShow q s).f Fl.TIM_INFO_DOMAIN q = e.domain ∧
      (stampShow q s).f Fl.TIM_INFO_DIR q = b2n e.sent := by
  have hm' : e.msgType < 2 ^ Fl.TIM_INFO_MSGTYPE.width := hm
  have hs' : e.seq < 2 ^ Fl.TIM_INFO_SEQID.width := hs
  have hd' : e.domain < 2 ^ Fl.TIM_INFO_DOMAIN.width := hd
  simp only [stampShow, hf]
  refine ⟨?_, ?_, ?_, ?_, ?_⟩
  · rw [State.q_quantOf]
    simp (disch := decide) only [quantOf, regOf_setF_apart, regOf_setB_apart, regOf_setReg_apart]
    exact quantOf_setQ_same _ _ _ _ _ hq hq (by decide) ht
  · rw [State.f_fieldOf, fieldOf_setF_apart _ _ _ _ _ _ (by decide)]
    exact fieldOf_setF_fits _ _ _ _ hq (by decide) hm'
  · exact fieldOf_setF_fits _ _ _ _ hq (by decide) hs'
  · simp (disch := decide) only [State.f_fieldOf, fieldOf_setF_apart, fieldOf_setB_apart]
    exact fieldOf_setF_fits _ _ _ _ hq (by decide) hd'
  · simp (disch := decide) only [State.f_fieldOf, fieldOf_setF_apart]
    exact fieldOf_setB_same _ _ _ _ hq (by decide) (by decide)

/-- A read of INFO takes the head out of the FIFO. -/
theorem stampRead_shows {q : Nat} {s : State} {e : Stamp} {l : List Stamp} (hq : q < 4) (hf : s.fifo q = e :: l)
    (hl : l.length < 16) : Answers (.timestampRead q) s fun u =>
      u.readData = s.reg R.TIM_INFO q ∧ u.fifo q = l ∧ u.f Fl.TIM_FSTAT_COUNT q = l.length ∧
        ∀ e' l', l = e' :: l' → e'.time < 2 ^ 64 → e'.msgType < 16 → e'.seq < 65536 → e'.domain < 256 →
          u.q R.TIM_TSL R.TIM_TSH q = e'.time ∧ u.f Fl.TIM_INFO_MSGTYPE q = e'.msgType ∧
            u.f Fl.TIM_INFO_SEQID q = e'.seq ∧ u.f Fl.TIM_INFO_DOMAIN q = e'.domain ∧
            u.f Fl.TIM_INFO_DIR q = b2n e'.sent := by
  have hr : exec (.timestampRead q) s = done (setFifo q l { s with readData := s.reg R.TIM_INFO q }) := by
    refine congrArg done ((if_pos hq).trans ?_)
    rw [stampRead, hf]
    rfl
  have hfifo := fifo_setFifo hq l { s with readData := s.reg R.TIM_INFO q }
  rw [setFifo, fifo_stampShow] at hfifo
  refine answers_done hr ⟨?_, ?_, ?_, fun e' l' hl' ht hm hs hd => ?_⟩
  · rw [State.readData_of_without (State.settle_settled _) rfl, setFifo, stampShow]
    dsimp only
    split <;> simp
  · exact (fifo_of_time (State.time_of_without (State.settle_settled _) rfl) q).trans (fifo_setFifo hq l _)
  · rw [State.f_fieldOf, fieldOf_settle _ _ _ (by decide), setFifo, fieldOf_stampShow_count hq (by rw [hfifo]; omega),
      hfifo]
  · obtain ⟨h1, h2, h3, h4, h5⟩ := stampShow_head hq (hfifo.trans hl') ht hm hs hd
    rw [State.q_quantOf, quantOf_congr (regOf_settle _ _ _ (by decide)) (regOf_settle _ _ _ (by decide))]
    simp (disch := decide) only [State.f_fieldOf, fieldOf_settle]
    exact ⟨h1, h2, h3, h4, h5⟩

theorem stampCapture_room {q k : Nat} {s : State} (sent : Bool) (seq domain : Nat) (hk : k < 4)
    (hn : (s.fifo q).length < 16) : stampCapture q sent k seq domain s = timCause 1
      (setFifo q (s.fifo q ++ [{ time := s.now, domain := domain, sent := sent, msgType := k, seq := seq }]) s) := by
  rw [stampCapture, if_neg (by omega)]
  exact congrArg (timCause 1) (if_neg (by omega))

theorem stampCapture_full {q k : Nat} {s : State} (sent : Bool) (seq domain : Nat) (hk : k < 4)
    (hn : 16 ≤ (s.fifo q).length) :
    stampCapture q sent k seq domain s = timCause 1 (s.setB Fl.TIM_FSTAT_OVF q true) := by
  rw [stampCapture, if_neg (by omega)]
  exact congrArg (timCause 1) (if_pos hn)

/-- A captured frame goes to the end of its FIFO, or is lost where 16 entries wait. -/
theorem ringPtpFrame_shows {port : Nat} {s : State} (k seq domain : Nat) (hp : port < 2)
    (hl : s.f Fl.RNG_LINK_STATE port = 2) :
    (k < 4 → (s.fifo (2 + port)).length < 16 → Answers (.ringPtpFrame port k seq domain) s fun u =>
      bitOf (u.f Fl.TIM_STAT_CAUSE) 1 = true ∧
      u.fifo (2 + port) = s.fifo (2 + port) ++
        [{ time := s.now, domain := domain, sent := false, msgType := k, seq := seq }] ∧
      u.f Fl.TIM_FSTAT_COUNT (2 + port) = (s.fifo (2 + port)).length + 1) ∧
    (k < 4 → 16 ≤ (s.fifo (2 + port)).length → Answers (.ringPtpFrame port k seq domain) s fun u =>
      bitOf (u.f Fl.TIM_STAT_CAUSE) 1 = true ∧ u.f Fl.TIM_FSTAT_OVF (2 + port) = 1 ∧ u.fifo (2 + port) = s.fifo (2 +
        port)) ∧
    (4 ≤ k → Answers (.ringPtpFrame port k seq domain) s fun u => u.without settledPart = s.without settledPart) := by
  have hq : 2 + port < 4 := by omega
  have hc : (decide (port < 2) && s.f Fl.RNG_LINK_STATE port == 2) = true := by simp [hp, hl]
  have hfifo : ∀ u : State, (timCause 1 u).settle.fifo (2 + port) = u.fifo (2 + port) := fun u =>
    fifo_of_time ((State.time_of_without (State.settle_settled _) rfl).trans (State.causeOn_time ..)) _
  refine ⟨fun hk hn => ?_, fun hk hn => ?_, fun hk => ?_⟩
  · let x : Stamp := { time := s.now, domain := domain, sent := false, msgType := k, seq := seq }
    have he : exec (.ringPtpFrame port k seq domain) s = done (timCause 1 (setFifo (2 + port) (s.fifo (2 + port) ++
      [x]) s)) :=
      congrArg done ((if_pos hc).trans (stampCapture_room false seq domain hk hn))
    have hset := fifo_setFifo hq (s.fifo (2 + port) ++ [x]) s
    refine answers_done he ⟨timCause_shows 1 (by decide) _, (hfifo _).trans hset, ?_⟩
    rw [setFifo, fifo_stampShow] at hset
    rw [State.f_fieldOf, fieldOf_settle _ _ _ (by decide), fieldOf_timCause _ _ _ (by decide) (by decide), setFifo,
      fieldOf_stampShow_count hq (by rw [hset]; simp; omega), hset]
    simp
  · have he : exec (.ringPtpFrame port k seq domain) s = done (timCause 1 (s.setB Fl.TIM_FSTAT_OVF (2 + port) true)) :=
      congrArg done ((if_pos hc).trans (stampCapture_full false seq domain hk hn))
    refine answers_done he ⟨timCause_shows 1 (by decide) _, ?_, (hfifo _).trans (fifo_of_time (State.setB_time ..) _)⟩
    rw [State.f_fieldOf, fieldOf_settle _ _ _ (by decide), fieldOf_timCause _ _ _ (by decide) (by decide)]
    exact fieldOf_setB_same _ _ _ _ hq (by decide) (by decide)
  · exact answers_done (congrArg done ((if_pos hc).trans (if_pos hk))) (State.settle_settled s)

/-- Settles O47, event by event. -/
theorem rtcAndTimestamps : Obligations.RtcAndTimestamps := by
  intro s
  exact ⟨answers_done rfl (rtcFails_shows s), rtcAlarm_due, rtcAlarm_not_due, rtcLoad_loads, rtcLoad_keeps,
    ppsOut_shows s,
    ppsIn_shows s, fun q e l hq hf hl => stampRead_shows hq hf hl,
    fun port k seq domain hp hl => ringPtpFrame_shows k seq domain hp hl⟩

end Sys2Proof.Machine

/-! ## The Ethernet MACs (R604 to R610) -/

namespace Sys2Proof.Machine

set_option Elab.async false

theorem State.mac_member (s : State) (m : Nat) : s.mac m = memberOf s.eth m {} := rfl

theorem State.setMac_eth (s : State) (m : Nat) (f : EthMac → EthMac) :
    (s.setMac m f).eth = s.eth.setIfInBounds m (f (s.mac m)) := rfl

theorem mac_of_eth {s t : State} (h : t.eth = s.eth) (m : Nat) : t.mac m = s.mac m := by
  rw [State.mac, h]
  rfl

theorem mac_settle (s : State) (m : Nat) : s.settle.mac m = s.mac m :=
  mac_of_eth (State.eth_of_without (State.settle_settled _) rfl) m

theorem mac_setMac {m : Nat} (hm : m < 2) (s : State) (f : EthMac → EthMac) : (s.setMac m f).mac m = f (s.mac m) := by
  simp (disch := exact hm) [State.mac_member, State.setMac_eth]

/-! ### The choice of the next frame -/

theorem fieldOf_txStart {fl : Fld} (m r i : Nat) (s : State) (h : Fl.ETH_STAT_CAUSE.apart fl = true)
    (hp : Fl.EVT_PEND_PEND.apart fl = true) : fieldOf (txStart m r s).regs fl i = fieldOf s.regs fl i :=
  fieldOf_when (fun _ => fieldOf_causeOn _ _ _ _ _ _ _ _ h hp) _ _

theorem fieldOf_txNext {fl : Fld} (m i : Nat) (s : State) (h : Fl.ETH_STAT_CAUSE.apart fl = true)
    (hp : Fl.EVT_PEND_PEND.apart fl = true) : fieldOf (txNext m s).regs fl i = fieldOf s.regs fl i := by
  unfold txNext
  split_ifs
  · rfl
  · exact fieldOf_txStart _ _ _ _ h hp
  · exact fieldOf_txStart _ _ _ _ h hp
  · rfl

/-- A frame of ring `r` takes the wire, `late` where it missed its time. -/
def EthMac.takesWire (r : Nat) (late : Bool) (x : EthMac) : EthMac :=
  { x with wire := some (r, late), late := x.late.filter (· != r) }

theorem txStart_eq (m r : Nat) (s : State) :
    ∃ late, txStart m r s = (s.setMac m (EthMac.takesWire r late)).when late (ethCause 3 m) := ⟨_, rfl⟩

theorem mac_txStart {m : Nat} (hm : m < 2) (r : Nat) (s : State) :
    ((txStart m r s).mac m).paused = (s.mac m).paused := by
  obtain ⟨late, h⟩ := txStart_eq m r s
  have hset : ((s.setMac m (EthMac.takesWire r late)).mac m).paused = (s.mac m).paused := by
    rw [mac_setMac hm]
    rfl
  rw [h]
  cases late with
  | false => exact hset
  | true => exact (congrArg EthMac.paused (mac_of_eth (State.causeOn_eth ..) m)).trans hset

theorem paused_txNext {m : Nat} (hm : m < 2) (s : State) : ((txNext m s).mac m).paused = (s.mac m).paused := by
  unfold txNext
  split_ifs
  · rfl
  · exact mac_txStart hm _ _
  · exact mac_txStart hm _ _
  · rfl

section
variable {m : Nat} (hm : m < 2)
include hm

theorem ethCause_shows (j : Nat) (hj : j < 8) (s : State) : bitOf ((ethCause j m s).f Fl.ETH_STAT_CAUSE m) j = true :=
  bitOf_causeOn _ _ _ _ _ _ hm (by decide) hj (by decide)

theorem cause_txNext {s : State} {j : Nat} (hj : j < 8) (h : bitOf (s.f Fl.ETH_STAT_CAUSE m) j = true) :
    bitOf ((txNext m s).f Fl.ETH_STAT_CAUSE m) j = true := by
  have hstart : ∀ r, bitOf ((txStart m r s).f Fl.ETH_STAT_CAUSE m) j = true := fun r => by
    obtain ⟨late, he⟩ := txStart_eq m r s
    rw [he]
    cases late with
    | false => exact h
    | true => exact bitOf_causeOn_keeps (s := s.setMac m _) hm hm (by decide) hj (by decide) h
  unfold txNext
  split_ifs
  · exact h
  · exact hstart 0
  · exact hstart 1
  · exact h

/-! ### Start and stop -/

theorem ethEnable_starts {s : State} (h : s.macState m = 0) (hp : s.f Fl.SYS_PWRSTAT_STATE ≤ 1) :
    Answers (.ethEnable m) s fun t => t.macState m = 1 ∧ t.f Fl.ETH_CTL_EN m = 1 := by
  have hst : (s.setB Fl.ETH_CTL_EN m true).macState m = 0 := (fieldOf_setB_apart _ _ _ _ _ _ (by decide)).trans h
  have hpw : ¬1 < (s.setB Fl.ETH_CTL_EN m true).f Fl.SYS_PWRSTAT_STATE := by
    rw [State.f_fieldOf, fieldOf_setB_apart _ _ _ _ _ _ (by decide), ← State.f_fieldOf]
    omega
  have he : ethEnable m s = txNext m ((s.setB Fl.ETH_CTL_EN m true).setF Fl.ETH_STAT_STATE m 1) := by
    rw [ethEnable, if_neg (by omega)]
    simp only [hst, if_neg hpw]
  refine answers_done (congrArg done he) ⟨?_, ?_⟩
  · rw [State.macState, State.f_fieldOf, fieldOf_settle _ _ _ (by decide), fieldOf_txNext _ _ _ (by decide) (by decide)]
    exact fieldOf_setF_fits _ _ _ _ hm (by decide) (by decide)
  · rw [State.f_fieldOf, fieldOf_settle _ _ _ (by decide), fieldOf_txNext _ _ _ (by decide) (by decide),
      fieldOf_setF_apart _ _ _ _ _ _ (by decide)]
    exact fieldOf_setB_same _ _ _ _ hm (by decide) (by decide)

theorem ethEnable_stopping {s : State} (h : s.macState m = 2) :
    Answers (.ethEnable m) s fun t => t.macState m = 3 := by
  have hst : (s.setB Fl.ETH_CTL_EN m true).macState m = 2 := (fieldOf_setB_apart _ _ _ _ _ _ (by decide)).trans h
  have he : ethEnable m s = (s.setB Fl.ETH_CTL_EN m true).setF Fl.ETH_STAT_STATE m 3 := by
    rw [ethEnable, if_neg (by omega)]
    simp only [hst]
  refine answers_done (congrArg done he) ?_
  rw [State.macState, State.f_fieldOf, fieldOf_settle _ _ _ (by decide)]
  exact fieldOf_setF_fits _ _ _ _ hm (by decide) (by decide)

theorem ethDisable_stops {s : State} (h : s.macState m = 1 ∨ s.macState m = 3) :
    Answers (.ethDisable m) s fun t => t.macState m = 2 ∧ t.f Fl.ETH_CTL_EN m = 0 := by
  have hst : (s.setB Fl.ETH_CTL_EN m false).macState m = s.macState m := fieldOf_setB_apart _ _ _ _ _ _ (by decide)
  have he : ethDisable m s = (s.setB Fl.ETH_CTL_EN m false).setF Fl.ETH_STAT_STATE m 2 := by
    rw [ethDisable, if_neg (by omega)]
    rcases h with h | h <;> simp only [hst, h]
  refine answers_done (congrArg done he) ⟨?_, ?_⟩
  · rw [State.macState, State.f_fieldOf, fieldOf_settle _ _ _ (by decide)]
    exact fieldOf_setF_fits _ _ _ _ hm (by decide) (by decide)
  · rw [State.f_fieldOf, fieldOf_settle _ _ _ (by decide), fieldOf_setF_apart _ _ _ _ _ _ (by decide)]
    exact fieldOf_setB_same _ _ _ _ hm (by decide) (by decide)

/-- The descriptors that complete at a stop leave the state of the MAC. -/
theorem stopDescriptors_writes (s : State) :
    (s.each 2 fun r s => s.each 32 fun _ s => s.when (s.txReady m r) (txComplete m r false true)).without
      (onlyRegs [R.ETH_TXHEAD]) = s.without (onlyRegs [R.ETH_TXHEAD]) :=
  State.without_each (fun r s => State.without_each (fun _ s => State.without_when
    (txComplete_writes (by decide) rfl rfl m r false true) s _) s 32) s 2

theorem ethStop_stops {s : State} (h : 2 ≤ s.macState m) :
    Answers (.ethStopComplete m) s fun t => t.macState m = (if s.macState m = 3 then 1 else 0) ∧ (t.mac m).paused =
      false := by
  let d := s.each 2 fun r s => s.each 32 fun _ s => s.when (s.txReady m r) (txComplete m r false true)
  have hd : d.macState m = s.macState m := fieldOf_onlyRegs (stopDescriptors_writes hm s) m (by decide)
  have he : ethStop m s = txNext m ((d.setMac m fun x => { x with paused := false, late := [], wire := none }).setF
      Fl.ETH_STAT_STATE m (if s.macState m = 3 then 1 else 0)) := by
    rw [← hd]
    exact if_neg (by simp; omega)
  refine answers_done (congrArg done he) ⟨?_, ?_⟩
  · rw [State.macState, State.f_fieldOf, fieldOf_settle _ _ _ (by decide), fieldOf_txNext _ _ _ (by decide) (by decide)]
    refine fieldOf_setF_fits _ _ _ _ hm (by decide) ?_
    split <;> decide
  · rw [mac_settle, paused_txNext hm, mac_of_eth (State.setF_eth ..), mac_setMac hm]

/-! ### Transmission -/

theorem txTail_sets {r : Nat} (hr : r < 2) (tail : Nat) (s : State) :
    Answers (.ethTxTail m r tail) s fun t => t.f Fl.ETH_TXTAIL_TAIL (2 * m + r) = tail % 32 := by
  have hk : 2 * m + r < 4 := by omega
  refine answers_done (congrArg done (if_neg (by simp; omega))) ?_
  rw [State.f_fieldOf, fieldOf_settle _ _ _ (by decide), fieldOf_txNext _ _ _ (by decide) (by decide)]
  exact fieldOf_setF_fits _ _ _ _ hk (by decide) (Nat.mod_lt _ (by decide))

/-- A completed descriptor advances the head and leaves every other register. -/
theorem head_txComplete {r : Nat} (hr : r < 2) (late err : Bool) (s : State) :
    fieldOf (txComplete m r late err s).regs Fl.ETH_TXHEAD_HEAD (2 * m + r) =
      (s.f Fl.ETH_TXHEAD_HEAD (2 * m + r) + 1) % 32 := by
  have hk : 2 * m + r < 4 := by omega
  exact fieldOf_setF_fits _ _ _ _ hk (by decide) (Nat.mod_lt _ (by decide))

omit hm in
theorem fieldOf_txComplete {fl : Fld} (r i : Nat) (late err : Bool) (s : State)
    (h : (!regsIn [R.ETH_TXHEAD] fl.reg.addr && decide (fl.reg.count ≤ 65536)) = true) :
    fieldOf (txComplete m r late err s).regs fl i = fieldOf s.regs fl i :=
  fieldOf_onlyRegs (txComplete_writes (by decide) rfl rfl m r late err s) i h

omit hm in
theorem fieldOf_ethCause {fl : Fld} (j i : Nat) (s : State) (h : Fl.ETH_STAT_CAUSE.apart fl = true)
    (hp : Fl.EVT_PEND_PEND.apart fl = true) : fieldOf (ethCause j m s).regs fl i = fieldOf s.regs fl i :=
  fieldOf_causeOn _ _ _ _ _ _ _ _ h hp

omit hm in
theorem fieldOf_ptpCapture {fl : Fld} (sent : Bool) (frame : List Byte) (i : Nat) (s : State)
    (h : (!regsIn [R.EVT_PEND, R.TIM_FSTAT, R.TIM_INFO, R.TIM_STAT, R.TIM_TSH, R.TIM_TSL] fl.reg.addr &&
      decide (fl.reg.count ≤ 65536)) = true) :
    fieldOf (ptpCapture m sent frame s).regs fl i = fieldOf s.regs fl i :=
  fieldOf_onlyRegs (ptpCapture_writes (by decide) (by decide) (by decide) (by decide) (by decide) (by decide) rfl
    m sent frame s) i h

/-- A sent frame takes its descriptor, counts, and shows TXDONE. -/
theorem ethTxComplete_sent {r : Nat} {late : Bool} {s : State} (hr : r < 2) (hst : s.macState m ≠ 0)
    (hrdy : s.txReady m r = true) (hlen : s.txLenOk m r = true) (hw : (s.mac m).wire = some (r, late)) :
    Answers (.ethTxComplete m r) s fun t =>
      t.f Fl.ETH_TXHEAD_HEAD (2 * m + r) = (s.f Fl.ETH_TXHEAD_HEAD (2 * m + r) + 1) % 32 ∧
        t.f Fl.ETH_TXFRM_N m = (s.f Fl.ETH_TXFRM_N m + 1) % 2 ^ 32 ∧ bitOf (t.f Fl.ETH_STAT_CAUSE m) 0 = true := by
  let d := s.txDesc m r (s.f Fl.ETH_TXHEAD_HEAD (2 * m + r))
  let frame := s.bytes (s.word d).toNat ((s.word (d + 4)).toNat % 2048)
  let u := ptpCapture m true frame (s.setMac m fun x => { x with wire := none })
  have he : ethTxComplete m r s = txNext m (ethCause 0 m (txComplete m r late false (u.addF Fl.ETH_TXFRM_N m 1))) := by
    have hgo : ¬(2 ≤ m || 2 ≤ r || s.macState m = 0 || !s.txReady m r) = true := by simp [hrdy, hst]; omega
    rw [ethTxComplete, if_neg hgo, if_neg (by simp [hlen])]
    simp only [hw, bne_self_eq_false, if_neg Bool.false_ne_true]
    rfl
  have hu : ∀ (fl : Fld) i, (!regsIn [R.EVT_PEND, R.TIM_FSTAT, R.TIM_INFO, R.TIM_STAT, R.TIM_TSH,
    R.TIM_TSL] fl.reg.addr &&
      decide (fl.reg.count ≤ 65536)) = true → fieldOf u.regs fl i = fieldOf s.regs fl i :=
    fun fl i h => fieldOf_ptpCapture true frame i _ h
  clear_value u
  refine answers_done (congrArg done he) ⟨?_, ?_, ?_⟩
  · rw [State.f_fieldOf, fieldOf_settle _ _ _ (by decide), fieldOf_txNext _ _ _ (by decide) (by decide),
      fieldOf_ethCause _ _ _ (by decide) (by decide), head_txComplete hm hr, State.f_fieldOf,
      fieldOf_addF_apart _ _ _ _ _ _ (by decide), hu _ _ (by decide), ← State.f_fieldOf]
  · rw [State.f_fieldOf, fieldOf_settle _ _ _ (by decide), fieldOf_txNext _ _ _ (by decide) (by decide),
      fieldOf_ethCause _ _ _ (by decide) (by decide), fieldOf_txComplete _ _ _ _ _ (by decide),
      fieldOf_addF_same _ _ _ _ hm (by decide), State.f_fieldOf, hu _ _ (by decide)]
    rfl
  · rw [State.f_fieldOf, fieldOf_settle _ _ _ (by decide), ← State.f_fieldOf]
    exact cause_txNext hm (by decide) (ethCause_shows hm 0 (by decide) _)

/-- A frame whose length is out of range completes with ERR. -/
theorem ethTxComplete_refused {r : Nat} {s : State} (hr : r < 2) (hst : s.macState m = 1)
    (hrdy : s.txReady m r = true) (hlen : s.txLenOk m r = false) :
    Answers (.ethTxComplete m r) s fun t =>
      t.f Fl.ETH_TXHEAD_HEAD (2 * m + r) = (s.f Fl.ETH_TXHEAD_HEAD (2 * m + r) + 1) % 32 ∧
        bitOf (t.f Fl.ETH_STAT_CAUSE m) 7 = true := by
  have he : ethTxComplete m r s = txNext m (ethCause 7 m (txComplete m r false true s)) := by
    have hgo : ¬(2 ≤ m || 2 ≤ r || s.macState m = 0 || !s.txReady m r) = true := by simp [hrdy, hst]; omega
    rw [ethTxComplete, if_neg hgo, if_pos (by simp [hlen]), if_neg (by simp [hst])]
  refine answers_done (congrArg done he) ⟨?_, ?_⟩
  · rw [State.f_fieldOf, fieldOf_settle _ _ _ (by decide), fieldOf_txNext _ _ _ (by decide) (by decide),
      fieldOf_ethCause _ _ _ (by decide) (by decide), head_txComplete hm hr]
  · rw [State.f_fieldOf, fieldOf_settle _ _ _ (by decide), ← State.f_fieldOf]
    exact cause_txNext hm (by decide) (ethCause_shows hm 7 (by decide) _)

/-! ### Reception -/

theorem ethReceive_counts {s : State} (frame : List Byte) (hst : s.macState m = 1) :
    (1518 < frame.length → ∀ ok, Answers (.ethFrameReceived m frame ok) s fun t =>
      t.f Fl.ETH_RXLONG_N m = (s.f Fl.ETH_RXLONG_N m + 1) % 2 ^ 32 ∧ t.f Fl.ETH_RXSTAT_COUNT m = s.f
        Fl.ETH_RXSTAT_COUNT m) ∧
    (frame.length ≤ 1518 → Answers (.ethFrameReceived m frame false) s fun t =>
      t.f Fl.ETH_RXFCS_N m = (s.f Fl.ETH_RXFCS_N m + 1) % 2 ^ 32 ∧ t.f Fl.ETH_RXSTAT_COUNT m = s.f Fl.ETH_RXSTAT_COUNT
        m) := by
  have hgo : ¬(2 ≤ m || s.macState m != 1) = true := by simp [hst]; omega
  refine ⟨fun hl ok => answers_done (congrArg done ((if_neg hgo).trans (if_pos hl))) ⟨?_, ?_⟩, fun hl =>
    answers_done (congrArg done ((if_neg hgo).trans ((if_neg (by omega)).trans (if_pos rfl)))) ⟨?_, ?_⟩⟩
  · rw [State.f_fieldOf, fieldOf_settle _ _ _ (by decide)]
    exact fieldOf_addF_same _ _ _ _ hm (by decide)
  · simp (disch := decide) [State.f_fieldOf]
  · rw [State.f_fieldOf, fieldOf_settle _ _ _ (by decide)]
    exact fieldOf_addF_same _ _ _ _ hm (by decide)
  · simp (disch := decide) [State.f_fieldOf]

omit hm in
theorem fieldOf_dma {fl : Fld} (s : State) (a : Nat) (l : List Byte) (i : Nat)
    (h : (!regsIn [] fl.reg.addr && decide (fl.reg.count ≤ 65536)) = true) :
    fieldOf (s.dma a l).regs fl i = fieldOf s.regs fl i := fieldOf_onlyRegs (l := []) (State.dma_writes rfl rfl s a l)
      i h

/-- An accepted frame in its ring entry, with its time captured. -/
def frameStored (m : Nat) (frame : List Byte) (flt : Nat) (s : State) : State :=
  let before := (s.fifo m).length
  let s := ptpCapture m false frame s
  let ev := (s.fifo m).length != before
  let vlan := (frame.drop 12).take 2 == [0x81, 0x00]
  let i := (s.mac m).rxNext
  let at_ := s.f Fl.ETH_RXBASE_BASE m * 2048 + 2048 * i
  let w := frame.length + 4096 * flt + 65536 * b2n vlan + 131072 * b2n ev
  let s := s.dma at_ (leBytes 4 w ++ leBytes 4 0 ++ frame)
  s.setMac m fun x => { x with rxNext := (i + 1) % 64 }

omit hm in
theorem fieldOf_frameStored {fl : Fld} (frame : List Byte) (flt i : Nat) (s : State)
    (h : (!regsIn [R.EVT_PEND, R.TIM_FSTAT, R.TIM_INFO, R.TIM_STAT, R.TIM_TSH, R.TIM_TSL] fl.reg.addr &&
      decide (fl.reg.count ≤ 65536)) = true) :
    fieldOf (frameStored m frame flt s).regs fl i = fieldOf s.regs fl i := by
  have hc : (!regsIn [] fl.reg.addr && decide (fl.reg.count ≤ 65536)) = true := by
    rw [Bool.and_eq_true] at h ⊢
    exact ⟨rfl, h.2⟩
  exact (fieldOf_dma _ _ _ _ hc).trans (fieldOf_ptpCapture false frame i s h)

theorem ethReceive_accepts {s : State} {frame : List Byte} (hst : s.macState m = 1) (hl : frame.length ≤ 1518)
    (hp : isPause frame = false) (hf : (s.ethFilter m (frame.take 6)).isSome = true) :
    Answers (.ethFrameReceived m frame true) s fun t =>
      if 64 ≤ s.f Fl.ETH_RXSTAT_COUNT m then t.f Fl.ETH_RXSTAT_COUNT m = s.f Fl.ETH_RXSTAT_COUNT m ∧
        t.f Fl.ETH_RXLOST_N m = (s.f Fl.ETH_RXLOST_N m + 1) % 2 ^ 32 ∧ bitOf (t.f Fl.ETH_STAT_CAUSE m) 2 = true
      else t.f Fl.ETH_RXSTAT_COUNT m = s.f Fl.ETH_RXSTAT_COUNT m + 1 ∧
        t.f Fl.ETH_RXFRM_N m = (s.f Fl.ETH_RXFRM_N m + 1) % 2 ^ 32 ∧ bitOf (t.f Fl.ETH_STAT_CAUSE m) 1 = true := by
  obtain ⟨flt, hflt⟩ := Option.isSome_iff_exists.mp hf
  have hgo : ¬(2 ≤ m || s.macState m != 1) = true := by simp [hst]; omega
  by_cases hn : 64 ≤ s.f Fl.ETH_RXSTAT_COUNT m
  · have he : ethReceive m frame true s = ethCause 2 m (s.addF Fl.ETH_RXLOST_N m 1) := by
      rw [ethReceive, if_neg hgo, if_neg (by omega), if_neg (by decide), if_neg (by simp [hp])]
      simp only [hflt, if_pos hn]
    refine answers_done (congrArg done he) ?_
    rw [if_pos hn]
    simp (disch := decide) only [State.f_fieldOf, fieldOf_settle, fieldOf_ethCause]
    refine ⟨fieldOf_addF_apart _ _ _ _ _ _ (by decide), fieldOf_addF_same _ _ _ _ hm (by decide), ?_⟩
    exact ethCause_shows hm 2 (by decide) _
  · have he : ethReceive m frame true s = ethCause 1 m (((frameStored m frame flt s).setF Fl.ETH_RXSTAT_COUNT m
        (s.f Fl.ETH_RXSTAT_COUNT m + 1)).addF Fl.ETH_RXFRM_N m 1) := by
      rw [ethReceive, if_neg hgo, if_neg (by omega), if_neg (by decide), if_neg (by simp [hp])]
      simp only [hflt, if_neg hn]
      rfl
    have hw : s.f Fl.ETH_RXSTAT_COUNT m + 1 < 2 ^ Fl.ETH_RXSTAT_COUNT.width := show _ < 128 by omega
    refine answers_done (congrArg done he) ?_
    rw [if_neg hn]
    simp (disch := decide) only [State.f_fieldOf, fieldOf_settle, fieldOf_ethCause]
    refine ⟨?_, ?_, ethCause_shows hm 1 (by decide) _⟩
    · rw [fieldOf_addF_apart _ _ _ _ _ _ (by decide)]
      exact fieldOf_setF_fits _ _ _ _ hm (by decide) hw
    · rw [fieldOf_addF_same _ _ _ _ hm (by decide), State.f_fieldOf, fieldOf_setF_apart _ _ _ _ _ _ (by decide),
        fieldOf_frameStored _ _ _ _ (by decide)]
      rfl

/-! ### PAUSE, ring entries, MDIO and configuration -/

theorem ethPause_holds {s : State} (quanta : Nat) (hst : s.macState m ≠ 0) (hp : s.f Fl.ETH_CTL_RXPAUSE m = 1) :
    Answers (.ethPause m quanta) s fun t =>
      (t.mac m).paused = (quanta != 0) ∧ bitOf (t.f Fl.ETH_STAT_CAUSE m) 5 = true := by
  have hgo : ¬(2 ≤ m || s.macState m = 0 || !s.b Fl.ETH_CTL_RXPAUSE m) = true := by simp [hst, State.b, hp]; omega
  refine answers_done (congrArg done (if_neg hgo)) ⟨?_, ?_⟩
  · rw [mac_settle, ethCause, mac_of_eth (State.causeOn_eth ..), mac_setMac hm]
  · rw [State.f_fieldOf, fieldOf_settle _ _ _ (by decide)]
    exact ethCause_shows hm 5 (by decide) _

theorem ethPauseEnd_frees (s : State) : Answers (.ethPauseEnd m) s fun t => (t.mac m).paused = false := by
  refine answers_done rfl ?_
  rw [mac_settle, ethPauseEnd, paused_txNext hm, mac_setMac hm]

theorem rxReturn_counts (n : Nat) (s : State) : Answers (.ethRxReturn m n) s fun t =>
    t.f Fl.ETH_RXSTAT_COUNT m = s.f Fl.ETH_RXSTAT_COUNT m - min (s.f Fl.ETH_RXSTAT_COUNT m) (n % 128) := by
  have hlt := State.f_lt s Fl.ETH_RXSTAT_COUNT m
  refine answers_done (congrArg done (if_neg (by omega))) ?_
  rw [State.f_fieldOf, fieldOf_settle _ _ _ (by decide), fieldOf_setF_apart _ _ _ _ _ _ (by decide)]
  exact fieldOf_setF_fits _ _ _ _ hm (by decide) (by omega)

theorem mdioGo_runs {s : State} (v : Word) (hb : s.f Fl.ETH_MDIOSTAT_BUSY m = 0) (hv : v.getLsbD 31 = true) :
    Answers (.mdioTransaction m v) s fun t => t.f Fl.ETH_MDIOSTAT_BUSY m = 1 ∧ (t.mac m).mdio = some v := by
  have he : mdioGo m v s = ((plainWrite R.ETH_MDIO m v s).setB Fl.ETH_MDIOSTAT_BUSY m true).setMac m
      fun x => { x with mdio := some v } := by
    have hgo : ¬(2 ≤ m || s.b Fl.ETH_MDIOSTAT_BUSY m) = true := by simp [State.b, hb]; omega
    have hbit : v.toNat.testBit 31 = true := hv
    exact (if_neg hgo).trans (if_neg (by simp [hbit]))
  refine answers_done (congrArg done he) ⟨?_, ?_⟩
  · rw [State.f_fieldOf, fieldOf_settle _ _ _ (by decide)]
    exact fieldOf_setB_same _ _ _ _ hm (by decide) (by decide)
  · rw [mac_settle, mac_setMac hm]

theorem mdioDone_returns {s : State} {v : Word} (d : BitVec 16) (h : (s.mac m).mdio = some v) :
    Answers (.mdioDone m d) s fun t => t.f Fl.ETH_MDIOSTAT_BUSY m = 0 ∧ (t.mac m).mdio = none ∧
      bitOf (t.f Fl.ETH_STAT_CAUSE m) 4 = true ∧
        t.f Fl.ETH_MDIO_DATA m = if bitsOf v 28 2 = 2 then d.toNat else s.f Fl.ETH_MDIO_DATA m := by
  let u := (s.setB Fl.ETH_MDIOSTAT_BUSY m false).setMac m fun x => { x with mdio := none }
  have he : mdioDone m d s = ethCause 4 m (if bitsOf v 28 2 = 2 then u.setF Fl.ETH_MDIO_DATA m d.toNat else u) := by
    rw [mdioDone, h]
  have hbusy : fieldOf u.regs Fl.ETH_MDIOSTAT_BUSY m = 0 := fieldOf_setB_same _ _ _ _ hm (by decide) (by decide)
  have hdata : fieldOf u.regs Fl.ETH_MDIO_DATA m = s.f Fl.ETH_MDIO_DATA m := fieldOf_setB_apart _ _ _ _ _ _ (by decide)
  have hmac : (u.mac m).mdio = none := by rw [mac_setMac hm]
  clear_value u
  refine answers_done (congrArg done he) ⟨?_, ?_, ?_, ?_⟩
  · rw [State.f_fieldOf, fieldOf_settle _ _ _ (by decide), fieldOf_ethCause _ _ _ (by decide) (by decide)]
    split
    · rw [fieldOf_setF_apart _ _ _ _ _ _ (by decide), hbusy]
    · exact hbusy
  · rw [mac_settle, ethCause, mac_of_eth (State.causeOn_eth ..)]
    split
    · rw [mac_of_eth (State.setF_eth ..), hmac]
    · exact hmac
  · rw [State.f_fieldOf, fieldOf_settle _ _ _ (by decide)]
    exact ethCause_shows hm 4 (by decide) _
  · rw [State.f_fieldOf, fieldOf_settle _ _ _ (by decide), fieldOf_ethCause _ _ _ (by decide) (by decide)]
    split
    · exact fieldOf_setF_fits _ _ _ _ hm (by decide) d.isLt
    · exact hdata

theorem ethConfig_sets (v : Word) (s : State) :
    (s.f Fl.ETH_CTL_EN m = 1 → bitsOf v 0 2 ≠ s.f Fl.ETH_CFG_SPEED m → Answers (.ethConfigWrite m v) s fun t =>
      t.reg R.ETH_CFG m = s.reg R.ETH_CFG m ∧ bitOf (t.f Fl.ETH_STAT_CAUSE m) 6 = true) ∧
    (s.f Fl.ETH_CTL_EN m = 0 → Answers (.ethConfigWrite m v) s fun t =>
      t.f Fl.ETH_CFG_SPEED m = bitsOf v 0 2 ∧ t.f Fl.ETH_CFG_TXDLY m = bitsOf v 4 1 ∧ t.f Fl.ETH_CFG_RXDLY m = bitsOf
        v 5 1) := by
  refine ⟨fun hen hsp => ?_, fun hen => ?_⟩
  · have he : ethConfig m v s = ethCause 6 m s :=
      (if_neg (by omega)).trans (if_pos (by simp [State.b, hen, hsp]))
    refine answers_done (congrArg done he) ⟨?_, ?_⟩
    · rw [State.reg_regOf, regOf_settle _ _ _ (by decide)]
      exact regOf_causeOn _ _ _ _ _ _ _ _ (by decide) (by decide)
    · rw [State.f_fieldOf, fieldOf_settle _ _ _ (by decide)]
      exact ethCause_shows hm 6 (by decide) _
  · have he : ethConfig m v s = plainWrite R.ETH_CFG m v s :=
      (if_neg (by omega)).trans (if_neg (by simp [State.b, hen]))
    refine answers_done (congrArg done he) ?_
    simp (disch := decide) only [State.f_fieldOf, fieldOf_settle]
    exact ⟨fieldOf_plainWrite Fl.ETH_CFG_SPEED m v s hm (by decide) (by decide),
      fieldOf_plainWrite Fl.ETH_CFG_TXDLY m v s hm (by decide) (by decide),
      fieldOf_plainWrite Fl.ETH_CFG_RXDLY m v s hm (by decide) (by decide)⟩

end

/-- Settles O53, command by command. -/
theorem ethernet : Obligations.Ethernet := by
  intro m s hm
  exact ⟨ethEnable_starts hm, ethEnable_stopping hm, ethDisable_stops hm, ethStop_stops hm,
    fun r tail hr => txTail_sets hm hr tail s, fun r late hr => ethTxComplete_sent hm hr,
    fun r hr => ethTxComplete_refused hm hr, fun frame hst => ⟨(ethReceive_counts hm frame hst).1,
      (ethReceive_counts hm frame hst).2, fun hl hp hf => ethReceive_accepts hm hst hl hp hf⟩,
    fun quanta => ethPause_holds hm quanta, ethPauseEnd_frees hm s, fun n => rxReturn_counts hm n s,
    fun v => mdioGo_runs hm v, fun v d => mdioDone_returns hm d, fun v => ethConfig_sets hm v s⟩

end Sys2Proof.Machine

/-! ## Completions of the host queues (R585 to R589) -/

namespace Sys2Proof.Machine

set_option Elab.async false

theorem regOf_setReg_member (s : State) (r : Rg) {i j : Nat} (v : Word) (h : i ≠ j) :
    regOf (s.setReg r i v).regs r j = regOf s.regs r j := State.reg_setReg_member s r i j v h

theorem showInflight_host (q : Nat) (s : State) : (showInflight q s).host = s.host := by simp [showInflight]

theorem queueSettle_host (q : Nat) (s : State) : ∃ p, (queueSettle q s).host = { s.host with phase := p } := by
  unfold queueSettle
  split
  · exact ⟨s.host.phase, rfl⟩
  · split
    · exact ⟨s.host.phase, by simp⟩
    · exact ⟨s.host.phase.setIfInBounds q true, by simp [queueStart]⟩
    · exact ⟨s.host.phase, rfl⟩

/-- A running queue is not settled. -/
theorem queueSettle_running {q : Nat} {s : State} (h : s.queueState q = 1) : queueSettle q s = s := by
  unfold queueSettle
  split
  · rfl
  · simp only [h]

theorem op_cleared {s t : State} {k : Nat} (hk : k < 48) (h : t.host.slots = s.host.slots.setIfInBounds k none) :
    t.op k = none := by
  rw [State.op, h]
  simp [List.getD, hk]

/-- The slot of an operation is freed. -/
def slotFreed (k : Nat) (s : State) : State :=
  { s with host.slots := s.host.slots.setIfInBounds k none, host.endOrder := s.host.endOrder.erase k
           host.storageOrder := s.host.storageOrder.erase k, sig.hostDone := cellsErase s.sig.hostDone k
           sig.queue := s.sig.queue.filter fun r : SignReq => r.slot != some k
           sig.current := s.sig.current.map fun x : Signing =>
             if x.req.slot == some k then { x with req := { x.req with slot := none } } else x }

theorem freeOp_eq {s : State} {k : Nat} {o : HostOp} (h : s.op k = some o) : freeOp k s =
    queueSettle o.queue (showInflight o.queue (((slotFreed k s).setReg R.HST_OPSTAT k 0).setReg R.HST_OPSTEPS k 0)) :=
      by
  rw [freeOp, h]
  rfl

theorem freeOp_slot {s : State} {k : Nat} {o : HostOp} (h : s.op k = some o) :
    (freeOp k s).op k = none ∧ (freeOp k s).host.endOrder = s.host.endOrder.erase k ∧
      (freeOp k s).host.lateTags = s.host.lateTags := by
  obtain ⟨p, hp⟩ := queueSettle_host o.queue
    (showInflight o.queue (((slotFreed k s).setReg R.HST_OPSTAT k 0).setReg R.HST_OPSTEPS k 0))
  rw [showInflight_host, State.setReg_host, State.setReg_host] at hp
  rw [freeOp_eq h]
  exact ⟨op_cleared (op_lt h) ((congrArg HostState.slots hp).trans rfl), (congrArg HostState.endOrder hp).trans rfl,
    (congrArg HostState.lateTags hp).trans rfl⟩

/-- Of a running queue the freed slot leaves every register but the operation's and the counts in flight. -/
theorem freeOp_running {s : State} {k : Nat} {o : HostOp} (h : s.op k = some o) (hq : s.queueState o.queue = 1) :
    freeOp k s = showInflight o.queue (((slotFreed k s).setReg R.HST_OPSTAT k 0).setReg R.HST_OPSTEPS k 0) := by
  rw [freeOp_eq h, queueSettle_running]
  rw [State.queueState, State.f_fieldOf] at hq ⊢
  simpa (disch := decide) [showInflight, slotFreed] using hq

/-- The words of a completion entry, with the tail moved on. -/
def completionWritten (o : HostOp) (s : State) : State :=
  let i := s.f Fl.HST_CQTAIL_TAIL o.queue
  let at_ := (o.queue * 16 + i) * 4
  s.setReg R.HST_CQMEM at_ (BitVec.ofNat 32 (o.tag + 65536 * o.queue + 2 ^ 31 * b2n (s.host.phase.toList.getD o.queue
    true)))
    |>.setReg R.HST_CQMEM (at_ + 1) (BitVec.ofNat 32 (o.status % 65536 + 65536 * b2n o.more))
    |>.setReg R.HST_CQMEM (at_ + 2) o.result0 |>.setReg R.HST_CQMEM (at_ + 3) o.result1
    |>.setF Fl.HST_CQTAIL_TAIL o.queue ((i + 1) % 16)

/-- The phase of queue `q` turns over with its last entry. -/
def phaseTurned (q i : Nat) (ph : Bool) (s : State) : State :=
  if i = 15 then { s with host.phase := s.host.phase.setIfInBounds q (!ph) } else s

theorem writeCompletion_eq {s : State} {k : Nat} {o : HostOp} (h : s.op k = some o) : writeCompletion k s =
    (freeOp k (phaseTurned o.queue (s.f Fl.HST_CQTAIL_TAIL o.queue) (s.host.phase.toList.getD o.queue true)
      (completionWritten o s))).when o.irq (hstCause 0) := by
  simp only [writeCompletion, h, phaseTurned, completionWritten]

theorem phaseTurned_op (q i : Nat) (ph : Bool) (k : Nat) (s : State) : (phaseTurned q i ph s).op k = s.op k := by
  unfold phaseTurned
  split
  · exact op_of_slots rfl k
  · rfl

theorem completionWritten_op (o : HostOp) (k : Nat) (s : State) : (completionWritten o s).op k = s.op k :=
  op_of_host (by simp [completionWritten]) k

theorem when_hstCause_host (c : Bool) (j : Nat) (s : State) : (s.when c (hstCause j)).host = s.host := by
  unfold State.when
  split
  · exact State.causeOn_host ..
  · rfl

/-- A completed operation leaves its slot and the order of ends. -/
theorem writeCompletion_slot {s : State} {k : Nat} {o : HostOp} (h : s.op k = some o) :
    (writeCompletion k s).op k = none ∧ (writeCompletion k s).host.endOrder = s.host.endOrder.erase k ∧
      (writeCompletion k s).host.lateTags = s.host.lateTags := by
  let u := phaseTurned o.queue (s.f Fl.HST_CQTAIL_TAIL o.queue) (s.host.phase.toList.getD o.queue true)
    (completionWritten o s)
  have hop : u.op k = some o := (phaseTurned_op _ _ _ k _).trans ((completionWritten_op o k s).trans h)
  have hend : u.host.endOrder = s.host.endOrder := by
    simp only [u, phaseTurned]
    split <;> simp [completionWritten]
  have hlate : u.host.lateTags = s.host.lateTags := by
    simp only [u, phaseTurned]
    split <;> simp [completionWritten]
  have he : writeCompletion k s = (freeOp k u).when o.irq (hstCause 0) := writeCompletion_eq h
  obtain ⟨h1, h2, h3⟩ := freeOp_slot hop
  rw [he, when_hstCause_host, h2, h3, hend, hlate]
  exact ⟨(op_of_host (when_hstCause_host ..) k).trans h1, rfl, rfl⟩

/-- The completion entry holds tag, status and results of the operation, and the tail has moved on. -/
theorem completionWritten_shows {o : HostOp} (hq : o.queue < 32) (s : State) :
    let w := (o.queue * 16 + s.f Fl.HST_CQTAIL_TAIL o.queue) * 4
    let u := completionWritten o s
    bitsOf (u.reg R.HST_CQMEM w) 0 16 = o.tag % 65536 ∧ bitsOf (u.reg R.HST_CQMEM (w + 1)) 0 16 = o.status % 65536 ∧
      u.reg R.HST_CQMEM (w + 2) = o.result0 ∧ u.reg R.HST_CQMEM (w + 3) = o.result1 ∧
      u.f Fl.HST_CQTAIL_TAIL o.queue = (s.f Fl.HST_CQTAIL_TAIL o.queue + 1) % 16 := by
  have hi : s.f Fl.HST_CQTAIL_TAIL o.queue < 16 := State.f_lt s Fl.HST_CQTAIL_TAIL o.queue
  unfold completionWritten
  dsimp only
  generalize s.f Fl.HST_CQTAIL_TAIL o.queue = i at hi ⊢
  generalize hw : (o.queue * 16 + i) * 4 = w
  have hc : R.HST_CQMEM.count = 2048 := by decide
  refine ⟨?_, ?_, ?_, ?_, ?_⟩
  · rw [State.reg_regOf, regOf_setF_apart _ _ _ _ _ _ (by decide), regOf_setReg_member _ _ _ (by omega),
      regOf_setReg_member _ _ _ (by omega), regOf_setReg_member _ _ _ (by omega), regOf_setReg_same _ _ _ _ (by omega)]
    cases s.host.phase.toList.getD o.queue true <;> simp [bitsOf, BitVec.toNat_ofNat] <;> omega
  · rw [State.reg_regOf, regOf_setF_apart _ _ _ _ _ _ (by decide), regOf_setReg_member _ _ _ (by omega),
      regOf_setReg_member _ _ _ (by omega), regOf_setReg_same _ _ _ _ (by omega)]
    cases o.more <;> simp [bitsOf, BitVec.toNat_ofNat] <;> omega
  · rw [State.reg_regOf, regOf_setF_apart _ _ _ _ _ _ (by decide), regOf_setReg_member _ _ _ (by omega),
      regOf_setReg_same _ _ _ _ (by omega)]
  · rw [State.reg_regOf, regOf_setF_apart _ _ _ _ _ _ (by decide), regOf_setReg_same _ _ _ _ (by omega)]
  · exact fieldOf_setF_fits _ _ _ _ hq (by decide) (Nat.mod_lt _ (by decide))

theorem regs_phaseTurned (q i : Nat) (ph : Bool) (s : State) : (phaseTurned q i ph s).regs = s.regs := by
  unfold phaseTurned
  split <;> rfl

/-- Of a running queue, what a completion writes is the entry and the tail. -/
theorem regOf_writeCompletion {s : State} {k : Nat} {o : HostOp} (h : s.op k = some o) (hq : s.queueState o.queue = 1)
    {r : Rg} (i : Nat) (hr : (!regsIn [R.HST_OPSTAT, R.HST_OPSTEPS, R.HST_QSTAT, R.HST_STAT, R.EVT_PEND] r.addr &&
      decide (r.count ≤ 65536)) = true) :
    regOf (writeCompletion k s).regs r i = regOf (completionWritten o s).regs r i := by
  let u := phaseTurned o.queue (s.f Fl.HST_CQTAIL_TAIL o.queue) (s.host.phase.toList.getD o.queue true)
    (completionWritten o s)
  have hop : u.op k = some o := (phaseTurned_op _ _ _ k _).trans ((completionWritten_op o k s).trans h)
  have hregs : u.regs = (completionWritten o s).regs := regs_phaseTurned ..
  have hstate : u.queueState o.queue = 1 := by
    rw [State.queueState, State.f_fieldOf, hregs]
    exact (by simp (disch := decide) [completionWritten] :
      fieldOf (completionWritten o s).regs Fl.HST_QSTAT_STATE o.queue = fieldOf s.regs Fl.HST_QSTAT_STATE
        o.queue).trans hq
  have he : writeCompletion k s = (freeOp k u).when o.irq (hstCause 0) := writeCompletion_eq h
  rw [he, freeOp_running hop hstate, ← hregs]
  refine (regOf_onlyRegs (l := [R.HST_OPSTAT, R.HST_OPSTEPS, R.HST_QSTAT, R.HST_STAT, R.EVT_PEND]) ?_ i hr).trans
    (congrArg (fun l => regOf l r i) (rfl : (slotFreed k u).regs = u.regs))
  simp (disch := decide) only [State.without_when_if, hstCause_writes, showInflight, State.without_setF,
    State.without_setReg,
    ite_self]

/-- What the completion of the operation in slot `k` leaves: the slot is free and the entry shows the operation. -/
theorem writeCompletion_running {s : State} {k : Nat} {o : HostOp} (h : s.op k = some o) (hq : o.queue < 32)
    (hs : s.queueState o.queue = 1) :
    let w := (o.queue * 16 + s.f Fl.HST_CQTAIL_TAIL o.queue) * 4
    let u := writeCompletion k s
    u.op k = none ∧ bitsOf (u.reg R.HST_CQMEM w) 0 16 = o.tag % 65536 ∧
      bitsOf (u.reg R.HST_CQMEM (w + 1)) 0 16 = o.status % 65536 ∧
      u.reg R.HST_CQMEM (w + 2) = o.result0 ∧ u.reg R.HST_CQMEM (w + 3) = o.result1 ∧
      u.f Fl.HST_CQTAIL_TAIL o.queue = (s.f Fl.HST_CQTAIL_TAIL o.queue + 1) % 16 := by
  have hmem : ∀ i, (writeCompletion k s).reg R.HST_CQMEM i = (completionWritten o s).reg R.HST_CQMEM i := fun i =>
    regOf_writeCompletion h hs i (by decide)
  have htail : (writeCompletion k s).f Fl.HST_CQTAIL_TAIL o.queue = (completionWritten o s).f Fl.HST_CQTAIL_TAIL
    o.queue :=
    congrArg (bitsOf · _ _) (regOf_writeCompletion (r := R.HST_CQTAIL) h hs o.queue (by decide))
  dsimp only
  rw [hmem, hmem, hmem, hmem, htail]
  exact ⟨(writeCompletion_slot h).1, completionWritten_shows hq s⟩

/-- With no other end waiting, an operation that ends at once is completed at once. -/
theorem completeNow_alone {s : State} {k : Nat} {o : HostOp} (h : s.op k = some o) (he : o.ended = false)
    (hl : s.host.endOrder = []) (status : Nat) (r0 r1 : Word) :
    completeNow k status r0 r1 s = writeCompletion k (endOp k status r0 r1 s) := by
  have hend : (endOp k status r0 r1 s).host.endOrder = [k] := by
    rw [endOp_open h he, when_hstCause_host]
    change (putOp k _ s).host.endOrder ++ [k] = [k]
    rw [putOp_host, hl]
    rfl
  rw [completeNow, completeThrough, hend]
  simp [State.eachOf]

end Sys2Proof.Machine

/-! ## Host queues (R582 to R599) -/

namespace Sys2Proof.Machine

set_option Elab.async false

theorem hstCause_shows (j : Nat) (hj : j < 8) (s : State) : bitOf ((hstCause j s).f Fl.HST_STAT_CAUSE) j = true :=
  bitOf_causeOn _ _ _ _ _ _ (by decide) (by decide) hj (by decide)

theorem fieldOf_hstCause {fl : Fld} (j i : Nat) (s : State) (h : Fl.HST_STAT_CAUSE.apart fl = true)
    (hp : Fl.EVT_PEND_PEND.apart fl = true) : fieldOf (hstCause j s).regs fl i = fieldOf s.regs fl i :=
  fieldOf_causeOn _ _ _ _ _ _ _ _ h hp

theorem fieldOf_wake {fl : Fld} (src i : Nat) (s : State)
    (h : (!regsIn [R.SYS_PWRCTL, R.SYS_PWRSTAT, R.SYS_WAKESRC] fl.reg.addr && decide (fl.reg.count ≤ 65536)) = true) :
    fieldOf (s.wake src).regs fl i = fieldOf s.regs fl i :=
  fieldOf_onlyRegs (State.wake_writes (by decide) (by decide) (by decide) rfl s src) i h

/-- The end of an operation leaves the state of every queue. -/
theorem queueState_endOp (k status q : Nat) (r0 r1 : Word) (s : State) :
    (endOp k status r0 r1 s).queueState q = s.queueState q := by
  unfold endOp
  split
  · rfl
  · split
    · rfl
    · refine (fieldOf_when (fun u => fieldOf_hstCause 5 q u (by decide) (by decide)) _ _).trans ?_
      change fieldOf (putOp k _ s).regs Fl.HST_QSTAT_STATE q = fieldOf s.regs Fl.HST_QSTAT_STATE q
      simp (disch := decide) [putOp, showInflight]

theorem fieldOf_endOp {fl : Fld} (k status i : Nat) (r0 r1 : Word) (s : State)
    (h : (!regsIn [R.EVT_PEND, R.HST_OPSTAT, R.HST_QSTAT,
      R.HST_STAT] fl.reg.addr && decide (fl.reg.count ≤ 65536)) = true) :
    fieldOf (endOp k status r0 r1 s).regs fl i = fieldOf s.regs fl i :=
  fieldOf_onlyRegs (endOp_writes (by decide) (by decide) (by decide) (by decide) rfl k status r0 r1 s) i h

section
variable {q : Nat} {s : State} (hq : q < 32)
include hq

theorem doorbell_takes {tail : Nat} (h1 : s.queueState q = 1)
    (hk : (s.f Fl.HST_SQTAIL_TAIL q + 16 - s.f Fl.HST_SQHEAD_HEAD q) % 16 ≤ (tail % 16 + 16 - s.f Fl.HST_SQHEAD_HEAD
      q) % 16) :
    Answers (.hostDoorbell q tail) s fun t => t.f Fl.HST_SQTAIL_TAIL q = tail % 16 := by
  refine answers_done (congrArg done ((if_neg (by omega)).trans (if_neg ?_))) ?_
  · simpa [h1] using hk
  · rw [State.f_fieldOf, fieldOf_settle _ _ _ (by decide), fieldOf_wake _ _ _ (by decide)]
    exact fieldOf_setF_fits _ _ _ _ hq (by decide) (Nat.mod_lt _ (by decide))

theorem doorbell_refused {tail : Nat} (h : s.queueState q ≠ 1 ∨
      ¬(s.f Fl.HST_SQTAIL_TAIL q + 16 - s.f Fl.HST_SQHEAD_HEAD q) % 16 ≤ (tail % 16 + 16 - s.f Fl.HST_SQHEAD_HEAD q) %
        16) :
    Answers (.hostDoorbell q tail) s fun t => t.f Fl.HST_SQTAIL_TAIL q = s.f Fl.HST_SQTAIL_TAIL q ∧
      t.f Fl.HST_QSTAT_ERR q = 1 ∧ bitOf (t.f Fl.HST_STAT_CAUSE) 6 = true := by
  refine answers_done (congrArg done ((if_neg (by omega)).trans (if_pos ?_))) ?_
  · simpa [Nat.not_le] using h
  · simp (disch := decide) only [State.f_fieldOf, fieldOf_settle]
    refine ⟨?_, ?_, hstCause_shows 6 (by decide) _⟩
    · rw [fieldOf_hstCause _ _ _ (by decide) (by decide), fieldOf_setB_apart _ _ _ _ _ _ (by decide)]
    · rw [fieldOf_hstCause _ _ _ (by decide) (by decide)]
      exact fieldOf_setB_same _ _ _ _ hq (by decide) (by decide)

theorem queueEnable_starts (h : s.queueState q = 0) : Answers (.queueEnable q) s fun t => t.queueState q = 1 ∧
    t.f Fl.HST_QCFG_EN q = 1 ∧ t.f Fl.HST_SQHEAD_HEAD q = 0 ∧ t.f Fl.HST_SQTAIL_TAIL q = 0 := by
  have hst : (s.setB Fl.HST_QCFG_EN q true).queueState q = 0 := (fieldOf_setB_apart _ _ _ _ _ _ (by decide)).trans h
  have he : queueEnable q s = queueStart q (s.setB Fl.HST_QCFG_EN q true) := by
    rw [queueEnable, if_neg (by omega)]
    simp only [hst]
  refine answers_done (congrArg done he) ?_
  simp (disch := decide) only [State.queueState, State.f_fieldOf, fieldOf_settle, queueStart]
  simp (disch := first | decide | (apply lt_of_lt_of_le hq; decide)) only [fieldOf_setF_apart, fieldOf_setF_fits,
    fieldOf_setB_same, b2n_true, and_self]

theorem queueEnable_stopping (h : s.queueState q = 2) : Answers (.queueEnable q) s fun t => t.queueState q = 3 := by
  have hst : (s.setB Fl.HST_QCFG_EN q true).queueState q = 2 := (fieldOf_setB_apart _ _ _ _ _ _ (by decide)).trans h
  have he : queueEnable q s = (s.setB Fl.HST_QCFG_EN q true).setF Fl.HST_QSTAT_STATE q 3 := by
    rw [queueEnable, if_neg (by omega)]
    simp only [hst]
  refine answers_done (congrArg done he) ?_
  rw [State.queueState, State.f_fieldOf, fieldOf_settle _ _ _ (by decide)]
  exact fieldOf_setF_fits _ _ _ _ hq (by decide) (by decide)

theorem queueDisable_stops (h : s.queueState q = 1) : Answers (.queueDisable q) s fun t =>
    t.f Fl.HST_QCFG_EN q = 0 ∧ t.queueState q = if s.inflight q = 0 then 0 else 2 := by
  have hst : (s.setB Fl.HST_QCFG_EN q false).queueState q = 1 := (fieldOf_setB_apart _ _ _ _ _ _ (by decide)).trans h
  let u := (s.setB Fl.HST_QCFG_EN q false).setF Fl.HST_QSTAT_STATE q 2
  have he : queueDisable q s = queueSettle q u := by
    rw [queueDisable, if_neg (by omega)]
    simp only [hst, u]
  have hfl : u.inflight q = s.inflight q := by
    simp [u, State.inflight, State.ops, State.op]
  have h2 : fieldOf u.regs Fl.HST_QSTAT_STATE q = 2 := fieldOf_setF_fits _ _ _ _ hq (by decide) (by decide)
  have hen : fieldOf u.regs Fl.HST_QCFG_EN q = 0 := (fieldOf_setF_apart _ _ _ _ _ _ (by decide)).trans
    (fieldOf_setB_same _ _ _ _ hq (by decide) (by decide))
  clear_value u
  refine answers_done (congrArg done he) ?_
  simp (disch := decide) only [State.queueState, State.f_fieldOf, fieldOf_settle]
  by_cases h0 : s.inflight q = 0
  · have hs : queueSettle q u = ((((u.setF Fl.HST_QSTAT_STATE q 0).setF Fl.HST_SQTAIL_TAIL q 0).setF
      Fl.HST_SQHEAD_HEAD q 0
        ).setF Fl.HST_CQTAIL_TAIL q 0).setF Fl.HST_CQHEAD_HEAD q 0 := by
      rw [queueSettle, if_neg (by simp [hfl, h0])]
      simp only [State.queueState, State.f_fieldOf, h2]
    rw [hs, if_pos h0]
    simp (disch := first | decide | (apply lt_of_lt_of_le hq; decide)) only [fieldOf_setF_apart, fieldOf_setF_fits, hen,
      and_self]
  · have hs : queueSettle q u = u := by rw [queueSettle, if_pos (by simp [hfl, h0])]
    rw [hs, if_neg h0]
    exact ⟨hen, h2⟩

theorem queueDisable_pending (h : s.queueState q = 3) : Answers (.queueDisable q) s fun t => t.queueState q = 2 := by
  have hst : (s.setB Fl.HST_QCFG_EN q false).queueState q = 3 := (fieldOf_setB_apart _ _ _ _ _ _ (by decide)).trans h
  have he : queueDisable q s = (s.setB Fl.HST_QCFG_EN q false).setF Fl.HST_QSTAT_STATE q 2 := by
    rw [queueDisable, if_neg (by omega)]
    simp only [hst]
  refine answers_done (congrArg done he) ?_
  rw [State.queueState, State.f_fieldOf, fieldOf_settle _ _ _ (by decide)]
  exact fieldOf_setF_fits _ _ _ _ hq (by decide) (by decide)

theorem completionReturn_sets (head : Nat) :
    Answers (.completionReturn q head) s fun t => t.f Fl.HST_CQHEAD_HEAD q = head % 16 := by
  refine answers_done (congrArg done (if_pos hq)) ?_
  rw [State.f_fieldOf, fieldOf_settle _ _ _ (by decide)]
  exact fieldOf_setF_fits _ _ _ _ hq (by decide) (Nat.mod_lt _ (by decide))

end

/-! ### Descriptor fetch -/

theorem op_putSteps (k d t j : Nat) (s : State) : (putSteps k d t s).op j = s.op j :=
  op_of_host (by simp [putSteps]) j

/-- A fetched descriptor in its slot: a message waits for its hart. -/
def HostOp.asFetched (o : HostOp) : HostOp := if o.op < 0x80 then { o with state := 1 } else o

theorem HostOp.asFetched_keeps (o : HostOp) : o.asFetched.queue = o.queue ∧ o.asFetched.op = o.op ∧
    o.asFetched.tag = o.tag ∧ o.asFetched.flags = o.flags ∧ o.asFetched.ended = o.ended := by
  unfold HostOp.asFetched
  split <;> exact ⟨rfl, rfl, rfl, rfl, rfl⟩

/-- The descriptor at the head of `q` has taken slot `k`. -/
def descriptorTaken (q k : Nat) (s : State) : State :=
  let head := s.f Fl.HST_SQHEAD_HEAD q
  putSteps k 0 0 (putOp k (s.descriptor q head).asFetched (s.setF Fl.HST_SQHEAD_HEAD q ((head + 1) % 16)))

theorem turnAway_taken (q k : Nat) (s : State) (o : HostOp) :
    (descriptorTaken q k s).turnAway o.asFetched = s.turnAway o := by
  obtain ⟨hq, hop, -, hfl, -⟩ := o.asFetched_keeps
  have hdev : (descriptorTaken q k s).b Fl.HST_QCFG_DEVOPS o.queue = s.b Fl.HST_QCFG_DEVOPS o.queue := by
    simp (disch := decide) [State.b_fieldOf, descriptorTaken, putSteps, putOp, showInflight]
  have hpcie : (descriptorTaken q k s).pcie = s.pcie := by
    simp [State.pcie, descriptorTaken, putSteps, putOp, showInflight]
  rw [State.turnAway, State.turnAway, HostOp.hostMem, HostOp.hostMem, hq, hop, hfl, hdev, hpcie]

theorem fetch_takes {q k : Nat} {s : State} (hq : q < 32) (hk : k < 48) :
    let d := s.descriptor q (s.f Fl.HST_SQHEAD_HEAD q)
    let u := descriptorFetch.fetch q k s
    u.f Fl.HST_SQHEAD_HEAD q = (s.f Fl.HST_SQHEAD_HEAD q + 1) % 16 ∧
      ∃ o, u.op k = some o ∧ o.queue = q ∧ o.op = d.op ∧ o.tag = d.tag ∧ o.ended = (s.turnAway d).isSome := by
  dsimp only
  generalize hd : s.descriptor q (s.f Fl.HST_SQHEAD_HEAD q) = d
  obtain ⟨h1, h2, h3, -, h5⟩ := d.asFetched_keeps
  have hqueue : d.queue = q := by rw [← hd]; rfl
  have hended : d.ended = false := by rw [← hd]; rfl
  have hf : descriptorFetch.fetch q k s = match s.turnAway d with
      | some st => endOp k st 0 0 (descriptorTaken q k s)
      | none => descriptorTaken q k s := by
    rw [← turnAway_taken q k s d, ← hd]
    rfl
  have hop : (descriptorTaken q k s).op k = some d.asFetched := by
    rw [descriptorTaken, hd]
    exact (op_putSteps ..).trans (op_putOp_same hk _ _)
  have hhead : fieldOf (descriptorTaken q k s).regs Fl.HST_SQHEAD_HEAD q = (s.f Fl.HST_SQHEAD_HEAD q + 1) % 16 := by
    refine Eq.trans ?_ (fieldOf_setF_fits s Fl.HST_SQHEAD_HEAD q _ hq (by decide) (Nat.mod_lt _ (by decide)))
    simp (disch := decide) [descriptorTaken, putSteps, putOp, showInflight]
  rw [hf]
  cases ht : s.turnAway d with
  | none => exact ⟨hhead, _, hop, h1.trans hqueue, h2, h3, h5.trans hended⟩
  | some st =>
    refine ⟨(fieldOf_endOp _ _ _ _ _ _ (by decide)).trans hhead, _, op_endOp hop (h5.trans hended) _ _ _,
      h1.trans hqueue, h2, h3, rfl⟩

theorem descriptorFetch_fetches {q k : Nat} {s : State} (hs : s.host.fetchStopped = false)
    (hn : s.nextQueue 0 s.host.lastQueue0 = some q)
    (hk : (List.range 48).find? (fun k => (s.op k).isNone) = some k) :
    let d := s.descriptor q (s.f Fl.HST_SQHEAD_HEAD q)
    Effect .descriptorFetch s fun u => u.f Fl.HST_SQHEAD_HEAD q = (s.f Fl.HST_SQHEAD_HEAD q + 1) % 16 ∧
      ∃ o, u.op k = some o ∧ o.queue = q ∧ o.op = d.op ∧ o.tag = d.tag ∧ o.ended = (s.turnAway d).isSome := by
  have hq32 : q < 32 := by
    obtain ⟨i, -, hi⟩ := List.mem_map.mp (List.mem_of_find?_eq_some hn)
    omega
  have hk48 : k < 48 := List.mem_range.mp (List.mem_of_find?_eq_some hk)
  have he : descriptorFetch s = descriptorFetch.fetch q k { s with host.lastQueue0 := q } := by
    simp only [descriptorFetch, hs, hn, hk]
    rfl
  exact effect_done (congrArg done he) (fetch_takes hq32 hk48)

/-! ### Messages -/

theorem message_open {o : HostOp} (h : o.message = true) : o.ended = false := by
  simp only [HostOp.message, Bool.and_eq_true, Bool.not_eq_true'] at h
  exact h.2

theorem State.dma_host (s : State) (a : Nat) (l : List Byte) : (s.dma a l).host = s.host :=
  State.host_of_without (A := { besideMemory with host := false, mem := true, pending := true }) (State.dma_writes rfl
    rfl s a l) rfl

/-- A message's bytes in the ring of hart `n`. -/
def messageRinged (n : Nat) (raw : List Byte) (s : State) : State :=
  let i := s.host.ringNext.toList.getD n 0
  let s := s.dma (s.f Fl.HST_HRING_BASE n * 1024 + 64 * i) raw
  { s with host.ringNext := s.host.ringNext.setIfInBounds n ((i + 1) % 16)
           host.ringHeld := s.host.ringHeld.setIfInBounds n (s.host.ringHeld.toList.getD n 0 + 1) }

theorem messageRinged_held {n : Nat} (hn : n < 4) (raw : List Byte) (s : State) :
    (messageRinged n raw s).host.ringHeld.toList.getD n 0 = s.host.ringHeld.toList.getD n 0 + 1 := by
  refine (memberOf_set_same _ _ 0 hn).trans ?_
  rw [State.dma_host]

theorem messageDeliver_delivers {k : Nat} {s : State} {o : HostOp} (h : s.op k = some o) (hm : o.message = true)
    (hd : o.delivered = false) (hr : s.host.ringHeld.toList.getD (s.f Fl.HST_QCFG_HART o.queue) 0 < 16) :
    let n := s.f Fl.HST_QCFG_HART o.queue
    Effect (.messageOperation k) s fun u => u.op k = some { o with delivered := true } ∧
      u.host.ringHeld.toList.getD n 0 = s.host.ringHeld.toList.getD n 0 + 1 ∧
      bitOf (u.f Fl.HST_STAT_CAUSE) (1 + n) = true := by
  dsimp only
  have hn : s.f Fl.HST_QCFG_HART o.queue < 4 := State.f_lt s Fl.HST_QCFG_HART o.queue
  have he : messageDeliver k s = hstCause (1 + s.f Fl.HST_QCFG_HART o.queue)
      (putOp k { o with delivered := true } (messageRinged (s.f Fl.HST_QCFG_HART o.queue) o.raw s)) := by
    rw [messageDeliver, h]
    exact if_neg (by simpa [hm, hd] using hr)
  generalize s.f Fl.HST_QCFG_HART o.queue = n at hn hr he ⊢
  refine effect_done (congrArg done he) ⟨?_, ?_, hstCause_shows _ (by omega) _⟩
  · rw [op_hstCause, op_putOp_same (op_lt h)]
  · rw [show (hstCause (1 + n) _).host = _ from State.causeOn_host .., putOp_host]
    exact messageRinged_held hn o.raw s

/-- The entry of the completion of `o`, its slot free again. -/
def Completed (s u : State) (k : Nat) (o : HostOp) (status : Nat) (r0 r1 : Word) : Prop :=
  let w := (o.queue * 16 + s.f Fl.HST_CQTAIL_TAIL o.queue) * 4
  u.op k = none ∧ bitsOf (u.reg R.HST_CQMEM w) 0 16 = o.tag % 65536 ∧
    bitsOf (u.reg R.HST_CQMEM (w + 1)) 0 16 = status ∧
    u.reg R.HST_CQMEM (w + 2) = r0 ∧ u.reg R.HST_CQMEM (w + 3) = r1 ∧
    u.f Fl.HST_CQTAIL_TAIL o.queue = (s.f Fl.HST_CQTAIL_TAIL o.queue + 1) % 16

theorem completeNow_completes {s : State} {k : Nat} {o : HostOp} {status : Nat} (r0 r1 : Word) (h : s.op k = some o)
    (he : o.ended = false) (hl : s.host.endOrder = []) (hq : o.queue < 32) (hs : s.queueState o.queue = 1)
    (hst : status < 65536) : Completed s (completeNow k status r0 r1 s) k o status r0 r1 := by
  have htail : (endOp k status r0 r1 s).f Fl.HST_CQTAIL_TAIL o.queue = s.f Fl.HST_CQTAIL_TAIL o.queue :=
    fieldOf_endOp _ _ _ _ _ _ (by decide)
  have hw := writeCompletion_running (op_endOp h he status r0 r1) hq ((queueState_endOp ..).trans hs)
  rw [completeNow_alone h he hl]
  simp only [HostOp.endsWith, htail, Nat.mod_eq_of_lt hst] at hw
  exact hw

theorem completeNow_lateTags {s : State} {k : Nat} {o : HostOp} (status : Nat) (r0 r1 : Word) (h : s.op k = some o)
    (he : o.ended = false) (hl : s.host.endOrder = []) :
    (completeNow k status r0 r1 s).host.lateTags = s.host.lateTags := by
  have hend : (endOp k status r0 r1 s).host.lateTags = s.host.lateTags := by
    rw [endOp_open h he, when_hstCause_host, endNoted, putOp_host]
  rw [completeNow_alone h he hl, (writeCompletion_slot (op_endOp h he status r0 r1)).2.2, hend]

theorem messageTimeout_completes {s : State} {k : Nat} {o : HostOp} (h : s.op k = some o) (hm : o.message = true)
    (hl : s.host.endOrder = []) (hs : s.queueState o.queue = 1) (hq : o.queue < 32) (ht : s.f Fl.HST_QCFG_TMO o.queue
      ≠ 0) :
    Effect (.messageTimeout k) s fun u => Completed s u k o 7 0 0 ∧ (o.queue, o.tag) ∈ u.host.lateTags := by
  let v : State := { s with host.lateTags := s.host.lateTags ++ [(o.queue, o.tag)] }
  have he : messageTimeout k s = completeNow k 7 0 0 v := by
    rw [messageTimeout, h]
    refine (if_neg ht).trans ?_
    rw [messageEnd, h]
    exact if_neg (by simp [hm])
  have hv : v.op k = some o := h
  refine effect_done (congrArg done he) ⟨completeNow_completes 0 0 hv (message_open hm) hl hq hs (by decide), ?_⟩
  rw [completeNow_lateTags 7 0 0 hv (message_open hm) hl]
  exact List.mem_append_right _ (List.mem_singleton_self _)

theorem messageAt_op {s : State} {q tag k : Nat} (h : s.messageAt q tag = some k) :
    ∃ o, s.op k = some o ∧ o.message = true := by
  rw [State.messageAt, Option.map_eq_some_iff] at h
  obtain ⟨⟨j, o⟩, hf, rfl⟩ := h
  have hm := List.find?_some hf
  have hmem := List.mem_of_find?_eq_some hf
  rw [State.ops, List.mem_filterMap] at hmem
  obtain ⟨i, -, hi⟩ := hmem
  cases hop : s.op i with
  | none => simp [hop] at hi
  | some x =>
    simp only [hop, Option.map_some, Option.some.injEq, Prod.mk.injEq] at hi
    obtain ⟨rfl, rfl⟩ := hi
    simp only [Bool.and_eq_true] at hm
    exact ⟨x, hop, hm.1.1⟩

theorem hartCompletion_completes {s : State} {k n : Nat} {o : HostOp} (h : s.op k = some o) (hm : o.message = true)
    (hl : s.host.endOrder = []) (hs : s.queueState o.queue = 1) (hq : o.queue < 32) (hn : n < 4)
    (ha : s.messageAt (s.f Fl.HST_HCOP_QID n) (s.f Fl.HST_HCOP_TAG n) = some k) :
    Effect (.hartCompletion n) s fun u =>
      Completed s u k o (s.f Fl.HST_HCSTMO_STATUS n) (s.reg R.HST_HCRES0 n) (s.reg R.HST_HCRES1 n) := by
  let v : State := putOp k { o with more := s.b Fl.HST_HCSTMO_MORE n } s
  have hreg : ∀ (r : Rg) i, (!regsIn [R.HST_OPSTAT, R.HST_QSTAT,
    R.HST_STAT] r.addr && decide (r.count ≤ 65536)) = true →
      regOf v.regs r i = regOf s.regs r i := fun r i hr =>
    regOf_onlyRegs (putOp_writes (by decide) (by decide) (by decide) rfl k _ s) i hr
  have hfield : ∀ (fl : Fld) i, (!regsIn [R.HST_OPSTAT, R.HST_QSTAT, R.HST_STAT] fl.reg.addr &&
      decide (fl.reg.count ≤ 65536)) = true → v.f fl i = s.f fl i := fun fl i hr =>
    congrArg (bitsOf · _ _) (hreg fl.reg i hr)
  have hv : v.op k = some { o with more := s.b Fl.HST_HCSTMO_MORE n } := op_putOp_same (op_lt h) _ _
  have hvl : v.host.endOrder = [] := by
    simp only [v, putOp_host]
    exact hl
  have hvs : v.queueState o.queue = 1 := by
    rw [State.queueState, State.f_fieldOf] at hs ⊢
    simpa (disch := decide) [v, putOp, showInflight] using hs
  have he : hartCompletion n s =
      completeNow k (v.f Fl.HST_HCSTMO_STATUS n) (v.reg R.HST_HCRES0 n) (v.reg R.HST_HCRES1 n) v := by
    rw [hartCompletion, if_neg (by omega)]
    simp only [ha, h]
    rfl
  have hst : s.f Fl.HST_HCSTMO_STATUS n < 65536 := State.f_lt s Fl.HST_HCSTMO_STATUS n
  have h0 : v.reg R.HST_HCRES0 n = s.reg R.HST_HCRES0 n := hreg R.HST_HCRES0 n (by decide)
  have h1 : v.reg R.HST_HCRES1 n = s.reg R.HST_HCRES1 n := hreg R.HST_HCRES1 n (by decide)
  have htail : v.f Fl.HST_CQTAIL_TAIL o.queue = s.f Fl.HST_CQTAIL_TAIL o.queue := hfield _ _ (by decide)
  rw [hfield _ _ (by decide), h0, h1] at he
  have hc := completeNow_completes (s.reg R.HST_HCRES0 n) (s.reg R.HST_HCRES1 n) hv (message_open hm) hvl hq hvs hst
  refine effect_done (congrArg done he) ?_
  rw [Completed] at hc ⊢
  rwa [htail] at hc

theorem hartCompletion_unknown {s : State} {n : Nat} (hn : n < 4)
    (ha : s.messageAt (s.f Fl.HST_HCOP_QID n) (s.f Fl.HST_HCOP_TAG n) = none) :
    Effect (.hartCompletion n) s fun u =>
      if (s.f Fl.HST_HCOP_QID n, s.f Fl.HST_HCOP_TAG n) ∈ s.host.lateTags then u.f Fl.HST_HCSTAT_LATE n = 1
      else u.f Fl.HST_HCSTAT_ERR n = 1 := by
  have he : hartCompletion n s = if s.host.lateTags.contains (s.f Fl.HST_HCOP_QID n, s.f Fl.HST_HCOP_TAG n) then
      { s.setB Fl.HST_HCSTAT_LATE n true with
        host.lateTags := s.host.lateTags.erase (s.f Fl.HST_HCOP_QID n, s.f Fl.HST_HCOP_TAG n) }
      else s.setB Fl.HST_HCSTAT_ERR n true := by
    rw [hartCompletion, if_neg (by omega)]
    simp only [ha]
  refine effect_done (congrArg done he) ?_
  by_cases hl : (s.f Fl.HST_HCOP_QID n, s.f Fl.HST_HCOP_TAG n) ∈ s.host.lateTags
  · rw [if_pos hl, if_pos (List.contains_iff_mem.mpr hl)]
    exact fieldOf_setB_same s Fl.HST_HCSTAT_LATE n true hn (by decide) (by decide)
  · rw [if_neg hl, if_neg (hl ∘ List.contains_iff_mem.mp)]
    exact fieldOf_setB_same s Fl.HST_HCSTAT_ERR n true hn (by decide) (by decide)

theorem ringReturn_frees {s : State} {h : Nat} (n : Nat) (hh : h < 4) : Effect (.hartRingReturn h n) s fun u =>
    u.host.ringHeld.toList.getD h 0 = s.host.ringHeld.toList.getD h 0 - n % 32 :=
  effect_done rfl (memberOf_set_same s.host.ringHeld _ 0 hh)

theorem completeThrough_first {s : State} {k : Nat} {l : List Nat} {o : HostOp} (hl : s.host.endOrder = k :: l)
    (h : s.op k = some o) : Effect (.operationComplete k) s fun u => u.op k = none ∧ u.host.endOrder = l := by
  have he : completeThrough k s = writeCompletion k s := by
    rw [completeThrough, hl]
    simp [State.eachOf]
  obtain ⟨h1, h2, -⟩ := writeCompletion_slot h
  refine effect_done (congrArg done he) ⟨h1, ?_⟩
  rw [h2, hl, List.erase_cons_head]

/-! ### Events, lines and links -/

theorem hostEventClear_bits {s : State} {j i : Nat} (mask : Word) (hj : j < 4) (hi : i < 32) :
    bitOf ((hostEventClear j mask.toNat s).f Fl.EVT_PEND_PEND j) i = (bitOf (s.f Fl.EVT_PEND_PEND j) i &&
      (!(mask.getLsbD i && s.b Fl.EVT_ROUTE_HEN (32 * j + i)) || s.heldSource (32 * j + i))) := by
  have hmask := testBit_foldl_setBit (fun i => bitOf mask.toNat i && s.b Fl.EVT_ROUTE_HEN (32 * j + i)) (List.range
    32) 0 i
  rw [hostEventClear, bitOf_eventClear _ _ hj hi, hmask]
  simp [bitOf, hi, BitVec.getLsbD]

theorem lineAck_sends (m : Byte) (s : State) :
    (s.host.msiVectors = 0 → Effect (.lineAck m) s fun u => u = s) ∧
    (s.pcie = true → s.host.msiVectors ≠ 0 → Effect (.lineAck m) s fun u => ∀ k, k < 8 → m.getLsbD k = true →
      bitOf s.activeLines k = true → k % s.host.msiVectors ∈ u.host.msiSent) := by
  refine ⟨fun h0 => effect_done rfl (by simp [lineAck, State.sendMsi, h0]), fun hp hv => ?_⟩
  have he : lineAck m.toNat s = { s with host.msiSent := s.host.msiSent ++
      ((List.range 8).filter fun k => bitOf (m.toNat &&& s.activeLines) k).map fun k => k % s.host.msiVectors } := by
    simp [lineAck, State.sendMsi, hp, hv]
  refine effect_done (congrArg done he) fun k hk hm ha => List.mem_append_right _ (List.mem_map.mpr ⟨k, ?_, rfl⟩)
  have hbit : bitOf (m.toNat &&& s.activeLines) k = true := by
    rw [bitOf, Nat.testBit_and, show m.toNat.testBit k = true from hm, show s.activeLines.testBit k = true from ha]
    rfl
  exact List.mem_filter.mpr ⟨List.mem_range.mpr hk, hbit⟩

theorem linkChange_shows (up : Bool) (s : State) : Answers (.hostLinkChange up) s fun t =>
    t.f Fl.HST_STAT_LINK = b2n up ∧ bitOf (t.f Fl.HST_STAT_CAUSE) 7 = true := by
  let u := hstCause 7 (s.setB Fl.HST_STAT_LINK 0 up)
  have hregs : (linkChange up s).regs = u.regs := by
    unfold linkChange
    dsimp only
    split_ifs <;> rfl
  refine answers_done rfl ?_
  simp (disch := decide) only [State.f_fieldOf, fieldOf_settle, hregs]
  refine ⟨?_, hstCause_shows 7 (by decide) _⟩
  rw [fieldOf_hstCause _ _ _ (by decide) (by decide)]
  exact fieldOf_setB_same _ _ _ _ (by decide) (by decide) (by decide)

theorem qspiStatus_answers {s : State} (h : s.pcie = false) : Effect .qspiStatus s fun u =>
    u.host.qspiOut = [BitVec.ofNat 8 (b2n (s.sys.phase == .running || s.sys.phase == .bootHold))] :=
  effect_done (congrArg done (if_neg (by simp [h]))) rfl

/-- Settles O51: queues and doorbells, the fetch, messages and their ends, and the host's other commands. -/
theorem hostQueues : Obligations.HostQueues := by
  intro s
  refine ⟨fun q hq => ⟨fun tail => ⟨doorbell_takes hq, doorbell_refused hq⟩, queueEnable_starts hq,
    queueEnable_stopping hq,
      queueDisable_stops hq, queueDisable_pending hq, fun head => completionReturn_sets hq head⟩,
    fun q k => descriptorFetch_fetches, fun k o h hm => ⟨messageDeliver_delivers h hm, fun hl hs hq =>
      ⟨messageTimeout_completes h hm hl hs hq, fun n hn ha => hartCompletion_completes h hm hl hs hq hn ha⟩⟩,
    fun n hn => hartCompletion_unknown hn, fun h n hh => ringReturn_frees n hh, fun k l o => completeThrough_first,
    fun j mask hj => effect_done rfl fun i hi => hostEventClear_bits mask hj hi, fun m => lineAck_sends m s,
    fun up => linkChange_shows up s, qspiStatus_answers⟩

end Sys2Proof.Machine

/-! ## Device operations of the host and the storage engine (R588 to R592, R613 to R617) -/

namespace Sys2Proof.Machine

set_option Elab.async false

theorem op_cryptoSteps (k j : Nat) (s : State) : (cryptoSteps k s).op j = s.op j :=
  op_of_host (by simp [cryptoSteps, putSteps, State.draw]) j

theorem op_writePayload (o : HostOp) (a : Nat) (l : List Byte) (j : Nat) (s : State) :
    (writePayload o a l s).op j = s.op j := by
  unfold writePayload
  split
  · exact op_of_slots rfl j
  · exact op_of_host (State.dma_host ..) j

/-- Everything but the host interface. -/
def butHost : Part := { besideMemory with host := false, mem := true, pending := true }

theorem op_butHost {s t : State} (h : t.without butHost = s.without butHost) (k : Nat) : t.op k = s.op k :=
  op_of_host (State.host_of_without h rfl) k

theorem op_spendGen (key g j : Nat) (s : State) : (spendGen key g s).op j = s.op j :=
  op_butHost (spendGen_writes rfl key g s) j

theorem op_keygen (key j : Nat) (s : State) : (keygen key s).2.op j = s.op j :=
  op_butHost (keygen_writes rfl key s) j

/-- A key generation answers 0 or its refusal. -/
theorem keygen_status (key : Nat) (s : State) : (keygen key s).1 = 0 ∨ (keygen key s).1 = 6 := by
  unfold keygen
  dsimp only
  split_ifs <;> simp

/-- What an image check answers does not depend on the engine's steps. -/
theorem checkResult_cryptoSteps (k : Nat) (b : List Byte) (s : State) :
    (cryptoSteps k s).checkResult b = s.checkResult b := by
  have hst : (cryptoSteps k s).stepping = s.stepping := by
    simp (disch := decide) [State.stepping, State.reg_regOf, cryptoSteps, putSteps, State.draw]
  have hsys : (cryptoSteps k s).sys = s.sys := by simp [cryptoSteps, putSteps, State.draw]
  have himg : (cryptoSteps k s).images = s.images := by simp [cryptoSteps, putSteps, State.draw]
  rw [State.checkResult, State.checkResult, State.imgKey, State.imgKey, hst, hsys, himg]

/-- The operation of slot `k` has ended with the status, result and tag of `o`. -/
def EndsOp (c : Instr) (s : State) (k : Nat) (o : HostOp) (status : Nat) (r0 : Word) : Prop :=
  Effect c s fun u => ∃ x, u.op k = some x ∧ x.ended = true ∧ x.status = status ∧ x.result0 = r0 ∧ x.tag = o.tag

/-- A command that ends an open operation shows its status and result. -/
theorem endsOp_of {c : Instr} {s u : State} {k status : Nat} {o : HostOp} {r0 r1 : Word}
    (h : exec c s = done (endOp k status r0 r1 u)) (hu : u.op k = some o) (he : o.ended = false) :
    EndsOp c s k o status r0 :=
  effect_done h ⟨_, op_endOp hu he status r0 r1, rfl, rfl, rfl, rfl⟩

theorem op_joinStorage (k n j : Nat) (s : State) : (joinStorage k n s).op j = s.op j :=
  (op_putSteps ..).trans (op_of_slots rfl j)

section
variable {s : State} {k : Nat} {o : HostOp} (h : s.op k = some o) (he : o.ended = false)
include h he

theorem nop_ends (hop : o.op = 0x80) : EndsOp (.hostNop k) s k o 0 0 :=
  endsOp_of (congrArg done (onOp_open h hop he)) h he

theorem install_refused (hop : o.op = 0x81) (ha : o.aborting = false) (hm : o.hostMem = false)
    (hr : o.addr + o.len ≤ s.windowSize)
    (ht : imgType (s.bytes (s.windowBase + o.addr) o.len) = 1 ∨ imgType (s.bytes (s.windowBase + o.addr) o.len) = 2)
    (hc : s.checkResult (s.bytes (s.windowBase + o.addr) o.len) ≠ 1) :
    EndsOp (.install k) s k o 4 (BitVec.ofNat 32 (s.checkResult (s.bytes (s.windowBase + o.addr) o.len))) := by
  have hp : readPayload o o.addr o.len s = (s.bytes (s.windowBase + o.addr) o.len, s) := by simp [readPayload, hm]
  have hi : opInstall k s = endOp k 4 (BitVec.ofNat 32 (s.checkResult (s.bytes (s.windowBase + o.addr) o.len))) 0
      (cryptoSteps k s) := by
    rw [opInstall, onOp_open h hop he, if_neg (by simp [ha]), if_neg (by simp [State.reachable, hr]), hp]
    dsimp only
    rw [checkResult_cryptoSteps, if_neg (by simpa using fun h1 => ht.resolve_left h1),
      if_pos (by simpa using hc)]
  exact endsOp_of (congrArg done hi) ((op_cryptoSteps ..).trans h) he

theorem install_aborted (hop : o.op = 0x81) (ha : o.aborting = true) : EndsOp (.install k) s k o 5 0 := by
  have hi : opInstall k s = endOp k 5 0 0 (setImgSlot s.spareSlot (fun _ => {}) s) := by
    rw [opInstall, onOp_open h hop he, if_pos ha]
  refine endsOp_of (congrArg done hi) (Eq.trans ?_ h) he
  unfold setImgSlot
  split <;> exact op_of_slots rfl k

theorem export_starts (hop : o.op = 0x82) (hs : o.state = 3) (hr : s.reachable o o.raddr o.rlen = true) :
    Effect (.exportArchive k) s fun u => ∃ x, u.op k = some x ∧ x.state = 2 ∧ x.ended = false ∧
      x.items = (fitItems o.rlen (s.exportItems (o.arg 0) (o.arg 1) (o.arg 2))).1 := by
  let r := fitItems o.rlen (s.exportItems (o.arg 0) (o.arg 1) (o.arg 2))
  let x : HostOp := { o with state := 2, items := r.1, more := r.2.isSome, result0 := BitVec.ofNat 32 (itemBytes r.1)
                             result1 := BitVec.ofNat 32 (r.2.getD 0) }
  have hi : opExport k s = joinStorage k (ceilDiv (itemBytes r.1) stepBytes) (putOp k x s) := by
    rw [opExport, onOp_open h hop he, if_neg (by simp [hs]), if_neg (by simp [hr])]
  have hx : x.state = 2 ∧ x.ended = false ∧ x.items = r.1 := ⟨rfl, he, rfl⟩
  clear_value x
  exact effect_done (congrArg done hi) ⟨x, (op_joinStorage ..).trans (op_putOp_same (op_lt h) _ _), hx⟩

theorem compact_early (hop : o.op = 0x83) (hs : o.state = 3) (hd : o.arg 0 < 400) : EndsOp (.compact k) s k o 4 0 :=
  endsOp_of (congrArg done ((onOp_open h hop he).trans ((if_neg (by simp [hs])).trans (if_pos hd)))) h he

theorem compact_starts (hop : o.op = 0x83) (hs : o.state = 3) (hd : 400 ≤ o.arg 0) : Effect (.compact k) s fun u =>
    u.op k = some { o with state := 2 } ∧ u.host.storageOrder = s.host.storageOrder ++ [k] := by
  have hi : opCompact k s = joinStorage k (s.oldGroups (o.arg 0)).length (putOp k { o with state := 2 } s) := by
    rw [opCompact, onOp_open h hop he, if_neg (by simp [hs]), if_neg (by omega)]
  refine effect_done (congrArg done hi) ⟨(op_joinStorage ..).trans (op_putOp_same (op_lt h) _ _), ?_⟩
  simp [joinStorage, putSteps, putOp_host]

theorem keygen_otherKey (hop : o.op = 0x84) (h1 : o.arg 0 ≠ 1) (h2 : o.arg 0 ≠ 2) :
    EndsOp (.hostKeygen k) s k o 4 0 :=
  endsOp_of (congrArg done ((onOp_open h hop he).trans (if_pos (by simp [h1, h2])))) h he

theorem keygen_aborted (hop : o.op = 0x84) (hk : o.arg 0 = 1 ∨ o.arg 0 = 2) (ha : o.aborting = true) :
    EndsOp (.hostKeygen k) s k o 5 0 := by
  refine endsOp_of (congrArg done ((onOp_open h hop he).trans ((if_neg ?_).trans (if_pos ha))))
    ((op_spendGen ..).trans h) he
  simpa using fun h1 => hk.resolve_left h1

theorem keygen_answers (hop : o.op = 0x84) (hk : o.arg 0 = 1 ∨ o.arg 0 = 2) (ha : o.aborting = false) :
    Effect (.hostKeygen k) s fun u =>
      ∃ x, u.op k = some x ∧ x.ended = true ∧ x.status = if x.result0 = 0 then 0 else 4 := by
  refine effect_done (congrArg done ((onOp_open h hop he).trans ((if_neg ?_).trans (if_neg (by simp [ha])))))
    ⟨_, op_endOp (((op_keygen ..).trans (op_cryptoSteps ..)).trans h) he _ _ _, rfl, ?_⟩
  · simpa using fun h1 => hk.resolve_left h1
  · rcases keygen_status (o.arg 0 - 1) (cryptoSteps k s) with h0 | h6
    · simp [HostOp.endsWith, h0]
    · simp [HostOp.endsWith, h6]

theorem attest_small (hop : o.op = 0x85) (ha : o.aborting = false) (hd : cellsFind s.sig.hostDone k = none)
    (hr : o.rlen < 5187) : EndsOp (.hostAttest k) s k o 2 0 := by
  have hi : opAttest k s = endOp k 2 0 0 s := by
    rw [opAttest, onOp_open h hop he]
    simp [hd, ha, hr]
  exact endsOp_of (congrArg done hi) h he

theorem attest_delivers {env : List Byte} (hop : o.op = 0x85) (ha : o.aborting = false)
    (hd : cellsFind s.sig.hostDone k = some env) : EndsOp (.hostAttest k) s k o 0 0 := by
  have hi : opAttest k s = endOp k 0 0 0 (writePayload o o.raddr env (cryptoSteps k
      { s with sig.hostDone := cellsErase s.sig.hostDone k })) := by
    rw [opAttest, onOp_open h hop he]
    simp only [hd, ha]
    rfl
  refine endsOp_of (congrArg done hi) ?_ he
  rw [op_writePayload, op_cryptoSteps]
  exact (op_of_slots rfl k).trans h

theorem abort_nothing (hop : o.op = 0x86)
    (hn : (s.ops.find? fun e => e.1 != k && e.2.queue == o.queue && e.2.tag == o.arg 0 && !e.2.ended &&
      (e.2.op < 0x80 || steppedOp e.2.op)) = none) : EndsOp (.hostAbort k) s k o 0 0 := by
  have hi : opAbort k s = endOp k 0 0 0 s := by
    rw [opAbort, onOp_open h hop he]
    simp only [hn]
  exact endsOp_of (congrArg done hi) h he

omit h he in
theorem op_of_ops {j : Nat} {x : HostOp} (hm : (j, x) ∈ s.ops) : s.op j = some x := by
  obtain ⟨i, -, hi⟩ := List.mem_filterMap.mp hm
  obtain ⟨y, hy, hp⟩ := Option.map_eq_some_iff.mp hi
  obtain ⟨rfl, rfl⟩ := Prod.mk.inj hp
  exact hy

theorem abort_marks {j : Nat} {x : HostOp} (hop : o.op = 0x86)
    (hn : (s.ops.find? fun e => e.1 != k && e.2.queue == o.queue && e.2.tag == o.arg 0 && !e.2.ended &&
      (e.2.op < 0x80 || steppedOp e.2.op)) = some (j, x)) (hx : 0x80 ≤ x.op) :
    EndsOp (.hostAbort k) s k o 0 1 ∧ Effect (.hostAbort k) s fun u => u.op j = some { x with aborting := true } := by
  have hj : s.op j = some x := op_of_ops (List.mem_of_find?_eq_some hn)
  have hjk : j ≠ k := by
    have := List.find?_some hn
    simp only [Bool.and_eq_true, bne_iff_ne] at this
    exact this.1.1.1.1
  have hi : opAbort k s = endOp k 0 1 0 (putOp j { x with aborting := true } s) := by
    rw [opAbort, onOp_open h hop he]
    simp only [hn]
    exact if_neg (by omega)
  have hk : (putOp j { x with aborting := true } s).op k = some o := (op_putOp_other hjk _ _).trans h
  refine ⟨endsOp_of (congrArg done hi) hk he, effect_done (congrArg done hi) ?_⟩
  rw [endOp_open hk he, op_when (op_hstCause 5 j), op_endNoted, op_putOp_other hjk.symm, op_putOp_same (op_lt hj)]

end

/-! ### The storage engine (R613 to R617) -/

theorem stoCause_shows (j : Nat) (hj : j < 8) (s : State) : bitOf ((stoCause j s).f Fl.STO_STAT_CAUSE) j = true :=
  bitOf_causeOn _ _ _ _ _ _ (by decide) (by decide) hj (by decide)

theorem fieldOf_stoCause {fl : Fld} (j i : Nat) (s : State) (h : Fl.STO_STAT_CAUSE.apart fl = true)
    (hp : Fl.EVT_PEND_PEND.apart fl = true) : fieldOf (stoCause j s).regs fl i = fieldOf s.regs fl i :=
  fieldOf_causeOn _ _ _ _ _ _ _ _ h hp

theorem sto_settle (s : State) : s.settle.sto = s.sto := State.sto_of_without (State.settle_settled _) rfl

theorem storageStep_archives {s : State} {g : ArchiveGroup} (hr : s.stoReady = true)
    (hi : s.archiveItem = some (.group g)) (hn : s.nvOk = true) (hs : s.sys.saveStep = 0) (he : s.sys.saveEnd = false)
    (hm : s.sto.moved = 0) (hl : g.bytes ≤ 4096) (ho : s.host.storageOrder = []) :
    Answers .storageStep s fun t =>
      if s.archiveRoom g.bytes then t.sto.archive = s.sto.archive ++ [g] ∧ t.sto.moved = 0
      else t.sto.archive = s.sto.archive ∧ bitOf (t.f Fl.STO_STAT_CAUSE) 6 = true := by
  cases hroom : s.archiveRoom g.bytes with
  | true =>
    have hroom' : (commandOk s).archiveRoom (ArchiveItem.group g).length = true := hroom
    have hst : storageStep s = showArchive (archiveDone (.group g) { commandOk s with sto.moved := 0 }) := by
      rw [storageStep, if_neg (by simp [hr])]
      simp only [hi, hn, hs, he, hm, ArchiveItem.length, hroom]
      rw [if_pos (by simp), archiveStep, if_neg (by simp [hroom'])]
      exact if_pos (by simpa [ArchiveItem.length, stepBytes, commandOk, hm] using hl)
    refine answers_done (congrArg done hst) ?_
    rw [if_pos rfl, sto_settle, showArchive, State.setF_sto]
    exact ⟨rfl, rfl⟩
  | false =>
    have hst : storageStep s = stoCause 6 s := by
      rw [storageStep, if_neg (by simp [hr])]
      simp only [hi, hn, hs, he, hm, ArchiveItem.length, hroom, ho]
      simp [State.when]
    refine answers_done (congrArg done hst) ?_
    rw [if_neg (by decide), sto_settle]
    refine ⟨congrArg StoState.archive (State.causeOn_sto ..), ?_⟩
    rw [State.f_fieldOf, fieldOf_settle _ _ _ (by decide)]
    exact stoCause_shows 6 (by decide) s

/-- Request `k` shows that it has ended with code `err`. -/
def requestShown (k err : Nat) (s : State) : State :=
  ({ s with host.storageOrder := s.host.storageOrder.erase (48 + k) } : State).setB Fl.STO_REQSTAT_BUSY k false
    |>.setB Fl.STO_REQSTAT_DONE k true |>.setF Fl.STO_REQSTAT_ERR k err

section
variable {k : Nat} {s : State} {v : Word} (hk : k < 4)
include hk

/-- A failed request shows its code. -/
theorem requestEnd_fails {err : Nat} (he0 : err ≠ 0) (he : err < 8) (u : State) :
    let t := requestEnd k err u
    t.f Fl.STO_REQSTAT_BUSY k = 0 ∧ t.f Fl.STO_REQSTAT_DONE k = 1 ∧ t.f Fl.STO_REQSTAT_ERR k = err ∧
      bitOf (t.f Fl.STO_STAT_CAUSE) 1 = true := by
  let w := requestShown k err u
  have hend : requestEnd k err u = stoCause 1 (stoCause 0 w) := by
    simp [requestEnd, w, requestShown, State.when, he0]
  have hw : fieldOf w.regs Fl.STO_REQSTAT_BUSY k = 0 ∧ fieldOf w.regs Fl.STO_REQSTAT_DONE k = 1 ∧
      fieldOf w.regs Fl.STO_REQSTAT_ERR k = err := by
    refine ⟨?_, ?_, fieldOf_setF_fits _ _ _ _ (lt_of_lt_of_le hk (by decide)) (by decide) he⟩ <;>
      simp (disch := first | decide | (apply lt_of_lt_of_le hk; decide)) [w, requestShown]
  clear_value w
  dsimp only
  rw [hend]
  simp (disch := decide) only [State.f_fieldOf, fieldOf_stoCause]
  exact ⟨hw.1, hw.2.1, hw.2.2, stoCause_shows 1 (by decide) _⟩

/-- A request that names a count begins with its status cleared. -/
def requestRead (k : Nat) (v : Word) (s : State) : State := (plainWrite R.STO_REQCMD k v s).setReg R.STO_REQSTAT k 0

omit hk in
theorem fieldOf_requestRead {fl : Fld} (s : State) (h : R.STO_REQCMD.apart fl.reg = true)
    (hs : R.STO_REQSTAT.apart fl.reg = true) :
    fieldOf (requestRead k v s).regs fl k = fieldOf s.regs fl k := by
  rw [requestRead, fieldOf_setReg_apart _ _ _ _ _ _ hs, plainWrite, fieldOf_setReg_apart _ _ _ _ _ _ h]

theorem requestGo_reads (hb : s.f Fl.STO_REQSTAT_BUSY k = 0) (hv : v.getLsbD 31 = true) :
    requestGo k v s =
      if bitsOf v 0 9 = 0 || 256 < bitsOf v 0 9 || s.f Fl.STO_PASIZE_BLOCKS < s.f Fl.STO_REQBLK_BLOCK k + bitsOf v 0 9
        then requestEnd k 2 (requestRead k v s)
      else if !inSram (s.f Fl.STO_REQADDR_ADDR k * 32) (512 * bitsOf v 0 9)
        then requestEnd k 3 (requestRead k v s)
      else { (requestRead k v s).setB Fl.STO_REQSTAT_BUSY k true with
        host.storageOrder := s.host.storageOrder ++ [48 + k] } := by
  have hn : (plainWrite R.STO_REQCMD k v s).f Fl.STO_REQCMD_COUNT k = bitsOf v 0 9 :=
    fieldOf_plainWrite Fl.STO_REQCMD_COUNT k v s (lt_of_lt_of_le hk (by decide)) (by decide) (by decide)
  have hsize : (requestRead k v s).f Fl.STO_PASIZE_BLOCKS = s.f Fl.STO_PASIZE_BLOCKS := by
    simp (disch := decide) [State.f_fieldOf, requestRead, plainWrite]
  have hblk : (requestRead k v s).f Fl.STO_REQBLK_BLOCK k = s.f Fl.STO_REQBLK_BLOCK k :=
    fieldOf_requestRead s (by decide) (by decide)
  have haddr : (requestRead k v s).f Fl.STO_REQADDR_ADDR k = s.f Fl.STO_REQADDR_ADDR k :=
    fieldOf_requestRead s (by decide) (by decide)
  have hhost : (requestRead k v s).host = s.host := by simp [requestRead, plainWrite]
  have hv' : v.toNat.testBit 31 = true := hv
  rw [requestGo, if_neg (by omega), if_neg (by simp [State.b, hb])]
  dsimp only
  rw [if_neg (by simp [hv']), hn]
  rw [show (plainWrite R.STO_REQCMD k v s).setReg R.STO_REQSTAT k 0 = requestRead k v s from rfl, hsize, hblk, haddr]
  simp only [State.setB, State.setF_host, hhost]

theorem request_refused (hb : s.f Fl.STO_REQSTAT_BUSY k = 0) (hv : v.getLsbD 31 = true)
    (hn : bitsOf v 0 9 = 0 ∨ 256 < bitsOf v 0 9) :
    Answers (.stoRequest k v) s fun t => t.f Fl.STO_REQSTAT_BUSY k = 0 ∧ t.f Fl.STO_REQSTAT_DONE k = 1 ∧
      t.f Fl.STO_REQSTAT_ERR k = 2 ∧ bitOf (t.f Fl.STO_STAT_CAUSE) 1 = true := by
  refine answers_done (congrArg done ((requestGo_reads hk hb hv).trans (if_pos ?_))) ?_
  · rcases hn with h | h <;> simp [h]
  · have hend := requestEnd_fails hk (show 2 ≠ 0 by decide) (by decide) (requestRead k v s)
    simp (disch := decide) only [State.f_fieldOf, fieldOf_settle] at hend ⊢
    exact hend

theorem request_taken (hb : s.f Fl.STO_REQSTAT_BUSY k = 0) (hv : v.getLsbD 31 = true) (h1 : 1 ≤ bitsOf v 0 9)
    (h2 : bitsOf v 0 9 ≤ 256) (hr : s.f Fl.STO_REQBLK_BLOCK k + bitsOf v 0 9 ≤ s.f Fl.STO_PASIZE_BLOCKS)
    (hm : inSram (s.f Fl.STO_REQADDR_ADDR k * 32) (512 * bitsOf v 0 9) = true) :
    Effect (.stoRequest k v) s fun u => u.f Fl.STO_REQSTAT_BUSY k = 1 ∧
      u.host.storageOrder = s.host.storageOrder ++ [48 + k] := by
  refine effect_done (congrArg done ((requestGo_reads hk hb hv).trans ((if_neg ?_).trans (if_neg (by simp [hm])))))
    ⟨?_, rfl⟩
  · simp only [Bool.or_eq_true, decide_eq_true_eq]
    omega
  · exact fieldOf_setB_same _ _ _ _ (lt_of_lt_of_le hk (by decide)) (by decide) (by decide)

end

/-! ### The device (R613) -/

theorem fieldOf_when_stoCause {fl : Fld} (j i : Nat) (c : Bool) (s : State) (h : Fl.STO_STAT_CAUSE.apart fl = true)
    (hp : Fl.EVT_PEND_PEND.apart fl = true) : fieldOf (s.when c (stoCause j)).regs fl i = fieldOf s.regs fl i :=
  fieldOf_when (fun u => fieldOf_stoCause j i u h hp) s c

theorem showHealth_shows (p a b : Nat) (s : State) :
    let t := showHealth p a b s
    t.f Fl.STO_HEALTH_PREEOL = p % 256 ∧ t.f Fl.STO_HEALTH_ESTA = a % 256 ∧ t.f Fl.STO_HEALTH_ESTB = b % 256 := by
  dsimp only [showHealth]
  simp (disch := decide) only [State.f_fieldOf, fieldOf_when_stoCause, fieldOf_setF_apart, fieldOf_setF_same]
  exact ⟨rfl, rfl, rfl⟩

theorem fieldOf_showHealth {fl : Fld} (p a b i : Nat) (s : State)
    (h : (!regsIn [R.EVT_PEND, R.STO_HEALTH, R.STO_STAT] fl.reg.addr && decide (fl.reg.count ≤ 65536)) = true) :
    fieldOf (showHealth p a b s).regs fl i = fieldOf s.regs fl i :=
  fieldOf_onlyRegs (showHealth_writes (by decide) (by decide) (by decide) p a b s) i h

section
variable {s : State}

/-- A device found: its mode, size and areas are shown. -/
def deviceShown (mode blocks : Nat) (s : State) : State :=
  ({ s with sto.initFailed := 0, sto.failed := 0, sto.attempts := 0 } : State).setF Fl.STO_STAT_STATE 0 2
    |>.setF Fl.STO_STAT_MODE 0 mode |>.setB Fl.STO_STAT_SLOW 0 (decide (mode ≤ 2))
    |>.setF Fl.STO_CAP_BLOCKS 0 blocks |>.setF Fl.STO_PAREA_BLOCK 0 (blocks - 2097152)
    |>.setF Fl.STO_ARCHEND_BLOCK 0 (blocks - 2097152 - 1)

theorem emmcInit_found {mode blocks : Nat} (p a b : Nat) (hs : s.f Fl.STO_STAT_STATE ≤ 1)
    (hp : s.f Fl.SYS_PWRSTAT_STATE ≤ 1) (h1 : 1 ≤ mode) (h4 : mode ≤ 4) (hb : 0x400000 ≤ blocks)
    (hl : blocks < 2 ^ 32) : Answers (.emmcInit true mode blocks p a b) s fun t =>
      t.f Fl.STO_STAT_STATE = 2 ∧ t.f Fl.STO_STAT_MODE = mode ∧ t.f Fl.STO_CAP_BLOCKS = blocks ∧
        t.f Fl.STO_PAREA_BLOCK = blocks - 2097152 := by
  let w := deviceShown mode blocks s
  have he : emmcInit true mode blocks p a b s = showHealth p a b (w.when (decide (mode ≤ 2)) (stoCause 4)) := by
    rw [emmcInit, if_neg (by simp [hs, hp]), if_pos (by simp [h1, h4, hb])]
    rfl
  have hm : mode < 2 ^ Fl.STO_STAT_MODE.width := show mode < 8 by omega
  have hcap : blocks < 2 ^ Fl.STO_CAP_BLOCKS.width := hl
  have hpa : blocks - 2097152 < 2 ^ Fl.STO_PAREA_BLOCK.width := show blocks - 2097152 < 2 ^ 32 by omega
  have hw : fieldOf w.regs Fl.STO_STAT_STATE 0 = 2 ∧ fieldOf w.regs Fl.STO_STAT_MODE 0 = mode ∧
      fieldOf w.regs Fl.STO_CAP_BLOCKS 0 = blocks ∧ fieldOf w.regs Fl.STO_PAREA_BLOCK 0 = blocks - 2097152 := by
    simp (disch := first | decide | exact hm | exact hpa | exact hcap) only [w, deviceShown, fieldOf_setF_fits,
      fieldOf_setF_apart, fieldOf_setB_apart, and_self]
  clear_value w
  refine answers_done (congrArg done he) ?_
  simp (disch := decide) only [State.f_fieldOf, fieldOf_settle, showHealth, fieldOf_when_stoCause, fieldOf_setF_apart]
  exact hw

theorem emmcInit_missing {mode blocks : Nat} (p a b : Nat) (hs : s.f Fl.STO_STAT_STATE ≤ 1)
    (hp : s.f Fl.SYS_PWRSTAT_STATE ≤ 1) (hf : s.sto.initFailed = 2) :
    Answers (.emmcInit false mode blocks p a b) s fun t =>
      t.f Fl.STO_STAT_STATE = 0 ∧ bitOf (t.f Fl.STO_STAT_CAUSE) 7 = true := by
  let w := (s.setF Fl.STO_STAT_STATE 0 0).setF Fl.STO_STAT_MODE 0 0
  have hw : fieldOf w.regs Fl.STO_STAT_STATE 0 = 0 := by simp (disch := decide) [w]
  have he : emmcInit false mode blocks p a b s = stoCause 7 { w with sto.initFailed := 0 } := by
    rw [emmcInit, if_neg (by simp [hs, hp]), if_neg (by simp)]
    exact if_pos (by omega)
  clear_value w
  refine answers_done (congrArg done he) ?_
  simp (disch := decide) only [State.f_fieldOf, fieldOf_settle]
  refine ⟨?_, stoCause_shows 7 (by decide) _⟩
  rw [fieldOf_stoCause _ _ _ (by decide) (by decide)]
  exact hw

/-- A failed command that is tried again counts. -/
def commandRetried (s : State) : State :=
  { s.satF Fl.STO_CNT_RETRY 0 1 with sto.attempts := s.sto.attempts + 1 }

theorem commandFail_again (hs : s.f Fl.STO_STAT_STATE = 2) (ha : s.sto.attempts < 3) (hf : s.sto.failed < 2) :
    Answers .emmcCommandFail s fun t => t.sto.failed = s.sto.failed + 1 ∧ t.sto.attempts = s.sto.attempts + 1 ∧
      t.f Fl.STO_CNT_RETRY = min 65535 (s.f Fl.STO_CNT_RETRY + 1) := by
  let w := commandRetried s
  have hsto : w.sto = { s.sto with attempts := s.sto.attempts + 1 } := by simp [w, commandRetried, State.satF]
  have hcnt : fieldOf w.regs Fl.STO_CNT_RETRY 0 = min 65535 (s.f Fl.STO_CNT_RETRY + 1) := by
    have hm : satAdd 16 (s.f Fl.STO_CNT_RETRY) 1 = min 65535 (s.f Fl.STO_CNT_RETRY + 1) := by
      rw [satAdd]
      omega
    exact (fieldOf_setF_fits _ _ _ _ (by decide) (by decide) (show satAdd 16 (s.f Fl.STO_CNT_RETRY) 1 < 65536 by
      omega)).trans hm
  have he : commandFail s = { w with sto.failed := w.sto.failed + 1 } := by
    rw [commandFail, if_neg (by simp [hs]), if_pos ha]
    exact if_pos (by
      change w.sto.failed + 1 < 3
      rw [hsto]
      change s.sto.failed + 1 < 3
      omega)
  clear_value w
  refine answers_done (congrArg done he) ?_
  rw [sto_settle, State.f_fieldOf, fieldOf_settle _ _ _ (by decide)]
  exact ⟨(congrArg (fun x : StoState => x.failed + 1) hsto).trans rfl, (congrArg StoState.attempts hsto).trans rfl,
    hcnt⟩

theorem emmcRestart_state (s : State) : fieldOf (emmcRestart s).regs Fl.STO_STAT_STATE 0 = 1 := by
  change fieldOf ((s.setF Fl.STO_STAT_STATE 0 1).setF Fl.STO_STAT_MODE 0 0).regs _ _ = 1
  simp (disch := decide)

theorem fieldOf_emmcRestart_cause (s : State) :
    fieldOf (emmcRestart s).regs Fl.STO_STAT_CAUSE 0 = fieldOf s.regs Fl.STO_STAT_CAUSE 0 := by
  change fieldOf ((s.setF Fl.STO_STAT_STATE 0 1).setF Fl.STO_STAT_MODE 0 0).regs _ _ = _
  simp (disch := decide)

theorem commandFail_third (hs : s.f Fl.STO_STAT_STATE = 2) (ha : s.sto.attempts < 3) (hf : 2 ≤ s.sto.failed) :
    Answers .emmcCommandFail s fun t => t.f Fl.STO_STAT_STATE = 1 ∧ bitOf (t.f Fl.STO_STAT_CAUSE) 2 = true := by
  let w := commandRetried s
  have hsto : w.sto = { s.sto with attempts := s.sto.attempts + 1 } := by simp [w, commandRetried, State.satF]
  have he : commandFail s = { emmcRestart (stoCause 2 (w.satF Fl.STO_CNT_REINIT 0 1)) with
      sto.attempts := w.sto.attempts } := by
    rw [commandFail, if_neg (by simp [hs]), if_pos ha]
    exact if_neg (by
      change ¬w.sto.failed + 1 < 3
      rw [hsto]
      change ¬s.sto.failed + 1 < 3
      omega)
  clear_value w
  refine answers_done (congrArg done he) ?_
  simp (disch := decide) only [State.f_fieldOf, fieldOf_settle, emmcRestart_state, fieldOf_emmcRestart_cause]
  exact ⟨trivial, stoCause_shows 2 (by decide) _⟩

theorem emmcRetry_starts (hs : s.f Fl.STO_STAT_STATE = 0) : Answers .emmcRetry s fun t =>
    t.f Fl.STO_STAT_STATE = 1 := by
  refine answers_done (congrArg done (if_pos hs)) ?_
  rw [State.f_fieldOf, fieldOf_settle _ _ _ (by decide), emmcRestart_state]

theorem emmcHealth_shows (p a b : Nat) (hr : s.stoReady = true) : Answers (.emmcHealth p a b) s fun t =>
    t.f Fl.STO_HEALTH_PREEOL = p % 256 ∧ t.f Fl.STO_HEALTH_ESTA = a % 256 ∧ t.f Fl.STO_HEALTH_ESTB = b % 256 := by
  refine answers_done (congrArg done (if_pos hr)) ?_
  have hshow := showHealth_shows p a b s
  simp (disch := decide) only [State.f_fieldOf, fieldOf_settle] at hshow ⊢
  exact hshow

end

/-- Settles O52: the ends of each operation in its slot, and the storage engine's steps, requests and failures. -/
theorem hostOperations : Obligations.HostOperations := by
  intro s
  refine ⟨fun k o h he => ⟨nop_ends h he, install_refused h he, install_aborted h he, export_starts h he,
      compact_early h he, compact_starts h he, keygen_otherKey h he, keygen_aborted h he, keygen_answers h he,
      attest_small h he, fun env => attest_delivers h he, abort_nothing h he, fun j x => abort_marks h he⟩,
    fun g => storageStep_archives, fun k v hk hb hv => ⟨request_refused hk hb hv, request_taken hk hb hv⟩,
    fun mode blocks p a b hs hp => ⟨emmcInit_found p a b hs hp, emmcInit_missing p a b hs hp⟩,
    fun hs ha => ⟨commandFail_again hs ha, commandFail_third hs ha⟩, emmcRetry_starts,
      fun p a b => emmcHealth_shows p a b⟩

end Sys2Proof.Machine

/-! ## The CAN controllers: what their shared operations leave (R544 to R556) -/

namespace Sys2Proof.Machine

set_option Elab.async false

theorem State.can_member (s : State) (n : Nat) : s.can n = memberOf s.cans n {} := rfl

theorem can_of_cans {s t : State} (h : t.cans = s.cans) (n : Nat) : t.can n = s.can n := by
  rw [State.can, h]
  rfl

theorem State.setCan_cans (s : State) (n : Nat) (f : CanCtl → CanCtl) :
    (s.setCan n f).cans = s.cans.setIfInBounds n (f (s.can n)) := by
  unfold State.setCan
  dsimp only
  split <;> simp [State.setB]

theorem can_settle (s : State) (n : Nat) : s.settle.can n = s.can n :=
  can_of_cans (State.cans_of_without (State.settle_settled _) rfl) n

theorem can_setCan {n : Nat} (hn : n < 8) (s : State) (f : CanCtl → CanCtl) : (s.setCan n f).can n = f (s.can n) := by
  rw [State.can_member, State.setCan_cans, memberOf_set_same _ _ _ hn]

theorem can_canCause (j n m : Nat) (s : State) : (canCause j n s).can m = s.can m :=
  can_of_cans (State.causeOn_cans ..) m

theorem can_canSub (b n m : Nat) (s : State) : (canSub b n s).can m = s.can m :=
  (can_canCause ..).trans (can_of_cans (State.setF_cans ..) m)

theorem can_when_canSub (b n m : Nat) (s : State) (c : Bool) : (s.when c (canSub b n)).can m = s.can m := by
  unfold State.when
  split
  · exact can_canSub ..
  · rfl

/-! ### Fields that the queue's operations leave -/

/-- The queue's registers, the causes and the pending events hold nothing of `fl`. -/
def canQuiet (fl : Fld) : Bool :=
  !regsIn [R.CAN_TXEVA, R.CAN_TXEVB, R.CAN_TXSTAT] fl.reg.addr && decide (fl.reg.count ≤ 65536) &&
    Fl.CAN_STAT_CAUSE.apart fl && Fl.CAN_STAT_SUBCAUSE.apart fl && Fl.EVT_PEND_PEND.apart fl

theorem fieldOf_setCan {fl : Fld} (n i : Nat) (f : CanCtl → CanCtl) (s : State)
    (h : (!regsIn [R.CAN_TXEVA, R.CAN_TXEVB, R.CAN_TXSTAT] fl.reg.addr && decide (fl.reg.count ≤ 65536)) = true) :
    fieldOf (s.setCan n f).regs fl i = fieldOf s.regs fl i :=
  fieldOf_onlyRegs (State.setCan_writes (by decide) (by decide) (by decide) rfl s n f) i h

theorem regOf_setCan {r : Rg} (n i : Nat) (f : CanCtl → CanCtl) (s : State)
    (h : (!regsIn [R.CAN_TXEVA, R.CAN_TXEVB, R.CAN_TXSTAT] r.addr && decide (r.count ≤ 65536)) = true) :
    regOf (s.setCan n f).regs r i = regOf s.regs r i :=
  regOf_onlyRegs (State.setCan_writes (by decide) (by decide) (by decide) rfl s n f) i h

section
variable {fl : Fld} (h : canQuiet fl = true)
include h

theorem canQuiet_apart : (!regsIn [R.CAN_TXEVA, R.CAN_TXEVB, R.CAN_TXSTAT] fl.reg.addr &&
    decide (fl.reg.count ≤ 65536)) = true ∧ Fl.CAN_STAT_CAUSE.apart fl = true ∧
      Fl.CAN_STAT_SUBCAUSE.apart fl = true ∧ Fl.EVT_PEND_PEND.apart fl = true := by
  simp only [canQuiet, Bool.and_eq_true] at h ⊢
  exact ⟨⟨h.1.1.1.1, h.1.1.1.2⟩, h.1.1.2, h.1.2, h.2⟩

theorem quiet_setCan (n i : Nat) (f : CanCtl → CanCtl) (s : State) :
    fieldOf (s.setCan n f).regs fl i = fieldOf s.regs fl i := fieldOf_setCan n i f s (canQuiet_apart h).1

theorem quiet_canCause (j n i : Nat) (s : State) : fieldOf (canCause j n s).regs fl i = fieldOf s.regs fl i :=
  fieldOf_causeOn _ _ _ _ _ _ _ _ (canQuiet_apart h).2.1 (canQuiet_apart h).2.2.2

theorem quiet_canSub (b n i : Nat) (s : State) : fieldOf (canSub b n s).regs fl i = fieldOf s.regs fl i :=
  (quiet_canCause h ..).trans (fieldOf_setFBit_apart _ _ _ _ _ _ _ (canQuiet_apart h).2.2.1)

theorem quiet_canEvent (n i status : Nat) (e : CanEntry) (t : Word) (s : State) :
    fieldOf (canEvent n e t status s).regs fl i = fieldOf s.regs fl i := by
  simp only [canEvent]
  split
  · rw [quiet_canSub h, quiet_canCause h]
  · rw [quiet_canCause h, quiet_setCan h]

theorem quiet_canPop (n i status : Nat) (s : State) :
    fieldOf (canPop n status s).regs fl i = fieldOf s.regs fl i := by
  unfold canPop
  split
  · rfl
  · dsimp only
    rw [quiet_canEvent h, quiet_setCan h]
    split <;> rfl

theorem quiet_canNext (n i : Nat) (s : State) : fieldOf (canNext n s).regs fl i = fieldOf s.regs fl i := by
  unfold canNext
  split
  · rfl
  · split
    · rfl
    · dsimp only
      split
      · rfl
      · rw [fieldOf_when (fun u => quiet_canSub h 4 n i u), quiet_setCan h]

end

/-! ### The queue -/

/-- Only the event FIFO differs. -/
def CanCtl.sameButEvents (c d : CanCtl) : Prop := d = { c with events := d.events }

theorem canEvent_can {n : Nat} (hn : n < 8) (e : CanEntry) (t : Word) (status : Nat) (s : State) :
    (s.can n).sameButEvents ((canEvent n e t status s).can n) := by
  simp only [canEvent]
  split
  · rw [can_canSub, can_canCause]
    rfl
  · rw [can_canCause, can_setCan hn]
    rfl

/-- The head leaves the queue, and the wire is free. -/
theorem canPop_can {n : Nat} (hn : n < 8) (status : Nat) {s : State} {e : CanEntry} {rest : List CanEntry}
    (hq : (s.can n).queue = e :: rest) :
    ({ s.can n with queue := rest, wire := none } : CanCtl).sameButEvents ((canPop n status s).can n) := by
  obtain ⟨t, u, hu, hp⟩ : ∃ (t : Word) (u : State), u.can n = s.can n ∧ canPop n status s =
      canEvent n e t status (u.setCan n fun c => { c with queue := rest, wire := none }) := by
    unfold canPop
    rw [hq]
    dsimp only
    split
    · exact ⟨_, s, rfl, rfl⟩
    · exact ⟨_, s.draw.2, rfl, rfl⟩
  have he := canEvent_can hn e t status (u.setCan n fun c => { c with queue := rest, wire := none })
  rwa [can_setCan hn, hu, ← hp] at he

/-- Starting the head leaves every entry but for its LATE mark, and everything but queue and wire. -/
theorem canNext_can {n : Nat} (hn : n < 8) (s : State) : ∃ q w,
  (canNext n s).can n = { s.can n with queue := q, wire := w } ∧
    q.map CanEntry.hdr = (s.can n).queue.map CanEntry.hdr := by
  unfold canNext
  split
  · exact ⟨_, _, rfl, rfl⟩
  · split
    · exact ⟨_, _, rfl, rfl⟩
    · next e rest hq =>
      dsimp only
      split
      · exact ⟨_, _, rfl, rfl⟩
      · rw [can_when_canSub, can_setCan hn]
        exact ⟨_, _, rfl, by simp [hq]⟩

theorem queue_canNext {n : Nat} (hn : n < 8) (s : State) :
    ((canNext n s).can n).queue.map CanEntry.hdr = (s.can n).queue.map CanEntry.hdr := by
  obtain ⟨q, w, hc, hq⟩ := canNext_can hn s
  rw [hc, hq]

theorem length_canNext {n : Nat} (hn : n < 8) (s : State) :
    ((canNext n s).can n).queue.length = (s.can n).queue.length := by
  simpa using congrArg List.length (queue_canNext hn s)

/-! ### Causes that stay shown -/

/-- Controller `n` shows cause `k`. -/
def CanShows (n k : Nat) (s : State) : Prop := bitOf (s.f Fl.CAN_STAT_CAUSE n) k = true

section
variable {n k : Nat} (hn : n < 8) (hk : k < 8) {s : State}

theorem canShows_of_field {t : State} (h : CanShows n k s)
    (he : fieldOf t.regs Fl.CAN_STAT_CAUSE n = fieldOf s.regs Fl.CAN_STAT_CAUSE n) : CanShows n k t := by
  rw [CanShows, State.f_fieldOf, he]
  exact h

include hn hk

theorem canShows_canCause (s : State) : CanShows n k (canCause k n s) :=
  bitOf_causeOn _ _ _ _ _ _ (lt_of_lt_of_le hn (by decide)) (by decide) hk (by decide)

theorem CanShows.canCause (h : CanShows n k s) (j : Nat) : CanShows n k (canCause j n s) :=
  bitOf_causeOn_keeps (lt_of_lt_of_le hn (by decide)) (lt_of_lt_of_le hn (by decide)) (by decide) hk (by decide) h

theorem CanShows.canSub (h : CanShows n k s) (b : Nat) : CanShows n k (canSub b n s) :=
  CanShows.canCause hn hk (canShows_of_field h (fieldOf_setFBit_apart _ _ _ _ _ _ _ (by decide))) _

theorem CanShows.setCan (h : CanShows n k s) (f : CanCtl → CanCtl) : CanShows n k (s.setCan n f) :=
  canShows_of_field h (fieldOf_setCan _ _ _ _ (by decide))

theorem CanShows.when (h : CanShows n k s) {f : State → State} (hf : CanShows n k (f s)) (c : Bool) :
    CanShows n k (s.when c f) := by
  unfold State.when
  split
  · exact hf
  · exact h

theorem CanShows.canNext (h : CanShows n k s) : CanShows n k (canNext n s) := by
  unfold Machine.canNext
  split
  · exact h
  · split
    · exact h
    · dsimp only
      split
      · exact h
      · have hset := CanShows.setCan hn hk h
        exact CanShows.when hn hk (hset _) (CanShows.canSub hn hk (hset _) 4) _

end

end Sys2Proof.Machine

/-! ## The CAN controllers (R544 to R556) -/

namespace Sys2Proof.Machine

set_option Elab.async false

/-! ### Counters, transmitter delay and the receive ring -/

theorem can_when_canCause (j n m : Nat) (s : State) (c : Bool) : (s.when c (canCause j n)).can m = s.can m := by
  unfold State.when
  split
  · exact can_canCause ..
  · rfl

theorem fieldOf_when_canCause {fl : Fld} (h : canQuiet fl = true) (j n i : Nat) (s : State) (c : Bool) :
    fieldOf (s.when c (canCause j n)).regs fl i = fieldOf s.regs fl i :=
  fieldOf_when (fun u => quiet_canCause h j n i u) s c

/-- The counters as written, with the fault confinement state that follows. -/
def countersShown (n tec rec_ : Nat) (s : State) : State :=
  s.setF Fl.CAN_ERR_TEC n (min 255 tec) |>.setF Fl.CAN_ERR_REC n (min 255 rec_)
    |>.setF Fl.CAN_STAT_FCS n (if 255 < tec then 2 else if 127 < tec || 127 < rec_ then 1 else 0)

/-- Bus-off frees the wire. -/
def busOff (n : Nat) (s : State) : State :=
  canCause 5 n (s.setCan n fun c => { c with recovering := s.b Fl.CAN_CTL_AUTOREC n, wire := none })

/-- Below a count of 256 the counters only raise causes. -/
theorem canCounters_eq (n tec rec_ : Nat) (s : State) : ∃ c d e, (tec ≤ 255 → e = false) ∧ canCounters n tec rec_ s =
    (((countersShown n tec rec_ s).when c (canCause 3 n)).when d (canCause 4 n)).when e (busOff n) := by
  refine ⟨_, _, _, fun ht => ?_, rfl⟩
  have hf : ∀ b : Bool, ((if b then 1 else 0 : Nat) == 2) = false := by decide
  rw [if_neg (by omega), hf]
  rfl

theorem State.when_false (f : State → State) (s : State) : s.when false f = s := rfl

theorem State.when_true (f : State → State) (s : State) : s.when true f = f s := rfl

theorem can_countersShown (n tec rec_ m : Nat) (s : State) : (countersShown n tec rec_ s).can m = s.can m :=
  can_of_cans (by simp [countersShown]) m

theorem canCounters_can {n tec : Nat} (rec_ : Nat) (ht : tec ≤ 255) (s : State) :
    (canCounters n tec rec_ s).can n = s.can n := by
  obtain ⟨c, d, e, he, h⟩ := canCounters_eq n tec rec_ s
  rw [h, he ht, State.when_false]
  exact (can_when_canCause ..).trans ((can_when_canCause ..).trans (can_countersShown ..))

theorem busOff_queue {n : Nat} (hn : n < 8) (s : State) : ((busOff n s).can n).queue = (s.can n).queue := by
  rw [busOff, can_canCause, can_setCan hn]

theorem when_busOff_queue {n : Nat} (hn : n < 8) (s : State) (c : Bool) :
    ((s.when c (busOff n)).can n).queue = (s.can n).queue := by
  cases c with
  | false => rw [State.when_false]
  | true => rw [State.when_true, busOff_queue hn]

theorem canCounters_queue {n : Nat} (hn : n < 8) (tec rec_ : Nat) (s : State) :
    ((canCounters n tec rec_ s).can n).queue = (s.can n).queue := by
  obtain ⟨c, d, e, -, h⟩ := canCounters_eq n tec rec_ s
  rw [h, when_busOff_queue hn, can_when_canCause, can_when_canCause, can_countersShown]

/-- Below a count of 256 the fields besides the counters and FCS are left. -/
theorem fieldOf_canCounters {fl : Fld} {n tec : Nat} (rec_ i : Nat) (ht : tec ≤ 255) (s : State)
    (h : canQuiet fl = true) :
    fieldOf (canCounters n tec rec_ s).regs fl i = fieldOf (countersShown n tec rec_ s).regs fl i := by
  obtain ⟨c, d, e, he, heq⟩ := canCounters_eq n tec rec_ s
  rw [heq, he ht, State.when_false]
  exact (fieldOf_when_canCause h ..).trans (fieldOf_when_canCause h ..)

section
variable {n k : Nat} (hn : n < 8) (hk : k < 8) {s : State} (h : CanShows n k s)
include hn hk h

theorem CanShows.when_canCause (j : Nat) (c : Bool) : CanShows n k (s.when c (Machine.canCause j n)) :=
  CanShows.when hn hk h (CanShows.canCause hn hk h j) c

theorem CanShows.busOff : CanShows n k (busOff n s) := CanShows.canCause hn hk (CanShows.setCan hn hk h _) 5

theorem CanShows.canCounters (tec rec_ : Nat) : CanShows n k (canCounters n tec rec_ s) := by
  obtain ⟨c, d, e, -, heq⟩ := canCounters_eq n tec rec_ s
  have hset : CanShows n k (countersShown n tec rec_ s) :=
    canShows_of_field h (by simp (disch := decide) [countersShown])
  have hw := CanShows.when_canCause hn hk (CanShows.when_canCause hn hk hset 3 c) 4 d
  rw [heq]
  exact CanShows.when hn hk hw (CanShows.busOff hn hk hw) e

theorem CanShows.canTdc (x : CanFrame) : CanShows n k (canTdc n x s) := by
  unfold Machine.canTdc
  split
  · exact h
  · have hset : CanShows n k (s.draw.2.setF Fl.CAN_TDC_TDCV n (min 127 s.draw.1)) :=
      canShows_of_field h (fieldOf_setF_apart s.draw.2 _ _ _ _ _ (by decide))
    exact CanShows.when hn hk hset (CanShows.canSub hn hk hset 2) _

end

theorem fieldOf_each {f : Nat → State → State} {fl : Fld} {i : Nat}
    (h : ∀ j s, fieldOf (f j s).regs fl i = fieldOf s.regs fl i) (s : State) (k : Nat) :
    fieldOf (s.each k f).regs fl i = fieldOf s.regs fl i := by
  unfold State.each
  induction List.range k generalizing s with
  | nil => rfl
  | cons j l ih => exact (ih (f j s)).trans (h j s)

theorem canAccept_state (n : Nat) (x : CanFrame) (s : State) :
    (canAccept n x s).2.regs = s.regs ∧ (canAccept n x s).2.cans = s.cans := by
  unfold canAccept
  split <;> exact ⟨rfl, rfl⟩

/-- Entry `i` of the receive ring of controller `n` takes the frame `x` of filter `f`. -/
def canRinged (n f i : Nat) (x : CanFrame) (s : State) : State :=
  let put (w v : Nat) (s : State) : State := s.setReg R.CAN_RXRING ((n * 32 + i) * 20 + w) (BitVec.ofNat 32 v)
  let s := put 0 (x.id % 2 ^ 29 + 2 ^ 29 * b2n x.ide + 2 ^ 30 * b2n x.rtr + 2 ^ 31 * b2n x.fdf) s
  let s := put 1 (x.dlc % 16 + 16 * b2n x.brs + 32 * b2n x.esi + 256 * f) s
  let s := put 3 0 (put 2 s.eventTime.toNat s)
  let s := s.each 16 fun w s => put (4 + w) (leNat ((x.data.drop (4 * w)).take 4)) s
  s.setCan n fun c => { c with rxNext := (i + 1) % 32 }

theorem canStore_eq (n : Nat) (x : CanFrame) (s : State) : canStore n x s =
    match (canAccept n x s).1 with
    | none => s
    | some f =>
      let u := (canAccept n x s).2
      if 32 ≤ u.f Fl.CAN_RXSTAT_COUNT n then canCause 2 n (u.satF Fl.CAN_ERR_RXLOST n 1)
      else canCause 1 n ((canRinged n f (u.can n).rxNext x u).setF Fl.CAN_RXSTAT_COUNT n
        (u.f Fl.CAN_RXSTAT_COUNT n + 1)) := rfl

theorem fieldOf_canRinged_cause (n f i m : Nat) (x : CanFrame) (s : State) :
    fieldOf (canRinged n f i x s).regs Fl.CAN_STAT_CAUSE m = fieldOf s.regs Fl.CAN_STAT_CAUSE m := by
  dsimp only [canRinged]
  rw [fieldOf_setCan _ _ _ _ (by decide), fieldOf_each fun j u => fieldOf_setReg_apart _ _ _ _ _ _ (by decide)]
  simp (disch := decide) only [fieldOf_setReg_apart]

theorem cans_each {f : Nat → State → State} (h : ∀ j s, (f j s).cans = s.cans) (s : State) (k : Nat) :
    (s.each k f).cans = s.cans := by
  unfold State.each
  induction List.range k generalizing s with
  | nil => rfl
  | cons j l ih => exact (ih (f j s)).trans (h j s)

theorem canRinged_can {n : Nat} (hn : n < 8) (f i : Nat) (x : CanFrame) (s : State) :
    (canRinged n f i x s).can n = { s.can n with rxNext := (i + 1) % 32 } := by
  dsimp only [canRinged]
  rw [can_setCan hn]
  have hu : ∀ u : State, u.can n = s.can n → { u.can n with rxNext := (i + 1) % 32 } =
      { s.can n with rxNext := (i + 1) % 32 } := fun u h => by rw [h]
  refine hu _ (can_of_cans ((cans_each (fun j u => State.setReg_cans ..) _ _).trans ?_) n)
  simp only [State.setReg_cans]

theorem canStore_queue {n : Nat} (hn : n < 8) (x : CanFrame) (s : State) :
    ((canStore n x s).can n).queue = (s.can n).queue := by
  have hacc : (canAccept n x s).2.can n = s.can n := can_of_cans (canAccept_state n x s).2 n
  rw [canStore_eq]
  split
  · rfl
  · dsimp only
    split
    · rw [can_canCause, State.satF, can_of_cans (State.setF_cans ..), hacc]
    · rw [can_canCause, can_of_cans (State.setF_cans ..), canRinged_can hn, hacc]

theorem CanShows.canStore {n k : Nat} (hn : n < 8) (hk : k < 8) {s : State} (h : CanShows n k s) (x : CanFrame) :
    CanShows n k (canStore n x s) := by
  have hacc : CanShows n k (canAccept n x s).2 :=
    canShows_of_field h (congrArg (fun l => fieldOf l Fl.CAN_STAT_CAUSE n) (canAccept_state n x s).1)
  rw [canStore_eq]
  split
  · exact h
  · dsimp only
    split
    · exact CanShows.canCause hn hk (canShows_of_field hacc (fieldOf_satF_apart _ _ _ _ _ _ (by decide))) 2
    · refine CanShows.canCause hn hk (canShows_of_field hacc ?_) 1
      rw [fieldOf_setF_apart _ _ _ _ _ _ (by decide), fieldOf_canRinged_cause]

end Sys2Proof.Machine

/-! ## Commands of the CAN controllers (R544 to R556) -/

namespace Sys2Proof.Machine

set_option Elab.async false

/-! ### Start, stop and recovery -/

section
variable {n : Nat} {s : State} (hn : n < 8)
include hn

theorem canStart_shows (s : State) : (canStart n s).f Fl.CAN_STAT_STATE n = 1 ∧ ((canStart n s).can n).joined = false ∧
    (canStart n s).f Fl.CAN_CTL_EN n = s.f Fl.CAN_CTL_EN n := by
  simp only [canStart, State.f_fieldOf]
  rw [can_setCan hn, fieldOf_setCan _ _ _ _ (by decide), fieldOf_setCan _ _ _ _ (by decide)]
  exact ⟨fieldOf_setF_fits _ _ _ _ (lt_of_lt_of_le hn (by decide)) (by decide) (by decide), rfl,
    fieldOf_setF_apart _ _ _ _ _ _ (by decide)⟩

theorem canEnable_starts (h : s.f Fl.CAN_STAT_STATE n = 0) (hp : s.f Fl.SYS_PWRSTAT_STATE ≤ 1) :
    Answers (.canEnable n) s fun t =>
      t.f Fl.CAN_CTL_EN n = 1 ∧ t.f Fl.CAN_STAT_STATE n = 1 ∧ (t.can n).joined = false := by
  let u := s.setB Fl.CAN_CTL_EN n true
  have hst : u.canState n = 0 := (fieldOf_setB_apart _ _ _ _ _ _ (by decide)).trans h
  have hpw : u.f Fl.SYS_PWRSTAT_STATE = s.f Fl.SYS_PWRSTAT_STATE := fieldOf_setB_apart _ _ _ _ _ _ (by decide)
  have hen : u.f Fl.CAN_CTL_EN n = 1 := fieldOf_setB_same _ _ _ _ (lt_of_lt_of_le hn (by decide)) (by decide)
    (by decide)
  have he : canEnable n s = canStart n u := by
    rw [canEnable, if_neg (by omega)]
    simp only [show (s.setB Fl.CAN_CTL_EN n true).canState n = 0 from hst]
    exact if_neg (show ¬1 < u.f Fl.SYS_PWRSTAT_STATE by omega)
  clear_value u
  obtain ⟨h1, h2, h3⟩ := canStart_shows hn u
  refine answers_done (congrArg done he) ?_
  rw [can_settle]
  simp (disch := decide) only [State.f_fieldOf, fieldOf_settle] at h1 h3 hen ⊢
  exact ⟨h3.trans hen, h1, h2⟩

theorem canDisable_stops (h : s.f Fl.CAN_STAT_STATE n = 1) : Answers (.canDisable n) s fun t =>
    t.f Fl.CAN_CTL_EN n = 0 ∧ t.f Fl.CAN_STAT_STATE n = 2 := by
  have hst : (s.setB Fl.CAN_CTL_EN n false).canState n = 1 := (fieldOf_setB_apart _ _ _ _ _ _ (by decide)).trans h
  have he : canDisable n s = (s.setB Fl.CAN_CTL_EN n false).setF Fl.CAN_STAT_STATE n 2 := by
    rw [canDisable, if_neg (by omega)]
    simp only [hst]
  refine answers_done (congrArg done he) ?_
  simp (disch := first | decide | (apply lt_of_lt_of_le hn; decide)) [State.f_fieldOf]

/-- A stopped queue is taken off entry by entry. -/
theorem canPops_empty (m : Nat) (s : State) (h : (s.can n).queue.length = m) :
    ((s.each m fun _ => canPop n 3).can n).queue = [] ∧
      ∀ fl, canQuiet fl = true → ∀ i, fieldOf (s.each m fun _ => canPop n 3).regs fl i = fieldOf s.regs fl i := by
  refine ⟨?_, fun fl hq i => fieldOf_each (fun j u => quiet_canPop hq n i 3 u) s m⟩
  unfold State.each
  have hl : (List.range m).length = (s.can n).queue.length := by simp [h]
  generalize List.range m = l at hl
  induction l generalizing s m with
  | nil => exact List.eq_nil_of_length_eq_zero hl.symm
  | cons j l ih =>
    cases hq : (s.can n).queue with
    | nil => simp [hq] at hl
    | cons e rest =>
      have hrest : ((canPop n 3 s).can n).queue = rest := by rw [canPop_can hn 3 hq]
      refine ih rest.length (canPop n 3 s) (by rw [hrest]) ?_
      simpa [hrest, hq] using hl

theorem canStop_ends (h : s.f Fl.CAN_STAT_STATE n = 2) : Answers (.canStopComplete n) s fun t =>
    t.f Fl.CAN_STAT_STATE n = 0 ∧ (t.can n).queue = [] ∧
      t.f Fl.CAN_RXSTAT_COUNT n = s.f Fl.CAN_RXSTAT_COUNT n := by
  let u := s.each (s.can n).queue.length fun _ => canPop n 3
  obtain ⟨hq, hf⟩ := canPops_empty hn _ s rfl
  have hu : (u.can n).queue = [] := hq
  have huf : ∀ fl, canQuiet fl = true → ∀ i, fieldOf u.regs fl i = fieldOf s.regs fl i := hf
  have hst : u.canState n = 2 := (huf _ (by decide) n).trans h
  have he : canStop n s = (u.setF Fl.CAN_STAT_STATE n 0).setCan n fun c =>
      { c with joined := false, wire := none, search := none, noRate := false } := by
    rw [canStop, if_neg (by simp [State.canState, h]; omega)]
    change (if u.canState n = 3 then _ else _) = _
    exact if_neg (by omega)
  clear_value u
  refine answers_done (congrArg done he) ?_
  rw [can_settle, can_setCan hn]
  simp (disch := decide) only [State.f_fieldOf, fieldOf_settle, fieldOf_setCan, fieldOf_setF_apart, huf]
  exact ⟨fieldOf_setF_fits _ _ _ _ (lt_of_lt_of_le hn (by decide)) (by decide) (by decide),
    (congrArg CanCtl.queue (can_of_cans (State.setF_cans ..) n)).trans hu, trivial⟩

theorem canJoin_joins (h : s.f Fl.CAN_STAT_STATE n = 1) : Answers (.canBusJoin n) s fun t => (t.can n).joined = true
  := by
  refine answers_done (congrArg done (if_neg (by simp [State.canState, h]; omega))) ?_
  obtain ⟨q, w, hc, -⟩ := canNext_can hn (s.setCan n fun c => { c with joined := true })
  rw [can_settle, hc, can_setCan hn]

theorem canRecover_begins (h : s.f Fl.CAN_STAT_FCS n = 2) : Answers (.canRecover n) s fun t =>
    (t.can n).recovering = true := by
  refine answers_done (congrArg done (if_pos h)) ?_
  rw [can_settle, can_setCan hn]

theorem canRecovered_clears (h : s.f Fl.CAN_STAT_FCS n = 2) (hr : (s.can n).recovering = true) :
    Answers (.canRecoveryComplete n) s fun t =>
      t.f Fl.CAN_STAT_FCS n = 0 ∧ t.f Fl.CAN_ERR_TEC n = 0 ∧ t.f Fl.CAN_ERR_REC n = 0 := by
  refine answers_done (congrArg done (if_neg (by simp [h, hr]))) ?_
  simp (disch := first | decide | (apply lt_of_lt_of_le hn; decide)) only [State.f_fieldOf, fieldOf_settle,
    quiet_canNext, fieldOf_setCan, fieldOf_setF_fits, fieldOf_setF_apart, and_self]

/-! ### Aborts and the queue -/

theorem canAbort_pops {e : CanEntry} {rest : List CanEntry} (hq : (s.can n).queue = e :: rest)
    (hw : (s.can n).wire = none) : Answers (.canAbort n) s fun t => (t.can n).queue.length = rest.length := by
  have he : canAbort n s = canNext n (canPop n 3 s) := by
    rw [canAbort, hq, hw]
  refine answers_done (congrArg done he) ?_
  rw [can_settle, length_canNext hn, canPop_can hn 3 hq]

theorem canAbort_marks {e : CanEntry} {rest : List CanEntry} {w : Word} (hq : (s.can n).queue = e :: rest)
    (hw : (s.can n).wire = some w) : Answers (.canAbort n) s fun t =>
      (t.can n).queue = { e with aborting := true } :: rest := by
  have he : canAbort n s = s.setCan n fun c => { c with queue := { e with aborting := true } :: rest } := by
    rw [canAbort, hq, hw]
  refine answers_done (congrArg done he) ?_
  rw [can_settle, can_setCan hn]

/-- The status of every dropped entry goes to the event FIFO. -/
theorem dropped_queue (l : List CanEntry) (s : State) :
    ((s.eachOf l fun e s => canEvent n e (noSof s).1 3 (noSof s).2).can n).queue = (s.can n).queue := by
  unfold State.eachOf
  induction l generalizing s with
  | nil => rfl
  | cons e l ih =>
    refine (ih _).trans ?_
    rw [canEvent_can hn e]
    rfl

theorem canAbortAll_marks {e : CanEntry} {rest : List CanEntry} {w : Word} (hq : (s.can n).queue = e :: rest)
    (hw : (s.can n).wire = some w) : Answers (.canAbortAll n) s fun t =>
      (t.can n).queue = [{ e with aborting := true }] := by
  have he : canAbortAll n s = (s.setCan n fun c => { c with queue := [{ e with aborting := true }] }).eachOf rest
      fun e s => canEvent n e (noSof s).1 3 (noSof s).2 := by
    rw [canAbortAll, hq, hw]
  refine answers_done (congrArg done he) ?_
  rw [can_settle, dropped_queue hn, can_setCan hn]

theorem canAbortAll_empties (hw : (s.can n).wire = none) : Answers (.canAbortAll n) s fun t =>
    (t.can n).queue = [] := by
  cases hq : (s.can n).queue with
  | nil =>
    refine answers_done (congrArg done (by rw [canAbortAll, hq] : canAbortAll n s = s)) ?_
    rw [can_settle, hq]
  | cons e rest =>
    have he : canAbortAll n s = (s.setCan n fun c => { c with queue := [] }).eachOf (e :: rest)
        fun e s => canEvent n e (noSof s).1 3 (noSof s).2 := by
      rw [canAbortAll, hq, hw]
    refine answers_done (congrArg done he) ?_
    rw [can_settle, dropped_queue hn, can_setCan hn]

/-- The frame at the head has been sent: its entry leaves the queue, and the counter goes down. -/
def sentCounted (n : Nat) (x : CanFrame) (s : State) : State :=
  let u := canPop n 0 (canTdc n x s)
  canCounters n (u.f Fl.CAN_ERR_TEC n - 1) (u.f Fl.CAN_ERR_REC n) u

omit hn in
theorem canTdc_can (x : CanFrame) (m : Nat) (s : State) : (canTdc n x s).can m = s.can m := by
  unfold canTdc
  split
  · rfl
  · refine (can_when_canSub ..).trans (can_of_cans ?_ m)
    exact State.setF_cans s.draw.2 ..

theorem canEvent_shows (e : CanEntry) (t : Word) (status : Nat) (s : State) :
    CanShows n 0 (canEvent n e t status s) := by
  simp only [canEvent]
  split
  · exact CanShows.canSub hn (by decide) (canShows_canCause hn (by decide) s) 1
  · exact canShows_canCause hn (by decide) _

theorem canPop_shows {status : Nat} {s : State} {e : CanEntry} {rest : List CanEntry}
    (hq : (s.can n).queue = e :: rest) : CanShows n 0 (canPop n status s) := by
  unfold canPop
  rw [hq]
  exact canEvent_shows hn ..

theorem canTxEnd_sends {e : CanEntry} {rest : List CanEntry} {w : Word} (hq : (s.can n).queue = e :: rest)
    (hw : (s.can n).wire = some w) : Answers (.canTxComplete n .sent) s fun t =>
      bitOf (t.f Fl.CAN_STAT_CAUSE n) 0 = true ∧ (t.can n).queue.length = rest.length := by
  let x := s.canFrameOf n e
  let u := sentCounted n x s
  have he : canTxEnd n .sent s = canNext n (u.when (u.f Fl.CAN_CTL_MODE n == 3) (canStore n x)) := by
    rw [canTxEnd, if_neg (by omega), hq, hw]
    rfl
  have htdc : ((canTdc n x s).can n).queue = e :: rest := by rw [canTdc_can, hq]
  have hshow : CanShows n 0 u := CanShows.canCounters hn (by decide) (canPop_shows hn htdc) _ _
  have hqu : (u.can n).queue = rest := (canCounters_queue hn ..).trans (by rw [canPop_can hn 0 htdc])
  clear_value u
  refine answers_done (congrArg done he) ⟨?_, ?_⟩
  · rw [State.f_fieldOf, fieldOf_settle _ _ _ (by decide)]
    exact CanShows.canNext hn (by decide)
      (CanShows.when hn (by decide) hshow (CanShows.canStore hn (by decide) hshow x) _)
  · rw [can_settle, length_canNext hn, State.when]
    split
    · rw [canStore_queue hn, hqu]
    · rw [hqu]

theorem canLaunch_starts {e : CanEntry} {rest : List CanEntry} (hq : (s.can n).queue = e :: rest)
    (hw : (s.can n).wire = none) (hl : e.launches = true) (ht : (e.launch - s.eventTime).toInt ≤ 0)
    (hs : s.canSends n = true) : Answers (.launchTimeReached (4 + n)) s fun t => (t.can n).wire = some s.eventTime := by
  have hlaunch : canLaunch n s = canNext n s := by
    rw [canLaunch, hq, hw]
    dsimp only
    rw [if_neg (by simp only [hl, not_lt.mpr ht]; decide), if_pos hs]
  have he : execLaunchTimeReached (4 + n) s = done (canNext n s) := by
    rw [execLaunchTimeReached, if_neg (by omega), if_pos (by omega), Nat.add_sub_cancel_left, hlaunch]
  refine answers_done he ?_
  rw [can_settle, canNext, if_neg (by simp [hs, hw])]
  simp only [hq]
  rw [if_neg (by simp only [not_lt.mpr ht]; simp), can_when_canSub, can_setCan hn]

theorem canPush_appends (hl : (s.can n).queue.length < 16) : Answers (.canPush n) s fun t =>
    (t.can n).queue.length = (s.can n).queue.length + 1 ∧
      (t.can n).queue.getLast?.map (·.hdr) = some (s.reg R.CAN_TXHDR n) := by
  let e : CanEntry :=
      { hdr := s.reg R.CAN_TXHDR n, hdr2 := s.reg R.CAN_TXHDR2 n, launch := s.reg R.CAN_TXLAUNCH n
        data := (List.range 16).map fun w => s.reg R.CAN_TXDATA (16 * n + w) }
  have he : canPush n s = canNext n (s.setCan n fun c => { c with queue := c.queue ++ [e] }) := by
    rw [canPush, if_neg (by omega), if_neg (by omega)]
  have hhdr : e.hdr = s.reg R.CAN_TXHDR n := rfl
  clear_value e
  refine answers_done (congrArg done he) ?_
  have hmap := queue_canNext hn (s.setCan n fun c => { c with queue := c.queue ++ [e] })
  rw [can_setCan hn, List.map_append] at hmap
  rw [can_settle, length_canNext hn, can_setCan hn, ← List.getLast?_map, hmap]
  exact ⟨by simp, by simp [hhdr]⟩

theorem canSub_shows {b : Nat} (hb : b < 11) (s : State) :
    bitOf (fieldOf (canSub b n s).regs Fl.CAN_STAT_SUBCAUSE n) b = true := by
  rw [canSub, canCause, fieldOf_causeOn _ _ _ _ _ _ _ _ (by decide) (by decide)]
  have hbit := testBit_setFBit s Fl.CAN_STAT_SUBCAUSE n b b (lt_of_lt_of_le hn (by decide)) (by decide) hb
  rw [State.f_fieldOf] at hbit
  rw [hbit]
  simp

theorem canPush_full (hl : 16 ≤ (s.can n).queue.length) : Answers (.canPush n) s fun t =>
    (t.can n).queue = (s.can n).queue ∧ bitOf (t.f Fl.CAN_STAT_SUBCAUSE n) 0 = true := by
  refine answers_done (congrArg done ((if_neg (by omega)).trans (if_pos hl))) ?_
  rw [can_settle, can_canSub, State.f_fieldOf, fieldOf_settle _ _ _ (by decide)]
  exact ⟨rfl, canSub_shows hn (by decide) s⟩

theorem canRxReturn_frees (k : Nat) : Answers (.canRxReturn n k) s fun t =>
    t.f Fl.CAN_RXSTAT_COUNT n = s.f Fl.CAN_RXSTAT_COUNT n - min (s.f Fl.CAN_RXSTAT_COUNT n) (k % 64) := by
  refine answers_done (congrArg done (if_neg (by omega))) ?_
  rw [State.f_fieldOf, fieldOf_settle _ _ _ (by decide), fieldOf_setF_apart _ _ _ _ _ _ (by decide)]
  exact fieldOf_setF_fits _ _ _ _ (lt_of_lt_of_le hn (by decide)) (by decide)
    (lt_of_le_of_lt (Nat.sub_le _ _) (State.f_lt s Fl.CAN_RXSTAT_COUNT n))

theorem canEventRead_reads : Answers (.canTxEventRead n) s fun t =>
    t.readData = s.reg R.CAN_TXEVB n ∧ (t.can n).events = (s.can n).events.drop 1 := by
  refine answers_done (congrArg done (if_neg (by omega))) ?_
  rw [can_settle, can_setCan hn, State.readData_of_without (State.settle_settled _) rfl]
  exact ⟨State.readData_of_without (A := { onlyRegs [R.CAN_TXEVA, R.CAN_TXEVB, R.CAN_TXSTAT] with readData := false })
    (State.setCan_writes (by decide) (by decide) (by decide) rfl _ _ _) rfl, rfl⟩

/-! ### Timing, reception and wake-up -/

theorem timing_written {v : Word} (he : s.f Fl.CAN_CTL_EN n = 0) (hv : nominalOk v = true) :
    Answers (.canTimingWrite n 0 v) s fun t => t.reg R.CAN_NBT n = v := by
  have hok : timingWrite n 0 v s = plainWrite R.CAN_NBT n v s := by
    rw [timingWrite, if_neg (by simp; omega)]
    simp [State.b, he, hv]
  refine answers_done (congrArg done hok) ?_
  rw [State.reg_regOf, regOf_settle _ _ _ (by decide), plainWrite,
    regOf_setReg_same _ _ _ _ (lt_of_lt_of_le hn (by decide))]
  change ((_ &&& ~~~(0xffffffff : Word)) &&& _) ||| (v &&& 0xffffffff) = v
  rw [show (0xffffffff : Word) = BitVec.allOnes 32 by decide, BitVec.and_allOnes]
  simp

theorem timing_refused (v : Word) (he : s.f Fl.CAN_CTL_EN n = 1) : Answers (.canTimingWrite n 0 v) s fun t =>
    t.reg R.CAN_NBT n = s.reg R.CAN_NBT n ∧ bitOf (t.f Fl.CAN_STAT_SUBCAUSE n) 3 = true := by
  have hok : timingWrite n 0 v s = canSub 3 n s := by
    rw [timingWrite, if_neg (by simp; omega)]
    simp [State.b, he]
  refine answers_done (congrArg done hok) ?_
  rw [State.reg_regOf, regOf_settle _ _ _ (by decide), State.f_fieldOf, fieldOf_settle _ _ _ (by decide), canSub,
    canCause, regOf_causeOn _ _ _ _ _ _ _ _ (by decide) (by decide), regOf_setFBit_apart _ _ _ _ _ _ _ (by decide)]
  exact ⟨rfl, canSub_shows hn (by decide) s⟩

omit hn in
theorem canAccept_finds {f : Nat} {x : CanFrame} (hf : f < 16) (hm : s.canMatch n f x = true) :
    ∃ g, (canAccept n x s).1 = some g := by
  have hen : s.b Fl.CAN_FILTA_EN (16 * n + f) = true := by
    simp only [State.canMatch, Bool.and_eq_true] at hm
    exact hm.1.1.1
  have hany : (List.range 16).any (fun f => s.b Fl.CAN_FILTA_EN (16 * n + f)) = true :=
    List.any_eq_true.mpr ⟨f, List.mem_range.mpr hf, hen⟩
  rw [canAccept, if_pos hany]
  exact Option.isSome_iff_exists.mp (List.find?_isSome.mpr ⟨f, List.mem_range.mpr hf, hm⟩)

theorem canReceive_counts {x : CanFrame} {f : Nat} (h : s.f Fl.CAN_STAT_STATE n = 1) (hj : (s.can n).joined = true)
    (hf : s.f Fl.CAN_STAT_FCS n = 0) (hr : s.f Fl.CAN_ERR_REC n ≤ 127) (hse : (s.can n).search = none)
    (hc : s.f Fl.CAN_RXSTAT_COUNT n < 32) (hf16 : f < 16) (hm : s.canMatch n f x = true) :
    Answers (.canFrameReceived n x) s fun t => t.f Fl.CAN_RXSTAT_COUNT n = s.f Fl.CAN_RXSTAT_COUNT n + 1 := by
  have htec : s.f Fl.CAN_ERR_TEC n ≤ 255 := Nat.le_of_lt_succ (State.f_lt s Fl.CAN_ERR_TEC n)
  let u := canCounters n (s.f Fl.CAN_ERR_TEC n) (s.f Fl.CAN_ERR_REC n - 1) s
  have hcan : u.can n = s.can n := canCounters_can _ htec s
  have hreg : ∀ fl, canQuiet fl = true → Fl.CAN_ERR_TEC.apart fl = true → Fl.CAN_ERR_REC.apart fl = true →
      Fl.CAN_STAT_FCS.apart fl = true → ∀ i, u.f fl i = s.f fl i := by
    intro fl hq h1 h2 h3 i
    refine (fieldOf_canCounters _ i htec s hq).trans ?_
    rw [countersShown, fieldOf_setF_apart _ _ _ _ _ _ h3, fieldOf_setF_apart _ _ _ _ _ _ h2,
      fieldOf_setF_apart _ _ _ _ _ _ h1]
    rfl
  have hmu : u.canMatch n f x = true := by
    simp (disch := decide) only [State.canMatch, State.b, hreg] at hm ⊢
    exact hm
  have hcount : u.f Fl.CAN_RXSTAT_COUNT n = s.f Fl.CAN_RXSTAT_COUNT n :=
    hreg _ (by decide) (by decide) (by decide) (by decide) n
  have he : canReceive n x s = canStore n x (canAdopt n u) := by
    rw [canReceive, if_neg (by simp [State.canState, h, hj, hf]; omega)]
    dsimp only
    rw [if_neg (by omega)]
  have ha : canAdopt n u = u := by rw [canAdopt, hcan, hse]
  clear_value u
  obtain ⟨g, hg⟩ := canAccept_finds (s := u) hf16 hmu
  have hacc : (canAccept n x u).2.f Fl.CAN_RXSTAT_COUNT n = s.f Fl.CAN_RXSTAT_COUNT n :=
    (congrArg (fun l => fieldOf l Fl.CAN_RXSTAT_COUNT n) (canAccept_state n x u).1).trans hcount
  rw [ha, canStore_eq, hg] at he
  dsimp only at he
  rw [if_neg (by omega), hacc] at he
  refine answers_done (congrArg done he) ?_
  rw [State.f_fieldOf, fieldOf_settle _ _ _ (by decide), quiet_canCause (by decide)]
  exact fieldOf_setF_fits _ _ _ _ (lt_of_lt_of_le hn (by decide)) (by decide)
    (show s.f Fl.CAN_RXSTAT_COUNT n + 1 < 64 by omega)

theorem abdWindow_adopts {k p : Nat} (bad : Nat) (hse : (s.can n).search = some (k, p)) :
    Answers (.abdWindowEnd n 1 bad) s fun t => t.reg R.CAN_NBT n = s.reg R.CAN_NSET (4 * n + k) ∧
      t.f Fl.CAN_CTL_MODE n = 0 ∧ (t.can n).search = none := by
  let u := canCause 6 n (((s.setReg R.CAN_NBT n (s.reg R.CAN_NSET (4 * n + k))).setF Fl.CAN_CTL_MODE n 0).setCan n
    fun c => { c with search := none })
  have he : abdWindowEnd n 1 s = canNext n u := by
    rw [abdWindowEnd, hse]
    dsimp only
    rw [if_pos (by decide), canAdopt, hse]
  have hcan : (u.can n).search = none := by rw [can_canCause, can_setCan hn]
  have hmode : fieldOf u.regs Fl.CAN_CTL_MODE n = 0 := by
    simp (disch := first | decide | (apply lt_of_lt_of_le hn; decide)) only [u, quiet_canCause, fieldOf_setCan,
      fieldOf_setF_fits]
  have hnbt : regOf u.regs R.CAN_NBT n = s.reg R.CAN_NSET (4 * n + k) := by
    simp (disch := first | decide | (apply lt_of_lt_of_le hn; decide)) only [u, canCause, regOf_causeOn, regOf_setCan,
      regOf_setF_apart, regOf_setReg_same]
  clear_value u
  refine answers_done (congrArg done he) ?_
  obtain ⟨q, w, hc, -⟩ := canNext_can hn u
  rw [can_settle, hc, State.reg_regOf, State.f_fieldOf, regOf_settle _ _ _ (by decide),
    fieldOf_settle _ _ _ (by decide), quiet_canNext (by decide), hmode,
    regOf_onlyRegs (l := [R.CAN_STAT, R.CAN_TXEVA, R.CAN_TXEVB, R.CAN_TXSTAT, R.EVT_PEND])
      (canNext_writes (by decide) (by decide) (by decide) (by decide) (by decide) rfl n u) n (by decide)]
  exact ⟨hnbt, rfl, hcan⟩

theorem canRxError_counts (lec : Nat) (h : s.f Fl.CAN_STAT_STATE n = 1) (hf : s.f Fl.CAN_STAT_FCS n ≠ 2) :
    Answers (.canRxError n lec) s fun t => t.f Fl.CAN_STAT_LEC n = lec % 16 ∧
      t.f Fl.CAN_ERR_REC n = min 255 (s.f Fl.CAN_ERR_REC n + 1) := by
  have htec : s.f Fl.CAN_ERR_TEC n ≤ 255 := Nat.le_of_lt_succ (State.f_lt s Fl.CAN_ERR_TEC n)
  have hrec : min 255 (s.f Fl.CAN_ERR_REC n + 1) < 2 ^ Fl.CAN_ERR_REC.width :=
    lt_of_le_of_lt (Nat.min_le_left _ _) (by decide)
  refine answers_done (congrArg done (if_neg (by simp [State.canState, h, hf]; omega))) ?_
  simp only [State.f_fieldOf] at htec hrec ⊢
  rw [fieldOf_settle _ _ _ (by decide), fieldOf_settle _ _ _ (by decide),
    fieldOf_canCounters _ _ htec _ (by decide), fieldOf_canCounters _ _ htec _ (by decide)]
  simp (disch := first | decide | exact hrec | (apply lt_of_lt_of_le hn; decide)) only [countersShown,
    fieldOf_setF_apart, fieldOf_setF_fits, fieldOf_setF_same]
  exact ⟨rfl, trivial⟩

theorem canWake_leaves (h : s.f Fl.CAN_CTL_WAKEEN n = 1) (hp : s.f Fl.SYS_PWRSTAT_STATE = 2)
    (ht : s.sys.target = none) (he : bitOf (s.f Fl.SYS_WAKEEN_SRC) 4 = true) :
    Effect (.canWakePattern n) s fun u => u.sys.target = some 0 ∧ bitOf (u.f Fl.SYS_WAKESRC_SRC) 4 = true := by
  refine effect_done (congrArg done (if_pos (by simp [State.b, h, hp, hn]))) ?_
  obtain ⟨⟨-, -, htgt, -⟩, hsrc⟩ := wake_leaves (src := 4) (by decide) he ht (by rw [hp]; decide)
  exact ⟨htgt, hsrc⟩

end

/-- Settles O48: start and stop, the queue, reception, timing and wake-up of a controller. -/
theorem canCommands : Obligations.CanCommands := by
  intro n s hn
  refine ⟨canEnable_starts hn, canDisable_stops hn, canStop_ends hn, canJoin_joins hn, canRecover_begins hn,
    canRecovered_clears hn, fun e rest hq => ⟨canAbort_pops hn hq, fun w => canAbort_marks hn hq,
      fun w => canAbortAll_marks hn hq, fun w => canTxEnd_sends hn hq, canLaunch_starts hn hq⟩,
    canAbortAll_empties hn, canPush_appends hn, canPush_full hn, canRxReturn_frees hn, canEventRead_reads hn,
    fun v => ⟨timing_written hn, timing_refused hn v⟩, fun x f => canReceive_counts hn,
    fun k p bad hse _ => abdWindow_adopts hn bad hse, fun lec => canRxError_counts hn lec, canWake_leaves hn⟩

end Sys2Proof.Machine

/-! ## The fold and device time (R329, R527 to R540) -/

namespace Sys2Proof.Machine

set_option Elab.async false

/-! ### Quantities under updates -/

theorem quantOf_setF_apart (s : State) (fl : Fld) (lo hi : Rg) (i j v : Nat) (hl : fl.reg.apart lo = true)
    (hh : fl.reg.apart hi = true) : quantOf (s.setF fl i v).regs lo hi j = quantOf s.regs lo hi j :=
  quantOf_congr (regOf_setF_apart _ _ _ _ _ _ hl) (regOf_setF_apart _ _ _ _ _ _ hh)

theorem quantOf_setQ_apart (s : State) (lo hi lo' hi' : Rg) (i j v : Nat) (h1 : lo.apart lo' = true)
    (h2 : hi.apart lo' = true) (h3 : lo.apart hi' = true) (h4 : hi.apart hi' = true) :
    quantOf (s.setQ lo hi i v).regs lo' hi' j = quantOf s.regs lo' hi' j :=
  quantOf_congr (regOf_setQ_apart _ _ _ _ _ _ _ h1 h2) (regOf_setQ_apart _ _ _ _ _ _ _ h3 h4)

theorem quantOf_setQ_mod (s : State) (lo hi : Rg) (i v : Nat) (hl : i < lo.count) (hh : i < hi.count)
    (ha : hi.apart lo = true) : quantOf (s.setQ lo hi i v).regs lo hi i = v % 2 ^ 64 := by
  rw [quantOf, State.setQ, regOf_setReg_same _ _ _ _ hh, regOf_setReg_apart _ _ _ _ _ _ ha,
    regOf_setReg_same _ _ _ _ hl, BitVec.toNat_ofNat, BitVec.toNat_ofNat]
  omega

theorem quantOf_setQ_member (s : State) (lo hi : Rg) {i j : Nat} (v : Nat) (h : i ≠ j) (ha : hi.apart lo = true)
    (hb : lo.apart hi = true) : quantOf (s.setQ lo hi i v).regs lo hi j = quantOf s.regs lo hi j := by
  refine quantOf_congr ?_ ?_
  · rw [State.setQ, regOf_setReg_apart _ _ _ _ _ _ ha, regOf_setReg_member _ _ _ h]
  · rw [State.setQ, regOf_setReg_member _ _ _ h, regOf_setReg_apart _ _ _ _ _ _ hb]

/-- Of a family of operations, each on its own member, one member sees its own operation once. -/
theorem each_member_of {α : Type} {P : State → Prop} (view : State → α) (g : α → α) {f : Nat → State → State}
    {m k : Nat} (hm : m < k) (hP : ∀ j s, P s → P (f j s)) (hsame : ∀ s, P s → view (f m s) = g (view s))
    (hother : ∀ j s, j ≠ m → view (f j s) = view s) {s : State} (h0 : P s) : view (s.each k f) = g (view s) := by
  have hsucc : ∀ i, s.each (i + 1) f = f i (s.each i f) := fun i => by
    simp [State.each, List.range_succ]
  have hinv : ∀ i, P (s.each i f) := by
    intro i
    induction i with
    | zero => exact h0
    | succ i ih => rw [hsucc]; exact hP i _ ih
  have hbefore : ∀ i, i ≤ m → view (s.each i f) = view s := by
    intro i
    induction i with
    | zero => exact fun _ => rfl
    | succ i ih => exact fun hi => by rw [hsucc, hother _ _ (by omega), ih (by omega)]
  induction k with
  | zero => omega
  | succ k ih =>
    rw [hsucc]
    rcases Nat.lt_or_ge m k with hlt | hge
    · rw [hother _ _ (by omega), ih hlt]
    · obtain rfl : m = k := by omega
      rw [hsame _ (hinv _), hbefore _ le_rfl]

theorem each_member {α : Type} (view : State → α) (g : α → α) {f : Nat → State → State} {m k : Nat} (hm : m < k)
    (hsame : ∀ s, view (f m s) = g (view s)) (hother : ∀ j s, j ≠ m → view (f j s) = view s) (s : State) :
    view (s.each k f) = g (view s) :=
  each_member_of (P := fun _ => True) view g hm (fun _ _ _ => trivial) (fun u _ => hsame u) hother trivial

/-! ### One meter under the fold -/

theorem State.mt_member (s : State) (m : Nat) : s.mt m = memberOf s.mtr.meter m {} := rfl

/-- What the fold reads and writes of one meter. -/
structure MeterView where
  del : Nat
  rcv : Nat
  rawDel : Nat
  rawRec : Nat
  x : Meter

/-- The registers and the state of meter `m` that the fold uses. -/
def State.meterView (s : State) (m : Nat) : MeterView :=
  { del := s.q R.MTR_EDELL R.MTR_EDELH m, rcv := s.q R.MTR_ERECL R.MTR_ERECH m
    rawDel := s.q R.MTR_RAWDELL R.MTR_RAWDELH m, rawRec := s.q R.MTR_RAWRECL R.MTR_RAWRECH m, x := s.mt m }

/-- The view of a meter after the fold at instant `b`. -/
def MeterView.folded (b : Nat) (v : MeterView) : MeterView :=
  let r := rawAt v.x b
  let del := v.del * 65536 + v.x.fracDel + (r.1 + 2 ^ 48 - v.rawDel) % 2 ^ 48
  let rcv := v.rcv * 65536 + v.x.fracRec + (r.2 + 2 ^ 48 - v.rawRec) % 2 ^ 48
  { del := del / 65536 % 2 ^ 64, rcv := rcv / 65536 % 2 ^ 64, rawDel := r.1 % 2 ^ 64, rawRec := r.2 % 2 ^ 64
    x := { v.x with fracDel := del % 65536, fracRec := rcv % 65536, sumP := 0, sumT := 0 } }

theorem mt_foldMeter {b m : Nat} (hm : m < 24) (s : State) : (foldMeter b m s).mt m =
    { s.mt m with fracDel := (s.totalsAt m b).1 % 65536, fracRec := (s.totalsAt m b).2 % 65536, sumP := 0
                  sumT := 0 } := by
  simp [State.mt_member, foldMeter, showBacklog, State.setMt, showTotals, hm]

theorem mt_foldMeter_other {b m j : Nat} (h : j ≠ m) (s : State) : (foldMeter b j s).mt m = s.mt m := by
  simp [State.mt_member, foldMeter, showBacklog, State.setMt, showTotals, h]

theorem meterView_foldMeter {b m : Nat} (hm : m < 24) (s : State) :
    (foldMeter b m s).meterView m = (s.meterView m).folded b := by
  have hmt := mt_foldMeter (b := b) hm s
  simp only [State.meterView, MeterView.folded, hmt, State.q_quantOf]
  simp (disch := first | decide | (apply lt_of_lt_of_le hm; decide)) only [foldMeter, showBacklog, State.setMt,
    showTotals, State.setFi, quantOf_setF_apart, quantOf_setQ_apart, quantOf_setQ_mod, State.totalsAt, State.totalDel,
    State.totalRec, State.q_quantOf, Nat.mod_mod]

theorem meterView_foldMeter_other {b m j : Nat} (h : j ≠ m) (s : State) :
    (foldMeter b j s).meterView m = s.meterView m := by
  have hmt := mt_foldMeter_other (b := b) h s
  simp only [State.meterView, hmt, State.q_quantOf]
  simp (disch := first | decide | exact h) only [foldMeter, showBacklog, State.setMt, showTotals, State.setFi,
    quantOf_setF_apart, quantOf_setQ_apart, quantOf_setQ_member]

/-! ### What the fold keeps -/

/-- Registers and states that the fold of the meters and the billing after it may change. -/
def foldPart : Part := { onlyRegs [R.BIL_NEXTH, R.BIL_NEXTL, R.BIL_SENERGYH, R.BIL_SENERGYL, R.BIL_SSTARTH,
  R.BIL_SSTARTL, R.BIL_STAT, R.BIL_TCOUNT, R.BIL_TFIRSTH, R.BIL_TFIRSTL, R.BIL_TLASTH, R.BIL_TLASTL, R.EVT_PEND,
  R.MTR_EDELH, R.MTR_EDELL, R.MTR_ERECH, R.MTR_ERECL, R.MTR_FOLD, R.MTR_MP1, R.MTR_MSTAT, R.MTR_RAWDELH,
  R.MTR_RAWDELL, R.MTR_RAWRECH, R.MTR_RAWRECL, R.MTR_XDEL, R.MTR_XREC] with time := false, sys := false }

/-- The meters folded, and the billing of the instant done. -/
def foldedState (s : State) : State :=
  billingFold (s.now / 1000000 * 1000000) (takeoverFold (s.now / 1000000 * 1000000) (fold s))

theorem foldInstant_eq (s : State) : foldInstant s = calendarAtFold (stepAtFold (foldedState s)) := rfl

theorem foldedState_writes (s : State) : (foldedState s).without foldPart = s.without foldPart := by
  rw [foldedState, billingFold_writes (by decide) (by decide) (by decide) (by decide) (by decide) (by decide)
    (by decide) (by decide) (by decide) (by decide) (by decide) (by decide) (by decide) rfl rfl rfl,
    takeoverFold_writes (by decide) (by decide) (by decide) (by decide) (by decide) (by decide) (by decide) rfl rfl,
    fold_writes (by decide) (by decide) (by decide) (by decide) (by decide) (by decide) (by decide) (by decide)
      (by decide) (by decide) (by decide) (by decide) (by decide) rfl]

theorem foldedState_time (s : State) : (foldedState s).time = s.time :=
  State.time_of_without (foldedState_writes s) rfl

theorem fieldOf_foldedState {fl : Fld} (s : State) (i : Nat)
    (h : (!foldPart.regs fl.reg.addr && decide (fl.reg.count ≤ 65536)) = true) :
    fieldOf (foldedState s).regs fl i = fieldOf s.regs fl i := fieldOf_of_without (foldedState_writes s) i h

/-- Fractions and the record of the last fold. -/
def KeepsMeters (s t : State) : Prop := t.mtr.committed = s.mtr.committed ∧
  ∀ m, m < 24 → (t.mt m).fracDel = (s.mt m).fracDel ∧ (t.mt m).fracRec = (s.mt m).fracRec

theorem KeepsMeters.of_mtr {s t : State} (h : t.mtr = s.mtr) : KeepsMeters s t :=
  ⟨congrArg _ h, fun m _ => by rw [State.mt, h]; exact ⟨rfl, rfl⟩⟩

theorem KeepsMeters.trans {s t u : State} (h : KeepsMeters s t) (h' : KeepsMeters t u) : KeepsMeters s u :=
  ⟨h'.1.trans h.1, fun m hm => ⟨(h'.2 m hm).1.trans (h.2 m hm).1, (h'.2 m hm).2.trans (h.2 m hm).2⟩⟩

/-- Everything but the meters. -/
def butMtr : Part := { besideMemory with mtr := false, mem := true, pending := true }

theorem KeepsMeters.of_but {s t : State} (h : t.without butMtr = s.without butMtr) : KeepsMeters s t :=
  .of_mtr (State.mtr_of_without h rfl)

theorem schedule_keeps (s : State) : KeepsMeters s (schedule s) := by
  unfold schedule
  split
  · exact .of_mtr rfl
  · refine ⟨?_, fun m _ => ⟨?_, ?_⟩⟩ <;> simp [State.mt, State.work, State.setQ]

theorem stepBoundary_keeps (b : Nat) (s : State) : KeepsMeters s (stepBoundary b s) := by
  unfold stepBoundary
  split
  · exact .of_mtr rfl
  · refine KeepsMeters.trans (.of_but ?_) (schedule_keeps _)
    simp (disch := decide) only [pushSlot_writes, tamper_writes, bilCause_writes, State.work_writes]
    rfl

theorem billingFold_keeps (b : Nat) (s : State) : KeepsMeters s (billingFold b s) := by
  have hs : KeepsMeters s (sessionEnergy b s) := .of_but (sessionEnergy_writes rfl rfl rfl rfl rfl rfl b s)
  unfold billingFold
  dsimp only
  split_ifs
  · exact hs
  · exact hs.trans (stepBoundary_keeps b _)
  · refine hs.trans (KeepsMeters.trans (.of_but ?_) (schedule_keeps _))
    simp (disch := decide) only [State.work_writes, pushSlot_writes]
  · exact hs

theorem foldedState_keeps (s : State) : KeepsMeters (fold s) (foldedState s) :=
  KeepsMeters.trans (.of_but (takeoverFold_writes rfl rfl rfl rfl rfl rfl rfl rfl rfl _ _)) (billingFold_keeps _ _)

theorem State.each_induct {P : State → Prop} {f : Nat → State → State} (h : ∀ j s, P s → P (f j s)) {s : State}
    (h0 : P s) (k : Nat) : P (s.each k f) := by
  unfold State.each
  induction List.range k generalizing s with
  | nil => exact h0
  | cons j l ih => exact ih (h j s h0)

/-- The meters' samples move with device time; totals and fractions stand. -/
theorem setMt_keeps {f : Meter → Meter} (hd : ∀ x, (f x).fracDel = x.fracDel) (hr : ∀ x, (f x).fracRec = x.fracRec)
    (j : Nat) (s : State) : KeepsMeters s (s.setMt j f) := by
  refine ⟨rfl, fun m hm => ?_⟩
  change (memberOf (s.mtr.meter.setIfInBounds j (f (s.mt j))) m {}).fracDel = _ ∧
    (memberOf (s.mtr.meter.setIfInBounds j (f (s.mt j))) m {}).fracRec = _
  by_cases hj : j = m
  · subst hj
    rw [memberOf_set_same _ _ _ hm]
    exact ⟨hd _, hr _⟩
  · rw [memberOf_set_other _ _ _ hj]
    exact ⟨rfl, rfl⟩

theorem deviceStepped_keeps (d : Int) (s : State) : KeepsMeters s (deviceStepped d s) :=
  KeepsMeters.trans (.of_mtr (by simp [State.work, State.setQi, State.setQ])) (schedule_keeps _)

/-- A sample's instants move by `d`. -/
def Meter.moved (d : Int) (x : Meter) : Meter :=
  let mv (x : Nat) : Nat := ((x : Int) + d).toNat
  { x with lastEnd := x.lastEnd.map mv, last := x.last.map fun l => { l with s := mv l.s, e := mv l.e } }

/-- Device time and the instants that the meters hold have moved. -/
def timeMoved (d : Int) (s : State) : State :=
  let s := (addTime d s).each 24 fun m s => s.setMt m (Meter.moved d)
  { s with mtr.queue := s.mtr.queue.map fun e => (((e.1 : Int) + d).toNat, e.2) }

theorem timeStep_eq (ms : Int) (s : State) : timeStep ms s = deviceStepped (ms * 1000000) (timeMoved (ms * 1000000) s)
  :=
  rfl

theorem timeMoved_keeps (d : Int) (s : State) : KeepsMeters s (timeMoved d s) := by
  have hall : KeepsMeters s ((addTime d s).each 24 fun m s => s.setMt m (Meter.moved d)) :=
    State.each_induct (fun j u h => h.trans (setMt_keeps (f := Meter.moved d) (fun _ => rfl) (fun _ => rfl) j u))
      (.of_mtr rfl) 24
  unfold timeMoved
  dsimp only
  generalize (addTime d s).each 24 (fun m s => s.setMt m (Meter.moved d)) = u at hall ⊢
  exact hall

theorem timeStep_keeps (ms : Int) (s : State) : KeepsMeters s (timeStep ms s) := by
  rw [timeStep_eq]
  exact (timeMoved_keeps _ s).trans (deviceStepped_keeps _ _)

theorem stepAtFold_keeps (s : State) : KeepsMeters s (stepAtFold s) := by
  unfold stepAtFold
  split
  · exact .of_mtr rfl
  · dsimp only
    split
    · exact .of_mtr (by simp [stepRefused, timCause])
    · exact KeepsMeters.trans (.of_mtr (by simp)) (timeStep_keeps _ _)

theorem foldInstant_keeps (s : State) : KeepsMeters (fold s) (foldInstant s) := by
  rw [foldInstant_eq]
  refine (foldedState_keeps s).trans ((stepAtFold_keeps _).trans (.of_but ?_))
  exact calendarAtFold_writes (by decide) (by decide) (by decide) (by decide) (by decide) (by decide) (by decide)
    (by decide) (by decide) (by decide) rfl rfl _

/-- Registers that an instant writes after the fold of the meters. -/
def instantRegs : List Rg := [R.BIL_KOFFH, R.BIL_KOFFL, R.BIL_NEXTH, R.BIL_NEXTL, R.BIL_SENERGYH, R.BIL_SENERGYL,
  R.BIL_SSTARTH, R.BIL_SSTARTL, R.BIL_STAT, R.BIL_TCOUNT, R.BIL_TFIRSTH, R.BIL_TFIRSTL, R.BIL_TLASTH, R.BIL_TLASTL,
  R.EVT_PEND, R.TIM_STAT]

theorem regOf_foldInstant {r : Rg} (i : Nat) (s : State)
    (h : (!regsIn instantRegs r.addr && decide (r.count ≤ 65536)) = true) :
    regOf (foldInstant s).regs r i = regOf (fold s).regs r i := by
  refine regOf_onlyRegs ?_ i h
  rw [foldInstant_eq, calendarAtFold_writes (by decide) (by decide) (by decide) (by decide) (by decide) (by decide)
    (by decide) (by decide) (by decide) (by decide) rfl rfl, stepAtFold_writes (by decide) (by decide) (by decide)
    (by decide) (by decide) (by decide) rfl rfl rfl, foldedState,
    billingFold_writes (by decide) (by decide) (by decide) (by decide) (by decide) (by decide)
    (by decide) (by decide) (by decide) (by decide) (by decide) (by decide) (by decide) rfl rfl rfl,
    takeoverFold_writes (by decide) (by decide) (by decide) (by decide) (by decide) (by decide) (by decide) rfl rfl]

/-! ### The fold (R329) -/

/-- Every meter folded, before the record is committed. -/
def metersFolded (s : State) : State := s.each 24 (foldMeter (s.now / 1000000 * 1000000))

theorem fold_running {s : State} (h : s.metersRun = true) :
    fold s = commitFold (s.now / 1000000 * 1000000) (metersFolded s) := by
  rw [fold, if_neg (by simp [h])]
  rfl

theorem meterView_metersFolded {m : Nat} (hm : m < 24) (s : State) :
    (metersFolded s).meterView m = (s.meterView m).folded (s.now / 1000000 * 1000000) :=
  each_member (fun u => u.meterView m) _ hm (fun u => meterView_foldMeter hm u)
    (fun j u h => meterView_foldMeter_other h u) s

theorem metersFolded_record (s : State) : (metersFolded s).mtr.committed = s.mtr.committed ∧
    (metersFolded s).mtr.run = s.mtr.run := by
  refine State.each_induct (P := fun u => u.mtr.committed = s.mtr.committed ∧ u.mtr.run = s.mtr.run)
    (fun j u h => ?_) ⟨rfl, rfl⟩ 24
  simpa [foldMeter, showBacklog, State.setMt, showTotals] using h

theorem metersFolded_nvOk (s : State) : (metersFolded s).nvOk = s.nvOk := by
  have hw : (metersFolded s).without foldPart = s.without foldPart :=
    State.without_each (fun m u => foldMeter_writes (by decide) (by decide) (by decide) (by decide) (by decide)
      (by decide) (by decide) (by decide) (by decide) (by decide) (by decide) (by decide) rfl _ m u) s 24
  simp only [State.nvOk, State.b_fieldOf]
  rw [fieldOf_of_without hw _ (by decide), fieldOf_of_without hw _ (by decide)]

theorem meterView_commitFold (b m : Nat) (s : State) : (commitFold b s).meterView m = s.meterView m := by
  have hmt : (commitFold b s).mt m = s.mt m := by
    unfold commitFold
    split <;> simp [State.mt, State.satF]
  have hq : ∀ lo hi, Fl.MTR_FOLD_SEQ.reg.apart lo = true → Fl.MTR_FOLD_SEQ.reg.apart hi = true →
      quantOf (commitFold b s).regs lo hi m = quantOf s.regs lo hi m := by
    intro lo hi hl hh
    unfold commitFold
    split
    · exact quantOf_setF_apart _ _ _ _ _ _ _ hl hh
    · exact quantOf_setF_apart _ _ _ _ _ _ _ hl hh
  simp only [State.meterView, hmt, State.q_quantOf]
  simp (disch := decide) only [hq]

theorem commitFold_record {b m : Nat} (hm : m < 24) {s : State} (h : s.nvOk = true) :
    let r := (commitFold b s).mtr.committed
    r.seq = s.mtr.committed.seq + 1 ∧ r.instant = b ∧ (r.meters.getD m {}).del = (s.meterView m).del ∧
      r.run = s.mtr.run := by
  have hdel : quantOf (s.setF Fl.MTR_FOLD_SEQ 0 (s.mtr.committed.seq + 1)).regs R.MTR_EDELL R.MTR_EDELH m =
      quantOf s.regs R.MTR_EDELL R.MTR_EDELH m := quantOf_setF_apart _ _ _ _ _ _ _ (by decide) (by decide)
  rw [commitFold, if_pos h]
  refine ⟨rfl, rfl, ?_, by simp⟩
  simpa [List.getD, hm, State.meterRecord, State.q_quantOf, State.meterView] using hdel

theorem commitFold_skipped {b : Nat} {s : State} (h : s.nvOk = false) :
    (commitFold b s).mtr.committed = s.mtr.committed := by
  rw [commitFold, if_neg (by simp [h])]
  simp [State.satF]

end Sys2Proof.Machine

/-! ## Steps of device time, the calendar and the leap second (R527 to R540) -/

namespace Sys2Proof.Machine

set_option Elab.async false

theorem mt_settle (s : State) (m : Nat) : s.settle.mt m = s.mt m := by
  rw [State.mt, State.mtr_of_without (State.settle_settled s) rfl]
  rfl

theorem quantOf_settle (s : State) (lo hi : Rg) (i : Nat)
    (hl : (!settledPart.regs lo.addr && decide (lo.count ≤ 65536)) = true)
    (hh : (!settledPart.regs hi.addr && decide (hi.count ≤ 65536)) = true) :
    quantOf s.settle.regs lo hi i = quantOf s.regs lo hi i :=
  quantOf_congr (regOf_settle _ _ _ hl) (regOf_settle _ _ _ hh)

theorem time_settle (s : State) : s.settle.time = s.time := State.time_of_without (State.settle_settled s) rfl

theorem fold_meters {s : State} {m : Nat} (hm : m < 24) (hrun : s.metersRun = true)
    (h1 : (rawAt (s.mt m) (s.now / 1000000 * 1000000)).1 < 2 ^ 48)
    (h2 : (rawAt (s.mt m) (s.now / 1000000 * 1000000)).2 < 2 ^ 48) :
    let b := s.now / 1000000 * 1000000
    let del := s.totalDel m + ((rawAt (s.mt m) b).1 + 2 ^ 48 - s.q R.MTR_RAWDELL R.MTR_RAWDELH m) % 2 ^ 48
    let rcv := s.totalRec m + ((rawAt (s.mt m) b).2 + 2 ^ 48 - s.q R.MTR_RAWRECL R.MTR_RAWRECH m) % 2 ^ 48
    Answers .fold s fun u => u.q R.MTR_EDELL R.MTR_EDELH m = del / 65536 % 2 ^ 64 ∧ (u.mt m).fracDel = del % 65536 ∧
      u.q R.MTR_ERECL R.MTR_ERECH m = rcv / 65536 % 2 ^ 64 ∧ (u.mt m).fracRec = rcv % 65536 ∧
      u.q R.MTR_RAWDELL R.MTR_RAWDELH m = (rawAt (s.mt m) b).1 ∧
      u.q R.MTR_RAWRECL R.MTR_RAWRECH m = (rawAt (s.mt m) b).2 ∧
      (s.nvOk = true → u.mtr.committed.seq = s.mtr.committed.seq + 1 ∧ u.mtr.committed.instant = b ∧
        (u.mtr.committed.meters.getD m {}).del = del / 65536 % 2 ^ 64 ∧ u.mtr.committed.run = s.mtr.run) ∧
      (s.nvOk = false → u.mtr.committed = s.mtr.committed) := by
  intro b del rcv
  have hw : (metersFolded s).meterView m = (s.meterView m).folded b := meterView_metersFolded hm s
  have hv : (fold s).meterView m = (s.meterView m).folded b := by
    rw [fold_running hrun, meterView_commitFold, hw]
  obtain ⟨hcom, hfrac⟩ := foldInstant_keeps s
  obtain ⟨hfd, hfr⟩ := hfrac m hm
  have hq : ∀ lo hi, (!regsIn instantRegs lo.addr && decide (lo.count ≤ 65536)) = true →
      (!regsIn instantRegs hi.addr && decide (hi.count ≤ 65536)) = true →
      quantOf (foldInstant s).regs lo hi m = (fold s).q lo hi m := fun lo hi hl hh =>
    quantOf_congr (regOf_foldInstant m s hl) (regOf_foldInstant m s hh)
  have hmtr : (foldInstant s).settle.mtr = (foldInstant s).mtr := State.mtr_of_without (State.settle_settled _) rfl
  refine answers_done rfl ?_
  rw [hmtr, mt_settle, hfd, hfr, hcom]
  simp (disch := decide) only [State.q_quantOf, quantOf_settle, hq]
  refine ⟨congrArg MeterView.del hv, congrArg (fun v => v.x.fracDel) hv, congrArg MeterView.rcv hv,
    congrArg (fun v => v.x.fracRec) hv, (congrArg MeterView.rawDel hv).trans ?_,
    (congrArg MeterView.rawRec hv).trans ?_, fun hn => ?_, fun hn => ?_⟩
  · exact Nat.mod_eq_of_lt (h1.trans (by decide))
  · exact Nat.mod_eq_of_lt (h2.trans (by decide))
  · obtain ⟨hs, hi, hd, hr⟩ := commitFold_record (b := b) hm ((metersFolded_nvOk s).trans hn)
    rw [fold_running hrun]
    rw [(metersFolded_record s).1] at hs
    rw [(metersFolded_record s).2] at hr
    exact ⟨hs, hi, hd.trans (congrArg MeterView.del hw), hr⟩
  · rw [fold_running hrun, commitFold_skipped ((metersFolded_nvOk s).trans hn), (metersFolded_record s).1]

/-! ### Steps of device time (R531) -/

theorem runlock_congr {s t : State} (hg : ∀ g, fieldOf t.regs Fl.LPE_GROUP_EN g = fieldOf s.regs Fl.LPE_GROUP_EN g)
    (ha : fieldOf t.regs Fl.ALC_STAT_STATE 0 = fieldOf s.regs Fl.ALC_STAT_STATE 0)
    (hv : fieldOf t.regs Fl.RNG_VIEWST_NMEM 0 = fieldOf s.regs Fl.RNG_VIEWST_NMEM 0)
    (hl : fieldOf t.regs Fl.TIM_CTL_LOCK 0 = fieldOf s.regs Fl.TIM_CTL_LOCK 0) : t.runlock = s.runlock := by
  simp only [State.runlock, State.inView, State.b_fieldOf, State.f_fieldOf, hg, ha, hv, hl]

/-- The pending step is taken. -/
def stepTaken (s : State) : State := { (foldedState s).setB Fl.TIM_STAT_STEPPEND 0 false with time.stepPend := none }

theorem stepTaken_runlock (s : State) : (stepTaken s).runlock = s.runlock := by
  refine runlock_congr (fun g => ?_) ?_ ?_ ?_ <;>
  · refine (fieldOf_setB_apart (foldedState s) Fl.TIM_STAT_STEPPEND _ 0 _ false (by decide)).trans ?_
    exact fieldOf_foldedState s _ (by decide)

theorem stepTaken_time (s : State) : (stepTaken s).time = { s.time with stepPend := none } := by
  simp [stepTaken, foldedState_time, State.setB]

theorem stepTaken_pend (s : State) : fieldOf (stepTaken s).regs Fl.TIM_STAT_STEPPEND 0 = 0 :=
  fieldOf_setB_same (foldedState s) Fl.TIM_STAT_STEPPEND 0 false (by decide) (by decide) (by decide)

theorem stepAtFold_pending {s : State} {ms : Int} (h : s.time.stepPend = some ms) : stepAtFold (foldedState s) =
    if s.runlock then stepRefused (stepTaken s) else timeStep ms (stepTaken s) := by
  rw [← stepTaken_runlock, stepAtFold, foldedState_time, h]
  rfl

theorem stepAtFold_none {s : State} (h : s.time.stepPend = none) : stepAtFold (foldedState s) = foldedState s := by
  rw [stepAtFold, foldedState_time, h]

theorem schedule_time (s : State) : (schedule s).time = s.time :=
  State.time_of_without (A := { onlyRegs [R.BIL_NEXTH, R.BIL_NEXTL] with time := false })
    (schedule_writes (by decide) (by decide) rfl rfl s) rfl

theorem timeStep_time (ms : Int) (s : State) : (timeStep ms s).time =
    { s.time with now := unsignedOf 96 ((s.time.now : Int) + ms * 1000000 * 2 ^ 32)
                  koff := s.time.koff - ms * 1000000 } := by
  have hmoved : (timeMoved (ms * 1000000) s).time =
      { s.time with now := unsignedOf 96 ((s.time.now : Int) + ms * 1000000 * 2 ^ 32) } :=
    State.each_induct (P := fun u => u.time = { s.time with
      now := unsignedOf 96 ((s.time.now : Int) + ms * 1000000 * 2 ^ 32) }) (fun j u h => h) rfl 24
  rw [timeStep_eq, deviceStepped, schedule_time]
  simp [State.work, State.setQi, hmoved]

theorem fieldOf_timeStep {fl : Fld} (ms : Int) (s : State) (i : Nat) (h : (!regsIn [R.BIL_KOFFH, R.BIL_KOFFL,
    R.BIL_NEXTH, R.BIL_NEXTL] fl.reg.addr && decide (fl.reg.count ≤ 65536)) = true) :
    fieldOf (timeStep ms s).regs fl i = fieldOf s.regs fl i :=
  fieldOf_onlyRegs (timeStep_writes (by decide) (by decide) (by decide) (by decide) rfl rfl rfl ms s) i h

theorem calendarAtFold_none {s : State} (h : s.time.calPend = none) : calendarAtFold s = s := by
  rw [calendarAtFold, h]

theorem fold_steps {s : State} {ms : Int} (h : s.time.stepPend = some ms) (hl : s.runlock = false)
    (hc : s.time.calPend = none) : Answers .fold s fun u => u.time.stepPend = none ∧
      u.f Fl.TIM_STAT_STEPPEND = 0 ∧ u.time.koff = s.time.koff - ms * 1000000 ∧
      u.time.now = unsignedOf 96 ((s.time.now : Int) + ms * 1000000 * 2 ^ 32) := by
  have ht : (timeStep ms (stepTaken s)).time = _ := timeStep_time ms (stepTaken s)
  rw [stepTaken_time] at ht
  have he : foldInstant s = timeStep ms (stepTaken s) := by
    rw [foldInstant_eq, stepAtFold_pending h, if_neg (by simp [hl]), calendarAtFold_none (by rw [ht, hc])]
  refine answers_done (congrArg done he) ?_
  rw [time_settle, ht, State.f_fieldOf, fieldOf_settle _ _ _ (by decide), fieldOf_timeStep _ _ _ (by decide)]
  exact ⟨rfl, stepTaken_pend s, rfl, rfl⟩

/-! ### The calendar (R539, R540) -/

theorem kChange_time (new : Int) (src : Nat) (s : State) :
    ∃ k, (kChange new src s).time = { s.time with koff := k } := by
  unfold kChange
  dsimp only
  split_ifs
  · exact ⟨new, by simp [State.setQi]⟩
  · exact ⟨new, rfl⟩
  · refine ⟨s.time.koff, ?_⟩
    exact State.time_of_without (A := { onlyRegs [R.BIL_STAT, R.BIL_TCOUNT, R.BIL_TFIRSTH, R.BIL_TFIRSTL, R.BIL_TLASTH,
      R.BIL_TLASTL, R.EVT_PEND] with time := false }) (by
        rw [tamper_writes (by decide) (by decide) (by decide) (by decide) (by decide) (by decide) (by decide),
          bilCause_writes (by decide) (by decide)]) rfl
  · exact ⟨new, by simp [State.work, State.setQi]⟩

/-- Without billing, or for a small change, K is as asked. -/
theorem kChange_taken {new : Int} (src : Nat) {s : State} (h : s.f Fl.BIL_CTL_EN = 0 ∨
    (new - s.bilK).natAbs ≤ min 60000 (s.f Fl.BIL_STEPTH_STEPTH) * 1000000) :
    (kChange new src s).time.koff = new := by
  unfold kChange
  dsimp only
  split_ifs with h1 h2
  · simp [State.setQi]
  · rfl
  · exact absurd (h.resolve_left (by simpa [State.b] using h1)) (by simpa using h2)
  · exact absurd (h.resolve_left (by simpa [State.b] using h1)) (by simpa using h2)

theorem fieldOf_kChange {fl : Fld} (new : Int) (src : Nat) (s : State) (i : Nat) (h : (!regsIn [R.BIL_KOFFH,
    R.BIL_KOFFL, R.BIL_STAT, R.BIL_TCOUNT, R.BIL_TFIRSTH, R.BIL_TFIRSTL, R.BIL_TLASTH, R.BIL_TLASTL,
    R.EVT_PEND] fl.reg.addr && decide (fl.reg.count ≤ 65536)) = true) :
    fieldOf (kChange new src s).regs fl i = fieldOf s.regs fl i :=
  fieldOf_onlyRegs (kChange_writes (by decide) (by decide) (by decide) (by decide) (by decide) (by decide) (by decide)
    (by decide) (by decide) rfl rfl new src s) i h

/-- The calendar set is taken: validity is shown. -/
def calendarTaken (s : State) : State :=
  let s := { s.setB Fl.TIM_STAT_CALPEND 0 false with time.calPend := none }
  (s.setB Fl.TIM_STAT_CALVALID 0 true).when s.time.oscRunning (fun s => s.setB Fl.TIM_STAT_RTCVALID 0 true)

theorem calendarAtFold_pending {s : State} {utc : Int} {src : Nat} (h : s.time.calPend = some (utc, src)) :
    calendarAtFold s = timCause 3 (kChange (utc - ((calendarTaken s).now : Int)) src (calendarTaken s)) := by
  rw [calendarAtFold, h]
  rfl

theorem calendarTaken_time (s : State) : (calendarTaken s).time = { s.time with calPend := none } := by
  dsimp only [calendarTaken, State.when]
  split <;> simp [State.setB]

theorem fieldOf_calendarTaken {fl : Fld} (i : Nat) (s : State) (h1 : Fl.TIM_STAT_CALPEND.apart fl = true)
    (h2 : Fl.TIM_STAT_CALVALID.apart fl = true) (h3 : Fl.TIM_STAT_RTCVALID.apart fl = true) :
    fieldOf (calendarTaken s).regs fl i = fieldOf s.regs fl i := by
  dsimp only [calendarTaken]
  rw [fieldOf_when (fun u => fieldOf_setB_apart u _ _ _ _ _ h3), fieldOf_setB_apart _ _ _ _ _ _ h2]
  exact fieldOf_setB_apart s _ _ _ _ _ h1

theorem timCause_time (j : Nat) (s : State) : (timCause j s).time = s.time := State.causeOn_time ..

theorem stepRefused_time (s : State) : (stepRefused s).time = s.time :=
  (timCause_time ..).trans (State.setF_time ..)

/-- With its oscillator running the RTC becomes valid. -/
theorem calendarTaken_rtc {s : State} (h : s.time.oscRunning = true) :
    fieldOf (calendarTaken s).regs Fl.TIM_STAT_RTCVALID 0 = 1 := by
  unfold calendarTaken
  dsimp only
  rw [show (s.setB Fl.TIM_STAT_CALPEND 0 false).time = s.time from State.setF_time .., h, State.when_true]
  exact fieldOf_setB_same _ _ _ _ (by decide) (by decide) (by decide)

theorem calendarAtFold_keeps (s : State) : (calendarAtFold s).time.stepPend = s.time.stepPend ∧
    (calendarAtFold s).time.now = s.time.now := by
  cases h : s.time.calPend with
  | none => rw [calendarAtFold_none h]; exact ⟨rfl, rfl⟩
  | some x =>
    obtain ⟨k, hk⟩ := kChange_time (x.1 - ((calendarTaken s).now : Int)) x.2 (calendarTaken s)
    rw [calendarAtFold_pending h, timCause_time, hk, calendarTaken_time]
    exact ⟨rfl, rfl⟩

theorem fieldOf_calendarAtFold {fl : Fld} (i : Nat) (s : State) (h1 : Fl.TIM_STAT_CALPEND.apart fl = true)
    (h2 : Fl.TIM_STAT_CALVALID.apart fl = true) (h3 : Fl.TIM_STAT_RTCVALID.apart fl = true)
    (hc : Fl.TIM_STAT_CAUSE.apart fl = true) (hp : Fl.EVT_PEND_PEND.apart fl = true)
    (hk : (!regsIn [R.BIL_KOFFH, R.BIL_KOFFL, R.BIL_STAT, R.BIL_TCOUNT, R.BIL_TFIRSTH, R.BIL_TFIRSTL, R.BIL_TLASTH,
      R.BIL_TLASTL, R.EVT_PEND] fl.reg.addr && decide (fl.reg.count ≤ 65536)) = true) :
    fieldOf (calendarAtFold s).regs fl i = fieldOf s.regs fl i := by
  cases h : s.time.calPend with
  | none => rw [calendarAtFold_none h]
  | some x =>
    rw [calendarAtFold_pending h, fieldOf_timCause _ _ _ hc hp, fieldOf_kChange _ _ _ _ hk,
      fieldOf_calendarTaken _ _ h1 h2 h3]

theorem cause_calendarAtFold {k : Nat} (hk : k < 8) {s : State} (h : bitOf (s.f Fl.TIM_STAT_CAUSE) k = true) :
    bitOf (fieldOf (calendarAtFold s).regs Fl.TIM_STAT_CAUSE 0) k = true := by
  cases hc : s.time.calPend with
  | none => rw [calendarAtFold_none hc]; exact h
  | some x =>
    rw [calendarAtFold_pending hc]
    refine bitOf_causeOn_keeps (by decide) (by decide) (by decide) hk (by decide) ?_
    rw [State.f_fieldOf, fieldOf_kChange _ _ _ _ (by decide), fieldOf_calendarTaken _ _ (by decide) (by decide)
      (by decide)]
    exact h

theorem fold_refuses {s : State} {ms : Int} (h : s.time.stepPend = some ms) (hl : s.runlock = true) :
    Answers .fold s fun u => u.time.stepPend = none ∧ u.f Fl.TIM_STAT_STEPPEND = 0 ∧ u.f Fl.TIM_STAT_STEPERR = 1 ∧
      bitOf (u.f Fl.TIM_STAT_CAUSE) 4 = true ∧ u.time.now = s.time.now := by
  let w := stepTaken s
  have hw : w.time = { s.time with stepPend := none } := stepTaken_time s
  have hwp : fieldOf w.regs Fl.TIM_STAT_STEPPEND 0 = 0 := stepTaken_pend s
  have he : foldInstant s = calendarAtFold (stepRefused w) := by
    rw [foldInstant_eq, stepAtFold_pending h, if_pos hl]
  clear_value w
  have htime : (stepRefused w).time = { s.time with stepPend := none } := by
    rw [stepRefused_time, hw]
  obtain ⟨h1, h2⟩ := calendarAtFold_keeps (stepRefused w)
  refine answers_done (congrArg done he) ?_
  rw [time_settle, h1, h2, htime]
  simp (disch := decide) only [State.f_fieldOf, fieldOf_settle]
  rw [fieldOf_calendarAtFold _ _ (by decide) (by decide) (by decide) (by decide) (by decide) (by decide),
    fieldOf_calendarAtFold _ _ (by decide) (by decide) (by decide) (by decide) (by decide) (by decide)]
  refine ⟨trivial, ?_, ?_, cause_calendarAtFold (by decide) ?_, trivial⟩
  · rw [stepRefused, fieldOf_timCause _ _ _ (by decide) (by decide), fieldOf_setB_apart _ _ _ _ _ _ (by decide), hwp]
  · rw [stepRefused, fieldOf_timCause _ _ _ (by decide) (by decide)]
    exact fieldOf_setB_same _ _ _ _ (by decide) (by decide) (by decide)
  · exact bitOf_causeOn _ _ _ _ _ _ (by decide) (by decide) (by decide) (by decide)

theorem fold_sets {s : State} {utc : Int} {src : Nat} (hs : s.time.stepPend = none)
    (h : s.time.calPend = some (utc, src)) : Answers .fold s fun u =>
      u.time.calPend = none ∧ u.f Fl.TIM_STAT_CALPEND = 0 ∧ u.f Fl.TIM_STAT_CALVALID = 1 ∧
        bitOf (u.f Fl.TIM_STAT_CAUSE) 3 = true ∧ u.time.now = s.time.now ∧
        (s.time.oscRunning = true → u.f Fl.TIM_STAT_RTCVALID = 1) ∧
        (s.f Fl.BIL_CTL_EN = 0 → u.time.koff = (utc : Int) - s.now) := by
  let w := calendarTaken (foldedState s)
  have hwt : w.time = { s.time with calPend := none } := by
    rw [show w.time = _ from calendarTaken_time _, foldedState_time]
  have hnow : w.now = s.now := (congrArg (fun t : TimeState => t.now / 2 ^ 32 % 2 ^ 64) hwt).trans rfl
  have he : foldInstant s = timCause 3 (kChange (utc - (w.now : Int)) src w) := by
    rw [foldInstant_eq, stepAtFold_none hs, calendarAtFold_pending (by rw [foldedState_time]; exact h)]
  have hen : w.f Fl.BIL_CTL_EN = s.f Fl.BIL_CTL_EN :=
    (fieldOf_calendarTaken _ _ (by decide) (by decide) (by decide)).trans (fieldOf_foldedState s _ (by decide))
  have hpend : fieldOf w.regs Fl.TIM_STAT_CALPEND 0 = 0 := by
    dsimp only [w, calendarTaken]
    rw [fieldOf_when (fun u => fieldOf_setB_apart u _ _ _ _ _ (by decide)), fieldOf_setB_apart _ _ _ _ _ _ (by decide)]
    exact fieldOf_setB_same (foldedState s) _ _ _ (by decide) (by decide) (by decide)
  have hvalid : fieldOf w.regs Fl.TIM_STAT_CALVALID 0 = 1 := by
    dsimp only [w, calendarTaken]
    rw [fieldOf_when (fun u => fieldOf_setB_apart u _ _ _ _ _ (by decide))]
    exact fieldOf_setB_same _ _ _ _ (by decide) (by decide) (by decide)
  have hrtc : s.time.oscRunning = true → fieldOf w.regs Fl.TIM_STAT_RTCVALID 0 = 1 := by
    intro hosc
    exact calendarTaken_rtc (by rw [foldedState_time]; exact hosc)
  clear_value w
  obtain ⟨k, hk⟩ := kChange_time (utc - (w.now : Int)) src w
  refine answers_done (congrArg done he) ?_
  rw [time_settle, timCause_time]
  simp (disch := decide) only [State.f_fieldOf, fieldOf_settle, fieldOf_timCause, fieldOf_kChange]
  refine ⟨by rw [hk, hwt], hpend, hvalid, ?_, by rw [hk, hwt], hrtc, fun h0 => ?_⟩
  · exact bitOf_causeOn _ _ _ _ _ _ (by decide) (by decide) (by decide) (by decide)
  · rw [kChange_taken src (.inl (hen.trans h0)), hnow]

/-! ### Commands of the time block -/

theorem incrementWrite_takes (ns : Nat) (s : State) : Answers (.incrementWrite ns) s fun u =>
    u.time.inc = max 21453361644 (min 21496311316 (s.f Fl.TIM_INCL_FRAC + ns % 16 * 2 ^ 32)) ∧
      u.f Fl.TIM_INCL_FRAC = u.time.inc % 2 ^ 32 ∧ u.f Fl.TIM_INCH_NS = u.time.inc / 2 ^ 32 := by
  let x := clampNat incMin incMax (s.f Fl.TIM_INCL_FRAC + ns % 16 * 2 ^ 32)
  have hx : x ≤ 21496311316 := Nat.max_le.mpr ⟨by decide, Nat.min_le_left _ _⟩
  have he : incrementWrite ns s = { (s.setF Fl.TIM_INCL_FRAC 0 x).setF Fl.TIM_INCH_NS 0 (x / 2 ^ 32) with
      time.inc := x } := rfl
  have hinc : x = max 21453361644 (min 21496311316 (s.f Fl.TIM_INCL_FRAC + ns % 16 * 2 ^ 32)) := rfl
  clear_value x
  have hns : x / 2 ^ 32 < 2 ^ Fl.TIM_INCH_NS.width := show x / 2 ^ 32 < 16 by omega
  refine answers_done (congrArg done he) ?_
  simp only [time_settle]
  refine ⟨hinc, ?_, ?_⟩
  · rw [State.f_fieldOf, fieldOf_settle _ _ _ (by decide)]
    exact (fieldOf_setF_apart _ _ _ _ _ _ (by decide)).trans (fieldOf_setF_same _ _ _ _ (by decide) (by decide))
  · rw [State.f_fieldOf, fieldOf_settle _ _ _ (by decide)]
    exact fieldOf_setF_fits _ _ _ _ (by decide) (by decide) hns

theorem stepRequest_refused (ms : Int) {s : State} (h : s.runlock = true) : Answers (.timeStepRequest ms) s fun u =>
    u.f Fl.TIM_STAT_STEPERR = 1 ∧ bitOf (u.f Fl.TIM_STAT_CAUSE) 4 = true ∧ u.time.stepPend = s.time.stepPend := by
  refine answers_done (congrArg done (if_pos h)) ?_
  rw [time_settle, stepRefused_time]
  simp (disch := decide) only [State.f_fieldOf, fieldOf_settle, stepRefused, fieldOf_timCause]
  exact ⟨fieldOf_setB_same _ _ _ _ (by decide) (by decide) (by decide),
    bitOf_causeOn _ _ _ _ _ _ (by decide) (by decide) (by decide) (by decide), trivial⟩

theorem stepRequest_taken (ms : Int) {s : State} (h : s.runlock = false) : Answers (.timeStepRequest ms) s fun u =>
    u.time.stepPend = (if ms = 0 then none else some ms) ∧ u.f Fl.TIM_STAT_STEPPEND = if ms = 0 then 0 else 1 := by
  by_cases h0 : ms = 0
  · refine answers_done (congrArg done ((if_neg (by simp [h])).trans (if_pos h0))) ?_
    rw [time_settle, if_pos h0, if_pos h0, State.f_fieldOf, fieldOf_settle _ _ _ (by decide)]
    exact ⟨rfl, fieldOf_setB_same s _ _ _ (by decide) (by decide) (by decide)⟩
  · refine answers_done (congrArg done ((if_neg (by simp [h])).trans (if_neg h0))) ?_
    rw [time_settle, if_neg h0, if_neg h0, State.f_fieldOf, fieldOf_settle _ _ _ (by decide)]
    exact ⟨rfl, fieldOf_setB_same s _ _ _ (by decide) (by decide) (by decide)⟩

theorem runlockSet_locks (s : State) : Answers .runlockSet s fun u =>
    u.f Fl.TIM_CTL_LOCK = 1 ∧ u.runlock = true := by
  have hl : fieldOf (s.setB Fl.TIM_CTL_LOCK 0 true).settle.regs Fl.TIM_CTL_LOCK 0 = 1 := by
    simp (disch := decide)
  exact answers_done rfl ⟨hl, by simp [State.runlock, State.b_fieldOf, hl]⟩

theorem calendarSet_pends {src : Nat} (hs : src < 8) (s : State) : Answers (.calendarSet src) s fun u =>
    u.f Fl.TIM_STAT_CALPEND = 1 ∧ u.f Fl.TIM_CALCTL_SRC = src ∧
      u.time.calPend = some ((s.q R.TIM_CALSETL R.TIM_CALSETH : Int), src) := by
  have hq : (s.setF Fl.TIM_CALCTL_SRC 0 src).q R.TIM_CALSETL R.TIM_CALSETH = s.q R.TIM_CALSETL R.TIM_CALSETH := by
    rw [State.q_quantOf, State.q_quantOf, quantOf_setF_apart _ _ _ _ _ _ _ (by decide) (by decide)]
  have he : calendarSet src s = { (s.setF Fl.TIM_CALCTL_SRC 0 src).setB Fl.TIM_STAT_CALPEND 0 true with
      time.calPend := some ((s.q R.TIM_CALSETL R.TIM_CALSETH : Int), src) } := by
    rw [calendarSet, hq, Nat.mod_eq_of_lt hs]
  refine answers_done (congrArg done he) ?_
  rw [time_settle]
  simp (disch := decide) only [State.f_fieldOf, fieldOf_settle]
  exact ⟨fieldOf_setB_same _ _ _ _ (by decide) (by decide) (by decide),
    (fieldOf_setB_apart _ _ _ _ _ _ (by decide)).trans (fieldOf_setF_fits _ _ _ _ (by decide) (by decide) hs), trivial⟩

/-! ### The leap second -/

/-- The leap second is done: TAIUTC counts. -/
def leapDone (s : State) : State :=
  let t := s.f Fl.TIM_LEAP_TAIUTC
  s.setF Fl.TIM_LEAP_PEND 0 0 |>.setF Fl.TIM_LEAP_TAIUTC 0 (if s.f Fl.TIM_LEAP_PEND = 1 then t + 1 else t + 255)

theorem leapSecond_due {s : State} (hp : s.f Fl.TIM_LEAP_PEND = 1 ∨ s.f Fl.TIM_LEAP_PEND = 2)
    (ht : ((s.f Fl.TIM_LEAPAT_S * 1000000000 : Nat) : Int) ≤ s.calendar) :
    let new := s.time.koff + if s.f Fl.TIM_LEAP_PEND = 1 then -1000000000 else 1000000000
    Answers .leapSecond s fun u => u.f Fl.TIM_LEAP_PEND = 0 ∧
      u.f Fl.TIM_LEAP_TAIUTC = (s.f Fl.TIM_LEAP_TAIUTC + if s.f Fl.TIM_LEAP_PEND = 1 then 1 else 255) % 256 ∧
      (s.f Fl.BIL_CTL_EN = 0 ∨ (new - s.bilK).natAbs ≤ min 60000 (s.f Fl.BIL_STEPTH_STEPTH) * 1000000 →
        u.time.koff = new) := by
  intro new
  let w := leapDone s
  have hk : w.time.koff = s.time.koff := by simp [w, leapDone]
  have he : leapSecond s = kChange new (if w.b Fl.TIM_CTL_SYNC then 3 else 1) w := by
    have hdue : ((s.f Fl.TIM_LEAP_PEND == 1 || s.f Fl.TIM_LEAP_PEND == 2) &&
        decide (((s.f Fl.TIM_LEAPAT_S * 1000000000 : Nat) : Int) ≤ s.calendar)) = true := by
      simp only [Bool.and_eq_true, Bool.or_eq_true, beq_iff_eq, decide_eq_true_eq]
      exact ⟨hp, ht⟩
    rw [leapSecond, if_neg (by rw [hdue]; decide)]
    change kChange (w.time.koff + _) _ w = _
    rw [hk]
    rfl
  have hen : w.f Fl.BIL_CTL_EN = s.f Fl.BIL_CTL_EN := by simp (disch := decide) [w, leapDone, State.f_fieldOf]
  have hst : w.f Fl.BIL_STEPTH_STEPTH = s.f Fl.BIL_STEPTH_STEPTH := by
    simp (disch := decide) [w, leapDone, State.f_fieldOf]
  have hbk : w.bilK = s.bilK := by
    simp (disch := decide) only [State.bilK, State.qi, State.q_quantOf, w, leapDone, quantOf_setF_apart]
  have hpend : fieldOf w.regs Fl.TIM_LEAP_PEND 0 = 0 := by simp (disch := decide) [w, leapDone]
  have htai : fieldOf w.regs Fl.TIM_LEAP_TAIUTC 0 =
      (s.f Fl.TIM_LEAP_TAIUTC + if s.f Fl.TIM_LEAP_PEND = 1 then 1 else 255) % 256 := by
    refine (fieldOf_setF_same _ _ _ _ (by decide) (by decide)).trans ?_
    split <;> rfl
  clear_value w
  refine answers_done (congrArg done he) ?_
  rw [time_settle]
  simp (disch := decide) only [State.f_fieldOf, fieldOf_settle, fieldOf_kChange]
  refine ⟨hpend, htai, fun h => kChange_taken _ ?_⟩
  rw [hen, hst, hbk]
  exact h

theorem leapSecond_not_due {s : State} (h : ¬((s.f Fl.TIM_LEAP_PEND = 1 ∨ s.f Fl.TIM_LEAP_PEND = 2) ∧
    ((s.f Fl.TIM_LEAPAT_S * 1000000000 : Nat) : Int) ≤ s.calendar)) : Answers .leapSecond s fun u =>
      u.time.koff = s.time.koff ∧ u.f Fl.TIM_LEAP_PEND = s.f Fl.TIM_LEAP_PEND := by
  refine answers_done (congrArg done (if_pos ?_)) ?_
  · rw [Bool.not_eq_true', ← Bool.not_eq_true]
    simpa only [Bool.and_eq_true, Bool.or_eq_true, beq_iff_eq, decide_eq_true_eq] using h
  · rw [time_settle, State.f_fieldOf, fieldOf_settle _ _ _ (by decide)]
    exact ⟨rfl, rfl⟩

/-- Settles O46: the fold of each meter, pending steps and calendar sets, and the commands of the time block. -/
theorem foldAndCalendar : Obligations.FoldAndCalendar := by
  intro s
  exact ⟨fun m hm hrun h1 h2 => fold_meters hm hrun h1 h2, fun ms h => ⟨fold_steps h, fold_refuses h⟩,
    fun utc src hs h => fold_sets hs h, fun ns => incrementWrite_takes ns s,
    fun ms => ⟨stepRequest_refused ms, stepRequest_taken ms⟩, runlockSet_locks s,
    fun src hs => calendarSet_pends hs s, fun h => leapSecond_due h.1 h.2, leapSecond_not_due⟩

end Sys2Proof.Machine

/-! ## The storage estimator (R506 to R524) -/

namespace Sys2Proof.Machine

set_option Elab.async false

theorem State.pk_member (s : State) (k : Nat) : s.pk k = memberOf s.est.pack k {} := rfl

theorem pk_of_est {s t : State} (h : t.est = s.est) (k : Nat) : t.pk k = s.pk k := by
  rw [State.pk, h]
  rfl

theorem pk_settle (s : State) (k : Nat) : s.settle.pk k = s.pk k :=
  pk_of_est (State.est_of_without (State.settle_settled _) rfl) k

theorem pk_setPk {k : Nat} (hk : k < 9) (s : State) (f : Pack → Pack) : (s.setPk k f).pk k = f (s.pk k) :=
  memberOf_set_same s.est.pack _ {} hk

theorem pkOn_lt {s : State} {k : Nat} (h : s.pkOn k = true) : k < 9 := by
  simp only [State.pkOn, Bool.and_eq_true, decide_eq_true_eq] at h
  exact h.1

theorem pkOn_en {s : State} {k : Nat} (h : s.pkOn k = true) : s.b Fl.EST_CFG_EN k = true := by
  simp only [State.pkOn, Bool.and_eq_true] at h
  exact h.2

theorem pkOn_of_field {s t : State} {k : Nat} (h : s.pkOn k = true)
    (he : fieldOf t.regs Fl.EST_CFG_EN k = fieldOf s.regs Fl.EST_CFG_EN k) : t.pkOn k = true := by
  rw [State.pkOn, State.b_fieldOf, he, ← State.b_fieldOf]
  exact h

theorem estCause_shows (j : Nat) (hj : j < 8) (s : State) :
    bitOf (fieldOf (estCause j s).regs Fl.EST_STAT_CAUSE 0) j = true :=
  bitOf_causeOn _ _ _ _ _ _ (by decide) (by decide) hj (by decide)

theorem fieldOf_estCause {fl : Fld} (j i : Nat) (s : State) (h : Fl.EST_STAT_CAUSE.apart fl = true)
    (hp : Fl.EVT_PEND_PEND.apart fl = true) : fieldOf (estCause j s).regs fl i = fieldOf s.regs fl i :=
  fieldOf_causeOn _ _ _ _ _ _ _ _ h hp

theorem regOf_estCause {r : Rg} (j i : Nat) (s : State) (h : R.EST_STAT.apart r = true)
    (hp : R.EVT_PEND.apart r = true) : regOf (estCause j s).regs r i = regOf s.regs r i :=
  regOf_causeOn _ _ _ _ _ _ _ _ h hp

theorem estCause_est (j : Nat) (s : State) : (estCause j s).est = s.est := State.causeOn_est ..

/-- The inverse of the OCV table is at most 100 %. -/
theorem ocvInverse_le (s : State) (k : Nat) (mv : Int) : s.ocvInverse k mv ≤ 10000 := by
  unfold State.ocvInverse
  split
  · omega
  · split
    · exact le_rfl
    · next i hi =>
      have hi20 : i < 20 := List.mem_range.mp (List.mem_of_find?_eq_some hi)
      have hmv : mv ≤ (s.ocvPoint k (i + 1) : Int) := by simpa using List.find?_some hi
      dsimp only
      split
      · omega
      · next hab =>
        have hpos : (0 : Int) < s.ocvPoint k (i + 1) - s.ocvPoint k i := by omega
        have hle : Int.tdiv ((mv - s.ocvPoint k i) * 500) (s.ocvPoint k (i + 1) - s.ocvPoint k i) ≤ 500 := by
          have hd : mv - s.ocvPoint k i ≤ s.ocvPoint k (i + 1) - s.ocvPoint k i := by omega
          rcases le_or_gt 0 ((mv - s.ocvPoint k i) * 500) with hn | hn
          · rw [Int.tdiv_eq_ediv_of_nonneg hn]
            exact Int.ediv_le_of_le_mul hpos (by linarith)
          · have hz := Int.tdiv_le_of_le_mul (b := 0) hpos (by linarith : (mv - s.ocvPoint k i) * 500 ≤ 0 * _)
            rw [if_neg (not_le.mpr hn)] at hz
            omega
        omega

/-- The OCV table is what the inverse reads. -/
theorem ocvInverse_congr {s t : State} (h : ∀ i, fieldOf t.regs Fl.EST_OCV_MV i = fieldOf s.regs Fl.EST_OCV_MV i)
    (k : Nat) (mv : Int) : t.ocvInverse k mv = s.ocvInverse k mv := by
  have hp : ∀ i, t.ocvPoint k i = s.ocvPoint k i := fun i => h _
  unfold State.ocvInverse
  simp only [hp]

/-! ### Limits of voltage (R515) -/

section
variable {k : Nat} {s : State} (h : s.pkOn k = true)
include h

/-- The measurement is taken: the impedance is learned and the hold of a limit noted. -/
def limitNoted (k : Nat) (mv ma : Int) (s : State) : State :=
  ((learnImpedance k mv ma s).setPk k fun x => { x with lastMs := some (mv, ma) }).setPk k fun x => { x with
    disHeld := x.disHeld || decide (mv ≤ (s.f Fl.EST_VMIN_V k : Int))
    chgHeld := x.chgHeld || decide ((s.f Fl.EST_VMAX_V k : Int) ≤ mv) }

omit h in
theorem regOf_limitNoted {r : Rg} (mv ma : Int) (i : Nat)
    (hr : (!regsIn [R.EST_IMP] r.addr && decide (r.count ≤ 65536)) = true) :
    regOf (limitNoted k mv ma s).regs r i = regOf s.regs r i :=
  regOf_onlyRegs (learnImpedance_writes (by decide) k mv ma s) i hr

theorem voltageLimit_eq (mv ma : Int) : voltageLimit k mv ma s =
    (((limitNoted k mv ma s).when (decide (mv ≤ (s.f Fl.EST_VMIN_V k : Int))) (fun s => s.setReg R.EST_DIS k 0)).when
      (decide ((s.f Fl.EST_VMAX_V k : Int) ≤ mv)) (fun s => s.setReg R.EST_CHG k 0)).when
        (decide (mv ≤ (s.f Fl.EST_VMIN_V k : Int)) || decide ((s.f Fl.EST_VMAX_V k : Int) ≤ mv)) (estCause 3) := by
  have hv : ∀ fl : Fld, (!regsIn [R.EST_IMP] fl.reg.addr && decide (fl.reg.count ≤ 65536)) = true →
      (learnImpedance k mv ma s).f fl k = s.f fl k := fun fl hf =>
    fieldOf_onlyRegs (learnImpedance_writes (by decide) k mv ma s) k hf
  rw [voltageLimit, if_neg (by simp [h])]
  unfold limitNoted
  rw [← hv Fl.EST_VMIN_V (by decide), ← hv Fl.EST_VMAX_V (by decide)]
  rfl

theorem voltage_low {mv : Int} (ma : Int) (hl : mv ≤ (s.f Fl.EST_VMIN_V k : Int)) :
    Answers (.voltageLimitCheck k mv ma) s fun t =>
      t.reg R.EST_DIS k = 0 ∧ bitOf (t.f Fl.EST_STAT_CAUSE) 3 = true := by
  have hk := pkOn_lt h
  have he := voltageLimit_eq h mv ma
  rw [decide_eq_true hl, Bool.true_or, State.when_true, State.when_true] at he
  refine answers_done (congrArg done he) ?_
  simp (disch := decide) only [State.reg_regOf, State.f_fieldOf, regOf_settle, fieldOf_settle, regOf_estCause]
  refine ⟨?_, estCause_shows 3 (by decide) _⟩
  unfold State.when
  split
  · rw [regOf_setReg_apart _ _ _ _ _ _ (by decide)]
    exact regOf_setReg_same _ _ _ _ (lt_of_lt_of_le hk (by decide))
  · exact regOf_setReg_same _ _ _ _ (lt_of_lt_of_le hk (by decide))

theorem voltage_high {mv : Int} (ma : Int) (hl : (s.f Fl.EST_VMAX_V k : Int) ≤ mv) :
    Answers (.voltageLimitCheck k mv ma) s fun t =>
      t.reg R.EST_CHG k = 0 ∧ bitOf (t.f Fl.EST_STAT_CAUSE) 3 = true := by
  have hk := pkOn_lt h
  have he := voltageLimit_eq h mv ma
  rw [decide_eq_true hl, Bool.or_true, State.when_true, State.when_true] at he
  refine answers_done (congrArg done he) ?_
  simp (disch := decide) only [State.reg_regOf, State.f_fieldOf, regOf_settle, fieldOf_settle, regOf_estCause]
  exact ⟨regOf_setReg_same _ _ _ _ (lt_of_lt_of_le hk (by decide)), estCause_shows 3 (by decide) _⟩

theorem voltage_inside {mv : Int} (ma : Int) (hl : (s.f Fl.EST_VMIN_V k : Int) < mv)
    (hh : mv < (s.f Fl.EST_VMAX_V k : Int)) : Answers (.voltageLimitCheck k mv ma) s fun t =>
      t.reg R.EST_DIS k = s.reg R.EST_DIS k ∧ t.reg R.EST_CHG k = s.reg R.EST_CHG k := by
  have he := voltageLimit_eq h mv ma
  rw [decide_eq_false (not_le.mpr hl), decide_eq_false (not_le.mpr hh), Bool.or_false, State.when_false,
    State.when_false, State.when_false] at he
  refine answers_done (congrArg done he) ?_
  simp (disch := decide) only [State.reg_regOf, regOf_settle, regOf_limitNoted]
  exact ⟨trivial, trivial⟩

/-! ### Counter checks, insertion and records (R506, R519, R520) -/

theorem counter_fails (hk8 : k < 8) : Answers (.counterCheck k false) s fun t => t.pkSt k = pkFault ∧
    t.reg R.EST_DIS k = 0 ∧ t.reg R.EST_CHG k = 0 ∧ bitOf (t.f Fl.EST_STAT_CAUSE) 4 = true := by
  have he : counterCheck k false s = estCause 4 ((((s.setF Fl.EST_SOCE_STATE k pkFault).setPk k fun x =>
      { x with passed := 0 }).setReg R.EST_DIS k 0).setReg R.EST_CHG k 0) := by
    rw [counterCheck, if_neg (by simp [h]; omega), if_pos (by decide)]
  refine answers_done (congrArg done he) ?_
  simp (disch := decide) only [State.pkSt, State.reg_regOf, State.f_fieldOf, regOf_settle, fieldOf_settle,
    regOf_estCause, fieldOf_estCause, fieldOf_setReg_apart]
  refine ⟨?_, ?_, ?_, estCause_shows 4 (by decide) _⟩
  · exact fieldOf_setF_fits s _ _ _ (lt_of_lt_of_le hk8 (by decide)) (by decide) (by decide)
  · rw [regOf_setReg_apart _ _ _ _ _ _ (by decide)]
    exact regOf_setReg_same _ _ _ _ (lt_of_lt_of_le hk8 (by decide))
  · exact regOf_setReg_same _ _ _ _ (lt_of_lt_of_le hk8 (by decide))

theorem counter_passes (hk8 : k < 8) (hf : s.pkSt k = pkFault) : Answers (.counterCheck k true) s fun t =>
    t.pkSt k = if 99 ≤ (s.pk k).passed then pkEstimating else pkFault := by
  let u := s.setPk k fun x => { x with passed := min ((s.pk k).passed + 1) 100 }
  have hu : u.pkSt k = pkFault := hf
  have he : counterCheck k true s = if u.pkSt k == pkFault && 100 ≤ (s.pk k).passed + 1 then
      u.setF Fl.EST_SOCE_STATE k pkEstimating else u := by
    rw [counterCheck, if_neg (by simp [h]; omega), if_neg (by decide)]
  clear_value u
  refine answers_done (congrArg done he) ?_
  simp only [State.pkSt, State.f_fieldOf] at hu ⊢
  rw [fieldOf_settle _ _ _ (by decide), hu]
  by_cases hp : 99 ≤ (s.pk k).passed
  · rw [if_pos (by simp; omega), if_pos hp]
    exact fieldOf_setF_fits _ _ _ _ (lt_of_lt_of_le hk8 (by decide)) (by decide) (by decide)
  · rw [if_neg (by simp; omega), if_neg hp]
    exact hu

end

end Sys2Proof.Machine

/-! ## Rest, records and insertion of a pack (R512, R519 to R521) -/

namespace Sys2Proof.Machine

set_option Elab.async false

theorem regs_packRecord (k : Nat) (s : State) : (packRecord k s).regs = s.regs := by
  unfold packRecord
  split <;> rfl

theorem pk_packRecord {k : Nat} (hk : k < 9) (s : State) : (packRecord k s).pk k =
    if s.nvOk then { s.pk k with saved := some { words := (packRegs k).map fun e => (e.1.addrAt e.2, s.reg e.1 e.2)
                                                 lastRest := (s.pk k).lastRest }, retry := false }
    else { s.pk k with retry := true } := by
  unfold packRecord
  split
  · exact pk_setPk hk _ _
  · exact pk_setPk hk _ _

theorem pk_packRecord_other {k j : Nat} (h : j ≠ k) (s : State) : (packRecord j s).pk k = s.pk k := by
  unfold packRecord
  split
  · exact memberOf_set_other s.est.pack _ {} h
  · exact memberOf_set_other s.est.pack _ {} h

theorem fieldOf_showDays {fl : Fld} (k i : Nat) (s : State)
    (h : (!regsIn [R.EST_DAYS, R.EST_STAT, R.EVT_PEND] fl.reg.addr && decide (fl.reg.count ≤ 65536)) = true) :
    fieldOf (showDays k s).regs fl i = fieldOf s.regs fl i :=
  fieldOf_onlyRegs (showDays_writes (by decide) (by decide) (by decide) k s) i h

theorem fieldOf_learnCapacity {fl : Fld} (k i : Nat) (s : State)
    (h : (!regsIn [R.EST_CAP, R.EST_STAT, R.EVT_PEND] fl.reg.addr && decide (fl.reg.count ≤ 65536)) = true) :
    fieldOf (learnCapacity k s).regs fl i = fieldOf s.regs fl i :=
  fieldOf_onlyRegs (learnCapacity_writes (by decide) (by decide) (by decide) k s) i h

theorem showDays_est (k : Nat) (s : State) : (showDays k s).est = s.est :=
  State.est_of_without (A := { onlyRegs [R.EST_DAYS, R.EST_STAT, R.EVT_PEND] with est := false })
    (showDays_writes (by decide) (by decide) (by decide) k s) rfl

theorem learnCapacity_time (k : Nat) (s : State) : (learnCapacity k s).time = s.time :=
  State.time_of_without (A := { onlyRegs [R.EST_CAP, R.EST_STAT, R.EVT_PEND] with time := false })
    (learnCapacity_writes (by decide) (by decide) (by decide) k s) rfl

/-- A rest shows the charge of the OCV table with its uncertainty. -/
def restShown (k : Nat) (s : State) : State :=
  s.setF Fl.EST_SOCE_SOCE k (s.ocvInverse k (signedOf 32 (s.reg R.EST_V k).toNat))
    |>.setF Fl.EST_SOC_U k (min 5000 (s.f Fl.EST_UCFG_UOCV k))

/-- The rest is noted in the pack's record. -/
def restNoted (k : Nat) (s : State) : State := s.setPk k fun x => { x with
  vrc := 0, lastRest := s.calendar, rest := some (s.f Fl.EST_SOCE_SOCE k, s.qi R.EST_QL R.EST_QH k) }

theorem restCorrect_eq {first : Bool} (k : Nat) (s : State) :
    ∃ u : State, u.time = s.time ∧ (∀ (fl : Fld) i, (!regsIn [R.EST_CAP, R.EST_STAT, R.EVT_PEND] fl.reg.addr &&
      decide (fl.reg.count ≤ 65536)) = true → fieldOf u.regs fl i = fieldOf (restShown k s).regs fl i) ∧
        restCorrect first k s = packRecord k (showDays k (restNoted k u)) := by
  have htime : (restShown k s).time = s.time := by simp [restShown]
  have hu : restCorrect first k s = packRecord k (showDays k (restNoted k ((restShown k s).when first
      (learnCapacity k)))) := rfl
  refine ⟨_, ?_, fun fl i hfl => ?_, hu⟩
  · cases first with
    | false => exact htime
    | true => exact (learnCapacity_time ..).trans htime
  · exact fieldOf_when (fun v => fieldOf_learnCapacity k i v hfl) _ _

theorem restCorrect_shows {first : Bool} {k : Nat} (hk : k < 9) (s : State) :
    let t := restCorrect first k s
    fieldOf t.regs Fl.EST_SOCE_STATE k = fieldOf s.regs Fl.EST_SOCE_STATE k ∧
      fieldOf t.regs Fl.EST_SOC_U k = min 5000 (s.f Fl.EST_UCFG_UOCV k) ∧
      fieldOf t.regs Fl.EST_SOCE_SOCE k = s.ocvInverse k (signedOf 32 (s.reg R.EST_V k).toNat) ∧
      (t.pk k).lastRest = s.calendar := by
  obtain ⟨u, htime, hf, he⟩ := restCorrect_eq (first := first) k s
  have hsoc : s.ocvInverse k (signedOf 32 (s.reg R.EST_V k).toNat) < 2 ^ Fl.EST_SOCE_SOCE.width :=
    lt_of_le_of_lt (ocvInverse_le ..) (by decide)
  have hu : min 5000 (s.f Fl.EST_UCFG_UOCV k) < 2 ^ Fl.EST_SOC_U.width :=
    lt_of_le_of_lt (Nat.min_le_left _ _) (by decide)
  have hcal : u.calendar = s.calendar := by rw [State.calendar, State.now, State.koff, htime]; rfl
  have hnoted : ∀ (fl : Fld) i, fieldOf (restNoted k u).regs fl i = fieldOf u.regs fl i := fun fl i => rfl
  dsimp only
  rw [he, regs_packRecord, fieldOf_showDays _ _ _ (by decide), fieldOf_showDays _ _ _ (by decide),
    fieldOf_showDays _ _ _ (by decide), hnoted, hnoted, hnoted, hf _ _ (by decide), hf _ _ (by decide),
    hf _ _ (by decide)]
  refine ⟨?_, ?_, ?_, ?_⟩
  · simp (disch := decide) [restShown]
  · exact fieldOf_setF_fits _ _ _ _ (lt_of_lt_of_le hk (by decide)) (by decide) hu
  · rw [restShown, fieldOf_setF_apart _ _ _ _ _ _ (by decide)]
    exact fieldOf_setF_fits _ _ _ _ (lt_of_lt_of_le hk (by decide)) (by decide) hsoc
  · have hpk : ((showDays k (restNoted k u)).pk k).lastRest = s.calendar := by
      rw [pk_of_est (showDays_est ..), restNoted, pk_setPk hk, hcal]
    rw [pk_packRecord hk]
    split <;> exact hpk

section
variable {k : Nat} {s : State} (h : s.pkOn k = true)
include h

theorem restStart_corrects (hs : s.pkSt k = pkEstimating) (hq : s.quiet k = true) :
    Answers (.restStart k) s fun t => t.pkSt k = pkRest ∧ t.f Fl.EST_SOC_U k = min 5000 (s.f Fl.EST_UCFG_UOCV k) ∧
      t.f Fl.EST_SOCE_SOCE k = s.ocvInverse k (signedOf 32 (s.reg R.EST_V k).toNat) ∧
      (t.pk k).lastRest = s.calendar := by
  have hk := pkOn_lt h
  obtain ⟨h1, h2, h3, h4⟩ := restCorrect_shows (first := true) hk (s.setF Fl.EST_SOCE_STATE k pkRest)
  rw [fieldOf_setF_fits _ _ _ _ (lt_of_lt_of_le hk (by decide)) (by decide) (by decide)] at h1
  rw [State.f_fieldOf, fieldOf_setF_apart _ _ _ _ _ _ (by decide)] at h2
  rw [ocvInverse_congr (fun i => fieldOf_setF_apart _ _ _ _ _ _ (by decide)), State.reg_regOf,
    regOf_setF_apart _ _ _ _ _ _ (by decide)] at h3
  have hcal : (s.setF Fl.EST_SOCE_STATE k pkRest).calendar = s.calendar := by
    rw [State.calendar, State.now, State.koff, State.setF_time]; rfl
  refine answers_done (congrArg done (if_pos (by simp [h, hs, hq]))) ?_
  rw [pk_settle]
  simp (disch := decide) only [State.pkSt, State.f_fieldOf, fieldOf_settle]
  exact ⟨h1, h2, h3, h4.trans hcal⟩

theorem restRepeat_corrects (hs : s.pkSt k = pkRest) :
    Answers (.restRepeat k) s fun t => t.pkSt k = pkRest ∧ t.f Fl.EST_SOC_U k = min 5000 (s.f Fl.EST_UCFG_UOCV k) ∧
      t.f Fl.EST_SOCE_SOCE k = s.ocvInverse k (signedOf 32 (s.reg R.EST_V k).toNat) ∧
      (t.pk k).lastRest = s.calendar := by
  obtain ⟨h1, h2, h3, h4⟩ := restCorrect_shows (first := false) (pkOn_lt h) s
  refine answers_done (congrArg done (if_pos (by simp [h, hs]))) ?_
  rw [pk_settle]
  simp (disch := decide) only [State.pkSt, State.f_fieldOf, fieldOf_settle] at hs ⊢
  exact ⟨h1.trans hs, h2, h3, h4⟩

/-- A pack as a record write in state `s` leaves it. -/
def State.recorded (s : State) (k : Nat) (p : Pack) : Pack :=
  if s.nvOk then { p with saved := some { words := (packRegs k).map fun e => (e.1.addrAt e.2, s.reg e.1 e.2)
                                          lastRest := p.lastRest }, retry := false }
  else { p with retry := true }

omit h in
theorem recorded_congr {u : State} (hr : u.regs = s.regs) (p : Pack) : u.recorded k p = s.recorded k p := by
  simp only [State.recorded, State.nvOk, State.b_fieldOf, State.reg_regOf, hr]

theorem packRecordWrite_writes : Answers .packRecordWrite s fun t => if s.nvOk then
    (t.pk k).saved = some { words := (packRegs k).map fun e => (e.1.addrAt e.2, s.reg e.1 e.2)
                            lastRest := (s.pk k).lastRest }
    else (t.pk k).retry = true := by
  have hk := pkOn_lt h
  have hpk : (packRecords s).pk k = s.recorded k (s.pk k) := by
    refine each_member_of (P := fun u => u.regs = s.regs) (fun u => u.pk k) (s.recorded k) hk (fun j u hu => ?_)
      (fun u hu => ?_) (fun j u hj => ?_) rfl
    · split
      · rw [regs_packRecord, hu]
      · exact hu
    · rw [if_pos (pkOn_of_field h (by rw [hu])), pk_packRecord hk, ← recorded_congr hu]
      rfl
    · split
      · exact pk_packRecord_other hj u
      · rfl
  refine answers_done rfl ?_
  rw [pk_settle, hpk, State.recorded]
  split <;> rfl

/-! ### Insertion and the first estimate (R508, R520) -/

/-- An inserted pack waits for its first estimate with its limits at 0. -/
def insertShown (k : Nat) (s : State) : State :=
  s.setF Fl.EST_SOCE_STATE k pkPending |>.setReg R.EST_DIS k 0 |>.setReg R.EST_CHG k 0

omit h in
theorem otherPack_congr {u : State} (hp : u.pk k = s.pk k) (hl : u.reg R.EST_PACKIDL k = s.reg R.EST_PACKIDL k)
    (hh : u.reg R.EST_PACKIDH k = s.reg R.EST_PACKIDH k) : u.otherPack k = s.otherPack k := by
  unfold State.otherPack
  rw [hp]
  split
  · rfl
  · simp only [List.any_cons, List.any_nil, hl, hh]

omit h in
theorem insertShown_otherPack : (insertShown k s).otherPack k = s.otherPack k := by
  refine otherPack_congr (pk_of_est (by simp [insertShown]) k) ?_ ?_ <;>
    simp (disch := decide) [State.reg_regOf, insertShown]

omit h in
theorem packInsert_regs : (packInsert k s).regs = ((insertShown k s).when (s.otherPack k) (newPack k)).regs := by
  rw [← insertShown_otherPack]
  unfold packInsert
  dsimp only
  split <;> rfl

theorem insertShown_shows : (insertShown k s).pkSt k = pkPending ∧ regOf (insertShown k s).regs R.EST_DIS k = 0 ∧
    regOf (insertShown k s).regs R.EST_CHG k = 0 := by
  have hk := pkOn_lt h
  refine ⟨?_, ?_, regOf_setReg_same _ _ _ _ (lt_of_lt_of_le hk (by decide))⟩
  · simp (disch := first | decide | (apply lt_of_lt_of_le hk; decide)) [State.pkSt, State.f_fieldOf, insertShown]
  · rw [insertShown, regOf_setReg_apart _ _ _ _ _ _ (by decide)]
    exact regOf_setReg_same _ _ _ _ (lt_of_lt_of_le hk (by decide))

omit h in
theorem fieldOf_newPack {fl : Fld} (i : Nat)
    (hf : (!regsIn [R.EST_CAP, R.EST_CYCLES] fl.reg.addr && decide (fl.reg.count ≤ 65536)) = true) :
    fieldOf (newPack k s).regs fl i = fieldOf s.regs fl i :=
  fieldOf_onlyRegs (newPack_writes (by decide) (by decide) rfl k s) i hf

omit h in
theorem regOf_newPack {r : Rg} (i : Nat)
    (hr : (!regsIn [R.EST_CAP, R.EST_CYCLES] r.addr && decide (r.count ≤ 65536)) = true) :
    regOf (newPack k s).regs r i = regOf s.regs r i :=
  regOf_onlyRegs (newPack_writes (by decide) (by decide) rfl k s) i hr

theorem newPack_shows : regOf (newPack k s).regs R.EST_CAP k = s.reg R.EST_CAPNOM k ∧
    regOf (newPack k s).regs R.EST_CYCLES k = 0 := by
  have hk := pkOn_lt h
  change regOf ((s.setReg R.EST_CAP k (s.reg R.EST_CAPNOM k)).setReg R.EST_CYCLES k 0).regs _ _ = _ ∧
    regOf ((s.setReg R.EST_CAP k (s.reg R.EST_CAPNOM k)).setReg R.EST_CYCLES k 0).regs _ _ = _
  rw [regOf_setReg_apart _ _ _ _ _ _ (by decide)]
  exact ⟨regOf_setReg_same _ _ _ _ (lt_of_lt_of_le hk (by decide)),
    regOf_setReg_same _ _ _ _ (lt_of_lt_of_le hk (by decide))⟩

/-- A pack is pending with its limits at 0, and a new one has its nominal capacity. -/
def Inserted (s : State) (k : Nat) (t : State) : Prop := t.pkSt k = pkPending ∧ t.reg R.EST_DIS k = 0 ∧
  t.reg R.EST_CHG k = 0 ∧ (s.otherPack k = true → t.reg R.EST_CAP k = s.reg R.EST_CAPNOM k ∧ t.reg R.EST_CYCLES k = 0)

theorem packInsert_inserts : Inserted s k (packInsert k s).settle := by
  obtain ⟨h1, h2, h3⟩ := insertShown_shows h
  have hnom : (insertShown k s).reg R.EST_CAPNOM k = s.reg R.EST_CAPNOM k := by
    simp (disch := decide) [State.reg_regOf, insertShown]
  have hnew := newPack_shows (s := insertShown k s) (k := k)
    (pkOn_of_field h (by simp (disch := decide) [insertShown]))
  simp only [Inserted]
  simp (disch := decide) only [State.pkSt, State.f_fieldOf, State.reg_regOf, fieldOf_settle, regOf_settle,
    packInsert_regs] at h1 hnom hnew ⊢
  cases hc : s.otherPack k with
  | false => exact ⟨h1, h2, h3, fun hf => absurd hf (by decide)⟩
  | true =>
    rw [State.when_true, fieldOf_newPack _ (by decide), regOf_newPack _ (by decide), regOf_newPack _ (by decide)]
    exact ⟨h1, h2, h3, fun _ => ⟨hnew.1.trans hnom, hnew.2⟩⟩

theorem packInsert_enters {mv : Int} (hv : ((s.f Fl.EST_VMIN_V k / 10 : Nat) : Int) < mv) :
    Answers (.packInsert k mv) s (Inserted s k) := by
  let u := (s.setB Fl.EST_CFG_PRESENT k true).setReg R.EST_V k (BitVec.ofInt 32 mv)
  have he : packAppears k mv s = packInsert k u := if_pos (by simpa [h] using hv)
  have hon : u.pkOn k = true := pkOn_of_field h (by simp (disch := decide) [u])
  have hother : u.otherPack k = s.otherPack k := by
    refine otherPack_congr (pk_of_est (by simp [u]) k) ?_ ?_ <;> simp (disch := decide) [u, State.reg_regOf]
  have hnom : u.reg R.EST_CAPNOM k = s.reg R.EST_CAPNOM k := by simp (disch := decide) [u, State.reg_regOf]
  clear_value u
  obtain ⟨h1, h2, h3, h4⟩ := packInsert_inserts hon
  rw [hother, hnom] at h4
  exact answers_done (congrArg done he) ⟨h1, h2, h3, h4⟩

theorem reestimate_enters : Answers (.reestimate k) s (Inserted s k) := by
  have he : estCommand 1 k s = packInsert k s := by
    rw [estCommand, if_neg (by have := pkOn_lt h; omega), if_pos rfl, if_pos h]
  exact answers_done (congrArg done he) (packInsert_inserts h)

theorem newpack_enters : Answers (.newpack k) s fun t => t.pkSt k = pkPending ∧
    t.reg R.EST_CAP k = s.reg R.EST_CAPNOM k ∧ t.reg R.EST_CYCLES k = 0 := by
  have hon : (newPack k s).pkOn k = true := pkOn_of_field h (fieldOf_newPack _ (by decide))
  have he : estCommand 2 k s = packInsert k (newPack k s) := by
    rw [estCommand, if_neg (by have := pkOn_lt h; omega), if_neg (by decide), if_pos rfl]
    exact if_pos hon
  obtain ⟨hcap, hcyc⟩ := newPack_shows h
  have hnom : (newPack k s).reg R.EST_CAPNOM k = s.reg R.EST_CAPNOM k := regOf_newPack _ (by decide)
  generalize newPack k s = u at he hon hcap hcyc hnom
  obtain ⟨h1, -, -, h4⟩ := packInsert_inserts hon
  refine answers_done (congrArg done he) ⟨h1, ?_⟩
  cases hc : u.otherPack k with
  | true => rw [← hnom]; exact h4 hc
  | false =>
    simp (disch := decide) only [State.reg_regOf, regOf_settle, packInsert_regs, hc, State.when_false, insertShown,
      regOf_setReg_apart, regOf_setF_apart]
    exact ⟨hcap, hcyc⟩

theorem firstEstimate_shows (hs : s.pkSt k = pkPending) : Answers (.firstEstimate k) s fun t =>
    t.pkSt k = pkEstimating ∧ t.f Fl.EST_SOC_SOCR k = t.f Fl.EST_SOCE_SOCE k ∧
      t.f Fl.EST_SOC_U k = (if s.quiet k then 500 else 1500) ∧ bitOf (t.f Fl.EST_STAT_CAUSE) 0 = true ∧
      (s.quiet k = true → t.f Fl.EST_SOCE_SOCE k = s.ocvInverse k (signedOf 32 (s.reg R.EST_V k).toNat)) := by
  have hk := pkOn_lt h
  let soc := if s.quiet k then s.ocvInverse k (signedOf 32 (s.reg R.EST_V k).toNat)
    else s.ocvInverse k (signedOf 32 (s.reg R.EST_V k).toNat -
      Int.tdiv (signedOf 32 (s.reg R.EST_I k).toNat * s.r0At k (s.f Fl.EST_SOCE_SOCE k)) 1000000)
  have he : firstEstimate k s = estCause 0 ((s.setF Fl.EST_SOCE_SOCE k soc |>.setF Fl.EST_SOC_SOCR k soc
      |>.setF Fl.EST_SOC_U k (if s.quiet k then 500 else 1500) |>.setF Fl.EST_SOCE_STATE k pkEstimating).setPk k fun x
        =>
        { x with vrc := 0, remCount := 0 }) := by
    rw [firstEstimate, if_neg (by simp [h, hs])]
  have hsoc : soc < 2 ^ Fl.EST_SOCE_SOCE.width := by
    refine lt_of_le_of_lt (b := 10000) ?_ (by decide)
    simp only [soc]
    split <;> exact ocvInverse_le ..
  have hsoc' : soc < 2 ^ Fl.EST_SOC_SOCR.width := hsoc
  have hu : (if s.quiet k then 500 else 1500) < 2 ^ Fl.EST_SOC_U.width := by split <;> decide
  have hquiet : s.quiet k = true → soc = s.ocvInverse k (signedOf 32 (s.reg R.EST_V k).toNat) := fun hq => if_pos hq
  clear_value soc
  have hset : ∀ (u : State) (f : Pack → Pack), (u.setPk k f).regs = u.regs := fun _ _ => rfl
  refine answers_done (congrArg done he) ?_
  simp (disch := decide) only [State.pkSt, State.f_fieldOf, fieldOf_settle]
  refine ⟨?_, ?_, ?_, estCause_shows 0 (by decide) _, fun hq => ?_⟩ <;>
    simp (disch := first | decide | exact hsoc | exact hsoc' | exact hu | (apply lt_of_lt_of_le hk; decide)) only
      [fieldOf_estCause, hset, fieldOf_setF_fits, fieldOf_setF_apart]
  exact hquiet hq

omit h in
theorem hpChargeEnd_ends (ma : Int) (s : State) : Answers (.hpChargeEnd ma) s fun t =>
    t.est.charging = if ma < (s.f Fl.EST_HPCFG_HPICHG : Int) then false else s.est.charging := by
  have hst : ∀ u : State, u.settle.est = u.est := fun u => State.est_of_without (State.settle_settled u) rfl
  refine answers_done rfl ?_
  rw [hst, hpChargeEnd]
  split <;> rfl

end

end Sys2Proof.Machine

/-! ## The 100 ms step of the estimator, and the holdover pack in Stow (R506 to R524) -/

namespace Sys2Proof.Machine

set_option Elab.async false

/-- The measurement of the step is shown. -/
def stepMeasured (k : Nat) (dq mv ma : Int) (s : State) : State :=
  let s := countCharge k dq s
  let s := s.setReg R.EST_V k (BitVec.ofInt 32 mv) |>.setReg R.EST_I k (BitVec.ofInt 32 ma)
    |>.setB Fl.EST_CFG_PRESENT k (decide ((s.f Fl.EST_VMIN_V k / 10 : Nat) < mv))
  s.when (s.packTemp k).isNone (estCause 4)

/-- A current ends the rest. -/
def restEnded (k : Nat) (ma : Int) (s : State) : State :=
  if s.pkSt k == pkRest && (s.f Fl.EST_REST_IREST k : Int) ≤ ma.natAbs
    then s.setF Fl.EST_SOCE_STATE k pkEstimating else s

/-- The charge is counted, corrected by the model and reported. -/
def stepEstimated (k : Nat) (dq mv ma : Int) (s : State) : State :=
  if s.pkSt k == pkEstimating || s.pkSt k == pkRest then
    let c := countSoc k dq s
    reportSoc k ma (growUncertainty k c.2 (modelStep k mv ma c.1))
  else s

/-- Limits, record and charging after the estimate. -/
def stepShown (k : Nat) (mv : Int) (s : State) : State :=
  let s := limitsRelease k mv (showDays k s)
  let s := showLimits k s
  let s := s.when (s.pk k).retry (packRecord k)
  if k == 8 then chargeHp mv (showHpOk mv s) else s

theorem estimatorStep_eq {k : Nat} {s : State} (dq mv ma : Int) (h : s.pkOn k = true) (hp : s.sys.phase = .running)
    (hw : s.f Fl.SYS_PWRSTAT_STATE ≤ 1) : estimatorStep k dq mv ma s =
      stepShown k mv (stepEstimated k dq mv ma (restEnded k ma (spanUncertainty k (stepMeasured k dq mv ma s)))) := by
  rw [estimatorStep, if_neg (by simp [h, hp, hw])]
  rfl

section
variable {k : Nat} {s : State} (hk : k < 9)

theorem stepShown_writes {A : Part} (h1 : A.regs R.EST_DAYS.addr = true) (h2 : A.regs R.EST_STAT.addr = true)
    (h3 : A.regs R.EVT_PEND.addr = true) (h4 : A.regs R.EST_CHG.addr = true) (h5 : A.regs R.EST_DIS.addr = true)
    (h6 : A.regs R.SYS_SUPSTAT.addr = true) (h7 : A.est = true) (mv : Int) (s : State) :
    (stepShown k mv s).without A = s.without A := by
  dsimp only [stepShown]
  rw [State.without_ite, chargeHp_writes h7, showHpOk_writes h2 h3 h6, ite_self,
    State.without_when (fun u => packRecord_writes h7 k u), showLimits_writes h4 h5, limitsRelease_writes h7,
    showDays_writes h1 h2 h3]

theorem fieldOf_stepShown {fl : Fld} (mv : Int) (i : Nat) (s : State) (h : (!regsIn [R.EST_DAYS, R.EST_STAT,
    R.EVT_PEND, R.EST_CHG, R.EST_DIS, R.SYS_SUPSTAT] fl.reg.addr && decide (fl.reg.count ≤ 65536)) = true) :
    fieldOf (stepShown k mv s).regs fl i = fieldOf s.regs fl i :=
  fieldOf_onlyRegs (stepShown_writes (by decide) (by decide) (by decide) (by decide) (by decide) (by decide) rfl mv s)
    i h

theorem regOf_stepShown {r : Rg} (mv : Int) (i : Nat) (s : State) (h : (!regsIn [R.EST_DAYS, R.EST_STAT,
    R.EVT_PEND, R.EST_CHG, R.EST_DIS, R.SYS_SUPSTAT] r.addr && decide (r.count ≤ 65536)) = true) :
    regOf (stepShown k mv s).regs r i = regOf s.regs r i :=
  regOf_onlyRegs (stepShown_writes (by decide) (by decide) (by decide) (by decide) (by decide) (by decide) rfl mv s)
    i h

/-- Registers that the estimate of a step may write. -/
def estimateRegs : List Rg := [R.EST_CYCLES, R.EST_R0, R.EST_SOC, R.EST_SOCE]

/-- From the measurement to the estimate. -/
def estimated (k : Nat) (dq mv ma : Int) (s : State) : State :=
  stepEstimated k dq mv ma (restEnded k ma (spanUncertainty k s))

theorem estimated_writes (dq mv ma : Int) (s : State) :
    (estimated k dq mv ma s).without (onlyRegs estimateRegs) = s.without (onlyRegs estimateRegs) := by
  have hest : ∀ u, (stepEstimated k dq mv ma u).without (onlyRegs estimateRegs) = u.without (onlyRegs estimateRegs) :=
    by
    intro u
    unfold stepEstimated
    dsimp only
    rw [State.without_ite, reportSoc_writes (by decide), growUncertainty_writes (by decide) rfl,
      modelStep_writes (by decide) (by decide) rfl, countSoc_writes (by decide) (by decide) rfl rfl, ite_self]
  rw [estimated, hest, restEnded, State.without_ite, State.without_setF (by decide), ite_self,
    spanUncertainty_writes (by decide) (by decide) rfl]

/-! ### The measurement -/

theorem fieldOf_countCharge {fl : Fld} (dq : Int) (i : Nat)
    (h : (!regsIn [R.EST_QH, R.EST_QL] fl.reg.addr && decide (fl.reg.count ≤ 65536)) = true) :
    fieldOf (countCharge k dq s).regs fl i = fieldOf s.regs fl i :=
  fieldOf_onlyRegs (countCharge_writes (by decide) (by decide) k dq s) i h

theorem fieldOf_when_estCause {fl : Fld} (c : Bool) (j i : Nat) (s : State) (h : Fl.EST_STAT_CAUSE.apart fl = true)
    (hp : Fl.EVT_PEND_PEND.apart fl = true) : fieldOf (s.when c (estCause j)).regs fl i = fieldOf s.regs fl i :=
  fieldOf_when (fun u => fieldOf_estCause j i u h hp) s c

theorem regOf_when_estCause {r : Rg} (c : Bool) (j i : Nat) (s : State) (h : R.EST_STAT.apart r = true)
    (hp : R.EVT_PEND.apart r = true) : regOf (s.when c (estCause j)).regs r i = regOf s.regs r i := by
  unfold State.when
  split
  · exact regOf_estCause j i s h hp
  · rfl

/-- The measured values in their registers. -/
def measuredShown (k : Nat) (dq mv ma : Int) (s : State) : State :=
  let s := countCharge k dq s
  s.setReg R.EST_V k (BitVec.ofInt 32 mv) |>.setReg R.EST_I k (BitVec.ofInt 32 ma)
    |>.setB Fl.EST_CFG_PRESENT k (decide ((s.f Fl.EST_VMIN_V k / 10 : Nat) < mv))

theorem packTemp_measured (dq mv ma : Int) : (measuredShown k dq mv ma s).packTemp k = s.packTemp k := by
  simp (disch := decide) only [State.packTemp, measuredShown, State.f_fieldOf, fieldOf_setB_apart, fieldOf_setReg_apart,
    fieldOf_countCharge]

theorem stepMeasured_eq (dq mv ma : Int) : stepMeasured k dq mv ma s =
    (measuredShown k dq mv ma s).when (s.packTemp k).isNone (estCause 4) := by
  rw [← packTemp_measured dq mv ma]
  rfl

theorem fieldOf_stepMeasured {fl : Fld} (dq mv ma : Int) (i : Nat) (h : (!regsIn [R.EST_QH, R.EST_QL] fl.reg.addr &&
    decide (fl.reg.count ≤ 65536)) = true) (hv : R.EST_V.apart fl.reg = true) (hi : R.EST_I.apart fl.reg = true)
    (hp : Fl.EST_CFG_PRESENT.apart fl = true) (hc : Fl.EST_STAT_CAUSE.apart fl = true)
    (he : Fl.EVT_PEND_PEND.apart fl = true) :
    fieldOf (stepMeasured k dq mv ma s).regs fl i = fieldOf s.regs fl i := by
  rw [stepMeasured_eq, fieldOf_when_estCause _ _ _ _ hc he, measuredShown, fieldOf_setB_apart _ _ _ _ _ _ hp,
    fieldOf_setReg_apart _ _ _ _ _ _ hi, fieldOf_setReg_apart _ _ _ _ _ _ hv, fieldOf_countCharge _ _ h]

include hk

theorem stepMeasured_shows (dq mv ma : Int) : regOf (stepMeasured k dq mv ma s).regs R.EST_V k = BitVec.ofInt 32 mv ∧
    regOf (stepMeasured k dq mv ma s).regs R.EST_I k = BitVec.ofInt 32 ma ∧
    quantOf (stepMeasured k dq mv ma s).regs R.EST_QL R.EST_QH k = (if s.f Fl.EST_SHUNT_SHUNT k = 0 then
      s.q R.EST_QL R.EST_QH k else unsignedOf 64 (s.qi R.EST_QL R.EST_QH k + dq)) := by
  rw [stepMeasured_eq]
  refine ⟨?_, ?_, ?_⟩
  · simp (disch := first | decide | (apply lt_of_lt_of_le hk; decide)) only [regOf_when_estCause, measuredShown,
      regOf_setB_apart, regOf_setReg_apart, regOf_setReg_same]
  · simp (disch := first | decide | (apply lt_of_lt_of_le hk; decide)) only [regOf_when_estCause, measuredShown,
      regOf_setB_apart, regOf_setReg_same]
  · have hq : quantOf (countCharge k dq s).regs R.EST_QL R.EST_QH k = (if s.f Fl.EST_SHUNT_SHUNT k = 0 then
        s.q R.EST_QL R.EST_QH k else unsignedOf 64 (s.qi R.EST_QL R.EST_QH k + dq)) := by
      have hlt : unsignedOf 64 (s.qi R.EST_QL R.EST_QH k + dq) < 2 ^ 64 := by
        rw [unsignedOf]
        omega
      by_cases h0 : s.f Fl.EST_SHUNT_SHUNT k = 0
      · rw [if_pos h0, countCharge, if_neg (by simp [State.b, h0]), State.q_quantOf]
      · rw [if_neg h0, countCharge, if_pos (by simp [State.b, h0])]
        exact quantOf_setQ_same _ _ _ _ _ (lt_of_lt_of_le hk (by decide)) (lt_of_lt_of_le hk (by decide)) (by decide)
          hlt
    refine (quantOf_congr ?_ ?_).trans hq <;>
      simp (disch := decide) only [regOf_when_estCause, measuredShown, regOf_setB_apart, regOf_setReg_apart]

/-! ### Causes stay shown through the step -/

omit hk in
theorem estShows_estCause {j : Nat} (hj : j < 8) (i : Nat) {u : State}
    (h : bitOf (fieldOf u.regs Fl.EST_STAT_CAUSE 0) j = true) :
    bitOf (fieldOf (estCause i u).regs Fl.EST_STAT_CAUSE 0) j = true :=
  bitOf_causeOn_keeps (by decide) (by decide) (by decide) hj (by decide) h

omit hk in
theorem estShows_when_estCause {j : Nat} (hj : j < 8) (i : Nat) (c : Bool) {u : State}
    (h : bitOf (fieldOf u.regs Fl.EST_STAT_CAUSE 0) j = true) :
    bitOf (fieldOf (u.when c (estCause i)).regs Fl.EST_STAT_CAUSE 0) j = true := by
  unfold State.when
  split
  · exact estShows_estCause hj i h
  · exact h

omit hk in
theorem estShows_showHpOk {j : Nat} (hj : j < 8) (mv : Int) {u : State}
    (h : bitOf (fieldOf u.regs Fl.EST_STAT_CAUSE 0) j = true) :
    bitOf (fieldOf (showHpOk mv u).regs Fl.EST_STAT_CAUSE 0) j = true := by
  refine estShows_when_estCause hj 6 _ ?_
  rw [fieldOf_setB_apart _ _ _ _ _ _ (by decide)]
  exact h

omit hk in
theorem regs_when_packRecord (c : Bool) (u : State) : (u.when c (packRecord k)).regs = u.regs := by
  unfold State.when
  split
  · exact regs_packRecord k u
  · rfl

omit hk in
theorem estShows_stepShown {j : Nat} (hj : j < 8) (mv : Int) {u : State}
    (h : bitOf (fieldOf u.regs Fl.EST_STAT_CAUSE 0) j = true) :
    bitOf (fieldOf (stepShown k mv u).regs Fl.EST_STAT_CAUSE 0) j = true := by
  let w := (showLimits k (limitsRelease k mv (showDays k u)))
  have hdays : bitOf (fieldOf (showDays k u).regs Fl.EST_STAT_CAUSE 0) j = true := by
    refine estShows_when_estCause hj 2 _ ?_
    rw [fieldOf_setF_apart _ _ _ _ _ _ (by decide), fieldOf_setF_apart _ _ _ _ _ _ (by decide)]
    exact h
  have hw : fieldOf w.regs Fl.EST_STAT_CAUSE 0 = fieldOf (showDays k u).regs Fl.EST_STAT_CAUSE 0 :=
    fieldOf_onlyRegs (l := [R.EST_CHG, R.EST_DIS]) (showLimits_writes (by decide) (by decide) k _) 0 (by decide)
  rw [← hw] at hdays
  have he : stepShown k mv u = if k == 8 then chargeHp mv (showHpOk mv (w.when (w.pk k).retry (packRecord k)))
      else w.when (w.pk k).retry (packRecord k) := rfl
  clear_value w
  have hrec : bitOf (fieldOf (w.when (w.pk k).retry (packRecord k)).regs Fl.EST_STAT_CAUSE 0) j = true := by
    rw [regs_when_packRecord]
    exact hdays
  rw [he]
  split
  · exact estShows_showHpOk hj mv hrec
  · exact hrec

/-! ### The estimate -/

omit hk in
theorem fieldOf_spanUncertainty {fl : Fld} (i : Nat) (u : State) (hu : Fl.EST_SOC_U.apart fl = true)
    (hs : Fl.EST_SOCE_STATE.apart fl = true) :
    fieldOf (spanUncertainty k u).regs fl i = fieldOf u.regs fl i := by
  unfold spanUncertainty
  split
  · rfl
  · dsimp only
    rw [fieldOf_when fun v => fieldOf_setF_apart v _ _ _ _ _ hs]
    exact fieldOf_setF_apart u _ _ _ _ _ hu

omit hk in
theorem pkSt_spanUncertainty {u : State} (h : u.pkSt k ≠ pkUnmeasured) : (spanUncertainty k u).pkSt k = u.pkSt k := by
  unfold spanUncertainty
  split
  · rfl
  · next t _ =>
    dsimp only
    have hset : ∀ v : Nat, (u.setF Fl.EST_SOC_U k v).pkSt k = u.pkSt k := fun v =>
      fieldOf_setF_apart _ _ _ _ _ _ (by decide)
    have hpk : ∀ (v : State) f, (v.setPk k f).pkSt k = v.pkSt k := fun _ _ => rfl
    rw [hpk, hset, beq_eq_false_iff_ne.mpr h, State.when_false, hpk, hset]

omit hk in
theorem stepShown_pending {mv : Int} {u : State} (hk8 : k < 8) (h : u.pkSt k = pkPending) :
    regOf (stepShown k mv u).regs R.EST_DIS k = 0 ∧ regOf (stepShown k mv u).regs R.EST_CHG k = 0 := by
  let w := limitsRelease k mv (showDays k u)
  have hw : w.pkSt k = pkPending := (fieldOf_showDays k k u (by decide)).trans h
  have he : stepShown k mv u = if k == 8 then chargeHp mv (showHpOk mv ((showLimits k w).when ((showLimits k w).pk
      k).retry (packRecord k))) else (showLimits k w).when ((showLimits k w).pk k).retry (packRecord k) := rfl
  have hl : showLimits k w = (w.setReg R.EST_DIS k 0).setReg R.EST_CHG k 0 := by
    rw [showLimits, if_neg (by omega), hw]
    rfl
  clear_value w
  rw [he, if_neg (by simp; omega), regs_when_packRecord, hl, regOf_setReg_apart _ _ _ _ _ _ (by decide)]
  exact ⟨regOf_setReg_same _ _ _ _ (lt_of_lt_of_le hk8 (by decide)),
    regOf_setReg_same _ _ _ _ (lt_of_lt_of_le hk8 (by decide))⟩

omit hk in
theorem estimated_pending (dq mv ma : Int) {u : State} (h : u.pkSt k = pkPending) :
    estimated k dq mv ma u = spanUncertainty k u := by
  have hs : (spanUncertainty k u).pkSt k = pkPending := (pkSt_spanUncertainty (by rw [h]; decide)).trans h
  have hr : restEnded k ma (spanUncertainty k u) = spanUncertainty k u := if_neg (by simp [hs, pkPending, pkRest])
  rw [estimated, hr]
  exact if_neg (by simp [hs, pkPending, pkRest, pkEstimating])

/-- The state before the report of a counted pack. -/
def countedState (k : Nat) (dq mv ma : Int) (s : State) : State :=
  growUncertainty k (countSoc k dq s).2 (modelStep k mv ma (countSoc k dq s).1)

omit hk in
theorem fieldOf_countedState {fl : Fld} (dq mv ma : Int) (u : State) (hu : Fl.EST_SOC_U.apart fl = true)
    (h : (!regsIn [R.EST_CYCLES, R.EST_R0, R.EST_SOCE] fl.reg.addr && decide (fl.reg.count ≤ 65536)) = true) (i : Nat) :
    fieldOf (countedState k dq mv ma u).regs fl i = fieldOf u.regs fl i := by
  have hg : ∀ (c : Int) (v : State), fieldOf (growUncertainty k c v).regs fl i = fieldOf v.regs fl i := fun c v =>
    fieldOf_setF_apart v _ _ _ _ _ hu
  rw [countedState, hg]
  refine fieldOf_onlyRegs (l := [R.EST_CYCLES, R.EST_R0, R.EST_SOCE]) ?_ i h
  rw [modelStep_writes (by decide) (by decide) rfl, countSoc_writes (by decide) (by decide) rfl rfl]

omit hk in
theorem restEnded_running {ma : Int} {u : State} (h : u.pkSt k = pkEstimating ∨ u.pkSt k = pkRest) (hk : k < 9) :
    (restEnded k ma u).pkSt k = pkEstimating ∨ (restEnded k ma u).pkSt k = pkRest := by
  unfold restEnded
  split
  · exact .inl (fieldOf_setF_fits _ _ _ _ (lt_of_lt_of_le hk (by decide)) (by decide) (by decide))
  · exact h

/-- The reported charge moves toward the estimate (R510). -/
def socReported (ma : Int) (irest r e : Nat) : Nat :=
  if ma ≤ -(irest : Int) then min r e else if r ≤ e then min e (r + 10) else max e (r - 10)

omit hk in
theorem socReported_lt {ma : Int} {irest r e n : Nat} (hr : r < n) (he : e < n) : socReported ma irest r e < n := by
  unfold socReported
  split_ifs <;> omega

theorem estimated_reports (dq mv ma : Int) {u : State} (h : u.pkSt k = pkEstimating ∨ u.pkSt k = pkRest) :
    fieldOf (estimated k dq mv ma u).regs Fl.EST_SOC_SOCR k = socReported ma (u.f Fl.EST_REST_IREST k)
      (u.f Fl.EST_SOC_SOCR k) (fieldOf (estimated k dq mv ma u).regs Fl.EST_SOCE_SOCE k) := by
  let c := restEnded k ma (spanUncertainty k u)
  have hspan : (spanUncertainty k u).pkSt k = u.pkSt k := by
    refine pkSt_spanUncertainty ?_
    rcases h with h | h <;> rw [h] <;> decide
  have hc : c.pkSt k = pkEstimating ∨ c.pkSt k = pkRest := restEnded_running (by rwa [hspan]) hk
  have hcf : ∀ fl : Fld, Fl.EST_SOC_U.apart fl = true → Fl.EST_SOCE_STATE.apart fl = true →
      fieldOf c.regs fl k = fieldOf u.regs fl k := by
    intro fl h1 h2
    refine Eq.trans ?_ (fieldOf_spanUncertainty (k := k) k u h1 h2)
    simp only [c, restEnded]
    split
    · exact fieldOf_setF_apart _ _ _ _ _ _ h2
    · rfl
  let x := countedState k dq mv ma c
  have hx : ∀ fl : Fld, Fl.EST_SOC_U.apart fl = true → Fl.EST_SOCE_STATE.apart fl = true →
      (!regsIn [R.EST_CYCLES, R.EST_R0, R.EST_SOCE] fl.reg.addr && decide (fl.reg.count ≤ 65536)) = true →
        fieldOf x.regs fl k = fieldOf u.regs fl k := fun fl h1 h2 h3 =>
    (fieldOf_countedState dq mv ma c h1 h3 k).trans (hcf fl h1 h2)
  have he : estimated k dq mv ma u = reportSoc k ma x := by
    change stepEstimated k dq mv ma c = _
    exact if_pos (by rcases hc with hc | hc <;> simp [hc])
  clear_value x
  have hrep : reportSoc k ma x = x.setF Fl.EST_SOC_SOCR k (socReported ma (u.f Fl.EST_REST_IREST k)
      (u.f Fl.EST_SOC_SOCR k) (x.f Fl.EST_SOCE_SOCE k)) := by
    rw [State.f_fieldOf u, State.f_fieldOf u, ← hx Fl.EST_REST_IREST (by decide) (by decide) (by decide),
      ← hx Fl.EST_SOC_SOCR (by decide) (by decide) (by decide)]
    rfl
  have hlt := socReported_lt (ma := ma) (irest := u.f Fl.EST_REST_IREST k) (State.f_lt u Fl.EST_SOC_SOCR k)
    (State.f_lt x Fl.EST_SOCE_SOCE k)
  rw [he, hrep, fieldOf_setF_fits _ _ _ _ (lt_of_lt_of_le hk (by decide)) (by decide) hlt,
    fieldOf_setF_apart _ _ _ _ _ _ (by decide), State.f_fieldOf x]

end

theorem estimatorStep_shows {k : Nat} {s : State} (h : s.pkOn k = true) (dq mv ma : Int) (hp : s.sys.phase = .running)
    (hw : s.f Fl.SYS_PWRSTAT_STATE ≤ 1) : Answers (.estimatorStep k dq mv ma) s fun t =>
      t.reg R.EST_V k = BitVec.ofInt 32 mv ∧ t.reg R.EST_I k = BitVec.ofInt 32 ma ∧
        t.q R.EST_QL R.EST_QH k = (if s.f Fl.EST_SHUNT_SHUNT k = 0 then s.q R.EST_QL R.EST_QH k
          else unsignedOf 64 (s.qi R.EST_QL R.EST_QH k + dq)) ∧
        (s.packTemp k = none → bitOf (t.f Fl.EST_STAT_CAUSE) 4 = true) ∧
        (s.pkSt k = pkPending → k < 8 → t.reg R.EST_DIS k = 0 ∧ t.reg R.EST_CHG k = 0 ∧
          t.f Fl.EST_SOCE_SOCE k = s.f Fl.EST_SOCE_SOCE k) ∧
        (s.pkSt k = pkEstimating ∨ s.pkSt k = pkRest → t.f Fl.EST_SOC_SOCR k = socReported ma
          (s.f Fl.EST_REST_IREST k) (s.f Fl.EST_SOC_SOCR k) (t.f Fl.EST_SOCE_SOCE k)) := by
  have hk := pkOn_lt h
  obtain ⟨hv, hi, hq⟩ := stepMeasured_shows (s := s) hk dq mv ma
  let m := stepMeasured k dq mv ma s
  have hm : ∀ fl : Fld, (!regsIn [R.EST_QH, R.EST_QL] fl.reg.addr && decide (fl.reg.count ≤ 65536)) = true →
      R.EST_V.apart fl.reg = true → R.EST_I.apart fl.reg = true → Fl.EST_CFG_PRESENT.apart fl = true →
      Fl.EST_STAT_CAUSE.apart fl = true → Fl.EVT_PEND_PEND.apart fl = true → m.f fl k = s.f fl k := by
    intro fl h1 h2 h3 h4 h5 h6
    rw [State.f_fieldOf, State.f_fieldOf, fieldOf_stepMeasured dq mv ma k h1 h2 h3 h4 h5 h6]
  have hst : m.pkSt k = s.pkSt k := hm _ (by decide) (by decide) (by decide) (by decide) (by decide) (by decide)
  have hsoc := hm Fl.EST_SOCE_SOCE (by decide) (by decide) (by decide) (by decide) (by decide) (by decide)
  have hsocr := hm Fl.EST_SOC_SOCR (by decide) (by decide) (by decide) (by decide) (by decide) (by decide)
  have hrest := hm Fl.EST_REST_IREST (by decide) (by decide) (by decide) (by decide) (by decide) (by decide)
  have hcause : s.packTemp k = none → bitOf (fieldOf m.regs Fl.EST_STAT_CAUSE 0) 4 = true := by
    intro hn
    rw [show m = _ from stepMeasured_eq dq mv ma, hn, Option.isNone_none, State.when_true]
    exact estCause_shows 4 (by decide) _
  have he : estimatorStep k dq mv ma s = stepShown k mv (estimated k dq mv ma m) := estimatorStep_eq dq mv ma h hp hw
  change regOf m.regs _ k = _ at hv hi
  change quantOf m.regs _ _ k = _ at hq
  clear_value m
  have hreg : ∀ r : Rg, (!regsIn estimateRegs r.addr && decide (r.count ≤ 65536)) = true →
      regOf (estimated k dq mv ma m).regs r k = regOf m.regs r k := fun r hr =>
    regOf_onlyRegs (estimated_writes dq mv ma m) k hr
  refine answers_done (congrArg done he) ?_
  refine ⟨?_, ?_, ?_, fun hn => ?_, fun hpend hk8 => ?_, fun hrun => ?_⟩
  · rw [State.reg_regOf, regOf_settle _ _ _ (by decide), regOf_stepShown _ _ _ (by decide), hreg _ (by decide), hv]
  · rw [State.reg_regOf, regOf_settle _ _ _ (by decide), regOf_stepShown _ _ _ (by decide), hreg _ (by decide), hi]
  · rw [State.q_quantOf, quantOf_settle _ _ _ _ (by decide) (by decide), ← hq]
    exact quantOf_congr ((regOf_stepShown _ _ _ (by decide)).trans (hreg _ (by decide)))
      ((regOf_stepShown _ _ _ (by decide)).trans (hreg _ (by decide)))
  · rw [State.f_fieldOf, fieldOf_settle _ _ _ (by decide)]
    refine estShows_stepShown (by decide) mv ?_
    rw [fieldOf_onlyRegs (estimated_writes dq mv ma m) 0 (by decide)]
    exact hcause hn
  · have hm : m.pkSt k = pkPending := hst.trans hpend
    have hd : (spanUncertainty k m).pkSt k = pkPending := (pkSt_spanUncertainty (by rw [hm]; decide)).trans hm
    rw [estimated_pending dq mv ma hm, State.reg_regOf, State.reg_regOf, State.f_fieldOf,
      regOf_settle _ _ _ (by decide), regOf_settle _ _ _ (by decide), fieldOf_settle _ _ _ (by decide),
      fieldOf_stepShown _ _ _ (by decide), fieldOf_spanUncertainty _ _ (by decide) (by decide), ← State.f_fieldOf, hsoc]
    exact ⟨(stepShown_pending hk8 hd).1, (stepShown_pending hk8 hd).2, rfl⟩
  · rw [State.f_fieldOf _ Fl.EST_SOC_SOCR, State.f_fieldOf _ Fl.EST_SOCE_SOCE, fieldOf_settle _ _ _ (by decide),
      fieldOf_settle _ _ _ (by decide), fieldOf_stepShown _ _ _ (by decide), fieldOf_stepShown _ _ _ (by decide),
      estimated_reports hk dq mv ma (by rwa [hst]), hrest, hsocr]

/-! ### The holdover pack in Stow (R523, R524) -/

section
variable {s : State} (h8 : s.pkOn 8 = true) (hst : s.f Fl.SYS_PWRSTAT_STATE = 3) (hp : s.sys.onHp = true)
include h8 hst hp

/-- The holdover pack's voltage and state are shown. -/
def stowShown (dq mv : Int) (s : State) : State :=
  let s := showHpOk mv ((countCharge 8 dq s).setReg R.EST_V 8 (BitVec.ofInt 32 mv))
  if s.pkSt 8 == pkEstimating || s.pkSt 8 == pkRest then
    let c := countSoc 8 dq s
    c.1.setF Fl.EST_SOC_SOCR 8 (min (c.1.f Fl.EST_SOC_SOCR 8) (c.1.f Fl.EST_SOCE_SOCE 8))
  else s

theorem hpStowCheck_eq (dq mv : Int) : hpStowCheck dq mv s =
    let u := stowShown dq mv s
    if u.b Fl.EST_HPCFG_AUTOFURL && (u.f Fl.EST_SOC_SOCR 8 ≤ u.f Fl.EST_HPCFG_FURLSOC * 100 || decide (mv ≤ 3000))
    then estCause 7 (u.setB Fl.SYS_PWRSTAT_FURL_ARMED 0 true) else u := by
  rw [hpStowCheck, if_neg (by simp [h8, hst, hp])]
  rfl

omit h8 hst hp in
theorem stowShown_writes {A : Part} (h1 : A.regs R.EST_STAT.addr = true) (h2 : A.regs R.EVT_PEND.addr = true)
    (h3 : A.regs R.SYS_SUPSTAT.addr = true) (h4 : A.regs R.EST_CYCLES.addr = true)
    (h5 : A.regs R.EST_SOC.addr = true) (h6 : A.regs R.EST_SOCE.addr = true) (h7 : A.est = true)
    (h8 : A.drawn = true) (dq mv : Int) (s : State) : (stowShown dq mv s).without A =
      ((countCharge 8 dq s).setReg R.EST_V 8 (BitVec.ofInt 32 mv)).without A := by
  dsimp only [stowShown]
  rw [State.without_ite, State.without_setF (by simpa using ⟨h5, by decide⟩), countSoc_writes h4 h6 h8 h7, ite_self,
    showHpOk_writes h1 h2 h3]

/-- Registers that the check of the holdover pack may write. -/
def stowRegs : List Rg := [R.EST_STAT, R.EVT_PEND, R.SYS_SUPSTAT, R.EST_CYCLES, R.EST_SOC, R.EST_SOCE]

omit h8 hst hp in
theorem fieldOf_stowShown {fl : Fld} (dq mv : Int) (i : Nat)
    (h : (!regsIn stowRegs fl.reg.addr && decide (fl.reg.count ≤ 65536)) = true) (hv : R.EST_V.apart fl.reg = true)
    (hq : (!regsIn [R.EST_QH, R.EST_QL] fl.reg.addr && decide (fl.reg.count ≤ 65536)) = true) :
    (stowShown dq mv s).f fl i = s.f fl i := by
  have hw := stowShown_writes (A := onlyRegs stowRegs) (by decide) (by decide) (by decide) (by decide) (by decide)
    (by decide) rfl rfl dq mv s
  rw [State.f_fieldOf, State.f_fieldOf, fieldOf_onlyRegs hw i h, fieldOf_setReg_apart _ _ _ _ _ _ hv,
    fieldOf_countCharge _ _ hq]

omit h8 hst hp in
theorem stowShown_sys (dq mv : Int) : (stowShown dq mv s).sys = s.sys := by
  have hw := stowShown_writes (A := butSys) rfl rfl rfl rfl rfl rfl rfl rfl dq mv s
  rw [sys_but hw, State.setReg_sys]
  exact sys_but (countCharge_writes rfl rfl 8 dq s)

omit h8 hst hp in
theorem stowShown_voltage (dq mv : Int) : regOf (stowShown dq mv s).regs R.EST_V 8 = BitVec.ofInt 32 mv := by
  have hw := stowShown_writes (A := onlyRegs stowRegs) (by decide) (by decide) (by decide) (by decide) (by decide)
    (by decide) rfl rfl dq mv s
  rw [regOf_onlyRegs hw 8 (by decide)]
  exact regOf_setReg_same _ _ _ _ (by decide)

theorem hpStow_stays (dq mv : Int) (ha : s.f Fl.EST_HPCFG_AUTOFURL = 0) (hf : s.f Fl.SYS_PWRSTAT_FURL_ARMED = 0) :
    Answers (.hpStowCheck dq mv) s fun t => t.reg R.EST_V 8 = BitVec.ofInt 32 mv := by
  have hau : (stowShown dq mv s).f Fl.EST_HPCFG_AUTOFURL = 0 :=
    (fieldOf_stowShown dq mv 0 (by decide) (by decide) (by decide)).trans ha
  have hfu : (stowShown dq mv s).f Fl.SYS_PWRSTAT_FURL_ARMED = 0 :=
    (fieldOf_stowShown dq mv 0 (by decide) (by decide) (by decide)).trans hf
  have he : hpStowCheck dq mv s = stowShown dq mv s := by
    rw [hpStowCheck_eq h8 hst hp]
    exact if_neg (by simp [State.b, hau])
  have hfurl : furlCheck (stowShown dq mv s) = stowShown dq mv s := if_neg (by simp [State.b, hfu])
  refine answers_done (congrArg done ((congrArg furlCheck he).trans hfurl)) ?_
  rw [State.reg_regOf, regOf_settle _ _ _ (by decide), stowShown_voltage]

theorem hpStow_furls {mv : Int} (dq : Int) (ha : s.f Fl.EST_HPCFG_AUTOFURL = 1) (hm : mv ≤ 3000)
    (ht : s.sys.target = none) (hv : s.sys.vinGone = true) :
    Effect (.hpStowCheck dq mv) s fun u => u.sys.phase = .off ∧ u.sys.furl = true := by
  have hau : (stowShown dq mv s).f Fl.EST_HPCFG_AUTOFURL = 1 :=
    (fieldOf_stowShown dq mv 0 (by decide) (by decide) (by decide)).trans ha
  have hsu : (stowShown dq mv s).f Fl.SYS_PWRSTAT_STATE = 3 :=
    (fieldOf_stowShown dq mv 0 (by decide) (by decide) (by decide)).trans hst
  let w := estCause 7 ((stowShown dq mv s).setB Fl.SYS_PWRSTAT_FURL_ARMED 0 true)
  have he : hpStowCheck dq mv s = w := by
    rw [hpStowCheck_eq h8 hst hp]
    exact if_pos (by simp [State.b, hau, hm])
  have hws : w.sys = s.sys := (State.causeOn_sys ..).trans ((State.setF_sys ..).trans (stowShown_sys dq mv))
  have hwst : w.f Fl.SYS_PWRSTAT_STATE = 3 := by
    rw [State.f_fieldOf, fieldOf_estCause _ _ _ (by decide) (by decide), fieldOf_setB_apart _ _ _ _ _ _ (by decide),
      ← State.f_fieldOf, hsu]
  have hwa : w.b Fl.SYS_PWRSTAT_FURL_ARMED = true := by
    rw [State.b_fieldOf, fieldOf_estCause _ _ _ (by decide) (by decide),
      fieldOf_setB_same _ _ _ _ (by decide) (by decide) (by decide)]
    rfl
  clear_value w
  have hfurl : furlCheck w = powerLoss true w := if_pos (by simp [hwst, hws, ht, hv, hwa])
  exact effect_done (congrArg done ((congrArg furlCheck he).trans hfurl)) ⟨rfl, rfl⟩

end

/-- Settles O45: the step, limits, rest, checks, records, insertion and the holdover pack. -/
theorem estimator : Obligations.Estimator := by
  intro k s h
  exact ⟨fun dq mv ma hp hw => estimatorStep_shows h dq mv ma hp hw,
    fun mv ma => ⟨voltage_low h ma, voltage_high h ma, voltage_inside h ma⟩,
    ⟨restStart_corrects h, restRepeat_corrects h⟩,
    fun hk8 => ⟨counter_fails h hk8, counter_passes h hk8⟩, packRecordWrite_writes h,
    ⟨fun mv hv => packInsert_enters h hv, reestimate_enters h⟩, newpack_enters h, firstEstimate_shows h,
    fun ma => hpChargeEnd_ends ma s,
    fun dq mv h8 hst hp => ⟨hpStow_stays h8 hst hp dq mv, hpStow_furls h8 hst hp dq⟩⟩

end Sys2Proof.Machine

/-! ## Deckline: what its shared operations leave (R560 to R577) -/

namespace Sys2Proof.Machine

set_option Elab.async false

theorem State.eachOf_induct {α : Type} {P : State → Prop} {f : α → State → State} (h : ∀ x s, P s → P (f x s))
    {s : State} (h0 : P s) (l : List α) : P (s.eachOf l f) := by
  unfold State.eachOf
  induction l generalizing s with
  | nil => exact h0
  | cons x l ih => exact ih (h x s h0)

theorem State.link_member (s : State) (n : Nat) : s.link n = memberOf s.dkl.links n {} := rfl

theorem link_of_dkl {s t : State} (h : t.dkl = s.dkl) (n : Nat) : t.link n = s.link n := by
  rw [State.link, h]
  rfl

theorem dkl_settle (s : State) : s.settle.dkl = s.dkl := State.dkl_of_without (State.settle_settled _) rfl

theorem link_settle (s : State) (n : Nat) : s.settle.link n = s.link n := link_of_dkl (dkl_settle s) n

theorem link_setLink {n : Nat} (hn : n < 64) (s : State) (f : DklLink → DklLink) :
    (s.setLink n f).link n = f (s.link n) := memberOf_set_same s.dkl.links _ {} hn

theorem link_setLink_other {n m : Nat} (h : n ≠ m) (s : State) (f : DklLink → DklLink) :
    (s.setLink n f).link m = s.link m := memberOf_set_other s.dkl.links _ {} h

theorem dklCause_shows (j : Nat) (hj : j < 8) (s : State) :
    bitOf (fieldOf (dklCause j s).regs Fl.DKL_STAT_CAUSE 0) j = true :=
  bitOf_causeOn _ _ _ _ _ _ (by decide) (by decide) hj (by decide)

theorem dklCause_dkl (j : Nat) (s : State) : (dklCause j s).dkl = s.dkl := State.causeOn_dkl ..

theorem fieldOf_dklCause {fl : Fld} (j i : Nat) (s : State) (h : Fl.DKL_STAT_CAUSE.apart fl = true)
    (hp : Fl.EVT_PEND_PEND.apart fl = true) : fieldOf (dklCause j s).regs fl i = fieldOf s.regs fl i :=
  fieldOf_causeOn _ _ _ _ _ _ _ _ h hp

theorem showDkl_dkl (s : State) : (showDkl s).dkl = s.dkl := by
  unfold showDkl
  dsimp only
  split <;> simp

theorem fieldOf_showDkl {fl : Fld} (i : Nat) (s : State)
    (h : (!regsIn [R.DKL_TXEV, R.DKL_TXSTAT] fl.reg.addr && decide (fl.reg.count ≤ 65536)) = true) :
    fieldOf (showDkl s).regs fl i = fieldOf s.regs fl i :=
  fieldOf_onlyRegs (showDkl_writes (by decide) (by decide) s) i h

/-! ### What only grows -/

/-- Events and causes stay, and of the links only routes change. -/
structure DklGrows (s t : State) : Prop where
  events : ∀ e ∈ s.dkl.events, e ∈ t.dkl.events
  links : ∀ n, n < 64 → ∃ r, t.link n = { s.link n with route := r }
  causes : ∀ k, k < 8 → bitOf (fieldOf s.regs Fl.DKL_STAT_CAUSE 0) k = true →
    bitOf (fieldOf t.regs Fl.DKL_STAT_CAUSE 0) k = true

theorem DklGrows.refl (s : State) : DklGrows s s := ⟨fun _ h => h, fun _ _ => ⟨_, rfl⟩, fun _ _ h => h⟩

theorem DklGrows.trans {s t u : State} (h : DklGrows s t) (h' : DklGrows t u) : DklGrows s u := by
  refine ⟨fun e he => h'.events e (h.events e he), fun n hn => ?_, fun k hk hc => h'.causes k hk (h.causes k hk hc)⟩
  obtain ⟨r, hr⟩ := h.links n hn
  obtain ⟨r', hr'⟩ := h'.links n hn
  exact ⟨r', by rw [hr', hr]⟩

theorem DklGrows.of_dkl {s t : State} (h : t.dkl = s.dkl)
    (hr : fieldOf t.regs Fl.DKL_STAT_CAUSE 0 = fieldOf s.regs Fl.DKL_STAT_CAUSE 0) : DklGrows s t :=
  ⟨fun e he => by rw [h]; exact he, fun n _ => ⟨_, link_of_dkl h n⟩, fun k _ hc => by rw [hr]; exact hc⟩

theorem dklCause_grows (j : Nat) (s : State) : DklGrows s (dklCause j s) :=
  ⟨fun e he => by rw [dklCause_dkl]; exact he, fun n _ => ⟨_, link_of_dkl (dklCause_dkl j s) n⟩,
    fun _ hk hc => bitOf_causeOn_keeps (by decide) (by decide) (by decide) hk (by decide) hc⟩

theorem showDkl_grows (s : State) : DklGrows s (showDkl s) :=
  .of_dkl (showDkl_dkl s) (fieldOf_showDkl 0 s (by decide))

theorem dropTx_grows (x : DklTx) (s : State) : DklGrows s (dropTx x s) := by
  unfold dropTx
  refine DklGrows.trans ?_ (showDkl_grows _)
  exact ⟨fun _ h => h, fun _ _ => ⟨_, rfl⟩, fun _ _ h => h⟩

theorem dklEvent_grows (x : DklTx) (status : Nat) (s : State) : DklGrows s (dklEvent x status s) := by
  unfold dklEvent
  split
  · exact .refl s
  · refine DklGrows.trans ?_ ((showDkl_grows _).trans (dklCause_grows _ _))
    exact ⟨fun _ h => List.mem_append_left _ h, fun _ _ => ⟨_, rfl⟩, fun _ _ h => h⟩

theorem failTx_grows (p : DklTx → Bool) (status : Nat) (s : State) : DklGrows s (failTx p status s) :=
  State.eachOf_induct (fun x u h => h.trans ((dropTx_grows x u).trans (dklEvent_grows x status _))) (.refl s) _

theorem setLink_grows {f : DklLink → DklLink} {r : List Nat} (hf : ∀ l, f l = { l with route := r }) (n : Nat)
    (s : State) : DklGrows s (s.setLink n f) := by
  refine ⟨fun _ h => h, fun m hm => ?_, fun _ _ h => h⟩
  by_cases h : n = m
  · subst h
    exact ⟨r, by rw [link_setLink hm, hf]⟩
  · exact ⟨_, link_setLink_other h s f⟩

theorem takeRoute_grows (n : Nat) (r : List Nat) (q : Nat) (s : State) : DklGrows s (takeRoute n r q s) := by
  unfold takeRoute
  refine (setLink_grows (r := r) (fun _ => rfl) n s).trans (.of_dkl (by simp) ?_)
  simp (disch := decide)

theorem reroute_grows (n : Nat) (s : State) : DklGrows s (reroute n s) := by
  unfold reroute
  split
  · exact .refl s
  · dsimp only
    split
    · split
      · exact (takeRoute_grows ..).trans (dklCause_grows _ _)
      · exact takeRoute_grows ..
    · exact (takeRoute_grows ..).trans (dklCause_grows _ _)
    · refine DklGrows.trans (.of_dkl ?_ ?_) ((dklCause_grows 6 _).trans (failTx_grows _ 2 _))
      · exact State.setF_dkl ..
      · exact fieldOf_setF_apart _ _ _ _ _ _ (by decide)

theorem rerouteAll_grows (s : State) : DklGrows s (rerouteAll s) :=
  State.eachOf_induct (fun n u h => h.trans (reroute_grows n u)) (.refl s) _

/-! ### The send list -/

/-- The frame that `queueTx` appends. -/
def State.newTx (s : State) (src dst kind : Nat) (tag : Option Nat) (payload : List Byte) : DklTx :=
  let next := if dst = 63 then 63 else (s.link dst).route.headD dst
  let q := (s.link next).fseq
  let h := leBytes 1 (s.f Fl.DKL_CFG_NETID) ++ leBytes 1 dst ++ leBytes 1 src ++ leBytes 1 next ++ leBytes 1 kind ++
    leBytes 1 q ++ leBytes 2 payload.length ++ payload
  let b := h ++ leBytes 4 (crc32 h).toNat
  { dst := dst, next := next, kind := kind, fseq := q, tag := tag, bytes := b
    units := List.replicate (ceilDiv b.length 4) (.unsent, 0) }

/-- The frame `x` is appended, and its next hop takes its FSEQ. -/
def State.withTx (s : State) (x : DklTx) : State :=
  ({ s with dkl.tx := s.dkl.tx ++ [x] } : State).setLink x.next fun l => { l with fseq := (x.fseq + 1) % 256 }

theorem queueTx_eq (src dst kind : Nat) (tag : Option Nat) (payload : List Byte) (s : State) :
    queueTx src dst kind tag payload s = showDkl (s.withTx (s.newTx src dst kind tag payload)) := rfl

theorem queueTx_dkl (src dst kind : Nat) (tag : Option Nat) (payload : List Byte) (s : State) :
    ∃ l, (queueTx src dst kind tag payload s).dkl =
      { s.dkl with tx := s.dkl.tx ++ [s.newTx src dst kind tag payload], links := l } := by
  rw [queueTx_eq, showDkl_dkl]
  exact ⟨_, rfl⟩

/-- Of the links, queueing a frame changes an FSEQ. -/
theorem link_queueTx (src dst kind : Nat) (tag : Option Nat) (payload : List Byte) {n : Nat} (hn : n < 64)
    (s : State) : ∃ q, (queueTx src dst kind tag payload s).link n = { s.link n with fseq := q } := by
  rw [queueTx_eq, link_of_dkl (showDkl_dkl _)]
  generalize s.newTx src dst kind tag payload = x
  by_cases h : x.next = n
  · subst h
    exact ⟨_, link_setLink hn _ _⟩
  · exact ⟨_, link_setLink_other h _ _⟩

theorem fieldOf_queueTx {fl : Fld} (src dst kind : Nat) (tag : Option Nat) (payload : List Byte) (i : Nat) (s : State)
    (h : (!regsIn [R.DKL_TXEV, R.DKL_TXSTAT] fl.reg.addr && decide (fl.reg.count ≤ 65536)) = true) :
    fieldOf (queueTx src dst kind tag payload s).regs fl i = fieldOf s.regs fl i :=
  fieldOf_onlyRegs (queueTx_writes (by decide) (by decide) rfl src dst kind tag payload s) i h

theorem regOf_queueTx {r : Rg} (src dst kind : Nat) (tag : Option Nat) (payload : List Byte) (i : Nat) (s : State)
    (h : (!regsIn [R.DKL_TXEV, R.DKL_TXSTAT] r.addr && decide (r.count ≤ 65536)) = true) :
    regOf (queueTx src dst kind tag payload s).regs r i = regOf s.regs r i :=
  regOf_onlyRegs (queueTx_writes (by decide) (by decide) rfl src dst kind tag payload s) i h

/-! ### Bit-loading maps -/

theorem packCodes_lt (l : List Nat) : packCodes l < 4 ^ l.length := by
  induction l with
  | nil => decide
  | cons c l ih =>
    change c % 4 + 4 * packCodes l < 4 ^ (l.length + 1)
    rw [Nat.pow_succ]
    omega

/-- The code at position `i` of a packed map. -/
theorem packCodes_code (l : List Nat) (i : Nat) (hi : i < l.length) : packCodes l / 2 ^ (2 * i) % 4 = l[i] % 4 := by
  induction l generalizing i with
  | nil => simp at hi
  | cons c l ih =>
    have hp : packCodes (c :: l) = c % 4 + 4 * packCodes l := rfl
    cases i with
    | zero =>
      rw [hp]
      simp
    | succ i =>
      have hdiv : packCodes (c :: l) / 2 ^ (2 * (i + 1)) = packCodes l / 2 ^ (2 * i) := by
        rw [show 2 * (i + 1) = 2 + 2 * i by omega, Nat.pow_add, ← Nat.div_div_eq_div_mul, hp]
        congr 1
        omega
      rw [hdiv, ih i (by simpa using hi)]
      rfl

/-- A map of 22 codes reads back from its two registers. -/
theorem mapCodes_packCodes {m : List Nat} (hl : m.length = 22) (hc : ∀ c ∈ m, c < 4) :
    mapCodes (BitVec.ofNat 32 (packCodes (m.take 16))) (BitVec.ofNat 32 (packCodes ((m.drop 16).take 6))) = m := by
  have hread : ∀ (l : List Nat) i (hi : i < l.length), l.length ≤ 16 → (∀ c ∈ l, c < 4) →
      bitsOf (BitVec.ofNat 32 (packCodes l)) (2 * i) 2 = l[i] := by
    intro l i hi h16 hl4
    have hlt : packCodes l < 2 ^ 32 := lt_of_lt_of_le (packCodes_lt l)
      (le_trans (Nat.pow_le_pow_right (by decide) h16) (by decide))
    rw [bitsOf, BitVec.toNat_ofNat, Nat.mod_eq_of_lt hlt]
    exact (packCodes_code l i hi).trans (Nat.mod_eq_of_lt (hl4 _ (List.getElem_mem hi)))
  refine List.ext_getElem (by simp [mapCodes, hl]) fun i h1 h2 => ?_
  simp only [mapCodes]
  rcases Nat.lt_or_ge i 16 with h | h
  · rw [List.getElem_append_left (by simpa using h)]
    simp only [List.getElem_map, List.getElem_range]
    rw [hread (m.take 16) i (by simp; omega) (by simp) fun c hm => hc c (List.mem_of_mem_take hm)]
    simp
  · rw [List.getElem_append_right (by simpa using h)]
    simp only [List.getElem_map, List.getElem_range, List.length_map, List.length_range]
    rw [hread ((m.drop 16).take 6) (i - 16) (by simp; omega) (by simp)
      fun c hm => hc c (List.mem_of_mem_drop (List.mem_of_mem_take hm))]
    simp only [List.getElem_take, List.getElem_drop]
    congr 1
    omega

theorem mapCodes_lt (a b : Word) : ∀ c ∈ mapCodes a b, c < 4 := by
  intro c hc
  simp only [mapCodes, List.mem_append, List.mem_map] at hc
  rcases hc with ⟨i, -, rfl⟩ | ⟨i, -, rfl⟩ <;> exact bitsOf_lt _ _ 2

theorem rxMap_setRxMap {n i : Nat} (hn : n < 63) (hi : i < 8) {m : List Nat} (hl : m.length = 22)
    (hc : ∀ c ∈ m, c < 4) (s : State) : (setRxMap n i m s).rxMap n i = m := by
  have hk : 8 * n + i < 504 := by omega
  rw [State.rxMap, State.reg_regOf, State.reg_regOf, setRxMap, regOf_setReg_apart _ _ _ _ _ _ (by decide),
    regOf_setReg_same _ _ _ _ (lt_of_lt_of_le hk (by decide)),
    regOf_setReg_same _ _ _ _ (lt_of_lt_of_le hk (by decide)), mapCodes_packCodes hl hc]

theorem rxMap_setRxMap_other {n i j : Nat} (h : j ≠ i) (m : List Nat) (s : State) :
    (setRxMap n j m s).rxMap n i = s.rxMap n i := by
  rw [State.rxMap, State.reg_regOf, State.reg_regOf, setRxMap, regOf_setReg_apart _ _ _ _ _ _ (by decide),
    regOf_setReg_member _ _ _ (by omega), regOf_setReg_member _ _ _ (by omega),
    regOf_setReg_apart _ _ _ _ _ _ (by decide)]
  rfl

theorem rxMap_congr {s t : State} {n i : Nat}
    (ha : regOf t.regs R.DKL_RXMAPA (8 * n + i) = regOf s.regs R.DKL_RXMAPA (8 * n + i))
    (hb : regOf t.regs R.DKL_RXMAPB (8 * n + i) = regOf s.regs R.DKL_RXMAPB (8 * n + i)) : t.rxMap n i = s.rxMap n i
      := by
  rw [State.rxMap, State.rxMap, State.reg_regOf, State.reg_regOf, ha, hb, ← State.reg_regOf, ← State.reg_regOf]

end Sys2Proof.Machine

/-! ## Deckline on the line: crossings, slots, segments and ACKs (R560 to R571) -/

namespace Sys2Proof.Machine

set_option Elab.async false

/-! ### Zero crossings (R560) -/

/-- The half-cycle since the last crossing is noted. -/
def crossingTimed (s : State) : State :=
  let s := match s.dkl.cross with
    | none => s
    | some t =>
      let d := s.now - t
      let h := s.f Fl.DKL_MAINS_HALF * 1000
      let s := s.satF Fl.DKL_MAINS_ZCERR 0 (if h = 0 then 0 else (d + h / 2) / h - 1)
      { s with dkl.halves := (d :: s.dkl.halves).take 16 }
  { s with dkl.cross := some s.now }

/-- The class of the mains follows from 16 half-cycles. -/
def crossingClassed (s : State) : State :=
  let l := s.dkl.halves
  if l.length < 16 then s else
    let h := l.foldl (· + ·) 0 / 16
    takeClass (mainsClass h) (s.setF Fl.DKL_MAINS_HALF 0 (min 65535 (h / 1000)))

/-- The next count of the crossing's parity. -/
def countAfter (rising : Bool) (h : Nat) : Nat :=
  let c := (h + 1) % 256
  if (c % 2 == 0) == rising then c else (c + 1) % 256

theorem countAfter_parity (rising : Bool) (h : Nat) : countAfter rising h % 2 = if rising then 0 else 1 := by
  unfold countAfter
  dsimp only
  split
  next hc =>
    rw [← beq_iff_eq.mp hc]
    rcases Nat.mod_two_eq_zero_or_one ((h + 1) % 256) with e | e
    · rw [e]
      rfl
    · rw [e]
      rfl
  next hc =>
    cases rising with
    | false =>
      have he : (h + 1) % 256 % 2 = 0 := by simpa using hc
      simp only [Bool.false_eq_true, if_false]
      omega
    | true =>
      have he : (h + 1) % 256 % 2 = 1 := by simpa using hc
      simp only [if_true]
      omega

theorem countAfter_next {rising : Bool} {h : Nat} (hr : ((h + 1) % 2 == 0) = rising) :
    countAfter rising h = (h + 1) % 256 := by
  refine if_pos ?_
  rw [← hr, show (h + 1) % 256 % 2 = (h + 1) % 2 by omega]
  simp

theorem countAfter_lt (rising : Bool) (h : Nat) : countAfter rising h < 256 := by
  unfold countAfter
  dsimp only
  split <;> exact Nat.mod_lt _ (by decide)

theorem zeroCrossing_running {s : State} (rising : Bool) (h : s.dklState = 1) :
    let u := crossingClassed (crossingTimed s)
    zeroCrossing rising s = halfCycle (countAfter rising (u.f Fl.DKL_STAT_HCNT))
      (u.setF Fl.DKL_STAT_HCNT 0 (countAfter rising (u.f Fl.DKL_STAT_HCNT))) := by
  rw [zeroCrossing, if_neg (by omega), if_neg (by omega)]
  rfl

theorem crossingTimed_shows (s : State) : (crossingTimed s).dkl.cross = some s.now ∧
    fieldOf (crossingTimed s).regs Fl.DKL_STAT_HCNT 0 = fieldOf s.regs Fl.DKL_STAT_HCNT 0 := by
  unfold crossingTimed
  dsimp only
  split
  · exact ⟨rfl, rfl⟩
  · refine ⟨?_, fieldOf_satF_apart s _ _ _ _ _ (by decide)⟩
    simp [State.now, State.satF]

theorem takeClass_cross (c : Nat) (s : State) : (takeClass c s).dkl.cross = s.dkl.cross := by
  unfold takeClass
  split
  · rfl
  · rw [dklCause_dkl]
    simp

theorem fieldOf_takeClass {fl : Fld} (c i : Nat) (s : State) (hm : Fl.DKL_STAT_MCLASS.apart fl = true)
    (h : Fl.DKL_STAT_CAUSE.apart fl = true) (hp : Fl.EVT_PEND_PEND.apart fl = true) :
    fieldOf (takeClass c s).regs fl i = fieldOf s.regs fl i := by
  unfold takeClass
  split
  · rfl
  · rw [fieldOf_dklCause _ _ _ h hp]
    exact fieldOf_setF_apart s _ _ _ _ _ hm

theorem crossingClassed_shows (s : State) : (crossingClassed s).dkl.cross = s.dkl.cross ∧
    fieldOf (crossingClassed s).regs Fl.DKL_STAT_HCNT 0 = fieldOf s.regs Fl.DKL_STAT_HCNT 0 := by
  unfold crossingClassed
  dsimp only
  split
  · exact ⟨rfl, rfl⟩
  · rw [takeClass_cross, fieldOf_takeClass _ _ _ (by decide) (by decide) (by decide), State.setF_dkl,
      fieldOf_setF_apart _ _ _ _ _ _ (by decide)]
    exact ⟨rfl, rfl⟩

theorem queueTx_cross (src dst kind : Nat) (tag : Option Nat) (payload : List Byte) (s : State) :
    (queueTx src dst kind tag payload s).dkl.cross = s.dkl.cross := by
  obtain ⟨l, hl⟩ := queueTx_dkl src dst kind tag payload s
  rw [hl]

theorem queueAcks_cross (s : State) : (queueAcks s).dkl.cross = s.dkl.cross := by
  unfold queueAcks
  refine State.eachOf_induct (P := fun u => u.dkl.cross = s.dkl.cross) (fun e u h => ?_) rfl s.dkl.ackDue
  rw [showDkl_dkl]
  exact (queueTx_cross ..).trans h

theorem setTxMap_dkl (n i : Nat) (m : List Nat) (s : State) : (setTxMap n i m s).dkl = s.dkl := by simp [setTxMap]

theorem takeMaps_cross (s : State) : (takeMaps s).dkl.cross = s.dkl.cross := by
  unfold takeMaps
  refine State.each_induct (P := fun u => u.dkl.cross = s.dkl.cross) (fun n u h => ?_) rfl 63
  split
  · exact h
  · exact State.eachOf_induct (P := fun v => v.dkl.cross = s.dkl.cross)
      (fun e v hv => by rw [setTxMap_dkl]; exact hv) h _

theorem halfCycle_cross (h : Nat) (s : State) : (halfCycle h s).dkl.cross = s.dkl.cross := by
  have hq : ∀ v : State, (queueAcks (takeMaps v)).dkl.cross = v.dkl.cross :=
    fun v => (queueAcks_cross _).trans (takeMaps_cross v)
  unfold halfCycle
  extract_lets d0 u d1 even g ded d2 granted d3 odd acked d4
  have he : even.dkl.cross = s.dkl.cross := hq u
  have ho : acked.dkl.cross = s.dkl.cross := hq odd
  clear_value even acked
  split_ifs
  · rfl
  · exact he
  · exact ho
  · rfl

theorem fieldOf_halfCycle {fl : Fld} (h i : Nat) (s : State) (hf : (!regsIn [R.DKL_TXEV, R.DKL_TXMAPA, R.DKL_TXMAPB,
    R.DKL_TXSTAT] fl.reg.addr && decide (fl.reg.count ≤ 65536)) = true) :
    fieldOf (halfCycle h s).regs fl i = fieldOf s.regs fl i :=
  fieldOf_onlyRegs (halfCycle_writes (by decide) (by decide) (by decide) (by decide) rfl h s) i hf

theorem crossing_counts {s : State} (rising : Bool) (h : s.dklState = 1) : Answers (.zeroCrossing rising) s fun t =>
    t.f Fl.DKL_STAT_HCNT % 2 = (if rising then 0 else 1) ∧ t.dkl.cross = some s.now ∧
      (((s.f Fl.DKL_STAT_HCNT + 1) % 2 == 0) = rising → t.f Fl.DKL_STAT_HCNT = (s.f Fl.DKL_STAT_HCNT + 1) % 256) := by
  have he := zeroCrossing_running rising h
  obtain ⟨h1, h2⟩ := crossingTimed_shows s
  obtain ⟨h3, h4⟩ := crossingClassed_shows (crossingTimed s)
  have hc : (crossingClassed (crossingTimed s)).f Fl.DKL_STAT_HCNT = s.f Fl.DKL_STAT_HCNT := by
    rw [State.f_fieldOf, h4, h2, ← State.f_fieldOf]
  rw [h1] at h3
  dsimp only at he
  rw [hc] at he
  generalize crossingClassed (crossingTimed s) = u at he h3
  have hlt : countAfter rising (s.f Fl.DKL_STAT_HCNT) < 2 ^ Fl.DKL_STAT_HCNT.width := countAfter_lt ..
  refine answers_done (congrArg done he) ?_
  rw [dkl_settle, halfCycle_cross, State.setF_dkl, h3, State.f_fieldOf, fieldOf_settle _ _ _ (by decide),
    fieldOf_halfCycle _ _ _ (by decide), fieldOf_setF_fits _ _ _ _ (by decide) (by decide) hlt]
  exact ⟨countAfter_parity _ _, rfl, fun hr => countAfter_next hr⟩

/-! ### Stopping and loss of the mains -/

theorem dklOff_shows (s : State) : (dklOff s).dkl.tx = [] ∧ (dklOff s).dkl.line = none ∧
    fieldOf (dklOff s).regs Fl.DKL_STAT_STATE 0 = if s.dklState = 3 then 1 else 0 := by
  unfold dklOff
  dsimp only
  rw [showDkl_dkl, State.setF_dkl, fieldOf_showDkl _ _ (by decide)]
  refine ⟨rfl, rfl, ?_⟩
  exact fieldOf_setF_fits _ _ _ _ (by decide) (by decide) (by split <;> decide)

theorem crossing_stops {s : State} (rising : Bool) (h : 2 ≤ s.dklState) : Answers (.zeroCrossing rising) s fun t =>
    t.dklState = (if s.dklState = 3 then 1 else 0) ∧ t.dkl.tx = [] ∧ t.dkl.line = none := by
  have he : zeroCrossing rising s = dklOff { s with dkl.cross := some s.now } := by
    rw [zeroCrossing, if_neg (by omega), if_pos h]
  obtain ⟨h1, h2, h3⟩ := dklOff_shows { s with dkl.cross := some s.now }
  refine answers_done (congrArg done he) ?_
  rw [dkl_settle, State.dklState, State.f_fieldOf, fieldOf_settle _ _ _ (by decide)]
  exact ⟨h3, h1, h2⟩

theorem takeClass_none_line (s : State) : (takeClass 0 s).dkl.line = s.dkl.line ∧
    fieldOf (takeClass 0 s).regs Fl.DKL_STAT_MCLASS 0 = 0 ∧
    (s.f Fl.DKL_STAT_MCLASS ≠ 0 → bitOf (fieldOf (takeClass 0 s).regs Fl.DKL_STAT_CAUSE 0) 7 = true) := by
  by_cases h : s.f Fl.DKL_STAT_MCLASS = 0
  · rw [takeClass, if_pos h]
    exact ⟨rfl, h, fun hn => absurd h hn⟩
  · rw [takeClass, if_neg h, dklCause_dkl, fieldOf_dklCause _ _ _ (by decide) (by decide)]
    exact ⟨by simp, fieldOf_setF_fits s _ _ _ (by decide) (by decide) (by decide),
      fun _ => dklCause_shows 7 (by decide) _⟩

theorem mainsLost_shows {s : State} (h : s.dklState = 1) : Answers .mainsLost s fun t => t.f Fl.DKL_STAT_MCLASS = 0 ∧
    t.dkl.line = none ∧ (s.f Fl.DKL_STAT_MCLASS ≠ 0 → bitOf (t.f Fl.DKL_STAT_CAUSE) 7 = true) := by
  let u := { s with dkl.cross := none, dkl.halves := [], dkl.line := none, dkl.current := none }
  have hst : (takeClass 0 u).dklState = 1 := by
    rw [State.dklState, State.f_fieldOf, fieldOf_takeClass _ _ _ (by decide) (by decide) (by decide)]
    exact h
  have he : mainsLost s = takeClass 0 u := by
    rw [mainsLost, if_neg (by omega)]
    exact if_neg (show ¬2 ≤ (takeClass 0 u).dklState by omega)
  obtain ⟨h1, h2, h3⟩ := takeClass_none_line u
  refine answers_done (congrArg done he) ?_
  rw [dkl_settle, State.f_fieldOf, State.f_fieldOf _ Fl.DKL_STAT_CAUSE, fieldOf_settle _ _ _ (by decide),
    fieldOf_settle _ _ _ (by decide)]
  exact ⟨h2, h1, h3⟩

/-! ### Slots and segments (R570, R571) -/

/-- The segment that slot `i` sends of frame `x`. -/
def slotOut (i : Nat) (x : DklTx) (robust : Bool) (l : List Nat) : DklOut :=
  { slot := i, robust := robust, offset := l.headD 0, fseq := x.fseq % 16, units := l
    data := l.flatMap fun k => (x.bytes.drop (4 * k)).take 4 }

theorem dropTx_line (x : DklTx) (s : State) : (dropTx x s).dkl.line = s.dkl.line := by
  rw [dropTx, showDkl_dkl]

theorem dklEvent_dkl (x : DklTx) (status : Nat) (s : State) : ∃ l, (dklEvent x status s).dkl =
    { s.dkl with events := l } := by
  unfold dklEvent
  split
  · exact ⟨_, rfl⟩
  · rw [dklCause_dkl, showDkl_dkl]
    exact ⟨_, rfl⟩

theorem dklEvent_line (x : DklTx) (status : Nat) (s : State) : (dklEvent x status s).dkl.line = s.dkl.line := by
  obtain ⟨l, hl⟩ := dklEvent_dkl x status s
  rw [hl]

/-- Slot `i` is filled with units of frame `x`. -/
def slotFill (i : Nat) (x : DklTx) (s : State) : State :=
  let robust := s.robustTx x
  let first := (List.range 8).find? fun j => s.slotOn j
  let u := if robust then (if first == some i then s.robustCapacity else 0) else s.slotCapacity x.next i
  let l := nextUnits x (u / 4)
  if l.isEmpty then s else
  let y := markSent l x
  let s := { s with dkl.tx := s.dkl.tx.map fun z => if z == x then y else z, dkl.line := some (slotOut i x robust l) }
  let s := { s with dkl.owes :=
    if y.kind == 1 || y.kind == 3 || y.dst == 63 || s.dkl.owes.contains y.next then s.dkl.owes
    else s.dkl.owes ++ [y.next] }
  if sentOut y then dklEvent y 0 (dropTx y s) else showDkl s

theorem slotStart_eq (i : Nat) (s : State) : slotStart i s =
    let s := { s with dkl.slot := i, dkl.line := none }
    if 8 ≤ i || !s.dklSends || s.dkl.owner != 0 then s else
      match s.dkl.current.bind fun k => s.dkl.tx[k]? with
      | none => s
      | some x => slotFill i x s := rfl

theorem slotFill_line {i : Nat} {x : DklTx} {s : State} (hr : s.robustTx x = false)
    (hn : nextUnits x (s.slotCapacity x.next i / 4) ≠ []) :
    (slotFill i x s).dkl.line = some (slotOut i x false (nextUnits x (s.slotCapacity x.next i / 4))) := by
  have hne : (nextUnits x (s.slotCapacity x.next i / 4)).isEmpty = false := by simpa using hn
  simp only [slotFill, hr, Bool.false_eq_true, if_false, hne]
  split
  · rw [dklEvent_line, dropTx_line]
  · rw [showDkl_dkl]

theorem slotStart_sends {s : State} {i k : Nat} {x : DklTx} (hi : i < 8) (hs : s.dklSends = true)
    (ho : s.dkl.owner = 0) (hc : s.dkl.current = some k) (hx : s.dkl.tx[k]? = some x) (hr : s.robustTx x = false)
    (hn : nextUnits x (s.slotCapacity x.next i / 4) ≠ []) : Answers (.slotStart i) s fun t =>
      ∃ o, t.dkl.line = some o ∧ o.slot = i ∧ o.fseq = x.fseq % 16 ∧
        o.units = nextUnits x (s.slotCapacity x.next i / 4) ∧
        o.data = o.units.flatMap fun k => (x.bytes.drop (4 * k)).take 4 := by
  have he : slotStart i s = slotFill i x { s with dkl.slot := i, dkl.line := none } := by
    have hcur : (s.dkl.current.bind fun k => s.dkl.tx[k]?) = some x := by rw [hc, Option.bind_some, hx]
    have hgo : ¬(8 ≤ i || !s.dklSends || s.dkl.owner != 0) = true := by simp [hs, ho]; omega
    rw [slotStart_eq]
    dsimp only
    rw [hcur]
    exact if_neg hgo
  refine answers_done (congrArg done he) ⟨slotOut i x false (nextUnits x (s.slotCapacity x.next i / 4)), ?_, rfl, rfl,
    rfl, rfl⟩
  rw [dkl_settle]
  exact slotFill_line hr hn

theorem segment_passes {s : State} {n : Nat} {x : DklSegment} (h0 : s.dklState ≠ 0) (h1 : 1 ≤ n) (h62 : n ≤ 62)
    (hs : x.slot < 8) (hl : x.slot < (s.link n).fails.length) (hc : x.crcOk = true) :
    Answers (.segmentReceived n x) s fun t => (t.link n).fails.getD x.slot 0 = 0 ∧ (t.link n).up = true ∧
      ∃ l, (t.link n).rx = some (x.frame, l) ∧ ∀ u ∈ x.units, u.1 ∈ l := by
  let old := match (s.link n).rx with | some (f, u) => if f = x.frame then u else [] | none => []
  have he : segmentReceived n x s = s.setLink n fun l => { l with
      fails := l.fails.set x.slot 0, up := true
      rx := some (x.frame, old ++ (x.units.map (·.1)).filter fun u => !old.contains u) } := by
    rw [segmentReceived, if_neg (by simp [h0]; omega)]
    exact if_neg (by simp [hc])
  clear_value old
  refine answers_done (congrArg done he) ?_
  rw [link_settle, link_setLink (by omega)]
  refine ⟨by simp [List.getD, hl], rfl, _, rfl, fun u hu => ?_⟩
  by_cases hold : u.1 ∈ old
  · exact List.mem_append_left _ hold
  · exact List.mem_append_right _ (List.mem_filter.mpr ⟨List.mem_map_of_mem hu, by simpa using hold⟩)

theorem segment_counts {s : State} {n : Nat} {x : DklSegment} (h0 : s.dklState ≠ 0) (h1 : 1 ≤ n) (h62 : n ≤ 62)
    (hs : x.slot < 8) (hl : x.slot < (s.link n).fails.length) (hc : x.crcOk = false)
    (hf : (s.link n).fails.getD x.slot 0 < 2) : Answers (.segmentReceived n x) s fun t =>
      (t.link n).fails.getD x.slot 0 = (s.link n).fails.getD x.slot 0 + 1 ∧ ∀ i, t.rxMap n i = s.rxMap n i := by
  have he : segmentReceived n x s = s.setLink n fun l => { l with
      fails := l.fails.set x.slot ((s.link n).fails.getD x.slot 0 + 1) } := by
    rw [segmentReceived, if_neg (by simp [h0]; omega)]
    exact (if_pos (by simp [hc])).trans (if_pos (by omega))
  refine answers_done (congrArg done he) ?_
  rw [link_settle, link_setLink (by omega)]
  exact ⟨by simp [List.getD, hl], fun i => rxMap_congr (regOf_settle _ _ _ (by decide)) (regOf_settle _ _ _ (by
    decide))⟩

theorem degrade_rxMap (s : State) (n i : Nat) :
    (degrade (s.rxMap n i)).length = 22 ∧ ∀ c ∈ degrade (s.rxMap n i), c < 4 := by
  refine ⟨by simp [degrade, State.rxMap, mapCodes], fun c hc => ?_⟩
  obtain ⟨d, hd, rfl⟩ := List.mem_map.mp hc
  have := mapCodes_lt _ _ d hd
  omega

theorem segment_degrades {s : State} {n : Nat} {x : DklSegment} (h0 : s.dklState ≠ 0) (h1 : 1 ≤ n) (h62 : n ≤ 62)
    (hs : x.slot < 8) (hc : x.crcOk = false) (hf : 2 ≤ (s.link n).fails.getD x.slot 0) :
    Answers (.segmentReceived n x) s fun t => t.rxMap n x.slot = degrade (s.rxMap n x.slot) ∧
      (t.link n).mapSlot = some x.slot ∧ bitOf (t.f Fl.DKL_STAT_CAUSE) 4 = true := by
  have he : segmentReceived n x s = dklCause 4 ((setRxMap n x.slot (degrade (s.rxMap n x.slot)) s).setLink n fun l =>
      { l with fails := l.fails.set x.slot 0, mapSlot := some x.slot }) := by
    rw [segmentReceived, if_neg (by simp [h0]; omega)]
    exact (if_pos (by simp [hc])).trans (if_neg (by omega))
  obtain ⟨hl, hlt⟩ := degrade_rxMap s n x.slot
  refine answers_done (congrArg done he) ?_
  rw [link_settle, link_of_dkl (dklCause_dkl ..), link_setLink (by omega), State.f_fieldOf,
    fieldOf_settle _ _ _ (by decide)]
  refine ⟨?_, rfl, dklCause_shows 4 (by decide) _⟩
  refine (rxMap_congr ?_ ?_).trans (rxMap_setRxMap (by omega) hs hl hlt s) <;>
  · rw [regOf_settle _ _ _ (by decide)]
    exact regOf_causeOn _ _ _ _ _ _ _ _ (by decide) (by decide)

/-! ### ACKs and repeats (R571) -/

theorem waitingTx_props {s : State} {n : Nat} {x : DklTx} (h : s.waitingTx n = some x) : x.next = n := by
  have hp := List.find?_some h
  simp only [Bool.and_eq_true, beq_iff_eq] at hp
  exact hp.1.1.1.1

/-- A frame sent or failed leaves the list with its completion. -/
def completed (x : DklTx) (status : Nat) (s : State) : State := dklEvent x status (dropTx x s)

theorem completed_dkl {x : DklTx} {g : Nat} (hg : x.tag = some g) (status : Nat) (s : State) :
    (completed x status s).dkl = { s.dkl with tx := s.dkl.tx.erase x, current := none
                                              events := s.dkl.events ++ [{ tag := g, status := status, dst := x.dst }]
                                                } := by
  have hdrop : (dropTx x s).dkl = { s.dkl with tx := s.dkl.tx.erase x, current := none } := by
    rw [dropTx, showDkl_dkl]
  unfold completed dklEvent
  rw [hg]
  dsimp only
  rw [dklCause_dkl, showDkl_dkl, hdrop]

theorem completed_cause {x : DklTx} {g : Nat} (hg : x.tag = some g) (status : Nat) (s : State) :
    bitOf (fieldOf (completed x status s).regs Fl.DKL_STAT_CAUSE 0) (if status = 0 then 1 else 2) = true := by
  unfold completed dklEvent
  rw [hg]
  exact dklCause_shows _ (by split <;> decide) _

/-- The state with `l` as the nodes a forwarded frame waits for. -/
def State.withForwards (l : List Nat) (s : State) : State := { s with dkl.forwards := l }

theorem State.withForwards_dkl (l : List Nat) (s : State) : (s.withForwards l).dkl = { s.dkl with forwards := l } := rfl

/-- A DATA frame that was acknowledged is completed; the path may wait for its forwarding. -/
theorem txDone_data {x : DklTx} (hk : x.kind = 0) (s : State) : ∃ l, txDone x s =
    (completed x 0 s).withForwards l := by
  unfold txDone
  extract_lets done' joined
  have hj : joined = completed x 0 s := if_neg (by simp [hk])
  clear_value joined
  subst hj
  split
  · exact ⟨_, rfl⟩
  · exact ⟨(completed x 0 s).dkl.forwards, rfl⟩

theorem ack_completes {s : State} {n : Nat} {x : DklTx} {g : Nat} {bits : List Bool} (h0 : s.dklState ≠ 0)
    (hw : s.waitingTx n = some x) (hk : x.kind = 0) (hg : x.tag = some g)
    (hb : ∀ i, i < x.units.length → bits.getD i false = true) : Answers (.dklAckFrame n x.fseq bits none) s fun t =>
      t.dkl.tx = s.dkl.tx.erase x ∧ t.dkl.events = s.dkl.events ++ [{ tag := g, status := 0, dst := x.dst }] ∧
        bitOf (t.f Fl.DKL_STAT_CAUSE) 1 = true := by
  let v := { s with dkl.owes := s.dkl.owes.erase n }
  let y := { x with units := (List.range x.units.length).map fun i => ackUnit bits i (x.units.getD i (.acked, 0)) }
  have hacked : ∀ u ∈ y.units, u.1 = .acked := by
    intro u hu
    obtain ⟨i, hi, rfl⟩ := List.mem_map.mp hu
    rw [ackUnit, if_pos (hb i (List.mem_range.mp hi))]
  have hrep : repeatUnits x y v = txDone x v := by
    rw [repeatUnits, if_neg, if_pos]
    · exact List.all_eq_true.mpr fun u hu => by rw [hacked u hu]; rfl
    · intro hany
      obtain ⟨u, hu, hl⟩ := List.any_eq_true.mp hany
      rw [hacked u hu] at hl
      exact absurd hl (by simp)
  obtain ⟨l, hl⟩ := txDone_data hk v
  have he : dklAck n x.fseq bits none s = (completed x 0 v).withForwards l := by
    rw [← hl, ← hrep, dklAck, if_neg h0]
    dsimp only
    rw [show v.waitingTx n = some x from hw]
    exact if_neg (by simp)
  refine answers_done (congrArg done he) ?_
  rw [dkl_settle, State.withForwards_dkl, completed_dkl hg, State.f_fieldOf, fieldOf_settle _ _ _ (by decide)]
  exact ⟨rfl, rfl, completed_cause hg 0 v⟩

/-- A frame just queued waits for no ACK. -/
theorem waitingTx_queued {s t : State} {n : Nat} {x : DklTx} {l : Nat} {u : UnitState}
    (ht : t.dkl.tx = s.dkl.tx ++ [x]) (hx : x.units = List.replicate l (u, 0)) (h : s.waitingTx n = none) :
    t.waitingTx n = none := by
  rw [State.waitingTx, ht, List.find?_append, show List.find? _ s.dkl.tx = none from h]
  simp [hx]

theorem ack_degrades {s : State} {n i : Nat} (q : Nat) (bits : List Bool) (m : List Nat) (h0 : s.dklState ≠ 0)
    (hn : n < 64) (hw : s.waitingTx n = none) (hi : i < 8) : Answers (.dklAckFrame n q bits (some (i, m))) s fun t =>
      (t.link n).newMaps = (s.link n).newMaps ++ [(i, m)] ∧ t.dkl.owes = s.dkl.owes.erase n := by
  let v := ({ s with dkl.owes := s.dkl.owes.erase n } : State).setLink n fun l => { l with
    newMaps := l.newMaps ++ [(i, m)] }
  let p := (Config.decklinePayload 2 []).take 240
  obtain ⟨links, hd⟩ := queueTx_dkl 0 n 2 none p v
  obtain ⟨f, hl⟩ := link_queueTx 0 n 2 none p hn v
  have hnone : (queueOwn n 2 [] v).waitingTx n = none :=
    waitingTx_queued (s := v) (congrArg DklState.tx hd) rfl hw
  have he : dklAck n q bits (some (i, m)) s = queueOwn n 2 [] v := by
    rw [dklAck, if_neg h0]
    dsimp only
    rw [if_pos hi, show State.waitingTx _ n = none from hnone]
  refine answers_done (congrArg done he) ?_
  rw [link_settle, dkl_settle, queueOwn, hl, hd]
  refine ⟨?_, rfl⟩
  change (v.link n).newMaps = _
  rw [link_setLink hn]
  rfl

theorem timeout_fails {s : State} {n : Nat} {x : DklTx} {g : Nat} (hw : s.waitingTx n = some x) (hg : x.tag = some g)
    (hu : ∃ u ∈ x.units, u.1 = .waiting ∧ 5 ≤ u.2) (hn : n < 64) : Answers (.ackTimeout n) s fun t =>
      { tag := g, status := 1, dst := x.dst } ∈ t.dkl.events ∧ bitOf (t.f Fl.DKL_STAT_CAUSE) 2 = true ∧
        (t.link n).up = false := by
  obtain ⟨u, hu, hwait, h5⟩ := hu
  let w := (completed x 1 s).setLink n fun l => { l with up := false }
  have he : ackTimeout n s = rerouteAll w := by
    rw [ackTimeout, hw]
    dsimp only
    rw [repeatUnits, if_pos, txFailed, waitingTx_props hw]
    · rfl
    · refine List.any_eq_true.mpr ⟨(.lost, u.2), List.mem_map.mpr ⟨u, hu, ?_⟩, by simpa using h5⟩
      rw [hwait]
      rfl
  obtain ⟨hev, hli, hca⟩ := rerouteAll_grows w
  obtain ⟨r, hr⟩ := hli n hn
  refine answers_done (congrArg done he) ?_
  rw [dkl_settle, link_settle, hr, State.f_fieldOf, fieldOf_settle _ _ _ (by decide)]
  refine ⟨hev _ ?_, hca 2 (by decide) (completed_cause hg 1 s), ?_⟩
  · change _ ∈ (completed x 1 s).dkl.events
    rw [completed_dkl hg]
    exact List.mem_append_right _ (List.mem_singleton_self _)
  · change (w.link n).up = false
    rw [link_setLink hn]

/-- Frame `x` with every unit that waits for its ACK marked as lost. -/
def DklTx.waitLost (x : DklTx) : DklTx :=
  { x with units := x.units.map fun u => if u.1 == .waiting then (UnitState.lost, u.2) else u }

theorem DklTx.waitLost_repeats {x : DklTx} (h5 : ∀ u ∈ x.units, u.1 = .waiting ∨ u.1 = .lost → u.2 < 5) :
    (x.waitLost.units.any fun u => u.1 == .lost && 5 ≤ u.2) = false := by
  refine List.any_eq_false.mpr fun z hz hc => ?_
  obtain ⟨v, hv, rfl⟩ := List.mem_map.mp hz
  rw [Bool.and_eq_true, beq_iff_eq, decide_eq_true_eq] at hc
  by_cases h : v.1 = .waiting
  · have := h5 v hv (.inl h)
    rw [if_pos (by simpa using h)] at hc
    exact Nat.not_le.mpr this (by simpa using hc.2)
  · rw [if_neg (by simpa using h)] at hc
    exact Nat.not_le.mpr (h5 v hv (.inr hc.1)) hc.2

theorem DklTx.waitLost_open {x : DklTx} {u : UnitState × Nat} (hu : u ∈ x.units) (hw : u.1 = .waiting) :
    (x.waitLost.units.all fun u => u.1 == .acked) = false := by
  refine List.all_eq_false.mpr ⟨_, List.mem_map_of_mem hu, ?_⟩
  simp [hw]

theorem timeout_repeats {s : State} {n : Nat} {x : DklTx} (hw : s.waitingTx n = some x)
    (hu : ∃ u ∈ x.units, u.1 = .waiting) (h5 : ∀ u ∈ x.units, u.1 = .waiting ∨ u.1 = .lost → u.2 < 5) :
    Answers (.ackTimeout n) s fun t => t.dkl.tx = s.dkl.tx.map fun z => if z == x then x.waitLost else z := by
  obtain ⟨u, hu, hwait⟩ := hu
  have he : repeatUnits x x.waitLost s =
      { s with dkl.tx := s.dkl.tx.map fun z => if z == x then x.waitLost else z } := by
    rw [repeatUnits, DklTx.waitLost_repeats h5, DklTx.waitLost_open hu hwait, if_neg Bool.false_ne_true,
      if_neg Bool.false_ne_true]
  have ha : ackTimeout n s = repeatUnits x x.waitLost s := by
    rw [ackTimeout, hw]
    rfl
  refine answers_done (congrArg done (ha.trans he)) ?_
  rw [dkl_settle]

/-- Settles O49: crossings and their loss, slots, segments, ACKs and repeats. -/
theorem decklineLine : Obligations.DecklineLine := by
  intro s h0
  exact ⟨fun rising h => crossing_counts rising h, fun rising h => crossing_stops rising h, mainsLost_shows,
    fun i k x hi hs ho hc hx hr hn => slotStart_sends hi hs ho hc hx hr hn,
    fun n x h1 h62 hs hl => ⟨segment_passes h0 h1 h62 hs hl, segment_counts h0 h1 h62 hs hl,
      segment_degrades h0 h1 h62 hs⟩,
    fun n x g bits hw hk hg hb => ack_completes h0 hw hk hg hb,
    fun n q bits i m hn hw hi => ack_degrades q bits m h0 hn hw hi,
    fun n x g hw hg => ⟨timeout_fails hw hg, timeout_repeats hw⟩⟩

end Sys2Proof.Machine

/-! ## Deckline's network: frames received, joining, sending and control (R565 to R577) -/

namespace Sys2Proof.Machine

set_option Elab.async false

theorem node_of_field {s t : State} {n : Nat}
    (h : fieldOf t.regs Fl.DKL_NODEC_STATE (n - 1) = fieldOf s.regs Fl.DKL_NODEC_STATE (n - 1)) : t.node n = s.node n
      := by
  rw [State.node, State.node, State.f_fieldOf, State.f_fieldOf, h]

theorem node_settle (s : State) (n : Nat) : s.settle.node n = s.node n := node_of_field (fieldOf_settle _ _ _ (by
  decide))

theorem node_range {s : State} {n : Nat} (h : s.node n ≠ 0) : 1 ≤ n ∧ n ≤ 62 := by
  by_contra hn
  exact h (if_neg (by simpa using hn))

theorem node_field {s : State} {n : Nat} (h1 : 1 ≤ n) (h62 : n ≤ 62) :
    s.node n = fieldOf s.regs Fl.DKL_NODEC_STATE (n - 1) := by
  rw [← State.f_fieldOf]
  exact if_pos (by simp [h1, h62])

theorem queueTx_length (src dst kind : Nat) (tag : Option Nat) (payload : List Byte) (s : State) :
    (queueTx src dst kind tag payload s).dkl.tx.length = s.dkl.tx.length + 1 := by
  obtain ⟨l, hl⟩ := queueTx_dkl src dst kind tag payload s
  rw [hl]
  exact List.length_append

/-! ### DATA frames received (R571, R572) -/

/-- Frame `x` is noted with its ACK. -/
def heardFrom (x : DklDataFrame) (s : State) : State :=
  oweAck x.src x.frame (s.setLink x.src fun l => { l with last := some x.frame, up := true })

theorem oweAck_shows (n q : Nat) (s : State) : (n, q) ∈ (oweAck n q s).dkl.ackDue ∧
    (oweAck n q s).dkl.tx = s.dkl.tx ∧ (oweAck n q s).regs = s.regs := by
  unfold oweAck
  split
  · next h => exact ⟨by simpa using h, rfl, rfl⟩
  · exact ⟨List.mem_append_right _ (List.mem_singleton_self _), rfl, rfl⟩

theorem heardFrom_shows (x : DklDataFrame) (s : State) : (x.src, x.frame) ∈ (heardFrom x s).dkl.ackDue ∧
    (heardFrom x s).dkl.tx = s.dkl.tx ∧ (heardFrom x s).regs = s.regs := oweAck_shows ..

section DataFrame

variable {s : State} {x : DklDataFrame} (h0 : s.dklState ≠ 0) (h1 : 1 ≤ x.src) (h62 : x.src ≤ 62)
include h0 h1 h62

theorem data_repeated (hl : (s.link x.src).last = some x.frame) : Answers (.dklDataFrame x) s fun t =>
    t.dkl.tx = s.dkl.tx ∧ (x.src, x.frame) ∈ t.dkl.ackDue ∧ t.f Fl.DKL_RXSTAT_COUNT = s.f Fl.DKL_RXSTAT_COUNT := by
  have he : dataFrame x s = heardFrom x s := by
    rw [dataFrame, if_neg (by simp [h0]; omega)]
    exact if_pos (by simp [hl])
  obtain ⟨ha, ht, hr⟩ := heardFrom_shows x s
  refine answers_done (congrArg done he) ?_
  rw [dkl_settle, State.f_fieldOf, State.f_fieldOf, fieldOf_settle _ _ _ (by decide), hr]
  exact ⟨ht, ha, rfl⟩

theorem data_forwarded (hl : (s.link x.src).last ≠ some x.frame) (hd0 : x.dst ≠ 0) (hd63 : x.dst ≠ 63) :
    Answers (.dklDataFrame x) s fun t => t.dkl.tx.length = s.dkl.tx.length + 1 ∧ (x.src, x.frame) ∈ t.dkl.ackDue ∧
      t.f Fl.DKL_RXSTAT_COUNT = s.f Fl.DKL_RXSTAT_COUNT := by
  have he : dataFrame x s = queueTx x.src x.dst 0 none (x.payload.take 240) (heardFrom x s) := by
    rw [dataFrame, if_neg (by simp [h0]; omega)]
    exact (if_neg (by simp [hl])).trans (if_pos (by simp [hd0, hd63]))
  obtain ⟨ha, ht, hr⟩ := heardFrom_shows x s
  generalize heardFrom x s = u at he ha ht hr
  refine answers_done (congrArg done he) ?_
  rw [dkl_settle, queueTx_length, State.f_fieldOf, State.f_fieldOf, fieldOf_settle _ _ _ (by decide),
    fieldOf_queueTx _ _ _ _ _ _ _ (by decide), hr, ht]
  obtain ⟨l, hq⟩ := queueTx_dkl x.src x.dst 0 none (x.payload.take 240) u
  rw [hq]
  exact ⟨rfl, ha, rfl⟩

/-- The words of a frame in the receive ring. -/
def ringWords (i : Nat) (p : List Byte) (s : State) : State :=
  s.each (ceilDiv p.length 4) fun w s =>
    s.setReg R.DKL_RXRING (64 * i + 1 + w) (BitVec.ofNat 32 (leNat ((p.drop (4 * w)).take 4)))

omit h0 h1 h62 in
theorem ringWords_dkl (i : Nat) (p : List Byte) (s : State) : (ringWords i p s).dkl = s.dkl :=
  State.each_induct (P := fun u => u.dkl = s.dkl)
    (f := fun w u => u.setReg R.DKL_RXRING (64 * i + 1 + w) (BitVec.ofNat 32 (leNat ((p.drop (4 * w)).take 4))))
    (fun _ _ h => (State.setReg_dkl ..).trans h) rfl _

/-- The state with `i` as the next entry of the receive ring. -/
def State.withRxNext (i : Nat) (s : State) : State := { s with dkl.rxNext := i }

theorem data_received (hl : (s.link x.src).last ≠ some x.frame) (hd : x.dst = 0) (hc : s.f Fl.DKL_RXSTAT_COUNT < 16) :
    Answers (.dklDataFrame x) s fun t => t.f Fl.DKL_RXSTAT_COUNT = s.f Fl.DKL_RXSTAT_COUNT + 1 ∧
      bitOf (t.f Fl.DKL_STAT_CAUSE) 0 = true ∧ (x.src, x.frame) ∈ t.dkl.ackDue := by
  obtain ⟨ha, -, hr⟩ := heardFrom_shows x s
  have hcount : (heardFrom x s).f Fl.DKL_RXSTAT_COUNT = s.f Fl.DKL_RXSTAT_COUNT := by
    rw [State.f_fieldOf, State.f_fieldOf, hr]
  have he : ∃ v, dataFrame x s = dklCause 0 (((ringWords (heardFrom x s).dkl.rxNext (x.payload.take 240)
      ((heardFrom x s).setReg R.DKL_RXRING (64 * (heardFrom x s).dkl.rxNext) v)).withRxNext
        (((heardFrom x s).dkl.rxNext + 1) % 16)).setF Fl.DKL_RXSTAT_COUNT 0
          ((heardFrom x s).f Fl.DKL_RXSTAT_COUNT + 1)) := by
    rw [dataFrame, if_neg (by simp [h0]; omega)]
    exact ⟨_, (if_neg (by simp [hl])).trans ((if_neg (by simp [hd])).trans (if_neg (by
      change ¬16 ≤ (heardFrom x s).f Fl.DKL_RXSTAT_COUNT
      omega)))⟩
  obtain ⟨v, he⟩ := he
  rw [hcount] at he
  generalize heardFrom x s = u at he ha
  have hv : s.f Fl.DKL_RXSTAT_COUNT + 1 < 2 ^ Fl.DKL_RXSTAT_COUNT.width := lt_of_le_of_lt (Nat.succ_le_of_lt hc) (by
    decide)
  refine answers_done (congrArg done he) ?_
  rw [dkl_settle, dklCause_dkl, State.setF_dkl, State.f_fieldOf, State.f_fieldOf _ Fl.DKL_STAT_CAUSE,
    fieldOf_settle _ _ _ (by decide), fieldOf_settle _ _ _ (by decide),
    fieldOf_dklCause _ _ _ (by decide) (by decide), fieldOf_setF_fits _ _ _ _ (by decide) (by decide) hv]
  refine ⟨rfl, dklCause_shows 0 (by decide) _, ?_⟩
  change _ ∈ (ringWords _ _ _).dkl.ackDue
  rw [ringWords_dkl, State.setReg_dkl]
  exact ha

end DataFrame

/-! ### SOUND, MAP and NEIGH (R569, R575) -/

/-- The registers that a new route writes. -/
def rerouteRegs : List Rg := [R.DKL_NODEC, R.DKL_STAT, R.DKL_TXEV, R.DKL_TXSTAT, R.EVT_PEND]

theorem rxMap_of_writes {s t : State} {l : List Rg} (h : t.without (onlyRegs l) = s.without (onlyRegs l)) (n i : Nat)
    (ha : (!regsIn l R.DKL_RXMAPA.addr && decide (R.DKL_RXMAPA.count ≤ 65536)) = true)
    (hb : (!regsIn l R.DKL_RXMAPB.addr && decide (R.DKL_RXMAPB.count ≤ 65536)) = true) : t.rxMap n i = s.rxMap n i :=
  rxMap_congr (regOf_onlyRegs h _ ha) (regOf_onlyRegs h _ hb)

/-- The receive maps of node `n` that a SOUND gives. -/
def soundMaps (n : Nat) (snr : List (List Nat)) (s : State) : State :=
  s.each 8 fun i s => setRxMap n i (((snr.getD i []).take 22).map snrCode) s

theorem snrCode_lt (d : Nat) : snrCode d < 4 := by
  unfold snrCode
  split_ifs <;> decide

theorem rxMap_soundMaps {n i : Nat} {snr : List (List Nat)} (hn : n < 63) (hi : i < 8)
    (hl : (snr.getD i []).length = 22) (s : State) : (soundMaps n snr s).rxMap n i = (snr.getD i []).map snrCode := by
  have hm : ((snr.getD i []).take 22).map snrCode = (snr.getD i []).map snrCode := by
    rw [List.take_of_length_le (le_of_eq hl)]
  refine each_member (fun u => u.rxMap n i) (fun _ => (snr.getD i []).map snrCode) hi (fun u => ?_)
    (fun j u hj => rxMap_setRxMap_other hj _ u) s
  rw [hm]
  refine rxMap_setRxMap hn hi (by simpa using hl) (fun c hc => ?_) _
  obtain ⟨d, -, rfl⟩ := List.mem_map.mp hc
  exact snrCode_lt d

theorem sound_maps {s : State} {n i : Nat} {snr : List (List Nat)} (h0 : s.dklState ≠ 0) (hn : s.node n = 2)
    (hi : i < 8) (hl : (snr.getD i []).length = 22) : Answers (.soundFrame n snr) s fun t =>
      t.rxMap n i = (snr.getD i []).map snrCode := by
  obtain ⟨-, h62⟩ := node_range (s := s) (n := n) (by omega)
  have he : ∃ p, soundFrame n snr s = reroute n (queueTx 0 n 3 none p (soundMaps n snr s)) :=
    ⟨_, if_neg (by simp [h0, hn])⟩
  obtain ⟨p, he⟩ := he
  refine answers_done (congrArg done he) ?_
  have hs : ∀ u : State, u.settle.rxMap n i = u.rxMap n i := fun u =>
    rxMap_congr (regOf_settle _ _ _ (by decide)) (regOf_settle _ _ _ (by decide))
  rw [hs, rxMap_of_writes (l := rerouteRegs) (reroute_writes (by decide) (by decide) (by decide) (by decide) (by
    decide) rfl n _) n i
    (by decide) (by decide), rxMap_of_writes (l := rerouteRegs) (queueTx_writes (by decide) (by decide) rfl 0 n 3 none
      p _) n i (by decide)
    (by decide)]
  exact rxMap_soundMaps (by omega) hi hl s

theorem map_noted {s : State} {n : Nat} (h0 : s.dklState ≠ 0) (hn : s.node n = 2) (maps : List (List Nat)) :
    Answers (.mapFrame n maps) s fun t =>
      (t.link n).newMaps = (List.range 8).map fun i => (i, (maps.getD i []).take 22) := by
  obtain ⟨-, h62⟩ := node_range (s := s) (n := n) (by omega)
  refine answers_done (congrArg done (if_neg (by simp [h0, hn]))) ?_
  rw [link_settle, link_setLink (by omega)]

theorem neigh_noted {s : State} {n : Nat} (h0 : s.dklState ≠ 0) (hn : s.node n = 2) (l : List (Nat × Nat)) :
    Answers (.neighFrame n l) s fun t => (t.link n).heard = l.take 8 := by
  obtain ⟨-, h62⟩ := node_range (s := s) (n := n) (by omega)
  refine answers_done (congrArg done (if_neg (by simp [h0, hn]))) ?_
  obtain ⟨r, hr⟩ := (rerouteAll_grows (s.setLink n fun k => { k with heard := l.take 8, up := true })).links n (by
    omega)
  rw [link_settle, hr, link_setLink (by omega)]

theorem sounding_queued {s : State} {n : Nat} (hn : s.node n = 2) (h1 : s.dklState = 1)
    (hx : ∀ x ∈ s.dkl.tx, x.kind = 2 → x.dst ≠ n) : Answers (.soundingDue n) s fun t =>
      t.dkl.tx.length = s.dkl.tx.length + 1 := by
  have hnone : (s.dkl.tx.any fun x : DklTx => x.kind == 2 && x.dst == n) = false := by
    refine List.any_eq_false.mpr fun x hm hc => ?_
    rw [Bool.and_eq_true, beq_iff_eq, beq_iff_eq] at hc
    exact hx x hm hc.1 hc.2
  refine answers_done (congrArg done (if_pos (by rw [hnone]; simp [h1, hn]))) ?_
  rw [dkl_settle]
  exact queueTx_length ..

/-! ### Joining (R565 to R567) -/

/-- The addresses a node may have. -/
def dklAddresses : List Nat := (List.range 62).map (· + 1)

theorem mem_dklAddresses {n : Nat} : n ∈ dklAddresses ↔ 1 ≤ n ∧ n ≤ 62 := by
  simp only [dklAddresses, List.mem_map, List.mem_range]
  exact ⟨fun ⟨k, hk, he⟩ => by omega, fun h => ⟨n - 1, by omega, by omega⟩⟩

theorem find_first_free {s : State} {n : Nat} (h1 : 1 ≤ n) (h62 : n ≤ 62) (hf : s.node n = 0)
    (hb : ∀ k, 1 ≤ k → k < n → s.node k ≠ 0) : dklAddresses.find? (fun n => s.node n == 0) = some n := by
  rw [List.find?_eq_some_iff_getElem]
  refine ⟨by simpa using hf, n - 1, by simp [dklAddresses]; omega, by simp [dklAddresses]; omega, fun j hj => ?_⟩
  simpa [dklAddresses] using hb (j + 1) (by omega) (by omega)

/-- A pending node: its address, identity and line data are written. -/
def joined (n id delta ph : Nat) (s : State) : State :=
  setNode n 1 ((freeNode n s).setQ R.DKL_NODEA R.DKL_NODEB (n - 1) id)
    |>.setF Fl.DKL_NODEC_PHASE (n - 1) ph |>.setF Fl.DKL_NODED_DELTA (n - 1) delta
    |>.setF Fl.DKL_NODEC_NEXT (n - 1) n

theorem joined_node {n : Nat} (h1 : 1 ≤ n) (h62 : n ≤ 62) (id delta ph : Nat) (s : State) :
    fieldOf (joined n id delta ph s).regs Fl.DKL_NODEC_STATE (n - 1) = 1 := by
  have hi : n - 1 < 62 := by omega
  unfold joined setNode
  simp (disch := first | decide | (apply lt_of_lt_of_le hi; decide)) only [fieldOf_setF_apart, fieldOf_setF_fits]

theorem joined_id {n id : Nat} (h1 : 1 ≤ n) (h62 : n ≤ 62) (hid : id < 2 ^ 64) (delta ph : Nat) (s : State) :
    quantOf (joined n id delta ph s).regs R.DKL_NODEA R.DKL_NODEB (n - 1) = id := by
  have hi : n - 1 < 62 := by omega
  unfold joined setNode
  simp (disch := decide) only [quantOf_setF_apart]
  exact quantOf_setQ_same _ _ _ _ _ (lt_of_lt_of_le hi (by decide)) (lt_of_lt_of_le hi (by decide)) (by decide) hid

theorem joined_autoApprove (n id delta ph : Nat) (s : State) :
    fieldOf (joined n id delta ph s).regs Fl.DKL_CTL_AUTOAPP 0 = fieldOf s.regs Fl.DKL_CTL_AUTOAPP 0 := by
  unfold joined setNode State.setQ
  simp (disch := decide) only [fieldOf_setF_apart, fieldOf_setReg_apart]
  exact fieldOf_onlyRegs (l := R.DKL_NODEA :: R.DKL_NODEB :: R.DKL_NODED :: rerouteRegs) (freeNode_writes (by decide)
    (by decide) (by decide) (by decide) (by decide) (by decide)
    (by decide) (by decide) rfl n s) 0 (by decide)

section Join

variable {s : State} {id : Nat} (h0 : s.dklState ≠ 0)
  (hid : ∀ k, 1 ≤ k → k ≤ 62 → s.node k ≠ 0 → s.q R.DKL_NODEA R.DKL_NODEB (k - 1) ≠ id)
include hid

theorem join_unknown : (dklAddresses.find? fun n => s.node n != 0 && s.q R.DKL_NODEA R.DKL_NODEB (n - 1) == id) = none
  := by
  refine List.find?_eq_none.mpr fun n hn hc => ?_
  obtain ⟨h1, h62⟩ := mem_dklAddresses.mp hn
  rw [Bool.and_eq_true, bne_iff_ne, beq_iff_eq] at hc
  exact hid n h1 h62 hc.1 hc.2

include h0

theorem join_pending {d n : Nat} (hlt : id < 2 ^ 64) (h1 : 1 ≤ n) (h62 : n ≤ 62) (hf : s.node n = 0)
    (hb : ∀ k, 1 ≤ k → k < n → s.node k ≠ 0) (ha : s.f Fl.DKL_CTL_AUTOAPP = 0) : Answers (.joinFrame id 0 d) s fun t =>
      t.node n = 1 ∧ t.q R.DKL_NODEA R.DKL_NODEB (n - 1) = id ∧ bitOf (t.f Fl.DKL_STAT_CAUSE) 3 = true := by
  have he : ∃ ph, joinFrame id 0 d s = dklCause 3 (joined n id d ph s) := by
    refine ⟨if s.b Fl.DKL_CFG_COUPLE then phaseOf (2 * s.f Fl.DKL_MAINS_HALF) d else 0, ?_⟩
    have hauto : ∀ ph, (joined n id d ph s).b Fl.DKL_CTL_AUTOAPP = false := fun ph => by
      rw [State.b_fieldOf, joined_autoApprove, ← State.f_fieldOf, ha]
      rfl
    have hk := join_unknown hid
    have hfree := find_first_free h1 h62 hf hb
    unfold dklAddresses at hk hfree
    rw [joinFrame, if_neg h0]
    dsimp only
    rw [hk, hfree]
    exact (congrArg (State.when _ · _) (hauto _)).trans (State.when_false _ _)
  obtain ⟨ph, he⟩ := he
  have hn := joined_node h1 h62 id d ph s
  have hq := joined_id h1 h62 hlt d ph s
  generalize joined n id d ph s = u at he hn hq
  refine answers_done (congrArg done he) ?_
  rw [node_settle, node_field h1 h62, fieldOf_dklCause _ _ _ (by decide) (by decide), State.q_quantOf,
    quantOf_settle _ _ _ _ (by decide) (by decide), State.f_fieldOf, fieldOf_settle _ _ _ (by decide)]
  refine ⟨hn, ?_, dklCause_shows 3 (by decide) _⟩
  exact (quantOf_congr (regOf_causeOn _ _ _ _ _ _ _ _ (by decide) (by decide))
    (regOf_causeOn _ _ _ _ _ _ _ _ (by decide) (by decide))).trans hq

theorem join_full (d : Nat) (hb : ∀ k, 1 ≤ k → k ≤ 62 → s.node k ≠ 0) : Answers (.joinFrame id 0 d) s fun t =>
    t.f Fl.DKL_STAT_JOINFULL = min 255 (s.f Fl.DKL_STAT_JOINFULL + 1) ∧ ∀ k, t.node k = s.node k := by
  have he : joinFrame id 0 d s = s.satF Fl.DKL_STAT_JOINFULL 0 1 := by
    have hk := join_unknown hid
    have hfree : dklAddresses.find? (fun n => s.node n == 0) = none := by
      refine List.find?_eq_none.mpr fun n hn hc => ?_
      obtain ⟨h1, h62⟩ := mem_dklAddresses.mp hn
      exact hb n h1 h62 (by simpa using hc)
    unfold dklAddresses at hk hfree
    rw [joinFrame, if_neg h0]
    dsimp only
    rw [hk, hfree]
    rfl
  refine answers_done (congrArg done he) ⟨?_, fun k => ?_⟩
  · have hlt : satAdd 8 (s.f Fl.DKL_STAT_JOINFULL) 1 < 2 ^ Fl.DKL_STAT_JOINFULL.width :=
      lt_of_le_of_lt (Nat.min_le_right _ _) (by decide)
    rw [State.f_fieldOf, fieldOf_settle _ _ _ (by decide), State.satF]
    exact (fieldOf_setF_fits _ _ _ _ (by decide) (by decide) hlt).trans (Nat.min_comm _ _)
  · rw [node_settle]
    exact node_of_field (fieldOf_satF_apart _ _ _ _ _ _ (by decide))

end Join

theorem approve_assigns {s : State} {n : Nat} (h0 : s.dklState ≠ 0) (hn : s.node n = 1)
    (ha : (s.link n).approved = false) : Answers (.nodeApprove n) s fun t =>
      (t.link n).approved = true ∧ t.dkl.tx.length = s.dkl.tx.length + 1 := by
  obtain ⟨-, h62⟩ := node_range (s := s) (n := n) (by omega)
  have he : nodeApprove n s = queueOwn n 5 [n, s.f Fl.DKL_NODEA_ID (n - 1), s.f Fl.DKL_NODEB_ID (n - 1)]
      (s.setLink n fun l => { l with approved := true }) := by
    rw [nodeApprove, if_neg h0, assign, if_neg (by simp [hn, ha])]
  refine answers_done (congrArg done he) ?_
  rw [link_settle, dkl_settle, queueOwn, queueTx_length]
  refine ⟨?_, rfl⟩
  obtain ⟨q, hq⟩ := link_queueTx 0 n 5 none ((Config.decklinePayload 5
    [n, s.f Fl.DKL_NODEA_ID (n - 1), s.f Fl.DKL_NODEB_ID (n - 1)]).take 240) (n := n) (by omega)
    (s.setLink n fun l => { l with approved := true })
  rw [hq, link_setLink (by omega)]

theorem timeout_frees {s : State} {n : Nat} (hn : s.node n = 1) (ha : (s.link n).approved = false) :
    Answers (.joinApprovalTimeout n) s fun t => t.node n = 0 := by
  obtain ⟨h1, h62⟩ := node_range (s := s) (n := n) (by omega)
  have hi : n - 1 < R.DKL_NODEC.count := lt_of_lt_of_le (show n - 1 < 62 by omega) (by decide)
  refine answers_done (congrArg done (if_pos (by simp [hn, ha]))) ?_
  rw [node_settle, node_field h1 h62]
  unfold freeNode
  dsimp only
  change fieldOf (State.setReg (State.setReg _ _ _ _) _ _ _).regs _ _ = _
  rw [fieldOf_setReg_apart _ _ _ _ _ _ (by decide)]
  change bitsOf (regOf (State.setReg _ R.DKL_NODEC (n - 1) 0).regs R.DKL_NODEC (n - 1)) _ _ = 0
  rw [regOf_setReg_same _ _ _ _ hi]
  decide

/-! ### Sending, completions and control (R572 to R577) -/

theorem send_queues {s : State} {v : Word} (hv : v.toNat.testBit 31 = true)
    (ho : (s.dkl.tx.filter fun x : DklTx => x.tag.isSome).length < 8) (hl : bitsOf v 0 8 ≤ 240)
    (hd : bitsOf v 24 6 = 63 ∨ s.node (bitsOf v 24 6) = 2) : Answers (.dklSend v) s fun t =>
      t.dkl.tx.length = s.dkl.tx.length + 1 ∧ (t.dkl.tx.getLast?.map (·.tag)) = some (some (bitsOf v 16 4)) := by
  have hnode : (plainWrite R.DKL_TXCTL 0 v s).node (bitsOf v 24 6) = s.node (bitsOf v 24 6) :=
    node_of_field (fieldOf_setReg_apart _ _ _ _ _ _ (by decide))
  have he : ∃ p, dklSend v s = queueTx 0 (bitsOf v 24 6) 0 (some (bitsOf v 16 4)) p (plainWrite R.DKL_TXCTL 0 v s) := by
    rw [dklSend]
    dsimp only
    rw [if_neg (show ¬(!v.toNat.testBit 31) = true by rw [hv]; decide), if_neg, if_neg]
    · exact ⟨_, rfl⟩
    · rw [hnode]
      simpa [or_iff_not_imp_left] using hd
    · change ¬(decide (8 ≤ (s.dkl.tx.filter fun x : DklTx => x.tag.isSome).length) || decide (240 < bitsOf v 0 8)) =
        true
      simp
      omega
  obtain ⟨p, he⟩ := he
  obtain ⟨l, hq⟩ := queueTx_dkl 0 (bitsOf v 24 6) 0 (some (bitsOf v 16 4)) p (plainWrite R.DKL_TXCTL 0 v s)
  refine answers_done (congrArg done he) ?_
  rw [dkl_settle, queueTx_length]
  refine ⟨rfl, ?_⟩
  rw [hq]
  change ((s.dkl.tx ++ [_]).getLast?).map _ = _
  rw [List.getLast?_concat]
  rfl

theorem send_refused {s : State} {v : Word} (hv : v.toNat.testBit 31 = true)
    (ho : 8 ≤ (s.dkl.tx.filter fun x : DklTx => x.tag.isSome).length ∨ 240 < bitsOf v 0 8) :
    Answers (.dklSend v) s fun t => t.dkl.tx = s.dkl.tx ∧ bitOf (t.f Fl.DKL_STAT_CAUSE) 2 = true := by
  have he : dklSend v s = dklCause 2 (plainWrite R.DKL_TXCTL 0 v s) := by
    rw [dklSend]
    dsimp only
    rw [if_neg (show ¬(!v.toNat.testBit 31) = true by rw [hv]; decide), if_pos]
    change (decide (8 ≤ (s.dkl.tx.filter fun x : DklTx => x.tag.isSome).length) || decide (240 < bitsOf v 0 8)) = true
    simpa using ho
  refine answers_done (congrArg done he) ?_
  rw [dkl_settle, dklCause_dkl, State.f_fieldOf, fieldOf_settle _ _ _ (by decide)]
  exact ⟨rfl, dklCause_shows 2 (by decide) _⟩

theorem dklRxReturn_counts (s : State) (k : Nat) : Answers (.dklRxReturn k) s fun t =>
    t.f Fl.DKL_RXSTAT_COUNT = s.f Fl.DKL_RXSTAT_COUNT - min (s.f Fl.DKL_RXSTAT_COUNT) (k % 32) := by
  have hlt : s.f Fl.DKL_RXSTAT_COUNT - min (s.f Fl.DKL_RXSTAT_COUNT) (k % 32) < 2 ^ Fl.DKL_RXSTAT_COUNT.width :=
    lt_of_le_of_lt (Nat.sub_le _ _) (by rw [State.f_fieldOf]; exact fieldOf_lt _ _ _)
  refine answers_done rfl ?_
  rw [State.f_fieldOf, fieldOf_settle _ _ _ (by decide)]
  unfold dklRxReturn
  dsimp only
  rw [fieldOf_setF_apart _ _ _ _ _ _ (by decide), fieldOf_setF_fits _ _ _ _ (by decide) (by decide) hlt]

theorem eventRead_takes (s : State) : Answers .dklTxEventRead s fun t => t.readData = s.reg R.DKL_TXEV ∧
    t.dkl.events = s.dkl.events.drop 1 := by
  let u : State := { s with readData := s.reg R.DKL_TXEV, dkl.events := s.dkl.events.drop 1 }
  have hread : (showDkl u).readData = u.readData := by
    unfold showDkl
    dsimp only
    split <;> simp
  refine answers_done (show exec .dklTxEventRead s = done (showDkl u) from rfl) ?_
  rw [dkl_settle, showDkl_dkl, State.readData_of_without (State.settle_settled _) rfl, hread]
  exact ⟨rfl, rfl⟩

theorem enable_starts {s : State} (h : s.dklState = 0) (hp : s.f Fl.SYS_PWRSTAT_STATE ≤ 1) :
    Answers .dklEnable s fun t => t.f Fl.DKL_CTL_EN = 1 ∧ t.dklState = 1 := by
  have he : dklEnable s = (s.setB Fl.DKL_CTL_EN 0 true).setF Fl.DKL_STAT_STATE 0 1 := by
    have hs : (s.setB Fl.DKL_CTL_EN 0 true).dklState = 0 := by
      rw [State.dklState, State.f_fieldOf, fieldOf_setB_apart _ _ _ _ _ _ (by decide), ← State.f_fieldOf]
      exact h
    unfold dklEnable
    extract_lets u
    change u.dklState = _ at hs
    rw [hs]
    refine if_neg ?_
    rw [State.f_fieldOf, fieldOf_setB_apart _ _ _ _ _ _ (by decide), ← State.f_fieldOf]
    omega
  refine answers_done (congrArg done he) ?_
  unfold State.dklState
  simp (disch := decide) only [State.f_fieldOf, fieldOf_settle, fieldOf_setF_apart, fieldOf_setF_fits,
    fieldOf_setB_same]
  trivial

theorem enable_after_stop {s : State} (h : s.dklState = 2) : Answers .dklEnable s fun t => t.dklState = 3 := by
  have he : dklEnable s = (s.setB Fl.DKL_CTL_EN 0 true).setF Fl.DKL_STAT_STATE 0 3 := by
    have hs : (s.setB Fl.DKL_CTL_EN 0 true).dklState = 2 := by
      rw [State.dklState, State.f_fieldOf, fieldOf_setB_apart _ _ _ _ _ _ (by decide), ← State.f_fieldOf]
      exact h
    unfold dklEnable
    extract_lets u
    change u.dklState = _ at hs
    rw [hs]
    rfl
  refine answers_done (congrArg done he) ?_
  rw [State.dklState, State.f_fieldOf, fieldOf_settle _ _ _ (by decide)]
  exact fieldOf_setF_fits _ _ _ _ (by decide) (by decide) (by decide)

/-- The block with EN cleared and stopping. -/
def dklStopping (s : State) : State := (s.setB Fl.DKL_CTL_EN 0 false).setF Fl.DKL_STAT_STATE 0 2

theorem dklStopping_state (s : State) : (dklStopping s).dklState = 2 := by
  rw [State.dklState, State.f_fieldOf]
  exact fieldOf_setF_fits _ _ _ _ (by decide) (by decide) (by decide)

theorem dklStopping_sends {s : State} (h : s.dklState = 1) : (dklStopping s).dklSends = s.dklSends := by
  have hm : (dklStopping s).f Fl.DKL_STAT_MCLASS = s.f Fl.DKL_STAT_MCLASS := by
    unfold dklStopping
    rw [State.f_fieldOf, State.f_fieldOf, fieldOf_setF_apart _ _ _ _ _ _ (by decide),
      fieldOf_setB_apart _ _ _ _ _ _ (by decide)]
  rw [State.dklSends, State.dklSends, hm, dklStopping_state, h]
  rfl

theorem dklDisable_running {s : State} (h : s.dklState = 1) :
    dklDisable s = if s.dklSends then dklStopping s else dklOff (dklStopping s) := by
  have hs : (s.setB Fl.DKL_CTL_EN 0 false).dklState = 1 := by
    rw [State.dklState, State.f_fieldOf, fieldOf_setB_apart _ _ _ _ _ _ (by decide), ← State.f_fieldOf]
    exact h
  have hsend : (s.setB Fl.DKL_CTL_EN 0 false).dklSends = s.dklSends := by
    unfold State.dklSends
    rw [hs, h, State.f_fieldOf, fieldOf_setB_apart _ _ _ _ _ _ (by decide), ← State.f_fieldOf]
    rfl
  unfold dklDisable
  extract_lets u
  change u.dklState = 1 at hs
  change u.dklSends = _ at hsend
  rw [hs]
  change (if u.dklSends then _ else _) = _
  rw [hsend]
  rfl

theorem disable_stops {s : State} (h : s.dklState = 1) (hs : s.dklSends = true) : Answers .dklDisable s fun t =>
    t.f Fl.DKL_CTL_EN = 0 ∧ t.dklState = 2 := by
  have he : dklDisable s = dklStopping s := by rw [dklDisable_running h, if_pos hs]
  refine answers_done (congrArg done he) ?_
  unfold State.dklState dklStopping
  simp (disch := decide) only [State.f_fieldOf, fieldOf_settle, fieldOf_setF_apart, fieldOf_setF_fits,
    fieldOf_setB_same]
  trivial

theorem disable_off {s : State} (h : s.dklState = 1) (hs : s.dklSends = false) : Answers .dklDisable s fun t =>
    t.dklState = 0 ∧ t.dkl.tx = [] := by
  have he : dklDisable s = dklOff (dklStopping s) := by rw [dklDisable_running h, hs]; rfl
  obtain ⟨ht, -, hst⟩ := dklOff_shows (dklStopping s)
  refine answers_done (congrArg done he) ?_
  rw [State.dklState, State.f_fieldOf, fieldOf_settle _ _ _ (by decide), dkl_settle, hst, dklStopping_state]
  exact ⟨rfl, ht⟩

/-- Settles O50: frames received, joining, maps, sending and control. -/
theorem decklineNetwork : Obligations.DecklineNetwork := by
  intro s
  refine ⟨fun h0 => ⟨fun x h1 h62 => ⟨data_received h0 h1 h62, data_forwarded h0 h1 h62, data_repeated h0 h1 h62⟩,
    fun n hn => ⟨fun snr i hi hl => sound_maps h0 hn hi hl, map_noted h0 hn, neigh_noted h0 hn,
      sounding_queued hn⟩,
    fun id d n hlt hid => ⟨join_pending h0 hid hlt, join_full h0 hid d⟩,
    fun n hn ha => approve_assigns h0 hn ha⟩, fun n hn ha => timeout_frees hn ha,
    fun v hv => ⟨send_queues hv, send_refused hv⟩, dklRxReturn_counts s, eventRead_takes s, enable_starts,
    enable_after_stop, disable_stops, disable_off⟩

end Sys2Proof.Machine

/-! ## The ring: what its shared operations leave (R455 to R479) -/

namespace Sys2Proof.Machine

set_option Elab.async false

theorem fieldOf_satF_same (s : State) (fl : Fld) (i n : Nat) (hi : i < fl.reg.count) (hw : fl.lsb + fl.width ≤ 32) :
    fieldOf (s.satF fl i n).regs fl i = min (2 ^ fl.width - 1) (s.f fl i + n) := by
  have hlt : satAdd fl.width (s.f fl i) n < 2 ^ fl.width :=
    lt_of_le_of_lt (Nat.min_le_right _ _) (Nat.sub_lt (Nat.two_pow_pos _) (by decide))
  exact (fieldOf_setF_fits _ _ _ _ hi hw hlt).trans (Nat.min_comm _ _)

/-- A field of one register of an array stands when another of the array is written. -/
theorem fieldOf_setF_member (s : State) (fl : Fld) {i j : Nat} (v : Nat) (h : i ≠ j) :
    fieldOf (s.setF fl i v).regs fl j = fieldOf s.regs fl j :=
  congrArg (bitsOf · fl.lsb fl.width) (regOf_setReg_member s fl.reg _ h)

theorem bitOf_fits (s : State) (fl : Fld) (i : Nat) (h : fl.width = 1) : s.b fl i = decide (s.f fl i = 1) := by
  have hlt := fieldOf_lt s.regs fl i
  rw [h] at hlt
  rw [State.b_fieldOf, State.f_fieldOf]
  have h01 : fieldOf s.regs fl i = 0 ∨ fieldOf s.regs fl i = 1 := by omega
  rcases h01 with h0 | h1
  · rw [h0]; rfl
  · rw [h1]; rfl

theorem rng_settle (s : State) : s.settle.rng = s.rng := State.rng_of_without (State.settle_settled _) rfl

theorem keeps_settle {c : Instr} {s : State} (h : exec c s = done s) :
    Answers c s fun u => u.without settledPart = s.without settledPart :=
  answers_done h (State.settle_settled s)

theorem rngCause_shows (j : Nat) (hj : j < 16) (s : State) :
    bitOf (fieldOf (rngCause j s).regs Fl.RNG_CAUSE_CAUSE 0) j = true :=
  bitOf_causeOn _ _ _ _ _ _ (by decide) (by decide) hj (by decide)

theorem rngCause_rng (j : Nat) (s : State) : (rngCause j s).rng = s.rng := State.causeOn_rng ..

theorem fieldOf_rngCause {fl : Fld} (j i : Nat) (s : State) (h : Fl.RNG_CAUSE_CAUSE.apart fl = true)
    (hp : Fl.EVT_PEND_PEND.apart fl = true) : fieldOf (rngCause j s).regs fl i = fieldOf s.regs fl i :=
  fieldOf_causeOn _ _ _ _ _ _ _ _ h hp

/-- The links and T_decl stand, and the causes only grow. -/
structure RingKeeps (s t : State) : Prop where
  link : ∀ k, fieldOf t.regs Fl.RNG_LINK_STATE k = fieldOf s.regs Fl.RNG_LINK_STATE k
  declared : quantOf t.regs R.RNG_TDECLL R.RNG_TDECLH 0 = quantOf s.regs R.RNG_TDECLL R.RNG_TDECLH 0
  causes : ∀ j, j < 16 → bitOf (fieldOf s.regs Fl.RNG_CAUSE_CAUSE 0) j = true →
    bitOf (fieldOf t.regs Fl.RNG_CAUSE_CAUSE 0) j = true

theorem RingKeeps.refl (s : State) : RingKeeps s s := ⟨fun _ => rfl, rfl, fun _ _ h => h⟩

theorem RingKeeps.trans {s t u : State} (h : RingKeeps s t) (h' : RingKeeps t u) : RingKeeps s u :=
  ⟨fun k => (h'.link k).trans (h.link k), h'.declared.trans h.declared,
    fun j hj hc => h'.causes j hj (h.causes j hj hc)⟩

theorem RingKeeps.of_regs {s t : State} (h : t.regs = s.regs) : RingKeeps s t := by
  refine ⟨fun k => ?_, ?_, fun j _ hc => ?_⟩ <;> rw [h]
  exact hc

theorem rngCause_keeps (j : Nat) (s : State) : RingKeeps s (rngCause j s) :=
  ⟨fun _ => fieldOf_rngCause _ _ _ (by decide) (by decide),
    quantOf_congr (regOf_causeOn _ _ _ _ _ _ _ _ (by decide) (by decide))
      (regOf_causeOn _ _ _ _ _ _ _ _ (by decide) (by decide)),
    fun _ hj hc => bitOf_causeOn_keeps (by decide) (by decide) (by decide) hj (by decide) hc⟩

theorem RingKeeps.setF (s : State) (fl : Fld) (i v : Nat) (hl : fl.apart Fl.RNG_LINK_STATE = true)
    (hc : fl.apart Fl.RNG_CAUSE_CAUSE = true) (h1 : fl.reg.apart R.RNG_TDECLL = true)
    (h2 : fl.reg.apart R.RNG_TDECLH = true) : RingKeeps s (s.setF fl i v) :=
  ⟨fun k => fieldOf_setF_apart _ _ _ _ _ _ hl, quantOf_setF_apart _ _ _ _ _ _ _ h1 h2,
    fun j _ h => by rw [fieldOf_setF_apart _ _ _ _ _ _ hc]; exact h⟩

theorem announce_regs (c : RingChange) (s : State) : (announce c s).regs = s.regs := by
  unfold announce
  dsimp only
  split <;> rfl

theorem RingKeeps.when {f : State → State} (h : ∀ s, RingKeeps s (f s)) (s : State) (c : Bool) :
    RingKeeps s (s.when c f) := by
  cases c
  · exact .refl s
  · exact h s

theorem showLine_keeps (broken : Bool) (s : State) : RingKeeps s (showLine broken s) := by
  unfold showLine
  extract_lets line was
  exact (RingKeeps.setF s Fl.RNG_STAT_LINE 0 _ (by decide) (by decide) (by decide) (by decide)).trans
    (RingKeeps.when (rngCause_keeps 7) _ _)

theorem fieldOf_showLine {fl : Fld} (broken : Bool) (i : Nat) (s : State) (h : Fl.RNG_CAUSE_CAUSE.apart fl = true)
    (hp : Fl.EVT_PEND_PEND.apart fl = true) (hl : Fl.RNG_STAT_LINE.apart fl = true) :
    fieldOf (showLine broken s).regs fl i = fieldOf s.regs fl i := by
  unfold showLine
  extract_lets line was
  rw [fieldOf_when (fun u => fieldOf_rngCause 7 i u h hp), fieldOf_setB_apart _ _ _ _ _ _ hl]

/-- The registers that the end of a guest's session writes. -/
def guestEndRegs : List Rg := [R.EVT_PEND, R.LPE_BATCH, R.LPE_BSTAT, R.LPE_LOAD, R.LPE_STAT, R.LPE_TLOAD, R.LSW_CHSTAT,
  R.PRT_GCAUSE, R.PRT_GCMD, R.PRT_GSTAT, R.PRT_IAPP, R.PRT_RATE, R.PRT_VAPP, R.SFY_COIL, R.SFY_PSTAT, R.SFY_STAT,
  R.VEH_SSTAT]

/-- Everything but the ring's part. -/
def butRng : Part := { besideMemory with rng := false, mem := true, pending := true }

theorem guestLost_onlyRegs (c : Nat) (s : State) :
    (guestLost c s).without (onlyRegs guestEndRegs) = s.without (onlyRegs guestEndRegs) :=
  guestLost_writes (by decide) (by decide) (by decide) (by decide) (by decide) (by decide) (by decide) (by decide)
    (by decide) (by decide) (by decide) (by decide) (by decide) (by decide) (by decide) (by decide) (by decide)
    rfl rfl rfl rfl c s

theorem guestLost_rng (c : Nat) (s : State) : (guestLost c s).rng = s.rng :=
  State.rng_of_without (A := butRng) (guestLost_writes rfl rfl rfl rfl rfl rfl rfl rfl rfl rfl rfl rfl rfl rfl rfl rfl
    rfl rfl rfl rfl rfl c s) rfl

/-- What an operation on sessions leaves of the ring. -/
structure RingStands (s t : State) : Prop where
  fields : ∀ fl i, (!regsIn guestEndRegs fl.reg.addr && decide (fl.reg.count ≤ 65536)) = true →
    fieldOf t.regs fl i = fieldOf s.regs fl i
  regs : ∀ r i, (!regsIn guestEndRegs r.addr && decide (r.count ≤ 65536)) = true → regOf t.regs r i = regOf s.regs r i
  rng : t.rng = s.rng

theorem RingStands.refl (s : State) : RingStands s s := ⟨fun _ _ _ => rfl, fun _ _ _ => rfl, rfl⟩

theorem RingStands.trans {s t u : State} (h : RingStands s t) (h' : RingStands t u) : RingStands s u :=
  ⟨fun fl i hf => (h'.fields fl i hf).trans (h.fields fl i hf), fun r i hr => (h'.regs r i hr).trans (h.regs r i hr),
    h'.rng.trans h.rng⟩

theorem guestLost_stands (c : Nat) (s : State) : RingStands s (guestLost c s) :=
  ⟨fun _ i h => fieldOf_onlyRegs (guestLost_onlyRegs c s) i h, fun _ i h => regOf_onlyRegs (guestLost_onlyRegs c s) i h,
    guestLost_rng c s⟩

theorem RingStands.keeps {s t : State} (h : RingStands s t) : RingKeeps s t :=
  ⟨fun k => h.fields _ k (by decide), quantOf_congr (h.regs _ 0 (by decide)) (h.regs _ 0 (by decide)),
    fun j _ hc => by rw [h.fields _ 0 (by decide)]; exact hc⟩

/-- The sessions of guest front-ends that no standby front-end serves are lost. -/
def guestsLost (s : State) : State :=
  s.each 24 fun h s =>
    if (List.range 24).any fun f => s.feMode f == 2 && s.f Fl.VEH_FE_CTX f == 24 + h then s else guestLost (24 + h) s

theorem guestsLost_stands (s : State) : RingStands s (guestsLost s) := by
  refine State.each_induct (P := RingStands s) (fun h u hu => ?_) (.refl s) 24
  split
  · exact hu
  · exact hu.trans (guestLost_stands _ u)

/-- The state as a guest's module takes over, before its sessions are looked at. -/
def takeoverStarted (m : Nat) (s : State) : State :=
  { s.setB Fl.RNG_STAT_GUEST 0 true |>.setF Fl.RNG_STAT_GUESTID 0 m with
    lpe.signal := some true, rng.takeFold := true, rng.signalled := false, rng.asked := false
    rng.returnAt := none, rng.closing := none }

theorem takeoverBegin_eq (m : Nat) (s : State) :
    takeoverBegin m s = rngCause 9 (guestsLost (takeoverStarted m s)) := rfl

theorem takeoverStarted_keeps (m : Nat) (s : State) : RingKeeps s (takeoverStarted m s) :=
  (RingKeeps.setF s Fl.RNG_STAT_GUEST 0 (b2n true) (by decide) (by decide) (by decide) (by decide)).trans
    ((RingKeeps.setF _ Fl.RNG_STAT_GUESTID 0 m (by decide) (by decide) (by decide) (by decide)).trans (.of_regs rfl))

theorem takeoverBegin_keeps (m : Nat) (s : State) : RingKeeps s (takeoverBegin m s) := by
  rw [takeoverBegin_eq]
  exact (takeoverStarted_keeps m s).trans ((guestsLost_stands _).keeps.trans (rngCause_keeps 9 _))

/-- The ring shows that module `m` is taken over. -/
structure TakenOver (m : Nat) (s : State) : Prop where
  guest : fieldOf s.regs Fl.RNG_STAT_GUEST 0 = 1
  guestId : fieldOf s.regs Fl.RNG_STAT_GUESTID 0 = m
  cause : bitOf (fieldOf s.regs Fl.RNG_CAUSE_CAUSE 0) 9 = true
  fold : s.rng.takeFold = true

theorem takeoverBegin_shows {m : Nat} (hm : m < 256) (s : State) : TakenOver m (takeoverBegin m s) := by
  have hs := guestsLost_stands (takeoverStarted m s)
  rw [takeoverBegin_eq]
  refine ⟨?_, ?_, rngCause_shows 9 (by decide) _, ?_⟩
  · rw [fieldOf_rngCause _ _ _ (by decide) (by decide), hs.fields _ _ (by decide)]
    refine (fieldOf_setF_apart _ Fl.RNG_STAT_GUESTID _ _ _ _ (by decide)).trans ?_
    exact fieldOf_setB_same _ _ _ _ (by decide) (by decide) (by decide)
  · rw [fieldOf_rngCause _ _ _ (by decide) (by decide), hs.fields _ _ (by decide)]
    exact fieldOf_setF_fits _ Fl.RNG_STAT_GUESTID 0 m (by decide) (by decide) hm
  · rw [rngCause_rng, hs.rng]
    rfl

end Sys2Proof.Machine

/-! ## Takeover, displacement, return and splice of the ring (R458 to R479) -/

namespace Sys2Proof.Machine

set_option Elab.async false

theorem ringKeeps_settle (s : State) : RingKeeps s s.settle :=
  ⟨fun _ => fieldOf_settle _ _ _ (by decide), quantOf_settle _ _ _ _ (by decide) (by decide),
    fun _ _ hc => by rw [fieldOf_settle _ _ _ (by decide)]; exact hc⟩

theorem linkUp_iff (s : State) (k : Nat) : s.linkUp k = true ↔ s.f Fl.RNG_LINK_STATE k = 2 := by simp [State.linkUp]

/-! ### A lost neighbour (R459, R470) -/

/-- The state with the link of a lost neighbour down and T_decl taken. -/
def linkLost (k : Nat) (s : State) : State := ringLinkDown k (s.setQ R.RNG_TDECLL R.RNG_TDECLH 0 s.now)

/-- A lost link is shown down, with its cause and T_decl. -/
structure LinkLost (k now : Nat) (s : State) : Prop where
  down : fieldOf s.regs Fl.RNG_LINK_STATE k = 0
  cause : bitOf (fieldOf s.regs Fl.RNG_CAUSE_CAUSE 0) 1 = true
  declared : quantOf s.regs R.RNG_TDECLL R.RNG_TDECLH 0 = now

theorem LinkLost.keeps {k now : Nat} {s t : State} (h : LinkLost k now s) (hk : RingKeeps s t) : LinkLost k now t :=
  ⟨(hk.link k).trans h.down, hk.causes 1 (by decide) h.cause, hk.declared.trans h.declared⟩

theorem now_lt (s : State) : s.now < 2 ^ 64 := Nat.mod_lt _ (by decide)

theorem linkLost_shows {k : Nat} (hk : k < 2) (s : State) : LinkLost k s.now (linkLost k s) := by
  let u := s.setQ R.RNG_TDECLL R.RNG_TDECLH 0 s.now
  have hq : quantOf u.regs R.RNG_TDECLL R.RNG_TDECLH 0 = s.now :=
    quantOf_setQ_same _ _ _ _ _ (by decide) (by decide) (by decide) (now_lt s)
  let v := (u.setF Fl.RNG_LINK_STATE k 0).setRp k fun _ => {}
  have hv : quantOf v.regs R.RNG_TDECLL R.RNG_TDECLH 0 = s.now :=
    (quantOf_setF_apart u Fl.RNG_LINK_STATE _ _ k 0 0 (by decide) (by decide)).trans hq
  have hd : fieldOf v.regs Fl.RNG_LINK_STATE k = 0 :=
    fieldOf_setF_fits u _ _ _ (lt_of_lt_of_le hk (by decide)) (by decide) (by decide)
  have hkeep : RingKeeps (rngCause 1 v) (linkLost k s) := showLine_keeps false _
  refine LinkLost.keeps ⟨?_, rngCause_shows 1 (by decide) v, ?_⟩ hkeep
  · exact ((rngCause_keeps 1 v).link k).trans hd
  · exact (rngCause_keeps 1 v).declared.trans hv

theorem fieldOf_linkLost {fl : Fld} (k i : Nat) (s : State) (h : Fl.RNG_CAUSE_CAUSE.apart fl = true)
    (hp : Fl.EVT_PEND_PEND.apart fl = true) (hl : Fl.RNG_STAT_LINE.apart fl = true)
    (hk : Fl.RNG_LINK_STATE.apart fl = true) (h1 : R.RNG_TDECLL.apart fl.reg = true)
    (h2 : R.RNG_TDECLH.apart fl.reg = true) : fieldOf (linkLost k s).regs fl i = fieldOf s.regs fl i := by
  refine (fieldOf_showLine false i _ h hp hl).trans ((fieldOf_rngCause 1 i _ h hp).trans ?_)
  refine (fieldOf_setF_apart _ Fl.RNG_LINK_STATE _ _ _ _ hk).trans ?_
  rw [State.setQ, fieldOf_setReg_apart _ _ _ _ _ _ h2, fieldOf_setReg_apart _ _ _ _ _ _ h1]

/-- Module `m`, lost by its protector, is taken over or only reported. -/
def lostProtected (ok : Bool) (m : Nat) : State → State := if ok then takeoverBegin m else rngCause 12

theorem lostProtected_keeps (ok : Bool) (m : Nat) (s : State) : RingKeeps s (lostProtected ok m s) := by
  cases ok
  · exact rngCause_keeps 12 s
  · exact takeoverBegin_keeps m s

/-- The lost buddy is shown. -/
def lostBuddy (s : State) : State := rngCause 8 (s.setB Fl.RNG_STAT_NOBUDDY 0 true)

theorem lostBuddy_keeps (s : State) : RingKeeps s (lostBuddy s) :=
  (RingKeeps.setF s Fl.RNG_STAT_NOBUDDY 0 _ (by decide) (by decide) (by decide) (by decide)).trans (rngCause_keeps 8 _)

theorem lostBuddy_shows (s : State) : fieldOf (lostBuddy s).regs Fl.RNG_STAT_NOBUDDY 0 = 1 ∧
    bitOf (fieldOf (lostBuddy s).regs Fl.RNG_CAUSE_CAUSE 0) 8 = true := by
  refine ⟨?_, rngCause_shows 8 (by decide) _⟩
  exact (fieldOf_rngCause _ _ _ (by decide) (by decide)).trans
    (fieldOf_setB_same s _ _ _ (by decide) (by decide) (by decide))

theorem fieldOf_lostBuddy {fl : Fld} (i : Nat) (s : State) (h : Fl.RNG_CAUSE_CAUSE.apart fl = true)
    (hp : Fl.EVT_PEND_PEND.apart fl = true) (hl : Fl.RNG_STAT_NOBUDDY.apart fl = true) :
    fieldOf (lostBuddy s).regs fl i = fieldOf s.regs fl i :=
  (fieldOf_rngCause 8 i _ h hp).trans (fieldOf_setB_apart s _ _ _ _ _ hl)

/-- The member that is lost is announced. -/
def lostAnnounced (k m : Nat) (was : Bool) (s : State) : State := (linkLost k s).when was (announce (.lose m))

theorem lostAnnounced_regs (k m : Nat) (was : Bool) (s : State) : (lostAnnounced k m was s).regs = (linkLost k s).regs
  := by
  cases was
  · rfl
  · exact announce_regs _ _

/-- What follows a lost link: the takeover or its report, and the lost buddy. -/
def lossTaken (prot ok buddy : Bool) (m : Nat) (s : State) : State :=
  (s.when prot (lostProtected ok m)).when buddy lostBuddy

theorem lossTaken_keeps (prot ok buddy : Bool) (m : Nat) (s : State) : RingKeeps s (lossTaken prot ok buddy m s) :=
  (RingKeeps.when (lostProtected_keeps ok m) s prot).trans (RingKeeps.when lostBuddy_keeps _ buddy)

theorem fieldOf_lossTaken {fl : Fld} (prot ok buddy : Bool) (m i : Nat) (s : State)
    (h : Fl.RNG_CAUSE_CAUSE.apart fl = true) (hp : Fl.EVT_PEND_PEND.apart fl = true)
    (hl : Fl.RNG_STAT_NOBUDDY.apart fl = true) : fieldOf (lossTaken prot ok buddy m s).regs fl i =
      fieldOf (s.when prot (lostProtected ok m)).regs fl i :=
  fieldOf_when (fun t => fieldOf_lostBuddy i t h hp hl) _ _

theorem lossTaken_other (ok buddy : Bool) (m : Nat) (s : State) :
    fieldOf (lossTaken false ok buddy m s).regs Fl.RNG_STAT_GUEST 0 = fieldOf s.regs Fl.RNG_STAT_GUEST 0 :=
  fieldOf_lossTaken _ _ _ _ _ _ (by decide) (by decide) (by decide)

theorem lossTaken_refused (buddy : Bool) (m : Nat) (s : State) :
    bitOf (fieldOf (lossTaken true false buddy m s).regs Fl.RNG_CAUSE_CAUSE 0) 12 = true ∧
    fieldOf (lossTaken true false buddy m s).regs Fl.RNG_STAT_GUEST 0 = fieldOf s.regs Fl.RNG_STAT_GUEST 0 := by
  refine ⟨(RingKeeps.when lostBuddy_keeps (rngCause 12 s) buddy).causes 12 (by decide) (rngCause_shows 12 (by decide)
    s),
    ?_⟩
  exact (fieldOf_lossTaken _ _ _ _ _ _ (by decide) (by decide) (by decide)).trans
    (fieldOf_rngCause 12 0 s (by decide) (by decide))

theorem lossTaken_takes (buddy : Bool) {m : Nat} (hm : m < 256) (s : State) :
    TakenOver m (lossTaken true true buddy m s) := by
  have h := takeoverBegin_shows hm s
  refine ⟨?_, ?_, (RingKeeps.when lostBuddy_keeps (takeoverBegin m s) buddy).causes 9 (by decide) h.cause, ?_⟩
  · exact (fieldOf_lossTaken _ _ _ _ _ _ (by decide) (by decide) (by decide)).trans h.guest
  · exact (fieldOf_lossTaken _ _ _ _ _ _ (by decide) (by decide) (by decide)).trans h.guestId
  · cases buddy
    · exact h.fold
    · refine (congrArg RngState.takeFold ?_).trans h.fold
      exact (rngCause_rng 8 _).trans (State.setF_rng ..)

theorem lossTaken_buddy (prot ok : Bool) (m : Nat) (s : State) :
    fieldOf (lossTaken prot ok true m s).regs Fl.RNG_STAT_NOBUDDY 0 = 1 ∧
      bitOf (fieldOf (lossTaken prot ok true m s).regs Fl.RNG_CAUSE_CAUSE 0) 8 = true := by
  rw [lossTaken, State.when_true]
  exact lostBuddy_shows _

theorem neighbourLost_eq {s : State} {k : Nat} (hk : k < 2) (hup : s.f Fl.RNG_LINK_STATE k = 2)
    (hm : 4 ≤ (s.rp k).misses) : neighbourLost k s =
      let m := s.f Fl.RNG_LINK_PEER k
      lossTaken (k == 1 && (s.member m && s.f Fl.RNG_STAT_PROT == m)) (s.takeoverOk m (s.rp k).beat)
        (k == 0 && (s.member m && s.f Fl.RNG_STAT_BUDDY == m)) m (lostAnnounced k m (s.member m) s) := by
  refine if_neg ?_
  rw [(linkUp_iff s k).mpr hup]
  simp
  omega

/-- The four conditions of R470. -/
def Takes (s : State) (k : Nat) : Prop :=
  s.f Fl.RNG_CTL_TAKEEN = 1 ∧ s.f Fl.RNG_STAT_STATE = 2 ∧ ¬ s.f Fl.RNG_STAT_GUEST = 1 ∧
    (∃ h, (s.rp k).beat = some h ∧ (h.state = 2 ∨ h.state = 3)) ∧
    s.f Fl.RNG_SHSTAT_AGE ≤ max 1 (s.f Fl.RNG_CFG_AGEMAX)

theorem takeoverOk_iff {s : State} {k m : Nat} (hm : s.member m = true) :
    s.takeoverOk m (s.rp k).beat = true ↔ Takes s k := by
  have he : s.b Fl.RNG_CTL_TAKEEN = decide (s.f Fl.RNG_CTL_TAKEEN = 1) := bitOf_fits _ _ _ rfl
  have hg : s.b Fl.RNG_STAT_GUEST = decide (s.f Fl.RNG_STAT_GUEST = 1) := bitOf_fits _ _ _ rfl
  unfold State.takeoverOk
  rw [he, hg, hm, Takes]
  cases (s.rp k).beat with
  | none => simp
  | some h =>
    simp only [Bool.and_eq_true, State.ringState, rService, rSplicing, decide_eq_true_eq, Bool.not_eq_true',
      decide_eq_false_iff_not, beq_iff_eq, Bool.or_eq_true, Option.some.injEq, exists_eq_left', and_assoc, true_and]

theorem neighbourLost_shows {s : State} {k : Nat} (hk : k < 2) (hup : s.f Fl.RNG_LINK_STATE k = 2)
    (hm : 4 ≤ (s.rp k).misses) : Answers (.neighbourLost k) s fun u =>
      let m := s.f Fl.RNG_LINK_PEER k
      let prot := k = 1 ∧ s.member m = true ∧ s.f Fl.RNG_STAT_PROT = m
      let cause (u : State) (j : Nat) : Prop := bitOf (u.f Fl.RNG_CAUSE_CAUSE) j = true
      u.f Fl.RNG_LINK_STATE k = 0 ∧ cause u 1 ∧ u.q R.RNG_TDECLL R.RNG_TDECLH = s.now ∧
        (prot → Takes s k → u.f Fl.RNG_STAT_GUEST = 1 ∧ u.f Fl.RNG_STAT_GUESTID = m ∧ cause u 9 ∧
          u.rng.takeFold = true) ∧
        (prot → ¬ Takes s k → cause u 12 ∧ u.f Fl.RNG_STAT_GUEST = s.f Fl.RNG_STAT_GUEST) ∧
        (¬ prot → u.f Fl.RNG_STAT_GUEST = s.f Fl.RNG_STAT_GUEST) ∧
        (k = 0 → s.member m = true → s.f Fl.RNG_STAT_BUDDY = m → u.f Fl.RNG_STAT_NOBUDDY = 1 ∧ cause u 8) := by
  have he := neighbourLost_eq hk hup hm
  have hlt : s.f Fl.RNG_LINK_PEER k < 256 := by rw [State.f_fieldOf]; exact fieldOf_lt _ _ _
  refine answers_done (congrArg done he) ?_
  simp (disch := decide) only [State.f_fieldOf, State.q_quantOf, rng_settle, fieldOf_settle, quantOf_settle] at hlt ⊢
  generalize fieldOf s.regs Fl.RNG_LINK_PEER k = m at hlt ⊢
  have hd : (lostAnnounced k m (s.member m) s).regs = (linkLost k s).regs := lostAnnounced_regs ..
  have hdl : LinkLost k s.now (lostAnnounced k m (s.member m) s) := (linkLost_shows hk s).keeps (.of_regs hd)
  have hdg : fieldOf (lostAnnounced k m (s.member m) s).regs Fl.RNG_STAT_GUEST 0 =
      fieldOf s.regs Fl.RNG_STAT_GUEST 0 := by
    rw [hd]
    exact fieldOf_linkLost _ _ _ (by decide) (by decide) (by decide) (by decide) (by decide) (by decide)
  generalize lostAnnounced k m (s.member m) s = d at hdl hdg ⊢
  obtain ⟨hdown, hcause, hdecl⟩ := hdl.keeps (lossTaken_keeps (k == 1 && (s.member m &&
    fieldOf s.regs Fl.RNG_STAT_PROT 0 == m)) (s.takeoverOk m (s.rp k).beat)
    (k == 0 && (s.member m && fieldOf s.regs Fl.RNG_STAT_BUDDY 0 == m)) m d)
  refine ⟨hdown, hcause, hdecl, fun hp ht => ?_, fun hp ht => ?_, fun hp => ?_, fun h0 h1 h2 => ?_⟩
  · rw [(takeoverOk_iff hp.2.1).mpr ht]
    simp only [hp, beq_self_eq_true, Bool.and_self]
    generalize (_ && _ : Bool) = buddy
    have h := lossTaken_takes buddy hlt d
    exact ⟨h.guest, h.guestId, h.cause, h.fold⟩
  · have hf : s.takeoverOk m (s.rp k).beat = false := by
      rw [Bool.eq_false_iff]
      exact fun h => ht ((takeoverOk_iff hp.2.1).mp h)
    rw [hf]
    simp only [hp, beq_self_eq_true, Bool.and_self]
    generalize (_ && _ : Bool) = buddy
    obtain ⟨hc, hg⟩ := lossTaken_refused buddy m d
    exact ⟨hc, hg.trans hdg⟩
  · have hf : (k == 1 && (s.member m && fieldOf s.regs Fl.RNG_STAT_PROT 0 == m)) = false := by
      rw [Bool.eq_false_iff]
      simpa using hp
    rw [hf]
    exact (lossTaken_other ..).trans hdg
  · simp only [h0, h1, h2, beq_self_eq_true, Bool.and_self]
    exact lossTaken_buddy ..

end Sys2Proof.Machine

/-! ## Shadowing, displacement, return and handover of the ring (R462 to R479) -/

namespace Sys2Proof.Machine

set_option Elab.async false

/-! ### Shadow and delta frames (R464, R467) -/

section Shadow

variable {s : State} {f : ShadowFrame} (hup : s.f Fl.RNG_LINK_STATE 1 = 2)
include hup

theorem shadow_badTag (ht : f.tagOk = false) : Answers (.shdFrame f) s fun u => u.rng = s.rng ∧
    u.f Fl.RNG_LINKERR_TAGERR 1 = min 65535 (s.f Fl.RNG_LINKERR_TAGERR 1 + 1) := by
  have he : shadowFrame f s = s.satF Fl.RNG_LINKERR_TAGERR 1 1 := by
    rw [shadowFrame, (linkUp_iff s 1).mpr hup, ht]
    rfl
  refine answers_done (congrArg done he) ?_
  rw [rng_settle, State.f_fieldOf, fieldOf_settle _ _ _ (by decide), fieldOf_satF_same _ _ _ _ (by decide) (by decide)]
  exact ⟨State.satF_rng .., rfl⟩

/-- The state with the data of a shadow frame appended. -/
def shadowNoted (f : ShadowFrame) (s : State) : State :=
  { s with rng.words := s.rng.words ++ f.words, rng.lanes := s.rng.lanes ++ f.lanes
           rng.observers := s.rng.observers ++ f.observers, rng.nodes := s.rng.nodes ++ f.nodes
           rng.fold := f.fold.orElse fun _ => s.rng.fold }

theorem shadowFrame_good (ht : f.tagOk = true) : shadowFrame f s =
    let s := shadowNoted f s
    if !f.last then s
    else if f.count == s.rng.words.length then { s with rng.complete := true }
    else rngCause 13 { s.satF Fl.RNG_SHSTAT_LAG 0 1 with
      rng.words := [], rng.lanes := [], rng.observers := [], rng.nodes := [], rng.fold := none
      rng.complete := false } := by
  rw [shadowFrame, (linkUp_iff s 1).mpr hup, ht]
  rfl

theorem shadow_goesOn (ht : f.tagOk = true) (hl : f.last = false) : Answers (.shdFrame f) s fun u =>
    u.rng.words = s.rng.words ++ f.words ∧ u.rng.complete = s.rng.complete := by
  have he : shadowFrame f s = shadowNoted f s := by
    rw [shadowFrame_good hup ht, hl]
    rfl
  refine answers_done (congrArg done he) ?_
  rw [rng_settle]
  exact ⟨rfl, rfl⟩

theorem shadow_completes (ht : f.tagOk = true) (hl : f.last = true)
    (hc : f.count = s.rng.words.length + f.words.length) : Answers (.shdFrame f) s fun u =>
      u.rng.complete = true ∧ u.rng.words = s.rng.words ++ f.words := by
  have hn : (shadowNoted f s).rng.words.length = s.rng.words.length + f.words.length := List.length_append
  have he : shadowFrame f s = { shadowNoted f s with rng.complete := true } := by
    rw [shadowFrame_good hup ht, hl]
    exact if_pos (beq_iff_eq.mpr (hc.trans hn.symm))
  refine answers_done (congrArg done he) ?_
  rw [rng_settle]
  exact ⟨rfl, rfl⟩

theorem shadow_lags (ht : f.tagOk = true) (hl : f.last = true) (hc : f.count ≠ s.rng.words.length + f.words.length) :
    Answers (.shdFrame f) s fun u => u.rng.complete = false ∧ u.rng.words = [] ∧
      bitOf (u.f Fl.RNG_CAUSE_CAUSE) 13 = true ∧
      u.f Fl.RNG_SHSTAT_LAG = min 65535 (s.f Fl.RNG_SHSTAT_LAG + 1) := by
  have hn : (shadowNoted f s).rng.words.length = s.rng.words.length + f.words.length := List.length_append
  let v : State := { (shadowNoted f s).satF Fl.RNG_SHSTAT_LAG 0 1 with
    rng.words := [], rng.lanes := [], rng.observers := [], rng.nodes := [], rng.fold := none, rng.complete := false }
  have hlag : fieldOf v.regs Fl.RNG_SHSTAT_LAG 0 = min 65535 (s.f Fl.RNG_SHSTAT_LAG + 1) :=
    fieldOf_satF_same (shadowNoted f s) _ _ _ (by decide) (by decide)
  have he : shadowFrame f s = rngCause 13 v := by
    rw [shadowFrame_good hup ht, hl]
    exact if_neg fun h => hc ((beq_iff_eq.mp h).trans hn)
  refine answers_done (congrArg done he) ?_
  rw [rng_settle, rngCause_rng, State.f_fieldOf, State.f_fieldOf _ Fl.RNG_SHSTAT_LAG, fieldOf_settle _ _ _ (by decide),
    fieldOf_settle _ _ _ (by decide), fieldOf_rngCause (fl := Fl.RNG_SHSTAT_LAG) _ _ _ (by decide) (by decide)]
  exact ⟨rfl, rfl, rngCause_shows 13 (by decide) v, hlag⟩

end Shadow

section Delta

variable {s : State} {d : DeltaFrame} (hp : d.port < 24)
  (hup : s.f Fl.RNG_LINK_STATE (if s.f Fl.RNG_STAT_STATE = 5 then 0 else 1) = 2)
include hp hup

theorem delta_badTag (ht : d.tagOk = false) : Effect (.deltaFrame d) s fun u => u.rng.acked = s.rng.acked ∧
    u.f Fl.RNG_LINKERR_TAGERR (if s.f Fl.RNG_STAT_STATE = 5 then 0 else 1) =
      min 65535 (s.f Fl.RNG_LINKERR_TAGERR (if s.f Fl.RNG_STAT_STATE = 5 then 0 else 1) + 1) := by
  have he : deltaFrame d s = s.satF Fl.RNG_LINKERR_TAGERR (if s.f Fl.RNG_STAT_STATE = 5 then 0 else 1) 1 := by
    unfold deltaFrame
    simp only [State.ringState, rReturning, beq_iff_eq]
    rw [(linkUp_iff s _).mpr hup, if_neg (by simp; omega), ht]
    rfl
  refine effect_done (congrArg done he) ⟨by rw [State.satF_rng], ?_⟩
  rw [State.f_fieldOf]
  exact fieldOf_satF_same _ _ _ _ (by split <;> decide) (by decide)

/-- The session context `c` as a delta states it. -/
def deltaSession (d : DeltaFrame) (x : Session) : Session :=
  { x with active := d.state != sIdle, netKey := d.netKey, lastRequest := d.request
           lastResponse := if d.response.isEmpty then none else some (.bytes d.response)
           secrets := d.secrets, rxCount := d.rxCount, txCount := d.txCount }

theorem delta_updates (ht : d.tagOk = true) : Effect (.deltaFrame d) s fun u => u.rng.acked = some (d.port, d.seq) ∧
    let c := if s.f Fl.RNG_STAT_STATE = 5 then d.port else 24 + d.port
    u.f Fl.VEH_SSTAT_STATE c = d.state % 16 ∧ (u.ses c).lastRequest = d.request ∧ (u.ses c).netKey = d.netKey := by
  let c := if s.f Fl.RNG_STAT_STATE = 5 then d.port else 24 + d.port
  have hc : c < 48 := by
    simp only [c]
    split <;> omega
  have he : ∃ w : State, deltaFrame d s =
      { (w.setF Fl.VEH_SSTAT_STATE c (d.state % 16)).setSes c (deltaSession d) with
        rng.acked := some (d.port, d.seq) } := by
    unfold deltaFrame
    simp only [State.ringState, rReturning, beq_iff_eq]
    rw [(linkUp_iff s _).mpr hup, if_neg (by simp; omega), ht]
    exact ⟨_, rfl⟩
  obtain ⟨w, he⟩ := he
  have hs : (({ (w.setF Fl.VEH_SSTAT_STATE c (d.state % 16)).setSes c (deltaSession d) with
      rng.acked := some (d.port, d.seq) } : State)).ses c = deltaSession d ((w.setF Fl.VEH_SSTAT_STATE c (d.state %
        16)).ses c) :=
    memberOf_set_same _ _ _ hc
  refine effect_done (congrArg done he) ⟨rfl, ?_, ?_, ?_⟩
  · exact fieldOf_setF_fits w _ _ _ (lt_of_lt_of_le hc (by decide)) (by decide) (Nat.mod_lt _ (by decide))
  · exact congrArg Session.lastRequest hs
  · exact congrArg Session.netKey hs

end Delta

/-! ### Displacement and the return (R473 to R477) -/

/-- The home front-ends are released. -/
def silentFronts (s : State) : State :=
  s.each 24 fun f s =>
    if s.feMode f == 1 && s.f Fl.VEH_FE_CTX f < 24 then s.setFe f fun x => { x with released := true } else s

/-- Every own sheet is 0. -/
def silentSheets (s : State) : State := s.each 24 fun p s => setSheet p 0 s

/-- Every own setpoint is 0. -/
def silentSetpoints (s : State) : State := s.each 8 fun i s => setSetpoint i 0 s

theorem goSilent_eq (s : State) :
    goSilent s = silentSetpoints (silentSheets (silentFronts { s with rng.silent := true })) := rfl

theorem goSilent_rng (s : State) : (goSilent s).rng = { s.rng with silent := true } := by
  have h1 : (silentFronts { s with rng.silent := true }).rng = { s.rng with silent := true } := by
    refine State.each_induct (P := fun u => u.rng = { s.rng with silent := true }) (fun f u hu => ?_) rfl 24
    split
    · exact hu
    · exact hu
  have h2 : ∀ u : State, (silentSheets u).rng = u.rng := fun u =>
    State.each_induct (P := fun v => v.rng = u.rng) (f := fun p v => setSheet p 0 v)
      (fun p v hv => by simp [setSheet, hv]) rfl 24
  have h3 : ∀ u : State, (silentSetpoints u).rng = u.rng := fun u =>
    State.each_induct (P := fun v => v.rng = u.rng) (f := fun i v => setSetpoint i 0 v) (fun i v hv => by
      unfold setSetpoint
      dsimp only
      split_ifs <;> simp [State.setFi, hv]) rfl 8
  rw [goSilent_eq, h3, h2, h1]

theorem fieldOf_goSilent {fl : Fld} (i : Nat) (s : State)
    (h : (!regsIn [R.ALC_PAPPLIED, R.ALC_SSETPOINT, R.PRT_ISET, R.PRT_ISHEET] fl.reg.addr &&
      decide (fl.reg.count ≤ 65536)) = true) : fieldOf (goSilent s).regs fl i = fieldOf s.regs fl i :=
  fieldOf_onlyRegs (goSilent_writes (by decide) (by decide) (by decide) (by decide) rfl rfl s) i h

theorem goSilent_sheets {p : Nat} (hp : p < 24) (s : State) :
    fieldOf (goSilent s).regs Fl.PRT_ISHEET_SHEET (portGroup p) = 0 := by
  have hg : portGroup p = p := if_pos hp
  have hset : ∀ u : State, fieldOf (silentSetpoints u).regs Fl.PRT_ISHEET_SHEET p =
      fieldOf u.regs Fl.PRT_ISHEET_SHEET p := fun u =>
    State.each_induct (P := fun v => fieldOf v.regs Fl.PRT_ISHEET_SHEET p = fieldOf u.regs Fl.PRT_ISHEET_SHEET p)
      (f := fun i v => setSetpoint i 0 v) (fun i v hv => by
        rw [fieldOf_onlyRegs (l := [R.ALC_SSETPOINT, R.PRT_ISET]) (setSetpoint_writes (by decide) (by decide) i 0 v) p
          (by decide)]
        exact hv) rfl 8
  rw [goSilent_eq, hg, hset]
  refine each_member (fun u => fieldOf u.regs Fl.PRT_ISHEET_SHEET p) (fun _ => 0) hp (fun u => ?_) (fun j u hj => ?_) _
  · rw [setSheet, hg, fieldOf_setF_apart _ _ _ _ _ _ (by decide)]
    exact fieldOf_setF_fits u _ _ _ (lt_of_lt_of_le hp (by decide)) (by decide) (by decide)
  · rw [setSheet, fieldOf_setF_apart _ _ _ _ _ _ (by decide)]
    exact fieldOf_setF_member u _ _ (by unfold portGroup; split <;> omega)

theorem displaced_silences {s : State} {lane : Nat} (hl : lane < 16) (hv : s.inView = true)
    (hs : s.rng.silent = false) : Effect (.displaced lane) s fun u => u.rng.silent = true ∧
      u.f Fl.RNG_STAT_STATE = (if s.f Fl.RNG_STAT_STATE = 3 then 3 else 4) ∧
      (s.f Fl.RNG_STAT_STATE ≠ 3 → bitOf (u.f Fl.RNG_CAUSE_CAUSE) 11 = true) ∧
      ∀ p, p < 24 → u.f Fl.PRT_ISHEET_SHEET (portGroup p) = 0 := by
  have hgo : ∀ u : State, displaced lane s = u → u = if s.f Fl.RNG_STAT_STATE = 3 then goSilent s
      else rngCause 11 ((goSilent s).setF Fl.RNG_STAT_STATE 0 4) := by
    rintro u rfl
    rw [displaced, if_neg (by simp [hv, hs]; omega)]
    simp only [State.ringState, rSplicing, rDisplaced, beq_iff_eq]
  have he := hgo _ rfl
  by_cases h3 : s.f Fl.RNG_STAT_STATE = 3
  · rw [if_pos h3] at he ⊢
    refine effect_done (congrArg done he) ⟨by rw [goSilent_rng], ?_, fun h => absurd h3 h, fun p hp => ?_⟩
    · rw [State.f_fieldOf, fieldOf_goSilent _ _ (by decide), ← State.f_fieldOf, h3]
    · rw [State.f_fieldOf]
      exact goSilent_sheets hp s
  · rw [if_neg h3] at he ⊢
    refine effect_done (congrArg done he) ⟨by rw [rngCause_rng, State.setF_rng, goSilent_rng], ?_,
      fun _ => ?_, fun p hp => ?_⟩
    · rw [State.f_fieldOf, fieldOf_rngCause _ _ _ (by decide) (by decide),
        fieldOf_setF_fits _ _ _ _ (by decide) (by decide) (by decide)]
    · rw [State.f_fieldOf]
      exact rngCause_shows 11 (by decide) _
    · rw [State.f_fieldOf, fieldOf_rngCause _ _ _ (by decide) (by decide), fieldOf_setF_apart _ _ _ _ _ _ (by decide)]
      exact goSilent_sheets hp s

theorem displaced_silent {s : State} {lane : Nat} (hs : s.rng.silent = true) : exec (.displaced lane) s = done s :=
  congrArg done (if_pos (by simp [hs]))

/-- The module asks for its return: STATE 5, and of a splice its step 4. -/
def returnAsked (spl : Bool) (s : State) : State :=
  { (s.setF Fl.RNG_STAT_STATE 0 rReturning).when spl fun s => s.setF Fl.RNG_SPL_STEP 0 4 with
    rng.asked := true, rng.gotState := false, rng.returnAt := none }

theorem fieldOf_returnAsked (spl : Bool) (s : State) :
    fieldOf (returnAsked spl s).regs Fl.RNG_STAT_STATE 0 = 5 := by
  refine (fieldOf_when (f := fun u => u.setF Fl.RNG_SPL_STEP 0 4) (fun u => fieldOf_setF_apart _ _ _ _ _ _ (by decide))
    _ spl).trans ?_
  exact fieldOf_setF_fits _ _ _ _ (by decide) (by decide) (by decide)

theorem request_asks {s : State} (hm : s.member s.modid = true) (hl : s.f Fl.RNG_LINK_STATE 0 = 2)
    (ha : s.loadAway = true) : Answers .returnRequest s fun u => u.f Fl.RNG_STAT_STATE = 5 ∧ u.rng.asked = true ∧
      u.rng.silent = true ∧ u.rng.returnAt = none := by
  have he : returnRequest s = goSilent (returnAsked (s.f Fl.RNG_VIEWST_SPLID == s.modid) s) := by
    refine (if_pos ?_).trans rfl
    rw [hm, ha, (linkUp_iff s 0).mpr hl]
    rfl
  have hst := fieldOf_returnAsked (s.f Fl.RNG_VIEWST_SPLID == s.modid) s
  refine answers_done (congrArg done he) ?_
  rw [State.f_fieldOf, fieldOf_settle _ _ _ (by decide), fieldOf_goSilent _ _ (by decide), rng_settle, goSilent_rng]
  exact ⟨hst, rfl, rfl, rfl⟩

theorem request_none {s : State} (h : ¬(s.member s.modid = true ∧ s.f Fl.RNG_LINK_STATE 0 = 2 ∧ s.loadAway = true)) :
    exec .returnRequest s = done s := by
  refine congrArg done (if_neg fun hc => h ?_)
  rw [Bool.and_eq_true, Bool.and_eq_true, linkUp_iff] at hc
  exact ⟨hc.1.1, hc.1.2, hc.2⟩

theorem guest_b {s : State} (h : s.f Fl.RNG_STAT_GUEST = 1) : s.b Fl.RNG_STAT_GUEST = true := by
  rw [bitOf_fits _ _ _ rfl, h]
  rfl

theorem noGuest_b {s : State} (h : ¬s.f Fl.RNG_STAT_GUEST = 1) : s.b Fl.RNG_STAT_GUEST = false := by
  rw [bitOf_fits _ _ _ rfl]
  exact decide_eq_false h

theorem frame_request {s : State} (hg : s.f Fl.RNG_STAT_GUEST = 1) (hl : s.f Fl.RNG_LINK_STATE 1 = 2)
    (hp : s.f Fl.RNG_LINK_PEER 1 = s.f Fl.RNG_STAT_GUESTID) :
    Answers (.splFrame .returnRequest) s fun u => u.rng.asked = true := by
  refine answers_done (congrArg done (if_pos ?_)) ?_
  · rw [guest_b hg, (linkUp_iff s 1).mpr hl, hp]
    simp
  · rw [rng_settle]

theorem frame_guestState {s : State} (words : List (Nat × Word)) (hst : s.f Fl.RNG_STAT_STATE = 5)
    (hl : s.f Fl.RNG_LINK_STATE 0 = 2) : Answers (.splFrame (.guestState words)) s fun u => u.rng.gotState = true := by
  have he : ∃ w : State, spliceFrame (.guestState words) s = { w with rng.gotState := true } := by
    refine ⟨_, if_pos ?_⟩
    rw [(linkUp_iff s 0).mpr hl, State.ringState, hst]
    rfl
  obtain ⟨w, he⟩ := he
  refine answers_done (congrArg done he) ?_
  rw [rng_settle]

theorem frame_returnAt {s : State} (seq : Nat) (h : s.f Fl.RNG_STAT_STATE = 5 ∧ s.rng.gotState = true ∨
    s.f Fl.RNG_STAT_GUEST = 1 ∧ s.rng.asked = true) :
    Answers (.splFrame (.returnAt seq)) s fun u => u.rng.returnAt = some seq := by
  refine answers_done (congrArg done (if_pos ?_)) ?_
  · rcases h with ⟨h1, h2⟩ | ⟨h1, h2⟩
    · rw [State.ringState, h1, h2]
      rfl
    · rw [guest_b h1, h2]
      simp
  · rw [rng_settle]

theorem frame_portMoved {s : State} {p : Nat} (hp : p < 24) (hst : s.f Fl.RNG_STAT_STATE = 5) :
    Effect (.splFrame (.portMoved p)) s fun u =>
      ∀ f, f < 24 → s.f Fl.VEH_FE_CTX f = p → (u.fe f).released = false := by
  refine effect_done (congrArg done ((if_neg (by omega)).trans (if_pos ?_))) fun f hf hc => ?_
  · rw [State.ringState, hst]
    rfl
  · refine each_member_of (P := fun u => u.regs = s.regs) (fun u => (u.fe f).released) (fun _ => false) hf
      (fun j u hu => ?_) (fun u hu => ?_) (fun j u hj => ?_) rfl
    · split
      · exact hu
      · exact hu
    · have hu' : u.f Fl.VEH_FE_CTX f = p := by rw [State.f_fieldOf, hu, ← State.f_fieldOf, hc]
      rw [if_pos (by simpa using hu')]
      exact congrArg FrontEnd.released (memberOf_set_same u.veh.fe _ _ hf)
    · split
      · exact congrArg FrontEnd.released (memberOf_set_other u.veh.fe _ _ hj)
      · rfl

/-! ### T_r, its end and T_s (R476 to R479) -/

theorem signal_away {s : State} (h : s.returnDue = false) : exec .returnSignal s = done s :=
  congrArg done (if_pos (by rw [h]; rfl))

theorem signal_guest {s : State} (h : s.returnDue = true) (hg : s.f Fl.RNG_STAT_GUEST = 1) (ha : s.rng.asked = true) :
    Effect .returnSignal s fun u => u.lpe.signal = some false ∧ u.rng.signalled = true ∧ u.rng.secondary = false ∧
      u.rng.closing = some (s.f Fl.RNG_STAT_GUESTID) := by
  refine effect_done (congrArg done ((if_neg (by rw [h]; decide)).trans (if_pos ?_))) ⟨rfl, rfl, rfl, rfl⟩
  rw [guest_b hg, ha]
  rfl

/-- The home module is in service again. -/
def homeAgain (s : State) : State :=
  { s.setF Fl.RNG_STAT_STATE 0 rService with rng.silent := false, rng.asked := false }

theorem signal_home {s : State} (h : s.returnDue = true) (hg : ¬s.f Fl.RNG_STAT_GUEST = 1)
    (hst : s.f Fl.RNG_STAT_STATE = 5) : Effect .returnSignal s fun u => u.f Fl.RNG_STAT_STATE = 2 ∧
      u.rng.silent = false ∧ u.rng.asked = false := by
  have hs : fieldOf (homeAgain s).regs Fl.RNG_STAT_STATE 0 = 2 :=
    fieldOf_setF_fits s _ _ _ (by decide) (by decide) (by decide)
  have hr : (homeAgain s).rng.silent = false ∧ (homeAgain s).rng.asked = false := ⟨rfl, rfl⟩
  have he : returnSignal s = (homeAgain s).each 32 fun b s =>
      if s.b Fl.LPE_BATCH_EN b then initSlots (maskSlots b (s.f Fl.LPE_BATCH_MASK b)) s else s := by
    refine (if_neg (by rw [h]; decide)).trans ((if_neg ?_).trans (if_pos ?_))
    · rw [noGuest_b hg, Bool.false_and]
      decide
    · rw [State.ringState, hst]
      rfl
  refine effect_done (congrArg done he) ?_
  rw [State.f_fieldOf]
  refine State.each_induct (P := fun u => fieldOf u.regs Fl.RNG_STAT_STATE 0 = 2 ∧ u.rng.silent = false ∧
    u.rng.asked = false) (fun b u hu => ?_) ⟨hs, hr⟩ 32
  split
  · exact hu
  · exact hu

theorem fieldOf_guardRelease {fl : Fld} (i : Nat) (s : State)
    (h : (!regsIn [R.CLN_CELLST, R.CLN_LANEEV, R.CLN_LANESTAT, R.CLN_STAT, R.EVT_PEND, R.LPE_BSTAT, R.LPE_CWSTAT]
      fl.reg.addr && decide (fl.reg.count ≤ 65536)) = true) : fieldOf (guardRelease s).regs fl i = fieldOf s.regs fl i
        :=
  fieldOf_onlyRegs (guardRelease_writes (by decide) (by decide) (by decide) (by decide) (by decide) (by decide)
    (by decide) rfl rfl s) i h

theorem complete_guest {s : State} (hg : s.f Fl.RNG_STAT_GUEST = 1) (hs : s.rng.signalled = true) :
    Answers .returnComplete s fun u => u.f Fl.RNG_STAT_GUEST = 0 ∧ u.f Fl.RNG_STAT_GUESTID = 0 ∧
      bitOf (u.f Fl.RNG_CAUSE_CAUSE) 10 = true ∧ u.rng.asked = false ∧ u.rng.returnAt = none := by
  let v : State := { (guardRelease s).setB Fl.RNG_STAT_GUEST 0 false |>.setF Fl.RNG_STAT_GUESTID 0 0 with
    rng.asked := false, rng.returnAt := none, rng.signalled := false }
  have he : returnComplete s = rngCause 10 v := by
    refine if_pos ?_
    rw [guest_b hg, hs]
    rfl
  have h1 : fieldOf v.regs Fl.RNG_STAT_GUEST 0 = 0 :=
    (fieldOf_setF_apart _ Fl.RNG_STAT_GUESTID _ _ _ _ (by decide)).trans
      (fieldOf_setB_same (guardRelease s) _ _ _ (by decide) (by decide) (by decide))
  have h2 : fieldOf v.regs Fl.RNG_STAT_GUESTID 0 = 0 := fieldOf_setF_fits _ _ _ _ (by decide) (by decide) (by decide)
  have h3 : v.rng.asked = false ∧ v.rng.returnAt = none := ⟨rfl, rfl⟩
  clear_value v
  refine answers_done (congrArg done he) ?_
  simp (disch := decide) only [State.f_fieldOf, fieldOf_settle, fieldOf_rngCause, rng_settle, rngCause_rng]
  exact ⟨h1, h2, rngCause_shows 10 (by decide) v, h3⟩

theorem complete_home {s : State} (hg : ¬s.f Fl.RNG_STAT_GUEST = 1) (hr : s.rng.returnAt.isSome = true)
    (hst : s.f Fl.RNG_STAT_STATE = 2) : Answers .returnComplete s fun u => u.rng.returnAt = none ∧
      (s.f Fl.RNG_VIEWST_SPLID = s.modid → u.f Fl.RNG_SPL_STEP = 0 ∧ bitOf (u.f Fl.RNG_CAUSE_CAUSE) 15 = true) := by
  let v : State := { s with rng.returnAt := none, rng.gotState := false }
  let w := v.setF Fl.RNG_SPL_STEP 0 0
  have he : returnComplete s = if s.f Fl.RNG_VIEWST_SPLID == s.modid then rngCause 15 (announce .spliceEnd w) else v
    := by
    refine (if_neg ?_).trans (if_pos ?_)
    · rw [noGuest_b hg, Bool.false_and]
      decide
    · rw [hr, State.ringState, hst]
      rfl
  have hw : fieldOf w.regs Fl.RNG_SPL_STEP 0 = 0 := fieldOf_setF_fits v _ _ _ (by decide) (by decide) (by decide)
  have hwr : w.rng.returnAt = none := congrArg RngState.returnAt (State.setF_rng v _ _ _)
  clear_value w
  by_cases h : s.f Fl.RNG_VIEWST_SPLID = s.modid
  · rw [if_pos (by simpa using h)] at he
    refine answers_done (congrArg done he) ⟨?_, fun _ => ?_⟩
    · rw [rng_settle, rngCause_rng]
      unfold announce announceOn
      dsimp only
      split
      · exact hwr
      · exact hwr
    · simp (disch := decide) only [State.f_fieldOf, fieldOf_settle, fieldOf_rngCause, announce_regs]
      exact ⟨hw, rngCause_shows 15 (by decide) _⟩
  · rw [if_neg (by simpa using h)] at he
    refine answers_done (congrArg done he) ⟨?_, fun hc => absurd hc h⟩
    rw [rng_settle]

theorem handover_none {s : State} (h : s.f Fl.RNG_VIEWST_SPLID = 0) : exec .spliceHandover s = done s :=
  congrArg done (if_pos (by simpa using h))

theorem handover_own {s : State} (h0 : s.f Fl.RNG_VIEWST_SPLID ≠ 0) (hm : s.f Fl.RNG_VIEWST_SPLID = s.modid)
    (h1 : s.f Fl.RNG_SPL_STEP = 1) : Answers .spliceHandover s fun u => u.f Fl.RNG_SPL_STEP = 2 := by
  have hs : fieldOf (s.setF Fl.RNG_SPL_STEP 0 2).regs Fl.RNG_SPL_STEP 0 = 2 :=
    fieldOf_setF_fits s _ _ _ (by decide) (by decide) (by decide)
  have he := (if_neg (by simpa using h0)).trans ((if_pos (by simpa using hm)).trans
    (if_neg (by simpa using h1))) (a := spliceHandover s)
  refine answers_done (congrArg done he) ?_
  rw [State.f_fieldOf, fieldOf_settle _ _ _ (by decide)]
  refine State.each_induct (P := fun u => fieldOf u.regs Fl.RNG_SPL_STEP 0 = 2) (fun f u hu => ?_) hs 24
  dsimp only
  split
  · exact hu
  · exact hu

theorem handover_takes {s : State} (h0 : s.f Fl.RNG_VIEWST_SPLID ≠ 0) (hm : s.f Fl.RNG_VIEWST_SPLID ≠ s.modid)
    (hp : s.f Fl.RNG_VIEWST_SPLID = s.f Fl.RNG_STAT_PROT) (hst : s.f Fl.RNG_STAT_STATE = 2)
    (hg : ¬s.f Fl.RNG_STAT_GUEST = 1) : Answers .spliceHandover s fun u => u.f Fl.RNG_STAT_GUEST = 1 ∧
      u.f Fl.RNG_STAT_GUESTID = s.f Fl.RNG_VIEWST_SPLID ∧ bitOf (u.f Fl.RNG_CAUSE_CAUSE) 9 = true ∧
      u.q R.RNG_TDECLL R.RNG_TDECLH = s.now := by
  let v := s.setQ R.RNG_TDECLL R.RNG_TDECLH 0 s.now
  have hq : quantOf v.regs R.RNG_TDECLL R.RNG_TDECLH 0 = s.now :=
    quantOf_setQ_same _ _ _ _ _ (by decide) (by decide) (by decide) (now_lt s)
  have he : spliceHandover s = takeoverBegin (s.f Fl.RNG_VIEWST_SPLID) v := by
    refine (if_neg (by simpa using h0)).trans ((if_neg (by simpa using hm)).trans (if_pos ?_))
    rw [noGuest_b hg, State.ringState, hst, hp]
    simp [rService]
  have hlt : s.f Fl.RNG_VIEWST_SPLID < 256 := by rw [State.f_fieldOf]; exact fieldOf_lt _ _ _
  have ht := takeoverBegin_shows hlt v
  have hk := takeoverBegin_keeps (s.f Fl.RNG_VIEWST_SPLID) v
  refine answers_done (congrArg done he) ?_
  simp (disch := decide) only [State.f_fieldOf _ Fl.RNG_STAT_GUEST, State.f_fieldOf _ Fl.RNG_STAT_GUESTID,
    State.f_fieldOf _ Fl.RNG_CAUSE_CAUSE, State.q_quantOf, fieldOf_settle, quantOf_settle]
  exact ⟨ht.guest, ht.guestId, ht.cause, hk.declared.trans hq⟩

/-- Settles O42: shadowing, loss and takeover, displacement, the return and the handover of a splice. -/
theorem ringTakeover : Obligations.RingTakeover := by
  intro s
  refine ⟨fun k hk hup => ⟨fun hm => keeps_settle (congrArg done (if_pos ?_)), neighbourLost_shows hk hup⟩,
    fun f hup => ⟨shadow_badTag hup, shadow_goesOn hup, shadow_completes hup, shadow_lags hup⟩,
    fun d hp hup => ⟨delta_updates hp hup, delta_badTag hp hup⟩,
    fun lane hl hv => ⟨displaced_silences hl hv, fun hs => keeps_settle (displaced_silent hs)⟩,
    ⟨fun ⟨hm, hl, ha⟩ => request_asks hm hl ha, fun h => keeps_settle (request_none h)⟩,
    frame_request, frame_guestState, frame_returnAt, fun p hp => frame_portMoved hp,
    fun h => keeps_settle (signal_away h), signal_guest, signal_home, complete_guest, complete_home,
    fun h => keeps_settle (handover_none h), handover_own, handover_takes⟩
  simp [hm]

end Sys2Proof.Machine

/-! ## The shroud: what its shared operations leave (R424 to R437) -/

namespace Sys2Proof.Machine

set_option Elab.async false

/-- Field `fl` is apart from each field of a list. -/
def fldsApart (l : List Fld) (fl : Fld) : Bool := l.all fun a => a.apart fl

theorem apart_of_mem {l : List Fld} {a fl : Fld} (h : fldsApart l fl = true) (ha : a ∈ l) : a.apart fl = true :=
  List.all_eq_true.mp h a ha

/-- A field of one register of an array stands when another register of the array is written. -/
theorem fieldOf_setF_index (s : State) (a b : Fld) {i j : Nat} (v : Nat) (h : i ≠ j) (hr : b.reg = a.reg) :
    fieldOf (s.setF a i v).regs b j = fieldOf s.regs b j := by
  change bitsOf (regOf (s.setReg a.reg i _).regs b.reg j) _ _ = bitsOf (regOf s.regs b.reg j) _ _
  rw [hr, regOf_setReg_member _ _ _ h]

theorem bool_field (s : State) (fl : Fld) (i : Nat) (h : fl.width = 1) :
    s.f fl i = b2n (s.b fl i) := by
  rw [bitOf_fits s fl i h]
  have hlt := fieldOf_lt s.regs fl i
  rw [← State.f_fieldOf, h] at hlt
  by_cases h1 : s.f fl i = 1
  · rw [h1]
    rfl
  · rw [decide_eq_false h1]
    change s.f fl i = 0
    omega

theorem b_true {s : State} {fl : Fld} {i : Nat} (h : s.f fl i = 1) : s.b fl i = true := by
  rw [State.b_fieldOf, ← State.f_fieldOf, h]
  rfl

theorem b_false {s : State} {fl : Fld} {i : Nat} (h : s.f fl i = 0) : s.b fl i = false := by
  rw [State.b_fieldOf, ← State.f_fieldOf, h]
  rfl

theorem b_one {s : State} {fl : Fld} {i : Nat} (h : fieldOf s.regs fl i = 1) : s.b fl i = true := by
  rw [State.b_fieldOf, h]
  rfl

theorem b_zero {s : State} {fl : Fld} {i : Nat} (h : fieldOf s.regs fl i = 0) : s.b fl i = false := by
  rw [State.b_fieldOf, h]
  rfl

theorem b_of_field {s t : State} {fl : Fld} {i : Nat} (h : fieldOf t.regs fl i = fieldOf s.regs fl i) :
    t.b fl i = s.b fl i := by
  rw [State.b_fieldOf, State.b_fieldOf, h]

theorem f_of_field {s t : State} {fl : Fld} {i : Nat} (h : fieldOf t.regs fl i = fieldOf s.regs fl i) :
    t.f fl i = s.f fl i := by
  rw [State.f_fieldOf, State.f_fieldOf, h]

theorem reg_of_fields {s t : State} {r : Rg} {i : Nat} (h : t.regs = s.regs) : t.reg r i = s.reg r i := by
  rw [State.reg_regOf, State.reg_regOf, h]

/-! ### Causes -/

theorem sfyCause_shows (j : Nat) (hj : j < 8) (s : State) :
    bitOf (fieldOf (sfyCause j s).regs Fl.SFY_STAT_CAUSE 0) j = true :=
  bitOf_causeOn _ _ _ _ _ _ (by decide) (by decide) hj (by decide)

theorem sfyCause_keeps {j k : Nat} (hk : k < 8) {s : State}
    (h : bitOf (fieldOf s.regs Fl.SFY_STAT_CAUSE 0) k = true) :
    bitOf (fieldOf (sfyCause j s).regs Fl.SFY_STAT_CAUSE 0) k = true :=
  bitOf_causeOn_keeps (by decide) (by decide) (by decide) hk (by decide) h

theorem sfyCause_sfy (j : Nat) (s : State) : (sfyCause j s).sfy = s.sfy := State.causeOn_sfy ..

theorem sp_of_sfy {s t : State} (h : t.sfy = s.sfy) (p : Nat) : t.sp p = s.sp p := by
  rw [State.sp, h]
  rfl

theorem fieldOf_sfyCause {fl : Fld} (j i : Nat) (s : State) (h : Fl.SFY_STAT_CAUSE.apart fl = true)
    (hp : Fl.EVT_PEND_PEND.apart fl = true) : fieldOf (sfyCause j s).regs fl i = fieldOf s.regs fl i :=
  fieldOf_causeOn _ _ _ _ _ _ _ _ h hp

theorem reg_sfyCause {r : Rg} (j i : Nat) (s : State) (h : R.SFY_STAT.apart r = true)
    (hp : R.EVT_PEND.apart r = true) : (sfyCause j s).reg r i = s.reg r i := regOf_causeOn _ _ _ _ _ _ _ _ h hp

/-! ### The refreshed status of a port -/

theorem State.sp_member (s : State) (p : Nat) : s.sp p = memberOf s.sfy.port p {} := rfl

theorem sp_setSp {p : Nat} (hp : p < 48) (s : State) (f : SfyPort → SfyPort) : (s.setSp p f).sp p = f (s.sp p) :=
  memberOf_set_same s.sfy.port _ {} hp

theorem sp_setSp_other {p q : Nat} (h : p ≠ q) (s : State) (f : SfyPort → SfyPort) : (s.setSp p f).sp q = s.sp q :=
  memberOf_set_other s.sfy.port _ {} h

/-- The fields that refreshing a port writes. -/
def refreshFlds : List Fld := [Fl.SFY_PSTAT_SREEF, Fl.SFY_PSTAT_ESD, Fl.SFY_PSTAT_ISO]

theorem fieldOf_refreshPort {fl : Fld} (p i : Nat) (s : State) (h : fldsApart refreshFlds fl = true) :
    fieldOf (refreshPort p s).regs fl i = fieldOf s.regs fl i := by
  unfold refreshPort
  rw [fieldOf_setF_apart _ _ _ _ _ _ (apart_of_mem h (by simp [refreshFlds])),
    fieldOf_setB_apart _ _ _ _ _ _ (apart_of_mem h (by simp [refreshFlds])),
    fieldOf_setF_apart _ _ _ _ _ _ (apart_of_mem h (by simp [refreshFlds]))]

theorem fieldOf_refreshPort_other {fl : Fld} {p q : Nat} (h : p ≠ q) (s : State) (hr : fl.reg = R.SFY_PSTAT) :
    fieldOf (refreshPort p s).regs fl q = fieldOf s.regs fl q := by
  unfold refreshPort State.setB
  rw [fieldOf_setF_index _ _ _ _ h hr, fieldOf_setF_index _ _ _ _ h hr, fieldOf_setF_index _ _ _ _ h hr]

theorem refreshPort_sfy (p : Nat) (s : State) : (refreshPort p s).sfy = s.sfy := by simp [refreshPort, State.setB]

theorem shroudReef_due {s : State} {p : Nat} (h : (s.sp p).release.isSome = true) : s.shroudReef p = 7 := by
  rw [State.shroudReef, h]
  simp

theorem isoNow_lt {p : Nat} (s : State) : s.isoNow p < 16 := by
  have hlt : s.f Fl.SFY_PSTAT_ISO p < 16 := by rw [State.f_fieldOf]; exact fieldOf_lt _ _ _
  unfold State.isoNow
  split
  · decide
  · split
    · split <;> decide
    · split <;> decide
    · exact hlt

theorem refreshPort_reef {p : Nat} (hp : p < 48) (s : State) :
    fieldOf (refreshPort p s).regs Fl.SFY_PSTAT_SREEF p = s.shroudReef p % 8 := by
  unfold refreshPort
  rw [fieldOf_setF_apart _ _ _ _ _ _ (by decide), fieldOf_setB_apart _ _ _ _ _ _ (by decide)]
  exact fieldOf_setF_same _ _ _ _ (lt_of_lt_of_le hp (by decide)) (by decide)

theorem refreshPort_iso {p : Nat} (hp : p < 48) (s : State) :
    fieldOf (refreshPort p s).regs Fl.SFY_PSTAT_ISO p = s.isoNow p := by
  have hz : s.isoNow p < 2 ^ Fl.SFY_PSTAT_ISO.width := isoNow_lt _
  exact fieldOf_setF_fits _ _ _ _ (lt_of_lt_of_le hp (by decide)) (by decide) hz

/-! ### Demanded ports (R427) -/

/-- The release that a demand leaves due. -/
def dueRelease (trel : Nat) (r : Option Nat) : Option Nat := some (match r with | none => trel | some t => min t trel)

/-- Port `p` with its release due. -/
def withDue (trel : Nat) (stop : Bool) (p : Nat) (s : State) : State :=
  (s.setSp p fun x => { x with release := dueRelease trel x.release }).when stop fun s =>
    { s with sfy.stops := s.sfy.stops ++ [p] }

theorem demandPort_eq (trel : Nat) (stop : Bool) (p : Nat) (s : State) :
    demandPort trel stop p s = refreshPort p (withDue trel stop p s) := by
  unfold demandPort withDue dueRelease
  rfl

theorem withDue_regs (trel : Nat) (stop : Bool) (p : Nat) (s : State) : (withDue trel stop p s).regs = s.regs := by
  cases stop <;> rfl

theorem sp_withDue (trel : Nat) (stop : Bool) (p q : Nat) (s : State) : (withDue trel stop p s).sp q =
    (s.setSp p fun x => { x with release := dueRelease trel x.release }).sp q := by
  cases stop <;> rfl

theorem demandPort_release {p : Nat} (hp : p < 48) (trel : Nat) (stop : Bool) (s : State) :
    ((demandPort trel stop p s).sp p) = { s.sp p with release := dueRelease trel (s.sp p).release } := by
  rw [demandPort_eq, sp_of_sfy (refreshPort_sfy _ _), sp_withDue, sp_setSp hp]

theorem demandPort_reef {p : Nat} (hp : p < 48) (trel : Nat) (stop : Bool) (s : State) :
    fieldOf (demandPort trel stop p s).regs Fl.SFY_PSTAT_SREEF p = 7 := by
  rw [demandPort_eq, refreshPort_reef hp, shroudReef_due]
  rw [sp_withDue, sp_setSp hp]
  rfl

theorem demandPort_stops (trel : Nat) (p : Nat) (s : State) : (demandPort trel true p s).sfy.stops = s.sfy.stops ++
  [p] := by
  rw [demandPort_eq, refreshPort_sfy]
  rfl

theorem demandPort_stops_keep (trel : Nat) (stop : Bool) (p : Nat) {q : Nat} {s : State} (h : q ∈ s.sfy.stops) :
    q ∈ (demandPort trel stop p s).sfy.stops := by
  rw [demandPort_eq, refreshPort_sfy]
  cases stop
  · exact h
  · exact List.mem_append_left _ h

theorem sp_demandPort_other {p q : Nat} (h : p ≠ q) (trel : Nat) (stop : Bool) (s : State) :
    (demandPort trel stop p s).sp q = s.sp q := by
  rw [demandPort_eq, sp_of_sfy (refreshPort_sfy _ _), sp_withDue, sp_setSp_other h]

theorem fieldOf_demandPort {fl : Fld} (trel : Nat) (stop : Bool) (p i : Nat) (s : State)
    (h : fldsApart refreshFlds fl = true) : fieldOf (demandPort trel stop p s).regs fl i = fieldOf s.regs fl i := by
  rw [demandPort_eq, fieldOf_refreshPort _ _ _ h, withDue_regs]

theorem fieldOf_demandPort_other {fl : Fld} {p q : Nat} (h : p ≠ q) (trel : Nat) (stop : Bool) (s : State)
    (hr : fl.reg = R.SFY_PSTAT) : fieldOf (demandPort trel stop p s).regs fl q = fieldOf s.regs fl q := by
  rw [demandPort_eq, fieldOf_refreshPort_other h _ hr, withDue_regs]

/-- Of the shroud, a demand changes the ports' data and the stop orders. -/
theorem demandPort_parts (trel : Nat) (stop : Bool) (p : Nat) (s : State) :
    ∃ v l, (demandPort trel stop p s).sfy = { s.sfy with port := v, stops := l } := by
  rw [demandPort_eq, refreshPort_sfy]
  cases stop <;> exact ⟨_, _, rfl⟩

/-- A port is demanded: its release is due and its reef is total. -/
structure Demanded (p trel : Nat) (s u : State) : Prop where
  reef : fieldOf u.regs Fl.SFY_PSTAT_SREEF p = 7
  release : (u.sp p).release = dueRelease trel (s.sp p).release

theorem demandPort_demands {p : Nat} (hp : p < 48) (trel : Nat) (stop : Bool) (s : State) :
    Demanded p trel s (demandPort trel stop p s) :=
  ⟨demandPort_reef hp trel stop s, congrArg SfyPort.release (demandPort_release hp trel stop s)⟩

theorem Demanded.isSome {p trel : Nat} {s u : State} (h : Demanded p trel s u) :
    (u.sp p).release.isSome = true := by
  rw [h.release]
  rfl

/-! ### Coils and poles (R430, R431) -/

/-- The fields that a coil command writes. -/
def coilFlds : List Fld := [Fl.SFY_COIL_ON, Fl.SFY_COIL_PULLIN]

theorem fieldOf_coilOn {fl : Fld} (n i : Nat) (s : State) (h : fldsApart coilFlds fl = true) :
    fieldOf (coilOn n s).regs fl i = fieldOf s.regs fl i := by
  unfold coilOn
  split
  · rw [fieldOf_setB_apart _ _ _ _ _ _ (apart_of_mem h (by simp [coilFlds])),
      fieldOf_setB_apart _ _ _ _ _ _ (apart_of_mem h (by simp [coilFlds]))]
  · rfl

theorem fieldOf_coilOff {fl : Fld} (n i : Nat) (s : State) (h : fldsApart coilFlds fl = true) :
    fieldOf (coilOff n s).regs fl i = fieldOf s.regs fl i := by
  unfold coilOff
  split
  · rw [fieldOf_setB_apart _ _ _ _ _ _ (apart_of_mem h (by simp [coilFlds])),
      fieldOf_setB_apart _ _ _ _ _ _ (apart_of_mem h (by simp [coilFlds]))]
  · rfl

theorem coilOn_sfy (n : Nat) (s : State) : (coilOn n s).sfy = s.sfy := by
  unfold coilOn
  split <;> simp [State.setB]

theorem coilOff_sfy (n : Nat) (s : State) : (coilOff n s).sfy = s.sfy := by
  unfold coilOff
  split <;> simp [State.setB]

/-- Coil `n` may be switched on. -/
def CanOn (s : State) (n : Nat) : Prop :=
  n < 48 ∧ s.f Fl.SFY_COIL_FAULT n ≠ 3 ∧ s.f Fl.SFY_STAT_SAFE = 0 ∧ s.sfy.running = true

theorem coilOn_on {n : Nat} {s : State} (h : CanOn s n) : fieldOf (coilOn n s).regs Fl.SFY_COIL_ON n = 1 := by
  obtain ⟨hn, hf, hs, hr⟩ := h
  rw [coilOn, if_pos (by rw [b_false hs, hr]; simp [hn, hf])]
  exact fieldOf_setB_same _ _ _ _ (lt_of_lt_of_le hn (by decide)) (by decide) (by decide)

theorem coilOn_keeps (n : Nat) {m : Nat} {s : State} (h : fieldOf s.regs Fl.SFY_COIL_ON m = 1) :
    fieldOf (coilOn n s).regs Fl.SFY_COIL_ON m = 1 := by
  by_cases hc : CanOn s n
  · by_cases hm : n = m
    · subst hm
      exact coilOn_on hc
    · unfold coilOn
      split
      · unfold State.setB
        rw [fieldOf_setF_index _ _ _ _ hm rfl, fieldOf_setF_apart _ _ _ _ _ _ (by decide), h]
      · exact h
  · rw [coilOn, if_neg]
    · exact h
    · intro h'
      simp only [Bool.and_eq_true, decide_eq_true_eq, bne_iff_ne, Bool.not_eq_true'] at h'
      obtain ⟨⟨⟨hn, hf⟩, hs⟩, hr⟩ := h'
      exact hc ⟨hn, hf, by rw [bool_field _ _ _ rfl, hs]; rfl, hr⟩

theorem coilOff_off {n : Nat} (hn : n < 48) (s : State) : fieldOf (coilOff n s).regs Fl.SFY_COIL_ON n = 0 := by
  rw [coilOff, if_pos hn, fieldOf_setB_apart _ _ _ _ _ _ (by decide)]
  exact fieldOf_setB_same _ _ _ _ (lt_of_lt_of_le hn (by decide)) (by decide) (by decide)

theorem coilOff_keeps (n : Nat) {m : Nat} {s : State} (h : fieldOf s.regs Fl.SFY_COIL_ON m = 0) :
    fieldOf (coilOff n s).regs Fl.SFY_COIL_ON m = 0 := by
  unfold coilOff
  split
  · next hn =>
    by_cases hm : n = m
    · subst hm
      have := coilOff_off hn s
      rwa [coilOff, if_pos hn] at this
    · unfold State.setB
      rw [fieldOf_setF_apart _ _ _ _ _ _ (by decide), fieldOf_setF_index _ _ _ _ hm rfl, h]
  · exact h

theorem poleCmd_reg (pole : Pole) : (poleCmd pole).reg = R.SFY_PSTAT := by cases pole <;> rfl

theorem poleCmd_width (pole : Pole) : (poleCmd pole).width = 1 := by cases pole <;> rfl

/-- A pole's command bit after it is set. -/
theorem fieldOf_setCmd {p : Nat} (hp : p < 48) (pole : Pole) (v : Bool) (s : State) :
    fieldOf (s.setB (poleCmd pole) p v).regs (poleCmd pole) p = b2n v := by
  have hlt : p < R.SFY_PSTAT.count := lt_of_lt_of_le hp (by decide)
  cases pole <;> exact fieldOf_setB_same _ _ _ _ hlt (by decide) (by decide)

theorem poleCmd_apart {a b : Pole} (h : a ≠ b) : (poleCmd a).apart (poleCmd b) = true := by
  revert h
  cases a <;> cases b <;> decide

/-- The fields that energising a pole writes. -/
def poleFlds : List Fld := [Fl.SFY_COIL_ON, Fl.SFY_COIL_PULLIN, Fl.SFY_PSTAT_POSCMD, Fl.SFY_PSTAT_NEGCMD]

theorem coil_of_pole {fl : Fld} (h : fldsApart poleFlds fl = true) : fldsApart coilFlds fl = true := by
  refine List.all_eq_true.mpr fun a ha => apart_of_mem h ?_
  simp only [coilFlds, poleFlds, List.mem_cons] at ha ⊢
  tauto

theorem cmd_of_pole {fl : Fld} (pole : Pole) (h : fldsApart poleFlds fl = true) : (poleCmd pole).apart fl = true := by
  cases pole <;> exact apart_of_mem h (by simp [poleFlds, poleCmd])

theorem fieldOf_energisePole {fl : Fld} (p : Nat) (pole : Pole) (i : Nat) (s : State) (h : fldsApart poleFlds fl =
  true) :
    fieldOf (energisePole p pole s).regs fl i = fieldOf s.regs fl i := by
  rw [energisePole, fieldOf_setB_apart _ _ _ _ _ _ (cmd_of_pole pole h), fieldOf_coilOn _ _ _ (coil_of_pole h)]

theorem energisePole_sfy (p : Nat) (pole : Pole) (s : State) : (energisePole p pole s).sfy = s.sfy := by
  rw [energisePole, State.setB, State.setF_sfy, coilOn_sfy]

theorem energisePole_cmd {p : Nat} (hp : p < 48) (pole : Pole) (s : State) :
    fieldOf (energisePole p pole s).regs (poleCmd pole) p = 1 := fieldOf_setCmd hp pole true _

theorem coilFlds_cmd (pole : Pole) : fldsApart coilFlds (poleCmd pole) = true := by cases pole <;> decide

theorem energisePole_cmd_keeps {p : Nat} (hp : p < 48) (pole pole' : Pole) {s : State}
    (h : fieldOf s.regs (poleCmd pole') p = 1) : fieldOf (energisePole p pole s).regs (poleCmd pole') p = 1 := by
  by_cases he : pole = pole'
  · subst he
    exact energisePole_cmd hp pole s
  · rw [energisePole, fieldOf_setB_apart _ _ _ _ _ _ (poleCmd_apart he), fieldOf_coilOn _ _ _ (coilFlds_cmd pole'), h]

theorem cmd_coil_apart (pole : Pole) : (poleCmd pole).apart Fl.SFY_COIL_ON = true := by cases pole <;> decide

theorem energisePole_coil_keeps (p : Nat) (pole : Pole) {m : Nat} {s : State}
    (h : fieldOf s.regs Fl.SFY_COIL_ON m = 1) : fieldOf (energisePole p pole s).regs Fl.SFY_COIL_ON m = 1 := by
  rw [energisePole, fieldOf_setB_apart _ _ _ _ _ _ (cmd_coil_apart pole)]
  exact coilOn_keeps _ h

theorem energisePole_coil {p : Nat} {pole : Pole} {s : State} (h : CanOn s (s.poleCoil p pole)) :
    fieldOf (energisePole p pole s).regs Fl.SFY_COIL_ON (s.poleCoil p pole) = 1 := by
  rw [energisePole, fieldOf_setB_apart _ _ _ _ _ _ (cmd_coil_apart pole)]
  exact coilOn_on h

theorem poleCoil_congr {s t : State} {p : Nat} (pole : Pole)
    (hp : fieldOf t.regs Fl.SFY_PCO_POSCO p = fieldOf s.regs Fl.SFY_PCO_POSCO p)
    (hn : fieldOf t.regs Fl.SFY_PCO_NEGCO p = fieldOf s.regs Fl.SFY_PCO_NEGCO p) : t.poleCoil p pole = s.poleCoil p
      pole := by
  cases pole
  · exact f_of_field hp
  · exact f_of_field hn

end Sys2Proof.Machine

/-! ## Contactors, mirrors and coils (R425 to R437) -/

namespace Sys2Proof.Machine

set_option Elab.async false

/-- What one operation of a family establishes and every other one keeps holds at the end. -/
theorem State.each_establish {P Q : State → Prop} {f : Nat → State → State} {m k : Nat} (hm : m < k)
    (hP : ∀ j s, P s → P (f j s)) (hQ : ∀ j s, Q s → Q (f j s)) (he : ∀ s, P s → Q (f m s)) {s : State} (h0 : P s) :
    Q (s.each k f) := by
  have hsucc : ∀ i, s.each (i + 1) f = f i (s.each i f) := fun i => by simp [State.each, List.range_succ]
  induction k with
  | zero => omega
  | succ k ih =>
    rw [hsucc]
    rcases Nat.lt_or_ge m k with hlt | hge
    · exact hQ _ _ (ih hlt)
    · obtain rfl : m = k := by omega
      exact he _ (State.each_induct hP h0 m)

theorem State.eachOf_establish {α : Type} {P Q : State → Prop} {f : α → State → State} {x : α} {l : List α} (hx : x ∈ l)
    (hP : ∀ y s, P s → P (f y s)) (hQ : ∀ y s, Q s → Q (f y s)) (he : ∀ s, P s → Q (f x s)) {s : State} (h0 : P s) :
    Q (s.eachOf l f) := by
  induction l generalizing s with
  | nil => simp at hx
  | cons y l ih =>
    rcases List.mem_cons.mp hx with rfl | hl
    · exact State.eachOf_induct (s := f x s) hQ (he s h0) l
    · exact ih hl (hP y s h0)

theorem cmd_refresh (pole : Pole) : fldsApart refreshFlds (poleCmd pole) = true := by cases pole <;> decide

theorem closed_refresh (pole : Pole) : fldsApart refreshFlds (poleClosed pole) = true := by cases pole <;> decide

theorem weld_refresh (pole : Pole) : fldsApart refreshFlds (poleWeld pole) = true := by cases pole <;> decide

/-! ### Close, open and lock requests (R431, R434) -/

/-- Coil `n` may be switched on as before. -/
theorem CanOn.congr {s t : State} {n : Nat} (h : CanOn s n)
    (hf : fieldOf t.regs Fl.SFY_COIL_FAULT n = fieldOf s.regs Fl.SFY_COIL_FAULT n)
    (hs : fieldOf t.regs Fl.SFY_STAT_SAFE 0 = fieldOf s.regs Fl.SFY_STAT_SAFE 0) (hr : t.sfy = s.sfy) : CanOn t n := by
  obtain ⟨h1, h2, h3, h4⟩ := h
  exact ⟨h1, by rwa [f_of_field hf], by rwa [f_of_field hs], by rwa [hr]⟩

theorem poleCoil_energise (p : Nat) (a : Pole) (q : Nat) (b : Pole) (s : State) :
    (energisePole p a s).poleCoil q b = s.poleCoil q b :=
  poleCoil_congr b (fieldOf_energisePole _ _ _ _ (by decide)) (fieldOf_energisePole _ _ _ _ (by decide))

theorem canOn_energise {s : State} {n : Nat} (p : Nat) (a : Pole) (h : CanOn s n) : CanOn (energisePole p a s) n :=
  h.congr (fieldOf_energisePole _ _ _ _ (by decide)) (fieldOf_energisePole _ _ _ _ (by decide)) (energisePole_sfy ..)

section Port

variable {p : Nat} (hp : p < 48)
include hp

theorem energise_all {l : List Pole} {pole : Pole} (hm : pole ∈ l) (s : State) :
    fieldOf (s.eachOf l (energisePole p)).regs (poleCmd pole) p = 1 ∧
    (CanOn s (s.poleCoil p pole) → fieldOf (s.eachOf l (energisePole p)).regs Fl.SFY_COIL_ON (s.poleCoil p pole) = 1)
      := by
  refine ⟨State.eachOf_establish (P := fun _ => True) (Q := fun u => fieldOf u.regs (poleCmd pole) p = 1) hm
    (fun _ _ _ => trivial) (fun x u hu => energisePole_cmd_keeps hp x pole hu) (fun u _ => energisePole_cmd hp pole u)
    trivial, fun hc => ?_⟩
  refine State.eachOf_establish (P := fun u => CanOn u (s.poleCoil p pole) ∧ u.poleCoil p pole = s.poleCoil p pole)
    (Q := fun u => fieldOf u.regs Fl.SFY_COIL_ON (s.poleCoil p pole) = 1) hm
    (fun x u hu => ⟨canOn_energise p x hu.1, (poleCoil_energise p x p pole u).trans hu.2⟩)
    (fun x u hu => energisePole_coil_keeps p x hu) (fun u hu => ?_) ⟨hc, rfl⟩
  rw [← hu.2]
  exact energisePole_coil (hu.2.symm ▸ hu.1)

theorem close_energises {s : State} {pos neg : Bool} (h : s.closeOk p pos neg = true) :
    Effect (.closeRequest p pos neg) s fun u => u.f Fl.SFY_PSTAT_NOV p = 0 ∧
      ∀ pole ∈ polesOf pos neg, u.f (poleCmd pole) p = 1 ∧
        (CanOn s (s.poleCoil p pole) → u.f Fl.SFY_COIL_ON (s.poleCoil p pole) = 1) := by
  refine effect_done (congrArg done (if_pos h)) ⟨?_, fun pole hm => ?_⟩
  · rw [State.f_fieldOf, fieldOf_refreshPort _ _ _ (by decide)]
    exact fieldOf_setB_same _ _ _ _ (lt_of_lt_of_le hp (by decide)) (by decide) (by decide)
  · obtain ⟨hcmd, hcoil⟩ := energise_all hp hm s
    rw [State.f_fieldOf, State.f_fieldOf, fieldOf_refreshPort _ _ _ (cmd_refresh pole),
      fieldOf_refreshPort _ _ _ (by decide), fieldOf_setB_apart _ _ _ _ _ _ (by cases pole <;> decide),
      fieldOf_setB_apart _ _ _ _ _ _ (by decide)]
    exact ⟨hcmd, hcoil⟩

omit hp in
theorem close_refused {s : State} {pos neg : Bool} (h : s.closeOk p pos neg = false) :
    Effect (.closeRequest p pos neg) s fun u => bitOf (u.f Fl.SFY_STAT_CAUSE) 7 = true ∧
      u.reg R.SFY_PSTAT p = s.reg R.SFY_PSTAT p :=
  effect_done (congrArg done (if_neg (by rw [h]; decide)))
    ⟨by rw [State.f_fieldOf]; exact sfyCause_shows 7 (by decide) s, reg_sfyCause 7 p s (by decide) (by decide)⟩

/-- One pole is released. -/
def openPole (p : Nat) (pole : Pole) (s : State) : State :=
  (coilOff (s.poleCoil p pole) s).setB (poleCmd pole) p false

omit hp in
theorem poleCoil_openPole (a : Pole) (q : Nat) (b : Pole) (s : State) : (openPole p a s).poleCoil q b = s.poleCoil q b
  := by
  refine poleCoil_congr b ?_ ?_ <;>
  · rw [openPole, fieldOf_setB_apart _ _ _ _ _ _ (by cases a <;> decide), fieldOf_coilOff _ _ _ (by decide)]

theorem openPole_cmd (pole : Pole) (s : State) : fieldOf (openPole p pole s).regs (poleCmd pole) p = 0 :=
  fieldOf_setCmd hp pole false _

theorem openPole_cmd_keeps (a b : Pole) {s : State} (h : fieldOf s.regs (poleCmd b) p = 0) :
    fieldOf (openPole p a s).regs (poleCmd b) p = 0 := by
  by_cases he : a = b
  · subst he
    exact openPole_cmd hp a s
  · rw [openPole, fieldOf_setB_apart _ _ _ _ _ _ (poleCmd_apart he), fieldOf_coilOff _ _ _ (coilFlds_cmd b), h]

omit hp in
theorem openPole_coil_keeps (a : Pole) {n : Nat} {s : State} (h : fieldOf s.regs Fl.SFY_COIL_ON n = 0) :
    fieldOf (openPole p a s).regs Fl.SFY_COIL_ON n = 0 := by
  rw [openPole, fieldOf_setB_apart _ _ _ _ _ _ (cmd_coil_apart a)]
  exact coilOff_keeps _ h

omit hp in
theorem openPole_coil {pole : Pole} {s : State} (h : s.poleCoil p pole < 48) :
    fieldOf (openPole p pole s).regs Fl.SFY_COIL_ON (s.poleCoil p pole) = 0 := by
  rw [openPole, fieldOf_setB_apart _ _ _ _ _ _ (cmd_coil_apart pole)]
  exact coilOff_off h s

theorem open_releases (s : State) (pos neg : Bool) : Effect (.openRequest p pos neg) s fun u =>
    ∀ pole ∈ polesOf pos neg, u.f (poleCmd pole) p = 0 ∧
      (s.poleCoil p pole < 48 → u.f Fl.SFY_COIL_ON (s.poleCoil p pole) = 0) := by
  have he : openRequest p pos neg s = refreshPort p (s.eachOf (polesOf pos neg) (openPole p)) := if_pos hp
  refine effect_done (congrArg done he) fun pole hm => ?_
  rw [State.f_fieldOf, State.f_fieldOf, fieldOf_refreshPort _ _ _ (cmd_refresh pole),
    fieldOf_refreshPort _ _ _ (by decide)]
  refine ⟨State.eachOf_establish (P := fun _ => True) (Q := fun u => fieldOf u.regs (poleCmd pole) p = 0) hm
    (fun _ _ _ => trivial) (fun x u hu => openPole_cmd_keeps hp x pole hu) (fun u _ => openPole_cmd hp pole u)
    trivial, fun hc => ?_⟩
  refine State.eachOf_establish (P := fun u => u.poleCoil p pole = s.poleCoil p pole)
    (Q := fun u => fieldOf u.regs Fl.SFY_COIL_ON (s.poleCoil p pole) = 0) hm
    (fun x u hu => (poleCoil_openPole x p pole u).trans hu) (fun x u hu => openPole_coil_keeps x hu)
    (fun u hu => ?_) rfl
  rw [← hu]
  exact openPole_coil (hu.symm ▸ hc)

theorem lock_asks (s : State) : Effect (.lockRequest p) s fun u => (u.sp p).lockReq = true ∧
    (u.sp p).unlockReq = false ∧ (CanOn s (s.f Fl.SFY_PCO_LOCKCO p) →
      u.f Fl.SFY_COIL_ON (s.f Fl.SFY_PCO_LOCKCO p) = 1) := by
  refine effect_done (congrArg done (if_pos hp)) ⟨?_, ?_, fun hc => coilOn_on hc⟩ <;> rw [sp_setSp hp]

omit hp in
theorem release_acts {s : State} {expired : Bool} (h : (s.sp p).release.isSome = true ∧
    (expired = true ∨ (s.sp p).holdFull = false ∧ (s.portCurrent p).natAbs < 5000)) :
    releaseDue p expired s = releasePoles p s := by
  obtain ⟨h1, h2⟩ := h
  refine if_pos ?_
  rw [h1]
  rcases h2 with h2 | ⟨h2, h3⟩
  · simp [h2]
  · simp [h2, h3]

omit hp in
theorem release_waits {s : State} {expired : Bool} (h : ¬((s.sp p).release.isSome = true ∧
    (expired = true ∨ (s.sp p).holdFull = false ∧ (s.portCurrent p).natAbs < 5000))) :
    releaseDue p expired s = s := by
  refine if_neg fun hc => h ?_
  simpa using hc

/-- The poles of port `p` are off and their commands withdrawn. -/
def polesOff (p : Nat) (s : State) : State :=
  let s := coilOff (s.poleCoil p .pos) s
  let s := coilOff (s.poleCoil p .neg) s
  s.setB Fl.SFY_PSTAT_POSCMD p false |>.setB Fl.SFY_PSTAT_NEGCMD p false |>.setB Fl.SFY_PSTAT_STANDBY p false

omit hp in
theorem releasePoles_eq (s : State) : releasePoles p s =
    refreshPort p ((polesOff p s).setSp p fun x => { x with release := none, holdFull := false }) := rfl

/-- The poles of a port are released. -/
structure Released (p : Nat) (u : State) : Prop where
  pos : fieldOf u.regs Fl.SFY_PSTAT_POSCMD p = 0
  neg : fieldOf u.regs Fl.SFY_PSTAT_NEGCMD p = 0
  standby : fieldOf u.regs Fl.SFY_PSTAT_STANDBY p = 0

theorem polesOff_released (s : State) : Released p (polesOff p s) := by
  unfold polesOff
  constructor <;>
  simp (disch := first | decide | (apply lt_of_lt_of_le hp; decide)) only [fieldOf_setB_apart, fieldOf_setB_same,
    b2n_false]

omit hp in
theorem polesOff_coils {pole : Pole} {s : State} (h : s.poleCoil p pole < 48) :
    fieldOf (polesOff p s).regs Fl.SFY_COIL_ON (s.poleCoil p pole) = 0 := by
  unfold polesOff
  dsimp only
  rw [fieldOf_setB_apart _ _ _ _ _ _ (by decide), fieldOf_setB_apart _ _ _ _ _ _ (by decide),
    fieldOf_setB_apart _ _ _ _ _ _ (by decide)]
  cases pole with
  | pos => exact coilOff_keeps _ (coilOff_off h s)
  | neg =>
    have hc : (coilOff (s.poleCoil p .pos) s).poleCoil p .neg = s.poleCoil p .neg :=
      poleCoil_congr .neg (fieldOf_coilOff _ _ _ (by decide)) (fieldOf_coilOff _ _ _ (by decide))
    rw [hc]
    exact coilOff_off h _

theorem releasePoles_releases (s : State) : Released p (releasePoles p s) ∧ ((releasePoles p s).sp p).release = none ∧
    ∀ pole, s.poleCoil p pole < 48 → fieldOf (releasePoles p s).regs Fl.SFY_COIL_ON (s.poleCoil p pole) = 0 := by
  obtain ⟨h1, h2, h3⟩ := polesOff_released hp s
  rw [releasePoles_eq]
  refine ⟨⟨?_, ?_, ?_⟩, ?_, fun pole hc => ?_⟩
  · exact (fieldOf_refreshPort _ _ _ (by decide)).trans h1
  · exact (fieldOf_refreshPort _ _ _ (by decide)).trans h2
  · exact (fieldOf_refreshPort _ _ _ (by decide)).trans h3
  · rw [sp_of_sfy (refreshPort_sfy _ _), sp_setSp hp]
  · exact (fieldOf_refreshPort _ _ _ (by decide)).trans (polesOff_coils hc)

theorem release_shows {s : State} {expired : Bool} (h : (s.sp p).release.isSome = true ∧
    (expired = true ∨ (s.sp p).holdFull = false ∧ (s.portCurrent p).natAbs < 5000)) :
    Effect (.coilRelease p expired) s fun u => u.f Fl.SFY_PSTAT_POSCMD p = 0 ∧ u.f Fl.SFY_PSTAT_NEGCMD p = 0 ∧
      u.f Fl.SFY_PSTAT_STANDBY p = 0 ∧ (u.sp p).release = none ∧
      (s.poleCoil p .pos < 48 → u.f Fl.SFY_COIL_ON (s.poleCoil p .pos) = 0) ∧
      (s.poleCoil p .neg < 48 → u.f Fl.SFY_COIL_ON (s.poleCoil p .neg) = 0) := by
  obtain ⟨⟨h1, h2, h3⟩, h4, h5⟩ := releasePoles_releases hp s
  exact effect_done (congrArg done ((if_pos hp).trans (release_acts h))) ⟨h1, h2, h3, h4, h5 .pos, h5 .neg⟩

end Port

end Sys2Proof.Machine

/-! ## Mirrors, feedback, locks, insulation and pins (R425 to R437, R500 to R502) -/

namespace Sys2Proof.Machine

set_option Elab.async false

theorem bitOf_clearBit (v i : Nat) : bitOf (clearBit v i) i = false := by
  unfold clearBit bitOf
  split
  · next h =>
    rw [Nat.testBit_eq_decide_div_mod_eq] at h ⊢
    have hd : (v - 2 ^ i) / 2 ^ i = v / 2 ^ i - 1 := by simpa using Nat.sub_mul_div v (2 ^ i) 1
    have h1 : v / 2 ^ i % 2 = 1 := by simpa using h
    rw [hd]
    simp
    omega
  · next h => simpa using h

/-- A bit of a field takes the value written to it. -/
theorem bitOf_setFBit_same (s : State) (fl : Fld) (i j : Nat) (v : Bool) (hi : i < fl.reg.count)
    (hw : fl.lsb + fl.width ≤ 32) (hj : j < fl.width) : bitOf (fieldOf (s.setFBit fl i j v).regs fl i) j = v := by
  rw [State.setFBit, fieldOf_setF_same _ _ _ _ hi hw, bitOf_field_mod hj]
  cases v
  · exact bitOf_clearBit _ _
  · exact bitOf_setBit _ _

/-! ### Port faults -/

/-- Port `p` shows a discrepancy and is demanded. -/
def discrepant (p : Nat) (s : State) : State := sfyCause 2 (demandPort 2 false p (s.setB Fl.SFY_PSTAT_DISCREP p true))

/-- The marks of a contactor fault. -/
structure Marked (p : Nat) (u : State) : Prop where
  discrep : fieldOf u.regs Fl.SFY_PSTAT_DISCREP p = 1
  reef : fieldOf u.regs Fl.SFY_PSTAT_SREEF p = 7
  release : (u.sp p).release.isSome = true
  cause : bitOf (fieldOf u.regs Fl.SFY_STAT_CAUSE 0) 2 = true

theorem sp_sfyCause (j p : Nat) (s : State) : (sfyCause j s).sp p = s.sp p := sp_of_sfy (sfyCause_sfy j s) p

section Port

variable {p : Nat} (hp : p < 48)
include hp

theorem discrepant_marks (s : State) : Marked p (discrepant p s) := by
  have h := demandPort_demands hp 2 false (s.setB Fl.SFY_PSTAT_DISCREP p true)
  refine ⟨?_, (fieldOf_sfyCause _ _ _ (by decide) (by decide)).trans h.reef, ?_, sfyCause_shows 2 (by decide) _⟩
  · rw [discrepant, fieldOf_sfyCause _ _ _ (by decide) (by decide), fieldOf_demandPort _ _ _ _ _ (by decide)]
    exact fieldOf_setB_same s _ _ _ (lt_of_lt_of_le hp (by decide)) (by decide) (by decide)
  · rw [discrepant, sp_sfyCause]
    exact h.isSome

theorem discrepant_keeps (q : Nat) {s : State} (h : Marked p s) : Marked p (discrepant q s) := by
  by_cases hq : q = p
  · subst hq
    exact discrepant_marks hp s
  · refine ⟨?_, ?_, ?_, sfyCause_shows 2 (by decide) _⟩
    · rw [discrepant, fieldOf_sfyCause _ _ _ (by decide) (by decide), fieldOf_demandPort_other hq _ _ _ rfl, State.setB,
        fieldOf_setF_index _ _ _ _ hq rfl, h.discrep]
    · rw [discrepant, fieldOf_sfyCause _ _ _ (by decide) (by decide), fieldOf_demandPort_other hq _ _ _ rfl, State.setB,
        fieldOf_setF_apart _ _ _ _ _ _ (by decide), h.reef]
    · rw [discrepant, sp_sfyCause, sp_demandPort_other hq, State.setB, sp_of_sfy (State.setF_sfy ..), h.release]

/-- The fields that a discrepancy writes. -/
def discrepantFlds : List Fld := [Fl.SFY_PSTAT_SREEF, Fl.SFY_PSTAT_ESD, Fl.SFY_PSTAT_ISO, Fl.SFY_PSTAT_DISCREP,
  Fl.SFY_STAT_CAUSE, Fl.EVT_PEND_PEND]

omit hp in
theorem refresh_of_discrepant {fl : Fld} (h : fldsApart discrepantFlds fl = true) : fldsApart refreshFlds fl = true :=
  List.all_eq_true.mpr fun a ha => apart_of_mem h (by
    simp only [refreshFlds, discrepantFlds, List.mem_cons] at ha ⊢
    tauto)

omit hp in
theorem fieldOf_discrepant {fl : Fld} (q i : Nat) (s : State) (h : fldsApart discrepantFlds fl = true) :
    fieldOf (discrepant q s).regs fl i = fieldOf s.regs fl i := by
  rw [discrepant, fieldOf_sfyCause _ _ _ (apart_of_mem h (by simp [discrepantFlds]))
    (apart_of_mem h (by simp [discrepantFlds])), fieldOf_demandPort _ _ _ _ _ (refresh_of_discrepant h),
    fieldOf_setB_apart _ _ _ _ _ _ (apart_of_mem h (by simp [discrepantFlds]))]

omit hp in
theorem poleFb_congr {s t : State} (pole : Pole)
    (h1 : fieldOf t.regs Fl.SFY_PFB_POSFB p = fieldOf s.regs Fl.SFY_PFB_POSFB p)
    (h2 : fieldOf t.regs Fl.SFY_PFB_NEGFB p = fieldOf s.regs Fl.SFY_PFB_NEGFB p) : t.poleFb p pole = s.poleFb p pole
      := by
  cases pole
  · exact f_of_field h1
  · exact f_of_field h2

/-! ### Stuck feedback, coils and their tests (R432, R433) -/

theorem feedbackFault_keeps (k : Nat) {s : State} (h : Marked p s) : Marked p (feedbackFault k s) := by
  refine State.each_induct (P := Marked p) (fun q u hu => ?_) h 48
  split
  · exact discrepant_keeps hp q hu
  · exact hu

omit hp in
theorem feedbackFault_fb (k : Nat) (pole : Pole) (s : State) : (feedbackFault k s).poleFb p pole = s.poleFb p pole := by
  refine State.each_induct (P := fun u => u.poleFb p pole = s.poleFb p pole) (fun q u hu => ?_) rfl 48
  split
  · exact (poleFb_congr pole (fieldOf_discrepant q p u (by decide)) (fieldOf_discrepant q p u (by decide))).trans hu
  · exact hu

theorem feedbackFault_marks {s : State} {pole : Pole} (hk : s.poleFb p pole < 96) :
    Marked p (feedbackFault (s.poleFb p pole) s) := by
  refine State.each_establish (P := fun u => ∀ a, u.poleFb p a = s.poleFb p a) (Q := Marked p) hp (fun q u hu a => ?_)
    (fun q u hu => ?_) (fun u hu => ?_) fun _ => rfl
  · split
    · exact (poleFb_congr a (fieldOf_discrepant q p u (by decide)) (fieldOf_discrepant q p u (by decide))).trans (hu a)
    · exact hu a
  · split
    · exact discrepant_keeps hp q hu
    · exact hu
  · rw [if_pos]
    · exact discrepant_marks hp u
    · rw [hu, hu]
      cases pole <;> simp [hk]

theorem feedbackTest_marks {s : State} {pole : Pole} {l : List Nat} (hm : s.poleFb p pole ∈ l)
    (hk : s.poleFb p pole < 96) : Effect (.feedbackTest l) s fun u => u.f Fl.SFY_PSTAT_DISCREP p = 1 ∧
      (u.f Fl.SFY_PSTAT_SREEF p = 7 ∧ (u.sp p).release.isSome = true) ∧ bitOf (u.f Fl.SFY_STAT_CAUSE) 2 = true := by
  have h : Marked p (s.eachOf l feedbackFault) := by
    refine State.eachOf_establish (P := fun u => u.poleFb p pole = s.poleFb p pole) hm
      (fun k u hu => (feedbackFault_fb k pole u).trans hu) (fun k u hu => feedbackFault_keeps hp k hu) (fun u hu =>
        ?_) rfl
    rw [← hu]
    exact feedbackFault_marks hp (hu.symm ▸ hk)
  exact effect_done rfl ⟨h.discrep, ⟨h.reef, h.release⟩, h.cause⟩

theorem coilFault_marks {s : State} {pole : Pole} (hn : s.poleCoil p pole < 48) :
    Marked p (coilFault (s.poleCoil p pole) s) := by
  refine State.each_establish (P := fun u => ∀ a,
    u.poleCoil p a = s.poleCoil p a) (Q := Marked p) hp (fun q u hu a => ?_)
    (fun q u hu => ?_) (fun u hu => ?_) fun _ => rfl
  · split
    · exact (poleCoil_congr a (fieldOf_discrepant q p u (by decide)) (fieldOf_discrepant q p u (by decide))).trans (hu
        a)
    · exact hu a
  · split
    · exact discrepant_keeps hp q hu
    · exact hu
  · rw [if_pos]
    · exact discrepant_marks hp u
    · rw [hu, hu]
      cases pole <;> simp [hn]

omit hp in
theorem fieldOf_coilFault {fl : Fld} (n i : Nat) (s : State) (h : fldsApart discrepantFlds fl = true) :
    fieldOf (coilFault n s).regs fl i = fieldOf s.regs fl i := by
  refine State.each_induct (P := fun u => fieldOf u.regs fl i = fieldOf s.regs fl i) (fun q u hu => ?_) rfl 48
  split
  · exact (fieldOf_discrepant q i u h).trans hu
  · exact hu

/-- A failed coil shows its fault `k` and marks the ports that use it. -/
theorem coilFault_shows {s : State} {pole : Pole} {k : Nat} (hk : k < 4) (hn : s.poleCoil p pole < 48) :
    let n := s.poleCoil p pole
    let u := coilFault n (s.setF Fl.SFY_COIL_FAULT n k)
    u.f Fl.SFY_COIL_FAULT n = k ∧ u.f Fl.SFY_PSTAT_DISCREP p = 1 ∧
      (u.f Fl.SFY_PSTAT_SREEF p = 7 ∧ (u.sp p).release.isSome = true) ∧ bitOf (u.f Fl.SFY_STAT_CAUSE) 2 = true := by
  dsimp only
  have hc : (s.setF Fl.SFY_COIL_FAULT (s.poleCoil p pole) k).poleCoil p pole = s.poleCoil p pole :=
    poleCoil_congr pole (fieldOf_setF_apart _ _ _ _ _ _ (by decide)) (fieldOf_setF_apart _ _ _ _ _ _ (by decide))
  have hf : fieldOf (s.setF Fl.SFY_COIL_FAULT (s.poleCoil p pole) k).regs Fl.SFY_COIL_FAULT (s.poleCoil p pole) = k :=
    fieldOf_setF_fits _ _ _ _ (lt_of_lt_of_le hn (by decide)) (by decide) (lt_of_lt_of_le hk (by decide))
  generalize s.setF Fl.SFY_COIL_FAULT (s.poleCoil p pole) k = u at hc hf
  rw [← hc] at hf hn ⊢
  have h := coilFault_marks hp hn
  refine ⟨?_, h.discrep, ⟨h.reef, h.release⟩, h.cause⟩
  rw [State.f_fieldOf, fieldOf_coilFault _ _ _ (by decide), hf]

theorem coilTest_stuck {s : State} {pole : Pole} {n : Nat} (hn : n < 48) (hon : s.f Fl.SFY_COIL_ON n = 1)
    (hc : s.poleCoil p pole = n) : Effect (.coilTestPulse n true) s fun u => u.f Fl.SFY_COIL_FAULT n = 2 ∧
      u.f Fl.SFY_PSTAT_DISCREP p = 1 ∧ (u.f Fl.SFY_PSTAT_SREEF p = 7 ∧ (u.sp p).release.isSome = true) ∧
      bitOf (u.f Fl.SFY_STAT_CAUSE) 2 = true := by
  subst hc
  refine effect_done (congrArg done (if_pos ?_)) (coilFault_shows hp (by decide) hn)
  rw [b_true hon]
  simpa using hn

theorem coilOpen_shows {s : State} {pole : Pole} {n : Nat} (hn : n < 48) (hon : s.f Fl.SFY_COIL_ON n = 1)
    (hc : s.poleCoil p pole = n) : Effect (.coilOpen n) s fun u => u.f Fl.SFY_COIL_FAULT n = 1 ∧
      u.f Fl.SFY_PSTAT_DISCREP p = 1 ∧ (u.f Fl.SFY_PSTAT_SREEF p = 7 ∧ (u.sp p).release.isSome = true) ∧
      bitOf (u.f Fl.SFY_STAT_CAUSE) 2 = true := by
  subst hc
  refine effect_done (congrArg done (if_pos ?_)) (coilFault_shows hp (by decide) hn)
  rw [b_true hon]
  simpa using hn

omit hp in
theorem overcurrent_shows {s : State} {n : Nat} (hn : n < 48) (hon : s.f Fl.SFY_COIL_ON n = 1) :
    Effect (.coilOvercurrent n) s fun u => u.f Fl.SFY_COIL_FAULT n = 3 ∧ u.f Fl.SFY_COIL_ON n = 0 := by
  refine effect_done (congrArg done (if_pos ?_)) ⟨?_, coilOff_off hn _⟩
  · rw [b_true hon]
    simpa using hn
  · rw [State.f_fieldOf, fieldOf_coilOff _ _ _ (by decide)]
    exact fieldOf_setF_fits _ _ _ _ (lt_of_lt_of_le hn (by decide)) (by decide) (by decide)

omit hp in
theorem overcurrent_off {s : State} {n : Nat} (hon : s.f Fl.SFY_COIL_ON n = 0) :
    Effect (.coilOvercurrent n) s fun u => u = s :=
  effect_done (congrArg done (if_neg (by rw [b_false hon]; simp))) rfl

omit hp in
theorem pullIn_ends {s : State} {n : Nat} (hn : n < 48) : Effect (.pullInEnd n) s fun u =>
    u.f Fl.SFY_COIL_PULLIN n = 0 ∧ u.f Fl.SFY_COIL_ON n = s.f Fl.SFY_COIL_ON n :=
  effect_done (congrArg done (if_pos hn))
    ⟨fieldOf_setB_same s _ _ _ (lt_of_lt_of_le hn (by decide)) (by decide) (by decide),
      f_of_field (fieldOf_setB_apart _ _ _ _ _ _ (by decide))⟩

omit hp in
theorem coilTest_good (s : State) (n : Nat) : Effect (.coilTestPulse n false) s fun u => u = s :=
  effect_done (congrArg done (if_neg (by simp))) rfl

/-! ### Mirrors (R432) -/

theorem fieldOf_setClosed (pole : Pole) (v : Bool) (s : State) :
    fieldOf (s.setB (poleClosed pole) p v).regs (poleClosed pole) p = b2n v := by
  have hlt : p < R.SFY_PSTAT.count := lt_of_lt_of_le hp (by decide)
  cases pole <;> exact fieldOf_setB_same _ _ _ _ hlt (by decide) (by decide)

theorem fieldOf_setWeld (pole : Pole) (v : Bool) (s : State) :
    fieldOf (s.setB (poleWeld pole) p v).regs (poleWeld pole) p = b2n v := by
  have hlt : p < R.SFY_PSTAT.count := lt_of_lt_of_le hp (by decide)
  cases pole <;> exact fieldOf_setB_same _ _ _ _ hlt (by decide) (by decide)

omit hp in
theorem served_test {s : State} (hp : p < 48) (h : p < 24 ∨ s.f Fl.SFY_PSTAT_STANDBY p = 1) :
    ¬(!(decide (p < 24) || (decide (p < 48) && s.b Fl.SFY_PSTAT_STANDBY p))) = true := by
  rcases h with h | h
  · simp [h]
  · rw [b_true h]
    simp [hp]

theorem timeout_fails_closing {s : State} {pole : Pole} (hs : p < 24 ∨ s.f Fl.SFY_PSTAT_STANDBY p = 1)
    (hc : s.f (poleCmd pole) p = 1) (ho : s.f (poleClosed pole) p = 0) : Effect (.mirrorTimeout p pole) s fun u =>
      u.f Fl.SFY_PSTAT_FAILCL p = 1 ∧ u.f (poleCmd pole) p = 0 ∧
      (s.poleCoil p pole < 48 → u.f Fl.SFY_COIL_ON (s.poleCoil p pole) = 0) ∧ bitOf (u.f Fl.SFY_STAT_CAUSE) 2 = true
        := by
  have he : mirrorTimeout p pole s =
      sfyCause 2 (refreshPort p ((openPole p pole s).setB Fl.SFY_PSTAT_FAILCL p true)) :=
    (if_neg (served_test hp hs)).trans (if_pos (by rw [b_true hc, b_false ho]; rfl))
  refine effect_done (congrArg done he) ⟨?_, ?_, fun hn => ?_, sfyCause_shows 2 (by decide) _⟩
  · rw [State.f_fieldOf, fieldOf_sfyCause _ _ _ (by decide) (by decide), fieldOf_refreshPort _ _ _ (by decide)]
    exact fieldOf_setB_same _ _ _ _ (lt_of_lt_of_le hp (by decide)) (by decide) (by decide)
  · rw [State.f_fieldOf, fieldOf_sfyCause _ _ _ (by cases pole <;> decide) (by cases pole <;> decide),
      fieldOf_refreshPort _ _ _ (cmd_refresh pole), fieldOf_setB_apart _ _ _ _ _ _ (by cases pole <;> decide)]
    exact openPole_cmd hp pole s
  · rw [State.f_fieldOf, fieldOf_sfyCause _ _ _ (by decide) (by decide), fieldOf_refreshPort _ _ _ (by decide),
      fieldOf_setB_apart _ _ _ _ _ _ (by decide)]
    exact openPole_coil hn

theorem timeout_welds {s : State} {pole : Pole} (hs : p < 24 ∨ s.f Fl.SFY_PSTAT_STANDBY p = 1)
    (hc : s.f (poleCmd pole) p = 0) (ho : s.f (poleClosed pole) p = 1) : Effect (.mirrorTimeout p pole) s fun u =>
      u.f (poleWeld pole) p = 1 ∧ bitOf (u.f Fl.SFY_STAT_CAUSE) 2 = true := by
  have he : mirrorTimeout p pole s = sfyCause 2 (refreshPort p (s.setB (poleWeld pole) p true)) :=
    (if_neg (served_test hp hs)).trans ((if_neg (by rw [b_false hc]; simp)).trans
      (if_pos (by rw [b_false hc, b_true ho]; rfl)))
  refine effect_done (congrArg done he) ⟨?_, sfyCause_shows 2 (by decide) _⟩
  rw [State.f_fieldOf, fieldOf_sfyCause _ _ _ (by cases pole <;> decide) (by cases pole <;> decide),
    fieldOf_refreshPort _ _ _ (weld_refresh pole)]
  exact fieldOf_setWeld hp pole true s

omit hp in
theorem closed_width (pole : Pole) : (poleClosed pole).width = 1 := by cases pole <;> rfl

omit hp in
theorem timeout_agrees {s : State} {pole : Pole} (h : s.f (poleCmd pole) p = s.f (poleClosed pole) p) :
    Effect (.mirrorTimeout p pole) s fun u => u.reg R.SFY_PSTAT p = s.reg R.SFY_PSTAT p := by
  have hb : s.b (poleCmd pole) p = s.b (poleClosed pole) p := by
    rw [State.b_fieldOf, State.b_fieldOf, ← State.f_fieldOf, ← State.f_fieldOf, h]
  have he : mirrorTimeout p pole s = s := by
    unfold mirrorTimeout
    rw [hb]
    split
    · rfl
    · cases s.b (poleClosed pole) p <;> rfl
  exact effect_done (congrArg done he) rfl

omit hp in
theorem mirror_stands {s : State} {pole : Pole} {closed : Bool} (h : b2n closed = s.f (poleClosed pole) p) :
    mirrorSet p pole closed s = s := by
  have hb : s.b (poleClosed pole) p = closed := by
    rw [State.b_fieldOf, ← State.f_fieldOf, ← h]
    cases closed <;> rfl
  exact if_pos (by rw [hb]; simp)

/-- The mirror of a pole is noted with its time. -/
def mirrorNoted (p : Nat) (pole : Pole) (closed : Bool) (s : State) : State :=
  let s := s.setB (poleClosed pole) p closed
  s.setSp p fun x => match pole with
    | .pos => { x with posSince := s.tick } | .neg => { x with negSince := s.tick }

omit hp in
theorem mirrorNoted_regs (pole : Pole) (closed : Bool) (s : State) :
    (mirrorNoted p pole closed s).regs = (s.setB (poleClosed pole) p closed).regs := rfl

/-- A changed mirror follows its command, or nothing watches it. -/
def Follows (s : State) (p : Nat) (pole : Pole) (closed : Bool) : Prop :=
  b2n closed = s.f (poleCmd pole) p ∨ s.sfy.vauxLost = true ∨ s.f Fl.SFY_STAT_SAFE = 1 ∨
    ¬(p < 24 ∨ s.f Fl.SFY_PSTAT_STANDBY p = 1)

omit hp in
theorem b_eq_iff {s : State} {fl : Fld} {i : Nat} (v : Bool) (hw : fl.width = 1) : s.b fl i = v ↔ b2n v = s.f fl i := by
  rw [bool_field _ _ _ hw]
  cases v <;> cases s.b fl i <;> decide

theorem mirrorSet_eq {s : State} {pole : Pole} {closed : Bool} (h : b2n closed ≠ s.f (poleClosed pole) p) :
    (Follows s p pole closed → mirrorSet p pole closed s = refreshPort p (mirrorNoted p pole closed s)) ∧
    (¬Follows s p pole closed → mirrorSet p pole closed s = discrepant p (mirrorNoted p pole closed s)) := by
  have hb : (s.b (poleClosed pole) p == closed) = false := by
    rw [beq_eq_false_iff_ne]
    exact fun hc => h ((b_eq_iff closed (closed_width pole)).mp hc)
  have hcmd : (mirrorNoted p pole closed s).b (poleCmd pole) p = s.b (poleCmd pole) p :=
    b_of_field (fieldOf_setB_apart s _ _ _ _ _ (by cases pole <;> decide))
  have hsafe : (mirrorNoted p pole closed s).b Fl.SFY_STAT_SAFE = s.b Fl.SFY_STAT_SAFE :=
    b_of_field (fieldOf_setB_apart s _ _ _ _ _ (by cases pole <;> decide))
  have hstb : (mirrorNoted p pole closed s).b Fl.SFY_PSTAT_STANDBY p = s.b Fl.SFY_PSTAT_STANDBY p :=
    b_of_field (fieldOf_setB_apart s _ _ _ _ _ (by cases pole <;> decide))
  have hv : (mirrorNoted p pole closed s).sfy.vauxLost = s.sfy.vauxLost := by
    simp [mirrorNoted, State.setSp, State.setB]
  have hiff : ((mirrorNoted p pole closed s).b (poleCmd pole) p == closed ||
      (mirrorNoted p pole closed s).sfy.vauxLost || (mirrorNoted p pole closed s).b Fl.SFY_STAT_SAFE ||
      (decide (24 ≤ p) && !(mirrorNoted p pole closed s).b Fl.SFY_PSTAT_STANDBY p)) = true ↔
      Follows s p pole closed := by
    rw [hcmd, hsafe, hstb, hv, Follows]
    have hs1 : s.b Fl.SFY_STAT_SAFE = true ↔ s.f Fl.SFY_STAT_SAFE = 1 := by
      rw [b_eq_iff true rfl]
      exact eq_comm
    have hs2 : s.b Fl.SFY_PSTAT_STANDBY p = true ↔ s.f Fl.SFY_PSTAT_STANDBY p = 1 := by
      rw [b_eq_iff true rfl]
      exact eq_comm
    simp only [Bool.or_eq_true, Bool.and_eq_true, decide_eq_true_eq, Bool.not_eq_true', beq_iff_eq,
      b_eq_iff closed (poleCmd_width pole), hs1, ← Bool.not_eq_true, hs2, not_or, not_lt, or_assoc]
  have h0 : mirrorSet p pole closed s = if (mirrorNoted p pole closed s).b (poleCmd pole) p == closed ||
      (mirrorNoted p pole closed s).sfy.vauxLost || (mirrorNoted p pole closed s).b Fl.SFY_STAT_SAFE ||
      (decide (24 ≤ p) && !(mirrorNoted p pole closed s).b Fl.SFY_PSTAT_STANDBY p) then
        refreshPort p (mirrorNoted p pole closed s) else discrepant p (mirrorNoted p pole closed s) := by
    unfold mirrorSet
    rw [if_neg (by rw [hb]; simp [hp])]
    rfl
  exact ⟨fun hf => h0.trans (if_pos (hiff.mpr hf)), fun hf => h0.trans (if_neg fun hc => hf (hiff.mp hc))⟩

theorem mirror_follows {s : State} {pole : Pole} {closed : Bool} (h : b2n closed ≠ s.f (poleClosed pole) p)
    (hf : Follows s p pole closed) : Effect (.mirrorChange p pole closed) s fun u =>
      u.f (poleClosed pole) p = b2n closed ∧ u.f Fl.SFY_PSTAT_DISCREP p = s.f Fl.SFY_PSTAT_DISCREP p := by
  refine effect_done (congrArg done ((mirrorSet_eq hp h).1 hf)) ⟨?_, ?_⟩
  · rw [State.f_fieldOf, fieldOf_refreshPort _ _ _ (closed_refresh pole), mirrorNoted_regs]
    exact fieldOf_setClosed hp pole closed s
  · rw [State.f_fieldOf, fieldOf_refreshPort _ _ _ (by decide), mirrorNoted_regs,
      fieldOf_setB_apart _ _ _ _ _ _ (by cases pole <;> decide), ← State.f_fieldOf]

omit hp in
theorem closed_discrepant (pole : Pole) : fldsApart discrepantFlds (poleClosed pole) = true := by
  cases pole <;> decide

theorem mirror_discrepant {s : State} {pole : Pole} {closed : Bool} (h : b2n closed ≠ s.f (poleClosed pole) p)
    (hf : ¬Follows s p pole closed) : Effect (.mirrorChange p pole closed) s fun u =>
      u.f (poleClosed pole) p = b2n closed ∧ u.f Fl.SFY_PSTAT_DISCREP p = 1 ∧
      (u.f Fl.SFY_PSTAT_SREEF p = 7 ∧ (u.sp p).release.isSome = true) ∧ bitOf (u.f Fl.SFY_STAT_CAUSE) 2 = true := by
  have hm := discrepant_marks hp (mirrorNoted p pole closed s)
  refine effect_done (congrArg done ((mirrorSet_eq hp h).2 hf)) ⟨?_, hm.discrep, ⟨hm.reef, hm.release⟩, hm.cause⟩
  rw [State.f_fieldOf, fieldOf_discrepant _ _ _ (closed_discrepant pole), mirrorNoted_regs]
  exact fieldOf_setClosed hp pole closed s

end Port

end Sys2Proof.Machine

/-! ## Feedback inputs, locks, insulation and pins (R424, R434 to R437, R500 to R502) -/

namespace Sys2Proof.Machine

set_option Elab.async false

/-! ### Feedback inputs drive the mirrors (R432) -/

theorem mirrorSet_cases (p : Nat) (pole : Pole) (closed : Bool) (s : State) : mirrorSet p pole closed s = s ∨
    mirrorSet p pole closed s = refreshPort p (mirrorNoted p pole closed s) ∨
    mirrorSet p pole closed s = discrepant p (mirrorNoted p pole closed s) := by
  by_cases hp : p < 48
  · by_cases h : b2n closed = s.f (poleClosed pole) p
    · exact .inl (mirror_stands h)
    · by_cases hf : Follows s p pole closed
      · exact .inr (.inl ((mirrorSet_eq hp h).1 hf))
      · exact .inr (.inr ((mirrorSet_eq hp h).2 hf))
  · exact .inl (if_pos (by simp [hp]))

/-- The fields that a mirror's change writes. -/
def mirrorFlds : List Fld := Fl.SFY_PSTAT_POSCL :: Fl.SFY_PSTAT_NEGCL :: discrepantFlds

theorem discrepant_of_mirror {fl : Fld} (h : fldsApart mirrorFlds fl = true) : fldsApart discrepantFlds fl = true :=
  List.all_eq_true.mpr fun a ha => apart_of_mem h (by simp [mirrorFlds, ha])

theorem closed_of_mirror {fl : Fld} (pole : Pole) (h : fldsApart mirrorFlds fl = true) :
    (poleClosed pole).apart fl = true := by
  cases pole <;> exact apart_of_mem h (by simp [mirrorFlds, poleClosed])

theorem fieldOf_mirrorSet {fl : Fld} (p : Nat) (pole : Pole) (closed : Bool) (i : Nat) (s : State)
    (h : fldsApart mirrorFlds fl = true) : fieldOf (mirrorSet p pole closed s).regs fl i = fieldOf s.regs fl i := by
  have hn : fieldOf (mirrorNoted p pole closed s).regs fl i = fieldOf s.regs fl i :=
    fieldOf_setB_apart s _ _ _ _ _ (closed_of_mirror pole h)
  rcases mirrorSet_cases p pole closed s with he | he | he <;> rw [he]
  · exact (fieldOf_refreshPort _ _ _ (refresh_of_discrepant (discrepant_of_mirror h))).trans hn
  · exact (fieldOf_discrepant _ _ _ (discrepant_of_mirror h)).trans hn

theorem fieldOf_discrepant_other {fl : Fld} {p q : Nat} (hq : q ≠ p) (s : State) (hr : fl.reg = R.SFY_PSTAT)
    (h : Fl.SFY_STAT_CAUSE.apart fl = true) (hp : Fl.EVT_PEND_PEND.apart fl = true) :
    fieldOf (discrepant q s).regs fl p = fieldOf s.regs fl p := by
  rw [discrepant, fieldOf_sfyCause _ _ _ h hp, fieldOf_demandPort_other hq _ _ _ hr, State.setB,
    fieldOf_setF_index _ _ _ _ hq hr]

theorem fieldOf_mirrorSet_other {fl : Fld} {p q : Nat} (hq : q ≠ p) (pole : Pole) (closed : Bool) (s : State)
    (hr : fl.reg = R.SFY_PSTAT) (h : Fl.SFY_STAT_CAUSE.apart fl = true) (hp : Fl.EVT_PEND_PEND.apart fl = true) :
    fieldOf (mirrorSet q pole closed s).regs fl p = fieldOf s.regs fl p := by
  have hn : fieldOf (mirrorNoted q pole closed s).regs fl p = fieldOf s.regs fl p :=
    fieldOf_setF_index s (poleClosed pole) fl _ hq (hr.trans (by cases pole <;> rfl))
  rcases mirrorSet_cases q pole closed s with he | he | he <;> rw [he]
  · exact (fieldOf_refreshPort_other hq _ hr).trans hn
  · exact (fieldOf_discrepant_other hq _ hr h hp).trans hn

theorem closed_apart {a b : Pole} (h : a ≠ b) : (poleClosed a).apart (poleClosed b) = true := by
  revert h
  cases a <;> cases b <;> decide

theorem fieldOf_mirrorSet_pole {p : Nat} {a b : Pole} (hab : a ≠ b) (closed : Bool) (s : State) :
    fieldOf (mirrorSet p a closed s).regs (poleClosed b) p = fieldOf s.regs (poleClosed b) p := by
  have hn : fieldOf (mirrorNoted p a closed s).regs (poleClosed b) p = fieldOf s.regs (poleClosed b) p :=
    fieldOf_setB_apart s _ _ _ _ _ (closed_apart hab)
  rcases mirrorSet_cases p a closed s with he | he | he <;> rw [he]
  · exact (fieldOf_refreshPort _ _ _ (closed_refresh b)).trans hn
  · exact (fieldOf_discrepant _ _ _ (closed_discrepant b)).trans hn

theorem mirrorSet_closed {p : Nat} (hp : p < 48) (pole : Pole) (closed : Bool) (s : State) :
    fieldOf (mirrorSet p pole closed s).regs (poleClosed pole) p = b2n closed := by
  have hn : fieldOf (mirrorNoted p pole closed s).regs (poleClosed pole) p = b2n closed := fieldOf_setClosed hp pole
    closed s
  by_cases h : b2n closed = s.f (poleClosed pole) p
  · rw [mirror_stands h, h, State.f_fieldOf]
  · by_cases hf : Follows s p pole closed
    · rw [(mirrorSet_eq hp h).1 hf]
      exact (fieldOf_refreshPort _ _ _ (closed_refresh pole)).trans hn
    · rw [(mirrorSet_eq hp h).2 hf]
      exact (fieldOf_discrepant _ _ _ (closed_discrepant pole)).trans hn

/-- Input `k` drives the mirrors and the lock of port `q`. -/
def feedbackPort (k : Nat) (level : Bool) (q : Nat) (s : State) : State :=
  let s := s.when (s.poleFb q .pos == k) (mirrorSet q .pos (!level))
  let s := s.when (s.poleFb q .neg == k) (mirrorSet q .neg (!level))
  s.when (s.f Fl.SFY_PFB_LOCKFB q == k && !level) (fun s => s.setB Fl.SFY_PSTAT_LOCKED q false)

theorem fieldOf_feedbackPort {fl : Fld} (k : Nat) (level : Bool) (q i : Nat) (s : State)
    (h : fldsApart mirrorFlds fl = true) (hl : Fl.SFY_PSTAT_LOCKED.apart fl = true) :
    fieldOf (feedbackPort k level q s).regs fl i = fieldOf s.regs fl i := by
  unfold feedbackPort
  dsimp only
  rw [fieldOf_when (f := fun u => u.setB Fl.SFY_PSTAT_LOCKED q false) (fun u => fieldOf_setB_apart u _ _ _ _ _ hl),
    fieldOf_when fun u => fieldOf_mirrorSet q .neg _ i u h, fieldOf_when fun u => fieldOf_mirrorSet q .pos _ i u h]

theorem closed_reg (pole : Pole) : (poleClosed pole).reg = R.SFY_PSTAT := by cases pole <;> rfl

theorem feedbackPort_other {p q : Nat} (hq : q ≠ p) (k : Nat) (level : Bool) (pole : Pole) (s : State) :
    fieldOf (feedbackPort k level q s).regs (poleClosed pole) p = fieldOf s.regs (poleClosed pole) p := by
  have h1 : Fl.SFY_STAT_CAUSE.apart (poleClosed pole) = true := by cases pole <;> decide
  have h2 : Fl.EVT_PEND_PEND.apart (poleClosed pole) = true := by cases pole <;> decide
  unfold feedbackPort
  dsimp only
  rw [fieldOf_when (f := fun u => u.setB Fl.SFY_PSTAT_LOCKED q false)
      (fun u => fieldOf_setF_index u _ _ _ hq (closed_reg pole)),
    fieldOf_when fun u => fieldOf_mirrorSet_other hq .neg _ u (closed_reg pole) h1 h2,
    fieldOf_when fun u => fieldOf_mirrorSet_other hq .pos _ u (closed_reg pole) h1 h2]

theorem feedbackPort_closed {p k : Nat} (hp : p < 48) (level : Bool) {pole : Pole} {s : State}
    (h : s.poleFb p pole = k) : fieldOf (feedbackPort k level p s).regs (poleClosed pole) p = b2n (!level) := by
  have hl : Fl.SFY_PSTAT_LOCKED.apart (poleClosed pole) = true := by cases pole <;> decide
  unfold feedbackPort
  dsimp only
  rw [fieldOf_when (f := fun u => u.setB Fl.SFY_PSTAT_LOCKED p false) (fun u => fieldOf_setB_apart u _ _ _ _ _ hl)]
  cases pole with
  | pos =>
    rw [fieldOf_when fun u => fieldOf_mirrorSet_pole (by decide) _ u, h, beq_self_eq_true, State.when_true]
    exact mirrorSet_closed hp .pos _ s
  | neg =>
    have hneg : ∀ c, (s.when c (mirrorSet p .pos (!level))).poleFb p .neg = k := by
      intro c
      rw [← h]
      exact poleFb_congr .neg (fieldOf_when (fun u => fieldOf_mirrorSet _ _ _ _ u (by decide)) _ _)
        (fieldOf_when (fun u => fieldOf_mirrorSet _ _ _ _ u (by decide)) _ _)
    rw [hneg, beq_self_eq_true, State.when_true]
    exact mirrorSet_closed hp .neg _ _

theorem feedback_drives {p k : Nat} (hp : p < 48) {s : State} {pole : Pole} (level : Bool) (hk : k < 96)
    (h : s.poleFb p pole = k) : Effect (.feedbackChange k level) s fun u =>
      bitOf (u.f Fl.SFY_FB_LEVEL (k / 32)) (k % 32) = level ∧ u.f (poleClosed pole) p = b2n (!level) := by
  let v := s.setFBit Fl.SFY_FB_LEVEL (k / 32) (k % 32) level
  have hv : v.poleFb p pole = k := h ▸ poleFb_congr pole (fieldOf_setFBit_apart _ _ _ _ _ _ _ (by decide))
    (fieldOf_setFBit_apart _ _ _ _ _ _ _ (by decide))
  have hbit : bitOf (fieldOf v.regs Fl.SFY_FB_LEVEL (k / 32)) (k % 32) = level :=
    bitOf_setFBit_same s _ _ _ _ (lt_of_lt_of_le (show k / 32 < 3 by omega) (by decide)) (by decide)
      (Nat.mod_lt _ (by decide))
  have he : feedbackChange k level s = v.each 48 (feedbackPort k level) := if_neg (by omega)
  clear_value v
  refine effect_done (congrArg done he) ⟨?_, ?_⟩
  · rw [State.f_fieldOf]
    refine (congrArg (bitOf · _) ?_).trans hbit
    exact State.each_induct (P := fun u => fieldOf u.regs Fl.SFY_FB_LEVEL (k / 32) = fieldOf v.regs Fl.SFY_FB_LEVEL (k
      / 32))
      (fun q u hu => (fieldOf_feedbackPort k level q _ u (by decide) (by decide)).trans hu) rfl 48
  · rw [State.f_fieldOf]
    refine each_member_of (P := fun u => u.poleFb p pole = k) (fun u => fieldOf u.regs (poleClosed pole) p)
      (fun _ => b2n (!level)) hp (fun q u hu => ?_) (fun u hu => feedbackPort_closed hp level hu)
      (fun q u hq => feedbackPort_other hq k level pole u) hv
    exact (poleFb_congr pole (fieldOf_feedbackPort _ _ _ _ u (by decide) (by decide))
      (fieldOf_feedbackPort _ _ _ _ u (by decide) (by decide))).trans hu

/-! ### Locks (R434, R435) -/

section Port

variable {p : Nat} (hp : p < 48)
include hp

theorem lock_confirmed {s : State} (h : s.fbLevel (s.f Fl.SFY_PFB_LOCKFB p) ≠ some false) :
    Effect (.lockConfirmed p) s fun u => u.f Fl.SFY_PSTAT_LOCKED p = 1 ∧ u.f Fl.SFY_PSTAT_UNLOCKED p = 0 ∧
      (u.sp p).lockReq = false := by
  have hlt : p < R.SFY_PSTAT.count := lt_of_lt_of_le hp (by decide)
  refine effect_done (congrArg done (if_pos (by simpa [hp] using h))) ⟨?_, ?_, ?_⟩
  · exact (fieldOf_setB_apart _ Fl.SFY_PSTAT_UNLOCKED _ _ _ _ (by decide)).trans
      (fieldOf_setB_same _ Fl.SFY_PSTAT_LOCKED _ _ hlt (by decide) (by decide))
  · exact fieldOf_setB_same _ Fl.SFY_PSTAT_UNLOCKED _ _ hlt (by decide) (by decide)
  · rw [sp_setSp hp]

theorem lock_times_out {s : State} (h : (s.sp p).lockReq = true) : Effect (.lockTimeout p) s fun u =>
    u.f Fl.SFY_PSTAT_LOCKF p = 1 ∧ bitOf (u.f Fl.SFY_STAT_CAUSE) 3 = true ∧ (u.sp p).lockReq = false := by
  refine effect_done (congrArg done (if_pos (by simp [hp, h]))) ⟨?_, sfyCause_shows 3 (by decide) _, ?_⟩
  · rw [State.f_fieldOf, fieldOf_sfyCause _ _ _ (by decide) (by decide), fieldOf_refreshPort _ _ _ (by decide)]
    exact fieldOf_setB_same _ Fl.SFY_PSTAT_LOCKF _ _ (lt_of_lt_of_le hp (by decide)) (by decide) (by decide)
  · rw [sp_sfyCause, sp_of_sfy (refreshPort_sfy _ _), sp_setSp hp]

omit hp in
theorem noVoltage_iff (s : State) : s.noVoltage p = true ↔ s.f Fl.SFY_PSTAT_POSCMD p = 0 ∧
    s.f Fl.SFY_PSTAT_NEGCMD p = 0 ∧ s.f Fl.SFY_PSTAT_POSCL p = 0 ∧ s.f Fl.SFY_PSTAT_NEGCL p = 0 ∧
    (s.portVolt p).natAbs < 60000 ∧ s.f Fl.MTR_MSTAT_FAULT p = 0 := by
  have hz : ∀ fl : Fld, fl.width = 1 → (s.b fl p = false ↔ s.f fl p = 0) := fun fl hw =>
    (b_eq_iff false hw).trans eq_comm
  simp only [State.noVoltage, Bool.and_eq_true, Bool.not_eq_true', hz Fl.SFY_PSTAT_POSCMD rfl,
    hz Fl.SFY_PSTAT_NEGCMD rfl, hz Fl.SFY_PSTAT_POSCL rfl, hz Fl.SFY_PSTAT_NEGCL rfl, hz Fl.MTR_MSTAT_FAULT rfl,
    decide_eq_true_eq, and_assoc]

end Port

section HomePort

variable {p : Nat} (hp : p < 24)
include hp

theorem unlock_asks (s : State) : Effect (.unlockRequest p) s fun u => (u.sp p).unlockReq = true :=
  effect_done (congrArg done (if_pos hp)) (by rw [sp_setSp (by omega)])

omit hp in
theorem unlock_refused (hp : 24 ≤ p) (s : State) : Effect (.unlockRequest p) s fun u =>
    bitOf (u.f Fl.SFY_STAT_CAUSE) 7 = true ∧ (u.sp p).unlockReq = (s.sp p).unlockReq :=
  effect_done (congrArg done (if_neg (by omega))) ⟨sfyCause_shows 7 (by decide) s, by rw [sp_sfyCause]⟩

theorem noVoltage_shows {s : State} (hu : (s.sp p).unlockReq = true) (h : s.noVoltage p = true) :
    Effect (.noVoltageVerified p) s fun u => u.f Fl.SFY_PSTAT_NOV p = 1 ∧
      (CanOn s (s.f Fl.SFY_PCO_UNLKCO p) → u.f Fl.SFY_COIL_ON (s.f Fl.SFY_PCO_UNLKCO p) = 1) := by
  refine effect_done (congrArg done (if_pos (by simp [hp, hu, h]))) ⟨?_, fun hc => ?_⟩
  · rw [State.f_fieldOf, fieldOf_coilOn _ _ _ (by decide)]
    exact fieldOf_setB_same s _ _ _ (lt_of_lt_of_le hp (by decide)) (by decide) (by decide)
  · exact coilOn_on (hc.congr (fieldOf_setB_apart _ _ _ _ _ _ (by decide)) (fieldOf_setB_apart _ _ _ _ _ _ (by decide))
      (State.setF_sfy ..))

omit hp in
theorem noVoltage_none {s : State} (h : s.noVoltage p = false) : Effect (.noVoltageVerified p) s fun u =>
    u.reg R.SFY_PSTAT p = s.reg R.SFY_PSTAT p :=
  effect_done (congrArg done (if_neg (by rw [h]; simp))) rfl

theorem unlock_confirmed {s : State} (hu : (s.sp p).unlockReq = true) (hn : s.f Fl.SFY_PSTAT_NOV p = 1)
    (hf : s.fbLevel (s.f Fl.SFY_PFB_LOCKFB p) ≠ some true) : Effect (.unlockConfirmed p) s fun u =>
      u.f Fl.SFY_PSTAT_LOCKED p = 0 ∧ u.f Fl.SFY_PSTAT_UNLOCKED p = 1 ∧ (u.sp p).unlockReq = false := by
  have hlt : p < R.SFY_PSTAT.count := lt_of_lt_of_le hp (by decide)
  refine effect_done (congrArg done (if_pos ?_)) ⟨?_, ?_, ?_⟩
  · rw [hu, b_true hn]
    simpa [hp] using hf
  · exact (fieldOf_setB_apart _ Fl.SFY_PSTAT_UNLOCKED _ _ _ _ (by decide)).trans
      (fieldOf_setB_same _ Fl.SFY_PSTAT_LOCKED _ _ hlt (by decide) (by decide))
  · exact fieldOf_setB_same _ Fl.SFY_PSTAT_UNLOCKED _ _ hlt (by decide) (by decide)
  · rw [sp_setSp (by omega)]

end HomePort

/-! ### Insulation (R436) -/

section Port

variable {p : Nat} (hp : p < 48)
include hp

omit hp in
theorem imdFault_congr {s t : State} (h1 : fieldOf t.regs Fl.SFY_PIMD_IMDEN p = fieldOf s.regs Fl.SFY_PIMD_IMDEN p)
    (h2 : fieldOf t.regs Fl.SFY_PIMD_FAULTTI p = fieldOf s.regs Fl.SFY_PIMD_FAULTTI p)
    (h3 : ∀ i, fieldOf t.regs Fl.SFY_SRC_ACT i = fieldOf s.regs Fl.SFY_SRC_ACT i) : t.imdFault p = s.imdFault p := by
  rw [State.imdFault, State.imdFault, b_of_field h1, f_of_field h2, b_of_field (h3 _)]

omit hp in
theorem charging_congr {s t : State} (h : ∀ i,
  fieldOf t.regs Fl.PRT_GSTAT_STATE i = fieldOf s.regs Fl.PRT_GSTAT_STATE i) :
    t.charging p = s.charging p := by
  unfold State.charging
  simp only [f_of_field (h _)]

omit hp in
theorem imdFault_enabled {s : State} (h : s.imdFault p = true) : s.b Fl.SFY_PIMD_IMDEN p = true := by
  rw [State.imdFault, Bool.and_eq_true] at h
  exact h.1

omit hp in
/-- A port with an active insulation fault shows it still. -/
theorem isoNow_fault {s : State} (h : s.imdFault p = true) (hi : fieldOf s.regs Fl.SFY_PSTAT_ISO p = 3) :
    s.isoNow p = 3 := by
  rw [State.isoNow, imdFault_enabled h, State.f_fieldOf, hi]
  simp [h]

theorem imdFault_shows {s : State} (h : s.imdFault p = true) : Effect (.imdFault p) s fun u =>
    u.f Fl.SFY_PSTAT_ISO p = 3 ∧
      (s.charging p = true → u.f Fl.SFY_PSTAT_IMDF p = 1 ∧
        (u.f Fl.SFY_PSTAT_SREEF p = 7 ∧ (u.sp p).release.isSome = true) ∧ bitOf (u.f Fl.SFY_STAT_CAUSE) 4 = true) ∧
      (s.charging p = false → u.f Fl.SFY_PSTAT_IMDF p = s.f Fl.SFY_PSTAT_IMDF p) := by
  have hlt : p < R.SFY_PSTAT.count := lt_of_lt_of_le hp (by decide)
  let v := s.setF Fl.SFY_PSTAT_ISO p 3
  have hiso : fieldOf v.regs Fl.SFY_PSTAT_ISO p = 3 := fieldOf_setF_fits s _ _ _ hlt (by decide) (by decide)
  have hfield : ∀ fl i, Fl.SFY_PSTAT_ISO.apart fl = true → fieldOf v.regs fl i = fieldOf s.regs fl i :=
    fun fl i ha => fieldOf_setF_apart s _ _ _ _ _ ha
  have hf : v.imdFault p = true := h ▸ imdFault_congr (hfield _ _ (by decide)) (hfield _ _ (by decide))
    fun _ => hfield _ _ (by decide)
  have hch : v.charging p = s.charging p := charging_congr fun _ => hfield _ _ (by decide)
  have h0 : imdFaultQualified p s =
      if v.charging p then sfyCause 4 (demandPort 2 false p (v.setB Fl.SFY_PSTAT_IMDF p true)) else v :=
    if_pos (by simp [hp, h])
  clear_value v
  cases hc : s.charging p with
  | false =>
    have he : imdFaultQualified p s = v := h0.trans (if_neg (by rw [hch, hc]; decide))
    refine effect_done (congrArg done he) ⟨hiso, fun hn => absurd hn (by decide), fun _ => ?_⟩
    exact f_of_field (hfield _ _ (by decide))
  | true =>
    let w := v.setB Fl.SFY_PSTAT_IMDF p true
    have hw : ∀ fl i, Fl.SFY_PSTAT_IMDF.apart fl = true → fieldOf w.regs fl i = fieldOf v.regs fl i :=
      fun fl i ha => fieldOf_setB_apart v _ _ _ _ _ ha
    have hwi : fieldOf w.regs Fl.SFY_PSTAT_IMDF p = 1 := fieldOf_setB_same v _ _ _ hlt (by decide) (by decide)
    have he : imdFaultQualified p s = sfyCause 4 (demandPort 2 false p w) := h0.trans (if_pos (by rw [hch, hc]))
    clear_value w
    have hd := demandPort_demands hp 2 false w
    have hr := withDue_regs 2 false p w
    refine effect_done (congrArg done he) ⟨?_, fun _ => ⟨?_, ⟨?_, ?_⟩, sfyCause_shows 4 (by decide) _⟩,
      fun hn => absurd hn (by decide)⟩
    · rw [State.f_fieldOf, fieldOf_sfyCause _ _ _ (by decide) (by decide), demandPort_eq, refreshPort_iso hp]
      refine isoNow_fault (hf ▸ imdFault_congr ?_ ?_ fun i => ?_) ?_
      · rw [hr, hw _ _ (by decide)]
      · rw [hr, hw _ _ (by decide)]
      · rw [hr, hw _ _ (by decide)]
      · rw [hr, hw _ _ (by decide), hiso]
    · rw [State.f_fieldOf, fieldOf_sfyCause _ _ _ (by decide) (by decide), fieldOf_demandPort _ _ _ _ _ (by decide),
        hwi]
    · rw [State.f_fieldOf, fieldOf_sfyCause _ _ _ (by decide) (by decide), hd.reef]
    · rw [sp_sfyCause]
      exact hd.isSome

theorem imdWarn_on {s : State} (h : s.f Fl.SFY_PIMD_IMDEN p = 1) : Effect (.imdWarn p true) s fun u =>
    bitOf (u.f Fl.SFY_STAT_CAUSE) 4 = true ∧
      u.f Fl.SFY_PSTAT_ISO p = if s.f Fl.SFY_PSTAT_ISO p = 3 then 3 else 2 := by
  have he : imdWarning p true s =
      sfyCause 4 (if s.f Fl.SFY_PSTAT_ISO p == 3 then s else s.setF Fl.SFY_PSTAT_ISO p 2) :=
    (if_neg (by rw [b_true h]; simp [hp])).trans (if_pos rfl)
  refine effect_done (congrArg done he) ⟨sfyCause_shows 4 (by decide) _, ?_⟩
  rw [State.f_fieldOf, fieldOf_sfyCause _ _ _ (by decide) (by decide)]
  by_cases h3 : s.f Fl.SFY_PSTAT_ISO p = 3
  · rw [if_pos h3, if_pos (by simpa using h3), ← State.f_fieldOf, h3]
  · rw [if_neg h3, if_neg (by simpa using h3)]
    exact fieldOf_setF_fits s _ _ _ (lt_of_lt_of_le hp (by decide)) (by decide) (by decide)

theorem imdWarn_off {s : State} (h : s.f Fl.SFY_PIMD_IMDEN p = 1) : Effect (.imdWarn p false) s fun u =>
    u.f Fl.SFY_PSTAT_ISO p = if s.f Fl.SFY_PSTAT_ISO p = 2 then 0 else s.f Fl.SFY_PSTAT_ISO p := by
  have he : imdWarning p false s = if s.f Fl.SFY_PSTAT_ISO p == 2 then s.setF Fl.SFY_PSTAT_ISO p 0 else s :=
    (if_neg (by rw [b_true h]; simp [hp])).trans (if_neg (by decide))
  refine effect_done (congrArg done he) ?_
  by_cases h2 : s.f Fl.SFY_PSTAT_ISO p = 2
  · rw [if_pos h2, if_pos (by simpa using h2)]
    exact fieldOf_setF_fits s _ _ _ (lt_of_lt_of_le hp (by decide)) (by decide) (by decide)
  · rw [if_neg h2, if_neg (by simpa using h2)]

omit hp in
theorem isolation_valid {s : State} (hp : p < 24) (he : s.f Fl.SFY_PIMD_IMDEN p = 1) (hf : s.imdFault p = false)
    (hw : s.imdWarn p = false) (hi : s.f Fl.SFY_PSTAT_ISO p ≠ 2) (hg : s.f Fl.PRT_GSTAT_STATE p = 2)
    (hv : 9 * (s.f Fl.PRT_VSET_VSET p : Int) ≤ 10 * s.portVolt p) : Effect (.isolationValid p) s fun u =>
      u.f Fl.SFY_PSTAT_ISO p = 1 := by
  refine effect_done (congrArg done (if_pos ?_)) ?_
  · rw [b_true he, hf, hw, hg]
    have hv' : ((9 * s.f Fl.PRT_VSET_VSET p : Nat) : Int) ≤ 10 * s.portVolt p := by push_cast; exact hv
    simp [hp, hi]
    exact_mod_cast hv'
  · exact fieldOf_setF_fits s _ _ _ (lt_of_lt_of_le hp (by decide)) (by decide) (by decide)

/-! ### Pins (R437, R500 to R502) -/

omit hp in
theorem tempCut_shows {s : State} (hp : p < 24) (h : s.pinAtCut p = true) : Effect (.tempCut p) s fun u =>
    u.f Fl.SFY_PSTAT_TCUT p = 1 ∧ (u.f Fl.SFY_PSTAT_SREEF p = 7 ∧ (u.sp p).release.isSome = true) ∧
      bitOf (u.f Fl.SFY_STAT_CAUSE) 5 = true := by
  have hd := demandPort_demands (p := p) (by omega) 2 false (s.setB Fl.SFY_PSTAT_TCUT p true)
  refine effect_done (congrArg done (if_pos (by simp [hp, h]))) ⟨?_, ⟨?_, ?_⟩, sfyCause_shows 5 (by decide) _⟩
  · rw [State.f_fieldOf, fieldOf_sfyCause _ _ _ (by decide) (by decide), fieldOf_demandPort _ _ _ _ _ (by decide)]
    exact fieldOf_setB_same s _ _ _ (lt_of_lt_of_le hp (by decide)) (by decide) (by decide)
  · rw [State.f_fieldOf, fieldOf_sfyCause _ _ _ (by decide) (by decide), hd.reef]
  · rw [sp_sfyCause]
    exact hd.isSome

omit hp in
theorem tempCut_none {s : State} (h : s.pinAtCut p = false) : Effect (.tempCut p) s fun u =>
    u.reg R.SFY_PSTAT p = s.reg R.SFY_PSTAT p :=
  effect_done (congrArg done (if_neg (by simp [h]))) rfl

omit hp in
theorem shroudReef_broken {s : State} (h : s.b Fl.SFY_PSTAT_PBRK p = true) : 4 ≤ s.shroudReef p % 8 := by
  have hg : s.f Fl.SFY_GUEST_GREEF < 8 := by rw [State.f_fieldOf]; exact fieldOf_lt _ _ _
  unfold State.shroudReef
  rw [h]
  split
  · decide
  · rw [if_pos rfl]
    split <;> omega

omit hp in
theorem pinBroken_shows {s : State} (hp : p < 24) (h : s.pinIsBroken p = true) : Effect (.pinBroken p) s fun u =>
    u.f Fl.SFY_PSTAT_PBRK p = 1 ∧ 4 ≤ u.f Fl.SFY_PSTAT_SREEF p := by
  have hset : fieldOf (s.setB Fl.SFY_PSTAT_PBRK p true).regs Fl.SFY_PSTAT_PBRK p = 1 :=
    fieldOf_setB_same s _ _ _ (lt_of_lt_of_le hp (by decide)) (by decide) (by decide)
  refine effect_done (congrArg done (if_pos (by simp [hp, h]))) ⟨?_, ?_⟩
  · rw [State.f_fieldOf, fieldOf_refreshPort _ _ _ (by decide), hset]
  · rw [State.f_fieldOf, refreshPort_reef (by omega)]
    exact shroudReef_broken (b_true hset)

omit hp in
theorem pinBroken_stops {s : State} (hp : p < 24) (h : s.pinIsBroken p = true) (hb : s.f Fl.SFY_PSTAT_PBRK p = 1)
    (hc : s.charging p = true) : Effect (.pinBrokenStop p) s fun u =>
      (u.f Fl.SFY_PSTAT_SREEF p = 7 ∧ (u.sp p).release.isSome = true) ∧ p ∈ u.sfy.stops := by
  have hd := demandPort_demands (p := p) (by omega) (s.f Fl.SFY_ZONE1_TSTOP1 0) true s
  refine effect_done (congrArg done (if_pos (by rw [b_true hb, h, hc]; simp [hp]))) ⟨⟨hd.reef, hd.isSome⟩, ?_⟩
  rw [demandPort_stops]
  exact List.mem_append_right _ (List.mem_singleton_self _)

end Port

/-- Settles O39: contactors, mirrors, locks, insulation, pins and coils. -/
theorem shroudContactors : Obligations.ShroudContactors := by
  intro p s hp
  have hdead := noVoltage_iff (p := p) s
  refine ⟨fun pos neg => ⟨close_energises hp, close_refused, open_releases hp s pos neg⟩, lock_asks hp s,
    fun h => unlock_asks h s, fun h => unlock_refused h s,
    fun expired => ⟨release_shows hp, fun h => effect_done (congrArg done ((if_pos hp).trans (release_waits h))) rfl⟩,
    fun pole => ⟨timeout_fails_closing hp, timeout_welds hp, timeout_agrees,
      fun closed h => effect_done (congrArg done (mirror_stands h)) rfl,
      fun closed h => ⟨mirror_follows hp h, mirror_discrepant hp h⟩,
      fun k level hk h => feedback_drives hp level hk h, fun l hm hk => feedbackTest_marks hp hm hk,
      fun n hn hon hc => ⟨coilTest_stuck hp hn hon hc, coilOpen_shows hp hn hon hc⟩⟩,
    fun n hn => ⟨overcurrent_shows hn, overcurrent_off, pullIn_ends hn, coilTest_good s n⟩,
    lock_confirmed hp, lock_times_out hp,
    fun h hu => ⟨fun hd => noVoltage_shows h hu (hdead.mpr hd),
      fun hd => noVoltage_none (Bool.eq_false_iff.mpr fun hc => hd (hdead.mp hc)), unlock_confirmed h hu⟩,
    imdFault_shows hp, fun h => ⟨imdWarn_on hp h, imdWarn_off hp h⟩, isolation_valid, tempCut_shows,
    tempCut_none, fun h hb => ⟨pinBroken_shows h hb, pinBroken_stops h hb⟩⟩

end Sys2Proof.Machine

/-! ## Standby coils, the veto, the guest limit and the supply of the outputs (R449 to R453, R495) -/

namespace Sys2Proof.Machine

set_option Elab.async false

/-- Of a family of operations, the one on member `m` meets what the others keep and establishes what they keep. -/
theorem State.each_once {R Q : State → Prop} {f : Nat → State → State} {m k : Nat} (hm : m < k)
    (hR : ∀ j s, j ≠ m → R s → R (f j s)) (hQ : ∀ j s, j ≠ m → Q s → Q (f j s)) (he : ∀ s, R s → Q (f m s)) {s : State}
    (h0 : R s) : Q (s.each k f) := by
  have hsucc : ∀ i, s.each (i + 1) f = f i (s.each i f) := fun i => by simp [State.each, List.range_succ]
  have hbefore : ∀ i, i ≤ m → R (s.each i f) := by
    intro i
    induction i with
    | zero => exact fun _ => h0
    | succ i ih => exact fun hi => by rw [hsucc]; exact hR _ _ (by omega) (ih (by omega))
  induction k with
  | zero => omega
  | succ k ih =>
    rw [hsucc]
    rcases Nat.lt_or_ge m k with hlt | hge
    · exact hQ _ _ (by omega) (ih hlt)
    · obtain rfl : m = k := by omega
      exact he _ (hbefore m le_rfl)

/-- All fields apart from a list read as before. -/
def FieldsStand (l : List Fld) (s t : State) : Prop :=
  ∀ fl i, fldsApart l fl = true → fieldOf t.regs fl i = fieldOf s.regs fl i

theorem FieldsStand.refl (l : List Fld) (s : State) : FieldsStand l s s := fun _ _ _ => rfl

theorem FieldsStand.trans {l : List Fld} {s t u : State} (h : FieldsStand l s t) (h' : FieldsStand l t u) :
    FieldsStand l s u := fun fl i hf => (h' fl i hf).trans (h fl i hf)

theorem FieldsStand.of_regs {l : List Fld} {s t : State} (h : t.regs = s.regs) : FieldsStand l s t :=
  fun _ _ _ => by rw [h]

/-- The fields that the shroud writes to command a port. -/
def commandFlds : List Fld := Fl.SFY_PSTAT_STANDBY :: poleFlds ++ refreshFlds

theorem pole_of_command {fl : Fld} (h : fldsApart commandFlds fl = true) : fldsApart poleFlds fl = true :=
  List.all_eq_true.mpr fun a ha => apart_of_mem h (by simp [commandFlds, ha])

theorem refresh_of_command {fl : Fld} (h : fldsApart commandFlds fl = true) : fldsApart refreshFlds fl = true :=
  List.all_eq_true.mpr fun a ha => apart_of_mem h (by simp [commandFlds, ha])

theorem zoneHolds_congr {s t : State} {p : Nat}
    (h1 : ∀ i, fieldOf t.regs Fl.SFY_ZONE0_EN i = fieldOf s.regs Fl.SFY_ZONE0_EN i)
    (h2 : ∀ i, fieldOf t.regs Fl.SFY_ZONE0_PORTS i = fieldOf s.regs Fl.SFY_ZONE0_PORTS i)
    (h3 : ∀ i, fieldOf t.regs Fl.SFY_ZONE1_STATE i = fieldOf s.regs Fl.SFY_ZONE1_STATE i) : t.zoneHolds p =
      s.zoneHolds p := by
  unfold State.zoneHolds State.zoneStops
  simp only [b_of_field (h1 _), f_of_field (h2 _), f_of_field (h3 _)]

theorem vetoActive_congr {s t : State}
    (h1 : fieldOf t.regs Fl.SFY_GUEST_NOVETO 0 = fieldOf s.regs Fl.SFY_GUEST_NOVETO 0)
    (h2 : fieldOf t.regs Fl.SFY_GUEST_VETOTI 0 = fieldOf s.regs Fl.SFY_GUEST_VETOTI 0)
    (h3 : ∀ i, fieldOf t.regs Fl.SFY_SRC_ACT i = fieldOf s.regs Fl.SFY_SRC_ACT i) : t.vetoActive = s.vetoActive := by
  rw [State.vetoActive, State.vetoActive, b_of_field h1, f_of_field h2, b_of_field (h3 _)]

theorem standbyOk_congr {s t : State} (h : FieldsStand commandFlds s t) (p : Nat) : t.standbyOk p = s.standbyOk p := by
  rw [State.standbyOk, State.standbyOk, b_of_field (h _ _ (by decide)), b_of_field (h _ _ (by decide)),
    zoneHolds_congr (fun _ => h _ _ (by decide)) (fun _ => h _ _ (by decide)) fun _ => h _ _ (by decide),
    imdFault_congr (h _ _ (by decide)) (h _ _ (by decide)) fun _ => h _ _ (by decide),
    vetoActive_congr (h _ _ (by decide)) (h _ _ (by decide)) fun _ => h _ _ (by decide)]

theorem fieldOf_energisePole_other {fl : Fld} {p q : Nat} (hq : q ≠ p) (pole : Pole) (s : State)
    (hr : fl.reg = R.SFY_PSTAT) (hc : fldsApart coilFlds fl = true) :
    fieldOf (energisePole q pole s).regs fl p = fieldOf s.regs fl p := by
  rw [energisePole, State.setB, fieldOf_setF_index _ _ _ _ hq (hr.trans (poleCmd_reg pole).symm),
    fieldOf_coilOn _ _ _ hc]

/-- Both poles of port `p` are energised. -/
def energiseBoth (p : Nat) (s : State) : State := energisePole p .neg (energisePole p .pos s)

theorem energiseBoth_stands (p : Nat) (s : State) : FieldsStand poleFlds s (energiseBoth p s) := fun _ i h =>
  (fieldOf_energisePole p .neg i _ h).trans (fieldOf_energisePole p .pos i s h)

theorem energiseBoth_cmds {p : Nat} (hp : p < 48) (s : State) :
    fieldOf (energiseBoth p s).regs Fl.SFY_PSTAT_POSCMD p = 1 ∧ fieldOf (energiseBoth p s).regs Fl.SFY_PSTAT_NEGCMD p
      = 1 :=
  ⟨energisePole_cmd_keeps hp .neg .pos (energisePole_cmd hp .pos s), energisePole_cmd hp .neg _⟩

theorem fieldOf_energiseBoth_other {fl : Fld} {p q : Nat} (hq : q ≠ p) (s : State)
    (hr : fl.reg = R.SFY_PSTAT) (hc : fldsApart coilFlds fl = true) :
    fieldOf (energiseBoth q s).regs fl p = fieldOf s.regs fl p :=
  (fieldOf_energisePole_other hq .neg _ hr hc).trans (fieldOf_energisePole_other hq .pos s hr hc)

theorem energiseBoth_sfy (p : Nat) (s : State) : (energiseBoth p s).sfy = s.sfy :=
  (energisePole_sfy ..).trans (energisePole_sfy ..)

/-! ### Standby coils (R449) -/

/-- The standby coils of port `p`. -/
def standbyPort (p : Nat) (s : State) : State :=
  if s.standbyOk p then refreshPort p ((energiseBoth p s).setB Fl.SFY_PSTAT_STANDBY p true) else refreshPort p s

theorem standbyPort_stands (p : Nat) (s : State) : FieldsStand commandFlds s (standbyPort p s) := by
  intro fl i h
  unfold standbyPort
  split
  · rw [fieldOf_refreshPort _ _ _ (refresh_of_command h),
      fieldOf_setB_apart _ _ _ _ _ _ (apart_of_mem h (by simp [commandFlds]))]
    exact energiseBoth_stands p s fl i (pole_of_command h)
  · exact fieldOf_refreshPort _ _ _ (refresh_of_command h)

theorem fieldOf_standbyPort_other {fl : Fld} {p q : Nat} (hq : q ≠ p) (s : State) (hr : fl.reg = R.SFY_PSTAT)
    (hc : fldsApart coilFlds fl = true) : fieldOf (standbyPort q s).regs fl p = fieldOf s.regs fl p := by
  unfold standbyPort
  split
  · rw [fieldOf_refreshPort_other hq _ hr, State.setB, fieldOf_setF_index _ _ _ _ hq hr,
      fieldOf_energiseBoth_other hq _ hr hc]
  · exact fieldOf_refreshPort_other hq _ hr

theorem standbyEnergise_eq {s : State} (hg : s.f Fl.RNG_STAT_GUEST = 1) (hr : s.sfy.running = true) :
    standbyEnergise s = s.each 24 fun h => standbyPort (24 + h) :=
  if_pos (by rw [guest_b hg, hr]; rfl)

theorem standby_energised {s : State} {h : Nat} (hh : h < 24) (hg : s.f Fl.RNG_STAT_GUEST = 1)
    (hr : s.sfy.running = true) (hok : s.standbyOk (24 + h) = true) :
    let u := standbyEnergise s
    u.f Fl.SFY_PSTAT_STANDBY (24 + h) = 1 ∧ u.f Fl.SFY_PSTAT_POSCMD (24 + h) = 1 ∧
      u.f Fl.SFY_PSTAT_NEGCMD (24 + h) = 1 := by
  have hlt : 24 + h < 48 := by omega
  dsimp only
  rw [standbyEnergise_eq hg hr]
  refine State.each_once (R := FieldsStand commandFlds s) (Q := fun u => u.f Fl.SFY_PSTAT_STANDBY (24 + h) = 1 ∧
    u.f Fl.SFY_PSTAT_POSCMD (24 + h) = 1 ∧ u.f Fl.SFY_PSTAT_NEGCMD (24 + h) = 1) hh
    (fun j u _ hu => hu.trans (standbyPort_stands _ u)) (fun j u hj hu => ?_) (fun u hu => ?_) (.refl _ s)
  · have hne : 24 + j ≠ 24 + h := by omega
    rw [f_of_field (fieldOf_standbyPort_other hne u rfl (by decide)),
      f_of_field (fieldOf_standbyPort_other hne u rfl (by decide)),
      f_of_field (fieldOf_standbyPort_other hne u rfl (by decide))]
    exact hu
  · obtain ⟨hpos, hneg⟩ := energiseBoth_cmds hlt u
    have he : standbyPort (24 + h) u =
        refreshPort (24 + h) ((energiseBoth (24 + h) u).setB Fl.SFY_PSTAT_STANDBY (24 + h) true) :=
      if_pos ((standbyOk_congr hu _).trans hok)
    rw [he, State.f_fieldOf, State.f_fieldOf, State.f_fieldOf, fieldOf_refreshPort _ _ _ (by decide),
      fieldOf_refreshPort _ _ _ (by decide), fieldOf_refreshPort _ _ _ (by decide)]
    exact ⟨fieldOf_setB_same _ _ _ _ (lt_of_lt_of_le hlt (by decide)) (by decide) (by decide),
      (fieldOf_setB_apart _ _ _ _ _ _ (by decide)).trans hpos, (fieldOf_setB_apart _ _ _ _ _ _ (by decide)).trans hneg⟩

theorem standby_refused {s : State} {h : Nat} (hh : h < 24) (hg : s.f Fl.RNG_STAT_GUEST = 1)
    (hr : s.sfy.running = true) (hok : s.standbyOk (24 + h) = false) :
    (standbyEnergise s).f Fl.SFY_PSTAT_STANDBY (24 + h) = s.f Fl.SFY_PSTAT_STANDBY (24 + h) := by
  rw [standbyEnergise_eq hg hr]
  refine f_of_field ?_
  refine (State.each_once (R := fun u => FieldsStand commandFlds s u ∧
    fieldOf u.regs Fl.SFY_PSTAT_STANDBY (24 + h) = fieldOf s.regs Fl.SFY_PSTAT_STANDBY (24 + h))
    (Q := fun u => fieldOf u.regs Fl.SFY_PSTAT_STANDBY (24 + h) = fieldOf s.regs Fl.SFY_PSTAT_STANDBY (24 + h)) hh
    (fun j u hj hu => ⟨hu.1.trans (standbyPort_stands _ u), ?_⟩) (fun j u hj hu => ?_) (fun u hu => ?_)
    ⟨.refl _ s, rfl⟩)
  · exact (fieldOf_standbyPort_other (by omega) u rfl (by decide)).trans hu.2
  · exact (fieldOf_standbyPort_other (by omega) u rfl (by decide)).trans hu
  · have he : standbyPort (24 + h) u = refreshPort (24 + h) u :=
      if_neg (by rw [standbyOk_congr hu.1, hok]; decide)
    rw [he, fieldOf_refreshPort _ _ _ (by decide), hu.2]

theorem standbyOk_iff (s : State) (p : Nat) : s.standbyOk p = true ↔ s.f Fl.SFY_PSTAT_POSCL p = 1 ∧
    s.f Fl.SFY_PSTAT_NEGCL p = 1 ∧ s.zoneHolds p = false ∧ s.imdFault p = false ∧ s.vetoActive = false := by
  have ho : ∀ fl : Fld, fl.width = 1 → (s.b fl p = true ↔ s.f fl p = 1) := fun fl hw =>
    (b_eq_iff true hw).trans eq_comm
  simp only [State.standbyOk, Bool.and_eq_true, Bool.not_eq_true', ho Fl.SFY_PSTAT_POSCL rfl,
    ho Fl.SFY_PSTAT_NEGCL rfl, and_assoc]

theorem standby_shows {s : State} {h : Nat} (hh : h < 24) (hg : s.f Fl.RNG_STAT_GUEST = 1)
    (hr : s.sfy.running = true) : Effect .standbyCoilsEnergise s fun u =>
      (s.standbyOk (24 + h) = true → u.f Fl.SFY_PSTAT_STANDBY (24 + h) = 1 ∧ u.f Fl.SFY_PSTAT_POSCMD (24 + h) = 1 ∧
        u.f Fl.SFY_PSTAT_NEGCMD (24 + h) = 1) ∧
      (s.standbyOk (24 + h) = false → u.f Fl.SFY_PSTAT_STANDBY (24 + h) = s.f Fl.SFY_PSTAT_STANDBY (24 + h)) :=
  effect_done rfl ⟨standby_energised hh hg hr, standby_refused hh hg hr⟩

/-! ### Demands of the guest ports (R451, R452) -/

theorem demanded_other {p q : Nat} (hq : q ≠ p) (trel trel' : Nat) (stop : Bool) {s u : State} (h : Demanded p trel s
  u) :
    Demanded p trel s (demandPort trel' stop q u) :=
  ⟨(fieldOf_demandPort_other hq _ _ _ rfl).trans h.reef, by rw [sp_demandPort_other hq, h.release]⟩

theorem veto_demands {s : State} {h : Nat} (hh : h < 24) (hg : s.f Fl.RNG_STAT_GUEST = 1) (hv : s.vetoActive = true) :
    Effect .vetoActive s fun u => Demanded (24 + h) 2 s u := by
  refine effect_done (congrArg done (if_pos (by rw [guest_b hg, hv]; rfl))) ?_
  refine State.each_once (R := fun u => u.sp (24 + h) = s.sp (24 + h)) (Q := Demanded (24 + h) 2 s) hh
    (fun j u hj hu => (sp_demandPort_other (by omega) 2 false u).trans hu)
    (fun j u hj hu => demanded_other (by omega) 2 2 false hu) (fun u hu => ?_) rfl
  obtain ⟨h1, h2⟩ := demandPort_demands (p := 24 + h) (by omega) 2 false u
  exact ⟨h1, h2.trans (by rw [hu])⟩

theorem veto_none {s : State} (hv : s.vetoActive = false) : Effect .vetoActive s fun u => u = s :=
  effect_done (congrArg done (if_neg (by rw [hv]; simp))) rfl

theorem guestLimit_demands {s : State} {h : Nat} (hh : h < 24) (hg : s.f Fl.RNG_STAT_GUEST = 1)
    (ht : s.f Fl.SFY_GUEST_TGUEST ≠ 0) : Effect .guestTimeLimit s fun u =>
      Demanded (24 + h) (s.f Fl.SFY_ZONE1_TSTOP1 0) s u ∧ 24 + h ∈ u.sfy.stops := by
  refine effect_done (congrArg done (if_pos (by rw [guest_b hg]; simpa using ht))) ?_
  refine State.each_once (R := fun u => u.sp (24 + h) = s.sp (24 + h) ∧
      u.f Fl.SFY_ZONE1_TSTOP1 0 = s.f Fl.SFY_ZONE1_TSTOP1 0)
    (Q := fun u => Demanded (24 + h) (s.f Fl.SFY_ZONE1_TSTOP1 0) s u ∧ 24 + h ∈ u.sfy.stops) hh
    (fun j u hj hu => ⟨(sp_demandPort_other (by omega) _ true u).trans hu.1,
      (f_of_field (fieldOf_demandPort _ _ _ _ u (by decide))).trans hu.2⟩)
    (fun j u hj hu => ⟨demanded_other (by omega) _ _ true hu.1, demandPort_stops_keep _ _ _ hu.2⟩) (fun u hu => ?_)
    ⟨rfl, rfl⟩
  obtain ⟨h1, h2⟩ := demandPort_demands (p := 24 + h) (by omega) (s.f Fl.SFY_ZONE1_TSTOP1 0) true u
  rw [hu.2]
  refine ⟨⟨h1, h2.trans (by rw [hu.1])⟩, ?_⟩
  rw [demandPort_stops]
  exact List.mem_append_right _ (List.mem_singleton_self _)

/-! ### The return of the shroud (R450, R453) -/

/-- What the conditions of closing read. -/
structure ShroudStands (s t : State) : Prop where
  fields : FieldsStand commandFlds s t
  sfy : t.sfy = s.sfy
  thm : t.thm = s.thm
  tick : t.tick = s.tick

theorem mayClose_congr {s t : State} (h : ShroudStands s t) (p : Nat) : t.mayClose p = s.mayClose p := by
  obtain ⟨hf, hsfy, hthm, htick⟩ := h
  have hb : ∀ fl i, fldsApart commandFlds fl = true → t.b fl i = s.b fl i := fun fl i ha => b_of_field (hf fl i ha)
  have hv : ∀ fl i, fldsApart commandFlds fl = true → t.f fl i = s.f fl i := fun fl i ha => f_of_field (hf fl i ha)
  have hpin : ∀ i l, t.pinBelow i l = s.pinBelow i l := fun i l => by
    rw [State.pinBelow, State.pinTemp, hthm]
    rfl
  have hpins : t.pinsOk p = s.pinsOk p := by
    rw [State.pinsOk, State.pinsOk, hpin, hpin, hv Fl.THM_PSEN_PINP p (by decide), hv Fl.THM_PSEN_PINN p (by decide),
      hv Fl.SFY_PTMP_TPCUT p (by decide)]
  have hlock : t.lockOk p = s.lockOk p := by
    rw [State.lockOk, State.lockOk, hv Fl.SFY_PFB_LOCKFB p (by decide), hb Fl.SFY_PSTAT_LOCKED p (by decide)]
  have hfault : t.anyFault p = s.anyFault p := by
    rw [State.anyFault, State.anyFault, State.faultHolds, State.faultHolds, hb Fl.SFY_PSTAT_WELDP p (by decide),
      hb Fl.SFY_PSTAT_WELDN p (by decide), hb Fl.SFY_PSTAT_FAILCL p (by decide), hb Fl.SFY_PSTAT_DISCREP p (by decide),
      hb Fl.SFY_PSTAT_TCUT p (by decide), hb Fl.SFY_PSTAT_IMDF p (by decide), hb Fl.SFY_PSTAT_LOCKF p (by decide),
      hb Fl.SFY_PSTAT_PBRK p (by decide)]
  rw [State.mayClose, State.mayClose, hpins, hlock, hfault, hsfy, htick, hb Fl.SFY_STAT_SAFE 0 (by decide),
    hb Fl.SYS_SUPSTAT_VAUX_OK 0 (by decide),
    zoneHolds_congr (fun _ => hf _ _ (by decide)) (fun _ => hf _ _ (by decide)) fun _ => hf _ _ (by decide),
    imdFault_congr (hf _ _ (by decide)) (hf _ _ (by decide)) fun _ => hf _ _ (by decide)]

/-- Port `p` takes its coils back where it may close. -/
def returnPort (p : Nat) (s : State) : State :=
  if s.b Fl.SFY_PSTAT_POSCL p && s.b Fl.SFY_PSTAT_NEGCL p && s.mayClose p then refreshPort p (energiseBoth p s) else s

theorem coilOn_thm_tick (n : Nat) (s : State) : (coilOn n s).thm = s.thm ∧ (coilOn n s).tick = s.tick := by
  unfold coilOn
  split <;> simp [State.setB]

theorem returnPort_stands {s u : State} (h : ShroudStands s u) (p : Nat) : ShroudStands s (returnPort p u) := by
  unfold returnPort
  split
  · refine ⟨h.fields.trans fun fl i hf => ?_, ?_, ?_, ?_⟩
    · rw [fieldOf_refreshPort _ _ _ (refresh_of_command hf)]
      exact energiseBoth_stands p u fl i (pole_of_command hf)
    · rw [refreshPort_sfy, energiseBoth_sfy, h.sfy]
    · rw [← h.thm]
      simp only [refreshPort, energiseBoth, energisePole, State.setB, State.setF_thm, coilOn_thm_tick]
    · rw [← h.tick]
      simp only [refreshPort, energiseBoth, energisePole, State.setB, State.setF_tick, coilOn_thm_tick]
  · exact h

theorem fieldOf_returnPort_other {fl : Fld} {p q : Nat} (hq : q ≠ p) (s : State) (hr : fl.reg = R.SFY_PSTAT)
    (hc : fldsApart coilFlds fl = true) : fieldOf (returnPort q s).regs fl p = fieldOf s.regs fl p := by
  unfold returnPort
  split
  · rw [fieldOf_refreshPort_other hq _ hr, fieldOf_energiseBoth_other hq _ hr hc]
  · rfl

theorem returnOk_iff {s u : State} (h : ShroudStands s u) (p : Nat) :
    (u.b Fl.SFY_PSTAT_POSCL p && u.b Fl.SFY_PSTAT_NEGCL p && u.mayClose p) = true ↔
      s.f Fl.SFY_PSTAT_POSCL p = 1 ∧ s.f Fl.SFY_PSTAT_NEGCL p = 1 ∧ s.mayClose p = true := by
  have ho : ∀ fl : Fld, fl.width = 1 → (s.b fl p = true ↔ s.f fl p = 1) := fun fl hw =>
    (b_eq_iff true hw).trans eq_comm
  rw [b_of_field (h.fields _ _ (by decide)), b_of_field (h.fields _ _ (by decide)), mayClose_congr h]
  simp only [Bool.and_eq_true, ho Fl.SFY_PSTAT_POSCL rfl, ho Fl.SFY_PSTAT_NEGCL rfl, and_assoc]

theorem return_shows (s : State) {p : Nat} (hp : p < 24) : Effect .shroudReturn s fun u =>
    if s.f Fl.SFY_PSTAT_POSCL p = 1 ∧ s.f Fl.SFY_PSTAT_NEGCL p = 1 ∧ s.mayClose p = true then
      u.f Fl.SFY_PSTAT_POSCMD p = 1 ∧ u.f Fl.SFY_PSTAT_NEGCMD p = 1
    else u.f Fl.SFY_PSTAT_POSCMD p = s.f Fl.SFY_PSTAT_POSCMD p := by
  have h0 : ShroudStands s s := ⟨.refl _ s, rfl, rfl, rfl⟩
  refine effect_done (show exec .shroudReturn s = done (s.each 24 returnPort) from rfl) ?_
  split
  · next hok =>
    refine State.each_once (R := ShroudStands s) (Q := fun u => u.f Fl.SFY_PSTAT_POSCMD p = 1 ∧
      u.f Fl.SFY_PSTAT_NEGCMD p = 1) hp (fun j u _ hu => returnPort_stands hu j) (fun j u hj hu => ?_) (fun u hu =>
        ?_) h0
    · rw [f_of_field (fieldOf_returnPort_other hj u rfl (by decide)),
        f_of_field (fieldOf_returnPort_other hj u rfl (by decide))]
      exact hu
    · obtain ⟨hpos, hneg⟩ := energiseBoth_cmds (p := p) (by omega) u
      rw [returnPort, if_pos ((returnOk_iff hu p).mpr hok), State.f_fieldOf, State.f_fieldOf,
        fieldOf_refreshPort _ _ _ (by decide), fieldOf_refreshPort _ _ _ (by decide)]
      exact ⟨hpos, hneg⟩
  · next hok =>
    refine State.each_once (R := fun u => ShroudStands s u ∧ u.f Fl.SFY_PSTAT_POSCMD p = s.f Fl.SFY_PSTAT_POSCMD p)
      (Q := fun u => u.f Fl.SFY_PSTAT_POSCMD p = s.f Fl.SFY_PSTAT_POSCMD p) hp
      (fun j u hj hu => ⟨returnPort_stands hu.1 j, ?_⟩) (fun j u hj hu => ?_) (fun u hu => ?_) ⟨h0, rfl⟩
    · rw [f_of_field (fieldOf_returnPort_other hj u rfl (by decide)), hu.2]
    · rw [f_of_field (fieldOf_returnPort_other hj u rfl (by decide)), hu]
    · rw [returnPort, if_neg fun hc => hok ((returnOk_iff hu.1 p).mp hc), hu.2]

/-! ### The release of the standby coils -/

/-- The standby coils of port `p` fall under the release rule. -/
def standbyFalls (p : Nat) (s : State) : State :=
  if s.b Fl.SFY_PSTAT_STANDBY p then releaseDue p false (demandPort 2 false p s) else s

theorem fieldOf_polesOff_other {fl : Fld} {p q : Nat} (hq : q ≠ p) (s : State) (hr : fl.reg = R.SFY_PSTAT)
    (hc : fldsApart coilFlds fl = true) : fieldOf (polesOff q s).regs fl p = fieldOf s.regs fl p := by
  unfold polesOff State.setB
  dsimp only
  rw [fieldOf_setF_index _ _ _ _ hq hr, fieldOf_setF_index _ _ _ _ hq hr, fieldOf_setF_index _ _ _ _ hq hr,
    fieldOf_coilOff _ _ _ hc, fieldOf_coilOff _ _ _ hc]

theorem polesOff_sfy (p : Nat) (s : State) : (polesOff p s).sfy = s.sfy := by
  simp only [polesOff, State.setB, State.setF_sfy, coilOff_sfy]

theorem fieldOf_releasePoles_other {fl : Fld} {p q : Nat} (hq : q ≠ p) (s : State) (hr : fl.reg = R.SFY_PSTAT)
    (hc : fldsApart coilFlds fl = true) : fieldOf (releasePoles q s).regs fl p = fieldOf s.regs fl p := by
  rw [releasePoles_eq, fieldOf_refreshPort_other hq _ hr]
  exact fieldOf_polesOff_other hq s hr hc

theorem sp_releasePoles_other {p q : Nat} (hq : q ≠ p) (s : State) : (releasePoles q s).sp p = s.sp p := by
  rw [releasePoles_eq, sp_of_sfy (refreshPort_sfy _ _), sp_setSp_other hq, sp_of_sfy (polesOff_sfy _ _)]

theorem fieldOf_releaseDue_other {fl : Fld} {p q : Nat} (hq : q ≠ p) (e : Bool) (s : State) (hr : fl.reg = R.SFY_PSTAT)
    (hc : fldsApart coilFlds fl = true) : fieldOf (releaseDue q e s).regs fl p = fieldOf s.regs fl p := by
  unfold releaseDue
  split
  · exact fieldOf_releasePoles_other hq s hr hc
  · rfl

theorem sp_releaseDue_other {p q : Nat} (hq : q ≠ p) (e : Bool) (s : State) : (releaseDue q e s).sp p = s.sp p := by
  unfold releaseDue
  split
  · exact sp_releasePoles_other hq s
  · rfl

theorem fieldOf_standbyFalls_other {fl : Fld} {p q : Nat} (hq : q ≠ p) (s : State) (hr : fl.reg = R.SFY_PSTAT)
    (hc : fldsApart coilFlds fl = true) : fieldOf (standbyFalls q s).regs fl p = fieldOf s.regs fl p := by
  unfold standbyFalls
  split
  · rw [fieldOf_releaseDue_other hq _ _ hr hc, fieldOf_demandPort_other hq _ _ _ hr]
  · rfl

theorem sp_standbyFalls_other {p q : Nat} (hq : q ≠ p) (s : State) : (standbyFalls q s).sp p = s.sp p := by
  unfold standbyFalls
  split
  · rw [sp_releaseDue_other hq, sp_demandPort_other hq]
  · rfl

/-- Everything but the port groups' data. -/
def butPrt : Part := { besideMemory with prt := false, mem := true, pending := true }

theorem demandPort_prt (trel : Nat) (stop : Bool) (p : Nat) (s : State) : (demandPort trel stop p s).prt = s.prt :=
  State.prt_of_without (A := butPrt) (demandPort_writes rfl rfl trel stop p s) rfl

theorem standbyFalls_prt (p : Nat) (s : State) : (standbyFalls p s).prt = s.prt := by
  unfold standbyFalls
  split
  · exact (State.prt_of_without (A := butPrt) (releaseDue_writes rfl rfl rfl p false _) rfl).trans (demandPort_prt ..)
  · rfl

theorem portCurrent_guest {s t : State} {h : Nat} (hp : t.prt = s.prt) :
    t.portCurrent (24 + h) = s.portCurrent (24 + h) := by
  rw [State.portCurrent, State.portCurrent, if_neg (by omega), if_neg (by omega), hp]

theorem standby_falls {s : State} {h : Nat} (hh : h < 24) (hs : s.f Fl.SFY_PSTAT_STANDBY (24 + h) = 1) :
    Effect .standbyCoilsRelease s fun u =>
      if (s.sp (24 + h)).holdFull = false ∧ (s.portCurrent (24 + h)).natAbs < 5000 then
        u.f Fl.SFY_PSTAT_STANDBY (24 + h) = 0 ∧ u.f Fl.SFY_PSTAT_POSCMD (24 + h) = 0 ∧
          u.f Fl.SFY_PSTAT_NEGCMD (24 + h) = 0
      else Demanded (24 + h) 2 s u := by
  have hlt : 24 + h < 48 := by omega
  refine effect_done (show exec .standbyCoilsRelease s = done (s.each 24 fun h => standbyFalls (24 + h)) from rfl) ?_
  refine State.each_once (R := fun u => u.sp (24 + h) = s.sp (24 + h) ∧ u.prt = s.prt ∧
      fieldOf u.regs Fl.SFY_PSTAT_STANDBY (24 + h) = 1)
    (Q := fun u => if (s.sp (24 + h)).holdFull = false ∧ (s.portCurrent (24 + h)).natAbs < 5000 then
        u.f Fl.SFY_PSTAT_STANDBY (24 + h) = 0 ∧ u.f Fl.SFY_PSTAT_POSCMD (24 + h) = 0 ∧
          u.f Fl.SFY_PSTAT_NEGCMD (24 + h) = 0
      else Demanded (24 + h) 2 s u) hh (fun j u hj hu => ?_) (fun j u hj hu => ?_) (fun u hu => ?_) ⟨rfl, rfl, hs⟩
  · have hne : 24 + j ≠ 24 + h := by omega
    exact ⟨(sp_standbyFalls_other hne u).trans hu.1, (standbyFalls_prt _ u).trans hu.2.1,
      (fieldOf_standbyFalls_other hne u rfl (by decide)).trans hu.2.2⟩
  · have hne : 24 + j ≠ 24 + h := by omega
    split at hu
    · rw [if_pos (by assumption), f_of_field (fieldOf_standbyFalls_other hne u rfl (by decide)),
        f_of_field (fieldOf_standbyFalls_other hne u rfl (by decide)),
        f_of_field (fieldOf_standbyFalls_other hne u rfl (by decide))]
      exact hu
    · rw [if_neg (by assumption)]
      exact ⟨(fieldOf_standbyFalls_other hne u rfl (by decide)).trans hu.reef, by
        rw [sp_standbyFalls_other hne, hu.release]⟩
  · obtain ⟨hsp, hprt, hstb⟩ := hu
    have hd := demandPort_demands hlt 2 false u
    have hfull : ((demandPort 2 false (24 + h) u).sp (24 + h)).holdFull = (s.sp (24 + h)).holdFull := by
      rw [demandPort_release hlt, hsp]
    have hcur : (demandPort 2 false (24 + h) u).portCurrent (24 + h) = s.portCurrent (24 + h) :=
      portCurrent_guest ((demandPort_prt ..).trans hprt)
    have hstb' : u.b Fl.SFY_PSTAT_STANDBY (24 + h) = true := b_true hstb
    rw [standbyFalls, if_pos hstb']
    split
    · next hc =>
      rw [release_acts ⟨hd.isSome, .inr (by rw [hfull, hcur]; exact hc)⟩]
      obtain ⟨⟨h1, h2, h3⟩, -, -⟩ := releasePoles_releases hlt (demandPort 2 false (24 + h) u)
      exact ⟨h3, h1, h2⟩
    · next hc =>
      rw [release_waits]
      · exact ⟨hd.reef, hd.release.trans (by rw [hsp])⟩
      · rintro ⟨-, he | he⟩
        · exact absurd he (by decide)
        · rw [hfull, hcur] at he
          exact hc he

end Sys2Proof.Machine

/-! ## The supply VAUX of the outputs and the loss of ground (R453, R495) -/

namespace Sys2Proof.Machine

set_option Elab.async false

theorem fieldOf_lswCause {fl : Fld} (j i : Nat) (s : State) (h : Fl.LSW_STAT_CAUSE.apart fl = true)
    (hp : Fl.EVT_PEND_PEND.apart fl = true) : fieldOf (lswCause j s).regs fl i = fieldOf s.regs fl i :=
  fieldOf_causeOn _ _ _ _ _ _ _ _ h hp

theorem lswCause_shows (j : Nat) (hj : j < 8) (s : State) :
    bitOf (fieldOf (lswCause j s).regs Fl.LSW_STAT_CAUSE 0) j = true :=
  bitOf_causeOn _ _ _ _ _ _ (by decide) (by decide) hj (by decide)

/-! ### Channels that follow the supply -/

theorem fieldOf_chUpdate_other {fl : Fld} {n m : Nat} (h : m ≠ n) (s : State) (hr : fl.reg = R.LSW_CHSTAT) :
    fieldOf (chUpdate m s).regs fl n = fieldOf s.regs fl n := by
  have hset : ∀ (u : State) v, fieldOf (u.setF Fl.LSW_CHSTAT_STATE m v).regs fl n = fieldOf u.regs fl n :=
    fun u v => fieldOf_setF_index u _ _ _ h hr
  have hon : ∀ u : State, fieldOf (chTurnOn m u).regs fl n = fieldOf u.regs fl n := fun u => hset _ _
  have hoff : ∀ u : State, fieldOf (chTurnOff m u).regs fl n = fieldOf u.regs fl n := fun u => hset _ _
  unfold chUpdate
  dsimp only
  split
  · exact fieldOf_when hon _ _
  · exact fieldOf_when hoff _ _
  · exact fieldOf_when hoff _ _
  · exact fieldOf_when (fun u => hset u _) _ _
  · exact fieldOf_when (fun u => hset u _) _ _
  · rfl

theorem fieldOf_chUpdate {fl : Fld} (n i : Nat) (s : State)
    (h : (!regsIn [R.LSW_CHSTAT] fl.reg.addr && decide (fl.reg.count ≤ 65536)) = true) :
    fieldOf (chUpdate n s).regs fl i = fieldOf s.regs fl i :=
  fieldOf_onlyRegs (chUpdate_writes (by decide) rfl n s) i h

theorem supplyOk_chUpdate (n : Nat) (s : State) : (chUpdate n s).supplyOk = s.supplyOk :=
  supplyOk_congr (regOf_onlyRegs (l := [R.LSW_CHSTAT]) (chUpdate_writes (by decide) rfl n s) 0 (by decide))

/-- Without supply a channel that is on turns off. -/
theorem chUpdate_unsupplied {n : Nat} (hn : n < 16) {s : State} (hk : s.supplyOk = false)
    (h : fieldOf s.regs Fl.LSW_CHSTAT_STATE n = 1 ∨ fieldOf s.regs Fl.LSW_CHSTAT_STATE n = 2) :
    fieldOf (chUpdate n s).regs Fl.LSW_CHSTAT_STATE n = 3 := by
  have he : chUpdate n s = chTurnOff n s := by
    rcases h with h | h <;> simp [chUpdate, State.f_fieldOf, h, hk, State.when]
  rw [he]
  exact (chTurnOff_state hn s).1

theorem channelsFollow_off {s : State} (hk : s.supplyOk = false) {n : Nat} (hn : n < 16)
    (h : fieldOf s.regs Fl.LSW_CHSTAT_STATE n = 1 ∨ fieldOf s.regs Fl.LSW_CHSTAT_STATE n = 2) :
    fieldOf (channelsFollow s).regs Fl.LSW_CHSTAT_STATE n = 3 :=
  State.each_once (R := fun u => u.supplyOk = false ∧
      fieldOf u.regs Fl.LSW_CHSTAT_STATE n = fieldOf s.regs Fl.LSW_CHSTAT_STATE n)
    (Q := fun u => fieldOf u.regs Fl.LSW_CHSTAT_STATE n = 3) hn
    (fun m u hm hu => ⟨(supplyOk_chUpdate m u).trans hu.1, (fieldOf_chUpdate_other hm u rfl).trans hu.2⟩)
    (fun m u hm hu => (fieldOf_chUpdate_other hm u rfl).trans hu)
    (fun u hu => chUpdate_unsupplied hn hu.1 (by rw [hu.2]; exact h)) ⟨hk, rfl⟩

theorem fieldOf_channelsFollow {fl : Fld} (i : Nat) (s : State)
    (h : (!regsIn [R.LSW_CHSTAT] fl.reg.addr && decide (fl.reg.count ≤ 65536)) = true) :
    fieldOf (channelsFollow s).regs fl i = fieldOf s.regs fl i :=
  fieldOf_onlyRegs (channelsFollow_writes (by decide) rfl s) i h

theorem reg_channelsFollow {r : Rg} (i : Nat) (s : State)
    (h : (!regsIn [R.LSW_CHSTAT] r.addr && decide (r.count ≤ 65536)) = true) :
    (channelsFollow s).reg r i = s.reg r i :=
  regOf_onlyRegs (channelsFollow_writes (by decide) rfl s) i h

theorem supplyOk_channelsFollow (s : State) : (channelsFollow s).supplyOk = s.supplyOk :=
  supplyOk_congr (regOf_onlyRegs (l := [R.LSW_CHSTAT]) (channelsFollow_writes (by decide) rfl s) 0 (by decide))

theorem chWanted_congr {s t : State} {n : Nat} (h1 : fieldOf t.regs Fl.LSW_CHSTAT_PROG n = fieldOf s.regs
  Fl.LSW_CHSTAT_PROG n)
    (h2 : fieldOf t.regs Fl.LSW_CHSTAT_FORCE n = fieldOf s.regs Fl.LSW_CHSTAT_FORCE n)
    (h3 : fieldOf t.regs Fl.LSW_CHSTAT_BLEED n = fieldOf s.regs Fl.LSW_CHSTAT_BLEED n) : t.chWanted n = s.chWanted n
      := by
  rw [chWanted_eq, chWanted_eq, h1, h2, h3]

/-- With supply a wanted channel that is off turns on. -/
theorem channelsFollow_on {s : State} (hk : s.supplyOk = true) {n : Nat} (hn : n < 16)
    (h : fieldOf s.regs Fl.LSW_CHSTAT_STATE n = 0) (hw : s.chWanted n = true) :
    fieldOf (channelsFollow s).regs Fl.LSW_CHSTAT_STATE n = if s.f Fl.LSW_CHCFG_TINRUSH n = 0 then 1 else 2 := by
  refine State.each_once (R := fun u => u.supplyOk = true ∧ fieldOf u.regs Fl.LSW_CHSTAT_STATE n = 0 ∧
      u.chWanted n = true ∧ u.f Fl.LSW_CHCFG_TINRUSH n = s.f Fl.LSW_CHCFG_TINRUSH n)
    (Q := fun u => fieldOf u.regs Fl.LSW_CHSTAT_STATE n = if s.f Fl.LSW_CHCFG_TINRUSH n = 0 then 1 else 2) hn
    (fun m u hm hu => ⟨(supplyOk_chUpdate m u).trans hu.1, (fieldOf_chUpdate_other hm u rfl).trans hu.2.1, ?_, ?_⟩)
    (fun m u hm hu => (fieldOf_chUpdate_other hm u rfl).trans hu) (fun u hu => ?_) ⟨hk, h, hw, rfl⟩
  · exact (chWanted_congr (fieldOf_chUpdate_other hm u rfl) (fieldOf_chUpdate_other hm u rfl)
      (fieldOf_chUpdate_other hm u rfl)).trans hu.2.2.1
  · exact (f_of_field (fieldOf_chUpdate m n u (by decide))).trans hu.2.2.2
  · obtain ⟨h1, h2, h3, h4⟩ := hu
    rw [chUpdate_on h2 h3 h1, (chTurnOn_state hn u).1, h4]

/-! ### The coils lose their supply (R453) -/

/-- All coils are off and no pole is commanded. -/
def CoilsOff (u : State) : Prop := ∀ n, n < 48 → fieldOf u.regs Fl.SFY_COIL_ON n = 0 ∧
  fieldOf u.regs Fl.SFY_PSTAT_POSCMD n = 0 ∧ fieldOf u.regs Fl.SFY_PSTAT_NEGCMD n = 0

/-- Port `p` is withdrawn. -/
def portWithdrawn (p : Nat) (s : State) : State :=
  s.setB Fl.SFY_PSTAT_POSCMD p false |>.setB Fl.SFY_PSTAT_NEGCMD p false
    |>.setB Fl.SFY_PSTAT_STANDBY p false |>.setSp p fun x => { x with release := none }

theorem portWithdrawn_cmds {p : Nat} (hp : p < 48) (s : State) :
    fieldOf (portWithdrawn p s).regs Fl.SFY_PSTAT_POSCMD p = 0 ∧
      fieldOf (portWithdrawn p s).regs Fl.SFY_PSTAT_NEGCMD p = 0 := by
  have hlt : p < R.SFY_PSTAT.count := lt_of_lt_of_le hp (by decide)
  constructor
  · refine (fieldOf_setB_apart _ Fl.SFY_PSTAT_STANDBY _ _ _ _ (by decide)).trans
      ((fieldOf_setB_apart _ Fl.SFY_PSTAT_NEGCMD _ _ _ _ (by decide)).trans ?_)
    exact fieldOf_setB_same s _ _ _ hlt (by decide) (by decide)
  · refine (fieldOf_setB_apart _ Fl.SFY_PSTAT_STANDBY _ _ _ _ (by decide)).trans ?_
    exact fieldOf_setB_same _ _ _ _ hlt (by decide) (by decide)

theorem fieldOf_portWithdrawn_other {fl : Fld} {p q : Nat} (h : q ≠ p) (s : State) (hr : fl.reg = R.SFY_PSTAT) :
    fieldOf (portWithdrawn q s).regs fl p = fieldOf s.regs fl p :=
  (fieldOf_setF_index _ Fl.SFY_PSTAT_STANDBY fl _ h hr).trans
    ((fieldOf_setF_index _ Fl.SFY_PSTAT_NEGCMD fl _ h hr).trans (fieldOf_setF_index s Fl.SFY_PSTAT_POSCMD fl _ h hr))

/-- The state with the loss of VAUX noted or not. -/
def State.withVauxLost (v : Bool) (s : State) : State := { s with sfy.vauxLost := v }

theorem withVauxLost_shows (v : Bool) (s : State) : (s.withVauxLost v).sfy.vauxLost = v ∧
    (s.withVauxLost v).regs = s.regs := ⟨rfl, rfl⟩

theorem coilsLost_eq (s : State) :
    coilsLost s = ((s.each 48 coilOff).each 48 portWithdrawn).withVauxLost true := rfl

theorem coilsAllOff {n : Nat} (hn : n < 48) (s : State) : fieldOf (s.each 48 coilOff).regs Fl.SFY_COIL_ON n = 0 :=
  State.each_establish (P := fun _ => True) (Q := fun u => fieldOf u.regs Fl.SFY_COIL_ON n = 0) hn
    (fun _ _ _ => trivial) (fun m _ hu => coilOff_keeps m hu) (fun u _ => coilOff_off hn u) trivial

theorem portsWithdrawn_cmds {n : Nat} (hn : n < 48) (s : State) :
    fieldOf (s.each 48 portWithdrawn).regs Fl.SFY_PSTAT_POSCMD n = 0 ∧
      fieldOf (s.each 48 portWithdrawn).regs Fl.SFY_PSTAT_NEGCMD n = 0 :=
  State.each_once (R := fun _ => True) (Q := fun u => fieldOf u.regs Fl.SFY_PSTAT_POSCMD n = 0 ∧
    fieldOf u.regs Fl.SFY_PSTAT_NEGCMD n = 0) hn (fun _ _ _ _ => trivial)
    (fun m u hm hu => by
      rw [fieldOf_portWithdrawn_other hm u rfl, fieldOf_portWithdrawn_other hm u rfl]
      exact hu)
    (fun u _ => portWithdrawn_cmds hn u) trivial

theorem portWithdrawn_coil (p n : Nat) (s : State) :
    fieldOf (portWithdrawn p s).regs Fl.SFY_COIL_ON n = fieldOf s.regs Fl.SFY_COIL_ON n :=
  (fieldOf_setB_apart _ Fl.SFY_PSTAT_STANDBY _ _ _ _ (by decide)).trans
    ((fieldOf_setB_apart _ Fl.SFY_PSTAT_NEGCMD _ _ _ _ (by decide)).trans
      (fieldOf_setB_apart s Fl.SFY_PSTAT_POSCMD _ _ _ _ (by decide)))

theorem portsWithdrawn_coil (n : Nat) (s : State) :
    fieldOf (s.each 48 portWithdrawn).regs Fl.SFY_COIL_ON n = fieldOf s.regs Fl.SFY_COIL_ON n :=
  State.each_induct (P := fun u => fieldOf u.regs Fl.SFY_COIL_ON n = fieldOf s.regs Fl.SFY_COIL_ON n)
    (fun m u hu => (portWithdrawn_coil m n u).trans hu) rfl 48

theorem coilsLost_off (s : State) : CoilsOff (coilsLost s) ∧ (coilsLost s).sfy.vauxLost = true := by
  obtain ⟨hv, hr⟩ := withVauxLost_shows true ((s.each 48 coilOff).each 48 portWithdrawn)
  rw [coilsLost_eq]
  refine ⟨fun n hn => ?_, hv⟩
  rw [hr, portsWithdrawn_coil]
  exact ⟨coilsAllOff hn s, portsWithdrawn_cmds hn _⟩

theorem fieldOf_coilsLost {fl : Fld} (i : Nat) (s : State)
    (h : (!regsIn [R.SFY_COIL, R.SFY_PSTAT] fl.reg.addr && decide (fl.reg.count ≤ 65536)) = true) :
    fieldOf (coilsLost s).regs fl i = fieldOf s.regs fl i :=
  fieldOf_onlyRegs (coilsLost_writes (by decide) (by decide) rfl s) i h

/-! ### A condition of the supply (R495) -/

/-- The channels and the cause 5 follow a condition of the supply. -/
def supplyLost (s : State) : State := lswCause 5 (channelsFollow s)

theorem fieldOf_supplyLost {fl : Fld} (i : Nat) (s : State)
    (h : (!regsIn [R.LSW_CHSTAT, R.LSW_STAT, R.EVT_PEND] fl.reg.addr && decide (fl.reg.count ≤ 65536)) = true) :
    fieldOf (supplyLost s).regs fl i = fieldOf s.regs fl i :=
  (fieldOf_onlyRegs (lswCause_writes (by decide) (by decide) 5 _) i h).trans
    (fieldOf_onlyRegs (channelsFollow_writes (by decide) rfl s) i h)

theorem supplyLost_shows {s : State} (hk : s.supplyOk = false) :
    bitOf (fieldOf (supplyLost s).regs Fl.LSW_STAT_CAUSE 0) 5 = true ∧ ∀ n, n < 16 →
      fieldOf s.regs Fl.LSW_CHSTAT_STATE n = 1 ∨ fieldOf s.regs Fl.LSW_CHSTAT_STATE n = 2 →
      fieldOf (supplyLost s).regs Fl.LSW_CHSTAT_STATE n = 3 :=
  ⟨lswCause_shows 5 (by decide) _, fun n hn h =>
    (fieldOf_lswCause 5 n _ (by decide) (by decide)).trans (channelsFollow_off hk hn h)⟩

theorem reg_supplyLost_coil (n : Nat) (s : State) : regOf (supplyLost s).regs R.SFY_COIL n = regOf s.regs R.SFY_COIL n
  :=
  (regOf_causeOn _ _ _ _ _ _ _ _ (by decide) (by decide)).trans (reg_channelsFollow n s (by decide))

/-- A flag of the supply is set and VAUX is not good. -/
def supplyFlag (fl : Fld) (s : State) : State := s.setB fl 0 true |>.setB Fl.SYS_SUPSTAT_VAUX_OK 0 false

/-- The flags that stop the outputs. -/
def supplyFlags : List Fld := [Fl.LSW_SUP_UV, Fl.LSW_SUP_OV, Fl.LSW_SUP_REV, Fl.LSW_SUP_GND]

theorem supplyFlag_shows {fl : Fld} (h : fl ∈ supplyFlags) (s : State) : fieldOf (supplyFlag fl s).regs fl 0 = 1 ∧
    fieldOf (supplyFlag fl s).regs Fl.SYS_SUPSTAT_VAUX_OK 0 = 0 ∧ (supplyFlag fl s).supplyOk = false ∧
    (∀ n, fieldOf (supplyFlag fl s).regs Fl.LSW_CHSTAT_STATE n = fieldOf s.regs Fl.LSW_CHSTAT_STATE n) ∧
    ∀ n, regOf (supplyFlag fl s).regs R.SFY_COIL n = regOf s.regs R.SFY_COIL n := by
  have hset : fieldOf (supplyFlag fl s).regs fl 0 = 1 := by
    fin_cases h <;>
    exact (fieldOf_setB_apart _ Fl.SYS_SUPSTAT_VAUX_OK _ _ _ _ (by decide)).trans
      (fieldOf_setB_same s _ _ _ (by decide) (by decide) (by decide))
  refine ⟨hset, fieldOf_setB_same _ _ _ _ (by decide) (by decide) (by decide), ?_, fun n => ?_, fun n => ?_⟩
  · have hb : (supplyFlag fl s).b fl 0 = true := b_one hset
    fin_cases h <;> simp only [State.supplyOk, hb, Bool.or_true, Bool.true_or, Bool.not_true]
  · fin_cases h <;>
    exact (fieldOf_setB_apart _ Fl.SYS_SUPSTAT_VAUX_OK _ _ _ _ (by decide)).trans
      (fieldOf_setB_apart s _ _ _ _ _ (by decide))
  · fin_cases h <;>
    exact (regOf_setF_apart _ Fl.SYS_SUPSTAT_VAUX_OK _ _ _ _ (by decide)).trans
      (regOf_setF_apart s _ _ _ _ _ (by decide))

/-- A condition of the supply: its flag and cause, the channels turn off, the coils stand. -/
structure SupplyStops (fl : Fld) (s u : State) : Prop where
  flag : fieldOf u.regs fl 0 = 1
  cause : bitOf (fieldOf u.regs Fl.LSW_STAT_CAUSE 0) 5 = true
  off : ∀ n, n < 16 → s.f Fl.LSW_CHSTAT_STATE n = 1 ∨ s.f Fl.LSW_CHSTAT_STATE n = 2 → u.f Fl.LSW_CHSTAT_STATE n = 3
  vaux : fieldOf u.regs Fl.SYS_SUPSTAT_VAUX_OK 0 = 0

theorem supplyStops_of {fl : Fld} (h : fl ∈ supplyFlags) (s : State) : SupplyStops fl s (supplyLost (supplyFlag fl s)) ∧
    ∀ n, regOf (supplyLost (supplyFlag fl s)).regs R.SFY_COIL n = regOf s.regs R.SFY_COIL n := by
  obtain ⟨h1, h2, h3, h4, h5⟩ := supplyFlag_shows h s
  obtain ⟨h6, h7⟩ := supplyLost_shows h3
  refine ⟨⟨?_, h6, fun n hn hs => h7 n hn (by rw [h4]; exact hs), ?_⟩, fun n => (reg_supplyLost_coil n _).trans (h5 n)⟩
  · refine (fieldOf_supplyLost _ _ ?_).trans h1
    fin_cases h <;> decide
  · exact (fieldOf_supplyLost _ _ (by decide)).trans h2

theorem SupplyStops.coilsLost {fl : Fld} (h : fl ∈ supplyFlags) {s u : State} (hu : SupplyStops fl s u) :
    SupplyStops fl s (coilsLost u) := by
  obtain ⟨h1, h2, h3, h4⟩ := hu
  refine ⟨?_, ?_, fun n hn hs => ?_, (fieldOf_coilsLost _ _ (by decide)).trans h4⟩
  · refine (fieldOf_coilsLost _ _ ?_).trans h1
    fin_cases h <;> decide
  · rw [fieldOf_coilsLost _ _ (by decide)]
    exact h2
  · exact (f_of_field (fieldOf_coilsLost _ _ (by decide))).trans (h3 n hn hs)

/-! ### Undervoltage, overvoltage, reverse supply and loss of ground -/

/-- The voltage of VAUX is shown. -/
def vauxShown (mv : Nat) (s : State) : State := s.setF Fl.LSW_SUP_VAUX 0 (mv / 10)

theorem fieldOf_vauxShown {fl : Fld} (mv i : Nat) (s : State) (h : Fl.LSW_SUP_VAUX.apart fl = true) :
    fieldOf (vauxShown mv s).regs fl i = fieldOf s.regs fl i := fieldOf_setF_apart s _ _ _ _ _ h

theorem supplyOk_vauxShown (mv : Nat) (s : State) : (vauxShown mv s).supplyOk = s.supplyOk := by
  unfold State.supplyOk
  rw [b_of_field (fieldOf_vauxShown mv 0 s (by decide)), b_of_field (fieldOf_vauxShown mv 0 s (by decide)),
    b_of_field (fieldOf_vauxShown mv 0 s (by decide)), b_of_field (fieldOf_vauxShown mv 0 s (by decide))]

theorem SupplyStops.of_shown {fl : Fld} {mv : Nat} {s u : State} (h : SupplyStops fl (vauxShown mv s) u) :
    SupplyStops fl s u :=
  ⟨h.flag, h.cause, fun n hn hs => h.off n hn (by
    rw [f_of_field (fieldOf_vauxShown mv n s (by decide))]
    exact hs), h.vaux⟩

/-- The state as VAUX falls below 14.0 V. -/
def vauxLow (mv : Nat) (s : State) : State := supplyLost (supplyFlag Fl.LSW_SUP_UV (vauxShown mv s))

theorem vauxLow_stops (mv : Nat) (s : State) : SupplyStops Fl.LSW_SUP_UV s (vauxLow mv s) ∧
    ∀ n, regOf (vauxLow mv s).regs R.SFY_COIL n = regOf s.regs R.SFY_COIL n := by
  obtain ⟨hs, hc⟩ := supplyStops_of (fl := Fl.LSW_SUP_UV) (by simp [supplyFlags]) (vauxShown mv s)
  exact ⟨hs.of_shown, fun n => (hc n).trans (regOf_setF_apart s _ _ _ _ _ (by decide))⟩

theorem vauxUnder_eq {mv : Nat} {s : State} (h : mv < 14000) :
    vauxUnder mv s = (vauxLow mv s).when (mv < 12000) coilsLost := by
  unfold vauxUnder
  exact if_neg (by omega)

/-- Undervoltage as its command shows it. -/
def UnderLost (mv : Nat) (s u : State) : Prop :=
  u.f Fl.LSW_SUP_UV = 1 ∧ bitOf (u.f Fl.LSW_STAT_CAUSE) 5 = true ∧
    (∀ n, n < 16 → s.f Fl.LSW_CHSTAT_STATE n = 1 ∨ s.f Fl.LSW_CHSTAT_STATE n = 2 → u.f Fl.LSW_CHSTAT_STATE n = 3) ∧
    u.f Fl.SYS_SUPSTAT_VAUX_OK = 0 ∧ (mv < 12000 → CoilsOff u ∧ u.sfy.vauxLost = true) ∧
    (12000 ≤ mv → ∀ n, u.reg R.SFY_COIL n = s.reg R.SFY_COIL n)

theorem underLost_of {mv : Nat} {s u : State} (hs : SupplyStops Fl.LSW_SUP_UV s u)
    (hl : mv < 12000 → CoilsOff u ∧ u.sfy.vauxLost = true)
    (hc : 12000 ≤ mv → ∀ n, regOf u.regs R.SFY_COIL n = regOf s.regs R.SFY_COIL n) : UnderLost mv s u :=
  ⟨hs.flag, hs.cause, hs.off, hs.vaux, hl, hc⟩

theorem under_lost {mv : Nat} {s : State} (h : mv < 14000) :
    Effect (.vauxUndervoltage mv) s (UnderLost mv s) := by
  obtain ⟨hs, hc⟩ := vauxLow_stops mv s
  have he := vauxUnder_eq (s := s) h
  by_cases hlow : mv < 12000
  · rw [decide_eq_true hlow, State.when_true] at he
    exact effect_done (congrArg done he) (underLost_of (hs.coilsLost (by simp [supplyFlags]))
      (fun _ => coilsLost_off _) fun hx => absurd hx (by omega))
  · rw [decide_eq_false hlow, State.when_false] at he
    exact effect_done (congrArg done he) (underLost_of hs (fun hx => absurd hx hlow) fun _ => hc)

theorem under_good {mv : Nat} {s : State} (h : 14000 ≤ mv) : Effect (.vauxUndervoltage mv) s fun u =>
    u.f Fl.LSW_SUP_UV = s.f Fl.LSW_SUP_UV ∧ u.f Fl.LSW_SUP_VAUX = mv / 10 % 65536 :=
  effect_done (congrArg done (if_pos h)) ⟨f_of_field (fieldOf_vauxShown mv 0 s (by decide)),
    fieldOf_setF_same s _ _ _ (by decide) (by decide)⟩

theorem over_lost {mv : Nat} {s : State} (h : 36000 < mv) : Effect (.vauxOvervoltage mv) s fun u =>
    u.f Fl.LSW_SUP_OV = 1 ∧ bitOf (u.f Fl.LSW_STAT_CAUSE) 5 = true ∧
      (∀ n, n < 16 → s.f Fl.LSW_CHSTAT_STATE n = 1 ∨ s.f Fl.LSW_CHSTAT_STATE n = 2 → u.f Fl.LSW_CHSTAT_STATE n = 3) ∧
      ∀ n, u.reg R.SFY_COIL n = s.reg R.SFY_COIL n := by
  obtain ⟨⟨h1, h2, h3, -⟩, hc⟩ := supplyStops_of (fl := Fl.LSW_SUP_OV) (by simp [supplyFlags]) (vauxShown mv s)
  have hst : ∀ n, (vauxShown mv s).f Fl.LSW_CHSTAT_STATE n = s.f Fl.LSW_CHSTAT_STATE n := fun n =>
    f_of_field (fieldOf_vauxShown mv n s (by decide))
  exact effect_done (congrArg done (if_neg (by omega))) ⟨h1, h2, fun n hn hn' => h3 n hn (by rw [hst]; exact hn'),
    fun n => (hc n).trans (regOf_setF_apart s _ _ _ _ _ (by decide))⟩

theorem over_good {mv : Nat} {s : State} (h : mv ≤ 36000) : Effect (.vauxOvervoltage mv) s fun u =>
    u.f Fl.LSW_SUP_OV = s.f Fl.LSW_SUP_OV :=
  effect_done (congrArg done (if_pos h)) (f_of_field (fieldOf_vauxShown mv 0 s (by decide)))

theorem reverse_shows {s u : State} (he : exec .vauxReverse s = done u) (hs : SupplyStops Fl.LSW_SUP_REV s u)
    (hoff : CoilsOff u) : Effect .vauxReverse s fun u => u.f Fl.LSW_SUP_REV = 1 ∧ bitOf (u.f Fl.LSW_STAT_CAUSE) 5 =
      true ∧
      (∀ n, n < 16 → s.f Fl.LSW_CHSTAT_STATE n = 1 ∨ s.f Fl.LSW_CHSTAT_STATE n = 2 → u.f Fl.LSW_CHSTAT_STATE n = 3) ∧
      CoilsOff u := effect_done he ⟨hs.flag, hs.cause, hs.off, hoff⟩

theorem reverse_lost (s : State) : Effect .vauxReverse s fun u => u.f Fl.LSW_SUP_REV = 1 ∧
    bitOf (u.f Fl.LSW_STAT_CAUSE) 5 = true ∧
    (∀ n, n < 16 → s.f Fl.LSW_CHSTAT_STATE n = 1 ∨ s.f Fl.LSW_CHSTAT_STATE n = 2 → u.f Fl.LSW_CHSTAT_STATE n = 3) ∧
    CoilsOff u :=
  reverse_shows (u := coilsLost (supplyLost (supplyFlag Fl.LSW_SUP_REV s))) rfl
    ((supplyStops_of (by simp [supplyFlags]) s).1.coilsLost (by simp [supplyFlags])) (coilsLost_off _).1

theorem chLatch_state {n : Nat} (hn : n < 16) (flt : Nat) (hf : flt < 16) (s : State) :
    fieldOf (chLatch n flt s).regs Fl.LSW_CHSTAT_STATE n = 4 ∧ fieldOf (chLatch n flt s).regs Fl.LSW_CHSTAT_FLT n =
      flt := by
  have hlt : n < R.LSW_CHSTAT.count := lt_of_lt_of_le hn (by decide)
  constructor
  · refine (fieldOf_setF_apart _ Fl.LSW_CHI_I _ _ _ _ (by decide)).trans
      ((fieldOf_setF_apart _ Fl.LSW_CHSTAT_FLT _ _ _ _ (by decide)).trans ?_)
    exact fieldOf_setF_fits _ _ _ _ hlt (by decide) (by decide)
  · refine (fieldOf_setF_apart _ Fl.LSW_CHI_I _ _ _ _ (by decide)).trans ?_
    exact fieldOf_setF_fits _ _ _ _ hlt (by decide) (lt_of_lt_of_le hf (by decide))

theorem fieldOf_chLatch_other {fl : Fld} {n m : Nat} (h : m ≠ n) (flt : Nat) (s : State) (hr : fl.reg = R.LSW_CHSTAT)
    (hc : Fl.LSW_CHI_I.apart fl = true) : fieldOf (chLatch m flt s).regs fl n = fieldOf s.regs fl n :=
  (fieldOf_setF_apart _ Fl.LSW_CHI_I _ _ _ _ hc).trans ((fieldOf_setF_index _ Fl.LSW_CHSTAT_FLT fl _ h hr).trans
    (fieldOf_setF_index _ Fl.LSW_CHSTAT_STATE fl _ h hr))

theorem ground_lost (s : State) : Effect .groundLoss s fun u => u.f Fl.LSW_SUP_GND = 1 ∧
    bitOf (u.f Fl.LSW_STAT_CAUSE) 5 = true ∧ CoilsOff u ∧ ∀ n, n < 16 →
      u.f Fl.LSW_CHSTAT_STATE n = 4 ∧ u.f Fl.LSW_CHSTAT_FLT n = 4 := by
  let v := supplyFlag Fl.LSW_SUP_GND s
  have hv : fieldOf v.regs Fl.LSW_SUP_GND 0 = 1 := (supplyFlag_shows (by simp [supplyFlags]) s).1
  let w := v.each 16 fun n u => chLatch n 4 u
  have hgnd : fieldOf w.regs Fl.LSW_SUP_GND 0 = 1 :=
    State.each_induct (P := fun u => fieldOf u.regs Fl.LSW_SUP_GND 0 = 1) (fun n u hu =>
      (fieldOf_onlyRegs (l := [R.LSW_CHI, R.LSW_CHSTAT]) (chLatch_writes (by decide) (by decide) rfl n 4 u) 0
        (by decide)).trans hu) hv 16
  have hlatch : ∀ n, n < 16 → fieldOf w.regs Fl.LSW_CHSTAT_STATE n = 4 ∧ fieldOf w.regs Fl.LSW_CHSTAT_FLT n = 4 :=
    fun n hn => State.each_once (R := fun _ => True) (Q := fun u => fieldOf u.regs Fl.LSW_CHSTAT_STATE n = 4 ∧
      fieldOf u.regs Fl.LSW_CHSTAT_FLT n = 4) hn (fun _ _ _ _ => trivial) (fun m u hm hu => by
        rw [fieldOf_chLatch_other hm 4 u rfl (by decide), fieldOf_chLatch_other hm 4 u rfl (by decide)]
        exact hu) (fun u _ => chLatch_state hn 4 (by decide) u) trivial
  have he : groundLoss s = coilsLost (lswCause 5 w) := rfl
  clear_value w
  refine effect_done (congrArg done he) ⟨?_, ?_, (coilsLost_off _).1, fun n hn => ⟨?_, ?_⟩⟩
  · rw [State.f_fieldOf, fieldOf_coilsLost _ _ (by decide), fieldOf_lswCause _ _ _ (by decide) (by decide), hgnd]
  · rw [State.f_fieldOf, fieldOf_coilsLost _ _ (by decide)]
    exact lswCause_shows 5 (by decide) w
  · rw [State.f_fieldOf, fieldOf_coilsLost _ _ (by decide), fieldOf_lswCause _ _ _ (by decide) (by decide),
      (hlatch n hn).1]
  · rw [State.f_fieldOf, fieldOf_coilsLost _ _ (by decide), fieldOf_lswCause _ _ _ (by decide) (by decide),
      (hlatch n hn).2]

/-! ### The return of VAUX -/

/-- The flags of the supply are cleared; above 21.0 V the droop too. -/
def flagsCleared (mv : Nat) (s : State) : State :=
  s.setB Fl.LSW_SUP_UV 0 false |>.setB Fl.LSW_SUP_OV 0 false |>.setB Fl.LSW_SUP_REV 0 false
    |>.setB Fl.LSW_SUP_GND 0 false |>.when (21000 ≤ mv) (fun s => s.setB Fl.LSW_SUP_DROOP 0 false)

theorem fieldOf_flagsCleared {fl : Fld} (mv i : Nat) (s : State)
    (h : fldsApart (Fl.LSW_SUP_DROOP :: supplyFlags) fl = true) :
    fieldOf (flagsCleared mv s).regs fl i = fieldOf s.regs fl i := by
  have ha : ∀ a ∈ Fl.LSW_SUP_DROOP :: supplyFlags, a.apart fl = true := fun a hm => apart_of_mem h hm
  unfold flagsCleared
  rw [fieldOf_when (f := fun u => u.setB Fl.LSW_SUP_DROOP 0 false)
      (fun u => fieldOf_setB_apart u _ _ _ _ _ (ha _ (by simp [supplyFlags]))),
    fieldOf_setB_apart _ _ _ _ _ _ (ha _ (by simp [supplyFlags])),
    fieldOf_setB_apart _ _ _ _ _ _ (ha _ (by simp [supplyFlags])),
    fieldOf_setB_apart _ _ _ _ _ _ (ha _ (by simp [supplyFlags])),
    fieldOf_setB_apart _ _ _ _ _ _ (ha _ (by simp [supplyFlags]))]

theorem supplyOk_of_flags {s : State} (h : ∀ fl ∈ supplyFlags, fieldOf s.regs fl 0 = 0) : s.supplyOk = true := by
  have hb : ∀ fl ∈ supplyFlags, s.b fl 0 = false := fun fl hm => b_zero (h fl hm)
  rw [State.supplyOk, hb _ (by simp [supplyFlags]), hb _ (by simp [supplyFlags]), hb _ (by simp [supplyFlags]),
    hb _ (by simp [supplyFlags])]
  rfl

theorem flagsCleared_supply (mv : Nat) (s : State) : (flagsCleared mv s).supplyOk = true := by
  refine supplyOk_of_flags fun fl hm => ?_
  have hd : Fl.LSW_SUP_DROOP.apart fl = true := by fin_cases hm <;> decide
  unfold flagsCleared
  rw [fieldOf_when (f := fun u => u.setB Fl.LSW_SUP_DROOP 0 false) (fun u => fieldOf_setB_apart u _ _ _ _ _ hd)]
  fin_cases hm <;> simp (disch := decide) only [fieldOf_setB_apart, fieldOf_setB_same, b2n_false]

/-- VAUX is good again, from the present clock on. -/
def vauxGood (s : State) : State :=
  if s.b Fl.SYS_SUPSTAT_VAUX_OK then s
  else { s.setB Fl.SYS_SUPSTAT_VAUX_OK 0 true with sfy.vauxSince := s.tick }

theorem fieldOf_vauxGood {fl : Fld} (i : Nat) (s : State) (h : Fl.SYS_SUPSTAT_VAUX_OK.apart fl = true) :
    fieldOf (vauxGood s).regs fl i = fieldOf s.regs fl i := by
  unfold vauxGood
  split
  · rfl
  · exact fieldOf_setB_apart s _ _ _ _ _ h

theorem vauxGood_shows (s : State) : fieldOf (vauxGood s).regs Fl.SYS_SUPSTAT_VAUX_OK 0 = 1 := by
  unfold vauxGood
  split
  · next h =>
    rw [← State.f_fieldOf, bool_field _ _ _ rfl, h]
    rfl
  · exact fieldOf_setB_same s _ _ _ (by decide) (by decide) (by decide)

/-- The state as the channels resume their requests. -/
def supplyBack (first : Bool) (mv : Nat) (s : State) : State :=
  { vauxGood (flagsCleared mv ((vauxShown mv s).when first lswAllOff)) with sfy.vauxLost := false }

theorem supplyBack_supply (first : Bool) (mv : Nat) (s : State) : (supplyBack first mv s).supplyOk = true := by
  refine (?_ : _ = _).trans (flagsCleared_supply mv ((vauxShown mv s).when first lswAllOff))
  have hv : ∀ u : State, (vauxGood u).supplyOk = u.supplyOk := fun u => by
    unfold State.supplyOk
    rw [b_of_field (fieldOf_vauxGood 0 u (by decide)), b_of_field (fieldOf_vauxGood 0 u (by decide)),
      b_of_field (fieldOf_vauxGood 0 u (by decide)), b_of_field (fieldOf_vauxGood 0 u (by decide))]
  exact hv _

theorem supplyBack_vaux (first : Bool) (mv : Nat) (s : State) :
    fieldOf (supplyBack first mv s).regs Fl.SYS_SUPSTAT_VAUX_OK 0 = 1 := vauxGood_shows _

theorem fieldOf_supplyBack {fl : Fld} (mv i : Nat) (s : State)
    (h : fldsApart (Fl.SYS_SUPSTAT_VAUX_OK :: Fl.LSW_SUP_VAUX :: Fl.LSW_SUP_DROOP :: supplyFlags) fl = true) :
    fieldOf (supplyBack false mv s).regs fl i = fieldOf s.regs fl i := by
  refine (fieldOf_vauxGood i _ (apart_of_mem h (by simp))).trans ((fieldOf_flagsCleared mv i _ ?_).trans
    (fieldOf_vauxShown mv i s (apart_of_mem h (by simp))))
  exact List.all_eq_true.mpr fun a ha => apart_of_mem h (by simp [ha])

theorem vauxReturn_eq {mv : Nat} {s : State} (h1 : 16000 ≤ mv) (h2 : mv ≤ 34000) : vauxReturn mv s =
    channelsFollow (supplyBack ((vauxShown mv s).supplyOk && !(vauxShown mv s).b Fl.SYS_SUPSTAT_VAUX_OK) mv s) :=
  if_neg (by simp; omega)

theorem channelsFollow_sfy (s : State) : (channelsFollow s).sfy = s.sfy :=
  State.sfy_of_without (A := { besideMemory with sfy := false, mem := true, pending := true })
    (channelsFollow_writes rfl rfl s) rfl

theorem return_resumes {mv : Nat} {s : State} (h1 : 16000 ≤ mv) (h2 : mv ≤ 34000) : Effect (.vauxReturn mv) s fun u =>
    u.supplyOk = true ∧ u.f Fl.SYS_SUPSTAT_VAUX_OK = 1 ∧ u.sfy.vauxLost = false ∧
      (s.supplyOk = false ∨ s.f Fl.SYS_SUPSTAT_VAUX_OK = 1 → ∀ n, n < 16 → s.f Fl.LSW_CHSTAT_STATE n = 0 →
        s.chWanted n = true → u.f Fl.LSW_CHSTAT_STATE n = if s.f Fl.LSW_CHCFG_TINRUSH n = 0 then 1 else 2) := by
  have he := vauxReturn_eq (s := s) h1 h2
  rw [supplyOk_vauxShown, b_of_field (fieldOf_vauxShown mv 0 s (by decide))] at he
  refine effect_done (congrArg done he) ⟨?_, ?_, ?_, fun hs n hn h0 hw => ?_⟩
  · rw [supplyOk_channelsFollow, supplyBack_supply]
  · rw [State.f_fieldOf, fieldOf_channelsFollow _ _ (by decide), supplyBack_vaux]
  · rw [channelsFollow_sfy]
    rfl
  · have hfirst : (s.supplyOk && !s.b Fl.SYS_SUPSTAT_VAUX_OK) = false := by
      rcases hs with h | h
      · rw [h]
        rfl
      · rw [b_true h]
        simp
    have hkeep : ∀ fl, fldsApart (Fl.SYS_SUPSTAT_VAUX_OK :: Fl.LSW_SUP_VAUX :: Fl.LSW_SUP_DROOP :: supplyFlags) fl =
      true →
        fieldOf (supplyBack false mv s).regs fl n = fieldOf s.regs fl n := fun fl hf => fieldOf_supplyBack mv n s hf
    rw [hfirst, State.f_fieldOf, channelsFollow_on (supplyBack_supply _ _ _) hn ((hkeep _ (by decide)).trans h0)
      ((chWanted_congr (hkeep _ (by decide)) (hkeep _ (by decide)) (hkeep _ (by decide))).trans hw),
      f_of_field (hkeep _ (by decide))]

theorem return_none {mv : Nat} {s : State} (h : mv < 16000 ∨ 34000 < mv) : Effect (.vauxReturn mv) s fun u =>
    u.supplyOk = s.supplyOk ∧ u.f Fl.SYS_SUPSTAT_VAUX_OK = s.f Fl.SYS_SUPSTAT_VAUX_OK :=
  effect_done (congrArg done (if_pos (by simpa using h)))
    ⟨supplyOk_vauxShown mv s, f_of_field (fieldOf_vauxShown mv 0 s (by decide))⟩

/-- Settles O40: standby coils, the veto, the guest limit, the shroud's return and the conditions of VAUX. -/
theorem standbyAndSupply : Obligations.StandbyAndSupply := by
  intro s
  refine ⟨fun h hh => ?_, fun mv => ⟨under_lost, under_good, over_lost, over_good, return_resumes, return_none⟩,
    reverse_lost s, ground_lost s⟩
  have hok := standbyOk_iff s (24 + h)
  refine ⟨fun hg hr => ?_, fun hg hv => ?_, veto_none, fun hg ht => ?_, return_shows s hh, fun hs => ?_⟩
  · obtain ⟨u, hu, h1, h2⟩ := standby_shows hh hg hr
    exact ⟨u, hu, fun ht => h1 (hok.mpr ht), fun ht => h2 (Bool.eq_false_iff.mpr fun hc => ht (hok.mp hc))⟩
  · obtain ⟨u, hu, hd⟩ := veto_demands hh hg hv
    exact ⟨u, hu, hd.reef, hd.release⟩
  · obtain ⟨u, hu, hd, hm⟩ := guestLimit_demands hh hg ht
    exact ⟨u, hu, ⟨hd.reef, hd.release⟩, hm⟩
  · obtain ⟨u, hu, hd⟩ := standby_falls hh hs
    refine ⟨u, hu, ?_⟩
    split at hd
    · rw [if_pos (by assumption)]
      exact hd
    · rw [if_neg (by assumption)]
      exact ⟨hd.reef, hd.release⟩

end Sys2Proof.Machine

/-! ## Zones, the stay chain and the shroud's cycle (R416 to R428) -/

namespace Sys2Proof.Machine

set_option Elab.async false

/-! ### Waking -/

/-- The registers that a wake writes. -/
def wakeRegs : List Rg := [R.SYS_PWRCTL, R.SYS_PWRSTAT, R.SYS_WAKESRC]

/-- Everything but the shroud's part. -/
def butSfy : Part := { besideMemory with sfy := false, mem := true, pending := true }

theorem wake_sfy (s : State) (src : Nat) : (s.wake src).sfy = s.sfy :=
  State.sfy_of_without (A := butSfy) (State.wake_writes rfl rfl rfl rfl s src) rfl

/-! ### Zones in demand (R419) -/

theorem zoneStops_congr {s t : State} {z p : Nat} (h1 : fieldOf t.regs Fl.SFY_ZONE0_EN z = fieldOf s.regs
  Fl.SFY_ZONE0_EN z)
    (h2 : fieldOf t.regs Fl.SFY_ZONE0_PORTS z = fieldOf s.regs Fl.SFY_ZONE0_PORTS z) : t.zoneStops z p = s.zoneStops z
      p := by
  rw [State.zoneStops, State.zoneStops, b_of_field h1, f_of_field h2]

/-- Every port of zone `z` is demanded. -/
def zonePorts (z trel : Nat) (stop : Bool) (s : State) : State :=
  s.each 48 fun p s => s.when (s.zoneStops z p) (demandPort trel stop p)

theorem State.when_cases {P : State → Prop} {f : State → State} {s : State} {c : Bool} (h0 : c = false → P s)
    (h1 : c = true → P (f s)) : P (s.when c f) := by
  cases c
  · exact h0 rfl
  · exact h1 rfl

/-- What every function of a conditional loop keeps, the loop keeps. -/
theorem State.each_when {P : State → Prop} {c : Nat → State → Bool} {f : Nat → State → State} {s : State}
    (h : ∀ k u, P u → P (f k u)) (h0 : P s) (n : Nat) : P (s.each n fun k u => u.when (c k u) (f k)) :=
  State.each_induct (fun k u hu => State.when_cases (fun _ => hu) fun _ => h k u hu) h0 n

theorem fieldOf_zonePorts {fl : Fld} (z trel : Nat) (stop : Bool) (i : Nat) (s : State)
    (h : fldsApart refreshFlds fl = true) : fieldOf (zonePorts z trel stop s).regs fl i = fieldOf s.regs fl i :=
  State.each_when (P := fun u => fieldOf u.regs fl i = fieldOf s.regs fl i)
    (fun p u hu => (fieldOf_demandPort _ _ p i u h).trans hu) rfl 48

theorem zonePorts_stayOpen (z trel : Nat) (stop : Bool) (s : State) :
    (zonePorts z trel stop s).sfy.stayOpen = s.sfy.stayOpen :=
  State.each_when (P := fun u => u.sfy.stayOpen = s.sfy.stayOpen)
    (fun p u hu => by
    obtain ⟨v, l, he⟩ := demandPort_parts trel stop p u
    rw [he]
    exact hu) rfl 48

theorem zonePorts_demands {z p : Nat} (hp : p < 48) (trel : Nat) (stop : Bool) {s : State} (hz : s.zoneStops z p =
  true) :
    Demanded p trel s (zonePorts z trel stop s) ∧ (stop = true → p ∈ (zonePorts z trel stop s).sfy.stops) := by
  refine State.each_once (R := fun u => u.sp p = s.sp p ∧ u.zoneStops z p = true)
    (Q := fun u => Demanded p trel s u ∧ (stop = true → p ∈ u.sfy.stops)) hp (fun q u hq hu => ?_) (fun q u hq hu => ?_)
    (fun u hu => ?_) ⟨rfl, hz⟩
  · refine State.when_cases (P := fun u => u.sp p = s.sp p ∧ u.zoneStops z p = true) (fun _ => hu) fun _ => ?_
    exact ⟨(sp_demandPort_other hq trel stop u).trans hu.1, (zoneStops_congr (fieldOf_demandPort _ _ _ _ u (by decide))
      (fieldOf_demandPort _ _ _ _ u (by decide))).trans hu.2⟩
  · refine State.when_cases (P := fun u => Demanded p trel s u ∧ (stop = true → p ∈ u.sfy.stops)) (fun _ => hu) fun _
      => ?_
    exact ⟨demanded_other hq trel trel stop hu.1, fun hs => demandPort_stops_keep _ _ _ (hu.2 hs)⟩
  · obtain ⟨h1, h2⟩ := demandPort_demands hp trel stop u
    rw [hu.2, State.when_true]
    refine ⟨⟨h1, h2.trans (by rw [hu.1])⟩, fun hs => ?_⟩
    rw [hs, demandPort_stops]
    exact List.mem_append_right _ (List.mem_singleton_self _)

/-- The release time of a zone of category 1 or 0. -/
def zoneTrel (z : Nat) (s : State) : Nat := if s.f Fl.SFY_ZONE0_CAT z = 1 then s.f Fl.SFY_ZONE1_TSTOP1 z else 2

theorem zoneDemand_eq {s : State} {z : Nat} (hz : z < 5) (he : s.f Fl.SFY_ZONE0_EN z = 1) (hi : s.zoneInput z = true)
    (hr : s.sfy.running = true) : zoneDemand z s = (sfyCause 1 (zonePorts z (zoneTrel z s) (s.b Fl.SFY_ZONE0_CAT z)
      (s.setF Fl.SFY_ZONE1_STATE z 1))).wake 7 := by
  have hcat : (s.setF Fl.SFY_ZONE1_STATE z 1).b Fl.SFY_ZONE0_CAT z = s.b Fl.SFY_ZONE0_CAT z :=
    b_of_field (fieldOf_setF_apart s _ _ _ _ _ (by decide))
  have hstop : (s.setF Fl.SFY_ZONE1_STATE z 1).f Fl.SFY_ZONE1_TSTOP1 z = s.f Fl.SFY_ZONE1_TSTOP1 z :=
    f_of_field (fieldOf_setF_apart s _ _ _ _ _ (by decide))
  have htrel : zoneTrel z s = if (s.setF Fl.SFY_ZONE1_STATE z 1).b Fl.SFY_ZONE0_CAT z then
      (s.setF Fl.SFY_ZONE1_STATE z 1).f Fl.SFY_ZONE1_TSTOP1 z else 2 := by
    rw [hcat, hstop, zoneTrel, bitOf_fits _ _ _ rfl]
    simp
  rw [zoneDemand, if_neg (by rw [b_true he, hi, hr]; simp [hz]), htrel, ← hcat]
  rfl

theorem zoneDemand_demands {s : State} {z : Nat} (hz : z < 5) (he : s.f Fl.SFY_ZONE0_EN z = 1)
    (hi : s.zoneInput z = true) (hr : s.sfy.running = true) :
    fieldOf (zoneDemand z s).regs Fl.SFY_ZONE1_STATE z = 1 ∧
    bitOf (fieldOf (zoneDemand z s).regs Fl.SFY_STAT_CAUSE 0) 1 = true ∧ ∀ p, p < 48 → s.zoneStops z p = true →
      Demanded p (zoneTrel z s) s (zoneDemand z s) ∧
      (s.f Fl.SFY_ZONE0_CAT z = 1 → p ∈ (zoneDemand z s).sfy.stops) := by
  rw [zoneDemand_eq hz he hi hr]
  let v := s.setF Fl.SFY_ZONE1_STATE z 1
  have hst : fieldOf v.regs Fl.SFY_ZONE1_STATE z = 1 :=
    fieldOf_setF_fits s _ _ _ (lt_of_lt_of_le hz (by decide)) (by decide) (by decide)
  have hsp : ∀ p, v.sp p = s.sp p := fun p => sp_of_sfy (State.setF_sfy ..) p
  have hzs : ∀ p, v.zoneStops z p = s.zoneStops z p := fun p => zoneStops_congr
    (fieldOf_setF_apart s _ _ _ _ _ (by decide)) (fieldOf_setF_apart s _ _ _ _ _ (by decide))
  have hdem := fun p (hp : p < 48) (h : s.zoneStops z p = true) =>
    zonePorts_demands hp (zoneTrel z s) (s.b Fl.SFY_ZONE0_CAT z) (s := v) ((hzs p).trans h)
  have hz1 := fieldOf_zonePorts (fl := Fl.SFY_ZONE1_STATE) z (zoneTrel z s) (s.b Fl.SFY_ZONE0_CAT z) z v (by decide)
  change fieldOf ((sfyCause 1 (zonePorts z _ _ v)).wake 7).regs _ _ = 1 ∧ _
  generalize zonePorts z (zoneTrel z s) (s.b Fl.SFY_ZONE0_CAT z) v = w at hdem hz1
  refine ⟨?_, ?_, fun p hp h => ?_⟩
  · rw [fieldOf_wake _ _ _ (by decide), fieldOf_sfyCause _ _ _ (by decide) (by decide), hz1, hst]
  · rw [fieldOf_wake _ _ _ (by decide)]
    exact sfyCause_shows 1 (by decide) w
  · obtain ⟨⟨h1, h2⟩, h3⟩ := hdem p hp h
    have hsfy : ((sfyCause 1 w).wake 7).sfy = w.sfy := (wake_sfy _ _).trans (sfyCause_sfy 1 w)
    refine ⟨⟨?_, ?_⟩, fun hc => ?_⟩
    · rw [fieldOf_wake _ _ _ (by decide), fieldOf_sfyCause _ _ _ (by decide) (by decide), h1]
    · rw [sp_of_sfy hsfy, h2, hsp]
    · rw [hsfy]
      exact h3 (b_true hc)

theorem zoneDemand_none {s : State} {z : Nat} (h : s.zoneInput z = false) : zoneDemand z s = s :=
  if_pos (by rw [h]; simp)

theorem zoneDemand_stayOpen (z : Nat) (s : State) : (zoneDemand z s).sfy.stayOpen = s.sfy.stayOpen := by
  unfold zoneDemand
  split
  · rfl
  · extract_lets v cat trel w
    have hw : w.sfy.stayOpen = v.sfy.stayOpen := zonePorts_stayOpen z trel cat v
    have hv : v.sfy = s.sfy := State.setF_sfy ..
    clear_value w
    rw [wake_sfy, sfyCause_sfy, hw, hv]

/-! ### The stay chain (R421, R422) -/

/-- The state with the stay chain open. -/
def State.withStayOpen (s : State) : State := { s with sfy.stayOpen := true }

theorem stayOpens_shows (s : State) : (stayOpens s).sfy.stayOpen = true ∧
    (s.f Fl.SFY_ZONE0_EN 4 = 1 → s.sfy.running = true → fieldOf (stayOpens s).regs Fl.SFY_ZONE1_STATE 4 = 1) := by
  have he : stayOpens s = zoneDemand 4 s.withStayOpen := rfl
  rw [he]
  exact ⟨zoneDemand_stayOpen 4 s.withStayOpen, fun hen hr =>
    (zoneDemand_demands (s := s.withStayOpen) (by decide) hen rfl hr).1⟩

theorem fieldOf_zoneDemand {fl : Fld} (z i : Nat) (s : State)
    (h : (!regsIn (R.EVT_PEND :: R.SFY_PSTAT :: R.SFY_STAT :: R.SFY_ZONE1 :: wakeRegs) fl.reg.addr &&
      decide (fl.reg.count ≤ 65536)) = true) : fieldOf (zoneDemand z s).regs fl i = fieldOf s.regs fl i :=
  fieldOf_onlyRegs (zoneDemand_writes (by decide) (by decide) (by decide) (by decide) (by decide) (by decide)
    (by decide) rfl rfl z s) i h

theorem fieldOf_zoneDemand_staySort (z : Nat) (s : State) :
    fieldOf (zoneDemand z s).regs Fl.SFY_STAT_STAYSHORT 0 = fieldOf s.regs Fl.SFY_STAT_STAYSHORT 0 := by
  unfold zoneDemand
  split
  · rfl
  · extract_lets v cat trel w
    have hw : fieldOf w.regs Fl.SFY_STAT_STAYSHORT 0 = fieldOf v.regs Fl.SFY_STAT_STAYSHORT 0 :=
      fieldOf_zonePorts z trel cat 0 v (by decide)
    have hv : fieldOf v.regs Fl.SFY_STAT_STAYSHORT 0 = fieldOf s.regs Fl.SFY_STAT_STAYSHORT 0 :=
      fieldOf_setF_apart s _ _ _ _ _ (by decide)
    clear_value w
    rw [fieldOf_wake _ _ _ (by decide), fieldOf_sfyCause _ _ _ (by decide) (by decide), hw, hv]

theorem stayPulse_good (s : State) : Effect (.stayTestPulse true) s fun u =>
    u.sfy.stayMissed = 0 ∧ u.sfy.stayOpen = false := effect_done rfl ⟨rfl, rfl⟩

theorem stayPulse_first {s : State} (h : s.sfy.stayMissed = 0) : Effect (.stayTestPulse false) s fun u =>
    u.sfy.stayMissed = 1 ∧ u.sfy.stayOpen = s.sfy.stayOpen := by
  have he : stayPulse false s = { s with sfy.stayMissed := s.sfy.stayMissed + 1 } := by
    unfold stayPulse
    exact (if_neg (by decide)).trans (if_pos (by omega))
  exact effect_done (congrArg done he) ⟨by rw [h], rfl⟩

/-- The state with STAYSHORT after a further missed pulse. -/
def stayMissed (s : State) : State :=
  ({ s with sfy.stayMissed := s.sfy.stayMissed + 1 } : State).setB Fl.SFY_STAT_STAYSHORT 0 true

theorem stayPulse_short {s : State} (h : 1 ≤ s.sfy.stayMissed) : Effect (.stayTestPulse false) s fun u =>
    u.f Fl.SFY_STAT_STAYSHORT = 1 ∧ u.sfy.stayOpen = true := by
  have he : stayPulse false s = stayOpens (stayMissed s) := by
    unfold stayPulse
    exact (if_neg (by decide)).trans (if_neg (by omega))
  have hs : fieldOf (stayMissed s).regs Fl.SFY_STAT_STAYSHORT 0 = 1 :=
    fieldOf_setB_same _ _ _ _ (by decide) (by decide) (by decide)
  generalize stayMissed s = v at he hs
  refine effect_done (congrArg done he) ⟨?_, (stayOpens_shows v).1⟩
  rw [State.f_fieldOf]
  exact (fieldOf_zoneDemand_staySort 4 v.withStayOpen).trans hs

/-! ### Resetting quiet zones (R420) -/

theorem fieldOf_zoneToIdle {fl : Fld} (z i : Nat) (s : State) (h : fldsApart refreshFlds fl = true)
    (hz : Fl.SFY_ZONE1_STATE.apart fl = true) : fieldOf (zoneToIdle z s).regs fl i = fieldOf s.regs fl i :=
  State.each_when (P := fun u => fieldOf u.regs fl i = fieldOf s.regs fl i)
    (fun p u hu => (fieldOf_refreshPort p i u h).trans hu)
    (fieldOf_setF_apart s _ _ _ _ _ hz) 48

theorem zoneToIdle_state {z : Nat} (hz : z < 5) (s : State) :
    fieldOf (zoneToIdle z s).regs Fl.SFY_ZONE1_STATE z = 0 :=
  State.each_when (P := fun u => fieldOf u.regs Fl.SFY_ZONE1_STATE z = 0)
    (fun p u hu => (fieldOf_refreshPort p z u (by decide)).trans hu)
    (fieldOf_setF_fits s _ _ _ (lt_of_lt_of_le hz (by decide)) (by decide) (by decide)) 48

theorem zoneToIdle_other {z y : Nat} (h : y ≠ z) (s : State) :
    fieldOf (zoneToIdle y s).regs Fl.SFY_ZONE1_STATE z = fieldOf s.regs Fl.SFY_ZONE1_STATE z :=
  State.each_when (P := fun u => fieldOf u.regs Fl.SFY_ZONE1_STATE z = fieldOf s.regs Fl.SFY_ZONE1_STATE z)
    (fun p u hu => (fieldOf_refreshPort p z u (by decide)).trans hu)
    (fieldOf_setF_member s _ _ h) 48

theorem zoneToIdle_sfy (z : Nat) (s : State) : (zoneToIdle z s).sfy = s.sfy :=
  State.each_when (P := fun u => u.sfy = s.sfy)
    (fun p u hu => (refreshPort_sfy p u).trans hu) (State.setF_sfy ..) 48

theorem zoneToIdle_tick (z : Nat) (s : State) : (zoneToIdle z s).tick = s.tick :=
  State.each_when (P := fun u => u.tick = s.tick)
    (fun p u hu => by simpa [refreshPort, State.setB] using hu)
    (State.setF_tick ..) 48

/-- What the input and the quiet time of zone `z` read. -/
structure ZoneReads (z : Nat) (s t : State) : Prop where
  act : ∀ i, fieldOf t.regs Fl.SFY_SRC_ACT i = fieldOf s.regs Fl.SFY_SRC_ACT i
  src : fieldOf t.regs Fl.SFY_ZONE0_SRC z = fieldOf s.regs Fl.SFY_ZONE0_SRC z
  tdeb : fieldOf t.regs Fl.SFY_ZONE1_TDEB z = fieldOf s.regs Fl.SFY_ZONE1_TDEB z
  stay : t.sfy.stayOpen = s.sfy.stayOpen
  since : t.sfy.zoneSince = s.sfy.zoneSince
  tick : t.tick = s.tick

theorem ZoneReads.refl (z : Nat) (s : State) : ZoneReads z s s := ⟨fun _ => rfl, rfl, rfl, rfl, rfl, rfl⟩

theorem ZoneReads.trans {z : Nat} {s t u : State} (h : ZoneReads z s t) (h' : ZoneReads z t u) : ZoneReads z s u :=
  ⟨fun i => (h'.act i).trans (h.act i), h'.src.trans h.src, h'.tdeb.trans h.tdeb, h'.stay.trans h.stay,
    h'.since.trans h.since, h'.tick.trans h.tick⟩

theorem zoneInput_congr {z : Nat} {s t : State} (h : ZoneReads z s t) : t.zoneInput z = s.zoneInput z := by
  rw [State.zoneInput, State.zoneInput, f_of_field h.src, b_of_field (h.act _), h.stay]

theorem zoneQuiet_congr {z : Nat} {s t : State} (h : ZoneReads z s t) : t.zoneQuiet z = s.zoneQuiet z := by
  rw [State.zoneQuiet, State.zoneQuiet, zoneInput_congr h, f_of_field h.tdeb, h.since, h.tick]

theorem zoneToIdle_reads (y z : Nat) (s : State) : ZoneReads z s (zoneToIdle y s) :=
  ⟨fun _ => fieldOf_zoneToIdle _ _ _ (by decide) (by decide), fieldOf_zoneToIdle _ _ _ (by decide) (by decide),
    fieldOf_zoneToIdle _ _ _ (by decide) (by decide), by rw [zoneToIdle_sfy], by rw [zoneToIdle_sfy],
      zoneToIdle_tick y s⟩

/-- The zones that are quiet return to idle. -/
def quietZones (s : State) : State :=
  s.each 5 fun z s => s.when (s.f Fl.SFY_ZONE1_STATE z != 0 && s.zoneQuiet z) (zoneToIdle z)

theorem quietZones_state {z : Nat} (hz : z < 5) (s : State) : fieldOf (quietZones s).regs Fl.SFY_ZONE1_STATE z =
    if s.zoneQuiet z = true then 0 else fieldOf s.regs Fl.SFY_ZONE1_STATE z := by
  refine State.each_once (R := fun u => ZoneReads z s u ∧
      fieldOf u.regs Fl.SFY_ZONE1_STATE z = fieldOf s.regs Fl.SFY_ZONE1_STATE z)
    (Q := fun u => fieldOf u.regs Fl.SFY_ZONE1_STATE z =
      if s.zoneQuiet z = true then 0 else fieldOf s.regs Fl.SFY_ZONE1_STATE z) hz (fun y u hy hu => ?_)
    (fun y u hy hu => ?_) (fun u hu => ?_) ⟨.refl z s, rfl⟩
  · exact State.when_cases (P := fun u => ZoneReads z s u ∧
      fieldOf u.regs Fl.SFY_ZONE1_STATE z = fieldOf s.regs Fl.SFY_ZONE1_STATE z) (fun _ => hu) fun _ =>
        ⟨hu.1.trans (zoneToIdle_reads y z u), (zoneToIdle_other hy u).trans hu.2⟩
  · exact State.when_cases (P := fun u => fieldOf u.regs Fl.SFY_ZONE1_STATE z = _) (fun _ => hu) fun _ =>
      (zoneToIdle_other hy u).trans hu
  · rw [zoneQuiet_congr hu.1]
    cases hq : s.zoneQuiet z with
    | false =>
      rw [Bool.and_false, State.when_false, hu.2]
      rfl
    | true =>
      rw [if_pos rfl, Bool.and_true]
      refine State.when_cases (P := fun u => fieldOf u.regs Fl.SFY_ZONE1_STATE z = 0) (fun h => ?_)
        fun _ => zoneToIdle_state hz u
      rw [← State.f_fieldOf]
      simpa using h

theorem srst_resets {s : State} {z : Nat} (hz : z < 5) (ms : Nat) : Effect (.srstPulse ms) s fun u =>
    u.f Fl.SFY_ZONE1_STATE z = if 100 ≤ ms ∧ ms ≤ 5000 ∧ s.sfy.running = true ∧ s.zoneQuiet z = true then 0
      else s.f Fl.SFY_ZONE1_STATE z := by
  by_cases h : 100 ≤ ms ∧ ms ≤ 5000 ∧ s.sfy.running = true
  · obtain ⟨h1, h2, h3⟩ := h
    have hz' := quietZones_state hz s
    refine effect_done (congrArg done (if_pos (by simp [h1, h2, h3]))) ?_
    rw [State.f_fieldOf]
    refine Eq.trans (State.each_induct (P := fun u => fieldOf u.regs Fl.SFY_ZONE1_STATE z =
      fieldOf (quietZones s).regs Fl.SFY_ZONE1_STATE z) (fun p u hu => ?_) rfl 48) (hz'.trans ?_)
    · split
      · exact hu
      · exact hu
    · simp only [h1, h2, h3, true_and]
      rfl
  · refine effect_done (congrArg done (if_neg fun hc => h ?_)) ?_
    · simpa [and_assoc] using hc
    · rw [if_neg fun hc => h ⟨hc.1, hc.2.1, hc.2.2.1⟩]

end Sys2Proof.Machine

/-! ## The trip fabric (R440 to R446) and the requests of the shroud (R423 to R425) -/

namespace Sys2Proof.Machine

set_option Elab.async false

/-! ### One target -/

/-- The fields that evaluating a target writes. -/
def targetFlds : List Fld := [Fl.SFY_TGT3_TRIPPED, Fl.SFY_STAT_CAUSE, Fl.EVT_PEND_PEND]

theorem setTripped_stands (t : Nat) (v : Bool) (s : State) : FieldsStand targetFlds s (s.setB Fl.SFY_TGT3_TRIPPED t v)
  :=
  fun _ _ h => fieldOf_setB_apart _ _ _ _ _ _ (apart_of_mem h (by simp [targetFlds]))

theorem sfyCause_targetStands (j : Nat) (s : State) : FieldsStand targetFlds s (sfyCause j s) :=
  fun _ _ h => fieldOf_sfyCause _ _ _ (apart_of_mem h (by simp [targetFlds])) (apart_of_mem h (by simp [targetFlds]))

theorem evalTarget_stands (t : Nat) (s : State) : FieldsStand targetFlds s (evalTarget t s) := by
  unfold evalTarget
  split
  · exact .refl _ s
  · split
    · split
      · exact .refl _ s
      · exact (setTripped_stands t true s).trans (sfyCause_targetStands 7 _)
    · split
      · exact .refl _ s
      · exact setTripped_stands t false s

theorem maskActive_congr {s t : State} (h : FieldsStand targetFlds s t) (k : Nat) : t.maskActive k = s.maskActive k :=
  by
  simp only [State.maskActive, f_of_field (h Fl.SFY_TGT0_MASK0 _ (by decide)),
    f_of_field (h Fl.SFY_TGT1_MASK1 _ (by decide)), f_of_field (h Fl.SFY_TGT2_MASK2 _ (by decide)),
    b_of_field (h Fl.SFY_SRC_ACT _ (by decide))]

/-- What an evaluation leaves in TRIPPED of an enabled target (R443). -/
def tripLevel (t : Nat) (s : State) : Nat :=
  if s.maskActive t = true then 1
  else if s.b Fl.SFY_TGT3_LATCH t = true then fieldOf s.regs Fl.SFY_TGT3_TRIPPED t else 0

theorem evalTarget_trips {t : Nat} (ht : t < 64) {s : State} (he : s.b Fl.SFY_TGT3_EN t = true) :
    fieldOf (evalTarget t s).regs Fl.SFY_TGT3_TRIPPED t = tripLevel t s := by
  have hlt : t < Fl.SFY_TGT3_TRIPPED.reg.count := lt_of_lt_of_le ht (by decide)
  have hset : ∀ v, fieldOf (s.setB Fl.SFY_TGT3_TRIPPED t v).regs Fl.SFY_TGT3_TRIPPED t = b2n v := fun v =>
    fieldOf_setB_same _ _ _ _ hlt (by decide) (by decide)
  rw [evalTarget, if_neg (by rw [he]; simp), tripLevel]
  split
  · split
    · next hb => rw [← State.f_fieldOf, bool_field _ _ _ rfl, hb]; rfl
    · rw [fieldOf_sfyCause _ _ _ (by decide) (by decide), hset]; rfl
  · split
    · rfl
    · exact hset false

theorem evalTarget_other {t k : Nat} (h : k ≠ t) (s : State) :
    fieldOf (evalTarget k s).regs Fl.SFY_TGT3_TRIPPED t = fieldOf s.regs Fl.SFY_TGT3_TRIPPED t := by
  have hset : ∀ v, fieldOf (s.setB Fl.SFY_TGT3_TRIPPED k v).regs Fl.SFY_TGT3_TRIPPED t =
    fieldOf s.regs Fl.SFY_TGT3_TRIPPED t := fun v => fieldOf_setF_member s _ _ h
  unfold evalTarget
  split
  · rfl
  · split
    · split
      · rfl
      · rw [fieldOf_sfyCause _ _ _ (by decide) (by decide), hset]
    · split
      · rfl
      · exact hset false

/-! ### The whole fabric -/

/-- Every target is evaluated once. -/
def evalPass (s : State) : State := s.each 64 evalTarget

/-- The inputs of the lanes are shown. -/
def showLanes (s : State) : State := s.each 32 fun k => showSource (32 + k)

theorem evalFabric_eq (s : State) : evalFabric s = evalPass (showLanes (evalPass s)) := rfl

theorem evalPass_stands (s : State) : FieldsStand targetFlds s (evalPass s) :=
  State.each_induct (P := FieldsStand targetFlds s) (fun t u hu => hu.trans (evalTarget_stands t u)) (.refl _ s) 64

theorem tripLevel_congr {t : Nat} {s u : State} (h : FieldsStand targetFlds s u)
    (ht : fieldOf u.regs Fl.SFY_TGT3_TRIPPED t = fieldOf s.regs Fl.SFY_TGT3_TRIPPED t) : tripLevel t u = tripLevel t s
      := by
  rw [tripLevel, tripLevel, maskActive_congr h, b_of_field (h _ _ (by decide)), ht]

theorem evalPass_trips {t : Nat} (ht : t < 64) {s : State} (he : s.b Fl.SFY_TGT3_EN t = true) :
    fieldOf (evalPass s).regs Fl.SFY_TGT3_TRIPPED t = tripLevel t s := by
  refine State.each_once (R := fun u => FieldsStand targetFlds s u ∧
      fieldOf u.regs Fl.SFY_TGT3_TRIPPED t = fieldOf s.regs Fl.SFY_TGT3_TRIPPED t)
    (Q := fun u => fieldOf u.regs Fl.SFY_TGT3_TRIPPED t = tripLevel t s) ht (fun k u hk hu => ?_)
    (fun k u hk hu => ?_) (fun u hu => ?_) ⟨.refl _ s, rfl⟩
  · exact ⟨hu.1.trans (evalTarget_stands k u), (evalTarget_other hk u).trans hu.2⟩
  · exact (evalTarget_other hk u).trans hu
  · rw [evalTarget_trips ht ((b_of_field (hu.1 _ _ (by decide))).trans he), tripLevel_congr hu.1 hu.2]

/-- The fields that showing a source writes. -/
def sourceFlds : List Fld := [Fl.SFY_SRC_ACT, Fl.SFY_SRC_SEEN]

theorem showSource_stands (i : Nat) (s : State) : FieldsStand sourceFlds s (showSource i s) := by
  intro fl k h
  have hset : ∀ (f : Fld), f ∈ sourceFlds → ∀ v (u : State), fieldOf (u.setB f i v).regs fl k = fieldOf u.regs fl k :=
    fun f hf v u => fieldOf_setB_apart _ _ _ _ _ _ (apart_of_mem h hf)
  unfold showSource
  rw [fieldOf_when fun u => hset _ (by simp [sourceFlds]) true u]
  exact hset _ (by simp [sourceFlds]) _ s

theorem showSource_shows {i : Nat} (hi : i < 72) (s : State) :
    fieldOf (showSource i s).regs Fl.SFY_SRC_ACT i = b2n (s.sourceActive i) := by
  unfold showSource
  rw [fieldOf_when fun u => fieldOf_setB_apart u _ _ _ _ _ (by decide)]
  exact fieldOf_setB_same _ _ _ _ (lt_of_lt_of_le hi (by decide)) (by decide) (by decide)

theorem showSource_other {i k : Nat} (h : i ≠ k) (s : State) :
    fieldOf (showSource i s).regs Fl.SFY_SRC_ACT k = fieldOf s.regs Fl.SFY_SRC_ACT k := by
  unfold showSource
  rw [fieldOf_when fun u => fieldOf_setB_apart u _ _ _ _ _ (by decide)]
  exact fieldOf_setF_member s _ _ h

theorem showLanes_stands (s : State) : FieldsStand sourceFlds s (showLanes s) :=
  State.each_induct (P := FieldsStand sourceFlds s) (fun k u hu => hu.trans (showSource_stands (32 + k) u)) (.refl _
    s) 32

theorem showLanes_low {i : Nat} (hi : i < 32) (s : State) :
    fieldOf (showLanes s).regs Fl.SFY_SRC_ACT i = fieldOf s.regs Fl.SFY_SRC_ACT i :=
  State.each_induct (P := fun u => fieldOf u.regs Fl.SFY_SRC_ACT i = fieldOf s.regs Fl.SFY_SRC_ACT i)
    (fun k u hu => (showSource_other (by omega) u).trans hu) rfl 32

/-- What the fabric writes: the targets, the lanes' inputs and cause TRIP. -/
def fabricFlds : List Fld := targetFlds ++ sourceFlds

theorem FieldsStand.mono {l l' : List Fld} {s t : State} (h : FieldsStand l s t) (hl : ∀ a ∈ l, a ∈ l') :
    FieldsStand l' s t :=
  fun fl i hf => h fl i (List.all_eq_true.mpr fun a ha => apart_of_mem hf (hl a ha))

theorem evalFabric_stands (s : State) : FieldsStand fabricFlds s (evalFabric s) :=
  have ht : ∀ u, FieldsStand fabricFlds u (evalPass u) := fun u =>
    (evalPass_stands u).mono fun _ h => List.mem_append_left _ h
  ((ht s).trans ((showLanes_stands _).mono fun _ h => List.mem_append_right _ h)).trans (ht _)

theorem evalFabric_low {i : Nat} (hi : i < 32) (s : State) :
    fieldOf (evalFabric s).regs Fl.SFY_SRC_ACT i = fieldOf s.regs Fl.SFY_SRC_ACT i := by
  rw [evalFabric_eq, evalPass_stands _ _ _ (by decide), showLanes_low hi, evalPass_stands _ _ _ (by decide)]

/-- The level that the fabric leaves an enabled target (R443, R444). -/
theorem evalFabric_trips {t : Nat} (ht : t < 64) {s : State} (he : s.b Fl.SFY_TGT3_EN t = true) :
    fieldOf (evalFabric s).regs Fl.SFY_TGT3_TRIPPED t = if (evalFabric s).maskActive t = true then 1
      else if s.b Fl.SFY_TGT3_LATCH t = true then tripLevel t s else 0 := by
  rw [evalFabric_eq]
  have h1 : FieldsStand fabricFlds s (showLanes (evalPass s)) :=
    ((evalPass_stands s).mono fun _ h => List.mem_append_left _ h).trans
      ((showLanes_stands _).mono fun _ h => List.mem_append_right _ h)
  have htrip : fieldOf (showLanes (evalPass s)).regs Fl.SFY_TGT3_TRIPPED t = tripLevel t s :=
    (showLanes_stands _ _ _ (by decide)).trans (evalPass_trips ht he)
  generalize showLanes (evalPass s) = v at h1 htrip
  rw [evalPass_trips ht ((b_of_field (h1 _ _ (by decide))).trans he), tripLevel, maskActive_congr (evalPass_stands v),
    b_of_field (h1 Fl.SFY_TGT3_LATCH t (by decide)), htrip]

/-! ### Requests, accepted or refused -/

theorem requestStatus_zero_iff {kind top : Nat} (ht : requestTop kind = some top) (target arg : Nat) (s : State) :
    s.requestStatus kind target arg = 0 ↔ target ≤ top ∧ s.requestPermitted kind target = true ∧
      s.requestEnded kind target = true ∧ s.requestHolds kind target arg = true := by
  rw [State.requestStatus, ht]
  dsimp only
  by_cases h1 : top < target
  · rw [if_pos h1]
    exact iff_of_false (by decide) fun h => absurd h.1 (by omega)
  rw [if_neg h1]
  cases s.requestPermitted kind target <;> cases s.requestEnded kind target <;>
    cases s.requestHolds kind target arg <;> simp <;> omega

theorem request_act {kind target arg : Nat} {s : State} (h : s.requestStatus kind target arg = 0) :
    request kind target arg s = requestAct kind target arg s := if_pos (by rw [h]; rfl)

theorem request_cause {kind target arg : Nat} {s : State} (h : s.requestStatus kind target arg ≠ 0) :
    request kind target arg s = sfyCause 7 s := if_neg (by simpa using h)

/-- A refused request shows cause REQ and leaves the ports' data and the named register. -/
theorem shroudRequest_refused {c : Instr} {kind target arg : Nat} {s : State} (hc : exec c s = done (request kind
  target arg s))
    (h : s.requestStatus kind target arg ≠ 0) {P : State → Prop} (hP : P (sfyCause 7 s)) :
    Effect c s fun u => bitOf (u.f Fl.SFY_STAT_CAUSE) 7 = true ∧ P u := by
  refine effect_done (hc.trans (congrArg done (request_cause h))) ⟨?_, hP⟩
  rw [State.f_fieldOf]
  exact sfyCause_shows 7 (by decide) s

/-- A request is carried out exactly where `ok` holds; refused, it leaves register `r` of its target. -/
theorem shroudRequest_settles {c : Instr} {kind top target arg : Nat} {s : State} {r : Rg} {ok : Prop}
  {P : State → Prop}
    (hc : exec c s = done (request kind target arg s)) (ht : requestTop kind = some top)
    (hok : ok ↔ target ≤ top ∧ s.requestPermitted kind target = true ∧
      s.requestEnded kind target = true ∧ s.requestHolds kind target arg = true)
    (hr : R.SFY_STAT.apart r = true) (hp : R.EVT_PEND.apart r = true) (hact : ok → P (requestAct kind target arg s)) :
    (ok → Effect c s P) ∧ (¬ ok → Effect c s fun u => bitOf (u.f Fl.SFY_STAT_CAUSE) 7 = true ∧
      u.reg r target = s.reg r target) :=
  have hz := hok.trans (requestStatus_zero_iff ht target arg s).symm
  ⟨fun h => effect_done (hc.trans (congrArg done (request_act (hz.mp h)))) (hact h),
    fun h => shroudRequest_refused hc (fun h0 => h (hz.mpr h0)) (reg_sfyCause 7 _ s hr hp)⟩

section
variable (s : State)

theorem shroudStop1_demands (p : Nat) : (p < 48 → Effect (.shroudStop1 p) s fun u =>
      Demanded p (s.f Fl.SFY_ZONE1_TSTOP1 0) s u ∧ p ∈ u.sfy.stops) ∧
    (48 ≤ p → Effect (.shroudStop1 p) s fun u => bitOf (u.f Fl.SFY_STAT_CAUSE) 7 = true ∧
      u.reg R.SFY_PSTAT p = s.reg R.SFY_PSTAT p) := by
  have hok : p < 48 ↔ p ≤ 47 ∧ s.requestPermitted 1 p = true ∧ s.requestEnded 1 p = true ∧
      s.requestHolds 1 p 0 = true := by
    simp only [State.requestPermitted, State.requestEnded, State.requestHolds, and_true]
    omega
  obtain ⟨h1, h2⟩ := shroudRequest_settles (c := .shroudStop1 p) (P := fun u => Demanded p (s.f Fl.SFY_ZONE1_TSTOP1 0)
    s u ∧
    p ∈ u.sfy.stops) rfl rfl hok (r := R.SFY_PSTAT) (by decide) (by decide) fun hp =>
      ⟨demandPort_demands hp _ true s, by
        rw [requestAct, demandPort_stops]
        exact List.mem_append_right _ (List.mem_singleton_self _)⟩
  exact ⟨h1, fun h => h2 (by omega)⟩

/-- A bit of the form that the statements write. -/
theorem field_one (fl : Fld) (i : Nat) (h : fl.width = 1) : s.f fl i = 1 ↔ s.b fl i = true := by
  rw [bool_field s fl i h]
  cases s.b fl i <;> decide

theorem field_zero (fl : Fld) (i : Nat) (h : fl.width = 1) : s.f fl i = 0 ↔ s.b fl i = false := by
  rw [bool_field s fl i h]
  cases s.b fl i <;> decide

theorem zoneQuiet_input {s : State} {z : Nat} (h : s.zoneQuiet z = true) : s.zoneInput z = false := by
  rw [State.zoneQuiet, Bool.and_eq_true, Bool.not_eq_true'] at h
  exact h.1

theorem zoneReset_resets (z : Nat) :
    let ok := z < 5 ∧ s.f Fl.SFY_ZONE0_EN z = 1 ∧ s.f Fl.SFY_ZONE0_PROGRST z = 1 ∧ s.f Fl.SFY_ZONE1_STATE z ≠ 0 ∧
      s.zoneQuiet z = true
    (ok → Effect (.zoneReset z) s fun u => u.f Fl.SFY_ZONE1_STATE z = 0) ∧
      (¬ ok → Effect (.zoneReset z) s fun u => bitOf (u.f Fl.SFY_STAT_CAUSE) 7 = true ∧
        u.reg R.SFY_ZONE1 z = s.reg R.SFY_ZONE1 z) := by
  refine shroudRequest_settles rfl rfl ?_ (by decide) (by decide) fun hok => ?_
  · simp only [State.requestPermitted, State.requestEnded, State.requestHolds,
      field_one _ _ _ (rfl : Fl.SFY_ZONE0_EN.width = 1),
      field_one _ _ _ (rfl : Fl.SFY_ZONE0_PROGRST.width = 1), Bool.and_eq_true, bne_iff_ne, Bool.not_eq_true']
    constructor
    · rintro ⟨h1, h2, h3, h4, h5⟩
      exact ⟨by omega, ⟨h2, h3⟩, zoneQuiet_input h5, h4, h5⟩
    · rintro ⟨h1, ⟨h2, h3⟩, -, h4, h5⟩
      exact ⟨by omega, h2, h3, h4, h5⟩
  · rw [State.f_fieldOf]
    exact zoneToIdle_state hok.1 s

theorem limset_sets (a k : Nat) :
    let ok := a < 8 ∧ s.f Fl.SFY_ACFG_EN a = 1 ∧ k < 4 ∧ (s.standstill a = true ∨
      s.noLooser (4 * a + s.f Fl.SFY_ACFG_SET a) (4 * a + k) = true)
    (ok → Effect (.limset a k) s fun u => u.f Fl.SFY_ACFG_SET a = k) ∧
      (¬ ok → Effect (.limset a k) s fun u => bitOf (u.f Fl.SFY_STAT_CAUSE) 7 = true ∧
        u.reg R.SFY_ACFG a = s.reg R.SFY_ACFG a) := by
  refine shroudRequest_settles rfl rfl ?_ (by decide) (by decide) fun hok => ?_
  · simp only [State.requestPermitted, State.requestEnded, State.requestHolds,
      field_one _ _ _ (rfl : Fl.SFY_ACFG_EN.width = 1), Bool.and_eq_true, Bool.or_eq_true, decide_eq_true_eq, true_and]
    rw [Nat.lt_succ_iff (m := a) (n := 7)]
  · have hk : k < 2 ^ Fl.SFY_ACFG_SET.width := hok.2.2.1
    rw [State.f_fieldOf]
    exact fieldOf_setF_fits _ _ _ _ (lt_of_lt_of_le hok.1 (by decide)) (by decide) hk

theorem axen_enables (a : Nat) :
    let ok := a < 8 ∧ s.f Fl.SFY_ACFG_EN a = 1 ∧ (s.f Fl.SFY_ASTAT_VIOL a = 0 ∨ s.standstill a = true) ∧
      s.axisViolates a = false ∧ s.f Fl.SFY_ACFG_REFD a = 1
    (ok → Effect (.axen a) s fun u => u.f Fl.SFY_ASTAT_VIOL a = 0 ∧
        u.f Fl.SFY_ASTAT_ENABLED a = u.f Fl.SFY_COIL_ON (s.f Fl.SFY_ACFG_ENCO a)) ∧
      (¬ ok → Effect (.axen a) s fun u => bitOf (u.f Fl.SFY_STAT_CAUSE) 7 = true ∧
        u.reg R.SFY_ASTAT a = s.reg R.SFY_ASTAT a) := by
  refine shroudRequest_settles rfl rfl ?_ (by decide) (by decide) fun hok => ?_
  · simp only [State.requestPermitted, State.requestEnded, State.requestHolds,
      field_one _ _ _ (rfl : Fl.SFY_ACFG_EN.width = 1), field_one _ _ _ (rfl : Fl.SFY_ACFG_REFD.width = 1),
      field_zero _ _ _ (rfl : Fl.SFY_ASTAT_VIOL.width = 1), Bool.and_eq_true, Bool.or_eq_true, Bool.not_eq_true']
    rw [Nat.lt_succ_iff (m := a) (n := 7)]
  · have hlt : a < R.SFY_ASTAT.count := lt_of_lt_of_le hok.1 (by decide)
    have hco : (coilOn (s.f Fl.SFY_ACFG_ENCO a) s).f Fl.SFY_ACFG_ENCO a = s.f Fl.SFY_ACFG_ENCO a :=
      f_of_field (fieldOf_coilOn _ _ _ (by decide))
    simp only [requestAct]
    rw [hco]
    generalize coilOn (s.f Fl.SFY_ACFG_ENCO a) s = v
    generalize s.f Fl.SFY_ACFG_ENCO a = n
    refine ⟨?_, ?_⟩
    · rw [State.f_fieldOf, fieldOf_setB_apart _ _ _ _ _ _ (by decide)]
      exact fieldOf_setB_same _ _ _ _ hlt (by decide) (by decide)
    · rw [State.f_fieldOf, State.f_fieldOf, fieldOf_setB_same _ _ _ _ hlt (by decide) (by decide),
        fieldOf_setB_apart _ _ _ _ _ _ (by decide), fieldOf_setB_apart _ _ _ _ _ _ (by decide),
        ← bool_field _ _ _ rfl, State.f_fieldOf]

theorem imdtest_tests (p ms : Nat) :
    let ok := p < 24 ∧ s.f Fl.SFY_PIMD_IMDEN p = 1 ∧ 10 ≤ ms ∧ ms ≤ 5000 ∧ s.f Fl.SFY_PSTAT_POSCL p = 0 ∧
      s.f Fl.SFY_PSTAT_NEGCL p = 0
    (ok → Effect (.imdtest p ms) s fun u => (u.sp p).imdTest = some ms) ∧
      (¬ ok → Effect (.imdtest p ms) s fun u => bitOf (u.f Fl.SFY_STAT_CAUSE) 7 = true ∧ u.sp p = s.sp p) := by
  intro ok
  have hz : ok ↔ s.requestStatus 5 p ms = 0 := by
    rw [requestStatus_zero_iff rfl]
    simp only [ok, State.requestPermitted, State.requestEnded, State.requestHolds,
      field_one _ _ _ (rfl : Fl.SFY_PIMD_IMDEN.width = 1), field_zero _ _ _ (rfl : Fl.SFY_PSTAT_POSCL.width = 1),
      field_zero _ _ _ (rfl : Fl.SFY_PSTAT_NEGCL.width = 1), Bool.and_eq_true, decide_eq_true_eq, Bool.not_eq_true',
      and_assoc, true_and]
    rw [Nat.lt_succ_iff (m := p) (n := 23)]
  refine ⟨fun h => effect_done (congrArg done (request_act (hz.mp h))) ?_,
    fun h => shroudRequest_refused rfl (fun h0 => h (hz.mpr h0)) (sp_of_sfy (sfyCause_sfy 7 s) p)⟩
  rw [requestAct, sp_setSp (by omega)]

theorem targetRelease_releases (t : Nat) :
    let ok := t < 64 ∧ s.f Fl.SFY_TGT3_EN t = 1 ∧ s.maskActive t = false
    (ok → Effect (.targetRelease t) s fun u => u.f Fl.SFY_TGT3_TRIPPED t = if u.maskActive t then 1 else 0) ∧
      (¬ ok → Effect (.targetRelease t) s fun u => bitOf (u.f Fl.SFY_STAT_CAUSE) 7 = true ∧
        u.reg R.SFY_TGT3 t = s.reg R.SFY_TGT3 t) := by
  refine shroudRequest_settles rfl rfl ?_ (by decide) (by decide) fun hok => ?_
  · simp only [State.requestPermitted, State.requestEnded, State.requestHolds,
      field_one _ _ _ (rfl : Fl.SFY_TGT3_EN.width = 1), Bool.not_eq_true', and_true]
    rw [Nat.lt_succ_iff (m := t) (n := 63)]
  · obtain ⟨ht, he, hm⟩ := hok
    have hv := setTripped_stands t false s
    have h0 : fieldOf (s.setB Fl.SFY_TGT3_TRIPPED t false).regs Fl.SFY_TGT3_TRIPPED t = 0 :=
      fieldOf_setB_same _ _ _ _ (lt_of_lt_of_le ht (by decide)) (by decide) (by decide)
    rw [requestAct]
    generalize s.setB Fl.SFY_TGT3_TRIPPED t false = v at hv h0
    have hl : tripLevel t v = 0 := by
      rw [tripLevel, maskActive_congr hv, hm, h0]
      simp
    rw [State.f_fieldOf, evalFabric_trips ht ((b_of_field (hv _ _ (by decide))).trans (b_true he)), hl, ite_self]

end

/-! ### Clearing the faults of a port -/

/-- The faults that FAULT_CLEAR clears. -/
def faultFlds : List Fld := [Fl.SFY_PSTAT_FAILCL, Fl.SFY_PSTAT_WELDP, Fl.SFY_PSTAT_WELDN, Fl.SFY_PSTAT_DISCREP,
  Fl.SFY_PSTAT_IMDF, Fl.SFY_PSTAT_TCUT, Fl.SFY_PSTAT_PBRK, Fl.SFY_PSTAT_LOCKF]

/-- Clears fault `fl` of port `p` where `c` holds. -/
def clearFault (fl : Fld) (p : Nat) (c : Bool) (s : State) : State := if c then s.setB fl p false else s

/-- What the conditions of a clear read, apart from the faults themselves. -/
structure ClearReads (s t : State) : Prop where
  fields : FieldsStand faultFlds s t
  sfy : t.sfy = s.sfy
  thm : t.thm = s.thm
  tick : t.tick = s.tick

theorem ClearReads.clear {s t : State} (h : ClearReads s t) {fl : Fld} (hf : fl ∈ faultFlds) (p : Nat) (c : Bool) :
    ClearReads s (clearFault fl p c t) := by
  unfold clearFault
  split
  · exact ⟨h.fields.trans fun _ _ ha => fieldOf_setB_apart _ _ _ _ _ _ (apart_of_mem ha hf),
      (State.setF_sfy ..).trans h.sfy, (State.setF_thm ..).trans h.thm, (State.setF_tick ..).trans h.tick⟩
  · exact h

theorem openFor1s_congr {s t : State} (h : ClearReads s t) (p : Nat) (pole : Pole) :
    t.openFor1s p pole = s.openFor1s p pole := by
  have hb : t.b (poleClosed pole) p = s.b (poleClosed pole) p := b_of_field (h.fields _ _ (by cases pole <;> decide))
  unfold State.openFor1s
  rw [hb, sp_of_sfy h.sfy, h.tick]

theorem agreesFor1s_congr {s t : State} (h : ClearReads s t) (p : Nat) (pole : Pole) :
    t.agreesFor1s p pole = s.agreesFor1s p pole := by
  have hb : t.b (poleClosed pole) p = s.b (poleClosed pole) p := b_of_field (h.fields _ _ (by cases pole <;> decide))
  have hc : t.b (poleCmd pole) p = s.b (poleCmd pole) p := b_of_field (h.fields _ _ (by cases pole <;> decide))
  unfold State.agreesFor1s
  rw [hb, hc, sp_of_sfy h.sfy, h.tick]

theorem pinIsBroken_congr {s t : State} (h : ClearReads s t) (p : Nat) : t.pinIsBroken p = s.pinIsBroken p := by
  simp only [State.pinIsBroken, State.pinTemp, h.thm, f_of_field (h.fields Fl.THM_PSEN_PINP _ (by decide)),
    f_of_field (h.fields Fl.THM_PSEN_PINN _ (by decide))]

theorem clearFault_same {fl : Fld} {p : Nat} (hp : p < fl.reg.count) (hl : fl.lsb + fl.width ≤ 32)
    (hw : fl.width = 1) (c : Bool) (s : State) :
    fieldOf (clearFault fl p c s).regs fl p = if c then 0 else fieldOf s.regs fl p := by
  cases c
  · rfl
  · exact fieldOf_setB_same _ _ _ _ hp hl (by omega)

theorem clearFault_apart {fl gl : Fld} (p i : Nat) (c : Bool) (s : State) (h : fl.apart gl = true) :
    fieldOf (clearFault fl p c s).regs gl i = fieldOf s.regs gl i := by
  cases c
  · rfl
  · exact fieldOf_setB_apart _ _ _ _ _ _ h

/-- The faults of the contactors cleared: a failed closure, welds and a discrepancy (R427). -/
def contactorsCleared (p : Nat) (s : State) : State :=
  let s := clearFault Fl.SFY_PSTAT_FAILCL p (s.openFor1s p .pos && s.openFor1s p .neg) s
  let s := clearFault Fl.SFY_PSTAT_WELDP p ((s.sp p).weldReset && s.openFor1s p .pos) s
  let s := clearFault Fl.SFY_PSTAT_WELDN p ((s.sp p).weldReset && s.openFor1s p .neg) s
  clearFault Fl.SFY_PSTAT_DISCREP p (s.agreesFor1s p .pos && s.agreesFor1s p .neg) s

/-- The faults of insulation, of the pins and of the lock cleared. -/
def pinsCleared (p : Nat) (s : State) : State :=
  let s := clearFault Fl.SFY_PSTAT_IMDF p
    (!s.imdFault p && decide ((s.sp p).imdSince + clocksOfMs 1000 ≤ s.tick)) s
  let limit : Int := (s.f Fl.SFY_PTMP_TPCUT p : Int) - 1000
  let s := clearFault Fl.SFY_PSTAT_TCUT p
    (s.pinBelow (s.f Fl.THM_PSEN_PINP p) limit && s.pinBelow (s.f Fl.THM_PSEN_PINN p) limit) s
  let s := clearFault Fl.SFY_PSTAT_PBRK p (!s.pinIsBroken p) s
  clearFault Fl.SFY_PSTAT_LOCKF p (s.b Fl.SFY_PSTAT_LOCKED p || s.b Fl.SFY_PSTAT_UNLOCKED p) s

theorem faultClear_eq (p : Nat) (s : State) : faultClear p s =
    refreshPort p ((pinsCleared p (contactorsCleared p s)).setSp p fun x => { x with weldReset := false }) := rfl

theorem contactorsCleared_reads (p : Nat) (s : State) : ClearReads s (contactorsCleared p s) := by
  have h0 : ClearReads s s := ⟨.refl _ s, rfl, rfl, rfl⟩
  exact (((h0.clear (by decide) p _).clear (by decide) p _).clear (by decide) p _).clear (by decide) p _

theorem contactorsCleared_shows {p : Nat} (hp : p < 48) (s : State) :
    fieldOf (contactorsCleared p s).regs Fl.SFY_PSTAT_FAILCL p =
      (if s.openFor1s p .pos && s.openFor1s p .neg then 0 else fieldOf s.regs Fl.SFY_PSTAT_FAILCL p) ∧
    fieldOf (contactorsCleared p s).regs Fl.SFY_PSTAT_WELDP p =
      (if (s.sp p).weldReset && s.openFor1s p .pos then 0 else fieldOf s.regs Fl.SFY_PSTAT_WELDP p) ∧
    fieldOf (contactorsCleared p s).regs Fl.SFY_PSTAT_WELDN p =
      (if (s.sp p).weldReset && s.openFor1s p .neg then 0 else fieldOf s.regs Fl.SFY_PSTAT_WELDN p) ∧
    fieldOf (contactorsCleared p s).regs Fl.SFY_PSTAT_DISCREP p =
      (if s.agreesFor1s p .pos && s.agreesFor1s p .neg then 0 else fieldOf s.regs Fl.SFY_PSTAT_DISCREP p) ∧
    fieldOf (contactorsCleared p s).regs Fl.SFY_PSTAT_PBRK p = fieldOf s.regs Fl.SFY_PSTAT_PBRK p := by
  have hlt : p < R.SFY_PSTAT.count := lt_of_lt_of_le hp (by decide)
  unfold contactorsCleared
  extract_lets s1 s2 s3
  have h0 : ClearReads s s := ⟨.refl _ s, rfl, rfl, rfl⟩
  have h1 : ClearReads s s1 := h0.clear (by decide) p _
  have h2 : ClearReads s s2 := h1.clear (by decide) p _
  have h3 : ClearReads s s3 := h2.clear (by decide) p _
  have e1 : ∀ fl, Fl.SFY_PSTAT_FAILCL.apart fl = true → fieldOf s1.regs fl p = fieldOf s.regs fl p :=
    fun fl h => clearFault_apart _ _ _ s h
  have e2 : ∀ fl, Fl.SFY_PSTAT_WELDP.apart fl = true → fieldOf s2.regs fl p = fieldOf s1.regs fl p :=
    fun fl h => clearFault_apart _ _ _ s1 h
  have e3 : ∀ fl, Fl.SFY_PSTAT_WELDN.apart fl = true → fieldOf s3.regs fl p = fieldOf s2.regs fl p :=
    fun fl h => clearFault_apart _ _ _ s2 h
  have c1 : fieldOf s1.regs Fl.SFY_PSTAT_FAILCL p = ite _ 0 _ := clearFault_same hlt (by decide) rfl _ s
  have c2 : fieldOf s2.regs Fl.SFY_PSTAT_WELDP p = if (s1.sp p).weldReset && s1.openFor1s p .pos then 0 else
    fieldOf s1.regs Fl.SFY_PSTAT_WELDP p := clearFault_same hlt (by decide) rfl _ s1
  have c3 : fieldOf s3.regs Fl.SFY_PSTAT_WELDN p = if (s2.sp p).weldReset && s2.openFor1s p .neg then 0 else
    fieldOf s2.regs Fl.SFY_PSTAT_WELDN p := clearFault_same hlt (by decide) rfl _ s2
  rw [openFor1s_congr h1, sp_of_sfy h1.sfy] at c2
  rw [openFor1s_congr h2, sp_of_sfy h2.sfy] at c3
  clear_value s3 s2 s1
  refine ⟨?_, ?_, ?_, ?_, ?_⟩
  · rw [clearFault_apart _ _ _ _ (by decide), e3 _ (by decide), e2 _ (by decide), c1]
  · rw [clearFault_apart _ _ _ _ (by decide), e3 _ (by decide), c2, e1 _ (by decide)]
  · rw [clearFault_apart _ _ _ _ (by decide), c3, e2 _ (by decide), e1 _ (by decide)]
  · rw [clearFault_same hlt (by decide) rfl, agreesFor1s_congr h3, agreesFor1s_congr h3, e3 _ (by decide),
      e2 _ (by decide), e1 _ (by decide)]
  · rw [clearFault_apart _ _ _ _ (by decide), e3 _ (by decide), e2 _ (by decide), e1 _ (by decide)]

theorem pinsCleared_pbrk {p : Nat} (hp : p < 48) (s : State) :
    fieldOf (pinsCleared p s).regs Fl.SFY_PSTAT_PBRK p =
      if s.pinIsBroken p then fieldOf s.regs Fl.SFY_PSTAT_PBRK p else 0 := by
  unfold pinsCleared
  extract_lets s1 limit s2 s3
  have h0 : ClearReads s s := ⟨.refl _ s, rfl, rfl, rfl⟩
  have h2 : ClearReads s s2 := (h0.clear (by decide) p _).clear (by decide) p _
  have e2 : fieldOf s2.regs Fl.SFY_PSTAT_PBRK p = fieldOf s.regs Fl.SFY_PSTAT_PBRK p :=
    (clearFault_apart _ _ _ _ (by decide)).trans (clearFault_apart _ _ _ _ (by decide))
  have c3 := clearFault_same (fl := Fl.SFY_PSTAT_PBRK) (lt_of_lt_of_le hp (by decide)) (by decide) rfl
    (!s2.pinIsBroken p) s2
  change fieldOf s3.regs _ _ = _ at c3
  rw [pinIsBroken_congr h2, e2] at c3
  clear_value s3
  rw [clearFault_apart _ _ _ _ (by decide), c3]
  cases s.pinIsBroken p <;> rfl

theorem fieldOf_pinsCleared {fl : Fld} (p i : Nat) (s : State)
    (h : fldsApart [Fl.SFY_PSTAT_IMDF, Fl.SFY_PSTAT_TCUT, Fl.SFY_PSTAT_PBRK, Fl.SFY_PSTAT_LOCKF] fl = true) :
    fieldOf (pinsCleared p s).regs fl i = fieldOf s.regs fl i := by
  unfold pinsCleared
  dsimp only
  rw [clearFault_apart _ _ _ _ (apart_of_mem h (by simp)), clearFault_apart _ _ _ _ (apart_of_mem h (by simp)),
    clearFault_apart _ _ _ _ (apart_of_mem h (by simp)), clearFault_apart _ _ _ _ (apart_of_mem h (by simp))]

theorem faultClear_clears (s : State) {p : Nat} (hp : p < 48) :
    (s.clearOk p = true → Effect (.faultClear p) s fun u =>
      u.f Fl.SFY_PSTAT_FAILCL p = (if s.openFor1s p .pos && s.openFor1s p .neg then 0 else s.f Fl.SFY_PSTAT_FAILCL p) ∧
      u.f Fl.SFY_PSTAT_WELDP p = (if (s.sp p).weldReset && s.openFor1s p .pos then 0 else s.f Fl.SFY_PSTAT_WELDP p) ∧
      u.f Fl.SFY_PSTAT_WELDN p = (if (s.sp p).weldReset && s.openFor1s p .neg then 0 else s.f Fl.SFY_PSTAT_WELDN p) ∧
      u.f Fl.SFY_PSTAT_DISCREP p = (if s.agreesFor1s p .pos && s.agreesFor1s p .neg then 0
        else s.f Fl.SFY_PSTAT_DISCREP p) ∧
      u.f Fl.SFY_PSTAT_PBRK p = if s.pinIsBroken p then s.f Fl.SFY_PSTAT_PBRK p else 0) ∧
    (s.clearOk p = false → Effect (.faultClear p) s fun u => bitOf (u.f Fl.SFY_STAT_CAUSE) 7 = true ∧
      u.reg R.SFY_PSTAT p = s.reg R.SFY_PSTAT p) := by
  have hok : s.clearOk p = true ↔ p ≤ 47 ∧ s.requestPermitted 7 p = true ∧ s.requestEnded 7 p = true ∧
      s.requestHolds 7 p 0 = true := by
    simp only [State.requestPermitted, State.requestEnded, State.requestHolds, true_and]
    exact (and_iff_right (by omega)).symm
  refine And.imp_right (fun h2 h => h2 (by rw [h]; decide)) (shroudRequest_settles (c := .faultClear p) (arg := 0)
    (r := R.SFY_PSTAT) rfl rfl hok (by decide) (by decide) fun _ => ?_)
  · obtain ⟨c1, c2, c3, c4, c5⟩ := contactorsCleared_shows hp s
    have hpb := pinsCleared_pbrk hp (contactorsCleared p s)
    rw [pinIsBroken_congr (contactorsCleared_reads p s), c5] at hpb
    change (faultClear p s).f _ _ = _ ∧ (faultClear p s).f _ _ = _ ∧ (faultClear p s).f _ _ = _ ∧
      (faultClear p s).f _ _ = _ ∧ (faultClear p s).f _ _ = _
    have hr : ∀ fl : Fld, fldsApart refreshFlds fl = true →
        fieldOf (faultClear p s).regs fl p = fieldOf (pinsCleared p (contactorsCleared p s)).regs fl p := fun fl h => by
      rw [faultClear_eq]
      exact fieldOf_refreshPort _ _ _ h
    simp only [State.f_fieldOf]
    rw [hr _ (by decide), hr _ (by decide), hr _ (by decide), hr _ (by decide), hr _ (by decide), hpb,
      fieldOf_pinsCleared _ _ _ (by decide), fieldOf_pinsCleared _ _ _ (by decide),
      fieldOf_pinsCleared _ _ _ (by decide), fieldOf_pinsCleared _ _ _ (by decide)]
    exact ⟨c1, c2, c3, c4, rfl⟩

end Sys2Proof.Machine

/-! ## Axes, the safe state and the sources of the fabric (R438 to R446) -/

namespace Sys2Proof.Machine

set_option Elab.async false

/-! ### The sample of an encoder (R438, R439) -/

/-- The phase of the two encoder levels. -/
def encoderPhase (x y : Bool) : Nat := if x then (if y then 2 else 1) else (if y then 3 else 0)

/-- Quarter steps between the levels kept and those sampled. -/
def encoderSteps (a : Nat) (la lb : Bool) (s : State) : Nat :=
  (encoderPhase la lb + 4 - encoderPhase (s.axis a).levelA (s.axis a).levelB) % 4

/-- The position after a sample. -/
def movedPos (a d : Nat) (s : State) : Int :=
  signedOf 32 (s.f Fl.SFY_POS_POS a) + (if d == 1 then 1 else if d == 3 then -1 else 0)

/-- The positions of the last 0.1 s. -/
def axisWindow (a d : Nat) (s : State) : List Int := (movedPos a d s :: (s.axis a).window).take 101

/-- What the axis keeps of a sample. -/
def axisKept (a d : Nat) (la lb : Bool) (s : State) : Axis :=
  { levelA := la, levelB := lb, window := axisWindow a d s,
    still := if movedPos a d s - (axisWindow a d s).getLastD (movedPos a d s) == 0 then (s.axis a).still + 1 else 0 }

/-- Position and speed shown. -/
def axisShown (a d : Nat) (s : State) : State :=
  s.setF Fl.SFY_POS_POS a (unsignedOf 32 (movedPos a d s)) |>.setF Fl.SFY_SPD_SPD a
    (unsignedOf 32 (movedPos a d s - (axisWindow a d s).getLastD (movedPos a d s)))

/-- The axis after a sample, before its limits are looked at. -/
def axisMoved (a d : Nat) (la lb lz : Bool) (s : State) : State :=
  let s' := axisShown a d s
  ({ s' with sfy.axis := s'.sfy.axis.setIfInBounds a (axisKept a d la lb s) } : State).when lz fun s =>
    s.setB Fl.SFY_ACFG_REFD a true

theorem axisSample_eq (a : Nat) (la lb lz : Bool) (s : State) :
    let d := encoderSteps a la lb s
    let v := axisMoved a d la lb lz s
    axisSample a la lb lz s =
      if v.b Fl.SFY_ACFG_EN a && !v.b Fl.SFY_ASTAT_VIOL a && (d == 2 || v.axisViolates a) then axisViolation a v
      else v := by
  have hph : ∀ x y : Bool, (match x, y with
      | false, false => 0 | true, false => 1 | true, true => 2 | false, true => 3) = encoderPhase x y := fun x y => by
    cases x <;> cases y <;> rfl
  unfold axisSample encoderSteps
  simp only [← hph]
  rfl

theorem fieldOf_axisMoved {fl : Fld} (a d : Nat) (la lb lz : Bool) (i : Nat) (s : State)
    (h : fldsApart [Fl.SFY_POS_POS, Fl.SFY_SPD_SPD, Fl.SFY_ACFG_REFD] fl = true) :
    fieldOf (axisMoved a d la lb lz s).regs fl i = fieldOf s.regs fl i := by
  rw [axisMoved, fieldOf_when fun u => fieldOf_setB_apart u _ _ _ _ _ (apart_of_mem h (by simp))]
  exact (fieldOf_setF_apart _ _ _ _ _ _ (apart_of_mem h (by simp))).trans
    (fieldOf_setF_apart _ _ _ _ _ _ (apart_of_mem h (by simp)))

theorem regOf_axisMoved_astat (a d : Nat) (la lb lz : Bool) (s : State) :
    regOf (axisMoved a d la lb lz s).regs R.SFY_ASTAT a = regOf s.regs R.SFY_ASTAT a := by
  have hshown : regOf (axisShown a d s).regs R.SFY_ASTAT a = regOf s.regs R.SFY_ASTAT a :=
    (regOf_setF_apart _ _ _ _ _ _ (by decide)).trans (regOf_setF_apart _ _ _ _ _ _ (by decide))
  cases lz
  · exact hshown
  · exact (regOf_setF_apart _ Fl.SFY_ACFG_REFD _ _ _ _ (by decide)).trans hshown

/-- A field that covers its register. -/
theorem fieldOf_whole (regs : List (Nat × Word)) (fl : Fld) (i : Nat) (h0 : fl.lsb = 0) (hw : fl.width = 32) :
    fieldOf regs fl i = (regOf regs fl.reg i).toNat := by
  change (regOf regs fl.reg i).toNat / 2 ^ fl.lsb % 2 ^ fl.width = _
  rw [h0, hw, pow_zero, Nat.div_one]
  exact Nat.mod_eq_of_lt (regOf regs fl.reg i).isLt

/-- A step of a position, in the 32 bits of its register. -/
theorem unsignedOf_step (x : Word) (k : Int) : BitVec.ofNat 32 (unsignedOf 32 (signedOf 32 x.toNat + k)) =
    x + BitVec.ofInt 32 k := by
  have hs : signedOf 32 x.toNat = x.toInt := by
    rw [BitVec.toInt_eq_toNat_cond, signedOf, Nat.mod_eq_of_lt x.isLt]
    have hx := x.isLt
    split <;> split <;> omega
  rw [hs]
  have hof : BitVec.ofNat 32 (unsignedOf 32 (x.toInt + k)) = BitVec.ofInt 32 (x.toInt + k) := by
    apply BitVec.eq_of_toNat_eq
    rw [BitVec.toNat_ofNat, BitVec.toNat_ofInt, unsignedOf]
    omega
  rw [hof, BitVec.ofInt_add, BitVec.ofInt_toInt]

theorem axisMoved_pos {a : Nat} (ha : a < 8) (d : Nat) (la lb lz : Bool) (s : State) :
    (axisMoved a d la lb lz s).reg R.SFY_POS a =
      s.reg R.SFY_POS a + (if d = 1 then 1 else if d = 3 then -1 else 0) := by
  have hpos : fieldOf (axisMoved a d la lb lz s).regs Fl.SFY_POS_POS a = unsignedOf 32 (movedPos a d s) % 2 ^ 32 := by
    rw [axisMoved, fieldOf_when fun u => fieldOf_setB_apart u _ _ _ _ _ (by decide)]
    exact (fieldOf_setF_apart _ _ _ _ _ _ (by decide)).trans
      (fieldOf_setF_same _ _ _ _ (lt_of_lt_of_le ha (by decide)) (by decide))
  rw [fieldOf_whole _ _ _ rfl rfl] at hpos
  have hreg : (axisMoved a d la lb lz s).reg R.SFY_POS a = BitVec.ofNat 32 (unsignedOf 32 (movedPos a d s)) := by
    rw [State.reg_regOf]
    exact BitVec.eq_of_toNat_eq (hpos.trans (BitVec.toNat_ofNat _ _).symm)
  rw [hreg, movedPos, State.f_fieldOf, fieldOf_whole _ _ _ rfl rfl, unsignedOf_step, State.reg_regOf]
  congr 1
  by_cases h1 : d = 1
  · rw [h1]; rfl
  by_cases h3 : d = 3
  · rw [h3]; rfl
  rw [if_neg h1, if_neg h3, if_neg (by simpa using h1), if_neg (by simpa using h3)]
  rfl

/-- The fields that an axis violation writes. -/
def violationFlds : List Fld :=
  [Fl.SFY_ASTAT_VIOL, Fl.SFY_ASTAT_ENABLED, Fl.SFY_STAT_CAUSE, Fl.EVT_PEND_PEND] ++ coilFlds ++ refreshFlds

/-- The axis disabled by a violation. -/
def axisDisabled (a : Nat) (s : State) : State :=
  ((coilOff (s.f Fl.SFY_ACFG_ENCO a) s).setB Fl.SFY_ASTAT_VIOL a true).setB Fl.SFY_ASTAT_ENABLED a false

theorem axisViolation_eq (a : Nat) (s : State) : ∃ c p, axisViolation a s =
    sfyCause 6 ((axisDisabled a s).when c (demandPort 2 false p)) := ⟨_, _, rfl⟩

theorem axisViolation_stands (a : Nat) (s : State) : FieldsStand violationFlds s (axisViolation a s) := by
  intro fl i h
  obtain ⟨c, p, he⟩ := axisViolation_eq a s
  have hc : fldsApart coilFlds fl = true := List.all_eq_true.mpr fun f hf => apart_of_mem h (by simp [violationFlds,
    hf])
  have hr : fldsApart refreshFlds fl = true :=
    List.all_eq_true.mpr fun f hf => apart_of_mem h (by simp [violationFlds, hf])
  rw [he, fieldOf_sfyCause _ _ _ (apart_of_mem h (by simp [violationFlds])) (apart_of_mem h (by simp [violationFlds])),
    fieldOf_when fun u => fieldOf_demandPort _ _ _ _ u hr, axisDisabled,
    fieldOf_setB_apart _ _ _ _ _ _ (apart_of_mem h (by simp [violationFlds])),
    fieldOf_setB_apart _ _ _ _ _ _ (apart_of_mem h (by simp [violationFlds])), fieldOf_coilOff _ _ _ hc]

theorem axisViolation_shows {a : Nat} (ha : a < 8) (s : State) :
    fieldOf (axisViolation a s).regs Fl.SFY_ASTAT_VIOL a = 1 ∧
    fieldOf (axisViolation a s).regs Fl.SFY_ASTAT_ENABLED a = 0 ∧
    bitOf (fieldOf (axisViolation a s).regs Fl.SFY_STAT_CAUSE 0) 6 = true := by
  have hlt : a < R.SFY_ASTAT.count := lt_of_lt_of_le ha (by decide)
  obtain ⟨c, p, he⟩ := axisViolation_eq a s
  rw [he]
  refine ⟨?_, ?_, sfyCause_shows 6 (by decide) _⟩
  · rw [fieldOf_sfyCause _ _ _ (by decide) (by decide), fieldOf_when fun u => fieldOf_demandPort _ _ _ _ u (by decide),
      axisDisabled, fieldOf_setB_apart _ _ _ _ _ _ (by decide)]
    exact fieldOf_setB_same _ _ _ _ hlt (by decide) (by decide)
  · rw [fieldOf_sfyCause _ _ _ (by decide) (by decide), fieldOf_when fun u => fieldOf_demandPort _ _ _ _ u (by decide)]
    exact fieldOf_setB_same _ _ _ _ hlt (by decide) (by decide)

theorem axisViolates_congr {s t : State} (h : FieldsStand violationFlds s t) (a : Nat) :
    t.axisViolates a = s.axisViolates a := by
  have hr : t.b Fl.SFY_ACFG_REFD a = s.b Fl.SFY_ACFG_REFD a := b_of_field (h _ _ (by decide))
  have hk : t.limitSet a = s.limitSet a := by
    rw [State.limitSet, State.limitSet, hr, f_of_field (h Fl.SFY_ACFG_SET a (by decide))]
  unfold State.axisViolates
  dsimp only
  rw [hk, hr, f_of_field (h Fl.SFY_SPD_SPD a (by decide)), f_of_field (h Fl.SFY_POS_POS a (by decide)),
    f_of_field (h Fl.SFY_LIMA_DIR _ (by decide)), f_of_field (h Fl.SFY_LIMA_SPDMAX _ (by decide)),
    f_of_field (h Fl.SFY_LIMB_POSMIN _ (by decide)), f_of_field (h Fl.SFY_LIMC_POSMAX _ (by decide))]

theorem axisMoved_refd {a : Nat} (ha : a < 8) (d : Nat) (la lb : Bool) (s : State) :
    fieldOf (axisMoved a d la lb true s).regs Fl.SFY_ACFG_REFD a = 1 :=
  fieldOf_setB_same _ _ _ _ (lt_of_lt_of_le ha (by decide)) (by decide) (by decide)

/-- What a sample of an encoder does, in the words of the statement. -/
structure AxisSampled (a d : Nat) (lz : Bool) (s u : State) : Prop where
  pos : u.reg R.SFY_POS a = s.reg R.SFY_POS a + (if d = 1 then 1 else if d = 3 then -1 else 0)
  refd : lz = true → u.f Fl.SFY_ACFG_REFD a = 1
  violates : (s.f Fl.SFY_ACFG_EN a = 1 ∧ s.f Fl.SFY_ASTAT_VIOL a = 0) → d = 2 ∨ u.axisViolates a = true →
    u.f Fl.SFY_ASTAT_VIOL a = 1 ∧ u.f Fl.SFY_ASTAT_ENABLED a = 0 ∧ bitOf (u.f Fl.SFY_STAT_CAUSE) 6 = true
  keeps : (s.f Fl.SFY_ACFG_EN a = 1 ∧ s.f Fl.SFY_ASTAT_VIOL a = 0) → d ≠ 2 → u.axisViolates a = false →
    u.reg R.SFY_ASTAT a = s.reg R.SFY_ASTAT a

theorem axisSample_samples {a : Nat} (ha : a < 8) (la lb lz : Bool) (s : State) :
    Effect (.axisSample a la lb lz) s (AxisSampled a (encoderSteps a la lb s) lz s) := by
  refine effect_done (congrArg done ((if_pos ha).trans (axisSample_eq a la lb lz s))) ?_
  generalize encoderSteps a la lb s = d
  have hpos := axisMoved_pos ha d la lb lz s
  have hen : (axisMoved a d la lb lz s).b Fl.SFY_ACFG_EN a = s.b Fl.SFY_ACFG_EN a :=
    b_of_field (fieldOf_axisMoved _ _ _ _ _ _ _ (by decide))
  have hvi : (axisMoved a d la lb lz s).b Fl.SFY_ASTAT_VIOL a = s.b Fl.SFY_ASTAT_VIOL a :=
    b_of_field (fieldOf_axisMoved _ _ _ _ _ _ _ (by decide))
  have hrefd : lz = true → fieldOf (axisMoved a d la lb lz s).regs Fl.SFY_ACFG_REFD a = 1 := fun h => by
    rw [h]
    exact axisMoved_refd ha d la lb s
  have hst := regOf_axisMoved_astat a d la lb lz s
  generalize axisMoved a d la lb lz s = v at hpos hen hvi hrefd hst
  rw [hen, hvi]
  split
  · next hc =>
    have hstand := axisViolation_stands a v
    obtain ⟨h1, h2, h3⟩ := axisViolation_shows ha v
    have hr : (axisViolation a v).reg R.SFY_POS a = v.reg R.SFY_POS a := by
      have := hstand Fl.SFY_POS_POS a (by decide)
      rw [fieldOf_whole _ _ _ rfl rfl, fieldOf_whole _ _ _ rfl rfl] at this
      rw [State.reg_regOf, State.reg_regOf]
      exact BitVec.eq_of_toNat_eq this
    have hvv := axisViolates_congr hstand a
    have hrf := hstand Fl.SFY_ACFG_REFD a (by decide)
    generalize axisViolation a v = u at h1 h2 h3 hr hvv hrf
    refine ⟨hr.trans hpos, fun h => ?_, fun _ _ => ?_, fun _ hd hu => ?_⟩
    · rw [State.f_fieldOf, hrf, hrefd h]
    · simp only [State.f_fieldOf]
      exact ⟨h1, h2, h3⟩
    · rw [hvv] at hu
      simp [hu, hd] at hc
  · next hc =>
    refine ⟨hpos, fun h => by rw [State.f_fieldOf, hrefd h], fun hl hd => ?_, fun _ _ _ => hst⟩
    rw [b_true hl.1, b_false hl.2] at hc
    refine absurd ?_ hc
    rcases hd with hd | hd <;> simp [hd]

/-! ### The safe state (R436) -/

/-- Every output of the shroud is off. -/
structure OutputsOff (u : State) : Prop where
  coils : CoilsOff u
  axes : ∀ a, a < 8 → fieldOf u.regs Fl.SFY_ASTAT_ENABLED a = 0

/-- SAFE and its cause shown. -/
def safeShown (cause : Nat) (s : State) : State :=
  s.setB Fl.SFY_STAT_SAFE 0 true |>.setF Fl.SFY_STAT_SAFECAUSE 0 cause

/-- Every pole released. -/
def allReleased (s : State) : State := (s.each 48 coilOff).each 48 releasePoles

/-- Every axis disabled. -/
def axesOff (s : State) : State := s.each 8 fun a s => s.setB Fl.SFY_ASTAT_ENABLED a false

theorem safeState_eq {s : State} (h : s.f Fl.SFY_STAT_SAFE = 0) (cause : Nat) : safeState cause s =
    sfyCause 0 ((axesOff (allReleased (safeShown cause s))).each 72 showSource) := by
  unfold safeState
  exact if_neg (by rw [b_false h]; decide)

theorem releasePoles_coil_keeps (p : Nat) {n : Nat} {s : State} (h : fieldOf s.regs Fl.SFY_COIL_ON n = 0) :
    fieldOf (releasePoles p s).regs Fl.SFY_COIL_ON n = 0 := by
  rw [releasePoles_eq, fieldOf_refreshPort _ _ _ (by decide)]
  change fieldOf (polesOff p s).regs _ _ = 0
  unfold polesOff
  dsimp only
  rw [fieldOf_setB_apart _ _ _ _ _ _ (by decide), fieldOf_setB_apart _ _ _ _ _ _ (by decide),
    fieldOf_setB_apart _ _ _ _ _ _ (by decide)]
  exact coilOff_keeps _ (coilOff_keeps _ h)

theorem allReleased_off (s : State) : CoilsOff (allReleased s) := by
  intro n hn
  refine ⟨State.each_induct (P := fun u => fieldOf u.regs Fl.SFY_COIL_ON n = 0)
    (fun p u hu => releasePoles_coil_keeps p hu) (coilsAllOff hn s) 48, ?_, ?_⟩
  · refine State.each_once (R := fun _ => True) (Q := fun u => fieldOf u.regs Fl.SFY_PSTAT_POSCMD n = 0) hn
      (fun _ _ _ _ => trivial) (fun p u hp hu => ?_) (fun u _ => (releasePoles_releases hn u).1.pos) trivial
    exact (fieldOf_releasePoles_other hp u rfl (by decide)).trans hu
  · refine State.each_once (R := fun _ => True) (Q := fun u => fieldOf u.regs Fl.SFY_PSTAT_NEGCMD n = 0) hn
      (fun _ _ _ _ => trivial) (fun p u hp hu => ?_) (fun u _ => (releasePoles_releases hn u).1.neg) trivial
    exact (fieldOf_releasePoles_other hp u rfl (by decide)).trans hu

theorem axesOff_enabled {a : Nat} (ha : a < 8) (s : State) :
    fieldOf (axesOff s).regs Fl.SFY_ASTAT_ENABLED a = 0 := by
  refine State.each_once (R := fun _ => True) (Q := fun u => fieldOf u.regs Fl.SFY_ASTAT_ENABLED a = 0) ha
    (fun _ _ _ _ => trivial) (fun b u hb hu => ?_) (fun u _ => ?_) trivial
  · exact (fieldOf_setF_member u _ _ hb).trans hu
  · exact fieldOf_setB_same _ _ _ _ (lt_of_lt_of_le ha (by decide)) (by decide) (by decide)

theorem fieldOf_axesOff {fl : Fld} (i : Nat) (s : State) (h : Fl.SFY_ASTAT_ENABLED.apart fl = true) :
    fieldOf (axesOff s).regs fl i = fieldOf s.regs fl i :=
  State.each_induct (P := fun u => fieldOf u.regs fl i = fieldOf s.regs fl i)
    (fun a u hu => (fieldOf_setB_apart _ _ _ _ _ _ h).trans hu) rfl 8

theorem allSources_stand (s : State) : FieldsStand sourceFlds s (s.each 72 showSource) :=
  State.each_induct (P := FieldsStand sourceFlds s) (fun i u hu => hu.trans (showSource_stands i u)) (.refl _ s) 72

/-- The registers that releasing poles writes. -/
theorem fieldOf_allReleased {fl : Fld} (i : Nat) (s : State)
    (h : (!regsIn [R.SFY_COIL, R.SFY_PSTAT] fl.reg.addr && decide (fl.reg.count ≤ 65536)) = true) :
    fieldOf (allReleased s).regs fl i = fieldOf s.regs fl i :=
  State.each_induct (P := fun u => fieldOf u.regs fl i = fieldOf s.regs fl i)
    (fun p u hu => (fieldOf_onlyRegs (l := [R.SFY_COIL, R.SFY_PSTAT])
      (releasePoles_writes (by decide) (by decide) rfl p u) i h).trans hu)
    (State.each_induct (P := fun u => fieldOf u.regs fl i = fieldOf s.regs fl i)
      (fun p u hu => (fieldOf_onlyRegs (l := [R.SFY_COIL,
        R.SFY_PSTAT]) (coilOff_writes (by decide) p u) i h).trans hu) rfl 48) 48

theorem safeState_safe {s : State} (h : s.f Fl.SFY_STAT_SAFE = 0) {k : Nat} (hk : k < 4) :
    let u := safeState k s
    fieldOf u.regs Fl.SFY_STAT_SAFE 0 = 1 ∧ fieldOf u.regs Fl.SFY_STAT_SAFECAUSE 0 = k ∧
      bitOf (fieldOf u.regs Fl.SFY_STAT_CAUSE 0) 0 = true ∧ OutputsOff u := by
  have hsafe : fieldOf (safeShown k s).regs Fl.SFY_STAT_SAFE 0 = 1 :=
    (fieldOf_setF_apart _ _ _ _ _ _ (by decide)).trans (fieldOf_setB_same _ _ _ _ (by decide) (by decide) (by decide))
  have hcause : fieldOf (safeShown k s).regs Fl.SFY_STAT_SAFECAUSE 0 = k := by
    have hw : k < 2 ^ Fl.SFY_STAT_SAFECAUSE.width := lt_of_lt_of_le hk (by decide)
    exact fieldOf_setF_fits _ _ _ _ (by decide) (by decide) hw
  have hoff := allReleased_off (safeShown k s)
  have hs1 := (fieldOf_allReleased 0 (safeShown k s) (fl := Fl.SFY_STAT_SAFE) (by decide)).trans hsafe
  have hs2 := (fieldOf_allReleased 0 (safeShown k s) (fl := Fl.SFY_STAT_SAFECAUSE) (by decide)).trans hcause
  dsimp only
  rw [safeState_eq h]
  generalize allReleased (safeShown k s) = v at hoff hs1 hs2
  have hst := allSources_stand (axesOff v)
  have hax := fun a (ha : a < 8) => axesOff_enabled ha v
  have hkeep := fun (fl : Fld) i (hf : Fl.SFY_ASTAT_ENABLED.apart fl = true) (hf' : fldsApart sourceFlds fl = true) =>
    (hst fl i hf').trans (fieldOf_axesOff i v hf)
  have hax' := fun a (ha : a < 8) => (hst Fl.SFY_ASTAT_ENABLED a (by decide)).trans (hax a ha)
  generalize (axesOff v).each 72 showSource = w at hkeep hax'
  have hc : ∀ (fl : Fld) i, Fl.SFY_STAT_CAUSE.apart fl = true → Fl.EVT_PEND_PEND.apart fl = true →
      fieldOf (sfyCause 0 w).regs fl i = fieldOf w.regs fl i := fun fl i a b => fieldOf_sfyCause _ _ _ a b
  refine ⟨?_, ?_, sfyCause_shows 0 (by decide) w, fun n hn => ⟨?_, ?_, ?_⟩, fun a ha => ?_⟩
  · rw [hc _ _ (by decide) (by decide), hkeep _ _ (by decide) (by decide), hs1]
  · rw [hc _ _ (by decide) (by decide), hkeep _ _ (by decide) (by decide), hs2]
  · rw [hc _ _ (by decide) (by decide), hkeep _ _ (by decide) (by decide), (hoff n hn).1]
  · rw [hc _ _ (by decide) (by decide), hkeep _ _ (by decide) (by decide), (hoff n hn).2.1]
  · rw [hc _ _ (by decide) (by decide), hkeep _ _ (by decide) (by decide), (hoff n hn).2.2]
  · rw [hc _ _ (by decide) (by decide), hax' a ha]

/-- The safe state in the words of the statement. -/
def Safe (u : State) (k : Nat) : Prop :=
  u.f Fl.SFY_STAT_SAFE = 1 ∧ u.f Fl.SFY_STAT_SAFECAUSE = k ∧ bitOf (u.f Fl.SFY_STAT_CAUSE) 0 = true ∧
    (∀ n, n < 48 → u.f Fl.SFY_COIL_ON n = 0 ∧ u.f Fl.SFY_PSTAT_POSCMD n = 0 ∧ u.f Fl.SFY_PSTAT_NEGCMD n = 0) ∧
    ∀ a, a < 8 → u.f Fl.SFY_ASTAT_ENABLED a = 0

theorem safeState_shows {s : State} (h : s.f Fl.SFY_STAT_SAFE = 0) {k : Nat} (hk : k < 4) : Safe (safeState k s) k := by
  obtain ⟨h1, h2, h3, h4, h5⟩ := safeState_safe h hk
  simp only [Safe, State.f_fieldOf]
  exact ⟨h1, h2, h3, h4, h5⟩

/-- The longest cycle shown. -/
def cycleShown (t : Nat) (s : State) : State :=
  s.setF Fl.SFY_DIAG_CYCMAX 0 (max (s.f Fl.SFY_DIAG_CYCMAX) (min t 65535))

theorem cycle_overrun (s : State) (t : Nat) : Effect (.cycleOverrun t) s fun u =>
    u.f Fl.SFY_DIAG_CYCMAX = max (s.f Fl.SFY_DIAG_CYCMAX) (min t 65535) ∧
    (1000 < t → s.f Fl.SFY_STAT_SAFE = 0 → Safe u 3) ∧ (t ≤ 1000 → u.f Fl.SFY_STAT_SAFE = s.f Fl.SFY_STAT_SAFE) := by
  have hv : max (s.f Fl.SFY_DIAG_CYCMAX) (min t 65535) < 2 ^ Fl.SFY_DIAG_CYCMAX.width := by
    have := State.f_lt s Fl.SFY_DIAG_CYCMAX 0
    have hw : (2 : Nat) ^ Fl.SFY_DIAG_CYCMAX.width = 65536 := rfl
    omega
  have hmax : fieldOf (cycleShown t s).regs Fl.SFY_DIAG_CYCMAX 0 = _ :=
    fieldOf_setF_fits s _ _ _ (by decide) (by decide) hv
  have hsafe : fieldOf (cycleShown t s).regs Fl.SFY_STAT_SAFE 0 = fieldOf s.regs Fl.SFY_STAT_SAFE 0 :=
    fieldOf_setF_apart s _ _ _ _ _ (by decide)
  refine effect_done (u := (cycleShown t s).when (1000 < t) (safeState 3)) rfl ?_
  generalize cycleShown t s = v at hmax hsafe
  by_cases ht : 1000 < t
  · rw [decide_eq_true ht, State.when_true]
    refine ⟨?_, fun _ h0 => safeState_shows ((f_of_field hsafe).trans h0) (by decide), fun h => absurd h (by omega)⟩
    rw [State.f_fieldOf, fieldOf_onlyRegs
      (l := [R.EVT_PEND, R.SFY_ASTAT, R.SFY_COIL, R.SFY_PSTAT, R.SFY_SRC, R.SFY_STAT]) (safeState_writes
      (by decide) (by decide) (by decide) (by decide) (by decide) (by decide) rfl 3 v) 0 (by decide), hmax]
  · rw [decide_eq_false ht, State.when_false]
    exact ⟨hmax, fun h => absurd h ht, fun _ => f_of_field hsafe⟩

theorem scrub_counts (s : State) (n : Nat) : Effect (.memoryScrub n) s fun u =>
    u.f Fl.SFY_DIAG_ECC = min 65535 (s.f Fl.SFY_DIAG_ECC + n) := by
  refine effect_done rfl ?_
  rw [State.f_fieldOf, State.f_fieldOf]
  exact fieldOf_satF_same _ _ _ _ (by decide) (by decide)

end Sys2Proof.Machine

/-! ## Source changes, the request slots and the cycle of the shroud (R416, R422, R423) -/

namespace Sys2Proof.Machine

set_option Elab.async false

/-! ### A change of a source (R441) -/

/-- A changed level of source `i`. -/
def levelled (i : Nat) (high : Bool) (s : State) : State :=
  if i < 64 then { s with sfy.levels := if high then setBit s.sfy.levels i else clearBit s.sfy.levels i }
  else s.setB Fl.SFY_SRC_SET i high

theorem setSource_eq (i : Nat) (high : Bool) (s : State) : setSource i high s =
    evalFabric (showSource i (levelled i high s)) := rfl

theorem levelled_stands {fl : Fld} (i k : Nat) (high : Bool) (s : State) (h : Fl.SFY_SRC_SET.apart fl = true) :
    fieldOf (levelled i high s).regs fl k = fieldOf s.regs fl k := by
  unfold levelled
  split
  · rfl
  · exact fieldOf_setB_apart _ _ _ _ _ _ h

theorem levelled_active {i : Nat} (hi : i < 32) (high : Bool) (s : State) :
    (levelled i high s).sourceActive i = (high != s.b Fl.SFY_SRC_POL i) := by
  have hl : levelled i high s =
      { s with sfy.levels := if high then setBit s.sfy.levels i else clearBit s.sfy.levels i } :=
    if_pos (by omega)
  have hbit : bitOf (levelled i high s).sfy.levels i = high := by
    rw [hl]
    cases high
    · rw [if_neg (by decide), bitOf_clearBit]
    · rw [if_pos rfl]
      simp [bitOf, setBit]
  have hp : (levelled i high s).b Fl.SFY_SRC_POL i = s.b Fl.SFY_SRC_POL i :=
    b_of_field (levelled_stands _ _ _ _ (by decide))
  rw [State.sourceActive, if_pos (by omega), hbit, hp, decide_eq_false (by omega), Bool.false_and, Bool.not_false,
    Bool.and_true]

/-- The registers that a source change writes beside the fabric. -/
def tailRegs : List Rg := [R.CLN_LANEEV, R.CLN_LANESTAT, R.EVT_PEND, R.SFY_PSTAT]

/-- The ports whose insulation input went are refreshed. -/
def imdPort (i p : Nat) (s : State) : State :=
  if s.b Fl.SFY_PIMD_IMDEN p && s.f Fl.SFY_PIMD_FAULTTI p == i
  then refreshPort p (s.setSp p fun x => { x with imdSince := s.tick }) else s

/-- The zones whose input went take the present instant. -/
def zoneLeft (i z : Nat) (s : State) : State :=
  if s.f Fl.SFY_ZONE0_SRC z == i
  then { s with sfy.zoneSince := s.sfy.zoneSince.setIfInBounds z s.tick } else s

/-- What a source change does beside the fabric. -/
def sourceTail (was : Bool) (i : Nat) (high : Bool) (s : State) : State :=
  let s := s.when (32 ≤ i && i < 64) (laneTripLevel (i - 32) (!high))
  if i < 32 && was && !s.b Fl.SFY_SRC_ACT i then (s.each 4 (zoneLeft i)).each 48 (imdPort i) else s

theorem sourceChange_eq {i : Nat} (hi : i < 72) (high : Bool) (s : State) :
    sourceChange i high s = sourceTail (s.b Fl.SFY_SRC_ACT i) i high (setSource i high s) := by
  unfold sourceChange
  exact if_neg (by omega)

theorem fieldOf_sourceTail {fl : Fld} (was : Bool) (i k : Nat) (high : Bool) (s : State)
    (h : (!regsIn tailRegs fl.reg.addr && decide (fl.reg.count ≤ 65536)) = true) :
    fieldOf (sourceTail was i high s).regs fl k = fieldOf s.regs fl k := by
  have hl : ∀ u, fieldOf (laneTripLevel (i - 32) (!high) u).regs fl k = fieldOf u.regs fl k := fun u =>
    fieldOf_onlyRegs (l := tailRegs) (laneTripLevel_writes (by decide) (by decide) (by decide) _ _ u) k h
  have hz : ∀ z u, fieldOf (zoneLeft i z u).regs fl k = fieldOf u.regs fl k := fun z u => by
    unfold zoneLeft
    split <;> rfl
  have hp : ∀ p u, fieldOf (imdPort i p u).regs fl k = fieldOf u.regs fl k := fun p u => by
    unfold imdPort
    split
    · exact fieldOf_onlyRegs (l := tailRegs) (refreshPort_writes (by decide) p _) k h
    · rfl
  unfold sourceTail
  dsimp only
  split
  · exact State.each_induct (P := fun u => fieldOf u.regs fl k = fieldOf s.regs fl k)
      (fun p u hu => (hp p u).trans hu) (State.each_induct (P := fun u => fieldOf u.regs fl k = fieldOf s.regs fl k)
        (fun z u hu => (hz z u).trans hu) (fieldOf_when hl s _) 4) 48
  · exact fieldOf_when hl s _

theorem maskActive_of_fields {s t : State} (k : Nat)
    (h0 : fieldOf t.regs Fl.SFY_TGT0_MASK0 k = fieldOf s.regs Fl.SFY_TGT0_MASK0 k)
    (h1 : fieldOf t.regs Fl.SFY_TGT1_MASK1 k = fieldOf s.regs Fl.SFY_TGT1_MASK1 k)
    (h2 : fieldOf t.regs Fl.SFY_TGT2_MASK2 k = fieldOf s.regs Fl.SFY_TGT2_MASK2 k)
    (h3 : ∀ i, fieldOf t.regs Fl.SFY_SRC_ACT i = fieldOf s.regs Fl.SFY_SRC_ACT i) : t.maskActive k = s.maskActive k :=
      by
  simp only [State.maskActive, f_of_field h0, f_of_field h1, f_of_field h2, b_of_field (h3 _)]

/-- The targets after a source change, in the words of the statement. -/
structure TargetFollows (t : Nat) (s u : State) : Prop where
  active : u.maskActive t = true → u.f Fl.SFY_TGT3_TRIPPED t = 1
  clear : u.maskActive t = false → s.f Fl.SFY_TGT3_LATCH t = 0 → u.f Fl.SFY_TGT3_TRIPPED t = 0
  latched : s.f Fl.SFY_TGT3_LATCH t = 1 → s.f Fl.SFY_TGT3_TRIPPED t = 1 → u.f Fl.SFY_TGT3_TRIPPED t = 1

theorem evalFabric_follows {t : Nat} (ht : t < 64) {s : State} (he : s.f Fl.SFY_TGT3_EN t = 1) :
    TargetFollows t s (evalFabric s) := by
  have h := evalFabric_trips ht (b_true he)
  rw [← State.f_fieldOf] at h
  refine ⟨fun ha => ?_, fun ha hl => ?_, fun hl h1 => ?_⟩
  · rw [h, if_pos ha]
  · rw [h, ha, b_false hl]
    rfl
  · rw [h, tripLevel, b_true hl, ← State.f_fieldOf, h1]
    simp

theorem sourceChange_follows {i : Nat} (hi : i < 72) (high : Bool) (s : State) :
    Effect (.fabricSourceChange i high) s fun u =>
      (i < 32 → u.f Fl.SFY_SRC_ACT i = b2n (high != s.b Fl.SFY_SRC_POL i)) ∧
      ∀ t, t < 64 → s.f Fl.SFY_TGT3_EN t = 1 → TargetFollows t s u := by
  refine effect_done (congrArg done (sourceChange_eq hi high s)) ?_
  rw [setSource_eq]
  have hw : ∀ (fl : Fld) k, Fl.SFY_SRC_SET.apart fl = true → fldsApart sourceFlds fl = true →
      fieldOf (showSource i (levelled i high s)).regs fl k = fieldOf s.regs fl k := fun fl k h1 h2 =>
    (showSource_stands i _ fl k h2).trans (levelled_stands i k high s h1)
  have hact : i < 32 → fieldOf (showSource i (levelled i high s)).regs Fl.SFY_SRC_ACT i =
      b2n (high != s.b Fl.SFY_SRC_POL i) := fun h => by
    rw [showSource_shows hi, levelled_active h]
  generalize showSource i (levelled i high s) = w at hw hact
  have htail := fun (fl : Fld) k => fieldOf_sourceTail (fl := fl) (s.b Fl.SFY_SRC_ACT i) i k high (evalFabric w)
  generalize sourceTail (s.b Fl.SFY_SRC_ACT i) i high (evalFabric w) = u at htail
  refine ⟨fun h => ?_, fun t ht he => ?_⟩
  · rw [State.f_fieldOf, htail _ _ (by decide), evalFabric_low h, hact h]
  · have hf := fun (fl : Fld) k h1 h2 => f_of_field (hw fl k h1 h2)
    obtain ⟨h1, h2, h3⟩ := evalFabric_follows ht ((hf Fl.SFY_TGT3_EN t (by decide) (by decide)).trans he)
    have hm : u.maskActive t = (evalFabric w).maskActive t := maskActive_of_fields t (htail _ _ (by decide))
      (htail _ _ (by decide)) (htail _ _ (by decide)) fun _ => htail _ _ (by decide)
    have hu : u.f Fl.SFY_TGT3_TRIPPED t = (evalFabric w).f Fl.SFY_TGT3_TRIPPED t := f_of_field (htail _ _ (by decide))
    rw [hf _ t (by decide) (by decide)] at h2 h3
    rw [hf _ t (by decide) (by decide)] at h3
    exact ⟨fun h => hu.trans (h1 (hm ▸ h)), fun h hl => hu.trans (h2 (hm ▸ h) hl), fun hl ht => hu.trans (h3 hl ht)⟩

/-! ### The words of the request area -/

theorem State.word_congr {s t : State} {a : Nat} (h : ∀ i, i < 4 → t.byte (a + i) = s.byte (a + i)) :
    t.word a = s.word a := by
  unfold State.word State.bytes
  rw [List.map_congr_left fun i hi => h i (List.mem_range.mp hi)]

theorem State.word_setWord_apart (s : State) {a b : Nat} (v : Word) (h : b + 4 ≤ a ∨ a + 4 ≤ b) :
    (s.setWord a v).word b = s.word b :=
  State.word_congr fun i hi => State.byte_setBytes_outside _ s a (b + i) (by rw [leBytes_length]; omega)

theorem State.word_setWord_same (s : State) (a : Nat) (v : Word) : (s.setWord a v).word a = v := by
  have hbytes : (s.setWord a v).bytes a 4 = leBytes 4 v.toNat := by
    refine List.ext_getElem (by rw [leBytes_length]; simp [State.bytes]) fun i h1 h2 => ?_
    simp only [State.bytes, List.getElem_map, List.getElem_range]
    exact State.byte_setBytes_inside _ s a i h2
  rw [State.word, hbytes, leNat_leBytes, show 256 ^ 4 = 2 ^ 32 from rfl, Nat.mod_eq_of_lt v.isLt]
  exact BitVec.ofNat_toNat 32 v

theorem State.word_of_mem {s t : State} (h : t.mem = s.mem) (a : Nat) : t.word a = s.word a := by
  rw [State.word, State.word, State.bytes_congr h]

/-! ### Request slots -/

/-- What the cycle writes outside the shroud's ports: nothing of memory and no acknowledgement. -/
structure SlotsStand (s t : State) : Prop where
  mem : t.mem = s.mem
  acked : t.sfy.acked = s.sfy.acked

theorem SlotsStand.refl (s : State) : SlotsStand s s := ⟨rfl, rfl⟩

theorem SlotsStand.trans {s t u : State} (h : SlotsStand s t) (h' : SlotsStand t u) : SlotsStand s u :=
  ⟨h'.mem.trans h.mem, h'.acked.trans h.acked⟩

/-- Everything but memory. -/
def butMem : Part := { butSfy with sfy := true, mem := false }

/-- What leaves memory and the shroud's own state. -/
def sfyMem : Part := { butSfy with mem := false }

theorem SlotsStand.of_without {s t : State} (h : t.without sfyMem = s.without sfyMem) : SlotsStand s t :=
  ⟨State.mem_of_without h rfl, by rw [State.sfy_of_without h rfl]⟩

theorem setSp_slots (p : Nat) (f : SfyPort → SfyPort) (s : State) : SlotsStand s (s.setSp p f) := ⟨rfl, rfl⟩

theorem refreshPort_slots (p : Nat) (s : State) : SlotsStand s (refreshPort p s) :=
  .of_without (refreshPort_writes rfl p s)

theorem coilOff_slots (n : Nat) (s : State) : SlotsStand s (coilOff n s) := .of_without (coilOff_writes rfl n s)

theorem setB_slots (s : State) (fl : Fld) (i : Nat) (v : Bool) : SlotsStand s (s.setB fl i v) :=
  ⟨State.setF_mem .., by rw [State.setB, State.setF_sfy]⟩

theorem releasePoles_slots (p : Nat) (s : State) : SlotsStand s (releasePoles p s) := by
  rw [releasePoles_eq]
  refine (SlotsStand.trans (.trans ?_ (setSp_slots p _ _)) (refreshPort_slots p _))
  unfold polesOff
  exact ((((coilOff_slots _ s).trans (coilOff_slots _ _)).trans (setB_slots ..)).trans (setB_slots ..)).trans
    (setB_slots ..)

theorem releaseDue_slots (p : Nat) (e : Bool) (s : State) : SlotsStand s (releaseDue p e s) := by
  unfold releaseDue
  split
  · exact releasePoles_slots p s
  · exact .refl s

theorem demandPort_slots (trel : Nat) (stop : Bool) (p : Nat) (s : State) : SlotsStand s (demandPort trel stop p s) :=
  by
  obtain ⟨v, l, he⟩ := demandPort_parts trel stop p s
  exact ⟨State.mem_of_without (A := { butSfy with sfy := true, mem := false }) (demandPort_writes rfl rfl trel stop p
    s) rfl,
    by rw [he]⟩

theorem faultClear_slots (p : Nat) (s : State) : SlotsStand s (faultClear p s) := by
  rw [faultClear_eq]
  have hclear : ∀ fl c u, SlotsStand u (clearFault fl p c u) := fun fl c u => by
    unfold clearFault
    split
    · exact setB_slots ..
    · exact .refl u
  have hcon : SlotsStand s (contactorsCleared p s) :=
    (((hclear _ _ s).trans (hclear _ _ _)).trans (hclear _ _ _)).trans (hclear _ _ _)
  have hpin : ∀ u, SlotsStand u (pinsCleared p u) := fun u =>
    (((hclear _ _ u).trans (hclear _ _ _)).trans (hclear _ _ _)).trans (hclear _ _ _)
  exact ((hcon.trans (hpin _)).trans (setSp_slots p _ _)).trans (refreshPort_slots p _)

theorem requestAct_slots (kind target arg : Nat) (s : State) : SlotsStand s (requestAct kind target arg s) := by
  unfold requestAct
  split
  · exact demandPort_slots ..
  · exact .of_without (zoneToIdle_writes rfl rfl target s)
  · exact ⟨State.setF_mem .., by rw [State.setF_sfy]⟩
  · exact (SlotsStand.of_without (coilOn_writes rfl _ s)).trans ((setB_slots ..).trans (setB_slots ..))
  · exact setSp_slots ..
  · exact (setB_slots ..).trans (.of_without (evalFabric_writes rfl rfl rfl rfl _))
  · exact faultClear_slots target s
  · exact .refl s

/-- Request slot `n` has no new request. -/
def SlotIdle (n : Nat) (s : State) : Prop :=
  s.sfy.acked.toList.getD n none = some ((s.word (0x28000000 + 32 * n)).toNat / 2 ^ 16) ∨
    s.sfy.acked.toList.getD n none = none ∧ (s.word (0x28000000 + 32 * n)).toNat = 0

theorem requestSlot_idle {n : Nat} {s : State} (h : SlotIdle n s) : requestSlot n s = s := by
  unfold requestSlot
  refine if_pos ?_
  rw [Bool.or_eq_true, Bool.and_eq_true, beq_iff_eq, beq_iff_eq, beq_iff_eq]
  exact h

/-- The status of the new request in slot `n` (R423). -/
def slotStatus (n : Nat) (s : State) : Nat :=
  let a := 0x28000000 + 32 * n
  if crc32 (s.bytes a 28) != s.word (a + 28) then 1
  else if (match s.sfy.acked.toList.getD n none with
    | none => false | some l => (l + 1) % 2 ^ 16 != (s.word a).toNat / 2 ^ 16) then 2
  else s.requestStatus ((s.word a).toNat / 256 % 256) ((s.word a).toNat % 256) (s.word (a + 4)).toNat

/-- Slot `n` acknowledges sequence number `q` with status `st`. -/
def acknowledge (n q st : Nat) (s : State) : State :=
  let s : State := { s with sfy.acked := s.sfy.acked.setIfInBounds n (some q) }
  (s.setWord (0x28000800 + 8 * n) (BitVec.ofNat 32 (q * 2 ^ 16))).setWord (0x28000804 + 8 * n) (BitVec.ofNat 32 st)

theorem requestSlot_new {n : Nat} {s : State} (h : ¬ SlotIdle n s) : ∃ t, SlotsStand s t ∧ requestSlot n s =
    acknowledge n ((s.word (0x28000000 + 32 * n)).toNat / 2 ^ 16) (slotStatus n s) t := by
  have hneg : ¬ ((s.sfy.acked.toList.getD n none == some ((s.word (0x28000000 + 32 * n)).toNat / 2 ^ 16) ||
      (s.sfy.acked.toList.getD n none == none && (s.word (0x28000000 + 32 * n)).toNat == 0)) = true) := fun hc => by
    refine h ?_
    unfold SlotIdle
    rcases Bool.or_eq_true _ _ ▸ hc with h1 | h1
    · exact .inl (beq_iff_eq.mp h1)
    · rw [Bool.and_eq_true] at h1
      exact .inr ⟨beq_iff_eq.mp h1.1, beq_iff_eq.mp h1.2⟩
  refine ⟨if slotStatus n s == 0 then requestAct _ _ _ s else sfyCause 7 s, ?_,
    by unfold requestSlot; exact if_neg hneg⟩
  split
  · exact requestAct_slots ..
  · exact ⟨State.mem_of_without (A := butMem) (sfyCause_writes rfl rfl 7 s) rfl, by rw [sfyCause_sfy]⟩

/-- What acknowledging slot `n` shows. -/
structure Acknowledged (n q st : Nat) (u : State) : Prop where
  acked : u.sfy.acked.toList.getD n none = some q
  seq : u.word (0x28000800 + 8 * n) = BitVec.ofNat 32 (q * 2 ^ 16)
  status : u.word (0x28000804 + 8 * n) = BitVec.ofNat 32 st

theorem acknowledge_sfy (n q st : Nat) (s : State) : (acknowledge n q st s).sfy.acked =
    s.sfy.acked.setIfInBounds n (some q) := by
  unfold acknowledge State.setWord
  dsimp only
  rw [State.setBytes_frame]
  dsimp only
  rw [State.setBytes_frame]

theorem acknowledge_acks {n : Nat} (hn : n < 16) (q st : Nat) (s : State) : Acknowledged n q st (acknowledge n q st s)
  := by
  refine ⟨?_, ?_, State.word_setWord_same _ _ _⟩
  · rw [acknowledge_sfy]
    exact memberOf_set_same _ _ none hn
  · exact (State.word_setWord_apart _ _ (by omega)).trans (State.word_setWord_same _ _ _)

theorem acknowledge_idle {n k : Nat} (hk : k < 16) (h : k ≠ n) (q st : Nat) {s : State} (hs : SlotIdle k s) :
    SlotIdle k (acknowledge n q st s) := by
  have hw : (acknowledge n q st s).word (0x28000000 + 32 * k) = s.word (0x28000000 + 32 * k) :=
    (State.word_setWord_apart _ _ (by omega)).trans (State.word_setWord_apart _ _ (by omega))
  have ha : (acknowledge n q st s).sfy.acked.toList.getD k none = s.sfy.acked.toList.getD k none := by
    rw [acknowledge_sfy]
    exact memberOf_set_other _ _ none h.symm
  rwa [SlotIdle, ha, hw]

theorem SlotIdle.congr {k : Nat} {s t : State} (h : SlotIdle k s) (hs : SlotsStand s t) : SlotIdle k t := by
  rwa [SlotIdle, hs.acked, State.word_of_mem hs.mem]

theorem Acknowledged.congr {n q st : Nat} {s t : State} (h : Acknowledged n q st s) (hs : SlotsStand s t) :
    Acknowledged n q st t :=
  ⟨by rw [hs.acked, h.acked], by rw [State.word_of_mem hs.mem, h.seq], by rw [State.word_of_mem hs.mem, h.status]⟩

theorem slots_idle {s : State} (h : ∀ n, n < 16 → SlotIdle n s) (k : Nat) (hk : k ≤ 16) : s.each k requestSlot = s := by
  induction k with
  | zero => rfl
  | succ k ih =>
    have hsucc : s.each (k + 1) requestSlot = requestSlot k (s.each k requestSlot) := by
      simp [State.each, List.range_succ]
    rw [hsucc, ih (by omega), requestSlot_idle (h k (by omega))]

theorem slots_acknowledge {n : Nat} (hn : n < 16) {s : State} (h : ¬ SlotIdle n s)
    (hk : ∀ k, k < 16 → k ≠ n → SlotIdle k s) :
    Acknowledged n ((s.word (0x28000000 + 32 * n)).toNat / 2 ^ 16) (slotStatus n s) (s.each 16 requestSlot) := by
  obtain ⟨t, hst, he⟩ := requestSlot_new h
  have hsucc : ∀ (k : Nat), s.each (k + 1) requestSlot = requestSlot k (s.each k requestSlot) := fun k => by
    simp [State.each, List.range_succ]
  have hbefore : ∀ k, k ≤ n → s.each k requestSlot = s := fun k hkn => by
    induction k with
    | zero => rfl
    | succ k ih => rw [hsucc, ih (by omega), requestSlot_idle (hk k (by omega) (by omega))]
  have hafter : ∀ d, n + 1 + d ≤ 16 → s.each (n + 1 + d) requestSlot = requestSlot n s := fun d hd => by
    induction d with
    | zero => rw [Nat.add_zero, hsucc, hbefore n le_rfl]
    | succ d ih =>
      have hidle : SlotIdle (n + 1 + d) (requestSlot n s) := by
        rw [he]
        exact acknowledge_idle (by omega) (by omega) _ _ ((hk _ (by omega) (by omega)).congr hst)
      rw [← Nat.add_assoc, hsucc, ih (by omega), requestSlot_idle hidle]
  have h16 := hafter (15 - n) (by omega)
  rw [show n + 1 + (15 - n) = 16 by omega] at h16
  rw [h16, he]
  exact acknowledge_acks hn _ _ t

/-! ### The rest of a cycle -/

/-- Zones whose input has gone are stopped. -/
def zonesStopped (s : State) : State := s.each 5 fun z s =>
  if s.f Fl.SFY_ZONE1_STATE z == 1 && !s.zoneInput z then s.setF Fl.SFY_ZONE1_STATE z 2 else s

/-- The ports whose release is due are released and refreshed. -/
def portsReleased (s : State) : State := s.each 48 fun p s => refreshPort p (releaseDue p false s)

theorem shroudCycle_eq {s : State} (hr : s.sfy.running = true) (hs : s.f Fl.SFY_STAT_SAFE = 0) :
    shroudCycle s = portsReleased (zonesStopped (s.each 16 requestSlot)) := by
  unfold shroudCycle
  exact if_neg (by rw [hr, b_false hs]; decide)

theorem shroudCycle_off {s : State} (h : s.sfy.running = false ∨ s.f Fl.SFY_STAT_SAFE = 1) : shroudCycle s = s := by
  unfold shroudCycle
  refine if_pos ?_
  rcases h with h | h
  · rw [h]; rfl
  · rw [b_true h]; simp

/-- One zone of the cycle. -/
def zoneStopped (z : Nat) (s : State) : State :=
  if s.f Fl.SFY_ZONE1_STATE z == 1 && !s.zoneInput z then s.setF Fl.SFY_ZONE1_STATE z 2 else s

theorem zoneStopped_stands (z : Nat) (s : State) : FieldsStand [Fl.SFY_ZONE1_STATE] s (zoneStopped z s) := by
  unfold zoneStopped
  split
  · exact fun _ _ h => fieldOf_setF_apart _ _ _ _ _ _ (apart_of_mem h (List.mem_singleton_self _))
  · exact .refl _ s

theorem zoneStopped_parts (z : Nat) (s : State) : (zoneStopped z s).sfy = s.sfy ∧ (zoneStopped z s).prt = s.prt ∧
    (zoneStopped z s).mem = s.mem := by
  unfold zoneStopped
  split
  · exact ⟨State.setF_sfy .., State.setF_prt .., State.setF_mem ..⟩
  · exact ⟨rfl, rfl, rfl⟩

theorem zoneInput_of_fields {s t : State} (h : FieldsStand [Fl.SFY_ZONE1_STATE] s t) (hs : t.sfy = s.sfy) (z : Nat) :
    t.zoneInput z = s.zoneInput z := by
  rw [State.zoneInput, State.zoneInput, f_of_field (h Fl.SFY_ZONE0_SRC z (by decide)), b_of_field (h _ _ (by decide)),
    hs]

theorem zoneStopped_other {y z : Nat} (h : y ≠ z) (s : State) :
    fieldOf (zoneStopped y s).regs Fl.SFY_ZONE1_STATE z = fieldOf s.regs Fl.SFY_ZONE1_STATE z := by
  unfold zoneStopped
  split
  · exact fieldOf_setF_member s _ _ h
  · rfl

theorem zonesStopped_all (s : State) : FieldsStand [Fl.SFY_ZONE1_STATE] s (zonesStopped s) ∧
    (zonesStopped s).sfy = s.sfy ∧ (zonesStopped s).prt = s.prt ∧ (zonesStopped s).mem = s.mem :=
  State.each_induct (P := fun u => FieldsStand [Fl.SFY_ZONE1_STATE] s u ∧ u.sfy = s.sfy ∧ u.prt = s.prt ∧ u.mem = s.mem)
    (fun z u ⟨h1, h2, h3, h4⟩ => by
      obtain ⟨e1, e2, e3⟩ := zoneStopped_parts z u
      exact ⟨h1.trans (zoneStopped_stands z u), e1.trans h2, e2.trans h3, e3.trans h4⟩) ⟨.refl _ s, rfl, rfl, rfl⟩ 5

theorem zonesStopped_state {z : Nat} (hz : z < 5) (s : State) : fieldOf (zonesStopped s).regs Fl.SFY_ZONE1_STATE z =
    if s.f Fl.SFY_ZONE1_STATE z = 1 ∧ s.zoneInput z = false then 2 else s.f Fl.SFY_ZONE1_STATE z := by
  refine State.each_once (f := zoneStopped) (R := fun u => (FieldsStand [Fl.SFY_ZONE1_STATE] s u ∧ u.sfy = s.sfy) ∧
      fieldOf u.regs Fl.SFY_ZONE1_STATE z = fieldOf s.regs Fl.SFY_ZONE1_STATE z)
    (Q := fun u => fieldOf u.regs Fl.SFY_ZONE1_STATE z =
      if s.f Fl.SFY_ZONE1_STATE z = 1 ∧ s.zoneInput z = false then 2 else s.f Fl.SFY_ZONE1_STATE z) hz
    (fun y u hy hu => ?_) (fun y u hy hu => (zoneStopped_other hy u).trans hu) (fun u hu => ?_)
    ⟨⟨.refl _ s, rfl⟩, rfl⟩
  · exact ⟨⟨hu.1.1.trans (zoneStopped_stands y u), (zoneStopped_parts y u).1.trans hu.1.2⟩,
      (zoneStopped_other hy u).trans hu.2⟩
  · have hst : u.f Fl.SFY_ZONE1_STATE z = s.f Fl.SFY_ZONE1_STATE z := f_of_field hu.2
    rw [zoneStopped, hst, zoneInput_of_fields hu.1.1 hu.1.2]
    by_cases h : s.f Fl.SFY_ZONE1_STATE z = 1 ∧ s.zoneInput z = false
    · rw [if_pos (by rw [h.1, h.2]; rfl), if_pos h]
      exact fieldOf_setF_fits _ _ _ _ (lt_of_lt_of_le hz (by decide)) (by decide) (by decide)
    · rw [if_neg (fun hc => h (by simpa using hc)), if_neg h]
      exact hst

/-- One port of the cycle. -/
def portCycle (p : Nat) (s : State) : State := refreshPort p (releaseDue p false s)

theorem portCycle_other {p q : Nat} (h : q ≠ p) (s : State) :
    (portCycle q s).sp p = s.sp p ∧
      ∀ fl, fl.reg = R.SFY_PSTAT → fldsApart coilFlds fl = true →
        fieldOf (portCycle q s).regs fl p = fieldOf s.regs fl p :=
  ⟨(sp_of_sfy (refreshPort_sfy q _) p).trans (sp_releaseDue_other h false s), fun _ hr hc =>
    (fieldOf_refreshPort_other h _ hr).trans (fieldOf_releaseDue_other h false s hr hc)⟩

theorem fieldOf_portCycle {fl : Fld} (p i : Nat) (s : State)
    (h : (!regsIn [R.SFY_COIL, R.SFY_PSTAT] fl.reg.addr && decide (fl.reg.count ≤ 65536)) = true) :
    fieldOf (portCycle p s).regs fl i = fieldOf s.regs fl i :=
  (fieldOf_onlyRegs (l := [R.SFY_COIL, R.SFY_PSTAT]) (refreshPort_writes (by decide) p _) i h).trans
    (fieldOf_onlyRegs (l := [R.SFY_COIL, R.SFY_PSTAT]) (releaseDue_writes (by decide) (by decide) rfl p false s) i h)

theorem portCycle_prt (p : Nat) (s : State) : (portCycle p s).prt = s.prt :=
  (State.prt_of_without (A := butPrt) (refreshPort_writes rfl p _) rfl).trans
    (State.prt_of_without (A := butPrt) (releaseDue_writes rfl rfl rfl p false s) rfl)

theorem portCurrent_congr {s t : State} {p : Nat} (hp : t.prt = s.prt)
    (hf : fieldOf t.regs Fl.MTR_FTI_I_FT p = fieldOf s.regs Fl.MTR_FTI_I_FT p) : t.portCurrent p = s.portCurrent p := by
  rw [State.portCurrent, State.portCurrent, hp, f_of_field hf]

/-- Port `p` is released in the words of the statement. -/
def PortFree (p : Nat) (u : State) : Prop :=
  u.f Fl.SFY_PSTAT_POSCMD p = 0 ∧ u.f Fl.SFY_PSTAT_NEGCMD p = 0 ∧ (u.sp p).release = none

theorem portsReleased_frees {p : Nat} (hp : p < 48) {s : State} (hr : (s.sp p).release.isSome = true)
    (hh : (s.sp p).holdFull = false) (hc : (s.portCurrent p).natAbs < 5000) : PortFree p (portsReleased s) := by
  refine State.each_once (f := portCycle) (R := fun u => u.sp p = s.sp p ∧ u.portCurrent p = s.portCurrent p)
    (Q := PortFree p) hp (fun q u hq hu => ?_) (fun q u hq hu => ?_) (fun u hu => ?_) ⟨rfl, rfl⟩
  · exact ⟨(portCycle_other hq u).1.trans hu.1,
      (portCurrent_congr (portCycle_prt q u) (fieldOf_portCycle _ _ _ (by decide))).trans hu.2⟩
  · obtain ⟨h1, h2⟩ := portCycle_other hq u
    exact ⟨(f_of_field (h2 _ rfl (by decide))).trans hu.1, (f_of_field (h2 _ rfl (by decide))).trans hu.2.1,
      h1 ▸ hu.2.2⟩
  · obtain ⟨⟨h1, h2, -⟩, h3, -⟩ := releasePoles_releases hp u
    have he : portCycle p u = refreshPort p (releasePoles p u) :=
      congrArg (refreshPort p) (release_acts ⟨by rw [hu.1, hr], .inr ⟨by rw [hu.1, hh], by rw [hu.2]; exact hc⟩⟩)
    rw [he]
    refine ⟨?_, ?_, by rw [sp_of_sfy (refreshPort_sfy _ _), h3]⟩
    · rw [State.f_fieldOf, fieldOf_refreshPort _ _ _ (by decide), h1]
    · rw [State.f_fieldOf, fieldOf_refreshPort _ _ _ (by decide), h2]

theorem portsReleased_zone (z : Nat) (s : State) :
    fieldOf (portsReleased s).regs Fl.SFY_ZONE1_STATE z = fieldOf s.regs Fl.SFY_ZONE1_STATE z :=
  State.each_induct (f := portCycle) (P := fun u => fieldOf u.regs Fl.SFY_ZONE1_STATE z = fieldOf s.regs
    Fl.SFY_ZONE1_STATE z)
    (fun p u hu => (fieldOf_portCycle p z u (by decide)).trans hu) rfl 48

theorem portsReleased_slots (s : State) : SlotsStand s (portsReleased s) :=
  State.each_induct (f := portCycle) (P := SlotsStand s)
    (fun p u hu => hu.trans ((releaseDue_slots p false u).trans (refreshPort_slots p _))) (.refl s) 48

theorem cycle_idle {s : State} (hr : s.sfy.running = true) (hs : s.f Fl.SFY_STAT_SAFE = 0)
    (hi : ∀ n, n < 16 → SlotIdle n s) : Effect .shroudCycle s fun u =>
      (∀ z, z < 5 → u.f Fl.SFY_ZONE1_STATE z = if s.f Fl.SFY_ZONE1_STATE z = 1 ∧ s.zoneInput z = false then 2
        else s.f Fl.SFY_ZONE1_STATE z) ∧
      ∀ p, p < 48 → (s.sp p).release.isSome = true → (s.sp p).holdFull = false → (s.portCurrent p).natAbs < 5000 →
        PortFree p u := by
  refine effect_done (u := portsReleased (zonesStopped s))
    (congrArg done ((shroudCycle_eq hr hs).trans (by rw [slots_idle hi 16 le_rfl]))) ⟨fun z hz => ?_,
      fun p hp h1 h2 h3 => ?_⟩
  · rw [State.f_fieldOf, portsReleased_zone, zonesStopped_state hz]
  · obtain ⟨e1, e2, e3, -⟩ := zonesStopped_all s
    refine portsReleased_frees hp ?_ ?_ ?_
    · rwa [sp_of_sfy e2]
    · rwa [sp_of_sfy e2]
    · rwa [portCurrent_congr e3 (e1 _ _ (by decide))]

theorem cycle_acknowledges {n : Nat} (hn : n < 16) {s : State} (hr : s.sfy.running = true)
    (hs : s.f Fl.SFY_STAT_SAFE = 0) (h : ¬ SlotIdle n s) (hk : ∀ k, k < 16 → k ≠ n → SlotIdle k s) :
    Effect .shroudCycle s
      (Acknowledged n ((s.word (0x28000000 + 32 * n)).toNat / 2 ^ 16) (slotStatus n s)) := by
  refine effect_done (congrArg done (shroudCycle_eq hr hs)) ?_
  have hack := slots_acknowledge hn h hk
  generalize s.each 16 requestSlot = v at hack
  obtain ⟨-, e2, -, e4⟩ := zonesStopped_all v
  exact hack.congr (SlotsStand.trans ⟨e4, by rw [e2]⟩ (portsReleased_slots _))

theorem requestStatus_lt (s : State) (kind target arg : Nat) : s.requestStatus kind target arg < 2 ^ 32 := by
  unfold State.requestStatus
  split
  · decide
  · repeat' split
    all_goals decide

theorem slotStatus_bad {n : Nat} {s : State} (h : crc32 (s.bytes (0x28000000 + 32 * n) 28) ≠
    s.word (0x28000000 + 32 * n + 28)) : slotStatus n s = 1 := if_pos (by simpa using h)

theorem slotStatus_stale {n : Nat} {s : State} (h : crc32 (s.bytes (0x28000000 + 32 * n) 28) =
    s.word (0x28000000 + 32 * n + 28)) (hs : ∃ l, s.sfy.acked.toList.getD n none = some l ∧
      (l + 1) % 2 ^ 16 ≠ (s.word (0x28000000 + 32 * n)).toNat / 2 ^ 16) : slotStatus n s = 2 := by
  obtain ⟨l, h1, h2⟩ := hs
  unfold slotStatus
  exact (if_neg (by simp [h])).trans (if_pos (by rw [h1]; simpa using h2))

theorem slotStatus_checked {n : Nat} {s : State} (h : crc32 (s.bytes (0x28000000 + 32 * n) 28) =
    s.word (0x28000000 + 32 * n + 28)) (hs : ¬ ∃ l, s.sfy.acked.toList.getD n none = some l ∧
      (l + 1) % 2 ^ 16 ≠ (s.word (0x28000000 + 32 * n)).toNat / 2 ^ 16) :
    slotStatus n s = s.requestStatus ((s.word (0x28000000 + 32 * n)).toNat / 256 % 256)
      ((s.word (0x28000000 + 32 * n)).toNat % 256) (s.word (0x28000000 + 32 * n + 4)).toNat := by
  unfold slotStatus
  refine (if_neg (by simp [h])).trans (if_neg fun hc => hs ?_)
  cases hl : s.sfy.acked.toList.getD n none with
  | none =>
    rw [hl] at hc
    simp at hc
  | some l =>
    rw [hl] at hc
    exact ⟨l, rfl, by simpa using hc⟩

/-- The cycle of the shroud as the statement lists it. -/
theorem shroudCycle_cycles (s : State) :
    let w (n o : Nat) : Nat := (s.word (0x28000000 + 32 * n + o)).toNat
    let idle (n : Nat) : Prop := s.sfy.acked.toList.getD n none = some (w n 0 / 2 ^ 16) ∨
      s.sfy.acked.toList.getD n none = none ∧ w n 0 = 0
    (s.sfy.running = false ∨ s.f Fl.SFY_STAT_SAFE = 1 → Effect .shroudCycle s fun u => u = s) ∧
    (s.sfy.running = true → s.f Fl.SFY_STAT_SAFE = 0 → (∀ n, n < 16 → idle n) → Effect .shroudCycle s fun u =>
      (∀ z, z < 5 → u.f Fl.SFY_ZONE1_STATE z = if s.f Fl.SFY_ZONE1_STATE z = 1 ∧ s.zoneInput z = false then 2
        else s.f Fl.SFY_ZONE1_STATE z) ∧
      ∀ p, p < 48 → (s.sp p).release.isSome = true → (s.sp p).holdFull = false → (s.portCurrent p).natAbs < 5000 →
        u.f Fl.SFY_PSTAT_POSCMD p = 0 ∧ u.f Fl.SFY_PSTAT_NEGCMD p = 0 ∧ (u.sp p).release = none) ∧
    (∀ n, n < 16 → s.sfy.running = true → s.f Fl.SFY_STAT_SAFE = 0 → ¬ idle n → (∀ k, k < 16 → k ≠ n → idle k) →
      let q := w n 0 / 2 ^ 16
      let stale := ∃ l, s.sfy.acked.toList.getD n none = some l ∧ (l + 1) % 2 ^ 16 ≠ q
      let checked := crc32 (s.bytes (0x28000000 + 32 * n) 28) = s.word (0x28000000 + 32 * n + 28)
      Effect .shroudCycle s fun u => u.sfy.acked.toList.getD n none = some q ∧
        (u.word (0x28000800 + 8 * n)).toNat = q * 2 ^ 16 ∧
        (¬ checked → (u.word (0x28000804 + 8 * n)).toNat = 1) ∧
        (checked → stale → (u.word (0x28000804 + 8 * n)).toNat = 2) ∧
        (checked → ¬ stale → (u.word (0x28000804 + 8 * n)).toNat =
          s.requestStatus (w n 0 / 256 % 256) (w n 0 % 256) (w n 4))) := by
  refine ⟨fun h => effect_done (congrArg done (shroudCycle_off h)) rfl, fun hr hs hi => cycle_idle hr hs hi,
    fun n hn hr hs h hk => ?_⟩
  obtain ⟨u, hu, h1, h2, h3⟩ := cycle_acknowledges hn hr hs h hk
  have hq := (s.word (0x28000000 + 32 * n)).isLt
  refine ⟨u, hu, h1, ?_, fun hc => ?_, fun hc hst => ?_, fun hc hst => ?_⟩
  · rw [h2, BitVec.toNat_ofNat]
    exact Nat.mod_eq_of_lt (by omega)
  · rw [h3, slotStatus_bad hc]
    rfl
  · rw [h3, slotStatus_stale hc hst]
    rfl
  · rw [h3, slotStatus_checked hc hst, BitVec.toNat_ofNat]
    exact Nat.mod_eq_of_lt (requestStatus_lt ..)

/-- Settles O38: zones, the stay chain and the cycle in Z07 and here, the requests by their status, the fabric by its
last evaluation. -/
theorem shroudFunctions : Obligations.ShroudFunctions := by
  intro s
  refine ⟨fun z hz he hi hr => ?_, fun z hz => effect_done (congrArg done (zoneDemand_none hz)) rfl,
    effect_done rfl ((stayOpens_shows s).imp_right fun h he hr => h he hr), stayPulse_good s, stayPulse_first,
    stayPulse_short, fun ms z hz => srst_resets hz ms, shroudCycle_cycles s, fun p => ?_, zoneReset_resets s,
    limset_sets s, axen_enables s, imdtest_tests s, targetRelease_releases s, fun p hp => faultClear_clears s hp,
    fun a la lb lz ha => ?_, fun h => effect_done rfl (safeState_shows h (by decide)),
    fun h => effect_done rfl (safeState_shows h (by decide)), cycle_overrun s, scrub_counts s, fun i high hi => ?_⟩
  · obtain ⟨h1, h2, h3⟩ := zoneDemand_demands hz he hi hr
    exact effect_done rfl ⟨h1, h2, fun p hp hz => ⟨⟨(h3 p hp hz).1.1, (h3 p hp hz).1.2⟩, (h3 p hp hz).2⟩⟩
  · obtain ⟨h1, h2⟩ := shroudStop1_demands s p
    refine ⟨fun hp => ?_, h2⟩
    obtain ⟨u, hu, h3, h4⟩ := h1 hp
    exact ⟨u, hu, ⟨h3.1, h3.2⟩, h4⟩
  · obtain ⟨u, hu, h1, h2, h3, h4⟩ := axisSample_samples ha la lb lz s
    exact ⟨u, hu, h1, h2, h3, h4⟩
  · obtain ⟨u, hu, h1, h2⟩ := sourceChange_follows hi high s
    exact ⟨u, hu, h1, fun t ht he => ⟨(h2 t ht he).1, (h2 t ht he).2, (h2 t ht he).3⟩⟩

end Sys2Proof.Machine

/-! ## The cable observer (R308 to R310) -/

namespace Sys2Proof.Machine

set_option Elab.async false

/-! ### The square root of the headroom -/

/-- One bit of the root. -/
def rootStep (n r i : Nat) : Nat := if (r + 2 ^ (63 - i)) * (r + 2 ^ (63 - i)) ≤ n then r + 2 ^ (63 - i) else r

/-- The root `r` with its low `m` bits cleared. -/
def rootTop (r m : Nat) : Nat := r / 2 ^ m * 2 ^ m

theorem le_root_iff {r y x : Nat} (h1 : r * r ≤ y) (h2 : y < (r + 1) * (r + 1)) : x * x ≤ y ↔ x ≤ r := by
  constructor
  · intro h
    by_contra hc
    exact absurd (Nat.mul_le_mul (show r + 1 ≤ x by omega) (show r + 1 ≤ x by omega)) (by omega)
  · exact fun h => (Nat.mul_le_mul h h).trans h1

theorem rootStep_top {r y i : Nat} (h1 : r * r ≤ y) (h2 : y < (r + 1) * (r + 1)) (hi : i < 64) :
    rootStep y (rootTop r (64 - i)) i = rootTop r (63 - i) := by
  obtain ⟨m, hm⟩ : ∃ m, 63 - i = m := ⟨_, rfl⟩
  have hm1 : 64 - i = m + 1 := by omega
  have hhalf : r / 2 ^ (m + 1) = r / 2 ^ m / 2 := by rw [pow_succ, Nat.div_div_eq_div_mul]
  have htop : rootTop r (m + 1) + 2 ^ m = (2 * (r / 2 ^ m / 2) + 1) * 2 ^ m := by
    rw [rootTop, hhalf, pow_succ]
    ring
  have hle : rootTop r (m + 1) + 2 ^ m ≤ r ↔ 2 * (r / 2 ^ m / 2) + 1 ≤ r / 2 ^ m := by
    rw [htop, Nat.le_div_iff_mul_le (Nat.two_pow_pos m)]
  have hlow : rootTop r m = r / 2 ^ m * 2 ^ m := rfl
  rw [rootStep, hm, hm1]
  by_cases hc : 2 * (r / 2 ^ m / 2) + 1 ≤ r / 2 ^ m
  · rw [if_pos ((le_root_iff h1 h2).mpr (hle.mpr hc)), htop, hlow,
      show 2 * (r / 2 ^ m / 2) + 1 = r / 2 ^ m by omega]
  · rw [if_neg fun h => hc (hle.mp ((le_root_iff h1 h2).mp h)), hlow, rootTop, hhalf, pow_succ,
      show r / 2 ^ m / 2 * (2 ^ m * 2) = (2 * (r / 2 ^ m / 2)) * 2 ^ m by ring,
      show 2 * (r / 2 ^ m / 2) = r / 2 ^ m by omega]

theorem isqrt_eq {r y : Nat} (h1 : r * r ≤ y) (h2 : y < (r + 1) * (r + 1)) (hr : r < 2 ^ 64) : isqrt y = r := by
  have hfold : ∀ k, k ≤ 64 → (List.range k).foldl (rootStep y) 0 = rootTop r (64 - k) := fun k hk => by
    induction k with
    | zero => rw [rootTop, Nat.div_eq_of_lt hr]; simp
    | succ k ih =>
      rw [List.range_succ, List.foldl_concat, ih (by omega), rootStep_top h1 h2 (by omega)]
      congr 1
      omega
  have := hfold 64 le_rfl
  rw [show isqrt y = (List.range 64).foldl (rootStep y) 0 from rfl, this, rootTop]
  simp

/-! ### One port -/

/-- The temperature of the coolant at the inlet, in µK of the model. -/
def coolantIn (p : Nat) (s : State) : Int :=
  (if 24 ≤ p then s.fi Fl.THM_WIN_TCMAX p else (s.inlet p).getD 0) * 10000

/-- The temperature of the coolant at the outlet, where it is known. -/
def coolantOut (p : Nat) (s : State) : Option Int :=
  if 24 ≤ p then none else (s.outlet p).map (· * 10000)

/-- The model's state before a step. -/
def obsBefore (p : Nat) (s : State) : Observer :=
  let start : Int := match coolantOut p s with | none => coolantIn p s | some x => max (coolantIn p s) x
  match (s.tp p).obs, s.b Fl.THM_PSTAT_OBSFB p with
  | some o, false => o
  | _, _ => { t1 := start, t2 := start }

/-- The model's state after a step (R308). -/
def obsAfter (p : Nat) (s : State) : Observer :=
  observe (obsBefore p s) (signedOf 32 (s.reg R.PRT_GTEL (12 * portGroup p)).toNat)
    (if 24 ≤ p then 0 else s.f Fl.THM_FLOW_FLOW p) (s.f Fl.THM_COEF_CPV p)
    (s.f Fl.THM_R20_R20 p) (s.f Fl.THM_COEF_ALPHA p) (s.f Fl.THM_G12_G12 p) (s.f Fl.THM_CAP_C1 p)
    (s.f Fl.THM_CAP_C2 p) (s.f Fl.THM_OBS_LOBS p) (coolantIn p s) (coolantOut p s)

/-- The state with the model's result kept and shown. -/
def obsKept (p : Nat) (s : State) : State :=
  showObserver p (obsAfter p s) ((s.setB Fl.THM_PSTAT_OBSFB p false).setTp p fun x =>
    { x with obs := some (obsAfter p s) })

/-- The headroom with a guest's bound (R310). -/
def guestBound (p v : Nat) (s : State) : Nat := if 24 ≤ p then min v (s.f Fl.THM_ISTAT_ISTAT p) else v

/-- Port `p` in fallback. -/
def obsFell (p : Nat) (s : State) : State :=
  if s.b Fl.THM_PSTAT_OBSFB p then s else thmCause 7 (prtCause 17 (portGroup p) (s.setB Fl.THM_PSTAT_OBSFB p true))

theorem observePort_fallback {p : Nat} {s : State} (h : s.obsFallback p = true) : observePort p s =
    publishCable p (min ((obsFell p s).f Fl.THM_ISTAT_ISTAT p) ((obsFell p s).f Fl.THM_IMAXH_IMAXH p))
      (obsFell p s) := by
  unfold observePort
  exact if_pos h

theorem observePort_model {p : Nat} {s : State} (h : s.obsFallback p = false) : observePort p s =
    reefRise p (publishCable p (guestBound p (headroom (obsAfter p s) p (obsKept p s)).1 (obsKept p s))
      (headroom (obsAfter p s) p (obsKept p s)).2) := by
  unfold observePort
  refine (if_neg (by rw [h]; decide)).trans ?_
  rfl

/-- The registers that the observer writes. -/
def obsRegs : List Rg := [R.EVT_PEND, R.PRT_GCAUSE, R.THM_CABLE, R.THM_PSTAT, R.THM_STAT, R.THM_TEST]

/-- The register is none of the observer's. -/
def obsQuiet (r : Rg) : Bool := !regsIn obsRegs r.addr && decide (r.count ≤ 65536)

/-- The field lies in a register that the observer writes for its own port only. -/
def ObsOwn (fl : Fld) : Prop := fl.reg = R.THM_PSTAT ∨ fl.reg = R.THM_CABLE

theorem fieldOf_setF_elsewhere (s : State) (a fl : Fld) {i p : Nat} (v : Nat) (h : i ≠ p)
    (hr : fl.reg = a.reg ∨ a.reg.apart fl.reg = true) : fieldOf (s.setF a i v).regs fl p = fieldOf s.regs fl p := by
  rcases hr with hr | hr
  · exact fieldOf_setF_index s a fl v h hr
  · exact fieldOf_setReg_apart _ _ _ _ _ _ hr

/-- Everything but the thermal part. -/
def butThm : Part := { besideMemory with thm := false, mem := true, pending := true }

theorem fieldOf_thmCause {fl : Fld} (j i : Nat) (s : State)
    (h : (!regsIn [R.EVT_PEND, R.THM_STAT] fl.reg.addr && decide (fl.reg.count ≤ 65536)) = true) :
    fieldOf (thmCause j s).regs fl i = fieldOf s.regs fl i :=
  fieldOf_onlyRegs (thmCause_writes (by decide) (by decide) j s) i h

theorem fieldOf_prtCause {fl : Fld} (j g i : Nat) (s : State)
    (h : (!regsIn [R.EVT_PEND, R.PRT_GCAUSE] fl.reg.addr && decide (fl.reg.count ≤ 65536)) = true) :
    fieldOf (prtCause j g s).regs fl i = fieldOf s.regs fl i :=
  fieldOf_onlyRegs (prtCause_writes (by decide) (by decide) j g s) i h

theorem thmCause_thm (j : Nat) (s : State) : (thmCause j s).thm = s.thm :=
  State.thm_of_without (A := butThm) (thmCause_writes rfl rfl j s) rfl

theorem prtCause_thm (j g : Nat) (s : State) : (prtCause j g s).thm = s.thm :=
  State.thm_of_without (A := butThm) (prtCause_writes rfl rfl j g s) rfl

theorem State.tp_member (s : State) (p : Nat) : s.tp p = memberOf s.thm.port p {} := rfl

theorem tp_setTp {p : Nat} (hp : p < 48) (s : State) (f : ThmPort → ThmPort) : (s.setTp p f).tp p = f (s.tp p) :=
  memberOf_set_same s.thm.port _ {} hp

theorem tp_setTp_other {p q : Nat} (h : p ≠ q) (s : State) (f : ThmPort → ThmPort) : (s.setTp p f).tp q = s.tp q :=
  memberOf_set_other s.thm.port _ {} h

theorem tp_of_thm {s t : State} (h : t.thm = s.thm) (p : Nat) : t.tp p = s.tp p := by rw [State.tp, State.tp, h]

theorem ObsOwn.causes {fl : Fld} (h : ObsOwn fl) {l : List Rg} (h1 : (!regsIn l R.THM_PSTAT.addr) = true)
    (h2 : (!regsIn l R.THM_CABLE.addr) = true) : (!regsIn l fl.reg.addr && decide (fl.reg.count ≤ 65536)) = true := by
  rcases h with h | h <;> rw [h]
  · rw [h1]; decide
  · rw [h2]; decide

theorem ObsOwn.stat {fl : Fld} (h : ObsOwn fl) : fl.reg = R.THM_PSTAT ∨ R.THM_PSTAT.apart fl.reg = true := by
  rcases h with h | h <;> rw [h] <;> decide

theorem ObsOwn.cable {fl : Fld} (h : ObsOwn fl) : fl.reg = R.THM_CABLE ∨ R.THM_CABLE.apart fl.reg = true := by
  rcases h with h | h <;> rw [h] <;> decide

theorem ObsOwn.test {fl : Fld} (h : ObsOwn fl) : fl.reg = R.THM_TEST ∨ R.THM_TEST.apart fl.reg = true := by
  rcases h with h | h <;> rw [h] <;> decide

/-- Port `p` is as it was, of its own registers and of its observer. -/
structure PortStands (p : Nat) (s u : State) : Prop where
  own : ∀ fl, ObsOwn fl → fieldOf u.regs fl p = fieldOf s.regs fl p
  tp : u.tp p = s.tp p

theorem PortStands.refl (p : Nat) (s : State) : PortStands p s s := ⟨fun _ _ => rfl, rfl⟩

theorem PortStands.trans {p : Nat} {s t u : State} (h : PortStands p s t) (h' : PortStands p t u) : PortStands p s u :=
  ⟨fun fl hf => (h'.own fl hf).trans (h.own fl hf), h'.tp.trans h.tp⟩

theorem thmCause_portStands (p j : Nat) (s : State) : PortStands p s (thmCause j s) :=
  ⟨fun _ h => fieldOf_thmCause _ _ _ (h.causes (by decide) (by decide)), tp_of_thm (thmCause_thm j s) p⟩

theorem prtCause_portStands (p j g : Nat) (s : State) : PortStands p s (prtCause j g s) :=
  ⟨fun _ h => fieldOf_prtCause _ _ _ _ (h.causes (by decide) (by decide)), tp_of_thm (prtCause_thm j g s) p⟩

theorem setF_portStands {p j : Nat} (hj : j ≠ p) (a : Fld) (ha : ∀ fl,
  ObsOwn fl → fl.reg = a.reg ∨ a.reg.apart fl.reg = true)
    (v : Nat) (s : State) : PortStands p s (s.setF a j v) :=
  ⟨fun fl h => fieldOf_setF_elsewhere s a fl v hj (ha fl h), tp_of_thm (State.setF_thm ..) p⟩

theorem setReef_portStands {p j : Nat} (hj : j ≠ p) (k : Nat) (s : State) : PortStands p s (setReef j k s) := by
  unfold setReef
  split
  · exact .refl p s
  · exact ((setF_portStands hj Fl.THM_PSTAT_TREEF (fun _ h => h.stat) k s).trans (prtCause_portStands ..)).trans
      (thmCause_portStands ..)

theorem reefRise_portStands {p j : Nat} (hj : j ≠ p) (s : State) : PortStands p s (reefRise j s) := by
  unfold reefRise
  dsimp only
  split
  · exact setReef_portStands hj _ s
  · exact .refl p s

theorem obsFell_portStands {p j : Nat} (hj : j ≠ p) (s : State) : PortStands p s (obsFell j s) := by
  unfold obsFell
  split
  · exact .refl p s
  · exact ((setF_portStands hj Fl.THM_PSTAT_OBSFB (fun _ h => h.stat) 1 s).trans (prtCause_portStands ..)).trans
      (thmCause_portStands ..)

theorem obsKept_portStands {p j : Nat} (hj : j ≠ p) (s : State) : PortStands p s (obsKept j s) := by
  have h1 := setF_portStands hj Fl.THM_PSTAT_OBSFB (fun _ h => h.stat) 0 s
  have h2 : ∀ u f, PortStands p u (u.setTp j f) := fun u f => ⟨fun _ _ => rfl, tp_setTp_other hj u f⟩
  have h3 : ∀ a : Fld, a.reg = R.THM_TEST → ∀ v u, PortStands p u (u.setF a j v) := fun a ha v u =>
    setF_portStands hj a (fun fl h => ha ▸ h.test) v u
  exact ((h1.trans (h2 _ _)).trans (h3 Fl.THM_TEST_T1 rfl _ _)).trans (h3 Fl.THM_TEST_T2 rfl _ _)

/-- The headroom changes at most the count of free values drawn. -/
theorem headroom_state (o : Observer) (p : Nat) (s : State) :
    (headroom o p s).2.regs = s.regs ∧ (headroom o p s).2.thm = s.thm := by
  unfold headroom
  dsimp only
  split
  · exact ⟨rfl, rfl⟩
  · split <;> exact ⟨rfl, rfl⟩

theorem observePort_portStands {p j : Nat} (hj : j ≠ p) (s : State) : PortStands p s (observePort j s) := by
  cases h : s.obsFallback j with
  | true =>
    rw [observePort_fallback h]
    exact (obsFell_portStands hj s).trans (setF_portStands hj Fl.THM_CABLE_CABLE (fun _ h => h.cable) _ _)
  | false =>
    rw [observePort_model h]
    obtain ⟨hr, ht⟩ := headroom_state (obsAfter j s) j (obsKept j s)
    have hd : PortStands p (obsKept j s) (headroom (obsAfter j s) j (obsKept j s)).2 :=
      ⟨fun _ _ => by rw [hr], tp_of_thm ht p⟩
    exact (((obsKept_portStands hj s).trans hd).trans
      (setF_portStands hj Fl.THM_CABLE_CABLE (fun _ h => h.cable) _ _)).trans (reefRise_portStands hj _)

/-- What port `p` reads is as it was. -/
structure ObsStands (p : Nat) (s u : State) : Prop extends PortStands p s u where
  quiet : ∀ fl i, obsQuiet fl.reg = true → fieldOf u.regs fl i = fieldOf s.regs fl i
  telemetry : ∀ i, u.reg R.PRT_GTEL i = s.reg R.PRT_GTEL i

theorem ObsStands.refl (p : Nat) (s : State) : ObsStands p s s := ⟨.refl p s, fun _ _ _ => rfl, fun _ => rfl⟩

theorem ObsStands.port {p j : Nat} (hj : j ≠ p) {s u : State} (h : ObsStands p s u) : ObsStands p s (observePort j u)
  := by
  have hw : (observePort j u).without (onlyRegs obsRegs) = u.without (onlyRegs obsRegs) :=
    observePort_writes (by decide) (by decide) (by decide) (by decide) (by decide) (by decide) rfl rfl j u
  exact ⟨h.toPortStands.trans (observePort_portStands hj u),
    fun fl i hf => (fieldOf_onlyRegs hw i hf).trans (h.quiet fl i hf),
    fun i => (regOf_onlyRegs hw i (by decide)).trans (h.telemetry i)⟩

/-! ### What one port does, in terms of what it reads -/

section
variable {p : Nat} {s u : State} (h : ObsStands p s u)
include h

theorem ObsStands.f (fl : Fld) (i : Nat) (hf : obsQuiet fl.reg = true) : u.f fl i = s.f fl i :=
  f_of_field (h.quiet fl i hf)

theorem sensorT_congr (i : Nat) : u.sensorT i = s.sensorT i := by
  have ht : u.fi Fl.THM_SSTAT_T i = s.fi Fl.THM_SSTAT_T i := by
    rw [State.fi_fieldOf, State.fi_fieldOf, h.quiet _ _ (by decide)]
  rw [State.sensorT, State.sensorT, ht]

theorem coolantIn_congr : coolantIn p u = coolantIn p s := by
  have ht : u.fi Fl.THM_WIN_TCMAX p = s.fi Fl.THM_WIN_TCMAX p := by
    rw [State.fi_fieldOf, State.fi_fieldOf, h.quiet _ _ (by decide)]
  rw [coolantIn, coolantIn, ht, State.inlet, State.inlet, sensorT_congr h, h.f _ _ (by decide)]

theorem coolantOut_congr : coolantOut p u = coolantOut p s := by
  rw [coolantOut, coolantOut, State.outlet, State.outlet, sensorT_congr h, h.f _ _ (by decide)]

theorem obsFallback_congr : u.obsFallback p = s.obsFallback p := by
  unfold State.obsFallback
  rw [State.inlet, State.inlet, sensorT_congr h, h.f Fl.THM_PSEN_INLET _ (by decide),
    h.f Fl.THM_G12_G12 _ (by decide), b_of_field (h.quiet Fl.THM_CAP_C1 p (by decide)),
    b_of_field (h.quiet Fl.THM_CAP_C2 p (by decide))]

theorem obsBefore_congr : obsBefore p u = obsBefore p s := by
  unfold obsBefore
  rw [coolantIn_congr h, coolantOut_congr h, h.tp, b_of_field (h.own Fl.THM_PSTAT_OBSFB (.inl rfl))]

theorem obsAfter_congr : obsAfter p u = obsAfter p s := by
  rw [obsAfter, obsAfter, obsBefore_congr h, coolantIn_congr h, coolantOut_congr h, h.telemetry,
    h.f Fl.THM_FLOW_FLOW _ (by decide), h.f Fl.THM_COEF_CPV _ (by decide), h.f Fl.THM_R20_R20 _ (by decide),
    h.f Fl.THM_COEF_ALPHA _ (by decide), h.f Fl.THM_G12_G12 _ (by decide), h.f Fl.THM_CAP_C1 _ (by decide),
    h.f Fl.THM_CAP_C2 _ (by decide), h.f Fl.THM_OBS_LOBS _ (by decide)]

end

/-! ### The headroom (R309, R310) -/

/-- The limit of the cable, in µK of the model. -/
def cableLimit (p : Nat) (s : State) : Int := s.fi Fl.THM_LIM_TLIM p * 10000

/-- The resistance at the limit. -/
def limitRes (p : Nat) (s : State) : Int :=
  resistanceAt (s.f Fl.THM_R20_R20 p) (s.f Fl.THM_COEF_ALPHA p) (cableLimit p s)

/-- The temperature that the second node may reach. -/
def steadyTemp (o : Observer) (p : Nat) (s : State) : Int :=
  cableLimit p s + truncDiv ((cableLimit p s - o.t1) * s.f Fl.THM_OBS_EH p) (65536 - s.f Fl.THM_OBS_EH p)

/-- The radicand of the headroom. -/
def headroomArg (o : Observer) (p : Nat) (s : State) : Nat :=
  ((steadyTemp o p s - o.t2) * s.f Fl.THM_G12_G12 p * 1000 / limitRes p s).toNat

theorem headroom_hot {o : Observer} {p : Nat} {s : State} (h : steadyTemp o p s ≤ o.t2) : headroom o p s = (0, s) := by
  unfold headroom
  exact if_pos h

theorem headroom_cool {o : Observer} {p : Nat} {s : State} (h : o.t2 < steadyTemp o p s) (hr : 0 < limitRes p s) :
    headroom o p s = (min (s.f Fl.THM_IMAXH_IMAXH p) (isqrt (headroomArg o p s)), s) := by
  unfold headroom
  exact (if_neg (not_le.mpr h)).trans (if_neg (not_le.mpr hr))

/-- What CABLE shows of a value: 0 for an own port in NOGO. -/
def cableShown (p v : Nat) (s : State) : Nat := if p < 24 && s.b Fl.THM_PSTAT_NOGO p then 0 else v

theorem cable_published {p : Nat} (hp : p < 48) {v : Nat} (hv : v < 2 ^ 32) (s : State) :
    fieldOf (publishCable p v s).regs Fl.THM_CABLE_CABLE p = cableShown p v s := by
  refine fieldOf_setF_fits _ _ _ _ (lt_of_lt_of_le hp (by decide)) (by decide) ?_
  have hw : 2 ^ Fl.THM_CABLE_CABLE.width = 2 ^ 32 := rfl
  rw [hw]
  split <;> omega

/-- What one port of the observer's step shows. -/
structure ObsShows (p : Nat) (s u : State) : Prop where
  fallback : s.obsFallback p = true → fieldOf u.regs Fl.THM_PSTAT_OBSFB p = 1 ∧ (u.tp p).obs = (s.tp p).obs ∧
    fieldOf u.regs Fl.THM_CABLE_CABLE p =
      cableShown p (min (s.f Fl.THM_ISTAT_ISTAT p) (s.f Fl.THM_IMAXH_IMAXH p)) s
  model : s.obsFallback p = false → fieldOf u.regs Fl.THM_PSTAT_OBSFB p = 0 ∧ (u.tp p).obs = some (obsAfter p s)
  hot : s.obsFallback p = false → steadyTemp (obsAfter p s) p s ≤ (obsAfter p s).t2 →
    fieldOf u.regs Fl.THM_CABLE_CABLE p = cableShown p 0 s
  cool : s.obsFallback p = false → (obsAfter p s).t2 < steadyTemp (obsAfter p s) p s → 0 < limitRes p s →
    fieldOf u.regs Fl.THM_CABLE_CABLE p =
      cableShown p (guestBound p (min (s.f Fl.THM_IMAXH_IMAXH p) (isqrt (headroomArg (obsAfter p s) p s))) s) s

/-- The field is none that a cause of cooling or of a port writes. -/
def causeQuiet (fl : Fld) : Bool :=
  !regsIn [R.EVT_PEND, R.PRT_GCAUSE, R.THM_STAT] fl.reg.addr && decide (fl.reg.count ≤ 65536)

theorem fieldOf_causes {fl : Fld} (j k g i : Nat) (s : State) (h : causeQuiet fl = true) :
    fieldOf (thmCause j (prtCause k g s)).regs fl i = fieldOf s.regs fl i :=
  (fieldOf_onlyRegs (l := [R.EVT_PEND, R.PRT_GCAUSE, R.THM_STAT])
      (thmCause_writes (by decide) (by decide) j _) i h).trans
    (fieldOf_onlyRegs (l := [R.EVT_PEND, R.PRT_GCAUSE, R.THM_STAT])
      (prtCause_writes (by decide) (by decide) k g s) i h)

theorem obsFell_shows {p : Nat} (hp : p < 48) (s : State) :
    fieldOf (obsFell p s).regs Fl.THM_PSTAT_OBSFB p = 1 ∧ (obsFell p s).tp p = s.tp p ∧
      ∀ fl, Fl.THM_PSTAT_OBSFB.apart fl = true →
        causeQuiet fl = true → fieldOf (obsFell p s).regs fl p = fieldOf s.regs fl p := by
  unfold obsFell
  split
  · next h =>
    refine ⟨?_, rfl, fun _ _ _ => rfl⟩
    rw [← State.f_fieldOf, bool_field _ _ _ rfl, h]
    rfl
  · refine ⟨?_, tp_of_thm ?_ p, fun fl ha hq => ?_⟩
    · rw [fieldOf_causes _ _ _ _ _ (by decide)]
      exact fieldOf_setB_same _ _ _ _ (lt_of_lt_of_le hp (by decide)) (by decide) (by decide)
    · rw [thmCause_thm, prtCause_thm]
      exact State.setF_thm ..
    · exact (fieldOf_causes _ _ _ _ _ hq).trans (fieldOf_setB_apart _ _ _ _ _ _ ha)

/-- The fields that keeping the model's result writes. -/
def obsFlds : List Fld := [Fl.THM_PSTAT_OBSFB, Fl.THM_TEST_T1, Fl.THM_TEST_T2]

theorem fieldOf_obsKept {fl : Fld} (p i : Nat) (s : State)
    (h : fldsApart obsFlds fl = true) :
    fieldOf (obsKept p s).regs fl i = fieldOf s.regs fl i := by
  rw [obsKept, showObserver, fieldOf_setFi_apart _ _ _ _ _ _ (apart_of_mem h (by simp [obsFlds])),
    fieldOf_setFi_apart _ _ _ _ _ _ (apart_of_mem h (by simp [obsFlds]))]
  exact fieldOf_setB_apart _ _ _ _ _ _ (apart_of_mem h (by simp [obsFlds]))

theorem obsKept_shows {p : Nat} (hp : p < 48) (s : State) :
    fieldOf (obsKept p s).regs Fl.THM_PSTAT_OBSFB p = 0 ∧ ((obsKept p s).tp p).obs = some (obsAfter p s) := by
  constructor
  · rw [obsKept, showObserver, fieldOf_setFi_apart _ _ _ _ _ _ (by decide), fieldOf_setFi_apart _ _ _ _ _ _ (by decide)]
    exact fieldOf_setB_same _ _ _ _ (lt_of_lt_of_le hp (by decide)) (by decide) (by decide)
  · have ht : ((obsKept p s).tp p) = ((s.setB Fl.THM_PSTAT_OBSFB p false).setTp p fun x =>
        { x with obs := some (obsAfter p s) }).tp p := tp_of_thm ((State.setF_thm ..).trans (State.setF_thm ..)) p
    rw [ht, tp_setTp hp]

theorem setReef_stands (p k : Nat) (s : State) : (setReef p k s).thm = s.thm ∧ ∀ fl i,
    Fl.THM_PSTAT_TREEF.apart fl = true →
    causeQuiet fl = true → fieldOf (setReef p k s).regs fl i = fieldOf s.regs fl i := by
  unfold setReef
  split
  · exact ⟨rfl, fun _ _ _ _ => rfl⟩
  · refine ⟨by rw [thmCause_thm, prtCause_thm]; exact State.setF_thm .., fun fl i ha hq => ?_⟩
    exact (fieldOf_causes _ _ _ _ _ hq).trans (fieldOf_setF_apart _ _ _ _ _ _ ha)

theorem reefRise_stands (p : Nat) (s : State) : (reefRise p s).thm = s.thm ∧ ∀ fl i,
    Fl.THM_PSTAT_TREEF.apart fl = true →
    causeQuiet fl = true → fieldOf (reefRise p s).regs fl i = fieldOf s.regs fl i := by
  unfold reefRise
  dsimp only
  split
  · exact setReef_stands p _ s
  · exact ⟨rfl, fun _ _ _ _ => rfl⟩

theorem cableShown_congr {p v : Nat} {s u : State}
    (h : fieldOf u.regs Fl.THM_PSTAT_NOGO p = fieldOf s.regs Fl.THM_PSTAT_NOGO p) : cableShown p v u = cableShown p v
      s := by
  rw [cableShown, cableShown, b_of_field h]

/-- The headroom of two states that hold the same configuration. -/
theorem headroomArg_congr {s u : State} {o : Observer} {p : Nat}
    (h : ∀ fl, fldsApart obsFlds fl = true → obsQuiet fl.reg = true → fieldOf u.regs fl p = fieldOf s.regs fl p) :
    steadyTemp o p u = steadyTemp o p s ∧ limitRes p u = limitRes p s ∧ headroomArg o p u = headroomArg o p s := by
  have hf : ∀ fl, fldsApart obsFlds fl = true → obsQuiet fl.reg = true → u.f fl p = s.f fl p :=
    fun fl a b => f_of_field (h fl a b)
  have hl : cableLimit p u = cableLimit p s := by
    rw [cableLimit, cableLimit, State.fi_fieldOf, State.fi_fieldOf, h _ (by decide) (by decide)]
  have h1 : steadyTemp o p u = steadyTemp o p s := by
    rw [steadyTemp, steadyTemp, hl, hf Fl.THM_OBS_EH (by decide) (by decide)]
  have h2 : limitRes p u = limitRes p s := by
    rw [limitRes, limitRes, hl, hf Fl.THM_R20_R20 (by decide) (by decide), hf Fl.THM_COEF_ALPHA (by decide) (by decide)]
  exact ⟨h1, h2, by rw [headroomArg, headroomArg, h1, h2, hf Fl.THM_G12_G12 (by decide) (by decide)]⟩

/-- The port with the value `v` shown, after the model's step. -/
theorem observePort_cable {p v : Nat} (hp : p < 48) {s : State} (h : s.obsFallback p = false) (hv : v < 2 ^ 32)
    (he : guestBound p (headroom (obsAfter p s) p (obsKept p s)).1 (obsKept p s) = v) :
    fieldOf (observePort p s).regs Fl.THM_CABLE_CABLE p = cableShown p v s := by
  obtain ⟨hr, -⟩ := headroom_state (obsAfter p s) p (obsKept p s)
  rw [observePort_model h, he, (reefRise_stands p _).2 _ _ (by decide) (by decide), cable_published hp hv]
  refine cableShown_congr ?_
  rw [hr]
  exact fieldOf_obsKept p p s (by decide)

theorem observePort_shows {p : Nat} (hp : p < 48) (s : State) : ObsShows p s (observePort p s) := by
  have hlt : ∀ fl : Fld, fl.width = 32 → s.f fl p < 2 ^ 32 := fun fl hw => hw ▸ State.f_lt s fl p
  have hkept := headroomArg_congr (s := s) (u := obsKept p s) (o := obsAfter p s) (p := p) fun fl h1 _ =>
    fieldOf_obsKept p p s h1
  refine ⟨fun h => ?_, fun h => ?_, fun h hh => ?_, fun h hc hl => ?_⟩
  · obtain ⟨h1, h2, h3⟩ := obsFell_shows hp s
    rw [observePort_fallback h]
    refine ⟨(fieldOf_setF_apart _ _ _ _ _ _ (by decide)).trans h1, ?_, ?_⟩
    · exact congrArg ThmPort.obs ((tp_of_thm (State.setF_thm ..) p).trans h2)
    · rw [cable_published hp, cableShown_congr (h3 _ (by decide) (by decide)),
        f_of_field (h3 _ (by decide) (by decide)),
        f_of_field (h3 _ (by decide) (by decide))]
      have := (f_of_field (h3 Fl.THM_ISTAT_ISTAT (by decide) (by decide))).trans_lt (hlt _ rfl)
      omega
  · obtain ⟨h1, h2⟩ := obsKept_shows hp s
    obtain ⟨hr, ht⟩ := headroom_state (obsAfter p s) p (obsKept p s)
    obtain ⟨r1, r2⟩ := reefRise_stands p (publishCable p
      (guestBound p (headroom (obsAfter p s) p (obsKept p s)).1 (obsKept p s)) (headroom (obsAfter p s) p (obsKept p
        s)).2)
    rw [observePort_model h]
    refine ⟨?_, ?_⟩
    · rw [r2 _ _ (by decide) (by decide)]
      refine (fieldOf_setF_apart _ _ _ _ _ _ (by decide)).trans ?_
      rw [hr, h1]
    · rw [tp_of_thm (r1.trans ((State.setF_thm ..).trans ht)), h2]
  · refine observePort_cable hp h (by decide) ?_
    rw [headroom_hot (hkept.1 ▸ hh), guestBound]
    simp
  · have hi : (obsKept p s).f Fl.THM_IMAXH_IMAXH p = s.f Fl.THM_IMAXH_IMAXH p := f_of_field (fieldOf_obsKept p p s (by
      decide))
    have hs : (obsKept p s).f Fl.THM_ISTAT_ISTAT p = s.f Fl.THM_ISTAT_ISTAT p := f_of_field (fieldOf_obsKept p p s (by
      decide))
    refine observePort_cable hp h ?_ ?_
    · have := hlt Fl.THM_IMAXH_IMAXH rfl
      unfold guestBound
      split <;> omega
    · rw [headroom_cool (hkept.1 ▸ hc) (hkept.2.1 ▸ hl), hkept.2.2, hi, guestBound, guestBound, hs]

/-! ### The step of all ports -/

theorem ObsShows.congr {p : Nat} {s u w : State} (h : ObsStands p s u) (hw : ObsShows p u w) : ObsShows p s w := by
  have hk := headroomArg_congr (o := obsAfter p s) (p := p) fun fl _ hq => h.quiet fl p hq
  have hc : ∀ v, cableShown p v u = cableShown p v s := fun v => cableShown_congr (h.own _ (.inl rfl))
  have hg : ∀ v, guestBound p v u = guestBound p v s := fun v => by
    rw [guestBound, guestBound, h.f _ _ (by decide)]
  obtain ⟨h1, h2, h3, h4⟩ := hw
  rw [obsFallback_congr h, h.tp, hc, h.f _ _ (by decide), h.f _ _ (by decide)] at h1
  rw [obsFallback_congr h, obsAfter_congr h] at h2
  rw [obsFallback_congr h, obsAfter_congr h, hk.1, hc] at h3
  rw [obsFallback_congr h, obsAfter_congr h, hk.1, hk.2.1, hk.2.2, hc, hg, h.f _ _ (by decide)] at h4
  exact ⟨h1, h2, h3, h4⟩

theorem ObsShows.keeps {p : Nat} {s u w : State} (h : ObsShows p s u) (hw : PortStands p u w) : ObsShows p s w := by
  obtain ⟨h1, h2, h3, h4⟩ := h
  have hf : ∀ fl, ObsOwn fl → fieldOf u.regs fl p = fieldOf w.regs fl p := fun fl ho => (hw.own fl ho).symm
  rw [hf _ (.inl rfl), hf _ (.inr rfl), ← hw.tp] at h1
  rw [hf _ (.inl rfl), ← hw.tp] at h2
  rw [hf _ (.inr rfl)] at h3 h4
  exact ⟨h1, h2, h3, h4⟩

theorem observerStep_shows {p : Nat} {s : State} (hp : p < if s.b Fl.RNG_STAT_GUEST then 48 else 24) :
    ObsShows p s (observerStep s) := by
  have hp48 : p < 48 := lt_of_lt_of_le hp (by split <;> decide)
  exact State.each_once (R := ObsStands p s) (Q := ObsShows p s) hp (fun j u hj hu => hu.port hj)
    (fun j u hj hu => hu.keeps (observePort_portStands hj u)) (fun u hu => .congr hu (observePort_shows hp48 u))
    (.refl p s)

theorem PortStands.settle (p : Nat) (s : State) : PortStands p s s.settle :=
  ⟨fun fl h => fieldOf_settle s fl p (by rcases h with h | h <;> rw [h] <;> decide),
    tp_of_thm (State.thm_of_without (State.settle_settled s) rfl) p⟩

theorem signedOf_toNat (x : Word) : signedOf 32 x.toNat = x.toInt := by
  rw [BitVec.toInt_eq_toNat_cond, signedOf, Nat.mod_eq_of_lt x.isLt]
  have hx := x.isLt
  split <;> split <;> omega

theorem coolantIn_eq (p : Nat) (s : State) :
    coolantIn p s = (if p < 24 then (s.inlet p).getD 0 else s.fi Fl.THM_WIN_TCMAX p) * 10000 := by
  unfold coolantIn
  rcases Nat.lt_or_ge p 24 with h | h
  · rw [if_neg (by omega), if_pos h]
  · rw [if_pos h, if_neg (by omega)]

theorem coolantOut_eq (p : Nat) (s : State) :
    coolantOut p s = if p < 24 then (s.outlet p).map (· * 10000) else none := by
  unfold coolantOut
  rcases Nat.lt_or_ge p 24 with h | h
  · rw [if_neg (by omega), if_pos h]
  · rw [if_pos h, if_neg (by omega)]

theorem guestBound_eq (p v : Nat) (s : State) :
    guestBound p v s = if p < 24 then v else min v (s.f Fl.THM_ISTAT_ISTAT p) := by
  unfold guestBound
  rcases Nat.lt_or_ge p 24 with h | h
  · rw [if_neg (by omega), if_pos h]
  · rw [if_pos h, if_neg (by omega)]

/-- The flow of heat that the coolant carries: none for a guest port. -/
theorem coolantFlow_eq (p a b : Nat) :
    (((if 24 ≤ p then 0 else a) * b / 60 : Nat) : Int) = (if p < 24 then a * b / 60 else 0 : Nat) := by
  rcases Nat.lt_or_ge p 24 with h | h
  · rw [if_neg (by omega), if_pos h]
  · rw [if_pos h, if_neg (by omega), Nat.zero_mul, Nat.zero_div]

theorem obsBefore_kept {p : Nat} {s : State} {o : Observer} (h : (s.tp p).obs = some o)
    (hz : s.f Fl.THM_PSTAT_OBSFB p = 0) : obsBefore p s = o := by
  unfold obsBefore
  rw [h, b_false hz]

theorem steadyTemp_eq (o : Observer) (p : Nat) (s : State) :
    steadyTemp o p s = s.fi Fl.THM_LIM_TLIM p * 10000 +
      Int.tdiv ((s.fi Fl.THM_LIM_TLIM p * 10000 - o.t1) * (s.f Fl.THM_OBS_EH p : Int)) (65536 - (s.f Fl.THM_OBS_EH p :
        Int)) := by
  have hlt : s.f Fl.THM_OBS_EH p < 65536 := State.f_lt s Fl.THM_OBS_EH p
  rw [steadyTemp, truncDiv, Nat.cast_sub hlt.le]
  rfl

/-- Settles O33: one step of every port, each unmoved by the others, and the recurrences of R308 read off `observe`. -/
theorem cableObserver : Obligations.CableObserver := by
  intro p s hp own shown
  have hsh := (observerStep_shows hp).keeps (PortStands.settle p _)
  have hown : ∀ u v, fieldOf u.regs Fl.THM_CABLE_CABLE p = cableShown p v s → shown u v := fun u v h => by
    have hn := field_one s Fl.THM_PSTAT_NOGO p rfl
    dsimp only [shown, own]
    rw [State.f_fieldOf u, h, cableShown]
    simp only [hn, Bool.and_eq_true, decide_eq_true_eq]
  refine ⟨fun h => answers_done rfl ?_, fun o hf hz ho => ?_⟩
  · obtain ⟨h1, h2, h3⟩ := hsh.fallback h
    exact ⟨h1, h2, hown _ _ h3⟩
  · intro i tin tout c1 c2 res gf p1 p12 pf n1 n2
    have hx : obsAfter p s =
      { t1 := o.t1 + Int.tdiv n1 c1, f1 := Int.tmod n1 c1, f2 := Int.tmod n2 c2,
        t2 := (match tout with
          | none => o.t2 + Int.tdiv n2 c2
          | some x => o.t2 + Int.tdiv n2 c2 +
              truncDiv ((x - (o.t2 + Int.tdiv n2 c2)) * s.f Fl.THM_OBS_LOBS p) 256) } := by
      rw [obsAfter, obsBefore_kept ho hz, signedOf_toNat, coolantIn_eq, coolantOut_eq]
      unfold observe
      dsimp only
      rw [coolantFlow_eq]
      rfl
    obtain ⟨h1, h2⟩ := hsh.model hf
    refine answers_done rfl ⟨h1, obsAfter p s, h2, by rw [hx], by rw [hx], by rw [hx], fun h => by rw [hx, h],
      fun y h => by rw [hx, h]; rfl, fun h => hown _ _ (hsh.hot hf ?_), fun r h hr hy1 hy2 hr64 => ?_⟩
    · rwa [steadyTemp_eq]
    · have hc := hsh.cool hf (by rwa [steadyTemp_eq]) hr
      rw [guestBound_eq, isqrt_eq (r := r) ?_ ?_ hr64] at hc
      · exact hown _ _ hc
      · rwa [headroomArg, steadyTemp_eq]
      · rwa [headroomArg, steadyTemp_eq]

end Sys2Proof.Machine

/-! ## Sensors, flow and the coolant window (R301 to R316) -/

namespace Sys2Proof.Machine

set_option Elab.async false

/-! ### Sensors beside the ports -/

/-- Everything but the sensors: a register that no port or junction writes, and the sensors' counts. -/
structure SensorsStand (s u : State) : Prop where
  sstat : ∀ (fl : Fld) i, fl.reg = R.THM_SSTAT → fieldOf u.regs fl i = fieldOf s.regs fl i
  sensor : u.thm.sensor = s.thm.sensor

theorem SensorsStand.refl (s : State) : SensorsStand s s := ⟨fun _ _ _ => rfl, rfl⟩

theorem SensorsStand.trans {s t u : State} (h : SensorsStand s t) (h' : SensorsStand t u) : SensorsStand s u :=
  ⟨fun fl i hr => (h'.sstat fl i hr).trans (h.sstat fl i hr), h'.sensor.trans h.sensor⟩

/-- The registers that the ports' part of cooling writes. -/
def portRegs : List Rg :=
  [R.EVT_PEND, R.PRT_GCAUSE, R.SYS_SAVESTAT, R.THM_CABLE, R.THM_FLOW, R.THM_JSTAT, R.THM_PSTAT, R.THM_STAT]

theorem SensorsStand.of_regs {s u : State} (hw : u.without (onlyRegs portRegs) = s.without (onlyRegs portRegs))
    (hs : u.thm.sensor = s.thm.sensor) : SensorsStand s u :=
  ⟨fun fl i hr => fieldOf_onlyRegs hw i (by rw [hr]; decide), hs⟩

theorem toNogo_thm (p : Nat) (s : State) : (toNogo p s).thm = s.thm :=
  State.thm_of_without (A := butThm) (toNogo_writes rfl rfl rfl rfl rfl p s) rfl

theorem setTp_sensor (p : Nat) (f : ThmPort → ThmPort) (s : State) : (s.setTp p f).thm.sensor = s.thm.sensor := rfl

/-- The causes of a window that has failed. -/
def windowCauses (p : Nat) (s : State) : State :=
  (s.when ((s.tp p).inletOk && !s.inletIn p 0) (prtCause 22 p)).when ((s.tp p).flowOk && !s.flowMet p)
    fun s => thmCause 4 (prtCause 21 p s)

/-- The window's last state kept. -/
def windowKept (p : Nat) (s : State) : State :=
  (windowCauses p s).setTp p fun x => { x with inletOk := s.inletIn p 0, flowOk := s.flowMet p }

theorem evalWindow_eq {p : Nat} (hp : p < 24) (s : State) : evalWindow p s =
    if s.inletIn p 0 && s.flowMet p && (windowKept p s).b Fl.THM_PCH_EN p then windowKept p s
    else toNogo p (windowKept p s) := by
  unfold evalWindow
  exact if_neg (by omega)

theorem when_thm {f : State → State} (h : ∀ u, (f u).thm = u.thm) (c : Bool) (s : State) : (s.when c f).thm = s.thm :=
  State.when_cases (P := fun u => u.thm = s.thm) (fun _ => rfl) fun _ => h s

theorem when_prtCause_thm (c : Bool) (j g : Nat) (s : State) : (s.when c (prtCause j g)).thm = s.thm :=
  when_thm (prtCause_thm j g) c s

theorem windowCauses_thm (p : Nat) (s : State) : (windowCauses p s).thm = s.thm := by
  unfold windowCauses
  rw [when_thm (fun u => (thmCause_thm 4 _).trans (prtCause_thm 21 p u)), when_prtCause_thm]

theorem evalWindow_sensor (p : Nat) (s : State) : (evalWindow p s).thm.sensor = s.thm.sensor := by
  rcases Nat.lt_or_ge p 24 with hp | hp
  · have hk : (windowKept p s).thm.sensor = s.thm.sensor :=
      (setTp_sensor ..).trans (congrArg ThmState.sensor (windowCauses_thm p s))
    rw [evalWindow_eq hp]
    split
    · exact hk
    · rw [toNogo_thm, hk]
  · unfold evalWindow
    rw [if_pos hp]

theorem reefRise_thm (p : Nat) (s : State) : (reefRise p s).thm = s.thm := (reefRise_stands p s).1

/-- What a port does with a new value of one of its sensors. -/
def portReads (p : Nat) (hot : Bool) (s : State) : State :=
  reefRise p (evalWindow p ((s.when (hot && !(s.tp p).pinHot) (prtCause 18 (portGroup p))).setTp p fun x =>
    { x with pinHot := hot }))

theorem portReads_sensor (p : Nat) (hot : Bool) (s : State) : (portReads p hot s).thm.sensor = s.thm.sensor := by
  rw [portReads, reefRise_thm, evalWindow_sensor, setTp_sensor, when_prtCause_thm]

theorem portsOfSensor_sensor (i : Nat) (s : State) : (portsOfSensor i s).thm.sensor = s.thm.sensor :=
  State.each_induct (P := fun u => u.thm.sensor = s.thm.sensor) (fun p u hu => by
    split
    · exact hu
    · exact (portReads_sensor p _ u).trans hu) rfl 48

theorem portsOfSensor_stand (i : Nat) (s : State) : SensorsStand s (portsOfSensor i s) :=
  .of_regs (portsOfSensor_writes (by decide) (by decide) (by decide) (by decide) (by decide) rfl i s)
    (portsOfSensor_sensor i s)

theorem junction_stand (s : State) : SensorsStand s (junction s) :=
  .of_regs (junction_writes (by decide) (by decide) (by decide) (by decide) rfl s)
    (congrArg ThmState.sensor (State.thm_of_without (A := butThm) (junction_writes rfl rfl rfl rfl rfl s) rfl))

/-! ### One sensor -/

/-- Sensor `i` is as it was. -/
structure SensorStands (i : Nat) (s u : State) : Prop where
  sstat : ∀ fl : Fld, fl.reg = R.THM_SSTAT → fieldOf u.regs fl i = fieldOf s.regs fl i
  sen : u.sen i = s.sen i

theorem SensorStands.refl (i : Nat) (s : State) : SensorStands i s s := ⟨fun _ _ => rfl, rfl⟩

theorem SensorStands.trans {i : Nat} {s t u : State} (h : SensorStands i s t) (h' : SensorStands i t u) :
    SensorStands i s u := ⟨fun fl hr => (h'.sstat fl hr).trans (h.sstat fl hr), h'.sen.trans h.sen⟩

theorem SensorsStand.one {s u : State} (h : SensorsStand s u) (i : Nat) : SensorStands i s u :=
  ⟨fun fl hr => h.sstat fl i hr, by rw [State.sen, State.sen, h.sensor]⟩

theorem State.sen_member (s : State) (i : Nat) : s.sen i = memberOf s.thm.sensor i {} := rfl

theorem sen_setSen {i : Nat} (hi : i < 80) (s : State) (f : Sensor → Sensor) : (s.setSen i f).sen i = f (s.sen i) :=
  memberOf_set_same s.thm.sensor _ {} hi

theorem sen_setSen_other {i k : Nat} (h : k ≠ i) (s : State) (f : Sensor → Sensor) : (s.setSen k f).sen i = s.sen i :=
  memberOf_set_other s.thm.sensor _ {} h

theorem sen_of_thm {s u : State} (h : u.thm = s.thm) (i : Nat) : u.sen i = s.sen i := by rw [State.sen, State.sen, h]

theorem setF_sensorStands {i k : Nat} (hk : k ≠ i) (a : Fld) (ha : a.reg = R.THM_SSTAT) (v : Nat) (s : State) :
    SensorStands i s (s.setF a k v) :=
  ⟨fun fl hr => fieldOf_setF_index s a fl v hk (hr.trans ha.symm), sen_of_thm (State.setF_thm ..) i⟩

theorem setSen_sensorStands {i k : Nat} (hk : k ≠ i) (f : Sensor → Sensor) (s : State) :
    SensorStands i s (s.setSen k f) := ⟨fun _ _ => rfl, sen_setSen_other hk s f⟩

theorem thmCause_sensorsStand (j : Nat) (s : State) : SensorsStand s (thmCause j s) :=
  .of_regs (thmCause_writes (by decide) (by decide) j s) (congrArg ThmState.sensor (thmCause_thm j s))

theorem stepLadder_other {i k : Nat} (hk : k ≠ i) (t : Int) (s : State) : SensorStands i s (stepLadder k t s) := by
  have hp : ∀ v f, SensorStands i s ((s.setF Fl.THM_SSTAT_PERIOD k v).setSen k f) := fun v f =>
    (setF_sensorStands hk _ rfl v s).trans (setSen_sensorStands hk f _)
  unfold stepLadder
  dsimp only
  split
  · exact hp ..
  · split
    · exact hp ..
    · split
      · split
        · exact hp ..
        · exact setSen_sensorStands hk ..
      · exact setSen_sensorStands hk ..

/-- One limit of a sensor, with its hysteresis. -/
def limitEdge (fl : Fld) (i : Nat) (beyond inside : Bool) (s : State) : State :=
  if beyond then (if s.b fl i then s else thmCause 3 (s.setB fl i true))
  else if inside then s.setB fl i false else s

theorem checkLimits_eq (i : Nat) (t : Int) (s : State) : ∃ a b c d, checkLimits i t s =
    limitEdge Fl.THM_SSTAT_LOX i a b (limitEdge Fl.THM_SSTAT_HIX i c d s) := ⟨_, _, _, _, rfl⟩

theorem limitEdge_other {i k : Nat} (hk : k ≠ i) (fl : Fld) (hr : fl.reg = R.THM_SSTAT) (a b : Bool) (s : State) :
    SensorStands i s (limitEdge fl k a b s) := by
  unfold limitEdge
  split
  · split
    · exact .refl i s
    · exact (setF_sensorStands hk fl hr _ s).trans ((thmCause_sensorsStand 3 _).one i)
  · split
    · exact setF_sensorStands hk fl hr _ s
    · exact .refl i s

theorem limitEdge_sen (fl : Fld) (i k : Nat) (a b : Bool) (s : State) : (limitEdge fl k a b s).sen i = s.sen i := by
  unfold limitEdge
  split
  · split
    · rfl
    · exact sen_of_thm ((thmCause_thm ..).trans (State.setF_thm ..)) i
  · split
    · exact sen_of_thm (State.setF_thm ..) i
    · rfl

theorem fieldOf_limitEdge {fl gl : Fld} (i k : Nat) (a b : Bool) (s : State) (h : fl.apart gl = true)
    (hr : gl.reg = R.THM_SSTAT) : fieldOf (limitEdge fl k a b s).regs gl i = fieldOf s.regs gl i := by
  unfold limitEdge
  split
  · split
    · rfl
    · exact ((thmCause_sensorsStand 3 _).sstat gl i hr).trans (fieldOf_setB_apart _ _ _ _ _ _ h)
  · split
    · exact fieldOf_setB_apart _ _ _ _ _ _ h
    · rfl

/-- A value taken into use. -/
def valueShown (i : Nat) (t : Int) (fb : Bool) (s : State) : State :=
  s.setFi Fl.THM_SSTAT_T i t |>.setB Fl.THM_SSTAT_FB i fb

/-- The limits and the period of a sensor follow its value. -/
def valueSteps (i : Nat) (t : Int) (s : State) : State :=
  if t = noReading then s else stepLadder i t (checkLimits i t s)

theorem useValue_eq (i : Nat) (t : Int) (fb : Bool) (s : State) : useValue i t fb s =
    (portsOfSensor i (valueSteps i t (valueShown i t fb s))).when (64 ≤ i) junction := rfl

theorem useValue_tail (i : Nat) (t : Int) (fb : Bool) (s : State) :
    SensorsStand (valueSteps i t (valueShown i t fb s)) (useValue i t fb s) := by
  rw [useValue_eq]
  generalize valueSteps i t (valueShown i t fb s) = v
  exact (portsOfSensor_stand i v).trans
    (State.when_cases (P := SensorsStand (portsOfSensor i v)) (fun _ => .refl _) fun _ => junction_stand _)

theorem useValue_other {i k : Nat} (hk : k ≠ i) (t : Int) (fb : Bool) (s : State) :
    SensorStands i s (useValue k t fb s) := by
  have h1 : SensorStands i s (valueShown k t fb s) :=
    (setF_sensorStands hk Fl.THM_SSTAT_T rfl _ s).trans (setF_sensorStands hk Fl.THM_SSTAT_FB rfl _ _)
  refine (h1.trans ?_).trans ((useValue_tail k t fb s).one i)
  unfold valueSteps
  split
  · exact .refl i _
  · obtain ⟨a, b, c, d, he⟩ := checkLimits_eq k t (valueShown k t fb s)
    rw [he]
    exact ((limitEdge_other hk _ rfl ..).trans (limitEdge_other hk _ rfl ..)).trans (stepLadder_other hk ..)

theorem useAndFollow_stands (i : Nat) (t : Int) (fb : Bool) (s : State) :
    SensorStands i (useValue i t fb s) (useAndFollow i t fb s) := by
  unfold useAndFollow
  refine State.each_induct (P := SensorStands i (useValue i t fb s)) (fun k u hu => ?_) (.refl i _) 80
  split
  · next hc =>
    refine hu.trans (useValue_other ?_ _ _ u)
    simp only [Bool.and_eq_true, decide_eq_true_eq] at hc
    exact hc.2
  · exact hu

/-- The counts of a sensor, without what its period keeps. -/
structure CountsStand (i : Nat) (s u : State) : Prop where
  good : (u.sen i).good = (s.sen i).good
  bad : (u.sen i).bad = (s.sen i).bad
  kind : (u.sen i).kind = (s.sen i).kind

/-- A change that leaves a sensor's counts. -/
def KeepsCounts (f : Sensor → Sensor) : Prop :=
  ∀ x, (f x).good = x.good ∧ (f x).bad = x.bad ∧ (f x).kind = x.kind

theorem setSen_counts {i : Nat} (hi : i < 80) {s u : State} (hu : u.thm = s.thm) {f : Sensor → Sensor}
    (hf : KeepsCounts f) : CountsStand i s (u.setSen i f) := by
  have hs := sen_setSen hi u f
  rw [sen_of_thm hu] at hs
  exact ⟨by rw [hs, (hf _).1], by rw [hs, (hf _).2.1], by rw [hs, (hf _).2.2]⟩

/-- What a step of the ladder leaves of a sensor: all but the period. -/
structure LadderStands (i : Nat) (s u : State) : Prop where
  counts : CountsStand i s u
  sstat : ∀ fl k, fl.reg = R.THM_SSTAT → Fl.THM_SSTAT_PERIOD.apart fl = true →
    fieldOf u.regs fl k = fieldOf s.regs fl k

theorem ladder_period {i : Nat} (hi : i < 80) (v : Nat) (s : State) :
    LadderStands i s ((s.setF Fl.THM_SSTAT_PERIOD i v).setSen i fun x => { x with calm := 0 }) :=
  ⟨setSen_counts hi (State.setF_thm ..) fun _ => ⟨rfl, rfl, rfl⟩, fun _ _ _ ha => fieldOf_setF_apart s _ _ _ _ _ ha⟩

theorem ladder_same {i : Nat} (hi : i < 80) (f : Sensor → Sensor) (hf : KeepsCounts f) (s : State) :
    LadderStands i s (s.setSen i f) := ⟨setSen_counts hi rfl hf, fun _ _ _ _ => rfl⟩

theorem stepLadder_stands {i : Nat} (hi : i < 80) (t : Int) (s : State) : LadderStands i s (stepLadder i t s) := by
  unfold stepLadder
  dsimp only
  split
  · exact ladder_period hi 2 s
  · split
    · exact ladder_period hi _ s
    · split
      · split
        · exact ladder_period hi _ s
        · exact ladder_same hi (fun x => { x with calm := x.calm + 1 }) (fun _ => ⟨rfl, rfl, rfl⟩) s
      · exact ladder_same hi (fun x => { x with calm := 0 }) (fun _ => ⟨rfl, rfl, rfl⟩) s

theorem stepLadder_broken {i : Nat} (hi : i < 80) (t : Int) {s : State} (hb : s.sensorBroken i = true) :
    fieldOf (stepLadder i t s).regs Fl.THM_SSTAT_PERIOD i = 2 := by
  have he : stepLadder i t s = (s.setF Fl.THM_SSTAT_PERIOD i 2).setSen i fun x => { x with calm := 0 } := by
    unfold stepLadder
    exact if_pos (by rw [State.fastSensor, hb]; rfl)
  rw [he]
  exact fieldOf_setF_fits s _ _ _ (lt_of_lt_of_le hi (by decide)) (by decide) (by decide)

/-- What taking a value into use shows of the sensor. -/
structure ValueUsed (i : Nat) (t : Int) (fb : Bool) (s u : State) : Prop where
  value : fieldOf u.regs Fl.THM_SSTAT_T i = unsignedOf 16 t
  fallback : fieldOf u.regs Fl.THM_SSTAT_FB i = b2n fb
  fault : fieldOf u.regs Fl.THM_SSTAT_FAULT i = fieldOf s.regs Fl.THM_SSTAT_FAULT i
  counts : CountsStand i s u
  period : s.sensorBroken i = true → fieldOf s.regs Fl.THM_SSTAT_PERIOD i = 2 →
    fieldOf u.regs Fl.THM_SSTAT_PERIOD i = 2

theorem unsignedOf_lt (w : Nat) (v : Int) : unsignedOf w v < 2 ^ w := by
  have h1 := Int.emod_lt_of_pos v (show (0 : Int) < (2 ^ w : Nat) by positivity)
  have h2 := Int.emod_nonneg v (show ((2 ^ w : Nat) : Int) ≠ 0 by positivity)
  rw [unsignedOf]
  omega

theorem valueShown_used {i : Nat} (hi : i < 80) (t : Int) (fb : Bool) (s : State) :
    ValueUsed i t fb s (valueShown i t fb s) := by
  have hlt : i < R.THM_SSTAT.count := lt_of_lt_of_le hi (by decide)
  have hsen : (valueShown i t fb s).sen i = s.sen i := sen_of_thm ((State.setF_thm ..).trans (State.setF_thm ..)) i
  have hst : ∀ fl : Fld, Fl.THM_SSTAT_FB.apart fl = true → Fl.THM_SSTAT_T.apart fl = true →
      fieldOf (valueShown i t fb s).regs fl i = fieldOf s.regs fl i := fun fl h1 h2 =>
    (fieldOf_setB_apart _ _ _ _ _ _ h1).trans (fieldOf_setFi_apart _ _ _ _ _ _ h2)
  refine ⟨?_, fieldOf_setB_same _ _ _ _ hlt (by decide) (by decide), hst _ (by decide) (by decide),
    ⟨by rw [hsen], by rw [hsen], by rw [hsen]⟩, fun _ hp => (hst _ (by decide) (by decide)).trans hp⟩
  exact (fieldOf_setB_apart _ _ _ _ _ _ (by decide)).trans
    (fieldOf_setF_fits s _ _ _ hlt (by decide) (unsignedOf_lt 16 t))

theorem ValueUsed.keeps {i : Nat} {t : Int} {fb : Bool} {s u w : State} (h : ValueUsed i t fb s u)
    (hw : SensorStands i u w) : ValueUsed i t fb s w := by
  obtain ⟨h1, h2, h3, ⟨g1, g2, g3⟩, h5⟩ := h
  exact ⟨(hw.sstat _ rfl).trans h1, (hw.sstat _ rfl).trans h2, (hw.sstat _ rfl).trans h3,
    ⟨by rw [hw.sen, g1], by rw [hw.sen, g2], by rw [hw.sen, g3]⟩, fun a b => (hw.sstat _ rfl).trans (h5 a b)⟩

theorem valueSteps_used {i : Nat} (hi : i < 80) (t : Int) (fb : Bool) (s : State) :
    ValueUsed i t fb s (valueSteps i t (valueShown i t fb s)) := by
  have h := valueShown_used hi t fb s
  unfold valueSteps
  split
  · exact h
  · obtain ⟨a, b, c, d, he⟩ := checkLimits_eq i t (valueShown i t fb s)
    rw [he]
    generalize valueShown i t fb s = w at h
    have hedge : ∀ gl : Fld, gl.reg = R.THM_SSTAT → Fl.THM_SSTAT_HIX.apart gl = true → Fl.THM_SSTAT_LOX.apart gl =
      true →
        fieldOf (limitEdge Fl.THM_SSTAT_LOX i a b (limitEdge Fl.THM_SSTAT_HIX i c d w)).regs gl i =
          fieldOf w.regs gl i := fun gl hr h1 h2 =>
      (fieldOf_limitEdge _ _ _ _ _ h2 hr).trans (fieldOf_limitEdge _ _ _ _ _ h1 hr)
    have hsen : (limitEdge Fl.THM_SSTAT_LOX i a b (limitEdge Fl.THM_SSTAT_HIX i c d w)).sen i = w.sen i :=
      (limitEdge_sen ..).trans (limitEdge_sen ..)
    generalize limitEdge Fl.THM_SSTAT_LOX i a b (limitEdge Fl.THM_SSTAT_HIX i c d w) = v at hedge hsen
    obtain ⟨⟨k1, k2, k3⟩, hf⟩ := stepLadder_stands hi t v
    obtain ⟨h1, h2, h3, ⟨g1, g2, g3⟩, -⟩ := h
    have hfault := (hedge Fl.THM_SSTAT_FAULT rfl (by decide) (by decide)).trans h3
    refine ⟨?_, ?_, ?_, ⟨by rw [k1, hsen, g1], by rw [k2, hsen, g2], by rw [k3, hsen, g3]⟩,
      fun hb _ => stepLadder_broken hi t ((b_of_field hfault).trans hb)⟩
    · rw [hf _ _ rfl (by decide), hedge _ rfl (by decide) (by decide), h1]
    · rw [hf _ _ rfl (by decide), hedge _ rfl (by decide) (by decide), h2]
    · rw [hf _ _ rfl (by decide), hfault]

theorem useAndFollow_used {i : Nat} (hi : i < 80) (t : Int) (fb : Bool) (s : State) :
    ValueUsed i t fb s (useAndFollow i t fb s) :=
  ((valueSteps_used hi t fb s).keeps ((useValue_tail i t fb s).one i)).keeps (useAndFollow_stands i t fb s)

end Sys2Proof.Machine

/-! ## Conversions, broken sensors and their return (R301 to R303) -/

namespace Sys2Proof.Machine

set_option Elab.async false

/-! ### Causes of cooling stay shown -/

/-- Cause `k` of cooling is shown. -/
def ThmShows (k : Nat) (s : State) : Prop := bitOf (fieldOf s.regs Fl.THM_STAT_CAUSE 0) k = true

theorem thmCause_shows (j : Nat) (hj : j < 8) (s : State) : ThmShows j (thmCause j s) :=
  bitOf_causeOn _ _ _ _ _ _ (by decide) (by decide) hj (by decide)

section
variable {k : Nat} (hk : k < 8) {s : State}

theorem ThmShows.of_field {u : State} (h : ThmShows k s)
    (hu : fieldOf u.regs Fl.THM_STAT_CAUSE 0 = fieldOf s.regs Fl.THM_STAT_CAUSE 0) : ThmShows k u := by
  rwa [ThmShows, hu]

theorem ThmShows.setF (h : ThmShows k s) (fl : Fld) (i v : Nat) (ha : fl.apart Fl.THM_STAT_CAUSE = true) :
    ThmShows k (s.setF fl i v) := h.of_field (fieldOf_setF_apart s _ _ _ _ _ ha)

theorem ThmShows.prtCause (h : ThmShows k s) (j g : Nat) : ThmShows k (prtCause j g s) :=
  h.of_field (fieldOf_prtCause _ _ _ _ (by decide))

include hk

theorem ThmShows.thmCause (h : ThmShows k s) (j : Nat) : ThmShows k (thmCause j s) :=
  bitOf_causeOn_keeps (by decide) (by decide) (by decide) hk (by decide) h

theorem ThmShows.setReef (h : ThmShows k s) (p v : Nat) : ThmShows k (setReef p v s) := by
  unfold Machine.setReef
  split
  · exact h
  · exact ((h.setF _ _ _ (by decide)).prtCause ..).thmCause hk 2

theorem ThmShows.reefRise (h : ThmShows k s) (p : Nat) : ThmShows k (reefRise p s) := by
  unfold Machine.reefRise
  dsimp only
  split
  · exact h.setReef hk ..
  · exact h

theorem ThmShows.toNogo (h : ThmShows k s) (p : Nat) : ThmShows k (toNogo p s) := by
  unfold Machine.toNogo
  split
  · exact h
  · exact (((h.setF Fl.THM_PSTAT_NOGO p 1 (by decide)).setF _ _ _ (by decide)).prtCause ..).thmCause hk 1

omit hk in
theorem ThmShows.when {f : State → State} (h : ThmShows k s) (hf : ∀ u, ThmShows k u → ThmShows k (f u)) (c : Bool) :
    ThmShows k (s.when c f) := State.when_cases (fun _ => h) fun _ => hf s h

theorem ThmShows.evalWindow (h : ThmShows k s) (p : Nat) : ThmShows k (evalWindow p s) := by
  rcases Nat.lt_or_ge p 24 with hp | hp
  · have hcauses : ThmShows k (windowCauses p s) :=
      (h.when (fun u hu => hu.prtCause 22 p) _).when (fun u hu => (hu.prtCause 21 p).thmCause hk 4) _
    have hkept : ThmShows k (windowKept p s) := hcauses.of_field rfl
    rw [evalWindow_eq hp]
    split
    · exact hkept
    · exact hkept.toNogo hk p
  · unfold Machine.evalWindow
    rwa [if_pos hp]

theorem ThmShows.portReads (h : ThmShows k s) (p : Nat) (hot : Bool) : ThmShows k (portReads p hot s) := by
  have hw : ∀ c f, ThmShows k ((s.when c (Machine.prtCause 18 (portGroup p))).setTp p f) := fun c f =>
    (h.when (fun u hu => hu.prtCause 18 (portGroup p)) c).of_field rfl
  exact ((hw _ _).evalWindow hk p).reefRise hk p

theorem ThmShows.portsOfSensor (h : ThmShows k s) (i : Nat) : ThmShows k (portsOfSensor i s) :=
  State.each_induct (P := ThmShows k) (fun p u hu => by
    split
    · exact hu
    · exact hu.portReads hk p _) h 48

theorem ThmShows.junction (h : ThmShows k s) : ThmShows k (junction s) := by
  unfold Machine.junction
  dsimp only
  split
  · exact h
  · next t ts _ =>
    have h1 : ∀ hi lo ok, ThmShows k (((s.setFi Fl.THM_JSTAT_TJMAX 0 hi).setFi Fl.THM_JSTAT_TJMIN 0 lo).setB
        Fl.THM_JSTAT_NVOK 0 ok) := fun hi lo ok =>
      ((h.setF _ _ _ (by decide)).setF _ _ _ (by decide)).setF _ _ _ (by decide)
    have h2 : ∀ hi lo ok c, ThmShows k ((((s.setFi Fl.THM_JSTAT_TJMAX 0 hi).setFi Fl.THM_JSTAT_TJMIN 0 lo).setB
        Fl.THM_JSTAT_NVOK 0 ok).when c (Machine.thmCause 5)) := fun hi lo ok c =>
      (h1 hi lo ok).when (fun u hu => hu.thmCause hk 5) c
    split
    · exact ThmShows.thmCause hk (((h2 _ _ _ _).setF _ _ _ (by decide)).of_field
        (fieldOf_onlyRegs (l := [R.EVT_PEND,
          R.SYS_SAVESTAT]) (startSave_writes (by decide) (by decide) rfl 4 _) 0 (by decide))) 6
    · exact h2 _ _ _ _

theorem ThmShows.limitEdge (h : ThmShows k s) {fl : Fld} (ha : fl.apart Fl.THM_STAT_CAUSE = true) (i : Nat) (a b :
  Bool) :
    ThmShows k (limitEdge fl i a b s) := by
  unfold Machine.limitEdge
  split
  · split
    · exact h
    · exact (h.setF _ _ _ ha).thmCause hk 3
  · split
    · exact h.setF _ _ _ ha
    · exact h

theorem ThmShows.valueSteps (h : ThmShows k s) (i : Nat) (t : Int) : ThmShows k (valueSteps i t s) := by
  unfold Machine.valueSteps
  split
  · exact h
  · obtain ⟨a, b, c, d, he⟩ := checkLimits_eq i t s
    rw [he]
    refine ThmShows.of_field ((h.limitEdge hk (by decide) i c d).limitEdge hk (by decide) i a b)
      (fieldOf_onlyRegs (l := [R.THM_SSTAT]) (stepLadder_writes (by decide) rfl i t _) 0 (by decide))

theorem ThmShows.useValue (h : ThmShows k s) (i : Nat) (t : Int) (fb : Bool) : ThmShows k (useValue i t fb s) := by
  rw [useValue_eq]
  have hshown : ThmShows k (valueShown i t fb s) :=
    (h.setF Fl.THM_SSTAT_T i _ (by decide)).setF _ _ _ (by decide)
  exact ((hshown.valueSteps hk i t).portsOfSensor hk i).when (fun u hu => hu.junction hk) _

theorem ThmShows.useAndFollow (h : ThmShows k s) (i : Nat) (t : Int) (fb : Bool) :
    ThmShows k (useAndFollow i t fb s) := by
  unfold Machine.useAndFollow
  refine State.each_induct (P := ThmShows k) (fun j u hu => ?_) (h.useValue hk i t fb) 80
  split
  · exact hu.useValue hk ..
  · exact hu

end

theorem ThmShows.settled {k : Nat} {s : State} (h : ThmShows k s) : bitOf (s.settle.f Fl.THM_STAT_CAUSE) k = true := by
  rw [State.f_fieldOf, fieldOf_settle _ _ _ (by decide)]
  exact h

theorem SensorStands.settle (i : Nat) (s : State) : SensorStands i s s.settle :=
  ⟨fun fl h => fieldOf_settle s fl i (by rw [h]; decide),
    sen_of_thm (State.thm_of_without (State.settle_settled s) rfl) i⟩

/-! ### Conversions (R301) -/

/-- The kind of fault that a conversion shows. -/
def conversionKind (i ohms : Nat) (s : State) : Nat := if i < 64 then brokenKind (s.f Fl.THM_SCFG_TYPE i) ohms else 0

/-- The conversion kept and counted. -/
def conversionKept (i kind : Nat) (t : Int) (s : State) : State :=
  ({ s with thm.conv := s.thm.conv.setIfInBounds i (if kind = 0 then some t else none) } : State).setSen i fun x =>
    if kind = 0 then { x with bad := 0, good := x.good + 1 } else { x with bad := x.bad + 1, good := 0, kind := kind }

theorem conversion_eq {i ohms : Nat} {t : Int} {s : State} (h : s.sensorOn i = true) : conversion i ohms t s =
    if conversionKind i ohms s = 0 && !s.sensorBroken i then
      useAndFollow i t false (conversionKept i (conversionKind i ohms s) t s)
    else conversionKept i (conversionKind i ohms s) t s := by
  unfold conversion
  exact if_neg (by rw [h]; decide)

theorem conversionKept_sen {i : Nat} (hi : i < 80) (kind : Nat) (t : Int) (s : State) :
    (conversionKept i kind t s).sen i = if kind = 0 then { s.sen i with bad := 0, good := (s.sen i).good + 1 }
      else { s.sen i with bad := (s.sen i).bad + 1, good := 0, kind := kind } := sen_setSen hi _ _

theorem sensorOn_of {i : Nat} (hi : i < 80) {s : State}
    (h : (i < 64 ∧ s.f Fl.THM_SCFG_TYPE i = 1) ∨ (i < 64 ∧ s.f Fl.THM_SCFG_TYPE i = 2) ∨ 64 ≤ i) :
    s.sensorOn i = true := by
  rcases h with ⟨h1, h2⟩ | ⟨h1, h2⟩ | h
  · simp [State.sensorOn, h1, h2]
  · simp [State.sensorOn, h1, h2]
  · simp [State.sensorOn, h, hi]

theorem conversion_good {i ohms : Nat} {t : Int} {s : State} (hi : i < 80) (hon : s.sensorOn i = true)
    (h1 : -32768 ≤ t) (h2 : t < 32768) (hk : conversionKind i ohms s = 0) :
    Answers (.sensorConversion i ohms t) s fun u => (u.sen i).good = (s.sen i).good + 1 ∧
      (u.sen i).bad = 0 ∧ (s.f Fl.THM_SSTAT_FAULT i = 0 → u.fi Fl.THM_SSTAT_T i = t ∧ u.f Fl.THM_SSTAT_FB i = 0) := by
  have hs := conversionKept_sen hi 0 t s
  rw [if_pos rfl] at hs
  by_cases hb : s.f Fl.THM_SSTAT_FAULT i = 0
  · have he : conversion i ohms t s = useAndFollow i t false (conversionKept i 0 t s) := by
      rw [conversion_eq hon, hk, State.sensorBroken, b_false hb]
      rfl
    have hu := (useAndFollow_used hi t false (conversionKept i 0 t s)).keeps (.settle i _)
    refine answers_done (congrArg done he) ⟨by rw [hu.counts.good, hs], by rw [hu.counts.bad, hs], fun _ => ⟨?_,
      hu.fallback⟩⟩
    rw [State.fi_fieldOf, hu.value]
    exact signedOf_unsignedOf (by decide) h1 h2
  · have hbt : s.sensorBroken i = true := by
      rw [State.sensorBroken, State.b_fieldOf, ← State.f_fieldOf]
      simpa using hb
    have he : conversion i ohms t s = conversionKept i 0 t s := by
      rw [conversion_eq hon, hk, hbt]
      rfl
    have hst := (SensorStands.settle i (conversionKept i 0 t s)).sen
    exact answers_done (congrArg done he) ⟨by rw [hst, hs], by rw [hst, hs], fun h => absurd h hb⟩

theorem conversion_bad {i ohms k : Nat} {t : Int} {s : State} (hi : i < 80) (hon : s.sensorOn i = true)
    (hk : conversionKind i ohms s = k) (h0 : k ≠ 0) :
    Answers (.sensorConversion i ohms t) s fun u => (u.sen i).good = 0 ∧ (u.sen i).bad = (s.sen i).bad + 1 ∧
      (u.sen i).kind = k ∧ u.reg R.THM_SSTAT i = s.reg R.THM_SSTAT i := by
  have hs := conversionKept_sen hi k t s
  rw [if_neg h0] at hs
  have he : conversion i ohms t s = conversionKept i k t s := by
    rw [conversion_eq hon, hk, if_neg (by simp [h0])]
  have hst := (SensorStands.settle i (conversionKept i k t s)).sen
  refine answers_done (congrArg done he) ⟨by rw [hst, hs], by rw [hst, hs], by rw [hst, hs], ?_⟩
  rw [State.reg_regOf, regOf_settle _ _ _ (by decide), State.reg_regOf]
  rfl

theorem sensor_returns {i : Nat} {t : Int} {s : State} (hi : i < 80) (h1 : -32768 ≤ t) (h2 : t < 32768)
    (hc : s.thm.conv.toList.getD i none = some t) (hf : s.f Fl.THM_SSTAT_FAULT i ≠ 0) (hg : 10 ≤ (s.sen i).good) :
    Answers (.sensorRestored i) s fun u => u.f Fl.THM_SSTAT_FAULT i = 0 ∧ u.fi Fl.THM_SSTAT_T i = t ∧
      u.f Fl.THM_SSTAT_FB i = 0 := by
  have hbt : s.sensorBroken i = true := by
    rw [State.sensorBroken, State.b_fieldOf, ← State.f_fieldOf]
    simpa using hf
  have he : sensorReturns i s = useAndFollow i t false (s.setF Fl.THM_SSTAT_FAULT i 0) := by
    unfold sensorReturns
    rw [hc]
    exact if_pos (by rw [hbt]; simpa using hg)
  have h0 : fieldOf (s.setF Fl.THM_SSTAT_FAULT i 0).regs Fl.THM_SSTAT_FAULT i = 0 :=
    fieldOf_setF_fits s _ _ _ (lt_of_lt_of_le hi (by decide)) (by decide) (by decide)
  have hu := (useAndFollow_used hi t false (s.setF Fl.THM_SSTAT_FAULT i 0)).keeps (.settle i _)
  refine answers_done (congrArg done he) ⟨hu.fault.trans h0, ?_, hu.fallback⟩
  rw [State.fi_fieldOf, hu.value]
  exact signedOf_unsignedOf (by decide) h1 h2

/-! ### A broken sensor (R302) -/

/-- The fault of a broken sensor shown. -/
def faultShown (i : Nat) (s : State) : State :=
  thmCause 0 (s.setF Fl.THM_SSTAT_FAULT i (s.sen i).kind |>.setF Fl.THM_SSTAT_PERIOD i 2)

/-- The ports of a broken sensor told. -/
def faultTold (i : Nat) (s : State) : State :=
  (faultShown i s).each 48 fun p s => s.when (s.portSensor p i) (prtCause 20 (portGroup p))

theorem sensorBreaks_eq {i : Nat} {s : State} (hi : i < 80) (hf : s.f Fl.THM_SSTAT_FAULT i = 0)
    (hb : 2 ≤ (s.sen i).bad) : sensorBreaks i s =
      useAndFollow i ((faultTold i s).fallback i) true (faultTold i s) := by
  unfold sensorBreaks
  exact if_neg (by rw [State.sensorBroken, b_false hf]; simp; omega)

theorem fieldOf_faultTold {fl : Fld} (i k : Nat) (s : State)
    (h : (!regsIn [R.EVT_PEND, R.PRT_GCAUSE] fl.reg.addr && decide (fl.reg.count ≤ 65536)) = true) :
    fieldOf (faultTold i s).regs fl k = fieldOf (faultShown i s).regs fl k :=
  State.each_when (P := fun u => fieldOf u.regs fl k = fieldOf (faultShown i s).regs fl k)
    (fun p u hu => (fieldOf_prtCause _ _ _ _ h).trans hu) rfl 48

theorem fieldOf_faultShown {fl : Fld} (i k : Nat) (s : State)
    (h : fldsApart [Fl.THM_SSTAT_FAULT, Fl.THM_SSTAT_PERIOD] fl = true)
    (hc : (!regsIn [R.EVT_PEND, R.THM_STAT] fl.reg.addr && decide (fl.reg.count ≤ 65536)) = true) :
    fieldOf (faultShown i s).regs fl k = fieldOf s.regs fl k := by
  rw [faultShown, fieldOf_thmCause _ _ _ hc, fieldOf_setF_apart _ _ _ _ _ _ (apart_of_mem h (by simp)),
    fieldOf_setF_apart _ _ _ _ _ _ (apart_of_mem h (by simp))]

theorem faultShown_other {i k : Nat} (h : k ≠ i) (s : State) :
    fieldOf (faultShown i s).regs Fl.THM_SSTAT_FAULT k = fieldOf s.regs Fl.THM_SSTAT_FAULT k := by
  rw [faultShown, fieldOf_thmCause _ _ _ (by decide), fieldOf_setF_apart _ _ _ _ _ _ (by decide)]
  exact fieldOf_setF_member s _ _ h.symm

theorem faultShown_shows {i : Nat} (hi : i < 80) {s : State} (hk : (s.sen i).kind < 4) :
    fieldOf (faultShown i s).regs Fl.THM_SSTAT_FAULT i = (s.sen i).kind ∧
    fieldOf (faultShown i s).regs Fl.THM_SSTAT_PERIOD i = 2 := by
  have hlt : i < R.THM_SSTAT.count := lt_of_lt_of_le hi (by decide)
  have hw : (s.sen i).kind < 2 ^ Fl.THM_SSTAT_FAULT.width := hk
  constructor
  · rw [faultShown, fieldOf_thmCause _ _ _ (by decide), fieldOf_setF_apart _ _ _ _ _ _ (by decide)]
    exact fieldOf_setF_fits s _ _ _ hlt (by decide) hw
  · rw [faultShown, fieldOf_thmCause _ _ _ (by decide)]
    exact fieldOf_setF_fits _ _ _ _ hlt (by decide) (by decide)

/-- The other sensor that stands in for sensor `i` (R302). -/
def StandsIn (i : Nat) (s : State) : Prop :=
  s.f Fl.THM_SCFG_FBFIX i = 0 ∧ s.f Fl.THM_SCFG_ALT i < 80 ∧ s.f Fl.THM_SCFG_ALT i ≠ i ∧
    s.f Fl.THM_SSTAT_FAULT (s.f Fl.THM_SCFG_ALT i) = 0 ∧ s.fi Fl.THM_SSTAT_T (s.f Fl.THM_SCFG_ALT i) ≠ -32768

theorem unsignedOf_signedOf {w x : Nat} (h : x < 2 ^ w) : unsignedOf w (signedOf w x) = x := by
  rw [unsignedOf, signedOf, Nat.mod_eq_of_lt h]
  split
  · rw [Int.emod_eq_of_lt (by omega) (by exact_mod_cast h)]
    omega
  · rw [← Int.add_emod_right, Int.emod_eq_of_lt (by omega) (by omega)]
    omega

theorem sensorT_some {i : Nat} (hi : i < 80) (s : State) :
    (s.sensorT i).isSome = true ↔ s.fi Fl.THM_SSTAT_T i ≠ -32768 := by
  unfold State.sensorT noReading
  rw [if_neg (by omega)]
  dsimp only
  split
  · next h => simp [h]
  · next h => simp [h]

/-- The value that the fallback gives, as the sensor's field holds it. -/
theorem fallback_value {i : Nat} (hi : i < 80) {s : State} (hk : (s.sen i).kind = 1 ∨ (s.sen i).kind = 2) :
    (StandsIn i s → unsignedOf 16 ((faultTold i s).fallback i) =
      unsignedOf 16 (s.fi Fl.THM_SSTAT_T (s.f Fl.THM_SCFG_ALT i) + s.fi Fl.THM_SFB_OFFS i)) ∧
    (¬ StandsIn i s → unsignedOf 16 ((faultTold i s).fallback i) = s.f Fl.THM_SFB_FIXT i) := by
  have hq : ∀ (fl : Fld) k, fldsApart [Fl.THM_SSTAT_FAULT, Fl.THM_SSTAT_PERIOD] fl = true →
      (!regsIn [R.EVT_PEND, R.THM_STAT] fl.reg.addr && decide (fl.reg.count ≤ 65536)) = true →
      (!regsIn [R.EVT_PEND, R.PRT_GCAUSE] fl.reg.addr && decide (fl.reg.count ≤ 65536)) = true →
      fieldOf (faultTold i s).regs fl k = fieldOf s.regs fl k := fun fl k h1 h2 h3 =>
    (fieldOf_faultTold i k s h3).trans (fieldOf_faultShown i k s h1 h2)
  have hfault : ∀ k, k ≠ i → (faultTold i s).sensorBroken k = s.sensorBroken k := fun k h =>
    b_of_field ((fieldOf_faultTold i k s (by decide)).trans (faultShown_other h s))
  have hself : (faultTold i s).sensorBroken i = true := by
    rw [State.sensorBroken, State.b_fieldOf, fieldOf_faultTold i i s (by decide),
      (faultShown_shows hi (by omega)).1]
    rcases hk with hk | hk <;> rw [hk] <;> rfl
  have halt := f_of_field (hq Fl.THM_SCFG_ALT i (by decide) (by decide) (by decide))
  have hfix := b_of_field (hq Fl.THM_SCFG_FBFIX i (by decide) (by decide) (by decide))
  have hfixt := hq Fl.THM_SFB_FIXT i (by decide) (by decide) (by decide)
  have hoffs : (faultTold i s).fi Fl.THM_SFB_OFFS i = s.fi Fl.THM_SFB_OFFS i := by
    rw [State.fi_fieldOf, State.fi_fieldOf, hq _ _ (by decide) (by decide) (by decide)]
  have hT : ∀ k, (faultTold i s).fi Fl.THM_SSTAT_T k = s.fi Fl.THM_SSTAT_T k := fun k => by
    rw [State.fi_fieldOf, State.fi_fieldOf, hq _ _ (by decide) (by decide) (by decide)]
  have hb0 : s.f Fl.THM_SCFG_FBFIX i = 0 ↔ s.b Fl.THM_SCFG_FBFIX i = false := field_zero s _ _ rfl
  have hcond : (!s.b Fl.THM_SCFG_FBFIX i && decide (s.f Fl.THM_SCFG_ALT i < 80) &&
      !(faultTold i s).sensorBroken (s.f Fl.THM_SCFG_ALT i) &&
      ((faultTold i s).sensorT (s.f Fl.THM_SCFG_ALT i)).isSome) = true ↔ StandsIn i s := by
    rw [StandsIn, hb0]
    generalize s.f Fl.THM_SCFG_ALT i = a
    by_cases ha : a = i
    · rw [ha, hself]
      simp
    · rw [hfault a ha, State.sensorBroken]
      simp only [Bool.and_eq_true, Bool.not_eq_true', decide_eq_true_eq]
      constructor
      · rintro ⟨⟨⟨h1, h2⟩, h3⟩, h4⟩
        exact ⟨h1, h2, ha, by rw [State.b_fieldOf, ← State.f_fieldOf] at h3; simpa using h3,
          by rw [← hT]; exact (sensorT_some h2 _).mp h4⟩
      · rintro ⟨h1, h2, -, h3, h4⟩
        exact ⟨⟨⟨h1, h2⟩, b_false h3⟩, (sensorT_some h2 _).mpr (by rwa [hT])⟩
  have he : (faultTold i s).fallback i = if (!s.b Fl.THM_SCFG_FBFIX i && decide (s.f Fl.THM_SCFG_ALT i < 80) &&
      !(faultTold i s).sensorBroken (s.f Fl.THM_SCFG_ALT i) &&
      ((faultTold i s).sensorT (s.f Fl.THM_SCFG_ALT i)).isSome) then
        signedOf 16 (unsignedOf 16 (s.fi Fl.THM_SSTAT_T (s.f Fl.THM_SCFG_ALT i) + s.fi Fl.THM_SFB_OFFS i))
      else (faultTold i s).fi Fl.THM_SFB_FIXT i := by
    unfold State.fallback
    dsimp only
    rw [halt, hfix, hT, hoffs]
  constructor
  · intro h
    rw [he, if_pos (hcond.mpr h)]
    exact unsignedOf_signedOf (unsignedOf_lt 16 _)
  · intro h
    rw [he, if_neg fun hc => h (hcond.mp hc), State.fi_fieldOf, hfixt]
    exact unsignedOf_signedOf (fieldOf_lt _ _ _)

theorem sensor_breaks {i : Nat} {s : State} (hi : i < 80) (hf : s.f Fl.THM_SSTAT_FAULT i = 0)
    (hb : 2 ≤ (s.sen i).bad) (hk : (s.sen i).kind = 1 ∨ (s.sen i).kind = 2) :
    Answers (.sensorBroken i) s fun u => u.f Fl.THM_SSTAT_FAULT i = (s.sen i).kind ∧ u.f Fl.THM_SSTAT_PERIOD i = 2 ∧
      u.f Fl.THM_SSTAT_FB i = 1 ∧ bitOf (u.f Fl.THM_STAT_CAUSE) 0 = true ∧
      (StandsIn i s → u.f Fl.THM_SSTAT_T i =
        unsignedOf 16 (s.fi Fl.THM_SSTAT_T (s.f Fl.THM_SCFG_ALT i) + s.fi Fl.THM_SFB_OFFS i)) ∧
      (¬ StandsIn i s → u.f Fl.THM_SSTAT_T i = s.f Fl.THM_SFB_FIXT i) := by
  obtain ⟨h1, h2⟩ := faultShown_shows hi (s := s) (by omega)
  rw [← fieldOf_faultTold _ _ _ (by decide)] at h1 h2
  obtain ⟨v1, v2⟩ := fallback_value hi hk
  have hc : ThmShows 0 (faultTold i s) :=
    (thmCause_shows 0 (by decide) _).of_field (fieldOf_faultTold i 0 s (by decide))
  have hbr : (faultTold i s).sensorBroken i = true := by
    rw [State.sensorBroken, State.b_fieldOf, h1]
    rcases hk with hk | hk <;> rw [hk] <;> rfl
  refine answers_done (congrArg done (sensorBreaks_eq hi hf hb)) ?_
  generalize (faultTold i s).fallback i = t at v1 v2
  generalize faultTold i s = v at h1 h2 hc hbr
  have hu := (useAndFollow_used hi t true v).keeps (.settle i _)
  refine ⟨hu.fault.trans h1, hu.period hbr h2, hu.fallback, (hc.useAndFollow (by decide) i t true).settled,
    fun h => hu.value.trans (v1 h), fun h => hu.value.trans (v2 h)⟩

end Sys2Proof.Machine

/-! ## Flow, the coolant window, the thermal reef and the record (R304 to R316) -/

namespace Sys2Proof.Machine

set_option Elab.async false

/-! ### The window of one port -/

theorem toNogo_portStands {p j : Nat} (hj : j ≠ p) (s : State) : PortStands p s (toNogo j s) := by
  unfold toNogo
  split
  · exact .refl p s
  · exact (((setF_portStands hj Fl.THM_PSTAT_NOGO (fun _ h => h.stat) 1 s).trans
      (setF_portStands hj Fl.THM_CABLE_CABLE (fun _ h => h.cable) 0 _)).trans (prtCause_portStands ..)).trans
      (thmCause_portStands ..)

theorem windowCauses_stand (p j : Nat) (s : State) : PortStands p s (windowCauses j s) := by
  have h1 : PortStands p s (s.when ((s.tp j).inletOk && !s.inletIn j 0) (prtCause 22 j)) :=
    State.when_cases (fun _ => .refl p s) fun _ => prtCause_portStands ..
  refine h1.trans (State.when_cases (P := PortStands p _) (fun _ => .refl p _) fun _ => ?_)
  exact (prtCause_portStands ..).trans (thmCause_portStands ..)

theorem windowKept_portStands {p j : Nat} (hj : j ≠ p) (s : State) : PortStands p s (windowKept j s) :=
  (windowCauses_stand p j s).trans ⟨fun _ _ => rfl, tp_setTp_other hj _ _⟩

theorem evalWindow_portStands {p j : Nat} (hj : j ≠ p) (s : State) : PortStands p s (evalWindow j s) := by
  rcases Nat.lt_or_ge j 24 with h | h
  · rw [evalWindow_eq h]
    split
    · exact windowKept_portStands hj s
    · exact (windowKept_portStands hj s).trans (toNogo_portStands hj _)
  · unfold evalWindow
    rw [if_pos h]
    exact .refl p s

theorem fieldOf_windowKept {fl : Fld} (p i : Nat) (s : State) (h : causeQuiet fl = true) :
    fieldOf (windowKept p s).regs fl i = fieldOf s.regs fl i := by
  have hp : ∀ u, fieldOf (prtCause 22 p u).regs fl i = fieldOf u.regs fl i := fun u =>
    fieldOf_onlyRegs (l := [R.EVT_PEND, R.PRT_GCAUSE, R.THM_STAT]) (prtCause_writes (by decide) (by decide) 22 p u) i h
  change fieldOf (windowCauses p s).regs fl i = _
  unfold windowCauses
  rw [fieldOf_when (fun u => fieldOf_causes 4 21 p i u h), fieldOf_when hp]

/-- The port's record of a window: NOGO stands while the window is met, and is set with CABLE 0 otherwise (R305). -/
structure WindowShows (p : Nat) (s u : State) : Prop where
  met : s.inletIn p 0 = true → s.flowMet p = true → s.f Fl.THM_PCH_EN p = 1 →
    fieldOf u.regs Fl.THM_PSTAT_NOGO p = fieldOf s.regs Fl.THM_PSTAT_NOGO p
  failed : ¬ (s.inletIn p 0 = true ∧ s.flowMet p = true ∧ s.f Fl.THM_PCH_EN p = 1) →
    fieldOf u.regs Fl.THM_PSTAT_NOGO p = 1 ∧
      (fieldOf s.regs Fl.THM_PSTAT_NOGO p = 0 → fieldOf u.regs Fl.THM_CABLE_CABLE p = 0)

theorem toNogo_shows {p : Nat} (hp : p < 24) (s : State) : fieldOf (toNogo p s).regs Fl.THM_PSTAT_NOGO p = 1 ∧
    (fieldOf s.regs Fl.THM_PSTAT_NOGO p = 0 → fieldOf (toNogo p s).regs Fl.THM_CABLE_CABLE p = 0) := by
  unfold toNogo
  split
  · next h =>
    have h1 : fieldOf s.regs Fl.THM_PSTAT_NOGO p = 1 := by
      rw [← State.f_fieldOf]
      exact (field_one s _ _ rfl).mpr h
    exact ⟨h1, fun h0 => absurd (h0.symm.trans h1) (by decide)⟩
  · refine ⟨?_, fun _ => ?_⟩
    · rw [fieldOf_causes _ _ _ _ _ (by decide), fieldOf_setF_apart _ _ _ _ _ _ (by decide)]
      exact fieldOf_setB_same _ _ _ _ (lt_of_lt_of_le hp (by decide)) (by decide) (by decide)
    · rw [fieldOf_causes _ _ _ _ _ (by decide)]
      exact fieldOf_setF_fits _ _ _ _ (lt_of_lt_of_le hp (by decide)) (by decide) (by decide)

theorem evalWindow_shows {p : Nat} (hp : p < 24) (s : State) : WindowShows p s (evalWindow p s) := by
  have hen : (windowKept p s).b Fl.THM_PCH_EN p = s.b Fl.THM_PCH_EN p := b_of_field (fieldOf_windowKept p p s (by
    decide))
  have hno := fieldOf_windowKept (fl := Fl.THM_PSTAT_NOGO) p p s (by decide)
  have hone := field_one s Fl.THM_PCH_EN p rfl
  rw [evalWindow_eq hp, hen]
  refine ⟨fun h1 h2 h3 => ?_, fun h => ?_⟩
  · rw [if_pos (by rw [h1, h2, hone.mp h3]; rfl), hno]
  · rw [if_neg fun hc => h ?_]
    · obtain ⟨t1, t2⟩ := toNogo_shows hp (windowKept p s)
      exact ⟨t1, fun h0 => t2 (hno.trans h0)⟩
    · simp only [Bool.and_eq_true] at hc
      exact ⟨hc.1.1, hc.1.2, hone.mpr hc.2⟩

/-! ### The flow of every port (R304) -/

/-- One port of the computation. -/
def flowPort (p : Nat) (s : State) : State := evalWindow p ((flowOf p s).2.setF Fl.THM_FLOW_FLOW p (flowOf p s).1)

theorem flowOf_state (p : Nat) (s : State) : (flowOf p s).2.regs = s.regs ∧ (flowOf p s).2.thm = s.thm ∧
    (flowOf p s).2.time = s.time := by
  unfold flowOf
  dsimp only
  split
  · split
    · exact ⟨rfl, rfl, rfl⟩
    · generalize (if max _ _ = 0 then _ else _ : Nat) = v
      by_cases hv : v < 2 ^ 16
      · rw [if_pos hv]; exact ⟨rfl, rfl, rfl⟩
      · rw [if_neg hv]; exact ⟨rfl, rfl, rfl⟩
  · exact ⟨rfl, rfl, rfl⟩

/-- The state with the flow shown. -/
def flowShown (p : Nat) (s : State) : State := (flowOf p s).2.setF Fl.THM_FLOW_FLOW p (flowOf p s).1

theorem flowPort_eq (p : Nat) (s : State) : flowPort p s = evalWindow p (flowShown p s) := rfl

theorem fieldOf_flowShown {fl : Fld} (p i : Nat) (s : State) (h : Fl.THM_FLOW_FLOW.apart fl = true) :
    fieldOf (flowShown p s).regs fl i = fieldOf s.regs fl i := by
  rw [flowShown, fieldOf_setF_apart _ _ _ _ _ _ h, (flowOf_state p s).1]

theorem flowShown_thm (p : Nat) (s : State) : (flowShown p s).thm = s.thm :=
  (State.setF_thm ..).trans (flowOf_state p s).2.1

/-- The registers that the computation writes. -/
def flowRegs : List Rg := [R.EVT_PEND, R.PRT_GCAUSE, R.THM_CABLE, R.THM_FLOW, R.THM_PSTAT, R.THM_STAT]

/-- What the computation reads for port `p` is as it was. -/
structure FlowStands (p : Nat) (s u : State) : Prop extends PortStands p s u where
  flow : fieldOf u.regs Fl.THM_FLOW_FLOW p = fieldOf s.regs Fl.THM_FLOW_FLOW p
  quiet : ∀ fl i, (!regsIn flowRegs fl.reg.addr && decide (fl.reg.count ≤ 65536)) = true →
    fieldOf u.regs fl i = fieldOf s.regs fl i
  time : u.time = s.time

theorem FlowStands.refl (p : Nat) (s : State) : FlowStands p s s := ⟨.refl p s, rfl, fun _ _ _ => rfl, rfl⟩

theorem FlowStands.trans {p : Nat} {s t u : State} (h : FlowStands p s t) (h' : FlowStands p t u) : FlowStands p s u :=
  ⟨h.toPortStands.trans h'.toPortStands, h'.flow.trans h.flow,
    fun fl i hf => (h'.quiet fl i hf).trans (h.quiet fl i hf), h'.time.trans h.time⟩

/-- Everything but device time. -/
def butTime : Part := { besideMemory with time := false, mem := true, pending := true }

theorem evalWindow_time (p : Nat) (s : State) : (evalWindow p s).time = s.time :=
  State.time_of_without (A := butTime) (evalWindow_writes rfl rfl rfl rfl rfl rfl p s) rfl

theorem evalWindow_flow {fl : Fld} (p i : Nat) (s : State)
    (h : (!regsIn [R.EVT_PEND, R.PRT_GCAUSE, R.THM_CABLE, R.THM_PSTAT, R.THM_STAT] fl.reg.addr &&
      decide (fl.reg.count ≤ 65536)) = true) : fieldOf (evalWindow p s).regs fl i = fieldOf s.regs fl i :=
  fieldOf_onlyRegs (evalWindow_writes (by decide) (by decide) (by decide) (by decide) (by decide) rfl p s) i h

theorem flowPort_stands {p j : Nat} (hj : j ≠ p) (s : State) : FlowStands p s (flowPort j s) := by
  rw [flowPort_eq]
  refine ⟨?_, ?_, fun fl i h => ?_, ?_⟩
  · refine PortStands.trans ⟨fun fl ho => fieldOf_flowShown j p s ?_, tp_of_thm (flowShown_thm j s) p⟩
      (evalWindow_portStands hj _)
    rw [Fld.apart, Bool.or_eq_true]
    rcases ho with ho | ho <;> rw [ho] <;> exact .inl (by decide)
  · rw [evalWindow_flow _ _ _ (by decide), flowShown, fieldOf_setF_index _ _ _ _ hj rfl, (flowOf_state j s).1]
  · refine (fieldOf_onlyRegs (l := flowRegs) (evalWindow_writes (by decide) (by decide) (by decide) (by decide)
      (by decide) rfl j _) i h).trans ?_
    have hw : (flowShown j s).without (onlyRegs flowRegs) = (flowOf j s).2.without (onlyRegs flowRegs) :=
      State.w_setF (by decide) (by decide) _ _ _
    exact (fieldOf_onlyRegs hw i h).trans (by rw [(flowOf_state j s).1])
  · rw [evalWindow_time]
    exact (State.setF_time ..).trans (flowOf_state j s).2.2

section
variable {p : Nat} {s u : State} (h : FlowStands p s u)
include h

theorem FlowStands.f (fl : Fld) (i : Nat)
    (hf : (!regsIn flowRegs fl.reg.addr && decide (fl.reg.count ≤ 65536)) = true) : u.f fl i = s.f fl i :=
  f_of_field (h.quiet fl i hf)

theorem FlowStands.fi (fl : Fld) (i : Nat)
    (hf : (!regsIn flowRegs fl.reg.addr && decide (fl.reg.count ≤ 65536)) = true) : u.fi fl i = s.fi fl i := by
  rw [State.fi_fieldOf, State.fi_fieldOf, h.quiet fl i hf]

theorem inletIn_congr (m : Int) : u.inletIn p m = s.inletIn p m := by
  unfold State.inletIn State.inlet State.sensorT
  rw [h.f _ _ (by decide), h.fi Fl.THM_WIN_TCMIN _ (by decide), h.fi Fl.THM_WIN_TCMAX _ (by decide),
    h.fi Fl.THM_SSTAT_T _ (by decide)]

end

/-- The flow that two edges give (R304). -/
def FlowGiven (p : Nat) (s : State) (v : Nat) : Prop :=
  ∀ e b, (s.tp p).edge = some e → (s.tp p).edgeBefore = some b →
    (60000000 ≤ s.now / 1000 - e → v = 0) ∧
    (s.now / 1000 - e < 60000000 → 0 < max (e - b) (s.now / 1000 - e) → 0 < s.f Fl.THM_FLOWCFG_KF p →
      60000000000 / (s.f Fl.THM_FLOWCFG_KF p * max (e - b) (s.now / 1000 - e)) < 2 ^ 16 →
      v = 60000000000 / (s.f Fl.THM_FLOWCFG_KF p * max (e - b) (s.now / 1000 - e)))

theorem flowOf_given (p : Nat) (s : State) : FlowGiven p s ((flowOf p s).1 % 2 ^ 16) := by
  intro e b he hb
  have hunf : flowOf p s = if 60000000 ≤ s.now / 1000 - e then (0, s) else
      if (if max (e - b) (s.now / 1000 - e) = 0 then 2 ^ 16 else
        60000000000 / (max 1 (s.f Fl.THM_FLOWCFG_KF p) * max (e - b) (s.now / 1000 - e))) < 2 ^ 16 then
        ((if max (e - b) (s.now / 1000 - e) = 0 then 2 ^ 16 else
        60000000000 / (max 1 (s.f Fl.THM_FLOWCFG_KF p) * max (e - b) (s.now / 1000 - e))), s)
      else (s.draw.1 % 2 ^ 16, s.draw.2) := by
    unfold flowOf
    dsimp only
    rw [he, hb]
  rw [hunf]
  refine ⟨fun h => by rw [if_pos h]; rfl, fun h hd hk hq => ?_⟩
  have hd0 : ¬ max (e - b) (s.now / 1000 - e) = 0 := by omega
  rw [if_neg (by omega), if_neg hd0, show max 1 (s.f Fl.THM_FLOWCFG_KF p) = s.f Fl.THM_FLOWCFG_KF p by omega,
    if_pos hq]
  exact Nat.mod_eq_of_lt hq

/-- What one port shows of the computation, by what the old state reads. -/
structure FlowShows (p : Nat) (s u : State) : Prop where
  given : FlowGiven p s (fieldOf u.regs Fl.THM_FLOW_FLOW p)
  met : s.inletIn p 0 = true → s.f Fl.THM_FLOWCFG_FLOWMIN p ≤ fieldOf u.regs Fl.THM_FLOW_FLOW p →
    s.f Fl.THM_PCH_EN p = 1 → fieldOf u.regs Fl.THM_PSTAT_NOGO p = fieldOf s.regs Fl.THM_PSTAT_NOGO p
  failed : ¬ (s.inletIn p 0 = true ∧ s.f Fl.THM_FLOWCFG_FLOWMIN p ≤ fieldOf u.regs Fl.THM_FLOW_FLOW p ∧
      s.f Fl.THM_PCH_EN p = 1) → fieldOf u.regs Fl.THM_PSTAT_NOGO p = 1 ∧
    (fieldOf s.regs Fl.THM_PSTAT_NOGO p = 0 → fieldOf u.regs Fl.THM_CABLE_CABLE p = 0)

theorem flowPort_shows {p : Nat} (hp : p < 24) (s : State) : FlowShows p s (flowPort p s) := by
  have hw := evalWindow_shows hp (flowShown p s)
  have hin : (flowShown p s).inletIn p 0 = s.inletIn p 0 := by
    have hf : ∀ (fl : Fld) i, Fl.THM_FLOW_FLOW.apart fl = true → (flowShown p s).fi fl i = s.fi fl i := fun fl i h => by
      rw [State.fi_fieldOf, State.fi_fieldOf, fieldOf_flowShown p i s h]
    unfold State.inletIn State.inlet State.sensorT
    rw [f_of_field (fieldOf_flowShown p p s (by decide)), hf Fl.THM_WIN_TCMIN p (by decide),
      hf Fl.THM_WIN_TCMAX p (by decide), hf Fl.THM_SSTAT_T _ (by decide)]
  have hflow : fieldOf (flowShown p s).regs Fl.THM_FLOW_FLOW p = (flowOf p s).1 % 2 ^ 16 :=
    fieldOf_setF_same _ _ _ _ (lt_of_lt_of_le hp (by decide)) (by decide)
  have hmin : (flowShown p s).f Fl.THM_FLOWCFG_FLOWMIN p = s.f Fl.THM_FLOWCFG_FLOWMIN p :=
    f_of_field (fieldOf_flowShown p p s (by decide))
  have hen : (flowShown p s).f Fl.THM_PCH_EN p = s.f Fl.THM_PCH_EN p := f_of_field (fieldOf_flowShown p p s (by decide))
  have hno := fieldOf_flowShown (fl := Fl.THM_PSTAT_NOGO) p p s (by decide)
  have hkeep : fieldOf (flowPort p s).regs Fl.THM_FLOW_FLOW p = (flowOf p s).1 % 2 ^ 16 :=
    (evalWindow_flow _ _ _ (by decide)).trans hflow
  have hmet : (flowShown p s).flowMet p = true ↔ s.f Fl.THM_FLOWCFG_FLOWMIN p ≤ (flowOf p s).1 % 2 ^ 16 := by
    rw [State.flowMet, hmin, State.f_fieldOf _ Fl.THM_FLOW_FLOW, hflow, decide_eq_true_eq]
  obtain ⟨h1, h2⟩ := hw
  rw [hin, hmet, hen, hno] at h1
  rw [hin, hmet, hen, hno] at h2
  refine ⟨?_, ?_, ?_⟩
  · rw [hkeep]
    exact flowOf_given p s
  · rw [hkeep]
    exact h1
  · rw [hkeep]
    exact h2

theorem FlowShows.congr {p : Nat} {s u w : State} (h : FlowStands p s u) (hw : FlowShows p u w) : FlowShows p s w := by
  have hnow : u.now = s.now := by rw [State.now, State.now, h.time]
  obtain ⟨h1, h2, h3⟩ := hw
  rw [inletIn_congr h, h.f _ _ (by decide), h.f Fl.THM_PCH_EN _ (by decide), h.own _ (.inl rfl)] at h2 h3
  refine ⟨?_, h2, h3⟩
  unfold FlowGiven at h1 ⊢
  rwa [h.tp, hnow, h.f Fl.THM_FLOWCFG_KF _ (by decide)] at h1

theorem FlowShows.keeps {p : Nat} {s u w : State} (h : FlowShows p s u) (hw : PortStands p u w)
    (hf : fieldOf w.regs Fl.THM_FLOW_FLOW p = fieldOf u.regs Fl.THM_FLOW_FLOW p) : FlowShows p s w := by
  obtain ⟨h1, h2, h3⟩ := h
  refine ⟨?_, ?_, ?_⟩
  · rwa [hf]
  · rwa [hf, hw.own _ (.inl rfl)]
  · rwa [hf, hw.own _ (.inl rfl), hw.own _ (.inr rfl)]

theorem flowCompute_shows {p : Nat} (hp : p < 24) (s : State) : FlowShows p s (flowCompute s) :=
  State.each_once (f := flowPort) (R := FlowStands p s) (Q := FlowShows p s) hp
    (fun _ u hj hu => hu.trans (flowPort_stands hj u))
    (fun j u hj hu => hu.keeps (flowPort_stands hj u).toPortStands (flowPort_stands hj u).flow)
    (fun u hu => .congr hu (flowPort_shows hp u)) (.refl p s)

theorem flowCompute_answers {p : Nat} (hp : p < 24) (s : State) : Answers .flowCompute s fun u =>
    FlowGiven p s (u.f Fl.THM_FLOW_FLOW p) ∧
    (if s.inletIn p 0 = true ∧ s.f Fl.THM_FLOWCFG_FLOWMIN p ≤ u.f Fl.THM_FLOW_FLOW p ∧ s.f Fl.THM_PCH_EN p = 1
      then u.f Fl.THM_PSTAT_NOGO p = s.f Fl.THM_PSTAT_NOGO p
      else u.f Fl.THM_PSTAT_NOGO p = 1 ∧ (s.f Fl.THM_PSTAT_NOGO p = 0 → u.f Fl.THM_CABLE_CABLE p = 0)) := by
  have h := (flowCompute_shows hp s).keeps (PortStands.settle p _) (fieldOf_settle _ _ _ (by decide))
  refine answers_done rfl ?_
  generalize (flowCompute s).settle = u at h
  refine ⟨h.given, ?_⟩
  split
  · next hc => exact h.met hc.1 hc.2.1 hc.2.2
  · next hc => exact h.failed hc

/-! ### Leaving NOGO, the reef and the record -/

theorem nogo_clears {p : Nat} (hp : p < 24) (s : State) : Answers (.nogoClear p) s fun u =>
    u.f Fl.THM_PSTAT_NOGO p = if s.f Fl.THM_PCH_EN p = 1 ∧ s.inletIn p 100 = true ∧
      s.f Fl.THM_FLOWCFG_FLOWMIN p ≤ s.f Fl.THM_FLOW_FLOW p then 0 else s.f Fl.THM_PSTAT_NOGO p := by
  have hcond : (decide (p < 24) && s.b Fl.THM_PCH_EN p && s.inletIn p 100 && s.flowMet p) = true ↔
      s.f Fl.THM_PCH_EN p = 1 ∧ s.inletIn p 100 = true ∧ s.f Fl.THM_FLOWCFG_FLOWMIN p ≤ s.f Fl.THM_FLOW_FLOW p := by
    rw [field_one s _ _ rfl, State.flowMet]
    simp [hp, and_assoc]
  refine answers_done rfl ?_
  rw [State.f_fieldOf, fieldOf_settle _ _ _ (by decide)]
  unfold nogoClear
  split
  · next hc =>
    rw [if_pos (hcond.mp hc)]
    exact fieldOf_setB_same _ _ _ _ (lt_of_lt_of_le hp (by decide)) (by decide) (by decide)
  · next hc =>
    rw [if_neg fun h => hc (hcond.mpr h)]
    rfl

theorem reef_falls {p : Nat} (hp : p < 48) {s : State} (h : s.reefMayFall p = true) :
    Answers (.thermalReefFall p) s fun u => u.f Fl.THM_PSTAT_TREEF p = s.f Fl.THM_PSTAT_TREEF p - 1 ∧
      bitOf (u.f Fl.THM_STAT_CAUSE) 2 = true := by
  have hpos : 0 < s.f Fl.THM_PSTAT_TREEF p := by
    unfold State.reefMayFall at h
    simp only [Bool.and_eq_true, decide_eq_true_eq] at h
    exact h.1.1.1
  have hlt : s.f Fl.THM_PSTAT_TREEF p - 1 < 2 ^ Fl.THM_PSTAT_TREEF.width :=
    lt_of_le_of_lt (Nat.sub_le _ _) (State.f_lt s _ _)
  have he : (if (decide (p < 48) && s.reefMayFall p) = true then setReef p (s.f Fl.THM_PSTAT_TREEF p - 1) s else s) =
      thmCause 2 (prtCause 19 (portGroup p) (s.setF Fl.THM_PSTAT_TREEF p (s.f Fl.THM_PSTAT_TREEF p - 1))) := by
    rw [if_pos (by simp [hp, h]), setReef, if_neg (by omega)]
  refine answers_done (congrArg done he) ⟨?_, (thmCause_shows 2 (by decide) _).settled⟩
  rw [State.f_fieldOf, fieldOf_settle _ _ _ (by decide), fieldOf_causes _ _ _ _ _ (by decide)]
  exact fieldOf_setF_fits s _ _ _ (lt_of_lt_of_le hp (by decide)) (by decide) hlt

theorem reef_stays {p : Nat} {s : State} (h : s.reefMayFall p = false) :
    Answers (.thermalReefFall p) s fun u => u.f Fl.THM_PSTAT_TREEF p = s.f Fl.THM_PSTAT_TREEF p := by
  refine answers_done (congrArg done (if_neg (by rw [h]; simp))) ?_
  rw [State.f_fieldOf, fieldOf_settle _ _ _ (by decide), State.f_fieldOf]

theorem record_writes {s : State} (h : s.nvOk = true) : Answers .thermalRecordWrite s fun u => u.thm.saved =
    some ((List.range 48).filterMap (fun p => (s.tp p).obs.map fun o => (p, o)),
      ((List.range 80).filter fun i => decide (s.f Fl.THM_SSTAT_FAULT i ≠ 0)).map fun i =>
        (i, s.f Fl.THM_SSTAT_FAULT i)) := by
  refine answers_done (congrArg done (if_pos h)) ?_
  have hb : s.sensorBroken = fun i => decide (s.f Fl.THM_SSTAT_FAULT i ≠ 0) := by
    funext i
    rw [State.sensorBroken, State.b_fieldOf, ← State.f_fieldOf]
    by_cases h0 : s.f Fl.THM_SSTAT_FAULT i = 0 <;> simp [h0]
  rw [State.thm_of_without (State.settle_settled _) rfl, ← hb]
  rfl

theorem record_waits {s : State} (h : s.nvOk = false) :
    Answers .thermalRecordWrite s fun u => u.thm.saved = s.thm.saved :=
  answers_done (congrArg done (if_neg (by rw [h]; decide)))
    (congrArg ThmState.saved (State.thm_of_without (State.settle_settled _) rfl))

theorem edge_timed {p : Nat} (hp : p < 24) (s : State) : Answers (.flowEdge p) s fun u =>
    (u.tp p).edge = some (s.now / 1000) ∧ (u.tp p).edgeBefore = (s.tp p).edge := by
  refine answers_done (congrArg done (if_pos hp)) ?_
  rw [tp_of_thm (State.thm_of_without (State.settle_settled _) rfl), flowEdge, tp_setTp (by omega)]
  exact ⟨rfl, rfl⟩

/-! ### The kind of a conversion -/

theorem conversionKind_eq {i : Nat} (ohms : Nat) {s : State} (h : (i < 64 ∧ s.f Fl.THM_SCFG_TYPE i = 1) ∨
    (i < 64 ∧ s.f Fl.THM_SCFG_TYPE i = 2) ∨ 64 ≤ i) : conversionKind i ohms s =
      if (i < 64 ∧ s.f Fl.THM_SCFG_TYPE i = 1) ∧ 4000 < ohms ∨ (i < 64 ∧ s.f Fl.THM_SCFG_TYPE i = 2) ∧ 2000000 < ohms
        then 1
      else if (i < 64 ∧ s.f Fl.THM_SCFG_TYPE i = 1) ∧ ohms < 500 ∨ (i < 64 ∧ s.f Fl.THM_SCFG_TYPE i = 2) ∧ ohms < 20
        then 2
      else 0 := by
  unfold conversionKind brokenKind
  rcases h with ⟨h1, h2⟩ | ⟨h1, h2⟩ | h
  · simp [h1, h2]
  · simp [h1, h2]
  · rw [if_neg (by omega), if_neg (by omega), if_neg (by omega)]

/-- Settles O32: sensors by the rules of one sensor, flow and window by the rule of one port. -/
theorem cableCooling : Obligations.CableCooling := by
  intro s
  refine ⟨fun i ohms t hi h1 h2 => ?_, fun i hi hf hb hk => sensor_breaks hi hf hb hk,
    fun p hp => ⟨edge_timed hp s, flowCompute_answers hp s, nogo_clears hp s⟩,
    fun p hp => ⟨reef_falls hp, reef_stays⟩, record_writes, record_waits⟩
  intro pt ntc opened short
  refine ⟨fun hty => ⟨fun ho hs => ?_, fun hb => ?_⟩, fun hc hf hg => sensor_returns hi h1 h2 hc hf hg⟩
  · have hk := conversionKind_eq ohms hty
    rw [if_neg ho, if_neg hs] at hk
    exact conversion_good hi (sensorOn_of hi hty) h1 h2 hk
  · have hk := conversionKind_eq ohms hty
    by_cases ho : opened
    · rw [if_pos ho] at hk
      obtain ⟨u, hu, g, b, k, r⟩ := conversion_bad (t := t) hi (sensorOn_of hi hty) hk (by decide)
      refine ⟨u, hu, g, b, fun _ => k, fun hs => absurd hs ?_, r⟩
      dsimp only [opened, short, pt, ntc] at ho ⊢
      omega
    · have hs := hb.resolve_left ho
      rw [if_neg ho, if_pos hs] at hk
      obtain ⟨u, hu, g, b, k, r⟩ := conversion_bad (t := t) hi (sensorOn_of hi hty) hk (by decide)
      exact ⟨u, hu, g, b, fun h => absurd h ho, fun _ => k, r⟩

end Sys2Proof.Machine

/-! ## Meters (R326 to R349) -/

namespace Sys2Proof.Machine

set_option Elab.async false

/-! ### Causes, tamper records and flags -/

/-- Cause `k` of metering is shown. -/
def MtrShows (k : Nat) (s : State) : Prop := bitOf (fieldOf s.regs Fl.MTR_STAT_CAUSE 0) k = true

theorem mtrCause_shows (j : Nat) (hj : j < 8) (s : State) : MtrShows j (mtrCause j s) :=
  bitOf_causeOn _ _ _ _ _ _ (by decide) (by decide) hj (by decide)

theorem MtrShows.of_field {k : Nat} {s u : State} (h : MtrShows k s)
    (hu : fieldOf u.regs Fl.MTR_STAT_CAUSE 0 = fieldOf s.regs Fl.MTR_STAT_CAUSE 0) : MtrShows k u := by
  rwa [MtrShows, hu]

theorem MtrShows.mtrCause {k : Nat} (hk : k < 8) {s : State} (h : MtrShows k s) (j : Nat) : MtrShows k (mtrCause j s) :=
  bitOf_causeOn_keeps (by decide) (by decide) (by decide) hk (by decide) h

theorem MtrShows.settled {k : Nat} {s : State} (h : MtrShows k s) : bitOf (s.settle.f Fl.MTR_STAT_CAUSE) k = true := by
  rw [State.f_fieldOf, fieldOf_settle _ _ _ (by decide)]
  exact h

/-- The registers that a tamper record writes. -/
def tamperRegs : List Rg := [R.BIL_STAT, R.BIL_TCOUNT, R.BIL_TFIRSTH, R.BIL_TFIRSTL, R.BIL_TLASTH, R.BIL_TLASTL,
  R.EVT_PEND]

/-- The registers that a tamper record and a cause of metering write. -/
def alertRegs : List Rg := R.MTR_STAT :: tamperRegs

theorem tamper_stands (cls : Nat) (s : State) : (tamper cls s).without (onlyRegs tamperRegs) = s.without (onlyRegs
  tamperRegs) :=
  tamper_writes (by decide) (by decide) (by decide) (by decide) (by decide) (by decide) (by decide) cls s

theorem fieldOf_tamper {fl : Fld} (cls i : Nat) (s : State)
    (h : (!regsIn tamperRegs fl.reg.addr && decide (fl.reg.count ≤ 65536)) = true) :
    fieldOf (tamper cls s).regs fl i = fieldOf s.regs fl i := fieldOf_onlyRegs (tamper_stands cls s) i h

theorem regOf_tamper {r : Rg} (cls i : Nat) (s : State)
    (h : (!regsIn tamperRegs r.addr && decide (r.count ≤ 65536)) = true) :
    regOf (tamper cls s).regs r i = regOf s.regs r i := regOf_onlyRegs (tamper_stands cls s) i h

theorem MtrShows.tamper {k : Nat} {s : State} (h : MtrShows k s) (cls : Nat) : MtrShows k (tamper cls s) :=
  h.of_field (fieldOf_tamper cls 0 s (by decide))

theorem fieldOf_mtrCause {fl : Fld} (j i : Nat) (s : State) (h : Fl.MTR_STAT_CAUSE.apart fl = true)
    (hp : Fl.EVT_PEND_PEND.apart fl = true) : fieldOf (mtrCause j s).regs fl i = fieldOf s.regs fl i :=
  fieldOf_causeOn _ _ _ _ _ _ _ _ h hp

theorem regOf_mtrCause {r : Rg} (j i : Nat) (s : State) (h : R.MTR_STAT.apart r = true) (hp : R.EVT_PEND.apart r =
  true) :
    regOf (mtrCause j s).regs r i = regOf s.regs r i := regOf_causeOn _ _ _ _ _ _ _ _ h hp

/-- Everything but the state of the meters and device time. -/
def butMeters : Part := { besideMemory with mtr := false, time := false, mem := true, pending := true }

/-- The meters and device time are as they were. -/
structure MetersStand (s u : State) : Prop where
  mtr : u.mtr = s.mtr
  time : u.time = s.time

theorem MetersStand.of_without {s u : State} (h : u.without butMeters = s.without butMeters) : MetersStand s u :=
  ⟨State.mtr_of_without h rfl, State.time_of_without h rfl⟩

theorem MetersStand.trans {s t u : State} (h : MetersStand s t) (h' : MetersStand t u) : MetersStand s u :=
  ⟨h'.mtr.trans h.mtr, h'.time.trans h.time⟩

theorem tamper_meters (cls : Nat) (s : State) : MetersStand s (tamper cls s) :=
  .of_without (tamper_writes rfl rfl rfl rfl rfl rfl rfl cls s)

theorem mtrCause_meters (j : Nat) (s : State) : MetersStand s (mtrCause j s) := .of_without (mtrCause_writes rfl rfl j
  s)

theorem setF_meters (s : State) (fl : Fld) (i v : Nat) : MetersStand s (s.setF fl i v) :=
  ⟨State.setF_mtr .., State.setF_time ..⟩

theorem mt_of_mtr {s u : State} (h : u.mtr = s.mtr) (m : Nat) : u.mt m = s.mt m := by rw [State.mt, State.mt, h]

theorem mt_setMt {m : Nat} (hm : m < 24) (s : State) (f : Meter → Meter) : (s.setMt m f).mt m = f (s.mt m) :=
  memberOf_set_same s.mtr.meter _ {} hm

theorem settle_mtr (s : State) : s.settle.mtr = s.mtr := State.mtr_of_without (State.settle_settled s) rfl

/-! ### A sample (R326 to R328) -/

/-- What a meter keeps of a sample of power `p` between the instants `t0` and `e`, with the remainders of `y`. -/
def sampledMeter (l : List Nat) (p : Int) (t0 e : Nat) (amps : Int) (y x : Meter) : Meter :=
  let del := decide (0 < p)
  let e0 := p.natAbs * (e - t0) + (if del then y.carryDel else y.carryRec)
  let units := if p == 0 then 0 else e0 / energyUnit
  let carry := e0 % energyUnit
  latchPassed l { x with
    rawDel := if del then (x.rawDel + units) % 2 ^ 48 else x.rawDel
    rawRec := if del || p == 0 then x.rawRec else (x.rawRec + units) % 2 ^ 48
    carryDel := if del then carry else x.carryDel
    carryRec := if del || p == 0 then x.carryRec else carry
    lastEnd := some e
    last := some { s := t0, e := e, del := del, units := units }
    amps := amps
    sumP := x.sumP + p * (e - t0 : Nat)
    sumT := x.sumT + (e - t0) }

/-- The latches passed change nothing else of a meter. -/
theorem latchPassed_eq (l : List Nat) (x : Meter) : ∃ y, latchPassed l x = { x with latched := y } := by
  unfold latchPassed
  split
  · exact ⟨x.latched, rfl⟩
  · dsimp only
    split
    · exact ⟨x.latched, rfl⟩
    · exact ⟨_, rfl⟩

/-- The power of a sample, 0 in creep and with FAULT. -/
def samplePower (m : Nat) (ci cv : Int) (s : State) : Int :=
  if decide (ci.natAbs < 1000 * 2 ^ 30) || s.b Fl.MTR_MSTAT_FAULT m then 0
  else legalPower ci cv (s.f Fl.MTR_RCOMP_RCOMP m)

/-- The state with a full-scale overflow recorded. -/
def overSeen (m : Nat) (i v : Int) (s : State) : State :=
  s.when (decide (fullI < i.natAbs) || decide (fullV < v.natAbs)) (meterOver m)

/-- The calibrated readings of a sample. -/
def sampleI (m : Nat) (i : Int) (s : State) : Int := s.calI m (clampInt (-fullI) fullI i)
def sampleV (m : Nat) (v : Int) (s : State) : Int := s.calV m (clampInt (-fullV) fullV v)

/-- A sample taken by meter `m` of a state that has seen an overflow. -/
def sampleTaken (m : Nat) (ci cv : Int) (s : State) : State :=
  let s' := s.setB Fl.MTR_MSTAT_CREEP m (decide (ci.natAbs < 1000 * 2 ^ 30))
  s'.setMt m fun x => sampledMeter s'.mtr.latchList (samplePower m ci cv s') ((s.mt m).lastEnd.getD s.now) s.now
    (truncDiv ci (2 ^ 30)) (s.mt m) x

theorem meterSample_eq (m : Nat) (i v : Int) (s : State) : meterSample m i v s =
    sampleTaken m (sampleI m i (overSeen m i v s)) (sampleV m v (overSeen m i v s)) (overSeen m i v s) := rfl

/-- The energy of a sample and the remainder before it (R327). -/
def sampleEnergy (p : Int) (t0 e carry : Nat) : Nat := p.natAbs * (e - t0) + carry

theorem sampledMeter_lastEnd (l : List Nat) (p : Int) (t0 e : Nat) (amps : Int) (y x : Meter) :
    (sampledMeter l p t0 e amps y x).lastEnd = some e := by
  obtain ⟨z, hz⟩ := latchPassed_eq l _
  unfold sampledMeter
  rw [hz]

theorem sampledMeter_delivered {p : Int} (hp : 0 < p) (l : List Nat) (t0 e : Nat) (amps : Int) (x : Meter) :
    let z := sampledMeter l p t0 e amps x x
    z.rawRec = x.rawRec ∧ z.carryDel = sampleEnergy p t0 e x.carryDel % energyUnit ∧
      z.rawDel = (x.rawDel + sampleEnergy p t0 e x.carryDel / energyUnit) % 2 ^ 48 := by
  have h0 : (p == 0) = false := by simp; omega
  obtain ⟨z, hz⟩ := latchPassed_eq l _
  unfold sampledMeter sampleEnergy
  dsimp only
  rw [hz, decide_eq_true hp, h0]
  exact ⟨rfl, rfl, rfl⟩

theorem sampledMeter_received {p : Int} (hp : p < 0) (l : List Nat) (t0 e : Nat) (amps : Int) (x : Meter) :
    let z := sampledMeter l p t0 e amps x x
    z.rawDel = x.rawDel ∧ z.carryRec = sampleEnergy p t0 e x.carryRec % energyUnit ∧
      z.rawRec = (x.rawRec + sampleEnergy p t0 e x.carryRec / energyUnit) % 2 ^ 48 := by
  have h0 : (p == 0) = false := by simp; omega
  obtain ⟨z, hz⟩ := latchPassed_eq l _
  unfold sampledMeter sampleEnergy
  dsimp only
  rw [hz, decide_eq_false (by omega : ¬ 0 < p), h0]
  exact ⟨rfl, rfl, rfl⟩

theorem sampledMeter_none (l : List Nat) (t0 e : Nat) (amps : Int) (x : Meter) :
    let z := sampledMeter l 0 t0 e amps x x
    z.rawDel = x.rawDel ∧ z.rawRec = x.rawRec := by
  obtain ⟨z, hz⟩ := latchPassed_eq l _
  unfold sampledMeter
  dsimp only
  rw [hz]
  exact ⟨rfl, rfl⟩

/-- What a sample leaves of the meter's registers: only MSTAT and the causes are written. -/
structure OverStands (m : Nat) (s u : State) : Prop where
  meters : MetersStand s u
  quiet : ∀ fl k, (!regsIn (R.MTR_MSTAT :: alertRegs) fl.reg.addr && decide (fl.reg.count ≤ 65536)) = true →
    fieldOf u.regs fl k = fieldOf s.regs fl k
  fault : fieldOf u.regs Fl.MTR_MSTAT_FAULT m = fieldOf s.regs Fl.MTR_MSTAT_FAULT m

theorem overSeen_stands (m : Nat) (i v : Int) (s : State) : OverStands m s (overSeen m i v s) := by
  unfold overSeen
  refine State.when_cases (P := OverStands m s) (fun _ => ⟨⟨rfl, rfl⟩, fun _ _ _ => rfl, rfl⟩) fun _ => ⟨?_,
    fun fl k h => ?_, ?_⟩
  · exact .of_without (meterOver_writes rfl rfl rfl rfl rfl rfl rfl rfl rfl rfl m s)
  · exact fieldOf_onlyRegs (meterOver_writes (by decide) (by decide) (by decide) (by decide) (by decide) (by decide)
      (by decide) (by decide) (by decide) rfl m s) k h
  · unfold meterOver
    rw [fieldOf_mtrCause _ _ _ (by decide) (by decide)]
    refine (fieldOf_setB_apart _ _ _ _ _ _ (by decide)).trans ?_
    exact fieldOf_when (fun u => fieldOf_tamper 5 m u (by decide)) s _

theorem overSeen_shows {m : Nat} (hm : m < 24) {i v : Int} (h : 3600000 < i.natAbs ∨ 1500000 < v.natAbs) (s : State) :
    fieldOf (overSeen m i v s).regs Fl.MTR_MSTAT_OVR m = 1 ∧ MtrShows 0 (overSeen m i v s) := by
  have he : overSeen m i v s = meterOver m s := by
    have hc : (decide (fullI < i.natAbs) || decide (fullV < v.natAbs)) = true := by
      rw [Bool.or_eq_true, decide_eq_true_eq, decide_eq_true_eq]
      unfold fullI fullV
      omega
    rw [overSeen, hc, State.when_true]
  rw [he]
  refine ⟨?_, mtrCause_shows 0 (by decide) _⟩
  unfold meterOver
  rw [fieldOf_mtrCause _ _ _ (by decide) (by decide)]
  exact fieldOf_setB_same _ _ _ _ (lt_of_lt_of_le hm (by decide)) (by decide) (by decide)

/-- A sample, in the words of the statement. -/
structure Sampled (m : Nat) (i v : Int) (t0 : Nat) (s u : State) : Prop where
  lastEnd : (u.mt m).lastEnd = some s.now
  scale : 3600000 < i.natAbs ∨ 1500000 < v.natAbs → fieldOf u.regs Fl.MTR_MSTAT_OVR m = 1 ∧ MtrShows 0 u
  energy : u.mt m = sampledMeter s.mtr.latchList (samplePower m (sampleI m i s) (sampleV m v s) s) t0 s.now
    (truncDiv (sampleI m i s) (2 ^ 30)) (s.mt m) (s.mt m)

theorem meterSample_samples {m : Nat} (hm : m < 24) (i v : Int) {t0 : Nat} {s : State} (h : (s.mt m).lastEnd = some
  t0) :
    Sampled m i v t0 s (meterSample m i v s) := by
  obtain ⟨hmt, hq, hfault⟩ := overSeen_stands m i v s
  have hover := fun hc => overSeen_shows hm (i := i) (v := v) hc s
  rw [meterSample_eq]
  generalize overSeen m i v s = w at hmt hq hfault hover
  have hfi : ∀ fl : Fld, (!regsIn (R.MTR_MSTAT :: alertRegs) fl.reg.addr && decide (fl.reg.count ≤ 65536)) = true →
      w.fi fl m = s.fi fl m := fun fl hf => by rw [State.fi_fieldOf, State.fi_fieldOf, hq _ _ hf]
  have hci : sampleI m i w = sampleI m i s := by
    rw [sampleI, sampleI, State.calI, State.calI, hfi Fl.MTR_IGAIN_IGAIN (by decide), hfi Fl.MTR_IOFF_IOFF (by decide)]
  have hcv : sampleV m v w = sampleV m v s := by
    rw [sampleV, sampleV, State.calV, State.calV, hfi Fl.MTR_VGAIN_VGAIN (by decide), hfi Fl.MTR_VOFF_VOFF (by decide)]
  have hnow : w.now = s.now := by rw [State.now, State.now, hmt.time]
  have hpow : ∀ ci cv c, samplePower m ci cv (w.setB Fl.MTR_MSTAT_CREEP m c) = samplePower m ci cv s := fun ci cv c =>
    by
    have h1 : (w.setB Fl.MTR_MSTAT_CREEP m c).b Fl.MTR_MSTAT_FAULT m = s.b Fl.MTR_MSTAT_FAULT m :=
      b_of_field ((fieldOf_setB_apart _ _ _ _ _ _ (by decide)).trans hfault)
    have h2 : (w.setB Fl.MTR_MSTAT_CREEP m c).f Fl.MTR_RCOMP_RCOMP m = s.f Fl.MTR_RCOMP_RCOMP m :=
      f_of_field ((fieldOf_setB_apart _ _ _ _ _ _ (by decide)).trans (hq _ _ (by decide)))
    rw [samplePower, samplePower, h1, h2]
  have hmw : w.mt m = s.mt m := mt_of_mtr hmt.mtr m
  have hen : (sampleTaken m (sampleI m i w) (sampleV m v w) w).mt m = sampledMeter s.mtr.latchList
      (samplePower m (sampleI m i s) (sampleV m v s) s) t0 s.now (truncDiv (sampleI m i s) (2 ^ 30)) (s.mt m) (s.mt m)
        := by
    unfold sampleTaken
    dsimp only
    have hset : ∀ c, (w.setB Fl.MTR_MSTAT_CREEP m c).mtr = s.mtr := fun c => (State.setF_mtr ..).trans hmt.mtr
    rw [mt_setMt hm, mt_of_mtr (hset _), hpow, hnow, hmw, h, hci, hcv, hset]
    rfl
  refine ⟨?_, fun hc => ?_, hen⟩
  · rw [hen, sampledMeter_lastEnd]
  · obtain ⟨h1, h2⟩ := hover hc
    exact ⟨(fieldOf_setB_apart _ _ _ _ _ _ (by decide)).trans h1,
      h2.of_field (fieldOf_setB_apart _ _ _ _ _ _ (by decide))⟩

end Sys2Proof.Machine

/-! ## Pulses, the grid meter, metrological writes and boundaries (R330 to R349) -/

namespace Sys2Proof.Machine

set_option Elab.async false

/-! ### Legal samples and the fast tap -/

theorem samplePower_runs {m : Nat} {ci cv : Int} {s : State}
    (h : 1000 * 2 ^ 30 ≤ ci.natAbs ∧ s.f Fl.MTR_MSTAT_FAULT m = 0) : samplePower m ci cv s =
      ci * cv * 1000000 - ci * ci * s.f Fl.MTR_RCOMP_RCOMP m := by
  refine if_neg ?_
  rw [b_false h.2]
  simp
  omega

theorem samplePower_idle {m : Nat} {ci cv : Int} {s : State}
    (h : ¬ (1000 * 2 ^ 30 ≤ ci.natAbs ∧ s.f Fl.MTR_MSTAT_FAULT m = 0)) : samplePower m ci cv s = 0 := by
  refine if_pos ?_
  rw [Bool.or_eq_true, decide_eq_true_eq]
  by_contra hc
  rw [not_or, not_lt, Bool.not_eq_true] at hc
  exact h ⟨hc.1, (field_zero s _ _ rfl).mpr hc.2⟩

theorem sample_answers {m : Nat} (hm : m < 24) (i v : Int) {t0 : Nat} {s : State} (h : (s.mt m).lastEnd = some t0) :
    let ci := s.calI m (max (-3600000) (min 3600000 i))
    let cv := s.calV m (max (-1500000) (min 1500000 v))
    let p := ci * cv * 1000000 - ci * ci * s.f Fl.MTR_RCOMP_RCOMP m
    let e := p.natAbs * (s.now - t0)
    let runs := 1000 * 2 ^ 30 ≤ ci.natAbs ∧ s.f Fl.MTR_MSTAT_FAULT m = 0
    Answers (.meterSample m i v) s fun u => (u.mt m).lastEnd = some s.now ∧
      (3600000 < i.natAbs ∨ 1500000 < v.natAbs → u.f Fl.MTR_MSTAT_OVR m = 1 ∧ bitOf (u.f Fl.MTR_STAT_CAUSE) 0 = true) ∧
      (runs → 0 < p → (u.mt m).rawRec = (s.mt m).rawRec ∧ ∃ n,
        n * energyUnit + (u.mt m).carryDel = e + (s.mt m).carryDel ∧
        (u.mt m).carryDel < energyUnit ∧ (u.mt m).rawDel = ((s.mt m).rawDel + n) % 2 ^ 48) ∧
      (runs → p < 0 → (u.mt m).rawDel = (s.mt m).rawDel ∧ ∃ n,
        n * energyUnit + (u.mt m).carryRec = e + (s.mt m).carryRec ∧
        (u.mt m).carryRec < energyUnit ∧ (u.mt m).rawRec = ((s.mt m).rawRec + n) % 2 ^ 48) ∧
      (¬ runs → (u.mt m).rawDel = (s.mt m).rawDel ∧ (u.mt m).rawRec = (s.mt m).rawRec) := by
  intro ci cv p e runs
  obtain ⟨h1, h2, h3⟩ := meterSample_samples hm i v h
  have hunit : 0 < energyUnit := by unfold energyUnit; positivity
  have hmt : (meterSample m i v s).settle.mt m = (meterSample m i v s).mt m := mt_of_mtr (settle_mtr _) m
  have hp : runs → samplePower m (sampleI m i s) (sampleV m v s) s = p := fun hr => samplePower_runs hr
  refine answers_done (congrArg done (if_pos hm)) ?_
  rw [hmt]
  refine ⟨h1, fun hc => ⟨(fieldOf_settle _ _ _ (by decide)).trans (h2 hc).1, (h2 hc).2.settled⟩, fun hr hpos => ?_,
    fun hr hneg => ?_, fun hr => ?_⟩
  · rw [hp hr] at h3
    obtain ⟨r1, r2, r3⟩ := sampledMeter_delivered hpos s.mtr.latchList t0 s.now (truncDiv (sampleI m i s) (2 ^ 30))
      (s.mt m)
    rw [h3]
    refine ⟨r1, _, ?_, ?_, r3⟩
    · rw [r2]
      exact Nat.div_add_mod' _ _
    · rw [r2]
      exact Nat.mod_lt _ hunit
  · rw [hp hr] at h3
    obtain ⟨r1, r2, r3⟩ := sampledMeter_received hneg s.mtr.latchList t0 s.now (truncDiv (sampleI m i s) (2 ^ 30))
      (s.mt m)
    rw [h3]
    refine ⟨r1, _, ?_, ?_, r3⟩
    · rw [r2]
      exact Nat.div_add_mod' _ _
    · rw [r2]
      exact Nat.mod_lt _ hunit
  · have hidle : samplePower m (sampleI m i s) (sampleV m v s) s = 0 := samplePower_idle hr
    rw [hidle] at h3
    rw [h3]
    exact sampledMeter_none ..

/-- A register of one signed field after the field is set. -/
theorem reg_setFi_whole (s : State) (fl : Fld) (i : Nat) (v : Int) (hi : i < fl.reg.count) (h0 : fl.lsb = 0)
    (hw : fl.width = 32) : regOf (s.setFi fl i v).regs fl.reg i = BitVec.ofInt 32 v := by
  apply BitVec.eq_of_toNat_eq
  rw [← fieldOf_whole _ fl i h0 hw]
  refine (fieldOf_setF_fits s fl i _ hi (by omega) (unsignedOf_lt _ _)).trans ?_
  rw [hw, unsignedOf, BitVec.toNat_ofInt]

theorem fastTap_answers {m : Nat} (hm : m < 24) (i v : Int) (s : State) : Answers (.fastTapSample m i v) s fun u =>
    u.reg R.MTR_FTI m = BitVec.ofInt 32 (Int.tdiv (s.calI m i) (2 ^ 30)) ∧
      u.reg R.MTR_FTV m = BitVec.ofInt 32 (Int.tdiv (s.calV m v) (2 ^ 30)) := by
  refine answers_done (congrArg done (if_pos hm)) ⟨?_, ?_⟩
  · rw [State.reg_regOf, regOf_settle _ _ _ (by decide)]
    exact (regOf_setF_apart _ _ _ _ _ _ (by decide)).trans
      (reg_setFi_whole s Fl.MTR_FTI_I_FT m _ (lt_of_lt_of_le hm (by decide)) rfl rfl)
  · rw [State.reg_regOf, regOf_settle _ _ _ (by decide)]
    have hv : (s.setFi Fl.MTR_FTI_I_FT m (truncDiv (s.calI m i) (2 ^ 30))).calV m v = s.calV m v := by
      rw [State.calV, State.calV, State.fi_fieldOf, State.fi_fieldOf, State.fi_fieldOf, State.fi_fieldOf,
        fieldOf_setFi_apart _ _ _ _ _ _ (by decide), fieldOf_setFi_apart _ _ _ _ _ _ (by decide)]
    exact reg_setFi_whole _ Fl.MTR_FTV_V_FT m _ (lt_of_lt_of_le hm (by decide)) rfl rfl

/-! ### Checks and pulses -/

/-- A meter that has failed its check (R332). -/
def checkFailed (m : Nat) (s : State) : State :=
  tamper 11 (tamper 4 (mtrCause 1 (meterFlag m 12
    (s.setB Fl.MTR_MSTAT_FAULT m true |>.setB Fl.MTR_MSTAT_SEC m true))))

theorem checkFailed_shows {m : Nat} (hm : m < 24) (s : State) :
    fieldOf (checkFailed m s).regs Fl.MTR_MSTAT_FAULT m = 1 ∧ fieldOf (checkFailed m s).regs Fl.MTR_MSTAT_SEC m = 1 ∧
      MtrShows 1 (checkFailed m s) ∧ (checkFailed m s).mtr = s.mtr := by
  have hlt : m < R.MTR_MSTAT.count := lt_of_lt_of_le hm (by decide)
  unfold checkFailed
  refine ⟨?_, ?_, ((mtrCause_shows 1 (by decide) _).tamper 4).tamper 11, ?_⟩
  · rw [fieldOf_tamper _ _ _ (by decide), fieldOf_tamper _ _ _ (by decide),
      fieldOf_mtrCause _ _ _ (by decide) (by decide)]
    exact (fieldOf_setB_apart _ _ _ _ _ _ (by decide)).trans (fieldOf_setB_same _ _ _ _ hlt (by decide) (by decide))
  · rw [fieldOf_tamper _ _ _ (by decide), fieldOf_tamper _ _ _ (by decide),
      fieldOf_mtrCause _ _ _ (by decide) (by decide)]
    exact fieldOf_setB_same _ _ _ _ hlt (by decide) (by decide)
  · rw [(tamper_meters _ _).mtr, (tamper_meters _ _).mtr, (mtrCause_meters _ _).mtr]
    exact (State.setF_mtr ..).trans (State.setF_mtr ..)

theorem check_fails {m : Nat} (hm : m < 24) {s : State} (h : s.f Fl.MTR_MSTAT_FAULT m = 0) :
    Answers (.meterCheck m false) s fun u => u.f Fl.MTR_MSTAT_FAULT m = 1 ∧ u.f Fl.MTR_MSTAT_SEC m = 1 ∧
      bitOf (u.f Fl.MTR_STAT_CAUSE) 1 = true ∧ (u.mt m).failed = true := by
  have he : meterCheck m false s = checkFailed m (s.setMt m fun x => { x with failed := true }) := by
    unfold meterCheck
    refine if_neg ?_
    rw [Bool.false_or]
    exact Bool.not_eq_true _ ▸ (b_false h : s.b Fl.MTR_MSTAT_FAULT m = false)
  obtain ⟨h1, h2, h3, h4⟩ := checkFailed_shows hm (s.setMt m fun x => { x with failed := true })
  refine answers_done (congrArg done ((if_pos hm).trans he)) ?_
  generalize hv : s.setMt m (fun x => { x with failed := true }) = v at h1 h2 h3 h4
  refine ⟨(fieldOf_settle _ _ _ (by decide)).trans h1, (fieldOf_settle _ _ _ (by decide)).trans h2, h3.settled, ?_⟩
  rw [mt_of_mtr ((settle_mtr _).trans h4), ← hv, mt_setMt hm]

theorem check_passes {m : Nat} (hm : m < 24) (s : State) : Answers (.meterCheck m true) s fun u =>
    u.reg R.MTR_MSTAT m = s.reg R.MTR_MSTAT m ∧ (u.mt m).failed = false := by
  have he : meterCheck m true s = s.setMt m fun x => { x with failed := false } := by
    unfold meterCheck
    exact if_pos rfl
  refine answers_done (congrArg done ((if_pos hm).trans he)) ⟨?_, ?_⟩
  · rw [State.reg_regOf, regOf_settle _ _ _ (by decide)]
    rfl
  · rw [mt_of_mtr (settle_mtr _), mt_setMt hm]

theorem fault_clears {m : Nat} (hm : m < 24) {s : State} (h : (s.mt m).failed = false) :
    Answers (.meterFaultClear m) s fun u => u.f Fl.MTR_MSTAT_FAULT m = 0 ∧ u.f Fl.MTR_MSTAT_SEC m = 0 := by
  have hlt : m < R.MTR_MSTAT.count := lt_of_lt_of_le hm (by decide)
  have he : meterFaultClear m s = (s.setB Fl.MTR_MSTAT_FAULT m false).setB Fl.MTR_MSTAT_SEC m false :=
    if_neg (by rw [h]; decide)
  refine answers_done (congrArg done ((if_pos hm).trans he)) ⟨?_, ?_⟩
  · rw [State.f_fieldOf, fieldOf_settle _ _ _ (by decide), fieldOf_setB_apart _ _ _ _ _ _ (by decide)]
    exact fieldOf_setB_same _ _ _ _ hlt (by decide) (by decide)
  · rw [State.f_fieldOf, fieldOf_settle _ _ _ (by decide)]
    exact fieldOf_setB_same _ _ _ _ hlt (by decide) (by decide)

theorem pulseDue_iff (m : Nat) (s : State) : (s.b Fl.MTR_MCFG_PEN m && !(s.mt m).pulse && s.pulsesDue m != 0 &&
    s.metersRun) = true ↔ s.f Fl.MTR_MCFG_PEN m = 1 ∧ (s.mt m).pulse = false ∧ s.pulsesDue m ≠ 0 ∧ s.metersRun = true
      := by
  rw [field_one s _ _ rfl]
  simp [and_assoc]

theorem pulse_starts {m : Nat} (hm : m < 24) {s : State} (h : s.f Fl.MTR_MCFG_PEN m = 1 ∧ (s.mt m).pulse = false ∧
    s.pulsesDue m ≠ 0 ∧ s.metersRun = true) : Answers (.pulseStart m) s fun u => (u.mt m).pulse = true ∧
      u.f Fl.MTR_PCNT_PCNT m = (s.f Fl.MTR_PCNT_PCNT m + 1) % 2 ^ 32 := by
  refine answers_done (congrArg done ((if_pos hm).trans (if_pos ((pulseDue_iff m s).mpr h)))) ⟨?_, ?_⟩
  · rw [mt_of_mtr (settle_mtr _)]
    unfold showBacklog
    rw [mt_of_mtr (State.setF_mtr ..), mt_setMt hm]
  · rw [State.f_fieldOf, fieldOf_settle _ _ _ (by decide)]
    unfold showBacklog
    rw [fieldOf_setF_apart _ _ _ _ _ _ (by decide)]
    exact fieldOf_addF_same s _ _ _ (lt_of_lt_of_le hm (by decide)) (by decide)

theorem pulse_waits {m : Nat} {s : State} (h : ¬ (s.f Fl.MTR_MCFG_PEN m = 1 ∧ (s.mt m).pulse = false ∧
    s.pulsesDue m ≠ 0 ∧ s.metersRun = true)) :
    Answers (.pulseStart m) s fun u => u.f Fl.MTR_PCNT_PCNT m = s.f Fl.MTR_PCNT_PCNT m := by
  have he : (if m < 24 then pulseStart m s else s) = s := by
    split
    · exact if_neg fun hc => h ((pulseDue_iff m s).mp hc)
    · rfl
  exact answers_done (congrArg done he) (f_of_field (fieldOf_settle _ _ _ (by decide)))

theorem pulse_ends {m : Nat} (hm : m < 24) (s : State) : Answers (.pulseEnd m) s fun u => (u.mt m).pulse = false := by
  refine answers_done rfl ?_
  rw [mt_of_mtr (settle_mtr _), mt_setMt hm]

/-! ### The grid meter (R341, R342) -/

theorem gin_of_mtr {s u : State} (h : u.mtr = s.mtr) (ex : Bool) : u.gin ex = s.gin ex := by
  rw [State.gin, State.gin, h]

theorem gin_setGin (s : State) (ex : Bool) (f : GridInput → GridInput) : (s.setGin ex f).gin ex = f (s.gin ex) := by
  cases ex <;> rfl

theorem setGin_regs (s : State) (ex : Bool) (f : GridInput → GridInput) : (s.setGin ex f).regs = s.regs := by
  cases ex <;> rfl

/-- A change of a grid input that leaves its fraction leaves the totals. -/
theorem gridTotals_setGin (s : State) (ex : Bool) {f : GridInput → GridInput} (hf : ∀ x, (f x).frac = x.frac) :
    (s.setGin ex f).gridTotals = s.gridTotals := by
  cases ex with
  | false =>
    change (s.q R.MTR_EIMPL R.MTR_EIMPH * 65536 + (f s.mtr.imp).frac, _) = _
    rw [hf]
    rfl
  | true =>
    change (_, s.q R.MTR_EEXPL R.MTR_EEXPH * 65536 + (f s.mtr.exp).frac) = _
    rw [hf]
    rfl

theorem gridTotals_congr {s u : State} (h1 : quantOf u.regs R.MTR_EIMPL R.MTR_EIMPH 0 = quantOf s.regs R.MTR_EIMPL
  R.MTR_EIMPH 0)
    (h2 : quantOf u.regs R.MTR_EEXPL R.MTR_EEXPH 0 = quantOf s.regs R.MTR_EEXPL R.MTR_EEXPH 0)
    (hm : u.mtr = s.mtr) : u.gridTotals = s.gridTotals := by
  rw [State.gridTotals, State.gridTotals, State.q_quantOf, State.q_quantOf, State.q_quantOf, State.q_quantOf, h1, h2,
    hm]

theorem gridTotals_settle (s : State) : s.settle.gridTotals = s.gridTotals :=
  gridTotals_congr (quantOf_settle _ _ _ _ (by decide) (by decide)) (quantOf_settle _ _ _ _ (by decide) (by decide))
    (settle_mtr s)

theorem showGrid_totals (a b : Nat) (s : State) : (showGrid a b s).gridTotals = (a % 2 ^ 80, b % 2 ^ 80) := by
  have h1 : quantOf (showGrid a b s).regs R.MTR_EIMPL R.MTR_EIMPH 0 = a / 65536 % 2 ^ 64 := by
    unfold showGrid
    dsimp only
    rw [quantOf_setF_apart _ _ _ _ _ _ _ (by decide) (by decide),
      quantOf_setF_apart _ _ _ _ _ _ _ (by decide) (by decide),
      quantOf_setQ_apart _ _ _ _ _ _ _ _ (by decide) (by decide) (by decide) (by decide)]
    rw [quantOf_setQ_mod _ _ _ _ _ (by decide) (by decide) (by decide), Nat.mod_mod]
  have h2 : quantOf (showGrid a b s).regs R.MTR_EEXPL R.MTR_EEXPH 0 = b / 65536 % 2 ^ 64 := by
    unfold showGrid
    dsimp only
    rw [quantOf_setF_apart _ _ _ _ _ _ _ (by decide) (by decide),
      quantOf_setF_apart _ _ _ _ _ _ _ (by decide) (by decide)]
    rw [quantOf_setQ_mod _ _ _ _ _ (by decide) (by decide) (by decide), Nat.mod_mod]
  have h3 : (showGrid a b s).mtr.imp.frac = a % 65536 ∧ (showGrid a b s).mtr.exp.frac = b % 65536 := ⟨rfl, rfl⟩
  rw [State.gridTotals, State.q_quantOf, State.q_quantOf, h1, h2, h3.1, h3.2]
  congr 1 <;> omega

theorem gridCredit_totals (ex : Bool) (n : Nat) (s : State) :
    (gridCredit ex n s).gridTotals.1 = (if ex then s.gridTotals.1 else s.gridTotals.1 + n) % 2 ^ 80 ∧
    (gridCredit ex n s).gridTotals.2 = (if ex then s.gridTotals.2 + n else s.gridTotals.2) % 2 ^ 80 := by
  cases ex <;> unfold gridCredit <;> exact ⟨congrArg Prod.fst (showGrid_totals ..),
    congrArg Prod.snd (showGrid_totals ..)⟩

/-- Crediting changes only the fractions of the inputs. -/
theorem gridCredit_gin (ex ex' : Bool) (n : Nat) (s : State) : ∃ k,
  (gridCredit ex n s).gin ex' = { s.gin ex' with frac := k } := by
  have hs : ∀ a b, ∃ k, (showGrid a b s).gin ex' = { s.gin ex' with frac := k } := fun a b => by
    have hm : (showGrid a b s).mtr = { s.mtr with imp.frac := a % 65536, exp.frac := b % 65536 } := by
      unfold showGrid
      simp only [State.setF_mtr, State.setQ, State.setReg_mtr]
    rw [State.gin, hm, State.gin]
    cases ex' <;> exact ⟨_, rfl⟩
  cases ex <;> exact hs _ _

/-- The registers that crediting and a change of mode write. -/
def creditRegs : List Rg := [R.MTR_EEXPH, R.MTR_EEXPL, R.MTR_EIMPH, R.MTR_EIMPL, R.MTR_XEXP, R.MTR_XIMP]

theorem fieldOf_gridCredit {fl : Fld} (ex : Bool) (n i : Nat) (s : State)
    (h : (!regsIn creditRegs fl.reg.addr && decide (fl.reg.count ≤ 65536)) = true) :
    fieldOf (gridCredit ex n s).regs fl i = fieldOf s.regs fl i :=
  fieldOf_onlyRegs (gridCredit_writes (by decide) (by decide) (by decide) (by decide) (by decide) (by decide) rfl ex n
    s) i h

theorem regOf_gridCredit {r : Rg} (ex : Bool) (n i : Nat) (s : State)
    (h : (!regsIn creditRegs r.addr && decide (r.count ≤ 65536)) = true) :
    regOf (gridCredit ex n s).regs r i = regOf s.regs r i :=
  regOf_onlyRegs (gridCredit_writes (by decide) (by decide) (by decide) (by decide) (by decide) (by decide) rfl ex n
    s) i h

/-- The mode and its reason shown. -/
def modeShown (mode reason : Nat) (s : State) : State :=
  s.setF Fl.MTR_GSTAT_MODE 0 mode |>.setF Fl.MTR_GSTAT_REASON 0 reason

/-- Both inputs start to count agreement again. -/
def agreeReset (s : State) : State :=
  (s.setGin false fun x => { x with agree := 0 }).setGin true fun x => { x with agree := 0 }

theorem gridMode_eq (mode reason : Nat) (s : State) : gridMode mode reason s =
    mtrCause 4 (agreeReset (meterFlag 24 (if mode = 1 then 1024 else 512) (modeShown mode reason s))) := rfl

theorem agreeReset_regs (s : State) : (agreeReset s).regs = s.regs := rfl

theorem gridMode_shows {mode reason : Nat} (hm : mode < 2) (hr : reason < 4) (s : State) :
    fieldOf (gridMode mode reason s).regs Fl.MTR_GSTAT_MODE 0 = mode ∧
    fieldOf (gridMode mode reason s).regs Fl.MTR_GSTAT_REASON 0 = reason ∧ MtrShows 4 (gridMode mode reason s) := by
  have hw1 : mode < 2 ^ Fl.MTR_GSTAT_MODE.width := lt_of_lt_of_le hm (by decide)
  have hw2 : reason < 2 ^ Fl.MTR_GSTAT_REASON.width := lt_of_lt_of_le hr (by decide)
  rw [gridMode_eq]
  refine ⟨?_, ?_, mtrCause_shows 4 (by decide) _⟩
  · rw [fieldOf_mtrCause _ _ _ (by decide) (by decide), agreeReset_regs]
    exact (fieldOf_setF_apart _ _ _ _ _ _ (by decide)).trans (fieldOf_setF_fits s _ _ _ (by decide) (by decide) hw1)
  · rw [fieldOf_mtrCause _ _ _ (by decide) (by decide), agreeReset_regs]
    exact fieldOf_setF_fits _ _ _ _ (by decide) (by decide) hw2

end Sys2Proof.Machine

/-! ## The grid meter, metrological writes and boundaries (R334 to R349) -/

namespace Sys2Proof.Machine

set_option Elab.async false

/-! ### The grid meter's own measurement -/

/-- The measured power and frequency shown. -/
def gridRead (gp1 : Int) (hz : Nat) (s : State) : State := s.setFi Fl.MTR_GP1_GP1 0 gp1 |>.setF Fl.MTR_GFREQ_F 0 hz

/-- The RMS values of the three phases shown. -/
def gridRms (v i : List Nat) (s : State) : State :=
  s.each 3 fun k s => s.setF Fl.MTR_GRMSV_V k (v.getD k 0) |>.setF Fl.MTR_GRMSI_I k (i.getD k 0)

/-- The own energy counted in the input of its direction. -/
def ownCounted (ex : Bool) (n : Nat) (s : State) : State :=
  s.setGin ex fun x => { x with carryOwn := n % 3600, own := x.own + n / 3600, ivOwn := x.ivOwn + n / 3600 }

/-- What follows of the own measurement: a credit in OWN mode, the end of PULSE mode after three quanta. -/
def ownFollows (ex : Bool) (u : Nat) (s : State) : State :=
  if !s.gridPulse then gridCredit ex u s
  else if 3 * s.quantum ex ≤ (s.gin ex).own then
    tamper 6 (mtrCause 5 (gridMode 0 2 (gridCredit false (s.gin false).own (gridCredit true (s.gin true).own s))))
  else s

theorem gridCompute_eq (gp1 : Int) (v i : List Nat) (hz : Nat) (s : State) : gridCompute gp1 v i hz s =
    let g := gridRms v i (gridRead gp1 hz s)
    let n := gp1.natAbs * 65536 + (g.gin (decide (gp1 < 0))).carryOwn
    ownFollows (decide (gp1 < 0)) (n / 3600) (ownCounted (decide (gp1 < 0)) n g) := rfl

theorem gridRms_shows (v i : List Nat) (s : State) {k : Nat} (hk : k < 3) :
    fieldOf (gridRms v i s).regs Fl.MTR_GRMSV_V k = v.getD k 0 % 2 ^ 32 ∧
    fieldOf (gridRms v i s).regs Fl.MTR_GRMSI_I k = i.getD k 0 % 2 ^ 32 := by
  constructor
  · refine State.each_once (R := fun _ => True) (Q := fun u => fieldOf u.regs Fl.MTR_GRMSV_V k = v.getD k 0 % 2 ^ 32) hk
      (fun _ _ _ _ => trivial) (fun j u hj hu => ?_) (fun u _ => ?_) trivial
    · exact (fieldOf_setF_apart _ _ _ _ _ _ (by decide)).trans ((fieldOf_setF_member u _ _ hj).trans hu)
    · exact (fieldOf_setF_apart _ _ _ _ _ _ (by decide)).trans
        (fieldOf_setF_same u _ _ _ (lt_of_lt_of_le hk (by decide)) (by decide))
  · refine State.each_once (R := fun _ => True) (Q := fun u => fieldOf u.regs Fl.MTR_GRMSI_I k = i.getD k 0 % 2 ^ 32) hk
      (fun _ _ _ _ => trivial) (fun j u hj hu => ?_) (fun u _ => ?_) trivial
    · exact (fieldOf_setF_member _ _ _ hj).trans ((fieldOf_setF_apart _ _ _ _ _ _ (by decide)).trans hu)
    · exact fieldOf_setF_same _ _ _ _ (lt_of_lt_of_le hk (by decide)) (by decide)

/-- The registers of the RMS values. -/
def rmsRegs : List Rg := [R.MTR_GRMSI, R.MTR_GRMSV]

theorem gridRms_stands (v i : List Nat) (s : State) : (gridRms v i s).mtr = s.mtr ∧
    (gridRms v i s).without (onlyRegs rmsRegs) = s.without (onlyRegs rmsRegs) :=
  State.each_induct (P := fun u => u.mtr = s.mtr ∧ u.without (onlyRegs rmsRegs) = s.without (onlyRegs rmsRegs))
    (fun k u ⟨h1, h2⟩ => ⟨(State.setF_mtr ..).trans ((State.setF_mtr ..).trans h1),
      (State.w_setF (by decide) (by decide) _ _ _).trans ((State.w_setF (by decide) (by decide) _ _ _).trans h2)⟩)
    ⟨rfl, rfl⟩ 3

/-- The registers that follow the own measurement. -/
def ownRegs : List Rg := R.MTR_GSTAT :: creditRegs ++ alertRegs

theorem ownFollows_writes (ex : Bool) (u : Nat) (s : State) :
    (ownFollows ex u s).without (onlyRegs ownRegs) = s.without (onlyRegs ownRegs) := by
  have hc : ∀ e n t, (gridCredit e n t).without (onlyRegs ownRegs) = t.without (onlyRegs ownRegs) := fun e n t =>
    gridCredit_writes (by decide) (by decide) (by decide) (by decide) (by decide) (by decide) rfl e n t
  unfold ownFollows
  split
  · exact hc ..
  · split
    · exact (tamper_writes (by decide) (by decide) (by decide) (by decide) (by decide) (by decide) (by decide) 6
        _).trans
        ((mtrCause_writes (by decide) (by decide) 5 _).trans
          ((gridMode_writes (by decide) (by decide) (by decide) rfl rfl 0 2 _).trans ((hc ..).trans (hc ..))))
    · rfl

theorem gridPulse_iff (s : State) : s.gridPulse = true ↔ s.f Fl.MTR_GSTAT_MODE = 1 := by
  rw [State.gridPulse, beq_iff_eq]

theorem quantum_congr {s u : State} (ex : Bool) (h : ∀ fl : Fld,
  fl.reg = R.MTR_GKG → fieldOf u.regs fl 0 = fieldOf s.regs fl 0) :
    u.quantum ex = s.quantum ex := by
  have hk : u.kg ex = s.kg ex := by
    rw [State.kg, State.kg, f_of_field (h _ (by cases ex <;> rfl))]
  rw [State.quantum, State.quantum, hk]

/-- The state that shows the measurement, and what it leaves. -/
theorem gridShown_stands (gp1 : Int) (v i : List Nat) (hz : Nat) (s : State) :
    let g := gridRms v i (gridRead gp1 hz s)
    g.mtr = s.mtr ∧ g.gridTotals = s.gridTotals ∧ fieldOf g.regs Fl.MTR_GSTAT_MODE 0 = fieldOf s.regs
      Fl.MTR_GSTAT_MODE 0 ∧
    (∀ fl : Fld, fl.reg = R.MTR_GKG → fieldOf g.regs fl 0 = fieldOf s.regs fl 0) ∧
    regOf g.regs R.MTR_GP1 0 = BitVec.ofInt 32 gp1 ∧ fieldOf g.regs Fl.MTR_GFREQ_F 0 = hz % 2 ^ 32 := by
  obtain ⟨h1, h2⟩ := gridRms_stands v i (gridRead gp1 hz s)
  have hread : (gridRead gp1 hz s).mtr = s.mtr := (State.setF_mtr ..).trans (State.setF_mtr ..)
  have hw : (gridRead gp1 hz s).without (onlyRegs [R.MTR_GP1, R.MTR_GFREQ]) = s.without (onlyRegs [R.MTR_GP1,
    R.MTR_GFREQ]) :=
    (State.w_setF (by decide) (by decide) _ _ _).trans (State.w_setF (by decide) (by decide) _ _ _)
  have hreg : ∀ (r : Rg), (!regsIn rmsRegs r.addr && decide (r.count ≤ 65536)) = true →
      (!regsIn [R.MTR_GP1, R.MTR_GFREQ] r.addr && decide (r.count ≤ 65536)) = true →
      regOf (gridRms v i (gridRead gp1 hz s)).regs r 0 = regOf s.regs r 0 := fun r a b =>
    (regOf_onlyRegs h2 0 a).trans (regOf_onlyRegs hw 0 b)
  refine ⟨h1.trans hread, gridTotals_congr (quantOf_congr (hreg _ (by decide) (by decide)) (hreg _ (by decide) (by
    decide)))
    (quantOf_congr (hreg _ (by decide) (by decide)) (hreg _ (by decide) (by decide))) (h1.trans hread), ?_,
    fun fl hf => ?_, ?_, ?_⟩
  · exact (fieldOf_onlyRegs h2 0 (by decide)).trans (fieldOf_onlyRegs hw 0 (by decide))
  · exact (fieldOf_onlyRegs h2 0 (by rw [hf]; decide)).trans (fieldOf_onlyRegs hw 0 (by rw [hf]; decide))
  · refine (regOf_onlyRegs h2 0 (by decide)).trans ((regOf_setF_apart _ _ _ _ _ _ (by decide)).trans ?_)
    exact reg_setFi_whole s Fl.MTR_GP1_GP1 0 gp1 (by decide) rfl rfl
  · exact (fieldOf_onlyRegs h2 0 (by decide)).trans (fieldOf_setF_same _ _ _ _ (by decide) (by decide))

/-- The last steps of the end of PULSE mode. -/
theorem pulseEnds_shows (s : State) : let u := tamper 6 (mtrCause 5 (gridMode 0 2 s))
    fieldOf u.regs Fl.MTR_GSTAT_MODE 0 = 0 ∧ fieldOf u.regs Fl.MTR_GSTAT_REASON 0 = 2 ∧ MtrShows 4 u ∧ MtrShows 5 u :=
      by
  obtain ⟨h1, h2, h3⟩ := gridMode_shows (mode := 0) (reason := 2) (by decide) (by decide) s
  generalize gridMode 0 2 s = v at h1 h2 h3
  have hq : ∀ fl : Fld, fl.reg = R.MTR_GSTAT → fieldOf (tamper 6 (mtrCause 5 v)).regs fl 0 = fieldOf v.regs fl 0 :=
    fun fl hf =>
    (fieldOf_tamper _ _ _ (by rw [hf]; decide)).trans
      (fieldOf_onlyRegs (l := alertRegs) (mtrCause_writes (by decide) (by decide) 5 v) 0 (by rw [hf]; decide))
  exact ⟨(hq _ rfl).trans h1, (hq _ rfl).trans h2, (h3.mtrCause (by decide) 5).tamper 6,
    (mtrCause_shows 5 (by decide) v).tamper 6⟩

theorem grid_answers (gp1 : Int) (v i : List Nat) (hz : Nat) (s : State) :
    Answers (.gridCompute gp1 v i hz) s fun u =>
      let ex := decide (gp1 < 0)
      let n := gp1.natAbs * 65536 + (s.gin ex).carryOwn
      u.reg R.MTR_GP1 = BitVec.ofInt 32 gp1 ∧ u.f Fl.MTR_GFREQ_F = hz % 2 ^ 32 ∧
        (∀ k, k < 3 → u.f Fl.MTR_GRMSV_V k = v.getD k 0 % 2 ^ 32 ∧ u.f Fl.MTR_GRMSI_I k = i.getD k 0 % 2 ^ 32) ∧
        (s.f Fl.MTR_GSTAT_MODE ≠ 1 → (u.gin ex).carryOwn = n % 3600 ∧
          u.gridTotals.1 = (if ex then s.gridTotals.1 else s.gridTotals.1 + n / 3600) % 2 ^ 80 ∧
          u.gridTotals.2 = (if ex then s.gridTotals.2 + n / 3600 else s.gridTotals.2) % 2 ^ 80) ∧
        (s.f Fl.MTR_GSTAT_MODE = 1 → (s.gin ex).own + n / 3600 < 3 * s.quantum ex → u.gridTotals = s.gridTotals) ∧
        (s.f Fl.MTR_GSTAT_MODE = 1 → 3 * s.quantum ex ≤ (s.gin ex).own + n / 3600 →
          u.f Fl.MTR_GSTAT_MODE = 0 ∧ u.f Fl.MTR_GSTAT_REASON = 2 ∧ bitOf (u.f Fl.MTR_STAT_CAUSE) 4 = true ∧
            bitOf (u.f Fl.MTR_STAT_CAUSE) 5 = true) := by
  refine answers_done (congrArg done (gridCompute_eq gp1 v i hz s)) ?_
  dsimp only
  generalize decide (gp1 < 0) = ex
  obtain ⟨hmtr, htot, hmode, hkg, hgp, hfr⟩ := gridShown_stands gp1 v i hz s
  have hrms := fun k (hk : k < 3) => gridRms_shows v i (gridRead gp1 hz s) hk
  rw [gin_of_mtr hmtr]
  generalize gp1.natAbs * 65536 + (s.gin ex).carryOwn = n
  generalize gridRms v i (gridRead gp1 hz s) = g at hmtr htot hmode hkg hgp hfr hrms
  have hw := ownFollows_writes ex (n / 3600) (ownCounted ex n g)
  have hcr : (ownCounted ex n g).regs = g.regs := setGin_regs ..
  have hcg : (ownCounted ex n g).gin ex = { g.gin ex with
      carryOwn := n % 3600, own := (g.gin ex).own + n / 3600, ivOwn := (g.gin ex).ivOwn + n / 3600 } := gin_setGin ..
  have hcg' : (ownCounted ex n g).gridTotals = g.gridTotals := gridTotals_setGin g ex fun _ => rfl
  have hct : (ownCounted ex n g).gridTotals = s.gridTotals := hcg'.trans htot
  have hcq : (ownCounted ex n g).quantum ex = s.quantum ex := quantum_congr ex fun fl hf => by rw [hcr, hkg fl hf]
  have hcp : (ownCounted ex n g).gridPulse = true ↔ s.f Fl.MTR_GSTAT_MODE = 1 := by
    rw [gridPulse_iff, State.f_fieldOf, hcr, hmode, ← State.f_fieldOf]
  have hown : ((ownCounted ex n g).gin ex).own = (s.gin ex).own + n / 3600 := by rw [hcg, gin_of_mtr hmtr]
  generalize ownCounted ex n g = c at hw hcr hcg hct hcq hcp hown
  refine ⟨?_, ?_, fun k hk => ⟨?_, ?_⟩, fun hm => ?_, fun hm hlt => ?_, fun hm hge => ?_⟩
  · rw [State.reg_regOf, regOf_settle _ _ _ (by decide), regOf_onlyRegs hw 0 (by decide), hcr, hgp]
  · rw [State.f_fieldOf, fieldOf_settle _ _ _ (by decide), fieldOf_onlyRegs hw 0 (by decide), hcr, hfr]
  · rw [State.f_fieldOf, fieldOf_settle _ _ _ (by decide), fieldOf_onlyRegs hw k (by decide), hcr, (hrms k hk).1]
  · rw [State.f_fieldOf, fieldOf_settle _ _ _ (by decide), fieldOf_onlyRegs hw k (by decide), hcr, (hrms k hk).2]
  · have he : ownFollows ex (n / 3600) c = gridCredit ex (n / 3600) c := by
      unfold ownFollows
      rw [if_pos]
      rw [Bool.not_eq_true', Bool.eq_false_iff]
      exact fun h => hm (hcp.mp h)
    obtain ⟨k, hk⟩ := gridCredit_gin ex ex (n / 3600) c
    obtain ⟨t1, t2⟩ := gridCredit_totals ex (n / 3600) c
    rw [he, gridTotals_settle, gin_of_mtr (settle_mtr _), t1, t2, hct, hk, hcg]
    exact ⟨rfl, rfl, rfl⟩
  · have he : ownFollows ex (n / 3600) c = c := by
      unfold ownFollows
      rw [if_neg (by rw [hcp.mpr hm]; decide), if_neg (by rw [hcq, hown]; exact not_le.mpr hlt)]
    rw [he, gridTotals_settle, hct]
  · have he : ownFollows ex (n / 3600) c = tamper 6 (mtrCause 5 (gridMode 0 2
        (gridCredit false (c.gin false).own (gridCredit true (c.gin true).own c)))) := by
      unfold ownFollows
      rw [if_neg (by rw [hcp.mpr hm]; decide), if_pos (by rw [hcq, hown]; exact hge)]
    obtain ⟨p1, p2, p3, p4⟩ := pulseEnds_shows (gridCredit false (c.gin false).own (gridCredit true (c.gin true).own c))
    rw [he]
    exact ⟨(fieldOf_settle _ _ _ (by decide)).trans p1, (fieldOf_settle _ _ _ (by decide)).trans p2, p3.settled,
      p4.settled⟩

/-! ### Utility pulses and FORCE -/

theorem utility_short (ex : Bool) {w : Nat} (hw : w < 2000) (s : State) : Answers (.utilityPulse ex w) s fun u =>
    u.f Fl.MTR_GSTAT_SHORTP = min 65535 (s.f Fl.MTR_GSTAT_SHORTP + 1) ∧ u.gridTotals = s.gridTotals := by
  refine answers_done (congrArg done (if_pos hw)) ⟨?_, ?_⟩
  · rw [State.f_fieldOf, fieldOf_settle _ _ _ (by decide), State.f_fieldOf]
    exact fieldOf_satF_same _ _ _ _ (by decide) (by decide)
  · rw [gridTotals_settle]
    exact gridTotals_congr (quantOf_setF_apart _ _ _ _ _ _ _ (by decide) (by decide))
      (quantOf_setF_apart _ _ _ _ _ _ _ (by decide) (by decide)) (State.setF_mtr ..)

theorem utility_credits (ex : Bool) {w : Nat} (hw : 2000 ≤ w) {s : State} (hm : s.f Fl.MTR_GSTAT_MODE = 1) :
    Answers (.utilityPulse ex w) s fun u =>
      let n := 65536000000 + (s.gin ex).carryPulse
      (u.gin ex).carryPulse = n % s.kg ex ∧ (u.gin ex).own = 0 ∧
        u.gridTotals.1 = (if ex then s.gridTotals.1 else s.gridTotals.1 + n / s.kg ex) % 2 ^ 80 ∧
        u.gridTotals.2 = (if ex then s.gridTotals.2 + n / s.kg ex else s.gridTotals.2) % 2 ^ 80 := by
  have he : utilityPulse ex w s = gridCredit ex ((65536000000 + (s.gin ex).carryPulse) / s.kg ex)
      (s.setGin ex fun x => { x with
        carryPulse := (65536000000 + (s.gin ex).carryPulse) % s.kg ex, own := 0
        ivPulse := x.ivPulse + (65536000000 + (s.gin ex).carryPulse) / s.kg ex }) := by
    unfold utilityPulse
    exact (if_neg (by omega)).trans (if_pos ((gridPulse_iff s).mpr hm))
  refine answers_done (congrArg done he) ?_
  dsimp only
  generalize 65536000000 + (s.gin ex).carryPulse = n
  obtain ⟨k, hk⟩ := gridCredit_gin ex ex (n / s.kg ex) (s.setGin ex fun x =>
    { x with carryPulse := n % s.kg ex, own := 0, ivPulse := x.ivPulse + n / s.kg ex })
  obtain ⟨t1, t2⟩ := gridCredit_totals ex (n / s.kg ex) (s.setGin ex fun x =>
    { x with carryPulse := n % s.kg ex, own := 0, ivPulse := x.ivPulse + n / s.kg ex })
  have ht : (s.setGin ex fun x =>
      { x with carryPulse := n % s.kg ex, own := 0, ivPulse := x.ivPulse + n / s.kg ex }).gridTotals = s.gridTotals :=
      gridTotals_setGin s ex fun _ => rfl
  rw [gin_of_mtr (settle_mtr _), gridTotals_settle, hk, t1, t2, ht, gin_setGin]
  exact ⟨rfl, rfl, rfl, rfl⟩

theorem utility_forced (ex : Bool) {w : Nat} (hw : 2000 ≤ w) {s : State} (hm : s.f Fl.MTR_GSTAT_MODE = 0)
    (hf : s.f Fl.MTR_GCFG_FORCE = 1) : Answers (.utilityPulse ex w) s fun u =>
      u.f Fl.MTR_GSTAT_MODE = 0 ∧ (u.gin ex).agree = 0 ∧ u.gridTotals = s.gridTotals := by
  have he : ∃ q, utilityPulse ex w s = s.setGin ex fun x => { x with own := 0, agree := 0, ivPulse := x.ivPulse + q }
    := by
    refine ⟨(65536000000 + (s.gin ex).carryPulse) / s.kg ex, ?_⟩
    unfold utilityPulse
    refine (if_neg (by omega)).trans ((if_neg ?_).trans ?_)
    · rw [gridPulse_iff, hm]
      decide
    · rw [b_true hf, Bool.not_true, Bool.and_false]
      exact if_neg (by rw [if_neg Bool.false_ne_true]; decide)
  obtain ⟨q, he⟩ := he
  refine answers_done (congrArg done he) ⟨?_, ?_, ?_⟩
  · rw [State.f_fieldOf, fieldOf_settle _ _ _ (by decide), setGin_regs, ← State.f_fieldOf, hm]
  · rw [gin_of_mtr (settle_mtr _), gin_setGin]
  · rw [gridTotals_settle]
    exact gridTotals_setGin s ex fun _ => rfl

theorem grid_forced (s : State) : Answers .gridForce s fun u => u.f Fl.MTR_GCFG_FORCE = 1 ∧
    (s.f Fl.MTR_GSTAT_MODE = 1 → u.f Fl.MTR_GSTAT_MODE = 0 ∧ u.f Fl.MTR_GSTAT_REASON = 1 ∧
      bitOf (u.f Fl.MTR_STAT_CAUSE) 4 = true) := by
  have hforce : fieldOf (s.setB Fl.MTR_GCFG_FORCE 0 true).regs Fl.MTR_GCFG_FORCE 0 = 1 :=
    fieldOf_setB_same s _ _ _ (by decide) (by decide) (by decide)
  have hmode : (s.setB Fl.MTR_GCFG_FORCE 0 true).gridPulse = true ↔ s.f Fl.MTR_GSTAT_MODE = 1 := by
    rw [gridPulse_iff, f_of_field (fieldOf_setB_apart s _ _ _ _ _ (by decide))]
  have he : gridForce s = (s.setB Fl.MTR_GCFG_FORCE 0 true).when (s.setB Fl.MTR_GCFG_FORCE 0 true).gridPulse (gridMode
    0 1) := rfl
  refine answers_done (congrArg done he) ?_
  generalize s.setB Fl.MTR_GCFG_FORCE 0 true = v at hforce hmode
  have hm : ∀ u, fieldOf (gridMode 0 1 u).regs Fl.MTR_GCFG_FORCE 0 = fieldOf u.regs Fl.MTR_GCFG_FORCE 0 := fun u =>
    fieldOf_onlyRegs (l := [R.EVT_PEND, R.MTR_GSTAT, R.MTR_STAT])
      (gridMode_writes (by decide) (by decide) (by decide) rfl rfl 0 1 u) 0 (by decide)
  refine ⟨?_, fun h => ?_⟩
  · rw [State.f_fieldOf, fieldOf_settle _ _ _ (by decide), fieldOf_when hm, hforce]
  · obtain ⟨h1, h2, h3⟩ := gridMode_shows (mode := 0) (reason := 1) (by decide) (by decide) v
    rw [hmode.mpr h, State.when_true]
    exact ⟨(fieldOf_settle _ _ _ (by decide)).trans h1, (fieldOf_settle _ _ _ (by decide)).trans h2, h3.settled⟩

end Sys2Proof.Machine

/-! ## Metrological writes and queued boundaries (R334 to R348) -/

namespace Sys2Proof.Machine

set_option Elab.async false

/-! ### Metrological writes (R334) -/

/-- The registers of metrology are the listed ones, within their count. -/
theorem metroAt_listed {addr i : Nat} {r : Rg} (h : metroAt addr = some (r, i)) : ∃ n, (r, n) ∈ metroRegs ∧ i < n := by
  obtain ⟨⟨q, n⟩, hm, he⟩ := List.exists_of_findSome?_eq_some h
  obtain ⟨k, hk, hkk⟩ := Option.map_eq_some_iff.mp he
  obtain ⟨rfl, rfl⟩ := Prod.mk.inj hkk
  exact ⟨n, hm, List.mem_range.mp (List.mem_of_find?_eq_some hk)⟩

/-- A register of metrology is none that a write of one records itself in. -/
def metroQuiet (r : Rg) : Bool :=
  (R.MTR_STAT.apart r && R.EVT_PEND.apart r && R.MTR_CALCNT.apart r && r.apart R.MTR_CALCNT && r.apart R.MTR_STAT) &&
    (!regsIn tamperRegs r.addr && decide (r.count ≤ 65536))

theorem metro_quiet {r : Rg} {n : Nat} (h : (r, n) ∈ metroRegs) : metroQuiet r = true ∧ n ≤ r.count := by
  have hall : ∀ e ∈ metroRegs, metroQuiet e.1 = true ∧ e.2 ≤ e.1.count := by decide
  exact hall _ h

/-- The registers of a port's meter. -/
def ownMeterRegs : List Rg := [R.MTR_MCFG, R.MTR_IGAIN, R.MTR_IOFF, R.MTR_VGAIN, R.MTR_VOFF, R.MTR_RCOMP]

theorem ownMeter_iff (r : Rg) : (decide (r = R.MTR_MCFG) || decide (r = R.MTR_IGAIN) || decide (r = R.MTR_IOFF) ||
    decide (r = R.MTR_VGAIN) || decide (r = R.MTR_VOFF) || decide (r = R.MTR_RCOMP)) = true ↔ r ∈ ownMeterRegs := by
  simp [ownMeterRegs, or_assoc]

/-- A write that is taken: counted, flagged and recorded. -/
def metroTaken (r : Rg) (i : Nat) (v : Word) (m : Nat) (s : State) : State :=
  tamper 1 (mtrCause 2 (meterFlag m 128 ((plainWrite r i v s).addF Fl.MTR_CALCNT_COUNT 0 1)))

theorem metroWrite_cases (r : Rg) (i : Nat) (v : Word) (s : State) :
    (s.b Fl.MTR_STAT_CALEN = true ∧ (r ∈ ownMeterRegs → (s.mt i).amps.natAbs < 2000) ∧ metroRange r v = true →
      ∃ m, metroWrite r i v s = metroTaken r i v m s) ∧
    (¬ (s.b Fl.MTR_STAT_CALEN = true ∧ (r ∈ ownMeterRegs → (s.mt i).amps.natAbs < 2000) ∧ metroRange r v = true) →
      metroWrite r i v s = mtrCause 3 s) := by
  have hown := ownMeter_iff r
  unfold metroWrite
  dsimp only
  generalize (decide (r = R.MTR_MCFG) || decide (r = R.MTR_IGAIN) || decide (r = R.MTR_IOFF) ||
    decide (r = R.MTR_VGAIN) || decide (r = R.MTR_VOFF) || decide (r = R.MTR_RCOMP)) = own at hown
  have hc : (!(s.b Fl.MTR_STAT_CALEN && (!own || decide ((s.mt i).amps.natAbs < 2000)) && metroRange r v)) = true ↔
      ¬ (s.b Fl.MTR_STAT_CALEN = true ∧ (r ∈ ownMeterRegs → (s.mt i).amps.natAbs < 2000) ∧ metroRange r v = true) := by
    rw [← hown]
    cases s.b Fl.MTR_STAT_CALEN <;> cases metroRange r v <;> cases own <;> simp
  exact ⟨fun h => ⟨_, if_neg fun hn => hc.mp hn h⟩, fun h => if_pos (hc.mpr h)⟩

theorem regOf_plainWrite {r : Rg} {i : Nat} (hi : i < r.count) (v : Word) (s : State) : regOf (plainWrite r i v
  s).regs r i =
    ((s.reg r i &&& ~~~r.rw) &&& ~~~(r.w1c &&& v)) ||| (v &&& r.rw) := regOf_setReg_same s r i _ hi

/-- A register of one field counts on. -/
theorem metroTaken_shows {r : Rg} {i : Nat} (hq : metroQuiet r = true) (v : Word) (m : Nat) (s : State) :
    regOf (metroTaken r i v m s).regs r i = regOf (plainWrite r i v s).regs r i ∧
    fieldOf (metroTaken r i v m s).regs Fl.MTR_CALCNT_COUNT 0 = (s.f Fl.MTR_CALCNT_COUNT + 1) % 2 ^ 32 ∧
    MtrShows 2 (metroTaken r i v m s) ∧
    fieldOf (metroTaken r i v m s).regs Fl.MTR_STAT_CALEN 0 = fieldOf s.regs Fl.MTR_STAT_CALEN 0 := by
  simp only [metroQuiet, Bool.and_eq_true] at hq
  obtain ⟨⟨⟨⟨⟨h1, h2⟩, h3⟩, h4⟩, h5⟩, h6, h7⟩ := hq
  have ht : (!regsIn tamperRegs r.addr && decide (r.count ≤ 65536)) = true := by rw [h6, h7]; rfl
  unfold metroTaken
  refine ⟨?_, ?_, (mtrCause_shows 2 (by decide) _).tamper 1, ?_⟩
  · rw [regOf_tamper _ _ _ ht, regOf_mtrCause _ _ _ h1 h2]
    exact regOf_setF_apart _ _ _ _ _ _ h3
  · rw [fieldOf_tamper _ _ _ (by decide), fieldOf_mtrCause _ _ _ (by decide) (by decide)]
    refine (fieldOf_addF_same _ _ _ _ (by decide) (by decide)).trans ?_
    rw [State.f_fieldOf, plainWrite, fieldOf_setReg_apart _ _ _ _ _ _ h4, State.f_fieldOf]
    rfl
  · rw [fieldOf_tamper _ _ _ (by decide), fieldOf_mtrCause _ _ _ (by decide) (by decide)]
    refine (fieldOf_addF_apart _ _ _ _ _ _ (by decide)).trans ?_
    exact fieldOf_setReg_apart _ _ _ _ _ _ h5

/-- The state with the level of MCAL_N shown. -/
def calShown (low : Bool) (s : State) : State := s.setB Fl.MTR_STAT_CALEN 0 low

theorem metrology_answers (low : Bool) {addr i : Nat} (v : Word) {r : Rg} (h : metroAt addr = some (r, i)) (s : State) :
    let own := r ∈ ownMeterRegs
    let taken := low = true ∧ (own → (s.mt i).amps.natAbs < 2000) ∧ metroRange r v = true
    (taken → Answers (.metrologyConfigWrite low addr v) s fun u => u.reg r i = (plainWrite r i v s).reg r i ∧
      u.f Fl.MTR_CALCNT_COUNT = (s.f Fl.MTR_CALCNT_COUNT + 1) % 2 ^ 32 ∧ bitOf (u.f Fl.MTR_STAT_CAUSE) 2 = true ∧
        u.f Fl.MTR_STAT_CALEN = 1) ∧
    (¬ taken → Answers (.metrologyConfigWrite low addr v) s fun u => u.reg r i = s.reg r i ∧
      bitOf (u.f Fl.MTR_STAT_CAUSE) 3 = true ∧ u.f Fl.MTR_CALCNT_COUNT = s.f Fl.MTR_CALCNT_COUNT) := by
  intro own taken
  obtain ⟨n, hm, hi⟩ := metroAt_listed h
  obtain ⟨hq, hn⟩ := metro_quiet hm
  have hexec : exec (.metrologyConfigWrite low addr v) s = done (metroWrite r i v (calShown low s)) := by
    change done (match metroAt addr with
      | none => calShown low s
      | some (r, i) => metroWrite r i v (calShown low s)) = _
    rw [h]
  have hset : metroQuiet r = true → (!settledPart.regs r.addr && decide (r.count ≤ 65536)) = true := fun _ => by
    have hall : ∀ e ∈ metroRegs, (!settledPart.regs e.1.addr && decide (e.1.count ≤ 65536)) = true := by decide
    exact hall _ hm
  have hcalen : fieldOf (calShown low s).regs Fl.MTR_STAT_CALEN 0 = b2n low :=
    fieldOf_setB_same s _ _ _ (by decide) (by decide) (by decide)
  have hb : (calShown low s).b Fl.MTR_STAT_CALEN = low := by
    rw [State.b_fieldOf, hcalen]
    cases low <;> rfl
  have hstat : R.MTR_STAT.apart r = true ∧ R.EVT_PEND.apart r = true := by
    simp only [metroQuiet, Bool.and_eq_true] at hq
    exact ⟨hq.1.1.1.1.1, hq.1.1.1.1.2⟩
  have hr : (calShown low s).reg r i = s.reg r i := regOf_setF_apart s Fl.MTR_STAT_CALEN r 0 i (b2n low) hstat.1
  have hcount : (calShown low s).f Fl.MTR_CALCNT_COUNT = s.f Fl.MTR_CALCNT_COUNT :=
    f_of_field (fieldOf_setB_apart s _ _ _ _ _ (by decide))
  have hmt : (calShown low s).mt i = s.mt i := mt_of_mtr (State.setF_mtr ..) i
  obtain ⟨c1, c2⟩ := metroWrite_cases r i v (calShown low s)
  rw [hb, hmt] at c1 c2
  generalize calShown low s = w at hexec hcalen hr hcount c1 c2
  refine ⟨fun ht => ?_, fun ht => ?_⟩
  · obtain ⟨m, he⟩ := c1 ht
    obtain ⟨t1, t2, t3, t4⟩ := metroTaken_shows (i := i) hq v m w
    refine answers_done (hexec.trans (congrArg done he)) ⟨?_, ?_, t3.settled, ?_⟩
    · rw [State.reg_regOf, regOf_settle _ _ _ (hset hq), t1, regOf_plainWrite (by omega), hr,
        State.reg_regOf (plainWrite r i v s),
        regOf_plainWrite (by omega)]
    · rw [State.f_fieldOf, fieldOf_settle _ _ _ (by decide), t2, hcount]
    · rw [State.f_fieldOf, fieldOf_settle _ _ _ (by decide), t4, hcalen, ht.1]
      rfl
  · refine answers_done (hexec.trans (congrArg done (c2 ht))) ⟨?_, (mtrCause_shows 3 (by decide) w).settled, ?_⟩
    · rw [State.reg_regOf, regOf_settle _ _ _ (hset hq), regOf_mtrCause _ _ _ hstat.1 hstat.2]
      exact hr
    · rw [State.f_fieldOf, fieldOf_settle _ _ _ (by decide), fieldOf_mtrCause _ _ _ (by decide) (by decide)]
      exact hcount

/-! ### Boundaries (R346 to R348) -/

/-- A boundary is refused: the queue full, its instant past, or a meter that is not there. -/
def BoundaryRefused (s : State) : Prop :=
  8 ≤ s.mtr.queue.length ∨ s.q R.MTR_BNDL R.MTR_BNDH < s.now ∨ 24 < s.f Fl.MTR_BNDCTL_METER

theorem boundaryRefused_iff (s : State) : (decide (8 ≤ s.mtr.queue.length) ||
    decide (s.q R.MTR_BNDL R.MTR_BNDH < s.now) || decide (24 < s.f Fl.MTR_BNDCTL_METER)) = true ↔ BoundaryRefused s :=
      by
  simp [BoundaryRefused, or_assoc]

theorem boundary_refused {s : State} (h : BoundaryRefused s) : Answers .boundaryEnqueue s fun u =>
    u.f Fl.MTR_BNDCTL_ERR = 1 ∧ bitOf (u.f Fl.MTR_STAT_CAUSE) 7 = true ∧ u.mtr.queue = s.mtr.queue := by
  have he : boundaryEnqueue s = mtrCause 7 (s.setB Fl.MTR_BNDCTL_ERR 0 true) := if_pos ((boundaryRefused_iff s).mpr h)
  refine answers_done (congrArg done he) ⟨?_, (mtrCause_shows 7 (by decide) _).settled, ?_⟩
  · rw [State.f_fieldOf, fieldOf_settle _ _ _ (by decide), fieldOf_mtrCause _ _ _ (by decide) (by decide)]
    exact fieldOf_setB_same s _ _ _ (by decide) (by decide) (by decide)
  · rw [settle_mtr, (mtrCause_meters _ _).mtr]
    exact congrArg _ (State.setF_mtr ..)

theorem boundary_queued {s : State} (h : ¬ BoundaryRefused s) : Answers .boundaryEnqueue s fun u =>
    u.mtr.queue = s.mtr.queue ++ [(s.q R.MTR_BNDL R.MTR_BNDH, s.f Fl.MTR_BNDCTL_METER, s.f Fl.MTR_BNDCTL_TAG)] ∧
      u.f Fl.MTR_BNDCTL_COUNT = s.mtr.queue.length + 1 := by
  have hlen : s.mtr.queue.length < 8 := by
    by_contra hc
    exact h (.inl (by omega))
  let q := s.mtr.queue ++ [(s.q R.MTR_BNDL R.MTR_BNDH, s.f Fl.MTR_BNDCTL_METER, s.f Fl.MTR_BNDCTL_TAG)]
  have hq : q.length = s.mtr.queue.length + 1 := by simp [q]
  have he : boundaryEnqueue s = { s.setF Fl.MTR_BNDCTL_COUNT 0 q.length with mtr.queue := q } :=
    if_neg fun hc => h ((boundaryRefused_iff s).mp hc)
  have hw : q.length < 2 ^ Fl.MTR_BNDCTL_COUNT.width := lt_of_lt_of_le (show q.length < 9 by omega) (by decide)
  refine answers_done (congrArg done he) ⟨?_, ?_⟩
  · rw [settle_mtr]
  · rw [State.f_fieldOf, fieldOf_settle _ _ _ (by decide)]
    exact (fieldOf_setF_fits s Fl.MTR_BNDCTL_COUNT 0 q.length (by decide) (by decide) hw).trans hq

/-- The queue's state after the due boundaries have had their results. -/
def boundariesLatched (rest : List (Nat × Nat × Nat)) (s : State) : State :=
  { s.setF Fl.MTR_BNDCTL_COUNT 0 rest.length with mtr.queue := rest }

/-- The boundaries that are due. -/
def dueBoundaries (s : State) : List (Nat × Nat × Nat) := s.mtr.queue.filter fun e => decide (e.1 ≤ s.now)

theorem boundaryLatch_eq (s : State) : boundaryLatch s =
    boundariesLatched (s.mtr.queue.filter fun e => !decide (e.1 ≤ s.now))
      (s.eachOf (sortBy (fun a b => decide (a.1 ≤ b.1)) (dueBoundaries s)) boundaryResult) := rfl

theorem latch_queue (s : State) : Answers .boundaryLatch s fun u =>
    u.mtr.queue = s.mtr.queue.filter fun e => decide (s.now < e.1) := by
  refine answers_done (congrArg done (boundaryLatch_eq s)) ?_
  rw [settle_mtr]
  change s.mtr.queue.filter _ = s.mtr.queue.filter _
  congr 1
  funext e
  rw [← decide_not]
  exact decide_eq_decide.mpr not_le

/-- The result of a boundary written before its cause. -/
def boundaryWritten (k b m tag del rcv : Nat) (s : State) : State :=
  s.setReg R.MTR_RES0 k 0 |>.setB Fl.MTR_RES0_VALID k true |>.setF Fl.MTR_RES0_METER k m
    |>.setF Fl.MTR_RES0_TAG k tag |>.setQ R.MTR_RESBL R.MTR_RESBH k b
    |>.setQ R.MTR_RESEDL R.MTR_RESEDH k (del / 65536) |>.setQ R.MTR_MIRL R.MTR_MIRH k (rcv / 65536)
    |>.setF Fl.MTR_RESFRAC_DEL k (del % 65536) |>.setF Fl.MTR_RESFRAC_REC k (rcv % 65536)

theorem boundaryResult_eq (b m tag : Nat) (s : State) : boundaryResult (b, m, tag) s =
    mtrCause 7 { boundaryWritten s.mtr.resNext b m tag (s.meterTotals m b).1 (s.meterTotals m b).2 s with
      mtr.resNext := (s.mtr.resNext + 1) % 16 } := rfl

theorem boundaryWritten_shows {k m tag : Nat} (hk : k < 16) (hm : m < 25) (ht : tag < 256) (b del rcv : Nat) (s :
  State) :
    let u := boundaryWritten k b m tag del rcv s
    fieldOf u.regs Fl.MTR_RES0_VALID k = 1 ∧ fieldOf u.regs Fl.MTR_RES0_METER k = m ∧
      fieldOf u.regs Fl.MTR_RES0_TAG k = tag ∧ quantOf u.regs R.MTR_RESBL R.MTR_RESBH k = b % 2 ^ 64 ∧
      quantOf u.regs R.MTR_RESEDL R.MTR_RESEDH k = del / 65536 % 2 ^ 64 := by
  have hlt : k < R.MTR_RES0.count := lt_of_lt_of_le hk (by decide)
  have hm' : m < 2 ^ Fl.MTR_RES0_METER.width := lt_of_lt_of_le hm (by decide)
  have ht' : tag < 2 ^ Fl.MTR_RES0_TAG.width := lt_of_lt_of_le ht (by decide)
  unfold boundaryWritten
  dsimp only
  refine ⟨?_, ?_, ?_, ?_, ?_⟩
  · simp (disch := decide) only [fieldOf_setF_apart, fieldOf_setQ_apart]
    exact fieldOf_setB_same _ Fl.MTR_RES0_VALID k true hlt (by decide) (by decide)
  · simp (disch := decide) only [fieldOf_setF_apart, fieldOf_setQ_apart]
    exact fieldOf_setF_fits _ Fl.MTR_RES0_METER k m hlt (by decide) hm'
  · simp (disch := decide) only [fieldOf_setF_apart, fieldOf_setQ_apart]
    exact fieldOf_setF_fits _ Fl.MTR_RES0_TAG k tag hlt (by decide) ht'
  · simp (disch := first | decide | (apply lt_of_lt_of_le hk; decide)) only [quantOf_setF_apart, quantOf_setQ_apart,
      quantOf_setQ_mod]
  · simp (disch := first | decide | (apply lt_of_lt_of_le hk; decide)) only [quantOf_setF_apart, quantOf_setQ_apart,
      quantOf_setQ_mod]

theorem latch_result {s : State} {b m tag : Nat} (hdue : dueBoundaries s = [(b, m,
  tag)]) (hb : b < 2 ^ 64) (hm : m < 25)
    (ht : tag < 256) (hk : s.mtr.resNext < 16) : Answers .boundaryLatch s fun u => let k := s.mtr.resNext
      u.f Fl.MTR_RES0_VALID k = 1 ∧ u.f Fl.MTR_RES0_METER k = m ∧ u.f Fl.MTR_RES0_TAG k = tag ∧
        u.q R.MTR_RESBL R.MTR_RESBH k = b ∧ u.q R.MTR_RESEDL R.MTR_RESEDH k = (s.meterTotals m b).1 / 65536 % 2 ^ 64 ∧
        u.mtr.resNext = (k + 1) % 16 ∧ bitOf (u.f Fl.MTR_STAT_CAUSE) 7 = true := by
  have he : boundaryLatch s = boundariesLatched (s.mtr.queue.filter fun e => !decide (e.1 ≤ s.now)) (boundaryResult
    (b, m, tag) s) := by
    rw [boundaryLatch_eq, hdue]
    rfl
  obtain ⟨h1, h2, h3, h4, h5⟩ := boundaryWritten_shows hk hm ht b (s.meterTotals m b).1 (s.meterTotals m b).2 s
  refine answers_done (congrArg done he) ?_
  rw [boundaryResult_eq]
  generalize boundaryWritten s.mtr.resNext b m tag (s.meterTotals m b).1 (s.meterTotals m b).2 s = w at h1 h2 h3 h4 h5
  generalize hn : (s.mtr.resNext + 1) % 16 = n
  have hmt := mtrCause_meters 7 ({ w with mtr.resNext := n } : State)
  have hshow := mtrCause_shows 7 (by decide) ({ w with mtr.resNext := n } : State)
  have hf : ∀ (fl : Fld) i, Fl.MTR_STAT_CAUSE.apart fl = true → Fl.EVT_PEND_PEND.apart fl = true →
      fieldOf (mtrCause 7 ({ w with mtr.resNext := n } : State)).regs fl i = fieldOf w.regs fl i := fun fl i a c =>
    fieldOf_mtrCause 7 i _ a c
  have hq : ∀ (lo hi : Rg) i, (R.MTR_STAT.apart lo && R.EVT_PEND.apart lo && R.MTR_STAT.apart hi && R.EVT_PEND.apart
    hi) = true →
      quantOf (mtrCause 7 ({ w with mtr.resNext := n } : State)).regs lo hi i = quantOf w.regs lo hi i := fun lo hi i
        h => by
    simp only [Bool.and_eq_true] at h
    exact quantOf_congr (regOf_mtrCause 7 i _ h.1.1.1 h.1.1.2) (regOf_mtrCause 7 i _ h.1.2 h.2)
  generalize mtrCause 7 ({ w with mtr.resNext := n } : State) = v at hmt hshow hf hq
  have hlf : ∀ (fl : Fld) i, Fl.MTR_BNDCTL_COUNT.apart fl = true → ∀ rest,
      fieldOf (boundariesLatched rest v).regs fl i = fieldOf v.regs fl i := fun fl i a rest => fieldOf_setF_apart v _
        _ _ _ _ a
  have hlq : ∀ (lo hi : Rg) i, R.MTR_BNDCTL.apart lo = true → R.MTR_BNDCTL.apart hi = true → ∀ rest,
      quantOf (boundariesLatched rest v).regs lo hi i = quantOf v.regs lo hi i := fun lo hi i a c rest =>
    quantOf_setF_apart v _ _ _ _ _ _ a c
  refine ⟨?_, ?_, ?_, ?_, ?_, ?_, ?_⟩
  · rw [State.f_fieldOf, fieldOf_settle _ _ _ (by decide), hlf _ _ (by decide), hf _ _ (by decide) (by decide), h1]
  · rw [State.f_fieldOf, fieldOf_settle _ _ _ (by decide), hlf _ _ (by decide), hf _ _ (by decide) (by decide), h2]
  · rw [State.f_fieldOf, fieldOf_settle _ _ _ (by decide), hlf _ _ (by decide), hf _ _ (by decide) (by decide), h3]
  · rw [State.q_quantOf, quantOf_settle _ _ _ _ (by decide) (by decide), hlq _ _ _ (by decide) (by decide),
      hq _ _ _ (by decide), h4]
    exact Nat.mod_eq_of_lt hb
  · rw [State.q_quantOf, quantOf_settle _ _ _ _ (by decide) (by decide), hlq _ _ _ (by decide) (by decide),
      hq _ _ _ (by decide), h5]
  · rw [settle_mtr]
    have hr : ∀ rest, (boundariesLatched rest v).mtr.resNext = v.mtr.resNext := fun rest => by
      change (v.setF Fl.MTR_BNDCTL_COUNT 0 rest.length).mtr.resNext = v.mtr.resNext
      rw [State.setF_mtr]
    rw [hr, hmt.mtr]
    exact hn.symm
  · exact (hshow.of_field (hlf _ _ (by decide) _)).settled

/-- Settles O34: each part of the meters by the rule of its operation. -/
theorem metering : Obligations.Metering := by
  intro s
  refine ⟨fun m hm => ⟨fun i v t0 h => sample_answers hm i v h, fun i v => fastTap_answers hm i v s, check_fails hm,
      check_passes hm s, fault_clears hm, ⟨pulse_starts hm, pulse_waits⟩, pulse_ends hm s⟩,
    fun gp1 v i hz => grid_answers gp1 v i hz s,
    fun ex w => ⟨fun hw => utility_short ex hw s, fun hw hm => utility_credits ex hw hm,
      fun hw hm hf => utility_forced ex hw hm hf⟩,
    grid_forced s, fun low addr v r i h => metrology_answers low v h s, ⟨boundary_refused, boundary_queued⟩,
      latch_queue s,
    fun b m tag hdue hb hm ht hk => latch_result hdue hb hm ht hk⟩

end Sys2Proof.Machine

/-! ## Signatures: what its shared operations leave (R391 to R413) -/

namespace Sys2Proof.Machine

set_option Elab.async false

/-! ### Causes, keys and reservations -/

/-- Cause `k` of signatures is shown. -/
def SigShows (k : Nat) (s : State) : Prop := bitOf (s.f Fl.SIG_STAT_CAUSE) k = true

theorem sigCause_shows (j : Nat) (hj : j < 8) (s : State) : SigShows j (sigCause j s) :=
  bitOf_causeOn _ _ _ _ _ _ (by decide) (by decide) hj (by decide)

theorem fieldOf_sigCause {fl : Fld} (j i : Nat) (s : State) (h : Fl.SIG_STAT_CAUSE.apart fl = true)
    (hp : Fl.EVT_PEND_PEND.apart fl = true) : fieldOf (sigCause j s).regs fl i = fieldOf s.regs fl i :=
  fieldOf_causeOn _ _ _ _ _ _ _ _ h hp

theorem regOf_sigCause {r : Rg} (j i : Nat) (s : State) (h : R.SIG_STAT.apart r = true)
    (hp : R.EVT_PEND.apart r = true) : regOf (sigCause j s).regs r i = regOf s.regs r i :=
  regOf_causeOn _ _ _ _ _ _ _ _ h hp

theorem sigCause_sig (j : Nat) (s : State) : (sigCause j s).sig = s.sig := State.causeOn_sig ..

theorem sigCause_mem (j : Nat) (s : State) : (sigCause j s).mem = s.mem := State.causeOn_mem ..

theorem keyNext_of_regs {s u : State} {k : Nat} (hl : regOf u.regs R.SIG_NEXTL k = regOf s.regs R.SIG_NEXTL k)
    (hh : regOf u.regs R.SIG_NEXTH k = regOf s.regs R.SIG_NEXTH k) : u.keyNext k = s.keyNext k := quantOf_congr hl hh

theorem sigCause_keyNext (j k : Nat) (s : State) : (sigCause j s).keyNext k = s.keyNext k :=
  keyNext_of_regs (regOf_sigCause _ _ _ (by decide) (by decide)) (regOf_sigCause _ _ _ (by decide) (by decide))

/-- Whether the key is ready is shown beside its state. -/
def readyBit (k : Nat) : Fld := if k = 0 then Fl.SIG_STAT_KRDY0 else Fl.SIG_STAT_KRDY1

theorem readyBit_cases (P : Fld → Prop) (k : Nat) (h0 : P Fl.SIG_STAT_KRDY0) (h1 : P Fl.SIG_STAT_KRDY1) :
    P (readyBit k) := by
  unfold readyBit
  split
  · exact h0
  · exact h1

theorem setKeyState_sig (k st : Nat) (s : State) : (setKeyState k st s).sig = s.sig :=
  (State.setB_sig ..).trans (State.setF_sig ..)

theorem setKeyState_keyNext (k st j : Nat) (s : State) : (setKeyState k st s).keyNext j = s.keyNext j := by
  have hb : (readyBit k).reg = R.SIG_STAT := readyBit_cases (·.reg = R.SIG_STAT) k rfl rfl
  have hl : (readyBit k).reg.apart R.SIG_NEXTL = true := by rw [hb]; decide
  have hh : (readyBit k).reg.apart R.SIG_NEXTH = true := by rw [hb]; decide
  exact (quantOf_setF_apart _ (readyBit k) _ _ _ _ _ hl hh).trans
    (quantOf_setF_apart _ _ _ _ _ _ _ (by decide) (by decide))

theorem setKeyState_state {k st : Nat} (hk : k < 2) (hst : st < 4) (s : State) : (setKeyState k st s).keyState k = st
  := by
  have hb : (readyBit k).apart Fl.SIG_KSTAT_STATE = true := readyBit_cases (·.apart _ = true) k (by decide) (by decide)
  have hlt : k < Fl.SIG_KSTAT_STATE.reg.count := lt_of_lt_of_le hk (by decide)
  refine (fieldOf_setB_apart _ (readyBit k) _ _ _ _ hb).trans ?_
  exact fieldOf_setF_fits s Fl.SIG_KSTAT_STATE k st hlt (by decide) (lt_of_lt_of_le hst (by decide))

theorem setKeyState_ready (k st : Nat) (s : State) : (setKeyState k st s).f (readyBit k) = b2n (st == 2) := by
  have hw : (readyBit k).lsb + (readyBit k).width ≤ 32 := readyBit_cases (fun fl => fl.lsb + fl.width ≤ 32) k
    (by decide) (by decide)
  exact fieldOf_setB_same _ (readyBit k) 0 _ (readyBit_cases (0 < ·.reg.count) k (by decide) (by decide)) hw
    (readyBit_cases (0 < ·.width) k (by decide) (by decide))

/-- What a reservation leaves that a signature reads: the keys' next indices, the queue and the chain of roots, time. -/
structure SigningStands (s u : State) : Prop where
  next : ∀ k, u.keyNext k = s.keyNext k
  queue : u.sig.queue = s.sig.queue
  prev : u.sig.prev = s.sig.prev
  gen : ∀ k, u.f Fl.SIG_KSTAT_GEN k = s.f Fl.SIG_KSTAT_GEN k
  now : u.now = s.now

theorem writeReservation_regs (k : Nat) (r : Reservation) (s : State) : (writeReservation k r s).regs =
    ((s.setQ R.SIG_LIMITL R.SIG_LIMITH k r.limit).setB Fl.SIG_KSTAT_CLOSED k r.closed).regs := by
  unfold writeReservation
  dsimp only
  split <;> rfl

theorem writeReservation_stands (k : Nat) (r : Reservation) (s : State) : SigningStands s (writeReservation k r s) := by
  have hr := writeReservation_regs k r s
  have hsig : (writeReservation k r s).sig.queue = s.sig.queue ∧ (writeReservation k r s).sig.prev = s.sig.prev := by
    unfold writeReservation
    dsimp only
    split <;> exact ⟨by simp only [State.setB_sig, State.setQ_sig], by simp only [State.setB_sig, State.setQ_sig]⟩
  refine ⟨fun j => ?_, hsig.1, hsig.2, fun j => ?_, ?_⟩
  · change quantOf (writeReservation k r s).regs _ _ j = quantOf s.regs _ _ j
    rw [hr, State.setB, quantOf_setF_apart _ _ _ _ _ _ _ (by decide) (by decide),
      quantOf_setQ_apart _ _ _ _ _ _ _ _ (by decide) (by decide) (by decide) (by decide)]
  · change fieldOf (writeReservation k r s).regs _ j = fieldOf s.regs _ j
    rw [hr, fieldOf_setB_apart _ _ _ _ _ _ (by decide), fieldOf_setQ_apart _ _ _ _ _ _ _ (by decide) (by decide)]
  · unfold writeReservation
    dsimp only
    split <;> simp only [State.now, State.setB_time, State.setQ_time]

theorem writeReservation_reservation {k : Nat} (r : Reservation) (s : State) :
    (writeReservation k r s).reservation k = some r := by
  unfold writeReservation State.reservation
  dsimp only
  split <;> rfl

/-- The record of a key whose next index reaches its limit is advanced by a block, and is open. -/
def reservedRecord (rv : Reservation) (i : Nat) : Reservation :=
  { rv with limit := if i = rv.limit then rv.limit + 64 else rv.limit, closed := false }

theorem reserve_eq {k : Nat} {rv : Reservation} {s : State} (h : s.reservation k = some rv) :
    reserve k s = writeReservation k (reservedRecord rv (s.keyNext k)) s := by
  unfold reserve
  rw [h]
  rfl

theorem reservedRecord_limit {rv : Reservation} {i : Nat} (h : i = rv.limit) :
    reservedRecord rv i = { rv with limit := rv.limit + 64, closed := false } := by rw [reservedRecord, if_pos h]

theorem reservedRecord_inside {rv : Reservation} {i : Nat} (h : i ≠ rv.limit) :
    reservedRecord rv i = { rv with closed := false } := by rw [reservedRecord, if_neg h]

theorem needsWrite_iff {k : Nat} {rv : Reservation} {s : State} (h : s.reservation k = some rv) :
    s.needsWrite k = true ↔ rv.closed = true ∨ s.keyNext k = rv.limit := by
  unfold State.needsWrite
  rw [h]
  simp

theorem reserve_when {k : Nat} {rv : Reservation} {s : State} (h : s.reservation k = some rv) :
    SigningStands s (s.when (s.needsWrite k) (reserve k)) ∧
      (s.when (s.needsWrite k) (reserve k)).reservation k = some (reservedRecord rv (s.keyNext k)) := by
  by_cases hn : s.needsWrite k = true
  · rw [hn, State.when_true, reserve_eq h]
    exact ⟨writeReservation_stands .., writeReservation_reservation ..⟩
  · have hw : ¬ (rv.closed = true ∨ s.keyNext k = rv.limit) := fun hc => hn ((needsWrite_iff h).mpr hc)
    rw [Bool.not_eq_true] at hn
    rw [hn, State.when_false, h, reservedRecord_inside fun he => hw (.inr he)]
    refine ⟨⟨fun _ => rfl, rfl, rfl, fun _ => rfl, rfl⟩, congrArg some ?_⟩
    obtain ⟨g, l, c, n⟩ := rv
    cases c
    · rfl
    · exact absurd (.inl rfl) hw

/-! ### The start of a signature (R393 to R396) -/

/-- The signature of a request begun now. -/
def signingOf (r : SignReq) (s : State) : Signing :=
  { req := { r with payload := s.signedPayload r }, index := s.keyNext r.key, gen := s.f Fl.SIG_KSTAT_GEN r.key,
    start := s.now }

theorem signing_stands {s u : State} (h : SigningStands s u) (r : SignReq) : signingOf r u = signingOf r s := by
  unfold signingOf State.signedPayload
  rw [h.next, h.prev, h.gen, h.now]

/-- A request taken from the queue with its index. -/
def signBegun (r : SignReq) (s : State) : State :=
  State.setQ { s with sig.queue := s.sig.queue.erase r, sig.current := some (signingOf r s) } R.SIG_NEXTL R.SIG_NEXTH
    r.key
    (s.keyNext r.key + 1)

/-- The warnings of a key that comes to the end of its indices. -/
def keySpent (k i : Nat) (s : State) : State :=
  let s := s.when (k = 1 && keyIndices 1 - (i + 1) < 65536) (sigCause 5)
  if keyIndices k ≤ i + 1 then sigCause 6 (setKeyState k 3 s) else s

theorem signStart_eq {r : SignReq} {s : State} (hs : s.sig.stopped = false) (hc : s.sig.current = none)
    (hn : s.nextSign = some r) : signStart s = if (s.needsWrite r.key && !s.nvOk) = true then sigCause 3 s else
      keySpent r.key ((s.when (s.needsWrite r.key) (reserve r.key)).keyNext r.key)
        (signBegun r (s.when (s.needsWrite r.key) (reserve r.key))) := by
  unfold signStart
  rw [hs, hc, hn]
  rfl

theorem keySpent_stands (k i : Nat) (s : State) : (keySpent k i s).sig = s.sig ∧ ∀ j,
  (keySpent k i s).keyNext j = s.keyNext j := by
  unfold keySpent
  extract_lets w
  have hw : w.sig = s.sig ∧ ∀ j, w.keyNext j = s.keyNext j :=
    State.when_cases (P := fun u => u.sig = s.sig ∧ ∀ j, u.keyNext j = s.keyNext j) (fun _ => ⟨rfl, fun _ => rfl⟩)
      fun _ => ⟨sigCause_sig .., fun j => sigCause_keyNext ..⟩
  split
  · exact ⟨(sigCause_sig ..).trans ((setKeyState_sig ..).trans hw.1), fun j =>
      (sigCause_keyNext ..).trans ((setKeyState_keyNext ..).trans (hw.2 j))⟩
  · exact hw

theorem keySpent_end {k i : Nat} (hk : k < 2) (h : keyIndices k ≤ i + 1) (s : State) :
    (keySpent k i s).keyState k = 3 ∧ SigShows 6 (keySpent k i s) := by
  unfold keySpent
  rw [if_pos h]
  exact ⟨(fieldOf_sigCause 6 k _ (by decide) (by decide)).trans (setKeyState_state hk (by decide) _),
    sigCause_shows 6 (by decide) _⟩

theorem reservation_of_sig {s u : State} (h : u.sig = s.sig) (k : Nat) : u.reservation k = s.reservation k := by
  unfold State.reservation
  rw [h]

theorem signBegun_next {r : SignReq} {s : State} (hk : r.key < 2) (h : s.keyNext r.key + 1 < 2 ^ 64) :
    (signBegun r s).keyNext r.key = s.keyNext r.key + 1 :=
  quantOf_setQ_same _ R.SIG_NEXTL R.SIG_NEXTH _ _ (lt_of_lt_of_le hk (by decide)) (lt_of_lt_of_le hk (by decide)) (by
    decide) h

theorem signBegun_sig (r : SignReq) (s : State) : (signBegun r s).sig =
    { s.sig with queue := s.sig.queue.erase r, current := some (signingOf r s) } := State.setQ_sig ..

theorem sign_waits {r : SignReq} {rv : Reservation} {s : State} (hs : s.sig.stopped = false) (hc : s.sig.current = none)
    (hn : s.nextSign = some r) (hr : s.reservation r.key = some rv) (hw : rv.closed = true ∨ s.keyNext r.key = rv.limit)
    (hv : s.nvOk = false) : Effect .signatureStart s fun u => bitOf (u.f Fl.SIG_STAT_CAUSE) 3 = true ∧
      u.sig.current = none ∧ u.keyNext r.key = s.keyNext r.key ∧ u.sig.queue = s.sig.queue := by
  have he : signStart s = sigCause 3 s := by
    rw [signStart_eq hs hc hn, if_pos]
    rw [(needsWrite_iff hr).mpr hw, hv]
    rfl
  refine effect_done (congrArg done he) ⟨sigCause_shows 3 (by decide) s, ?_, sigCause_keyNext .., ?_⟩
  · rw [sigCause_sig, hc]
  · rw [sigCause_sig]

theorem sign_starts {r : SignReq} {rv : Reservation} {s : State} (hs : s.sig.stopped = false) (hc : s.sig.current =
  none)
    (hn : s.nextSign = some r) (hk : r.key < 2) (hr : s.reservation r.key = some rv)
    (hw : ¬ (rv.closed = true ∨ s.keyNext r.key = rv.limit) ∨ s.nvOk = true) (hlt : s.keyNext r.key + 1 < 2 ^ 64) :
    Effect .signatureStart s fun u => u.sig.current = some (signingOf r s) ∧ u.keyNext r.key = s.keyNext r.key + 1 ∧
      u.sig.queue = s.sig.queue.erase r ∧
      (s.keyNext r.key = rv.limit → u.reservation r.key = some { rv with limit := rv.limit + 64, closed := false }) ∧
      (s.keyNext r.key ≠ rv.limit → u.reservation r.key = some { rv with closed := false }) ∧
      (keyIndices r.key ≤ s.keyNext r.key + 1 → u.keyState r.key = 3 ∧ bitOf (u.f Fl.SIG_STAT_CAUSE) 6 = true) := by
  have hgate : ¬ (s.needsWrite r.key && !s.nvOk) = true := by
    rw [Bool.and_eq_true, needsWrite_iff hr, Bool.not_eq_true', ← Bool.not_eq_true]
    rintro ⟨h1, h2⟩
    exact hw.elim (absurd h1) (absurd · h2)
  have he := (signStart_eq hs hc hn).trans (if_neg hgate)
  obtain ⟨hst, hres⟩ := reserve_when hr
  generalize s.when (s.needsWrite r.key) (reserve r.key) = w at he hst hres
  rw [hst.next] at he
  obtain ⟨hsig, hnext⟩ := keySpent_stands r.key (s.keyNext r.key) (signBegun r w)
  have hresv : (keySpent r.key (s.keyNext r.key) (signBegun r w)).reservation r.key =
      some (reservedRecord rv (s.keyNext r.key)) := by
    rw [reservation_of_sig hsig, ← hres]
    unfold State.reservation
    rw [signBegun_sig]
  refine effect_done (congrArg done he) ⟨?_, ?_, ?_, fun h => ?_, fun h => ?_, fun h => keySpent_end hk h _⟩
  · rw [hsig, signBegun_sig, signing_stands hst]
  · rw [hnext, signBegun_next hk (by rw [hst.next]; exact hlt), hst.next]
  · rw [hsig, signBegun_sig, hst.queue]
  · rw [hresv, reservedRecord_limit h]
  · rw [hresv, reservedRecord_inside h]

end Sys2Proof.Machine

/-! ## Signatures: their end, the job queue and the engine (R398 to R413) -/

namespace Sys2Proof.Machine

set_option Elab.async false

/-! ### The end of a signature (R398 to R405) -/

/-- The state with no signature under way. -/
def signFree (s : State) : State := { s with sig.current := none }

theorem dma_sig (s : State) (a : Nat) (l : List Byte) : (s.dma a l).sig = s.sig :=
  State.sig_of_without (A := { besideMemory with sig := false, mem := true, pending := true })
    (State.dma_writes rfl rfl s a l) rfl

/-- A receipt written to its slot of the ring of receipts, where one is set up. -/
def receiptWritten (env : List Byte) (s : State) : State :=
  if s.f Fl.SIG_RXBASE_BASE * 4096 = 0 then s
  else (s.dma (s.f Fl.SIG_RXBASE_BASE * 4096 + 12288 * s.f Fl.SIG_RXNEXT_SLOT) env).setF Fl.SIG_RXNEXT_SLOT 0
    (s.f Fl.SIG_RXNEXT_SLOT + 1)

theorem releaseReceipt_eq (env : List Byte) (s : State) : releaseReceipt env s =
    sigCause 1 (receiptWritten env { s with sig.envelopes := s.sig.envelopes ++ [env] }) := rfl

theorem receiptWritten_sig (env : List Byte) (s : State) : (receiptWritten env s).sig = s.sig := by
  unfold receiptWritten
  split
  · rfl
  · exact (State.setF_sig ..).trans (dma_sig ..)

theorem receiptWritten_slot (env : List Byte) (s : State) : (receiptWritten env s).f Fl.SIG_RXNEXT_SLOT =
    if s.f Fl.SIG_RXBASE_BASE = 0 then s.f Fl.SIG_RXNEXT_SLOT else (s.f Fl.SIG_RXNEXT_SLOT + 1) % 16 := by
  unfold receiptWritten
  by_cases h : s.f Fl.SIG_RXBASE_BASE = 0
  · rw [if_pos (by rw [h]), if_pos h]
  · rw [if_neg (by omega), if_neg h]
    exact State.f_setF_same _ Fl.SIG_RXNEXT_SLOT 0 _ (by decide) (by decide)

theorem signComplete_eq {x : Signing} {s : State} (h : s.sig.current = some x) : signComplete s =
    match x.req.kind with
    | 1 => { signFree s with
        sig.roots := s.sig.roots ++ [(leNat ((x.req.payload.drop 4).take 4), s.envelope x)],
          sig.prev := digest (s.envelope x) }
    | 2 => releaseReceipt (s.envelope x) (signFree s)
    | 4 =>
      match x.req.job, x.req.slot with
      | some d, _ => { (signFree s).dma (s.word (d + 0x0C)).toNat (s.envelope x) with sig.result := some 0 }
      | none, some h => { signFree s with sig.hostDone := cellsInsert s.sig.hostDone h (s.envelope x) }
      | none, none => signFree s
    | _ => { signFree s with sig.envelopes := s.sig.envelopes ++ [s.envelope x] } := by
  unfold signComplete
  rw [h]
  rfl

theorem signComplete_current {x : Signing} {s : State} (h : s.sig.current = some x) : (signComplete s).sig.current =
  none := by
  rw [signComplete_eq h]
  split
  · rfl
  · rw [releaseReceipt_eq, sigCause_sig, receiptWritten_sig]
    rfl
  · split
    · exact congrArg SigState.current (dma_sig (signFree s) _ _)
    · rfl
    · rfl
  · rfl

theorem signComplete_root {x : Signing} {s : State} (h : s.sig.current = some x) (hk : x.req.kind = 1) :
    (signComplete s).sig.prev = digest (s.envelope x) ∧
      (signComplete s).sig.roots = s.sig.roots ++ [(leNat ((x.req.payload.drop 4).take 4), s.envelope x)] := by
  rw [signComplete_eq h, hk]
  exact ⟨rfl, rfl⟩

theorem signComplete_receipt {x : Signing} {s : State} (h : s.sig.current = some x) (hk : x.req.kind = 2) :
    (signComplete s).sig.envelopes = s.sig.envelopes ++ [s.envelope x] ∧ SigShows 1 (signComplete s) ∧
      (signComplete s).f Fl.SIG_RXNEXT_SLOT =
        (if s.f Fl.SIG_RXBASE_BASE = 0 then s.f Fl.SIG_RXNEXT_SLOT else (s.f Fl.SIG_RXNEXT_SLOT + 1) % 16) := by
  have he : signComplete s = releaseReceipt (s.envelope x) (signFree s) := by
    rw [signComplete_eq h, hk]
    rfl
  rw [he, releaseReceipt_eq]
  refine ⟨?_, sigCause_shows 1 (by decide) _, ?_⟩
  · rw [sigCause_sig, receiptWritten_sig]
    rfl
  · exact (fieldOf_sigCause 1 0 _ (by decide) (by decide)).trans (receiptWritten_slot _ _)

theorem signComplete_archived {x : Signing} {s : State} (h : s.sig.current = some x)
    (hk : x.req.kind = 3 ∨ x.req.kind = 5) : (signComplete s).sig.envelopes = s.sig.envelopes ++ [s.envelope x] := by
  rw [signComplete_eq h]
  rcases hk with hk | hk <;> rw [hk] <;> rfl

theorem dma_mem_congr {s u : State} (h : u.mem = s.mem) (hp : ∀ a n,
  u.readOnly a n = s.readOnly a n) (a : Nat) (l : List Byte) :
    (u.dma a l).mem = (s.dma a l).mem := by
  unfold State.dma
  rw [hp]
  split
  · exact h
  · rw [dropReservations_mem, dropReservations_mem]
    exact State.setBytes_mem_congr h l a

theorem signComplete_job {x : Signing} {s : State} (h : s.sig.current = some x) {d : Nat} (hk : x.req.kind = 4)
    (hj : x.req.job = some d) : (signComplete s).sig.result = some 0 ∧
      (signComplete s).mem = (s.dma (s.word (d + 0x0C)).toNat (s.envelope x)).mem := by
  have he : signComplete s =
      { (signFree s).dma (s.word (d + 0x0C)).toNat (s.envelope x) with sig.result := some 0 } := by
    simp only [signComplete_eq h, hk, hj]
  have hm : ((signFree s).dma (s.word (d + 0x0C)).toNat (s.envelope x)).mem = (s.dma (s.word (d + 0x0C)).toNat
    (s.envelope x)).mem :=
    dma_mem_congr (s := s) (u := signFree s) rfl (fun _ _ => rfl) _ _
  rw [he]
  generalize (signFree s).dma (s.word (d + 0x0C)).toNat (s.envelope x) = w at hm
  exact ⟨rfl, hm⟩

theorem signComplete_host {x : Signing} {s : State} (h : s.sig.current = some x) {o : Nat} (hk : x.req.kind = 4)
    (hj : x.req.job = none) (hs : x.req.slot = some o) :
    (signComplete s).sig.hostDone = cellsInsert s.sig.hostDone o (s.envelope x) := by
  rw [signComplete_eq h, hk, hj, hs]
  rfl

/-! ### Keys (R391) and the job queue (R409) -/

theorem key_rebuilt {k : Nat} (hk : k < 2) {s : State} (h : s.keyState k = 1) :
    Effect (.keyRebuildComplete k) s fun u => u.keyState k = 2 ∧ bitOf (u.f Fl.SIG_STAT_CAUSE) 4 = true ∧
      u.f (if k = 0 then Fl.SIG_STAT_KRDY0 else Fl.SIG_STAT_KRDY1) = 1 := by
  have he : keyRebuilt k s = sigCause 4 (setKeyState k 2 s) := if_pos (by simp [hk, h])
  have hready := readyBit_cases (fun fl => Fl.SIG_STAT_CAUSE.apart fl = true ∧ Fl.EVT_PEND_PEND.apart fl = true) k
    (by decide) (by decide)
  refine effect_done (congrArg done he) ⟨?_, sigCause_shows 4 (by decide) _, ?_⟩
  · exact (fieldOf_sigCause 4 k _ (by decide) (by decide)).trans (setKeyState_state hk (by decide) _)
  · exact (fieldOf_sigCause (fl := readyBit k) 4 0 _ hready.1 hready.2).trans (setKeyState_ready k 2 s)

theorem key_standing {k : Nat} {s : State} (h : s.keyState k ≠ 1) :
    Effect (.keyRebuildComplete k) s fun u => u.keyState k = s.keyState k := by
  have he : keyRebuilt k s = s := if_neg (by simp [h])
  exact effect_done (congrArg done he) rfl

theorem showJobs_sig (s : State) : (showJobs s).sig = s.sig := (State.setB_sig ..).trans (State.setF_sig ..)

theorem showJobs_mem (s : State) : (showJobs s).mem = s.mem := (State.setB_mem ..).trans (State.setF_mem ..)

theorem showJobs_count {s : State} (h : s.sig.jobs.length < 32) : (showJobs s).f Fl.SIG_JOBSTAT_COUNT =
  s.sig.jobs.length := by
  refine (fieldOf_setB_apart (s.setF Fl.SIG_JOBSTAT_COUNT 0 s.sig.jobs.length) Fl.SIG_JOBSTAT_BUSY
    Fl.SIG_JOBSTAT_COUNT 0 0
    (!s.sig.jobs.isEmpty) (by decide)).trans ?_
  exact fieldOf_setF_fits s Fl.SIG_JOBSTAT_COUNT 0 _ (by decide) (by decide) (lt_of_lt_of_le h (by decide))

theorem showJobs_busy (s : State) : (showJobs s).f Fl.SIG_JOBSTAT_BUSY = b2n (!s.sig.jobs.isEmpty) :=
  fieldOf_setB_same _ _ _ _ (by decide) (by decide) (by decide)

theorem job_refused (addr : Word) {s : State} (h : 16 ≤ s.sig.jobs.length) :
    Effect (.jobSubmit addr) s fun u => u.f Fl.SIG_STAT_QFULL = 1 ∧ u.sig.jobs = s.sig.jobs := by
  have he : jobSubmit addr.toNat s = s.setB Fl.SIG_STAT_QFULL 0 true := if_pos h
  refine effect_done (congrArg done he) ⟨fieldOf_setB_same _ _ _ _ (by decide) (by decide) (by decide), ?_⟩
  rw [State.setB_sig]

theorem job_queued (addr : Word) {s : State} (h : s.sig.jobs.length < 16) :
    Effect (.jobSubmit addr) s fun u => u.sig.jobs = s.sig.jobs ++ [addr.toNat / 32 * 32] ∧
      u.f Fl.SIG_JOBSTAT_COUNT = s.sig.jobs.length + 1 ∧ u.f Fl.SIG_JOBSTAT_BUSY = 1 := by
  have he : jobSubmit addr.toNat s = showJobs { s with sig.jobs := s.sig.jobs ++ [addr.toNat / 32 * 32] } :=
    if_neg (by omega)
  have hlen : (s.sig.jobs ++ [addr.toNat / 32 * 32]).length = s.sig.jobs.length + 1 := List.length_append
  refine effect_done (congrArg done he) ⟨?_, ?_, ?_⟩
  · rw [showJobs_sig]
  · exact (showJobs_count (show (s.sig.jobs ++ [addr.toNat / 32 * 32]).length < 32 by omega)).trans hlen
  · refine (showJobs_busy _).trans ?_
    change b2n (!(s.sig.jobs ++ [addr.toNat / 32 * 32]).isEmpty) = 1
    simp [b2n]

/-- The head of the job queue ended with status `r`. -/
def jobEnded (a : Nat) (rest : List Nat) (r : Nat) (s : State) : State :=
  sigCause 2 (showJobs
    { s.dmaWord (a + 0x1C) (BitVec.ofNat 32 (2 ^ 31 + r)) with sig.jobs := rest, sig.result := none })

theorem jobEnded_shows {rest : List Nat} (h : rest.length < 32) (a r : Nat) (s : State) : let u := jobEnded a rest r s
    u.sig.jobs = rest ∧ u.sig.result = none ∧ SigShows 2 u ∧ u.f Fl.SIG_JOBSTAT_COUNT = rest.length ∧
      u.mem = (s.dmaWord (a + 0x1C) (BitVec.ofNat 32 (2 ^ 31 + r))).mem := by
  unfold jobEnded
  refine ⟨?_, ?_, sigCause_shows 2 (by decide) _, ?_, ?_⟩
  · rw [sigCause_sig, showJobs_sig]
  · rw [sigCause_sig, showJobs_sig]
  · exact (fieldOf_sigCause 2 0 _ (by decide) (by decide)).trans (showJobs_count h)
  · rw [sigCause_mem, showJobs_mem]

/-- The status with which the head of the queue ends now, if it does. -/
def endingStatus (a : Nat) (s : State) : Option Nat :=
  match s.sig.result with
  | some r => some r
  | none => if (s.jobAt a).op = 0 || 16 < (s.jobAt a).op then some 1 else none

theorem jobDone_eq {a : Nat} {rest : List Nat} {s : State} (h : s.sig.jobs = a :: rest) : jobDone s =
    match endingStatus a s with
    | none => s
    | some r => jobEnded a rest r s := by
  unfold jobDone
  rw [h]
  rfl

theorem job_finished {a r : Nat} {rest : List Nat} {s : State} (h : s.sig.jobs = a :: rest) (hl : s.sig.jobs.length ≤
  16)
    (hr : endingStatus a s = some r) : Effect .jobDone s fun u => u.sig.jobs = rest ∧ u.sig.result = none ∧
      bitOf (u.f Fl.SIG_STAT_CAUSE) 2 = true ∧ u.f Fl.SIG_JOBSTAT_COUNT = rest.length ∧
        u.mem = (s.dmaWord (a + 0x1C) (BitVec.ofNat 32 (2 ^ 31 + r))).mem := by
  have he : jobDone s = jobEnded a rest r s := by rw [jobDone_eq h, hr]
  rw [h, List.length_cons] at hl
  exact effect_done (congrArg done he) (jobEnded_shows (by omega) a r s)

theorem job_unfinished {a : Nat} {rest : List Nat} {s : State} (h : s.sig.jobs = a :: rest)
    (hr : endingStatus a s = none) : Effect .jobDone s fun u => u.sig.jobs = s.sig.jobs := by
  have he : jobDone s = s := by rw [jobDone_eq h, hr]
  exact effect_done (congrArg done he) rfl

theorem job_answers {a : Nat} {rest : List Nat} {s : State} (h : s.sig.jobs = a :: rest) (hl : s.sig.jobs.length ≤ 16) :
    let finished (r : Nat) : Prop := Effect .jobDone s fun u => u.sig.jobs = rest ∧ u.sig.result = none ∧
      bitOf (u.f Fl.SIG_STAT_CAUSE) 2 = true ∧ u.f Fl.SIG_JOBSTAT_COUNT = rest.length ∧
        u.mem = (s.dmaWord (a + 0x1C) (BitVec.ofNat 32 (2 ^ 31 + r))).mem
    (∀ r, s.sig.result = some r → finished r) ∧
    (s.sig.result = none → (s.jobAt a).op = 0 ∨ 16 < (s.jobAt a).op → finished 1) ∧
    (s.sig.result = none → (s.jobAt a).op ≠ 0 → (s.jobAt a).op ≤ 16 → Effect .jobDone s fun u => u.sig.jobs =
      s.sig.jobs) := by
  refine ⟨fun r hr => job_finished h hl ?_, fun hr ho => job_finished h hl ?_, fun hr h0 h16 => job_unfinished h ?_⟩
  · rw [endingStatus, hr]
  · rw [endingStatus, hr]
    exact if_pos (by simpa using ho)
  · rw [endingStatus, hr]
    exact if_neg (by simp [h0, h16])

/-! ### The engine and the tokens (R412, R413) -/

/-- Whether a class of the engine has work: the device's signatures, the jobs, the image checks. -/
def engineWork (s : State) : Nat → Bool
  | 0 => s.sig.current.isSome || !s.sig.queue.isEmpty || s.keyState 0 == 1 || s.keyState 1 == 1
  | 1 => !s.sig.jobs.isEmpty
  | _ => (s.images.tickets.toList.any fun t => match t with | some x => x.status == 0 | none => false) ||
      s.host.slots.toList.any fun o => match o with | some x => x.op == 0x81 && !x.ended | none => false

theorem engineStep_eq (s : State) : engineStep s =
    match ((List.range 3).map fun i => (s.sig.turn + 1 + i) % 3).find? (engineWork s) with
    | none => s
    | some c => { s with sig.turn := c } := by
  have hw : engineWork s = fun c : Nat => match c with
    | 0 => s.sig.current.isSome || !s.sig.queue.isEmpty || s.keyState 0 == 1 || s.keyState 1 == 1
    | 1 => !s.sig.jobs.isEmpty
    | _ => (s.images.tickets.toList.any fun t => match t with | some x => x.status == 0 | none => false) ||
        s.host.slots.toList.any fun o => match o with | some x => x.op == 0x81 && !x.ended | none => false := by
    funext c
    unfold engineWork
    split <;> rfl
  rw [hw]
  rfl

theorem engine_serves {c : Nat} {s : State}
    (h : ((List.range 3).map fun i => (s.sig.turn + 1 + i) % 3).find? (engineWork s) = some c) :
    Effect .engineStep s fun u => u.sig.turn = c := by
  have he : engineStep s = { s with sig.turn := c } := by rw [engineStep_eq, h]
  exact effect_done (congrArg done he) rfl

theorem engineWork_signing {s : State} (h : s.sig.current.isSome = true) : engineWork s 0 = true := by
  unfold engineWork
  rw [h]
  rfl

theorem engineWork_jobs (s : State) : engineWork s 1 = !s.sig.jobs.isEmpty := rfl

theorem engineWork_idle {s : State}
    (ht : ∀ k, k < 8 → ∀ x, s.images.tickets.toList.getD k none = some x → x.status ≠ 0)
    (ho : ∀ o ∈ s.host.slots.toList, ∀ x, o = some x → x.op ≠ 0x81) : engineWork s 2 = false := by
  refine Bool.or_eq_false_iff.mpr ⟨List.any_eq_false.mpr fun t hm => ?_, List.any_eq_false.mpr fun o hm => ?_⟩
  · cases t with
    | none => exact Bool.false_ne_true
    | some x =>
      obtain ⟨k, hk, hx⟩ := List.getElem_of_mem hm
      have hlt : k < 4 := by simpa using hk
      have hne := ht k (by omega) x (by rw [List.getD_eq_getElem _ _ hk, hx])
      simpa using hne
  · cases o with
    | none => exact Bool.false_ne_true
    | some x =>
      have hne := ho _ hm x rfl
      simp [hne]

theorem token_joins (s : State) :
    Effect .attestTokenRefill s fun u => u.f Fl.SIG_STAT_ATTTOK = min 4 (s.f Fl.SIG_STAT_ATTTOK + 1) :=
  effect_done rfl (fieldOf_setF_fits _ Fl.SIG_STAT_ATTTOK _ _ (by decide) (by decide)
    (lt_of_le_of_lt (Nat.min_le_left _ _) (by decide)))

/-- Settles O36: each part of the signatures by the rule of its operation. -/
theorem signing : Obligations.Signing := by
  intro s cause
  refine ⟨fun r rv hs hc hn hk hr => ⟨fun hw hv => sign_waits hs hc hn hr hw hv,
    fun hw hlt => sign_starts hs hc hn hk hr hw hlt⟩,
    fun x hx => effect_done rfl ⟨signComplete_current hx, signComplete_root hx, signComplete_receipt hx,
      signComplete_archived hx, fun d hk hj => signComplete_job hx hk hj,
        fun o hk hj hs => signComplete_host hx hk hj hs⟩,
    fun k hk => ⟨key_rebuilt hk, key_standing⟩, fun addr => ⟨job_refused addr, job_queued addr⟩,
    fun a rest h hl => job_answers h hl, fun h ht => engine_serves ?_, fun h ht => engine_serves ?_,
    fun hj ht hi ho hc => engine_serves ?_, token_joins s⟩
  · rw [ht]
    exact List.find?_cons_of_pos (engineWork_signing h)
  · rw [ht]
    refine List.find?_cons_of_pos ?_
    rw [engineWork_jobs]
    simpa using h
  · rw [ht]
    refine (List.find?_cons_of_neg ?_).trans ((List.find?_cons_of_neg ?_).trans (List.find?_cons_of_pos
      (engineWork_signing hc)))
    · rw [engineWork_jobs, hj]
      exact Bool.false_ne_true
    · rw [engineWork_idle hi ho]
      exact Bool.false_ne_true

end Sys2Proof.Machine

/-! ## Billing: what its shared operations leave (R351 to R387) -/

namespace Sys2Proof.Machine

set_option Elab.async false

/-! ### Causes and the carried data -/

/-- Cause `k` of billing is shown. -/
def BilShows (k : Nat) (s : State) : Prop := bitOf (fieldOf s.regs Fl.BIL_STAT_CAUSE 0) k = true

theorem bilCause_shows (j : Nat) (hj : j < 8) (s : State) : BilShows j (bilCause j s) :=
  bitOf_causeOn _ _ _ _ _ _ (by decide) (by decide) hj (by decide)

theorem BilShows.of_field {k : Nat} {s u : State} (h : BilShows k s)
    (hu : fieldOf u.regs Fl.BIL_STAT_CAUSE 0 = fieldOf s.regs Fl.BIL_STAT_CAUSE 0) : BilShows k u := by
  rwa [BilShows, hu]

theorem BilShows.settled {k : Nat} {s : State} (h : BilShows k s) : bitOf (s.settle.f Fl.BIL_STAT_CAUSE) k = true := by
  rw [State.f_fieldOf, fieldOf_settle _ _ _ (by decide)]
  exact h

theorem fieldOf_bilCause {fl : Fld} (j i : Nat) (s : State) (h : Fl.BIL_STAT_CAUSE.apart fl = true)
    (hp : Fl.EVT_PEND_PEND.apart fl = true) : fieldOf (bilCause j s).regs fl i = fieldOf s.regs fl i :=
  fieldOf_causeOn _ _ _ _ _ _ _ _ h hp

theorem regOf_bilCause {r : Rg} (j i : Nat) (s : State) (h : R.BIL_STAT.apart r = true)
    (hp : R.EVT_PEND.apart r = true) : regOf (bilCause j s).regs r i = regOf s.regs r i :=
  regOf_causeOn _ _ _ _ _ _ _ _ h hp

theorem bilCause_bil (j : Nat) (s : State) : (bilCause j s).bil = s.bil := State.causeOn_bil ..

theorem settle_bil (s : State) : s.settle.bil = s.bil := State.bil_of_without (State.settle_settled s) rfl

/-! ### Tamper records (R376) -/

/-- The first instant of a tamper class written, where it has none. -/
def tamperFirst (cls : Nat) (s : State) : State :=
  s.when (s.f Fl.BIL_TCOUNT_COUNT cls == 0) (fun s => s.setQ R.BIL_TFIRSTL R.BIL_TFIRSTH cls s.now)

theorem tamper_eq (cls : Nat) (s : State) : tamper cls s =
    bilCause 2 (((tamperFirst cls s).satF Fl.BIL_TCOUNT_COUNT cls 1).setQ R.BIL_TLASTL R.BIL_TLASTH cls
      (tamperFirst cls s).now) := rfl

theorem tamperFirst_shows {cls : Nat} (hc : cls < 16) (s : State) :
    fieldOf (tamperFirst cls s).regs Fl.BIL_TCOUNT_COUNT cls = fieldOf s.regs Fl.BIL_TCOUNT_COUNT cls ∧
      (tamperFirst cls s).now = s.now ∧ quantOf (tamperFirst cls s).regs R.BIL_TFIRSTL R.BIL_TFIRSTH cls =
        if s.f Fl.BIL_TCOUNT_COUNT cls = 0 then s.now else s.q R.BIL_TFIRSTL R.BIL_TFIRSTH cls := by
  have hnow : s.now < 2 ^ 64 := Nat.mod_lt _ (Nat.two_pow_pos 64)
  unfold tamperFirst
  by_cases h : s.f Fl.BIL_TCOUNT_COUNT cls = 0
  · rw [h, if_pos rfl]
    refine ⟨fieldOf_setQ_apart _ _ _ _ _ _ _ (by decide) (by decide), ?_, ?_⟩
    · exact congrArg (fun t : TimeState => t.now / 2 ^ 32 % 2 ^ 64) (State.setQ_time ..)
    · exact quantOf_setQ_same s R.BIL_TFIRSTL R.BIL_TFIRSTH cls s.now (lt_of_lt_of_le hc (by decide))
        (lt_of_lt_of_le hc (by decide)) (by decide) hnow
  · rw [if_neg h, beq_eq_false_iff_ne.mpr h]
    exact ⟨rfl, rfl, rfl⟩

theorem tamper_shows {cls : Nat} (hc : cls < 16) (s : State) : let u := tamper cls s
    fieldOf u.regs Fl.BIL_TCOUNT_COUNT cls = min (2 ^ 32 - 1) (s.f Fl.BIL_TCOUNT_COUNT cls + 1) ∧
      quantOf u.regs R.BIL_TLASTL R.BIL_TLASTH cls = s.now ∧ BilShows 2 u ∧ quantOf u.regs R.BIL_TFIRSTL R.BIL_TFIRSTH
        cls =
        if s.f Fl.BIL_TCOUNT_COUNT cls = 0 then s.now else s.q R.BIL_TFIRSTL R.BIL_TFIRSTH cls := by
  have hnow : s.now < 2 ^ 64 := Nat.mod_lt _ (Nat.two_pow_pos 64)
  obtain ⟨h1, h2, h3⟩ := tamperFirst_shows hc s
  have hlt : ∀ r : Rg, 16 ≤ r.count → cls < r.count := fun r hr => lt_of_lt_of_le hc hr
  rw [tamper_eq]
  generalize tamperFirst cls s = w at h1 h2 h3
  have hq : ∀ (lo hi : Rg) (v : State), R.BIL_STAT.apart lo = true → R.EVT_PEND.apart lo = true → R.BIL_STAT.apart hi
    = true →
      R.EVT_PEND.apart hi = true → quantOf (bilCause 2 v).regs lo hi cls = quantOf v.regs lo hi cls := fun lo hi v a b
        c d =>
    quantOf_congr (regOf_bilCause _ _ _ a b) (regOf_bilCause _ _ _ c d)
  refine ⟨?_, ?_, bilCause_shows 2 (by decide) _, ?_⟩
  · rw [fieldOf_bilCause _ _ _ (by decide) (by decide), fieldOf_setQ_apart _ _ _ _ _ _ _ (by decide) (by decide),
      fieldOf_satF_same _ _ _ _ (hlt _ (by decide)) (by decide), State.f_fieldOf, h1]
    rfl
  · rw [hq _ _ _ (by decide) (by decide) (by decide) (by decide), h2]
    exact quantOf_setQ_same _ R.BIL_TLASTL R.BIL_TLASTH cls s.now (hlt _ (by decide)) (hlt _ (by decide)) (by decide)
      hnow
  · rw [hq _ _ _ (by decide) (by decide) (by decide) (by decide),
      quantOf_setQ_apart _ _ _ _ _ _ _ _ (by decide) (by decide) (by decide) (by decide)]
    exact (quantOf_setF_apart _ _ _ _ _ _ _ (by decide) (by decide)).trans h3

theorem seal_opened (s : State) : Answers .sealOpen s (fun u =>
    u.f Fl.BIL_TCOUNT_COUNT 8 = min (2 ^ 32 - 1) (s.f Fl.BIL_TCOUNT_COUNT 8 + 1) ∧
      u.q R.BIL_TLASTL R.BIL_TLASTH 8 = s.now ∧ bitOf (u.f Fl.BIL_STAT_CAUSE) 2 = true ∧ u.q R.BIL_TFIRSTL
        R.BIL_TFIRSTH 8 =
        if s.f Fl.BIL_TCOUNT_COUNT 8 = 0 then s.now else s.q R.BIL_TFIRSTL R.BIL_TFIRSTH 8) := by
  obtain ⟨h1, h2, h3, h4⟩ := tamper_shows (cls := 8) (by decide) s
  refine answers_done rfl ⟨?_, ?_, h3.settled, ?_⟩
  · rw [State.f_fieldOf, fieldOf_settle _ _ _ (by decide), h1]
  · rw [State.q_quantOf, quantOf_settle _ _ _ _ (by decide) (by decide), h2]
  · rw [State.q_quantOf, quantOf_settle _ _ _ _ (by decide) (by decide), h4]

/-! ### Calendar activation and demand settings (R359 to R362) -/

theorem calendar_armed {s : State} (h : s.calendarOk passiveCal = true) :
    Answers .calendarActivate s fun u => u.f Fl.BIL_STAT_ACTPEND = 1 := by
  have he : calendarActivate s = s.setB Fl.BIL_STAT_ACTPEND 0 true := if_pos h
  refine answers_done (congrArg done he) ?_
  rw [State.f_fieldOf, fieldOf_settle _ _ _ (by decide)]
  exact fieldOf_setB_same _ _ _ _ (by decide) (by decide) (by decide)

/-- CALERR with cause 4. -/
def calendarWrong (s : State) : State := bilCause 4 (s.setB Fl.BIL_STAT_CALERR 0 true)

theorem calendarWrong_shows (s : State) : fieldOf (calendarWrong s).regs Fl.BIL_STAT_CALERR 0 = 1 ∧
    BilShows 4 (calendarWrong s) := by
  refine ⟨?_, bilCause_shows 4 (by decide) _⟩
  exact (fieldOf_bilCause _ _ _ (by decide) (by decide)).trans
    (fieldOf_setB_same _ _ _ _ (by decide) (by decide) (by decide))

theorem fieldOf_calendarWrong {fl : Fld} (i : Nat) (s : State) (h : Fl.BIL_STAT_CAUSE.apart fl = true)
    (hp : Fl.EVT_PEND_PEND.apart fl = true) (he : Fl.BIL_STAT_CALERR.apart fl = true) :
    fieldOf (calendarWrong s).regs fl i = fieldOf s.regs fl i :=
  (fieldOf_bilCause _ _ _ h hp).trans (fieldOf_setB_apart _ _ _ _ _ _ he)

/-- A tamper record keeps the causes of billing. -/
theorem BilShows.tampered {k : Nat} (hk : k < 8) {s : State} (h : BilShows k s) (cls : Nat) : BilShows k (tamper cls
  s) := by
  refine bitOf_causeOn_keeps (by decide) (by decide) (by decide) hk (by decide) (h.of_field ?_)
  rw [fieldOf_setQ_apart _ _ _ _ _ _ _ (by decide) (by decide)]
  refine (fieldOf_setF_apart _ _ _ _ _ _ (by decide)).trans ?_
  exact fieldOf_when (fun u => fieldOf_setQ_apart _ _ _ _ _ _ _ (by decide) (by decide)) _ _

theorem fieldOf_tamper_quiet {fl : Fld} (cls i : Nat) (s : State) (h : (R.BIL_TCOUNT.apart fl.reg &&
  R.BIL_TFIRSTL.apart fl.reg &&
    R.BIL_TFIRSTH.apart fl.reg && R.BIL_TLASTL.apart fl.reg && R.BIL_TLASTH.apart fl.reg && Fl.BIL_TCOUNT_COUNT.apart
      fl &&
      Fl.BIL_STAT_CAUSE.apart fl && Fl.EVT_PEND_PEND.apart fl) = true) :
    fieldOf (tamper cls s).regs fl i = fieldOf s.regs fl i := by
  simp only [Bool.and_eq_true] at h
  obtain ⟨⟨⟨⟨⟨⟨⟨_, h2⟩, h3⟩, h4⟩, h5⟩, h6⟩, h7⟩, h8⟩ := h
  refine (fieldOf_bilCause 2 i _ h7 h8).trans ?_
  rw [fieldOf_setQ_apart _ _ _ _ _ _ _ h4 h5]
  refine (fieldOf_setF_apart _ _ _ _ _ _ h6).trans ?_
  exact fieldOf_when (fun u => fieldOf_setQ_apart _ _ _ _ _ _ _ h2 h3) _ _

theorem calendar_refused {s : State} (h : s.calendarOk passiveCal = false) : Answers .calendarActivate s fun u =>
    u.f Fl.BIL_STAT_CALERR = 1 ∧ bitOf (u.f Fl.BIL_STAT_CAUSE) 4 = true ∧
      u.f Fl.BIL_STAT_ACTPEND = s.f Fl.BIL_STAT_ACTPEND := by
  have he : calendarActivate s = tamper 10 (calendarWrong s) := if_neg (by rw [h]; exact Bool.false_ne_true)
  obtain ⟨h1, h2⟩ := calendarWrong_shows s
  refine answers_done (congrArg done he) ⟨?_, (h2.tampered (by decide) 10).settled, ?_⟩
  · rw [State.f_fieldOf, fieldOf_settle _ _ _ (by decide), fieldOf_tamper_quiet _ _ _ (by decide), h1]
  · rw [State.f_fieldOf, fieldOf_settle _ _ _ (by decide), fieldOf_tamper_quiet _ _ _ (by decide),
      fieldOf_calendarWrong _ _ (by decide) (by decide) (by decide)]
    rfl

theorem reset_requested (s : State) :
    Answers .demandResetRequest s (fun u => u.bil.work = { s.bil.work with rst := true }) := by
  refine answers_done rfl ?_
  rw [settle_bil]
  rfl

theorem demlen_taken {code : Nat} (h : code ≤ 4) (s : State) : Answers (.demlenWrite code) s fun u =>
    u.f Fl.BIL_CTL_DEMLEN = code ∧ u.f Fl.BIL_STAT_DLENPEND = if code = s.bil.work.demlen then 0 else 1 := by
  have he : demlenWrite code s =
      (s.setF Fl.BIL_CTL_DEMLEN 0 code).setB Fl.BIL_STAT_DLENPEND 0 (code != s.bil.work.demlen) := if_neg (by omega)
  have hc : code < 2 ^ Fl.BIL_CTL_DEMLEN.width := lt_of_lt_of_le (Nat.lt_succ_of_le h) (by decide)
  refine answers_done (congrArg done he) ⟨?_, ?_⟩
  · rw [State.f_fieldOf, fieldOf_settle _ _ _ (by decide), fieldOf_setB_apart _ _ _ _ _ _ (by decide)]
    exact fieldOf_setF_fits s Fl.BIL_CTL_DEMLEN 0 code (by decide) (by decide) hc
  · rw [State.f_fieldOf, fieldOf_settle _ _ _ (by decide),
      fieldOf_setB_same _ _ _ _ (by decide) (by decide) (by decide)]
    by_cases hd : code = s.bil.work.demlen
    · rw [if_pos hd, hd, bne_self_eq_false]
      rfl
    · rw [if_neg hd, bne_iff_ne.mpr hd]
      rfl

theorem demlen_refused {code : Nat} (h : 4 < code) (s : State) : Answers (.demlenWrite code) s fun u =>
    u.f Fl.BIL_STAT_CALERR = 1 ∧ bitOf (u.f Fl.BIL_STAT_CAUSE) 4 = true ∧
      u.f Fl.BIL_CTL_DEMLEN = s.f Fl.BIL_CTL_DEMLEN := by
  have he : demlenWrite code s = calendarWrong s := if_pos h
  obtain ⟨h1, h2⟩ := calendarWrong_shows s
  refine answers_done (congrArg done he) ⟨?_, h2.settled, ?_⟩
  · rw [State.f_fieldOf, fieldOf_settle _ _ _ (by decide), h1]
  · rw [State.f_fieldOf, fieldOf_settle _ _ _ (by decide),
      fieldOf_calendarWrong _ _ (by decide) (by decide) (by decide)]
    rfl

/-! ### Enabling (R352) -/

theorem nextMultiple_spec {len : Nat} (hlen : 0 < len) (c : Int) : (len : Int) ∣ nextMultiple len c ∧ c < nextMultiple
  len c ∧
    ∀ q : Int, (len : Int) ∣ q → c < q → nextMultiple len c ≤ q := by
  have hpos : (0 : Int) < len := by exact_mod_cast hlen
  have he : nextMultiple len c = (c / len + 1) * len := by
    rw [nextMultiple, Int.fdiv_eq_ediv_of_nonneg _ hpos.le]
  rw [he]
  refine ⟨Dvd.intro_left _ rfl, Int.lt_ediv_add_one_mul_self c hpos, ?_⟩
  rintro _ ⟨k, rfl⟩ hq
  have hk : c / len < k := Int.ediv_lt_of_lt_mul hpos (by rwa [mul_comm] at hq)
  calc (c / len + 1) * len ≤ k * len := Int.mul_le_mul_of_nonneg_right (by omega) hpos.le
    _ = len * k := mul_comm ..

theorem demMinutes_pos (code : Nat) : 0 < demMinutes code := by
  have hall : ∀ e ∈ [5, 10, 15, 30, 60], 0 < e := by decide
  unfold demMinutes
  rw [List.getD_eq_getElem?_getD]
  cases h : [5, 10, 15, 30, 60][code]? with
  | none => decide
  | some e => exact hall e (List.mem_of_getElem? h)

/-- Calendar instants at which an interval of billing ends. -/
def EndsInterval (s : State) (q : Int) : Prop :=
  (900000000000 : Int) ∣ q ∨ ((demMinutes s.bil.work.demlen * 60000000000 : Nat) : Int) ∣ q

theorem nextQ_spec (s : State) (c : Int) : EndsInterval s (s.nextQ c) ∧ c < s.nextQ c ∧
    ∀ q, EndsInterval s q → c < q → s.nextQ c ≤ q := by
  obtain ⟨p1, p2, p3⟩ := nextMultiple_spec (show 0 < profileNs by decide) c
  obtain ⟨d1, d2, d3⟩ := nextMultiple_spec
    (show 0 < demMinutes s.bil.work.demlen * minuteNs from Nat.mul_pos (demMinutes_pos _) (by decide)) c
  unfold State.nextQ
  refine ⟨?_, lt_min p2 d2, fun q hq hc => hq.elim (fun h => (min_le_left _ _).trans (p3 q h hc))
    fun h => (min_le_right _ _).trans (d3 q h hc)⟩
  rcases min_choice (nextMultiple profileNs c) (nextMultiple (demMinutes s.bil.work.demlen * minuteNs) c) with h | h
  · rw [h]; exact .inl p1
  · rw [h]; exact .inr d1

/-- A billing enabled with the present K. -/
def billingEnabled (s : State) : State := (s.setB Fl.BIL_CTL_EN 0 true).setQi R.BIL_KOFFL R.BIL_KOFFH 0 s.koff

theorem billingEnabled_shows {s : State} (h1 : -2 ^ 63 ≤ s.time.koff) (h2 : s.time.koff < 2 ^ 63) :
    fieldOf (billingEnabled s).regs Fl.BIL_CTL_EN 0 = 1 ∧ (billingEnabled s).bilK = s.koff ∧
      (billingEnabled s).bil = s.bil ∧ (billingEnabled s).now = s.now := by
  have hk : unsignedOf 64 s.koff < 2 ^ 64 := unsignedOf_lt 64 _
  refine ⟨?_, ?_, (State.setQ_bil ..).trans (State.setF_bil ..), ?_⟩
  · exact (fieldOf_setQ_apart _ _ _ _ _ _ _ (by decide) (by decide)).trans
      (fieldOf_setB_same s Fl.BIL_CTL_EN 0 true (by decide) (by decide) (by decide))
  · have hq := quantOf_setQ_same (s.setB Fl.BIL_CTL_EN 0 true) R.BIL_KOFFL R.BIL_KOFFH 0 _ (by decide) (by decide) (by
      decide) hk
    exact (congrArg (signedOf 64) hq).trans (signedOf_unsignedOf (by decide) h1 h2)
  · exact congrArg (fun t : TimeState => t.now / 2 ^ 32 % 2 ^ 64) ((State.setQ_time ..).trans (State.setF_time ..))

/-- The calendar instant after which the next boundary lies. -/
def scheduleFrom (s : State) : Int :=
  match s.bil.work.lastQ with
  | none => (s.now : Int) + s.bilK
  | some q => max ((s.now : Int) + s.bilK) q

theorem schedule_eq {s : State} (h : s.b Fl.BIL_CTL_EN = true) : ∃ b l, schedule s =
    { (s.setQ R.BIL_NEXTL R.BIL_NEXTH 0 b).work (fun w => { w with nextQ := s.nextQ (scheduleFrom s) }) with
      mtr.latchList := l } := by
  unfold schedule
  rw [h]
  exact ⟨_, _, rfl⟩

theorem billing_stays {s : State} (h : s.f Fl.BIL_CTL_EN = 1) :
    Answers .billingEnable s fun u => u.without settledPart = s.without settledPart :=
  keeps_settle (congrArg done (if_pos (b_true h)))

theorem billing_enabled {s : State} (h : s.f Fl.BIL_CTL_EN = 0) (h1 : -2 ^ 63 ≤ s.time.koff) (h2 : s.time.koff < 2 ^
  63) :
    Answers .billingEnable s fun u => u.f Fl.BIL_CTL_EN = 1 ∧ u.qi R.BIL_KOFFL R.BIL_KOFFH = s.time.koff ∧
      (s.bil.work.lastQ = none → EndsInterval s u.bil.work.nextQ ∧ s.calendar < u.bil.work.nextQ ∧
        ∀ q, EndsInterval s q → s.calendar < q → u.bil.work.nextQ ≤ q) := by
  have hb : s.b Fl.BIL_CTL_EN = false := b_false h
  obtain ⟨e1, e2, e3, e4⟩ := billingEnabled_shows h1 h2
  have he : billingEnable s = schedule (billingEnabled s) := if_neg (by rw [hb]; exact Bool.false_ne_true)
  generalize billingEnabled s = w at he e1 e2 e3 e4
  obtain ⟨b, l, hs⟩ := schedule_eq (s := w) (b_true e1)
  refine answers_done (congrArg done (he.trans hs)) ⟨?_, ?_, fun hl => ?_⟩
  · rw [State.f_fieldOf, fieldOf_settle _ _ _ (by decide)]
    exact (fieldOf_setQ_apart w _ _ _ _ _ _ (by decide) (by decide)).trans e1
  · have hq : quantOf (w.setQ R.BIL_NEXTL R.BIL_NEXTH 0 b).regs R.BIL_KOFFL R.BIL_KOFFH 0 =
        quantOf w.regs R.BIL_KOFFL R.BIL_KOFFH 0 :=
      quantOf_setQ_apart _ _ _ _ _ _ _ _ (by decide) (by decide) (by decide) (by decide)
    rw [State.qi, State.q_quantOf, quantOf_settle _ _ _ _ (by decide) (by decide)]
    exact (congrArg (signedOf 64) hq).trans e2
  · have hc : scheduleFrom w = s.calendar := by
      rw [scheduleFrom, e3, hl, e2, e4]
      rfl
    have hn : w.nextQ (scheduleFrom w) = s.nextQ s.calendar := by
      rw [hc, State.nextQ, State.nextQ, e3]
    rw [settle_bil]
    change EndsInterval s (w.nextQ (scheduleFrom w)) ∧ _ < w.nextQ (scheduleFrom w) ∧ ∀ q,
      _ → _ → w.nextQ (scheduleFrom w) ≤ q
    rw [hn]
    exact nextQ_spec s s.calendar

end Sys2Proof.Machine

/-! ## Billing: the close of a demand interval and of a profile interval (R360 to R375) -/

namespace Sys2Proof.Machine

set_option Elab.async false

/-- What the profile intervals carry: the waiting boundaries, the staged groups,
  the open interval's start and totals. -/
def profilePart (s : State) : (List BilSlot × List ArchiveGroup) × (Option Nat × List (Nat × Nat)) :=
  ((s.bil.slots, s.bil.staged), (s.bil.work.pS, s.bil.work.pT))

/-- What the demand intervals carry: the open interval's start and totals. -/
def demandPart (s : State) : Option Nat × List Nat := (s.bil.work.dS, s.bil.work.dT)

theorem profilePart_of_bil {s u : State} (h : u.bil = s.bil) : profilePart u = profilePart s := by
  unfold profilePart
  rw [h]

theorem demandPart_of_bil {s u : State} (h : u.bil = s.bil) : demandPart u = demandPart s := by
  unfold demandPart
  rw [h]

theorem profilePart_work {f : BilWork → BilWork} (h : ∀ w, (f w).pS = w.pS ∧ (f w).pT = w.pT) (s : State) :
    profilePart (s.work f) = profilePart s := by
  have hw : (s.work f).bil = { s.bil with work := f s.bil.work } := rfl
  unfold profilePart
  rw [hw]
  dsimp only
  rw [(h _).1, (h _).2]

theorem demandPart_work {f : BilWork → BilWork} (h : ∀ w, (f w).dS = w.dS ∧ (f w).dT = w.dT) (s : State) :
    demandPart (s.work f) = demandPart s := by
  have hw : (s.work f).bil = { s.bil with work := f s.bil.work } := rfl
  unfold demandPart
  rw [hw]
  dsimp only
  rw [(h _).1, (h _).2]

theorem work_regs (s : State) (f : BilWork → BilWork) : (s.work f).regs = s.regs := rfl

/-! ### Step 1: the demand interval (R361, R362) -/

/-- A demand `d` of meter `m` shown, and kept as the maximum `k` where it is above it. -/
def demandKept (m k d label : Nat) (s : State) : State :=
  if (s.setF Fl.BIL_DLAST_D m d).f Fl.BIL_DMAX0_D k < d then
    ((s.setF Fl.BIL_DLAST_D m d).setF Fl.BIL_DMAX0_D k d).setF Fl.BIL_DMAX1_LABEL k label
  else s.setF Fl.BIL_DLAST_D m d

/-- A meter's demand of the closing interval, for the tariff `w.dTar`. -/
def demandMember (x : BilSlot) (w : BilWork) (m : Nat) (s : State) : State :=
  demandKept m (8 * m + w.dTar) (s.demandOf x m) w.dL s

def demandClosed (x : BilSlot) (w : BilWork) (s : State) : State :=
  if !(x.d && w.dS.isSome) then s else
  let s := s.each 25 (demandMember x w)
  s.work fun w => { w with pD := (List.range 25).map fun m => max (w.pD.getD m 0) (s.demandOf x m) }

def demandMaxima (k : Nat) (s : State) : State :=
  s.setReg R.BIL_DPREV0 k (s.reg R.BIL_DMAX0 k) |>.setReg R.BIL_DPREV1 k (s.reg R.BIL_DMAX1 k)
    |>.setReg R.BIL_DMAX0 k 0 |>.setReg R.BIL_DMAX1 k 0

def demandReset (x : BilSlot) (due : Bool) (s : State) : State :=
  if !due then s else (s.each 200 demandMaxima).work fun v =>
    { v with rst := false, pFl := if x.p || v.pS.isNone then v.pFl else v.pFl ||| 256 }

/-- DEMLEN taken into use at a whole hour. -/
def demlenTaken (x : BilSlot) (s : State) : State :=
  if s.b Fl.BIL_STAT_DLENPEND && labelOf x.q % 60 = 0 then
    (s.setB Fl.BIL_STAT_DLENPEND 0 false).work fun w => { w with demlen := s.f Fl.BIL_CTL_DEMLEN }
  else s

def demandOpened (x : BilSlot) (w : BilWork) (s : State) : State :=
  if !(x.d || w.dS.isNone) then s else
  (demlenTaken x s).work fun w => { w with
    dS := some x.opens, dL := intervalLabel (demMinutes w.demlen) x.q, dT := x.toto.map (·.1) }

theorem boundaryStep1_eq (x : BilSlot) (due : Bool) (s : State) : boundaryStep1 x due s =
    demandOpened x s.bil.work (demandReset x due (demandClosed x s.bil.work (s.addF Fl.BIL_ISEQ_ISEQ 0 1))) :=
  rfl

theorem demandKept_bil (m k d label : Nat) (s : State) : (demandKept m k d label s).bil = s.bil := by
  unfold demandKept
  split
  · rw [State.setF_bil, State.setF_bil, State.setF_bil]
  · rw [State.setF_bil]

theorem demandMember_bil (x : BilSlot) (w : BilWork) (m : Nat) (s : State) : (demandMember x w m s).bil = s.bil := by
  unfold demandMember
  rw [demandKept_bil]

theorem demandMembers_bil (x : BilSlot) (w : BilWork) (s : State) (n : Nat) : (s.each n (demandMember x w)).bil =
  s.bil :=
  State.each_induct (f := demandMember x w) (P := fun u => u.bil = s.bil)
    (fun j u hu => (demandMember_bil x w j u).trans hu) rfl n

theorem demandClosed_parts (x : BilSlot) (w : BilWork) (s : State) :
    profilePart (demandClosed x w s) = profilePart s ∧ demandPart (demandClosed x w s) = demandPart s := by
  unfold demandClosed
  split
  · exact ⟨rfl, rfl⟩
  · have hb := demandMembers_bil x w s 25
    dsimp only
    rw [profilePart_work, demandPart_work]
    · exact ⟨profilePart_of_bil hb, demandPart_of_bil hb⟩
    · exact fun _ => ⟨rfl, rfl⟩
    · exact fun _ => ⟨rfl, rfl⟩

theorem demandMaxima_bil (k : Nat) (s : State) : (demandMaxima k s).bil = s.bil := by
  unfold demandMaxima
  rw [State.setReg_bil, State.setReg_bil, State.setReg_bil, State.setReg_bil]

theorem demandReset_parts (x : BilSlot) (due : Bool) (s : State) :
    profilePart (demandReset x due s) = profilePart s ∧ demandPart (demandReset x due s) = demandPart s := by
  unfold demandReset
  split
  · exact ⟨rfl, rfl⟩
  · have hb : (s.each 200 demandMaxima).bil = s.bil :=
      State.each_induct (f := demandMaxima) (P := fun u => u.bil = s.bil) (fun k u hu => (demandMaxima_bil k u).trans
        hu) rfl 200
    rw [profilePart_work, demandPart_work]
    · exact ⟨profilePart_of_bil hb, demandPart_of_bil hb⟩
    · exact fun _ => ⟨rfl, rfl⟩
    · exact fun _ => ⟨rfl, rfl⟩

theorem demlenTaken_profile (x : BilSlot) (s : State) : profilePart (demlenTaken x s) = profilePart s := by
  unfold demlenTaken
  split
  · rw [profilePart_work]
    · exact profilePart_of_bil (State.setF_bil ..)
    · exact fun _ => ⟨rfl, rfl⟩
  · rfl

theorem demandOpened_profile (x : BilSlot) (w : BilWork) (s : State) : profilePart (demandOpened x w s) = profilePart
  s := by
  unfold demandOpened
  split
  · rfl
  · exact (show profilePart _ = profilePart (demlenTaken x s) from rfl).trans (demlenTaken_profile x s)

theorem demandOpened_demand {x : BilSlot} (hd : x.d = true) (w : BilWork) (s : State) :
    demandPart (demandOpened x w s) = (some x.opens, x.toto.map (·.1)) := by
  unfold demandOpened
  rw [hd]
  rfl

theorem step1_profile (x : BilSlot) (due : Bool) (s : State) : profilePart (boundaryStep1 x due s) = profilePart s := by
  rw [boundaryStep1_eq, demandOpened_profile, (demandReset_parts ..).1, (demandClosed_parts ..).1]
  exact profilePart_of_bil (State.setF_bil ..)

theorem step1_demand {x : BilSlot} (hd : x.d = true) (due : Bool) (s : State) :
    demandPart (boundaryStep1 x due s) = (some x.opens, x.toto.map (·.1)) := by
  rw [boundaryStep1_eq, demandOpened_demand hd]

/-! #### What step 1 shows -/

theorem demandKept_stands (m k d label : Nat) (s : State) :
    FieldsStand [Fl.BIL_DLAST_D, Fl.BIL_DMAX0_D, Fl.BIL_DMAX1_LABEL] s (demandKept m k d label s) := by
  intro fl i h
  have h1 : Fl.BIL_DLAST_D.apart fl = true := apart_of_mem h (by simp)
  have h2 : Fl.BIL_DMAX0_D.apart fl = true := apart_of_mem h (by simp)
  have h3 : Fl.BIL_DMAX1_LABEL.apart fl = true := apart_of_mem h (by simp)
  unfold demandKept
  split
  · rw [fieldOf_setF_apart _ _ _ _ _ _ h3, fieldOf_setF_apart _ _ _ _ _ _ h2, fieldOf_setF_apart _ _ _ _ _ _ h1]
  · rw [fieldOf_setF_apart _ _ _ _ _ _ h1]

theorem demandMember_stands (x : BilSlot) (w : BilWork) (m : Nat) (s : State) :
    FieldsStand [Fl.BIL_DLAST_D, Fl.BIL_DMAX0_D, Fl.BIL_DMAX1_LABEL] s (demandMember x w m s) := by
  unfold demandMember
  exact demandKept_stands _ _ _ _ s

theorem demandClosed_stands (x : BilSlot) (w : BilWork) (s : State) :
    FieldsStand [Fl.BIL_DLAST_D, Fl.BIL_DMAX0_D, Fl.BIL_DMAX1_LABEL] s (demandClosed x w s) := by
  unfold demandClosed
  split
  · exact .refl _ s
  · have hs : FieldsStand [Fl.BIL_DLAST_D, Fl.BIL_DMAX0_D, Fl.BIL_DMAX1_LABEL] s (s.each 25 (demandMember x w)) :=
      State.each_induct (f := demandMember x w) (P := fun u => FieldsStand [Fl.BIL_DLAST_D, Fl.BIL_DMAX0_D,
        Fl.BIL_DMAX1_LABEL] s u)
        (fun j u hu => hu.trans (demandMember_stands x w j u)) (.refl _ s) 25
    exact hs.trans (.of_regs (work_regs _ _))

theorem demandMaxima_stands {fl : Fld} (k i : Nat) (s : State)
    (h : (R.BIL_DPREV0.apart fl.reg && R.BIL_DPREV1.apart fl.reg && R.BIL_DMAX0.apart fl.reg && R.BIL_DMAX1.apart
      fl.reg) = true) :
    fieldOf (demandMaxima k s).regs fl i = fieldOf s.regs fl i := by
  simp only [Bool.and_eq_true] at h
  obtain ⟨⟨⟨h1, h2⟩, h3⟩, h4⟩ := h
  unfold demandMaxima
  rw [fieldOf_setReg_apart _ _ _ _ _ _ h4, fieldOf_setReg_apart _ _ _ _ _ _ h3, fieldOf_setReg_apart _ _ _ _ _ _ h2,
    fieldOf_setReg_apart _ _ _ _ _ _ h1]

theorem demandReset_stands (x : BilSlot) (due : Bool) (s : State) {fl : Fld} (i : Nat)
    (h : (R.BIL_DPREV0.apart fl.reg && R.BIL_DPREV1.apart fl.reg && R.BIL_DMAX0.apart fl.reg && R.BIL_DMAX1.apart
      fl.reg) = true) :
    fieldOf (demandReset x due s).regs fl i = fieldOf s.regs fl i := by
  unfold demandReset
  split
  · rfl
  · rw [work_regs]
    exact State.each_induct (f := demandMaxima) (P := fun u => fieldOf u.regs fl i = fieldOf s.regs fl i) (fun j u hu =>
      (demandMaxima_stands j i u h).trans hu) rfl 200

theorem demandOpened_stands (x : BilSlot) (w : BilWork) (s : State) {fl : Fld} (i : Nat)
    (h : Fl.BIL_STAT_DLENPEND.apart fl = true) : fieldOf (demandOpened x w s).regs fl i = fieldOf s.regs fl i := by
  unfold demandOpened
  split
  · rfl
  · change fieldOf (demlenTaken x s).regs fl i = _
    unfold demlenTaken
    split
    · exact fieldOf_setB_apart s _ _ _ _ _ h
    · rfl

theorem demandOf_congr {s u : State} (h : u.bil.work = s.bil.work) (x : BilSlot) (m : Nat) : u.demandOf x m =
  s.demandOf x m := by
  rw [State.demandOf, State.demandOf, h]

theorem demandKept_shows {m k d : Nat} (hm : m < 25) (label : Nat) (s : State) :
    fieldOf (demandKept m k d label s).regs Fl.BIL_DLAST_D m = d % 2 ^ 32 ∧ (d < 2 ^ 32 → k < 200 →
      fieldOf (demandKept m k d label s).regs Fl.BIL_DMAX0_D k = max d (fieldOf s.regs Fl.BIL_DMAX0_D k)) := by
  have h1 : fieldOf (s.setF Fl.BIL_DLAST_D m d).regs Fl.BIL_DLAST_D m = d % 2 ^ 32 :=
    State.f_setF_same s Fl.BIL_DLAST_D m d (lt_of_lt_of_le hm (by decide)) (by decide)
  have h2 : (s.setF Fl.BIL_DLAST_D m d).f Fl.BIL_DMAX0_D k = fieldOf s.regs Fl.BIL_DMAX0_D k :=
    fieldOf_setF_apart s _ _ _ _ _ (by decide)
  unfold demandKept
  generalize s.setF Fl.BIL_DLAST_D m d = u at h1 h2
  rw [h2]
  split
  next hlt =>
    refine ⟨?_, fun hd hk => ?_⟩
    · rw [fieldOf_setF_apart _ _ _ _ _ _ (by decide), fieldOf_setF_apart _ _ _ _ _ _ (by decide), h1]
    · rw [fieldOf_setF_apart _ _ _ _ _ _ (by decide), max_eq_left hlt.le]
      exact fieldOf_setF_fits u Fl.BIL_DMAX0_D k d (lt_of_lt_of_le hk (by decide)) (by decide) hd
  next hge => exact ⟨h1, fun _ _ => h2.trans (max_eq_right (not_lt.mp hge)).symm⟩

theorem demandKept_other {j m k k' : Nat} (h : j ≠ m) (hk : k' ≠ k) (d label : Nat) (s : State) :
    fieldOf (demandKept j k' d label s).regs Fl.BIL_DLAST_D m = fieldOf s.regs Fl.BIL_DLAST_D m ∧
      fieldOf (demandKept j k' d label s).regs Fl.BIL_DMAX0_D k = fieldOf s.regs Fl.BIL_DMAX0_D k := by
  have h1 : fieldOf (s.setF Fl.BIL_DLAST_D j d).regs Fl.BIL_DLAST_D m = fieldOf s.regs Fl.BIL_DLAST_D m :=
    fieldOf_setF_member s _ _ h
  have h2 : fieldOf (s.setF Fl.BIL_DLAST_D j d).regs Fl.BIL_DMAX0_D k = fieldOf s.regs Fl.BIL_DMAX0_D k :=
    fieldOf_setF_apart s _ _ _ _ _ (by decide)
  unfold demandKept
  split
  · refine ⟨?_, ?_⟩
    · rw [fieldOf_setF_apart _ _ _ _ _ _ (by decide), fieldOf_setF_apart _ _ _ _ _ _ (by decide), h1]
    · rw [fieldOf_setF_apart _ _ _ _ _ _ (by decide), fieldOf_setF_member _ _ _ hk, h2]
  · exact ⟨h1, h2⟩

theorem demandMember_shows {m : Nat} (hm : m < 25) (x : BilSlot) (w : BilWork) (s : State) :
    fieldOf (demandMember x w m s).regs Fl.BIL_DLAST_D m = s.demandOf x m % 2 ^ 32 ∧ (s.demandOf x m < 2 ^ 32 → w.dTar
      < 8 →
      fieldOf (demandMember x w m s).regs Fl.BIL_DMAX0_D (8 * m + w.dTar) =
        max (s.demandOf x m) (fieldOf s.regs Fl.BIL_DMAX0_D (8 * m + w.dTar))) := by
  unfold demandMember
  generalize s.demandOf x m = d
  obtain ⟨h1, h2⟩ := demandKept_shows (k := 8 * m + w.dTar) (d := d) hm w.dL s
  exact ⟨h1, fun hd ht => h2 hd (by omega)⟩

theorem demandMember_other {j m : Nat} (h : j ≠ m) (x : BilSlot) (w : BilWork) (s : State) :
    fieldOf (demandMember x w j s).regs Fl.BIL_DLAST_D m = fieldOf s.regs Fl.BIL_DLAST_D m ∧
      fieldOf (demandMember x w j s).regs Fl.BIL_DMAX0_D (8 * m + w.dTar) =
        fieldOf s.regs Fl.BIL_DMAX0_D (8 * m + w.dTar) := by
  unfold demandMember
  exact demandKept_other h (by omega) _ _ s

theorem demandClosed_shows {m : Nat} (hm : m < 25) {x : BilSlot} (hx : x.d = true) {w : BilWork} (hw : w.dS.isSome =
  true) (s : State) :
    fieldOf (demandClosed x w s).regs Fl.BIL_DLAST_D m = s.demandOf x m % 2 ^ 32 ∧
      (s.demandOf x m < 2 ^ 32 → w.dTar < 8 → fieldOf (demandClosed x w s).regs Fl.BIL_DMAX0_D (8 * m + w.dTar) =
        max (s.demandOf x m) (fieldOf s.regs Fl.BIL_DMAX0_D (8 * m + w.dTar))) := by
  generalize hd : s.demandOf x m = d
  have hreg : (demandClosed x w s).regs = (s.each 25 (demandMember x w)).regs := by
    unfold demandClosed
    rw [if_neg (by rw [hx, hw]; exact Bool.false_ne_true)]
    exact work_regs _ _
  rw [hreg]
  refine State.each_once (f := demandMember x w)
    (R := fun u => u.bil = s.bil ∧ fieldOf u.regs Fl.BIL_DMAX0_D (8 * m + w.dTar) = fieldOf s.regs Fl.BIL_DMAX0_D (8 *
      m + w.dTar))
    (Q := fun u => fieldOf u.regs Fl.BIL_DLAST_D m = d % 2 ^ 32 ∧ (d < 2 ^ 32 → w.dTar < 8 →
      fieldOf u.regs Fl.BIL_DMAX0_D (8 * m + w.dTar) = max d (fieldOf s.regs Fl.BIL_DMAX0_D (8 * m + w.dTar)))) hm
    (fun j u hj hu => ⟨(demandMember_bil x w j u).trans hu.1, (demandMember_other hj x w u).2.trans hu.2⟩)
    (fun j u hj hu => ?_) (fun u hu => ?_) ⟨rfl, rfl⟩
  · obtain ⟨o1, o2⟩ := demandMember_other hj x w u
    rw [o1, o2]
    exact hu
  · obtain ⟨s1, s2⟩ := demandMember_shows hm x w u
    rw [demandOf_congr (congrArg BilState.work hu.1) x m, hd] at s1 s2
    rw [hu.2] at s2
    exact ⟨s1, s2⟩

/-- Step 1 counts ISEQ, keeps the tariff, and shows the demand of a closing interval with the maximum of its tariff. -/
theorem step1_shows (x : BilSlot) (due : Bool) (s : State) :
    fieldOf (boundaryStep1 x due s).regs Fl.BIL_ISEQ_ISEQ 0 = (s.f Fl.BIL_ISEQ_ISEQ + 1) % 2 ^ 32 ∧
    fieldOf (boundaryStep1 x due s).regs Fl.BIL_STAT_TARIFF 0 = s.f Fl.BIL_STAT_TARIFF ∧
    (x.d = true → s.bil.work.dS.isSome = true → ∀ m, m < 25 →
      fieldOf (boundaryStep1 x due s).regs Fl.BIL_DLAST_D m = s.demandOf x m % 2 ^ 32 ∧
      (due = false → s.demandOf x m < 2 ^ 32 → s.bil.work.dTar < 8 →
        fieldOf (boundaryStep1 x due s).regs Fl.BIL_DMAX0_D (8 * m + s.bil.work.dTar) =
          max (s.demandOf x m) (s.f Fl.BIL_DMAX0_D (8 * m + s.bil.work.dTar)))) := by
  have hiseq : fieldOf (s.addF Fl.BIL_ISEQ_ISEQ 0 1).regs Fl.BIL_ISEQ_ISEQ 0 = (s.f Fl.BIL_ISEQ_ISEQ + 1) % 2 ^ 32 :=
    fieldOf_addF_same _ _ _ _ (by decide) (by decide)
  have htar : fieldOf (s.addF Fl.BIL_ISEQ_ISEQ 0 1).regs Fl.BIL_STAT_TARIFF 0 = s.f Fl.BIL_STAT_TARIFF :=
    fieldOf_addF_apart s _ _ _ _ _ (by decide)
  have hmax : ∀ k, fieldOf (s.addF Fl.BIL_ISEQ_ISEQ 0 1).regs Fl.BIL_DMAX0_D k = s.f Fl.BIL_DMAX0_D k := fun k =>
    fieldOf_addF_apart s _ _ _ _ _ (by decide)
  have hdem : ∀ m, (s.addF Fl.BIL_ISEQ_ISEQ 0 1).demandOf x m = s.demandOf x m := fun m =>
    demandOf_congr (congrArg BilState.work (State.addF_bil s Fl.BIL_ISEQ_ISEQ 0 1)) x m
  rw [boundaryStep1_eq]
  generalize s.addF Fl.BIL_ISEQ_ISEQ 0 1 = u at hiseq htar hmax hdem
  refine ⟨?_, ?_, fun hx hw m hm => ?_⟩
  · rw [demandOpened_stands _ _ _ _ (by decide), demandReset_stands _ _ _ _ (by decide),
      demandClosed_stands _ _ _ _ _ (by decide), hiseq]
  · rw [demandOpened_stands _ _ _ _ (by decide), demandReset_stands _ _ _ _ (by decide),
      demandClosed_stands _ _ _ _ _ (by decide), htar]
  · obtain ⟨c1, c2⟩ := demandClosed_shows hm hx hw u
    rw [hdem, hmax] at c2
    rw [hdem] at c1
    refine ⟨?_, fun hdue hd ht => ?_⟩
    · rw [demandOpened_stands _ _ _ _ (by decide), demandReset_stands _ _ _ _ (by decide), c1]
    · have hr : demandReset x due (demandClosed x s.bil.work u) = demandClosed x s.bil.work u := by
        rw [hdue]
        exact if_pos rfl
      rw [demandOpened_stands _ _ _ _ (by decide), hr]
      exact c2 hd ht

end Sys2Proof.Machine

/-! ## Billing: a boundary processed (R360 to R383) -/

namespace Sys2Proof.Machine

set_option Elab.async false

/-- Everything but the state of billing. -/
def butBil : Part := { besideMemory with bil := false, mem := true, pending := true }

/-- What the intervals carry is as it was. -/
structure IntervalsStand (s u : State) : Prop where
  profile : profilePart u = profilePart s
  demand : demandPart u = demandPart s

theorem IntervalsStand.refl (s : State) : IntervalsStand s s := ⟨rfl, rfl⟩

theorem IntervalsStand.trans {s t u : State} (h : IntervalsStand s t) (h' : IntervalsStand t u) : IntervalsStand s u :=
  ⟨h'.profile.trans h.profile, h'.demand.trans h.demand⟩

theorem IntervalsStand.of_bil {s u : State} (h : u.bil = s.bil) : IntervalsStand s u :=
  ⟨profilePart_of_bil h, demandPart_of_bil h⟩

theorem IntervalsStand.of_without {s u : State} (h : u.without butBil = s.without butBil) : IntervalsStand s u :=
  .of_bil (State.bil_of_without h rfl)

theorem IntervalsStand.work {f : BilWork → BilWork}
    (h : ∀ w, ((f w).pS = w.pS ∧ (f w).pT = w.pT) ∧ (f w).dS = w.dS ∧ (f w).dT = w.dT) (s : State) :
    IntervalsStand s (s.work f) :=
  ⟨profilePart_work (fun w => (h w).1) s, demandPart_work (fun w => (h w).2) s⟩

theorem IntervalsStand.when {f : State → State} (h : ∀ s, IntervalsStand s (f s)) (s : State) (c : Bool) :
    IntervalsStand s (s.when c f) :=
  State.when_cases (P := IntervalsStand s) (fun _ => .refl s) fun _ => h s

theorem IntervalsStand.each {f : Nat → State → State} (h : ∀ j s, (f j s).bil = s.bil) (s : State) (n : Nat) :
    IntervalsStand s (s.each n f) :=
  .of_bil (State.each_induct (f := f) (P := fun u => u.bil = s.bil) (fun j u hu => (h j u).trans hu) rfl n)

/-! ### Step 2: the profile interval (R360) -/

theorem meterFlag_intervals (m bits : Nat) (s : State) : IntervalsStand s (meterFlag m bits s) := ⟨rfl, rfl⟩

theorem tamper_intervals (cls : Nat) (s : State) : IntervalsStand s (tamper cls s) :=
  .of_without (tamper_writes rfl rfl rfl rfl rfl rfl rfl cls s)

theorem mtrCause_intervals (j : Nat) (s : State) : IntervalsStand s (mtrCause j s) :=
  .of_without (mtrCause_writes rfl rfl j s)

theorem setGin_intervals (s : State) (ex : Bool) (f : GridInput → GridInput) : IntervalsStand s (s.setGin ex f) := by
  cases ex <;> exact ⟨rfl, rfl⟩

theorem setGin_regs' (s : State) (ex : Bool) (f : GridInput → GridInput) : (s.setGin ex f).regs = s.regs := by
  cases ex <;> rfl

/-- A disagreement of the pulse inputs with the own measurement recorded. -/
def gridDisagrees (s : State) : State := tamper 7 (mtrCause 6 (meterFlag 24 2048 s))

theorem gridInterval_parts (s : State) : IntervalsStand s (gridInterval s) ∧
    fieldOf (gridInterval s).regs Fl.BIL_STAT_TARIFF 0 = fieldOf s.regs Fl.BIL_STAT_TARIFF 0 := by
  have hd : ∀ t : State, IntervalsStand t (gridDisagrees t) ∧
      fieldOf (gridDisagrees t).regs Fl.BIL_STAT_TARIFF 0 = fieldOf t.regs Fl.BIL_STAT_TARIFF 0 := fun t =>
    ⟨((meterFlag_intervals 24 2048 t).trans (mtrCause_intervals 6 _)).trans (tamper_intervals 7 _),
      (fieldOf_tamper_quiet 7 0 _ (by decide)).trans (fieldOf_mtrCause 6 0 _ (by decide) (by decide))⟩
  unfold gridInterval
  extract_lets off w z
  have hw : IntervalsStand s w ∧ fieldOf w.regs Fl.BIL_STAT_TARIFF 0 = fieldOf s.regs Fl.BIL_STAT_TARIFF 0 :=
    State.when_cases (f := gridDisagrees)
      (P := fun u => IntervalsStand s u ∧ fieldOf u.regs Fl.BIL_STAT_TARIFF 0 = fieldOf s.regs Fl.BIL_STAT_TARIFF 0)
      (fun _ => ⟨.refl s, rfl⟩) fun _ => hd s
  clear_value w
  refine ⟨(hw.1.trans (setGin_intervals w false z)).trans (setGin_intervals _ true z), ?_⟩
  rw [setGin_regs', setGin_regs', hw.2]

theorem gridInterval_regs (s : State) : (gridInterval s).without (onlyRegs alertRegs) = s.without (onlyRegs alertRegs)
  :=
  gridInterval_writes (by decide) (by decide) (by decide) (by decide) (by decide) (by decide) (by decide) (by decide)
    rfl rfl s

/-- The interval of the grid inputs closed, and the module returned since the last boundary taken. -/
def gridClosed (x : BilSlot) (w : BilWork) (s : State) : State := s.when (x.p && w.pS.isSome) gridInterval

def closingTaken (x : BilSlot) (s : State) : State := if x.p then { s with rng.closing := none } else s

/-- What opens the interval: the grid inputs' interval closed. -/
def profileClosed (x : BilSlot) (w : BilWork) (s : State) : State := closingTaken x (gridClosed x w s)

theorem closingTaken_parts (x : BilSlot) (s : State) : (closingTaken x s).bil = s.bil ∧ (closingTaken x s).regs =
  s.regs := by
  unfold closingTaken
  split <;> exact ⟨rfl, rfl⟩

theorem profileClosed_parts (x : BilSlot) (w : BilWork) (s : State) : IntervalsStand s (profileClosed x w s) ∧
    fieldOf (profileClosed x w s).regs Fl.BIL_STAT_TARIFF 0 = fieldOf s.regs Fl.BIL_STAT_TARIFF 0 := by
  obtain ⟨hb, hr⟩ := closingTaken_parts x (gridClosed x w s)
  have hg : IntervalsStand s (gridClosed x w s) ∧
      fieldOf (gridClosed x w s).regs Fl.BIL_STAT_TARIFF 0 = fieldOf s.regs Fl.BIL_STAT_TARIFF 0 :=
    State.when_cases (f := gridInterval)
      (P := fun u => IntervalsStand s u ∧ fieldOf u.regs Fl.BIL_STAT_TARIFF 0 = fieldOf s.regs Fl.BIL_STAT_TARIFF 0)
      (fun _ => ⟨.refl s, rfl⟩) fun _ => gridInterval_parts s
  unfold profileClosed
  exact ⟨hg.1.trans (.of_bil hb), by rw [hr, hg.2]⟩

theorem profileClosed_reg (x : BilSlot) (w : BilWork) (s : State) {r : Rg} (i : Nat)
    (h : (!regsIn alertRegs r.addr && decide (r.count ≤ 65536)) = true) :
    regOf (profileClosed x w s).regs r i = regOf s.regs r i := by
  unfold profileClosed
  rw [(closingTaken_parts x _).2]
  exact State.when_cases (f := gridInterval) (P := fun u => regOf u.regs r i = regOf s.regs r i) (fun _ => rfl)
    fun _ => regOf_onlyRegs (gridInterval_regs s) i h

/-- The energy of meter `m` added to tariff `r`. -/
def tariffMember (x : BilSlot) (w : BilWork) (r m : Nat) (s : State) : State :=
  let t := x.tot.getD m (0, 0)
  let t0 := w.pT.getD m (0, 0)
  let k := 8 * m + r
  s.setQ R.BIL_TDELL R.BIL_TDELH k ((s.q R.BIL_TDELL R.BIL_TDELH k + (t.1 - t0.1)) % 2 ^ 64)
    |>.setQ R.BIL_TRECL R.BIL_TRECH k ((s.q R.BIL_TRECL R.BIL_TRECH k + (t.2 - t0.2)) % 2 ^ 64)

def tariffAdded (x : BilSlot) (w : BilWork) (r : Nat) (s : State) : State :=
  if !(x.p && w.pS.isSome) then s else s.each 25 (tariffMember x w r)

theorem tariffMember_bil (x : BilSlot) (w : BilWork) (r m : Nat) (s : State) : (tariffMember x w r m s).bil = s.bil :=
  (State.setQ_bil ..).trans (State.setQ_bil ..)

theorem tariffAdded_intervals (x : BilSlot) (w : BilWork) (r : Nat) (s : State) : IntervalsStand s (tariffAdded x w r
  s) := by
  unfold tariffAdded
  split
  · exact .refl s
  · exact .each (tariffMember_bil x w r) s 25

theorem tariffMember_reg (x : BilSlot) (w : BilWork) (r m : Nat) (s : State) {q : Rg} (i : Nat) (h1 :
  R.BIL_TDELL.apart q = true)
    (h2 : R.BIL_TDELH.apart q = true) (h3 : R.BIL_TRECL.apart q = true) (h4 : R.BIL_TRECH.apart q = true) :
    regOf (tariffMember x w r m s).regs q i = regOf s.regs q i :=
  (regOf_setQ_apart _ _ _ _ _ _ _ h3 h4).trans (regOf_setQ_apart _ _ _ _ _ _ _ h1 h2)

theorem tariffAdded_reg (x : BilSlot) (w : BilWork) (r : Nat) (s : State) {q : Rg} (i : Nat) (h1 : R.BIL_TDELL.apart q
  = true)
    (h2 : R.BIL_TDELH.apart q = true) (h3 : R.BIL_TRECL.apart q = true) (h4 : R.BIL_TRECH.apart q = true) :
    regOf (tariffAdded x w r s).regs q i = regOf s.regs q i := by
  unfold tariffAdded
  split
  · rfl
  · exact State.each_induct (f := tariffMember x w r) (P := fun u => regOf u.regs q i = regOf s.regs q i)
      (fun j u hu => (tariffMember_reg x w r j u i h1 h2 h3 h4).trans hu) rfl 25

/-- The energy delivered by meter `m` in all its tariffs. -/
def tdel (s : State) (k : Nat) : Nat := quantOf s.regs R.BIL_TDELL R.BIL_TDELH k

theorem tariffMember_own {m r : Nat} (hm : m < 25) (hr : r < 8) (x : BilSlot) (w : BilWork) (s : State) :
    tdel (tariffMember x w r m s) (8 * m + r) =
      (tdel s (8 * m + r) + ((x.tot.getD m (0, 0)).1 - (w.pT.getD m (0, 0)).1)) % 2 ^ 64 := by
  have hk : 8 * m + r < 200 := by omega
  unfold tariffMember tdel
  dsimp only
  rw [quantOf_setQ_apart _ _ _ _ _ _ _ _ (by decide) (by decide) (by decide) (by decide)]
  exact quantOf_setQ_same s R.BIL_TDELL R.BIL_TDELH _ _ (lt_of_lt_of_le hk (by decide)) (lt_of_lt_of_le hk (by decide))
    (by decide) (Nat.mod_lt _ (Nat.two_pow_pos 64))

theorem tariffMember_other {j r k : Nat} (h : 8 * j + r ≠ k) (x : BilSlot) (w : BilWork) (s : State) :
    tdel (tariffMember x w r j s) k = tdel s k := by
  unfold tariffMember tdel
  dsimp only
  rw [quantOf_setQ_apart _ _ _ _ _ _ _ _ (by decide) (by decide) (by decide) (by decide),
    quantOf_setQ_member _ _ _ _ h (by decide) (by decide)]

theorem tariffs_own {m r : Nat} (hm : m < 25) (hr : r < 8) (x : BilSlot) (w : BilWork) (s : State) :
    tdel (s.each 25 (tariffMember x w r)) (8 * m + r) =
      (tdel s (8 * m + r) + ((x.tot.getD m (0, 0)).1 - (w.pT.getD m (0, 0)).1)) % 2 ^ 64 :=
  State.each_once (f := tariffMember x w r) (R := fun u => tdel u (8 * m + r) = tdel s (8 * m + r))
    (Q := fun u => tdel u (8 * m + r) = (tdel s (8 * m + r) + ((x.tot.getD m (0, 0)).1 - (w.pT.getD m (0,
      0)).1)) % 2 ^ 64) hm
    (fun _ u hj hu => (tariffMember_other (by omega) x w u).trans hu)
    (fun _ u hj hu => (tariffMember_other (by omega) x w u).trans hu)
    (fun u hu => (tariffMember_own hm hr x w u).trans (by rw [hu])) rfl

theorem tariffs_other {m r r' : Nat} (hr : r < 8) (hr' : r' < 8) (h : r ≠ r') (x : BilSlot) (w : BilWork) (s : State) :
    tdel (s.each 25 (tariffMember x w r')) (8 * m + r) = tdel s (8 * m + r) :=
  State.each_induct (f := tariffMember x w r') (P := fun u => tdel u (8 * m + r) = tdel s (8 * m + r))
    (fun _ u hu => (tariffMember_other (by omega) x w u).trans hu) rfl 25

theorem tariffAdded_shows {m r r' : Nat} (hm : m < 25) (hr : r < 8) (hr' : r' < 8) (x : BilSlot) (w : BilWork) (s :
  State) :
    tdel (tariffAdded x w r' s) (8 * m + r) = if x.p = true ∧ w.pS.isSome = true ∧ r = r' then
      (tdel s (8 * m + r) + ((x.tot.getD m (0, 0)).1 - (w.pT.getD m (0, 0)).1)) % 2 ^ 64 else tdel s (8 * m + r) := by
  unfold tariffAdded
  by_cases hc : (x.p && w.pS.isSome) = true
  · obtain ⟨hp, hs⟩ := Bool.and_eq_true_iff.mp hc
    rw [if_neg (by rw [hc]; exact Bool.false_ne_true)]
    by_cases h : r = r'
    · subst h
      rw [if_pos ⟨hp, hs, rfl⟩]
      exact tariffs_own hm hr x w s
    · rw [if_neg fun hn => h hn.2.2]
      exact tariffs_other hr hr' h x w s
  · rw [if_pos (by rw [Bool.not_eq_true']; exact Bool.eq_false_iff.mpr hc),
      if_neg fun hn => hc (Bool.and_eq_true_iff.mpr ⟨hn.1, hn.2.1⟩)]

/-- The spans of a fold kept: the new one taken up, the old ones dropped. -/
def spansKept (x : BilSlot) (s : State) : State :=
  expireSpans (labelOf x.q) (match x.span with | none => s | some p => addSpan p s)

theorem spansKept_writes {P : Part} (h0 : P.regs R.BIL_SPAN0.addr = true) (h1 : P.regs R.BIL_SPAN1.addr = true) (x :
  BilSlot)
    (s : State) : (spansKept x s).without P = s.without P := by
  unfold spansKept
  rw [expireSpans_writes h0 h1]
  split
  · rfl
  · exact addSpan_writes h0 h1 _ _

/-- The records of a closing profile interval. -/
def closeRecords (x : BilSlot) (w : BilWork) (s : State) : List (Nat × List Byte) :=
  match w.pS with
  | some start => if !x.p then [] else
      ((List.range 25).map fun m => (m, s.profileOf x start m)) ++
      (match s.guestModule with
        | none => []
        | some g =>
          ((List.range 24).filter fun h => s.b Fl.PRT_GCFG_EN (40 + h)).map fun h => (h, s.guestProfile g x start h))
  | none => []

theorem closeRecords_cons {x : BilSlot} {w : BilWork} (hp : x.p = true) (hs : w.pS.isSome = true) (s : State) :
    (closeRecords x w s).isEmpty = false := by
  obtain ⟨v, hv⟩ := Option.isSome_iff_exists.mp hs
  unfold closeRecords
  rw [hv, hp]
  rfl

def basedMember (x : BilSlot) (m : Nat) (s : State) : State :=
  let t := x.toto.getD m (0, 0)
  s.setQ R.BIL_EBASE0L R.BIL_EBASE0H m t.1 |>.setQ R.BIL_EBASE1L R.BIL_EBASE1H m t.2

/-- EBASE taken with the first interval. -/
def baseTaken (x : BilSlot) (w : BilWork) (s : State) : State :=
  if w.based then s else (s.each 25 (basedMember x)).work fun w => { w with based := true }

/-- The next profile interval's data. -/
def profileBegun (x : BilSlot) (due : Bool) (recs : List (Nat × List Byte)) (s : State) : State :=
  let label := intervalLabel 15 x.q
  let s := s.setF Fl.BIL_STAT_FOLD 0 (s.foldOf label)
  let s := { s with bil.flags := (List.range 25).foldl (fun l m => cellsPut (0 : Nat) l m (s.openFlags m)) []
                    bil.archLoss := s.bil.archLoss && recs.isEmpty }
  s.work fun w => { w with
    pS := some x.opens, pL := label, pT := x.toto, pSec := x.sec, pD := List.replicate 25 0
    pFl := x.xf ||| (if due then 256 else 0) ||| (if x.p then 0 else 1) }

/-- The next profile interval opened, at a profile boundary or where none is open. -/
def profileOpened (x : BilSlot) (due : Bool) (w : BilWork) (recs : List (Nat × List Byte)) (s : State) : State :=
  if !(x.p || w.pS.isNone) then s else profileBegun x due recs (baseTaken x w s)

theorem boundaryStep2_eq (x : BilSlot) (due : Bool) (s : State) : boundaryStep2 x due s =
    (profileOpened x due s.bil.work (closeRecords x s.bil.work (gridClosed x s.bil.work s))
      (spansKept x (tariffAdded x s.bil.work ((profileClosed x s.bil.work s).f Fl.BIL_STAT_TARIFF)
        (profileClosed x s.bil.work s))), closeRecords x s.bil.work (gridClosed x s.bil.work s)) := by
  unfold boundaryStep2 profileOpened
  extract_lets w s0 recs s1 r s2
  split <;> rfl

end Sys2Proof.Machine

/-! ## Billing: the steps of a boundary together (R359 to R383) -/

namespace Sys2Proof.Machine

set_option Elab.async false

/-! ### The next profile interval (R360) -/

theorem basedMember_bil (x : BilSlot) (m : Nat) (s : State) : (basedMember x m s).bil = s.bil :=
  (State.setQ_bil ..).trans (State.setQ_bil ..)

theorem baseTaken_intervals (x : BilSlot) (w : BilWork) (s : State) : IntervalsStand s (baseTaken x w s) := by
  unfold baseTaken
  split
  · exact .refl s
  · refine (IntervalsStand.each (basedMember_bil x) s 25).trans ?_
    exact .work (by exact fun _ => ⟨⟨rfl, rfl⟩, rfl, rfl⟩) _

/-- The registers that opening a profile interval writes. -/
def openRegs : List Rg := [R.BIL_SPAN0, R.BIL_SPAN1, R.BIL_EBASE0L, R.BIL_EBASE0H, R.BIL_EBASE1L, R.BIL_EBASE1H,
  R.BIL_STAT]

theorem baseTaken_regs (x : BilSlot) (w : BilWork) (s : State) :
    (baseTaken x w s).without (onlyRegs openRegs) = s.without (onlyRegs openRegs) := by
  unfold baseTaken
  split
  · rfl
  · refine (State.without_upd_bil rfl _ _).trans (State.without_each (fun m u => ?_) s 25)
    exact (State.w_setQ (by decide) (by decide) (by decide) (by decide) _ _ _).trans
      (State.w_setQ (by decide) (by decide) (by decide) (by decide) _ _ _)

theorem work_bil (s : State) (f : BilWork → BilWork) : (s.work f).bil = { s.bil with work := f s.bil.work } := rfl

theorem profileBegun_parts (x : BilSlot) (due : Bool) (recs : List (Nat × List Byte)) (s : State) :
    (profileBegun x due recs s).bil.slots = s.bil.slots ∧ (profileBegun x due recs s).bil.staged = s.bil.staged ∧
      (profileBegun x due recs s).bil.work.pS = some x.opens ∧ (profileBegun x due recs s).bil.work.pT = x.toto ∧
        demandPart (profileBegun x due recs s) = demandPart s ∧
          (profileBegun x due recs s).without (onlyRegs openRegs) = s.without (onlyRegs openRegs) := by
  have hb : (s.setF Fl.BIL_STAT_FOLD 0 (s.foldOf (intervalLabel 15 x.q))).bil = s.bil := State.setF_bil ..
  have hw : (s.setF Fl.BIL_STAT_FOLD 0 (s.foldOf (intervalLabel 15 x.q))).without (onlyRegs openRegs) =
      s.without (onlyRegs openRegs) := State.w_setF (by decide) (by decide) s 0 _
  unfold profileBegun
  dsimp only
  generalize s.setF Fl.BIL_STAT_FOLD 0 (s.foldOf (intervalLabel 15 x.q)) = u at hb hw
  refine ⟨show u.bil.slots = s.bil.slots by rw [hb], show u.bil.staged = s.bil.staged by rw [hb], rfl, rfl, ?_, ?_⟩
  · rw [demandPart_work]
    · unfold demandPart
      dsimp only
      rw [hb]
    · exact fun _ => ⟨rfl, rfl⟩
  · exact ((State.without_upd_bil rfl _ _).trans (State.without_upd_bil rfl u _)).trans hw

/-- Step 2 leaves the waiting boundaries, the staged groups and the demand interval,
  and opens the next profile interval. -/
theorem profileOpened_parts (x : BilSlot) (due : Bool) (w : BilWork) (recs : List (Nat × List Byte)) (s : State) :
    (profileOpened x due w recs s).bil.slots = s.bil.slots ∧ (profileOpened x due w recs s).bil.staged = s.bil.staged ∧
      demandPart (profileOpened x due w recs s) = demandPart s ∧
      (x.p = true → (profileOpened x due w recs s).bil.work.pS = some x.opens ∧
        (profileOpened x due w recs s).bil.work.pT = x.toto) ∧
      (profileOpened x due w recs s).without (onlyRegs openRegs) = s.without (onlyRegs openRegs) := by
  have hbase := baseTaken_intervals x w s
  have hslots : (baseTaken x w s).bil.slots = s.bil.slots := congrArg (·.1.1) hbase.profile
  have hstaged : (baseTaken x w s).bil.staged = s.bil.staged := congrArg (·.1.2) hbase.profile
  have hregs := baseTaken_regs x w s
  obtain ⟨p1, p2, p3, p4, p5, p6⟩ := profileBegun_parts x due recs (baseTaken x w s)
  unfold profileOpened
  split
  next h =>
    refine ⟨rfl, rfl, rfl, fun hp => ?_, rfl⟩
    rw [hp] at h
    exact absurd h Bool.false_ne_true
  next => exact ⟨p1.trans hslots, p2.trans hstaged, p5.trans hbase.demand, fun _ => ⟨p3, p4⟩, p6.trans hregs⟩

/-- What step 2 leaves and opens. -/
structure ProfileStep (x : BilSlot) (s u : State) (recs : List (Nat × List Byte)) : Prop where
  slots : u.bil.slots = s.bil.slots
  staged : u.bil.staged = s.bil.staged
  demand : demandPart u = demandPart s
  opened : x.p = true → u.bil.work.pS = some x.opens ∧ u.bil.work.pT = x.toto
  records : x.p = true → s.bil.work.pS.isSome = true → recs.isEmpty = false
  regs : ∀ (r : Rg) i, (!regsIn alertRegs r.addr && !regsIn openRegs r.addr && decide (r.count ≤ 65536)) = true →
    (R.BIL_TDELL.apart r && R.BIL_TDELH.apart r && R.BIL_TRECL.apart r && R.BIL_TRECH.apart r) = true →
      regOf u.regs r i = regOf s.regs r i
  tariff : ∀ m r, m < 25 → r < 8 → tdel u (8 * m + r) =
    if x.p = true ∧ s.bil.work.pS.isSome = true ∧ r = s.f Fl.BIL_STAT_TARIFF then
      (tdel s (8 * m + r) + ((x.tot.getD m (0, 0)).1 - (s.bil.work.pT.getD m (0, 0)).1)) % 2 ^ 64
    else tdel s (8 * m + r)

theorem step2_shows (x : BilSlot) (due : Bool) (s : State) :
    ProfileStep x s (boundaryStep2 x due s).1 (boundaryStep2 x due s).2 := by
  obtain ⟨hc, ht⟩ := profileClosed_parts x s.bil.work s
  have hcr : ∀ {r : Rg} i, (!regsIn alertRegs r.addr && decide (r.count ≤ 65536)) = true →
      regOf (profileClosed x s.bil.work s).regs r i = regOf s.regs r i := profileClosed_reg x s.bil.work s
  have hrec : x.p = true → s.bil.work.pS.isSome = true →
      (closeRecords x s.bil.work (gridClosed x s.bil.work s)).isEmpty = false := fun hp hs => closeRecords_cons hp hs _
  have htar : (profileClosed x s.bil.work s).f Fl.BIL_STAT_TARIFF = s.f Fl.BIL_STAT_TARIFF := f_of_field ht
  rw [boundaryStep2_eq, htar]
  generalize closeRecords x s.bil.work (gridClosed x s.bil.work s) = recs at hrec
  generalize profileClosed x s.bil.work s = a at hc hcr
  have hr8 : s.f Fl.BIL_STAT_TARIFF < 8 := State.f_lt s Fl.BIL_STAT_TARIFF 0
  have hadd := tariffAdded_intervals x s.bil.work (s.f Fl.BIL_STAT_TARIFF) a
  have hsp : IntervalsStand _ (spansKept x (tariffAdded x s.bil.work (s.f Fl.BIL_STAT_TARIFF) a)) :=
    .of_without (spansKept_writes rfl rfl x _)
  have hspr := spansKept_writes (P := onlyRegs openRegs) (by decide) (by decide) x
    (tariffAdded x s.bil.work (s.f Fl.BIL_STAT_TARIFF) a)
  have htr : ∀ {q : Rg} i, R.BIL_TDELL.apart q = true → R.BIL_TDELH.apart q = true → R.BIL_TRECL.apart q = true →
      R.BIL_TRECH.apart q = true → regOf (tariffAdded x s.bil.work (s.f Fl.BIL_STAT_TARIFF) a).regs q i = regOf a.regs
        q i :=
    fun i => tariffAdded_reg x s.bil.work _ a i
  have hts : ∀ m r, m < 25 → r < 8 → _ := fun m r hm hr => tariffAdded_shows hm hr hr8 x s.bil.work a
  generalize tariffAdded x s.bil.work (s.f Fl.BIL_STAT_TARIFF) a = b at hadd hsp hspr htr hts
  have hall := (hc.trans hadd).trans hsp
  obtain ⟨o1, o2, o3, o4, o5⟩ := profileOpened_parts x due s.bil.work recs (spansKept x b)
  refine ⟨o1.trans (congrArg (·.1.1) hall.profile), o2.trans (congrArg (·.1.2) hall.profile), o3.trans hall.demand,
    o4, hrec,
    fun r i h hq => ?_, fun m r hm hr => ?_⟩
  · simp only [Bool.and_eq_true] at h hq
    obtain ⟨⟨h1, h2⟩, h3⟩ := h
    obtain ⟨⟨⟨q1, q2⟩, q3⟩, q4⟩ := hq
    have ho : (!regsIn openRegs r.addr && decide (r.count ≤ 65536)) = true := by rw [h2, h3]; rfl
    have ha : (!regsIn alertRegs r.addr && decide (r.count ≤ 65536)) = true := by rw [h1, h3]; rfl
    rw [regOf_onlyRegs o5 i ho, regOf_onlyRegs hspr i ho, htr i q1 q2 q3 q4, hcr i ha]
  · have hq : ∀ {t v : State}, t.without (onlyRegs openRegs) = v.without (onlyRegs openRegs) →
        tdel t (8 * m + r) = tdel v (8 * m + r) := fun h =>
      quantOf_congr (regOf_onlyRegs h _ (by decide)) (regOf_onlyRegs h _ (by decide))
    have ha : tdel a (8 * m + r) = tdel s (8 * m + r) := quantOf_congr (hcr _ (by decide)) (hcr _ (by decide))
    rw [hq o5, hq hspr, hts m r hm hr, ha]

/-! ### Step 3: the calendar (R359) -/

theorem setF_intervals (s : State) (fl : Fld) (i v : Nat) : IntervalsStand s (s.setF fl i v) := .of_bil
  (State.setF_bil ..)

theorem bilCause_intervals (j : Nat) (s : State) : IntervalsStand s (bilCause j s) := .of_bil (bilCause_bil j s)

theorem copyCalendar_intervals (s : State) : IntervalsStand s (copyCalendar s) :=
  .of_without (copyCalendar_writes rfl rfl rfl rfl rfl rfl s)

theorem optional_tariff_intervals (s : State) (t : Option Nat) :
    IntervalsStand s (match t with | none => s | some t => s.setF Fl.BIL_STAT_TARIFF 0 t) := by
  cases t with
  | none => exact .refl s
  | some t => exact setF_intervals s _ _ _

theorem activateCalendar_intervals (q : Int) (s : State) : IntervalsStand s (activateCalendar q s) := by
  unfold activateCalendar
  extract_lets s0 c t s1
  refine ((setF_intervals s Fl.BIL_STAT_ACTPEND 0 0).trans ?_).trans ((bilCause_intervals 4 s1).trans
    (tamper_intervals 10 _))
  change IntervalsStand s0 s1
  unfold s1
  split
  · refine ((copyCalendar_intervals s0).trans (optional_tariff_intervals c (c.tariffAt activeCal q))).trans ?_
    exact .work (by exact fun _ => ⟨⟨rfl, rfl⟩, rfl, rfl⟩) t
  · exact setF_intervals s0 _ _ _

theorem step3_intervals (x : BilSlot) (first firstD : Bool) (s : State) : IntervalsStand s (boundaryStep3 x first
  firstD s) := by
  unfold boundaryStep3
  extract_lets l t s1 s2 s3
  have h1 : IntervalsStand s s1 := optional_tariff_intervals s t
  have h2 : IntervalsStand s1 s2 := by
    unfold s2
    exact .work (by exact fun _ => ⟨⟨rfl, rfl⟩, rfl, rfl⟩) s1
  have h3 : IntervalsStand s s3 := by
    unfold s3
    split
    · exact .refl s
    · split
      · exact (h1.trans h2).trans (activateCalendar_intervals x.q s2)
      · exact h1.trans h2
  split
  · refine h3.trans ?_
    exact .work (by exact fun _ => ⟨⟨rfl, rfl⟩, rfl, rfl⟩) s3
  · exact h3

/-! ### Step 4: the group, the root and the journal (R377 to R383) -/

theorem when_bil {f : State → State} (h : ∀ s, (f s).bil = s.bil) (s : State) (c : Bool) : (s.when c f).bil = s.bil :=
  State.when_cases (P := fun u => u.bil = s.bil) (fun _ => rfl) fun _ => h s

theorem stageGroup_staged (close : Nat) {recs : List (Nat × List Byte)} {s : State} (hr : recs.isEmpty = false)
    (h : s.bil.staged.length < 192) : (stageGroup close recs s).bil.staged.length = s.bil.staged.length + 1 := by
  unfold stageGroup
  rw [if_neg (by rw [hr]; exact Bool.false_ne_true), if_neg (by omega)]
  exact List.length_append

/-- Apart from the staged groups, what a group staged leaves. -/
theorem stageGroup_parts (close : Nat) (recs : List (Nat × List Byte)) (s : State) :
    (stageGroup close recs s).bil.slots = s.bil.slots ∧ (stageGroup close recs s).bil.work = s.bil.work := by
  unfold stageGroup
  split
  · exact ⟨rfl, rfl⟩
  · split
    · have hb : ∀ u : State, (tamper 13 (bilCause 6 u)).bil = u.bil := fun u =>
        (State.bil_of_without (A := butBil) (tamper_writes rfl rfl rfl rfl rfl rfl rfl 13 _) rfl).trans (bilCause_bil
          6 u)
      have hs : (s.satF Fl.BIL_ARCH_LOST 0 1).bil = s.bil := State.satF_bil ..
      rw [hb]
      dsimp only
      rw [hs]
      exact ⟨rfl, rfl⟩
    · have hs : ∀ n, (s.setF Fl.BIL_ARCH_BACKLOG 0 n).bil = s.bil := fun n => State.setF_bil ..
      dsimp only
      rw [hs]
      exact ⟨rfl, rfl⟩

/-- The records of time and of tampering that join the group of a boundary. -/
def boundaryExtra (s : State) : List (Nat × List Byte) :=
  s.bil.work.grp.map fun e => (e.2.1, recordBytes (s.f Fl.BIL_ISEQ_ISEQ) e.1 e.2.1 e.2.2.1 0 e.2.2.2)

/-- A root requested, after a key has taken over. -/
def rootAsked (x : BilSlot) (label iseq : Nat) (s : State) : State :=
  rootRequest iseq label x.b (keyTakeover 1 (keyTakeover 0 s))

/-- The interruption records of the group sent to be signed, and a root requested at a profile boundary. -/
def boundarySigned (x : BilSlot) (label iseq : Nat) (extra : List (Nat × List Byte)) (s : State) : State :=
  (s.eachOf (extra.filter fun e => e.2.getD 4 0 == 2) fun e s => queueSign { kind := 3, key := 0, payload := e.2 }
    s).when x.p
    (rootAsked x label iseq)

/-- An adjusted K taken at a profile boundary. -/
def adjustedTaken (x : BilSlot) (kadj : Option Int) (s : State) : State :=
  match kadj with
  | some k => if x.p then
      (s.setQi R.BIL_KOFFL R.BIL_KOFFH 0 k).work fun w => { w with kadj := none }
    else s
  | none => s

/-- A boundary noted as the last one. -/
def boundaryNoted (x : BilSlot) (s : State) : State := s.work fun w => { w with grp := [], lastQ := some x.q }

theorem boundaryStep4_eq (x : BilSlot) (label : Nat) (recs : List (Nat × List Byte)) (s : State) :
    boundaryStep4 x label recs s = (commitJournal (adjustedTaken x s.bil.work.kadj (boundaryNoted x
      (boundarySigned x label (s.f Fl.BIL_ISEQ_ISEQ) (boundaryExtra s)
        (stageGroup x.b (recs ++ boundaryExtra s) s))))).when x.p (bilCause 0) := rfl

theorem queueSign_bil (r : SignReq) (s : State) : (queueSign r s).bil = s.bil := rfl

theorem boundarySigned_bil (x : BilSlot) (label iseq : Nat) (extra : List (Nat × List Byte)) (s : State) :
    (boundarySigned x label iseq extra s).bil = s.bil := by
  have hroot : ∀ u : State, (rootAsked x label iseq u).bil = u.bil := fun u =>
    (State.bil_of_without (A := butBil) (rootRequest_writes rfl _ _ _ _) rfl).trans
      ((State.bil_of_without (A := butBil) (keyTakeover_writes rfl rfl rfl rfl rfl rfl rfl rfl rfl rfl rfl rfl rfl rfl
        rfl 1 _) rfl).trans
        (State.bil_of_without (A := butBil) (keyTakeover_writes rfl rfl rfl rfl rfl rfl rfl rfl rfl rfl rfl rfl rfl
          rfl rfl 0 u) rfl))
  have heach : ∀ l : List (Nat × List Byte),
    (s.eachOf l fun e s => queueSign { kind := 3, key := 0, payload := e.2 } s).bil = s.bil :=
    fun l => State.bil_of_without (A := butBil) (State.without_eachOf (fun e u => queueSign_writes rfl _ u) s l) rfl
  exact (when_bil hroot _ x.p).trans (heach _)

/-- What the end of a boundary leaves of the carried data: those of the intervals,
  the records gone and the boundary noted. -/
structure BoundaryEnd (x : BilSlot) (s u : State) : Prop where
  stand : IntervalsStand s u
  records : u.bil.work.grp = []
  last : u.bil.work.lastQ = some x.q

theorem boundaryNoted_end (x : BilSlot) (s : State) : BoundaryEnd x s (boundaryNoted x s) := by
  refine ⟨?_, rfl, rfl⟩
  exact .work (by exact fun _ => ⟨⟨rfl, rfl⟩, rfl, rfl⟩) s

theorem BoundaryEnd.carried {x : BilSlot} {s u v : State} (h : BoundaryEnd x s u) (hs : v.bil.slots = u.bil.slots)
    (ht : v.bil.staged = u.bil.staged) (hw : v.bil.work = u.bil.work) : BoundaryEnd x s v := by
  refine ⟨h.stand.trans ⟨?_, ?_⟩, hw ▸ h.records, hw ▸ h.last⟩
  · rw [profilePart, profilePart, hs, ht, hw]
  · rw [demandPart, demandPart, hw]

theorem adjustedTaken_end {x : BilSlot} {s u : State} (h : BoundaryEnd x s u) (kadj : Option Int) :
    BoundaryEnd x s (adjustedTaken x kadj u) := by
  cases kadj with
  | none => exact h
  | some k =>
    have hb : (u.setQi R.BIL_KOFFL R.BIL_KOFFH 0 k).bil = u.bil := State.setQ_bil ..
    unfold adjustedTaken
    dsimp only
    split
    · refine ⟨h.stand.trans ((IntervalsStand.of_bil hb).trans ?_), ?_, ?_⟩
      · exact .work (by exact fun _ => ⟨⟨rfl, rfl⟩, rfl, rfl⟩) _
      · rw [work_bil, hb]
        exact h.records
      · rw [work_bil, hb]
        exact h.last
    · exact h

theorem commitJournal_carried (s : State) : (commitJournal s).bil.slots = s.bil.slots ∧
    (commitJournal s).bil.staged = s.bil.staged ∧ (commitJournal s).bil.work = s.bil.work := by
  unfold commitJournal
  split <;> exact ⟨rfl, rfl, rfl⟩

/-- Step 4 after the group is staged. -/
theorem step4_end (x : BilSlot) (label : Nat) (recs : List (Nat × List Byte)) (s : State) :
    BoundaryEnd x (stageGroup x.b (recs ++ boundaryExtra s) s) (boundaryStep4 x label recs s) := by
  rw [boundaryStep4_eq]
  generalize stageGroup x.b (recs ++ boundaryExtra s) s = a
  have hb := boundarySigned_bil x label (s.f Fl.BIL_ISEQ_ISEQ) (boundaryExtra s) a
  generalize boundarySigned x label (s.f Fl.BIL_ISEQ_ISEQ) (boundaryExtra s) a = b at hb
  have h0 := boundaryNoted_end x b
  have h1 : BoundaryEnd x a (boundaryNoted x b) := ⟨(IntervalsStand.of_bil hb).trans h0.stand, h0.records, h0.last⟩
  have h2 := adjustedTaken_end h1 s.bil.work.kadj
  generalize adjustedTaken x s.bil.work.kadj (boundaryNoted x b) = c at h2
  obtain ⟨j1, j2, j3⟩ := commitJournal_carried c
  have h3 := h2.carried j1 j2 j3
  have hw := when_bil (bilCause_bil 0) (commitJournal c) x.p
  exact h3.carried (congrArg BilState.slots hw) (congrArg BilState.staged hw) (congrArg BilState.work hw)

theorem step4_cause {x : BilSlot} (hp : x.p = true) (label : Nat) (recs : List (Nat × List Byte)) (s : State) :
    BilShows 0 (boundaryStep4 x label recs s) := by
  rw [boundaryStep4_eq, hp, State.when_true]
  exact bilCause_shows 0 (by decide) _

theorem step4_staged {x : BilSlot} {recs : List (Nat × List Byte)} (hr : recs.isEmpty = false) {s : State}
    (h : s.bil.staged.length < 192) (label : Nat) :
    (boundaryStep4 x label recs s).bil.staged.length = s.bil.staged.length + 1 := by
  have he := (step4_end x label recs s).stand.profile
  have ha : (recs ++ boundaryExtra s).isEmpty = false := by
    cases recs with
    | nil => exact absurd hr (by decide)
    | cons => rfl
  exact (congrArg (·.1.2.length) he).trans (stageGroup_staged x.b ha h)

/-- The carried data but for the staged groups. -/
def keptPart (s : State) : List BilSlot × (Option Nat × List (Nat × Nat)) × (Option Nat × List Nat) :=
  (s.bil.slots, (s.bil.work.pS, s.bil.work.pT), demandPart s)

theorem IntervalsStand.kept {s u : State} (h : IntervalsStand s u) : keptPart u = keptPart s := by
  have hs : u.bil.slots = s.bil.slots := congrArg (·.1.1) h.profile
  have hp : (u.bil.work.pS, u.bil.work.pT) = (s.bil.work.pS, s.bil.work.pT) := congrArg (·.2) h.profile
  rw [keptPart, keptPart, hs, hp, h.demand]

theorem step4_kept (x : BilSlot) (label : Nat) (recs : List (Nat × List Byte)) (s : State) :
    keptPart (boundaryStep4 x label recs s) = keptPart s := by
  obtain ⟨g1, g2⟩ := stageGroup_parts x.b (recs ++ boundaryExtra s) s
  rw [(step4_end x label recs s).stand.kept, keptPart, keptPart, demandPart, demandPart, g1, g2]

/-! ### The next boundary -/

theorem schedule_parts (s : State) : ∃ w : BilWork, (schedule s).bil = { s.bil with work := w } ∧
    w.pS = s.bil.work.pS ∧ w.pT = s.bil.work.pT ∧ w.dS = s.bil.work.dS ∧ w.dT = s.bil.work.dT ∧
      w.grp = s.bil.work.grp ∧ w.lastQ = s.bil.work.lastQ := by
  by_cases h : s.b Fl.BIL_CTL_EN = true
  · obtain ⟨b, l, he⟩ := schedule_eq h
    have hb : (s.setQ R.BIL_NEXTL R.BIL_NEXTH 0 b).bil = s.bil := State.setQ_bil ..
    rw [he]
    refine ⟨{ s.bil.work with nextQ := s.nextQ (scheduleFrom s) }, ?_, rfl, rfl, rfl, rfl, rfl, rfl⟩
    dsimp only
    rw [work_bil, hb]
  · have he : schedule s = s := by
      unfold schedule
      exact if_pos (by rw [Bool.not_eq_true']; exact Bool.eq_false_iff.mpr h)
    rw [he]
    exact ⟨s.bil.work, rfl, rfl, rfl, rfl, rfl, rfl, rfl⟩

end Sys2Proof.Machine

/-! ## Billing: a boundary processed, and the legal displays (R365 to R387) -/

namespace Sys2Proof.Machine

set_option Elab.async false

/-! ### A boundary -/

/-- The registers that the steps after the profile interval write. -/
def laterRegs : List Rg := [R.BIL_ADAY, R.BIL_ASEA0, R.BIL_ASEA1, R.BIL_ASPEC, R.BIL_AWEEK0, R.BIL_AWEEK1, R.BIL_ARCH,
  R.BIL_KOFFH, R.BIL_KOFFL, R.SIG_KSTAT, R.SIG_LIMITH, R.SIG_LIMITL, R.SIG_NEXTH, R.SIG_NEXTL, R.SIG_PUB, R.SIG_STAT,
  R.BIL_NEXTH, R.BIL_NEXTL] ++ tamperRegs

/-- The state after the steps that follow the profile interval. -/
def boundaryEnded (x : BilSlot) (label : Nat) (first firstD : Bool) (recs : List (Nat × List Byte)) (s : State) :
  State :=
  schedule (boundaryStep4 x label recs (boundaryStep3 x first firstD s))

theorem processSlot_eq (x : BilSlot) (s : State) : processSlot x s =
    boundaryEnded x s.bil.work.pL s.bil.work.pS.isNone s.bil.work.dS.isNone
      (boundaryStep2 x (s.resetDue x) (boundaryStep1 x (s.resetDue x) s)).2
      (boundaryStep2 x (s.resetDue x) (boundaryStep1 x (s.resetDue x) s)).1 := rfl

theorem boundaryEnded_regs (x : BilSlot) (label : Nat) (first firstD : Bool) (recs : List (Nat × List Byte)) (s :
  State) :
    (boundaryEnded x label first firstD recs s).without (onlyRegs laterRegs) = s.without (onlyRegs laterRegs) := by
  unfold boundaryEnded
  rw [schedule_writes (by decide) (by decide) rfl rfl,
    boundaryStep4_writes (by decide) (by decide) (by decide) (by decide) (by decide) (by decide) (by decide) (by decide)
      (by decide) (by decide) (by decide) (by decide) (by decide) (by decide) (by decide) (by decide) (by decide) rfl
        rfl,
    boundaryStep3_writes (by decide) (by decide) (by decide) (by decide) (by decide) (by decide) (by decide) (by decide)
      (by decide) (by decide) (by decide) (by decide) (by decide) rfl]

theorem boundaryEnded_cause {x : BilSlot} (hp : x.p = true) (label : Nat) (first firstD : Bool) (recs : List (Nat ×
  List Byte))
    (s : State) : BilShows 0 (boundaryEnded x label first firstD recs s) := by
  have hs : ∀ u : State, fieldOf (schedule u).regs Fl.BIL_STAT_CAUSE 0 = fieldOf u.regs Fl.BIL_STAT_CAUSE 0 := fun u =>
    fieldOf_onlyRegs (l := [R.BIL_NEXTH, R.BIL_NEXTL]) (schedule_writes (by decide) (by decide) rfl rfl u) 0 (by decide)
  exact (step4_cause hp label recs _).of_field (hs _)

/-- What the later steps leave of the carried data. -/
theorem boundaryEnded_parts (x : BilSlot) (label : Nat) (first firstD : Bool) (recs : List (Nat × List Byte)) (s :
  State) :
    let u := boundaryEnded x label first firstD recs s
    keptPart u = keptPart s ∧ u.bil.work.lastQ = some x.q ∧ u.bil.work.grp = [] ∧
      (recs.isEmpty = false → s.bil.staged.length < 192 → u.bil.staged.length = s.bil.staged.length + 1) := by
  have h3 := step3_intervals x first firstD s
  have hst : (boundaryStep3 x first firstD s).bil.staged = s.bil.staged := congrArg (·.1.2) h3.profile
  have h4 := step4_kept x label recs (boundaryStep3 x first firstD s)
  have he := step4_end x label recs (boundaryStep3 x first firstD s)
  have hg : recs.isEmpty = false → s.bil.staged.length < 192 →
      (boundaryStep4 x label recs (boundaryStep3 x first firstD s)).bil.staged.length = s.bil.staged.length + 1 :=
    fun hr hl => by
      rw [step4_staged hr (by rw [hst]; exact hl), hst]
  have hk := h4.trans h3.kept
  have hrec := he.records
  have hlast := he.last
  unfold boundaryEnded
  generalize boundaryStep4 x label recs (boundaryStep3 x first firstD s) = v at hg hk hrec hlast
  obtain ⟨w, hb, w1, w2, w3, w4, w5, w6⟩ := schedule_parts v
  refine ⟨?_, ?_, ?_, fun hr hl => ?_⟩
  · rw [← hk, keptPart, keptPart, demandPart, demandPart, hb, ← w1, ← w2, ← w3, ← w4]
  · rw [hb]
    exact w6.trans hlast
  · rw [hb]
    exact w5.trans hrec
  · rw [hb]
    exact hg hr hl

/-- What a boundary of slot `x` shows, from the state without the slot. -/
structure BoundaryShows (x : BilSlot) (s u : State) : Prop where
  slots : u.bil.slots = s.bil.slots
  iseq : fieldOf u.regs Fl.BIL_ISEQ_ISEQ 0 = (s.f Fl.BIL_ISEQ_ISEQ + 1) % 2 ^ 32
  last : u.bil.work.lastQ = some x.q
  records : u.bil.work.grp = []
  demand : x.d = true → s.bil.work.dS.isSome = true → ∀ m, m < 25 →
    fieldOf u.regs Fl.BIL_DLAST_D m = s.demandOf x m % 2 ^ 32 ∧
    (s.resetDue x = false → s.demandOf x m < 2 ^ 32 → s.bil.work.dTar < 8 →
      fieldOf u.regs Fl.BIL_DMAX0_D (8 * m + s.bil.work.dTar) =
        max (s.demandOf x m) (s.f Fl.BIL_DMAX0_D (8 * m + s.bil.work.dTar)))
  demandOpens : x.d = true → u.bil.work.dS = some x.opens ∧ u.bil.work.dT = x.toto.map (·.1)
  tariff : ∀ m r, m < 25 → r < 8 → tdel u (8 * m + r) =
    if x.p = true ∧ s.bil.work.pS.isSome = true ∧ r = s.f Fl.BIL_STAT_TARIFF then
      (tdel s (8 * m + r) + ((x.tot.getD m (0, 0)).1 - (s.bil.work.pT.getD m (0, 0)).1)) % 2 ^ 64
    else tdel s (8 * m + r)
  profile : x.p = true → u.bil.work.pS = some x.opens ∧ u.bil.work.pT = x.toto ∧ BilShows 0 u ∧
    (s.bil.work.pS.isSome = true → s.bil.staged.length < 192 → u.bil.staged.length = s.bil.staged.length + 1)

theorem processSlot_shows (x : BilSlot) (s : State) : BoundaryShows x s (processSlot x s) := by
  rw [processSlot_eq]
  obtain ⟨i1, i2, i3⟩ := step1_shows x (s.resetDue x) s
  have hp1 := step1_profile x (s.resetDue x) s
  have hd1 := fun hd : x.d = true => step1_demand hd (s.resetDue x) s
  have ht1 : ∀ k, tdel (boundaryStep1 x (s.resetDue x) s) k = tdel s k := fun k =>
    quantOf_congr
      (regOf_onlyRegs (l := [R.BIL_DLAST, R.BIL_DMAX0, R.BIL_DMAX1, R.BIL_DPREV0, R.BIL_DPREV1, R.BIL_ISEQ, R.BIL_STAT])
        (boundaryStep1_writes (by decide) (by decide) (by decide) (by decide) (by decide) (by decide) (by decide) rfl
          x _ s) k
        (by decide))
      (regOf_onlyRegs (l := [R.BIL_DLAST, R.BIL_DMAX0, R.BIL_DMAX1, R.BIL_DPREV0, R.BIL_DPREV1, R.BIL_ISEQ, R.BIL_STAT])
        (boundaryStep1_writes (by decide) (by decide) (by decide) (by decide) (by decide) (by decide) (by decide) rfl
          x _ s) k
        (by decide))
  generalize boundaryStep1 x (s.resetDue x) s = a at i1 i2 i3 hp1 hd1 ht1
  have h2 := step2_shows x (s.resetDue x) a
  generalize boundaryStep2 x (s.resetDue x) a = b at h2
  have hr := boundaryEnded_regs x s.bil.work.pL s.bil.work.pS.isNone s.bil.work.dS.isNone b.2 b.1
  obtain ⟨e1, e2, e3, e4⟩ := boundaryEnded_parts x s.bil.work.pL s.bil.work.pS.isNone s.bil.work.dS.isNone b.2 b.1
  have hcause := fun hp : x.p = true =>
    boundaryEnded_cause hp s.bil.work.pL s.bil.work.pS.isNone s.bil.work.dS.isNone b.2 b.1
  generalize boundaryEnded x s.bil.work.pL s.bil.work.pS.isNone s.bil.work.dS.isNone b.2 b.1 = u
    at hr e1 e2 e3 e4 hcause
  have hslots : a.bil.slots = s.bil.slots := congrArg (·.1.1) hp1
  have hstaged : a.bil.staged = s.bil.staged := congrArg (·.1.2) hp1
  have hpS : a.bil.work.pS = s.bil.work.pS := congrArg (·.2.1) hp1
  have hpT : a.bil.work.pT = s.bil.work.pT := congrArg (·.2.2) hp1
  have htariff : a.f Fl.BIL_STAT_TARIFF = s.f Fl.BIL_STAT_TARIFF := i2
  have hreg : ∀ (r : Rg) i, (!regsIn laterRegs r.addr && !regsIn alertRegs r.addr && !regsIn openRegs r.addr &&
      decide (r.count ≤ 65536)) = true → (R.BIL_TDELL.apart r && R.BIL_TDELH.apart r && R.BIL_TRECL.apart r &&
        R.BIL_TRECH.apart r) = true → regOf u.regs r i = regOf a.regs r i := by
    intro r i h hq
    simp only [Bool.and_eq_true] at h
    obtain ⟨⟨⟨h1, h3⟩, h4⟩, h5⟩ := h
    have hl : (!regsIn laterRegs r.addr && decide (r.count ≤ 65536)) = true := by rw [h1, h5]; rfl
    have ho : (!regsIn alertRegs r.addr && !regsIn openRegs r.addr && decide (r.count ≤ 65536)) = true := by
      rw [h3, h4, h5]; rfl
    rw [regOf_onlyRegs hr i hl, h2.regs r i ho hq]
  have hfld : ∀ (fl : Fld) i, (!regsIn laterRegs fl.reg.addr && !regsIn alertRegs fl.reg.addr && !regsIn openRegs
    fl.reg.addr &&
      decide (fl.reg.count ≤ 65536)) = true → (R.BIL_TDELL.apart fl.reg && R.BIL_TDELH.apart fl.reg &&
        R.BIL_TRECL.apart fl.reg &&
        R.BIL_TRECH.apart fl.reg) = true → fieldOf u.regs fl i = fieldOf a.regs fl i :=
    fun fl i h hq => congrArg (bitsOf · fl.lsb fl.width) (hreg fl.reg i h hq)
  refine ⟨?_, ?_, e2, e3, fun hd hs m hm => ?_, fun hd => ?_, fun m r hm hr8 => ?_, fun hp => ?_⟩
  · exact (congrArg (·.1) e1).trans (h2.slots.trans hslots)
  · rw [hfld _ _ (by decide) (by decide), i1]
  · obtain ⟨d1, d2⟩ := i3 hd hs m hm
    rw [hfld _ _ (by decide) (by decide), hfld _ _ (by decide) (by decide)]
    exact ⟨d1, d2⟩
  · have hdem : demandPart u = (some x.opens, x.toto.map (·.1)) :=
      (congrArg (·.2.2) e1).trans (h2.demand.trans (hd1 hd))
    exact ⟨congrArg (·.1) hdem, congrArg (·.2) hdem⟩
  · have hq : tdel u (8 * m + r) = tdel b.1 (8 * m + r) :=
      quantOf_congr (regOf_onlyRegs hr _ (by decide)) (regOf_onlyRegs hr _ (by decide))
    rw [hq, h2.tariff m r hm hr8, hpS, hpT, htariff, ht1]
  · have hpair : (u.bil.work.pS, u.bil.work.pT) = (b.1.bil.work.pS, b.1.bil.work.pT) := congrArg (·.2.1) e1
    obtain ⟨o1, o2⟩ := h2.opened hp
    refine ⟨(congrArg (·.1) hpair).trans o1, (congrArg (·.2) hpair).trans o2, hcause hp, fun hs hl => ?_⟩
    have hb : b.1.bil.staged = s.bil.staged := h2.staged.trans hstaged
    rw [e4 (h2.records hp (by rw [hpS]; exact hs)) (by rw [hb]; exact hl), hb]

theorem resetDue_slots (s : State) (l : List BilSlot) (x : BilSlot) :
    ({ s with bil.slots := l } : State).resetDue x = s.resetDue x := rfl

theorem demandOf_slots (s : State) (l : List BilSlot) (x : BilSlot) (m : Nat) :
    ({ s with bil.slots := l } : State).demandOf x m = s.demandOf x m := demandOf_congr rfl x m

theorem boundary_none {s : State} (h : s.bil.slots = []) :
    Answers .boundaryProcess s fun u => u.without settledPart = s.without settledPart := by
  have he : boundaryProcess s = s := by
    unfold boundaryProcess
    rw [h]
  exact keeps_settle (congrArg done he)

theorem boundary_processed {x : BilSlot} {rest : List BilSlot} {s : State} (h : s.bil.slots = x :: rest) :
    Answers .boundaryProcess s fun u => u.bil.slots = rest ∧
      u.f Fl.BIL_ISEQ_ISEQ = (s.f Fl.BIL_ISEQ_ISEQ + 1) % 2 ^ 32 ∧ u.bil.work.lastQ = some x.q ∧ u.bil.work.grp = [] ∧
      (x.d = true → s.bil.work.dS.isSome = true → ∀ m, m < 25 →
        let d := s.demandOf x m
        u.f Fl.BIL_DLAST_D m = d % 2 ^ 32 ∧ (s.resetDue x = false → d < 2 ^ 32 → s.bil.work.dTar < 8 →
          u.f Fl.BIL_DMAX0_D (8 * m + s.bil.work.dTar) = max d (s.f Fl.BIL_DMAX0_D (8 * m + s.bil.work.dTar)))) ∧
      (x.d = true → u.bil.work.dS = some x.opens ∧ u.bil.work.dT = x.toto.map (·.1)) ∧
      (∀ m r, m < 25 → r < 8 → u.q R.BIL_TDELL R.BIL_TDELH (8 * m + r) =
        if x.p = true ∧ s.bil.work.pS.isSome = true ∧ r = s.f Fl.BIL_STAT_TARIFF then
          (s.q R.BIL_TDELL R.BIL_TDELH (8 * m + r) + ((x.tot.getD m (0, 0)).1 - (s.bil.work.pT.getD m (0,
            0)).1)) % 2 ^ 64
        else s.q R.BIL_TDELL R.BIL_TDELH (8 * m + r)) ∧
      (x.p = true → u.bil.work.pS = some x.opens ∧ u.bil.work.pT = x.toto ∧ bitOf (u.f Fl.BIL_STAT_CAUSE) 0 = true ∧
        (s.bil.work.pS.isSome = true → s.bil.staged.length < 192 → u.bil.staged.length = s.bil.staged.length + 1)) := by
  have he : boundaryProcess s = processSlot x { s with bil.slots := rest } := by
    unfold boundaryProcess
    rw [h]
  have hv := processSlot_shows x { s with bil.slots := rest }
  generalize processSlot x { s with bil.slots := rest } = v at he hv
  refine answers_done (congrArg done he) ⟨?_, ?_, ?_, ?_, fun hd hs m hm => ?_, fun hd => ?_, fun m r hm hr => ?_,
    fun hp => ?_⟩
  · rw [settle_bil]
    exact hv.slots
  · rw [State.f_fieldOf, fieldOf_settle _ _ _ (by decide)]
    exact hv.iseq
  · rw [settle_bil]
    exact hv.last
  · rw [settle_bil]
    exact hv.records
  · obtain ⟨d1, d2⟩ := hv.demand hd hs m hm
    rw [demandOf_slots] at d1 d2
    intro d
    rw [State.f_fieldOf, fieldOf_settle _ _ _ (by decide), State.f_fieldOf (s := v.settle),
      fieldOf_settle _ _ _ (by decide)]
    exact ⟨d1, d2⟩
  · rw [settle_bil]
    exact hv.demandOpens hd
  · rw [State.q_quantOf, quantOf_settle _ _ _ _ (by decide) (by decide)]
    exact hv.tariff m r hm hr
  · obtain ⟨p1, p2, p3, p4⟩ := hv.profile hp
    rw [settle_bil]
    exact ⟨p1, p2, p3.settled, p4⟩

end Sys2Proof.Machine

/-! ## Billing: the legal displays (R384 to R387) -/

namespace Sys2Proof.Machine

set_option Elab.async false

theorem disp_setDisp_same {k : Nat} (hk : k < 24) (s : State) (f : DisplayUnit → DisplayUnit) :
    (s.setDisp k f).disp k = f (s.disp k) := memberOf_set_same s.bil.display _ {} hk

theorem disp_setDisp_other {j k : Nat} (h : j ≠ k) (s : State) (f : DisplayUnit → DisplayUnit) :
    (s.setDisp j f).disp k = s.disp k := memberOf_set_other s.bil.display _ {} h

theorem disp_of_bil {s u : State} (h : u.bil = s.bil) (k : Nat) : u.disp k = s.disp k := by rw [State.disp,
  State.disp, h]

theorem setDisp_regs (k : Nat) (s : State) (f : DisplayUnit → DisplayUnit) : (s.setDisp k f).regs = s.regs := rfl

/-! ### Frames (R384, R385) -/

/-- What a display's frame carries: address, code, text of 16 characters, flags, and the check of all of them. -/
def LegalFrame (k : Nat) (frame : List Byte) : Prop :=
  ∃ (code flags : Byte) (text : List Byte), text.length = 16 ∧
    let body := [BitVec.ofNat 8 k, code] ++ text ++ [flags]
    frame = [0x02] ++ body ++ leBytes 2 (crc16 body) ++ [0x03]

theorem rightAlign_length (l : List Byte) : (rightAlign l).length = 16 := by
  unfold rightAlign
  rw [List.length_append, List.length_replicate, List.length_drop]
  omega

theorem displayFrame_legal (k : Nat) (s : State) : LegalFrame k (s.displayFrame k) :=
  ⟨_, _, rightAlign _, rightAlign_length _, rfl⟩

/-- The item of display `k` moved on after its time. -/
def itemTurned (k : Nat) (s : State) : State :=
  let i := s.f Fl.BIL_DSTAT_ITEM k
  s.when (decide (4 * max 1 (bitsOf (s.reg R.BIL_ITEM (16 * k + i)) 16 8) ≤ (s.disp k).shown))
    (fun s => s.setF Fl.BIL_DSTAT_ITEM k (if i < s.f Fl.BIL_DCFG_NITEM k then i + 1 else 0))

/-- A display sent its frame. -/
def frameSent (k n : Nat) (s : State) : State :=
  s.setDisp k fun x => { x with shown := n, frame := s.displayFrame k }

/-- The step of display `k` with each frame. -/
def displayMember (k : Nat) (s : State) : State :=
  if !s.b Fl.BIL_DCFG_EN k then s else
  frameSent k (if decide (4 * max 1 (bitsOf (s.reg R.BIL_ITEM (16 * k + s.f Fl.BIL_DSTAT_ITEM k)) 16 8) ≤ (s.disp
    k).shown)
    then 1 else (s.disp k).shown + 1) (itemTurned k s)

theorem displayFrames_eq (s : State) : displayFrames s = s.each 24 displayMember := rfl

theorem itemTurned_stands (k : Nat) (s : State) : (itemTurned k s).bil = s.bil ∧
    FieldsStand [Fl.BIL_DSTAT_ITEM] s (itemTurned k s) ∧
      ∀ j, j ≠ k → regOf (itemTurned k s).regs R.BIL_DSTAT j = regOf s.regs R.BIL_DSTAT j := by
  unfold itemTurned
  refine State.when_cases (P := fun u => u.bil = s.bil ∧ FieldsStand [Fl.BIL_DSTAT_ITEM] s u ∧
    ∀ j, j ≠ k → regOf u.regs R.BIL_DSTAT j = regOf s.regs R.BIL_DSTAT j) (fun _ => ⟨rfl, .refl _ s, fun _ _ => rfl⟩)
    fun _ => ⟨State.setF_bil .., fun fl i h => fieldOf_setF_apart _ _ _ _ _ _ (apart_of_mem h (by simp)),
      fun j hj => ?_⟩
  exact regOf_setReg_member s R.BIL_DSTAT _ (Ne.symm hj)

theorem displayMember_enable (j k : Nat) (s : State) :
    fieldOf (displayMember k s).regs Fl.BIL_DCFG_EN j = fieldOf s.regs Fl.BIL_DCFG_EN j := by
  unfold displayMember
  split
  · rfl
  · exact (itemTurned_stands k s).2.1 _ j (by decide)

theorem displayMember_other {j k : Nat} (h : j ≠ k) (s : State) : (displayMember j s).disp k = s.disp k ∧
    regOf (displayMember j s).regs R.BIL_DSTAT k = regOf s.regs R.BIL_DSTAT k := by
  obtain ⟨hb, _, hr⟩ := itemTurned_stands j s
  unfold displayMember
  split
  · exact ⟨rfl, rfl⟩
  · exact ⟨(disp_setDisp_other h _ _).trans (disp_of_bil hb k), hr k (Ne.symm h)⟩

theorem displayMember_sends {k : Nat} (hk : k < 24) {s : State} (h : fieldOf s.regs Fl.BIL_DCFG_EN k = 1) :
    LegalFrame k ((displayMember k s).disp k).frame := by
  unfold displayMember
  rw [if_neg (by rw [b_one h]; exact Bool.false_ne_true)]
  generalize itemTurned k s = w
  have hf := displayFrame_legal k w
  unfold frameSent
  rw [disp_setDisp_same hk]
  exact hf

theorem displayMember_off {k : Nat} {s : State} (h : fieldOf s.regs Fl.BIL_DCFG_EN k ≠ 1) : displayMember k s = s := by
  have hb : s.b Fl.BIL_DCFG_EN k = false := Bool.eq_false_iff.mpr fun ht => h (by
    rw [← State.f_fieldOf, bool_field s Fl.BIL_DCFG_EN k rfl, ht]
    rfl)
  exact if_pos (by rw [hb]; rfl)

theorem display_frames {k : Nat} (hk : k < 24) (s : State) : Answers .displayFrame s fun u =>
    if s.f Fl.BIL_DCFG_EN k = 1 then LegalFrame k (u.disp k).frame
    else u.disp k = s.disp k ∧ u.reg R.BIL_DSTAT k = s.reg R.BIL_DSTAT k := by
  refine answers_done (congrArg done (displayFrames_eq s)) ?_
  rw [disp_of_bil (settle_bil _), State.reg_regOf, regOf_settle _ _ _ (by decide)]
  split
  next h =>
    exact State.each_once (f := displayMember) (R := fun u => fieldOf u.regs Fl.BIL_DCFG_EN k = 1)
      (Q := fun u => LegalFrame k (u.disp k).frame) hk (fun j u _ hu => (displayMember_enable k j u).trans hu)
      (fun j u hj hu => by rw [(displayMember_other hj u).1]; exact hu) (fun u hu => displayMember_sends hk hu) h
  next h =>
    have hall := State.each_induct (f := displayMember) (P := fun u => fieldOf u.regs Fl.BIL_DCFG_EN k ≠ 1 ∧
      u.disp k = s.disp k ∧ regOf u.regs R.BIL_DSTAT k = regOf s.regs R.BIL_DSTAT k) (fun j u hu => ?_) ⟨h, rfl, rfl⟩ 24
    · exact hall.2
    · obtain ⟨h1, h2, h3⟩ := hu
      by_cases hj : j = k
      · subst hj
        rw [displayMember_off h1]
        exact ⟨h1, h2, h3⟩
      · obtain ⟨o1, o2⟩ := displayMember_other hj u
        exact ⟨by rw [displayMember_enable]; exact h1, o1.trans h2, o2.trans h3⟩

/-! ### Answers (R386, R387) -/

theorem display_answers {k : Nat} (hk : k < 24) (s : State) : Answers (.displayAnswer k) s (fun u =>
    u.disp k = { s.disp k with missed := 0, good := (s.disp k).good + 1 } ∧
      u.f Fl.BIL_DSTAT_FAIL k = if 2 ≤ (s.disp k).good then 0 else s.f Fl.BIL_DSTAT_FAIL k) := by
  let w := s.setDisp k fun x => { x with missed := 0, good := (s.disp k).good + 1 }
  have he : (if k < 24 then displayAnswer k s else s) =
      if 3 ≤ (s.disp k).good + 1 then w.setB Fl.BIL_DSTAT_FAIL k false else w := if_pos hk
  have hw : w.disp k = { s.disp k with missed := 0, good := (s.disp k).good + 1 } := disp_setDisp_same hk s _
  have hf : fieldOf w.regs Fl.BIL_DSTAT_FAIL k = s.f Fl.BIL_DSTAT_FAIL k := rfl
  clear_value w
  refine answers_done (congrArg done he) ?_
  rw [disp_of_bil (settle_bil _), State.f_fieldOf, fieldOf_settle _ _ _ (by decide)]
  by_cases h : 2 ≤ (s.disp k).good
  · rw [if_pos (by omega), if_pos h]
    exact ⟨(disp_of_bil (State.setF_bil ..) k).trans hw,
      fieldOf_setB_same w Fl.BIL_DSTAT_FAIL k false (lt_of_lt_of_le hk (by decide)) (by decide) (by decide)⟩
  · rw [if_neg (by omega), if_neg h]
    exact ⟨hw, hf⟩

/-- A display that has failed: FAIL with cause 5. -/
def displayFailed (k : Nat) (s : State) : State := bilCause 5 (s.setB Fl.BIL_DSTAT_FAIL k true)

theorem displayFailed_shows {k : Nat} (hk : k < 24) (s : State) : (displayFailed k s).disp k = s.disp k ∧
    fieldOf (displayFailed k s).regs Fl.BIL_DSTAT_FAIL k = 1 ∧ BilShows 5 (displayFailed k s) := by
  refine ⟨disp_of_bil ((bilCause_bil 5 _).trans (State.setF_bil ..)) k, ?_, bilCause_shows 5 (by decide) _⟩
  exact (fieldOf_bilCause 5 k _ (by decide) (by decide)).trans
    (fieldOf_setB_same s Fl.BIL_DSTAT_FAIL k true (lt_of_lt_of_le hk (by decide)) (by decide) (by decide))

theorem display_misses {k : Nat} (hk : k < 24) (s : State) : Answers (.displayAnswerMissed k) s fun u =>
    u.disp k = { s.disp k with missed := (s.disp k).missed + 1, good := 0 } ∧
      u.f Fl.BIL_DSTAT_FAIL k = (if 2 ≤ (s.disp k).missed then 1 else s.f Fl.BIL_DSTAT_FAIL k) ∧
      (2 ≤ (s.disp k).missed → s.f Fl.BIL_DSTAT_FAIL k = 0 → bitOf (u.f Fl.BIL_STAT_CAUSE) 5 = true) := by
  let w := s.setDisp k fun x => { x with missed := (s.disp k).missed + 1, good := 0 }
  have he : (if k < 24 then displayMissed k s else s) =
      if (decide (3 ≤ (s.disp k).missed + 1) && !w.b Fl.BIL_DSTAT_FAIL k) = true then displayFailed k w else w :=
        if_pos hk
  have hw : w.disp k = { s.disp k with missed := (s.disp k).missed + 1, good := 0 } := disp_setDisp_same hk s _
  have hf : fieldOf w.regs Fl.BIL_DSTAT_FAIL k = s.f Fl.BIL_DSTAT_FAIL k := rfl
  clear_value w
  obtain ⟨f1, f2, f3⟩ := displayFailed_shows hk w
  refine answers_done (congrArg done he) ?_
  rw [disp_of_bil (settle_bil _), State.f_fieldOf, fieldOf_settle _ _ _ (by decide)]
  by_cases h : 2 ≤ (s.disp k).missed
  · have hfail := bool_field w Fl.BIL_DSTAT_FAIL k rfl
    cases hb : w.b Fl.BIL_DSTAT_FAIL k with
    | false =>
      rw [if_pos (by rw [decide_eq_true (show 3 ≤ (s.disp k).missed + 1 by omega)]; rfl), if_pos h]
      exact ⟨f1.trans hw, f2, fun _ _ => f3.settled⟩
    | true =>
      rw [hb] at hfail
      rw [if_neg (by rw [Bool.and_comm]; exact Bool.false_ne_true), if_pos h]
      refine ⟨hw, hfail, fun _ h0 => ?_⟩
      rw [← hf] at h0
      exact absurd (hfail.symm.trans h0) (by decide)
  · rw [if_neg (by rw [decide_eq_false (show ¬ 3 ≤ (s.disp k).missed + 1 by omega)]; exact Bool.false_ne_true),
      if_neg h]
    exact ⟨hw, hf, fun hm => absurd hm h⟩

/-- Settles O35: each part of billing by the rule of its operation. -/
theorem billing : Obligations.Billing := by
  intro s cause
  exact ⟨boundary_none, fun x rest h => boundary_processed h, calendar_armed, calendar_refused, reset_requested s,
    fun code => ⟨fun h => demlen_taken h s, fun h => demlen_refused h s⟩, billing_stays, billing_enabled, seal_opened s,
    fun k hk => ⟨display_frames hk s, display_answers hk s, display_misses hk s⟩⟩

end Sys2Proof.Machine

/-! ## Jobs of the crypto engine (R404 to R411) -/

namespace Sys2Proof.Machine

set_option Elab.async false

/-! ### What a job run leaves -/

/-- The job at the head of the queue can run: it has not run, and its buffers are in SRAM. -/
structure JobReady (a : Nat) (rest : List Nat) (s : State) : Prop where
  head : s.sig.jobs = a :: rest
  idle : s.sig.result = none
  src : (s.jobAt a).srcLen = 0 ∨ inSram (s.jobAt a).src (s.jobAt a).srcLen = true
  dst : (s.jobAt a).dstLen = 0 ∨ inSram (s.jobAt a).dst (s.jobAt a).dstLen = true
  aux : (s.jobAt a).auxLen = 0 ∨ inSram (s.jobAt a).aux (s.jobAt a).auxLen = true

/-- The state with a job's result. -/
def withResult (r : Option Nat × State) : State := { r.2 with sig.result := r.1 }

theorem runJob_eq {a : Nat} {rest : List Nat} {s : State} (h : JobReady a rest s) {op : Nat} (hop : (s.jobAt a).op = op)
    (f : Job → State → Option Nat × State) : runJob op f s = withResult (f (s.jobAt a) s) := by
  unfold runJob
  rw [h.head]
  dsimp only
  have hfit : ((decide ((s.jobAt a).srcLen = 0) || inSram (s.jobAt a).src (s.jobAt a).srcLen) &&
      (decide ((s.jobAt a).dstLen = 0) || inSram (s.jobAt a).dst (s.jobAt a).dstLen) &&
        (decide ((s.jobAt a).auxLen = 0) || inSram (s.jobAt a).aux (s.jobAt a).auxLen)) = true := by
    simp only [Bool.and_eq_true, Bool.or_eq_true, decide_eq_true_eq]
    exact ⟨⟨h.src, h.dst⟩, h.aux⟩
  rw [if_neg (by simp [hop, h.idle]), hfit]
  rfl

/-- A command that runs a job of operation `op`. -/
structure RunsJob (c : Instr) (op : Nat) (f : Job → State → Option Nat × State) : Prop where
  run : ∀ s, exec c s = done (runJob op f s)

section Rules

variable {a : Nat} {rest : List Nat} {s : State} {c : Instr} {op : Nat} {f : Job → State → Option Nat × State}

theorem RunsJob.effect (hc : RunsJob c op f) (h : JobReady a rest s) (hop : (s.jobAt a).op = op)
  {r : Option Nat × State}
    {P : State → Prop} (hf : f (s.jobAt a) s = r) (hp : P (withResult r)) : Effect c s P :=
  effect_done ((hc.run s).trans (congrArg done ((runJob_eq h hop f).trans (congrArg withResult hf)))) hp

/-- A job ends with a status and changes nothing else. -/
theorem RunsJob.ends (hc : RunsJob c op f) (h : JobReady a rest s) (hop : (s.jobAt a).op = op) {r : Nat} {t : State}
    (hf : f (s.jobAt a) s = (some r, t)) : Effect c s fun u => u.sig.result = some r := hc.effect h hop hf rfl

/-- A job gives an output of `n` bytes, or ends with status 2 where it does not fit. -/
def Gives (a : Nat) (s : State) (c : Instr) (n : Nat) (l : List Byte) : Prop :=
  if (s.jobAt a).dstLen < n then Effect c s fun u => u.sig.result = some 2 ∧ u.mem = s.mem
  else Effect c s fun u => u.sig.result = some 0 ∧ u.mem = (s.dma (s.jobAt a).dst (fitTo n l)).mem

theorem RunsJob.gives (hc : RunsJob c op f) (h : JobReady a rest s) (hop : (s.jobAt a).op = op) {n : Nat}
  {l : List Byte}
    {t : State} (hf : f (s.jobAt a) s = jobOutput (s.jobAt a) n l t) (hm : t.mem = s.mem) (hi : t.images = s.images) :
    Gives a s c n l := by
  have hro : ∀ b k, t.readOnly b k = s.readOnly b k := fun b k => by rw [State.readOnly, State.readOnly, hi]
  unfold Gives
  unfold jobOutput at hf
  split
  next hlt => exact hc.effect h hop (hf.trans (if_pos hlt)) ⟨rfl, hm⟩
  next hge => exact hc.effect h hop (hf.trans (if_neg hge)) ⟨rfl, dma_mem_congr hm hro _ _⟩

theorem jobOutput_sig (j : Job) (n : Nat) (l : List Byte) (s : State) : (jobOutput j n l s).2.sig = s.sig := by
  unfold jobOutput
  split
  · rfl
  · exact dma_sig _ _ _

theorem jobOutput_field (j : Job) (n : Nat) (l : List Byte) (s : State) (fl : Fld) (i : Nat)
    (h : decide (fl.reg.count ≤ 65536) = true) : fieldOf (jobOutput j n l s).2.regs fl i = fieldOf s.regs fl i := by
  unfold jobOutput
  split
  · rfl
  · exact fieldOf_onlyRegs (l := []) (State.dma_writes rfl rfl s _ _) i (by rw [h]; rfl)

theorem withResult_ephemeral (r : Option Nat × State) : (withResult r).sig.ephemeral = r.2.sig.ephemeral := rfl

theorem withResult_tlsKeys (r : Option Nat × State) : (withResult r).sig.tlsKeys = r.2.sig.tlsKeys := rfl

/-! ### Hashes, MACs and key derivation (R404 to R406) -/

theorem hashBytes_none {alg : Nat} (dst : Nat) (h : alg = 0 ∨ 7 < alg) : hashBytes alg dst = none := by
  unfold hashBytes
  split
  · omega
  · omega
  · omega
  · omega
  · omega
  · omega
  · omega
  · rfl

theorem hashBytes_some {alg dst n : Nat}
    (h : [(1, 32), (2, 48), (3, 64), (4, 32), (5, 64), (6, dst), (7, dst)].contains (alg,
      n) = true) : hashBytes alg dst = some n := by
  simp only [List.contains_cons, List.contains_nil, Bool.or_false, Bool.or_eq_true, beq_iff_eq, Prod.mk.injEq] at h
  rcases h with ⟨rfl, rfl⟩ | ⟨rfl, rfl⟩ | ⟨rfl, rfl⟩ | ⟨rfl, rfl⟩ | ⟨rfl, rfl⟩ | ⟨rfl, rfl⟩ | ⟨rfl, rfl⟩ <;> rfl

theorem macBytes_none {alg : Nat} (h1 : alg ≠ 1) (h2 : alg ≠ 2) : macBytes alg = none := by
  unfold macBytes
  split
  · exact absurd rfl h1
  · exact absurd rfl h2
  · rfl

theorem macBytes_some {alg n : Nat} (h : alg = 1 ∧ n = 32 ∨ alg = 2 ∧ n = 48) : macBytes alg = some n := by
  rcases h with ⟨rfl, rfl⟩ | ⟨rfl, rfl⟩ <;> rfl

theorem hash_job (h : JobReady a rest s) (hop : (s.jobAt a).op = 1) : let j := s.jobAt a
    (j.alg = 0 ∨ 7 < j.alg → Effect .jobHash s fun u => u.sig.result = some 1) ∧
    ∀ n, [(1, 32), (2, 48), (3, 64), (4, 32), (5, 64), (6, j.dstLen), (7, j.dstLen)].contains (j.alg, n) = true →
      Gives a s .jobHash n (Config.hash j.alg (s.bytes j.src j.srcLen) n) := by
  have hc : RunsJob .jobHash 1 jobHash := ⟨fun _ => rfl⟩
  refine ⟨fun ha => hc.ends h hop (t := s) ?_, fun n hn => hc.gives h hop (t := s) ?_ rfl rfl⟩
  · rw [jobHash, hashBytes_none _ ha]
  · rw [jobHash, hashBytes_some hn]

theorem hmac_job (h : JobReady a rest s) (hop : (s.jobAt a).op = 2) : let j := s.jobAt a
    (j.alg ≠ 1 → j.alg ≠ 2 → Effect .jobHmac s fun u => u.sig.result = some 1) ∧
    ∀ n, (j.alg = 1 ∧ n = 32 ∨ j.alg = 2 ∧ n = 48) →
      Gives a s .jobHmac n (Config.hmac j.alg (s.bytes j.aux j.auxLen) (s.bytes j.src j.srcLen)) := by
  have hc : RunsJob .jobHmac 2 jobHmac := ⟨fun _ => rfl⟩
  refine ⟨fun h1 h2 => hc.ends h hop (t := s) ?_, fun n hn => hc.gives h hop (t := s) ?_ rfl rfl⟩
  · rw [jobHmac, macBytes_none h1 h2]
  · rw [jobHmac, macBytes_some hn]

theorem hkdfExtract_job (h : JobReady a rest s) (hop : (s.jobAt a).op = 3) : let j := s.jobAt a
    (j.alg ≠ 1 → j.alg ≠ 2 → Effect .jobHkdfExtract s fun u => u.sig.result = some 1) ∧
    ∀ n, (j.alg = 1 ∧ n = 32 ∨ j.alg = 2 ∧ n = 48) →
      Gives a s .jobHkdfExtract n (Config.hkdfExtract j.alg (s.bytes j.aux j.auxLen) (s.bytes j.src j.srcLen)) := by
  have hc : RunsJob .jobHkdfExtract 3 jobHkdfExtract := ⟨fun _ => rfl⟩
  refine ⟨fun h1 h2 => hc.ends h hop (t := s) ?_, fun n hn => hc.gives h hop (t := s) ?_ rfl rfl⟩
  · rw [jobHkdfExtract, macBytes_none h1 h2]
  · rw [jobHkdfExtract, macBytes_some hn]

theorem hkdfExpand_job (h : JobReady a rest s) (hop : (s.jobAt a).op = 4) : let j := s.jobAt a
    (j.alg ≠ 1 → j.alg ≠ 2 → Effect .jobHkdfExpand s fun u => u.sig.result = some 1) ∧
    ∀ n, (j.alg = 1 ∧ n = 32 ∨ j.alg = 2 ∧ n = 48) →
      (255 * n < j.dstLen → Effect .jobHkdfExpand s fun u => u.sig.result = some 2) ∧
      (j.dstLen ≤ 255 * n → Gives a s .jobHkdfExpand j.dstLen
        (Config.hkdfExpand j.alg (s.bytes j.src j.srcLen) (s.bytes j.aux j.auxLen) j.dstLen)) := by
  have hc : RunsJob .jobHkdfExpand 4 jobHkdfExpand := ⟨fun _ => rfl⟩
  refine ⟨fun h1 h2 => hc.ends h hop (t := s) ?_, fun n hn => ⟨fun hl => hc.ends h hop (t := s) ?_,
    fun hl => hc.gives h hop (t := s) ?_ rfl rfl⟩⟩
  · rw [jobHkdfExpand, macBytes_none h1 h2]
  · rw [jobHkdfExpand, macBytes_some hn]
    exact if_pos hl
  · rw [jobHkdfExpand, macBytes_some hn]
    exact if_neg (Nat.not_lt.mpr hl)

/-- The encryption and the decryption command. -/
theorem aesGcm_runs (enc : Bool) :
    RunsJob (if enc then .jobAesGcmEncrypt else .jobAesGcmDecrypt) (if enc then 5 else 6) (jobAesGcm enc) := by
  cases enc <;> exact ⟨fun _ => rfl⟩

theorem aesGcm_job (enc : Bool) (h : JobReady a rest s) (hop : (s.jobAt a).op = if enc then 5 else 6) :
    let j := s.jobAt a
    let c : Instr := if enc then .jobAesGcmEncrypt else .jobAesGcmDecrypt
    (j.auxLen ≠ 16 ∧ j.auxLen ≠ 32 ∨ j.srcLen < 12 → Effect c s fun u => u.sig.result = some 2) ∧
    (j.auxLen = 16 ∨ j.auxLen = 32 → 12 ≤ j.srcLen →
      match Config.aesGcm enc (s.bytes j.aux j.auxLen) (s.bytes j.src j.srcLen) with
      | none => Effect c s fun u => u.sig.result = some 4
      | some l => Gives a s c j.dstLen l) := by
  intro j c
  refine ⟨fun hb => (aesGcm_runs enc).ends h hop (t := s) (if_pos ?_), fun hk hl => ?_⟩
  · simpa using hb
  · have hok : jobAesGcm enc j s = match Config.aesGcm enc (s.bytes j.aux j.auxLen) (s.bytes j.src j.srcLen) with
        | none => (some 4, s)
        | some l => jobOutput j j.dstLen l s := by
      refine if_neg ?_
      simp only [Bool.or_eq_true, Bool.and_eq_true, bne_iff_ne, decide_eq_true_eq]
      omega
    cases hr : Config.aesGcm enc (s.bytes j.aux j.auxLen) (s.bytes j.src j.srcLen) with
    | none => exact (aesGcm_runs enc).ends h hop (hok.trans (by rw [hr]))
    | some l => exact (aesGcm_runs enc).gives h hop (t := s) (hok.trans (by rw [hr])) rfl rfl

/-! ### Key agreement, signatures and verification (R407, R408, R410) -/

theorem ecdheKeygen_job (h : JobReady a rest s) (hop : (s.jobAt a).op = 7) : let j := s.jobAt a
    (j.alg = 1 ∨ j.alg = 2 → j.slot < 16 → ∃ key, Gives a s .jobEcdheKeygen j.dstLen (Config.ecdhPublic j.alg key) ∧
      Effect .jobEcdheKeygen s fun u => cellsFind u.sig.ephemeral j.slot = some (j.alg, key)) ∧
    (j.alg ≠ 1 ∧ j.alg ≠ 2 ∨ 16 ≤ j.slot → Effect .jobEcdheKeygen s fun u => u.sig.result = some 1) := by
  have hc : RunsJob .jobEcdheKeygen 7 jobEcdheKeygen := ⟨fun _ => rfl⟩
  intro j
  refine ⟨fun ha hs => ⟨s.draw.1, ?_⟩, fun hb => hc.ends h hop (t := s) (if_pos ?_)⟩
  · have hf : jobEcdheKeygen j s = jobOutput j j.dstLen (Config.ecdhPublic j.alg s.draw.1)
        { s.draw.2 with sig.ephemeral := cellsInsert s.draw.2.sig.ephemeral j.slot (j.alg, s.draw.1) } := by
      refine if_neg ?_
      simp only [Bool.or_eq_true, Bool.not_eq_true', Bool.or_eq_false_iff, beq_eq_false_iff_ne, decide_eq_true_eq]
      omega
    refine ⟨hc.gives h hop hf rfl rfl, hc.effect h hop hf ?_⟩
    rw [withResult_ephemeral, jobOutput_sig]
    exact cellsFind_insert_same _ _ _
  · simp only [Bool.or_eq_true, Bool.not_eq_true', Bool.or_eq_false_iff, beq_eq_false_iff_ne, decide_eq_true_eq]
    exact hb

theorem ecdheDerive_job (h : JobReady a rest s) (hop : (s.jobAt a).op = 8) : let j := s.jobAt a
    (cellsFind s.sig.ephemeral j.slot = none → Effect .jobEcdheDerive s fun u => u.sig.result = some 3) ∧
    ∀ curve key, cellsFind s.sig.ephemeral j.slot = some (curve, key) →
      Gives a s .jobEcdheDerive j.dstLen (Config.ecdhDerive curve key (s.bytes j.src j.srcLen)) ∧
      Effect .jobEcdheDerive s fun u => u.sig.ephemeral = cellsErase s.sig.ephemeral j.slot := by
  have hc : RunsJob .jobEcdheDerive 8 jobEcdheDerive := ⟨fun _ => rfl⟩
  intro j
  refine ⟨fun hn => hc.ends h hop (t := s) ?_, fun curve key hk => ?_⟩
  · change jobEcdheDerive j s = _
    rw [jobEcdheDerive, hn]
  · have hf : jobEcdheDerive j s = jobOutput j j.dstLen (Config.ecdhDerive curve key (s.bytes j.src j.srcLen))
        { s with sig.ephemeral := cellsErase s.sig.ephemeral j.slot } := by rw [jobEcdheDerive, hk]
    refine ⟨hc.gives h hop hf rfl rfl, hc.effect h hop hf ?_⟩
    rw [withResult_ephemeral, jobOutput_sig]

theorem sign_job (h : JobReady a rest s) (hop : (s.jobAt a).op = 9) : let j := s.jobAt a
    (s.tlsType j.slot = 0 → Effect .jobSign s fun u => u.sig.result = some 3) ∧
    (s.tlsType j.slot ≠ 0 → ∃ x, Gives a s .jobSign j.dstLen
      (Config.tlsSign (s.tlsType j.slot) (cellsGet 0 s.sig.tlsKeys j.slot) x (s.bytes j.src j.srcLen))) := by
  have hc : RunsJob .jobSign 9 jobSign := ⟨fun _ => rfl⟩
  exact ⟨fun h0 => hc.ends h hop (t := s) (if_pos h0), fun h0 => ⟨s.draw.1,
    hc.gives h hop (t := s.draw.2) (if_neg h0) rfl rfl⟩⟩

theorem verify_job (h : JobReady a rest s) (hop : (s.jobAt a).op = 10) : let j := s.jobAt a
    (j.alg = 0 ∨ 5 < j.alg → Effect .jobVerify s fun u => u.sig.result = some 1) ∧
    (0 < j.alg → j.alg ≤ 5 → Effect .jobVerify s fun u => u.sig.result =
      some (if Config.verify j.alg (s.bytes j.aux j.auxLen) (s.bytes j.src j.srcLen) then 0 else 4)) := by
  have hc : RunsJob .jobVerify 10 jobVerify := ⟨fun _ => rfl⟩
  refine ⟨fun hb => hc.ends h hop (t := s) (if_pos ?_), fun h0 h5 => hc.ends h hop (t := s) (if_neg ?_)⟩
  · simpa using hb
  · simp only [Bool.or_eq_true, decide_eq_true_eq]
    omega

/-! ### Keys (R404, R411) -/

theorem tlsKeygen_job (h : JobReady a rest s) (hop : (s.jobAt a).op = 11) : let j := s.jobAt a
    (8 ≤ j.slot ∨ j.alg = 0 ∨ 3 < j.alg → Effect .jobTlsKeygen s fun u => u.sig.result = some 1) ∧
    (j.slot < 8 → 0 < j.alg → j.alg ≤ 3 →
      (s.nvOk = false → Effect .jobTlsKeygen s fun u => u.sig.result = some 7) ∧
      (s.nvOk = true → ∃ key, Gives a s .jobTlsKeygen j.dstLen (Config.tlsPublic j.alg key) ∧
        Effect .jobTlsKeygen s fun u => u.f Fl.SIG_TLSSLOT_TYPE j.slot = j.alg ∧
          cellsFind u.sig.tlsKeys j.slot = some key)) := by
  have hc : RunsJob .jobTlsKeygen 11 jobTlsKeygen := ⟨fun _ => rfl⟩
  intro j
  refine ⟨fun hb => hc.ends h hop (t := s) (if_pos (by simpa [or_assoc] using hb)), fun hs h0 h3 => ?_⟩
  have hin : ¬ (decide (8 ≤ j.slot) || decide (j.alg = 0) || decide (3 < j.alg)) = true := by
    simp only [Bool.or_eq_true, decide_eq_true_eq]
    omega
  refine ⟨fun hv => hc.ends h hop (t := s) ((if_neg hin).trans (if_pos (by rw [hv]; rfl))), fun hv => ⟨s.draw.1, ?_⟩⟩
  have hf : jobTlsKeygen j s = jobOutput j j.dstLen (Config.tlsPublic j.alg s.draw.1)
      { s.draw.2.setF Fl.SIG_TLSSLOT_TYPE j.slot j.alg with
        sig.tlsKeys := cellsInsert s.draw.2.sig.tlsKeys j.slot s.draw.1 } :=
    (if_neg hin).trans (if_neg (by rw [hv]; exact Bool.false_ne_true))
  have hmem : (s.draw.2.setF Fl.SIG_TLSSLOT_TYPE j.slot j.alg).mem = s.mem := State.setF_mem ..
  have himg : (s.draw.2.setF Fl.SIG_TLSSLOT_TYPE j.slot j.alg).images = s.images := State.setF_images ..
  have htype : fieldOf (s.draw.2.setF Fl.SIG_TLSSLOT_TYPE j.slot j.alg).regs Fl.SIG_TLSSLOT_TYPE j.slot = j.alg :=
    fieldOf_setF_fits _ Fl.SIG_TLSSLOT_TYPE j.slot j.alg (lt_of_lt_of_le hs (by decide)) (by decide)
      (lt_of_le_of_lt h3 (by decide))
  generalize s.draw.2.setF Fl.SIG_TLSSLOT_TYPE j.slot j.alg = w at hf hmem himg htype
  refine ⟨hc.gives h hop hf hmem himg, hc.effect h hop hf ⟨?_, ?_⟩⟩
  · exact (jobOutput_field _ _ _ _ Fl.SIG_TLSSLOT_TYPE j.slot (by decide)).trans htype
  · rw [withResult_tlsKeys, jobOutput_sig]
    exact cellsFind_insert_same _ _ _

theorem tlsErase_job (h : JobReady a rest s) (hop : (s.jobAt a).op = 12) : let j := s.jobAt a
    (8 ≤ j.slot → Effect .jobTlsKeyErase s fun u => u.sig.result = some 1) ∧
    (j.slot < 8 → s.nvOk = false → Effect .jobTlsKeyErase s fun u => u.sig.result = some 7) ∧
    (j.slot < 8 → s.nvOk = true → Effect .jobTlsKeyErase s fun u => u.sig.result = some 0 ∧
      u.f Fl.SIG_TLSSLOT_TYPE j.slot = 0 ∧ u.sig.tlsKeys = cellsErase s.sig.tlsKeys j.slot) := by
  have hc : RunsJob .jobTlsKeyErase 12 jobTlsErase := ⟨fun _ => rfl⟩
  intro j
  refine ⟨fun hs => hc.ends h hop (t := s) (if_pos hs),
    fun hs hv => hc.ends h hop (t := s) ((if_neg (Nat.not_le.mpr hs)).trans (if_pos (by rw [hv]; rfl))),
      fun hs hv => ?_⟩
  have hf : jobTlsErase j s = (some 0,
      { s.setF Fl.SIG_TLSSLOT_TYPE j.slot 0 with sig.tlsKeys := cellsErase s.sig.tlsKeys j.slot }) :=
    (if_neg (Nat.not_le.mpr hs)).trans (if_neg (by rw [hv]; exact Bool.false_ne_true))
  exact hc.effect h hop hf ⟨rfl, fieldOf_setF_fits s Fl.SIG_TLSSLOT_TYPE j.slot 0 (lt_of_lt_of_le hs (by decide)) (by
    decide)
    (by decide), rfl⟩

theorem publicKey_job (h : JobReady a rest s) (hop : (s.jobAt a).op = 13) : let j := s.jobAt a
    (∀ k, k < 2 → j.alg = k + 1 →
      (s.f Fl.SIG_KSTAT_GEN k = 0 → Effect .jobPublicKeyRead s fun u => u.sig.result = some 3) ∧
      (s.f Fl.SIG_KSTAT_GEN k ≠ 0 → Gives a s .jobPublicKeyRead 68 (s.keyPublic k))) ∧
    (j.alg ≠ 1 → j.alg ≠ 2 →
      (s.tlsType j.slot = 0 → Effect .jobPublicKeyRead s fun u => u.sig.result = some 3) ∧
      (s.tlsType j.slot ≠ 0 → Gives a s .jobPublicKeyRead j.dstLen
        (Config.tlsPublic (s.tlsType j.slot) (cellsGet 0 s.sig.tlsKeys j.slot)))) := by
  have hc : RunsJob .jobPublicKeyRead 13 jobPublicKey := ⟨fun _ => rfl⟩
  intro j
  refine ⟨fun k hk ha => ?_, fun h1 h2 => ?_⟩
  · have hf : jobPublicKey j s = if s.f Fl.SIG_KSTAT_GEN k = 0 then (some 3,
      s) else jobOutput j 68 (s.keyPublic k) s := by
      have hk1 : j.alg - 1 = k := by omega
      unfold jobPublicKey
      rw [hk1, if_pos]
      simp only [Bool.or_eq_true, decide_eq_true_eq]
      omega
    exact ⟨fun h0 => hc.ends h hop (hf.trans (if_pos h0)), fun h0 => hc.gives h hop (hf.trans (if_neg h0)) rfl rfl⟩
  · have hf : jobPublicKey j s = if s.tlsType j.slot = 0 then (some 3, s) else
        jobOutput j j.dstLen (Config.tlsPublic (s.tlsType j.slot) (cellsGet 0 s.sig.tlsKeys j.slot)) s := by
      refine if_neg ?_
      simp [h1, h2]
    exact ⟨fun h0 => hc.ends h hop (hf.trans (if_pos h0)), fun h0 => hc.gives h hop (hf.trans (if_neg h0)) rfl rfl⟩

theorem attest_job (h : JobReady a rest s) (hop : (s.jobAt a).op = 14) : let j := s.jobAt a
    (j.srcLen ≠ 32 ∨ j.dstLen < 5187 → Effect .jobAttest s fun u => u.sig.result = some 2) ∧
    (j.srcLen = 32 → 5187 ≤ j.dstLen →
      (s.f Fl.SIG_STAT_ATTTOK = 0 → Effect .jobAttest s fun u => u.sig.result = some 5 ∧
        bitOf (u.f Fl.SIG_STAT_CAUSE) 7 = true) ∧
      (s.f Fl.SIG_STAT_ATTTOK ≠ 0 → Effect .jobAttest s fun u => u.sig.result = none ∧
        u.f Fl.SIG_STAT_ATTTOK = s.f Fl.SIG_STAT_ATTTOK - 1 ∧
        u.sig.queue = s.sig.queue ++
          [{ kind := 4, key := 1, payload := s.report (s.bytes j.src j.srcLen), job := some a }])) := by
  have hc : RunsJob .jobAttest 14 jobAttest := ⟨fun _ => rfl⟩
  intro j
  refine ⟨fun hb => hc.ends h hop (t := s) (if_pos (by simpa using hb)), fun hs hd => ?_⟩
  have hin : ¬ (j.srcLen != 32 || decide (j.dstLen < 5187)) = true := by
    simp only [Bool.or_eq_true, bne_iff_ne, decide_eq_true_eq]
    omega
  have hf : jobAttest j s = attest (s.bytes j.src 32) (some a) none s := if_neg hin
  rw [hs]
  refine ⟨fun h0 => hc.effect h hop (hf.trans (if_pos h0)) ⟨rfl, sigCause_shows 7 (by decide) s⟩,
    fun h0 => hc.effect h hop (hf.trans (if_neg h0)) ⟨rfl, ?_, ?_⟩⟩
  · refine fieldOf_setF_fits s Fl.SIG_STAT_ATTTOK 0 _ (by decide) (by decide) ?_
    exact lt_of_le_of_lt (Nat.sub_le _ _) (State.f_lt s Fl.SIG_STAT_ATTTOK 0)
  · change (s.setF Fl.SIG_STAT_ATTTOK 0 _).sig.queue ++ _ = _
    rw [State.setF_sig]

theorem keygen_started {k : Nat} {s : State} (hk : k < 2)
    (hok : (if k = 0 then s.b Fl.MTR_STAT_CALEN else s.f Fl.SYS_BOOTSTAT_SOURCE == 3) = true) (hg : s.newGen k ≤ 255) :
    (keygen k s).1 = 0 ∧ (if k = 0 then (keygen k s).2.sig.nextGen0 else (keygen k s).2.sig.nextGen1) = some (s.newGen
      k) := by
  have he : keygen k s = (0, spendGen k (s.newGen k) (if k = 0 then { s with sig.nextGen0 := some (s.newGen k) } else
      { s with sig.nextGen1 := some (s.newGen k) })) := by
    refine if_neg ?_
    rw [hok]
    simpa using hg
  rw [he]
  refine ⟨rfl, ?_⟩
  obtain rfl | rfl : k = 0 ∨ k = 1 := by omega
  · rfl
  · rfl

theorem keygen_refused {k : Nat} {s : State}
    (hok : (if k = 0 then s.b Fl.MTR_STAT_CALEN else s.f Fl.SYS_BOOTSTAT_SOURCE == 3) = false) : keygen k s = (6,
      s) := by
  refine if_pos ?_
  rw [hok]
  rfl

theorem keygen_job (h : JobReady a rest s) (hop : (s.jobAt a).op = 15) : let j := s.jobAt a
    (j.alg ≠ 1 → j.alg ≠ 2 → Effect .jobKeygen s fun u => u.sig.result = some 1) ∧
    (j.alg = 1 → s.f Fl.MTR_STAT_CALEN = 0 → Effect .jobKeygen s fun u => u.sig.result = some 6) ∧
    (j.alg = 1 → s.f Fl.MTR_STAT_CALEN = 1 → s.newGen 0 ≤ 255 → Effect .jobKeygen s fun u =>
      u.sig.result = some 0 ∧ u.sig.nextGen0 = some (s.newGen 0)) ∧
    (j.alg = 2 → s.f Fl.SYS_BOOTSTAT_SOURCE ≠ 3 → Effect .jobKeygen s fun u => u.sig.result = some 6) ∧
    (j.alg = 2 → s.f Fl.SYS_BOOTSTAT_SOURCE = 3 → s.newGen 1 ≤ 255 → Effect .jobKeygen s fun u =>
      u.sig.result = some 0 ∧ u.sig.nextGen1 = some (s.newGen 1)) := by
  have hc : RunsJob .jobKeygen 15 jobKeygen := ⟨fun _ => rfl⟩
  intro j
  have hf : ∀ k, k < 2 → j.alg = k + 1 → jobKeygen j s = (some (keygen k s).1, (keygen k s).2) := fun k hk ha => by
    have hk1 : j.alg - 1 = k := by omega
    unfold jobKeygen
    rw [hk1, if_neg]
    simp only [Bool.and_eq_true, bne_iff_ne]
    omega
  refine ⟨fun h1 h2 => hc.ends h hop (t := s) (if_pos ?_), fun ha h0 => ?_, fun ha h1 hg => ?_, fun ha hs => ?_,
    fun ha hs hg => ?_⟩
  · rw [Bool.and_eq_true, bne_iff_ne, bne_iff_ne]
    exact ⟨h1, h2⟩
  · exact hc.ends h hop (t := s) ((hf 0 (by decide) ha).trans (by rw [keygen_refused (k := 0) (b_false h0)]))
  · obtain ⟨k1, k2⟩ := keygen_started (k := 0) (by decide) (b_true h1) hg
    exact hc.effect h hop (hf 0 (by decide) ha) ⟨congrArg some k1, k2⟩
  · exact hc.ends h hop (t := s) ((hf 1 (by decide) ha).trans (by rw [keygen_refused (k := 1) (beq_eq_false_iff_ne.mpr
      hs)]))
  · obtain ⟨k1, k2⟩ := keygen_started (k := 1) (by decide) (beq_iff_eq.mpr hs) hg
    exact hc.effect h hop (hf 1 (by decide) ha) ⟨congrArg some k1, k2⟩

theorem random_job (h : JobReady a rest s) (hop : (s.jobAt a).op = 16) : let j := s.jobAt a
    ∃ x, Gives a s .jobRandom j.dstLen (Config.randomBytes x j.dstLen) := by
  have hc : RunsJob .jobRandom 16 jobRandom := ⟨fun _ => rfl⟩
  exact ⟨s.draw.1, hc.gives h hop (t := s.draw.2) rfl rfl rfl⟩

end Rules

/-- Settles O37: each operation by the rule of its job. -/
theorem cryptoJobs : Obligations.CryptoJobs := by
  intro a rest s hj hr j fits hs hd hx
  have h : JobReady a rest s := ⟨hj, hr, hs, hd, hx⟩
  exact ⟨hash_job h, hmac_job h, hkdfExtract_job h, hkdfExpand_job h, fun enc ho => aesGcm_job enc h ho,
    fun ho => (ecdheKeygen_job h ho).1, fun ho => (ecdheKeygen_job h ho).2, ecdheDerive_job h, sign_job h, verify_job h,
    fun ho => (tlsKeygen_job h ho).1, fun ho => (tlsKeygen_job h ho).2, tlsErase_job h, publicKey_job h, attest_job h,
    keygen_job h, random_job h⟩

end Sys2Proof.Machine

/-! ## Vector instructions (R121 to R126) -/

namespace Sys2Proof.Machine

set_option Elab.async false

/-! ### Saturation and rounding (R121, R125) -/

/-- The nearest value of `w` bits. -/
def clipped (w : Nat) (x : Int) : Int := max (-(2 ^ (w - 1))) (min (2 ^ (w - 1) - 1) x)

theorem saturate_fst (w : Nat) (x : Int) : (saturate w x).1 = clipped w x := by
  have hp : (1 : Int) ≤ 2 ^ (w - 1) := one_le_pow₀ (by decide)
  unfold saturate clipped
  dsimp only
  generalize (2 : Int) ^ (w - 1) = p at hp
  split
  · dsimp only
    omega
  · split
    · dsimp only
      omega
    · dsimp only
      omega

/-- The shift of an accumulator with rounding to nearest. -/
def rounding (x : Int) (k : Int) : Int :=
  if k ≤ 0 then x * 2 ^ (-k).toNat else if k ≤ 63 then (x + 2 ^ (k.toNat - 1)) / 2 ^ k.toNat else 0

theorem roundShift_eq (x k : Int) : roundShift x k = rounding x k := by
  unfold roundShift rounding floorDiv
  rw [Int.fdiv_eq_ediv_of_nonneg _ (Int.natCast_nonneg _)]
  push_cast
  rfl

theorem natAbs_eq_ite (x : Int) : ((x.natAbs : Nat) : Int) = if x < 0 then -x else x := by
  split <;> omega

/-! ### A lane's step -/

/-- What an instruction writes of engine lane `i`, whose cell is `c`. -/
def laneWritten (i c : Nat) (r : LaneStep) (s : State) : State :=
  let s := { s with lpe.lanes := s.lpe.lanes.setIfInBounds i r.lane }
  let s := match r.st with | none => s | some e => setCellSt c e.1 e.2 s
  match r.out with | none => s | some e => setCellOut c e.1 e.2 s

theorem vecLane_eq (op : VecOp) (i : Nat) (s : State) : vecLane op i s =
    if bitOf s.lpe.curMask i then
      (laneWritten i (16 * s.lpe.cur + i) (op.onLane (s.cellSt (16 * s.lpe.cur + i)) (s.lane i)) s).when
        (op.onLane (s.cellSt (16 * s.lpe.cur + i)) (s.lane i)).sat (satFlag i)
    else s := rfl

theorem satFlag_lpe (i : Nat) (s : State) : (satFlag i s).lpe = s.lpe :=
  (State.causeOn_lpe ..).trans (State.setFBit_lpe ..)

theorem when_satFlag_lpe (i : Nat) (s : State) (c : Bool) : (s.when c (satFlag i)).lpe = s.lpe :=
  State.when_cases (P := fun u => u.lpe = s.lpe) (fun _ => rfl) fun _ => satFlag_lpe i s

theorem lane_of_lpe {s u : State} (h : u.lpe = s.lpe) (i : Nat) : u.lane i = s.lane i := by rw [State.lane,
  State.lane, h]

theorem cellSt_of_lpe {s u : State} (h : u.lpe = s.lpe) (c : Nat) : u.cellSt c = s.cellSt c := by
  funext k
  rw [State.cellSt, State.cellSt, h]

theorem cellOut_of_lpe {s u : State} (h : u.lpe = s.lpe) (c k : Nat) : u.cellOut c k = s.cellOut c k := by
  rw [State.cellOut, State.cellOut, h]

theorem laneWritten_own {i : Nat} (hi : i < 16) (c : Nat) (r : LaneStep) (s : State) : (laneWritten i c r s).lane i =
  r.lane := by
  have h : (s.lpe.lanes.setIfInBounds i r.lane).toList.getD i {} = r.lane := memberOf_set_same s.lpe.lanes _ {} hi
  unfold laneWritten
  cases r.st <;> cases r.out <;> exact h

theorem laneWritten_other {i j : Nat} (hj : j ≠ i) (c : Nat) (r : LaneStep) (s : State) :
    (laneWritten j c r s).lane i = s.lane i := by
  have h : (s.lpe.lanes.setIfInBounds j r.lane).toList.getD i {} = s.lane i := memberOf_set_other s.lpe.lanes _ {} hj
  unfold laneWritten
  cases r.st <;> cases r.out <;> exact h

/-- The batch the lanes work on, and the cells enabled in it. -/
def batchPart (s : State) : Nat × Nat := (s.lpe.cur, s.lpe.curMask)

theorem laneWritten_batch (i c : Nat) (r : LaneStep) (s : State) : batchPart (laneWritten i c r s) = batchPart s := by
  unfold laneWritten
  cases r.st <;> cases r.out <;> rfl

theorem laneWritten_sts {r : LaneStep} (h : r.st = none) (i c : Nat) (s : State) : (laneWritten i c r s).lpe.sts =
  s.lpe.sts := by
  unfold laneWritten
  rw [h]
  cases r.out <;> rfl

theorem laneWritten_st {r : LaneStep} {k : Nat} {v : Int} (h : r.st = some (k, v)) (i c : Nat) (s : State) :
    (laneWritten i c r s).lpe.sts = cellsPut (0 : Int) s.lpe.sts (8 * c + k) v := by
  unfold laneWritten
  rw [h]
  cases r.out <;> rfl

theorem laneWritten_out {r : LaneStep} {k : Nat} {v : Int} (h : r.out = some (k, v)) (i c : Nat) (s : State) :
    (laneWritten i c r s).lpe.outs = cellsPut (0 : Int) s.lpe.outs (4 * c + k) v := by
  unfold laneWritten
  rw [h]
  cases r.st <;> rfl

/-! ### An instruction on all lanes -/

theorem vecLane_batch (op : VecOp) (i : Nat) (s : State) : batchPart (vecLane op i s) = batchPart s := by
  rw [vecLane_eq]
  split
  · exact (congrArg (fun l : LpeState => (l.cur, l.curMask)) (when_satFlag_lpe i _ _)).trans (laneWritten_batch ..)
  · rfl

theorem vecLane_other {i j : Nat} (hj : j ≠ i) (op : VecOp) (s : State) : (vecLane op j s).lane i = s.lane i := by
  rw [vecLane_eq]
  split
  · exact (lane_of_lpe (when_satFlag_lpe j _ _) i).trans (laneWritten_other hj ..)
  · rfl

theorem vecLane_own {i : Nat} (hi : i < 16) (op : VecOp) (s : State) : (vecLane op i s).lane i =
    if bitOf s.lpe.curMask i then (op.onLane (s.cellSt (16 * s.lpe.cur + i)) (s.lane i)).lane else s.lane i := by
  rw [vecLane_eq]
  split
  · exact (lane_of_lpe (when_satFlag_lpe i _ _) i).trans (laneWritten_own hi ..)
  · rfl

/-- An instruction that writes no state word. -/
def KeepsStates (op : VecOp) : Prop := ∀ st x, (op.onLane st x).st = none

theorem vecLane_sts {op : VecOp} (h : KeepsStates op) (i : Nat) (s : State) : (vecLane op i s).lpe.sts = s.lpe.sts := by
  rw [vecLane_eq]
  split
  · exact (congrArg LpeState.sts (when_satFlag_lpe i _ _)).trans (laneWritten_sts (h _ _) ..)
  · rfl

theorem cellSt_of_sts {s u : State} (h : u.lpe.sts = s.lpe.sts) (c : Nat) : u.cellSt c = s.cellSt c := by
  funext k
  rw [State.cellSt, State.cellSt, h]

/-- An instruction that writes no state word works on each lane's own context and its cell's state words. -/
theorem vecAll_lane {op : VecOp} (h : KeepsStates op) {i : Nat} (hi : i < 16) (s : State) : (vecAll op s).lane i =
    if bitOf s.lpe.curMask i then (op.onLane (s.cellSt (16 * s.lpe.cur + i)) (s.lane i)).lane else s.lane i := by
  refine State.each_once (f := vecLane op)
    (R := fun u => batchPart u = batchPart s ∧ u.lpe.sts = s.lpe.sts ∧ u.lane i = s.lane i)
    (Q := fun u => u.lane i =
      if bitOf s.lpe.curMask i then (op.onLane (s.cellSt (16 * s.lpe.cur + i)) (s.lane i)).lane else s.lane i) hi
    (fun j u hj hu => ⟨(vecLane_batch op j u).trans hu.1, (vecLane_sts h j u).trans hu.2.1,
      (vecLane_other hj op u).trans hu.2.2⟩)
    (fun j u hj hu => (vecLane_other hj op u).trans hu) (fun u hu => ?_) ⟨rfl, rfl, rfl⟩
  obtain ⟨hb, hs, hl⟩ := hu
  have hcur : u.lpe.cur = s.lpe.cur := congrArg (·.1) hb
  have hmask : u.lpe.curMask = s.lpe.curMask := congrArg (·.2) hb
  rw [vecLane_own hi, hcur, hmask, hl, cellSt_of_sts hs]

/-- An instruction that stores a word of each lane for its cell. -/
structure StoresWord (op : VecOp) (k : Nat) (v : LaneCtx → Int) : Prop where
  lane : ∀ st x, (op.onLane st x).lane = x
  word : ∀ st x, (op.onLane st x).st = some (k, v x)

theorem vecLane_keeps {op : VecOp} (h : ∀ st x,
  (op.onLane st x).lane = x) {i : Nat} (hi : i < 16) (j : Nat) (s : State) :
    (vecLane op j s).lane i = s.lane i := by
  by_cases hj : j = i
  · subst hj
    rw [vecLane_own hi, h]
    exact ite_self _
  · exact vecLane_other hj op s

theorem vecAll_keeps {op : VecOp} (h : ∀ st x, (op.onLane st x).lane = x) {i : Nat} (hi : i < 16) (s : State) :
    (vecAll op s).lane i = s.lane i :=
  State.each_induct (f := vecLane op) (P := fun u => u.lane i = s.lane i) (fun j u hu => (vecLane_keeps h hi j
    u).trans hu) rfl 16

theorem vecLane_st_other {op : VecOp} {k : Nat} {v : LaneCtx → Int} (h : StoresWord op k v) {i j : Nat} (hj : j ≠ i)
  (s : State) :
    (vecLane op j s).cellSt (16 * s.lpe.cur + i) k = s.cellSt (16 * s.lpe.cur + i) k := by
  rw [vecLane_eq]
  split
  · rw [cellSt_of_lpe (when_satFlag_lpe j _ _), State.cellSt, laneWritten_st (h.word _ _)]
    exact cellsGet_put_ne _ _ _ _ (by omega)
  · rfl

theorem vecLane_st_own {op : VecOp} {k : Nat} {v : LaneCtx → Int} (h : StoresWord op k v) {i : Nat} {s : State}
    (hm : bitOf s.lpe.curMask i = true) : (vecLane op i s).cellSt (16 * s.lpe.cur + i) k = v (s.lane i) := by
  rw [vecLane_eq, if_pos hm, cellSt_of_lpe (when_satFlag_lpe i _ _), State.cellSt, laneWritten_st (h.word _ _)]
  exact cellsGet_put_same _ _ _ _

/-- A state word stored by every enabled lane for its own cell. -/
theorem vecAll_st {op : VecOp} {k : Nat} {v : LaneCtx → Int} (h : StoresWord op k v) {i : Nat} (hi : i < 16) {s : State}
    (hm : bitOf s.lpe.curMask i = true) : (vecAll op s).cellSt (16 * s.lpe.cur + i) k = v (s.lane i) := by
  refine (State.each_once (f := vecLane op) (R := fun u => batchPart u = batchPart s ∧ u.lane i = s.lane i)
    (Q := fun u => batchPart u = batchPart s ∧ u.cellSt (16 * s.lpe.cur + i) k = v (s.lane i)) hi
    (fun j u _ hu => ⟨(vecLane_batch op j u).trans hu.1, (vecLane_keeps h.lane hi j u).trans hu.2⟩)
    (fun j u hj hu => ⟨(vecLane_batch op j u).trans hu.1, ?_⟩) (fun u hu => ⟨(vecLane_batch op i u).trans hu.1, ?_⟩)
    ⟨rfl, rfl⟩).2
  · have hcur : u.lpe.cur = s.lpe.cur := congrArg (·.1) hu.1
    rw [← hcur, vecLane_st_other h hj, hcur, hu.2]
  · have hcur : u.lpe.cur = s.lpe.cur := congrArg (·.1) hu.1
    have hmask : u.lpe.curMask = s.lpe.curMask := congrArg (·.2) hu.1
    rw [← hcur, vecLane_st_own h (by rw [hmask]; exact hm), hu.2]

theorem vecLane_out_other {k i j : Nat} (va : Nat) (hj : j ≠ i) (hk : k < 4) (s : State) :
    (vecLane (.sto va k) j s).cellOut (16 * s.lpe.cur + i) k = s.cellOut (16 * s.lpe.cur + i) k := by
  rw [vecLane_eq]
  split
  · rw [cellOut_of_lpe (when_satFlag_lpe j _ _), State.cellOut, laneWritten_out (k := k) (v := (s.lane j).reg va) rfl]
    exact cellsGet_put_ne _ _ _ _ (by omega)
  · rfl

theorem vecLane_out_own {k i : Nat} (va : Nat) {s : State} (hm : bitOf s.lpe.curMask i = true) :
    (vecLane (.sto va k) i s).cellOut (16 * s.lpe.cur + i) k = (s.lane i).reg va := by
  rw [vecLane_eq, if_pos hm, cellOut_of_lpe (when_satFlag_lpe i _ _), State.cellOut,
    laneWritten_out (k := k) (v := (s.lane i).reg va) rfl]
  exact cellsGet_put_same _ _ _ _

theorem sto_keeps (va k : Nat) (st : Nat → Int) (x : LaneCtx) : ((VecOp.sto va k).onLane st x).lane = x := rfl

theorem vecAll_out {k i : Nat} (va : Nat) (hk : k < 4) (hi : i < 16) {s : State} (hm : bitOf s.lpe.curMask i = true) :
    (vecAll (.sto va k) s).cellOut (16 * s.lpe.cur + i) k = (s.lane i).reg va := by
  refine (State.each_once (f := vecLane (.sto va k)) (R := fun u => batchPart u = batchPart s ∧ u.lane i = s.lane i)
    (Q := fun u => batchPart u = batchPart s ∧ u.cellOut (16 * s.lpe.cur + i) k = (s.lane i).reg va) hi
    (fun j u _ hu => ⟨(vecLane_batch _ j u).trans hu.1, (vecLane_keeps (sto_keeps va k) hi j u).trans hu.2⟩)
    (fun j u hj hu => ⟨(vecLane_batch _ j u).trans hu.1, ?_⟩) (fun u hu => ⟨(vecLane_batch _ i u).trans hu.1, ?_⟩)
    ⟨rfl, rfl⟩).2
  · have hcur : u.lpe.cur = s.lpe.cur := congrArg (·.1) hu.1
    rw [← hcur, vecLane_out_other va hj hk, hcur, hu.2]
  · have hcur : u.lpe.cur = s.lpe.cur := congrArg (·.1) hu.1
    have hmask : u.lpe.curMask = s.lpe.curMask := congrArg (·.2) hu.1
    rw [← hcur, vecLane_out_own va (by rw [hmask]; exact hm), hu.2]

/-! ### The instructions -/

/-- Every enabled lane's context becomes `y` of it and of its cell's state words. -/
def Lanes (s : State) (c : Instr) (y : LaneCtx → (Nat → Int) → LaneCtx) : Prop := Effect c s fun u => ∀ i, i < 16 →
  u.lane i = if bitOf s.lpe.curMask i then y (s.lane i) (s.cellSt (16 * s.lpe.cur + i)) else s.lane i

theorem lanes_of {c : Instr} {s : State} {op : VecOp} {y : LaneCtx → (Nat → Int) → LaneCtx} (hc : exec c s = done
  (vecAll op s))
    (hk : KeepsStates op) (h : ∀ st x, (op.onLane st x).lane = y x st) : Lanes s c y :=
  effect_done hc fun i hi => by rw [vecAll_lane hk hi, h]

/-- A constant index that is not 0 is legal. -/
theorem legal_index {k : BitVec 4} (h : k ≠ 0) (op : VecOp) (s : State) : vecLegal (k != 0) op s = vecAll op s :=
  if_pos (bne_iff_ne.mpr h)

/-- A word stored by the enabled lane `i`. -/
theorem stores_of {c : Instr} {s : State} {op : VecOp} {k : Nat} {v : LaneCtx → Int} (hc : exec c s = done (vecAll op
  s))
    (h : StoresWord op k v) {i : Nat} (hi : i < 16) (hm : bitOf s.lpe.curMask i = true) : Effect c s fun u =>
      u.cellSt (16 * s.lpe.cur + i) k = v (s.lane i) ∧ u.lane i = s.lane i :=
  effect_done hc ⟨vecAll_st h hi hm, vecAll_keeps h.lane hi s⟩

theorem reg_instructions (vd va vb : LaneReg) (s : State) :
    (∀ k, Lanes s (.vldi vd k) fun x _ => x.setReg vd.toNat (x.ins.toList.getD k.toNat 0)) ∧
    (∀ k, Lanes s (.vldsv vd k) fun x st => x.setReg vd.toNat (signedOf 24 (unsignedOf 24 (st k.toNat)))) ∧
    Lanes s (.vadd vd va vb) (fun x _ => x.setReg vd.toNat (clipped 24 (x.reg va.toNat + x.reg vb.toNat))) ∧
    Lanes s (.vsub vd va vb) (fun x _ => x.setReg vd.toNat (clipped 24 (x.reg va.toNat - x.reg vb.toNat))) ∧
    (∀ lo hi, lo ≠ 0 → hi ≠ 0 → Lanes s (.vlim vd va lo hi) fun x _ =>
      x.setReg vd.toNat (min (max (x.reg va.toNat) (x.mant lo.toNat)) (x.mant hi.toNat))) ∧
    Lanes s (.vseli vd va vb) (fun x _ => x.setReg vd.toNat (if x.init then x.reg va.toNat else x.reg vb.toNat)) ∧
    Lanes s (.vsel vd va vb) (fun x _ => x.setReg vd.toNat (if x.flag then x.reg va.toNat else x.reg vb.toNat)) ∧
    Lanes s (.vcmp va vb) (fun x _ => { x with flag := decide (x.reg va.toNat < x.reg vb.toNat) }) ∧
    Lanes s (.vfe va) (fun x _ => { x with fe := some (x.reg va.toNat) }) ∧
    Lanes s (.vabs vd va) (fun x _ =>
      x.setReg vd.toNat (clipped 24 (if x.reg va.toNat < 0 then -x.reg va.toNat else x.reg va.toNat))) ∧
    (∀ k, k ≠ 0 → Lanes s (.vkld vd k) fun x _ => x.setReg vd.toNat (x.mant k.toNat)) ∧
    (∀ acs sg d, Lanes s (.vcls vd acs sg d) fun x _ =>
      x.setReg vd.toNat (clipped 24 (rounding (x.acc acs.toNat) (23 + d.toInt - x.expo sg.toNat)))) ∧
    (∀ i k, i < 16 → bitOf s.lpe.curMask i = true → Effect (.vsto va k) s fun u =>
      u.cellOut (16 * s.lpe.cur + i) k.toNat = (s.lane i).reg va.toNat ∧ u.lane i = s.lane i) ∧
    ∀ i k, i < 16 → bitOf s.lpe.curMask i = true → Effect (.vstsv va k) s fun u =>
      u.cellSt (16 * s.lpe.cur + i) k.toNat = (s.lane i).reg va.toNat ∧ u.lane i = s.lane i := by
  refine ⟨fun k => lanes_of rfl (fun _ _ => rfl) fun _ _ => rfl, fun k => lanes_of rfl (fun _ _ => rfl) fun _ _ => rfl,
    lanes_of rfl (fun _ _ => rfl) fun _ x => congrArg (x.setReg _) (saturate_fst 24 _),
    lanes_of rfl (fun _ _ => rfl) fun _ x => congrArg (x.setReg _) (saturate_fst 24 _), fun lo hi hl hh => ?_,
    lanes_of rfl (fun _ _ => rfl) fun _ _ => rfl, lanes_of rfl (fun _ _ => rfl) fun _ _ => rfl,
    lanes_of rfl (fun _ _ => rfl) fun _ _ => rfl, lanes_of rfl (fun _ _ => rfl) fun _ _ => rfl,
    lanes_of rfl (fun _ _ => rfl) fun _ x => ?_, fun k hk => ?_, fun acs sg d => ?_, fun i k hi hm => ?_,
      fun i k hi hm => ?_⟩
  · refine lanes_of (op := .lim vd.toNat va.toNat lo.toNat hi.toNat) (congrArg done (if_pos ?_)) (fun _ _ => rfl) fun
      _ _ => rfl
    rw [bne_iff_ne.mpr hl, bne_iff_ne.mpr hh]
    rfl
  · rw [← natAbs_eq_ite]
    exact congrArg (x.setReg _) (saturate_fst 24 _)
  · exact lanes_of (congrArg done (legal_index hk (.kld vd.toNat k.toNat) s)) (fun _ _ => rfl) fun _ _ => rfl
  · exact lanes_of rfl (fun _ _ => rfl) fun _ x => congrArg (x.setReg _) ((saturate_fst 24 _).trans (by
      rw [roundShift_eq]))
  · exact effect_done rfl ⟨vecAll_out va.toNat k.isLt hi hm, vecAll_keeps (sto_keeps _ _) hi s⟩
  · exact stores_of (op := .stsv va.toNat k.toNat) (v := fun x => x.reg va.toNat) rfl ⟨fun _ _ => rfl,
      fun _ _ => rfl⟩ hi hm

theorem acc_instructions (acd : AccReg) (va vb : LaneReg) (s : State) :
    (∀ k, Lanes s (.vlds acd k) fun x st => x.setAcc acd.toNat (st k.toNat)) ∧
    (∀ i k, i < 16 → bitOf s.lpe.curMask i = true → Effect (.vsts acd k) s fun u =>
      u.cellSt (16 * s.lpe.cur + i) k.toNat = (s.lane i).acc acd.toNat ∧ u.lane i = s.lane i) ∧
    Lanes s (.vclr acd) (fun x _ => x.setAcc acd.toNat 0) ∧
    Lanes s (.vclri acd) (fun x _ => if x.init then x.setAcc acd.toNat 0 else x) ∧
    (∀ k, k ≠ 0 → Lanes s (.vmac acd va k) fun x _ =>
      x.setAcc acd.toNat (clipped 56 (x.acc acd.toNat + x.reg va.toNat * x.mant k.toNat))) ∧
    (∀ k, k ≠ 0 → Lanes s (.vmsc acd va k) fun x _ =>
      x.setAcc acd.toNat (clipped 56 (x.acc acd.toNat - x.reg va.toNat * x.mant k.toNat))) ∧
    Lanes s (.vmacv acd va vb) (fun x _ =>
      x.setAcc acd.toNat (clipped 56 (x.acc acd.toNat + x.reg va.toNat * x.reg vb.toNat))) ∧
    (∀ sg d, Lanes s (.vopen acd va sg d) fun x _ =>
      let j := 23 + d.toInt - x.expo sg.toNat
      x.setAcc acd.toNat (if 0 ≤ j then clipped 56 (x.reg va.toNat * 2 ^ j.toNat) else rounding (x.reg va.toNat)
        (-j))) ∧
    Effect (.vmac acd va 0) s fun u => u = s := by
  refine ⟨fun k => lanes_of rfl (fun _ _ => rfl) fun _ _ => rfl,
    fun i k hi hm => stores_of (op := .sts acd.toNat k.toNat) (v := fun x => x.acc acd.toNat) rfl
      ⟨fun _ _ => rfl, fun _ _ => rfl⟩ hi hm,
    lanes_of rfl (fun _ _ => rfl) fun _ _ => rfl, lanes_of rfl (fun _ x => ?_) fun _ x => ?_, fun k hk => ?_,
      fun k hk => ?_,
    lanes_of rfl (fun _ _ => rfl) fun _ x => congrArg (x.setAcc _) (saturate_fst 56 _), fun sg d => ?_,
      effect_done rfl rfl⟩
  · change (if x.init then laneAcc x acd.toNat (0, false) else { lane := x }).st = none
    split <;> rfl
  · change (if x.init then laneAcc x acd.toNat (0, false) else { lane := x }).lane = _
    split <;> rfl
  · exact lanes_of (congrArg done (legal_index hk (.mac acd.toNat va.toNat k.toNat) s)) (fun _ _ => rfl)
      fun _ x => congrArg (x.setAcc _) (saturate_fst 56 _)
  · exact lanes_of (congrArg done (legal_index hk (.msc acd.toNat va.toNat k.toNat) s)) (fun _ _ => rfl)
      fun _ x => congrArg (x.setAcc _) (saturate_fst 56 _)
  · refine lanes_of rfl (fun _ _ => rfl) fun _ x => congrArg (x.setAcc _) ?_
    unfold openStage
    dsimp only
    split
    · exact saturate_fst 56 _
    · exact roundShift_eq _ _

/-- Settles O22: each instruction by what it does on one lane. -/
theorem vectorInstructions : Obligations.VectorInstructions := by
  intro s lanes clip rounded
  exact ⟨lanes_of (op := .nop) rfl (fun _ _ => rfl) fun _ _ => rfl, fun vd va vb => reg_instructions vd va vb s,
    fun acd va vb => acc_instructions acd va vb s⟩

end Sys2Proof.Machine

/-! ## Configuration of the loop engine (R112 to R150) -/

namespace Sys2Proof.Machine

set_option Elab.async false

/-! ### Fields of a word written -/

/-- Bits that a mask holds are read through it. -/
theorem bitsOf_and (w m : Word) (l n : Nat) (h : ∀ j, j < n → m.getLsbD (l + j) = true) :
    bitsOf (w &&& m) l n = bitsOf w l n := by
  apply Nat.eq_of_testBit_eq
  intro j
  rw [testBit_bitsOf, testBit_bitsOf, BitVec.getLsbD_and]
  by_cases hj : j < n
  · rw [h j hj, Bool.and_true]
  · simp [hj]

theorem fieldOf_setReg_word (s : State) (fl : Fld) (i : Nat) (w : Word) (hi : i < fl.reg.count) :
    fieldOf (s.setReg fl.reg i w).regs fl i = bitsOf w fl.lsb fl.width :=
  congrArg (bitsOf · fl.lsb fl.width) (regOf_setReg_same s fl.reg i w hi)

/-! ### What the operations of the engine leave -/

/-- Cause `k` of the loop engine is shown. -/
def LpeShows (k : Nat) (s : State) : Prop := bitOf (s.f ⟨R.LPE_STAT, 0, 9⟩) k = true

theorem lpeCause_shows (j : Nat) (hj : j < 9) (s : State) : LpeShows j (lpeCause j s) :=
  bitOf_causeOn _ _ _ _ _ _ (by decide) (by decide) hj (by decide)

theorem lpeCause_lpe (j : Nat) (s : State) : (lpeCause j s).lpe = s.lpe := State.causeOn_lpe ..

/-- The registers that the loop engine's causes and loads show. -/
def loadRegs : List Rg := [R.EVT_PEND, R.LPE_LOAD, R.LPE_STAT, R.LPE_TLOAD]

theorem regOf_lpeCause {r : Rg} (j i : Nat) (s : State) (h : R.LPE_STAT.apart r = true) (hp : R.EVT_PEND.apart r =
  true) :
    regOf (lpeCause j s).regs r i = regOf s.regs r i := regOf_causeOn _ _ _ _ _ _ _ _ h hp

theorem fieldOf_lpeCause {fl : Fld} (j i : Nat) (s : State) (h : (⟨R.LPE_STAT, 0, 9⟩ : Fld).apart fl = true)
    (hp : Fl.EVT_PEND_PEND.apart fl = true) : fieldOf (lpeCause j s).regs fl i = fieldOf s.regs fl i :=
  fieldOf_causeOn _ _ _ _ _ _ _ _ h hp

/-- Everything but the state of the loop engine. -/
def butLpe : Part := { besideMemory with lpe := false, mem := true, pending := true }

theorem showLoad_lpe (s : State) : (showLoad s).lpe = s.lpe :=
  State.lpe_of_without (A := butLpe) (showLoad_writes rfl rfl rfl rfl s) rfl

theorem fieldOf_showLoad {fl : Fld} (i : Nat) (s : State)
    (h : (!regsIn loadRegs fl.reg.addr && decide (fl.reg.count ≤ 65536)) = true) :
    fieldOf (showLoad s).regs fl i = fieldOf s.regs fl i :=
  fieldOf_onlyRegs (l := loadRegs) (showLoad_writes (by decide) (by decide) (by decide) (by decide) s) i h

theorem initSlots_regs (l : List Nat) (s : State) : (initSlots l s).regs = s.regs := rfl

theorem lg_of_groups {s u : State} (h : u.lpe.group = s.lpe.group) (g : Nat) : u.lg g = s.lg g := by rw [State.lg,
  State.lg, h]

theorem lg_setLg_same {g : Nat} (hg : g < 8) (s : State) (f : LpeGroup → LpeGroup) : (s.setLg g f).lg g = f (s.lg g) :=
  memberOf_set_same s.lpe.group _ {} hg

/-! ### Batches (R112, R132) -/

/-- Fields of BATCH that are written as they are given. -/
def batchFlds : List Fld := [Fl.LPE_BATCH_EN, Fl.LPE_BATCH_GROUP, Fl.LPE_BATCH_KERNEL, Fl.LPE_BATCH_MASK]

theorem batch_field_kept {fl : Fld} (h : fl ∈ batchFlds) (w : Word) :
    bitsOf (w &&& R.LPE_BATCH.rw) fl.lsb fl.width = bitsOf w fl.lsb fl.width := by
  have hall : ∀ fl ∈ batchFlds, ∀ j, j < fl.width → R.LPE_BATCH.rw.getLsbD (fl.lsb + j) = true := by decide
  exact bitsOf_and _ _ _ _ (hall fl h)

theorem batch_field_place {fl : Fld} (h : fl ∈ batchFlds) : fl.reg = R.LPE_BATCH ∧ fl.lsb + fl.width ≤ 32 := by
  have hall : ∀ fl ∈ batchFlds, fl.reg = R.LPE_BATCH ∧ fl.lsb + fl.width ≤ 32 := by decide
  exact hall fl h

theorem batch_fields_apart {fl fl' : Fld} (h : fl ∈ batchFlds) (h' : fl' ∈ batchFlds) (hne : fl ≠ fl') :
    fl.lsb + fl.width ≤ fl'.lsb ∨ fl'.lsb + fl'.width ≤ fl.lsb := by
  have hall : ∀ fl ∈ batchFlds, ∀ fl' ∈ batchFlds, fl ≠ fl' →
      (fl.lsb + fl.width ≤ fl'.lsb ∨ fl'.lsb + fl'.width ≤ fl.lsb) := by decide
  exact hall fl h fl' h' hne

/-- BATCH of batch `b` with field `fl` written. -/
def batchNew (fl : Fld) (b v : Nat) (s : State) : State :=
  s.setReg R.LPE_BATCH b (withBits (s.reg R.LPE_BATCH b) fl.lsb fl.width v &&& R.LPE_BATCH.rw)

theorem fieldOf_batchNew {fl fl' : Fld} (h : fl ∈ batchFlds) (h' : fl' ∈ batchFlds) {b : Nat} (hb : b < 64) (v : Nat)
  (s : State) :
    fieldOf (batchNew fl b v s).regs fl' b = if fl = fl' then v % 2 ^ fl.width else fieldOf s.regs fl' b := by
  obtain ⟨hr, hw⟩ := batch_field_place h'
  have hb' : b < R.LPE_BATCH.count := lt_of_lt_of_le hb (by decide)
  have hreg : regOf (batchNew fl b v s).regs R.LPE_BATCH b = withBits (s.reg R.LPE_BATCH b) fl.lsb fl.width v &&&
    R.LPE_BATCH.rw :=
    regOf_setReg_same s _ b _ hb'
  change bitsOf (regOf (batchNew fl b v s).regs fl'.reg b) _ _ = _
  rw [hr, hreg, batch_field_kept h']
  split
  next he =>
    subst he
    exact bitsOf_withBits_same _ _ _ _ hw
  next hne =>
    rw [bitsOf_withBits_apart _ _ _ _ _ _ (batch_fields_apart h h' hne)]
    change _ = bitsOf (s.reg fl'.reg b) _ _
    rw [hr]

/-- A batch moves on with its enable: it starts, or its start is pending while it stops; it stops, at once without its
grid. -/
def batchMoved (b : Nat) (was : Bool) (st : Nat) (s : State) : State :=
  if s.b Fl.LPE_BATCH_EN b && !was then
    if st == 2 then s.setF Fl.LPE_BSTAT_STATE b 3
    else initSlots (maskSlots b (s.f Fl.LPE_BATCH_MASK b))
      ((s.setF Fl.LPE_BSTAT_STATE b 1).setLb b fun x =>
        { x with kernel := s.f Fl.LPE_BATCH_KERNEL b, mask := s.f Fl.LPE_BATCH_MASK b })
  else if !s.b Fl.LPE_BATCH_EN b && was then
    s.setF Fl.LPE_BSTAT_STATE b (if (s.lg (s.f Fl.LPE_BATCH_GROUP b)).grid && st != 0 then 2 else 0)
  else s

theorem batchAccept_eq (fl : Fld) (b v : Nat) (s : State) :
    batchAccept b (withBits (s.reg R.LPE_BATCH b) fl.lsb fl.width v) s =
      showLoad (batchMoved b (s.b Fl.LPE_BATCH_EN b) (s.f Fl.LPE_BSTAT_STATE b) (batchNew fl b v s)) := rfl

theorem batchMoved_field {fl : Fld} (hr : fl.reg = R.LPE_BATCH) (b : Nat) (was : Bool) (st i : Nat) (s : State) :
    fieldOf (batchMoved b was st s).regs fl i = fieldOf s.regs fl i := by
  have hset : ∀ v, fieldOf (s.setF Fl.LPE_BSTAT_STATE b v).regs fl i = fieldOf s.regs fl i := fun v =>
    fieldOf_setReg_apart _ _ _ _ _ _ (by rw [hr]; decide)
  unfold batchMoved
  split
  · split
    · exact hset 3
    · exact hset 1
  · split
    · exact hset _
    · rfl

/-- The state that a batch moves to. -/
def batchState (en was grid : Bool) (st : Nat) : Nat :=
  if en && !was then (if st = 2 then 3 else 1) else if !en && was then (if grid && st != 0 then 2 else 0) else st

theorem batchMoved_state {b : Nat} (hb : b < 64) (was : Bool) {st : Nat} (s : State) (hst : fieldOf s.regs
  Fl.LPE_BSTAT_STATE b = st) :
    fieldOf (batchMoved b was st s).regs Fl.LPE_BSTAT_STATE b =
      batchState (s.b Fl.LPE_BATCH_EN b) was (s.lg (s.f Fl.LPE_BATCH_GROUP b)).grid st := by
  have hset : ∀ v, v < 8 → fieldOf (s.setF Fl.LPE_BSTAT_STATE b v).regs Fl.LPE_BSTAT_STATE b = v := fun v hv =>
    fieldOf_setF_fits s Fl.LPE_BSTAT_STATE b v (lt_of_lt_of_le hb (by decide)) (by decide) (lt_of_lt_of_le hv (by
      decide))
  unfold batchMoved batchState
  split
  · by_cases h2 : st = 2
    · rw [if_pos h2, if_pos (beq_iff_eq.mpr h2)]
      exact hset 3 (by decide)
    · rw [if_neg h2, if_neg (fun h => h2 (beq_iff_eq.mp h))]
      exact hset 1 (by decide)
  · split
    · refine hset _ ?_
      split <;> decide
    · exact hst

/-- What a batch accepted shows. -/
theorem batchAccept_shows {fl : Fld} (h : fl ∈ batchFlds) {b : Nat} (hb : b < 64) (v : Nat) (s : State) :
    let u := batchAccept b (withBits (s.reg R.LPE_BATCH b) fl.lsb fl.width v) s
    (∀ fl' ∈ batchFlds, fieldOf u.regs fl' b = if fl = fl' then v % 2 ^ fl.width else fieldOf s.regs fl' b) ∧
    fieldOf u.regs Fl.LPE_BSTAT_STATE b = batchState ((batchNew fl b v s).b Fl.LPE_BATCH_EN b) (s.b Fl.LPE_BATCH_EN b)
      (s.lg ((batchNew fl b v s).f Fl.LPE_BATCH_GROUP b)).grid (s.f Fl.LPE_BSTAT_STATE b) := by
  have hf := fun fl' (h' : fl' ∈ batchFlds) => fieldOf_batchNew h h' hb v s
  have hst : fieldOf (batchNew fl b v s).regs Fl.LPE_BSTAT_STATE b = s.f Fl.LPE_BSTAT_STATE b :=
    fieldOf_setReg_apart _ _ _ _ _ _ (by decide)
  have hlg : ∀ g, (batchNew fl b v s).lg g = s.lg g := fun g => lg_of_groups (congrArg LpeState.group
    (State.setReg_lpe ..)) g
  rw [batchAccept_eq]
  generalize batchNew fl b v s = n at hf hst hlg
  refine ⟨fun fl' h' => ?_, ?_⟩
  · have hr := (batch_field_place h').1
    rw [fieldOf_showLoad _ _ (by rw [hr]; decide), batchMoved_field hr, hf fl' h']
  · rw [fieldOf_showLoad _ _ (by decide), batchMoved_state hb _ n hst, hlg]

/-- What a write of a batch must meet. -/
structure BatchAdmitted (b : Nat) (s n : State) : Prop where
  kernel : n.b Fl.LPE_BATCH_EN b = true → (s.b Fl.LPE_BATCH_EN b = false ∨ n.f Fl.LPE_BATCH_KERNEL b ≠ s.f
    Fl.LPE_BATCH_KERNEL b) →
    s.kernelCheck (n.f Fl.LPE_BATCH_KERNEL b) = 0
  group : n.f Fl.LPE_BATCH_GROUP b < 4
  load : n.b Fl.LPE_BATCH_EN b = true → n.loadOk = true
  launch : n.b Fl.LPE_BATCH_EN b = true → n.launchOk = true

/-- The code of a failed kernel check, where the write starts a kernel. -/
def startCheck (b : Nat) (s n : State) : Nat :=
  if n.b Fl.LPE_BATCH_EN b && (!s.b Fl.LPE_BATCH_EN b || n.f Fl.LPE_BATCH_KERNEL b != s.f Fl.LPE_BATCH_KERNEL b) then
    s.kernelCheck (n.f Fl.LPE_BATCH_KERNEL b) else 0

theorem batchField_eq {b : Nat} (hb : b < 32) (fl : Fld) (v : Nat) (s : State) : batchField fl b v s =
    let n := batchNew fl b v s
    if startCheck b s n != 0 then batchRefuse b (startCheck b s n) s
    else if decide (b < 32) != decide (n.f Fl.LPE_BATCH_GROUP b < 4) then batchRefuse b 3 s
    else if n.b Fl.LPE_BATCH_EN b && !n.loadOk then batchRefuse b 3 s
    else if n.b Fl.LPE_BATCH_EN b && !n.launchOk then batchRefuse b 4 s
    else batchAccept b (withBits (s.reg R.LPE_BATCH b) fl.lsb fl.width v) s := by
  have hguest : (decide (32 ≤ b) && !s.b Fl.LPE_TAKE_ACTIVE) = false := by
    rw [decide_eq_false (by omega)]
    rfl
  unfold batchField
  rw [if_neg (show ¬ 64 ≤ b by omega), guestGate, hguest]
  exact if_neg (show ¬ 64 ≤ b by omega)

theorem startCheck_zero {b : Nat} {s n : State} (h : BatchAdmitted b s n) : startCheck b s n = 0 := by
  unfold startCheck
  split
  next hc =>
    rw [Bool.and_eq_true, Bool.or_eq_true, Bool.not_eq_true', bne_iff_ne] at hc
    exact h.kernel hc.1 hc.2
  next => rfl

theorem batchField_accepts {b : Nat} (hb : b < 32) {fl : Fld} {v : Nat} {s : State} (h : BatchAdmitted b s (batchNew
  fl b v s)) :
    batchField fl b v s = batchAccept b (withBits (s.reg R.LPE_BATCH b) fl.lsb fl.width v) s := by
  have hk := startCheck_zero h
  rw [batchField_eq hb]
  dsimp only
  rw [hk, if_neg (by decide), if_neg, if_neg, if_neg]
  · intro hc
    rw [Bool.and_eq_true, Bool.not_eq_true'] at hc
    rw [h.launch hc.1] at hc
    exact Bool.noConfusion hc.2
  · intro hc
    rw [Bool.and_eq_true, Bool.not_eq_true'] at hc
    rw [h.load hc.1] at hc
    exact Bool.noConfusion hc.2
  · rw [decide_eq_true hb, decide_eq_true h.group]
    exact Bool.false_ne_true

theorem batchRefuse_shows {b : Nat} (hb : b < 64) {err : Nat} (he : err < 3) (s : State) :
    regOf (batchRefuse b err s).regs R.LPE_BATCH b = regOf s.regs R.LPE_BATCH b ∧
      fieldOf (batchRefuse b err s).regs Fl.LPE_BSTAT_ERR b = err := by
  have heq : batchRefuse b err s = s.setF Fl.LPE_BSTAT_ERR b err := by
    unfold batchRefuse
    rw [decide_eq_false (by omega)]
    rfl
  rw [heq]
  exact ⟨regOf_setF_apart s Fl.LPE_BSTAT_ERR R.LPE_BATCH b b err (by decide),
    fieldOf_setF_fits s Fl.LPE_BSTAT_ERR b err (lt_of_lt_of_le hb (by decide)) (by decide) (lt_of_lt_of_le he (by
      decide))⟩

theorem kernelCheck_lt (s : State) (k : Nat) : s.kernelCheck k < 3 := by
  unfold State.kernelCheck
  dsimp only
  split
  · decide
  · split <;> decide

end Sys2Proof.Machine

/-! ## Configuration of the loop engine: the commands (R112 to R150) -/

namespace Sys2Proof.Machine

set_option Elab.async false

/-! ### Batches -/

/-- The engine's load and its launch admit a configuration. -/
def Fits (x : State) : Prop := x.loadOk = true ∧ x.launchOk = true

theorem batch_group_kept {fl : Fld} (h : fl ∈ batchFlds) (hne : fl ≠ Fl.LPE_BATCH_GROUP) {b : Nat} (hb : b < 32) (v :
  Nat) (s : State) :
    (batchNew fl b v s).f Fl.LPE_BATCH_GROUP b = s.f Fl.LPE_BATCH_GROUP b :=
  (fieldOf_batchNew h (by decide) (by omega) v s).trans (if_neg hne)

theorem batch_enables {b : Nat} (hb : b < 32) {s : State} (hg : s.f Fl.LPE_BATCH_GROUP b < 4) (h0 : s.f
  Fl.LPE_BATCH_EN b = 0)
    (hk : s.kernelCheck (s.f Fl.LPE_BATCH_KERNEL b) = 0) (hf : Fits (batchNew Fl.LPE_BATCH_EN b 1 s)) :
    Effect (.batchEnable b) s fun u => u.f Fl.LPE_BATCH_EN b = 1 ∧
      u.f Fl.LPE_BSTAT_STATE b = (if s.f Fl.LPE_BSTAT_STATE b = 2 then 3 else 1) := by
  have hen : (batchNew Fl.LPE_BATCH_EN b 1 s).f Fl.LPE_BATCH_EN b = 1 :=
    (fieldOf_batchNew (by decide) (by decide) (by omega) 1 s).trans (if_pos rfl)
  have hker : (batchNew Fl.LPE_BATCH_EN b 1 s).f Fl.LPE_BATCH_KERNEL b = s.f Fl.LPE_BATCH_KERNEL b :=
    (fieldOf_batchNew (by decide) (by decide) (by omega) 1 s).trans (if_neg (by decide))
  have hgr := batch_group_kept (fl := Fl.LPE_BATCH_EN) (by decide) (by decide) hb 1 s
  have ha : BatchAdmitted b s (batchNew Fl.LPE_BATCH_EN b 1 s) :=
    ⟨fun _ _ => by rw [hker]; exact hk, by rw [hgr]; exact hg, fun _ => hf.1, fun _ => hf.2⟩
  obtain ⟨a1, a2⟩ := batchAccept_shows (fl := Fl.LPE_BATCH_EN) (by decide) (show b < 64 by omega) 1 s
  refine effect_done (congrArg done (batchField_accepts hb ha)) ⟨(a1 _ (by decide)).trans (if_pos rfl), a2.trans ?_⟩
  rw [b_true hen, b_false h0]
  rfl

theorem batch_enable_refused {b : Nat} (hb : b < 32) {s : State} (h0 : s.f Fl.LPE_BATCH_EN b = 0)
    (hk : s.kernelCheck (s.f Fl.LPE_BATCH_KERNEL b) ≠ 0) : Effect (.batchEnable b) s fun u =>
      u.reg R.LPE_BATCH b = s.reg R.LPE_BATCH b ∧ u.f Fl.LPE_BSTAT_ERR b = s.kernelCheck (s.f Fl.LPE_BATCH_KERNEL b)
        := by
  have hen : (batchNew Fl.LPE_BATCH_EN b 1 s).f Fl.LPE_BATCH_EN b = 1 :=
    (fieldOf_batchNew (by decide) (by decide) (by omega) 1 s).trans (if_pos rfl)
  have hker : (batchNew Fl.LPE_BATCH_EN b 1 s).f Fl.LPE_BATCH_KERNEL b = s.f Fl.LPE_BATCH_KERNEL b :=
    (fieldOf_batchNew (by decide) (by decide) (by omega) 1 s).trans (if_neg (by decide))
  have hc : startCheck b s (batchNew Fl.LPE_BATCH_EN b 1 s) = s.kernelCheck (s.f Fl.LPE_BATCH_KERNEL b) := by
    unfold startCheck
    rw [b_true hen, b_false h0, hker]
    rfl
  have he : batchField Fl.LPE_BATCH_EN b 1 s = batchRefuse b (s.kernelCheck (s.f Fl.LPE_BATCH_KERNEL b)) s := by
    rw [batchField_eq hb]
    dsimp only
    rw [hc]
    exact if_pos (bne_iff_ne.mpr hk)
  exact effect_done (congrArg done he) (batchRefuse_shows (by omega) (kernelCheck_lt _ _) s)

theorem batch_disables {b : Nat} (hb : b < 32) {s : State} (hg : s.f Fl.LPE_BATCH_GROUP b < 4) (h1 : s.f
  Fl.LPE_BATCH_EN b = 1) :
    Effect (.batchDisable b) s fun u => u.f Fl.LPE_BATCH_EN b = 0 ∧ u.f Fl.LPE_BSTAT_STATE b =
      if (s.lg (s.f Fl.LPE_BATCH_GROUP b)).grid = true ∧ s.f Fl.LPE_BSTAT_STATE b ≠ 0 then 2 else 0 := by
  have hen : (batchNew Fl.LPE_BATCH_EN b 0 s).f Fl.LPE_BATCH_EN b = 0 :=
    (fieldOf_batchNew (by decide) (by decide) (by omega) 0 s).trans (if_pos rfl)
  have hoff := b_false hen
  have hgr := batch_group_kept (fl := Fl.LPE_BATCH_EN) (by decide) (by decide) hb 0 s
  have ha : BatchAdmitted b s (batchNew Fl.LPE_BATCH_EN b 0 s) := by
    refine ⟨fun h => ?_, by rw [hgr]; exact hg, fun h => ?_,
      fun h => ?_⟩ <;> exact absurd (hoff.symm.trans h) Bool.false_ne_true
  obtain ⟨a1, a2⟩ := batchAccept_shows (fl := Fl.LPE_BATCH_EN) (by decide) (show b < 64 by omega) 0 s
  refine effect_done (congrArg done (batchField_accepts hb ha)) ⟨(a1 _ (by decide)).trans (if_pos rfl), a2.trans ?_⟩
  rw [hoff, b_true h1, hgr]
  change (if (_ && _) = true then 2 else 0) = _
  simp only [Bool.and_eq_true, bne_iff_ne]

theorem batch_kernel_changes {b k : Nat} (hb : b < 32) (hk16 : k < 16) {s : State} (hg : s.f Fl.LPE_BATCH_GROUP b < 4)
    (h1 : s.f Fl.LPE_BATCH_EN b = 1) (hk : s.kernelCheck k = 0) (hf : Fits (batchNew Fl.LPE_BATCH_KERNEL b k s)) :
    Effect (.batchKernelChange b k) s fun u => u.f Fl.LPE_BATCH_KERNEL b = k ∧
      u.f Fl.LPE_BSTAT_STATE b = s.f Fl.LPE_BSTAT_STATE b := by
  have hmod : k % 2 ^ Fl.LPE_BATCH_KERNEL.width = k := Nat.mod_eq_of_lt (lt_of_lt_of_le hk16 (by decide))
  have hen : (batchNew Fl.LPE_BATCH_KERNEL b k s).f Fl.LPE_BATCH_EN b = 1 :=
    ((fieldOf_batchNew (by decide) (by decide) (by omega) k s).trans (if_neg (by decide))).trans h1
  have hker : (batchNew Fl.LPE_BATCH_KERNEL b k s).f Fl.LPE_BATCH_KERNEL b = k :=
    ((fieldOf_batchNew (by decide) (by decide) (by omega) k s).trans (if_pos rfl)).trans hmod
  have hgr := batch_group_kept (fl := Fl.LPE_BATCH_KERNEL) (by decide) (by decide) hb k s
  have ha : BatchAdmitted b s (batchNew Fl.LPE_BATCH_KERNEL b k s) :=
    ⟨fun _ _ => by rw [hker]; exact hk, by rw [hgr]; exact hg, fun _ => hf.1, fun _ => hf.2⟩
  obtain ⟨a1, a2⟩ := batchAccept_shows (fl := Fl.LPE_BATCH_KERNEL) (by decide) (show b < 64 by omega) k s
  refine effect_done (congrArg done (batchField_accepts hb ha))
    ⟨((a1 _ (by decide)).trans (if_pos rfl)).trans hmod, a2.trans ?_⟩
  rw [b_true hen, b_true h1]
  rfl

theorem batch_mask_changes {b : Nat} (hb : b < 32) (m : BitVec 16) {s : State} (hg : s.f Fl.LPE_BATCH_GROUP b < 4)
    (h : s.f Fl.LPE_BATCH_EN b = 0 ∨ Fits (batchNew Fl.LPE_BATCH_MASK b m.toNat s)) :
    Effect (.batchMaskChange b m) s fun u => u.f Fl.LPE_BATCH_MASK b = m.toNat := by
  have hmod : m.toNat % 2 ^ Fl.LPE_BATCH_MASK.width = m.toNat := Nat.mod_eq_of_lt m.isLt
  have hen : (batchNew Fl.LPE_BATCH_MASK b m.toNat s).f Fl.LPE_BATCH_EN b = s.f Fl.LPE_BATCH_EN b :=
    (fieldOf_batchNew (by decide) (by decide) (by omega) m.toNat s).trans (if_neg (by decide))
  have hker : (batchNew Fl.LPE_BATCH_MASK b m.toNat s).f Fl.LPE_BATCH_KERNEL b = s.f Fl.LPE_BATCH_KERNEL b :=
    (fieldOf_batchNew (by decide) (by decide) (by omega) m.toNat s).trans (if_neg (by decide))
  have hgr := batch_group_kept (fl := Fl.LPE_BATCH_MASK) (by decide) (by decide) hb m.toNat s
  have hb' : (batchNew Fl.LPE_BATCH_MASK b m.toNat s).b Fl.LPE_BATCH_EN b = s.b Fl.LPE_BATCH_EN b := b_of_field hen
  have hfit : s.b Fl.LPE_BATCH_EN b = true → Fits (batchNew Fl.LPE_BATCH_MASK b m.toNat s) := fun hon =>
    h.resolve_left fun h0 => by rw [b_false h0] at hon; exact Bool.noConfusion hon
  have ha : BatchAdmitted b s (batchNew Fl.LPE_BATCH_MASK b m.toNat s) := by
    refine ⟨fun hon hne => ?_, by rw [hgr]; exact hg, fun hon => (hfit (hb'.symm.trans hon)).1,
      fun hon => (hfit (hb'.symm.trans hon)).2⟩
    rcases hne with h0 | hne
    · exact absurd (h0.symm.trans (hb'.symm.trans hon)) Bool.false_ne_true
    · exact absurd hker hne
  obtain ⟨a1, _⟩ := batchAccept_shows (fl := Fl.LPE_BATCH_MASK) (by decide) (show b < 64 by omega) m.toNat s
  exact effect_done (congrArg done (batchField_accepts hb ha)) (((a1 _ (by decide)).trans (if_pos rfl)).trans hmod)

/-! ### Groups -/

/-- GROUP of group `g` with field `fl` written; the bank and the rate stand. -/
def groupNew (fl : Fld) (g v : Nat) (s : State) : State :=
  s.setReg R.LPE_GROUP g (withBits (withBits (s.reg R.LPE_GROUP g) fl.lsb fl.width v &&& R.LPE_GROUP.rw) 16 2
    (bitsOf (s.reg R.LPE_GROUP g) 16 2))

/-- Fields of GROUP that are written as they are given. -/
def groupFlds : List Fld := [Fl.LPE_GROUP_EN, Fl.LPE_GROUP_PERIOD]

theorem group_field_place {fl : Fld} (h : fl ∈ groupFlds) : fl.reg = R.LPE_GROUP ∧ fl.lsb + fl.width ≤ 32 ∧
    (16 + 2 ≤ fl.lsb ∨ fl.lsb + fl.width ≤ 16) ∧ ∀ j, j < fl.width → R.LPE_GROUP.rw.getLsbD (fl.lsb + j) = true := by
  have hall : ∀ fl ∈ groupFlds, fl.reg = R.LPE_GROUP ∧ fl.lsb + fl.width ≤ 32 ∧
    (16 + 2 ≤ fl.lsb ∨ fl.lsb + fl.width ≤ 16) ∧ ∀ j,
      j < fl.width → R.LPE_GROUP.rw.getLsbD (fl.lsb + j) = true := by decide
  exact hall fl h

theorem group_fields_apart {fl fl' : Fld} (h : fl ∈ groupFlds) (h' : fl' ∈ groupFlds) (hne : fl ≠ fl') :
    fl.lsb + fl.width ≤ fl'.lsb ∨ fl'.lsb + fl'.width ≤ fl.lsb := by
  have hall : ∀ fl ∈ groupFlds, ∀ fl' ∈ groupFlds, fl ≠ fl' →
      (fl.lsb + fl.width ≤ fl'.lsb ∨ fl'.lsb + fl'.width ≤ fl.lsb) := by decide
  exact hall fl h fl' h' hne

theorem fieldOf_groupNew {fl fl' : Fld} (h : fl ∈ groupFlds) (h' : fl' ∈ groupFlds) {g : Nat} (hg : g < 8) (v : Nat)
  (s : State) :
    fieldOf (groupNew fl g v s).regs fl' g = if fl = fl' then v % 2 ^ fl.width else fieldOf s.regs fl' g := by
  obtain ⟨hr, hw, hs, hm⟩ := group_field_place h'
  have hg' : g < R.LPE_GROUP.count := lt_of_lt_of_le hg (by decide)
  have hreg : regOf (groupNew fl g v s).regs R.LPE_GROUP g = withBits (withBits (s.reg R.LPE_GROUP g) fl.lsb fl.width
    v &&&
      R.LPE_GROUP.rw) 16 2 (bitsOf (s.reg R.LPE_GROUP g) 16 2) := regOf_setReg_same s _ g _ hg'
  change bitsOf (regOf (groupNew fl g v s).regs fl'.reg g) _ _ = _
  rw [hr, hreg, bitsOf_withBits_apart _ _ _ _ _ _ hs, bitsOf_and _ _ _ _ hm]
  split
  next he =>
    subst he
    exact bitsOf_withBits_same _ _ _ _ hw
  next hne =>
    rw [bitsOf_withBits_apart _ _ _ _ _ _ (group_fields_apart h h' hne)]
    change _ = bitsOf (s.reg fl'.reg g) _ _
    rw [hr]

/-- A period from 2,000 to 20,000. -/
def PeriodLegal (p : Nat) : Prop := 2000 ≤ p ∧ p ≤ 20000

/-- A group admitted: armed where it is newly enabled, and its grid checked. -/
def groupAdmitted (g : Nat) (was : Bool) (n : State) : State :=
  showLoad (gridCheck g (n.when (n.b Fl.LPE_GROUP_EN g && !was) fun s => s.setLg g fun x => { x with armed := true }))

theorem groupField_eq {g : Nat} (hg : g < 4) (fl : Fld) (v : Nat) (s : State) : groupField fl g v s =
    let n := groupNew fl g v s
    if decide (n.f Fl.LPE_GROUP_PERIOD g < 2000) || decide (20000 < n.f Fl.LPE_GROUP_PERIOD g) then admitFail s
    else if n.b Fl.LPE_GROUP_EN g && !n.loadOk then admitFail s
    else groupAdmitted g (s.b Fl.LPE_GROUP_EN g) n := by
  have hguest : (decide (4 ≤ g) && !s.b Fl.LPE_TAKE_ACTIVE) = false := by
    rw [decide_eq_false (by omega)]
    rfl
  unfold groupField
  rw [if_neg (show ¬ 8 ≤ g by omega), guestGate, hguest]
  exact if_neg (show ¬ 8 ≤ g by omega)

theorem groupField_admits {g : Nat} (hg : g < 4) {fl : Fld} {v : Nat} {s : State}
    (hp : PeriodLegal ((groupNew fl g v s).f Fl.LPE_GROUP_PERIOD g))
    (hl : (groupNew fl g v s).b Fl.LPE_GROUP_EN g = true → (groupNew fl g v s).loadOk = true) :
    groupField fl g v s = groupAdmitted g (s.b Fl.LPE_GROUP_EN g) (groupNew fl g v s) := by
  obtain ⟨h1, h2⟩ := hp
  rw [groupField_eq hg]
  dsimp only
  rw [if_neg, if_neg]
  · intro hc
    rw [Bool.and_eq_true, Bool.not_eq_true'] at hc
    rw [hl hc.1] at hc
    exact Bool.noConfusion hc.2
  · rw [Bool.or_eq_true, decide_eq_true_eq, decide_eq_true_eq]
    omega

theorem storeCoef_group (bank slot w : Nat) (v : Word) (s : State) : (storeCoef bank slot w v s).lpe.group =
  s.lpe.group := rfl

theorem showPool_lpe (s : State) : (showPool s).lpe = s.lpe := State.setF_lpe ..

theorem applyPool_group (g : Nat) (s : State) : (applyPool g s).lpe.group = s.lpe.group := by
  unfold applyPool
  dsimp only
  rw [showPool_lpe]
  have h : ∀ l : List PoolWrite, (s.eachOf l fun e s => storeCoef e.bank e.slot e.w e.v s).lpe.group = s.lpe.group :=
    fun l =>
    State.eachOf_induct (f := fun e s => storeCoef e.bank e.slot e.w e.v s) (P := fun u => u.lpe.group = s.lpe.group)
      (fun e u hu => (storeCoef_group e.bank e.slot e.w e.v u).trans hu) rfl l
  exact h _

theorem finishStop_group (b : Nat) (s : State) : (finishStop b s).lpe.group = s.lpe.group := by
  have hset : ∀ v, (s.setF Fl.LPE_BSTAT_STATE b v).lpe.group = s.lpe.group := fun v => congrArg LpeState.group
    (State.setF_lpe ..)
  unfold finishStop
  split
  · exact hset 0
  · exact hset 1
  · rfl

/-- The stopping batches of a group come to rest. -/
theorem gridStops_group (g : Nat) (s : State) :
    (s.each 64 fun b s => s.when (s.f Fl.LPE_BATCH_GROUP b == g) (finishStop b)).lpe.group = s.lpe.group :=
  State.each_induct (P := fun u => u.lpe.group = s.lpe.group) (fun b u hu =>
    State.when_cases (P := fun v => v.lpe.group = s.lpe.group) (fun _ => hu) fun _ => (finishStop_group b u).trans hu)
      rfl 64

theorem gridCheck_wanted {g : Nat} {s : State} (h : s.gridWanted g = true) : gridCheck g s = s := by
  unfold gridCheck
  rw [h, if_neg]
  rw [Bool.not_true, Bool.and_false]
  exact Bool.false_ne_true

theorem gridCheck_unwanted {g : Nat} (hg : g < 8) {s : State} (h : s.gridWanted g = false) : ((gridCheck g s).lg
  g).grid = false := by
  unfold gridCheck
  rw [h]
  cases hgrid : (s.lg g).grid with
  | false =>
    rw [if_neg (by decide)]
    exact hgrid
  | true =>
    rw [if_pos (by decide)]
    dsimp only
    rw [lg_of_groups (gridStops_group g _), lg_of_groups (applyPool_group g _), lg_setLg_same hg]

theorem gridCheck_field {fl : Fld} (g i : Nat) (s : State)
    (h : (!regsIn [R.LPE_BSTAT, R.LPE_CWSTAT] fl.reg.addr && decide (fl.reg.count ≤ 65536)) = true) :
    fieldOf (gridCheck g s).regs fl i = fieldOf s.regs fl i :=
  fieldOf_onlyRegs (l := [R.LPE_BSTAT, R.LPE_CWSTAT]) (gridCheck_writes (by decide) (by decide) rfl g s) i h

theorem armed_regs (g : Nat) (n : State) (c : Bool) :
    (n.when c fun s => s.setLg g fun x => { x with armed := true }).regs = n.regs :=
  State.when_cases (P := fun u => u.regs = n.regs) (fun _ => rfl) fun _ => rfl

theorem groupAdmitted_field {fl : Fld} (hr : fl.reg = R.LPE_GROUP) (g : Nat) (was : Bool) (i : Nat) (n : State) :
    fieldOf (groupAdmitted g was n).regs fl i = fieldOf n.regs fl i := by
  unfold groupAdmitted
  rw [fieldOf_showLoad _ _ (by rw [hr]; decide), gridCheck_field _ _ _ (by rw [hr]; decide), armed_regs]

theorem gridWanted_congr {s u : State} (h : u.regs = s.regs) (g : Nat) : u.gridWanted g = s.gridWanted g := by
  unfold State.gridWanted State.laneNames State.b State.f State.reg
  rw [h]

theorem group_enables {g : Nat} (hg : g < 4) {s : State} (h0 : s.f Fl.LPE_GROUP_EN g = 0)
    (hp : PeriodLegal (s.f Fl.LPE_GROUP_PERIOD g)) (hl : (groupNew Fl.LPE_GROUP_EN g 1 s).loadOk = true) :
    Effect (.groupEnable g) s fun u => u.f Fl.LPE_GROUP_EN g = 1 ∧ (u.lg g).armed = true := by
  have hen : (groupNew Fl.LPE_GROUP_EN g 1 s).f Fl.LPE_GROUP_EN g = 1 :=
    (fieldOf_groupNew (by decide) (by decide) (by omega) 1 s).trans (if_pos rfl)
  have hper : (groupNew Fl.LPE_GROUP_EN g 1 s).f Fl.LPE_GROUP_PERIOD g = s.f Fl.LPE_GROUP_PERIOD g :=
    (fieldOf_groupNew (by decide) (by decide) (by omega) 1 s).trans (if_neg (by decide))
  have he := groupField_admits hg (fl := Fl.LPE_GROUP_EN) (v := 1) (by rw [hper]; exact hp) fun _ => hl
  generalize groupNew Fl.LPE_GROUP_EN g 1 s = n at he hen
  refine effect_done (congrArg done he) ⟨(groupAdmitted_field rfl g _ g n).trans hen, ?_⟩
  have hw : (n.when (n.b Fl.LPE_GROUP_EN g && !s.b Fl.LPE_GROUP_EN g) fun s => s.setLg g fun x =>
    { x with armed := true }) =
      n.setLg g fun x => { x with armed := true } := by
    rw [b_true hen, b_false h0]
    rfl
  have hwant : (n.setLg g fun x => { x with armed := true }).gridWanted g = true :=
    (gridWanted_congr (s := n) (u := n.setLg g fun x => { x with armed := true }) rfl g).trans (by
      rw [State.gridWanted, b_true hen]
      rfl)
  unfold groupAdmitted
  rw [hw, gridCheck_wanted hwant, lg_of_groups (congrArg LpeState.group (showLoad_lpe _)), lg_setLg_same (by omega)]

theorem laneNames_congr {s u : State} (hc : ∀ j, u.f Fl.CLN_LANECFG_GROUP j = s.f Fl.CLN_LANECFG_GROUP j)
    (hs : ∀ j, u.f Fl.CLN_LANESTAT_STATE j = s.f Fl.CLN_LANESTAT_STATE j) (g : Nat) : u.laneNames g = s.laneNames g :=
      by
  unfold State.laneNames
  simp only [hc, hs]

theorem group_disables {g : Nat} (hg : g < 4) {s : State} (hp : PeriodLegal (s.f Fl.LPE_GROUP_PERIOD g)) :
    Effect (.groupDisable g) s fun u => u.f Fl.LPE_GROUP_EN g = 0 ∧ (s.laneNames g = false → (u.lg g).grid = false) :=
      by
  have hen : (groupNew Fl.LPE_GROUP_EN g 0 s).f Fl.LPE_GROUP_EN g = 0 :=
    (fieldOf_groupNew (by decide) (by decide) (by omega) 0 s).trans (if_pos rfl)
  have hper : (groupNew Fl.LPE_GROUP_EN g 0 s).f Fl.LPE_GROUP_PERIOD g = s.f Fl.LPE_GROUP_PERIOD g :=
    (fieldOf_groupNew (by decide) (by decide) (by omega) 0 s).trans (if_neg (by decide))
  have hoff := b_false hen
  have hnames : (groupNew Fl.LPE_GROUP_EN g 0 s).laneNames g = s.laneNames g :=
    laneNames_congr (fun _ => fieldOf_setReg_apart _ _ _ _ _ _ (by decide)) (fun _ => fieldOf_setReg_apart _ _ _ _ _ _
      (by decide)) g
  have he := groupField_admits hg (fl := Fl.LPE_GROUP_EN) (v := 0) (by rw [hper]; exact hp) fun h =>
    absurd (hoff.symm.trans h) Bool.false_ne_true
  generalize groupNew Fl.LPE_GROUP_EN g 0 s = n at he hen hoff hnames
  refine effect_done (congrArg done he) ⟨(groupAdmitted_field rfl g _ g n).trans hen, fun hl => ?_⟩
  have hw : (n.when (n.b Fl.LPE_GROUP_EN g && !s.b Fl.LPE_GROUP_EN g) fun s => s.setLg g fun x =>
    { x with armed := true }) = n := by
    rw [hoff]
    rfl
  have hwant : n.gridWanted g = false := by
    rw [State.gridWanted, hoff, hnames, hl]
    rfl
  unfold groupAdmitted
  rw [hw, lg_of_groups (congrArg LpeState.group (showLoad_lpe _))]
  exact gridCheck_unwanted (by omega) hwant

theorem admitFail_shows (s : State) : LpeShows 1 (admitFail s) := lpeCause_shows 1 (by decide) s

theorem group_period_refused {g : Nat} (hg : g < 4) {p : Nat} (hp : p < 2000 ∨ 20000 < p) (s : State) :
    Effect (.groupPeriodWrite g p) s fun u => u.reg R.LPE_GROUP g = s.reg R.LPE_GROUP g ∧
      bitOf (u.f ⟨R.LPE_STAT, 0, 9⟩) 1 = true := by
  have he : (if p < 65536 then groupField Fl.LPE_GROUP_PERIOD g p s else guestGate (4 ≤ g) admitFail s) = admitFail s
    := by
    split
    next h16 =>
      have hper : (groupNew Fl.LPE_GROUP_PERIOD g p s).f Fl.LPE_GROUP_PERIOD g = p :=
        ((fieldOf_groupNew (by decide) (by decide) (by omega) p s).trans (if_pos rfl)).trans (Nat.mod_eq_of_lt h16)
      rw [groupField_eq hg]
      dsimp only
      rw [hper]
      exact if_pos (by rw [Bool.or_eq_true, decide_eq_true_eq, decide_eq_true_eq]; exact hp)
    next =>
      unfold guestGate
      rw [decide_eq_false (show ¬ 4 ≤ g by omega)]
      rfl
  exact effect_done (congrArg done he) ⟨regOf_lpeCause 1 g s (by decide) (by decide), admitFail_shows s⟩

theorem group_period_taken {g : Nat} (hg : g < 4) {p : Nat} (h1 : 2000 ≤ p) (h2 : p ≤ 20000) {s : State}
    (h0 : s.f Fl.LPE_GROUP_EN g = 0) : Effect (.groupPeriodWrite g p) s fun u => u.f Fl.LPE_GROUP_PERIOD g = p := by
  have h16 : p < 65536 := by omega
  have hper : (groupNew Fl.LPE_GROUP_PERIOD g p s).f Fl.LPE_GROUP_PERIOD g = p :=
    ((fieldOf_groupNew (by decide) (by decide) (by omega) p s).trans (if_pos rfl)).trans (Nat.mod_eq_of_lt h16)
  have hen : (groupNew Fl.LPE_GROUP_PERIOD g p s).f Fl.LPE_GROUP_EN g = 0 :=
    ((fieldOf_groupNew (by decide) (by decide) (by omega) p s).trans (if_neg (by decide))).trans h0
  have he := groupField_admits hg (fl := Fl.LPE_GROUP_PERIOD) (v := p) (s := s) (by rw [hper]; exact ⟨h1, h2⟩) fun h =>
    absurd ((b_false hen).symm.trans h) Bool.false_ne_true
  refine effect_done (congrArg done ((if_pos h16).trans he)) ?_
  exact (groupAdmitted_field rfl g _ g _).trans hper

/-! ### The launch offset -/

theorem launch_taken {v : Nat} (hv : v < 512) {s : State} (h : (s.setF Fl.LPE_LAUNCH_OFFSET 0 v).launchOk = true) :
    Effect (.launchWrite v) s fun u => u.f Fl.LPE_LAUNCH_OFFSET = v := by
  have he : launchWrite v s = s.setF Fl.LPE_LAUNCH_OFFSET 0 v := if_pos (by rw [h, decide_eq_true hv]; rfl)
  exact effect_done (congrArg done he) (fieldOf_setF_fits s Fl.LPE_LAUNCH_OFFSET 0 v (by decide) (by decide) hv)

theorem launch_refused {v : Nat} {s : State} (h : (s.setF Fl.LPE_LAUNCH_OFFSET 0 v).launchOk = false) :
    Effect (.launchWrite v) s fun u => u.f Fl.LPE_LAUNCH_OFFSET = s.f Fl.LPE_LAUNCH_OFFSET ∧
      bitOf (u.f ⟨R.LPE_STAT, 0, 9⟩) 1 = true := by
  have he : launchWrite v s = admitFail s := if_neg (by rw [h, Bool.and_false]; exact Bool.false_ne_true)
  exact effect_done (congrArg done he) ⟨fieldOf_lpeCause 1 0 s (by decide) (by decide), admitFail_shows s⟩

/-! ### Coefficients and the init flag (R131, R136 to R138) -/

/-- A write of a coefficient word that the initiator may make. -/
theorem coefficientWrite_eq {ini : Initiator} {bank slot w : Nat} {s : State} (hb : bank < 2) (hs : slot < 512) (hw :
  w < 16)
    (hi : s.mayWrite Fl.SYS_OWNER0_LPE ini = true) (hp : w ≠ 0 ∨ s.portCell slot = false) (v : Word) :
    coefficientWrite ini bank slot w v s =
      match coefStore false bank slot w v { s with busError := false } with
      | some s => s
      | none => lpeCause 4 { s with busError := true } := by
  have h1 : ¬ (decide (2 ≤ bank) || decide (1024 ≤ slot) || decide (16 ≤ w)) = true := by
    simp only [Bool.or_eq_true, decide_eq_true_eq]
    omega
  have h2 : ¬ (!s.mayWrite Fl.SYS_OWNER0_LPE ini || (decide (512 ≤ slot) && !s.b Fl.LPE_TAKE_ACTIVE && ini != .ring))
    = true := by
    rw [hi, decide_eq_false (show ¬ 512 ≤ slot by omega)]
    exact Bool.false_ne_true
  have hv : (if w = 0 && ({ s with busError := false } : State).portCell slot then
      withBits v 8 8 (unsignedOf 8 (cellsGet (0 : Int) s.prt.e1 slot)) else v) = v := by
    refine if_neg fun hc => ?_
    rw [Bool.and_eq_true, decide_eq_true_eq] at hc
    rcases hp with hw0 | hpc
    · exact hw0 hc.1
    · exact absurd (hpc.symm.trans hc.2) Bool.false_ne_true
  refine (if_neg h1).trans ((if_neg h2).trans ?_)
  unfold coefWrite
  rw [hv] <;> rfl

theorem coefAt_storeCoef (bank slot w : Nat) (v : Word) (s : State) : (storeCoef bank slot w v s).coefAt bank slot w =
    if w = 0 then v else BitVec.ofInt 32 (signedOf 24 v.toNat) := cellsGet_put_same _ _ _ _

theorem coef_stored {ini : Initiator} {bank slot w : Nat} {s : State} (hb : bank < 2) (hs : slot < 512) (hw : w < 16)
    (hi : s.mayWrite Fl.SYS_OWNER0_LPE ini = true) (hp : w ≠ 0 ∨ s.portCell slot = false) (v : Word)
    (hr : s.slotRuns slot = false) : Effect (.coefficientWrite ini bank slot w v) s fun u =>
      u.coefAt bank slot w = (if w = 0 then v else BitVec.ofInt 32 (signedOf 24 v.toNat)) ∧ u.busError = false := by
  have hc : coefStore false bank slot w v { s with busError := false } = some (storeCoef bank slot w v
    { s with busError := false }) := by
    refine if_neg ?_
    change ¬ s.slotRuns slot = true
    rw [hr]
    exact Bool.false_ne_true
  have he := coefficientWrite_eq hb hs hw hi hp v
  rw [hc] at he
  exact effect_done (congrArg done he) ⟨coefAt_storeCoef .., rfl⟩

theorem coef_pooled {ini : Initiator} {bank slot w : Nat} {s : State} (hb : bank < 2) (hs : slot < 512) (hw : w < 16)
    (hi : s.mayWrite Fl.SYS_OWNER0_LPE ini = true) (hp : w ≠ 0 ∨ s.portCell slot = false) (v : Word)
    (hr : s.slotRuns slot = true) (hl : s.lpe.pool.length < 64) : Effect (.coefficientWrite ini bank slot w v) s fun u
      =>
      u.lpe.pool = s.lpe.pool ++ [{ bank := bank, slot := slot, w := w, v := v, own := false }] ∧
        u.coefAt bank slot w = s.coefAt bank slot w ∧ u.busError = false := by
  have hc : coefStore false bank slot w v { s with busError := false } =
      some (showPool { s with busError := false, lpe.pool := s.lpe.pool ++ [⟨bank, slot, w, v, false⟩] }) := by
    refine (if_pos hr).trans (if_neg ?_)
    change ¬ 64 ≤ s.lpe.pool.length
    omega
  have he := coefficientWrite_eq hb hs hw hi hp v
  rw [hc] at he
  refine effect_done (congrArg done he) ⟨?_, ?_, State.setF_busError ..⟩
  · rw [showPool_lpe]
  · rw [State.coefAt, showPool_lpe]
    rfl

theorem coef_refused {ini : Initiator} {bank slot w : Nat} {s : State} (hb : bank < 2) (hs : slot < 512) (hw : w < 16)
    (hi : s.mayWrite Fl.SYS_OWNER0_LPE ini = true) (hp : w ≠ 0 ∨ s.portCell slot = false) (v : Word)
    (hr : s.slotRuns slot = true) (hl : 64 ≤ s.lpe.pool.length) : Effect (.coefficientWrite ini bank slot w v) s fun u
      =>
      u.lpe.pool = s.lpe.pool ∧ u.busError = true ∧ bitOf (u.f ⟨R.LPE_STAT, 0, 9⟩) 4 = true := by
  have hc : coefStore false bank slot w v { s with busError := false } = none := (if_pos hr).trans (if_pos hl)
  have he := coefficientWrite_eq hb hs hw hi hp v
  rw [hc] at he
  refine effect_done (congrArg done he) ⟨?_, State.causeOn_busError .., lpeCause_shows 4 (by decide) _⟩
  rw [lpeCause_lpe]

theorem cell_init {c : Nat} (hc : c < 1024) (s : State) : Effect (.cellInit c) s fun u => c ∈ u.lpe.initPend := by
  have he : cellInit c s = initSlots [c] s := if_pos hc
  refine effect_done (congrArg done he) ?_
  change c ∈ s.lpe.initPend ++ [c].filter fun c => !s.lpe.initPend.contains c
  by_cases h : c ∈ s.lpe.initPend
  · exact List.mem_append_left _ h
  · exact List.mem_append_right _ (List.mem_filter.mpr ⟨List.mem_singleton.mpr rfl, by simpa using h⟩)

/-- Settles O23: each command by what it writes and when it is admitted. -/
theorem loopConfiguration : Obligations.LoopConfiguration := by
  intro s
  exact ⟨fun b hb hg => ⟨batch_enables hb hg, batch_enable_refused hb, batch_disables hb hg,
      fun k hk h1 _ hc hf => batch_kernel_changes hb hk hg h1 hc hf, fun m h => batch_mask_changes hb m hg h⟩,
    fun g hg => ⟨group_enables hg, group_disables hg, fun p hp => group_period_refused hg hp s,
      fun p h1 h2 h0 => group_period_taken hg h1 h2 h0⟩,
    fun v => ⟨fun hv h => launch_taken hv h, launch_refused⟩,
    fun ini bank slot w v hb hs hw hi hp => ⟨coef_stored hb hs hw hi hp v, coef_pooled hb hs hw hi hp v,
      coef_refused hb hs hw hi hp v⟩, fun c hc => cell_init hc s⟩

end Sys2Proof.Machine

/-! ## A grid's tick (R113, R196): the engine's groups stand while everything else of the tick is done -/

namespace Sys2Proof.Machine

set_option Elab.async false

/-! ### Operations that leave the engine's groups -/

/-- The engine's groups stand. -/
def GroupsStand (s u : State) : Prop := u.lpe.group = s.lpe.group

theorem GroupsStand.refl (s : State) : GroupsStand s s := rfl

theorem GroupsStand.trans {s u v : State} (h : GroupsStand s u) (h' : GroupsStand u v) : GroupsStand s v :=
  Eq.trans h' h

theorem GroupsStand.of_lpe {s u : State} (h : u.lpe = s.lpe) : GroupsStand s u := congrArg LpeState.group h

/-- An operation that leaves the engine's state leaves its groups. -/
theorem GroupsStand.without {s u : State} (h : u.without butLpe = s.without butLpe) : GroupsStand s u :=
  .of_lpe (State.lpe_of_without (A := butLpe) h rfl)

theorem GroupsStand.lg {s u : State} (h : GroupsStand s u) (g : Nat) : u.lg g = s.lg g := lg_of_groups h g

theorem groups_setF (fl : Fld) (i v : Nat) (s : State) : GroupsStand s (s.setF fl i v) := .of_lpe (State.setF_lpe ..)

theorem groups_setPg (g : Nat) (f : PrtGroup → PrtGroup) (s : State) : GroupsStand s (s.setPg g f) := rfl

theorem groups_when {c : Bool} {f : State → State} (h : ∀ s, GroupsStand s (f s)) (s : State) :
    GroupsStand s (s.when c f) := State.when_cases (P := GroupsStand s) (fun _ => .refl s) fun _ => h s

theorem groups_each {f : Nat → State → State} (h : ∀ i s, GroupsStand s (f i s)) (k : Nat) (s : State) :
    GroupsStand s (s.each k f) :=
  State.each_induct (P := GroupsStand s) (fun i u hu => hu.trans (h i u)) (.refl s) k

theorem groups_eachOf {α : Type} {f : α → State → State} (h : ∀ x s, GroupsStand s (f x s)) (l : List α) (s : State) :
    GroupsStand s (s.eachOf l f) :=
  State.eachOf_induct (P := GroupsStand s) (fun x u hu => hu.trans (h x u)) (.refl s) l

theorem groups_setCellIn (c k : Nat) (v : Int) (s : State) : GroupsStand s (setCellIn c k v s) := rfl

theorem groups_batchMoved (b : Nat) (was : Bool) (st : Nat) (s : State) : GroupsStand s (batchMoved b was st s) := by
  unfold batchMoved
  split
  · split
    · exact groups_setF ..
    · exact groups_setF Fl.LPE_BSTAT_STATE b 1 s
  · split
    · exact groups_setF ..
    · exact .refl s

theorem groups_batchKernel (k b : Nat) (s : State) : GroupsStand s (batchKernel k b s) :=
  (congrArg (GroupsStand s) (batchAccept_eq Fl.LPE_BATCH_KERNEL b k s)).mpr
    ((GroupsStand.of_lpe (State.setReg_lpe ..)).trans ((groups_batchMoved ..).trans (.of_lpe (showLoad_lpe _))))

theorem groups_groupStopAct (g : Nat) (s : State) : GroupsStand s (groupStopAct g s) :=
  .without (groupStopAct_writes rfl rfl rfl rfl rfl rfl rfl rfl g s)

theorem groups_toFault (cause g : Nat) (s : State) : GroupsStand s (toFault cause g s) :=
  .without (toFault_writes rfl rfl rfl rfl rfl rfl rfl rfl rfl rfl cause g s)

theorem groups_prtCause (j g : Nat) (s : State) : GroupsStand s (prtCause j g s) :=
  .without (prtCause_writes rfl rfl j g s)

theorem groups_raiseReef (g : Nat) (s : State) : GroupsStand s (raiseReef g s) := .without (raiseReef_writes rfl g s)

/-! ### A port group's tick -/

theorem groups_setMode (g : Nat) (volt : Bool) (s : State) : GroupsStand s (setMode g volt s) := by
  unfold setMode
  extract_lets k bs
  clear_value k
  split
  · exact .refl s
  · split
    · exact (groups_eachOf (groups_batchKernel k) bs s).trans (groups_setPg ..)
    · exact (groups_prtCause 26 g s).trans (groups_groupStopAct g _)

theorem groups_tickPrecharge (g : Nat) (s : State) : GroupsStand s (tickPrecharge g s) := by
  have hend : ∀ (c k t i : Nat) (u : State), GroupsStand u
      (let s := u.setF Fl.PRT_CIDENT_CIDENT g k
      if energyOver c t (s.f Fl.PRT_EMAX_EPRE g) then toFault 6 g s
      else
        (s.setF Fl.PRT_VAPP_VAPP g i).setPg g (fun x => { x with preStep := 5, t2 := some s.now, fracV := 0 })
          |> setMode g true) := fun c k t i u => by
    extract_lets w
    have hw : GroupsStand u w := groups_setF ..
    split
    · exact hw.trans (groups_toFault ..)
    · exact hw.trans ((groups_setF ..).trans ((groups_setPg ..).trans (groups_setMode g true _)))
  unfold tickPrecharge
  split
  · exact .refl s
  · extract_lets v vset x u dv
    have hu : GroupsStand s u := groups_when (fun w => groups_setPg g _ w) s
    clear_value u
    split
    · split
      · exact (groups_setPg ..).trans (groups_setMode g false _)
      · exact .refl s
    · split
      · exact hu
      · split
        · exact hu.trans (hend _ _ _ _ u)
        · exact hu
    · exact .refl s

theorem groups_tickShares (g : Nat) (s : State) : GroupsStand s (tickShares g s) := by
  unfold tickShares
  extract_lets m n x ref step rot sh s1 s2 st off volt target ilen s3 gone
  have h1 : GroupsStand s s1 := groups_when (fun w => (groups_prtCause 5 g w).trans (groups_raiseReef g _)) s
  have h2 : GroupsStand s1 s2 := groups_setPg ..
  have h3 : GroupsStand s2 s3 := by
    refine groups_eachOf (fun e w => ?_) _ s2
    extract_lets c i share p w1 in6 in7 w2
    have hw1 : GroupsStand w w1 := rfl
    have hw2 := hw1.trans ((groups_setCellIn c 6 in6 w1).trans (groups_setCellIn c 7 in7 _))
    split
    · exact hw2.trans ((groups_setF ..).trans (groups_setF ..))
    · exact hw2
  exact h1.trans (h2.trans (h3.trans (groups_eachOf (fun c w => (groups_setCellIn c 6 0 w).trans (groups_setCellIn ..))
    gone s3)))

theorem groups_tickGroup (periodNs g : Nat) (s : State) : GroupsStand s (tickGroup periodNs g s) := by
  unfold tickGroup
  extract_lets was s1 s2 s3 s4 s5 s6
  have h1 : GroupsStand s s1 := .without (applyRemovals_writes rfl rfl rfl rfl g s)
  have h2 : GroupsStand s1 s2 := (GroupsStand.without (sampleGroup_writes rfl g s1)).trans
    ((GroupsStand.without (secondaryTick_writes rfl rfl rfl rfl rfl g periodNs _)).trans
      (.without (searchSample_writes rfl g _)))
  have h3 : GroupsStand s2 s3 := groups_when (fun w => .without (askClose_writes rfl rfl rfl rfl g w)) s2
  have h4 : GroupsStand s3 s4 := groups_tickPrecharge g s3
  have h5 : GroupsStand s4 s5 := (GroupsStand.without (tickCurrent_writes rfl rfl g periodNs s4)).trans
    (.without (tickVoltage_writes rfl rfl g periodNs _))
  have h6 : GroupsStand s5 s6 := groups_tickShares g s5
  have hend := h1.trans (h2.trans (h3.trans (h4.trans (h5.trans h6))))
  split
  · exact hend.trans (.without (markCoefs_writes rfl g _ _ s6))
  · exact hend

/-! ### Marks, lanes and batches of the tick -/

theorem groups_coefStore (own : Bool) (bank slot w : Nat) (v : Word) (s : State) :
    GroupsStand s ((coefStore own bank slot w v s).getD s) := by
  unfold coefStore
  split
  · split
    · exact .refl s
    · exact GroupsStand.trans (u := { s with lpe.pool := s.lpe.pool ++ [⟨bank, slot, w, v, own⟩] }) rfl
        (.of_lpe (showPool_lpe _))
  · exact storeCoef_group bank slot w v s

theorem groups_ownCoef (slot w : Nat) (v : Word) (s : State) : GroupsStand s (ownCoef slot w v s) :=
  (groups_coefStore true _ slot w v s).trans (groups_coefStore true _ slot w v _)

theorem groups_markWrites (c w : Nat) (v : Word) (s : State) : GroupsStand s (markWrites c w v s) := by
  unfold markWrites
  split
  · exact (groups_ownCoef c 5 0 s).trans (groups_ownCoef c 0 _ _)
  · exact groups_ownCoef c w v s

theorem groups_serveMarks (s : State) : GroupsStand s (serveMarks s) := by
  unfold serveMarks
  extract_lets take rising key ordered p s1 s2
  have h1 : GroupsStand s s1 := rfl
  have h2 : GroupsStand s1 s2 := groups_eachOf (fun e w => groups_markWrites _ _ _ w) _ s1
  exact h1.trans (h2.trans (groups_setF ..))

theorem groups_portPowerTick (grp periodNs : Nat) (s : State) : GroupsStand s (portPowerTick grp periodNs s) := by
  unfold portPowerTick
  extract_lets s1 s2
  have h1 : GroupsStand s s1 := groups_each (fun g w => by
    split
    · exact groups_tickGroup periodNs g w
    · exact .refl w) 80 s
  have h2 : GroupsStand s1 s2 := groups_each (fun b w => by
    split
    · refine groups_each (fun l x => ?_) 16 w
      split
      · exact .without (sampleCell_writes rfl _ x)
      · exact .refl x
    · exact .refl w) 64 s1
  exact h1.trans (h2.trans (groups_serveMarks s2))

theorem groups_injectorTick (s : State) : GroupsStand s (injectorTick s) := by
  have hset : ∀ v, GroupsStand s (s.setB Fl.LPE_INJCTL_RUN 0 v) := fun v => .of_lpe (State.setB_lpe ..)
  unfold injectorTick
  split
  · exact hset false
  · split
    · exact hset true
    · exact .refl s

theorem groups_makeReady (g b : Nat) (s : State) : GroupsStand s (makeReady g b s) := rfl

theorem groups_batchTick (g b : Nat) (s : State) : GroupsStand s (batchTick g b s) := by
  have hf : GroupsStand s (finishStop b s) := finishStop_group b s
  have ht : ∀ u, GroupsStand u (takeBatch b u) := fun _ => rfl
  unfold batchTick
  dsimp only
  split
  · exact .refl s
  · split
    · exact (hf.trans (ht _)).trans ((groups_when groups_injectorTick _).trans (groups_when (groups_makeReady g b) _))
    · exact hf

/-! ### The tick -/

theorem tickBegin_lg {g : Nat} (hg : g < 8) (s : State) : (tickBegin g s).lg g = { s.lg g with
    period := s.effPeriod g } :=
  (lg_of_groups (applyPool_group g _) g).trans (lg_setLg_same hg s _)

theorem tickEnd_lg {g : Nat} (hg : g < 8) (s : State) : (tickEnd g s).lg g = { s.lg g with
    ticks := (s.lg g).ticks + 1 } := by
  have h := lg_setLg_same hg (s.each 64 (batchTick g)) fun x => { x with ticks := x.ticks + 1 }
  rw [(groups_each (groups_batchTick g) 64 s).lg] at h
  exact h

theorem group_ticks {g : Nat} (hg : g < 8) {s : State} (hgrid : (s.lg g).grid = true) :
    Effect (.groupTick g) s fun u => (u.lg g).ticks = (s.lg g).ticks + 1 ∧ (u.lg g).period = s.effPeriod g := by
  have he : groupTick g s = tickEnd g (portPowerTick g (5 * ((laneFit g (tickBegin g s)).lg g).period)
      (laneFit g (tickBegin g s))) := by
    unfold groupTick
    rw [if_neg]
    rw [hgrid, Bool.not_true, Bool.or_false, decide_eq_true_eq]
    omega
  have hfit : ∀ u, GroupsStand u (laneFit g u) := fun u => .without (laneFit_writes rfl rfl rfl g u)
  have hlg : (groupTick g s).lg g = { s.lg g with period := s.effPeriod g, ticks := (s.lg g).ticks + 1 } := by
    rw [he, tickEnd_lg hg, (groups_portPowerTick ..).lg, (hfit _).lg, tickBegin_lg hg]
  exact effect_done rfl (by rw [hlg]; exact ⟨rfl, rfl⟩)

end Sys2Proof.Machine

/-! ## A batch's run and a group's launch (R114 to R120, R172) -/

namespace Sys2Proof.Machine

set_option Elab.async false

/-! ### What a run leaves of the waiting batches -/

/-- The ready batches, the batch in execution and the results stand. -/
def RunStands (s u : State) : Prop :=
  u.lpe.ready = s.lpe.ready ∧ u.lpe.cur = s.lpe.cur ∧ u.lpe.results = s.lpe.results

theorem RunStands.refl (s : State) : RunStands s s := ⟨rfl, rfl, rfl⟩

theorem RunStands.trans {s u v : State} (h : RunStands s u) (h' : RunStands u v) : RunStands s v :=
  ⟨h'.1.trans h.1, h'.2.1.trans h.2.1, h'.2.2.trans h.2.2⟩

theorem RunStands.of_lpe {s u : State} (h : u.lpe = s.lpe) : RunStands s u :=
  ⟨congrArg LpeState.ready h, congrArg LpeState.cur h, congrArg LpeState.results h⟩

theorem run_when {c : Bool} {f : State → State} (h : ∀ s, RunStands s (f s)) (s : State) : RunStands s (s.when c f) :=
  State.when_cases (P := RunStands s) (fun _ => .refl s) fun _ => h s

theorem run_each {f : Nat → State → State} (h : ∀ i s, RunStands s (f i s)) (k : Nat) (s : State) :
    RunStands s (s.each k f) :=
  State.each_induct (P := RunStands s) (fun i u hu => hu.trans (h i u)) (.refl s) k

theorem run_setCellOut (c k : Nat) (v : Int) (s : State) : RunStands s (setCellOut c k v s) := ⟨rfl, rfl, rfl⟩

theorem run_laneWritten (i c : Nat) (r : LaneStep) (s : State) : RunStands s (laneWritten i c r s) := by
  unfold laneWritten
  cases r.st <;> cases r.out <;> exact ⟨rfl, rfl, rfl⟩

theorem run_vecLane (op : VecOp) (i : Nat) (s : State) : RunStands s (vecLane op i s) := by
  rw [vecLane_eq]
  split
  · exact (run_laneWritten ..).trans (.of_lpe (when_satFlag_lpe ..))
  · exact .refl s

theorem run_injectAt (node : Nat) (op : VecOp) (sig : Int) (s : State) : RunStands s (injectAt node op sig s) := by
  unfold injectAt
  split
  · exact .refl s
  · split
    · exact .refl s
    · refine run_each (fun i w => ?_) 16 s
      split
      · extract_lets r
        exact RunStands.trans (u := { w with lpe.lanes := w.lpe.lanes.setIfInBounds i ((w.lane i).setReg _ r.1) })
          ⟨rfl, rfl, rfl⟩ (.of_lpe (when_satFlag_lpe ..))
      · exact .refl w

theorem run_captureNode (node : Nat) (op : VecOp) (s : State) : RunStands s (captureNode node op s) := by
  unfold captureNode
  refine run_each (fun c w => ?_) _ s
  split
  · split
    · exact .refl w
    · exact ⟨rfl, rfl, rfl⟩
  · exact .refl w

theorem run_runOps (inject : Bool) (sig : Int) (capture : Bool) (l : List VecOp) (n : Nat) (s : State) :
    RunStands s (runOps inject sig capture n l s) := by
  induction l generalizing n s with
  | nil => exact .refl s
  | cons op l ih =>
    have h1 : RunStands s (vecAll op s) := run_each (run_vecLane op) 16 s
    have h2 := h1.trans (run_when (c := inject) (run_injectAt n op sig) (vecAll op s))
    exact (h2.trans (run_when (c := capture) (run_captureNode n op) _)).trans (ih (n + 1) _)

theorem run_overwrite (r : ReadyBatch) (s : State) : RunStands s (overwrite r s) := by
  unfold overwrite
  refine run_each (fun i w => ?_) 16 s
  split
  · exact .refl w
  · split
    · exact (run_setCellOut ..).trans (run_setCellOut ..)
    · exact .refl w

theorem run_captureEntry (v : Int) (s : State) : RunStands s (captureEntry v s) :=
  RunStands.trans (u := { s with lpe.cap := { s.lpe.cap with buf := cellsPut (0 : Word) s.lpe.cap.buf _ _ } })
    ⟨rfl, rfl, rfl⟩ (.of_lpe (State.setF_lpe ..))

theorem run_captureValue (c : Nat) (s : State) : RunStands s (captureValue c s).2 :=
  .of_lpe (State.lpe_of_without (A := { butLpe with drawn := true }) (captureValue_writes rfl c s) rfl)

theorem run_captureSample (s : State) : RunStands s (captureSample s) := by
  have hset : ∀ (u : State), RunStands u ((u.setF Fl.LPE_CAPSTAT_NEXT 0 0).setB Fl.LPE_CAPSTAT_WRAPPED 0 true) :=
    fun u => .of_lpe ((State.setB_lpe ..).trans (State.setF_lpe ..))
  unfold captureSample
  extract_lets s1 n l c s2
  have h1 : RunStands s s1 := run_each (fun c w => (run_captureValue c w).trans (run_captureEntry ..)) _ s
  have h2 : RunStands s1 s2 := ⟨rfl, rfl, rfl⟩
  refine h1.trans (h2.trans ?_)
  split
  · split
    · exact hset s2
    · exact ⟨rfl, rfl, rfl⟩
  · exact .refl s2

theorem run_superviseLane (b i : Nat) (s : State) : RunStands s (superviseLane b i s) :=
  RunStands.trans (.of_lpe (State.setF_lpe ..)) ⟨rfl, rfl, rfl⟩

theorem run_injSignal (s : State) : RunStands s (injSignal s).2 :=
  .of_lpe (State.lpe_of_without (A := { butLpe with drawn := true }) (injSignal_writes rfl s) rfl)

theorem run_cleared (l : List Nat) (s : State) :
    RunStands s (s.eachOf l fun c s => s.each 4 fun k s => setCellOut c k 0 s) :=
  State.eachOf_induct (P := RunStands s) (fun c u hu => hu.trans (run_each (fun k => run_setCellOut c k 0) 4 u))
    (.refl s) l

/-- A run takes its batch as the one in execution. -/
def RunBegins (r : ReadyBatch) (s u : State) : Prop :=
  u.lpe.ready = s.lpe.ready ∧ u.lpe.cur = r.batch ∧ u.lpe.results = s.lpe.results

theorem RunBegins.trans {r : ReadyBatch} {s u v : State} (h : RunBegins r s u) (h' : RunStands u v) :
    RunBegins r s v := ⟨h'.1.trans h.1, h'.2.1.trans h.2.1, h'.2.2.trans h.2.2⟩

theorem run_begins (r : ReadyBatch) (s : State) : RunBegins r s (sampleStart r s) := by
  unfold sampleStart
  extract_lets base l u
  have hu : RunBegins r s u := ⟨rfl, rfl, rfl⟩
  exact hu.trans (run_cleared _ u)

/-- A run leaves its outputs as a result of its window, unless it is late. -/
def RunLeaves (r : ReadyBatch) (s u : State) : Prop :=
  u.lpe.ready = s.lpe.ready ∧ u.lpe.cur = r.batch ∧ u.lpe.results.length = s.lpe.results.length + (if r.late then 0
    else 1)

theorem run_keeps {r : ReadyBatch} {s u : State} (h : RunBegins r s u) : RunLeaves r s (keepResults r u) := by
  obtain ⟨h1, h2, h3⟩ := h
  unfold keepResults
  split
  next hl => exact ⟨h1, h2, by rw [h3, if_pos hl, Nat.add_zero]⟩
  next hl =>
    refine ⟨h1, h2, ?_⟩
    rw [if_neg hl, ← h3]
    exact List.length_append

theorem runBatch_leaves (r : ReadyBatch) (s : State) : RunLeaves r s (runBatch r s) := by
  unfold runBatch
  extract_lets s1 inject d s2 capture s3 s4 s5 s6 s7
  have h1 : RunBegins r s s1 := run_begins r s
  have h2 : RunStands s1 s2 := by
    change RunStands s1 (if inject = true then injSignal s1 else (0, s1)).2
    split
    · exact run_injSignal s1
    · exact .refl s1
  have h3 : RunStands s2 s3 := run_runOps inject d.1 capture _ 1 s2
  have h4 : RunStands s3 s4 := run_when (fun w => (⟨rfl, rfl, rfl⟩ : RunStands w (injAdvance w))) s3
  have h5 : RunStands s4 s5 := run_overwrite r s4
  have h6 : RunStands s5 s6 := run_when run_captureSample s5
  have h7 : RunStands s6 s7 := run_when (fun w => run_each (fun i => run_when (run_superviseLane r.batch i)) 16 w) s6
  exact run_keeps (h1.trans (h2.trans (h3.trans (h4.trans (h5.trans (h6.trans h7))))))

theorem batch_runs {s : State} {r : ReadyBatch} (h : nextReady s.lpe.ready = some r) : Effect .batchRun s fun u =>
    u.lpe.ready = s.lpe.ready.erase r ∧ u.lpe.cur = r.batch ∧
      u.lpe.results.length = s.lpe.results.length + (if r.late then 0 else 1) := by
  have he : batchRun s = runBatch r { s with lpe.ready := s.lpe.ready.erase r } := by unfold batchRun; rw [h]
  have hrun := runBatch_leaves r { s with lpe.ready := s.lpe.ready.erase r }
  exact effect_done (congrArg done he) hrun

/-! ### The launch -/

/-- A result whose window a launch of group `g` hands out. -/
def handsOut (g : Nat) (s : State) (group window : Nat) : Bool := group == g && window + 2 ≤ (s.lg g).ticks

theorem lpeCause_keeps {j k : Nat} (hk : k < 9) {s : State} (h : LpeShows k s) : LpeShows k (lpeCause j s) :=
  bitOf_causeOn_keeps (a := ⟨R.LPE_STAT, 0, 9⟩) (by decide) (by decide) (by decide) hk (by decide) h

/-- Batch `b` has missed its launch, and cause 0 says so. -/
def Overran (b : Nat) (s : State) : Prop := fieldOf s.regs Fl.LPE_BSTAT_OVR b = 1 ∧ LpeShows 0 s

theorem overrun_shows {r : ReadyBatch} (hr : r.batch < 64) (s : State) : Overran r.batch (overrun r s) :=
  ⟨(fieldOf_lpeCause 0 _ _ (by decide) (by decide)).trans
      (fieldOf_setB_same s Fl.LPE_BSTAT_OVR _ true (lt_of_lt_of_le hr (by decide)) (by decide) (by decide)),
    lpeCause_shows 0 (by decide) _⟩

theorem overrun_keeps {b : Nat} (hb : b < 64) (r : ReadyBatch) {s : State} (h : Overran b s) :
    Overran b (overrun r s) := by
  obtain ⟨h1, h2⟩ := h
  refine ⟨(fieldOf_lpeCause 0 _ _ (by decide) (by decide)).trans ?_, lpeCause_keeps (by decide) ?_⟩
  · by_cases he : r.batch = b
    · rw [he]
      exact fieldOf_setB_same s Fl.LPE_BSTAT_OVR _ true (lt_of_lt_of_le hb (by decide)) (by decide) (by decide)
    · exact (fieldOf_setF_member s _ _ he).trans h1
  · refine Eq.trans ?_ h2
    exact congrArg (bitOf · 0) (fieldOf_setB_apart s Fl.LPE_BSTAT_OVR ⟨R.LPE_STAT, 0, 9⟩ _ _ true (by decide))

theorem overruns_lpe (l : List ReadyBatch) (s : State) : (s.eachOf l overrun).lpe = s.lpe :=
  State.eachOf_induct (P := fun u => u.lpe = s.lpe)
    (fun _ _ hu => ((lpeCause_lpe 0 _).trans (State.setB_lpe ..)).trans hu) rfl l

/-- The batches of group `g` whose launch finds them waiting. -/
def lateBatches (g : Nat) (s : State) : List ReadyBatch :=
  s.lpe.ready.filter fun r => handsOut g s r.group r.window && !r.late

theorem handOutputs_results (g : Nat) (s : State) : (handOutputs g s).lpe.results =
    s.lpe.results.filter fun r => !handsOut g s r.group r.window := by
  have h := congrArg LpeState.results (overruns_lpe (lateBatches g s) s)
  exact congrArg (List.filter fun r => !handsOut g s r.group r.window) h

theorem handOutputs_regs (g : Nat) (s : State) : (handOutputs g s).regs = (s.eachOf (lateBatches g s) overrun).regs :=
  rfl

theorem handOutputs_overran {g : Nat} {s : State} {r : ReadyBatch} (hr : r ∈ s.lpe.ready)
    (ho : handsOut g s r.group r.window = true) (hl : r.late = false) (hb : r.batch < 64) :
    Overran r.batch (handOutputs g s) := by
  have hm : r ∈ lateBatches g s := List.mem_filter.mpr ⟨hr, by rw [ho, hl]; rfl⟩
  exact State.eachOf_establish (P := fun _ => True) (Q := Overran r.batch) hm (fun _ _ _ => trivial)
    (fun y u hu => overrun_keeps hb y hu) (fun u _ => overrun_shows hb u) trivial

/-! ### The exchanges that begin -/

/-- The lanes' links stand. -/
def LinksStand (s u : State) : Prop := u.cln.link = s.cln.link

theorem LinksStand.refl (s : State) : LinksStand s s := rfl

theorem LinksStand.trans {s u v : State} (h : LinksStand s u) (h' : LinksStand u v) : LinksStand s v := Eq.trans h' h

theorem LinksStand.ln {s u : State} (h : LinksStand s u) (j : Nat) : u.ln j = s.ln j := by
  rw [State.ln, State.ln, h]

theorem links_setF (fl : Fld) (i v : Nat) (s : State) : LinksStand s (s.setF fl i v) :=
  congrArg ClnState.link (State.setF_cln ..)

theorem links_setB (fl : Fld) (i : Nat) (v : Bool) (s : State) : LinksStand s (s.setB fl i v) :=
  congrArg ClnState.link (State.setB_cln ..)

theorem links_sendCommand (j c : Nat) (s : State) : LinksStand s (sendCommand j c s) := by
  have hput : ∀ (l : List (Nat × Nat)) (st : Nat) (u : State),
      LinksStand u ({ u with cln.command := l }.setF Fl.CLN_CELLST_STATE c st) := fun l st u =>
    LinksStand.trans (u := { u with cln.command := l }) rfl (links_setF ..)
  unfold sendCommand
  extract_lets st seq put err u off
  have hu : LinksStand s u := links_setB ..
  have hoff : LinksStand u (off u) := hput _ _ u
  clear_value u off
  refine hu.trans ?_
  split
  · exact .refl u
  · split
    · exact hoff
    · split
      · exact hput _ _ u
      · split
        · exact hput _ _ u
        · exact hoff

theorem ln_setLn_same {j : Nat} (hj : j < 32) (s : State) (f : LaneLink → LaneLink) : (s.setLn j f).ln j = f (s.ln j) :=
  memberOf_set_same s.cln.link _ {} hj

theorem ln_setLn_other {i j : Nat} (h : i ≠ j) (s : State) (f : LaneLink → LaneLink) : (s.setLn i f).ln j = s.ln j :=
  memberOf_set_other s.cln.link _ {} h

/-- What a lane sends at the start of an exchange: its SYNC, then the commands of its cells. -/
def laneSends (j : Nat) (idle : Bool) (f : LaneLink → LaneLink) (l : List (Nat × Nat)) (s : State) : State :=
  if idle then s.setLn j f else (s.setLn j f).eachOf l fun e s => sendCommand j e.2 s

theorem links_laneSends (j : Nat) (idle : Bool) (f : LaneLink → LaneLink) (l : List (Nat × Nat)) (s : State) :
    LinksStand (s.setLn j f) (laneSends j idle f l s) := by
  unfold laneSends
  split
  · exact .refl _
  · exact State.eachOf_induct (f := fun (e : Nat × Nat) s => sendCommand j e.2 s) (P := LinksStand (s.setLn j f))
      (fun e u hu => hu.trans (links_sendCommand j e.2 u)) (.refl _) l

/-- SYNC and the emptied telemetry of an exchange that begins. -/
def exchangeSync (j : Nat) (idle : Bool) (s : State) (x : LaneLink) : LaneLink :=
  let half := s.b Fl.LPE_GROUP_HALF (s.f Fl.CLN_LANECFG_GROUP j)
  let flags := b2n (16 ≤ j) + 2 * b2n half + 4 * b2n idle
  let body : List Byte := [BitVec.ofNat 8 (s.ln j).exchange, BitVec.ofNat 8 flags]
  { x with sync := body ++ [BitVec.ofNat 8 (crc8 body)], take := x.take - 1, telemetry := [] }

theorem laneExchange_eq (j : Nat) (s : State) : laneExchange j s =
    (laneSends j (s.b Fl.CLN_LANESTAT_SCHEDERR j || s.lanesIdle)
      (exchangeSync j (s.b Fl.CLN_LANESTAT_SCHEDERR j || s.lanesIdle) s) (s.ln j).admitted s).setLn j fun x =>
        { x with exchange := x.exchange + 1 } := rfl

theorem laneExchange_own {j : Nat} (hj : j < 32) (s : State) : ((laneExchange j s).ln j).exchange =
    (s.ln j).exchange + 1 := by
  rw [laneExchange_eq, ln_setLn_same hj, (links_laneSends ..).ln, ln_setLn_same hj]
  rfl

theorem laneExchange_other {i j : Nat} (h : i ≠ j) (s : State) : (laneExchange i s).ln j = s.ln j := by
  rw [laneExchange_eq, ln_setLn_other h, (links_laneSends ..).ln, ln_setLn_other h]

/-! ### The launch as a whole -/

/-- Registers that an exchange writes. -/
def exchangeRegs : List Rg := [R.CLN_CELLST]

theorem laneExchange_field {fl : Fld} (j i : Nat) (s : State)
    (h : (!regsIn exchangeRegs fl.reg.addr && decide (fl.reg.count ≤ 65536)) = true) :
    fieldOf (laneExchange j s).regs fl i = fieldOf s.regs fl i :=
  fieldOf_of_without (laneExchange_writes (P := { regs := regsIn exchangeRegs, cln := true }) (by decide) rfl j s) i h

/-- A launch of group `g` begins the exchange of lane `j`. -/
def launchLane (g j : Nat) (s : State) : State :=
  if s.exchanging j && s.f Fl.CLN_LANECFG_GROUP j == g then laneExchange j s else s

/-- Fields that tell which lanes exchange, and those that a launch leaves to its batches. -/
def launchFlds : List Fld := [Fl.CLN_LANESTAT_STATE, Fl.CLN_LANECFG_GROUP, Fl.LPE_BSTAT_OVR, ⟨R.LPE_STAT, 0, 9⟩]

/-- The engine, the ring and the launch's fields stand. -/
def LaunchStands (s u : State) : Prop :=
  u.lpe = s.lpe ∧ u.rng = s.rng ∧ ∀ fl ∈ launchFlds, ∀ i, fieldOf u.regs fl i = fieldOf s.regs fl i

theorem LaunchStands.refl (s : State) : LaunchStands s s := ⟨rfl, rfl, fun _ _ _ => rfl⟩

theorem LaunchStands.trans {s u v : State} (h : LaunchStands s u) (h' : LaunchStands u v) : LaunchStands s v :=
  ⟨h'.1.trans h.1, h'.2.1.trans h.2.1, fun fl hf i => (h'.2.2 fl hf i).trans (h.2.2 fl hf i)⟩

theorem launch_laneExchange (j : Nat) (s : State) : LaunchStands s (laneExchange j s) := by
  have hall : ∀ fl ∈ launchFlds, (!regsIn exchangeRegs fl.reg.addr && decide (fl.reg.count ≤ 65536)) = true := by decide
  exact ⟨State.lpe_of_without (A := { besideMemory with lpe := false, mem := true, pending := true })
      (laneExchange_writes rfl rfl j s) rfl,
    State.rng_of_without (A := { besideMemory with rng := false, mem := true, pending := true })
      (laneExchange_writes rfl rfl j s) rfl,
    fun fl hf i => laneExchange_field j i s (hall fl hf)⟩

theorem launch_launchLane (g j : Nat) (s : State) : LaunchStands s (launchLane g j s) := by
  unfold launchLane
  split
  · exact launch_laneExchange j s
  · exact .refl s

theorem launch_lanes (g : Nat) (s : State) : LaunchStands s (s.each 32 (launchLane g)) :=
  State.each_induct (P := LaunchStands s) (fun j u hu => hu.trans (launch_launchLane g j u)) (.refl s) 32

/-- Lane `j` exchanges in group `g`. -/
def Exchanges (g j : Nat) (s : State) : Prop := s.exchanging j = true ∧ s.f Fl.CLN_LANECFG_GROUP j = g

theorem Exchanges.congr {g j : Nat} {s u : State} (hr : u.rng = s.rng)
    (h1 : fieldOf u.regs Fl.CLN_LANESTAT_STATE j = fieldOf s.regs Fl.CLN_LANESTAT_STATE j)
    (h2 : fieldOf u.regs Fl.CLN_LANECFG_GROUP j = fieldOf s.regs Fl.CLN_LANECFG_GROUP j) (h : Exchanges g j s) :
    Exchanges g j u := by
  obtain ⟨he, hg⟩ := h
  refine ⟨?_, h2.trans hg⟩
  have hst : u.laneSt j = s.laneSt j := h1
  rw [← he, State.exchanging, State.exchanging, hst, hr]

theorem launch_exchanges {g j : Nat} {s u : State} (h : LaunchStands s u) (he : Exchanges g j s) : Exchanges g j u :=
  he.congr h.2.1 (h.2.2 _ (by decide) j) (h.2.2 _ (by decide) j)

/-- Lane `j` of group `g` exchanges, with `n` exchanges begun so far. -/
def ExchangesAt (g j n : Nat) (s : State) : Prop := Exchanges g j s ∧ (s.ln j).exchange = n

theorem launchLane_own {g j n : Nat} (hj : j < 32) {s : State} (h : ExchangesAt g j n s) :
    ((launchLane g j s).ln j).exchange = n + 1 := by
  obtain ⟨⟨he, hg⟩, hn⟩ := h
  unfold launchLane
  rw [if_pos (by rw [he, hg, beq_self_eq_true]; rfl), laneExchange_own hj, hn]

theorem launchLane_other {g i j : Nat} (h : i ≠ j) (s : State) : (launchLane g i s).ln j = s.ln j := by
  unfold launchLane
  split
  · exact laneExchange_other h s
  · rfl

theorem lanes_exchange {g j n : Nat} (hj : j < 32) {s : State} (h : ExchangesAt g j n s) :
    ((s.each 32 (launchLane g)).ln j).exchange = n + 1 :=
  State.each_once (f := launchLane g) (R := ExchangesAt g j n) (Q := fun u => (u.ln j).exchange = n + 1) hj
    (fun i u hi hu => ⟨launch_exchanges (launch_launchLane g i u) hu.1, by rw [launchLane_other hi, hu.2]⟩)
    (fun i u hi hu => by rw [launchLane_other hi, hu]) (fun u hu => launchLane_own hj hu) h

theorem handOutputs_exchanges {g j : Nat} {s : State} (h : Exchanges g j s) :
    ExchangesAt g j (s.ln j).exchange (handOutputs g s) := by
  have hf : ∀ fl : Fld, (!regsIn [R.EVT_PEND, R.LPE_BSTAT, R.LPE_STAT] fl.reg.addr && decide (fl.reg.count ≤ 65536)) =
      true → fieldOf (handOutputs g s).regs fl j = fieldOf s.regs fl j := fun fl hfl =>
    fieldOf_onlyRegs (l := [R.EVT_PEND, R.LPE_BSTAT, R.LPE_STAT])
      (handOutputs_writes (by decide) (by decide) (by decide) rfl g s) j hfl
  have hcln : (handOutputs g s).cln = s.cln :=
    State.cln_of_without (A := { besideMemory with cln := false, mem := true, pending := true })
      (handOutputs_writes rfl rfl rfl rfl g s) rfl
  have hrng : (handOutputs g s).rng = s.rng :=
    State.rng_of_without (A := { besideMemory with rng := false, mem := true, pending := true })
      (handOutputs_writes rfl rfl rfl rfl g s) rfl
  exact ⟨h.congr hrng (hf _ (by decide)) (hf _ (by decide)), by rw [State.ln, hcln]; rfl⟩

theorem Overran.launch {b : Nat} {s u : State} (hl : LaunchStands s u) (h : Overran b s) : Overran b u := by
  obtain ⟨h1, h2⟩ := h
  obtain ⟨-, -, hf⟩ := hl
  exact ⟨(hf Fl.LPE_BSTAT_OVR (by decide) b).trans h1,
    (congrArg (bitOf · 0) (hf ⟨R.LPE_STAT, 0, 9⟩ (by decide) 0)).trans h2⟩

theorem Overran.shown {b : Nat} {u : State} (h : Overran b u) :
    u.f Fl.LPE_BSTAT_OVR b = 1 ∧ bitOf (u.f ⟨R.LPE_STAT, 0, 9⟩) 0 = true := h

theorem output_launches {g : Nat} (hg : g < 8) {s : State} (hgrid : (s.lg g).grid = true) :
    Effect (.outputLaunch g) s fun u =>
      u.lpe.results = s.lpe.results.filter (fun r => !(r.group == g && r.window + 2 ≤ (s.lg g).ticks)) ∧
      (∀ r ∈ s.lpe.ready, r.group = g → r.window + 2 ≤ (s.lg g).ticks → r.late = false → r.batch < 64 →
        u.f Fl.LPE_BSTAT_OVR r.batch = 1 ∧ bitOf (u.f ⟨R.LPE_STAT, 0, 9⟩) 0 = true) ∧
      ∀ j, j < 32 → s.exchanging j = true → s.f Fl.CLN_LANECFG_GROUP j = g →
        (u.ln j).exchange = (s.ln j).exchange + 1 := by
  have he : outputLaunch g s = (handOutputs g s).each 32 (launchLane g) := by
    unfold outputLaunch
    rw [if_neg] <;> [rfl; skip]
    rw [hgrid, Bool.not_true, Bool.or_false, decide_eq_true_eq]
    omega
  have hl := launch_lanes g (handOutputs g s)
  refine effect_done (congrArg done he) ⟨?_, fun r hr hgr hw hlate hb => ?_, fun j hj hex hgr =>
    lanes_exchange hj (handOutputs_exchanges ⟨hex, hgr⟩)⟩
  · exact (congrArg LpeState.results hl.1).trans (handOutputs_results g s)
  · have ho : handsOut g s r.group r.window = true := by
      unfold handsOut
      rw [hgr, beq_self_eq_true, Bool.true_and, decide_eq_true_eq]
      exact hw
    exact ((handOutputs_overran hr ho hlate hb).launch hl).shown

end Sys2Proof.Machine

/-! ## Injection, capture, supervision and takeover of the loop engine (R139 to R161) -/

namespace Sys2Proof.Machine

set_option Elab.async false

/-! ### Injection and capture -/

/-- The injector may run: its batch and its node write, and its wave is defined. -/
def InjectorReady (s : State) : Prop := s.batchOn (s.f Fl.LPE_INJCTL_BATCH) = true ∧
  s.nodeWrites (s.f Fl.LPE_INJCTL_BATCH) (s.f Fl.LPE_INJNODE_NODE) = true ∧ s.f Fl.LPE_INJCTL_WAVE ≠ 3

/-- The injector's state with ARM written. -/
def injectorAsked (s : State) : State := s.setB Fl.LPE_INJCTL_ARM 0 true

theorem injectorAsked_field {fl : Fld} (h : Fl.LPE_INJCTL_ARM.apart fl = true) (i : Nat) (s : State) :
    fieldOf (injectorAsked s).regs fl i = fieldOf s.regs fl i := fieldOf_setB_apart s _ _ _ _ _ h

theorem injectorAsked_arm (s : State) : fieldOf (injectorAsked s).regs Fl.LPE_INJCTL_ARM 0 = 1 :=
  fieldOf_setB_same s Fl.LPE_INJCTL_ARM 0 true (by decide) (by decide) (by decide)

theorem injectorAsked_ready (b node : Nat) (s : State) :
    ((injectorAsked s).batchOn b && (injectorAsked s).nodeWrites b node) = (s.batchOn b && s.nodeWrites b node) := by
  have h1 : ∀ i, (injectorAsked s).b Fl.LPE_BATCH_EN i = s.b Fl.LPE_BATCH_EN i := fun i =>
    b_of_field (injectorAsked_field (by decide) i s)
  have h2 : (injectorAsked s).b Fl.LPE_TAKE_ACTIVE 0 = s.b Fl.LPE_TAKE_ACTIVE 0 :=
    b_of_field (injectorAsked_field (by decide) 0 s)
  have h3 : (injectorAsked s).f Fl.LPE_BATCH_KERNEL b = s.f Fl.LPE_BATCH_KERNEL b :=
    injectorAsked_field (by decide) b s
  have hl : (injectorAsked s).lpe = s.lpe := State.setB_lpe ..
  have hword : ∀ k n, (injectorAsked s).kernelWord k n = s.kernelWord k n := fun k n => by
    rw [State.kernelWord, State.kernelWord, hl]
  have hlen : ∀ k, (injectorAsked s).kernelLen k = s.kernelLen k := fun k => congrArg (bitsOf · 0 8) (hword k 0)
  rw [State.batchOn, State.batchOn, State.nodeWrites, State.nodeWrites, h1, h2, h3, hlen, hword]

theorem injectorArm_eq (s : State) : injectorArm s =
    if s.batchOn (s.f Fl.LPE_INJCTL_BATCH) && s.nodeWrites (s.f Fl.LPE_INJCTL_BATCH) (s.f Fl.LPE_INJNODE_NODE) &&
        s.f Fl.LPE_INJCTL_WAVE != 3 then
      { injectorAsked s with lpe.inj := { (injectorAsked s).lpe.inj with armed := true, stopping := false } }
    else (injectorAsked s).setB Fl.LPE_INJCTL_ERR 0 true := by
  have h1 : (injectorAsked s).f Fl.LPE_INJNODE_NODE = s.f Fl.LPE_INJNODE_NODE := injectorAsked_field (by decide) 0 s
  have h2 : (injectorAsked s).f Fl.LPE_INJCTL_WAVE = s.f Fl.LPE_INJCTL_WAVE := injectorAsked_field (by decide) 0 s
  rw [← injectorAsked_ready, ← h1, ← h2]
  rfl

theorem injector_arms {s : State} (h : InjectorReady s) : Effect .injectorArm s fun u =>
    u.lpe.inj.armed = true ∧ u.f Fl.LPE_INJCTL_ARM = 1 := by
  obtain ⟨hb, hn, hw⟩ := h
  have he := (injectorArm_eq s).trans (if_pos (by rw [hb, hn]; exact bne_iff_ne.mpr hw))
  exact effect_done (congrArg done he) ⟨rfl, injectorAsked_arm s⟩

theorem injector_refuses {s : State} (h : ¬ InjectorReady s) : Effect .injectorArm s fun u =>
    u.lpe.inj = s.lpe.inj ∧ u.f Fl.LPE_INJCTL_ERR = 1 := by
  have he := (injectorArm_eq s).trans (if_neg fun hc => h (by
    rw [Bool.and_eq_true, Bool.and_eq_true, bne_iff_ne] at hc
    exact ⟨hc.1.1, hc.1.2, hc.2⟩))
  refine effect_done (congrArg done he) ⟨?_, fieldOf_setB_same (injectorAsked s) Fl.LPE_INJCTL_ERR 0 true (by decide)
    (by decide) (by decide)⟩
  exact congrArg LpeState.inj ((State.setB_lpe ..).trans (State.setB_lpe ..))

theorem injector_disarms (s : State) : Effect .injectorDisarm s fun u => u.f Fl.LPE_INJCTL_ARM = 0 ∧
    u.lpe.inj.armed = false ∧ u.lpe.inj.stopping = s.b Fl.LPE_INJCTL_RUN :=
  effect_done rfl ⟨fieldOf_setB_same s Fl.LPE_INJCTL_ARM 0 false (by decide) (by decide) (by decide), rfl,
    b_of_field (fieldOf_setB_apart s Fl.LPE_INJCTL_ARM Fl.LPE_INJCTL_RUN 0 0 false (by decide))⟩

theorem injection_done {s : State} (hr : s.f Fl.LPE_INJCTL_RUN = 1) (hn : s.f Fl.LPE_INJLEN_LEN ≤ s.lpe.inj.n) :
    Effect .injectionDone s fun u => u.f Fl.LPE_INJCTL_RUN = 0 ∧ LpeShows 6 u := by
  have he : exec .injectionDone s = done (lpeCause 6 (s.setB Fl.LPE_INJCTL_RUN 0 false)) :=
    congrArg done (if_pos (by rw [b_true hr, decide_eq_true hn]; rfl))
  exact effect_done he ⟨(fieldOf_lpeCause 6 _ _ (by decide) (by decide)).trans
    (fieldOf_setB_same s Fl.LPE_INJCTL_RUN 0 false (by decide) (by decide) (by decide)), lpeCause_shows 6 (by decide) _⟩

theorem capture_arms (s : State) : Effect .captureArm s fun u => u.lpe.cap.armed = true ∧
    u.lpe.cap.started = !s.b Fl.LPE_CAPCTL_SYNC ∧ u.f Fl.LPE_CAPSTAT_NEXT = 0 := by
  have hs : ((s.setB Fl.LPE_CAPCTL_ARM 0 true).setF Fl.LPE_CAPSTAT_NEXT 0 0).b Fl.LPE_CAPCTL_SYNC =
      s.b Fl.LPE_CAPCTL_SYNC :=
    b_of_field ((fieldOf_setF_apart _ Fl.LPE_CAPSTAT_NEXT Fl.LPE_CAPCTL_SYNC 0 0 0 (by decide)).trans
      (fieldOf_setB_apart s Fl.LPE_CAPCTL_ARM Fl.LPE_CAPCTL_SYNC 0 0 true (by decide)))
  exact effect_done rfl ⟨rfl, congrArg (! ·) hs,
    fieldOf_setF_fits _ Fl.LPE_CAPSTAT_NEXT 0 0 (by decide) (by decide) (by decide)⟩

theorem capture_done {s : State} (h : s.lpe.cap.full = true) : Effect .captureDone s fun u =>
    u.f Fl.LPE_CAPSTAT_DONE = 1 ∧ u.lpe.cap.full = false ∧ LpeShows 7 u := by
  have he : exec .captureDone s = done (lpeCause 7 (({ s with lpe.cap := { s.lpe.cap with full := false } }).setB
      Fl.LPE_CAPSTAT_DONE 0 true)) := congrArg done (if_pos h)
  refine effect_done he ⟨(fieldOf_lpeCause 7 _ _ (by decide) (by decide)).trans
    (fieldOf_setB_same _ Fl.LPE_CAPSTAT_DONE 0 true (by decide) (by decide) (by decide)), ?_,
      lpeCause_shows 7 (by decide) _⟩
  rw [lpeCause_lpe, State.setB_lpe]

/-! ### Supervision -/

/-- The cells that have been acted on stand. -/
def ActedStands (s u : State) : Prop := u.lpe.feActed = s.lpe.feActed

theorem ActedStands.without {s u : State} (h : u.without butLpe = s.without butLpe) : ActedStands s u :=
  congrArg LpeState.feActed (State.lpe_of_without (A := butLpe) h rfl)

theorem feEffect_acted (action slot : Nat) (s : State) : ActedStands s (feEffect action slot s) := by
  unfold feEffect
  extract_lets g
  split
  · split <;> exact rfl
  · split
    · exact .without (raiseReef_writes rfl g s)
    · exact rfl
  · split
    · exact .without (removeCell_writes rfl slot 4 s)
    · exact rfl
  · split
    · exact .without (groupStop_writes rfl rfl rfl rfl rfl rfl rfl rfl g s)
    · exact rfl
  · exact rfl

/-- Registers that the action on a following error writes. -/
def feRegs : List Rg := [R.EVT_PEND, R.LSW_CHSTAT, R.PRT_GCAUSE, R.PRT_GSTAT, R.PRT_IAPP, R.PRT_VAPP]

theorem feEffect_field {fl : Fld} (action slot i : Nat) (s : State)
    (h : (!regsIn feRegs fl.reg.addr && decide (fl.reg.count ≤ 65536)) = true) :
    fieldOf (feEffect action slot s).regs fl i = fieldOf s.regs fl i :=
  fieldOf_onlyRegs (l := feRegs) (feEffect_writes (by decide) (by decide) (by decide) (by decide) (by decide) (by
    decide)
    rfl rfl rfl action slot s) i h

/-- Cell `c` is noted as acted on, before the action itself. -/
def errorNoted (c : Nat) (s : State) : State :=
  lpeCause 2 (({ s with lpe.feActed := s.lpe.feActed ++ [c] }).setFBit Fl.LPE_FEST_ACTED (c / 16) (c % 16) true)

theorem errorNoted_acted (c : Nat) (s : State) : (errorNoted c s).lpe.feActed = s.lpe.feActed ++ [c] := by
  unfold errorNoted
  rw [lpeCause_lpe, State.setFBit_lpe]

theorem errorNoted_bit {c : Nat} (hc : c < 1024) (s : State) :
    bitOf (fieldOf (errorNoted c s).regs Fl.LPE_FEST_ACTED (c / 16)) (c % 16) = true := by
  unfold errorNoted
  rw [fieldOf_lpeCause 2 _ _ (by decide) (by decide)]
  exact bitOf_setFBit_same _ Fl.LPE_FEST_ACTED (c / 16) (c % 16) true
    (lt_of_lt_of_le (show c / 16 < 64 by omega) (by decide)) (by decide)
    (lt_of_lt_of_le (Nat.mod_lt c (by decide)) (by decide))

/-- A cell is acted on once it has exceeded its limit for TIMER samples. -/
def ActionDue (c : Nat) (s : State) : Prop := s.f Fl.LPE_FECFG_EN (c / 16) = 1 ∧
  max 1 (s.f Fl.LPE_FECFG_TIMER (c / 16)) ≤ cellsGet 0 s.lpe.feCount c ∧ c ∉ s.lpe.feActed

theorem error_acted {c : Nat} (hc : c < 1024) {s : State} (h : ActionDue c s) :
    Effect (.followingErrorAction c) s fun u => c ∈ u.lpe.feActed ∧
      bitOf (u.f Fl.LPE_FEST_ACTED (c / 16)) (c % 16) = true ∧ LpeShows 2 u := by
  obtain ⟨hen, htime, hnew⟩ := h
  have he : followingError c s = feEffect ((errorNoted c s).f Fl.LPE_FECFG_ACTION (c / 16)) c (errorNoted c s) := by
    unfold followingError
    refine if_pos ?_
    rw [decide_eq_true hc, b_true hen, decide_eq_true htime, List.contains_eq_mem, decide_eq_false hnew]
    rfl
  refine effect_done (congrArg done he) ⟨?_, ?_, ?_⟩
  · rw [feEffect_acted, errorNoted_acted]
    exact List.mem_append_right _ List.mem_cons_self
  · exact (congrArg (bitOf · (c % 16)) (feEffect_field _ c _ _ (by decide))).trans (errorNoted_bit hc s)
  · exact (congrArg (bitOf · 2) (feEffect_field (fl := ⟨R.LPE_STAT, 0, 9⟩) _ c 0 _ (by decide))).trans
      (lpeCause_shows 2 (by decide) _)

/-! ### Takeover -/

/-- Group `g` runs at half rate on bank 1. -/
def Halved (g : Nat) (s : State) : Prop :=
  fieldOf s.regs Fl.LPE_GROUP_HALF g = 1 ∧ fieldOf s.regs Fl.LPE_GROUP_BANK g = 1

/-- The enable, rate and bank of group `g` stand. -/
def GroupShown (g : Nat) (s u : State) : Prop :=
  ∀ fl ∈ [Fl.LPE_GROUP_EN, Fl.LPE_GROUP_HALF, Fl.LPE_GROUP_BANK], fieldOf u.regs fl g = fieldOf s.regs fl g

theorem GroupShown.halved {g : Nat} {s u : State} (h : GroupShown g s u) (hs : Halved g s) : Halved g u :=
  ⟨(h _ (by decide)).trans hs.1, (h _ (by decide)).trans hs.2⟩

theorem halveGroup_halves {g : Nat} (hg : g < 8) {s : State} (h : fieldOf s.regs Fl.LPE_GROUP_EN g = 1) :
    Halved g (halveGroup g s) ∧ fieldOf (halveGroup g s).regs Fl.LPE_GROUP_EN g = 1 := by
  have hg' : g < R.LPE_GROUP.count := lt_of_lt_of_le hg (by decide)
  unfold halveGroup
  rw [if_pos (b_one h)]
  refine ⟨⟨?_, ?_⟩, ?_⟩
  · exact (fieldOf_setF_apart _ Fl.LPE_GROUP_BANK Fl.LPE_GROUP_HALF g g 1 (by decide)).trans
      (fieldOf_setB_same s Fl.LPE_GROUP_HALF g true hg' (by decide) (by decide))
  · exact fieldOf_setF_fits _ Fl.LPE_GROUP_BANK g 1 hg' (by decide) (by decide)
  · exact (fieldOf_setF_apart _ Fl.LPE_GROUP_BANK Fl.LPE_GROUP_EN g g 1 (by decide)).trans
      ((fieldOf_setB_apart s Fl.LPE_GROUP_HALF Fl.LPE_GROUP_EN g g true (by decide)).trans h)

theorem halveGroup_other {i g : Nat} (h : i ≠ g) (s : State) : GroupShown g s (halveGroup i s) := by
  intro fl hfl
  have hr : ∀ fl ∈ [Fl.LPE_GROUP_EN, Fl.LPE_GROUP_HALF, Fl.LPE_GROUP_BANK], fl.reg = R.LPE_GROUP := by decide
  unfold halveGroup
  split
  · exact (fieldOf_setF_index _ Fl.LPE_GROUP_BANK fl 1 h (hr fl hfl)).trans
      (fieldOf_setF_index s Fl.LPE_GROUP_HALF fl _ h (hr fl hfl))
  · rfl

/-- Registers that the guests' batches and the loads of a takeover write. -/
def takeRegs : List Rg := [R.EVT_PEND, R.LPE_BATCH, R.LPE_BSTAT, R.LPE_STAT, R.LPE_LOAD, R.LPE_TLOAD]

/-- What a takeover shows of the engine itself: that it is active, and its groups. -/
def takeFlds : List Fld := [Fl.LPE_TAKE_ACTIVE, Fl.LPE_GROUP_EN, Fl.LPE_GROUP_HALF, Fl.LPE_GROUP_BANK]

/-- The fields of a takeover stand. -/
def TakeStands (s u : State) : Prop := ∀ fl ∈ takeFlds, ∀ i, fieldOf u.regs fl i = fieldOf s.regs fl i

theorem TakeStands.trans {s u v : State} (h : TakeStands s u) (h' : TakeStands u v) : TakeStands s v :=
  fun fl hf i => (h' fl hf i).trans (h fl hf i)

theorem TakeStands.of_takeRegs {s u : State} (h : u.without (onlyRegs takeRegs) = s.without (onlyRegs takeRegs)) :
    TakeStands s u := by
  have hall : ∀ fl ∈ takeFlds, (!regsIn takeRegs fl.reg.addr && decide (fl.reg.count ≤ 65536)) = true := by decide
  exact fun fl hf i => fieldOf_onlyRegs h i (hall fl hf)

theorem TakeStands.shown {s u : State} (h : TakeStands s u) (g : Nat) : GroupShown g s u := by
  have hall : ∀ fl ∈ [Fl.LPE_GROUP_EN, Fl.LPE_GROUP_HALF, Fl.LPE_GROUP_BANK], fl ∈ takeFlds := by decide
  exact fun fl hf => h fl (hall fl hf) g

theorem takeover_guests (s : State) : TakeStands s (showLoad (shedGuests (s.each 32 fun i s => guestBatch (32 + i)
  s))) := by
  have h1 : TakeStands s (s.each 32 fun i s => guestBatch (32 + i) s) :=
    State.each_induct (P := TakeStands s) (fun i u hu => hu.trans
      (.of_takeRegs (guestBatch_writes (by decide) rfl (32 + i) u))) (fun _ _ _ => rfl) 32
  exact h1.trans (TakeStands.trans (.of_takeRegs (shedGuests_writes (by decide) (by decide) (by decide) (by decide)
    rfl _))
    (.of_takeRegs (showLoad_writes (by decide) (by decide) (by decide) (by decide) _)))

/-- The home groups of a takeover are halved. -/
def homeHalved (s : State) : State := s.each 4 halveGroup

/-- The takeover is active. -/
def takeActive (s : State) : State := ({ s with lpe.signal := none }).setB Fl.LPE_TAKE_ACTIVE 0 true

/-- A guest group that is enabled runs at half rate with its grid. -/
def guestGroup (i : Nat) (s : State) : State :=
  if s.b Fl.LPE_GROUP_EN (4 + i) then
    (halveGroup (4 + i) s).setLg (4 + i) fun x => { x with grid := true, armed := false }
  else s

theorem takeoverStart_eq (s : State) : takeoverStart s =
    showLoad (shedGuests (((takeActive (homeHalved s)).each 4 guestGroup).each 32 fun i s => guestBatch (32 + i) s)) :=
  rfl

/-- An enabled group, halved or to be halved. -/
def EnabledGroup (g : Nat) (s : State) : Prop := fieldOf s.regs Fl.LPE_GROUP_EN g = 1

theorem GroupShown.enabled {g : Nat} {s u : State} (h : GroupShown g s u) (hs : EnabledGroup g s) : EnabledGroup g u :=
  (h _ (by decide)).trans hs

/-- A halved group that is enabled. -/
def HalvedOn (g : Nat) (s : State) : Prop := Halved g s ∧ EnabledGroup g s

theorem GroupShown.halvedOn {g : Nat} {s u : State} (h : GroupShown g s u) (hs : HalvedOn g s) : HalvedOn g u :=
  ⟨h.halved hs.1, h.enabled hs.2⟩

theorem halveGroup_enabled {i g : Nat} (hg : g < 8) {s : State} (h : EnabledGroup g s) :
    EnabledGroup g (halveGroup i s) := by
  by_cases he : i = g
  · subst he
    exact (halveGroup_halves hg h).2
  · exact (halveGroup_other he s).enabled h

theorem halveGroup_halvedOn {i g : Nat} (hg : g < 8) {s : State} (h : HalvedOn g s) : HalvedOn g (halveGroup i s) := by
  by_cases he : i = g
  · subst he
    exact halveGroup_halves hg h.2
  · exact (halveGroup_other he s).halvedOn h

theorem homeHalved_enabled {g : Nat} (hg : g < 8) {s : State} (h : EnabledGroup g s) : EnabledGroup g (homeHalved s) :=
  State.each_induct (P := EnabledGroup g) (fun _ _ hu => halveGroup_enabled hg hu) h 4

theorem homeHalved_halves {g : Nat} (hg : g < 4) {s : State} (h : EnabledGroup g s) : HalvedOn g (homeHalved s) := by
  have hg8 : g < 8 := by omega
  exact State.each_establish (f := halveGroup) (P := EnabledGroup g) (Q := HalvedOn g) hg
    (fun _ _ hu => halveGroup_enabled hg8 hu) (fun _ _ hu => halveGroup_halvedOn hg8 hu)
    (fun _ hu => halveGroup_halves hg8 hu) h

theorem takeActive_shown (g : Nat) (s : State) : GroupShown g s (takeActive s) := by
  have hall : ∀ fl ∈ [Fl.LPE_GROUP_EN, Fl.LPE_GROUP_HALF, Fl.LPE_GROUP_BANK], Fl.LPE_TAKE_ACTIVE.apart fl = true := by
    decide
  exact fun fl hf => fieldOf_setB_apart _ Fl.LPE_TAKE_ACTIVE fl 0 g true (hall fl hf)

theorem takeActive_active (s : State) : fieldOf (takeActive s).regs Fl.LPE_TAKE_ACTIVE 0 = 1 :=
  fieldOf_setB_same _ Fl.LPE_TAKE_ACTIVE 0 true (by decide) (by decide) (by decide)

theorem guestGroup_regs (i : Nat) (s : State) : (guestGroup i s).regs = (halveGroup (4 + i) s).regs := by
  unfold guestGroup
  split
  · rfl
  next h =>
    unfold halveGroup
    rw [if_neg h]

theorem guestGroup_active {i : Nat} {s : State} (h : fieldOf s.regs Fl.LPE_TAKE_ACTIVE 0 = 1) :
    fieldOf (guestGroup i s).regs Fl.LPE_TAKE_ACTIVE 0 = 1 := by
  have hh : fieldOf (halveGroup (4 + i) s).regs Fl.LPE_TAKE_ACTIVE 0 = fieldOf s.regs Fl.LPE_TAKE_ACTIVE 0 := by
    unfold halveGroup
    split
    · exact (fieldOf_setF_apart _ Fl.LPE_GROUP_BANK Fl.LPE_TAKE_ACTIVE _ 0 1 (by decide)).trans
        (fieldOf_setB_apart s Fl.LPE_GROUP_HALF Fl.LPE_TAKE_ACTIVE _ 0 true (by decide))
    · rfl
  rw [guestGroup_regs, hh, h]

theorem guestGroup_enabled {i g : Nat} (hg : g < 8) {s : State} (h : EnabledGroup g s) :
    EnabledGroup g (guestGroup i s) :=
  (congrArg (fun m => fieldOf m Fl.LPE_GROUP_EN g) (guestGroup_regs i s)).trans (halveGroup_enabled (i := 4 + i) hg h)

theorem HalvedOn.regs {g : Nat} {s u : State} (h : u.regs = s.regs) (hs : HalvedOn g s) : HalvedOn g u :=
  GroupShown.halvedOn (fun _ _ => by rw [h]) hs

theorem guestGroup_halvedOn {i g : Nat} (hg : g < 8) {s : State} (h : HalvedOn g s) : HalvedOn g (guestGroup i s) :=
  .regs (guestGroup_regs i s) (halveGroup_halvedOn (i := 4 + i) hg h)

theorem guestGroups_halve {g : Nat} (h4 : 4 ≤ g) (hg : g < 8) {s : State} (h : EnabledGroup g s) :
    HalvedOn g (s.each 4 guestGroup) := by
  have hm : g - 4 < 4 := by omega
  have he : 4 + (g - 4) = g := by omega
  refine State.each_establish (P := EnabledGroup g) (Q := HalvedOn g) hm (fun _ _ hu => guestGroup_enabled hg hu)
    (fun _ _ hu => guestGroup_halvedOn hg hu) (fun u hu => .regs (guestGroup_regs _ u) ?_) h
  rw [he]
  exact halveGroup_halves hg hu

theorem takeover_halves {g : Nat} (hg : g < 8) {s : State} (h : EnabledGroup g s) :
    HalvedOn g ((takeActive (homeHalved s)).each 4 guestGroup) := by
  by_cases h4 : 4 ≤ g
  · exact guestGroups_halve h4 hg ((takeActive_shown g _).enabled (homeHalved_enabled hg h))
  · exact State.each_induct (P := HalvedOn g) (fun _ _ hu => guestGroup_halvedOn hg hu)
      ((takeActive_shown g _).halvedOn (homeHalved_halves (by omega) h)) 4

theorem takeover_starts {s : State} (h : s.lpe.signal = some true) : Effect .takeoverEngineStart s fun u =>
    u.f Fl.LPE_TAKE_ACTIVE = 1 ∧
    ∀ g, g < 8 → s.f Fl.LPE_GROUP_EN g = 1 → u.f Fl.LPE_GROUP_HALF g = 1 ∧ u.f Fl.LPE_GROUP_BANK g = 1 := by
  have he : exec .takeoverEngineStart s = done (takeoverStart s) := congrArg done (if_pos (by rw [h]; rfl))
  have hend := takeover_guests ((takeActive (homeHalved s)).each 4 guestGroup)
  rw [takeoverStart_eq] at he
  refine effect_done he ⟨(hend _ (by decide) 0).trans ?_, fun g hg hen => ?_⟩
  · exact State.each_induct (P := fun u => fieldOf u.regs Fl.LPE_TAKE_ACTIVE 0 = 1) (fun _ _ hu => guestGroup_active hu)
      (takeActive_active _) 4
  · exact (hend.shown g).halved (takeover_halves hg hen).1

/-- Group `g` runs at its full rate on bank 0. -/
def FullRate (g : Nat) (s : State) : Prop :=
  fieldOf s.regs Fl.LPE_GROUP_HALF g = 0 ∧ fieldOf s.regs Fl.LPE_GROUP_BANK g = 0

/-- Group `g` returns to its full rate. -/
def returnGroup (g : Nat) (s : State) : State :=
  let p := s.f Fl.LPE_GROUP_PERIOD g
  (s.setB Fl.LPE_GROUP_HALF g false |>.setF Fl.LPE_GROUP_BANK g 0).setLg g fun x =>
    { x with period := p, grid := x.grid && g < 4 }

theorem returnGroup_own {g : Nat} (hg : g < 8) (s : State) : FullRate g (returnGroup g s) := by
  have hg' : g < R.LPE_GROUP.count := lt_of_lt_of_le hg (by decide)
  exact ⟨(fieldOf_setF_apart _ Fl.LPE_GROUP_BANK Fl.LPE_GROUP_HALF g g 0 (by decide)).trans
      (fieldOf_setB_same s Fl.LPE_GROUP_HALF g false hg' (by decide) (by decide)),
    fieldOf_setF_fits _ Fl.LPE_GROUP_BANK g 0 hg' (by decide) (by decide)⟩

theorem returnGroup_other {i g : Nat} (h : i ≠ g) {s : State} (hs : FullRate g s) : FullRate g (returnGroup i s) :=
  ⟨((fieldOf_setF_index _ Fl.LPE_GROUP_BANK Fl.LPE_GROUP_HALF 0 h rfl).trans
      (fieldOf_setF_member s Fl.LPE_GROUP_HALF _ h)).trans hs.1,
    ((fieldOf_setF_member _ Fl.LPE_GROUP_BANK 0 h).trans
      (fieldOf_setF_index s Fl.LPE_GROUP_HALF Fl.LPE_GROUP_BANK _ h rfl)).trans hs.2⟩

theorem returnGroups {g : Nat} (hg : g < 8) (s : State) : FullRate g (s.each 8 returnGroup) :=
  State.each_once (f := returnGroup) (R := fun _ => True) (Q := FullRate g) hg (fun _ _ _ _ => trivial)
    (fun _ _ hi hu => returnGroup_other hi hu) (fun u _ => returnGroup_own hg u) trivial

/-- Nothing of the guests' batches waits. -/
def guestsDropped (s : State) : State :=
  { s with lpe.signal := none
           lpe.ready := s.lpe.ready.filter fun r => r.batch < 32
           lpe.results := s.lpe.results.filter fun r => r.batch < 32 }

/-- The guests' batches are at rest, and nothing of them waits. -/
def guestsRest (s : State) : State := guestsDropped (s.each 32 fun i s => s.setF Fl.LPE_BSTAT_STATE (32 + i) 0)

theorem takeoverReturn_eq (s : State) : takeoverReturn s =
    showLoad ((guestsRest (s.each 8 returnGroup)).setB Fl.LPE_TAKE_ACTIVE 0 false) := rfl

theorem batchesRest_stands (s : State) :
    TakeStands s (s.each 32 fun i s => s.setF Fl.LPE_BSTAT_STATE (32 + i) 0) := by
  have hall : ∀ fl ∈ takeFlds, Fl.LPE_BSTAT_STATE.apart fl = true := by decide
  exact State.each_induct (f := fun i s => s.setF Fl.LPE_BSTAT_STATE (32 + i) 0) (P := TakeStands s)
    (fun i u hu => hu.trans fun fl hf j => fieldOf_setF_apart u _ fl _ j 0 (hall fl hf)) (fun _ _ _ => rfl) 32

theorem guestsDropped_regs (s : State) : (guestsDropped s).regs = s.regs := rfl

theorem TakeStands.regs {s u v : State} (h : TakeStands s u) (hr : v.regs = u.regs) : TakeStands s v := by
  intro fl hf i
  rw [hr]
  exact h fl hf i

theorem guestsRest_stands (s : State) : TakeStands s (guestsRest s) := (batchesRest_stands s).regs (guestsDropped_regs
  _)

theorem takeover_returns {s : State} (h : s.lpe.signal = some false) : Effect .takeoverEngineReturn s fun u =>
    u.f Fl.LPE_TAKE_ACTIVE = 0 ∧ ∀ g, g < 8 → u.f Fl.LPE_GROUP_HALF g = 0 ∧ u.f Fl.LPE_GROUP_BANK g = 0 := by
  have he : exec .takeoverEngineReturn s = done (takeoverReturn s) := congrArg done (if_pos (by rw [h]; rfl))
  rw [takeoverReturn_eq] at he
  have hend : TakeStands _ (showLoad ((guestsRest (s.each 8 returnGroup)).setB Fl.LPE_TAKE_ACTIVE 0 false)) :=
    .of_takeRegs (showLoad_writes (by decide) (by decide) (by decide) (by decide) _)
  refine effect_done he ⟨(hend _ (by decide) 0).trans
    (fieldOf_setB_same _ Fl.LPE_TAKE_ACTIVE 0 false (by decide) (by decide) (by decide)), fun g hg => ?_⟩
  have hset : ∀ fl ∈ [Fl.LPE_GROUP_HALF, Fl.LPE_GROUP_BANK], fl ∈ takeFlds ∧ Fl.LPE_TAKE_ACTIVE.apart fl = true := by
    decide
  have hkept : ∀ fl ∈ [Fl.LPE_GROUP_HALF, Fl.LPE_GROUP_BANK],
      fieldOf (showLoad ((guestsRest (s.each 8 returnGroup)).setB Fl.LPE_TAKE_ACTIVE 0 false)).regs fl g =
        fieldOf (s.each 8 returnGroup).regs fl g := fun fl hf =>
    (hend fl (hset fl hf).1 g).trans ((fieldOf_setB_apart _ Fl.LPE_TAKE_ACTIVE fl 0 g false (hset fl hf).2).trans
      (guestsRest_stands _ fl (hset fl hf).1 g))
  obtain ⟨h1, h2⟩ := returnGroups hg s
  exact ⟨(hkept _ (by decide)).trans h1, (hkept _ (by decide)).trans h2⟩

/-- Settles O24: ticks, runs, launches, injection, capture, supervision and takeover, each from the lemma of its
command. -/
theorem loopRunning : Obligations.LoopRunning := by
  intro s
  refine ⟨fun g hg hgrid => group_ticks hg hgrid, fun r hr => batch_runs hr, fun g hg hgrid => output_launches hg hgrid,
    ⟨fun hgood => injector_arms hgood, fun hbad => injector_refuses hbad⟩, injector_disarms s,
    fun hr hn => injection_done hr hn, capture_arms s, fun hf => capture_done hf,
    fun c hc hen ht hn => error_acted hc ⟨hen, ht, hn⟩, fun h => takeover_starts h, fun h => takeover_returns h⟩

end Sys2Proof.Machine

/-! ## The life of a lane: what its operations write (R164 to R192) -/

namespace Sys2Proof.Machine

set_option Elab.async false

/-! ### Operations that write listed fields only -/

section Stand

variable {l : List Fld}

theorem stand_setF {fl : Fld} (h : fl ∈ l) (i v : Nat) (s : State) : FieldsStand l s (s.setF fl i v) :=
  fun b j hb => fieldOf_setF_apart s fl b i j v (apart_of_mem hb h)

theorem stand_setB {fl : Fld} (h : fl ∈ l) (i : Nat) (v : Bool) (s : State) : FieldsStand l s (s.setB fl i v) :=
  fun b j hb => fieldOf_setB_apart s fl b i j v (apart_of_mem hb h)

theorem stand_setFBit {fl : Fld} (h : fl ∈ l) (i k : Nat) (v : Bool) (s : State) :
    FieldsStand l s (s.setFBit fl i k v) := fun b j hb => fieldOf_setFBit_apart s fl b i k j v (apart_of_mem hb h)

theorem stand_satF {fl : Fld} (h : fl ∈ l) (i v : Nat) (s : State) : FieldsStand l s (s.satF fl i v) :=
  fun b j hb => fieldOf_satF_apart s fl b i j v (apart_of_mem hb h)

theorem stand_when {c : Bool} {f : State → State} (h : ∀ s, FieldsStand l s (f s)) (s : State) :
    FieldsStand l s (s.when c f) := State.when_cases (P := FieldsStand l s) (fun _ => .refl l s) fun _ => h s

theorem stand_eachOf {α : Type} {f : α → State → State} (h : ∀ x s, FieldsStand l s (f x s)) (xs : List α) (s : State) :
    FieldsStand l s (s.eachOf xs f) :=
  State.eachOf_induct (P := FieldsStand l s) (fun x u hu => hu.trans (h x u)) (.refl l s) xs

theorem stand_each {f : Nat → State → State} (h : ∀ i s, FieldsStand l s (f i s)) (k : Nat) (s : State) :
    FieldsStand l s (s.each k f) :=
  State.each_induct (P := FieldsStand l s) (fun i u hu => hu.trans (h i u)) (.refl l s) k

end Stand

/-! ### Lane events -/

/-- The events of a lane, and the pending bits. -/
def eventFlds : List Fld := [⟨R.CLN_LANEEV, 0, 14⟩, Fl.EVT_PEND_PEND]

/-- Lane `j` shows cause `b`. -/
def LaneCause (j b : Nat) (s : State) : Prop := bitOf (fieldOf s.regs ⟨R.CLN_LANEEV, 0, 14⟩ (j % 16)) b = true

theorem clnCause_shows (j : Nat) {b : Nat} (hb : b < 14) (s : State) : LaneCause j b (clnCause j b s) :=
  bitOf_causeOn _ _ _ _ _ _ (lt_of_lt_of_le (Nat.mod_lt j (by decide)) (by decide)) (by decide) hb (by decide)

theorem clnCause_stand (j b : Nat) (s : State) : FieldsStand eventFlds s (clnCause j b s) := fun fl i hf =>
  fieldOf_causeOn s ⟨R.CLN_LANEEV, 0, 14⟩ _ fl _ _ _ i (apart_of_mem hf (by decide)) (apart_of_mem hf (by decide))

theorem clnCause_cln (j b : Nat) (s : State) : (clnCause j b s).cln = s.cln := State.causeOn_cln ..

theorem links_cln {s u : State} (h : u.cln = s.cln) : LinksStand s u := congrArg ClnState.link h

theorem links_eachOf {α : Type} {f : α → State → State} (h : ∀ x s, LinksStand s (f x s)) (l : List α) (s : State) :
    LinksStand s (s.eachOf l f) :=
  State.eachOf_induct (P := LinksStand s) (fun x u hu => hu.trans (h x u)) (.refl s) l

theorem links_when {c : Bool} {f : State → State} (h : ∀ s, LinksStand s (f s)) (s : State) :
    LinksStand s (s.when c f) := State.when_cases (P := LinksStand s) (fun _ => .refl s) fun _ => h s

theorem links_clnCause (j b : Nat) (s : State) : LinksStand s (clnCause j b s) := links_cln (clnCause_cln j b s)

theorem links_setFBit (fl : Fld) (i k : Nat) (v : Bool) (s : State) : LinksStand s (s.setFBit fl i k v) :=
  links_cln (State.setFBit_cln ..)

theorem links_setReg (r : Rg) (i : Nat) (v : Word) (s : State) : LinksStand s (s.setReg r i v) :=
  links_cln (State.setReg_cln ..)

/-! ### A lane that goes down (R174, R180) -/

/-- What a lane that goes down writes besides its STATE. -/
def quietFlds : List Fld := [Fl.CLN_LANESTAT_SCHEDERR, Fl.CLN_STAT_READY, Fl.CLN_CELLST_STATE] ++ eventFlds

/-- The link of a lane that is down. -/
def quietLink (x : LaneLink) : LaneLink :=
  { x with step := 0, admitted := [], telemetry := [], readmit := none, hold := false, from_ := none, take := 0 }

/-- The registers of a lane that goes down. -/
def laneQuieted (j : Nat) (s : State) : State :=
  let s := s.setF Fl.CLN_LANESTAT_STATE j 0 |>.setB Fl.CLN_LANESTAT_SCHEDERR j false
  let s := s.when (j < 16) fun s => s.setFBit Fl.CLN_STAT_READY 0 j false
  s.eachOf (s.laneSlots j) fun c s => s.setF Fl.CLN_CELLST_STATE c 0

theorem laneQuiet_eq (j : Nat) (s : State) : laneQuiet j s = (laneQuieted j s).setLn j quietLink := rfl

theorem laneQuieted_stand (j : Nat) (s : State) :
    FieldsStand quietFlds (s.setF Fl.CLN_LANESTAT_STATE j 0) (laneQuieted j s) := by
  unfold laneQuieted
  extract_lets s1 s2
  have h1 : FieldsStand quietFlds (s.setF Fl.CLN_LANESTAT_STATE j 0) s1 := stand_setB (by decide) j false _
  have h2 : FieldsStand quietFlds s1 s2 := stand_when (fun u => stand_setFBit (by decide) 0 j false u) s1
  exact h1.trans (h2.trans (stand_eachOf (fun c u => stand_setF (by decide) c 0 u) _ s2))

theorem laneQuieted_links (j : Nat) (s : State) : LinksStand s (laneQuieted j s) := by
  unfold laneQuieted
  extract_lets s1 s2
  have h1 : LinksStand s s1 := (links_setF ..).trans (links_setB ..)
  have h2 : LinksStand s1 s2 := links_when (fun u => links_setFBit _ 0 j false u) s1
  exact h1.trans (h2.trans (links_eachOf (fun c u => links_setF _ c 0 u) _ s2))

/-- A lane that is down, with no cell admitted. -/
def LaneIsDown (j : Nat) (s : State) : Prop := fieldOf s.regs Fl.CLN_LANESTAT_STATE j = 0 ∧ (s.ln j).admitted = []

theorem setLn_regs (j : Nat) (f : LaneLink → LaneLink) (s : State) : (s.setLn j f).regs = s.regs := rfl

theorem laneQuiet_down {j : Nat} (hj : j < 32) (s : State) : LaneIsDown j (laneQuiet j s) := by
  rw [laneQuiet_eq]
  rw [LaneIsDown, setLn_regs]
  refine ⟨(laneQuieted_stand j s Fl.CLN_LANESTAT_STATE j (by decide)).trans
    (fieldOf_setF_fits s Fl.CLN_LANESTAT_STATE j 0 (lt_of_lt_of_le hj (by decide)) (by decide) (by decide)), ?_⟩
  rw [ln_setLn_same hj]
  rfl

theorem gridCheck_cln (g : Nat) (s : State) : (gridCheck g s).cln = s.cln :=
  State.cln_of_without (A := { besideMemory with cln := false, mem := true, pending := true })
    (gridCheck_writes rfl rfl rfl g s) rfl

/-- What follows once a lane is quiet: its cause, and its group's grid. -/
def downCause (was j : Nat) (s : State) : State :=
  s.when (j < 16 && (was == 2 || was == 3 || was == 4)) (clnCause j 1)

theorem laneDown_eq (j : Nat) (s : State) : laneDown j s =
    gridCheck ((downCause (s.laneSt j) j (laneQuiet j s)).f Fl.CLN_LANECFG_GROUP j)
      (downCause (s.laneSt j) j (laneQuiet j s)) := rfl

/-- Registers of the lanes. -/
def laneRegs : List Rg := [R.CLN_LANECFG, R.CLN_LANESTAT, R.CLN_LANEEV, R.CLN_ERRC, R.CLN_CELLMAP, R.CLN_CELLST,
  R.CLN_LANETIM, R.CLN_STAT, R.CLN_CTL, R.CLN_CAP]

theorem gridCheck_lane {fl : Fld} (h : fl.reg ∈ laneRegs) (g i : Nat) (s : State) :
    fieldOf (gridCheck g s).regs fl i = fieldOf s.regs fl i := by
  have hall : ∀ r ∈ laneRegs, (!regsIn [R.LPE_BSTAT, R.LPE_CWSTAT] r.addr && decide (r.count ≤ 65536)) = true := by
    decide
  exact gridCheck_field g i s (hall _ h)

theorem downCause_stand (was j : Nat) (s : State) : FieldsStand eventFlds s (downCause was j s) :=
  stand_when (clnCause_stand j 1) s

theorem downCause_links (was j : Nat) (s : State) : LinksStand s (downCause was j s) :=
  links_when (links_clnCause j 1) s

theorem laneDown_down {j : Nat} (hj : j < 32) (s : State) : LaneIsDown j (laneDown j s) := by
  obtain ⟨h1, h2⟩ := laneQuiet_down hj s
  rw [laneDown_eq]
  generalize s.laneSt j = was
  refine ⟨(gridCheck_lane (by decide) _ j _).trans ((downCause_stand was j _ _ j (by decide)).trans h1), ?_⟩
  rw [((downCause_links was j (laneQuiet j s)).trans (links_cln (gridCheck_cln ..))).ln, h2]

theorem laneDown_field {fl : Fld} (h : fl.reg ∈ laneRegs) (hf : fldsApart (Fl.CLN_LANESTAT_STATE :: quietFlds) fl =
  true)
    (j i : Nat) (s : State) : fieldOf (laneDown j s).regs fl i = fieldOf s.regs fl i := by
  have hq : fldsApart quietFlds fl = true := by
    exact List.all_eq_true.mpr fun a ha => apart_of_mem hf (List.mem_cons_of_mem _ ha)
  have he : fldsApart eventFlds fl = true :=
    List.all_eq_true.mpr fun a ha => apart_of_mem hq (List.mem_append_right _ ha)
  rw [laneDown_eq, gridCheck_lane h, downCause_stand _ j _ fl i he, laneQuiet_eq, setLn_regs,
    laneQuieted_stand j s fl i hq]
  exact fieldOf_setF_apart s Fl.CLN_LANESTAT_STATE fl j i 0 (apart_of_mem hf List.mem_cons_self)

/-! ### A link start begins (R170) -/

/-- The link at the first step of a link start. -/
def startedLink (inactive : Bool) (x : LaneLink) : LaneLink :=
  { x with step := 1, recs := [], delays := [], admitted := [], telemetry := [], inactive := inactive,
           farEcho := false, readmit := none, hold := false, from_ := none, take := 0 }

/-- The registers of a link start that begins. -/
def linkStarted (j : Nat) (s : State) : State :=
  let s := s.setF Fl.CLN_LANESTAT_STATE j 1 |>.setF Fl.CLN_LANESTAT_NCELL j 0
    |>.setF Fl.CLN_LANESTAT_NENUM j 0
  s.eachOf (s.laneSlots j) fun c s => s.setReg R.CLN_CELLST c 0x20000000

theorem startLink_eq (j : Nat) (inactive : Bool) (s : State) :
    startLink j inactive s = (linkStarted j s).setLn j (startedLink inactive) := rfl

theorem cleared_field {fl : Fld} (h : R.CLN_CELLST.apart fl.reg = true) (l : List Nat) (i : Nat) (s : State) :
    fieldOf (s.eachOf l fun c s => s.setReg R.CLN_CELLST c 0x20000000).regs fl i = fieldOf s.regs fl i :=
  State.eachOf_induct (P := fun u => fieldOf u.regs fl i = fieldOf s.regs fl i)
    (fun c u hu => (fieldOf_setReg_apart u R.CLN_CELLST fl c i _ h).trans hu) rfl l

theorem linkStarted_state {j : Nat} (hj : j < 32) (s : State) :
    fieldOf (linkStarted j s).regs Fl.CLN_LANESTAT_STATE j = 1 := by
  unfold linkStarted
  extract_lets u
  refine (cleared_field (by decide) _ j u).trans ?_
  exact (fieldOf_setF_apart _ Fl.CLN_LANESTAT_NENUM Fl.CLN_LANESTAT_STATE j j 0 (by decide)).trans
    ((fieldOf_setF_apart _ Fl.CLN_LANESTAT_NCELL Fl.CLN_LANESTAT_STATE j j 0 (by decide)).trans
      (fieldOf_setF_fits s Fl.CLN_LANESTAT_STATE j 1 (lt_of_lt_of_le hj (by decide)) (by decide) (by decide)))

/-- Lane `j` is at the first step of a link start. -/
def LinkBegins (j : Nat) (inactive : Bool) (s : State) : Prop :=
  fieldOf s.regs Fl.CLN_LANESTAT_STATE j = 1 ∧ (s.ln j).step = 1 ∧ (s.ln j).inactive = inactive

theorem startLink_begins {j : Nat} (hj : j < 32) (inactive : Bool) (s : State) :
    LinkBegins j inactive (startLink j inactive s) := by
  have hl : (startLink j inactive s).ln j = startedLink inactive ((linkStarted j s).ln j) := by
    rw [startLink_eq, ln_setLn_same hj]
  refine ⟨?_, by rw [hl]; rfl, by rw [hl]; rfl⟩
  rw [startLink_eq, setLn_regs]
  exact linkStarted_state hj s

theorem startLink_field {fl : Fld} (j i : Nat) (inactive : Bool) (s : State)
    (h : (!regsIn [R.CLN_CELLST, R.CLN_LANESTAT] fl.reg.addr && decide (fl.reg.count ≤ 65536)) = true) :
    fieldOf (startLink j inactive s).regs fl i = fieldOf s.regs fl i :=
  fieldOf_of_without (startLink_writes (P := { regs := regsIn [R.CLN_CELLST, R.CLN_LANESTAT], cln := true }) (by decide)
    (by decide) rfl j inactive s) i h

end Sys2Proof.Machine

/-! ## The life of a lane: enabling, stopping, losing lock, tripping, returning (R164 to R192) -/

namespace Sys2Proof.Machine

set_option Elab.async false

theorem settle_lane {fl : Fld} (h : fl.reg ∈ laneRegs) (i : Nat) (u : State) :
    fieldOf u.settle.regs fl i = fieldOf u.regs fl i := by
  have hall : ∀ r ∈ laneRegs, (!settledPart.regs r.addr && decide (r.count ≤ 65536)) = true := by decide
  exact fieldOf_settle u fl i (hall _ h)

theorem settle_cln (u : State) : u.settle.cln = u.cln := State.cln_of_without (State.settle_settled u) rfl

theorem settle_ln (u : State) (j : Nat) : u.settle.ln j = u.ln j := by rw [State.ln, State.ln, settle_cln]

/-- The state of lane `j` after a command that leaves it in `st`. -/
theorem settle_state {j st : Nat} {u : State} (h : fieldOf u.regs Fl.CLN_LANESTAT_STATE j = st) :
    u.settle.laneSt j = st := (settle_lane (by decide) j u).trans h

theorem LaneCause.settle {j b : Nat} {u : State} (h : LaneCause j b u) : LaneCause j b u.settle :=
  (congrArg (bitOf · b) (settle_lane (fl := ⟨R.CLN_LANEEV, 0, 14⟩) (by decide) (j % 16) u)).trans h

theorem LinkBegins.settle {j : Nat} {i : Bool} {u : State} (h : LinkBegins j i u) : LinkBegins j i u.settle := by
  obtain ⟨h1, h2, h3⟩ := h
  exact ⟨(settle_lane (by decide) j u).trans h1, by rw [settle_ln, h2], by rw [settle_ln, h3]⟩

theorem LaneIsDown.settle {j : Nat} {u : State} (h : LaneIsDown j u) : LaneIsDown j u.settle := by
  obtain ⟨h1, h2⟩ := h
  exact ⟨(settle_lane (by decide) j u).trans h1, by rw [settle_ln, h2]⟩

/-! ### Enabling and disabling (R164) -/

/-- The lane's EN is written. -/
def laneAsked (j : Nat) (on : Bool) (s : State) : State := s.setB Fl.CLN_LANECFG_EN j on

theorem laneAsked_state (j : Nat) (on : Bool) (s : State) : (laneAsked j on s).laneSt j = s.laneSt j :=
  fieldOf_setB_apart s Fl.CLN_LANECFG_EN Fl.CLN_LANESTAT_STATE j j on (by decide)

theorem laneAsked_enable {j : Nat} (hj : j < 32) (on : Bool) (s : State) :
    fieldOf (laneAsked j on s).regs Fl.CLN_LANECFG_EN j = b2n on :=
  fieldOf_setB_same s Fl.CLN_LANECFG_EN j on (lt_of_lt_of_le hj (by decide)) (by decide) (by decide)

theorem state_written {j st : Nat} (hj : j < 32) (hst : st < 8) (s : State) :
    fieldOf (s.setF Fl.CLN_LANESTAT_STATE j st).regs Fl.CLN_LANESTAT_STATE j = st :=
  fieldOf_setF_fits s Fl.CLN_LANESTAT_STATE j st (lt_of_lt_of_le hj (by decide)) (by decide)
    (lt_of_lt_of_le hst (by decide))

theorem state_leaves_enable (j st : Nat) (s : State) :
    fieldOf (s.setF Fl.CLN_LANESTAT_STATE j st).regs Fl.CLN_LANECFG_EN j = fieldOf s.regs Fl.CLN_LANECFG_EN j :=
  fieldOf_setF_apart s Fl.CLN_LANESTAT_STATE Fl.CLN_LANECFG_EN j j st (by decide)

/-- What a lane does next that is enabled in state `st`. -/
def enabledLane (j st : Nat) (s : State) : State :=
  match st with
  | 0 => if j < 16 then startLink j false s else s.setF Fl.CLN_LANESTAT_STATE j 5
  | 3 => s.setF Fl.CLN_LANESTAT_STATE j 4
  | _ => s

theorem laneEnable_eq {j : Nat} (hj : j < 32) (s : State) :
    laneEnable j s = enabledLane j (s.laneSt j) (laneAsked j true s) := by
  rw [← laneAsked_state j true s]
  exact if_neg (by omega)

/-- What a lane does next that is disabled in state `st`. -/
def disabledLane (j st : Nat) (s : State) : State :=
  match st with
  | 2 => s.setF Fl.CLN_LANESTAT_STATE j 3
  | 4 => s.setF Fl.CLN_LANESTAT_STATE j 3
  | 5 => laneDown j s
  | 6 => laneDown j s
  | _ => s

theorem laneDisable_eq {j : Nat} (hj : j < 32) (s : State) :
    laneDisable j s = disabledLane j (s.laneSt j) (laneAsked j false s) := by
  rw [← laneAsked_state j false s]
  exact if_neg (by omega)

theorem home_enabled {j : Nat} (hj : j < 16) {s : State} (h : s.laneSt j = 0) : Answers (.laneEnable j) s fun t =>
    t.f Fl.CLN_LANECFG_EN j = 1 ∧ t.laneSt j = 1 ∧ (t.ln j).step = 1 := by
  have hj32 : j < 32 := by omega
  have he : laneEnable j s = startLink j false (laneAsked j true s) := by
    rw [laneEnable_eq hj32, h]
    exact if_pos hj
  obtain ⟨h1, h2, -⟩ := (startLink_begins hj32 false (laneAsked j true s)).settle
  refine answers_done (congrArg done he) ⟨?_, h1, h2⟩
  exact (settle_lane (by decide) j _).trans ((startLink_field j j false _ (by decide)).trans
    (laneAsked_enable hj32 true s))

theorem guard_enabled {j : Nat} (hj : j < 32) (h16 : 16 ≤ j) {s : State} (h : s.laneSt j = 0) :
    Answers (.laneEnable j) s fun t => t.f Fl.CLN_LANECFG_EN j = 1 ∧ t.laneSt j = 5 := by
  have he : laneEnable j s = (laneAsked j true s).setF Fl.CLN_LANESTAT_STATE j 5 := by
    rw [laneEnable_eq hj, h]
    exact if_neg (by omega)
  refine answers_done (congrArg done he) ⟨?_, settle_state (state_written hj (by decide) _)⟩
  exact (settle_lane (by decide) j _).trans ((state_leaves_enable j 5 _).trans (laneAsked_enable hj true s))

theorem stopping_enabled {j : Nat} (hj : j < 32) {s : State} (h : s.laneSt j = 3) :
    Answers (.laneEnable j) s fun t => t.laneSt j = 4 := by
  have he : laneEnable j s = (laneAsked j true s).setF Fl.CLN_LANESTAT_STATE j 4 := by
    rw [laneEnable_eq hj, h]
    rfl
  exact answers_done (congrArg done he) (settle_state (state_written hj (by decide) _))

theorem lane_stops {j : Nat} (hj : j < 32) {s : State} (h : s.laneSt j = 2 ∨ s.laneSt j = 4) :
    Answers (.laneDisable j) s fun t => t.f Fl.CLN_LANECFG_EN j = 0 ∧ t.laneSt j = 3 := by
  have he : laneDisable j s = (laneAsked j false s).setF Fl.CLN_LANESTAT_STATE j 3 := by
    rw [laneDisable_eq hj]
    rcases h with h | h <;> rw [h] <;> rfl
  refine answers_done (congrArg done he) ⟨?_, settle_state (state_written hj (by decide) _)⟩
  exact (settle_lane (by decide) j _).trans ((state_leaves_enable j 3 _).trans (laneAsked_enable hj false s))

theorem lane_stops_at_once {j : Nat} (hj : j < 32) {s : State} (h : s.laneSt j = 5 ∨ s.laneSt j = 6) :
    Answers (.laneDisable j) s fun t => t.laneSt j = 0 := by
  have he : laneDisable j s = laneDown j (laneAsked j false s) := by
    rw [laneDisable_eq hj]
    rcases h with h | h <;> rw [h] <;> rfl
  exact answers_done (congrArg done he) (laneDown_down hj _).settle.1

/-! ### The end of a stop, the loss of lock and the trip line -/

theorem stop_ends {j : Nat} (hj : j < 32) {s : State} (h : s.laneSt j = 3) :
    Answers (.laneStopComplete j true) s fun t => t.laneSt j = 0 ∧ (t.ln j).admitted = [] := by
  have he : laneStopped j true s = laneDown j s := by
    unfold laneStopped
    rw [h]
    rfl
  exact answers_done (congrArg done he) (laneDown_down hj s).settle

theorem stop_starts {j : Nat} (hj : j < 32) {s : State} (h : s.laneSt j = 4) :
    Answers (.laneStopComplete j true) s fun t => t.laneSt j = 1 ∧ (t.ln j).step = 1 := by
  have he : laneStopped j true s = startLink j false (laneDown j s) := by
    unfold laneStopped
    rw [h]
    rfl
  obtain ⟨h1, h2, -⟩ := (startLink_begins hj false (laneDown j s)).settle
  exact answers_done (congrArg done he) ⟨h1, h2⟩

theorem lock_lost {j : Nat} (hj : j < 32) {s : State} (h0 : s.laneSt j ≠ 0) (h5 : s.laneSt j ≠ 5) :
    Answers (.laneLockLost j) s fun t => t.laneSt j = 0 ∧
      t.f Fl.CLN_ERRC_RELOCK j = min 65535 (s.f Fl.CLN_ERRC_RELOCK j + 1) := by
  have hst : (s.satF Fl.CLN_ERRC_RELOCK j 1).laneSt j = s.laneSt j :=
    fieldOf_satF_apart s Fl.CLN_ERRC_RELOCK Fl.CLN_LANESTAT_STATE j j 1 (by decide)
  have he : lockLost j s = laneDown j (s.satF Fl.CLN_ERRC_RELOCK j 1) := by
    unfold lockLost
    rw [if_neg]
    · exact if_neg (by rw [countUp, hst, beq_iff_eq]; exact h5)
    · rw [Bool.or_eq_true, decide_eq_true_eq, beq_iff_eq]
      omega
  refine answers_done (congrArg done he) ⟨(laneDown_down hj _).settle.1, ?_⟩
  exact (settle_lane (by decide) j _).trans ((laneDown_field (by decide) (by decide) j j _).trans
    (fieldOf_satF_same s Fl.CLN_ERRC_RELOCK j 1 (lt_of_lt_of_le hj (by decide)) (by decide)))

theorem lane_trips {j : Nat} (hj : j < 32) (s : State) : Answers (.laneTripFall j) s fun t =>
    t.f Fl.CLN_LANESTAT_TRIP j = 1 ∧
      (s.f Fl.CLN_LANESTAT_TRIP j = 0 → LaneCause j (if j < 16 then 5 else 12) t) := by
  have he : exec (.laneTripFall j) s = done (laneTripLevel j true s) := congrArg done (if_pos hj)
  have hb : (if j < 16 then 5 else 12) < 14 := by split <;> decide
  refine answers_done he ⟨(settle_lane (by decide) j _).trans ?_, fun h0 => LaneCause.settle ?_⟩
  · refine (stand_when (l := eventFlds) (clnCause_stand j _) _ _ j (by decide)).trans ?_
    exact fieldOf_setB_same s Fl.CLN_LANESTAT_TRIP j true (lt_of_lt_of_le hj (by decide)) (by decide) (by decide)
  · unfold laneTripLevel
    rw [b_false h0]
    exact clnCause_shows j hb _

theorem home_returns {j : Nat} (hj : j < 16) {s : State} (h : s.laneSt j = 0) : Answers (.homeLaneReturn j) s fun t =>
    t.laneSt j = 1 ∧ (t.ln j).inactive = true := by
  have he : exec (.homeLaneReturn j) s = done (startLink j true s) :=
    congrArg done (if_pos (by rw [h, decide_eq_true hj]; rfl))
  obtain ⟨h1, -, h3⟩ := (startLink_begins (show j < 32 by omega) true s).settle
  exact answers_done he ⟨h1, h3⟩

/-! ### The cell map (R166) -/

theorem settle_cellmap (c : Nat) (u : State) : u.settle.reg R.CLN_CELLMAP c = u.reg R.CLN_CELLMAP c :=
  regOf_settle u R.CLN_CELLMAP c (by decide)

/-- The cell map with an entry written. -/
def mapWritten (c : Nat) (v : Word) (s : State) : State := s.setReg R.CLN_CELLMAP c (v &&& R.CLN_CELLMAP.rw)

/-- The lanes of the entry as it is and as it would be are down. -/
def MapQuiet (c : Nat) (v : Word) (s : State) : Prop :=
  s.laneSt (s.mapLane c) = 0 ∧ s.laneSt ((mapWritten c v s).mapLane c) = 0

theorem cellmapWrite_eq {c : Nat} (hc : c < 512) (v : Word) (s : State) : exec (.cellmapWrite c v) s =
    done (if s.laneSt (s.mapLane c) == 0 && s.laneSt ((mapWritten c v s).mapLane c) == 0 then mapWritten c v s
      else s) := by
  have h1 : exec (.cellmapWrite c v) s = done (cellmapWrite c v s) := congrArg done (if_neg (by
    rw [decide_eq_false (show ¬ 512 ≤ c by omega)]
    exact Bool.false_ne_true))
  exact h1.trans (congrArg done (if_neg (by omega)))

theorem map_written {c : Nat} (hc : c < 512) {v : Word} {s : State} (h : MapQuiet c v s) :
    Answers (.cellmapWrite c v) s fun t => t.reg R.CLN_CELLMAP c = v &&& R.CLN_CELLMAP.rw := by
  obtain ⟨h1, h2⟩ := h
  have he := (cellmapWrite_eq hc v s).trans (congrArg done (if_pos (by rw [h1, h2]; rfl)))
  exact answers_done he ((settle_cellmap c _).trans
    (regOf_setReg_same s R.CLN_CELLMAP c _ (lt_of_lt_of_le hc (by decide))))

theorem map_kept {c : Nat} (hc : c < 512) {v : Word} {s : State} (h : ¬ MapQuiet c v s) :
    Answers (.cellmapWrite c v) s fun t => t.reg R.CLN_CELLMAP c = s.reg R.CLN_CELLMAP c := by
  have he := (cellmapWrite_eq hc v s).trans (congrArg done (if_neg fun hq => h (by
    rw [Bool.and_eq_true, beq_iff_eq, beq_iff_eq] at hq
    exact hq)))
  exact answers_done he (settle_cellmap c s)

theorem guest_map_refused {c : Nat} (hc : 512 ≤ c) (v : Word) {s : State} (h : s.f Fl.LPE_TAKE_ACTIVE = 0) :
    Answers (.cellmapWrite c v) s fun t => t.busError = true ∧ t.reg R.CLN_CELLMAP c = s.reg R.CLN_CELLMAP c := by
  have he : exec (.cellmapWrite c v) s = done { s with busError := true } :=
    congrArg done (if_pos (by rw [decide_eq_true hc, b_false h]; rfl))
  exact answers_done he ⟨State.busError_of_without (State.settle_settled _) rfl, settle_cellmap c _⟩

/-! ### The steps of a link start (R170 to R173) -/

/-- What a step of a link start writes besides the lane's STATE. -/
def stepFlds : List Fld := [Fl.CLN_CELLST_STATE, Fl.CLN_CELLST_REFUSE, Fl.CLN_LANESTAT_RATE, Fl.CLN_LANESTAT_FMT,
  Fl.CLN_LANESTAT_NCELL, Fl.CLN_LANETIM_DMAX, Fl.CLN_LANETIM_TFAR] ++ eventFlds

theorem cellRefuse_stand (j c reason : Nat) (s : State) : FieldsStand stepFlds s (cellRefuse j c reason s) := by
  have h1 : FieldsStand stepFlds s ((s.setF Fl.CLN_CELLST_STATE c 6).setF Fl.CLN_CELLST_REFUSE c reason) :=
    (stand_setF (by decide) c 6 s).trans (stand_setF (by decide) c reason _)
  exact (h1.trans (.of_regs rfl)).trans ((clnCause_stand j 7 _).mono (by decide))

theorem trimCells_stand (j rate fmt : Nat) (n : Nat) (l : List (Nat × Nat × List Byte)) (s : State) :
    FieldsStand stepFlds s (trimCells j rate fmt n l s).2 := by
  induction n generalizing l s with
  | zero => exact .refl _ s
  | succ n ih =>
    unfold trimCells
    split
    · exact .refl _ s
    · split
      · exact .refl _ s
      next e _ => exact (cellRefuse_stand j e.2.1 6 s).trans (ih _ _)

theorem selectCells_stand (j : Nat) (s : State) : FieldsStand stepFlds s (selectCells j s) := by
  unfold selectCells
  extract_lets l rate b r s1 s2
  have hr : FieldsStand stepFlds s r.2 := trimCells_stand j rate (b2n b) l.length l s
  have h1 : FieldsStand stepFlds r.2 s1 := (stand_setF (by decide) j rate _).trans
    ((stand_setB (by decide) j b _).trans (stand_setF (by decide) j r.1.length _))
  clear_value r
  have h2 : FieldsStand stepFlds s1 s2 := stand_eachOf
    (f := fun e s => { s with cln.caps := cellsInsert s.cln.caps e.2.1 e.2.2 }) (fun e u => .of_regs rfl) r.1 s1
  exact hr.trans (h1.trans (h2.trans (.of_regs rfl)))

theorem rangingEnd_stand (j : Nat) (s : State) : FieldsStand stepFlds s (rangingEnd j s) := by
  unfold rangingEnd
  extract_lets x d s1 fmt l r s2 s3
  have h1 : FieldsStand stepFlds s s1 := stand_setF (by decide) j d s
  have h2 : FieldsStand stepFlds s1 s2 := (trimCells_stand j _ fmt l.length l s1).trans
    (stand_setF (by decide) j r.1.length _)
  have h3 : FieldsStand stepFlds s2 s3 := .of_regs rfl
  refine h1.trans (h2.trans (h3.trans ?_))
  split
  · exact .refl _ s3
  · exact (stand_setF (by decide) j 0xFFFF s3).trans ((clnCause_stand j 10 _).mono (by decide))

/-- What step `step` of a link start does. -/
def linkWork (j nEnum step : Nat) (s : State) : State :=
  match step with
  | 2 => s.setF Fl.CLN_LANESTAT_NENUM j (min nEnum 32)
  | 3 => s.eachOf ((s.laneSlots j).filter fun c => (cellsFind (s.ln j).recs (s.f Fl.CLN_CELLMAP_POS c)).isNone)
      fun c s => s.setF Fl.CLN_CELLST_STATE c 0
  | 4 => selectCells j s
  | 6 => rangingEnd j s
  | _ => s

theorem linkStep_eq {j : Nat} (hj : j < 16) (n : Nat) {s : State} (h1 : s.laneSt j = 1) (hen : s.f Fl.CLN_LANECFG_EN j
  = 1) :
    linkStep j n s =
      if (s.ln j).step < 8 then
        (linkWork j n (s.ln j).step s).setLn j fun x => { x with step := (s.ln j).step + 1 }
      else laneReady j (linkWork j n (s.ln j).step s) := by
  have c1 : ¬ (!decide (j < 16) || s.laneSt j != 1) = true := by
    rw [decide_eq_true hj, h1]
    decide
  have c2 : ¬ (!s.b Fl.CLN_LANECFG_EN j && !(s.ln j).inactive) = true := by
    rw [b_true hen]
    exact Bool.false_ne_true
  unfold linkStep
  rw [if_neg c1, if_neg c2]
  rfl

theorem linkWork_state (j n step : Nat) (s : State) : fieldOf (linkWork j n step s).regs Fl.CLN_LANESTAT_STATE j =
    fieldOf s.regs Fl.CLN_LANESTAT_STATE j := by
  unfold linkWork
  split
  · exact fieldOf_setF_apart s Fl.CLN_LANESTAT_NENUM Fl.CLN_LANESTAT_STATE j j _ (by decide)
  · exact stand_eachOf (l := stepFlds) (fun c u => stand_setF (by decide) c 0 u) _ s _ j (by decide)
  · exact selectCells_stand j s _ j (by decide)
  · exact rangingEnd_stand j s _ j (by decide)
  · rfl

theorem link_steps {j : Nat} (hj : j < 16) (n : Nat) {s : State} (h1 : s.laneSt j = 1) (hen : s.f Fl.CLN_LANECFG_EN j
  = 1)
    (h8 : (s.ln j).step < 8) : Answers (.linkStartStepEnd j n) s fun t => (t.ln j).step = (s.ln j).step + 1 ∧
      t.laneSt j = 1 ∧ ((s.ln j).step = 2 → t.f Fl.CLN_LANESTAT_NENUM j = min n 32) := by
  have hj32 : j < 32 := by omega
  have he := (linkStep_eq hj n h1 hen).trans (if_pos h8)
  refine answers_done (congrArg done he) ⟨?_, settle_state ?_, fun h2 => (settle_lane (by decide) j _).trans ?_⟩
  · rw [settle_ln, ln_setLn_same hj32]
  · rw [setLn_regs]
    exact (linkWork_state j n _ s).trans h1
  · rw [setLn_regs, h2]
    exact fieldOf_setF_fits s Fl.CLN_LANESTAT_NENUM j _ (lt_of_lt_of_le hj32 (by decide)) (by decide)
      (lt_of_le_of_lt (Nat.min_le_right n 32) (by decide))

end Sys2Proof.Machine

/-! ## A lane becomes ready; capability records and ranging of a link start (R171 to R175) -/

namespace Sys2Proof.Machine

set_option Elab.async false

/-! ### The last step -/

/-- The registers of a lane that becomes ready. -/
def readied (j : Nat) (s : State) : State :=
  (s.setF Fl.CLN_LANESTAT_STATE j 2).setFBit Fl.CLN_STAT_READY 0 j true

/-- The cells of a lane that becomes ready. -/
def readyCells (st : Nat) (l : List (Nat × Nat)) (s : State) : State :=
  s.eachOf l fun e s => s.setF Fl.CLN_CELLST_STATE e.2 st

/-- The link of a lane that is ready. -/
def readyLink (back : Bool) (x : LaneLink) : LaneLink :=
  { x with step := 0, exchange := 0, take := if back then 3 else 0, hold := back, from_ := none, inactive := false }

theorem laneReady_eq (j : Nat) (s : State) : laneReady j s =
    clnCause j 0 ((readyCells (if (s.ln j).inactive then 4 else 2) ((readied j s).ln j).admitted (readied j s)).setLn j
      (readyLink (s.ln j).inactive)) := rfl

theorem readyCells_stand (st : Nat) (l : List (Nat × Nat)) (s : State) :
    FieldsStand [Fl.CLN_CELLST_STATE] s (readyCells st l s) :=
  stand_eachOf (f := fun (e : Nat × Nat) s => s.setF Fl.CLN_CELLST_STATE e.2 st)
    (fun e u => stand_setF (by decide) e.2 st u) l s

/-- Lane `j` is ready. -/
def LaneIsReady (j : Nat) (s : State) : Prop := fieldOf s.regs Fl.CLN_LANESTAT_STATE j = 2 ∧
  bitOf (fieldOf s.regs Fl.CLN_STAT_READY 0) j = true ∧ LaneCause j 0 s

theorem laneReady_ready {j : Nat} (hj : j < 16) (s : State) : LaneIsReady j (laneReady j s) := by
  rw [laneReady_eq]
  generalize (if (s.ln j).inactive then 4 else 2) = st
  generalize ((readied j s).ln j).admitted = l
  have hkept : ∀ fl : Fld, fldsApart eventFlds fl = true → fldsApart [Fl.CLN_CELLST_STATE] fl = true → ∀ i,
      fieldOf (clnCause j 0 ((readyCells st l (readied j s)).setLn j (readyLink (s.ln j).inactive))).regs fl i =
        fieldOf (readied j s).regs fl i := fun fl h1 h2 i => by
    rw [clnCause_stand j 0 _ fl i h1, setLn_regs, readyCells_stand st l _ fl i h2]
  refine ⟨(hkept Fl.CLN_LANESTAT_STATE (by decide) (by decide) j).trans ?_,
    (congrArg (bitOf · j) (hkept Fl.CLN_STAT_READY (by decide) (by decide) 0)).trans ?_, clnCause_shows j (by decide) _⟩
  · exact (fieldOf_setFBit_apart _ Fl.CLN_STAT_READY Fl.CLN_LANESTAT_STATE 0 j j true (by decide)).trans
      (state_written (show j < 32 by omega) (by decide) s)
  · exact bitOf_setFBit_same _ Fl.CLN_STAT_READY 0 j true (by decide) (by decide) (lt_of_lt_of_le hj (by decide))

theorem LaneIsReady.settle {j : Nat} {u : State} (h : LaneIsReady j u) : LaneIsReady j u.settle := by
  obtain ⟨h1, h2, h3⟩ := h
  exact ⟨(settle_lane (by decide) j u).trans h1,
    (congrArg (bitOf · j) (settle_lane (fl := Fl.CLN_STAT_READY) (by decide) 0 u)).trans h2, h3.settle⟩

theorem link_completes {j : Nat} (hj : j < 16) (n : Nat) {s : State} (h1 : s.laneSt j = 1)
    (hen : s.f Fl.CLN_LANECFG_EN j = 1) (h8 : (s.ln j).step = 8) : Answers (.linkStartStepEnd j n) s fun t =>
      t.laneSt j = 2 ∧ bitOf (t.f Fl.CLN_STAT_READY) j = true ∧ LaneCause j 0 t := by
  have he := (linkStep_eq hj n h1 hen).trans (if_neg (by omega))
  exact answers_done (congrArg done he) (laneReady_ready hj _).settle

/-! ### Capability records (R171, R172) -/

theorem showCap_stand (c : Nat) (r : List Byte) (s : State) {fl : Fld} (h : R.CLN_CAP.apart fl.reg = true) (i : Nat) :
    fieldOf (showCap c r s).regs fl i = fieldOf s.regs fl i :=
  fieldOf_each (fun _ u => fieldOf_setReg_apart u R.CLN_CAP fl _ i _ h) s 8

theorem recReason_lt (rampMax : Nat) (r : List Byte) : recReason rampMax r < 6 := by
  unfold recReason
  (repeat' split) <;> decide

/-- Cell `c` is refused for `reason`, and its lane says so. -/
def CellRefused (j c reason : Nat) (s : State) : Prop := fieldOf s.regs Fl.CLN_CELLST_STATE c = 6 ∧
  fieldOf s.regs Fl.CLN_CELLST_REFUSE c = reason ∧ LaneCause j 7 s

theorem cellRefuse_refuses {c reason : Nat} (hc : c < 1024) (hr : reason < 8) (j : Nat) (s : State) :
    CellRefused j c reason (cellRefuse j c reason s) := by
  have hc' : c < R.CLN_CELLST.count := lt_of_lt_of_le hc (by decide)
  refine ⟨(clnCause_stand j 7 _ _ c (by decide)).trans ?_, (clnCause_stand j 7 _ _ c (by decide)).trans ?_,
    clnCause_shows j (by decide) _⟩
  · exact (fieldOf_setF_apart _ Fl.CLN_CELLST_REFUSE Fl.CLN_CELLST_STATE c c reason (by decide)).trans
      (fieldOf_setF_fits s Fl.CLN_CELLST_STATE c 6 hc' (by decide) (by decide))
  · exact fieldOf_setF_fits _ Fl.CLN_CELLST_REFUSE c reason hc' (by decide) (lt_of_lt_of_le hr (by decide))

theorem CellRefused.settle {j c reason : Nat} {u : State} (h : CellRefused j c reason u) :
    CellRefused j c reason u.settle := by
  obtain ⟨h1, h2, h3⟩ := h
  exact ⟨(settle_lane (by decide) c u).trans h1, (settle_lane (by decide) c u).trans h2, h3.settle⟩

theorem slotsAt_lt {j pos c : Nat} {s : State} (h : s.slotsAt j pos = [c]) : c < 1024 := by
  have hm : c ∈ s.slotsAt j pos := by rw [h]; exact List.mem_singleton_self c
  obtain ⟨hl, -⟩ := List.mem_filter.mp hm
  obtain ⟨i, hi, rfl⟩ := List.mem_map.mp hl
  have hi' := List.mem_range.mp hi
  split <;> omega

/-- What a record shows of its only cell. -/
def recordShown (j c : Nat) (r : List Byte) (reason : Nat) (s : State) : State :=
  (showCap c r s).when (reason != 0) (cellRefuse j c reason)

theorem capStart_eq {j pos c : Nat} (r : List Byte) {s : State} (h : s.slotsAt j pos = [c]) : capStart j pos r s =
    (recordShown j c r (recReason (s.f Fl.CLN_CTL_RAMPMAX) r) s).setLn j fun x =>
      { x with recs := cellsInsert x.recs pos (r, recReason (s.f Fl.CLN_CTL_RAMPMAX) r) } := by
  unfold capStart
  rw [h]
  rfl

theorem record_kept {j pos c : Nat} (hj : j < 32) (l : List Byte) {s : State} (h1 : s.laneSt j = 1)
    (h3 : (s.ln j).step = 3) (hp : pos < s.f Fl.CLN_LANESTAT_NENUM j) (hc : s.slotsAt j pos = [c]) :
    Answers (.capRecord j pos l) s fun t =>
      cellsFind (t.ln j).recs pos = some (l, recReason (s.f Fl.CLN_CTL_RAMPMAX) l) ∧
        (recReason (s.f Fl.CLN_CTL_RAMPMAX) l ≠ 0 → t.f Fl.CLN_CELLST_STATE c = 6 ∧
          t.f Fl.CLN_CELLST_REFUSE c = recReason (s.f Fl.CLN_CTL_RAMPMAX) l ∧ LaneCause j 7 t) := by
  have he : exec (.capRecord j pos l) s = done (capStart j pos l s) := by
    refine congrArg done ((if_neg (by omega)).trans (if_pos ?_))
    rw [h1, h3, decide_eq_true hp]
    rfl
  have hlt := recReason_lt (s.f Fl.CLN_CTL_RAMPMAX) l
  rw [capStart_eq l hc] at he
  generalize recReason (s.f Fl.CLN_CTL_RAMPMAX) l = r at *
  refine answers_done he ⟨?_, fun hr => CellRefused.settle ?_⟩
  · rw [settle_ln, ln_setLn_same hj]
    exact cellsFind_insert_same _ _ _
  · have hs : recordShown j c l r s = cellRefuse j c r (showCap c l s) := by
      rw [recordShown, bne_iff_ne.mpr hr, State.when_true]
    rw [hs]
    exact cellRefuse_refuses (slotsAt_lt hc) (by omega) j _

/-! ### Ranging (R175) -/

/-- A lane at the ranging step of its link start. -/
def Ranging (j : Nat) (s : State) : Prop := s.laneSt j = 1 ∧ (s.ln j).step = 6

/-- The delay that an echo tells. -/
def echoDelay (j rt : Nat) (s : State) : Nat := (rt - 16 * symbolBits (s.f Fl.CLN_LANESTAT_RATE j)) / 2

theorem far_echo {j : Nat} (hj : j < 32) {s : State} (h : Ranging j s) (rt : Nat) :
    Answers (.rangeEcho j none rt) s fun t => t.f Fl.CLN_LANETIM_TFAR j = min (echoDelay j rt s) 0xFFFE ∧
      (t.ln j).farEcho = true := by
  obtain ⟨h1, h6⟩ := h
  have he : rangeEcho j none rt s = (s.setF Fl.CLN_LANETIM_TFAR j (min (echoDelay j rt s) 0xFFFE)).setLn j fun x =>
      { x with farEcho := true } := by
    refine (if_neg (by omega)).trans (if_pos ?_)
    rw [h1, h6]
    rfl
  refine answers_done (congrArg done he) ⟨(settle_lane (by decide) j _).trans ?_, by rw [settle_ln, ln_setLn_same hj]⟩
  rw [setLn_regs]
  exact fieldOf_setF_fits s Fl.CLN_LANETIM_TFAR j _ (lt_of_lt_of_le hj (by decide)) (by decide)
    (lt_of_le_of_lt (Nat.min_le_right _ 0xFFFE) (by decide))

theorem cell_echo {j : Nat} (hj : j < 32) {s : State} (h : Ranging j s) (rt p : Nat) :
    Answers (.rangeEcho j (some p) rt) s fun t => cellsFind (t.ln j).delays p = some (echoDelay j rt s) := by
  obtain ⟨h1, h6⟩ := h
  have he : rangeEcho j (some p) rt s = s.setLn j fun x =>
      { x with delays := cellsInsert x.delays p (echoDelay j rt s) } := by
    refine (if_neg (by omega)).trans (if_pos ?_)
    rw [h1, h6]
    rfl
  refine answers_done (congrArg done he) ?_
  rw [settle_ln, ln_setLn_same hj]
  exact cellsFind_insert_same _ _ _

/-- Settles O25: the life of a lane, each clause from the lemma of its command. -/
theorem laneLife : Obligations.LaneLife := by
  intro j s hj cause
  refine ⟨fun h0 => ?_, stopping_enabled hj, lane_stops hj, lane_stops_at_once hj, stop_ends hj, stop_starts hj,
    lock_lost hj, lane_trips hj s, fun hj16 h1 => ⟨fun hen => ⟨fun n h8 => link_steps hj16 n h1 hen h8,
      fun n h8 => link_completes hj16 n h1 hen h8⟩, fun pos l c h3 hp hc => record_kept hj l h1 h3 hp hc,
      fun h6 rt => ⟨far_echo hj ⟨h1, h6⟩ rt, cell_echo hj ⟨h1, h6⟩ rt⟩⟩, fun hj16 h0 => home_returns hj16 h0,
    fun c v hc => ⟨fun h1 h2 => map_written hc ⟨h1, h2⟩, fun h => map_kept hc fun hq => ?_⟩,
    fun c v hc h => guest_map_refused hc v h⟩
  · by_cases hj16 : j < 16
    · refine answers_mono (home_enabled hj16 h0) fun t ⟨h1, h2, h3⟩ => ⟨h1, fun _ => ⟨h2, h3⟩, fun h => ?_⟩
      omega
    · refine answers_mono (guard_enabled hj (by omega) h0) fun t ⟨h1, h2⟩ => ⟨h1, fun h => ?_, fun _ => h2⟩
      omega
  · exact h.elim (fun hn => hn hq.1) fun hn => hn hq.2

end Sys2Proof.Machine

/-! ## The traffic of a lane: telemetry and exchanges (R176 to R182) -/

namespace Sys2Proof.Machine

set_option Elab.async false

/-! ### Loops over distinct keys -/

/-- Of a loop over distinct keys one element's effect stands at its end. -/
theorem State.eachOf_once {α : Type} {key : α → Nat} {R Q : State → Prop} {f : α → State → State} {x : α} {l : List α}
    (hx : x ∈ l) (hl : (l.map key).Nodup) (hR : ∀ y s, key y ≠ key x → R s → R (f y s))
    (hQ : ∀ y s, key y ≠ key x → Q s → Q (f y s)) (he : ∀ s, R s → Q (f x s)) {s : State} (h0 : R s) :
    Q (s.eachOf l f) := by
  induction l generalizing s with
  | nil => exact absurd hx List.not_mem_nil
  | cons y l ih =>
    rw [List.map_cons, List.nodup_cons] at hl
    obtain ⟨hy, hl⟩ := hl
    rcases List.mem_cons.mp hx with rfl | hxl
    · have hrest : ∀ (k : List α), key x ∉ k.map key → ∀ u, Q u → Q (u.eachOf k f) := by
        intro k hk
        induction k with
        | nil => exact fun u hu => hu
        | cons z k ihk =>
          rw [List.map_cons, List.mem_cons, not_or] at hk
          exact fun u hu => ihk hk.2 (f z u) (hQ z u (Ne.symm hk.1) hu)
      exact hrest l hy _ (he s h0)
    · refine ih hxl hl (hR y s (fun heq => hy ?_) h0)
      rw [heq]
      exact List.mem_map_of_mem hxl

/-! ### Telemetry frames -/

/-- Lane `j` exchanges, and its schedule fits. -/
def Receives (j : Nat) (s : State) : Prop := s.exchanging j = true ∧ s.f Fl.CLN_LANESTAT_SCHEDERR j = 0

theorem receives_guard {j : Nat} (hj : j < 32) {s : State} (h : Receives j s) :
    ¬ (!decide (j < 32) || !s.exchanging j || s.b Fl.CLN_LANESTAT_SCHEDERR j) = true := by
  obtain ⟨he, hf⟩ := h
  rw [decide_eq_true hj, he, b_false hf]
  exact Bool.false_ne_true

/-- Counters of a lane that stop at 65,535. -/
def counterFlds : List Fld := [Fl.CLN_ERRA_CODEV, Fl.CLN_ERRA_CRCUP, Fl.CLN_ERRC_MGTO]

theorem counted_up {j : Nat} (hj : j < 32) {fl : Fld} (hfl : fl ∈ counterFlds) (s : State) :
    fieldOf (countUp fl j s).regs fl j = min 65535 (s.f fl j + 1) := by
  have hall : ∀ fl ∈ counterFlds, 32 ≤ fl.reg.count ∧ fl.lsb + fl.width ≤ 32 ∧ fl.width = 16 := by decide
  obtain ⟨hc, hw, h16⟩ := hall fl hfl
  have h := fieldOf_satF_same s fl j 1 (lt_of_lt_of_le hj hc) hw
  rw [h16] at h
  exact h

theorem settle_counter {fl : Fld} (hfl : fl ∈ counterFlds) (j : Nat) (u : State) :
    fieldOf u.settle.regs fl j = fieldOf u.regs fl j := by
  have hall : ∀ fl ∈ counterFlds, (!settledPart.regs fl.reg.addr && decide (fl.reg.count ≤ 65536)) = true := by decide
  exact fieldOf_settle u fl j (hall fl hfl)

theorem links_countUp (fl : Fld) (j : Nat) (s : State) : LinksStand s (countUp fl j s) := links_cln (State.satF_cln ..)

/-- An error is counted, and the telemetry stands. -/
theorem error_counted {c : Instr} {j : Nat} (hj : j < 32) {fl : Fld} (hfl : fl ∈ counterFlds) {s : State}
    (he : exec c s = done (countUp fl j s)) :
    Answers c s fun t => t.f fl j = min 65535 (s.f fl j + 1) ∧ (t.ln j).telemetry = (s.ln j).telemetry :=
  answers_done he ⟨(settle_counter hfl j _).trans (counted_up hj hfl s), by
    rw [settle_ln, (links_countUp fl j s).ln]⟩

theorem telemetry_violation {j pos : Nat} (hj : j < 32) (l : List Byte) {s : State} (h : Receives j s) :
    Answers (.telemetryFrame j pos l true) s fun t =>
      t.f Fl.CLN_ERRA_CODEV j = min 65535 (s.f Fl.CLN_ERRA_CODEV j + 1) ∧ (t.ln j).telemetry = (s.ln j).telemetry :=
  error_counted hj (by decide) (congrArg done ((if_neg (receives_guard hj h)).trans (if_pos rfl)))

/-- A frame that a lane takes for position `pos`. -/
def FrameFits (j pos : Nat) (l : List Byte) (s : State) : Prop :=
  (frameOk l && (l.headD 0).toNat / 32 == 1 + s.f Fl.CLN_LANESTAT_FMT j && (l.headD 0).toNat % 32 == pos &&
    l.length == (if s.f Fl.CLN_LANESTAT_FMT j = 0 then 15 else 27)) = true

theorem telemetry_bad {j pos : Nat} (hj : j < 32) {l : List Byte} (hl : frameOk l = false) {s : State}
    (h : Receives j s) : Answers (.telemetryFrame j pos l false) s fun t =>
      t.f Fl.CLN_ERRA_CRCUP j = min 65535 (s.f Fl.CLN_ERRA_CRCUP j + 1) ∧ (t.ln j).telemetry = (s.ln j).telemetry := by
  have hf : ¬ FrameFits j pos l s := by
    rw [FrameFits, hl]
    exact Bool.false_ne_true
  exact error_counted hj (by decide) (congrArg done ((if_neg (receives_guard hj h)).trans
    ((if_neg Bool.false_ne_true).trans (if_neg hf))))

theorem telemetry_good {j pos : Nat} (hj : j < 32) {l : List Byte} {s : State} (h : Receives j s)
    (hf : FrameFits j pos l s) : Answers (.telemetryFrame j pos l false) s fun t =>
      cellsFind (t.ln j).telemetry pos = some ((l.drop 1).dropLast.dropLast) := by
  have he : exec (.telemetryFrame j pos l false) s = done (s.setLn j fun x =>
      { x with telemetry := cellsInsert x.telemetry pos ((l.drop 1).dropLast.dropLast) }) :=
    congrArg done ((if_neg (receives_guard hj h)).trans ((if_neg Bool.false_ne_true).trans (if_pos hf)))
  refine answers_done he ?_
  rw [settle_ln, ln_setLn_same hj]
  exact cellsFind_insert_same _ _ _

theorem frame_fits {j pos : Nat} {l : List Byte} {s : State} (h1 : frameOk l = true)
    (h2 : (l.headD 0).toNat = (1 + s.f Fl.CLN_LANESTAT_FMT j) * 32 + pos) (hp : pos < 32)
    (h3 : l.length = (if s.f Fl.CLN_LANESTAT_FMT j = 0 then 15 else 27)) : FrameFits j pos l s := by
  have hd : (l.headD 0).toNat / 32 = 1 + s.f Fl.CLN_LANESTAT_FMT j := by omega
  have hm : (l.headD 0).toNat % 32 = pos := by omega
  rw [FrameFits, h1, hd, hm, h3, beq_self_eq_true, beq_self_eq_true, beq_self_eq_true]
  rfl

/-! ### The end of an exchange -/

theorem stale_written {c v : Nat} (hc : c < 1024) (hv : v < 4) (s : State) :
    fieldOf (s.setF Fl.CLN_CELLST_STALE c v).regs Fl.CLN_CELLST_STALE c = v :=
  fieldOf_setF_fits s Fl.CLN_CELLST_STALE c v (lt_of_lt_of_le hc (by decide)) (by decide) (lt_of_lt_of_le hv (by
    decide))

/-- The telemetry of a cell, taken into the inputs of its loop. -/
def telemetryTaken (c fmt v : Nat) (s : State) : State :=
  let at_ (lsb width : Nat) : Int := signedOf width (v / 2 ^ lsb)
  if fmt = 0 then
    setCellIn c 0 (at_ 72 24) s |> setCellIn c 1 (at_ 48 24) |> setCellIn c 2 (at_ 32 16 * 2 ^ 8)
      |> setCellIn c 3 (at_ 24 8 * 2 ^ 16) |> setCellIn c 4 0 |> setCellIn c 5 (at_ 8 16 * 2 ^ 8)
  else
    let s := setCellIn c 0 (at_ 168 24) s |> setCellIn c 1 (at_ 144 24) |> setCellIn c 2 (at_ 120 24)
      |> setCellIn c 3 (at_ 104 16 * 2 ^ 8) |> setCellIn c 4 (at_ 80 24) |> setCellIn c 5 (at_ 56 24)
    { s with cln.iAvail := cellsInsert s.cln.iAvail c (at_ 32 24) }

theorem setCellIn_regs (c k : Nat) (v : Int) (s : State) : (setCellIn c k v s).regs = s.regs := rfl

theorem telemetryTaken_regs (c fmt v : Nat) (s : State) : (telemetryTaken c fmt v s).regs = s.regs := by
  unfold telemetryTaken
  split <;> simp only [setCellIn_regs]

/-- The status bits of a cell's telemetry, shown. -/
def telemetryShown (c v : Nat) (s : State) : State :=
  s.setF Fl.CLN_CELLST_STAT c (v / 16 % 16) |>.setF Fl.CLN_CELLST_MISS c (v % 4) |>.setF Fl.CLN_CELLST_STALE c 0

theorem takeTelemetry_eq (j c fmt : Nat) (p : List Byte) (s : State) : takeTelemetry j c fmt p s =
    (telemetryShown c (leNat p) (telemetryTaken c fmt (leNat p) s)).when (bitOf (leNat p / 16 % 16) 0)
      (countUp Fl.CLN_ERRB_CRCDN j) := rfl

theorem telemetryShown_other {c d : Nat} (h : c ≠ d) (v : Nat) (s : State) :
    fieldOf (telemetryShown c v s).regs Fl.CLN_CELLST_STALE d = fieldOf s.regs Fl.CLN_CELLST_STALE d :=
  (fieldOf_setF_member _ Fl.CLN_CELLST_STALE 0 h).trans
    ((fieldOf_setF_index _ Fl.CLN_CELLST_MISS Fl.CLN_CELLST_STALE _ h rfl).trans
      (fieldOf_setF_index s Fl.CLN_CELLST_STAT Fl.CLN_CELLST_STALE _ h rfl))

theorem counted_stale (b : Bool) (j c : Nat) (s : State) :
    fieldOf (s.when b (countUp Fl.CLN_ERRB_CRCDN j)).regs Fl.CLN_CELLST_STALE c = fieldOf s.regs Fl.CLN_CELLST_STALE c
      :=
  stand_when (l := [Fl.CLN_ERRB_CRCDN]) (fun u => stand_satF (by decide) j 1 u) s _ c (by decide)

/-- What the end of an exchange does for cell `e.2` at position `e.1`. -/
def exchangeCell (j fmt : Nat) (tel : List (Nat × List Byte)) (e : Nat × Nat) (s : State) : State :=
  match cellsFind tel e.1 with
  | some p => takeTelemetry j e.2 fmt p s
  | none => countUp Fl.CLN_ERRB_MISSTEL j
      (s.setF Fl.CLN_CELLST_STALE e.2 (min 3 (s.f Fl.CLN_CELLST_STALE e.2 + 1)))

/-- The missing frames of a cell after an exchange. -/
def staleAfter (tel : List (Nat × List Byte)) (e : Nat × Nat) (n : Nat) : Nat :=
  if (cellsFind tel e.1).isSome then 0 else min 3 (n + 1)

theorem missed_stale (j c : Nat) (s : State) : fieldOf (countUp Fl.CLN_ERRB_MISSTEL j s).regs Fl.CLN_CELLST_STALE c =
    fieldOf s.regs Fl.CLN_CELLST_STALE c := fieldOf_satF_apart s Fl.CLN_ERRB_MISSTEL Fl.CLN_CELLST_STALE j c 1 (by
      decide)

theorem exchangeCell_own {e : Nat × Nat} (he : e.2 < 1024) (j fmt : Nat) (tel : List (Nat × List Byte)) (s : State) :
    fieldOf (exchangeCell j fmt tel e s).regs Fl.CLN_CELLST_STALE e.2 =
      staleAfter tel e (fieldOf s.regs Fl.CLN_CELLST_STALE e.2) := by
  unfold exchangeCell staleAfter
  cases cellsFind tel e.1 with
  | some p =>
    dsimp only
    rw [takeTelemetry_eq, counted_stale]
    exact stale_written he (by decide) _
  | none =>
    refine (missed_stale j e.2 _).trans (stale_written he ?_ s)
    omega

theorem exchangeCell_other {e : Nat × Nat} {c : Nat} (h : e.2 ≠ c) (j fmt : Nat) (tel : List (Nat × List Byte))
    (s : State) : fieldOf (exchangeCell j fmt tel e s).regs Fl.CLN_CELLST_STALE c =
      fieldOf s.regs Fl.CLN_CELLST_STALE c := by
  unfold exchangeCell
  split
  next p _ => rw [takeTelemetry_eq, counted_stale, telemetryShown_other h, telemetryTaken_regs]
  · exact (missed_stale j c _).trans (fieldOf_setF_member s Fl.CLN_CELLST_STALE _ h)

theorem exchange_stale {l : List (Nat × Nat)} (hl : (l.map (·.2)).Nodup) {e : Nat × Nat} (hm : e ∈ l) (he : e.2 < 1024)
    (j fmt : Nat) (tel : List (Nat × List Byte)) (s : State) :
    fieldOf (s.eachOf l (exchangeCell j fmt tel)).regs Fl.CLN_CELLST_STALE e.2 =
      staleAfter tel e (s.f Fl.CLN_CELLST_STALE e.2) :=
  State.eachOf_once (key := (·.2)) (f := exchangeCell j fmt tel)
    (R := fun u => fieldOf u.regs Fl.CLN_CELLST_STALE e.2 = s.f Fl.CLN_CELLST_STALE e.2)
    (Q := fun u => fieldOf u.regs Fl.CLN_CELLST_STALE e.2 = staleAfter tel e (s.f Fl.CLN_CELLST_STALE e.2)) hm hl
    (fun _ u hy hu => (exchangeCell_other hy j fmt tel u).trans hu)
    (fun _ u hy hu => (exchangeCell_other hy j fmt tel u).trans hu)
    (fun u hu => (exchangeCell_own he j fmt tel u).trans (congrArg (staleAfter tel e) hu)) rfl

/-- The break position of a lane whose last cells are silent. -/
def breakShown (j : Nat) (x : LaneLink) (s : State) : State :=
  match breakAt (fun p => (cellsFind x.telemetry p).isNone) x.admitted with
  | none => s
  | some p => clnCause j 3 (s.setF Fl.CLN_LANESTAT_BREAKPOS j p)

/-- A held lane takes up its cells with its first telemetry. -/
def holdBegun (j : Nat) (x : LaneLink) (s : State) : State :=
  s.when (x.hold && x.from_.isNone && !x.telemetry.isEmpty) fun s => initSlots (x.admitted.map (·.2)) (s.setLn j fun x
    =>
    { x with from_ := some (s.lg (s.f Fl.CLN_LANECFG_GROUP j)).ticks })

theorem exchangeEnd_eq {j : Nat} (hj : j < 32) {s : State} (h : Receives j s) : exchangeEnd j s =
    (holdBegun j (s.ln j) (breakShown j (s.ln j) (s.eachOf (s.ln j).admitted
      (exchangeCell j (s.f Fl.CLN_LANESTAT_FMT j) (s.ln j).telemetry)))).setLn j fun x => { x with telemetry := [] } :=
  if_neg (receives_guard hj h)

theorem breakShown_stand (j : Nat) (x : LaneLink) (s : State) :
    FieldsStand (Fl.CLN_LANESTAT_BREAKPOS :: eventFlds) s (breakShown j x s) := by
  unfold breakShown
  split
  · exact .refl _ s
  next p _ => exact (stand_setF (by decide) j p s).trans ((clnCause_stand j 3 _).mono (by decide))

theorem holdBegun_regs (j : Nat) (x : LaneLink) (s : State) : (holdBegun j x s).regs = s.regs :=
  State.when_cases (P := fun u => u.regs = s.regs) (fun _ => rfl) fun _ => rfl

theorem exchange_ends {j : Nat} (hj : j < 32) {s : State} (h : Receives j s)
    (hl : ((s.ln j).admitted.map (·.2)).Nodup) : Answers (.exchangeEnd j) s fun t => (t.ln j).telemetry = [] ∧
      ∀ e ∈ (s.ln j).admitted, e.2 < 1024 → t.f Fl.CLN_CELLST_STALE e.2 =
        staleAfter (s.ln j).telemetry e (s.f Fl.CLN_CELLST_STALE e.2) := by
  refine answers_done (congrArg done (exchangeEnd_eq hj h)) ⟨by rw [settle_ln, ln_setLn_same hj], fun e hm he => ?_⟩
  refine (settle_lane (by decide) e.2 _).trans ?_
  rw [setLn_regs, holdBegun_regs]
  exact (breakShown_stand j _ _ _ e.2 (by decide)).trans (exchange_stale hl hm he j _ _ s)

end Sys2Proof.Machine

/-! ## Lost cells, error counters, management access and guard lanes (R183 to R191) -/

namespace Sys2Proof.Machine

set_option Elab.async false

/-! ### Lost and readmitted cells -/

theorem removeCell_regs (c reason : Nat) (s : State) : (removeCell c reason s).regs = s.regs := by
  unfold removeCell
  split <;> rfl

theorem cell_lost {c j : Nat} (hc : c < 1024) {s : State} (hj : s.cellLane c = j) (h3 : s.f Fl.CLN_CELLST_STATE c = 3)
    (hs : s.f Fl.CLN_CELLST_STALE c = 3) : Answers (.cellLost c) s fun t =>
      t.f Fl.CLN_CELLST_STATE c = 5 ∧ LaneCause j 2 t := by
  have he : cellLost c s = removeCell c 3 (clnCause j 2 (s.setF Fl.CLN_CELLST_STATE c 5)) := by
    unfold cellLost
    rw [h3, hs, hj, decide_eq_true hc]
    rfl
  have hr := removeCell_regs c 3 (clnCause j 2 (s.setF Fl.CLN_CELLST_STATE c 5))
  refine answers_done (congrArg done he) ⟨(settle_lane (by decide) c _).trans ?_, LaneCause.settle ?_⟩
  · rw [hr]
    exact (clnCause_stand j 2 _ _ c (by decide)).trans
      (fieldOf_setF_fits s Fl.CLN_CELLST_STATE c 5 (lt_of_lt_of_le hc (by decide)) (by decide) (by decide))
  · rw [LaneCause, hr]
    exact clnCause_shows j (by decide) _

theorem cell_asked_back {c j : Nat} (hc : c < 1024) (hj : j < 32) {s : State} (hl : s.cellLane c = j)
    (h5 : s.f Fl.CLN_CELLST_STATE c = 5) (hn : (s.ln j).readmit = none) (hx : s.exchanging j = true) :
    Answers (.cellReadmit c) s fun t => (t.ln j).readmit = some c := by
  have he : cellReadmit c s = s.setLn j fun x =>
    { x with readmit := some c, readmitCap := false, readmitRange := false } := by
    subst hl
    refine if_pos ?_
    rw [h5, hn, hx, decide_eq_true hc]
    rfl
  refine answers_done (congrArg done he) ?_
  rw [settle_ln, ln_setLn_same hj]

/-- A cell that answered is readmitted. -/
def readmitted (c : Nat) (answered : Bool) (s : State) : State :=
  if answered then s.setF Fl.CLN_CELLST_STATE c 2 |>.setF Fl.CLN_CELLST_STALE c 0 else s

theorem readmitted_links (c : Nat) (answered : Bool) (s : State) : LinksStand s (readmitted c answered s) := by
  unfold readmitted
  split
  · exact (links_setF ..).trans (links_setF ..)
  · exact .refl s

theorem readmitted_state {c : Nat} (hc : c < 1024) (answered : Bool) (s : State) :
    fieldOf (readmitted c answered s).regs Fl.CLN_CELLST_STATE c =
      if answered then 2 else fieldOf s.regs Fl.CLN_CELLST_STATE c := by
  unfold readmitted
  split
  · exact (fieldOf_setF_apart _ Fl.CLN_CELLST_STALE Fl.CLN_CELLST_STATE c c 0 (by decide)).trans
      (fieldOf_setF_fits s Fl.CLN_CELLST_STATE c 2 (lt_of_lt_of_le hc (by decide)) (by decide) (by decide))
  · rfl

theorem readmission_ends {c j : Nat} (hc : c < 1024) (hj : j < 32) {s : State} (hl : s.cellLane c = j)
    (hn : (s.ln j).readmit = some c) : Answers (.readmitEnd c) s fun t => (t.ln j).readmit = none ∧
      t.f Fl.CLN_CELLST_STATE c =
        if (s.ln j).readmitCap && (s.ln j).readmitRange then 2 else s.f Fl.CLN_CELLST_STATE c := by
  have he : readmitEnd c s = readmitted c ((s.ln j).readmitCap && (s.ln j).readmitRange)
      (s.setLn j fun x => { x with readmit := none }) := by
    subst hl
    exact if_pos (by rw [hn, beq_self_eq_true])
  refine answers_done (congrArg done he) ⟨?_, (settle_lane (by decide) c _).trans (readmitted_state hc _ _)⟩
  rw [settle_ln, (readmitted_links ..).ln, ln_setLn_same hj]

/-! ### Error counters -/

theorem threshold_shown {j : Nat} (hj : j < 32) {s : State} (h : s.errReached j = true) :
    Answers (.errorThreshold j) s fun t => LaneCause j (if j < 16 then 6 else 13) t := by
  have he : errorThreshold j s = clnCause j (if j < 16 then 6 else 13) s :=
    if_pos (by rw [decide_eq_true hj, h]; rfl)
  exact answers_done (congrArg done he) (clnCause_shows j (by split <;> decide) s).settle

/-- The counters of lane `j` cleared. -/
def countersCleared (j : Nat) (s : State) : State :=
  s.setReg R.CLN_ERRA j 0 |>.setReg R.CLN_ERRB j 0 |>.setReg R.CLN_ERRC j 0

/-- Registers of the error counters. -/
def counterRegs : List Rg := [R.CLN_ERRA, R.CLN_ERRB, R.CLN_ERRC]

theorem countersCleared_own {j : Nat} (hj : j < 32) (s : State) :
    ∀ r ∈ counterRegs, regOf (countersCleared j s).regs r j = 0 := by
  have h1 : j < R.CLN_ERRA.count := lt_of_lt_of_le hj (by decide)
  have h2 : j < R.CLN_ERRB.count := lt_of_lt_of_le hj (by decide)
  have h3 : j < R.CLN_ERRC.count := lt_of_lt_of_le hj (by decide)
  unfold countersCleared
  intro r hr
  rcases List.mem_cons.mp hr with rfl | hr
  · rw [regOf_setReg_apart _ R.CLN_ERRC R.CLN_ERRA _ _ _ (by decide),
      regOf_setReg_apart _ R.CLN_ERRB R.CLN_ERRA _ _ _ (by decide)]
    exact regOf_setReg_same s R.CLN_ERRA j 0 h1
  · rcases List.mem_cons.mp hr with rfl | hr
    · rw [regOf_setReg_apart _ R.CLN_ERRC R.CLN_ERRB _ _ _ (by decide)]
      exact regOf_setReg_same _ R.CLN_ERRB j 0 h2
    · rw [List.mem_singleton.mp hr]
      exact regOf_setReg_same _ R.CLN_ERRC j 0 h3

theorem countersCleared_other {i j : Nat} (h : i ≠ j) (s : State) :
    ∀ r ∈ counterRegs, regOf (countersCleared i s).regs r j = regOf s.regs r j := by
  have hset : ∀ a ∈ counterRegs, ∀ r ∈ counterRegs, ∀ u : State,
    regOf (u.setReg a i 0).regs r j = regOf u.regs r j := by
    intro a ha r hr u
    by_cases he : a = r
    · rw [he]
      exact regOf_setReg_member u r 0 h
    · have hall : ∀ a ∈ counterRegs, ∀ r ∈ counterRegs, a ≠ r → a.apart r = true := by decide
      exact regOf_setReg_apart u a r i j 0 (hall a ha r hr he)
  intro r hr
  unfold countersCleared
  rw [hset _ (by decide) r hr, hset _ (by decide) r hr, hset _ (by decide) r hr]

/-- The counters of a lane that a mask names, cleared. -/
def maskCleared (mask : Word) (j : Nat) (s : State) : State := s.when (bitOf mask.toNat j) (countersCleared j)

theorem mask_clears {j : Nat} (hj : j < 32) (mask : Word) (s : State) : ∀ r ∈ counterRegs,
    regOf (errorsClear mask s).regs r j = if mask.getLsbD j then 0 else regOf s.regs r j := by
  intro r hr
  refine State.each_once (f := maskCleared mask) (R := fun u => regOf u.regs r j = regOf s.regs r j)
    (Q := fun u => regOf u.regs r j = if mask.getLsbD j then 0 else regOf s.regs r j) hj (fun i u hi hu => ?_)
    (fun i u hi hu => ?_) (fun u hu => ?_) rfl
  · exact State.when_cases (P := fun v => regOf v.regs r j = _) (fun _ => hu) fun _ =>
      (countersCleared_other hi u r hr).trans hu
  · exact State.when_cases (P := fun v => regOf v.regs r j = _) (fun _ => hu) fun _ =>
      (countersCleared_other hi u r hr).trans hu
  · have hb : mask.getLsbD j = bitOf mask.toNat j := rfl
    rw [maskCleared, hb]
    cases bitOf mask.toNat j with
    | true => exact countersCleared_own hj u r hr
    | false => exact hu

theorem counters_clear {j : Nat} (hj : j < 32) (mask : Word) (s : State) : Answers (.errorCountersClear mask) s fun t =>
    t.reg R.CLN_ERRA j = (if mask.getLsbD j then 0 else s.reg R.CLN_ERRA j) ∧
      t.reg R.CLN_ERRB j = (if mask.getLsbD j then 0 else s.reg R.CLN_ERRB j) ∧
      t.reg R.CLN_ERRC j = (if mask.getLsbD j then 0 else s.reg R.CLN_ERRC j) := by
  have hall : ∀ r ∈ counterRegs, (!settledPart.regs r.addr && decide (r.count ≤ 65536)) = true := by decide
  have h : ∀ r ∈ counterRegs, regOf (errorsClear mask s).settle.regs r j =
      if mask.getLsbD j then 0 else regOf s.regs r j := fun r hr =>
    (regOf_settle _ r j (hall r hr)).trans (mask_clears hj mask s r hr)
  exact answers_done rfl ⟨h _ (by decide), h _ (by decide), h _ (by decide)⟩

/-! ### Management access -/

theorem settle_mgmt {fl : Fld} (h : fl.reg = R.CLN_MGSTAT) (u : State) : fieldOf u.settle.regs fl 0 = fieldOf u.regs
  fl 0 :=
  fieldOf_settle u fl 0 (by rw [h]; decide)

/-- A management access has ended with code `err`. -/
def MgmtEnded (err : Nat) (s : State) : Prop := fieldOf s.regs Fl.CLN_MGSTAT_BUSY 0 = 0 ∧
  fieldOf s.regs Fl.CLN_MGSTAT_DONE 0 = 1 ∧ fieldOf s.regs Fl.CLN_MGSTAT_ERR 0 = err ∧ s.cln.request = none

theorem mgmtEnd_ends {err : Nat} (h : err < 8) (s : State) : MgmtEnded err (mgmtEnd err s) := by
  refine ⟨?_, ?_, fieldOf_setF_fits _ Fl.CLN_MGSTAT_ERR 0 err (by decide) (by decide) (lt_of_lt_of_le h (by decide)),
    ?_⟩
  · exact (fieldOf_setF_apart _ Fl.CLN_MGSTAT_ERR Fl.CLN_MGSTAT_BUSY 0 0 err (by decide)).trans
      ((fieldOf_setB_apart _ Fl.CLN_MGSTAT_DONE Fl.CLN_MGSTAT_BUSY 0 0 true (by decide)).trans
        (fieldOf_setB_same _ Fl.CLN_MGSTAT_BUSY 0 false (by decide) (by decide) (by decide)))
  · exact (fieldOf_setF_apart _ Fl.CLN_MGSTAT_ERR Fl.CLN_MGSTAT_DONE 0 0 err (by decide)).trans
      (fieldOf_setB_same _ Fl.CLN_MGSTAT_DONE 0 true (by decide) (by decide) (by decide))
  · unfold mgmtEnd
    rw [State.setF_cln, State.setB_cln, State.setB_cln]

theorem MgmtEnded.settle {err : Nat} {u : State} (h : MgmtEnded err u) : MgmtEnded err u.settle := by
  obtain ⟨h1, h2, h3, h4⟩ := h
  exact ⟨(settle_mgmt rfl u).trans h1, (settle_mgmt rfl u).trans h2, (settle_mgmt rfl u).trans h3, by rw [settle_cln,
    h4]⟩

/-- No management access is in progress, and the request names lane `j`. -/
def MgmtAsked (j : Nat) (s : State) : Prop := s.f Fl.CLN_MGSTAT_BUSY = 0 ∧ s.f Fl.CLN_MGREQ_LANE = j

/-- Lane `j` carries management traffic. -/
def MgmtUp (j : Nat) (s : State) : Prop := s.laneSt j = 2 ∧ j < 16 ∨ s.laneSt j = 6

theorem mgmtUp_iff (j : Nat) (s : State) :
    (!(s.laneSt j == 2 && j < 16) && s.laneSt j != 6) = true ↔ ¬ MgmtUp j s := by
  rw [MgmtUp, Bool.and_eq_true, Bool.not_eq_true', Bool.and_eq_false_iff, beq_eq_false_iff_ne, decide_eq_false_iff_not,
    bne_iff_ne]
  tauto

/-- A management access that waits for its response. -/
def mgmtWaits (s : State) : State :=
  ({ s with cln.request := some (s.f Fl.CLN_MGREQ_LANE, s.f Fl.CLN_MGREQ_POS) }).setB Fl.CLN_MGSTAT_BUSY 0 true
    |>.setB Fl.CLN_MGSTAT_DONE 0 false |>.setF Fl.CLN_MGSTAT_ERR 0 0

theorem mgmtRequest_eq {s : State} (h : s.f Fl.CLN_MGSTAT_BUSY = 0) : mgmtRequest s =
    if s.f Fl.CLN_MGREQ_LEN == 0 || 32 < s.f Fl.CLN_MGREQ_LEN then mgmtEnd 6 s
    else if !(s.laneSt (s.f Fl.CLN_MGREQ_LANE) == 2 && s.f Fl.CLN_MGREQ_LANE < 16) &&
        s.laneSt (s.f Fl.CLN_MGREQ_LANE) != 6 then mgmtEnd 4 s
    else mgmtWaits s := if_neg (by rw [b_false h]; exact Bool.false_ne_true)

theorem length_legal {n : Nat} (h1 : 1 ≤ n) (h2 : n ≤ 32) : ¬ (n == 0 || decide (32 < n)) = true := by
  rw [Bool.or_eq_true, beq_iff_eq, decide_eq_true_eq]
  omega

theorem mgmt_waits {j : Nat} {s : State} (h : MgmtAsked j s) (h1 : 1 ≤ s.f Fl.CLN_MGREQ_LEN)
    (h2 : s.f Fl.CLN_MGREQ_LEN ≤ 32) (hu : MgmtUp j s) : Answers .mgmtRequest s fun t =>
      t.f Fl.CLN_MGSTAT_BUSY = 1 ∧ t.cln.request = some (j, s.f Fl.CLN_MGREQ_POS) := by
  obtain ⟨hb, rfl⟩ := h
  have he : mgmtRequest s = mgmtWaits s := (mgmtRequest_eq hb).trans ((if_neg (length_legal h1 h2)).trans
    (if_neg fun hn => (mgmtUp_iff _ s).mp hn hu))
  refine answers_done (congrArg done he) ⟨(settle_mgmt rfl _).trans ?_, ?_⟩
  · exact (fieldOf_setF_apart _ Fl.CLN_MGSTAT_ERR Fl.CLN_MGSTAT_BUSY 0 0 0 (by decide)).trans
      ((fieldOf_setB_apart _ Fl.CLN_MGSTAT_DONE Fl.CLN_MGSTAT_BUSY 0 0 false (by decide)).trans
        (fieldOf_setB_same _ Fl.CLN_MGSTAT_BUSY 0 true (by decide) (by decide) (by decide)))
  · unfold mgmtWaits
    rw [settle_cln, State.setF_cln, State.setB_cln, State.setB_cln]

theorem mgmt_lane_down {j : Nat} {s : State} (h : MgmtAsked j s) (h1 : 1 ≤ s.f Fl.CLN_MGREQ_LEN)
    (h2 : s.f Fl.CLN_MGREQ_LEN ≤ 32) (hu : ¬ MgmtUp j s) : Answers .mgmtRequest s fun t =>
      t.f Fl.CLN_MGSTAT_DONE = 1 ∧ t.f Fl.CLN_MGSTAT_ERR = 4 := by
  obtain ⟨hb, rfl⟩ := h
  have he : mgmtRequest s = mgmtEnd 4 s := (mgmtRequest_eq hb).trans ((if_neg (length_legal h1 h2)).trans
    (if_pos ((mgmtUp_iff _ s).mpr hu)))
  obtain ⟨-, h3, h4, -⟩ := (mgmtEnd_ends (err := 4) (by decide) s).settle
  exact answers_done (congrArg done he) ⟨h3, h4⟩

theorem mgmt_length {j : Nat} {s : State} (h : MgmtAsked j s)
    (hl : s.f Fl.CLN_MGREQ_LEN = 0 ∨ 32 < s.f Fl.CLN_MGREQ_LEN) : Answers .mgmtRequest s fun t =>
      t.f Fl.CLN_MGSTAT_DONE = 1 ∧ t.f Fl.CLN_MGSTAT_ERR = 6 := by
  have he : mgmtRequest s = mgmtEnd 6 s := (mgmtRequest_eq h.1).trans (if_pos (by
    rw [Bool.or_eq_true, beq_iff_eq, decide_eq_true_eq]
    exact hl))
  obtain ⟨-, h3, h4, -⟩ := (mgmtEnd_ends (err := 6) (by decide) s).settle
  exact answers_done (congrArg done he) ⟨h3, h4⟩

theorem mgmt_times_out {j pos : Nat} (hj : j < 32) {s : State} (h : s.cln.request = some (j, pos)) :
    Answers .mgmtTimeout s fun t => t.f Fl.CLN_MGSTAT_ERR = 1 ∧ t.f Fl.CLN_MGSTAT_DONE = 1 ∧ t.cln.request = none ∧
      t.f Fl.CLN_ERRC_MGTO j = min 65535 (s.f Fl.CLN_ERRC_MGTO j + 1) := by
  have he : mgmtTimeout s = mgmtEnd 1 (countUp Fl.CLN_ERRC_MGTO j s) := by
    unfold mgmtTimeout
    rw [h]
  obtain ⟨-, h2, h3, h4⟩ := (mgmtEnd_ends (err := 1) (by decide) (countUp Fl.CLN_ERRC_MGTO j s)).settle
  refine answers_done (congrArg done he) ⟨h3, h2, h4, ?_⟩
  refine (settle_counter (by decide) j _).trans (Eq.trans ?_ (counted_up hj (by decide) s))
  exact fieldOf_of_without (mgmtEnd_writes (P := { regs := regsIn [R.CLN_MGSTAT], cln := true }) (by decide) rfl 1 _) j
    (by decide)

/-! ### The response -/

/-- A response's data in the words of MGBUF. -/
def mgmtData (data : List Byte) (w : Nat) (s : State) : State :=
  let bs := (data.take (s.f Fl.CLN_MGREQ_LEN)).drop (4 * w)
  if bs.isEmpty then s else s.setReg R.CLN_MGBUF w (BitVec.ofNat 32 (leNat (bs.take 4)))

/-- The code a response ends with. -/
def mgmtCode (st : Nat) : Nat := if st == 0 || st == 3 then st else 2

theorem mgmtCode_eq (st : Nat) : mgmtCode st = if st = 0 ∨ st = 3 then st else 2 := by
  simp [mgmtCode]

theorem mgmtCode_lt (st : Nat) : mgmtCode st < 8 := by
  rw [mgmtCode_eq]
  split <;> omega

/-- A response's status and data are taken. -/
def mgmtTaken (st : Nat) (x : Byte) (data : List Byte) (s : State) : State :=
  let s := s.setF Fl.CLN_MGSTAT_CSTAT 0 x.toNat
  if mgmtCode st == 0 && !s.b Fl.CLN_MGREQ_WR then s.each 8 (mgmtData data) else s

theorem mgmtResponse_eq {s : State} (h : s.f Fl.CLN_MGSTAT_BUSY = 1) (st : Nat) (x : Byte) (data : List Byte) :
    mgmtResponse st x data s = mgmtEnd (mgmtCode st) (mgmtTaken st x data s) :=
  if_neg (by rw [b_true h]; exact Bool.false_ne_true)

theorem mgmtData_field {fl : Fld} (h : R.CLN_MGBUF.apart fl.reg = true) (data : List Byte) (w i : Nat) (s : State) :
    fieldOf (mgmtData data w s).regs fl i = fieldOf s.regs fl i := by
  unfold mgmtData
  dsimp only
  split
  · rfl
  · exact fieldOf_setReg_apart _ _ _ _ _ _ h

theorem mgmtTaken_status (st : Nat) (x : Byte) (data : List Byte) (s : State) :
    fieldOf (mgmtTaken st x data s).regs Fl.CLN_MGSTAT_CSTAT 0 = x.toNat := by
  have hset := fieldOf_setF_fits s Fl.CLN_MGSTAT_CSTAT 0 x.toNat (by decide) (by decide) x.isLt
  unfold mgmtTaken
  dsimp only
  split
  · exact (fieldOf_each (fun w u => mgmtData_field (by decide) data w 0 u) _ 8).trans hset
  · exact hset

/-- The word of MGBUF that a response's data fill. -/
def mgmtWord (data : List Byte) (n w : Nat) : Word := BitVec.ofNat 32 (leNat (((data.take n).drop (4 * w)).take 4))

theorem mgmtData_own {w n : Nat} (hw : w < 8) {data : List Byte} (hn : 4 * w < n) (hl : 4 * w < data.length) {s : State}
    (h : fieldOf s.regs Fl.CLN_MGREQ_LEN 0 = n) : regOf (mgmtData data w s).regs R.CLN_MGBUF w = mgmtWord data n w := by
  have hne : ((data.take n).drop (4 * w)).isEmpty = false := by
    rw [List.isEmpty_eq_false_iff, ← List.length_pos_iff, List.length_drop, List.length_take]
    omega
  have hf : s.f Fl.CLN_MGREQ_LEN = n := h
  unfold mgmtData
  rw [hf]
  dsimp only
  rw [hne, if_neg Bool.false_ne_true]
  exact regOf_setReg_same s R.CLN_MGBUF w _ (lt_of_lt_of_le hw (by decide))

theorem mgmtData_other {v w : Nat} (h : v ≠ w) (data : List Byte) (s : State) :
    regOf (mgmtData data v s).regs R.CLN_MGBUF w = regOf s.regs R.CLN_MGBUF w := by
  unfold mgmtData
  dsimp only
  split
  · rfl
  · exact regOf_setReg_member _ _ _ h

theorem mgmtTaken_word {w st : Nat} (hw : w < 8) (h0 : st = 0) (x : Byte) {data : List Byte} {s : State}
    (hwr : s.f Fl.CLN_MGREQ_WR = 0) (hn : 4 * w < s.f Fl.CLN_MGREQ_LEN) (hl : 4 * w < data.length) :
    regOf (mgmtTaken st x data s).regs R.CLN_MGBUF w = mgmtWord data (s.f Fl.CLN_MGREQ_LEN) w := by
  have hkept : ∀ fl : Fld, Fl.CLN_MGSTAT_CSTAT.apart fl = true →
      fieldOf (s.setF Fl.CLN_MGSTAT_CSTAT 0 x.toNat).regs fl 0 = fieldOf s.regs fl 0 := fun fl h =>
    fieldOf_setF_apart s Fl.CLN_MGSTAT_CSTAT fl 0 0 _ h
  have hc : (mgmtCode st == 0 && !(s.setF Fl.CLN_MGSTAT_CSTAT 0 x.toNat).b Fl.CLN_MGREQ_WR) = true := by
    have hb : (s.setF Fl.CLN_MGSTAT_CSTAT 0 x.toNat).b Fl.CLN_MGREQ_WR = false :=
      (b_of_field (hkept Fl.CLN_MGREQ_WR (by decide))).trans (b_false hwr)
    rw [h0, hb]
    rfl
  have hlen : fieldOf (s.setF Fl.CLN_MGSTAT_CSTAT 0 x.toNat).regs Fl.CLN_MGREQ_LEN 0 = s.f Fl.CLN_MGREQ_LEN :=
    hkept Fl.CLN_MGREQ_LEN (by decide)
  have he : mgmtTaken st x data s = (s.setF Fl.CLN_MGSTAT_CSTAT 0 x.toNat).each 8 (mgmtData data) := if_pos hc
  rw [he]
  exact State.each_once (f := mgmtData data) (R := fun u => fieldOf u.regs Fl.CLN_MGREQ_LEN 0 = s.f Fl.CLN_MGREQ_LEN)
    (Q := fun u => regOf u.regs R.CLN_MGBUF w = mgmtWord data (s.f Fl.CLN_MGREQ_LEN) w) hw
    (fun v u _ hu => (mgmtData_field (by decide) data v 0 u).trans hu)
    (fun v u hv hu => (mgmtData_other hv data u).trans hu) (fun u hu => mgmtData_own hw hn hl hu) hlen

theorem mgmtEnd_status (err : Nat) (s : State) : fieldOf (mgmtEnd err s).regs Fl.CLN_MGSTAT_CSTAT 0 =
    fieldOf s.regs Fl.CLN_MGSTAT_CSTAT 0 :=
  (fieldOf_setF_apart _ Fl.CLN_MGSTAT_ERR Fl.CLN_MGSTAT_CSTAT 0 0 err (by decide)).trans
    ((fieldOf_setB_apart _ Fl.CLN_MGSTAT_DONE Fl.CLN_MGSTAT_CSTAT 0 0 true (by decide)).trans
      (fieldOf_setB_apart _ Fl.CLN_MGSTAT_BUSY Fl.CLN_MGSTAT_CSTAT 0 0 false (by decide)))

theorem mgmt_responds {s : State} (h : s.f Fl.CLN_MGSTAT_BUSY = 1) (st : Nat) (x : Byte) (data : List Byte) :
    Answers (.mgmtResponse st x data) s fun t => t.f Fl.CLN_MGSTAT_BUSY = 0 ∧ t.f Fl.CLN_MGSTAT_DONE = 1 ∧
      t.f Fl.CLN_MGSTAT_CSTAT = x.toNat ∧ t.f Fl.CLN_MGSTAT_ERR = (if st = 0 ∨ st = 3 then st else 2) ∧
      ∀ w, w < 8 → st = 0 → s.f Fl.CLN_MGREQ_WR = 0 → 4 * w < s.f Fl.CLN_MGREQ_LEN → 4 * w < data.length →
        t.reg R.CLN_MGBUF w = mgmtWord data (s.f Fl.CLN_MGREQ_LEN) w := by
  obtain ⟨h1, h2, h3, -⟩ := (mgmtEnd_ends (mgmtCode_lt st) (mgmtTaken st x data s)).settle
  refine answers_done (congrArg done (mgmtResponse_eq h st x data)) ⟨h1, h2, ?_, h3.trans (mgmtCode_eq st),
    fun w hw h0 hwr hn hl => ?_⟩
  · exact (settle_mgmt rfl _).trans ((mgmtEnd_status _ _).trans (mgmtTaken_status st x data s))
  · refine (regOf_settle _ R.CLN_MGBUF w (by decide)).trans (Eq.trans ?_ (mgmtTaken_word hw h0 x hwr hn hl))
    exact regOf_of_without (mgmtEnd_writes (P := { regs := regsIn [R.CLN_MGSTAT], cln := true }) (by decide) rfl _ _) w
      (by decide)

/-! ### Guard lanes -/

/-- Guard lane `j` monitors. -/
def Monitors (j : Nat) (s : State) : Prop := s.laneSt j = 5

theorem guard_open {j : Nat} (hj : j < 32) (h16 : 16 ≤ j) {s : State} (h : Monitors j s) :
    ¬ (decide (j < 16) || decide (32 ≤ j) || s.laneSt j != 5) = true := by
  rw [decide_eq_false (show ¬ j < 16 by omega), decide_eq_false (show ¬ 32 ≤ j by omega), h]
  decide

/-- GUARDOK of guard lane `j`. -/
def GuardOk (j : Nat) (s : State) : Bool := bitOf (fieldOf s.regs Fl.CLN_STAT_GUARDOK 0) (j - 16)

theorem guardOk_set {j : Nat} (hj : j < 32) (v : Bool) (s : State) :
    GuardOk j (s.setFBit Fl.CLN_STAT_GUARDOK 0 (j - 16) v) = v :=
  bitOf_setFBit_same s Fl.CLN_STAT_GUARDOK 0 (j - 16) v (by decide) (by decide)
    (lt_of_lt_of_le (show j - 16 < 16 by omega) (by decide))

theorem guardOk_stand {j : Nat} {s u : State} (h : FieldsStand eventFlds s u) : GuardOk j u = GuardOk j s :=
  congrArg (bitOf · (j - 16)) (h Fl.CLN_STAT_GUARDOK 0 (by decide))

theorem guardOk_settle (j : Nat) (u : State) : GuardOk j u.settle = GuardOk j u :=
  congrArg (bitOf · (j - 16)) (settle_lane (fl := Fl.CLN_STAT_GUARDOK) (by decide) 0 u)

/-- A guard lane that hears nothing. -/
def guardSilent (j : Nat) (s : State) : State :=
  (s.setFBit Fl.CLN_STAT_GUARDOK 0 (j - 16) false).setLn j fun x => { x with synced := false }

theorem guard_falls_silent {j : Nat} (hj : j < 32) (h16 : 16 ≤ j) {s : State} (h : Monitors j s) :
    Answers (.guardLaneTraffic j []) s fun t => GuardOk j t = false ∧ (GuardOk j s = true → LaneCause j 9 t) := by
  have he : guardTraffic j [] s = (guardSilent j s).when (GuardOk j s) (clnCause j 9) :=
    (if_neg (guard_open hj h16 h)).trans (if_pos rfl)
  refine answers_done (congrArg done he) ⟨?_, fun hw => LaneCause.settle ?_⟩
  · rw [guardOk_settle, guardOk_stand (stand_when (l := eventFlds) (clnCause_stand j 9) (guardSilent j s))]
    exact guardOk_set hj false s
  · rw [hw]
    exact clnCause_shows j (by decide) _

theorem crcBit_lt (c : Nat) (b : Bool) : crcBit 8 0x07 c b < 2 ^ 8 := by
  unfold crcBit
  dsimp only
  have hm : c * 2 % 2 ^ 8 < 2 ^ 8 := Nat.mod_lt _ (by decide)
  split
  · exact Nat.xor_lt_two_pow hm (by decide)
  · exact hm

theorem crcBits_lt (l : List Bool) {c : Nat} (hc : c < 2 ^ 8) : l.foldl (crcBit 8 0x07) c < 2 ^ 8 := by
  induction l generalizing c with
  | nil => exact hc
  | cons b l ih => exact ih (crcBit_lt c b)

theorem crcBytes_lt (l : List Byte) {c : Nat} (hc : c < 2 ^ 8) :
    l.foldl (fun c b => (bitsMsb b).foldl (crcBit 8 0x07) c) c < 2 ^ 8 := by
  induction l generalizing c with
  | nil => exact hc
  | cons b l ih => exact ih (crcBits_lt (bitsMsb b) hc)

theorem crc8_lt (l : List Byte) : crc8 l < 2 ^ 8 := crcBytes_lt l (by decide)

/-- A SYNC frame. -/
def syncFrame (a b : Byte) : List Byte := [a, b, BitVec.ofNat 8 (crc8 [a, b])]

theorem syncFrame_checks (a b : Byte) :
    ((syncFrame a b).length == 3 && leNat ((syncFrame a b).drop 2) == crc8 ((syncFrame a b).take 2)) = true := by
  have hl : leNat ((syncFrame a b).drop 2) = crc8 [a, b] := by
    change (BitVec.ofNat 8 (crc8 [a, b])).toNat + 256 * 0 = crc8 [a, b]
    rw [BitVec.toNat_ofNat, Nat.mod_eq_of_lt (crc8_lt [a, b]), Nat.mul_zero, Nat.add_zero]
  rw [hl]
  exact Bool.and_eq_true_iff.mpr ⟨rfl, beq_self_eq_true _⟩

/-- A guard lane that hears SYNC. -/
def guardHeard (j : Nat) (s : State) : State := s.setFBit Fl.CLN_STAT_GUARDOK 0 (j - 16) true

/-- The first SYNC of a guard lane. -/
def guardSynced (j : Nat) (s : State) : State := clnCause j 8 (s.setLn j fun x => { x with synced := true })

theorem guard_hears {j : Nat} (hj : j < 32) (h16 : 16 ≤ j) {s : State} (h : Monitors j s) (a b : Byte) :
    Answers (.guardLaneTraffic j (syncFrame a b)) s fun t => GuardOk j t = true ∧
      ((s.ln j).synced = false → LaneCause j 8 t ∧ (t.ln j).synced = true) := by
  have hln : (guardHeard j s).ln j = s.ln j := (links_setFBit _ _ _ _ s).ln j
  have he : guardTraffic j (syncFrame a b) s =
      if (s.ln j).synced then guardHeard j s else guardSynced j (guardHeard j s) := by
    rw [← hln]
    exact (if_neg (guard_open hj h16 h)).trans ((if_neg Bool.false_ne_true).trans (if_pos (syncFrame_checks a b)))
  have hok := guardOk_set hj true s
  cases hs : (s.ln j).synced with
  | true =>
    rw [hs, if_pos rfl] at he
    exact answers_done (congrArg done he) ⟨(guardOk_settle j _).trans hok, fun hc => absurd hc (by decide)⟩
  | false =>
    rw [hs, if_neg Bool.false_ne_true] at he
    refine answers_done (congrArg done he) ⟨?_, fun _ => ⟨LaneCause.settle (clnCause_shows j (by decide) _), ?_⟩⟩
    · rw [guardOk_settle]
      exact (guardOk_stand (clnCause_stand j 8 _)).trans hok
    · rw [settle_ln, guardSynced, (links_clnCause j 8 _).ln, ln_setLn_same hj]

/-! ### Guard lanes at a takeover -/

/-- The positions and cells of lane `j`. -/
def laneCells (j : Nat) (s : State) : List (Nat × Nat) :=
  ((List.range 32).map fun p => (s.slotsAt j p).map fun c => (p, c)).flatten

/-- The registers of a guard lane that becomes active, with what it takes over of the home lane. -/
def guardShown (j : Nat) (sh : Nat × Nat × Nat) (s : State) : State :=
  s.setF Fl.CLN_LANESTAT_STATE j 6 |>.setF Fl.CLN_LANESTAT_RATE j sh.1
    |>.setF Fl.CLN_LANESTAT_FMT j sh.2.1 |>.setF Fl.CLN_LANETIM_DMAX j sh.2.2

/-- The cells of a guard lane that becomes active. -/
def guardCells (j : Nat) (l : List (Nat × Nat)) (s : State) : State := readyCells 4 l (s.setF Fl.CLN_LANESTAT_NCELL j
  l.length)

/-- The link of a guard lane that becomes active. -/
def guardLink (l : List (Nat × Nat)) (x : LaneLink) : LaneLink :=
  { x with admitted := l, exchange := 0, take := 3, hold := true, from_ := none, telemetry := [] }

/-- A guard lane becomes active, before its event. -/
def guardOpened (j : Nat) (s : State) : State :=
  let u := guardShown j (cellsGet (2, 0, 0) s.cln.shadow j) s
  (guardCells j (laneCells j u) u).setLn j (guardLink (laneCells j u))

theorem guardActivate_eq (k : Nat) (s : State) : guardActivate k s =
    if (s.laneSlots (16 + k)).isEmpty || s.laneSt (16 + k) != 5 then s else clnCause k 11 (guardOpened (16 + k) s) :=
      rfl

/-- What a guard lane writes that becomes active, besides its STATE and its event. -/
def guardFlds : List Fld := [Fl.CLN_LANESTAT_RATE, Fl.CLN_LANESTAT_FMT, Fl.CLN_LANESTAT_NCELL, Fl.CLN_LANETIM_DMAX,
  Fl.CLN_CELLST_STATE]

theorem guardOpened_stand (j : Nat) (s : State) :
    FieldsStand guardFlds (s.setF Fl.CLN_LANESTAT_STATE j 6) (guardOpened j s) := by
  unfold guardOpened
  generalize cellsGet (2, 0, 0) s.cln.shadow j = sh
  extract_lets u
  have h1 : FieldsStand guardFlds (s.setF Fl.CLN_LANESTAT_STATE j 6) u :=
    (stand_setF (by decide) j sh.1 _).trans ((stand_setF (by decide) j sh.2.1 _).trans
      (stand_setF (by decide) j sh.2.2 _))
  generalize laneCells j u = l
  have h2 : FieldsStand guardFlds u (guardCells j l u) :=
    (stand_setF (by decide) j l.length u).trans ((readyCells_stand 4 l _).mono (by decide))
  exact h1.trans (h2.trans (.of_regs (setLn_regs ..)))

/-- A field that no guard lane writes which becomes active. -/
theorem guardOpened_field {fl : Fld} (h : fldsApart (Fl.CLN_LANESTAT_STATE :: guardFlds) fl = true) (j i : Nat)
    (s : State) : fieldOf (guardOpened j s).regs fl i = fieldOf s.regs fl i :=
  (guardOpened_stand j s fl i (List.all_eq_true.mpr fun _ ha => apart_of_mem h (List.mem_cons_of_mem _ ha))).trans
    (fieldOf_setF_apart s Fl.CLN_LANESTAT_STATE fl j i 6 (apart_of_mem h List.mem_cons_self))

theorem guardShown_links (j : Nat) (sh : Nat × Nat × Nat) (s : State) : LinksStand s (guardShown j sh s) :=
  (links_setF ..).trans ((links_setF ..).trans ((links_setF ..).trans (links_setF ..)))

theorem guardCells_links (j : Nat) (l : List (Nat × Nat)) (s : State) : LinksStand s (guardCells j l s) :=
  (links_setF Fl.CLN_LANESTAT_NCELL j l.length s).trans
    (links_eachOf (f := fun (e : Nat × Nat) s => s.setF Fl.CLN_CELLST_STATE e.2 4) (fun e u => links_setF _ e.2 4 u) l
      _)

theorem clnCause_keeps {j b : Nat} (hb : b < 14) (i a : Nat) {s : State} (h : LaneCause j b s) :
    LaneCause j b (clnCause i a s) :=
  bitOf_causeOn_keeps (a := ⟨R.CLN_LANEEV, 0, 14⟩) (lt_of_lt_of_le (Nat.mod_lt j (by decide)) (by decide))
    (lt_of_lt_of_le (Nat.mod_lt i (by decide)) (by decide)) (by decide) hb (by decide) h

/-- Guard lane `j` is active after a takeover. -/
def GuardActive (j : Nat) (s : State) : Prop := fieldOf s.regs Fl.CLN_LANESTAT_STATE j = 6 ∧ (s.ln j).take = 3 ∧
  LaneCause j 11 s

theorem guard_own {k : Nat} (hk : k < 16) (s : State) : GuardActive (16 + k) (clnCause k 11 (guardOpened (16 + k) s))
  := by
  refine ⟨(clnCause_stand k 11 _ _ _ (by decide)).trans ((guardOpened_stand (16 + k) s _ (16 + k) (by decide)).trans
    (state_written (by omega) (by decide) s)), ?_, ?_⟩
  · unfold guardOpened
    extract_lets u
    rw [(links_clnCause k 11 _).ln, ln_setLn_same (by omega)]
    rfl
  · rw [LaneCause, Nat.add_mod_left]
    exact clnCause_shows k (by decide) _

theorem guard_other {i k : Nat} (h : i ≠ k) {s : State} (hs : GuardActive (16 + k) s) :
    GuardActive (16 + k) (clnCause i 11 (guardOpened (16 + i) s)) := by
  obtain ⟨h1, h2, h3⟩ := hs
  refine ⟨?_, ?_, clnCause_keeps (by decide) i 11 ?_⟩
  · exact (clnCause_stand i 11 _ _ _ (by decide)).trans ((guardOpened_stand (16 + i) s _ (16 + k) (by decide)).trans
      ((fieldOf_setF_member s _ _ (by omega)).trans h1))
  · unfold guardOpened
    extract_lets u
    rw [(links_clnCause i 11 _).ln, ln_setLn_other (by omega), (guardCells_links ..).ln, (guardShown_links ..).ln, h2]
  · exact (congrArg (bitOf · 11) (guardOpened_field (fl := ⟨R.CLN_LANEEV, 0, 14⟩) (by decide) (16 + i) _ s)).trans h3

/-- A guard lane that monitors cells of its own. -/
def GuardReady (j : Nat) (s : State) : Prop := fieldOf s.regs Fl.CLN_LANESTAT_STATE j = 5 ∧ s.laneSlots j ≠ []

theorem laneSlots_congr {s u : State} (hv : ∀ c,
  fieldOf u.regs Fl.CLN_CELLMAP_VALID c = fieldOf s.regs Fl.CLN_CELLMAP_VALID c)
    (hl : ∀ c, fieldOf u.regs Fl.CLN_CELLMAP_LANE c = fieldOf s.regs Fl.CLN_CELLMAP_LANE c) (j : Nat) :
    u.laneSlots j = s.laneSlots j := by
  have h : ∀ c, (u.b Fl.CLN_CELLMAP_VALID c && u.mapLane c == j) = (s.b Fl.CLN_CELLMAP_VALID c && s.mapLane c == j) :=
    fun c => by rw [State.mapLane, State.mapLane, b_of_field (hv c), f_of_field (hl c)]
  rw [State.laneSlots, State.laneSlots]
  exact List.filter_congr fun c _ => h c

theorem guard_waits {i k : Nat} (h : i ≠ k) {s : State} (hs : GuardReady (16 + k) s) :
    GuardReady (16 + k) (clnCause i 11 (guardOpened (16 + i) s)) := by
  obtain ⟨h1, h2⟩ := hs
  refine ⟨?_, ?_⟩
  · exact (clnCause_stand i 11 _ _ _ (by decide)).trans ((guardOpened_stand (16 + i) s _ (16 + k) (by decide)).trans
      ((fieldOf_setF_member s _ _ (by omega)).trans h1))
  · have hf : ∀ fl ∈ [Fl.CLN_CELLMAP_VALID, Fl.CLN_CELLMAP_LANE], fldsApart eventFlds fl = true ∧
        fldsApart (Fl.CLN_LANESTAT_STATE :: guardFlds) fl = true := by decide
    have hkept : ∀ fl ∈ [Fl.CLN_CELLMAP_VALID, Fl.CLN_CELLMAP_LANE], ∀ c,
        fieldOf (clnCause i 11 (guardOpened (16 + i) s)).regs fl c = fieldOf s.regs fl c := fun fl hfl c =>
      (clnCause_stand i 11 _ fl c (hf fl hfl).1).trans (guardOpened_field (hf fl hfl).2 (16 + i) c s)
    rw [laneSlots_congr (hkept _ (by decide)) (hkept _ (by decide))]
    exact h2

theorem guard_activates {j : Nat} (hj : j < 32) (h16 : 16 ≤ j) {s : State} (h : Monitors j s)
    (hg : s.f Fl.RNG_STAT_GUEST = 1) (hl : s.laneSlots j ≠ []) : Answers .guardTakeover s fun t =>
      t.laneSt j = 6 ∧ (t.ln j).take = 3 ∧ LaneCause j 11 t := by
  obtain ⟨k, rfl⟩ : ∃ k, j = 16 + k := ⟨j - 16, by omega⟩
  have hk : k < 16 := by omega
  have he : exec .guardTakeover s = done (s.each 16 guardActivate) := congrArg done (if_pos (b_true hg))
  have hend : GuardActive (16 + k) (s.each 16 guardActivate) := by
    refine State.each_once (f := guardActivate) (R := GuardReady (16 + k)) (Q := GuardActive (16 + k)) hk
      (fun i u hi hu => ?_) (fun i u hi hu => ?_) (fun u hu => ?_) ⟨h, hl⟩
    · rw [guardActivate_eq]
      split
      · exact hu
      · exact guard_waits hi hu
    · rw [guardActivate_eq]
      split
      · exact hu
      · exact guard_other hi hu
    · obtain ⟨h5, hne⟩ := hu
      have hst : u.laneSt (16 + k) = 5 := h5
      rw [guardActivate_eq, hst, if_neg]
      · exact guard_own hk u
      · rw [Bool.or_eq_true, List.isEmpty_iff]
        rintro (hn | hn)
        · exact hne hn
        · exact absurd hn (by decide)
  obtain ⟨h1, h2, h3⟩ := hend
  exact answers_done he ⟨settle_state h1, by rw [settle_ln, h2], h3.settle⟩

/-- Settles O26: the traffic of a lane, each clause from the lemma of its command. -/
theorem laneTraffic : Obligations.LaneTraffic := by
  intro j s hj cause
  refine ⟨fun hx hs => ⟨fun pos l => telemetry_violation hj l ⟨hx, hs⟩, fun pos l hl => telemetry_bad hj hl ⟨hx, hs⟩,
      fun pos l h1 h2 hp h3 => telemetry_good hj ⟨hx, hs⟩ (frame_fits h1 h2 hp h3), exchange_ends hj ⟨hx, hs⟩⟩,
    fun c hc hl => ⟨cell_lost hc hl, cell_asked_back hc hj hl, readmission_ends hc hj hl⟩, threshold_shown hj,
    fun mask => counters_clear hj mask s, fun hb hl => ⟨fun h1 h2 hu => mgmt_waits ⟨hb, hl⟩ h1 h2 hu,
      fun h1 h2 hu => mgmt_lane_down ⟨hb, hl⟩ h1 h2 hu, mgmt_length ⟨hb, hl⟩⟩, fun hb => mgmt_responds hb,
    fun pos h => mgmt_times_out hj h, fun h16 h5 => ⟨guard_activates hj h16 h5, guard_falls_silent hj h16 h5,
      guard_hears hj h16 h5⟩⟩

end Sys2Proof.Machine

/-! ## Port groups: the state of a group, its causes, its mode (R196, R217 to R232) -/

namespace Sys2Proof.Machine

set_option Elab.async false

/-! ### What the engine's admission reads -/

/-- Registers that the engine's load and launch are computed from. -/
def engineRegs : List Rg := [R.LPE_BATCH, R.LPE_GROUP, R.LPE_TAKE, R.LPE_LAUNCH]

/-- The engine's state and configuration stand. -/
def EngineStands (s u : State) : Prop :=
  u.lpe = s.lpe ∧ ∀ r ∈ engineRegs, ∀ i, regOf u.regs r i = regOf s.regs r i

section Engine

variable {s u : State} (h : EngineStands s u)

include h

theorem EngineStands.field {fl : Fld} (hf : fl.reg ∈ engineRegs) (i : Nat) : u.f fl i = s.f fl i :=
  congrArg (bitsOf · fl.lsb fl.width) (h.2 _ hf i)

theorem EngineStands.bit {fl : Fld} (hf : fl.reg ∈ engineRegs) (i : Nat) : u.b fl i = s.b fl i :=
  b_of_field (h.field hf i)

theorem EngineStands.setReg {r : Rg} (hr : r ∈ engineRegs) (i : Nat) (v : Word) :
    EngineStands (s.setReg r i v) (u.setReg r i v) := by
  refine ⟨by rw [State.setReg_lpe, State.setReg_lpe, h.1], fun r' hr' i' => ?_⟩
  by_cases hrr : r = r'
  · subst hrr
    by_cases hi : i = i'
    · subst hi
      by_cases hc : i < r.count
      · rw [regOf_setReg_same u r i v hc, regOf_setReg_same s r i v hc]
      · have hno : ∀ w : State, w.setReg r i v = w := fun w => if_neg hc
        rw [hno, hno]
        exact h.2 r hr' i
    · rw [regOf_setReg_member u r v hi, regOf_setReg_member s r v hi]
      exact h.2 r hr' i'
  · have hall : ∀ r ∈ engineRegs, ∀ r' ∈ engineRegs, r ≠ r' → r.apart r' = true := by decide
    have ha := hall r hr r' hr' hrr
    rw [regOf_setReg_apart u r r' i i' v ha, regOf_setReg_apart s r r' i i' v ha]
    exact h.2 r' hr' i'

theorem EngineStands.setF {fl : Fld} (hf : fl.reg ∈ engineRegs) (i v : Nat) :
    EngineStands (s.setF fl i v) (u.setF fl i v) := by
  have hw : u.reg fl.reg i = s.reg fl.reg i := h.2 _ hf i
  rw [State.setF, State.setF, hw]
  exact h.setReg hf i _

theorem EngineStands.kernelWord (k w : Nat) : u.kernelWord k w = s.kernelWord k w := by
  rw [State.kernelWord, State.kernelWord, h.1]

theorem EngineStands.kernelLen (k : Nat) : u.kernelLen k = s.kernelLen k :=
  congrArg (bitsOf · 0 8) (h.kernelWord k 0)

theorem EngineStands.kernelCheck (k : Nat) : u.kernelCheck k = s.kernelCheck k := by
  have hw : u.kernelWord k = s.kernelWord k := funext (h.kernelWord k)
  rw [State.kernelCheck, State.kernelCheck, h.kernelLen, hw]

theorem EngineStands.batchOn (b : Nat) : u.batchOn b = s.batchOn b := by
  rw [State.batchOn, State.batchOn, h.bit (fl := Fl.LPE_BATCH_EN) (by decide),
    h.bit (fl := Fl.LPE_TAKE_ACTIVE) (by decide)]

theorem EngineStands.batchCost (b : Nat) : u.batchCost b = s.batchCost b := by
  rw [State.batchCost, State.batchCost, h.field (fl := Fl.LPE_BATCH_KERNEL) (by decide), h.kernelLen]

theorem EngineStands.groupCost (g : Nat) : u.groupCost u.batchOn g = s.groupCost s.batchOn g := by
  have hf : ∀ (c b : Nat), (if u.batchOn b && u.f Fl.LPE_BATCH_GROUP b == g then c + u.batchCost b else c) =
      if s.batchOn b && s.f Fl.LPE_BATCH_GROUP b == g then c + s.batchCost b else c := fun c b => by
    rw [h.batchOn, h.batchCost, h.field (fl := Fl.LPE_BATCH_GROUP) (by decide)]
  rw [State.groupCost, State.groupCost]
  exact congrArg (fun f => List.foldl f 0 (List.range 64)) (funext fun c => funext fun b => hf c b)

theorem EngineStands.groupRuns (g : Nat) : u.groupRuns g = s.groupRuns g := by
  rw [State.groupRuns, State.groupRuns, h.bit (fl := Fl.LPE_GROUP_EN) (by decide),
    h.bit (fl := Fl.LPE_TAKE_ACTIVE) (by decide)]

theorem EngineStands.effPeriod (g : Nat) : u.effPeriod g = s.effPeriod g := by
  rw [State.effPeriod, State.effPeriod, h.bit (fl := Fl.LPE_GROUP_HALF) (by decide),
    h.field (fl := Fl.LPE_GROUP_PERIOD) (by decide), State.lg, State.lg, h.1]

theorem EngineStands.load : u.load = s.load := by
  have hf : ∀ (w g : Nat), (if u.groupRuns g then w + ceilDiv (65536 * u.groupCost u.batchOn g) (u.effPeriod g) else
    w) =
      if s.groupRuns g then w + ceilDiv (65536 * s.groupCost s.batchOn g) (s.effPeriod g) else w := fun w g => by
    rw [h.groupRuns, h.groupCost, h.effPeriod]
  rw [State.load, State.load]
  exact congrArg (fun f => List.foldl f 0 (List.range 8)) (funext fun w => funext fun g => hf w g)

theorem EngineStands.longest : u.longest = s.longest := by
  have hf : ∀ (m b : Nat), (if u.batchOn b then max m (u.batchCost b) else m) =
      if s.batchOn b then max m (s.batchCost b) else m := fun m b => by rw [h.batchOn, h.batchCost]
  rw [State.longest, State.longest]
  exact congrArg (fun f => List.foldl f 0 (List.range 64)) (funext fun m => funext fun b => hf m b)

theorem EngineStands.admits : (u.loadOk && u.launchOk) = (s.loadOk && s.launchOk) := by
  rw [State.loadOk, State.loadOk, State.launchOk, State.launchOk, h.load, h.longest,
    h.field (fl := Fl.LPE_LAUNCH_OFFSET) (by decide)]

end Engine

theorem EngineStands.kernels {s u : State} (h : EngineStands s u) (k : Nat) (l : List Nat) :
    EngineStands (s.eachOf l fun b s => s.setF Fl.LPE_BATCH_KERNEL b k) (u.eachOf l fun b s =>
      s.setF Fl.LPE_BATCH_KERNEL b k) := by
  induction l generalizing s u with
  | nil => exact h
  | cons b l ih => exact ih (h.setF (by decide) b k)

theorem EngineStands.kernelsFit {s u : State} (h : EngineStands s u) (l : List Nat) (k : Nat) :
    u.kernelsFit l k = s.kernelsFit l k := by
  unfold State.kernelsFit
  dsimp only
  rw [h.kernelCheck, Bool.and_assoc, Bool.and_assoc, (h.kernels k l).admits]

end Sys2Proof.Machine

/-! ## Port groups: a group's state, its causes and its mode (R196, R217 to R232) -/

namespace Sys2Proof.Machine

set_option Elab.async false

/-! ### The group's own data -/

theorem pg_of_prt {s u : State} (h : u.prt = s.prt) (g : Nat) : u.pg g = s.pg g := by rw [State.pg, State.pg, h]

theorem pg_setPg_same {g : Nat} (hg : g < 80) (s : State) (f : PrtGroup → PrtGroup) : (s.setPg g f).pg g = f (s.pg g) :=
  memberOf_set_same s.prt.group _ {} hg

theorem setPg_regs (g : Nat) (f : PrtGroup → PrtGroup) (s : State) : (s.setPg g f).regs = s.regs := rfl

theorem gst_setPg (g i : Nat) (f : PrtGroup → PrtGroup) (s : State) : (s.setPg g f).gst i = s.gst i := rfl

theorem bleeder_prt (g : Nat) (on : Bool) (s : State) : (bleeder g on s).prt = s.prt :=
  State.prt_of_without (A := butPrt) (bleeder_writes rfl rfl g on s) rfl

theorem prtCause_prt (j g : Nat) (s : State) : (prtCause j g s).prt = s.prt :=
  State.prt_of_without (A := butPrt) (prtCause_writes rfl rfl j g s) rfl

/-! ### Causes -/

/-- Group `g` shows cause `j`. -/
def GroupCause (g j : Nat) (s : State) : Prop := bitOf (fieldOf s.regs ⟨R.PRT_GCAUSE, 0, 29⟩ g) j = true

theorem GroupCause.field {g j : Nat} {s u : State} (h : GroupCause g j s)
    (hf : fieldOf u.regs ⟨R.PRT_GCAUSE, 0, 29⟩ g = fieldOf s.regs ⟨R.PRT_GCAUSE, 0, 29⟩ g) : GroupCause g j u :=
  (congrArg (bitOf · j) hf).trans h

theorem raised_field {fl : Fld} (h : Fl.EVT_PEND_PEND.apart fl = true) (c : Prop) [Decidable c] (n i : Nat) (s :
  State) :
    fieldOf (if c then s.raise n else s).regs fl i = fieldOf s.regs fl i := by
  split
  · exact fieldOf_raise s fl n i h
  · rfl

theorem prtCause_shows {g : Nat} (hg : g < 80) {j : Nat} (hj : j < 29) (s : State) : GroupCause g j (prtCause j g s)
  := by
  unfold prtCause
  dsimp only
  exact (congrArg (bitOf · j) (raised_field (by decide) _ _ g _)).trans
    (bitOf_setFBit_same s ⟨R.PRT_GCAUSE, 0, 29⟩ g j true (lt_of_lt_of_le hg (by decide)) (by decide) hj)

theorem prtCause_keeps {g : Nat} (hg : g < 80) {j : Nat} (hj : j < 29) (k : Nat) {s : State} (h : GroupCause g j s) :
    GroupCause g j (prtCause k g s) := by
  have hb : bitOf ((s.setFBit ⟨R.PRT_GCAUSE, 0, 29⟩ g k true).f ⟨R.PRT_GCAUSE, 0, 29⟩ g) j = true := by
    have hs : bitOf (s.f ⟨R.PRT_GCAUSE, 0, 29⟩ g) j = true := h
    rw [testBit_setFBit s ⟨R.PRT_GCAUSE, 0, 29⟩ g k j (lt_of_lt_of_le hg (by decide)) (by decide) hj, hs]
    rfl
  unfold prtCause
  dsimp only
  exact (congrArg (bitOf · j) (raised_field (by decide) _ _ g _)).trans hb

/-! ### Moving a group to a state -/

theorem bleeder_field {fl : Fld} (h : (!regsIn [R.LSW_CHSTAT] fl.reg.addr && decide (fl.reg.count ≤ 65536)) = true)
    (g i : Nat) (on : Bool) (s : State) : fieldOf (bleeder g on s).regs fl i = fieldOf s.regs fl i :=
  fieldOf_of_without (bleeder_writes (P := { regs := regsIn [R.LSW_CHSTAT], lsw := true }) (by decide) rfl g on s) i h

/-- A group leaves its state for `st`. -/
def stateLeft (g st : Nat) (s : State) : State :=
  let s := s.when (s.gst g == gDischarge) (bleeder g false)
  let s := prtCause 0 g (s.setF Fl.PRT_GSTAT_STATE g st)
  s.when (st == gDischarge) (bleeder g true)

/-- The group's state at rest. -/
def restGroup (x : PrtGroup) : PrtGroup :=
  { x with fracI := 0, fracV := 0, lastRef := 0, short := false, preStep := 0, forced := false,
           bleedOnly := false, weldStep := 0 }

/-- A group comes to rest. -/
def groupRested (g : Nat) (s : State) : State :=
  (s.setF Fl.PRT_GSTAT_REEFREQ g 0 |>.setF Fl.PRT_IAPP_IAPP g 0 |>.setF Fl.PRT_VAPP_VAPP g 0).setPg g restGroup

theorem toState_eq (g st : Nat) (s : State) : toState g st s =
    if s.gst g == st then s else if st == gOff then groupRested g (stateLeft g st s) else stateLeft g st s := rfl

theorem when_bleeder_field {fl : Fld} (h : (!regsIn [R.LSW_CHSTAT] fl.reg.addr && decide (fl.reg.count ≤ 65536)) = true)
    (c : Bool) (g i : Nat) (on : Bool) (s : State) :
    fieldOf (s.when c (bleeder g on)).regs fl i = fieldOf s.regs fl i :=
  State.when_cases (P := fun u => fieldOf u.regs fl i = fieldOf s.regs fl i) (fun _ => rfl) fun _ =>
    bleeder_field h g i on s

theorem when_bleeder_prt (c : Bool) (g : Nat) (on : Bool) (s : State) : (s.when c (bleeder g on)).prt = s.prt :=
  State.when_cases (P := fun u => u.prt = s.prt) (fun _ => rfl) fun _ => bleeder_prt g on s

theorem state_fits {g st : Nat} (hg : g < 80) (hst : st < 16) (s : State) :
    fieldOf (s.setF Fl.PRT_GSTAT_STATE g st).regs Fl.PRT_GSTAT_STATE g = st :=
  fieldOf_setF_fits s Fl.PRT_GSTAT_STATE g st (lt_of_lt_of_le hg (by decide)) (by decide) (lt_of_lt_of_le hst (by
    decide))

theorem stateLeft_gst {g st : Nat} (hg : g < 80) (hst : st < 16) (s : State) : (stateLeft g st s).gst g = st := by
  unfold stateLeft
  extract_lets s1 s2
  exact (when_bleeder_field (fl := Fl.PRT_GSTAT_STATE) (by decide) _ g g true s2).trans
    ((fieldOf_prtCause 0 g g _ (by decide)).trans (state_fits hg hst s1))

theorem stateLeft_prt (g st : Nat) (s : State) : (stateLeft g st s).prt = s.prt := by
  unfold stateLeft
  extract_lets s1 s2
  have h1 : s1.prt = s.prt := when_bleeder_prt _ g false s
  have h2 : s2.prt = s1.prt := (prtCause_prt 0 g _).trans (State.setF_prt ..)
  exact (when_bleeder_prt _ g true s2).trans (h2.trans h1)

theorem stateLeft_cause {g : Nat} (hg : g < 80) (st : Nat) (s : State) : GroupCause g 0 (stateLeft g st s) := by
  unfold stateLeft
  extract_lets s1 s2
  exact (prtCause_shows hg (by decide) (s1.setF Fl.PRT_GSTAT_STATE g st)).field
    (when_bleeder_field (by decide) _ g g true s2)

theorem stateLeft_keeps {g : Nat} (hg : g < 80) (st : Nat) {j : Nat} (hj : j < 29) {s : State} (h : GroupCause g j s) :
    GroupCause g j (stateLeft g st s) := by
  unfold stateLeft
  extract_lets s1 s2
  have h1 : GroupCause g j s1 := h.field (when_bleeder_field (by decide) _ g g false s)
  have h2 : GroupCause g j s2 := prtCause_keeps hg hj 0 (h1.field
    (fieldOf_setF_apart s1 Fl.PRT_GSTAT_STATE ⟨R.PRT_GCAUSE, 0, 29⟩ g g st (by decide)))
  exact h2.field (when_bleeder_field (by decide) _ g g true s2)

theorem groupRested_field {fl : Fld} (h : fldsApart [Fl.PRT_GSTAT_REEFREQ, Fl.PRT_IAPP_IAPP,
  Fl.PRT_VAPP_VAPP] fl = true)
    (g i : Nat) (s : State) : fieldOf (groupRested g s).regs fl i = fieldOf s.regs fl i := by
  unfold groupRested
  rw [setPg_regs]
  exact (fieldOf_setF_apart _ _ fl g i 0 (apart_of_mem h (by decide))).trans
    ((fieldOf_setF_apart _ _ fl g i 0 (apart_of_mem h (by decide))).trans
      (fieldOf_setF_apart s _ fl g i 0 (apart_of_mem h (by decide))))

theorem groupRested_pg {g : Nat} (hg : g < 80) (s : State) : (groupRested g s).pg g = restGroup (s.pg g) := by
  unfold groupRested
  rw [pg_setPg_same hg]
  exact congrArg restGroup (pg_of_prt ((State.setF_prt ..).trans ((State.setF_prt ..).trans (State.setF_prt ..))) g)

theorem groupRested_reef {g : Nat} (hg : g < 80) (s : State) :
    fieldOf (groupRested g s).regs Fl.PRT_GSTAT_REEFREQ g = 0 := by
  unfold groupRested
  rw [setPg_regs]
  exact (fieldOf_setF_apart _ Fl.PRT_VAPP_VAPP Fl.PRT_GSTAT_REEFREQ g g 0 (by decide)).trans
    ((fieldOf_setF_apart _ Fl.PRT_IAPP_IAPP Fl.PRT_GSTAT_REEFREQ g g 0 (by decide)).trans
      (fieldOf_setF_fits s Fl.PRT_GSTAT_REEFREQ g 0 (lt_of_lt_of_le hg (by decide)) (by decide) (by decide)))

theorem toState_gst {g st : Nat} (hg : g < 80) (hst : st < 16) (s : State) : (toState g st s).gst g = st := by
  rw [toState_eq]
  split
  next h => exact beq_iff_eq.mp h
  · split
    · exact (groupRested_field (by decide) g g _).trans (stateLeft_gst hg hst s)
    · exact stateLeft_gst hg hst s

theorem toState_prt {g st : Nat} (h : st ≠ gOff) (s : State) : (toState g st s).prt = s.prt := by
  rw [toState_eq]
  split
  · rfl
  · rw [if_neg (by rw [beq_iff_eq]; exact h)]
    exact stateLeft_prt g st s

theorem toState_pend {g : Nat} (hg : g < 80) (st : Nat) (s : State) :
    ((toState g st s).pg g).pendCmd = (s.pg g).pendCmd := by
  rw [toState_eq]
  split
  · rfl
  · split
    · rw [groupRested_pg hg, pg_of_prt (stateLeft_prt g st s)]
      rfl
    · rw [pg_of_prt (stateLeft_prt g st s)]

theorem toState_reef {g : Nat} (hg : g < 80) {s : State} (h : s.gst g ≠ gOff) :
    fieldOf (toState g gOff s).regs Fl.PRT_GSTAT_REEFREQ g = 0 := by
  rw [toState_eq, if_neg (by rw [beq_iff_eq]; exact h), if_pos (beq_self_eq_true _)]
  exact groupRested_reef hg _

theorem toState_cause {g st : Nat} (hg : g < 80) {s : State} (h : s.gst g ≠ st) : GroupCause g 0 (toState g st s) := by
  rw [toState_eq, if_neg (by rw [beq_iff_eq]; exact h)]
  split
  · exact (stateLeft_cause hg st s).field (groupRested_field (by decide) g g _)
  · exact stateLeft_cause hg st s

theorem toState_keeps {g : Nat} (hg : g < 80) (st : Nat) {j : Nat} (hj : j < 29) {s : State} (h : GroupCause g j s) :
    GroupCause g j (toState g st s) := by
  rw [toState_eq]
  split
  · exact h
  · split
    · exact (stateLeft_keeps hg st hj h).field (groupRested_field (by decide) g g _)
    · exact stateLeft_keeps hg st hj h

/-- Registers that a change of a group's state writes. -/
def stateRegs : List Rg := [R.EVT_PEND, R.LSW_CHSTAT, R.PRT_GCAUSE, R.PRT_GSTAT, R.PRT_IAPP, R.PRT_VAPP]

theorem toState_field {fl : Fld} (h : (!regsIn stateRegs fl.reg.addr && decide (fl.reg.count ≤ 65536)) = true)
    (g st i : Nat) (s : State) : fieldOf (toState g st s).regs fl i = fieldOf s.regs fl i :=
  fieldOf_of_without (toState_writes (P := { regs := regsIn stateRegs, lsw := true, prt := true }) (by decide)
    (by decide) (by decide) (by decide) (by decide) (by decide) rfl rfl g st s) i h

theorem engine_toState (g st : Nat) (s : State) : EngineStands s (toState g st s) := by
  have hall : ∀ r ∈ engineRegs, (!regsIn stateRegs r.addr && decide (r.count ≤ 65536)) = true := by decide
  have hw := toState_writes (P := { regs := regsIn stateRegs, lsw := true, prt := true }) (by decide) (by decide)
    (by decide) (by decide) (by decide) (by decide) rfl rfl g st s
  exact ⟨State.lpe_of_without hw rfl, fun r hr i => regOf_of_without hw i (hall r hr)⟩

/-! ### The kernels of a group's mode -/

theorem batchKernel_prt (k b : Nat) (s : State) : (batchKernel k b s).prt = s.prt :=
  State.prt_of_without (A := butPrt) (batchKernel_writes rfl rfl rfl rfl rfl rfl rfl k b s) rfl

/-- Registers that a kernel change writes. -/
def kernelRegs : List Rg := [R.EVT_PEND, R.LPE_BATCH, R.LPE_BSTAT, R.LPE_LOAD, R.LPE_STAT, R.LPE_TLOAD]

theorem batchKernel_field {fl : Fld} (h : (!regsIn kernelRegs fl.reg.addr && decide (fl.reg.count ≤ 65536)) = true)
    (k b i : Nat) (s : State) : fieldOf (batchKernel k b s).regs fl i = fieldOf s.regs fl i :=
  fieldOf_onlyRegs (l := kernelRegs) (batchKernel_writes (by decide) (by decide) (by decide) (by decide) (by decide)
    (by decide) rfl k b s) i h

/-- The batches of a group take kernel `k`. -/
def kernelsTaken (l : List Nat) (k : Nat) (s : State) : State := s.eachOf l (batchKernel k)

theorem kernelsTaken_prt (l : List Nat) (k : Nat) (s : State) : (kernelsTaken l k s).prt = s.prt :=
  State.eachOf_induct (P := fun u => u.prt = s.prt) (fun b u hu => (batchKernel_prt k b u).trans hu) rfl l

theorem kernelsTaken_field {fl : Fld} (h : (!regsIn kernelRegs fl.reg.addr && decide (fl.reg.count ≤ 65536)) = true)
    (l : List Nat) (k i : Nat) (s : State) : fieldOf (kernelsTaken l k s).regs fl i = fieldOf s.regs fl i :=
  State.eachOf_induct (P := fun u => fieldOf u.regs fl i = fieldOf s.regs fl i)
    (fun b u hu => (batchKernel_field h k b i u).trans hu) rfl l

/-- The kernel of a mode. -/
def modeKernel (g : Nat) (volt : Bool) (s : State) : Nat :=
  s.f (if volt then Fl.PRT_GCFG_KVOLT else Fl.PRT_GCFG_KCUR) g

/-- The group has the mode, or its kernel change is admitted. -/
def ModeFits (g : Nat) (volt : Bool) (s : State) : Prop :=
  (s.pg g).voltMode = volt ∨ s.kernelsFit (s.groupBatches g) (modeKernel g volt s) = true

theorem setMode_eq (g : Nat) (volt : Bool) (s : State) : setMode g volt s =
    if (s.pg g).voltMode == volt then s
    else if s.kernelsFit (s.groupBatches g) (modeKernel g volt s) then
      (kernelsTaken (s.groupBatches g) (modeKernel g volt s) s).setPg g fun x => { x with voltMode := volt }
    else groupStopAct g (prtCause 26 g s) := rfl

/-- The group's state stands, and it runs in mode `volt`. -/
def ModeTaken (g : Nat) (volt : Bool) (s u : State) : Prop :=
  u.gst g = s.gst g ∧ u.pg g = { s.pg g with voltMode := volt }

theorem setMode_takes {g : Nat} (hg : g < 80) {volt : Bool} {s : State} (h : ModeFits g volt s) :
    ModeTaken g volt s (setMode g volt s) := by
  rw [setMode_eq]
  split
  next hv =>
    rw [← beq_iff_eq.mp hv]
    exact ⟨rfl, rfl⟩
  next hv =>
    have hk := h.resolve_left (fun hc => hv (beq_iff_eq.mpr hc))
    rw [if_pos hk]
    generalize s.groupBatches g = l
    generalize modeKernel g volt s = k
    refine ⟨?_, ?_⟩
    · rw [gst_setPg]
      exact kernelsTaken_field (fl := Fl.PRT_GSTAT_STATE) (by decide) l k g s
    · rw [pg_setPg_same hg, pg_of_prt (kernelsTaken_prt l k s)]

/-- States in which a stop does nothing. -/
def StopQuiet (st : Nat) : Prop := st < 2 ∨ 6 < st

theorem groupStopAct_quiet {g : Nat} {s : State} (h : StopQuiet (s.gst g)) : groupStopAct g s = s := by
  unfold groupStopAct
  generalize s.gst g = st at h
  rcases h with h | h
  · interval_cases st <;> rfl
  · split
    · omega
    · omega
    · omega
    · omega
    · omega
    · rfl

theorem setMode_gst {g : Nat} (volt : Bool) {s : State} (h : StopQuiet (s.gst g)) : (setMode g volt s).gst g = s.gst g
  := by
  have hc : (prtCause 26 g s).gst g = s.gst g := fieldOf_prtCause (fl := Fl.PRT_GSTAT_STATE) 26 g g s (by decide)
  rw [setMode_eq]
  split
  · rfl
  · split
    · rw [gst_setPg]
      generalize s.groupBatches g = l
      generalize modeKernel g volt s = k
      exact kernelsTaken_field (fl := Fl.PRT_GSTAT_STATE) (by decide) l k g s
    · rw [groupStopAct_quiet (by rw [hc]; exact h), hc]

theorem groupBatches_congr {s u : State} (h : ∀ c,
  fieldOf u.regs Fl.PRT_CELL_GROUP c = fieldOf s.regs Fl.PRT_CELL_GROUP c)
    (g : Nat) : u.groupBatches g = s.groupBatches g := by
  have ha : u.assigned g = s.assigned g := List.filter_congr fun c _ => by rw [f_of_field (h c)]
  rw [State.groupBatches, State.groupBatches, ha]

/-- What a mode change reads of the registers. -/
def modeFlds : List Fld := [Fl.PRT_CELL_GROUP, Fl.PRT_GCFG_KVOLT, Fl.PRT_GCFG_KCUR]

theorem ModeFits.congr {g : Nat} {volt : Bool} {s u : State} (h : ModeFits g volt s)
    (hv : (u.pg g).voltMode = (s.pg g).voltMode) (he : EngineStands s u)
    (hf : ∀ fl ∈ modeFlds, ∀ i, fieldOf u.regs fl i = fieldOf s.regs fl i) : ModeFits g volt u := by
  have hk : modeKernel g volt u = modeKernel g volt s := by
    cases volt
    · exact hf Fl.PRT_GCFG_KCUR (by decide) g
    · exact hf Fl.PRT_GCFG_KVOLT (by decide) g
  have hb := groupBatches_congr (hf Fl.PRT_CELL_GROUP (by decide)) g
  rw [ModeFits, hk, hb, he.kernelsFit, hv]
  exact h

theorem ModeFits.toState {g st : Nat} {volt : Bool} {s : State} (hst : st ≠ gOff) (h : ModeFits g volt s) :
    ModeFits g volt (toState g st s) := by
  have hall : ∀ fl ∈ modeFlds, (!regsIn stateRegs fl.reg.addr && decide (fl.reg.count ≤ 65536)) = true := by decide
  exact h.congr (by rw [pg_of_prt (toState_prt hst s)]) (engine_toState g st s)
    fun fl hf i => toState_field (hall fl hf) g st i s

/-! ### Contactors -/

theorem openRequest_prt (p : Nat) (pos neg : Bool) (s : State) : (openRequest p pos neg s).prt = s.prt :=
  State.prt_of_without (A := butPrt) (openRequest_writes rfl rfl p pos neg s) rfl

theorem openRequest_group {fl : Fld} (h : (!regsIn [R.SFY_COIL, R.SFY_PSTAT] fl.reg.addr &&
    decide (fl.reg.count ≤ 65536)) = true) (p i : Nat) (pos neg : Bool) (s : State) :
    fieldOf (openRequest p pos neg s).regs fl i = fieldOf s.regs fl i :=
  fieldOf_onlyRegs (l := [R.SFY_COIL, R.SFY_PSTAT]) (openRequest_writes (by decide) (by decide) p pos neg s) i h

theorem askClose_prt (g : Nat) (s : State) : (askClose g s).prt = s.prt :=
  State.prt_of_without (A := butPrt) (askClose_writes rfl rfl rfl rfl g s) rfl

theorem askClose_field {fl : Fld} (h : (!regsIn [R.EVT_PEND, R.SFY_COIL, R.SFY_PSTAT, R.SFY_STAT] fl.reg.addr &&
    decide (fl.reg.count ≤ 65536)) = true) (g i : Nat) (s : State) :
    fieldOf (askClose g s).regs fl i = fieldOf s.regs fl i :=
  fieldOf_onlyRegs (l := [R.EVT_PEND, R.SFY_COIL, R.SFY_PSTAT, R.SFY_STAT])
    (askClose_writes (by decide) (by decide) (by decide) (by decide) g s) i h

/-- The contactors of group `g` are asked to open. -/
def openGroup (g : Nat) (s : State) : State :=
  match groupPort g with | none => s | some p => openRequest p true true s

theorem openGroup_prt (g : Nat) (s : State) : (openGroup g s).prt = s.prt := by
  unfold openGroup
  split
  · rfl
  · exact openRequest_prt ..

theorem openGroup_field {fl : Fld} (h : (!regsIn [R.SFY_COIL, R.SFY_PSTAT] fl.reg.addr &&
    decide (fl.reg.count ≤ 65536)) = true) (g i : Nat) (s : State) :
    fieldOf (openGroup g s).regs fl i = fieldOf s.regs fl i := by
  unfold openGroup
  split
  · rfl
  · exact openRequest_group h ..

theorem toOpening_eq (g : Nat) (s : State) : toOpening g s = openGroup g (toState g gOpening s) := rfl

theorem toFault_eq (cause g : Nat) (s : State) : toFault cause g s =
    openGroup g (toState g gFault (prtCause cause g s)) := rfl

theorem toOpening_gst {g : Nat} (hg : g < 80) (s : State) : (toOpening g s).gst g = gOpening :=
  (openGroup_field (fl := Fl.PRT_GSTAT_STATE) (by decide) g g _).trans (toState_gst hg (by decide) s)

theorem toOpening_pg (g : Nat) (s : State) : (toOpening g s).pg g = s.pg g :=
  pg_of_prt ((openGroup_prt g _).trans (toState_prt (by decide) s)) g

theorem toFault_faults {g : Nat} (hg : g < 80) {cause : Nat} (hc : cause < 29) (s : State) :
    (toFault cause g s).gst g = gFault ∧ GroupCause g cause (toFault cause g s) :=
  ⟨(openGroup_field (fl := Fl.PRT_GSTAT_STATE) (by decide) g g _).trans (toState_gst hg (by decide) _),
    (toState_keeps hg gFault hc (prtCause_shows hg hc s)).field (openGroup_field (by decide) g g _)⟩

theorem toDischarge_discharges {g : Nat} (hg : g < 80) (s : State) : (toDischarge g s).gst g = gDischarge ∧
    (toDischarge g s).pg g = { s.pg g with discStart := s.now, preStep := 0 } :=
  ⟨toState_gst hg (by decide) _, (pg_of_prt (toState_prt (by decide) _) g).trans (pg_setPg_same hg s _)⟩

end Sys2Proof.Machine

/-! ## The commands of a port group (R196, R217 to R229) -/

namespace Sys2Proof.Machine

set_option Elab.async false

/-! ### Enabling, assignment and reefs -/

theorem enable_written {g : Nat} (hg : g < 80) (v : Bool) (s : State) :
    fieldOf (s.setB Fl.PRT_GCFG_EN g v).regs Fl.PRT_GCFG_EN g = b2n v :=
  fieldOf_setB_same s Fl.PRT_GCFG_EN g v (lt_of_lt_of_le hg (by decide)) (by decide) (by decide)

theorem group_asked {g : Nat} (hg : g < 80) {s : State} (h : s.f Fl.PRT_GCFG_EN g = 0) :
    Effect (.portGroupEnable g) s fun u =>
      if s.enableOk g then u.f Fl.PRT_GCFG_EN g = 1 else u.f Fl.PRT_GCFG_EN g = 0 ∧ GroupCause g 28 u := by
  have he : portGroupEnable g s = if s.enableOk g then showMembers g (s.setB Fl.PRT_GCFG_EN g true)
      else prtCause 28 g s := if_neg (by
    rw [b_false h, decide_eq_false (show ¬ 80 ≤ g by omega)]
    exact Bool.false_ne_true)
  cases hok : s.enableOk g with
  | true =>
    rw [hok, if_pos rfl] at he
    refine effect_done (congrArg done he) ?_
    rw [if_pos rfl]
    exact (fieldOf_setF_apart _ Fl.PRT_GSTAT_NCELL Fl.PRT_GCFG_EN g g _ (by decide)).trans (enable_written hg true s)
  | false =>
    rw [hok, if_neg Bool.false_ne_true] at he
    refine effect_done (congrArg done he) ?_
    rw [if_neg Bool.false_ne_true]
    exact ⟨(fieldOf_prtCause 28 g g s (by decide)).trans h, prtCause_shows hg (by decide) s⟩

/-- The members of a group are given no reference. -/
def membersFreed (l : List Nat) (s : State) : State := s.eachOf l fun c s => setCellIn c 7 0 (setCellIn c 6 0 s)

/-- The registers and the ports' data stand. -/
def PortsStand (s u : State) : Prop := u.regs = s.regs ∧ u.prt = s.prt

theorem membersFreed_stand (l : List Nat) (s : State) : PortsStand s (membersFreed l s) :=
  State.eachOf_induct (f := fun c s => setCellIn c 7 0 (setCellIn c 6 0 s)) (P := PortsStand s)
    (fun c u hu => ⟨((setCellIn_regs c 7 0 _).trans (setCellIn_regs c 6 0 u)).trans hu.1, hu.2⟩) ⟨rfl, rfl⟩ l

theorem dropPending_pg {g : Nat} (hg : g < 80) (s : State) : (dropPending g s).pg g = { s.pg g with pendCmd := none } :=
  (pg_of_prt (State.setB_prt ..) g).trans (pg_setPg_same hg s _)

theorem dropPending_gst (g : Nat) (s : State) : (dropPending g s).gst g = s.gst g :=
  fieldOf_setB_apart _ Fl.PRT_GSTAT_PEND Fl.PRT_GSTAT_STATE g g false (by decide)

theorem group_disabled {g : Nat} (hg : g < 80) {s : State} (h : s.f Fl.PRT_GCFG_EN g = 1) :
    Effect (.portGroupDisable g) s fun u => u.f Fl.PRT_GCFG_EN g = 0 ∧ u.gst g = gOff ∧ (u.pg g).pendCmd = none := by
  have he : portGroupDisable g s =
      (membersFreed (s.members g) (toState g gOff (dropPending g s))).setB Fl.PRT_GCFG_EN g false := if_neg (by
    rw [b_true h, decide_eq_false (show ¬ 80 ≤ g by omega)]
    exact Bool.false_ne_true)
  obtain ⟨hr, hp⟩ := membersFreed_stand (s.members g) (toState g gOff (dropPending g s))
  refine effect_done (congrArg done he) ⟨enable_written hg false _, ?_, ?_⟩
  · refine (fieldOf_setB_apart _ Fl.PRT_GCFG_EN Fl.PRT_GSTAT_STATE g g false (by decide)).trans ?_
    rw [hr]
    exact toState_gst hg (by decide) _
  · rw [pg_of_prt ((State.setB_prt ..).trans hp), toState_pend hg, dropPending_pg hg]

/-- Group `k` exists and is enabled. -/
def GroupOn (k : Nat) (s : State) : Prop := k < 80 ∧ s.f Fl.PRT_GCFG_EN k = 1

theorem groupOn_iff (k : Nat) (s : State) : (decide (k < 80) && s.b Fl.PRT_GCFG_EN k) = true ↔ GroupOn k s := by
  rw [Bool.and_eq_true, decide_eq_true_eq, GroupOn]
  refine and_congr_right fun _ => ⟨fun h => ?_, fun h => b_true h⟩
  rw [bool_field s Fl.PRT_GCFG_EN k rfl, h]
  rfl

theorem cellAssign_eq {c : Nat} (hc : c < 1024) (g : Nat) (s : State) : cellAssign c g s =
    if !(decide (s.f Fl.PRT_CELL_GROUP c < 80) && s.b Fl.PRT_GCFG_EN (s.f Fl.PRT_CELL_GROUP c)) &&
        !(decide (g < 80) && s.b Fl.PRT_GCFG_EN g) then s.setF Fl.PRT_CELL_GROUP c g else s := by
  unfold cellAssign
  rw [decide_eq_true hc]
  rfl

theorem cell_assigned {c g : Nat} (hc : c < 1024) (hg : g < 80) {s : State} (h1 : ¬ GroupOn (s.f Fl.PRT_CELL_GROUP c) s)
    (h2 : ¬ GroupOn g s) : Effect (.cellGroupAssign c g) s fun u => u.f Fl.PRT_CELL_GROUP c = g := by
  have he := (cellAssign_eq hc g s).trans (if_pos (by
    rw [Bool.eq_false_iff.mpr (mt (groupOn_iff _ s).mp h1), Bool.eq_false_iff.mpr (mt (groupOn_iff g s).mp h2)]
    rfl))
  exact effect_done (congrArg done he) (fieldOf_setF_fits s Fl.PRT_CELL_GROUP c g (lt_of_lt_of_le hc (by decide))
    (by decide) (lt_of_lt_of_le hg (by decide)))

theorem cell_stays {c g : Nat} (hc : c < 1024) {s : State} (h : GroupOn (s.f Fl.PRT_CELL_GROUP c) s ∨ GroupOn g s) :
    Effect (.cellGroupAssign c g) s fun u => u.f Fl.PRT_CELL_GROUP c = s.f Fl.PRT_CELL_GROUP c := by
  have he := (cellAssign_eq hc g s).trans (if_neg fun hn => by
    rw [Bool.and_eq_true, Bool.not_eq_true', Bool.not_eq_true'] at hn
    rcases h with h | h
    · exact absurd ((groupOn_iff _ s).mpr h) (Bool.eq_false_iff.mp hn.1)
    · exact absurd ((groupOn_iff g s).mpr h) (Bool.eq_false_iff.mp hn.2))
  exact effect_done (congrArg done he) rfl

theorem reef_cleared {g : Nat} (hg : g < 80) (s : State) :
    Effect (.groupClrreef g) s fun u => u.f Fl.PRT_GSTAT_REEFREQ g = 0 := by
  have he : groupCommand g 7 0 s = s.setF Fl.PRT_GSTAT_REEFREQ g 0 := by
    unfold groupCommand
    rw [decide_eq_false (show ¬ 80 ≤ g by omega)]
    exact (if_neg (by decide)).trans (if_pos (by decide))
  exact effect_done (congrArg done he) (fieldOf_setF_fits s Fl.PRT_GSTAT_REEFREQ g 0 (lt_of_lt_of_le hg (by decide))
    (by decide) (by decide))

/-! ### What a command leads to -/

/-- Group `g` is enabled and in state `st`. -/
def GroupIn (g st : Nat) (s : State) : Prop := s.f Fl.PRT_GCFG_EN g = 1 ∧ s.gst g = st

/-- The commands that act in OFF. -/
theorem command_in_off {g op : Nat} (hg : g < 80) (hop : op ∈ [1, 2,
  3]) (mode : Nat) {s : State} (h : GroupIn g gOff s) :
    groupCommand g op mode s = actInOff g op mode s := by
  obtain ⟨hen, hst⟩ := h
  unfold groupCommand
  rw [decide_eq_false (show ¬ 80 ≤ g by omega), hst, b_true hen]
  generalize actInOff g op mode s = u
  rcases List.mem_cons.mp hop with rfl | hop
  · rfl
  · rcases List.mem_cons.mp hop with rfl | hop
    · rfl
    · rw [List.mem_singleton.mp hop]
      rfl

theorem command_precharge {g : Nat} (hg : g < 80) {s : State} (h : GroupIn g gCheck s) :
    groupCommand g 2 0 s = toPrecharge g s := by
  obtain ⟨hen, hst⟩ := h
  unfold groupCommand
  rw [decide_eq_false (show ¬ 80 ≤ g by omega), hst, b_true hen]
  rfl

theorem command_run {g st : Nat} (hg : g < 80) (hs : st = gReady ∨ st = gZero) (mode : Nat) {s : State}
    (h : GroupIn g st s) : groupCommand g 3 mode s = toRun g mode s := by
  obtain ⟨hen, hst⟩ := h
  unfold groupCommand
  rw [decide_eq_false (show ¬ 80 ≤ g by omega), hst, b_true hen]
  rcases hs with rfl | rfl <;> rfl

theorem command_stop {g st : Nat} (hg : g < 80) (hs : st = gReady ∨ st = gRunI ∨ st = gRunV) {s : State}
    (h : GroupIn g st s) : groupCommand g 4 0 s = groupStopAct g (dropPending g s) := by
  obtain ⟨hen, hst⟩ := h
  unfold groupCommand
  rw [decide_eq_false (show ¬ 80 ≤ g by omega), hst, b_true hen]
  rcases hs with rfl | rfl | rfl <;> rfl

theorem command_stop_pending {g : Nat} (hg : g < 80) {s : State} (hen : s.f Fl.PRT_GCFG_EN g = 1)
    (hp : pendState (s.gst g) = true) : groupCommand g 4 0 s = dropPending g s := by
  have hf : (s.gst g == gFault) = false := by
    rw [beq_eq_false_iff_ne]
    intro hc
    rw [hc] at hp
    exact absurd hp (by decide)
  unfold groupCommand
  dsimp only
  rw [decide_eq_false (show ¬ 80 ≤ g by omega), b_true hen, hf, hp]
  rfl

theorem command_stop_off {g : Nat} (hg : g < 80) {s : State} (h : GroupIn g gOff s) :
    groupCommand g 4 0 s = cmdRefuse g 1 s := by
  obtain ⟨hen, hst⟩ := h
  unfold groupCommand
  rw [decide_eq_false (show ¬ 80 ≤ g by omega), hst, b_true hen]
  rfl

theorem command_disch {g : Nat} (hg : g < 80) {s : State} (h : GroupIn g gZero s) : groupCommand g 5 0 s =
    if s.f Fl.PRT_GCFG_ROLE g == 3 then toOpening g s else toDischarge g s |> setMode g true := by
  obtain ⟨hen, hst⟩ := h
  unfold groupCommand
  rw [decide_eq_false (show ¬ 80 ≤ g by omega), hst, b_true hen]
  rfl

theorem command_clear {g : Nat} (hg : g < 80) {s : State} (h : GroupIn g gFault s) :
    groupCommand g 6 0 s = offWithPending g s := by
  obtain ⟨hen, hst⟩ := h
  unfold groupCommand
  rw [decide_eq_false (show ¬ 80 ≤ g by omega), hst, b_true hen]
  rfl

/-! ### CHECK, PRECHARGE and RUN -/

theorem refused_code {g code : Nat} (hg : g < 80) (hc : code < 4) (s : State) :
    fieldOf (cmdRefuse g code s).regs Fl.PRT_GSTAT_CMDERR g = code ∧ (cmdRefuse g code s).gst g = s.gst g :=
  ⟨fieldOf_setF_fits s Fl.PRT_GSTAT_CMDERR g code (lt_of_lt_of_le hg (by decide)) (by decide)
    (lt_of_lt_of_le hc (by decide)), fieldOf_setF_apart s Fl.PRT_GSTAT_CMDERR Fl.PRT_GSTAT_STATE g g code (by decide)⟩

/-- A command that is refused with its cause. -/
theorem refused_with_cause {g code j : Nat} (hg : g < 80) (hc : code < 4) (hj : j < 29) {s : State} (h : s.gst g =
  gOff) :
    (prtCause j g (cmdRefuse g code s)).gst g = gOff ∧
      (prtCause j g (cmdRefuse g code s)).f Fl.PRT_GSTAT_CMDERR g = code ∧
      GroupCause g j (prtCause j g (cmdRefuse g code s)) := by
  obtain ⟨h1, h2⟩ := refused_code hg hc s
  exact ⟨(fieldOf_prtCause (fl := Fl.PRT_GSTAT_STATE) j g g _ (by decide)).trans (h2.trans h),
    (fieldOf_prtCause (fl := Fl.PRT_GSTAT_CMDERR) j g g _ (by decide)).trans h1, prtCause_shows hg hj _⟩

/-- The port's capacitance. -/
def portCap (g : Nat) (s : State) : Nat := max (s.f Fl.PRT_CNOM_CNOM g) (s.f Fl.PRT_CIDENT_CIDENT g)

theorem checkInOff_eq (g : Nat) (s : State) : checkInOff g s =
    if portCap g s == 0 then prtCause 28 g (cmdRefuse g 2 s)
    else if energyOver (portCap g s) (s.f Fl.PRT_VSET_VSET g) (s.f Fl.PRT_EMAX_ECHK g) then
      prtCause 6 g (cmdRefuse g 3 s)
    else toClosing g gCheck s := by
  unfold checkInOff portCap
  rfl

theorem accepts_check {g : Nat} {s : State} (hr : s.f Fl.PRT_GCFG_ROLE g = 0) : s.offAccepts g 1 = true := by
  rw [State.offAccepts, hr]
  rfl

theorem accepts_precharge {g : Nat} {s : State} (hr : s.f Fl.PRT_GCFG_ROLE g = 3) : s.offAccepts g 2 = true := by
  rw [State.offAccepts, hr]
  rfl

theorem command_check {g : Nat} (hg : g < 80) {s : State} (h : GroupIn g gOff s) (hr : s.f Fl.PRT_GCFG_ROLE g = 0) :
    groupCommand g 1 0 s = checkInOff g s :=
  (command_in_off hg (by decide) 0 h).trans (if_neg (by rw [accepts_check hr]; decide))

theorem toClosing_closes {g : Nat} (hg : g < 80) (target : Nat) {s : State} (h : s.gst g = gOff) :
    (toClosing g target s).gst g = gClosing ∧ ((toClosing g target s).pg g).target = target ∧
      GroupCause g 0 (toClosing g target s) := by
  have h0 : (s.setPg g fun x => { x with target := target }).gst g ≠ gClosing := by
    rw [gst_setPg, h]
    decide
  refine ⟨(askClose_field (fl := Fl.PRT_GSTAT_STATE) (by decide) g g _).trans (toState_gst hg (by decide) _), ?_,
    (toState_cause hg h0).field (askClose_field (by decide) g g _)⟩
  unfold toClosing
  rw [pg_of_prt (askClose_prt ..), pg_of_prt (toState_prt (by decide) _), pg_setPg_same hg]

theorem check_without_cap {g : Nat} (hg : g < 80) {s : State} (h : GroupIn g gOff s) (hr : s.f Fl.PRT_GCFG_ROLE g = 0)
    (hc : portCap g s = 0) : Effect (.groupCheck g) s fun u =>
      u.gst g = gOff ∧ u.f Fl.PRT_GSTAT_CMDERR g = 2 ∧ GroupCause g 28 u := by
  have he := ((command_check hg h hr).trans (checkInOff_eq g s)).trans (if_pos (beq_iff_eq.mpr hc))
  exact effect_done (congrArg done he) (refused_with_cause hg (by decide) (by decide) h.2)

theorem check_over_energy {g : Nat} (hg : g < 80) {s : State} (h : GroupIn g gOff s) (hr : s.f Fl.PRT_GCFG_ROLE g = 0)
    (hc : portCap g s ≠ 0) (ho : energyOver (portCap g s) (s.f Fl.PRT_VSET_VSET g) (s.f Fl.PRT_EMAX_ECHK g) = true) :
    Effect (.groupCheck g) s fun u => u.gst g = gOff ∧ u.f Fl.PRT_GSTAT_CMDERR g = 3 ∧ GroupCause g 6 u := by
  have he := ((command_check hg h hr).trans (checkInOff_eq g s)).trans
    ((if_neg (fun hn => hc (beq_iff_eq.mp hn))).trans (if_pos ho))
  exact effect_done (congrArg done he) (refused_with_cause hg (by decide) (by decide) h.2)

theorem check_closes {g : Nat} (hg : g < 80) {s : State} (h : GroupIn g gOff s) (hr : s.f Fl.PRT_GCFG_ROLE g = 0)
    (hc : portCap g s ≠ 0) (ho : energyOver (portCap g s) (s.f Fl.PRT_VSET_VSET g) (s.f Fl.PRT_EMAX_ECHK g) = false) :
    Effect (.groupCheck g) s fun u => u.gst g = gClosing ∧ (u.pg g).target = gCheck ∧ GroupCause g 0 u := by
  have he := ((command_check hg h hr).trans (checkInOff_eq g s)).trans
    ((if_neg (fun hn => hc (beq_iff_eq.mp hn))).trans (if_neg (Bool.eq_false_iff.mp ho)))
  exact effect_done (congrArg done he) (toClosing_closes hg gCheck h.2)

theorem precharge_closes {g : Nat} (hg : g < 80) {s : State} (h : GroupIn g gOff s) (hr : s.f Fl.PRT_GCFG_ROLE g = 3) :
    Effect (.groupPrecharge g) s fun u => u.gst g = gClosing ∧ (u.pg g).target = gPrecharge := by
  have he : groupCommand g 2 0 s = toClosing g gPrecharge s :=
    (command_in_off hg (by decide) 0 h).trans (if_neg (by rw [accepts_precharge hr]; decide))
  obtain ⟨h1, h2, -⟩ := toClosing_closes hg gPrecharge h.2
  exact effect_done (congrArg done he) ⟨h1, h2⟩

/-- The port's voltage is at its set-point already. -/
def portHot (g : Nat) (s : State) : Bool := decide ((s.f Fl.PRT_VSET_VSET g : Int) ≤ 5 * s.vehicleV g)

/-- The group's data at the start of precharge. -/
def prechargeGroup (now : Nat) (hot : Bool) (x : PrtGroup) : PrtGroup :=
  { x with preStart := now, preStep := if hot then 1 else 2, t1 := none, t2 := none }

theorem toPrecharge_eq (g : Nat) (s : State) : toPrecharge g s =
    setMode g (portHot g s) (toState g gPrecharge (s.setPg g (prechargeGroup s.now (portHot g s)))) := rfl

theorem ModeFits.setPg {g : Nat} (hg : g < 80) {volt : Bool} {s : State} {f : PrtGroup → PrtGroup}
    (hf : (f (s.pg g)).voltMode = (s.pg g).voltMode) (h : ModeFits g volt s) : ModeFits g volt (s.setPg g f) :=
  h.congr (by rw [pg_setPg_same hg, hf]) ⟨rfl, fun _ _ _ => rfl⟩ fun _ _ _ => rfl

theorem toPrecharge_begins {g : Nat} (hg : g < 80) {s : State} (h : ModeFits g (portHot g s) s) :
    (toPrecharge g s).gst g = gPrecharge ∧ ((toPrecharge g s).pg g).preStart = s.now := by
  rw [toPrecharge_eq]
  generalize portHot g s = hot at *
  have hf : ModeFits g hot (s.setPg g (prechargeGroup s.now hot)) := h.setPg hg rfl
  obtain ⟨h1, h2⟩ := setMode_takes hg (hf.toState (st := gPrecharge) (by decide))
  rw [h1, h2]
  refine ⟨toState_gst hg (by decide) _, ?_⟩
  change ((toState g gPrecharge (s.setPg g (prechargeGroup s.now hot))).pg g).preStart = s.now
  rw [pg_of_prt (toState_prt (by decide) _), pg_setPg_same hg]
  rfl

theorem precharge_begins {g : Nat} (hg : g < 80) {s : State} (h : GroupIn g gCheck s) (hf : ModeFits g (portHot g s)
  s) :
    Effect (.groupPrecharge g) s fun u => u.gst g = gPrecharge ∧ (u.pg g).preStart = s.now :=
  effect_done (congrArg done (command_precharge hg h)) (toPrecharge_begins hg hf)

/-- The state of a running group in a mode. -/
def runState (mode : Nat) : Nat := if mode == 1 then gRunV else gRunI

theorem runState_eq (mode : Nat) : runState mode = if mode = 1 then gRunV else gRunI := by
  simp only [runState, beq_iff_eq]

theorem toRun_runs {g mode : Nat} (hg : g < 80) {s : State} (h : ModeFits g (mode == 1) s) :
    (toRun g mode s).gst g = runState mode ∧ ((toRun g mode s).pg g).voltMode = (mode == 1) := by
  have hst : runState mode ≠ gOff ∧ runState mode < 16 := by
    rw [runState_eq]
    split <;> decide
  have he : toRun g mode s = setMode g (mode == 1) (toState g (runState mode) s) := rfl
  obtain ⟨h1, h2⟩ := setMode_takes hg (h.toState hst.1)
  rw [he, h1, h2]
  exact ⟨toState_gst hg hst.2 s, rfl⟩

theorem mode_register_field {fl : Fld} (h : Fl.PRT_GCMD_MODE.apart fl = true) (g mode i : Nat) (s : State) :
    fieldOf (s.setF Fl.PRT_GCMD_MODE g mode).regs fl i = fieldOf s.regs fl i :=
  fieldOf_setF_apart s Fl.PRT_GCMD_MODE fl g i mode h

theorem run_begins_in {g mode : Nat} (hg : g < 80) {st : Nat} (hs : st = gReady ∨ st = gZero) {s : State}
    (h : GroupIn g st s) (hf : ModeFits g (mode == 1) s) : Effect (.groupRun g mode) s fun u =>
      u.gst g = (if mode = 1 then gRunV else gRunI) ∧ (u.pg g).voltMode = (mode == 1) := by
  obtain ⟨hen, hst⟩ := h
  have h1 : GroupIn g st (s.setF Fl.PRT_GCMD_MODE g mode) :=
    ⟨(mode_register_field (by decide) g mode g s).trans hen, (mode_register_field (by decide) g mode g s).trans hst⟩
  have hall : ∀ fl ∈ modeFlds, Fl.PRT_GCMD_MODE.apart fl = true := by decide
  have hregs : ∀ r ∈ engineRegs, Fl.PRT_GCMD_MODE.reg.apart r = true := by decide
  have hf1 : ModeFits g (mode == 1) (s.setF Fl.PRT_GCMD_MODE g mode) :=
    hf.congr (by rw [pg_of_prt (State.setF_prt ..)])
      ⟨State.setF_lpe .., fun r hr i => regOf_setF_apart s Fl.PRT_GCMD_MODE r g i mode (hregs r hr)⟩
      fun fl hfl i => mode_register_field (hall fl hfl) g mode i s
  have he : exec (.groupRun g mode) s = done (toRun g mode (s.setF Fl.PRT_GCMD_MODE g mode)) := by
    rw [← command_run hg hs mode h1]
    exact congrArg (fun u => done (groupCommand g 3 mode u)) (if_pos hg)
  obtain ⟨h2, h3⟩ := toRun_runs hg hf1
  exact effect_done he ⟨h2.trans (runState_eq mode), h3⟩

/-! ### STOP, DISCH and CLEAR -/

theorem stop_discharges {g : Nat} (hg : g < 80) {s : State} (h : GroupIn g gReady s) : Effect (.groupStop g) s fun u =>
    u.gst g = gDischarge ∧ (u.pg g).discStart = s.now := by
  have hd : (dropPending g s).gst g = gReady := (dropPending_gst g s).trans h.2
  have he : groupCommand g 4 0 s = toDischarge g (dropPending g s) := by
    rw [command_stop hg (Or.inl rfl) h]
    unfold groupStopAct
    rw [hd]
    rfl
  have hn : (dropPending g s).now = s.now := by
    rw [State.now, State.now]
    exact congrArg (fun t => t.now / 2 ^ 32 % 2 ^ 64) (State.setB_time ..)
  obtain ⟨h1, h2⟩ := toDischarge_discharges hg (dropPending g s)
  exact effect_done (congrArg done he) ⟨h1, by rw [h2, hn]⟩

theorem stop_ramps_down {g : Nat} (hg : g < 80) {s : State} (hen : s.f Fl.PRT_GCFG_EN g = 1)
    (h : s.gst g = gRunI ∨ s.gst g = gRunV) : Effect (.groupStop g) s fun u => u.gst g = gRampdown := by
  have he : groupCommand g 4 0 s = toState g gRampdown (dropPending g s) := by
    rcases h with h | h
    all_goals
      rw [command_stop hg (by decide) ⟨hen, h⟩]
      unfold groupStopAct
      rw [(dropPending_gst g s).trans h]
      rfl
  exact effect_done (congrArg done he) (toState_gst hg (by decide) _)

theorem stop_withdraws {g : Nat} (hg : g < 80) {s : State} (hen : s.f Fl.PRT_GCFG_EN g = 1)
    (hp : pendState (s.gst g) = true) : Effect (.groupStop g) s fun u => u.gst g = s.gst g ∧ (u.pg g).pendCmd = none :=
  effect_done (congrArg done (command_stop_pending hg hen hp)) ⟨dropPending_gst g s, by rw [dropPending_pg hg]⟩

theorem stop_refused {g : Nat} (hg : g < 80) {s : State} (h : GroupIn g gOff s) : Effect (.groupStop g) s fun u =>
    u.gst g = gOff ∧ u.f Fl.PRT_GSTAT_CMDERR g = 1 := by
  obtain ⟨h1, h2⟩ := refused_code hg (show 1 < 4 by decide) s
  exact effect_done (congrArg done (command_stop_off hg h)) ⟨h2.trans h.2, h1⟩

theorem disch_leaves_zero {g : Nat} (hg : g < 80) {s : State} (h : GroupIn g gZero s) : Effect (.groupDisch g) s fun u
  =>
    u.gst g = if s.f Fl.PRT_GCFG_ROLE g = 3 then gOpening else gDischarge := by
  refine effect_done (congrArg done (command_disch hg h)) ?_
  by_cases hr : s.f Fl.PRT_GCFG_ROLE g = 3
  · rw [if_pos (beq_iff_eq.mpr hr), if_pos hr]
    exact toOpening_gst hg s
  · rw [if_neg (fun hc => hr (beq_iff_eq.mp hc)), if_neg hr]
    have hd := (toDischarge_discharges hg s).1
    exact (setMode_gst true (Or.inr (by rw [hd]; decide))).trans hd

theorem clear_leaves_fault {g : Nat} (hg : g < 80) {s : State} (h : GroupIn g gFault s) (hp : (s.pg g).pendCmd = none) :
    Effect (.groupClear g) s fun u => u.gst g = gOff ∧ u.f Fl.PRT_GSTAT_REEFREQ g = 0 := by
  have he : offWithPending g s = toState g gOff s := by
    unfold offWithPending
    rw [hp]
  refine effect_done (congrArg done ((command_clear hg h).trans he)) ⟨toState_gst hg (by decide) s, toState_reef hg ?_⟩
  rw [h.2]
  decide

theorem energyOver_cap {g : Nat} {s : State} (h : energyOver (portCap g s) (s.f Fl.PRT_VSET_VSET g)
    (s.f Fl.PRT_EMAX_ECHK g) = true) : portCap g s ≠ 0 := by
  intro h0
  rw [h0, energyOver, decide_eq_true_eq, Nat.zero_mul, Nat.zero_mul] at h
  exact Nat.not_lt_zero _ h

/-- Settles O27: the commands of a port group, each clause from the lemma of its command. -/
theorem portCommands : Obligations.PortCommands := by
  intro g s hg x cause fits
  refine ⟨group_asked hg, group_disabled hg, fun c hc => ⟨fun h1 h2 => cell_assigned hc hg h1 h2,
    fun h => cell_stays hc h⟩,
    reef_cleared hg s, fun hen => ⟨fun h0 hr => ⟨check_without_cap hg ⟨hen, h0⟩ hr, fun ho => ?_, fun hc ho => ?_⟩,
      fun h0 hr => precharge_closes hg ⟨hen, h0⟩ hr, fun h2 hf => precharge_begins hg ⟨hen, h2⟩ hf,
        fun mode hs hf => ?_,
      fun h => stop_discharges hg ⟨hen, h⟩, stop_ramps_down hg hen, stop_withdraws hg hen,
      fun h => stop_refused hg ⟨hen, h⟩, fun h => disch_leaves_zero hg ⟨hen, h⟩,
      fun h hp => clear_leaves_fault hg ⟨hen, h⟩ hp⟩⟩
  · have ho' : energyOver (portCap g s) (s.f Fl.PRT_VSET_VSET g) (s.f Fl.PRT_EMAX_ECHK g) = true := decide_eq_true ho
    exact check_over_energy hg ⟨hen, h0⟩ hr (energyOver_cap ho') ho'
  · exact check_closes hg ⟨hen, h0⟩ hr (by rw [portCap]; omega) (decide_eq_false (Nat.not_lt.mpr ho))
  · rcases hs with h | h
    · exact run_begins_in hg (Or.inl rfl) ⟨hen, h⟩ hf
    · exact run_begins_in hg (Or.inr rfl) ⟨hen, h⟩ hf

end Sys2Proof.Machine

/-! ## The port sequence: contactors, precharge, ramp-down, discharge, weld check (R217 to R229) -/

namespace Sys2Proof.Machine

set_option Elab.async false

/-! ### Closing and precharge -/

theorem closed_to_check {g : Nat} (hg : g < 80) {s : State} (h : s.gst g = gClosing) (ht : (s.pg g).target = gCheck)
    (hv : (s.pg g).voltMode = true) : Effect (.contactorsClosed g) s fun u => u.gst g = gCheck := by
  have he : exec (.contactorsClosed g) s = done (setMode g true (toState g gCheck s)) := by
    refine congrArg done ((if_pos (beq_iff_eq.mpr h)).trans ?_)
    rw [ht]
    rfl
  have hf : ModeFits g true (toState g gCheck s) := ModeFits.toState (by decide) (Or.inl hv)
  exact effect_done he ((setMode_takes hg hf).1.trans (toState_gst hg (by decide) s))

/-- A step that times out leads to FAULT with its cause. -/
theorem faults_of {c : Instr} {g cause : Nat} (hg : g < 80) (hc : cause < 29) {s : State}
    (he : exec c s = done (toFault cause g s)) : Effect c s fun u => u.gst g = gFault ∧ GroupCause g cause u :=
  effect_done he (toFault_faults hg hc s)

theorem closing_times_out {g : Nat} (hg : g < 80) {s : State} (h : s.gst g = gClosing) :
    Effect (.closingTimeout g) s fun u => u.gst g = gFault ∧ GroupCause g 27 u :=
  faults_of hg (by decide) (congrArg done (if_pos (beq_iff_eq.mpr h)))

theorem precharge_times_out {g : Nat} (hg : g < 80) {s : State} (h : s.gst g = gPrecharge) :
    Effect (.prechargeTimeout g) s fun u => u.gst g = gFault ∧ GroupCause g 27 u :=
  faults_of hg (by decide) (congrArg done (if_pos (beq_iff_eq.mpr h)))

theorem opening_times_out {g : Nat} (hg : g < 80) {s : State} (h : s.gst g = gOpening) :
    Effect (.openingTimeout g) s fun u => u.gst g = gFault ∧ GroupCause g 27 u :=
  faults_of hg (by decide) (congrArg done (if_pos (beq_iff_eq.mpr h)))

theorem precharge_completes {g : Nat} (hg : g < 80) {s : State} (h : s.gst g = gPrecharge) (h5 : (s.pg g).preStep = 5)
    (hv : (s.vehicleV g - (s.f Fl.PRT_VSET_VSET g : Int)).natAbs ≤ s.f Fl.PRT_PCFG_VTOL g * 1000) :
    Effect (.prechargeComplete g) s fun u => u.gst g = gReady := by
  have he : exec (.prechargeComplete g) s = done (toState g gReady ((s.setF Fl.PRT_TREP_TPRE g
      (min ((s.now - (s.pg g).preStart) / 1000000) 65535)).setPg g fun x => { x with preStep := 0 })) :=
    congrArg done (if_pos (by rw [h, h5, decide_eq_true hv]; rfl))
  exact effect_done he (toState_gst hg (by decide) _)

/-! ### Ramp-down and discharge -/

theorem offWithPending_rests {g : Nat} {s : State} (h : (s.pg g).pendCmd = none) :
    offWithPending g s = toState g gOff s := by
  unfold offWithPending
  rw [h]

theorem rampdown_completes {g : Nat} (hg : g < 80) {s : State} (h : s.gst g = gRampdown)
    (hi : (s.groupI g).natAbs < 5000) (hp : (s.pg g).pendCmd = none) : Effect (.rampdownComplete g) s fun u =>
      u.gst g = if s.f Fl.PRT_GCFG_ROLE g = 1 ∨ s.f Fl.PRT_GCFG_ROLE g = 2 then gOff else gZero := by
  have he : exec (.rampdownComplete g) s = done (if s.f Fl.PRT_GCFG_ROLE g == 1 || s.f Fl.PRT_GCFG_ROLE g == 2 then
      offWithPending g s else toState g gZero s) :=
    congrArg done (if_pos (by rw [h, decide_eq_true hi]; rfl))
  have hc : (s.f Fl.PRT_GCFG_ROLE g == 1 || s.f Fl.PRT_GCFG_ROLE g == 2) = true ↔
      s.f Fl.PRT_GCFG_ROLE g = 1 ∨ s.f Fl.PRT_GCFG_ROLE g = 2 := by
    rw [Bool.or_eq_true, beq_iff_eq, beq_iff_eq]
  refine effect_done he ?_
  by_cases hr : s.f Fl.PRT_GCFG_ROLE g = 1 ∨ s.f Fl.PRT_GCFG_ROLE g = 2
  · rw [if_pos (hc.mpr hr), if_pos hr, offWithPending_rests hp]
    exact toState_gst hg (by decide) s
  · rw [if_neg (mt hc.mp hr), if_neg hr]
    exact toState_gst hg (by decide) s

/-- The time of a discharge, reported. -/
def dischargeTimed (g : Nat) (s : State) : State :=
  s.setF Fl.PRT_TREP_TDIS g (min ((s.now - (s.pg g).discStart) / 1000000) 65535)

theorem dischargeTimed_pg (g : Nat) (s : State) : (dischargeTimed g s).pg g = s.pg g := pg_of_prt (State.setF_prt ..) g

theorem discharge_completes {g : Nat} (hg : g < 80) {s : State} (h : s.gst g = gDischarge) (hv : s.vehicleV g < 60000)
    (hp : (s.pg g).pendCmd = none) : Effect (.dischargeComplete g) s fun u =>
      u.gst g = if (s.pg g).bleedOnly then gOff else gOpening := by
  have he : exec (.dischargeComplete g) s = done (if ((dischargeTimed g s).pg g).bleedOnly then
      offWithPending g (dischargeTimed g s) else toOpening g (dischargeTimed g s)) :=
    congrArg done (if_pos (by rw [h, decide_eq_true hv]; rfl))
  rw [dischargeTimed_pg] at he
  refine effect_done he ?_
  split
  · rw [offWithPending_rests (by rw [dischargeTimed_pg, hp])]
    exact toState_gst hg (by decide) _
  · exact toOpening_gst hg _

theorem discharge_times_out {g : Nat} (hg : g < 80) {s : State} (h : s.gst g = gDischarge) (hv : 60000 ≤ s.vehicleV g) :
    Effect (.dischargeTimeout g) s fun u => u.gst g = gDischarge ∧ GroupCause g 7 u := by
  have he : exec (.dischargeTimeout g) s = done (prtCause 7 g s) :=
    congrArg done (if_pos (by rw [h, decide_eq_true hv]; rfl))
  exact effect_done he ⟨(fieldOf_prtCause (fl := Fl.PRT_GSTAT_STATE) 7 g g s (by decide)).trans h,
    prtCause_shows hg (by decide) s⟩

theorem discharge_forced {g : Nat} (hg : g < 80) {s : State} (h : s.gst g = gDischarge) :
    Effect (.dischargeForcedOpen g) s fun u => u.gst g = gOpening ∧ (u.pg g).forced = true := by
  have he : exec (.dischargeForcedOpen g) s = done (toOpening g (s.setPg g fun x => { x with forced := true })) :=
    congrArg done (if_pos (beq_iff_eq.mpr h))
  exact effect_done he ⟨toOpening_gst hg _, by rw [toOpening_pg, pg_setPg_same hg]⟩

/-! ### Opening and the weld check -/

/-- The contactors are worked for step `step` of the weld check of port `p`. -/
def weldWork (p step : Nat) (s : State) : State :=
  let s := openRequest p true true s
  if step == 1 then closeRequest p false true s else if step == 2 then closeRequest p true false s else s

/-- Registers that the shroud's requests write. -/
def requestRegs : List Rg := [R.EVT_PEND, R.SFY_COIL, R.SFY_PSTAT, R.SFY_STAT]

/-- The ports' data and the group states stand. -/
def GroupsKept (s u : State) : Prop :=
  u.prt = s.prt ∧ ∀ i, fieldOf u.regs Fl.PRT_GSTAT_STATE i = fieldOf s.regs Fl.PRT_GSTAT_STATE i

theorem GroupsKept.refl (s : State) : GroupsKept s s := ⟨rfl, fun _ => rfl⟩

theorem GroupsKept.trans {s u v : State} (h : GroupsKept s u) (h' : GroupsKept u v) : GroupsKept s v :=
  ⟨h'.1.trans h.1, fun i => (h'.2 i).trans (h.2 i)⟩

theorem openRequest_kept (p : Nat) (pos neg : Bool) (s : State) : GroupsKept s (openRequest p pos neg s) :=
  ⟨openRequest_prt .., fun i => openRequest_group (by decide) p i pos neg s⟩

theorem closeRequest_kept (p : Nat) (pos neg : Bool) (s : State) : GroupsKept s (closeRequest p pos neg s) :=
  ⟨State.prt_of_without (A := butPrt) (closeRequest_writes rfl rfl rfl rfl p pos neg s) rfl, fun i =>
    fieldOf_onlyRegs (l := requestRegs)
      (closeRequest_writes (by decide) (by decide) (by decide) (by decide) p pos neg s) i (by decide)⟩

theorem weldWork_kept (p step : Nat) (s : State) : GroupsKept s (weldWork p step s) := by
  unfold weldWork
  extract_lets u
  have hu : GroupsKept s u := openRequest_kept p true true s
  split
  · exact hu.trans (closeRequest_kept ..)
  · split
    · exact hu.trans (closeRequest_kept ..)
    · exact hu

theorem weldStart_eq (g step : Nat) (s : State) : weldStart g step s =
    match groupPort g with
    | none => s.setPg g fun x => { x with weldStep := step }
    | some p => weldWork p step (s.setPg g fun x => { x with weldStep := step }) := rfl

theorem weldStart_starts {g : Nat} (hg : g < 80) (step : Nat) (s : State) :
    (weldStart g step s).gst g = s.gst g ∧ ((weldStart g step s).pg g).weldStep = step := by
  have hs : GroupsKept (s.setPg g fun x => { x with weldStep := step }) (weldStart g step s) := by
    rw [weldStart_eq]
    split
    · exact .refl _
    · exact weldWork_kept ..
  exact ⟨(hs.2 g).trans rfl, by rw [pg_of_prt hs.1, pg_setPg_same hg]⟩

theorem contactors_opened {g : Nat} (hg : g < 80) {s : State} (h : s.gst g = gOpening) (hp : (s.pg g).pendCmd = none) :
    Effect (.contactorsOpened g) s fun u =>
      u.gst g = if (s.pg g).forced then gFault else if s.f Fl.PRT_PCFG_WELDEN g = 1 then gWeld else gOff := by
  have he : exec (.contactorsOpened g) s = done (if (s.pg g).forced then toState g gFault s
      else if s.b Fl.PRT_PCFG_WELDEN g then
        weldStart g 1 (setMode g true (toState g gWeld (s.setF Fl.PRT_GSTAT_WELD g 0)))
      else offWithPending g s) := congrArg done (if_pos (beq_iff_eq.mpr h))
  refine effect_done he ?_
  split
  · exact toState_gst hg (by decide) s
  · by_cases hw : s.f Fl.PRT_PCFG_WELDEN g = 1
    · rw [if_pos (b_true hw), if_pos hw]
      have hst : (toState g gWeld (s.setF Fl.PRT_GSTAT_WELD g 0)).gst g = gWeld := toState_gst hg (by decide) _
      exact (weldStart_starts hg 1 _).1.trans ((setMode_gst true (Or.inr (by rw [hst]; decide))).trans hst)
    · have hb : s.b Fl.PRT_PCFG_WELDEN g = false := by
        rw [Bool.eq_false_iff]
        intro hb
        exact hw ((bool_field s Fl.PRT_PCFG_WELDEN g rfl).trans (by rw [hb]; rfl))
      rw [hb, if_neg Bool.false_ne_true, if_neg hw, offWithPending_rests hp]
      exact toState_gst hg (by decide) s

theorem weld_passed_all {g : Nat} (hg : g < 80) {s : State} (h : s.gst g = gWeld) (h3 : (s.pg g).weldStep = 3)
    (hp : (s.pg g).pendCmd = none) : Effect (.weldStepEnd g) s fun u =>
      u.gst g = if s.f Fl.PRT_GSTAT_WELD g = 0 then gOff else gFault := by
  have he : exec (.weldStepEnd g) s = done (if s.b Fl.PRT_GSTAT_WELD g then toFault 24 g s else offWithPending g s) :=
    congrArg done ((if_pos (beq_iff_eq.mpr h)).trans (if_pos (beq_iff_eq.mpr h3)))
  refine effect_done he ?_
  by_cases hw : s.f Fl.PRT_GSTAT_WELD g = 0
  · have hb : s.b Fl.PRT_GSTAT_WELD g = false := by
      rw [State.b, hw]
      rfl
    rw [hb, if_neg Bool.false_ne_true, if_pos hw, offWithPending_rests hp]
    exact toState_gst hg (by decide) s
  · have hb : s.b Fl.PRT_GSTAT_WELD g = true := bne_iff_ne.mpr hw
    rw [hb, if_pos rfl, if_neg hw]
    exact (toFault_faults hg (by decide) s).1

theorem weld_found {g : Nat} (hg : g < 80) {s : State} (h : s.gst g = gWeld) (h3 : (s.pg g).weldStep ≠ 3)
    (hv : 30000 < s.vehicleV g) : Effect (.weldStepEnd g) s fun u => u.gst g = gFault ∧ GroupCause g 24 u := by
  have he : exec (.weldStepEnd g) s = done (toFault 24 g
      (s.setF Fl.PRT_GSTAT_WELD g (setBit (s.f Fl.PRT_GSTAT_WELD g) ((s.pg g).weldStep - 1)))) :=
    congrArg done ((if_pos (beq_iff_eq.mpr h)).trans ((if_neg (fun hc => h3 (beq_iff_eq.mp hc))).trans
      (if_pos (decide_eq_true hv))))
  exact effect_done he (toFault_faults hg (by decide) _)

theorem weld_goes_on {g : Nat} (hg : g < 80) {s : State} (h : s.gst g = gWeld) (h3 : (s.pg g).weldStep ≠ 3)
    (hv : s.vehicleV g ≤ 30000) : Effect (.weldStepEnd g) s fun u =>
      u.gst g = gWeld ∧ (u.pg g).weldStep = (s.pg g).weldStep + 1 := by
  have he : exec (.weldStepEnd g) s = done (weldStart g ((s.pg g).weldStep + 1) s) :=
    congrArg done ((if_pos (beq_iff_eq.mpr h)).trans ((if_neg (fun hc => h3 (beq_iff_eq.mp hc))).trans
      (if_neg (by rw [decide_eq_true_eq]; omega))))
  obtain ⟨h1, h2⟩ := weldStart_starts hg ((s.pg g).weldStep + 1) s
  exact effect_done he ⟨h1.trans h, h2⟩

/-! ### Openings without request, and the switch to voltage mode -/

theorem opened_unasked {g : Nat} (hg : g < 80) {s : State} (h0 : s.gst g ≠ gOff) (hf : s.gst g ≠ gFault)
    (ho : s.gst g ≠ gOpening) : Effect (.unrequestedOpen g) s fun u =>
      u.gst g = gDischarge ∧ (u.pg g).bleedOnly = true ∧ GroupCause g 25 u := by
  have he : unrequestedOpen g s = toDischarge g ((prtCause 25 g s).setPg g fun x => { x with bleedOnly := true }) :=
    if_neg (by
      rw [Bool.or_eq_true, Bool.or_eq_true, beq_iff_eq, beq_iff_eq, beq_iff_eq]
      rintro ((h | h) | h)
      · exact h0 h
      · exact hf h
      · exact ho h)
  obtain ⟨h1, h2⟩ := toDischarge_discharges hg ((prtCause 25 g s).setPg g fun x => { x with bleedOnly := true })
  have hc : GroupCause g 25 ((prtCause 25 g s).setPg g fun x => { x with bleedOnly := true }) :=
    (prtCause_shows hg (by decide) s).field (by rw [setPg_regs])
  refine effect_done (congrArg done he) ⟨h1, by rw [h2, pg_setPg_same hg], ?_⟩
  exact toState_keeps hg gDischarge (by decide) (hc.field (by rw [setPg_regs]))

theorem autocv_switches {g : Nat} (hg : g < 80) {s : State} (h : s.gst g = gRunI) (ha : s.f Fl.PRT_GCFG_AUTOCV g = 1)
    (hr : s.f Fl.PRT_GCFG_ROLE g = 0)
    (hk : s.kernelsFit (s.groupBatches g) (s.f Fl.PRT_GCFG_KVOLT g) = true)
    (hv : (s.f Fl.PRT_VSET_VSET g : Int) - s.f Fl.PRT_DISCFG_VMARG g * 1000 ≤ s.vehicleV g) :
    Effect (.autocvSwitch g) s fun u => u.gst g = gRunV ∧ (u.pg g).voltMode = true := by
  have he : exec (.autocvSwitch g) s = done (toRun g 1 s) :=
    congrArg done (if_pos (by rw [h, b_true ha, hr, decide_eq_true hv]; rfl))
  exact effect_done he (toRun_runs (mode := 1) hg (Or.inr hk))

/-! ### The sensor search and removed cells -/

theorem search_starts {g : Nat} (hg : g < 80) {s : State} (hr : s.f Fl.PRT_GCFG_ROLE g = 0) (hen : s.f Fl.PRT_GCFG_EN
  g = 1)
    (hn : (s.pg g).search = none) (ho : 3 * (s.groupI g).natAbs + 500000 < 100 * (s.sumI g - s.groupI g).natAbs) :
    Effect (.senseSearchStart g) s fun u => (u.pg g).search = some 0 ∧ (u.pg g).explains = [] := by
  have he : exec (.senseSearchStart g) s = done (s.setPg g fun x => { x with search := some 0, explains := [] }) := by
    refine congrArg done (if_pos ?_)
    have hs : senseOver (s.sumI g) (s.groupI g) = true := decide_eq_true ho
    rw [decide_eq_true hg, hr, b_true hen, hn, hs]
    rfl
  exact effect_done he (by rw [pg_setPg_same hg]; exact ⟨rfl, rfl⟩)

/-- The members that explain a search's deviation in nine of ten samples. -/
def searchHits (n : Nat) (l : List (Nat × Nat)) : List (Nat × Nat) := l.filter fun e => decide (9 * n ≤ 10 * e.2)

/-- A search that has ended. -/
def searchEnded (g : Nat) (s : State) : State := s.setPg g fun x => { x with search := none, explains := [] }

/-- What a search leads to by the members that explain it. -/
def searchOutcome (g : Nat) (hits : List (Nat × Nat)) (s : State) : State :=
  match hits with
  | [(c, _)] => prtCause 3 g (removeCell c 2 s)
  | _ => raiseReef g (prtCause 4 g s)

theorem senseSearchEnd_eq {g n : Nat} {s : State} (h : (s.pg g).search = some n) : exec (.senseSearchEnd g) s =
    done (searchOutcome g (searchHits n (s.pg g).explains) (searchEnded g s)) := by
  refine congrArg done ?_
  rw [h]
  rfl

/-- Cell `c` may be noted for removal. -/
def Removable (c : Nat) (s : State) : Prop := s.f Fl.PRT_CELL_RM c = 0 ∧ ∀ e ∈ s.prt.removals, e.1 ≠ c

theorem removeCell_notes {c : Nat} (reason : Nat) {s : State} (h : Removable c s) :
    removeCell c reason s = { s with prt.removals := s.prt.removals ++ [(c, reason)] } := by
  obtain ⟨h0, hl⟩ := h
  have ha : (s.prt.removals.any fun e => e.1 == c) = false := by
    rw [List.any_eq_false]
    intro e he hc
    exact hl e he (beq_iff_eq.mp hc)
  refine if_pos ?_
  rw [h0, ha]
  rfl

theorem removeCell_removals {c : Nat} (reason : Nat) {s : State} (h : Removable c s) :
    (c, reason) ∈ (removeCell c reason s).prt.removals := by
  rw [removeCell_notes reason h]
  exact List.mem_append_right _ (List.mem_singleton_self _)

theorem removeCell_pg (c reason g : Nat) (s : State) : (removeCell c reason s).pg g = s.pg g := by
  unfold removeCell
  split <;> rfl

theorem search_finds {g n c k : Nat} (hg : g < 80) {s : State} (h : (s.pg g).search = some n)
    (hh : searchHits n (s.pg g).explains = [(c, k)]) (hr : Removable c s) : Effect (.senseSearchEnd g) s fun u =>
      (u.pg g).search = none ∧ (c, 2) ∈ u.prt.removals ∧ GroupCause g 3 u := by
  have he : exec (.senseSearchEnd g) s = done (prtCause 3 g (removeCell c 2 (searchEnded g s))) := by
    rw [senseSearchEnd_eq h, hh]
    rfl
  have hr' : Removable c (searchEnded g s) := hr
  refine effect_done he ⟨?_, ?_, prtCause_shows hg (by decide) _⟩
  · rw [pg_of_prt (prtCause_prt ..), removeCell_pg, searchEnded, pg_setPg_same hg]
  · rw [prtCause_prt]
    exact removeCell_removals 2 hr'

theorem search_unexplained {g n : Nat} (hg : g < 80) {s : State} (h : (s.pg g).search = some n)
    (hh : searchHits n (s.pg g).explains = []) : Effect (.senseSearchEnd g) s fun u =>
      GroupCause g 4 u ∧ u.f Fl.PRT_GSTAT_REEFREQ g = min 7 (s.f Fl.PRT_GSTAT_REEFREQ g + 1) := by
  have he : exec (.senseSearchEnd g) s = done (raiseReef g (prtCause 4 g (searchEnded g s))) := by
    rw [senseSearchEnd_eq h, hh]
    rfl
  refine effect_done he ⟨?_, ?_⟩
  · exact (prtCause_shows hg (by decide) (searchEnded g s)).field
      (fieldOf_satF_apart _ Fl.PRT_GSTAT_REEFREQ ⟨R.PRT_GCAUSE, 0, 29⟩ g g 1 (by decide))
  · have hreef : (prtCause 4 g (searchEnded g s)).f Fl.PRT_GSTAT_REEFREQ g = s.f Fl.PRT_GSTAT_REEFREQ g :=
      (fieldOf_prtCause (fl := Fl.PRT_GSTAT_REEFREQ) 4 g g _ (by decide)).trans
        (congrArg (fun m => fieldOf m Fl.PRT_GSTAT_REEFREQ g) (setPg_regs g _ s))
    rw [← hreef]
    exact fieldOf_satF_same _ Fl.PRT_GSTAT_REEFREQ g 1 (lt_of_lt_of_le hg (by decide)) (by decide)

theorem open_cell_noted {c g : Nat} (hc : c < 1024) (hg : g < 80) {s : State} (hgr : s.f Fl.PRT_CELL_GROUP c = g)
    (hr : Removable c s) (h0 : cellsGet (0 : Int) s.prt.share c ≠ 0)
    (hi : 20 * (s.cellI c).natAbs < (cellsGet (0 : Int) s.prt.share c).natAbs)
    (hn : s.f Fl.PRT_IRATED_IRATED g < 5 * (s.groupI g).natAbs) : Effect (.openCell c) s fun u =>
      (c, 1) ∈ u.prt.removals ∧ GroupCause g 2 u := by
  have he : exec (.openCell c) s = done (prtCause 2 g (removeCell c 1 s)) := by
    subst hgr
    refine congrArg done (if_pos ?_)
    rw [decide_eq_true hc, decide_eq_true hg, hr.1, bne_iff_ne.mpr h0, decide_eq_true hi, decide_eq_true hn]
    rfl
  refine effect_done he ⟨?_, prtCause_shows hg (by decide) _⟩
  rw [prtCause_prt]
  exact removeCell_removals 1 hr

theorem cell_restored {c : Nat} (hc : c < 1024) {s : State} (hr : s.f Fl.PRT_CELL_RM c ≠ 0) :
    Effect (.cellRestore c) s fun u => c ∈ u.prt.returns := by
  by_cases hm : c ∈ s.prt.returns
  · have he : cellRestore c s = s := if_neg (by
      rw [List.contains_eq_mem, decide_eq_true hm, Bool.not_true, Bool.and_false]
      exact Bool.false_ne_true)
    exact effect_done (congrArg done he) hm
  · have he : cellRestore c s = { s with prt.returns := s.prt.returns ++ [c] } := if_pos (by
      rw [decide_eq_true hc, bne_iff_ne.mpr hr, List.contains_eq_mem, decide_eq_false hm]
      rfl)
    exact effect_done (congrArg done he) (List.mem_append_right _ (List.mem_singleton_self c))

end Sys2Proof.Machine

/-! ## The port sequence: cleats, averages (R231, R232), and the obligation -/

namespace Sys2Proof.Machine

set_option Elab.async false

/-! ### Words written in a row -/

/-- Writes the words of a list to the members of a register that `idx` names. -/
def writeRow {α : Type} (r : Rg) (idx : Nat → Nat) (val : α → Word) (l : List α) (s : State) : State :=
  s.eachOf l.zipIdx fun e s => s.setReg r (idx e.2) (val e.1)

theorem writeRow_member {α : Type} {r : Rg} {idx : Nat → Nat} (val : α → Word) {l : List α} {i : Nat} {x : α}
    (hx : l[i]? = some x) (hinj : ∀ a b, idx a = idx b → a = b) (hi : idx i < r.count) (s : State) :
    (writeRow r idx val l s).reg r (idx i) = val x := by
  exact State.eachOf_once (key := (·.2)) (x := (x, i)) (f := fun (e : α × Nat) s => s.setReg r (idx e.2) (val e.1))
    (R := fun _ => True) (Q := fun u => u.reg r (idx i) = val x) (List.mem_zipIdx_iff_getElem?.mpr hx)
    (List.nodup_zipIdx_map_snd l)
    (fun _ _ _ _ => trivial)
    (fun y s hy h => (regOf_setReg_member s r (val y.1) fun e => hy (hinj y.2 i e)).trans h)
    (fun s _ => State.reg_setReg_same s r (idx i) (val x) hi) trivial

theorem writeRow_other {α : Type} {r : Rg} {idx : Nat → Nat} {j : Nat} (val : α → Word) {l : List α}
    (h : ∀ i, i < l.length → idx i ≠ j) (s : State) : (writeRow r idx val l s).reg r j = s.reg r j := by
  have hmem : ∀ e ∈ l.zipIdx, idx e.2 ≠ j := fun e he => h e.2 (by
    have := List.mem_zipIdx_iff_getElem?.mp he
    exact (List.getElem?_eq_some_iff.mp this).1)
  unfold writeRow State.eachOf
  generalize l.zipIdx = t at hmem
  induction t generalizing s with
  | nil => rfl
  | cons e t ih =>
    exact (ih _ fun x hx => hmem x (List.mem_cons_of_mem _ hx)).trans
      (regOf_setReg_member s r (val e.1) (hmem e List.mem_cons_self))

theorem writeRow_prt {α : Type} (r : Rg) (idx : Nat → Nat) (val : α → Word) (l : List α) (s : State) :
    (writeRow r idx val l s).prt = s.prt :=
  State.eachOf_induct (P := fun u => u.prt = s.prt) (f := fun (e : α × Nat) s => s.setReg r (idx e.2) (val e.1))
    (fun _ _ h => (State.setReg_prt ..).trans h) rfl l.zipIdx

/-! ### Cleats -/

/-- The seven words that SNAPOUT takes from a cleat. -/
def cleatRow (c : Cleat) : List Int := [c.iMax, c.iMin, c.vMax, c.vMin, c.pMax, c.pMin, (unsignedOf 16 c.tMax : Nat)]

theorem cleat_copied {g : Nat} (hg : g < 80) {s : State} {c : Cleat} (hc : (s.pg g).tel.cleat = some c) :
    Effect (.snap false g) s fun u => u.reg R.PRT_SNAPOUT 0 = BitVec.ofInt 32 c.iMax ∧
      u.reg R.PRT_SNAPOUT 1 = BitVec.ofInt 32 c.iMin ∧ u.reg R.PRT_SNAPOUT 2 = BitVec.ofInt 32 c.vMax ∧
      u.reg R.PRT_SNAPOUT 3 = BitVec.ofInt 32 c.vMin ∧ u.reg R.PRT_SNAPOUT 4 = BitVec.ofInt 32 c.pMax ∧
      u.reg R.PRT_SNAPOUT 5 = BitVec.ofInt 32 c.pMin ∧ (u.pg g).tel.cleat = none := by
  have he : snap false g s = (writeRow R.PRT_SNAPOUT id (BitVec.ofInt 32) (cleatRow c) s).setPg g
      fun x => { x with tel := { x.tel with cleat := none } } := by
    unfold snap
    rw [if_neg (by simp [hg])]
    simp only [Bool.false_eq_true, if_false, hc]
    rfl
  have hw : ∀ i x, (cleatRow c)[i]? = some x → i < 7 →
      (snap false g s).reg R.PRT_SNAPOUT i = BitVec.ofInt 32 x := fun i x hx hi => by
    rw [he]
    exact writeRow_member (r := R.PRT_SNAPOUT) (idx := id) (BitVec.ofInt 32) hx (fun _ _ h => h) hi s
  refine effect_done (u := snap false g s) rfl ⟨hw 0 _ rfl (by decide), hw 1 _ rfl (by decide), hw 2 _ rfl (by decide),
    hw 3 _ rfl (by decide), hw 4 _ rfl (by decide), hw 5 _ rfl (by decide), ?_⟩
  rw [he, pg_setPg_same hg]

/-! ### Averages -/

theorem mean_of_samples {a : Sums} (h : a.n ≠ 0) : a.mean = [BitVec.ofInt 32 (Int.tdiv a.i a.n),
    BitVec.ofInt 32 (Int.tdiv a.v a.n), BitVec.ofInt 32 (Int.tdiv a.p a.n),
    BitVec.ofNat 32 (unsignedOf 16 (truncDiv a.t a.n))] := if_neg h

theorem mean_of_none {a : Sums} (h : a.n = 0) : a.mean = [0, 0, 0, 0x8000] := if_pos h

theorem mean_length (a : Sums) : a.mean.length = 4 := by
  by_cases h : a.n = 0
  · rw [mean_of_none h]
    rfl
  · rw [mean_of_samples h]
    rfl

theorem window_restart (a : Telemetry) : ∀ w, (a.restart w).window w = {}
  | 0 => rfl
  | 1 => rfl
  | _ + 2 => rfl

/-- What a group publishes at the end of a window. -/
def publishGroup (w g : Nat) (s : State) : State :=
  (writeRow R.PRT_GTEL (fun k => 12 * g + 4 * w + k) id ((s.pg g).tel.window w).mean s).setPg g
    fun x => { x with tel := x.tel.restart w }

/-- What a cell slot publishes at the end of a window. -/
def publishCell (w c : Nat) (s : State) : State :=
  let a := (cellsFind s.prt.cellTel c).getD {}
  let s := writeRow R.PRT_CTEL (fun k => 12 * c + 4 * w + k) id (a.window w).mean s
  if (cellsFind s.prt.cellTel c).isSome then
    { s with prt.cellTel := cellsInsert s.prt.cellTel c (a.restart w) } else s

theorem averagePublish_eq {w : Nat} (hw : w < 3) (s : State) :
    averagePublish w s = (s.each 80 (publishGroup w)).each 1024 (publishCell w) :=
  if_neg (by omega)

/-- The telemetry of group `g` before a window's end: its record, and its own words are still to come. -/
def Collected (g : Nat) (t : Telemetry) (u : State) : Prop := (u.pg g).tel = t

/-- The telemetry of group `g` after a window's end: the window restarted, the averages in its words. -/
def Published (w g : Nat) (a : Sums) (u : State) : Prop := (u.pg g).tel.window w = {} ∧
  ∀ k x, a.mean[k]? = some x → u.reg R.PRT_GTEL (12 * g + 4 * w + k) = x

theorem publishGroup_other {w g j : Nat} (hj : j ≠ g) (s : State) : (publishGroup w j s).pg g = s.pg g := by
  unfold publishGroup
  refine (memberOf_set_other (α := PrtGroup) _ _ {} hj).trans ?_
  rw [writeRow_prt]
  rfl

theorem publishGroup_words {w g j k : Nat} (hk : k < 4) (hj : j ≠ g) (s : State) :
    (publishGroup w j s).reg R.PRT_GTEL (12 * g + 4 * w + k) = s.reg R.PRT_GTEL (12 * g + 4 * w + k) :=
  writeRow_other (idx := fun k => 12 * j + 4 * w + k) id (fun i hi => by
    rw [mean_length] at hi
    show 12 * j + 4 * w + i ≠ 12 * g + 4 * w + k
    omega) s

theorem mean_index {a : Sums} {k : Nat} {x : Word} (hx : a.mean[k]? = some x) : k < 4 := by
  rw [← mean_length a]
  exact (List.getElem?_eq_some_iff.mp hx).1

theorem publishGroup_publishes {w g : Nat} (hw : w < 3) (hg : g < 80) {s : State} :
    Published w g ((s.pg g).tel.window w) (publishGroup w g s) := by
  refine ⟨?_, fun k x hx => ?_⟩
  · unfold publishGroup
    rw [pg_setPg_same hg]
    exact window_restart _ w
  · have hk := mean_index hx
    exact writeRow_member (idx := fun k => 12 * g + 4 * w + k) id hx (fun _ _ h => by simpa using h)
      (by show 12 * g + 4 * w + k < 960; omega) s

theorem Published.cellTel {w g : Nat} {a : Sums} {s : State} (h : Published w g a s) (t : List (Nat × Telemetry)) :
    Published w g a { s with prt.cellTel := t } := ⟨h.1, h.2⟩

theorem publishCell_keeps {w g c : Nat} {a : Sums} {s : State} (h : Published w g a s) :
    Published w g a (publishCell w c s) := by
  have hrow : ∀ l, Published w g a (writeRow R.PRT_CTEL (fun k => 12 * c + 4 * w + k) id l s) := fun l =>
    State.eachOf_induct (P := Published w g a)
      (f := fun (e : Word × Nat) s => s.setReg R.PRT_CTEL (12 * c + 4 * w + e.2) (id e.1)) (fun y u hu =>
      ⟨(congrArg (fun x : PrtGroup => x.tel.window w) (pg_of_prt (State.setReg_prt ..) g)).trans hu.1,
        fun k x hx => (regOf_setReg_apart u R.PRT_CTEL R.PRT_GTEL _ _ _ (by decide)).trans (hu.2 k x hx)⟩) h _
  unfold publishCell
  extract_lets a' s'
  have hs' : Published w g a s' := hrow _
  clear_value s' a'
  split
  · exact hs'.cellTel _
  · exact hs'

theorem averages_published {w g : Nat} (hw : w < 3) (hg : g < 80) (s : State) :
    Published w g ((s.pg g).tel.window w) (averagePublish w s) := by
  rw [averagePublish_eq hw]
  refine State.each_induct (fun c u hu => publishCell_keeps hu) ?_ 1024
  exact State.each_once (R := Collected g (s.pg g).tel) (Q := Published w g ((s.pg g).tel.window w)) hg
    (fun j u hj hu => (congrArg PrtGroup.tel (publishGroup_other hj u)).trans hu)
    (fun j u hj hu => ⟨(congrArg (fun x => x.tel.window w) (publishGroup_other hj u)).trans hu.1,
      fun k x hx => (publishGroup_words (mean_index hx) hj u).trans (hu.2 k x hx)⟩)
    (fun u hu => by
      rw [← show (u.pg g).tel = (s.pg g).tel from hu]
      exact publishGroup_publishes hw hg) rfl

theorem averages_shown {w g : Nat} (hw : w < 3) (hg : g < 80) (s : State) : Effect (.averagePublish w) s fun u =>
    (u.pg g).tel.window w = {} ∧
      let a := (s.pg g).tel.window w
      (a.n ≠ 0 → u.reg R.PRT_GTEL (12 * g + 4 * w) = BitVec.ofInt 32 (Int.tdiv a.i a.n) ∧
        u.reg R.PRT_GTEL (12 * g + 4 * w + 1) = BitVec.ofInt 32 (Int.tdiv a.v a.n) ∧
        u.reg R.PRT_GTEL (12 * g + 4 * w + 2) = BitVec.ofInt 32 (Int.tdiv a.p a.n)) ∧
      (a.n = 0 → u.reg R.PRT_GTEL (12 * g + 4 * w) = 0 ∧ u.reg R.PRT_GTEL (12 * g + 4 * w + 3) = 0x8000) := by
  obtain ⟨hwin, hword⟩ := averages_published hw hg s
  refine effect_done (u := averagePublish w s) rfl ⟨hwin, fun h => ?_, fun h => ?_⟩
  · rw [mean_of_samples h] at hword
    exact ⟨hword 0 _ rfl, hword 1 _ rfl, hword 2 _ rfl⟩
  · rw [mean_of_none h] at hword
    exact ⟨hword 0 _ rfl, hword 3 _ rfl⟩

/-! ### The obligation -/

/-- Settles O28, by one lemma per step of the sequence, each of which ends in `toState`, `toFault`, `toOpening` or
`setMode`. -/
theorem portSequence : Obligations.PortSequence := by
  unfold Obligations.PortSequence
  intro g s hg
  refine ⟨closed_to_check hg, closing_times_out hg, precharge_completes hg, precharge_times_out hg,
    rampdown_completes hg, discharge_completes hg, discharge_times_out hg, discharge_forced hg, contactors_opened hg,
    opening_times_out hg, fun h => ⟨weld_passed_all hg h, weld_found hg h, weld_goes_on hg h⟩, opened_unasked hg,
    fun h ha hr _ => autocv_switches hg h ha hr, search_starts hg,
    fun n hn => ⟨fun c k hh hrm hrem => search_finds hg hn hh ⟨hrm, hrem⟩, search_unexplained hg hn⟩,
    fun c hc hgr => ⟨fun hrm hrem => open_cell_noted hc hg hgr ⟨hrm, hrem⟩, cell_restored hc⟩,
    fun c => cleat_copied hg, fun w hw => averages_shown hw hg s⟩

end Sys2Proof.Machine

/-! ## Site allocation: what the steps of a period keep (R235 to R268) -/

namespace Sys2Proof.Machine

set_option Elab.async false

/-! ### Causes of the allocator -/

/-- The allocator shows cause `j`. -/
def AlcCause (j : Nat) (s : State) : Prop := bitOf (fieldOf s.regs Fl.ALC_STAT_CAUSE 0) j = true

theorem alcCause_shows {j : Nat} (hj : j < 8) (s : State) : AlcCause j (alcCause j s) :=
  bitOf_causeOn _ _ _ _ _ _ (by decide) (by decide) hj (by decide)

theorem alcCause_keeps {j k : Nat} (hk : k < 8) {s : State} (h : AlcCause k s) : AlcCause k (alcCause j s) :=
  bitOf_causeOn_keeps (by decide) (by decide) (by decide) hk (by decide) h

theorem alcCause_alc (j : Nat) (s : State) : (alcCause j s).alc = s.alc := State.causeOn_alc ..

theorem fieldOf_alcCause {fl : Fld} (j i : Nat) (s : State)
    (h : (Fl.ALC_STAT_CAUSE.apart fl && Fl.EVT_PEND_PEND.apart fl) = true) :
    fieldOf (alcCause j s).regs fl i = fieldOf s.regs fl i :=
  fieldOf_causeOn _ _ _ _ _ _ _ _ (Bool.and_eq_true_iff.mp h).1 (Bool.and_eq_true_iff.mp h).2

/-! ### What the start of a period keeps -/

/-- The listed fields stand, no cause of the allocator falls, and the last results, the device's phase, the ring and
the clock stand. -/
structure PeriodKeeps (l : List Fld) (s u : State) : Prop where
  field : ∀ fl ∈ l, ∀ i, fieldOf u.regs fl i = fieldOf s.regs fl i
  cause : ∀ j, j < 8 → AlcCause j s → AlcCause j u
  previous : u.alc.previous = s.alc.previous
  sys : u.sys = s.sys
  rng : u.rng = s.rng
  time : u.time = s.time

/-- A field stands beside the fields of a list, the causes among them. -/
def besides (l : List Fld) (fl : Fld) : Bool := (Fl.ALC_STAT_CAUSE :: l).all fl.apart

theorem besides_apart {l : List Fld} {fl k : Fld} (h : besides l fl = true) (hk : k ∈ Fl.ALC_STAT_CAUSE :: l) :
    fl.apart k = true := List.all_eq_true.mp h k hk

section Keeps

variable {l : List Fld} {s u v : State}

theorem PeriodKeeps.refl (l : List Fld) (s : State) : PeriodKeeps l s s :=
  ⟨fun _ _ _ => rfl, fun _ _ h => h, rfl, rfl, rfl, rfl⟩

theorem PeriodKeeps.trans (h : PeriodKeeps l s u) (h' : PeriodKeeps l u v) : PeriodKeeps l s v :=
  ⟨fun fl hf i => (h'.field fl hf i).trans (h.field fl hf i), fun j hj hc => h'.cause j hj (h.cause j hj hc),
    h'.previous.trans h.previous, h'.sys.trans h.sys, h'.rng.trans h.rng, h'.time.trans h.time⟩

theorem PeriodKeeps.mono {k : List Fld} (h : PeriodKeeps l s u) (hk : k ⊆ l) : PeriodKeeps k s u :=
  { h with field := fun fl hf => h.field fl (hk hf) }

theorem PeriodKeeps.held (h : PeriodKeeps l s u) (hl : Fl.RNG_STAT_STATE ∈ l) : u.ringHeld = s.ringHeld := by
  unfold State.ringHeld
  rw [h.rng, f_of_field (h.field _ hl 0)]

theorem PeriodKeeps.now (h : PeriodKeeps l s u) : u.now = s.now :=
  congrArg (fun x : TimeState => x.now / 2 ^ 32 % 2 ^ 64) h.time

/-- Only the allocation's own part changes, and not the last results. -/
theorem keeps_alc {a : AlcState} (h : a.previous = s.alc.previous) : PeriodKeeps l s { s with alc := a } :=
  ⟨fun _ _ _ => rfl, fun _ _ h => h, h, rfl, rfl, rfl⟩

theorem keeps_setF {fl : Fld} (h : besides l fl = true) (i v : Nat) (s : State) : PeriodKeeps l s (s.setF fl i v) where
  field := fun k hk j => fieldOf_setF_apart s fl k i j v (besides_apart h (List.mem_cons_of_mem _ hk))
  cause := fun j _ hc => (congrArg (bitOf · j)
    (fieldOf_setF_apart s fl Fl.ALC_STAT_CAUSE i 0 v (besides_apart h List.mem_cons_self))).trans hc
  previous := congrArg AlcState.previous (State.setF_alc ..)
  sys := State.setF_sys ..
  rng := State.setF_rng ..
  time := State.setF_time ..

theorem keeps_setReg {r : Rg} (h : ((Fl.ALC_STAT_CAUSE :: l).all fun k => r.apart k.reg) = true) (i : Nat) (v : Word)
    (s : State) : PeriodKeeps l s (s.setReg r i v) where
  field := fun k hk j =>
    fieldOf_setReg_apart s r k i j v (List.all_eq_true.mp h k (List.mem_cons_of_mem _ hk))
  cause := fun j _ hc => (congrArg (bitOf · j) (fieldOf_setReg_apart s r Fl.ALC_STAT_CAUSE i 0 v
    (List.all_eq_true.mp h _ List.mem_cons_self))).trans hc
  previous := congrArg AlcState.previous (State.setReg_alc ..)
  sys := State.setReg_sys ..
  rng := State.setReg_rng ..
  time := State.setReg_time ..

theorem keeps_cause (h : (l.all fun k => Fl.ALC_STAT_CAUSE.apart k && Fl.EVT_PEND_PEND.apart k) = true) (j : Nat)
    (s : State) : PeriodKeeps l s (alcCause j s) where
  field := fun k hk i => fieldOf_alcCause j i s (List.all_eq_true.mp h k hk)
  cause := fun _ hk hc => alcCause_keeps hk hc
  previous := congrArg AlcState.previous (alcCause_alc j s)
  sys := State.causeOn_sys ..
  rng := State.causeOn_rng ..
  time := State.causeOn_time ..

end Keeps

/-- The fields that the start of a period sets last: after these nothing of it writes them. -/
def sheetFlds : List Fld := [Fl.PRT_ISHEET_SHEET, Fl.ALC_STAT_STATE, Fl.RNG_STAT_STATE]

/-- The same with the period in force. -/
def pacedFlds : List Fld := Fl.ALC_CFG_PERIOD :: sheetFlds

theorem showBound_keeps (s : State) : PeriodKeeps pacedFlds s (showBound s) := keeps_setF (by decide) 0 _ s

theorem takeView_keeps (s : State) : PeriodKeeps pacedFlds s (takeView s) := by
  unfold takeView
  extract_lets e g was a s1
  have h1 : PeriodKeeps pacedFlds s s1 := keeps_alc rfl
  have h2 : PeriodKeeps pacedFlds s1 (alcCause 7 ((s1.setF Fl.ALC_EPOCH_EPOCH 0 e).setF Fl.ALC_STAT_GEN 0 g)) :=
    ((keeps_setF (by decide) 0 e s1).trans (keeps_setF (by decide) 0 g _)).trans (keeps_cause (by decide) 7 _)
  split
  · exact h1
  · refine ((h1.trans h2).trans ?_).trans (showBound_keeps _)
    split
    · exact .refl _ _
    · exact keeps_cause (by decide) 3 _

theorem treeCommit_keeps (s : State) : PeriodKeeps pacedFlds s (treeCommit s) := by
  unfold treeCommit
  extract_lets a s1 a' new t ok
  have h1 : PeriodKeeps pacedFlds s s1 := keeps_alc rfl
  have h2 : PeriodKeeps pacedFlds s new := h1.trans (keeps_alc rfl)
  split
  · exact (h2.trans (keeps_setReg (by decide) 0 _ new)).trans (showBound_keeps _)
  · exact h1.trans (keeps_cause (by decide) 3 s1)

theorem takePeriod_keeps (s : State) : PeriodKeeps sheetFlds s (takePeriod s) := by
  unfold takePeriod
  split
  · exact .refl _ _
  · split
    · exact (keeps_setF (by decide) 0 _ s).trans (keeps_alc rfl)
    · exact .refl _ _

theorem takeSnapshot_keeps (s : State) : PeriodKeeps pacedFlds s (takeSnapshot s) := by
  unfold takeSnapshot
  extract_lets seq s1 own proxy
  exact (keeps_setF (by decide) 0 seq s).trans (keeps_alc rfl)

/-- The end of a period's start: the view, the period, the commit of the tree, the snapshot. -/
def viewTaken (s : State) : State := (takeView s).when (takeView s).alc.commit treeCommit

def snapshotTaken (s : State) : State := if s.allocating then takeSnapshot s else s

theorem viewTaken_keeps (s : State) : PeriodKeeps pacedFlds s (viewTaken s) :=
  (takeView_keeps s).trans (State.when_cases (P := PeriodKeeps pacedFlds (takeView s)) (fun _ => .refl _ _)
    fun _ => treeCommit_keeps _)

theorem snapshotTaken_keeps (s : State) : PeriodKeeps pacedFlds s (snapshotTaken s) := by
  unfold snapshotTaken
  split
  · exact takeSnapshot_keeps s
  · exact .refl _ _

theorem sheet_paced : sheetFlds ⊆ pacedFlds := List.subset_cons_self _ _

theorem closing_keeps (s : State) : PeriodKeeps sheetFlds s (snapshotTaken (viewTaken (takePeriod s))) :=
  ((takePeriod_keeps s).trans ((viewTaken_keeps _).mono sheet_paced)).trans ((snapshotTaken_keeps _).mono sheet_paced)

end Sys2Proof.Machine

/-! ## Site allocation: the start of a period (R235, R240, R246, R258, R259) -/

namespace Sys2Proof.Machine

set_option Elab.async false

/-! ### Sheets and setpoints -/

/-- The fields of the allocator's state and of the ring's. -/
def stateFlds : List Fld := [Fl.ALC_STAT_STATE, Fl.RNG_STAT_STATE]

theorem state_sheet : stateFlds ⊆ sheetFlds := List.subset_cons_self _ _

theorem setSheet_keeps (p v : Nat) (s : State) : PeriodKeeps stateFlds s (setSheet p v s) :=
  (keeps_setF (by decide) _ v s).trans (keeps_setF (by decide) p v _)

theorem setSheet_alc (p v : Nat) (s : State) : (setSheet p v s).alc = s.alc := by simp [setSheet]

theorem setSheet_same {p : Nat} (hp : p < 24) (v : Nat) (s : State) :
    (setSheet p v s).f Fl.PRT_ISHEET_SHEET p = v % 2 ^ 32 := by
  have hg : portGroup p = p := if_pos hp
  have hsame : fieldOf (s.setF Fl.PRT_ISHEET_SHEET p v).regs Fl.PRT_ISHEET_SHEET p = v % 2 ^ 32 :=
    fieldOf_setF_same s Fl.PRT_ISHEET_SHEET p v (lt_of_lt_of_le hp (by decide)) (by decide)
  unfold setSheet
  rw [hg]
  exact (fieldOf_setF_apart _ Fl.ALC_PAPPLIED_APPLIED Fl.PRT_ISHEET_SHEET p p v (by decide)).trans hsame

theorem setSheet_other {p q : Nat} (hp : p < 24) (h : q ≠ p) (v : Nat) (s : State) :
    (setSheet q v s).f Fl.PRT_ISHEET_SHEET p = s.f Fl.PRT_ISHEET_SHEET p := by
  have hg : portGroup q ≠ p := by
    unfold portGroup
    split <;> omega
  exact (fieldOf_setF_apart _ Fl.ALC_PAPPLIED_APPLIED Fl.PRT_ISHEET_SHEET q p v (by decide)).trans
    (fieldOf_setF_member s Fl.PRT_ISHEET_SHEET v hg)

theorem setSheet_applied {p q : Nat} (h : q ≠ p) (v : Nat) (s : State) :
    (setSheet q v s).f Fl.ALC_PAPPLIED_APPLIED p = s.f Fl.ALC_PAPPLIED_APPLIED p :=
  (fieldOf_setF_member _ Fl.ALC_PAPPLIED_APPLIED v h).trans
    (fieldOf_setF_apart s Fl.PRT_ISHEET_SHEET Fl.ALC_PAPPLIED_APPLIED (portGroup q) p v (by decide))

theorem setSetpoint_keeps (i : Nat) (v : Int) (s : State) : PeriodKeeps sheetFlds s (setSetpoint i v s) := by
  unfold setSetpoint
  extract_lets g s1 va
  have h1 : PeriodKeeps sheetFlds s s1 := keeps_setF (fl := Fl.ALC_SSETPOINT_SETPOINT) (by decide) i _ s
  split
  · split
    · exact h1
    · exact h1.trans (keeps_setReg (r := R.PRT_ISET) (by decide) g _ s1)
  · exact h1

theorem keeps_eachOf {α : Type} {l : List Fld} {f : α → State → State} (h : ∀ x s, PeriodKeeps l s (f x s))
    (xs : List α) (s : State) : PeriodKeeps l s (s.eachOf xs f) :=
  State.eachOf_induct (P := PeriodKeeps l s) (fun x u hu => hu.trans (h x u)) (.refl l s) xs

/-- A port is one of the device's own. -/
theorem mem_ownPorts {p : Nat} (hp : p < 24) (s : State) : p ∈ s.ownPorts := by
  unfold State.ownPorts
  split
  · exact List.mem_range.mpr (by omega)
  · exact List.mem_range.mpr hp

theorem ownPorts_nodup (s : State) : (s.ownPorts.map id).Nodup := by
  rw [List.map_id]
  exact List.nodup_range

/-- Every own port takes the sheet that `v` gives it at its turn. -/
def sheetsSet (v : Nat → State → Nat) (s : State) : State := s.eachOf s.ownPorts fun p u => setSheet p (v p u) u

theorem sheetsSet_keeps (v : Nat → State → Nat) (s : State) : PeriodKeeps stateFlds s (sheetsSet v s) :=
  keeps_eachOf (fun p u => setSheet_keeps p (v p u) u) _ s

/-- The sheet of port `p` is what `v` gives it, where that depends only on what the other ports' turns leave. -/
theorem sheetsSet_sheet {p x : Nat} (hp : p < 24) {v : Nat → State → Nat} {s : State}
    (hv : ∀ u, u.alc = s.alc → u.f Fl.ALC_PAPPLIED_APPLIED p = s.f Fl.ALC_PAPPLIED_APPLIED p → v p u = x) :
    (sheetsSet v s).f Fl.PRT_ISHEET_SHEET p = x % 2 ^ 32 :=
  State.eachOf_once (key := id) (x := p) (f := fun p u => setSheet p (v p u) u)
    (R := fun u => u.alc = s.alc ∧ u.f Fl.ALC_PAPPLIED_APPLIED p = s.f Fl.ALC_PAPPLIED_APPLIED p)
    (Q := fun u => u.f Fl.PRT_ISHEET_SHEET p = x % 2 ^ 32) (mem_ownPorts hp s) (ownPorts_nodup s)
    (fun _ u hq hu => ⟨(setSheet_alc ..).trans hu.1, (setSheet_applied hq _ u).trans hu.2⟩)
    (fun _ u hq hu => (setSheet_other hp hq _ u).trans hu)
    (fun u hu => (setSheet_same hp _ u).trans (congrArg (· % 2 ^ 32) (hv u hu.1 hu.2))) ⟨rfl, rfl⟩

theorem zeroSheets_eq (s : State) : zeroSheets s =
    (sheetsSet (fun _ _ => 0) s).eachOf (sheetsSet (fun _ _ => 0) s).ownStrings fun i s => setSetpoint i 0 s := rfl

theorem zeroSheets_keeps (s : State) : PeriodKeeps stateFlds s (zeroSheets s) := by
  rw [zeroSheets_eq]
  exact (sheetsSet_keeps _ s).trans ((keeps_eachOf (fun i u => setSetpoint_keeps i 0 u) _ _).mono state_sheet)

theorem zeroSheets_sheet {p : Nat} (hp : p < 24) (s : State) : (zeroSheets s).f Fl.PRT_ISHEET_SHEET p = 0 := by
  rw [zeroSheets_eq]
  exact ((keeps_eachOf (fun i u => setSetpoint_keeps i 0 u) _ _).field _ List.mem_cons_self p).trans
    (sheetsSet_sheet hp (x := 0) fun _ _ _ => rfl)

/-! ### A result applied -/

/-- What a result gives port `p`. -/
def sheetOf (agree : Bool) (r : List (Nat × Int)) (p : Nat) (s : State) : Int :=
  match cellsFind s.alc.negative p with
  | some m => m
  | none => if agree then min (intAt r p) (intAt s.alc.previous p)
    else min (intAt r p) (s.f Fl.ALC_PAPPLIED_APPLIED p)

/-- What a result gives string `i`. -/
def setpointOf (agree : Bool) (r : List (Nat × Int)) (i : Nat) (s : State) : Int :=
  if agree then min (intAt r (64 + i)) (intAt s.alc.previous (64 + i))
  else min (intAt r (64 + i)) (signedOf 32 (s.f Fl.ALC_SSETPOINT_SETPOINT i))

/-- Every own string takes its setpoint of a result. -/
def setpointsSet (agree : Bool) (r : List (Nat × Int)) (s : State) : State :=
  s.eachOf s.ownStrings fun i u => setSetpoint i (setpointOf agree r i u) u

/-- The sheets and the setpoints of a result. -/
def resultSet (r : List (Nat × Int)) (s : State) : State :=
  setpointsSet (s.b Fl.ALC_STAT_AGREE) r (sheetsSet (fun p u => (sheetOf (s.b Fl.ALC_STAT_AGREE) r p u).toNat) s)

theorem applyResult_eq (r : List (Nat × Int)) (s : State) :
    applyResult r s = alcCause 0 { resultSet r s with alc.previous := r, alc.result := none } := rfl

theorem setpointsSet_keeps (agree : Bool) (r : List (Nat × Int)) (s : State) :
    PeriodKeeps sheetFlds s (setpointsSet agree r s) :=
  keeps_eachOf (fun i u => setSetpoint_keeps i (setpointOf agree r i u) u) _ s

/-- Port `p` has the smaller of two results, or of a result and the sheet in force. -/
def AppliedSheet (r : List (Nat × Int)) (p : Nat) (s u : State) : Prop :=
  u.f Fl.PRT_ISHEET_SHEET p = (if s.f Fl.ALC_STAT_AGREE = 1 then min (intAt r p) (intAt s.alc.previous p)
    else min (intAt r p) (s.f Fl.ALC_PAPPLIED_APPLIED p)).toNat % 2 ^ 32

theorem sheetOf_plain {r : List (Nat × Int)} {p : Nat} {s u : State} (hn : cellsFind s.alc.negative p = none)
    (ha : u.alc = s.alc) (hp : u.f Fl.ALC_PAPPLIED_APPLIED p = s.f Fl.ALC_PAPPLIED_APPLIED p) :
    sheetOf (s.b Fl.ALC_STAT_AGREE) r p u = if s.f Fl.ALC_STAT_AGREE = 1 then min (intAt r p) (intAt s.alc.previous p)
      else min (intAt r p) (s.f Fl.ALC_PAPPLIED_APPLIED p) := by
  unfold sheetOf
  rw [ha, hn, hp, bitOf_fits s Fl.ALC_STAT_AGREE 0 rfl]
  by_cases h : s.f Fl.ALC_STAT_AGREE = 1
  · simp [h]
  · simp [h]

theorem resultSet_sheet {r : List (Nat × Int)} {p : Nat} (hp : p < 24) {s : State}
    (hn : cellsFind s.alc.negative p = none) : AppliedSheet r p s (resultSet r s) :=
  ((setpointsSet_keeps _ r _).field Fl.PRT_ISHEET_SHEET List.mem_cons_self p).trans
    (sheetsSet_sheet hp fun _ ha hap => congrArg Int.toNat (sheetOf_plain hn ha hap))

theorem resultSet_keeps (r : List (Nat × Int)) (s : State) : PeriodKeeps stateFlds s (resultSet r s) :=
  (sheetsSet_keeps _ s).trans ((setpointsSet_keeps _ r _).mono state_sheet)

/-- A result is in force: the sheet of port `p`, cause 0 and the result kept as the last one. -/
structure InForce (r : List (Nat × Int)) (p : Nat) (s u : State) : Prop where
  sheet : AppliedSheet r p s u
  cause : AlcCause 0 u
  previous : u.alc.previous = r

theorem InForce.keeps {r : List (Nat × Int)} {p : Nat} {s u v : State} (h : InForce r p s u)
    (hk : PeriodKeeps sheetFlds u v) : InForce r p s v where
  sheet := (hk.field Fl.PRT_ISHEET_SHEET List.mem_cons_self p).trans h.sheet
  cause := hk.cause 0 (by decide) h.cause
  previous := hk.previous.trans h.previous

theorem applyResult_inForce {r : List (Nat × Int)} {p : Nat} (hp : p < 24) {s : State}
    (hn : cellsFind s.alc.negative p = none) : InForce r p s (applyResult r s) := by
  rw [applyResult_eq]
  refine ⟨(fieldOf_alcCause 0 p _ (by decide)).trans (resultSet_sheet hp hn), alcCause_shows (by decide) _, ?_⟩
  rw [alcCause_alc]

theorem applyResult_state (r : List (Nat × Int)) (s : State) :
    (applyResult r s).f Fl.ALC_STAT_STATE = s.f Fl.ALC_STAT_STATE := by
  rw [applyResult_eq]
  exact (fieldOf_alcCause 0 0 _ (by decide)).trans ((resultSet_keeps r s).field _ List.mem_cons_self 0)

/-! ### The start of a period -/

/-- What the results of the solve before bring at the start of a period. -/
def resultsTaken (s : State) : State :=
  match s.alc.overran, s.alc.result with
  | true, _ => applyOverrun s
  | false, some r => if s.alcOn && !s.ringHeld then applyResult r s else zeroSheets { s with alc.result := none }
  | false, none => s

/-- The steps after the grids' start. -/
def periodSteps (s : State) : State := snapshotTaken (viewTaken (takePeriod (finishAlloc (resultsTaken s))))

/-- Grids start in the loop engine alone. -/
theorem gridStart_eq (s : State) : ∃ e, gridStart s = { s with lpe := e } :=
  State.each_induct (P := fun u => ∃ e, u = { s with lpe := e }) (fun g u ⟨e, hu⟩ => by
    subst hu
    split
    · exact ⟨_, rfl⟩
    · exact ⟨e, rfl⟩) ⟨s.lpe, rfl⟩ 8

theorem ringPeriod_idle {s : State} (hp : s.f Fl.RNG_STAT_PROT = 0) (hc : s.rng.complete = false) : ringPeriod s = s
  := by
  unfold ringPeriod
  rw [hp]
  simp [hc]

theorem periodStart_steps {s : State} (h2 : s.sys.saveStep < 2) (he : s.sys.saveEnd = false) :
    ∃ e, periodStart s = periodSteps { s with lpe := e } := by
  obtain ⟨e, hg⟩ := gridStart_eq s
  refine ⟨e, ?_⟩
  unfold periodStart
  rw [hg]
  have hsave : (decide (2 ≤ s.sys.saveStep) || s.sys.saveEnd) = false := by
    rw [he, decide_eq_false (by omega)]
    rfl
  exact if_neg (by rw [hsave]; exact Bool.false_ne_true)

theorem finishAlloc_stays {s : State} (h : s.f Fl.ALC_STAT_STATE = 1) : finishAlloc s = s := by
  unfold finishAlloc
  rw [h] <;> rfl

theorem finishAlloc_stops {s : State} (h : s.f Fl.ALC_STAT_STATE = 2) :
    finishAlloc s = zeroSheets (s.setF Fl.ALC_STAT_STATE 0 0) := by
  unfold finishAlloc
  rw [h] <;> rfl

/-- The steps of a period with a result to apply. -/
theorem result_applied {r : List (Nat × Int)} {p : Nat} {s : State} (ho : s.alc.overran = false)
    (hr : s.alc.result = some r) (hen : s.f Fl.ALC_CTL_EN = 1) (hh : s.ringHeld = false)
    (h1 : s.f Fl.ALC_STAT_STATE = 1) (hp : p < 24) (hn : cellsFind s.alc.negative p = none) :
    InForce r p s (periodSteps s) := by
  have ht : resultsTaken s = applyResult r s := by
    unfold resultsTaken State.alcOn
    rw [ho, hr, b_true hen, hh]
    rfl
  unfold periodSteps
  rw [ht, finishAlloc_stays ((applyResult_state r s).trans h1)]
  exact (applyResult_inForce hp hn).keeps (closing_keeps _)

theorem resultsTaken_none {s : State} (ho : s.alc.overran = false) (hr : s.alc.result = none) : resultsTaken s = s := by
  unfold resultsTaken
  rw [ho, hr]

/-- The steps of a period of an allocator that stops. -/
theorem allocator_stops {s : State} (ho : s.alc.overran = false) (hr : s.alc.result = none)
    (h2 : s.f Fl.ALC_STAT_STATE = 2) : (periodSteps s).f Fl.ALC_STAT_STATE = 0 ∧
      ∀ p, p < 24 → (periodSteps s).f Fl.PRT_ISHEET_SHEET p = 0 := by
  unfold periodSteps
  rw [resultsTaken_none ho hr, finishAlloc_stops h2]
  have hk := closing_keeps (zeroSheets (s.setF Fl.ALC_STAT_STATE 0 0))
  refine ⟨(hk.field Fl.ALC_STAT_STATE (by simp [sheetFlds]) 0).trans
    (((zeroSheets_keeps _).field _ List.mem_cons_self 0).trans ?_), fun p hp =>
      (hk.field Fl.PRT_ISHEET_SHEET List.mem_cons_self p).trans (zeroSheets_sheet hp _)⟩
  exact fieldOf_setF_fits s Fl.ALC_STAT_STATE 0 0 (by decide) (by decide) (by decide)

theorem takeSnapshot_opens (s : State) : (takeSnapshot s).alc.windowOpen = true ∧
    (takeSnapshot s).f Fl.ALC_SEQ_SEQ = s.now / (1000 * s.f Fl.ALC_CFG_PERIOD) % 2 ^ 32 :=
  ⟨rfl, fieldOf_setF_fits s Fl.ALC_SEQ_SEQ 0 _ (by decide) (by decide) (Nat.mod_lt _ (Nat.two_pow_pos 32))⟩

/-- The steps of a period of a running allocator with its period in force. -/
theorem window_opens {s : State} (hs : s.sys.saveStep < 2) (he : s.sys.saveEnd = false) (ho : s.alc.overran = false)
    (hr : s.alc.result = none) (h1 : s.f Fl.ALC_STAT_STATE = 1) (hh : s.ringHeld = false)
    (hp : s.alc.periodPend = none) : (periodSteps s).alc.windowOpen = true ∧
      (periodSteps s).f Fl.ALC_SEQ_SEQ = s.now / (1000 * s.f Fl.ALC_CFG_PERIOD) % 2 ^ 32 := by
  have htp : takePeriod s = s := by
    unfold takePeriod
    rw [hp]
  unfold periodSteps
  rw [resultsTaken_none ho hr, finishAlloc_stays h1, htp]
  have hk := viewTaken_keeps s
  have hrun : (viewTaken s).allocating = true := by
    unfold State.allocating
    rw [hk.sys, hk.held (by simp [pacedFlds, sheetFlds]), he, hh,
      f_of_field (hk.field Fl.ALC_STAT_STATE (by simp [pacedFlds, sheetFlds]) 0), h1, decide_eq_true hs]
    rfl
  unfold snapshotTaken
  rw [if_pos hrun, ← hk.now, ← f_of_field (hk.field Fl.ALC_CFG_PERIOD List.mem_cons_self 0)]
  exact takeSnapshot_opens _

end Sys2Proof.Machine

/-! ## Site allocation: the window, the solve, halyards and configuration (R236 to R267) -/

namespace Sys2Proof.Machine

set_option Elab.async false

/-! ### The start of a period, as a command -/

section Start

variable {s : State} (h2 : s.sys.saveStep < 2) (he : s.sys.saveEnd = false) (hp : s.f Fl.RNG_STAT_PROT = 0)
  (hc : s.rng.complete = false)

include h2 he hp hc

theorem periodStart_effect {P : State → Prop} (h : ∀ e, P (periodSteps { s with lpe := e })) :
    Effect .allocationPeriodStart s P := by
  obtain ⟨e, hs⟩ := periodStart_steps h2 he
  have hr : exec .allocationPeriodStart s = done (periodSteps { s with lpe := e }) :=
    congrArg done ((congrArg periodStart (ringPeriod_idle hp hc)).trans hs)
  exact effect_done hr (h e)

end Start

/-! ### The end of the exchange window -/

/-- What the window's end decides on the solve before. -/
def agreeNow (s : State) : Bool :=
  !s.alc.noAgree && s.alc.epochBefore == s.alc.epochNow && s.others.all fun m => match cellsFind s.alc.received m with
    | none => false
    | some h => leNat ((h.drop 0x10).take 8) == s.q R.ALC_IDL R.ALC_IDH

theorem decideAgree_shows (s : State) : (decideAgree s).f Fl.ALC_STAT_AGREE = b2n (agreeNow s) := by
  have hset : ∀ u : State, fieldOf (u.setB Fl.ALC_STAT_AGREE 0 (agreeNow s)).regs Fl.ALC_STAT_AGREE 0 =
      b2n (agreeNow s) := fun u =>
    fieldOf_setB_same u Fl.ALC_STAT_AGREE 0 (agreeNow s) (by decide) (by decide) (by decide)
  unfold decideAgree
  extract_lets id ok a s1
  have h1 : fieldOf s1.regs Fl.ALC_STAT_AGREE 0 = b2n (agreeNow s) := hset _
  split
  · exact h1
  · exact (fieldOf_alcCause 2 0 _ (by decide)).trans
      ((fieldOf_satF_apart s1 Fl.ALC_CNT_NOAGREE Fl.ALC_STAT_AGREE 0 0 1 (by decide)).trans h1)

theorem markMissing_alc (s : State) : (markMissing s).alc = s.alc := by
  unfold markMissing
  extract_lets s1
  have h1 : s1.alc = s.alc :=
    State.each_induct (P := fun u => u.alc = s.alc) (fun j u hu => (State.setReg_alc ..).trans hu) rfl 8
  refine State.eachOf_induct (P := fun u => u.alc = s.alc) (fun m u hu => ?_) h1 _
  rw [alcCause_alc, State.satF_alc, State.setFBit_alc, hu]

/-- What the missing halyards write: their bits, their counter, the causes and the pending bits. -/
def missingFlds : List Fld := [Fl.ALC_MISS_MOD, Fl.ALC_CNT_LATE, Fl.ALC_STAT_CAUSE, Fl.EVT_PEND_PEND]

theorem markMissing_field {fl : Fld} (h : (R.ALC_MISS.apart fl.reg && fldsApart missingFlds fl) = true) (i : Nat)
    (s : State) : fieldOf (markMissing s).regs fl i = fieldOf s.regs fl i := by
  obtain ⟨hm, hf⟩ := Bool.and_eq_true_iff.mp h
  unfold markMissing
  extract_lets s1
  have h1 : fieldOf s1.regs fl i = fieldOf s.regs fl i :=
    fieldOf_each (fun j u => fieldOf_setReg_apart u R.ALC_MISS fl j i 0 hm) s 8
  refine State.eachOf_induct (P := fun u => fieldOf u.regs fl i = fieldOf s.regs fl i) (fun m u hu => ?_) h1 _
  have hfl : ∀ b ∈ missingFlds, b.apart fl = true := fun b hb => apart_of_mem hf hb
  rw [fieldOf_alcCause 1 i _ (by rw [hfl _ (by simp [missingFlds]), hfl _ (by simp [missingFlds])]; rfl),
    fieldOf_satF_apart _ _ _ _ _ _ (hfl _ (by simp [missingFlds])),
    fieldOf_setFBit_apart _ _ _ _ _ _ _ (hfl _ (by simp [missingFlds])), hu]

theorem markMissing_others (s : State) : (markMissing s).others = s.others := by
  have hf : ∀ fl i, fl ∈ [Fl.RNG_VIEWST_NMEM, Fl.RNG_MEM_MOD, Fl.RNG_CFG_MODID] →
      (markMissing s).f fl i = s.f fl i := fun fl i hfl => f_of_field (markMissing_field (by
    have hall : [Fl.RNG_VIEWST_NMEM, Fl.RNG_MEM_MOD, Fl.RNG_CFG_MODID].all (fun fl =>
      R.ALC_MISS.apart fl.reg && fldsApart missingFlds fl) = true := by decide
    exact List.all_eq_true.mp hall fl hfl) i s)
  unfold State.others State.inView State.member State.modid
  simp only [hf _ _ (List.mem_cons_self (a := Fl.RNG_VIEWST_NMEM)), hf Fl.RNG_MEM_MOD _ (by simp),
    hf Fl.RNG_CFG_MODID _ (by simp)]

theorem markMissing_agree {s : State} (ho : s.others = []) :
    agreeNow (markMissing s) = (!s.alc.noAgree && s.alc.epochBefore == s.alc.epochNow) := by
  unfold agreeNow
  rw [markMissing_alc, markMissing_others, ho]
  exact Bool.and_true _

theorem countOver_regs (hs : List (List Byte)) (t : List TreeNode) (s : State) : (countOver hs t s).regs = s.regs := by
  unfold countOver
  rfl

/-- The window has ended: the decision stands in AGREE and the solve is begun. -/
structure WindowEnded (agree : Bool) (u : State) : Prop where
  closed : u.alc.windowOpen = false
  solving : u.alc.solving.isSome = true
  agreed : u.f Fl.ALC_STAT_AGREE = b2n agree

theorem windowClose_decides {s : State} (ha : s.allocating = true) (hw : s.alc.windowOpen = true) :
    WindowEnded (agreeNow (markMissing s)) (windowClose s) := by
  have hrun : (!s.allocating || !s.alc.windowOpen) = false := by
    rw [ha, hw]
    rfl
  unfold windowClose
  rw [hrun]
  rw [if_neg Bool.false_ne_true]
  extract_lets s1 used id s2 s3 hs s4 a
  have h1 : fieldOf s1.regs Fl.ALC_STAT_AGREE 0 = b2n (agreeNow (markMissing s)) := decideAgree_shows _
  have h2 : fieldOf s2.regs Fl.ALC_STAT_AGREE 0 = fieldOf s1.regs Fl.ALC_STAT_AGREE 0 :=
    (fieldOf_setReg_apart _ R.ALC_IDH Fl.ALC_STAT_AGREE 0 0 _ (by decide)).trans
      (fieldOf_setReg_apart s1 R.ALC_IDL Fl.ALC_STAT_AGREE 0 0 _ (by decide))
  have h3 : fieldOf s3.regs Fl.ALC_STAT_AGREE 0 = fieldOf s2.regs Fl.ALC_STAT_AGREE 0 :=
    State.when_cases (P := fun u => fieldOf u.regs Fl.ALC_STAT_AGREE 0 = fieldOf s2.regs Fl.ALC_STAT_AGREE 0)
      (fun _ => rfl) fun _ => fieldOf_alcCause 6 0 s2 (by decide)
  have h4 : s4.regs = s3.regs := countOver_regs hs (s3.solveTreeOf hs) s3
  clear_value s4
  refine ⟨rfl, rfl, ?_⟩
  exact (congrArg (fieldOf · Fl.ALC_STAT_AGREE 0) h4).trans (h3.trans (h2.trans h1))

theorem window_closes {s : State} (ha : s.allocating = true) (hw : s.alc.windowOpen = true) :
    Effect .exchangeWindowClose s fun u => u.alc.windowOpen = false ∧ u.alc.solving.isSome = true ∧ (s.others = [] →
      u.f Fl.ALC_STAT_AGREE = b2n (!s.alc.noAgree && s.alc.epochBefore == s.alc.epochNow)) := by
  obtain ⟨hopen, hsolve, hagree⟩ := windowClose_decides ha hw
  exact effect_done (u := windowClose s) rfl
    ⟨hopen, hsolve, fun ho => hagree.trans (congrArg b2n (markMissing_agree ho))⟩

/-! ### The end of a solve -/

/-- A solve has ended with its time shown. -/
structure Solved (d : Nat) (u : State) : Prop where
  solving : u.alc.solving = none
  result : u.alc.result.isSome = true
  last : u.f Fl.ALC_TSOLVE_LAST = min d 65535

theorem Solved.of {d : Nat} {s u : State} (h : Solved d s) (ha : u.alc = s.alc)
    (hf : fieldOf u.regs Fl.ALC_TSOLVE_LAST 0 = fieldOf s.regs Fl.ALC_TSOLVE_LAST 0) : Solved d u where
  solving := (congrArg AlcState.solving ha).trans h.solving
  result := (congrArg (fun a : AlcState => a.result.isSome) ha).trans h.result
  last := (f_of_field hf).trans h.last

theorem Solved.alc {d : Nat} {s : State} (h : Solved d s) {a : AlcState} (hs : a.solving = s.alc.solving)
    (hr : a.result.isSome = true) : Solved d { s with alc := a } := ⟨hs.trans h.solving, hr, h.last⟩

theorem Solved.setF {d : Nat} {s : State} (h : Solved d s) {fl : Fld} (hf : fl.apart Fl.ALC_TSOLVE_LAST = true)
    (i v : Nat) : Solved d (s.setF fl i v) :=
  h.of (State.setF_alc ..) (fieldOf_setF_apart s fl Fl.ALC_TSOLVE_LAST i 0 v hf)

theorem Solved.portResult {d : Nat} {s : State} (h : Solved d s) (b : List Byte) (cs : List Consumer) (p i : Nat) :
    Solved d (portResult b cs p i s) := by
  unfold Machine.portResult
  extract_lets key g va neg v s1 a
  have h1 : Solved d s1 := (h.setF (fl := Fl.ALC_PLAST_LAST) (by decide) p v).setF (by decide) p g
  exact h1.alc rfl rfl

theorem Solved.stringResult {d : Nat} {s : State} (h : Solved d s) (b : List Byte) (mode : Nat) (cs : List Consumer)
    (p i : Nat) : Solved d (stringResult b mode cs p i s) := by
  unfold Machine.stringResult
  extract_lets key c v s1 a
  have h1 : Solved d s1 := ((h.setF (fl := Fl.ALC_SLAST_LAST) (by decide) p _).setF (fl := Fl.ALC_SOFFER_OFFER)
    (by decide) p c.offer).setF (by decide) p mode
  exact h1.alc rfl rfl

/-- What a solve gives the ports and strings of one halyard. -/
def resultsPut (price : Option Int) (cs : List Consumer) (h : List Byte) (p0 s0 : Nat) (s : State) : State :=
  (s.each 24 fun i s => portResult h cs (p0 + i) i s).each 8 fun i s =>
    stringResult h (stringMode price h i) cs (s0 + i) i s

theorem Solved.put {d : Nat} {s : State} (h : Solved d s) (price : Option Int) (cs : List Consumer) (b : List Byte)
    (p0 s0 : Nat) : Solved d (resultsPut price cs b p0 s0 s) :=
  State.each_induct (P := Solved d) (fun i _ hu => hu.stringResult b (stringMode price b i) cs (s0 + i) i)
    (State.each_induct (P := Solved d) (fun i _ hu => hu.portResult b cs (p0 + i) i) h 24) 8

/-- The load of a node, shown. -/
def nodeShown (cs : List Consumer) (x : TreeNode) (t : List TreeNode) (s : State) : State :=
  let l := (cs.filter (below t x.num)).foldl (fun a c => a + c.a) 0
  s.setReg R.ALC_NODEST0 x.num (BitVec.ofNat 32 l) |>.setReg R.ALC_NODEST1 x.num (BitVec.ofNat 32 x.load)

theorem Solved.node {d : Nat} {s : State} (h : Solved d s) (cs : List Consumer) (x : TreeNode) (t : List TreeNode) :
    Solved d (nodeShown cs x t s) :=
  h.of (by simp [nodeShown]) (by
    unfold nodeShown
    extract_lets l
    exact (fieldOf_setReg_apart _ R.ALC_NODEST1 Fl.ALC_TSOLVE_LAST x.num 0 _ (by decide)).trans
      (fieldOf_setReg_apart s R.ALC_NODEST0 Fl.ALC_TSOLVE_LAST x.num 0 _ (by decide)))

theorem solveComplete_solves {s : State} {l : List (List Byte)} (h : s.alc.solving = some l) (d : Nat) :
    Solved d (solveComplete d s) := by
  unfold solveComplete
  split
  next hn => exact absurd (hn.symm.trans h) (by simp)
  next hs _ =>
  extract_lets t r price a s1 s2 s3 s4 put s5
  have h1 : s1.alc.solving = none ∧ s1.alc.result.isSome = true := ⟨rfl, rfl⟩
  have h2 : Solved d s2 := by
    have ha : s2.alc = s1.alc := State.setF_alc ..
    refine ⟨(congrArg AlcState.solving ha).trans h1.1, (congrArg (fun a : AlcState => a.result.isSome) ha).trans h1.2,
      ?_⟩
    exact fieldOf_setF_fits s1 Fl.ALC_TSOLVE_LAST 0 _ (by decide) (by decide)
      (lt_of_le_of_lt (Nat.min_le_right _ _) (by decide))
  have h3 : Solved d s3 := State.when_cases (P := Solved d) (fun _ => h2) fun _ =>
    h2.of (alcCause_alc 3 s2) (fieldOf_alcCause 3 0 s2 (by decide))
  have h4 : Solved d s4 := State.eachOf_induct (P := Solved d) (fun x _ hu => hu.node r.1 x t) h3 t
  have h5 : Solved d s5 := h4.put price r.1 s4.alc.own 0 0
  split
  · exact h5
  · exact h5.put price r.1 s5.alc.proxy 24 8

theorem solve_completes {s : State} {l : List (List Byte)} (h : s.alc.solving = some l) (d : Nat) :
    Effect (.solveComplete d) s fun u => u.alc.solving = none ∧ u.alc.result.isSome = true ∧
      u.f Fl.ALC_TSOLVE_LAST = min d 65535 := by
  obtain ⟨hs, hr, hl⟩ := solveComplete_solves h d
  exact effect_done (u := solveComplete d s) rfl ⟨hs, hr, hl⟩

theorem solve_overruns {s : State} {l : List (List Byte)} (h : s.alc.solving = some l) :
    Effect .solveOverrun s fun u => u.alc.solving = none ∧ u.alc.overran = true ∧ u.alc.noAgree = true ∧
      AlcCause 3 u := by
  have he : exec .solveOverrun s =
      done (alcCause 3 { s with alc.solving := none, alc.overran := true, alc.noAgree := true }) :=
    congrArg done (if_pos (by rw [h]; rfl))
  refine effect_done he ⟨?_, ?_, ?_, alcCause_shows (by decide) _⟩ <;> rw [alcCause_alc]

/-! ### Halyards -/

/-- The halyard to forward, with one hop less. -/
def forwarding (l : List Byte) (hops : Nat) (s : State) : State :=
  { s with alc.forwarded := if hops = 0 then none else some (l, hops - 1) }

theorem halyard_taken {l : List Byte} (hops : Nat) {s : State} (hl : l.length = 1664) (hm : halMod l ≠ s.modid)
    (hv : s.member (halMod l) = true) (hq : BitVec.ofNat 32 (halSeq l) = BitVec.ofNat 32 (s.f Fl.ALC_SEQ_SEQ)) :
    halyardReceived l true hops s = if s.alc.windowOpen
      then { forwarding l hops s with alc.received := cellsInsert s.alc.received (halMod l) l }
      else alcCause 1 ((forwarding l hops s).satF Fl.ALC_CNT_LATE 0 1) := by
  have hkeep : (forwarding l hops s).modid = s.modid ∧ (forwarding l hops s).member (halMod l) = s.member (halMod l) ∧
      (forwarding l hops s).f Fl.ALC_SEQ_SEQ = s.f Fl.ALC_SEQ_SEQ := ⟨rfl, rfl, rfl⟩
  obtain ⟨hmod, hmem, hseq⟩ := hkeep
  unfold halyardReceived
  rw [if_neg (by simp [hl])]
  extract_lets m a s1 ahead
  have hs1 : s1 = forwarding l hops s := rfl
  have h0 : ahead = 0 := by
    show (BitVec.ofNat 32 (halSeq l) - BitVec.ofNat 32 (s1.f Fl.ALC_SEQ_SEQ)).toInt = 0
    rw [hs1, hseq, hq, BitVec.sub_self]
    rfl
  have hown : (m == s1.modid || !(s1.member m || bitOf (halWord l 0) 8)) = false := by
    rw [hs1, hmod, hmem, hv, beq_eq_false_iff_ne.mpr hm]
    rfl
  rw [hown, h0, hs1]
  rfl

theorem halyard_received {l : List Byte} (hops : Nat) {s : State} (hl : l.length = 1664) (hm : halMod l ≠ s.modid)
    (hv : s.member (halMod l) = true) (hq : BitVec.ofNat 32 (halSeq l) = BitVec.ofNat 32 (s.f Fl.ALC_SEQ_SEQ))
    (hw : s.alc.windowOpen = true) : Effect (.halyardReceived l true hops) s fun u =>
      cellsFind u.alc.received (halMod l) = some l :=
  effect_done (congrArg done ((halyard_taken hops hl hm hv hq).trans (if_pos hw))) (cellsFind_insert_same _ _ _)

theorem halyard_late {l : List Byte} (hops : Nat) {s : State} (hl : l.length = 1664) (hm : halMod l ≠ s.modid)
    (hv : s.member (halMod l) = true) (hq : BitVec.ofNat 32 (halSeq l) = BitVec.ofNat 32 (s.f Fl.ALC_SEQ_SEQ))
    (hw : s.alc.windowOpen = false) : Effect (.halyardReceived l true hops) s fun u =>
      u.alc.received = s.alc.received ∧ u.f Fl.ALC_CNT_LATE = min 65535 (s.f Fl.ALC_CNT_LATE + 1) ∧ AlcCause 1 u := by
  refine effect_done (congrArg done ((halyard_taken hops hl hm hv hq).trans (if_neg (by
    rw [hw]; exact Bool.false_ne_true))))
    ⟨?_, ?_, alcCause_shows (by decide) _⟩
  · rw [alcCause_alc, State.satF_alc]
    rfl
  · exact (fieldOf_alcCause 1 0 _ (by decide)).trans
      (fieldOf_satF_same (forwarding l hops s) Fl.ALC_CNT_LATE 0 1 (by decide) (by decide))

/-! ### Configuration -/

theorem period_written {p : Nat} {s : State}
    (h : p ∈ periods ∧ s.alcFits p (s.f Fl.ALC_WIN_XWIN) (s.f Fl.ALC_CFG_CLSEN) s.nodeCount = true) :
    Effect (.allocationPeriodWrite p) s fun u => ∃ n, u.alc.periodPend = some (p, n) :=
  effect_done (congrArg done (if_pos (by rw [List.contains_eq_mem, decide_eq_true h.1, h.2]; rfl))) ⟨_, rfl⟩

theorem period_refused {p : Nat} {s : State}
    (h : ¬(p ∈ periods ∧ s.alcFits p (s.f Fl.ALC_WIN_XWIN) (s.f Fl.ALC_CFG_CLSEN) s.nodeCount = true)) :
    Effect (.allocationPeriodWrite p) s fun u => u.alc.periodPend = s.alc.periodPend ∧ AlcCause 3 u := by
  have he : exec (.allocationPeriodWrite p) s = done (alcCause 3 s) := congrArg done (if_neg fun hc => h (by
    obtain ⟨hp, hf⟩ := Bool.and_eq_true_iff.mp hc
    exact ⟨List.contains_iff_mem.mp hp, hf⟩))
  exact effect_done he ⟨congrArg AlcState.periodPend (alcCause_alc 3 s), alcCause_shows (by decide) s⟩

/-- A configuration of the exchange fits the period. -/
def ConfigFits (x k : Nat) (s : State) : Prop :=
  x < 65536 ∧ k < 256 ∧ s.alcFits (s.f Fl.ALC_CFG_PERIOD) x k s.nodeCount = true

theorem config_written {x k : Nat} {s : State} (h : ConfigFits x k s) :
    Effect (.allocationConfigWrite x k) s fun u => u.f Fl.ALC_WIN_XWIN = x ∧ u.f Fl.ALC_CFG_CLSEN = k := by
  obtain ⟨hx, hk, hf⟩ := h
  have he : exec (.allocationConfigWrite x k) s =
      done (showBound ((s.setF Fl.ALC_WIN_XWIN 0 x).setF Fl.ALC_CFG_CLSEN 0 k)) :=
    congrArg done (if_pos (by rw [decide_eq_true hx, decide_eq_true hk, hf]; rfl))
  refine effect_done he ⟨?_, ?_⟩
  · exact (fieldOf_setF_apart _ Fl.ALC_TSOLVE_WORST Fl.ALC_WIN_XWIN 0 0 _ (by decide)).trans
      ((fieldOf_setF_apart _ Fl.ALC_CFG_CLSEN Fl.ALC_WIN_XWIN 0 0 k (by decide)).trans
        (fieldOf_setF_fits s Fl.ALC_WIN_XWIN 0 x (by decide) (by decide) hx))
  · exact (fieldOf_setF_apart _ Fl.ALC_TSOLVE_WORST Fl.ALC_CFG_CLSEN 0 0 _ (by decide)).trans
      (fieldOf_setF_fits _ Fl.ALC_CFG_CLSEN 0 k (by decide) (by decide) hk)

theorem regOf_alcCause {r : Rg} (j i : Nat) (s : State)
    (h : (R.ALC_STAT.apart r && R.EVT_PEND.apart r) = true) : regOf (alcCause j s).regs r i = regOf s.regs r i := by
  obtain ⟨ha, hp⟩ := Bool.and_eq_true_iff.mp h
  have h1 := regOf_setF_apart s Fl.ALC_STAT_CAUSE r 0 i (setBit (s.f Fl.ALC_STAT_CAUSE) j) ha
  unfold alcCause State.causeOn
  extract_lets t
  have ht : regOf t.regs r i = regOf s.regs r i := h1
  split
  · exact (regOf_setF_apart t Fl.EVT_PEND_PEND r _ i _ hp).trans ht
  · exact ht

theorem config_refused {x k : Nat} {s : State} (h : ¬ConfigFits x k s) :
    Effect (.allocationConfigWrite x k) s fun u => u.reg R.ALC_WIN = s.reg R.ALC_WIN ∧
      u.reg R.ALC_CFG = s.reg R.ALC_CFG ∧ AlcCause 3 u := by
  have he : exec (.allocationConfigWrite x k) s = done (alcCause 3 s) := congrArg done (if_neg fun hc => h (by
    obtain ⟨hxk, hf⟩ := Bool.and_eq_true_iff.mp hc
    obtain ⟨hx, hk⟩ := Bool.and_eq_true_iff.mp hxk
    exact ⟨of_decide_eq_true hx, of_decide_eq_true hk, hf⟩))
  exact effect_done he ⟨regOf_alcCause 3 0 s (by decide), regOf_alcCause 3 0 s (by decide),
    alcCause_shows (by decide) s⟩

theorem tree_commits (s : State) : Effect .treeCommit s fun u => u.alc.commit = true :=
  effect_done (u := { s with alc.commit := true }) rfl rfl

theorem counters_cleared (s : State) : Effect .alcCounterClear s fun u => u.reg R.ALC_CNT = 0 :=
  effect_done (u := counterClear s) rfl (regOf_setReg_same s R.ALC_CNT 0 0 (by decide))

/-! ### Enable -/

/-- EN is written and STATE is as it was. -/
theorem alcEn_written (v : Bool) (s : State) : (s.setB Fl.ALC_CTL_EN 0 v).f Fl.ALC_CTL_EN = b2n v ∧
    (s.setB Fl.ALC_CTL_EN 0 v).f Fl.ALC_STAT_STATE = s.f Fl.ALC_STAT_STATE :=
  ⟨fieldOf_setB_same s Fl.ALC_CTL_EN 0 v (by decide) (by decide) (by decide),
    fieldOf_setB_apart s Fl.ALC_CTL_EN Fl.ALC_STAT_STATE 0 0 v (by decide)⟩

/-- STATE is written after EN. -/
theorem alcState_written (v : Bool) {k : Nat} (hk : k < 4) (s : State) :
    ((s.setB Fl.ALC_CTL_EN 0 v).setF Fl.ALC_STAT_STATE 0 k).f Fl.ALC_CTL_EN = b2n v ∧
      ((s.setB Fl.ALC_CTL_EN 0 v).setF Fl.ALC_STAT_STATE 0 k).f Fl.ALC_STAT_STATE = k :=
  ⟨(fieldOf_setF_apart _ Fl.ALC_STAT_STATE Fl.ALC_CTL_EN 0 0 k (by decide)).trans (alcEn_written v s).1,
    fieldOf_setF_fits _ Fl.ALC_STAT_STATE 0 k (by decide) (by decide) hk⟩

theorem allocator_enabled {s : State} (h : s.f Fl.ALC_STAT_STATE = 0 ∨ s.f Fl.ALC_STAT_STATE = 2) :
    Effect .allocatorEnable s fun u => u.f Fl.ALC_CTL_EN = 1 ∧
      u.f Fl.ALC_STAT_STATE = s.f Fl.ALC_STAT_STATE + 1 := by
  refine effect_done (u := alcEnable s) rfl ?_
  have hst := (alcEn_written true s).2
  obtain h | h := h
  · have he : alcEnable s = { (s.setB Fl.ALC_CTL_EN 0 true).setF Fl.ALC_STAT_STATE 0 1 with
        alc.noAgree := true, alc.result := none, alc.previous := [] } := by
      unfold alcEnable
      extract_lets s1
      rw [show s1.f Fl.ALC_STAT_STATE = _ from hst.trans h] <;> rfl
    rw [he, h]
    exact alcState_written true (by decide) s
  · have he : alcEnable s = (s.setB Fl.ALC_CTL_EN 0 true).setF Fl.ALC_STAT_STATE 0 3 := by
      unfold alcEnable
      extract_lets s1
      rw [show s1.f Fl.ALC_STAT_STATE = _ from hst.trans h] <;> rfl
    rw [he, h]
    exact alcState_written true (by decide) s

theorem allocator_disabled {s : State} (h : s.f Fl.ALC_STAT_STATE = 1 ∨ s.f Fl.ALC_STAT_STATE = 3) :
    Effect .allocatorDisable s fun u => u.f Fl.ALC_CTL_EN = 0 ∧ u.f Fl.ALC_STAT_STATE = 2 := by
  have hst := (alcEn_written false s).2
  have he : alcDisable s = (s.setB Fl.ALC_CTL_EN 0 false).setF Fl.ALC_STAT_STATE 0 2 := by
    unfold alcDisable
    extract_lets s1
    obtain h | h := h
    · rw [show s1.f Fl.ALC_STAT_STATE = _ from hst.trans h] <;> rfl
    · rw [show s1.f Fl.ALC_STAT_STATE = _ from hst.trans h] <;> rfl
  exact effect_done (congrArg done he) (alcState_written false (by decide) s)

/-! ### Requests, prices and their ages -/

theorem request_written {p : Nat} (v : Word) (s : State) (hp : p < 24) : Effect (.reqWrite p v) s fun u =>
    u.reg R.ALC_PREQ p = v ∧ u.f Fl.ALC_PSTAT_STALE p = 0 := by
  have he : exec (.reqWrite p v) s = done (reqWrite p v s) := congrArg done (if_neg (by
    rw [decide_eq_false (by omega), decide_eq_false (by omega)]
    exact Bool.false_ne_true))
  have hp' : p < 48 := by omega
  refine effect_done he ⟨?_, ?_⟩
  · exact (regOf_setF_apart _ Fl.ALC_PSTAT_STALE R.ALC_PREQ p p _ (by decide)).trans
      (regOf_setReg_same s R.ALC_PREQ p v hp')
  · exact fieldOf_setB_same _ Fl.ALC_PSTAT_STALE p false hp' (by decide) (by decide)

theorem request_foreign {p : Nat} (v : Word) {s : State} (hp : 24 ≤ p) (ht : s.f Fl.LPE_TAKE_ACTIVE = 0) :
    Effect (.reqWrite p v) s fun u => u = { s with busError := true } :=
  effect_done (congrArg done (if_pos (by rw [b_false ht, decide_eq_true hp]; exact Bool.or_true _))) rfl

theorem price_written (v : Word) (s : State) : Effect (.priceWrite v) s fun u =>
    u.reg R.ALC_PRICE = v ∧ u.alc.priceAged = false :=
  effect_done (u := priceWrite v s) rfl ⟨regOf_setReg_same s R.ALC_PRICE 0 v (by decide), rfl⟩

theorem request_aged {p : Nat} {s : State} (hp : p < 48) (h : s.f Fl.ALC_AGE_REQAGE ≠ 0) :
    Effect (.reqAged p) s fun u => u.f Fl.ALC_PSTAT_STALE p = 1 :=
  effect_done (congrArg done (if_pos (by
    rw [decide_eq_true hp, show s.b Fl.ALC_AGE_REQAGE = true from bne_iff_ne.mpr h]
    rfl))) (fieldOf_setB_same s Fl.ALC_PSTAT_STALE p true hp (by decide) (by decide))

theorem price_aged {s : State} (h : s.f Fl.ALC_AGE_PRICEAGE ≠ 0) :
    Effect .priceAged s fun u => u.alc.priceAged = true :=
  effect_done (congrArg done (if_pos (bne_iff_ne.mpr h))) rfl

theorem node_violates {n : Nat} {s : State} (h : 3 ≤ cellsGet 0 s.alc.exceeded n) :
    Effect (.nodeViolation n) s fun u => AlcCause 4 u :=
  effect_done (congrArg done (if_pos h)) (alcCause_shows (by decide) s)

/-! ### The obligation -/

/-- Settles O29, by what the steps of a period keep and one lemma per other command. -/
theorem allocation : Obligations.Allocation := by
  unfold Obligations.Allocation
  intro s
  refine ⟨fun h2 he hp hc => ⟨fun r p ho hr hen hh h1 hp24 hn => ?_, fun ho hr h2' => ?_, fun ho hr h1 hh hpp => ?_⟩,
    window_closes, fun l d h => solve_completes h d, fun l h => solve_overruns h,
    fun l hops hl hm hv hq => ⟨halyard_received hops hl hm hv hq, halyard_late hops hl hm hv hq⟩,
    fun l hops => effect_done (u := s) rfl rfl, fun p => ⟨period_written, period_refused⟩,
    fun x k => ⟨config_written, config_refused⟩, tree_commits s, counters_cleared s, allocator_enabled,
    allocator_disabled, fun p v => ⟨request_written v s, request_foreign v⟩, fun v => price_written v s,
    fun p => request_aged, price_aged, fun n => node_violates⟩
  · refine periodStart_effect h2 he hp hc fun e => ?_
    obtain ⟨hs, hcause, hprev⟩ := result_applied (s := { s with lpe := e }) ho hr hen hh h1 hp24 hn
    exact ⟨hs, hcause, hprev⟩
  · exact periodStart_effect h2 he hp hc fun e => allocator_stops (s := { s with lpe := e }) ho hr h2'
  · exact periodStart_effect h2 he hp hc fun e => window_opens (s := { s with lpe := e }) h2 he ho hr h1 hh hpp

end Sys2Proof.Machine

/-! ## Sessions: what stops, ends and commands to a port leave standing (R217, R271, R288) -/

namespace Sys2Proof.Machine

set_option Elab.async false

/-! ### Causes of a group stand through its commands -/

section Causes

variable {g j : Nat} (hg : g < 80) (hj : j < 29) {s : State} (h : GroupCause g j s)

include hg hj h

theorem toDischarge_keeps : GroupCause g j (toDischarge g s) :=
  toState_keeps hg gDischarge hj (s := s.setPg g fun x => { x with discStart := s.now, preStep := 0 }) h

theorem groupStopAct_keeps : GroupCause g j (groupStopAct g s) := by
  unfold groupStopAct
  split
  · exact toDischarge_keeps hg hj h
  · exact toDischarge_keeps hg hj h
  · exact toDischarge_keeps hg hj h
  · exact toState_keeps hg gRampdown hj h
  · exact toState_keeps hg gRampdown hj h
  · exact h

theorem setMode_keeps (volt : Bool) : GroupCause g j (setMode g volt s) := by
  rw [setMode_eq]
  split
  · exact h
  · split
    · generalize s.groupBatches g = l
      generalize modeKernel g volt s = k
      exact GroupCause.field (u := (kernelsTaken l k s).setPg g _) h
        (kernelsTaken_field (fl := ⟨R.PRT_GCAUSE, 0, 29⟩) (by decide) l k g s)
    · exact groupStopAct_keeps hg hj (prtCause_keeps hg hj 26 h)

theorem toOpening_keeps : GroupCause g j (toOpening g s) := by
  rw [toOpening_eq]
  exact (toState_keeps hg gOpening hj h).field (openGroup_field (fl := ⟨R.PRT_GCAUSE, 0, 29⟩) (by decide) g g _)

omit hg in
theorem cmdRefuse_keeps (code : Nat) : GroupCause g j (cmdRefuse g code s) :=
  h.field (fieldOf_setF_apart s Fl.PRT_GSTAT_CMDERR ⟨R.PRT_GCAUSE, 0, 29⟩ g g code (by decide))

theorem dropPending_keeps : GroupCause g j (dropPending g s) :=
  GroupCause.field h (fieldOf_setB_apart _ Fl.PRT_GSTAT_PEND ⟨R.PRT_GCAUSE, 0, 29⟩ g g false (by decide))

end Causes

/-- A stop or a discharge asked of a group leaves its causes standing. -/
theorem groupCommand_keeps {g j : Nat} (hg : g < 80) (hj : j < 29) {op : Nat} (hop : op = 4 ∨ op = 5) {s : State}
    (h : GroupCause g j s) : GroupCause g j (groupCommand g op 0 s) := by
  have hgo : (decide (80 ≤ g) || op == 0 || decide (8 ≤ op)) = false ∧ (op == 7) = false ∧ (op == 6) = false := by
    rw [decide_eq_false (by omega)]
    rcases hop with rfl | rfl <;> exact ⟨rfl, rfl, rfl⟩
  obtain ⟨hrun, h7, h6⟩ := hgo
  unfold groupCommand
  extract_lets st role
  rw [hrun, h7, h6]
  rw [if_neg Bool.false_ne_true, if_neg Bool.false_ne_true]
  split
  · exact cmdRefuse_keeps hj h 1
  · rw [if_neg Bool.false_ne_true]
    split
    · exact cmdRefuse_keeps hj h 1
    · rcases hop with rfl | rfl
      · rw [if_pos (show ((4 : Nat) == 4) = true from rfl)]
        split
        · exact dropPending_keeps hg hj h
        · split
          · exact groupStopAct_keeps hg hj (dropPending_keeps hg hj h)
          · exact cmdRefuse_keeps hj h 1
      · rw [if_neg (show ¬((5 : Nat) == 4) = true by decide), if_pos (show ((5 : Nat) == 5) = true from rfl)]
        split
        · split
          · exact toOpening_keeps hg hj h
          · exact setMode_keeps hg hj (toDischarge_keeps hg hj h) true
        · exact cmdRefuse_keeps hj h 1

/-! ### What stands aside of a session -/

/-- The port group of a context is one of the 80. -/
theorem portGroup_lt {c : Nat} (hc : c < 48) : portGroup c < 80 := by
  unfold portGroup
  split <;> omega

/-- The status of context `c` and the sessions' part stand, and no cause of its port falls. -/
structure SessionAside (c : Nat) (s u : State) : Prop where
  status : ∀ i, regOf u.regs R.VEH_SSTAT i = regOf s.regs R.VEH_SSTAT i
  cause : ∀ j, j < 29 → GroupCause (portGroup c) j s → GroupCause (portGroup c) j u
  veh : u.veh = s.veh

section Aside

variable {c : Nat} {s u v : State}

theorem SessionAside.refl (c : Nat) (s : State) : SessionAside c s s := ⟨fun _ => rfl, fun _ _ h => h, rfl⟩

theorem SessionAside.trans (h : SessionAside c s u) (h' : SessionAside c u v) : SessionAside c s v :=
  ⟨fun i => (h'.status i).trans (h.status i), fun j hj hc => h'.cause j hj (h.cause j hj hc), h'.veh.trans h.veh⟩

theorem SessionAside.field (h : SessionAside c s u) {fl : Fld} (hf : fl.reg = R.VEH_SSTAT) (i : Nat) :
    fieldOf u.regs fl i = fieldOf s.regs fl i := by
  change bitsOf (regOf u.regs fl.reg i) _ _ = bitsOf (regOf s.regs fl.reg i) _ _
  rw [hf, h.status i]

theorem aside_setF {fl : Fld} (h : (fl.reg.apart R.VEH_SSTAT && fl.apart ⟨R.PRT_GCAUSE, 0, 29⟩) = true) (i v : Nat)
    (s : State) : SessionAside c s (s.setF fl i v) := by
  obtain ⟨hs, hc⟩ := Bool.and_eq_true_iff.mp h
  exact ⟨fun k => regOf_setF_apart s fl R.VEH_SSTAT i k v hs,
    fun j _ hg => hg.field (fieldOf_setF_apart s fl ⟨R.PRT_GCAUSE, 0, 29⟩ i _ v hc), State.setF_veh ..⟩

theorem aside_of_without {A : Part} (h : u.without A = s.without A) (hv : A.veh = false)
    (hr : (!A.regs R.VEH_SSTAT.addr && decide (R.VEH_SSTAT.count ≤ 65536)) = true)
    (hc : (!A.regs R.PRT_GCAUSE.addr && decide (R.PRT_GCAUSE.count ≤ 65536)) = true) : SessionAside c s u :=
  ⟨fun i => regOf_of_without h i hr,
    fun _ _ hg => hg.field (fieldOf_of_without (fl := ⟨R.PRT_GCAUSE, 0, 29⟩) h _ hc), State.veh_of_without h hv⟩

end Aside

/-- Registers that a command to a port group writes. -/
def portCmdRegs : List Rg := [R.EVT_PEND, R.LPE_BATCH, R.LPE_BSTAT, R.LPE_LOAD, R.LPE_STAT, R.LPE_TLOAD, R.LSW_CHSTAT,
  R.PRT_GCAUSE, R.PRT_GCMD, R.PRT_GSTAT, R.PRT_IAPP, R.PRT_VAPP, R.SFY_COIL, R.SFY_PSTAT, R.SFY_STAT]

/-- The part that a command to a port group writes. -/
def portCmdPart : Part := { regs := regsIn portCmdRegs, lpe := true, lsw := true, prt := true }

theorem portCmd_part (op mode c : Nat) (s : State) : (portCmd op mode c s).without portCmdPart = s.without portCmdPart
  :=
  portCmd_writes (P := portCmdPart) (by decide) (by decide) (by decide) (by decide) (by decide) (by decide) (by decide)
    (by decide) (by decide) (by decide) (by decide) (by decide) (by decide) (by decide) (by decide) rfl rfl rfl op
      mode c s

theorem portCmd_status (op mode c i : Nat) {fl : Fld} (h : fl.reg = R.VEH_SSTAT) (s : State) :
    fieldOf (portCmd op mode c s).regs fl i = fieldOf s.regs fl i := by
  have hr := regOf_of_without (portCmd_part op mode c s) (r := R.VEH_SSTAT) i (by decide)
  change bitsOf (regOf _ fl.reg i) _ _ = bitsOf (regOf s.regs fl.reg i) _ _
  rw [h, hr]

theorem portCmd_aside {c op : Nat} (hc : c < 48) (hop : op = 4 ∨ op = 5) (s : State) :
    SessionAside c s (portCmd op 0 c s) where
  status := fun i => regOf_of_without (portCmd_part op 0 c s) i (by decide)
  veh := State.veh_of_without (portCmd_part op 0 c s) rfl
  cause := fun j hj h => by
    have he : portCmd op 0 c s = groupCommand (portGroup c) op 0 s := by
      rcases hop with rfl | rfl <;> rfl
    rw [he]
    exact groupCommand_keeps (portGroup_lt hc) hj hop h

theorem stopPort_aside {c : Nat} (hc : c < 48) (s : State) : SessionAside c s (stopPort c s) := by
  unfold stopPort
  extract_lets st
  split
  · exact portCmd_aside hc (Or.inr rfl) s
  · split
    · exact portCmd_aside hc (Or.inl rfl) s
    · exact .refl c s

theorem forceCooling_aside (c p : Nat) (on : Bool) (s : State) : SessionAside c s (forceCooling p on s) :=
  aside_of_without (forceCooling_writes (P := { regs := regsIn [R.LSW_CHSTAT], lsw := true }) (by decide) rfl p on s)
    rfl (by decide) (by decide)

theorem dropPlc_aside (c f : Nat) (s : State) : SessionAside c s (dropPlc f s) :=
  aside_of_without (dropPlc_writes (P := { regs := regsIn [R.VEH_FE, R.VEH_STAT] }) (by decide) (by decide) f s)
    rfl (by decide) (by decide)

/-! ### Causes and states of a session -/

/-- A stop cause is noted: shown by the port, and in STOPCODE where it is the first. -/
structure Noted (c j old : Nat) (u : State) : Prop where
  cause : GroupCause (portGroup c) j u
  code : u.f Fl.VEH_SSTAT_STOPCODE c = if old = 0 then j else old

theorem Noted.aside {c j old : Nat} (hj : j < 29) {s u : State} (h : Noted c j old s) (ha : SessionAside c s u) :
    Noted c j old u := ⟨ha.cause j hj h.cause, (ha.field rfl c).trans h.code⟩

/-- Registers that a cause of a port writes. -/
def causeRegs : List Rg := [R.EVT_PEND, R.PRT_GCAUSE]

theorem sesCause_field {fl : Fld} (h : (!regsIn causeRegs fl.reg.addr && decide (fl.reg.count ≤ 65536)) = true)
    (j c i : Nat) (s : State) : fieldOf (sesCause j c s).regs fl i = fieldOf s.regs fl i :=
  fieldOf_prtCause j (portGroup c) i s h

theorem sesCause_status {fl : Fld} (h : fl.reg = R.VEH_SSTAT) (j c i : Nat) (s : State) :
    fieldOf (sesCause j c s).regs fl i = fieldOf s.regs fl i :=
  sesCause_field (by rw [h]; decide) j c i s

theorem sesCause_keeps {c j : Nat} (hc : c < 48) (hj : j < 29) (k : Nat) {s : State}
    (h : GroupCause (portGroup c) j s) : GroupCause (portGroup c) j (sesCause k c s) :=
  prtCause_keeps (portGroup_lt hc) hj k h

theorem sesCause_veh (j c : Nat) (s : State) : (sesCause j c s).veh = s.veh :=
  State.veh_of_without (A := { regs := regsIn causeRegs }) (sesCause_writes (by decide) (by decide) j c s) rfl

theorem noteStop_noted {c j : Nat} (hc : c < 48) (hj : j < 29) (s : State) :
    Noted c j (s.f Fl.VEH_SSTAT_STOPCODE c) (noteStop j c s) := by
  have hshow : GroupCause (portGroup c) j (sesCause j c s) := prtCause_shows (portGroup_lt hc) hj s
  have hcode : (sesCause j c s).f Fl.VEH_SSTAT_STOPCODE c = s.f Fl.VEH_SSTAT_STOPCODE c :=
    sesCause_status (fl := Fl.VEH_SSTAT_STOPCODE) rfl j c c s
  unfold noteStop
  extract_lets s1
  split
  next h =>
    have h0 : s.f Fl.VEH_SSTAT_STOPCODE c = 0 := hcode.symm.trans (beq_iff_eq.mp h)
    refine ⟨hshow.field (fieldOf_setF_apart s1 Fl.VEH_SSTAT_STOPCODE ⟨R.PRT_GCAUSE, 0, 29⟩ c _ j (by decide)), ?_⟩
    rw [if_pos h0]
    exact fieldOf_setF_fits s1 Fl.VEH_SSTAT_STOPCODE c j hc (by decide) (lt_trans hj (by decide))
  next h =>
    have h0 : s.f Fl.VEH_SSTAT_STOPCODE c ≠ 0 := fun e => h (beq_iff_eq.mpr (hcode.trans e))
    refine ⟨hshow, ?_⟩
    rw [if_neg h0]
    exact hcode

theorem noteStop_field {fl : Fld} (hr : fl.reg = R.VEH_SSTAT) (h : Fl.VEH_SSTAT_STOPCODE.apart fl = true)
    (j c i : Nat) (s : State) : fieldOf (noteStop j c s).regs fl i = fieldOf s.regs fl i := by
  unfold noteStop
  extract_lets s1
  have h1 : fieldOf s1.regs fl i = fieldOf s.regs fl i := sesCause_status hr j c i s
  split
  · exact (fieldOf_setF_apart s1 Fl.VEH_SSTAT_STOPCODE fl c i j h).trans h1
  · exact h1

/-- The context with its state written. -/
def sessionAt (c st : Nat) (s : State) : State :=
  (s.setF Fl.VEH_SSTAT_STATE c st).setSes c fun x =>
    { x with charged := st == sCharge || (x.charged && st != sEnd && st != sIdle && st != sPlugged) }

theorem toSession_eq (c st : Nat) (s : State) : toSession c st s = sesCause 8 c (sessionAt c st s) := rfl

theorem setSes_regs (c : Nat) (f : Session → Session) (s : State) : (s.setSes c f).regs = s.regs := rfl

theorem toSession_at {c st : Nat} (hc : c < 48) (hst : st < 16) (s : State) : (toSession c st s).sst c = st := by
  rw [toSession_eq]
  refine (sesCause_status (fl := Fl.VEH_SSTAT_STATE) rfl 8 c c _).trans ?_
  rw [sessionAt, setSes_regs]
  exact fieldOf_setF_fits s Fl.VEH_SSTAT_STATE c st hc (by decide) hst

theorem toSession_field {fl : Fld} (hr : fl.reg = R.VEH_SSTAT) (h : Fl.VEH_SSTAT_STATE.apart fl = true)
    (c st i : Nat) (s : State) : fieldOf (toSession c st s).regs fl i = fieldOf s.regs fl i := by
  rw [toSession_eq]
  refine (sesCause_status hr 8 c i _).trans ?_
  rw [sessionAt, setSes_regs]
  exact fieldOf_setF_apart s Fl.VEH_SSTAT_STATE fl c i st h

theorem toSession_keeps {c j : Nat} (hc : c < 48) (hj : j < 29) (st : Nat) {s : State}
    (h : GroupCause (portGroup c) j s) : GroupCause (portGroup c) j (toSession c st s) := by
  rw [toSession_eq]
  refine sesCause_keeps hc hj 8 (h.field ?_)
  rw [sessionAt, setSes_regs]
  exact fieldOf_setF_apart s Fl.VEH_SSTAT_STATE ⟨R.PRT_GCAUSE, 0, 29⟩ c _ st (by decide)

theorem Noted.toSession {c j old : Nat} (hc : c < 48) (hj : j < 29) (st : Nat) {s : State} (h : Noted c j old s) :
    Noted c j old (toSession c st s) :=
  ⟨toSession_keeps hc hj st h.cause,
    (toSession_field (fl := Fl.VEH_SSTAT_STOPCODE) rfl (by decide) c st c s).trans h.code⟩

/-! ### Stops and ends -/

/-- Context `c` is stopping, its cause noted. -/
structure Stopped (c j old : Nat) (u : State) : Prop where
  at_ : u.sst c = sStopping
  noted : Noted c j old u

/-- Context `c` has ended, its cause noted and its connection closed. -/
structure Ended (c j old : Nat) (u : State) : Prop where
  at_ : u.sst c = sEnd
  noted : Noted c j old u
  tcp : (u.ses c).tcp = false

/-- The context in STOPPING with its cause. -/
def stopNoted (j c : Nat) (s : State) : State := toSession c sStopping (noteStop j c s)

/-- The context in STOPPING with its current rate of change. -/
def stopRated (j c : Nat) (s : State) : State :=
  (stopNoted j c s).setF Fl.PRT_RATE_IRATE (portGroup c) (max ((stopNoted j c s).f Fl.PRT_RATE_IRATE (portGroup c))
    (max 1 ((stopNoted j c s).f Fl.VEH_TIM3_STOPRATE)))

theorem toStopping_eq (j c : Nat) (s : State) : toStopping j c s = stopPort c (stopRated j c s) := rfl

theorem toStopping_aside {c : Nat} (hc : c < 48) (j : Nat) (s : State) :
    SessionAside c (stopNoted j c s) (toStopping j c s) := by
  rw [toStopping_eq]
  exact (aside_setF (fl := Fl.PRT_RATE_IRATE) (by decide) _ _ (stopNoted j c s)).trans (stopPort_aside hc _)

theorem toStopping_stops {c j : Nat} (hc : c < 48) (hj : j < 29) (s : State) :
    Stopped c j (s.f Fl.VEH_SSTAT_STOPCODE c) (toStopping j c s) :=
  ⟨((toStopping_aside hc j s).field (fl := Fl.VEH_SSTAT_STATE) rfl c).trans (toSession_at hc (by decide) _),
    ((noteStop_noted hc hj s).toSession hc hj sStopping).aside hj (toStopping_aside hc j s)⟩

theorem toStopping_field {fl : Fld} (hr : fl.reg = R.VEH_SSTAT)
    (h : (Fl.VEH_SSTAT_STATE.apart fl && Fl.VEH_SSTAT_STOPCODE.apart fl) = true) {c : Nat} (hc : c < 48) (j i : Nat)
    (s : State) : fieldOf (toStopping j c s).regs fl i = fieldOf s.regs fl i := by
  obtain ⟨hst, hco⟩ := Bool.and_eq_true_iff.mp h
  exact ((toStopping_aside hc j s).field hr i).trans
    ((toSession_field hr hst c sStopping i _).trans (noteStop_field hr hco j c i s))

/-- The reference of a session's receipt. -/
def sessionRef (c : Nat) (s : State) : List Byte :=
  (List.range 8).flatMap fun i => leBytes 4 (s.reg R.SIG_REF (8 * c + i)).toNat

/-- The receipt's reference of a charged session is kept. -/
def refKept (c : Nat) (s : State) : State :=
  s.when ((s.ses c).charged && c < 24) fun u => { u with sig.refs := cellsInsert u.sig.refs c (sessionRef c s) }

/-- The PLC transceiver of a context's front-end is freed. -/
def plcDropped (c : Nat) (s : State) : State := match s.feOf c with | none => s | some f => dropPlc f s

theorem toEnd_eq (c : Nat) (s : State) : toEnd c s =
    plcDropped c (forceCooling c false (closeLink c (toSession c sEnd (refKept c s)))) := rfl

theorem plcDropped_aside (c : Nat) (s : State) : SessionAside c s (plcDropped c s) := by
  unfold plcDropped
  split
  · exact .refl c s
  · exact dropPlc_aside c _ s

theorem refKept_aside (c : Nat) (s : State) : SessionAside c s (refKept c s) := by
  unfold refKept
  generalize sessionRef c s = l
  exact State.when_cases (P := SessionAside c s) (fun _ => .refl c s) fun _ => ⟨fun _ => rfl, fun _ _ h => h, rfl⟩

theorem toEnd_aside (c : Nat) (s : State) :
    SessionAside c (closeLink c (toSession c sEnd (refKept c s))) (toEnd c s) := by
  rw [toEnd_eq]
  exact (forceCooling_aside c c false _).trans (plcDropped_aside c _)

theorem ses_setSes {c : Nat} (hc : c < 48) (s : State) (f : Session → Session) : (s.setSes c f).ses c = f (s.ses c) :=
  memberOf_set_same s.veh.ctx _ {} hc

theorem ses_of_veh {s u : State} (h : u.veh = s.veh) (c : Nat) : u.ses c = s.ses c := by
  rw [State.ses, State.ses, h]

/-- Fields that a closed link writes. -/
def linkFlds : List Fld := [Fl.VEH_SSTAT_TLS, Fl.VEH_SSTAT_BPTACT]

theorem closeLink_field {fl : Fld} (h : fldsApart linkFlds fl = true) (c i : Nat) (s : State) :
    fieldOf (closeLink c s).regs fl i = fieldOf s.regs fl i := by
  unfold closeLink
  rw [setSes_regs]
  exact (fieldOf_setB_apart _ Fl.VEH_SSTAT_BPTACT fl c i false (apart_of_mem h (by decide))).trans
    (fieldOf_setB_apart s Fl.VEH_SSTAT_TLS fl c i false (apart_of_mem h (by decide)))

theorem closeLink_tcp {c : Nat} (hc : c < 48) (s : State) : ((closeLink c s).ses c).tcp = false := by
  unfold closeLink
  rw [ses_setSes hc]

theorem toEnd_ends {c j old : Nat} (hc : c < 48) (hj : j < 29) {s : State} (h : Noted c j old s) :
    Ended c j old (toEnd c s) := by
  have ha := toEnd_aside c s
  have hn : Noted c j old (toSession c sEnd (refKept c s)) := (h.aside hj (refKept_aside c s)).toSession hc hj sEnd
  have hst : (toSession c sEnd (refKept c s)).sst c = sEnd := toSession_at hc (by decide) _
  generalize toSession c sEnd (refKept c s) = w at ha hn hst
  have hl : Noted c j old (closeLink c w) :=
    ⟨hn.cause.field (closeLink_field (by decide) c _ w),
      (closeLink_field (fl := Fl.VEH_SSTAT_STOPCODE) (by decide) c c w).trans hn.code⟩
  refine ⟨(ha.field (fl := Fl.VEH_SSTAT_STATE) rfl c).trans
    ((closeLink_field (fl := Fl.VEH_SSTAT_STATE) (by decide) c c w).trans hst), hl.aside hj ha, ?_⟩
  rw [ses_of_veh ha.veh]
  exact closeLink_tcp hc w

theorem endWith_ends {c j : Nat} (hc : c < 48) (hj : j < 29) (s : State) :
    Ended c j (s.f Fl.VEH_SSTAT_STOPCODE c) (endWith j c s) := toEnd_ends hc hj (noteStop_noted hc hj s)

theorem toEnd_field {fl : Fld} (hr : fl.reg = R.VEH_SSTAT) (h : fldsApart (Fl.VEH_SSTAT_STATE :: linkFlds) fl = true)
    (c i : Nat) (s : State) : fieldOf (toEnd c s).regs fl i = fieldOf s.regs fl i := by
  have hl : fldsApart linkFlds fl = true := (Bool.and_eq_true_iff.mp h).2
  exact ((toEnd_aside c s).field hr i).trans ((closeLink_field hl c i _).trans
    ((toSession_field hr (apart_of_mem h List.mem_cons_self) c sEnd i _).trans ((refKept_aside c s).field hr i)))

end Sys2Proof.Machine

/-! ## The states of a session (R271 to R306) -/

namespace Sys2Proof.Machine

set_option Elab.async false

/-! ### Commands that stop or end a session -/

/-- The command stops context `c` with cause `j`. -/
def Stops (c : Nat) (s : State) (i : Instr) (j : Nat) : Prop := Effect i s fun u => u.sst c = sStopping ∧
  GroupCause (portGroup c) j u ∧
    u.f Fl.VEH_SSTAT_STOPCODE c = if s.f Fl.VEH_SSTAT_STOPCODE c = 0 then j else s.f Fl.VEH_SSTAT_STOPCODE c

/-- The command ends context `c` with cause `j`. -/
def Ends (c : Nat) (s : State) (i : Instr) (j : Nat) : Prop := Effect i s fun u => u.sst c = sEnd ∧
  (GroupCause (portGroup c) j u ∧
    u.f Fl.VEH_SSTAT_STOPCODE c = if s.f Fl.VEH_SSTAT_STOPCODE c = 0 then j else s.f Fl.VEH_SSTAT_STOPCODE c) ∧
    (u.ses c).tcp = false

section Contexts

variable {c : Nat} (hc : c < 48) {s : State}

include hc

theorem stops_of {i : Instr} {j : Nat} (hj : j < 29) {w : State} (he : exec i s = done (toStopping j c w))
    (hw : w.f Fl.VEH_SSTAT_STOPCODE c = s.f Fl.VEH_SSTAT_STOPCODE c) : Stops c s i j := by
  have h := toStopping_stops hc hj w
  rw [hw] at h
  exact effect_done he ⟨h.at_, h.noted.cause, h.noted.code⟩

theorem ends_of {i : Instr} {j : Nat} (hj : j < 29) (he : exec i s = done (endWith j c s)) : Ends c s i j :=
  have h := endWith_ends hc hj s
  effect_done he ⟨h.at_, ⟨h.noted.cause, h.noted.code⟩, h.tcp⟩

theorem onCtx_eq (f : Nat → State → State) : onCtx c f s = f c s := if_pos hc

omit hc in
theorem stopWith_mid {j : Nat} (h : s.midSession c = true) : stopWith j c s = toStopping j c s := if_pos h

theorem program_stops (h : s.midSession c = true) : Stops c s (.sessionStop c) 10 :=
  stops_of hc (by decide) (w := s.setSes c fun x => { x with stopNote := true })
    (congrArg done ((onCtx_eq hc _).trans (if_pos h))) rfl

theorem tseq_stops (h : s.midSession c = true) : Stops c s (.tseqExpiry c) 11 :=
  stops_of hc (by decide) (congrArg done ((onCtx_eq hc _).trans (stopWith_mid h))) rfl

/-- What a lost vehicle link does to a session. -/
def carLinkLost (c : Nat) (s : State) : State :=
  if s.sst c == sLink || s.sst c == sSetup then endWith 14 c s
  else stopWith 14 c (s.setSes c fun x => { x with link := false, tcp := false })

omit hc in
theorem mid_bounds (h : s.midSession c = true) : sAuth ≤ s.sst c ∧ s.sst c ≤ sPause := of_decide_eq_true h

theorem link_stops (h : s.midSession c = true) : Stops c s (.vehicleLinkLost c) 14 := by
  obtain ⟨hl, -⟩ := mid_bounds h
  have hne : (s.sst c == sLink || s.sst c == sSetup) = false := by
    rw [beq_eq_false_iff_ne.mpr (fun e => by rw [e] at hl; exact absurd hl (by decide)),
      beq_eq_false_iff_ne.mpr (fun e => by rw [e] at hl; exact absurd hl (by decide))]
    rfl
  have he : carLinkLost c s = toStopping 14 c (s.setSes c fun x => { x with link := false, tcp := false }) := by
    unfold carLinkLost
    rw [hne, if_neg Bool.false_ne_true]
    exact if_pos h
  exact stops_of hc (by decide) (congrArg done ((onCtx_eq hc _).trans he)) rfl

theorem tresp_stops (h : s.midSession c = true) (ho : (s.ses c).outstanding = true) : Stops c s (.trespExpiry c) 11 :=
  stops_of hc (by decide) (congrArg done ((onCtx_eq hc _).trans ((if_pos ho).trans (stopWith_mid h)))) rfl

theorem request_stops (h : s.midSession c = true) (ht : (s.ses c).tcp = true) : Stops c s (.sessionStopReq c) 10 := by
  obtain ⟨hl, hu⟩ := mid_bounds h
  have hcon : s.connected c = true := by
    unfold State.connected
    rw [decide_eq_true hc, ht, decide_eq_true ⟨le_trans (by decide) hl, le_trans hu (by decide)⟩]
    rfl
  exact stops_of hc (by decide) (congrArg done ((if_pos hcon).trans (stopWith_mid h))) rfl

theorem tloop_stops (h : s.sst c = sCharge) : Stops c s (.tloopExpiry c) 11 :=
  stops_of hc (by decide) (congrArg done ((onCtx_eq hc _).trans (if_pos (beq_iff_eq.mpr h)))) rfl

theorem tchk_stops (h : s.sst c = sCableCheck) : Stops c s (.tchkExpiry c) 11 :=
  stops_of hc (by decide) (congrArg done ((onCtx_eq hc _).trans (if_pos (beq_iff_eq.mpr h)))) rfl

theorem tlink_ends (h : s.sst c = sLink) : Ends c s (.tlinkExpiry c) 14 :=
  ends_of hc (by decide) (congrArg done ((onCtx_eq hc _).trans (if_pos (beq_iff_eq.mpr h))))

theorem tsetup_ends (h : s.sst c = sSetup) : Ends c s (.tsetupExpiry c) 14 :=
  ends_of hc (by decide) (congrArg done ((onCtx_eq hc _).trans (if_pos (beq_iff_eq.mpr h))))

theorem link_ends (h : s.sst c = sLink ∨ s.sst c = sSetup) : Ends c s (.vehicleLinkLost c) 14 := by
  have hb : (s.sst c == sLink || s.sst c == sSetup) = true := by
    rcases h with h | h
    · rw [h]
      rfl
    · rw [h]
      rfl
  have he : carLinkLost c s = endWith 14 c s := if_pos hb
  exact ends_of hc (by decide) (congrArg done ((onCtx_eq hc _).trans he))

theorem tplc_ends {f : Nat} (h : s.sst c = sPlugged) (hf : s.feOf c = some f)
    (hw : bitOf (s.f Fl.VEH_STAT_PLCWAIT) f = true) : Ends c s (.tplcExpiry c) 14 := by
  refine ends_of hc (by decide) (congrArg done ((onCtx_eq hc _).trans ?_))
  rw [hf, h]
  exact if_pos (by rw [hw]; rfl)

/-! ### PROCEED -/

omit hc in
/-- A command to the port after a change of state leaves the session in it. -/
theorem portCmd_at {st op mode : Nat} (hc : c < 48) (hst : st < 16) (w : State) :
    (portCmd op mode c (toSession c st w)).sst c = st :=
  (portCmd_status op mode c c (fl := Fl.VEH_SSTAT_STATE) rfl _).trans (toSession_at hc hst w)

theorem proceeds {st : Nat} {u : State} (he : proceed c s = u) (hu : u.sst c = st) :
    Effect (.proceed c) s fun u => u.sst c = st :=
  effect_done (congrArg done ((onCtx_eq hc proceed).trans he)) hu

theorem proceed_to_param (h : s.sst c = sAuth) : Effect (.proceed c) s fun u => u.sst c = sParam := by
  refine proceeds hc (u := toSession c sParam s) ?_ (toSession_at hc (by decide) s)
  unfold proceed
  exact if_pos (beq_iff_eq.mpr h)

/-- The cable check begins: cooling forced, the test voltage set, the port asked to check. -/
def checkBegun (c : Nat) (s : State) : State :=
  portCmd 1 0 c (setVset (portGroup c) (s.reg R.VEH_CHKV c) (forceCooling c true (toSession c sCableCheck s)))

omit hc in
theorem setVset_status (g : Nat) (v : Word) (w : State) : (setVset g v w).sst c = w.sst c :=
  fieldOf_of_without (fl := Fl.VEH_SSTAT_STATE) (setVset_writes (P := { regs := regsIn [R.EVT_PEND,
    R.PRT_GCAUSE, R.PRT_GSTAT, R.PRT_VSET] }) (by decide) (by decide) (by decide) (by decide) g v w) c (by decide)

theorem checkBegun_at : (checkBegun c s).sst c = sCableCheck := by
  have hat : (toSession c sCableCheck s).sst c = sCableCheck := toSession_at hc (by decide) s
  unfold checkBegun
  generalize toSession c sCableCheck s = w at hat
  have hcool : (forceCooling c true w).sst c = w.sst c :=
    (forceCooling_aside c c true w).field (fl := Fl.VEH_SSTAT_STATE) rfl c
  generalize forceCooling c true w = w' at hcool
  have hset : (setVset (portGroup c) (s.reg R.VEH_CHKV c) w').sst c = w'.sst c := setVset_status _ _ w'
  generalize setVset (portGroup c) (s.reg R.VEH_CHKV c) w' = w'' at hset
  exact (portCmd_status 1 0 c c (fl := Fl.VEH_SSTAT_STATE) rfl w'').trans (hset.trans (hcool.trans hat))

theorem proceed_to_check (h : s.sst c = sParam) : Effect (.proceed c) s fun u => u.sst c = sCableCheck := by
  refine proceeds hc (u := checkBegun c s) ?_ (checkBegun_at hc)
  unfold proceed
  extract_lets x nogo st
  have hst : st = sParam := h
  clear_value st
  subst hst
  exact (if_neg (by decide)).trans (if_pos rfl)

/-- The port is not stopped by its cable: a guest, or no NOGO. -/
theorem nogo_free (h : s.f Fl.THM_PSTAT_NOGO c = 0 ∨ 24 ≤ c) : (s.b Fl.THM_PSTAT_NOGO c && decide (c < 24)) = false :=
  by
  rcases h with h | h
  · rw [b_false h]
    rfl
  · rw [decide_eq_false (by omega), Bool.and_false]

theorem proceed_to_charge (h : s.sst c = sPrecharge) (hd : (s.ses c).delivery = some .start)
    (hg : s.gst (portGroup c) = gReady) (hf : s.f Fl.THM_PSTAT_NOGO c = 0 ∨ 24 ≤ c) :
    Effect (.proceed c) s fun u => u.sst c = sCharge := by
  refine proceeds hc (u := portCmd 3 0 c (toSession c sCharge s)) ?_ (portCmd_at hc (by decide) s)
  unfold proceed
  extract_lets x nogo st
  have hst : st = sPrecharge := h
  have hx : x.delivery = some .start := hd
  have hn : nogo = false := nogo_free hc hf
  clear_value st x nogo
  subst hst
  rw [hx, hn, hg]
  rfl

theorem proceed_again (h : s.sst c = sPause) (hd : (s.ses c).delivery = some .start)
    (hf : s.f Fl.THM_PSTAT_NOGO c = 0 ∨ 24 ≤ c) : Effect (.proceed c) s fun u => u.sst c = sCharge := by
  refine proceeds hc (u := portCmd 3 0 c (toSession c sCharge s)) ?_ (portCmd_at hc (by decide) s)
  unfold proceed
  extract_lets x nogo st
  have hst : st = sPause := h
  have hx : x.delivery = some .start := hd
  have hn : nogo = false := nogo_free hc hf
  clear_value st x nogo
  subst hst
  rw [hx, hn]
  rfl

theorem proceed_to_pause (h : s.sst c = sCharge) (hd : (s.ses c).delivery = some .standby)
    (hp : s.f Fl.VEH_SSTAT_PROTOSEL c = 3) : Effect (.proceed c) s fun u => u.sst c = sPause := by
  refine proceeds hc (u := portCmd 4 0 c (toSession c sPause s)) ?_ (portCmd_at hc (by decide) s)
  unfold proceed
  extract_lets x nogo st
  have hst : st = sCharge := h
  have hx : x.delivery = some .standby := hd
  clear_value st x nogo
  subst hst
  rw [hx, hp]
  rfl

end Contexts

end Sys2Proof.Machine

/-! ## The states of a session: refusals, enable, front-ends and the pilot, and the obligation (R271 to R306) -/

namespace Sys2Proof.Machine

set_option Elab.async false

section Contexts

variable {c : Nat} (hc : c < 48) {s : State}

include hc

/-! ### Refusals and the end of a fault -/

theorem fault_cleared (h : s.sst c = sFault) : Effect (.sessionClear c) s fun u => u.sst c = sUnlock := by
  have he : sessionClear c s = unlockRequest c (toSession c sUnlock (portCmd 6 0 c s)) := if_pos (beq_iff_eq.mpr h)
  refine effect_done (congrArg done ((onCtx_eq hc _).trans he)) ?_
  have hat : (toSession c sUnlock (portCmd 6 0 c s)).sst c = sUnlock := toSession_at hc (by decide) _
  generalize toSession c sUnlock (portCmd 6 0 c s) = w at hat
  have hw := unlockRequest_writes (P := { regs := regsIn [R.EVT_PEND, R.SFY_STAT], sfy := true }) (by decide)
    (by decide) rfl c w
  exact (fieldOf_of_without (fl := Fl.VEH_SSTAT_STATE) hw c (by decide)).trans hat

/-- A refused command shows CMDERR, and the state stands. -/
theorem sesRefuse_shows : (sesRefuse c s).sst c = s.sst c ∧ (sesRefuse c s).f Fl.VEH_SSTAT_CMDERR c = 1 :=
  ⟨fieldOf_setB_apart s Fl.VEH_SSTAT_CMDERR Fl.VEH_SSTAT_STATE c c true (by decide),
    fieldOf_setB_same s Fl.VEH_SSTAT_CMDERR c true hc (by decide) (by decide)⟩

omit hc in
theorem proceed_refused (h : s.sst c = sIdle) : proceed c s = sesRefuse c s := by
  unfold proceed
  extract_lets x nogo st
  have hst : st = sIdle := h
  clear_value st
  subst hst
  exact (if_neg (by decide)).trans ((if_neg (by decide)).trans ((if_neg Bool.false_ne_true).trans
    ((if_neg Bool.false_ne_true).trans (if_neg Bool.false_ne_true))))

theorem idle_refuses (h : s.sst c = sIdle) : ∀ i ∈ [Instr.proceed c, .sessionStop c, .sessionClear c],
    Effect i s fun u => u.sst c = sIdle ∧ u.f Fl.VEH_SSTAT_CMDERR c = 1 := by
  obtain ⟨hat, herr⟩ := sesRefuse_shows hc (s := s)
  have hmid : s.midSession c = false := by
    unfold State.midSession
    rw [h]
    rfl
  have hr : ∀ i, exec i s = done (sesRefuse c s) →
      Effect i s fun u => u.sst c = sIdle ∧ u.f Fl.VEH_SSTAT_CMDERR c = 1 := fun i he =>
    effect_done he ⟨hat.trans h, herr⟩
  have hp : exec (.proceed c) s = done (sesRefuse c s) :=
    congrArg done ((onCtx_eq hc proceed).trans (proceed_refused h))
  have hs : exec (.sessionStop c) s = done (sesRefuse c s) :=
    congrArg done ((onCtx_eq hc sessionStop).trans (if_neg (by rw [hmid]; exact Bool.false_ne_true)))
  have hcl : exec (.sessionClear c) s = done (sesRefuse c s) :=
    congrArg done ((onCtx_eq hc sessionClear).trans (if_neg (by rw [h]; decide)))
  intro i hi
  simp only [List.mem_cons, List.not_mem_nil, or_false] at hi
  rcases hi with rfl | rfl | rfl
  · exact hr _ hp
  · exact hr _ hs
  · exact hr _ hcl

/-! ### Enable -/

theorem idle_enabled (h : s.sst c = sIdle) : Effect (.sessionEnable c) s fun u => u.f Fl.VEH_SCFG_EN c = 1 ∧
    (u.ses c).active = true := by
  have hst : (s.setB Fl.VEH_SCFG_EN c true).sst c = sIdle :=
    (fieldOf_setB_apart s Fl.VEH_SCFG_EN Fl.VEH_SSTAT_STATE c c true (by decide)).trans h
  have he : sessionEnable c s = (s.setB Fl.VEH_SCFG_EN c true).setSes c fun x => { x with active := true } :=
    if_pos (beq_iff_eq.mpr hst)
  refine effect_done (congrArg done ((onCtx_eq hc _).trans he)) ⟨?_, ?_⟩
  · exact fieldOf_setB_same s Fl.VEH_SCFG_EN c true hc (by decide) (by decide)
  · rw [ses_setSes hc]

theorem busy_enabled (h : s.sst c ≠ sIdle) (hx : (s.ses c).active = false) : Effect (.sessionEnable c) s fun u =>
    u.f Fl.VEH_SSTAT_PEND c = 1 ∧ (u.ses c).active = false := by
  have hst : (s.setB Fl.VEH_SCFG_EN c true).sst c = s.sst c :=
    fieldOf_setB_apart s Fl.VEH_SCFG_EN Fl.VEH_SSTAT_STATE c c true (by decide)
  have hses : (s.setB Fl.VEH_SCFG_EN c true).ses c = s.ses c := ses_of_veh (State.setB_veh ..) c
  have he : sessionEnable c s = (s.setB Fl.VEH_SCFG_EN c true).setB Fl.VEH_SSTAT_PEND c true := by
    refine (if_neg fun e => h (hst.symm.trans (beq_iff_eq.mp e))).trans ?_
    rw [hses, hx]
    rfl
  refine effect_done (congrArg done ((onCtx_eq hc _).trans he)) ⟨?_, ?_⟩
  · exact fieldOf_setB_same _ Fl.VEH_SSTAT_PEND c true hc (by decide) (by decide)
  · rw [ses_of_veh (State.setB_veh ..), hses, hx]

omit hc in
/-- The context with its enable withdrawn. -/
def disabled (c : Nat) (s : State) : State :=
  (s.setB Fl.VEH_SCFG_EN c false |>.setB Fl.VEH_SSTAT_PEND c false).setSes c fun x => { x with active := false }

omit hc in
theorem sessionDisable_eq (s : State) : sessionDisable c s =
    if decide (sPlugged ≤ (disabled c s).sst c ∧ (disabled c s).sst c ≤ sPause) then
      toStopping 10 c ((disabled c s).setSes c fun x => { x with stopNote := true })
    else disabled c s := rfl

omit hc in
theorem disabled_field {fl : Fld} (h : fldsApart [Fl.VEH_SCFG_EN, Fl.VEH_SSTAT_PEND] fl = true) (i : Nat) (s : State) :
    fieldOf (disabled c s).regs fl i = fieldOf s.regs fl i := by
  rw [disabled, setSes_regs]
  exact (fieldOf_setB_apart _ Fl.VEH_SSTAT_PEND fl c i false (apart_of_mem h (by decide))).trans
    (fieldOf_setB_apart s Fl.VEH_SCFG_EN fl c i false (apart_of_mem h (by decide)))

theorem idle_disabled (h : s.sst c = sIdle) : Effect (.sessionDisable c) s fun u => u.f Fl.VEH_SCFG_EN c = 0 ∧
    (u.ses c).active = false := by
  have hst : (disabled c s).sst c = sIdle := (disabled_field (fl := Fl.VEH_SSTAT_STATE) (by decide) c s).trans h
  have he : sessionDisable c s = disabled c s := by
    rw [sessionDisable_eq, hst]
    exact if_neg (by decide)
  refine effect_done (congrArg done ((onCtx_eq hc _).trans he)) ⟨?_, ?_⟩
  · refine (fieldOf_setB_apart _ Fl.VEH_SSTAT_PEND Fl.VEH_SCFG_EN c c false (by decide)).trans ?_
    exact fieldOf_setB_same s Fl.VEH_SCFG_EN c false hc (by decide) (by decide)
  · rw [disabled, ses_setSes hc]

theorem running_disabled (hl : sPlugged ≤ s.sst c) (hu : s.sst c ≤ sPause) : Stops c s (.sessionDisable c) 10 := by
  have hst : (disabled c s).sst c = s.sst c := disabled_field (fl := Fl.VEH_SSTAT_STATE) (by decide) c s
  have he : sessionDisable c s = toStopping 10 c ((disabled c s).setSes c fun x => { x with stopNote := true }) := by
    rw [sessionDisable_eq, hst]
    exact if_pos (decide_eq_true ⟨hl, hu⟩)
  exact stops_of hc (by decide) (congrArg done ((onCtx_eq hc _).trans he))
    (disabled_field (fl := Fl.VEH_SSTAT_STOPCODE) (by decide) c s)

end Contexts

/-! ### Front-ends -/

/-- Context `k` has no session to lose. -/
def ContextIdle (s : State) (k : Nat) : Prop := 48 ≤ k ∨ s.sst k = sIdle

theorem contextIdle_iff (s : State) (k : Nat) : (decide (48 ≤ k) || s.sst k == sIdle) = true ↔ ContextIdle s k := by
  unfold ContextIdle
  rw [Bool.or_eq_true, decide_eq_true_eq, beq_iff_eq]

theorem showFront_field {fl : Fld} (h : Fl.VEH_SSTAT_FE.apart fl = true) (c i : Nat) (s : State) :
    fieldOf (showFront c s).regs fl i = fieldOf s.regs fl i := by
  unfold showFront
  split
  · exact fieldOf_setF_apart s Fl.VEH_SSTAT_FE fl c i _ h
  · rfl

/-- A front-end with its mode and its context written. -/
def frontWritten (f m k : Nat) (s : State) : State :=
  (s.setF Fl.VEH_FE_MODE f m |>.setF Fl.VEH_FE_CTX f k).setFe f fun x => { x with driving := false, released := false }

theorem frontEndConfig_eq {f m k : Nat} (hf : f < 24) (hm : m < 4) (hk : k < 64) (s : State) :
    frontEndConfig f m k s = if !(decide (48 ≤ s.f Fl.VEH_FE_CTX f) || s.sst (s.f Fl.VEH_FE_CTX f) == sIdle) ||
      !(decide (48 ≤ k) || s.sst k == sIdle) then s
      else showFront k (showFront (s.f Fl.VEH_FE_CTX f) (frontWritten f m k s)) := by
  unfold frontEndConfig
  rw [decide_eq_false (by omega : ¬24 ≤ f), decide_eq_false (by omega : ¬4 ≤ m), decide_eq_false (by omega : ¬64 ≤ k)]
  rfl

theorem frontWritten_shows {f m k : Nat} (hf : f < 24) (hm : m < 4) (hk : k < 64) (s : State) :
    (frontWritten f m k s).f Fl.VEH_FE_MODE f = m ∧ (frontWritten f m k s).f Fl.VEH_FE_CTX f = k :=
  ⟨(fieldOf_setF_apart _ Fl.VEH_FE_CTX Fl.VEH_FE_MODE f f k (by decide)).trans
    (fieldOf_setF_fits s Fl.VEH_FE_MODE f m hf (by decide) hm),
    fieldOf_setF_fits _ Fl.VEH_FE_CTX f k hf (by decide) hk⟩

theorem front_configured {f m k : Nat} (hf : f < 24) (hm : m < 4) (hk : k < 64) {s : State}
    (ho : ContextIdle s (s.f Fl.VEH_FE_CTX f)) (hn : ContextIdle s k) : Effect (.frontEndConfig f m k) s fun u =>
      u.f Fl.VEH_FE_MODE f = m ∧ u.f Fl.VEH_FE_CTX f = k := by
  have he : frontEndConfig f m k s = showFront k (showFront (s.f Fl.VEH_FE_CTX f) (frontWritten f m k s)) := by
    rw [frontEndConfig_eq hf hm hk, (contextIdle_iff s _).mpr ho, (contextIdle_iff s k).mpr hn]
    rfl
  obtain ⟨hmode, hctx⟩ := frontWritten_shows hf hm hk s
  generalize frontWritten f m k s = w at he hmode hctx
  refine effect_done (congrArg done he) ⟨?_, ?_⟩
  · exact (showFront_field (fl := Fl.VEH_FE_MODE) (by decide) k f _).trans
      ((showFront_field (fl := Fl.VEH_FE_MODE) (by decide) _ f w).trans hmode)
  · exact (showFront_field (fl := Fl.VEH_FE_CTX) (by decide) k f _).trans
      ((showFront_field (fl := Fl.VEH_FE_CTX) (by decide) _ f w).trans hctx)

theorem front_kept {f m k : Nat} (hf : f < 24) (hm : m < 4) (hk : k < 64) {s : State}
    (h : ¬(ContextIdle s (s.f Fl.VEH_FE_CTX f) ∧ ContextIdle s k)) : Effect (.frontEndConfig f m k) s fun u =>
      u.reg R.VEH_FE f = s.reg R.VEH_FE f := by
  have he : frontEndConfig f m k s = s := by
    rw [frontEndConfig_eq hf hm hk]
    refine if_pos ?_
    by_contra hc
    rw [Bool.not_eq_true, Bool.or_eq_false_iff, Bool.not_eq_false', Bool.not_eq_false'] at hc
    exact h ⟨(contextIdle_iff s _).mp hc.1, (contextIdle_iff s k).mp hc.2⟩
  exact effect_done (congrArg done he) rfl

/-! ### The pilot -/

/-- The state that a pilot reading shows. -/
def pilotCode (s : State) (c : Nat) : PilotReading → Nat
  | .ccs hi lo => ccsState (s.oscillator c) hi lo
  | .mcs code => min code 6

section Pilot

variable {c f : Nat} (hc : c < 48) (hf : f < 24) {s : State} (hctx : s.f Fl.VEH_FE_CTX f = c) (hm : s.feMode f ≠ 0)

include hc hf hctx hm

theorem pilotQualified_eq (r : PilotReading) : pilotQualified f r s =
    if (s.setF Fl.VEH_SSTAT_PILOT c (pilotCode s c r)).feOf c == some f then
      pilotActs c (pilotCode s c r) (s.setF Fl.VEH_SSTAT_PILOT c (pilotCode s c r))
    else s.setF Fl.VEH_SSTAT_PILOT c (pilotCode s c r) := by
  subst hctx
  unfold pilotQualified
  extract_lets c
  have hrun : (decide (24 ≤ f) || decide (48 ≤ c) || s.feMode f == 0) = false := by
    rw [decide_eq_false (by omega : ¬24 ≤ f), decide_eq_false (by omega : ¬48 ≤ c), beq_eq_false_iff_ne.mpr hm]
    rfl
  rw [hrun, if_neg Bool.false_ne_true]
  cases r <;> rfl

omit hc hf hctx hm in
theorem endWith_pilot (j k : Nat) (w : State) : (endWith j c w).f Fl.VEH_SSTAT_PILOT k = w.f Fl.VEH_SSTAT_PILOT k :=
  (toEnd_field (fl := Fl.VEH_SSTAT_PILOT) rfl (by decide) c k _).trans
    (noteStop_field (fl := Fl.VEH_SSTAT_PILOT) rfl (by decide) j c k w)

omit hf hctx hm in
theorem toStopping_pilot (j k : Nat) (w : State) :
    (toStopping j c w).f Fl.VEH_SSTAT_PILOT k = w.f Fl.VEH_SSTAT_PILOT k :=
  toStopping_field (fl := Fl.VEH_SSTAT_PILOT) rfl (by decide) hc j k w

omit hf hctx hm in
theorem stopWith_pilot (j k : Nat) (w : State) :
    (stopWith j c w).f Fl.VEH_SSTAT_PILOT k = w.f Fl.VEH_SSTAT_PILOT k := by
  unfold stopWith
  split
  · exact toStopping_pilot hc j k w
  · rfl

omit hf hctx hm in
/-- What follows from a pilot state leaves it shown. -/
theorem pilotActs_pilot (k : Nat) (w : State) : (pilotActs c k w).f Fl.VEH_SSTAT_PILOT c = w.f Fl.VEH_SSTAT_PILOT c :=
  by
  unfold pilotActs
  extract_lets st ventOk error ready
  split
  · rfl
  · split
    · split
      · exact endWith_pilot 9 c w
      · split
        · exact sesCause_status (fl := Fl.VEH_SSTAT_PILOT) rfl 9 c c w
        · exact toStopping_pilot hc 9 c w
    · split
      · exact stopWith_pilot hc 15 c w
      · split
        · exact stopWith_pilot hc 15 c w
        · rfl

theorem pilot_shown {r : PilotReading} {k : Nat} (hr : pilotCode s c r = k) (hk : k < 16) :
    Effect (.pilotStateQualified f r) s fun u => u.f Fl.VEH_SSTAT_PILOT c = k := by
  have hset : (s.setF Fl.VEH_SSTAT_PILOT c k).f Fl.VEH_SSTAT_PILOT c = k :=
    fieldOf_setF_fits s Fl.VEH_SSTAT_PILOT c k hc (by decide) hk
  refine effect_done (u := pilotQualified f r s) rfl ?_
  rw [pilotQualified_eq hc hf hctx hm, hr]
  split
  · exact (pilotActs_pilot hc k _).trans hset
  · exact hset

omit hc hf hctx hm in
theorem feOf_congr {u : State} (hv : u.veh = s.veh) (hfe : ∀ fl i, fl ∈ [Fl.VEH_FE_CTX, Fl.VEH_FE_MODE] →
    u.f fl i = s.f fl i) : u.feOf c = s.feOf c := by
  have hm : ∀ f, u.feMode f = s.feMode f := fun f => congrArg (· % 3) (hfe Fl.VEH_FE_MODE f (by simp))
  have hf : ∀ f, u.fe f = s.fe f := fun f => by rw [State.fe, State.fe, hv]
  have hx : ∀ f, u.f Fl.VEH_FE_CTX f = s.f Fl.VEH_FE_CTX f := fun f => hfe _ f (by simp)
  unfold State.feOf
  simp only [hm, hf, hx]

/-- A session in charge whose pilot shows state B stops. -/
theorem pilot_stops (hfe : s.feOf c = some f) (h : s.sst c = sCharge) :
    Stops c s (.pilotStateQualified f (.mcs 1)) 15 := by
  have hset : ∀ fl, Fl.VEH_SSTAT_PILOT.apart fl = true → ∀ i,
      (s.setF Fl.VEH_SSTAT_PILOT c 1).f fl i = s.f fl i := fun fl hfl i =>
    fieldOf_setF_apart s Fl.VEH_SSTAT_PILOT fl c i 1 hfl
  have hst : (s.setF Fl.VEH_SSTAT_PILOT c 1).sst c = sCharge := (hset _ (by decide) c).trans h
  have hfo : (s.setF Fl.VEH_SSTAT_PILOT c 1).feOf c = some f := (feOf_congr (State.setF_veh ..) fun fl i hfl =>
    hset fl (by
      have hall : [Fl.VEH_FE_CTX, Fl.VEH_FE_MODE].all Fl.VEH_SSTAT_PILOT.apart = true := by decide
      exact List.all_eq_true.mp hall fl hfl) i).trans hfe
  have hcode := hset Fl.VEH_SSTAT_STOPCODE (by decide) c
  have he : pilotQualified f (.mcs 1) s = pilotActs c 1 (s.setF Fl.VEH_SSTAT_PILOT c 1) :=
    (pilotQualified_eq hc hf hctx hm (.mcs 1)).trans (if_pos (beq_iff_eq.mpr hfo))
  generalize s.setF Fl.VEH_SSTAT_PILOT c 1 = w at hst hcode he
  have hacts : pilotActs c 1 w = toStopping 15 c w := by
    have hmid : w.midSession c = true := by
      unfold State.midSession
      rw [hst]
      rfl
    unfold pilotActs
    extract_lets st ventOk error ready
    have hs : st = sCharge := hst
    clear_value st
    subst hs
    exact (if_neg (by decide)).trans ((if_neg (by decide)).trans ((if_neg Bool.false_ne_true).trans
      ((if_pos rfl).trans (stopWith_mid hmid))))
  exact stops_of hc (by decide) (congrArg done (he.trans hacts)) hcode

end Pilot

theorem ccs_shows {osc : Bool} {hi lo : Int} (hlo : lo ≤ -11000) :
    (11000 ≤ hi → hi ≤ 13000 → ccsState osc hi lo = 0) ∧ (8000 ≤ hi → hi ≤ 10000 → ccsState osc hi lo = 1) ∧
      (5000 ≤ hi → hi ≤ 7000 → ccsState osc hi lo = 2) ∧ (2000 ≤ hi → hi ≤ 4000 → ccsState osc hi lo = 3) := by
  have hosc : (osc && decide (-11000 < lo)) = false := by
    rw [decide_eq_false (by omega), Bool.and_false]
  unfold ccsState
  rw [hosc, if_neg Bool.false_ne_true]
  simp only [decide_eq_true_eq]
  refine ⟨fun h1 h2 => ?_, fun h1 h2 => ?_, fun h1 h2 => ?_, fun h1 h2 => ?_⟩
  · rw [if_pos ⟨h1, h2⟩]
  · rw [if_neg (by omega), if_pos ⟨h1, h2⟩]
  · rw [if_neg (by omega), if_neg (by omega), if_pos ⟨h1, h2⟩]
  · rw [if_neg (by omega), if_neg (by omega), if_neg (by omega), if_pos ⟨h1, h2⟩]

/-! ### NOGO -/

theorem noteStop_keeps {c j : Nat} (hc : c < 48) (hj : j < 29) (k : Nat) {s : State}
    (h : GroupCause (portGroup c) j s) : GroupCause (portGroup c) j (noteStop k c s) := by
  unfold noteStop
  extract_lets s1
  have h1 : GroupCause (portGroup c) j s1 := sesCause_keeps hc hj k h
  split
  · exact h1.field (fieldOf_setF_apart s1 Fl.VEH_SSTAT_STOPCODE ⟨R.PRT_GCAUSE, 0, 29⟩ c _ k (by decide))
  · exact h1

theorem toStopping_keeps {c j : Nat} (hc : c < 48) (hj : j < 29) (k : Nat) {s : State}
    (h : GroupCause (portGroup c) j s) : GroupCause (portGroup c) j (toStopping k c s) :=
  (toStopping_aside hc k s).cause j hj (toSession_keeps hc hj sStopping (noteStop_keeps hc hj k h))

theorem nogo_stops {c : Nat} (hc : c < 24) {s : State} (hn : s.f Fl.THM_PSTAT_NOGO c = 1) (h : s.sst c = sCharge) :
    Effect (.nogoStop c) s fun u => u.sst c = sStopping ∧ GroupCause (portGroup c) 16 u := by
  have hg : portGroup c = c := if_pos hc
  have hshow : GroupCause (portGroup c) 16 (prtCause 16 c s) := by
    rw [hg]
    exact prtCause_shows (by omega) (by decide) s
  have hst : (prtCause 16 c s).sst c = sCharge :=
    (fieldOf_prtCause (fl := Fl.VEH_SSTAT_STATE) 16 c c s (by decide)).trans h
  have he : exec (.nogoStop c) s = done (sessionStop c (prtCause 16 c s)) := congrArg done (if_pos (by
    rw [decide_eq_true hc, b_true hn, h]
    rfl))
  generalize prtCause 16 c s = w at hshow hst he
  have hmid : w.midSession c = true := by
    unfold State.midSession
    rw [hst]
    rfl
  have hstop : sessionStop c w = toStopping 10 c (w.setSes c fun x => { x with stopNote := true }) := if_pos hmid
  have hc48 : c < 48 := by omega
  rw [hstop] at he
  refine effect_done he ⟨(toStopping_stops hc48 (by decide) _).at_, ?_⟩
  exact toStopping_keeps hc48 (by decide) 10 (s := w.setSes c fun x => { x with stopNote := true }) hshow

/-! ### The obligation -/

/-- Settles O30, by what a stop and an end leave standing and one lemma per command. -/
theorem sessionStates : Obligations.SessionStates := by
  unfold Obligations.SessionStates
  intro c s hc
  refine ⟨fun h => ⟨program_stops hc h, tseq_stops hc h, link_stops hc h, tresp_stops hc h, request_stops hc h⟩,
    tloop_stops hc, tchk_stops hc, fun h => ⟨tlink_ends hc h, link_ends hc (Or.inl h)⟩,
    fun h => ⟨tsetup_ends hc h, link_ends hc (Or.inr h)⟩, fun f h => tplc_ends hc h, proceed_to_param hc,
    proceed_to_check hc, ⟨proceed_to_charge hc, proceed_again hc⟩, proceed_to_pause hc, fault_cleared hc,
    idle_refuses hc, idle_enabled hc, busy_enabled hc, idle_disabled hc, running_disabled hc,
    fun f m k hf hm hk => ⟨front_configured hf hm hk, front_kept hf hm hk⟩,
    fun f hf hctx hm => ⟨fun n => ?_, fun hi lo hlo => ?_, pilot_stops hc hf hctx hm⟩, fun h => nogo_stops h⟩
  · exact pilot_shown hc hf hctx hm rfl (lt_of_le_of_lt (Nat.min_le_right n 6) (by decide))
  · obtain ⟨h0, h1, h2, h3⟩ := ccs_shows (osc := s.oscillator c) (hi := hi) hlo
    exact ⟨fun a b => pilot_shown hc hf hctx hm (h0 a b) (by decide),
      fun a b => pilot_shown hc hf hctx hm (h1 a b) (by decide),
      fun a b => pilot_shown hc hf hctx hm (h2 a b) (by decide),
      fun a b => pilot_shown hc hf hctx hm (h3 a b) (by decide)⟩

end Sys2Proof.Machine

/-! ## What goes over a session's connection: requests, answers and frames (R278 to R296) -/

namespace Sys2Proof.Machine

set_option Elab.async false

/-! ### Requests placed for the program -/

theorem dma_veh (s : State) (a : Nat) (l : List Byte) : (s.dma a l).veh = s.veh :=
  State.veh_of_without (A := { regs := fun _ => false, mem := true, harts := true }) (State.dma_writes rfl rfl s a l)
    rfl

/-- The request stored in the receive area, where that lies in SRAM. -/
def requestStored (c : Nat) (p : List Byte) (s : State) : State :=
  if inSram (s.f Fl.VEH_RXADDR_ADDR c) p.length then s.dma (s.f Fl.VEH_RXADDR_ADDR c) p else s

theorem requestStored_veh (c : Nat) (p : List Byte) (s : State) : (requestStored c p s).veh = s.veh := by
  unfold requestStored
  split
  · exact dma_veh s _ p
  · rfl

theorem placeRequest_eq (c : Nat) (p : List Byte) (s : State) : placeRequest c p s =
    sesCause 8 c (((requestStored c p s).setF Fl.VEH_RXLEN_LEN c p.length).setSes c fun x =>
      { x with outstanding := true, lastRequest := p }) := rfl

theorem placeRequest_ses {c : Nat} (hc : c < 48) (p : List Byte) (s : State) :
    (placeRequest c p s).ses c = { s.ses c with outstanding := true, lastRequest := p } := by
  rw [placeRequest_eq, ses_of_veh (sesCause_veh ..), ses_setSes hc, ses_of_veh (State.setF_veh ..),
    ses_of_veh (requestStored_veh ..)]

theorem placeRequest_length {c : Nat} (hc : c < 48) (p : List Byte) (s : State) :
    (placeRequest c p s).f Fl.VEH_RXLEN_LEN c = p.length % 2 ^ 14 := by
  rw [placeRequest_eq]
  refine (sesCause_field (fl := Fl.VEH_RXLEN_LEN) (by decide) 8 c c _).trans ?_
  rw [setSes_regs]
  exact fieldOf_setF_same _ Fl.VEH_RXLEN_LEN c p.length hc (by decide)

/-- Registers that a request writes. -/
def placedRegs : List Rg := [R.EVT_PEND, R.PRT_GCAUSE, R.VEH_RXLEN]

theorem programRequest_field {fl : Fld} (h : (!regsIn placedRegs fl.reg.addr && decide (fl.reg.count ≤ 65536)) = true)
    (c i : Nat) (p : List Byte) (s : State) : fieldOf (programRequest c p s).regs fl i = fieldOf s.regs fl i :=
  fieldOf_of_without (programRequest_writes (P :=
    { regs := regsIn placedRegs, harts := true, mem := true, veh := true })
    (by decide) (by decide) (by decide) rfl rfl rfl c p s) i h

theorem setSes_fe (c : Nat) (f : Session → Session) (s : State) (k : Nat) : (s.setSes c f).fe k = s.fe k := rfl

theorem fe_of_veh {s u : State} (h : u.veh = s.veh) (f : Nat) : u.fe f = s.fe f := by rw [State.fe, State.fe, h]

theorem programRequest_fe (c f : Nat) (p : List Byte) (s : State) : (programRequest c p s).fe f = s.fe f := by
  unfold programRequest
  split
  · rw [placeRequest_eq, fe_of_veh (sesCause_veh ..), setSes_fe, fe_of_veh (State.setF_veh ..),
      fe_of_veh (requestStored_veh ..)]
  · split
    · rfl
    · rfl

theorem programRequest_delivery {c : Nat} (hc : c < 48) (p : List Byte) (s : State) :
    ((programRequest c p s).ses c).delivery = (s.ses c).delivery := by
  unfold programRequest
  split
  · rw [placeRequest_ses hc]
  · split
    · rw [ses_setSes hc]
    · rfl

/-! ### Frames to the vehicle -/

/-- A context that sends frame `m`: held for the buddy, or on the wire. -/
def sentFrame (held : Bool) (m : VehFrame) (x : Session) : Session :=
  if held then { x with heldFrame := some m, lastResponse := some m, txCount := x.txCount + 1 }
  else { x with wire := some m, lastResponse := some m, txCount := x.txCount + 1 }

theorem sentFrame_last (held : Bool) (m : VehFrame) (x : Session) : (sentFrame held m x).lastResponse = some m := by
  cases held <;> rfl

theorem sentFrame_wire (m : VehFrame) (x : Session) : (sentFrame false m x).wire = some m := rfl

theorem sentFrame_outstanding (held : Bool) (m : VehFrame) (x : Session) :
    (sentFrame held m x).outstanding = x.outstanding := by cases held <;> rfl

theorem sentFrame_checked (held : Bool) (m : VehFrame) (x : Session) :
    (sentFrame held m x).checked = x.checked := by cases held <;> rfl

theorem sendVehicle_ses {c : Nat} (hc : c < 48) (m : VehFrame) (s : State) :
    (sendVehicle c m s).ses c = sentFrame (s.onRing && c < 24) m (s.ses c) := ses_setSes hc s _

theorem sendVehicle_regs (c : Nat) (m : VehFrame) (s : State) : (sendVehicle c m s).regs = s.regs := rfl

theorem answerLoop_field {fl : Fld} (h : Fl.VEH_LOOPCNT_LOOPS.apart fl = true) (c i : Nat) (fin : Bool) (s : State) :
    fieldOf (answerLoop c fin s).regs fl i = fieldOf s.regs fl i := by
  unfold answerLoop
  rw [sendVehicle_regs]
  exact fieldOf_setF_apart s Fl.VEH_LOOPCNT_LOOPS fl c i _ h

theorem answerLoop_reg {r : Rg} (h : R.VEH_LOOPCNT.apart r = true) (c i : Nat) (fin : Bool) (s : State) :
    regOf (answerLoop c fin s).regs r i = regOf s.regs r i := by
  unfold answerLoop
  rw [sendVehicle_regs]
  exact regOf_setF_apart s Fl.VEH_LOOPCNT_LOOPS r c i _ h

/-- The loop answer of context `c` as it goes out. -/
theorem answerLoop_ses {c : Nat} (hc : c < 48) (fin : Bool) (s : State) : ∃ held a, a.finished = fin ∧
    (answerLoop c fin s).ses c = sentFrame held (.loop a) (s.ses c) := by
  refine ⟨(s.addF Fl.VEH_LOOPCNT_LOOPS c 1).onRing && decide (c < 24), loopAnswer c fin s, rfl, ?_⟩
  unfold answerLoop
  rw [sendVehicle_ses hc, show (s.addF Fl.VEH_LOOPCNT_LOOPS c 1).ses c = s.ses c from ses_of_veh (State.setF_veh ..) c]

/-! ### The port's set voltage and the request to allocation -/

/-- Registers that a set voltage writes. -/
def vsetRegs : List Rg := [R.EVT_PEND, R.PRT_GCAUSE, R.PRT_GSTAT, R.PRT_VSET]

theorem setVset_part (g : Nat) (v : Word) (s : State) :
    (setVset g v s).without { regs := regsIn vsetRegs } = s.without { regs := regsIn vsetRegs } :=
  setVset_writes (P := { regs := regsIn vsetRegs }) (by decide) (by decide) (by decide) (by decide) g v s

theorem setVset_reg {r : Rg} (h : (!regsIn vsetRegs r.addr && decide (r.count ≤ 65536)) = true) (g i : Nat) (v : Word)
    (s : State) : regOf (setVset g v s).regs r i = regOf s.regs r i := regOf_of_without (setVset_part g v s) i h

theorem portCmd_reg {r : Rg} (h : (!regsIn portCmdRegs r.addr && decide (r.count ≤ 65536)) = true) (op mode c i : Nat)
    (s : State) : regOf (portCmd op mode c s).regs r i = regOf s.regs r i := regOf_of_without (portCmd_part op mode c
      s) i h

theorem toSession_reg {r : Rg} (h : (!regsIn [R.EVT_PEND, R.PRT_GCAUSE, R.VEH_SSTAT] r.addr &&
    decide (r.count ≤ 65536)) = true) (c st i : Nat) (s : State) :
    regOf (toSession c st s).regs r i = regOf s.regs r i :=
  regOf_of_without (toSession_writes (P := { regs := regsIn [R.EVT_PEND, R.PRT_GCAUSE, R.VEH_SSTAT], veh := true })
    (by decide) (by decide) (by decide) rfl c st s) i h

end Sys2Proof.Machine

/-! ## Messages of a session: link, discovery, protocol, TLS and requests (R278 to R286) -/

namespace Sys2Proof.Machine

set_option Elab.async false

/-! ### The powerline match and the link -/

theorem fe_setFe {f : Nat} (hf : f < 24) (g : FrontEnd → FrontEnd) (s : State) : (s.setFe f g).fe f = g (s.fe f) :=
  memberOf_set_same s.veh.fe _ {} hf

/-- A front-end takes part in a powerline match. -/
def Matching (f : Nat) (s : State) : Prop :=
  f < 24 ∧ s.f Fl.VEH_FE_TYPE f = 0 ∧ s.feMode f = 1 ∧ s.f Fl.VEH_FE_PLC f ≠ 0xF

theorem matching_runs {f : Nat} {s : State} (h : Matching f s) :
    (decide (24 ≤ f) || s.b Fl.VEH_FE_TYPE f || s.feMode f != 1 || s.f Fl.VEH_FE_PLC f == 0xF) = false := by
  obtain ⟨hf, ht, hm, hp⟩ := h
  rw [decide_eq_false (by omega : ¬24 ≤ f), b_false ht, hm, beq_eq_false_iff_ne.mpr hp]
  rfl

theorem attenuation_noted {f : Nat} {s : State} (h : Matching f s) (run db : Nat) :
    Effect (.slacMessage f (.atten run db)) s fun u => cellsFind (u.fe f).runs run = some db := by
  have he : slacMessage f (.atten run db) s = s.setFe f fun x => { x with runs := cellsInsert x.runs run db } := by
    unfold slacMessage
    rw [matching_runs h, if_neg Bool.false_ne_true]
  refine effect_done (congrArg done he) ?_
  rw [fe_setFe h.1]
  exact cellsFind_insert_same _ _ _

theorem match_granted {c f run a : Nat} (hc : c < 48) {s : State} (h : Matching f s) (hctx : s.f Fl.VEH_FE_CTX f = c)
    (hst : s.sst c = sLink) (hr : cellsFind (s.fe f).runs run = some a) (ha : a ≤ s.f Fl.VEH_TIM2_ATTMAX)
    (hs : s.strongerElsewhere f run a = false) : Effect (.slacMessage f (.matchReq run)) s fun u =>
      (u.ses c).link = true := by
  have he : slacMessage f (.matchReq run) s = s.draw.2.setSes c fun x => { x with link := true, netKey := s.draw.1 }
    := by
    subst hctx
    unfold slacMessage
    rw [matching_runs h, if_neg Bool.false_ne_true]
    dsimp only
    rw [hr]
    exact if_pos (by rw [hst, decide_eq_true ha, hs]; rfl)
  refine effect_done (congrArg done he) ?_
  rw [ses_setSes hc]

section Linking

variable {c f : Nat} (hc : c < 48) {s : State} (h : s.linking f = some c)

include hc h

theorem discovered (hl : (s.ses c).link = true) : Effect (.sdpRequest f) s fun u => (u.ses c).sdp = true := by
  have he : exec (.sdpRequest f) s = done (s.setSes c fun x => { x with sdp := true }) := by
    refine congrArg done ?_
    rw [h]
    exact if_pos hl
  refine effect_done he ?_
  rw [ses_setSes hc]

theorem tcp_connects (hl : (s.ses c).sdp = true) : Effect (.tcpConnect f) s fun u => (u.ses c).tcp = true := by
  have he : exec (.tcpConnect f) s = done (s.setSes c fun x => { x with tcp := true }) := by
    refine congrArg done ?_
    rw [h]
    exact if_pos hl
  refine effect_done he ?_
  rw [ses_setSes hc]

theorem t1s_links (ht : s.f Fl.VEH_FE_TYPE f = 1) : Effect (.t1sLinkUp f) s fun u => (u.ses c).link = true := by
  have he : exec (.t1sLinkUp f) s = done (s.setSes c fun x => { x with link := true }) := by
    refine congrArg done ?_
    rw [h]
    exact if_pos (b_true ht)
  refine effect_done he ?_
  rw [ses_setSes hc]

end Linking

/-! ### Protocol and TLS -/

/-- The protocols that a context knows are the numbers 1 to 3. -/
theorem protocols_small {s : State} {c k : Nat} {p : Nat → Bool} (h : (s.protocols c).find? p = some k) : k < 8 := by
  have hm := (List.mem_filter.mp (List.mem_of_find?_eq_some h)).1
  simp only [List.mem_cons, List.not_mem_nil, or_false] at hm
  omega

section Setup

variable {c : Nat} (hc : c < 48) {s : State}

include hc

theorem ended_cause {i : Instr} {j : Nat} (hj : j < 29) (he : exec i s = done (endWith j c s)) :
    Effect i s fun u => u.sst c = sEnd ∧ GroupCause (portGroup c) j u :=
  have h := endWith_ends hc hj s
  effect_done he ⟨h.at_, h.noted.cause⟩

theorem protocol_chosen (hst : s.sst c = sSetup) {offers : List AppOffer} {k : Nat}
    (hk : (s.protocols c).find? (fun k => offers.any fun o => o.proto == k) = some k) :
    Effect (.supportedAppProtocol c offers) s fun u => u.f Fl.VEH_SSTAT_PROTOSEL c = k := by
  refine effect_done (u := appProtocol c offers s) (congrArg done (onCtx_eq hc _)) ?_
  unfold appProtocol
  rw [hst, if_neg (by decide), hk]
  exact fieldOf_setF_fits s Fl.VEH_SSTAT_PROTOSEL c k hc (by decide) (protocols_small hk)

theorem protocol_missing (hst : s.sst c = sSetup) {offers : List AppOffer}
    (hk : (s.protocols c).find? (fun k => offers.any fun o => o.proto == k) = none) :
    Effect (.supportedAppProtocol c offers) s fun u => u.sst c = sEnd ∧ GroupCause (portGroup c) 13 u := by
  refine ended_cause hc (by decide) (congrArg done ((onCtx_eq hc _).trans ?_))
  unfold appProtocol
  rw [hst, if_neg (by decide), hk]

omit hc in
theorem hello_read (hst : s.sst c = sSetup) (hp : s.f Fl.VEH_SSTAT_PROTOSEL c = 3) (suites groups sigs : List Nat) :
    clientHello c suites groups sigs s =
      match firstOffered tlsSuites suites, firstOffered tlsGroups groups, firstOffered tlsSignatures sigs with
      | some a, some b, some d => s.setSes c fun x => { x with hello := some (a, b, d) }
      | _, _, _ => endWith 12 c s := by
  unfold clientHello
  rw [hst, hp]
  rfl

theorem hello_accepted (hst : s.sst c = sSetup) (hp : s.f Fl.VEH_SSTAT_PROTOSEL c = 3) {suites groups sigs : List Nat}
    {a b d : Nat} (ha : firstOffered tlsSuites suites = some a) (hb : firstOffered tlsGroups groups = some b)
    (hd : firstOffered tlsSignatures sigs = some d) : Effect (.clientHello c suites groups sigs) s fun u =>
      (u.ses c).hello = some (a, b, d) := by
  have he : clientHello c suites groups sigs s = s.setSes c fun x => { x with hello := some (a, b, d) } := by
    rw [hello_read hst hp, ha, hb, hd]
  refine effect_done (congrArg done ((onCtx_eq hc _).trans he)) ?_
  rw [ses_setSes hc]

theorem hello_refused (hst : s.sst c = sSetup) (hp : s.f Fl.VEH_SSTAT_PROTOSEL c = 3) {suites groups sigs : List Nat}
    (ha : firstOffered tlsSuites suites = none) : Effect (.clientHello c suites groups sigs) s fun u =>
      u.sst c = sEnd ∧ GroupCause (portGroup c) 12 u :=
  ended_cause hc (by decide) (congrArg done ((onCtx_eq hc _).trans (by rw [hello_read hst hp, ha])))

theorem secrets_written (a b : List Byte) (h : (s.ses c).hello.isSome = true) : Effect (.tlsSecretsWrite c a b) s fun
  u =>
    u.f Fl.VEH_SSTAT_TLS c = 1 ∧ (u.ses c).secrets = some (a, b) ∧ (u.ses c).rxCount = 0 ∧ (u.ses c).txCount = 0 := by
  have he : tlsSecrets c a b s = (s.setB Fl.VEH_SSTAT_TLS c true).setSes c fun x =>
      { x with secrets := some (a, b), rxCount := 0, txCount := 0 } := if_pos h
  refine effect_done (congrArg done ((onCtx_eq hc _).trans he)) ?_
  rw [ses_setSes hc]
  exact ⟨fieldOf_setB_same s Fl.VEH_SSTAT_TLS c true hc (by decide) (by decide), rfl, rfl, rfl⟩

/-! ### Requests of the vehicle -/

theorem request_released : Effect (.receiveRelease c) s (fun u => match (s.ses c).held with
    | none => u.f Fl.VEH_RXLEN_LEN c = 0
    | some p => u.f Fl.VEH_RXLEN_LEN c = p.length % 2 ^ 14 ∧ (u.ses c).held = none ∧ (u.ses c).lastRequest = p) := by
  have he : exec (.receiveRelease c) s = done (receiveRelease c s) := congrArg done (onCtx_eq hc _)
  refine effect_done he ?_
  unfold receiveRelease
  extract_lets s1
  rw [show s1.ses c = s.ses c from ses_of_veh (State.setF_veh ..) c]
  cases (s.ses c).held with
  | none => exact fieldOf_setF_fits s Fl.VEH_RXLEN_LEN c 0 hc (by decide) (by decide)
  | some p =>
    refine ⟨placeRequest_length hc p _, ?_, ?_⟩
    · rw [placeRequest_ses hc, ses_setSes hc]
    · rw [placeRequest_ses hc]

omit hc in
theorem mid_not_setup (h : s.midSession c = true) : (s.sst c == sSetup) = false :=
  beq_eq_false_iff_ne.mpr fun e => by
    have := (mid_bounds h).1
    rw [e] at this
    exact absurd this (by decide)

theorem stopped_cause {i : Instr} {j : Nat} (hj : j < 29) {w : State} (he : exec i s = done (stopWith j c w))
    (hm : w.midSession c = true) : Effect i s fun u => u.sst c = sStopping ∧ GroupCause (portGroup c) j u := by
  rw [stopWith_mid hm] at he
  have h := toStopping_stops hc hj w
  exact effect_done he ⟨h.at_, h.noted.cause⟩

theorem bad_record_stops (hcon : s.connected c = true) {m : V2gFrame} (hm : s.midSession c = true)
    (ht : s.f Fl.VEH_SSTAT_TLS c = 1) (hr : m.recordOk = false) : Effect (.v2gtpFrame c m) s fun u =>
      u.sst c = sStopping ∧ GroupCause (portGroup c) 12 u := by
  refine stopped_cause hc (by decide) (congrArg done ?_) hm
  unfold v2gFrame
  rw [hcon, b_true ht, hr, mid_not_setup hm]
  rfl

/-- The header of a frame is as a V2GTP header must be. -/
def headerBad (m : V2gFrame) : Bool :=
  m.version != 1 || m.inverse != 0xFE || m.length != m.payload.length || decide (8192 < m.payload.length)

omit hc in
theorem frame_read (hcon : s.connected c = true) {m : V2gFrame} (hr : m.recordOk = true) : v2gFrame c m s =
    if headerBad m then s.satF Fl.VEH_LOOPCNT_BADFRAME c 1
    else if m.loop then s.setSes c fun x => { x with rxCount := x.rxCount + 1 }
    else programRequest c m.payload (s.setSes c fun x => { x with rxCount := x.rxCount + 1 }) := by
  have htls : (s.b Fl.VEH_SSTAT_TLS c && !m.recordOk) = false := by
    rw [hr]
    exact Bool.and_false _
  unfold v2gFrame
  rw [hcon, htls]
  rfl

theorem bad_header_counts (hcon : s.connected c = true) {m : V2gFrame} (hr : m.recordOk = true)
    (hb : m.version ≠ 1 ∨ m.inverse ≠ 0xFE ∨ m.length ≠ m.payload.length) : Effect (.v2gtpFrame c m) s fun u =>
      u.f Fl.VEH_LOOPCNT_BADFRAME c = min 65535 (s.f Fl.VEH_LOOPCNT_BADFRAME c + 1) := by
  have hbad : headerBad m = true := by
    unfold headerBad
    simp only [Bool.or_eq_true, bne_iff_ne, decide_eq_true_eq]
    tauto
  refine effect_done (congrArg done ((frame_read hcon hr).trans (if_pos hbad))) ?_
  exact fieldOf_satF_same s Fl.VEH_LOOPCNT_BADFRAME c 1 hc (by decide)

theorem frame_placed (hcon : s.connected c = true) {m : V2gFrame} (hr : m.recordOk = true) (hv : m.version = 1)
    (hi : m.inverse = 0xFE) (hl : m.length = m.payload.length) (hn : m.payload.length ≤ 8192) (hloop : m.loop = false)
    (hrx : s.f Fl.VEH_RXLEN_LEN c = 0) : Effect (.v2gtpFrame c m) s fun u =>
      u.f Fl.VEH_RXLEN_LEN c = m.payload.length ∧ (u.ses c).outstanding = true ∧
        (u.ses c).lastRequest = m.payload := by
  have hgood : headerBad m = false := by
    unfold headerBad
    rw [hv, hi, hl, decide_eq_false (by omega)]
    simp
  have he : v2gFrame c m s = placeRequest c m.payload (s.setSes c fun x => { x with rxCount := x.rxCount + 1 }) := by
    rw [frame_read hcon hr, hgood, hloop]
    exact if_pos (beq_iff_eq.mpr hrx)
  refine effect_done (congrArg done he) ⟨?_, ?_, ?_⟩
  · exact (placeRequest_length hc m.payload _).trans (Nat.mod_eq_of_lt (by omega))
  · rw [placeRequest_ses hc]
  · rw [placeRequest_ses hc]

end Setup

end Sys2Proof.Machine

/-! ## Messages of a session: responses, the loop responder, deltas and standby front-ends, and the obligation -/

namespace Sys2Proof.Machine

set_option Elab.async false

section Connected

variable {c : Nat} {s : State}

/-! ### Responses of the program (R285) -/

/-- The response of the program sent. -/
def responseSent (c n : Nat) (s : State) : State :=
  sendVehicle c (.bytes (s.bytes (s.f Fl.VEH_TXADDR_ADDR c) n))
    ((s.setF Fl.VEH_TXLEN_LEN c n).setSes c fun x => { x with outstanding := false })

theorem responseSend_eq (hcon : s.connected c = true) {n : Nat} (h1 : 1 ≤ n) (hn : n ≤ 8192) (ho : (s.ses
  c).outstanding = true) :
    responseSend c n s = if (responseSent c n s).sst c == sSetup && (responseSent c n s).f Fl.VEH_SSTAT_PROTOSEL c !=
      0 &&
        ((responseSent c n s).f Fl.VEH_SSTAT_PROTOSEL c != 3 || (responseSent c n s).b Fl.VEH_SSTAT_TLS c) then
      toSession c sAuth (responseSent c n s) else responseSent c n s := by
  have hgo : (!s.connected c || n == 0 || decide (8192 < n) || !(s.ses c).outstanding) = false := by
    rw [hcon, ho, beq_eq_false_iff_ne.mpr (by omega : n ≠ 0), decide_eq_false (by omega : ¬8192 < n)]
    rfl
  unfold responseSend
  rw [hgo, if_neg Bool.false_ne_true]
  rfl

theorem responseSent_ses (hc : c < 48) (n : Nat) : (responseSent c n s).ses c = sentFrame (s.onRing && c < 24)
    (.bytes (s.bytes (s.f Fl.VEH_TXADDR_ADDR c) n)) { s.ses c with outstanding := false } := by
  have hring : ∀ f : Session → Session, ((s.setF Fl.VEH_TXLEN_LEN c n).setSes c f).onRing = s.onRing := fun f =>
    congrArg₂ (fun a b => decide (1 < a) && !(b != 0))
      (fieldOf_setF_apart s Fl.VEH_TXLEN_LEN Fl.RNG_VIEWST_NMEM c 0 n (by decide))
      (fieldOf_setF_apart s Fl.VEH_TXLEN_LEN Fl.RNG_STAT_NOBUDDY c 0 n (by decide))
  unfold responseSent
  rw [sendVehicle_ses hc, hring, ses_setSes hc, ses_of_veh (State.setF_veh ..)]

theorem responseSent_status (n : Nat) {fl : Fld} (h : Fl.VEH_TXLEN_LEN.apart fl = true) (i : Nat) :
    fieldOf (responseSent c n s).regs fl i = fieldOf s.regs fl i := by
  unfold responseSent
  rw [sendVehicle_regs, setSes_regs]
  exact fieldOf_setF_apart s Fl.VEH_TXLEN_LEN fl c i n h

/-- Moving to a state changes of the session only whether it has charged. -/
theorem toSession_ses (hc : c < 48) (st : Nat) (w : State) :
    ∃ b, (toSession c st w).ses c = { w.ses c with charged := b } := by
  refine ⟨st == sCharge || ((w.ses c).charged && st != sEnd && st != sIdle && st != sPlugged), ?_⟩
  rw [toSession_eq, ses_of_veh (sesCause_veh ..), sessionAt, ses_setSes hc, ses_of_veh (State.setF_veh ..)]

/-- A response has gone out: nothing is outstanding, and it is the last one. -/
structure Responded (r : VehFrame) (x : Session) : Prop where
  outstanding : x.outstanding = false
  last : x.lastResponse = some r

theorem responseSent_responded (hc : c < 48) (n : Nat) :
    Responded (.bytes (s.bytes (s.f Fl.VEH_TXADDR_ADDR c) n)) ((responseSent c n s).ses c) := by
  rw [responseSent_ses hc]
  exact ⟨sentFrame_outstanding .., sentFrame_last ..⟩

theorem responseSent_wire (hc : c < 48) (n : Nat) (hr : s.onRing = false) :
    ((responseSent c n s).ses c).wire = ((responseSent c n s).ses c).lastResponse := by
  rw [responseSent_ses hc, hr]
  rfl

theorem response_sent (hc : c < 48) (hcon : s.connected c = true) {n : Nat} (h1 : 1 ≤ n) (hn : n ≤ 8192) (ho : (s.ses
  c).outstanding = true) :
    Effect (.responseSend c n) s fun u => (u.ses c).outstanding = false ∧
      (u.ses c).lastResponse = some (.bytes (s.bytes (s.f Fl.VEH_TXADDR_ADDR c) n)) ∧
        (s.onRing = false → (u.ses c).wire = (u.ses c).lastResponse) := by
  have hr := responseSent_responded hc n (s := s)
  have hw := responseSent_wire hc n (s := s)
  obtain ⟨b, hb⟩ := toSession_ses hc sAuth (responseSent c n s)
  refine effect_done (u := responseSend c n s) rfl ?_
  rw [responseSend_eq hcon h1 hn ho]
  split
  · rw [hb]
    exact ⟨hr.outstanding, hr.last, hw⟩
  · exact ⟨hr.outstanding, hr.last, hw⟩

theorem response_to_auth (hc : c < 48) (hcon : s.connected c = true) {n : Nat} (h1 : 1 ≤ n) (hn : n ≤ 8192) (ho :
  (s.ses c).outstanding = true)
    (hst : s.sst c = sSetup) (hp : s.f Fl.VEH_SSTAT_PROTOSEL c = 1 ∨ s.f Fl.VEH_SSTAT_PROTOSEL c = 2 ∨
      s.f Fl.VEH_SSTAT_TLS c = 1 ∧ s.f Fl.VEH_SSTAT_PROTOSEL c = 3) :
    Effect (.responseSend c n) s fun u => u.sst c = sAuth := by
  have hst' : (responseSent c n s).sst c = sSetup :=
    (responseSent_status n (fl := Fl.VEH_SSTAT_STATE) (by decide) c).trans hst
  have hp' : (responseSent c n s).f Fl.VEH_SSTAT_PROTOSEL c = s.f Fl.VEH_SSTAT_PROTOSEL c :=
    responseSent_status n (fl := Fl.VEH_SSTAT_PROTOSEL) (by decide) c
  have ht' : (responseSent c n s).b Fl.VEH_SSTAT_TLS c = s.b Fl.VEH_SSTAT_TLS c :=
    b_of_field (responseSent_status n (fl := Fl.VEH_SSTAT_TLS) (by decide) c)
  have he : responseSend c n s = toSession c sAuth (responseSent c n s) := by
    rw [responseSend_eq hcon h1 hn ho, hst', hp', ht']
    refine if_pos ?_
    rcases hp with hp | hp | ⟨ht, hp⟩
    · rw [hp]
      rfl
    · rw [hp]
      rfl
    · rw [hp, b_true ht]
      rfl
  exact effect_done (congrArg done he) (toSession_at hc (by decide) _)

/-! ### The loop responder (R286 to R288) -/

/-- The cable check of context `c` is done. -/
@[reducible] def CheckDone (c : Nat) (s : State) : Prop :=
  s.sst c = sCableCheck ∧ s.gst (portGroup c) = gCheck ∧ s.f Fl.SFY_PSTAT_ISO c = 1

theorem checkDone_iff [Decidable (CheckDone c s)] :
    (s.sst c == sCableCheck && s.gst (portGroup c) == gCheck && s.f Fl.SFY_PSTAT_ISO c == 1) = decide (CheckDone c s)
      := by
  rw [Bool.eq_iff_iff, Bool.and_eq_true, Bool.and_eq_true, beq_iff_eq, beq_iff_eq, beq_iff_eq, decide_eq_true_eq,
    and_assoc]

theorem cable_check_answered (hc : c < 48) (hcon : s.connected c = true) [Decidable (CheckDone c s)] : Effect
  (.cableCheckReq c) s fun u =>
    (u.ses c).checked = ((s.ses c).checked || decide (CheckDone c s)) ∧
      ∃ a, (u.ses c).lastResponse = some (.loop a) ∧ a.finished = decide (CheckDone c s) := by
  have he : cableCheckReq c s = answerLoop c (decide (CheckDone c s))
      (s.setSes c fun x => { x with checked := x.checked || decide (CheckDone c s) }) := by
    rw [← checkDone_iff]
    unfold cableCheckReq
    rw [hcon]
    rfl
  obtain ⟨held, a, ha, hses⟩ := answerLoop_ses hc (decide (CheckDone c s))
    (s.setSes c fun x => { x with checked := x.checked || decide (CheckDone c s) })
  refine effect_done (congrArg done he) ?_
  rw [hses, ses_setSes hc]
  exact ⟨sentFrame_checked .., a, sentFrame_last .., ha⟩

/-- What a precharge request does before it is answered: the target shown, PRECHARGE begun after the check. -/
def preChargeTaken (c : Nat) (v : Word) (s : State) : State :=
  let s := s.setReg R.VEH_EVV c v
  if s.sst c == sCableCheck && (s.ses c).checked then
    portCmd 2 0 c (setVset (portGroup c) v (toSession c sPrecharge s))
  else if s.sst c == sPrecharge then setVset (portGroup c) v s else s

theorem preChargeReq_eq (hcon : s.connected c = true) (v : Word) : preChargeReq c v s = answerLoop c false
  (preChargeTaken c v s) := by
  unfold preChargeReq
  rw [hcon]
  rfl

theorem preChargeTaken_target (hc : c < 48) (v : Word) : regOf (preChargeTaken c v s).regs R.VEH_EVV c = v := by
  unfold preChargeTaken
  extract_lets s1
  have h1 : regOf s1.regs R.VEH_EVV c = v := regOf_setReg_same s R.VEH_EVV c v hc
  clear_value s1
  split
  · exact (portCmd_reg (by decide) 2 0 c c _).trans ((setVset_reg (by decide) _ c v _).trans
      ((toSession_reg (by decide) c sPrecharge c s1).trans h1))
  · split
    · exact (setVset_reg (by decide) _ c v s1).trans h1
    · exact h1

theorem preChargeTaken_begins (hc : c < 48) (v : Word) (hst : s.sst c = sCableCheck) (hk : (s.ses c).checked = true) :
    (preChargeTaken c v s).sst c = sPrecharge := by
  unfold preChargeTaken
  extract_lets s1
  have hs : s1.sst c = sCableCheck :=
    (fieldOf_setReg_apart s R.VEH_EVV Fl.VEH_SSTAT_STATE c c v (by decide)).trans hst
  have hx : s1.ses c = s.ses c := ses_of_veh (State.setReg_veh ..) c
  clear_value s1
  rw [hs, hx, hk, if_pos (show (sCableCheck == sCableCheck && true) = true from rfl)]
  exact (portCmd_status 2 0 c c (fl := Fl.VEH_SSTAT_STATE) rfl _).trans
    ((setVset_status _ v _).trans (toSession_at hc (by decide) s1))

theorem precharge_answered (hc : c < 48) (hcon : s.connected c = true) (v : Word) : Effect (.preChargeReq c v) s fun u
  => u.reg R.VEH_EVV c = v ∧
    (s.sst c = sCableCheck → (s.ses c).checked = true → u.sst c = sPrecharge) := by
  refine effect_done (congrArg done (preChargeReq_eq hcon v)) ⟨?_, fun hst hk => ?_⟩
  · exact (answerLoop_reg (by decide) c c false _).trans (preChargeTaken_target hc v)
  · exact (answerLoop_field (fl := Fl.VEH_SSTAT_STATE) (by decide) c c false _).trans (preChargeTaken_begins hc v hst
      hk)

/-- The targets of a charge loop, shown. -/
def targetsShown (c : Nat) (ti tv : Word) (soc : Nat) (s : State) : State :=
  (((s.setReg R.VEH_EVI c ti).setReg R.VEH_EVV c tv).setF Fl.VEH_EVSOC_SOC c (min soc 255)).setB Fl.VEH_SSTAT_BPTACT c
    (decide (s.reqOf c ti.toInt < 0))

/-- What a charge loop forwards: its targets, the request to allocation, the set voltage. -/
def loopTaken (c : Nat) (ti tv : Word) (soc : Nat) (s : State) : State :=
  setVset (portGroup c) tv (reqWrite c (BitVec.ofInt 32 (s.reqOf c ti.toInt)) (targetsShown c ti tv soc s))

theorem chargeLoop_eq (hcon : s.connected c = true) (ti tv : Word) (soc : Nat) (bad : Bool) (h : s.sst c = sCharge) :
  chargeLoop c ti tv soc bad s =
    if bad then stopWith 10 c (answerLoop c false (loopTaken c ti tv soc s))
    else answerLoop c false (loopTaken c ti tv soc s) := by
  unfold chargeLoop
  rw [hcon, h]
  rfl

/-- Registers that the request to allocation writes. -/
def reqRegs : List Rg := [R.ALC_PREQ, R.ALC_PSTAT]

theorem reqWrite_reg {r : Rg} (h : (!regsIn reqRegs r.addr && decide (r.count ≤ 65536)) = true) (p i : Nat) (v : Word)
    (w : State) : regOf (reqWrite p v w).regs r i = regOf w.regs r i :=
  regOf_of_without (reqWrite_writes (P := { regs := regsIn reqRegs }) (by decide) (by decide) p v w) i h

theorem reqWrite_request (hc : c < 48) (v : Word) (w : State) : regOf (reqWrite c v w).regs R.ALC_PREQ c = v :=
  (regOf_setF_apart _ Fl.ALC_PSTAT_STALE R.ALC_PREQ c c _ (by decide)).trans (regOf_setReg_same w R.ALC_PREQ c v hc)

theorem loopTaken_reg {r : Rg} (h : (!regsIn vsetRegs r.addr && decide (r.count ≤ 65536)) = true)
    (hq : (!regsIn reqRegs r.addr && decide (r.count ≤ 65536)) = true) (ti tv : Word) (soc i : Nat) :
    regOf (loopTaken c ti tv soc s).regs r i = regOf (targetsShown c ti tv soc s).regs r i :=
  (setVset_reg h _ i tv _).trans (reqWrite_reg hq c i _ _)

theorem targetsShown_targets (hc : c < 48) (ti tv : Word) (soc : Nat) : regOf (targetsShown c ti tv soc s).regs
  R.VEH_EVI c = ti ∧
    regOf (targetsShown c ti tv soc s).regs R.VEH_EVV c = tv := by
  unfold targetsShown
  generalize decide (s.reqOf c ti.toInt < 0) = b
  refine ⟨(regOf_setF_apart _ Fl.VEH_SSTAT_BPTACT R.VEH_EVI c c _ (by decide)).trans
    ((regOf_setF_apart _ Fl.VEH_EVSOC_SOC R.VEH_EVI c c _ (by decide)).trans
      ((regOf_setReg_apart _ R.VEH_EVV R.VEH_EVI c c tv (by decide)).trans (regOf_setReg_same s R.VEH_EVI c ti hc))),
    (regOf_setF_apart _ Fl.VEH_SSTAT_BPTACT R.VEH_EVV c c _ (by decide)).trans
      ((regOf_setF_apart _ Fl.VEH_EVSOC_SOC R.VEH_EVV c c _ (by decide)).trans (regOf_setReg_same _ R.VEH_EVV c tv hc))⟩

theorem loopTaken_state (ti tv : Word) (soc : Nat) : (loopTaken c ti tv soc s).sst c = s.sst c := by
  have h1 : fieldOf (targetsShown c ti tv soc s).regs Fl.VEH_SSTAT_STATE c = fieldOf s.regs Fl.VEH_SSTAT_STATE c := by
    unfold targetsShown
    generalize decide (s.reqOf c ti.toInt < 0) = b
    exact (fieldOf_setB_apart _ Fl.VEH_SSTAT_BPTACT Fl.VEH_SSTAT_STATE c c b (by decide)).trans
      ((fieldOf_setF_apart _ Fl.VEH_EVSOC_SOC Fl.VEH_SSTAT_STATE c c _ (by decide)).trans
        ((fieldOf_setReg_apart _ R.VEH_EVV Fl.VEH_SSTAT_STATE c c tv (by decide)).trans
          (fieldOf_setReg_apart s R.VEH_EVI Fl.VEH_SSTAT_STATE c c ti (by decide))))
  exact (congrArg (bitsOf · 0 4) (loopTaken_reg (r := R.VEH_SSTAT) (by decide) (by decide) ti tv soc c)).trans h1

/-- A charge loop is taken: its targets shown, a positive current asked of allocation. -/
structure LoopTaken (c : Nat) (ti tv : Word) (s u : State) : Prop where
  current : u.reg R.VEH_EVI c = ti
  voltage : u.reg R.VEH_EVV c = tv
  request : 0 ≤ ti.toInt → u.reg R.ALC_PREQ c = BitVec.ofInt 32 (min ti.toInt (s.f Fl.VEH_LIMI_LIMI c))

theorem loopTaken_taken (hc : c < 48) (ti tv : Word) (soc : Nat) : LoopTaken c ti tv s (loopTaken c ti tv soc s) := by
  obtain ⟨hi, hv⟩ := targetsShown_targets hc ti tv soc (s := s)
  refine ⟨(loopTaken_reg (by decide) (by decide) ti tv soc c).trans hi,
    (loopTaken_reg (by decide) (by decide) ti tv soc c).trans hv, fun h => ?_⟩
  have hq : s.reqOf c ti.toInt = min ti.toInt (s.f Fl.VEH_LIMI_LIMI c) := if_neg (by omega)
  rw [← hq]
  exact (setVset_reg (r := R.ALC_PREQ) (by decide) _ c tv _).trans (reqWrite_request hc _ _)

theorem LoopTaken.answered {ti tv : Word} {w : State} (h : LoopTaken c ti tv s w) :
    LoopTaken c ti tv s (answerLoop c false w) where
  current := (answerLoop_reg (by decide) c c false w).trans h.current
  voltage := (answerLoop_reg (by decide) c c false w).trans h.voltage
  request := fun hi => (answerLoop_reg (by decide) c c false w).trans (h.request hi)

theorem loop_answered (hc : c < 48) (hcon : s.connected c = true) {i : Instr} {ti tv : Word} {soc : Nat} (hi : exec i
  s = done (chargeLoop c ti tv soc false s))
    (h : s.sst c = sCharge) : Effect i s fun u => u.reg R.VEH_EVI c = ti ∧ u.reg R.VEH_EVV c = tv ∧
      (0 ≤ ti.toInt → u.reg R.ALC_PREQ c = BitVec.ofInt 32 (min ti.toInt (s.f Fl.VEH_LIMI_LIMI c))) := by
  rw [chargeLoop_eq hcon ti tv soc false h] at hi
  obtain ⟨hti, htv, hreq⟩ := (loopTaken_taken hc ti tv soc (s := s)).answered
  exact effect_done hi ⟨hti, htv, hreq⟩

theorem loop_error_stops (hc : c < 48) (hcon : s.connected c = true) {i : Instr} {ti tv : Word} {soc : Nat} (hi : exec
  i s = done (chargeLoop c ti tv soc true s))
    (h : s.sst c = sCharge) : Effect i s fun u => u.sst c = sStopping ∧ GroupCause (portGroup c) 10 u := by
  rw [chargeLoop_eq hcon ti tv soc true h] at hi
  have hst : (answerLoop c false (loopTaken c ti tv soc s)).sst c = sCharge :=
    (answerLoop_field (fl := Fl.VEH_SSTAT_STATE) (by decide) c c false _).trans ((loopTaken_state ti tv soc).trans h)
  generalize answerLoop c false (loopTaken c ti tv soc s) = w at hi hst
  exact stopped_cause hc (by decide) hi (by unfold State.midSession; rw [hst]; rfl)

/-! ### PowerDelivery -/

/-- The kind of the request recorded, and the request given to the program. -/
def deliveryNoted (c : Nat) (k : PowerDelivery) (p : List Byte) (s : State) : State :=
  programRequest c p (s.setSes c fun x => { x with delivery := some k })

theorem powerDelivery_eq (hcon : s.connected c = true) (k : PowerDelivery) (p : List Byte) : powerDelivery c k p s =
    if k == .stop then stopWith 10 c (deliveryNoted c k p s) else deliveryNoted c k p s := by
  unfold powerDelivery
  rw [hcon]
  rfl

theorem deliveryNoted_state (k : PowerDelivery) (p : List Byte) : (deliveryNoted c k p s).sst c = s.sst c :=
  programRequest_field (fl := Fl.VEH_SSTAT_STATE) (by decide) c c p _

theorem delivery_recorded (hc : c < 48) (hcon : s.connected c = true) {k : PowerDelivery} (hk : k ≠ .stop) (p : List
  Byte) : Effect (.powerDeliveryReq c k p) s
  fun u =>
    (u.ses c).delivery = some k ∧ u.sst c = s.sst c := by
  have he : powerDelivery c k p s = deliveryNoted c k p s :=
    (powerDelivery_eq hcon k p).trans (if_neg fun e => hk (beq_iff_eq.mp e))
  refine effect_done (congrArg done he) ⟨?_, deliveryNoted_state k p⟩
  unfold deliveryNoted
  rw [programRequest_delivery hc, ses_setSes hc]

theorem delivery_stops (hc : c < 48) (hcon : s.connected c = true) (p : List Byte) (hm : s.midSession c = true) :
  Effect (.powerDeliveryReq c .stop p) s fun u =>
    u.sst c = sStopping ∧ GroupCause (portGroup c) 10 u := by
  have he : powerDelivery c .stop p s = stopWith 10 c (deliveryNoted c .stop p s) :=
    (powerDelivery_eq hcon .stop p).trans (if_pos rfl)
  refine stopped_cause hc (by decide) (congrArg done he) ?_
  unfold State.midSession
  rw [deliveryNoted_state]
  exact hm

end Connected

/-! ### Held frames (R292) -/

theorem frame_released {c : Nat} (hc : c < 48) {s : State} {m : VehFrame} (h : (s.ses c).heldFrame = some m)
    (acked : Bool) : ((releaseFrame c acked s).ses c).wire = some m ∧
      ((releaseFrame c acked s).ses c).heldFrame = none ∧
        (releaseFrame c acked s).f Fl.VEH_SSTAT_UNCONF c = b2n (!acked) := by
  have he : releaseFrame c acked s = (s.setB Fl.VEH_SSTAT_UNCONF c (!acked)).setSes c fun x =>
      { x with heldFrame := none, wire := some m } := by
    unfold releaseFrame
    rw [h]
  rw [he, ses_setSes hc]
  exact ⟨rfl, rfl, fieldOf_setB_same s Fl.VEH_SSTAT_UNCONF c (!acked) hc (by decide) (by decide)⟩

theorem delta_confirms {c : Nat} (hc : c < 48) {s : State} {m : VehFrame} (h : (s.ses c).heldFrame = some m) :
    Effect (.deltaAck c) s fun u => (u.ses c).wire = some m ∧ (u.ses c).heldFrame = none ∧
      u.f Fl.VEH_SSTAT_UNCONF c = 0 :=
  effect_done (u := releaseFrame c true s) (congrArg done (onCtx_eq hc _)) (frame_released hc h true)

theorem delta_times_out {c : Nat} (hc : c < 48) {s : State} {m : VehFrame} (h : (s.ses c).heldFrame = some m) :
    Effect (.deltaReleaseTimeout c) s fun u => (u.ses c).wire = some m ∧ (u.ses c).heldFrame = none ∧
      u.f Fl.VEH_SSTAT_UNCONF c = 1 :=
  effect_done (u := releaseFrame c false s) (congrArg done (onCtx_eq hc _)) (frame_released hc h false)

/-! ### Standby front-ends (R293 to R296) -/

theorem standby_notes {c f : Nat} (hc : c < 48) (hf : f < 24) {s : State} (hm : s.feMode f = 2)
    (hctx : s.f Fl.VEH_FE_CTX f = c) (n : Nat) : Effect (.standbyFrameObserved f (.request c n)) s fun u =>
      (u.ses c).seen = some n ∧ (u.ses c).answered = false := by
  have he : standbyObserved f (.request c n) s = s.setSes c fun x => { x with seen := some n, answered := false } := by
    subst hctx
    have hgo : (decide (24 ≤ f) || s.feMode f != 2) = false := by
      rw [decide_eq_false (by omega : ¬24 ≤ f), hm]
      rfl
    unfold standbyObserved
    rw [hgo, if_neg Bool.false_ne_true]
    exact if_pos (beq_self_eq_true _)
  refine effect_done (congrArg done he) ?_
  rw [ses_setSes hc]
  exact ⟨rfl, rfl⟩

/-- The front-end drives the pilot. -/
def driven (f : Nat) (s : State) : State := s.setFe f fun x => { x with driving := true }

/-- What a taking-over front-end sends: the last response again, or the last request to the program. -/
def takenOver (c : Nat) (s : State) : State :=
  if (s.ses c).answered then s
  else match (s.ses c).lastResponse with
    | some m => s.setSes c fun x => { x with wire := some m, answered := true }
    | none => programRequest c (s.ses c).lastRequest s

theorem takenOver_fe (c f : Nat) (s : State) : (takenOver c s).fe f = s.fe f := by
  unfold takenOver
  split
  · rfl
  · split
    · rfl
    · exact programRequest_fe ..

theorem takenOver_wire {c : Nat} (hc : c < 48) {s : State} {m : VehFrame} (ha : (s.ses c).answered = false)
    (hl : (s.ses c).lastResponse = some m) : ((takenOver c s).ses c).wire = some m := by
  unfold takenOver
  rw [ha, if_neg Bool.false_ne_true, hl]
  dsimp only
  rw [ses_setSes hc]

theorem standby_takes {c f : Nat} (hc : c < 48) (hf : f < 24) {s : State} (hm : s.feMode f = 2)
    (hctx : s.f Fl.VEH_FE_CTX f = c) (hg : 24 ≤ c) (hst : s.sst c ≠ sIdle) (hgu : s.f Fl.RNG_STAT_GUEST = 1)
    (hp : s.f Fl.VEH_FE_NOPLC f = 0) : Effect (.standbyTakeover f) s fun u => (u.fe f).driving = true ∧
      ∀ m, (s.ses c).answered = false → (s.ses c).lastResponse = some m → (u.ses c).wire = some m := by
  have he : standbyTakeover f s = takenOver c (driven f s) := by
    subst hctx
    unfold standbyTakeover
    extract_lets c
    have hgo : (decide (24 ≤ f) || s.feMode f != 2 || decide (c < 24) || decide (48 ≤ c) || s.sst c == sIdle ||
        !s.b Fl.RNG_STAT_GUEST) = false := by
      rw [decide_eq_false (by omega : ¬24 ≤ f), hm, decide_eq_false (by omega : ¬c < 24),
        decide_eq_false (by omega : ¬48 ≤ c), beq_eq_false_iff_ne.mpr hst, b_true hgu]
      rfl
    rw [hgo, if_neg Bool.false_ne_true, b_false hp, if_neg Bool.false_ne_true]
    rfl
  have hfe : ((driven f s).fe f).driving = true := by
    unfold driven
    rw [fe_setFe hf]
  have hses : (driven f s).ses c = s.ses c := rfl
  generalize driven f s = w at he hfe hses
  refine effect_done (congrArg done he) ⟨?_, fun m ha hl => ?_⟩
  · rw [takenOver_fe]
    exact hfe
  · exact takenOver_wire hc (by rw [hses]; exact ha) (by rw [hses]; exact hl)

theorem feOf_lt {s : State} {c f : Nat} (h : s.feOf c = some f) : f < 24 :=
  List.mem_range.mp (List.mem_of_find?_eq_some h)

theorem session_handed {c f : Nat} (hc : c < 24) {s : State} (hst : s.sst c ≠ sIdle) (ho : (s.ses c).outstanding =
  false)
    (hh : (s.ses c).heldFrame = none) (hu : s.f Fl.VEH_SSTAT_UNCONF c = 0) (hf : s.feOf c = some f) :
    Effect (.sessionHandover c) s fun u => u.sst c = sIdle ∧ (u.fe f).released = true ∧ (u.ses c).active = false := by
  have he : sessionHandover c s = ((s.setFe f fun x => { x with released := true }).setF Fl.VEH_SSTAT_STATE c
    sIdle).setSes c
      fun x => { x with active := false } := by
    have hgo : (decide (24 ≤ c) || s.sst c == sIdle || (s.ses c).outstanding || (s.ses c).heldFrame.isSome ||
        s.b Fl.VEH_SSTAT_UNCONF c) = false := by
      rw [decide_eq_false (by omega : ¬24 ≤ c), beq_eq_false_iff_ne.mpr hst, ho, hh, b_false hu]
      rfl
    unfold sessionHandover
    extract_lets x
    rw [hgo, if_neg Bool.false_ne_true, hf]
  have hc48 : c < 48 := by omega
  refine effect_done (congrArg done he) ⟨?_, ?_, ?_⟩
  · exact fieldOf_setF_fits _ Fl.VEH_SSTAT_STATE c sIdle hc48 (by decide) (by decide)
  · rw [setSes_fe, fe_of_veh (State.setF_veh ..), fe_setFe (feOf_lt hf)]
  · rw [ses_setSes hc48]

/-! ### The obligation -/

/-- Settles O31, by one lemma per message. -/
theorem sessionMessages : Obligations.SessionMessages := by
  unfold Obligations.SessionMessages
  intro c s hc
  refine ⟨fun f hf ht hm hp => ⟨attenuation_noted ⟨hf, ht, hm, hp⟩, fun run a hctx hst hr ha hs =>
      match_granted hc ⟨hf, ht, hm, hp⟩ hctx hst hr ha hs⟩,
    fun f h => ⟨discovered hc h, tcp_connects hc h, t1s_links hc h⟩,
    fun hst => ⟨fun offers k => protocol_chosen hc hst, fun offers => protocol_missing hc hst,
      fun hp suites groups sigs => ⟨fun a b d => hello_accepted hc hst hp, hello_refused hc hst hp⟩⟩,
    secrets_written hc, request_released hc,
    fun hcon => ⟨fun m => bad_record_stops hc hcon, fun m => bad_header_counts hc hcon, fun m => frame_placed hc hcon,
      fun n h1 hn ho => ⟨response_sent hc hcon h1 hn ho, response_to_auth hc hcon h1 hn ho⟩,
      ?_, precharge_answered hc hcon,
      fun ti tv n h => ⟨loop_answered hc hcon (soc := n) rfl h, loop_answered hc hcon (soc := n) rfl h,
        loop_error_stops hc hcon (soc := n) rfl h, loop_error_stops hc hcon (soc := n) rfl h⟩,
      fun k p hk => delivery_recorded hc hcon hk p, delivery_stops hc hcon⟩,
    fun m h => ⟨delta_confirms hc h, delta_times_out hc h⟩,
    fun f hf hm hctx => ⟨standby_notes hc hf hm hctx, standby_takes hc hf hm hctx⟩,
    fun f hc24 hst ho hh hu => session_handed hc24 hst ho hh hu⟩
  exact cable_check_answered hc hcon

end Sys2Proof.Machine
